-- ==== Sys2Proof/Word.lean ====
section
/-!
DEFINITION. The words the spec treats as bits.
-/

namespace Sys2Proof

/-- A byte of a store. -/
abbrev Byte := BitVec 8

/-- A 32-bit register word (R5). -/
abbrev Word := BitVec 32

/-- A 64-bit word: a store word, a beat stamp, a frame. -/
abbrev DWord := BitVec 64

end Sys2Proof
end

