-- ==== Sys2Proof/Syntax.lean ====
section
/-!
DEFINITION. The commands of the device, one constructor per row of spec/opcode_table.json, and the operand types they
carry. A command is one step of the device: a register operation, an event on a pin, a clock or a lane, or a step
that a unit of the device takes by itself when its time has come.
-/

namespace Sys2Proof

/-- A store: the store of a slice, or the central store (R34). -/
inductive StoreId where
  | slice (n : Fin 16)
  | central
deriving DecidableEq, Repr

/-- Who asks a store for an access from outside its scheduled masters: DM and MG of a slice store (R41), and the
requesters of the central store (R39). -/
inductive Requester where
  | dm
  | mg
  | journal
  | dma
  | cores
  | host
deriving DecidableEq, Repr

/-- A request for one line of a store: a read, or a write of some bytes of it (offsets within the line, R37). -/
structure StoreReq where
  who : Requester
  line : Nat
  write : Option (List (Nat × Byte))
deriving DecidableEq, Repr

/-- The path a register access takes (R666, REG_WRITE). -/
inductive Path where
  | host
  | side
  | management
  | dma
deriving DecidableEq, Repr

/-- The unit whose job did not complete in its beat (R33, R635): a slice unit by its unit code, or a central unit. -/
inductive OverrunUnit where
  | slice (n : Fin 16) (unit : BitVec 7)
  | central (unit : BitVec 24)
deriving DecidableEq, Repr

/-- What a blocking instruction does when its timeout expires (R109): jump to `target`, or stop with an error. -/
structure Timeout where
  beats : BitVec 32
  target : BitVec 18
  stop : Bool
deriving DecidableEq, Repr

/-- An event word of EMIT or EMITL (R115): `long` says which of the two layouts it came in. -/
structure EventWord where
  long : Bool
  offset : BitVec 4
  unit : BitVec 7
  act : BitVec 3
  data : BitVec 26
deriving DecidableEq, Repr

/-- The instructions of the slice sequencer with their operand fields (R108, R109). -/
inductive SeqInstr where
  | nop
  | halt (code : BitVec 16)
  | jump (target : BitVec 18) (pop : BitVec 3)
  | call (target : BitVec 18)
  | ret
  | loop (count : BitVec 32) (endIndex : BitVec 18) (fromReg : Bool) (reg : BitVec 3)
  | endloop
  | wait (beats : BitVec 32)
  | waita (beat : BitVec 64)
  | waitv (sel : BitVec 16) (mask : BitVec 2) (want : BitVec 2) (tmo : Timeout)
  | sync (kind : BitVec 2) (id : BitVec 8) (tmo : Timeout)
  | idle (beats : BitVec 32) (offer : BitVec 23)
  | elastic (maxExt : BitVec 24)
  | emit (words : List EventWord)
  | emitl (words : List EventWord)
  | branch (desc : BitVec 6) (newMode : Bool) (timeout : BitVec 16) (t0 t1 t2 t3 : BitVec 18)
  | cmpr (adc : Bool) (ch : BitVec 6) (flag : BitVec 3) (lim : BitVec 4) (tmo : Timeout)
  | clrv (desc : BitVec 6)
deriving DecidableEq, Repr

/-- An input of the sequencer that keeps a copy and a new mark (R129): a local verdict or a fabric import. -/
inductive SeqInput where
  | verdict (v : Fin 1024)
  | imported (i : Fin 256)
deriving DecidableEq, Repr



/-- What a contact check reads at a pin (R229): the supply-step current in nA, the voltage of the pin's own step as a level
code, and the currents of the two neighbours in that step in nA. -/
structure PinReading where
  supply : Int
  volts : Int
  below : Int
  above : Int
deriving DecidableEq, Repr

/-- A training block as one lane carries it (R461), and whether its MARK came bit-inverted. -/
structure TrainBlock where
  lane : BitVec 1
  port : BitVec 2
  uid : BitVec 64
  id : BitVec 10
  idValid : Bool
  tstate : BitVec 2
  joining : Bool
  inverted : Bool
  check : BitVec 8
deriving DecidableEq, Repr

/-- A device of a topology: its UID, its ID and its hop count from the root (R479, R480). -/
structure TopoMember where
  uid : Nat
  id : Nat
  hops : Nat
deriving DecidableEq, Repr

/-- A link of a topology: lower device ID and its port, higher device ID and its port (R482). -/
structure TopoLink where
  devA : Nat
  portA : Nat
  devB : Nat
  portB : Nat
deriving DecidableEq, Repr

/-- A topology as the root floods it, with the commit beat it names (R480, R481). -/
structure Topology where
  members : List TopoMember
  links : List TopoLink
  commit : Nat
deriving DecidableEq, Repr

/-- A device's report to the root: its UID, HOPS, requested ID, and per port its neighbour's UID and port (R479). -/
structure DiscReport where
  uid : Nat
  hops : Nat
  req : Option Nat
  nbrs : List (Nat × Nat × Nat)
deriving DecidableEq, Repr

/-- A packet of the maintenance channel (R474, R479 to R481, R493). -/
inductive MaintMsg where
  | disc (hops : Nat)
  | report (r : DiscReport)
  | topo (t : Topology)
  | join (uid : Nat) (req : Option Nat)
deriving DecidableEq, Repr

/-- A control or bulk packet (R475). -/
structure KtlPacket where
  bulk : Bool
  dest : BitVec 10
  src : BitVec 10
  kind : BitVec 4
  ttl : BitVec 8
  down : Bool
  tag : BitVec 16
  addr : BitVec 40
  len : BitVec 11
  status : BitVec 5
  data : List Byte
deriving DecidableEq, Repr

/-- The payload of a flit: a part of a packet with its SOP and EOP marks, or a maintenance packet (R466, R474). -/
inductive KtlPayload where
  | none_
  | part (bulk sop eop : Bool) (bytes : List Byte)
  | maint (m : MaintMsg)
deriving DecidableEq, Repr

/-- A flit: the header fields of R466 that carry information, its express slots and its payload. -/
structure KtlFlit where
  payload : KtlPayload
  seq : BitVec 12
  ack : BitVec 12
  nak : Bool
  crvc : BitVec 2
  credits : BitVec 6
  slot0 : Option (BitVec 64)
  slot1 : Option (BitVec 64)
  srcDev : BitVec 10
  srcValid : Bool
  srcPort : BitVec 2
deriving DecidableEq, Repr

/-- An IP address as HST_IP4 and HST_IP6 hold it (R531): words, network byte order from bits [7:0] of word 0. -/
inductive IpAddr where
  | v4 (a : BitVec 32)
  | v6 (a : BitVec 128)
deriving DecidableEq, Repr

/-- The other end of a session: address and UDP port (R506). -/
structure Peer where
  ip : IpAddr
  port : BitVec 16
deriving DecidableEq, Repr

/-- A CTP packet (R504) and where it came from. -/
structure CtpPacket where
  peer : Peer
  ver : BitVec 4
  kind : BitVec 4
  sop : Bool
  eop : Bool
  loc : Bool
  fixed : Bool
  tag : BitVec 9
  psn : BitVec 24
  ack : BitVec 24
  nak : Bool
  limit : BitVec 32
  addr : BitVec 50
  len : BitVec 21
  status : BitVec 5
  offset : BitVec 20
  info : BitVec 32
  data : List Byte
deriving DecidableEq, Repr

/-- What a frame carries (R500, R501): a CTP datagram with the address and UDP port it is sent to, PTP traffic, a request that
the port answers by itself with the address it asks for, or anything else. -/
inductive FramePayload where
  | ctp (dest : IpAddr) (udp : BitVec 16) (packet : CtpPacket)
  | ptp
  | query (target : IpAddr)
  | other
deriving DecidableEq, Repr

/-- An Ethernet frame at a host port: destination, VLAN tag, whether its FCS holds, and the FEC codewords of its stretch of the
lane that were corrected and that could not be (R500, R501). -/
structure HostFrame where
  dest : BitVec 48
  vlan : Option (BitVec 12)
  fcsOk : Bool
  corrected : Nat
  uncorrectable : Nat
  payload : FramePayload
deriving DecidableEq, Repr

/-- A frame at the side port (R555, R559): its sampling edges, the mode taken at the fall of SIDE_CS_N, whether the previous read had
not finished by then (R563), and the address and data fields of its header and body. -/
structure SideFrame where
  edges : Nat
  mode3 : Bool
  late : Bool
  addr : BitVec 24
  data : BitVec 32
deriving DecidableEq, Repr

/-- A line energy governor (R600): of TX channel x, FF channel x or pin g of the device. -/
inductive Governor where
  | tx (x : Fin 64)
  | ff (x : Fin 128)
  | pin (g : Fin 512)
deriving DecidableEq, Repr

/-- An instance of a source: its number, its scope code (R658) and its INDEX (R635). -/
structure FaultPair where
  src : Nat
  scope : Nat
  index : Nat
deriving DecidableEq, Repr

/-- What a boot phase finds outside the model (R682 to R684): the JESD216 table of the flash (whether it offers only quad) and
whether the flash is large enough, the first line at which a march test differs, or the sections whose read-back failed. -/
inductive BootFindings where
  | none_
  | flash (table : Option Bool) (large : Bool)
  | march (bad : Option (StoreId × Nat))
  | image (bad : BitVec 17)
deriving DecidableEq, Repr

/-- The commands of the device: one constructor per row of spec/opcode_table.json. -/
inductive Instr where
  /-- PORESET_N is driven low for 1 µs or more (R714). -/
  | poresetAssert
  /-- PORESET_N rises (R682). -/
  | poresetDeassert
  /-- A rail falls below its monitor threshold (R712). -/
  | railUndervoltage (rail : Fin 10)
  /-- Every rail has been above its threshold for 1 ms (R712). -/
  | railRestored
  /-- A junction reaches 135 °C (R717). -/
  | thermalTrip
  /-- Every junction is below 115 °C (R717). -/
  | thermalRecover
  /-- Invar reports lock (R416). -/
  | invarLock
  /-- The crystal has not started within 50 ms (R416). -/
  | xtalFail
  /-- The next beat begins (R105). `overrange` names the RX channels that saw an overrange sample in the beat that ends (R283). -/
  | beatBoundary (overrange : BitVec 32)
  /-- A job was not complete by its boundary (R33). -/
  | beatOverrun (unit : OverrunUnit)
  /-- A register write reaches its register and is applied (R23). -/
  | regWrite (path : Path) (addr : BitVec 40) (v : BitVec 32)
  /-- The low word of a 64-bit pair is read (R13). -/
  | pairLowRead (addr : BitVec 40)
  /-- The low word of a 64-bit pair is written (R13). -/
  | pairLowWrite (path : Path) (addr : BitVec 40) (v : BitVec 32)
  /-- The high word of a 64-bit pair is written (R13). -/
  | pairHighWrite (path : Path) (addr : BitVec 40) (v : BitVec 32)
  /-- A counter-clear register is written (R12). -/
  | counterClear (path : Path) (addr : BitVec 40) (v : BitVec 32)
  /-- One core cycle of a store (R34): new requests of the unscheduled masters, and the 64-bit words whose cells an upset changed before it (`true`: two bits, `false`: one). -/
  | storeAccess (id : StoreId) (reqs : List StoreReq) (upsets : List (Nat × Bool))
  /-- The scrubber's turn (R38). -/
  | scrubStep (id : StoreId)
  /-- SLC_WHEEL_CTRL.START (R52). -/
  | wheelStart (n : Fin 16)
  /-- The start wheel boundary (R52). -/
  | wheelRunning (n : Fin 16)
  /-- SLC_WHEEL_CTRL.STOP (R50). -/
  | wheelStop (n : Fin 16)
  /-- The wheel boundary after a stop (R50). -/
  | wheelStopped (n : Fin 16)
  /-- SLC_WHEEL_CTRL.COMMIT (R45). -/
  | wheelCommit (n : Fin 16)
  /-- The wheel boundary of a commit (R46). -/
  | mapCopy (n : Fin 16)
  /-- A write of a store's power request (R56). -/
  | storePwrReq (id : StoreId) (req : BitVec 2)
  /-- An entry into RETAIN or OFF completes (R57). -/
  | storePwrSettled (id : StoreId)
  /-- A wake of a store completes (R58). -/
  | storeWakeDone (id : StoreId)
  /-- GLB_IMG_CTRL.GO with OP CHECK (R77). -/
  | imgCheck
  /-- GLB_IMG_CTRL.GO with OP RELOAD of a slice (R83). -/
  | imgReload (n : Fin 16)
  /-- GLB_IMG_CTRL.GO with OP FULL from a flash slot (R79). -/
  | imgFull (slot : Bool)
  /-- GLB_IMG_CTRL.ABORT (R96). -/
  | imgAbort
  /-- The checks of an image operation complete (R84). -/
  | imgCheckDone
  /-- A FULL ends (R80). `bad` names the sections whose read-back failed. -/
  | imgFullEnd (bad : BitVec 17)
  /-- The drain beat D (R86). -/
  | reloadDrain (n : Fin 16)
  /-- The drain completes (R85). -/
  | reloadIsolate (n : Fin 16)
  /-- The section's records are applied (R85). -/
  | reloadLoad (n : Fin 16)
  /-- The written items are read back (R85). `readsBack` is what the hardware compare found. -/
  | reloadVerify (n : Fin 16) (readsBack : Bool)
  /-- The wheel is set to start at R (R85). -/
  | reloadReady (n : Fin 16)
  /-- The rejoin beat R (R92). -/
  | reloadRejoin (n : Fin 16)
  /-- READY is not reached by R − 2 (R94). -/
  | reloadLate (n : Fin 16)
  /-- The sequencer of slice n issues NOP (R108). -/
  | nop (n : Fin 16)
  /-- HALT (R151). -/
  | halt (n : Fin 16) (code : BitVec 16)
  /-- JUMP (R127). -/
  | jump (n : Fin 16) (target : BitVec 18) (pop : BitVec 3)
  /-- CALL (R128). -/
  | call (n : Fin 16) (target : BitVec 18)
  /-- RET (R128). -/
  | ret (n : Fin 16)
  /-- LOOP (R125). -/
  | loop (n : Fin 16) (count : BitVec 32) (endIndex : BitVec 18) (fromReg : Bool) (reg : BitVec 3)
  /-- ENDLOOP (R126). -/
  | endloop (n : Fin 16)
  /-- WAIT (R123). -/
  | wait (n : Fin 16) (beats : BitVec 32)
  /-- The WAIT length elapses (R123). -/
  | waitExpire (n : Fin 16)
  /-- WAITA (R124). -/
  | waita (n : Fin 16) (beat : BitVec 64)
  /-- The named beat arrives (R124). -/
  | waitaReached (n : Fin 16)
  /-- WAITV (R138). -/
  | waitv (n : Fin 16) (sel : BitVec 16) (mask : BitVec 2) (want : BitVec 2) (tmo : Timeout)
  /-- A new matching verdict (R138). -/
  | waitvResolve (n : Fin 16)
  /-- The WAITV limit (R138). -/
  | waitvTimeout (n : Fin 16)
  /-- SYNC (R141, R142). -/
  | sync (n : Fin 16) (kind : BitVec 2) (id : BitVec 8) (tmo : Timeout)
  /-- The selected trigger edge (R141). -/
  | syncResolve (n : Fin 16)
  /-- The SYNC limit (R143). -/
  | syncTimeout (n : Fin 16)
  /-- IDLE (R144). `offer` has one bit per local converter 0 to 22. -/
  | idle (n : Fin 16) (beats : BitVec 32) (offer : BitVec 23)
  /-- The IDLE length elapses (R144). -/
  | idleExpire (n : Fin 16)
  /-- ELASTIC (R145). -/
  | elastic (n : Fin 16) (maxExt : BitVec 24)
  /-- The streamer becomes ready (R145). -/
  | elasticResolve (n : Fin 16)
  /-- The maximum extension (R145). -/
  | elasticExpired (n : Fin 16)
  /-- EMIT (R115). -/
  | emit (n : Fin 16) (words : List EventWord)
  /-- EMITL (R115). -/
  | emitl (n : Fin 16) (words : List EventWord)
  /-- BRANCH (R134). -/
  | branch (n : Fin 16) (desc : BitVec 6) (newMode : Bool) (timeout : BitVec 16) (t0 t1 t2 t3 : BitVec 18)
  /-- Every selected input is new (R135). -/
  | branchResolve (n : Fin 16)
  /-- The BRANCH limit (R136). -/
  | branchTimeout (n : Fin 16)
  /-- CMPR (R139). -/
  | cmpr (n : Fin 16) (adc : Bool) (ch : BitVec 6) (flag : BitVec 3) (lim : BitVec 4) (tmo : Timeout)
  /-- A matching result (R139). -/
  | cmprResolve (n : Fin 16)
  /-- The CMPR limit (R139). -/
  | cmprTimeout (n : Fin 16)
  /-- CLRV (R137). -/
  | clrv (n : Fin 16) (desc : BitVec 6)
  /-- SEQ_CTRL.RUN (R147). -/
  | seqRun (n : Fin 16)
  /-- The start beat of a RUN or STEP (R147). -/
  | seqFirstIssue (n : Fin 16)
  /-- SEQ_CTRL.HALT (R148). -/
  | seqHalt (n : Fin 16)
  /-- SEQ_CTRL.STEP (R149). -/
  | seqStep (n : Fin 16)
  /-- SEQ_CTRL.CLR_NEW (R156). -/
  | clrNew (n : Fin 16)
  /-- A write of SEQ_PC (R150). -/
  | seqPcWrite (n : Fin 16) (index : BitVec 18)
  /-- The due beat of a verdict or import on its way to slice n (R129). -/
  | verdictLatch (n : Fin 16) (input : SeqInput)
  /-- A streamer START takes effect (R169). -/
  | vecStart (n : Fin 16) (addr : BitVec 18)
  /-- A streamer BREAK takes effect (R170). -/
  | vecBreak (n : Fin 16)
  /-- A HALT event, or VEC_CTRL.HALT where `host`, takes effect (R170). -/
  | vecHalt (n : Fin 16) (host : Bool)
  /-- The next vector boundary (R165). `misses` names the pins at which the condition of the vector that starts here will not hold at its strobe (R159). -/
  | vectorBoundary (n : Fin 16) (misses : BitVec 32)
  /-- WINDOW_OPEN takes effect (R193). -/
  | windowOpen (n : Fin 16) (w : Fin 64)
  /-- WINDOW_CLOSE takes effect (R193). -/
  | windowClose (n : Fin 16) (w : Fin 64)
  /-- Pin summary verdicts reach the crossbar (R196). -/
  | pinSummaryVerdict (n : Fin 16)
  /-- A MARK event takes effect (R190). -/
  | fcMark (n : Fin 16) (data : BitVec 26)
  /-- VEC_CTRL.FC_RESET (R201). -/
  | fcReset (n : Fin 16)
  /-- A write of VEC_RING_WP (R180). -/
  | ringWpAdvance (n : Fin 16) (path : Path) (wp : BitVec 15)
  /-- A write to a timing-set register (R162). -/
  | tsetWrite (n : Fin 16) (path : Path) (addr : BitVec 40) (v : BitVec 32)
  /-- PIN_CFG.LOAD_EN is set (R213). -/
  | loadEnable (n : Fin 16) (p : Fin 32)
  /-- A measure unit's switch reaches its position (R215). -/
  | pmuSwitchDone (n : Fin 16) (p : Fin 32)
  /-- MODE or RANGE of a measure unit is written (R217). -/
  | pmuModeChange (n : Fin 16) (p : Fin 32) (mode : Bool) (range : BitVec 3)
  /-- The 10 µs of forced zero end (R217). -/
  | pmuForceResume (n : Fin 16) (p : Fin 32)
  /-- GUARD_IN rises, `ps` picoseconds into the beat (R220). -/
  | guardInRise (ps : Fin 4000)
  /-- The guard entry beat (R220). -/
  | guardEntry
  /-- GUARD_IN falls, `ps` picoseconds into the beat (R224). -/
  | guardInFall (ps : Fin 4000)
  /-- The debounce ends (R224). `readings` is what a contact check that starts now will read. -/
  | guardDebounceEnd (n : Fin 16) (readings : List PinReading)
  /-- A write of PIN_RELEASE (R225). -/
  | pinRelease (n : Fin 16) (pins : BitVec 32)
  /-- PIN_CC_CTRL.START (R228). `readings` is what the check will read. -/
  | ccStart (n : Fin 16) (readings : List PinReading)
  /-- The end K of a contact check (R231). -/
  | ccEnd (n : Fin 16)
  /-- PIN_CC_CTRL.ABORT (R233). -/
  | ccAbort (n : Fin 16)
  /-- A SEGMENT event takes effect (R254). -/
  | toneSegment (n : Fin 16) (u : Fin 32) (seg : Fin 98304)
  /-- A ZERO event takes effect (R256). -/
  | toneZero (n : Fin 16) (u : Fin 32)
  /-- A ZERO ramp-down completes (R257). -/
  | rampdownEnd (n : Fin 16) (u : Fin 32)
  /-- A TRACK event takes effect (R255). -/
  | toneTrack (n : Fin 16) (u : Fin 32) (r : Fin 32)
  /-- A PHASE event takes effect: OP SET or ADD (R245). -/
  | tonePhase (n : Fin 16) (u : Fin 32) (set : Bool) (v : BitVec 24)
  /-- A segment reaches its length (R253). -/
  | segmentBoundary (n : Fin 16) (u : Fin 32)
  /-- The next marker action of tone u reaches its sample (R269). -/
  | markerListAction (n : Fin 16) (u : Fin 32)
  /-- A LOW event takes effect (R270). -/
  | markerLow (n : Fin 16) (k : Fin 4) (m : Fin 2)
  /-- A HIGH event takes effect (R270). -/
  | markerHigh (n : Fin 16) (k : Fin 4) (m : Fin 2)
  /-- A LIST event takes effect (R270). -/
  | markerList (n : Fin 16) (k : Fin 4) (m : Fin 2)
  /-- TON_CTRL.FLUSH (R265). -/
  | toneFlush (n : Fin 16) (u : Fin 32)
  /-- A tone entry is written (R262). -/
  | toneEntryWrite (n : Fin 16) (path : Path) (u : Fin 32) (e : Fin 4) (v : BitVec 32)
  /-- TXC_CTRL.ENABLE (R272). -/
  | txEnable (n : Fin 16) (k : Fin 4)
  /-- Twenty microseconds after the grant (R272). -/
  | txWakeDone (n : Fin 16) (k : Fin 4)
  /-- TXC_CTRL.DISABLE (R272). -/
  | txDisable (n : Fin 16) (k : Fin 4)
  /-- A MUTE event or TXC_CTRL.MUTE (R273). -/
  | txMute (n : Fin 16) (k : Fin 4)
  /-- An UNMUTE event or TXC_CTRL.UNMUTE (R273). -/
  | txUnmute (n : Fin 16) (k : Fin 4)
  /-- A write of TXC_TRK_FTW (R243). -/
  | trackRetune (n : Fin 16) (k : Fin 4) (r : Fin 32) (ftw : BitVec 48)
  /-- TXC_TRK_REBASE (R243). -/
  | trackRebase (n : Fin 16) (k : Fin 4) (tracks : BitVec 32)
  /-- TXC_TRK_ACC_LO is read (R279). -/
  | trackAccRead (n : Fin 16) (k : Fin 4)
  /-- RXC_CTRL.ENABLE (R284). -/
  | rxEnable (n : Fin 16) (j : Fin 2)
  /-- Twenty microseconds after the grant (R284). -/
  | rxWakeDone (n : Fin 16) (j : Fin 2)
  /-- RXC_CTRL.DISABLE (R284). -/
  | rxDisable (n : Fin 16) (j : Fin 2)
  /-- The settling samples end (R282). -/
  | rxSettleEnd (n : Fin 16) (j : Fin 2)
  /-- A bin TRIGGER takes effect (R288). -/
  | binTrigger (n : Fin 16) (u : Fin 32) (set : Fin 4)
  /-- A bin CANCEL takes effect (R292). -/
  | binCancel (n : Fin 16) (u : Fin 32)
  /-- A window reaches its end beat (R288). `samples` are the codes the converter gave it. -/
  | binWindowEnd (n : Fin 16) (u : Fin 32) (samples : List (BitVec 12))
  /-- The discriminators of bin u evaluate its oldest result (R298). -/
  | discriminate (n : Fin 16) (u : Fin 32)
  /-- The oldest result of bin u is delivered (R294). -/
  | binResult (n : Fin 16) (u : Fin 32)
  /-- A weight word is written (R293). -/
  | wramWrite (n : Fin 16) (path : Path) (u : Fin 32) (i : Fin 2048) (v : BitVec 32)
  /-- DMX_RES_I is read (R294). -/
  | dmxResultRead (n : Fin 16) (u : Fin 32)
  /-- An ARM event or ACQ_CTRL.ARM (R299). -/
  | acqArm (n : Fin 16) (d : Fin 64)
  /-- A TRIGGER event or ACQ_CTRL.TRIGGER (R305). -/
  | acqTrigger (n : Fin 16)
  /-- A STOP event or ACQ_CTRL.STOP (R309). -/
  | acqStop (n : Fin 16)
  /-- The next item of a stream arrives (R301). `samples` are the converter samples of a RAW item. -/
  | acqItem (n : Fin 16) (st : Fin 4) (samples : List (BitVec 12))
  /-- PRE items have been written (R304). -/
  | prefillDone (n : Fin 16) (st : Fin 4)
  /-- The last post-trigger item has been written (R306). -/
  | acqSegmentEnd (n : Fin 16) (st : Fin 4)
  /-- The last header of a record has been written (R306). -/
  | acqStreamFree (n : Fin 16) (st : Fin 4)
  /-- Verdict `v` reaches the crossbar (R321). -/
  | verdictReady (v : Fin 1024)
  /-- A verdict message for this device arrives at port `p` (R326). -/
  | verdictMsgReceive (p : Fin 4) (word : BitVec 64)
  /-- The due beat of a held message bound to import `i` (R327). -/
  | importDeliver (i : Fin 256)
  /-- A hold of an unavailable source's input begins (R334). -/
  | holdOnset (input : SeqInput)
  /-- A hold ends (R334). -/
  | holdEnd (input : SeqInput)
  /-- A CODE event takes effect from sample `off` of its beat (R350). -/
  | ffCode (n : Fin 16) (f : Fin 8) (code : BitVec 16) (off : Fin 8)
  /-- A SPAN event or span request (R354). -/
  | ffSpan (n : Fin 16) (f : Fin 8) (setting : BitVec 3)
  /-- An HIZ event or request (R355). -/
  | ffHiz (n : Fin 16) (f : Fin 8)
  /-- A change sequence ends (R353). -/
  | ffSequenceEnd (n : Fin 16) (f : Fin 8)
  /-- The limiter starts acting (R359). -/
  | ffLimitAct (n : Fin 16) (f : Fin 8)
  /-- A short-check conversion is judged (R360). `readback` is in the channel's code units. -/
  | ffCheckConversion (n : Fin 16) (f : Fin 8) (readback : BitVec 16)
  /-- The limiter stops acting (R360). -/
  | ffLimitRelease (n : Fin 16) (f : Fin 8)
  /-- The boundary P + 5,125 (R360). -/
  | ffCheckDeadline (n : Fin 16) (f : Fin 8)
  /-- FF_STATUS.SHORT is cleared (R346). -/
  | ffShortClear (n : Fin 16) (f : Fin 8)
  /-- A measure ADC trigger (R372). -/
  | madTrigger (n : Fin 16) (seq : Fin 16)
  /-- A measure ADC abort (R373). -/
  | madAbort (n : Fin 16)
  /-- A conversion slot ends with its raw code (R367). `clamped` says that the measure unit's clamp held at its sample. -/
  | madConversionEnd (n : Fin 16) (raw : BitVec 18) (clamped : Bool)
  /-- A sequence repetition starts (R370). -/
  | madRepeatStart (n : Fin 16)
  /-- MAD_CMD.SELFCAL (R382). -/
  | selfcal (n : Fin 16)
  /-- The self-calibration ends with these computed factors (R382). -/
  | selfcalEnd (n : Fin 16) (factors : List Int)
  /-- MAD_CMD.SYSCAL (R386). -/
  | syscal (n : Fin 16)
  /-- The system calibration ends after these raw codes (R386). -/
  | syscalEnd (n : Fin 16) (raws : List (BitVec 18)) (invalid : Bool)
  /-- MAD_CMD.APPLYF (R384). -/
  | applyf (n : Fin 16)
  /-- A boundary with no conversion in progress (R384). -/
  | factorApply (n : Fin 16)
  /-- MAD_RES_LO is read (R380). -/
  | madResLoRead (n : Fin 16)
  /-- MAD_RES_HI is read (R380). -/
  | madResHiRead (n : Fin 16)
  /-- MAD_CFG.ENABLE is cleared (R389). -/
  | madDisable (n : Fin 16)
  /-- An ARM event or TDC_CTRL.ARM (R400). -/
  | tdcArm (n : Fin 16) (c : Fin 8) (setup : Fin 4)
  /-- A DISARM event or TDC_CTRL.DISARM (R401). -/
  | tdcDisarm (n : Fin 16) (c : Fin 8)
  /-- A GATE event or TDC_CTRL.GATE (R407). -/
  | tdcGate (n : Fin 16) (c : Fin 8)
  /-- An edge on an input of a channel, `lsb` units of 2^−12 ns into the present beat (R393, R403). -/
  | tdcEdge (n : Fin 16) (c : Fin 8) (input : BitVec 7) (rising : Bool) (lsb : Fin 16384)
  /-- A held early stop becomes older than 1,000 ns (R404). -/
  | tdcStopExpire (n : Fin 16) (c : Fin 8)
  /-- No stop within 2^32 ns of the start (R405). -/
  | tdcIntervalOvf (n : Fin 16) (c : Fin 8)
  /-- The frequency gate closes (R408). -/
  | tdcGateClose (n : Fin 16) (c : Fin 8)
  /-- The next due result of the slice enters its queue (R410). -/
  | tdcResultEnqueue (n : Fin 16)
  /-- Both interpolators take a reference charge (R394). -/
  | tdcServoRef (n : Fin 16) (c : Fin 8) (startRef : BitVec 13) (stopRef : BitVec 13)
  /-- TDC_RESULT is read (R413). -/
  | tdcResultRead (n : Fin 16)
  /-- TDC_CFG.EN is cleared (R414). -/
  | tdcDisable (n : Fin 16) (c : Fin 8)
  /-- The external reference becomes invalid (R420). -/
  | invRefLoss
  /-- The reference has become valid, after a loss for 1 s without interruption (R419, R420). -/
  | invRefRestore
  /-- The phase error has stayed below 1 ns for 1 s (R419). -/
  | invDiscLock
  /-- A wheel boundary of a device that drives BEAT_OUT (R429). -/
  | chainFrameTx
  /-- A frame arrives, `arrival` units of 2^−12 ns after the wheel boundary of the own grid (R431, R433). -/
  | chainFrameRx (frame : BitVec 64) (arrival : Int)
  /-- The device's return turn (R432). -/
  | chainReturnTurn
  /-- A return edge arrives, `rpt` units of 2^−12 ns after W + 32 ns (R432). -/
  | chainReturnStamp (rpt : Int)
  /-- An average is complete (R433). -/
  | chainAverage
  /-- CLK_IN has had no edge for 100 ns (`clock`), or 8 frames in a row were lost (R434). -/
  | chainHoldover (clock : Bool)
  /-- CHN_CFG.ROLE and POS are written (R426). -/
  | chainRoleWrite (role : BitVec 2) (pos : BitVec 5)
  /-- CHN_CTRL.REALIGN (R434). -/
  | realign
  /-- CHN_CTRL.EPOCH (R440). -/
  | epoch
  /-- The boundary of beat E (R442). -/
  | epochApply
  /-- TRG_DRIVE is written (R446). -/
  | trgDriveWrite (levels : BitVec 8)
  /-- A transition of a TIN input is forwarded (R446). -/
  | trgTinForward (t : Fin 16) (level : Bool)
  /-- A transition of a bus line, `ps` picoseconds into the present beat (R448). -/
  | trgTransition (l : Fin 8) (level : Bool) (ps : Fin 4000)
  /-- The effect beat of a level change (R448). -/
  | trgEdgeEffect (l : Fin 8)
  /-- TRG_CTRL.CAL (R452). -/
  | trgCal
  /-- The calibration beat S (R452). -/
  | trgCalStart
  /-- Beat S + 32,768: per line, the sum of its 256 readings in ps (R452). -/
  | trgCalEnd (sums : List Int)
  /-- A position is written (R452). -/
  | trgPosWrite (l : Fin 8) (v : BitVec 32)
  /-- A training block arrives on physical lane `lane` of port `p` (R462). -/
  | ktlTrainBlock (p : Fin 4) (lane : Fin 2) (block : TrainBlock)
  /-- Both ends have sent READY for 1 µs; the echo flits measure `flight` ps (R460, R462). -/
  | ktlPortUp (p : Fin 4) (flight : BitVec 16)
  /-- A port leaves UP (R464). -/
  | ktlPortDown (p : Fin 4) (cause : BitVec 3)
  /-- The retry interval of a DOWN or BLOCKED port elapses (R463). -/
  | ktlRetrain (p : Fin 4)
  /-- An UP port sends a flit (R467). -/
  | ktlFlitTx (p : Fin 4)
  /-- A flit arrives with some symbols in error (R468). -/
  | ktlFlitRx (p : Fin 4) (flit : KtlFlit) (symbolErrors : Nat)
  /-- A link notice arrives (R473). -/
  | linkNoticeRx (p : Fin 4) (word : BitVec 64)
  /-- KTL_CTRL.DISCOVER (R478). -/
  | discover
  /-- A DISC packet arrives (R479). -/
  | discRx (p : Fin 4) (hops : Nat)
  /-- Device reports arrive; `complete` says that the firmware of the root now holds them all (R480). -/
  | discReportRx (p : Fin 4) (reports : List DiscReport) (complete : Bool)
  /-- The topology arrives (R481). -/
  | topoFloodRx (p : Fin 4) (topo : Topology)
  /-- The commit beat (R481). -/
  | ktlCommit
  /-- KTL_CTRL.JOIN (R493). -/
  | join
  /-- A JOIN arrives (R494). -/
  | joinRx (p : Fin 4) (uid : BitVec 64) (req : Option (BitVec 10))
  /-- The first boundary after port `p` leaves UP (R485). -/
  | routeFailover (p : Fin 4)
  /-- Port `p` has been UP for 1 ms (R485). -/
  | routeRestore (p : Fin 4)
  /-- Firmware declares a device unreachable (R486). -/
  | unreachDeclare (dev : BitVec 10)
  /-- A control or bulk packet arrives (R484). -/
  | fabricPacketRx (p : Fin 4) (packet : KtlPacket)
  /-- Every member and child of barrier `b` has arrived (R489). -/
  | barrierComplete (b : BitVec 8)
  /-- An ARRIVE arrives (R489). -/
  | barrierArriveRx (p : Fin 4) (word : BitVec 64)
  /-- A RELEASE arrives (R490). -/
  | barrierReleaseRx (p : Fin 4) (word : BitVec 64)
  /-- An ABORT arrives (R491). -/
  | barrierAbortRx (p : Fin 4) (word : BitVec 64)
  /-- The release beat U of barrier `b` (R490). -/
  | barrierRelease (b : BitVec 8)
  /-- A frame arrives at a host port (R501). -/
  | hostFrameRx (p : Fin 2) (frame : HostFrame)
  /-- LINK of a host port reaches UP (R502). -/
  | hostLinkUp (p : Fin 2)
  /-- LINK leaves UP (R503). -/
  | hostLinkDown (p : Fin 2)
  /-- A CONNECT packet (R506). -/
  | connect (p : Fin 2) (packet : CtpPacket)
  /-- A DISCONNECT packet (R506). -/
  | disconnect (p : Fin 2) (packet : CtpPacket)
  /-- An ACK packet (R507, R508). -/
  | ack (p : Fin 2) (packet : CtpPacket)
  /-- A REG_RD request (R512, R514). -/
  | regRd (p : Fin 2) (packet : CtpPacket)
  /-- A REG_WR request (R512, R514). -/
  | regWr (p : Fin 2) (packet : CtpPacket)
  /-- A MEM_RD request (R512, R514). -/
  | memRd (p : Fin 2) (packet : CtpPacket)
  /-- A packet of a MEM_WR request (R512, R514). -/
  | memWr (p : Fin 2) (packet : CtpPacket)
  /-- A fabric completion arrives (R516, R517). -/
  | tunnelCompletion (packet : KtlPacket)
  /-- A fabric completion has not arrived within CTP_TUNNEL_TMO (R517). -/
  | tunnelTimeout (p : Fin 2) (tag : BitVec 9)
  /-- The head of the completion queue obtains credit (R511). -/
  | completionSend (p : Fin 2)
  /-- The oldest unacknowledged packet has waited RTO (R508). -/
  | ctpRto (p : Fin 2)
  /-- A packet was received and nothing sent for 4 µs (R507). -/
  | ctpAckTimer (p : Fin 2)
  /-- Queued event records are formed into an EVENT packet (R520). -/
  | eventPacketSend
  /-- EVT_RD0 is read (R533). -/
  | evtRd0Read
  /-- HST_TOD_CTRL.LATCH (R524). -/
  | todLatch
  /-- HST_TOD_CTRL.STEP (R523). -/
  | todStep
  /-- A PTP event message (R522). `adj` is the rate that the firmware servo sets after it, if any, and `st` the port state. -/
  | ptpMessage (p : Fin 2) (adj : Option (BitVec 32)) (st : BitVec 2)
  /-- DMA_CH_CTRL.START (R537, R553). -/
  | dmaStart (c : Fin 32)
  /-- DMA_CH_CTRL.ABORT (R548). -/
  | dmaAbort (c : Fin 32)
  /-- DMA_CH_CTRL.FLUSH (R543). -/
  | dmaFlush (c : Fin 32)
  /-- DMA_CTRL.CLR_BUSERR (R549). -/
  | clrBuserr
  /-- The engine grants a burst (R539). -/
  | dmaBurstGrant
  /-- The oldest granted burst of a channel completes (R538). -/
  | dmaBurstDone (c : Fin 32)
  /-- The descriptor of a channel ends (R547). -/
  | dmaDescEnd (c : Fin 32)
  /-- A read-return parity or tag error (R549). -/
  | dmaBusError
  /-- A NOP frame, or with `bad` a frame whose command value is undefined (R558). -/
  | nopFrame (frame : SideFrame) (bad : Bool)
  /-- A REPLAY frame (R558, R563). -/
  | replayRead (frame : SideFrame)
  /-- A PAGE frame (R558). -/
  | page (frame : SideFrame)
  /-- An RD frame (R558). -/
  | rd (frame : SideFrame)
  /-- An RDN frame (R562). -/
  | rdn (frame : SideFrame)
  /-- A WR frame (R558). -/
  | wr (frame : SideFrame)
  /-- A WRN frame (R562). -/
  | wrn (frame : SideFrame)
  /-- The 32nd edge of an STRM frame; its edge count says how many words follow (R564). -/
  | strm (frame : SideFrame)
  /-- The 32nd edge of an STRMN frame (R562, R564). -/
  | strmn (frame : SideFrame)
  /-- A stream data word completes (R564). `stalled` says that the store gives no free slot. -/
  | streamWord (w : BitVec 32) (stalled : Bool)
  /-- A PW_ADDR frame (R578). -/
  | pwAddr (frame : SideFrame)
  /-- A PW_WRB frame (R579). -/
  | pwWrb (frame : SideFrame)
  /-- A PW_RDB frame (R579). -/
  | pwRdb (frame : SideFrame)
  /-- PW_CTRL.RUN (R576). -/
  | pwRun
  /-- PW_CTRL.HALT (R576). -/
  | pwHalt
  /-- PW_CTRL.CLRFAIL (R576). -/
  | pwClrfail
  /-- PW_STROBE of a group (R577). -/
  | pwStrobe (g : Fin 8)
  /-- A side-port write of PWT_CTRL.OPEN = 1 (R572). -/
  | pewterOpen
  /-- A side-port write of PWT_CTRL.OPEN = 0 (R573). -/
  | pewterClose
  /-- ACC_CTRL.GO (R568). -/
  | accGo
  /-- ACC_CTRL.ABORT (R570). -/
  | accAbort
  /-- The accessory frame ends (R568). `miso` are the bits sampled on ACC_MISO. -/
  | accFrameEnd (miso : BitVec 256)
  /-- PWR_DOM[d].REQ = OFF (R586). `port` is the host port through which the write came. -/
  | domainOffReq (d : Fin 39) (port : Option (Fin 2))
  /-- PWR_DOM[d].REQ = ON (R586). -/
  | domainOnReq (d : Fin 39)
  /-- Nothing targets a draining domain (R588). -/
  | domainDrainEnd (d : Fin 39)
  /-- The drain timeout (R588). -/
  | domainDrainTimeout (d : Fin 39)
  /-- 250 beats after P (R589). -/
  | domainOff (d : Fin 39)
  /-- The wake time of a domain has elapsed (R590). -/
  | domainWakeDone (d : Fin 39)
  /-- The grants of a boundary (R595). -/
  | admissionGrant
  /-- PWR_BUDGET_MW is written (R598). -/
  | budgetWrite (v : BitVec 32)
  /-- The mean measured power of a 1 ms block in mW (R599). -/
  | pwrMeasBlock (mw : Nat)
  /-- The governor of a TX channel compares its windows (R601, R602). -/
  | txGovTrip (x : Fin 64)
  /-- The governor of an FF channel compares its RMS current (R603). -/
  | ffGovTrip (x : Fin 128)
  /-- The governor of a guarded pin: its current in µA and its integral in nJ at the present boundary (R604, R605). -/
  | pinGovTrip (g : Fin 512) (ua : Nat) (nj : Nat)
  /-- 1 is written to TRIP of a governor (R602). -/
  | govRearm (gov : Governor)
  /-- A live block completes (R613): whether it passes its activity test, and whether the firmware has taken the block before it. -/
  | calBlockComplete (i : Fin 369) (pass : Bool) (taken : Bool)
  /-- A dither step starts (R616). -/
  | calDitherStep (i : Fin 369)
  /-- A dither step ends (R616); `hits` are the hits of a TDC step. -/
  | calDitherStepEnd (i : Fin 369) (hits : Nat)
  /-- CAL_CONV_CTRL.STAGE (R617). -/
  | stage (path : Path) (i : Fin 369)
  /-- CAL_CONV_CTRL.STAGE_AT (R617). -/
  | stageAt (path : Path) (i : Fin 369)
  /-- CAL_CONV_CTRL.CANCEL (R617). -/
  | cancel (i : Fin 369)
  /-- A suitable gap boundary of a pending set (R618). -/
  | calGapApply (i : Fin 369)
  /-- The named beat of a pending set (R619). -/
  | calNamedApply (i : Fin 369)
  /-- A 1 ms block ends (R622). -/
  | calAgeTick
  /-- CAL_FG_CTRL.START (R625). -/
  | fgStart (n : Fin 16)
  /-- CAL_FG_CTRL.ABORT (R626). -/
  | fgAbort (n : Fin 16)
  /-- A foreground run ends (R626). `sets` are the 23 sets it computed, none where a value lies outside its field. -/
  | fgEnd (n : Fin 16) (sets : Option (List (List (BitVec 32))))
  /-- CAL_CTRL.SAVE (R630). -/
  | save
  /-- The save of a kind ends (R630): whether each copy reads back. -/
  | vaultSaveEnd (ok0 ok1 : Bool)
  /-- Pairs that stand in fault beside those the units of the model detect, pairs that stand at a broken code, and pairs whose source reads quiet again: the report beat of all of them (R637, R638). -/
  | faultReport (faults broken quiet : List FaultPair)
  /-- FLT_ACK is written (R646). -/
  | fltAck (classes : BitVec 8)
  /-- The oldest queued self-test whose scope is free starts (R649). -/
  | selfTestStart
  /-- The test that runs at a place ends (R648, R650). `bad` says that it found the fault persistent. -/
  | selfTestResult (place : BitVec 5) (bad : Bool)
  /-- FLT_ST_WAIT ends for the oldest test of a place (R649). -/
  | selfTestTimeout (place : BitVec 5)
  /-- FLT_CTRL.RECOVER (R654). -/
  | recover
  /-- FLT_CTRL.SAFE (R642). -/
  | safe
  /-- FLT_INJECT.GO (R652). -/
  | inject
  /-- Every episode test has its result (R654). -/
  | recoveryStart
  /-- The rebuild ends (R655). `bad` names the sections whose read-back failed. -/
  | recoveryEnd (bad : BitVec 17)
  /-- RPL_CFG.EN is set (R672). -/
  | journalEnable
  /-- RPL_CFG.EN is cleared (R672). -/
  | journalDisable
  /-- 256 beats after the first record of a partial line (R669). -/
  | journalPartialFlush
  /-- RPL_CTRL.FLUSH (R669). -/
  | flush
  /-- A write of RPL_RP (R671). -/
  | journalSpill (rp : BitVec 32)
  /-- RPL_CTRL.REPLAY (R673). -/
  | replay
  /-- The wheel boundary W (R674). -/
  | replayStart
  /-- The next record of the journal acts at its beat (R675). -/
  | replayRecord
  /-- The next record's beat is reached and it is not in the ring (R679). -/
  | replayStarved
  /-- RPL_CTRL.STOP (R679). -/
  | stop
  /-- A boot phase ends (R682). `findings` is what the phase found outside the model. -/
  | bootPhaseAdvance (findings : BootFindings)
  /-- BOOT_CTRL.TRY_FW (R692). -/
  | tryFw
  /-- BOOT_CTRL.CONFIRM (R692). -/
  | confirm
  /-- BOOT_CTRL.COMMIT_SECVER (R690). -/
  | commitSecver
  /-- BOOT_CTRL.SET_IMG (R693). -/
  | setImg
  /-- BOOT_CTRL.RUN_GO (R697). -/
  | runGo
  /-- Beat S + 1 of a RUN_GO (R697). -/
  | runGoSeqWrite
  /-- BOOT_CTRL.FL_GO with OP READ (R691). -/
  | flashRead
  /-- BOOT_CTRL.FL_GO with OP ERASE (R691). -/
  | flashErase
  /-- BOOT_CTRL.FL_GO with OP WRITE (R691). -/
  | flashWrite
  /-- A flash operation ends (R691). `error` says that the flash reported a program or erase error. -/
  | flashOpEnd (error : Bool)
  /-- BOOT_CTRL.KEY_WRITE (R689). -/
  | keyWrite
  /-- BOOT_CTRL.LOCK_KEY (R689). -/
  | lockKey
  /-- BOOT_CTRL.REVOKE (R689). -/
  | revoke
  /-- MGT_CTRL.HALT (R703). -/
  | mgtHalt
  /-- MGT_CTRL.RESTART (R703). -/
  | mgtRestart
  /-- MGT_CTRL.SWAP (R704). -/
  | swap
  /-- 5 ms after the request for a quiescent point (R704). -/
  | swapQuiesceTimeout
  /-- MGT_WDOG_KICK is written by the cores named (R701). -/
  | wdogKick (cores : BitVec 4)
  /-- A running core has not kicked for 10 ms (R701). -/
  | wdogExpire
  /-- A 1 ms block ends: the busy percentage of the busiest core (R699). -/
  | mgtLoadBlock (load : BitVec 7)
  /-- A SERVICE packet with CODE 1 (R700). -/
  | info (p : Fin 2) (packet : CtpPacket)
  /-- A SERVICE packet with CODE 2 (R700). -/
  | serviceSwap (p : Fin 2) (packet : CtpPacket)
  /-- A SERVICE packet with CODE 3 (R700). -/
  | serviceSave (p : Fin 2) (packet : CtpPacket)
  /-- A SERVICE packet with CODE 4 (R700). -/
  | fgAll (p : Fin 2) (packet : CtpPacket)
  /-- The TAP instruction BYPASS: the bits shifted in at TAP_TDI (R706). -/
  | bypass (tdi : List Bool)
  /-- The TAP instruction IDCODE: so many bits are shifted out (R706). -/
  | idcode (count : Nat)
  /-- The TAP instruction SAMPLE/PRELOAD: the states of the lands, and the bits shifted in (R706). -/
  | samplePreload (lands tdi : List Bool)
  /-- The TAP instruction EXTEST (R706). -/
  | extest (lands tdi : List Bool)
  /-- The TAP instruction CLAMP (R706). -/
  | clamp (tdi : List Bool)
  /-- The TAP instruction HIGHZ (R706). -/
  | highz (tdi : List Bool)
  /-- The TAP instruction EXTEST_PULSE (R706). -/
  | extestPulse (lands tdi : List Bool)
  /-- The TAP instruction EXTEST_TRAIN (R706). -/
  | extestTrain (lands tdi : List Bool)
  /-- The real-time clocks lock to CLK_IN (R434). -/
  | clkInLock
  /-- A fabric completion for a burst has not arrived within CTP_TUNNEL_TMO (R546). -/
  | dmaRemoteTimeout (c : Fin 32)
  /-- A die link has carried traffic for 1 ms without error (R635). -/
  | dieLinkSound (index : BitVec 3)
  /-- The firmware saves a kind on its own (R630). -/
  | periodicVaultSave (k : Fin 17)
deriving DecidableEq, Repr

end Sys2Proof
end

