-- ==== Sys2Proof/Machine/Bits.lean ====
section
/-!
DEFINITION. Bit fields, signed readings, saturation and byte order (R5, R12), and the CRC-32C of R74: the helpers every
other file uses.
-/

namespace Sys2Proof.Machine

/-- Bits `lo` to `lo + width - 1` of a number. -/
def bitsAt (v lo width : Nat) : Nat := (v >>> lo) % 2 ^ width

/-- Bit `i` of a number. -/
def bitAt (v i : Nat) : Bool := v.testBit i

/-- One bit as a number. -/
def bit01 (b : Bool) : Nat := if b then 1 else 0

/-- Set or clear bit `i` of a number. -/
def putBit (v i : Nat) (b : Bool) : Nat :=
  if v.testBit i = b then v else if b then v + 2 ^ i else v - 2 ^ i

/-- Replace `width` bits of a number from bit `lo` by the low bits of `x`. -/
def putBits (v lo width x : Nat) : Nat :=
  (v >>> (lo + width)) <<< (lo + width) + (x % 2 ^ width) <<< lo + v % 2 ^ lo

/-- A mask of `width` ones from bit `lo`. -/
def maskAt (lo width : Nat) : Word := BitVec.ofNat 32 ((2 ^ width - 1) <<< lo)

/-- The two's-complement reading of the low `width` bits. -/
def sext (width v : Nat) : Int :=
  let u := v % 2 ^ width
  if 2 ^ (width - 1) ≤ u then (u : Int) - 2 ^ width else u

/-- The `width`-bit two's-complement pattern of an integer. -/
def pat (width : Nat) (x : Int) : Nat := (x % (2 ^ width : Nat)).toNat

/-- An integer held between two bounds. -/
def clampInt (lo hi x : Int) : Int := if x < lo then lo else if hi < x then hi else x

/-- A number held between two bounds. -/
def clampNat (lo hi x : Nat) : Nat := if x < lo then lo else if hi < x then hi else x

/-- Saturate to a signed field of `width` bits. -/
def satInt (width : Nat) (x : Int) : Int := clampInt (-(2 ^ (width - 1) : Nat)) ((2 ^ (width - 1) : Nat) - 1) x

/-- Round `x / 2 ^ k` to nearest, halves away from zero. -/
def roundShift (x : Int) (k : Nat) : Int :=
  if k = 0 then x
  else if 0 ≤ x then (x + (2 ^ (k - 1) : Nat)) / (2 ^ k : Nat)
  else -((-x + (2 ^ (k - 1) : Nat)) / (2 ^ k : Nat))

/-- Round `x / d` down. -/
def floorDiv (x : Int) (d : Nat) : Int := Int.fdiv x d

/-- The quotient rounded up. -/
def ceilDiv (x d : Nat) : Nat := (x + d - 1) / d

/-- A 32-bit counter that stops at all ones (R12). -/
def satCount (v : Word) (k : Nat) : Word := BitVec.ofNat 32 (min (v.toNat + k) 0xFFFFFFFF)

/-- Little-endian bytes to a number (R5). -/
def ofBytes : List Byte → Nat
  | [] => 0
  | b :: t => b.toNat + 256 * ofBytes t

/-- A number as `k` little-endian bytes. -/
def toBytes : Nat → Nat → List Byte
  | 0, _ => []
  | k + 1, v => BitVec.ofNat 8 v :: toBytes k (v / 256)

/-- Little-endian 32-bit words as bytes. -/
def wordsToBytes : List Nat → List Byte
  | [] => []
  | w :: t => toBytes 4 w ++ wordsToBytes t

/-- Bytes as little-endian 32-bit words. -/
def bytesToWords : List Byte → List Nat
  | a :: b :: c :: d :: t => ofBytes [a, b, c, d] :: bytesToWords t
  | _ => []

/-- One bit of the CRC-32C remainder, reflected form (R74). -/
def crcBit (c : Nat) : Nat := if c % 2 = 1 then (c / 2) ^^^ 0x82F63B78 else c / 2

/-- One byte into the CRC-32C remainder. -/
def crcByte (c : Nat) (b : Byte) : Nat :=
  crcBit (crcBit (crcBit (crcBit (crcBit (crcBit (crcBit (crcBit (c ^^^ b.toNat))))))))

/-- CRC-32C of a list of bytes (R74). -/
def crc32c (l : List Byte) : Nat := (l.foldl crcByte 0xFFFFFFFF) ^^^ 0xFFFFFFFF

/-- How many bits of a number are set, among its low `n`. -/
def popCount : Nat → Nat → Nat
  | 0, _ => 0
  | n + 1, v => v % 2 + popCount n (v / 2)

/-- The numbers below `n` whose bit is set, ascending. -/
def setBits (n v : Nat) : List Nat := (List.range n).filter (fun i => v.testBit i)

/-- Change the entry at position `i` of a list; nothing where there is none. -/
def listMod {α : Type} (l : List α) (i : Nat) (f : α → α) : List α := l.modify i f

/-- An entry takes its place in an ordered list, before its equals. -/
def insertBy {α : Type} (le : α → α → Bool) (x : α) : List α → List α
  | [] => [x]
  | y :: t => if le x y then x :: y :: t else y :: insertBy le x t

/-- A list in order; equals keep their order. -/
def sortBy {α : Type} (le : α → α → Bool) (l : List α) : List α := l.foldr (insertBy le) []

/-- The sum of a list. -/
def listSum : List Nat → Nat := List.sum

end Sys2Proof.Machine
end

