-- ==== Sys2Proof/Config.lean ====
section
/-!
DEFINITION. What an implementation fixes and the values the spec leaves open, as constants without a body: no proof can
see their values.
-/

namespace Sys2Proof

/-- The factory identity of the device, KTL_UID (R497): low and high word by number. -/
opaque Config.uid : Nat → Word

/-- The factory MAC address of a host port, HST_MAC (R530): port, then low or high word. -/
opaque Config.mac : Nat → Nat → Word

/-- How the active converter factors (MAD_SCF, as unsigned field values) correct a raw code or a mean of raw codes of the
measure ADC (R384, R385). The spec gives no formula. -/
opaque Config.madCorrect : List Nat → Int → Int

/-- The factory compensation of Invar at a crystal temperature (R415, R417), in units of 0.01 ppb. The spec gives no
formula. -/
opaque Config.invarCompensation : Word → Int

/-- What the sensors of the device read (register by number, index, tick): crystal and die temperatures, currents, phase
errors and levels that an outside world decides and no command carries. -/
opaque Config.sensor : Nat → Nat → Nat → Word

/-- The discipline term that the phase-locked loop of R419 sets at a tick, before its limit, in units of 0.01 ppb. -/
opaque Config.discipline : Nat → Int

/-- A value that the spec leaves open, by the place that needs it and the tick at which it does. -/
opaque Config.openValue : Nat → Nat → Nat

/-- The factory record of a kind (R628): its words by set order, and whether its check passes. -/
opaque Config.factoryRecord : Nat → Nat → Nat
opaque Config.factoryValid : Nat → Bool

end Sys2Proof
end

