-- ==== Sys2Proof/Machine/Maps.lean ====
section
/-!
DEFINITION. Sparse data by key, held as a list in one canonical form: keys strictly rising, no entry equal to what an
unlisted key reads as. The register file and the stores are such maps.
-/

namespace Sys2Proof.Machine

/-- A sparse map as plain data. -/
abbrev SMap (κ ν : Type) := List (κ × ν)

namespace SMap

variable {κ ν : Type} [DecidableEq κ]

/-- What key `k` reads as; `d` is what an unlisted key reads as. -/
def get (d : κ → ν) : SMap κ ν → κ → ν
  | [], k => d k
  | (a, v) :: t, k => if a = k then v else get d t k

/-- No entry for `k` any more. -/
def erase : SMap κ ν → κ → SMap κ ν
  | [], _ => []
  | (a, v) :: t, k => if a = k then erase t k else (a, v) :: erase t k

/-- An entry for `k`, standing before the keys above it. -/
def insert (lt : κ → κ → Bool) : SMap κ ν → κ → ν → SMap κ ν
  | [], k, v => [(k, v)]
  | (a, w) :: t, k, v =>
    if a = k then (k, v) :: t
    else if lt k a then (k, v) :: (a, w) :: t
    else (a, w) :: insert lt t k v

/-- Write `v` at key `k`, keeping the canonical form. -/
def put [DecidableEq ν] (lt : κ → κ → Bool) (d : κ → ν) (m : SMap κ ν) (k : κ) (v : ν) : SMap κ ν :=
  if v = d k then erase m k else insert lt m k v

/-- The keys rise strictly. -/
def sorted (lt : κ → κ → Bool) : SMap κ ν → Bool
  | [] => true
  | [_] => true
  | (a, _) :: (b, w) :: t => lt a b && sorted lt ((b, w) :: t)

/-- The canonical form. -/
def wf [DecidableEq ν] (lt : κ → κ → Bool) (d : κ → ν) (m : SMap κ ν) : Bool :=
  sorted lt m && m.all (fun e => decide (e.2 ≠ d e.1))

end SMap

/-- A sparse map by number whose unlisted keys read 0. -/
abbrev NMap := SMap Nat Nat

/-- The order of numbers as a check. -/
def natLt (a b : Nat) : Bool := decide (a < b)

/-- What a number key reads as. -/
def NMap.at (m : NMap) (k : Nat) : Nat := SMap.get (fun _ => 0) m k

/-- Write at a number key. -/
def NMap.to (m : NMap) (k v : Nat) : NMap := SMap.put natLt (fun _ => 0) m k v

end Sys2Proof.Machine
end

