-- ==== Sys2Proof/Machine/RegNames.lean ====
section
/-!
DEFINITION. The register names of the device, one constructor per distinct register of the spec's register
tables (R5 to R9 say what a register is), with where each one stands (R525 to R527) and what reset leaves in it.
-/

namespace Sys2Proof.Machine

/-- Every register the spec's register tables name. A register that comes in several copies (one per slice, channel,
pin, ...) is one name with indices; the slice number is the first index of a slice register. -/
inductive Reg where
  | SLC_WHEEL_CTRL -- R62
  | SLC_WHEEL_STATUS -- R62
  | SLC_WHEEL_START_LO -- R62
  | SLC_WHEEL_START_HI -- R62
  | SLC_WHEEL_MAP -- R62
  | SLC_CONFLICT -- R62
  | SLC_CONFLICT_CLR -- R62
  | SLC_STORE_PWR -- R62
  | SLC_ECC_CE -- R62
  | SLC_ECC_UE -- R62
  | SLC_ECC_ADDR -- R62
  | SLC_SCRUB_CTRL -- R62
  | SLC_SCRUB_LATE -- R62
  | SLC_ECC_CLR -- R62
  | GLB_BEAT_LO -- R67
  | GLB_BEAT_HI -- R67
  | GLB_CSTORE_PWR -- R67
  | GLB_CSTORE_WAIT -- R67
  | GLB_CSTORE_ECC_CE -- R67
  | GLB_CSTORE_ECC_UE -- R67
  | GLB_CSTORE_ECC_ADDR -- R67
  | GLB_CSTORE_SCRUB -- R67
  | GLB_CSTORE_SCRUB_LATE -- R67
  | GLB_CSTORE_CLR -- R67
  | GLB_IMG_CTRL -- R99
  | GLB_IMG_STATUS -- R99
  | GLB_IMG_SRC -- R99
  | GLB_IMG_LEN -- R99
  | GLB_IMG_REJOIN_LO -- R99
  | GLB_IMG_REJOIN_HI -- R99
  | GLB_IMG_DRAIN_LO -- R99
  | GLB_IMG_DRAIN_HI -- R99
  | GLB_IMG_CSERIAL_LO -- R99
  | GLB_IMG_CSERIAL_HI -- R99
  | GLB_IMG_FORMAT -- R99
  | GLB_IMG_COUNT -- R99
  | GLB_IMG_COUNT_CLR -- R99
  | GLB_IMG_SSERIAL_LO -- R99
  | GLB_IMG_SSERIAL_HI -- R99
  | SEQ_CTRL -- R155
  | SEQ_STATUS -- R155
  | SEQ_PC -- R155
  | SEQ_ERR_PC -- R155
  | SEQ_HALT_CODE -- R155
  | SEQ_FLAGS -- R155
  | SEQ_START_LO -- R155
  | SEQ_START_HI -- R155
  | SEQ_ISSUED_LO -- R155
  | SEQ_ISSUED_HI -- R155
  | SEQ_STALL -- R155
  | SEQ_VERDICT_OVW -- R155
  | SEQ_EV_DROP -- R155
  | SEQ_ELASTIC_BEATS -- R155
  | SEQ_TIMEOUTS -- R155
  | SEQ_LATE -- R155
  | SEQ_LCOUNT -- R155
  | SEQ_CNT_CLR -- R155
  | SEQ_LIM_LO -- R155
  | SEQ_LIM_HI -- R155
  | SEQ_BRD -- R155
  | SEQ_BSEL -- R155
  | SEQ_BRES -- R155
  | SEQ_VNEW -- R155
  | SEQ_XNEW -- R155
  | SEQ_BTERM -- R155
  | VEC_CTRL -- R200
  | VEC_STATUS -- R200
  | VEC_ADDR -- R200
  | VEC_ERR_ADDR -- R200
  | VEC_INDEX_LO -- R200
  | VEC_INDEX_HI -- R200
  | VEC_FAILVEC_LO -- R200
  | VEC_FAILVEC_HI -- R200
  | VEC_UNDERRUNS -- R200
  | VEC_CLAMPS -- R200
  | VEC_MATCH_EXP -- R200
  | VEC_CNT_CLR -- R200
  | VEC_ENTRY -- R200
  | VEC_RING_BASE -- R200
  | VEC_RING_LINES -- R200
  | VEC_RING_WP -- R200
  | VEC_RING_RP -- R200
  | VEC_RING_READY -- R200
  | VEC_FC_BASE -- R200
  | VEC_FC_LINES -- R200
  | VEC_FC_WP -- R200
  | VEC_FC_RECS -- R200
  | VEC_FC_LOST -- R200
  | VEC_PFAIL -- R200
  | VEC_PFAIL_CLR -- R200
  | VEC_WIN_PINS -- R200
  | VEC_WIN_OPEN_LO -- R200
  | VEC_WIN_OPEN_HI -- R200
  | TSET_PERIOD -- R203
  | TSET_PIN_EN -- R203
  | TSET_HALT_LO -- R203
  | TSET_HALT_HI -- R203
  | TSET_STATUS -- R203
  | TSET_FMT -- R203
  | TSET_EDGE -- R203
  | PIN_VIL -- R234
  | PIN_VIH -- R234
  | PIN_VTERM -- R234
  | PIN_VOL -- R234
  | PIN_VOH -- R234
  | PIN_VCOM -- R234
  | PIN_ILOAD -- R234
  | PIN_CFG -- R234
  | PIN_PMU_CTRL -- R234
  | PIN_PMU_FORCE -- R234
  | PIN_PMU_CLAMP -- R234
  | PIN_STATUS -- R234
  | PIN_CC_LIM -- R234
  | PIN_CC_RESULT -- R234
  | PIN_GUARD_CTRL -- R234
  | PIN_GUARD_STATUS -- R234
  | PIN_GUARDED -- R234
  | PIN_RELEASE -- R234
  | PIN_CC_CTRL -- R234
  | PIN_CC_STATUS -- R234
  | PIN_CC_CFG -- R234
  | PIN_CC_MASK -- R234
  | PIN_GUARD_COUNT -- R234
  | PIN_LOAD_STATUS -- R234
  | PIN_CNT_CLR -- R234
  | TON_CTRL -- R276
  | TON_CFG -- R276
  | TON_STATUS -- R276
  | TON_INDEX -- R276
  | TON_ENTRY -- R276
  | TON_FTW_LO -- R276
  | TON_FTW_HI -- R276
  | TON_POFF -- R276
  | TON_AMP -- R276
  | TON_UNDERRUNS -- R276
  | TON_ERRORS -- R276
  | TON_CNT_CLR -- R276
  | TXC_CTRL -- R278
  | TXC_STATUS -- R278
  | TXC_CFG -- R278
  | TXC_GAIN -- R278
  | TXC_CLIP -- R278
  | TXC_MK_CFG -- R278
  | TXC_MK_STATUS -- R278
  | TXC_CNT_CLR -- R278
  | TXC_TRK_USE -- R278
  | TXC_TRK_REBASE -- R278
  | TXC_TRK_SEL -- R278
  | TXC_TRK_ACC_LO -- R278
  | TXC_TRK_ACC_HI -- R278
  | TXC_MUTE_CNT -- R278
  | TXC_TRK_FTW_LO -- R278
  | TXC_TRK_FTW_HI -- R278
  | RXC_CTRL -- R312
  | RXC_STATUS -- R312
  | RXC_CFG -- R312
  | RXC_OVR -- R312
  | RXC_CNT_CLR -- R312
  | DMX_CFG -- R314
  | DMX_ROUTE -- R314
  | DMX_STATUS -- R314
  | DMX_POFF -- R314
  | DMX_FTW_LO -- R314
  | DMX_FTW_HI -- R314
  | DMX_WSET -- R314
  | DMX_LINE_AB -- R314
  | DMX_LINE_C_LO -- R314
  | DMX_LINE_C_HI -- R314
  | DMX_RES_I -- R314
  | DMX_RES_Q -- R314
  | DMX_RES_END_LO -- R314
  | DMX_RES_END_HI -- R314
  | DMX_RES_INFO -- R314
  | DMX_WINDOWS -- R314
  | DMX_OVERRUN -- R314
  | DMX_RESTARTS -- R314
  | DMX_CANCELS -- R314
  | DMX_CNT_CLR -- R314
  | DMX_WRAM -- R314
  | ACQ_CTRL -- R316
  | ACQ_STATUS -- R316
  | ACQ_STRM -- R316
  | ACQ_TRIG_EARLY -- R316
  | ACQ_OVF -- R316
  | ACQ_CNT_CLR -- R316
  | ACQ_DCFG -- R316
  | ACQ_DBASE -- R316
  | ACQ_DLINES -- R316
  | ACQ_DPRE -- R316
  | ACQ_DPOST -- R316
  | ACQ_DSEG -- R316
  | ACQ_DMASK -- R316
  | VRD_STATUS -- R341
  | VRD_LATE -- R341
  | VRD_DUE_ERR -- R341
  | VRD_UNBOUND -- R341
  | VRD_EXP_DROP -- R341
  | VRD_GOV_SUBST -- R341
  | VRD_CNT_CLR -- R341
  | VRD_LAST_LATE -- R341
  | VRD_UNAVAIL -- R341
  | VRD_EXPQ_MAX -- R341
  | VRD_IMP_HOLD -- R341
  | VRD_ROUTE -- R341
  | VRD_DELIV -- R341
  | VRD_EXPORT -- R341
  | VRD_IMPORT -- R341
  | VRD_IMPORT_SL -- R341
  | FF_CTRL -- R362
  | FF_STATUS -- R362
  | FF_CFG -- R362
  | FF_LIM -- R362
  | FF_SHORT_CFG -- R362
  | FF_CODE -- R362
  | FF_READBACK -- R362
  | FF_DEFER -- R362
  | FF_DISCARD -- R362
  | FF_REFUSED -- R362
  | FF_PROV -- R362
  | FF_DISMISS -- R362
  | FF_DGL -- R362
  | FF_SHORTS -- R362
  | FF_CNT_CLR -- R529
  | MAD_CMD -- R391
  | MAD_CFG -- R391
  | MAD_STATUS -- R391
  | MAD_QSTATUS -- R391
  | MAD_RES_LO -- R391
  | MAD_RES_HI -- R391
  | MAD_TRIG_DROP -- R391
  | MAD_QLOST -- R391
  | MAD_REDO -- R391
  | MAD_ABORTS -- R391
  | MAD_DIS_COUNT -- R391
  | MAD_CNT_CLR -- R391
  | MAD_SCAL_CTRL -- R391
  | MAD_SCAL_REF -- R391
  | MAD_SCAL_STATUS -- R391
  | MAD_SEQ -- R391
  | MAD_SYSC_OFF -- R391
  | MAD_SYSC_GAIN -- R391
  | MAD_SCF -- R391
  | MAD_STEP -- R391
  | MAD_FIFO -- R391
  | TDC_CTRL -- R422
  | TDC_CFG -- R422
  | TDC_STATUS -- R422
  | TDC_SETUP -- R422
  | TDC_GATE -- R422
  | TDC_SPACING -- R422
  | TDC_REV_DISC -- R422
  | TDC_IGNORED -- R422
  | TDC_CNT_CLR -- R422
  | TDC_RESULT -- R422
  | TDC_RES_VAL_LO -- R422
  | TDC_RES_VAL_HI -- R422
  | TDC_RES_AUX -- R422
  | TDC_QSTATUS -- R422
  | TDC_QCFG -- R422
  | TDC_QLOST -- R422
  | TDC_QCLR -- R422
  | TDC_FIFO -- R422
  | TDC_TIN_CFG -- R424
  | INV_CFG -- R425
  | INV_STATUS -- R425
  | INV_AGE_TRIM -- R425
  | INV_CORR -- R425
  | INV_DISC -- R425
  | INV_PHASE_ERR -- R425
  | INV_TEMP -- R425
  | INV_REF_LOSS -- R425
  | INV_CNT_CLR -- R425
  | CHN_CFG -- R453
  | CHN_CTRL -- R453
  | CHN_STATUS -- R453
  | CHN_EPOCH_LO -- R453
  | CHN_EPOCH_HI -- R453
  | CHN_LAST_EPOCH_LO -- R453
  | CHN_LAST_EPOCH_HI -- R453
  | CHN_LINK -- R453
  | CHN_OFFSET -- R453
  | CHN_TRIM -- R453
  | CHN_EXT_DELAY -- R453
  | CHN_FRAME_ERR -- R453
  | CHN_HOLDOVERS -- R453
  | CHN_CNT_CLR -- R453
  | TRG_CTRL -- R455
  | TRG_STATUS -- R455
  | TRG_DRIVE -- R455
  | TRG_CAL_START_LO -- R455
  | TRG_CAL_START_HI -- R455
  | TRG_LINE -- R455
  | TRG_POS -- R455
  | TRG_EDGES -- R455
  | TRG_MARGINS -- R455
  | TRG_GLITCHES -- R455
  | TRG_CNT_CLR -- R455
  | KTL_CTRL -- R497
  | KTL_CFG -- R497
  | KTL_STATUS -- R497
  | KTL_ID -- R497
  | KTL_UID_LO -- R497
  | KTL_UID_HI -- R497
  | KTL_ROOT -- R497
  | KTL_COMMIT_DELAY -- R497
  | KTL_TOPO_EXPECT -- R497
  | KTL_TOPO_SEEN -- R497
  | KTL_LINKS_DOWN -- R497
  | KTL_UNREACH_DROP -- R497
  | KTL_TTL_DROP -- R497
  | KTL_BAR_LATE -- R497
  | KTL_BAR_ABORTS -- R497
  | KTL_CNT_CLR -- R497
  | KTL_PORT_CFG -- R497
  | KTL_PORT_STATUS -- R497
  | KTL_PORT_NBR -- R497
  | KTL_PORT_FLIGHT -- R497
  | KTL_FEC_CORR -- R497
  | KTL_FEC_UNCORR -- R497
  | KTL_REPLAYS -- R497
  | KTL_PORT_DOWNS -- R497
  | KTL_PORT_CLR -- R497
  | KTL_RT -- R497
  | KTL_BAR_CFG -- R497
  | KTL_BAR_DELAY -- R497
  | KTL_BAR_STATE -- R497
  | HST_PTP_CFG -- R530
  | HST_PTP_STATUS -- R530
  | HST_TOD_CTRL -- R530
  | HST_TOD_ADJ -- R530
  | HST_TOD_SEC_LO -- R530
  | HST_TOD_SEC_HI -- R530
  | HST_TOD_NS -- R530
  | HST_TOD_BEAT_LO -- R530
  | HST_TOD_BEAT_HI -- R530
  | HST_PORT_CFG -- R530
  | HST_PORT_STATUS -- R530
  | HST_MAC_LO -- R530
  | HST_MAC_HI -- R530
  | HST_IP4 -- R530
  | HST_IP6 -- R530
  | HST_FEC_CORR -- R530
  | HST_FEC_UNCORR -- R530
  | HST_RX_DROP -- R530
  | HST_CNT_CLR -- R530
  | CTP_CFG -- R532
  | CTP_STATUS -- R532
  | CTP_PEER_PORT -- R532
  | CTP_PEER_ADDR -- R532
  | CTP_RING -- R532
  | CTP_CREDIT_WAIT -- R532
  | CTP_RETX -- R532
  | CTP_DUP -- R532
  | CTP_OOS -- R532
  | CTP_TAG_ERR -- R532
  | CTP_CNT_CLR -- R532
  | CTP_TUNNEL_TMO -- R532
  | EVT_CFG -- R533
  | EVT_STATUS -- R533
  | EVT_QSTATUS -- R533
  | EVT_LOST -- R533
  | EVT_RD0 -- R533
  | EVT_RD1 -- R533
  | EVT_RD2 -- R533
  | EVT_RD3 -- R533
  | EVT_CNT_CLR -- R533
  | EVT_MASK -- R533
  | DMA_CTRL -- R552
  | DMA_STATUS -- R552
  | DMA_ACTIVE -- R552
  | DMA_BUSERR_BEAT_LO -- R552
  | DMA_BUSERR_BEAT_HI -- R552
  | DMA_BUSERRS -- R552
  | DMA_CNT_CLR -- R552
  | DMA_CH_CTRL -- R552
  | DMA_CH_CFG -- R552
  | DMA_CH_STATUS -- R552
  | DMA_CH_DESC -- R552
  | DMA_CH_RESIDUE -- R552
  | DMA_CH_DROPPED -- R552
  | DMA_CH_DESCS -- R552
  | DMA_CH_BYTES_LO -- R552
  | DMA_CH_BYTES_HI -- R552
  | DMA_CH_WAIT -- R552
  | DMA_CH_CLR -- R552
  | SIDE_CFG -- R581
  | SIDE_STATUS -- R581
  | SIDE_PAGE -- R581
  | SIDE_FRAMES -- R581
  | SIDE_WORDS -- R581
  | SIDE_CNT_CLR -- R581
  | ACC_CTRL -- R582
  | ACC_CFG -- R582
  | ACC_FRAME -- R582
  | ACC_STATUS -- R582
  | ACC_FRAMES -- R582
  | ACC_CNT_CLR -- R582
  | ACC_TX -- R582
  | ACC_RX -- R582
  | PWT_CTRL -- R583
  | PWT_STATUS -- R583
  | PWT_BYTES -- R583
  | PWT_CNT_CLR -- R583
  | PWR_STATUS -- R606
  | PWR_BUDGET_MW -- R606
  | PWR_RAMP -- R606
  | PWR_BASE_MW -- R606
  | PWR_COMMITTED_MW -- R606
  | PWR_QSTATUS -- R606
  | PWR_HEAD -- R606
  | PWR_LAST_REFUSED -- R606
  | PWR_GRANTS -- R606
  | PWR_WAIT_BEATS -- R606
  | PWR_MEAS_MW -- R606
  | PWR_CNT_CLR -- R606
  | PWR_DRAIN_TIMEOUT -- R606
  | PWR_DIS_LAST -- R606
  | PWR_COST -- R606
  | PWR_DOM -- R606
  | NRG_TX_LIM_MS -- R608
  | NRG_TX_LIM_S -- R608
  | NRG_TX_CFG -- R608
  | NRG_TX_STATUS -- R608
  | NRG_TX_LEVEL_MS -- R608
  | NRG_TX_LEVEL_S -- R608
  | NRG_TX_TRIPS -- R608
  | NRG_TX_CLR -- R608
  | NRG_FF_LIM -- R608
  | NRG_FF_RLOAD -- R608
  | NRG_FF_CFG -- R608
  | NRG_FF_STATUS -- R608
  | NRG_FF_LEVEL -- R608
  | NRG_FF_TRIPS -- R608
  | NRG_FF_CLR -- R608
  | NRG_PIN_CFG -- R608
  | NRG_PIN_STATUS -- R608
  | NRG_PIN_ENERGY -- R608
  | NRG_STATUS -- R608
  | CAL_CFG -- R632
  | CAL_STATUS -- R632
  | CAL_CTRL -- R632
  | CAL_VAULT_STATUS -- R632
  | CAL_SEL -- R632
  | CAL_APPLY_AT_LO -- R632
  | CAL_APPLY_AT_HI -- R632
  | CAL_VAULT_SEQ -- R632
  | CAL_SET -- R632
  | CAL_CONV_CTRL -- R632
  | CAL_CONV_STATUS -- R632
  | CAL_AGE -- R632
  | CAL_APPLIED -- R632
  | CAL_FG_CTRL -- R632
  | CAL_FG_STATUS -- R632
  | FLT_CFG -- R663
  | FLT_STATUS -- R663
  | FLT_CTRL -- R663
  | FLT_ACK -- R663
  | FLT_INJECT -- R663
  | FLT_INJECT_IDX -- R663
  | FLT_QSTATUS -- R663
  | FLT_ST_WAIT -- R663
  | FLT_LOG_WP -- R663
  | FLT_LOG_LOST -- R663
  | FLT_LOSS_LO -- R663
  | FLT_LOSS_HI -- R663
  | FLT_L3_COUNT -- R663
  | FLT_CNT_CLR -- R663
  | FLT_CLASS -- R663
  | FLT_CLASS_CFG -- R663
  | FLT_SRC_CFG -- R663
  | FLT_SRC_COUNT -- R663
  | FLT_LOG -- R663
  | RPL_CFG -- R679
  | RPL_CTRL -- R679
  | RPL_STATUS -- R679
  | RPL_RING_BASE -- R679
  | RPL_RING_LINES -- R679
  | RPL_WP -- R679
  | RPL_RP -- R679
  | RPL_LOST -- R679
  | RPL_RECORDS -- R679
  | RPL_CNT_CLR -- R679
  | RPL_DEC_EN -- R679
  | RPL_ANCHOR_LO -- R679
  | RPL_ANCHOR_HI -- R679
  | RPL_DIV_BEAT_LO -- R679
  | RPL_DIV_BEAT_HI -- R679
  | RPL_DIV_INFO -- R679
  | RPL_DIV_EXP_LO -- R679
  | RPL_DIV_EXP_HI -- R679
  | RPL_DIV_OBS_LO -- R679
  | RPL_DIV_OBS_HI -- R679
  | RPL_REPLAY_WP -- R679
  | RPL_REPLAY_RP -- R679
  | BOOT_STATUS -- R707
  | BOOT_CTRL -- R707
  | BOOT_CFG -- R707
  | BOOT_FUSES -- R707
  | BOOT_FW_VER -- R707
  | BOOT_IDCODE -- R707
  | BOOT_KEY_PROG -- R707
  | BOOT_FL_OP -- R707
  | BOOT_FL_ADDR -- R707
  | BOOT_FL_SRC -- R707
  | BOOT_FL_LEN -- R707
  | BOOT_FL_STATUS -- R707
  | BOOT_RUN_AT_LO -- R707
  | BOOT_RUN_AT_HI -- R707
  | BOOT_RUN_MASK -- R707
  | BOOT_RUN_STATUS -- R707
  | MGT_CTRL -- R708
  | MGT_STATUS -- R708
  | MGT_LOAD -- R708
  | MGT_LOAD_CFG -- R708
  | MGT_WDOG_KICK -- R708
  | MGT_RESTARTS -- R708
  | MGT_SWAPS -- R708
  | MGT_CNT_CLR -- R708
deriving DecidableEq, Repr

namespace Reg

/-- The device address of a register's copy with all indices zero (R525 to R527 and the block's own table). -/
def base : Reg → Nat
  | .SLC_WHEEL_CTRL => 0x10000000
  | .SLC_WHEEL_STATUS => 0x10000004
  | .SLC_WHEEL_START_LO => 0x10000008
  | .SLC_WHEEL_START_HI => 0x1000000C
  | .SLC_WHEEL_MAP => 0x10000040
  | .SLC_CONFLICT => 0x10000080
  | .SLC_CONFLICT_CLR => 0x1000009C
  | .SLC_STORE_PWR => 0x100000A0
  | .SLC_ECC_CE => 0x100000A4
  | .SLC_ECC_UE => 0x100000A8
  | .SLC_ECC_ADDR => 0x100000AC
  | .SLC_SCRUB_CTRL => 0x100000B0
  | .SLC_SCRUB_LATE => 0x100000B4
  | .SLC_ECC_CLR => 0x100000B8
  | .GLB_BEAT_LO => 0x10
  | .GLB_BEAT_HI => 0x14
  | .GLB_CSTORE_PWR => 0x20
  | .GLB_CSTORE_WAIT => 0x30
  | .GLB_CSTORE_ECC_CE => 0x40
  | .GLB_CSTORE_ECC_UE => 0x44
  | .GLB_CSTORE_ECC_ADDR => 0x48
  | .GLB_CSTORE_SCRUB => 0x4C
  | .GLB_CSTORE_SCRUB_LATE => 0x50
  | .GLB_CSTORE_CLR => 0x54
  | .GLB_IMG_CTRL => 0x100
  | .GLB_IMG_STATUS => 0x104
  | .GLB_IMG_SRC => 0x108
  | .GLB_IMG_LEN => 0x10C
  | .GLB_IMG_REJOIN_LO => 0x110
  | .GLB_IMG_REJOIN_HI => 0x114
  | .GLB_IMG_DRAIN_LO => 0x118
  | .GLB_IMG_DRAIN_HI => 0x11C
  | .GLB_IMG_CSERIAL_LO => 0x120
  | .GLB_IMG_CSERIAL_HI => 0x124
  | .GLB_IMG_FORMAT => 0x128
  | .GLB_IMG_COUNT => 0x12C
  | .GLB_IMG_COUNT_CLR => 0x130
  | .GLB_IMG_SSERIAL_LO => 0x140
  | .GLB_IMG_SSERIAL_HI => 0x144
  | .SEQ_CTRL => 0x10002000
  | .SEQ_STATUS => 0x10002004
  | .SEQ_PC => 0x10002008
  | .SEQ_ERR_PC => 0x1000200C
  | .SEQ_HALT_CODE => 0x10002010
  | .SEQ_FLAGS => 0x10002014
  | .SEQ_START_LO => 0x10002018
  | .SEQ_START_HI => 0x1000201C
  | .SEQ_ISSUED_LO => 0x10002020
  | .SEQ_ISSUED_HI => 0x10002024
  | .SEQ_STALL => 0x10002028
  | .SEQ_VERDICT_OVW => 0x1000202C
  | .SEQ_EV_DROP => 0x10002030
  | .SEQ_ELASTIC_BEATS => 0x10002034
  | .SEQ_TIMEOUTS => 0x10002038
  | .SEQ_LATE => 0x1000203C
  | .SEQ_LCOUNT => 0x10002040
  | .SEQ_CNT_CLR => 0x10002060
  | .SEQ_LIM_LO => 0x10002080
  | .SEQ_LIM_HI => 0x10002084
  | .SEQ_BRD => 0x10002100
  | .SEQ_BSEL => 0x10002200
  | .SEQ_BRES => 0x10002A00
  | .SEQ_VNEW => 0x10002B00
  | .SEQ_XNEW => 0x10002B80
  | .SEQ_BTERM => 0x10003000
  | .VEC_CTRL => 0x10004000
  | .VEC_STATUS => 0x10004004
  | .VEC_ADDR => 0x10004008
  | .VEC_ERR_ADDR => 0x1000400C
  | .VEC_INDEX_LO => 0x10004010
  | .VEC_INDEX_HI => 0x10004014
  | .VEC_FAILVEC_LO => 0x10004018
  | .VEC_FAILVEC_HI => 0x1000401C
  | .VEC_UNDERRUNS => 0x10004020
  | .VEC_CLAMPS => 0x10004024
  | .VEC_MATCH_EXP => 0x10004028
  | .VEC_CNT_CLR => 0x1000402C
  | .VEC_ENTRY => 0x10004040
  | .VEC_RING_BASE => 0x10004060
  | .VEC_RING_LINES => 0x10004064
  | .VEC_RING_WP => 0x10004068
  | .VEC_RING_RP => 0x1000406C
  | .VEC_RING_READY => 0x10004070
  | .VEC_FC_BASE => 0x10004080
  | .VEC_FC_LINES => 0x10004084
  | .VEC_FC_WP => 0x10004088
  | .VEC_FC_RECS => 0x1000408C
  | .VEC_FC_LOST => 0x10004090
  | .VEC_PFAIL => 0x10004100
  | .VEC_PFAIL_CLR => 0x10004180
  | .VEC_WIN_PINS => 0x10004200
  | .VEC_WIN_OPEN_LO => 0x10004300
  | .VEC_WIN_OPEN_HI => 0x10004304
  | .TSET_PERIOD => 0x10010000
  | .TSET_PIN_EN => 0x10010004
  | .TSET_HALT_LO => 0x10010008
  | .TSET_HALT_HI => 0x1001000C
  | .TSET_STATUS => 0x10010200
  | .TSET_FMT => 0x10018000
  | .TSET_EDGE => 0x10018004
  | .PIN_VIL => 0x10008000
  | .PIN_VIH => 0x10008004
  | .PIN_VTERM => 0x10008008
  | .PIN_VOL => 0x1000800C
  | .PIN_VOH => 0x10008010
  | .PIN_VCOM => 0x10008014
  | .PIN_ILOAD => 0x10008018
  | .PIN_CFG => 0x1000801C
  | .PIN_PMU_CTRL => 0x10008020
  | .PIN_PMU_FORCE => 0x10008024
  | .PIN_PMU_CLAMP => 0x10008028
  | .PIN_STATUS => 0x1000802C
  | .PIN_CC_LIM => 0x10008030
  | .PIN_CC_RESULT => 0x10008034
  | .PIN_GUARD_CTRL => 0x10008800
  | .PIN_GUARD_STATUS => 0x10008804
  | .PIN_GUARDED => 0x10008808
  | .PIN_RELEASE => 0x1000880C
  | .PIN_CC_CTRL => 0x10008810
  | .PIN_CC_STATUS => 0x10008814
  | .PIN_CC_CFG => 0x10008818
  | .PIN_CC_MASK => 0x1000881C
  | .PIN_GUARD_COUNT => 0x10008820
  | .PIN_LOAD_STATUS => 0x10008824
  | .PIN_CNT_CLR => 0x10008828
  | .TON_CTRL => 0x10005000
  | .TON_CFG => 0x10005004
  | .TON_STATUS => 0x10005008
  | .TON_INDEX => 0x1000500C
  | .TON_ENTRY => 0x10005010
  | .TON_FTW_LO => 0x10005020
  | .TON_FTW_HI => 0x10005024
  | .TON_POFF => 0x10005028
  | .TON_AMP => 0x1000502C
  | .TON_UNDERRUNS => 0x10005030
  | .TON_ERRORS => 0x10005034
  | .TON_CNT_CLR => 0x10005038
  | .TXC_CTRL => 0x10006000
  | .TXC_STATUS => 0x10006004
  | .TXC_CFG => 0x10006008
  | .TXC_GAIN => 0x1000600C
  | .TXC_CLIP => 0x10006010
  | .TXC_MK_CFG => 0x10006014
  | .TXC_MK_STATUS => 0x1000601C
  | .TXC_CNT_CLR => 0x10006020
  | .TXC_TRK_USE => 0x10006024
  | .TXC_TRK_REBASE => 0x10006028
  | .TXC_TRK_SEL => 0x1000602C
  | .TXC_TRK_ACC_LO => 0x10006030
  | .TXC_TRK_ACC_HI => 0x10006034
  | .TXC_MUTE_CNT => 0x10006038
  | .TXC_TRK_FTW_LO => 0x10006100
  | .TXC_TRK_FTW_HI => 0x10006104
  | .RXC_CTRL => 0x10007000
  | .RXC_STATUS => 0x10007004
  | .RXC_CFG => 0x10007008
  | .RXC_OVR => 0x1000700C
  | .RXC_CNT_CLR => 0x10007010
  | .DMX_CFG => 0x10080000
  | .DMX_ROUTE => 0x10080004
  | .DMX_STATUS => 0x10080008
  | .DMX_POFF => 0x1008000C
  | .DMX_FTW_LO => 0x10080010
  | .DMX_FTW_HI => 0x10080014
  | .DMX_WSET => 0x10080018
  | .DMX_LINE_AB => 0x10080028
  | .DMX_LINE_C_LO => 0x10080030
  | .DMX_LINE_C_HI => 0x10080034
  | .DMX_RES_I => 0x10080040
  | .DMX_RES_Q => 0x10080044
  | .DMX_RES_END_LO => 0x10080048
  | .DMX_RES_END_HI => 0x1008004C
  | .DMX_RES_INFO => 0x10080050
  | .DMX_WINDOWS => 0x10080054
  | .DMX_OVERRUN => 0x10080058
  | .DMX_RESTARTS => 0x1008005C
  | .DMX_CANCELS => 0x10080060
  | .DMX_CNT_CLR => 0x10080064
  | .DMX_WRAM => 0x100C0000
  | .ACQ_CTRL => 0x1000C000
  | .ACQ_STATUS => 0x1000C004
  | .ACQ_STRM => 0x1000C010
  | .ACQ_TRIG_EARLY => 0x1000C020
  | .ACQ_OVF => 0x1000C024
  | .ACQ_CNT_CLR => 0x1000C028
  | .ACQ_DCFG => 0x1000C400
  | .ACQ_DBASE => 0x1000C404
  | .ACQ_DLINES => 0x1000C408
  | .ACQ_DPRE => 0x1000C40C
  | .ACQ_DPOST => 0x1000C410
  | .ACQ_DSEG => 0x1000C414
  | .ACQ_DMASK => 0x1000C418
  | .VRD_STATUS => 0x8000
  | .VRD_LATE => 0x8004
  | .VRD_DUE_ERR => 0x8008
  | .VRD_UNBOUND => 0x800C
  | .VRD_EXP_DROP => 0x8010
  | .VRD_GOV_SUBST => 0x8014
  | .VRD_CNT_CLR => 0x8018
  | .VRD_LAST_LATE => 0x801C
  | .VRD_UNAVAIL => 0x8020
  | .VRD_EXPQ_MAX => 0x8040
  | .VRD_IMP_HOLD => 0x8080
  | .VRD_ROUTE => 0x9000
  | .VRD_DELIV => 0xA000
  | .VRD_EXPORT => 0xB000
  | .VRD_IMPORT => 0xB400
  | .VRD_IMPORT_SL => 0xB800
  | .FF_CTRL => 0x10009000
  | .FF_STATUS => 0x10009004
  | .FF_CFG => 0x10009008
  | .FF_LIM => 0x1000900C
  | .FF_SHORT_CFG => 0x10009010
  | .FF_CODE => 0x10009014
  | .FF_READBACK => 0x10009018
  | .FF_DEFER => 0x1000901C
  | .FF_DISCARD => 0x10009020
  | .FF_REFUSED => 0x10009024
  | .FF_PROV => 0x10009028
  | .FF_DISMISS => 0x1000902C
  | .FF_DGL => 0x10009030
  | .FF_SHORTS => 0x10009034
  | .FF_CNT_CLR => 0x100000C0
  | .MAD_CMD => 0x1000A000
  | .MAD_CFG => 0x1000A004
  | .MAD_STATUS => 0x1000A008
  | .MAD_QSTATUS => 0x1000A00C
  | .MAD_RES_LO => 0x1000A010
  | .MAD_RES_HI => 0x1000A014
  | .MAD_TRIG_DROP => 0x1000A018
  | .MAD_QLOST => 0x1000A01C
  | .MAD_REDO => 0x1000A020
  | .MAD_ABORTS => 0x1000A024
  | .MAD_DIS_COUNT => 0x1000A028
  | .MAD_CNT_CLR => 0x1000A02C
  | .MAD_SCAL_CTRL => 0x1000A030
  | .MAD_SCAL_REF => 0x1000A034
  | .MAD_SCAL_STATUS => 0x1000A038
  | .MAD_SEQ => 0x1000A040
  | .MAD_SYSC_OFF => 0x1000A080
  | .MAD_SYSC_GAIN => 0x1000A0C0
  | .MAD_SCF => 0x1000A100
  | .MAD_STEP => 0x1000A400
  | .MAD_FIFO => 0x1000A800
  | .TDC_CTRL => 0x1000B000
  | .TDC_CFG => 0x1000B004
  | .TDC_STATUS => 0x1000B008
  | .TDC_SETUP => 0x1000B00C
  | .TDC_GATE => 0x1000B01C
  | .TDC_SPACING => 0x1000B020
  | .TDC_REV_DISC => 0x1000B024
  | .TDC_IGNORED => 0x1000B028
  | .TDC_CNT_CLR => 0x1000B02C
  | .TDC_RESULT => 0x1000B200
  | .TDC_RES_VAL_LO => 0x1000B204
  | .TDC_RES_VAL_HI => 0x1000B208
  | .TDC_RES_AUX => 0x1000B20C
  | .TDC_QSTATUS => 0x1000B210
  | .TDC_QCFG => 0x1000B214
  | .TDC_QLOST => 0x1000B218
  | .TDC_QCLR => 0x1000B21C
  | .TDC_FIFO => 0x1000B800
  | .TDC_TIN_CFG => 0x7000
  | .INV_CFG => 0x4000
  | .INV_STATUS => 0x4004
  | .INV_AGE_TRIM => 0x4008
  | .INV_CORR => 0x400C
  | .INV_DISC => 0x4010
  | .INV_PHASE_ERR => 0x4014
  | .INV_TEMP => 0x4018
  | .INV_REF_LOSS => 0x401C
  | .INV_CNT_CLR => 0x4020
  | .CHN_CFG => 0x5000
  | .CHN_CTRL => 0x5004
  | .CHN_STATUS => 0x5008
  | .CHN_EPOCH_LO => 0x500C
  | .CHN_EPOCH_HI => 0x5010
  | .CHN_LAST_EPOCH_LO => 0x5014
  | .CHN_LAST_EPOCH_HI => 0x5018
  | .CHN_LINK => 0x501C
  | .CHN_OFFSET => 0x5020
  | .CHN_TRIM => 0x5024
  | .CHN_EXT_DELAY => 0x5028
  | .CHN_FRAME_ERR => 0x502C
  | .CHN_HOLDOVERS => 0x5030
  | .CHN_CNT_CLR => 0x5034
  | .TRG_CTRL => 0x6000
  | .TRG_STATUS => 0x6004
  | .TRG_DRIVE => 0x6008
  | .TRG_CAL_START_LO => 0x600C
  | .TRG_CAL_START_HI => 0x6010
  | .TRG_LINE => 0x6020
  | .TRG_POS => 0x6040
  | .TRG_EDGES => 0x6060
  | .TRG_MARGINS => 0x6080
  | .TRG_GLITCHES => 0x6084
  | .TRG_CNT_CLR => 0x6088
  | .KTL_CTRL => 0xC000
  | .KTL_CFG => 0xC004
  | .KTL_STATUS => 0xC008
  | .KTL_ID => 0xC00C
  | .KTL_UID_LO => 0xC010
  | .KTL_UID_HI => 0xC014
  | .KTL_ROOT => 0xC018
  | .KTL_COMMIT_DELAY => 0xC01C
  | .KTL_TOPO_EXPECT => 0xC020
  | .KTL_TOPO_SEEN => 0xC024
  | .KTL_LINKS_DOWN => 0xC028
  | .KTL_UNREACH_DROP => 0xC02C
  | .KTL_TTL_DROP => 0xC030
  | .KTL_BAR_LATE => 0xC034
  | .KTL_BAR_ABORTS => 0xC038
  | .KTL_CNT_CLR => 0xC03C
  | .KTL_PORT_CFG => 0xC100
  | .KTL_PORT_STATUS => 0xC104
  | .KTL_PORT_NBR => 0xC108
  | .KTL_PORT_FLIGHT => 0xC10C
  | .KTL_FEC_CORR => 0xC110
  | .KTL_FEC_UNCORR => 0xC114
  | .KTL_REPLAYS => 0xC118
  | .KTL_PORT_DOWNS => 0xC11C
  | .KTL_PORT_CLR => 0xC120
  | .KTL_RT => 0xD000
  | .KTL_BAR_CFG => 0xF000
  | .KTL_BAR_DELAY => 0xF004
  | .KTL_BAR_STATE => 0xF800
  | .HST_PTP_CFG => 0x1000
  | .HST_PTP_STATUS => 0x1004
  | .HST_TOD_CTRL => 0x1008
  | .HST_TOD_ADJ => 0x100C
  | .HST_TOD_SEC_LO => 0x1010
  | .HST_TOD_SEC_HI => 0x1014
  | .HST_TOD_NS => 0x1018
  | .HST_TOD_BEAT_LO => 0x101C
  | .HST_TOD_BEAT_HI => 0x1020
  | .HST_PORT_CFG => 0x1100
  | .HST_PORT_STATUS => 0x1104
  | .HST_MAC_LO => 0x1108
  | .HST_MAC_HI => 0x110C
  | .HST_IP4 => 0x1110
  | .HST_IP6 => 0x1114
  | .HST_FEC_CORR => 0x1124
  | .HST_FEC_UNCORR => 0x1128
  | .HST_RX_DROP => 0x112C
  | .HST_CNT_CLR => 0x1130
  | .CTP_CFG => 0x2000
  | .CTP_STATUS => 0x2004
  | .CTP_PEER_PORT => 0x2008
  | .CTP_PEER_ADDR => 0x200C
  | .CTP_RING => 0x201C
  | .CTP_CREDIT_WAIT => 0x2020
  | .CTP_RETX => 0x2024
  | .CTP_DUP => 0x2028
  | .CTP_OOS => 0x202C
  | .CTP_TAG_ERR => 0x2030
  | .CTP_CNT_CLR => 0x2034
  | .CTP_TUNNEL_TMO => 0x2100
  | .EVT_CFG => 0x3000
  | .EVT_STATUS => 0x3004
  | .EVT_QSTATUS => 0x3008
  | .EVT_LOST => 0x300C
  | .EVT_RD0 => 0x3010
  | .EVT_RD1 => 0x3014
  | .EVT_RD2 => 0x3018
  | .EVT_RD3 => 0x301C
  | .EVT_CNT_CLR => 0x3020
  | .EVT_MASK => 0x3040
  | .DMA_CTRL => 0x10000
  | .DMA_STATUS => 0x10004
  | .DMA_ACTIVE => 0x10008
  | .DMA_BUSERR_BEAT_LO => 0x1000C
  | .DMA_BUSERR_BEAT_HI => 0x10010
  | .DMA_BUSERRS => 0x10014
  | .DMA_CNT_CLR => 0x10018
  | .DMA_CH_CTRL => 0x10100
  | .DMA_CH_CFG => 0x10104
  | .DMA_CH_STATUS => 0x10108
  | .DMA_CH_DESC => 0x1010C
  | .DMA_CH_RESIDUE => 0x10110
  | .DMA_CH_DROPPED => 0x10114
  | .DMA_CH_DESCS => 0x10118
  | .DMA_CH_BYTES_LO => 0x1011C
  | .DMA_CH_BYTES_HI => 0x10120
  | .DMA_CH_WAIT => 0x10124
  | .DMA_CH_CLR => 0x10128
  | .SIDE_CFG => 0x15000
  | .SIDE_STATUS => 0x15004
  | .SIDE_PAGE => 0x15008
  | .SIDE_FRAMES => 0x1500C
  | .SIDE_WORDS => 0x15010
  | .SIDE_CNT_CLR => 0x15014
  | .ACC_CTRL => 0x16000
  | .ACC_CFG => 0x16004
  | .ACC_FRAME => 0x16008
  | .ACC_STATUS => 0x1600C
  | .ACC_FRAMES => 0x16010
  | .ACC_CNT_CLR => 0x16014
  | .ACC_TX => 0x16040
  | .ACC_RX => 0x16060
  | .PWT_CTRL => 0x17000
  | .PWT_STATUS => 0x17004
  | .PWT_BYTES => 0x17008
  | .PWT_CNT_CLR => 0x1700C
  | .PWR_STATUS => 0x14000
  | .PWR_BUDGET_MW => 0x14004
  | .PWR_RAMP => 0x14008
  | .PWR_BASE_MW => 0x1400C
  | .PWR_COMMITTED_MW => 0x14010
  | .PWR_QSTATUS => 0x14014
  | .PWR_HEAD => 0x14018
  | .PWR_LAST_REFUSED => 0x1401C
  | .PWR_GRANTS => 0x14020
  | .PWR_WAIT_BEATS => 0x14024
  | .PWR_MEAS_MW => 0x14028
  | .PWR_CNT_CLR => 0x1402C
  | .PWR_DRAIN_TIMEOUT => 0x14030
  | .PWR_DIS_LAST => 0x14034
  | .PWR_COST => 0x14040
  | .PWR_DOM => 0x14100
  | .NRG_TX_LIM_MS => 0x18000
  | .NRG_TX_LIM_S => 0x18004
  | .NRG_TX_CFG => 0x18008
  | .NRG_TX_STATUS => 0x1800C
  | .NRG_TX_LEVEL_MS => 0x18010
  | .NRG_TX_LEVEL_S => 0x18014
  | .NRG_TX_TRIPS => 0x18018
  | .NRG_TX_CLR => 0x1801C
  | .NRG_FF_LIM => 0x19000
  | .NRG_FF_RLOAD => 0x19004
  | .NRG_FF_CFG => 0x19008
  | .NRG_FF_STATUS => 0x1900C
  | .NRG_FF_LEVEL => 0x19010
  | .NRG_FF_TRIPS => 0x19014
  | .NRG_FF_CLR => 0x19018
  | .NRG_PIN_CFG => 0x1A000
  | .NRG_PIN_STATUS => 0x1A004
  | .NRG_PIN_ENERGY => 0x1A008
  | .NRG_STATUS => 0x1C000
  | .CAL_CFG => 0x20000
  | .CAL_STATUS => 0x20004
  | .CAL_CTRL => 0x20008
  | .CAL_VAULT_STATUS => 0x2000C
  | .CAL_SEL => 0x20010
  | .CAL_APPLY_AT_LO => 0x20014
  | .CAL_APPLY_AT_HI => 0x20018
  | .CAL_VAULT_SEQ => 0x20100
  | .CAL_SET => 0x20200
  | .CAL_CONV_CTRL => 0x21000
  | .CAL_CONV_STATUS => 0x21004
  | .CAL_AGE => 0x21008
  | .CAL_APPLIED => 0x2100C
  | .CAL_FG_CTRL => 0x23000
  | .CAL_FG_STATUS => 0x23004
  | .FLT_CFG => 0x30000
  | .FLT_STATUS => 0x30004
  | .FLT_CTRL => 0x30008
  | .FLT_ACK => 0x3000C
  | .FLT_INJECT => 0x30010
  | .FLT_INJECT_IDX => 0x30014
  | .FLT_QSTATUS => 0x30018
  | .FLT_ST_WAIT => 0x3001C
  | .FLT_LOG_WP => 0x30020
  | .FLT_LOG_LOST => 0x30024
  | .FLT_LOSS_LO => 0x30028
  | .FLT_LOSS_HI => 0x3002C
  | .FLT_L3_COUNT => 0x30030
  | .FLT_CNT_CLR => 0x30034
  | .FLT_CLASS => 0x30040
  | .FLT_CLASS_CFG => 0x30060
  | .FLT_SRC_CFG => 0x30100
  | .FLT_SRC_COUNT => 0x30500
  | .FLT_LOG => 0x31000
  | .RPL_CFG => 0x34000
  | .RPL_CTRL => 0x34004
  | .RPL_STATUS => 0x34008
  | .RPL_RING_BASE => 0x3400C
  | .RPL_RING_LINES => 0x34010
  | .RPL_WP => 0x34014
  | .RPL_RP => 0x34018
  | .RPL_LOST => 0x3401C
  | .RPL_RECORDS => 0x34020
  | .RPL_CNT_CLR => 0x34024
  | .RPL_DEC_EN => 0x34028
  | .RPL_ANCHOR_LO => 0x34030
  | .RPL_ANCHOR_HI => 0x34034
  | .RPL_DIV_BEAT_LO => 0x34040
  | .RPL_DIV_BEAT_HI => 0x34044
  | .RPL_DIV_INFO => 0x34048
  | .RPL_DIV_EXP_LO => 0x34050
  | .RPL_DIV_EXP_HI => 0x34054
  | .RPL_DIV_OBS_LO => 0x34058
  | .RPL_DIV_OBS_HI => 0x3405C
  | .RPL_REPLAY_WP => 0x34060
  | .RPL_REPLAY_RP => 0x34064
  | .BOOT_STATUS => 0x35000
  | .BOOT_CTRL => 0x35004
  | .BOOT_CFG => 0x35008
  | .BOOT_FUSES => 0x3500C
  | .BOOT_FW_VER => 0x35010
  | .BOOT_IDCODE => 0x35014
  | .BOOT_KEY_PROG => 0x35018
  | .BOOT_FL_OP => 0x35020
  | .BOOT_FL_ADDR => 0x35024
  | .BOOT_FL_SRC => 0x35028
  | .BOOT_FL_LEN => 0x3502C
  | .BOOT_FL_STATUS => 0x35030
  | .BOOT_RUN_AT_LO => 0x35040
  | .BOOT_RUN_AT_HI => 0x35044
  | .BOOT_RUN_MASK => 0x35048
  | .BOOT_RUN_STATUS => 0x3504C
  | .MGT_CTRL => 0x36000
  | .MGT_STATUS => 0x36004
  | .MGT_LOAD => 0x36008
  | .MGT_LOAD_CFG => 0x3600C
  | .MGT_WDOG_KICK => 0x36010
  | .MGT_RESTARTS => 0x36014
  | .MGT_SWAPS => 0x36018
  | .MGT_CNT_CLR => 0x3601C

/-- The indices of a register, first index first: the distance in bytes between two copies, and how many there are.
The first index of a slice register is the slice, 1 MiB apart (R525). -/
def dims : Reg → List (Nat × Nat)
  | .SLC_WHEEL_CTRL => [(0x100000, 16)]
  | .SLC_WHEEL_STATUS => [(0x100000, 16)]
  | .SLC_WHEEL_START_LO => [(0x100000, 16)]
  | .SLC_WHEEL_START_HI => [(0x100000, 16)]
  | .SLC_WHEEL_MAP => [(0x100000, 16), (0x4, 16)]
  | .SLC_CONFLICT => [(0x100000, 16), (0x4, 7)]
  | .SLC_CONFLICT_CLR => [(0x100000, 16)]
  | .SLC_STORE_PWR => [(0x100000, 16)]
  | .SLC_ECC_CE => [(0x100000, 16)]
  | .SLC_ECC_UE => [(0x100000, 16)]
  | .SLC_ECC_ADDR => [(0x100000, 16)]
  | .SLC_SCRUB_CTRL => [(0x100000, 16)]
  | .SLC_SCRUB_LATE => [(0x100000, 16)]
  | .SLC_ECC_CLR => [(0x100000, 16)]
  | .GLB_BEAT_LO => []
  | .GLB_BEAT_HI => []
  | .GLB_CSTORE_PWR => []
  | .GLB_CSTORE_WAIT => [(0x4, 4)]
  | .GLB_CSTORE_ECC_CE => []
  | .GLB_CSTORE_ECC_UE => []
  | .GLB_CSTORE_ECC_ADDR => []
  | .GLB_CSTORE_SCRUB => []
  | .GLB_CSTORE_SCRUB_LATE => []
  | .GLB_CSTORE_CLR => []
  | .GLB_IMG_CTRL => []
  | .GLB_IMG_STATUS => []
  | .GLB_IMG_SRC => []
  | .GLB_IMG_LEN => []
  | .GLB_IMG_REJOIN_LO => []
  | .GLB_IMG_REJOIN_HI => []
  | .GLB_IMG_DRAIN_LO => []
  | .GLB_IMG_DRAIN_HI => []
  | .GLB_IMG_CSERIAL_LO => []
  | .GLB_IMG_CSERIAL_HI => []
  | .GLB_IMG_FORMAT => []
  | .GLB_IMG_COUNT => []
  | .GLB_IMG_COUNT_CLR => []
  | .GLB_IMG_SSERIAL_LO => [(0x8, 16)]
  | .GLB_IMG_SSERIAL_HI => [(0x8, 16)]
  | .SEQ_CTRL => [(0x100000, 16)]
  | .SEQ_STATUS => [(0x100000, 16)]
  | .SEQ_PC => [(0x100000, 16)]
  | .SEQ_ERR_PC => [(0x100000, 16)]
  | .SEQ_HALT_CODE => [(0x100000, 16)]
  | .SEQ_FLAGS => [(0x100000, 16)]
  | .SEQ_START_LO => [(0x100000, 16)]
  | .SEQ_START_HI => [(0x100000, 16)]
  | .SEQ_ISSUED_LO => [(0x100000, 16)]
  | .SEQ_ISSUED_HI => [(0x100000, 16)]
  | .SEQ_STALL => [(0x100000, 16)]
  | .SEQ_VERDICT_OVW => [(0x100000, 16)]
  | .SEQ_EV_DROP => [(0x100000, 16)]
  | .SEQ_ELASTIC_BEATS => [(0x100000, 16)]
  | .SEQ_TIMEOUTS => [(0x100000, 16)]
  | .SEQ_LATE => [(0x100000, 16)]
  | .SEQ_LCOUNT => [(0x100000, 16), (0x4, 8)]
  | .SEQ_CNT_CLR => [(0x100000, 16)]
  | .SEQ_LIM_LO => [(0x100000, 16), (0x8, 16)]
  | .SEQ_LIM_HI => [(0x100000, 16), (0x8, 16)]
  | .SEQ_BRD => [(0x100000, 16), (0x4, 64)]
  | .SEQ_BSEL => [(0x100000, 16), (0x4, 512)]
  | .SEQ_BRES => [(0x100000, 16), (0x4, 64)]
  | .SEQ_VNEW => [(0x100000, 16), (0x4, 32)]
  | .SEQ_XNEW => [(0x100000, 16), (0x4, 8)]
  | .SEQ_BTERM => [(0x100000, 16), (0x4, 1024)]
  | .VEC_CTRL => [(0x100000, 16)]
  | .VEC_STATUS => [(0x100000, 16)]
  | .VEC_ADDR => [(0x100000, 16)]
  | .VEC_ERR_ADDR => [(0x100000, 16)]
  | .VEC_INDEX_LO => [(0x100000, 16)]
  | .VEC_INDEX_HI => [(0x100000, 16)]
  | .VEC_FAILVEC_LO => [(0x100000, 16)]
  | .VEC_FAILVEC_HI => [(0x100000, 16)]
  | .VEC_UNDERRUNS => [(0x100000, 16)]
  | .VEC_CLAMPS => [(0x100000, 16)]
  | .VEC_MATCH_EXP => [(0x100000, 16)]
  | .VEC_CNT_CLR => [(0x100000, 16)]
  | .VEC_ENTRY => [(0x100000, 16), (0x4, 8)]
  | .VEC_RING_BASE => [(0x100000, 16)]
  | .VEC_RING_LINES => [(0x100000, 16)]
  | .VEC_RING_WP => [(0x100000, 16)]
  | .VEC_RING_RP => [(0x100000, 16)]
  | .VEC_RING_READY => [(0x100000, 16)]
  | .VEC_FC_BASE => [(0x100000, 16)]
  | .VEC_FC_LINES => [(0x100000, 16)]
  | .VEC_FC_WP => [(0x100000, 16)]
  | .VEC_FC_RECS => [(0x100000, 16)]
  | .VEC_FC_LOST => [(0x100000, 16)]
  | .VEC_PFAIL => [(0x100000, 16), (0x4, 32)]
  | .VEC_PFAIL_CLR => [(0x100000, 16)]
  | .VEC_WIN_PINS => [(0x100000, 16), (0x4, 64)]
  | .VEC_WIN_OPEN_LO => [(0x100000, 16)]
  | .VEC_WIN_OPEN_HI => [(0x100000, 16)]
  | .TSET_PERIOD => [(0x100000, 16), (0x10, 32)]
  | .TSET_PIN_EN => [(0x100000, 16), (0x10, 32)]
  | .TSET_HALT_LO => [(0x100000, 16), (0x10, 32)]
  | .TSET_HALT_HI => [(0x100000, 16), (0x10, 32)]
  | .TSET_STATUS => [(0x100000, 16), (0x4, 32)]
  | .TSET_FMT => [(0x100000, 16), (0x400, 32), (0x20, 32)]
  | .TSET_EDGE => [(0x100000, 16), (0x400, 32), (0x20, 32), (0x4, 5)]
  | .PIN_VIL => [(0x100000, 16), (0x40, 32)]
  | .PIN_VIH => [(0x100000, 16), (0x40, 32)]
  | .PIN_VTERM => [(0x100000, 16), (0x40, 32)]
  | .PIN_VOL => [(0x100000, 16), (0x40, 32)]
  | .PIN_VOH => [(0x100000, 16), (0x40, 32)]
  | .PIN_VCOM => [(0x100000, 16), (0x40, 32)]
  | .PIN_ILOAD => [(0x100000, 16), (0x40, 32)]
  | .PIN_CFG => [(0x100000, 16), (0x40, 32)]
  | .PIN_PMU_CTRL => [(0x100000, 16), (0x40, 32)]
  | .PIN_PMU_FORCE => [(0x100000, 16), (0x40, 32)]
  | .PIN_PMU_CLAMP => [(0x100000, 16), (0x40, 32)]
  | .PIN_STATUS => [(0x100000, 16), (0x40, 32)]
  | .PIN_CC_LIM => [(0x100000, 16), (0x40, 32)]
  | .PIN_CC_RESULT => [(0x100000, 16), (0x40, 32)]
  | .PIN_GUARD_CTRL => [(0x100000, 16)]
  | .PIN_GUARD_STATUS => [(0x100000, 16)]
  | .PIN_GUARDED => [(0x100000, 16)]
  | .PIN_RELEASE => [(0x100000, 16)]
  | .PIN_CC_CTRL => [(0x100000, 16)]
  | .PIN_CC_STATUS => [(0x100000, 16)]
  | .PIN_CC_CFG => [(0x100000, 16)]
  | .PIN_CC_MASK => [(0x100000, 16)]
  | .PIN_GUARD_COUNT => [(0x100000, 16)]
  | .PIN_LOAD_STATUS => [(0x100000, 16)]
  | .PIN_CNT_CLR => [(0x100000, 16)]
  | .TON_CTRL => [(0x100000, 16), (0x40, 32)]
  | .TON_CFG => [(0x100000, 16), (0x40, 32)]
  | .TON_STATUS => [(0x100000, 16), (0x40, 32)]
  | .TON_INDEX => [(0x100000, 16), (0x40, 32)]
  | .TON_ENTRY => [(0x100000, 16), (0x40, 32), (0x4, 4)]
  | .TON_FTW_LO => [(0x100000, 16), (0x40, 32)]
  | .TON_FTW_HI => [(0x100000, 16), (0x40, 32)]
  | .TON_POFF => [(0x100000, 16), (0x40, 32)]
  | .TON_AMP => [(0x100000, 16), (0x40, 32)]
  | .TON_UNDERRUNS => [(0x100000, 16), (0x40, 32)]
  | .TON_ERRORS => [(0x100000, 16), (0x40, 32)]
  | .TON_CNT_CLR => [(0x100000, 16), (0x40, 32)]
  | .TXC_CTRL => [(0x100000, 16), (0x400, 4)]
  | .TXC_STATUS => [(0x100000, 16), (0x400, 4)]
  | .TXC_CFG => [(0x100000, 16), (0x400, 4)]
  | .TXC_GAIN => [(0x100000, 16), (0x400, 4)]
  | .TXC_CLIP => [(0x100000, 16), (0x400, 4)]
  | .TXC_MK_CFG => [(0x100000, 16), (0x400, 4), (0x4, 2)]
  | .TXC_MK_STATUS => [(0x100000, 16), (0x400, 4)]
  | .TXC_CNT_CLR => [(0x100000, 16), (0x400, 4)]
  | .TXC_TRK_USE => [(0x100000, 16), (0x400, 4)]
  | .TXC_TRK_REBASE => [(0x100000, 16), (0x400, 4)]
  | .TXC_TRK_SEL => [(0x100000, 16), (0x400, 4)]
  | .TXC_TRK_ACC_LO => [(0x100000, 16), (0x400, 4)]
  | .TXC_TRK_ACC_HI => [(0x100000, 16), (0x400, 4)]
  | .TXC_MUTE_CNT => [(0x100000, 16), (0x400, 4)]
  | .TXC_TRK_FTW_LO => [(0x100000, 16), (0x400, 4), (0x8, 32)]
  | .TXC_TRK_FTW_HI => [(0x100000, 16), (0x400, 4), (0x8, 32)]
  | .RXC_CTRL => [(0x100000, 16), (0x100, 2)]
  | .RXC_STATUS => [(0x100000, 16), (0x100, 2)]
  | .RXC_CFG => [(0x100000, 16), (0x100, 2)]
  | .RXC_OVR => [(0x100000, 16), (0x100, 2)]
  | .RXC_CNT_CLR => [(0x100000, 16), (0x100, 2)]
  | .DMX_CFG => [(0x100000, 16), (0x80, 32)]
  | .DMX_ROUTE => [(0x100000, 16), (0x80, 32)]
  | .DMX_STATUS => [(0x100000, 16), (0x80, 32)]
  | .DMX_POFF => [(0x100000, 16), (0x80, 32)]
  | .DMX_FTW_LO => [(0x100000, 16), (0x80, 32)]
  | .DMX_FTW_HI => [(0x100000, 16), (0x80, 32)]
  | .DMX_WSET => [(0x100000, 16), (0x80, 32), (0x4, 4)]
  | .DMX_LINE_AB => [(0x100000, 16), (0x80, 32), (0x4, 2)]
  | .DMX_LINE_C_LO => [(0x100000, 16), (0x80, 32), (0x8, 2)]
  | .DMX_LINE_C_HI => [(0x100000, 16), (0x80, 32), (0x8, 2)]
  | .DMX_RES_I => [(0x100000, 16), (0x80, 32)]
  | .DMX_RES_Q => [(0x100000, 16), (0x80, 32)]
  | .DMX_RES_END_LO => [(0x100000, 16), (0x80, 32)]
  | .DMX_RES_END_HI => [(0x100000, 16), (0x80, 32)]
  | .DMX_RES_INFO => [(0x100000, 16), (0x80, 32)]
  | .DMX_WINDOWS => [(0x100000, 16), (0x80, 32)]
  | .DMX_OVERRUN => [(0x100000, 16), (0x80, 32)]
  | .DMX_RESTARTS => [(0x100000, 16), (0x80, 32)]
  | .DMX_CANCELS => [(0x100000, 16), (0x80, 32)]
  | .DMX_CNT_CLR => [(0x100000, 16), (0x80, 32)]
  | .DMX_WRAM => [(0x100000, 16), (0x2000, 32), (0x4, 2048)]
  | .ACQ_CTRL => [(0x100000, 16)]
  | .ACQ_STATUS => [(0x100000, 16)]
  | .ACQ_STRM => [(0x100000, 16), (0x4, 4)]
  | .ACQ_TRIG_EARLY => [(0x100000, 16)]
  | .ACQ_OVF => [(0x100000, 16)]
  | .ACQ_CNT_CLR => [(0x100000, 16)]
  | .ACQ_DCFG => [(0x100000, 16), (0x20, 64)]
  | .ACQ_DBASE => [(0x100000, 16), (0x20, 64)]
  | .ACQ_DLINES => [(0x100000, 16), (0x20, 64)]
  | .ACQ_DPRE => [(0x100000, 16), (0x20, 64)]
  | .ACQ_DPOST => [(0x100000, 16), (0x20, 64)]
  | .ACQ_DSEG => [(0x100000, 16), (0x20, 64)]
  | .ACQ_DMASK => [(0x100000, 16), (0x20, 64)]
  | .VRD_STATUS => []
  | .VRD_LATE => []
  | .VRD_DUE_ERR => []
  | .VRD_UNBOUND => []
  | .VRD_EXP_DROP => []
  | .VRD_GOV_SUBST => []
  | .VRD_CNT_CLR => []
  | .VRD_LAST_LATE => []
  | .VRD_UNAVAIL => []
  | .VRD_EXPQ_MAX => [(0x4, 4)]
  | .VRD_IMP_HOLD => [(0x4, 8)]
  | .VRD_ROUTE => [(0x4, 1024)]
  | .VRD_DELIV => [(0x4, 1024)]
  | .VRD_EXPORT => [(0x4, 256)]
  | .VRD_IMPORT => [(0x4, 256)]
  | .VRD_IMPORT_SL => [(0x4, 256)]
  | .FF_CTRL => [(0x100000, 16), (0x40, 8)]
  | .FF_STATUS => [(0x100000, 16), (0x40, 8)]
  | .FF_CFG => [(0x100000, 16), (0x40, 8)]
  | .FF_LIM => [(0x100000, 16), (0x40, 8)]
  | .FF_SHORT_CFG => [(0x100000, 16), (0x40, 8)]
  | .FF_CODE => [(0x100000, 16), (0x40, 8)]
  | .FF_READBACK => [(0x100000, 16), (0x40, 8)]
  | .FF_DEFER => [(0x100000, 16), (0x40, 8)]
  | .FF_DISCARD => [(0x100000, 16), (0x40, 8)]
  | .FF_REFUSED => [(0x100000, 16), (0x40, 8)]
  | .FF_PROV => [(0x100000, 16), (0x40, 8)]
  | .FF_DISMISS => [(0x100000, 16), (0x40, 8)]
  | .FF_DGL => [(0x100000, 16), (0x40, 8)]
  | .FF_SHORTS => [(0x100000, 16), (0x40, 8)]
  | .FF_CNT_CLR => [(0x100000, 16)]
  | .MAD_CMD => [(0x100000, 16)]
  | .MAD_CFG => [(0x100000, 16)]
  | .MAD_STATUS => [(0x100000, 16)]
  | .MAD_QSTATUS => [(0x100000, 16)]
  | .MAD_RES_LO => [(0x100000, 16)]
  | .MAD_RES_HI => [(0x100000, 16)]
  | .MAD_TRIG_DROP => [(0x100000, 16)]
  | .MAD_QLOST => [(0x100000, 16)]
  | .MAD_REDO => [(0x100000, 16)]
  | .MAD_ABORTS => [(0x100000, 16)]
  | .MAD_DIS_COUNT => [(0x100000, 16)]
  | .MAD_CNT_CLR => [(0x100000, 16)]
  | .MAD_SCAL_CTRL => [(0x100000, 16)]
  | .MAD_SCAL_REF => [(0x100000, 16)]
  | .MAD_SCAL_STATUS => [(0x100000, 16)]
  | .MAD_SEQ => [(0x100000, 16), (0x4, 16)]
  | .MAD_SYSC_OFF => [(0x100000, 16), (0x4, 16)]
  | .MAD_SYSC_GAIN => [(0x100000, 16), (0x4, 16)]
  | .MAD_SCF => [(0x100000, 16), (0x4, 10)]
  | .MAD_STEP => [(0x100000, 16), (0x4, 256)]
  | .MAD_FIFO => [(0x100000, 16), (0x4, 128)]
  | .TDC_CTRL => [(0x100000, 16), (0x40, 8)]
  | .TDC_CFG => [(0x100000, 16), (0x40, 8)]
  | .TDC_STATUS => [(0x100000, 16), (0x40, 8)]
  | .TDC_SETUP => [(0x100000, 16), (0x40, 8), (0x4, 4)]
  | .TDC_GATE => [(0x100000, 16), (0x40, 8)]
  | .TDC_SPACING => [(0x100000, 16), (0x40, 8)]
  | .TDC_REV_DISC => [(0x100000, 16), (0x40, 8)]
  | .TDC_IGNORED => [(0x100000, 16), (0x40, 8)]
  | .TDC_CNT_CLR => [(0x100000, 16), (0x40, 8)]
  | .TDC_RESULT => [(0x100000, 16)]
  | .TDC_RES_VAL_LO => [(0x100000, 16)]
  | .TDC_RES_VAL_HI => [(0x100000, 16)]
  | .TDC_RES_AUX => [(0x100000, 16)]
  | .TDC_QSTATUS => [(0x100000, 16)]
  | .TDC_QCFG => [(0x100000, 16)]
  | .TDC_QLOST => [(0x100000, 16)]
  | .TDC_QCLR => [(0x100000, 16)]
  | .TDC_FIFO => [(0x100000, 16), (0x4, 128)]
  | .TDC_TIN_CFG => [(0x4, 16)]
  | .INV_CFG => []
  | .INV_STATUS => []
  | .INV_AGE_TRIM => []
  | .INV_CORR => []
  | .INV_DISC => []
  | .INV_PHASE_ERR => []
  | .INV_TEMP => []
  | .INV_REF_LOSS => []
  | .INV_CNT_CLR => []
  | .CHN_CFG => []
  | .CHN_CTRL => []
  | .CHN_STATUS => []
  | .CHN_EPOCH_LO => []
  | .CHN_EPOCH_HI => []
  | .CHN_LAST_EPOCH_LO => []
  | .CHN_LAST_EPOCH_HI => []
  | .CHN_LINK => []
  | .CHN_OFFSET => []
  | .CHN_TRIM => []
  | .CHN_EXT_DELAY => []
  | .CHN_FRAME_ERR => []
  | .CHN_HOLDOVERS => []
  | .CHN_CNT_CLR => []
  | .TRG_CTRL => []
  | .TRG_STATUS => []
  | .TRG_DRIVE => []
  | .TRG_CAL_START_LO => []
  | .TRG_CAL_START_HI => []
  | .TRG_LINE => [(0x4, 8)]
  | .TRG_POS => [(0x4, 8)]
  | .TRG_EDGES => [(0x4, 8)]
  | .TRG_MARGINS => []
  | .TRG_GLITCHES => []
  | .TRG_CNT_CLR => []
  | .KTL_CTRL => []
  | .KTL_CFG => []
  | .KTL_STATUS => []
  | .KTL_ID => []
  | .KTL_UID_LO => []
  | .KTL_UID_HI => []
  | .KTL_ROOT => []
  | .KTL_COMMIT_DELAY => []
  | .KTL_TOPO_EXPECT => []
  | .KTL_TOPO_SEEN => []
  | .KTL_LINKS_DOWN => []
  | .KTL_UNREACH_DROP => []
  | .KTL_TTL_DROP => []
  | .KTL_BAR_LATE => []
  | .KTL_BAR_ABORTS => []
  | .KTL_CNT_CLR => []
  | .KTL_PORT_CFG => [(0x40, 4)]
  | .KTL_PORT_STATUS => [(0x40, 4)]
  | .KTL_PORT_NBR => [(0x40, 4)]
  | .KTL_PORT_FLIGHT => [(0x40, 4)]
  | .KTL_FEC_CORR => [(0x40, 4)]
  | .KTL_FEC_UNCORR => [(0x40, 4)]
  | .KTL_REPLAYS => [(0x40, 4)]
  | .KTL_PORT_DOWNS => [(0x40, 4)]
  | .KTL_PORT_CLR => [(0x40, 4)]
  | .KTL_RT => [(0x4, 1024)]
  | .KTL_BAR_CFG => [(0x8, 256)]
  | .KTL_BAR_DELAY => [(0x8, 256)]
  | .KTL_BAR_STATE => [(0x4, 256)]
  | .HST_PTP_CFG => []
  | .HST_PTP_STATUS => []
  | .HST_TOD_CTRL => []
  | .HST_TOD_ADJ => []
  | .HST_TOD_SEC_LO => []
  | .HST_TOD_SEC_HI => []
  | .HST_TOD_NS => []
  | .HST_TOD_BEAT_LO => []
  | .HST_TOD_BEAT_HI => []
  | .HST_PORT_CFG => [(0x80, 2)]
  | .HST_PORT_STATUS => [(0x80, 2)]
  | .HST_MAC_LO => [(0x80, 2)]
  | .HST_MAC_HI => [(0x80, 2)]
  | .HST_IP4 => [(0x80, 2)]
  | .HST_IP6 => [(0x80, 2), (0x4, 4)]
  | .HST_FEC_CORR => [(0x80, 2)]
  | .HST_FEC_UNCORR => [(0x80, 2)]
  | .HST_RX_DROP => [(0x80, 2)]
  | .HST_CNT_CLR => [(0x80, 2)]
  | .CTP_CFG => [(0x80, 2)]
  | .CTP_STATUS => [(0x80, 2)]
  | .CTP_PEER_PORT => [(0x80, 2)]
  | .CTP_PEER_ADDR => [(0x80, 2), (0x4, 4)]
  | .CTP_RING => [(0x80, 2)]
  | .CTP_CREDIT_WAIT => [(0x80, 2)]
  | .CTP_RETX => [(0x80, 2)]
  | .CTP_DUP => [(0x80, 2)]
  | .CTP_OOS => [(0x80, 2)]
  | .CTP_TAG_ERR => [(0x80, 2)]
  | .CTP_CNT_CLR => [(0x80, 2)]
  | .CTP_TUNNEL_TMO => []
  | .EVT_CFG => []
  | .EVT_STATUS => []
  | .EVT_QSTATUS => []
  | .EVT_LOST => []
  | .EVT_RD0 => []
  | .EVT_RD1 => []
  | .EVT_RD2 => []
  | .EVT_RD3 => []
  | .EVT_CNT_CLR => []
  | .EVT_MASK => [(0x4, 8)]
  | .DMA_CTRL => []
  | .DMA_STATUS => []
  | .DMA_ACTIVE => []
  | .DMA_BUSERR_BEAT_LO => []
  | .DMA_BUSERR_BEAT_HI => []
  | .DMA_BUSERRS => []
  | .DMA_CNT_CLR => []
  | .DMA_CH_CTRL => [(0x40, 32)]
  | .DMA_CH_CFG => [(0x40, 32)]
  | .DMA_CH_STATUS => [(0x40, 32)]
  | .DMA_CH_DESC => [(0x40, 32)]
  | .DMA_CH_RESIDUE => [(0x40, 32)]
  | .DMA_CH_DROPPED => [(0x40, 32)]
  | .DMA_CH_DESCS => [(0x40, 32)]
  | .DMA_CH_BYTES_LO => [(0x40, 32)]
  | .DMA_CH_BYTES_HI => [(0x40, 32)]
  | .DMA_CH_WAIT => [(0x40, 32)]
  | .DMA_CH_CLR => [(0x40, 32)]
  | .SIDE_CFG => []
  | .SIDE_STATUS => []
  | .SIDE_PAGE => []
  | .SIDE_FRAMES => []
  | .SIDE_WORDS => []
  | .SIDE_CNT_CLR => []
  | .ACC_CTRL => []
  | .ACC_CFG => []
  | .ACC_FRAME => []
  | .ACC_STATUS => []
  | .ACC_FRAMES => []
  | .ACC_CNT_CLR => []
  | .ACC_TX => [(0x4, 8)]
  | .ACC_RX => [(0x4, 8)]
  | .PWT_CTRL => []
  | .PWT_STATUS => []
  | .PWT_BYTES => []
  | .PWT_CNT_CLR => []
  | .PWR_STATUS => []
  | .PWR_BUDGET_MW => []
  | .PWR_RAMP => []
  | .PWR_BASE_MW => []
  | .PWR_COMMITTED_MW => []
  | .PWR_QSTATUS => []
  | .PWR_HEAD => []
  | .PWR_LAST_REFUSED => []
  | .PWR_GRANTS => []
  | .PWR_WAIT_BEATS => []
  | .PWR_MEAS_MW => []
  | .PWR_CNT_CLR => []
  | .PWR_DRAIN_TIMEOUT => []
  | .PWR_DIS_LAST => []
  | .PWR_COST => [(0x4, 8)]
  | .PWR_DOM => [(0x4, 39)]
  | .NRG_TX_LIM_MS => [(0x20, 64)]
  | .NRG_TX_LIM_S => [(0x20, 64)]
  | .NRG_TX_CFG => [(0x20, 64)]
  | .NRG_TX_STATUS => [(0x20, 64)]
  | .NRG_TX_LEVEL_MS => [(0x20, 64)]
  | .NRG_TX_LEVEL_S => [(0x20, 64)]
  | .NRG_TX_TRIPS => [(0x20, 64)]
  | .NRG_TX_CLR => [(0x20, 64)]
  | .NRG_FF_LIM => [(0x20, 128)]
  | .NRG_FF_RLOAD => [(0x20, 128)]
  | .NRG_FF_CFG => [(0x20, 128)]
  | .NRG_FF_STATUS => [(0x20, 128)]
  | .NRG_FF_LEVEL => [(0x20, 128)]
  | .NRG_FF_TRIPS => [(0x20, 128)]
  | .NRG_FF_CLR => [(0x20, 128)]
  | .NRG_PIN_CFG => [(0x10, 512)]
  | .NRG_PIN_STATUS => [(0x10, 512)]
  | .NRG_PIN_ENERGY => [(0x10, 512)]
  | .NRG_STATUS => []
  | .CAL_CFG => []
  | .CAL_STATUS => []
  | .CAL_CTRL => []
  | .CAL_VAULT_STATUS => []
  | .CAL_SEL => []
  | .CAL_APPLY_AT_LO => []
  | .CAL_APPLY_AT_HI => []
  | .CAL_VAULT_SEQ => [(0x4, 17)]
  | .CAL_SET => [(0x4, 128)]
  | .CAL_CONV_CTRL => [(0x10, 369)]
  | .CAL_CONV_STATUS => [(0x10, 369)]
  | .CAL_AGE => [(0x10, 369)]
  | .CAL_APPLIED => [(0x10, 369)]
  | .CAL_FG_CTRL => [(0x8, 16)]
  | .CAL_FG_STATUS => [(0x8, 16)]
  | .FLT_CFG => []
  | .FLT_STATUS => []
  | .FLT_CTRL => []
  | .FLT_ACK => []
  | .FLT_INJECT => []
  | .FLT_INJECT_IDX => []
  | .FLT_QSTATUS => []
  | .FLT_ST_WAIT => []
  | .FLT_LOG_WP => []
  | .FLT_LOG_LOST => []
  | .FLT_LOSS_LO => []
  | .FLT_LOSS_HI => []
  | .FLT_L3_COUNT => []
  | .FLT_CNT_CLR => []
  | .FLT_CLASS => [(0x4, 8)]
  | .FLT_CLASS_CFG => [(0x4, 8)]
  | .FLT_SRC_CFG => [(0x4, 256)]
  | .FLT_SRC_COUNT => [(0x4, 256)]
  | .FLT_LOG => [(0x10, 256), (0x4, 4)]
  | .RPL_CFG => []
  | .RPL_CTRL => []
  | .RPL_STATUS => []
  | .RPL_RING_BASE => []
  | .RPL_RING_LINES => []
  | .RPL_WP => []
  | .RPL_RP => []
  | .RPL_LOST => []
  | .RPL_RECORDS => []
  | .RPL_CNT_CLR => []
  | .RPL_DEC_EN => []
  | .RPL_ANCHOR_LO => []
  | .RPL_ANCHOR_HI => []
  | .RPL_DIV_BEAT_LO => []
  | .RPL_DIV_BEAT_HI => []
  | .RPL_DIV_INFO => []
  | .RPL_DIV_EXP_LO => []
  | .RPL_DIV_EXP_HI => []
  | .RPL_DIV_OBS_LO => []
  | .RPL_DIV_OBS_HI => []
  | .RPL_REPLAY_WP => []
  | .RPL_REPLAY_RP => []
  | .BOOT_STATUS => []
  | .BOOT_CTRL => []
  | .BOOT_CFG => []
  | .BOOT_FUSES => []
  | .BOOT_FW_VER => []
  | .BOOT_IDCODE => []
  | .BOOT_KEY_PROG => []
  | .BOOT_FL_OP => []
  | .BOOT_FL_ADDR => []
  | .BOOT_FL_SRC => []
  | .BOOT_FL_LEN => []
  | .BOOT_FL_STATUS => []
  | .BOOT_RUN_AT_LO => []
  | .BOOT_RUN_AT_HI => []
  | .BOOT_RUN_MASK => []
  | .BOOT_RUN_STATUS => []
  | .MGT_CTRL => []
  | .MGT_STATUS => []
  | .MGT_LOAD => []
  | .MGT_LOAD_CFG => []
  | .MGT_WDOG_KICK => []
  | .MGT_RESTARTS => []
  | .MGT_SWAPS => []
  | .MGT_CNT_CLR => []

/-- What reset leaves in a register, as the spec's register tables state it. `Reg.resetValue` adds the registers
whose copies differ. -/
def resetBits : Reg → Nat
  | .SLC_WHEEL_STATUS => 0x00400000
  | .SLC_SCRUB_CTRL => 0x00000040
  | .GLB_CSTORE_SCRUB => 0x00000040
  | .GLB_IMG_STATUS => 0x001F0000
  | .GLB_IMG_FORMAT => 0x00010000
  | .TSET_STATUS => 0x00000002
  | .PIN_PMU_CLAMP => 0x6590E890
  | .PIN_STATUS => 0x00000005
  | .PIN_CC_LIM => 0xFB50F1F0
  | .PIN_GUARD_CTRL => 0x00640003
  | .PIN_GUARD_STATUS => 0x00000004
  | .PIN_GUARDED => 0xFFFFFFFF
  | .PIN_CC_CFG => 0x64326414
  | .PIN_CC_MASK => 0xFFFFFFFF
  | .TXC_CFG => 0x000000FF
  | .TXC_GAIN => 0x00000800
  | .FF_STATUS => 0x00000074
  | .FF_CFG => 0x00000040
  | .FF_LIM => 0x00000600
  | .FF_SHORT_CFG => 0x0408321E
  | .MAD_CFG => 0x00008000
  | .MAD_SYSC_GAIN => 0x00010000
  | .TDC_GATE => 0x00000001
  | .TDC_QCFG => 0x00000040
  | .INV_CFG => 0x00000004
  | .CHN_CFG => 0x00000A00
  | .KTL_COMMIT_DELAY => 0x00989680
  | .KTL_PORT_CFG => 0x00000001
  | .KTL_RT => 0x00007FFF
  | .HST_PORT_CFG => 0x0000000D
  | .CTP_CFG => 0x0F0AB860
  | .CTP_TUNNEL_TMO => 0x00000064
  | .EVT_CFG => 0x00000009
  | .SIDE_CFG => 0x00000001
  | .ACC_CFG => 0x0002218C
  | .PWR_BUDGET_MW => 0x00027100
  | .PWR_RAMP => 0x00001F40
  | .PWR_BASE_MW => 0x0001FBD0
  | .PWR_COMMITTED_MW => 0x0001FBD0
  | .PWR_DRAIN_TIMEOUT => 0x00000064
  | .NRG_TX_LIM_MS => 0x00020000
  | .NRG_TX_LIM_S => 0x00020000
  | .NRG_TX_CFG => 0x00000080
  | .NRG_FF_LIM => 0x0000FFFF
  | .NRG_FF_RLOAD => 0x00000032
  | .NRG_FF_CFG => 0x00000080
  | .NRG_PIN_CFG => 0x00C80384
  | .CAL_CFG => 0x02710F0F
  | .FLT_CFG => 0x00000015
  | .FLT_ST_WAIT => 0x00000064
  | .RPL_RING_LINES => 0x00010000
  | .BOOT_STATUS => 0x00000001
  | .BOOT_CFG => 0x00000032
  | .BOOT_IDCODE => 0x1166454F
  | .MGT_STATUS => 0x00000004
  | .MGT_LOAD_CFG => 0x0000465A
  | .TDC_TIN_CFG => 0x00000C80
  | _ => 0

/-- The registers of block SLC. -/
def blockSLC : List Reg :=
  [.SLC_WHEEL_CTRL,
   .SLC_WHEEL_STATUS,
   .SLC_WHEEL_START_LO,
   .SLC_WHEEL_START_HI,
   .SLC_WHEEL_MAP,
   .SLC_CONFLICT,
   .SLC_CONFLICT_CLR,
   .SLC_STORE_PWR,
   .SLC_ECC_CE,
   .SLC_ECC_UE,
   .SLC_ECC_ADDR,
   .SLC_SCRUB_CTRL,
   .SLC_SCRUB_LATE,
   .SLC_ECC_CLR]

/-- The registers of block GLB. -/
def blockGLB : List Reg :=
  [.GLB_BEAT_LO,
   .GLB_BEAT_HI,
   .GLB_CSTORE_PWR,
   .GLB_CSTORE_WAIT,
   .GLB_CSTORE_ECC_CE,
   .GLB_CSTORE_ECC_UE,
   .GLB_CSTORE_ECC_ADDR,
   .GLB_CSTORE_SCRUB,
   .GLB_CSTORE_SCRUB_LATE,
   .GLB_CSTORE_CLR,
   .GLB_IMG_CTRL,
   .GLB_IMG_STATUS,
   .GLB_IMG_SRC,
   .GLB_IMG_LEN,
   .GLB_IMG_REJOIN_LO,
   .GLB_IMG_REJOIN_HI,
   .GLB_IMG_DRAIN_LO,
   .GLB_IMG_DRAIN_HI,
   .GLB_IMG_CSERIAL_LO,
   .GLB_IMG_CSERIAL_HI,
   .GLB_IMG_FORMAT,
   .GLB_IMG_COUNT,
   .GLB_IMG_COUNT_CLR,
   .GLB_IMG_SSERIAL_LO,
   .GLB_IMG_SSERIAL_HI]

/-- The registers of block SEQ. -/
def blockSEQ : List Reg :=
  [.SEQ_CTRL,
   .SEQ_STATUS,
   .SEQ_PC,
   .SEQ_ERR_PC,
   .SEQ_HALT_CODE,
   .SEQ_FLAGS,
   .SEQ_START_LO,
   .SEQ_START_HI,
   .SEQ_ISSUED_LO,
   .SEQ_ISSUED_HI,
   .SEQ_STALL,
   .SEQ_VERDICT_OVW,
   .SEQ_EV_DROP,
   .SEQ_ELASTIC_BEATS,
   .SEQ_TIMEOUTS,
   .SEQ_LATE,
   .SEQ_LCOUNT,
   .SEQ_CNT_CLR,
   .SEQ_LIM_LO,
   .SEQ_LIM_HI,
   .SEQ_BRD,
   .SEQ_BSEL,
   .SEQ_BRES,
   .SEQ_VNEW,
   .SEQ_XNEW,
   .SEQ_BTERM]

/-- The registers of block VEC. -/
def blockVEC : List Reg :=
  [.VEC_CTRL,
   .VEC_STATUS,
   .VEC_ADDR,
   .VEC_ERR_ADDR,
   .VEC_INDEX_LO,
   .VEC_INDEX_HI,
   .VEC_FAILVEC_LO,
   .VEC_FAILVEC_HI,
   .VEC_UNDERRUNS,
   .VEC_CLAMPS,
   .VEC_MATCH_EXP,
   .VEC_CNT_CLR,
   .VEC_ENTRY,
   .VEC_RING_BASE,
   .VEC_RING_LINES,
   .VEC_RING_WP,
   .VEC_RING_RP,
   .VEC_RING_READY,
   .VEC_FC_BASE,
   .VEC_FC_LINES,
   .VEC_FC_WP,
   .VEC_FC_RECS,
   .VEC_FC_LOST,
   .VEC_PFAIL,
   .VEC_PFAIL_CLR,
   .VEC_WIN_PINS,
   .VEC_WIN_OPEN_LO,
   .VEC_WIN_OPEN_HI]

/-- The registers of block TSET. -/
def blockTSET : List Reg :=
  [.TSET_PERIOD,
   .TSET_PIN_EN,
   .TSET_HALT_LO,
   .TSET_HALT_HI,
   .TSET_STATUS,
   .TSET_FMT,
   .TSET_EDGE]

/-- The registers of block PIN. -/
def blockPIN : List Reg :=
  [.PIN_VIL,
   .PIN_VIH,
   .PIN_VTERM,
   .PIN_VOL,
   .PIN_VOH,
   .PIN_VCOM,
   .PIN_ILOAD,
   .PIN_CFG,
   .PIN_PMU_CTRL,
   .PIN_PMU_FORCE,
   .PIN_PMU_CLAMP,
   .PIN_STATUS,
   .PIN_CC_LIM,
   .PIN_CC_RESULT,
   .PIN_GUARD_CTRL,
   .PIN_GUARD_STATUS,
   .PIN_GUARDED,
   .PIN_RELEASE,
   .PIN_CC_CTRL,
   .PIN_CC_STATUS,
   .PIN_CC_CFG,
   .PIN_CC_MASK,
   .PIN_GUARD_COUNT,
   .PIN_LOAD_STATUS,
   .PIN_CNT_CLR]

/-- The registers of block TON. -/
def blockTON : List Reg :=
  [.TON_CTRL,
   .TON_CFG,
   .TON_STATUS,
   .TON_INDEX,
   .TON_ENTRY,
   .TON_FTW_LO,
   .TON_FTW_HI,
   .TON_POFF,
   .TON_AMP,
   .TON_UNDERRUNS,
   .TON_ERRORS,
   .TON_CNT_CLR]

/-- The registers of block TXC. -/
def blockTXC : List Reg :=
  [.TXC_CTRL,
   .TXC_STATUS,
   .TXC_CFG,
   .TXC_GAIN,
   .TXC_CLIP,
   .TXC_MK_CFG,
   .TXC_MK_STATUS,
   .TXC_CNT_CLR,
   .TXC_TRK_USE,
   .TXC_TRK_REBASE,
   .TXC_TRK_SEL,
   .TXC_TRK_ACC_LO,
   .TXC_TRK_ACC_HI,
   .TXC_MUTE_CNT,
   .TXC_TRK_FTW_LO,
   .TXC_TRK_FTW_HI]

/-- The registers of block RXC. -/
def blockRXC : List Reg :=
  [.RXC_CTRL,
   .RXC_STATUS,
   .RXC_CFG,
   .RXC_OVR,
   .RXC_CNT_CLR]

/-- The registers of block DMX. -/
def blockDMX : List Reg :=
  [.DMX_CFG,
   .DMX_ROUTE,
   .DMX_STATUS,
   .DMX_POFF,
   .DMX_FTW_LO,
   .DMX_FTW_HI,
   .DMX_WSET,
   .DMX_LINE_AB,
   .DMX_LINE_C_LO,
   .DMX_LINE_C_HI,
   .DMX_RES_I,
   .DMX_RES_Q,
   .DMX_RES_END_LO,
   .DMX_RES_END_HI,
   .DMX_RES_INFO,
   .DMX_WINDOWS,
   .DMX_OVERRUN,
   .DMX_RESTARTS,
   .DMX_CANCELS,
   .DMX_CNT_CLR,
   .DMX_WRAM]

/-- The registers of block ACQ. -/
def blockACQ : List Reg :=
  [.ACQ_CTRL,
   .ACQ_STATUS,
   .ACQ_STRM,
   .ACQ_TRIG_EARLY,
   .ACQ_OVF,
   .ACQ_CNT_CLR,
   .ACQ_DCFG,
   .ACQ_DBASE,
   .ACQ_DLINES,
   .ACQ_DPRE,
   .ACQ_DPOST,
   .ACQ_DSEG,
   .ACQ_DMASK]

/-- The registers of block VRD. -/
def blockVRD : List Reg :=
  [.VRD_STATUS,
   .VRD_LATE,
   .VRD_DUE_ERR,
   .VRD_UNBOUND,
   .VRD_EXP_DROP,
   .VRD_GOV_SUBST,
   .VRD_CNT_CLR,
   .VRD_LAST_LATE,
   .VRD_UNAVAIL,
   .VRD_EXPQ_MAX,
   .VRD_IMP_HOLD,
   .VRD_ROUTE,
   .VRD_DELIV,
   .VRD_EXPORT,
   .VRD_IMPORT,
   .VRD_IMPORT_SL]

/-- The registers of block FF. -/
def blockFF : List Reg :=
  [.FF_CTRL,
   .FF_STATUS,
   .FF_CFG,
   .FF_LIM,
   .FF_SHORT_CFG,
   .FF_CODE,
   .FF_READBACK,
   .FF_DEFER,
   .FF_DISCARD,
   .FF_REFUSED,
   .FF_PROV,
   .FF_DISMISS,
   .FF_DGL,
   .FF_SHORTS,
   .FF_CNT_CLR]

/-- The registers of block MAD. -/
def blockMAD : List Reg :=
  [.MAD_CMD,
   .MAD_CFG,
   .MAD_STATUS,
   .MAD_QSTATUS,
   .MAD_RES_LO,
   .MAD_RES_HI,
   .MAD_TRIG_DROP,
   .MAD_QLOST,
   .MAD_REDO,
   .MAD_ABORTS,
   .MAD_DIS_COUNT,
   .MAD_CNT_CLR,
   .MAD_SCAL_CTRL,
   .MAD_SCAL_REF,
   .MAD_SCAL_STATUS,
   .MAD_SEQ,
   .MAD_SYSC_OFF,
   .MAD_SYSC_GAIN,
   .MAD_SCF,
   .MAD_STEP,
   .MAD_FIFO]

/-- The registers of block TDC. -/
def blockTDC : List Reg :=
  [.TDC_CTRL,
   .TDC_CFG,
   .TDC_STATUS,
   .TDC_SETUP,
   .TDC_GATE,
   .TDC_SPACING,
   .TDC_REV_DISC,
   .TDC_IGNORED,
   .TDC_CNT_CLR,
   .TDC_RESULT,
   .TDC_RES_VAL_LO,
   .TDC_RES_VAL_HI,
   .TDC_RES_AUX,
   .TDC_QSTATUS,
   .TDC_QCFG,
   .TDC_QLOST,
   .TDC_QCLR,
   .TDC_FIFO,
   .TDC_TIN_CFG]

/-- The registers of block INV. -/
def blockINV : List Reg :=
  [.INV_CFG,
   .INV_STATUS,
   .INV_AGE_TRIM,
   .INV_CORR,
   .INV_DISC,
   .INV_PHASE_ERR,
   .INV_TEMP,
   .INV_REF_LOSS,
   .INV_CNT_CLR]

/-- The registers of block CHN. -/
def blockCHN : List Reg :=
  [.CHN_CFG,
   .CHN_CTRL,
   .CHN_STATUS,
   .CHN_EPOCH_LO,
   .CHN_EPOCH_HI,
   .CHN_LAST_EPOCH_LO,
   .CHN_LAST_EPOCH_HI,
   .CHN_LINK,
   .CHN_OFFSET,
   .CHN_TRIM,
   .CHN_EXT_DELAY,
   .CHN_FRAME_ERR,
   .CHN_HOLDOVERS,
   .CHN_CNT_CLR]

/-- The registers of block TRG. -/
def blockTRG : List Reg :=
  [.TRG_CTRL,
   .TRG_STATUS,
   .TRG_DRIVE,
   .TRG_CAL_START_LO,
   .TRG_CAL_START_HI,
   .TRG_LINE,
   .TRG_POS,
   .TRG_EDGES,
   .TRG_MARGINS,
   .TRG_GLITCHES,
   .TRG_CNT_CLR]

/-- The registers of block KTL. -/
def blockKTL : List Reg :=
  [.KTL_CTRL,
   .KTL_CFG,
   .KTL_STATUS,
   .KTL_ID,
   .KTL_UID_LO,
   .KTL_UID_HI,
   .KTL_ROOT,
   .KTL_COMMIT_DELAY,
   .KTL_TOPO_EXPECT,
   .KTL_TOPO_SEEN,
   .KTL_LINKS_DOWN,
   .KTL_UNREACH_DROP,
   .KTL_TTL_DROP,
   .KTL_BAR_LATE,
   .KTL_BAR_ABORTS,
   .KTL_CNT_CLR,
   .KTL_PORT_CFG,
   .KTL_PORT_STATUS,
   .KTL_PORT_NBR,
   .KTL_PORT_FLIGHT,
   .KTL_FEC_CORR,
   .KTL_FEC_UNCORR,
   .KTL_REPLAYS,
   .KTL_PORT_DOWNS,
   .KTL_PORT_CLR,
   .KTL_RT,
   .KTL_BAR_CFG,
   .KTL_BAR_DELAY,
   .KTL_BAR_STATE]

/-- The registers of block HST. -/
def blockHST : List Reg :=
  [.HST_PTP_CFG,
   .HST_PTP_STATUS,
   .HST_TOD_CTRL,
   .HST_TOD_ADJ,
   .HST_TOD_SEC_LO,
   .HST_TOD_SEC_HI,
   .HST_TOD_NS,
   .HST_TOD_BEAT_LO,
   .HST_TOD_BEAT_HI,
   .HST_PORT_CFG,
   .HST_PORT_STATUS,
   .HST_MAC_LO,
   .HST_MAC_HI,
   .HST_IP4,
   .HST_IP6,
   .HST_FEC_CORR,
   .HST_FEC_UNCORR,
   .HST_RX_DROP,
   .HST_CNT_CLR]

/-- The registers of block CTP. -/
def blockCTP : List Reg :=
  [.CTP_CFG,
   .CTP_STATUS,
   .CTP_PEER_PORT,
   .CTP_PEER_ADDR,
   .CTP_RING,
   .CTP_CREDIT_WAIT,
   .CTP_RETX,
   .CTP_DUP,
   .CTP_OOS,
   .CTP_TAG_ERR,
   .CTP_CNT_CLR,
   .CTP_TUNNEL_TMO]

/-- The registers of block EVT. -/
def blockEVT : List Reg :=
  [.EVT_CFG,
   .EVT_STATUS,
   .EVT_QSTATUS,
   .EVT_LOST,
   .EVT_RD0,
   .EVT_RD1,
   .EVT_RD2,
   .EVT_RD3,
   .EVT_CNT_CLR,
   .EVT_MASK]

/-- The registers of block DMA. -/
def blockDMA : List Reg :=
  [.DMA_CTRL,
   .DMA_STATUS,
   .DMA_ACTIVE,
   .DMA_BUSERR_BEAT_LO,
   .DMA_BUSERR_BEAT_HI,
   .DMA_BUSERRS,
   .DMA_CNT_CLR,
   .DMA_CH_CTRL,
   .DMA_CH_CFG,
   .DMA_CH_STATUS,
   .DMA_CH_DESC,
   .DMA_CH_RESIDUE,
   .DMA_CH_DROPPED,
   .DMA_CH_DESCS,
   .DMA_CH_BYTES_LO,
   .DMA_CH_BYTES_HI,
   .DMA_CH_WAIT,
   .DMA_CH_CLR]

/-- The registers of block SIDE. -/
def blockSIDE : List Reg :=
  [.SIDE_CFG,
   .SIDE_STATUS,
   .SIDE_PAGE,
   .SIDE_FRAMES,
   .SIDE_WORDS,
   .SIDE_CNT_CLR]

/-- The registers of block ACC. -/
def blockACC : List Reg :=
  [.ACC_CTRL,
   .ACC_CFG,
   .ACC_FRAME,
   .ACC_STATUS,
   .ACC_FRAMES,
   .ACC_CNT_CLR,
   .ACC_TX,
   .ACC_RX]

/-- The registers of block PWT. -/
def blockPWT : List Reg :=
  [.PWT_CTRL,
   .PWT_STATUS,
   .PWT_BYTES,
   .PWT_CNT_CLR]

/-- The registers of block PWR. -/
def blockPWR : List Reg :=
  [.PWR_STATUS,
   .PWR_BUDGET_MW,
   .PWR_RAMP,
   .PWR_BASE_MW,
   .PWR_COMMITTED_MW,
   .PWR_QSTATUS,
   .PWR_HEAD,
   .PWR_LAST_REFUSED,
   .PWR_GRANTS,
   .PWR_WAIT_BEATS,
   .PWR_MEAS_MW,
   .PWR_CNT_CLR,
   .PWR_DRAIN_TIMEOUT,
   .PWR_DIS_LAST,
   .PWR_COST,
   .PWR_DOM]

/-- The registers of block NRG. -/
def blockNRG : List Reg :=
  [.NRG_TX_LIM_MS,
   .NRG_TX_LIM_S,
   .NRG_TX_CFG,
   .NRG_TX_STATUS,
   .NRG_TX_LEVEL_MS,
   .NRG_TX_LEVEL_S,
   .NRG_TX_TRIPS,
   .NRG_TX_CLR,
   .NRG_FF_LIM,
   .NRG_FF_RLOAD,
   .NRG_FF_CFG,
   .NRG_FF_STATUS,
   .NRG_FF_LEVEL,
   .NRG_FF_TRIPS,
   .NRG_FF_CLR,
   .NRG_PIN_CFG,
   .NRG_PIN_STATUS,
   .NRG_PIN_ENERGY,
   .NRG_STATUS]

/-- The registers of block CAL. -/
def blockCAL : List Reg :=
  [.CAL_CFG,
   .CAL_STATUS,
   .CAL_CTRL,
   .CAL_VAULT_STATUS,
   .CAL_SEL,
   .CAL_APPLY_AT_LO,
   .CAL_APPLY_AT_HI,
   .CAL_VAULT_SEQ,
   .CAL_SET,
   .CAL_CONV_CTRL,
   .CAL_CONV_STATUS,
   .CAL_AGE,
   .CAL_APPLIED,
   .CAL_FG_CTRL,
   .CAL_FG_STATUS]

/-- The registers of block FLT. -/
def blockFLT : List Reg :=
  [.FLT_CFG,
   .FLT_STATUS,
   .FLT_CTRL,
   .FLT_ACK,
   .FLT_INJECT,
   .FLT_INJECT_IDX,
   .FLT_QSTATUS,
   .FLT_ST_WAIT,
   .FLT_LOG_WP,
   .FLT_LOG_LOST,
   .FLT_LOSS_LO,
   .FLT_LOSS_HI,
   .FLT_L3_COUNT,
   .FLT_CNT_CLR,
   .FLT_CLASS,
   .FLT_CLASS_CFG,
   .FLT_SRC_CFG,
   .FLT_SRC_COUNT,
   .FLT_LOG]

/-- The registers of block RPL. -/
def blockRPL : List Reg :=
  [.RPL_CFG,
   .RPL_CTRL,
   .RPL_STATUS,
   .RPL_RING_BASE,
   .RPL_RING_LINES,
   .RPL_WP,
   .RPL_RP,
   .RPL_LOST,
   .RPL_RECORDS,
   .RPL_CNT_CLR,
   .RPL_DEC_EN,
   .RPL_ANCHOR_LO,
   .RPL_ANCHOR_HI,
   .RPL_DIV_BEAT_LO,
   .RPL_DIV_BEAT_HI,
   .RPL_DIV_INFO,
   .RPL_DIV_EXP_LO,
   .RPL_DIV_EXP_HI,
   .RPL_DIV_OBS_LO,
   .RPL_DIV_OBS_HI,
   .RPL_REPLAY_WP,
   .RPL_REPLAY_RP]

/-- The registers of block BOOT. -/
def blockBOOT : List Reg :=
  [.BOOT_STATUS,
   .BOOT_CTRL,
   .BOOT_CFG,
   .BOOT_FUSES,
   .BOOT_FW_VER,
   .BOOT_IDCODE,
   .BOOT_KEY_PROG,
   .BOOT_FL_OP,
   .BOOT_FL_ADDR,
   .BOOT_FL_SRC,
   .BOOT_FL_LEN,
   .BOOT_FL_STATUS,
   .BOOT_RUN_AT_LO,
   .BOOT_RUN_AT_HI,
   .BOOT_RUN_MASK,
   .BOOT_RUN_STATUS]

/-- The registers of block MGT. -/
def blockMGT : List Reg :=
  [.MGT_CTRL,
   .MGT_STATUS,
   .MGT_LOAD,
   .MGT_LOAD_CFG,
   .MGT_WDOG_KICK,
   .MGT_RESTARTS,
   .MGT_SWAPS,
   .MGT_CNT_CLR]

end Reg

end Sys2Proof.Machine
end

