-- ==== Sys2Proof/Machine/RegFields.lean ====
section
/-!
DEFINITION. The fields of the registers: which bits each has and how software may use it (the access codes of R7), from
the spec's field tables. A bit that no field names is reserved and reads zero (R9).
-/

namespace Sys2Proof.Machine

/-- The access codes of R7: read only, read and write, read and write until locked, write only (reads zero), write 1 to
clear, write 1 to command (reads zero). -/
inductive Access where
  | ro
  | rw
  | rwl
  | wo
  | w1c
  | w1s
deriving DecidableEq, Repr

/-- A field: `width` bits of a register from bit `lo` up. -/
structure Field where
  reg : Reg
  lo : Nat
  width : Nat
  access : Access
deriving DecidableEq, Repr

namespace F

def SLC_WHEEL_CTRL_START : Field := ⟨.SLC_WHEEL_CTRL, 0, 1, .w1s⟩
def SLC_WHEEL_CTRL_STOP : Field := ⟨.SLC_WHEEL_CTRL, 1, 1, .w1s⟩
def SLC_WHEEL_CTRL_COMMIT : Field := ⟨.SLC_WHEEL_CTRL, 2, 1, .w1s⟩
def SLC_WHEEL_CTRL_USE_START_BEAT : Field := ⟨.SLC_WHEEL_CTRL, 3, 1, .rw⟩
def SLC_WHEEL_STATUS_STATE : Field := ⟨.SLC_WHEEL_STATUS, 0, 2, .ro⟩
def SLC_WHEEL_STATUS_PHASE : Field := ⟨.SLC_WHEEL_STATUS, 2, 4, .ro⟩
def SLC_WHEEL_STATUS_COMMIT_PEND : Field := ⟨.SLC_WHEEL_STATUS, 6, 1, .ro⟩
def SLC_WHEEL_STATUS_START_LATE : Field := ⟨.SLC_WHEEL_STATUS, 7, 1, .w1c⟩
def SLC_WHEEL_STATUS_MAP_ERR : Field := ⟨.SLC_WHEEL_STATUS, 8, 1, .w1c⟩
def SLC_WHEEL_STATUS_FREE : Field := ⟨.SLC_WHEEL_STATUS, 16, 7, .ro⟩
def SLC_WHEEL_START_LO_BEAT : Field := ⟨.SLC_WHEEL_START_LO, 0, 32, .rw⟩
def SLC_WHEEL_START_HI_BEAT : Field := ⟨.SLC_WHEEL_START_HI, 0, 32, .rw⟩
def SLC_WHEEL_MAP_SLOT0 : Field := ⟨.SLC_WHEEL_MAP, 0, 4, .rwl⟩
def SLC_WHEEL_MAP_SLOT1 : Field := ⟨.SLC_WHEEL_MAP, 4, 4, .rwl⟩
def SLC_WHEEL_MAP_SLOT2 : Field := ⟨.SLC_WHEEL_MAP, 8, 4, .rwl⟩
def SLC_WHEEL_MAP_SLOT3 : Field := ⟨.SLC_WHEEL_MAP, 12, 4, .rwl⟩
def SLC_CONFLICT_COUNT : Field := ⟨.SLC_CONFLICT, 0, 32, .ro⟩
def SLC_CONFLICT_CLR_CLR : Field := ⟨.SLC_CONFLICT_CLR, 0, 7, .wo⟩
def SLC_STORE_PWR_REQ : Field := ⟨.SLC_STORE_PWR, 0, 2, .rw⟩
def SLC_STORE_PWR_STATE : Field := ⟨.SLC_STORE_PWR, 2, 2, .ro⟩
def SLC_STORE_PWR_REFUSED : Field := ⟨.SLC_STORE_PWR, 4, 1, .w1c⟩
def SLC_STORE_PWR_REASON : Field := ⟨.SLC_STORE_PWR, 5, 3, .ro⟩
def SLC_ECC_CE_COUNT : Field := ⟨.SLC_ECC_CE, 0, 32, .ro⟩
def SLC_ECC_UE_COUNT : Field := ⟨.SLC_ECC_UE, 0, 32, .ro⟩
def SLC_ECC_ADDR_LINE : Field := ⟨.SLC_ECC_ADDR, 0, 15, .ro⟩
def SLC_ECC_ADDR_WORD : Field := ⟨.SLC_ECC_ADDR, 15, 4, .ro⟩
def SLC_ECC_ADDR_UE : Field := ⟨.SLC_ECC_ADDR, 19, 1, .ro⟩
def SLC_SCRUB_CTRL_INTERVAL : Field := ⟨.SLC_SCRUB_CTRL, 0, 16, .rw⟩
def SLC_SCRUB_LATE_COUNT : Field := ⟨.SLC_SCRUB_LATE, 0, 32, .ro⟩
def SLC_ECC_CLR_CE : Field := ⟨.SLC_ECC_CLR, 0, 1, .wo⟩
def SLC_ECC_CLR_UE : Field := ⟨.SLC_ECC_CLR, 1, 1, .wo⟩
def SLC_ECC_CLR_LATE : Field := ⟨.SLC_ECC_CLR, 2, 1, .wo⟩

def GLB_BEAT_LO_BEAT : Field := ⟨.GLB_BEAT_LO, 0, 32, .ro⟩
def GLB_BEAT_HI_BEAT : Field := ⟨.GLB_BEAT_HI, 0, 32, .ro⟩
def GLB_CSTORE_PWR_REQ : Field := ⟨.GLB_CSTORE_PWR, 0, 2, .rw⟩
def GLB_CSTORE_PWR_STATE : Field := ⟨.GLB_CSTORE_PWR, 2, 2, .ro⟩
def GLB_CSTORE_PWR_REFUSED : Field := ⟨.GLB_CSTORE_PWR, 4, 1, .w1c⟩
def GLB_CSTORE_PWR_REASON : Field := ⟨.GLB_CSTORE_PWR, 5, 3, .ro⟩
def GLB_CSTORE_WAIT_COUNT : Field := ⟨.GLB_CSTORE_WAIT, 0, 32, .ro⟩
def GLB_CSTORE_ECC_CE_COUNT : Field := ⟨.GLB_CSTORE_ECC_CE, 0, 32, .ro⟩
def GLB_CSTORE_ECC_UE_COUNT : Field := ⟨.GLB_CSTORE_ECC_UE, 0, 32, .ro⟩
def GLB_CSTORE_ECC_ADDR_LINE : Field := ⟨.GLB_CSTORE_ECC_ADDR, 0, 17, .ro⟩
def GLB_CSTORE_ECC_ADDR_WORD : Field := ⟨.GLB_CSTORE_ECC_ADDR, 17, 4, .ro⟩
def GLB_CSTORE_ECC_ADDR_UE : Field := ⟨.GLB_CSTORE_ECC_ADDR, 21, 1, .ro⟩
def GLB_CSTORE_SCRUB_INTERVAL : Field := ⟨.GLB_CSTORE_SCRUB, 0, 16, .rw⟩
def GLB_CSTORE_SCRUB_LATE_COUNT : Field := ⟨.GLB_CSTORE_SCRUB_LATE, 0, 32, .ro⟩
def GLB_CSTORE_CLR_WAIT : Field := ⟨.GLB_CSTORE_CLR, 0, 4, .wo⟩
def GLB_CSTORE_CLR_CE : Field := ⟨.GLB_CSTORE_CLR, 4, 1, .wo⟩
def GLB_CSTORE_CLR_UE : Field := ⟨.GLB_CSTORE_CLR, 5, 1, .wo⟩
def GLB_CSTORE_CLR_LATE : Field := ⟨.GLB_CSTORE_CLR, 6, 1, .wo⟩
def GLB_IMG_CTRL_GO : Field := ⟨.GLB_IMG_CTRL, 0, 1, .w1s⟩
def GLB_IMG_CTRL_ABORT : Field := ⟨.GLB_IMG_CTRL, 1, 1, .w1s⟩
def GLB_IMG_CTRL_OP : Field := ⟨.GLB_IMG_CTRL, 2, 2, .rw⟩
def GLB_IMG_CTRL_SLICE : Field := ⟨.GLB_IMG_CTRL, 4, 4, .rw⟩
def GLB_IMG_CTRL_FLASH_SLOT : Field := ⟨.GLB_IMG_CTRL, 8, 1, .rw⟩
def GLB_IMG_STATUS_PHASE : Field := ⟨.GLB_IMG_STATUS, 0, 3, .ro⟩
def GLB_IMG_STATUS_BUSY : Field := ⟨.GLB_IMG_STATUS, 3, 1, .ro⟩
def GLB_IMG_STATUS_DONE : Field := ⟨.GLB_IMG_STATUS, 4, 1, .w1c⟩
def GLB_IMG_STATUS_FAIL : Field := ⟨.GLB_IMG_STATUS, 5, 1, .w1c⟩
def GLB_IMG_STATUS_ABORT_IGNORED : Field := ⟨.GLB_IMG_STATUS, 6, 1, .w1c⟩
def GLB_IMG_STATUS_GO_IGNORED : Field := ⟨.GLB_IMG_STATUS, 7, 1, .w1c⟩
def GLB_IMG_STATUS_RESULT : Field := ⟨.GLB_IMG_STATUS, 8, 5, .ro⟩
def GLB_IMG_STATUS_SECTION : Field := ⟨.GLB_IMG_STATUS, 16, 5, .ro⟩
def GLB_IMG_SRC_OFFSET : Field := ⟨.GLB_IMG_SRC, 0, 32, .rw⟩
def GLB_IMG_LEN_BYTES : Field := ⟨.GLB_IMG_LEN, 0, 32, .rw⟩
def GLB_IMG_REJOIN_LO_BEAT : Field := ⟨.GLB_IMG_REJOIN_LO, 0, 32, .rw⟩
def GLB_IMG_REJOIN_HI_BEAT : Field := ⟨.GLB_IMG_REJOIN_HI, 0, 32, .rw⟩
def GLB_IMG_DRAIN_LO_BEAT : Field := ⟨.GLB_IMG_DRAIN_LO, 0, 32, .ro⟩
def GLB_IMG_DRAIN_HI_BEAT : Field := ⟨.GLB_IMG_DRAIN_HI, 0, 32, .ro⟩
def GLB_IMG_CSERIAL_LO_SERIAL : Field := ⟨.GLB_IMG_CSERIAL_LO, 0, 32, .ro⟩
def GLB_IMG_CSERIAL_HI_SERIAL : Field := ⟨.GLB_IMG_CSERIAL_HI, 0, 32, .ro⟩
def GLB_IMG_FORMAT_MAJOR : Field := ⟨.GLB_IMG_FORMAT, 16, 16, .ro⟩
def GLB_IMG_FORMAT_MINOR : Field := ⟨.GLB_IMG_FORMAT, 0, 16, .ro⟩
def GLB_IMG_COUNT_COMPLETED : Field := ⟨.GLB_IMG_COUNT, 0, 16, .ro⟩
def GLB_IMG_COUNT_FAILED : Field := ⟨.GLB_IMG_COUNT, 16, 16, .ro⟩
def GLB_IMG_COUNT_CLR_COUNT : Field := ⟨.GLB_IMG_COUNT_CLR, 0, 1, .wo⟩
def GLB_IMG_SSERIAL_LO_SERIAL : Field := ⟨.GLB_IMG_SSERIAL_LO, 0, 32, .ro⟩
def GLB_IMG_SSERIAL_HI_SERIAL : Field := ⟨.GLB_IMG_SSERIAL_HI, 0, 32, .ro⟩

def SEQ_CTRL_RUN : Field := ⟨.SEQ_CTRL, 0, 1, .w1s⟩
def SEQ_CTRL_HALT : Field := ⟨.SEQ_CTRL, 1, 1, .w1s⟩
def SEQ_CTRL_STEP : Field := ⟨.SEQ_CTRL, 2, 1, .w1s⟩
def SEQ_CTRL_USE_START_BEAT : Field := ⟨.SEQ_CTRL, 3, 1, .rw⟩
def SEQ_CTRL_CLR_NEW : Field := ⟨.SEQ_CTRL, 4, 1, .w1s⟩
def SEQ_STATUS_STATE : Field := ⟨.SEQ_STATUS, 0, 3, .ro⟩
def SEQ_STATUS_ERR : Field := ⟨.SEQ_STATUS, 3, 5, .ro⟩
def SEQ_STATUS_LATE : Field := ⟨.SEQ_STATUS, 8, 1, .w1c⟩
def SEQ_STATUS_TIMEOUT : Field := ⟨.SEQ_STATUS, 9, 1, .w1c⟩
def SEQ_STATUS_ELASTIC_EXPIRED : Field := ⟨.SEQ_STATUS, 10, 1, .w1c⟩
def SEQ_STATUS_RUN_REFUSED : Field := ⟨.SEQ_STATUS, 11, 1, .w1c⟩
def SEQ_STATUS_EV_DROP : Field := ⟨.SEQ_STATUS, 12, 1, .w1c⟩
def SEQ_STATUS_VERDICT_OVW : Field := ⟨.SEQ_STATUS, 13, 1, .w1c⟩
def SEQ_STATUS_LOOP_DEPTH : Field := ⟨.SEQ_STATUS, 16, 4, .ro⟩
def SEQ_STATUS_CALL_DEPTH : Field := ⟨.SEQ_STATUS, 20, 5, .ro⟩
def SEQ_PC_INDEX : Field := ⟨.SEQ_PC, 0, 18, .rw⟩
def SEQ_ERR_PC_INDEX : Field := ⟨.SEQ_ERR_PC, 0, 18, .ro⟩
def SEQ_HALT_CODE_CODE : Field := ⟨.SEQ_HALT_CODE, 0, 16, .ro⟩
def SEQ_FLAGS_VALUE : Field := ⟨.SEQ_FLAGS, 0, 16, .ro⟩
def SEQ_FLAGS_NEW : Field := ⟨.SEQ_FLAGS, 16, 8, .ro⟩
def SEQ_START_LO_BEAT : Field := ⟨.SEQ_START_LO, 0, 32, .rw⟩
def SEQ_START_HI_BEAT : Field := ⟨.SEQ_START_HI, 0, 32, .rw⟩
def SEQ_ISSUED_LO_COUNT : Field := ⟨.SEQ_ISSUED_LO, 0, 32, .ro⟩
def SEQ_ISSUED_HI_COUNT : Field := ⟨.SEQ_ISSUED_HI, 0, 32, .ro⟩
def SEQ_STALL_COUNT : Field := ⟨.SEQ_STALL, 0, 32, .ro⟩
def SEQ_VERDICT_OVW_COUNT : Field := ⟨.SEQ_VERDICT_OVW, 0, 32, .ro⟩
def SEQ_EV_DROP_COUNT : Field := ⟨.SEQ_EV_DROP, 0, 32, .ro⟩
def SEQ_ELASTIC_BEATS_COUNT : Field := ⟨.SEQ_ELASTIC_BEATS, 0, 32, .ro⟩
def SEQ_TIMEOUTS_COUNT : Field := ⟨.SEQ_TIMEOUTS, 0, 32, .ro⟩
def SEQ_LATE_COUNT : Field := ⟨.SEQ_LATE, 0, 32, .ro⟩
def SEQ_LCOUNT_COUNT : Field := ⟨.SEQ_LCOUNT, 0, 32, .rw⟩
def SEQ_CNT_CLR_ISSUED : Field := ⟨.SEQ_CNT_CLR, 0, 1, .wo⟩
def SEQ_CNT_CLR_CNT : Field := ⟨.SEQ_CNT_CLR, 1, 6, .wo⟩
def SEQ_LIM_LO_LIMIT : Field := ⟨.SEQ_LIM_LO, 0, 32, .rw⟩
def SEQ_LIM_HI_LIMIT : Field := ⟨.SEQ_LIM_HI, 0, 32, .rw⟩
def SEQ_BRD_FIRST : Field := ⟨.SEQ_BRD, 0, 10, .rwl⟩
def SEQ_BRD_COUNT : Field := ⟨.SEQ_BRD, 10, 6, .rwl⟩
def SEQ_BRD_DEFAULT : Field := ⟨.SEQ_BRD, 16, 2, .rwl⟩
def SEQ_BSEL_SEL_LO : Field := ⟨.SEQ_BSEL, 0, 16, .rwl⟩
def SEQ_BSEL_SEL_HI : Field := ⟨.SEQ_BSEL, 16, 16, .rwl⟩
def SEQ_BRES_RES : Field := ⟨.SEQ_BRES, 0, 32, .rwl⟩
def SEQ_VNEW_NEW : Field := ⟨.SEQ_VNEW, 0, 32, .ro⟩
def SEQ_XNEW_NEW : Field := ⟨.SEQ_XNEW, 0, 32, .ro⟩
def SEQ_BTERM_CARE : Field := ⟨.SEQ_BTERM, 0, 16, .rwl⟩
def SEQ_BTERM_VALUE : Field := ⟨.SEQ_BTERM, 16, 16, .rwl⟩

def VEC_CTRL_HALT : Field := ⟨.VEC_CTRL, 0, 1, .w1s⟩
def VEC_CTRL_FC_EN : Field := ⟨.VEC_CTRL, 1, 1, .rw⟩
def VEC_CTRL_FC_WRAP : Field := ⟨.VEC_CTRL, 2, 1, .rw⟩
def VEC_CTRL_FC_RESET : Field := ⟨.VEC_CTRL, 3, 1, .w1s⟩
def VEC_STATUS_STATE : Field := ⟨.VEC_STATUS, 0, 3, .ro⟩
def VEC_STATUS_ERR : Field := ⟨.VEC_STATUS, 3, 4, .ro⟩
def VEC_STATUS_LOOP_DEPTH : Field := ⟨.VEC_STATUS, 7, 3, .ro⟩
def VEC_STATUS_READY : Field := ⟨.VEC_STATUS, 10, 1, .ro⟩
def VEC_STATUS_UNDERRUN : Field := ⟨.VEC_STATUS, 11, 1, .w1c⟩
def VEC_STATUS_CLAMP : Field := ⟨.VEC_STATUS, 12, 1, .w1c⟩
def VEC_STATUS_MATCH_EXP : Field := ⟨.VEC_STATUS, 13, 1, .w1c⟩
def VEC_STATUS_BREAK_IGN : Field := ⟨.VEC_STATUS, 14, 1, .w1c⟩
def VEC_STATUS_WIN_IGN : Field := ⟨.VEC_STATUS, 15, 1, .w1c⟩
def VEC_STATUS_WIN_REOPEN : Field := ⟨.VEC_STATUS, 16, 1, .w1c⟩
def VEC_STATUS_WIN_MERGE : Field := ⟨.VEC_STATUS, 17, 1, .w1c⟩
def VEC_STATUS_FC_OVF : Field := ⟨.VEC_STATUS, 18, 1, .w1c⟩
def VEC_STATUS_FC_FULL : Field := ⟨.VEC_STATUS, 19, 1, .w1c⟩
def VEC_STATUS_FC_WRAPPED : Field := ⟨.VEC_STATUS, 20, 1, .w1c⟩
def VEC_STATUS_RING_ERR : Field := ⟨.VEC_STATUS, 21, 1, .w1c⟩
def VEC_STATUS_CFG_IGN : Field := ⟨.VEC_STATUS, 22, 1, .w1c⟩
def VEC_ADDR_ADDR : Field := ⟨.VEC_ADDR, 0, 18, .ro⟩
def VEC_ERR_ADDR_ADDR : Field := ⟨.VEC_ERR_ADDR, 0, 18, .ro⟩
def VEC_INDEX_LO_INDEX : Field := ⟨.VEC_INDEX_LO, 0, 32, .ro⟩
def VEC_INDEX_HI_INDEX : Field := ⟨.VEC_INDEX_HI, 0, 16, .ro⟩
def VEC_FAILVEC_LO_COUNT : Field := ⟨.VEC_FAILVEC_LO, 0, 32, .ro⟩
def VEC_FAILVEC_HI_COUNT : Field := ⟨.VEC_FAILVEC_HI, 0, 32, .ro⟩
def VEC_UNDERRUNS_COUNT : Field := ⟨.VEC_UNDERRUNS, 0, 32, .ro⟩
def VEC_CLAMPS_COUNT : Field := ⟨.VEC_CLAMPS, 0, 32, .ro⟩
def VEC_MATCH_EXP_COUNT : Field := ⟨.VEC_MATCH_EXP, 0, 32, .ro⟩
def VEC_CNT_CLR_CLR : Field := ⟨.VEC_CNT_CLR, 0, 5, .wo⟩
def VEC_ENTRY_ADDR : Field := ⟨.VEC_ENTRY, 0, 18, .rwl⟩
def VEC_ENTRY_LOADED : Field := ⟨.VEC_ENTRY, 30, 1, .ro⟩
def VEC_ENTRY_VALID : Field := ⟨.VEC_ENTRY, 31, 1, .rwl⟩
def VEC_RING_BASE_LINE : Field := ⟨.VEC_RING_BASE, 0, 15, .rw⟩
def VEC_RING_LINES_LINES : Field := ⟨.VEC_RING_LINES, 0, 15, .rw⟩
def VEC_RING_WP_OFFSET : Field := ⟨.VEC_RING_WP, 0, 15, .rw⟩
def VEC_RING_RP_OFFSET : Field := ⟨.VEC_RING_RP, 0, 15, .ro⟩
def VEC_RING_READY_LINES : Field := ⟨.VEC_RING_READY, 0, 15, .rw⟩
def VEC_RING_READY_LAST : Field := ⟨.VEC_RING_READY, 31, 1, .rw⟩
def VEC_FC_BASE_LINE : Field := ⟨.VEC_FC_BASE, 0, 15, .rw⟩
def VEC_FC_LINES_LINES : Field := ⟨.VEC_FC_LINES, 0, 15, .rw⟩
def VEC_FC_WP_OFFSET : Field := ⟨.VEC_FC_WP, 0, 22, .ro⟩
def VEC_FC_RECS_COUNT : Field := ⟨.VEC_FC_RECS, 0, 32, .ro⟩
def VEC_FC_LOST_COUNT : Field := ⟨.VEC_FC_LOST, 0, 32, .ro⟩
def VEC_PFAIL_COUNT : Field := ⟨.VEC_PFAIL, 0, 32, .ro⟩
def VEC_PFAIL_CLR_CLR : Field := ⟨.VEC_PFAIL_CLR, 0, 32, .wo⟩
def VEC_WIN_PINS_PINS : Field := ⟨.VEC_WIN_PINS, 0, 32, .rwl⟩
def VEC_WIN_OPEN_LO_OPEN : Field := ⟨.VEC_WIN_OPEN_LO, 0, 32, .ro⟩
def VEC_WIN_OPEN_HI_OPEN : Field := ⟨.VEC_WIN_OPEN_HI, 0, 32, .ro⟩

def TSET_PERIOD_PERIOD : Field := ⟨.TSET_PERIOD, 0, 28, .rw⟩
def TSET_PIN_EN_EN : Field := ⟨.TSET_PIN_EN, 0, 32, .rwl⟩
def TSET_HALT_LO_HALT : Field := ⟨.TSET_HALT_LO, 0, 32, .rwl⟩
def TSET_HALT_HI_HALT : Field := ⟨.TSET_HALT_HI, 0, 32, .rwl⟩
def TSET_STATUS_VALID : Field := ⟨.TSET_STATUS, 0, 1, .ro⟩
def TSET_STATUS_CAUSE : Field := ⟨.TSET_STATUS, 1, 3, .ro⟩
def TSET_STATUS_PIN : Field := ⟨.TSET_STATUS, 4, 5, .ro⟩
def TSET_FMT_FMT : Field := ⟨.TSET_FMT, 0, 2, .rw⟩
def TSET_FMT_CMODE : Field := ⟨.TSET_FMT, 2, 1, .rw⟩
def TSET_EDGE_TIME : Field := ⟨.TSET_EDGE, 0, 28, .rw⟩

def PIN_VIL_LEVEL : Field := ⟨.PIN_VIL, 0, 16, .rw⟩
def PIN_VIH_LEVEL : Field := ⟨.PIN_VIH, 0, 16, .rw⟩
def PIN_VTERM_LEVEL : Field := ⟨.PIN_VTERM, 0, 16, .rw⟩
def PIN_VOL_LEVEL : Field := ⟨.PIN_VOL, 0, 16, .rw⟩
def PIN_VOH_LEVEL : Field := ⟨.PIN_VOH, 0, 16, .rw⟩
def PIN_VCOM_LEVEL : Field := ⟨.PIN_VCOM, 0, 16, .rw⟩
def PIN_ILOAD_ISRC : Field := ⟨.PIN_ILOAD, 0, 12, .rw⟩
def PIN_ILOAD_ISNK : Field := ⟨.PIN_ILOAD, 16, 12, .rw⟩
def PIN_CFG_TERM : Field := ⟨.PIN_CFG, 0, 1, .rw⟩
def PIN_CFG_LOAD_EN : Field := ⟨.PIN_CFG, 1, 1, .rw⟩
def PIN_PMU_CTRL_CONNECT : Field := ⟨.PIN_PMU_CTRL, 0, 1, .rw⟩
def PIN_PMU_CTRL_MODE : Field := ⟨.PIN_PMU_CTRL, 1, 1, .rw⟩
def PIN_PMU_CTRL_RANGE : Field := ⟨.PIN_PMU_CTRL, 2, 3, .rw⟩
def PIN_PMU_CTRL_MEAS : Field := ⟨.PIN_PMU_CTRL, 5, 1, .rw⟩
def PIN_PMU_FORCE_VALUE : Field := ⟨.PIN_PMU_FORCE, 0, 16, .rw⟩
def PIN_PMU_CLAMP_VCLO : Field := ⟨.PIN_PMU_CLAMP, 0, 16, .rw⟩
def PIN_PMU_CLAMP_VCHI : Field := ⟨.PIN_PMU_CLAMP, 16, 16, .rw⟩
def PIN_STATUS_GUARDED : Field := ⟨.PIN_STATUS, 0, 1, .ro⟩
def PIN_STATUS_CAUSE_IN : Field := ⟨.PIN_STATUS, 1, 1, .ro⟩
def PIN_STATUS_CAUSE_PWR : Field := ⟨.PIN_STATUS, 2, 1, .ro⟩
def PIN_STATUS_CAUSE_CHECK : Field := ⟨.PIN_STATUS, 3, 1, .ro⟩
def PIN_STATUS_LOAD_ACTIVE : Field := ⟨.PIN_STATUS, 4, 1, .ro⟩
def PIN_STATUS_LOAD_PEND : Field := ⟨.PIN_STATUS, 5, 1, .ro⟩
def PIN_STATUS_PMU_CONN : Field := ⟨.PIN_STATUS, 6, 1, .ro⟩
def PIN_STATUS_PMU_CLAMP : Field := ⟨.PIN_STATUS, 7, 1, .w1c⟩
def PIN_STATUS_LEVEL_CLAMP : Field := ⟨.PIN_STATUS, 8, 1, .w1c⟩
def PIN_STATUS_THR_ORDER : Field := ⟨.PIN_STATUS, 9, 1, .ro⟩
def PIN_CC_LIM_VLO : Field := ⟨.PIN_CC_LIM, 0, 16, .rwl⟩
def PIN_CC_LIM_VHI : Field := ⟨.PIN_CC_LIM, 16, 16, .rwl⟩
def PIN_CC_RESULT_RESULT : Field := ⟨.PIN_CC_RESULT, 0, 4, .ro⟩
def PIN_CC_RESULT_PARTNER : Field := ⟨.PIN_CC_RESULT, 4, 5, .ro⟩
def PIN_CC_RESULT_VMEAS : Field := ⟨.PIN_CC_RESULT, 16, 16, .ro⟩
def PIN_GUARD_CTRL_GUARD_EN : Field := ⟨.PIN_GUARD_CTRL, 0, 1, .rwl⟩
def PIN_GUARD_CTRL_AUTO_CHECK : Field := ⟨.PIN_GUARD_CTRL, 1, 1, .rw⟩
def PIN_GUARD_CTRL_RELEASE_MODE : Field := ⟨.PIN_GUARD_CTRL, 2, 1, .rwl⟩
def PIN_GUARD_CTRL_BLEED : Field := ⟨.PIN_GUARD_CTRL, 3, 1, .rwl⟩
def PIN_GUARD_CTRL_DEBOUNCE : Field := ⟨.PIN_GUARD_CTRL, 16, 16, .rw⟩
def PIN_GUARD_STATUS_IN : Field := ⟨.PIN_GUARD_STATUS, 0, 1, .ro⟩
def PIN_GUARD_STATUS_ACTIVE : Field := ⟨.PIN_GUARD_STATUS, 1, 1, .ro⟩
def PIN_GUARD_STATUS_FF_GUARDED : Field := ⟨.PIN_GUARD_STATUS, 2, 1, .ro⟩
def PIN_GUARD_STATUS_RELEASE_IGN : Field := ⟨.PIN_GUARD_STATUS, 3, 1, .w1c⟩
def PIN_GUARDED_PINS : Field := ⟨.PIN_GUARDED, 0, 32, .ro⟩
def PIN_RELEASE_PINS : Field := ⟨.PIN_RELEASE, 0, 32, .wo⟩
def PIN_CC_CTRL_START : Field := ⟨.PIN_CC_CTRL, 0, 1, .w1s⟩
def PIN_CC_CTRL_ABORT : Field := ⟨.PIN_CC_CTRL, 1, 1, .w1s⟩
def PIN_CC_STATUS_STATE : Field := ⟨.PIN_CC_STATUS, 0, 2, .ro⟩
def PIN_CC_STATUS_DONE : Field := ⟨.PIN_CC_STATUS, 2, 1, .w1c⟩
def PIN_CC_STATUS_REFUSED : Field := ⟨.PIN_CC_STATUS, 3, 1, .w1c⟩
def PIN_CC_STATUS_ABORTED : Field := ⟨.PIN_CC_STATUS, 4, 1, .w1c⟩
def PIN_CC_STATUS_REVERSED : Field := ⟨.PIN_CC_STATUS, 5, 1, .ro⟩
def PIN_CC_STATUS_ALL_PASS : Field := ⟨.PIN_CC_STATUS, 6, 1, .ro⟩
def PIN_CC_STATUS_STEP : Field := ⟨.PIN_CC_STATUS, 16, 5, .ro⟩
def PIN_CC_CFG_SETTLE : Field := ⟨.PIN_CC_CFG, 0, 8, .rw⟩
def PIN_CC_CFG_FORCE : Field := ⟨.PIN_CC_CFG, 8, 8, .rw⟩
def PIN_CC_CFG_SHORT_V : Field := ⟨.PIN_CC_CFG, 16, 8, .rw⟩
def PIN_CC_CFG_SUPPLY_I : Field := ⟨.PIN_CC_CFG, 24, 8, .rw⟩
def PIN_CC_MASK_PINS : Field := ⟨.PIN_CC_MASK, 0, 32, .rw⟩
def PIN_GUARD_COUNT_COUNT : Field := ⟨.PIN_GUARD_COUNT, 0, 32, .ro⟩
def PIN_LOAD_STATUS_COUNT : Field := ⟨.PIN_LOAD_STATUS, 0, 6, .ro⟩
def PIN_LOAD_STATUS_PEND : Field := ⟨.PIN_LOAD_STATUS, 6, 1, .ro⟩
def PIN_CNT_CLR_GUARD : Field := ⟨.PIN_CNT_CLR, 0, 1, .wo⟩

def TON_CTRL_FLUSH : Field := ⟨.TON_CTRL, 0, 1, .w1s⟩
def TON_CFG_INTERP : Field := ⟨.TON_CFG, 0, 1, .rw⟩
def TON_STATUS_STATE : Field := ⟨.TON_STATUS, 0, 3, .ro⟩
def TON_STATUS_FREE : Field := ⟨.TON_STATUS, 3, 1, .ro⟩
def TON_STATUS_TRACK : Field := ⟨.TON_STATUS, 4, 5, .ro⟩
def TON_STATUS_LIST_UNDERRUN : Field := ⟨.TON_STATUS, 9, 1, .w1c⟩
def TON_STATUS_LIST_ERROR : Field := ⟨.TON_STATUS, 10, 1, .w1c⟩
def TON_STATUS_ERR_CAUSE : Field := ⟨.TON_STATUS, 11, 3, .ro⟩
def TON_STATUS_FLUSH_IGN : Field := ⟨.TON_STATUS, 14, 1, .w1c⟩
def TON_STATUS_BUF : Field := ⟨.TON_STATUS, 16, 9, .ro⟩
def TON_INDEX_INDEX : Field := ⟨.TON_INDEX, 0, 17, .ro⟩
def TON_ENTRY_INDEX : Field := ⟨.TON_ENTRY, 0, 17, .rwl⟩
def TON_ENTRY_LOADED : Field := ⟨.TON_ENTRY, 30, 1, .ro⟩
def TON_ENTRY_VALID : Field := ⟨.TON_ENTRY, 31, 1, .rwl⟩
def TON_FTW_LO_FTW : Field := ⟨.TON_FTW_LO, 0, 32, .ro⟩
def TON_FTW_HI_FTW : Field := ⟨.TON_FTW_HI, 0, 16, .ro⟩
def TON_POFF_POFF : Field := ⟨.TON_POFF, 0, 32, .ro⟩
def TON_AMP_POINT : Field := ⟨.TON_AMP, 0, 18, .ro⟩
def TON_UNDERRUNS_COUNT : Field := ⟨.TON_UNDERRUNS, 0, 32, .ro⟩
def TON_ERRORS_COUNT : Field := ⟨.TON_ERRORS, 0, 32, .ro⟩
def TON_CNT_CLR_UNDERRUNS : Field := ⟨.TON_CNT_CLR, 0, 1, .wo⟩
def TON_CNT_CLR_ERRORS : Field := ⟨.TON_CNT_CLR, 1, 1, .wo⟩

def TXC_CTRL_ENABLE : Field := ⟨.TXC_CTRL, 0, 1, .w1s⟩
def TXC_CTRL_DISABLE : Field := ⟨.TXC_CTRL, 1, 1, .w1s⟩
def TXC_CTRL_MUTE : Field := ⟨.TXC_CTRL, 2, 1, .w1s⟩
def TXC_CTRL_UNMUTE : Field := ⟨.TXC_CTRL, 3, 1, .w1s⟩
def TXC_STATUS_PWR : Field := ⟨.TXC_STATUS, 0, 2, .ro⟩
def TXC_STATUS_MUTED : Field := ⟨.TXC_STATUS, 2, 1, .ro⟩
def TXC_STATUS_MUTE_CMD : Field := ⟨.TXC_STATUS, 3, 1, .ro⟩
def TXC_STATUS_MUTE_GOV : Field := ⟨.TXC_STATUS, 4, 1, .ro⟩
def TXC_STATUS_MUTE_FLT : Field := ⟨.TXC_STATUS, 5, 1, .ro⟩
def TXC_STATUS_CLIP : Field := ⟨.TXC_STATUS, 6, 1, .w1c⟩
def TXC_STATUS_PLAYING : Field := ⟨.TXC_STATUS, 8, 8, .ro⟩
def TXC_CFG_TONE_EN : Field := ⟨.TXC_CFG, 0, 8, .rwl⟩
def TXC_CFG_MUTE_RAMP : Field := ⟨.TXC_CFG, 8, 1, .rw⟩
def TXC_GAIN_GAIN : Field := ⟨.TXC_GAIN, 0, 16, .rw⟩
def TXC_CLIP_COUNT : Field := ⟨.TXC_CLIP, 0, 32, .ro⟩
def TXC_MK_CFG_SRC : Field := ⟨.TXC_MK_CFG, 0, 3, .rwl⟩
def TXC_MK_CFG_POL : Field := ⟨.TXC_MK_CFG, 3, 1, .rw⟩
def TXC_MK_CFG_DELAY : Field := ⟨.TXC_MK_CFG, 4, 8, .rw⟩
def TXC_MK_STATUS_LIST0 : Field := ⟨.TXC_MK_STATUS, 0, 1, .ro⟩
def TXC_MK_STATUS_LIST1 : Field := ⟨.TXC_MK_STATUS, 1, 1, .ro⟩
def TXC_MK_STATUS_FORCED0 : Field := ⟨.TXC_MK_STATUS, 2, 1, .ro⟩
def TXC_MK_STATUS_FORCED1 : Field := ⟨.TXC_MK_STATUS, 3, 1, .ro⟩
def TXC_MK_STATUS_OUT0 : Field := ⟨.TXC_MK_STATUS, 4, 1, .ro⟩
def TXC_MK_STATUS_OUT1 : Field := ⟨.TXC_MK_STATUS, 5, 1, .ro⟩
def TXC_CNT_CLR_CLIP : Field := ⟨.TXC_CNT_CLR, 0, 1, .wo⟩
def TXC_CNT_CLR_MUTE : Field := ⟨.TXC_CNT_CLR, 1, 1, .wo⟩
def TXC_TRK_USE_TRACKS : Field := ⟨.TXC_TRK_USE, 0, 32, .rwl⟩
def TXC_TRK_REBASE_TRACKS : Field := ⟨.TXC_TRK_REBASE, 0, 32, .w1s⟩
def TXC_TRK_SEL_TRACK : Field := ⟨.TXC_TRK_SEL, 0, 5, .rw⟩
def TXC_TRK_ACC_LO_ACC : Field := ⟨.TXC_TRK_ACC_LO, 0, 32, .ro⟩
def TXC_TRK_ACC_HI_ACC : Field := ⟨.TXC_TRK_ACC_HI, 0, 16, .ro⟩
def TXC_MUTE_CNT_COUNT : Field := ⟨.TXC_MUTE_CNT, 0, 32, .ro⟩
def TXC_TRK_FTW_LO_FTW : Field := ⟨.TXC_TRK_FTW_LO, 0, 32, .rw⟩
def TXC_TRK_FTW_HI_FTW : Field := ⟨.TXC_TRK_FTW_HI, 0, 16, .rw⟩

def RXC_CTRL_ENABLE : Field := ⟨.RXC_CTRL, 0, 1, .w1s⟩
def RXC_CTRL_DISABLE : Field := ⟨.RXC_CTRL, 1, 1, .w1s⟩
def RXC_STATUS_PWR : Field := ⟨.RXC_STATUS, 0, 2, .ro⟩
def RXC_STATUS_OVR : Field := ⟨.RXC_STATUS, 2, 1, .w1c⟩
def RXC_STATUS_SETTLING : Field := ⟨.RXC_STATUS, 3, 1, .ro⟩
def RXC_CFG_RANGE : Field := ⟨.RXC_CFG, 0, 2, .rw⟩
def RXC_OVR_COUNT : Field := ⟨.RXC_OVR, 0, 32, .ro⟩
def RXC_CNT_CLR_OVR : Field := ⟨.RXC_CNT_CLR, 0, 1, .wo⟩

def DMX_CFG_RESTART : Field := ⟨.DMX_CFG, 0, 1, .rw⟩
def DMX_CFG_LEVELS : Field := ⟨.DMX_CFG, 1, 1, .rw⟩
def DMX_CFG_OVR_CODE : Field := ⟨.DMX_CFG, 2, 1, .rw⟩
def DMX_CFG_DELAY : Field := ⟨.DMX_CFG, 8, 6, .rw⟩
def DMX_CFG_SHIFT : Field := ⟨.DMX_CFG, 16, 6, .rw⟩
def DMX_ROUTE_SRC : Field := ⟨.DMX_ROUTE, 0, 5, .rwl⟩
def DMX_ROUTE_VEN : Field := ⟨.DMX_ROUTE, 8, 1, .rwl⟩
def DMX_STATUS_STATE : Field := ⟨.DMX_STATUS, 0, 2, .ro⟩
def DMX_STATUS_OVERRUN : Field := ⟨.DMX_STATUS, 2, 1, .w1c⟩
def DMX_STATUS_RESTARTED : Field := ⟨.DMX_STATUS, 3, 1, .w1c⟩
def DMX_STATUS_WSET_ERR : Field := ⟨.DMX_STATUS, 4, 1, .w1c⟩
def DMX_STATUS_SAT : Field := ⟨.DMX_STATUS, 5, 1, .w1c⟩
def DMX_STATUS_OVR : Field := ⟨.DMX_STATUS, 6, 1, .w1c⟩
def DMX_STATUS_INVALID : Field := ⟨.DMX_STATUS, 7, 1, .w1c⟩
def DMX_STATUS_WSEL : Field := ⟨.DMX_STATUS, 8, 2, .ro⟩
def DMX_POFF_POFF : Field := ⟨.DMX_POFF, 0, 32, .rw⟩
def DMX_FTW_LO_FTW : Field := ⟨.DMX_FTW_LO, 0, 32, .rw⟩
def DMX_FTW_HI_FTW : Field := ⟨.DMX_FTW_HI, 0, 16, .rw⟩
def DMX_WSET_BASE : Field := ⟨.DMX_WSET, 0, 11, .rw⟩
def DMX_WSET_LEN : Field := ⟨.DMX_WSET, 12, 12, .rw⟩
def DMX_LINE_AB_A : Field := ⟨.DMX_LINE_AB, 0, 16, .rw⟩
def DMX_LINE_AB_B : Field := ⟨.DMX_LINE_AB, 16, 16, .rw⟩
def DMX_LINE_C_LO_C : Field := ⟨.DMX_LINE_C_LO, 0, 32, .rw⟩
def DMX_LINE_C_HI_C : Field := ⟨.DMX_LINE_C_HI, 0, 32, .rw⟩
def DMX_RES_I_VALUE : Field := ⟨.DMX_RES_I, 0, 32, .ro⟩
def DMX_RES_Q_VALUE : Field := ⟨.DMX_RES_Q, 0, 32, .ro⟩
def DMX_RES_END_LO_BEAT : Field := ⟨.DMX_RES_END_LO, 0, 32, .ro⟩
def DMX_RES_END_HI_BEAT : Field := ⟨.DMX_RES_END_HI, 0, 32, .ro⟩
def DMX_RES_INFO_VCODE : Field := ⟨.DMX_RES_INFO, 0, 2, .ro⟩
def DMX_RES_INFO_VVALID : Field := ⟨.DMX_RES_INFO, 2, 1, .ro⟩
def DMX_RES_INFO_OVR : Field := ⟨.DMX_RES_INFO, 3, 1, .ro⟩
def DMX_RES_INFO_SAT : Field := ⟨.DMX_RES_INFO, 4, 1, .ro⟩
def DMX_RES_INFO_INVALID : Field := ⟨.DMX_RES_INFO, 5, 1, .ro⟩
def DMX_RES_INFO_WSEL : Field := ⟨.DMX_RES_INFO, 6, 2, .ro⟩
def DMX_WINDOWS_COUNT : Field := ⟨.DMX_WINDOWS, 0, 32, .ro⟩
def DMX_OVERRUN_COUNT : Field := ⟨.DMX_OVERRUN, 0, 32, .ro⟩
def DMX_RESTARTS_COUNT : Field := ⟨.DMX_RESTARTS, 0, 32, .ro⟩
def DMX_CANCELS_COUNT : Field := ⟨.DMX_CANCELS, 0, 32, .ro⟩
def DMX_CNT_CLR_CLR : Field := ⟨.DMX_CNT_CLR, 0, 4, .wo⟩
def DMX_WRAM_WI : Field := ⟨.DMX_WRAM, 0, 16, .rw⟩
def DMX_WRAM_WQ : Field := ⟨.DMX_WRAM, 16, 16, .rw⟩

def ACQ_CTRL_ARM : Field := ⟨.ACQ_CTRL, 0, 1, .w1s⟩
def ACQ_CTRL_TRIGGER : Field := ⟨.ACQ_CTRL, 1, 1, .w1s⟩
def ACQ_CTRL_STOP : Field := ⟨.ACQ_CTRL, 2, 1, .w1s⟩
def ACQ_CTRL_DESC : Field := ⟨.ACQ_CTRL, 8, 6, .rw⟩
def ACQ_STATUS_SIZE_ERR : Field := ⟨.ACQ_STATUS, 0, 1, .w1c⟩
def ACQ_STATUS_CFG_ERR : Field := ⟨.ACQ_STATUS, 1, 1, .w1c⟩
def ACQ_STATUS_BUSY_ERR : Field := ⟨.ACQ_STATUS, 2, 1, .w1c⟩
def ACQ_STATUS_ACTIVE_ERR : Field := ⟨.ACQ_STATUS, 3, 1, .w1c⟩
def ACQ_STATUS_STORE_ERR : Field := ⟨.ACQ_STATUS, 4, 1, .w1c⟩
def ACQ_STATUS_OVF : Field := ⟨.ACQ_STATUS, 5, 1, .w1c⟩
def ACQ_STATUS_TRIG_EARLY : Field := ⟨.ACQ_STATUS, 6, 1, .w1c⟩
def ACQ_STATUS_ERR_DESC : Field := ⟨.ACQ_STATUS, 8, 6, .ro⟩
def ACQ_STATUS_ACTIVE : Field := ⟨.ACQ_STATUS, 16, 4, .ro⟩
def ACQ_STATUS_DRAINED : Field := ⟨.ACQ_STATUS, 20, 1, .ro⟩
def ACQ_STRM_DESC : Field := ⟨.ACQ_STRM, 0, 6, .ro⟩
def ACQ_STRM_STATE : Field := ⟨.ACQ_STRM, 6, 3, .ro⟩
def ACQ_STRM_SEG : Field := ⟨.ACQ_STRM, 12, 17, .ro⟩
def ACQ_TRIG_EARLY_COUNT : Field := ⟨.ACQ_TRIG_EARLY, 0, 32, .ro⟩
def ACQ_OVF_COUNT : Field := ⟨.ACQ_OVF, 0, 32, .ro⟩
def ACQ_CNT_CLR_EARLY : Field := ⟨.ACQ_CNT_CLR, 0, 1, .wo⟩
def ACQ_CNT_CLR_OVF : Field := ⟨.ACQ_CNT_CLR, 1, 1, .wo⟩
def ACQ_DCFG_KIND : Field := ⟨.ACQ_DCFG, 0, 2, .rwl⟩
def ACQ_DCFG_SRC : Field := ⟨.ACQ_DCFG, 2, 1, .rwl⟩
def ACQ_DCFG_TRIG : Field := ⟨.ACQ_DCFG, 4, 2, .rwl⟩
def ACQ_DCFG_TBIN : Field := ⟨.ACQ_DCFG, 6, 5, .rwl⟩
def ACQ_DCFG_DEC : Field := ⟨.ACQ_DCFG, 16, 8, .rwl⟩
def ACQ_DBASE_LINE : Field := ⟨.ACQ_DBASE, 0, 15, .rwl⟩
def ACQ_DLINES_LINES : Field := ⟨.ACQ_DLINES, 0, 15, .rwl⟩
def ACQ_DPRE_ITEMS : Field := ⟨.ACQ_DPRE, 0, 24, .rwl⟩
def ACQ_DPOST_ITEMS : Field := ⟨.ACQ_DPOST, 0, 24, .rwl⟩
def ACQ_DSEG_SEGMENTS : Field := ⟨.ACQ_DSEG, 0, 17, .rwl⟩
def ACQ_DMASK_MASK : Field := ⟨.ACQ_DMASK, 0, 32, .rwl⟩

def VRD_STATUS_LATE : Field := ⟨.VRD_STATUS, 0, 1, .w1c⟩
def VRD_STATUS_DUE_ERR : Field := ⟨.VRD_STATUS, 1, 1, .w1c⟩
def VRD_STATUS_UNBOUND : Field := ⟨.VRD_STATUS, 2, 1, .w1c⟩
def VRD_STATUS_EXP_DROP : Field := ⟨.VRD_STATUS, 3, 1, .w1c⟩
def VRD_STATUS_ROUTE_ALT : Field := ⟨.VRD_STATUS, 4, 1, .ro⟩
def VRD_LATE_COUNT : Field := ⟨.VRD_LATE, 0, 32, .ro⟩
def VRD_DUE_ERR_COUNT : Field := ⟨.VRD_DUE_ERR, 0, 32, .ro⟩
def VRD_UNBOUND_COUNT : Field := ⟨.VRD_UNBOUND, 0, 32, .ro⟩
def VRD_EXP_DROP_COUNT : Field := ⟨.VRD_EXP_DROP, 0, 32, .ro⟩
def VRD_GOV_SUBST_COUNT : Field := ⟨.VRD_GOV_SUBST, 0, 32, .ro⟩
def VRD_CNT_CLR_CLR : Field := ⟨.VRD_CNT_CLR, 0, 5, .wo⟩
def VRD_LAST_LATE_VERDICT : Field := ⟨.VRD_LAST_LATE, 0, 10, .ro⟩
def VRD_LAST_LATE_SRC_DEV : Field := ⟨.VRD_LAST_LATE, 10, 10, .ro⟩
def VRD_LAST_LATE_BEATS : Field := ⟨.VRD_LAST_LATE, 20, 12, .ro⟩
def VRD_UNAVAIL_SLICES : Field := ⟨.VRD_UNAVAIL, 0, 16, .ro⟩
def VRD_EXPQ_MAX_DEPTH : Field := ⟨.VRD_EXPQ_MAX, 0, 6, .ro⟩
def VRD_IMP_HOLD_HELD : Field := ⟨.VRD_IMP_HOLD, 0, 32, .ro⟩
def VRD_ROUTE_SLICES : Field := ⟨.VRD_ROUTE, 0, 16, .rwl⟩
def VRD_ROUTE_PAD_ALT : Field := ⟨.VRD_ROUTE, 16, 1, .rwl⟩
def VRD_ROUTE_UNAVAIL : Field := ⟨.VRD_ROUTE, 17, 1, .rwl⟩
def VRD_ROUTE_GUARD_TX : Field := ⟨.VRD_ROUTE, 18, 3, .rwl⟩
def VRD_DELIV_DELIV_P : Field := ⟨.VRD_DELIV, 0, 8, .rwl⟩
def VRD_DELIV_DELIV_A : Field := ⟨.VRD_DELIV, 8, 8, .rwl⟩
def VRD_EXPORT_VERDICT : Field := ⟨.VRD_EXPORT, 0, 10, .rwl⟩
def VRD_EXPORT_DEST : Field := ⟨.VRD_EXPORT, 10, 10, .rwl⟩
def VRD_EXPORT_VALID : Field := ⟨.VRD_EXPORT, 31, 1, .rwl⟩
def VRD_IMPORT_SRC_VERDICT : Field := ⟨.VRD_IMPORT, 0, 10, .rwl⟩
def VRD_IMPORT_SRC_DEV : Field := ⟨.VRD_IMPORT, 10, 10, .rwl⟩
def VRD_IMPORT_VALID : Field := ⟨.VRD_IMPORT, 31, 1, .rwl⟩
def VRD_IMPORT_SL_SLICES : Field := ⟨.VRD_IMPORT_SL, 0, 16, .rwl⟩

def FF_CTRL_SET : Field := ⟨.FF_CTRL, 0, 3, .rw⟩
def FF_CTRL_SPAN : Field := ⟨.FF_CTRL, 3, 1, .w1s⟩
def FF_CTRL_HIZ : Field := ⟨.FF_CTRL, 4, 1, .w1s⟩
def FF_STATUS_STATE : Field := ⟨.FF_STATUS, 0, 3, .ro⟩
def FF_STATUS_SETTING : Field := ⟨.FF_STATUS, 4, 3, .ro⟩
def FF_STATUS_GOV : Field := ⟨.FF_STATUS, 7, 1, .ro⟩
def FF_STATUS_LIMIT : Field := ⟨.FF_STATUS, 8, 1, .ro⟩
def FF_STATUS_SHORT : Field := ⟨.FF_STATUS, 9, 1, .w1c⟩
def FF_STATUS_CHECK : Field := ⟨.FF_STATUS, 10, 1, .ro⟩
def FF_STATUS_REFUSED : Field := ⟨.FF_STATUS, 11, 1, .w1c⟩
def FF_STATUS_DEFERRED : Field := ⟨.FF_STATUS, 12, 1, .w1c⟩
def FF_STATUS_DISCARD : Field := ⟨.FF_STATUS, 13, 1, .w1c⟩
def FF_CFG_RAMP : Field := ⟨.FF_CFG, 0, 11, .rw⟩
def FF_CFG_DGL_THR : Field := ⟨.FF_CFG, 12, 3, .rw⟩
def FF_CFG_KELVIN : Field := ⟨.FF_CFG, 16, 1, .rw⟩
def FF_LIM_ALLOW : Field := ⟨.FF_LIM, 0, 6, .rwl⟩
def FF_LIM_DGL_CEIL : Field := ⟨.FF_LIM, 8, 3, .rwl⟩
def FF_SHORT_CFG_ILIM : Field := ⟨.FF_SHORT_CFG, 0, 6, .rw⟩
def FF_SHORT_CFG_VCOMP : Field := ⟨.FF_SHORT_CFG, 8, 6, .rw⟩
def FF_SHORT_CFG_ERR : Field := ⟨.FF_SHORT_CFG, 16, 8, .rw⟩
def FF_SHORT_CFG_PROGRESS : Field := ⟨.FF_SHORT_CFG, 24, 8, .rw⟩
def FF_CODE_CODE : Field := ⟨.FF_CODE, 0, 16, .ro⟩
def FF_CODE_HELD : Field := ⟨.FF_CODE, 16, 1, .ro⟩
def FF_READBACK_VALUE : Field := ⟨.FF_READBACK, 0, 16, .ro⟩
def FF_READBACK_INDEX : Field := ⟨.FF_READBACK, 16, 6, .ro⟩
def FF_DEFER_COUNT : Field := ⟨.FF_DEFER, 0, 32, .ro⟩
def FF_DISCARD_COUNT : Field := ⟨.FF_DISCARD, 0, 32, .ro⟩
def FF_REFUSED_COUNT : Field := ⟨.FF_REFUSED, 0, 32, .ro⟩
def FF_PROV_COUNT : Field := ⟨.FF_PROV, 0, 32, .ro⟩
def FF_DISMISS_COUNT : Field := ⟨.FF_DISMISS, 0, 32, .ro⟩
def FF_DGL_COUNT : Field := ⟨.FF_DGL, 0, 32, .ro⟩
def FF_SHORTS_COUNT : Field := ⟨.FF_SHORTS, 0, 32, .ro⟩
def FF_CNT_CLR_CH : Field := ⟨.FF_CNT_CLR, 0, 8, .wo⟩
def FF_CNT_CLR_CNT : Field := ⟨.FF_CNT_CLR, 8, 7, .wo⟩

def MAD_CMD_TRIG : Field := ⟨.MAD_CMD, 0, 1, .w1s⟩
def MAD_CMD_ABORT : Field := ⟨.MAD_CMD, 1, 1, .w1s⟩
def MAD_CMD_SELFCAL : Field := ⟨.MAD_CMD, 2, 1, .w1s⟩
def MAD_CMD_SYSCAL : Field := ⟨.MAD_CMD, 3, 1, .w1s⟩
def MAD_CMD_APPLYF : Field := ⟨.MAD_CMD, 4, 1, .w1s⟩
def MAD_CMD_SEQ : Field := ⟨.MAD_CMD, 8, 4, .rw⟩
def MAD_CFG_ENABLE : Field := ⟨.MAD_CFG, 0, 1, .rw⟩
def MAD_CFG_LOWPWR : Field := ⟨.MAD_CFG, 1, 1, .rw⟩
def MAD_CFG_WMARK : Field := ⟨.MAD_CFG, 8, 9, .rw⟩
def MAD_STATUS_STATE : Field := ⟨.MAD_STATUS, 0, 3, .ro⟩
def MAD_STATUS_PEND : Field := ⟨.MAD_STATUS, 3, 1, .ro⟩
def MAD_STATUS_PEND_SEQ : Field := ⟨.MAD_STATUS, 4, 4, .ro⟩
def MAD_STATUS_RUN_SEQ : Field := ⟨.MAD_STATUS, 8, 4, .ro⟩
def MAD_STATUS_TRIG_DROP : Field := ⟨.MAD_STATUS, 12, 1, .w1c⟩
def MAD_STATUS_QOVF : Field := ⟨.MAD_STATUS, 13, 1, .w1c⟩
def MAD_STATUS_RD_EMPTY : Field := ⟨.MAD_STATUS, 14, 1, .w1c⟩
def MAD_STATUS_SELFCAL_DONE : Field := ⟨.MAD_STATUS, 15, 1, .w1c⟩
def MAD_STATUS_SELFCAL_FAIL : Field := ⟨.MAD_STATUS, 16, 1, .w1c⟩
def MAD_STATUS_REFUSED : Field := ⟨.MAD_STATUS, 17, 1, .w1c⟩
def MAD_QSTATUS_COUNT : Field := ⟨.MAD_QSTATUS, 0, 9, .ro⟩
def MAD_QSTATUS_PEAK : Field := ⟨.MAD_QSTATUS, 16, 9, .ro⟩
def MAD_RES_LO_ENTRY : Field := ⟨.MAD_RES_LO, 0, 32, .ro⟩
def MAD_RES_HI_ENTRY : Field := ⟨.MAD_RES_HI, 0, 32, .ro⟩
def MAD_TRIG_DROP_COUNT : Field := ⟨.MAD_TRIG_DROP, 0, 32, .ro⟩
def MAD_QLOST_COUNT : Field := ⟨.MAD_QLOST, 0, 32, .ro⟩
def MAD_REDO_COUNT : Field := ⟨.MAD_REDO, 0, 32, .ro⟩
def MAD_ABORTS_COUNT : Field := ⟨.MAD_ABORTS, 0, 32, .ro⟩
def MAD_DIS_COUNT_FINISHED : Field := ⟨.MAD_DIS_COUNT, 0, 16, .ro⟩
def MAD_DIS_COUNT_DISCARDED : Field := ⟨.MAD_DIS_COUNT, 16, 16, .ro⟩
def MAD_CNT_CLR_CLR : Field := ⟨.MAD_CNT_CLR, 0, 5, .wo⟩
def MAD_SCAL_CTRL_INPUT : Field := ⟨.MAD_SCAL_CTRL, 0, 6, .rw⟩
def MAD_SCAL_CTRL_RANGE : Field := ⟨.MAD_SCAL_CTRL, 6, 2, .rw⟩
def MAD_SCAL_CTRL_POINT : Field := ⟨.MAD_SCAL_CTRL, 8, 1, .rw⟩
def MAD_SCAL_REF_REF : Field := ⟨.MAD_SCAL_REF, 0, 18, .rw⟩
def MAD_SCAL_STATUS_STATE : Field := ⟨.MAD_SCAL_STATUS, 0, 2, .ro⟩
def MAD_SCAL_STATUS_ERR : Field := ⟨.MAD_SCAL_STATUS, 2, 3, .ro⟩
def MAD_SCAL_STATUS_SET : Field := ⟨.MAD_SCAL_STATUS, 5, 4, .ro⟩
def MAD_SEQ_STEPS : Field := ⟨.MAD_SEQ, 0, 4, .rw⟩
def MAD_SEQ_REPEAT : Field := ⟨.MAD_SEQ, 4, 8, .rw⟩
def MAD_SEQ_GAP : Field := ⟨.MAD_SEQ, 12, 20, .rw⟩
def MAD_SYSC_OFF_OFF : Field := ⟨.MAD_SYSC_OFF, 0, 18, .rw⟩
def MAD_SYSC_GAIN_GAIN : Field := ⟨.MAD_SYSC_GAIN, 0, 18, .rw⟩
def MAD_SCF_VALUE : Field := ⟨.MAD_SCF, 0, 18, .rw⟩
def MAD_STEP_INPUT : Field := ⟨.MAD_STEP, 0, 6, .rw⟩
def MAD_STEP_RANGE : Field := ⟨.MAD_STEP, 6, 2, .rw⟩
def MAD_STEP_AVG : Field := ⟨.MAD_STEP, 8, 3, .rw⟩
def MAD_FIFO_ENTRY : Field := ⟨.MAD_FIFO, 0, 32, .ro⟩

def TDC_CTRL_ARM : Field := ⟨.TDC_CTRL, 0, 1, .w1s⟩
def TDC_CTRL_DISARM : Field := ⟨.TDC_CTRL, 1, 1, .w1s⟩
def TDC_CTRL_GATE : Field := ⟨.TDC_CTRL, 2, 1, .w1s⟩
def TDC_CTRL_SETUP : Field := ⟨.TDC_CTRL, 3, 2, .rw⟩
def TDC_CFG_EN : Field := ⟨.TDC_CFG, 0, 1, .rw⟩
def TDC_CFG_CMP_SHIFT : Field := ⟨.TDC_CFG, 8, 5, .rw⟩
def TDC_STATUS_STATE : Field := ⟨.TDC_STATUS, 0, 3, .ro⟩
def TDC_STATUS_LOCK : Field := ⟨.TDC_STATUS, 3, 1, .ro⟩
def TDC_STATUS_ARM_IGN : Field := ⟨.TDC_STATUS, 4, 1, .w1c⟩
def TDC_STATUS_CFG_ERR : Field := ⟨.TDC_STATUS, 5, 1, .w1c⟩
def TDC_STATUS_SPACING : Field := ⟨.TDC_STATUS, 6, 1, .w1c⟩
def TDC_STATUS_REV_DISC : Field := ⟨.TDC_STATUS, 7, 1, .w1c⟩
def TDC_STATUS_GATE_IGN : Field := ⟨.TDC_STATUS, 8, 1, .w1c⟩
def TDC_STATUS_SETUP : Field := ⟨.TDC_STATUS, 9, 2, .ro⟩
def TDC_STATUS_LEFT : Field := ⟨.TDC_STATUS, 11, 8, .ro⟩
def TDC_SETUP_MODE : Field := ⟨.TDC_SETUP, 0, 2, .rw⟩
def TDC_SETUP_START_IN : Field := ⟨.TDC_SETUP, 2, 7, .rw⟩
def TDC_SETUP_START_SLOPE : Field := ⟨.TDC_SETUP, 9, 2, .rw⟩
def TDC_SETUP_STOP_IN : Field := ⟨.TDC_SETUP, 11, 7, .rw⟩
def TDC_SETUP_STOP_SLOPE : Field := ⟨.TDC_SETUP, 18, 2, .rw⟩
def TDC_SETUP_REPEAT : Field := ⟨.TDC_SETUP, 20, 8, .rw⟩
def TDC_SETUP_CONT : Field := ⟨.TDC_SETUP, 28, 1, .rw⟩
def TDC_GATE_US : Field := ⟨.TDC_GATE, 0, 22, .rw⟩
def TDC_SPACING_COUNT : Field := ⟨.TDC_SPACING, 0, 32, .ro⟩
def TDC_REV_DISC_COUNT : Field := ⟨.TDC_REV_DISC, 0, 32, .ro⟩
def TDC_IGNORED_COUNT : Field := ⟨.TDC_IGNORED, 0, 32, .ro⟩
def TDC_CNT_CLR_CLR : Field := ⟨.TDC_CNT_CLR, 0, 3, .wo⟩
def TDC_RESULT_WORD0 : Field := ⟨.TDC_RESULT, 0, 32, .ro⟩
def TDC_RES_VAL_LO_WORD : Field := ⟨.TDC_RES_VAL_LO, 0, 32, .ro⟩
def TDC_RES_VAL_HI_WORD : Field := ⟨.TDC_RES_VAL_HI, 0, 32, .ro⟩
def TDC_RES_AUX_WORD : Field := ⟨.TDC_RES_AUX, 0, 32, .ro⟩
def TDC_QSTATUS_COUNT : Field := ⟨.TDC_QSTATUS, 0, 8, .ro⟩
def TDC_QSTATUS_QOVF : Field := ⟨.TDC_QSTATUS, 8, 1, .w1c⟩
def TDC_QSTATUS_PEAK : Field := ⟨.TDC_QSTATUS, 16, 8, .ro⟩
def TDC_QCFG_WMARK : Field := ⟨.TDC_QCFG, 0, 8, .rw⟩
def TDC_QLOST_COUNT : Field := ⟨.TDC_QLOST, 0, 32, .ro⟩
def TDC_QCLR_QLOST : Field := ⟨.TDC_QCLR, 0, 1, .wo⟩
def TDC_FIFO_ENTRY : Field := ⟨.TDC_FIFO, 0, 32, .ro⟩
def TDC_TIN_CFG_THR : Field := ⟨.TDC_TIN_CFG, 0, 16, .rw⟩
def TDC_TIN_CFG_HYST : Field := ⟨.TDC_TIN_CFG, 16, 2, .rw⟩
def TDC_TIN_CFG_TERM : Field := ⟨.TDC_TIN_CFG, 18, 1, .rw⟩

def INV_CFG_REF_SEL : Field := ⟨.INV_CFG, 0, 2, .rw⟩
def INV_CFG_BW : Field := ⟨.INV_CFG, 2, 2, .rw⟩
def INV_STATUS_LOCK : Field := ⟨.INV_STATUS, 0, 1, .ro⟩
def INV_STATUS_REF_VALID : Field := ⟨.INV_STATUS, 1, 1, .ro⟩
def INV_STATUS_DISC_LOCK : Field := ⟨.INV_STATUS, 2, 1, .ro⟩
def INV_STATUS_HOLDOVER : Field := ⟨.INV_STATUS, 3, 1, .ro⟩
def INV_STATUS_SLEWING : Field := ⟨.INV_STATUS, 4, 1, .ro⟩
def INV_STATUS_REF_LOST : Field := ⟨.INV_STATUS, 5, 1, .w1c⟩
def INV_STATUS_XTAL_FAIL : Field := ⟨.INV_STATUS, 6, 1, .ro⟩
def INV_STATUS_CLAMP : Field := ⟨.INV_STATUS, 7, 1, .w1c⟩
def INV_AGE_TRIM_TRIM : Field := ⟨.INV_AGE_TRIM, 0, 32, .rw⟩
def INV_CORR_VALUE : Field := ⟨.INV_CORR, 0, 32, .ro⟩
def INV_DISC_VALUE : Field := ⟨.INV_DISC, 0, 32, .ro⟩
def INV_PHASE_ERR_PS : Field := ⟨.INV_PHASE_ERR, 0, 32, .ro⟩
def INV_TEMP_TEMP : Field := ⟨.INV_TEMP, 0, 16, .ro⟩
def INV_REF_LOSS_COUNT : Field := ⟨.INV_REF_LOSS, 0, 32, .ro⟩
def INV_CNT_CLR_LOSS : Field := ⟨.INV_CNT_CLR, 0, 1, .wo⟩

def CHN_CFG_ROLE : Field := ⟨.CHN_CFG, 0, 2, .rw⟩
def CHN_CFG_POS : Field := ⟨.CHN_CFG, 2, 5, .rw⟩
def CHN_CFG_AVG : Field := ⟨.CHN_CFG, 8, 4, .rw⟩
def CHN_CFG_AUX1_MARK : Field := ⟨.CHN_CFG, 12, 1, .rw⟩
def CHN_CTRL_EPOCH : Field := ⟨.CHN_CTRL, 0, 1, .w1s⟩
def CHN_CTRL_REALIGN : Field := ⟨.CHN_CTRL, 1, 1, .w1s⟩
def CHN_STATUS_STATE : Field := ⟨.CHN_STATUS, 0, 3, .ro⟩
def CHN_STATUS_ALIGNED : Field := ⟨.CHN_STATUS, 3, 1, .ro⟩
def CHN_STATUS_CLK_LOCK : Field := ⟨.CHN_STATUS, 4, 1, .ro⟩
def CHN_STATUS_EPOCH_PEND : Field := ⟨.CHN_STATUS, 5, 1, .ro⟩
def CHN_STATUS_UP_LOST : Field := ⟨.CHN_STATUS, 6, 1, .w1c⟩
def CHN_STATUS_POS_ERR : Field := ⟨.CHN_STATUS, 7, 1, .ro⟩
def CHN_STATUS_COUNT_ERR : Field := ⟨.CHN_STATUS, 8, 1, .w1c⟩
def CHN_STATUS_LINK_LONG : Field := ⟨.CHN_STATUS, 9, 1, .ro⟩
def CHN_STATUS_EPOCH_REFUSED : Field := ⟨.CHN_STATUS, 10, 1, .w1c⟩
def CHN_STATUS_REALIGN_REFUSED : Field := ⟨.CHN_STATUS, 11, 1, .w1c⟩
def CHN_STATUS_CFG_IGN : Field := ⟨.CHN_STATUS, 12, 1, .w1c⟩
def CHN_EPOCH_LO_BEAT : Field := ⟨.CHN_EPOCH_LO, 0, 32, .rw⟩
def CHN_EPOCH_HI_BEAT : Field := ⟨.CHN_EPOCH_HI, 0, 32, .rw⟩
def CHN_LAST_EPOCH_LO_BEAT : Field := ⟨.CHN_LAST_EPOCH_LO, 0, 32, .ro⟩
def CHN_LAST_EPOCH_HI_BEAT : Field := ⟨.CHN_LAST_EPOCH_HI, 0, 32, .ro⟩
def CHN_LINK_FWD : Field := ⟨.CHN_LINK, 0, 20, .ro⟩
def CHN_OFFSET_DELTA : Field := ⟨.CHN_OFFSET, 0, 32, .ro⟩
def CHN_TRIM_TRIM : Field := ⟨.CHN_TRIM, 0, 13, .rw⟩
def CHN_EXT_DELAY_DELAY : Field := ⟨.CHN_EXT_DELAY, 0, 20, .rw⟩
def CHN_FRAME_ERR_COUNT : Field := ⟨.CHN_FRAME_ERR, 0, 32, .ro⟩
def CHN_HOLDOVERS_COUNT : Field := ⟨.CHN_HOLDOVERS, 0, 32, .ro⟩
def CHN_CNT_CLR_FRAME_ERR : Field := ⟨.CHN_CNT_CLR, 0, 1, .wo⟩
def CHN_CNT_CLR_HOLDOVERS : Field := ⟨.CHN_CNT_CLR, 1, 1, .wo⟩

def TRG_CTRL_CAL : Field := ⟨.TRG_CTRL, 0, 1, .w1s⟩
def TRG_STATUS_LEVEL : Field := ⟨.TRG_STATUS, 0, 8, .ro⟩
def TRG_STATUS_CAL_BUSY : Field := ⟨.TRG_STATUS, 8, 1, .ro⟩
def TRG_STATUS_CAL_DONE : Field := ⟨.TRG_STATUS, 9, 1, .w1c⟩
def TRG_STATUS_CAL_REFUSED : Field := ⟨.TRG_STATUS, 10, 1, .w1c⟩
def TRG_STATUS_MARGIN : Field := ⟨.TRG_STATUS, 11, 1, .w1c⟩
def TRG_STATUS_GLITCH : Field := ⟨.TRG_STATUS, 12, 1, .w1c⟩
def TRG_STATUS_DRIVE_IGN : Field := ⟨.TRG_STATUS, 13, 1, .w1c⟩
def TRG_DRIVE_LEVEL : Field := ⟨.TRG_DRIVE, 0, 8, .rw⟩
def TRG_CAL_START_LO_BEAT : Field := ⟨.TRG_CAL_START_LO, 0, 32, .ro⟩
def TRG_CAL_START_HI_BEAT : Field := ⟨.TRG_CAL_START_HI, 0, 32, .ro⟩
def TRG_LINE_EN : Field := ⟨.TRG_LINE, 0, 1, .rw⟩
def TRG_LINE_SRC : Field := ⟨.TRG_LINE, 1, 2, .rw⟩
def TRG_LINE_TIN : Field := ⟨.TRG_LINE, 3, 4, .rw⟩
def TRG_POS_PS : Field := ⟨.TRG_POS, 0, 16, .rw⟩
def TRG_POS_CAL_ERR : Field := ⟨.TRG_POS, 30, 1, .ro⟩
def TRG_POS_CAL_OK : Field := ⟨.TRG_POS, 31, 1, .ro⟩
def TRG_EDGES_COUNT : Field := ⟨.TRG_EDGES, 0, 32, .ro⟩
def TRG_MARGINS_COUNT : Field := ⟨.TRG_MARGINS, 0, 32, .ro⟩
def TRG_GLITCHES_COUNT : Field := ⟨.TRG_GLITCHES, 0, 32, .ro⟩
def TRG_CNT_CLR_EDGES : Field := ⟨.TRG_CNT_CLR, 0, 8, .wo⟩
def TRG_CNT_CLR_MARGINS : Field := ⟨.TRG_CNT_CLR, 8, 1, .wo⟩
def TRG_CNT_CLR_GLITCHES : Field := ⟨.TRG_CNT_CLR, 9, 1, .wo⟩

def KTL_CTRL_DISCOVER : Field := ⟨.KTL_CTRL, 0, 1, .w1s⟩
def KTL_CTRL_JOIN : Field := ⟨.KTL_CTRL, 1, 1, .w1s⟩
def KTL_CFG_ROOT_EN : Field := ⟨.KTL_CFG, 0, 1, .rwl⟩
def KTL_CFG_ADOPT_EN : Field := ⟨.KTL_CFG, 1, 1, .rwl⟩
def KTL_CFG_REQ_ID : Field := ⟨.KTL_CFG, 2, 10, .rw⟩
def KTL_CFG_REQ_VALID : Field := ⟨.KTL_CFG, 12, 1, .rw⟩
def KTL_STATUS_STATE : Field := ⟨.KTL_STATUS, 0, 3, .ro⟩
def KTL_STATUS_ROOT : Field := ⟨.KTL_STATUS, 3, 1, .ro⟩
def KTL_STATUS_TOPO_MISMATCH : Field := ⟨.KTL_STATUS, 4, 1, .ro⟩
def KTL_STATUS_SOLDER_LATE : Field := ⟨.KTL_STATUS, 5, 1, .w1c⟩
def KTL_STATUS_ID_REFUSED : Field := ⟨.KTL_STATUS, 6, 1, .w1c⟩
def KTL_STATUS_DEGRADED : Field := ⟨.KTL_STATUS, 7, 1, .ro⟩
def KTL_STATUS_UNREACH : Field := ⟨.KTL_STATUS, 8, 1, .ro⟩
def KTL_STATUS_BAR_NONMEMBER : Field := ⟨.KTL_STATUS, 9, 1, .w1c⟩
def KTL_STATUS_JOIN_DONE : Field := ⟨.KTL_STATUS, 10, 1, .w1c⟩
def KTL_ID_ID : Field := ⟨.KTL_ID, 0, 10, .ro⟩
def KTL_ID_VALID : Field := ⟨.KTL_ID, 31, 1, .ro⟩
def KTL_UID_LO_UID : Field := ⟨.KTL_UID_LO, 0, 32, .ro⟩
def KTL_UID_HI_UID : Field := ⟨.KTL_UID_HI, 0, 32, .ro⟩
def KTL_ROOT_ROOT_ID : Field := ⟨.KTL_ROOT, 0, 10, .ro⟩
def KTL_ROOT_HOPS : Field := ⟨.KTL_ROOT, 10, 8, .ro⟩
def KTL_COMMIT_DELAY_BEATS : Field := ⟨.KTL_COMMIT_DELAY, 0, 32, .rw⟩
def KTL_TOPO_EXPECT_DIGEST : Field := ⟨.KTL_TOPO_EXPECT, 0, 32, .rwl⟩
def KTL_TOPO_SEEN_DIGEST : Field := ⟨.KTL_TOPO_SEEN, 0, 32, .ro⟩
def KTL_LINKS_DOWN_COUNT : Field := ⟨.KTL_LINKS_DOWN, 0, 11, .ro⟩
def KTL_UNREACH_DROP_COUNT : Field := ⟨.KTL_UNREACH_DROP, 0, 32, .ro⟩
def KTL_TTL_DROP_COUNT : Field := ⟨.KTL_TTL_DROP, 0, 32, .ro⟩
def KTL_BAR_LATE_COUNT : Field := ⟨.KTL_BAR_LATE, 0, 32, .ro⟩
def KTL_BAR_ABORTS_COUNT : Field := ⟨.KTL_BAR_ABORTS, 0, 32, .ro⟩
def KTL_CNT_CLR_CLR : Field := ⟨.KTL_CNT_CLR, 0, 4, .wo⟩
def KTL_PORT_CFG_EN : Field := ⟨.KTL_PORT_CFG, 0, 1, .rw⟩
def KTL_PORT_CFG_REACH : Field := ⟨.KTL_PORT_CFG, 1, 1, .rw⟩
def KTL_PORT_CFG_TXEQ : Field := ⟨.KTL_PORT_CFG, 2, 4, .rw⟩
def KTL_PORT_STATUS_STATE : Field := ⟨.KTL_PORT_STATUS, 0, 3, .ro⟩
def KTL_PORT_STATUS_LANE_SWAP : Field := ⟨.KTL_PORT_STATUS, 3, 1, .ro⟩
def KTL_PORT_STATUS_POL0 : Field := ⟨.KTL_PORT_STATUS, 4, 1, .ro⟩
def KTL_PORT_STATUS_POL1 : Field := ⟨.KTL_PORT_STATUS, 5, 1, .ro⟩
def KTL_PORT_STATUS_LOOPBACK : Field := ⟨.KTL_PORT_STATUS, 6, 1, .ro⟩
def KTL_PORT_STATUS_LANE_ERR : Field := ⟨.KTL_PORT_STATUS, 7, 1, .ro⟩
def KTL_PORT_STATUS_FLIGHT_LONG : Field := ⟨.KTL_PORT_STATUS, 8, 1, .ro⟩
def KTL_PORT_STATUS_MAINT_ONLY : Field := ⟨.KTL_PORT_STATUS, 9, 1, .ro⟩
def KTL_PORT_STATUS_DOWN_EVT : Field := ⟨.KTL_PORT_STATUS, 10, 1, .w1c⟩
def KTL_PORT_STATUS_DOWN_CAUSE : Field := ⟨.KTL_PORT_STATUS, 11, 3, .ro⟩
def KTL_PORT_NBR_ID : Field := ⟨.KTL_PORT_NBR, 0, 10, .ro⟩
def KTL_PORT_NBR_PORT : Field := ⟨.KTL_PORT_NBR, 10, 2, .ro⟩
def KTL_PORT_NBR_ID_VALID : Field := ⟨.KTL_PORT_NBR, 12, 1, .ro⟩
def KTL_PORT_NBR_VALID : Field := ⟨.KTL_PORT_NBR, 31, 1, .ro⟩
def KTL_PORT_FLIGHT_PS : Field := ⟨.KTL_PORT_FLIGHT, 0, 16, .ro⟩
def KTL_FEC_CORR_COUNT : Field := ⟨.KTL_FEC_CORR, 0, 32, .ro⟩
def KTL_FEC_UNCORR_COUNT : Field := ⟨.KTL_FEC_UNCORR, 0, 32, .ro⟩
def KTL_REPLAYS_COUNT : Field := ⟨.KTL_REPLAYS, 0, 32, .ro⟩
def KTL_PORT_DOWNS_COUNT : Field := ⟨.KTL_PORT_DOWNS, 0, 32, .ro⟩
def KTL_PORT_CLR_CLR : Field := ⟨.KTL_PORT_CLR, 0, 4, .wo⟩
def KTL_RT_VPRI : Field := ⟨.KTL_RT, 0, 3, .ro⟩
def KTL_RT_VALT : Field := ⟨.KTL_RT, 3, 3, .ro⟩
def KTL_RT_PPRI : Field := ⟨.KTL_RT, 6, 3, .ro⟩
def KTL_RT_PALT : Field := ⟨.KTL_RT, 9, 3, .ro⟩
def KTL_RT_PDN : Field := ⟨.KTL_RT, 12, 3, .ro⟩
def KTL_RT_V_ALT : Field := ⟨.KTL_RT, 16, 1, .ro⟩
def KTL_RT_P_ALT : Field := ⟨.KTL_RT, 17, 1, .ro⟩
def KTL_RT_UNREACH : Field := ⟨.KTL_RT, 18, 1, .ro⟩
def KTL_RT_DIST : Field := ⟨.KTL_RT, 20, 8, .ro⟩
def KTL_BAR_CFG_SLICES : Field := ⟨.KTL_BAR_CFG, 0, 16, .rwl⟩
def KTL_BAR_CFG_CHILD : Field := ⟨.KTL_BAR_CFG, 16, 4, .rwl⟩
def KTL_BAR_CFG_PARENT : Field := ⟨.KTL_BAR_CFG, 20, 3, .rwl⟩
def KTL_BAR_CFG_VALID : Field := ⟨.KTL_BAR_CFG, 31, 1, .rwl⟩
def KTL_BAR_DELAY_RDELAY : Field := ⟨.KTL_BAR_DELAY, 0, 16, .rwl⟩
def KTL_BAR_STATE_ARRIVED : Field := ⟨.KTL_BAR_STATE, 0, 16, .ro⟩
def KTL_BAR_STATE_CHILD_ARR : Field := ⟨.KTL_BAR_STATE, 16, 4, .ro⟩
def KTL_BAR_STATE_GEN : Field := ⟨.KTL_BAR_STATE, 20, 8, .ro⟩
def KTL_BAR_STATE_PHASE : Field := ⟨.KTL_BAR_STATE, 28, 2, .ro⟩

def HST_PTP_CFG_EN : Field := ⟨.HST_PTP_CFG, 0, 1, .rw⟩
def HST_PTP_CFG_PORT : Field := ⟨.HST_PTP_CFG, 1, 1, .rw⟩
def HST_PTP_CFG_TRANSPORT : Field := ⟨.HST_PTP_CFG, 2, 2, .rw⟩
def HST_PTP_CFG_DOMAIN : Field := ⟨.HST_PTP_CFG, 4, 8, .rw⟩
def HST_PTP_STATUS_STATE : Field := ⟨.HST_PTP_STATUS, 0, 2, .ro⟩
def HST_TOD_CTRL_LATCH : Field := ⟨.HST_TOD_CTRL, 0, 1, .w1s⟩
def HST_TOD_CTRL_STEP : Field := ⟨.HST_TOD_CTRL, 1, 1, .w1s⟩
def HST_TOD_ADJ_ADJ : Field := ⟨.HST_TOD_ADJ, 0, 32, .rw⟩
def HST_TOD_SEC_LO_SEC : Field := ⟨.HST_TOD_SEC_LO, 0, 32, .rw⟩
def HST_TOD_SEC_HI_SEC : Field := ⟨.HST_TOD_SEC_HI, 0, 16, .rw⟩
def HST_TOD_NS_NS : Field := ⟨.HST_TOD_NS, 0, 30, .rw⟩
def HST_TOD_BEAT_LO_BEAT : Field := ⟨.HST_TOD_BEAT_LO, 0, 32, .ro⟩
def HST_TOD_BEAT_HI_BEAT : Field := ⟨.HST_TOD_BEAT_HI, 0, 32, .ro⟩
def HST_PORT_CFG_EN : Field := ⟨.HST_PORT_CFG, 0, 1, .rw⟩
def HST_PORT_CFG_PMD : Field := ⟨.HST_PORT_CFG, 1, 1, .rw⟩
def HST_PORT_CFG_AN_EN : Field := ⟨.HST_PORT_CFG, 2, 1, .rw⟩
def HST_PORT_CFG_JUMBO : Field := ⟨.HST_PORT_CFG, 3, 1, .rw⟩
def HST_PORT_CFG_VLAN_EN : Field := ⟨.HST_PORT_CFG, 4, 1, .rw⟩
def HST_PORT_CFG_VLAN_ID : Field := ⟨.HST_PORT_CFG, 16, 12, .rw⟩
def HST_PORT_STATUS_LINK : Field := ⟨.HST_PORT_STATUS, 0, 2, .ro⟩
def HST_PORT_STATUS_AN_DONE : Field := ⟨.HST_PORT_STATUS, 2, 1, .ro⟩
def HST_PORT_STATUS_FEC_LOCK : Field := ⟨.HST_PORT_STATUS, 3, 1, .ro⟩
def HST_PORT_STATUS_DOWN_EVT : Field := ⟨.HST_PORT_STATUS, 4, 1, .w1c⟩
def HST_MAC_LO_MAC : Field := ⟨.HST_MAC_LO, 0, 32, .rw⟩
def HST_MAC_HI_MAC : Field := ⟨.HST_MAC_HI, 0, 16, .rw⟩
def HST_IP4_ADDR : Field := ⟨.HST_IP4, 0, 32, .rw⟩
def HST_IP6_ADDR : Field := ⟨.HST_IP6, 0, 32, .rw⟩
def HST_FEC_CORR_COUNT : Field := ⟨.HST_FEC_CORR, 0, 32, .ro⟩
def HST_FEC_UNCORR_COUNT : Field := ⟨.HST_FEC_UNCORR, 0, 32, .ro⟩
def HST_RX_DROP_COUNT : Field := ⟨.HST_RX_DROP, 0, 32, .ro⟩
def HST_CNT_CLR_CLR : Field := ⟨.HST_CNT_CLR, 0, 3, .wo⟩

def CTP_CFG_UDP_PORT : Field := ⟨.CTP_CFG, 0, 16, .rw⟩
def CTP_CFG_RTO : Field := ⟨.CTP_CFG, 16, 8, .rw⟩
def CTP_CFG_MAX_RETRY : Field := ⟨.CTP_CFG, 24, 4, .rw⟩
def CTP_CFG_TAKEOVER : Field := ⟨.CTP_CFG, 28, 1, .rw⟩
def CTP_STATUS_SESSION : Field := ⟨.CTP_STATUS, 0, 2, .ro⟩
def CTP_STATUS_IPV6 : Field := ⟨.CTP_STATUS, 2, 1, .ro⟩
def CTP_STATUS_DOWN_EVT : Field := ⟨.CTP_STATUS, 3, 1, .w1c⟩
def CTP_STATUS_REFUSED : Field := ⟨.CTP_STATUS, 4, 1, .w1c⟩
def CTP_STATUS_TAGS : Field := ⟨.CTP_STATUS, 8, 10, .ro⟩
def CTP_PEER_PORT_PORT : Field := ⟨.CTP_PEER_PORT, 0, 16, .ro⟩
def CTP_PEER_ADDR_ADDR : Field := ⟨.CTP_PEER_ADDR, 0, 32, .ro⟩
def CTP_RING_UNITS : Field := ⟨.CTP_RING, 0, 24, .ro⟩
def CTP_CREDIT_WAIT_COUNT : Field := ⟨.CTP_CREDIT_WAIT, 0, 32, .ro⟩
def CTP_RETX_COUNT : Field := ⟨.CTP_RETX, 0, 32, .ro⟩
def CTP_DUP_COUNT : Field := ⟨.CTP_DUP, 0, 32, .ro⟩
def CTP_OOS_COUNT : Field := ⟨.CTP_OOS, 0, 32, .ro⟩
def CTP_TAG_ERR_COUNT : Field := ⟨.CTP_TAG_ERR, 0, 32, .ro⟩
def CTP_CNT_CLR_CLR : Field := ⟨.CTP_CNT_CLR, 0, 5, .wo⟩
def CTP_TUNNEL_TMO_TMO : Field := ⟨.CTP_TUNNEL_TMO, 0, 16, .rw⟩

def EVT_CFG_EN : Field := ⟨.EVT_CFG, 0, 1, .rw⟩
def EVT_CFG_PORT : Field := ⟨.EVT_CFG, 1, 1, .rw⟩
def EVT_CFG_SEND : Field := ⟨.EVT_CFG, 2, 1, .rw⟩
def EVT_CFG_ALERT_EN : Field := ⟨.EVT_CFG, 3, 1, .rw⟩
def EVT_STATUS_PENDING : Field := ⟨.EVT_STATUS, 0, 1, .ro⟩
def EVT_STATUS_LOST : Field := ⟨.EVT_STATUS, 1, 1, .w1c⟩
def EVT_STATUS_ALERT : Field := ⟨.EVT_STATUS, 2, 1, .ro⟩
def EVT_QSTATUS_COUNT : Field := ⟨.EVT_QSTATUS, 0, 11, .ro⟩
def EVT_QSTATUS_PEAK : Field := ⟨.EVT_QSTATUS, 16, 11, .ro⟩
def EVT_LOST_COUNT : Field := ⟨.EVT_LOST, 0, 32, .ro⟩
def EVT_RD0_WORD : Field := ⟨.EVT_RD0, 0, 32, .ro⟩
def EVT_RD1_WORD : Field := ⟨.EVT_RD1, 0, 32, .ro⟩
def EVT_RD2_WORD : Field := ⟨.EVT_RD2, 0, 32, .ro⟩
def EVT_RD3_WORD : Field := ⟨.EVT_RD3, 0, 32, .ro⟩
def EVT_CNT_CLR_LOST : Field := ⟨.EVT_CNT_CLR, 0, 1, .wo⟩
def EVT_MASK_EN : Field := ⟨.EVT_MASK, 0, 32, .rw⟩

def DMA_CTRL_CLR_BUSERR : Field := ⟨.DMA_CTRL, 0, 1, .w1s⟩
def DMA_STATUS_BUSERR : Field := ⟨.DMA_STATUS, 0, 1, .ro⟩
def DMA_STATUS_INFLIGHT : Field := ⟨.DMA_STATUS, 4, 5, .ro⟩
def DMA_ACTIVE_CH : Field := ⟨.DMA_ACTIVE, 0, 32, .ro⟩
def DMA_BUSERR_BEAT_LO_BEAT : Field := ⟨.DMA_BUSERR_BEAT_LO, 0, 32, .ro⟩
def DMA_BUSERR_BEAT_HI_BEAT : Field := ⟨.DMA_BUSERR_BEAT_HI, 0, 32, .ro⟩
def DMA_BUSERRS_COUNT : Field := ⟨.DMA_BUSERRS, 0, 32, .ro⟩
def DMA_CNT_CLR_BUSERRS : Field := ⟨.DMA_CNT_CLR, 0, 1, .wo⟩
def DMA_CH_CTRL_START : Field := ⟨.DMA_CH_CTRL, 0, 1, .w1s⟩
def DMA_CH_CTRL_ABORT : Field := ⟨.DMA_CH_CTRL, 1, 1, .w1s⟩
def DMA_CH_CTRL_FLUSH : Field := ⟨.DMA_CH_CTRL, 2, 1, .w1s⟩
def DMA_CH_CFG_PRIO : Field := ⟨.DMA_CH_CFG, 0, 2, .rw⟩
def DMA_CH_CFG_REQ : Field := ⟨.DMA_CH_CFG, 2, 6, .rw⟩
def DMA_CH_STATUS_STATE : Field := ⟨.DMA_CH_STATUS, 0, 3, .ro⟩
def DMA_CH_STATUS_STATUS : Field := ⟨.DMA_CH_STATUS, 3, 5, .ro⟩
def DMA_CH_STATUS_DONE : Field := ⟨.DMA_CH_STATUS, 8, 1, .w1c⟩
def DMA_CH_STATUS_ERR : Field := ⟨.DMA_CH_STATUS, 9, 1, .w1c⟩
def DMA_CH_STATUS_LOCKED : Field := ⟨.DMA_CH_STATUS, 10, 1, .w1c⟩
def DMA_CH_STATUS_START_IGN : Field := ⟨.DMA_CH_STATUS, 11, 1, .w1c⟩
def DMA_CH_STATUS_INFLIGHT : Field := ⟨.DMA_CH_STATUS, 12, 3, .ro⟩
def DMA_CH_STATUS_RSTATUS : Field := ⟨.DMA_CH_STATUS, 16, 5, .ro⟩
def DMA_CH_DESC_OFFSET : Field := ⟨.DMA_CH_DESC, 0, 24, .rw⟩
def DMA_CH_RESIDUE_BYTES : Field := ⟨.DMA_CH_RESIDUE, 0, 32, .ro⟩
def DMA_CH_DROPPED_COUNT : Field := ⟨.DMA_CH_DROPPED, 0, 32, .ro⟩
def DMA_CH_DESCS_COUNT : Field := ⟨.DMA_CH_DESCS, 0, 32, .ro⟩
def DMA_CH_BYTES_LO_BYTES : Field := ⟨.DMA_CH_BYTES_LO, 0, 32, .ro⟩
def DMA_CH_BYTES_HI_BYTES : Field := ⟨.DMA_CH_BYTES_HI, 0, 32, .ro⟩
def DMA_CH_WAIT_COUNT : Field := ⟨.DMA_CH_WAIT, 0, 32, .ro⟩
def DMA_CH_CLR_CLR : Field := ⟨.DMA_CH_CLR, 0, 4, .wo⟩

def SIDE_CFG_WR_EN : Field := ⟨.SIDE_CFG, 0, 1, .rwl⟩
def SIDE_STATUS_FRAME_ERR : Field := ⟨.SIDE_STATUS, 0, 16, .ro⟩
def SIDE_STATUS_PAST_END : Field := ⟨.SIDE_STATUS, 16, 1, .w1c⟩
def SIDE_STATUS_LATE : Field := ⟨.SIDE_STATUS, 17, 1, .w1c⟩
def SIDE_STATUS_PARTIAL : Field := ⟨.SIDE_STATUS, 18, 1, .w1c⟩
def SIDE_STATUS_OVF : Field := ⟨.SIDE_STATUS, 19, 1, .w1c⟩
def SIDE_STATUS_ACTIVE : Field := ⟨.SIDE_STATUS, 20, 1, .ro⟩
def SIDE_STATUS_MODE3 : Field := ⟨.SIDE_STATUS, 21, 1, .ro⟩
def SIDE_PAGE_PAGE : Field := ⟨.SIDE_PAGE, 0, 14, .ro⟩
def SIDE_FRAMES_COUNT : Field := ⟨.SIDE_FRAMES, 0, 32, .ro⟩
def SIDE_WORDS_COUNT : Field := ⟨.SIDE_WORDS, 0, 32, .ro⟩
def SIDE_CNT_CLR_CLR : Field := ⟨.SIDE_CNT_CLR, 0, 3, .wo⟩

def ACC_CTRL_GO : Field := ⟨.ACC_CTRL, 0, 1, .w1s⟩
def ACC_CTRL_ABORT : Field := ⟨.ACC_CTRL, 1, 1, .w1s⟩
def ACC_CFG_MODE : Field := ⟨.ACC_CFG, 0, 2, .rw⟩
def ACC_CFG_DIV : Field := ⟨.ACC_CFG, 2, 10, .rw⟩
def ACC_CFG_SETUP : Field := ⟨.ACC_CFG, 12, 4, .rw⟩
def ACC_CFG_HOLD : Field := ⟨.ACC_CFG, 16, 4, .rw⟩
def ACC_FRAME_LEN : Field := ⟨.ACC_FRAME, 0, 9, .rw⟩
def ACC_FRAME_SEL : Field := ⟨.ACC_FRAME, 9, 4, .rw⟩
def ACC_STATUS_BUSY : Field := ⟨.ACC_STATUS, 0, 1, .ro⟩
def ACC_STATUS_DONE : Field := ⟨.ACC_STATUS, 1, 1, .w1c⟩
def ACC_STATUS_REFUSED : Field := ⟨.ACC_STATUS, 2, 1, .w1c⟩
def ACC_STATUS_ABORTED : Field := ⟨.ACC_STATUS, 3, 1, .w1c⟩
def ACC_STATUS_CAUSE : Field := ⟨.ACC_STATUS, 4, 2, .ro⟩
def ACC_FRAMES_COUNT : Field := ⟨.ACC_FRAMES, 0, 32, .ro⟩
def ACC_CNT_CLR_FRAMES : Field := ⟨.ACC_CNT_CLR, 0, 1, .wo⟩
def ACC_TX_BITS : Field := ⟨.ACC_TX, 0, 32, .rw⟩
def ACC_RX_BITS : Field := ⟨.ACC_RX, 0, 32, .ro⟩

def PWT_CTRL_OPEN : Field := ⟨.PWT_CTRL, 0, 1, .rwl⟩
def PWT_STATUS_OPEN : Field := ⟨.PWT_STATUS, 0, 1, .ro⟩
def PWT_STATUS_OPEN_REFUSED : Field := ⟨.PWT_STATUS, 1, 1, .w1c⟩
def PWT_STATUS_HOST_IGN : Field := ⟨.PWT_STATUS, 2, 1, .w1c⟩
def PWT_STATUS_SEQ_ERR : Field := ⟨.PWT_STATUS, 3, 1, .w1c⟩
def PWT_STATUS_PHASE : Field := ⟨.PWT_STATUS, 4, 1, .ro⟩
def PWT_STATUS_PTR : Field := ⟨.PWT_STATUS, 8, 8, .ro⟩
def PWT_BYTES_COUNT : Field := ⟨.PWT_BYTES, 0, 32, .ro⟩
def PWT_CNT_CLR_BYTES : Field := ⟨.PWT_CNT_CLR, 0, 1, .wo⟩

def PWR_STATUS_REFUSED : Field := ⟨.PWR_STATUS, 0, 1, .w1c⟩
def PWR_STATUS_CLAMP : Field := ⟨.PWR_STATUS, 1, 1, .w1c⟩
def PWR_STATUS_OVER : Field := ⟨.PWR_STATUS, 2, 1, .w1c⟩
def PWR_STATUS_BUDGET_WAIT : Field := ⟨.PWR_STATUS, 3, 1, .ro⟩
def PWR_STATUS_RAMP_WAIT : Field := ⟨.PWR_STATUS, 4, 1, .ro⟩
def PWR_BUDGET_MW_MW : Field := ⟨.PWR_BUDGET_MW, 0, 18, .rw⟩
def PWR_RAMP_MW : Field := ⟨.PWR_RAMP, 0, 16, .rwl⟩
def PWR_BASE_MW_MW : Field := ⟨.PWR_BASE_MW, 0, 18, .rwl⟩
def PWR_COMMITTED_MW_MW : Field := ⟨.PWR_COMMITTED_MW, 0, 18, .ro⟩
def PWR_QSTATUS_COUNT : Field := ⟨.PWR_QSTATUS, 0, 10, .ro⟩
def PWR_QSTATUS_PEAK : Field := ⟨.PWR_QSTATUS, 16, 10, .ro⟩
def PWR_HEAD_CLASS : Field := ⟨.PWR_HEAD, 0, 3, .ro⟩
def PWR_HEAD_INDEX : Field := ⟨.PWR_HEAD, 3, 9, .ro⟩
def PWR_LAST_REFUSED_CLASS : Field := ⟨.PWR_LAST_REFUSED, 0, 3, .ro⟩
def PWR_LAST_REFUSED_INDEX : Field := ⟨.PWR_LAST_REFUSED, 3, 9, .ro⟩
def PWR_GRANTS_COUNT : Field := ⟨.PWR_GRANTS, 0, 32, .ro⟩
def PWR_WAIT_BEATS_COUNT : Field := ⟨.PWR_WAIT_BEATS, 0, 32, .ro⟩
def PWR_MEAS_MW_MW : Field := ⟨.PWR_MEAS_MW, 0, 18, .ro⟩
def PWR_CNT_CLR_CLR : Field := ⟨.PWR_CNT_CLR, 0, 2, .wo⟩
def PWR_DRAIN_TIMEOUT_US : Field := ⟨.PWR_DRAIN_TIMEOUT, 0, 16, .rw⟩
def PWR_DIS_LAST_SLICE : Field := ⟨.PWR_DIS_LAST, 0, 4, .ro⟩
def PWR_DIS_LAST_KIND : Field := ⟨.PWR_DIS_LAST, 4, 3, .ro⟩
def PWR_DIS_LAST_INDEX : Field := ⟨.PWR_DIS_LAST, 7, 3, .ro⟩
def PWR_DIS_LAST_FINISHED : Field := ⟨.PWR_DIS_LAST, 10, 11, .ro⟩
def PWR_DIS_LAST_DISCARDED : Field := ⟨.PWR_DIS_LAST, 21, 11, .ro⟩
def PWR_COST_MW : Field := ⟨.PWR_COST, 0, 16, .rwl⟩
def PWR_DOM_REQ : Field := ⟨.PWR_DOM, 0, 1, .rw⟩
def PWR_DOM_STATE : Field := ⟨.PWR_DOM, 1, 3, .ro⟩
def PWR_DOM_REFUSED : Field := ⟨.PWR_DOM, 4, 1, .w1c⟩
def PWR_DOM_REASON : Field := ⟨.PWR_DOM, 5, 3, .ro⟩
def PWR_DOM_TIMED_OUT : Field := ⟨.PWR_DOM, 8, 1, .w1c⟩

def NRG_TX_LIM_MS_LIM : Field := ⟨.NRG_TX_LIM_MS, 0, 18, .rwl⟩
def NRG_TX_LIM_S_LIM : Field := ⟨.NRG_TX_LIM_S, 0, 18, .rwl⟩
def NRG_TX_CFG_REARM : Field := ⟨.NRG_TX_CFG, 0, 8, .rw⟩
def NRG_TX_STATUS_TRIP : Field := ⟨.NRG_TX_STATUS, 0, 1, .w1c⟩
def NRG_TX_STATUS_WIN_MS : Field := ⟨.NRG_TX_STATUS, 1, 1, .ro⟩
def NRG_TX_STATUS_WIN_S : Field := ⟨.NRG_TX_STATUS, 2, 1, .ro⟩
def NRG_TX_STATUS_REARM_REFUSED : Field := ⟨.NRG_TX_STATUS, 3, 1, .w1c⟩
def NRG_TX_LEVEL_MS_LEVEL : Field := ⟨.NRG_TX_LEVEL_MS, 0, 18, .ro⟩
def NRG_TX_LEVEL_S_LEVEL : Field := ⟨.NRG_TX_LEVEL_S, 0, 18, .ro⟩
def NRG_TX_TRIPS_COUNT : Field := ⟨.NRG_TX_TRIPS, 0, 32, .ro⟩
def NRG_TX_CLR_TRIPS : Field := ⟨.NRG_TX_CLR, 0, 1, .wo⟩
def NRG_FF_LIM_LIM : Field := ⟨.NRG_FF_LIM, 0, 16, .rwl⟩
def NRG_FF_RLOAD_OHMS : Field := ⟨.NRG_FF_RLOAD, 0, 16, .rwl⟩
def NRG_FF_CFG_REARM : Field := ⟨.NRG_FF_CFG, 0, 8, .rw⟩
def NRG_FF_STATUS_TRIP : Field := ⟨.NRG_FF_STATUS, 0, 1, .w1c⟩
def NRG_FF_STATUS_REARM_REFUSED : Field := ⟨.NRG_FF_STATUS, 1, 1, .w1c⟩
def NRG_FF_LEVEL_RMS : Field := ⟨.NRG_FF_LEVEL, 0, 16, .ro⟩
def NRG_FF_TRIPS_COUNT : Field := ⟨.NRG_FF_TRIPS, 0, 32, .ro⟩
def NRG_FF_CLR_TRIPS : Field := ⟨.NRG_FF_CLR, 0, 1, .wo⟩
def NRG_PIN_CFG_ELIM : Field := ⟨.NRG_PIN_CFG, 0, 10, .rwl⟩
def NRG_PIN_CFG_IMAX : Field := ⟨.NRG_PIN_CFG, 16, 8, .rwl⟩
def NRG_PIN_STATUS_TRIP : Field := ⟨.NRG_PIN_STATUS, 0, 1, .w1c⟩
def NRG_PIN_STATUS_CAUSE_I : Field := ⟨.NRG_PIN_STATUS, 1, 1, .ro⟩
def NRG_PIN_STATUS_CAUSE_E : Field := ⟨.NRG_PIN_STATUS, 2, 1, .ro⟩
def NRG_PIN_ENERGY_NJ : Field := ⟨.NRG_PIN_ENERGY, 0, 16, .ro⟩
def NRG_STATUS_TX : Field := ⟨.NRG_STATUS, 0, 1, .ro⟩
def NRG_STATUS_FF : Field := ⟨.NRG_STATUS, 1, 1, .ro⟩
def NRG_STATUS_PIN : Field := ⟨.NRG_STATUS, 2, 1, .ro⟩

def CAL_CFG_ENABLE : Field := ⟨.CAL_CFG, 0, 1, .rw⟩
def CAL_CFG_HALT_GAP : Field := ⟨.CAL_CFG, 1, 1, .rw⟩
def CAL_CFG_SHOT_GAP : Field := ⟨.CAL_CFG, 2, 1, .rw⟩
def CAL_CFG_AUTO_FG : Field := ⟨.CAL_CFG, 3, 1, .rw⟩
def CAL_CFG_SAVE_MIN : Field := ⟨.CAL_CFG, 8, 8, .rw⟩
def CAL_CFG_STALE : Field := ⟨.CAL_CFG, 16, 16, .rw⟩
def CAL_STATUS_SHED : Field := ⟨.CAL_STATUS, 0, 1, .ro⟩
def CAL_STATUS_STALE : Field := ⟨.CAL_STATUS, 1, 1, .w1c⟩
def CAL_STATUS_VAULT_ERR : Field := ⟨.CAL_STATUS, 2, 1, .w1c⟩
def CAL_STATUS_BLOCK_MISS : Field := ⟨.CAL_STATUS, 3, 1, .w1c⟩
def CAL_CTRL_SAVE : Field := ⟨.CAL_CTRL, 0, 1, .w1s⟩
def CAL_VAULT_STATUS_BUSY : Field := ⟨.CAL_VAULT_STATUS, 0, 1, .ro⟩
def CAL_VAULT_STATUS_DONE : Field := ⟨.CAL_VAULT_STATUS, 1, 1, .w1c⟩
def CAL_VAULT_STATUS_FAIL : Field := ⟨.CAL_VAULT_STATUS, 2, 1, .w1c⟩
def CAL_VAULT_STATUS_KIND : Field := ⟨.CAL_VAULT_STATUS, 8, 5, .ro⟩
def CAL_SEL_CONV : Field := ⟨.CAL_SEL, 0, 9, .rw⟩
def CAL_SEL_BANK : Field := ⟨.CAL_SEL, 9, 1, .rw⟩
def CAL_APPLY_AT_LO_BEAT : Field := ⟨.CAL_APPLY_AT_LO, 0, 32, .rw⟩
def CAL_APPLY_AT_HI_BEAT : Field := ⟨.CAL_APPLY_AT_HI, 0, 32, .rw⟩
def CAL_VAULT_SEQ_SEQ : Field := ⟨.CAL_VAULT_SEQ, 0, 32, .ro⟩
def CAL_SET_WORD : Field := ⟨.CAL_SET, 0, 32, .rw⟩
def CAL_CONV_CTRL_STAGE : Field := ⟨.CAL_CONV_CTRL, 0, 1, .w1s⟩
def CAL_CONV_CTRL_STAGE_AT : Field := ⟨.CAL_CONV_CTRL, 1, 1, .w1s⟩
def CAL_CONV_CTRL_CANCEL : Field := ⟨.CAL_CONV_CTRL, 2, 1, .w1s⟩
def CAL_CONV_CTRL_FORCE_DITHER : Field := ⟨.CAL_CONV_CTRL, 3, 1, .rw⟩
def CAL_CONV_STATUS_SRC : Field := ⟨.CAL_CONV_STATUS, 0, 3, .ro⟩
def CAL_CONV_STATUS_PEND : Field := ⟨.CAL_CONV_STATUS, 3, 1, .ro⟩
def CAL_CONV_STATUS_PEND_AT : Field := ⟨.CAL_CONV_STATUS, 4, 1, .ro⟩
def CAL_CONV_STATUS_DITHER_NEED : Field := ⟨.CAL_CONV_STATUS, 5, 1, .ro⟩
def CAL_CONV_STATUS_TESTING : Field := ⟨.CAL_CONV_STATUS, 6, 1, .ro⟩
def CAL_CONV_STATUS_STALE : Field := ⟨.CAL_CONV_STATUS, 7, 1, .ro⟩
def CAL_CONV_STATUS_NEEDS_FG : Field := ⟨.CAL_CONV_STATUS, 8, 1, .ro⟩
def CAL_CONV_STATUS_STAGE_IGN : Field := ⟨.CAL_CONV_STATUS, 9, 1, .w1c⟩
def CAL_CONV_STATUS_LATE : Field := ⟨.CAL_CONV_STATUS, 10, 1, .w1c⟩
def CAL_AGE_MS : Field := ⟨.CAL_AGE, 0, 32, .ro⟩
def CAL_APPLIED_BEAT : Field := ⟨.CAL_APPLIED, 0, 32, .ro⟩
def CAL_FG_CTRL_START : Field := ⟨.CAL_FG_CTRL, 0, 1, .w1s⟩
def CAL_FG_CTRL_ABORT : Field := ⟨.CAL_FG_CTRL, 1, 1, .w1s⟩
def CAL_FG_STATUS_STATE : Field := ⟨.CAL_FG_STATUS, 0, 2, .ro⟩
def CAL_FG_STATUS_DONE : Field := ⟨.CAL_FG_STATUS, 2, 1, .w1c⟩
def CAL_FG_STATUS_FAIL : Field := ⟨.CAL_FG_STATUS, 3, 1, .w1c⟩
def CAL_FG_STATUS_RESULT : Field := ⟨.CAL_FG_STATUS, 4, 3, .ro⟩

def FLT_CFG_AUTO_RECOVER : Field := ⟨.FLT_CFG, 0, 1, .rwl⟩
def FLT_CFG_MAX_RESTART : Field := ⟨.FLT_CFG, 1, 3, .rw⟩
def FLT_CFG_ALERT_LEVEL : Field := ⟨.FLT_CFG, 4, 2, .rw⟩
def FLT_STATUS_STATE : Field := ⟨.FLT_STATUS, 0, 2, .ro⟩
def FLT_STATUS_ALERT : Field := ⟨.FLT_STATUS, 2, 1, .ro⟩
def FLT_STATUS_QOVF : Field := ⟨.FLT_STATUS, 3, 1, .w1c⟩
def FLT_STATUS_RECOVER_REFUSED : Field := ⟨.FLT_STATUS, 4, 1, .w1c⟩
def FLT_STATUS_INJ_REFUSED : Field := ⟨.FLT_STATUS, 5, 1, .w1c⟩
def FLT_STATUS_RESTARTS : Field := ⟨.FLT_STATUS, 8, 3, .ro⟩
def FLT_STATUS_PEND : Field := ⟨.FLT_STATUS, 16, 8, .ro⟩
def FLT_CTRL_RECOVER : Field := ⟨.FLT_CTRL, 0, 1, .w1s⟩
def FLT_CTRL_SAFE : Field := ⟨.FLT_CTRL, 1, 1, .w1s⟩
def FLT_ACK_CLASSES : Field := ⟨.FLT_ACK, 0, 8, .wo⟩
def FLT_INJECT_SOURCE : Field := ⟨.FLT_INJECT, 0, 8, .rw⟩
def FLT_INJECT_MODE : Field := ⟨.FLT_INJECT, 8, 2, .rw⟩
def FLT_INJECT_DRY : Field := ⟨.FLT_INJECT, 10, 1, .rw⟩
def FLT_INJECT_GO : Field := ⟨.FLT_INJECT, 11, 1, .w1s⟩
def FLT_INJECT_BUSY : Field := ⟨.FLT_INJECT, 12, 1, .ro⟩
def FLT_INJECT_BEATS : Field := ⟨.FLT_INJECT, 16, 16, .rw⟩
def FLT_INJECT_IDX_INDEX : Field := ⟨.FLT_INJECT_IDX, 0, 24, .rw⟩
def FLT_QSTATUS_COUNT : Field := ⟨.FLT_QSTATUS, 0, 7, .ro⟩
def FLT_QSTATUS_PEAK : Field := ⟨.FLT_QSTATUS, 8, 7, .ro⟩
def FLT_ST_WAIT_MS : Field := ⟨.FLT_ST_WAIT, 0, 16, .rw⟩
def FLT_LOG_WP_NEXT : Field := ⟨.FLT_LOG_WP, 0, 8, .ro⟩
def FLT_LOG_LOST_COUNT : Field := ⟨.FLT_LOG_LOST, 0, 32, .ro⟩
def FLT_LOSS_LO_BEATS : Field := ⟨.FLT_LOSS_LO, 0, 32, .ro⟩
def FLT_LOSS_HI_BEATS : Field := ⟨.FLT_LOSS_HI, 0, 32, .ro⟩
def FLT_L3_COUNT_COUNT : Field := ⟨.FLT_L3_COUNT, 0, 32, .ro⟩
def FLT_CNT_CLR_LOG_LOST : Field := ⟨.FLT_CNT_CLR, 0, 1, .wo⟩
def FLT_CNT_CLR_LOSS : Field := ⟨.FLT_CNT_CLR, 1, 1, .wo⟩
def FLT_CNT_CLR_L3_COUNT : Field := ⟨.FLT_CNT_CLR, 2, 1, .wo⟩
def FLT_CNT_CLR_SOURCES : Field := ⟨.FLT_CNT_CLR, 3, 1, .wo⟩
def FLT_CLASS_PEND : Field := ⟨.FLT_CLASS, 0, 1, .ro⟩
def FLT_CLASS_HELD : Field := ⟨.FLT_CLASS, 1, 2, .ro⟩
def FLT_CLASS_FIRST_SRC : Field := ⟨.FLT_CLASS, 8, 8, .ro⟩
def FLT_CLASS_LAST_SRC : Field := ⟨.FLT_CLASS, 16, 8, .ro⟩
def FLT_CLASS_COUNT : Field := ⟨.FLT_CLASS, 24, 8, .ro⟩
def FLT_CLASS_CFG_AUTO_ACK : Field := ⟨.FLT_CLASS_CFG, 0, 1, .rwl⟩
def FLT_SRC_CFG_LEVEL : Field := ⟨.FLT_SRC_CFG, 0, 2, .rwl⟩
def FLT_SRC_CFG_PLEVEL : Field := ⟨.FLT_SRC_CFG, 2, 2, .rwl⟩
def FLT_SRC_CFG_DEFINED : Field := ⟨.FLT_SRC_CFG, 4, 1, .ro⟩
def FLT_SRC_COUNT_COUNT : Field := ⟨.FLT_SRC_COUNT, 0, 32, .ro⟩
def FLT_LOG_WORD : Field := ⟨.FLT_LOG, 0, 32, .ro⟩

def RPL_CFG_EN : Field := ⟨.RPL_CFG, 0, 1, .rw⟩
def RPL_CFG_MUTE : Field := ⟨.RPL_CFG, 1, 1, .rw⟩
def RPL_CFG_DIV_STOP : Field := ⟨.RPL_CFG, 2, 1, .rw⟩
def RPL_CTRL_REPLAY : Field := ⟨.RPL_CTRL, 0, 1, .w1s⟩
def RPL_CTRL_STOP : Field := ⟨.RPL_CTRL, 1, 1, .w1s⟩
def RPL_CTRL_FLUSH : Field := ⟨.RPL_CTRL, 2, 1, .w1s⟩
def RPL_STATUS_STATE : Field := ⟨.RPL_STATUS, 0, 3, .ro⟩
def RPL_STATUS_GAP : Field := ⟨.RPL_STATUS, 3, 1, .w1c⟩
def RPL_STATUS_DIVERGED : Field := ⟨.RPL_STATUS, 4, 1, .w1c⟩
def RPL_STATUS_REFUSED : Field := ⟨.RPL_STATUS, 5, 1, .w1c⟩
def RPL_STATUS_END_CAUSE : Field := ⟨.RPL_STATUS, 6, 3, .ro⟩
def RPL_RING_BASE_LINE : Field := ⟨.RPL_RING_BASE, 0, 17, .rwl⟩
def RPL_RING_LINES_LINES : Field := ⟨.RPL_RING_LINES, 0, 17, .rwl⟩
def RPL_WP_OFFSET : Field := ⟨.RPL_WP, 0, 19, .ro⟩
def RPL_RP_OFFSET : Field := ⟨.RPL_RP, 0, 19, .rw⟩
def RPL_LOST_COUNT : Field := ⟨.RPL_LOST, 0, 32, .ro⟩
def RPL_RECORDS_COUNT : Field := ⟨.RPL_RECORDS, 0, 32, .ro⟩
def RPL_CNT_CLR_CLR : Field := ⟨.RPL_CNT_CLR, 0, 2, .wo⟩
def RPL_DEC_EN_SLICES : Field := ⟨.RPL_DEC_EN, 0, 16, .rw⟩
def RPL_ANCHOR_LO_BEAT : Field := ⟨.RPL_ANCHOR_LO, 0, 32, .rw⟩
def RPL_ANCHOR_HI_BEAT : Field := ⟨.RPL_ANCHOR_HI, 0, 32, .rw⟩
def RPL_DIV_BEAT_LO_BEAT : Field := ⟨.RPL_DIV_BEAT_LO, 0, 32, .ro⟩
def RPL_DIV_BEAT_HI_BEAT : Field := ⟨.RPL_DIV_BEAT_HI, 0, 32, .ro⟩
def RPL_DIV_INFO_TYPE : Field := ⟨.RPL_DIV_INFO, 0, 8, .ro⟩
def RPL_DIV_INFO_SRC : Field := ⟨.RPL_DIV_INFO, 8, 5, .ro⟩
def RPL_DIV_INFO_CAUSE : Field := ⟨.RPL_DIV_INFO, 13, 3, .ro⟩
def RPL_DIV_INFO_INDEX : Field := ⟨.RPL_DIV_INFO, 16, 16, .ro⟩
def RPL_DIV_EXP_LO_DATA : Field := ⟨.RPL_DIV_EXP_LO, 0, 32, .ro⟩
def RPL_DIV_EXP_HI_DATA : Field := ⟨.RPL_DIV_EXP_HI, 0, 32, .ro⟩
def RPL_DIV_OBS_LO_DATA : Field := ⟨.RPL_DIV_OBS_LO, 0, 32, .ro⟩
def RPL_DIV_OBS_HI_DATA : Field := ⟨.RPL_DIV_OBS_HI, 0, 32, .ro⟩
def RPL_REPLAY_WP_OFFSET : Field := ⟨.RPL_REPLAY_WP, 0, 19, .rw⟩
def RPL_REPLAY_RP_OFFSET : Field := ⟨.RPL_REPLAY_RP, 0, 19, .ro⟩

def BOOT_STATUS_PHASE : Field := ⟨.BOOT_STATUS, 0, 4, .ro⟩
def BOOT_STATUS_ERR : Field := ⟨.BOOT_STATUS, 4, 3, .ro⟩
def BOOT_STATUS_FW_SLOT : Field := ⟨.BOOT_STATUS, 7, 1, .ro⟩
def BOOT_STATUS_IMG_SLOT : Field := ⟨.BOOT_STATUS, 8, 1, .ro⟩
def BOOT_STATUS_FW_TRIAL : Field := ⟨.BOOT_STATUS, 9, 1, .ro⟩
def BOOT_STATUS_FW_FELLBACK : Field := ⟨.BOOT_STATUS, 10, 1, .w1c⟩
def BOOT_STATUS_IMG_FELLBACK : Field := ⟨.BOOT_STATUS, 11, 1, .w1c⟩
def BOOT_STATUS_QUAD : Field := ⟨.BOOT_STATUS, 12, 1, .ro⟩
def BOOT_STATUS_TAP_REFUSED : Field := ⟨.BOOT_STATUS, 13, 1, .w1c⟩
def BOOT_STATUS_COMMIT_REFUSED : Field := ⟨.BOOT_STATUS, 14, 1, .w1c⟩
def BOOT_STATUS_SET_IMG_REFUSED : Field := ⟨.BOOT_STATUS, 15, 1, .w1c⟩
def BOOT_STATUS_KEY_REFUSED : Field := ⟨.BOOT_STATUS, 16, 1, .w1c⟩
def BOOT_CTRL_TRY_FW : Field := ⟨.BOOT_CTRL, 0, 1, .w1s⟩
def BOOT_CTRL_CONFIRM : Field := ⟨.BOOT_CTRL, 1, 1, .w1s⟩
def BOOT_CTRL_COMMIT_SECVER : Field := ⟨.BOOT_CTRL, 2, 1, .w1s⟩
def BOOT_CTRL_SET_IMG : Field := ⟨.BOOT_CTRL, 3, 1, .w1s⟩
def BOOT_CTRL_RUN_GO : Field := ⟨.BOOT_CTRL, 4, 1, .w1s⟩
def BOOT_CTRL_FL_GO : Field := ⟨.BOOT_CTRL, 5, 1, .w1s⟩
def BOOT_CTRL_KEY_WRITE : Field := ⟨.BOOT_CTRL, 6, 1, .w1s⟩
def BOOT_CTRL_LOCK_KEY : Field := ⟨.BOOT_CTRL, 7, 1, .w1s⟩
def BOOT_CTRL_REVOKE : Field := ⟨.BOOT_CTRL, 8, 1, .w1s⟩
def BOOT_CFG_AUTO_JOIN : Field := ⟨.BOOT_CFG, 0, 1, .rw⟩
def BOOT_CFG_BIST : Field := ⟨.BOOT_CFG, 1, 1, .rw⟩
def BOOT_CFG_JOIN_TMO : Field := ⟨.BOOT_CFG, 4, 8, .rw⟩
def BOOT_FUSES_SECVER : Field := ⟨.BOOT_FUSES, 0, 7, .ro⟩
def BOOT_FUSES_VALID : Field := ⟨.BOOT_FUSES, 8, 4, .ro⟩
def BOOT_FUSES_LOCKED : Field := ⟨.BOOT_FUSES, 12, 4, .ro⟩
def BOOT_FUSES_REVOKED : Field := ⟨.BOOT_FUSES, 16, 4, .ro⟩
def BOOT_FW_VER_VERSION : Field := ⟨.BOOT_FW_VER, 0, 32, .ro⟩
def BOOT_IDCODE_CODE : Field := ⟨.BOOT_IDCODE, 0, 32, .ro⟩
def BOOT_KEY_PROG_INDEX : Field := ⟨.BOOT_KEY_PROG, 0, 2, .rw⟩
def BOOT_KEY_PROG_SRC : Field := ⟨.BOOT_KEY_PROG, 8, 24, .rw⟩
def BOOT_FL_OP_OP : Field := ⟨.BOOT_FL_OP, 0, 2, .rw⟩
def BOOT_FL_ADDR_ADDR : Field := ⟨.BOOT_FL_ADDR, 0, 27, .rw⟩
def BOOT_FL_SRC_OFFSET : Field := ⟨.BOOT_FL_SRC, 0, 24, .rw⟩
def BOOT_FL_LEN_LEN : Field := ⟨.BOOT_FL_LEN, 0, 27, .rw⟩
def BOOT_FL_STATUS_BUSY : Field := ⟨.BOOT_FL_STATUS, 0, 1, .ro⟩
def BOOT_FL_STATUS_DONE : Field := ⟨.BOOT_FL_STATUS, 1, 1, .w1c⟩
def BOOT_FL_STATUS_FAIL : Field := ⟨.BOOT_FL_STATUS, 2, 1, .w1c⟩
def BOOT_FL_STATUS_CAUSE : Field := ⟨.BOOT_FL_STATUS, 3, 3, .ro⟩
def BOOT_RUN_AT_LO_BEAT : Field := ⟨.BOOT_RUN_AT_LO, 0, 32, .rw⟩
def BOOT_RUN_AT_HI_BEAT : Field := ⟨.BOOT_RUN_AT_HI, 0, 32, .rw⟩
def BOOT_RUN_MASK_SLICES : Field := ⟨.BOOT_RUN_MASK, 0, 16, .rw⟩
def BOOT_RUN_STATUS_REFUSED : Field := ⟨.BOOT_RUN_STATUS, 0, 16, .w1c⟩
def BOOT_RUN_STATUS_BAD_BEAT : Field := ⟨.BOOT_RUN_STATUS, 16, 1, .w1c⟩

def MGT_CTRL_HALT : Field := ⟨.MGT_CTRL, 0, 1, .w1s⟩
def MGT_CTRL_RESTART : Field := ⟨.MGT_CTRL, 1, 1, .w1s⟩
def MGT_CTRL_SWAP : Field := ⟨.MGT_CTRL, 2, 1, .w1s⟩
def MGT_STATUS_STATE : Field := ⟨.MGT_STATUS, 0, 2, .ro⟩
def MGT_STATUS_SHED : Field := ⟨.MGT_STATUS, 2, 1, .ro⟩
def MGT_STATUS_SWAP_REFUSED : Field := ⟨.MGT_STATUS, 3, 1, .w1c⟩
def MGT_STATUS_CORES : Field := ⟨.MGT_STATUS, 4, 4, .ro⟩
def MGT_LOAD_LOAD : Field := ⟨.MGT_LOAD, 0, 8, .ro⟩
def MGT_LOAD_PEAK : Field := ⟨.MGT_LOAD, 8, 8, .ro⟩
def MGT_LOAD_CFG_HIGH : Field := ⟨.MGT_LOAD_CFG, 0, 8, .rw⟩
def MGT_LOAD_CFG_LOW : Field := ⟨.MGT_LOAD_CFG, 8, 8, .rw⟩
def MGT_WDOG_KICK_CORE : Field := ⟨.MGT_WDOG_KICK, 0, 4, .wo⟩
def MGT_RESTARTS_COUNT : Field := ⟨.MGT_RESTARTS, 0, 32, .ro⟩
def MGT_SWAPS_COUNT : Field := ⟨.MGT_SWAPS, 0, 32, .ro⟩
def MGT_CNT_CLR_CLR : Field := ⟨.MGT_CNT_CLR, 0, 2, .wo⟩

end F

/-- The fields of a register, lowest bits first. -/
def Reg.fields : Reg → List Field
  | .SLC_WHEEL_CTRL => [F.SLC_WHEEL_CTRL_START, F.SLC_WHEEL_CTRL_STOP, F.SLC_WHEEL_CTRL_COMMIT, F.SLC_WHEEL_CTRL_USE_START_BEAT]
  | .SLC_WHEEL_STATUS => [F.SLC_WHEEL_STATUS_STATE, F.SLC_WHEEL_STATUS_PHASE, F.SLC_WHEEL_STATUS_COMMIT_PEND, F.SLC_WHEEL_STATUS_START_LATE, F.SLC_WHEEL_STATUS_MAP_ERR, F.SLC_WHEEL_STATUS_FREE]
  | .SLC_WHEEL_START_LO => [F.SLC_WHEEL_START_LO_BEAT]
  | .SLC_WHEEL_START_HI => [F.SLC_WHEEL_START_HI_BEAT]
  | .SLC_WHEEL_MAP => [F.SLC_WHEEL_MAP_SLOT0, F.SLC_WHEEL_MAP_SLOT1, F.SLC_WHEEL_MAP_SLOT2, F.SLC_WHEEL_MAP_SLOT3]
  | .SLC_CONFLICT => [F.SLC_CONFLICT_COUNT]
  | .SLC_CONFLICT_CLR => [F.SLC_CONFLICT_CLR_CLR]
  | .SLC_STORE_PWR => [F.SLC_STORE_PWR_REQ, F.SLC_STORE_PWR_STATE, F.SLC_STORE_PWR_REFUSED, F.SLC_STORE_PWR_REASON]
  | .SLC_ECC_CE => [F.SLC_ECC_CE_COUNT]
  | .SLC_ECC_UE => [F.SLC_ECC_UE_COUNT]
  | .SLC_ECC_ADDR => [F.SLC_ECC_ADDR_LINE, F.SLC_ECC_ADDR_WORD, F.SLC_ECC_ADDR_UE]
  | .SLC_SCRUB_CTRL => [F.SLC_SCRUB_CTRL_INTERVAL]
  | .SLC_SCRUB_LATE => [F.SLC_SCRUB_LATE_COUNT]
  | .SLC_ECC_CLR => [F.SLC_ECC_CLR_CE, F.SLC_ECC_CLR_UE, F.SLC_ECC_CLR_LATE]
  | .GLB_BEAT_LO => [F.GLB_BEAT_LO_BEAT]
  | .GLB_BEAT_HI => [F.GLB_BEAT_HI_BEAT]
  | .GLB_CSTORE_PWR => [F.GLB_CSTORE_PWR_REQ, F.GLB_CSTORE_PWR_STATE, F.GLB_CSTORE_PWR_REFUSED, F.GLB_CSTORE_PWR_REASON]
  | .GLB_CSTORE_WAIT => [F.GLB_CSTORE_WAIT_COUNT]
  | .GLB_CSTORE_ECC_CE => [F.GLB_CSTORE_ECC_CE_COUNT]
  | .GLB_CSTORE_ECC_UE => [F.GLB_CSTORE_ECC_UE_COUNT]
  | .GLB_CSTORE_ECC_ADDR => [F.GLB_CSTORE_ECC_ADDR_LINE, F.GLB_CSTORE_ECC_ADDR_WORD, F.GLB_CSTORE_ECC_ADDR_UE]
  | .GLB_CSTORE_SCRUB => [F.GLB_CSTORE_SCRUB_INTERVAL]
  | .GLB_CSTORE_SCRUB_LATE => [F.GLB_CSTORE_SCRUB_LATE_COUNT]
  | .GLB_CSTORE_CLR => [F.GLB_CSTORE_CLR_WAIT, F.GLB_CSTORE_CLR_CE, F.GLB_CSTORE_CLR_UE, F.GLB_CSTORE_CLR_LATE]
  | .GLB_IMG_CTRL => [F.GLB_IMG_CTRL_GO, F.GLB_IMG_CTRL_ABORT, F.GLB_IMG_CTRL_OP, F.GLB_IMG_CTRL_SLICE, F.GLB_IMG_CTRL_FLASH_SLOT]
  | .GLB_IMG_STATUS => [F.GLB_IMG_STATUS_PHASE, F.GLB_IMG_STATUS_BUSY, F.GLB_IMG_STATUS_DONE, F.GLB_IMG_STATUS_FAIL, F.GLB_IMG_STATUS_ABORT_IGNORED, F.GLB_IMG_STATUS_GO_IGNORED, F.GLB_IMG_STATUS_RESULT, F.GLB_IMG_STATUS_SECTION]
  | .GLB_IMG_SRC => [F.GLB_IMG_SRC_OFFSET]
  | .GLB_IMG_LEN => [F.GLB_IMG_LEN_BYTES]
  | .GLB_IMG_REJOIN_LO => [F.GLB_IMG_REJOIN_LO_BEAT]
  | .GLB_IMG_REJOIN_HI => [F.GLB_IMG_REJOIN_HI_BEAT]
  | .GLB_IMG_DRAIN_LO => [F.GLB_IMG_DRAIN_LO_BEAT]
  | .GLB_IMG_DRAIN_HI => [F.GLB_IMG_DRAIN_HI_BEAT]
  | .GLB_IMG_CSERIAL_LO => [F.GLB_IMG_CSERIAL_LO_SERIAL]
  | .GLB_IMG_CSERIAL_HI => [F.GLB_IMG_CSERIAL_HI_SERIAL]
  | .GLB_IMG_FORMAT => [F.GLB_IMG_FORMAT_MINOR, F.GLB_IMG_FORMAT_MAJOR]
  | .GLB_IMG_COUNT => [F.GLB_IMG_COUNT_COMPLETED, F.GLB_IMG_COUNT_FAILED]
  | .GLB_IMG_COUNT_CLR => [F.GLB_IMG_COUNT_CLR_COUNT]
  | .GLB_IMG_SSERIAL_LO => [F.GLB_IMG_SSERIAL_LO_SERIAL]
  | .GLB_IMG_SSERIAL_HI => [F.GLB_IMG_SSERIAL_HI_SERIAL]
  | .SEQ_CTRL => [F.SEQ_CTRL_RUN, F.SEQ_CTRL_HALT, F.SEQ_CTRL_STEP, F.SEQ_CTRL_USE_START_BEAT, F.SEQ_CTRL_CLR_NEW]
  | .SEQ_STATUS => [F.SEQ_STATUS_STATE, F.SEQ_STATUS_ERR, F.SEQ_STATUS_LATE, F.SEQ_STATUS_TIMEOUT, F.SEQ_STATUS_ELASTIC_EXPIRED, F.SEQ_STATUS_RUN_REFUSED, F.SEQ_STATUS_EV_DROP, F.SEQ_STATUS_VERDICT_OVW, F.SEQ_STATUS_LOOP_DEPTH, F.SEQ_STATUS_CALL_DEPTH]
  | .SEQ_PC => [F.SEQ_PC_INDEX]
  | .SEQ_ERR_PC => [F.SEQ_ERR_PC_INDEX]
  | .SEQ_HALT_CODE => [F.SEQ_HALT_CODE_CODE]
  | .SEQ_FLAGS => [F.SEQ_FLAGS_VALUE, F.SEQ_FLAGS_NEW]
  | .SEQ_START_LO => [F.SEQ_START_LO_BEAT]
  | .SEQ_START_HI => [F.SEQ_START_HI_BEAT]
  | .SEQ_ISSUED_LO => [F.SEQ_ISSUED_LO_COUNT]
  | .SEQ_ISSUED_HI => [F.SEQ_ISSUED_HI_COUNT]
  | .SEQ_STALL => [F.SEQ_STALL_COUNT]
  | .SEQ_VERDICT_OVW => [F.SEQ_VERDICT_OVW_COUNT]
  | .SEQ_EV_DROP => [F.SEQ_EV_DROP_COUNT]
  | .SEQ_ELASTIC_BEATS => [F.SEQ_ELASTIC_BEATS_COUNT]
  | .SEQ_TIMEOUTS => [F.SEQ_TIMEOUTS_COUNT]
  | .SEQ_LATE => [F.SEQ_LATE_COUNT]
  | .SEQ_LCOUNT => [F.SEQ_LCOUNT_COUNT]
  | .SEQ_CNT_CLR => [F.SEQ_CNT_CLR_ISSUED, F.SEQ_CNT_CLR_CNT]
  | .SEQ_LIM_LO => [F.SEQ_LIM_LO_LIMIT]
  | .SEQ_LIM_HI => [F.SEQ_LIM_HI_LIMIT]
  | .SEQ_BRD => [F.SEQ_BRD_FIRST, F.SEQ_BRD_COUNT, F.SEQ_BRD_DEFAULT]
  | .SEQ_BSEL => [F.SEQ_BSEL_SEL_LO, F.SEQ_BSEL_SEL_HI]
  | .SEQ_BRES => [F.SEQ_BRES_RES]
  | .SEQ_VNEW => [F.SEQ_VNEW_NEW]
  | .SEQ_XNEW => [F.SEQ_XNEW_NEW]
  | .SEQ_BTERM => [F.SEQ_BTERM_CARE, F.SEQ_BTERM_VALUE]
  | .VEC_CTRL => [F.VEC_CTRL_HALT, F.VEC_CTRL_FC_EN, F.VEC_CTRL_FC_WRAP, F.VEC_CTRL_FC_RESET]
  | .VEC_STATUS => [F.VEC_STATUS_STATE, F.VEC_STATUS_ERR, F.VEC_STATUS_LOOP_DEPTH, F.VEC_STATUS_READY, F.VEC_STATUS_UNDERRUN, F.VEC_STATUS_CLAMP, F.VEC_STATUS_MATCH_EXP, F.VEC_STATUS_BREAK_IGN, F.VEC_STATUS_WIN_IGN, F.VEC_STATUS_WIN_REOPEN, F.VEC_STATUS_WIN_MERGE, F.VEC_STATUS_FC_OVF, F.VEC_STATUS_FC_FULL, F.VEC_STATUS_FC_WRAPPED, F.VEC_STATUS_RING_ERR, F.VEC_STATUS_CFG_IGN]
  | .VEC_ADDR => [F.VEC_ADDR_ADDR]
  | .VEC_ERR_ADDR => [F.VEC_ERR_ADDR_ADDR]
  | .VEC_INDEX_LO => [F.VEC_INDEX_LO_INDEX]
  | .VEC_INDEX_HI => [F.VEC_INDEX_HI_INDEX]
  | .VEC_FAILVEC_LO => [F.VEC_FAILVEC_LO_COUNT]
  | .VEC_FAILVEC_HI => [F.VEC_FAILVEC_HI_COUNT]
  | .VEC_UNDERRUNS => [F.VEC_UNDERRUNS_COUNT]
  | .VEC_CLAMPS => [F.VEC_CLAMPS_COUNT]
  | .VEC_MATCH_EXP => [F.VEC_MATCH_EXP_COUNT]
  | .VEC_CNT_CLR => [F.VEC_CNT_CLR_CLR]
  | .VEC_ENTRY => [F.VEC_ENTRY_ADDR, F.VEC_ENTRY_LOADED, F.VEC_ENTRY_VALID]
  | .VEC_RING_BASE => [F.VEC_RING_BASE_LINE]
  | .VEC_RING_LINES => [F.VEC_RING_LINES_LINES]
  | .VEC_RING_WP => [F.VEC_RING_WP_OFFSET]
  | .VEC_RING_RP => [F.VEC_RING_RP_OFFSET]
  | .VEC_RING_READY => [F.VEC_RING_READY_LINES, F.VEC_RING_READY_LAST]
  | .VEC_FC_BASE => [F.VEC_FC_BASE_LINE]
  | .VEC_FC_LINES => [F.VEC_FC_LINES_LINES]
  | .VEC_FC_WP => [F.VEC_FC_WP_OFFSET]
  | .VEC_FC_RECS => [F.VEC_FC_RECS_COUNT]
  | .VEC_FC_LOST => [F.VEC_FC_LOST_COUNT]
  | .VEC_PFAIL => [F.VEC_PFAIL_COUNT]
  | .VEC_PFAIL_CLR => [F.VEC_PFAIL_CLR_CLR]
  | .VEC_WIN_PINS => [F.VEC_WIN_PINS_PINS]
  | .VEC_WIN_OPEN_LO => [F.VEC_WIN_OPEN_LO_OPEN]
  | .VEC_WIN_OPEN_HI => [F.VEC_WIN_OPEN_HI_OPEN]
  | .TSET_PERIOD => [F.TSET_PERIOD_PERIOD]
  | .TSET_PIN_EN => [F.TSET_PIN_EN_EN]
  | .TSET_HALT_LO => [F.TSET_HALT_LO_HALT]
  | .TSET_HALT_HI => [F.TSET_HALT_HI_HALT]
  | .TSET_STATUS => [F.TSET_STATUS_VALID, F.TSET_STATUS_CAUSE, F.TSET_STATUS_PIN]
  | .TSET_FMT => [F.TSET_FMT_FMT, F.TSET_FMT_CMODE]
  | .TSET_EDGE => [F.TSET_EDGE_TIME]
  | .PIN_VIL => [F.PIN_VIL_LEVEL]
  | .PIN_VIH => [F.PIN_VIH_LEVEL]
  | .PIN_VTERM => [F.PIN_VTERM_LEVEL]
  | .PIN_VOL => [F.PIN_VOL_LEVEL]
  | .PIN_VOH => [F.PIN_VOH_LEVEL]
  | .PIN_VCOM => [F.PIN_VCOM_LEVEL]
  | .PIN_ILOAD => [F.PIN_ILOAD_ISRC, F.PIN_ILOAD_ISNK]
  | .PIN_CFG => [F.PIN_CFG_TERM, F.PIN_CFG_LOAD_EN]
  | .PIN_PMU_CTRL => [F.PIN_PMU_CTRL_CONNECT, F.PIN_PMU_CTRL_MODE, F.PIN_PMU_CTRL_RANGE, F.PIN_PMU_CTRL_MEAS]
  | .PIN_PMU_FORCE => [F.PIN_PMU_FORCE_VALUE]
  | .PIN_PMU_CLAMP => [F.PIN_PMU_CLAMP_VCLO, F.PIN_PMU_CLAMP_VCHI]
  | .PIN_STATUS => [F.PIN_STATUS_GUARDED, F.PIN_STATUS_CAUSE_IN, F.PIN_STATUS_CAUSE_PWR, F.PIN_STATUS_CAUSE_CHECK, F.PIN_STATUS_LOAD_ACTIVE, F.PIN_STATUS_LOAD_PEND, F.PIN_STATUS_PMU_CONN, F.PIN_STATUS_PMU_CLAMP, F.PIN_STATUS_LEVEL_CLAMP, F.PIN_STATUS_THR_ORDER]
  | .PIN_CC_LIM => [F.PIN_CC_LIM_VLO, F.PIN_CC_LIM_VHI]
  | .PIN_CC_RESULT => [F.PIN_CC_RESULT_RESULT, F.PIN_CC_RESULT_PARTNER, F.PIN_CC_RESULT_VMEAS]
  | .PIN_GUARD_CTRL => [F.PIN_GUARD_CTRL_GUARD_EN, F.PIN_GUARD_CTRL_AUTO_CHECK, F.PIN_GUARD_CTRL_RELEASE_MODE, F.PIN_GUARD_CTRL_BLEED, F.PIN_GUARD_CTRL_DEBOUNCE]
  | .PIN_GUARD_STATUS => [F.PIN_GUARD_STATUS_IN, F.PIN_GUARD_STATUS_ACTIVE, F.PIN_GUARD_STATUS_FF_GUARDED, F.PIN_GUARD_STATUS_RELEASE_IGN]
  | .PIN_GUARDED => [F.PIN_GUARDED_PINS]
  | .PIN_RELEASE => [F.PIN_RELEASE_PINS]
  | .PIN_CC_CTRL => [F.PIN_CC_CTRL_START, F.PIN_CC_CTRL_ABORT]
  | .PIN_CC_STATUS => [F.PIN_CC_STATUS_STATE, F.PIN_CC_STATUS_DONE, F.PIN_CC_STATUS_REFUSED, F.PIN_CC_STATUS_ABORTED, F.PIN_CC_STATUS_REVERSED, F.PIN_CC_STATUS_ALL_PASS, F.PIN_CC_STATUS_STEP]
  | .PIN_CC_CFG => [F.PIN_CC_CFG_SETTLE, F.PIN_CC_CFG_FORCE, F.PIN_CC_CFG_SHORT_V, F.PIN_CC_CFG_SUPPLY_I]
  | .PIN_CC_MASK => [F.PIN_CC_MASK_PINS]
  | .PIN_GUARD_COUNT => [F.PIN_GUARD_COUNT_COUNT]
  | .PIN_LOAD_STATUS => [F.PIN_LOAD_STATUS_COUNT, F.PIN_LOAD_STATUS_PEND]
  | .PIN_CNT_CLR => [F.PIN_CNT_CLR_GUARD]
  | .TON_CTRL => [F.TON_CTRL_FLUSH]
  | .TON_CFG => [F.TON_CFG_INTERP]
  | .TON_STATUS => [F.TON_STATUS_STATE, F.TON_STATUS_FREE, F.TON_STATUS_TRACK, F.TON_STATUS_LIST_UNDERRUN, F.TON_STATUS_LIST_ERROR, F.TON_STATUS_ERR_CAUSE, F.TON_STATUS_FLUSH_IGN, F.TON_STATUS_BUF]
  | .TON_INDEX => [F.TON_INDEX_INDEX]
  | .TON_ENTRY => [F.TON_ENTRY_INDEX, F.TON_ENTRY_LOADED, F.TON_ENTRY_VALID]
  | .TON_FTW_LO => [F.TON_FTW_LO_FTW]
  | .TON_FTW_HI => [F.TON_FTW_HI_FTW]
  | .TON_POFF => [F.TON_POFF_POFF]
  | .TON_AMP => [F.TON_AMP_POINT]
  | .TON_UNDERRUNS => [F.TON_UNDERRUNS_COUNT]
  | .TON_ERRORS => [F.TON_ERRORS_COUNT]
  | .TON_CNT_CLR => [F.TON_CNT_CLR_UNDERRUNS, F.TON_CNT_CLR_ERRORS]
  | .TXC_CTRL => [F.TXC_CTRL_ENABLE, F.TXC_CTRL_DISABLE, F.TXC_CTRL_MUTE, F.TXC_CTRL_UNMUTE]
  | .TXC_STATUS => [F.TXC_STATUS_PWR, F.TXC_STATUS_MUTED, F.TXC_STATUS_MUTE_CMD, F.TXC_STATUS_MUTE_GOV, F.TXC_STATUS_MUTE_FLT, F.TXC_STATUS_CLIP, F.TXC_STATUS_PLAYING]
  | .TXC_CFG => [F.TXC_CFG_TONE_EN, F.TXC_CFG_MUTE_RAMP]
  | .TXC_GAIN => [F.TXC_GAIN_GAIN]
  | .TXC_CLIP => [F.TXC_CLIP_COUNT]
  | .TXC_MK_CFG => [F.TXC_MK_CFG_SRC, F.TXC_MK_CFG_POL, F.TXC_MK_CFG_DELAY]
  | .TXC_MK_STATUS => [F.TXC_MK_STATUS_LIST0, F.TXC_MK_STATUS_LIST1, F.TXC_MK_STATUS_FORCED0, F.TXC_MK_STATUS_FORCED1, F.TXC_MK_STATUS_OUT0, F.TXC_MK_STATUS_OUT1]
  | .TXC_CNT_CLR => [F.TXC_CNT_CLR_CLIP, F.TXC_CNT_CLR_MUTE]
  | .TXC_TRK_USE => [F.TXC_TRK_USE_TRACKS]
  | .TXC_TRK_REBASE => [F.TXC_TRK_REBASE_TRACKS]
  | .TXC_TRK_SEL => [F.TXC_TRK_SEL_TRACK]
  | .TXC_TRK_ACC_LO => [F.TXC_TRK_ACC_LO_ACC]
  | .TXC_TRK_ACC_HI => [F.TXC_TRK_ACC_HI_ACC]
  | .TXC_MUTE_CNT => [F.TXC_MUTE_CNT_COUNT]
  | .TXC_TRK_FTW_LO => [F.TXC_TRK_FTW_LO_FTW]
  | .TXC_TRK_FTW_HI => [F.TXC_TRK_FTW_HI_FTW]
  | .RXC_CTRL => [F.RXC_CTRL_ENABLE, F.RXC_CTRL_DISABLE]
  | .RXC_STATUS => [F.RXC_STATUS_PWR, F.RXC_STATUS_OVR, F.RXC_STATUS_SETTLING]
  | .RXC_CFG => [F.RXC_CFG_RANGE]
  | .RXC_OVR => [F.RXC_OVR_COUNT]
  | .RXC_CNT_CLR => [F.RXC_CNT_CLR_OVR]
  | .DMX_CFG => [F.DMX_CFG_RESTART, F.DMX_CFG_LEVELS, F.DMX_CFG_OVR_CODE, F.DMX_CFG_DELAY, F.DMX_CFG_SHIFT]
  | .DMX_ROUTE => [F.DMX_ROUTE_SRC, F.DMX_ROUTE_VEN]
  | .DMX_STATUS => [F.DMX_STATUS_STATE, F.DMX_STATUS_OVERRUN, F.DMX_STATUS_RESTARTED, F.DMX_STATUS_WSET_ERR, F.DMX_STATUS_SAT, F.DMX_STATUS_OVR, F.DMX_STATUS_INVALID, F.DMX_STATUS_WSEL]
  | .DMX_POFF => [F.DMX_POFF_POFF]
  | .DMX_FTW_LO => [F.DMX_FTW_LO_FTW]
  | .DMX_FTW_HI => [F.DMX_FTW_HI_FTW]
  | .DMX_WSET => [F.DMX_WSET_BASE, F.DMX_WSET_LEN]
  | .DMX_LINE_AB => [F.DMX_LINE_AB_A, F.DMX_LINE_AB_B]
  | .DMX_LINE_C_LO => [F.DMX_LINE_C_LO_C]
  | .DMX_LINE_C_HI => [F.DMX_LINE_C_HI_C]
  | .DMX_RES_I => [F.DMX_RES_I_VALUE]
  | .DMX_RES_Q => [F.DMX_RES_Q_VALUE]
  | .DMX_RES_END_LO => [F.DMX_RES_END_LO_BEAT]
  | .DMX_RES_END_HI => [F.DMX_RES_END_HI_BEAT]
  | .DMX_RES_INFO => [F.DMX_RES_INFO_VCODE, F.DMX_RES_INFO_VVALID, F.DMX_RES_INFO_OVR, F.DMX_RES_INFO_SAT, F.DMX_RES_INFO_INVALID, F.DMX_RES_INFO_WSEL]
  | .DMX_WINDOWS => [F.DMX_WINDOWS_COUNT]
  | .DMX_OVERRUN => [F.DMX_OVERRUN_COUNT]
  | .DMX_RESTARTS => [F.DMX_RESTARTS_COUNT]
  | .DMX_CANCELS => [F.DMX_CANCELS_COUNT]
  | .DMX_CNT_CLR => [F.DMX_CNT_CLR_CLR]
  | .DMX_WRAM => [F.DMX_WRAM_WI, F.DMX_WRAM_WQ]
  | .ACQ_CTRL => [F.ACQ_CTRL_ARM, F.ACQ_CTRL_TRIGGER, F.ACQ_CTRL_STOP, F.ACQ_CTRL_DESC]
  | .ACQ_STATUS => [F.ACQ_STATUS_SIZE_ERR, F.ACQ_STATUS_CFG_ERR, F.ACQ_STATUS_BUSY_ERR, F.ACQ_STATUS_ACTIVE_ERR, F.ACQ_STATUS_STORE_ERR, F.ACQ_STATUS_OVF, F.ACQ_STATUS_TRIG_EARLY, F.ACQ_STATUS_ERR_DESC, F.ACQ_STATUS_ACTIVE, F.ACQ_STATUS_DRAINED]
  | .ACQ_STRM => [F.ACQ_STRM_DESC, F.ACQ_STRM_STATE, F.ACQ_STRM_SEG]
  | .ACQ_TRIG_EARLY => [F.ACQ_TRIG_EARLY_COUNT]
  | .ACQ_OVF => [F.ACQ_OVF_COUNT]
  | .ACQ_CNT_CLR => [F.ACQ_CNT_CLR_EARLY, F.ACQ_CNT_CLR_OVF]
  | .ACQ_DCFG => [F.ACQ_DCFG_KIND, F.ACQ_DCFG_SRC, F.ACQ_DCFG_TRIG, F.ACQ_DCFG_TBIN, F.ACQ_DCFG_DEC]
  | .ACQ_DBASE => [F.ACQ_DBASE_LINE]
  | .ACQ_DLINES => [F.ACQ_DLINES_LINES]
  | .ACQ_DPRE => [F.ACQ_DPRE_ITEMS]
  | .ACQ_DPOST => [F.ACQ_DPOST_ITEMS]
  | .ACQ_DSEG => [F.ACQ_DSEG_SEGMENTS]
  | .ACQ_DMASK => [F.ACQ_DMASK_MASK]
  | .VRD_STATUS => [F.VRD_STATUS_LATE, F.VRD_STATUS_DUE_ERR, F.VRD_STATUS_UNBOUND, F.VRD_STATUS_EXP_DROP, F.VRD_STATUS_ROUTE_ALT]
  | .VRD_LATE => [F.VRD_LATE_COUNT]
  | .VRD_DUE_ERR => [F.VRD_DUE_ERR_COUNT]
  | .VRD_UNBOUND => [F.VRD_UNBOUND_COUNT]
  | .VRD_EXP_DROP => [F.VRD_EXP_DROP_COUNT]
  | .VRD_GOV_SUBST => [F.VRD_GOV_SUBST_COUNT]
  | .VRD_CNT_CLR => [F.VRD_CNT_CLR_CLR]
  | .VRD_LAST_LATE => [F.VRD_LAST_LATE_VERDICT, F.VRD_LAST_LATE_SRC_DEV, F.VRD_LAST_LATE_BEATS]
  | .VRD_UNAVAIL => [F.VRD_UNAVAIL_SLICES]
  | .VRD_EXPQ_MAX => [F.VRD_EXPQ_MAX_DEPTH]
  | .VRD_IMP_HOLD => [F.VRD_IMP_HOLD_HELD]
  | .VRD_ROUTE => [F.VRD_ROUTE_SLICES, F.VRD_ROUTE_PAD_ALT, F.VRD_ROUTE_UNAVAIL, F.VRD_ROUTE_GUARD_TX]
  | .VRD_DELIV => [F.VRD_DELIV_DELIV_P, F.VRD_DELIV_DELIV_A]
  | .VRD_EXPORT => [F.VRD_EXPORT_VERDICT, F.VRD_EXPORT_DEST, F.VRD_EXPORT_VALID]
  | .VRD_IMPORT => [F.VRD_IMPORT_SRC_VERDICT, F.VRD_IMPORT_SRC_DEV, F.VRD_IMPORT_VALID]
  | .VRD_IMPORT_SL => [F.VRD_IMPORT_SL_SLICES]
  | .FF_CTRL => [F.FF_CTRL_SET, F.FF_CTRL_SPAN, F.FF_CTRL_HIZ]
  | .FF_STATUS => [F.FF_STATUS_STATE, F.FF_STATUS_SETTING, F.FF_STATUS_GOV, F.FF_STATUS_LIMIT, F.FF_STATUS_SHORT, F.FF_STATUS_CHECK, F.FF_STATUS_REFUSED, F.FF_STATUS_DEFERRED, F.FF_STATUS_DISCARD]
  | .FF_CFG => [F.FF_CFG_RAMP, F.FF_CFG_DGL_THR, F.FF_CFG_KELVIN]
  | .FF_LIM => [F.FF_LIM_ALLOW, F.FF_LIM_DGL_CEIL]
  | .FF_SHORT_CFG => [F.FF_SHORT_CFG_ILIM, F.FF_SHORT_CFG_VCOMP, F.FF_SHORT_CFG_ERR, F.FF_SHORT_CFG_PROGRESS]
  | .FF_CODE => [F.FF_CODE_CODE, F.FF_CODE_HELD]
  | .FF_READBACK => [F.FF_READBACK_VALUE, F.FF_READBACK_INDEX]
  | .FF_DEFER => [F.FF_DEFER_COUNT]
  | .FF_DISCARD => [F.FF_DISCARD_COUNT]
  | .FF_REFUSED => [F.FF_REFUSED_COUNT]
  | .FF_PROV => [F.FF_PROV_COUNT]
  | .FF_DISMISS => [F.FF_DISMISS_COUNT]
  | .FF_DGL => [F.FF_DGL_COUNT]
  | .FF_SHORTS => [F.FF_SHORTS_COUNT]
  | .FF_CNT_CLR => [F.FF_CNT_CLR_CH, F.FF_CNT_CLR_CNT]
  | .MAD_CMD => [F.MAD_CMD_TRIG, F.MAD_CMD_ABORT, F.MAD_CMD_SELFCAL, F.MAD_CMD_SYSCAL, F.MAD_CMD_APPLYF, F.MAD_CMD_SEQ]
  | .MAD_CFG => [F.MAD_CFG_ENABLE, F.MAD_CFG_LOWPWR, F.MAD_CFG_WMARK]
  | .MAD_STATUS => [F.MAD_STATUS_STATE, F.MAD_STATUS_PEND, F.MAD_STATUS_PEND_SEQ, F.MAD_STATUS_RUN_SEQ, F.MAD_STATUS_TRIG_DROP, F.MAD_STATUS_QOVF, F.MAD_STATUS_RD_EMPTY, F.MAD_STATUS_SELFCAL_DONE, F.MAD_STATUS_SELFCAL_FAIL, F.MAD_STATUS_REFUSED]
  | .MAD_QSTATUS => [F.MAD_QSTATUS_COUNT, F.MAD_QSTATUS_PEAK]
  | .MAD_RES_LO => [F.MAD_RES_LO_ENTRY]
  | .MAD_RES_HI => [F.MAD_RES_HI_ENTRY]
  | .MAD_TRIG_DROP => [F.MAD_TRIG_DROP_COUNT]
  | .MAD_QLOST => [F.MAD_QLOST_COUNT]
  | .MAD_REDO => [F.MAD_REDO_COUNT]
  | .MAD_ABORTS => [F.MAD_ABORTS_COUNT]
  | .MAD_DIS_COUNT => [F.MAD_DIS_COUNT_FINISHED, F.MAD_DIS_COUNT_DISCARDED]
  | .MAD_CNT_CLR => [F.MAD_CNT_CLR_CLR]
  | .MAD_SCAL_CTRL => [F.MAD_SCAL_CTRL_INPUT, F.MAD_SCAL_CTRL_RANGE, F.MAD_SCAL_CTRL_POINT]
  | .MAD_SCAL_REF => [F.MAD_SCAL_REF_REF]
  | .MAD_SCAL_STATUS => [F.MAD_SCAL_STATUS_STATE, F.MAD_SCAL_STATUS_ERR, F.MAD_SCAL_STATUS_SET]
  | .MAD_SEQ => [F.MAD_SEQ_STEPS, F.MAD_SEQ_REPEAT, F.MAD_SEQ_GAP]
  | .MAD_SYSC_OFF => [F.MAD_SYSC_OFF_OFF]
  | .MAD_SYSC_GAIN => [F.MAD_SYSC_GAIN_GAIN]
  | .MAD_SCF => [F.MAD_SCF_VALUE]
  | .MAD_STEP => [F.MAD_STEP_INPUT, F.MAD_STEP_RANGE, F.MAD_STEP_AVG]
  | .MAD_FIFO => [F.MAD_FIFO_ENTRY]
  | .TDC_CTRL => [F.TDC_CTRL_ARM, F.TDC_CTRL_DISARM, F.TDC_CTRL_GATE, F.TDC_CTRL_SETUP]
  | .TDC_CFG => [F.TDC_CFG_EN, F.TDC_CFG_CMP_SHIFT]
  | .TDC_STATUS => [F.TDC_STATUS_STATE, F.TDC_STATUS_LOCK, F.TDC_STATUS_ARM_IGN, F.TDC_STATUS_CFG_ERR, F.TDC_STATUS_SPACING, F.TDC_STATUS_REV_DISC, F.TDC_STATUS_GATE_IGN, F.TDC_STATUS_SETUP, F.TDC_STATUS_LEFT]
  | .TDC_SETUP => [F.TDC_SETUP_MODE, F.TDC_SETUP_START_IN, F.TDC_SETUP_START_SLOPE, F.TDC_SETUP_STOP_IN, F.TDC_SETUP_STOP_SLOPE, F.TDC_SETUP_REPEAT, F.TDC_SETUP_CONT]
  | .TDC_GATE => [F.TDC_GATE_US]
  | .TDC_SPACING => [F.TDC_SPACING_COUNT]
  | .TDC_REV_DISC => [F.TDC_REV_DISC_COUNT]
  | .TDC_IGNORED => [F.TDC_IGNORED_COUNT]
  | .TDC_CNT_CLR => [F.TDC_CNT_CLR_CLR]
  | .TDC_RESULT => [F.TDC_RESULT_WORD0]
  | .TDC_RES_VAL_LO => [F.TDC_RES_VAL_LO_WORD]
  | .TDC_RES_VAL_HI => [F.TDC_RES_VAL_HI_WORD]
  | .TDC_RES_AUX => [F.TDC_RES_AUX_WORD]
  | .TDC_QSTATUS => [F.TDC_QSTATUS_COUNT, F.TDC_QSTATUS_QOVF, F.TDC_QSTATUS_PEAK]
  | .TDC_QCFG => [F.TDC_QCFG_WMARK]
  | .TDC_QLOST => [F.TDC_QLOST_COUNT]
  | .TDC_QCLR => [F.TDC_QCLR_QLOST]
  | .TDC_FIFO => [F.TDC_FIFO_ENTRY]
  | .TDC_TIN_CFG => [F.TDC_TIN_CFG_THR, F.TDC_TIN_CFG_HYST, F.TDC_TIN_CFG_TERM]
  | .INV_CFG => [F.INV_CFG_REF_SEL, F.INV_CFG_BW]
  | .INV_STATUS => [F.INV_STATUS_LOCK, F.INV_STATUS_REF_VALID, F.INV_STATUS_DISC_LOCK, F.INV_STATUS_HOLDOVER, F.INV_STATUS_SLEWING, F.INV_STATUS_REF_LOST, F.INV_STATUS_XTAL_FAIL, F.INV_STATUS_CLAMP]
  | .INV_AGE_TRIM => [F.INV_AGE_TRIM_TRIM]
  | .INV_CORR => [F.INV_CORR_VALUE]
  | .INV_DISC => [F.INV_DISC_VALUE]
  | .INV_PHASE_ERR => [F.INV_PHASE_ERR_PS]
  | .INV_TEMP => [F.INV_TEMP_TEMP]
  | .INV_REF_LOSS => [F.INV_REF_LOSS_COUNT]
  | .INV_CNT_CLR => [F.INV_CNT_CLR_LOSS]
  | .CHN_CFG => [F.CHN_CFG_ROLE, F.CHN_CFG_POS, F.CHN_CFG_AVG, F.CHN_CFG_AUX1_MARK]
  | .CHN_CTRL => [F.CHN_CTRL_EPOCH, F.CHN_CTRL_REALIGN]
  | .CHN_STATUS => [F.CHN_STATUS_STATE, F.CHN_STATUS_ALIGNED, F.CHN_STATUS_CLK_LOCK, F.CHN_STATUS_EPOCH_PEND, F.CHN_STATUS_UP_LOST, F.CHN_STATUS_POS_ERR, F.CHN_STATUS_COUNT_ERR, F.CHN_STATUS_LINK_LONG, F.CHN_STATUS_EPOCH_REFUSED, F.CHN_STATUS_REALIGN_REFUSED, F.CHN_STATUS_CFG_IGN]
  | .CHN_EPOCH_LO => [F.CHN_EPOCH_LO_BEAT]
  | .CHN_EPOCH_HI => [F.CHN_EPOCH_HI_BEAT]
  | .CHN_LAST_EPOCH_LO => [F.CHN_LAST_EPOCH_LO_BEAT]
  | .CHN_LAST_EPOCH_HI => [F.CHN_LAST_EPOCH_HI_BEAT]
  | .CHN_LINK => [F.CHN_LINK_FWD]
  | .CHN_OFFSET => [F.CHN_OFFSET_DELTA]
  | .CHN_TRIM => [F.CHN_TRIM_TRIM]
  | .CHN_EXT_DELAY => [F.CHN_EXT_DELAY_DELAY]
  | .CHN_FRAME_ERR => [F.CHN_FRAME_ERR_COUNT]
  | .CHN_HOLDOVERS => [F.CHN_HOLDOVERS_COUNT]
  | .CHN_CNT_CLR => [F.CHN_CNT_CLR_FRAME_ERR, F.CHN_CNT_CLR_HOLDOVERS]
  | .TRG_CTRL => [F.TRG_CTRL_CAL]
  | .TRG_STATUS => [F.TRG_STATUS_LEVEL, F.TRG_STATUS_CAL_BUSY, F.TRG_STATUS_CAL_DONE, F.TRG_STATUS_CAL_REFUSED, F.TRG_STATUS_MARGIN, F.TRG_STATUS_GLITCH, F.TRG_STATUS_DRIVE_IGN]
  | .TRG_DRIVE => [F.TRG_DRIVE_LEVEL]
  | .TRG_CAL_START_LO => [F.TRG_CAL_START_LO_BEAT]
  | .TRG_CAL_START_HI => [F.TRG_CAL_START_HI_BEAT]
  | .TRG_LINE => [F.TRG_LINE_EN, F.TRG_LINE_SRC, F.TRG_LINE_TIN]
  | .TRG_POS => [F.TRG_POS_PS, F.TRG_POS_CAL_ERR, F.TRG_POS_CAL_OK]
  | .TRG_EDGES => [F.TRG_EDGES_COUNT]
  | .TRG_MARGINS => [F.TRG_MARGINS_COUNT]
  | .TRG_GLITCHES => [F.TRG_GLITCHES_COUNT]
  | .TRG_CNT_CLR => [F.TRG_CNT_CLR_EDGES, F.TRG_CNT_CLR_MARGINS, F.TRG_CNT_CLR_GLITCHES]
  | .KTL_CTRL => [F.KTL_CTRL_DISCOVER, F.KTL_CTRL_JOIN]
  | .KTL_CFG => [F.KTL_CFG_ROOT_EN, F.KTL_CFG_ADOPT_EN, F.KTL_CFG_REQ_ID, F.KTL_CFG_REQ_VALID]
  | .KTL_STATUS => [F.KTL_STATUS_STATE, F.KTL_STATUS_ROOT, F.KTL_STATUS_TOPO_MISMATCH, F.KTL_STATUS_SOLDER_LATE, F.KTL_STATUS_ID_REFUSED, F.KTL_STATUS_DEGRADED, F.KTL_STATUS_UNREACH, F.KTL_STATUS_BAR_NONMEMBER, F.KTL_STATUS_JOIN_DONE]
  | .KTL_ID => [F.KTL_ID_ID, F.KTL_ID_VALID]
  | .KTL_UID_LO => [F.KTL_UID_LO_UID]
  | .KTL_UID_HI => [F.KTL_UID_HI_UID]
  | .KTL_ROOT => [F.KTL_ROOT_ROOT_ID, F.KTL_ROOT_HOPS]
  | .KTL_COMMIT_DELAY => [F.KTL_COMMIT_DELAY_BEATS]
  | .KTL_TOPO_EXPECT => [F.KTL_TOPO_EXPECT_DIGEST]
  | .KTL_TOPO_SEEN => [F.KTL_TOPO_SEEN_DIGEST]
  | .KTL_LINKS_DOWN => [F.KTL_LINKS_DOWN_COUNT]
  | .KTL_UNREACH_DROP => [F.KTL_UNREACH_DROP_COUNT]
  | .KTL_TTL_DROP => [F.KTL_TTL_DROP_COUNT]
  | .KTL_BAR_LATE => [F.KTL_BAR_LATE_COUNT]
  | .KTL_BAR_ABORTS => [F.KTL_BAR_ABORTS_COUNT]
  | .KTL_CNT_CLR => [F.KTL_CNT_CLR_CLR]
  | .KTL_PORT_CFG => [F.KTL_PORT_CFG_EN, F.KTL_PORT_CFG_REACH, F.KTL_PORT_CFG_TXEQ]
  | .KTL_PORT_STATUS => [F.KTL_PORT_STATUS_STATE, F.KTL_PORT_STATUS_LANE_SWAP, F.KTL_PORT_STATUS_POL0, F.KTL_PORT_STATUS_POL1, F.KTL_PORT_STATUS_LOOPBACK, F.KTL_PORT_STATUS_LANE_ERR, F.KTL_PORT_STATUS_FLIGHT_LONG, F.KTL_PORT_STATUS_MAINT_ONLY, F.KTL_PORT_STATUS_DOWN_EVT, F.KTL_PORT_STATUS_DOWN_CAUSE]
  | .KTL_PORT_NBR => [F.KTL_PORT_NBR_ID, F.KTL_PORT_NBR_PORT, F.KTL_PORT_NBR_ID_VALID, F.KTL_PORT_NBR_VALID]
  | .KTL_PORT_FLIGHT => [F.KTL_PORT_FLIGHT_PS]
  | .KTL_FEC_CORR => [F.KTL_FEC_CORR_COUNT]
  | .KTL_FEC_UNCORR => [F.KTL_FEC_UNCORR_COUNT]
  | .KTL_REPLAYS => [F.KTL_REPLAYS_COUNT]
  | .KTL_PORT_DOWNS => [F.KTL_PORT_DOWNS_COUNT]
  | .KTL_PORT_CLR => [F.KTL_PORT_CLR_CLR]
  | .KTL_RT => [F.KTL_RT_VPRI, F.KTL_RT_VALT, F.KTL_RT_PPRI, F.KTL_RT_PALT, F.KTL_RT_PDN, F.KTL_RT_V_ALT, F.KTL_RT_P_ALT, F.KTL_RT_UNREACH, F.KTL_RT_DIST]
  | .KTL_BAR_CFG => [F.KTL_BAR_CFG_SLICES, F.KTL_BAR_CFG_CHILD, F.KTL_BAR_CFG_PARENT, F.KTL_BAR_CFG_VALID]
  | .KTL_BAR_DELAY => [F.KTL_BAR_DELAY_RDELAY]
  | .KTL_BAR_STATE => [F.KTL_BAR_STATE_ARRIVED, F.KTL_BAR_STATE_CHILD_ARR, F.KTL_BAR_STATE_GEN, F.KTL_BAR_STATE_PHASE]
  | .HST_PTP_CFG => [F.HST_PTP_CFG_EN, F.HST_PTP_CFG_PORT, F.HST_PTP_CFG_TRANSPORT, F.HST_PTP_CFG_DOMAIN]
  | .HST_PTP_STATUS => [F.HST_PTP_STATUS_STATE]
  | .HST_TOD_CTRL => [F.HST_TOD_CTRL_LATCH, F.HST_TOD_CTRL_STEP]
  | .HST_TOD_ADJ => [F.HST_TOD_ADJ_ADJ]
  | .HST_TOD_SEC_LO => [F.HST_TOD_SEC_LO_SEC]
  | .HST_TOD_SEC_HI => [F.HST_TOD_SEC_HI_SEC]
  | .HST_TOD_NS => [F.HST_TOD_NS_NS]
  | .HST_TOD_BEAT_LO => [F.HST_TOD_BEAT_LO_BEAT]
  | .HST_TOD_BEAT_HI => [F.HST_TOD_BEAT_HI_BEAT]
  | .HST_PORT_CFG => [F.HST_PORT_CFG_EN, F.HST_PORT_CFG_PMD, F.HST_PORT_CFG_AN_EN, F.HST_PORT_CFG_JUMBO, F.HST_PORT_CFG_VLAN_EN, F.HST_PORT_CFG_VLAN_ID]
  | .HST_PORT_STATUS => [F.HST_PORT_STATUS_LINK, F.HST_PORT_STATUS_AN_DONE, F.HST_PORT_STATUS_FEC_LOCK, F.HST_PORT_STATUS_DOWN_EVT]
  | .HST_MAC_LO => [F.HST_MAC_LO_MAC]
  | .HST_MAC_HI => [F.HST_MAC_HI_MAC]
  | .HST_IP4 => [F.HST_IP4_ADDR]
  | .HST_IP6 => [F.HST_IP6_ADDR]
  | .HST_FEC_CORR => [F.HST_FEC_CORR_COUNT]
  | .HST_FEC_UNCORR => [F.HST_FEC_UNCORR_COUNT]
  | .HST_RX_DROP => [F.HST_RX_DROP_COUNT]
  | .HST_CNT_CLR => [F.HST_CNT_CLR_CLR]
  | .CTP_CFG => [F.CTP_CFG_UDP_PORT, F.CTP_CFG_RTO, F.CTP_CFG_MAX_RETRY, F.CTP_CFG_TAKEOVER]
  | .CTP_STATUS => [F.CTP_STATUS_SESSION, F.CTP_STATUS_IPV6, F.CTP_STATUS_DOWN_EVT, F.CTP_STATUS_REFUSED, F.CTP_STATUS_TAGS]
  | .CTP_PEER_PORT => [F.CTP_PEER_PORT_PORT]
  | .CTP_PEER_ADDR => [F.CTP_PEER_ADDR_ADDR]
  | .CTP_RING => [F.CTP_RING_UNITS]
  | .CTP_CREDIT_WAIT => [F.CTP_CREDIT_WAIT_COUNT]
  | .CTP_RETX => [F.CTP_RETX_COUNT]
  | .CTP_DUP => [F.CTP_DUP_COUNT]
  | .CTP_OOS => [F.CTP_OOS_COUNT]
  | .CTP_TAG_ERR => [F.CTP_TAG_ERR_COUNT]
  | .CTP_CNT_CLR => [F.CTP_CNT_CLR_CLR]
  | .CTP_TUNNEL_TMO => [F.CTP_TUNNEL_TMO_TMO]
  | .EVT_CFG => [F.EVT_CFG_EN, F.EVT_CFG_PORT, F.EVT_CFG_SEND, F.EVT_CFG_ALERT_EN]
  | .EVT_STATUS => [F.EVT_STATUS_PENDING, F.EVT_STATUS_LOST, F.EVT_STATUS_ALERT]
  | .EVT_QSTATUS => [F.EVT_QSTATUS_COUNT, F.EVT_QSTATUS_PEAK]
  | .EVT_LOST => [F.EVT_LOST_COUNT]
  | .EVT_RD0 => [F.EVT_RD0_WORD]
  | .EVT_RD1 => [F.EVT_RD1_WORD]
  | .EVT_RD2 => [F.EVT_RD2_WORD]
  | .EVT_RD3 => [F.EVT_RD3_WORD]
  | .EVT_CNT_CLR => [F.EVT_CNT_CLR_LOST]
  | .EVT_MASK => [F.EVT_MASK_EN]
  | .DMA_CTRL => [F.DMA_CTRL_CLR_BUSERR]
  | .DMA_STATUS => [F.DMA_STATUS_BUSERR, F.DMA_STATUS_INFLIGHT]
  | .DMA_ACTIVE => [F.DMA_ACTIVE_CH]
  | .DMA_BUSERR_BEAT_LO => [F.DMA_BUSERR_BEAT_LO_BEAT]
  | .DMA_BUSERR_BEAT_HI => [F.DMA_BUSERR_BEAT_HI_BEAT]
  | .DMA_BUSERRS => [F.DMA_BUSERRS_COUNT]
  | .DMA_CNT_CLR => [F.DMA_CNT_CLR_BUSERRS]
  | .DMA_CH_CTRL => [F.DMA_CH_CTRL_START, F.DMA_CH_CTRL_ABORT, F.DMA_CH_CTRL_FLUSH]
  | .DMA_CH_CFG => [F.DMA_CH_CFG_PRIO, F.DMA_CH_CFG_REQ]
  | .DMA_CH_STATUS => [F.DMA_CH_STATUS_STATE, F.DMA_CH_STATUS_STATUS, F.DMA_CH_STATUS_DONE, F.DMA_CH_STATUS_ERR, F.DMA_CH_STATUS_LOCKED, F.DMA_CH_STATUS_START_IGN, F.DMA_CH_STATUS_INFLIGHT, F.DMA_CH_STATUS_RSTATUS]
  | .DMA_CH_DESC => [F.DMA_CH_DESC_OFFSET]
  | .DMA_CH_RESIDUE => [F.DMA_CH_RESIDUE_BYTES]
  | .DMA_CH_DROPPED => [F.DMA_CH_DROPPED_COUNT]
  | .DMA_CH_DESCS => [F.DMA_CH_DESCS_COUNT]
  | .DMA_CH_BYTES_LO => [F.DMA_CH_BYTES_LO_BYTES]
  | .DMA_CH_BYTES_HI => [F.DMA_CH_BYTES_HI_BYTES]
  | .DMA_CH_WAIT => [F.DMA_CH_WAIT_COUNT]
  | .DMA_CH_CLR => [F.DMA_CH_CLR_CLR]
  | .SIDE_CFG => [F.SIDE_CFG_WR_EN]
  | .SIDE_STATUS => [F.SIDE_STATUS_FRAME_ERR, F.SIDE_STATUS_PAST_END, F.SIDE_STATUS_LATE, F.SIDE_STATUS_PARTIAL, F.SIDE_STATUS_OVF, F.SIDE_STATUS_ACTIVE, F.SIDE_STATUS_MODE3]
  | .SIDE_PAGE => [F.SIDE_PAGE_PAGE]
  | .SIDE_FRAMES => [F.SIDE_FRAMES_COUNT]
  | .SIDE_WORDS => [F.SIDE_WORDS_COUNT]
  | .SIDE_CNT_CLR => [F.SIDE_CNT_CLR_CLR]
  | .ACC_CTRL => [F.ACC_CTRL_GO, F.ACC_CTRL_ABORT]
  | .ACC_CFG => [F.ACC_CFG_MODE, F.ACC_CFG_DIV, F.ACC_CFG_SETUP, F.ACC_CFG_HOLD]
  | .ACC_FRAME => [F.ACC_FRAME_LEN, F.ACC_FRAME_SEL]
  | .ACC_STATUS => [F.ACC_STATUS_BUSY, F.ACC_STATUS_DONE, F.ACC_STATUS_REFUSED, F.ACC_STATUS_ABORTED, F.ACC_STATUS_CAUSE]
  | .ACC_FRAMES => [F.ACC_FRAMES_COUNT]
  | .ACC_CNT_CLR => [F.ACC_CNT_CLR_FRAMES]
  | .ACC_TX => [F.ACC_TX_BITS]
  | .ACC_RX => [F.ACC_RX_BITS]
  | .PWT_CTRL => [F.PWT_CTRL_OPEN]
  | .PWT_STATUS => [F.PWT_STATUS_OPEN, F.PWT_STATUS_OPEN_REFUSED, F.PWT_STATUS_HOST_IGN, F.PWT_STATUS_SEQ_ERR, F.PWT_STATUS_PHASE, F.PWT_STATUS_PTR]
  | .PWT_BYTES => [F.PWT_BYTES_COUNT]
  | .PWT_CNT_CLR => [F.PWT_CNT_CLR_BYTES]
  | .PWR_STATUS => [F.PWR_STATUS_REFUSED, F.PWR_STATUS_CLAMP, F.PWR_STATUS_OVER, F.PWR_STATUS_BUDGET_WAIT, F.PWR_STATUS_RAMP_WAIT]
  | .PWR_BUDGET_MW => [F.PWR_BUDGET_MW_MW]
  | .PWR_RAMP => [F.PWR_RAMP_MW]
  | .PWR_BASE_MW => [F.PWR_BASE_MW_MW]
  | .PWR_COMMITTED_MW => [F.PWR_COMMITTED_MW_MW]
  | .PWR_QSTATUS => [F.PWR_QSTATUS_COUNT, F.PWR_QSTATUS_PEAK]
  | .PWR_HEAD => [F.PWR_HEAD_CLASS, F.PWR_HEAD_INDEX]
  | .PWR_LAST_REFUSED => [F.PWR_LAST_REFUSED_CLASS, F.PWR_LAST_REFUSED_INDEX]
  | .PWR_GRANTS => [F.PWR_GRANTS_COUNT]
  | .PWR_WAIT_BEATS => [F.PWR_WAIT_BEATS_COUNT]
  | .PWR_MEAS_MW => [F.PWR_MEAS_MW_MW]
  | .PWR_CNT_CLR => [F.PWR_CNT_CLR_CLR]
  | .PWR_DRAIN_TIMEOUT => [F.PWR_DRAIN_TIMEOUT_US]
  | .PWR_DIS_LAST => [F.PWR_DIS_LAST_SLICE, F.PWR_DIS_LAST_KIND, F.PWR_DIS_LAST_INDEX, F.PWR_DIS_LAST_FINISHED, F.PWR_DIS_LAST_DISCARDED]
  | .PWR_COST => [F.PWR_COST_MW]
  | .PWR_DOM => [F.PWR_DOM_REQ, F.PWR_DOM_STATE, F.PWR_DOM_REFUSED, F.PWR_DOM_REASON, F.PWR_DOM_TIMED_OUT]
  | .NRG_TX_LIM_MS => [F.NRG_TX_LIM_MS_LIM]
  | .NRG_TX_LIM_S => [F.NRG_TX_LIM_S_LIM]
  | .NRG_TX_CFG => [F.NRG_TX_CFG_REARM]
  | .NRG_TX_STATUS => [F.NRG_TX_STATUS_TRIP, F.NRG_TX_STATUS_WIN_MS, F.NRG_TX_STATUS_WIN_S, F.NRG_TX_STATUS_REARM_REFUSED]
  | .NRG_TX_LEVEL_MS => [F.NRG_TX_LEVEL_MS_LEVEL]
  | .NRG_TX_LEVEL_S => [F.NRG_TX_LEVEL_S_LEVEL]
  | .NRG_TX_TRIPS => [F.NRG_TX_TRIPS_COUNT]
  | .NRG_TX_CLR => [F.NRG_TX_CLR_TRIPS]
  | .NRG_FF_LIM => [F.NRG_FF_LIM_LIM]
  | .NRG_FF_RLOAD => [F.NRG_FF_RLOAD_OHMS]
  | .NRG_FF_CFG => [F.NRG_FF_CFG_REARM]
  | .NRG_FF_STATUS => [F.NRG_FF_STATUS_TRIP, F.NRG_FF_STATUS_REARM_REFUSED]
  | .NRG_FF_LEVEL => [F.NRG_FF_LEVEL_RMS]
  | .NRG_FF_TRIPS => [F.NRG_FF_TRIPS_COUNT]
  | .NRG_FF_CLR => [F.NRG_FF_CLR_TRIPS]
  | .NRG_PIN_CFG => [F.NRG_PIN_CFG_ELIM, F.NRG_PIN_CFG_IMAX]
  | .NRG_PIN_STATUS => [F.NRG_PIN_STATUS_TRIP, F.NRG_PIN_STATUS_CAUSE_I, F.NRG_PIN_STATUS_CAUSE_E]
  | .NRG_PIN_ENERGY => [F.NRG_PIN_ENERGY_NJ]
  | .NRG_STATUS => [F.NRG_STATUS_TX, F.NRG_STATUS_FF, F.NRG_STATUS_PIN]
  | .CAL_CFG => [F.CAL_CFG_ENABLE, F.CAL_CFG_HALT_GAP, F.CAL_CFG_SHOT_GAP, F.CAL_CFG_AUTO_FG, F.CAL_CFG_SAVE_MIN, F.CAL_CFG_STALE]
  | .CAL_STATUS => [F.CAL_STATUS_SHED, F.CAL_STATUS_STALE, F.CAL_STATUS_VAULT_ERR, F.CAL_STATUS_BLOCK_MISS]
  | .CAL_CTRL => [F.CAL_CTRL_SAVE]
  | .CAL_VAULT_STATUS => [F.CAL_VAULT_STATUS_BUSY, F.CAL_VAULT_STATUS_DONE, F.CAL_VAULT_STATUS_FAIL, F.CAL_VAULT_STATUS_KIND]
  | .CAL_SEL => [F.CAL_SEL_CONV, F.CAL_SEL_BANK]
  | .CAL_APPLY_AT_LO => [F.CAL_APPLY_AT_LO_BEAT]
  | .CAL_APPLY_AT_HI => [F.CAL_APPLY_AT_HI_BEAT]
  | .CAL_VAULT_SEQ => [F.CAL_VAULT_SEQ_SEQ]
  | .CAL_SET => [F.CAL_SET_WORD]
  | .CAL_CONV_CTRL => [F.CAL_CONV_CTRL_STAGE, F.CAL_CONV_CTRL_STAGE_AT, F.CAL_CONV_CTRL_CANCEL, F.CAL_CONV_CTRL_FORCE_DITHER]
  | .CAL_CONV_STATUS => [F.CAL_CONV_STATUS_SRC, F.CAL_CONV_STATUS_PEND, F.CAL_CONV_STATUS_PEND_AT, F.CAL_CONV_STATUS_DITHER_NEED, F.CAL_CONV_STATUS_TESTING, F.CAL_CONV_STATUS_STALE, F.CAL_CONV_STATUS_NEEDS_FG, F.CAL_CONV_STATUS_STAGE_IGN, F.CAL_CONV_STATUS_LATE]
  | .CAL_AGE => [F.CAL_AGE_MS]
  | .CAL_APPLIED => [F.CAL_APPLIED_BEAT]
  | .CAL_FG_CTRL => [F.CAL_FG_CTRL_START, F.CAL_FG_CTRL_ABORT]
  | .CAL_FG_STATUS => [F.CAL_FG_STATUS_STATE, F.CAL_FG_STATUS_DONE, F.CAL_FG_STATUS_FAIL, F.CAL_FG_STATUS_RESULT]
  | .FLT_CFG => [F.FLT_CFG_AUTO_RECOVER, F.FLT_CFG_MAX_RESTART, F.FLT_CFG_ALERT_LEVEL]
  | .FLT_STATUS => [F.FLT_STATUS_STATE, F.FLT_STATUS_ALERT, F.FLT_STATUS_QOVF, F.FLT_STATUS_RECOVER_REFUSED, F.FLT_STATUS_INJ_REFUSED, F.FLT_STATUS_RESTARTS, F.FLT_STATUS_PEND]
  | .FLT_CTRL => [F.FLT_CTRL_RECOVER, F.FLT_CTRL_SAFE]
  | .FLT_ACK => [F.FLT_ACK_CLASSES]
  | .FLT_INJECT => [F.FLT_INJECT_SOURCE, F.FLT_INJECT_MODE, F.FLT_INJECT_DRY, F.FLT_INJECT_GO, F.FLT_INJECT_BUSY, F.FLT_INJECT_BEATS]
  | .FLT_INJECT_IDX => [F.FLT_INJECT_IDX_INDEX]
  | .FLT_QSTATUS => [F.FLT_QSTATUS_COUNT, F.FLT_QSTATUS_PEAK]
  | .FLT_ST_WAIT => [F.FLT_ST_WAIT_MS]
  | .FLT_LOG_WP => [F.FLT_LOG_WP_NEXT]
  | .FLT_LOG_LOST => [F.FLT_LOG_LOST_COUNT]
  | .FLT_LOSS_LO => [F.FLT_LOSS_LO_BEATS]
  | .FLT_LOSS_HI => [F.FLT_LOSS_HI_BEATS]
  | .FLT_L3_COUNT => [F.FLT_L3_COUNT_COUNT]
  | .FLT_CNT_CLR => [F.FLT_CNT_CLR_LOG_LOST, F.FLT_CNT_CLR_LOSS, F.FLT_CNT_CLR_L3_COUNT, F.FLT_CNT_CLR_SOURCES]
  | .FLT_CLASS => [F.FLT_CLASS_PEND, F.FLT_CLASS_HELD, F.FLT_CLASS_FIRST_SRC, F.FLT_CLASS_LAST_SRC, F.FLT_CLASS_COUNT]
  | .FLT_CLASS_CFG => [F.FLT_CLASS_CFG_AUTO_ACK]
  | .FLT_SRC_CFG => [F.FLT_SRC_CFG_LEVEL, F.FLT_SRC_CFG_PLEVEL, F.FLT_SRC_CFG_DEFINED]
  | .FLT_SRC_COUNT => [F.FLT_SRC_COUNT_COUNT]
  | .FLT_LOG => [F.FLT_LOG_WORD]
  | .RPL_CFG => [F.RPL_CFG_EN, F.RPL_CFG_MUTE, F.RPL_CFG_DIV_STOP]
  | .RPL_CTRL => [F.RPL_CTRL_REPLAY, F.RPL_CTRL_STOP, F.RPL_CTRL_FLUSH]
  | .RPL_STATUS => [F.RPL_STATUS_STATE, F.RPL_STATUS_GAP, F.RPL_STATUS_DIVERGED, F.RPL_STATUS_REFUSED, F.RPL_STATUS_END_CAUSE]
  | .RPL_RING_BASE => [F.RPL_RING_BASE_LINE]
  | .RPL_RING_LINES => [F.RPL_RING_LINES_LINES]
  | .RPL_WP => [F.RPL_WP_OFFSET]
  | .RPL_RP => [F.RPL_RP_OFFSET]
  | .RPL_LOST => [F.RPL_LOST_COUNT]
  | .RPL_RECORDS => [F.RPL_RECORDS_COUNT]
  | .RPL_CNT_CLR => [F.RPL_CNT_CLR_CLR]
  | .RPL_DEC_EN => [F.RPL_DEC_EN_SLICES]
  | .RPL_ANCHOR_LO => [F.RPL_ANCHOR_LO_BEAT]
  | .RPL_ANCHOR_HI => [F.RPL_ANCHOR_HI_BEAT]
  | .RPL_DIV_BEAT_LO => [F.RPL_DIV_BEAT_LO_BEAT]
  | .RPL_DIV_BEAT_HI => [F.RPL_DIV_BEAT_HI_BEAT]
  | .RPL_DIV_INFO => [F.RPL_DIV_INFO_TYPE, F.RPL_DIV_INFO_SRC, F.RPL_DIV_INFO_CAUSE, F.RPL_DIV_INFO_INDEX]
  | .RPL_DIV_EXP_LO => [F.RPL_DIV_EXP_LO_DATA]
  | .RPL_DIV_EXP_HI => [F.RPL_DIV_EXP_HI_DATA]
  | .RPL_DIV_OBS_LO => [F.RPL_DIV_OBS_LO_DATA]
  | .RPL_DIV_OBS_HI => [F.RPL_DIV_OBS_HI_DATA]
  | .RPL_REPLAY_WP => [F.RPL_REPLAY_WP_OFFSET]
  | .RPL_REPLAY_RP => [F.RPL_REPLAY_RP_OFFSET]
  | .BOOT_STATUS => [F.BOOT_STATUS_PHASE, F.BOOT_STATUS_ERR, F.BOOT_STATUS_FW_SLOT, F.BOOT_STATUS_IMG_SLOT, F.BOOT_STATUS_FW_TRIAL, F.BOOT_STATUS_FW_FELLBACK, F.BOOT_STATUS_IMG_FELLBACK, F.BOOT_STATUS_QUAD, F.BOOT_STATUS_TAP_REFUSED, F.BOOT_STATUS_COMMIT_REFUSED, F.BOOT_STATUS_SET_IMG_REFUSED, F.BOOT_STATUS_KEY_REFUSED]
  | .BOOT_CTRL => [F.BOOT_CTRL_TRY_FW, F.BOOT_CTRL_CONFIRM, F.BOOT_CTRL_COMMIT_SECVER, F.BOOT_CTRL_SET_IMG, F.BOOT_CTRL_RUN_GO, F.BOOT_CTRL_FL_GO, F.BOOT_CTRL_KEY_WRITE, F.BOOT_CTRL_LOCK_KEY, F.BOOT_CTRL_REVOKE]
  | .BOOT_CFG => [F.BOOT_CFG_AUTO_JOIN, F.BOOT_CFG_BIST, F.BOOT_CFG_JOIN_TMO]
  | .BOOT_FUSES => [F.BOOT_FUSES_SECVER, F.BOOT_FUSES_VALID, F.BOOT_FUSES_LOCKED, F.BOOT_FUSES_REVOKED]
  | .BOOT_FW_VER => [F.BOOT_FW_VER_VERSION]
  | .BOOT_IDCODE => [F.BOOT_IDCODE_CODE]
  | .BOOT_KEY_PROG => [F.BOOT_KEY_PROG_INDEX, F.BOOT_KEY_PROG_SRC]
  | .BOOT_FL_OP => [F.BOOT_FL_OP_OP]
  | .BOOT_FL_ADDR => [F.BOOT_FL_ADDR_ADDR]
  | .BOOT_FL_SRC => [F.BOOT_FL_SRC_OFFSET]
  | .BOOT_FL_LEN => [F.BOOT_FL_LEN_LEN]
  | .BOOT_FL_STATUS => [F.BOOT_FL_STATUS_BUSY, F.BOOT_FL_STATUS_DONE, F.BOOT_FL_STATUS_FAIL, F.BOOT_FL_STATUS_CAUSE]
  | .BOOT_RUN_AT_LO => [F.BOOT_RUN_AT_LO_BEAT]
  | .BOOT_RUN_AT_HI => [F.BOOT_RUN_AT_HI_BEAT]
  | .BOOT_RUN_MASK => [F.BOOT_RUN_MASK_SLICES]
  | .BOOT_RUN_STATUS => [F.BOOT_RUN_STATUS_REFUSED, F.BOOT_RUN_STATUS_BAD_BEAT]
  | .MGT_CTRL => [F.MGT_CTRL_HALT, F.MGT_CTRL_RESTART, F.MGT_CTRL_SWAP]
  | .MGT_STATUS => [F.MGT_STATUS_STATE, F.MGT_STATUS_SHED, F.MGT_STATUS_SWAP_REFUSED, F.MGT_STATUS_CORES]
  | .MGT_LOAD => [F.MGT_LOAD_LOAD, F.MGT_LOAD_PEAK]
  | .MGT_LOAD_CFG => [F.MGT_LOAD_CFG_HIGH, F.MGT_LOAD_CFG_LOW]
  | .MGT_WDOG_KICK => [F.MGT_WDOG_KICK_CORE]
  | .MGT_RESTARTS => [F.MGT_RESTARTS_COUNT]
  | .MGT_SWAPS => [F.MGT_SWAPS_COUNT]
  | .MGT_CNT_CLR => [F.MGT_CNT_CLR_CLR]

end Sys2Proof.Machine
end

