-- ==== Sys2Proof/Machine/Types.lean ====
section
/-!
DEFINITION. The parts of the state that stand beside the registers, unit by unit: the stores, the sequencers, the
streamers, the RF units, the fabric, the host ports and the central units. All of it is plain data.
-/

namespace Sys2Proof.Machine

/-- A register instance: its name and its indices (the slice number first for a slice register). -/
structure RegKey where
  reg : Reg
  i : Nat
  j : Nat
  k : Nat
  l : Nat
deriving DecidableEq, Repr

/-- The order of register instances: by name, then index by index. -/
def RegKey.lt (a b : RegKey) : Bool :=
  if a.reg.ctorIdx = b.reg.ctorIdx then
    if a.i = b.i then if a.j = b.j then if a.k = b.k then decide (a.l < b.l) else decide (a.k < b.k) else decide (a.j < b.j)
    else decide (a.i < b.i)
  else decide (a.reg.ctorIdx < b.reg.ctorIdx)

/-! ### Stores (The Beat, the Slot Wheel and the Slice Stores) -/

/-- A request that waits at a store's port (R43, R51, R53), with the core cycle since which it waits, and whether the read of its
read-modify-write has been made (R37). -/
structure WaitingReq where
  req : StoreReq
  since : Nat
  started : Bool
deriving DecidableEq, Repr

/-- A store: its bytes, the errors its check bits hold, its scrubber, its port and its power transition. -/
structure Store where
  /-- The bytes in canonical form: rising addresses, no entry for a byte that reads 0. -/
  bytes : List Host.Cell
  /-- The 64-bit words (by number) that hold a single-bit error (R35). -/
  single : List Nat
  /-- The 64-bit words that hold a double-bit error (R36). -/
  double : List Nat
  /-- Lines queued for rewrite by the scrubber (R35). -/
  rewrite : List Nat
  /-- The scrubber's next line and the tick at which its present interval began (R38). -/
  scrubLine : Nat
  scrubDue : Nat
  /-- Core cycles of the present beat already used, 0 to 4 (R34). -/
  cycle : Nat
  waiting : List WaitingReq
  /-- Requesters with a request pending at the beat boundary, and those served since (R39, R44). -/
  pendAt : List Requester
  served : List Requester
  /-- Who the central store's round robin serves next (R39). -/
  turn : Nat
  /-- The line the port last delivered to an unscheduled requester, and its poisoned words (0 to 15). -/
  out : List Byte
  outPoison : List Nat
  /-- The power state a transition in progress leads to, and the tick at which it may end; `none` while the wake waits
  for power admission (R57, R58). -/
  pwrTarget : Nat
  pwrDue : Option Nat
deriving DecidableEq, Repr

/-- A store after power-on: nothing listed, nothing in progress. -/
def Store.initial : Store :=
  { bytes := [], single := [], double := [], rewrite := [], scrubLine := 0, scrubDue := 0, cycle := 0, waiting := [],
    pendAt := [], served := [], turn := 0, out := [], outPoison := [], pwrTarget := 0, pwrDue := none }

/-- The slot wheel of a slice beside its registers: the active map and the ticks its requests fall due (R45, R50, R52). -/
structure Wheel where
  /-- The owner code of each of the 64 slots (R41). -/
  map : Vector (BitVec 4) 64
  startAt : Nat
  stopAt : Nat
  copyAt : Nat
  /-- Per conflict counter, the tick plus one of the last beat it counted (R44). -/
  counted : Vector Nat 7
deriving DecidableEq, Repr

/-- A wheel that owns no slot. -/
def Wheel.initial : Wheel := { map := Vector.replicate 64 0, startAt := 0, stopAt := 0, copyAt := 0, counted := Vector.replicate 7 0 }

/-! ### The slice sequencer (Slice Sequencer Programming) -/

/-- An entry of the loop stack (R125). -/
structure LoopEntry where
  start : Nat
  endIndex : Nat
  remaining : Nat
deriving DecidableEq, Repr

/-- An event on its way to a unit (R115, R116). -/
structure SeqEvent where
  due : Nat
  unit : BitVec 7
  act : BitVec 3
  data : BitVec 26
deriving DecidableEq, Repr

/-- A line of the fetch buffer as it was fetched (R111 to R114): its words that came poisoned, the tick of its fetch and
the tick at which an instruction last issued from it. -/
structure FetchLine where
  line : Nat
  data : List Byte
  poison : List Nat
  fetched : Nat
  used : Nat
deriving DecidableEq, Repr

/-- The instruction that waits or blocks, with its index, the tick at which it issued and, for a wait, the tick at which
the next instruction issues. `hit` is the code a CMPR took from its result and the tick it entered the queue, or the
release a barrier SYNC met. -/
structure PendingInstr where
  instr : SeqInstr
  index : Nat
  issued : Nat
  due : Nat
  hit : Option (Nat × Nat)
deriving DecidableEq, Repr

/-- The slice sequencer beside its registers. -/
structure Sequencer where
  pend : Option PendingInstr
  /-- Step 5 of R105 is done in this beat. -/
  acted : Bool
  /-- An accepted RUN or STEP waits for its first issue at `startAt` (R147, R149). -/
  starting : Bool
  startAt : Nat
  /-- The instruction was started by STEP (R149). -/
  stepping : Bool
  loops : List LoopEntry
  calls : List Nat
  events : List SeqEvent
  fetch : List FetchLine
  /-- The targets named by the instruction that is pending or just issued (R111). -/
  named : List Nat
  /-- The copies of verdicts V000 to V1023 (keys 0 to 1023) and of imports 0 to 255 (keys 1024 to 1279) (R129). -/
  copies : NMap
deriving DecidableEq, Repr

/-- A sequencer after reset. -/
def Sequencer.initial : Sequencer :=
  { pend := none, acted := false, starting := false, startAt := 0, stepping := false, loops := [], calls := [],
    events := [], fetch := [], named := [], copies := [] }

/-! ### The fault collector (Fault Collection, Reaction and Availability) -/

/-- A report on its way to the collector (R637, R638, R653). -/
structure FaultReport where
  pair : FaultPair
  injected : Bool
  dry : Bool
deriving DecidableEq, Repr

/-- A self-test queued or running (R648 to R651): the log record it belongs to, since when it is the oldest of its place,
when it started, whether it belongs to the present episode, the level its report was applied at, and whether a master wrote the line
of a MARCH since its start. A log position of 256 says that the record has been overwritten. -/
structure SelfTest where
  log : Nat
  pair : FaultPair
  level : Nat
  oldest : Option Nat
  started : Option Nat
  episode : Bool
  overwritten : Bool
deriving DecidableEq, Repr

/-- An injection that waits for the next check of its instance (R652). -/
structure Injection where
  src : Nat
  index : Nat
  mode : Nat
  dry : Bool
  until_ : Nat
deriving DecidableEq, Repr

/-- The fault collector beside its registers. -/
structure Collector where
  /-- Faults detected and not yet acted on, in order of detection. -/
  raised : List FaultReport
  /-- Pairs that stand at (1,0), and pairs that stand at a broken code (R637, R638). -/
  inFault : List FaultPair
  broken : List FaultPair
  tests : List SelfTest
  inject : Option Injection
  /-- The slices an episode's results hold (R655, R657). -/
  held : BitVec 16
  /-- An episode's result counted as PERSISTENT at device scope (R654). -/
  devicePersistent : Bool
  /-- RECOVER has been applied in SAFE (R654). -/
  recoverAsked : Bool
  /-- Ports held out of service by containment, with the class that holds each: 0 and 1 the host ports, 2 to 5 the fabric ports (R641,
  R646). -/
  portHeld : List (Nat × Nat)
deriving DecidableEq, Repr

def Collector.initial : Collector :=
  { raised := [], inFault := [], broken := [], tests := [], inject := none, held := 0,
    devicePersistent := false, recoverAsked := false, portHeld := [] }

/-! ### Events (R518 to R521) -/

/-- An event record (R518). -/
structure EventRecord where
  code : Nat
  src : Nat
  index : Nat
  beat : Nat
  data : Nat
deriving DecidableEq, Repr

/-- The event queue beside its registers: the records, those lost since the last LOST record entered, and words 1 to 3 of
the record that EVT_RD0 last took (R520, R533). -/
structure EventQueue where
  queue : List EventRecord
  lost : Nat
deriving DecidableEq, Repr

def EventQueue.initial : EventQueue := { queue := [], lost := 0 }

/-! ### The replay journal (Replay Journal and Field Investigation) -/

/-- A journal record (R665). -/
structure JRecord where
  type : Nat
  src : Nat
  index : Nat
  beat : Nat
  data : Nat
deriving DecidableEq, Repr

/-- An open STORE_WRITE run of a slice and path (R667): its first line, its lines, and the tick of its last line. -/
structure StoreRun where
  slice : Fin 16
  path : Nat
  first : Nat
  lines : Nat
  last : Nat
deriving DecidableEq, Repr

/-- An open WP_ADV record of a slice (R666, R667): the beat of its first advance, the tick of its last and its bytes. -/
structure AdvanceRun where
  slice : Fin 16
  beat : Nat
  last : Nat
  bytes : List Nat
deriving DecidableEq, Repr

/-- A CAL_SWITCH of the journal that waits for its CAL_WORDS records (R666): the converter, the SRC, the number of word pairs, and the pairs
that have come. -/
structure SwitchInput where
  conv : Nat
  src : Nat
  pairs : Nat
  words : List (Nat × Nat)
deriving DecidableEq, Repr

/-- The journal beside its registers. -/
structure Journal where
  /-- Records made in the present beat. -/
  fresh : List JRecord
  /-- Records in the writer's buffer, and the tick at which the first record of the partial line came (R669). -/
  buffer : List JRecord
  partialSince : Nat
  /-- Records lost since the last GAP record, and the beat of the first of them (R670). -/
  lost : Nat
  lostBeat : Nat
  /-- The next record needs a SYNC before it (R666). -/
  needSync : Bool
  runs : List StoreRun
  advances : List AdvanceRun
  /-- The tick of the wheel boundary W of an accepted REPLAY (R673). -/
  replayAt : Option Nat
  /-- Check records of the journal that the present beat of the replay must produce (R678). -/
  expected : List JRecord
  /-- The fabric export and the trigger bus are suppressed, and inputs come from the journal (R673, R675). -/
  replaying : Bool
  /-- STORE_WRITE runs that the replay itself closed and that no journal record has been compared with yet (R678). -/
  closed : List JRecord
  /-- The full beat of the last record read, and the beat before which records are skipped (R674). -/
  lastBeat : Nat
  skipTo : Nat
  /-- Ring advances of WP_ADV records still to come: tick, slice and lines (R666, R675). -/
  advancing : List (Nat × Fin 16 × Nat)
  switching : List SwitchInput
deriving DecidableEq, Repr

def Journal.initial : Journal :=
  { fresh := [], buffer := [], partialSince := 0, lost := 0, lostBeat := 0, needSync := false, runs := [], advances := [],
    replayAt := none, expected := [], replaying := false, closed := [], lastBeat := 0, skipTo := 0,
    advancing := [], switching := [] }

/-! ### Power admission and domains (Power Domains, Admission and Line Energy Governors) -/

/-- A requester of power admission: its class and its index within the class (R593). -/
structure PwrRequester where
  cls : Nat
  index : Nat
deriving DecidableEq, Repr

/-- Admission and the domains beside their registers. -/
structure Power where
  /-- Waiting requests in order of arrival, with the tick of arrival (R595). -/
  queue : List (PwrRequester × Nat)
  /-- Granted requests with the cost each holds (R594). -/
  granted : List (PwrRequester × Nat)
  /-- Costs granted and the tick of each grant, for the ramp sum (R595). -/
  ramp : List (Nat × Nat)
  /-- The tick at which each domain's present transition may end: the drain timeout, the OFF or the ON (R588 to R590). -/
  due : Vector Nat 39
  /-- A domain's drain has ended and its power is going (R589). -/
  falling : BitVec 39
  /-- A domain's drain has run into its timeout (R588). -/
  timedOut : BitVec 39
  /-- The tick plus one of the last evaluation of the queue (R595). -/
  evalAt : Nat
deriving DecidableEq, Repr

def Power.initial : Power :=
  { queue := [], granted := [], ramp := [], due := Vector.replicate 39 0, falling := 0, timedOut := 0, evalAt := 0 }

/-! ### The verdict crossbar (Verdicts, Due Beats and Closed-Loop Feedback) -/

/-- A verdict on its way into the crossbar: its number and value, the tick at which it is ready (R318), and whether its
readout channel was muted by GOV or FLT in its window (R338). -/
structure ReadyVerdict where
  v : Nat
  value : Nat
  at_ : Nat
  muted : Bool
deriving DecidableEq, Repr

/-- A verdict, or an import where `imported` is set, in flight to the slices whose bits are set, due at a tick (R321,
R327). -/
structure VerdictFlight where
  v : Nat
  imported : Bool
  value : Nat
  due : Nat
  slices : BitVec 16
deriving DecidableEq, Repr

/-- A verdict message in the holding store, with the tick at which it acts (R326). -/
structure HeldMessage where
  word : DWord
  due : Nat
deriving DecidableEq, Repr

/-- A hold of a verdict's inputs or of an import (R333 to R336): the tick of its onset, the tick of its end once that is
known, and whether it has begun. -/
structure VerdictHold where
  input : SeqInput
  onset : Nat
  until_ : Option Nat
  active : Bool
deriving DecidableEq, Repr

/-- The crossbar beside its registers. `uPrev` holds, per verdict number, the tick of its last due beat plus one. -/
structure Crossbar where
  ready : List ReadyVerdict
  flight : List VerdictFlight
  uPrev : NMap
  held : List HeldMessage
  holds : List VerdictHold
deriving DecidableEq, Repr

def Crossbar.initial : Crossbar := { ready := [], flight := [], uPrev := [], held := [], holds := [] }

/-! ### The Keatu fabric (Keatu Fabric: Links, Discovery, Addressing and Routing) -/

/-- A port of the fabric beside its registers. -/
structure KtlPort where
  /-- The express queue (R325, R472), oldest first. -/
  express : List DWord
  /-- Payload flits that wait, per channel (R469): control, maintenance, bulk. -/
  control : List KtlPayload
  maint : List KtlPayload
  bulk : List KtlPayload
  /-- Credits this port holds for the neighbour's buffers, per channel (R469). -/
  creditControl : Nat
  creditMaint : Nat
  creditBulk : Nat
  /-- Buffer flits freed here and not yet returned, per channel. -/
  freedControl : Nat
  freedMaint : Nat
  freedBulk : Nat
  /-- Flits sent since the last bulk flit while bulk waits (R470). -/
  sinceBulk : Nat
  /-- The last 64 payload flits with their SEQ, for replay, and how many of the newest are to be sent again (R468). -/
  kept : List (Nat × KtlPayload)
  resend : Nat
  /-- Replays of the same payload flit in a row (R464). -/
  replaysInRow : Nat
  /-- The next SEQ to send, the last SEQ received correctly, and a NAK to send (R466, R468). -/
  txSeq : Nat
  rxSeq : Nat
  nak : Bool
  /-- Uncorrectable flits in a row (R464). -/
  badInRow : Nat
  /-- The flit last put on the lanes. -/
  sent : Option KtlFlit
  /-- Parts of packets received so far, per channel (R470). -/
  rxControl : List Byte
  rxBulk : List Byte
  /-- The tick at which the port entered its present state, and since when it is UP without MAINT_ONLY. -/
  since : Nat
  upSince : Nat
  /-- Training: what each physical lane carries (R461, R462). -/
  lane0 : Option TrainBlock
  lane1 : Option TrainBlock
deriving DecidableEq, Repr

def KtlPort.initial : KtlPort :=
  { express := [], control := [], maint := [], bulk := [], creditControl := 32, creditMaint := 16, creditBulk := 64,
    freedControl := 0, freedMaint := 0, freedBulk := 0, sinceBulk := 0, kept := [], resend := 0, replaysInRow := 0,
    txSeq := 0, rxSeq := 0, nak := false, badInRow := 0, sent := none, rxControl := [], rxBulk := [], since := 0,
    upSince := 0, lane0 := none, lane1 := none }

/-- A RELEASE or ABORT that a device holds for a barrier: its release tick, whether its members time out, and whether it
came after its U (R490, R491). -/
structure BarrierHold where
  bar : Nat
  due : Nat
  abort : Bool
  late : Bool
deriving DecidableEq, Repr

/-- The fabric router beside its registers. -/
structure Fabric where
  ports : Vector KtlPort 4
  /-- The topology in force and the one in the shadow with the tick of its commit beat (R481). -/
  topo : Topology
  shadow : Option (Topology × Nat)
  /-- Links marked down by notices, as device and port (R473), and those marked before the topology in the shadow came. -/
  down : List (Nat × Nat)
  shadowMarks : List (Nat × Nat)
  /-- The last notice SEQ taken from each device plus one, and the device's own notice count (R473). -/
  noticeSeen : NMap
  noticeSeq : Nat
  /-- Discovery at this device: the parent port, and the reports the root has collected (R479, R480). -/
  parent : Nat
  reports : List DiscReport
  /-- JOIN is asked for and not yet sent (R493). -/
  joinWanted : Bool
  /-- Words and packets received and not yet acted on. -/
  inWords : List (Nat × DWord)
  inPackets : List (Nat × KtlPacket)
  inMaint : List (Nat × MaintMsg)
  barriers : List BarrierHold
deriving DecidableEq, Repr

def Fabric.initial : Fabric :=
  { ports := Vector.replicate 4 KtlPort.initial, topo := { members := [], links := [], commit := 0 }, shadow := none, down := [], shadowMarks := [],
    noticeSeen := [], noticeSeq := 0, parent := 7, reports := [], joinWanted := false, inWords := [], inPackets := [],
    inMaint := [], barriers := [] }

/-! ### The host ports (Host Ports, Transport and the Address Map) -/

/-- A request or an EVENT packet that a port holds in order of arrival (R511, R513). -/
structure CtpJob where
  /-- TYPE of the request (R505); 8 for an EVENT packet. -/
  kind : Nat
  tag : Nat
  /-- The device it goes to, none for this one. -/
  dev : Option Nat
  addr : Nat
  len : Nat
  fixed : Bool
  /-- Write data received so far, and whether all of it is here. -/
  data : List Byte
  complete : Bool
  /-- The request has been executed; its status is known (R513, R514). -/
  executed : Bool
  status : Nat
  info : Nat
  /-- Data of the completion that has been taken, and the bytes of it that have been sent. -/
  reply : List Byte
  sent : Nat
  /-- A tunnelled request: its fabric packets not yet sent, those whose completion is missing, as (offset, bytes), and the tick
  of the last sending (R516, R517). -/
  unsent : List (Nat × Nat)
  missing : List (Nat × Nat)
  askedAt : Nat
  started : Bool
  /-- Receive units that the request holds (R510). -/
  units : Nat
  /-- The CODE of a SERVICE command, and the slices whose foreground run it waits for (R700). -/
  service : Nat
  slices : List (Fin 16)
deriving DecidableEq, Repr

/-- A packet that is kept until it is acknowledged, with the tick of its last sending (R508). -/
structure KeptPacket where
  packet : CtpPacket
  at_ : Nat
deriving DecidableEq, Repr

/-- A host port beside its registers. -/
structure HostPort where
  /-- Packets accepted by the frame filter and not yet taken by the transport. -/
  inbox : List CtpPacket
  peer : Peer
  /-- The UDP port that the session was opened on (R532). -/
  udp : Nat
  /-- The last PSN accepted and the last one sent (R507). -/
  rxPsn : Nat
  txPsn : Nat
  /-- Units received, units freed again, units sent, and the host's limit (R510). -/
  rxUnits : Nat
  freed : Nat
  used : Nat
  limit : Nat
  jobs : List CtpJob
  /-- Outstanding tags (R509). -/
  tags : List Nat
  kept : List KeptPacket
  /-- Resends of the oldest kept packet without progress (R508). -/
  retries : Nat
  /-- Since when a received packet waits for something to be sent (R507). -/
  ackSince : Option Nat
  /-- The packets last sent. -/
  out : List CtpPacket
  /-- The last query that the port answered in hardware (R500). -/
  answered : Option IpAddr
deriving DecidableEq, Repr

def HostPort.initial : HostPort :=
  { inbox := [], peer := { ip := .v4 0, port := 0 }, udp := 0, rxPsn := 0, txPsn := 0, rxUnits := 0, freed := 0, used := 0, limit := 0,
    jobs := [], tags := [], kept := [], retries := 0, ackSince := none, out := [], answered := none }

/-- The time of day (R522 to R524). -/
structure TimeOfDay where
  /-- The time in units of 2^−30 ns. -/
  time : Nat
  /-- The staged seconds and nanoseconds. -/
  stagedSec : Nat
  stagedNs : Nat
  /-- The stamp of the last PTP event message in ns. -/
  stamp : Nat
  /-- The time of day has been set (R629). -/
  set : Bool
deriving DecidableEq, Repr

def TimeOfDay.initial : TimeOfDay := { time := 0, stagedSec := 0, stagedNs := 0, stamp := 0, set := false }

/-! ### Vectors, timing sets and fail capture -/

/-- What a pin's driver does: enabled, its data level, when its last drive edge and its last strobe stood (0.25 ps units),
and the state code of the last vector (R159, R161, R166). -/
structure PinDrive where
  enabled : Bool
  level : Bool
  lastDrive : Nat
  lastStrobe : Nat
  prev : Nat
deriving DecidableEq, Repr

/-- An event of the streamer or of fail capture (R118). -/
inductive StreamAction where
  | start (addr : Nat)
  | brk
  | halt (host : Bool)
  | openWindow (w : Nat)
  | closeWindow (w : Nat)
  | mark (data : Nat)
deriving DecidableEq, Repr

/-- A summary window that is open (R193 to R195). -/
structure Window where
  index : Nat
  pins : BitVec 32
  failed : BitVec 32
  compared : BitVec 32
  incomplete : BitVec 32
  /-- The tick of the last member strobe plus one; 0 for none. -/
  strobe : Nat
deriving DecidableEq, Repr

/-- Pin summary verdicts on their way (R195, R196). -/
structure Summary where
  at_ : Nat
  pins : BitVec 32
  failed : BitVec 32
  incomplete : BitVec 32
deriving DecidableEq, Repr

/-- The vector that is being applied: its operation, how often it has been applied, and for a MATCH the iteration found to
match: the time from which it is known and its index (R171, R175). -/
structure VectorRun where
  addr : Nat
  vop : Nat
  arg : Nat
  applied : Nat
  found : Option (Nat × Nat)
  /-- The pins compared and the failing pins of the last iteration, the beats of its strobes by pin, and whether it may be recorded and be a
  window member. -/
  lastCompared : BitVec 32
  lastFailed : BitVec 32
  lastStrobes : List Nat
  lastRecord : Bool
  lastMember : Bool
deriving DecidableEq, Repr

/-- The vector streamer with its windows and its capture buffer. -/
structure Streamer where
  /-- The start of the next vector, in 0.25 ps units (R165). -/
  next : Nat
  run : Option VectorRun
  loops : List (Nat × Nat)
  /-- Events that wait for an acting boundary, with the tick from which they may act (R169). -/
  waiting : List (Nat × StreamAction)
  /-- The line buffer: line, contents, poisoned words, tick of the fetch (R176). -/
  buffer : List FetchLine
  /-- The timing set of the last vector applied (R198). -/
  lastSet : Nat
  pins : Vector PinDrive 32
  windows : List Window
  summaries : List Summary
  /-- The capture buffer: records with the byte offset each will be written at (R189, R191). -/
  capture : List (Nat × List Byte)
  /-- Records lost since the last OVERFLOW marker, and the index of the first (R190, R191). -/
  captureLost : Nat
  captureLostIndex : Nat
deriving DecidableEq, Repr

def PinDrive.initial : PinDrive := { enabled := false, level := false, lastDrive := 0, lastStrobe := 0, prev := 2 }

def Streamer.initial : Streamer :=
  { next := 0, run := none, loops := [], waiting := [], buffer := [], lastSet := 0,
    pins := Vector.replicate 32 PinDrive.initial, windows := [], summaries := [], capture := [], captureLost := 0,
    captureLostIndex := 0 }

/-! ### Pin electronics -/

/-- A contact check that runs: its settings as they stood at the start, its readings, and the pins whose guard governor
tripped meanwhile (R228 to R231). -/
structure ContactCheck where
  start : Nat
  settle : Nat
  force : Nat
  shortV : Nat
  supplyI : Nat
  mask : BitVec 32
  limits : List (Int × Int)
  readings : List PinReading
  tripped : BitVec 32
  /-- Steps whose results are written: 1 for the supply step, then one per pin. -/
  done : Nat
deriving DecidableEq, Repr

/-- The pins of a slice beside their registers. -/
structure PinUnit where
  check : Option ContactCheck
  /-- The tick at which the pins a check released leave the guard, and those pins (R231). -/
  release : Option (Nat × BitVec 32)
  /-- The tick at which a measure unit's forced zero ends, per pin (R217). -/
  pmuZero : List (Nat × Nat)
  /-- The tick of the guard's debounce end, while GUARD_IN is low and the assertion lasts (R224). -/
  debounceEnd : Option Nat
deriving DecidableEq, Repr

def PinUnit.initial : PinUnit := { check := none, release := none, pmuZero := [], debounceEnd := none }

/-! ### Flux and force outputs -/

/-- The lasting part of an FF channel's state (R346). -/
inductive FfBase where
  | hiz
  | active
  | changing
deriving DecidableEq, Repr

/-- Where a change sequence leads: a setting, high impedance, or the guard (R353, R355, R357). -/
inductive FfGoal where
  | setting (s : Nat)
  | hiz
  | guarded
deriving DecidableEq, Repr

/-- A change sequence: the tick Z of its step 1 (or, with `from3`, of its step 3), its ramp and its first code (R353).
`opened` says that an HIZ event cut step 3: the switch opens from Z. -/
structure FfSequence where
  z : Nat
  ramp : Nat
  c0 : Int
  from3 : Bool
  opened : Bool
  goal : FfGoal
deriving DecidableEq, Repr

/-- A short check: its first boundary P, the conversion that the converter now makes, and the errors of the conversions
taken, newest first (R359, R360, R376). -/
structure FfCheck where
  p : Nat
  converting : Option Nat
  errors : List Nat
deriving DecidableEq, Repr

/-- An FF channel beside its registers. -/
structure FfChannel where
  base : FfBase
  off : Bool
  guarded : Bool
  /-- The guard has been released while its ramp or opening still runs (R226). -/
  releasing : Bool
  drained : Bool
  seq : Option FfSequence
  /-- The output code now in force (R344). -/
  code : Int
  /-- The code before the first change of this beat, and the changes of this beat by sample (R350, R351). -/
  beatCode : Int
  changes : List (Nat × Int)
  /-- The CODE events applied in this beat, in their order: code and sample (R339). -/
  events : List (Int × Nat)
  /-- The deferred code and its sample (R339). -/
  deferred : Option (Int × Nat)
  kelvin : Bool
  check : Option FfCheck
  /-- The sums of the squares of the estimated line current over the samples of a beat, in units of (2^−15 µA)², for the beats of the last
  1 ms whose sum is not zero, by tick, newest first (R603). -/
  energy : List (Nat × Nat)
deriving DecidableEq, Repr

def FfChannel.initial : FfChannel :=
  { base := .hiz, off := false, guarded := true, releasing := false, drained := false, seq := none, code := 0, beatCode := 0,
    changes := [], events := [], deferred := none, kelvin := false, check := none, energy := [] }

/-! ### The slice measure converter -/

/-- A sequence that runs: the step in progress with what its conversions gave so far, and the repetition (R368, R370). -/
structure MadRun where
  seq : Nat
  step : Nat
  rep : Nat
  repStart : Nat
  /-- The last result of the previous repetition entered its queue; the next repetition waits for its GAP. -/
  waiting : Bool
  conversions : Nat
  sum : Int
  ovr : Bool
  invalid : Bool
  /-- The beat count of the first sample of the step (R368). -/
  sampleBeat : Nat
  /-- ENABLE was cleared: the run ends with the conversion in progress (R389). -/
  ending : Bool
deriving DecidableEq, Repr

/-- A system calibration run (R386). -/
structure MadSysCal where
  start : Nat
  input : Nat
  set : Nat
  full : Bool
deriving DecidableEq, Repr

/-- The measure converter of a slice beside its registers. -/
structure MeasureAdc where
  run : Option MadRun
  /-- The conversion slot in progress: its start and its length (R367), and what its sample found. -/
  slot : Option (Nat × Nat)
  sampleInvalid : Option Bool
  /-- The tick until which a short-check conversion holds the converter, and its channel (R376). -/
  checkUntil : Nat
  queue : List (BitVec 64)
  /-- What a read of MAD_RES_LO captured: the high word, and whether the queue was empty (R380). -/
  captured : Option (Word × Bool)
  shadow : Vector (BitVec 18) 10
  applyPending : Bool
  /-- The tick at which an APPLYF last put the factors in force (R384, R620). -/
  applyfAt : Option Nat
  /-- A self-calibration: accepted, and the tick of its grant (R382). -/
  selfcal : Bool
  selfcalStart : Option Nat
  syscal : Option MadSysCal
  /-- The staged zero: its SET and value (R386). -/
  zero : Option (Nat × Int)
deriving DecidableEq, Repr

def MeasureAdc.initial : MeasureAdc :=
  { run := none, slot := none, sampleInvalid := none, checkUntil := 0, queue := [], captured := none,
    shadow := Vector.replicate 10 0, applyPending := false, applyfAt := none, selfcal := false, selfcalStart := none, syscal := none, zero := none }

/-! ### The clock chain and the trigger bus (Clock Chain, EPOCH and the Trigger Bus) -/

/-- The clock chain beside its registers. -/
structure Chain where
  /-- How far the grid has been moved, and how far it still slews, in units of 0.1 ps (R434). -/
  grid : Int
  slew : Int
  /-- TURN and UPOK of the last good frame, frames lost in a row, and a report that is to be matched with this arrival
  (R431, R433). -/
  rxTurn : Nat
  rxUpok : Bool
  lost : Nat
  arrival : Option Int
  /-- The average in progress (R433): sums of A and R and the number of turns. -/
  sumA : Int
  sumR : Int
  turns : Nat
  /-- The last average lay within 2 ps. -/
  near : Bool
  /-- ACQUIRE has stepped the grid and waits for a COUNT sequence; HOLDOVER is being left (R434, R438). -/
  stepped : Bool
  leaving : Bool
  /-- A COUNT sequence in reception: the tick of its first W, the parts received, the count so far (R430). -/
  rxCount : Option (Nat × Nat × Nat)
  /-- Parts of an EPOCH and of a TRGCAL command in reception. -/
  epochLow : Option Nat
  epochHigh : Option Nat
  calLow : Option Nat
  calHigh : Option Nat
  /-- The EPOCH beat E that the device holds, and the tick of the calibration beat S (R441, R452). -/
  epoch : Option Nat
  calAt : Option Nat
  /-- This device calibrates its positions (R452). -/
  calibrating : Bool
  /-- Sending: the turn, the part of a COUNT sequence and its count, the part of an alternating command (R429, R430). -/
  txTurn : Nat
  txPart : Nat
  txCount : Nat
  txAlt : Nat
  /-- The report for the next frame (R432), the last frame sent, and the tick plus one of the last return pulse. -/
  report : Option Nat
  out : BitVec 64
  retPulse : Nat
deriving DecidableEq, Repr

def Chain.initial : Chain :=
  { grid := 0, slew := 0, rxTurn := 0, rxUpok := false, lost := 0, arrival := none, sumA := 0, sumR := 0, turns := 0, near := false,
    stepped := false, leaving := false, rxCount := none, epochLow := none, epochHigh := none, calLow := none, calHigh := none,
    epoch := none, calAt := none, calibrating := false, txTurn := 0, txPart := 0, txCount := 0, txAlt := 0, report := none, out := 0,
    retPulse := 0 }

/-- A transition of a trigger line that is kept until it acts (R448): line, stamp and bus time in ps, new level. -/
structure TrgTransition where
  line : Nat
  stamp : Int
  b : Int
  level : Bool
deriving DecidableEq, Repr

/-- The trigger bus beside its registers. -/
structure TriggerBus where
  /-- Per line, the tick plus one of the last rising and of the last falling edge that took effect (R448). -/
  lastRise : NMap
  lastFall : NMap
  /-- The level of each line at the last boundary whose edges took effect. -/
  level : BitVec 8
  pending : List TrgTransition
  /-- The last stamp of each line in ps. -/
  stamps : List (Nat × Int)
  /-- What this device drives on the lines (R446). -/
  driven : BitVec 8
deriving DecidableEq, Repr

def TriggerBus.initial : TriggerBus := { lastRise := [], lastFall := [], level := 0, pending := [], stamps := [], driven := 0 }

/-! ### Direct-RF synthesis: tones, lists, phase tracks and markers -/

/-- The phase of a tone from a sample on (R244): bound to a track, or free from an accumulator with a word. -/
structure PhaseSeg where
  sample : Nat
  track : Option Nat
  acc : Nat
  ftw : Nat
deriving DecidableEq, Repr

/-- The envelope points of a segment or of a ramp-down (R251, R257): from granule `start` for `len` granules, SHAPE 0 HOLD,
1 RAMP, 2 HERMITE. -/
structure EnvPiece where
  start : Nat
  len : Nat
  shape : Nat
  a0 : Int
  s0 : Int
  a1 : Int
  s1 : Int
deriving DecidableEq, Repr

/-- What follows the segment or ramp-down in progress (R253, R256). -/
inductive ToneNext where
  | hold
  | idle
  | segment (i : Nat)
deriving DecidableEq, Repr

/-- A marker action that waits for its sample (R269); `spanOf` is the sample of the start that it ends. -/
structure MarkAct where
  sample : Nat
  marker : Nat
  level : Bool
  spanOf : Option Nat
deriving DecidableEq, Repr

/-- A tone beside its registers. The histories stand newest first and reach back to the last beat. -/
structure Tone where
  phase : List PhaseSeg
  /-- The track last bound (TON_STATUS.TRACK). -/
  lastTrack : Nat
  /-- POFF from a sample on (R245). -/
  poff : List (Nat × Nat)
  pieces : List EnvPiece
  /-- The granule of the next natural boundary, and what follows there (R253). -/
  ends : Option Nat
  next : ToneNext
  /-- The end granule and the SLOPE of the last HERMITE segment, for the next segment's start slope (R251). -/
  slope : Option (Nat × Int)
  marks : List MarkAct
  /-- Lines fetched in playing order, and the lines that entries pin (R260 to R262). -/
  buffer : List FetchLine
  pinned : List FetchLine
deriving DecidableEq, Repr

def Tone.initial : Tone :=
  { phase := [{ sample := 0, track := some 0, acc := 0, ftw := 0 }], lastTrack := 0, poff := [(0, 0)], pieces := [],
    ends := none, next := .hold, slope := none, marks := [], buffer := [], pinned := [] }

/-- A phase track: its accumulator at a sample (R242), and whether a rebase put it there (R243). Its word is in
TXC_TRK_FTW. -/
structure TrackRef where
  sample : Nat
  acc : Nat
  rebased : Bool
deriving DecidableEq, Repr

/-- A TX channel beside its registers. -/
structure TxChannel where
  /-- The tick at which a granted channel is ON (R272). -/
  wakeAt : Nat
  /-- MUTED as it stood in the last beat (R274, R279). -/
  mutedBefore : Bool
  tracks : Vector TrackRef 32
  /-- The level that HIGH or LOW forced each marker to (R270). -/
  markLevel : Vector Bool 2
  /-- Every code of the last beat was zero after muting (R616). -/
  quiet : Bool
  /-- The beat energies of the last 250,000 beats that are not zero, by tick, newest first (R601). -/
  energy : List (Nat × Nat)
  /-- The energy of the current 1 ms block and of the 999 blocks before it (R601). -/
  block : Nat
  blocks : List Nat
deriving DecidableEq, Repr

def TxChannel.initial : TxChannel :=
  { wakeAt := 0, mutedBefore := false, tracks := Vector.replicate 32 { sample := 0, acc := 0, rebased := false },
    markLevel := Vector.replicate 2 false, quiet := true, energy := [], block := 0, blocks := [] }

/-! ### RF receive: bins, discriminators and acquisition -/

/-- A window of a bin (R288): what it latched, its ticks, and what its beats have shown so far. `beat` is the beat number of
its opening, `dead` the ticks in which the channel was not ON, `muted` the TX channels of the slice whose GOV or FLT cause was
set in one of its beats (R338). -/
structure BinWindow where
  start : Nat
  beat : Nat
  m0 : Nat
  ends : Nat
  endBeat : Nat
  wsel : Nat
  base : Nat
  len : Nat
  ftw : Nat
  poff : Nat
  shift : Nat
  invalid : Bool
  dead : List Nat
  muted : BitVec 4
  /-- The beat E of an EPOCH applied since the opening: samples from there on have new numbers (R442). -/
  epoch : Option Nat
deriving DecidableEq, Repr

/-- A result on its way (R294, R298): the lines of its discriminators as they stood in its end beat, and the codes they gave. -/
structure BinResult where
  ends : Nat
  endBeat : Nat
  i : Int
  q : Int
  ovr : Bool
  sat : Bool
  invalid : Bool
  wsel : Nat
  muted : BitVec 4
  /-- Discriminator and, for both lines, A, B and C. -/
  lines : List (Nat × List (Int × Int × Int))
  codes : Option (List (Nat × Nat))
deriving DecidableEq, Repr

/-- A bin beside its registers. -/
structure Bin where
  windows : List BinWindow
  results : List BinResult
  /-- Writes to the weight RAM that are held: word and value (R293). -/
  held : List (Nat × Word)
deriving DecidableEq, Repr

def Bin.initial : Bin := { windows := [], results := [], held := [] }

/-- An RX channel beside its registers. -/
structure RxChannel where
  /-- The tick at which a granted channel is ON (R284), and the tick at which the settling samples end (R282). -/
  wakeAt : Nat
  settleAt : Nat
deriving DecidableEq, Repr

/-- A capture stream (R299 to R309). The settings are those of its descriptor at the ARM. -/
structure AcqStream where
  kind : Nat
  src : Nat
  trig : Nat
  tbin : Nat
  dec : Nat
  base : Nat
  pre : Nat
  post : Nat
  segments : Nat
  mask : BitVec 32
  /-- The tick from which the segment in progress takes items. -/
  from_ : Nat
  /-- The number of the next item, the pre-trigger and post-trigger items written, and the tick at which PRE were written. -/
  nextItem : Nat
  preCount : Nat
  postCount : Nat
  preFull : Nat
  trigBeat : Option Nat
  firstPost : Nat
  /-- The number of the first post-trigger item, as the header gives it. -/
  firstItem : Nat
  /-- Entries that arrived and are not yet written (R301): item number and value. -/
  incoming : List (Nat × Nat)
  /-- The items of the segment by position, the data line in progress, and the lines that wait for an AQ slot: store line,
  contents, and whether it is a header (R302, R303, R307). -/
  items : NMap
  openLine : Option Nat
  full : List (Nat × List Byte × Bool)
  status : Nat
deriving DecidableEq, Repr

def AcqStream.initial : AcqStream :=
  { kind := 0, src := 0, trig := 0, tbin := 0, dec := 1, base := 0, pre := 0, post := 0, segments := 0, mask := 0, from_ := 0,
    nextItem := 0, preCount := 0, postCount := 0, preFull := 0, trigBeat := none, firstPost := 0, firstItem := 0, incoming := [], items := [],
    openLine := none, full := [], status := 0 }

/-! ### Time interval and frequency measurement -/

/-- A TDC result on its way to the queue (R410): the tick at which it enters, and the fields of R409. -/
structure TdcResult where
  due : Nat
  ch : Nat
  mode : Nat
  neg : Bool
  ovf : Bool
  invalid : Bool
  noedge : Bool
  setup : Nat
  val : Nat
  aux : Nat
  armBeat : Nat
deriving DecidableEq, Repr

/-- A TDC channel beside its registers. Times are counts of 2^−12 ns on the axis of the ticks (R393). -/
structure TdcChannel where
  /-- The latched set-up (R400) and the tick and beat of the ARM. -/
  setup : Word
  armTick : Nat
  armBeat : Nat
  /-- Results since the ARM, and the time from which edges are eligible (R402). -/
  number : Nat
  from_ : Nat
  /-- The start taken and the stop held, each with whether it makes the result INVALID (R403, R404). -/
  start : Option (Nat × Bool)
  stop : Option (Nat × Bool)
  /-- The gate: its opening and closing time, the first and the last edge, and the edges after the first (R407, R408). -/
  gate : Option (Nat × Nat)
  first : Option Nat
  last : Nat
  edges : Nat
  bad : Bool
  /-- An edge was too close: the next result is INVALID (R398). -/
  spoilt : Bool
  /-- The last qualified edge seen per input code. -/
  seen : List (Nat × Nat)
deriving DecidableEq, Repr

def TdcChannel.initial : TdcChannel :=
  { setup := 0, armTick := 0, armBeat := 0, number := 0, from_ := 0, start := none, stop := none, gate := none, first := none,
    last := 0, edges := 0, bad := false, spoilt := false, seen := [] }

/-- The time measurement of a slice beside its registers. -/
structure TdcUnit where
  ch : Vector TdcChannel 8
  waiting : List TdcResult
  /-- The result queue (R409). -/
  queue : List (BitVec 128)
deriving DecidableEq, Repr

def TdcUnit.initial : TdcUnit := { ch := Vector.replicate 8 TdcChannel.initial, waiting := [], queue := [] }

/-! ### The DMA engine (DMA Engine) -/

/-- A descriptor (R536). -/
structure DmaDesc where
  src : Nat
  srcLocal : Bool
  dst : Nat
  dstLocal : Bool
  len : Nat
  op : Nat
  planes : Nat
  streams : Nat
  esize : Nat
  span : Nat
  idxSrc : Bool
  idxDst : Bool
  evt : Bool
  wb : Bool
  vwp : Bool
  chain : Bool
  idxBase : Nat
  count : Nat
  block : Nat
  next : Nat
  pattern : Nat
deriving DecidableEq, Repr

/-- A fabric packet of a burst (R534, R546): its TAG and the tick of its sending, the device address and the number of its bytes, and the
completion that came: its fabric STATUS and its data. -/
structure DmaPart where
  tag : Nat
  sentAt : Nat
  addr : Nat
  len : Nat
  reply : Option (Nat × List Byte)
deriving DecidableEq, Repr

/-- A granted burst (R538, R539): its channel, the offset and number of its destination bytes, the addresses that its source offsets and
its destination bytes count from, and for a remote endpoint its packets. -/
structure DmaBurst where
  ch : Nat
  off : Nat
  len : Nat
  src : Nat
  dst : Nat
  parts : List DmaPart
deriving DecidableEq, Repr

/-- A channel beside its registers. -/
structure DmaChannel where
  desc : Option DmaDesc
  /-- Destination bytes granted and written. -/
  granted : Nat
  written : Nat
  flush : Bool
  /-- The STATUS the descriptor will end with once its bursts are complete (R546, R548). -/
  ending : Option Nat
  /-- The tick at which that cause arose (R546). -/
  endAt : Nat
  /-- An ABORT stopped the descriptor: NEXT is not loaded (R548). -/
  aborted : Bool
  /-- R535 applied, or bytes were dropped, in this descriptor. -/
  locked : Bool
  dropped : Bool
  /-- The number of the last remote packet, for its TAG. -/
  tagNo : Nat
deriving DecidableEq, Repr

def DmaChannel.initial : DmaChannel :=
  { desc := none, granted := 0, written := 0, flush := false, ending := none, endAt := 0, aborted := false, locked := false, dropped := false,
    tagNo := 0 }

/-- The engine beside its registers: granted bursts in order, and the channel after which round robin goes on (R539). -/
structure DmaEngine where
  ch : Vector DmaChannel 32
  bursts : List DmaBurst
  turn : Nat
deriving DecidableEq, Repr

def DmaEngine.initial : DmaEngine := { ch := Vector.replicate 32 DmaChannel.initial, bursts := [], turn := 0 }

/-! ### The serial ports and the Pewter window (Side Port, Accessory Port and the Pewter Window) -/

/-- The reply to a frame (R556). -/
structure SideReply where
  code : Nat
  addr : Nat
  data : Nat
deriving DecidableEq, Repr

/-- A stream-class frame that runs (R564, R565): the device address of its first and of its next word, the words still to come,
whether bits are left over at its end, the words written, and the code that stopped it. -/
structure SideStream where
  first : Nat
  next : Nat
  left : Nat
  leftover : Bool
  written : Nat
  stop : Option Nat
deriving DecidableEq, Repr

/-- The side port beside its registers. -/
structure SidePort where
  reply : SideReply
  /-- What SIDE_MISO carried during the last frame (R556). -/
  miso : BitVec 64
  /-- The last frame was a read that a next frame can find unfinished (R563). -/
  reading : Bool
  /-- The result of the latest completed read (R563). -/
  lastRead : Option SideReply
  /-- The device addresses that RDN, WRN and STRMN step from (R562). -/
  stepRead : Option Nat
  stepWrite : Option Nat
  stepStream : Option Nat
  stream : Option SideStream
  /-- Words that wait for the store: device address and word (R564). -/
  fifo : List (Nat × Nat)
deriving DecidableEq, Repr

def SidePort.initial : SidePort :=
  { reply := { code := 1, addr := 0, data := 0 }, miso := 0, reading := false, lastRead := none, stepRead := none, stepWrite := none, stepStream := none,
    stream := none, fifo := [] }

/-- The Pewter window beside its registers: staged levels by register number, the byte or the value in hand, and the event bits of
PW_STATUS (R573, R577, R579, R580). -/
structure Pewter where
  stage : NMap
  high : Option Nat
  captured : Option Nat
  events : Nat
deriving DecidableEq, Repr

def Pewter.initial : Pewter := { stage := [], high := none, captured := none, events := 0 }

/-- The accessory port beside its registers: the tick of the frame in progress (R568). -/
structure AccPort where
  start : Option Nat
deriving DecidableEq, Repr

/-! ### Background calibration and the vault (Background Calibration and the Calibration Vault) -/

/-- A converter's calibration beside its registers. -/
structure CalConv where
  /-- The source that a pending set takes at its switch, and the tick of a named switch (R617, R619). -/
  pendSrc : Nat
  pendTick : Nat
  /-- The tick of the dither step that runs, and the steps, or for a TDC the hits, of the dither block so far (R614, R616). -/
  step : Option Nat
  steps : Nat
  /-- A block waits for the firmware (R613). -/
  block : Bool
deriving DecidableEq, Repr

def CalConv.initial : CalConv := { pendSrc := 0, pendTick := 0, step := none, steps := 0, block := false }

/-- The key of a word of a set: converter, bank (0 active, 1 staged) and word. -/
def calKey (i bank word : Nat) : Nat := i * 256 + bank * 128 + word

/-- A word of the identity set of a converter (R610, R611). A staged bank reads zero before it is written. -/
def identityWord (key : Nat) : Nat :=
  let i := key / 256
  let w := key % 128
  if key % 256 ≥ 128 then 0
  else if i = 368 then w % 64 * 1024
  else if i % 23 = 4 ∨ i % 23 = 5 then (if w % 4 = 1 then 2 ^ 20 else 0)
  else if 14 ≤ i % 23 ∧ i % 23 ≤ 21 then w % 64 * 1024
  else 0

/-- The calibration unit beside its registers. -/
structure Calibration where
  conv : SMap Nat CalConv
  /-- The words of the sets that differ from the identity sets, but for the words that are registers of a measure converter. -/
  sets : SMap Nat Nat
  /-- Per slice, the tick plus one at which the sequencer entered HALTED or ERROR (R615). -/
  haltSince : Vector Nat 16
  /-- Per slice, the tick at which a foreground run that has been granted began (R625). -/
  fgStart : Vector Nat 16
  /-- The tick plus one of the last age count (R622). -/
  agedAt : Nat
  /-- Kinds that a save has still to write, the last SEQ of each kind, and the tick of its last save (R630). -/
  saving : List Nat
  seq : Vector Nat 17
  savedAt : Vector Nat 17
deriving DecidableEq, Repr

def Calibration.initial : Calibration :=
  { conv := [], sets := [], haltSince := Vector.replicate 16 0, fgStart := Vector.replicate 16 0, agedAt := 0, saving := [],
    seq := Vector.replicate 17 0, savedAt := Vector.replicate 17 0 }

/-! ### The image loader (The Durun Structure Image and Live Slice Reload) -/

/-- The image loader beside its registers (R77 to R98). -/
structure ImageUnit where
  /-- The operation in progress (0 CHECK, 1 RELOAD, 2 FULL), its slice and its flash slot. -/
  op : Nat
  slice : Nat
  slot : Nat
  /-- The ticks of D and R. -/
  drainAt : Nat
  rejoinAt : Nat
  /-- ABORT is wanted at the next boundary (R96). -/
  abort : Bool
  /-- A fault of the units concerned was reported since D (R94), or since the drain of a FULL (R80). -/
  faulty : Bool
  /-- The entry address that the START record gave, per slice (R92). -/
  entry : Vector (Option Nat) 16
  /-- Digests of the sections in force, and SECVER of the image in force (R83, R690, R693). -/
  digests : Vector (List Byte) 17
  secver : Nat
  /-- Bits locked by each section, per register (R69, R81). -/
  locks : SMap RegKey Word
  /-- Values that the image wrote to registers whose fields it bounds (R68, R69). -/
  bounds : SMap RegKey Word
  /-- What LOAD has taken from the section of a live reload: its locks, the serial of its image, its digest; and whether VERIFY has found
  it in place (R81, R85). -/
  locksNext : List (RegKey × Word)
  serialNext : Nat
  digestNext : List Byte
  verified : Bool
deriving DecidableEq, Repr

def ImageUnit.initial : ImageUnit :=
  { op := 0, slice := 0, slot := 0, drainAt := 0, rejoinAt := 0, abort := false, faulty := false,
    entry := Vector.replicate 16 none, digests := Vector.replicate 17 [], secver := 0, locks := [], bounds := [],
    locksNext := [], serialNext := 0, digestNext := [], verified := false }

/-! ### Start-up, firmware and boundary scan (Start-up, Boot, Firmware and In-Service Change) -/

/-- A copy of the boot directory (R687). -/
structure Directory where
  seq : Nat
  fwActive : Bool
  fwTrial : Bool
  fwTried : Bool
  imgActive : Bool
deriving DecidableEq, Repr

/-- The boot controller beside its registers, with what outlives a reset: flash and fuses. -/
structure Boot where
  /-- The flash, a byte that is not listed reads 0xFF (R684, R685). -/
  flash : SMap Nat Byte
  /-- The two copies of the boot directory, none where a copy is not valid (R687). -/
  dirs : Vector (Option Directory) 2
  /-- The public keys of the fuses, 96 bytes each (R689). -/
  keys : Vector (List Byte) 4
  /-- The flash operation that runs: OP, flash address, store offset, length (R691). -/
  op : Option (Nat × Nat × Nat × Nat)
  /-- Per image slot, TOTAL_LEN as its last WRITE recorded it (R691). -/
  slotLen : Vector Nat 2
  /-- The tick at which the present phase started (R682). -/
  since : Nat
  /-- The slices of a RUN_GO whose SEQ_START is still to be written, and the tick of S (R697). -/
  runSlices : BitVec 16
  runAt : Nat
  /-- JOIN_TMO has expired and the join has not completed yet (R683). -/
  joinLate : Bool
deriving DecidableEq, Repr

def Boot.initial : Boot :=
  { flash := [], dirs := Vector.replicate 2 none, keys := Vector.replicate 4 [], op := none, slotLen := Vector.replicate 2 0, since := 0,
    runSlices := 0, runAt := 0, joinLate := false }

/-- The management cores beside their registers. -/
structure Management where
  /-- The tick at which cores that are STARTING run, and the tick at which the request of a swap was made and the firmware halts
  (R692, R704). -/
  runAt : Option Nat
  swapAt : Option Nat
  haltAt : Option Nat
  /-- The tick of the last kick of each core (R701). -/
  kicks : Vector Nat 4
  /-- Load blocks at or below LOW in a row, and whether the load sheds (R699). -/
  low : Nat
  shedding : Bool
  /-- The firmware slot in force verified with this SECVER (R690). -/
  secver : Nat
deriving DecidableEq, Repr

def Management.initial : Management :=
  { runAt := none, swapAt := none, haltAt := none, kicks := Vector.replicate 4 0, low := 0, shedding := false, secver := 0 }

/-- What the boundary scan does to the lands (R706). -/
inductive TapDrive where
  | functional
  | extest
  | clamp
  | highz
  | pulse
  | train
deriving DecidableEq, Repr

/-- The test access port (R706): the bits last shifted out, the captured and the preloaded boundary cells, and what it does to the
lands. -/
structure Tap where
  tdo : List Bool
  captured : List Bool
  preload : List Bool
  drive : TapDrive
  refused : Bool
deriving DecidableEq, Repr

def Tap.initial : Tap := { tdo := [], captured := [], preload := [], drive := .functional, refused := false }

/-- The supervision of supplies and temperature (R712, R714, R717): PORESET_N is low, the rails below their threshold, and a
junction has tripped. -/
structure Supply where
  poreset : Bool
  rails : BitVec 10
  hot : Bool
deriving DecidableEq, Repr

def Supply.initial : Supply := { poreset := false, rails := 0, hot := false }

end Sys2Proof.Machine
end

