-- ==== Sys2Proof/Machine/State.lean ====
section
/-!
DEFINITION. The state of the device: the register file, the stores, every unit's hidden state, and the queue of commands
that wait. It is plain data.
-/

namespace Sys2Proof.Machine

/-- The reset values of FLT_SRC_CFG by source: LEVEL, PLEVEL and DEFINED (R635, R664). -/
def srcCfgReset : Nat → Nat
  | 0x01 | 0x03 | 0x04 | 0x05 | 0x06 | 0x18 | 0x30 | 0x3F => 1 + 4 * 2 + 16
  | 0x02 => 1 + 4 * 3 + 16
  | 0x07 | 0x13 => 3 + 16
  | 0x10 | 0x35 => 2 + 4 * 2 + 16
  | 0x11 => 3 + 4 * 3 + 16
  | 0x12 | 0x19 | 0x20 | 0x21 | 0x28 | 0x29 | 0x2A | 0x2B | 0x2C | 0x2E | 0x32 | 0x33 => 1 + 16
  | 0x1A | 0x2D | 0x31 => 16
  | 0x34 | 0x36 => 1 + 4 * 1 + 16
  | _ => 0

/-- The reset values of PWR_COST by class (R607). -/
def costReset : Nat → Nat
  | 1 => 0x226
  | 2 => 0x258
  | 3 => 0x96
  | 4 => 0x7D0
  | 5 => 0x78
  | 6 => 0x190
  | 7 => 0x5DC
  | _ => 0

/-- What reset leaves in a register instance (R10): the value of the register tables, or of the rule that names it. -/
def RegKey.resetValue (key : RegKey) : Word :=
  match key.reg with
  | .EVT_MASK => if key.i = 0 then 0x7FFE else 0
  | .PWR_COST => BitVec.ofNat 32 (costReset key.i)
  | .FLT_SRC_CFG => BitVec.ofNat 32 (srcCfgReset key.i)
  | .DMX_ROUTE => BitVec.ofNat 32 key.j
  | .KTL_UID_LO => Config.uid 0
  | .KTL_UID_HI => Config.uid 1
  | .HST_MAC_LO => Config.mac key.i 0
  | .HST_MAC_HI => Config.mac key.i 1
  | r => BitVec.ofNat 32 r.resetBits

/-- The register file: what differs from the reset values, in canonical form. -/
abbrev RegFile := SMap RegKey Word

/-- What a register instance holds. -/
def RegFile.at (m : RegFile) (key : RegKey) : Word := SMap.get RegKey.resetValue m key

/-- Replace what a register instance holds. -/
def RegFile.to (m : RegFile) (key : RegKey) (v : Word) : RegFile := SMap.put RegKey.lt RegKey.resetValue m key v

/-- The canonical form of the register file. -/
def RegFile.wf (m : RegFile) : Bool := SMap.wf RegKey.lt RegKey.resetValue m

/-- A slice beside its registers. -/
structure Slice where
  store : Store
  wheel : Wheel
  seq : Sequencer
  vec : Streamer
  pin : PinUnit
  ff : Vector FfChannel 8
  mad : MeasureAdc
  /-- The slice is isolated (R88, R641). -/
  isolated : Bool
  /-- The slice lies between the drain beat D and the rejoin beat R of a live reload (R87). -/
  reloading : Bool
  tone : Vector Tone 32
  tx : Vector TxChannel 4
  bin : Vector Bin 32
  rx : Vector RxChannel 2
  acq : Vector AcqStream 4
  tdc : TdcUnit
  /-- Units whose job was abandoned (R33): the tick of the job and the unit code. -/
  overrun : List (Nat × Nat)
deriving DecidableEq, Repr

def Slice.initial : Slice :=
  { store := Store.initial,
    wheel := Wheel.initial,
    seq := Sequencer.initial,
    vec := Streamer.initial,
    pin := PinUnit.initial,
    ff := Vector.replicate 8 FfChannel.initial,
    mad := MeasureAdc.initial,
    isolated := false,
    reloading := false,
    tone := Vector.replicate 32 Tone.initial,
    tx := Vector.replicate 4 TxChannel.initial,
    bin := Vector.replicate 32 Bin.initial,
    rx := Vector.replicate 2 { wakeAt := 0, settleAt := 0 },
    acq := Vector.replicate 4 AcqStream.initial,
    tdc := TdcUnit.initial,
    overrun := [] }

/-- The state of the device. -/
structure State where
  regs : RegFile
  slices : Vector Slice 16
  cstore : Store
  flt : Collector
  evt : EventQueue
  rpl : Journal
  pwr : Power
  xbar : Crossbar
  ktl : Fabric
  trg : TriggerBus
  chn : Chain
  /-- The host ports (R500 to R517). -/
  host : Vector HostPort 2
  tod : TimeOfDay
  /-- The level of GUARD_IN (R219, R220). -/
  guardLevel : Bool
  /-- The instant of the last rising edge of GUARD_IN in picoseconds, while its assertion has not been acted on (R220). -/
  guardRise : Option Nat
  /-- The word that the last register read returned. -/
  readValue : Word
  /-- Ticks of 4 ns since the beat count started (R31); an EPOCH does not change it. -/
  now : Nat
  /-- The beat count (R31, R32). -/
  beat : Nat
  /-- The commands that wait, first in, first out. -/
  pending : List Instr
  dma : DmaEngine
  side : SidePort
  pewter : Pewter
  acc : AccPort
  cal : Calibration
  img : ImageUnit
  boot : Boot
  mgt : Management
  tap : Tap
  supply : Supply
  /-- The high words that reads of low words captured (R13). -/
  shadow : SMap RegKey Word
  /-- The low words that writes staged (R13). -/
  staged : SMap RegKey Word
deriving DecidableEq, Repr

/-- Why the machine stops. No command of this device stops it, so there is no such reason: every command of the table has an
effect that the spec states. -/
inductive Fault
deriving DecidableEq, Repr

/-- Why a command has no meaning. -/
inductive Refusal where
  /-- An arm of `exec` that has no meaning yet; it names the row. Safe: nothing is claimed of the command. -/
  | notModelled (mnemonic : String)
deriving DecidableEq, Repr

/-- The device right after PORESET_N is deasserted (R10, R682): boot phase CLOCK, no lock yet, every register at its reset
value, nothing listed in any store, an empty queue. -/
def State.reset : State :=
  { regs := [],
    slices := Vector.replicate 16 Slice.initial,
    cstore := Store.initial,
    flt := Collector.initial,
    evt := EventQueue.initial,
    rpl := Journal.initial,
    pwr := Power.initial,
    xbar := Crossbar.initial,
    ktl := Fabric.initial,
    trg := TriggerBus.initial,
    chn := Chain.initial,
    host := Vector.replicate 2 HostPort.initial,
    tod := TimeOfDay.initial,
    guardLevel := false,
    guardRise := none,
    readValue := 0,
    now := 0,
    beat := 0,
    pending := [],
    dma := DmaEngine.initial,
    side := SidePort.initial,
    pewter := Pewter.initial,
    acc := { start := none },
    cal := Calibration.initial,
    img := ImageUnit.initial,
    boot := Boot.initial,
    mgt := Management.initial,
    tap := Tap.initial,
    supply := Supply.initial,
    shadow := [],
    staged := [] }

end Sys2Proof.Machine
end

