-- ==== Sys2Proof/Machine/Ops.lean ====
section
/-!
DEFINITION. The named operations over the state that every unit uses: registers and their fields, counters and 64-bit
pairs, the stores with their error correction, and what a unit hands to the central section: a fault, an event, a
journal record, a request for power.
-/

namespace Sys2Proof.Machine

/-- What a command answers. -/
abbrev Result := Host.Outcome State Fault Refusal

/-! ### Registers and fields -/

/-- What a register instance holds. -/
def State.rd (s : State) (r : Reg) (i : Nat := 0) (j : Nat := 0) (k : Nat := 0) (l : Nat := 0) : Word :=
  RegFile.at s.regs ⟨r, i, j, k, l⟩

/-- Put a value in a register instance. -/
def State.wr (s : State) (r : Reg) (v : Word) (i : Nat := 0) (j : Nat := 0) (k : Nat := 0) (l : Nat := 0) : State :=
  { s with regs := RegFile.to s.regs ⟨r, i, j, k, l⟩ v }

/-- What a field holds. -/
def State.fld (s : State) (f : Field) (i : Nat := 0) (j : Nat := 0) (k : Nat := 0) (l : Nat := 0) : Nat :=
  bitsAt (s.rd f.reg i j k l).toNat f.lo f.width

/-- Put a value in a field; its register's other bits stay. -/
def State.setFld (s : State) (f : Field) (v : Nat) (i : Nat := 0) (j : Nat := 0) (k : Nat := 0) (l : Nat := 0) : State :=
  s.wr f.reg (BitVec.ofNat 32 (putBits (s.rd f.reg i j k l).toNat f.lo f.width v)) i j k l

/-- Whether a one-bit field is set. -/
def State.flag (s : State) (f : Field) (i : Nat := 0) (j : Nat := 0) (k : Nat := 0) (l : Nat := 0) : Bool :=
  s.fld f i j k l == 1

/-- Put a one-bit field. -/
def State.setFlag (s : State) (f : Field) (b : Bool) (i : Nat := 0) (j : Nat := 0) (k : Nat := 0) (l : Nat := 0) : State :=
  s.setFld f (bit01 b) i j k l

/-- Add to a 32-bit counter register, which stops at all ones (R12). -/
def State.countBy (s : State) (r : Reg) (n : Nat) (i : Nat := 0) (j : Nat := 0) (k : Nat := 0) (l : Nat := 0) : State :=
  s.wr r (satCount (s.rd r i j k l) n) i j k l

/-- Count one event in a 32-bit counter register. -/
def State.count (s : State) (r : Reg) (i : Nat := 0) (j : Nat := 0) (k : Nat := 0) (l : Nat := 0) : State :=
  s.countBy r 1 i j k l

/-- Add to a counting field, which stops at all ones (R12). -/
def State.bump (s : State) (f : Field) (n : Nat) (i : Nat := 0) (j : Nat := 0) (k : Nat := 0) (l : Nat := 0) : State :=
  s.setFld f (min (s.fld f i j k l + n) (2 ^ f.width - 1)) i j k l

/-- Raise a peak field to a value (a peak since the last read). -/
def State.peak (s : State) (f : Field) (v : Nat) (i : Nat := 0) (j : Nat := 0) : State :=
  if s.fld f i j < v then s.setFld f v i j else s

/-- The 64-bit quantity of a pair of registers (R13). -/
def State.pair (s : State) (lo hi : Reg) (i : Nat := 0) (j : Nat := 0) (k : Nat := 0) : Nat :=
  (s.rd lo i j k).toNat + (s.rd hi i j k).toNat * 2 ^ 32

/-- Put a 64-bit quantity in its pair of registers. -/
def State.setPair (s : State) (lo hi : Reg) (v : Nat) (i : Nat := 0) (j : Nat := 0) (k : Nat := 0) : State :=
  (s.wr lo (BitVec.ofNat 32 v) i j k).wr hi (BitVec.ofNat 32 (v / 2 ^ 32)) i j k

/-- Add to a 64-bit counter, which stops at all ones (R12). -/
def State.pairAdd (s : State) (lo hi : Reg) (n : Nat) (i : Nat := 0) (j : Nat := 0) (k : Nat := 0) : State :=
  s.setPair lo hi (min (s.pair lo hi i j k + n) (2 ^ 64 - 1)) i j k

/-- A slice. -/
def State.sl (s : State) (n : Fin 16) : Slice := s.slices.get n

/-- Change a slice. -/
def State.modSl (s : State) (n : Fin 16) (f : Slice → Slice) : State :=
  { s with slices := s.slices.set n.val (f (s.slices.get n)) n.isLt }

/-- A conflict counter of slice `n` counts the present beat, once, while the wheel is RUNNING (R44): 0 IF, 1 VS, 2 TL, 3 AQ,
4 FC, 5 DM, 6 MG. -/
def State.conflict (s : State) (n : Fin 16) (m : Fin 7) : State :=
  if s.fld F.SLC_WHEEL_STATUS_STATE n = 2 ∧ (s.sl n).wheel.counted.get m ≠ s.now + 1 then
    (s.modSl n (fun x => { x with wheel := { x.wheel with counted := x.wheel.counted.set m.val (s.now + 1) m.isLt } })).count
      .SLC_CONFLICT n m
  else s

/-! ### What units hand to the central section -/

/-! The fault sources of R635. -/
namespace Src
def STORE_UE : Nat := 0x01
def CSTORE_UE : Nat := 0x02
def SEQ_ERROR : Nat := 0x03
def VEC_ERROR : Nat := 0x04
def TONE_LIST : Nat := 0x05
def RELOAD_FAIL : Nat := 0x06
def CENTRAL_LOAD : Nat := 0x07
def BEAT_OVERRUN : Nat := 0x10
def BEAT_OVERRUN_C : Nat := 0x11
def MGT_WDOG : Nat := 0x12
def HOST_SAFE : Nat := 0x13
def CONV_FAIL : Nat := 0x18
def FF_SHORT : Nat := 0x19
def CAL_STALE : Nat := 0x1A
def NRG_TRIP : Nat := 0x20
def PWR_OVER : Nat := 0x21
def INV_REF : Nat := 0x28
def CHN_LINK : Nat := 0x29
def CHN_ALIGN : Nat := 0x2A
def VERDICT_LATE : Nat := 0x2B
def VERDICT_DUE : Nat := 0x2C
def VERDICT_DROP : Nat := 0x2D
def BARRIER_LATE : Nat := 0x2E
def KTL_LINK : Nat := 0x30
def KTL_FLIGHT : Nat := 0x31
def KTL_TOPO : Nat := 0x32
def KTL_SOLDER : Nat := 0x33
def HOST_LINK : Nat := 0x34
def DIE_LINK : Nat := 0x35
def DMA_BUS : Nat := 0x36
def INTEGRITY : Nat := 0x3F
end Src

/-! Scope codes of R658. -/
namespace Scope
def device : Nat := 16
def hostPort (p : Nat) : Nat := 17 + p
def fabricPort (p : Nat) : Nat := 19 + p
def sliceGroup (d : Nat) : Nat := 23 + d
end Scope

/-! The event codes of R519. -/
namespace EvCode
def VEC_UNDERRUN : Nat := 1
def TONE_UNDERRUN : Nat := 2
def SEQ_HALT : Nat := 3
def SEQ_ERROR : Nat := 4
def IMG_END : Nat := 5
def ACQ_END : Nat := 6
def GUARD : Nat := 7
def CC_DONE : Nat := 8
def FAULT : Nat := 9
def PORT : Nat := 10
def EPOCH : Nat := 11
def DMA : Nat := 12
def SESSION : Nat := 13
def LOST : Nat := 14
end EvCode

/-! The journal record types of R666. -/
namespace JType
def PAD : Nat := 0x00
def SYNC : Nat := 0x01
def GAP : Nat := 0x02
def IMAGE : Nat := 0x03
def RELOAD : Nat := 0x04
def EPOCH : Nat := 0x05
def ANCHOR : Nat := 0x06
def REG_WRITE : Nat := 0x10
def STORE_WRITE : Nat := 0x11
def WP_ADV : Nat := 0x12
def VERDICT_L : Nat := 0x20
def VERDICT_F : Nat := 0x21
def HOLD_L : Nat := 0x22
def DISCARD : Nat := 0x23
def TRIGGER : Nat := 0x30
def BARRIER : Nat := 0x31
def GUARD : Nat := 0x32
def GOV_TRIP : Nat := 0x33
def FAULT : Nat := 0x34
def CAL_SWITCH : Nat := 0x35
def CAL_WORDS : Nat := 0x36
def RESULT : Nat := 0x40
def MATCH_END : Nat := 0x41
def DECISION : Nat := 0x50
def UNDERRUN : Nat := 0x51
end JType

/-- A checker detects a fault: it stands at the collector until a FAULT_REPORT acts on it (R637). Detections of one
instance in one beat are one report (R638). -/
def State.raise (s : State) (src scope index : Nat) : State :=
  let r : FaultReport := { pair := { src := src, scope := scope, index := index % 2 ^ 24 }, injected := false, dry := false }
  if r ∈ s.flt.raised then s else { s with flt := { s.flt with raised := s.flt.raised ++ [r] } }

/-- The code is enabled in EVT_MASK and the queue takes records (R519, R533). -/
def State.eventEnabled (s : State) (code : Nat) : Bool :=
  s.flag F.EVT_CFG_EN && (s.rd .EVT_MASK (code / 32)).toNat.testBit (code % 32)

/-- Put records at the end of the event queue and raise its peak. -/
def State.pushEvents (s : State) (l : List EventRecord) : State :=
  let s := { s with evt := { s.evt with queue := s.evt.queue ++ l } }
  s.peak F.EVT_QSTATUS_PEAK s.evt.queue.length

/-- An event record enters the queue, or is lost (R519, R520): a LOST record enters first once two places are free. -/
def State.event (s : State) (code src index data : Nat) : State :=
  if !s.eventEnabled code then s
  else
    let r : EventRecord := { code := code, src := src, index := index, beat := s.beat, data := data % 2 ^ 32 }
    let lose (s : State) : State :=
      { (s.count .EVT_LOST).setFlag F.EVT_STATUS_LOST true with evt := { s.evt with lost := s.evt.lost + 1 } }
    if s.evt.lost = 0 then if s.evt.queue.length < 1024 then s.pushEvents [r] else lose s
    else if s.evt.queue.length + 2 ≤ 1024 then
      let mark := if s.eventEnabled EvCode.LOST then
          [{ code := EvCode.LOST, src := 16, index := 0, beat := s.beat, data := s.evt.lost % 2 ^ 32 : EventRecord }]
        else []
      let s := s.pushEvents (mark ++ [r])
      { s with evt := { s.evt with lost := 0 } }
    else lose s

/-- An event bit of PW_STATUS is set, whether or not the window is open (R576, R580); only slices 0 and 1 have them. -/
def State.pewterEvent (s : State) (n : Fin 16) (bit : Nat) : State :=
  if n.val < 2 then { s with pewter := { s.pewter with events := putBit s.pewter.events bit true } } else s

/-- A port is held out of service by containment (R641): 0 and 1 the host ports, 2 to 5 the fabric ports. -/
def State.portHeldOut (s : State) (p : Nat) : Bool := s.flt.portHeld.any (fun h => h.1 == p)

/-- An injection waits for the next ECC check of this line (R652). -/
def State.eccInjected (s : State) (id : StoreId) (line : Nat) : Bool :=
  match s.flt.inject with
  | none => false
  | some j => decide (j.mode < 2) && decide (j.index = line) &&
      (match id with | .slice _ => decide (j.src = Src.STORE_UE) | .central => decide (j.src = Src.CSTORE_UE))

/-- RPL_STATUS.STATE: 0 OFF, 1 RECORDING, 2 REPLAYING, 3 ENDED (R680). -/
def State.rplState (s : State) : Nat := s.fld F.RPL_STATUS_STATE

/-- A replay with MUTE set drives no output (R676). -/
def State.replayMuted (s : State) : Bool := s.rpl.replaying && s.flag F.RPL_CFG_MUTE

/-- The types that a replay compares and does not take from the journal (R666). -/
def JType.isCheck (t : Nat) : Bool := t == DECISION || t == UNDERRUN || t == STORE_WRITE

/-- A journal record of this beat: kept while RECORDING, and a check record also while REPLAYING, where it is compared
(R666, R678). -/
def State.journal (s : State) (type src index data : Nat) : State :=
  if s.rplState = 1 ∨ (s.rplState = 2 ∧ JType.isCheck type) then
    { s with rpl := { s.rpl with fresh := s.rpl.fresh ++ [{ type := type, src := src, index := index, beat := s.beat, data := data % 2 ^ 64 }] } }
  else s

/-- A request stands in the queue before another (R595): by beat of arrival, class and index. -/
def PwrRequester.before (a b : PwrRequester × Nat) : Bool :=
  if a.2 = b.2 then if a.1.cls = b.1.cls then decide (a.1.index < b.1.index) else decide (a.1.cls < b.1.cls) else decide (a.2 < b.2)

/-- Put a request in its place in the queue. -/
def queueInsert (x : PwrRequester × Nat) : List (PwrRequester × Nat) → List (PwrRequester × Nat)
  | [] => [x]
  | y :: t => if PwrRequester.before x y then x :: y :: t else y :: queueInsert x t

/-- A requester asks power admission for leave (R593, R595). It holds at most one request. -/
def State.askAdmission (s : State) (cls index : Nat) : State :=
  let r : PwrRequester := { cls := cls, index := index }
  if s.pwr.queue.any (fun q => q.1 = r) || s.pwr.granted.any (fun q => q.1 = r) then s
  else
    let s := { s with pwr := { s.pwr with queue := queueInsert (r, s.now) s.pwr.queue } }
    s.peak F.PWR_QSTATUS_PEAK s.pwr.queue.length

/-- A request is in the queue. -/
def State.admissionPending (s : State) (cls index : Nat) : Bool :=
  s.pwr.queue.any (fun q => q.1 = { cls := cls, index := index })

/-- A request has been granted and its cost is held. -/
def State.admissionGranted (s : State) (cls index : Nat) : Bool :=
  s.pwr.granted.any (fun q => q.1 = { cls := cls, index := index })

/-- Withdraw a request, or release a granted cost (R597). -/
def State.releaseAdmission (s : State) (cls index : Nat) : State :=
  { s with pwr := { s.pwr with queue := s.pwr.queue.filter (fun q => q.1 ≠ { cls := cls, index := index })
                               granted := s.pwr.granted.filter (fun q => q.1 ≠ { cls := cls, index := index }) } }

/-- PWR_DOM.STATE of a domain: 0 ON, 1 DRAINING, 2 OFF, 3 WAKING (R607). -/
def State.domState (s : State) (d : Nat) : Nat := s.fld F.PWR_DOM_STATE d

/-- The core domain of a slice is ON (R584, R585). -/
def State.coreOn (s : State) (n : Nat) : Bool := s.domState n == 0

/-- The analogue domain of a slice is ON. -/
def State.analogOn (s : State) (n : Nat) : Bool := s.domState (16 + n) == 0

/-- An event is discarded: counted, with its flag (R120). -/
def State.eventDropped (s : State) (n : Fin 16) : State := (s.count .SEQ_EV_DROP n).setFlag F.SEQ_STATUS_EV_DROP true n

/-- An event for a unit of a slice's core domain acts only while that domain is ON; else it is discarded and counted (R120, R585). -/
def State.coreEvent (s : State) (n : Fin 16) (f : State → State) : State :=
  if s.coreOn n then f s else s.eventDropped n

/-- An event for a unit of a slice's analogue domain acts only while that domain is ON (R120, R585). -/
def State.analogEvent (s : State) (n : Fin 16) (f : State → State) : State :=
  if s.analogOn n then f s else s.eventDropped n

/-- A register command of a unit of a slice's analogue domain acts only while that domain is ON (R585, R591). -/
def State.analogDo (s : State) (n : Fin 16) (f : State → State) : State := if s.analogOn n then f s else s

/-- A register command of a unit of a slice's core domain acts only while that domain is ON (R585, R591). -/
def State.coreDo (s : State) (n : Fin 16) (f : State → State) : State := if s.coreOn n then f s else s

/-- PWR_DIS_LAST: the work that a disable let finish and the work that it discarded (R592, R607). KIND 1 TX channel, 2 RX channel, 3 TDC
channel, 4 analogue domain, 5 core domain. -/
def State.disRecord (s : State) (slice kind index finished discarded : Nat) : State :=
  s.wr .PWR_DIS_LAST (BitVec.ofNat 32 (slice + kind * 2 ^ 4 + index * 2 ^ 7 + min finished 2047 * 2 ^ 10 + min discarded 2047 * 2 ^ 21))

/-! ### Stores (R34 to R39) -/

namespace Store

/-- What byte `a` of a store reads as. -/
def byteAt (st : Store) (a : Nat) : Byte := SMap.get (fun _ => 0) st.bytes a

/-- Write one byte, keeping the canonical form. -/
def setByte (st : Store) (a : Nat) (b : Byte) : Store := { st with bytes := SMap.put natLt (fun _ => 0) st.bytes a b }

/-- `k` bytes from address `a`. -/
def read (st : Store) (a k : Nat) : List Byte := (List.range k).map (fun i => st.byteAt (a + i))

/-- The canonical form of the bytes. -/
def wf (st : Store) : Bool := SMap.wf natLt (fun _ => (0 : Byte)) st.bytes

/-- The 64-bit words of a line (0 to 15) that hold a double-bit error. -/
def linePoison (st : Store) (line : Nat) : List Nat := (List.range 16).filter (fun w => (line * 16 + w) ∈ st.double)

/-- The 64-bit words of a line that hold a single-bit error. -/
def lineSingle (st : Store) (line : Nat) : List Nat := (List.range 16).filter (fun w => (line * 16 + w) ∈ st.single)

/-- Write bytes one after another from address `a`. -/
def writeBytes (st : Store) : Nat → List Byte → Store
  | _, [] => st
  | a, b :: t => writeBytes (st.setByte a b) (a + 1) t

/-- The 64-bit word holding address `a` gets new check bits: its error marks go. -/
def cleanWord (st : Store) (w : Nat) : Store :=
  { st with single := st.single.filter (· ≠ w), double := st.double.filter (· ≠ w) }

/-- The error marks of a whole line go. -/
def cleanLine (st : Store) (line : Nat) : Store :=
  { st with single := st.single.filter (fun w => w / 16 ≠ line), double := st.double.filter (fun w => w / 16 ≠ line) }

/-- Write a whole line. -/
def writeLine (st : Store) (line : Nat) (data : List Byte) : Store := (st.writeBytes (line * 128) data).cleanLine line

/-- The addresses `a` to `a + k - 1` cover only whole 64-bit words (R37). -/
def wholeWords (a k : Nat) : Bool := a % 8 == 0 && k % 8 == 0

end Store

/-- The store named. -/
def State.store (s : State) : StoreId → Store
  | .slice n => (s.sl n).store
  | .central => s.cstore

/-- Replace the store named. -/
def State.setStore (s : State) (id : StoreId) (st : Store) : State :=
  match id with
  | .slice n => s.modSl n (fun x => { x with store := st })
  | .central => { s with cstore := st }

/-- How many lines a store has (R34). -/
def StoreId.lines : StoreId → Nat
  | .slice _ => 24576
  | .central => 131072

/-- Count `k` correctable errors of a store. -/
def State.countCe (s : State) (id : StoreId) (k : Nat) : State :=
  match id with
  | .slice n => s.countBy .SLC_ECC_CE k n
  | .central => s.countBy .GLB_CSTORE_ECC_CE k

/-- Count `k` uncorrectable errors of a store. -/
def State.countUe (s : State) (id : StoreId) (k : Nat) : State :=
  match id with
  | .slice n => s.countBy .SLC_ECC_UE k n
  | .central => s.countBy .GLB_CSTORE_ECC_UE k

/-- Record where the last error of a store was (R35, R36). -/
def State.setEccAddr (s : State) (id : StoreId) (line word : Nat) (ue : Bool) : State :=
  match id with
  | .slice n => ((s.setFld F.SLC_ECC_ADDR_LINE line n).setFld F.SLC_ECC_ADDR_WORD word n).setFld F.SLC_ECC_ADDR_UE (bit01 ue) n
  | .central => ((s.setFld F.GLB_CSTORE_ECC_ADDR_LINE line).setFld F.GLB_CSTORE_ECC_ADDR_WORD word).setFld
      F.GLB_CSTORE_ECC_ADDR_UE (bit01 ue)

/-- STORE_UE or CSTORE_UE for a line (R36). -/
def State.raiseUe (s : State) (id : StoreId) (line : Nat) : State :=
  match id with
  | .slice n => s.raise Src.STORE_UE n.val line
  | .central => s.raise Src.CSTORE_UE 16 line

/-- The word of a line whose check bits an injection inverts: the spec names none. -/
def injectedWord (s : State) : Nat := Config.openValue 20 s.now % 16

/-- What a read of a line does to the error counters, the error address, the rewrite queue and the fault collector:
single-bit errors are corrected, counted and queued for rewrite (R35), double-bit errors counted and reported once (R36). -/
def State.eccRead (s : State) (id : StoreId) (line : Nat) : State :=
  let ce := (s.store id).lineSingle line
  let ue := (s.store id).linePoison line
  let s := if ce.isEmpty then s
    else
      let s := s.countCe id ce.length
      let s := s.setEccAddr id line (ce.getLastD 0) false
      let st := s.store id
      s.setStore id { st with rewrite := if line ∈ st.rewrite then st.rewrite else st.rewrite ++ [line] }
  if ue.isEmpty then s
  else
    let s := s.countUe id ue.length
    let s := s.setEccAddr id line (max (ue.getLastD 0) (ce.getLastD 0)) (decide (ce.getLastD 0 ≤ ue.getLastD 0))
    s.raiseUe id line

/-- The check that an injection has inverted: the word the spec does not name is counted and reported as an uncorrectable error, and
an injection of MODE ONCE has acted (R652, R653). -/
def State.eccInject (s : State) (id : StoreId) (line : Nat) : State :=
  match s.flt.inject with
  | none => s
  | some j =>
    let scope := match id with | .slice n => n.val | .central => 16
    let s := (s.countUe id 1).setEccAddr id line (injectedWord s) true
    let r : FaultReport := { pair := { src := j.src, scope := scope, index := line }, injected := true, dry := j.dry }
    let s := { s with flt := { s.flt with raised := s.flt.raised ++ [r], inject := if j.mode = 0 then none else some j } }
    if j.mode = 0 then s.setFlag F.FLT_INJECT_BUSY false else s

/-- A master's read of a line: its words that come poisoned, and the state after it (R35, R36, R652). -/
def State.lineRead (s : State) (id : StoreId) (line : Nat) : List Nat × State :=
  if s.eccInjected id line then (injectedWord s :: (s.store id).linePoison line, (s.eccRead id line).eccInject id line)
  else ((s.store id).linePoison line, s.eccRead id line)

/-- A read of a range: its bytes with those of a poisoned word zero, the poisoned words among them, and the state after it (R35, R36). -/
def rangeRead (s : State) (id : StoreId) (a k : Nat) : List Byte × List Nat × State :=
  if k = 0 then ([], [], s)
  else
    let lines := (List.range ((a + k - 1) / 128 - a / 128 + 1)).map (· + a / 128)
    let (poison, s) := lines.foldl (fun (x : List Nat × State) l =>
      let (w, s) := x.2.lineRead id l
      (x.1 ++ w.map (· + 16 * l), s)) ([], s)
    let data := (List.range k).map (fun i => if (a + i) / 8 ∈ poison then 0 else (s.store id).byteAt (a + i))
    (data, poison.filter (fun w => decide (a / 8 ≤ w) && decide (w ≤ (a + k - 1) / 8)), s)

/-- The poisoned 64-bit words (by number) among the `k` bytes from `a`. -/
def Store.poisonIn (st : Store) (a k : Nat) : List Nat :=
  if k = 0 then [] else st.double.filter (fun w => decide (a / 8 ≤ w) && decide (w ≤ (a + k - 1) / 8))

/-- A master's write of a line during a MARCH of it shows in the test (R648). -/
def State.marchTouched (s : State) (id : StoreId) (line : Nat) : State :=
  if s.flt.tests.isEmpty then s
  else
    { s with flt := { s.flt with tests := s.flt.tests.map (fun t =>
        let here : Bool := match id with
          | .slice n => decide (t.pair.src = Src.STORE_UE) && decide (t.pair.scope = n.val)
          | .central => decide (t.pair.src = Src.CSTORE_UE)
        if (t.started.isSome && t.pair.index == line && here) = true then { t with overwritten := true } else t) } }

/-- Write bytes within one line of a store: whole 64-bit words in one access, or else as a read-modify-write, which
writes nothing if the read finds a poisoned word in the line (R36, R37). The answer says whether it wrote. -/
def State.lineWrite (s : State) (id : StoreId) (a : Nat) (data : List Byte) : State × Bool :=
  let line := a / 128
  let words := (List.range ((a + data.length - 1) / 8 - a / 8 + 1)).map (· + a / 8)
  if data.isEmpty then (s, true)
  else if Store.wholeWords a data.length then
    ((s.setStore id (words.foldl Store.cleanWord ((s.store id).writeBytes a data))).marchTouched id line, true)
  else
    let (poisoned, s) := s.lineRead id line
    if !poisoned.isEmpty then (s, false)
    else ((s.setStore id (words.foldl Store.cleanWord ((s.store id).writeBytes a data))).marchTouched id line, true)

/-- Write bytes from address `a`, line by line; `fuel` bounds the number of lines. The answer says whether every line
was written. -/
def State.storeWriteGo (id : StoreId) : Nat → State → Nat → List Byte → State × Bool
  | 0, s, _, _ => (s, true)
  | fuel + 1, s, a, data =>
    if data.isEmpty then (s, true)
    else
      let k := 128 - a % 128
      let (s, ok) := s.lineWrite id a (data.take k)
      let (s, ok') := State.storeWriteGo id fuel s (a + k) (data.drop k)
      (s, ok && ok')

/-- Write bytes to a store from byte address `a`. -/
def State.storeWrite (s : State) (id : StoreId) (a : Nat) (data : List Byte) : State × Bool :=
  State.storeWriteGo id (data.length / 128 + 2) s a data

/-- The bytes a read delivers: those of a poisoned 64-bit word read zero (R514), every other byte as read. -/
def Store.readClean (st : Store) (a k : Nat) : List Byte :=
  (List.range k).map (fun i => if ((a + i) / 8) ∈ st.double then 0 else st.byteAt (a + i))

/-- The slice lies between D and R of a live reload, where outside accesses are refused (R89). -/
def reloadHolds (s : State) (n : Fin 16) : Bool :=
  s.flag F.GLB_IMG_STATUS_BUSY && s.img.op == 1 && s.img.slice == n.val && decide (3 ≤ s.fld F.GLB_IMG_STATUS_PHASE)

/-- SLC_STORE_PWR.STATE or GLB_CSTORE_PWR.STATE: 0 ON, 1 RETAIN, 2 OFF, 3 CHANGING (R55). -/
def State.storePower (s : State) : StoreId → Nat
  | .slice n => s.fld F.SLC_STORE_PWR_STATE n
  | .central => s.fld F.GLB_CSTORE_PWR_STATE

def State.setStorePower (s : State) (id : StoreId) (v : Nat) : State :=
  match id with
  | .slice n => s.setFld F.SLC_STORE_PWR_STATE v n
  | .central => s.setFld F.GLB_CSTORE_PWR_STATE v

/-- A store serves accesses only while ON (R55, R60). -/
def State.storeOn (s : State) (id : StoreId) : Bool := s.storePower id == 0
end Sys2Proof.Machine
end

