-- ==== Sys2Proof/Machine/Express.lean ====
section
/-!
DEFINITION. What the real-time units use of the fabric (Keatu Fabric: Links, Discovery, Addressing and Routing): the
express queues of the ports, the ports a route uses, and the barriers that SYNC arrives at.
-/

namespace Sys2Proof.Machine

/-- KTL_PORT_STATUS.STATE: 0 OFF, 1 TRAIN, 2 UP, 3 DOWN, 4 BLOCKED (R463). -/
def State.ktlState (s : State) (p : Nat) : Nat := s.fld F.KTL_PORT_STATUS_STATE p

def State.ktlUp (s : State) (p : Nat) : Bool := s.ktlState p == 2

/-- The port carries traffic other than maintenance: it is UP and not MAINT_ONLY (R477, R493). -/
def State.ktlCarries (s : State) (p : Nat) : Bool := s.ktlUp p && !s.flag F.KTL_PORT_STATUS_MAINT_ONLY p

/-- Change a fabric port. -/
def State.modPort (s : State) (p : Nat) (f : KtlPort → KtlPort) : State :=
  if h : p < 4 then { s with ktl := { s.ktl with ports := s.ktl.ports.set p (f (s.ktl.ports.get ⟨p, h⟩)) h } } else s

/-- A fabric port. -/
def State.port (s : State) (p : Fin 4) : KtlPort := s.ktl.ports.get p

/-- This device's ID (R480). -/
def State.ownId (s : State) : Nat := s.fld F.KTL_ID_ID

/-- The verdict port towards a device: VPRI, or VALT in use; 7 for none (R472, R485). -/
def State.verdictPort (s : State) (dev : Nat) : Nat :=
  let p := if s.flag F.KTL_RT_V_ALT dev then s.fld F.KTL_RT_VALT dev else s.fld F.KTL_RT_VPRI dev
  if p = 4 then 4 else if p < 4 ∧ s.ktlCarries p then p else 7

/-- The alternate report that the crossbar samples for a destination (R485). -/
def State.altInUse (s : State) (dev : Nat) : Bool := s.flag F.KTL_RT_V_ALT dev || s.fld F.KTL_LINKS_DOWN_COUNT != 0

/-- An express word is dropped because the queue is full (R325). -/
def State.expressDrop (s : State) (p : Nat) : State :=
  ((s.count .VRD_EXP_DROP).setFlag F.VRD_STATUS_EXP_DROP true).raise Src.VERDICT_DROP Scope.device p

/-- An express word enters a port's queue of 32, or is dropped (R325, R472). -/
def State.expressSend (s : State) (p : Nat) (w : DWord) : State :=
  if h : p < 4 then
    let q := (s.port ⟨p, h⟩).express
    if 32 ≤ q.length then s.expressDrop p
    else (s.modPort p (fun x => { x with express := x.express ++ [w] })).peak F.VRD_EXPQ_MAX_DEPTH (q.length + 1) p
  else s

/-- An express word for a device goes to its port; a port field of 7 drops it (R472, R487). -/
def State.expressTo (s : State) (dev : Nat) (w : DWord) : State :=
  let p := s.verdictPort dev
  if p = 4 then { s with ktl := { s.ktl with inWords := s.ktl.inWords ++ [(4, w)] } }
  else if p < 4 then s.expressSend p w
  else s.count .KTL_UNREACH_DROP

/-- An express word to each carrying port of a list. -/
def State.expressEach (s : State) (ps : List Nat) (w : DWord) : State :=
  ps.foldl (fun s p => if s.ktlCarries p then s.expressSend p w else s) s

/-! ### Barriers (R488 to R491) -/

/-- The device takes part in barrier `b` (R488). -/
def State.barOk (s : State) (b : Nat) : Bool := s.flag F.KTL_BAR_CFG_VALID b && decide (s.fld F.KTL_BAR_CFG_PARENT b ≤ 4)

/-- This device is the root of barrier `b`. -/
def State.barRoot (s : State) (b : Nat) : Bool := s.fld F.KTL_BAR_CFG_PARENT b == 4

/-- The ports to the children of barrier `b`. -/
def State.barChildren (s : State) (b : Nat) : List Nat := setBits 4 (s.fld F.KTL_BAR_CFG_CHILD b)

/-- A barrier message (R490): KIND 0 ARRIVE, 1 RELEASE, 2 ABORT. -/
def barWord (b kind gen due : Nat) : DWord :=
  BitVec.ofNat 64 (b % 256 + (kind % 4) * 2 ^ 8 + (gen % 256) * 2 ^ 10 + (due % 2 ^ 24) * 2 ^ 18 + 2 ^ 62)

/-- The device holds a RELEASE or ABORT of barrier `b`. -/
def State.barHeld (s : State) (b : Nat) : Option BarrierHold := s.ktl.barriers.find? (fun h => h.bar = b)

/-- The device holds a RELEASE or ABORT that acts at tick `due` (R489, R490). -/
def State.barHold (s : State) (b due : Nat) (abort late : Bool) : State :=
  { (s.setFld F.KTL_BAR_STATE_PHASE 2 b) with
    ktl := { s.ktl with barriers := s.ktl.barriers.filter (fun h => h.bar ≠ b) ++ [{ bar := b, due := due, abort := abort, late := late }] } }

/-- The root ends a generation: U, the message to each child, and the hold (R489, R491). -/
def State.barEnd (s : State) (b : Nat) (abort : Bool) : State :=
  let d := max (s.fld F.KTL_BAR_DELAY_RDELAY b) 1
  let w := barWord b (if abort then 2 else 1) (s.fld F.KTL_BAR_STATE_GEN b) (s.beat + d)
  (s.expressEach (s.barChildren b) w).barHold b (s.now + d) abort false

/-- A SYNC of KIND 2 of slice `n` arrives at barrier `b` (R142, R489, R491). -/
def State.barrierArrive (s : State) (b : Nat) (n : Fin 16) : State :=
  if s.barOk b && (s.fld F.KTL_BAR_CFG_SLICES b).testBit n.val then
    s.setFld F.KTL_BAR_STATE_ARRIVED (putBit (s.fld F.KTL_BAR_STATE_ARRIVED b) n.val true) b
  else s.setFlag F.KTL_STATUS_BAR_NONMEMBER true

/-- The SYNC of a member of barrier `b` times out (R143, R491). -/
def State.barrierTimeout (s : State) (b : Nat) (n : Fin 16) : State :=
  if s.barOk b && (s.fld F.KTL_BAR_CFG_SLICES b).testBit n.val && (s.barHeld b).isNone then
    if s.barRoot b then s.barEnd b true
    else s.expressEach [s.fld F.KTL_BAR_CFG_PARENT b] (barWord b 2 (s.fld F.KTL_BAR_STATE_GEN b) 0)
  else s

end Sys2Proof.Machine
end

