-- ==== Sys2Proof/Machine/Operands.lean ====
section
/-!
DEFINITION. The operand forms of the slice sequencer (R107 to R109, R115 to R118): an instruction word of 128 bits taken
apart, the word of an instruction, and the operand range of every event action.
-/

namespace Sys2Proof.Machine

/-- A short event word (R115). -/
def shortEvent (w : Nat) : EventWord :=
  { long := false, offset := BitVec.ofNat 4 (bitsAt w 16 4), unit := BitVec.ofNat 7 (bitsAt w 9 7),
    act := BitVec.ofNat 3 (bitsAt w 6 3), data := BitVec.ofNat 26 (bitsAt w 0 6) }

/-- A long event word (R115). -/
def longEvent (w : Nat) : EventWord :=
  { long := true, offset := BitVec.ofNat 4 (bitsAt w 36 4), unit := BitVec.ofNat 7 (bitsAt w 29 7),
    act := BitVec.ofNat 3 (bitsAt w 26 3), data := BitVec.ofNat 26 (bitsAt w 0 26) }

/-- The timeout operands of WAITV, SYNC and CMPR, whose limit stands at bit `lo` (R109). -/
def timeoutAt (w lo : Nat) : Timeout :=
  { beats := BitVec.ofNat 32 (bitsAt w lo 32), target := BitVec.ofNat 18 (bitsAt w (lo + 32) 18), stop := w.testBit (lo + 50) }

/-- The instruction a 128-bit word holds; none where its opcode is undefined (R107 to R109). -/
def decodeWord (w : Nat) : Option SeqInstr :=
  match bitsAt w 120 8 with
  | 0x00 => some .nop
  | 0x01 => some (.halt (BitVec.ofNat 16 (bitsAt w 0 16)))
  | 0x02 => some (.jump (BitVec.ofNat 18 (bitsAt w 0 18)) (BitVec.ofNat 3 (bitsAt w 18 3)))
  | 0x03 => some (.call (BitVec.ofNat 18 (bitsAt w 0 18)))
  | 0x04 => some .ret
  | 0x05 => some (.loop (BitVec.ofNat 32 (bitsAt w 0 32)) (BitVec.ofNat 18 (bitsAt w 32 18)) (w.testBit 50)
      (BitVec.ofNat 3 (bitsAt w 51 3)))
  | 0x06 => some .endloop
  | 0x08 => some (.wait (BitVec.ofNat 32 (bitsAt w 0 32)))
  | 0x09 => some (.waita (BitVec.ofNat 64 (bitsAt w 0 64)))
  | 0x0A => some (.waitv (BitVec.ofNat 16 (bitsAt w 0 16)) (BitVec.ofNat 2 (bitsAt w 16 2)) (BitVec.ofNat 2 (bitsAt w 18 2))
      (timeoutAt w 20))
  | 0x0B => some (.sync (BitVec.ofNat 2 (bitsAt w 0 2)) (BitVec.ofNat 8 (bitsAt w 2 8)) (timeoutAt w 10))
  | 0x0C => some (.idle (BitVec.ofNat 32 (bitsAt w 0 32)) (BitVec.ofNat 23 (bitsAt w 32 23)))
  | 0x0D => some (.elastic (BitVec.ofNat 24 (bitsAt w 0 24)))
  | 0x10 => some (.emit ((List.range 6).map (fun e => shortEvent (bitsAt w (20 * e) 20))))
  | 0x11 => some (.emitl ((List.range 3).map (fun e => longEvent (bitsAt w (40 * e) 40))))
  | 0x18 => some (.branch (BitVec.ofNat 6 (bitsAt w 0 6)) (w.testBit 6) (BitVec.ofNat 16 (bitsAt w 7 16))
      (BitVec.ofNat 18 (bitsAt w 23 18)) (BitVec.ofNat 18 (bitsAt w 41 18)) (BitVec.ofNat 18 (bitsAt w 59 18))
      (BitVec.ofNat 18 (bitsAt w 77 18)))
  | 0x19 => some (.cmpr (w.testBit 0) (BitVec.ofNat 6 (bitsAt w 1 6)) (BitVec.ofNat 3 (bitsAt w 7 3))
      (BitVec.ofNat 4 (bitsAt w 10 4)) (timeoutAt w 14))
  | 0x1A => some (.clrv (BitVec.ofNat 6 (bitsAt w 0 6)))
  | _ => none

/-- The instruction in sixteen bytes of the store, little-endian (R107). -/
def decodeSeq (l : List Byte) : Option SeqInstr := decodeWord (ofBytes l)

/-- The bits of a short event word. -/
def shortBits (e : EventWord) : Nat :=
  e.data.toNat % 64 + e.act.toNat * 2 ^ 6 + e.unit.toNat * 2 ^ 9 + e.offset.toNat * 2 ^ 16

/-- The bits of a long event word. -/
def longBits (e : EventWord) : Nat :=
  e.data.toNat + e.act.toNat * 2 ^ 26 + e.unit.toNat * 2 ^ 29 + e.offset.toNat * 2 ^ 36

/-- Event words one after another, each `width` bits. -/
def packWords (bits : EventWord → Nat) (width : Nat) : List EventWord → Nat
  | [] => 0
  | e :: t => bits e + 2 ^ width * packWords bits width t

/-- The timeout operands from bit 0 up. -/
def timeoutBits (t : Timeout) : Nat := t.beats.toNat + t.target.toNat * 2 ^ 32 + bit01 t.stop * 2 ^ 50

/-- The 128-bit word of an instruction; operand bits that R109 does not name are zero (R107). -/
def encodeWord : SeqInstr → Nat
  | .nop => 0
  | .halt c => c.toNat + 0x01 * 2 ^ 120
  | .jump t p => t.toNat + p.toNat * 2 ^ 18 + 0x02 * 2 ^ 120
  | .call t => t.toNat + 0x03 * 2 ^ 120
  | .ret => 0x04 * 2 ^ 120
  | .loop c e r g => c.toNat + e.toNat * 2 ^ 32 + bit01 r * 2 ^ 50 + g.toNat * 2 ^ 51 + 0x05 * 2 ^ 120
  | .endloop => 0x06 * 2 ^ 120
  | .wait b => b.toNat + 0x08 * 2 ^ 120
  | .waita b => b.toNat + 0x09 * 2 ^ 120
  | .waitv s m w t => s.toNat + m.toNat * 2 ^ 16 + w.toNat * 2 ^ 18 + timeoutBits t * 2 ^ 20 + 0x0A * 2 ^ 120
  | .sync k i t => k.toNat + i.toNat * 2 ^ 2 + timeoutBits t * 2 ^ 10 + 0x0B * 2 ^ 120
  | .idle b o => b.toNat + o.toNat * 2 ^ 32 + 0x0C * 2 ^ 120
  | .elastic m => m.toNat + 0x0D * 2 ^ 120
  | .emit ws => packWords shortBits 20 ws + 0x10 * 2 ^ 120
  | .emitl ws => packWords longBits 40 ws + 0x11 * 2 ^ 120
  | .branch d m t t0 t1 t2 t3 =>
    d.toNat + bit01 m * 2 ^ 6 + t.toNat * 2 ^ 7 + t0.toNat * 2 ^ 23 + t1.toNat * 2 ^ 41 + t2.toNat * 2 ^ 59 + t3.toNat * 2 ^ 77 +
      0x18 * 2 ^ 120
  | .cmpr a c f l t => bit01 a + c.toNat * 2 + f.toNat * 2 ^ 7 + l.toNat * 2 ^ 10 + timeoutBits t * 2 ^ 14 + 0x19 * 2 ^ 120
  | .clrv d => d.toNat + 0x1A * 2 ^ 120

/-- The sixteen bytes of an instruction. -/
def encodeSeq (i : SeqInstr) : List Byte := toBytes 16 (encodeWord i)

/-- The units of R117. -/
inductive EventUnit where
  | streamer
  | capture
  | tx (k : Nat)
  | tone (u : Nat)
  | marker (m : Nat)
  | bin (u : Nat)
  | acq
  | ff (f : Nat)
  | tdc (c : Nat)
  | mad
deriving DecidableEq, Repr

/-- The unit a code names; none for a reserved code (R117). Tones and bins are numbered within the slice: tone u is
8k + t, bin u is 16j + b; markers 2k + m. -/
def eventUnit (code : Nat) : Option EventUnit :=
  if code = 0x01 then some .streamer
  else if code = 0x02 then some .capture
  else if 0x04 ≤ code ∧ code ≤ 0x07 then some (.tx (code - 0x04))
  else if 0x08 ≤ code ∧ code ≤ 0x27 then some (.tone (code - 0x08))
  else if 0x28 ≤ code ∧ code ≤ 0x2F then some (.marker (code - 0x28))
  else if 0x30 ≤ code ∧ code ≤ 0x4F then some (.bin (code - 0x30))
  else if code = 0x50 then some .acq
  else if 0x58 ≤ code ∧ code ≤ 0x5F then some (.ff (code - 0x58))
  else if 0x60 ≤ code ∧ code ≤ 0x67 then some (.tdc (code - 0x60))
  else if code = 0x68 then some .mad
  else none

/-- The form of an action and the bound of its operand: whether it is Long, and the number its operand stays below (R118
and the chapters of the units); none for an action the unit does not have. -/
def eventForm (unit : BitVec 7) (act : BitVec 3) : Option (Bool × Nat) :=
  match eventUnit unit.toNat with
  | none => none
  | some u =>
    match u, act.toNat with
    | .streamer, 0 => some (true, 2 ^ 26)
    | .streamer, 1 => some (false, 64)
    | .streamer, 2 => some (false, 64)
    | .capture, 0 => some (false, 64)
    | .capture, 1 => some (false, 64)
    | .capture, 2 => some (true, 2 ^ 26)
    | .tx _, 0 => some (false, 64)
    | .tx _, 1 => some (false, 64)
    | .tone _, 0 => some (true, 98304)
    | .tone _, 1 => some (false, 64)
    | .tone _, 2 => some (false, 32)
    | .tone _, 3 => some (true, 2 ^ 25)
    | .marker _, 0 => some (false, 64)
    | .marker _, 1 => some (false, 64)
    | .marker _, 2 => some (false, 64)
    | .bin _, 0 => some (false, 4)
    | .bin _, 1 => some (false, 1)
    | .acq, 0 => some (false, 64)
    | .acq, 1 => some (false, 1)
    | .acq, 2 => some (false, 1)
    | .ff _, 0 => some (true, 2 ^ 19)
    | .ff _, 1 => some (false, 6)
    | .ff _, 2 => some (false, 64)
    | .tdc _, 0 => some (false, 4)
    | .tdc _, 1 => some (false, 1)
    | .tdc _, 2 => some (false, 1)
    | .mad, 0 => some (false, 16)
    | .mad, 1 => some (false, 64)
    | _, _ => none

end Sys2Proof.Machine
end

