-- ==== Sys2Proof/Machine/Flags.lean ====
section
/-!
DEFINITION. The flag computations of the device: the comparison code of CMPR (R139), and when a streamer counts as ready
(R182).
-/

namespace Sys2Proof.Machine

/-- The code a CMPR gives its flag (R139): 3 for a result with an overflow or invalid flag, 1 below the lower limit, 2
above the upper, else 0. Where the limits are crossed and both hold, the lower row of the table is named first. -/
def compareCode (lo hi value : Int) (bad : Bool) : Nat :=
  if bad then 3 else if value < lo then 1 else if hi < value then 2 else 0

/-- The fill of the stream ring of slice `n` in lines (R180); 0 where no ring is configured. -/
def State.ringFill (s : State) (n : Nat) : Nat :=
  let l := s.fld F.VEC_RING_LINES_LINES n
  if l = 0 then 0 else (s.fld F.VEC_RING_WP_OFFSET n + l - s.fld F.VEC_RING_RP_OFFSET n % l) % l

/-- The streamer of slice `n` is ready (R182). -/
def State.streamReady (s : State) (n : Nat) : Bool :=
  s.fld F.VEC_RING_LINES_LINES n == 0 || decide (s.fld F.VEC_RING_READY_LINES n ≤ s.ringFill n) ||
    s.flag F.VEC_RING_READY_LAST n

end Sys2Proof.Machine
end

