-- ==== Sys2Proof/Machine/Sequencer.lean ====
section
/-!
DEFINITION. The slice sequencer (Slice Sequencer Programming, R103 to R157): the issue check, the effect of each
instruction, resolution and timeout of the blocking ones, run, halt, step and errors.
-/

namespace Sys2Proof.Machine

/-! ### State codes (R106) and error codes (R153) -/

namespace SeqCode
def halted : Nat := 0
def running : Nat := 1
def waiting : Nat := 2
def blocked : Nat := 3
def stalled : Nat := 4
def error : Nat := 5
def drained : Nat := 6
end SeqCode

namespace SeqErr
def illegalOp : Nat := 1
def illegalOperand : Nat := 2
def badAddress : Nat := 3
def loopOverflow : Nat := 4
def loopUnderflow : Nat := 5
def loopMismatch : Nat := 6
def callOverflow : Nat := 7
def retUnderflow : Nat := 8
def badDescriptor : Nat := 9
def verdictTimeout : Nat := 10
def syncTimeout : Nat := 11
def resultTimeout : Nat := 12
def poisonedFetch : Nat := 13
def faultHalt : Nat := 14
end SeqErr

/-- The last instruction index (R104). -/
def lastIndex : Nat := 196607

/-- SEQ_STATUS.STATE of a slice. -/
def seqState (s : State) (n : Fin 16) : Nat := s.fld F.SEQ_STATUS_STATE n

/-- SEQ_PC of a slice. -/
def seqPc (s : State) (n : Fin 16) : Nat := s.fld F.SEQ_PC_INDEX n

def setSeqState (s : State) (n : Fin 16) (v : Nat) : State := s.setFld F.SEQ_STATUS_STATE v n

def setSeqPc (s : State) (n : Fin 16) (v : Nat) : State := s.setFld F.SEQ_PC_INDEX v n

/-- Change the sequencer of a slice. -/
def modSeq (s : State) (n : Fin 16) (f : Sequencer → Sequencer) : State := s.modSl n (fun x => { x with seq := f x.seq })

/-- An error stop without a report (R152): state, code and both program counters. -/
def seqStop (s : State) (n : Fin 16) (err p : Nat) : State :=
  let s := modSeq s n (fun q => { q with pend := none, acted := true, starting := false, stepping := false })
  ((((s.setFld F.SEQ_STATUS_STATE SeqCode.error n).setFld F.SEQ_STATUS_ERR err n).setFld F.SEQ_ERR_PC_INDEX p n).setFld
    F.SEQ_PC_INDEX p n).pewterEvent n 5

/-- An error of the program stops the sequencer and is reported as a SEQ_ERROR fault and an event (R152, R519). -/
def seqError (s : State) (n : Fin 16) (err p : Nat) : State :=
  let s := seqStop s n err p
  let s := s.raise Src.SEQ_ERROR n.val (bitsAt p 0 18 + err * 2 ^ 18)
  s.event EvCode.SEQ_ERROR n.val 0 (err + bitsAt p 0 18 * 2 ^ 8)

/-- The stop of a containment already under way (R152): no SEQ_ERROR is reported. -/
def seqFaultHalt (s : State) (n : Fin 16) : State :=
  if seqState s n = SeqCode.drained then s else seqStop s n SeqErr.faultHalt (seqPc s n)

/-! ### Inputs of decisions (R129 to R133, R140) -/

/-- The kinds of an input selector (R131). -/
inductive SelKind where
  | verdict
  | imported
  | flag
  | zero
deriving DecidableEq, Repr

/-- An input selector taken apart (R131). -/
structure Selector where
  index : Nat
  bit : Bool
  kind : SelKind
  invert : Bool
deriving DecidableEq, Repr

def Selector.ofBits (v : Nat) : Selector :=
  { index := bitsAt v 0 10, bit := v.testBit 10, invert := v.testBit 13,
    kind := match bitsAt v 11 2 with
      | 0 => .verdict
      | 1 => .imported
      | 2 => .flag
      | _ => .zero }

/-- The value an input has at the sequencer (R129, R139). -/
def inputValue (s : State) (n : Fin 16) (x : Selector) : Nat :=
  match x.kind with
  | .verdict => (s.sl n).seq.copies.at x.index % 4
  | .imported => (s.sl n).seq.copies.at (1024 + x.index) % 4
  | .flag => bitsAt (s.fld F.SEQ_FLAGS_VALUE n) (2 * x.index) 2
  | .zero => 0

/-- Whether an input is marked new. The constant is never new. -/
def inputNew (s : State) (n : Fin 16) (x : Selector) : Bool :=
  match x.kind with
  | .verdict => (s.fld F.SEQ_VNEW_NEW n (x.index / 32)).testBit (x.index % 32)
  | .imported => (s.fld F.SEQ_XNEW_NEW n (x.index / 32)).testBit (x.index % 32)
  | .flag => (s.fld F.SEQ_FLAGS_NEW n).testBit x.index
  | .zero => false

/-- Set or clear the new mark of an input. -/
def setNew (s : State) (n : Fin 16) (x : Selector) (b : Bool) : State :=
  match x.kind with
  | .verdict => s.setFld F.SEQ_VNEW_NEW (putBit (s.fld F.SEQ_VNEW_NEW n (x.index / 32)) (x.index % 32) b) n (x.index / 32)
  | .imported => s.setFld F.SEQ_XNEW_NEW (putBit (s.fld F.SEQ_XNEW_NEW n (x.index / 32)) (x.index % 32) b) n (x.index / 32)
  | .flag => s.setFld F.SEQ_FLAGS_NEW (putBit (s.fld F.SEQ_FLAGS_NEW n) x.index b) n
  | .zero => s

/-- The sixteen selectors of branch descriptor `d` (R132). -/
def descSelectors (s : State) (n : Fin 16) (d : Nat) : List Selector :=
  (List.range 16).map (fun i =>
    Selector.ofBits (if i % 2 = 0 then s.fld F.SEQ_BSEL_SEL_LO n (8 * d + i / 2) else s.fld F.SEQ_BSEL_SEL_HI n (8 * d + i / 2)))

/-- Whether a descriptor is one a BRANCH or CLRV may name (R133). -/
def descOk (s : State) (n : Fin 16) (d : Nat) : Bool :=
  decide (s.fld F.SEQ_BRD_COUNT n d ≤ 32) &&
  decide (s.fld F.SEQ_BRD_FIRST n d + s.fld F.SEQ_BRD_COUNT n d ≤ 1024) &&
  (descSelectors s n d).all (fun x => match x.kind with
    | .imported => decide (x.index ≤ 255)
    | .flag => decide (x.index ≤ 7)
    | _ => true)

/-- The 16-bit input word of a descriptor (R132, step 1). -/
def descInput (s : State) (n : Fin 16) (d : Nat) : Nat :=
  ((descSelectors s n d).zipIdx.map (fun p =>
    bit01 (xor ((inputValue s n p.1).testBit (bit01 p.1.bit)) p.1.invert) * 2 ^ p.2)).sum

/-- The result of the first matching term from `k` on, `left` terms to go (R132, steps 2 and 3). -/
def firstTerm (s : State) (n : Fin 16) (input dflt : Nat) : Nat → Nat → Nat
  | 0, _ => dflt
  | left + 1, k =>
    if (input ^^^ s.fld F.SEQ_BTERM_VALUE n k) &&& s.fld F.SEQ_BTERM_CARE n k = 0 then
      bitsAt (s.fld F.SEQ_BRES_RES n (k / 16)) (2 * (k % 16)) 2
    else firstTerm s n input dflt left (k + 1)

/-- The 2-bit result of a branch descriptor (R132). -/
def descResult (s : State) (n : Fin 16) (d : Nat) : Nat :=
  firstTerm s n (descInput s n d) (s.fld F.SEQ_BRD_DEFAULT n d) (s.fld F.SEQ_BRD_COUNT n d) (s.fld F.SEQ_BRD_FIRST n d)

/-- Every selected input of kind 0, 1 or 2 is new (R135). -/
def descAllNew (s : State) (n : Fin 16) (d : Nat) : Bool :=
  (descSelectors s n d).all (fun x => x.kind == .zero || inputNew s n x)

/-- Clear the new marks of a descriptor's inputs (R135, R137). -/
def descClear (s : State) (n : Fin 16) (d : Nat) : State :=
  (descSelectors s n d).foldl (fun s x => setNew s n x false) s

/-! ### The issue check (R110, R115, R117, R118, R138) -/

/-- An event word an EMIT or EMITL may carry: its unit is empty or known, its action is one of the unit's, in the form the
action has, with an operand in the range the unit's chapter gives. -/
def eventOk (w : EventWord) : Bool :=
  w.unit == 0 || match eventForm w.unit w.act with
    | none => false
    | some (isLong, limit) => (w.long || !isLong) && (isLong || decide (bitsAt w.data.toNat 0 6 < limit))
        && (!isLong || decide (w.data.toNat < limit))

/-- A target that can be transferred to. -/
def targetOk (t : BitVec 18) : Bool := decide (t.toNat ≤ lastIndex)

/-- The timeout target is checked only where it can be taken (R110). -/
def timeoutOk (t : Timeout) : Bool := t.stop || targetOk t.target

/-- What the issue check finds: the error that stops the sequencer, or none (R110). The instruction stands at `p`. -/
def issueCheck (s : State) (n : Fin 16) (p : Nat) : SeqInstr → Option Nat
  | .jump t _ => if targetOk t then none else some SeqErr.badAddress
  | .call t => if targetOk t then none else some SeqErr.badAddress
  | .loop _ e _ _ =>
    if e.toNat ≤ p then some SeqErr.illegalOperand else if targetOk e then none else some SeqErr.badAddress
  | .waitv sel _ _ t =>
    let x := Selector.ofBits sel.toNat
    if x.kind == .zero || (x.kind == .imported && decide (255 < x.index)) || (x.kind == .flag && decide (7 < x.index)) then
      some SeqErr.illegalOperand
    else if timeoutOk t then none else some SeqErr.badAddress
  | .sync kind id t =>
    if kind = 3 ∨ (kind ≠ 2 ∧ 7 < id.toNat) then some SeqErr.illegalOperand
    else if timeoutOk t then none else some SeqErr.badAddress
  | .emit ws => if ws.all eventOk then none else some SeqErr.illegalOperand
  | .emitl ws => if ws.all eventOk then none else some SeqErr.illegalOperand
  | .branch d _ _ t0 t1 t2 t3 =>
    if !(targetOk t0 && targetOk t1 && targetOk t2 && targetOk t3) then some SeqErr.badAddress
    else if descOk s n d.toNat then none else some SeqErr.badDescriptor
  | .cmpr adc ch _ _ t =>
    if (!adc && decide (7 < ch.toNat)) || (adc && decide (47 < ch.toNat)) then some SeqErr.illegalOperand
    else if timeoutOk t then none else some SeqErr.badAddress
  | .clrv d => if descOk s n d.toNat then none else some SeqErr.badDescriptor
  | _ => none

/-! ### Advancing -/

/-- The instruction is finished and `next` is the next to issue (R103, R104, R149). -/
def seqFinish (s : State) (n : Fin 16) (p next : Nat) : State :=
  if lastIndex < next then seqError s n SeqErr.badAddress p
  else
    let stepping := (s.sl n).seq.stepping
    let s := modSeq s n (fun q => { q with pend := none, acted := true, stepping := false })
    (s.setFld F.SEQ_PC_INDEX next n).setFld F.SEQ_STATUS_STATE (if stepping then SeqCode.halted else SeqCode.running) n

/-- The instruction at `p` now waits or blocks; a wait ends at tick `due`. -/
def seqHold (s : State) (n : Fin 16) (p due : Nat) (i : SeqInstr) (code : Nat) : State :=
  let s := modSeq s n (fun q => { q with pend := some { instr := i, index := p, issued := s.now, due := due, hit := none }, acted := true })
  s.setFld F.SEQ_STATUS_STATE code n

/-- A DECISION record of the journal, on the slices whose bit is set (R666, R667). -/
def seqDecision (s : State) (n : Fin 16) (kind : Nat) (timedOut : Bool) (p next ext : Nat) : State :=
  if (s.fld F.RPL_DEC_EN_SLICES).testBit n.val then
    s.journal JType.DECISION n.val (kind + 8 * bit01 timedOut) (bitsAt p 0 18 + bitsAt next 0 18 * 2 ^ 18 + bitsAt ext 0 24 * 2 ^ 36)
  else s

/-- The four targets of a BRANCH. -/
def branchTarget (r : Nat) (t0 t1 t2 t3 : BitVec 18) : Nat :=
  match r with
  | 0 => t0.toNat
  | 1 => t1.toNat
  | 2 => t2.toNat
  | _ => t3.toNat

/-- The descriptor of a BRANCH evaluates and the selected target is next (R134, R135). -/
def branchTake (s : State) (n : Fin 16) (p d : Nat) (t0 t1 t2 t3 : BitVec 18) (clear : Bool) : State :=
  let next := branchTarget (descResult s n d) t0 t1 t2 t3
  let s := if clear then descClear s n d else s
  seqDecision (seqFinish s n p next) n 0 false p next 0

/-- A timeout of WAITV, SYNC or CMPR acts (R138, R139, R143). -/
def timeoutTake (s : State) (n : Fin 16) (p kind err : Nat) (t : Timeout) : State :=
  let s := (s.count .SEQ_TIMEOUTS n).setFld F.SEQ_STATUS_TIMEOUT 1 n
  if t.stop then seqDecision (seqError s n err p) n kind true p p 0
  else seqDecision (seqFinish s n p t.target.toNat) n kind true p t.target.toNat 0

/-- An edge of the selected direction takes effect on the line in this beat (R141). -/
def syncEdge (s : State) (kind : BitVec 2) (id : BitVec 8) : Bool :=
  if kind = 0 then s.trg.lastRise.at id.toNat == s.now + 1 else s.trg.lastFall.at id.toNat == s.now + 1

/-- Whether the streamer of slice `n` is ready in the sense of R182. -/
def vecReady (s : State) (n : Fin 16) : Bool := s.streamReady n

/-- Resolve the pending instruction of slice `n` if its condition holds in this beat (R135, R138, R139, R141, R142, R145);
otherwise nothing changes. -/
def seqResolve (s : State) (n : Fin 16) : State :=
  match (s.sl n).seq.pend with
  | none => s
  | some q =>
    match q.instr with
    | .branch d true _ t0 t1 t2 t3 =>
      if descAllNew s n d.toNat then branchTake s n q.index d.toNat t0 t1 t2 t3 true else s
    | .waitv sel mask want _ =>
      let x := Selector.ofBits sel.toNat
      if inputNew s n x then
        let s := setNew s n x false
        if (inputValue s n x) &&& mask.toNat = want.toNat then
          seqDecision (seqFinish s n q.index (q.index + 1)) n 1 false q.index (q.index + 1) 0
        else s
      else s
    | .sync kind id _ =>
      if (if kind = 2 then q.hit.isSome else syncEdge s kind id) then
        seqDecision (seqFinish s n q.index (q.index + 1)) n 2 false q.index (q.index + 1) 0
      else s
    | .cmpr _ _ flag _ _ =>
      match q.hit with
      | some (code, at_) =>
        if at_ < s.now then
          let s := s.setFld F.SEQ_FLAGS_VALUE (putBits (s.fld F.SEQ_FLAGS_VALUE n) (2 * flag.toNat) 2 code) n
          let s := s.setFld F.SEQ_FLAGS_NEW (putBit (s.fld F.SEQ_FLAGS_NEW n) flag.toNat true) n
          seqDecision (seqFinish s n q.index (q.index + 1)) n 3 false q.index (q.index + 1) 0
        else s
      | none => s
    | .elastic _ =>
      if vecReady s n then
        seqDecision (seqFinish s n q.index (q.index + 1)) n 4 false q.index (q.index + 1) (s.now - q.issued)
      else s
    | _ => s

/-- The tick at which the pending instruction times out, where it has a limit (R109, R136). -/
def seqDeadline (q : PendingInstr) : Option Nat :=
  match q.instr with
  | .branch _ true t _ _ _ _ => if t = 0 then none else some (q.issued + t.toNat)
  | .waitv _ _ _ t => if t.beats = 0 then none else some (q.issued + t.beats.toNat)
  | .sync _ _ t => if t.beats = 0 then none else some (q.issued + t.beats.toNat)
  | .cmpr _ _ _ _ t => if t.beats = 0 then none else some (q.issued + t.beats.toNat)
  | .elastic m => some (q.issued + m.toNat)
  | _ => none

/-- The pending instruction times out in this beat, having failed to resolve (R136, R138, R139, R143, R145). -/
def seqTimeOut (s : State) (n : Fin 16) (q : PendingInstr) : State :=
  match q.instr with
  | .branch _ true _ _ _ _ _ =>
    let s := (s.count .SEQ_TIMEOUTS n).setFld F.SEQ_STATUS_TIMEOUT 1 n
    seqDecision (seqFinish s n q.index (q.index + 1)) n 0 true q.index (q.index + 1) 0
  | .waitv _ _ _ t => timeoutTake s n q.index 1 SeqErr.verdictTimeout t
  | .sync kind id t => timeoutTake (if kind = 2 then s.barrierTimeout id.toNat n else s) n q.index 2 SeqErr.syncTimeout t
  | .cmpr _ _ _ _ t => timeoutTake s n q.index 3 SeqErr.resultTimeout t
  | .elastic m =>
    let s := s.setFld F.SEQ_STATUS_ELASTIC_EXPIRED 1 n
    seqDecision (seqFinish s n q.index (q.index + 1)) n 4 true q.index (q.index + 1) m.toNat
  | _ => s

/-- Step 5 of R105 for an instruction that blocks: resolve if it can, else time out if its limit is reached. -/
def seqBlockedStep (s : State) (n : Fin 16) : State :=
  let s := seqResolve s n
  match (s.sl n).seq.pend with
  | none => s
  | some q =>
    match seqDeadline q with
    | some t => if t ≤ s.now then seqTimeOut s n q else s
    | none => s

/-! ### Issue -/

/-- Schedule the event words of an EMIT or EMITL (R115, R116, R119, R121); an empty word is ignored. -/
def seqSchedule (s : State) (n : Fin 16) (ws : List EventWord) : State :=
  let evs := (ws.filter (fun w => w.unit ≠ 0)).map (fun w =>
    ({ due := s.now + 1 + w.offset.toNat, unit := w.unit, act := w.act, data := w.data } : SeqEvent))
  modSeq s n (fun q => { q with events := q.events ++ evs })

/-- The effect of an instruction that passed its check, issued at index `p` in this beat. -/
def seqEffect (s : State) (n : Fin 16) (p : Nat) (i : SeqInstr) : State :=
  let seq := (s.sl n).seq
  match i with
  | .nop => seqFinish s n p (p + 1)
  | .halt code =>
    let s := modSeq s n (fun q => { q with pend := none, acted := true, stepping := false })
    let s := ((s.setFld F.SEQ_STATUS_STATE SeqCode.halted n).setFld F.SEQ_HALT_CODE_CODE code.toNat n).setFld F.SEQ_PC_INDEX (p + 1) n
    s.event EvCode.SEQ_HALT n.val 0 code.toNat
  | .jump t pop =>
    if seq.loops.length < pop.toNat then seqError s n SeqErr.loopUnderflow p
    else seqFinish (modSeq s n (fun q => { q with loops := q.loops.drop pop.toNat })) n p t.toNat
  | .call t =>
    if 16 ≤ seq.calls.length then seqError s n SeqErr.callOverflow p
    else seqFinish (modSeq s n (fun q => { q with calls := (p + 1) :: q.calls })) n p t.toNat
  | .ret =>
    match seq.calls with
    | [] => seqError s n SeqErr.retUnderflow p
    | r :: t => seqFinish (modSeq s n (fun q => { q with calls := t })) n p r
  | .loop count e fromReg reg =>
    let c := if fromReg then s.fld F.SEQ_LCOUNT_COUNT n reg.toNat else count.toNat
    if c = 0 then seqFinish s n p (e.toNat + 1)
    else if 8 ≤ seq.loops.length then seqError s n SeqErr.loopOverflow p
    else seqFinish (modSeq s n (fun q =>
      { q with loops := { start := p + 1, endIndex := e.toNat, remaining := c } :: q.loops })) n p (p + 1)
  | .endloop =>
    match seq.loops with
    | [] => seqError s n SeqErr.loopUnderflow p
    | l :: t =>
      if l.endIndex ≠ p then seqError s n SeqErr.loopMismatch p
      else if 1 < l.remaining then
        seqFinish (modSeq s n (fun q => { q with loops := { l with remaining := l.remaining - 1 } :: t })) n p l.start
      else seqFinish (modSeq s n (fun q => { q with loops := t })) n p (p + 1)
  | .wait b => seqHold s n p (s.now + max b.toNat 1) i SeqCode.waiting
  | .waita b =>
    if b.toNat < s.beat + 1 then
      let s := (s.count .SEQ_LATE n).setFld F.SEQ_STATUS_LATE 1 n
      seqHold s n p (s.now + 1) i SeqCode.waiting
    else seqHold s n p (s.now + (b.toNat - s.beat)) i SeqCode.waiting
  | .idle b _ => seqHold s n p (s.now + max b.toNat 1) i SeqCode.waiting
  | .waitv _ _ _ _ => seqBlockedStep (seqHold s n p 0 i SeqCode.blocked) n
  | .sync kind id _ =>
    let s := seqHold s n p 0 i SeqCode.blocked
    seqBlockedStep (if kind = 2 then s.barrierArrive id.toNat n else s) n
  | .elastic m =>
    let s := seqHold s n p 0 i SeqCode.waiting
    let s := seqBlockedStep s n
    if (s.sl n).seq.pend.isSome ∧ m ≠ 0 then s.count .SEQ_ELASTIC_BEATS n else s
  | .emit ws => seqFinish (seqSchedule s n ws) n p (p + 1)
  | .emitl ws => seqFinish (seqSchedule s n ws) n p (p + 1)
  | .branch d newMode _ t0 t1 t2 t3 =>
    if newMode then seqBlockedStep (seqHold s n p 0 i SeqCode.blocked) n
    else branchTake s n p d.toNat t0 t1 t2 t3 false
  | .cmpr _ _ _ _ _ => seqHold s n p 0 i SeqCode.blocked
  | .clrv d => seqFinish (descClear s n d.toNat) n p (p + 1)

/-- The targets an instruction names, in the fetcher's order (R111). -/
def namedTargets : SeqInstr → List Nat
  | .branch _ _ _ t0 t1 t2 t3 => [t0.toNat, t1.toNat, t2.toNat, t3.toNat]
  | .waitv _ _ _ t => if t.stop then [] else [t.target.toNat]
  | .sync _ _ t => if t.stop then [] else [t.target.toNat]
  | .cmpr _ _ _ _ t => if t.stop then [] else [t.target.toNat]
  | _ => []

/-- Issue an instruction at SEQ_PC: the check, then the effect (R103, R104, R110). -/
def seqIssue (s : State) (n : Fin 16) (i : SeqInstr) : State :=
  let p := seqPc s n
  let s := modSeq s n (fun q => { q with acted := true, starting := false })
  if lastIndex < p then seqError s n SeqErr.badAddress p
  else
    match issueCheck s n p i with
    | some e => seqError s n e p
    | none => seqEffect (modSeq (s.pairAdd .SEQ_ISSUED_LO .SEQ_ISSUED_HI 1 n) n (fun q => { q with named := namedTargets i })) n p i

/-- Whether slice `n` can issue in this beat: it runs, or its start beat has come, and step 5 is still to do. -/
def seqCanIssue (s : State) (n : Fin 16) : Bool :=
  let q := (s.sl n).seq
  !q.acted && q.pend.isNone &&
    ((q.starting && decide (q.startAt ≤ s.now)) ||
     (!q.starting && (seqState s n == SeqCode.running || seqState s n == SeqCode.stalled)))

/-- An instruction that the sequencer of slice `n` issues in this beat, if it can issue. -/
def seqIssueNow (s : State) (n : Fin 16) (i : SeqInstr) : State := if seqCanIssue s n then seqIssue s n i else s

/-- Mark the line of an instruction as used in this beat (R113). -/
def seqTouch (s : State) (n : Fin 16) (line : Nat) : State :=
  modSeq s n (fun q => { q with fetch := q.fetch.map (fun f => if f.line = line then { f with used := s.now } else f) })

/-- Issue what the fetch buffer holds at SEQ_PC, or stall (R104, R110, R112, R114). Before the first issue of a RUN or STEP the state stays
WAITING (R147). -/
def seqIssueFetched (s : State) (n : Fin 16) : State :=
  let p := seqPc s n
  if lastIndex < p then seqIssue s n .nop
  else
    match (s.sl n).seq.fetch.find? (fun f => f.line = p / 8 ∧ f.fetched < s.now) with
    | none =>
      let s := modSeq s n (fun q => { q with acted := true })
      let s := s.count .SEQ_STALL n
      (if (s.sl n).seq.starting then s else setSeqState s n SeqCode.stalled).conflict n 0
    | some f =>
      if f.poison.any (fun w => w / 2 = p % 8) then
        seqError (modSeq s n (fun q => { q with starting := false })) n SeqErr.poisonedFetch p
      else
        match decodeSeq ((f.data.drop (16 * (p % 8))).take 16) with
        | none => seqError (modSeq s n (fun q => { q with starting := false })) n SeqErr.illegalOp p
        | some i => seqIssue (seqTouch s n (p / 8)) n i

/-- Issue the fetched instruction if the sequencer can issue in this beat. -/
def seqFetchedNow (s : State) (n : Fin 16) : State := if seqCanIssue s n then seqIssueFetched s n else s

/-- A WAIT, WAITA or IDLE whose time has come ends, and the next instruction issues in the same beat (R123, R124, R144). -/
def seqWaitEnd (s : State) (n : Fin 16) : State :=
  match (s.sl n).seq.pend with
  | none => s
  | some q =>
    match q.instr with
    | .wait _ | .waita _ | .idle _ _ =>
      if q.due ≤ s.now then
        let s := seqFinish s n q.index (q.index + 1)
        let s := modSeq s n (fun x => { x with acted := false })
        seqFetchedNow s n
      else s
    | _ => s

/-- A CMPR whose result has become visible sets its flag, and the next instruction issues in the same beat (R139). -/
def seqCmprEnd (s : State) (n : Fin 16) : State :=
  let t := seqResolve s n
  if (t.sl n).seq.pend.isSome then t else seqFetchedNow (modSeq t n (fun q => { q with acted := false })) n

/-- Step 5 of R105 for slice `n`: what its sequencer does in the beat that closes, unless it has acted already. -/
def seqBeat (s : State) (n : Fin 16) : State :=
  match (s.sl n).seq.pend with
  | none => seqFetchedNow s n
  | some q =>
    match q.instr with
    | .wait _ | .waita _ | .idle _ _ => seqWaitEnd s n
    | .elastic _ =>
      if (s.sl n).seq.acted then s
      else
        let s := seqBlockedStep s n
        if (s.sl n).seq.pend.isSome then s.count .SEQ_ELASTIC_BEATS n else s
    | .cmpr _ _ _ _ _ =>
      let s := seqCmprEnd s n
      if (s.sl n).seq.pend = some q then seqBlockedStep s n else s
    | _ => seqBlockedStep s n

/-! ### Run, halt, step (R147 to R150) -/

/-- SEQ_CTRL.RUN (R147). -/
def seqRun (s : State) (n : Fin 16) : State :=
  if (seqState s n = SeqCode.halted ∨ seqState s n = SeqCode.error) ∧ s.fld F.SLC_WHEEL_STATUS_STATE n = 2 then
    let start := s.pair .SEQ_START_LO .SEQ_START_HI n
    let useStart := s.fld F.SEQ_CTRL_USE_START_BEAT n = 1
    let late := useStart ∧ start < s.beat + 2
    let at_ := if useStart ∧ ¬late then s.now + (start - s.beat) else s.now + 2
    let s := modSeq s n (fun q =>
      { q with pend := none, starting := true, startAt := at_, stepping := false, loops := [], calls := [] })
    let s := (s.setFld F.SEQ_STATUS_ERR 0 n).setFld F.SEQ_STATUS_STATE SeqCode.waiting n
    if late then (s.count .SEQ_LATE n).setFld F.SEQ_STATUS_LATE 1 n else s
  else s.setFld F.SEQ_STATUS_RUN_REFUSED 1 n

/-- SEQ_CTRL.HALT (R148): the sequencer halts and nothing issues or resolves in this beat. -/
def seqHalt (s : State) (n : Fin 16) : State :=
  let st := seqState s n
  if st = SeqCode.running ∨ st = SeqCode.waiting ∨ st = SeqCode.blocked ∨ st = SeqCode.stalled then
    let s := modSeq s n (fun q => { q with pend := none, acted := true, starting := false, stepping := false })
    s.setFld F.SEQ_STATUS_STATE SeqCode.halted n
  else s

/-- SEQ_CTRL.STEP (R149). -/
def seqStep (s : State) (n : Fin 16) : State :=
  if seqState s n = SeqCode.halted ∧ s.fld F.SLC_WHEEL_STATUS_STATE n = 2 then
    let s := modSeq s n (fun q => { q with starting := true, startAt := s.now + 2, stepping := true })
    s.setFld F.SEQ_STATUS_STATE SeqCode.waiting n
  else s

/-- SEQ_CTRL.CLR_NEW (R156): every new mark of verdicts, imports and flags. -/
def seqClrNew (s : State) (n : Fin 16) : State :=
  let s := (List.range 32).foldl (fun s r => s.setFld F.SEQ_VNEW_NEW 0 n r) s
  let s := (List.range 8).foldl (fun s r => s.setFld F.SEQ_XNEW_NEW 0 n r) s
  s.setFld F.SEQ_FLAGS_NEW 0 n

/-- A write of SEQ_PC (R150). -/
def seqPcWrite (s : State) (n : Fin 16) (index : Nat) : State :=
  if seqState s n = SeqCode.halted ∨ seqState s n = SeqCode.error then s.setFld F.SEQ_PC_INDEX index n else s

/-! ### Fetch (R111, R113) -/

/-- The targets of the pending instruction (R113). -/
def pendingTargets (q : Sequencer) : List Nat :=
  match q.pend with
  | none => []
  | some x => namedTargets x.instr

/-- The line the fetcher asks for next, if any (R111). -/
def fetchWant (s : State) (n : Fin 16) : Option Nat :=
  let q := (s.sl n).seq
  let pcLine := seqPc s n / 8
  if seqState s n = SeqCode.drained ∨ lastIndex < seqPc s n then none
  else (pcLine :: q.named.map (· / 8) ++ [pcLine + 1, pcLine + 2]).find? (fun l =>
    decide (l < 24576) && q.fetch.all (fun f => f.line ≠ l))

/-- The lines the fetcher never replaces (R113). -/
def fetchKept (s : State) (n : Fin 16) : List Nat :=
  let q := (s.sl n).seq
  seqPc s n / 8 :: (pendingTargets q).map (· / 8) ++ q.loops.map (fun l => l.start / 8) ++ q.calls.map (· / 8)

/-- The line to replace: the one an instruction issued from least recently, the lowest of equals, never a kept one. -/
def fetchVictim (kept : List Nat) (l : List FetchLine) : Option Nat :=
  (l.filter (fun f => f.line ∉ kept)).foldl (fun (best : Option FetchLine) f =>
    match best with
    | none => some f
    | some b =>
      let fu := max f.used f.fetched
      let bu := max b.used b.fetched
      if fu < bu ∨ (fu = bu ∧ f.line < b.line) then some f else some b) none |>.map FetchLine.line

/-- An IF slot delivers a line into the fetch buffer (R111 to R113). -/
def fetchFill (s : State) (n : Fin 16) (line : Nat) (data : List Byte) (poison : List Nat) : State :=
  let q := (s.sl n).seq
  let room := if q.fetch.length < 32 then q.fetch
    else match fetchVictim (fetchKept s n) q.fetch with
      | some v => q.fetch.filter (fun f => f.line ≠ v)
      | none => q.fetch.drop 1
  modSeq s n (fun q => { q with fetch := room ++ [{ line := line, data := data, poison := poison, fetched := s.now, used := s.now }] })

/-- The new value of a verdict or import reaches its due beat (R129, R130). `x` names the input by selector kind. -/
def seqLatch (s : State) (n : Fin 16) (x : Selector) (value : Nat) : State :=
  let key := if x.kind == .imported then 1024 + x.index else x.index
  let s := if inputNew s n x then (s.count .SEQ_VERDICT_OVW n).setFld F.SEQ_STATUS_VERDICT_OVW 1 n else s
  let s := modSeq s n (fun q => { q with copies := q.copies.to key (value % 4) })
  setNew s n x true

/-- The CMPR of slice `n` that waits for results of this source, with its limit pair (R139). A result of the beat in which it times out
would become visible a beat too late (R105). -/
def cmprWaits (s : State) (n : Fin 16) (adc : Bool) (ch : Nat) : Option Nat :=
  match (s.sl n).seq.pend with
  | some x => match x.instr with
    | .cmpr a c _ lim _ =>
      let open_ : Bool := match seqDeadline x with
        | some t => decide (s.now < t)
        | none => true
      if (a == adc && c.toNat == ch && x.hit.isNone && open_) = true then some lim.toNat else none
    | _ => none
  | none => none

/-- A CMPR takes its code from a result that is presented to it in this beat (R139). `bad` is the unit's overflow or
invalid flag. -/
def cmprTake (s : State) (n : Fin 16) (lim : Nat) (value : Int) (bad : Bool) : State :=
  let code := compareCode (sext 32 (s.rd .SEQ_LIM_LO n lim).toNat) (sext 32 (s.rd .SEQ_LIM_HI n lim).toNat) value bad
  modSeq s n (fun q => { q with pend := q.pend.map (fun x => { x with hit := some (code, s.now) }) })

/-- A result enters a result queue in this beat, or would have entered it: a CMPR that waits for it takes its code and the
journal records it, with `data` as its DATA (R139, R666). In a replay the journal's results stand in its place (R675). -/
def seqResult (s : State) (n : Fin 16) (adc : Bool) (ch : Nat) (value : Int) (bad : Bool) (data : Nat) : State :=
  if s.rpl.replaying then s
  else
    match cmprWaits s n adc ch with
    | some lim => (cmprTake s n lim value bad).journal JType.RESULT n.val (bit01 adc + 2 * ch) data
    | none => s

/-! ### The commands -/

def execNop (n : Fin 16) (s : State) : Result := .next (seqIssueNow s n .nop)
def execHalt (n : Fin 16) (code : BitVec 16) (s : State) : Result := .next (seqIssueNow s n (.halt code))
def execJump (n : Fin 16) (target : BitVec 18) (pop : BitVec 3) (s : State) : Result := .next (seqIssueNow s n (.jump target pop))
def execCall (n : Fin 16) (target : BitVec 18) (s : State) : Result := .next (seqIssueNow s n (.call target))
def execRet (n : Fin 16) (s : State) : Result := .next (seqIssueNow s n .ret)
def execLoop (n : Fin 16) (count : BitVec 32) (endIndex : BitVec 18) (fromReg : Bool) (reg : BitVec 3) (s : State) : Result :=
  .next (seqIssueNow s n (.loop count endIndex fromReg reg))
def execEndloop (n : Fin 16) (s : State) : Result := .next (seqIssueNow s n .endloop)
def execWait (n : Fin 16) (beats : BitVec 32) (s : State) : Result := .next (seqIssueNow s n (.wait beats))
/-- WAIT_EXPIRE: the WAIT ends when its beat has come (R123). -/
def execWaitExpire (n : Fin 16) (s : State) : Result :=
  .next (match (s.sl n).seq.pend with
    | some { instr := .wait _, .. } => seqWaitEnd s n
    | _ => s)
def execWaita (n : Fin 16) (beat : BitVec 64) (s : State) : Result := .next (seqIssueNow s n (.waita beat))
/-- WAITA_REACHED: the named beat has come (R124). -/
def execWaitaReached (n : Fin 16) (s : State) : Result :=
  .next (match (s.sl n).seq.pend with
    | some { instr := .waita _, .. } => seqWaitEnd s n
    | _ => s)
def execWaitv (n : Fin 16) (sel : BitVec 16) (mask want : BitVec 2) (tmo : Timeout) (s : State) : Result :=
  .next (seqIssueNow s n (.waitv sel mask want tmo))
/-- WAITV_RESOLVE: a new matching verdict is there (R138). -/
def execWaitvResolve (n : Fin 16) (s : State) : Result :=
  .next (match (s.sl n).seq.pend with
    | some { instr := .waitv _ _ _ _, .. } => seqResolve s n
    | _ => s)
/-- WAITV_TIMEOUT: the limit is reached and the WAITV has not resolved (R138). -/
def execWaitvTimeout (n : Fin 16) (s : State) : Result :=
  .next (match (s.sl n).seq.pend with
    | some { instr := .waitv _ _ _ _, .. } => seqBlockedStep s n
    | _ => s)
def execSync (n : Fin 16) (kind : BitVec 2) (id : BitVec 8) (tmo : Timeout) (s : State) : Result :=
  .next (seqIssueNow s n (.sync kind id tmo))
/-- SYNC_RESOLVE: the selected edge takes effect in this beat, or the barrier has released (R141, R142). -/
def execSyncResolve (n : Fin 16) (s : State) : Result :=
  .next (match (s.sl n).seq.pend with
    | some { instr := .sync _ _ _, .. } => seqResolve s n
    | _ => s)
/-- SYNC_TIMEOUT: the limit is reached and the SYNC has not resolved (R143). -/
def execSyncTimeout (n : Fin 16) (s : State) : Result :=
  .next (match (s.sl n).seq.pend with
    | some { instr := .sync _ _ _, .. } => seqBlockedStep s n
    | _ => s)
def execIdle (n : Fin 16) (beats : BitVec 32) (offer : BitVec 23) (s : State) : Result := .next (seqIssueNow s n (.idle beats offer))
/-- IDLE_EXPIRE: the gap ends and the next instruction issues (R144). -/
def execIdleExpire (n : Fin 16) (s : State) : Result :=
  .next (match (s.sl n).seq.pend with
    | some { instr := .idle _ _, .. } => seqWaitEnd s n
    | _ => s)
def execElastic (n : Fin 16) (maxExt : BitVec 24) (s : State) : Result := .next (seqIssueNow s n (.elastic maxExt))
/-- ELASTIC_RESOLVE: the streamer is ready (R145). -/
def execElasticResolve (n : Fin 16) (s : State) : Result :=
  .next (match (s.sl n).seq.pend with
    | some { instr := .elastic _, .. } => seqResolve s n
    | _ => s)
/-- ELASTIC_EXPIRED: the maximum extension is reached with the streamer not ready (R145). -/
def execElasticExpired (n : Fin 16) (s : State) : Result :=
  .next (match (s.sl n).seq.pend with
    | some { instr := .elastic _, .. } => seqBlockedStep s n
    | _ => s)
def execEmit (n : Fin 16) (words : List EventWord) (s : State) : Result := .next (seqIssueNow s n (.emit words))
def execEmitl (n : Fin 16) (words : List EventWord) (s : State) : Result := .next (seqIssueNow s n (.emitl words))
def execBranch (n : Fin 16) (desc : BitVec 6) (newMode : Bool) (timeout : BitVec 16) (t0 t1 t2 t3 : BitVec 18) (s : State) : Result :=
  .next (seqIssueNow s n (.branch desc newMode timeout t0 t1 t2 t3))
/-- BRANCH_RESOLVE: every selected input is new (R135). -/
def execBranchResolve (n : Fin 16) (s : State) : Result :=
  .next (match (s.sl n).seq.pend with
    | some { instr := .branch _ _ _ _ _ _ _, .. } => seqResolve s n
    | _ => s)
/-- BRANCH_TIMEOUT: the limit is reached and the branch has not resolved (R136). -/
def execBranchTimeout (n : Fin 16) (s : State) : Result :=
  .next (match (s.sl n).seq.pend with
    | some { instr := .branch _ _ _ _ _ _ _, .. } => seqBlockedStep s n
    | _ => s)
def execCmpr (n : Fin 16) (adc : Bool) (ch : BitVec 6) (flag : BitVec 3) (lim : BitVec 4) (tmo : Timeout) (s : State) : Result :=
  .next (seqIssueNow s n (.cmpr adc ch flag lim tmo))
/-- CMPR_RESOLVE: the matching result entered its queue in an earlier beat (R139). -/
def execCmprResolve (n : Fin 16) (s : State) : Result :=
  .next (match (s.sl n).seq.pend with
    | some { instr := .cmpr _ _ _ _ _, .. } => seqCmprEnd s n
    | _ => s)
/-- CMPR_TIMEOUT: the limit is reached and no result has matched (R139). -/
def execCmprTimeout (n : Fin 16) (s : State) : Result :=
  .next (match (s.sl n).seq.pend with
    | some { instr := .cmpr _ _ _ _ _, .. } => if (s.sl n).seq.pend.any (·.hit.isNone) then seqBlockedStep s n else s
    | _ => s)
def execClrv (n : Fin 16) (desc : BitVec 6) (s : State) : Result := .next (seqIssueNow s n (.clrv desc))
def execSeqRun (n : Fin 16) (s : State) : Result := .next (seqRun s n)
/-- SEQ_FIRST_ISSUE: the start beat has come and the instruction at SEQ_PC issues (R147, R149). -/
def execSeqFirstIssue (n : Fin 16) (s : State) : Result :=
  .next (if (s.sl n).seq.starting then seqFetchedNow s n else s)
def execSeqHalt (n : Fin 16) (s : State) : Result := .next (seqHalt s n)
def execSeqStep (n : Fin 16) (s : State) : Result := .next (seqStep s n)
def execClrNew (n : Fin 16) (s : State) : Result := .next (seqClrNew s n)
def execSeqPcWrite (n : Fin 16) (index : BitVec 18) (s : State) : Result := .next (seqPcWrite s n index.toNat)

end Sys2Proof.Machine
end

