-- ==== Sys2Proof/Machine/Measure.lean ====
section
/-!
DEFINITION. The slice measure converter (Slice Measure Converter, R365 to R392).
-/

namespace Sys2Proof.Machine

/-- Change the measure converter of a slice. -/
def modMad (s : State) (n : Fin 16) (f : MeasureAdc → MeasureAdc) : State := s.modSl n (fun x => { x with mad := f x.mad })

/-- MAD_STATUS.STATE: 0 IDLE, 1 SEQUENCE, 2 SUSPENDED, 3 CALIBRATING, 4 CHECK, 5 DRAINED (R392). -/
def madState (s : State) (n : Fin 16) : Nat := s.fld F.MAD_STATUS_STATE n

def setMadState (s : State) (n : Fin 16) (v : Nat) : State := s.setFld F.MAD_STATUS_STATE v n

/-- A contact check runs on the slice (R228, R236). -/
def checkRunning (s : State) (n : Fin 16) : Bool := s.fld F.PIN_CC_STATUS_STATE n == 2

/-- A rank 1 or rank 2 activity holds the converter (R374). -/
def madHeld (s : State) (n : Fin 16) : Bool :=
  checkRunning s n || decide (s.now < (s.sl n).mad.checkUntil) || s.fld F.CAL_FG_STATUS_STATE n == 2

/-- The slot length T of a sequence conversion (R367, R388). -/
def madSlot (s : State) (n : Fin 16) : Nat := if s.flag F.MAD_CFG_LOWPWR n then 1000 else 125

/-- The step register of the running step. -/
def madStepIndex (r : MadRun) : Nat := 16 * r.seq + r.step

/-- The class of an input, with RANGE as a result reports it (R365). -/
def madSet (s : State) (n : Fin 16) (input range : Nat) : Nat :=
  if input < 32 then 4 * (if s.flag F.PIN_PMU_CTRL_MEAS n input then 0 else 1) + range
  else if input < 40 then 8 + range
  else 12

/-- A conversion of an input in this beat carries INVALID (R218, R369). -/
def madInvalid (s : State) (n : Fin 16) (input : Nat) : Bool :=
  s.domState (16 + n.val) == 3 ||
    (if input < 32 then !s.flag F.PIN_STATUS_PMU_CONN n input || s.flag F.PIN_STATUS_GUARDED n input
     else if input < 40 then s.fld F.FF_STATUS_STATE n (input - 32) != 1
     else false)

/-- A conversion slot starts at tick `at_`. -/
def madStartSlot (s : State) (n : Fin 16) (at_ : Nat) : State :=
  let t := madSlot s n
  modMad s n (fun m => { m with slot := some (at_, t), sampleInvalid := none })

/-- The sample of the slot in progress, taken 25 beats into it (R367): whether INVALID holds there, and for the first
conversion of a step the beat count of the sample. -/
def madSample (s : State) (n : Fin 16) : State :=
  let m := (s.sl n).mad
  match m.slot, m.run with
  | some (st, _), some r =>
    if m.sampleInvalid.isNone ∧ st + 25 ≤ s.now then
      let bad := madInvalid s n (s.fld F.MAD_STEP_INPUT n (madStepIndex r))
      let first := r.conversions = 0
      modMad s n (fun m => { m with sampleInvalid := some bad,
                                    run := some { r with sampleBeat := if first then s.beat - (s.now - (st + 25)) else r.sampleBeat } })
    else s
  | _, _ => s

/-- Sequence `q` starts, its first slot at tick `at_` (R370, R372). -/
def madStart (s : State) (n : Fin 16) (q at_ : Nat) : State :=
  let run : MadRun := { seq := q, step := 0, rep := 0, repStart := at_, waiting := false, conversions := 0, sum := 0, ovr := false,
                        invalid := false, sampleBeat := 0, ending := false }
  let s := (setMadState s n 1).setFld F.MAD_STATUS_RUN_SEQ q n
  madStartSlot (modMad s n (fun m => { m with run := some run })) n at_

/-- The activity ahead ended at tick `at_`: the pending request starts, or the converter is idle (R372). -/
def madNext (s : State) (n : Fin 16) (at_ : Nat) : State :=
  if madState s n = 5 then s
  else if s.flag F.MAD_STATUS_PEND n ∧ s.flag F.MAD_CFG_ENABLE n ∧ ¬madHeld s n then
    madStart (s.setFlag F.MAD_STATUS_PEND false n) n (s.fld F.MAD_STATUS_PEND_SEQ n) at_
  else setMadState s n (if madHeld s n then 4 else 0)

/-- Drop a request (R372). -/
def madDrop (s : State) (n : Fin 16) : State := (s.count .MAD_TRIG_DROP n).setFlag F.MAD_STATUS_TRIG_DROP true n

/-- A request for sequence `q` (R372). -/
def madTrigger (s : State) (n : Fin 16) (q : Nat) : State :=
  if madState s n = 5 then s
  else if !s.flag F.MAD_CFG_ENABLE n then madDrop s n
  else if madState s n = 0 then madStart s n q s.now
  else if s.flag F.MAD_STATUS_PEND n then madDrop s n
  else (s.setFlag F.MAD_STATUS_PEND true n).setFld F.MAD_STATUS_PEND_SEQ q n

/-- ABORT (R373). -/
def madAbort (s : State) (n : Fin 16) : State :=
  let s := s.setFlag F.MAD_STATUS_PEND false n
  if (s.sl n).mad.run.isSome then
    let s := s.count .MAD_ABORTS n
    let s := modMad s n (fun m => { m with run := none, slot := none })
    if madState s n = 1 ∨ madState s n = 2 then setMadState s n (if madHeld s n then 4 else 0) else s
  else s

/-- A result as the queue holds it (R378). -/
def madEntry (code : Int) (input : Nat) (ovr invalid : Bool) (range seq step beat : Nat) : Nat :=
  pat 18 code + input * 2 ^ 18 + bit01 ovr * 2 ^ 24 + bit01 invalid * 2 ^ 25 + (range % 4) * 2 ^ 26 + (seq % 16) * 2 ^ 28 +
    (step % 16) * 2 ^ 32 + 2 ^ 36 + (beat % 2 ^ 24) * 2 ^ 40

/-- A result enters the queue, or finds 256 entries there and is lost; a CMPR sees it either way (R378, R379). -/
def madEnqueue (s : State) (n : Fin 16) (code : Int) (input : Nat) (ovr invalid : Bool) (range seq step beat : Nat) : State :=
  let e := madEntry code input ovr invalid range seq step beat
  let s :=
    if (s.sl n).mad.queue.length < 256 then
      let s := modMad s n (fun m => { m with queue := m.queue ++ [BitVec.ofNat 64 e] })
      s.peak F.MAD_QSTATUS_PEAK (s.sl n).mad.queue.length n
    else (s.count .MAD_QLOST n).setFlag F.MAD_STATUS_QOVF true n
  seqResult s n true input code (ovr || invalid) e

/-- Round the quotient of two integers to nearest, halves away from zero; the divisor is positive. -/
def roundDiv (x : Int) (d : Nat) : Int :=
  if 0 ≤ x then (2 * x + d) / (2 * d : Nat) else -((-(2 * x) + d) / (2 * d : Nat))

/-- The active converter factors as field values (R384). -/
def madFactors (s : State) (n : Fin 16) : List Nat := (List.range 10).map (fun i => bitsAt (s.rd .MAD_SCF n i).toNat 0 18)

/-- The correction of R385 and whether it was limited. -/
def madCode (s : State) (n : Fin 16) (set : Nat) (m : Int) : Int × Bool :=
  let off := sext 18 (s.fld F.MAD_SYSC_OFF_OFF n set)
  let gain : Int := (s.fld F.MAD_SYSC_GAIN_GAIN n set : Nat)
  let x := roundDiv ((m - off) * gain) 65536
  let c := satInt 18 x
  (c, decide (c ≠ x))

/-- The sequence ends at tick `at_` (R371). -/
def madSequenceEnd (s : State) (n : Fin 16) (at_ : Nat) : State := madNext (modMad s n (fun m => { m with run := none, slot := none })) n at_

/-- A step of the running sequence is complete at tick `at_`: the next step, the next repetition or the end (R370, R371). -/
def madStepDone (s : State) (n : Fin 16) (r : MadRun) (at_ : Nat) : State :=
  let r := { r with conversions := 0, sum := 0, ovr := false, invalid := false }
  if r.ending then madSequenceEnd s n at_
  else if r.step < s.fld F.MAD_SEQ_STEPS n r.seq then
    madStartSlot (modMad s n (fun m => { m with run := some { r with step := r.step + 1 } })) n at_
  else if r.rep < s.fld F.MAD_SEQ_REPEAT n r.seq then
    modMad s n (fun m => { m with run := some { r with step := 0, rep := r.rep + 1, waiting := true }, slot := none })
  else madSequenceEnd s n at_

/-- A conversion slot ends with its raw code (R367 to R371). -/
def madConversionEnd (s : State) (n : Fin 16) (raw : Int) (clamped : Bool) : State :=
  let s := madSample s n
  let m := (s.sl n).mad
  match m.slot, m.run with
  | some (st, t), some r =>
    if st + t ≤ s.now then
      let i := madStepIndex r
      let input := s.fld F.MAD_STEP_INPUT n i
      let range := if input < 40 then s.fld F.MAD_STEP_RANGE n i else 0
      let s := if clamped ∧ input < 32 then s.setFlag F.PIN_STATUS_PMU_CLAMP true n input else s
      let bad := m.sampleInvalid.getD (madInvalid s n input) || (clamped && decide (input < 32))
      let r := { r with conversions := r.conversions + 1, sum := r.sum + raw, invalid := r.invalid || bad,
                        ovr := r.ovr || decide (raw = -131072) || decide (raw = 131071) }
      let s := modMad s n (fun m => { m with slot := none, sampleInvalid := none, run := some r })
      if r.conversions < 2 ^ s.fld F.MAD_STEP_AVG n i then
        if r.ending then madSequenceEnd s n (st + t) else madStartSlot s n (st + t)
      else
        let mean := roundDiv r.sum (2 ^ s.fld F.MAD_STEP_AVG n i)
        let (code, limited) := madCode s n (madSet s n input range) (Config.madCorrect (madFactors s n) mean)
        let s := madEnqueue s n code input (r.ovr || limited) r.invalid range r.seq r.step r.sampleBeat
        madStepDone s n r (st + t)
    else s
  | _, _ => s

/-- A repetition starts once its GAP has elapsed (R370). -/
def madRepeatStart (s : State) (n : Fin 16) : State :=
  match (s.sl n).mad.run with
  | some r =>
    if r.waiting ∧ r.repStart + s.fld F.MAD_SEQ_GAP n r.seq ≤ s.now ∧ madState s n = 1 then
      madStartSlot (modMad s n (fun m => { m with run := some { r with waiting := false, repStart := s.now } })) n s.now
    else s
  | none => s

/-- A foreground calibration of a slice ends with a result; its cost is released (R625, R626). -/
def fgFinish (s : State) (n : Fin 16) (result : Nat) : State :=
  let s := (s.setFld F.CAL_FG_STATUS_STATE 0 n).setFld F.CAL_FG_STATUS_RESULT result n
  (s.setFlag (if result = 0 then F.CAL_FG_STATUS_DONE else F.CAL_FG_STATUS_FAIL) true n).releaseAdmission 4 n

/-- A foreground calibration that waits or runs ends without effect on the sets (R626). -/
def fgStop (s : State) (n : Fin 16) (result : Nat) : State :=
  if s.fld F.CAL_FG_STATUS_STATE n = 0 then s else fgFinish s n result

/-- A rank 1 or rank 2 activity takes the converter (R375, R377): a sequence is suspended and its conversion abandoned, a
calibration is abandoned. -/
def madPreempt (s : State) (n : Fin 16) : State :=
  let s := if s.fld F.CAL_FG_STATUS_STATE n = 2 then fgFinish s n 2 else s
  let m := (s.sl n).mad
  if m.selfcal then
    let s := (modMad s n (fun m => { m with selfcal := false, selfcalStart := none })).releaseAdmission 3 n.val
    setMadState (s.setFlag F.MAD_STATUS_SELFCAL_FAIL true n) n 4
  else if m.syscal.isSome then
    let s := modMad s n (fun m => { m with syscal := none })
    let s := s.setFld F.MAD_SCAL_STATUS_ERR 1 n
    let s := s.setFld F.MAD_SCAL_STATUS_STATE (if (s.sl n).mad.zero.isSome then 1 else 0) n
    setMadState s n 4
  else if m.run.isSome then
    let s := if m.slot.isSome then s.count .MAD_REDO n else s
    setMadState (modMad s n (fun m => { m with slot := none, sampleInvalid := none })) n 2
  else setMadState s n 4

/-- The converter is free of ranks 1 and 2 at a beat boundary: a suspended sequence resumes, and a request that waited
starts (R372, R375). -/
def madResume (s : State) (n : Fin 16) : State :=
  if madHeld s n then s
  else
    match (s.sl n).mad.run with
    | some r =>
      if madState s n = 2 then
        let s := setMadState s n 1
        if r.waiting then s else madStartSlot s n s.now
      else s
    | none => if madState s n = 4 then madNext s n s.now else s

/-! ### Calibration (R382 to R387) -/

/-- MAD_CMD.SELFCAL (R382). -/
def madSelfcal (s : State) (n : Fin 16) : State :=
  if madState s n = 0 ∧ ¬s.flag F.MAD_STATUS_PEND n then
    (setMadState (modMad s n (fun m => { m with selfcal := true, selfcalStart := none })) n 3).askAdmission 3 n.val
  else s.setFlag F.MAD_STATUS_REFUSED true n

/-- The grant of a self-calibration: the run begins (R382). -/
def madSelfcalGranted (s : State) (n : Fin 16) : State := modMad s n (fun m => { m with selfcalStart := some s.now })

/-- A self-calibration ends without a change: refused by admission or abandoned (R383, R596). -/
def madSelfcalFail (s : State) (n : Fin 16) : State :=
  if (s.sl n).mad.selfcal then
    let s := (modMad s n (fun m => { m with selfcal := false, selfcalStart := none })).releaseAdmission 3 n.val
    madNext (s.setFlag F.MAD_STATUS_SELFCAL_FAIL true n) n s.now
  else s

/-- A converter factor fits its 18-bit signed field. -/
def factorFits (x : Int) : Bool := decide (-131072 ≤ x) && decide (x ≤ 131071)

/-- The self-calibration run ends, 800,000 beats after its grant, with computed factors (R382, R383). -/
def madSelfcalEnd (s : State) (n : Fin 16) (factors : List Int) : State :=
  match (s.sl n).mad.selfcalStart with
  | some t =>
    if t + 800000 ≤ s.now then
      let s := (modMad s n (fun m => { m with selfcal := false, selfcalStart := none })).releaseAdmission 3 n.val
      let s := if factors.length = 10 ∧ factors.all factorFits then
          (factors.zipIdx.foldl (fun s p => s.wr .MAD_SCF (BitVec.ofNat 32 (pat 18 p.1)) n p.2) s).setFlag
            F.MAD_STATUS_SELFCAL_DONE true n
        else s.setFlag F.MAD_STATUS_SELFCAL_FAIL true n
      madNext s n s.now
    else s
  | none => s

/-- A system calibration ends with an error code (R387). -/
def madSyscalError (s : State) (n : Fin 16) (err : Nat) : State :=
  (s.setFld F.MAD_SCAL_STATUS_ERR err n).setFld F.MAD_SCAL_STATUS_STATE (if (s.sl n).mad.zero.isSome then 1 else 0) n

/-- MAD_CMD.SYSCAL (R386). -/
def madSyscal (s : State) (n : Fin 16) : State :=
  let input := s.fld F.MAD_SCAL_CTRL_INPUT n
  let set := madSet s n input (s.fld F.MAD_SCAL_CTRL_RANGE n)
  let full := s.flag F.MAD_SCAL_CTRL_POINT n
  if ¬(madState s n = 0 ∧ ¬s.flag F.MAD_STATUS_PEND n) then s.setFld F.MAD_SCAL_STATUS_ERR 5 n
  else if full ∧ ((s.sl n).mad.zero.map Prod.fst) ≠ some set then s.setFld F.MAD_SCAL_STATUS_ERR 4 n
  else
    let s := modMad s n (fun m =>
      { m with syscal := some { start := s.now, input := input, set := set, full := full },
               zero := if full ∨ (m.zero.map Prod.fst) = some set then m.zero else none })
    ((setMadState s n 3).setFld F.MAD_SCAL_STATUS_STATE 2 n).setFld F.MAD_SCAL_STATUS_SET set n

/-- What a full-scale point finds: its error, or the gain (R386, R387). -/
def syscalGain (z f ref : Int) : Nat ⊕ Nat :=
  let d := f - z
  if d = 0 ∨ (0 < d ∧ ref < 0) ∨ (d < 0 ∧ 0 < ref) then .inl 2
  else
    let g := roundDiv (ref * 65536 * (if d < 0 then -1 else 1)) d.natAbs
    if g < 0x08000 ∨ 0x20000 < g then .inl 3 else .inr g.toNat

/-- The system calibration run ends, 8,000 beats after its start, with 64 raw codes (R386, R387). -/
def madSyscalEnd (s : State) (n : Fin 16) (raws : List Int) (invalid : Bool) : State :=
  match (s.sl n).mad.syscal with
  | some c =>
    if c.start + 8000 ≤ s.now ∧ raws.length = 64 then
      let fs := madFactors s n
      let mean := roundDiv (raws.map (Config.madCorrect fs)).sum 64
      let s := modMad s n (fun m => { m with syscal := none })
      let bad := invalid || madInvalid s n c.input
      let s :=
        if bad then madSyscalError s n 6
        else if c.full then
          match (s.sl n).mad.zero with
          | some (_, z) =>
            match syscalGain z mean (sext 18 (s.fld F.MAD_SCAL_REF_REF n)) with
            | .inl e => madSyscalError s n e
            | .inr g => madSyscalError ((s.setFld F.MAD_SYSC_OFF_OFF (pat 18 z) n c.set).setFld F.MAD_SYSC_GAIN_GAIN g n c.set) n 0
          | none => madSyscalError s n 4
        else madSyscalError (modMad s n (fun m => { m with zero := some (c.set, mean) })) n 0
      madNext s n s.now
    else s
  | none => s

/-- MAD_CMD.APPLYF (R384). -/
def madApplyf (s : State) (n : Fin 16) : State := modMad s n (fun m => { m with applyPending := true })

/-- The shadow factors become active at a boundary with no conversion in progress (R384). -/
def madFactorApply (s : State) (n : Fin 16) : State :=
  let m := (s.sl n).mad
  if m.applyPending ∧ m.slot.isNone ∧ m.selfcalStart.isNone ∧ m.syscal.isNone ∧ ¬madHeld s n then
    let s := modMad s n (fun m => { m with applyPending := false, applyfAt := some s.now })
    m.shadow.toList.zipIdx.foldl (fun s p => s.wr .MAD_SCF (p.1.setWidth 32) n p.2) s
  else s

/-! ### The result queue (R380, R381) -/

/-- A read of MAD_RES_LO: the low word of the oldest entry (R380). -/
def madReadLo (s : State) (n : Fin 16) : State :=
  match (s.sl n).mad.queue with
  | e :: _ => { modMad s n (fun m => { m with captured := some (BitVec.ofNat 32 (e.toNat / 2 ^ 32), false) }) with readValue := e.setWidth 32 }
  | [] => { modMad s n (fun m => { m with captured := some (0, true) }) with readValue := 0 }

/-- A read of MAD_RES_HI: the captured word, and the entry leaves the queue (R380). -/
def madReadHi (s : State) (n : Fin 16) : State :=
  match (s.sl n).mad.captured with
  | none => { s with readValue := 0 }
  | some (v, empty) =>
    let s := { modMad s n (fun m => { m with captured := none, queue := if empty then m.queue else m.queue.drop 1 }) with readValue := v }
    if empty then s.setFlag F.MAD_STATUS_RD_EMPTY true n else s

/-! ### Disabling and containment (R389, R390) -/

/-- How many steps of the running sequence have not started, and how many a pending request would run. -/
def madStepsLeft (s : State) (n : Fin 16) : Nat :=
  let steps (q : Nat) := s.fld F.MAD_SEQ_STEPS n q + 1
  let reps (q : Nat) := s.fld F.MAD_SEQ_REPEAT n q + 1
  let running := match (s.sl n).mad.run with
    | some r => steps r.seq * reps r.seq - (r.rep * steps r.seq + r.step) - (if r.waiting then 0 else 1)
    | none => 0
  running + (if s.flag F.MAD_STATUS_PEND n then let q := s.fld F.MAD_STATUS_PEND_SEQ n; steps q * reps q else 0)

/-- The conversion in progress completes its step. -/
def madCompletes (s : State) (n : Fin 16) : Bool :=
  match (s.sl n).mad.slot, (s.sl n).mad.run with
  | some _, some r => decide (r.conversions + 1 = 2 ^ s.fld F.MAD_STEP_AVG n (madStepIndex r))
  | _, _ => false

/-- Sequences end with the conversion in progress; the rest and the pending request are discarded (R389, R390). -/
def madFinish (s : State) (n : Fin 16) : State :=
  let s := s.setFlag F.MAD_STATUS_PEND false n
  match (s.sl n).mad.slot, (s.sl n).mad.run with
  | some _, some r => modMad s n (fun m => { m with run := some { r with ending := true } })
  | none, some _ =>
    let s := modMad s n (fun m => { m with run := none })
    if madState s n = 1 ∨ madState s n = 2 then setMadState s n (if madHeld s n then 4 else 0) else s
  | _, none => s

/-- MAD_CFG.ENABLE is cleared (R389). -/
def madDisable (s : State) (n : Fin 16) : State :=
  let done := madCompletes s n
  let left := madStepsLeft s n + (if (s.sl n).mad.run.isSome ∧ ¬done ∧ ¬((s.sl n).mad.run.any (·.waiting)) then 1 else 0)
  let s := s.setFlag F.MAD_CFG_ENABLE false n
  let s := s.setFld F.MAD_DIS_COUNT_FINISHED (min (bit01 done) 65535) n
  madFinish (s.setFld F.MAD_DIS_COUNT_DISCARDED (min left 65535) n) n

/-- The converter's calibration runs are abandoned (R383, R387). -/
def madCalAbandon (s : State) (n : Fin 16) : State :=
  let s := if (s.sl n).mad.selfcal then
      ((modMad s n (fun m => { m with selfcal := false, selfcalStart := none })).releaseAdmission 3 n.val).setFlag F.MAD_STATUS_SELFCAL_FAIL true n
    else s
  if (s.sl n).mad.syscal.isSome then madSyscalError (modMad s n (fun m => { m with syscal := none })) n 1 else s

/-- The drain of a live reload (R86, R390). -/
def madDrain (s : State) (n : Fin 16) : State := setMadState (madFinish (madCalAbandon s n) n) n 5

/-- An L2 isolation, the safe state, or the power-down of the domain (R390, R589). -/
def madAbandon (s : State) (n : Fin 16) : State :=
  let s := (madCalAbandon s n).setFlag F.MAD_STATUS_PEND false n
  setMadState (modMad s n (fun m => { m with run := none, slot := none, sampleInvalid := none })) n 0

/-! ### The commands -/

def execMadTrigger (n : Fin 16) (seq : Fin 16) (s : State) : Result := .next (s.analogEvent n (fun s => madTrigger s n seq))
def execMadAbort (n : Fin 16) (s : State) : Result := .next (s.analogEvent n (fun s => madAbort s n))
def execMadConversionEnd (n : Fin 16) (raw : BitVec 18) (clamped : Bool) (s : State) : Result :=
  .next (madConversionEnd s n raw.toInt clamped)
def execMadRepeatStart (n : Fin 16) (s : State) : Result := .next (madRepeatStart s n)
def execSelfcal (n : Fin 16) (s : State) : Result := .next (s.analogDo n (fun s => madSelfcal s n))
def execSelfcalEnd (n : Fin 16) (factors : List Int) (s : State) : Result := .next (madSelfcalEnd s n factors)
def execSyscal (n : Fin 16) (s : State) : Result := .next (s.analogDo n (fun s => madSyscal s n))
def execSyscalEnd (n : Fin 16) (raws : List (BitVec 18)) (invalid : Bool) (s : State) : Result :=
  .next (madSyscalEnd s n (raws.map BitVec.toInt) invalid)
def execApplyf (n : Fin 16) (s : State) : Result := .next (madApplyf s n)
def execFactorApply (n : Fin 16) (s : State) : Result := .next (madFactorApply s n)
def execMadResLoRead (n : Fin 16) (s : State) : Result := .next (madReadLo s n)
def execMadResHiRead (n : Fin 16) (s : State) : Result := .next (madReadHi s n)
def execMadDisable (n : Fin 16) (s : State) : Result := .next (madDisable s n)

end Sys2Proof.Machine
end

