-- ==== Sys2Proof/Machine/FluxForce.lean ====
section
/-!
DEFINITION. The flux and force outputs (Flux and Force Outputs, R343 to R364).
-/

namespace Sys2Proof.Machine

/-- An FF channel. -/
def ffCh (s : State) (n : Fin 16) (f : Fin 8) : FfChannel := (s.sl n).ff.get f

/-- Change an FF channel. -/
def modFf (s : State) (n : Fin 16) (f : Fin 8) (g : FfChannel → FfChannel) : State :=
  s.modSl n (fun x => { x with ff := x.ff.set f.val (g (x.ff.get f)) f.isLt })

/-- The governor mutes the channel (FF_STATUS.GOV). -/
def ffMuted (s : State) (n : Fin 16) (f : Fin 8) : Bool := s.flag F.FF_STATUS_GOV n f

/-- The state of the channel by the precedence of R346. -/
def ffStateOf (s : State) (n : Fin 16) (f : Fin 8) : Nat :=
  let c := ffCh s n f
  if c.off then 6
  else if c.guarded then 4
  else if c.drained then 5
  else if s.flag F.FF_STATUS_SHORT n f then 3
  else match c.base with
    | .active => 1
    | .changing => 2
    | .hiz => 0

/-- The code of the first sample of the beat, with what is known of the beat (R364). -/
def FfChannel.boundaryCode (c : FfChannel) : Int := ((c.changes.find? (fun x => x.1 == 0)).map Prod.snd).getD c.beatCode

/-- FF_STATUS.STATE and FF_CODE follow the channel. -/
def ffRefresh (s : State) (n : Fin 16) (f : Fin 8) : State :=
  let s := s.setFld F.FF_STATUS_STATE (ffStateOf s n f) n f
  (s.setFlag F.FF_CODE_HELD (ffCh s n f).deferred.isSome n f).setFld F.FF_CODE_CODE (pat 16 (ffCh s n f).boundaryCode) n f

/-- Change an FF channel and show its state. -/
def updFf (s : State) (n : Fin 16) (f : Fin 8) (g : FfChannel → FfChannel) : State := ffRefresh (modFf s n f g) n f

/-- FF_CFG.RAMP as it acts: 1 to 1,024 (R363). -/
def ffRamp (s : State) (n : Fin 16) (f : Fin 8) : Nat := clampNat 1 1024 (s.fld F.FF_CFG_RAMP n f)

/-- The tick at which step 3 of a sequence begins (R353). -/
def FfSequence.step3 (q : FfSequence) : Nat := if q.from3 then q.z else q.z + q.ramp + 250

/-- The tick at which a sequence ends: step 4, or the end of step 2 (R353, R355, R357). -/
def FfSequence.endAt (q : FfSequence) : Nat :=
  match q.goal with
  | .setting _ => q.step3 + 500
  | _ => if q.opened then q.z + 250 else q.z + q.ramp + 250

/-- The output switch of the channel is not open at tick `t` (R353, R359, R676). -/
def ffClosed (s : State) (n : Fin 16) (f : Fin 8) (t : Nat) : Bool :=
  let c := ffCh s n f
  if c.off || s.flag F.FF_STATUS_SHORT n f || s.replayMuted then false
  else match c.seq with
    | some q =>
      (!q.from3 && !q.opened && decide (t < q.z + q.ramp)) ||
        (match q.goal with
         | .setting _ => decide (q.step3 + 250 ≤ t)
         | _ => false)
    | none => c.base == .active && !c.guarded

/-- The code of a sample of step 1 (R353). -/
def rampCode (q : FfSequence) (sample : Nat) : Int :=
  let total : Int := (8 * q.ramp : Nat)
  if 8 * q.ramp ≤ sample then 0 else Int.tdiv (q.c0 * (total - sample)) total

/-- Step 1 of the sequence runs in the present beat (R353). -/
def FfSequence.ramping (q : FfSequence) (now : Nat) : Bool := !q.from3 && !q.opened && decide (now < q.z + q.ramp)

/-- What a running sequence does to the codes of the present beat and to the setting: step 1, and step 3 (R353). -/
def ffAdvance (s : State) (n : Fin 16) (f : Fin 8) : State :=
  match (ffCh s n f).seq with
  | none => s
  | some q =>
    let s :=
      if q.ramping s.now then
        modFf s n f (fun c => { c with code := rampCode q (8 * (s.now - q.z))
                                       changes := (List.range 8).map (fun i => (i, rampCode q (8 * (s.now - q.z) + i))) })
      else if !q.from3 && !q.opened && decide (s.now = q.z + q.ramp) then modFf s n f (fun c => { c with code := 0, changes := [(0, 0)] })
      else s
    match q.goal with
    | .setting v =>
      if q.step3 ≤ s.now ∧ (s.fld F.FF_STATUS_SETTING n f ≠ v ∨ (ffCh s n f).code ≠ 0 ∨ q.step3 = s.now) then
        let k := s.flag F.FF_CFG_KELVIN n f && decide (f.val < 2)
        (modFf s n f (fun c => { c with kelvin := k, code := 0, changes := [(0, 0)] })).setFld F.FF_STATUS_SETTING v n f
      else s
    | _ => s

/-- A sequence begins at this boundary (R353). -/
def ffBegin (s : State) (n : Fin 16) (f : Fin 8) (from3 opened : Bool) (goal : FfGoal) : State :=
  let r := ffRamp s n f
  ffAdvance (modFf s n f (fun c => { c with
    seq := some { z := s.now, ramp := r, c0 := c.code, from3 := from3, opened := opened, goal := goal } })) n f

/-- The CODE events that took effect at the boundary at which a sequence begins fall within the sequence: they are not applied, and the
last of them is deferred (R339). -/
def ffTakeBack (s : State) (n : Fin 16) (f : Fin 8) : State :=
  match (ffCh s n f).events.getLast? with
  | none => s
  | some d =>
    let s := (s.countBy .FF_DEFER (ffCh s n f).events.length n f).setFlag F.FF_STATUS_DEFERRED true n f
    modFf s n f (fun c => { c with code := c.beatCode, changes := [], events := [], deferred := some d })

/-- Bits [15:10] of the offset-binary code (R352). -/
def msbBits (c : Int) : Nat := ((c + 32768).toNat / 2 ^ 10) % 64

/-- The transition from code `a` to code `b` is held one sample (R352). -/
def dglHeld (s : State) (n : Fin 16) (f : Fin 8) (a b : Int) : Bool :=
  decide (min (s.fld F.FF_CFG_DGL_THR n f) 6 < popCount 6 (msbBits a ^^^ msbBits b))

/-- Count the held transitions of a list of codes, from code `a` on. -/
def dglCount (s : State) (n : Fin 16) (f : Fin 8) : Int → List Int → Nat
  | _, [] => 0
  | a, b :: t => bit01 (dglHeld s n f a b) + dglCount s n f b t

/-- Put a change of the code into the list of the beat; a later change of the same sample stands (R351). -/
def changeInsert (off : Nat) (code : Int) : List (Nat × Int) → List (Nat × Int)
  | [] => [(off, code)]
  | (o, c) :: t => if off = o then (off, code) :: t else if off < o then (off, code) :: (o, c) :: t
    else (o, c) :: changeInsert off code t

/-- The code the channel leaves a beat with. -/
def lastCode (c0 : Int) (l : List (Nat × Int)) : Int := (l.getLast?.map Prod.snd).getD c0

/-- A code from sample `off` of this beat (R350, R351). -/
def ffSetCode (s : State) (n : Fin 16) (f : Fin 8) (code : Int) (off : Nat) : State :=
  modFf s n f (fun c =>
    let changes := changeInsert off code c.changes
    { c with changes := changes, code := lastCode c.beatCode changes, events := c.events ++ [(code, off)] })

/-- Discard an event (R348). -/
def ffDiscard (s : State) (n : Fin 16) (f : Fin 8) : State := (s.count .FF_DISCARD n f).setFlag F.FF_STATUS_DISCARD true n f

/-- A CODE event (R339, R348, R350). -/
def ffCode (s : State) (n : Fin 16) (f : Fin 8) (code : Int) (off : Nat) : State :=
  match ffStateOf s n f with
  | 1 => if ffMuted s n f then ffDiscard s n f else ffRefresh (ffSetCode s n f code off) n f
  | 2 =>
    let s := (s.count .FF_DEFER n f).setFlag F.FF_STATUS_DEFERRED true n f
    updFf s n f (fun c => { c with deferred := some (code, off) })
  | _ => ffDiscard s n f

/-- The setting is one the channel may use (R343, R354). -/
def ffAllowed (s : State) (n : Fin 16) (f : Fin 8) (v : Nat) : Bool :=
  decide (v < 6) && (s.fld F.FF_LIM_ALLOW n f).testBit v && (decide (v < 4) || decide (f.val < 2))

/-- A SPAN event or span request (R340, R348, R354). -/
def ffSpan (s : State) (n : Fin 16) (f : Fin 8) (v : Nat) : State :=
  let st := ffStateOf s n f
  if ¬(st = 0 ∨ st = 1 ∨ st = 2) ∨ (st = 1 ∧ ffMuted s n f) then ffDiscard s n f
  else if !ffAllowed s n f v then (s.count .FF_REFUSED n f).setFlag F.FF_STATUS_REFUSED true n f
  else if st = 1 ∧ s.fld F.FF_STATUS_SETTING n f = v then s
  else
    let s := if st = 1 then ffTakeBack s n f else ffAdvance s n f
    let from3 := st == 0 || (st == 2 && (match (ffCh s n f).seq with
      | some q => q.from3 || q.opened || decide (q.z + q.ramp ≤ s.now)
      | none => false))
    let s := ffBegin s n f from3 false (.setting v)
    updFf s n f (fun c => { c with base := .changing })

/-- An HIZ event or request (R348, R355). -/
def ffHiz (s : State) (n : Fin 16) (f : Fin 8) : State :=
  let st := ffStateOf s n f
  if st = 0 then s
  else if ¬(st = 1 ∨ st = 2) ∨ (st = 1 ∧ ffMuted s n f) then ffDiscard s n f
  else
    let s := ffAdvance s n f
    let s := match st, (ffCh s n f).seq with
      | 2, some q =>
        match q.goal with
        | .setting _ =>
          if q.step3 ≤ s.now then ffBegin s n f true true .hiz
          else modFf s n f (fun c => { c with seq := some { q with goal := .hiz } })
        | _ => s
      | _, _ => ffBegin (ffTakeBack s n f) n f false false .hiz
    updFf s n f (fun c => { c with base := .changing, deferred := none })

/-- A change sequence ends: step 4, or the switch is open (R353, R355, R226). -/
def ffSequenceEnd (s : State) (n : Fin 16) (f : Fin 8) : State :=
  match (ffCh s n f).seq with
  | none => s
  | some q =>
    if q.endAt ≤ s.now then
      let s := ffAdvance s n f
      match q.goal with
      | .setting _ =>
        let d := (ffCh s n f).deferred
        let s := updFf s n f (fun c => { c with seq := none, base := .active, deferred := none, code := 0, changes := [], events := [] })
        match d with
        | some (code, off) => if ffMuted s n f then s else ffRefresh (ffSetCode s n f code off) n f
        | none => s
      | .hiz => updFf s n f (fun c => { c with seq := none, base := .hiz, code := 0, deferred := none })
      | .guarded =>
        updFf s n f (fun c => { c with seq := none, base := .hiz, code := 0, deferred := none,
                                       guarded := !c.releasing, releasing := false })
    else s

/-! ### Fast reactions (R357) and the guard of the slice (R226) -/

/-- The switch opens without a ramp; the channel stands in high impedance (R357). -/
def ffOpen (s : State) (n : Fin 16) (f : Fin 8) : State :=
  modFf s n f (fun c => { c with seq := none, base := .hiz, deferred := none, code := 0, beatCode := 0, changes := [], events := []
                                 guarded := c.guarded && !c.releasing, releasing := false })

/-- Every FF channel of a slice in turn. -/
def ffEach (s : State) (g : State → Fin 8 → State) : State := (List.finRange 8).foldl g s

/-- A short check ends as dismissed (R360). -/
def ffDismiss (s : State) (n : Fin 16) (f : Fin 8) : State :=
  if (ffCh s n f).check.isSome then
    ((modFf s n f (fun c => { c with check := none })).setFlag F.FF_STATUS_CHECK false n f).count .FF_DISMISS n f
  else s

/-- The sequence opens the switch in the present beat (R353, R355). -/
def FfSequence.opening (q : FfSequence) (now : Nat) : Bool :=
  (q.opened && decide (now < q.z + 250)) || (!q.from3 && !q.opened && decide (q.z + q.ramp ≤ now) && decide (now < q.z + q.ramp + 250))

/-- A channel enters the guard: the ramp from the present code, then the opening; an opening that runs completes (R220, R346, R357). -/
def ffGuardCh (s : State) (n : Fin 16) (f : Fin 8) : State :=
  let s := ffAdvance s n f
  let c := ffCh s n f
  let s := if c.guarded && c.seq.isSome then s
    else if ffClosed s n f s.now then ffBegin s n f false false .guarded
    else match c.seq with
      | some q =>
        if q.opening s.now then modFf s n f (fun c => { c with seq := some { q with goal := .guarded } })
        else modFf s n f (fun c => { c with seq := none, code := 0 })
      | none => s
  updFf s n f (fun c => { c with guarded := true, releasing := false, deferred := none, base := .hiz })

/-- The FF outputs of a slice are guarded (R226). -/
def ffGuard (s : State) (n : Fin 16) : State :=
  ffEach (s.setFlag F.PIN_GUARD_STATUS_FF_GUARDED true n) (fun s f => ffGuardCh s n f)

/-- The guard of the slice's FF outputs is released: each channel leaves it for HIZ, or once its switch is open (R226). -/
def ffRelease (s : State) (n : Fin 16) : State :=
  if s.flag F.PIN_GUARD_STATUS_FF_GUARDED n then
    ffEach (s.setFlag F.PIN_GUARD_STATUS_FF_GUARDED false n) (fun s f =>
      updFf s n f (fun c => if c.seq.isSome then { c with releasing := true } else { c with guarded := false, base := .hiz }))
  else s

/-- Every channel of the slice enters OFF (R346, R589, R641). -/
def ffOff (s : State) (n : Fin 16) : State :=
  ffEach s (fun s f => updFf ((ffDismiss (ffOpen s n f) n f).setFlag F.FF_STATUS_LIMIT false n f) n f (fun c => { c with off := true }))

/-- Every channel of the slice leaves OFF, to HIZ (R346, R347, R590, R655). -/
def ffOn (s : State) (n : Fin 16) : State :=
  ffEach s (fun s f => updFf s n f (fun c => { c with off := false, drained := false, base := .hiz }))

/-- A governor trip on an FF line: code 0 with the switch closed; on a channel that is neither ACTIVE nor CHANGING only the
cause is set (R357, R603). -/
def ffGovMute (s : State) (n : Fin 16) (f : Fin 8) : State :=
  let st := ffStateOf s n f
  let s := s.setFlag F.FF_STATUS_GOV true n f
  if st = 1 ∨ st = 2 then
    updFf s n f (fun c => { c with base := .active, seq := none, deferred := none, code := 0, changes := [(0, 0)], events := [] })
  else s

/-! ### Short supervision (R359 to R361) -/

/-- The limiter starts acting at this boundary (R359). -/
def ffLimitAct (s : State) (n : Fin 16) (f : Fin 8) : State :=
  if ffClosed s n f s.now ∧ ¬s.flag F.FF_STATUS_LIMIT n f then
    let s := s.setFlag F.FF_STATUS_LIMIT true n f
    if checkRunning s n then s
    else
      let s := (s.count .FF_PROV n f).setFlag F.FF_STATUS_CHECK true n f
      modFf s n f (fun c => { c with check := some { p := s.now, converting := none, errors := [] } })
  else s

/-- The conversion of a short check that is due at this boundary takes the converter, or is skipped (R360, R375, R376). -/
def ffCheckStart (s : State) (n : Fin 16) (f : Fin 8) : State :=
  match (ffCh s n f).check with
  | none => s
  | some k =>
    let i := (s.now - k.p) / 125
    if k.p < s.now ∧ (s.now - k.p) % 125 = 0 ∧ i ≤ 40 ∧ ¬madHeld s n then
      let s := madPreempt s n
      let s := modMad s n (fun m => { m with checkUntil := s.now + 125 })
      modFf s n f (fun c => { c with check := some { k with converting := some i } })
    else s

/-- A short is confirmed (R357, R360). -/
def ffConfirm (s : State) (n : Fin 16) (f : Fin 8) : State :=
  let s := modFf s n f (fun c => { c with check := none })
  let s := ((s.setFlag F.FF_STATUS_CHECK false n f).setFlag F.FF_STATUS_LIMIT false n f).setFlag F.FF_STATUS_SHORT true n f
  let s := (s.count .FF_SHORTS n f).raise Src.FF_SHORT n.val f.val
  ffRefresh (ffOpen s n f) n f

/-- The errors of the last eight conversions taken say that the line holds a short (R360). -/
def shortSeen (errTh progress : Nat) (errors : List Nat) : Bool :=
  match errors with
  | e0 :: e1 :: e2 :: e3 :: e4 :: e5 :: e6 :: e7 :: _ =>
    [e0, e1, e2, e3, e4, e5, e6, e7].all (fun e => decide (errTh * 128 ≤ e)) && decide ((e7 : Int) - e0 < (progress * 32 : Nat))
  | _ => false

/-- A short-check conversion is judged (R360). -/
def ffCheckConversion (s : State) (n : Fin 16) (f : Fin 8) (readback : Int) : State :=
  match (ffCh s n f).check with
  | some k =>
    match k.converting with
    | some i =>
      if k.p + 125 * (i + 1) ≤ s.now then
        let e := (readback - (ffCh s n f).code).natAbs
        let errors := e :: k.errors
        let s := (s.setFld F.FF_READBACK_VALUE (pat 16 readback) n f).setFld F.FF_READBACK_INDEX i n f
        let s := modFf s n f (fun c => { c with check := some { k with converting := none, errors := errors } })
        if 8 ≤ i ∧ shortSeen (max 1 (s.fld F.FF_SHORT_CFG_ERR n f)) (max 1 (s.fld F.FF_SHORT_CFG_PROGRESS n f)) errors then
          ffConfirm s n f
        else s
      else s
    | none => s
  | none => s

/-- The limiter stops acting; a running check is dismissed (R360). -/
def ffLimitRelease (s : State) (n : Fin 16) (f : Fin 8) : State := ffDismiss (s.setFlag F.FF_STATUS_LIMIT false n f) n f

/-- P + 5,125 with the limiter still acting: confirmed (R360). -/
def ffCheckDeadline (s : State) (n : Fin 16) (f : Fin 8) : State :=
  match (ffCh s n f).check with
  | some k => if k.p + 5125 ≤ s.now ∧ s.flag F.FF_STATUS_LIMIT n f then ffConfirm s n f else s
  | none => s

/-- FF_STATUS.SHORT is cleared: a SHORT channel goes to HIZ (R346). -/
def ffShortClear (s : State) (n : Fin 16) (f : Fin 8) : State := ffRefresh (s.setFlag F.FF_STATUS_SHORT false n f) n f

/-! ### The beat -/

/-- The codes of the eight samples of the beat that ends (R350). -/
def ffSamples (c : FfChannel) : List Int :=
  (List.range 8).map (fun i => ((c.changes.filter (fun x => decide (x.1 ≤ i))).getLast?.map Prod.snd).getD c.beatCode)

/-- The estimated line current of a code in units of 2^−15 µA (R343, R603). -/
def ffCurrent (setting rload : Nat) (c : Int) : Int :=
  match setting with
  | 0 => c * 500000 / max 10 rload
  | 1 => c * 1000000 / max 10 rload
  | 2 => c * 2500000 / max 10 rload
  | 3 => c * 5000000 / max 10 rload
  | 4 => c * 2000
  | 5 => c * 20000
  | _ => 0

/-- The squares of the line current of the beat that ends enter the window of the governor (R603). -/
def ffEnergy (s : State) (n : Fin 16) (f : Fin 8) : State :=
  let c := ffCh s n f
  let x := n.val * 8 + f.val
  let e := if ffStateOf s n f = 1 then
      ((ffSamples c).map (fun v => ((ffCurrent (s.fld F.FF_STATUS_SETTING n f) (s.fld F.NRG_FF_RLOAD_OHMS x) v) ^ 2).toNat)).sum
    else 0
  if e = 0 ∧ c.energy.isEmpty then s
  else modFf s n f (fun c => { c with energy := (if e = 0 then [] else [(s.now - 1, e)]) ++ c.energy.filter (fun y => decide (s.now ≤ y.1 + 250000)) })

/-- At a beat boundary, before its events: the beat that ends enters the governor's window and its held transitions are counted (R352,
R603), and sequences go on (R353, R364). The limiter cannot act once the switch opens (R359). -/
def ffBeat (s : State) (n : Fin 16) (f : Fin 8) : State :=
  let s := ffEnergy s n f
  let c := ffCh s n f
  let s := s.countBy .FF_DGL (dglCount s n f c.beatCode (c.changes.map Prod.snd)) n f
  let s := modFf s n f (fun c => { c with beatCode := lastCode c.beatCode c.changes, code := lastCode c.beatCode c.changes, changes := []
                                          events := [] })
  let s := ffRefresh (ffAdvance s n f) n f
  if s.flag F.FF_STATUS_LIMIT n f && !ffClosed s n f s.now then ffLimitRelease s n f else s

/-! ### The commands -/

def execFfCode (n : Fin 16) (f : Fin 8) (code : BitVec 16) (off : Fin 8) (s : State) : Result := .next (s.analogEvent n (fun s => ffCode s n f code.toInt off.val))
def execFfSpan (n : Fin 16) (f : Fin 8) (setting : BitVec 3) (s : State) : Result := .next (s.analogEvent n (fun s => ffSpan s n f setting.toNat))
def execFfHiz (n : Fin 16) (f : Fin 8) (s : State) : Result := .next (s.analogEvent n (fun s => ffHiz s n f))
def execFfSequenceEnd (n : Fin 16) (f : Fin 8) (s : State) : Result := .next (ffSequenceEnd s n f)
def execFfLimitAct (n : Fin 16) (f : Fin 8) (s : State) : Result := .next (ffLimitAct s n f)
def execFfCheckConversion (n : Fin 16) (f : Fin 8) (readback : BitVec 16) (s : State) : Result :=
  .next (ffCheckConversion s n f readback.toInt)
def execFfLimitRelease (n : Fin 16) (f : Fin 8) (s : State) : Result := .next (ffLimitRelease s n f)
def execFfCheckDeadline (n : Fin 16) (f : Fin 8) (s : State) : Result := .next (ffCheckDeadline s n f)
def execFfShortClear (n : Fin 16) (f : Fin 8) (s : State) : Result := .next (ffShortClear s n f)

end Sys2Proof.Machine
end

