-- ==== Sys2Proof/Machine/Pins.lean ====
section
/-!
DEFINITION. The pin electronics: the guard, the active loads, the measure units and the contact check (Pin Electronics,
Contact Checks and the Touchdown Guard, R205 to R236).
-/

namespace Sys2Proof.Machine

/-- Change the pins of a slice. -/
def modPin (s : State) (n : Fin 16) (f : PinUnit → PinUnit) : State := s.modSl n (fun x => { x with pin := f x.pin })

/-- Change the streamer of a slice. -/
def modVec (s : State) (n : Fin 16) (f : Streamer → Streamer) : State := s.modSl n (fun x => { x with vec := f x.vec })

/-- Every slice in turn. -/
def eachSlice (s : State) (f : State → Fin 16 → State) : State := (List.finRange 16).foldl f s

/-- Every pin of a slice in turn. -/
def eachPin (s : State) (f : State → Nat → State) : State := (List.range 32).foldl f s

/-- A verdict reaches the crossbar at a tick; two of the same number in the same beat merge (R197, R318). -/
def readyVerdict (s : State) (n : Fin 16) (v value at_ : Nat) (muted : Bool) : State :=
  if s.xbar.ready.any (fun r => r.v = v ∧ r.at_ = at_) then
    let s := if 512 ≤ v then s.setFlag F.VEC_STATUS_WIN_MERGE true n else s
    { s with xbar := { s.xbar with ready := s.xbar.ready.map (fun r =>
        if r.v = v ∧ r.at_ = at_ then { r with value := r.value ||| value } else r) } }
  else { s with xbar := { s.xbar with ready := s.xbar.ready ++ [{ v := v, value := value, at_ := at_, muted := muted }] } }

/-! ### Guarding (R219 to R227) -/

/-- Pin `p` is guarded (R225). -/
def pinGuarded (s : State) (n : Fin 16) (p : Nat) : Bool := s.flag F.PIN_STATUS_GUARDED n p

/-- The guarded pins of a slice. -/
def guardedMask (s : State) (n : Fin 16) : BitVec 32 := s.rd .PIN_GUARDED n

/-- Every open window reports INCOMPLETE for these pins (R223). -/
def windowsIncomplete (s : State) (n : Fin 16) (pins : BitVec 32) : State :=
  modVec s n (fun v => { v with windows := v.windows.map (fun w => { w with incomplete := w.incomplete ||| pins }) })

/-- PIN_STATUS.GUARDED and PIN_GUARDED follow the three causes of each pin (R225). -/
def guardRefresh (s : State) (n : Fin 16) : State :=
  eachPin s (fun s p =>
    let g := s.flag F.PIN_STATUS_CAUSE_IN n p || s.flag F.PIN_STATUS_CAUSE_PWR n p || s.flag F.PIN_STATUS_CAUSE_CHECK n p
    (s.setFlag F.PIN_STATUS_GUARDED g n p).wr .PIN_GUARDED (BitVec.ofNat 32 (putBit (s.rd .PIN_GUARDED n).toNat p g)) n)

/-- Every pin of the slice gets a cause and its measure unit is disconnected (R220, R221, R225, R228). -/
def guardPins (s : State) (n : Fin 16) (cause : Field) : State :=
  let s := eachPin s (fun s p => (s.setFlag cause true n p).setFlag F.PIN_STATUS_PMU_CONN false n p)
  windowsIncomplete (guardRefresh s n) n (BitVec.allOnes 32)

/-- How many pins of the slice have LOAD_EN in effect. -/
def loadsActive (s : State) (n : Fin 16) : Nat := ((List.range 32).filter (fun p => s.flag F.PIN_STATUS_LOAD_ACTIVE n p)).length

/-- The load of pin `p` follows LOAD_EN: beyond eight others in effect it asks power admission; cleared, it releases or
withdraws (R213). A guarded pin waits for its release (R222). -/
def loadSync (s : State) (n : Fin 16) (p : Nat) : State :=
  let on := s.flag F.PIN_CFG_LOAD_EN n p
  let active := s.flag F.PIN_STATUS_LOAD_ACTIVE n p
  let pend := s.flag F.PIN_STATUS_LOAD_PEND n p
  if pinGuarded s n p ∧ ¬(pend ∧ ¬on) then s
  else if on then
    if active || pend then s
    else if 8 ≤ loadsActive s n then (s.setFlag F.PIN_STATUS_LOAD_PEND true n p).askAdmission 5 (n.val * 32 + p)
    else s.setFlag F.PIN_STATUS_LOAD_ACTIVE true n p
  else if active || pend then
    ((s.setFlag F.PIN_STATUS_LOAD_ACTIVE false n p).setFlag F.PIN_STATUS_LOAD_PEND false n p).releaseAdmission 5 (n.val * 32 + p)
  else s

/-- The grant of a load (R213). -/
def loadGranted (s : State) (g : Nat) : State :=
  (s.setFlag F.PIN_STATUS_LOAD_PEND false (g / 32) (g % 32)).setFlag F.PIN_STATUS_LOAD_ACTIVE true (g / 32) (g % 32)

/-- The refusal of a load (R596). -/
def loadRefused (s : State) (g : Nat) : State :=
  (s.setFlag F.PIN_STATUS_LOAD_PEND false (g / 32) (g % 32)).setFlag F.PIN_CFG_LOAD_EN false (g / 32) (g % 32)

/-- PIN_CFG.LOAD_EN of a pin is set (R213). -/
def loadEnable (s : State) (n : Fin 16) (p : Nat) : State := loadSync (s.setFlag F.PIN_CFG_LOAD_EN true n p) n p

/-- Pins of the slice leave the guard: their stored loads act, and at the first of them the FF outputs leave the guard; the
journal and the event queue take the release (R222, R226, R227). -/
def afterRelease (s : State) (n : Fin 16) (before : BitVec 32) : State :=
  let s := guardRefresh s n
  let freed := before &&& ~~~(guardedMask s n)
  if freed = 0 then s
  else
    let s := (setBits 32 freed.toNat).foldl (fun s p => loadSync s n p) s
    if s.flag F.PIN_GUARD_STATUS_FF_GUARDED n then
      ((ffRelease s n).journal JType.GUARD n.val 0 1).event EvCode.GUARD n.val 0 1
    else s

/-- A write of PIN_RELEASE (R225). In a muted replay CAUSE_PWR stays (R676). -/
def pinRelease (s : State) (n : Fin 16) (pins : BitVec 32) : State :=
  if s.flag F.PIN_GUARD_CTRL_GUARD_EN n then s.setFlag F.PIN_GUARD_STATUS_RELEASE_IGN true n
  else
    let before := guardedMask s n
    let s := (setBits 32 pins.toNat).foldl (fun s p =>
      (s.setFlag F.PIN_STATUS_CAUSE_PWR s.replayMuted n p).setFlag F.PIN_STATUS_CAUSE_CHECK false n p) s
    afterRelease s n before

/-! ### The contact check (R228 to R233) -/

/-- The reading of a pin. -/
def ContactCheck.reading (c : ContactCheck) (p : Nat) : PinReading := c.readings.getD p { supply := 0, volts := 0, below := 0, above := 0 }

/-- The tick at which step `k` of the check ends: the supply step is step 0, pin p is step p + 1 (R229). -/
def ContactCheck.stepEnd (c : ContactCheck) (k : Nat) : Nat := c.start + 250 * (c.settle + 64 + k * (c.settle + 6))

/-- The end K of the check. -/
def ContactCheck.endAt (c : ContactCheck) : Nat := c.stepEnd 32

/-- A pin is tested. -/
def ContactCheck.tested (c : ContactCheck) (p : Nat) : Bool := c.mask.toNat.testBit p

/-- A tested pin found shorted to a supply (R230, rule 1). -/
def ContactCheck.supplyShort (c : ContactCheck) (p : Nat) : Bool :=
  c.tested p && decide (c.supplyI * 1000 < (c.reading p).supply.natAbs)

/-- A level code lies in the window of pin `p`. -/
def ContactCheck.inWindow (c : ContactCheck) (p : Nat) (v : Int) : Bool :=
  let l := c.limits.getD p (0, 0)
  decide (l.1 ≤ v) && decide (v ≤ l.2)

/-- A neighbour's current shows a short in the step of `p` (R230, rule 3). -/
def ContactCheck.nbrShort (c : ContactCheck) (q : Option Nat) (i : Int) : Bool :=
  match q with
  | some q => c.tested q && !c.supplyShort q && decide (c.force * 1000 ≤ 2 * i.natAbs)
  | none => false

/-- RESULT and PARTNER by rules 2 to 5 and 7 of R230. -/
def ContactCheck.classify (c : ContactCheck) (p : Nat) : Nat × Nat :=
  let r := c.reading p
  let lo := c.nbrShort (if p = 0 then none else some (p - 1)) r.below
  let hi := c.nbrShort (if p = 31 then none else some (p + 1)) r.above
  if r.volts ≤ -5600 then (2, 0)
  else if r.volts.natAbs < 4 * c.shortV ∧ (lo ∨ hi) then (3, if lo then p - 1 else p + 1)
  else if r.volts.natAbs < 4 * c.shortV then (4, 0)
  else if c.inWindow p r.volts then (1, 0)
  else (7, 0)

/-- PIN_CC_RESULT of a pin. -/
def ccResult (s : State) (n : Fin 16) (p result partner : Nat) (volts : Int) : State :=
  s.wr .PIN_CC_RESULT (BitVec.ofNat 32 (result + partner % 32 * 2 ^ 4 + pat 16 volts * 2 ^ 16)) n p

/-- Write what the step `k` of the check found (R230). -/
def ccStepDone (s : State) (n : Fin 16) (c : ContactCheck) (k : Nat) : State :=
  if k = 0 then eachPin s (fun s p => if c.supplyShort p then ccResult s n p 5 0 0 else s)
  else
    let p := k - 1
    if c.tested p && !c.supplyShort p then
      let (r, q) := c.classify p
      ccResult s n p r q (c.reading p).volts
    else s

/-- Every step that has ended by now is written, and STEP shows the pin of the step in progress (R230). -/
def ccAdvanceGo (n : Fin 16) : Nat → State → State
  | 0, s => s
  | fuel + 1, s =>
    match (s.sl n).pin.check with
    | none => s
    | some c =>
      if c.done ≤ 32 ∧ c.stepEnd c.done ≤ s.now then
        let s := ccStepDone s n c c.done
        let s := s.setFld F.PIN_CC_STATUS_STEP (min c.done 31) n
        ccAdvanceGo n fuel (modPin s n (fun x => { x with check := some { c with done := c.done + 1 } }))
      else s

def ccAdvance (s : State) (n : Fin 16) : State := ccAdvanceGo n 33 s

/-- The pins whose guard governor has TRIP set (R605). -/
def trippedPins (s : State) (n : Fin 16) : BitVec 32 :=
  BitVec.ofNat 32 ((List.range 32).map (fun p => if s.flag F.NRG_PIN_STATUS_TRIP (n.val * 32 + p) then 2 ^ p else 0)).sum

/-- A contact check starts (R228, R229). -/
def ccStartNow (s : State) (n : Fin 16) (readings : List PinReading) : State :=
  let c : ContactCheck :=
    { start := s.now, settle := max 1 (s.fld F.PIN_CC_CFG_SETTLE n), force := clampNat 1 200 (s.fld F.PIN_CC_CFG_FORCE n),
      shortV := s.fld F.PIN_CC_CFG_SHORT_V n, supplyI := min 200 (s.fld F.PIN_CC_CFG_SUPPLY_I n), mask := s.rd .PIN_CC_MASK n,
      limits := (List.range 32).map (fun p => (sext 16 (s.fld F.PIN_CC_LIM_VLO n p), sext 16 (s.fld F.PIN_CC_LIM_VHI n p))),
      readings := readings, tripped := trippedPins s n, done := 0 }
  let s := madPreempt s n
  let s := eachPin s (fun s p => s.wr .PIN_CC_RESULT 0 n p)
  let s := ((s.setFld F.PIN_CC_STATUS_STATE 2 n).setFld F.PIN_CC_STATUS_STEP 0 n).setFlag F.PIN_CC_STATUS_REVERSED false n
  let s := modPin s n (fun x => { x with check := some c })
  ffGuard (guardPins s n F.PIN_STATUS_CAUSE_CHECK) n

/-- PIN_CC_CTRL.START (R228). -/
def ccStart (s : State) (n : Fin 16) (readings : List PinReading) : State :=
  if s.fld F.PIN_CC_STATUS_STATE n = 2 then s
  else if s.flag F.PIN_GUARD_CTRL_GUARD_EN n ∧ s.flag F.PIN_GUARD_STATUS_ACTIVE n then s.setFlag F.PIN_CC_STATUS_REFUSED true n
  else ccStartNow s n readings

/-- RESULT of a pin. -/
def ccRes (s : State) (n : Fin 16) (p : Nat) : Nat := s.fld F.PIN_CC_RESULT_RESULT n p

/-- A MISMATCH pin becomes SWAPPED with the lowest pin whose window it fits and whose voltage fits its own (R230, rule 6). -/
def ccSwap (s : State) (n : Fin 16) (c : ContactCheck) (p : Nat) : State :=
  let q := (List.range 32).find? (fun q => q != p && c.tested q && !c.supplyShort q && c.inWindow q (c.reading p).volts
    && c.inWindow p (c.reading q).volts)
  match q with
  | some q => ccResult s n p 6 q (c.reading p).volts
  | none => s

/-- The reclassification at K (R230, R605). -/
def ccReclassify (s : State) (n : Fin 16) (c : ContactCheck) : State :=
  let s := eachPin s (fun s p => if ccRes s n p = 7 then ccSwap s n c p else s)
  eachPin s (fun s p => if c.tripped.toNat.testBit p then s.wr .PIN_CC_RESULT 0 n p else s)

/-- REVERSED (R230). -/
def ccReversed (s : State) (n : Fin 16) : Bool :=
  let sw := (List.range 32).filter (fun p => ccRes s n p = 6)
  decide (4 ≤ sw.length) && sw.all (fun p => s.fld F.PIN_CC_RESULT_PARTNER n p = 31 - p)

/-- The pins the check releases (R231). -/
def ccReleasable (s : State) (n : Fin 16) : BitVec 32 :=
  let ok (p : Nat) : Bool := decide (ccRes s n p ≤ 1) && !s.flag F.NRG_PIN_STATUS_TRIP (n.val * 32 + p)
  if s.flag F.PIN_CC_STATUS_REVERSED n then 0
  else if s.flag F.PIN_GUARD_CTRL_RELEASE_MODE n then if (List.range 32).all ok then BitVec.allOnes 32 else 0
  else BitVec.ofNat 32 ((List.range 32).map (fun p => if ok p then 2 ^ p else 0)).sum

/-- The releases of a check at K + 1, with DONE (R231). A GUARD_IN asserted since K keeps every pin guarded (R225). -/
def ccReleaseDue (s : State) (n : Fin 16) : State :=
  match (s.sl n).pin.release with
  | some (t, pins) =>
    if t ≤ s.now then
      let before := guardedMask s n
      let s := modPin s n (fun x => { x with release := none })
      let pins := if s.flag F.PIN_GUARD_CTRL_GUARD_EN n ∧ s.flag F.PIN_GUARD_STATUS_ACTIVE n then 0 else pins
      let s := (setBits 32 pins.toNat).foldl (fun s p =>
        ((s.setFlag F.PIN_STATUS_CAUSE_IN false n p).setFlag F.PIN_STATUS_CAUSE_PWR s.replayMuted n p).setFlag F.PIN_STATUS_CAUSE_CHECK false n p) s
      afterRelease (s.setFlag F.PIN_CC_STATUS_DONE true n) n before
    else s
  | none => s

/-- The end K of the check: the reclassification, the verdicts, and the releases at K + 1 (R230 to R232). -/
def ccEnd (s : State) (n : Fin 16) : State :=
  match (s.sl n).pin.check with
  | some c0 =>
    if c0.endAt ≤ s.now then
      let s := ccAdvance s n
      let c := { c0 with tripped := c0.tripped ||| trippedPins s n }
      let k := c.endAt
      let s := ccReclassify s n c
      let s := s.setFlag F.PIN_CC_STATUS_REVERSED (ccReversed s n) n
      let pass := (List.range 32).all (fun p => !c.tested p || ccRes s n p == 1)
      let s := s.setFlag F.PIN_CC_STATUS_ALL_PASS pass n
      let s := eachPin s (fun s p =>
        let r := ccRes s n p
        readyVerdict s n (512 + 32 * n.val + p) (bit01 (decide (1 < r)) + 2 * bit01 (decide (r = 0))) (k + 3) false)
      let s := (s.setFld F.PIN_CC_STATUS_STATE 0 n).event EvCode.CC_DONE n.val 0 (bit01 pass)
      let s := modPin s n (fun x => { x with check := none, release := some (k + 1, ccReleasable s n) })
      ccReleaseDue s n
    else s
  | none => s

/-- A check ends early (R233). -/
def ccAbort (s : State) (n : Fin 16) : State :=
  if (s.sl n).pin.check.isSome then
    let s := ccAdvance s n
    let s := modPin s n (fun x => { x with check := none })
    let s := ((s.setFld F.PIN_CC_STATUS_STATE 0 n).setFlag F.PIN_CC_STATUS_ABORTED true n).setFlag F.PIN_CC_STATUS_REVERSED false n
    s.event EvCode.CC_DONE n.val 0 (bit01 (s.flag F.PIN_CC_STATUS_ALL_PASS n) + 2)
  else s

/-! ### GUARD_IN (R219, R220, R224) -/

/-- GUARD_IN rises (R220): its 20 ns begin, and a debounce in progress ends (R224). -/
def guardInRise (s : State) (ps : Nat) : State :=
  let s := { s with guardLevel := true, guardRise := some (s.now * 4000 + ps) }
  eachSlice s (fun s n =>
    let s := modPin (s.setFlag F.PIN_GUARD_STATUS_IN true n) n (fun x => { x with debounceEnd := none })
    if s.fld F.PIN_CC_STATUS_STATE n = 1 then s.setFld F.PIN_CC_STATUS_STATE 0 n else s)

/-- GUARD_IN falls (R220, R224): a pulse below 20 ns is no assertion; the debounce starts. -/
def guardInFall (s : State) (ps : Nat) : State :=
  let t := s.now * 4000 + ps
  let short : Bool := match s.guardRise with
    | some r => decide (t < r + 20000)
    | none => false
  let s := { s with guardLevel := false, guardRise := if short then none else s.guardRise }
  eachSlice s (fun s n =>
    let s := s.setFlag F.PIN_GUARD_STATUS_IN false n
    if s.flag F.PIN_GUARD_CTRL_GUARD_EN n ∧ (s.flag F.PIN_GUARD_STATUS_ACTIVE n ∨ s.guardRise.isSome) then
      let d := max 1 (s.fld F.PIN_GUARD_CTRL_DEBOUNCE n)
      let s := modPin s n (fun x => { x with debounceEnd := some (ceilDiv (t + d * 1000000) 4000) })
      if s.flag F.PIN_GUARD_CTRL_AUTO_CHECK n ∧ s.fld F.PIN_CC_STATUS_STATE n = 0 then s.setFld F.PIN_CC_STATUS_STATE 1 n else s
    else s)

/-- The guard entry of one slice (R220). -/
def guardEntrySlice (s : State) (n : Fin 16) : State :=
  if s.flag F.PIN_GUARD_CTRL_GUARD_EN n then
    let waiting := s.fld F.PIN_CC_STATUS_STATE n = 1
    let s := ccAbort s n
    let s := if waiting then s.setFld F.PIN_CC_STATUS_STATE 1 n else s
    let s := s.setFlag F.PIN_GUARD_STATUS_ACTIVE true n
    let s := s.count .PIN_GUARD_COUNT n
    let s := eachPin s (fun s p => s.setFld F.NRG_PIN_ENERGY_NJ 0 (n.val * 32 + p))
    let s := ffGuard (guardPins s n F.PIN_STATUS_CAUSE_IN) n
    (s.journal JType.GUARD n.val 0 0).event EvCode.GUARD n.val 0 0
  else s

/-- The guard entry beat E: the first beat boundary at or after 20 ns from the rising edge (R220). -/
def guardEntryBeat (rise : Nat) : Nat := ceilDiv (rise + 20000) 4000

/-- GUARD_ENTRY (R220). -/
def guardEntry (s : State) : State :=
  match s.guardRise with
  | some r => if guardEntryBeat r ≤ s.now then eachSlice { s with guardRise := none } guardEntrySlice else s
  | none => s

/-- The debounce ends: the assertion is over, and the contact check starts if AUTO_CHECK is set (R224). -/
def guardDebounceEnd (s : State) (n : Fin 16) (readings : List PinReading) : State :=
  match (s.sl n).pin.debounceEnd with
  | some t =>
    if t ≤ s.now ∧ ¬s.guardLevel then
      let s := modPin (s.setFlag F.PIN_GUARD_STATUS_ACTIVE false n) n (fun x => { x with debounceEnd := none })
      let s := if s.fld F.PIN_CC_STATUS_STATE n = 1 then s.setFld F.PIN_CC_STATUS_STATE 0 n else s
      if s.flag F.PIN_GUARD_CTRL_AUTO_CHECK n ∧ s.fld F.PIN_CC_STATUS_STATE n ≠ 2 then ccStartNow s n readings else s
    else s
  | none => s

/-! ### The measure units (R214 to R217) -/

/-- The switch of a measure unit reaches its position: connected if CONNECT is in effect (R215). -/
def pmuSwitchDone (s : State) (n : Fin 16) (p : Nat) : State :=
  s.setFlag F.PIN_STATUS_PMU_CONN (s.flag F.PIN_PMU_CTRL_CONNECT n p && !pinGuarded s n p && !checkRunning s n) n p

/-- MODE or RANGE of a measure unit is written (R214, R217). -/
def pmuModeChange (s : State) (n : Fin 16) (p : Nat) (mode : Bool) (range : Nat) : State :=
  let r := if range ≤ 4 then range else s.fld F.PIN_PMU_CTRL_RANGE n p
  let changed := r ≠ s.fld F.PIN_PMU_CTRL_RANGE n p ∨ mode ≠ s.flag F.PIN_PMU_CTRL_MODE n p
  let s := (s.setFlag F.PIN_PMU_CTRL_MODE mode n p).setFld F.PIN_PMU_CTRL_RANGE r n p
  if changed ∧ s.flag F.PIN_STATUS_PMU_CONN n p then
    modPin s n (fun x => { x with pmuZero := x.pmuZero.filter (fun e => e.1 ≠ p) ++ [(p, s.now + 2500)] })
  else s

/-- The forced zero of a measure unit ends after 10 µs (R217). -/
def pmuForceResume (s : State) (n : Fin 16) (p : Nat) : State :=
  modPin s n (fun x => { x with pmuZero := x.pmuZero.filter (fun e => e.1 ≠ p ∨ s.now < e.2) })

/-- The slice's analogue domain goes off: CAUSE_PWR on every pin, every LOAD_EN cleared (R589). -/
def pinsPowerOff (s : State) (n : Fin 16) : State :=
  let s := modPin (ccAbort s n) n (fun x => { x with release := none })
  let s := eachPin s (fun s p =>
    (((s.setFlag F.PIN_CFG_LOAD_EN false n p).setFlag F.PIN_STATUS_LOAD_ACTIVE false n p).setFlag F.PIN_STATUS_LOAD_PEND false n p).releaseAdmission
      5 (n.val * 32 + p))
  guardPins s n F.PIN_STATUS_CAUSE_PWR

/-! ### The commands -/

def execLoadEnable (n : Fin 16) (p : Fin 32) (s : State) : Result := .next (s.analogDo n (fun s => loadEnable s n p))
def execPmuSwitchDone (n : Fin 16) (p : Fin 32) (s : State) : Result := .next (pmuSwitchDone s n p)
def execPmuModeChange (n : Fin 16) (p : Fin 32) (mode : Bool) (range : BitVec 3) (s : State) : Result :=
  .next (pmuModeChange s n p mode range.toNat)
def execPmuForceResume (n : Fin 16) (p : Fin 32) (s : State) : Result := .next (pmuForceResume s n p)
def execGuardInRise (ps : Fin 4000) (s : State) : Result := .next (guardInRise s ps)
/-- GUARD_ENTRY (R220); in a replay the guard acts from the journal (R675). -/
def execGuardEntry (s : State) : Result := .next (if s.rpl.replaying then s else guardEntry s)
def execGuardInFall (ps : Fin 4000) (s : State) : Result := .next (guardInFall s ps)
def execGuardDebounceEnd (n : Fin 16) (readings : List PinReading) (s : State) : Result := .next (guardDebounceEnd s n readings)
def execPinRelease (n : Fin 16) (pins : BitVec 32) (s : State) : Result := .next (s.analogDo n (fun s => pinRelease s n pins))
def execCcStart (n : Fin 16) (readings : List PinReading) (s : State) : Result := .next (s.analogDo n (fun s => ccStart s n readings))
def execCcEnd (n : Fin 16) (s : State) : Result := .next (ccEnd s n)
def execCcAbort (n : Fin 16) (s : State) : Result := .next (ccAbort s n)

end Sys2Proof.Machine
end

