-- ==== Sys2Proof/Machine/Streamer.lean ====
section
/-!
DEFINITION. The vector streamer, timing sets, fail capture and pin summary windows (Vectors, Timing Sets and Fail Capture,
R158 to R204).
-/

namespace Sys2Proof.Machine

/-- One beat in units of 0.25 ps. -/
def beatUnits : Nat := 16000

/-- VEC_STATUS.STATE: 0 STOPPED, 1 RUNNING, 2 UNDERRUN, 3 ERROR, 4 DRAINED (R198). -/
def vecState (s : State) (n : Fin 16) : Nat := s.fld F.VEC_STATUS_STATE n

def setVecState (s : State) (n : Fin 16) (v : Nat) : State := s.setFld F.VEC_STATUS_STATE v n

/-- VEC_INDEX (R174): the index of the next vector to be applied. -/
def vecIndex (s : State) (n : Fin 16) : Nat := s.pair .VEC_INDEX_LO .VEC_INDEX_HI n

/-! ### Timing sets (R161 to R164) -/

/-- The edge times, format and compare mode of a pin in a set. -/
structure PinTiming where
  fmt : Nat
  window : Bool
  e0 : Nat
  e1 : Nat
  e2 : Nat
  e3 : Nat
  e4 : Nat
deriving DecidableEq, Repr

def pinTiming (s : State) (n : Fin 16) (set p : Nat) : PinTiming :=
  let e (i : Nat) := s.fld F.TSET_EDGE_TIME n set p i
  { fmt := s.fld F.TSET_FMT_FMT n set p, window := s.flag F.TSET_FMT_CMODE n set p, e0 := e 0, e1 := e 1, e2 := e 2, e3 := e 3,
    e4 := e 4 }

/-- The conditions 2 to 5 of R162 for a pin: the number of the first that fails, 0 for none. -/
def pinCause (period : Nat) (t : PinTiming) : Nat :=
  let uses2 := t.fmt ≠ 0
  if period ≤ t.e0 ∨ period ≤ t.e1 ∨ period ≤ t.e3 ∨ (uses2 ∧ period ≤ t.e2) ∨ (t.window = true ∧ period ≤ t.e4) then 2
  else if t.e1 < t.e0 ∨ (t.fmt = 3 ∧ t.e1 < t.e0 + 800) then 3
  else if uses2 ∧ t.e2 < t.e1 + 800 then 4
  else if t.window = true ∧ t.e4 ≤ t.e3 then 5
  else 0

/-- The pins enabled in a set (R164). -/
def tsetPins (s : State) (n : Fin 16) (set : Nat) : List Nat := setBits 32 (s.rd .TSET_PIN_EN n set).toNat

/-- The first failed condition of R162 over the pins, with the lowest pin that fails it. -/
def tsetCause (s : State) (n : Fin 16) (set : Nat) : Nat × Nat :=
  let period := s.fld F.TSET_PERIOD_PERIOD n set
  if period < 1600 ∨ 262144000 < period then (1, 0)
  else
    let causes := (tsetPins s n set).map (fun p => (pinCause period (pinTiming s n set p), p))
    match [2, 3, 4, 5].find? (fun c => causes.any (fun x => x.1 == c)) with
    | some c => (c, ((causes.find? (fun x => x.1 == c)).map Prod.snd).getD 0)
    | none => (0, 0)

/-- TSET_STATUS follows the set's registers (R162). -/
def tsetCheck (s : State) (n : Fin 16) (set : Nat) : State :=
  let (c, p) := tsetCause s n set
  ((s.setFlag F.TSET_STATUS_VALID (c == 0) n set).setFld F.TSET_STATUS_CAUSE c n set).setFld F.TSET_STATUS_PIN p n set

/-! ### Vectors (R158, R159, R171) -/

/-- A vector taken apart (R158). -/
structure VecWord where
  states : List Nat
  tset : Nat
  norec : Bool
  nosum : Bool
  flagmk : Bool
  vop : Nat
  arg : Nat
deriving DecidableEq, Repr

def vecDecode (l : List Byte) : VecWord :=
  let w := ofBytes l
  { states := (List.range 32).map (fun p => bitsAt w (3 * p) 3), tset := bitsAt w 96 5, norec := w.testBit 101, nosum := w.testBit 102,
    flagmk := w.testBit 103, vop := bitsAt w 104 4, arg := bitsAt w 108 20 }

/-- The buffered line that can supply vectors in this beat (R176). -/
def vecLine (s : State) (n : Fin 16) (line : Nat) : Option FetchLine :=
  (s.sl n).vec.buffer.find? (fun f => f.line = line ∧ f.fetched < s.now)

/-- A line lies in the stream ring: its offset (R179). -/
def ringOffset (s : State) (n : Fin 16) (line : Nat) : Option Nat :=
  let base := s.fld F.VEC_RING_BASE_LINE n
  let k := s.fld F.VEC_RING_LINES_LINES n
  if base ≤ line ∧ line < base + k then some (line - base) else none

/-- The line is the one at VEC_RING_WP, whose vectors are absent (R184). -/
def atWritePoint (s : State) (n : Fin 16) (line : Nat) : Bool := ringOffset s n line == some (s.fld F.VEC_RING_WP_OFFSET n)

/-- The vector at an address if it is present, with whether one of its words is poisoned. -/
def vecAt (s : State) (n : Fin 16) (addr : Nat) : Option (VecWord × Bool) :=
  if atWritePoint s n (addr / 8) then none
  else (vecLine s n (addr / 8)).map (fun f =>
    (vecDecode ((f.data.drop (16 * (addr % 8))).take 16), f.poison.any (fun w => w / 2 = addr % 8)))

/-- The vector after the one at an address (R172, R181). -/
def nextAddr (s : State) (n : Fin 16) (addr : Nat) : Nat :=
  let base := s.fld F.VEC_RING_BASE_LINE n
  let k := s.fld F.VEC_RING_LINES_LINES n
  if k ≠ 0 ∧ addr + 1 = 8 * (base + k) then 8 * base else addr + 1

/-! ### Fail capture (R187 to R191) -/

/-- How many records the capture area holds (R189). -/
def captureRoom (s : State) (n : Fin 16) : Nat := s.fld F.VEC_FC_LINES_LINES n * 128 / 10

/-- A ten-byte record enters the capture buffer at the next offset of the area, or is lost to a full area (R189). -/
def capturePut (s : State) (n : Fin 16) (r : List Byte) : State :=
  let wp := s.fld F.VEC_FC_WP_OFFSET n
  let lost (s : State) := (s.count .VEC_FC_LOST n).setFlag F.VEC_STATUS_FC_FULL true n
  if captureRoom s n = 0 then lost s
  else if wp + 10 ≤ 10 * captureRoom s n then
    let s := modVec s n (fun v => { v with capture := v.capture ++ [(wp, r)] })
    (s.setFld F.VEC_FC_WP_OFFSET (wp + 10) n).count .VEC_FC_RECS n
  else if s.flag F.VEC_CTRL_FC_WRAP n then
    let s := modVec s n (fun v => { v with capture := v.capture ++ [(0, r)] })
    ((s.setFld F.VEC_FC_WP_OFFSET 10 n).setFlag F.VEC_STATUS_FC_WRAPPED true n).count .VEC_FC_RECS n
  else lost s

/-- A fail record: the index and the failing pins (R188). -/
def failRecord (index : Nat) (mask : BitVec 32) : List Byte := toBytes 6 index ++ toBytes 4 mask.toNat

/-- The body of a marker (R188). -/
def markerBody (kind data : Nat) : List Byte := toBytes 10 (kind % 256 + data % 2 ^ 26 * 2 ^ 8)

/-- Records enter the capture buffer of 409 together, or are lost to it; after a loss an OVERFLOW marker enters first once
there is room for it (R191). -/
def captureIn (s : State) (n : Fin 16) (index : Nat) (rs : List (List Byte)) : State :=
  if !s.flag F.VEC_CTRL_FC_EN n then s
  else
    let v := (s.sl n).vec
    let full (s : State) : State :=
      let s := (s.countBy .VEC_FC_LOST rs.length n).setFlag F.VEC_STATUS_FC_OVF true n
      let s := s.conflict n 4
      modVec s n (fun v => { v with captureLost := v.captureLost + rs.length,
                                    captureLostIndex := if v.captureLost = 0 then index else v.captureLostIndex })
    if v.captureLost = 0 then if v.capture.length + rs.length ≤ 409 then rs.foldl (fun s r => capturePut s n r) s else full s
    else if v.capture.length + 2 + rs.length ≤ 409 then
      let s := capturePut (capturePut s n (failRecord v.captureLostIndex 0)) n (markerBody 9 (min v.captureLost (2 ^ 26 - 1)))
      let s := modVec s n (fun v => { v with captureLost := 0 })
      rs.foldl (fun s r => capturePut s n r) s
    else full s

/-- A marker with its head index (R188, R190). -/
def marker (s : State) (n : Fin 16) (kind index data : Nat) : State :=
  captureIn s n index [failRecord index 0, markerBody kind data]

/-- A failing vector: the counters, and the record unless NOREC (R187). -/
def failVector (s : State) (n : Fin 16) (index : Nat) (failed : BitVec 32) (record : Bool) : State :=
  let s := (s.pairAdd .VEC_FAILVEC_LO .VEC_FAILVEC_HI 1 n).pewterEvent n (2 + n)
  let s := (setBits 32 failed.toNat).foldl (fun s p => s.count .VEC_PFAIL n p) s
  if record then captureIn s n index [failRecord index failed] else s

/-! ### Windows (R193 to R197) -/

/-- The register view of open windows. -/
def showWindow (s : State) (n : Fin 16) (w : Nat) (b : Bool) : State :=
  let r := if w < 32 then Reg.VEC_WIN_OPEN_LO else Reg.VEC_WIN_OPEN_HI
  s.wr r (BitVec.ofNat 32 (putBit (s.rd r n).toNat (w % 32) b)) n

/-- WINDOW_OPEN acts (R193, R195, R223). -/
def windowOpen (s : State) (n : Fin 16) (w : Nat) : State :=
  let pins := s.rd .VEC_WIN_PINS n w
  let inc := if vecState s n = 1 then guardedMask s n else BitVec.allOnes 32
  let s := if (s.sl n).vec.windows.any (fun x => x.index = w) then s.setFlag F.VEC_STATUS_WIN_REOPEN true n else s
  let s := modVec s n (fun v => { v with windows := v.windows.filter (fun x => x.index ≠ w) ++
    [{ index := w, pins := pins, failed := 0, compared := 0, incomplete := inc, strobe := 0 }] })
  showWindow s n w true

/-- WINDOW_CLOSE acts (R193, R195, R196). -/
def windowClose (s : State) (n : Fin 16) (w : Nat) (beat : Nat) : State :=
  match (s.sl n).vec.windows.find? (fun x => x.index = w) with
  | none => s.setFlag F.VEC_STATUS_WIN_IGN true n
  | some x =>
    let last := if x.strobe = 0 then beat else max beat (x.strobe - 1)
    let sum : Summary := { at_ := last + 3, pins := x.pins, failed := x.failed, incomplete := x.incomplete ||| ~~~x.compared }
    let s := modVec s n (fun v => { v with windows := v.windows.filter (fun y => y.index ≠ w), summaries := v.summaries ++ [sum] })
    showWindow s n w false

/-- Every open window takes the compares of a member vector (R194, R196). -/
def windowMember (s : State) (n : Fin 16) (compared failed : BitVec 32) (strobeBeat : Nat → Nat) : State :=
  modVec s n (fun v => { v with windows := v.windows.map (fun w =>
    let mine := w.pins &&& compared
    let last := (setBits 32 mine.toNat).foldl (fun m p => max m (strobeBeat p + 1)) w.strobe
    { w with compared := w.compared ||| mine, failed := w.failed ||| (failed &&& mine), strobe := last }) })

/-- The verdicts of windows whose beat has come (R196). -/
def pinSummaryVerdict (s : State) (n : Fin 16) : State :=
  let due := (s.sl n).vec.summaries.filter (fun x => x.at_ ≤ s.now)
  let s := modVec s n (fun v => { v with summaries := v.summaries.filter (fun x => s.now < x.at_) })
  due.foldl (fun s x =>
    (setBits 32 x.pins.toNat).foldl (fun s p =>
      readyVerdict s n (512 + 32 * n.val + p) (bit01 (x.failed.toNat.testBit p) + 2 * bit01 (x.incomplete.toNat.testBit p)) x.at_ false) s) s

/-- Every open window is marked INCOMPLETE: the streamer stopped (R195). -/
def windowsStopped (s : State) (n : Fin 16) : State := windowsIncomplete s n (BitVec.allOnes 32)

/-! ### Stopping (R184, R198, R199) -/

/-- The pins take the halt state of the last timing set: 0 disabled, 1 drive 0, 2 drive 1, 3 hold (R198, R204). -/
def haltPins (s : State) (n : Fin 16) : State :=
  let set := (s.sl n).vec.lastSet
  let code (p : Nat) : Nat :=
    bitsAt (if p < 16 then s.rd .TSET_HALT_LO n set else s.rd .TSET_HALT_HI n set).toNat (2 * (p % 16)) 2
  modVec s n (fun v => { v with pins := Vector.ofFn (fun p : Fin 32 =>
    let d := v.pins.get p
    match code p.val with
    | 0 => { d with enabled := false, prev := 2 }
    | 1 => { d with enabled := true, level := false, prev := 0 }
    | 2 => { d with enabled := true, level := true, prev := 1 }
    | _ => d) })

/-- The streamer leaves RUNNING for a state: the run ends and the pins halt. -/
def vecLeave (s : State) (n : Fin 16) (state : Nat) : State :=
  setVecState (haltPins (modVec s n (fun v => { v with run := none })) n) n state

/-- The streamer leaves RUNNING at a boundary at which no window closes: every open window is incomplete (R195). -/
def vecStop (s : State) (n : Fin 16) (state : Nat) : State := windowsStopped (vecLeave s n state) n

/-! ### Repeats (R171, R175, R190) -/

/-- The vector in progress repeats under BREAK. -/
def VectorRun.breakable (r : VectorRun) : Bool := r.vop == 1 || r.vop == 4 || r.vop == 5

/-- The MATCH_END marker and record (R175, R190, R192). -/
def matchMark (s : State) (n : Fin 16) (r : VectorRun) (data : Nat) : State :=
  let head := match r.found with
    | some (_, i) => i
    | none => (vecIndex s n + 2 ^ 48 - 1) % 2 ^ 48
  let s := marker s n 11 head data
  if s.rpl.replaying then s else s.journal JType.MATCH_END n.val 0 data

/-- A MATCH repeat ends: its marker, the journal record, and what its last iteration counts as if none matched (R175). -/
def matchEnd (s : State) (n : Fin 16) (r : VectorRun) (broken : Bool) : State :=
  let data := min r.applied (2 ^ 21 - 1) + bit01 r.found.isSome * 2 ^ 24 + bit01 broken * 2 ^ 25
  let last := (vecIndex s n + 2 ^ 48 - 1) % 2 ^ 48
  let s :=
    if r.found.isNone ∧ ¬broken then
      let s := (s.count .VEC_MATCH_EXP n).setFlag F.VEC_STATUS_MATCH_EXP true n
      let s := if r.lastFailed = 0 then s else failVector s n last r.lastFailed r.lastRecord
      if r.lastMember then windowMember s n r.lastCompared r.lastFailed (fun p => r.lastStrobes.getD p 0) else s
    else s
  matchMark s n r data

/-- The repeat in progress ends: the markers of R190. -/
def repeatEnd (s : State) (n : Fin 16) (r : VectorRun) (broken : Bool) : State :=
  let last := (vecIndex s n + 2 ^ 48 - 1) % 2 ^ 48
  if r.vop = 4 then matchEnd s n r broken
  else if r.vop = 5 ∨ (r.vop = 1 ∧ broken) then marker s n 10 last (min r.applied (2 ^ 26 - 1))
  else s

/-- A repeat is cut short by something else than its end or a BREAK: a MATCH and a HOLD are marked, and no iteration is treated as failing
(R175, R186, R190). -/
def repeatCut (s : State) (n : Fin 16) : State :=
  match (s.sl n).vec.run with
  | none => s
  | some r =>
    let s := modVec s n (fun v => { v with run := none })
    if r.vop = 4 then matchMark s n r (min r.applied (2 ^ 21 - 1) + bit01 r.found.isSome * 2 ^ 24)
    else if r.vop = 5 then repeatEnd s n r false
    else s

/-! ### Errors, underrun and halts (R170, R184, R199) -/

/-- The streamer halts with an error at the vector at `addr` (R199). -/
def vecError (s : State) (n : Fin 16) (err addr : Nat) : State :=
  let s := (s.setFld F.VEC_STATUS_ERR err n).setFld F.VEC_ERR_ADDR_ADDR addr n
  let s := (vecStop (marker (repeatCut s n) n 5 (vecIndex s n) err) n 3).pewterEvent n 5
  s.raise Src.VEC_ERROR n.val (bitsAt addr 0 18 + err * 2 ^ 18)

/-- A containment halts the streamer with FAULT_HALT; no VEC_ERROR is reported (R199, R641). -/
def vecFaultHalt (s : State) (n : Fin 16) : State :=
  if vecState s n = 1 then
    (vecStop (marker (repeatCut (s.setFld F.VEC_STATUS_ERR 7 n) n) n 5 (vecIndex s n) 7) n 3).pewterEvent n 5
  else if vecState s n = 4 then s
  else (setVecState (s.setFld F.VEC_STATUS_ERR 7 n) n 3).pewterEvent n 5

/-- An underrun at the vector at `addr` (R184). -/
def vecUnderrun (s : State) (n : Fin 16) (addr : Nat) : State :=
  let s := marker (repeatCut s n) n 2 (vecIndex s n) addr
  let s := s.conflict n 1
  let s := (vecStop ((s.count .VEC_UNDERRUNS n).setFlag F.VEC_STATUS_UNDERRUN true n) n 2).pewterEvent n 4
  (s.event EvCode.VEC_UNDERRUN n.val 0 addr).journal JType.UNDERRUN n.val 0 addr

/-- The streamer halts by an event or by the host (R170, R190). Windows that close at the same boundary stay as they are. -/
def vecHaltRun (s : State) (n : Fin 16) (host : Bool) : State :=
  if vecState s n = 1 then vecLeave (marker (repeatCut s n) n 3 (vecIndex s n) (bit01 host)) n 0
  else if vecState s n = 2 ∨ vecState s n = 3 then setVecState s n 0
  else s

/-- A halt at a boundary at which no window closes (R195). -/
def vecHaltNow (s : State) (n : Fin 16) (host : Bool) : State :=
  if vecState s n = 1 then windowsStopped (vecHaltRun s n host) n else vecHaltRun s n host

/-! ### What follows an application (R171, R173) -/

/-- What the streamer does at the boundary after the applications of a vector: go on at an address, or end the program. -/
inductive Follow where
  | goTo (addr : Nat)
  | finish
deriving DecidableEq, Repr

/-- What follows the vector in progress once its repeats are over; LOOP_END has already popped or kept its entry. -/
def followOf (s : State) (n : Fin 16) (r : VectorRun) : Follow :=
  match r.vop with
  | 6 => .goTo (r.arg % 2 ^ 18)
  | 7 => .finish
  | _ => .goTo (nextAddr s n r.addr)

/-- The repeat of the vector in progress is over at time `t` without a BREAK (R171, R175). -/
def repeatOver (r : VectorRun) (t : Nat) : Bool :=
  match r.vop with
  | 1 => decide (r.arg + 1 ≤ r.applied)
  | 4 => decide (r.arg + 1 ≤ r.applied) || (match r.found with
      | some (known, _) => decide (known ≤ t)
      | none => false)
  | 5 => r.arg != 0 && decide (r.arg ≤ r.applied)
  | _ => true

/-! ### Application (R159, R160, R164 to R166, R173, R175) -/

/-- The drive edges of a pin that drives data `d`: time after the vector's start and the level set (R161). -/
def driveEdges (t : PinTiming) (d : Bool) : List (Nat × Bool) :=
  match t.fmt with
  | 0 => [(t.e1, d)]
  | 1 => [(t.e1, d), (t.e2, false)]
  | 2 => [(t.e1, d), (t.e2, true)]
  | _ => [(t.e0, !d), (t.e1, d), (t.e2, !d)]

/-- Place edges at absolute times, each at least 800 units after the edge before it; `pd` is the pin so far, and the second
answer counts the delays (R166). -/
def placeDrive (start : Nat) : List (Nat × Bool) → PinDrive → Nat → PinDrive × Nat
  | [], d, k => (d, k)
  | (e, b) :: t, d, k =>
    let want := start + e
    let late := d.lastDrive ≠ 0 ∧ want < d.lastDrive + 800
    let at_ := if late then d.lastDrive + 800 else want
    placeDrive start t { d with level := b, lastDrive := at_ } (if late then k + 1 else k)

/-- What a pin does in a vector: its new drive state, whether it is compared, the time of its strobe or window end on the
streamer axis, and how many edges were delayed. `present` says that MASK and KEEP hold the pin's present condition (R160). -/
def applyPin (d : PinDrive) (t : PinTiming) (start code : Nat) (present enabledPin guarded : Bool) : PinDrive × Bool × Nat × Nat :=
  let code := if !enabledPin then 7 else if code = 6 ∧ present then 7 else code
  if code = 7 then (d, false, 0, 0)
  else
    let eff := if code = 6 then (if d.prev ≤ 2 then d.prev else 2) else code
    if eff ≤ 1 then
      let (d', k) := placeDrive start (driveEdges t (eff == 1)) { d with enabled := true } 0
      ({ d' with prev := eff }, false, 0, k)
    else
      let d := { d with enabled := false, prev := if code = 6 then 2 else code }
      if eff = 2 then (d, false, 0, 0)
      else
        let want := start + t.e3
        let late := d.lastStrobe ≠ 0 ∧ want < d.lastStrobe + 800
        let at_ := if late then d.lastStrobe + 800 else want
        let last := if t.window then at_ + (t.e4 - t.e3) else at_
        ({ d with lastStrobe := last }, !guarded, last, bit01 (decide late))

/-- The beat that holds a connector time given on the streamer axis (R168). -/
def connectorBeat (t : Nat) : Nat := (t + 4 * beatUnits) / beatUnits

/-- A vector as it is applied at the streamer's next boundary: the pins, the compares it makes, and the beat of each strobe. -/
structure Applied where
  pins : Vector PinDrive 32
  compared : BitVec 32
  strobes : List Nat
  delays : Nat
deriving DecidableEq, Repr

def applyPins (s : State) (n : Fin 16) (w : VecWord) (start : Nat) (present : Bool) : Applied :=
  let v := (s.sl n).vec
  let en := (s.rd .TSET_PIN_EN n w.tset).toNat
  let g := (guardedMask s n).toNat
  let out := List.map (fun p : Fin 32 =>
    applyPin (v.pins.get p) (pinTiming s n w.tset p.val) start (w.states.getD p.val 7) present (en.testBit p.val) (g.testBit p.val)) (List.finRange 32)
  { pins := Vector.ofFn (fun p : Fin 32 => (out.getD p.val (v.pins.get p, false, 0, 0)).1),
    compared := BitVec.ofNat 32 ((out.zipIdx.map (fun x => bit01 x.1.2.1 * 2 ^ x.2)).sum),
    strobes := out.map (fun x => x.2.2.1),
    delays := (out.map (fun x => x.2.2.2)).sum }

/-- The pins with an EM compare whose thresholds are crossed: every such compare fails (R209). -/
def crossedPins (s : State) (n : Fin 16) (w : VecWord) : BitVec 32 :=
  BitVec.ofNat 32 ((List.range 32).map (fun p => if w.states.getD p 7 = 5 ∧ sext 16 (s.fld F.PIN_VOH_LEVEL n p) < sext 16 (s.fld F.PIN_VOL_LEVEL n p) then 2 ^ p else 0)).sum

/-- The oldest ring offset that the streamer still needs (R179). -/
def ringRp (s : State) (n : Fin 16) (addr : Nat) : State :=
  let k := s.fld F.VEC_RING_LINES_LINES n
  let old := s.fld F.VEC_RING_RP_OFFSET n
  let cand := ((addr :: (s.sl n).vec.loops.map Prod.fst).map (fun a => ringOffset s n (a / 8))).filterMap id
  match cand with
  | [] => s
  | c :: t =>
    let age (x : Nat) := (x + k - old % k) % k
    let best := t.foldl (fun b x => if age x < age b then x else b) c
    let s := s.setFld F.VEC_RING_RP_OFFSET best n
    modVec s n (fun v => { v with buffer := v.buffer.filter (fun f =>
      match ringOffset s n f.line with
      | some o => decide ((o + k - best % k) % k < (s.fld F.VEC_RING_WP_OFFSET n + k - best % k) % k)
      | none => true) })

/-- One application of a vector (R165, R174, R175, R187, R194). `misses` says at which pins the condition of a compare will
not hold. `first` marks the first application of this vector. -/
def vecApply (s : State) (n : Fin 16) (addr : Nat) (w : VecWord) (misses : BitVec 32) (present first : Bool) : State :=
  let v := (s.sl n).vec
  let start := v.next
  let a := applyPins s n w start present
  let failed := a.compared &&& (misses ||| crossedPins s n w)
  let index := vecIndex s n
  let beatOf (p : Nat) : Nat := connectorBeat (a.strobes.getD p 0)
  let s := if a.delays = 0 then s else (s.countBy .VEC_CLAMPS a.delays n).setFlag F.VEC_STATUS_CLAMP true n
  let old := match v.run with
    | some r => if first then none else some r
    | none => none
  let strobe := (setBits 32 a.compared.toNat).foldl (fun m p => max m (beatOf p)) (if a.compared = 0 then connectorBeat start else 0)
  let found := match old.bind VectorRun.found with
    | some x => some x
    | none => if w.vop = 4 ∧ failed = 0 ∧ !s.rpl.replaying then some ((strobe + 2) * beatUnits, index) else none
  let isNewMatch := w.vop = 4 ∧ failed = 0 ∧ (old.bind VectorRun.found).isNone
  let run : VectorRun := { addr := addr, vop := w.vop, arg := w.arg, applied := (old.map VectorRun.applied).getD 0 + 1, found := found,
                           lastCompared := a.compared, lastFailed := failed, lastStrobes := a.strobes.map connectorBeat,
                           lastRecord := !w.norec, lastMember := !w.nosum }
  let s := modVec s n (fun v => { v with run := some run, next := start + s.fld F.TSET_PERIOD_PERIOD n w.tset, lastSet := w.tset, pins := a.pins })
  let s := s.setFld F.VEC_ADDR_ADDR addr n
  let s := s.setPair .VEC_INDEX_LO .VEC_INDEX_HI ((index + 1) % 2 ^ 48) n
  let s := if index + 1 = 2 ^ 48 then marker s n 12 0 0 else s
  let s := if w.flagmk then marker s n 8 index addr else s
  let s := if w.vop = 4 then s else if failed = 0 then s else failVector s n index failed (!w.norec)
  let s := if w.nosum ∨ (w.vop = 4 ∧ ¬isNewMatch) then s else windowMember s n a.compared failed beatOf
  ringRp s n addr

/-- The vector at `addr` is due at the boundary: the checks of R199 in their order, the loop stack, and the application. `looped` says that a
LOOP_END leads back to it. -/
def vecDue (s : State) (n : Fin 16) (addr : Nat) (misses : BitVec 32) (present looped : Bool) : State :=
  if lastIndex < addr then vecError s n 2 addr
  else
    match vecAt s n addr with
    | none => vecUnderrun s n addr
    | some (w, poisoned) =>
      if poisoned then vecError s n 6 addr
      else if 7 < w.vop then vecError s n 1 addr
      else if !s.flag F.TSET_STATUS_VALID n w.tset then vecError s n 5 addr
      else if w.vop = 2 then
        if looped then vecApply s n addr w misses present true
        else if 4 ≤ (s.sl n).vec.loops.length then vecError s n 3 addr
        else vecApply (modVec s n (fun v => { v with loops := (addr, w.arg + 1) :: v.loops })) n addr w misses present true
      else if w.vop = 3 ∧ (s.sl n).vec.loops = [] then vecError s n 4 addr
      else vecApply s n addr w misses present true

/-- The same vector again (R171). -/
def vecAgain (s : State) (n : Fin 16) (addr : Nat) (misses : BitVec 32) : State :=
  match vecAt s n addr with
  | none => vecUnderrun s n addr
  | some (w, poisoned) =>
    if poisoned then vecError s n 6 addr
    else if !s.flag F.TSET_STATUS_VALID n w.tset then vecError s n 5 addr
    else vecApply s n addr w misses false false

/-- A LOOP_END has been applied: the top entry counts down, and the next vector follows from it; whether the loop runs again (R173). -/
def loopEnd (s : State) (n : Fin 16) (r : VectorRun) : State × Nat × Bool :=
  match (s.sl n).vec.loops with
  | (b, k) :: t =>
    if 1 < k then (modVec s n (fun v => { v with loops := (b, k - 1) :: t }), b, true)
    else (modVec s n (fun v => { v with loops := t }), nextAddr s n r.addr, false)
  | [] => (s, nextAddr s n r.addr, false)

/-! ### Events (R169, R170) -/

/-- What the streamer events of one acting boundary leave: a START address, a halt, a BREAK (R170). -/
structure Acting where
  start : Option Nat
  halt : Option Bool
  brk : Bool
deriving DecidableEq, Repr

/-- Streamer events of one boundary in order (R170): a later START overrides a HALT, a later HALT a START. -/
def actingOf : List StreamAction → Acting → Acting
  | [], a => a
  | .start x :: t, a => actingOf t { a with start := some x, halt := none }
  | .brk :: t, a => actingOf t { a with brk := true }
  | .halt h :: t, a => actingOf t { a with start := none, halt := some h }
  | _ :: t, a => actingOf t a

/-- A fail-capture event acts (R190, R193). -/
def captureEvent (s : State) (n : Fin 16) (beat : Nat) : StreamAction → State
  | .openWindow w => windowOpen s n w
  | .closeWindow w => windowClose s n w beat
  | .mark d => marker s n 7 (vecIndex s n) d
  | _ => s

/-- A START acts from a state other than RUNNING: the first vector is due at its boundary (R160, R169, R174, R199). -/
def vecStartNow (s : State) (n : Fin 16) (addr : Nat) : State :=
  let s := s.setPair .VEC_INDEX_LO .VEC_INDEX_HI 0 n
  let s := setVecState (s.setFld F.VEC_STATUS_ERR 0 n) n 1
  let s := modVec s n (fun v => { v with loops := [], run := none, next := s.now * beatUnits, waiting := v.waiting ++ [(s.now, .start addr)] })
  s

/-- What becomes of the repeat in progress at the boundary `t`: a BREAK ends it, or its own end has come; whether it ended (R170, R171, R175). -/
def runCloses (s : State) (n : Fin 16) (t : Nat) (brk : Bool) : State × Bool :=
  match (s.sl n).vec.run with
  | none => (if brk then s.setFlag F.VEC_STATUS_BREAK_IGN true n else s, false)
  | some r =>
    if !r.breakable then (if brk then s.setFlag F.VEC_STATUS_BREAK_IGN true n else s, false)
    else if brk then (repeatEnd s n r true, true)
    else if repeatOver r t then (repeatEnd s n r false, true)
    else (s, false)

/-- The vector that is due at the boundary by the program itself, or the end of the program (R171 to R175). `ended` says that the repeat in
progress has ended. -/
def vecFollow (s : State) (n : Fin 16) (misses : BitVec 32) (ended : Bool) : State :=
  match (s.sl n).vec.run with
  | none => s
  | some r =>
    if r.breakable ∧ ¬ended then vecAgain s n r.addr misses
    else
      let s := modVec s n (fun v => { v with run := none })
      if r.vop = 3 then
        let (s, a, looped) := loopEnd s n r
        vecDue s n a misses false looped
      else match followOf s n r with
        | .goTo a => vecDue s n a misses false false
        | .finish => (vecStop (marker s n 4 ((vecIndex s n + 2 ^ 48 - 1) % 2 ^ 48) 0) n 0).pewterEvent n n

/-- The next vector boundary of a RUNNING streamer (R165, R169, R170): the repeat in progress, the streamer events that act there, then those
of fail capture, then the vector that is due. A HALT acts before a vector is needed and discards every BREAK; a window that closes where it
acts is not made incomplete by it (R195). -/
def vectorBoundary (s : State) (n : Fin 16) (misses : BitVec 32) : State :=
  let v := (s.sl n).vec
  if vecState s n = 1 ∧ v.next < (s.now + 1) * beatUnits then
    let beat := v.next / beatUnits
    let act := v.waiting.filter (fun e => e.1 * beatUnits ≤ v.next)
    let s := modVec s n (fun v => { v with waiting := v.waiting.filter (fun e => ¬(e.1 * beatUnits ≤ v.next)) })
    let a := actingOf (act.map Prod.snd) { start := none, halt := none, brk := false }
    let (s, ended) := runCloses s n v.next (a.brk && a.halt.isNone)
    let captures (s : State) := act.foldl (fun s e => captureEvent s n beat e.2) s
    let cut (s : State) : State := if ended then modVec s n (fun v => { v with run := none }) else repeatCut s n
    match a.halt, a.start with
    | some host, _ => windowsStopped (captures (vecHaltRun (cut s) n host)) n
    | none, some addr =>
      let s := modVec (cut s) n (fun v => { v with loops := [], run := none })
      let s := marker (s.setFld F.VEC_STATUS_ERR 0 n) n 1 (vecIndex s n) addr
      vecDue (captures s) n addr misses v.run.isNone false
    | none, none => vecFollow (captures s) n misses ended
  else s

/-- A streamer event takes effect: at the next vector boundary while RUNNING, else at once; in DRAINED it is discarded and counted
(R120, R169, R170, R199). -/
def vecEvent (s : State) (n : Fin 16) (e : StreamAction) : State :=
  if vecState s n = 4 then
    if e = .halt true then s else s.eventDropped n
  else if vecState s n = 1 then modVec s n (fun v => { v with waiting := v.waiting ++ [(s.now, e)] })
  else
    match e with
    | .start a => vecStartNow s n a
    | .brk => s.setFlag F.VEC_STATUS_BREAK_IGN true n
    | .halt h => vecHaltNow s n h
    | e => captureEvent s n s.now e

/-! ### The ring (R179, R180) -/

/-- A write of VEC_RING_WP (R180); the journal takes an advance of a DMA channel (R667). -/
def ringAdvance (s : State) (n : Fin 16) (wp : Nat) : State :=
  let k := s.fld F.VEC_RING_LINES_LINES n
  if k = 0 then s.setFld F.VEC_RING_WP_OFFSET wp n
  else
    let old := s.fld F.VEC_RING_WP_OFFSET n
    let a := (wp % k + k - old % k) % k
    if k ≤ a + s.ringFill n then s.setFlag F.VEC_STATUS_RING_ERR true n
    else if a = 0 then s
    else s.setFld F.VEC_RING_WP_OFFSET (wp % k) n

/-- VEC_CTRL.FC_RESET (R201). -/
def fcReset (s : State) (n : Fin 16) : State :=
  if s.flag F.VEC_CTRL_FC_EN n then s
  else ((s.setFld F.VEC_FC_WP_OFFSET 0 n).setFlag F.VEC_STATUS_FC_FULL false n).setFlag F.VEC_STATUS_FC_WRAPPED false n

/-! ### Fetch (R176, R177) -/

/-- The lines of valid entry points. -/
def entryLines (s : State) (n : Fin 16) : List Nat :=
  (List.range 8).flatMap (fun e =>
    if s.flag F.VEC_ENTRY_VALID n e then (List.range 4).map (fun i => s.fld F.VEC_ENTRY_ADDR n e / 8 + i) else [])

/-- The vectors in a buffered line with their addresses. -/
def lineVectors (f : FetchLine) : List (Nat × VecWord) :=
  (List.range 8).map (fun i => (8 * f.line + i, vecDecode ((f.data.drop (16 * i)).take 16)))

/-- The program lines from the vector in progress on, in order, `k` of them. -/
def programLines (s : State) (n : Fin 16) : Nat → Nat → List Nat
  | 0, _ => []
  | k + 1, line => line :: programLines s n k (nextAddr s n (8 * line + 7) / 8)

/-- The address the streamer works at. -/
def vecPlace (s : State) (n : Fin 16) : Option Nat :=
  match (s.sl n).vec.waiting.find? (fun e => match e.2 with
      | .start _ => true
      | _ => false) with
  | some (_, .start a) => if (s.sl n).vec.run.isNone then some a else ((s.sl n).vec.run.map VectorRun.addr)
  | _ => (s.sl n).vec.run.map VectorRun.addr

/-- The line the streamer asks for next (R176). -/
def vecWant (s : State) (n : Fin 16) : Option Nat :=
  let v := (s.sl n).vec
  let ahead := match vecPlace s n with
    | some a => programLines s n 17 (a / 8)
    | none => []
  let follow := match v.run with
    | some r => [nextAddr s n r.addr / 8]
    | none => ahead.take 1
  let targets := (v.buffer.filter (fun f => f.line ∈ ahead)).flatMap (fun f => (lineVectors f).filterMap (fun x =>
    if x.2.vop = 6 then some (x.2.arg % 2 ^ 18 / 8)
    else if x.2.vop = 3 then (v.loops.head?).map (fun l => l.1 / 8) else none))
  let ok (l : Nat) : Bool := decide (l < 24576) && v.buffer.all (fun f => f.line ≠ l) &&
    (match ringOffset s n l with
     | some o =>
       let k := s.fld F.VEC_RING_LINES_LINES n
       decide ((o + k - s.fld F.VEC_RING_RP_OFFSET n % k) % k < s.ringFill n)
     | none => true)
  if vecState s n = 4 then none else (entryLines s n ++ follow ++ targets ++ ahead).find? ok

/-- The lines the buffer keeps loaded (R176). -/
def vecKept (s : State) (n : Fin 16) : List Nat :=
  let v := (s.sl n).vec
  entryLines s n ++ v.loops.map (fun l => l.1 / 8) ++ (match v.run with
    | some r => [r.addr / 8]
    | none => [])

/-- VEC_ENTRY.LOADED follows the buffer (R177). -/
def showLoaded (s : State) (n : Fin 16) : State :=
  (List.range 8).foldl (fun s e =>
    let l := s.fld F.VEC_ENTRY_ADDR n e / 8
    let b := s.flag F.VEC_ENTRY_VALID n e && (List.range 4).all (fun i => (s.sl n).vec.buffer.any (fun f => f.line = l + i))
    s.setFlag F.VEC_ENTRY_LOADED b n e) s

/-- A VS slot delivers a line into the buffer of 64 (R176). -/
def vecFill (s : State) (n : Fin 16) (line : Nat) (data : List Byte) (poison : List Nat) : State :=
  let v := (s.sl n).vec
  let kept := vecKept s n
  let room := if v.buffer.length < 64 then v.buffer
    else match v.buffer.find? (fun f => f.line ∉ kept) with
      | some x => v.buffer.filter (fun f => f.line ≠ x.line)
      | none => v.buffer.drop 1
  showLoaded (modVec s n (fun v => { v with buffer := room ++
    [{ line := line, data := data, poison := poison, fetched := s.now, used := s.now }] })) n

/-- The FC slot: the bytes that the capture buffer writes into one line, with their address in the store (R189, R191). -/
def captureWant (s : State) (n : Fin 16) : Option (Nat × List Byte) :=
  match (s.sl n).vec.capture with
  | [] => none
  | (o, _) :: _ =>
    let base := s.fld F.VEC_FC_BASE_LINE n * 128
    let line := (base + o) / 128
    let rec take : Nat → List (Nat × List Byte) → List Byte
      | _, [] => []
      | at_, (x, r) :: t => if base + x = at_ ∧ at_ / 128 = line then r.take (128 * (line + 1) - at_) ++ take (at_ + r.length) t else []
    some (base + o, take (base + o) (s.sl n).vec.capture)

/-- `k` bytes of the capture buffer have been written. -/
def captureDrop : Nat → List (Nat × List Byte) → List (Nat × List Byte)
  | _, [] => []
  | k, (o, r) :: t => if r.length ≤ k then captureDrop (k - r.length) t else (o + k, r.drop k) :: t

/-! ### Drain and power (R86, R589) -/

/-- The drain of a live reload: the RELOAD marker, and DRAINED until the rejoin (R86, R190, R198). -/
def vecDrain (s : State) (n : Fin 16) : State :=
  let s := if vecState s n = 1 then vecStop (marker (repeatCut s n) n 6 (vecIndex s n) 0) n 4 else setVecState s n 4
  modVec s n (fun v => { v with waiting := [] })

/-- Every open window closes without a verdict (R197). -/
def windowsDrop (s : State) (n : Fin 16) : State :=
  let s := modVec s n (fun v => { v with windows := [], summaries := [] })
  (s.wr .VEC_WIN_OPEN_LO 0 n).wr .VEC_WIN_OPEN_HI 0 n

/-! ### The commands -/

def execVecStart (n : Fin 16) (addr : BitVec 18) (s : State) : Result := .next (s.coreEvent n (fun s => vecEvent s n (.start addr.toNat)))
def execVecBreak (n : Fin 16) (s : State) : Result := .next (s.coreEvent n (fun s => vecEvent s n .brk))
def execVecHalt (n : Fin 16) (host : Bool) (s : State) : Result :=
  .next (if host then s.coreDo n (fun s => vecEvent s n (.halt true)) else s.coreEvent n (fun s => vecEvent s n (.halt false)))
def execVectorBoundary (n : Fin 16) (misses : BitVec 32) (s : State) : Result := .next (vectorBoundary s n misses)
def execWindowOpen (n : Fin 16) (w : Fin 64) (s : State) : Result := .next (s.coreEvent n (fun s => vecEvent s n (.openWindow w.val)))
def execWindowClose (n : Fin 16) (w : Fin 64) (s : State) : Result := .next (s.coreEvent n (fun s => vecEvent s n (.closeWindow w.val)))
def execPinSummaryVerdict (n : Fin 16) (s : State) : Result := .next (pinSummaryVerdict s n)
def execFcMark (n : Fin 16) (data : BitVec 26) (s : State) : Result := .next (s.coreEvent n (fun s => vecEvent s n (.mark data.toNat)))
def execFcReset (n : Fin 16) (s : State) : Result := .next (s.coreDo n (fun s => fcReset s n))

end Sys2Proof.Machine
end

