-- ==== Sys2Proof/Machine/Synthesis.lean ====
section
/-!
DEFINITION. Direct-RF synthesis: tones, segment lists and their refill, phase tracks, markers and the TX channels
(Direct-RF Synthesis: Tones, Lists, Phase Tracks and Markers, R237 to R279). Sample axes count from the tick at which the
beat count started: sample 128t is the first of tick t, granule 4t its first granule.
-/

namespace Sys2Proof.Machine

/-- Tone `u` of a slice. -/
def tone (s : State) (n : Fin 16) (u : Fin 32) : Tone := (s.sl n).tone.get u

/-- Change a tone. -/
def modTone (s : State) (n : Fin 16) (u : Fin 32) (f : Tone → Tone) : State :=
  s.modSl n (fun x => { x with tone := x.tone.set u.val (f (x.tone.get u)) u.isLt })

/-- TX channel `k` of a slice. -/
def txCh (s : State) (n : Fin 16) (k : Fin 4) : TxChannel := (s.sl n).tx.get k

/-- Change a TX channel. -/
def modTx (s : State) (n : Fin 16) (k : Fin 4) (f : TxChannel → TxChannel) : State :=
  s.modSl n (fun x => { x with tx := x.tx.set k.val (f (x.tx.get k)) k.isLt })

/-- The TX channel of tone `u` (R3). -/
def toneTx (u : Fin 32) : Fin 4 := ⟨u.val / 8, by omega⟩

/-- TON_STATUS.STATE (R259). -/
def toneState (s : State) (n : Fin 16) (u : Fin 32) : Nat := s.fld F.TON_STATUS_STATE n u

def setToneState (s : State) (n : Fin 16) (u : Fin 32) (v : Nat) : State := s.setFld F.TON_STATUS_STATE v n u

/-! ### Phase tracks and phase (R241 to R245) -/

/-- The word of track `r` (TXC_TRK_FTW). -/
def trackFtw (s : State) (n : Fin 16) (k : Fin 4) (r : Nat) : Nat := s.pair .TXC_TRK_FTW_LO .TXC_TRK_FTW_HI n k r

/-- The accumulator of track `r` at a sample (R242). -/
def trackAcc (s : State) (n : Fin 16) (k : Fin 4) (r sample : Nat) : Nat :=
  match (txCh s n k).tracks.toList[r]? with
  | none => 0
  | some t => ((t.acc + (sample : Int) * trackFtw s n k r - (t.sample : Int) * trackFtw s n k r) % 2 ^ 48).toNat

/-- Put a track's accumulator at sample 128Y of the present tick. -/
def setTrack (s : State) (n : Fin 16) (k : Fin 4) (r : Fin 32) (acc : Nat) (rebased : Bool) : State :=
  modTx s n k (fun c => { c with tracks := c.tracks.set r.val { sample := 128 * s.now, acc := acc, rebased := rebased } r.isLt })

/-- A rebase of track `r` at this boundary (R243). -/
def trackRebaseOne (s : State) (n : Fin 16) (k : Fin 4) (r : Fin 32) : State :=
  setTrack s n k r ((128 * s.beat * trackFtw s n k r) % 2 ^ 48) true

/-- A write of TXC_TRK_FTW: phase-continuous, unless a rebase acts at the same boundary (R243). -/
def trackRetune (s : State) (n : Fin 16) (k : Fin 4) (r : Fin 32) (ftw : Nat) : State :=
  let t := (txCh s n k).tracks.get r
  let acc := trackAcc s n k r (128 * s.now)
  let s := s.setPair .TXC_TRK_FTW_LO .TXC_TRK_FTW_HI (ftw % 2 ^ 48) n k r
  if t.rebased ∧ t.sample = 128 * s.now then trackRebaseOne s n k r else setTrack s n k r acc false

/-- TXC_TRK_REBASE (R243). -/
def trackRebase (s : State) (n : Fin 16) (k : Fin 4) (tracks : Nat) : State :=
  (List.finRange 32).foldl (fun s r => if tracks.testBit r.val then trackRebaseOne s n k r else s) s

/-- What holds at a sample in a history that stands newest first; the oldest entry holds before it. -/
def atSample {α : Type} (key : α → Nat) (sample : Nat) : List α → Option α
  | [] => none
  | [x] => some x
  | x :: t => if key x ≤ sample then some x else atSample key sample t

/-- The phase segment of a tone at a sample. -/
def toneSeg (s : State) (n : Fin 16) (u : Fin 32) (sample : Nat) : PhaseSeg :=
  (atSample PhaseSeg.sample sample (tone s n u).phase).getD { sample := 0, track := some 0, acc := 0, ftw := 0 }

/-- The accumulator of a tone at a sample (R244). -/
def toneAcc (s : State) (n : Fin 16) (u : Fin 32) (sample : Nat) : Nat :=
  let g := toneSeg s n u sample
  match g.track with
  | some r => trackAcc s n (toneTx u) r sample
  | none => (g.acc + (sample - g.sample) * g.ftw) % 2 ^ 48

/-- The word that moves a tone at a sample (R244, TON_FTW). -/
def toneFtw (s : State) (n : Fin 16) (u : Fin 32) (sample : Nat) : Nat :=
  let g := toneSeg s n u sample
  match g.track with
  | some r => trackFtw s n (toneTx u) r
  | none => g.ftw

/-- Enter a phase segment; entries at the same sample or later go. -/
def putSeg (g : PhaseSeg) (l : List PhaseSeg) : List PhaseSeg := g :: l.filter (fun x => decide (x.sample < g.sample))

/-- Bind to a track at a sample (R244). -/
def toneBind (s : State) (n : Fin 16) (u : Fin 32) (r sample : Nat) : State :=
  modTone s n u (fun t => { t with phase := putSeg { sample := sample, track := some r, acc := 0, ftw := 0 } t.phase, lastTrack := r })

/-- Go free or stay free with a word at a sample (R244). -/
def toneFree (s : State) (n : Fin 16) (u : Fin 32) (ftw sample : Nat) : State :=
  let acc := if sample = 0 then toneAcc s n u 0
    else (toneAcc s n u (sample - 1) + toneFtw s n u (sample - 1)) % 2 ^ 48
  modTone s n u (fun t => { t with phase := putSeg { sample := sample, track := none, acc := acc, ftw := ftw } t.phase })

/-- POFF at a sample (R245). -/
def tonePoff (s : State) (n : Fin 16) (u : Fin 32) (sample : Nat) : Nat :=
  ((atSample Prod.fst sample (tone s n u).poff).map Prod.snd).getD 0

/-- Change POFF from a sample on: set it, or add to it (R245, R248). -/
def setPoff (s : State) (n : Fin 16) (u : Fin 32) (sample : Nat) (set : Bool) (v : Nat) : State :=
  let new := if set then v % 2 ^ 32 else (tonePoff s n u sample + v) % 2 ^ 32
  modTone s n u (fun t => { t with poff := (sample, new) :: t.poff.filter (fun x => decide (x.1 < sample)) })

/-! ### Envelope (R251, R252, R257) -/

/-- Point `start + i` of a piece (R251). -/
def EnvPiece.point (p : EnvPiece) (i : Nat) : Int :=
  let l : Int := p.len
  let x : Int := i
  let v : Int := match p.shape with
    | 0 => p.a1
    | 1 => roundDiv (p.a0 * l + (p.a1 - p.a0) * x) p.len
    | _ => roundDiv (p.a0 * (2 * x ^ 3 - 3 * x ^ 2 * l + l ^ 3) + p.s0 * l * (x ^ 3 - 2 * x ^ 2 * l + x * l ^ 2) +
        p.a1 * (3 * x ^ 2 * l - 2 * x ^ 3) + p.s1 * l * (x ^ 3 - x ^ 2 * l)) (p.len ^ 3)
  clampInt (-131072) 131071 v

/-- The envelope point of a tone at a granule boundary; past its piece the last point holds (R251, R253). -/
def tonePoint (s : State) (n : Fin 16) (u : Fin 32) (j : Nat) : Int :=
  match (tone s n u).pieces.find? (fun p => decide (p.start < j)) with
  | none => 0
  | some p => p.point (min (j - p.start) p.len)

/-- A piece replaces what an earlier piece defined from its start on. -/
def putPiece (p : EnvPiece) (l : List EnvPiece) : List EnvPiece := p :: l.filter (fun x => decide (x.start < p.start))

/-- The ramp-down from granule `j` (R257). -/
def rampDown (s : State) (n : Fin 16) (u : Fin 32) (j : Nat) : State :=
  let p := tonePoint s n u j
  modTone s n u (fun t => { t with pieces := putPiece { start := j, len := 4, shape := 1, a0 := p, s0 := 0, a1 := 0, s1 := 0 } t.pieces })

/-! ### Markers (R268 to R271) -/

/-- The fields of TXC_MK_STATUS for marker `m`: list level and forcing. -/
def markListField (m : Nat) : Field := if m = 0 then F.TXC_MK_STATUS_LIST0 else F.TXC_MK_STATUS_LIST1

def markForcedField (m : Nat) : Field := if m = 0 then F.TXC_MK_STATUS_FORCED0 else F.TXC_MK_STATUS_FORCED1

/-- The markers of the channel whose list source is tone `u` (R268). -/
def markersOf (s : State) (n : Fin 16) (u : Fin 32) : List Nat :=
  (List.range 2).filter (fun m => s.fld F.TXC_MK_CFG_SRC n (u.val / 8) m == u.val % 8)

/-- Actions not yet reached at a sample never act; a SPAN cut short ends there (R269). -/
def markGiveUp (sample : Nat) (l : List MarkAct) : List MarkAct :=
  let gone (a : MarkAct) : Bool := match a.spanOf with
    | none => decide (sample ≤ a.sample)
    | some st => l.any (fun b => b.marker = a.marker ∧ b.spanOf = none ∧ b.sample = st ∧ sample ≤ st)
  (l.filter (fun a => !gone a)).map (fun a => if sample ≤ a.sample then { a with sample := sample } else a)

/-- The source tone leaves list playback at a sample: the list levels go to 0 there (R269). -/
def markLeave (s : State) (n : Fin 16) (u : Fin 32) : State :=
  let s := modTone s n u (fun t => { t with marks := [] })
  (markersOf s n u).foldl (fun s m => s.setFlag (markListField m) false n (u.val / 8)) s

/-- The next marker action of tone `u`, if its sample lies before sample `limit` (R269). -/
def markAct (s : State) (n : Fin 16) (u : Fin 32) (limit : Nat) : State :=
  match (tone s n u).marks with
  | [] => s
  | a :: t =>
    let first := t.foldl (fun b c => if c.sample < b.sample then c else b) a
    if first.sample < limit then
      (modTone s n u (fun x => { x with marks := x.marks.erase first })).setFlag (markListField first.marker) first.level n (u.val / 8)
    else s

/-- HIGH or LOW forces a marker to a level; LIST returns it to its list level (R270). -/
def markForce (s : State) (n : Fin 16) (k : Fin 4) (m : Fin 2) (level : Option Bool) : State :=
  match level with
  | some b => (modTx s n k (fun c => { c with markLevel := c.markLevel.set m.val b m.isLt })).setFlag (markForcedField m) true n k
  | none => s.setFlag (markForcedField m) false n k

/-- The output level of a marker before POL (R270, R271, R676). -/
def markOut (s : State) (n : Fin 16) (k : Fin 4) (m : Fin 2) : Bool :=
  if s.fld F.TXC_STATUS_PWR n k ≠ 3 ∨ (s.sl n).reloading ∨ s.replayMuted then false
  else if s.flag (markForcedField m) n k then (txCh s n k).markLevel.get m else s.flag (markListField m) n k

/-! ### Segments (R246 to R250) -/

/-- A segment taken apart (R247 to R249). -/
structure Segment where
  ftw : Nat
  track : Nat
  fmode : Nat
  phase : Nat
  pop : Nat
  amp : Int
  slope : Int
  shape : Nat
  len : Nat
  ctl : Nat
  target : Nat
  mact : List Nat
  moff : List Nat
deriving DecidableEq, Repr

/-- The segment in 32 bytes of the store (R246). -/
def decodeSegment (l : List Byte) : Segment :=
  let f := ofBytes (l.take 8)
  let p := ofBytes ((l.drop 8).take 8)
  let a := ofBytes ((l.drop 16).take 16)
  { ftw := bitsAt f 0 48, track := bitsAt f 48 5, fmode := bitsAt f 53 2, phase := bitsAt p 0 32, pop := bitsAt p 32 2,
    amp := sext 18 (bitsAt a 0 18), slope := sext 18 (bitsAt a 18 18), shape := bitsAt a 36 2, len := bitsAt a 38 21,
    ctl := bitsAt a 59 2, target := bitsAt a 61 17, mact := [bitsAt a 78 2, bitsAt a 96 2], moff := [bitsAt a 80 16, bitsAt a 98 16] }

/-- The last segment index (R246). -/
def lastSegment : Nat := 98303

/-- The first of causes 1 to 6 of R250 that holds of segment `i`; 0 for none. -/
def Segment.cause (g : Segment) (i : Nat) : Nat :=
  if g.shape = 3 then 1
  else if g.len < 4 ∨ 1048576 < g.len then 2
  else if g.fmode = 3 then 3
  else if g.pop = 3 then 4
  else if g.ctl = 3 ∨ (g.ctl = 2 ∧ lastSegment < g.target) ∨ (g.ctl = 0 ∧ i = lastSegment) then 5
  else if (g.mact.zip g.moff).any (fun x => x.1 ≠ 0 ∧ 32 * g.len ≤ x.2) then 6
  else 0

/-- What follows a segment (R253). -/
def Segment.follow (g : Segment) (i : Nat) : ToneNext :=
  match g.ctl with
  | 0 => .segment (i + 1)
  | 2 => .segment g.target
  | _ => .hold

/-- The marker actions of a segment that starts at granule `j0`, for marker `m` (R269). -/
def Segment.marks (g : Segment) (j0 m : Nat) : List MarkAct :=
  let act := g.mact.getD m 0
  let at_ := 32 * j0 + g.moff.getD m 0
  if act = 0 then []
  else { sample := at_, marker := m, level := act ≠ 2, spanOf := none } ::
    (if act = 3 then [{ sample := 32 * (j0 + g.len), marker := m, level := false, spanOf := some at_ }] else [])

/-! ### The buffer and its refill (R260 to R265) -/

/-- The lines a valid entry pins (R262). -/
def entryPins (s : State) (n : Fin 16) (u : Fin 32) (e : Nat) : List Nat :=
  if s.flag F.TON_ENTRY_VALID n u e then
    let l := s.fld F.TON_ENTRY_INDEX n u e / 4
    [l, l + 1].filter (fun x => decide (x < 24576))
  else []

/-- A buffered copy of a line, in playing order or pinned. -/
def toneHas (t : Tone) (line : Nat) : Option FetchLine := (t.buffer ++ t.pinned).find? (fun f => f.line = line)

/-- The buffered line that can supply a segment starting in a tick (R260, R264): fetched in playing order, or pinned by a
loaded entry. -/
def toneSupply (s : State) (n : Fin 16) (u : Fin 32) (line tick : Nat) : Option FetchLine :=
  let t := tone s n u
  let loaded : List Nat := (List.range 4).flatMap (fun e => if s.flag F.TON_ENTRY_LOADED n u e then entryPins s n u e else [])
  (t.buffer ++ t.pinned.filter (fun f => decide (f.line ∈ loaded))).find? (fun f => f.line = line ∧ f.fetched < tick)

/-- The segments buffered ahead in playing order from segment `i` on, and the line of the first that is absent, if the list
goes on (R261). -/
def toneWalk (t : Tone) : Nat → Nat → List Nat × Option Nat
  | 0, _ => ([], none)
  | fuel + 1, i =>
    if lastSegment < i then ([], none)
    else
      match toneHas t (i / 4) with
      | none => ([], some (i / 4))
      | some f =>
        match (decodeSegment ((f.data.drop (32 * (i % 4))).take 32)).follow i with
        | .segment j => let (l, w) := toneWalk t fuel j; (i :: l, w)
        | _ => ([i], none)

/-- The refill of a tone that plays goes on from the segment due next (R261). -/
def toneAhead (s : State) (n : Fin 16) (u : Fin 32) : List Nat × Option Nat :=
  if toneState s n u = 1 then
    match (tone s n u).next with
    | .segment i => toneWalk (tone s n u) 256 i
    | _ => ([], none)
  else ([], none)

/-- Lines that a playing tone has behind it or no longer leads to are free places (R260, R261). -/
def toneTrim (s : State) (n : Fin 16) (u : Fin 32) : State :=
  let keep := (toneAhead s n u).1.map (· / 4)
  modTone s n u (fun t => { t with buffer := t.buffer.filter (fun f => decide (f.line ∈ keep)) })

/-- Places of the tone's buffer that hold no line (R260). -/
def tonePlaces (s : State) (n : Fin 16) (u : Fin 32) : Nat := 64 - ((tone s n u).buffer.length + (tone s n u).pinned.length)

/-- The first pinned line not yet loaded: tone and line (R263). -/
def pinWant (s : State) (n : Fin 16) : Option (Fin 32 × Nat) :=
  (List.finRange 32).findSome? (fun u =>
    (((List.range 4).flatMap (fun e => entryPins s n u e)).find? (fun l => (tone s n u).pinned.all (fun f => f.line ≠ l))).map
      (fun l => (u, l)))

/-- The tone with the most free places among those with a next line to read (R263). -/
def listWant (s : State) (n : Fin 16) : Option (Fin 32 × Nat) :=
  (List.finRange 32).foldl (fun best u =>
    match (toneAhead s n u).2 with
    | none => best
    | some line =>
      if tonePlaces s n u = 0 then best
      else match best with
        | none => some (u, line)
        | some (v, _) => if tonePlaces s n v < tonePlaces s n u then some (u, line) else best) none

/-- What the refill reads in a TL slot: tone, line, and whether the line is pinned (R263). -/
def toneWant (s : State) (n : Fin 16) : Option (Fin 32 × Nat × Bool) :=
  match pinWant s n with
  | some (u, l) => some (u, l, true)
  | none => (listWant s n).map (fun x => (x.1, x.2, false))

/-- LOADED follows the pinned lines (R262). -/
def showEntries (s : State) (n : Fin 16) (u : Fin 32) : State :=
  (List.range 4).foldl (fun s e =>
    let ls := entryPins s n u e
    s.setFlag F.TON_ENTRY_LOADED (!ls.isEmpty && ls.all (fun l => (tone s n u).pinned.any (fun f => f.line = l))) n u e) s

/-- A line of tone `u` arrives in a TL slot (R260, R262). -/
def toneFill (s : State) (n : Fin 16) (u : Fin 32) (line : Nat) (pinned : Bool) (data : List Byte) (poison : List Nat) : State :=
  let f : FetchLine := { line := line, data := data, poison := poison, fetched := s.now, used := s.now }
  if pinned then showEntries (modTone s n u (fun t => { t with pinned := t.pinned ++ [f] })) n u
  else modTone s n u (fun t => { t with buffer := t.buffer ++ [f] })

/-- TON_ENTRY has been written: the entry's old lines go, unless another entry pins them, and its new ones are to be fetched
(R262). -/
def toneEntryChanged (s : State) (n : Fin 16) (u : Fin 32) (e : Nat) : State :=
  let others := ((List.range 4).filter (· ≠ e)).flatMap (fun i => entryPins s n u i)
  showEntries (modTone s n u (fun t => { t with pinned := t.pinned.filter (fun f => decide (f.line ∈ others)) })) n u

/-- TON_CTRL.FLUSH (R265). -/
def toneFlush (s : State) (n : Fin 16) (u : Fin 32) : State :=
  let st := toneState s n u
  if st = 0 ∨ st = 2 ∨ st = 4 ∨ st = 5 then modTone s n u (fun t => { t with buffer := [] })
  else s.setFlag F.TON_STATUS_FLUSH_IGN true n u

/-! ### Playing (R250, R253 to R258, R266) -/

/-- The tone leaves list playback by a ramp-down from granule `j` into a state. -/
def toneLeave (s : State) (n : Fin 16) (u : Fin 32) (j state : Nat) : State :=
  let s := rampDown (markLeave s n u) n u j
  setToneState (modTone s n u (fun t => { t with ends := none, slope := none })) n u state

/-- An underrun at granule `j`: segment `i` is absent (R266). -/
def toneUnderrun (s : State) (n : Fin 16) (u : Fin 32) (i j : Nat) : State :=
  let s := (toneLeave s n u j 4).setFlag F.TON_STATUS_LIST_UNDERRUN true n u
  let s := (s.count .TON_UNDERRUNS n u).conflict n 2
  (s.event EvCode.TONE_UNDERRUN n.val u.val i).journal JType.UNDERRUN n.val (1 + u.val) i

/-- Segment `i` is invalid (R250). -/
def toneError (s : State) (n : Fin 16) (u : Fin 32) (i cause j : Nat) : State :=
  let s := (toneLeave s n u j 5).setFlag F.TON_STATUS_LIST_ERROR true n u
  let s := (s.setFld F.TON_STATUS_ERR_CAUSE cause n u).setFld F.TON_INDEX_INDEX i n u
  (s.count .TON_ERRORS n u).raise Src.TONE_LIST n.val (i + u.val * 2 ^ 17)

/-- The entries of a valid segment act at granule `j0`: frequency, phase, amplitude (R244, R248, R251, R253), and its marker
actions are set (R269). -/
def toneApply (s : State) (n : Fin 16) (u : Fin 32) (i j0 : Nat) (g : Segment) : State :=
  let a0 := tonePoint s n u j0
  let s0 := match (tone s n u).slope with
    | some (e, v) => if e = j0 then v else 0
    | none => 0
  let s := match g.fmode with
    | 1 => toneBind s n u g.track (32 * j0)
    | 2 => toneFree s n u g.ftw (32 * j0)
    | _ => s
  let s := if g.pop = 0 then s else setPoff s n u (32 * j0) (g.pop == 1) g.phase
  let s := modTone s n u (fun t => { t with
    pieces := putPiece { start := j0, len := g.len, shape := g.shape, a0 := a0, s0 := s0, a1 := g.amp, s1 := g.slope } t.pieces
    ends := some (j0 + g.len)
    next := g.follow i
    slope := if g.shape = 2 then some (j0 + g.len, g.slope) else none
    marks := markGiveUp (32 * j0) t.marks ++ (markersOf s n u).flatMap (fun m => g.marks j0 m) })
  toneTrim ((setToneState s n u 1).setFld F.TON_INDEX_INDEX i n u) n u

/-- Segment `i` is to start at granule `j0` (R250, R254, R264, R266). -/
def toneStart (s : State) (n : Fin 16) (u : Fin 32) (i j0 : Nat) : State :=
  match toneSupply s n u (i / 4) (j0 / 4) with
  | none => toneUnderrun s n u i j0
  | some f =>
    let g := decodeSegment ((f.data.drop (32 * (i % 4))).take 32)
    if f.poison.any (fun w => w / 4 = i % 4) then toneError s n u i 7 j0
    else if g.cause i ≠ 0 then toneError s n u i (g.cause i) j0
    else toneApply s n u i j0 g

/-- ZERO at granule `j` (R256). -/
def toneZero (s : State) (n : Fin 16) (u : Fin 32) (j : Nat) : State :=
  let s := toneLeave s n u j 3
  modTone s n u (fun t => { t with ends := some (j + 4), next := .idle })

/-- The next natural boundary of a tone, if it stands at or before granule `limit` (R253, R257). -/
def toneNatural (s : State) (n : Fin 16) (u : Fin 32) (limit : Nat) : State :=
  match (tone s n u).ends with
  | none => s
  | some j =>
    if limit < j then s
    else
      let nx := (tone s n u).next
      let s := modTone s n u (fun t => { t with ends := none })
      match nx with
      | .hold => setToneState s n u 2
      | .idle => setToneState s n u 0
      | .segment i => toneStart s n u i j

/-- Natural boundaries up to granule `limit`; `fuel` bounds their number. -/
def toneCatchUp (s : State) (n : Fin 16) (u : Fin 32) (limit : Nat) : Nat → State
  | 0 => s
  | fuel + 1 =>
    match (tone s n u).ends with
    | none => s
    | some j => if limit < j then s else toneCatchUp (toneNatural s n u limit) n u limit fuel

/-- The natural boundaries up to the boundary of the present tick (R253, R258). A segment lasts at least a beat. -/
def toneToBoundary (s : State) (n : Fin 16) (u : Fin 32) : State := toneCatchUp s n u (4 * s.now) 4

/-- Natural boundaries before the present tick. -/
def toneBefore (s : State) (n : Fin 16) (u : Fin 32) : State :=
  if s.now = 0 then s else toneCatchUp s n u (4 * s.now - 1) 4

/-- An event for a tone acts unless the tone is DRAINED, where it is discarded and counted (R120, R259). -/
def toneEvent (s : State) (n : Fin 16) (u : Fin 32) (f : State → State) : State :=
  if toneState s n u = 6 then s.eventDropped n else f s

/-- A SEGMENT event (R254). It replaces the natural next segment of a boundary at 4Y (R258). -/
def toneSegment (s : State) (n : Fin 16) (u : Fin 32) (i : Nat) : State :=
  toneEvent s n u (fun s =>
    let s := toneBefore s n u
    toneStart (modTone s n u (fun t => { t with marks := markGiveUp (128 * s.now) t.marks })) n u i (4 * s.now))

/-- A ZERO event (R256). -/
def toneZeroEvent (s : State) (n : Fin 16) (u : Fin 32) : State :=
  toneEvent s n u (fun s => toneZero (toneBefore s n u) n u (4 * s.now))

/-- A TRACK event (R255). -/
def toneTrack (s : State) (n : Fin 16) (u : Fin 32) (r : Nat) : State :=
  toneEvent s n u (fun s => toneBind (toneToBoundary s n u) n u r (128 * s.now))

/-- A PHASE event (R245). -/
def tonePhase (s : State) (n : Fin 16) (u : Fin 32) (set : Bool) (v : Nat) : State :=
  toneEvent s n u (fun s => setPoff (toneToBoundary s n u) n u (128 * s.now) set (v * 256))

/-- Every tone of a slice in turn. -/
def eachTone (s : State) (f : State → Fin 32 → State) : State := (List.finRange 32).foldl f s

/-! ### Channel power and mute (R272 to R275) -/

/-- TXC_STATUS.PWR: 0 OFF, 1 PENDING, 2 WAKING, 3 ON. -/
def txPwr (s : State) (n : Fin 16) (k : Fin 4) : Nat := s.fld F.TXC_STATUS_PWR n k

/-- The channel is muted (R273). -/
def txMuted (s : State) (n : Fin 16) (k : Fin 4) : Bool := s.flag F.TXC_STATUS_MUTED n k

/-- Set or clear a mute cause (R273); MUTED and TXC_MUTE_CNT follow (R279). -/
def txCause (s : State) (n : Fin 16) (k : Fin 4) (cause : Field) (b : Bool) : State :=
  let was := txMuted s n k
  let s := s.setFlag cause b n k
  let now := s.flag F.TXC_STATUS_MUTE_CMD n k || s.flag F.TXC_STATUS_MUTE_GOV n k || s.flag F.TXC_STATUS_MUTE_FLT n k
  let s := s.setFlag F.TXC_STATUS_MUTED now n k
  if (txCh s n k).mutedBefore then s
  else if now ∧ ¬was then s.count .TXC_MUTE_CNT n k
  else if was ∧ ¬now ∧ s.rd .TXC_MUTE_CNT n k ≠ BitVec.allOnes 32 then
    s.wr .TXC_MUTE_CNT (s.rd .TXC_MUTE_CNT n k - 1) n k
  else s

/-- TXC_CTRL.ENABLE (R272): ignored unless PWR is OFF. -/
def txEnable (s : State) (n : Fin 16) (k : Fin 4) : State :=
  if txPwr s n k = 0 then (s.setFld F.TXC_STATUS_PWR 1 n k).askAdmission 1 (4 * n.val + k.val) else s

/-- Power admission grants the channel (R272). -/
def txGranted (s : State) (n : Fin 16) (k : Fin 4) : State :=
  if txPwr s n k = 1 then (modTx s n k (fun c => { c with wakeAt := s.now + 5000 })).setFld F.TXC_STATUS_PWR 2 n k else s

/-- Power admission refuses the channel (R596). -/
def txRefused (s : State) (n : Fin 16) (k : Fin 4) : State := s.setFld F.TXC_STATUS_PWR 0 n k

/-- The output stage goes off; the request or the cost goes (R272, R597). -/
def txOff (s : State) (n : Fin 16) (k : Fin 4) : State :=
  (s.setFld F.TXC_STATUS_PWR 0 n k).releaseAdmission 1 (4 * n.val + k.val)

/-! ### From tones to DAC codes (R238, R239, R252, R274) -/

/-- π ÷ 2 in units of 2^−60. -/
def halfPi : Nat := 1811004864519280711

/-- The terms of the sine series from term `t` on, `x2` the squared angle, in units of 2^−60. -/
def sineSeries (x2 : Nat) : Nat → Nat → Nat → Int
  | 0, _, _ => 0
  | fuel + 1, k, t => (t : Int) - sineSeries x2 fuel (k + 1) (t * x2 / 2 ^ 60 / ((2 * k + 2) * (2 * k + 3)))

/-- `scale` times the sine of `r` parts in 2^18 of a quarter turn, rounded to nearest, ties away from zero. -/
def quarterSine (scale : Int) (r : Nat) : Int :=
  let x := halfPi * r / 2 ^ 18
  roundShift (sineSeries (x * x / 2 ^ 60) 12 0 x * scale) 60

/-- `scale` times the sine of a 20-bit phase. -/
def sineAt (scale : Int) (ph : Nat) : Int :=
  let r := ph % 2 ^ 18
  match ph / 2 ^ 18 % 4 with
  | 0 => quarterSine scale r
  | 1 => quarterSine scale (2 ^ 18 - r)
  | 2 => -quarterSine scale r
  | _ => -quarterSine scale (2 ^ 18 - r)

/-- The sine of a 20-bit phase as an 18-bit signed fraction (R238). -/
def sine18 (ph : Nat) : Int := clampInt (-131072) 131071 (sineAt 131072 ph)

/-- The envelope value of a tone at a sample in units of 2^−16 of a point, limited (R252). -/
def toneEnvelope (s : State) (n : Fin 16) (u : Fin 32) (sample : Nat) : Int :=
  let j := sample / 32
  let t : Int := (sample % 32 : Nat)
  let p1 := tonePoint s n u j
  let p2 := tonePoint s n u (j + 1)
  let v : Int :=
    if s.flag F.TON_CFG_INTERP n u then
      let p0 := if j = 0 then p1 else tonePoint s n u (j - 1)
      let p3 := tonePoint s n u (j + 2)
      65536 * p1 + 1024 * (p2 - p0) * t + 32 * (2 * p0 - 5 * p1 + 4 * p2 - p3) * t ^ 2 + (3 * p1 - 3 * p2 + p3 - p0) * t ^ 3
    else 65536 * p1 + 2048 * (p2 - p1) * t
  clampInt (-131072 * 65536) (131071 * 65536) v

/-- The value of a tone at a sample, an 18-bit signed fraction (R238). -/
def toneValue (s : State) (n : Fin 16) (u : Fin 32) (sample : Nat) : Int :=
  let e := toneEnvelope s n u sample
  if e = 0 then 0
  else
    let ph := (toneAcc s n u sample + tonePoff s n u sample * 2 ^ 16) % 2 ^ 48 / 2 ^ 28
    clampInt (-131072) 131071 (roundShift (e * sine18 ph) 33)

/-- The tones of channel `k` that are summed (R239). -/
def enabledTones (s : State) (n : Fin 16) (k : Fin 4) : List (Fin 32) :=
  (List.finRange 32).filter (fun u => u.val / 8 = k.val ∧ (s.fld F.TXC_CFG_TONE_EN n k).testBit (u.val % 8))

/-- The DAC code of a sample before limiting (R239). -/
def rawCode (s : State) (n : Fin 16) (k : Fin 4) (us : List (Fin 32)) (sample : Nat) : Int :=
  floorDiv ((s.fld F.TXC_GAIN_GAIN n k : Int) * (us.map (fun u => toneValue s n u sample)).sum) (2 ^ 18)

/-- A code within the DAC's range (R239). -/
def limitCode (c : Int) : Int := clampInt (-8192) 8191 c

/-- What muting makes of code `i` of a beat (R274): `was` is muted in the beat before, `is` in this one. -/
def muteCode (ramp was is : Bool) (i : Nat) (c : Int) : Int :=
  if !was && !is then c
  else if was == is || !ramp then if is then 0 else c
  else if is then floorDiv (c * (128 - i : Nat)) 128
  else floorDiv (c * i) 128

/-- The raw codes of the beat before the present tick. -/
def beatCodes (s : State) (n : Fin 16) (k : Fin 4) : List Int :=
  let us := enabledTones s n k
  (List.range 128).map (fun i => rawCode s n k us (128 * (s.now - 1) + i))

/-- MUTED of every channel becomes its MUTED of the last beat; the values before that are the answer, slice by slice. -/
def txLatch (s : State) : List (List Bool) × State :=
  let old := (List.finRange 16).map (fun n => (List.finRange 4).map (fun k => (txCh s n k).mutedBefore))
  (old, eachSlice s (fun s n => (List.finRange 4).foldl (fun s k =>
    modTx s n k (fun c => { c with mutedBefore := txMuted s n k })) s))

/-- The energy of a beat enters the governor's windows (R601). `b` is the beat's number. -/
def TxChannel.addEnergy (c : TxChannel) (tick b e : Nat) : TxChannel :=
  let c := if b % 250000 = 0 then { c with blocks := (c.block :: c.blocks).take 999, block := 0 } else c
  { c with block := c.block + e,
           energy := (if e = 0 then [] else [(tick, e)]) ++ c.energy.filter (fun x => decide (tick < x.1 + 250000)) }

/-- The number of the beat that ends at this boundary, as far as its multiple of 250,000 matters: at an EPOCH or a wrap of the count it
is no such multiple. -/
def endedBeat (s : State) : Nat := if s.beat = 0 then 1 else s.beat - 1

/-- A job of the channel or of one of its tones was abandoned in the beat before the one that ends: its samples carry code 0 (R33). -/
def txAbandoned (s : State) (n : Fin 16) (k : Fin 4) : Bool :=
  (s.sl n).overrun.any (fun x => decide (x.1 + 2 = s.now) && (x.2 == 4 + k.val || (decide (8 + 8 * k.val ≤ x.2) && decide (x.2 < 16 + 8 * k.val))))

/-- The beat that ended at this boundary of a channel: limited codes are counted (R239), its energy enters the governor's
windows (R601), and its silence is noted (R616). A muted replay sends code 0 (R676). -/
def txBeatOne (was : Bool) (s : State) (n : Fin 16) (k : Fin 4) : State :=
  let c := txCh s n k
  if txPwr s n k ≠ 3 then
    if c.energy.isEmpty ∧ c.block = 0 ∧ c.blocks.isEmpty ∧ c.quiet then s
    else modTx s n k (fun c => { c.addEnergy (s.now - 1) (endedBeat s) 0 with quiet := true })
  else
    let raw := if txAbandoned s n k then List.replicate 128 0 else beatCodes s n k
    let clipped := (raw.filter (fun x => limitCode x ≠ x)).length
    let out := if s.replayMuted then List.replicate 128 0 else raw.zipIdx.map (fun x => muteCode (s.flag F.TXC_CFG_MUTE_RAMP n k) was c.mutedBefore x.2 (limitCode x.1))
    let s := if clipped = 0 then s else (s.countBy .TXC_CLIP clipped n k).setFlag F.TXC_STATUS_CLIP true n k
    modTx s n k (fun c => { c.addEnergy (s.now - 1) (endedBeat s) ((out.map (fun x => (x * x).toNat)).sum) with
      quiet := out.all (· = 0) })

/-- Histories that no later sample needs go. -/
def tonePrune (s : State) (n : Fin 16) (u : Fin 32) : State :=
  let keep (k : Nat) : Nat := 128 * (s.now - 2) - k
  let cut {α : Type} (key : α → Nat) (bound : Nat) (l : List α) : List α :=
    let new := l.filter (fun x => decide (bound < key x))
    new ++ (l.filter (fun x => decide (key x ≤ bound))).take 1
  modTone s n u (fun t => { t with phase := cut PhaseSeg.sample (keep 0) t.phase, poff := cut Prod.fst (keep 0) t.poff,
                                   pieces := cut EnvPiece.start (keep 128 / 32) t.pieces })

/-- The beat step of every channel that can sound, after the events of the boundary and the segments that start at it (R252). -/
def txBeat (old : List (List Bool)) (s : State) : State :=
  if s.now = 0 then s
  else eachSlice s (fun s n =>
    let s := eachTone s (fun s u => if (tone s n u).ends.isNone then s else toneToBoundary s n u)
    let s := (List.finRange 4).foldl (fun s k => txBeatOne ((old.getD n.val []).getD k.val false) s n k) s
    eachTone s (fun s u => if (tone s n u).pieces.length ≤ 1 ∧ (tone s n u).phase.length ≤ 1 ∧ (tone s n u).poff.length ≤ 1 then s
      else tonePrune s n u))

/-- The drain of a live reload: every tone ramps down into DRAINED, list levels and forcing go (R275). -/
def toneDrain (s : State) (n : Fin 16) : State :=
  let s := eachTone s (fun s u => toneLeave (toneBefore s n u) n u (4 * s.now) 6)
  (List.finRange 4).foldl (fun s k => [0, 1].foldl (fun s m => (s.setFlag (markListField m) false n k).setFlag (markForcedField m) false n k) s) s

/-- The isolation of a live reload: offsets, bindings, status and counters return to their reset values, PWR and the GOV cause
stay (R90, R275). -/
def toneReset (s : State) (n : Fin 16) : State :=
  let s := eachTone s (fun s u =>
    let s := modTone s n u (fun t => { t with phase := putSeg { sample := 128 * s.now, track := some 0, acc := 0, ftw := 0 } t.phase,
                                              lastTrack := 0, poff := (128 * s.now, 0) :: t.poff })
    let st := toneState s n u
    ((((s.wr .TON_STATUS 0 n u).wr .TON_INDEX 0 n u).wr .TON_UNDERRUNS 0 n u).wr .TON_ERRORS 0 n u).setFld F.TON_STATUS_STATE st n u)
  (List.finRange 4).foldl (fun s k =>
    let pwr := txPwr s n k
    let gov := s.flag F.TXC_STATUS_MUTE_GOV n k
    let s := (((s.wr .TXC_STATUS 0 n k).wr .TXC_CLIP 0 n k).wr .TXC_MUTE_CNT 0 n k).wr .TXC_MK_STATUS 0 n k
    ((s.setFld F.TXC_STATUS_PWR pwr n k).setFlag F.TXC_STATUS_MUTE_GOV gov n k).setFlag F.TXC_STATUS_MUTED gov n k) s

/-- The safe state or an L2 isolation: each output stage off and muted, each tone ramps down to IDLE (R273, R275). -/
def txContain (s : State) (n : Fin 16) : State :=
  let s := eachTone s (fun s u => if toneState s n u = 6 then s else toneZero (toneBefore s n u) n u (4 * s.now))
  (List.finRange 4).foldl (fun s k => txCause (txOff s n k) n k F.TXC_STATUS_MUTE_FLT true) s

/-- At EPOCH every accumulator of a slice reads zero (R242, R443). -/
def synthEpoch (s : State) (n : Fin 16) : State :=
  let s := (List.finRange 4).foldl (fun s k => (List.finRange 32).foldl (fun s r => setTrack s n k r 0 true) s) s
  eachTone s (fun s u =>
    let g := toneSeg s n u (128 * s.now)
    modTone s n u (fun t => { t with phase := putSeg { g with sample := 128 * s.now, acc := 0 } t.phase }))

/-! ### The commands -/

def execToneSegment (n : Fin 16) (u : Fin 32) (seg : Fin 98304) (s : State) : Result := .next (s.coreEvent n (fun s => toneSegment s n u seg.val))
def execToneZero (n : Fin 16) (u : Fin 32) (s : State) : Result := .next (s.coreEvent n (fun s => toneZeroEvent s n u))
/-- RAMPDOWN_END: the ramp of a ZERO has ended (R256, R257). -/
def execRampdownEnd (n : Fin 16) (u : Fin 32) (s : State) : Result :=
  .next (if toneState s n u = 3 then toneNatural s n u (4 * s.now + 3) else s)
def execToneTrack (n : Fin 16) (u r : Fin 32) (s : State) : Result := .next (s.coreEvent n (fun s => toneTrack s n u r.val))
def execTonePhase (n : Fin 16) (u : Fin 32) (set : Bool) (v : BitVec 24) (s : State) : Result := .next (s.coreEvent n (fun s => tonePhase s n u set v.toNat))
/-- SEGMENT_BOUNDARY: the segment in progress reaches its length within the present beat (R253). -/
def execSegmentBoundary (n : Fin 16) (u : Fin 32) (s : State) : Result :=
  .next (if toneState s n u = 1 then toneNatural s n u (4 * s.now + 3) else s)
def execMarkerListAction (n : Fin 16) (u : Fin 32) (s : State) : Result := .next (markAct s n u (128 * (s.now + 1)))
def execMarkerLow (n : Fin 16) (k : Fin 4) (m : Fin 2) (s : State) : Result := .next (s.coreEvent n (fun s => markForce s n k m (some false)))
def execMarkerHigh (n : Fin 16) (k : Fin 4) (m : Fin 2) (s : State) : Result := .next (s.coreEvent n (fun s => markForce s n k m (some true)))
def execMarkerList (n : Fin 16) (k : Fin 4) (m : Fin 2) (s : State) : Result := .next (s.coreEvent n (fun s => markForce s n k m none))
def execToneFlush (n : Fin 16) (u : Fin 32) (s : State) : Result := .next (s.coreDo n (fun s => toneFlush s n u))
def execTxEnable (n : Fin 16) (k : Fin 4) (s : State) : Result := .next (s.analogDo n (fun s => txEnable s n k))
/-- TX_WAKE_DONE: 5,000 beats after the grant the channel is ON (R272). -/
def execTxWakeDone (n : Fin 16) (k : Fin 4) (s : State) : Result :=
  .next (if txPwr s n k = 2 ∧ (txCh s n k).wakeAt ≤ s.now then s.setFld F.TXC_STATUS_PWR 3 n k else s)
/-- TX_DISABLE (R272, R591, R592): a request that still waits is discarded. -/
def txDisable (n : Fin 16) (k : Fin 4) (s : State) : State :=
  ((txOff s n k).disRecord n 1 k 0 (bit01 (txPwr s n k == 1)))

def execTxDisable (n : Fin 16) (k : Fin 4) (s : State) : Result := .next (txDisable n k s)
def execTxMute (n : Fin 16) (k : Fin 4) (s : State) : Result := .next (s.analogEvent n (fun s => txCause s n k F.TXC_STATUS_MUTE_CMD true))
def execTxUnmute (n : Fin 16) (k : Fin 4) (s : State) : Result := .next (s.analogEvent n (fun s => txCause s n k F.TXC_STATUS_MUTE_CMD false))
def execTrackRetune (n : Fin 16) (k : Fin 4) (r : Fin 32) (ftw : BitVec 48) (s : State) : Result := .next (s.coreDo n (fun s => trackRetune s n k r ftw.toNat))
def execTrackRebase (n : Fin 16) (k : Fin 4) (tracks : BitVec 32) (s : State) : Result := .next (s.coreDo n (fun s => trackRebase s n k tracks.toNat))
/-- TRACK_ACC_READ: the selected track's value at the next boundary, its high bits captured (R279). -/
def trackAccRead (n : Fin 16) (k : Fin 4) (s : State) : State :=
  let v := trackAcc s n k (s.fld F.TXC_TRK_SEL_TRACK n k) (128 * (s.now + 1))
  let s := s.setPair .TXC_TRK_ACC_LO .TXC_TRK_ACC_HI v n k
  { s with readValue := s.rd .TXC_TRK_ACC_LO n k }

def execTrackAccRead (n : Fin 16) (k : Fin 4) (s : State) : Result := .next (trackAccRead n k s)

end Sys2Proof.Machine
end

