-- ==== Sys2Proof/Machine/Receive.lean ====
section
/-!
DEFINITION. RF receive: the RX channels, bins and discriminators, and the acquisition engine (RF Receive, Demodulation,
Discrimination and Capture, R280 to R317).
-/

namespace Sys2Proof.Machine

/-- RX channel `j` of a slice. -/
def rxCh (s : State) (n : Fin 16) (j : Fin 2) : RxChannel := (s.sl n).rx.get j

def modRx (s : State) (n : Fin 16) (j : Fin 2) (f : RxChannel → RxChannel) : State :=
  s.modSl n (fun x => { x with rx := x.rx.set j.val (f (x.rx.get j)) j.isLt })

/-- Bin `u` of a slice. -/
def bin (s : State) (n : Fin 16) (u : Fin 32) : Bin := (s.sl n).bin.get u

def modBin (s : State) (n : Fin 16) (u : Fin 32) (f : Bin → Bin) : State :=
  s.modSl n (fun x => { x with bin := x.bin.set u.val (f (x.bin.get u)) u.isLt })

/-- Capture stream `st` of a slice. -/
def acq (s : State) (n : Fin 16) (st : Fin 4) : AcqStream := (s.sl n).acq.get st

def modAcq (s : State) (n : Fin 16) (st : Fin 4) (f : AcqStream → AcqStream) : State :=
  s.modSl n (fun x => { x with acq := x.acq.set st.val (f (x.acq.get st)) st.isLt })

/-! ### Channel power and range (R282 to R284) -/

/-- RXC_STATUS.PWR: 0 OFF, 1 PENDING, 2 WAKING, 3 ON. -/
def rxPwr (s : State) (n : Fin 16) (j : Fin 2) : Nat := s.fld F.RXC_STATUS_PWR n j

/-- RXC_CTRL.ENABLE (R284): ignored unless PWR is OFF. -/
def rxEnable (s : State) (n : Fin 16) (j : Fin 2) : State :=
  if rxPwr s n j = 0 then (s.setFld F.RXC_STATUS_PWR 1 n j).askAdmission 2 (2 * n.val + j.val) else s

/-- Power admission grants the channel (R284). -/
def rxGranted (s : State) (n : Fin 16) (j : Fin 2) : State :=
  if rxPwr s n j = 1 then (modRx s n j (fun c => { c with wakeAt := s.now + 5000 })).setFld F.RXC_STATUS_PWR 2 n j else s

/-- Power admission refuses the channel (R596). -/
def rxRefused (s : State) (n : Fin 16) (j : Fin 2) : State := s.setFld F.RXC_STATUS_PWR 0 n j

/-- The converter goes off; the request or the cost goes (R284, R597). -/
def rxOff (s : State) (n : Fin 16) (j : Fin 2) : State :=
  (s.setFld F.RXC_STATUS_PWR 0 n j).releaseAdmission 2 (2 * n.val + j.val)

/-- RXC_CFG.RANGE has been written: 250 beats of settling samples (R282). -/
def rxRange (s : State) (n : Fin 16) (j : Fin 2) : State :=
  (modRx s n j (fun c => { c with settleAt := s.now + 250 })).setFlag F.RXC_STATUS_SETTLING true n j

/-- The channel of bin `u` (R3). -/
def binRx (u : Fin 32) : Fin 2 := ⟨u.val / 16, by omega⟩

/-- The slice's TX channels whose GOV or FLT mute cause is set (R338). -/
def guardTx (s : State) (n : Fin 16) : BitVec 4 :=
  BitVec.ofNat 4 ((List.range 4).foldl (fun a k =>
    putBit a k (s.flag F.TXC_STATUS_MUTE_GOV n k || s.flag F.TXC_STATUS_MUTE_FLT n k)) 0)

/-! ### Windows (R285 to R292) -/

/-- Weight set `set` of a bin keeps R287. -/
def wsetOk (s : State) (n : Fin 16) (u : Fin 32) (set : Nat) : Bool :=
  let base := s.fld F.DMX_WSET_BASE n u set
  let len := s.fld F.DMX_WSET_LEN n u set
  decide (4 ≤ len) && decide (len ≤ 2048) && decide (base + len ≤ 2048)

/-- DMX_CFG.SHIFT as it acts (R315). -/
def binShift (s : State) (n : Fin 16) (u : Fin 32) : Nat := min (s.fld F.DMX_CFG_SHIFT n u) 40

/-- The window that a trigger at tick `start` of beat `beat` opens with the registers as they stand (R288). -/
def windowNow (s : State) (n : Fin 16) (u : Fin 32) (set start beat : Nat) : BinWindow :=
  let len := s.fld F.DMX_WSET_LEN n u set
  let delay := s.fld F.DMX_CFG_DELAY n u
  let beats := ceilDiv (delay + 16 * len) 64
  { start := start, beat := beat, m0 := 64 * beat + delay, ends := start + beats, endBeat := beat + beats, wsel := set,
    base := s.fld F.DMX_WSET_BASE n u set, len := len, ftw := s.pair .DMX_FTW_LO .DMX_FTW_HI n u,
    poff := (s.rd .DMX_POFF n u).toNat, shift := binShift s n u, invalid := false, dead := [], muted := 0,
    epoch := none }

/-- The window that integrates in the present beat. -/
def binOpen (s : State) (n : Fin 16) (u : Fin 32) : Option BinWindow := (bin s n u).windows.find? (fun w => decide (s.now < w.ends))

/-- The number of the window's sample `k` (R285): an EPOCH renumbers the samples from its beat on (R442). -/
def BinWindow.sampleNo (w : BinWindow) (k : Nat) : Nat :=
  match w.epoch with
  | some e => if 64 * e ≤ w.m0 + k then w.m0 + k - 64 * e else w.m0 + k
  | none => w.m0 + k

/-- A held or new weight word is stored (R293). -/
def wramStore (s : State) (n : Fin 16) (u : Fin 32) (i : Nat) (v : Word) : State := s.wr .DMX_WRAM v n u i

/-- The held weight writes of a bin are applied (R293). -/
def wramRelease (s : State) (n : Fin 16) (u : Fin 32) : State :=
  let held := (bin s n u).held
  held.foldl (fun s x => wramStore s n u x.1 x.2) (modBin s n u (fun b => { b with held := [] }))

/-- A weight write: held while the bin integrates (R293). -/
def wramWrite (s : State) (n : Fin 16) (u : Fin 32) (i : Nat) (v : Word) : State :=
  if (bin s n u).windows.isEmpty then wramStore s n u i v
  else modBin s n u (fun b => { b with held := b.held ++ [(i, v)] })

/-- The open window ends at this boundary without a result. -/
def binDropWindow (s : State) (n : Fin 16) (u : Fin 32) : State :=
  let s := modBin s n u (fun b => { b with windows := b.windows.filter (fun w => decide (w.ends ≤ s.now)) })
  let s := s.setFld F.DMX_STATUS_STATE 0 n u
  if (bin s n u).windows.isEmpty then wramRelease s n u else s

/-! ### Acquisition: descriptors and streams (R299 to R304) -/

/-- ACQ_STRM.STATE: 0 FREE, 1 PREFILL, 2 WAITING, 3 CAPTURING, 4 FLUSHING (R317). -/
def acqState (s : State) (n : Fin 16) (st : Nat) : Nat := s.fld F.ACQ_STRM_STATE n st

def setAcqState (s : State) (n : Fin 16) (st v : Nat) : State := s.setFld F.ACQ_STRM_STATE v n st

/-- Bits per item (R301). -/
def itemBits (kind : Nat) : Nat := if kind = 0 then 12 else if kind = 1 then 128 else 32

/-- The segment size in lines (R302). -/
def segmentLines (kind pre post : Nat) : Nat := 1 + ceilDiv ((pre + post) * itemBits kind) 1024

/-- ACQ_DSEG as it acts (R317). -/
def descSegments (s : State) (n : Fin 16) (d : Nat) : Nat := min (s.fld F.ACQ_DSEG_SEGMENTS n d) 65536

/-- The descriptor is on a stream. -/
def descActive (s : State) (n : Fin 16) (d : Nat) : Bool :=
  (List.range 4).any (fun st => acqState s n st ≠ 0 ∧ s.fld F.ACQ_STRM_DESC n st = d)

/-- The flag that refuses an ARM of descriptor `d` (R300); none where it is accepted. -/
def armRefusal (s : State) (n : Fin 16) (d : Nat) : Option Field :=
  let kind := s.fld F.ACQ_DCFG_KIND n d
  let pre := s.fld F.ACQ_DPRE_ITEMS n d
  let post := s.fld F.ACQ_DPOST_ITEMS n d
  let lines := s.fld F.ACQ_DLINES_LINES n d
  let segs := descSegments s n d
  if descActive s n d then some F.ACQ_STATUS_ACTIVE_ERR
  else if kind = 3 ∨ s.fld F.ACQ_DCFG_TRIG n d = 3 ∨ post = 0 ∨ segs = 0 ∨ (kind ≠ 0 ∧ s.rd .ACQ_DMASK n d = 0) ∨ lines = 0 ∨
      24576 < s.fld F.ACQ_DBASE_LINE n d + lines then some F.ACQ_STATUS_CFG_ERR
  else if lines < segs * segmentLines kind pre post then some F.ACQ_STATUS_SIZE_ERR
  else if !s.storeOn (.slice n) then some F.ACQ_STATUS_STORE_ERR
  else if (List.range 4).all (fun st => acqState s n st ≠ 0) then some F.ACQ_STATUS_BUSY_ERR
  else none

/-- A segment triggers at this boundary (R305). -/
def segmentTrigger (s : State) (n : Fin 16) (st : Fin 4) : State :=
  let a := acq s n st
  let first := if a.kind = 0 then ceilDiv (64 * s.beat) a.dec else a.nextItem
  setAcqState (modAcq s n st (fun a => { a with trigBeat := some s.beat, firstPost := first, firstItem := first, postCount := 0 })) n st 3

/-- The segment enters WAITING; AUTO triggers it (R304, R305). -/
def segmentWaiting (s : State) (n : Fin 16) (st : Fin 4) : State :=
  let s := setAcqState s n st 2
  if (acq s n st).trig = 1 then segmentTrigger s n st else s

/-- PRE items have been written before this boundary (R304). -/
def prefillDone (s : State) (n : Fin 16) (st : Fin 4) : State :=
  let a := acq s n st
  if acqState s n st = 1 ∧ a.from_ ≤ s.now ∧ (a.pre = 0 ∨ (a.pre ≤ a.preCount ∧ a.preFull < s.now)) then segmentWaiting s n st else s

/-- A segment enters PREFILL, and takes items from tick `from_`, at whose boundary beat `beat` begins (R299, R306). -/
def segmentBegin (s : State) (n : Fin 16) (st : Fin 4) (from_ beat : Nat) : State :=
  let s := modAcq s n st (fun a => { a with
    from_ := from_, nextItem := if a.kind = 0 then ceilDiv (64 * beat) a.dec else a.nextItem, preCount := 0, postCount := 0,
    preFull := from_, trigBeat := none, firstPost := 0, firstItem := 0, incoming := [], items := [], openLine := none })
  setAcqState s n st 1

/-- ARM of descriptor `d` (R299, R300). -/
def acqArm (s : State) (n : Fin 16) (d : Nat) : State :=
  match armRefusal s n d with
  | some f => (s.setFlag f true n).setFld F.ACQ_STATUS_ERR_DESC d n
  | none =>
    match (List.finRange 4).find? (fun st => acqState s n st.val = 0) with
    | none => s
    | some st =>
      let s := modAcq s n st (fun _ => { AcqStream.initial with
        kind := s.fld F.ACQ_DCFG_KIND n d, src := s.fld F.ACQ_DCFG_SRC n d, trig := s.fld F.ACQ_DCFG_TRIG n d,
        tbin := s.fld F.ACQ_DCFG_TBIN n d, dec := s.fld F.ACQ_DCFG_DEC n d + 1, base := s.fld F.ACQ_DBASE_LINE n d,
        pre := s.fld F.ACQ_DPRE_ITEMS n d, post := s.fld F.ACQ_DPOST_ITEMS n d, segments := descSegments s n d,
        mask := s.rd .ACQ_DMASK n d })
      let s := (s.setFld F.ACQ_STRM_DESC d n st).setFld F.ACQ_STRM_SEG 0 n st
      let s := s.setFld F.ACQ_STATUS_ACTIVE (putBit (s.fld F.ACQ_STATUS_ACTIVE n) st.val true) n
      prefillDone (segmentBegin s n st s.now s.beat) n st

/-! ### Acquisition: items and lines (R301 to R308) -/

/-- The contents of data line `i` of a segment (R302). -/
def lineOf (a : AcqStream) (i : Nat) : List Byte :=
  let b := itemBits a.kind
  let lo := 1024 * i / b
  let hi := (1024 * (i + 1) - 1) / b
  let v := ((List.range (hi - lo + 1)).map (fun k =>
    let q := lo + k
    if q < a.pre + a.post then a.items.at q * 2 ^ (b * q - b * lo) else 0)).sum
  toBytes 128 (bitsAt v (1024 * i - b * lo) 1024)

/-- The line in progress is completed and waits for an AQ slot (R307). -/
def closeLine (s : State) (n : Fin 16) (st : Fin 4) : State :=
  let a := acq s n st
  match a.openLine with
  | none => s
  | some i =>
    let line := a.base + s.fld F.ACQ_STRM_SEG n st * segmentLines a.kind a.pre a.post + 1 + i
    modAcq s n st (fun a => { a with openLine := none, full := a.full ++ [(line, lineOf a i, false)] })

/-- The header of the segment in progress (R303). Where no trigger acted, FIRST names no item: the spec gives it no value. -/
def headerOf (s : State) (n : Fin 16) (st : Fin 4) (status lostAt : Nat) : List Byte :=
  let a := acq s n st
  toBytes 8 (a.trigBeat.getD (2 ^ 64 - 1)) ++ toBytes 6 ((if a.trigBeat.isSome then a.firstItem else Config.openValue 43 s.now) % 2 ^ 48) ++ toBytes 2 (s.fld F.ACQ_STRM_DESC n st) ++
    toBytes 4 (s.fld F.ACQ_STRM_SEG n st) ++ toBytes 4 (if a.preCount < a.pre ∨ a.pre = 0 then 0 else a.preCount % a.pre) ++
    toBytes 4 (min a.preCount a.pre + a.postCount) ++ toBytes 4 status ++ toBytes 6 (lostAt % 2 ^ 48) ++ toBytes 90 0

/-- The segment in progress ends with a status; its open line and its header wait to be written (R303, R306 to R309). -/
def segmentEnd (s : State) (n : Fin 16) (st : Fin 4) (status lostAt : Nat) : State :=
  let s := closeLine s n st
  let h := headerOf s n st status lostAt
  let a := acq s n st
  let line := a.base + s.fld F.ACQ_STRM_SEG n st * segmentLines a.kind a.pre a.post
  modAcq s n st (fun a => { a with status := status, incoming := [], full := a.full ++ [(line, h, true)] })

/-- The record ends: its stream flushes (R306, R308, R309). -/
def recordEnd (s : State) (n : Fin 16) (st : Fin 4) (status lostAt : Nat) : State := setAcqState (segmentEnd s n st status lostAt) n st 4

/-- An item finds the stream's 16 lines full (R308). -/
def acqOverflow (s : State) (n : Fin 16) (st : Fin 4) (item : Nat) : State :=
  let s := recordEnd s n st 2 item
  ((s.count .ACQ_OVF n).setFlag F.ACQ_STATUS_OVF true n).conflict n 3

/-- Write an item at a position; a line is completed when the next item lies beyond it (R302, R307). The answer says whether
there was room. -/
def putItem (s : State) (n : Fin 16) (st : Fin 4) (pos value : Nat) : State × Bool :=
  let b := itemBits (acq s n st).kind
  let lo := pos * b / 1024
  let hi := (pos * b + b - 1) / 1024
  let s1 := if (acq s n st).openLine = some lo then s else closeLine s n st
  let room (k : Nat) (s : State) : Bool := decide ((acq s n st).full.length + k ≤ 16)
  if !(room 1 s1 && (lo == hi || room 2 s1)) then (s1, false)
  else
    let s2 := modAcq s1 n st (fun a => { a with items := a.items.to pos value, openLine := some lo })
    if lo = hi then (s2, true)
    else (modAcq (closeLine s2 n st) n st (fun a => { a with openLine := some hi }), true)

/-- Item number `k` of a stream arrives (R301 to R305). -/
def acqPut (s : State) (n : Fin 16) (st : Fin 4) (k value : Nat) : State :=
  let a := acq s n st
  let stt := acqState s n st
  let preItem (s : State) : State :=
    if a.pre = 0 then s
    else
      let (s, ok) := putItem s n st (a.preCount % a.pre) value
      if !ok then acqOverflow s n st k
      else modAcq s n st (fun a => { a with preCount := a.preCount + 1,
                                            preFull := if a.preCount + 1 = a.pre then s.now else a.preFull })
  if stt = 1 ∨ stt = 2 then preItem s
  else if stt = 3 then
    if k < a.firstPost then preItem s
    else if a.postCount < a.post then
      let (s, ok) := putItem s n st (a.pre + a.postCount) value
      if !ok then acqOverflow s n st k else modAcq s n st (fun a => { a with postCount := a.postCount + 1 })
    else s
  else s

/-- The next entry of an IQ or verdict stream is written. -/
def acqTakeEntry (s : State) (n : Fin 16) (st : Fin 4) : State :=
  match (acq s n st).incoming with
  | [] => s
  | (k, v) :: t => acqPut (modAcq s n st (fun a => { a with incoming := t })) n st k v

/-- Entries that have arrived are written before the stream acts on a trigger or a stop. -/
def acqSettle (s : State) (n : Fin 16) (st : Fin 4) : State :=
  prefillDone ((List.range (acq s n st).incoming.length).foldl (fun s _ => acqTakeEntry s n st) s) n st

/-- An entry of a kind and unit reaches every stream that records it (R301). -/
def acqEntry (s : State) (n : Fin 16) (kind u value : Nat) : State :=
  (List.finRange 4).foldl (fun s (st : Fin 4) =>
    let a := acq s n st
    let stt := acqState s n st
    if a.kind = kind ∧ a.mask.getLsbD u ∧ (stt = 1 ∨ stt = 2 ∨ stt = 3) ∧ a.from_ ≤ s.now then
      modAcq s n st (fun a => { a with nextItem := a.nextItem + 1, incoming := a.incoming ++ [(a.nextItem, value)] })
    else s) s

/-- The mean of converter samples, rounded to the nearest code, ties away from zero (R301). -/
def sampleMean (l : List (BitVec 12)) (d : Nat) : Int := roundDiv ((l.map (fun x => x.toInt)).sum) d

/-- The next item of a stream arrives (R301). -/
def acqItem (s : State) (n : Fin 16) (st : Fin 4) (samples : List (BitVec 12)) : State :=
  let a := acq s n st
  let stt := acqState s n st
  if ¬(stt = 1 ∨ stt = 2 ∨ stt = 3) then s
  else if a.kind ≠ 0 then acqTakeEntry s n st
  else if a.from_ ≤ s.now ∧ (a.nextItem + 1) * a.dec ≤ 64 * (s.beat + 1) then
    let live := s.fld F.RXC_STATUS_PWR n a.src == 3
    let v := if live then pat 12 (sampleMean (samples.take a.dec) a.dec) else 0
    acqPut (modAcq s n st (fun a => { a with nextItem := a.nextItem + 1 })) n st a.nextItem v
  else s

/-- A trigger acts on a stream (R304, R305). -/
def streamTrigger (s : State) (n : Fin 16) (st : Fin 4) : State :=
  let s := acqSettle s n st
  match acqState s n st with
  | 1 => (s.count .ACQ_TRIG_EARLY n).setFlag F.ACQ_STATUS_TRIG_EARLY true n
  | 2 => segmentTrigger s n st
  | _ => s

/-- An acquisition TRIGGER (R305). -/
def acqTrigger (s : State) (n : Fin 16) : State :=
  (List.finRange 4).foldl (fun s (st : Fin 4) => if acqState s n st ≠ 0 ∧ (acq s n st).trig = 0 then streamTrigger s n st else s) s

/-- Bin `u` opens a window: the streams it triggers (R305). -/
def acqBinTrigger (s : State) (n : Fin 16) (u : Nat) : State :=
  (List.finRange 4).foldl (fun s (st : Fin 4) =>
    if acqState s n st ≠ 0 ∧ (acq s n st).trig = 2 ∧ (acq s n st).tbin = u then streamTrigger s n st else s) s

/-- Every stream's segment in progress ends with a status (R309, R310). -/
def acqStopAll (s : State) (n : Fin 16) (status : Nat) : State :=
  (List.finRange 4).foldl (fun s (st : Fin 4) =>
    let stt := acqState s n st
    if stt = 1 ∨ stt = 2 ∨ stt = 3 then recordEnd (acqSettle s n st) n st status 0 else s) s

/-- The last post-trigger item has been written (R306). -/
def acqSegmentEnd (s : State) (n : Fin 16) (st : Fin 4) : State :=
  let a := acq s n st
  if acqState s n st = 3 ∧ a.post ≤ a.postCount then
    let seg := s.fld F.ACQ_STRM_SEG n st
    if seg + 1 < a.segments then
      let s := (segmentEnd s n st 0 0).setFld F.ACQ_STRM_SEG (seg + 1) n st
      segmentBegin s n st (s.now + 1) (s.beat + 1)
    else recordEnd s n st 0 0
  else s

/-- An event for the acquisition engine: a DRAINED engine discards it, counted (R120, R310). -/
def acqEvent (s : State) (n : Fin 16) (f : State → State) : State :=
  s.coreEvent n (fun s => if s.flag F.ACQ_STATUS_DRAINED n then s.eventDropped n else f s)

/-- Every line of a record is written: the stream is free (R306, R519). -/
def acqFree (s : State) (n : Fin 16) (st : Fin 4) : State :=
  if acqState s n st = 4 ∧ (acq s n st).full.isEmpty then
    let s := setAcqState s n st 0
    let s := s.setFld F.ACQ_STATUS_ACTIVE (putBit (s.fld F.ACQ_STATUS_ACTIVE n) st.val false) n
    s.event EvCode.ACQ_END n.val st.val (s.fld F.ACQ_STRM_DESC n st + (acq s n st).status * 2 ^ 8)
  else s

/-- How many completed lines of a stream wait: a header counts once the data lines before it are written (R307). -/
def completedLines (a : AcqStream) : Nat :=
  match a.full with
  | (_, _, true) :: t => 1 + (t.takeWhile (fun x => !x.2.2)).length
  | l => (l.takeWhile (fun x => !x.2.2)).length

/-- The line that the engine writes in an AQ slot: the stream with the most completed lines, the lowest on a tie (R307). -/
def acqWant (s : State) (n : Fin 16) : Option (Fin 4 × Nat × List Byte) :=
  let best := (List.finRange 4).foldl (fun (b : Option (Fin 4)) (st : Fin 4) =>
    if (acq s n st).full.isEmpty then b
    else match b with
      | none => some st
      | some c => if completedLines (acq s n c) < completedLines (acq s n st) then some st else b) none
  match best with
  | none => none
  | some st =>
    match (acq s n st).full with
    | (l, d, _) :: _ => some (st, l, d)
    | [] => none

/-- The line has been written. -/
def acqWritten (s : State) (n : Fin 16) (st : Fin 4) : State := modAcq s n st (fun a => { a with full := a.full.drop 1 })

/-! ### Bins: triggers, results and verdicts (R288 to R298) -/

/-- Open a window with a weight set (R288). -/
def binOpenWindow (s : State) (n : Fin 16) (u : Fin 32) (set : Nat) : State :=
  if !wsetOk s n u set then s.setFlag F.DMX_STATUS_WSET_ERR true n u
  else
    let s := modBin s n u (fun b => { b with windows := b.windows ++ [windowNow s n u set s.now s.beat] })
    acqBinTrigger ((s.setFld F.DMX_STATUS_STATE 1 n u).setFld F.DMX_STATUS_WSEL set n u) n u.val

/-- A TRIGGER (R288, R291). A DRAINED bin discards it, counted (R120). -/
def binTrigger (s : State) (n : Fin 16) (u : Fin 32) (set : Nat) : State :=
  if s.fld F.DMX_STATUS_STATE n u = 2 then s.eventDropped n
  else match binOpen s n u with
    | none => binOpenWindow s n u set
    | some _ =>
      if s.flag F.DMX_CFG_RESTART n u then
        binOpenWindow (((binDropWindow s n u).count .DMX_RESTARTS n u).setFlag F.DMX_STATUS_RESTARTED true n u) n u set
      else (s.count .DMX_OVERRUN n u).setFlag F.DMX_STATUS_OVERRUN true n u

/-- A CANCEL (R292). -/
def binCancel (s : State) (n : Fin 16) (u : Fin 32) : State :=
  if s.fld F.DMX_STATUS_STATE n u = 2 then s.eventDropped n
  else match binOpen s n u with
  | none => s
  | some _ => (binDropWindow s n u).count .DMX_CANCELS n u

/-- The oscillator's cosine and sine at a sample (R285). -/
def binOscillator (w : BinWindow) (m : Nat) : Int × Int :=
  let ph := ((m * w.ftw) % 2 ^ 48 + w.poff * 2 ^ 16) % 2 ^ 48 / 2 ^ 28
  (sineAt 32767 ((ph + 2 ^ 18) % 2 ^ 20), sineAt 32767 ph)

/-- The sums of R289 over the samples of a window, from sample `k` on. -/
def binSums (s : State) (n : Fin 16) (u : Fin 32) (w : BinWindow) : Nat → List (BitVec 12) → Int × Int
  | _, [] => (0, 0)
  | k, x :: t =>
    let (i, q) := binSums s n u w (k + 1) t
    let v : Int := x.toInt
    if v = 0 then (i, q)
    else
      let (c, sn) := binOscillator w (w.sampleNo k)
      let wi := sext 16 (s.fld F.DMX_WRAM_WI n u (w.base + k / 16))
      let wq := sext 16 (s.fld F.DMX_WRAM_WQ n u (w.base + k / 16))
      (i + v * (c * wi + sn * wq), q + v * (c * wq - sn * wi))

/-- The samples of a window as the bin sees them: those of beats in which the channel was not ON read zero (R284). -/
def windowSamples (w : BinWindow) (l : List (BitVec 12)) : List (BitVec 12) :=
  ((l.take (16 * w.len)).zipIdx).map (fun x => if (w.start + (w.m0 + x.2 - 64 * w.beat) / 64) ∈ w.dead then 0 else x.1)

/-- The lines of the discriminators that bin `u` feeds (R295, R296). -/
def discLines (s : State) (n : Fin 16) (u : Fin 32) : List (Nat × List (Int × Int × Int)) :=
  ((List.range 32).filter (fun d => s.fld F.DMX_ROUTE_SRC n d == u.val)).map (fun d =>
    (d, (List.range 2).map (fun l => (sext 16 (s.fld F.DMX_LINE_AB_A n d l), sext 16 (s.fld F.DMX_LINE_AB_B n d l),
      sext 64 (s.pair .DMX_LINE_C_LO .DMX_LINE_C_HI n d l)))))

/-- An overrange code (R283). -/
def overrange (x : BitVec 12) : Bool := x == 0x800#12 || x == 0x7FF#12

/-- The oldest window of a bin reaches its end beat (R288 to R290); weight writes held by it are applied, before a window that opens there
integrates (R293). -/
def binWindowEnd (s : State) (n : Fin 16) (u : Fin 32) (samples : List (BitVec 12)) : State :=
  match (bin s n u).windows with
  | [] => s
  | w :: rest =>
    if s.now < w.ends then s
    else
      let xs := windowSamples w samples
      let (ia, qa) := binSums s n u w 0 xs
      let i := roundShift ia w.shift
      let q := roundShift qa w.shift
      let r : BinResult := { ends := w.ends, endBeat := w.endBeat, i := satInt 32 i, q := satInt 32 q, ovr := xs.any overrange,
                             sat := satInt 32 i ≠ i ∨ satInt 32 q ≠ q, invalid := w.invalid, wsel := w.wsel,
                             muted := w.muted ||| guardTx s n, lines := discLines s n u, codes := none }
      let s := modBin s n u (fun b => { b with windows := rest, results := b.results ++ [r] })
      if rest.isEmpty then wramRelease (s.setFld F.DMX_STATUS_STATE 0 n u) n u
      else if rest.all (fun x => decide (s.now ≤ x.start)) then wramRelease s n u
      else s

/-- The verdict code of a discriminator for a result (R296, R297). -/
def discCode (s : State) (n : Fin 16) (r : BinResult) (d : Nat) (lines : List (Int × Int × Int)) : Nat :=
  let d_ (l : Nat) : Nat := match lines[l]? with
    | some (a, b, c) => bit01 (decide (c ≤ a * r.i + b * r.q))
    | none => 0
  if r.invalid then 3
  else if r.ovr ∧ s.flag F.DMX_CFG_OVR_CODE n d then 3
  else if !s.flag F.DMX_CFG_LEVELS n d then d_ 0
  else if d_ 1 = 1 then 2 else d_ 0

/-- The codes of every enabled discriminator for a result. -/
def resultCodes (s : State) (n : Fin 16) (r : BinResult) : List (Nat × Nat) :=
  (r.lines.filter (fun x => s.flag F.DMX_ROUTE_VEN n x.1)).map (fun x => (x.1, discCode s n r x.1 x.2))

/-- Evaluate the first result of a bin that is not evaluated and whose beat B + 11 has come (R298). -/
def discriminate (s : State) (n : Fin 16) (u : Fin 32) : State :=
  match (bin s n u).results.findIdx? (fun r => r.codes.isNone ∧ r.ends + 11 ≤ s.now) with
  | none => s
  | some k => modBin s n u (fun b => { b with results := listMod b.results k (fun r => { r with codes := some (resultCodes s n r) }) })

/-- Whether verdict `v` of slice `n` is to read 3 for its readout channel (R338). -/
def verdictMuted (s : State) (v : Nat) (muted : BitVec 4) : Bool :=
  let g := s.fld F.VRD_ROUTE_GUARD_TX v
  decide (1 ≤ g) && decide (g ≤ 4) && muted.getLsbD (g - 1)

/-- The IQ entry of a result (R301). -/
def iqEntry (u : Nat) (r : BinResult) : Nat :=
  pat 32 r.i + pat 32 r.q * 2 ^ 32 + r.endBeat % 2 ^ 48 * 2 ^ 64 + u * 2 ^ 112 + bit01 r.ovr * 2 ^ 117 + bit01 r.sat * 2 ^ 118 +
    bit01 r.invalid * 2 ^ 119 + r.wsel * 2 ^ 120

/-- The verdict of discriminator `d` with a code leaves for the crossbar and for the records (R298, R301). -/
def verdictOut (s : State) (n : Fin 16) (r : BinResult) (d code : Nat) : State :=
  let v := 32 * n.val + d
  let s := (s.setFld F.DMX_RES_INFO_VCODE code n d).setFlag F.DMX_RES_INFO_VVALID true n d
  let s := readyVerdict s n v code s.now (verdictMuted s v r.muted)
  acqEntry s n 2 d (code + d * 4 + r.endBeat % 2 ^ 24 * 2 ^ 8)

/-- The oldest result of a bin is delivered at B + 12 (R294, R298). -/
def binResult (s : State) (n : Fin 16) (u : Fin 32) : State :=
  match (bin s n u).results with
  | [] => s
  | r0 :: _ =>
    if s.now < r0.ends + 12 then s
    else
      let s := if r0.codes.isNone then discriminate s n u else s
      match (bin s n u).results with
      | [] => s
      | r :: rest =>
        let s := modBin s n u (fun b => { b with results := rest })
        let s := (s.wr .DMX_RES_I (BitVec.ofInt 32 r.i) n u).wr .DMX_RES_Q (BitVec.ofInt 32 r.q) n u
        let s := s.setPair .DMX_RES_END_LO .DMX_RES_END_HI r.endBeat n u
        let s := ((s.setFlag F.DMX_RES_INFO_OVR r.ovr n u).setFlag F.DMX_RES_INFO_SAT r.sat n u).setFlag F.DMX_RES_INFO_INVALID r.invalid n u
        let s := (s.setFld F.DMX_RES_INFO_WSEL r.wsel n u).count .DMX_WINDOWS n u
        let s := if r.ovr then s.setFlag F.DMX_STATUS_OVR true n u else s
        let s := if r.sat then s.setFlag F.DMX_STATUS_SAT true n u else s
        let s := if r.invalid then s.setFlag F.DMX_STATUS_INVALID true n u else s
        let s := acqEntry s n 1 u.val (iqEntry u.val r)
        (r.codes.getD []).foldl (fun s x => verdictOut s n r x.1 x.2) s

/-- What the beat that ends does to a bin: a window opened in it latches its registers as the boundary's writes left them
(R288), and every window notes invalid samples and muted readout channels (R290, R338). -/
def binBeatOne (s : State) (n : Fin 16) (u : Fin 32) : State :=
  let last := s.now - 1
  let b := bin s n u
  if b.windows.isEmpty ∧ b.results.isEmpty then s
  else
    let j := binRx u
    let off := rxPwr s n j ≠ 3
    let bad := off ∨ last < (rxCh s n j).settleAt
    let g := guardTx s n
    let relatch (w : BinWindow) : BinWindow := if w.start = last then windowNow s n u w.wsel w.start w.beat else w
    let note (w : BinWindow) : BinWindow :=
      if w.start ≤ last ∧ last < w.ends then
        { w with invalid := w.invalid ∨ bad, dead := if off then w.dead ++ [last] else w.dead, muted := w.muted ||| g }
      else if last = w.ends then { w with muted := w.muted ||| g }
      else w
    let keep (w : BinWindow) : Bool := !(w.start == last && !wsetOk s n u w.wsel)
    let lost := b.windows.any (fun w => !keep w)
    let s := modBin s n u (fun b => { b with windows := (b.windows.filter keep).map (fun w => note (relatch w))
                                             results := b.results.map (fun r =>
      if last = r.ends then { r with muted := r.muted ||| g, lines := discLines s n u } else r) })
    if lost then
      let s := s.setFlag F.DMX_STATUS_WSET_ERR true n u
      if (bin s n u).windows.isEmpty then wramRelease (s.setFld F.DMX_STATUS_STATE 0 n u) n u else s
    else s

/-- What the beat that ends does to the receive side of the device: overrange beats (R283), and the bins. -/
def rxBeat (s : State) (ovr : BitVec 32) : State :=
  if s.now = 0 then s
  else eachSlice s (fun s n =>
    let s := (List.finRange 2).foldl (fun s j =>
      if ovr.getLsbD (2 * n.val + j.val) ∧ rxPwr s n j = 3 then (s.count .RXC_OVR n j).setFlag F.RXC_STATUS_OVR true n j else s) s
    (List.finRange 32).foldl (fun s u => binBeatOne s n u) s)

/-- The drain of a live reload: windows end without a result, bins and streams are DRAINED (R86, R310). -/
def rxDrain (s : State) (n : Fin 16) : State :=
  let s := (List.finRange 32).foldl (fun s u =>
    (wramRelease (modBin s n u (fun b => { b with windows := [] })) n u).setFld F.DMX_STATUS_STATE 2 n u) s
  (acqStopAll s n 3).setFlag F.ACQ_STATUS_DRAINED true n

/-- The isolation of a live reload: the status registers, results and counters of bins and streams return to their reset
values; the power of the channels stays (R90, R310). -/
def rxReset (s : State) (n : Fin 16) : State :=
  let s := (List.finRange 32).foldl (fun s u =>
    let st := s.fld F.DMX_STATUS_STATE n u
    let s := [Reg.DMX_STATUS, .DMX_RES_I, .DMX_RES_Q, .DMX_RES_END_LO, .DMX_RES_END_HI, .DMX_RES_INFO, .DMX_WINDOWS, .DMX_OVERRUN,
      .DMX_RESTARTS, .DMX_CANCELS].foldl (fun s r => s.wr r 0 n u) s
    s.setFld F.DMX_STATUS_STATE st n u) s
  let s := (List.finRange 2).foldl (fun s j =>
    let p := rxPwr s n j
    ((s.wr .RXC_STATUS 0 n j).wr .RXC_OVR 0 n j).setFld F.RXC_STATUS_PWR p n j) s
  let s := (List.finRange 4).foldl (fun s (st : Fin 4) => (modAcq s n st (fun _ => AcqStream.initial)).wr .ACQ_STRM 0 n st) s
  (((s.wr .ACQ_STATUS 0 n).wr .ACQ_TRIG_EARLY 0 n).wr .ACQ_OVF 0 n).setFlag F.ACQ_STATUS_DRAINED true n

/-- At EPOCH the windows in progress go on with the new sample numbers, and the items of raw records count from zero (R301,
R442). An item that E would have cut is not stored. -/
def rxEpoch (s : State) (n : Fin 16) (e : Nat) : State :=
  let s := (List.finRange 32).foldl (fun s u => modBin s n u (fun b =>
    if b.windows.isEmpty then b
    else { b with windows := b.windows.map (fun w =>
      if e ≤ w.endBeat then { w with endBeat := w.endBeat - e, epoch := if w.beat < e then some e else w.epoch } else w) })) s
  (List.finRange 4).foldl (fun s st => modAcq s n st (fun a =>
    if a.kind = 0 then
      { a with nextItem := if s.now ≤ a.from_ then ceilDiv (64 * (a.from_ - s.now)) a.dec else 0
               firstPost := 0 }
    else a)) s

/-! ### The commands -/

def execRxEnable (n : Fin 16) (j : Fin 2) (s : State) : Result := .next (s.analogDo n (fun s => rxEnable s n j))
/-- RX_WAKE_DONE: 5,000 beats after the grant the channel is ON (R284). -/
def execRxWakeDone (n : Fin 16) (j : Fin 2) (s : State) : Result :=
  .next (if rxPwr s n j = 2 ∧ (rxCh s n j).wakeAt ≤ s.now then s.setFld F.RXC_STATUS_PWR 3 n j else s)
/-- RX_DISABLE (R284, R591, R592): a request that still waits is discarded. -/
def rxDisable (n : Fin 16) (j : Fin 2) (s : State) : State :=
  ((rxOff s n j).disRecord n 2 j 0 (bit01 (rxPwr s n j == 1)))

def execRxDisable (n : Fin 16) (j : Fin 2) (s : State) : Result := .next (rxDisable n j s)
/-- RX_SETTLE_END: 250 beats after a RANGE write (R282). -/
def execRxSettleEnd (n : Fin 16) (j : Fin 2) (s : State) : Result :=
  .next (if (rxCh s n j).settleAt ≤ s.now then s.setFlag F.RXC_STATUS_SETTLING false n j else s)
def execBinTrigger (n : Fin 16) (u : Fin 32) (set : Fin 4) (s : State) : Result := .next (s.coreEvent n (fun s => binTrigger s n u set.val))
def execBinCancel (n : Fin 16) (u : Fin 32) (s : State) : Result := .next (s.coreEvent n (fun s => binCancel s n u))
def execBinWindowEnd (n : Fin 16) (u : Fin 32) (samples : List (BitVec 12)) (s : State) : Result := .next (binWindowEnd s n u samples)
def execDiscriminate (n : Fin 16) (u : Fin 32) (s : State) : Result := .next (discriminate s n u)
def execBinResult (n : Fin 16) (u : Fin 32) (s : State) : Result := .next (binResult s n u)
def execAcqArm (n : Fin 16) (d : Fin 64) (s : State) : Result := .next (acqEvent s n (fun s => acqArm s n d.val))
def execAcqTrigger (n : Fin 16) (s : State) : Result := .next (acqEvent s n (fun s => acqTrigger s n))
def execAcqStop (n : Fin 16) (s : State) : Result := .next (acqEvent s n (fun s => acqStopAll s n 1))
def execAcqItem (n : Fin 16) (st : Fin 4) (samples : List (BitVec 12)) (s : State) : Result := .next (acqItem s n st samples)
def execPrefillDone (n : Fin 16) (st : Fin 4) (s : State) : Result := .next (prefillDone s n st)
def execAcqSegmentEnd (n : Fin 16) (st : Fin 4) (s : State) : Result := .next (acqSegmentEnd s n st)
def execAcqStreamFree (n : Fin 16) (st : Fin 4) (s : State) : Result := .next (acqFree s n st)

end Sys2Proof.Machine
end

