-- ==== Sys2Proof/Machine/Verdicts.lean ====
section
/-!
DEFINITION. The verdict crossbar: due beats, latches, fabric messages, imports and holds (Verdicts, Due Beats and
Closed-Loop Feedback, R318 to R342).
-/

namespace Sys2Proof.Machine

/-- Change the crossbar. -/
def modXbar (s : State) (f : Crossbar → Crossbar) : State := { s with xbar := f s.xbar }

/-- The source slice of a verdict (R318). -/
def verdictSource (v : Nat) : Nat := if v < 512 then v / 32 else (v - 512) / 32

/-- The destinations of the valid export entries that name a verdict (R319). -/
def exportsOf (s : State) (v : Nat) : List Nat :=
  ((List.range 256).filter (fun e => s.flag F.VRD_EXPORT_VALID e && s.fld F.VRD_EXPORT_VERDICT e == v)).map
    (fun e => s.fld F.VRD_EXPORT_DEST e)

/-- The effective delivery E of a verdict (R320). -/
def delivery (s : State) (v : Nat) : Nat :=
  let dests := exportsOf s v
  let alt := s.flag F.VRD_ROUTE_PAD_ALT v || dests.any (fun d => s.altInUse d)
  let sel := if alt then s.fld F.VRD_DELIV_DELIV_A v else s.fld F.VRD_DELIV_DELIV_P v
  let others := (setBits 16 (s.fld F.VRD_ROUTE_SLICES v)).any (fun n => n ≠ verdictSource v)
  max sel (if others ∨ !dests.isEmpty then 3 else 1)

/-- The beat number of a tick from now on. -/
def beatAt (s : State) (tick : Nat) : Nat := s.beat + (tick - s.now)

/-- A verdict message (R324): KIND 0 value, 1 HOLD, 2 RELEASE. -/
def verdictWord (v src dest value due kind : Nat) : DWord :=
  BitVec.ofNat 64 (v % 2 ^ 10 + src % 2 ^ 10 * 2 ^ 10 + dest % 2 ^ 10 * 2 ^ 20 + value % 4 * 2 ^ 30 + due % 2 ^ 24 * 2 ^ 32 +
    bit01 (kind == 1) * 2 ^ 56 + bit01 (kind == 2) * 2 ^ 57)

/-- A message for every export of a verdict leaves (R323, R335). A replay suppresses the fabric export (R673). -/
def verdictExport (s : State) (v value due kind : Nat) : State :=
  if s.rpl.replaying then s
  else (exportsOf s v).foldl (fun s d => s.expressTo d (verdictWord v s.ownId d value (beatAt s due) kind)) s

/-- The slice's sources are unavailable (VRD_UNAVAIL, R333). -/
def sourceUnavailable (s : State) (n : Nat) : Bool := (s.fld F.VRD_UNAVAIL_SLICES).testBit n

/-- The oldest verdict `v` that has reached the crossbar gets its due beat and leaves for its receivers (R320, R321, R323,
R338). An unavailable source produces none (R333). -/
def verdictReady (s : State) (v : Nat) : State :=
  match s.xbar.ready.find? (fun r => r.v = v ∧ r.at_ ≤ s.now) with
  | none => s
  | some r =>
    let s := modXbar s (fun x => { x with ready := x.ready.erase r })
    if sourceUnavailable s (verdictSource v) then s
    else
      let value := if r.muted then 3 else r.value
      let s := if r.muted then s.count .VRD_GOV_SUBST else s
      let due := max (s.now + delivery s v) (s.xbar.uPrev.at v)
      let s := modXbar s (fun x => { x with
        uPrev := x.uPrev.to v (due + 1)
        flight := x.flight ++ [{ v := v, imported := false, value := value, due := due,
                                 slices := BitVec.ofNat 16 (s.fld F.VRD_ROUTE_SLICES v) }] })
      verdictExport s v value due 0

/-- The lateness of a verdict is recorded and reported (R329, R332). -/
def verdictLate (s : State) (v src late index due : Nat) : State :=
  let s := (s.count .VRD_LATE).setFlag F.VRD_STATUS_LATE true
  let s := ((s.setFld F.VRD_LAST_LATE_VERDICT v).setFld F.VRD_LAST_LATE_SRC_DEV src).setFld F.VRD_LAST_LATE_BEATS (min late 4095)
  let s := s.raise Src.VERDICT_LATE Scope.device (v + src * 2 ^ 10)
  s.journal JType.DISCARD 16 index (due % 2 ^ 32 + s.beat % 2 ^ 32 * 2 ^ 32)

/-- The journal record of a latched local verdict: one record per slice and group of 16 verdicts in a beat (R666, R667). -/
def journalVerdict (s : State) (n v value : Nat) : State :=
  let code := value % 4 * 2 ^ (2 * (v % 16)) + 2 ^ (32 + v % 16)
  if s.rplState ≠ 1 then s
  else
    let same (r : JRecord) : Bool := r.type == JType.VERDICT_L && r.src == n && r.index == v / 16 && r.beat == s.beat
    if s.rpl.fresh.any same then
      { s with rpl := { s.rpl with fresh := s.rpl.fresh.map (fun r => if same r then { r with data := r.data ||| code } else r) } }
    else s.journal JType.VERDICT_L n (v / 16) code

/-- The selector of an input (R131). -/
def inputSel : SeqInput → Selector
  | .verdict v => { index := v.val, bit := false, kind := .verdict, invert := false }
  | .imported i => { index := i.val, bit := false, kind := .imported, invert := false }

/-- The flight carries this input. -/
def VerdictFlight.isFor (f : VerdictFlight) : SeqInput → Bool
  | .verdict v => !f.imported && f.v == v.val
  | .imported i => f.imported && f.v == i.val

/-- The slices that receive an input (R319, R327). -/
def inputSlices (s : State) : SeqInput → Nat
  | .verdict v => s.fld F.VRD_ROUTE_SLICES v
  | .imported i => s.fld F.VRD_IMPORT_SL_SLICES i

/-- The oldest due flight of an input reaches slice `n`: its copy and new mark, or late and discarded (R129, R329). A slice
that is isolated or reloading takes nothing; in a replay the journal's verdicts stand in its place (R675). -/
def verdictLatch (s : State) (n : Fin 16) (input : SeqInput) : State :=
  match s.xbar.flight.find? (fun f => f.isFor input ∧ f.slices.getLsbD n.val ∧ f.due ≤ s.now) with
  | none => s
  | some f =>
    let rest := f.slices &&& ~~~(BitVec.ofNat 16 (2 ^ n.val))
    let left (l : List VerdictFlight) : List VerdictFlight :=
      if rest = 0 then l.erase f else l.map (fun g => if g = f then { g with slices := rest } else g)
    let s := modXbar s (fun x => { x with flight := left x.flight })
    if f.due < s.now then
      verdictLate s f.v s.ownId (s.now - f.due) (f.v + bit01 f.imported * 2 ^ 10) (s.beat - (s.now - f.due))
    else if (s.sl n).isolated ∨ (s.sl n).reloading ∨ s.rpl.replaying then s
    else
      let s := seqLatch s n (inputSel input) f.value
      if f.imported then s else journalVerdict s n.val f.v f.value

/-! ### Holds (R333 to R336) -/

/-- A held input reads 3 and is new at every receiving slice; no overwrite is counted (R333). -/
def holdAssert (s : State) (input : SeqInput) : State :=
  let x := inputSel input
  let key := if x.kind == .imported then 1024 + x.index else x.index
  eachSlice s (fun s n =>
    if (inputSlices s input).testBit n.val then setNew (modSeq s n (fun q => { q with copies := q.copies.to key 3 })) n x true else s)

/-- VRD_IMP_HOLD shows a held import. -/
def showHold (s : State) (input : SeqInput) (b : Bool) : State :=
  match input with
  | .verdict _ => s
  | .imported i => s.setFld F.VRD_IMP_HOLD_HELD (putBit (s.fld F.VRD_IMP_HOLD_HELD (i.val / 32)) (i.val % 32) b) (i.val / 32)

/-- The journal record of the onset (`k` 0) or the end (`k` 1) of a hold (R666). -/
def journalHold (s : State) (input : SeqInput) (k : Nat) : State :=
  match input with
  | .verdict v => s.journal JType.HOLD_L 16 v.val k
  | .imported i => s.journal JType.VERDICT_F 16 i.val (s.fld F.VRD_IMPORT_SRC_VERDICT i + s.fld F.VRD_IMPORT_SRC_DEV i * 2 ^ 10 +
      3 * 2 ^ 20 + (k + 1) * 2 ^ 22)

/-- The hold of an input that is in force, else one that is to begin: a hold that is to end at R + E may have the next one
planned behind it. -/
def holdOf (s : State) (input : SeqInput) : Option VerdictHold :=
  match s.xbar.holds.find? (fun h => h.input = input ∧ h.active) with
  | some h => some h
  | none => s.xbar.holds.find? (fun h => h.input = input)

/-- A hold begins at this boundary (R333). -/
def holdBegin (s : State) (input : SeqInput) : State :=
  let s := match s.xbar.holds.find? (fun h => h.input = input ∧ !h.active) with
    | some h => modXbar s (fun x => { x with holds := x.holds.erase h ++ [{ h with active := true }] })
    | none => modXbar s (fun x => { x with holds := x.holds ++ [{ input := input, onset := s.now, until_ := none, active := true }] })
  holdAssert (journalHold (showHold s input true) input 0) input

/-- A hold ends at this boundary: the copy stays 3, the new mark is clear (R333). -/
def holdFinish (s : State) (input : SeqInput) : State :=
  match holdOf s input with
  | none => s
  | some h =>
    let s := modXbar s (fun x => { x with holds := x.holds.erase h })
    if h.active then
      let s := journalHold (showHold s input false) input 1
      eachSlice s (fun s n => if (inputSlices s input).testBit n.val then setNew s n (inputSel input) false else s)
    else s

/-- A hold is to begin at a tick; a hold that has no end yet stays. -/
def holdPlan (s : State) (input : SeqInput) (onset : Nat) : State :=
  if s.xbar.holds.any (fun h => h.input = input ∧ h.until_.isNone) then s
  else modXbar s (fun x => { x with holds := x.holds ++ [{ input := input, onset := onset, until_ := none, active := false }] })

/-- The verdicts of slice `n` (R318). -/
def sliceVerdicts (n : Fin 16) : List (Fin 1024) :=
  (List.finRange 32).map (fun i => ⟨32 * n.val + i.val, by omega⟩) ++ (List.finRange 32).map (fun i => ⟨512 + 32 * n.val + i.val, by omega⟩)

/-- Slice `n` becomes unavailable at this beat: HOLD3 inputs are to be held, and HOLD messages leave (R333 to R335). -/
def sourcesLost (s : State) (n : Fin 16) : State :=
  if sourceUnavailable s n.val then s
  else
    let s := s.setFld F.VRD_UNAVAIL_SLICES (putBit (s.fld F.VRD_UNAVAIL_SLICES) n.val true)
    (sliceVerdicts n).foldl (fun s v =>
      if s.flag F.VRD_ROUTE_UNAVAIL v.val then
        let due := max (s.now + delivery s v.val) (s.xbar.uPrev.at v.val)
        verdictExport (holdPlan s (.verdict v) due) v.val 3 due 1
      else s) s

/-- Slice `n` is back at this beat, the rejoin R: its holds end at R + E, and RELEASE messages leave (R334, R335). -/
def sourcesBack (s : State) (n : Fin 16) : State :=
  if !sourceUnavailable s n.val then s
  else
    let s := s.setFld F.VRD_UNAVAIL_SLICES (putBit (s.fld F.VRD_UNAVAIL_SLICES) n.val false)
    (sliceVerdicts n).foldl (fun s v =>
      if s.flag F.VRD_ROUTE_UNAVAIL v.val then
        let due := s.now + delivery s v.val
        let s := modXbar s (fun x => { x with holds := x.holds.map (fun h =>
          if h.input = .verdict v ∧ h.until_.isNone then { h with until_ := some due } else h) })
        verdictExport s v.val 3 due 2
      else s) s

/-- Every valid export entry gets a HOLD (`kind` 1) or a RELEASE (`kind` 2) message due at E from now, whatever its UNAVAIL
setting (R336, R655). -/
def exportHolds (s : State) (kind : Nat) : State :=
  (List.range 256).foldl (fun s e =>
    if s.flag F.VRD_EXPORT_VALID e then
      let v := s.fld F.VRD_EXPORT_VERDICT e
      let d := s.fld F.VRD_EXPORT_DEST e
      s.expressTo d (verdictWord v s.ownId d 3 (s.beat + delivery s v) kind)
    else s) s

/-- Every import bound to a device is held from the next boundary (R336). -/
def importsLost (s : State) (dev : Nat) : State :=
  (List.finRange 256).foldl (fun s (i : Fin 256) =>
    if s.flag F.VRD_IMPORT_VALID i ∧ s.fld F.VRD_IMPORT_SRC_DEV i = dev then holdPlan s (.imported i) (s.now + 1) else s) s

/-- The due onset of a hold (R334). In a replay holds come from the journal (R675). -/
def holdOnset (s : State) (input : SeqInput) : State :=
  if s.xbar.holds.any (fun h => h.input = input ∧ !h.active ∧ h.onset ≤ s.now) ∧ !s.rpl.replaying ∧
      !s.xbar.holds.any (fun h => h.input = input ∧ h.active) then holdBegin s input
  else s

/-- The due end of a hold (R334). -/
def holdEnd (s : State) (input : SeqInput) : State :=
  match holdOf s input with
  | some h => match h.until_ with
    | some t => if t ≤ s.now ∧ !s.rpl.replaying then holdFinish s input else s
    | none => s
  | none => s

/-! ### Messages from the fabric (R326, R327, R331, R335) -/

/-- The valid bindings of a source device and verdict (R327). -/
def bindingsOf (s : State) (src v : Nat) : List (Fin 256) :=
  (List.finRange 256).filter (fun i => s.flag F.VRD_IMPORT_VALID i && s.fld F.VRD_IMPORT_SRC_DEV i == src &&
    s.fld F.VRD_IMPORT_SRC_VERDICT i == v)

/-- The index under which the journal names a discarded message (R666). -/
def discardIndex (s : State) (src v : Nat) : Nat := (((bindingsOf s src v).head?.map Fin.val).getD 0) + 2 ^ 10

/-- A due error (R331). -/
def dueError (s : State) (src v due : Nat) : State :=
  let s := ((s.count .VRD_DUE_ERR).setFlag F.VRD_STATUS_DUE_ERR true).raise Src.VERDICT_DUE Scope.device src
  s.journal JType.DISCARD 16 (discardIndex s src v + 2 ^ 11) (due % 2 ^ 32 + s.beat % 2 ^ 32 * 2 ^ 32)

/-- The full due beat of a message that arrives now, relative to the present beat (R326). -/
def dueOffset (s : State) (due24 : Nat) : Int := sext 24 ((due24 + 2 ^ 24 - s.beat % 2 ^ 24) % 2 ^ 24)

/-- A verdict message arrives (R326, R329, R331). -/
def messageReceive (s : State) (word : DWord) : State :=
  let w := word.toNat
  let v := bitsAt w 0 10
  let src := bitsAt w 10 10
  let off := dueOffset s (bitsAt w 32 24)
  let due : Int := s.beat + off
  if w.testBit 56 ∧ w.testBit 57 then dueError s src v due.toNat
  else if 255 < off then dueError s src v due.toNat
  else if off < 0 then verdictLate s v src (-off).toNat (discardIndex s src v) due.toNat
  else modXbar s (fun x => { x with held := x.held ++ [{ word := word, due := s.now + off.toNat }] })

/-- A held message acts on one import (R327, R335). -/
def messageAct (s : State) (w : Nat) (i : Fin 256) : State :=
  if w.testBit 56 then (if (holdOf s (.imported i)).any VerdictHold.active then s else holdBegin s (.imported i))
  else if w.testBit 57 then holdFinish s (.imported i)
  else
    let s := holdFinish s (.imported i)
    let s := s.journal JType.VERDICT_F 16 i.val (bitsAt w 0 22 % 2 ^ 20 + bitsAt w 30 2 * 2 ^ 20)
    modXbar s (fun x => { x with flight := x.flight ++ [{ v := i.val, imported := true, value := bitsAt w 30 2, due := s.now,
                                                          slices := BitVec.ofNat 16 (s.fld F.VRD_IMPORT_SL_SLICES i) }] })

/-- A held message reaches its due beat (R327): it acts on every matching binding, or counts as unbound. In a replay the
journal's imports stand in its place (R675). -/
def messageDue (s : State) (m : HeldMessage) : State :=
  let s := modXbar s (fun x => { x with held := x.held.erase m })
  let w := m.word.toNat
  let is := bindingsOf s (bitsAt w 10 10) (bitsAt w 0 10)
  if s.rpl.replaying then s
  else if is.isEmpty then (s.count .VRD_UNBOUND).setFlag F.VRD_STATUS_UNBOUND true
  else is.foldl (fun s i => messageAct s w i) s

/-- The oldest due message bound to import `i`. -/
def importDeliver (s : State) (i : Fin 256) : State :=
  match s.xbar.held.find? (fun m => m.due ≤ s.now ∧ i ∈ bindingsOf s (bitsAt m.word.toNat 10 10) (bitsAt m.word.toNat 0 10)) with
  | some m => messageDue s m
  | none => s

/-- Every latch of a flight that is due, slice by slice. -/
def latchFlight (s : State) (f : VerdictFlight) : State :=
  let input : Option SeqInput :=
    if f.imported then if h : f.v < 256 then some (.imported ⟨f.v, h⟩) else none
    else if h : f.v < 1024 then some (.verdict ⟨f.v, h⟩) else none
  match input with
  | none => modXbar s (fun x => { x with flight := x.flight.erase f })
  | some i =>
    let s := eachSlice s (fun s n => if f.slices.getLsbD n.val then verdictLatch s n i else s)
    if f.slices = 0 then modXbar s (fun x => { x with flight := x.flight.erase f }) else s

/-- Step 3 of R105: due messages act, due verdicts are latched, holds begin, end and stand. -/
def verdictBeat (s : State) : State :=
  let s := (s.xbar.held.filter (fun m => decide (m.due ≤ s.now))).foldl messageDue s
  let s := (s.xbar.flight.filter (fun f => decide (f.due ≤ s.now))).foldl latchFlight s
  let s := (s.xbar.holds.map VerdictHold.input).foldl (fun s i => holdOnset (holdEnd s i) i) s
  (s.xbar.holds.filter VerdictHold.active).foldl (fun s h => holdAssert s h.input) s

/-- VRD_STATUS.ROUTE_ALT: an alternate port is in use towards some export destination (R342). -/
def routeAlt (s : State) : Bool :=
  (List.range 256).any (fun e => s.flag F.VRD_EXPORT_VALID e && s.altInUse (s.fld F.VRD_EXPORT_DEST e))

/-! ### The commands -/

def execVerdictReady (v : Fin 1024) (s : State) : Result := .next (verdictReady s v.val)
def execVerdictLatch (n : Fin 16) (input : SeqInput) (s : State) : Result := .next (verdictLatch s n input)
/-- VERDICT_MSG_RECEIVE: the message leaves the receiver and is held, or discarded (R326). -/
def execVerdictMsgReceive (_p : Fin 4) (word : BitVec 64) (s : State) : Result :=
  .next (messageReceive { s with ktl := { s.ktl with inWords := s.ktl.inWords.eraseP (fun x => x.2 = word) } } word)
def execImportDeliver (i : Fin 256) (s : State) : Result := .next (importDeliver s i)
def execHoldOnset (input : SeqInput) (s : State) : Result := .next (holdOnset s input)
def execHoldEnd (input : SeqInput) (s : State) : Result := .next (holdEnd s input)

end Sys2Proof.Machine
end

