-- ==== Sys2Proof/Machine/Timing.lean ====
section
/-!
DEFINITION. The time-to-digital channels and the Invar time base (Time Interval, Frequency and the Invar Time Base, R393 to
R425).
-/

namespace Sys2Proof.Machine

/-- TDC channel `c` of a slice. -/
def tdcCh (s : State) (n : Fin 16) (c : Fin 8) : TdcChannel := (s.sl n).tdc.ch.get c

def modTdc (s : State) (n : Fin 16) (c : Fin 8) (f : TdcChannel → TdcChannel) : State :=
  s.modSl n (fun x => { x with tdc := { x.tdc with ch := x.tdc.ch.set c.val (f (x.tdc.ch.get c)) c.isLt } })

/-- TDC_STATUS.STATE: 0 IDLE, 1 ARMED, 2 MEASURING, 3 GATING, 4 DRAINED (R423). -/
def tdcState (s : State) (n : Fin 16) (c : Fin 8) : Nat := s.fld F.TDC_STATUS_STATE n c

def setTdcState (s : State) (n : Fin 16) (c : Fin 8) (v : Nat) : State := s.setFld F.TDC_STATUS_STATE v n c

/-! ### Set-ups (R396, R400) -/

/-- A set-up taken apart (R423). -/
structure TdcSetup where
  mode : Nat
  startIn : Nat
  startSlope : Nat
  stopIn : Nat
  stopSlope : Nat
  reps : Nat
  cont : Bool
deriving DecidableEq, Repr

def TdcSetup.ofWord (w : Word) : TdcSetup :=
  let v := w.toNat
  { mode := bitsAt v 0 2, startIn := bitsAt v 2 7, startSlope := bitsAt v 9 2, stopIn := bitsAt v 11 7, stopSlope := bitsAt v 18 2,
    reps := bitsAt v 20 8, cont := v.testBit 28 }

/-- The set-up may be armed: no refused mode, slope or reserved input among those it uses (R400). -/
def TdcSetup.ok (x : TdcSetup) : Bool :=
  decide (x.mode ≠ 3) && decide (x.startSlope ≠ 3) && decide (x.startIn < 80) &&
    (decide (x.mode ≠ 0) || (decide (x.stopSlope ≠ 3) && decide (x.stopIn < 80)))

/-- An edge qualifies for an input and slope (R398): 0 RISING, 1 FALLING, 2 BOTH. -/
def qualifies (input slope edge : Nat) (rising : Bool) : Bool := input == edge && (slope == 2 || (slope == 0) == rising)

/-- Start and stop are the same input and slope (R403). -/
def TdcSetup.same (x : TdcSetup) : Bool := x.startIn == x.stopIn && x.startSlope == x.stopSlope

/-- The set-up the channel works under. -/
def tdcSetup (s : State) (n : Fin 16) (c : Fin 8) : TdcSetup := TdcSetup.ofWord (tdcCh s n c).setup

/-- A command is refused for its configuration (R400, R414). -/
def tdcCfgErr (s : State) (n : Fin 16) (c : Fin 8) : State := s.setFlag F.TDC_STATUS_CFG_ERR true n c

/-- The start of a tick on the channels' time axis, in units of 2^−12 ns. It counts from the tick at which the beat count
started, so that an EPOCH leaves a measurement in progress whole; a time stamp is given since EPOCH (R393, R406). -/
def beatLsb (tick : Nat) : Nat := 16384 * tick

/-- A time of the channels' axis since EPOCH, modulo 2^64 (R393, R406). -/
def sinceEpoch (s : State) (t : Nat) : Nat := (((t : Int) - 16384 * (s.now : Int) + 16384 * s.beat) % 2 ^ 64).toNat

/-- ARM with set-up `k` (R400, R414). -/
def tdcArm (s : State) (n : Fin 16) (c : Fin 8) (k : Nat) : State :=
  if tdcState s n c ≠ 0 then (s.count .TDC_IGNORED n c).setFlag F.TDC_STATUS_ARM_IGN true n c
  else
    let w := s.rd .TDC_SETUP n c k
    let x := TdcSetup.ofWord w
    if !s.flag F.TDC_CFG_EN n c ∨ !x.ok then tdcCfgErr s n c
    else
      let s := modTdc s n c (fun t => { TdcChannel.initial with setup := w, armTick := s.now, armBeat := s.beat, from_ := beatLsb s.now,
                                                                 spoilt := t.spoilt })
      ((setTdcState s n c 1).setFld F.TDC_STATUS_SETUP k n c).setFld F.TDC_STATUS_LEFT (if x.cont then 0 else x.reps) n c

/-- The channel returns to IDLE, or stays DRAINED; no measurement goes on (R401, R414). -/
def tdcIdle (s : State) (n : Fin 16) (c : Fin 8) : State :=
  let s := modTdc s n c (fun t => { t with start := none, stop := none, gate := none, first := none, edges := 0, bad := false })
  if tdcState s n c = 4 then s else setTdcState s n c 0

/-- A set-up has been written at the boundary of an ARM that took it: it latches the new value (R400). -/
def tdcSetupWritten (s : State) (n : Fin 16) (c : Fin 8) (k : Nat) : State :=
  if tdcState s n c = 1 ∧ (tdcCh s n c).armTick = s.now ∧ s.fld F.TDC_STATUS_SETUP n c = k ∧ (tdcCh s n c).number = 0 then
    let w := s.rd .TDC_SETUP n c k
    let x := TdcSetup.ofWord w
    if x.ok then (modTdc s n c (fun t => { t with setup := w })).setFld F.TDC_STATUS_LEFT (if x.cont then 0 else x.reps) n c
    else tdcCfgErr (tdcIdle s n c) n c
  else s

/-- GATE (R407): G µs from this boundary. -/
def tdcGate (s : State) (n : Fin 16) (c : Fin 8) : State :=
  if tdcState s n c = 1 ∧ (tdcSetup s n c).mode = 2 then
    let g := clampNat 1 4000000 (s.fld F.TDC_GATE_US n c)
    let open_ := beatLsb s.now
    let s := modTdc s n c (fun t => { t with gate := some (open_, open_ + g * 4096000), first := none, edges := 0, bad := false })
    setTdcState s n c 3
  else (s.count .TDC_IGNORED n c).setFlag F.TDC_STATUS_GATE_IGN true n c

/-! ### Results (R402, R409, R410) -/

/-- A measurement gives a result at time `t`; the channel is ARMED again for edges after `t`, or IDLE after its last (R402,
R410). -/
def tdcResult (s : State) (n : Fin 16) (c : Fin 8) (t : Nat) (neg ovf invalid noedge : Bool) (val aux : Nat) : State :=
  let ch := tdcCh s n c
  let x := tdcSetup s n c
  let r : TdcResult := { due := t / 16384 + 4, ch := c, mode := x.mode, neg := neg, ovf := ovf, invalid := invalid || ch.spoilt,
                         noedge := noedge, setup := s.fld F.TDC_STATUS_SETUP n c, val := val, aux := aux, armBeat := ch.armBeat }
  let s := s.modSl n (fun y => { y with tdc := { y.tdc with waiting := y.tdc.waiting ++ [r] } })
  let s := modTdc s n c (fun y => { y with number := y.number + 1, from_ := if x.mode = 2 then t else t + 1, start := none, stop := none, gate := none,
                                           first := none, edges := 0, bad := false, spoilt := false })
  if !x.cont ∧ x.reps ≤ ch.number then tdcIdle s n c
  else
    let s := setTdcState s n c 1
    if x.cont then s else s.setFld F.TDC_STATUS_LEFT (x.reps - (ch.number + 1)) n c

/-- A held early stop is discarded (R404). -/
def tdcDropStop (s : State) (n : Fin 16) (c : Fin 8) : State :=
  ((modTdc s n c (fun y => { y with stop := none })).count .TDC_REV_DISC n c).setFlag F.TDC_STATUS_REV_DISC true n c

/-- The result of a start and a stop (R403, R404). -/
def tdcInterval (s : State) (n : Fin 16) (c : Fin 8) (t : Nat) (start stop : Nat × Bool) : State :=
  tdcResult s n c t (decide (stop.1 < start.1)) false (start.2 || stop.2) false
    (if stop.1 < start.1 then start.1 - stop.1 else stop.1 - start.1) (tdcCh s n c).number

/-- A start edge of an INTERVAL measurement (R403, R404). -/
def tdcStartEdge (s : State) (n : Fin 16) (c : Fin 8) (t : Nat) (bad alsoStop : Bool) : State :=
  match (tdcCh s n c).stop with
  | some p => tdcInterval s n c t (t, bad) p
  | none =>
    if alsoStop then tdcInterval s n c t (t, bad) (t, bad)
    else setTdcState (modTdc s n c (fun y => { y with start := some (t, bad) })) n c 2

/-- A stop edge of an INTERVAL measurement (R403, R404). -/
def tdcStopEdge (s : State) (n : Fin 16) (c : Fin 8) (t : Nat) (bad : Bool) : State :=
  match (tdcCh s n c).start with
  | some st => tdcInterval s n c t st (t, bad)
  | none =>
    let s := if (tdcCh s n c).stop.isSome then tdcDropStop s n c else s
    modTdc s n c (fun y => { y with stop := some (t, bad) })

/-- An eligible, measured edge of a channel (R403 to R408). -/
def tdcMeasure (s : State) (n : Fin 16) (c : Fin 8) (t : Nat) (bad isStart isStop : Bool) : State :=
  let ch := tdcCh s n c
  let x := tdcSetup s n c
  match x.mode with
  | 0 =>
    let s := match ch.stop with
      | some p => if p.1 + 4096000 < t then tdcDropStop s n c else s
      | none => s
    if ch.start.isNone then
      if isStart then tdcStartEdge s n c t bad (isStop && !x.same) else if isStop then tdcStopEdge s n c t bad else s
    else if isStop then tdcStopEdge s n c t bad else s
  | 1 => if isStart then tdcResult s n c t false false bad false (sinceEpoch s t) ch.number else s
  | _ =>
    match ch.gate with
    | some (o, e) =>
      if isStart ∧ o ≤ t ∧ t ≤ e then
        modTdc s n c (fun y => match y.first with
          | none => { y with first := some t, last := t, edges := 0, bad := bad }
          | some _ => { y with last := t, edges := y.edges + 1, bad := y.bad || bad })
      else s
    | none => s

/-- The pin of an input code is guarded (R396, R399). -/
def tdcGuarded (s : State) (n : Fin 16) (input : Nat) : Bool := decide (input < 64) && pinGuarded s n (input % 32)

/-- An edge on an input of the device at a time (R393, R394, R398, R399). -/
def tdcEdge (s : State) (n : Fin 16) (c : Fin 8) (input : Nat) (rising : Bool) (t : Nat) : State :=
  let ch := tdcCh s n c
  let x := tdcSetup s n c
  let st := tdcState s n c
  let isStart := qualifies x.startIn x.startSlope input rising
  let isStop := x.mode == 0 && qualifies x.stopIn x.stopSlope input rising
  if ¬(st = 1 ∨ st = 2 ∨ st = 3) ∨ ¬(isStart ∨ isStop) then s
  else
    let near := ch.seen.any (fun e => e.1 = input ∧ t < e.2 + 8192)
    let s := modTdc s n c (fun y => { y with seen := (input, t) :: y.seen.filter (fun e => e.1 ≠ input) })
    if near then
      ((modTdc s n c (fun y => { y with spoilt := true })).count .TDC_SPACING n c).setFlag F.TDC_STATUS_SPACING true n c
    else if t < ch.from_ then s
    else tdcMeasure s n c t (!s.flag F.TDC_STATUS_LOCK n c || tdcGuarded s n input) isStart isStop

/-- A held stop has become older than 1,000 ns within the present beat (R404). -/
def tdcStopExpire (s : State) (n : Fin 16) (c : Fin 8) : State :=
  match (tdcCh s n c).stop with
  | some p => if p.1 + 4096000 < beatLsb (s.now + 1) then tdcDropStop s n c else s
  | none => s

/-- No stop within 2^32 ns of the start (R405). -/
def tdcOverflow (s : State) (n : Fin 16) (c : Fin 8) : State :=
  match (tdcCh s n c).start with
  | some st =>
    let t := st.1 + 2 ^ 44
    if t < beatLsb (s.now + 1) then tdcResult s n c t false true st.2 false 0x00000FFFFFFFFFFF (tdcCh s n c).number else s
  | none => s

/-- The gate closes (R408). -/
def tdcGateClose (s : State) (n : Fin 16) (c : Fin 8) : State :=
  let ch := tdcCh s n c
  match ch.gate with
  | some (_, e) =>
    if beatLsb (s.now + 1) ≤ e then s
    else match ch.first with
      | some f => if ch.edges = 0 then tdcResult s n c e false false ch.bad true 0 0
          else tdcResult s n c e false false ch.bad false (ch.last - f) ch.edges
      | none => tdcResult s n c e false false ch.bad true 0 0
  | none => s

/-! ### The queue (R409 to R413) -/

/-- The value a CMPR compares (R411). -/
def tdcCompare (s : State) (n : Fin 16) (r : TdcResult) : Int :=
  let q : Int := match r.mode with
    | 0 => if r.neg then -(r.val : Int) else r.val
    | 1 => (r.val : Int) - 16384 * r.armBeat
    | _ => if r.val = 0 then 0 else roundDiv ((r.aux * 4096 * 10 ^ 9 : Nat) : Int) r.val
  satInt 32 (floorDiv q (2 ^ s.fld F.TDC_CFG_CMP_SHIFT n r.ch))

/-- A queue entry (R409). -/
def tdcEntry (r : TdcResult) (beat : Nat) : BitVec 128 :=
  BitVec.ofNat 128 (r.ch + r.mode * 2 ^ 3 + bit01 r.neg * 2 ^ 5 + bit01 r.ovf * 2 ^ 6 + bit01 r.invalid * 2 ^ 7 + bit01 r.noedge * 2 ^ 8 +
    2 ^ 9 + r.setup * 2 ^ 10 + beat % 2 ^ 16 * 2 ^ 16 + r.val % 2 ^ 64 * 2 ^ 32 + r.aux % 2 ^ 32 * 2 ^ 96)

/-- The next result that is due: earliest tick, then lowest channel, then order of completion (R410). -/
def tdcNext (l : List TdcResult) : Option TdcResult :=
  l.foldl (fun b r => match b with
    | none => some r
    | some x => if r.due < x.due ∨ (r.due = x.due ∧ r.ch < x.ch) then some r else some x) none

/-- The next due result enters the queue, or is lost to a full one; a waiting CMPR sees it (R410 to R412). -/
def tdcEnqueue (s : State) (n : Fin 16) : State :=
  match tdcNext ((s.sl n).tdc.waiting.filter (fun r => decide (r.due ≤ s.now))) with
  | none => s
  | some r =>
    let q := (s.sl n).tdc.queue
    let s := s.modSl n (fun y => { y with tdc := { y.tdc with waiting := y.tdc.waiting.erase r } })
    let s :=
      if 128 ≤ q.length then (s.count .TDC_QLOST n).setFlag F.TDC_QSTATUS_QOVF true n
      else
        let s := s.modSl n (fun y => { y with tdc := { y.tdc with queue := q ++ [tdcEntry r (s.beat - (s.now - r.due))] } })
        s.peak F.TDC_QSTATUS_PEAK (q.length + 1) n
    let v := tdcCompare s n r
    seqResult s n false r.ch v (r.ovf || r.invalid || r.noedge)
      (pat 32 v + bit01 r.ovf * 2 ^ 32 + bit01 r.invalid * 2 ^ 33 + bit01 r.noedge * 2 ^ 34)

/-- A read of TDC_RESULT takes the oldest entry into the shadow (R413). -/
def tdcTake (s : State) (n : Fin 16) : State :=
  let e := (s.sl n).tdc.queue.headD 0
  let s := s.modSl n (fun y => { y with tdc := { y.tdc with queue := y.tdc.queue.drop 1 } })
  let w (i : Nat) : Word := BitVec.ofNat 32 (bitsAt e.toNat (32 * i) 32)
  let s := ((s.wr .TDC_RES_VAL_LO (w 1) n).wr .TDC_RES_VAL_HI (w 2) n).wr .TDC_RES_AUX (w 3) n
  { s with readValue := w 0 }

/-! ### Disabling and containment (R414) -/

/-- Clearing EN: results whose completing edge lies before this boundary stand (R414). -/
def tdcDisable (s : State) (n : Fin 16) (c : Fin 8) : State := tdcIdle (s.setFlag F.TDC_CFG_EN false n c) n c

/-- The drain of a live reload: every channel is DRAINED (R414). -/
def tdcDrain (s : State) (n : Fin 16) : State := (List.finRange 8).foldl (fun s c => setTdcState (tdcIdle s n c) n c 4) s

/-- An L2 isolation or the safe state: measurements end without results (R414). -/
def tdcContain (s : State) (n : Fin 16) : State := (List.finRange 8).foldl (fun s c => tdcIdle s n c) s

/-- The isolation of a live reload: status and counters return to their reset values; LOCK follows the servo, and the queue
keeps its entries (R90, R414). -/
def tdcReset (s : State) (n : Fin 16) : State :=
  let s := (List.finRange 8).foldl (fun s c =>
    let st := tdcState s n c
    let lock := s.flag F.TDC_STATUS_LOCK n c
    let s := (((s.wr .TDC_STATUS 0 n c).wr .TDC_SPACING 0 n c).wr .TDC_REV_DISC 0 n c).wr .TDC_IGNORED 0 n c
    (setTdcState s n c st).setFlag F.TDC_STATUS_LOCK lock n c) s
  (s.wr .TDC_QSTATUS 0 n).wr .TDC_QLOST 0 n

/-! ### Invar (R415 to R421) -/

/-- A register read as a signed 32-bit quantity. -/
def State.srd (s : State) (r : Reg) (i : Nat := 0) : Int := sext 32 (s.rd r i).toNat

/-- Put a signed quantity in a register. -/
def State.swr (s : State) (r : Reg) (v : Int) (i : Nat := 0) : State := s.wr r (BitVec.ofInt 32 v) i

/-- The target of the correction C: compensation, ageing trim and discipline term (R417). -/
def invTarget (s : State) : Int :=
  Config.invarCompensation (s.rd .INV_TEMP) + s.srd .INV_AGE_TRIM + s.srd .INV_DISC

/-- C moves towards its target by at most one unit (R418). -/
def invSlew (s : State) : State :=
  let c := s.srd .INV_CORR
  let t := invTarget s
  let c' := if c < t then c + 1 else if t < c then c - 1 else c
  (s.swr .INV_CORR c').setFlag F.INV_STATUS_SLEWING (decide (c' ≠ t))

/-- INV_AGE_TRIM has been written: ±10 ppm at most (R417). -/
def invTrimWritten (s : State) : State :=
  let v := s.srd .INV_AGE_TRIM
  let w := clampInt (-1000000) 1000000 v
  if v = w then s else (s.swr .INV_AGE_TRIM w).setFlag F.INV_STATUS_CLAMP true

/-- The discipline loop and the crystal's sensor at a beat boundary: a free term while the reference is valid, within ±20 ppm
(R419). -/
def invDiscipline (s : State) : State :=
  let s := s.wr .INV_TEMP (Config.sensor 0 0 s.now &&& 0xFFFF#32)
  if s.flag F.INV_STATUS_REF_VALID ∧ ¬s.flag F.INV_STATUS_HOLDOVER then
    let v := Config.discipline s.now
    let w := clampInt (-2000000) 2000000 v
    let s := if w = -2000000 ∨ w = 2000000 then s.setFlag F.INV_STATUS_CLAMP true else s
    (s.swr .INV_DISC w).wr .INV_PHASE_ERR (Config.sensor 1 0 s.now)
  else s

/-- The reference becomes invalid (R420). -/
def invRefLoss (s : State) : State :=
  if s.flag F.INV_STATUS_REF_VALID then
    let s := ((s.setFlag F.INV_STATUS_REF_VALID false).setFlag F.INV_STATUS_DISC_LOCK false).wr .INV_PHASE_ERR 0
    let s := ((s.setFlag F.INV_STATUS_HOLDOVER true).setFlag F.INV_STATUS_REF_LOST true).count .INV_REF_LOSS
    s.raise Src.INV_REF Scope.device 0
  else s

/-- The reference is valid: discipline begins or resumes from the frozen term (R419, R420). -/
def invRefRestore (s : State) : State :=
  if s.fld F.INV_CFG_REF_SEL = 0 then s
  else (s.setFlag F.INV_STATUS_REF_VALID true).setFlag F.INV_STATUS_HOLDOVER false

/-- INV_CFG.REF_SEL has been written 0: discipline is off (R419). -/
def invReferenceOff (s : State) : State :=
  if s.fld F.INV_CFG_REF_SEL = 0 then
    ((((s.setFlag F.INV_STATUS_REF_VALID false).setFlag F.INV_STATUS_DISC_LOCK false).setFlag F.INV_STATUS_HOLDOVER false).wr
      .INV_PHASE_ERR 0).wr .INV_DISC 0
  else s

/-! ### The commands -/

def execTdcArm (n : Fin 16) (c : Fin 8) (setup : Fin 4) (s : State) : Result := .next (s.analogEvent n (fun s => tdcArm s n c setup.val))
def execTdcDisarm (n : Fin 16) (c : Fin 8) (s : State) : Result := .next (s.analogEvent n (fun s => tdcIdle s n c))
def execTdcGate (n : Fin 16) (c : Fin 8) (s : State) : Result := .next (s.analogEvent n (fun s => tdcGate s n c))
def execTdcEdge (n : Fin 16) (c : Fin 8) (input : BitVec 7) (rising : Bool) (lsb : Fin 16384) (s : State) : Result :=
  .next (tdcEdge s n c input.toNat rising (beatLsb s.now + lsb.val))
def execTdcStopExpire (n : Fin 16) (c : Fin 8) (s : State) : Result := .next (tdcStopExpire s n c)
def execTdcIntervalOvf (n : Fin 16) (c : Fin 8) (s : State) : Result := .next (tdcOverflow s n c)
def execTdcGateClose (n : Fin 16) (c : Fin 8) (s : State) : Result := .next (tdcGateClose s n c)
def execTdcResultEnqueue (n : Fin 16) (s : State) : Result := .next (tdcEnqueue s n)
/-- TDC_SERVO_REF: LOCK stands while both reference charges read 4,096 ± 2 (R394). -/
def execTdcServoRef (n : Fin 16) (c : Fin 8) (startRef stopRef : BitVec 13) (s : State) : Result :=
  let ok (v : BitVec 13) : Bool := decide (4094 ≤ v.toNat) && decide (v.toNat ≤ 4098)
  .next (s.setFlag F.TDC_STATUS_LOCK (s.analogOn n && ok startRef && ok stopRef) n c)
def execTdcResultRead (n : Fin 16) (s : State) : Result := .next (tdcTake s n)
/-- The results of a TDC channel that are complete and not yet queued, and whether a measurement is in progress (R414, R591). -/
def tdcWork (s : State) (n : Fin 16) (c : Fin 8) : Nat × Nat :=
  (((s.sl n).tdc.waiting.filter (fun (r : TdcResult) => r.ch == c.val)).length, bit01 (decide (tdcState s n c ∈ [1, 2, 3])))

/-- TDC_DISABLE (R414, R592). -/
def execTdcDisable (n : Fin 16) (c : Fin 8) (s : State) : Result :=
  .next ((tdcDisable s n c).disRecord n 3 c (tdcWork s n c).1 (tdcWork s n c).2)
def execInvRefLoss (s : State) : Result := .next (invRefLoss s)
def execInvRefRestore (s : State) : Result := .next (invRefRestore s)
/-- INV_DISC_LOCK: the phase error has stayed below 1 ns for 1 s (R419). -/
def execInvDiscLock (s : State) : Result :=
  .next (if s.flag F.INV_STATUS_REF_VALID ∧ ¬s.flag F.INV_STATUS_HOLDOVER then s.setFlag F.INV_STATUS_DISC_LOCK true else s)

end Sys2Proof.Machine
end

