-- ==== Sys2Proof/Machine/Chain.lean ====
section
/-!
DEFINITION. The clock chain, EPOCH and the trigger bus (Clock Chain, EPOCH and the Trigger Bus, R426 to R456).
-/

namespace Sys2Proof.Machine

/-- Change the chain. -/
def modChn (s : State) (f : Chain → Chain) : State := { s with chn := f s.chn }

/-- CHN_CFG.ROLE: 0 STANDALONE, 1 MASTER, 2 SLAVE, 3 SUBMASTER (R426). -/
def chnRole (s : State) : Nat := s.fld F.CHN_CFG_ROLE

def chnPos (s : State) : Nat := s.fld F.CHN_CFG_POS

/-- CHN_STATUS.STATE: 0 STANDALONE, 1 MASTER, 2 ACQUIRE, 3 TRACK, 4 HOLDOVER, 5 UNALIGNED (R454). -/
def chnState (s : State) : Nat := s.fld F.CHN_STATUS_STATE

def setChnState (s : State) (v : Nat) : State := s.setFld F.CHN_STATUS_STATE v

/-- The device follows an upstream device. -/
def chnFollows (s : State) : Bool := decide (2 ≤ chnRole s)

/-- ALIGNED: on a MASTER or STANDALONE device it reads INV_STATUS.LOCK (R454). -/
def chnAligned (s : State) : Bool := if chnFollows s then s.flag F.CHN_STATUS_ALIGNED else s.flag F.INV_STATUS_LOCK

/-- Every slice wheel of the device is STOPPED. -/
def wheelsStopped (s : State) : Bool := (List.range 16).all (fun n => s.fld F.SLC_WHEEL_STATUS_STATE n == 0)

/-- A CHN_ALIGN fault with the status bits [12:0] (R439, R635). -/
def chnAlignFault (s : State) : State := s.raise Src.CHN_ALIGN Scope.device ((s.rd .CHN_STATUS).toNat % 2 ^ 13)

/-- A flag of CHN_STATUS that reports a CHN_ALIGN fault when it is first set (R439). -/
def chnFlagFault (s : State) (f : Field) : State := if s.flag f then s else chnAlignFault (s.setFlag f true)

/-- No average, COUNT sequence or report is in progress. -/
def Chain.fresh (c : Chain) : Chain :=
  { c with sumA := 0, sumR := 0, turns := 0, arrival := none, rxCount := none, near := false, stepped := false, leaving := false, slew := 0 }

/-- ACQUIRE is entered; only while every wheel is STOPPED (R434). -/
def chnAcquire (s : State) : State :=
  (setChnState (modChn s Chain.fresh) 2).setFlag F.CHN_STATUS_ALIGNED false

/-- UNALIGNED is entered (R434, R439). -/
def chnUnaligned (s : State) : State :=
  chnAlignFault ((setChnState (modChn s Chain.fresh) 5).setFlag F.CHN_STATUS_ALIGNED false)

/-- ROLE and POS are written (R426). -/
def chnRoleWrite (s : State) (role pos : Nat) : State :=
  if role = chnRole s ∧ pos = chnPos s then s
  else if !wheelsStopped s then s.setFlag F.CHN_STATUS_CFG_IGN true
  else
    let s := (s.setFld F.CHN_CFG_ROLE role).setFld F.CHN_CFG_POS pos
    let s := modChn s (fun c => { c.fresh with rxUpok := false, lost := 0, txTurn := 0, txPart := 0, report := none })
    let s := s.setFlag F.CHN_STATUS_ALIGNED false
    if role < 2 then (setChnState s role).setFlag F.CHN_STATUS_CLK_LOCK false
    else if s.flag F.CHN_STATUS_CLK_LOCK then chnAcquire s else setChnState s 5

/-- The clocks lock to CLK_IN: a device that waits for it enters ACQUIRE, HOLDOVER is left (R434, R438). -/
def chnClkLock (s : State) : State :=
  if !chnFollows s then s
  else
    let waits := chnState s == 5 && !s.flag F.CHN_STATUS_CLK_LOCK
    let s := s.setFlag F.CHN_STATUS_CLK_LOCK true
    let s := (s.setFlag F.INV_STATUS_REF_VALID true).setFlag F.INV_STATUS_HOLDOVER false
    if chnState s = 4 then modChn s (fun c => { c.fresh with leaving := true, lost := 0 })
    else if waits ∧ wheelsStopped s then chnAcquire s else s

/-- HOLDOVER is entered (R434, R438, R439). -/
def chnHoldover (s : State) (clock : Bool) : State :=
  if !chnFollows s then s
  else
    let waits := chnState s == 5 && !s.flag F.CHN_STATUS_CLK_LOCK
    if waits ∨ (!clock ∧ s.chn.lost < 8) then s
    else
      let s := if clock then s.setFlag F.CHN_STATUS_CLK_LOCK false else s
      if chnState s = 4 then modChn s Chain.fresh
      else
        let s := (setChnState (modChn s Chain.fresh) 4).setFlag F.CHN_STATUS_ALIGNED false
        let s := (s.count .CHN_HOLDOVERS).setFlag F.INV_STATUS_HOLDOVER true
        s.raise Src.CHN_LINK Scope.device 0

/-- REALIGN (R434). -/
def chnRealign (s : State) : State :=
  if !wheelsStopped s then s.setFlag F.CHN_STATUS_REALIGN_REFUSED true
  else if chnFollows s ∧ s.flag F.CHN_STATUS_CLK_LOCK then chnAcquire s
  else s

/-! ### The beat frame (R429 to R431) -/

/-- One bit into the CRC-5 of x^5 + x^2 + 1 (R429). -/
def crc5Bit (c : Nat) (b : Bool) : Nat :=
  let c' := c * 2 % 32
  if c.testBit 4 != b then c' ^^^ 5 else c'

/-- The CRC-5 over bits 1 to 57 of a frame in line order (R429). -/
def frameCrc (v : Nat) : Nat := ((List.range 57).map (fun i => v.testBit (i + 1))).foldl crc5Bit 31

/-- A frame (R429). -/
def chainFrame (hops turn : Nat) (report : Option Nat) (cmd part arg : Nat) (upok : Bool) : BitVec 64 :=
  let rep := match report with
    | some r => 2 ^ 14 + r % 2 ^ 20 * 2 ^ 15
    | none => 0
  let v := 1 + 5 * 2 + hops % 32 * 2 ^ 4 + turn % 32 * 2 ^ 9 + rep + cmd % 4 * 2 ^ 35 + part % 4 * 2 ^ 37 + arg % 2 ^ 18 * 2 ^ 39 +
    bit01 upok * 2 ^ 57
  BitVec.ofNat 64 (v + frameCrc v * 2 ^ 58)

/-- START, SYNC, STOP and CRC of a frame hold (R431). -/
def frameOk (w : Nat) : Bool :=
  w.testBit 0 && bitsAt w 1 3 == 5 && !w.testBit 63 && bitsAt w 58 5 == frameCrc w

/-- The sender's grid and count are valid (R429, R430). -/
def chnUpok (s : State) : Bool := chnAligned s && (!chnFollows s || s.chn.rxUpok)

/-- The frame of a wheel boundary leaves on BEAT_OUT (R429, R430, R441). -/
def chainTx (s : State) : State :=
  if chnRole s = 0 ∨ s.beat % 16 ≠ 0 then s
  else
    let c := s.chn
    let turn := if chnRole s = 2 then c.rxTurn else c.txTurn
    let alternating : Option (Nat × Nat) := match c.epoch with
      | some e => some (1, e / 2 ^ 24)
      | none => match c.calAt with
        | some t => if s.now < t then some (2, beatAt s t / 16) else none
        | none => none
    let start := if c.txPart = 0 then s.beat else c.txCount
    let (cmd, part, arg) := match alternating with
      | some (cmd, v) => (cmd, c.txAlt % 2, v >>> (18 * (c.txAlt % 2)))
      | none => (0, c.txPart, start >>> (16 * c.txPart) % 2 ^ 16)
    let out := chainFrame (chnPos s) turn c.report cmd part arg (chnUpok s)
    modChn s (fun c => { c with
      out := out, report := none, txTurn := (c.txTurn + 1) % 32,
      txPart := if alternating.isSome then 0 else (c.txPart + 1) % 4,
      txCount := if alternating.isSome then c.txCount else start,
      txAlt := if alternating.isSome then (c.txAlt + 1) % 2 else 0 })

/-- The own count has the value that a COUNT sequence gives for the tick at which it began (R434, R435). A device in ACQUIRE
loads it. -/
def countSequence (s : State) (tick count : Nat) : State :=
  if chnState s = 2 ∧ s.chn.stepped then
    setChnState { modChn s (fun c => { c.fresh with near := false }) with beat := count + (s.now - tick) } 3
  else if chnState s = 3 ∧ s.beat % 2 ^ 64 ≠ (count + (s.now - tick)) % 2 ^ 64 then
    chnUnaligned (s.setFlag F.CHN_STATUS_COUNT_ERR true)
  else s

/-- The part of a COUNT sequence: consecutive frames from part 0 to part 3 (R430). -/
def countPart (s : State) (part arg : Nat) : State :=
  let arg := arg % 2 ^ 16
  if part = 0 then modChn s (fun c => { c with rxCount := some (s.now - s.beat % 16, 1, arg) })
  else match s.chn.rxCount with
    | none => s
    | some (t, k, v) =>
      if part ≠ k ∨ s.now - s.beat % 16 ≠ t + 16 * part then modChn s (fun c => { c with rxCount := none })
      else
        let v := v + arg * 2 ^ (16 * part)
        if part = 3 then countSequence (modChn s (fun c => { c with rxCount := none })) t v
        else modChn s (fun c => { c with rxCount := some (t, k + 1, v) })

/-- The boundary of the frame that is being received. -/
def frameBoundary (s : State) : Nat := s.beat - s.beat % 16

/-- The parts of an EPOCH command: the device holds it once it has both, no later than E − 16 (R441). -/
def epochPart (s : State) (part arg : Nat) : State :=
  let s := modChn s (fun c => if part = 0 then { c with epochLow := some arg } else { c with epochHigh := some arg })
  match s.chn.epochLow, s.chn.epochHigh with
  | some lo, some hi =>
    let e := (lo + hi * 2 ^ 18) * 2 ^ 24
    if s.chn.epoch.isNone ∧ frameBoundary s + 16 ≤ e then
      (modChn s (fun c => { c with epoch := some e, epochLow := none, epochHigh := none })).setFlag F.CHN_STATUS_EPOCH_PEND true
    else s
  | _, _ => s

/-- The calibration beat S is known (R452). -/
def calHold (s : State) (beat : Nat) : State :=
  (modChn s (fun c => { c with calAt := some (s.now + (beat - s.beat)), calLow := none, calHigh := none })).setPair
    .TRG_CAL_START_LO .TRG_CAL_START_HI beat

/-- The parts of a TRGCAL command (R430, R452). -/
def calPart (s : State) (part arg : Nat) : State :=
  let s := modChn s (fun c => if part = 0 then { c with calLow := some arg } else { c with calHigh := some arg })
  match s.chn.calLow, s.chn.calHigh with
  | some lo, some hi =>
    let beat := (lo + hi * 2 ^ 18) * 16
    if s.chn.calAt.isNone ∧ s.beat ≤ beat then calHold s beat else s
  | _, _ => s

/-- UPOK of a received frame (R434, R436). -/
def upokSeen (s : State) (ok : Bool) : State :=
  let s := modChn s (fun c => { c with rxUpok := ok })
  if !ok ∧ s.flag F.CHN_STATUS_ALIGNED then chnFlagFault (s.setFlag F.CHN_STATUS_ALIGNED false) F.CHN_STATUS_UP_LOST
  else if ok ∧ chnState s = 3 ∧ s.chn.near ∧ !s.flag F.CHN_STATUS_POS_ERR then s.setFlag F.CHN_STATUS_ALIGNED true
  else s

/-- A turn is measured (R433): the arrival A of the turn's frame and the report R of the next. A SUBMASTER needs no R. -/
def turnTaken (s : State) (a r : Int) : State :=
  modChn s (fun c => { c with sumA := c.sumA + a, sumR := c.sumR + r, turns := c.turns + 1 })

/-- A frame arrives (R431, R433, R435, R436, R441, R444). -/
def chainRx (s : State) (frame : BitVec 64) (arrival : Int) : State :=
  if !chnFollows s then s
  else
    let w := frame.toNat
    if !frameOk w then
      (modChn s (fun c => { c with lost := c.lost + 1, arrival := none, rxCount := none })).count .CHN_FRAME_ERR
    else
      let sub := chnRole s == 3
      let hops := bitsAt w 4 5
      let turn := bitsAt w 9 5
      let rv := w.testBit 14
      let part := bitsAt w 37 2
      let arg := bitsAt w 39 18
      let s := modChn s (fun c => { c with lost := 0, rxTurn := turn })
      let s := if chnState s = 4 ∧ !s.chn.leaving ∧ s.flag F.CHN_STATUS_CLK_LOCK then
          (modChn s (fun c => { c.fresh with leaving := true })).setFlag F.INV_STATUS_HOLDOVER false
        else s
      let s := if (if sub then hops ≠ 0 else hops + 1 ≠ chnPos s) then chnFlagFault s F.CHN_STATUS_POS_ERR else s
      let s := match s.chn.arrival with
        | some a => if rv ∧ !sub then turnTaken s a (bitsAt w 15 20) else s
        | none => s
      let s := if sub then (if turn = 0 then turnTaken s arrival 0 else s)
        else modChn s (fun c => { c with arrival := if turn = chnPos s then some arrival else none })
      let s := upokSeen s (w.testBit 57)
      match bitsAt w 35 2 with
      | 0 => countPart s part arg
      | 1 => if part < 2 then epochPart s part arg else s
      | 2 => if part < 2 then calPart s part arg else s
      | _ => s

/-- The return turn of the device: CHAIN_RET is driven at W + 32 ns (R431, R432). -/
def returnTurn (s : State) : State :=
  if chnRole s = 2 ∧ s.chn.rxTurn = chnPos s ∧ !s.flag F.CHN_STATUS_POS_ERR ∧ s.beat % 16 = 8 then
    modChn s (fun c => { c with retPulse := s.now + 1 })
  else s

/-- A return edge is stamped and waits for the next frame (R432). -/
def returnStamp (s : State) (rpt : Int) : State :=
  if chnRole s ≠ 0 ∧ bitsAt s.chn.out.toNat 9 5 = chnPos s + 1 then
    modChn s (fun c => { c with report := if 0 ≤ rpt ∧ rpt < 2 ^ 20 then some rpt.toNat else none })
  else s

/-! ### Alignment (R433 to R438, R444) -/

/-- The turns of an average (R433, R454). -/
def averageTurns (s : State) : Nat := 2 ^ clampNat 4 12 (s.fld F.CHN_CFG_AVG)

/-- Twice the sum of the offsets of an average, in units of 2^−12 ns (R433, R444). -/
def averageOffset (s : State) : Int :=
  let c := s.chn
  if chnRole s = 3 then 2 * (c.sumA - c.turns * s.fld F.CHN_EXT_DELAY_DELAY)
  else c.sumR - c.sumA + 2 * c.turns * sext 13 (s.fld F.CHN_TRIM_TRIM)

/-- An average lies within `ps` picoseconds: `num` over `2 * turns`, in units of 2^−12 ns. -/
def withinPs (num : Int) (turns ps : Nat) : Bool := decide (num.natAbs * 1000 ≤ ps * 4096 * (2 * turns))

/-- An average offset in units of 0.1 ps. -/
def tenths (num : Int) (turns : Nat) : Int := roundDiv (num * 10000) (4096 * (2 * turns))

/-- In TRACK the grid slews by the offset, and the device is aligned within 2 ps (R434). -/
def chnTrack (s : State) (num : Int) (turns : Nat) : State :=
  let near := withinPs num turns 2
  let s := setChnState (modChn s (fun c => { c with slew := tenths num turns, near := near, leaving := false })) 3
  if near ∧ s.chn.rxUpok ∧ !s.flag F.CHN_STATUS_POS_ERR then s.setFlag F.CHN_STATUS_ALIGNED true else s

/-- The average in progress is complete (R433, R434, R438, R444). -/
def chainAverage (s : State) : State :=
  let c := s.chn
  if !chnFollows s ∨ c.turns = 0 ∨ c.turns < averageTurns s then s
  else
    let num := averageOffset s
    let sub := chnRole s = 3
    let f := if sub then (s.fld F.CHN_EXT_DELAY_DELAY : Int) else roundDiv (c.sumA + c.sumR) (2 * c.turns)
    let long := !sub ∧ (393216 * c.turns : Int) < c.sumA + c.sumR
    let s := (s.wr .CHN_LINK (BitVec.ofNat 32 (pat 20 f))).wr .CHN_OFFSET (BitVec.ofInt 32 (roundDiv num (2 * c.turns)))
    let s := modChn s (fun c => { c with sumA := 0, sumR := 0, turns := 0 })
    if long then chnFlagFault s F.CHN_STATUS_LINK_LONG
    else match chnState s with
      | 2 => if c.stepped then s else modChn s (fun c' => { c' with grid := c'.grid - tenths num c.turns, stepped := true, rxCount := none })
      | 3 => if withinPs num c.turns 1000 then chnTrack s num c.turns else chnUnaligned s
      | 4 =>
        if !c.leaving then s
        else if withinPs num c.turns 1000 then chnTrack s num c.turns
        else if wheelsStopped s then chnAcquire s else chnUnaligned s
      | _ => s

/-- The grid slews by at most 0.1 ps in a beat (R434). -/
def chainSlew (s : State) : State :=
  if s.chn.slew = 0 then s
  else
    let d : Int := if 0 < s.chn.slew then 1 else -1
    modChn s (fun c => { c with slew := c.slew - d, grid := c.grid - d })

/-! ### EPOCH (R440 to R443) -/

/-- CHN_CTRL.EPOCH (R440). -/
def epochAsk (s : State) : State :=
  let e := s.pair .CHN_EPOCH_LO .CHN_EPOCH_HI
  if e % 2 ^ 24 ≠ 0 ∨ e < s.beat + 2048 ∨ chnFollows s ∨ s.chn.epoch.isSome then s.setFlag F.CHN_STATUS_EPOCH_REFUSED true
  else (modChn s (fun c => { c with epoch := some e, txAlt := 0 })).setFlag F.CHN_STATUS_EPOCH_PEND true

/-- A held beat number that lies at or after E keeps its instant (R442). -/
def epochPair (s : State) (e : Nat) (lo hi : Reg) (i : Nat := 0) : State :=
  let v := s.pair lo hi i
  if e ≤ v then s.setPair lo hi (v - e) i else s

/-- The boundary of beat E (R442, R443). -/
def epochApply (s : State) : State :=
  match s.chn.epoch with
  | none => s
  | some e =>
    if s.beat ≠ e then s
    else
      let s := s.journal JType.EPOCH 16 0 e
      let s := s.event EvCode.EPOCH 16 0 (e / 2 ^ 24)
      let s := (modChn s (fun c => { c with epoch := none, epochLow := none, epochHigh := none })).setFlag F.CHN_STATUS_EPOCH_PEND false
      let s := { s with beat := 0 }
      let s := s.setPair .CHN_LAST_EPOCH_LO .CHN_LAST_EPOCH_HI e
      let s := eachSlice s (fun s n =>
        epochPair (epochPair (rxEpoch (synthEpoch s n) n e) e .SEQ_START_LO .SEQ_START_HI n) e .SLC_WHEEL_START_LO .SLC_WHEEL_START_HI n)
      let s := if s.boot.runSlices = 0 then s else epochPair s e .BOOT_RUN_AT_LO .BOOT_RUN_AT_HI
      epochPair (epochPair s e .GLB_IMG_REJOIN_LO .GLB_IMG_REJOIN_HI) e .GLB_IMG_DRAIN_LO .GLB_IMG_DRAIN_HI

/-! ### The trigger bus (R445 to R452) -/

/-- Change the trigger bus. -/
def modTrg (s : State) (f : TriggerBus → TriggerBus) : State := { s with trg := f s.trg }

/-- What the device drives on line `l` from TRG_DRIVE (R446): nothing on a line it does not drive. -/
def driveLine (s : State) (l : Nat) : State :=
  let en := !chnFollows s && s.flag F.TRG_LINE_EN l
  let src := s.fld F.TRG_LINE_SRC l
  let v := if !en ∨ 2 ≤ src then false
    else if src = 0 then (s.fld F.TRG_DRIVE_LEVEL).testBit l else s.trg.driven.getLsbD l
  modTrg s (fun t => { t with driven := BitVec.ofNat 8 (putBit t.driven.toNat l v) })

/-- The lines as the registers and the role have them. -/
def driveLines (s : State) : State := (List.range 8).foldl driveLine s

/-- A write of TRG_DRIVE (R446). -/
def trgDriveWrite (s : State) (levels : Nat) : State :=
  if chnFollows s then s.setFlag F.TRG_STATUS_DRIVE_IGN true
  else driveLines (s.setFld F.TRG_DRIVE_LEVEL levels)

/-- A transition of a TIN input is forwarded to every line that takes it (R446). -/
def tinForward (s : State) (t : Nat) (level : Bool) : State :=
  if chnFollows s then s
  else (List.range 8).foldl (fun s l =>
    if s.flag F.TRG_LINE_EN l ∧ s.fld F.TRG_LINE_SRC l = 1 ∧ s.fld F.TRG_LINE_TIN l = t then
      modTrg s (fun x => { x with driven := BitVec.ofNat 8 (putBit x.driven.toNat l level) })
    else s) s

/-- The boundary from which a transition counts: the first k with b ≤ 4k ns (R448). -/
def TrgTransition.boundary (x : TrgTransition) : Int := -(-x.b / 4000)

/-- A transition lies within 1 ns of a beat boundary (R449). -/
def inMargin (b : Int) : Bool := let m := b % 4000; decide (m < 1000) || decide (3000 < m)

/-- A transition of line `l` is stamped (R448). -/
def trgTransition (s : State) (l : Nat) (level : Bool) (ps : Nat) : State :=
  if !s.flag F.TRG_LINE_EN l ∨ s.rpl.replaying then s
  else
    let stamp : Int := 4000 * (s.now : Int) + ps
    let last := s.trg.stamps.find? (fun x => x.1 = l)
    let s := modTrg s (fun t => { t with stamps := (l, stamp) :: t.stamps.filter (fun x => x.1 ≠ l) })
    let near := match last with
      | some x => decide (stamp - x.2 < 2000)
      | none => false
    if near then
      let s := modTrg s (fun t => { t with pending := t.pending.filter (fun x => ¬(x.line = l ∧ stamp - x.stamp < 2000)) })
      (s.count .TRG_GLITCHES).setFlag F.TRG_STATUS_GLITCH true
    else
      let b := stamp - s.fld F.TRG_POS_PS l
      modTrg s (fun t => { t with pending := t.pending ++ [{ line := l, stamp := stamp, b := b, level := level }] })

/-- At a boundary: the transitions that since the last one have stood for 2 ns are kept, and those in the margin band count (R448,
R449). -/
def trgMargins (s : State) : State :=
  let now : Int := 4000 * (s.now : Int)
  let kept := s.trg.pending.filter (fun x => decide (x.stamp + 2000 ≤ now) && decide (now - 4000 < x.stamp + 2000) && inMargin x.b)
  if kept.isEmpty then s else (s.countBy .TRG_MARGINS kept.length).setFlag F.TRG_STATUS_MARGIN true

/-- Line `l` at a boundary given the level before: the level after its last kept transition up to there (R448). -/
def lineLevelAt (s : State) (l : Nat) (k : Int) : Bool :=
  s.trg.pending.foldl (fun v x => if x.line = l ∧ x.boundary ≤ k then x.level else v) (s.trg.level.getLsbD l)

/-- TRG_STATUS.LEVEL (R456). -/
def trgLevels (s : State) : Nat := ((List.range 8).map (fun l => bit01 (lineLevelAt s l s.now) * 2 ^ l)).sum

/-- The line may act on this device (R450, R452). -/
def trgActs (s : State) (l : Nat) : Bool :=
  s.flag F.TRG_LINE_EN l && decide (s.fld F.TRG_POS_PS l ≤ 40000) && !s.flag F.TRG_POS_CAL_ERR l && !s.flag F.TRG_STATUS_CAL_BUSY &&
    !s.rpl.replaying

/-- An edge of line `l` takes effect in the present beat (R448, R451). -/
def trgEdge (s : State) (l : Nat) (rising : Bool) : State :=
  let s := modTrg s (fun t => if rising then { t with lastRise := t.lastRise.to l (s.now + 1) }
    else { t with lastFall := t.lastFall.to l (s.now + 1) })
  (s.count .TRG_EDGES l).journal JType.TRIGGER 16 l (bit01 rising)

/-- The level of line `l` that takes effect in the present beat: the one of 16 beats ago (R448, R450 to R452). -/
def trgEffect (s : State) (l : Nat) : State :=
  let k : Int := (s.now : Int) - 16
  let v := lineLevelAt s l k
  let old := s.trg.level.getLsbD l
  let s := modTrg s (fun t => { t with level := BitVec.ofNat 8 (putBit t.level.toNat l v)
                                       pending := t.pending.filter (fun x => ¬(x.line = l ∧ x.boundary ≤ k)) })
  if v = old ∨ !trgActs s l then s else trgEdge s l v

/-- TRG_CTRL.CAL (R452): S is the first multiple of 16 that is at least 2,048 beats away. -/
def trgCal (s : State) : State :=
  if chnFollows s ∨ s.chn.calAt.isSome ∨ s.flag F.TRG_STATUS_CAL_BUSY then s.setFlag F.TRG_STATUS_CAL_REFUSED true
  else calHold (modChn s (fun c => { c with txAlt := 0 })) (16 * ceilDiv (s.beat + 2048) 16)

/-- During a calibration the driving device drives line l in its 4,096 beats, high from W + 2 ns to W + 34 ns of each wheel boundary W (R452);
then the line returns to what its registers say. -/
def trgCalDrive (s : State) : State :=
  match s.chn.calAt with
  | none => s
  | some t =>
    if chnFollows s ∨ !s.flag F.TRG_STATUS_CAL_BUSY then s
    else
      let l := (s.now - t) / 4096
      let s := if 0 < l ∧ l ≤ 8 ∧ (s.now - t) % 4096 = 0 then driveLine s (l - 1) else s
      if l < 8 then modTrg s (fun x => { x with driven := BitVec.ofNat 8 (putBit x.driven.toNat l (decide ((s.now - t) % 16 < 8))) })
      else s

/-- The calibration beat S (R452). -/
def trgCalStart (s : State) : State :=
  match s.chn.calAt with
  | none => s
  | some t =>
    if s.now < t ∨ s.flag F.TRG_STATUS_CAL_BUSY then s
    else
      let s := s.setFlag F.TRG_STATUS_CAL_BUSY true
      let s := trgCalDrive s
      if chnAligned s then modChn s (fun c => { c with calibrating := true })
      else (modChn s (fun c => { c with calibrating := false })).setFlag F.TRG_STATUS_CAL_REFUSED true

/-- The position of line `l` from the sum of its 256 readings (R452). A mean that the field does not hold leaves an open value
there. -/
def calPosition (s : State) (l : Nat) (sum : Int) : State :=
  let m := if chnFollows s then roundDiv sum 256 else 0
  let ok := decide (0 ≤ m ∧ m ≤ 40000)
  let v := if 0 ≤ m ∧ m < 65536 then m.toNat else Config.openValue 1 (8 * s.now + l)
  ((s.setFld F.TRG_POS_PS v l).setFlag F.TRG_POS_CAL_OK ok l).setFlag F.TRG_POS_CAL_ERR (!ok) l

/-- The end of the calibration at S + 32,768 (R452): each line's level is taken as it stands, without an edge. -/
def trgCalEnd (s : State) (sums : List Int) : State :=
  match s.chn.calAt with
  | none => s
  | some t =>
    if s.now < t + 32768 ∨ !s.flag F.TRG_STATUS_CAL_BUSY then s
    else
      let levels := trgLevels s
      let s := modTrg s (fun x => { x with level := BitVec.ofNat 8 levels
                                           pending := x.pending.filter (fun y => ¬(y.boundary ≤ (s.now : Int))) })
      let s := if s.chn.calibrating then
          ((List.range 8).foldl (fun s l => calPosition s l (sums.getD l 0)) s).setFlag F.TRG_STATUS_CAL_DONE true
        else s
      driveLines ((modChn s (fun c => { c with calAt := none, calibrating := false })).setFlag F.TRG_STATUS_CAL_BUSY false)

/-- A write of TRG_POS (R452). -/
def trgPosWrite (s : State) (l v : Nat) : State :=
  let ps := v % 65536
  ((s.setFld F.TRG_POS_PS ps l).setFlag F.TRG_POS_CAL_OK false l).setFlag F.TRG_POS_CAL_ERR (decide (40000 < ps)) l

/-! ### The commands -/

def execChainFrameTx (s : State) : Result := .next (chainTx s)
def execChainFrameRx (frame : BitVec 64) (arrival : Int) (s : State) : Result := .next (chainRx s frame arrival)
def execChainReturnTurn (s : State) : Result := .next (returnTurn s)
def execChainReturnStamp (rpt : Int) (s : State) : Result := .next (returnStamp s rpt)
def execChainAverage (s : State) : Result := .next (chainAverage s)
def execChainHoldover (clock : Bool) (s : State) : Result := .next (chnHoldover s clock)
def execChainRoleWrite (role : BitVec 2) (pos : BitVec 5) (s : State) : Result := .next (driveLines (chnRoleWrite s role.toNat pos.toNat))
def execRealign (s : State) : Result := .next (chnRealign s)
def execEpoch (s : State) : Result := .next (epochAsk s)
def execEpochApply (s : State) : Result := .next (epochApply s)
def execTrgDriveWrite (levels : BitVec 8) (s : State) : Result := .next (trgDriveWrite s levels.toNat)
def execTrgTinForward (t : Fin 16) (level : Bool) (s : State) : Result := .next (tinForward s t level)
def execTrgTransition (l : Fin 8) (level : Bool) (ps : Fin 4000) (s : State) : Result := .next (trgTransition s l level ps)
def execTrgEdgeEffect (l : Fin 8) (s : State) : Result := .next (trgEffect s l)
def execTrgCal (s : State) : Result := .next (trgCal s)
def execTrgCalStart (s : State) : Result := .next (trgCalStart s)
def execTrgCalEnd (sums : List Int) (s : State) : Result := .next (trgCalEnd s sums)
def execTrgPosWrite (l : Fin 8) (v : BitVec 32) (s : State) : Result := .next (trgPosWrite s l v.toNat)
def execClkInLock (s : State) : Result := .next (chnClkLock s)

end Sys2Proof.Machine
end

