-- ==== Sys2Proof/Machine/Fabric.lean ====
section
/-!
DEFINITION. The Keatu fabric: ports, flits, link notices, discovery, routing, barriers and the Solder procedure (Keatu Fabric:
Links, Discovery, Addressing and Routing, R457 to R499).
-/

namespace Sys2Proof

open Machine

/-- Distances from a set of nodes over given steps, breadth first: nodes with their distance. -/
def breadthFirst (steps : Nat → List Nat) : Nat → List Nat → List (Nat × Nat) → Nat → List (Nat × Nat)
  | 0, _, seen, _ => seen
  | fuel + 1, frontier, seen, k =>
    if frontier.isEmpty then seen
    else
      let seen' := seen ++ frontier.map (fun x => (x, k))
      let next := (frontier.flatMap steps).foldl (fun acc y =>
        if seen'.any (fun e => e.1 = y) ∨ y ∈ acc then acc else acc ++ [y]) []
      breadthFirst steps fuel next seen' (k + 1)

/-- The distance in a list of distances. -/
def distIn (l : List (Nat × Nat)) (x : Nat) : Option Nat := (l.find? (fun e => e.1 = x)).map Prod.snd

/-- The lowest port with the least value, 7 where none has one. -/
def bestPort (l : List (Nat × Option Nat)) : Nat :=
  ((l.foldl (fun (b : Option (Nat × Nat)) x => match x.2, b with
    | none, _ => b
    | some v, none => some (x.1, v)
    | some v, some (p, w) => if v < w ∨ (v = w ∧ x.1 < p) then some (x.1, v) else b) none).map Prod.fst).getD 7

/-- The ends of the links that leave a device: port and neighbour. -/
def Topology.edges (t : Topology) (d : Nat) : List (Nat × Nat) :=
  t.links.flatMap (fun l => (if l.devA = d then [(l.portA, l.devB)] else []) ++ (if l.devB = d then [(l.portB, l.devA)] else []))

/-- The topology without some ends of links. -/
def Topology.without (t : Topology) (ends : List (Nat × Nat)) : Topology :=
  { t with links := t.links.filter (fun l => !(decide ((l.devA, l.portA) ∈ ends) || decide ((l.devB, l.portB) ∈ ends))) }

/-- HOPS of a device. -/
def Topology.hopsOf (t : Topology) (d : Nat) : Nat := ((t.members.find? (fun m => m.id = d)).map TopoMember.hops).getD 0

/-- The step from `a` to `b` is up: `b` ranks lower (R479). -/
def Topology.up (t : Topology) (a b : Nat) : Bool :=
  let x := t.hopsOf a
  let y := t.hopsOf b
  decide (y < x) || (x == y && decide (b < a))

/-- Distances to `d` over links (R483). -/
def Topology.distances (t : Topology) (d : Nat) : List (Nat × Nat) :=
  breadthFirst (fun x => (t.edges x).map Prod.snd) (t.members.length + 1) [d] [] 0

/-- Distances to `d` over legal paths (R483): node `2 * x` is device x before any down link, `2 * x + 1` after one. The steps lead
backwards from `d`. -/
def Topology.legal (t : Topology) (d : Nat) : List (Nat × Nat) :=
  breadthFirst (fun y =>
    let dev := y / 2
    ((t.edges dev).map Prod.snd).flatMap (fun x =>
      if t.up x dev then (if y % 2 = 0 then [2 * x] else []) else (if y % 2 = 1 then [2 * x, 2 * x + 1] else [])))
    (2 * t.members.length + 2) [2 * d, 2 * d + 1] [] 0

/-- The port of a shortest legal path from `x` (R483): PPRI and PALT. -/
def Topology.payloadPort (t : Topology) (x d : Nat) : Nat :=
  let l := t.legal d
  bestPort ((t.edges x).map (fun e => (e.1, distIn l (if t.up x e.2 then 2 * e.2 else 2 * e.2 + 1))))

/-- The port of a shortest path of down links only (R483): PDN. -/
def Topology.downPort (t : Topology) (x d : Nat) : Nat :=
  let l := t.legal d
  bestPort (((t.edges x).filter (fun e => !t.up x e.2)).map (fun e => (e.1, distIn l (2 * e.2 + 1))))

/-- The ports and the distance from device `x` to device `d` (R483): VPRI, VALT, PPRI, PALT, PDN, DIST. -/
def Topology.route (t : Topology) (x d : Nat) : Nat × Nat × Nat × Nat × Nat × Option Nat :=
  if x = d then (4, 4, 4, 4, 4, some 0)
  else
    let l := t.distances d
    match distIn l x with
    | none => (7, 7, 7, 7, 7, none)
    | some k =>
      let vpri := bestPort (((t.edges x).filter (fun e => distIn l e.2 == some (k - 1))).map (fun e => (e.1, some 0)))
      let t1 := t.without [(x, vpri)]
      let l1 := t1.distances d
      let valt := bestPort (((t1.edges x).filter (fun e => e.1 ≠ vpri)).map (fun e => (e.1, distIn l1 e.2)))
      let ppri := t.payloadPort x d
      let palt := (t.without [(x, ppri)]).payloadPort x d
      (vpri, valt, ppri, palt, t.downPort x d, some k)

/-- The digest of a topology (R482). -/
def Topology.digest (t : Topology) : Nat :=
  let words := t.links.map (fun l =>
    if l.devA < l.devB ∨ (l.devA = l.devB ∧ l.portA ≤ l.portB) then l.devA + l.portA * 2 ^ 10 + l.devB * 2 ^ 12 + l.portB * 2 ^ 22
    else l.devB + l.portB * 2 ^ 10 + l.devA * 2 ^ 12 + l.portA * 2 ^ 22)
  crc32c (wordsToBytes (sortBy (fun a b => decide (a ≤ b)) words))

/-- The root of a topology. -/
def Topology.root (t : Topology) : Nat := ((t.members.find? (fun m => m.hops = 0)).map TopoMember.id).getD 0

/-- A report comes before another by HOPS and UID (R480). -/
def DiscReport.before (a b : DiscReport) : Bool := decide (a.hops < b.hops) || (a.hops == b.hops && decide (a.uid ≤ b.uid))

/-! ### Training blocks (R461) -/

/-- Bits [119:0] of a training block (R461). -/
def TrainBlock.bits (b : TrainBlock) : Nat :=
  0x4B54 + b.lane.toNat * 2 ^ 16 + b.port.toNat * 2 ^ 17 + b.uid.toNat * 2 ^ 19 + b.id.toNat * 2 ^ 83 + bit01 b.idValid * 2 ^ 93 +
    b.tstate.toNat * 2 ^ 94 + bit01 b.joining * 2 ^ 96

/-- One bit into the CRC-8 of x^8 + x^2 + x + 1 (R461). -/
def crc8Bit (c : Nat) (b : Bool) : Nat :=
  let c' := c * 2 % 256
  if c.testBit 7 != b then c' ^^^ 7 else c'

/-- CHECK of a training block (R461). -/
def TrainBlock.crc (b : TrainBlock) : Nat := ((List.range 120).map b.bits.testBit).foldl crc8Bit 0xFF

/-- CHECK holds. -/
def TrainBlock.checkOk (b : TrainBlock) : Bool := b.check.toNat == b.crc

/-! ### The codeword of a flit (R465, R466) -/

/-- The header of a flit. -/
def KtlFlit.header (f : KtlFlit) : Nat :=
  let (pvc, sop, eop, plen) : Nat × Bool × Bool × Nat := match f.payload with
    | .none_ => (0, false, false, 0)
    | .part bulk sop eop bytes => (if bulk then 3 else 1, sop, eop, (bytes.length + 15) / 16)
    | .maint _ => (2, true, true, 10)
  pvc + bit01 sop * 2 ^ 2 + bit01 eop * 2 ^ 3 + plen % 16 * 2 ^ 4 + f.seq.toNat * 2 ^ 8 + f.ack.toNat * 2 ^ 20 + bit01 f.nak * 2 ^ 32 +
    f.crvc.toNat * 2 ^ 33 + f.credits.toNat * 2 ^ 35 + bit01 f.slot0.isSome * 2 ^ 41 + bit01 f.slot1.isSome * 2 ^ 42 + f.srcDev.toNat * 2 ^ 43 +
    bit01 f.srcValid * 2 ^ 53 + f.srcPort.toNat * 2 ^ 54

/-- The payload of a flit as bytes. The spec gives no layout of a maintenance packet: its bytes are open. -/
def KtlFlit.bytes (f : KtlFlit) : List Byte :=
  match f.payload with
  | .none_ => []
  | .part _ _ _ bytes => bytes
  | .maint _ => toBytes 160 (Config.openValue 44 f.seq.toNat)

/-- The 150 data symbols of a flit. -/
def KtlFlit.symbols (f : KtlFlit) : List Nat :=
  let v := f.header + (f.slot0.getD 0).toNat * 2 ^ 92 + (f.slot1.getD 0).toNat * 2 ^ 156 + ofBytes f.bytes % 2 ^ 1280 * 2 ^ 220
  (List.range 150).map (fun i => bitsAt v (10 * i) 10)

/-- A product in GF(2^10) with x^10 + x^3 + 1. -/
def gfMul (a b : Nat) : Nat :=
  (List.range 10).foldl (fun acc i =>
    let d := 2 * acc
    let d := if d < 1024 then d else d ^^^ 1033
    if b.testBit (9 - i) then d ^^^ a else d) 0

/-- The generator polynomial with the roots α^0 to α^9 without its leading 1, highest power first. -/
def rsGenerator : List Nat :=
  let step (g : List Nat) (r : Nat) : List Nat := List.zipWith (· ^^^ ·) (g ++ [0]) (0 :: g.map (gfMul r))
  (((List.range 10).foldl (fun (x : List Nat × Nat) _ => (step x.1 x.2, gfMul x.2 2)) ([1], 1)).1).drop 1

/-- The 10 parity symbols of a list of data symbols, the first symbol being the highest power. -/
def rsParity (data : List Nat) : List Nat :=
  data.foldl (fun (r : List Nat) d =>
    let k := d ^^^ r.headD 0
    List.zipWith (· ^^^ ·) (r.drop 1 ++ [0]) (rsGenerator.map (gfMul k))) (List.replicate 10 0)

/-- The 160 symbols of a flit as they go out: the even ones on lane 0, the odd ones on lane 1. -/
def KtlFlit.codeword (f : KtlFlit) : List Nat := f.symbols ++ rsParity f.symbols

/-- A request that gets a completion. -/
def KtlPacket.request (k : KtlPacket) : Bool := decide (k.kind.toNat ≤ 3)

/-- The completion of a request with a status (R475, R491, R492). -/
def KtlPacket.completion (k : KtlPacket) (own : Nat) (status : Nat) (data : List Byte) : KtlPacket :=
  { k with bulk := k.bulk && decide (data.length > 128), dest := k.src, src := BitVec.ofNat 10 own, kind := 4, ttl := 63, down := false,
           len := BitVec.ofNat 11 data.length, status := BitVec.ofNat 5 status, data := data }

end Sys2Proof

namespace Sys2Proof.Machine

/-- Change the router. -/
def modKtl (s : State) (f : Fabric → Fabric) : State := { s with ktl := f s.ktl }

def setKtlState (s : State) (p v : Nat) : State := s.setFld F.KTL_PORT_STATUS_STATE v p

/-- KTL_STATUS.STATE: 0 ISOLATED, 1 DISCOVERING, 2 JOINING, 3 MEMBER (R498). -/
def ktlMember (s : State) : Nat := s.fld F.KTL_STATUS_STATE

/-- The device's UID. -/
def ownUid (s : State) : Nat := s.pair .KTL_UID_LO .KTL_UID_HI

/-- The ID that the device asks for (R480). -/
def requestedId (s : State) : Option Nat := if s.flag F.KTL_CFG_REQ_VALID then some (s.fld F.KTL_CFG_REQ_ID) else none

/-- The ports that carry traffic other than maintenance. -/
def carryingPorts (s : State) : List Nat := (List.range 4).filter s.ktlCarries

/-- A maintenance packet waits at a port that is UP (R474). -/
def maintSend (s : State) (p : Nat) (m : MaintMsg) : State :=
  if s.ktlUp p then s.modPort p (fun x => { x with maint := x.maint ++ [.maint m] }) else s

/-- A maintenance packet waits at every UP port but one. -/
def maintFlood (s : State) (but : Option Nat) (m : MaintMsg) : State :=
  (List.range 4).foldl (fun s p => if but = some p then s else maintSend s p m) s

/-! ### Link notices (R473) -/

/-- A link notice. -/
def noticeWord (dev port : Nat) (up : Bool) (seq : Nat) : DWord :=
  BitVec.ofNat 64 (dev % 2 ^ 10 + port % 4 * 2 ^ 10 + bit01 up * 2 ^ 12 + seq % 2 ^ 8 * 2 ^ 13 + 2 ^ 63)

/-- KTL_LINKS_DOWN: the links of the topology that are marked down at one of their ends (R473). -/
def linksDown (t : Topology) (down : List (Nat × Nat)) : Nat :=
  (t.links.filter (fun l => decide ((l.devA, l.portA) ∈ down) || decide ((l.devB, l.portB) ∈ down))).length

/-- A link's end is marked, and the count follows. -/
def markLink (s : State) (dev port : Nat) (up : Bool) : State :=
  let d := s.ktl.down.filter (· ≠ (dev, port))
  let s := modKtl s (fun k => { k with down := if up then d else d ++ [(dev, port)] })
  s.setFld F.KTL_LINKS_DOWN_COUNT (min (linksDown s.ktl.topo s.ktl.down) 2047)

/-- The device's own notice for port `p` leaves on each UP port (R473). -/
def noticeSend (s : State) (p : Nat) (up : Bool) : State :=
  let s := markLink s s.ownId p up
  let seq := (s.ktl.noticeSeq + 1) % 256
  let w := noticeWord s.ownId p up seq
  s.expressEach (carryingPorts s) w |> fun s => modKtl s (fun k => { k with noticeSeq := seq, noticeSeen := k.noticeSeen.to s.ownId (seq + 1) })

/-- A notice arrives on port `p`: a newer one marks the link and is relayed (R473). -/
def noticeTake (s : State) (p : Nat) (word : DWord) : State :=
  let w := word.toNat
  let dev := bitsAt w 0 10
  let seq := bitsAt w 13 8
  let last := s.ktl.noticeSeen.at dev
  let step := (seq + 256 - (last - 1)) % 256
  if last = 0 ∨ (1 ≤ step ∧ step < 128) then
    let s := modKtl s (fun k => { k with noticeSeen := k.noticeSeen.to dev (seq + 1) })
    let s := markLink s dev (bitsAt w 10 2) (w.testBit 12)
    s.expressEach ((carryingPorts s).filter (· ≠ p)) word
  else s

/-! ### Ports (R459 to R464) -/

/-- The port may train: enabled, its domain ON, not held out of service (R459, R641). -/
def ktlMayTrain (s : State) (p : Nat) : Bool :=
  s.flag F.KTL_PORT_CFG_EN p && s.domState (35 + p) == 0 && !s.portHeldOut (2 + p)

/-- The port starts training. -/
def ktlTrain (s : State) (p : Nat) : State :=
  let s := s.modPort p (fun x => { x with lane0 := none, lane1 := none, since := s.now })
  let s := (s.setFlag F.KTL_PORT_STATUS_POL0 false p).setFlag F.KTL_PORT_STATUS_POL1 false p
  let s := (s.setFlag F.KTL_PORT_STATUS_LANE_SWAP false p).setFlag F.KTL_PORT_STATUS_LANE_ERR false p
  setKtlState (s.setFlag F.KTL_PORT_STATUS_LOOPBACK false p) p 1

/-- A port that is OFF and may train starts (R459). -/
def ktlEnable (s : State) (p : Nat) : State := if s.ktlState p = 0 ∧ ktlMayTrain s p then ktlTrain s p else s

/-- BLOCKED (R462, R463). -/
def ktlBlock (s : State) (p : Nat) (f : Field) : State :=
  setKtlState ((s.modPort p (fun x => { x with since := s.now })).setFlag f true p) p 4

/-- The training block that lane `lane` of a port repeats while it trains (R461). It says LOCKED once both lanes hold lock, and READY
once the other end holds lock too. -/
def trainBlockOut (s : State) (p : Fin 4) (lane : Fin 2) : TrainBlock :=
  let x := s.port p
  let tstate : BitVec 2 := match x.lane0, x.lane1 with
    | some a, some b => if 1 ≤ a.tstate.toNat ∧ 1 ≤ b.tstate.toNat then 2 else 1
    | _, _ => 0
  let b : TrainBlock :=
    { lane := BitVec.ofNat 1 lane.val, port := BitVec.ofNat 2 p.val, uid := BitVec.ofNat 64 (ownUid s), id := BitVec.ofNat 10 s.ownId,
      idValid := s.flag F.KTL_ID_VALID, tstate := tstate, joining := s.fld F.KTL_STATUS_STATE == 2, inverted := false, check := 0 }
  { b with check := BitVec.ofNat 8 b.crc }

/-- A training block arrives on physical lane `lane` (R461, R462). -/
def trainBlock (s : State) (p : Fin 4) (lane : Fin 2) (b : TrainBlock) : State :=
  if s.ktlState p ≠ 1 ∨ !b.checkOk then s
  else if b.uid.toNat = ownUid s then ktlBlock s p F.KTL_PORT_STATUS_LOOPBACK
  else
    let s := s.setFlag (if lane = 0 then F.KTL_PORT_STATUS_POL0 else F.KTL_PORT_STATUS_POL1) b.inverted p
    let s := s.modPort p (fun x => if lane = 0 then { x with lane0 := some b } else { x with lane1 := some b })
    match (s.port p).lane0, (s.port p).lane1 with
    | some x, some y =>
      if x.lane = y.lane ∨ x.port ≠ y.port ∨ x.uid ≠ y.uid then ktlBlock s p F.KTL_PORT_STATUS_LANE_ERR
      else s.setFlag F.KTL_PORT_STATUS_LANE_SWAP (x.lane == 1) p
    | _, _ => s

/-- The neighbour of a port (R462, R466). -/
def setNeighbour (s : State) (p id port : Nat) (valid : Bool) : State :=
  ((((s.setFld F.KTL_PORT_NBR_ID id p).setFld F.KTL_PORT_NBR_PORT port p).setFlag F.KTL_PORT_NBR_ID_VALID valid p)).setFlag
    F.KTL_PORT_NBR_VALID true p

/-- JOIN is sent once a port is UP and the device is aligned (R493). -/
def joinSend (s : State) : State :=
  match (List.range 4).find? s.ktlUp with
  | some p =>
    if s.ktl.joinWanted ∧ chnAligned s then
      modKtl (maintSend s p (.join (ownUid s) (requestedId s))) (fun k => { k with joinWanted := false })
    else s
  | none => s

/-- The port enters UP after both ends have sent READY for 1 µs, and has measured its flight (R460, R462, R477, R493). -/
def portUp (s : State) (p : Fin 4) (flight : Nat) : State :=
  match (s.port p).lane0, (s.port p).lane1 with
  | some x, some y =>
    if s.ktlState p = 1 ∧ ktlMayTrain s p ∧ x.tstate = 2 ∧ y.tstate = 2 then
      let s := s.modPort p (fun q => { KtlPort.initial with lane0 := q.lane0, lane1 := q.lane1, since := s.now, upSince := s.now })
      let s := setNeighbour (setKtlState s p 2) p x.id.toNat x.port.toNat x.idValid
      let s := s.setFld F.KTL_PORT_FLIGHT_PS flight p
      let long := decide (5000 < flight)
      let s := s.setFlag F.KTL_PORT_STATUS_FLIGHT_LONG long p
      let s := if long then s.raise Src.KTL_FLIGHT (Scope.fabricPort p) p else s
      let only := !chnAligned s || ktlMember s == 2 || x.joining
      let s := s.setFlag F.KTL_PORT_STATUS_MAINT_ONLY only p
      let s := s.event EvCode.PORT 16 (4 + p.val) 2
      joinSend (if only then s else noticeSend s p true)
    else s
  | _, _ => s

/-- The condition of a DOWN_CAUSE holds, where the device itself sees it (R464). -/
def downCause (s : State) (p : Fin 4) (cause : Nat) : Bool :=
  match cause with
  | 1 => true
  | 2 => decide (16 ≤ (s.port p).badInRow)
  | 3 => decide (8 ≤ (s.port p).replaysInRow)
  | 4 => !s.flag F.KTL_PORT_CFG_EN p
  | 5 => s.domState (35 + p) != 0
  | _ => false

/-- The port leaves UP (R464): its queues are discarded, other ports get a notice. -/
def portLeavesUp (s : State) (p : Fin 4) (cause : Nat) : State :=
  let lost := (s.port p).express.length
  let s := s.modPort p (fun x => { KtlPort.initial with since := s.now, lane0 := x.lane0, lane1 := x.lane1 })
  let s := s.countBy .VRD_EXP_DROP lost
  let s := if lost = 0 then s else s.setFlag F.VRD_STATUS_EXP_DROP true
  let s := (setKtlState s p 3).setFld F.KTL_PORT_STATUS_DOWN_CAUSE cause p
  let s := (s.setFlag F.KTL_PORT_STATUS_DOWN_EVT true p).count .KTL_PORT_DOWNS p
  let s := s.setFld F.KTL_PORT_FLIGHT_PS 0 p
  let s := s.event EvCode.PORT 16 (4 + p.val) (if cause = 4 ∨ cause = 5 then 0 else 3)
  noticeSend (s.raise Src.KTL_LINK (Scope.fabricPort p) p) p false

/-- KTL_PORT_DOWN (R459, R464). -/
def portDown (s : State) (p : Fin 4) (cause : Nat) : State :=
  if !downCause s p cause then s
  else
    let s := if s.ktlUp p then portLeavesUp s p cause else s
    if (cause = 4 ∨ cause = 5) then setKtlState s p 0 else s

/-- A DOWN port retrains every 1 ms, a BLOCKED port every 100 ms (R463). -/
def portRetrain (s : State) (p : Fin 4) : State :=
  let waited := s.now - (s.port p).since
  if ktlMayTrain s p ∧ ((s.ktlState p = 3 ∧ 250000 ≤ waited) ∨ (s.ktlState p = 4 ∧ 25000000 ≤ waited)) then ktlTrain s p else s

/-! ### Packets as bytes (R475) -/

/-- The 16-byte header and the data of a packet, in whole 16-byte units. -/
def packetBytes (k : KtlPacket) : List Byte :=
  let h := k.dest.toNat + k.src.toNat * 2 ^ 10 + k.kind.toNat * 2 ^ 20 + k.ttl.toNat * 2 ^ 24 + bit01 k.down * 2 ^ 32 + k.tag.toNat * 2 ^ 48 +
    k.addr.toNat * 2 ^ 64 + k.len.toNat * 2 ^ 104 + k.status.toNat * 2 ^ 115
  toBytes 16 h ++ k.data ++ List.replicate ((16 - k.data.length % 16) % 16) 0

/-- A packet whose payload is complete. -/
def packetOf (bulk : Bool) (l : List Byte) : KtlPacket :=
  let h := ofBytes (l.take 16)
  let len := bitsAt h 104 11
  { bulk := bulk, dest := BitVec.ofNat 10 h, src := BitVec.ofNat 10 (h / 2 ^ 10), kind := BitVec.ofNat 4 (h / 2 ^ 20),
    ttl := BitVec.ofNat 8 (h / 2 ^ 24), down := h.testBit 32, tag := BitVec.ofNat 16 (h / 2 ^ 48), addr := BitVec.ofNat 40 (h / 2 ^ 64),
    len := BitVec.ofNat 11 len, status := BitVec.ofNat 5 (h / 2 ^ 115), data := (l.drop 16).take len }

/-- The flits of a packet from byte `i` on, 160 bytes each. -/
def packetFlitsGo (bulk : Bool) : Nat → Bool → List Byte → List KtlPayload
  | 0, _, _ => []
  | fuel + 1, first, l =>
    let last := decide (l.length ≤ 160)
    .part bulk first last (l.take 160) :: (if last then [] else packetFlitsGo bulk fuel false (l.drop 160))

/-- The flits of a packet. -/
def packetFlits (k : KtlPacket) : List KtlPayload := packetFlitsGo k.bulk 8 true (packetBytes k)

/-- A packet waits at a port. -/
def packetQueue (s : State) (p : Nat) (k : KtlPacket) : State :=
  s.modPort p (fun x => if k.bulk then { x with bulk := x.bulk ++ packetFlits k } else { x with control := x.control ++ packetFlits k })

/-! ### Flits (R465 to R472) -/

/-- The payload that port `p` sends next, with the port after it has left its queue (R469, R470). A port with MAINT_ONLY sends
only maintenance. -/
def choosePayload (x : KtlPort) (maintOnly : Bool) : KtlPayload × KtlPort :=
  let bulkReady := !maintOnly && !x.bulk.isEmpty && decide (0 < x.creditBulk)
  let takeBulk : KtlPayload × KtlPort :=
    (x.bulk.headD .none_, { x with bulk := x.bulk.drop 1, creditBulk := x.creditBulk - 1, sinceBulk := 0 })
  let wait (y : KtlPort) : KtlPort := { y with sinceBulk := if bulkReady then x.sinceBulk + 1 else 0 }
  if bulkReady ∧ 3 ≤ x.sinceBulk then takeBulk
  else if !maintOnly ∧ !x.control.isEmpty ∧ 0 < x.creditControl then
    (x.control.headD .none_, wait { x with control := x.control.drop 1, creditControl := x.creditControl - 1 })
  else if !x.maint.isEmpty ∧ 0 < x.creditMaint then
    (x.maint.headD .none_, wait { x with maint := x.maint.drop 1, creditMaint := x.creditMaint - 1 })
  else if bulkReady then takeBulk
  else (.none_, x)

/-- The payload of the next flit with its SEQ: a replay first, then new payload (R466, R468). -/
def nextPayload (x : KtlPort) (maintOnly : Bool) : KtlPayload × Nat × KtlPort :=
  if 0 < x.resend ∧ x.resend ≤ x.kept.length then
    let e := x.kept.getD (x.kept.length - x.resend) (x.txSeq, .none_)
    (e.2, e.1, { x with resend := x.resend - 1 })
  else
    let (pl, y) := choosePayload x maintOnly
    if pl = .none_ then (pl, x.txSeq, y)
    else
      let seq := (x.txSeq + 1) % 4096
      let kept := x.kept ++ [(seq, pl)]
      (pl, seq, { y with txSeq := seq, kept := kept.drop (kept.length - 64) })

/-- The channel whose freed buffer flits a flit returns, their number, and the port after it (R469). -/
def nextCredits (x : KtlPort) : Nat × Nat × KtlPort :=
  if 0 < x.freedControl then (1, min x.freedControl 63, { x with freedControl := x.freedControl - min x.freedControl 63 })
  else if 0 < x.freedMaint then (2, min x.freedMaint 63, { x with freedMaint := x.freedMaint - min x.freedMaint 63 })
  else if 0 < x.freedBulk then (3, min x.freedBulk 63, { x with freedBulk := x.freedBulk - min x.freedBulk 63 })
  else (0, 0, x)

/-- An UP port sends a flit (R467 to R472). -/
def flitTx (s : State) (p : Fin 4) : State :=
  if !s.ktlUp p then s
  else
    let x := s.port p
    let only := s.flag F.KTL_PORT_STATUS_MAINT_ONLY p
    let (pl, seq, x) := nextPayload x only
    let (ch, n, x) := nextCredits x
    let flit : KtlFlit :=
      { payload := pl, seq := BitVec.ofNat 12 seq, ack := BitVec.ofNat 12 x.rxSeq, nak := x.nak, crvc := BitVec.ofNat 2 ch,
        credits := BitVec.ofNat 6 n, slot0 := if only then none else x.express[0]?, slot1 := if only then none else x.express[1]?,
        srcDev := BitVec.ofNat 10 s.ownId, srcValid := s.flag F.KTL_ID_VALID, srcPort := BitVec.ofNat 2 p.val }
    s.modPort p (fun _ => { x with sent := some flit, nak := false, express := if only then x.express else x.express.drop 2 })

/-- An uncorrectable flit is discarded; its payload is asked for again (R468). -/
def flitBad (s : State) (p : Fin 4) : State :=
  (s.modPort p (fun x => { x with nak := true, badInRow := x.badInRow + 1 })).count .KTL_FEC_UNCORR p

/-- ACK and NAK of a flit (R468): acknowledged flits go, a NAK resends from ACK + 1. -/
def flitAck (s : State) (p : Fin 4) (ack : Nat) (nak : Bool) : State :=
  let kept := (s.port p).kept
  let left := kept.filter (fun e => let d := (e.1 + 4096 - ack) % 4096; decide (1 ≤ d) && decide (d < 2048))
  let s := s.modPort p (fun x => { x with kept := left, resend := min x.resend left.length,
                                          replaysInRow := if left.length < kept.length then 0 else x.replaysInRow })
  if nak ∧ !left.isEmpty then
    (s.modPort p (fun x => { x with resend := left.length, replaysInRow := x.replaysInRow + 1 })).count .KTL_REPLAYS p
  else s

/-- Credits that a flit returns (R469). -/
def flitCredits (s : State) (p : Fin 4) (ch n : Nat) : State :=
  s.modPort p (fun x => match ch with
    | 1 => { x with creditControl := min (x.creditControl + n) 32 }
    | 2 => { x with creditMaint := min (x.creditMaint + n) 16 }
    | 3 => { x with creditBulk := min (x.creditBulk + n) 64 }
    | _ => x)

/-- A payload that was received in order enters its channel's reassembly (R469, R470). -/
def payloadTake (s : State) (p : Fin 4) (pl : KtlPayload) : State :=
  match pl with
  | .none_ => s
  | .maint m =>
    modKtl (s.modPort p (fun x => { x with freedMaint := x.freedMaint + 1 })) (fun k => { k with inMaint := k.inMaint ++ [(p.val, m)] })
  | .part bulk sop eop bytes =>
    let x := s.port p
    let got := (if sop then [] else if bulk then x.rxBulk else x.rxControl) ++ bytes
    let s := s.modPort p (fun x =>
      if bulk then { x with rxBulk := if eop then [] else got, freedBulk := x.freedBulk + 1 }
      else { x with rxControl := if eop then [] else got, freedControl := x.freedControl + 1 })
    if eop then modKtl s (fun k => { k with inPackets := k.inPackets ++ [(p.val, packetOf bulk got)] }) else s

/-- An express word is extracted: a verdict message for another device goes on, a reserved type is discarded, every other word
waits for the unit that it concerns (R471, R472). -/
def expressTake (s : State) (p : Fin 4) (w : DWord) : State :=
  let t := bitsAt w.toNat 62 2
  let dest := bitsAt w.toNat 20 10
  if t = 3 then s
  else if t = 0 ∧ dest ≠ s.ownId then s.expressTo dest w
  else modKtl s (fun k => { k with inWords := k.inWords ++ [(p.val, w)] })

/-- The payload is longer than a flit carries: PLEN 11 to 15 (R466). -/
def payloadTooLong : KtlPayload → Bool
  | .part _ _ _ bytes => decide (160 < bytes.length)
  | _ => false

/-- A flit arrives with some symbols in error (R465 to R472). -/
def flitRx (s : State) (p : Fin 4) (f : KtlFlit) (symbolErrors : Nat) : State :=
  if !s.ktlUp p then s
  else if 5 < symbolErrors ∨ payloadTooLong f.payload then flitBad s p
  else
    let s := if symbolErrors = 0 then s else s.count .KTL_FEC_CORR p
    let s := s.modPort p (fun x => { x with badInRow := 0 })
    let s := setNeighbour s p f.srcDev.toNat f.srcPort.toNat f.srcValid
    let s := flitCredits (flitAck s p f.ack.toNat f.nak) p f.crvc.toNat f.credits.toNat
    let gap := (f.seq.toNat + 4096 - (s.port p).rxSeq) % 4096
    let s := if f.payload = .none_ then s
      else if gap = 1 then payloadTake (s.modPort p (fun x => { x with rxSeq := f.seq.toNat })) p f.payload
      else if gap < 2048 ∧ gap ≠ 0 then s.modPort p (fun x => { x with nak := true })
      else s
    if s.flag F.KTL_PORT_STATUS_MAINT_ONLY p then s
    else (f.slot0.toList ++ f.slot1.toList).foldl (fun s w => expressTake s p w) s

/-! ### Topologies and routes (R479 to R486) -/

/-- An entry of KTL_RT at the commit (R483, R485, R486): it returns to its primary ports, and UNREACH clears where a path is. -/
def setRoute (s : State) (t : Topology) (d : Nat) : State :=
  let (vpri, valt, ppri, palt, pdn, dist) := t.route s.ownId d
  let un := s.flag F.KTL_RT_UNREACH d && dist.isNone
  s.wr .KTL_RT (BitVec.ofNat 32 (vpri + valt * 2 ^ 3 + ppri * 2 ^ 6 + palt * 2 ^ 9 + pdn * 2 ^ 12 + bit01 un * 2 ^ 18 +
    min (dist.getD 0) 255 * 2 ^ 20)) d

/-- Every barrier starts its generation 0 anew (R488). -/
def barriersReset (s : State) : State :=
  modKtl ((List.range 256).foldl (fun s b => s.wr .KTL_BAR_STATE 0 b) s) (fun k => { k with barriers := [] })

/-- The port takes up all traffic at a commit (R495): it is announced UP. -/
def commitPort (s : State) (p : Nat) : State :=
  if s.ktlUp p ∧ s.flag F.KTL_PORT_STATUS_MAINT_ONLY p ∧ chnAligned s then
    let s := s.setFlag F.KTL_PORT_STATUS_MAINT_ONLY false p
    noticeSend (s.modPort p (fun x => { x with upSince := s.now })) p true
  else s

/-- The commit beat (R481, R482, R485, R486, R488, R495, R496). -/
def ktlCommit (s : State) : State :=
  match s.ktl.shadow with
  | none => s
  | some (t, due) =>
    if s.now < due then s
    else
      match t.members.find? (fun m => m.uid = ownUid s) with
      | none => modKtl s (fun k => { k with shadow := none })
      | some me =>
        let joining := ktlMember s = 2
        let s := if due < s.now then (s.setFlag F.KTL_STATUS_SOLDER_LATE true).raise Src.KTL_SOLDER Scope.device 0 else s
        let newer := s.ktl.down.filter (fun e => e ∉ s.ktl.shadowMarks)
        let s := modKtl s (fun k => { k with topo := t, shadow := none, shadowMarks := [] })
        let s := (s.setFld F.KTL_ID_ID me.id).setFlag F.KTL_ID_VALID true
        let s := (s.setFld F.KTL_ROOT_ROOT_ID t.root).setFld F.KTL_ROOT_HOPS me.hops
        let s := (s.setFlag F.KTL_STATUS_ROOT (t.root == me.id)).setFld F.KTL_STATUS_STATE 3
        let s := if joining then s.setFlag F.KTL_STATUS_JOIN_DONE true else s
        let s := (List.range 1024).foldl (fun s d => setRoute s (t.without newer) d) s
        let seen := t.digest
        let s := s.wr .KTL_TOPO_SEEN (BitVec.ofNat 32 seen)
        let bad := decide (s.rd .KTL_TOPO_EXPECT ≠ 0) && decide ((s.rd .KTL_TOPO_EXPECT).toNat ≠ seen)
        let s := s.setFlag F.KTL_STATUS_TOPO_MISMATCH bad
        let s := if bad then s.raise Src.KTL_TOPO Scope.device 0 else s
        let s := (barriersReset s).setFld F.KTL_LINKS_DOWN_COUNT (min (linksDown t s.ktl.down) 2047)
        (List.range 4).foldl commitPort s

/-- A port has left UP: entries that name it use their alternate ports (R485). -/
def routeFailover (s : State) (p : Nat) : State :=
  if s.ktlUp p then s
  else (List.range 1024).foldl (fun s d =>
    let s := if s.fld F.KTL_RT_VPRI d = p then s.setFlag F.KTL_RT_V_ALT true d else s
    if s.fld F.KTL_RT_PPRI d = p then s.setFlag F.KTL_RT_P_ALT true d else s) s

/-- A port has been UP with MAINT_ONLY clear for 1 ms: entries return to it (R485). -/
def routeRestore (s : State) (p : Fin 4) : State :=
  if s.ktlCarries p ∧ 250000 ≤ s.now - (s.port p).upSince then
    (List.range 1024).foldl (fun s d =>
      let s := if s.fld F.KTL_RT_VPRI d = p.val ∧ s.flag F.KTL_RT_V_ALT d then s.setFlag F.KTL_RT_V_ALT false d else s
      if s.fld F.KTL_RT_PPRI d = p.val ∧ s.flag F.KTL_RT_P_ALT d then s.setFlag F.KTL_RT_P_ALT false d else s) s
  else s

/-- Firmware declares a device unreachable (R478, R486, R336). -/
def unreachDeclare (s : State) (d : Nat) : State :=
  let s := importsLost (s.setFlag F.KTL_RT_UNREACH true d) d
  if d = s.fld F.KTL_ROOT_ROOT_ID ∧ s.flag F.KTL_ID_VALID ∧ s.flag F.KTL_CFG_ROOT_EN then
    (s.setFlag F.KTL_STATUS_ROOT true).setFld F.KTL_ROOT_ROOT_ID s.ownId
  else s

/-! ### Discovery (R477 to R481) -/

/-- The device's own report (R479). -/
def ownReport (s : State) : DiscReport :=
  { uid := ownUid s, hops := s.fld F.KTL_ROOT_HOPS, req := requestedId s,
    nbrs := (List.finRange 4).filterMap (fun p =>
      match (s.port p).lane0 with
      | some b => if s.ktlUp p then some (p.val, b.uid.toNat, b.port.toNat) else none
      | none => none) }

/-- KTL_CTRL.DISCOVER (R477 to R479). -/
def discover (s : State) : State :=
  if !s.flag F.KTL_CFG_ROOT_EN ∨ !chnAligned s ∨ (s.flag F.KTL_ID_VALID ∧ !s.flag F.KTL_STATUS_ROOT) then s
  else
    let s := ((s.setFld F.KTL_STATUS_STATE 1).setFlag F.KTL_STATUS_ROOT true).setFld F.KTL_ROOT_HOPS 0
    maintFlood (modKtl s (fun k => { k with parent := 7, reports := [] })) none (.disc 0)

/-- A DISC packet arrives (R477, R479). -/
def discTake (s : State) (p : Fin 4) (hops : Nat) : State :=
  if !chnAligned s ∨ (ktlMember s = 1 ∧ s.flag F.KTL_STATUS_ROOT) then s
  else
    let running := ktlMember s = 1
    let h := min (hops + 1) 255
    if running ∧ ¬(h < s.fld F.KTL_ROOT_HOPS ∨ (h = s.fld F.KTL_ROOT_HOPS ∧ p.val < s.ktl.parent)) then s
    else
      let shorter := !running || decide (h < s.fld F.KTL_ROOT_HOPS)
      let s := ((s.setFld F.KTL_STATUS_STATE 1).setFld F.KTL_ROOT_HOPS h).setFlag F.KTL_STATUS_ROOT false
      let s := modKtl s (fun k => { k with parent := p.val })
      let s := if shorter then maintFlood s (some p.val) (.disc h) else s
      maintSend s p (.report (ownReport s))

/-- The lowest number that is not in a list. -/
def lowestFree (l : List Nat) : Nat := ((List.range 1024).find? (fun i => i ∉ l)).getD 1023

/-- The IDs that the root settles (R480), as UID and ID. -/
def settleIds (l : List DiscReport) : List (Nat × Nat) :=
  let first := l.filterMap (fun r => match r.req with
    | some i => if l.all (fun x => x.req ≠ some i ∨ r.uid ≤ x.uid) then some (r.uid, i) else none
    | none => none)
  ((sortBy DiscReport.before l).filter (fun r => !first.any (fun e => e.1 = r.uid))).foldl
    (fun acc r => acc ++ [(r.uid, lowestFree (acc.map Prod.snd))]) first

/-- The links that reports show between settled devices, each once, lower ID first (R482). -/
def reportLinks (l : List DiscReport) (ids : List (Nat × Nat)) : List TopoLink :=
  let links := l.flatMap (fun r => r.nbrs.filterMap (fun (x : Nat × Nat × Nat) =>
    match distIn ids r.uid, distIn ids x.2.1 with
    | some a, some b =>
      some (if a < b ∨ (a = b ∧ x.1 ≤ x.2.2) then { devA := a, portA := x.1, devB := b, portB := x.2.2 }
        else { devA := b, portA := x.2.2, devB := a, portB := x.1 : TopoLink })
    | _, _ => none))
  links.eraseDups

/-- The commit beat that the root names (R481, R495, R498). -/
def commitBeat (s : State) : Nat := s.beat + clampNat 2500000 12000000 (s.rd .KTL_COMMIT_DELAY).toNat

/-- The device takes a new place in a topology: another device held its ID, or it was unreachable (R494, R495). -/
def joins (s : State) (t : Topology) (d : Nat) : Bool :=
  s.flag F.KTL_RT_UNREACH d ||
    !(t.members.any (fun m => m.id == d && s.ktl.topo.members.any (fun o => o.id == d && o.uid == m.uid)))

/-- The marks of links that the routes of a topology do not heed (R483): at a discovery the reports show the links as they are, and at a
join the links of the joiner come UP at the commit. -/
def staleMarks (s : State) (t : Topology) : List (Nat × Nat) :=
  if ktlMember s ≠ 3 then s.ktl.down
  else s.ktl.down.filter (fun e => t.links.any (fun l =>
    (e == (l.devA, l.portA) || e == (l.devB, l.portB)) && (joins s t l.devA || joins s t l.devB)))

/-- A topology goes into the shadow: its tables switch at its commit beat (R481). -/
def topoHold (s : State) (t : Topology) : State :=
  let due := if s.beat ≤ t.commit then s.now + (t.commit - s.beat) else s.now - (s.beat - t.commit)
  modKtl s (fun k => { k with shadow := some (t, due), shadowMarks := staleMarks s t })

/-- The root floods a topology. -/
def topoFlood (s : State) (t : Topology) : State := maintFlood (topoHold s t) none (.topo t)

/-- The device's request was refused (R480, R494). -/
def idRefused (s : State) (t : Topology) : State :=
  match requestedId s, t.members.find? (fun m => m.uid = ownUid s) with
  | some i, some me => if me.id = i then s else s.setFlag F.KTL_STATUS_ID_REFUSED true
  | some i, none => if t.members.any (fun m => m.id = i) then s.setFlag F.KTL_STATUS_ID_REFUSED true else s
  | none, _ => s

/-- The root settles the IDs of every report and floods the topology (R479 to R481). -/
def settle (s : State) : State :=
  let all := ownReport s :: s.ktl.reports.filter (fun r => r.uid ≠ ownUid s)
  let ids := settleIds all
  let t : Topology := { members := all.map (fun r => { uid := r.uid, id := (distIn ids r.uid).getD 0, hops := r.hops }),
                        links := reportLinks all ids, commit := commitBeat s }
  idRefused (topoFlood s t) t

/-- Reports arrive: the root collects them, another device relays them to its parent (R479, R480). -/
def reportTake (s : State) (l : List DiscReport) (complete : Bool) : State :=
  if s.flag F.KTL_STATUS_ROOT then
    let s := modKtl s (fun k => { k with reports := k.reports.filter (fun r => !l.any (fun x => x.uid = r.uid)) ++ l })
    if complete ∧ ktlMember s = 1 then settle s else s
  else l.foldl (fun s r => maintSend s s.ktl.parent (.report r)) s

/-- The topology arrives (R480, R481, R494). -/
def topoTake (s : State) (p : Fin 4) (t : Topology) : State :=
  if !chnAligned s ∨ s.ktl.shadow.any (fun x => x.1 = t) ∨ s.ktl.topo = t then s
  else
    idRefused (maintFlood (topoHold s t) (some p.val) (.topo t)) t

/-! ### The Solder procedure (R493 to R496) -/

/-- KTL_CTRL.JOIN (R493). -/
def joinAsk (s : State) : State :=
  if ktlMember s = 3 then s else joinSend (modKtl (s.setFld F.KTL_STATUS_STATE 2) (fun k => { k with joinWanted := true }))

/-- The topology that a join builds on: one that waits for its commit, else the one in force. -/
def nextTopo (s : State) : Topology := (s.ktl.shadow.map Prod.fst).getD s.ktl.topo

/-- The ID that the root gives a joiner; none where it refuses (R494). -/
def joinId (s : State) (uid : Nat) (req : Option Nat) : Option Nat :=
  let held := (nextTopo s).members.map TopoMember.id
  match req with
  | none => some (lowestFree held)
  | some i =>
    match (nextTopo s).members.find? (fun m => m.id = i) with
    | none => some i
    | some m =>
      if !s.flag F.KTL_RT_UNREACH i then none
      else if m.uid = uid ∨ s.flag F.KTL_CFG_ADOPT_EN then some i else none

/-- A JOIN arrives: the root settles it, another device relays it to its parent (R494, R495). The links of a device that takes an
ID stand as before; a new device's links are those of the reports. -/
def joinTake (s : State) (p : Fin 4) (uid : Nat) (req : Option Nat) : State :=
  if !s.flag F.KTL_STATUS_ROOT then maintSend s s.ktl.parent (.join uid req)
  else
    match joinId s uid req with
    | none => s
    | some i =>
      let t := nextTopo s
      let old := t.members.find? (fun m => m.id = i)
      let nbr := (s.port p).lane0
      let direct : List TopoLink := match nbr with
        | some b => if b.uid.toNat = uid ∧ old.isNone then
            [if s.ownId ≤ i then { devA := s.ownId, portA := p.val, devB := i, portB := b.port.toNat }
             else { devA := i, portA := b.port.toNat, devB := s.ownId, portB := p.val }] else []
        | none => []
      let ids := t.members.map (fun m => (m.uid, m.id)) ++ [(uid, i)]
      let reported := if old.isSome then [] else reportLinks (s.ktl.reports.filter (fun r => r.uid = uid)) ids
      let links := (t.links ++ direct ++ reported).eraseDups
      let near := (links.filterMap (fun l => if l.devA = i then some l.devB else if l.devB = i then some l.devA else none)).map t.hopsOf
      let hops := match old with
        | some m => m.hops
        | none => (near.min?.getD 0) + 1
      topoFlood s { members := t.members.filter (fun m => m.id ≠ i) ++ [{ uid := uid, id := i, hops := hops }], links := links,
                    commit := commitBeat s }

/-! ### Packets (R475, R484, R487) -/

/-- The port of a packet, and whether it leaves on a down link (R484). -/
def packetPort (s : State) (d : Nat) (down : Bool) : Nat × Bool :=
  let p := if down then s.fld F.KTL_RT_PDN d
    else if s.flag F.KTL_RT_P_ALT d then s.fld F.KTL_RT_PALT d else s.fld F.KTL_RT_PPRI d
  if p = 4 then (4, down)
  else if p < 4 ∧ s.ktlCarries p then
    (p, down || match (s.ktl.topo.edges s.ownId).find? (fun e => e.1 = p) with
      | some e => !s.ktl.topo.up s.ownId e.2
      | none => false)
  else (7, down)

/-- A packet leaves this device or waits to be acted on here; one that meets port 7 is dropped (R484, R487). The answer says
whether it went. -/
def packetRoute (s : State) (k : KtlPacket) : State × Bool :=
  let (p, down) := packetPort s k.dest.toNat k.down
  if p = 4 then (modKtl s (fun x => { x with inPackets := x.inPackets ++ [(4, k)] }), true)
  else if p = 7 then (s.count .KTL_UNREACH_DROP, false)
  else (packetQueue s p { k with down := down }, true)

/-- A dropped request returns a completion, if its source is reachable (R487). -/
def packetDropped (s : State) (k : KtlPacket) (status : Nat) : State :=
  if k.request then (packetRoute s (k.completion s.ownId status [])).1 else s

/-- A packet for another device goes on (R475, R484, R487). -/
def packetForward (s : State) (k : KtlPacket) : State :=
  if 6 < k.kind.toNat then s.count .KTL_TTL_DROP
  else if k.ttl.toNat ≤ 1 then packetDropped (s.count .KTL_TTL_DROP) k 2
  else
    let (t, ok) := packetRoute s { k with ttl := k.ttl - 1 }
    if ok then t else packetDropped t k 1

/-! ### Barriers (R488 to R491) -/

/-- Every member slice and child has arrived (R489). -/
def barFull (s : State) (b : Nat) : Bool :=
  let sl := s.fld F.KTL_BAR_CFG_SLICES b
  let ch := s.fld F.KTL_BAR_CFG_CHILD b
  s.fld F.KTL_BAR_STATE_ARRIVED b &&& sl == sl && s.fld F.KTL_BAR_STATE_CHILD_ARR b &&& ch == ch

/-- The device completes the generation of barrier `b` (R489). -/
def barrierComplete (s : State) (b : Nat) : State :=
  if s.barOk b ∧ s.fld F.KTL_BAR_STATE_PHASE b = 0 ∧ barFull s b then
    if s.barRoot b then s.barEnd b false
    else
      let s := s.setFld F.KTL_BAR_STATE_PHASE 1 b
      s.expressEach [s.fld F.KTL_BAR_CFG_PARENT b] (barWord b 0 (s.fld F.KTL_BAR_STATE_GEN b) 0)
  else s

/-- The message is for the generation in progress of a barrier that the device takes part in. -/
def barMessage (s : State) (w : Nat) : Bool :=
  s.barOk (bitsAt w 0 8) && bitsAt w 10 8 == s.fld F.KTL_BAR_STATE_GEN (bitsAt w 0 8) && bitsAt w 62 2 == 1

/-- An ARRIVE from a child port (R489). -/
def barrierArriveTake (s : State) (p : Nat) (w : Nat) : State :=
  let b := bitsAt w 0 8
  if barMessage s w ∧ bitsAt w 8 2 = 0 ∧ p ∈ s.barChildren b then
    s.setFld F.KTL_BAR_STATE_CHILD_ARR (putBit (s.fld F.KTL_BAR_STATE_CHILD_ARR b) p true) b
  else s

/-- A RELEASE, or an ABORT from the root, is held and goes on to the children (R489 to R491). One that comes after its U acts as an
ABORT at the next boundary. -/
def barrierHoldTake (s : State) (w : Nat) (abort : Bool) : State :=
  let b := bitsAt w 0 8
  if (s.barHeld b).isSome then s
  else
    let off := dueOffset s (bitsAt w 18 24)
    let s := s.expressEach (s.barChildren b) (BitVec.ofNat 64 w)
    if off < 0 then
      ((s.barHold b (s.now + 1) true true).count .KTL_BAR_LATE).raise Src.BARRIER_LATE Scope.device b
    else s.barHold b (s.now + off.toNat) abort false

/-- A RELEASE arrives from the parent (R489, R490). -/
def barrierReleaseTake (s : State) (p : Nat) (w : Nat) : State :=
  if barMessage s w ∧ bitsAt w 8 2 = 1 ∧ p = s.fld F.KTL_BAR_CFG_PARENT (bitsAt w 0 8) then barrierHoldTake s w false else s

/-- An ABORT arrives: from the parent it is held, from a child it goes up, and the root ends the generation (R491). -/
def barrierAbortTake (s : State) (p : Nat) (w : Nat) : State :=
  let b := bitsAt w 0 8
  if !barMessage s w ∨ bitsAt w 8 2 ≠ 2 then s
  else if p = s.fld F.KTL_BAR_CFG_PARENT b then barrierHoldTake s w true
  else if p ∈ s.barChildren b ∧ (s.barHeld b).isNone then
    if s.barRoot b then s.barEnd b true else s.expressEach [s.fld F.KTL_BAR_CFG_PARENT b] (BitVec.ofNat 64 w)
  else s

/-- A slice waits in barrier `b`. -/
def waitsAt (s : State) (n : Fin 16) (b : Nat) : Option PendingInstr :=
  match (s.sl n).seq.pend with
  | some q => match q.instr with
    | .sync kind id _ => if kind = 2 ∧ id.toNat = b ∧ (s.fld F.KTL_BAR_CFG_SLICES b).testBit n.val then some q else none
    | _ => none
  | none => none

/-- The waiting member resolves, or takes its own timeout action (R490, R491). -/
def memberRelease (s : State) (n : Fin 16) (b : Nat) (abort : Bool) : State :=
  match waitsAt s n b with
  | none => s
  | some q =>
    if abort then seqTimeOut s n q
    else seqResolve (modSeq s n (fun x => { x with pend := some { q with hit := some (0, s.now) } })) n

/-- The release beat U (R490, R491): the generation ends on this device. -/
def barrierRelease (s : State) (b : Nat) : State :=
  match s.barHeld b with
  | none => s
  | some h =>
    if s.now < h.due then s
    else
      let g := s.fld F.KTL_BAR_STATE_GEN b
      let s := eachSlice s (fun s n => memberRelease s n b h.abort)
      let s := modKtl s (fun k => { k with barriers := k.barriers.filter (fun x => x.bar ≠ b) })
      let s := s.wr .KTL_BAR_STATE (BitVec.ofNat 32 ((g + 1) % 256 * 2 ^ 20)) b
      let s := if h.abort ∧ !h.late then s.count .KTL_BAR_ABORTS else s
      s.journal JType.BARRIER 16 b (bit01 h.abort + g * 2 ^ 8)

/-- A word that a unit has taken leaves the receiver. -/
def wordTaken (s : State) (word : DWord) : State :=
  modKtl s (fun k => { k with inWords := k.inWords.eraseP (fun x => x.2 = word) })

/-- A maintenance packet that firmware has taken leaves the receiver. -/
def maintTaken (s : State) (p : Fin 4) (m : MaintMsg) : State := modKtl s (fun k => { k with inMaint := k.inMaint.erase (p.val, m) })

/-! ### The commands -/

def execKtlTrainBlock (p : Fin 4) (lane : Fin 2) (block : TrainBlock) (s : State) : Result := .next (trainBlock s p lane block)
def execKtlPortUp (p : Fin 4) (flight : BitVec 16) (s : State) : Result := .next (portUp s p flight.toNat)
def execKtlPortDown (p : Fin 4) (cause : BitVec 3) (s : State) : Result := .next (portDown s p cause.toNat)
def execKtlRetrain (p : Fin 4) (s : State) : Result := .next (portRetrain s p)
def execKtlFlitTx (p : Fin 4) (s : State) : Result := .next (flitTx s p)
def execKtlFlitRx (p : Fin 4) (flit : KtlFlit) (symbolErrors : Nat) (s : State) : Result := .next (flitRx s p flit symbolErrors)
def execLinkNoticeRx (p : Fin 4) (word : BitVec 64) (s : State) : Result := .next (noticeTake (wordTaken s word) p.val word)
def execDiscover (s : State) : Result := .next (discover s)
def execDiscRx (p : Fin 4) (hops : Nat) (s : State) : Result := .next (discTake (maintTaken s p (.disc hops)) p hops)
def execDiscReportRx (p : Fin 4) (reports : List DiscReport) (complete : Bool) (s : State) : Result :=
  .next (reportTake (reports.foldl (fun s r => maintTaken s p (.report r)) s) reports complete)
def execTopoFloodRx (p : Fin 4) (topo : Topology) (s : State) : Result := .next (topoTake (maintTaken s p (.topo topo)) p topo)
def execKtlCommit (s : State) : Result := .next (ktlCommit s)
def execJoin (s : State) : Result := .next (joinAsk s)
def execJoinRx (p : Fin 4) (uid : BitVec 64) (req : Option (BitVec 10)) (s : State) : Result :=
  let r := req.map BitVec.toNat
  .next (joinTake (maintTaken s p (.join uid.toNat r)) p uid.toNat r)
def execRouteFailover (p : Fin 4) (s : State) : Result := .next (routeFailover s p.val)
def execRouteRestore (p : Fin 4) (s : State) : Result := .next (routeRestore s p)
def execUnreachDeclare (dev : BitVec 10) (s : State) : Result := .next (unreachDeclare s dev.toNat)
def execBarrierComplete (b : BitVec 8) (s : State) : Result := .next (barrierComplete s b.toNat)
def execBarrierArriveRx (p : Fin 4) (word : BitVec 64) (s : State) : Result :=
  .next (barrierArriveTake (wordTaken s word) p.val word.toNat)
def execBarrierReleaseRx (p : Fin 4) (word : BitVec 64) (s : State) : Result :=
  .next (barrierReleaseTake (wordTaken s word) p.val word.toNat)
def execBarrierAbortRx (p : Fin 4) (word : BitVec 64) (s : State) : Result :=
  .next (barrierAbortTake (wordTaken s word) p.val word.toNat)
/-- BARRIER_RELEASE (R490); in a replay the releases of the journal act instead (R675). -/
def execBarrierRelease (b : BitVec 8) (s : State) : Result := .next (if s.rpl.replaying then s else barrierRelease s b.toNat)

end Sys2Proof.Machine
end

