-- ==== Sys2Proof/Machine/HostPorts.lean ====
section
/-!
DEFINITION. The host ports: links, frames, sessions and retransmission of CTP, EVENT packets and the time of day (Host Ports,
Transport and the Address Map, R500 to R524). The execution of requests stands in HostRequests.
-/

namespace Sys2Proof

/-- The credit units that a packet with so many data bytes consumes (R510). -/
def ctpUnits (bytes : Nat) : Nat := max 1 ((bytes + 255) / 256)

end Sys2Proof

namespace Sys2Proof.Machine

/-- Change a host port. -/
def State.modHost (s : State) (p : Fin 2) (f : HostPort → HostPort) : State :=
  { s with host := s.host.set p.val (f (s.host.get p)) p.isLt }

/-- A host port. -/
def State.hp (s : State) (p : Fin 2) : HostPort := s.host.get p

/-! ### Links (R500 to R503) -/

/-- A port may train (R500, R585, R641): enabled, powered, not held out of service, with the clocks locked. -/
def hostMayTrain (s : State) (p : Fin 2) : Bool :=
  s.flag F.HST_PORT_CFG_EN p && s.domState (33 + p.val) == 0 && !s.portHeldOut p && s.flag F.INV_STATUS_LOCK

/-- HST_PORT_STATUS.LINK as it reads (R531): a port that is not UP and may train is TRAINING. -/
def hostLink (s : State) (p : Fin 2) : Nat :=
  if s.fld F.HST_PORT_STATUS_LINK p = 2 then 2 else if hostMayTrain s p then 1 else 0

/-- LINK reads UP. -/
def State.hostUp (s : State) (p : Fin 2) : Bool := s.fld F.HST_PORT_STATUS_LINK p == 2

/-- LINK reaches UP (R500, R502, R519). -/
def hostLinkRise (s : State) (p : Fin 2) : State :=
  if !hostMayTrain s p ∨ s.hostUp p then s
  else
    let s := s.setFld F.HST_PORT_STATUS_LINK 2 p
    let s := s.setFlag F.HST_PORT_STATUS_AN_DONE (s.flag F.HST_PORT_CFG_AN_EN p) p
    let s := s.setFlag F.HST_PORT_STATUS_FEC_LOCK true p
    s.event EvCode.PORT 16 p 2

/-- LINK leaves UP (R502, R503, R519). -/
def hostLinkFall (s : State) (p : Fin 2) : State :=
  if !s.hostUp p then s
  else
    let s := s.setFld F.HST_PORT_STATUS_LINK 0 p
    let s := s.setFlag F.HST_PORT_STATUS_FEC_LOCK false p
    let s := s.setFlag F.HST_PORT_STATUS_AN_DONE false p
    let s := s.setFlag F.HST_PORT_STATUS_DOWN_EVT true p
    let s := if s.flag F.HST_PORT_CFG_EN p ∧ s.domState (33 + p.val) = 0 then s.raise Src.HOST_LINK (Scope.hostPort p) p else s
    s.event EvCode.PORT 16 p (hostLink s p)

/-- HOST_LINK_UP. -/
def execHostLinkUp (p : Fin 2) (s : State) : Result := .next (hostLinkRise s p)

/-- HOST_LINK_DOWN. -/
def execHostLinkDown (p : Fin 2) (s : State) : Result := .next (hostLinkFall s p)

/-! ### Frames (R500, R501) -/

/-- An address is the port's own (R501, R531); an address register of 0 disables its family. -/
def hostOwnIp (s : State) (p : Fin 2) : IpAddr → Bool
  | .v4 a => a.toNat != 0 && a == s.rd .HST_IP4 p
  | .v6 a =>
    let own := (s.rd .HST_IP6 p 0).toNat + (s.rd .HST_IP6 p 1).toNat * 2 ^ 32 + (s.rd .HST_IP6 p 2).toNat * 2 ^ 64 +
      (s.rd .HST_IP6 p 3).toNat * 2 ^ 96
    own != 0 && a.toNat == own

/-- The frame passes the filter of the link layer (R501). -/
def hostFrameOk (s : State) (p : Fin 2) (f : HostFrame) : Bool :=
  let mac := (s.rd .HST_MAC_LO p).toNat + (s.rd .HST_MAC_HI p).toNat % 2 ^ 16 * 2 ^ 32
  f.fcsOk && f.uncorrectable == 0 && (f.dest.toNat == mac || f.dest.toNat == 2 ^ 48 - 1) &&
    (match f.vlan with
     | none => !s.flag F.HST_PORT_CFG_VLAN_EN p
     | some v => s.flag F.HST_PORT_CFG_VLAN_EN p && v.toNat == s.fld F.HST_PORT_CFG_VLAN_ID p)

/-- The largest frame of a port in bytes (R500). -/
def hostFrameMax (s : State) (p : Fin 2) : Nat := if s.flag F.HST_PORT_CFG_JUMBO p then 9022 else 1522

/-- The length of a frame that carries a CTP datagram. -/
def ctpFrameLen (f : HostFrame) (dest : IpAddr) (data : Nat) : Nat :=
  18 + (if f.vlan.isSome then 4 else 0) + (match dest with | .v4 _ => 20 | .v6 _ => 40) + 8 + 40 + data

/-- The session of a port: 0 CLOSED, 1 OPEN, 2 DOWN (R532). -/
def State.session (s : State) (p : Fin 2) : Nat := s.fld F.CTP_STATUS_SESSION p

/-- The UDP port at which a packet is CTP (R501, R532): that of CTP_CFG for a CONNECT, and that of the session for the rest. -/
def ctpPort (s : State) (p : Fin 2) (k : CtpPacket) : Nat :=
  if k.kind = 0 ∨ s.session p ≠ 1 then s.fld F.CTP_CFG_UDP_PORT p else (s.hp p).udp

/-- The transport takes no packet with another version, a reserved type, or a type that only a device sends (R504, R505). -/
def ctpTypeOk (k : CtpPacket) : Bool := k.ver == 1 && decide (k.kind.toNat ∈ [0, 2, 3, 4, 5, 7, 9, 10])

/-- HOST_FRAME_RX (R500, R501, R504, R505). -/
def execHostFrameRx (p : Fin 2) (f : HostFrame) (s : State) : Result :=
  .next (
    if !s.hostUp p then s
    else
      let s := s.countBy .HST_FEC_CORR f.corrected p
      let s := s.countBy .HST_FEC_UNCORR f.uncorrectable p
      let drop := s.count .HST_RX_DROP p
      if !hostFrameOk s p f then drop
      else match f.payload with
        | .ctp dest udp k =>
          if !hostOwnIp s p dest ∨ udp.toNat ≠ ctpPort s p k ∨ hostFrameMax s p < ctpFrameLen f dest k.data.length then drop
          else if ctpTypeOk k then s.modHost p (fun x => { x with inbox := x.inbox ++ [k] })
          else s.count .CTP_OOS p
        | .ptp => s
        | .query target => if hostOwnIp s p target then s.modHost p (fun x => { x with answered := some target }) else drop
        | .other => drop)

/-! ### Sending (R507, R508, R510) -/

/-- The LIMIT that the device advertises (R510). -/
def ctpLimit (x : HostPort) : Nat := (1024 + x.freed) % 2 ^ 32

/-- A packet of the device with nothing filled in but its type and what every packet carries. -/
def ctpBlank (x : HostPort) (kind : Nat) : CtpPacket :=
  { peer := x.peer, ver := 1, kind := BitVec.ofNat 4 kind, sop := true, eop := true, loc := false, fixed := false, tag := 0,
    psn := BitVec.ofNat 24 x.txPsn, ack := BitVec.ofNat 24 x.rxPsn, nak := false, limit := BitVec.ofNat 32 (ctpLimit x), addr := 0,
    len := 0, status := 0, offset := 0, info := 0, data := [] }

/-- Nothing has been sent yet by this command. -/
def ctpQuiet (s : State) (p : Fin 2) : State := s.modHost p (fun x => { x with out := [] })

/-- A packet goes out and is not kept: an ACK, or an answer outside a session. Any packet acknowledges what was received (R507). -/
def ctpEmit (s : State) (p : Fin 2) (k : CtpPacket) : State :=
  if s.hostUp p then s.modHost p (fun x => { x with out := x.out ++ [k], ackSince := none }) else s

/-- An ACK packet, with NAK where something is missing (R507). -/
def ctpSendAck (s : State) (p : Fin 2) (nak : Bool) : State :=
  ctpEmit s p { ctpBlank (s.hp p) 7 with nak := nak }

/-- The bytes of data that are kept until they are acknowledged (R508). -/
def ctpKeptBytes (x : HostPort) : Nat := (x.kept.map (fun k => k.packet.data.length)).sum

/-- A packet with so many data bytes may be sent for the first time (R502, R508, R510). -/
def ctpMaySend (s : State) (p : Fin 2) (bytes : Nat) : Bool :=
  let x := s.hp p
  s.hostUp p && s.session p == 1 && decide (ctpKeptBytes x + bytes ≤ 2 ^ 20) &&
    decide (ctpUnits bytes ≤ (x.limit + 2 ^ 32 - x.used) % 2 ^ 32) && decide ((x.limit + 2 ^ 32 - x.used) % 2 ^ 32 < 2 ^ 31)

/-- A packet is sent for the first time: it takes the next PSN and is kept (R507, R508, R510). -/
def ctpSend (s : State) (p : Fin 2) (k : CtpPacket) (units : Nat) : State :=
  let x := s.hp p
  let psn := (x.txPsn + 1) % 2 ^ 24
  let k := { k with psn := BitVec.ofNat 24 psn, ack := BitVec.ofNat 24 x.rxPsn, limit := BitVec.ofNat 32 (ctpLimit x) }
  let s := s.modHost p (fun x => { x with txPsn := psn, used := (x.used + units) % 2 ^ 32, kept := x.kept ++ [{ packet := k, at_ := s.now }] })
  ctpEmit s p k

/-- Every outstanding request is abandoned and every kept packet discarded (R506, R508). -/
def ctpAbandon (s : State) (p : Fin 2) : State :=
  s.modHost p (fun x => { x with jobs := [], tags := [], kept := [], retries := 0, ackSince := none })

/-- The session goes DOWN (R508, R519). -/
def ctpDown (s : State) (p : Fin 2) : State :=
  let s := (ctpAbandon s p).setFld F.CTP_STATUS_SESSION 2 p
  (s.setFlag F.CTP_STATUS_DOWN_EVT true p).event EvCode.SESSION 16 p 0

/-- MAX_RETRY; 0 acts as 1 (R532). -/
def ctpMaxRetry (s : State) (p : Fin 2) : Nat := max 1 (s.fld F.CTP_CFG_MAX_RETRY p)

/-- The device resends from the oldest unacknowledged packet, or gives up (R508). -/
def ctpResend (s : State) (p : Fin 2) : State :=
  let x := s.hp p
  if x.kept.isEmpty ∨ !s.hostUp p then s
  else if ctpMaxRetry s p ≤ x.retries then ctpDown s p
  else
    let again := x.kept.map (fun k => { k.packet with ack := BitVec.ofNat 24 x.rxPsn, limit := BitVec.ofNat 32 (ctpLimit x) })
    let s := s.countBy .CTP_RETX again.length p
    s.modHost p (fun x => { x with retries := x.retries + 1, kept := x.kept.map (fun k => { k with at_ := s.now })
                                   out := x.out ++ again, ackSince := none })

/-! ### Receiving (R506 to R510) -/

/-- A PSN lies at or before another. -/
def psnUpTo (a b : Nat) : Bool := decide ((b + 2 ^ 24 - a) % 2 ^ 24 < 2 ^ 23)

/-- The acknowledgement, the NAK and the limit of a packet from the peer (R508, R509, R510). -/
def ctpTakeAck (s : State) (p : Fin 2) (k : CtpPacket) : State :=
  let x := s.hp p
  let done := x.kept.filter (fun e => psnUpTo e.packet.psn.toNat k.ack.toNat)
  let freed := (done.filter (fun e => e.packet.kind = 6 ∧ e.packet.eop)).map (fun e => e.packet.tag.toNat)
  let s := s.modHost p (fun x =>
    { x with kept := x.kept.filter (fun e => !psnUpTo e.packet.psn.toNat k.ack.toNat)
             tags := x.tags.filter (fun t => t ∉ freed)
             retries := if done.isEmpty then x.retries else 0
             limit := k.limit.toNat })
  if k.nak then ctpResend s p else s

/-- The packet comes from the peer of an open session; every other is discarded and counted (R506). -/
def ctpFromPeer (s : State) (p : Fin 2) (k : CtpPacket) : Bool := s.session p == 1 && decide (k.peer = (s.hp p).peer)

/-- Reception of a packet that takes a PSN (R506, R507, R508, R510): whether it is accepted. -/
def ctpAccept (s : State) (p : Fin 2) (k : CtpPacket) : State × Bool :=
  if !ctpFromPeer s p k then (s.count .CTP_OOS p, false)
  else
    let x := s.hp p
    let gap := (k.psn.toNat + 2 ^ 24 - x.rxPsn) % 2 ^ 24
    if gap = 0 ∨ 2 ^ 23 ≤ gap then (ctpSendAck (s.count .CTP_DUP p) p false, false)
    else if gap ≠ 1 then (ctpSendAck (s.count .CTP_OOS p) p true, false)
    else if (1024 + x.freed + 2 ^ 32 - x.rxUnits) % 2 ^ 32 < ctpUnits k.data.length then (s.count .CTP_OOS p, false)
    else
      let s := s.modHost p (fun x =>
        { x with rxPsn := k.psn.toNat, rxUnits := (x.rxUnits + ctpUnits k.data.length) % 2 ^ 32
                 ackSince := some (x.ackSince.getD s.now) })
      let s := ctpTakeAck s p k
      (s, s.session p == 1)

/-- Receive space is free again (R510). -/
def ctpFree (s : State) (p : Fin 2) (units : Nat) : State :=
  s.modHost p (fun x => { x with freed := (x.freed + units) % 2 ^ 32 })

/-- The packet waits at the port; a command for a packet that does not wait there changes nothing. -/
def ctpWaits (s : State) (p : Fin 2) (k : CtpPacket) (kind : Nat) : Bool := decide (k ∈ (s.hp p).inbox) && k.kind.toNat == kind

/-- Take the packet from the port. -/
def ctpTake (s : State) (p : Fin 2) (k : CtpPacket) : State :=
  (ctpQuiet s p).modHost p (fun x => { x with inbox := x.inbox.erase k })

/-! ### Sessions (R506) -/

/-- A CONNECT is refused (R506). -/
def connectRefused (s : State) (p : Fin 2) (k : CtpPacket) : State :=
  let s := s.setFlag F.CTP_STATUS_REFUSED true p
  ctpEmit s p { ctpBlank (s.hp p) 1 with peer := k.peer, status := 3, info := k.info }

/-- Put the peer's address in its registers (R532). -/
def setPeerRegs (s : State) (p : Fin 2) (a : Peer) : State :=
  let s := s.wr .CTP_PEER_PORT (a.port.setWidth 32) p
  let (v6, v) := match a.ip with | .v4 x => (false, x.toNat) | .v6 x => (true, x.toNat)
  let s := s.setFlag F.CTP_STATUS_IPV6 v6 p
  (List.range 4).foldl (fun s i => s.wr .CTP_PEER_ADDR (BitVec.ofNat 32 (v / 2 ^ (32 * i))) p i) s

/-- The session opens with the sender of a CONNECT (R506). -/
def connectOpen (s : State) (p : Fin 2) (k : CtpPacket) : State :=
  let start := Config.openValue 15 s.now % 2 ^ 24
  let s := (setPeerRegs (ctpAbandon s p) p k.peer).setFld F.CTP_STATUS_SESSION 1 p
  let s := s.setFld F.CTP_RING_UNITS k.info.toNat p
  let s := s.modHost p (fun x =>
    { x with peer := k.peer, udp := s.fld F.CTP_CFG_UDP_PORT p, rxPsn := k.psn.toNat, txPsn := (start + 2 ^ 24 - 1) % 2 ^ 24
             rxUnits := 0, freed := 0, used := 0, limit := min k.limit.toNat k.info.toNat })
  ctpSend s p (ctpBlank (s.hp p) 1) 0

/-- CONNECT (R506). -/
def execConnect (p : Fin 2) (k : CtpPacket) (s : State) : Result :=
  .next (
    if !ctpWaits s p k 0 then s
    else
      let s := ctpTake s p k
      if k.info.toNat < 64 then connectRefused s p k
      else if s.session p ≠ 1 then connectOpen s p k
      else if k.peer = (s.hp p).peer ∨ s.flag F.CTP_CFG_TAKEOVER p then connectOpen (s.event EvCode.SESSION 16 p 1) p k
      else connectRefused s p k)

/-- DISCONNECT (R506). -/
def execDisconnect (p : Fin 2) (k : CtpPacket) (s : State) : Result :=
  .next (
    if !ctpWaits s p k 10 then s
    else match ctpAccept (ctpTake s p k) p k with
      | (s, false) => s
      | (s, true) => (ctpSendAck (ctpAbandon s p) p false).setFld F.CTP_STATUS_SESSION 0 p)

/-- ACK (R507, R508, R510): it takes no PSN. -/
def execAck (p : Fin 2) (k : CtpPacket) (s : State) : Result :=
  .next (
    if !ctpWaits s p k 7 then s
    else
      let s := ctpTake s p k
      if ctpFromPeer s p k then ctpTakeAck s p k else s.count .CTP_OOS p)

/-- RTO in ticks; 0 acts as 1 (R532). -/
def ctpRtoTicks (s : State) (p : Fin 2) : Nat := max 1 (s.fld F.CTP_CFG_RTO p) * 2500

/-- CTP_RTO (R508). -/
def execCtpRto (p : Fin 2) (s : State) : Result :=
  .next (match (s.hp p).kept with
    | k :: _ => if s.session p = 1 ∧ k.at_ + ctpRtoTicks s p ≤ s.now then ctpResend (ctpQuiet s p) p else s
    | [] => s)

/-- CTP_ACK_TIMER (R507). -/
def execCtpAckTimer (p : Fin 2) (s : State) : Result :=
  .next (match (s.hp p).ackSince with
    | some t => if s.session p = 1 ∧ t + 1000 ≤ s.now then ctpSendAck (ctpQuiet s p) p false else s
    | none => s)

/-! ### Events (R518 to R521) -/

/-- The four words of a record (R518). -/
def EventRecord.words (e : EventRecord) : List Nat :=
  [e.code % 256 + e.src % 32 * 2 ^ 8 + 2 ^ 13 + e.index % 2 ^ 16 * 2 ^ 16, e.beat % 2 ^ 32, e.beat / 2 ^ 32 % 2 ^ 32, e.data % 2 ^ 32]

/-- A job with nothing to execute (R511). -/
def CtpJob.ready (kind tag : Nat) (reply : List Byte) : CtpJob :=
  { kind := kind, tag := tag, dev := none, addr := 0, len := 0, fixed := false, data := [], complete := true, executed := true, status := 0,
    info := 0, reply := reply, sent := 0, unsent := [], missing := [], askedAt := 0, started := true, units := 0,
    service := 0, slices := [] }

/-- EVENT_PACKET_SEND (R520): up to 64 records leave the queue and wait as one EVENT packet. -/
def execEventPacketSend (s : State) : Result :=
  .next (
    let p : Fin 2 := if s.fld F.EVT_CFG_PORT = 1 then 1 else 0
    if !s.flag F.EVT_CFG_SEND ∨ s.session p ≠ 1 ∨ s.evt.queue.isEmpty then s
    else
      let data := (s.evt.queue.take 64).flatMap (fun e => wordsToBytes e.words)
      let s := { s with evt := { s.evt with queue := s.evt.queue.drop 64 } }
      s.modHost p (fun x => { x with jobs := x.jobs ++ [CtpJob.ready 8 0 data] }))

/-- EVT_RD0_READ (R533). -/
def evtTake (s : State) : State :=
  (
    let words := match s.evt.queue with | [] => [0, 0, 0, 0] | e :: _ => e.words
    let s := { s with evt := { s.evt with queue := s.evt.queue.drop 1 } }
    let s := s.wr .EVT_RD1 (BitVec.ofNat 32 (words.getD 1 0))
    let s := s.wr .EVT_RD2 (BitVec.ofNat 32 (words.getD 2 0))
    let s := s.wr .EVT_RD3 (BitVec.ofNat 32 (words.getD 3 0))
    { s with readValue := BitVec.ofNat 32 (words.getD 0 0) })

def execEvtRd0Read (s : State) : Result := .next (evtTake s)

/-! ### The time of day (R522 to R524) -/

/-- A second in units of 2^−30 ns. -/
def todSecond : Nat := 1000000000 * 2 ^ 30

/-- HST_TOD_ADJ as a signed number, within its limits (R531). -/
def todAdj (s : State) : Int := clampInt (-429497) 429497 (sext 32 (s.rd .HST_TOD_ADJ).toNat)

/-- The advance at a beat boundary (R523): 4 ns times 1 + ADJ × 2^−32, in units of 2^−30 ns. -/
def todAdvance (s : State) : State :=
  { s with tod := { s.tod with time := (((s.tod.time + 4 * 2 ^ 30 : Nat) : Int) + todAdj s).toNat % (2 ^ 48 * todSecond) } }

/-- TOD_LATCH (R524). -/
def todLatch (s : State) : State :=
  (
    let s := s.setPair .HST_TOD_SEC_LO .HST_TOD_SEC_HI (s.tod.time / todSecond)
    let s := s.wr .HST_TOD_NS (BitVec.ofNat 32 (s.tod.time % todSecond / 2 ^ 30))
    s.setPair .HST_TOD_BEAT_LO .HST_TOD_BEAT_HI s.beat)

def execTodLatch (s : State) : Result := .next (todLatch s)

/-- TOD_STEP (R523). -/
def todStep (s : State) : State :=
  { s with tod := { s.tod with time := s.tod.stagedSec % 2 ^ 48 * todSecond + s.tod.stagedNs * 2 ^ 30, set := true } }

def execTodStep (s : State) : Result := .next (todStep s)

/-- PTP_MESSAGE (R522, R523): an event message is stamped at the port that HST_PTP_CFG names, and the servo may set the rate. -/
def execPtpMessage (p : Fin 2) (adj : Option (BitVec 32)) (st : BitVec 2) (s : State) : Result :=
  .next (
    if !s.flag F.HST_PTP_CFG_EN ∨ s.fld F.HST_PTP_CFG_PORT ≠ p ∨ !s.hostUp p then s
    else
      let s := { s with tod := { s.tod with stamp := s.tod.time / 2 ^ 30 } }
      let s := s.setFld F.HST_PTP_STATUS_STATE st.toNat
      match adj with
      | none => s
      | some v => s.wr .HST_TOD_ADJ (BitVec.ofInt 32 (clampInt (-429497) 429497 (sext 32 v.toNat))))

end Sys2Proof.Machine
end

