-- ==== Sys2Proof/Machine/DmaChannels.lean ====
section
/-!
DEFINITION. The regions of the address map (R525 to R528), and the DMA channels: descriptors and their checks, what a channel
targets, and how a descriptor ends (DMA Engine, R534 to R551). The bursts stand in DmaBursts.
-/

namespace Sys2Proof.Machine

/-! ### Regions (R525) -/

/-- A region of the device's address map. -/
inductive Region where
  | globalRegs
  | sliceRegs (n : Fin 16)
  | sliceStore (n : Fin 16)
  | central
deriving DecidableEq, Repr

/-- The region that a 40-bit device address lies in, and the offset within it. -/
def regionOf (a : Nat) : Option (Region × Nat) :=
  if a < 0x1000000 then some (.globalRegs, a)
  else if 0x10000000 ≤ a ∧ a < 0x11000000 then
    some (.sliceRegs ⟨(a - 0x10000000) / 0x100000 % 16, by omega⟩, (a - 0x10000000) % 0x100000)
  else if 0x100000000 ≤ a ∧ a < 0x104000000 then
    if (a - 0x100000000) % 0x400000 < 0x300000 then
      some (.sliceStore ⟨(a - 0x100000000) / 0x400000 % 16, by omega⟩, (a - 0x100000000) % 0x400000)
    else none
  else if 0x200000000 ≤ a ∧ a < 0x201000000 then some (.central, a - 0x200000000)
  else none

/-- The region that a whole range lies in, and the offset of its start; none where it does not lie in one region. -/
def rangeIn (a len : Nat) : Option (Region × Nat) :=
  match regionOf a, regionOf (a + (len - 1)) with
  | some (r, o), some (r', _) => if r = r' then some (r, o) else none
  | _, _ => none

/-- A region of registers. -/
def Region.isRegs : Region → Bool
  | .globalRegs | .sliceRegs _ => true
  | _ => false

/-- The store behind a region. -/
def Region.storeId : Region → Option StoreId
  | .sliceStore n => some (.slice n)
  | .central => some .central
  | _ => none

/-- The power domain that an offset of a region belongs to (R585). -/
def Region.domain (r : Region) (o : Nat) : Nat :=
  match r with
  | .globalRegs | .central => 32
  | .sliceStore n => n
  | .sliceRegs n => if 0x6000 ≤ o ∧ o < 0xC000 then 16 + n.val else n

/-! ### Descriptors (R536, R537) -/

/-- Read a descriptor from its 64 bytes (R536). -/
def dmaDecode (l : List Byte) : DmaDesc :=
  let w (i k : Nat) : Nat := ofBytes ((l.drop i).take k)
  { src := w 0 8 % 2 ^ 50, srcLocal := (w 0 8).testBit 50, dst := w 8 8 % 2 ^ 50, dstLocal := (w 8 8).testBit 50, len := w 16 4,
    op := bitsAt (w 20 4) 0 3, planes := bitsAt (w 20 4) 3 2, streams := bitsAt (w 20 4) 5 2, esize := 2 ^ bitsAt (w 20 4) 7 2,
    span := (let v := bitsAt (w 20 4) 10 16; if v = 0 then 65536 else v), idxSrc := (w 24 4).testBit 0, idxDst := (w 24 4).testBit 1,
    evt := (w 24 4).testBit 2, wb := (w 24 4).testBit 3, vwp := (w 24 4).testBit 4, chain := (w 24 4).testBit 5,
    idxBase := w 28 4 % 2 ^ 24, count := w 32 2, block := w 34 2, next := w 36 4 % 2 ^ 24, pattern := w 40 8 }

/-- An endpoint lies on this device (R528, R534). -/
def localEnd (s : State) (a : Nat) (loc : Bool) : Bool := loc || (s.flag F.KTL_ID_VALID && a / 2 ^ 40 == s.ownId)

/-- The planes of a TRANSPOSE, and the streams of INTERLEAVE (R536). -/
def DmaDesc.planeCount (d : DmaDesc) : Nat := 8 * 2 ^ d.planes
def DmaDesc.streamCount (d : DmaDesc) : Nat := 2 * 2 ^ d.streams

/-- The group that LEN must be a multiple of (R537, R540). -/
def DmaDesc.group (d : DmaDesc) : Nat :=
  match d.op with
  | 2 => d.planeCount * d.planeCount / 8
  | 3 | 4 => d.streamCount * d.span
  | _ => 1

/-- Change a channel. -/
def State.modDma (s : State) (c : Fin 32) (f : DmaChannel → DmaChannel) : State :=
  { s with dma := { s.dma with ch := s.dma.ch.set c.val (f (s.dma.ch.get c)) c.isLt } }

/-- A channel. -/
def State.dmaCh (s : State) (c : Fin 32) : DmaChannel := s.dma.ch.get c

/-! The states of a channel as they are kept (R553); WAIT is ACTIVE as `dmaWaits` finds it. -/
namespace DmaSt
def idle : Nat := 0
def load : Nat := 1
def admission : Nat := 2
def active : Nat := 3
def wait : Nat := 4
def stopping : Nat := 5
end DmaSt

def State.dmaState (s : State) (c : Fin 32) : Nat := s.fld F.DMA_CH_STATUS_STATE c

def State.setDmaState (s : State) (c : Fin 32) (v : Nat) : State := s.setFld F.DMA_CH_STATUS_STATE v c

/-- The queue a channel is bound to: slice, and whether it is the TDC queue (R542, R553). -/
def dmaBound (s : State) (c : Fin 32) : Option (Fin 16 × Bool) :=
  let q := s.fld F.DMA_CH_CFG_REQ c
  if 1 ≤ q ∧ q ≤ 16 then some (⟨(q - 1) % 16, by omega⟩, false)
  else if 17 ≤ q ∧ q ≤ 32 then some (⟨(q - 17) % 16, by omega⟩, true)
  else none

/-- The address of the FIFO window of a queue (R381, R413, R527). -/
def queueWindow (n : Fin 16) (tdc : Bool) : Nat := 0x10000000 + n.val * 0x100000 + (if tdc then 0xB800 else 0xA800)

/-- The bytes of an entry of a queue (R542). -/
def queueEntry (tdc : Bool) : Nat := if tdc then 16 else 8

/-- The entries of a queue, and whether it asserts its request (R381, R413). -/
def queueCount (s : State) (n : Fin 16) (tdc : Bool) : Nat :=
  if tdc then (s.sl n).tdc.queue.length else (s.sl n).mad.queue.length

def queueAsks (s : State) (n : Fin 16) (tdc : Bool) : Bool :=
  decide ((if tdc then max 1 (s.fld F.TDC_QCFG_WMARK n) else max 1 (s.fld F.MAD_CFG_WMARK n)) ≤ queueCount s n tdc)

/-- The checks of R537 on a descriptor at an offset. -/
def dmaDescBad (s : State) (c : Fin 32) (off : Nat) (d : DmaDesc) : Bool :=
  let index := d.idxSrc || d.idxDst
  decide (off % 64 ≠ 0) || decide (0xE00000 ≤ off) || decide (4 < d.op) || (decide (d.op = 3 ∨ d.op = 4) && decide (d.streams = 3)) ||
    d.len == 0 || decide (d.len % d.group ≠ 0) || (decide (d.op = 3 ∨ d.op = 4) && decide (d.span % d.esize ≠ 0)) || (d.idxSrc && d.idxDst) ||
    (index && (decide (d.op ≠ 0) || decide (d.len ≠ (d.count + 1) * d.block) || d.block == 0 || decide (d.idxBase % 4 ≠ 0) ||
      decide (0x1000000 < d.idxBase + 4 * (d.count + 1)))) ||
    (decide (d.op ≠ 1) && !localEnd s d.src d.srcLocal && !localEnd s d.dst d.dstLocal) ||
    (d.vwp && !(localEnd s d.dst d.dstLocal && (match regionOf (d.dst % 2 ^ 40) with | some (.sliceStore _, _) => true | _ => false))) ||
    (match dmaBound s c with
     | none => false
     | some (n, tdc) => decide (d.op ≠ 0) || !localEnd s d.src d.srcLocal || decide (d.src % 2 ^ 40 ≠ queueWindow n tdc) ||
        decide (d.len % queueEntry tdc ≠ 0))

/-- An endpoint of so many bytes breaks R534. -/
def dmaEndBad (s : State) (a : Nat) (loc : Bool) (len : Nat) : Bool :=
  match rangeIn (a % 2 ^ 40) len with
  | none => true
  | some (r, o) => if localEnd s a loc then r.isRegs && decide (o % 4 ≠ 0 ∨ len % 4 ≠ 0) else r.isRegs

/-- The line of a slice store lies in its stream ring (R179, R544). -/
def inRing (s : State) (n : Fin 16) (line : Nat) : Bool :=
  decide (s.fld F.VEC_RING_BASE_LINE n ≤ line) && decide (line < s.fld F.VEC_RING_BASE_LINE n + s.fld F.VEC_RING_LINES_LINES n)

/-- The endpoints of a descriptor at its load (R534, R541, R544). A bound source is a window and does not advance. -/
def dmaEndsBad (s : State) (c : Fin 32) (d : DmaDesc) : Bool :=
  let srcLen := if d.idxSrc then 1 else d.len
  let dstLen := if d.idxDst then 1 else d.len
  let src := decide (d.op ≠ 1) && (dmaBound s c).isNone && dmaEndBad s d.src d.srcLocal srcLen
  let dst := if d.vwp then
      (match regionOf (d.dst % 2 ^ 40) with
       | some (.sliceStore n, o) => !inRing s n (o / 128) || decide (d.len % 128 ≠ 0)
       | _ => true)
    else dmaEndBad s d.dst d.dstLocal dstLen
  src || dst

/-! ### What a channel targets (R550, R588) -/

/-- The local region of an endpoint. -/
def localRegion (s : State) (a : Nat) (loc : Bool) : Option (Region × Nat) :=
  if localEnd s a loc then regionOf (a % 2 ^ 40) else none

/-- The regions of the source, the destination and the index table of a channel's descriptor. -/
def dmaRegions (s : State) (c : Fin 32) : List (Region × Nat) :=
  match (s.dmaCh c).desc with
  | none => []
  | some d =>
    (if d.op = 1 then [] else (localRegion s d.src d.srcLocal).toList) ++ (localRegion s d.dst d.dstLocal).toList ++
      (if d.idxSrc || d.idxDst then [(.central, d.idxBase)] else [])

/-- The device of a remote endpoint. -/
def dmaRemote (s : State) (c : Fin 32) : Option Nat :=
  match (s.dmaCh c).desc with
  | none => none
  | some d =>
    if d.op ≠ 1 ∧ !localEnd s d.src d.srcLocal then some (d.src / 2 ^ 40)
    else if !localEnd s d.dst d.dstLocal then some (d.dst / 2 ^ 40)
    else none

/-- A channel targets a store. -/
def dmaTargetsStoreBy (s : State) (c : Fin 32) (id : StoreId) : Bool :=
  decide (s.dmaState c ≠ DmaSt.idle) && (dmaRegions s c).any (fun r => r.1.storeId == some id)

/-- Some channel targets a store (R56, R60). -/
def State.dmaTargetsStore (s : State) (id : StoreId) : Bool := (List.finRange 32).any (fun c => dmaTargetsStoreBy s c id)

/-- A channel targets a power domain (R550, R588). -/
def dmaTargetsDomain (s : State) (c : Fin 32) (d : Nat) : Bool :=
  decide (s.dmaState c ≠ DmaSt.idle) &&
    ((dmaRegions s c).any (fun r => r.1.domain r.2 == d) ||
      (match dmaRemote s c with
       | some dev => decide (35 ≤ d) && (packetPort s dev false).1 == d - 35
       | none => false))

/-- A channel has an endpoint in a slice: its store or its registers (R546). -/
def dmaInSlice (s : State) (c : Fin 32) (n : Fin 16) : Bool :=
  decide (s.dmaState c ≠ DmaSt.idle) && (dmaRegions s c).any (fun r => r.1 == .sliceStore n || r.1 == .sliceRegs n)

/-! ### Ending (R545 to R549) -/

/-- The causes of an end in the order of R546, the strongest first. -/
def dmaRank : List Nat := [2, 10, 3, 5, 4, 6, 9, 7, 8, 1, 0]

/-- A cause for a descriptor to end arises (R546): the first one stands, and of several of one beat the strongest. Granted bursts complete,
and no further burst is granted. -/
def dmaCause (s : State) (c : Fin 32) (st : Nat) : State :=
  if s.dmaState c = DmaSt.idle then s
  else
    let x := s.dmaCh c
    let take := match x.ending with
      | none => true
      | some old => decide (x.endAt = s.now) && decide (dmaRank.idxOf st < dmaRank.idxOf old)
    let s := if s.dmaState c = DmaSt.admission then s.releaseAdmission 6 c else s
    let s := if take then s.modDma c (fun x => { x with ending := some st, endAt := s.now }) else s
    s.setDmaState c DmaSt.stopping

/-- Show the residue (R545). -/
def dmaShow (s : State) (c : Fin 32) : State :=
  match (s.dmaCh c).desc with
  | none => s
  | some d => s.wr .DMA_CH_RESIDUE (BitVec.ofNat 32 (d.len - (s.dmaCh c).written)) c

/-- The granted bursts of a channel. -/
def dmaBursts (s : State) (c : Fin 32) : List DmaBurst := s.dma.bursts.filter (fun b => b.ch = c)

/-- The line of the ring that the next burst of a VWP descriptor writes first, and that it lies in a configured ring (R544). -/
def dmaRing (d : DmaDesc) : Option (Fin 16 × Nat) :=
  match regionOf (d.dst % 2 ^ 40) with
  | some (.sliceStore n, o) => some (n, o)
  | _ => none

/-- The byte offset in the slice store of destination byte `off` of a VWP descriptor: the ring wraps (R544). -/
def ringByte (s : State) (n : Fin 16) (o off : Nat) : Nat :=
  let base := s.fld F.VEC_RING_BASE_LINE n * 128
  let size := s.fld F.VEC_RING_LINES_LINES n * 128
  if o < base ∨ base + size ≤ o then o + off else base + (o - base + off) % size

/-- The length of the next burst of a channel that has work left (R538, R543): a bound one takes what its queue holds beside what earlier
bursts will take. -/
def dmaLength (s : State) (c : Fin 32) (d : DmaDesc) : Nat :=
  let x := s.dmaCh c
  let left := d.len - x.granted
  match dmaBound s c with
  | some (n, tdc) =>
    let e := queueEntry tdc
    min (min 512 left) (queueCount s n tdc * e - ((dmaBursts s c).map DmaBurst.len).sum)
  | none =>
    let block := if d.idxSrc || d.idxDst then d.block - x.granted % d.block else left
    let ringEnd := if d.vwp then
        (match dmaRing d with
         | some (n, o) => (s.fld F.VEC_RING_BASE_LINE n + s.fld F.VEC_RING_LINES_LINES n) * 128 - ringByte s n o x.granted
         | none => left)
      else left
    let at_ := if d.vwp then (match dmaRing d with | some (n, o) => ringByte s n o x.granted | none => 0)
      else if d.idxDst then d.dst + ofBytes (s.cstore.read (d.idxBase + 4 * (x.granted / d.block)) 4) + x.granted % d.block else d.dst % 2 ^ 40 + x.granted
    min (min (512 - at_ % 512) left) (min block ringEnd)

/-- A channel waits for the request of its queue or for room in the ring (R543, R544). A ring that cannot take the burst at all does not
make it wait. -/
def dmaPaced (s : State) (c : Fin 32) : Bool :=
  let x := s.dmaCh c
  match x.desc with
  | none => false
  | some d =>
    (match dmaBound s c with
     | some (n, tdc) => !(queueAsks s n tdc || x.flush) || dmaLength s c d == 0
     | none => false) ||
    (d.vwp && (match dmaRing d with
     | some (n, o) => inRing s n (ringByte s n o x.granted / 128) &&
         !decide (s.ringFill n + dmaLength s c d / 128 + ((dmaBursts s c).map DmaBurst.len).sum / 128 + 1 ≤ s.fld F.VEC_RING_LINES_LINES n)
     | none => false))

/-- An ACTIVE channel is in WAIT (R543, R544, R553). -/
def dmaWaits (s : State) (c : Fin 32) : Bool :=
  let x := s.dmaCh c
  decide (s.dmaState c = DmaSt.active) && (match x.desc with | some d => decide (x.granted < d.len) | none => false) && dmaPaced s c

/-- Load the descriptor at an offset of the central store (R536, R537, R551). -/
def dmaLoad (s : State) (c : Fin 32) (off : Nat) : State :=
  let s := (s.setFld F.DMA_CH_DESC_OFFSET off c).setDmaState c DmaSt.active
  let blank (d : Option DmaDesc) : DmaChannel := { DmaChannel.initial with desc := d, tagNo := (s.dmaCh c).tagNo }
  if !s.storeOn .central then dmaCause (s.modDma c (fun _ => blank none)) c 4
  else if off % 64 ≠ 0 ∨ 0xE00000 ≤ off then dmaCause (s.modDma c (fun _ => blank none)) c 7
  else
    let (l, poisoned, s) := rangeRead s .central off 64
    let d := dmaDecode l
    let s := dmaShow (s.modDma c (fun _ => blank (some d))) c
    if !poisoned.isEmpty then dmaCause s c 6
    else if dmaDescBad s c off d then dmaCause s c 7
    else if dmaEndsBad s c d then dmaCause s c 8
    else if 1048576 < d.len then (s.setDmaState c DmaSt.admission).askAdmission 6 c
    else s

/-- DMA_START (R537, R553). -/
def dmaStart (c : Fin 32) (s : State) : State :=
  (if s.dmaState c ≠ DmaSt.idle ∨ s.flag F.DMA_STATUS_BUSERR then s.setFlag F.DMA_CH_STATUS_START_IGN true c
    else dmaLoad s c (s.fld F.DMA_CH_DESC_OFFSET c))

def execDmaStart (c : Fin 32) (s : State) : Result := .next (dmaStart c s)

/-- Power admission grants a heavy descriptor (R551). -/
def dmaGranted (s : State) (c : Fin 32) : State := if s.dmaState c = DmaSt.admission then s.setDmaState c DmaSt.active else s

/-- Power admission refuses a heavy descriptor (R596). -/
def dmaRefused (s : State) (c : Fin 32) : State := dmaCause (s.setDmaState c DmaSt.active) c 1

/-- DMA_ABORT (R548). -/
def dmaAbort (c : Fin 32) (s : State) : State :=
  (if s.dmaState c = DmaSt.idle ∨ s.dmaState c = DmaSt.stopping then s
    else (dmaCause s c 1).modDma c (fun x => { x with aborted := true }))

def execDmaAbort (c : Fin 32) (s : State) : Result := .next (dmaAbort c s)

/-- DMA_FLUSH (R543). -/
def dmaFlush (c : Fin 32) (s : State) : State :=
  (if s.dmaState c = DmaSt.active ∧ (match dmaBound s c with | some (n, tdc) => decide (1 ≤ queueCount s n tdc) | none => false) = true then s.modDma c (fun x => { x with flush := true }) else s)

def execDmaFlush (c : Fin 32) (s : State) : Result := .next (dmaFlush c s)

/-- CLR_BUSERR (R549). -/
def execClrBuserr (s : State) : Result := .next (s.setFlag F.DMA_STATUS_BUSERR false)

/-- The status a descriptor ends with (R546, R548): the cause that arose, or OK once every byte is written. An abort that leaves nothing
is OK. -/
def dmaStatus (x : DmaChannel) : Option Nat :=
  let whole := match x.desc with | some d => decide (x.written = d.len) | none => false
  match x.ending with
  | some 1 => some (if whole then 0 else 1)
  | some st => some st
  | none => if whole then some 0 else none

/-- The write-back of bytes 48 to 63 (R536, R547). -/
def dmaWriteBack (s : State) (off st residue : Nat) (x : DmaChannel) : State :=
  (s.storeWrite .central (off + 48) ([BitVec.ofNat 8 st, BitVec.ofNat 8 (bit01 x.locked + 2 * bit01 x.dropped), 0, 0] ++ toBytes 4 residue ++
    toBytes 8 s.beat)).1

/-- The end of a descriptor whose bursts are complete (R547). -/
def dmaEnd (s : State) (c : Fin 32) : State :=
  let x := s.dmaCh c
  match dmaStatus x with
  | none => s
  | some st =>
    let off := s.fld F.DMA_CH_DESC_OFFSET c
    let residue := match x.desc with | some d => d.len - x.written | none => 0
    let wb := match x.desc with | some d => d.wb && decide (st ≠ 2) && s.storeOn .central | none => false
    let s := if wb then dmaWriteBack s off st residue x else s
    let s := s.wr .DMA_CH_RESIDUE (BitVec.ofNat 32 residue) c
    let s := s.setFld F.DMA_CH_STATUS_STATUS st c
    let s := s.releaseAdmission 6 c
    let s := if st = 0 then (s.count .DMA_CH_DESCS c).setFlag F.DMA_CH_STATUS_DONE true c else s.setFlag F.DMA_CH_STATUS_ERR true c
    let chain := match x.desc with | some d => decide (st = 0) && d.chain && !x.aborted | none => false
    let evt := match x.desc with | some d => decide (st ≠ 0) || d.evt | none => true
    let s := if evt then s.event EvCode.DMA 16 c (st + off / 64 % 2 ^ 18 * 2 ^ 5 + bit01 (!chain) * 2 ^ 23) else s
    match chain, x.desc with
    | true, some d => dmaLoad s c d.next
    | _, _ => (s.setDmaState c DmaSt.idle).modDma c (fun x => { DmaChannel.initial with tagNo := x.tagNo })

/-- DMA_DESC_END (R547). -/
def execDmaDescEnd (c : Fin 32) (s : State) : Result :=
  .next (if s.dmaState c ≠ DmaSt.idle ∧ (dmaBursts s c).isEmpty then dmaEnd s c else s)

/-- So many bytes leave the queue that a channel is bound to (R542, R549). -/
def dmaTakeWindow (s : State) (c : Fin 32) (bytes : Nat) : State :=
  match dmaBound s c with
  | some (n, true) => s.modSl n (fun y => { y with tdc := { y.tdc with queue := y.tdc.queue.drop (bytes / 16) } })
  | some (n, false) => s.modSl n (fun y => { y with mad := { y.mad with queue := y.mad.queue.drop (bytes / 8) } })
  | none => s

/-- DMA_BUS_ERROR (R549): granted bursts run to their end without writing, and what they take from a queue is counted as dropped. -/
def execDmaBusError (s : State) : Result :=
  .next (
    let s := (List.finRange 32).foldl (fun s c =>
      if s.dmaState c = DmaSt.idle then s
      else
        let s := if (dmaBound s c).isSome then dmaTakeWindow s c (((dmaBursts s c).map DmaBurst.len).sum) else s
        let lost := if (dmaBound s c).isSome then ((dmaBursts s c).map DmaBurst.len).sum else 0
        let s := s.countBy .DMA_CH_DROPPED lost c
        let s := if lost = 0 then s else s.modDma c (fun x => { x with dropped := true })
        let s := s.modDma c (fun x => { x with ending := some 2, endAt := s.now })
        let s := if s.dmaState c = DmaSt.admission then s.releaseAdmission 6 c else s
        dmaEnd { s with dma := { s.dma with bursts := s.dma.bursts.filter (fun b => b.ch ≠ c) } } c) s
    let s := (s.setFlag F.DMA_STATUS_BUSERR true).setPair .DMA_BUSERR_BEAT_LO .DMA_BUSERR_BEAT_HI s.beat
    (s.count .DMA_BUSERRS).raise Src.DMA_BUS Scope.device 0)

/-- DMA_REMOTE_TIMEOUT (R546): a packet of a channel has waited CTP_TUNNEL_TMO for its completion. -/
def execDmaRemoteTimeout (c : Fin 32) (s : State) : Result :=
  .next (
    let tmo := max 1 (s.fld F.CTP_TUNNEL_TMO_TMO) * 25000
    let late (p : DmaPart) : Bool := p.reply.isNone && decide (p.sentAt + tmo ≤ s.now)
    if s.dma.bursts.any (fun b => b.ch == c.val && b.parts.any late) then
      let s := { s with dma := { s.dma with bursts := s.dma.bursts.map (fun b =>
        if b.ch = c.val then { b with parts := b.parts.map (fun p => if late p then { p with reply := some (1, []) } else p) } else b) } }
      (dmaCause s c 9).setFld F.DMA_CH_STATUS_RSTATUS 1 c
    else s)

/-- Every channel that has an endpoint in a slice ends with a status (R86, R89, R546). -/
def dmaEndSlice (s : State) (n : Fin 16) (st : Nat) : State :=
  (List.finRange 32).foldl (fun s c => if dmaInSlice s c n then dmaCause s c st else s) s

/-- Every channel that targets a slice store ends with a status (R86). -/
def dmaEndStore (s : State) (n : Fin 16) (st : Nat) : State :=
  (List.finRange 32).foldl (fun s c => if dmaTargetsStoreBy s c (.slice n) then dmaCause s c st else s) s

/-- Every channel ends with FAULT in the safe state (R546). -/
def dmaEndAll (s : State) (st : Nat) : State := (List.finRange 32).foldl (fun s c => dmaCause s c st) s

end Sys2Proof.Machine
end

