-- ==== Sys2Proof/Machine/Wheel.lean ====
section
/-!
DEFINITION. The slot wheel and the power states of the stores (The Beat, the Slot Wheel and the Slice Stores, R40 to
R61).
-/

namespace Sys2Proof.Machine

/-- The first wheel boundary at or after a beat (R40). -/
def wheelBoundary (b : Nat) : Nat := (b + 15) / 16 * 16

/-- SLC_WHEEL_STATUS.STATE: 0 STOPPED, 1 STARTING, 2 RUNNING, 3 STOPPING (R64). -/
def wheelState (s : State) (n : Fin 16) : Nat := s.fld F.SLC_WHEEL_STATUS_STATE n

def setWheelState (s : State) (n : Fin 16) (v : Nat) : State := s.setFld F.SLC_WHEEL_STATUS_STATE v n

def modWheel (s : State) (n : Fin 16) (f : Wheel → Wheel) : State := s.modSl n (fun x => { x with wheel := f x.wheel })

/-- SLC_WHEEL_CTRL.START (R52, R63). -/
def wheelStart (s : State) (n : Fin 16) : State :=
  if wheelState s n ≠ 0 then s
  else
    let dflt := wheelBoundary (s.beat + 2)
    let named := s.pair .SLC_WHEEL_START_LO .SLC_WHEEL_START_HI n
    let use := s.fld F.SLC_WHEEL_CTRL_USE_START_BEAT n = 1
    let late := use ∧ ¬(named % 16 = 0 ∧ s.beat + 2 ≤ named)
    let b := if use ∧ ¬late then named else dflt
    let s := modWheel s n (fun w => { w with startAt := s.now + (b - s.beat) })
    let s := setWheelState s n 1
    if late then s.setFld F.SLC_WHEEL_STATUS_START_LATE 1 n else s

/-- The start wheel boundary is reached (R50, R52); the journal takes an ANCHOR (R666). -/
def wheelRunning (s : State) (n : Fin 16) : State :=
  if wheelState s n = 1 ∧ (s.sl n).wheel.startAt ≤ s.now then
    (setWheelState s n 2).journal JType.ANCHOR n.val n.val 0
  else s

/-- SLC_WHEEL_CTRL.STOP (R50, R63): the rotation in progress completes. -/
def wheelStop (s : State) (n : Fin 16) : State :=
  if wheelState s n = 2 then
    setWheelState (modWheel s n (fun w => { w with stopAt := s.now + (wheelBoundary (s.beat + 1) - s.beat) })) n 3
  else s

/-- The wheel boundary after the stop (R50). -/
def wheelStopped (s : State) (n : Fin 16) : State :=
  if wheelState s n = 3 ∧ (s.sl n).wheel.stopAt ≤ s.now then setWheelState s n 0 else s

/-- SLC_WHEEL_CTRL.COMMIT (R45): the copy is due at the first wheel boundary of the second beat after the write or later. -/
def wheelCommit (s : State) (n : Fin 16) : State :=
  (modWheel s n (fun w => { w with copyAt := s.now + (wheelBoundary (s.beat + 2) - s.beat) })).setFld
    F.SLC_WHEEL_STATUS_COMMIT_PEND 1 n

/-- The shadow map of SLC_WHEEL_MAP, slot by slot (R45, R65). -/
def shadowMap (s : State) (n : Fin 16) : Vector (BitVec 4) 64 :=
  Vector.ofFn (fun i : Fin 64 => BitVec.ofNat 4 (bitsAt (s.rd .SLC_WHEEL_MAP n (i.val / 4)).toNat (4 * (i.val % 4)) 4))

/-- The slots of a map that no master owns. -/
def freeSlots (m : Vector (BitVec 4) 64) : Nat := (m.toList.filter (· = 0)).length

/-- Take a map as the active one and show its free slots (R64). -/
def setActiveMap (s : State) (n : Fin 16) (m : Vector (BitVec 4) 64) : State :=
  (modWheel s n (fun w => { w with map := m })).setFld F.SLC_WHEEL_STATUS_FREE (freeSlots m) n

/-- A commit is refused if it assigns a slot while the store is not ON, or assigns a reserved code (R41, R46). -/
def mapRefused (s : State) (n : Fin 16) (m : Vector (BitVec 4) 64) : Bool :=
  m.toList.any (fun c => decide (5 < c.toNat)) || (!s.storeOn (.slice n) && m.toList.any (· ≠ 0))

/-- The wheel boundary at which the shadow is copied or the commit refused (R45, R46). -/
def mapCopy (s : State) (n : Fin 16) : State :=
  if s.fld F.SLC_WHEEL_STATUS_COMMIT_PEND n = 1 ∧ (s.sl n).wheel.copyAt ≤ s.now then
    let m := shadowMap s n
    let s := s.setFld F.SLC_WHEEL_STATUS_COMMIT_PEND 0 n
    if mapRefused s n m then s.setFld F.SLC_WHEEL_STATUS_MAP_ERR 1 n else setActiveMap s n m
  else s

/-! ### Store power (R55 to R61) -/

/-- A live reload of slice `n` lies between G and R (R56, R83, R98). -/
def State.reloadTargets (s : State) (n : Fin 16) : Bool :=
  s.flag F.GLB_IMG_STATUS_BUSY && s.img.op == 1 && s.img.slice == n.val

/-- A transfer targets the store: a DMA channel with part of its range there, a pending access of an unscheduled
requester, or the staging of a live reload (R56). -/
def storeTargeted (s : State) (id : StoreId) : Bool :=
  s.dmaTargetsStore id || !(s.store id).waiting.isEmpty ||
    (match id with
     | .slice n => s.reloadTargets n
     | .central => s.flag F.GLB_IMG_STATUS_BUSY && decide (s.img.op ≠ 2))

/-- Refuse a store power request with a reason (R56, R66). -/
def refuseStorePower (s : State) (id : StoreId) (reason : Nat) : State :=
  match id with
  | .slice n => (s.setFld F.SLC_STORE_PWR_REFUSED 1 n).setFld F.SLC_STORE_PWR_REASON reason n
  | .central => (s.setFld F.GLB_CSTORE_PWR_REFUSED 1).setFld F.GLB_CSTORE_PWR_REASON reason

/-- Some slot of the slice's active map is assigned. -/
def slotsAssigned (s : State) : StoreId → Bool
  | .slice n => (s.sl n).wheel.map.toList.any (· ≠ 0)
  | .central => false

/-- A transition towards `target` begins; it may end at tick `due`. -/
def beginTransition (s : State) (id : StoreId) (target : Nat) (due : Option Nat) : State :=
  (s.setStore id { s.store id with pwrTarget := target, pwrDue := due }).setStorePower id 3

/-- All four management cores are halted and the journal is disabled (R61). -/
def centralMaySleep (s : State) : Bool := s.fld F.MGT_STATUS_CORES == 0 && s.fld F.RPL_CFG_EN == 0

/-- A write of a store's power request, checked and carried out (R56 to R61, R587). -/
def storePowerRequest (s : State) (id : StoreId) (req : Nat) : State :=
  let asleep : Bool := match id with
    | .slice n => decide (s.fld F.PWR_DOM_STATE n.val ≠ 0)
    | .central => false
  if asleep then s
  else
    let s := match id with
      | .slice n => s.setFld F.SLC_STORE_PWR_REQ req n
      | .central => s.setFld F.GLB_CSTORE_PWR_REQ req
    let st := s.storePower id
    if req = 3 then refuseStorePower s id 4
    else if st = 3 then refuseStorePower s id 3
    else if req = st then s
    else if req = 0 then
      if st = 1 then beginTransition s id 0 (some (s.now + 500))
      else
        match id with
        | .slice n => (beginTransition s id 0 none).askAdmission 7 n.val
        | .central => s
    else if req = 2 ∧ id = .central then refuseStorePower s id 5
    else if slotsAssigned s id then refuseStorePower s id 1
    else if storeTargeted s id then refuseStorePower s id 2
    else if id = .central ∧ !centralMaySleep s then refuseStorePower s id 6
    else
      let s := match id with
        | .slice n => if st = 0 then s.releaseAdmission 7 n.val else s
        | .central => s
      beginTransition s id req (some (s.now + 250))

/-- A granted entry into RETAIN or OFF completes; OFF loses the contents (R55, R57). -/
def storePowerSettled (s : State) (id : StoreId) : State :=
  let st := s.store id
  if s.storePower id = 3 ∧ st.pwrTarget ≠ 0 then
    let s := if st.pwrTarget = 2 then
        s.setStore id { st with bytes := [], single := [], double := [], rewrite := [], pwrDue := none }
      else s.setStore id { st with pwrDue := none }
    s.setStorePower id st.pwrTarget
  else s

/-- A wake completes when its time has come; from OFF every line now reads zero (R58). The scrubber goes on at its next line (R38). -/
def storeWakeDone (s : State) (id : StoreId) : State :=
  let st := s.store id
  match st.pwrDue with
  | some t =>
    if s.storePower id = 3 ∧ st.pwrTarget = 0 ∧ t ≤ s.now then
      (s.setStore id { st with pwrDue := none, scrubDue := s.now }).setStorePower id 0
    else s
  | none => s

/-! ### The commands -/

def execWheelStart (n : Fin 16) (s : State) : Result := .next (wheelStart s n)
def execWheelRunning (n : Fin 16) (s : State) : Result := .next (wheelRunning s n)
def execWheelStop (n : Fin 16) (s : State) : Result := .next (wheelStop s n)
def execWheelStopped (n : Fin 16) (s : State) : Result := .next (wheelStopped s n)
def execWheelCommit (n : Fin 16) (s : State) : Result := .next (wheelCommit s n)
def execMapCopy (n : Fin 16) (s : State) : Result := .next (mapCopy s n)
def execStorePwrReq (id : StoreId) (req : BitVec 2) (s : State) : Result := .next (storePowerRequest s id req.toNat)
def execStorePwrSettled (id : StoreId) (s : State) : Result := .next (storePowerSettled s id)
def execStoreWakeDone (id : StoreId) (s : State) : Result := .next (storeWakeDone s id)

end Sys2Proof.Machine
end

