-- ==== Sys2Proof/Machine/Calibrate.lean ====
section
/-!
DEFINITION. Background calibration and the calibration vault: correction sets, gaps, dither steps, switches, foreground runs and
the records in the flash (Background Calibration and the Calibration Vault, R610 to R633).
-/

namespace Sys2Proof.Machine

/-! ### Converters and their sets (R610 to R612) -/

/-- The kinds of converter (R610). -/
inductive ConvKind where
  | tx (k : Fin 4)
  | rx (j : Fin 2)
  | ff (f : Fin 8)
  | tdc (c : Fin 8)
  | mad
  | central
deriving DecidableEq, Repr

/-- The slice of a converter; that of converter 368 is not used. -/
def convSlice (i : Fin 369) : Fin 16 := ⟨i.val / 23 % 16, by omega⟩

/-- The kind of a converter (R610). -/
def convKind (i : Fin 369) : ConvKind :=
  if i.val = 368 then .central
  else
    let l := i.val % 23
    if l < 4 then .tx ⟨l % 4, by omega⟩
    else if l < 6 then .rx ⟨(l - 4) % 2, by omega⟩
    else if l < 14 then .ff ⟨(l - 6) % 8, by omega⟩
    else if l < 22 then .tdc ⟨(l - 14) % 8, by omega⟩
    else .mad

/-- The words of a set (R629). -/
def ConvKind.words : ConvKind → Nat
  | .tx _ | .ff _ | .mad => 64
  | .rx _ | .tdc _ | .central => 128

/-- The beats of a dither step, and the steps (for a TDC the hits) of a dither block (R610). -/
def ConvKind.stepBeats : ConvKind → Nat
  | .tx _ | .rx _ => 64
  | .ff _ | .mad => 125
  | .tdc _ | .central => 16

def ConvKind.blockSteps : ConvKind → Nat
  | .tx _ | .mad => 256
  | .rx _ => 512
  | .ff _ => 64
  | .tdc _ | .central => 2 ^ 20

/-- The converter has live statistics (R610). -/
def ConvKind.live : ConvKind → Bool
  | .ff _ | .mad => false
  | _ => true

/-- A converter's calibration. -/
def calConv (s : State) (i : Fin 369) : CalConv := SMap.get (fun _ => CalConv.initial) s.cal.conv i

/-- Change a converter's calibration. -/
def modCal (s : State) (i : Fin 369) (f : CalConv → CalConv) : State :=
  { s with cal := { s.cal with conv := SMap.put natLt (fun _ => CalConv.initial) s.cal.conv i (f (calConv s i)) } }

/-- A word of the active set; those of a measure converter are its registers (R610). -/
def activeWord (s : State) (i : Fin 369) (w : Nat) : Nat :=
  if convKind i = .mad then
    let n := convSlice i
    if w < 10 then (s.rd .MAD_SCF n w).toNat
    else if w < 26 then (s.rd .MAD_SYSC_OFF n (w - 10)).toNat
    else if w < 42 then (s.rd .MAD_SYSC_GAIN n (w - 26)).toNat
    else 0
  else SMap.get identityWord s.cal.sets (calKey i 0 w)

/-- A word of the staged set. -/
def stagedWord (s : State) (i : Fin 369) (w : Nat) : Nat := SMap.get identityWord s.cal.sets (calKey i 1 w)

/-- A word of a bank as CAL_SET reads it (R633). -/
def calWord (s : State) (i : Fin 369) (bank w : Nat) : Nat :=
  if (convKind i).words ≤ w then 0 else if bank = 0 then activeWord s i w else stagedWord s i w

/-- Words of a set that are reserved and read zero (R610, R629). -/
def ConvKind.reserved (k : ConvKind) (w : Nat) : Bool :=
  match k with
  | .tx _ | .ff _ => w == 63
  | .rx _ => w % 4 == 3
  | .mad => decide (42 ≤ w)
  | .tdc _ | .central => false

/-- Put a word of the active set. -/
def putActive (s : State) (i : Fin 369) (w v : Nat) : State :=
  if convKind i = .mad then
    let n := convSlice i
    if w < 10 then s.wr .MAD_SCF (BitVec.ofNat 32 (v % 2 ^ 18)) n w
    else if w < 26 then s.wr .MAD_SYSC_OFF (BitVec.ofNat 32 (v % 2 ^ 18)) n (w - 10)
    else if w < 42 then s.wr .MAD_SYSC_GAIN (BitVec.ofNat 32 (v % 2 ^ 18)) n (w - 26)
    else s
  else { s with cal := { s.cal with sets := SMap.put natLt identityWord s.cal.sets (calKey i 0 w)
                                              (if (convKind i).reserved w then 0 else v % 2 ^ 32) } }

/-- A write of CAL_SET to the staged bank (R617, R633). -/
def stagedWrite (s : State) (i : Fin 369) (w v : Nat) : State :=
  if (convKind i).words ≤ w ∨ (convKind i).reserved w then s
  else if s.flag F.CAL_CONV_STATUS_PEND i then s.setFlag F.CAL_CONV_STATUS_STAGE_IGN true i
  else { s with cal := { s.cal with sets := SMap.put natLt identityWord s.cal.sets (calKey i 1 w) (v % 2 ^ 32) } }

/-- What a switch leaves in the status of a converter (R618, R622, R623, R631). -/
def setSource (s : State) (i : Fin 369) (src : Nat) : State :=
  let s := ((s.setFld F.CAL_CONV_STATUS_SRC src i).setFlag F.CAL_CONV_STATUS_STALE false i).setFlag F.CAL_CONV_STATUS_NEEDS_FG false i
  s.wr .CAL_AGE 0 i

/-- The pending switch is over (R617). -/
def clearPend (s : State) (i : Fin 369) : State :=
  (s.setFlag F.CAL_CONV_STATUS_PEND false i).setFlag F.CAL_CONV_STATUS_PEND_AT false i

/-- The words that a switch to the staged set replaces (R610). -/
def switchWords (k : ConvKind) : Nat := if k = .mad then 10 else k.words

/-- The whole active set switches (R618 to R621): the journal takes CAL_SWITCH and the words. An APPLYF of the same boundary comes second, so
its words stay (R620). -/
def calSwitch (s : State) (i : Fin 369) (words : List Nat) (src : Nat) : State :=
  let held := convKind i == .mad && (s.sl (convSlice i)).mad.applyfAt == some s.now
  let s := words.zipIdx.foldl (fun s x => if held && decide (x.2 < 10) then s else putActive s i x.2 x.1) s
  let s := (setSource (clearPend s i) i src).wr .CAL_APPLIED (BitVec.ofNat 32 s.beat) i
  let pairs := (words.length + 1) / 2
  let s := s.journal JType.CAL_SWITCH 16 i (src + pairs * 2 ^ 8)
  (List.range pairs).foldl (fun s k => s.journal JType.CAL_WORDS 16 k (words.getD (2 * k) 0 % 2 ^ 32 + words.getD (2 * k + 1) 0 % 2 ^ 32 * 2 ^ 32)) s

/-- The pending switch is made. -/
def calSwitchStaged (s : State) (i : Fin 369) : State :=
  calSwitch s i ((List.range (switchWords (convKind i))).map (stagedWord s i)) (calConv s i).pendSrc

/-! ### Gaps (R615, R616) -/

/-- The device is in the safe state or recovers from it (R642). -/
def State.inSafe (s : State) : Bool := decide (s.fld F.FLT_STATUS_STATE ≠ 0)

/-- A slice is in no gap because of what happens to it (R615). -/
def gapBarred (s : State) (n : Fin 16) : Bool :=
  (s.sl n).reloading || (s.sl n).isolated || s.inSafe || s.fld F.CAL_FG_STATUS_STATE n != 0

/-- The resolving edge of a SYNC has been fixed (R448, R615). -/
def edgeFixed (s : State) (kind line : Nat) : Bool :=
  (List.range 16).any (fun d => decide (d ≤ s.now) &&
    (let k : Int := (s.now : Int) - d
     lineLevelAt s line k != lineLevelAt s line (k - 1) && lineLevelAt s line k == (kind == 0)))

/-- The gap that a slice offers a local converter at the present boundary: its first tick, and its end where that is known. -/
def gapOf (s : State) (n : Fin 16) (conv : Nat) : Option (Nat × Option Nat) :=
  if gapBarred s n then none
  else match (s.sl n).seq.pend with
    | some q =>
      match q.instr with
      | .idle beats offer =>
        if offer.getLsbD conv ∧ q.issued + 16 ≤ s.now ∧ s.now < q.issued + beats.toNat then some (q.issued + 16, some (q.issued + beats.toNat)) else none
      | .sync kind id _ =>
        if s.flag F.CAL_CFG_SHOT_GAP ∧ kind.toNat < 2 ∧ q.issued + 16 ≤ s.now ∧ !edgeFixed s kind.toNat id.toNat then some (q.issued + 16, none) else none
      | _ => none
    | none =>
      let h := s.cal.haltSince.get n
      if s.flag F.CAL_CFG_HALT_GAP ∧ h ≠ 0 ∧ h + 15 ≤ s.now ∧ (seqState s n = SeqCode.halted ∨ seqState s n = SeqCode.error) then some (h + 15, none) else none

/-- The measure ADC is quiet (R616). -/
def madQuiet (s : State) (n : Fin 16) : Bool := madState s n == 0 && !s.flag F.MAD_STATUS_PEND n && !madHeld s n

/-- A converter's own condition of quiet at the present boundary (R616). -/
def convStill (s : State) (i : Fin 369) : Bool :=
  let n := convSlice i
  match convKind i with
  | .tx k => (txCh s n k).quiet
  | .rx _ => true
  | .ff f => ffStateOf s n f == 0
  | .tdc c => tdcState s n c == 0
  | .mad => madQuiet s n
  | .central => true

/-- A converter is quiet for a dither step; an FF step also needs the measure ADC (R616). -/
def convQuiet (s : State) (i : Fin 369) : Bool :=
  convStill s i && (match convKind i with | .ff _ => madQuiet s (convSlice i) | _ => true)

/-- The gap of a converter; the central TDC takes its steps between scheduled stamps (R610). -/
def convGap (s : State) (i : Fin 369) : Option (Nat × Option Nat) :=
  if convKind i = .central then some (0, none) else gapOf s (convSlice i) (i.val % 23)

/-- Calibration is held back because firmware sheds load (R624). -/
def calShed (s : State) : Bool := s.flag F.MGT_STATUS_SHED

/-- The analogue domain of a converter is ON. -/
def convPowered (s : State) (i : Fin 369) : Bool := convKind i == .central || s.analogOn (convSlice i)

/-- A converter takes dither tests (R614). -/
def ditherWanted (s : State) (i : Fin 369) : Bool :=
  s.flag F.CAL_CONV_STATUS_DITHER_NEED i || s.flag F.CAL_CONV_CTRL_FORCE_DITHER i || !(convKind i).live || convKind i == .central

/-! ### Blocks and dither steps (R613 to R616) -/

/-- A block is complete: the firmware takes it, or it displaces the one before (R613, R624). -/
def blockDone (s : State) (i : Fin 369) (taken : Bool) : State :=
  let miss := (calConv s i).block && (!taken || calShed s)
  let s := if miss then s.setFlag F.CAL_STATUS_BLOCK_MISS true else s
  modCal s i (fun c => { c with block := true })

/-- The converter is active (R613). -/
def convActive (s : State) (i : Fin 369) : Bool :=
  let n := convSlice i
  match convKind i with
  | .tx k => txPwr s n k == 3
  | .rx j => rxPwr s n j == 3
  | .tdc c => s.flag F.TDC_CFG_EN n c && s.analogOn n
  | .central => true
  | _ => false

/-- CAL_BLOCK_COMPLETE (R613). -/
def execCalBlockComplete (i : Fin 369) (pass taken : Bool) (s : State) : Result :=
  .next (
    if !(convKind i).live ∨ !convActive s i then s
    else if pass ∨ convKind i = .central then blockDone (s.setFlag F.CAL_CONV_STATUS_DITHER_NEED false i) i taken
    else s.setFlag F.CAL_CONV_STATUS_DITHER_NEED true i)

/-- CAL_DITHER_STEP (R614, R616): the step starts where the converter is quiet and the step fits. -/
def execCalDitherStep (i : Fin 369) (s : State) : Result :=
  .next (match convGap s i with
    | none => s
    | some (first, stop) =>
      let len := (convKind i).stepBeats
      let fits : Bool := match stop with | some t => decide (s.now + len ≤ t) | none => true
      if (s.flag F.CAL_CFG_ENABLE && !calShed s && ditherWanted s i && convPowered s i && (calConv s i).step.isNone && decide (first + 2 ≤ s.now) &&
          fits && convQuiet s i) = true then
        (modCal s i (fun c => { c with step := some s.now })).setFlag F.CAL_CONV_STATUS_TESTING true i
      else s)

/-- A step goes on: its converter is quiet, in a gap, and powered (R615, R616). -/
def ditherHolds (s : State) (i : Fin 369) : Bool := convQuiet s i && (convGap s i).isSome && convPowered s i

/-- No step runs any more. -/
def ditherStop (s : State) (i : Fin 369) : State :=
  (modCal s i (fun c => { c with step := none })).setFlag F.CAL_CONV_STATUS_TESTING false i

/-- The steps that end early at this boundary contribute nothing to their blocks (R616). -/
def ditherBeat (s : State) : State :=
  s.cal.conv.foldl (fun s e =>
    let i : Fin 369 := ⟨e.1 % 369, by omega⟩
    match e.2.step with
    | some t => if t + (convKind i).stepBeats ≤ s.now ∨ ditherHolds s i then s else ditherStop s i
    | none => s) s

/-- CAL_DITHER_STEP_END (R616): a whole step counts in its block, a step that ends early does not. -/
def execCalDitherStepEnd (i : Fin 369) (hits : Nat) (s : State) : Result :=
  .next (match (calConv s i).step with
    | none => s
    | some t =>
      let k := convKind i
      if t + k.stepBeats ≤ s.now then
        let s := ditherStop s i
        let steps := (calConv s i).steps + (match k with | .tdc _ | .central => hits | _ => 1)
        if k.blockSteps ≤ steps then blockDone (modCal s i (fun c => { c with steps := 0 })) i (!calShed s)
        else modCal s i (fun c => { c with steps := steps })
      else if ditherHolds s i then s
      else ditherStop s i)

/-! ### Staging and switching (R617 to R621) -/

/-- The source of a set by the path that staged it (R617, R633). -/
def stageSource : Path → Nat
  | .management => 4
  | _ => 5

/-- STAGE (R617). -/
def calStage (path : Path) (i : Fin 369) (s : State) : State :=
  (if s.flag F.CAL_CONV_STATUS_PEND i then s.setFlag F.CAL_CONV_STATUS_STAGE_IGN true i
    else (modCal s i (fun c => { c with pendSrc := stageSource path })).setFlag F.CAL_CONV_STATUS_PEND true i)

def execStage (path : Path) (i : Fin 369) (s : State) : Result := .next (calStage path i s)

/-- A named apply waits: between D and R of a live reload of the slice, or while a foreground run has the converter (R620). -/
def namedBarred (s : State) (i : Fin 369) : Bool :=
  convKind i != .central && ((s.sl (convSlice i)).reloading || s.fld F.CAL_FG_STATUS_STATE (convSlice i) != 0)

/-- STAGE_AT (R617, R619): a beat that has passed switches the set at once; in a replay the switches of the journal act instead (R675). -/
def calStageAt (path : Path) (i : Fin 369) (s : State) : State :=
  (if s.flag F.CAL_CONV_STATUS_PEND i then s.setFlag F.CAL_CONV_STATUS_STAGE_IGN true i
    else
      let t := s.pair .CAL_APPLY_AT_LO .CAL_APPLY_AT_HI
      let s := modCal s i (fun c => { c with pendSrc := stageSource path, pendTick := s.now + (t - s.beat) })
      let s := (s.setFlag F.CAL_CONV_STATUS_PEND true i).setFlag F.CAL_CONV_STATUS_PEND_AT true i
      if t < s.beat then (if namedBarred s i || s.rpl.replaying then s else calSwitchStaged s i).setFlag F.CAL_CONV_STATUS_LATE true i else s)

def execStageAt (path : Path) (i : Fin 369) (s : State) : Result := .next (calStageAt path i s)

/-- CANCEL (R617). -/
def execCancel (i : Fin 369) (s : State) : Result := .next (clearPend s i)

/-- The conditions of a gap apply (R618, R620, R624). The central TDC switches at a wheel boundary with no stamp due (R610). -/
def gapApplyOk (s : State) (i : Fin 369) : Bool :=
  let n := convSlice i
  s.flag F.CAL_CFG_ENABLE && !calShed s && !s.inSafe &&
  (match convKind i with
   | .central => s.beat % 16 == 0 && s.trg.pending.isEmpty
   | .rx j => (convGap s i).isSome &&
      (List.finRange 32).all (fun u => binRx u != j || (binOpen s n u).isNone) &&
      (List.finRange 4).all (fun (st : Fin 4) =>
        acqState s n st != 3 || (if (acq s n st).kind = 0 then (acq s n st).src != j.val else (acq s n st).src / 16 != j.val))
   | .mad => (convGap s i).isSome && convStill s i && (s.sl n).mad.slot.isNone
   | _ => (convGap s i).isSome && convStill s i)

/-- CAL_GAP_APPLY (R618); in a replay the switches of the journal act instead (R675). -/
def execCalGapApply (i : Fin 369) (s : State) : Result :=
  .next (if s.flag F.CAL_CONV_STATUS_PEND i ∧ !s.flag F.CAL_CONV_STATUS_PEND_AT i ∧ gapApplyOk s i ∧ !s.rpl.replaying then calSwitchStaged s i else s)

/-- CAL_NAMED_APPLY (R619, R620). -/
def execCalNamedApply (i : Fin 369) (s : State) : Result :=
  .next (
    if s.flag F.CAL_CONV_STATUS_PEND_AT i ∧ (calConv s i).pendTick ≤ s.now ∧ !namedBarred s i ∧ !s.rpl.replaying then calSwitchStaged s i else s)

/-! ### Ages (R622, R623) -/

/-- One age counts, and turns stale (R622, R623). -/
def ageOne (s : State) (i : Fin 369) : State :=
  let s := s.count .CAL_AGE i
  let stale := s.fld F.CAL_CFG_STALE * 16
  if stale ≠ 0 ∧ stale ≤ (s.rd .CAL_AGE i).toNat ∧ !s.flag F.CAL_CONV_STATUS_STALE i then
    ((s.setFlag F.CAL_CONV_STATUS_STALE true i).setFlag F.CAL_STATUS_STALE true).raise Src.CAL_STALE
      (if i.val = 368 then Scope.device else i.val / 23) i
  else s

/-- CAL_AGE_TICK: a 1 ms block of 250,000 beats ends (R622). -/
def execCalAgeTick (s : State) : Result :=
  .next (if s.cal.agedAt + 250000 ≤ s.now then
      (List.finRange 369).foldl ageOne { s with cal := { s.cal with agedAt := s.cal.agedAt + 250000 } }
    else s)

/-! ### Foreground calibration (R625, R626) -/

/-- The conditions of a START (R625). -/
def fgAllowed (s : State) (n : Fin 16) : Bool :=
  wheelState s n == 0 && (seqState s n == SeqCode.halted || seqState s n == SeqCode.error) && s.coreOn n && s.analogOn n &&
    (List.finRange 8).all (fun f => ffStateOf s n f != 1 && ffStateOf s n f != 2) && !s.reloadTargets n && s.fld F.CAL_FG_STATUS_STATE n == 0

/-- FG_START (R625). -/
def fgStart (s : State) (n : Fin 16) : State :=
  if fgAllowed s n then (s.setFld F.CAL_FG_STATUS_STATE 1 n).askAdmission 4 n
  else (s.setFld F.CAL_FG_STATUS_RESULT 3 n).setFlag F.CAL_FG_STATUS_FAIL true n

/-- Power admission grants a run (R625). -/
def fgGranted (s : State) (n : Fin 16) : State :=
  if s.fld F.CAL_FG_STATUS_STATE n = 1 then
    { s with cal := { s.cal with fgStart := s.cal.fgStart.set n.val s.now n.isLt } }.setFld F.CAL_FG_STATUS_STATE 2 n
  else s

def execFgStart (n : Fin 16) (s : State) : Result := .next (fgStart s n)
def execFgAbort (n : Fin 16) (s : State) : Result := .next (fgStop s n 4)

/-- The wheel left STOPPED, or something took the slice (R626). -/
def fgDisturbed (s : State) (n : Fin 16) : Bool :=
  wheelState s n != 0 || (s.sl n).reloading || (s.sl n).isolated || s.inSafe || s.domState n != 0 || s.domState (16 + n.val) != 0

/-- The run ends well: all 23 sets switch (R626). -/
def fgApply (s : State) (n : Fin 16) (sets : List (List (BitVec 32))) : State :=
  (List.finRange 369).foldl (fun s i =>
    if i.val = 368 ∨ i.val / 23 ≠ n.val then s
    else
      let words := (List.range (switchWords (convKind i))).map (fun w => ((sets.getD (i.val % 23) []).getD w 0).toNat)
      (calSwitch s i words 3).setFlag F.CAL_CONV_STATUS_DITHER_NEED false i) s

/-- FG_END: 5,000,000 beats after the grant, or at once where something displaced the run (R625, R626). -/
def execFgEnd (n : Fin 16) (sets : Option (List (List (BitVec 32)))) (s : State) : Result :=
  .next (
    if s.fld F.CAL_FG_STATUS_STATE n ≠ 0 ∧ fgDisturbed s n then fgFinish s n 2
    else if s.fld F.CAL_FG_STATUS_STATE n = 2 ∧ s.cal.fgStart.get n + 5000000 ≤ s.now then
      match sets with
      | none => fgFinish s n 5
      | some l => fgFinish (fgApply s n l) n 0
    else s)

/-! ### The flash and the vault (R628 to R631) -/

/-- A byte of the flash; one that is not listed is erased. -/
def flashByte (b : Boot) (a : Nat) : Byte := SMap.get (fun _ => 0xFF) b.flash a

/-- Bytes of the flash. -/
def flashRead (b : Boot) (a k : Nat) : List Byte := (List.range k).map (fun i => flashByte b (a + i))

/-- Erase a range of the flash. -/
def flashErase (b : Boot) (a k : Nat) : Boot := { b with flash := b.flash.filter (fun e => !(decide (a ≤ e.1) && decide (e.1 < a + k))) }

/-- Program bytes: programming only clears bits. -/
def flashProgram (b : Boot) (a : Nat) (data : List Byte) : Boot :=
  { b with flash := data.zipIdx.foldl (fun m x => SMap.put natLt (fun _ => 0xFF) m (a + x.2) (x.1 &&& flashByte b (a + x.2))) b.flash }

/-- The flash address of a slot of a vault copy (R628, R685). -/
def vaultSlot (copy k r : Nat) : Nat := (if copy = 0 then 0x820000 else 0x930000) + (4 * k + r) * 0x4000

/-- The converters of a kind, in the order of its body (R629). -/
def kindConverters (k : Nat) : List (Fin 369) := (List.finRange 369).filter (fun i => if k = 16 then i.val == 368 else i.val != 368 && i.val / 23 == k)

/-- The words of a record's body (R629). -/
def recordWords (s : State) (k : Nat) : List Nat :=
  (kindConverters k).flatMap (fun i => (List.range (convKind i).words).map (activeWord s i))

/-- The newest source among the converters of a kind, in the code of the record (R629). A source that the code does not name leaves an
open value. -/
def recordSource (s : State) (k : Nat) : Nat :=
  let best := (kindConverters k).foldl (fun (b : Option (Fin 369)) i => match b with
    | none => some i
    | some j => if (s.rd .CAL_AGE i).toNat < (s.rd .CAL_AGE j).toNat then some i else b) none
  match best.map (fun i => s.fld F.CAL_CONV_STATUS_SRC i) with
  | some 1 => 1
  | some 3 => 2
  | some 4 => 3
  | some 5 => 4
  | _ => Config.openValue 19 s.now % 256

/-- The first 60 bytes of a record's header (R629). -/
def recordHead (s : State) (k seq : Nat) (body : List Nat) : List Byte :=
  let age := (kindConverters k).foldl (fun m i => max m (s.rd .CAL_AGE i).toNat) 0
  toBytes 4 0x1664CA11 ++ toBytes 2 1 ++ toBytes 1 k ++ toBytes 1 (recordSource s k) ++ toBytes 4 seq ++
    toBytes 8 (s.pair .KTL_UID_LO .KTL_UID_HI) ++ toBytes 4 (4 * body.length) ++ toBytes 4 age ++
    toBytes 8 (if s.tod.set then s.tod.time / (1000000000 * 2 ^ 30) else 0) ++ toBytes 24 0

/-- A whole record (R629). -/
def vaultRecord (s : State) (k seq : Nat) : List Byte :=
  let body := recordWords s k
  let head := recordHead s k seq body
  head ++ toBytes 4 (crc32c (head ++ wordsToBytes body)) ++ wordsToBytes body

/-- Ask for saves of kinds (R630). -/
def saveKinds (s : State) (ks : List Nat) : State :=
  ({ s with cal := { s.cal with saving := s.cal.saving ++ ks.filter (fun k => k ∉ s.cal.saving) } }).setFlag F.CAL_VAULT_STATUS_BUSY true

/-- SAVE (R630, R633). -/
def execSave (s : State) : Result := .next (saveKinds s (List.range 17))

/-- PERIODIC_VAULT_SAVE (R624, R630): at most once per SAVE_MIN minutes; a kind not yet saved may be saved at any time. -/
def execPeriodicVaultSave (k : Fin 17) (s : State) : Result :=
  .next (if !calShed s ∧ (s.cal.savedAt.get k = 0 ∨ s.cal.savedAt.get k + max 1 (s.fld F.CAL_CFG_SAVE_MIN) * 15000000000 ≤ s.now) then saveKinds s [k.val] else s)

/-- The save in progress stops or is done (R630). -/
def saveStop (s : State) (ok : Bool) : State :=
  let s := { s with cal := { s.cal with saving := [] } }.setFlag F.CAL_VAULT_STATUS_BUSY false
  if ok then s.setFlag F.CAL_VAULT_STATUS_DONE true
  else (s.setFlag F.CAL_VAULT_STATUS_FAIL true).setFlag F.CAL_STATUS_VAULT_ERR true

/-- VAULT_SAVE_END: the record of the next kind is written to both copies (R630). It waits while firmware sheds load or the flash port is
held (R624, R691). -/
def vaultSave (s : State) (ok0 ok1 : Bool) : State :=
  match s.cal.saving with
  | [] => s
  | k :: rest =>
    if calShed s ∨ s.boot.op.isSome then s
    else
      let seq := (s.cal.seq.toList.getD k 0 + 1) % 2 ^ 32
      let rec_ := vaultRecord s k seq
      let put (s : State) (copy : Nat) : State :=
        let a := vaultSlot copy k (seq % 4)
        { s with boot := flashProgram (flashErase s.boot a 0x4000) a rec_ }
      let s := s.setFld F.CAL_VAULT_STATUS_KIND k
      let s := { s with cal := { s.cal with seq := s.cal.seq.setIfInBounds k seq, savedAt := s.cal.savedAt.setIfInBounds k s.now } }
      let s := put s 0
      if !ok0 then saveStop s false
      else
        let s := put s 1
        if !ok1 then saveStop s false
        else if rest.isEmpty then saveStop s true
        else { s with cal := { s.cal with saving := rest } }

/-- A slot is valid (R631): its SEQ. -/
def slotSeq (s : State) (copy k r : Nat) : Option Nat :=
  let len := if k = 16 then 512 else 8448
  let l := flashRead s.boot (vaultSlot copy k r) (64 + len)
  let w (i n : Nat) : Nat := ofBytes ((l.drop i).take n)
  if w 0 4 = 0x1664CA11 ∧ w 4 2 = 1 ∧ w 6 1 = k ∧ w 12 8 = s.pair .KTL_UID_LO .KTL_UID_HI ∧ w 20 4 = len ∧
      w 60 4 = crc32c (l.take 60 ++ l.drop 64) then some (w 8 4)
  else none

/-- A sequence number is newer than another (R631). -/
def seqNewer (a b : Nat) : Bool :=
  let d := (a + 2 ^ 32 - b) % 2 ^ 32
  decide (1 ≤ d) && decide (d < 2 ^ 31)

/-- The slot that a kind loads from: copy, slot and SEQ (R631). -/
def vaultPick (s : State) (k : Nat) : Option (Nat × Nat × Nat) :=
  let all := [0, 1].flatMap (fun copy => (List.range 4).filterMap (fun r => (slotSeq s copy k r).map (fun q => (copy, r, q))))
  all.find? (fun x => all.all (fun y => y.2.2 = x.2.2 || seqNewer x.2.2 y.2.2))

/-- Load a kind from the words of a record (R622, R631). -/
def loadKind (s : State) (k : Nat) (words : List Nat) (src : Nat) : State :=
  ((kindConverters k).foldl (fun (x : State × List Nat) i =>
    let n := (convKind i).words
    (setSource ((x.2.take n).zipIdx.foldl (fun s y => putActive s i y.2 y.1) x.1) i src, x.2.drop n)) (s, words)).1

/-- The selection of R631 for one kind. -/
def vaultSelect (s : State) (k : Nat) : State :=
  match vaultPick s k with
  | some (copy, r, q) =>
    let words := bytesToWords (flashRead s.boot (vaultSlot copy k r + 64) (if k = 16 then 512 else 8448))
    let s := (loadKind s k words 2).wr .CAL_VAULT_SEQ (BitVec.ofNat 32 q) k
    { s with cal := { s.cal with seq := s.cal.seq.setIfInBounds k q } }
  | none =>
    if Config.factoryValid k then loadKind s k ((List.range 2112).map (Config.factoryRecord k)) 1
    else (kindConverters k).foldl (fun s i => (s.setFld F.CAL_CONV_STATUS_SRC 0 i).setFlag F.CAL_CONV_STATUS_NEEDS_FG true i) s

/-- The selection of every kind at boot (R631, R695). -/
def vaultSelectAll (s : State) : State := (List.range 17).foldl vaultSelect s

end Sys2Proof.Machine
end

