-- ==== Sys2Proof/Machine/SliceStatus.lean ====
section
/-!
DEFINITION. The return of a slice's status registers and counters to their reset values (R90, R97, R590), its drain (R86) and
its isolation by containment (R641), over the operations of its units.
-/

namespace Sys2Proof.Machine

/-- The named registers of slice `n` read their reset values again. -/
def regsBack (s : State) (n : Fin 16) (l : List Reg) : State :=
  { s with regs := s.regs.filter (fun e => !(decide (e.1.i = n.val) && decide (e.1.reg ∈ l))) }

/-! ### Core units: sequencer, streamer, tones, bins, acquisition -/

/-- The sequencer's status and counters, its copies, marks and flags (R90). Its state stays. -/
def seqReset (s : State) (n : Fin 16) : State :=
  let st := seqState s n
  let s := regsBack s n [.SEQ_STATUS, .SEQ_ERR_PC, .SEQ_HALT_CODE, .SEQ_FLAGS, .SEQ_ISSUED_LO, .SEQ_ISSUED_HI, .SEQ_STALL,
    .SEQ_VERDICT_OVW, .SEQ_EV_DROP, .SEQ_ELASTIC_BEATS, .SEQ_TIMEOUTS, .SEQ_LATE, .SEQ_VNEW, .SEQ_XNEW]
  let s := modSeq s n (fun q => { q with pend := none, starting := false, stepping := false, loops := [], calls := [], events := [],
                                         fetch := [], named := [], copies := [] })
  setSeqState s n st

/-- The streamer's status and counters; the capture buffer is empty by now. Its state stays. -/
def vecReset (s : State) (n : Fin 16) : State :=
  let st := vecState s n
  let s := windowsDrop s n
  let s := regsBack s n [.VEC_STATUS, .VEC_ADDR, .VEC_ERR_ADDR, .VEC_INDEX_LO, .VEC_INDEX_HI, .VEC_FAILVEC_LO, .VEC_FAILVEC_HI,
    .VEC_UNDERRUNS, .VEC_CLAMPS, .VEC_MATCH_EXP, .VEC_RING_RP, .VEC_FC_WP, .VEC_FC_RECS, .VEC_FC_LOST, .VEC_PFAIL, .VEC_WIN_OPEN_LO,
    .VEC_WIN_OPEN_HI]
  let s := modVec s n (fun v => { v with run := none, loops := [], waiting := [], buffer := [], capture := [], captureLost := 0,
                                         captureLostIndex := 0 })
  showLoaded (setVecState s n st) n

/-- The core units' status registers and counters read their reset values. -/
def coreReset (s : State) (n : Fin 16) : State := rxReset (toneReset (vecReset (seqReset s n) n) n) n

/-! ### Analogue units: pins, FF channels, measure ADC, TDC -/

/-- The pins' status and counters; guard causes, loads and connections describe held outputs and stay (R90). -/
def pinReset (s : State) (n : Fin 16) : State :=
  let s := eachPin s (fun s p => (s.setFlag F.PIN_STATUS_PMU_CLAMP false n p).setFlag F.PIN_STATUS_LEVEL_CLAMP false n p)
  let running := checkRunning s n
  let s := regsBack s n ([.PIN_CC_RESULT, .PIN_GUARD_COUNT] ++ if running then [] else [.PIN_CC_STATUS])
  s.setFlag F.PIN_GUARD_STATUS_RELEASE_IGN false n

/-- The FF channels' counters and flags; STATE, SETTING, FF_CODE and the GOV cause stay (R90, R358). -/
def ffReset (s : State) (n : Fin 16) : State :=
  let s := ffEach s (fun s f =>
    let s := ffDismiss s n f
    [F.FF_STATUS_LIMIT, F.FF_STATUS_SHORT, F.FF_STATUS_CHECK, F.FF_STATUS_REFUSED, F.FF_STATUS_DEFERRED, F.FF_STATUS_DISCARD].foldl
      (fun s x => s.setFlag x false n f) s)
  let s := regsBack s n [.FF_READBACK, .FF_DEFER, .FF_DISCARD, .FF_REFUSED, .FF_PROV, .FF_DISMISS, .FF_DGL, .FF_SHORTS]
  ffEach s (fun s f => ffRefresh s n f)

/-- The measure ADC's status and counters; its queue keeps its entries (R90, R390). -/
def madReset (s : State) (n : Fin 16) : State :=
  let st := madState s n
  let s := regsBack s n [.MAD_STATUS, .MAD_TRIG_DROP, .MAD_QLOST, .MAD_REDO, .MAD_ABORTS, .MAD_DIS_COUNT, .MAD_SCAL_STATUS]
  setMadState s n st

/-- The analogue units' status registers and counters read their reset values. -/
def analogReset (s : State) (n : Fin 16) : State := tdcReset (madReset (ffReset (pinReset s n) n) n) n

/-- The status registers and counters of the slice's real-time units return to their reset values (R90). The SLC error and
scrub counters, calibration, domains, store power, channel power, guard causes and GOV causes stay. -/
def sliceReset (s : State) (n : Fin 16) : State :=
  let s := analogReset (coreReset s n) n
  let s := regsBack s n [.SLC_CONFLICT]
  (s.setFld F.SLC_WHEEL_STATUS_START_LATE 0 n).setFld F.SLC_WHEEL_STATUS_MAP_ERR 0 n

/-! ### Out of service and back -/

/-- The drain beat of a live reload: no instruction issues and every unit drains (R86, R122). -/
def sliceDrain (s : State) (n : Fin 16) : State :=
  let s := s.modSl n (fun x => { x with reloading := true })
  let s := setSeqState (modSeq s n (fun q => { q with pend := none, acted := true, starting := false, stepping := false, events := [] })) n
    SeqCode.drained
  let s := vecDrain s n
  let s := tdcDrain (madDrain (rxDrain (toneDrain s n) n) n) n
  let s := ffEach s (fun s f => updFf (ffDismiss s n f) n f (fun c => if c.off || c.guarded then c else { c with drained := true, deferred := none }))
  let s := dmaEndStore s n 5
  sourcesLost s n

/-- The slice's wheel goes to STOPPED at once (R50, R641). -/
def wheelHalt (s : State) (n : Fin 16) : State := setWheelState s n 0

/-- L2 isolation of a slice (R641), which also overrides the outputs of a slice under reload (R88): wheel, sequencer, streamer, tones, channels, bins, streams, converters, pins and DMA. -/
def isolateSlice (s : State) (n : Fin 16) : State :=
  if (s.sl n).isolated && !(s.sl n).reloading then s
  else
    let reloading := (s.sl n).reloading
    let s := wheelHalt (fgStop s n 2) n
    let s := modSeq s n (fun q => { q with events := [] })
    let s := vecFaultHalt (seqFaultHalt s n) n
    let s := windowsDrop s n
    let s := txContain s n
    let s := (List.finRange 2).foldl (fun s j => rxOff s n j) s
    let s := (List.finRange 32).foldl (fun s u => binDropWindow s n u) s
    let s := acqStopAll s n 4
    let s := tdcContain (madAbandon s n) n
    let s := ffOff s n
    let s := ccAbort s n
    let s := dmaEndSlice s n 10
    let s := s.modSl n (fun x => { x with isolated := true })
    if reloading then s else sourcesLost s n

/-- A slice that a load of its section has rebuilt returns: its units leave DRAINED and its FF channels OFF (R80, R92, R655). -/
def sliceBack (s : State) (n : Fin 16) : State :=
  let s := if seqState s n = SeqCode.drained ∨ seqState s n = SeqCode.error then setSeqState s n SeqCode.halted else s
  let s := if vecState s n = 4 ∨ vecState s n = 3 ∨ vecState s n = 2 then setVecState s n 0 else s
  let s := eachTone s (fun s u => if toneState s n u = 6 then setToneState s n u 0 else s)
  let s := (List.finRange 32).foldl (fun s u => if s.fld F.DMX_STATUS_STATE n u = 2 then s.setFld F.DMX_STATUS_STATE 0 n u else s) s
  let s := s.setFlag F.ACQ_STATUS_DRAINED false n
  let s := (List.finRange 8).foldl (fun s c => if tdcState s n c = 4 then setTdcState s n c 0 else s) s
  let s := if madState s n = 5 then setMadState s n 0 else s
  let s := (List.finRange 4).foldl (fun s k => txCause s n k F.TXC_STATUS_MUTE_FLT false) s
  let s := ffEach s (fun s f => updFf s n f (fun c => { c with drained := false, off := if s.analogOn n then false else c.off }))
  sourcesBack (s.modSl n (fun x => { x with isolated := false, reloading := false })) n

end Sys2Proof.Machine
end

