-- ==== Sys2Proof/Machine/Power.lean ====
section
/-!
DEFINITION. Power domains, power admission and the line energy governors (Power Domains, Admission and Line Energy Governors,
R584 to R609).
-/

namespace Sys2Proof.Machine

/-! ### Domains (R584 to R590) -/

/-- What a power domain holds (R584). -/
inductive DomainKind where
  | core (n : Fin 16)
  | analog (n : Fin 16)
  | central
  | hostPort (p : Fin 2)
  | fabricPort (p : Fin 4)
deriving DecidableEq, Repr

def domainKind (d : Fin 39) : DomainKind :=
  if h : d.val < 16 then .core ⟨d.val, h⟩
  else if h : d.val < 32 then .analog ⟨d.val - 16, by omega⟩
  else if d.val = 32 then .central
  else if h : d.val < 35 then .hostPort ⟨d.val - 33, by omega⟩
  else .fabricPort ⟨d.val - 35, by omega⟩

/-- Wake to ON in beats (R584). -/
def DomainKind.wake : DomainKind → Nat
  | .core _ => 2500
  | .analog _ => 12500
  | _ => 25000

def setDomState (s : State) (d : Fin 39) (v : Nat) : State := s.setFld F.PWR_DOM_STATE v d

def modPwr (s : State) (f : Power → Power) : State := { s with pwr := f s.pwr }

/-- A write of a domain's request is refused (R586). -/
def refuseDomain (s : State) (d : Fin 39) (reason : Nat) : State :=
  (s.setFlag F.PWR_DOM_REFUSED true d).setFld F.PWR_DOM_REASON reason d

/-- The first precondition of R586 that fails for a power-down; `port` is the host port through which the write came. -/
def offRefusal (s : State) (d : Fin 39) (port : Option (Fin 2)) : Option Nat :=
  match domainKind d with
  | .central => some 1
  | .core n =>
    if !wheelsStopped s then some 2
    else if s.storePower (.slice n) ≠ 2 then some 3
    else if s.domState (16 + n.val) ≠ 2 ∨ s.reloadTargets n then some 4
    else none
  | .hostPort p => if port = some p then some 5 else none
  | _ => none

/-- A foreground calibration ends when a domain of its slice drains (R626). -/
def drainDisturbs (s : State) (d : Fin 39) : State :=
  match domainKind d with
  | .core n => fgStop s n 2
  | .analog n => fgStop s n 2
  | _ => s

/-- A write of REQ = OFF (R586, R588). -/
def domainOffReq (s : State) (d : Fin 39) (port : Option (Fin 2)) : State :=
  match s.domState d with
  | 0 =>
    match offRefusal s d port with
    | some reason => refuseDomain s d reason
    | none =>
      let s := drainDisturbs (setDomState (s.setFld F.PWR_DOM_REQ 1 d) d 1) d
      let due := s.now + 250 * max 1 (s.fld F.PWR_DRAIN_TIMEOUT_US)
      modPwr s (fun p => { p with due := p.due.set d.val due d.isLt, falling := p.falling &&& ~~~(1#39 <<< d.val),
                                  timedOut := p.timedOut &&& ~~~(1#39 <<< d.val) })
  | 3 => refuseDomain s d 6
  | _ => s

/-- The domain's units come back with its power (R590). -/
def domainEntersOn (s : State) (d : Fin 39) : State :=
  match domainKind d with
  | .analog n => (List.finRange 8).foldl (fun s c => s.setFlag F.TDC_STATUS_LOCK (s.flag F.TDC_CFG_EN n c) n c) (ffOn s n)
  | .core n => setWheelState (setSeqState (coreReset s n) n SeqCode.halted) n 0
  | .fabricPort p => ktlEnable s p
  | _ => s

/-- A write of REQ = ON (R586). A cancelled power-down whose units have been disabled at P brings them back as R590 gives. -/
def domainOnReq (s : State) (d : Fin 39) : State :=
  match s.domState d with
  | 1 =>
    let fell := s.pwr.falling.getLsbD d.val
    let s := setDomState (s.setFld F.PWR_DOM_REQ 0 d) d 0
    let s := modPwr s (fun p => { p with falling := p.falling &&& ~~~(1#39 <<< d.val) })
    if fell then domainEntersOn s d else s
  | 2 =>
    let s := setDomState (s.setFld F.PWR_DOM_REQ 0 d) d 3
    modPwr s (fun p => { p with due := p.due.set d.val (s.now + (domainKind d).wake) d.isLt })
  | _ => s

/-- The active wheel map of a slice assigns slots to AQ (R41, R588). -/
def hasAqSlots (s : State) (n : Fin 16) : Bool := (s.sl n).wheel.map.toList.any (· = 4)

/-- An acquisition stream of the slice holds a record that can still be written (R588). -/
def streamTargets (s : State) (n : Fin 16) : Bool :=
  hasAqSlots s n && (List.finRange 4).any (fun st => acqState s n st.val != 0)

/-- A draining domain is targeted (R588). -/
def domainTargeted (s : State) (d : Fin 39) : Bool :=
  match domainKind d with
  | .core _ => false
  | .hostPort _ => false
  | .analog n => (List.finRange 32).any (fun c => dmaTargetsDomain s c d) || streamTargets s n
  | _ => (List.finRange 32).any (fun c => dmaTargetsDomain s c d)

/-- A granted burst of a channel that targets the domain is not complete (R588). -/
def burstTargets (s : State) (d : Fin 39) : Bool :=
  (List.finRange 32).any (fun c => dmaTargetsDomain s c d && !(dmaBursts s c).isEmpty)

/-- The core units of a slice at power-down (R589): sequencer HALTED, streamer STOPPED, tones IDLE, bins and streams free. -/
def corePowerOff (s : State) (n : Fin 16) : State :=
  let s := setSeqState (modSeq s n (fun q => { q with pend := none, starting := false, stepping := false })) n SeqCode.halted
  let s := setVecState (modVec s n (fun v => { v with run := none, waiting := [] })) n 0
  let s := eachTone s (fun s u =>
    setToneState (modTone s n u (fun t => { t with pieces := [], ends := none, next := .idle, marks := [], buffer := [], pinned := [] })) n u 0)
  let s := (List.finRange 32).foldl (fun s u =>
    (wramRelease (modBin s n u (fun b => { b with windows := [], results := [] })) n u).setFld F.DMX_STATUS_STATE 0 n u) s
  let s := (List.finRange 4).foldl (fun s (st : Fin 4) => setAcqState (modAcq s n st (fun _ => AcqStream.initial)) n st 0) s
  s.setFld F.ACQ_STATUS_ACTIVE 0 n

/-- The loads that wait for power admission are withdrawn: they had not started (R589, R591). -/
def loadsWithdraw (s : State) (n : Fin 16) : State :=
  eachPin s (fun s p =>
    if s.flag F.PIN_STATUS_LOAD_PEND n p then (loadRefused s (n.val * 32 + p)).releaseAdmission 5 (n.val * 32 + p) else s)

/-- The analogue units of a slice at power-down (R589): channels OFF with their costs released, FF channels OFF, TDC measurements
ended and LOCK clear, the measure ADC idle. -/
def analogPowerOff (s : State) (n : Fin 16) : State :=
  let s := (List.finRange 4).foldl (fun s k => txOff s n k) s
  let s := (List.finRange 2).foldl (fun s j => rxOff s n j) s
  let s := tdcContain (madAbandon (ffOff (loadsWithdraw s n) n) n) n
  (List.finRange 8).foldl (fun s c => s.setFlag F.TDC_STATUS_LOCK false n c) s

/-- The work that a core power-down finishes and discards (R591, R592): nothing that had started can deliver once its unit is off. -/
def coreWork (s : State) (n : Fin 16) : Nat × Nat :=
  (0, ((List.finRange 32).filter (fun u => (binOpen s n u).isSome)).length +
    ((List.finRange 4).filter (fun (st : Fin 4) => acqState s n st ≠ 0)).length + (s.sl n).vec.waiting.length)

/-- The work that an analogue power-down finishes and discards (R591, R592), over all its units. -/
def analogWork (s : State) (n : Fin 16) : Nat × Nat :=
  let tdc := (List.finRange 8).map (fun c => tdcWork s n c)
  let pendTx := ((List.finRange 4).filter (fun k => txPwr s n k == 1)).length
  let pendRx := ((List.finRange 2).filter (fun j => rxPwr s n j == 1)).length
  let loads := ((List.range 32).filter (fun p => s.flag F.PIN_STATUS_LOAD_PEND n p)).length
  ((tdc.map Prod.fst).sum, (tdc.map Prod.snd).sum + pendTx + pendRx + loads + madStepsLeft s n + bit01 (s.sl n).mad.selfcal +
    bit01 (s.sl n).mad.syscal.isSome)

/-- P: every unit of the domain is disabled and the power goes (R589). -/
def domainPowerDown (s : State) (d : Fin 39) : State :=
  let s := modPwr s (fun p => { p with due := p.due.set d.val (s.now + 250) d.isLt, falling := p.falling ||| (1#39 <<< d.val) })
  match domainKind d with
  | .central => s
  | .core n =>
    let w := coreWork s n
    (corePowerOff s n).disRecord n 5 0 w.1 w.2
  | .analog n =>
    let w := analogWork s n
    (analogPowerOff s n).disRecord n 4 0 w.1 w.2
  | .hostPort p => hostLinkFall s p
  | .fabricPort p => portDown s p 5

/-- DOMAIN_DRAIN_END (R588, R589). -/
def domainDrainEnd (s : State) (d : Fin 39) : State :=
  if s.domState d = 1 ∧ !s.pwr.falling.getLsbD d.val then
    if s.pwr.timedOut.getLsbD d.val then
      if s.pwr.due.get d ≤ s.now ∧ !burstTargets s d then domainPowerDown s d else s
    else if !domainTargeted s d then domainPowerDown s d
    else s
  else s

/-- DOMAIN_DRAIN_TIMEOUT (R588): channels end with DOMAIN_DOWN, streams with STOPPED. -/
def domainDrainTimeout (s : State) (d : Fin 39) : State :=
  if s.domState d = 1 ∧ !s.pwr.falling.getLsbD d.val ∧ !s.pwr.timedOut.getLsbD d.val ∧ s.pwr.due.get d ≤ s.now ∧ domainTargeted s d then
    let s := s.setFlag F.PWR_DOM_TIMED_OUT true d
    let s := (List.finRange 32).foldl (fun s c => if dmaTargetsDomain s c d then dmaCause s c 3 else s) s
    let s := match domainKind d with
      | .analog n => if streamTargets s n then acqStopAll s n 1 else s
      | _ => s
    modPwr s (fun p => { p with due := p.due.set d.val s.now d.isLt, timedOut := p.timedOut ||| (1#39 <<< d.val) })
  else s

/-- DOMAIN_OFF (R589): 250 beats after P the domain is OFF. -/
def domainOff (s : State) (d : Fin 39) : State :=
  if s.domState d = 1 ∧ s.pwr.falling.getLsbD d.val ∧ s.pwr.due.get d ≤ s.now then
    let s := modPwr (setDomState s d 2) (fun p => { p with falling := p.falling &&& ~~~(1#39 <<< d.val) })
    match domainKind d with
    | .analog n => pinsPowerOff s n
    | _ => s
  else s

/-- DOMAIN_WAKE_DONE (R590). -/
def domainWakeDone (s : State) (d : Fin 39) : State :=
  if s.domState d = 3 ∧ s.pwr.due.get d ≤ s.now then
    domainEntersOn (setDomState s d 0) d
  else s

/-! ### Admission (R593 to R599) -/

/-- PWR_COST of a class. -/
def classCost (s : State) (cls : Nat) : Nat := s.fld F.PWR_COST_MW cls

/-- The committed power: the base and the costs granted (R594). -/
def committed (s : State) : Nat := s.fld F.PWR_BASE_MW_MW + (s.pwr.granted.map Prod.snd).sum

/-- The total cost granted at the last 250 boundaries (R595). -/
def rampSum (s : State) : Nat := ((s.pwr.ramp.filter (fun x => decide (s.now < x.2 + 250))).map Prod.fst).sum

/-- What a requester does on its grant (R593). -/
def grantTo (s : State) (r : PwrRequester) : State :=
  let slice (k : Nat) : Fin 16 := ⟨k % 16, by omega⟩
  match r.cls with
  | 1 => txGranted s (slice (r.index / 4)) ⟨r.index % 4, by omega⟩
  | 2 => rxGranted s (slice (r.index / 2)) ⟨r.index % 2, by omega⟩
  | 3 => madSelfcalGranted s (slice r.index)
  | 4 => fgGranted s (slice r.index)
  | 5 => loadGranted s r.index
  | 6 => dmaGranted s ⟨r.index % 32, by omega⟩
  | _ => let id := StoreId.slice (slice r.index); s.setStore id { s.store id with pwrDue := some (s.now + 2500) }

/-- What a requester does when its request is refused (R596). -/
def refuseTo (s : State) (r : PwrRequester) : State :=
  let slice (k : Nat) : Fin 16 := ⟨k % 16, by omega⟩
  match r.cls with
  | 1 => txRefused s (slice (r.index / 4)) ⟨r.index % 4, by omega⟩
  | 2 => rxRefused s (slice (r.index / 2)) ⟨r.index % 2, by omega⟩
  | 3 => madSelfcalFail s (slice r.index)
  | 4 => fgStop s (slice r.index) 1
  | 5 => loadRefused s r.index
  | 6 => dmaRefused s ⟨r.index % 32, by omega⟩
  | _ => refuseStorePower (s.setStorePower (.slice (slice r.index)) 2) (.slice (slice r.index)) 0

/-- A request that can never fit is refused (R596). -/
def admissionRefuse (s : State) (r : PwrRequester) : State :=
  let s := modPwr s (fun p => { p with queue := p.queue.filter (fun q => q.1 ≠ r) })
  let s := s.setFlag F.PWR_STATUS_REFUSED true
  let s := (s.setFld F.PWR_LAST_REFUSED_CLASS r.cls).setFld F.PWR_LAST_REFUSED_INDEX r.index
  refuseTo s r

/-- The refusals of a boundary (R596). -/
def admissionRefusals (s : State) : State :=
  s.pwr.queue.foldl (fun s q =>
    if s.fld F.PWR_BUDGET_MW_MW < s.fld F.PWR_BASE_MW_MW + classCost s q.1.cls then admissionRefuse s q.1 else s) s

/-- The head passes the budget test, and the ramp test (R595). -/
def budgetOk (s : State) (cost : Nat) : Bool := decide (committed s + cost ≤ s.fld F.PWR_BUDGET_MW_MW)

def rampOk (s : State) (cost : Nat) : Bool :=
  let ramp := max 1 (s.fld F.PWR_RAMP_MW)
  decide (rampSum s + cost ≤ ramp) || (decide (ramp < cost) && rampSum s == 0)

/-- Grants from the head of the queue for as long as it passes both tests (R595). -/
def admissionGrants : Nat → State → State
  | 0, s => s
  | fuel + 1, s =>
    match s.pwr.queue with
    | [] => s
    | (r, at_) :: _ =>
      if s.now ≤ at_ then s
      else
        let cost := classCost s r.cls
        let b := budgetOk s cost
        let m := rampOk s cost
        if b && m then
          let s := modPwr s (fun p => { p with queue := p.queue.tail, granted := p.granted ++ [(r, cost)], ramp := (cost, s.now) :: p.ramp })
          admissionGrants fuel (grantTo (s.count .PWR_GRANTS) r)
        else
          ((s.setFlag F.PWR_STATUS_BUDGET_WAIT (!b)).setFlag F.PWR_STATUS_RAMP_WAIT (!m)).count .PWR_WAIT_BEATS

/-- The evaluation of the queue at a boundary, once (R595, R596). -/
def admissionGrant (s : State) : State :=
  if s.pwr.evalAt = s.now + 1 then s
  else
    let s := modPwr s (fun p => { p with evalAt := s.now + 1, ramp := p.ramp.filter (fun x => decide (s.now < x.2 + 250)) })
    let s := (s.setFlag F.PWR_STATUS_BUDGET_WAIT false).setFlag F.PWR_STATUS_RAMP_WAIT false
    let s := admissionRefusals s
    admissionGrants s.pwr.queue.length s

/-- A write of PWR_BUDGET_MW (R598). -/
def budgetWrite (s : State) (v : Nat) : State :=
  let v := v % 2 ^ 18
  if 190000 < v then (s.setFld F.PWR_BUDGET_MW_MW 190000).setFlag F.PWR_STATUS_CLAMP true
  else s.setFld F.PWR_BUDGET_MW_MW v

/-- The mean of a 1 ms block (R599). -/
def pwrMeasBlock (s : State) (mw : Nat) : State :=
  let s := s.setFld F.PWR_MEAS_MW_MW (min mw (2 ^ 18 - 1))
  if 190000 < mw then (s.setFlag F.PWR_STATUS_OVER true).raise Src.PWR_OVER Scope.device 0 else s

/-! ### Governors (R600 to R605) -/

/-- In a replay with MUTE set governors make no comparison (R676). -/
def govSilent (s : State) : Bool := s.replayMuted

/-- A trip's fault and its journal record (R600, R635, R666): `kind` 0 TX, 1 FF, 2 pin, of global line `x`. -/
def govTripReport (s : State) (n : Fin 16) (kind x : Nat) : State :=
  (s.raise Src.NRG_TRIP n.val (kind + 4 * x)).journal JType.GOV_TRIP n.val (kind + 4 * x) 0

/-- The window sums of a TX governor (R601). -/
def txSumMs (s : State) (n : Fin 16) (k : Fin 4) : Nat :=
  (((txCh s n k).energy.filter (fun x => decide (s.now ≤ x.1 + 250000))).map Prod.snd).sum

def txSumS (s : State) (n : Fin 16) (k : Fin 4) : Nat := (txCh s n k).block + (txCh s n k).blocks.sum

/-- The trip thresholds (R601). -/
def txThresholdMs (s : State) (x : Nat) : Nat := s.fld F.NRG_TX_LIM_MS_LIM x * 250000 * 2 ^ 16
def txThresholdS (s : State) (x : Nat) : Nat := s.fld F.NRG_TX_LIM_S_LIM x * 250000000 * 2 ^ 16

/-- The trip of a TX governor (R602). -/
def txTrip (s : State) (x : Fin 64) (ms sec : Bool) : State :=
  let n : Fin 16 := ⟨x.val / 4, by omega⟩
  let k : Fin 4 := ⟨x.val % 4, by omega⟩
  let s := txCause s n k F.TXC_STATUS_MUTE_GOV true
  let s := s.setFlag F.NRG_TX_STATUS_TRIP true x
  let s := (s.setFlag F.NRG_TX_STATUS_WIN_MS ms x).setFlag F.NRG_TX_STATUS_WIN_S sec x
  govTripReport (s.count .NRG_TX_TRIPS x) n 0 x

/-- TX_GOV_TRIP (R601, R602). -/
def txGovTrip (s : State) (x : Fin 64) : State :=
  if govSilent s then s else
  let n : Fin 16 := ⟨x.val / 4, by omega⟩
  let k : Fin 4 := ⟨x.val % 4, by omega⟩
  let ms := decide (txThresholdMs s x < txSumMs s n k)
  let sec := decide (txThresholdS s x < txSumS s n k)
  if (ms || sec) && !s.flag F.NRG_TX_STATUS_TRIP x then txTrip s x ms sec else s

/-- The sum of the squares in an FF governor's window (R603). -/
def ffSum (s : State) (n : Fin 16) (f : Fin 8) : Nat :=
  (((ffCh s n f).energy.filter (fun x => decide (s.now ≤ x.1 + 250000))).map Prod.snd).sum

/-- The square of a limit of so many 10 µA units over the 2,000,000 samples of the window, in the units of the sums (R603). -/
def ffThreshold (lim : Nat) : Nat := 2000000 * (lim * 327680) ^ 2

/-- The trip of an FF governor (R603). -/
def ffTrip (s : State) (x : Fin 128) : State :=
  let n : Fin 16 := ⟨x.val / 8, by omega⟩
  let s := (ffGovMute s n ⟨x.val % 8, by omega⟩).setFlag F.NRG_FF_STATUS_TRIP true x
  govTripReport (s.count .NRG_FF_TRIPS x) n 1 x

/-- FF_GOV_TRIP (R603). -/
def ffGovTrip (s : State) (x : Fin 128) : State :=
  if govSilent s then s
  else if ffThreshold (s.fld F.NRG_FF_LIM_LIM x) < ffSum s ⟨x.val / 8, by omega⟩ ⟨x.val % 8, by omega⟩ ∧ !s.flag F.NRG_FF_STATUS_TRIP x then ffTrip s x
  else s

/-- The trip of a pin's governor (R605). -/
def pinTrip (s : State) (g : Fin 512) (i e : Bool) : State :=
  let n : Fin 16 := ⟨g.val / 32, by omega⟩
  let s := (s.setFlag F.NRG_PIN_STATUS_TRIP true g).setFlag F.NRG_PIN_STATUS_CAUSE_I i g
  let s := s.setFlag F.NRG_PIN_STATUS_CAUSE_E e g
  let s := s.setFlag F.PIN_STATUS_PMU_CONN false n (g.val % 32)
  let s := modPin s n (fun p => match p.check with
    | some c => { p with check := some { c with tripped := c.tripped ||| BitVec.ofNat 32 (2 ^ (g.val % 32)) } }
    | none => p)
  govTripReport s n 2 g

/-- PIN_GOV_TRIP (R604, R605): the governor of a guarded pin takes its readings and compares. -/
def pinGovTrip (s : State) (g : Fin 512) (ua nj : Nat) : State :=
  let n : Fin 16 := ⟨g.val / 32, by omega⟩
  if !pinGuarded s n (g.val % 32) ∨ govSilent s then s
  else
    let s := s.setFld F.NRG_PIN_ENERGY_NJ (min nj 65535) g
    let i := decide (clampNat 1 200 (s.fld F.NRG_PIN_CFG_IMAX g) * 10 < ua)
    let e := decide (clampNat 1 1000 (s.fld F.NRG_PIN_CFG_ELIM g) < nj)
    if (i || e) && !s.flag F.NRG_PIN_STATUS_TRIP g then pinTrip s g i e else s

/-- Writing 1 to TRIP (R602, R603, R605): a line's governor re-arms only where its sums have fallen far enough. -/
def govRearm (s : State) : Governor → State
  | .tx x =>
    let n : Fin 16 := ⟨x.val / 4, by omega⟩
    let k : Fin 4 := ⟨x.val % 4, by omega⟩
    let r := max 1 (s.fld F.NRG_TX_CFG_REARM x)
    if !s.flag F.NRG_TX_STATUS_TRIP x then s
    else if txSumMs s n k * 256 ≤ txThresholdMs s x * r ∧ txSumS s n k * 256 ≤ txThresholdS s x * r then
      txCause (s.setFlag F.NRG_TX_STATUS_TRIP false x) n k F.TXC_STATUS_MUTE_GOV false
    else s.setFlag F.NRG_TX_STATUS_REARM_REFUSED true x
  | .ff x =>
    let n : Fin 16 := ⟨x.val / 8, by omega⟩
    let f : Fin 8 := ⟨x.val % 8, by omega⟩
    let r := max 1 (s.fld F.NRG_FF_CFG_REARM x)
    if !s.flag F.NRG_FF_STATUS_TRIP x then s
    else if ffSum s n f * 256 ^ 2 ≤ ffThreshold (s.fld F.NRG_FF_LIM_LIM x * r) then
      ffRefresh ((s.setFlag F.NRG_FF_STATUS_TRIP false x).setFlag F.FF_STATUS_GOV false n f) n f
    else s.setFlag F.NRG_FF_STATUS_REARM_REFUSED true x
  | .pin g => s.setFlag F.NRG_PIN_STATUS_TRIP false g

/-- NRG_TX_LEVEL, NRG_FF_LEVEL and NRG_STATUS as they read (R609). -/
def txLevelMs (s : State) (n : Fin 16) (k : Fin 4) : Nat := min (txSumMs s n k / (250000 * 2 ^ 16)) 0x3FFFF
def txLevelS (s : State) (n : Fin 16) (k : Fin 4) : Nat := min (txSumS s n k / (250000000 * 2 ^ 16)) 0x3FFFF
def ffLevel (s : State) (n : Fin 16) (f : Fin 8) : Nat := min (Nat.sqrt (ffSum s n f / 2000000) / 327680) 65535
def nrgStatus (s : State) : Nat :=
  bit01 ((List.range 64).any (fun x => s.flag F.NRG_TX_STATUS_TRIP x)) + 2 * bit01 ((List.range 128).any (fun x => s.flag F.NRG_FF_STATUS_TRIP x)) +
    4 * bit01 ((List.range 512).any (fun g => s.flag F.NRG_PIN_STATUS_TRIP g))

/-! ### The commands -/

def execDomainOffReq (d : Fin 39) (port : Option (Fin 2)) (s : State) : Result := .next (domainOffReq s d port)
def execDomainOnReq (d : Fin 39) (s : State) : Result := .next (domainOnReq s d)
def execDomainDrainEnd (d : Fin 39) (s : State) : Result := .next (domainDrainEnd s d)
def execDomainDrainTimeout (d : Fin 39) (s : State) : Result := .next (domainDrainTimeout s d)
def execDomainOff (d : Fin 39) (s : State) : Result := .next (domainOff s d)
def execDomainWakeDone (d : Fin 39) (s : State) : Result := .next (domainWakeDone s d)
def execAdmissionGrant (s : State) : Result := .next (admissionGrant s)
def execBudgetWrite (v : BitVec 32) (s : State) : Result := .next (budgetWrite s v.toNat)
def execPwrMeasBlock (mw : Nat) (s : State) : Result := .next (pwrMeasBlock s mw)
def execTxGovTrip (x : Fin 64) (s : State) : Result := .next (txGovTrip s x)
def execFfGovTrip (x : Fin 128) (s : State) : Result := .next (ffGovTrip s x)
def execPinGovTrip (g : Fin 512) (ua nj : Nat) (s : State) : Result := .next (pinGovTrip s g ua nj)
def execGovRearm (gov : Governor) (s : State) : Result := .next (govRearm s gov)

end Sys2Proof.Machine
end

