-- ==== Sys2Proof/Machine/Replay.lean ====
section
/-!
DEFINITION. The replay journal: records, the writer's buffer and the ring (R665 to R672), and the start and the end of a replay
(R673, R677).
-/

namespace Sys2Proof.Machine

def modRpl (s : State) (f : Journal → Journal) : State := { s with rpl := f s.rpl }

/-! ### Records (R665, R669) -/

/-- The sixteen bytes of a record (R665). -/
def JRecord.bytes (r : JRecord) : List Byte :=
  toBytes 1 r.type ++ toBytes 1 (r.src % 32) ++ toBytes 2 r.index ++ toBytes 4 (r.beat % 2 ^ 32) ++ toBytes 8 r.data

/-- The record in sixteen bytes; its beat holds the 32 low bits. -/
def JRecord.ofBytes (l : List Byte) : JRecord :=
  { type := Machine.ofBytes (l.take 1), src := Machine.ofBytes ((l.drop 1).take 1) % 32, index := Machine.ofBytes ((l.drop 2).take 2),
    beat := Machine.ofBytes ((l.drop 4).take 4), data := Machine.ofBytes ((l.drop 8).take 8) }

/-- The order of the records of one beat (R669). -/
def JRecord.before (a b : JRecord) : Bool :=
  if a.beat = b.beat then
    if a.src = b.src then if a.type = b.type then decide (a.index ≤ b.index) else decide (a.type < b.type) else decide (a.src < b.src)
  else decide (a.beat < b.beat)

/-- Records in order; of equal ones the earlier made stands first. -/
def sortRecords (l : List JRecord) : List JRecord := sortBy JRecord.before l

/-- A PAD record (R666). -/
def padRecord : JRecord := { type := JType.PAD, src := 0, index := 0, beat := 0, data := 0 }

/-! ### The ring (R668, R670, R671) -/

/-- RPL_RING_LINES as it acts (R680). -/
def ringLines (s : State) : Nat := clampNat 512 65536 (s.fld F.RPL_RING_LINES_LINES)

/-- The ring's capacity in records (R668). -/
def ringCap (s : State) : Nat := 8 * ringLines s

/-- The ring's fill in records (R668). -/
def ringRecords (s : State) : Nat := (s.fld F.RPL_WP_OFFSET + ringCap s - s.fld F.RPL_RP_OFFSET % ringCap s) % ringCap s

/-- A record finds room (R670). -/
def journalRoom (s : State) : Bool := decide (s.rpl.buffer.length < 4096) && decide (ringRecords s < ringCap s - 8)

/-- Records that still find room. -/
def journalSpace (s : State) : Nat := min (4096 - s.rpl.buffer.length) (ringCap s - 8 - ringRecords s)

/-- A record takes its place in the writer's buffer (R669). -/
def bufferPut (s : State) (r : JRecord) : State :=
  modRpl s (fun j => { j with buffer := j.buffer ++ [r], partialSince := if j.buffer.length % 8 = 0 then s.now else j.partialSince })

/-- The SYNC record of the present beat (R666). -/
def syncRecord (s : State) (beat : Nat) : State := bufferPut s { type := JType.SYNC, src := 16, index := 0, beat := beat, data := beat % 2 ^ 64 }

/-- Once 16 records have room again, a GAP and a SYNC record come before any other (R670). -/
def journalGap (s : State) : State :=
  if s.rpl.lost = 0 ∨ journalSpace s < 16 then s
  else
    let r : JRecord := { type := JType.GAP, src := 16, index := 0, beat := s.beat, data := s.rpl.lost % 2 ^ 32 + s.rpl.lostBeat % 2 ^ 32 * 2 ^ 32 }
    let s := (bufferPut s r).setFlag F.RPL_STATUS_GAP true
    let s := syncRecord s s.beat
    modRpl s (fun j => { j with lost := 0, needSync := false })

/-- A record enters the buffer or is lost (R670). -/
def journalEnter (s : State) (r : JRecord) : State :=
  let s := journalGap s
  if s.rpl.lost ≠ 0 ∨ !journalRoom s then
    modRpl (s.count .RPL_LOST) (fun j => { j with lost := j.lost + 1, lostBeat := if j.lost = 0 then r.beat else j.lostBeat })
  else
    let s := if s.rpl.needSync then modRpl (syncRecord s r.beat) (fun j => { j with needSync := false }) else s
    bufferPut s r

/-- The records of the beat enter the buffer in their order (R669). -/
def journalSettle (s : State) : State :=
  let l := sortRecords s.rpl.fresh
  let s := modRpl s (fun j => { j with fresh := [] })
  l.foldl journalEnter s

/-- The buffer's last line is padded to a whole line (R669). -/
def journalPad (s : State) : State :=
  modRpl s (fun j => { j with buffer := j.buffer ++ List.replicate ((8 - j.buffer.length % 8) % 8) padRecord })

/-- The line that the writer asks the central store to write: its number and contents (R668, R669). -/
def journalWant (s : State) : Option (Nat × List Byte) :=
  if 8 ≤ s.rpl.buffer.length ∧ ringRecords s + 16 ≤ ringCap s then
    some (s.fld F.RPL_RING_BASE_LINE + s.fld F.RPL_WP_OFFSET / 8 % ringLines s, (s.rpl.buffer.take 8).flatMap JRecord.bytes)
  else none

/-- That line has been written (R669). -/
def journalWritten (s : State) : State :=
  let k := ((s.rpl.buffer.take 8).filter (fun r => r.type ≠ JType.PAD)).length
  let s := modRpl s (fun j => { j with buffer := j.buffer.drop 8 })
  (s.countBy .RPL_RECORDS k).setFld F.RPL_WP_OFFSET ((s.fld F.RPL_WP_OFFSET + 8) % ringCap s)

/-! ### Runs of store writes and ring advances (R666, R667) -/

/-- A record with a beat of its own. -/
def journalAt (s : State) (type src index beat data : Nat) : State :=
  modRpl s (fun j => { j with fresh := j.fresh ++ [{ type := type, src := src, index := index, beat := beat, data := data }] })

/-- The number of the beat that a tick belongs to. -/
def beatOfTick (s : State) (t : Nat) : Nat := (s.beat + 2 ^ 64 - (s.now - t) % 2 ^ 64) % 2 ^ 64

/-- A run of store lines closes (R666): while RECORDING its record is made, in a replay it waits for its comparison. -/
def closeRun (s : State) (r : StoreRun) : State :=
  let st := (s.sl r.slice).store
  let data := r.first % 2 ^ 15 + r.lines % 2 ^ 15 * 2 ^ 15 + crc32c (st.read (r.first * 128) (r.lines * 128)) * 2 ^ 32
  let beat := beatOfTick s r.last
  let s := modRpl s (fun j => { j with runs := j.runs.filter (fun x => decide (x ≠ r)) })
  if s.rpl.replaying then
    modRpl s (fun j => { j with closed := j.closed ++ [{ type := JType.STORE_WRITE, src := r.slice, index := r.path, beat := beat, data := data }] })
  else if s.rplState = 1 then journalAt s JType.STORE_WRITE r.slice r.path beat data
  else s

/-- A path is about to write a line of a slice store (R667): runs that this ends close before the write. -/
def journalBefore (s : State) (n : Fin 16) (path line : Nat) : State :=
  let ends (r : StoreRun) : Bool :=
    r.slice == n && (if r.path = path then !(decide (r.first ≤ line) && decide (line ≤ r.first + r.lines) && decide (line < r.first + 512))
                     else decide (r.first ≤ line) && decide (line < r.first + r.lines))
  (s.rpl.runs.filter ends).foldl closeRun s

/-- A path has written a line of a slice store (R667). -/
def journalLine (s : State) (n : Fin 16) (path line : Nat) : State :=
  if s.rplState = 1 ∨ s.rpl.replaying then
    match s.rpl.runs.find? (fun r => r.slice = n ∧ r.path = path) with
    | some r =>
      modRpl s (fun j => { j with runs := j.runs.map (fun x => if x = r then { r with lines := max r.lines (line + 1 - r.first), last := s.now } else x) })
    | none => modRpl s (fun j => { j with runs := j.runs ++ [{ slice := n, path := path, first := line, lines := 1, last := s.now }] })
  else s

/-- A WP_ADV record closes (R666). -/
def closeAdvance (s : State) (a : AdvanceRun) : State :=
  let s := modRpl s (fun j => { j with advances := j.advances.filter (fun x => decide (x ≠ a)) })
  if s.rplState = 1 then journalAt s JType.WP_ADV a.slice a.bytes.length a.beat (ofBytes (a.bytes.map (BitVec.ofNat 8))) else s

/-- DMA advances VEC_RING_WP of a slice by 1 to 4 lines (R544, R667). -/
def journalAdvance (s : State) (n : Fin 16) (lines : Nat) : State :=
  if s.rplState ≠ 1 then s
  else
    let s := match s.rpl.advances.find? (fun a => a.slice = n) with
      | some a => if a.last + 63 < s.now then closeAdvance s a else s
      | none => s
    match s.rpl.advances.find? (fun a => a.slice = n) with
    | some a =>
      let a' := { a with last := s.now, bytes := a.bytes ++ [(s.now - a.last) % 64 + (lines - 1) % 4 * 64] }
      let s := modRpl s (fun j => { j with advances := j.advances.map (fun x => if x = a then a' else x) })
      if 8 ≤ a'.bytes.length then closeAdvance s a' else s
    | none =>
      modRpl s (fun j => { j with advances := j.advances ++ [{ slice := n, beat := s.beat, last := s.now, bytes := [(lines - 1) % 4 * 64] }] })

/-- Runs and advances whose time is over close (R667). -/
def journalClose (s : State) : State :=
  let s := (s.rpl.runs.filter (fun r => decide (r.last + 2500 ≤ s.now) || decide (512 ≤ r.lines))).foldl closeRun s
  (s.rpl.advances.filter (fun a => decide (a.last + 63 < s.now))).foldl closeAdvance s

/-- Every run and advance closes. -/
def journalCloseAll (s : State) : State := s.rpl.advances.foldl closeAdvance (s.rpl.runs.foldl closeRun s)

/-! ### Divergence and the end of a replay (R677, R678) -/

/-- A replay ends with a cause (R677): every sequencer and streamer halts. -/
def replayEnd (s : State) (cause : Nat) : State :=
  if s.rplState ≠ 2 then s
  else
    let s := modRpl s (fun j => { j with replaying := false, expected := [], closed := [], runs := [], advancing := [], switching := [] })
    let s := (s.setFld F.RPL_STATUS_STATE 3).setFld F.RPL_STATUS_END_CAUSE cause
    eachSlice s (fun s n => vecHaltNow (seqHalt s n) n true)

/-- The first divergence is latched; with DIV_STOP set it ends the replay (R678). `r` is the diverging record. -/
def diverge (s : State) (cause : Nat) (r : JRecord) (beat expected observed : Nat) : State :=
  if s.fld F.RPL_DIV_INFO_CAUSE ≠ 0 then s
  else
    let s := (s.setFlag F.RPL_STATUS_DIVERGED true).setPair .RPL_DIV_BEAT_LO .RPL_DIV_BEAT_HI beat
    let s := ((s.setFld F.RPL_DIV_INFO_TYPE r.type).setFld F.RPL_DIV_INFO_SRC r.src).setFld F.RPL_DIV_INFO_INDEX r.index
    let s := (s.setFld F.RPL_DIV_INFO_CAUSE cause).setPair .RPL_DIV_EXP_LO .RPL_DIV_EXP_HI expected
    let s := s.setPair .RPL_DIV_OBS_LO .RPL_DIV_OBS_HI observed
    if s.flag F.RPL_CFG_DIV_STOP then replayEnd s 3 else s

/-- The check records of the beat that ends are compared with those of the journal (R678). -/
def replayCompare (s : State) (beat : Nat) : State :=
  let got := sortRecords s.rpl.fresh
  let want := s.rpl.expected
  let s := modRpl s (fun j => { j with fresh := [], expected := [] })
  let same (a b : JRecord) : Bool := a.type == b.type && a.src == b.src && a.index == b.index
  let s := want.foldl (fun s w =>
    match got.find? (same w) with
    | none => diverge s 1 w beat w.data 0
    | some g => if g.data = w.data then s else diverge s 3 w beat w.data g.data) s
  got.foldl (fun s g => if want.any (same g) then s else diverge s 2 g beat 0 g.data) s

/-- What a beat boundary does for the journal, for the beat that has ended (R666 to R670, R678). -/
def journalBeat (s : State) (ended : Nat) : State :=
  if s.rpl.replaying then replayCompare (journalClose s) ended
  else if s.rplState = 1 then
    let s := journalGap (journalSettle (journalClose s))
    if s.beat % 2 ^ 20 = 0 then modRpl s (fun j => { j with fresh := [{ type := JType.SYNC, src := 16, index := 0, beat := s.beat, data := s.beat }] }) else s
  else if s.rpl.fresh.isEmpty then s
  else modRpl s (fun j => { j with fresh := [] })

/-! ### The commands of recording (R669, R671, R672) -/

/-- An IMAGE record of a section in force (R666). -/
def imageRecord (s : State) (section_ : Nat) (replaced : Bool) (serial : Nat) : State :=
  s.journal JType.IMAGE 16 (section_ + bit01 replaced * 2 ^ 8) serial

/-- The serial of a section in force (R99). -/
def sectionSerial (s : State) (i : Nat) : Nat :=
  if i = 16 then s.pair .GLB_IMG_CSERIAL_LO .GLB_IMG_CSERIAL_HI else s.pair .GLB_IMG_SSERIAL_LO .GLB_IMG_SSERIAL_HI i

/-- RPL_CFG.EN is set (R672). -/
def journalEnable (s : State) : State :=
  match s.rplState with
  | 0 =>
    let s := (s.setFlag F.RPL_CFG_EN true).setFld F.RPL_STATUS_STATE 1
    let s := modRpl s (fun j => { j with fresh := [], lost := 0, needSync := false, runs := [], advances := [] })
    let s := (List.range 17).foldl (fun s i => imageRecord s i false (sectionSerial s i)) s
    syncRecord (journalSettle s) s.beat
  | 1 => s
  | _ => s.setFlag F.RPL_STATUS_REFUSED true

/-- RPL_CFG.EN is cleared (R672). -/
def journalDisable (s : State) : State :=
  if s.rplState = 1 then
    (journalPad (journalSettle (journalCloseAll s))).setFld F.RPL_STATUS_STATE 0 |>.setFlag F.RPL_CFG_EN false
  else s.setFlag F.RPL_CFG_EN false

/-- 256 beats have passed since the first record of a partial line (R669). -/
def journalPartial (s : State) : State :=
  let s := if s.rplState = 1 then journalSettle s else s
  if s.rpl.buffer.length % 8 ≠ 0 ∧ s.rpl.partialSince + 256 ≤ s.now then journalPad s else s

/-- RPL_CTRL.FLUSH (R669). -/
def journalFlush (s : State) : State := journalPad (if s.rplState = 1 then journalSettle s else s)

/-- A write of RPL_RP (R671). -/
def journalSpill (s : State) (rp : Nat) : State :=
  let cap := ringCap s
  if rp < cap ∧ (rp + cap - s.fld F.RPL_RP_OFFSET % cap) % cap ≤ ringRecords s then s.setFld F.RPL_RP_OFFSET rp else s

/-! ### The start of a replay (R673) -/

/-- RPL_CTRL.REPLAY. -/
def replayAsk (s : State) : State :=
  let anchor := s.pair .RPL_ANCHOR_LO .RPL_ANCHOR_HI
  if !s.flag F.RPL_CFG_EN && wheelsStopped s && (List.finRange 16).all (fun n => seqState s n == SeqCode.halted) && chnRole s == 0 &&
      anchor % 16 == 0 then
    modRpl s (fun j => { j with replayAt := some (s.now + (wheelBoundary (s.beat + 16) - s.beat)) })
  else s.setFlag F.RPL_STATUS_REFUSED true

/-- The wheel boundary W (R673, R676): the beat count of the journal, the tracks rebased, the replay on. -/
def replayStart (s : State) : State :=
  match s.rpl.replayAt with
  | none => s
  | some t =>
    if s.now < t then s
    else
      let anchor := s.pair .RPL_ANCHOR_LO .RPL_ANCHOR_HI
      let s := modRpl s (fun j => { j with replayAt := none, replaying := true, fresh := [], expected := [], closed := [], runs := [] })
      let s := modRpl s (fun j => { j with lastBeat := anchor, skipTo := anchor, advancing := [], switching := [] })
      let s := { s with beat := (anchor + 2 ^ 64 - 4096) % 2 ^ 64 }
      let s := eachSlice s (fun s n => (List.finRange 4).foldl (fun s k => trackRebase s n k (2 ^ 32 - 1)) s)
      let s := ((s.setFld F.RPL_STATUS_STATE 2).setFld F.RPL_STATUS_END_CAUSE 0).wr .RPL_DIV_INFO 0
      if s.flag F.RPL_CFG_MUTE then eachSlice s (fun s n => guardPins s n F.PIN_STATUS_CAUSE_PWR) else s

def execJournalEnable (s : State) : Result := .next (journalEnable s)
def execJournalDisable (s : State) : Result := .next (journalDisable s)
def execJournalPartialFlush (s : State) : Result := .next (journalPartial s)
def execFlush (s : State) : Result := .next (journalFlush s)
def execJournalSpill (rp : BitVec 32) (s : State) : Result := .next (journalSpill s rp.toNat)
def execReplay (s : State) : Result := .next (replayAsk s)
def execReplayStart (s : State) : Result := .next (replayStart s)
def execStop (s : State) : Result := .next (replayEnd s 1)

end Sys2Proof.Machine
end

