-- ==== Sys2Proof/Machine/Address.lean ====
section
/-!
DEFINITION. The address map of the registers (R525 to R527): from an address to a register instance and back, and the journal
record of a register write (R666, R667).
-/

namespace Sys2Proof.Machine

/-- The address of a register instance. -/
def RegKey.address (key : RegKey) : Nat :=
  ((key.reg.dims.zip [key.i, key.j, key.k, key.l]).map (fun x => x.1.1 * x.2)).foldl (· + ·) key.reg.base

/-- The indices that an offset from the base spells, outermost first; none where the offset is not a place of the register. -/
def indicesAt : List (Nat × Nat) → Nat → Option (List Nat)
  | [], off => if off = 0 then some [] else none
  | (stride, count) :: t, off =>
    if off / stride < count then (indicesAt t (off % stride)).map (off / stride :: ·) else none

/-- The instance of a register that stands at an address. -/
def Reg.instanceAt (r : Reg) (addr : Nat) : Option RegKey :=
  if addr < r.base then none
  else (indicesAt r.dims (addr - r.base)).map (fun l => ⟨r, l.getD 0 0, l.getD 1 0, l.getD 2 0, l.getD 3 0⟩)

/-- The registers of the slice block that a page of 4 KiB belongs to (R527, R529). -/
def sliceBlock (page : Nat) : List Reg :=
  if page = 0 then .FF_CNT_CLR :: Reg.blockSLC
  else if page = 2 ∨ page = 3 then Reg.blockSEQ
  else if page = 4 then Reg.blockVEC
  else if page = 5 then Reg.blockTON
  else if page = 6 then Reg.blockTXC
  else if page = 7 then Reg.blockRXC
  else if page = 8 then Reg.blockPIN
  else if page = 9 then Reg.blockFF
  else if page = 10 then Reg.blockMAD
  else if page = 11 then Reg.blockTDC
  else if page = 12 then Reg.blockACQ
  else if 16 ≤ page ∧ page < 32 then Reg.blockTSET
  else if 128 ≤ page then Reg.blockDMX
  else []

/-- The registers of the global block that a page of 4 KiB belongs to (R526). -/
def globalBlock (page : Nat) : List Reg :=
  if page = 0 then Reg.blockGLB
  else if page = 1 then Reg.blockHST
  else if page = 2 then Reg.blockCTP
  else if page = 3 then Reg.blockEVT
  else if page = 4 then Reg.blockINV
  else if page = 5 then Reg.blockCHN
  else if page = 6 then Reg.blockTRG
  else if page = 7 then Reg.blockTDC
  else if page < 12 then Reg.blockVRD
  else if page < 16 then Reg.blockKTL
  else if page < 20 then Reg.blockDMA
  else if page = 20 then Reg.blockPWR
  else if page = 21 then Reg.blockSIDE
  else if page = 22 then Reg.blockACC
  else if page = 23 then Reg.blockPWT
  else if page < 32 then Reg.blockNRG
  else if page < 48 then Reg.blockCAL
  else if page < 52 then Reg.blockFLT
  else if page = 52 then Reg.blockRPL
  else if page = 53 then Reg.blockBOOT
  else if page = 54 then Reg.blockMGT
  else []

/-- An address of the global register region (R525). -/
def inGlobalRegs (addr : Nat) : Bool := decide (addr < 0x1000000)

/-- An address of a slice register region (R525). -/
def inSliceRegs (addr : Nat) : Bool := decide (0x10000000 ≤ addr) && decide (addr < 0x11000000)

/-- The slice of an address of a slice register region. -/
def sliceOfAddr (addr : Nat) : Fin 16 := ⟨addr / 0x100000 % 16, by omega⟩

/-- The register instance at an address, none where no register stands (R9). -/
def regAt (addr : Nat) : Option RegKey :=
  let l := if inGlobalRegs addr then globalBlock (addr / 0x1000)
    else if inSliceRegs addr then sliceBlock (addr % 0x100000 / 0x1000)
    else []
  l.findSome? (fun r => r.instanceAt addr)

/-- The path's code in a journal record (R666). -/
def pathCode : Path → Nat
  | .host => 0
  | .side => 1
  | .management => 2
  | .dma => 3

/-- A write to this address is an input of the journal (R667). -/
def journalled (addr : Nat) : Bool :=
  inSliceRegs addr ||
    (inGlobalRegs addr &&
      (let p := addr / 0x1000
       p == 0 || (decide (4 ≤ p) && decide (p < 12)) || p == 20 || (decide (24 ≤ p) && decide (p < 52))))

/-- The journal record of a register write (R666, R667): SRC names the slice or the global region. -/
def journalReg (s : State) (path : Path) (addr : Nat) (v : Word) : State :=
  if journalled addr then
    let (src, off) := if inSliceRegs addr then ((sliceOfAddr addr).val, addr % 0x100000 / 4) else (16, addr / 4)
    s.journal JType.REG_WRITE src (pathCode path) (v.toNat + off * 2 ^ 32)
  else s

end Sys2Proof.Machine
end

