-- ==== Sys2Proof/Machine/Digest.lean ====
section
/-!
DEFINITION. The two algorithms the spec names without writing them out: SHA-384 (R72, R73, R688), as FIPS 180-4 has it, and
the verification of an ECDSA signature over the curve P-384 (R73, R688), as FIPS 186 has it. PRESUMED: their arithmetic and
constants come from those standards and not from the spec (log entry 6).
-/

namespace Sys2Proof.Machine

/-! ### SHA-384 -/

/-- A 64-bit word turned right. -/
def shaTurn (k x : Nat) : Nat := (x >>> k) ||| ((x <<< (64 - k)) % 2 ^ 64)

/-- The round constants, ten rows of eight. -/
def shaRow0 : List Nat :=
  [0x428a2f98d728ae22, 0x7137449123ef65cd, 0xb5c0fbcfec4d3b2f, 0xe9b5dba58189dbbc,
   0x3956c25bf348b538, 0x59f111f1b605d019, 0x923f82a4af194f9b, 0xab1c5ed5da6d8118]
def shaRow1 : List Nat :=
  [0xd807aa98a3030242, 0x12835b0145706fbe, 0x243185be4ee4b28c, 0x550c7dc3d5ffb4e2,
   0x72be5d74f27b896f, 0x80deb1fe3b1696b1, 0x9bdc06a725c71235, 0xc19bf174cf692694]
def shaRow2 : List Nat :=
  [0xe49b69c19ef14ad2, 0xefbe4786384f25e3, 0x0fc19dc68b8cd5b5, 0x240ca1cc77ac9c65,
   0x2de92c6f592b0275, 0x4a7484aa6ea6e483, 0x5cb0a9dcbd41fbd4, 0x76f988da831153b5]
def shaRow3 : List Nat :=
  [0x983e5152ee66dfab, 0xa831c66d2db43210, 0xb00327c898fb213f, 0xbf597fc7beef0ee4,
   0xc6e00bf33da88fc2, 0xd5a79147930aa725, 0x06ca6351e003826f, 0x142929670a0e6e70]
def shaRow4 : List Nat :=
  [0x27b70a8546d22ffc, 0x2e1b21385c26c926, 0x4d2c6dfc5ac42aed, 0x53380d139d95b3df,
   0x650a73548baf63de, 0x766a0abb3c77b2a8, 0x81c2c92e47edaee6, 0x92722c851482353b]
def shaRow5 : List Nat :=
  [0xa2bfe8a14cf10364, 0xa81a664bbc423001, 0xc24b8b70d0f89791, 0xc76c51a30654be30,
   0xd192e819d6ef5218, 0xd69906245565a910, 0xf40e35855771202a, 0x106aa07032bbd1b8]
def shaRow6 : List Nat :=
  [0x19a4c116b8d2d0c8, 0x1e376c085141ab53, 0x2748774cdf8eeb99, 0x34b0bcb5e19b48a8,
   0x391c0cb3c5c95a63, 0x4ed8aa4ae3418acb, 0x5b9cca4f7763e373, 0x682e6ff3d6b2b8a3]
def shaRow7 : List Nat :=
  [0x748f82ee5defb2fc, 0x78a5636f43172f60, 0x84c87814a1f0ab72, 0x8cc702081a6439ec,
   0x90befffa23631e28, 0xa4506cebde82bde9, 0xbef9a3f7b2c67915, 0xc67178f2e372532b]
def shaRow8 : List Nat :=
  [0xca273eceea26619c, 0xd186b8c721c0c207, 0xeada7dd6cde0eb1e, 0xf57d4f7fee6ed178,
   0x06f067aa72176fba, 0x0a637dc5a2c898a6, 0x113f9804bef90dae, 0x1b710b35131c471b]
def shaRow9 : List Nat :=
  [0x28db77f523047d84, 0x32caab7b40c72493, 0x3c9ebe0a15c9bebc, 0x431d67c49c100d4c,
   0x4cc5d4becb3e42b6, 0x597f299cfc657e2a, 0x5fcb6fab3ad6faec, 0x6c44198c4a475817]

/-- The eighty round constants. -/
def shaRounds : List Nat :=
  shaRow0 ++ shaRow1 ++ shaRow2 ++ shaRow3 ++ shaRow4 ++ shaRow5 ++ shaRow6 ++ shaRow7 ++ shaRow8 ++ shaRow9

/-- The starting hash value of SHA-384. -/
def shaStart : List Nat :=
  [0xcbbb9d5dc1059ed8, 0x629a292a367cd507, 0x9159015a3070dd17, 0x152fecd8f70e5939,
   0x67332667ffc00b31, 0x8eb44a8768581511, 0xdb0c2e0d64f98fa7, 0x47b5481dbefa4fa4]

/-- A big-endian number. -/
def bigEndian (l : List Byte) : Nat := l.foldl (fun v b => 256 * v + b.toNat) 0

/-- The `k` bytes of a number, the highest first. -/
def bigBytes (k v : Nat) : List Byte := (List.range k).map (fun i => BitVec.ofNat 8 (v >>> (8 * (k - 1 - i))))

/-- The message schedule, extended by `k` words; the latest word stands first. -/
def shaExtend : Nat → List Nat → List Nat
  | 0, w => w
  | k + 1, w =>
    let a := w.getD 1 0
    let b := w.getD 14 0
    let x := (shaTurn 19 a ^^^ shaTurn 61 a ^^^ (a >>> 6)) + w.getD 6 0 +
      (shaTurn 1 b ^^^ shaTurn 8 b ^^^ (b >>> 7)) + w.getD 15 0
    shaExtend k ((x % 2 ^ 64) :: w)

/-- One round, on the eight working variables. -/
def shaRound (v : List Nat) (k w : Nat) : List Nat :=
  match v with
  | [a, b, c, d, e, f, g, h] =>
    let t := h + (shaTurn 14 e ^^^ shaTurn 18 e ^^^ shaTurn 41 e) + ((e &&& f) ^^^ ((2 ^ 64 - 1 - e) &&& g)) + k + w
    let u := (shaTurn 28 a ^^^ shaTurn 34 a ^^^ shaTurn 39 a) + ((a &&& b) ^^^ (a &&& c) ^^^ (b &&& c))
    [(t + u) % 2 ^ 64, a, b, c, (d + t) % 2 ^ 64, e, f, g]
  | _ => v

/-- The sixteen words of a block. -/
def shaWords (block : List Byte) : List Nat := (List.range 16).map (fun i => bigEndian ((block.drop (8 * i)).take 8))

/-- The hash value after one block of 128 bytes. -/
def shaBlock (hash : List Nat) (block : List Byte) : List Nat :=
  let w := (shaExtend 64 (shaWords block).reverse).reverse
  let v := (shaRounds.zip w).foldl (fun v kw => shaRound v kw.1 kw.2) hash
  (hash.zip v).map (fun hv => (hv.1 + hv.2) % 2 ^ 64)

/-- The hash value after `k` blocks. -/
def shaBlocks : Nat → List Byte → List Nat → List Nat
  | 0, _, hash => hash
  | k + 1, l, hash => shaBlocks k (l.drop 128) (shaBlock hash (l.take 128))

/-- The padding after `n` bytes: a one bit, zeros, and the length in bits in the last 16 bytes of a block. -/
def shaPad (n : Nat) : List Byte :=
  0x80 :: List.replicate ((239 - n % 128) % 128) 0 ++ bigBytes 16 (8 * n)

/-- SHA-384 of a list of bytes. -/
def sha384 (l : List Byte) : List Byte :=
  let m := l ++ shaPad l.length
  ((shaBlocks (m.length / 128) m shaStart).take 6).flatMap (bigBytes 8)

/-! ### The curve P-384 -/

/-- The prime of the field. -/
def curvePrime : Nat := 2 ^ 384 - 2 ^ 128 - 2 ^ 96 + 2 ^ 32 - 1

/-- The constant term of the curve's equation. -/
def curveB : Nat :=
  0xb3312fa7e23ee7e4988e056be3f82d19181d9c6efe8141120314088f5013875ac656398d8a2ed19d2a85c8edd3ec2aef

/-- The order of the base point. -/
def curveOrder : Nat :=
  0xffffffffffffffffffffffffffffffffffffffffffffffffc7634d81f4372ddf581a0db248b0a77aecec196accc52973

/-- The base point, in Jacobian coordinates (X, Y, Z); Z = 0 is the point at infinity. -/
def curveBase : Nat × Nat × Nat :=
  (0xaa87ca22be8b05378eb1c71ef320ad746e1d3b628ba79b9859f741e082542a385502f25dbf55296c3a545e3872760ab7,
   0x3617de4a96262c6f5d9e98bf9292dc29f8f41dbd289a147ce9da3113b5f0b8c00a60b1ce1d7e819d7a431d7c90ea0e5f, 1)

/-- A difference in the field. -/
def fieldSub (x y : Nat) : Nat := (x + curvePrime - y % curvePrime) % curvePrime

/-- A power modulo a number, over the `k` low bits of the exponent, the highest first. -/
def powMod (m x e : Nat) : Nat → Nat
  | 0 => 1 % m
  | k + 1 =>
    -- the exponent's bits above bit 0 first, then that bit
    let y := powMod m x (e / 2) k
    let z := y * y % m
    if e % 2 = 1 then z * x % m else z

/-- Twice a point. -/
def curveDouble (q : Nat × Nat × Nat) : Nat × Nat × Nat :=
  let p := curvePrime
  let d := q.2.2 * q.2.2 % p
  let g := q.2.1 * q.2.1 % p
  let b := q.1 * g % p
  let a := 3 * fieldSub q.1 d * (q.1 + d) % p
  let x := fieldSub (a * a) (8 * b)
  (x, fieldSub (a * fieldSub (4 * b) x) (8 * g * g), 2 * q.2.1 * q.2.2 % p)

/-- The sum of two points. -/
def curveAdd (q r : Nat × Nat × Nat) : Nat × Nat × Nat :=
  let p := curvePrime
  if q.2.2 = 0 then r else if r.2.2 = 0 then q else
    let zq := q.2.2 * q.2.2 % p
    let zr := r.2.2 * r.2.2 % p
    let u := q.1 * zr % p
    let t := q.2.1 * r.2.2 * zr % p
    let h := fieldSub (r.1 * zq % p) u
    let w := fieldSub (r.2.1 * q.2.2 * zq % p) t
    if h = 0 then (if w = 0 then curveDouble q else (1, 1, 0)) else
      let hh := h * h % p
      let hhh := h * hh % p
      let v := u * hh % p
      let x := fieldSub (w * w) (hhh + 2 * v)
      (x, fieldSub (w * fieldSub v x) (t * hhh), h * q.2.2 * r.2.2 % p)

/-- A multiple of a point, over the `k` low bits of the multiplier. -/
def curveMul (q : Nat × Nat × Nat) (e : Nat) : Nat → Nat × Nat × Nat
  | 0 => (1, 1, 0)
  | k + 1 =>
    let y := curveDouble (curveMul q (e / 2) k)
    if e % 2 = 1 then curveAdd y q else y

/-- The affine pair (x, y) is a point of the curve. -/
def onCurve (x y : Nat) : Bool :=
  let p := curvePrime
  decide (x < p) && decide (y < p) && decide (y * y % p = fieldSub (x * x * x + curveB) (3 * x))

/-- Whether the ECDSA P-384 signature `sig` (r, then s) of a digest verifies with the public key `key` (X, then Y). Each of
the four numbers is 48 bytes, little-endian (R70; DEDUCED for the key and the firmware slot). -/
def verifies (key digest sig : List Byte) : Bool :=
  let n := curveOrder
  let x := ofBytes (key.take 48)
  let y := ofBytes ((key.drop 48).take 48)
  let r := ofBytes (sig.take 48)
  let s := ofBytes ((sig.drop 48).take 48)
  if onCurve x y ∧ 0 < r ∧ r < n ∧ 0 < s ∧ s < n then
    let w := powMod n s (n - 2) 384
    let q := curveAdd (curveMul curveBase (bigEndian digest * w % n) 384) (curveMul (x, y, 1) (r * w % n) 384)
    let z := powMod curvePrime q.2.2 (curvePrime - 2) 384
    decide (q.2.2 ≠ 0) && decide (q.1 * z * z % curvePrime % n = r)
  else false

end Sys2Proof.Machine
end

