-- ==== Sys2Proof/Machine/Flash.lean ====
section
/-!
DEFINITION. What the flash and the fuses hold for the boot controller: the boot directory (R687), the keys (R689), the firmware
slots (R688), and the choice of a slot at a start of the management cores (R692).
-/

namespace Sys2Proof.Machine

def modBoot (s : State) (f : Boot → Boot) : State := { s with boot := f s.boot }

def modMgt (s : State) (f : Management → Management) : State := { s with mgt := f s.mgt }

/-! ### The boot directory (R687) -/

/-- The directory in force where no copy is valid (R687). -/
def Directory.default : Directory := { seq := 0, fwActive := false, fwTrial := false, fwTried := false, imgActive := false }

/-- The copy in force; 2 where none is valid (R631, R687). -/
def dirWhich (b : Boot) : Nat :=
  match b.dirs.toList with
  | [some x, some y] => if seqNewer y.seq x.seq then 1 else 0
  | [some _, none] => 0
  | [none, some _] => 1
  | _ => 2

/-- The directory in force (R687). -/
def dirNow (b : Boot) : Directory := (b.dirs.toList.getD (dirWhich b) none).getD Directory.default

/-- A change is written with SEQ + 1 into the copy not in force (R687); BOOT_STATUS shows FW_TRIAL. -/
def writeDir (s : State) (f : Directory → Directory) : State :=
  let d := dirNow s.boot
  let d' := { f d with seq := (d.seq + 1) % 2 ^ 32 }
  let copy := if dirWhich s.boot = 0 then 1 else 0
  (modBoot s (fun b => { b with dirs := b.dirs.setIfInBounds copy (some d') })).setFlag F.BOOT_STATUS_FW_TRIAL d'.fwTrial

/-! ### Keys and the firmware slots (R688, R689) -/

/-- A key is usable (R689). -/
def keyUsable (s : State) (k : Nat) : Bool :=
  decide (k < 4) && bitAt (s.fld F.BOOT_FUSES_VALID) k && !bitAt (s.fld F.BOOT_FUSES_REVOKED) k

/-- Some key is usable. -/
def anyKey (s : State) : Bool := (List.range 4).any (keyUsable s)

/-- A signature over bytes verifies with a usable key (R73, R688). -/
def signedBy (s : State) (key : Nat) (data sig : List Byte) : Bool :=
  keyUsable s key && verifies (s.boot.keys.toList.getD key []) (sha384 data) sig

/-- A little-endian number of some bytes of a list. -/
def numAt (l : List Byte) (off k : Nat) : Nat := ofBytes ((l.drop off).take k)

/-- The flash address of a firmware slot (R685). -/
def fwBase (slot : Bool) : Nat := if slot then 0x410000 else 0x10000

/-- The flash address of an image slot (R685). -/
def imgBase (slot : Bool) : Nat := if slot then 0x4800000 else 0x1000000

/-- The VERSION and the SECVER of a firmware slot that verifies (R688). -/
def fwCheck (s : State) (slot : Bool) : Option (Nat × Nat) :=
  let h := flashRead s.boot (fwBase slot) 256
  let len := numAt h 0xC 4
  if numAt h 0 4 = 0x4D474657 ∧ len ≤ 4194048 ∧ sha384 (flashRead s.boot (fwBase slot + 256) len) = (h.drop 0x20).take 48 ∧
      signedBy s (numAt h 0x10 4) (h.take 0x70) ((h.drop 0x70).take 96) ∧ s.fld F.BOOT_FUSES_SECVER ≤ numAt h 8 4 then
    some (numAt h 4 4, numAt h 8 4)
  else none

/-! ### The management cores (R692, R699, R701) -/

/-- MGT_STATUS.SHED: the load sheds, or the cores do not run (R699). -/
def refreshShed (s : State) : State :=
  s.setFlag F.MGT_STATUS_SHED (s.mgt.shedding || s.fld F.MGT_STATUS_STATE != 0 || s.fld F.MGT_STATUS_CORES == 0)

/-- MGT_STATUS.STATE: 0 RUNNING, 1 STARTING, 2 HALTED, 3 FAILED (R708); CORES shows the cores while RUNNING. -/
def setMgtState (s : State) (v : Nat) : State := refreshShed ((s.setFld F.MGT_STATUS_STATE v).setFld F.MGT_STATUS_CORES (if v = 0 then 15 else 0))

/-- The cores run. -/
def coresRunning (s : State) : Bool := s.fld F.MGT_STATUS_STATE == 0 && s.fld F.MGT_STATUS_CORES != 0

/-- The boot controller chooses a slot (R692). -/
def chooseSlot (s : State) : Option Bool × State :=
  let d := dirNow s.boot
  let (slot, s) :=
    if !d.fwTrial then (d.fwActive, s)
    else if !d.fwTried then (!d.fwActive, writeDir s (fun d => { d with fwTried := true }))
    else (d.fwActive, (writeDir s (fun d => { d with fwTrial := false, fwTried := false })).setFlag F.BOOT_STATUS_FW_FELLBACK true)
  if (fwCheck s slot).isSome then (some slot, s)
  else
    let s := s.setFlag F.BOOT_STATUS_FW_FELLBACK true
    if (fwCheck s (!slot)).isSome then (some (!slot), s) else (none, s)

/-- The device enters HELD with an error (R683). -/
def bootHeld (s : State) (err : Nat) : State := (s.setFld F.BOOT_STATUS_PHASE 10).setFld F.BOOT_STATUS_ERR err

/-- No slot verifies: the cores are FAILED and the device is HELD (R692, R703). -/
def coresFailed (s : State) : State := bootHeld (setMgtState (modMgt s (fun m => { m with runAt := none })) 3) 3

/-- The firmware of a slot is copied into the management reservation and is in force (R30, R682, R690). -/
def loadFirmware (s : State) (slot : Bool) : State :=
  match fwCheck s slot with
  | none => s
  | some (version, secver) =>
    let len := min (numAt (flashRead s.boot (fwBase slot) 256) 0xC 4) 0x200000
    let whole := (List.range (len / 8)).map (· + 0xE00000 / 8)
    let s := { s with cstore := whole.foldl Store.cleanWord (s.cstore.writeBytes 0xE00000 (flashRead s.boot (fwBase slot + 256) len)) }
    (modMgt ((s.setFlag F.BOOT_STATUS_FW_SLOT slot).wr .BOOT_FW_VER (BitVec.ofNat 32 version)) (fun m => { m with secver := secver }))

/-- The cores run and have kicked (R701). -/
def coresRun (s : State) : State :=
  setMgtState (modMgt s (fun m => { m with runAt := none, swapAt := none, haltAt := none, kicks := Vector.replicate 4 s.now })) 0

/-- A start of the cores outside the boot: they run when the slot is verified and copied, within the bound of the FIRMWARE phase (R692,
R701); the spec names no exact time. -/
def coresStart (s : State) : State :=
  let s := modMgt s (fun m => { m with runAt := none, swapAt := none, haltAt := none })
  match chooseSlot s with
  | (none, s) => coresFailed s
  | (some slot, s) =>
    let bound := if s.flag F.BOOT_STATUS_QUAD then 22500000 else 3750000
    let s := loadFirmware s slot
    setMgtState (modMgt s (fun m => { m with runAt := some (s.now + 1 + Config.openValue 30 s.now % bound) })) 1

/-- What the cores do by themselves at a boundary: cores that are STARTING run, and the firmware of a swap halts (R692, R704). -/
def mgtBeat (s : State) : State :=
  let s := match s.mgt.runAt with
    | some t => if s.fld F.MGT_STATUS_STATE = 1 ∧ t ≤ s.now then coresRun s else s
    | none => s
  match s.mgt.haltAt with
  | some t => if t ≤ s.now then coresStart (s.count .MGT_SWAPS) else s
  | none => s

end Sys2Proof.Machine
end

