-- ==== Sys2Proof/Machine/Image.lean ====
section
/-!
DEFINITION. The structure image: its layout (R70 to R76), the acceptance checks (R77, R83), and the image operations up to the
drain (R79, R82 to R86, R94 to R97). Loading a section stands in ImageLoad.
-/

namespace Sys2Proof.Machine

def modImg (s : State) (f : ImageUnit → ImageUnit) : State := { s with img := f s.img }

/-! ### Layout (R70 to R76) -/

/-- The directory entry of a section (R72), of the first 0x500 bytes of an image. -/
def imgEntry (h : List Byte) (i : Nat) : List Byte := (h.drop (0x30 + 0x40 * i)).take 0x40

def entryOffset (h : List Byte) (i : Nat) : Nat := numAt (imgEntry h i) 4 4
def entryLength (h : List Byte) (i : Nat) : Nat := numAt (imgEntry h i) 8 4
def entryCrc (h : List Byte) (i : Nat) : Nat := numAt (imgEntry h i) 0xC 4
def entryDigest (h : List Byte) (i : Nat) : List Byte := ((imgEntry h i).drop 0x10).take 48

/-- The SECVER and the SERIAL of an image (R71). -/
def imgSecver (h : List Byte) : Nat := numAt h 0xC 4
def imgSerial (h : List Byte) : Nat := numAt h 0x10 8

/-- A record of a section body (R76). -/
inductive ImgRecord where
  | reg (offset : Nat) (words : List Nat)
  | store (line : Nat) (data : List (List Byte))
  | zero (line count : Nat)
  | lram (bin word : Nat) (words : List Nat)
  | lock (pairs : List (Nat × Nat))
  | start (entry : Nat)
deriving DecidableEq, Repr

/-- All bytes are zero. -/
def allZero (l : List Byte) : Bool := l.all (· = 0)

/-- A list in pieces of 128 bytes. -/
def linesOf (l : List Byte) (k : Nat) : List (List Byte) := (List.range k).map (fun i => (l.drop (128 * i)).take 128)

/-- Words in pairs. -/
def pairsOf : List Nat → List (Nat × Nat)
  | a :: b :: t => (a, b) :: pairsOf t
  | _ => []

/-- One record and what follows it; none where it is not well formed (R75, R76). -/
def recordOf (central : Bool) (l : List Byte) : Option (ImgRecord × List Byte) :=
  let type := numAt l 0 1
  let unit := numAt l 1 1
  let target := numAt l 4 4
  let count := numAt l 8 4
  let body := l.drop 16
  let used (k : Nat) : Option (List Byte × List Byte) :=
    let padded := (k + 15) / 16 * 16
    if padded ≤ body.length ∧ allZero ((body.take padded).drop k) then some (body.take k, body.drop padded) else none
  let lines := if central then 131072 else 24576
  let region := if central then 0x1000000 else 0x100000
  let inStore := decide (1 ≤ count) && decide (count ≤ 24576) && decide (target + count ≤ lines) && (!central || decide (target + count ≤ 114688))
  if l.length < 16 ∨ numAt l 2 2 ≠ 0 ∨ numAt l 12 4 ≠ 0 ∨ (type ≠ 4 ∧ unit ≠ 0) then none
  else if type = 1 then
    if target % 4 = 0 ∧ 1 ≤ count ∧ count ≤ 4096 ∧ target + 4 * count ≤ region then
      (used (4 * count)).map (fun x => (.reg target (bytesToWords x.1), x.2))
    else none
  else if type = 2 then
    if inStore then (used (128 * count)).map (fun x => (.store target (linesOf x.1 count), x.2)) else none
  else if type = 3 then if inStore then some (.zero target count, body) else none
  else if type = 4 then
    if !central ∧ unit < 32 ∧ 1 ≤ count ∧ count ≤ 65536 ∧ target + count ≤ 2048 then
      (used (4 * count)).map (fun x => (.lram unit target (bytesToWords x.1), x.2))
    else none
  else if type = 5 then
    if target = 0 ∧ 1 ≤ count ∧ count ≤ 4096 then
      (used (8 * count)).bind (fun x =>
        let pairs := pairsOf (bytesToWords x.1)
        if pairs.all (fun p => p.1 % 4 == 0 && decide (p.1 < region)) then some (.lock pairs, x.2) else none)
    else none
  else if type = 6 then
    if !central ∧ count = 1 ∧ target < 196608 then
      (used 16).bind (fun x => if numAt x.1 0 4 = target ∧ allZero (x.1.drop 4) then some (.start target, x.2) else none)
    else none
  else none

/-- The header of the END record stands here and nothing follows it (R76). -/
def isEnd (l : List Byte) : Bool := l.length == 16 && numAt l 0 1 == 0x7F && allZero (l.drop 1)

/-- The records of a section body; `fuel` bounds their number. None where a record is not well formed (R75, R76). -/
def recordsGo (central : Bool) : Nat → List Byte → Option (List ImgRecord)
  | 0, _ => none
  | fuel + 1, l =>
    if isEnd l then some []
    else match recordOf central l with
      | none => none
      | some (r, rest) => (recordsGo central fuel rest).map (r :: ·)

/-- A record is a START record. -/
def ImgRecord.isStart : ImgRecord → Bool
  | .start _ => true
  | _ => false

/-- The records of a section body, with at most one START record (R76). -/
def sectionRecords (central : Bool) (body : List Byte) : Option (List ImgRecord) :=
  (recordsGo central (body.length / 16 + 1) body).bind (fun l => if (l.filter ImgRecord.isStart).length ≤ 1 then some l else none)

/-- The word that the records write last to a register offset of the slice region. -/
def lastWord (records : List ImgRecord) (offset : Nat) : Option Nat :=
  records.foldl (fun acc r => match r with
    | .reg o words => if o ≤ offset ∧ offset < o + 4 * words.length then words[(offset - o) / 4]? else acc
    | _ => acc) none

/-- The wheel map that a section gives its slice: the words it writes, else those of the present shadow (R48, R77). -/
def sectionMap (s : State) (n : Fin 16) (records : List ImgRecord) : Vector (BitVec 4) 64 :=
  Vector.ofFn (fun i : Fin 64 =>
    let w := (lastWord records ((Reg.base .SLC_WHEEL_MAP - 0x10000000) + 4 * (i.val / 4))).getD (s.rd .SLC_WHEEL_MAP n (i.val / 4)).toNat
    BitVec.ofNat 4 (bitsAt w (4 * (i.val % 4)) 4))

/-- A map that check 10 admits: at most 62 slots in all and no reserved code (R48, R77). -/
def mapAdmitted (m : Vector (BitVec 4) 64) : Bool := decide (2 ≤ freeSlots m) && m.toList.all (fun c => decide (c.toNat ≤ 5))

/-! ### Acceptance checks (R77, R83) -/

/-- What an image is read from: the central store from an offset, or a slot of the flash. -/
structure ImgSource where
  flash : Bool
  base : Nat
deriving DecidableEq, Repr

/-- Bytes of an image. -/
def ImgSource.read (src : ImgSource) (s : State) (off k : Nat) : List Byte :=
  if src.flash then flashRead s.boot (src.base + off) k else s.cstore.readClean (src.base + off) k

/-- The body of a section: at its OFFSET in a full image, behind the directory in a reload image (R72, R82). -/
def sectionBody (s : State) (src : ImgSource) (reload : Bool) (h : List Byte) (i : Nat) : List Byte :=
  src.read s (if reload then 0x500 else entryOffset h i) (entryLength h i)

/-- Checks 2 to 7, which concern the image as a whole (R77): the code of the first that fails, 0 for none. -/
def headerChecks (s : State) (h : List Byte) : Nat :=
  let target := numAt h 0xA 2
  if numAt h 0 4 ≠ 0x44555255 then 2
  else if numAt h 6 2 ≠ 1 ∨ numAt h 0x1C 4 ≠ 17 ∨ !allZero ((h.drop 0x24).take 12) ∨
      !(List.range 17).all (fun i => numAt (imgEntry h i) 0 1 == i) then 3
  else if numAt h 8 2 ≠ 0x1664 then 4
  else if target ≠ 0xFFFF ∧ !(s.flag F.KTL_ID_VALID && decide (target = s.fld F.KTL_ID_ID)) then 5
  else if imgSecver h < s.fld F.BOOT_FUSES_SECVER then 6
  else if !signedBy s (numAt h 0x470 4) (h.take 0x470) ((h.drop 0x480).take 96) then 7
  else 0

/-- Check 10 of one section (R77). -/
def sectionWell (s : State) (i : Nat) (body : List Byte) : Bool :=
  match sectionRecords (i == 16) body with
  | none => false
  | some l => if h : i < 16 then mapAdmitted (sectionMap s ⟨i, h⟩ l) else true

/-- The body of a section staged in the central store includes one of the poisoned words (R36). -/
def bodyPoisoned (src : ImgSource) (reload : Bool) (h : List Byte) (poison : List Nat) (i : Nat) : Bool :=
  let a := src.base + (if reload then 0x500 else entryOffset h i)
  !src.flash && poison.any (fun w => decide (a / 8 ≤ w) && decide (8 * w < a + entryLength h i))

/-- Checks 2 to 10 over the sections to be loaded: the result and the section concerned (R77). `poison` lists the poisoned words that the read
of a staged image found; a section with one fails check 8 (R36). -/
def imageChecks (s : State) (src : ImgSource) (reload : Bool) (secs : List Nat) (poison : List Nat) : Nat × Nat :=
  let h := src.read s 0 0x500
  let c := headerChecks s h
  if c ≠ 0 then (c, 31)
  else match secs.find? (fun i => bodyPoisoned src reload h poison i || sha384 (sectionBody s src reload h i) != entryDigest h i) with
    | some i => (8, i)
    | none => match secs.find? (fun i => crc32c (sectionBody s src reload h i) != entryCrc h i) with
      | some i => (9, i)
      | none => match secs.find? (fun i => !sectionWell s i (sectionBody s src reload h i)) with
        | some i => (10, i)
        | none => (0, 31)

/-- The sections of a full image. -/
def allSections : List Nat := List.range 17

/-- Check 1 for an image staged in the central store (R77, R102). -/
def requestOk (s : State) (reload : Option Nat) : Bool :=
  let src := s.fld F.GLB_IMG_SRC_OFFSET
  let len := s.fld F.GLB_IMG_LEN_BYTES
  src % 128 == 0 && decide (src + len ≤ 0xE00000) && decide (len ≤ 0x500000) && s.storeOn .central &&
    (match reload with
     | some n => len == 0x500 + entryLength (s.cstore.readClean src 0x500) n
     | none => true)

/-- The image of the operation in progress. -/
def opSource (s : State) : ImgSource :=
  if s.img.op = 2 then { flash := true, base := imgBase (s.img.slot == 1) } else { flash := false, base := s.fld F.GLB_IMG_SRC_OFFSET }

/-- The result of the checks of the operation in progress (R77, R83). -/
def opChecks (s : State) (poison : List Nat) : Nat × Nat :=
  let reload := s.img.op == 1
  if s.img.op = 2 then imageChecks s (opSource s) false allSections []
  else if !requestOk s (if reload then some s.img.slice else none) then (1, 31)
  else
    let r := imageChecks s (opSource s) reload (if reload then [s.img.slice] else allSections) poison
    if r.1 ≠ 0 ∨ !reload then r
    else if entryDigest ((opSource s).read s 0 0x500) 16 ≠ s.img.digests.toList.getD 16 [] then (11, 31)
    else if s.inSafe then (14, 31)
    else (0, 31)

/-! ### The operations (R79, R84 to R86, R94 to R97) -/

def imgPhase (s : State) : Nat := s.fld F.GLB_IMG_STATUS_PHASE
def imgBusy (s : State) : Bool := s.flag F.GLB_IMG_STATUS_BUSY

/-- Show a result (R101): DONE or FAIL, RESULT and SECTION. -/
def imgResult (s : State) (res sec : Nat) : State :=
  ((s.setFld F.GLB_IMG_STATUS_RESULT res).setFld F.GLB_IMG_STATUS_SECTION sec).setFlag
    (if res = 0 then F.GLB_IMG_STATUS_DONE else F.GLB_IMG_STATUS_FAIL) true

/-- An operation ends (R101, R519). -/
def imgEnd (s : State) (res sec : Nat) : State :=
  let s := (s.setFld F.GLB_IMG_STATUS_PHASE 0).setFlag F.GLB_IMG_STATUS_BUSY false
  let s := modImg (imgResult s res sec) (fun i => { i with abort := false })
  s.event EvCode.IMG_END 16 s.img.op res

/-- A slice whose section did not come into force stays isolated, with its wheel STOPPED and its serial zero, and reports RELOAD_FAIL
(R80, R94). -/
def sectionFailed (s : State) (n : Fin 16) (res : Nat) : State :=
  let s := wheelHalt s n
  let s := s.modSl n (fun x => { x with isolated := true })
  (s.setPair .GLB_IMG_SSERIAL_LO .GLB_IMG_SSERIAL_HI 0 n).raise Src.RELOAD_FAIL n res

/-- A reload fails after D (R94). -/
def reloadFail (s : State) (n : Fin 16) (res : Nat) : State :=
  let s := (sectionFailed s n res).bump F.GLB_IMG_COUNT_FAILED 1
  imgEnd s res n

/-- The device enters the safe state while an operation runs (R80, R94, R642). -/
def imgSafe (s : State) : State :=
  if !imgBusy s then s
  else if imgPhase s < 3 then imgEnd s 15 31
  else if s.img.op = 1 then reloadFail s ⟨s.img.slice % 16, by omega⟩ 19
  else imgEnd s 19 31

/-- GO is applied (R83, R95, R102): the operation starts, is ignored while another runs, or is refused at G. -/
def imgGo (s : State) (op slice : Nat) (slot : Bool) : State :=
  let s := ((s.setFld F.GLB_IMG_CTRL_OP op).setFld F.GLB_IMG_CTRL_SLICE slice).setFlag F.GLB_IMG_CTRL_FLASH_SLOT slot
  if imgBusy s then s.setFlag F.GLB_IMG_STATUS_GO_IGNORED true
  else
    let s := modImg s (fun i => { i with op := op, slice := slice, slot := bit01 slot, abort := false, faulty := false, verified := false })
    let s := (s.setFld F.GLB_IMG_STATUS_PHASE 1).setFlag F.GLB_IMG_STATUS_BUSY true
    if op = 3 then imgEnd s 1 31
    else if op = 1 then
      let r := s.pair .GLB_IMG_REJOIN_LO .GLB_IMG_REJOIN_HI
      if r % 16 ≠ 0 ∨ r < s.beat + 375000 + 16384 + ceilDiv (s.fld F.GLB_IMG_LEN_BYTES) 64 then imgEnd s 12 31
      else if slice < 2 ∧ s.flag F.PWT_CTRL_OPEN then imgEnd s 13 31
      else
        let t := s.now + (r - s.beat)
        let s := modImg s (fun i => { i with rejoinAt := t, drainAt := t - 375000 })
        let s := s.setPair .GLB_IMG_DRAIN_LO .GLB_IMG_DRAIN_HI (r - 375000)
        s.journal JType.RELOAD 16 slice ((r - 375000) % 2 ^ 32 + r % 2 ^ 32 * 2 ^ 32)
    else s

/-- GLB_IMG_CTRL.ABORT (R96). -/
def imgAbort (s : State) : State :=
  if !imgBusy s then s
  else if imgPhase s < 3 ∧ !(s.img.op == 1 && imgPhase s == 2 && decide (s.img.drainAt ≤ s.now)) then modImg s (fun i => { i with abort := true })
  else s.setFlag F.GLB_IMG_STATUS_ABORT_IGNORED true

/-- The boundary after an ABORT (R96). -/
def imgAbortBeat (s : State) : State := if s.img.abort ∧ imgBusy s then imgEnd s 15 31 else s

/-- The checks complete (R77, R83, R84): a CHECK ends, a RELOAD waits for D, a FULL drains every slice (R79). -/
def imgChecked (s : State) : State :=
  if !imgBusy s ∨ imgPhase s ≠ 1 ∨ s.img.abort then s
  else
    let staged : Bool := s.img.op != 2 && requestOk s (if s.img.op = 1 then some s.img.slice else none)
    let (_, poison, s) := if staged then rangeRead s .central (s.fld F.GLB_IMG_SRC_OFFSET) (s.fld F.GLB_IMG_LEN_BYTES) else ([], [], s)
    let (res, sec) := opChecks s poison
    if res ≠ 0 ∨ s.img.op = 0 then imgEnd s res sec
    else if s.img.op = 1 then s.setFld F.GLB_IMG_STATUS_PHASE 2
    else
      let s := modImg (s.setFld F.GLB_IMG_STATUS_PHASE 3) (fun i => { i with drainAt := s.now })
      eachSlice s (fun s n => if (s.sl n).isolated then s else sliceDrain s n)

/-- The slice of the reload that runs. -/
def reloadOf (s : State) (n : Fin 16) : Bool := imgBusy s && s.img.op == 1 && s.img.slice == n.val

/-- The drain beat D (R86). A slice that containment has already isolated skips the drain and is reset at D (R97). -/
def reloadDrain (s : State) (n : Fin 16) : State :=
  if reloadOf s n ∧ imgPhase s = 2 ∧ s.img.drainAt ≤ s.now ∧ !s.img.abort then
    let s := s.setFld F.GLB_IMG_STATUS_PHASE 3
    if (s.sl n).isolated then sliceReset (s.modSl n (fun x => { x with reloading := true })) n else sliceDrain s n
  else s

/-- The capture buffers of a draining slice are flushed, or the 1,024 beats that the isolation may take are over (R85, R86). -/
def drainSettled (s : State) (n : Fin 16) : Bool :=
  ((s.sl n).vec.capture.isEmpty && (acqWant s n).isNone) || decide (s.img.drainAt + 1024 ≤ s.now)

/-- The isolation of a reload (R50, R85, R88, R90), once its buffers are flushed: the wheel is STOPPED and the status of the units returns to
reset. LOAD follows. -/
def reloadIsolate (s : State) (n : Fin 16) : State :=
  if (reloadOf s n && imgPhase s == 3 && drainSettled s n) = true then
    let s := if (s.sl n).isolated then s else sliceReset (wheelHalt s n) n
    s.setFld F.GLB_IMG_STATUS_PHASE 4
  else s

/-- A fault report of the units concerned while a load runs (R80, R94, R655): the slice of a RELOAD or its die, or a central unit for a FULL
or a rebuild. -/
def imgFault (s : State) (scope : Nat) : State :=
  if s.fld F.FLT_STATUS_STATE = 2 ∧ 16 ≤ scope ∧ scope < 23 then modImg s (fun i => { i with faulty := true })
  else if !imgBusy s ∨ imgPhase s < 3 then s
  else if s.img.op = 1 then
    if scope = s.img.slice ∨ scope = Scope.sliceGroup (s.img.slice / 4) then modImg s (fun i => { i with faulty := true }) else s
  else if 16 ≤ scope ∧ scope < 23 then modImg s (fun i => { i with faulty := true })
  else s

/-! ### The commands -/

def execImgCheck (s : State) : Result := .next (imgGo s 0 (s.fld F.GLB_IMG_CTRL_SLICE) (s.flag F.GLB_IMG_CTRL_FLASH_SLOT))
def execImgReload (n : Fin 16) (s : State) : Result := .next (imgGo s 1 n (s.flag F.GLB_IMG_CTRL_FLASH_SLOT))
def execImgFull (slot : Bool) (s : State) : Result := .next (imgGo s 2 (s.fld F.GLB_IMG_CTRL_SLICE) slot)
def execImgAbort (s : State) : Result := .next (imgAbort s)
def execImgCheckDone (s : State) : Result := .next (imgChecked s)
def execReloadDrain (n : Fin 16) (s : State) : Result := .next (reloadDrain s n)
def execReloadIsolate (n : Fin 16) (s : State) : Result := .next (reloadIsolate s n)

end Sys2Proof.Machine
end

