-- ==== Sys2Proof/Machine/Faults.lean ====
section
/-!
DEFINITION. The fault collector (Fault Collection, Reaction and Availability): reports and their groups, reaction levels,
acknowledgement, self-tests, injection and the safe state.
-/

namespace Sys2Proof.Machine

def modFlt (s : State) (f : Collector → Collector) : State := { s with flt := f s.flt }

/-! ### Sources (R634, R635, R648) -/

/-- The class of a source (R634, R635). -/
def srcClass (src : Nat) : Nat :=
  if src = Src.INTEGRITY then 0
  else if src ≤ Src.CSTORE_UE then 1
  else if src ≤ Src.CENTRAL_LOAD then 2
  else if src ≤ Src.HOST_SAFE then 3
  else if src ≤ Src.CAL_STALE then 4
  else if src ≤ Src.PWR_OVER then 5
  else if src ≤ Src.BARRIER_LATE then 6
  else 7

/-- The self-tests of R648. -/
inductive TestKind where
  | none_
  | march
  | refetch
  | reverify
  | knownAnswer
  | knownCode
  | govCheck
  | lanePrbs
  | dmaLoop
  | rail
deriving DecidableEq, Repr

/-- The self-test of a source (R635). -/
def srcTest (src : Nat) : TestKind :=
  if src = Src.STORE_UE ∨ src = Src.CSTORE_UE then .march
  else if src = Src.SEQ_ERROR ∨ src = Src.VEC_ERROR ∨ src = Src.TONE_LIST then .refetch
  else if src = Src.RELOAD_FAIL then .reverify
  else if src = Src.BEAT_OVERRUN ∨ src = Src.BEAT_OVERRUN_C then .knownAnswer
  else if src = Src.CONV_FAIL ∨ src = Src.FF_SHORT then .knownCode
  else if src = Src.NRG_TRIP then .govCheck
  else if src = Src.KTL_LINK ∨ src = Src.HOST_LINK ∨ src = Src.DIE_LINK then .lanePrbs
  else if src = Src.DMA_BUS then .dmaLoop
  else if src = Src.INTEGRITY then .rail
  else .none_

/-- The duration of a test whose duration is fixed, 1 for a test that only has a bound (R648). -/
def TestKind.beats : TestKind → Nat
  | .govCheck => 16
  | .lanePrbs => 250000
  | .dmaLoop => 4096
  | .rail => 4
  | _ => 1

/-- The source exists: reserved sources never report (R635). -/
def srcDefined (s : State) (src : Nat) : Bool := decide (src < 256) && s.flag F.FLT_SRC_CFG_DEFINED src

/-- A pair lies on the die beyond a die link that is in fault (R639). -/
def behind (links : List Nat) (p : FaultPair) : Bool :=
  links.any (fun l =>
    let d := l % 4
    if l / 4 % 2 = 0 then
      (p.src == Src.CONV_FAIL && decide (p.index < 368) && decide (p.index / 23 / 4 = d)) || (p.src == Src.FF_SHORT && decide (p.scope / 4 = d))
    else p.src == Src.NRG_TRIP && decide (p.index % 4 = 2) && decide (p.index / 4 / 128 = d))

/-- The slices of a scope (R18, R641). -/
def scopeSlices (scope : Nat) : List (Fin 16) :=
  (List.finRange 16).filter (fun n => n.val == scope || (decide (23 ≤ scope) && n.val / 4 == scope - 23))

/-- The place that a scope's tests run in: slice groups use the device's (R649). -/
def testPlace (scope : Nat) : Nat := if 23 ≤ scope then Scope.device else scope

/-! ### The log (R658) -/

/-- Word `w` of a log record. -/
def logWord (s : State) (r w : Nat) : Nat := (s.rd .FLT_LOG r w).toNat

/-- Replace bits of word 0 of a log record that has not been overwritten. -/
def logBits (s : State) (r lo width v : Nat) : State :=
  if r < 256 then s.wr .FLT_LOG (BitVec.ofNat 32 (putBits (logWord s r 0) lo width v)) r 0 else s

/-- A record enters the log ring (R658); the answer names its position. -/
def logNew (s : State) (p : FaultPair) (level : Nat) (esc inj : Bool) (result : Nat) : State × Nat :=
  let r := s.fld F.FLT_LOG_WP_NEXT
  let old := logWord s r 0
  let s := if old % 256 ≠ 0 ∧ !old.testBit 15 then s.count .FLT_LOG_LOST else s
  let s := modFlt s (fun c => { c with tests := c.tests.map (fun t => if t.log = r then { t with log := 256 } else t) })
  let w := p.src + srcClass p.src * 2 ^ 8 + level * 2 ^ 11 + bit01 esc * 2 ^ 13 + bit01 inj * 2 ^ 14 + p.scope * 2 ^ 16 + result * 2 ^ 21
  let s := ((s.wr .FLT_LOG (BitVec.ofNat 32 w) r 0).wr .FLT_LOG (BitVec.ofNat 32 p.index) r 1).wr .FLT_LOG (BitVec.ofNat 32 s.beat) r 2
  ((s.wr .FLT_LOG (BitVec.ofNat 32 (s.beat / 2 ^ 32)) r 3).setFld F.FLT_LOG_WP_NEXT ((r + 1) % 256), r)

/-- Event code 9 of a record (R659). -/
def faultEvent (s : State) (p : FaultPair) (level : Nat) (esc : Bool) (result log : Nat) : State :=
  if level = 0 then s
  else s.event EvCode.FAULT (if p.scope < 16 then p.scope else 16) (srcClass p.src)
    (p.src + level * 2 ^ 8 + p.scope * 2 ^ 10 + bit01 esc * 2 ^ 15 + result * 2 ^ 16 + log % 256 * 2 ^ 19)

/-! ### Reactions (R640 to R642, R654, R657) -/

/-- FLT_STATUS.STATE: 0 NORMAL, 1 SAFE, 2 RECOVERING, 3 HELD (R654). -/
def fltState (s : State) : Nat := s.fld F.FLT_STATUS_STATE

/-- A mask with the slices of a list set. -/
def withSlices (m : BitVec 16) (l : List (Fin 16)) : BitVec 16 := l.foldl (fun (m : BitVec 16) n => m ||| BitVec.ofNat 16 (2 ^ n.val)) m

/-- A port is held out of service until a class is acknowledged (R641, R646). -/
def holdPort (s : State) (p cls : Nat) : State :=
  modFlt s (fun c => { c with portHeld := if (p, cls) ∈ c.portHeld then c.portHeld else c.portHeld ++ [(p, cls)] })

/-- L2 containment at a scope (R641); while the device is not NORMAL its slices are marked as held instead (R657). -/
def contain (s : State) (scope cls : Nat) : State :=
  if scope = 17 ∨ scope = 18 then hostLinkFall (holdPort s (scope - 17) cls) ⟨(scope - 17) % 2, by omega⟩
  else if 19 ≤ scope ∧ scope < 23 then
    let p : Fin 4 := ⟨(scope - 19) % 4, by omega⟩
    let s := holdPort s (2 + p) cls
    setKtlState (if s.ktlUp p then portLeavesUp s p 4 else s) p 0
  else if fltState s ≠ 0 then modFlt s (fun c => { c with held := withSlices c.held (scopeSlices scope) })
  else (scopeSlices scope).foldl isolateSlice s

/-- What the safe state does (R642): a replay ends (R675), image operations end, every slice is isolated, DMA ends with FAULT (R546)
and the fabric gets HOLD messages (R336). -/
def enterSafe (s : State) : State :=
  let s := imgSafe (replayEnd s 5)
  exportHolds (dmaEndAll (eachSlice s isolateSlice) 10) 1

/-- The isolated slices. -/
def isolatedMask (s : State) : BitVec 16 := withSlices 0 ((List.finRange 16).filter (fun n => (s.sl n).isolated))

/-- FLT_CFG.MAX_RESTART as it acts (R664). -/
def maxRestart (s : State) : Nat := min (s.fld F.FLT_CFG_MAX_RESTART) 5

/-- The L3 reaction (R642, R654, R657). -/
def reactL3 (s : State) : State :=
  if fltState s = 0 then
    let before := isolatedMask s
    let s := modFlt s (fun c => { c with held := before, devicePersistent := false, recoverAsked := false })
    enterSafe (((s.setFld F.FLT_STATUS_STATE 1).setFld F.FLT_STATUS_RESTARTS 0).count .FLT_L3_COUNT)
  else if fltState s = 2 then
    let k := s.fld F.FLT_STATUS_RESTARTS + 1
    let s := modFlt (s.setFld F.FLT_STATUS_RESTARTS (min k 7)) (fun c => { c with recoverAsked := false })
    enterSafe (s.setFld F.FLT_STATUS_STATE (if maxRestart s < k then 3 else 1))
  else s

/-- The reaction of a level at a scope (R640 to R642); L2 and L3 enter the journal (R666) and end a replay (R675). -/
def react (s : State) (p : FaultPair) (level : Nat) : State :=
  if level < 2 then s
  else
    let s := s.journal JType.FAULT 16 p.src (level + p.scope * 4)
    let s := replayEnd s 5
    if level = 2 ∧ p.scope ≠ Scope.device then contain s p.scope (srcClass p.src) else reactL3 s

/-! ### Acknowledgement (R646, R647) -/

/-- PEND of a class (R643). -/
def classPend (s : State) (c : Nat) : Bool := s.flag F.FLT_CLASS_PEND c

/-- Set or clear PEND, also in FLT_STATUS. -/
def setPend (s : State) (c : Nat) (b : Bool) : State :=
  (s.setFlag F.FLT_CLASS_PEND b c).setFld F.FLT_STATUS_PEND (putBit (s.fld F.FLT_STATUS_PEND) c b)

/-- A class is acknowledged (R646): PEND and HELD clear, its records are marked and its port holds lifted. -/
def ackClass (s : State) (c : Nat) : State :=
  let s := ((setPend s c false).setFld F.FLT_CLASS_HELD 0 c).setFld F.FLT_CLASS_COUNT 0 c
  let s := (List.range 256).foldl (fun s r =>
    let w := logWord s r 0
    if w % 256 ≠ 0 ∧ bitsAt w 8 3 = c then logBits s r 15 1 1 else s) s
  let s := modFlt s (fun x => { x with portHeld := x.portHeld.filter (fun h => h.2 ≠ c) })
  (List.range 4).foldl ktlEnable s

/-- A record of the class made after position `r` is not acknowledged; position 256 stands for a record that has been overwritten. -/
def laterUnacked (s : State) (c r : Nat) : Bool :=
  let wp := s.fld F.FLT_LOG_WP_NEXT
  let count := if r = 256 then 256 else (wp + 256 - (r + 1)) % 256
  (List.range count).any (fun k =>
    let w := logWord s ((wp + 255 - k) % 256) 0
    decide (w % 256 ≠ 0) && decide (bitsAt w 8 3 = c) && !w.testBit 15)

/-! ### Results of self-tests (R647, R650, R651) -/

/-- Results that count as PERSISTENT: 3 PERSISTENT, 4 OVERFLOW, 5 NOT_RUN (R650). -/
def countsPersistent (result : Nat) : Bool := 3 ≤ result && result ≤ 5

/-- A result of a report is recorded (R647, R650, R651, R655, R659). -/
def recordResult (s : State) (log : Nat) (p : FaultPair) (level : Nat) (esc episode : Bool) (result : Nat) : State :=
  let c := srcClass p.src
  let s := logBits s log 21 3 result
  if countsPersistent result then
    let pl := s.fld F.FLT_SRC_CFG_PLEVEL p.src
    let raised := decide (level < pl)
    let level' := if raised then pl else level
    let s := if raised then
        let s := (logBits s log 11 2 pl).setFld F.FLT_CLASS_HELD (max pl (s.fld F.FLT_CLASS_HELD c)) c
        react s p pl
      else s
    let s := if fltState s ≠ 0 then modFlt s (fun x => { x with held := withSlices x.held (scopeSlices p.scope) }) else s
    let s := if episode ∧ p.scope = Scope.device then modFlt s (fun x => { x with devicePersistent := true }) else s
    faultEvent s p level' esc result log
  else
    let s := faultEvent s p level esc result log
    if level ≤ 1 ∧ s.flag F.FLT_CLASS_CFG_AUTO_ACK c ∧ !laterUnacked s c log then ackClass s c else s

/-- A queued test that no earlier test of its place precedes has become the oldest (R650). -/
def markOldest (s : State) : State :=
  let l := s.flt.tests
  modFlt s (fun c => { c with tests := l.zipIdx.map (fun x =>
    let first := (l.take x.2).all (fun t => t.started.isSome || testPlace t.pair.scope != testPlace x.1.pair.scope)
    if x.1.started.isNone ∧ x.1.oldest.isNone ∧ first then { x.1 with oldest := some s.now } else x.1) })

/-- The self-test of a report is queued, or its result is known at once (R648 to R650). -/
def queueTest (s : State) (log : Nat) (p : FaultPair) (level : Nat) (esc : Bool) : State :=
  let episode := decide (fltState s ≠ 0)
  if srcTest p.src = .none_ then recordResult s log p level esc episode 1
  else if 64 ≤ s.flt.tests.length then recordResult (s.setFlag F.FLT_STATUS_QOVF true) log p level esc episode 4
  else
    let t : SelfTest := { log := log, pair := p, level := level, oldest := none, started := none, episode := episode, overwritten := false }
    let s := modFlt s (fun c => { c with tests := c.tests ++ [t] })
    (markOldest s).peak F.FLT_QSTATUS_PEAK s.flt.tests.length

/-! ### Reports (R637 to R645, R653) -/

/-- The level of a source's reports (R636). -/
def srcLevel (s : State) (src : Nat) : Nat := s.fld F.FLT_SRC_CFG_LEVEL src

/-- A report of an injection with DRY is logged at L0 (R653). -/
def dryReport (s : State) (r : FaultReport) : State := (logNew (s.count .FLT_SRC_COUNT r.pair.src) r.pair 0 false true 1).1

/-- One report of a group is logged and counted (R643, R658). The answer names its position. -/
def logReport (s : State) (r : FaultReport) (level : Nat) (esc : Bool) : State × Nat :=
  let c := srcClass r.pair.src
  let s := (s.count .FLT_SRC_COUNT r.pair.src).bump F.FLT_CLASS_COUNT 1 c
  let s := s.setFld F.FLT_CLASS_LAST_SRC r.pair.src c
  logNew s r.pair level esc r.injected 0

/-- The reports of one class with one report beat (R644, R645); the tests to be queued come back. -/
def groupReport (s : State) (c : Nat) (l : List FaultReport) : State × List (Nat × FaultPair × Nat × Bool) :=
  match l with
  | [] => (s, [])
  | r0 :: _ =>
    let top := l.foldl (fun m r => max m (srcLevel s r.pair.src)) 0
    let esc := classPend s c
    let level := if esc then min 3 (max top (s.fld F.FLT_CLASS_HELD c + 1)) else top
    let s := if esc then s else (s.setFld F.FLT_CLASS_FIRST_SRC r0.pair.src c).setFld F.FLT_CLASS_COUNT 0 c
    let s := (setPend s c true).setFld F.FLT_CLASS_HELD (max level (s.fld F.FLT_CLASS_HELD c)) c
    let (s, logs) := l.foldl (fun (x : State × List (Nat × FaultPair × Nat × Bool)) r =>
      let (s, k) := logReport x.1 r level esc
      (imgFault (faultEvent s r.pair level esc 0 k) r.pair.scope, x.2 ++ [(k, r.pair, level, esc)])) (s, [])
    (l.foldl (fun s r => react s r.pair level) s, logs)

/-- The order in which reports of one beat are taken: by source, scope and index. -/
def FaultReport.before (a b : FaultReport) : Bool :=
  if a.pair.src = b.pair.src then
    if a.pair.scope = b.pair.scope then decide (a.pair.index ≤ b.pair.index) else decide (a.pair.scope < b.pair.scope)
  else decide (a.pair.src < b.pair.src)

/-- The classes of a list of reports, in the order of their first reports. -/
def classesOf : List FaultReport → List Nat
  | [] => []
  | r :: t => srcClass r.pair.src :: (classesOf t).filter (· ≠ srcClass r.pair.src)

/-- The INTEGRITY report of a broken pair, whose scope is that of the pair's source (R635, R638). -/
def integrityOf (p : FaultPair) (injected dry : Bool) : FaultReport :=
  { pair := { src := Src.INTEGRITY, scope := p.scope, index := p.src + p.index % 65536 * 256 }, injected := injected, dry := dry }

/-- The scope of the instance that an injection names (R635); for a source of a slice whose INDEX does not name the slice it is an open
value. -/
def injectScope (s : State) (src index : Nat) : Nat :=
  if src = Src.CONV_FAIL ∨ src = Src.CAL_STALE then (if index = 368 then Scope.device else index / 23 % 16)
  else if src = Src.NRG_TRIP then (if index % 4 = 0 then index / 4 / 4 % 16 else if index % 4 = 1 then index / 4 / 8 % 16 else index / 4 / 32 % 16)
  else if src = Src.KTL_LINK ∨ src = Src.KTL_FLIGHT then Scope.fabricPort (index % 4)
  else if src = Src.HOST_LINK then Scope.hostPort (index % 2)
  else if src = Src.DIE_LINK then Scope.sliceGroup (index % 4)
  else if src ≤ Src.RELOAD_FAIL ∧ src ≠ Src.CSTORE_UE ∨ src = Src.BEAT_OVERRUN ∨ src = Src.FF_SHORT then Config.openValue 21 s.now % 16
  else Scope.device

/-- The injection names this pair (R652). -/
def injectionOf (s : State) (p : FaultPair) : Option Injection :=
  match s.flt.inject with
  | some j => if j.mode < 2 ∧ j.src = p.src ∧ j.index = p.index ∧ j.src ≠ Src.STORE_UE ∧ j.src ≠ Src.CSTORE_UE then some j else none
  | none => none

/-- The injection has acted (R652). -/
def injectDone (s : State) : State := (modFlt s (fun c => { c with inject := none })).setFlag F.FLT_INJECT_BUSY false

/-- FAULT_REPORT (R637 to R645, R653): what the units raised, the pairs that newly stand in fault or broken, and a RAIL injection. -/
def faultReport (s : State) (faults broken quiet : List FaultPair) : State :=
  let quiet := quiet.filter (fun p => p.src ≠ Src.DIE_LINK)
  let standing := s.flt.inFault.filter (fun p => p ∉ quiet)
  let wasBroken := s.flt.broken.filter (fun p => p ∉ quiet)
  let entering := (faults.filter (fun p => p ∉ standing && srcDefined s p.src)).eraseDups
  let links := ((standing ++ entering).filter (fun p => p.src = Src.DIE_LINK)).map (·.index)
  let breaking := (broken.filter (fun p => p ∉ wasBroken && srcDefined s p.src && !behind links p)).eraseDups
  let nowBroken := wasBroken ++ breaking
  let seen (p : FaultPair) : Bool := srcDefined s p.src && !behind links p && decide (p ∉ nowBroken)
  let fresh := entering.filter seen
  let marked (p : FaultPair) : FaultReport :=
    match injectionOf s p with
    | some j => { pair := p, injected := true, dry := j.dry }
    | none => { pair := p, injected := false, dry := false }
  let live := (s.flt.raised.filter (fun r => seen r.pair)).map (fun r => if r.injected then r else marked r.pair)
  let once := (live.any (fun r => (injectionOf s r.pair).any (fun j => j.mode = 0))) || fresh.any (fun p => (injectionOf s p).any (fun j => j.mode = 0))
  let rail := match s.flt.inject with
    | some j => if j.mode = 2 then [integrityOf { src := j.src, scope := injectScope s j.src j.index, index := j.index } true j.dry] else []
    | none => []
  let all := sortBy FaultReport.before (live ++ fresh.map marked ++ breaking.map (fun p => integrityOf p false false) ++ rail)
  let s := modFlt s (fun c => { c with raised := [], inFault := (standing.filter (fun p => !behind links p && decide (p ∉ nowBroken))) ++ fresh,
                                       broken := nowBroken.filter (fun p => !behind links p) })
  let s := if once ∨ !rail.isEmpty then injectDone s else s
  let s := (all.filter (·.dry)).foldl dryReport s
  let reports := all.filter (fun r => !r.dry)
  let (s, tests) := (classesOf reports).foldl (fun (x : State × List (Nat × FaultPair × Nat × Bool)) c =>
    let (s, l) := groupReport x.1 c (reports.filter (fun r => srcClass r.pair.src = c))
    (s, x.2 ++ l)) (s, [])
  tests.foldl (fun s t => queueTest s t.1 t.2.1 t.2.2.1 t.2.2.2) s

/-! ### Self-tests (R648 to R651) -/

/-- The converter that a KNOWN_CODE test drives (R635, R610). -/
def testConverter (p : FaultPair) : Option (Fin 369) :=
  let i := if p.src = Src.FF_SHORT then p.scope * 23 + 6 + p.index % 8 else p.index
  if h : i < 369 then some ⟨i, h⟩ else none

/-- A test may start (R649): its converter is quiet, or its port is out of service. -/
def testReady (s : State) (t : SelfTest) : Bool :=
  match srcTest t.pair.src with
  | .knownCode => match testConverter t.pair with
    | some i => convQuiet s i
    | none => true
  | .lanePrbs =>
    if t.pair.src = Src.HOST_LINK then s.fld F.HST_PORT_STATUS_LINK (t.pair.index % 2) != 2
    else if t.pair.src = Src.KTL_LINK then !s.ktlUp (t.pair.index % 4)
    else true
  | _ => true

/-- A test runs at a place. -/
def placeBusy (s : State) (place : Nat) : Bool := s.flt.tests.any (fun t => t.started.isSome && testPlace t.pair.scope == place)

/-- The oldest queued test whose place is free starts, unless the firmware sheds load (R649). -/
def selfTestStart (s : State) : State :=
  if s.flag F.MGT_STATUS_SHED then s
  else
    let may (t : SelfTest) : Bool := t.oldest.isSome && t.started.isNone && !placeBusy s (testPlace t.pair.scope) && testReady s t
    match s.flt.tests.findIdx? may with
    | none => s
    | some i => markOldest (modFlt s (fun c => { c with tests := listMod c.tests i (fun t => { t with started := some s.now }) }))

/-- ESC of a record that is still in the log (R658). -/
def logEsc (s : State) (r : Nat) : Bool := decide (r < 256) && (logWord s r 0).testBit 13

/-- A test leaves the queue with its result. -/
def testEnds (s : State) (t : SelfTest) (result : Nat) : State :=
  let s := markOldest (modFlt s (fun c => { c with tests := c.tests.erase t }))
  recordResult s t.log t.pair t.level (logEsc s t.log) t.episode result

/-- The line that a REFETCH test reads (R635, R648). -/
def refetchLine (p : FaultPair) : Nat := if p.src = Src.TONE_LIST then p.index % 2 ^ 17 / 4 else p.index % 2 ^ 18 / 8

/-- The test that runs at a place ends (R648). -/
def selfTestResult (s : State) (place : Nat) (bad : Bool) : State :=
  match s.flt.tests.find? (fun t => t.started.isSome && testPlace t.pair.scope == place) with
  | none => s
  | some t =>
    let k := srcTest t.pair.src
    if s.now < t.started.getD 0 + k.beats then s
    else
      let poisoned : Bool := match k with
        | .refetch => (scopeSlices t.pair.scope).any (fun n => !((s.sl n).store.linePoison (refetchLine t.pair)).isEmpty)
        | _ => false
      if k = .march ∧ t.overwritten then testEnds (logBits s t.log 24 1 1) t 2
      else testEnds s t (if bad ∨ poisoned then 3 else 2)

/-- FLT_ST_WAIT ends for the oldest test of a place, which has not started (R650). -/
def selfTestTimeout (s : State) (place : Nat) : State :=
  match s.flt.tests.find? (fun t => t.oldest.isSome && t.started.isNone && testPlace t.pair.scope == place) with
  | none => s
  | some t => if t.oldest.getD 0 + max 1 (s.fld F.FLT_ST_WAIT_MS) * 250000 ≤ s.now then testEnds s t 5 else s

/-! ### Commands (R652, R654, R655) -/

/-- Every test of the episode has its result (R654). -/
def episodeTested (s : State) : Bool := s.flt.tests.all (fun t => !t.episode)

/-- RECOVERING begins (R655): a chain slave that is not ALIGNED realigns. -/
def recoveryBegin (s : State) : State :=
  let s := modImg (modFlt (s.setFld F.FLT_STATUS_STATE 2) (fun c => { c with recoverAsked := false })) (fun i => { i with faulty := false })
  if chnFollows s ∧ !chnAligned s then chnRealign s else s

/-- RECOVERY_START (R654): SAFE is left once every test of the episode has its result. -/
def recoveryStart (s : State) : State :=
  if fltState s ≠ 1 ∨ !episodeTested s then s
  else if s.flt.devicePersistent then s.setFld F.FLT_STATUS_STATE 3
  else if s.flag F.FLT_CFG_AUTO_RECOVER ∨ s.flt.recoverAsked then recoveryBegin s
  else s

/-- FLT_CTRL.RECOVER (R654). -/
def recover (s : State) : State :=
  if fltState s = 1 then modFlt s (fun c => { c with recoverAsked := true })
  else if fltState s = 3 then
    if episodeTested s ∧ !s.flt.devicePersistent then recoveryBegin (s.setFld F.FLT_STATUS_RESTARTS 0)
    else s.setFlag F.FLT_STATUS_RECOVER_REFUSED true
  else s

/-- FLT_INJECT.GO (R652). -/
def inject (s : State) : State :=
  let src := s.fld F.FLT_INJECT_SOURCE
  let mode := s.fld F.FLT_INJECT_MODE
  if s.flag F.FLT_INJECT_BUSY ∨ !srcDefined s src ∨ mode = 3 then s.setFlag F.FLT_STATUS_INJ_REFUSED true
  else
    let j : Injection := { src := src, index := s.fld F.FLT_INJECT_IDX_INDEX, mode := mode, dry := s.flag F.FLT_INJECT_DRY,
                           until_ := s.now + max 1 (s.fld F.FLT_INJECT_BEATS) }
    (modFlt s (fun c => { c with inject := some j })).setFlag F.FLT_INJECT_BUSY true

/-- An injection of MODE HELD ends after its beats (R652). -/
def injectBeat (s : State) : State :=
  match s.flt.inject with
  | some j => if j.mode = 1 ∧ j.until_ ≤ s.now then injectDone s else s
  | none => s

/-- FLT_STATUS.ALERT (R660). -/
def alertLow (s : State) : Bool :=
  fltState s != 0 || (List.range 8).any (fun c => classPend s c && decide (s.fld F.FLT_CFG_ALERT_LEVEL ≤ s.fld F.FLT_CLASS_HELD c))

/-- The slices out of service at a boundary (R661). -/
def lossCount (s : State) : Nat :=
  if fltState s ≠ 0 ∨ (imgBusy s && s.img.op == 2 && decide (3 ≤ imgPhase s)) = true then 16
  else ((List.finRange 16).filter (fun n => (s.sl n).isolated || (s.sl n).reloading)).length

/-- FLT_LOSS adds them (R661). -/
def lossBeat (s : State) : State :=
  let k := lossCount s
  if k = 0 then s else s.pairAdd .FLT_LOSS_LO .FLT_LOSS_HI k

def execFaultReport (faults broken quiet : List FaultPair) (s : State) : Result := .next (faultReport s faults broken quiet)
def execFltAck (classes : BitVec 8) (s : State) : Result := .next ((setBits 8 classes.toNat).foldl ackClass s)
def execSelfTestStart (s : State) : Result := .next (selfTestStart s)
def execSelfTestResult (place : BitVec 5) (bad : Bool) (s : State) : Result := .next (selfTestResult s place.toNat bad)
def execSelfTestTimeout (place : BitVec 5) (s : State) : Result := .next (selfTestTimeout s place.toNat)
def execRecover (s : State) : Result := .next (recover s)
/-- SAFE raises HOST_SAFE, whose reaction enters the safe state at its report beat (R642, R654, R664). -/
def execSafe (s : State) : Result := .next (s.raise Src.HOST_SAFE Scope.device 0)
def execInject (s : State) : Result := .next (inject s)
def execRecoveryStart (s : State) : Result := .next (recoveryStart s)
/-- DIE_LINK_SOUND: the pair of a die link returns to quiet (R635, R639). -/
def execDieLinkSound (index : BitVec 3) (s : State) : Result :=
  .next (modFlt s (fun c => { c with inFault := c.inFault.filter (fun p => !(decide (p.src = Src.DIE_LINK) && decide (p.index = index.toNat))) }))

end Sys2Proof.Machine
end

