-- ==== Sys2Proof/Machine/Startup.lean ====
section
/-!
DEFINITION. The commands of the boot controller and of the management cores (Start-up, Boot, Firmware and In-Service Change): firmware
slots, fuses, flash operations, the start of programs, the watchdog and the swap. The boot phases stand in Boot.
-/

namespace Sys2Proof.Machine

/-- The device is held in reset: PORESET_N is low, a rail is below its threshold, or a junction has tripped (R712, R714, R717). -/
def State.inReset (s : State) : Bool := s.supply.poreset || s.supply.rails != 0 || s.supply.hot

/-- What the boot controller and the fuses do only outside reset. -/
def State.awake (s : State) (f : State → State) : State := if s.inReset then s else f s

/-! ### Directory, fuses and keys (R687, R689, R690, R692, R693) -/

/-- BOOT_CTRL.TRY_FW: FW_TRIAL for the next start (R692). -/
def tryFw (s : State) : State := writeDir s (fun d => { d with fwTrial := true })

/-- BOOT_CTRL.CONFIRM: the running slot becomes FW_ACTIVE (R692). -/
def confirmFw (s : State) : State :=
  let slot := s.flag F.BOOT_STATUS_FW_SLOT
  writeDir s (fun d => { d with fwActive := slot, fwTrial := false, fwTried := false })

/-- BOOT_CTRL.COMMIT_SECVER (R690). -/
def commitSecver (s : State) : State :=
  let v := min (min s.mgt.secver s.img.secver) 64
  if (dirNow s.boot).fwTrial ∨ v ≤ s.fld F.BOOT_FUSES_SECVER then s.setFlag F.BOOT_STATUS_COMMIT_REFUSED true
  else s.setFld F.BOOT_FUSES_SECVER v

/-- BOOT_CTRL.SET_IMG (R693): the other slot is named for the next power-up if it matches what runs. -/
def setImg (s : State) : State :=
  let other := !(dirNow s.boot).imgActive
  let src : ImgSource := { flash := true, base := imgBase other }
  let h := src.read s 0 0x500
  if (imageChecks s src false allSections []).1 = 0 ∧ allSections.all (fun i => entryDigest h i == s.img.digests.toList.getD i []) then
    writeDir s (fun d => { d with imgActive := other })
  else s.setFlag F.BOOT_STATUS_SET_IMG_REFUSED true

/-- BOOT_KEY_PROG.INDEX. -/
def keyIndex (s : State) : Nat := s.fld F.BOOT_KEY_PROG_INDEX

/-- BOOT_CTRL.KEY_WRITE (R689): the 96 bytes of the key come from the central store. -/
def keyWrite (s : State) : State :=
  let k := keyIndex s
  let a := s.fld F.BOOT_KEY_PROG_SRC * 256
  if bitAt (s.fld F.BOOT_FUSES_LOCKED) k ∨ 0x1000000 < a + 96 ∨ !s.storeOn .central then s.setFlag F.BOOT_STATUS_KEY_REFUSED true
  else
    let (key, poisoned, s) := rangeRead s .central a 96
    if !poisoned.isEmpty then s.setFlag F.BOOT_STATUS_KEY_REFUSED true
    else
      let s := modBoot s (fun b => { b with keys := b.keys.setIfInBounds k key })
      s.setFld F.BOOT_FUSES_VALID (putBit (s.fld F.BOOT_FUSES_VALID) k true)

/-- BOOT_CTRL.LOCK_KEY (R689). -/
def lockKey (s : State) : State := s.setFld F.BOOT_FUSES_LOCKED (putBit (s.fld F.BOOT_FUSES_LOCKED) (keyIndex s) true)

/-- BOOT_CTRL.REVOKE (R689): refused if it would leave no usable key. -/
def revoke (s : State) : State :=
  let s' := s.setFld F.BOOT_FUSES_REVOKED (putBit (s.fld F.BOOT_FUSES_REVOKED) (keyIndex s) true)
  if anyKey s' then s' else s.setFlag F.BOOT_STATUS_KEY_REFUSED true

/-! ### Flash operations (R685, R686, R691) -/

/-- Two ranges have an address in common. -/
def overlap (a k b l : Nat) : Bool := decide (a < b + l) && decide (b < a + k)

/-- The range lies in the regions that the host may write (R685). -/
def flashOpen (a k : Nat) : Bool :=
  (decide (0x10000 ≤ a) && decide (a + k ≤ 0x820000)) || (decide (0x1000000 ≤ a) && decide (a + k ≤ 0x8000000))

/-- ERASE rounds its length up to whole sectors (R707). -/
def flashSpan (op len : Nat) : Nat := if op = 1 then (len + 0xFFFF) / 0x10000 * 0x10000 else len

/-- An ERASE or WRITE touches the firmware slot in force, the image slot in force, or a slot that is being read (R691). -/
def flashInUse (s : State) (a k : Nat) : Bool :=
  let reading := (imgBusy s && s.img.op == 2) || s.fld F.BOOT_STATUS_PHASE == 7
  overlap a k (fwBase (s.flag F.BOOT_STATUS_FW_SLOT)) 0x400000 || overlap a k (imgBase (dirNow s.boot).imgActive) 0x3800000 ||
    (reading && (overlap a k (imgBase false) 0x3800000 || overlap a k (imgBase true) 0x3800000))

/-- A WRITE that would make an image slot of quad flash hold more than 10 MiB (R686). -/
def flashTooLong (s : State) (a k : Nat) : Bool :=
  s.flag F.BOOT_STATUS_QUAD &&
    [false, true].any (fun slot => overlap a k (imgBase slot) 0x3800000 && decide (imgBase slot + 10485760 < min (a + k) (imgBase slot + 0x3800000)))

/-- The CAUSE for which an operation is refused, 0 for none (R691). -/
def flashRefusal (s : State) (op a src len : Nat) : Nat :=
  let k := flashSpan op len
  if s.boot.op.isSome then 5
  else if op = 3 then 3
  else if !flashOpen a k ∨ (op = 1 ∧ a % 0x10000 ≠ 0) then 1
  else if op ≠ 0 ∧ flashInUse s a k then 2
  else if len = 0 ∨ len % 4 ≠ 0 ∨ (op ≠ 1 ∧ (src % 4 ≠ 0 ∨ 0xE00000 < src + len)) then 3
  else if op = 2 ∧ flashTooLong s a k then 4
  else 0

/-- BOOT_CTRL.FL_GO (R691). -/
def flashGo (s : State) (op : Nat) : State :=
  let s := s.setFld F.BOOT_FL_OP_OP op
  let a := s.fld F.BOOT_FL_ADDR_ADDR
  let src := s.fld F.BOOT_FL_SRC_OFFSET
  let len := s.fld F.BOOT_FL_LEN_LEN
  let c := flashRefusal s op a src len
  if c ≠ 0 then (s.setFld F.BOOT_FL_STATUS_CAUSE c).setFlag F.BOOT_FL_STATUS_FAIL true
  else ((modBoot s (fun b => { b with op := some (op, a, src, len) })).setFlag F.BOOT_FL_STATUS_BUSY true).setFld F.BOOT_FL_STATUS_CAUSE 0

/-- The flash port is free of boot reads and FULL reads (R691). -/
def flashPortFree (s : State) : Bool :=
  let ph := s.fld F.BOOT_STATUS_PHASE
  ph != 2 && ph != 3 && ph != 7 && ph != 8 && !(imgBusy s && s.img.op == 2)

/-- What a failed program or erase leaves in a range of the flash: the spec does not say. -/
def flashGarble (s : State) (a k : Nat) : Boot :=
  { s.boot with flash := (List.range k).foldl (fun m i =>
      SMap.put natLt (fun _ => 0xFF) m (a + i) (BitVec.ofNat 8 (Config.openValue (0x100000000 + a + i) s.now))) s.boot.flash }

/-- A WRITE of an image slot records TOTAL_LEN in the slot's length check (R691). -/
def recordLengths (s : State) (a k : Nat) : State :=
  [(false, 0), (true, 1)].foldl (fun s x =>
    if overlap a k (imgBase x.1) 0x3800000 then
      modBoot s (fun b => { b with slotLen := b.slotLen.setIfInBounds x.2 (numAt (flashRead b (imgBase x.1 + 0x20) 4) 0 4) })
    else s) s

/-- FLASH_OP_END (R691): the operation has run. -/
def flashEnd (s : State) (error : Bool) : State :=
  match s.boot.op with
  | none => s
  | some (op, a, src, len) =>
    if !flashPortFree s then s
    else
      let s := modBoot s (fun b => { b with op := none })
      let s := (s.setFlag F.BOOT_FL_STATUS_BUSY false).setFlag F.BOOT_FL_STATUS_DONE true
      if op = 0 then (s.storeWrite .central src (flashRead s.boot a len)).1
      else if error then
        let s := modBoot s (fun _ => flashGarble s a (flashSpan op len))
        (s.setFlag F.BOOT_FL_STATUS_FAIL true).setFld F.BOOT_FL_STATUS_CAUSE 6
      else if op = 1 then modBoot s (fun b => flashErase b a (flashSpan op len))
      else
        let (data, _, s) := rangeRead s .central src len
        recordLengths (modBoot s (fun b => flashProgram b a data)) a len

/-! ### The start of programs (R697) -/

/-- A management-path write of a register with its journal record (R561, R667). -/
def managed (s : State) (r : Reg) (i : Nat) (v : Nat) : State :=
  journalReg s .management (RegKey.address ⟨r, i, 0, 0, 0⟩) (BitVec.ofNat 32 v)

/-- RUN_GO accepts a slice (R697). -/
def runAccepts (s : State) (n : Fin 16) : Bool :=
  wheelState s n == 0 && (seqState s n == SeqCode.halted || seqState s n == SeqCode.error) &&
    s.pair .GLB_IMG_SSERIAL_LO .GLB_IMG_SSERIAL_HI n != 0 && !s.reloadTargets n && !(s.sl n).isolated

/-- BOOT_CTRL.RUN_GO at boundary Y (R697). -/
def runGo (s : State) : State :=
  let at_ := s.pair .BOOT_RUN_AT_LO .BOOT_RUN_AT_HI
  let mask := s.fld F.BOOT_RUN_MASK_SLICES
  if at_ % 16 ≠ 0 ∨ at_ < s.beat + 16 then
    (s.setFlag F.BOOT_RUN_STATUS_BAD_BEAT true).setFld F.BOOT_RUN_STATUS_REFUSED (s.fld F.BOOT_RUN_STATUS_REFUSED ||| mask)
  else
    let named := (List.finRange 16).filter (fun (n : Fin 16) => mask.testBit n.val)
    let ok := named.filter (runAccepts s)
    let refused := named.filter (fun n => !runAccepts s n)
    let s := s.setFld F.BOOT_RUN_STATUS_REFUSED (s.fld F.BOOT_RUN_STATUS_REFUSED ||| (withSlices 0 refused).toNat)
    let s := modBoot s (fun b => { b with runSlices := withSlices 0 ok, runAt := s.now + (at_ - s.beat) })
    ok.foldl (fun s (n : Fin 16) =>
      let s := managed (managed (managed s .SLC_WHEEL_START_LO n (at_ % 2 ^ 32)) .SLC_WHEEL_START_HI n (at_ / 2 ^ 32)) .SLC_WHEEL_CTRL n 9
      wheelStart ((s.setPair .SLC_WHEEL_START_LO .SLC_WHEEL_START_HI at_ n).setFlag F.SLC_WHEEL_CTRL_USE_START_BEAT true n) n) s

/-- Beat S + 1: SEQ_START is written and RUN applied (R697). -/
def runGoSeq (s : State) : State :=
  if s.boot.runSlices = 0 ∨ s.now < s.boot.runAt + 1 then s
  else
    let start := s.beat + 16 - (s.now - s.boot.runAt)
    let l := (List.finRange 16).filter (fun (n : Fin 16) => s.boot.runSlices.getLsbD n.val)
    let s := modBoot s (fun b => { b with runSlices := 0 })
    l.foldl (fun s (n : Fin 16) =>
      let s := managed (managed (managed s .SEQ_START_LO n (start % 2 ^ 32)) .SEQ_START_HI n (start / 2 ^ 32)) .SEQ_CTRL n 9
      seqRun ((s.setPair .SEQ_START_LO .SEQ_START_HI start n).setFlag F.SEQ_CTRL_USE_START_BEAT true n) n) s

/-! ### The management cores (R699, R701 to R704) -/

/-- The boot has started the cores (R682). -/
def coresStarted (s : State) : Bool :=
  let ph := s.fld F.BOOT_STATUS_PHASE
  (decide (4 ≤ ph) && decide (ph ≤ 9)) || (ph == 10 && decide (3 ≤ s.fld F.BOOT_STATUS_ERR) && s.fld F.BOOT_STATUS_ERR != 6)

/-- MGT_CTRL.HALT (R703). -/
def mgtHalt (s : State) : State :=
  if coresRunning s ∨ s.fld F.MGT_STATUS_STATE = 1 then setMgtState (modMgt s (fun m => { m with runAt := none, swapAt := none, haltAt := none })) 2
  else s

/-- MGT_CTRL.RESTART (R683, R703): from HALTED or FAILED, or as a forced restart. A device that is HELD with ERR FIRMWARE reruns that
phase. -/
def mgtRestart (s : State) : State :=
  let st := s.fld F.MGT_STATUS_STATE
  if !coresStarted s ∨ st = 1 then s
  else
    let s := if st = 0 then s.count .MGT_RESTARTS else s
    if s.fld F.BOOT_STATUS_PHASE = 10 ∧ s.fld F.BOOT_STATUS_ERR = 3 then
      modBoot ((setMgtState s 1).setFld F.BOOT_STATUS_PHASE 3 |>.setFld F.BOOT_STATUS_ERR 0) (fun b => { b with since := s.now })
    else coresStart s

/-- The swap is accepted: the slot that does not run verifies (R704). -/
def swapAccepts (s : State) : Bool :=
  coresRunning s && s.mgt.swapAt.isNone && (fwCheck s (!s.flag F.BOOT_STATUS_FW_SLOT)).isSome

/-- MGT_CTRL.SWAP or SERVICE SWAP (R704): FW_TRIAL is set and a quiescent point asked for; the firmware halts within 5 ms, when the spec
does not say. -/
def swap (s : State) : State :=
  if swapAccepts s then
    let s := writeDir s (fun d => { d with fwTrial := true })
    modMgt s (fun m => { m with swapAt := some s.now, haltAt := some (s.now + 1 + Config.openValue 31 s.now % 1250000) })
  else s.setFlag F.MGT_STATUS_SWAP_REFUSED true

/-- 5 ms after the request the cores are stopped regardless and the other slot starts (R704). -/
def swapTimeout (s : State) : State :=
  match s.mgt.swapAt with
  | some t => if t + 1250000 ≤ s.now then coresStart (s.count .MGT_SWAPS) else s
  | none => s

/-- Cores kick their own bits (R701). -/
def wdogKick (s : State) (cores : BitVec 4) : State :=
  if coresRunning s then
    modMgt s (fun m => { m with kicks := Vector.ofFn (fun c : Fin 4 => if cores.getLsbD c then s.now else m.kicks.get c) })
  else s

/-- The watchdog expires (R701): no core kicks during a swap or while the cores are halted. -/
def wdogExpire (s : State) : State :=
  if !coresRunning s ∨ s.mgt.swapAt.isSome then s
  else match (List.finRange 4).find? (fun c => decide (s.mgt.kicks.get c + 2500000 ≤ s.now)) with
    | none => s
    | some c => coresStart ((s.raise Src.MGT_WDOG Scope.device c).count .MGT_RESTARTS)

/-- MGT_LOAD_CFG as it acts (R708): HIGH at most 100, LOW at most HIGH. -/
def loadHigh (s : State) : Nat := min 100 (s.fld F.MGT_LOAD_CFG_HIGH)
def loadLow (s : State) : Nat := min (loadHigh s) (s.fld F.MGT_LOAD_CFG_LOW)

/-- A 1 ms block ends (R699). -/
def loadBlock (s : State) (load : Nat) : State :=
  let s := (s.setFld F.MGT_LOAD_LOAD load).peak F.MGT_LOAD_PEAK load
  let low := if load ≤ loadLow s then s.mgt.low + 1 else 0
  let shed := if loadHigh s ≤ load then true else if 4 ≤ low then false else s.mgt.shedding
  refreshShed (modMgt s (fun m => { m with low := if loadHigh s ≤ load then 0 else low, shedding := shed }))

/-! ### The commands -/

def execTryFw (s : State) : Result := .next (s.awake tryFw)
def execConfirm (s : State) : Result := .next (s.awake confirmFw)
def execCommitSecver (s : State) : Result := .next (s.awake commitSecver)
def execSetImg (s : State) : Result := .next (s.awake setImg)
def execRunGo (s : State) : Result := .next (s.awake runGo)
def execRunGoSeqWrite (s : State) : Result := .next (runGoSeq s)
def execFlashRead (s : State) : Result := .next (s.awake (flashGo · 0))
def execFlashErase (s : State) : Result := .next (s.awake (flashGo · 1))
def execFlashWrite (s : State) : Result := .next (s.awake (flashGo · 2))
def execFlashOpEnd (error : Bool) (s : State) : Result := .next (s.awake (flashEnd · error))
def execKeyWrite (s : State) : Result := .next (s.awake keyWrite)
def execLockKey (s : State) : Result := .next (s.awake lockKey)
def execRevoke (s : State) : Result := .next (s.awake revoke)
def execMgtHalt (s : State) : Result := .next (s.awake mgtHalt)
def execMgtRestart (s : State) : Result := .next (s.awake mgtRestart)
def execSwap (s : State) : Result := .next (s.awake swap)
def execSwapQuiesceTimeout (s : State) : Result := .next (s.awake swapTimeout)
def execWdogKick (cores : BitVec 4) (s : State) : Result := .next (wdogKick s cores)
def execWdogExpire (s : State) : Result := .next (wdogExpire s)
def execMgtLoadBlock (load : BitVec 7) (s : State) : Result := .next (loadBlock s (min 100 load.toNat))

end Sys2Proof.Machine
end

