-- ==== Sys2Proof/Machine/Supply.lean ====
section
/-!
DEFINITION. Reset, supplies and temperature (R681, R712, R714, R717), the lock of the time base (R31, R416), the beat-completion
checkers (R33) and boundary scan (R706).
-/

namespace Sys2Proof.Machine

/-! ### Reset (R681, R712, R714, R717) -/

/-- What reset leaves: every state but the fuses, the flash, the test access port, the supervision itself, the level of GUARD_IN and the
commands that wait is lost (R712). -/
def resetKeeping (s : State) : State :=
  { State.reset with
    regs := RegFile.to [] ⟨.BOOT_FUSES, 0, 0, 0, 0⟩ (s.rd .BOOT_FUSES)
    boot := { Boot.initial with flash := s.boot.flash, dirs := s.boot.dirs, keys := s.boot.keys, slotLen := s.boot.slotLen }
    tap := s.tap
    supply := s.supply
    guardLevel := s.guardLevel
    pending := s.pending }

/-- The supervision changes: while anything holds the device it is in reset; once nothing does it starts at phase CLOCK (R682, R712). -/
def superviseTo (s : State) (sup : Supply) : State :=
  let was := s.inReset
  let s := { s with supply := sup }
  if s.inReset then (if was then s else resetKeeping s)
  else if was then
    let s := resetKeeping s
    let s := if s.tap.refused then s.setFlag F.BOOT_STATUS_TAP_REFUSED true else s
    { s with tap := { s.tap with refused := false, drive := .functional } }
  else s

def execPoresetAssert (s : State) : Result := .next (superviseTo s { s.supply with poreset := true })
def execPoresetDeassert (s : State) : Result := .next (superviseTo s { s.supply with poreset := false })
def execRailUndervoltage (rail : Fin 10) (s : State) : Result :=
  .next (superviseTo s { s.supply with rails := s.supply.rails ||| BitVec.ofNat 10 (2 ^ rail.val) })
def execRailRestored (s : State) : Result := .next (superviseTo s { s.supply with rails := 0 })
def execThermalTrip (s : State) : Result := .next (superviseTo s { s.supply with hot := true })
def execThermalRecover (s : State) : Result := .next (superviseTo s { s.supply with hot := false })

/-! ### The lock of the time base (R31, R416) -/

/-- INVAR_LOCK: the beat count starts (R31, R416). -/
def execInvarLock (s : State) : Result :=
  .next (if s.inReset ∨ s.flag F.INV_STATUS_LOCK ∨ s.fld F.BOOT_STATUS_PHASE ≠ 1 then s
    else { s.setFlag F.INV_STATUS_LOCK true with beat := 0 })

/-- XTAL_FAIL (R416, R683). -/
def execXtalFail (s : State) : Result :=
  .next (if s.inReset ∨ s.flag F.INV_STATUS_LOCK ∨ s.fld F.BOOT_STATUS_PHASE ≠ 1 then s
    else bootHeld (s.setFlag F.INV_STATUS_XTAL_FAIL true) 1)

/-! ### Beat-completion checkers (R33) -/

/-- The output of a unit that an abandoned job leaves at once (R33): the code of an FF channel, a window, a marker. What follows in the
next beat is taken from `overrun`. -/
def abandonJob (s : State) (n : Fin 16) (unit : Nat) : State :=
  let s := s.modSl n (fun x => { x with overrun := x.overrun ++ [(s.now, unit)] })
  if 0x58 ≤ unit ∧ unit < 0x60 then
    updFf s n ⟨(unit - 0x58) % 8, by omega⟩ (fun c => { c with code := c.beatCode, changes := [], events := [] })
  else if 0x30 ≤ unit ∧ unit < 0x50 then binDropWindow s n ⟨(unit - 0x30) % 32, by omega⟩
  else if unit = 2 then windowsDrop s n
  else if 0x28 ≤ unit ∧ unit < 0x30 then
    let k := (unit - 0x28) / 2
    let m := (unit - 0x28) % 2
    (List.finRange 32).foldl (fun s u =>
      if u.val / 8 = k then
        modTone s n u (fun t => { t with marks := t.marks.filter (fun x => !(x.marker == m && decide (x.sample / 128 = s.now))) })
      else s) s
  else if unit = 1 then
    modVec s n (fun v => if v.next / 16000 ≤ s.now + 1 then { v with next := v.next + 16000 } else v)
  else s

/-- BEAT_OVERRUN (R33, R635): the fault, and the job is abandoned. A central unit drops what it has in flight. -/
def execBeatOverrun (unit : OverrunUnit) (s : State) : Result :=
  .next (match unit with
    | .slice n u => abandonJob (s.raise Src.BEAT_OVERRUN n u.toNat) n u.toNat
    | .central u => { s.raise Src.BEAT_OVERRUN_C Scope.device u.toNat with xbar := { s.xbar with ready := [] } })

/-- At the boundary after an abandoned job the sequencer of unit code 0 issues nothing; older entries go (R33). -/
def overrunBeat (s : State) (n : Fin 16) : State :=
  let l := (s.sl n).overrun
  if l.isEmpty then s
  else
    let s := if (s.now - 1, 0) ∈ l then modSeq s n (fun q => { q with acted := true }) else s
    s.modSl n (fun x => { x with overrun := l.filter (fun e => decide (s.now ≤ e.1 + 2)) })

/-! ### Boundary scan (R706) -/

def modTap (s : State) (f : Tap → Tap) : State := { s with tap := f s.tap }

/-- BYPASS: one bit stands between TDI and TDO, and it is 0 at first (IEEE 1149.1). -/
def tapBypass (s : State) (drive : TapDrive) (tdi : List Bool) : State :=
  modTap s (fun t => { t with tdo := (false :: tdi).take tdi.length, drive := drive })

/-- The boundary register captures the lands and shifts; what it then holds is the preload. -/
def tapBoundary (s : State) (drive : TapDrive) (lands tdi : List Bool) : State :=
  let l := lands ++ tdi
  modTap s (fun t => { t with captured := lands, tdo := l.take tdi.length, preload := l.drop tdi.length, drive := drive })

/-- An instruction that drives or releases lands acts only while PORESET_N is low; else it acts as BYPASS (R706). -/
def tapDriving (s : State) (tdi : List Bool) (act : State → State) : State :=
  if s.supply.poreset then act s
  else
    let s := tapBypass s .functional tdi
    if s.inReset then modTap s (fun t => { t with refused := true }) else s.setFlag F.BOOT_STATUS_TAP_REFUSED true

/-- Bit `i` that IDCODE shifts out; behind the 32 bits come the bits of TDI, which no operand gives. -/
def idcodeBit (s : State) (i : Nat) : Bool := if i < 32 then (0x1166454F : Nat).testBit i else (Config.openValue 32 (s.now + i)).testBit 0

def execBypass (tdi : List Bool) (s : State) : Result := .next (tapBypass s .functional tdi)
def execIdcode (count : Nat) (s : State) : Result :=
  .next (modTap s (fun t => { t with tdo := (List.range count).map (idcodeBit s), drive := .functional }))
def execSamplePreload (lands tdi : List Bool) (s : State) : Result := .next (tapBoundary s .functional lands tdi)
def execExtest (lands tdi : List Bool) (s : State) : Result := .next (tapDriving s tdi (fun s => tapBoundary s .extest lands tdi))
def execClamp (tdi : List Bool) (s : State) : Result := .next (tapDriving s tdi (fun s => tapBypass s .clamp tdi))
def execHighz (tdi : List Bool) (s : State) : Result := .next (tapDriving s tdi (fun s => tapBypass s .highz tdi))
def execExtestPulse (lands tdi : List Bool) (s : State) : Result := .next (tapDriving s tdi (fun s => tapBoundary s .pulse lands tdi))
def execExtestTrain (lands tdi : List Bool) (s : State) : Result := .next (tapDriving s tdi (fun s => tapBoundary s .train lands tdi))

end Sys2Proof.Machine
end

