-- ==== Sys2Proof/Machine/Events.lean ====
section
/-!
DEFINITION. Step 1 of R105: the events of a slice's sequencer take effect in their units (R115 to R120).
-/

namespace Sys2Proof.Machine

/-- The number of the tone, bin, TX channel, FF channel or TDC channel that an event acts on. -/
def toFin (n : Nat) [NeZero n] (k : Nat) : Fin n := Fin.ofNat n k

/-- What an event does in its unit (R118); an event of a domain that is not on is discarded and counted (R120). -/
def eventActs (s : State) (n : Fin 16) (e : SeqEvent) : State :=
  let data := e.data.toNat
  let arg := data % 64
  match eventUnit e.unit.toNat, e.act.toNat with
  | some .streamer, 0 => s.coreEvent n (fun s => vecEvent s n (.start (data % 2 ^ 18)))
  | some .streamer, 1 => s.coreEvent n (fun s => vecEvent s n .brk)
  | some .streamer, 2 => s.coreEvent n (fun s => vecEvent s n (.halt false))
  | some .capture, 0 => s.coreEvent n (fun s => vecEvent s n (.openWindow arg))
  | some .capture, 1 => s.coreEvent n (fun s => vecEvent s n (.closeWindow arg))
  | some .capture, 2 => s.coreEvent n (fun s => vecEvent s n (.mark data))
  | some (.tx k), 0 => s.analogEvent n (fun s => txCause s n (toFin 4 k) F.TXC_STATUS_MUTE_CMD true)
  | some (.tx k), 1 => s.analogEvent n (fun s => txCause s n (toFin 4 k) F.TXC_STATUS_MUTE_CMD false)
  | some (.tone u), 0 => s.coreEvent n (fun s => toneSegment s n (toFin 32 u) (data % 2 ^ 17))
  | some (.tone u), 1 => s.coreEvent n (fun s => toneZeroEvent s n (toFin 32 u))
  | some (.tone u), 2 => s.coreEvent n (fun s => toneTrack s n (toFin 32 u) (arg % 32))
  | some (.tone u), 3 => s.coreEvent n (fun s => tonePhase s n (toFin 32 u) (data / 2 ^ 24 % 4 == 1) (data % 2 ^ 24))
  | some (.marker m), 0 => s.coreEvent n (fun s => markForce s n (toFin 4 (m / 2)) (toFin 2 (m % 2)) (some false))
  | some (.marker m), 1 => s.coreEvent n (fun s => markForce s n (toFin 4 (m / 2)) (toFin 2 (m % 2)) (some true))
  | some (.marker m), 2 => s.coreEvent n (fun s => markForce s n (toFin 4 (m / 2)) (toFin 2 (m % 2)) none)
  | some (.bin u), 0 => s.coreEvent n (fun s => binTrigger s n (toFin 32 u) (arg % 4))
  | some (.bin u), 1 => s.coreEvent n (fun s => binCancel s n (toFin 32 u))
  | some .acq, 0 => acqEvent s n (fun s => acqArm s n arg)
  | some .acq, 1 => acqEvent s n (fun s => acqTrigger s n)
  | some .acq, 2 => acqEvent s n (fun s => acqStopAll s n 1)
  | some (.ff f), 0 => s.analogEvent n (fun s => ffCode s n (toFin 8 f) (sext 16 data) (data / 2 ^ 16 % 8))
  | some (.ff f), 1 => s.analogEvent n (fun s => ffSpan s n (toFin 8 f) (arg % 8))
  | some (.ff f), 2 => s.analogEvent n (fun s => ffHiz s n (toFin 8 f))
  | some (.tdc c), 0 => s.analogEvent n (fun s => tdcArm s n (toFin 8 c) (arg % 4))
  | some (.tdc c), 1 => s.analogEvent n (fun s => tdcIdle s n (toFin 8 c))
  | some (.tdc c), 2 => s.analogEvent n (fun s => tdcGate s n (toFin 8 c))
  | some .mad, 0 => s.analogEvent n (fun s => madTrigger s n (toFin 16 arg))
  | some .mad, 1 => s.analogEvent n (fun s => madAbort s n)
  | _, _ => s

/-- The step at which an event acts among those of one boundary: segments before track and phase events and these before markers (R258), the
streamer's events before those of fail capture (R170). -/
def eventStep (e : SeqEvent) : Nat :=
  match eventUnit e.unit.toNat, e.act.toNat with
  | some (.tone _), 2 => 1
  | some (.tone _), 3 => 2
  | some (.marker _), _ => 3
  | some .capture, _ => 1
  | _, _ => 0

/-- A SEGMENT or ZERO event of a tone. -/
def startsSegment (e : SeqEvent) : Bool :=
  match eventUnit e.unit.toNat with
  | some (.tone _) => decide (e.act.toNat < 2)
  | _ => false

/-- Of the SEGMENT and ZERO events of a tone at one boundary the last stands (R258). -/
def lastSegments : List SeqEvent → List SeqEvent
  | [] => []
  | e :: t => if startsSegment e && t.any (fun x => startsSegment x && x.unit == e.unit) then lastSegments t else e :: lastSegments t

/-- The events due in a beat in the order in which they act: by step, and within a step in the order of their issue (R119, R170, R258). -/
def eventOrder (l : List SeqEvent) : List SeqEvent :=
  (List.range 4).flatMap (fun k => (lastSegments l).filter (fun e => eventStep e == k))

/-- The events due at the present boundary act (R119, R170, R258). -/
def eventsBeat (s : State) (n : Fin 16) : State :=
  let due := (s.sl n).seq.events.filter (fun e => decide (e.due ≤ s.now))
  if due.isEmpty then s
  else
    let s := modSeq s n (fun q => { q with events := q.events.filter (fun e => decide (s.now < e.due)) })
    (eventOrder due).foldl (fun s e => eventActs s n e) s

end Sys2Proof.Machine
end

