-- ==== Sys2Proof/Machine/Accessory.lean ====
section
/-!
DEFINITION. The accessory port (R567 to R571, R582) and the opening and closing of the Pewter window (R572, R573).
-/

namespace Sys2Proof.Machine

/-! ### The accessory port -/

def accBusy (s : State) : Bool := s.flag F.ACC_STATUS_BUSY

/-- Half of a period of ACC_SCLK in ns (R567). -/
def accHalf (s : State) : Nat := clampNat 9 499 (s.fld F.ACC_CFG_DIV) + 1

/-- SETUP and HOLD as they act (R582). -/
def accSetup (s : State) : Nat := max 1 (s.fld F.ACC_CFG_SETUP)
def accHold (s : State) : Nat := max 1 (s.fld F.ACC_CFG_HOLD)

/-- So many periods of ACC_SCLK have passed since the frame was accepted. -/
def accPassed (s : State) (start periods : Nat) : Bool := decide (periods * 2 * accHalf s ≤ 4 * (s.now - start))

/-- The code on ACC_SEL, and the level of ACC_STB_N (R567, R568). -/
def accSelect (s : State) : Nat := if s.acc.start.isSome then s.fld F.ACC_FRAME_SEL else 0
def accStrobeHigh (s : State) : Bool :=
  match s.acc.start with
  | none => true
  | some t => !accPassed s t (accSetup s) || accPassed s t (accSetup s + s.fld F.ACC_FRAME_LEN + accHold s)

/-- ACC_CTRL.GO (R568). -/
def accGo (s : State) : State :=
  let len := s.fld F.ACC_FRAME_LEN
  let cause := if accBusy s then 3 else if len < 8 ∨ 256 < len then 1 else if s.fld F.ACC_FRAME_SEL = 0 then 2 else 0
  if cause ≠ 0 then (s.setFlag F.ACC_STATUS_REFUSED true).setFld F.ACC_STATUS_CAUSE cause
  else { s with acc := { s.acc with start := some s.now } }.setFlag F.ACC_STATUS_BUSY true

/-- The port is idle again. -/
def accIdle (s : State) : State := { s with acc := { s.acc with start := none } }.setFlag F.ACC_STATUS_BUSY false

/-- ACC_CTRL.ABORT (R570): only before ACC_STB_N falls. -/
def accAbort (s : State) : State :=
  match s.acc.start with
  | none => s
  | some t => if accPassed s t (accSetup s) then s else (accIdle s).setFlag F.ACC_STATUS_ABORTED true

/-- The frame ends (R568, R569): bit b of `miso` is the bit sampled while bit b of the frame stood on ACC_MOSI. -/
def accEnd (s : State) (miso : BitVec 256) : State :=
  match s.acc.start with
  | none => s
  | some t =>
    let len := s.fld F.ACC_FRAME_LEN
    if accPassed s t (accSetup s + len + 2 * accHold s) then
      let bits := miso.toNat % 2 ^ len
      let s := (List.range 8).foldl (fun s i => s.wr .ACC_RX (BitVec.ofNat 32 (bits / 2 ^ (32 * i))) i) s
      ((accIdle s).setFlag F.ACC_STATUS_DONE true).count .ACC_FRAMES
    else s

/-! ### The Pewter window (R572, R573) -/

def modPewter (s : State) (f : Pewter → Pewter) : State := { s with pewter := f s.pewter }

/-- Phase HIGH, and nothing in hand. -/
def pewterHigh (s : State) : State := (modPewter s (fun p => { p with high := none, captured := none })).setFlag F.PWT_STATUS_PHASE false

/-- A write of PWT_CTRL.OPEN: 1 opens the window unless a live reload of slice 0 or 1 lies between G and R, 0 closes it. -/
def pewterWrite (s : State) (opening : Bool) : State :=
  if opening = s.flag F.PWT_CTRL_OPEN then s
  else if !opening then (pewterHigh (modPewter s (fun p => { p with stage := [] }))).setFlag F.PWT_CTRL_OPEN false
  else if s.reloadTargets 0 || s.reloadTargets 1 then s.setFlag F.PWT_STATUS_OPEN_REFUSED true
  else (((pewterHigh (modPewter s (fun p => { p with stage := [] }))).setFld F.PWT_STATUS_PTR 0)).setFlag F.PWT_CTRL_OPEN true

def execAccGo (s : State) : Result := .next (accGo s)
def execAccAbort (s : State) : Result := .next (accAbort s)
def execAccFrameEnd (miso : BitVec 256) (s : State) : Result := .next (accEnd s miso)

end Sys2Proof.Machine
end

