-- ==== Sys2Proof/Machine/RegAccess.lean ====
section
/-!
DEFINITION. Reading and writing registers (R7 to R13, R23, R69, R734): what a read returns and takes away, which bits a write
reaches, the locks and bounds that hold bits, what a written field does to its unit, and the command bits in ascending order.
-/

namespace Sys2Proof.Machine

/-! ### The masks of a register (R7, R8) -/

/-- The bits of a register whose field has one of the access codes. -/
def Reg.accessMask (r : Reg) (as : List Access) : Nat :=
  r.fields.foldl (fun m f => if f.access ∈ as then m ||| ((2 ^ f.width - 1) <<< f.lo) else m) 0

/-- The bits that a write sets: RW and RWL. -/
def Reg.writable (r : Reg) : Nat := r.accessMask [.rw, .rwl]

/-- The bits of an instance that hold no writable field although its register has one: Kelvin sensing and the voltage settings stand on
FF channels 0 and 1 only (R363), reserved event codes cannot be enabled (R533). -/
def RegKey.fixedMask (key : RegKey) : Nat :=
  match key.reg with
  | .FF_CFG => if 2 ≤ key.j then 2 ^ 16 else 0
  | .FF_LIM => if 2 ≤ key.j then 0x30 else 0
  | .EVT_MASK => if key.i = 0 then 0xFFFF8001 else 0xFFFFFFFF
  | _ => 0

/-- Take `v` on the bits of a mask and `old` elsewhere. -/
def mix (mask v old : Nat) : Nat := (v &&& mask) ||| (old - (old &&& mask))

/-! ### Locks and bounds (R68, R69, R600, R636) -/

/-- The bits that the image has locked. -/
def State.lockedBits (s : State) (key : RegKey) : Nat := (SMap.get (fun _ => 0) s.img.locks key).toNat

/-- What the image last wrote to a register whose fields it bounds, if it wrote it. -/
def State.imageWrote (s : State) (key : RegKey) : Option Word := (s.img.bounds.find? (fun e => e.1 = key)).map (·.2)

/-- The value of a field lies beyond the bound that the image sets. -/
def State.beyondBound (s : State) (key : RegKey) (f : Field) (v : Nat) : Bool :=
  let raised : Bool := match s.imageWrote key with
    | some w => decide (bitsAt w.toNat f.lo f.width < v)
    | none => false
  match key.reg with
  | .FF_CFG => f == F.FF_CFG_DGL_THR && decide (s.fld F.FF_LIM_DGL_CEIL key.i key.j < min v 6)
  | .NRG_TX_LIM_MS | .NRG_TX_LIM_S | .NRG_FF_LIM | .NRG_PIN_CFG => raised
  | .FLT_SRC_CFG => f.access == .rwl && decide (v < bitsAt ((s.imageWrote key).getD key.resetValue).toNat f.lo f.width)
  | _ => false

/-- The registers whose image value bounds later writes. -/
def Reg.bounded (r : Reg) : Bool := r ∈ [.NRG_TX_LIM_MS, .NRG_TX_LIM_S, .NRG_FF_LIM, .NRG_PIN_CFG, .FLT_SRC_CFG]

/-- The bits that a write of `v` leaves at their present value, and whether the access is reported as a locked access (R69). -/
def State.heldBits (s : State) (key : RegKey) (v : Nat) : Nat × Bool :=
  let old := (s.rd key.reg key.i key.j key.k key.l).toNat
  let locked := s.lockedBits key &&& key.reg.accessMask [.rwl]
  let beyond := key.reg.fields.foldl (fun m f =>
    if f.access ∈ [Access.rw, Access.rwl] ∧ s.beyondBound key f (bitsAt v f.lo f.width) then m ||| ((2 ^ f.width - 1) <<< f.lo) else m) 0
  (locked ||| beyond, decide ((v ^^^ old) &&& locked ≠ 0) || beyond != 0)

/-! ### Values that a field takes in another form, or not at all -/

/-- A field of a written word at another value. -/
def putFld (f : Field) (v x : Nat) : Nat := putBits v f.lo f.width x

/-- A field of a written word at its present value. -/
def keepFld (s : State) (key : RegKey) (f : Field) (v : Nat) : Nat := putFld f v (s.fld f key.i key.j key.k key.l)

/-- A level code within its range (R205). -/
def levelCode (v : Nat) : Nat := pat 16 (clampInt (-6000) 26000 (sext 16 (v % 2 ^ 16)))

/-- The word that a write of `v` stores: fields held within their range, and fields that a value out of range leaves unchanged. -/
def State.storedWord (s : State) (key : RegKey) (v : Nat) : Nat :=
  let fldOf (f : Field) : Nat := bitsAt v f.lo f.width
  match key.reg with
  | .TON_ENTRY => putFld F.TON_ENTRY_INDEX v (min (fldOf F.TON_ENTRY_INDEX) 98303)
  | .MAD_SCAL_CTRL => if 47 < fldOf F.MAD_SCAL_CTRL_INPUT then keepFld s key F.MAD_SCAL_CTRL_INPUT v else v
  | .MAD_STEP => if 47 < fldOf F.MAD_STEP_INPUT then keepFld s key F.MAD_STEP_INPUT v else v
  | .CAL_SEL => if 368 < fldOf F.CAL_SEL_CONV then keepFld s key F.CAL_SEL_CONV v else v
  | .HST_TOD_ADJ => pat 32 (clampInt (-429497) 429497 (sext 32 v))
  | .PIN_VIL | .PIN_VIH | .PIN_VTERM | .PIN_VOL | .PIN_VOH | .PIN_VCOM => putBits v 0 16 (levelCode v)
  | .PIN_PMU_FORCE => if s.flag F.PIN_PMU_CTRL_MODE key.i key.j then v else putFld F.PIN_PMU_FORCE_VALUE v (levelCode v)
  | .PIN_PMU_CLAMP => putFld F.PIN_PMU_CLAMP_VCHI (putFld F.PIN_PMU_CLAMP_VCLO v (levelCode v)) (levelCode (v / 2 ^ 16))
  | .PIN_ILOAD => putFld F.PIN_ILOAD_ISNK (putFld F.PIN_ILOAD_ISRC v (min (fldOf F.PIN_ILOAD_ISRC) 2400)) (min (fldOf F.PIN_ILOAD_ISNK) 2400)
  | .TDC_TIN_CFG => putFld F.TDC_TIN_CFG_THR v (pat 16 (clampInt (-8000) 16000 (sext 16 (v % 2 ^ 16))))
  | .INV_CFG => if fldOf F.INV_CFG_REF_SEL = 3 then keepFld s key F.INV_CFG_REF_SEL v else v
  | _ => v

/-- A write of pin electronics that stores a limit instead of its value sets LEVEL_CLAMP (R205, R211). -/
def levelClamp (s : State) (key : RegKey) (v : Nat) : State :=
  match key.reg with
  | .PIN_VIL | .PIN_VIH | .PIN_VTERM | .PIN_VOL | .PIN_VOH | .PIN_VCOM | .PIN_PMU_FORCE | .PIN_PMU_CLAMP | .PIN_ILOAD =>
    if s.storedWord key v = v then s else s.setFlag F.PIN_STATUS_LEVEL_CLAMP true key.i key.j
  | _ => s

/-- A write that the register ignores as a whole, with the flag it sets (R200, R552, R569, R572). -/
def State.writeIgnored (s : State) (path : Path) (key : RegKey) (v : Nat) : Option State :=
  let n := key.i
  let cfgIgn : Option State := some (s.setFlag F.VEC_STATUS_CFG_IGN true n)
  let line := bitsAt v 0 15
  match key.reg with
  | .VEC_RING_BASE =>
    if s.fld F.VEC_STATUS_STATE n = 1 ∨ 24576 < line + max 1 (s.fld F.VEC_RING_LINES_LINES n) then cfgIgn else none
  | .VEC_RING_LINES =>
    if s.fld F.VEC_STATUS_STATE n = 1 ∨ (line ≠ 0 ∧ (line < 16 ∨ 16384 < line)) ∨ 24576 < s.fld F.VEC_RING_BASE_LINE n + line then cfgIgn else none
  | .VEC_FC_BASE | .VEC_FC_LINES => if s.flag F.VEC_CTRL_FC_EN n then cfgIgn else none
  | .DMA_CH_CFG | .DMA_CH_DESC => if s.fld F.DMA_CH_STATUS_STATE n ≠ 0 then some s else none
  | .PWT_CTRL => if path = .side then none else some (s.setFlag F.PWT_STATUS_HOST_IGN true)
  | .ACC_CFG | .ACC_FRAME | .ACC_TX => if accBusy s then some s else none
  | _ => none

/-! ### What a written register does to its unit -/

/-- The writable bits whose writing is the unit's own operation, not a store. -/
def Reg.ownMask : Reg → Nat
  | .SEQ_PC | .PWR_BUDGET_MW | .TRG_DRIVE | .TRG_POS | .VEC_RING_WP | .RPL_RP | .MAD_SCF | .HST_TOD_SEC_LO | .HST_TOD_SEC_HI | .HST_TOD_NS
  | .DMX_WRAM | .CAL_SET => 0xFFFFFFFF
  | .PWR_DOM | .RPL_CFG | .MAD_CFG | .TDC_CFG | .KTL_PORT_CFG | .PWT_CTRL => 1
  | .SLC_STORE_PWR | .GLB_CSTORE_PWR => 3
  | .CHN_CFG => 0x7F
  | .PIN_PMU_CTRL => 0x1E
  | _ => 0

/-- An enable bit is written: what setting it does, and what clearing it does. -/
def onEnable (f : Field) (key : RegKey) (v : Nat) (up down : State → State) (s : State) : State :=
  if v.testBit f.lo then (if s.flag f key.i key.j then s else up s) else (if s.flag f key.i key.j then down s else s)

/-- The operation of the unit that owns the written bits (see `Reg.ownMask`). `port` is the host port that the write came by. -/
def regOwn (s : State) (port : Option (Fin 2)) (key : RegKey) (v : Nat) : State :=
  let n : Fin 16 := toFin 16 key.i
  match key.reg with
  | .SEQ_PC => seqPcWrite s n (v % 2 ^ 18)
  | .PWR_BUDGET_MW => budgetWrite s v
  | .TRG_DRIVE => trgDriveWrite s (v % 256)
  | .TRG_POS => trgPosWrite s key.i v
  | .VEC_RING_WP => ringAdvance s n (v % 2 ^ 15)
  | .RPL_RP => journalSpill s (v % 2 ^ 19)
  | .MAD_SCF => s.modSl n (fun x => { x with mad := { x.mad with shadow := x.mad.shadow.setIfInBounds key.j (BitVec.ofNat 18 v) } })
  | .HST_TOD_SEC_LO => { s with tod := { s.tod with stagedSec := putBits s.tod.stagedSec 0 32 v } }
  | .HST_TOD_SEC_HI => { s with tod := { s.tod with stagedSec := putBits s.tod.stagedSec 32 16 v } }
  | .HST_TOD_NS => { s with tod := { s.tod with stagedNs := min (v % 2 ^ 30) 999999999 } }
  | .DMX_WRAM => wramWrite s n (toFin 32 key.j) key.k (BitVec.ofNat 32 v)
  | .CAL_SET => if s.flag F.CAL_SEL_BANK then stagedWrite s (toFin 369 (s.fld F.CAL_SEL_CONV)) key.i v else s
  | .PWT_CTRL => pewterWrite s (v.testBit 0)
  | .PWR_DOM =>
    let d : Fin 39 := toFin 39 key.i
    if v.testBit 0 = s.flag F.PWR_DOM_REQ d ∧ (if v.testBit 0 then s.domState d ≠ 0 else s.domState d = 0) then s
    else if v.testBit 0 then domainOffReq s d port else domainOnReq s d
  | .RPL_CFG => onEnable F.RPL_CFG_EN key v journalEnable journalDisable s
  | .MAD_CFG => onEnable F.MAD_CFG_ENABLE key v (fun s => s.setFlag F.MAD_CFG_ENABLE true n) (fun s => madDisable s n) s
  | .TDC_CFG =>
    let c : Fin 8 := toFin 8 key.j
    onEnable F.TDC_CFG_EN key v (fun s => s.setFlag F.TDC_CFG_EN true n c)
      (fun s => (tdcDisable s n c).disRecord n 3 c (tdcWork s n c).1 (tdcWork s n c).2) s
  | .KTL_PORT_CFG =>
    let p : Fin 4 := toFin 4 key.i
    onEnable F.KTL_PORT_CFG_EN key v (fun s => ktlEnable (s.setFlag F.KTL_PORT_CFG_EN true p) p)
      (fun s => portDown (s.setFlag F.KTL_PORT_CFG_EN false p) p 4) s
  | .SLC_STORE_PWR => storePowerRequest s (.slice n) (v % 4)
  | .GLB_CSTORE_PWR => storePowerRequest s .central (v % 4)
  | .CHN_CFG => driveLines (chnRoleWrite s (bitsAt v 0 2) (bitsAt v 2 5))
  | .PIN_PMU_CTRL => pmuModeChange s n key.j (v.testBit 1) (bitsAt v 2 3)
  | _ => s

/-- The interval of a scrubber has been written: no interval before counts as late (R38, R66). -/
def scrubFresh (s : State) (id : StoreId) : State :=
  let st := s.store id
  s.setStore id { st with scrubDue := max st.scrubDue s.now }

/-- What the unit of a register does once its bits have changed. -/
def regHook (s : State) (key : RegKey) : State :=
  let n : Fin 16 := toFin 16 key.i
  match key.reg with
  | .TSET_PERIOD | .TSET_PIN_EN | .TSET_HALT_LO | .TSET_HALT_HI | .TSET_FMT | .TSET_EDGE => tsetCheck s n key.j
  | .VEC_ENTRY => showLoaded s n
  | .TON_ENTRY => toneEntryChanged s n (toFin 32 key.j) key.k
  | .RXC_CFG => s.analogDo n (fun s => rxRange s n (toFin 2 key.j))
  | .PIN_CFG => s.analogDo n (fun s => loadSync s n key.j)
  | .TDC_SETUP => tdcSetupWritten s n (toFin 8 key.j) key.k
  | .INV_AGE_TRIM => invTrimWritten s
  | .INV_CFG => invReferenceOff s
  | .TRG_LINE => driveLines s
  | .FF_CFG => ffRefresh s n (toFin 8 key.j)
  | .SLC_SCRUB_CTRL => scrubFresh s (.slice n)
  | .GLB_CSTORE_SCRUB => scrubFresh s .central
  | _ => s

/-! ### Clear registers (R12) -/

/-- The registers that a clear register clears, by bit; a register array is cleared instance by instance where bit and instance agree. -/
def clearTargets (key : RegKey) : List (Nat × List RegKey) :=
  let at0 (r : Reg) : RegKey := ⟨r, key.i, key.j, key.k, key.l⟩
  let one (l : List Reg) : List (Nat × List RegKey) := l.zipIdx.map (fun x => (x.2, [at0 x.1]))
  let arr (r : Reg) (n : Nat) : List (Nat × List RegKey) := (List.range n).map (fun m => (m, [(⟨r, key.i, m, 0, 0⟩ : RegKey)]))
  let glob (r : Reg) (n : Nat) : List (Nat × List RegKey) := (List.range n).map (fun m => (m, [(⟨r, m, 0, 0, 0⟩ : RegKey)]))
  match key.reg with
  | .SLC_CONFLICT_CLR => arr .SLC_CONFLICT 7
  | .SLC_ECC_CLR => [(0, [at0 .SLC_ECC_CE]), (1, [at0 .SLC_ECC_UE, at0 .SLC_ECC_ADDR]), (2, [at0 .SLC_SCRUB_LATE])]
  | .GLB_CSTORE_CLR => glob .GLB_CSTORE_WAIT 4 ++
      [(4, [at0 .GLB_CSTORE_ECC_CE]), (5, [at0 .GLB_CSTORE_ECC_UE, at0 .GLB_CSTORE_ECC_ADDR]), (6, [at0 .GLB_CSTORE_SCRUB_LATE])]
  | .GLB_IMG_COUNT_CLR => one [.GLB_IMG_COUNT]
  | .SEQ_CNT_CLR => [(0, [at0 .SEQ_ISSUED_LO, at0 .SEQ_ISSUED_HI]), (1, [at0 .SEQ_STALL]), (2, [at0 .SEQ_VERDICT_OVW]), (3, [at0 .SEQ_EV_DROP]),
      (4, [at0 .SEQ_ELASTIC_BEATS]), (5, [at0 .SEQ_TIMEOUTS]), (6, [at0 .SEQ_LATE])]
  | .VEC_CNT_CLR => [(0, [at0 .VEC_FAILVEC_LO, at0 .VEC_FAILVEC_HI]), (1, [at0 .VEC_UNDERRUNS]), (2, [at0 .VEC_CLAMPS]), (3, [at0 .VEC_MATCH_EXP]),
      (4, [at0 .VEC_FC_RECS, at0 .VEC_FC_LOST])]
  | .VEC_PFAIL_CLR => arr .VEC_PFAIL 32
  | .PIN_CNT_CLR => one [.PIN_GUARD_COUNT]
  | .TON_CNT_CLR => one [.TON_UNDERRUNS, .TON_ERRORS]
  | .TXC_CNT_CLR => one [.TXC_CLIP, .TXC_MUTE_CNT]
  | .RXC_CNT_CLR => one [.RXC_OVR]
  | .DMX_CNT_CLR => one [.DMX_WINDOWS, .DMX_OVERRUN, .DMX_RESTARTS, .DMX_CANCELS]
  | .ACQ_CNT_CLR => one [.ACQ_TRIG_EARLY, .ACQ_OVF]
  | .VRD_CNT_CLR => one [.VRD_LATE, .VRD_DUE_ERR, .VRD_UNBOUND, .VRD_EXP_DROP, .VRD_GOV_SUBST]
  | .MAD_CNT_CLR => one [.MAD_TRIG_DROP, .MAD_QLOST, .MAD_REDO, .MAD_ABORTS, .MAD_DIS_COUNT]
  | .TDC_CNT_CLR => one [.TDC_SPACING, .TDC_REV_DISC, .TDC_IGNORED]
  | .TDC_QCLR => one [.TDC_QLOST]
  | .INV_CNT_CLR => one [.INV_REF_LOSS]
  | .CHN_CNT_CLR => one [.CHN_FRAME_ERR, .CHN_HOLDOVERS]
  | .TRG_CNT_CLR => glob .TRG_EDGES 8 ++ [(8, [at0 .TRG_MARGINS]), (9, [at0 .TRG_GLITCHES])]
  | .KTL_CNT_CLR => one [.KTL_UNREACH_DROP, .KTL_TTL_DROP, .KTL_BAR_LATE, .KTL_BAR_ABORTS]
  | .KTL_PORT_CLR => one [.KTL_FEC_CORR, .KTL_FEC_UNCORR, .KTL_REPLAYS, .KTL_PORT_DOWNS]
  | .HST_CNT_CLR => one [.HST_FEC_CORR, .HST_FEC_UNCORR, .HST_RX_DROP]
  | .CTP_CNT_CLR => one [.CTP_CREDIT_WAIT, .CTP_RETX, .CTP_DUP, .CTP_OOS, .CTP_TAG_ERR]
  | .EVT_CNT_CLR => one [.EVT_LOST]
  | .DMA_CNT_CLR => one [.DMA_BUSERRS]
  | .DMA_CH_CLR => [(0, [at0 .DMA_CH_DROPPED]), (1, [at0 .DMA_CH_DESCS]), (2, [at0 .DMA_CH_BYTES_LO, at0 .DMA_CH_BYTES_HI]), (3, [at0 .DMA_CH_WAIT])]
  | .SIDE_CNT_CLR => [(1, [at0 .SIDE_FRAMES]), (2, [at0 .SIDE_WORDS])]
  | .ACC_CNT_CLR => one [.ACC_FRAMES]
  | .PWT_CNT_CLR => one [.PWT_BYTES]
  | .PWR_CNT_CLR => one [.PWR_GRANTS, .PWR_WAIT_BEATS]
  | .NRG_TX_CLR => one [.NRG_TX_TRIPS]
  | .NRG_FF_CLR => one [.NRG_FF_TRIPS]
  | .FLT_CNT_CLR => [(0, [at0 .FLT_LOG_LOST]), (1, [at0 .FLT_LOSS_LO, at0 .FLT_LOSS_HI]), (2, [at0 .FLT_L3_COUNT]),
      (3, (List.range 256).map (fun i => (⟨.FLT_SRC_COUNT, i, 0, 0, 0⟩ : RegKey)))]
  | .RPL_CNT_CLR => one [.RPL_LOST, .RPL_RECORDS]
  | .MGT_CNT_CLR => one [.MGT_RESTARTS, .MGT_SWAPS]
  | _ => []

/-- The FF counters by bit of FF_CNT_CLR.CNT (R529). -/
def ffCounters : List Reg := [.FF_DEFER, .FF_DISCARD, .FF_REFUSED, .FF_PROV, .FF_DISMISS, .FF_DGL, .FF_SHORTS]

/-- A write of a clear register (R12). FF_CNT_CLR names channels and counters; SIDE_CNT_CLR also clears a field. -/
def clearWrite (s : State) (key : RegKey) (v : Nat) : State :=
  let zero (s : State) (k : RegKey) : State := s.wr k.reg 0 k.i k.j k.k k.l
  let s := (clearTargets key).foldl (fun s x => if v.testBit x.1 then x.2.foldl zero s else s) s
  match key.reg with
  | .FF_CNT_CLR => (setBits 8 v).foldl (fun s f => (setBits 7 (v / 256)).foldl (fun s c =>
      zero s ⟨ffCounters.getD c .FF_DEFER, key.i, f, 0, 0⟩) s) s
  | .SIDE_CNT_CLR => if v.testBit 0 then s.setFld F.SIDE_STATUS_FRAME_ERR 0 else s
  | _ => s

/-- The register is a clear register (R12). -/
def RegKey.clears (key : RegKey) : Bool := key.reg == .FF_CNT_CLR || !(clearTargets key).isEmpty

/-! ### Command bits (R734) -/

/-- Commands by bit, in ascending order, each on the state that the one before it left. -/
def commands (v : Nat) (l : List (Nat × (State → State))) (s : State) : State := l.foldl (fun s c => if v.testBit c.1 then c.2 s else s) s

/-- What the land of each pin would show a contact check that a register write starts: readings of the device's sensors (supply current,
voltage, currents towards both neighbours). -/
def sensedPins (s : State) (n : Fin 16) : List PinReading :=
  (List.range 32).map (fun p =>
    let x (i : Nat) : Int := sext 16 (Config.sensor i (n.val * 32 + p) s.now).toNat
    { supply := x 16, volts := x 17, below := x 18, above := x 19 })

/-- The command bits and start actions of a register (R7, R734). -/
def regCommands (s : State) (path : Path) (key : RegKey) (v : Nat) : State :=
  let n : Fin 16 := toFin 16 key.i
  let n8 : Fin 8 := toFin 8 key.j
  let core (f : State → State) : State → State := fun s => s.coreDo n f
  let analog (f : State → State) : State → State := fun s => s.analogDo n f
  match key.reg with
  | .SLC_WHEEL_CTRL => commands v [(0, (wheelStart · n)), (1, (wheelStop · n)), (2, (wheelCommit · n))] s
  | .GLB_IMG_CTRL =>
    commands v [(0, fun s => imgGo s (s.fld F.GLB_IMG_CTRL_OP) (s.fld F.GLB_IMG_CTRL_SLICE) (s.flag F.GLB_IMG_CTRL_FLASH_SLOT)), (1, imgAbort)] s
  | .SEQ_CTRL => commands v [(0, (seqRun · n)), (1, (seqHalt · n)), (2, (seqStep · n)), (4, (seqClrNew · n))] s
  | .VEC_CTRL => commands v [(0, core (fun s => vecEvent s n (.halt true))), (3, core (fcReset · n))] s
  | .PIN_RELEASE => analog (fun s => pinRelease s n (BitVec.ofNat 32 v)) s
  | .PIN_CC_CTRL => commands v [(0, analog (fun s => ccStart s n (sensedPins s n))), (1, analog (ccAbort · n))] s
  | .TON_CTRL => commands v [(0, core (fun s => toneFlush s n (toFin 32 key.j)))] s
  | .TXC_CTRL =>
    let k : Fin 4 := toFin 4 key.j
    commands v [(0, analog (fun s => txEnable s n k)), (1, txDisable n k), (2, analog (fun s => txCause s n k F.TXC_STATUS_MUTE_CMD true)),
      (3, analog (fun s => txCause s n k F.TXC_STATUS_MUTE_CMD false))] s
  | .TXC_TRK_REBASE => core (fun s => trackRebase s n (toFin 4 key.j) v) s
  | .RXC_CTRL => commands v [(0, analog (fun s => rxEnable s n (toFin 2 key.j))), (1, rxDisable n (toFin 2 key.j))] s
  | .ACQ_CTRL => commands v [(0, core (fun s => acqArm s n (s.fld F.ACQ_CTRL_DESC n))), (1, core (acqTrigger · n)), (2, core (acqStopAll · n 1))] s
  | .FF_CTRL => commands v [(3, analog (fun s => ffSpan s n n8 (s.fld F.FF_CTRL_SET n n8))), (4, analog (fun s => ffHiz s n n8))] s
  | .MAD_CMD => commands v [(0, analog (fun s => madTrigger s n (s.fld F.MAD_CMD_SEQ n))), (1, analog (madAbort · n)), (2, analog (madSelfcal · n)),
      (3, analog (madSyscal · n)), (4, (madApplyf · n))] s
  | .TDC_CTRL => commands v [(0, analog (fun s => tdcArm s n n8 (s.fld F.TDC_CTRL_SETUP n n8))), (1, analog (fun s => tdcIdle s n n8)),
      (2, analog (fun s => tdcGate s n n8))] s
  | .CHN_CTRL => commands v [(0, epochAsk), (1, chnRealign)] s
  | .TRG_CTRL => commands v [(0, trgCal)] s
  | .KTL_CTRL => commands v [(0, discover), (1, joinAsk)] s
  | .HST_TOD_CTRL => commands v [(0, todLatch), (1, todStep)] s
  | .DMA_CTRL => commands v [(0, fun s => s.setFlag F.DMA_STATUS_BUSERR false)] s
  | .DMA_CH_CTRL => let c : Fin 32 := toFin 32 key.i; commands v [(0, dmaStart c), (1, dmaAbort c), (2, dmaFlush c)] s
  | .CAL_CTRL => commands v [(0, fun s => saveKinds s (List.range 17))] s
  | .CAL_CONV_CTRL => let i : Fin 369 := toFin 369 key.i; commands v [(0, calStage path i), (1, calStageAt path i), (2, (clearPend · i))] s
  | .CAL_FG_CTRL => commands v [(0, (fgStart · n)), (1, (fgStop · n 4))] s
  | .FLT_CTRL => commands v [(0, recover), (1, fun s => s.raise Src.HOST_SAFE Scope.device 0)] s
  | .FLT_ACK => (setBits 8 v).foldl ackClass s
  | .FLT_INJECT => commands v [(11, inject)] s
  | .RPL_CTRL => commands v [(0, replayAsk), (1, (replayEnd · 1)), (2, journalFlush)] s
  | .BOOT_CTRL => commands v [(0, tryFw), (1, confirmFw), (2, commitSecver), (3, setImg), (4, runGo), (5, fun s => flashGo s (s.fld F.BOOT_FL_OP_OP)),
      (6, keyWrite), (7, lockKey), (8, revoke)] s
  | .MGT_CTRL => commands v [(0, mgtHalt), (1, mgtRestart), (2, swap)] s
  | .MGT_WDOG_KICK => if path = .management then wdogKick s (BitVec.ofNat 4 v) else s
  | .ACC_CTRL => commands v [(0, accGo), (1, accAbort)] s
  | _ => s

/-! ### Flags that a write of 1 clears (R7) -/

/-- Writing 1 to a W1C bit clears it; the TRIP bits re-arm their governor under its own rule, and clearing SHORT is the channel's own
operation (R360, R602 to R605). -/
def clearFlags (s : State) (key : RegKey) (v : Nat) : State :=
  let own : Nat := match key.reg with
    | .NRG_TX_STATUS | .NRG_FF_STATUS | .NRG_PIN_STATUS => 1
    | .FF_STATUS => 2 ^ 9
    | _ => 0
  let m := key.reg.accessMask [.w1c]
  let m := m - (m &&& own)
  let old := (s.rd key.reg key.i key.j key.k key.l).toNat
  let s := if v &&& m &&& old = 0 then s else s.wr key.reg (BitVec.ofNat 32 (old - (old &&& (v &&& m)))) key.i key.j key.k key.l
  if v &&& own = 0 then s
  else match key.reg with
    | .NRG_TX_STATUS => govRearm s (.tx (toFin 64 key.i))
    | .NRG_FF_STATUS => govRearm s (.ff (toFin 128 key.i))
    | .NRG_PIN_STATUS => govRearm s (.pin (toFin 512 key.i))
    | .FF_STATUS => ffShortClear s (toFin 16 key.i) (toFin 8 key.j)
    | _ => s

/-! ### 64-bit pairs (R13) -/

/-- The high word of the 64-bit pair whose low word this is. -/
def Reg.highOf : Reg → Option Reg
  | .SLC_WHEEL_START_LO => some .SLC_WHEEL_START_HI
  | .GLB_BEAT_LO => some .GLB_BEAT_HI
  | .GLB_IMG_REJOIN_LO => some .GLB_IMG_REJOIN_HI
  | .GLB_IMG_DRAIN_LO => some .GLB_IMG_DRAIN_HI
  | .GLB_IMG_CSERIAL_LO => some .GLB_IMG_CSERIAL_HI
  | .GLB_IMG_SSERIAL_LO => some .GLB_IMG_SSERIAL_HI
  | .SEQ_START_LO => some .SEQ_START_HI
  | .SEQ_ISSUED_LO => some .SEQ_ISSUED_HI
  | .VEC_INDEX_LO => some .VEC_INDEX_HI
  | .VEC_FAILVEC_LO => some .VEC_FAILVEC_HI
  | .TON_FTW_LO => some .TON_FTW_HI
  | .TXC_TRK_FTW_LO => some .TXC_TRK_FTW_HI
  | .DMX_FTW_LO => some .DMX_FTW_HI
  | .DMX_LINE_C_LO => some .DMX_LINE_C_HI
  | .DMX_RES_END_LO => some .DMX_RES_END_HI
  | .CHN_EPOCH_LO => some .CHN_EPOCH_HI
  | .CHN_LAST_EPOCH_LO => some .CHN_LAST_EPOCH_HI
  | .TRG_CAL_START_LO => some .TRG_CAL_START_HI
  | .HST_TOD_SEC_LO => some .HST_TOD_SEC_HI
  | .HST_TOD_BEAT_LO => some .HST_TOD_BEAT_HI
  | .DMA_BUSERR_BEAT_LO => some .DMA_BUSERR_BEAT_HI
  | .DMA_CH_BYTES_LO => some .DMA_CH_BYTES_HI
  | .CAL_APPLY_AT_LO => some .CAL_APPLY_AT_HI
  | .FLT_LOSS_LO => some .FLT_LOSS_HI
  | .RPL_ANCHOR_LO => some .RPL_ANCHOR_HI
  | .RPL_DIV_BEAT_LO => some .RPL_DIV_BEAT_HI
  | .BOOT_RUN_AT_LO => some .BOOT_RUN_AT_HI
  | _ => none

/-- The low word of the 64-bit pair whose high word this is, among the pairs that software writes. -/
def Reg.lowOf : Reg → Option Reg
  | .SLC_WHEEL_START_HI => some .SLC_WHEEL_START_LO
  | .GLB_IMG_REJOIN_HI => some .GLB_IMG_REJOIN_LO
  | .SEQ_START_HI => some .SEQ_START_LO
  | .TXC_TRK_FTW_HI => some .TXC_TRK_FTW_LO
  | .DMX_FTW_HI => some .DMX_FTW_LO
  | .DMX_LINE_C_HI => some .DMX_LINE_C_LO
  | .CHN_EPOCH_HI => some .CHN_EPOCH_LO
  | .HST_TOD_SEC_HI => some .HST_TOD_SEC_LO
  | .CAL_APPLY_AT_HI => some .CAL_APPLY_AT_LO
  | .RPL_ANCHOR_HI => some .RPL_ANCHOR_LO
  | .BOOT_RUN_AT_HI => some .BOOT_RUN_AT_LO
  | _ => none

/-- The low word of a pair that software writes. -/
def Reg.stages (r : Reg) : Bool :=
  match r.highOf with
  | some h => h.lowOf == some r
  | none => false

/-- The instance of another register with the same indices. -/
def RegKey.other (key : RegKey) (r : Reg) : RegKey := { key with reg := r }

/-- Keep a word that a later access of the pair takes. -/
def keepWord (m : SMap RegKey Word) (key : RegKey) (v : Word) : SMap RegKey Word := SMap.insert RegKey.lt m key v

/-- The word kept for an access, if there is one. -/
def keptWord (m : SMap RegKey Word) (key : RegKey) : Option Word := (m.find? (fun e => e.1 = key)).map (·.2)

/-! ### Writing -/

/-- The bits of one word that a write reaches: RW and RWL fields that no lock or bound holds, then the flags that a 1 clears, the unit's own
operations, the clear registers and the commands. The answer says whether R69 reports the access. -/
def wordWrite (s : State) (path : Path) (port : Option (Fin 2)) (key : RegKey) (v : Word) : State × Bool :=
  match s.writeIgnored path key v.toNat with
  | some t => (t, false)
  | none =>
    let (held, reported) := s.heldBits key v.toNat
    let w := s.storedWord key v.toNat
    let free := key.reg.writable - (key.reg.writable &&& (held ||| key.fixedMask))
    let old := (s.rd key.reg key.i key.j key.k key.l).toNat
    let s := levelClamp s key v.toNat
    let stored := mix (free - (free &&& key.reg.ownMask)) w old
    let s := if stored = old then s else s.wr key.reg (BitVec.ofNat 32 stored) key.i key.j key.k key.l
    let s := clearFlags s key v.toNat
    let s := if key.reg.ownMask = 0 ∨ key.reg.ownMask &&& free = 0 then s else regOwn s port key w
    let s := if free = 0 then s else regHook s key
    (regCommands (clearWrite s key v.toNat) path key v.toNat, reported)

/-- A write of the high word of a pair commits both words in the same cycle; without a staged low word the low word stays (R13). The track's
value is held at the old word before both words change. -/
def pairWrite (s : State) (path : Path) (port : Option (Fin 2)) (key : RegKey) (low : Reg) (v : Word) : State × Bool :=
  let lk := key.other low
  let staged := keptWord s.staged lk
  let s := { s with staged := SMap.erase s.staged lk }
  if key.reg = .TXC_TRK_FTW_HI ∧ s.coreOn key.i then
    let n : Fin 16 := toFin 16 key.i
    let k : Fin 4 := toFin 4 key.j
    let lowWord := (staged.getD (s.rd .TXC_TRK_FTW_LO n k key.k)).toNat
    (trackRetune s n k (toFin 32 key.k) (lowWord + v.toNat % 2 ^ 16 * 2 ^ 32), false)
  else
    let s := match staged with
      | some w => (wordWrite s path port lk w).1
      | none => s
    wordWrite s path port key v

/-- A write of one register word as it acts (R13, R23). -/
def regApply (s : State) (path : Path) (port : Option (Fin 2)) (key : RegKey) (v : Word) : State × Bool :=
  if key.reg.stages then ({ s with staged := keepWord s.staged key v }, false)
  else match key.reg.lowOf with
    | some low => pairWrite s path port key low v
    | none => wordWrite s path port key v

/-- A write of one register word. In a replay the blocks of R667 take no write from outside (R675); a slice between D and R of a live reload
takes none (R89). -/
def regWrite (s : State) (path : Path) (port : Option (Fin 2)) (addr : Nat) (v : Word) : State × Bool :=
  match regAt addr with
  | none => (s, false)
  | some key =>
    if s.rplState = 2 ∧ journalled addr then (s, true)
    else if (inSliceRegs addr && reloadHolds s (sliceOfAddr addr)) = true then (s, false)
    else regApply (journalReg s path addr v) path port key v

/-! ### The loader's writes (R10, R76, R81) -/

/-- The loader writes RW and RWL fields directly: no lock or bound holds it and no staging delays it (R13, R81). The values of bounding
registers are the bounds from then on. -/
def loaderWrite (s : State) (key : RegKey) (v : Word) : State :=
  let w := s.storedWord key v.toNat
  let s := levelClamp s key v.toNat
  let free := key.reg.writable - (key.reg.writable &&& key.fixedMask)
  let old := (s.rd key.reg key.i key.j key.k key.l).toNat
  let stored := mix (free - (free &&& key.reg.ownMask)) w old
  let s := if stored = old then s else s.wr key.reg (BitVec.ofNat 32 stored) key.i key.j key.k key.l
  let s := if key.reg.ownMask &&& free = 0 then s else regOwn s none key w
  let s := if free = 0 then s else regHook s key
  if key.reg.bounded then { s with img := { s.img with bounds := SMap.insert RegKey.lt s.img.bounds key v } } else s

/-! ### Reading -/

/-- A field put into a word. -/
def overlay (f : Field) (x v : Nat) : Nat := putBits v f.lo f.width x

/-- The fields of a register that show the state of its unit, by value. -/
def shownFields (s : State) (key : RegKey) : List (Field × Nat) :=
  let n : Fin 16 := toFin 16 key.i
  let u : Fin 32 := toFin 32 key.j
  match key.reg with
  | .SLC_WHEEL_STATUS => [(F.SLC_WHEEL_STATUS_PHASE, s.beat % 16)]
  | .GLB_BEAT_LO => [(F.GLB_BEAT_LO_BEAT, s.beat)]
  | .GLB_BEAT_HI => [(F.GLB_BEAT_HI_BEAT, s.beat / 2 ^ 32)]
  | .SEQ_STATUS => [(F.SEQ_STATUS_LOOP_DEPTH, (s.sl n).seq.loops.length), (F.SEQ_STATUS_CALL_DEPTH, (s.sl n).seq.calls.length)]
  | .VEC_STATUS => [(F.VEC_STATUS_LOOP_DEPTH, (s.sl n).vec.loops.length), (F.VEC_STATUS_READY, bit01 (s.streamReady n))]
  | .PIN_STATUS =>
    [(F.PIN_STATUS_THR_ORDER, bit01 (decide (sext 16 (s.fld F.PIN_VOH_LEVEL n key.j) < sext 16 (s.fld F.PIN_VOL_LEVEL n key.j))))]
  | .PIN_LOAD_STATUS =>
    [(F.PIN_LOAD_STATUS_COUNT, loadsActive s n),
     (F.PIN_LOAD_STATUS_PEND, bit01 ((List.range 32).any (fun p => s.flag F.PIN_STATUS_LOAD_PEND n p)))]
  | .TON_STATUS =>
    let track := (toneSeg s n u (128 * s.now)).track
    [(F.TON_STATUS_FREE, bit01 track.isNone), (F.TON_STATUS_TRACK, track.getD (tone s n u).lastTrack),
     (F.TON_STATUS_BUF, min 256 (toneAhead s n u).1.length)]
  | .TON_FTW_LO => [(F.TON_FTW_LO_FTW, toneFtw s n u (128 * s.now))]
  | .TON_FTW_HI => [(F.TON_FTW_HI_FTW, toneFtw s n u (128 * s.now) / 2 ^ 32)]
  | .TON_POFF => [(F.TON_POFF_POFF, tonePoff s n u (128 * s.now))]
  | .TON_AMP => [(F.TON_AMP_POINT, pat 18 (tonePoint s n u (4 * s.now)))]
  | .TXC_STATUS =>
    [(F.TXC_STATUS_PLAYING, (List.range 8).foldl (fun a t =>
      let st := s.fld F.TON_STATUS_STATE n (8 * (key.j % 4) + t)
      putBit a t (decide (st = 1 ∨ st = 2))) 0)]
  | .TXC_MK_STATUS => let k : Fin 4 := toFin 4 key.j
    [(F.TXC_MK_STATUS_OUT0, bit01 (markOut s n k 0)), (F.TXC_MK_STATUS_OUT1, bit01 (markOut s n k 1))]
  | .MAD_QSTATUS => [(F.MAD_QSTATUS_COUNT, (s.sl n).mad.queue.length)]
  | .TDC_QSTATUS => [(F.TDC_QSTATUS_COUNT, (s.sl n).tdc.queue.length)]
  | .VRD_STATUS => [(F.VRD_STATUS_ROUTE_ALT, bit01 (routeAlt s))]
  | .TRG_STATUS => [(F.TRG_STATUS_LEVEL, s.trg.level.toNat)]
  | .KTL_STATUS => [(F.KTL_STATUS_DEGRADED, bit01 (s.fld F.KTL_LINKS_DOWN_COUNT != 0)),
      (F.KTL_STATUS_UNREACH, bit01 ((List.range 1024).any (fun d => s.flag F.KTL_RT_UNREACH d)))]
  | .HST_PORT_STATUS => [(F.HST_PORT_STATUS_LINK, hostLink s (toFin 2 key.i))]
  | .CTP_STATUS => [(F.CTP_STATUS_TAGS, (s.hp (toFin 2 key.i)).tags.length)]
  | .EVT_STATUS => [(F.EVT_STATUS_PENDING, bit01 (!s.evt.queue.isEmpty)),
      (F.EVT_STATUS_ALERT, bit01 ((s.flag F.EVT_CFG_ALERT_EN && !s.evt.queue.isEmpty) || alertLow s))]
  | .EVT_QSTATUS => [(F.EVT_QSTATUS_COUNT, s.evt.queue.length)]
  | .DMA_STATUS => [(F.DMA_STATUS_INFLIGHT, s.dma.bursts.length)]
  | .DMA_ACTIVE => [(F.DMA_ACTIVE_CH, (List.range 32).foldl (fun a c => putBit a c (s.fld F.DMA_CH_STATUS_STATE c != 0)) 0)]
  | .DMA_CH_STATUS => (if dmaWaits s (toFin 32 key.i) then [(F.DMA_CH_STATUS_STATE, DmaSt.wait)] else []) ++
      [(F.DMA_CH_STATUS_INFLIGHT, (s.dma.bursts.filter (fun b => b.ch == key.i)).length)]
  | .SIDE_STATUS => [(F.SIDE_STATUS_ACTIVE, bit01 s.side.stream.isSome)]
  | .PWT_STATUS => [(F.PWT_STATUS_OPEN, s.fld F.PWT_CTRL_OPEN)]
  | .PWR_COMMITTED_MW => [(F.PWR_COMMITTED_MW_MW, min (committed s) (2 ^ 18 - 1))]
  | .PWR_QSTATUS => [(F.PWR_QSTATUS_COUNT, s.pwr.queue.length)]
  | .PWR_HEAD => match s.pwr.queue with
    | [] => []
    | r :: _ => [(F.PWR_HEAD_CLASS, r.1.cls), (F.PWR_HEAD_INDEX, r.1.index)]
  | .NRG_TX_LEVEL_MS => [(F.NRG_TX_LEVEL_MS_LEVEL, txLevelMs s (toFin 16 (key.i / 4)) (toFin 4 key.i))]
  | .NRG_TX_LEVEL_S => [(F.NRG_TX_LEVEL_S_LEVEL, txLevelS s (toFin 16 (key.i / 4)) (toFin 4 key.i))]
  | .NRG_FF_LEVEL => [(F.NRG_FF_LEVEL_RMS, ffLevel s (toFin 16 (key.i / 8)) (toFin 8 key.i))]
  | .NRG_STATUS => [(F.NRG_STATUS_TX, bitsAt (nrgStatus s) 0 1), (F.NRG_STATUS_FF, bitsAt (nrgStatus s) 1 1), (F.NRG_STATUS_PIN, bitsAt (nrgStatus s) 2 1)]
  | .CAL_STATUS => [(F.CAL_STATUS_SHED, bit01 (calShed s))]
  | .CAL_SET =>
    let i : Fin 369 := toFin 369 (s.fld F.CAL_SEL_CONV)
    [(F.CAL_SET_WORD, if (convKind i).words ≤ key.i then 0 else calWord s i (s.fld F.CAL_SEL_BANK) key.i)]
  | .FLT_STATUS => [(F.FLT_STATUS_ALERT, bit01 (alertLow s))]
  | .FLT_QSTATUS => [(F.FLT_QSTATUS_COUNT, s.flt.tests.length)]
  | _ => []

/-- What a register instance shows, before what its reading takes away. -/
def regView (s : State) (key : RegKey) : Word :=
  let stored := (s.rd key.reg key.i key.j key.k key.l).toNat
  let gone := key.reg.accessMask [.w1s, .wo]
  BitVec.ofNat 32 ((shownFields s key).foldl (fun v x => overlay x.1 x.2 v) (stored - (stored &&& gone)))

/-- The peak field that a read clears. -/
def Reg.peakField : Reg → Option Field
  | .MAD_QSTATUS => some F.MAD_QSTATUS_PEAK
  | .TDC_QSTATUS => some F.TDC_QSTATUS_PEAK
  | .EVT_QSTATUS => some F.EVT_QSTATUS_PEAK
  | .PWR_QSTATUS => some F.PWR_QSTATUS_PEAK
  | .FLT_QSTATUS => some F.FLT_QSTATUS_PEAK
  | .MGT_LOAD => some F.MGT_LOAD_PEAK
  | _ => none

/-- A plain read: the view, and a peak that it clears. -/
def plainRead (s : State) (key : RegKey) : State :=
  let s := { s with readValue := regView s key }
  match key.reg.peakField with
  | some f => s.setFld f 0 key.i
  | none => s

/-- A read of a word that a shadow may hold: the shadow if there is one, and it is used up (R13, R294). -/
def shadowRead (s : State) (key : RegKey) : State :=
  match keptWord s.shadow key with
  | some w => { s with shadow := SMap.erase s.shadow key, readValue := w }
  | none => plainRead s key

/-- The low word of a pair captures the high word (R13). -/
def captureHigh (s : State) (key : RegKey) (high : Reg) : State :=
  { s with shadow := keepWord s.shadow (key.other high) (regView s (key.other high)) }

/-- DMX_RES_I: the five registers of one result stand in the shadow (R294). -/
def dmxResultRead (s : State) (key : RegKey) : State :=
  let s := plainRead s key
  [Reg.DMX_RES_Q, .DMX_RES_END_LO, .DMX_RES_END_HI, .DMX_RES_INFO].foldl (fun s r =>
    { s with shadow := keepWord s.shadow (key.other r) (regView s (key.other r)) }) s

/-- A read of one register instance: its value stands in `readValue`. -/
def keyRead (s : State) (key : RegKey) : State :=
  let n : Fin 16 := toFin 16 key.i
  match key.reg with
  | .MAD_RES_LO => madReadLo s n
  | .MAD_RES_HI => madReadHi s n
  | .MAD_FIFO => if key.j % 2 = 0 then madReadLo s n else madReadHi s n
  | .TDC_RESULT => tdcTake s n
  | .TDC_FIFO =>
    if key.j % 4 = 0 then tdcTake s n
    else { s with readValue := s.rd (if key.j % 4 = 1 then .TDC_RES_VAL_LO else if key.j % 4 = 2 then .TDC_RES_VAL_HI else .TDC_RES_AUX) n }
  | .EVT_RD0 => evtTake s
  | .TXC_TRK_ACC_LO => trackAccRead n (toFin 4 key.j) s
  | .DMX_RES_I => dmxResultRead s key
  | .DMX_RES_END_LO => if (keptWord s.shadow key).isSome then shadowRead s key else plainRead (captureHigh s key .DMX_RES_END_HI) key
  | r => match r.highOf with
    | some high => plainRead (captureHigh s key high) key
    | none => shadowRead s key

/-- A read of a register address; a word that names no register reads zero (R9). -/
def regRead (s : State) (addr : Nat) : State :=
  match regAt addr with
  | some key => keyRead s key
  | none => { s with readValue := 0 }

/-! ### The commands -/

def execRegWrite (path : Path) (addr : BitVec 40) (v : BitVec 32) (s : State) : Result :=
  .next (s.awake (fun s => (regWrite s path none addr.toNat v).1))

/-- PAIR_LOW_READ: the low word of a pair, the high word captured (R13). -/
def execPairLowRead (addr : BitVec 40) (s : State) : Result :=
  .next (s.awake (fun s => match regAt addr.toNat with
    | some key => if key.reg.highOf.isSome then keyRead s key else s
    | none => s))

/-- PAIR_LOW_WRITE: the low word is staged (R13). -/
def execPairLowWrite (path : Path) (addr : BitVec 40) (v : BitVec 32) (s : State) : Result :=
  .next (s.awake (fun s => match regAt addr.toNat with
    | some key => if key.reg.stages then (regWrite s path none addr.toNat v).1 else s
    | none => s))

/-- PAIR_HIGH_WRITE: both words are committed (R13). -/
def execPairHighWrite (path : Path) (addr : BitVec 40) (v : BitVec 32) (s : State) : Result :=
  .next (s.awake (fun s => match regAt addr.toNat with
    | some key => if key.reg.lowOf.isSome then (regWrite s path none addr.toNat v).1 else s
    | none => s))

/-- COUNTER_CLEAR: a clear register is written (R12). -/
def execCounterClear (path : Path) (addr : BitVec 40) (v : BitVec 32) (s : State) : Result :=
  .next (s.awake (fun s => match regAt addr.toNat with
    | some key => if key.clears then (regWrite s path none addr.toNat v).1 else s
    | none => s))

/-- RING_WP_ADVANCE: VEC_RING_WP is written (R180). -/
def execRingWpAdvance (n : Fin 16) (path : Path) (wp : BitVec 15) (s : State) : Result :=
  .next (s.awake (fun s => (regWrite s path none (⟨.VEC_RING_WP, n, 0, 0, 0⟩ : RegKey).address (wp.setWidth 32)).1))

/-- TSET_WRITE: a register of the slice's timing sets is written (R162). -/
def execTsetWrite (n : Fin 16) (path : Path) (addr : BitVec 40) (v : BitVec 32) (s : State) : Result :=
  .next (s.awake (fun s => match regAt addr.toNat with
    | some key => if key.reg ∈ Reg.blockTSET ∧ key.i = n.val then (regWrite s path none addr.toNat v).1 else s
    | none => s))

/-- TONE_ENTRY_WRITE: TON_ENTRY is written (R262). -/
def execToneEntryWrite (n : Fin 16) (path : Path) (u : Fin 32) (e : Fin 4) (v : BitVec 32) (s : State) : Result :=
  .next (s.awake (fun s => (regWrite s path none (⟨.TON_ENTRY, n, u, e, 0⟩ : RegKey).address v).1))

/-- WRAM_WRITE: a weight word is written (R293). -/
def execWramWrite (n : Fin 16) (path : Path) (u : Fin 32) (i : Fin 2048) (v : BitVec 32) (s : State) : Result :=
  .next (s.awake (fun s => (regWrite s path none (⟨.DMX_WRAM, n, u, i, 0⟩ : RegKey).address v).1))

/-- DMX_RESULT_READ: DMX_RES_I is read (R294). -/
def execDmxResultRead (n : Fin 16) (u : Fin 32) (s : State) : Result := .next (s.awake (fun s => keyRead s ⟨.DMX_RES_I, n, u, 0, 0⟩))

end Sys2Proof.Machine
end

