-- ==== Sys2Proof/Machine/StorePort.lean ====
section
/-!
DEFINITION. The port of a store (R34 to R44, R51, R53, R60) and its scrubber: one line access per core cycle, to the master that the wheel or the priority
gives. The scheduled masters are the slice's own units; the requests of the others come with the command and wait at the port.
-/

namespace Sys2Proof.Machine

/-! ### Upsets (R35, R36) -/

/-- An upset of a 64-bit word: one bit, or two. A second one in a word that holds an error makes it uncorrectable. -/
def Store.upset (st : Store) (w : Nat) (two : Bool) : Store :=
  if w ∈ st.double then st
  else if two || decide (w ∈ st.single) then { st with single := st.single.filter (· ≠ w), double := st.double ++ [w] }
  else { st with single := st.single ++ [w] }

/-- The upsets of a core cycle that fall on words of the store. -/
def storeUpsets (s : State) (id : StoreId) (l : List (Nat × Bool)) : State :=
  s.setStore id ((l.filter (fun u => decide (u.1 < 16 * StoreId.lines id))).foldl (fun st u => st.upset u.1 u.2) (s.store id))

/-! ### The scheduled masters (R36, R37, R41) -/

/-- A master reads a line: its bytes, its poisoned words, and the state after it. -/
def portRead (s : State) (id : StoreId) (line : Nat) : List Byte × List Nat × State :=
  let data := (s.store id).read (line * 128) 128
  let (poison, s) := s.lineRead id line
  (data, poison, s)

/-- A scheduled master or the journal writer writes bytes of a line in one access. -/
def portWrite (s : State) (id : StoreId) (a : Nat) (data : List Byte) : State :=
  let words := (List.range ((a + data.length - 1) / 8 - a / 8 + 1)).map (· + a / 8)
  (s.setStore id (words.foldl Store.cleanWord ((s.store id).writeBytes a data))).marchTouched id (a / 128)

/-- What the master of a map code asks of the store: IF 1, VS 2, TL 3, AQ 4, FC 5 (R41); none where it asks nothing. The answer is the
state after the access. -/
def scheduledAccess (s : State) (n : Fin 16) (code : Nat) : Option State :=
  match code with
  | 1 => (fetchWant s n).map (fun l => let (d, p, s) := portRead s (.slice n) l; fetchFill s n l d p)
  | 2 => (vecWant s n).map (fun l => let (d, p, s) := portRead s (.slice n) l; vecFill s n l d p)
  | 3 => (toneWant s n).map (fun x => let (d, p, s) := portRead s (.slice n) x.2.1; toneFill s n x.1 x.2.1 x.2.2 d p)
  | 4 => (acqWant s n).map (fun x => acqWritten (portWrite s (.slice n) (x.2.1 * 128) x.2.2) n x.1)
  | 5 => (captureWant s n).map (fun x =>
      modVec (portWrite s (.slice n) x.1 x.2) n (fun v => { v with capture := captureDrop x.2.length v.capture }))
  | _ => none

/-! ### The unscheduled masters (R37, R39, R43) -/

/-- Whether a request writes part of a 64-bit word, and so takes two accesses (R37). -/
def partialWrite (r : StoreReq) : Bool :=
  match r.write with
  | none => false
  | some l => (List.range 16).any (fun w =>
      let k := ((List.range 8).filter (fun i => l.any (fun b => b.1 == 8 * w + i))).length
      decide (0 < k) && decide (k < 8))

/-- The path that the journal gives the writes of a requester (R666). -/
def requesterPath : Requester → Nat
  | .dm | .dma => 3
  | .mg | .cores | .journal => 2
  | .host => 0

/-- The 64-bit words of a line that a request writes. -/
def writtenWords (r : StoreReq) : List Nat := (List.range 16).filter (fun w => (r.write.getD []).any (fun b => b.1 / 8 == w))

/-- The bytes of a write and new check bits for its words; a slice store's line stands in the journal (R667). -/
def requestWrite (s : State) (id : StoreId) (r : StoreReq) : State :=
  let s := match id with
    | .slice n => journalBefore s n (requesterPath r.who) r.line
    | .central => s
  let st := ((r.write.getD []).filter (fun b => decide (b.1 < 128))).foldl (fun st b => st.setByte (r.line * 128 + b.1) b.2) (s.store id)
  let st := ((writtenWords r).map (fun w => r.line * 16 + w)).foldl Store.cleanWord st
  let s := (s.setStore id st).marchTouched id r.line
  match id with
  | .slice n => journalLine s n (requesterPath r.who) r.line
  | .central => s

/-- The access of a waiting request in this core cycle: a read delivers its line, a write of whole words is done, and a read-modify-write
takes its read first and stays at the port for its write. One whose read finds a poisoned word writes nothing (R36, R37). -/
def requestAccess (s : State) (id : StoreId) (w : WaitingReq) : State :=
  let gone (s : State) : State := let st := s.store id; s.setStore id { st with waiting := st.waiting.erase w, served := st.served ++ [w.req.who] }
  if w.req.write.isNone then
    let (d, p, s) := portRead s id w.req.line
    let st := s.store id
    gone (s.setStore id { st with out := d, outPoison := p })
  else if !partialWrite w.req || w.started then gone (requestWrite s id w.req)
  else
    let (d, p, s) := portRead s id w.req.line
    if p.isEmpty then
      let st := s.store id
      s.setStore id { st with waiting := { w with started := true } :: st.waiting.erase w, served := st.served ++ [w.req.who] }
    else
      let st := s.store id
      gone (s.setStore id { st with out := d, outPoison := p })

/-- The oldest waiting request of a requester. -/
def oldestOf (st : Store) (who : Requester) : Option WaitingReq := st.waiting.find? (fun w => w.req.who = who)

/-- Which of DM and MG a free slot serves (R43): a read-modify-write that has begun goes on; then the request that has waited longest, DM
before MG on a tie, an MG request of 16 beats before any DM request. `cycle` is the present core cycle. -/
def unscheduledNext (st : Store) (cycle : Nat) : Option WaitingReq :=
  match st.waiting.find? (·.started) with
  | some w => some w
  | none => match oldestOf st .dm, oldestOf st .mg with
    | some d, some m => if m.since + 64 ≤ cycle ∨ m.since < d.since then some m else some d
    | some d, none => some d
    | none, m => m

/-- Who follows a requester in the central store's round robin (R39). -/
def roundRobin (turn : Nat) : List Requester :=
  let l : List Requester := [.dma, .cores, .host]
  (l.drop (turn % 3)) ++ l.take (turn % 3)

/-- One core cycle of a slice store (R42, R43, R51). -/
def sliceCycle (s : State) (n : Fin 16) (cycle : Nat) : State :=
  let st := (s.sl n).store
  let unscheduled : Option State := (unscheduledNext st cycle).map (fun w => requestAccess s (.slice n) w)
  if wheelState s n = 2 ∨ wheelState s n = 3 then
    let code := ((s.sl n).wheel.map.toList.getD (4 * (s.beat % 16) + st.cycle) 0).toNat
    match scheduledAccess s n code with
    | some t => t
    | none => unscheduled.getD s
  else
    match [1, 2, 3, 4, 5].findSome? (scheduledAccess s n) with
    | some t => t
    | none => match st.waiting.find? (·.started), oldestOf st .dm with
      | some w, _ => requestAccess s (.slice n) w
      | none, some d => requestAccess s (.slice n) d
      | none, none => unscheduled.getD s

/-- One core cycle of the central store (R39): the journal writer, then the round robin. -/
def centralCycle (s : State) : State :=
  match journalWant s with
  | some (line, data) =>
    let s := journalWritten (portWrite s .central (line * 128) data)
    { s with cstore := { s.cstore with served := s.cstore.served ++ [.journal] } }
  | none =>
    match s.cstore.waiting.find? (·.started) with
    | some w => requestAccess s .central w
    | none => match (roundRobin s.cstore.turn).findSome? (fun r => oldestOf s.cstore r) with
      | none => s
      | some w =>
        let turn := match w.req.who with | .dma => 1 | .cores => 2 | _ => 0
        requestAccess { s with cstore := { s.cstore with turn := turn } } .central w

/-- Requests that the port takes: of the store's own unscheduled masters, for lines that exist, and none of MG for a slice between D and R
(R89). -/
def requestTaken (s : State) (id : StoreId) (r : StoreReq) : Bool :=
  decide (r.line < StoreId.lines id) &&
    (match id with
     | .slice n => r.who == .dm || (r.who == .mg && !reloadHolds s n)
     | .central => r.who == .dma || r.who == .cores || r.who == .host)

/-- A core cycle of a store. A store that is not ON serves nothing: the requests that come are refused, the scheduled masters wait (R60). -/
def storeCycle (s : State) (id : StoreId) (reqs : List StoreReq) (upsets : List (Nat × Bool)) : State :=
  let s := storeUpsets s id upsets
  let st := s.store id
  if 4 ≤ st.cycle then s
  else if !s.storeOn id then s.setStore id { st with cycle := st.cycle + 1 }
  else
    let cycle := 4 * s.now + st.cycle
    let new := (reqs.filter (requestTaken s id)).map (fun r => ({ req := r, since := cycle, started := false } : WaitingReq))
    let s := s.setStore id { st with waiting := st.waiting ++ new }
    let s := match id with
      | .slice n => sliceCycle s n cycle
      | .central => centralCycle s
    let st := s.store id
    s.setStore id { st with cycle := st.cycle + 1 }

/-! ### The beat (R39, R44) -/

/-- Who has a request pending. -/
def pendingRequesters (s : State) (id : StoreId) : List Requester :=
  let l := ([.dm, .mg, .dma, .cores, .host] : List Requester).filter (fun r => (oldestOf (s.store id) r).isSome)
  match id with
  | .central => if (journalWant s).isSome then .journal :: l else l
  | .slice _ => l

/-- The requesters that had a request pending at the boundary and were served in none of the beat's cycles are counted, and the next beat's
four cycles begin (R39, R44). -/
def storeBeat (s : State) (id : StoreId) : State :=
  let st := s.store id
  let late := st.pendAt.filter (fun r => r ∉ st.served)
  let s := late.foldl (fun s r => match id, r with
    | .slice n, .dm => s.conflict n 5
    | .slice n, .mg => s.conflict n 6
    | .central, .journal => s.count .GLB_CSTORE_WAIT 0
    | .central, .dma => s.count .GLB_CSTORE_WAIT 1
    | .central, .cores => s.count .GLB_CSTORE_WAIT 2
    | .central, .host => s.count .GLB_CSTORE_WAIT 3
    | _, _ => s) s
  let pend := pendingRequesters s id
  let st := s.store id
  s.setStore id { st with cycle := 0, served := [], pendAt := pend }

/-! ### The scrubber (R38) -/

/-- The scrub interval in beats: 0 turns scrubbing off, 1 to 15 act as 16 (R66). -/
def scrubInterval (s : State) (id : StoreId) : Nat :=
  let v := match id with
    | .slice n => s.fld F.SLC_SCRUB_CTRL_INTERVAL n
    | .central => s.fld F.GLB_CSTORE_SCRUB_INTERVAL
  if v = 0 then 0 else max v 16

/-- Count late scrub steps. -/
def countScrubLate (s : State) (id : StoreId) (k : Nat) : State :=
  match id with
  | .slice n => s.countBy .SLC_SCRUB_LATE k n
  | .central => s.countBy .GLB_CSTORE_SCRUB_LATE k

/-- A core cycle of this beat is free for the scrubber: one is left, no unscheduled request waits, and the master whose slot it is asks for
nothing (R38, R39, R43, R51). -/
def scrubSlotFree (s : State) (id : StoreId) : Bool :=
  let st := s.store id
  decide (st.cycle < 4) && st.waiting.isEmpty &&
    (match id with
     | .slice n =>
       if wheelState s n = 2 ∨ wheelState s n = 3 then
         (scheduledAccess s n ((s.sl n).wheel.map.toList.getD (4 * (s.beat % 16) + st.cycle) 0).toNat).isNone
       else [1, 2, 3, 4, 5].all (fun c => (scheduledAccess s n c).isNone)
     | .central => (journalWant s).isNone)

/-- One scrub step: a queued line is rewritten first; else the next line is read, and rewritten if correctable (R35,
R38). Intervals that passed without a free slot are counted. -/
def scrubStep (s : State) (id : StoreId) : State :=
  let iv := scrubInterval s id
  let st := s.store id
  if iv = 0 ∨ s.now < st.scrubDue ∨ !s.storeOn id then s
  else
    let passed := (s.now - st.scrubDue) / iv
    let s := if passed = 0 then s else countScrubLate s id passed
    let due := st.scrubDue + passed * iv
    if scrubSlotFree s id then
      match st.rewrite with
      | l :: t =>
        s.setStore id { st with rewrite := t, single := st.single.filter (fun w => w / 16 ≠ l), cycle := st.cycle + 1,
                                scrubDue := due + iv }
      | [] =>
        let line := st.scrubLine
        let s := s.setStore id { st with scrubLine := (line + 1) % StoreId.lines id, cycle := st.cycle + 1, scrubDue := due + iv }
        let s := (s.lineRead id line).2
        let st := s.store id
        s.setStore id { st with rewrite := st.rewrite.filter (· ≠ line), single := st.single.filter (fun w => w / 16 ≠ line) }
    else s.setStore id { st with scrubDue := due }

/-! ### The commands -/

def execStoreAccess (id : StoreId) (reqs : List StoreReq) (upsets : List (Nat × Bool)) (s : State) : Result := .next (storeCycle s id reqs upsets)
def execScrubStep (id : StoreId) (s : State) : Result := .next (scrubStep s id)

end Sys2Proof.Machine
end

