-- ==== Sys2Proof/Machine/ImageLoad.lean ====
section
/-!
DEFINITION. Loading of sections: the records of a section applied (R76, R81, R88), the live reload from LOAD to rejoin (R85, R90 to R94), the
whole image (R78 to R80) and the rebuild of a recovery (R655).
-/

namespace Sys2Proof.Machine

/-! ### Applying a section (R75, R76, R81) -/

/-- The store of a section. -/
def sectionStore (i : Nat) : StoreId := if h : i < 16 then .slice ⟨i, h⟩ else .central

/-- The address of offset 0 of the register region that a section writes (R76). -/
def sectionBase (i : Nat) : Nat := if i < 16 then 0x10000000 + i * 0x100000 else 0

/-- The section that a register belongs to. -/
def sectionOf (key : RegKey) : Nat := if inSliceRegs key.address then (sliceOfAddr key.address).val else 16

/-- Consecutive words of a REG record. -/
def loadWords (s : State) : Nat → List Nat → State
  | _, [] => s
  | a, w :: t => loadWords (match regAt a with | some key => loaderWrite s key (BitVec.ofNat 32 w) | none => s) (a + 4) t

/-- Consecutive lines of a STORE record. -/
def loadLines (s : State) (id : StoreId) : Nat → List (List Byte) → State
  | _, [] => s
  | l, d :: t => loadLines ((s.setStore id ((s.store id).writeLine l d)).marchTouched id l) id (l + 1) t

/-- Consecutive weights of an LRAM record. -/
def loadWeights (s : State) (n : Fin 16) (u : Fin 32) : Nat → List Nat → State
  | _, [] => s
  | i, w :: t => loadWeights (wramStore s n u i (BitVec.ofNat 32 w)) n u (i + 1) t

/-- A record is applied (R76). LOCK records act later (R81). -/
def recordApply (i : Nat) (s : State) (r : ImgRecord) : State :=
  match r with
  | .reg o words => loadWords s (sectionBase i + o) words
  | .store line data => loadLines s (sectionStore i) line data
  | .zero line count => loadLines s (sectionStore i) line (List.replicate count (List.replicate 128 0))
  | .lram bin word words => loadWeights s (toFin 16 i) (toFin 32 bin) word words
  | .lock _ => s
  | .start e => modImg s (fun im => { im with entry := im.entry.setIfInBounds i (some e) })

/-- The bits that the LOCK records of a section lock. -/
def recordLocks (i : Nat) (records : List ImgRecord) : List (RegKey × Word) :=
  records.flatMap (fun r => match r with
    | .lock pairs => pairs.filterMap (fun p => (regAt (sectionBase i + p.1)).map (fun key => (key, BitVec.ofNat 32 p.2)))
    | _ => [])

/-- A record writes lines of the section's store. -/
def ImgRecord.writesStore : ImgRecord → Bool
  | .store _ _ => true
  | .zero _ _ => true
  | _ => false

/-- An FF channel that holds its output through the load and that the new section gives another setting runs the whole sequence to it and
ends ACTIVE at code 0 (R88, R358). A section names a setting by writing FF_CTRL. -/
def ffResettle (s : State) (n : Fin 16) (records : List ImgRecord) : State :=
  ffEach s (fun s f =>
    match lastWord records (Reg.base .FF_CTRL - 0x10000000 + 0x40 * f.val) with
    | none => s
    | some _ =>
      let v := s.fld F.FF_CTRL_SET n f
      let c := ffCh s n f
      if (c.base == .active && !c.off && !c.guarded && s.fld F.FF_STATUS_SETTING n f != v && ffAllowed s n f v) then
        let s := ffBegin (ffAdvance s n f) n f false false (.setting v)
        updFf s n f (fun c => { c with base := .changing })
      else s)

/-- The records of a section are applied: the section's locks and bounds go first (R81). -/
def sectionApply (s : State) (i : Nat) (records : List ImgRecord) : State :=
  let s := modImg s (fun im => { im with locks := im.locks.filter (fun e => sectionOf e.1 != i), bounds := im.bounds.filter (fun e => sectionOf e.1 != i)
                                         entry := im.entry.setIfInBounds i none })
  let s := records.foldl (recordApply i) s
  if h : i < 16 then ffResettle s ⟨i, h⟩ records else s

/-- The locks of a section act from its verification on (R81). -/
def locksInForce (s : State) (l : List (RegKey × Word)) : State :=
  modImg s (fun im => { im with locks := l.foldl (fun (m : SMap RegKey Word) e =>
    SMap.put RegKey.lt (fun _ => 0) m e.1 (SMap.get (fun _ => 0) m e.1 ||| e.2)) im.locks })

/-- The store that a section writes is ON, or the section writes none. -/
def storeReady (s : State) (i : Nat) (records : List ImgRecord) : Bool := !records.any ImgRecord.writesStore || s.storeOn (sectionStore i)

/-- A section that writes its store wakes it (R85). -/
def storeWake (s : State) (i : Nat) : State :=
  if s.storePower (sectionStore i) = 3 then s else storePowerRequest s (sectionStore i) 0

/-- A section's serial, replaced and loaded, in the registers and the journal (R93, R99, R666). -/
def sectionSerialIs (s : State) (i serial : Nat) : State :=
  let s := imageRecord (imageRecord s i true (sectionSerial s i)) i false serial
  if i = 16 then s.setPair .GLB_IMG_CSERIAL_LO .GLB_IMG_CSERIAL_HI serial else s.setPair .GLB_IMG_SSERIAL_LO .GLB_IMG_SSERIAL_HI serial i

/-! ### The live reload from LOAD to R (R85, R91 to R94) -/

/-- LOAD (R85): the records of the staged section are applied, once its store is ON; VERIFY follows. -/
def reloadLoad (s : State) (n : Fin 16) : State :=
  if !reloadOf s n ∨ imgPhase s ≠ 4 then s
  else
    let src := opSource s
    let h := src.read s 0 0x500
    let body := sectionBody s src true h n
    match sectionRecords false body with
    | none => s
    | some records =>
      if !storeReady s n records then storeWake s n
      else
        let (_, _, s) := rangeRead s .central src.base (0x500 + body.length)
        let s := modImg (sectionApply s n records) (fun im =>
          { im with locksNext := recordLocks n records, serialNext := imgSerial h, digestNext := entryDigest h n, verified := false })
        s.setFld F.GLB_IMG_STATUS_PHASE 5

/-- What VERIFY finds decides (R81, R94). -/
def verifyEnds (s : State) (n : Fin 16) (equal : Bool) : State :=
  if !equal then reloadFail s n 16
  else if s.img.faulty then reloadFail s n 17
  else locksInForce (modImg s (fun im => { im with verified := true })) s.img.locksNext

/-- VERIFY reads the staged section again: whether that finds a poisoned word, and the state after it (R36). -/
def verifyPoisoned (s : State) (n : Fin 16) : Bool × State :=
  let src := opSource s
  let h := src.read s 0 0x500
  let (_, p, t) := rangeRead s .central (src.base + 0x500) (entryLength h n)
  (!p.isEmpty, t)

/-- VERIFY ends (R36, R81, R85, R94). -/
def reloadVerify (s : State) (n : Fin 16) (readsBack : Bool) : State :=
  if !reloadOf s n ∨ imgPhase s ≠ 5 ∨ s.img.verified then s
  else
    let (poisoned, s) := verifyPoisoned s n
    verifyEnds s n (readsBack && !poisoned)

/-- READY (R52, R85): the wheel is set to start at R. -/
def reloadReady (s : State) (n : Fin 16) : State :=
  if !reloadOf s n ∨ imgPhase s ≠ 5 ∨ !s.img.verified then s
  else if s.img.faulty then reloadFail s n 17
  else if s.img.rejoinAt < s.now + 2 then s
  else
    let s := (s.setFld F.SLC_WHEEL_CTRL_USE_START_BEAT 1 n).setPair .SLC_WHEEL_START_LO .SLC_WHEEL_START_HI
      (s.beat + (s.img.rejoinAt - s.now)) n
    (wheelStart s n).setFld F.GLB_IMG_STATUS_PHASE 6

/-- The tracks that a section assigns hold the value they would have had they run since EPOCH (R91). -/
def tracksRejoin (s : State) (n : Fin 16) : State :=
  (List.finRange 4).foldl (fun s k => trackRebase s n k (s.rd .TXC_TRK_USE n k).toNat) s

/-- The sequencer begins at the START record's entry address, if there is one (R92). -/
def seqEnter (s : State) (n : Fin 16) : State :=
  match s.img.entry.get n with
  | some e =>
    let s := s.setFld F.SEQ_PC_INDEX e n
    let s := modSeq s n (fun q => { q with pend := none, starting := true, startAt := s.now, stepping := false, loops := [], calls := [] })
    setSeqState (s.setFld F.SEQ_STATUS_ERR 0 n) n SeqCode.waiting
  | none => s

/-- The rejoin beat R (R91 to R93). -/
def reloadRejoin (s : State) (n : Fin 16) : State :=
  if !reloadOf s n ∨ imgPhase s ≠ 6 ∨ s.now < s.img.rejoinAt then s
  else
    let s := wheelRunning (setActiveMap s n (shadowMap s n)) n
    let s := sliceBack (tracksRejoin s n) n
    let s := seqEnter s n
    let s := sectionSerialIs s n s.img.serialNext
    let s := modImg s (fun im => { im with digests := im.digests.setIfInBounds n im.digestNext })
    imgEnd (s.bump F.GLB_IMG_COUNT_COMPLETED 1) 0 31

/-- READY is not reached by R − 2 (R94). -/
def reloadLate (s : State) (n : Fin 16) : State :=
  if reloadOf s n ∧ 3 ≤ imgPhase s ∧ imgPhase s < 6 ∧ s.img.rejoinAt ≤ s.now + 2 then reloadFail s n 18 else s

/-! ### The whole image (R78 to R80) -/

/-- A slice leaves service for the load of its section: it drains, its wheel is STOPPED and its status returns to reset (R79, R85). -/
def sliceParked (s : State) (n : Fin 16) : State :=
  let s := if (s.sl n).isolated || (s.sl n).reloading then s else sliceDrain s n
  sliceReset (wheelHalt s n) n

/-- A section of a full image is applied; the answer says whether it could be: its slice's core domain is ON and its store, if it writes
it, is ON. -/
def sectionLoad (s : State) (src : ImgSource) (h : List Byte) (i : Nat) : State × Bool :=
  match sectionRecords (i == 16) (sectionBody s src false h i) with
  | none => (s, false)
  | some records =>
    if (i < 16 && !s.coreOn i) || !storeReady s i records then (s, false)
    else (modImg (sectionApply s i records) (fun im => { im with locksNext := recordLocks i records }), true)

/-- A section of a full image has been verified and is in force (R81, R83, R99). -/
def sectionInForce (s : State) (h : List Byte) (i : Nat) : State :=
  let s := sectionSerialIs (locksInForce s s.img.locksNext) i (imgSerial h)
  modImg s (fun im => { im with digests := im.digests.setIfInBounds i (entryDigest h i), secver := if i = 16 then imgSecver h else im.secver })

/-- A slice whose section is in force: the wheel STOPPED with the section's map, the sequencer halted at the START entry (R78). -/
def sliceLoaded (s : State) (n : Fin 16) : State :=
  let s := sliceBack (setActiveMap s n (shadowMap s n)) n
  match s.img.entry.toList.getD n.val none with
  | some e => s.setFld F.SEQ_PC_INDEX e n
  | none => s

/-- The slice sections are applied and verified one after another; a section that fails leaves its slice isolated, and the first failure is
answered (R80). -/
def slicesLoad (s : State) (src : ImgSource) (h : List Byte) (bad : BitVec 17) (l : List (Fin 16)) : State × Nat × Nat :=
  l.foldl (fun (x : State × Nat × Nat) n =>
    let (s, ok) := sectionLoad (sliceParked x.1 n) src h n
    if ok && !bad.getLsbD n.val then (sliceLoaded (sectionInForce s h n) n, x.2)
    else (sectionFailed s n 16, if x.2.1 = 0 then (16, n.val) else x.2)) (s, 0, 31)

/-- The central section, then the slice sections of a list (R79, R80): the result and the section of the first failure. A central section
that fails raises CENTRAL_LOAD and leaves every slice isolated. -/
def imageApply (s : State) (src : ImgSource) (bad : BitVec 17) (l : List (Fin 16)) : State × Nat × Nat :=
  let h := src.read s 0 0x500
  let (s, ok) := sectionLoad s src h 16
  let res := if s.img.faulty then 17 else if ok && !bad.getLsbD 16 then 0 else 16
  if res ≠ 0 then
    let s := l.foldl (fun s n => (sliceParked s n).modSl n (fun x => { x with isolated := true })) s
    (s.raise Src.CENTRAL_LOAD Scope.device res, res, 16)
  else slicesLoad (sectionInForce s h 16) src h bad l

/-- The sections of an image whose store is still to be woken. -/
def storesToWake (s : State) (src : ImgSource) (h : List Byte) (l : List (Fin 16)) : List (Fin 16) :=
  l.filter (fun n =>
    s.coreOn n && (match sectionRecords false (sectionBody s src false h n) with
      | some records => !storeReady s n records
      | none => false))

/-- Every slice. -/
def allSlices : List (Fin 16) := List.finRange 16

/-! ### Calibration at boot (R695) -/

/-- CALIBRATION begins (R682, R695): the vault records, and with AUTO_FG a foreground run of every slice in need. -/
def calibrationPhase (s : State) : State :=
  let s := modBoot (vaultSelectAll (s.setFld F.BOOT_STATUS_PHASE 8)) (fun b => { b with since := s.now })
  if s.flag F.CAL_CFG_AUTO_FG then
    eachSlice s (fun s n => if (List.range 23).any (fun c => s.flag F.CAL_CONV_STATUS_NEEDS_FG (23 * n.val + c)) then fgStart s n else s)
  else s

/-- A slice's drain before a FULL has ended. -/
def fullSettled (s : State) (n : Fin 16) : Bool := drainSettled s n || (s.sl n).isolated || !s.coreOn n

/-- IMG_FULL_END (R79, R80, R693): a FULL ends. Where a section writes a store that is not ON, the store is woken first. -/
def fullEnd (s : State) (bad : BitVec 17) : State :=
  if !imgBusy s ∨ s.img.op ≠ 2 ∨ imgPhase s < 3 then s
  else if !allSlices.all (fullSettled s) then s
  else
    let src := opSource s
    let wake := storesToWake s src (src.read s 0 0x500) allSlices
    if wake ≠ [] then wake.foldl (fun s n => storeWake (sliceParked s n) n) s
    else
      let (s, res, sec) := imageApply s src bad allSlices
      if res ≠ 0 then imgEnd s res sec
      else
        let slot := s.img.slot == 1
        let s := imgEnd ((writeDir s (fun d => { d with imgActive := slot })).setFlag F.BOOT_STATUS_IMG_SLOT slot) 0 31
        if s.fld F.BOOT_STATUS_PHASE = 10 ∧ s.fld F.BOOT_STATUS_ERR = 4 then calibrationPhase (s.setFld F.BOOT_STATUS_ERR 0) else s

/-! ### The rebuild of a recovery (R655) -/

/-- The first of the checks of an image that one section fails (R77), 0 for none. -/
def sectionCheck (s : State) (src : ImgSource) (h : List Byte) (i : Nat) : Nat :=
  let body := sectionBody s src false h i
  if sha384 body ≠ entryDigest h i then 8
  else if crc32c body ≠ entryCrc h i then 9
  else if !sectionWell s i body then 10
  else 0

/-- RELEASE messages for every export entry whose source slice was rebuilt and whose verdict the return of the slice has not released
(R335, R655). -/
def releaseExports (s : State) (rebuilt : Fin 16 → Bool) : State :=
  (List.range 256).foldl (fun s e =>
    let v := s.fld F.VRD_EXPORT_VERDICT e
    if s.flag F.VRD_EXPORT_VALID e ∧ !s.flag F.VRD_ROUTE_UNAVAIL v ∧ rebuilt (toFin 16 (v % 512 / 32)) then
      let d := s.fld F.VRD_EXPORT_DEST e
      s.expressTo d (verdictWord v s.ownId d 3 (s.beat + delivery s v) 2)
    else s) s

/-- A slice whose section fails its checks or its VERIFY is held (R655). -/
def holdSlice (s : State) (n : Fin 16) : State := modFlt s (fun c => { c with held := c.held ||| BitVec.ofNat 16 (2 ^ n.val) })

/-- The image of the rebuild: the slot in force (R655). -/
def rebuildSource (s : State) : ImgSource := { flash := true, base := imgBase (dirNow s.boot).imgActive }

/-- What the checks find of the header and the central section of that image, 0 where they pass (R77, R655). -/
def rebuildCheck (s : State) : Nat :=
  let h := (rebuildSource s).read s 0 0x500
  if headerChecks s h ≠ 0 then headerChecks s h else sectionCheck s (rebuildSource s) h 16

/-- The slices that are not held, whose sections are loaded where they pass their checks and held where they do not (R655). -/
def rebuildTodo (s : State) : List (Fin 16) := allSlices.filter (fun n => !s.flt.held.getLsbD n.val)

/-- Those of them whose sections pass. -/
def rebuildSound (s : State) : List (Fin 16) :=
  (rebuildTodo s).filter (fun (n : Fin 16) => sectionCheck s (rebuildSource s) ((rebuildSource s).read s 0 0x500) n == 0)

/-- The stores that the rebuild has to wake first. -/
def rebuildWake (s : State) : List (Fin 16) := storesToWake s (rebuildSource s) ((rebuildSource s).read s 0 0x500) (rebuildSound s)

/-- The sections of the rebuild's image are loaded: the result and the section of the first failure. -/
def rebuildLoad (s : State) (bad : BitVec 17) : State × Nat × Nat :=
  let src := rebuildSource s
  let h := src.read s 0 0x500
  let sound := rebuildSound s
  let s := ((rebuildTodo s).filter (fun (n : Fin 16) => sectionCheck s src h n != 0)).foldl (fun s n =>
    holdSlice (sectionFailed s n (sectionCheck s src h n)) n) s
  imageApply s src bad sound

/-- RECOVERY_END (R655): the rebuild from IMG_ACTIVE ends. -/
def recoveryEnd (s : State) (bad : BitVec 17) : State :=
  if fltState s ≠ 2 ∨ (chnFollows s && !chnAligned s) = true then s
  else if rebuildCheck s ≠ 0 then s.raise Src.CENTRAL_LOAD Scope.device (rebuildCheck s)
  else if rebuildWake s ≠ [] then (rebuildWake s).foldl (fun s n => storeWake (sliceParked s n) n) s
  else
    let sound := rebuildSound s
    let (s, res, sec) := rebuildLoad s bad
    if res ≠ 0 ∧ sec = 16 then s
    else
      let s := (sound.filter (fun n => (s.sl n).isolated)).foldl holdSlice s
      let back (n : Fin 16) : Bool := decide (n ∈ sound) && !(s.sl n).isolated
      let s := releaseExports s back
      let s := modFlt (s.setFld F.FLT_STATUS_STATE 0) (fun c => { c with held := 0 })
      s.event EvCode.FAULT 16 (Config.openValue 33 s.now) (Config.openValue 34 s.now)

/-! ### The commands -/

def execReloadLoad (n : Fin 16) (s : State) : Result := .next (reloadLoad s n)
def execReloadVerify (n : Fin 16) (readsBack : Bool) (s : State) : Result := .next (reloadVerify s n readsBack)
def execReloadReady (n : Fin 16) (s : State) : Result := .next (reloadReady s n)
def execReloadRejoin (n : Fin 16) (s : State) : Result := .next (reloadRejoin s n)
def execReloadLate (n : Fin 16) (s : State) : Result := .next (reloadLate s n)
def execImgFullEnd (bad : BitVec 17) (s : State) : Result := .next (fullEnd s bad)
def execRecoveryEnd (bad : BitVec 17) (s : State) : Result := .next (recoveryEnd s bad)

end Sys2Proof.Machine
end

