-- ==== Sys2Proof/Machine/Boot.lean ====
section
/-!
DEFINITION. The boot phases (R682, R683, R686, R692 to R695). A phase ends by BOOT_PHASE_ADVANCE, which says what the phase found outside
the model; phases that do not apply are passed at once.
-/

namespace Sys2Proof.Machine

/-- A phase starts (R682). -/
def bootPhase (s : State) (ph : Nat) : State := modBoot (s.setFld F.BOOT_STATUS_PHASE ph) (fun b => { b with since := s.now })

/-- JOIN (R493, R682): only with AUTO_JOIN. -/
def bootJoin (s : State) : State := if s.flag F.BOOT_CFG_AUTO_JOIN then joinAsk (bootPhase s 6) else bootPhase s 7

/-- CHAIN (R682): only a device that follows a chain waits. -/
def bootChain (s : State) : State := if chnFollows s then bootPhase s 5 else bootJoin s

/-- BIST (R682): only with BIST set. -/
def bootBist (s : State) : State := if s.flag F.BOOT_CFG_BIST then bootPhase s 4 else bootChain s

/-- The board configuration of R686 is applied; one whose MAGIC or CHECK is wrong is ignored. -/
def boardConfig (s : State) : State :=
  let l := flashRead s.boot 0x810000 128
  if numAt l 0 4 ≠ 0x1664B0C0 ∨ numAt l 124 4 ≠ crc32c (l.take 124) then s
  else
    let id := numAt l 4 2
    let s := (s.setFld F.KTL_CFG_REQ_ID (bitsAt id 0 10)).setFlag F.KTL_CFG_REQ_VALID (bitAt id 15)
    let s := driveLines (chnRoleWrite s (bitsAt (numAt l 6 1) 0 2) (bitsAt (numAt l 6 1) 2 5))
    let s := (s.setFlag F.BOOT_CFG_AUTO_JOIN (bitAt (numAt l 7 1) 0)).setFlag F.BOOT_CFG_BIST (bitAt (numAt l 7 1) 1)
    (List.range 2).foldl (fun s p =>
      let a := 8 + 12 * p
      let s := (s.setFld F.HST_MAC_LO_MAC (numAt l a 4) p).setFld F.HST_MAC_HI_MAC (numAt l (a + 4) 2) p
      let s := s.setFld F.HST_IP4_ADDR (numAt l (a + 6) 4) p
      (List.range 4).foldl (fun s w => s.setFld F.HST_IP6_ADDR (numAt l (32 + 16 * p + 4 * w) 4) p w) s) s

/-- ROM ends (R682 to R684, R687): keys, then the flash. -/
def bootRom (s : State) (table : Option Bool) (large : Bool) : State :=
  if !anyKey s then bootHeld s 6
  else match table with
    | none => bootHeld s 2
    | some octal =>
      if !large then bootHeld s 2
      else bootPhase ((s.setFlag F.BOOT_STATUS_QUAD (!octal)).setFlag F.BOOT_STATUS_FW_TRIAL (dirNow s.boot).fwTrial) 3

/-- FIRMWARE ends (R682, R683, R692): the cores run and the board configuration is applied, or the device is HELD. -/
def bootFirmware (s : State) : State :=
  match chooseSlot s with
  | (none, s) => coresFailed s
  | (some slot, s) => bootBist (boardConfig (coresRun (loadFirmware s slot)))

/-- Every line of every store is written with zero (R58, R682). -/
def zeroFill (s : State) : State :=
  let clear (st : Store) : Store := { st with bytes := [], single := [], double := [], rewrite := [] }
  eachSlice { s with cstore := clear s.cstore } (fun s n => s.setStore (.slice n) (clear (s.store (.slice n))))

/-- BIST ends (R682, R683). The spec does not say which word the failing line's record names. -/
def bootMarch (s : State) (bad : Option (StoreId × Nat)) : State :=
  match bad with
  | none => bootChain (zeroFill s)
  | some (id, line) => bootHeld (s.setEccAddr id line (Config.openValue 35 s.now % 16) ((Config.openValue 36 s.now).testBit 0)) 5

/-- JOIN ends with the join or at JOIN_TMO (R682, R683). -/
def bootJoined (s : State) : State :=
  if s.flag F.KTL_STATUS_JOIN_DONE ∨ ktlMember s = 3 then bootPhase s 7
  else if s.boot.since + max 1 (s.fld F.BOOT_CFG_JOIN_TMO) * 25000000 ≤ s.now then
    bootPhase (modBoot (s.setFld F.BOOT_STATUS_ERR 7) (fun b => { b with joinLate := true })) 7
  else s

/-- The IMAGE phase from a slot that passes R77 (R682, R693). -/
def bootImageFrom (s : State) (slot : Bool) (bad : BitVec 17) : State :=
  let src : ImgSource := { flash := true, base := imgBase slot }
  let (s, res, sec) := imageApply (modImg s (fun i => { i with faulty := false })) src bad allSlices
  calibrationPhase ((imgResult s res sec).setFlag F.BOOT_STATUS_IMG_SLOT slot)

/-- IMAGE ends (R683, R693): IMG_ACTIVE, else the other slot, else HELD. Where a section writes a store that is not ON, the store is woken
first. -/
def bootImage (s : State) (bad : BitVec 17) : State :=
  let active := (dirNow s.boot).imgActive
  let srcOf (slot : Bool) : ImgSource := { flash := true, base := imgBase slot }
  let check (slot : Bool) : Nat × Nat := imageChecks s (srcOf slot) false allSections []
  let passing := if (check active).1 = 0 then some active else if (check !active).1 = 0 then some (!active) else none
  match passing with
  | none => bootHeld (imgResult s (check active).1 (check active).2) 4
  | some slot =>
    let wake := storesToWake s (srcOf slot) ((srcOf slot).read s 0 0x500) allSlices
    if wake ≠ [] then wake.foldl (fun s n => storeWake s n) s
    else bootImageFrom (if slot = active then s else s.setFlag F.BOOT_STATUS_IMG_FELLBACK true) slot bad

/-- CALIBRATION ends once every foreground run has ended (R695): READY, with the event of R682. -/
def bootReady (s : State) : State :=
  if (List.finRange 16).all (fun n => s.fld F.CAL_FG_STATUS_STATE n == 0) then
    (bootPhase s 9).event EvCode.IMG_END 16 2 (s.fld F.GLB_IMG_STATUS_RESULT)
  else s

/-- A boot phase ends (R682). -/
def bootAdvance (s : State) (findings : BootFindings) : State :=
  match s.fld F.BOOT_STATUS_PHASE, findings with
  | 1, .none_ => if s.flag F.INV_STATUS_LOCK then bootPhase s 2 else s
  | 2, .flash table large => bootRom s table large
  | 3, .none_ => bootFirmware s
  | 4, .march bad => bootMarch s bad
  | 5, .none_ => if chnAligned s ∨ !chnFollows s then bootJoin s else s
  | 6, .none_ => bootJoined s
  | 7, .image bad => bootImage s bad
  | 8, .none_ => bootReady s
  | _, _ => s

/-- A join that completes after JOIN_TMO: IMAGE and CALIBRATION run again (R683, R496). -/
def bootLateJoin (s : State) : State :=
  if s.boot.joinLate ∧ ktlMember s = 3 then bootPhase ((modBoot s (fun b => { b with joinLate := false })).setFld F.BOOT_STATUS_ERR 0) 7 else s

def execBootPhaseAdvance (findings : BootFindings) (s : State) : Result := .next (s.awake (bootAdvance · findings))

end Sys2Proof.Machine
end

