-- ==== Sys2Proof/Machine/HostRequests.lean ====
section
/-!
DEFINITION. Requests of the host and of other devices: their checks and execution (R512 to R515), the order of a session (R513), the tunnel
(R516, R517), completions (R511) and the commands for the management firmware (R700).
-/

namespace Sys2Proof.Machine

/-! ### Accesses of a range (R36, R37, R514, R667) -/

/-- Bytes written by a path, line by line, with the journal's line runs; the answer names the offset of the first line that took nothing
because its read-modify-write met a poisoned word. -/
def pathWriteGo (path : Nat) (id : StoreId) : Nat → State → Nat → Nat → List Byte → State × Option Nat
  | 0, s, _, _, _ => (s, none)
  | fuel + 1, s, a, off, data =>
    if data.isEmpty then (s, none)
    else
      let k := 128 - a % 128
      let s := match id with | .slice n => journalBefore s n path (a / 128) | .central => s
      let (s, ok) := s.lineWrite id a (data.take k)
      let s := match id with | .slice n => if ok then journalLine s n path (a / 128) else s | .central => s
      let (s, bad) := pathWriteGo path id fuel s (a + k) (off + k) (data.drop k)
      (s, if ok then bad else some off)

/-- Bytes written to a store by a path. -/
def pathWrite (s : State) (path : Nat) (id : StoreId) (a : Nat) (data : List Byte) : State × Option Nat :=
  pathWriteGo path id (data.length / 128 + 2) s a 0 data

/-- The words of a register request, read in ascending order, or one word again and again (R512). -/
def wordsRead (s : State) (addr k : Nat) (fixed : Bool) : List Byte × State :=
  (List.range k).foldl (fun (x : List Byte × State) i =>
    let s := regRead x.2 (if fixed then addr else addr + 4 * i)
    (x.1 ++ toBytes 4 s.readValue.toNat, s)) ([], s)

/-- The words of a register request, written; the answer names the offset of the first that R69 reports. -/
def wordsWrite (s : State) (path : Path) (port : Option (Fin 2)) (addr : Nat) (fixed : Bool) (words : List Nat) : State × Option Nat :=
  words.zipIdx.foldl (fun (x : State × Option Nat) w =>
    let (s, reported) := regWrite x.1 path port (if fixed then addr else addr + 4 * w.2) (BitVec.ofNat 32 w.1)
    (s, if reported && x.2.isNone then some (4 * w.2) else x.2)) (s, none)

/-! ### Checks of a whole request (R89, R512, R514, R515) -/

/-- TYPE of a request: 2 REG_RD, 3 REG_WR, 4 MEM_RD, 5 MEM_WR (R505). -/
def isRegKind (kind : Nat) : Bool := kind == 2 || kind == 3
def isWriteKind (kind : Nat) : Bool := kind == 3 || kind == 5

/-- The STATUS of the checks before execution, 0 where none applies. -/
def requestStatus (s : State) (kind addr len : Nat) (fixed : Bool) (given : Nat) : Nat :=
  if isRegKind kind then
    if addr % 4 ≠ 0 ∨ len % 4 ≠ 0 then 4
    else match rangeIn addr (if fixed then 4 else len) with
      | none => 5
      | some (r, _) =>
        if !r.isRegs then 5
        else if len < 4 ∨ 1024 < len ∨ (kind = 3 ∧ given ≠ len) then 6
        else match r with
          | .sliceRegs n => if kind = 3 ∧ reloadHolds s n then 8 else 0
          | _ => 0
  else match rangeIn addr len with
    | none => 5
    | some (r, o) => match r.storeId with
      | none => 5
      | some id =>
        if len < 1 ∨ 1048576 < len ∨ (kind = 5 ∧ given ≠ len) then 6
        else if (match id with | .slice n => reloadHolds s n | .central => false) then 8
        else if !s.storeOn id then 9
        else if kind = 5 ∧ id = .central ∧ 0xE00000 < o + len then 10
        else 0

/-- INFO of a failed check: the offset of the first byte outside the region, or of the first protected byte; 0 where the whole request
fails. -/
def requestInfo (status addr len : Nat) : Nat :=
  if status = 5 then (match regionOf addr with
      | none => 0
      | some (r, o) =>
        let size := match r with | .globalRegs | .central => 0x1000000 | .sliceRegs _ => 0x100000 | .sliceStore _ => 0x300000
        if o + len ≤ size then 0 else size - o)
  else if status = 10 then (match regionOf addr with | some (_, o) => 0xE00000 - o | none => 0)
  else 0

/-- A request that passes its checks is executed at once: STATUS, INFO, the data read, and the state after it (R514). -/
def requestRun (s : State) (port : Option (Fin 2)) (kind addr len : Nat) (fixed : Bool) (data : List Byte) : Nat × Nat × List Byte × State :=
  match kind with
  | 2 =>
    let (l, s) := wordsRead s addr (len / 4) fixed
    (0, 0, l, s)
  | 3 =>
    let (s, bad) := wordsWrite s .host port addr fixed (bytesToWords data)
    (if bad.isSome then 7 else 0, bad.getD 0, [], s)
  | 4 => match regionOf addr with
    | some (r, o) => match r.storeId with
      | some id =>
        let (l, poison, s) := rangeRead s id o len
        (if poison.isEmpty then 0 else 11, ((poison.map (fun w => 8 * w - o)).min?).getD 0, l, s)
      | none => (5, 0, [], s)
    | none => (5, 0, [], s)
  | _ => match regionOf addr with
    | some (r, o) => match r.storeId with
      | some id =>
        let (s, bad) := pathWrite s 0 id o data
        (if bad.isSome then 11 else 0, bad.getD 0, [], s)
      | none => (5, 0, [], s)
    | none => (5, 0, [], s)

/-! ### Jobs of a session (R511, R513) -/

/-- Change the `i`th job of a port. -/
def modJob (s : State) (p : Fin 2) (i : Nat) (f : CtpJob → CtpJob) : State := s.modHost p (fun x => { x with jobs := x.jobs.modify i f })

/-- A job is a request for registers or a store. -/
def CtpJob.accesses (j : CtpJob) : Bool := decide (2 ≤ j.kind) && decide (j.kind ≤ 5)

/-- An earlier request holds a later one back (R513). -/
def CtpJob.blocks (e j : CtpJob) : Bool :=
  e.accesses && j.accesses && !e.executed && e.dev == j.dev && (isWriteKind e.kind || isWriteKind j.kind || (e.kind == 2 && j.kind == 2))

/-- The outcome of a job is known. -/
def jobDone (s : State) (p : Fin 2) (i status info : Nat) (reply : List Byte) : State :=
  modJob s p i (fun j => { j with executed := true, started := true, status := status, info := info, reply := reply, unsent := [], missing := [] })

/-! ### The tunnel (R516, R517) -/

/-- The parts of a request for another device: offset and bytes. A FIXED request goes word by word. -/
def CtpJob.parts (j : CtpJob) : List (Nat × Nat) :=
  let step := if j.fixed then 4 else if isRegKind j.kind then 128 else 1024
  (List.range ((j.len + step - 1) / step)).map (fun i => (i * step, min step (j.len - i * step)))

/-- The fabric packet of a part. -/
def CtpJob.packet (j : CtpJob) (p : Fin 2) (own : Nat) (part : Nat × Nat) : KtlPacket :=
  { bulk := !isRegKind j.kind, dest := BitVec.ofNat 10 (j.dev.getD 0), src := BitVec.ofNat 10 own, kind := BitVec.ofNat 4 (j.kind - 2), ttl := 63,
    down := false, tag := BitVec.ofNat 16 (p.val * 512 + j.tag), addr := BitVec.ofNat 40 (j.addr + if j.fixed then 0 else part.1),
    len := BitVec.ofNat 11 part.2, status := 0, data := if isWriteKind j.kind then (j.data.drop part.1).take part.2 else [] }

/-- Parts leave; the first that finds no way ends the request as UNREACHABLE. -/
def tunnelSend (s : State) (p : Fin 2) (i : Nat) (j : CtpJob) (l : List (Nat × Nat)) : State :=
  l.foldl (fun s part =>
    match ((s.hp p).jobs)[i]? with
    | some x =>
      if x.executed then s
      else
        let (s, ok) := packetRoute s (j.packet p s.ownId part)
        if ok then modJob s p i (fun x => { x with missing := x.missing ++ [part], askedAt := s.now }) else jobDone s p i 1 part.1 []
    | none => s) s

/-- A request for another device begins: a REG_WR sends its first packet, every other all of them. -/
def tunnelStart (s : State) (p : Fin 2) (i : Nat) (j : CtpJob) : State :=
  let bad := if isRegKind j.kind then
      (if j.addr % 4 ≠ 0 ∨ j.len % 4 ≠ 0 then 4 else if j.len < 4 ∨ 1024 < j.len ∨ (j.kind = 3 ∧ j.data.length ≠ j.len) then 6 else 0)
    else if j.len < 1 ∨ 1048576 < j.len ∨ (j.kind = 5 ∧ j.data.length ≠ j.len) then 6 else 0
  if bad ≠ 0 then jobDone s p i bad 0 []
  else if s.flag F.KTL_RT_UNREACH (j.dev.getD 0) then jobDone s p i 1 0 []
  else
    let parts := j.parts
    let now := if j.kind = 3 then parts.take 1 else parts
    let s := modJob s p i (fun x => { x with started := true, unsent := parts.drop now.length,
                                             reply := if isWriteKind j.kind then [] else List.replicate j.len 0 })
    tunnelSend s p i j now

/-! ### The order of execution (R513) -/

/-- A request that nothing holds back gives up its receive space and, once it is complete, is executed. A read of a local store is executed
as its completion goes (R511). -/
def jobStart (s : State) (p : Fin 2) (i : Nat) : State :=
  match ((s.hp p).jobs)[i]? with
  | none => s
  | some j =>
    if !j.accesses || j.executed || (((s.hp p).jobs).take i).any (fun e => e.blocks j) then s
    else
      let s := modJob (ctpFree s p j.units) p i (fun j => { j with units := 0 })
      if !j.complete ∨ j.started then s
      else if j.status ≠ 0 then jobDone s p i j.status 0 []
      else match j.dev with
        | some _ => tunnelStart s p i j
        | none =>
          let a := j.addr % 2 ^ 40
          let st := requestStatus s j.kind a j.len j.fixed j.data.length
          if st ≠ 0 then jobDone s p i st (requestInfo st a j.len) []
          else if j.kind = 4 then modJob s p i (fun j => { j with started := true })
          else
            let (st, info, l, s) := requestRun s (some p) j.kind a j.len j.fixed j.data
            jobDone s p i st info l

/-- Every request that may start does, in order of arrival. -/
def jobsAdvance (s : State) (p : Fin 2) : State := (List.range (s.hp p).jobs.length).foldl (fun s i => jobStart s p i) s

/-! ### Arrival (R509, R512) -/

/-- The device that a packet is for: none for this one; the answer is none where it cannot be reached (R514, R528). -/
def ctpTarget (s : State) (k : CtpPacket) : Option (Option Nat) :=
  if k.loc then some none
  else if !s.flag F.KTL_ID_VALID then none
  else if k.addr.toNat / 2 ^ 40 = s.ownId then some none
  else some (some (k.addr.toNat / 2 ^ 40))

/-- The MEM_WR of a port whose data is still coming. -/
def openWrite (s : State) (p : Fin 2) : Option Nat := (s.hp p).jobs.findIdx? (fun j => j.kind == 5 && !j.complete)

/-- Further data of a MEM_WR: its OFFSET continues what has come. -/
def jobAppend (s : State) (p : Fin 2) (i : Nat) (k : CtpPacket) : State :=
  let s := modJob s p i (fun j =>
    { j with data := j.data ++ k.data, complete := k.eop, units := j.units + ctpUnits k.data.length
             status := if k.offset.toNat = j.data.length then j.status else 6 })
  jobsAdvance s p

/-- A new request enters the queue (R509): one that names an outstanding tag is not executed. -/
def jobNew (s : State) (p : Fin 2) (k : CtpPacket) : State :=
  if k.tag.toNat ∈ (s.hp p).tags then (ctpFree s p (ctpUnits k.data.length)).count .CTP_TAG_ERR p
  else
    let kind := k.kind.toNat
    let form := if k.offset.toNat ≠ 0 ∨ !k.sop ∨ (kind ≠ 5 ∧ !k.eop) then 6 else 0
    let (dev, status) := match ctpTarget s k with
      | none => (none, 1)
      | some d => (d, form)
    let j : CtpJob := { CtpJob.ready kind k.tag.toNat [] with
      dev := dev, addr := k.addr.toNat, len := k.len.toNat, fixed := k.fixed, data := k.data, complete := kind != 5 || k.eop,
      executed := false, status := status, started := false, units := ctpUnits k.data.length }
    jobsAdvance (s.modHost p (fun x => { x with jobs := x.jobs ++ [j], tags := x.tags ++ [k.tag.toNat] })) p

/-- A packet of a request arrives. Data of a MEM_WR stands in consecutive packets (R512): another request ends one that is not complete. -/
def requestTake (s : State) (p : Fin 2) (k : CtpPacket) (kind : Nat) : State :=
  if !ctpWaits s p k kind then s
  else match ctpAccept (ctpTake s p k) p k with
    | (s, false) => s
    | (s, true) =>
      match openWrite s p with
      | some i =>
        if kind = 5 ∧ !k.sop ∧ (((s.hp p).jobs)[i]?.map CtpJob.tag) = some k.tag.toNat then jobAppend s p i k
        else
          let s := jobsAdvance (modJob s p i (fun j => { j with complete := true, status := 6 })) p
          if kind = 5 ∧ !k.sop then ctpFree s p (ctpUnits k.data.length) else jobNew s p k
      | none => if kind = 5 ∧ !k.sop then ctpFree s p (ctpUnits k.data.length) else jobNew s p k

/-! ### Completions (R511) -/

/-- Data bytes of a packet (R512). -/
def ctpDataMax (s : State) (p : Fin 2) : Nat := if s.flag F.HST_PORT_CFG_JUMBO p then 8192 else 1024

/-- A completion packet of a job: `off` bytes have gone before. -/
def completionPacket (x : HostPort) (j : CtpJob) (off : Nat) (data : List Byte) (last : Bool) : CtpPacket :=
  { ctpBlank x 6 with sop := off == 0, eop := last, tag := BitVec.ofNat 9 j.tag, addr := BitVec.ofNat 50 j.addr,
                      len := BitVec.ofNat 21 j.len, status := if last then BitVec.ofNat 5 j.status else 0, offset := BitVec.ofNat 20 off,
                      info := if last then BitVec.ofNat 32 j.info else 0, data := data }

/-- The head of the queue leaves it. -/
def jobPop (s : State) (p : Fin 2) : State := jobsAdvance (s.modHost p (fun x => { x with jobs := x.jobs.drop 1 })) p

/-- The packet that the head of the queue would send next, by its data bytes; none where it is not ready (R511). -/
def headBytes (s : State) (p : Fin 2) : Option Nat :=
  match (s.hp p).jobs with
  | [] => none
  | j :: _ =>
    if j.kind = 8 then some j.reply.length
    else if j.executed then some (min (ctpDataMax s p) (j.reply.length - j.sent))
    else if j.kind = 4 ∧ j.dev = none ∧ j.started then some (min (ctpDataMax s p) (j.len - j.sent))
    else none

/-- The head of the queue sends its next packet, if it has credit (R511). A read takes the packet's data from its store then. -/
def completionSend (s : State) (p : Fin 2) : State :=
  match (s.hp p).jobs, headBytes s p with
  | j :: _, some k =>
    if !ctpMaySend s p k then s
    else
      let s := ctpQuiet s p
      if j.kind = 8 then jobPop (ctpSend s p { ctpBlank (s.hp p) 8 with data := j.reply } (ctpUnits k)) p
      else
        let (j, data, s) := if j.executed then (j, (j.reply.drop j.sent).take k, s)
          else
            let (st, info, l, s) := requestRun s (some p) 4 (j.addr % 2 ^ 40 + j.sent) k false []
            ({ j with status := if st = 0 then j.status else st, info := if st = 0 ∨ j.status ≠ 0 then j.info else j.sent + info }, l, s)
        let last := decide ((if j.executed then j.reply.length else j.len) ≤ j.sent + k)
        let s := ctpSend s p (completionPacket (s.hp p) j j.sent data last) (ctpUnits k)
        if last then jobPop s p else modJob s p 0 (fun x => { x with sent := x.sent + k, status := j.status, info := j.info })
  | _, _ => s

/-- CTP_CREDIT_WAIT counts a beat in which the head waited for credit (R511). -/
def creditWaitBeat (s : State) (p : Fin 2) : State :=
  match headBytes s p with
  | some k => if s.session p = 1 ∧ s.hostUp p ∧ !ctpMaySend s p k then s.count .CTP_CREDIT_WAIT p else s
  | none => s

/-! ### Fabric completions and requests (R475, R491, R492, R516, R517) -/

/-- A packet leaves the receiver. -/
def packetTaken (s : State) (k : KtlPacket) : State := modKtl s (fun x => { x with inPackets := x.inPackets.eraseP (fun e => e.2 = k) })

/-- A fabric completion of a host request. -/
def tunnelReply (s : State) (p : Fin 2) (k : KtlPacket) : State :=
  let tag := k.tag.toNat % 512
  match (s.hp p).jobs.findIdx? (fun j => j.dev == some k.src.toNat && j.tag == tag && j.accesses && j.started && !j.executed) with
  | none => s
  | some i => match ((s.hp p).jobs)[i]? with
    | none => s
    | some j => match j.missing.find? (fun x => decide ((j.addr + if j.fixed then 0 else x.1) % 2 ^ 40 = k.addr.toNat)) with
      | none => s
      | some part =>
        if k.status = 0 then
          let s := modJob s p i (fun j =>
            { j with missing := j.missing.erase part
                     reply := if isWriteKind j.kind then [] else j.reply.take part.1 ++ k.data ++ j.reply.drop (part.1 + k.data.length) })
          let s := match j.unsent with
            | [] => s
            | next :: rest => tunnelSend (modJob s p i (fun j => { j with unsent := rest })) p i j [next]
          match ((s.hp p).jobs)[i]? with
          | some j => jobsAdvance (if j.missing.isEmpty ∧ j.unsent.isEmpty ∧ !j.executed then jobDone s p i 0 0 j.reply else s) p
          | none => s
        else
          let code := if k.status = 3 then (k.data.headD 3).toNat else if k.status = 2 then 2 else 1
          jobsAdvance (jobDone s p i code part.1 []) p

/-- A fabric completion of a DMA burst (R546): the burst keeps it until it completes, and one other than OK is a cause for the descriptor to
end. -/
def dmaReply (s : State) (k : KtlPacket) : State :=
  let mine (p : DmaPart) : Bool := p.tag == k.tag.toNat && p.reply.isNone && decide (p.addr % 2 ^ 40 = k.addr.toNat)
  match s.dma.bursts.find? (fun b => b.parts.any mine) with
  | none => s
  | some b =>
    let s := { s with dma := { s.dma with bursts := s.dma.bursts.map (fun x =>
      { x with parts := x.parts.map (fun p => if mine p then { p with reply := some (k.status.toNat, k.data) } else p) }) } }
    let c : Fin 32 := toFin 32 b.ch
    if k.status = 0 then s else (dmaCause s c 9).setFld F.DMA_CH_STATUS_RSTATUS k.status.toNat c

/-- A fabric completion arrives at its device. -/
def tunnelCompletion (s : State) (k : KtlPacket) : State :=
  if k.kind ≠ 4 ∨ k.dest.toNat ≠ s.ownId ∨ !s.ktl.inPackets.any (fun e => e.2 = k) then s
  else
    let s := packetTaken s k
    if k.tag.toNat < 512 then tunnelReply s 0 k else if k.tag.toNat < 1024 then tunnelReply s 1 k else dmaReply s k

/-- A fabric completion has not arrived in time (R517). -/
def tunnelTimeout (s : State) (p : Fin 2) (tag : Nat) : State :=
  let tmo := max 1 (s.fld F.CTP_TUNNEL_TMO_TMO) * 25000
  match (s.hp p).jobs.findIdx? (fun j => j.dev.isSome && j.tag == tag && j.started && !j.executed && decide (j.askedAt + tmo ≤ s.now)) with
  | some i => jobsAdvance (jobDone s p i 1 (((((s.hp p).jobs)[i]?.bind (fun j => (j.missing.map Prod.fst).min?)).getD 0)) []) p
  | none => s

/-- A request from another device is executed as a local one and answered (R491, R492, R516). -/
def fabricRequest (s : State) (k : KtlPacket) : State :=
  let kind := k.kind.toNat + 2
  let st := requestStatus s kind k.addr.toNat k.len.toNat false k.data.length
  let (st, _, l, s) := if st ≠ 0 then (st, 0, [], s) else requestRun s none kind k.addr.toNat k.len.toNat false k.data
  let answer := if st = 0 then k.completion s.ownId 0 l else k.completion s.ownId 3 [BitVec.ofNat 8 st]
  (packetRoute s answer).1

/-- A control or bulk packet has arrived (R475, R484, R487): it goes on, or it is a request, or a completion, which waits for the unit that
asked; MGMT and STREAM packets are for the firmware. -/
def fabricPacket (s : State) (p : Fin 4) (k : KtlPacket) : State :=
  if (p.val, k) ∉ s.ktl.inPackets then s
  else
    let s := modKtl s (fun x => { x with inPackets := x.inPackets.erase (p.val, k) })
    if k.dest.toNat ≠ s.ownId then packetForward s k
    else if 6 < k.kind.toNat then s.count .KTL_TTL_DROP
    else if k.request then fabricRequest s k
    else if k.kind = 4 then modKtl s (fun x => { x with inPackets := x.inPackets ++ [(4, k)] })
    else s

/-! ### Commands for the firmware (R700) -/

/-- INFO of BUSY: the firmware's estimate in µs, at least 1,000 (R700). -/
def busyInfo (s : State) : Nat := 1000 + Config.openValue 37 s.now % (2 ^ 32 - 1000)

/-- The outcome of a SERVICE command on arrival: STATUS and INFO, the data, whether it waits and for which slices, and the state. -/
def serviceRun (s : State) (code : Nat) : Nat × Nat × List Byte × Option (List (Fin 16)) × State :=
  if code = 1 then
    (0, 0, wordsToBytes [(s.rd .BOOT_FW_VER).toNat, (s.rd .MGT_LOAD).toNat, (s.rd .MGT_STATUS).toNat], none, s)
  else if s.flag F.MGT_STATUS_SHED then (12, busyInfo s, [], none, s)
  else if code = 2 then if swapAccepts s then (0, 0, [], none, swap s) else (3, 0, [], none, swap s)
  else if code = 3 then (0, 0, [], some [], saveKinds s (List.range 17))
  else if code = 4 then
    let l := allSlices.filter (fgAllowed s)
    (0, 0, [], if l.isEmpty then none else some l, l.foldl fgStart s)
  else (3, 0, [], none, s)

/-- A SERVICE packet arrives. `code` is the row's CODE; INFO also takes the codes that R700 does not define. -/
def serviceTake (s : State) (p : Fin 2) (k : CtpPacket) (code : Nat) : State :=
  let given := numAt k.data 0 2
  if !ctpWaits s p k 9 ∨ ¬(given = code ∨ (code = 1 ∧ ¬(1 ≤ given ∧ given ≤ 4))) then s
  else match ctpAccept (ctpTake s p k) p k with
    | (s, false) => s
    | (s, true) =>
      let s := ctpFree s p (ctpUnits k.data.length)
      let s := match openWrite s p with
        | some i => jobsAdvance (modJob s p i (fun j => { j with complete := true, status := 6 })) p
        | none => s
      if k.tag.toNat ∈ (s.hp p).tags then s.count .CTP_TAG_ERR p
      else
        let bad := match ctpTarget s k with
          | none => 1
          | some (some _) => 13
          | some none => if k.data.length ≠ 8 ∨ !k.sop ∨ !k.eop then 6 else 0
        let (st, info, l, waits, s) := if bad ≠ 0 then (bad, 0, [], none, s) else serviceRun s given
        let j : CtpJob := { CtpJob.ready 9 k.tag.toNat l with
          dev := ((ctpTarget s k).getD none), addr := k.addr.toNat, len := k.len.toNat, status := st, info := info,
          executed := waits.isNone, service := given, slices := waits.getD [] }
        s.modHost p (fun x => { x with jobs := x.jobs ++ [j], tags := x.tags ++ [k.tag.toNat] })

/-- Every SERVICE command of a kind that waits ends. -/
def serviceEnd (s : State) (ends : State → CtpJob → Option (Nat × Nat)) : State :=
  (List.finRange 2).foldl (fun s p => s.modHost p (fun x => { x with jobs := x.jobs.map (fun j =>
    if j.kind = 9 ∧ !j.executed then
      (match ends s j with
       | some (st, info) => { j with executed := true, status := st, info := info }
       | none => j)
    else j) })) s

/-- What a boundary does for them: cores that do not run leave them BUSY (R702), a FG_ALL ends once its runs have ended. -/
def serviceBeat (s : State) : State :=
  if (List.finRange 2).all (fun p => (s.hp p).jobs.all (fun j => j.kind != 9 || j.executed)) then s
  else serviceEnd s (fun s j =>
    if !coresRunning s then some (12, busyInfo s)
    else if j.service = 4 ∧ j.slices.all (fun n => s.fld F.CAL_FG_STATUS_STATE n == 0) then
      some (0, ((j.slices.filter (fun (n : Fin 16) => s.fld F.CAL_FG_STATUS_RESULT n == 0)).map (fun (n : Fin 16) => 2 ^ n.val)).sum)
    else none)

/-- VAULT_SAVE_END: where it ends the save, the SAVE commands that wait end too (R630, R700). -/
def vaultSaveEnd (s : State) (ok0 ok1 : Bool) : State :=
  let was := s.cal.saving.isEmpty
  let s := vaultSave s ok0 ok1
  if was ∨ !s.cal.saving.isEmpty then s
  else serviceEnd s (fun _ j => if j.service = 3 then some (if ok0 && ok1 then (0, 0) else (3, 1)) else none)

/-! ### The commands -/

def execRegRd (p : Fin 2) (packet : CtpPacket) (s : State) : Result := .next (requestTake s p packet 2)
def execRegWr (p : Fin 2) (packet : CtpPacket) (s : State) : Result := .next (requestTake s p packet 3)
def execMemRd (p : Fin 2) (packet : CtpPacket) (s : State) : Result := .next (requestTake s p packet 4)
def execMemWr (p : Fin 2) (packet : CtpPacket) (s : State) : Result := .next (requestTake s p packet 5)
def execTunnelCompletion (packet : KtlPacket) (s : State) : Result := .next (tunnelCompletion s packet)
def execTunnelTimeout (p : Fin 2) (tag : BitVec 9) (s : State) : Result := .next (tunnelTimeout s p tag.toNat)
def execCompletionSend (p : Fin 2) (s : State) : Result := .next (completionSend s p)
def execFabricPacketRx (p : Fin 4) (packet : KtlPacket) (s : State) : Result := .next (fabricPacket s p packet)
def execInfo (p : Fin 2) (packet : CtpPacket) (s : State) : Result := .next (serviceTake s p packet 1)
def execServiceSwap (p : Fin 2) (packet : CtpPacket) (s : State) : Result := .next (serviceTake s p packet 2)
def execServiceSave (p : Fin 2) (packet : CtpPacket) (s : State) : Result := .next (serviceTake s p packet 3)
def execFgAll (p : Fin 2) (packet : CtpPacket) (s : State) : Result := .next (serviceTake s p packet 4)
def execVaultSaveEnd (ok0 ok1 : Bool) (s : State) : Result := .next (vaultSaveEnd s ok0 ok1)

end Sys2Proof.Machine
end

