-- ==== Sys2Proof/Machine/DmaBursts.lean ====
section
/-!
DEFINITION. The bursts of the DMA engine: which channel is granted one and what it moves (R534, R535, R538 to R545).
-/

namespace Sys2Proof.Machine

/-! ### Operations (R540) -/

/-- The source bytes that destination byte `i` of a descriptor takes: offset, and for TRANSPOSE the bit within it, in the order of the
bits of the destination byte. COPY counts from the burst. -/
def DmaDesc.sources (d : DmaDesc) (off i : Nat) : List (Nat × Nat) :=
  match d.op with
  | 0 => [(i - off, 0)]
  | 2 =>
    let row := d.planeCount / 8
    let g := d.group
    let j := i % g / row
    (List.range 8).map (fun t => (i / g * g + ((i % row) * 8 + t) * row + j / 8, j % 8))
  | 3 =>
    let g := d.group
    let m := i % g / d.esize
    [(i / g * g + m % d.streamCount * d.span + m / d.streamCount * d.esize + i % d.esize, 0)]
  | 4 =>
    let g := d.group
    let r := i % g
    [(i / g * g + (r % d.span / d.esize * d.streamCount + r / d.span) * d.esize + i % d.esize, 0)]
  | _ => []

/-- The offsets of the source bytes that a burst needs, ascending. -/
def burstNeeds (d : DmaDesc) (b : DmaBurst) : List Nat :=
  (sortBy (fun x y : Nat => decide (x ≤ y)) ((List.range b.len).flatMap (fun k => (d.sources b.off (b.off + k)).map Prod.fst))).dedup

/-- Ascending offsets as runs: start and number. -/
def runsOf : List Nat → List (Nat × Nat)
  | [] => []
  | a :: t => match runsOf t with
    | (b, k) :: rest => if b = a + 1 then (a, k + 1) :: rest else (a, 1) :: (b, k) :: rest
    | [] => [(a, 1)]

/-- The destination bytes of a burst from its source bytes; none for a byte whose source is poisoned or did not come. -/
def burstBytes (d : DmaDesc) (b : DmaBurst) (src : List (Nat × Option Byte)) : List (Option Byte) :=
  let at_ (o : Nat) : Option Byte := (src.find? (fun x => x.1 == o)).bind Prod.snd
  (List.range b.len).map (fun k =>
    let i := b.off + k
    match d.op with
    | 1 => some (BitVec.ofNat 8 (d.pattern / 2 ^ (8 * (i % 8)) % 256))
    | 2 =>
      let l := (d.sources b.off i).map (fun x => (at_ x.1).map (fun v => v.getLsbD x.2))
      if l.all Option.isSome then some (BitVec.ofNat 8 (l.zipIdx.map (fun x => bit01 (x.1.getD false) * 2 ^ x.2)).sum) else none
    | _ => match d.sources b.off i with
      | (o, _) :: _ => at_ o
      | [] => none)

/-! ### Local ends -/

/-- Source bytes of a local endpoint, one run after another (R36, R534). A register region is read word by word, a bound queue through its
window from the base upward (R542). -/
def localRead (s : State) (c : Fin 32) (d : DmaDesc) (b : DmaBurst) : List (Nat × Option Byte) × Bool × State :=
  (runsOf (burstNeeds d b)).foldl (fun (x : List (Nat × Option Byte) × Bool × State) run =>
    let (got, poisoned, s) := x
    let a := (b.src + run.1) % 2 ^ 40
    match regionOf a with
    | none => x
    | some (r, o) => match r.storeId with
      | some id =>
        if !s.storeOn id then x
        else
          let (l, bad, s) := rangeRead s id o run.2
          (got ++ l.zipIdx.map (fun v => (run.1 + v.2, if (o + v.2) / 8 ∈ bad then none else some v.1)), poisoned || !bad.isEmpty, s)
      | none =>
        let base := if (dmaBound s c).isSome then a else a - a % 4
        let (l, s) := wordsRead s base ((a % 4 + run.2 + 3) / 4) false
        (got ++ ((l.drop (a - base)).take run.2).zipIdx.map (fun v => (run.1 + v.2, some v.1)), poisoned, s)) ([], false, s)

/-- The destination bytes that are written: those of a word with a source that is poisoned or missing are not (R546). -/
def cleanBytes (a word : Nat) (l : List (Option Byte)) : List (Nat × Byte) :=
  let bad := (l.zipIdx.filter (fun x => x.1.isNone)).map (fun x => (a + x.2) / word)
  l.zipIdx.filterMap (fun x => if (a + x.2) / word ∈ bad then none else x.1.map (fun v => (x.2, v)))

/-- The bytes of one piece are written to a store line; the answer says whether the read-modify-write went through. -/
def burstWriteLine (s : State) (id : StoreId) (o : Nat) (data : List Byte) : State × Bool :=
  let (s, bad) := pathWrite s 3 id o data
  (s, bad.isNone)

/-- Bytes of a burst go to a store, run by run and line by line: the number written, and whether a read-modify-write failed (R37). -/
def burstToStore (s : State) (id : StoreId) (o : Nat) (l : List (Nat × Byte)) : Nat × Bool × State :=
  let pieces := (runsOf (l.map Prod.fst)).flatMap (fun run =>
    let first := (o + run.1) / 128
    (List.range ((o + run.1 + run.2 - 1) / 128 - first + 1)).map (fun k =>
      let from_ := max (o + run.1) ((first + k) * 128)
      (from_, min (o + run.1 + run.2) ((first + k + 1) * 128) - from_)))
  pieces.foldl (fun (x : Nat × Bool × State) p =>
    let data := (l.filter (fun y => decide (p.1 ≤ o + y.1) && decide (o + y.1 < p.1 + p.2))).map Prod.snd
    let (s, ok) := burstWriteLine x.2.2 id p.1 data
    (if ok then x.1 + p.2 else x.1, x.2.1 || !ok, s)) (0, false, s)

/-- Words of a burst go to registers (R23, R535): the number of bytes, whether R69 reports one, and the state. -/
def burstToRegs (s : State) (a : Nat) (l : List (Nat × Byte)) : Nat × Bool × State :=
  ((l.map Prod.fst).filter (fun k => (a + k) % 4 = 0)).foldl (fun (x : Nat × Bool × State) k =>
    let data := (l.filter (fun y => decide (k ≤ y.1) && decide (y.1 < k + 4))).map Prod.snd
    let (s, reported) := regWrite x.2.2 .dma none (a + k) (BitVec.ofNat 32 (ofBytes data))
    (x.1 + 4, x.2.1 || reported, s)) (0, false, s)

/-- Bytes of a burst go to its local destination: the number written, whether a read-modify-write failed, whether R69 reports a word. -/
def burstWrite (s : State) (b : DmaBurst) (l : List (Option Byte)) : Nat × Bool × Bool × State :=
  match regionOf (b.dst % 2 ^ 40) with
  | none => (0, false, false, s)
  | some (r, o) => match r.storeId with
    | some id =>
      if !s.storeOn id then (0, false, false, s)
      else
        let (n, bad, s) := burstToStore s id o (cleanBytes (b.dst % 2 ^ 40) 8 l)
        (n, bad, false, s)
    | none =>
      let (n, locked, s) := burstToRegs s (b.dst % 2 ^ 40) (cleanBytes (b.dst % 2 ^ 40) 4 l)
      (n, false, locked, s)

/-! ### The grant (R538, R539, R541, R543, R544) -/

/-- A channel has a burst ready and room for it (R539). -/
def dmaReady (s : State) (c : Fin 32) : Bool :=
  let x := s.dmaCh c
  decide (s.dmaState c = DmaSt.active) && x.ending.isNone && (match x.desc with | some d => decide (x.granted < d.len) | none => false) &&
    decide ((dmaBursts s c).length < 4) && !dmaPaced s c

/-- The channel whose turn it is (R539): the highest PRIO, then round robin. -/
def dmaTurn (s : State) : Option (Fin 32) :=
  let l := (List.finRange 32).filter (dmaReady s)
  let top := (l.map (fun c => s.fld F.DMA_CH_CFG_PRIO c)).max?
  let order : List (Fin 32) := (List.finRange 32).map (fun k => ⟨(s.dma.turn + k.val) % 32, by omega⟩)
  order.find? (fun c => decide (c ∈ l) && some (s.fld F.DMA_CH_CFG_PRIO c) == top)

/-- The entry of the index table for a block, and whether it came poisoned (R541). -/
def indexEntry (s : State) (d : DmaDesc) (k : Nat) : Nat × Bool × State :=
  let (l, bad, s) := rangeRead s .central (d.idxBase + 4 * k) 4
  (ofBytes l, !bad.isEmpty, s)

/-- A block leaves its endpoint's region or breaks its alignment (R534, R541). -/
def blockBad (s : State) (a : Nat) (loc : Bool) (idx len : Nat) : Bool :=
  match regionOf (a % 2 ^ 40), rangeIn (a % 2 ^ 40 + idx) len with
  | some (r, _), some (r', o) =>
    decide (r ≠ r') || (r.isRegs && (!localEnd s a loc || decide (o % 4 ≠ 0) || decide (len % 4 ≠ 0)))
  | _, _ => true

/-- A local endpoint's store is not ON (R539). -/
def endAsleep (s : State) (a : Nat) (loc : Bool) : Bool :=
  match localRegion s a loc with
  | some (r, _) => (match r.storeId with | some id => !s.storeOn id | none => false)
  | none => false

/-- A local endpoint's slice lies between D and R of a live reload (R89). -/
def endReloads (s : State) (a : Nat) (loc : Bool) : Bool :=
  match localRegion s a loc with
  | some (.sliceStore n, _) | some (.sliceRegs n, _) => reloadHolds s n
  | _ => false

/-- The burst that a channel's turn brings, or the STATUS that ends the descriptor instead. -/
def dmaNext (s : State) (c : Fin 32) (d : DmaDesc) : (DmaBurst ⊕ Nat) × State :=
  let off := (s.dmaCh c).granted
  let len := dmaLength s c d
  if endReloads s d.dst d.dstLocal || (decide (d.op ≠ 1) && endReloads s d.src d.srcLocal) then (.inr 5, s)
  else if endAsleep s d.dst d.dstLocal || (decide (d.op ≠ 1) && endAsleep s d.src d.srcLocal) then (.inr 4, s)
  else
    match if d.vwp then (match dmaRing d with
        | some (n, o) => if inRing s n (ringByte s n o off / 128) then some (0x100000000 + n.val * 0x400000 + ringByte s n o off) else none
        | none => none)
      else some (d.dst + off) with
    | none => (.inr 8, s)
    | some dst =>
      let src := if d.op = 0 ∧ (dmaBound s c).isNone then d.src + off else d.src
      let b : DmaBurst := { ch := c, off := off, len := len, src := src, dst := dst, parts := [] }
      if !(d.idxSrc || d.idxDst) then (.inl b, s)
      else if !s.storeOn .central then (.inr 4, s)
      else
        let (idx, poisoned, s) := indexEntry s d (off / d.block)
        let a := idx + off % d.block
        if poisoned then (.inr 6, s)
        else if d.idxSrc then (if blockBad s d.src d.srcLocal idx d.block then .inr 8 else .inl { b with src := d.src + a }, s)
        else if blockBad s d.dst d.dstLocal idx d.block then (.inr 8, s)
        else (.inl { b with dst := d.dst + a }, s)

/-- The fabric packet of a part of a burst (R491, R492, R534). -/
def burstPacket (s : State) (dev : Nat) (p : DmaPart) (data : Option (List Byte)) : KtlPacket :=
  { bulk := true, dest := BitVec.ofNat 10 dev, src := BitVec.ofNat 10 s.ownId, kind := if data.isSome then 3 else 2, ttl := 63, down := false,
    tag := BitVec.ofNat 16 p.tag, addr := BitVec.ofNat 40 p.addr, len := BitVec.ofNat 11 p.len, status := 0, data := data.getD [] }

/-- The parts of a burst leave (R534): each with its address, its number of bytes and the data of a write. The first that finds no way ends
the descriptor. -/
def burstSend (s : State) (c : Fin 32) (dev : Nat) (l : List (Nat × Nat × Option (List Byte))) : List DmaPart × State :=
  l.foldl (fun (x : List DmaPart × State) (e : Nat × Nat × Option (List Byte)) =>
    let s := x.2
    let k := ((s.dmaCh c).tagNo + 1) % 256
    let s := s.modDma c (fun y => { y with tagNo := k })
    let p : DmaPart := { tag := 1024 + c.val * 256 + k, sentAt := s.now, addr := e.1, len := e.2.1, reply := none }
    let (s, ok) := packetRoute s (burstPacket s dev p e.2.2)
    if ok then (x.1 ++ [p], s)
    else (x.1 ++ [{ p with reply := some (1, []) }], (dmaCause s c 9).setFld F.DMA_CH_STATUS_RSTATUS 1 c)) ([], s)

/-- A granted burst with a remote end sends its packets: the reads of a remote source, or the writes of a remote destination, whose source is
read first (R534, R546). -/
def burstLaunch (s : State) (c : Fin 32) (d : DmaDesc) (b : DmaBurst) : DmaBurst × State :=
  if d.op ≠ 1 ∧ !localEnd s d.src d.srcLocal then
    let (parts, s) := burstSend s c (d.src / 2 ^ 40) ((runsOf (burstNeeds d b)).map (fun r => ((b.src + r.1) % 2 ^ 40, r.2, none)))
    ({ b with parts := parts }, s)
  else if !localEnd s d.dst d.dstLocal then
    let (src, poisoned, s) := if d.op = 1 then ([], false, s) else localRead s c d b
    let s := if poisoned then dmaCause s c 6 else s
    let l := cleanBytes (b.dst % 2 ^ 40) 8 (burstBytes d b src)
    let packets := (runsOf (l.map Prod.fst)).map (fun r =>
      ((b.dst + r.1) % 2 ^ 40, r.2, some ((l.filter (fun y => decide (r.1 ≤ y.1) && decide (y.1 < r.1 + r.2))).map Prod.snd)))
    let (parts, s) := burstSend s c (d.dst / 2 ^ 40) packets
    ({ b with parts := parts }, s)
  else (b, s)

/-- The engine grants at most one burst (R539). -/
def burstGrant (s : State) : State :=
  if 16 ≤ s.dma.bursts.length then s
  else match dmaTurn s with
    | none => s
    | some c => match (s.dmaCh c).desc with
      | none => s
      | some d => match dmaNext s c d with
        | (.inr st, s) => dmaCause s c st
        | (.inl b, s) =>
          let s := s.modDma c (fun x => { x with granted := x.granted + b.len, flush := false })
          let s := { s with dma := { s.dma with turn := (c.val + 1) % 32 } }
          let (b, s) := burstLaunch s c d b
          { s with dma := { s.dma with bursts := s.dma.bursts ++ [b] } }

/-- DMA_BURST_GRANT. -/
def execDmaBurstGrant (s : State) : Result := .next (burstGrant s)

/-! ### The end of a burst (R535, R538, R542, R544, R545) -/

/-- The source bytes that came for a remote source. -/
def remoteBytes (b : DmaBurst) : List (Nat × Option Byte) :=
  b.parts.flatMap (fun p => match p.reply with
    | some (0, l) => l.zipIdx.map (fun x => ((p.addr + 2 ^ 40 - b.src % 2 ^ 40) % 2 ^ 40 + x.2, some x.1))
    | _ => [])

/-- What a burst writes: the bytes written, and the state with the causes that arose. -/
def burstMove (s : State) (c : Fin 32) (d : DmaDesc) (b : DmaBurst) : Nat × State :=
  if !localEnd s d.dst d.dstLocal then
    (((b.parts.filter (fun p => match p.reply with | some (0, _) => true | _ => false)).map DmaPart.len).sum, s)
  else
    let (src, poisoned, s) := if d.op = 1 then ([], false, s)
      else if localEnd s d.src d.srcLocal then localRead s c d b else (remoteBytes b, false, s)
    let s := if poisoned then dmaCause s c 6 else s
    let (n, bad, locked, s) := burstWrite s b (burstBytes d b src)
    let s := if bad then dmaCause s c 6 else s
    let s := if locked then (s.modDma c (fun x => { x with locked := true })).setFlag F.DMA_CH_STATUS_LOCKED true c else s
    (n, s)

/-- A VWP burst advances the ring (R544, R667). -/
def burstAdvance (s : State) (d : DmaDesc) (b : DmaBurst) : State :=
  match dmaRing d with
  | some (n, _) =>
    let k := s.fld F.VEC_RING_LINES_LINES n
    let s := journalAdvance s n (b.len / 128)
    if k = 0 then s else ringAdvance s n ((s.fld F.VEC_RING_WP_OFFSET n + b.len / 128) % k)
  | none => s

/-- The oldest burst of a channel completes, once every packet it sent has its completion (R538, R545). -/
def burstDone (s : State) (c : Fin 32) : State :=
  match dmaBursts s c, (s.dmaCh c).desc with
  | b :: _, some d =>
    if b.parts.any (fun p => p.reply.isNone) then s
    else
      let s := { s with dma := { s.dma with bursts := s.dma.bursts.erase b } }
      let (n, s) := burstMove s c d b
      let s := s.modDma c (fun x => { x with written := x.written + n })
      let s := dmaShow (s.pairAdd .DMA_CH_BYTES_LO .DMA_CH_BYTES_HI n c) c
      if d.vwp then burstAdvance s d b else s
  | _, _ => s

/-- DMA_BURST_DONE. -/
def execDmaBurstDone (c : Fin 32) (s : State) : Result := .next (burstDone s c)

/-- DMA_CH_WAIT counts the beats of every channel in WAIT or ADMIT (R552). -/
def dmaWaitBeat (s : State) : State :=
  (List.finRange 32).foldl (fun s c =>
    if s.dmaState c = DmaSt.admission ∨ dmaWaits s c then s.count .DMA_CH_WAIT c else s) s

end Sys2Proof.Machine
end

