-- ==== Sys2Proof/Machine/Side.lean ====
section
/-!
DEFINITION. The side port: frames, replies and streams (R554 to R566), and the registers of the Pewter window (R572 to R580).
-/

namespace Sys2Proof.Machine

def modSide (s : State) (f : SidePort → SidePort) : State := { s with side := f s.side }

/-! ### Addresses (R557, R562) -/

/-- The device address of a word address on the present page. -/
def sideAddress (s : State) (a : Nat) : Nat := s.fld F.SIDE_PAGE_PAGE * 2 ^ 26 + a * 4

/-- The blocks of the global region: base and span (R526). -/
def globalSpans : List (Nat × Nat) :=
  [(0, 0x1000), (0x1000, 0x1000), (0x2000, 0x1000), (0x3000, 0x1000), (0x4000, 0x1000), (0x5000, 0x1000), (0x6000, 0x1000), (0x7000, 0x1000),
   (0x8000, 0x4000), (0xC000, 0x4000), (0x10000, 0x4000), (0x14000, 0x1000), (0x15000, 0x1000), (0x16000, 0x1000), (0x17000, 0x1000),
   (0x18000, 0x8000), (0x20000, 0x10000), (0x30000, 0x4000), (0x34000, 0x1000), (0x35000, 0x1000), (0x36000, 0x1000)]

/-- The blocks of a slice region: base and span (R527). -/
def sliceSpans : List (Nat × Nat) :=
  [(0, 0x1000), (0x2000, 0x2000), (0x4000, 0x1000), (0x5000, 0x1000), (0x6000, 0x1000), (0x7000, 0x1000), (0x8000, 0x1000), (0x9000, 0x1000),
   (0xA000, 0x1000), (0xB000, 0x1000), (0xC000, 0x1000), (0x10000, 0x10000), (0x80000, 0x80000)]

/-- The end of the block whose span holds an offset; the offset itself where it lies between blocks. -/
def spanEnd (l : List (Nat × Nat)) (o : Nat) : Nat :=
  match l.find? (fun b => decide (b.1 ≤ o) && decide (o < b.1 + b.2)) with
  | some b => b.1 + b.2
  | none => o

/-- The address at which stepping from `a` ends: the end of its block or of its store region (R562). -/
def stepEnd (a : Nat) : Nat :=
  match regionOf a with
  | some (.globalRegs, o) => a - o + spanEnd globalSpans o
  | some (.sliceRegs _, o) => a - o + spanEnd sliceSpans o
  | some (.sliceStore _, o) => a - o + 0x300000
  | some (.central, o) => a - o + 0x1000000
  | none => a

/-- The block of an address is one of those that the port serves before Invar locks (R566): SIDE, INV and BOOT. -/
def earlyBlock (a : Nat) : Bool := a / 0x1000 == 0x15 || a / 0x1000 == 4 || a / 0x1000 == 0x35

/-! ### Replies (R556, R560) -/

/-- The reply on SIDE_MISO. -/
def SideReply.bits (r : SideReply) : BitVec 64 := BitVec.ofNat 64 (r.code % 2 ^ 5 * 2 ^ 56 + r.addr % 2 ^ 24 * 2 ^ 32 + r.data % 2 ^ 32)

/-- A code alone. -/
def sideCode (c : Nat) : SideReply := { code := c, addr := 0, data := 0 }

/-- The word address of a device address as a reply holds it. -/
def wordAddress (a : Nat) : Nat := a / 4 % 2 ^ 24

/-- A frame begins: its mode, and the reply to the frame before, or CODE 10 where a read has not finished (R554, R556, R563). -/
def sideBegin (s : State) (f : SideFrame) : State :=
  let late := f.late && s.side.reading
  let s := s.setFlag F.SIDE_STATUS_MODE3 f.mode3
  let s := if late then s.setFlag F.SIDE_STATUS_LATE true else s
  let out := if late then { s.side.reply with code := 10, data := 0 } else s.side.reply
  modSide s (fun x => { x with miso := out.bits, reading := false })

/-- A frame ends with a reply; SIDE_FRAMES counts the frames that acted. -/
def sideReply (s : State) (r : SideReply) : State :=
  let s := modSide s (fun x => { x with reply := r })
  if r.code = 0 ∨ r.code = 5 ∨ r.code = 9 then s.count .SIDE_FRAMES else s

/-- A frame with a wrong edge count (R559). -/
def sideAborted (s : State) : State := sideReply (s.bump F.SIDE_STATUS_FRAME_ERR 1) (sideCode 2)

/-- Invar has locked (R566). -/
def sideReady (s : State) : Bool := s.flag F.INV_STATUS_LOCK

/-- A register-class frame (R558, R559): a wrong edge count has no effect; else the command acts and answers. While a stream runs, and in
reset (R681), no frame begins. -/
def sideFrame (s : State) (f : SideFrame) (act : State → SideReply × State) : State :=
  if s.inReset || s.side.stream.isSome then s
  else
    let s := sideBegin s f
    if f.edges ≠ 64 then sideAborted s
    else
      let (r, s) := act s
      sideReply s r

/-! ### NOP, REPLAY and PAGE -/

/-- NOP, or an undefined command (R558, R560). -/
def sideNop (bad : Bool) (s : State) : SideReply × State := (sideCode (if bad then (if sideReady s then 3 else 14) else 1), s)

/-- REPLAY (R563). -/
def sideReplay (s : State) : SideReply × State := (s.side.lastRead.getD (sideCode 1), s)

/-- PAGE (R558). -/
def sidePage (f : SideFrame) (s : State) : SideReply × State :=
  let v := f.data.toNat
  if v < 2 ^ 14 then (sideCode 0, s.setFld F.SIDE_PAGE_PAGE v) else (sideCode 4, s)

/-! ### RD and RDN (R558, R562, R563) -/

/-- A read of the word at a device address: a register or a store. -/
def sideReadAt (s : State) (a : Nat) : SideReply × State :=
  let done (s : State) (code data : Nat) : SideReply × State :=
    let r : SideReply := { code := code, addr := wordAddress a, data := data }
    (r, modSide s (fun x => { x with lastRead := some r, stepRead := some a, reading := true }))
  match regionOf a with
  | none => (sideCode 4, s)
  | some (r, o) => match r.storeId with
    | none =>
      let s := regRead s a
      done s 0 s.readValue.toNat
    | some id =>
      if (match id with | .slice n => reloadHolds s n | .central => false) then (sideCode 6, s)
      else if !s.storeOn id then (sideCode 7, s)
      else
        let (l, bad, s) := rangeRead s id o 4
        if bad.isEmpty then done s 0 (ofBytes l) else done s 9 0

/-- RD. -/
def sideRd (f : SideFrame) (s : State) : SideReply × State :=
  let a := sideAddress s f.addr.toNat
  if !sideReady s ∧ !earlyBlock a then (sideCode 14, s) else sideReadAt s a

/-- RDN. -/
def sideRdn (s : State) : SideReply × State :=
  match s.side.stepRead with
  | none => (sideCode 4, s)
  | some last =>
    if !sideReady s ∧ !earlyBlock last then (sideCode 14, s)
    else if stepEnd last ≤ last + 4 then (sideCode 11, s.setFlag F.SIDE_STATUS_PAST_END true)
    else sideReadAt s (last + 4)

/-! ### WR and WRN (R558, R561, R562) -/

/-- A write of a register by the side port: CODE 0, 5 where R69 reports it, 6 for a slice between D and R. -/
def sideRegWrite (s : State) (a : Nat) (v : Word) : Nat × State :=
  match regionOf a with
  | some (.sliceRegs n, _) =>
    if reloadHolds s n then (6, s)
    else
      let (s, reported) := regWrite s .side none a v
      (if reported then 5 else 0, s)
  | some (.globalRegs, _) =>
    let (s, reported) := regWrite s .side none a v
    (if reported then 5 else 0, s)
  | _ => (4, s)

/-- A write of the register word at a device address, as a frame. -/
def sideWriteAt (s : State) (a : Nat) (v : Word) : SideReply × State :=
  let (code, s) := sideRegWrite s a v
  if code = 0 ∨ code = 5 then ({ code := code, addr := wordAddress a, data := 0 }, modSide s (fun x => { x with stepWrite := some a }))
  else (sideCode code, s)

/-- Before a write: the causes that come before its address (R560). -/
def sideWritable (s : State) : Option Nat :=
  if !sideReady s then some 14 else if !s.flag F.SIDE_CFG_WR_EN then some 12 else none

/-- WR. -/
def sideWr (f : SideFrame) (s : State) : SideReply × State :=
  match sideWritable s with
  | some c => (sideCode c, s)
  | none => sideWriteAt s (sideAddress s f.addr.toNat) f.data

/-- WRN. -/
def sideWrn (f : SideFrame) (s : State) : SideReply × State :=
  match sideWritable s with
  | some c => (sideCode c, s)
  | none => match s.side.stepWrite with
    | none => (sideCode 4, s)
    | some last =>
      if stepEnd last ≤ last + 4 then (sideCode 11, s.setFlag F.SIDE_STATUS_PAST_END true) else sideWriteAt s (last + 4) f.data

/-! ### Streams (R564, R565) -/

/-- The end of the region that a stream into a store may fill: the management reservation is not part of it (R560, R564). -/
def streamEnd (a : Nat) : Nat :=
  match regionOf a with
  | some (.central, o) => a - o + 0xE00000
  | _ => stepEnd a

/-- What stops a write of a store word (R560): 4, 6, 7 or 8. -/
def storeStop (s : State) (a : Nat) : Option Nat :=
  match regionOf a with
  | some (r, o) => match r.storeId with
    | none => some 4
    | some id =>
      if (match id with | .slice n => reloadHolds s n | .central => false) then some 6
      else if !s.storeOn id then some 7
      else if id = .central ∧ 0xE00000 ≤ o then some 8
      else none
  | none => some 4

/-- A stream frame ends (R560, R564, R565). -/
def streamFinish (s : State) (x : SideStream) : State :=
  let s := if x.leftover then s.setFlag F.SIDE_STATUS_PARTIAL true else s
  let code := match x.stop with
    | some 16 => if x.leftover then 15 else 16
    | some c => c
    | none => if x.leftover then 15 else 0
  let s := modSide s (fun y => { y with stream := none, reply := { code := code, addr := wordAddress x.first, data := x.written } })
  s.count .SIDE_FRAMES

/-- The 32nd edge of a stream frame arrives: it is checked once (R559, R564). `start` is its first address, none where STRMN has no stepping
address; `stepping` says that the command is STRMN. -/
def streamBegin (s : State) (f : SideFrame) (stepping : Bool) (start : State → Option Nat) : State :=
  if s.inReset || s.side.stream.isSome then s
  else
    let s := sideBegin s f
    if f.edges < 32 then sideAborted s
    else match sideWritable s with
      | some c => sideReply s (sideCode c)
      | none => match start s with
        | none => sideReply s (sideCode 4)
        | some a =>
          if stepping ∧ streamEnd (a - 4) ≤ a then sideReply (s.setFlag F.SIDE_STATUS_PAST_END true) (sideCode 11)
          else match storeStop s a with
            | some c => sideReply s (sideCode c)
            | none =>
              let x : SideStream := { first := a, next := a, left := (f.edges - 32) / 32, leftover := f.edges % 32 != 0, written := 0, stop := none }
              if x.left = 0 then streamFinish s x else modSide s (fun y => { y with stream := some x })

/-- Words that wait go into the store in order (R564): MG accesses (R561). -/
def streamDrain (s : State) : State :=
  let s' := s.side.fifo.foldl (fun s w => match regionOf w.1 with
    | some (r, o) => (match r.storeId with
      | some id => if s.storeOn id then (pathWrite s 1 id o (toBytes 4 w.2)).1 else s
      | none => s)
    | none => s) s
  if s.side.fifo.isEmpty then s else modSide s' (fun x => { x with fifo := [] })

/-- A data word of a stream completes (R564, R565). -/
def streamWord (s : State) (w : Nat) (stalled : Bool) : State :=
  match s.side.stream with
  | none => s
  | some x =>
    let stop := match x.stop with
      | some c => some c
      | none => if streamEnd x.first ≤ x.next then some 11
        else match storeStop s x.next with
          | some c => some c
          | none => if 1024 ≤ s.side.fifo.length ∧ stalled then some 16 else none
    let s := if stop = some 16 ∧ x.stop.isNone then s.setFlag F.SIDE_STATUS_OVF true else s
    let (s, x) := if stop.isSome then (s, { x with stop := stop, left := x.left - 1 })
      else
        let s := modSide s (fun y => { y with fifo := y.fifo ++ [(x.next, w)], stepStream := some x.next })
        (s.count .SIDE_WORDS, { x with next := x.next + 4, written := x.written + 1, left := x.left - 1 })
    let s := if stalled then s else streamDrain s
    if x.left = 0 then streamFinish s x else modSide s (fun y => { y with stream := some x })

/-! ### The Pewter registers (R575 to R580) -/

/-- The slice and the local pin of a forerunner pin (R575). -/
def pewterPin (p : Nat) : Fin 16 × Nat := (⟨p / 32 % 2, by omega⟩, p % 32)

/-- Writes of the window reach the device as register writes of the side port (R574); the CODE of the first that is not OK stands. -/
def pewterWrites (s : State) (l : List (RegKey × Nat)) : Nat × State :=
  l.foldl (fun (x : Nat × State) w =>
    let (code, s) := sideRegWrite x.2 w.1.address (BitVec.ofNat 32 w.2)
    (if x.1 = 0 then code else x.1, s)) (0, s)

/-- The same key of slices 0 and 1. -/
def bothSlices (f : Nat → List (RegKey × Nat)) : List (RegKey × Nat) := f 0 ++ f 1

/-- PW_CTRL.RUN (R576). -/
def pewterRun (s : State) : Nat × State :=
  pewterWrites s (bothSlices (fun n => [(⟨.SEQ_CTRL, n, 0, 0, 0⟩, putBit (s.rd .SEQ_CTRL n).toNat 0 true)]))

/-- PW_CTRL.HALT (R576). -/
def pewterHalt (s : State) : Nat × State :=
  pewterWrites s (bothSlices (fun n => [(⟨.VEC_CTRL, n, 0, 0, 0⟩, putBit (s.rd .VEC_CTRL n).toNat 0 true),
    (⟨.SEQ_CTRL, n, 0, 0, 0⟩, putBit (s.rd .SEQ_CTRL n).toNat 1 true)]))

/-- PW_CTRL.CLRFAIL (R576). -/
def pewterClrfail (s : State) : Nat × State :=
  pewterWrites s (bothSlices (fun n => [(⟨.VEC_PFAIL_CLR, n, 0, 0, 0⟩, 2 ^ 32 - 1), (⟨.VEC_CNT_CLR, n, 0, 0, 0⟩, 1)]))

/-- The levels of a group, in the order of the window's registers (R575). -/
def levelRegs : List Reg := [.PIN_VIL, .PIN_VIH, .PIN_VOL, .PIN_VOH, .PIN_VTERM]

/-- A staged level (R573). -/
def staged16 (s : State) (r : Nat) : Nat := s.pewter.stage.at r

/-- PW_STROBE of a group (R577): the staged millivolts, four codes each, on its eight pins. -/
def pewterStrobe (s : State) (g : Nat) : Nat × State :=
  pewterWrites s ((List.range 8).flatMap (fun k =>
    let (n, p) := pewterPin (8 * g + k)
    levelRegs.zipIdx.map (fun r =>
      (⟨r.1, n, p, 0, 0⟩, pat 16 (clampInt (-32768) 32767 (sext 16 (staged16 s (0x10 + 8 * g + r.2)) * 4))))))

/-- The level registers of the window (R575). -/
def isLevel (r : Nat) : Bool := decide (0x10 ≤ r) && decide (r < 0x50) && decide (r % 8 < 5)

/-- A 16-bit value has come for a register of the window (R577). -/
def pewterPut (s : State) (r v : Nat) : Nat × State :=
  if r = 2 then
    let (c0, s) := if v.testBit 0 then pewterRun s else (0, s)
    let (c1, s) := if v.testBit 1 then pewterHalt s else (0, s)
    let (c2, s) := if v.testBit 2 then pewterClrfail s else (0, s)
    (if c0 ≠ 0 then c0 else if c1 ≠ 0 then c1 else c2, s)
  else if r = 4 then
    pewterWrites s (bothSlices (fun n => [(⟨.SEQ_PC, n, 0, 0, 0⟩, putBits (regView s ⟨.SEQ_PC, n, 0, 0, 0⟩).toNat 16 2 v)]))
  else if r = 5 then
    pewterWrites s (bothSlices (fun n => [(⟨.SEQ_PC, n, 0, 0, 0⟩, putBits (regView s ⟨.SEQ_PC, n, 0, 0, 0⟩).toNat 0 16 v)]))
  else if isLevel r then (0, modPewter s (fun p => { p with stage := p.stage.to r v }))
  else if 0x10 ≤ r ∧ r < 0x50 ∧ r % 8 = 5 then pewterStrobe s ((r - 0x10) / 8)
  else if 0x80 ≤ r ∧ r < 0xC0 then
    let (n, p) := pewterPin (r - 0x80)
    pewterWrites s [(⟨.PIN_CFG, n, p, 0, 0⟩, putBits (s.rd .PIN_CFG n p).toNat 0 2 v)]
  else (0, s)

/-- PW_STATUS (R576, R580): the events, and GUARD as a level. -/
def pewterStatus (s : State) : Nat :=
  putBit (s.pewter.events % 256) 6 ((List.range 64).any (fun p => pinGuarded s (pewterPin p).1 (pewterPin p).2))

/-- The value of a register of the window (R575). -/
def pewterGet (s : State) (r : Nat) : Nat :=
  if r = 0 then 0x0816
  else if r = 1 then pewterStatus s
  else if r = 4 then bitsAt (regView s ⟨.SEQ_PC, 0, 0, 0, 0⟩).toNat 16 2
  else if r = 5 then bitsAt (regView s ⟨.SEQ_PC, 0, 0, 0, 0⟩).toNat 0 16
  else if isLevel r then staged16 s r
  else if 0x80 ≤ r ∧ r < 0xC0 then (s.rd .PIN_CFG (pewterPin (r - 0x80)).1 (pewterPin (r - 0x80)).2).toNat % 4
  else if 0xC0 ≤ r then min (s.rd .VEC_PFAIL (pewterPin (r - 0xC0)).1 (pewterPin (r - 0xC0)).2).toNat 0xFFFF
  else 0

/-! ### PW_ADDR, PW_WRB and PW_RDB (R578, R579) -/

def pewterPtr (s : State) : Nat := s.fld F.PWT_STATUS_PTR

/-- The pointer advances, in phase HIGH. -/
def pewterNext (s : State) : State := (pewterHigh s).setFld F.PWT_STATUS_PTR ((pewterPtr s + 1) % 256)

/-- A byte out of its order discards what is in hand (R579). -/
def pewterPhaseError (s : State) : State :=
  (modPewter (pewterHigh s) (fun p => { p with events := putBit p.events 7 true })).setFlag F.PWT_STATUS_SEQ_ERR true

/-- Before a Pewter command: not ready, or the window closed (R560). -/
def pewterBarred (s : State) : Option Nat :=
  if !sideReady s then some 14 else if !s.flag F.PWT_CTRL_OPEN then some 13 else none

/-- PW_ADDR. -/
def pewterAddr (f : SideFrame) (s : State) : SideReply × State :=
  match pewterBarred s with
  | some c => (sideCode c, s)
  | none =>
    if 256 ≤ f.addr.toNat then (sideCode 4, s) else (sideCode 0, (pewterHigh s).setFld F.PWT_STATUS_PTR f.addr.toNat)

/-- PW_WRB. -/
def pewterWrb (f : SideFrame) (s : State) : SideReply × State :=
  match pewterBarred s with
  | some c => (sideCode c, s)
  | none =>
    let byte := f.data.toNat % 256
    let s := if s.pewter.captured.isSome then pewterPhaseError s else s
    match s.pewter.high with
    | none => (sideCode 0, ((modPewter s (fun p => { p with high := some byte })).setFlag F.PWT_STATUS_PHASE true).count .PWT_BYTES)
    | some h =>
      let r := pewterPtr s
      let s := pewterNext s
      let (code, s) := pewterPut s r (h * 256 + byte)
      (sideCode code, s.count .PWT_BYTES)

/-- PW_RDB. A capture of PW_STATUS clears its events; a phase error of that very read is set again afterwards (R580). -/
def pewterRdb (s : State) : SideReply × State :=
  match pewterBarred s with
  | some c => (sideCode c, s)
  | none =>
    let bad := s.pewter.high.isSome
    let s := if bad then pewterPhaseError s else s
    match s.pewter.captured with
    | none =>
      let v := pewterGet s (pewterPtr s)
      let s := if pewterPtr s = 1 then modPewter s (fun p => { p with events := putBit 0 7 bad }) else s
      ({ code := 0, addr := 0, data := v / 256 % 256 },
        ((modPewter s (fun p => { p with captured := some v })).setFlag F.PWT_STATUS_PHASE true).count .PWT_BYTES)
    | some v => ({ code := 0, addr := 0, data := v % 256 }, (pewterNext s).count .PWT_BYTES)

/-- A value that the window's registers take while it is open. -/
def whileOpen (s : State) (f : State → Nat × State) : State := if s.flag F.PWT_CTRL_OPEN then (f s).2 else s

/-! ### The commands -/

def execNopFrame (frame : SideFrame) (bad : Bool) (s : State) : Result := .next (sideFrame s frame (sideNop bad))
def execReplayRead (frame : SideFrame) (s : State) : Result := .next (sideFrame s frame sideReplay)
def execPage (frame : SideFrame) (s : State) : Result := .next (sideFrame s frame (sidePage frame))
def execRd (frame : SideFrame) (s : State) : Result := .next (sideFrame s frame (sideRd frame))
def execRdn (frame : SideFrame) (s : State) : Result := .next (sideFrame s frame sideRdn)
def execWr (frame : SideFrame) (s : State) : Result := .next (sideFrame s frame (sideWr frame))
def execWrn (frame : SideFrame) (s : State) : Result := .next (sideFrame s frame (sideWrn frame))
def execStrm (frame : SideFrame) (s : State) : Result := .next (streamBegin s frame false (fun s => some (sideAddress s frame.addr.toNat)))
def execStrmn (frame : SideFrame) (s : State) : Result := .next (streamBegin s frame true (fun s => s.side.stepStream.map (· + 4)))
def execStreamWord (w : BitVec 32) (stalled : Bool) (s : State) : Result := .next (streamWord s w.toNat stalled)
def execPwAddr (frame : SideFrame) (s : State) : Result := .next (sideFrame s frame (pewterAddr frame))
def execPwWrb (frame : SideFrame) (s : State) : Result := .next (sideFrame s frame (pewterWrb frame))
def execPwRdb (frame : SideFrame) (s : State) : Result := .next (sideFrame s frame pewterRdb)
def execPwRun (s : State) : Result := .next (whileOpen s pewterRun)
def execPwHalt (s : State) : Result := .next (whileOpen s pewterHalt)
def execPwClrfail (s : State) : Result := .next (whileOpen s pewterClrfail)
def execPwStrobe (g : Fin 8) (s : State) : Result := .next (whileOpen s (fun s => pewterStrobe s g.val))
/-- A side-port write of PWT_CTRL.OPEN = 1 (R572). -/
def execPewterOpen (s : State) : Result := .next (regWrite s .side none (⟨.PWT_CTRL, 0, 0, 0, 0⟩ : RegKey).address 1).1
/-- A side-port write of PWT_CTRL.OPEN = 0 (R573). -/
def execPewterClose (s : State) : Result := .next (regWrite s .side none (⟨.PWT_CTRL, 0, 0, 0, 0⟩ : RegKey).address 0).1

end Sys2Proof.Machine
end

