-- ==== Sys2Proof/Machine/ReplayRecords.lean ====
section
/-!
DEFINITION. A replay's records: how the device reads them from the ring and what each does at its beat (R666, R674 to R678).
-/

namespace Sys2Proof.Machine

/-! ### The ring (R668, R674) -/

/-- The record at the read offset, none where the ring holds none or the central store is not ON; whether it includes a poisoned word;
and the state after the read. -/
def replayNext (s : State) : Option JRecord × Bool × State :=
  let rp := s.fld F.RPL_REPLAY_RP_OFFSET % ringCap s
  if rp = s.fld F.RPL_REPLAY_WP_OFFSET % ringCap s ∨ !s.storeOn .central then (none, false, s)
  else
    let (l, p, s) := rangeRead s .central ((s.fld F.RPL_RING_BASE_LINE * 128 + rp * 16) % 2 ^ 24) 16
    (some (JRecord.ofBytes l), !p.isEmpty, s)

/-- The full beat of a record: the one nearest to the last record's (R665, R666). -/
def fullBeat (s : State) (low : Nat) : Nat := ((s.rpl.lastBeat : Int) + sext 32 (low + 2 ^ 32 - s.rpl.lastBeat % 2 ^ 32)).toNat

/-- The record has been read. -/
def replayTaken (s : State) (beat : Nat) : State :=
  modRpl (s.setFld F.RPL_REPLAY_RP_OFFSET ((s.fld F.RPL_REPLAY_RP_OFFSET + 1) % ringCap s)) (fun j => { j with lastBeat := beat })

/-! ### Inputs (R675) -/

/-- A REG_WRITE record: the write as it acted, but for SLC_WHEEL_CTRL (R674). -/
def replayRegWrite (s : State) (r : JRecord) : State :=
  let off := bitsAt r.data 32 22
  let addr := if r.src < 16 then 0x10000000 + r.src * 0x100000 + off * 4 else off * 4
  let path : Path := match r.index with
    | 0 => .host
    | 1 => .side
    | 2 => .management
    | _ => .dma
  match regAt addr with
  | none => s
  | some key => if key.reg = .SLC_WHEEL_CTRL then s else (regApply s path none key (BitVec.ofNat 32 r.data)).1

/-- A ring advance of so many lines. -/
def replayAdvance (s : State) (n : Fin 16) (lines : Nat) : State :=
  let k := s.fld F.VEC_RING_LINES_LINES n
  if k = 0 then s else ringAdvance s n ((s.fld F.VEC_RING_WP_OFFSET n + lines) % k)

/-- The advances of a WP_ADV record: tick and lines, the first at the present beat (R666). -/
def advancesOf (s : State) (r : JRecord) : List (Nat × Nat) :=
  ((List.range (min r.index 8)).foldl (fun (x : Nat × List (Nat × Nat)) a =>
    let byte := bitsAt r.data (8 * a) 8
    let t := if a = 0 then x.1 else x.1 + byte % 64
    (t, x.2 ++ [(t, byte / 64 + 1)])) (s.now, [])).2

/-- The advances that are due act. -/
def advancesDue (s : State) : State :=
  let due := s.rpl.advancing.filter (fun a => decide (a.1 ≤ s.now))
  if due.isEmpty then s
  else due.foldl (fun s a => replayAdvance s a.2.1 a.2.2) (modRpl s (fun j => { j with advancing := j.advancing.filter (fun a => decide (s.now < a.1)) }))

/-- A slice takes an input as the crossbar would give it (R675). -/
def replayLatch (s : State) (n : Fin 16) (input : SeqInput) (value : Nat) : State :=
  if (s.sl n).isolated ∨ (s.sl n).reloading then s else seqLatch s n (inputSel input) value

/-- VERDICT_L: the verdicts of a group at one slice. -/
def replayVerdicts (s : State) (r : JRecord) : State :=
  (setBits 16 (bitsAt r.data 32 16)).foldl (fun s i =>
    replayLatch s (toFin 16 r.src) (.verdict (toFin 1024 (16 * r.index + i))) (bitsAt r.data (2 * i) 2)) s

/-- VERDICT_F: an import's value, or the onset or the end of its hold. -/
def replayImport (s : State) (r : JRecord) : State :=
  let i : Fin 256 := toFin 256 r.index
  match bitsAt r.data 22 2 with
  | 0 =>
    let s := holdFinish s (.imported i)
    eachSlice s (fun s n => if (s.fld F.VRD_IMPORT_SL_SLICES i).testBit n.val then replayLatch s n (.imported i) (bitsAt r.data 20 2) else s)
  | 1 => holdBegin s (.imported i)
  | 2 => holdFinish s (.imported i)
  | _ => s

/-- HOLD_L: the onset or the end of a verdict's hold. -/
def replayHold (s : State) (r : JRecord) : State :=
  let v : Fin 1024 := toFin 1024 r.index
  if r.data.testBit 0 then holdFinish s (.verdict v) else holdBegin s (.verdict v)

/-- RESULT: the value is presented to a CMPR that waits for it (R139). -/
def replayResult (s : State) (r : JRecord) : State :=
  let n : Fin 16 := toFin 16 r.src
  let adc := r.index.testBit 0
  match cmprWaits s n adc (bitsAt r.index 1 6) with
  | none => s
  | some lim =>
    if adc then cmprTake s n lim (sext 18 r.data) (bitsAt r.data 24 2 != 0)
    else cmprTake s n lim (sext 32 r.data) (bitsAt r.data 32 3 != 0)

/-- MATCH_END: the match loop of the streamer has found its match (R175). -/
def replayMatch (s : State) (r : JRecord) : State :=
  let n : Fin 16 := toFin 16 r.src
  if r.data.testBit 24 then
    modVec s n (fun v => { v with run := v.run.map (fun x =>
      if x.vop = 4 then { x with found := some (0, (vecIndex s n + 2 ^ 48 - 1) % 2 ^ 48) } else x) })
  else s

/-- BARRIER: the release or the abort of a generation (R490, R491). -/
def replayBarrier (s : State) (r : JRecord) : State :=
  let h : BarrierHold := { bar := r.index, due := s.now, abort := r.data.testBit 0, late := false }
  barrierRelease (modKtl s (fun k => { k with barriers := h :: k.barriers.filter (fun x => x.bar ≠ r.index) })) r.index

/-- GUARD: the entry of a slice, or the release of its pins' input cause and of its FF outputs (R220, R227). -/
def replayGuard (s : State) (r : JRecord) : State :=
  let n : Fin 16 := toFin 16 r.src
  if r.data.testBit 0 then
    let before := guardedMask s n
    let s := eachPin (s.setFlag F.PIN_GUARD_STATUS_ACTIVE false n) (fun s p => s.setFlag F.PIN_STATUS_CAUSE_IN false n p)
    afterRelease s n before
  else guardEntrySlice s n

/-- GOV_TRIP: the governor that the record's INDEX names trips (R602, R603, R605). -/
def replayTrip (s : State) (r : JRecord) : State :=
  let x := r.index / 4
  match r.index % 4 with
  | 0 => txTrip s (toFin 64 x) false false
  | 1 => ffTrip s (toFin 128 x)
  | 2 => pinTrip s (toFin 512 x) false false
  | _ => s

/-- TRIGGER: an edge of a line takes effect (R451). -/
def replayTrigger (s : State) (r : JRecord) : State :=
  let l := r.index % 8
  let rising := r.data.testBit 0
  trgEdge (modTrg s (fun t => { t with level := BitVec.ofNat 8 (putBit t.level.toNat l rising) })) l rising

/-- A CAL_SWITCH whose words have all come switches (R621). -/
def replaySwitchDone (s : State) (w : SwitchInput) : State :=
  if w.words.length < w.pairs then s
  else
    let words := (List.range w.pairs).flatMap (fun k =>
      let v := ((w.words.find? (fun x => x.1 = k)).map Prod.snd).getD 0
      [v % 2 ^ 32, v / 2 ^ 32 % 2 ^ 32])
    let i : Fin 369 := toFin 369 w.conv
    let s := modRpl s (fun j => { j with switching := j.switching.erase w })
    calSwitch s i (words.take (switchWords (convKind i))) w.src

/-- CAL_SWITCH: the words follow (R666). -/
def replaySwitch (s : State) (r : JRecord) : State :=
  let w : SwitchInput := { conv := r.index, src := r.data % 8, pairs := bitsAt r.data 8 8, words := [] }
  replaySwitchDone (modRpl s (fun j => { j with switching := j.switching ++ [w] })) w

/-- CAL_WORDS: a pair of words of the first switch that lacks it. -/
def replayWords (s : State) (r : JRecord) : State :=
  match s.rpl.switching.find? (fun w => decide (r.index < w.pairs) && w.words.all (fun x => x.1 != r.index)) with
  | none => s
  | some w =>
    let w' := { w with words := w.words ++ [(r.index, r.data)] }
    replaySwitchDone (modRpl s (fun j => { j with switching := j.switching.map (fun x => if x = w then w' else x) })) w'

/-- EPOCH: the count restarts at the present beat (R443). -/
def replayEpoch (s : State) : State :=
  modRpl (epochApply (modChn s (fun c => { c with epoch := some s.beat }))) (fun j => { j with lastBeat := 0, skipTo := 0 })

/-- FAULT: L2 contains the scope, L3 ends the replay (R675). -/
def replayFault (s : State) (r : JRecord) : State :=
  let scope := bitsAt r.data 2 5
  if r.data % 4 = 3 ∨ scope = Scope.device then replayEnd s 5
  else if r.data % 4 = 2 then contain s scope (srcClass r.index)
  else s

/-- STORE_WRITE: the run that the replay closed itself is compared (R678). -/
def replayStore (s : State) (r : JRecord) (beat : Nat) : State :=
  match s.rpl.closed.find? (fun x => x.src = r.src ∧ x.index = r.index) with
  | some x =>
    let s := modRpl s (fun j => { j with closed := j.closed.erase x })
    if x.data = r.data then s else diverge s 4 r beat r.data x.data
  | none => diverge s 4 r beat r.data 0

/-- IMAGE: the serial of the section in force (R674). -/
def replayImage (s : State) (r : JRecord) (beat : Nat) : State :=
  let have_ := sectionSerial s (r.index % 32)
  if have_ = r.data then s else diverge s 5 r beat r.data have_

/-- What a record does at its beat (R666, R674, R675). -/
def replayAct (s : State) (r : JRecord) (beat : Nat) : State :=
  let t := r.type
  if t = JType.GAP then replayEnd s 4
  else if t = JType.EPOCH then replayEpoch s
  else if t = JType.ANCHOR then setWheelState s (toFin 16 r.index) 2
  else if t = JType.REG_WRITE then replayRegWrite s r
  else if t = JType.STORE_WRITE then replayStore s r beat
  else if t = JType.WP_ADV then
    advancesDue (modRpl s (fun j => { j with advancing := j.advancing ++ (advancesOf s r).map (fun a => (a.1, toFin 16 r.src, a.2)) }))
  else if t = JType.VERDICT_L then replayVerdicts s r
  else if t = JType.VERDICT_F then replayImport s r
  else if t = JType.HOLD_L then replayHold s r
  else if t = JType.TRIGGER then replayTrigger s r
  else if t = JType.BARRIER then replayBarrier s r
  else if t = JType.GUARD then replayGuard s r
  else if t = JType.GOV_TRIP then replayTrip s r
  else if t = JType.FAULT then replayFault s r
  else if t = JType.CAL_SWITCH then replaySwitch s r
  else if t = JType.CAL_WORDS then replayWords s r
  else if t = JType.RESULT then replayResult s r
  else if t = JType.MATCH_END then replayMatch s r
  else if t = JType.DECISION ∨ t = JType.UNDERRUN then
    modRpl s (fun j => { j with expected := j.expected ++ [{ r with beat := beat }] })
  else s

/-- The next record of the journal (R674): frame records and those before the anchor are passed over, an IMAGE record is checked as it is read,
every other acts once its beat has come, and one that comes after its beat ends the replay as STARVED. A record that includes a poisoned word
ends it as a GAP does (R36). -/
def replayRecord (s : State) : State :=
  if s.rplState ≠ 2 then s
  else match replayNext s with
    | (none, _) => s
    | (some _, true, t) => replayEnd t 4
    | (some r, false, t) =>
      let beat := if r.type = JType.PAD then s.rpl.lastBeat else if r.type = JType.SYNC then r.data else fullBeat s r.beat
      if r.type = JType.PAD ∨ r.type = JType.SYNC ∨ r.type = JType.RELOAD then replayTaken t beat
      else if r.type = JType.IMAGE then replayImage (replayTaken t s.rpl.lastBeat) r beat
      else if beat < s.rpl.skipTo then replayTaken t beat
      else if s.beat < beat then s
      else if beat < s.beat then replayEnd s 2
      else replayAct (replayTaken t beat) r beat

/-- REPLAY_RECORD. -/
def execReplayRecord (s : State) : Result := .next (replayRecord s)

/-- REPLAY_STARVED: the next record is not in the ring (R674). -/
def execReplayStarved (s : State) : Result :=
  .next (if s.fld F.RPL_REPLAY_RP_OFFSET % ringCap s = s.fld F.RPL_REPLAY_WP_OFFSET % ringCap s then replayEnd s 2 else s)

end Sys2Proof.Machine
end

