-- ==== Sys2Proof/Machine/Beat.lean ====
section
/-!
DEFINITION. The beat boundary (R21, R31, R105): the beat that ends closes, the count goes on, and what is due at the new beat takes place in the
order of R105.
-/

namespace Sys2Proof.Machine

/-- The stores of the device. -/
def allStores : List StoreId := .central :: (List.finRange 16).map StoreId.slice

/-- What ends with a beat: step 5 of R105 for every sequencer that has not acted, the service of the stores (R39, R44) and the counts of
waiting (R511, R552). -/
def beatEnds (s : State) : State :=
  let s := eachSlice s seqBeat
  let s := allStores.foldl storeBeat s
  (List.finRange 2).foldl creditWaitBeat (dmaWaitBeat s)

/-- The beat count and the ticks go on (R31). -/
def beatCounts (s : State) : State := { s with now := s.now + 1, beat := (s.beat + 1) % 2 ^ 64 }

/-- The tick since which a sequencer has been halted (R615). -/
def haltUpkeep (s : State) (n : Fin 16) : State :=
  let halted := (seqState s n = SeqCode.halted ∨ seqState s n = SeqCode.error) ∧ (s.sl n).seq.pend.isNone
  let h := s.cal.haltSince.get n
  if halted then (if h = 0 then { s with cal := { s.cal with haltSince := s.cal.haltSince.set n.val s.now n.isLt } } else s)
  else if h = 0 then s
  else { s with cal := { s.cal with haltSince := s.cal.haltSince.set n.val 0 n.isLt } }

/-- What a slice does at a boundary before its events: every sequencer may act again, abandoned jobs take effect (R33). -/
def sliceOpens (s : State) (n : Fin 16) : State :=
  ffEach (overrunBeat (modSeq s n (fun q => { q with acted := false })) n) (fun s f => ffBeat s n f)

/-- What the units of a slice do at a boundary after the events. -/
def sliceUnits (s : State) (n : Fin 16) : State :=
  let s := ffEach s (fun s f => ffCheckStart s n f)
  let s := madResume (madSample s n) n
  haltUpkeep (ccReleaseDue (ccAdvance s n) n) n

/-- What the central units do at a boundary. -/
def centralUnits (s : State) : State :=
  let s := ditherBeat (todAdvance (invSlew (invDiscipline s)))
  let s := mgtBeat (injectBeat (lossBeat s))
  let s := if s.side.stream.isNone then streamDrain s else s
  bootLateJoin (joinSend (serviceBeat (imgAbortBeat s)))

/-- The boundary of the next beat while Invar is locked (R105). -/
def beatAdvance (s : State) (overrange : BitVec 32) : State :=
  let s := beatEnds s
  let ended := s.beat
  let (muted, s) := txLatch s
  let s := advancesDue (epochApply (chainSlew (journalBeat (beatCounts s) ended)))
  let s := eachSlice (eachSlice s sliceOpens) eventsBeat
  let s := verdictBeat ((List.range 8).foldl trgEffect (trgMargins (trgCalDrive s)))
  let s := rxBeat (txBeat muted s) overrange
  centralUnits (eachSlice s sliceUnits)

/-- AUX1 is high (R447): 8 ns from each wheel boundary while AUX1_MARK is set. -/
def aux1High (s : State) : Bool := s.flag F.CHN_CFG_AUX1_MARK && decide (s.beat % 16 < 2)

/-- BEAT_BOUNDARY. Before Invar locks and in reset no beat counts (R31). The boundary stands one tick after the one before, whatever takes place
at it. -/
def execBeatBoundary (overrange : BitVec 32) (s : State) : Result :=
  .next (if s.inReset || !s.flag F.INV_STATUS_LOCK then s else { beatAdvance s overrange with now := s.now + 1 })

end Sys2Proof.Machine
end

