-- ==== Sys2Proof/Machine/Dispatch.lean ====
section
/-!
DEFINITION. The meaning of every command: one arm per constructor of Instr.
-/

namespace Sys2Proof.Machine

def exec (i : Instr) (s : State) : Host.Outcome State Fault Refusal :=
  match i with
  | .poresetAssert => Sys2Proof.Machine.execPoresetAssert s
  | .poresetDeassert => Sys2Proof.Machine.execPoresetDeassert s
  | .railUndervoltage rail => Sys2Proof.Machine.execRailUndervoltage rail s
  | .railRestored => Sys2Proof.Machine.execRailRestored s
  | .thermalTrip => Sys2Proof.Machine.execThermalTrip s
  | .thermalRecover => Sys2Proof.Machine.execThermalRecover s
  | .invarLock => Sys2Proof.Machine.execInvarLock s
  | .xtalFail => Sys2Proof.Machine.execXtalFail s
  | .beatBoundary overrange => Sys2Proof.Machine.execBeatBoundary overrange s
  | .beatOverrun unit => Sys2Proof.Machine.execBeatOverrun unit s
  | .regWrite path addr v => Sys2Proof.Machine.execRegWrite path addr v s
  | .pairLowRead addr => Sys2Proof.Machine.execPairLowRead addr s
  | .pairLowWrite path addr v => Sys2Proof.Machine.execPairLowWrite path addr v s
  | .pairHighWrite path addr v => Sys2Proof.Machine.execPairHighWrite path addr v s
  | .counterClear path addr v => Sys2Proof.Machine.execCounterClear path addr v s
  | .storeAccess id reqs upsets => Sys2Proof.Machine.execStoreAccess id reqs upsets s
  | .scrubStep id => Sys2Proof.Machine.execScrubStep id s
  | .wheelStart n => Sys2Proof.Machine.execWheelStart n s
  | .wheelRunning n => Sys2Proof.Machine.execWheelRunning n s
  | .wheelStop n => Sys2Proof.Machine.execWheelStop n s
  | .wheelStopped n => Sys2Proof.Machine.execWheelStopped n s
  | .wheelCommit n => Sys2Proof.Machine.execWheelCommit n s
  | .mapCopy n => Sys2Proof.Machine.execMapCopy n s
  | .storePwrReq id req => Sys2Proof.Machine.execStorePwrReq id req s
  | .storePwrSettled id => Sys2Proof.Machine.execStorePwrSettled id s
  | .storeWakeDone id => Sys2Proof.Machine.execStoreWakeDone id s
  | .imgCheck => Sys2Proof.Machine.execImgCheck s
  | .imgReload n => Sys2Proof.Machine.execImgReload n s
  | .imgFull slot => Sys2Proof.Machine.execImgFull slot s
  | .imgAbort => Sys2Proof.Machine.execImgAbort s
  | .imgCheckDone => Sys2Proof.Machine.execImgCheckDone s
  | .imgFullEnd bad => Sys2Proof.Machine.execImgFullEnd bad s
  | .reloadDrain n => Sys2Proof.Machine.execReloadDrain n s
  | .reloadIsolate n => Sys2Proof.Machine.execReloadIsolate n s
  | .reloadLoad n => Sys2Proof.Machine.execReloadLoad n s
  | .reloadVerify n readsBack => Sys2Proof.Machine.execReloadVerify n readsBack s
  | .reloadReady n => Sys2Proof.Machine.execReloadReady n s
  | .reloadRejoin n => Sys2Proof.Machine.execReloadRejoin n s
  | .reloadLate n => Sys2Proof.Machine.execReloadLate n s
  | .nop n => Sys2Proof.Machine.execNop n s
  | .halt n code => Sys2Proof.Machine.execHalt n code s
  | .jump n target pop => Sys2Proof.Machine.execJump n target pop s
  | .call n target => Sys2Proof.Machine.execCall n target s
  | .ret n => Sys2Proof.Machine.execRet n s
  | .loop n count endIndex fromReg reg => Sys2Proof.Machine.execLoop n count endIndex fromReg reg s
  | .endloop n => Sys2Proof.Machine.execEndloop n s
  | .wait n beats => Sys2Proof.Machine.execWait n beats s
  | .waitExpire n => Sys2Proof.Machine.execWaitExpire n s
  | .waita n beat => Sys2Proof.Machine.execWaita n beat s
  | .waitaReached n => Sys2Proof.Machine.execWaitaReached n s
  | .waitv n sel mask want tmo => Sys2Proof.Machine.execWaitv n sel mask want tmo s
  | .waitvResolve n => Sys2Proof.Machine.execWaitvResolve n s
  | .waitvTimeout n => Sys2Proof.Machine.execWaitvTimeout n s
  | .sync n kind id tmo => Sys2Proof.Machine.execSync n kind id tmo s
  | .syncResolve n => Sys2Proof.Machine.execSyncResolve n s
  | .syncTimeout n => Sys2Proof.Machine.execSyncTimeout n s
  | .idle n beats offer => Sys2Proof.Machine.execIdle n beats offer s
  | .idleExpire n => Sys2Proof.Machine.execIdleExpire n s
  | .elastic n maxExt => Sys2Proof.Machine.execElastic n maxExt s
  | .elasticResolve n => Sys2Proof.Machine.execElasticResolve n s
  | .elasticExpired n => Sys2Proof.Machine.execElasticExpired n s
  | .emit n words => Sys2Proof.Machine.execEmit n words s
  | .emitl n words => Sys2Proof.Machine.execEmitl n words s
  | .branch n desc newMode timeout t0 t1 t2 t3 => Sys2Proof.Machine.execBranch n desc newMode timeout t0 t1 t2 t3 s
  | .branchResolve n => Sys2Proof.Machine.execBranchResolve n s
  | .branchTimeout n => Sys2Proof.Machine.execBranchTimeout n s
  | .cmpr n adc ch flag lim tmo => Sys2Proof.Machine.execCmpr n adc ch flag lim tmo s
  | .cmprResolve n => Sys2Proof.Machine.execCmprResolve n s
  | .cmprTimeout n => Sys2Proof.Machine.execCmprTimeout n s
  | .clrv n desc => Sys2Proof.Machine.execClrv n desc s
  | .seqRun n => Sys2Proof.Machine.execSeqRun n s
  | .seqFirstIssue n => Sys2Proof.Machine.execSeqFirstIssue n s
  | .seqHalt n => Sys2Proof.Machine.execSeqHalt n s
  | .seqStep n => Sys2Proof.Machine.execSeqStep n s
  | .clrNew n => Sys2Proof.Machine.execClrNew n s
  | .seqPcWrite n index => Sys2Proof.Machine.execSeqPcWrite n index s
  | .verdictLatch n input => Sys2Proof.Machine.execVerdictLatch n input s
  | .vecStart n addr => Sys2Proof.Machine.execVecStart n addr s
  | .vecBreak n => Sys2Proof.Machine.execVecBreak n s
  | .vecHalt n host => Sys2Proof.Machine.execVecHalt n host s
  | .vectorBoundary n misses => Sys2Proof.Machine.execVectorBoundary n misses s
  | .windowOpen n w => Sys2Proof.Machine.execWindowOpen n w s
  | .windowClose n w => Sys2Proof.Machine.execWindowClose n w s
  | .pinSummaryVerdict n => Sys2Proof.Machine.execPinSummaryVerdict n s
  | .fcMark n data => Sys2Proof.Machine.execFcMark n data s
  | .fcReset n => Sys2Proof.Machine.execFcReset n s
  | .ringWpAdvance n path wp => Sys2Proof.Machine.execRingWpAdvance n path wp s
  | .tsetWrite n path addr v => Sys2Proof.Machine.execTsetWrite n path addr v s
  | .loadEnable n p => Sys2Proof.Machine.execLoadEnable n p s
  | .pmuSwitchDone n p => Sys2Proof.Machine.execPmuSwitchDone n p s
  | .pmuModeChange n p mode range => Sys2Proof.Machine.execPmuModeChange n p mode range s
  | .pmuForceResume n p => Sys2Proof.Machine.execPmuForceResume n p s
  | .guardInRise ps => Sys2Proof.Machine.execGuardInRise ps s
  | .guardEntry => Sys2Proof.Machine.execGuardEntry s
  | .guardInFall ps => Sys2Proof.Machine.execGuardInFall ps s
  | .guardDebounceEnd n readings => Sys2Proof.Machine.execGuardDebounceEnd n readings s
  | .pinRelease n pins => Sys2Proof.Machine.execPinRelease n pins s
  | .ccStart n readings => Sys2Proof.Machine.execCcStart n readings s
  | .ccEnd n => Sys2Proof.Machine.execCcEnd n s
  | .ccAbort n => Sys2Proof.Machine.execCcAbort n s
  | .toneSegment n u seg => Sys2Proof.Machine.execToneSegment n u seg s
  | .toneZero n u => Sys2Proof.Machine.execToneZero n u s
  | .rampdownEnd n u => Sys2Proof.Machine.execRampdownEnd n u s
  | .toneTrack n u r => Sys2Proof.Machine.execToneTrack n u r s
  | .tonePhase n u set v => Sys2Proof.Machine.execTonePhase n u set v s
  | .segmentBoundary n u => Sys2Proof.Machine.execSegmentBoundary n u s
  | .markerListAction n u => Sys2Proof.Machine.execMarkerListAction n u s
  | .markerLow n k m => Sys2Proof.Machine.execMarkerLow n k m s
  | .markerHigh n k m => Sys2Proof.Machine.execMarkerHigh n k m s
  | .markerList n k m => Sys2Proof.Machine.execMarkerList n k m s
  | .toneFlush n u => Sys2Proof.Machine.execToneFlush n u s
  | .toneEntryWrite n path u e v => Sys2Proof.Machine.execToneEntryWrite n path u e v s
  | .txEnable n k => Sys2Proof.Machine.execTxEnable n k s
  | .txWakeDone n k => Sys2Proof.Machine.execTxWakeDone n k s
  | .txDisable n k => Sys2Proof.Machine.execTxDisable n k s
  | .txMute n k => Sys2Proof.Machine.execTxMute n k s
  | .txUnmute n k => Sys2Proof.Machine.execTxUnmute n k s
  | .trackRetune n k r ftw => Sys2Proof.Machine.execTrackRetune n k r ftw s
  | .trackRebase n k tracks => Sys2Proof.Machine.execTrackRebase n k tracks s
  | .trackAccRead n k => Sys2Proof.Machine.execTrackAccRead n k s
  | .rxEnable n j => Sys2Proof.Machine.execRxEnable n j s
  | .rxWakeDone n j => Sys2Proof.Machine.execRxWakeDone n j s
  | .rxDisable n j => Sys2Proof.Machine.execRxDisable n j s
  | .rxSettleEnd n j => Sys2Proof.Machine.execRxSettleEnd n j s
  | .binTrigger n u set => Sys2Proof.Machine.execBinTrigger n u set s
  | .binCancel n u => Sys2Proof.Machine.execBinCancel n u s
  | .binWindowEnd n u samples => Sys2Proof.Machine.execBinWindowEnd n u samples s
  | .discriminate n u => Sys2Proof.Machine.execDiscriminate n u s
  | .binResult n u => Sys2Proof.Machine.execBinResult n u s
  | .wramWrite n path u ix v => Sys2Proof.Machine.execWramWrite n path u ix v s
  | .dmxResultRead n u => Sys2Proof.Machine.execDmxResultRead n u s
  | .acqArm n d => Sys2Proof.Machine.execAcqArm n d s
  | .acqTrigger n => Sys2Proof.Machine.execAcqTrigger n s
  | .acqStop n => Sys2Proof.Machine.execAcqStop n s
  | .acqItem n st samples => Sys2Proof.Machine.execAcqItem n st samples s
  | .prefillDone n st => Sys2Proof.Machine.execPrefillDone n st s
  | .acqSegmentEnd n st => Sys2Proof.Machine.execAcqSegmentEnd n st s
  | .acqStreamFree n st => Sys2Proof.Machine.execAcqStreamFree n st s
  | .verdictReady v => Sys2Proof.Machine.execVerdictReady v s
  | .verdictMsgReceive p word => Sys2Proof.Machine.execVerdictMsgReceive p word s
  | .importDeliver ix => Sys2Proof.Machine.execImportDeliver ix s
  | .holdOnset input => Sys2Proof.Machine.execHoldOnset input s
  | .holdEnd input => Sys2Proof.Machine.execHoldEnd input s
  | .ffCode n f code off => Sys2Proof.Machine.execFfCode n f code off s
  | .ffSpan n f setting => Sys2Proof.Machine.execFfSpan n f setting s
  | .ffHiz n f => Sys2Proof.Machine.execFfHiz n f s
  | .ffSequenceEnd n f => Sys2Proof.Machine.execFfSequenceEnd n f s
  | .ffLimitAct n f => Sys2Proof.Machine.execFfLimitAct n f s
  | .ffCheckConversion n f readback => Sys2Proof.Machine.execFfCheckConversion n f readback s
  | .ffLimitRelease n f => Sys2Proof.Machine.execFfLimitRelease n f s
  | .ffCheckDeadline n f => Sys2Proof.Machine.execFfCheckDeadline n f s
  | .ffShortClear n f => Sys2Proof.Machine.execFfShortClear n f s
  | .madTrigger n seq => Sys2Proof.Machine.execMadTrigger n seq s
  | .madAbort n => Sys2Proof.Machine.execMadAbort n s
  | .madConversionEnd n raw clamped => Sys2Proof.Machine.execMadConversionEnd n raw clamped s
  | .madRepeatStart n => Sys2Proof.Machine.execMadRepeatStart n s
  | .selfcal n => Sys2Proof.Machine.execSelfcal n s
  | .selfcalEnd n factors => Sys2Proof.Machine.execSelfcalEnd n factors s
  | .syscal n => Sys2Proof.Machine.execSyscal n s
  | .syscalEnd n raws invalid => Sys2Proof.Machine.execSyscalEnd n raws invalid s
  | .applyf n => Sys2Proof.Machine.execApplyf n s
  | .factorApply n => Sys2Proof.Machine.execFactorApply n s
  | .madResLoRead n => Sys2Proof.Machine.execMadResLoRead n s
  | .madResHiRead n => Sys2Proof.Machine.execMadResHiRead n s
  | .madDisable n => Sys2Proof.Machine.execMadDisable n s
  | .tdcArm n c setup => Sys2Proof.Machine.execTdcArm n c setup s
  | .tdcDisarm n c => Sys2Proof.Machine.execTdcDisarm n c s
  | .tdcGate n c => Sys2Proof.Machine.execTdcGate n c s
  | .tdcEdge n c input rising lsb => Sys2Proof.Machine.execTdcEdge n c input rising lsb s
  | .tdcStopExpire n c => Sys2Proof.Machine.execTdcStopExpire n c s
  | .tdcIntervalOvf n c => Sys2Proof.Machine.execTdcIntervalOvf n c s
  | .tdcGateClose n c => Sys2Proof.Machine.execTdcGateClose n c s
  | .tdcResultEnqueue n => Sys2Proof.Machine.execTdcResultEnqueue n s
  | .tdcServoRef n c startRef stopRef => Sys2Proof.Machine.execTdcServoRef n c startRef stopRef s
  | .tdcResultRead n => Sys2Proof.Machine.execTdcResultRead n s
  | .tdcDisable n c => Sys2Proof.Machine.execTdcDisable n c s
  | .invRefLoss => Sys2Proof.Machine.execInvRefLoss s
  | .invRefRestore => Sys2Proof.Machine.execInvRefRestore s
  | .invDiscLock => Sys2Proof.Machine.execInvDiscLock s
  | .chainFrameTx => Sys2Proof.Machine.execChainFrameTx s
  | .chainFrameRx frame arrival => Sys2Proof.Machine.execChainFrameRx frame arrival s
  | .chainReturnTurn => Sys2Proof.Machine.execChainReturnTurn s
  | .chainReturnStamp rpt => Sys2Proof.Machine.execChainReturnStamp rpt s
  | .chainAverage => Sys2Proof.Machine.execChainAverage s
  | .chainHoldover clock => Sys2Proof.Machine.execChainHoldover clock s
  | .chainRoleWrite role pos => Sys2Proof.Machine.execChainRoleWrite role pos s
  | .realign => Sys2Proof.Machine.execRealign s
  | .epoch => Sys2Proof.Machine.execEpoch s
  | .epochApply => Sys2Proof.Machine.execEpochApply s
  | .trgDriveWrite levels => Sys2Proof.Machine.execTrgDriveWrite levels s
  | .trgTinForward t level => Sys2Proof.Machine.execTrgTinForward t level s
  | .trgTransition l level ps => Sys2Proof.Machine.execTrgTransition l level ps s
  | .trgEdgeEffect l => Sys2Proof.Machine.execTrgEdgeEffect l s
  | .trgCal => Sys2Proof.Machine.execTrgCal s
  | .trgCalStart => Sys2Proof.Machine.execTrgCalStart s
  | .trgCalEnd sums => Sys2Proof.Machine.execTrgCalEnd sums s
  | .trgPosWrite l v => Sys2Proof.Machine.execTrgPosWrite l v s
  | .ktlTrainBlock p lane block => Sys2Proof.Machine.execKtlTrainBlock p lane block s
  | .ktlPortUp p flight => Sys2Proof.Machine.execKtlPortUp p flight s
  | .ktlPortDown p cause => Sys2Proof.Machine.execKtlPortDown p cause s
  | .ktlRetrain p => Sys2Proof.Machine.execKtlRetrain p s
  | .ktlFlitTx p => Sys2Proof.Machine.execKtlFlitTx p s
  | .ktlFlitRx p flit symbolErrors => Sys2Proof.Machine.execKtlFlitRx p flit symbolErrors s
  | .linkNoticeRx p word => Sys2Proof.Machine.execLinkNoticeRx p word s
  | .discover => Sys2Proof.Machine.execDiscover s
  | .discRx p hops => Sys2Proof.Machine.execDiscRx p hops s
  | .discReportRx p reports complete => Sys2Proof.Machine.execDiscReportRx p reports complete s
  | .topoFloodRx p topo => Sys2Proof.Machine.execTopoFloodRx p topo s
  | .ktlCommit => Sys2Proof.Machine.execKtlCommit s
  | .join => Sys2Proof.Machine.execJoin s
  | .joinRx p uid req => Sys2Proof.Machine.execJoinRx p uid req s
  | .routeFailover p => Sys2Proof.Machine.execRouteFailover p s
  | .routeRestore p => Sys2Proof.Machine.execRouteRestore p s
  | .unreachDeclare dev => Sys2Proof.Machine.execUnreachDeclare dev s
  | .fabricPacketRx p packet => Sys2Proof.Machine.execFabricPacketRx p packet s
  | .barrierComplete b => Sys2Proof.Machine.execBarrierComplete b s
  | .barrierArriveRx p word => Sys2Proof.Machine.execBarrierArriveRx p word s
  | .barrierReleaseRx p word => Sys2Proof.Machine.execBarrierReleaseRx p word s
  | .barrierAbortRx p word => Sys2Proof.Machine.execBarrierAbortRx p word s
  | .barrierRelease b => Sys2Proof.Machine.execBarrierRelease b s
  | .hostFrameRx p frame => Sys2Proof.Machine.execHostFrameRx p frame s
  | .hostLinkUp p => Sys2Proof.Machine.execHostLinkUp p s
  | .hostLinkDown p => Sys2Proof.Machine.execHostLinkDown p s
  | .connect p packet => Sys2Proof.Machine.execConnect p packet s
  | .disconnect p packet => Sys2Proof.Machine.execDisconnect p packet s
  | .ack p packet => Sys2Proof.Machine.execAck p packet s
  | .regRd p packet => Sys2Proof.Machine.execRegRd p packet s
  | .regWr p packet => Sys2Proof.Machine.execRegWr p packet s
  | .memRd p packet => Sys2Proof.Machine.execMemRd p packet s
  | .memWr p packet => Sys2Proof.Machine.execMemWr p packet s
  | .tunnelCompletion packet => Sys2Proof.Machine.execTunnelCompletion packet s
  | .tunnelTimeout p tag => Sys2Proof.Machine.execTunnelTimeout p tag s
  | .completionSend p => Sys2Proof.Machine.execCompletionSend p s
  | .ctpRto p => Sys2Proof.Machine.execCtpRto p s
  | .ctpAckTimer p => Sys2Proof.Machine.execCtpAckTimer p s
  | .eventPacketSend => Sys2Proof.Machine.execEventPacketSend s
  | .evtRd0Read => Sys2Proof.Machine.execEvtRd0Read s
  | .todLatch => Sys2Proof.Machine.execTodLatch s
  | .todStep => Sys2Proof.Machine.execTodStep s
  | .ptpMessage p adj st => Sys2Proof.Machine.execPtpMessage p adj st s
  | .dmaStart c => Sys2Proof.Machine.execDmaStart c s
  | .dmaAbort c => Sys2Proof.Machine.execDmaAbort c s
  | .dmaFlush c => Sys2Proof.Machine.execDmaFlush c s
  | .clrBuserr => Sys2Proof.Machine.execClrBuserr s
  | .dmaBurstGrant => Sys2Proof.Machine.execDmaBurstGrant s
  | .dmaBurstDone c => Sys2Proof.Machine.execDmaBurstDone c s
  | .dmaDescEnd c => Sys2Proof.Machine.execDmaDescEnd c s
  | .dmaBusError => Sys2Proof.Machine.execDmaBusError s
  | .nopFrame frame bad => Sys2Proof.Machine.execNopFrame frame bad s
  | .replayRead frame => Sys2Proof.Machine.execReplayRead frame s
  | .page frame => Sys2Proof.Machine.execPage frame s
  | .rd frame => Sys2Proof.Machine.execRd frame s
  | .rdn frame => Sys2Proof.Machine.execRdn frame s
  | .wr frame => Sys2Proof.Machine.execWr frame s
  | .wrn frame => Sys2Proof.Machine.execWrn frame s
  | .strm frame => Sys2Proof.Machine.execStrm frame s
  | .strmn frame => Sys2Proof.Machine.execStrmn frame s
  | .streamWord w stalled => Sys2Proof.Machine.execStreamWord w stalled s
  | .pwAddr frame => Sys2Proof.Machine.execPwAddr frame s
  | .pwWrb frame => Sys2Proof.Machine.execPwWrb frame s
  | .pwRdb frame => Sys2Proof.Machine.execPwRdb frame s
  | .pwRun => Sys2Proof.Machine.execPwRun s
  | .pwHalt => Sys2Proof.Machine.execPwHalt s
  | .pwClrfail => Sys2Proof.Machine.execPwClrfail s
  | .pwStrobe g => Sys2Proof.Machine.execPwStrobe g s
  | .pewterOpen => Sys2Proof.Machine.execPewterOpen s
  | .pewterClose => Sys2Proof.Machine.execPewterClose s
  | .accGo => Sys2Proof.Machine.execAccGo s
  | .accAbort => Sys2Proof.Machine.execAccAbort s
  | .accFrameEnd miso => Sys2Proof.Machine.execAccFrameEnd miso s
  | .domainOffReq d port => Sys2Proof.Machine.execDomainOffReq d port s
  | .domainOnReq d => Sys2Proof.Machine.execDomainOnReq d s
  | .domainDrainEnd d => Sys2Proof.Machine.execDomainDrainEnd d s
  | .domainDrainTimeout d => Sys2Proof.Machine.execDomainDrainTimeout d s
  | .domainOff d => Sys2Proof.Machine.execDomainOff d s
  | .domainWakeDone d => Sys2Proof.Machine.execDomainWakeDone d s
  | .admissionGrant => Sys2Proof.Machine.execAdmissionGrant s
  | .budgetWrite v => Sys2Proof.Machine.execBudgetWrite v s
  | .pwrMeasBlock mw => Sys2Proof.Machine.execPwrMeasBlock mw s
  | .txGovTrip x => Sys2Proof.Machine.execTxGovTrip x s
  | .ffGovTrip x => Sys2Proof.Machine.execFfGovTrip x s
  | .pinGovTrip g ua nj => Sys2Proof.Machine.execPinGovTrip g ua nj s
  | .govRearm gov => Sys2Proof.Machine.execGovRearm gov s
  | .calBlockComplete ix pass taken => Sys2Proof.Machine.execCalBlockComplete ix pass taken s
  | .calDitherStep ix => Sys2Proof.Machine.execCalDitherStep ix s
  | .calDitherStepEnd ix hits => Sys2Proof.Machine.execCalDitherStepEnd ix hits s
  | .stage path ix => Sys2Proof.Machine.execStage path ix s
  | .stageAt path ix => Sys2Proof.Machine.execStageAt path ix s
  | .cancel ix => Sys2Proof.Machine.execCancel ix s
  | .calGapApply ix => Sys2Proof.Machine.execCalGapApply ix s
  | .calNamedApply ix => Sys2Proof.Machine.execCalNamedApply ix s
  | .calAgeTick => Sys2Proof.Machine.execCalAgeTick s
  | .fgStart n => Sys2Proof.Machine.execFgStart n s
  | .fgAbort n => Sys2Proof.Machine.execFgAbort n s
  | .fgEnd n sets => Sys2Proof.Machine.execFgEnd n sets s
  | .save => Sys2Proof.Machine.execSave s
  | .vaultSaveEnd ok0 ok1 => Sys2Proof.Machine.execVaultSaveEnd ok0 ok1 s
  | .faultReport faults broken quiet => Sys2Proof.Machine.execFaultReport faults broken quiet s
  | .fltAck classes => Sys2Proof.Machine.execFltAck classes s
  | .selfTestStart => Sys2Proof.Machine.execSelfTestStart s
  | .selfTestResult place bad => Sys2Proof.Machine.execSelfTestResult place bad s
  | .selfTestTimeout place => Sys2Proof.Machine.execSelfTestTimeout place s
  | .recover => Sys2Proof.Machine.execRecover s
  | .safe => Sys2Proof.Machine.execSafe s
  | .inject => Sys2Proof.Machine.execInject s
  | .recoveryStart => Sys2Proof.Machine.execRecoveryStart s
  | .recoveryEnd bad => Sys2Proof.Machine.execRecoveryEnd bad s
  | .journalEnable => Sys2Proof.Machine.execJournalEnable s
  | .journalDisable => Sys2Proof.Machine.execJournalDisable s
  | .journalPartialFlush => Sys2Proof.Machine.execJournalPartialFlush s
  | .flush => Sys2Proof.Machine.execFlush s
  | .journalSpill rp => Sys2Proof.Machine.execJournalSpill rp s
  | .replay => Sys2Proof.Machine.execReplay s
  | .replayStart => Sys2Proof.Machine.execReplayStart s
  | .replayRecord => Sys2Proof.Machine.execReplayRecord s
  | .replayStarved => Sys2Proof.Machine.execReplayStarved s
  | .stop => Sys2Proof.Machine.execStop s
  | .bootPhaseAdvance findings => Sys2Proof.Machine.execBootPhaseAdvance findings s
  | .tryFw => Sys2Proof.Machine.execTryFw s
  | .confirm => Sys2Proof.Machine.execConfirm s
  | .commitSecver => Sys2Proof.Machine.execCommitSecver s
  | .setImg => Sys2Proof.Machine.execSetImg s
  | .runGo => Sys2Proof.Machine.execRunGo s
  | .runGoSeqWrite => Sys2Proof.Machine.execRunGoSeqWrite s
  | .flashRead => Sys2Proof.Machine.execFlashRead s
  | .flashErase => Sys2Proof.Machine.execFlashErase s
  | .flashWrite => Sys2Proof.Machine.execFlashWrite s
  | .flashOpEnd error => Sys2Proof.Machine.execFlashOpEnd error s
  | .keyWrite => Sys2Proof.Machine.execKeyWrite s
  | .lockKey => Sys2Proof.Machine.execLockKey s
  | .revoke => Sys2Proof.Machine.execRevoke s
  | .mgtHalt => Sys2Proof.Machine.execMgtHalt s
  | .mgtRestart => Sys2Proof.Machine.execMgtRestart s
  | .swap => Sys2Proof.Machine.execSwap s
  | .swapQuiesceTimeout => Sys2Proof.Machine.execSwapQuiesceTimeout s
  | .wdogKick cores => Sys2Proof.Machine.execWdogKick cores s
  | .wdogExpire => Sys2Proof.Machine.execWdogExpire s
  | .mgtLoadBlock load => Sys2Proof.Machine.execMgtLoadBlock load s
  | .info p packet => Sys2Proof.Machine.execInfo p packet s
  | .serviceSwap p packet => Sys2Proof.Machine.execServiceSwap p packet s
  | .serviceSave p packet => Sys2Proof.Machine.execServiceSave p packet s
  | .fgAll p packet => Sys2Proof.Machine.execFgAll p packet s
  | .bypass tdi => Sys2Proof.Machine.execBypass tdi s
  | .idcode count => Sys2Proof.Machine.execIdcode count s
  | .samplePreload lands tdi => Sys2Proof.Machine.execSamplePreload lands tdi s
  | .extest lands tdi => Sys2Proof.Machine.execExtest lands tdi s
  | .clamp tdi => Sys2Proof.Machine.execClamp tdi s
  | .highz tdi => Sys2Proof.Machine.execHighz tdi s
  | .extestPulse lands tdi => Sys2Proof.Machine.execExtestPulse lands tdi s
  | .extestTrain lands tdi => Sys2Proof.Machine.execExtestTrain lands tdi s
  | .clkInLock => Sys2Proof.Machine.execClkInLock s
  | .dmaRemoteTimeout c => Sys2Proof.Machine.execDmaRemoteTimeout c s
  | .dieLinkSound index => Sys2Proof.Machine.execDieLinkSound index s
  | .periodicVaultSave k => Sys2Proof.Machine.execPeriodicVaultSave k s

end Sys2Proof.Machine
end

