-- ==== Sys2Proof/Safety.lean ====
section
/-!
DEFINITION. What the statements call a state that is in order, and a run that goes on.
-/

namespace Sys2Proof.Machine

/-- Every store keeps its canonical form, and so does the register file. -/
def State.canonical (s : State) : Bool :=
  s.regs.wf && s.cstore.wf && (List.finRange 16).all (fun n => (s.sl n).store.wf)

/-- What reset leaves of a state (R10, R712): the fuses, the flash, the keys and the commands that wait stay; every store and slice and every
register but BOOT_STATUS is as reset leaves it, and no beat has counted. -/
def afterReset (s t : State) : Prop :=
  t.now = 0 ∧ t.beat = 0 ∧ t.cstore = Store.initial ∧ (∀ n, t.sl n = Slice.initial) ∧ t.pending = s.pending ∧ t.boot.flash = s.boot.flash ∧
    t.boot.keys = s.boot.keys ∧ t.rd .BOOT_FUSES = s.rd .BOOT_FUSES ∧
    ∀ r i j k l, r ≠ .BOOT_FUSES → r ≠ .BOOT_STATUS → t.rd r i j k l = RegKey.resetValue ⟨r, i, j, k, l⟩

/-- Memory stays: the bytes of every store read as before. -/
def sameBytes (s t : State) : Prop := ∀ id a, (t.store id).byteAt a = (s.store id).byteAt a

/-- Bits of register instances that a command may change: the instances of `reg` whose indices begin with `idx`, and in them `width` bits
from bit `lo`. -/
structure Part where
  reg : Reg
  idx : List Nat
  lo : Nat := 0
  width : Nat := 32
deriving DecidableEq, Repr

/-- A field of the instances whose indices begin with `idx`. -/
def Field.part (f : Field) (idx : List Nat) : Part := { reg := f.reg, idx := idx, lo := f.lo, width := f.width }

/-- Whether a part takes in bit `b` of an instance. -/
def Part.covers (x : Part) (r : Reg) (idx : List Nat) (b : Nat) : Bool :=
  decide (x.reg = r) && x.idx.isPrefixOf idx && decide (x.lo ≤ b) && decide (b < x.lo + x.width)

/-- Every bit of every register instance reads as before but those listed. -/
def sameRegs (l : List Part) (s t : State) : Prop :=
  ∀ r i j k m b, (l.any fun x => x.covers r [i, j, k, m] b) = false → (t.rd r i j k m).getLsbD b = (s.rd r i j k m).getLsbD b

/-- What an event record may change of the registers (R519, R520, R533). -/
def eventParts : List Part := [F.EVT_QSTATUS_PEAK.part [], { reg := .EVT_LOST, idx := [] }, F.EVT_STATUS_LOST.part []]

/-- All registers of the blocks of slice n (R525 to R527). -/
def sliceParts (n : Fin 16) : List Part :=
  (.FF_CNT_CLR :: Reg.blockSLC ++ Reg.blockSEQ ++ Reg.blockVEC ++ Reg.blockTON ++ Reg.blockTXC ++ Reg.blockRXC ++ Reg.blockPIN ++ Reg.blockFF ++ Reg.blockMAD ++
    Reg.blockTDC ++ Reg.blockACQ ++ Reg.blockTSET ++ Reg.blockDMX).map (fun r => { reg := r, idx := [n.val] })

/-- All registers of some blocks of the global region (R525, R526). -/
def globalParts (l : List Reg) : List Part := l.map (fun r => { reg := r, idx := [] })

/-- Every other slice is as before: its stores, its units and what they hold. -/
def otherSlices (n : Fin 16) (s t : State) : Prop := ∀ m, m ≠ n → t.sl m = s.sl m

/-- The sequencer of slice n finishes an instruction: `next` is at SEQ_PC, and it runs on, or halts after a STEP (R103, R149). -/
abbrev seqMoves (s t : State) (n : Fin 16) (next : Nat) : Prop :=
  seqPc t n = next ∧ seqState t n = (if (s.sl n).seq.stepping then 0 else 1) ∧ (t.sl n).seq.pend = none

/-- One more instruction has issued (R155). -/
abbrev seqCounts (s t : State) (n : Fin 16) : Prop :=
  t.pair .SEQ_ISSUED_LO .SEQ_ISSUED_HI n = min (s.pair .SEQ_ISSUED_LO .SEQ_ISSUED_HI n + 1) (2 ^ 64 - 1)

/-- The sequencer of slice n holds `i` at SEQ_PC, in state `code` of R106, and the next issue is at tick `due` where it waits. -/
abbrev seqHolds (s t : State) (n : Fin 16) (i : SeqInstr) (due code : Nat) : Prop :=
  (t.sl n).seq.pend = some { instr := i, index := seqPc s n, issued := s.now, due := due, hit := none } ∧ seqState t n = code ∧ seqCounts s t n

/-- The sequencer of slice n stops with an error at `p` and reports it (R152). -/
abbrev seqStops (t : State) (n : Fin 16) (err p : Nat) : Prop :=
  seqState t n = 5 ∧ t.fld F.SEQ_STATUS_ERR n = err ∧ t.fld F.SEQ_ERR_PC_INDEX n = p ∧ seqPc t n = p ∧ (t.sl n).seq.pend = none ∧
    { pair := { src := 3, scope := n.val, index := p + err * 2 ^ 18 }, injected := false, dry := false } ∈ t.flt.raised

/-- A NOP stands in the fetch buffer of slice n at index `p`, from an earlier beat (R111, R112). -/
abbrev nopFetched (s : State) (n : Fin 16) (p : Nat) (f : FetchLine) : Prop :=
  (s.sl n).seq.fetch.find? (fun f => f.line = p / 8 ∧ f.fetched < s.now) = some f ∧ f.poison = [] ∧
    decodeSeq ((f.data.drop (16 * (p % 8))).take 16) = some .nop

/-- A packet of a type waits at a host port, comes from the peer of the open session, is the next in order, fits the receive space and
carries no NAK (R506, R507, R510). -/
def ctpInOrder (s : State) (p : Fin 2) (k : CtpPacket) (kind : Nat) : Bool :=
  ctpWaits s p k kind && ctpFromPeer s p k && decide ((k.psn.toNat + 2 ^ 24 - (s.hp p).rxPsn) % 2 ^ 24 = 1) && !k.nak &&
    decide (ctpUnits k.data.length ≤ (1024 + (s.hp p).freed + 2 ^ 32 - (s.hp p).rxUnits) % 2 ^ 32)

/-- Such a packet is a whole new request, on a port where nothing is outstanding (R509, R512, R513). -/
def ctpNewRequest (s : State) (p : Fin 2) (k : CtpPacket) (kind : Nat) : Bool :=
  ctpInOrder s p k kind && (s.hp p).jobs.isEmpty && decide (k.tag.toNat ∉ (s.hp p).tags) && k.sop && k.eop && decide (k.offset = 0)

/-- What the parts of a burst to another device have written: the lengths of the parts that were answered with STATUS 0 (R547, R548). -/
def burstWrote (b : DmaBurst) : Nat := ((b.parts.filter (fun p => p.reply.any (fun r => r.1 == 0))).map DmaPart.len).sum

/-- A step answers a next state: neither a fault nor a refusal. -/
def goesOn (s : State) : Prop := ∃ t, step s = .next t

end Sys2Proof.Machine
end

