-- ==== Sys2Proof/WellFormed.lean ====
section
/-!
DEFINITION. Well-formed commands: the ranges of operands that their types leave wider than the device does.
-/

namespace Sys2Proof

/-- A register address is a multiple of 4 (R9, R512). -/
def wordAligned (a : BitVec 40) : Bool := a.toNat % 4 == 0

/-- How many lines a store has (R34). -/
def StoreId.lineCount : StoreId → Nat
  | .slice _ => 24576
  | .central => 131072

/-- A request names a line of its store and bytes of one line (R34, R37). -/
def StoreReq.wf (r : StoreReq) (id : StoreId) : Bool :=
  decide (r.line < id.lineCount) && (match r.write with
    | some l => l.all (fun x => decide (x.1 < 128))
    | none => true)

/-- A 64-bit word of a store (R35). -/
def upsetWf (id : StoreId) (u : Nat × Bool) : Bool := decide (u.1 < id.lineCount * 16)

/-- A short event word (R115): its operand has 6 bits. -/
def EventWord.shortWf (e : EventWord) : Bool := !e.long && decide (e.data.toNat < 64)

/-- The words of EMIT: six short ones (R109, R115). -/
def emitWf (l : List EventWord) : Bool := l.length == 6 && l.all EventWord.shortWf

/-- The words of EMITL: three long ones (R109, R115). -/
def emitlWf (l : List EventWord) : Bool := l.length == 3 && l.all EventWord.long

/-- A well-formed instruction of the slice sequencer. -/
def SeqInstr.wf : SeqInstr → Bool
  | .emit ws => emitWf ws
  | .emitl ws => emitlWf ws
  | _ => true

/-- The readings of a contact check: one for every pin of the slice (R229). -/
def readingsWf (l : List PinReading) : Bool := l.length == 32

/-- The readings of a trigger calibration: one sum for every line (R452). -/
def sumsWf (l : List Int) : Bool := l.length == 8

/-- A fault pair (R635, R658, R659): its fields fit the log. -/
def FaultPair.wf (p : FaultPair) : Bool := decide (p.src < 64) && decide (p.scope < 32) && decide (p.index < 2 ^ 24)

def pairsWf (l : List FaultPair) : Bool := l.all FaultPair.wf

/-- A fabric packet carries at most 1,024 bytes (R475). -/
def KtlPacket.wf (k : KtlPacket) : Bool := decide (k.data.length ≤ 1024)

/-- A flit carries at most 160 bytes of a packet, in steps of 16 (R466). -/
def KtlFlit.wf (f : KtlFlit) : Bool :=
  match f.payload with
  | .part _ _ _ l => decide (l.length ≤ 160) && decide (l.length % 16 = 0)
  | _ => true

/-- A CTP packet carries at most 8,192 bytes (R512). -/
def CtpPacket.wf (k : CtpPacket) : Bool := decide (k.data.length ≤ 8192)

def HostFrame.wf (f : HostFrame) : Bool :=
  match f.payload with
  | .ctp _ _ k => k.wf
  | _ => true

/-- What a boot phase finds names a line of its store (R684). -/
def BootFindings.wf : BootFindings → Bool
  | .march (some x) => decide (x.2 < x.1.lineCount)
  | _ => true

/-- The sets of a foreground run: one for each of the 23 local converters (R610, R626). -/
def setsWf : Option (List (List (BitVec 32))) → Bool
  | some l => l.length == 23
  | none => true

/-- A busy percentage (R699). -/
def loadWf (v : BitVec 7) : Bool := decide (v.toNat ≤ 100)

/-- A well-formed command. -/
def Instr.wf : Instr → Bool
  | .poresetAssert => true
  | .poresetDeassert => true
  | .railUndervoltage _ => true
  | .railRestored => true
  | .thermalTrip => true
  | .thermalRecover => true
  | .invarLock => true
  | .xtalFail => true
  | .beatBoundary _ => true
  | .beatOverrun _ => true
  | .regWrite _ addr _ => wordAligned addr
  | .pairLowRead addr => wordAligned addr
  | .pairLowWrite _ addr _ => wordAligned addr
  | .pairHighWrite _ addr _ => wordAligned addr
  | .counterClear _ addr _ => wordAligned addr
  | .storeAccess id reqs upsets => reqs.all (fun r => r.wf id) && upsets.all (upsetWf id)
  | .scrubStep _ => true
  | .wheelStart _ => true
  | .wheelRunning _ => true
  | .wheelStop _ => true
  | .wheelStopped _ => true
  | .wheelCommit _ => true
  | .mapCopy _ => true
  | .storePwrReq _ _ => true
  | .storePwrSettled _ => true
  | .storeWakeDone _ => true
  | .imgCheck => true
  | .imgReload _ => true
  | .imgFull _ => true
  | .imgAbort => true
  | .imgCheckDone => true
  | .imgFullEnd _ => true
  | .reloadDrain _ => true
  | .reloadIsolate _ => true
  | .reloadLoad _ => true
  | .reloadVerify _ _ => true
  | .reloadReady _ => true
  | .reloadRejoin _ => true
  | .reloadLate _ => true
  | .nop _ => true
  | .halt _ _ => true
  | .jump _ _ _ => true
  | .call _ _ => true
  | .ret _ => true
  | .loop _ _ _ _ _ => true
  | .endloop _ => true
  | .wait _ _ => true
  | .waitExpire _ => true
  | .waita _ _ => true
  | .waitaReached _ => true
  | .waitv _ _ _ _ _ => true
  | .waitvResolve _ => true
  | .waitvTimeout _ => true
  | .sync _ _ _ _ => true
  | .syncResolve _ => true
  | .syncTimeout _ => true
  | .idle _ _ _ => true
  | .idleExpire _ => true
  | .elastic _ _ => true
  | .elasticResolve _ => true
  | .elasticExpired _ => true
  | .emit _ words => emitWf words
  | .emitl _ words => emitlWf words
  | .branch _ _ _ _ _ _ _ _ => true
  | .branchResolve _ => true
  | .branchTimeout _ => true
  | .cmpr _ _ _ _ _ _ => true
  | .cmprResolve _ => true
  | .cmprTimeout _ => true
  | .clrv _ _ => true
  | .seqRun _ => true
  | .seqFirstIssue _ => true
  | .seqHalt _ => true
  | .seqStep _ => true
  | .clrNew _ => true
  | .seqPcWrite _ _ => true
  | .verdictLatch _ _ => true
  | .vecStart _ _ => true
  | .vecBreak _ => true
  | .vecHalt _ _ => true
  | .vectorBoundary _ _ => true
  | .windowOpen _ _ => true
  | .windowClose _ _ => true
  | .pinSummaryVerdict _ => true
  | .fcMark _ _ => true
  | .fcReset _ => true
  | .ringWpAdvance _ _ _ => true
  | .tsetWrite _ _ addr _ => wordAligned addr
  | .loadEnable _ _ => true
  | .pmuSwitchDone _ _ => true
  | .pmuModeChange _ _ _ _ => true
  | .pmuForceResume _ _ => true
  | .guardInRise _ => true
  | .guardEntry => true
  | .guardInFall _ => true
  | .guardDebounceEnd _ readings => readingsWf readings
  | .pinRelease _ _ => true
  | .ccStart _ readings => readingsWf readings
  | .ccEnd _ => true
  | .ccAbort _ => true
  | .toneSegment _ _ _ => true
  | .toneZero _ _ => true
  | .rampdownEnd _ _ => true
  | .toneTrack _ _ _ => true
  | .tonePhase _ _ _ _ => true
  | .segmentBoundary _ _ => true
  | .markerListAction _ _ => true
  | .markerLow _ _ _ => true
  | .markerHigh _ _ _ => true
  | .markerList _ _ _ => true
  | .toneFlush _ _ => true
  | .toneEntryWrite _ _ _ _ _ => true
  | .txEnable _ _ => true
  | .txWakeDone _ _ => true
  | .txDisable _ _ => true
  | .txMute _ _ => true
  | .txUnmute _ _ => true
  | .trackRetune _ _ _ _ => true
  | .trackRebase _ _ _ => true
  | .trackAccRead _ _ => true
  | .rxEnable _ _ => true
  | .rxWakeDone _ _ => true
  | .rxDisable _ _ => true
  | .rxSettleEnd _ _ => true
  | .binTrigger _ _ _ => true
  | .binCancel _ _ => true
  | .binWindowEnd _ _ _ => true
  | .discriminate _ _ => true
  | .binResult _ _ => true
  | .wramWrite _ _ _ _ _ => true
  | .dmxResultRead _ _ => true
  | .acqArm _ _ => true
  | .acqTrigger _ => true
  | .acqStop _ => true
  | .acqItem _ _ _ => true
  | .prefillDone _ _ => true
  | .acqSegmentEnd _ _ => true
  | .acqStreamFree _ _ => true
  | .verdictReady _ => true
  | .verdictMsgReceive _ _ => true
  | .importDeliver _ => true
  | .holdOnset _ => true
  | .holdEnd _ => true
  | .ffCode _ _ _ _ => true
  | .ffSpan _ _ _ => true
  | .ffHiz _ _ => true
  | .ffSequenceEnd _ _ => true
  | .ffLimitAct _ _ => true
  | .ffCheckConversion _ _ _ => true
  | .ffLimitRelease _ _ => true
  | .ffCheckDeadline _ _ => true
  | .ffShortClear _ _ => true
  | .madTrigger _ _ => true
  | .madAbort _ => true
  | .madConversionEnd _ _ _ => true
  | .madRepeatStart _ => true
  | .selfcal _ => true
  | .selfcalEnd _ _ => true
  | .syscal _ => true
  | .syscalEnd _ _ _ => true
  | .applyf _ => true
  | .factorApply _ => true
  | .madResLoRead _ => true
  | .madResHiRead _ => true
  | .madDisable _ => true
  | .tdcArm _ _ _ => true
  | .tdcDisarm _ _ => true
  | .tdcGate _ _ => true
  | .tdcEdge _ _ _ _ _ => true
  | .tdcStopExpire _ _ => true
  | .tdcIntervalOvf _ _ => true
  | .tdcGateClose _ _ => true
  | .tdcResultEnqueue _ => true
  | .tdcServoRef _ _ _ _ => true
  | .tdcResultRead _ => true
  | .tdcDisable _ _ => true
  | .invRefLoss => true
  | .invRefRestore => true
  | .invDiscLock => true
  | .chainFrameTx => true
  | .chainFrameRx _ _ => true
  | .chainReturnTurn => true
  | .chainReturnStamp _ => true
  | .chainAverage => true
  | .chainHoldover _ => true
  | .chainRoleWrite _ _ => true
  | .realign => true
  | .epoch => true
  | .epochApply => true
  | .trgDriveWrite _ => true
  | .trgTinForward _ _ => true
  | .trgTransition _ _ _ => true
  | .trgEdgeEffect _ => true
  | .trgCal => true
  | .trgCalStart => true
  | .trgCalEnd sums => sumsWf sums
  | .trgPosWrite _ _ => true
  | .ktlTrainBlock _ _ _ => true
  | .ktlPortUp _ _ => true
  | .ktlPortDown _ _ => true
  | .ktlRetrain _ => true
  | .ktlFlitTx _ => true
  | .ktlFlitRx _ flit _ => flit.wf
  | .linkNoticeRx _ _ => true
  | .discover => true
  | .discRx _ _ => true
  | .discReportRx _ _ _ => true
  | .topoFloodRx _ _ => true
  | .ktlCommit => true
  | .join => true
  | .joinRx _ _ _ => true
  | .routeFailover _ => true
  | .routeRestore _ => true
  | .unreachDeclare _ => true
  | .fabricPacketRx _ packet => packet.wf
  | .barrierComplete _ => true
  | .barrierArriveRx _ _ => true
  | .barrierReleaseRx _ _ => true
  | .barrierAbortRx _ _ => true
  | .barrierRelease _ => true
  | .hostFrameRx _ frame => frame.wf
  | .hostLinkUp _ => true
  | .hostLinkDown _ => true
  | .connect _ packet => packet.wf
  | .disconnect _ packet => packet.wf
  | .ack _ packet => packet.wf
  | .regRd _ packet => packet.wf
  | .regWr _ packet => packet.wf
  | .memRd _ packet => packet.wf
  | .memWr _ packet => packet.wf
  | .tunnelCompletion packet => packet.wf
  | .tunnelTimeout _ _ => true
  | .completionSend _ => true
  | .ctpRto _ => true
  | .ctpAckTimer _ => true
  | .eventPacketSend => true
  | .evtRd0Read => true
  | .todLatch => true
  | .todStep => true
  | .ptpMessage _ _ _ => true
  | .dmaStart _ => true
  | .dmaAbort _ => true
  | .dmaFlush _ => true
  | .clrBuserr => true
  | .dmaBurstGrant => true
  | .dmaBurstDone _ => true
  | .dmaDescEnd _ => true
  | .dmaBusError => true
  | .nopFrame _ _ => true
  | .replayRead _ => true
  | .page _ => true
  | .rd _ => true
  | .rdn _ => true
  | .wr _ => true
  | .wrn _ => true
  | .strm _ => true
  | .strmn _ => true
  | .streamWord _ _ => true
  | .pwAddr _ => true
  | .pwWrb _ => true
  | .pwRdb _ => true
  | .pwRun => true
  | .pwHalt => true
  | .pwClrfail => true
  | .pwStrobe _ => true
  | .pewterOpen => true
  | .pewterClose => true
  | .accGo => true
  | .accAbort => true
  | .accFrameEnd _ => true
  | .domainOffReq _ _ => true
  | .domainOnReq _ => true
  | .domainDrainEnd _ => true
  | .domainDrainTimeout _ => true
  | .domainOff _ => true
  | .domainWakeDone _ => true
  | .admissionGrant => true
  | .budgetWrite _ => true
  | .pwrMeasBlock _ => true
  | .txGovTrip _ => true
  | .ffGovTrip _ => true
  | .pinGovTrip _ _ _ => true
  | .govRearm _ => true
  | .calBlockComplete _ _ _ => true
  | .calDitherStep _ => true
  | .calDitherStepEnd _ _ => true
  | .stage _ _ => true
  | .stageAt _ _ => true
  | .cancel _ => true
  | .calGapApply _ => true
  | .calNamedApply _ => true
  | .calAgeTick => true
  | .fgStart _ => true
  | .fgAbort _ => true
  | .fgEnd _ sets => setsWf sets
  | .save => true
  | .vaultSaveEnd _ _ => true
  | .faultReport faults broken quiet => pairsWf faults && pairsWf broken && pairsWf quiet
  | .fltAck _ => true
  | .selfTestStart => true
  | .selfTestResult _ _ => true
  | .selfTestTimeout _ => true
  | .recover => true
  | .safe => true
  | .inject => true
  | .recoveryStart => true
  | .recoveryEnd _ => true
  | .journalEnable => true
  | .journalDisable => true
  | .journalPartialFlush => true
  | .flush => true
  | .journalSpill _ => true
  | .replay => true
  | .replayStart => true
  | .replayRecord => true
  | .replayStarved => true
  | .stop => true
  | .bootPhaseAdvance findings => findings.wf
  | .tryFw => true
  | .confirm => true
  | .commitSecver => true
  | .setImg => true
  | .runGo => true
  | .runGoSeqWrite => true
  | .flashRead => true
  | .flashErase => true
  | .flashWrite => true
  | .flashOpEnd _ => true
  | .keyWrite => true
  | .lockKey => true
  | .revoke => true
  | .mgtHalt => true
  | .mgtRestart => true
  | .swap => true
  | .swapQuiesceTimeout => true
  | .wdogKick _ => true
  | .wdogExpire => true
  | .mgtLoadBlock load => loadWf load
  | .info _ packet => packet.wf
  | .serviceSwap _ packet => packet.wf
  | .serviceSave _ packet => packet.wf
  | .fgAll _ packet => packet.wf
  | .bypass _ => true
  | .idcode _ => true
  | .samplePreload _ _ => true
  | .extest _ _ => true
  | .clamp _ => true
  | .highz _ => true
  | .extestPulse _ _ => true
  | .extestTrain _ _ => true
  | .clkInLock => true
  | .dmaRemoteTimeout _ => true
  | .dieLinkSound _ => true
  | .periodicVaultSave _ => true

/-- Well-formedness as a proposition. -/
abbrev WellFormed (i : Instr) : Prop := i.wf = true

end Sys2Proof
end

