-- ==== Sys2Proof/Certificates/Slice0/Obligations.lean ====
section
/-!
DEFINITION. The statements. Each says for named commands when they complete and what the next state then holds; what a clause
does not name of the registers, of memory or of the other slices is as before.
-/

open Sys2Proof Sys2Proof.Machine

/-- For every state whose queue begins with a command, a step is that command on the state with the rest of the queue. On an empty queue the
block idles: the step answers the state itself (the model's choice, log entry 1). -/
def Obligations.StepRunsFront : Prop :=
  (∀ (s : State) (c : Instr) (l : List Instr), s.pending = c :: l → step s = exec c { s with pending := l }) ∧
  (∀ s : State, s.pending = [] → step s = .next s)

/-- Whatever the state and the operands, a command of the table answers a next state: the spec gives every one of them an effect, or says
that it is ignored. -/
def Obligations.EveryCommandGoesOn : Prop :=
  ∀ (c : Instr) (s : State), ∃ t, exec c s = .next t

/-- In the state right after reset the lists of the register file, of the central store and of the sixteen slice stores rise strictly and
list nothing that an unlisted place reads as. -/
def Obligations.CanonicalAtReset : Prop :=
  State.reset.canonical = true

/-- PORESET_N low, a rail below its threshold and a junction at its trip temperature each put the device in reset; a device that runs keeps
only what reset keeps (fuses, flash, keys, waiting commands). When the last cause goes the device is in phase CLOCK. Reset values that
the spec does not give are the model's choice (log entries 2 and 3). -/
def Obligations.SupervisionResets : Prop :=
  (∀ (s : State), s.inReset = false → ∃ t, exec .poresetAssert s = .next t ∧ t.inReset = true ∧ t.supply.poreset = true ∧ afterReset s t) ∧
  (∀ (s : State) (rail : Fin 10), s.inReset = false → ∃ t, exec (.railUndervoltage rail) s = .next t ∧ t.inReset = true ∧ t.supply.rails = BitVec.ofNat
      10 (2 ^ rail.val) ∧ afterReset s t) ∧
  (∀ (s : State), s.inReset = false → ∃ t, exec .thermalTrip s = .next t ∧ t.inReset = true ∧ t.supply.hot = true ∧ afterReset s t) ∧
  (∀ (s : State), s.supply.poreset = true → s.supply.rails = 0 → s.supply.hot = false → ∃ t, exec .poresetDeassert s = .next t ∧ t.inReset = false ∧
      t.fld F.BOOT_STATUS_PHASE = 1 ∧ t.flag F.BOOT_STATUS_TAP_REFUSED = s.tap.refused ∧ afterReset s t) ∧
  (∀ (s : State), s.supply.poreset = false → s.supply.rails ≠ 0 → s.supply.hot = false → ∃ t, exec .railRestored s = .next t ∧ t.inReset = false ∧ t.fld
      F.BOOT_STATUS_PHASE = 1 ∧ afterReset s t) ∧
  (∀ (s : State), s.supply.poreset = false → s.supply.rails = 0 → s.supply.hot = true → ∃ t, exec .thermalRecover s = .next t ∧ t.inReset = false ∧ t.fld
      F.BOOT_STATUS_PHASE = 1 ∧ afterReset s t)

/-- INVAR_LOCK in phase CLOCK sets INV_STATUS.LOCK and starts the beat count at 0; XTAL_FAIL holds the device with ERR XTAL. A BEAT_BOUNDARY
of a device that runs and is locked advances the ticks by one; before the lock it changes nothing. A missed beat of a slice unit raises
BEAT_OVERRUN with the unit code as INDEX, and its job is abandoned; one of a central unit raises BEAT_OVERRUN_C. -/
def Obligations.ClockAndOverruns : Prop :=
  (∀ (s : State), s.inReset = false → s.fld F.BOOT_STATUS_PHASE = 1 → s.flag F.INV_STATUS_LOCK = false → ∃ t, exec .invarLock s = .next t ∧ t.flag
      F.INV_STATUS_LOCK = true ∧ t.beat = 0 ∧ t.now = s.now ∧ sameRegs [F.INV_STATUS_LOCK.part []] s t ∧ sameBytes s t) ∧
  (∀ (s : State), s.inReset = false → s.fld F.BOOT_STATUS_PHASE = 1 → s.flag F.INV_STATUS_LOCK = false → ∃ t, exec .xtalFail s = .next t ∧ t.flag
      F.INV_STATUS_XTAL_FAIL = true ∧ t.fld F.BOOT_STATUS_PHASE = 10 ∧ t.fld F.BOOT_STATUS_ERR = 1 ∧ t.flag F.INV_STATUS_LOCK = false ∧ sameRegs
      [F.INV_STATUS_XTAL_FAIL.part [], F.BOOT_STATUS_PHASE.part [], F.BOOT_STATUS_ERR.part []] s t ∧ sameBytes s t) ∧
  (∀ (s : State) (o : BitVec 32), s.inReset = false → s.flag F.INV_STATUS_LOCK = true → ∃ t, exec (.beatBoundary o) s = .next t ∧ t.now = s.now + 1) ∧
  (∀ (s : State) (o : BitVec 32), s.flag F.INV_STATUS_LOCK = false → exec (.beatBoundary o) s = .next (s)) ∧
  (∀ (s : State) (n : Fin 16) (u : BitVec 7), ∃ t, exec (.beatOverrun (.slice n u)) s = .next t ∧
      { pair := { src := 0x10, scope := n.val, index := u.toNat }, injected := false, dry := false } ∈ t.flt.raised ∧ sameRegs (sliceParts n) s t ∧
      otherSlices n s t ∧ sameBytes s t) ∧
  (∀ (s : State) (u : BitVec 24), ∃ t, exec (.beatOverrun (.central u)) s = .next t ∧
      { pair := { src := 0x11, scope := 16, index := u.toNat }, injected := false, dry := false } ∈ t.flt.raised ∧ t.xbar.ready = [] ∧ (∀ n, t.sl n =
      s.sl n) ∧ sameRegs [] s t ∧ sameBytes s t)

/-- What each TAP instruction shifts out at TAP_TDO, what it captures and preloads, and what then drives the lands; nothing else changes.
IDCODE shifts out 0x1166454F, least significant bit first. Instructions that drive or release lands act so while PORESET_N is low; on a
device that runs they act as BYPASS and set TAP_REFUSED. -/
def Obligations.BoundaryScan : Prop :=
  (∀ (s : State) (tdi : List Bool), exec (.bypass tdi) s = .next
      ({ s with tap := { s.tap with tdo := (false :: tdi).take tdi.length, drive := .functional } })) ∧
  (∀ (s : State) (count : Nat), count ≤ 32 → exec (.idcode count) s = .next
      ({ s with tap := { s.tap with tdo := (List.range count).map (fun i => (0x1166454F : Nat).testBit i), drive := .functional } })) ∧
  (∀ (s : State) (lands tdi : List Bool), exec (.samplePreload lands tdi) s = .next
      ({ s with tap := { s.tap with captured := lands, tdo := (lands ++ tdi).take tdi.length, preload := (lands ++ tdi).drop tdi.length, drive := .functional } })) ∧
  (∀ (s : State) (lands tdi : List Bool), s.supply.poreset = true → exec (.extest lands tdi) s = .next
      ({ s with tap := { s.tap with captured := lands, tdo := (lands ++ tdi).take tdi.length, preload := (lands ++ tdi).drop tdi.length, drive := .extest } })) ∧
  (∀ (s : State) (lands tdi : List Bool), s.supply.poreset = true → exec (.extestPulse lands tdi) s = .next
      ({ s with tap := { s.tap with captured := lands, tdo := (lands ++ tdi).take tdi.length, preload := (lands ++ tdi).drop tdi.length, drive := .pulse } })) ∧
  (∀ (s : State) (lands tdi : List Bool), s.supply.poreset = true → exec (.extestTrain lands tdi) s = .next
      ({ s with tap := { s.tap with captured := lands, tdo := (lands ++ tdi).take tdi.length, preload := (lands ++ tdi).drop tdi.length, drive := .train } })) ∧
  (∀ (s : State) (tdi : List Bool), s.supply.poreset = true → exec (.clamp tdi) s = .next
      ({ s with tap := { s.tap with tdo := (false :: tdi).take tdi.length, drive := .clamp } })) ∧
  (∀ (s : State) (tdi : List Bool), s.supply.poreset = true → exec (.highz tdi) s = .next
      ({ s with tap := { s.tap with tdo := (false :: tdi).take tdi.length, drive := .highz } })) ∧
  (∀ (s : State) (lands tdi : List Bool) (c : Instr), c ∈
      [Instr.extest lands tdi, .extestPulse lands tdi, .extestTrain lands tdi, .clamp tdi, .highz tdi] → s.inReset = false → ∃ t, exec c s = .next t ∧
      t.tap = { s.tap with tdo := (false :: tdi).take tdi.length, drive := .functional } ∧ t.flag F.BOOT_STATUS_TAP_REFUSED = true ∧ sameRegs
      [F.BOOT_STATUS_TAP_REFUSED.part []] s t ∧ sameBytes s t)

/-- START takes a STOPPED wheel to STARTING, with the default start boundary or with the named beat; the boundary takes it to RUNNING, STOP
to STOPPING, the next boundary to STOPPED. COMMIT makes a copy pending and MAP_COPY makes the shadow map active. Every other register
and all memory stay. A commit whose shadow map assigns a reserved owner code (6 to 15) is refused at its wheel boundary: MAP_ERR is set,
COMMIT_PEND clears, and no slot of the active map changes. -/
def Obligations.WheelCommands : Prop :=
  (∀ (s : State) (n : Fin 16), wheelState s n = 0 → s.fld F.SLC_WHEEL_CTRL_USE_START_BEAT n = 0 → ∃ t, exec (.wheelStart n) s = .next t ∧ wheelState t n
      = 1 ∧ (t.sl n).wheel.startAt = s.now + (wheelBoundary (s.beat + 2) - s.beat) ∧ sameRegs [F.SLC_WHEEL_STATUS_STATE.part [n]] s t ∧ sameBytes s t) ∧
  (∀ (s : State) (n : Fin 16) (b : Nat), wheelState s n = 0 → s.fld F.SLC_WHEEL_CTRL_USE_START_BEAT n = 1 → s.pair .SLC_WHEEL_START_LO
      .SLC_WHEEL_START_HI n = b → b % 16 = 0 → s.beat + 2 ≤ b → ∃ t, exec (.wheelStart n) s = .next t ∧ wheelState t n = 1 ∧ (t.sl n).wheel.startAt =
      s.now + (b - s.beat) ∧ sameRegs [F.SLC_WHEEL_STATUS_STATE.part [n]] s t ∧ sameBytes s t) ∧
  (∀ (s : State) (n : Fin 16), wheelState s n = 1 → (s.sl n).wheel.startAt ≤ s.now → ∃ t, exec (.wheelRunning n) s = .next t ∧ wheelState t n = 2 ∧
      sameRegs [F.SLC_WHEEL_STATUS_STATE.part [n]] s t ∧ sameBytes s t) ∧
  (∀ (s : State) (n : Fin 16), wheelState s n = 2 → ∃ t, exec (.wheelStop n) s = .next t ∧ wheelState t n = 3 ∧ (t.sl n).wheel.stopAt = s.now +
      (wheelBoundary (s.beat + 1) - s.beat) ∧ sameRegs [F.SLC_WHEEL_STATUS_STATE.part [n]] s t ∧ sameBytes s t) ∧
  (∀ (s : State) (n : Fin 16), wheelState s n = 3 → (s.sl n).wheel.stopAt ≤ s.now → ∃ t, exec (.wheelStopped n) s = .next t ∧ wheelState t n = 0 ∧
      sameRegs [F.SLC_WHEEL_STATUS_STATE.part [n]] s t ∧ sameBytes s t) ∧
  (∀ (s : State) (n : Fin 16), ∃ t, exec (.wheelCommit n) s = .next t ∧ t.fld F.SLC_WHEEL_STATUS_COMMIT_PEND n = 1 ∧ (t.sl n).wheel.copyAt = s.now +
      (wheelBoundary (s.beat + 2) - s.beat) ∧ sameRegs [F.SLC_WHEEL_STATUS_COMMIT_PEND.part [n]] s t ∧ sameBytes s t) ∧
  (∀ (s : State) (n : Fin 16), s.fld F.SLC_WHEEL_STATUS_COMMIT_PEND n = 1 → (s.sl n).wheel.copyAt ≤ s.now → s.storeOn (.slice n) = true → (∀ i : Fin 64,
      ((shadowMap s n).get i).toNat ≤ 5) → ∃ t, exec (.mapCopy n) s = .next t ∧ (t.sl n).wheel.map = shadowMap s n ∧ t.fld
      F.SLC_WHEEL_STATUS_COMMIT_PEND n = 0 ∧ sameRegs [F.SLC_WHEEL_STATUS_COMMIT_PEND.part [n], F.SLC_WHEEL_STATUS_FREE.part [n]] s t ∧ sameBytes s t) ∧
  (∀ (s : State) (n : Fin 16) (i : Fin 64), s.fld F.SLC_WHEEL_STATUS_COMMIT_PEND n = 1 → (s.sl n).wheel.copyAt ≤ s.now → 5 < ((shadowMap s n).get
      i).toNat → ∃ t, exec (.mapCopy n) s = .next t ∧ (t.sl n).wheel.map = (s.sl n).wheel.map ∧ t.fld F.SLC_WHEEL_STATUS_MAP_ERR n = 1 ∧ t.fld
      F.SLC_WHEEL_STATUS_COMMIT_PEND n = 0 ∧ sameRegs [F.SLC_WHEEL_STATUS_COMMIT_PEND.part [n], F.SLC_WHEEL_STATUS_MAP_ERR.part [n]] s t ∧ sameBytes s t)

/-- A request for ON from RETAIN begins the wake of 500 beats. An entry into OFF completes with every byte of that store lost (the zero that
it reads is what R58 gives after the wake) and no other store changed; an entry into RETAIN keeps every byte; a wake whose time has come
leaves the store ON with its bytes. Alone at an idle central store, a host write of one whole 64-bit word is in memory and every other
byte stays; a host read of a line without errors delivers its bytes; each uses one of the four core cycles of the beat. The scrubber
first rewrites a queued line, which then has no single-bit error, and memory stays. -/
def Obligations.Stores : Prop :=
  (∀ (s : State) (n : Fin 16), s.fld F.PWR_DOM_STATE n = 0 → s.storePower (.slice n) = 1 → ∃ t, exec (.storePwrReq (.slice n) 0) s = .next t ∧
      t.storePower (.slice n) = 3 ∧ (t.sl n).store.pwrDue = some (s.now + 500) ∧ sameRegs [F.SLC_STORE_PWR_STATE.part [n]] s t ∧ sameBytes s t) ∧
  (∀ (s : State) (id : StoreId), s.storePower id = 3 → (s.store id).pwrTarget = 2 → ∃ t, exec (.storePwrSettled id) s = .next t ∧ t.storePower id = 2 ∧
      (∀ j, j ≠ id → t.storePower j = s.storePower j) ∧ (∀ a, (t.store id).byteAt a = 0) ∧ (∀ j a, j ≠ id → (t.store j).byteAt a = (s.store j).byteAt a)
      ∧ sameRegs [F.SLC_STORE_PWR_STATE.part [], F.GLB_CSTORE_PWR_STATE.part []] s t) ∧
  (∀ (s : State) (id : StoreId), s.storePower id = 3 → (s.store id).pwrTarget = 1 → ∃ t, exec (.storePwrSettled id) s = .next t ∧ t.storePower id = 1 ∧
      (∀ j, j ≠ id → t.storePower j = s.storePower j) ∧ sameRegs [F.SLC_STORE_PWR_STATE.part [], F.GLB_CSTORE_PWR_STATE.part []] s t ∧ sameBytes s t) ∧
  (∀ (s : State) (id : StoreId) (d : Nat), s.storePower id = 3 → (s.store id).pwrTarget = 0 → (s.store id).pwrDue = some d → d ≤ s.now → ∃ t, exec
      (.storeWakeDone id) s = .next t ∧ t.storeOn id = true ∧ (∀ j, j ≠ id → t.storePower j = s.storePower j) ∧ sameRegs
      [F.SLC_STORE_PWR_STATE.part [], F.GLB_CSTORE_PWR_STATE.part []] s t ∧ sameBytes s t) ∧
  (∀ (s : State) (line w : Nat) (data : List Byte), s.storeOn .central = true → s.cstore.cycle < 4 → s.cstore.waiting = [] → journalWant s = none → line
      < 131072 → w < 16 → data.length = 8 → s.flt.tests = [] → ∃ t, exec (.storeAccess .central
      [⟨.host, line, some ((List.range 8).map (fun i => (8 * w + i, data.getD i 0)))⟩] []) s = .next t ∧ (∀ i, i < 8 → t.cstore.byteAt (line * 128 + 8 *
      w + i) = data.getD i 0) ∧ (∀ a, a < line * 128 + 8 * w ∨ line * 128 + 8 * w + 8 ≤ a → t.cstore.byteAt a = s.cstore.byteAt a) ∧ t.cstore.cycle =
      s.cstore.cycle + 1 ∧ (∀ n, (t.sl n).store = (s.sl n).store) ∧ sameRegs [] s t) ∧
  (∀ (s : State) (line : Nat), s.storeOn .central = true → s.cstore.cycle < 4 → s.cstore.waiting = [] → journalWant s = none → line < 131072 →
      s.cstore.linePoison line = [] → s.cstore.lineSingle line = [] → s.flt.inject = none → ∃ t, exec (.storeAccess .central [⟨.host, line, none⟩] []) s
      = .next t ∧ t.cstore.out = s.cstore.read (line * 128) 128 ∧ t.cstore.outPoison = [] ∧ t.cstore.cycle = s.cstore.cycle + 1 ∧ sameRegs [] s t ∧
      sameBytes s t) ∧
  (∀ (s : State) (line : Nat) (rest : List Nat), s.storeOn .central = true → s.cstore.cycle < 4 → s.cstore.waiting = [] → journalWant s = none → s.fld
      F.GLB_CSTORE_SCRUB_INTERVAL = 16 → s.cstore.scrubDue = s.now → s.cstore.rewrite = line :: rest → ∃ t, exec (.scrubStep .central) s = .next t ∧
      t.cstore.rewrite = rest ∧ (∀ w ∈ t.cstore.single, w / 16 ≠ line) ∧ t.cstore.scrubDue = s.now + 16 ∧ sameRegs [] s t ∧ sameBytes s t)

/-- An instruction that can issue finishes in its beat and the next one stands at SEQ_PC: p + 1 after NOP, the target after JUMP (with POP
loop entries popped) and CALL (with p + 1 pushed on the call stack), the popped index after RET. The sequencer runs on, or halts after a
STEP; SEQ_ISSUED counts. Nothing else changes but the sequencer of that slice. LOOP with a count of at least one pushes (start p + 1,
end END, remaining count) and goes on at p + 1; a count of zero goes on at END + 1 with the stack unchanged; the count comes from COUNT
or SEQ_LCOUNT[REG]. ENDLOOP at the end index of the top entry goes back to its start while more than one repetition remains, else pops
it and goes on at p + 1. -/
def Obligations.SeqTransfersAndLoops : Prop :=
  (∀ (s : State) (n : Fin 16), seqCanIssue s n = true → seqPc s n < lastIndex → ∃ t, exec (.nop n) s = .next t ∧ seqMoves s t n (seqPc s n + 1) ∧
      seqCounts s t n ∧ sameRegs
      [F.SEQ_PC_INDEX.part [n], F.SEQ_STATUS_STATE.part [n], { reg := .SEQ_ISSUED_LO, idx := [n] }, { reg := .SEQ_ISSUED_HI, idx := [n] }] s t ∧
      otherSlices n s t ∧ sameBytes s t) ∧
  (∀ (s : State) (n : Fin 16) (target : BitVec 18) (pop : BitVec 3), seqCanIssue s n = true → seqPc s n < lastIndex → target.toNat ≤ lastIndex →
      pop.toNat ≤ (s.sl n).seq.loops.length → ∃ t, exec (.jump n target pop) s = .next t ∧ seqMoves s t n (target.toNat) ∧ seqCounts s t n ∧ (t.sl
      n).seq.loops = (s.sl n).seq.loops.drop pop.toNat ∧ sameRegs
      [F.SEQ_PC_INDEX.part [n], F.SEQ_STATUS_STATE.part [n], { reg := .SEQ_ISSUED_LO, idx := [n] }, { reg := .SEQ_ISSUED_HI, idx := [n] }] s t ∧
      otherSlices n s t ∧ sameBytes s t) ∧
  (∀ (s : State) (n : Fin 16) (target : BitVec 18), seqCanIssue s n = true → seqPc s n < lastIndex → target.toNat ≤ lastIndex → (s.sl n).seq.calls.length
      < 16 → ∃ t, exec (.call n target) s = .next t ∧ seqMoves s t n (target.toNat) ∧ seqCounts s t n ∧ (t.sl n).seq.calls = (seqPc s n + 1) :: (s.sl
      n).seq.calls ∧ sameRegs
      [F.SEQ_PC_INDEX.part [n], F.SEQ_STATUS_STATE.part [n], { reg := .SEQ_ISSUED_LO, idx := [n] }, { reg := .SEQ_ISSUED_HI, idx := [n] }] s t ∧
      otherSlices n s t ∧ sameBytes s t) ∧
  (∀ (s : State) (n : Fin 16) (r : Nat) (rest : List Nat), seqCanIssue s n = true → seqPc s n < lastIndex → (s.sl n).seq.calls = r :: rest → r ≤
      lastIndex → ∃ t, exec (.ret n) s = .next t ∧ seqMoves s t n (r) ∧ seqCounts s t n ∧ (t.sl n).seq.calls = rest ∧ sameRegs
      [F.SEQ_PC_INDEX.part [n], F.SEQ_STATUS_STATE.part [n], { reg := .SEQ_ISSUED_LO, idx := [n] }, { reg := .SEQ_ISSUED_HI, idx := [n] }] s t ∧
      otherSlices n s t ∧ sameBytes s t) ∧
  (∀ (s : State) (n : Fin 16) (count : BitVec 32) (endIndex : BitVec 18) (fromReg : Bool) (reg : BitVec 3) (c : Nat), seqCanIssue s n = true → seqPc s n
      < lastIndex → c = (if fromReg then s.fld F.SEQ_LCOUNT_COUNT n reg.toNat else count.toNat) → c ≠ 0 → seqPc s n < endIndex.toNat → endIndex.toNat ≤
      lastIndex → (s.sl n).seq.loops.length < 8 → ∃ t, exec (.loop n count endIndex fromReg reg) s = .next t ∧ seqMoves s t n (seqPc s n + 1) ∧
      seqCounts s t n ∧ (t.sl n).seq.loops = { start := seqPc s n + 1, endIndex := endIndex.toNat, remaining := c } :: (s.sl n).seq.loops ∧ sameRegs
      [F.SEQ_PC_INDEX.part [n], F.SEQ_STATUS_STATE.part [n], { reg := .SEQ_ISSUED_LO, idx := [n] }, { reg := .SEQ_ISSUED_HI, idx := [n] }] s t ∧
      otherSlices n s t ∧ sameBytes s t) ∧
  (∀ (s : State) (n : Fin 16) (count : BitVec 32) (endIndex : BitVec 18) (fromReg : Bool) (reg : BitVec 3), seqCanIssue s n = true → seqPc s n <
      lastIndex → (if fromReg then s.fld F.SEQ_LCOUNT_COUNT n reg.toNat else count.toNat) = 0 → seqPc s n < endIndex.toNat → endIndex.toNat < lastIndex
      → ∃ t, exec (.loop n count endIndex fromReg reg) s = .next t ∧ seqMoves s t n (endIndex.toNat + 1) ∧ seqCounts s t n ∧ (t.sl n).seq.loops = (s.sl
      n).seq.loops ∧ sameRegs
      [F.SEQ_PC_INDEX.part [n], F.SEQ_STATUS_STATE.part [n], { reg := .SEQ_ISSUED_LO, idx := [n] }, { reg := .SEQ_ISSUED_HI, idx := [n] }] s t ∧
      otherSlices n s t ∧ sameBytes s t) ∧
  (∀ (s : State) (n : Fin 16) (l : LoopEntry) (rest : List LoopEntry), seqCanIssue s n = true → seqPc s n < lastIndex → (s.sl n).seq.loops = l :: rest →
      l.endIndex = seqPc s n → 1 < l.remaining → l.start ≤ lastIndex → ∃ t, exec (.endloop n) s = .next t ∧ seqMoves s t n (l.start) ∧ seqCounts s t n ∧
      (t.sl n).seq.loops = { l with remaining := l.remaining - 1 } :: rest ∧ sameRegs
      [F.SEQ_PC_INDEX.part [n], F.SEQ_STATUS_STATE.part [n], { reg := .SEQ_ISSUED_LO, idx := [n] }, { reg := .SEQ_ISSUED_HI, idx := [n] }] s t ∧
      otherSlices n s t ∧ sameBytes s t) ∧
  (∀ (s : State) (n : Fin 16) (l : LoopEntry) (rest : List LoopEntry), seqCanIssue s n = true → seqPc s n < lastIndex → (s.sl n).seq.loops = l :: rest →
      l.endIndex = seqPc s n → l.remaining ≤ 1 → ∃ t, exec (.endloop n) s = .next t ∧ seqMoves s t n (seqPc s n + 1) ∧ seqCounts s t n ∧ (t.sl
      n).seq.loops = rest ∧ sameRegs
      [F.SEQ_PC_INDEX.part [n], F.SEQ_STATUS_STATE.part [n], { reg := .SEQ_ISSUED_LO, idx := [n] }, { reg := .SEQ_ISSUED_HI, idx := [n] }] s t ∧
      otherSlices n s t ∧ sameBytes s t)

/-- EMIT and EMITL schedule each event word that names a unit for the boundary of beat X + 1 + OFFSET, in the order of the words, and go on
at p + 1. CLRV clears the new mark of every input its descriptor selects and of no other input. A verdict in its due beat becomes the
copy of its input at the slice, with the new mark set and its flight left for the slice. SEQ_CTRL.CLR_NEW clears the new marks of all
verdicts, imports and flags of the slice. -/
def Obligations.SeqEventsAndMarks : Prop :=
  (∀ (s : State) (n : Fin 16) (words : List EventWord), seqCanIssue s n = true → seqPc s n < lastIndex → words.all eventOk = true → ∃ t, exec (.emit n
      words) s = .next t ∧ seqMoves s t n (seqPc s n + 1) ∧ seqCounts s t n ∧ (t.sl n).seq.events = (s.sl n).seq.events ++ (words.filter (fun w =>
      w.unit ≠ 0)).map (fun w => { due := s.now + 1 + w.offset.toNat, unit := w.unit, act := w.act, data := w.data }) ∧ sameRegs
      [F.SEQ_PC_INDEX.part [n], F.SEQ_STATUS_STATE.part [n], { reg := .SEQ_ISSUED_LO, idx := [n] }, { reg := .SEQ_ISSUED_HI, idx := [n] }] s t ∧
      otherSlices n s t ∧ sameBytes s t) ∧
  (∀ (s : State) (n : Fin 16) (words : List EventWord), seqCanIssue s n = true → seqPc s n < lastIndex → words.all eventOk = true → ∃ t, exec (.emitl n
      words) s = .next t ∧ seqMoves s t n (seqPc s n + 1) ∧ seqCounts s t n ∧ (t.sl n).seq.events = (s.sl n).seq.events ++ (words.filter (fun w =>
      w.unit ≠ 0)).map (fun w => { due := s.now + 1 + w.offset.toNat, unit := w.unit, act := w.act, data := w.data }) ∧ sameRegs
      [F.SEQ_PC_INDEX.part [n], F.SEQ_STATUS_STATE.part [n], { reg := .SEQ_ISSUED_LO, idx := [n] }, { reg := .SEQ_ISSUED_HI, idx := [n] }] s t ∧
      otherSlices n s t ∧ sameBytes s t) ∧
  (∀ (s : State) (n : Fin 16) (desc : BitVec 6), seqCanIssue s n = true → seqPc s n < lastIndex → descOk s n desc.toNat = true → ∃ t, exec (.clrv n desc)
      s = .next t ∧ seqMoves s t n (seqPc s n + 1) ∧ seqCounts s t n ∧ (∀ x ∈ descSelectors s n desc.toNat, inputNew t n x = false) ∧ (∀ x,
      (descSelectors s n desc.toNat).all (fun y => decide (y.kind ≠ x.kind ∨ y.index ≠ x.index)) = true → inputNew t n x = inputNew s n x) ∧ sameRegs
      [F.SEQ_PC_INDEX.part [n], F.SEQ_STATUS_STATE.part [n], { reg := .SEQ_ISSUED_LO, idx := [n] }, { reg := .SEQ_ISSUED_HI, idx := [n] }, { reg := .SEQ_VNEW, idx := [n] }, { reg := .SEQ_XNEW, idx := [n] }, F.SEQ_FLAGS_NEW.part [n]]
      s t ∧ otherSlices n s t ∧ sameBytes s t) ∧
  (∀ (s : State) (n : Fin 16) (v : Fin 1024) (f : VerdictFlight), s.xbar.flight = [f] → f.isFor (.verdict v) → f.slices = BitVec.ofNat 16 (2 ^ n.val) →
      f.due = s.now → f.imported = false → f.value < 4 → (s.sl n).isolated = false → (s.sl n).reloading = false → s.rpl.replaying = false → inputNew s n
      (inputSel (.verdict v)) = false → ∃ t, exec (.verdictLatch n (.verdict v)) s = .next t ∧ inputValue t n (inputSel (.verdict v)) = f.value ∧
      inputNew t n (inputSel (.verdict v)) = true ∧ t.xbar.flight = [] ∧ sameRegs [{ reg := .SEQ_VNEW, idx := [n] }] s t ∧ otherSlices n s t ∧ sameBytes
      s t) ∧
  (∀ (s : State) (n : Fin 16), ∃ t, exec (.clrNew n) s = .next t ∧ (∀ r, r < 32 → t.fld F.SEQ_VNEW_NEW n r = 0) ∧ (∀ r, r < 8 → t.fld F.SEQ_XNEW_NEW n r
      = 0) ∧ t.fld F.SEQ_FLAGS_NEW n = 0 ∧ sameRegs [{ reg := .SEQ_VNEW, idx := [n] }, { reg := .SEQ_XNEW, idx := [n] }, F.SEQ_FLAGS_NEW.part [n]] s t ∧
      otherSlices n s t ∧ sameBytes s t)

/-- WAIT issued in beat X holds the sequencer in WAITING until beat X + max(BEATS, 1). In that beat the wait ends and the next instruction
issues: a NOP that stands fetched at the next index issues and the sequencer moves past it. Everything outside that slice's sequencer
stays. -/
def Obligations.SeqWait : Prop :=
  (∀ (s : State) (n : Fin 16) (beats : BitVec 32), seqCanIssue s n = true → seqPc s n < lastIndex → ∃ t, exec (.wait n beats) s = .next t ∧ seqHolds s t
      n (.wait beats) (s.now + max beats.toNat 1) 2 ∧ seqPc t n = seqPc s n ∧ sameRegs
      [F.SEQ_PC_INDEX.part [n], F.SEQ_STATUS_STATE.part [n], { reg := .SEQ_ISSUED_LO, idx := [n] }, { reg := .SEQ_ISSUED_HI, idx := [n] }] s t ∧
      otherSlices n s t ∧ sameBytes s t) ∧
  (∀ (s : State) (n : Fin 16) (q : PendingInstr) (f : FetchLine) (b : BitVec 32), (s.sl n).seq.pend = some q → q.instr = .wait b → q.due ≤ s.now →
      q.index + 2 ≤ lastIndex → (s.sl n).seq.stepping = false → (s.sl n).seq.starting = false → nopFetched s n (q.index + 1) f → ∃ t, exec (.waitExpire
      n) s = .next t ∧ seqMoves s t n (q.index + 2) ∧ seqCounts s t n ∧ sameRegs
      [F.SEQ_PC_INDEX.part [n], F.SEQ_STATUS_STATE.part [n], { reg := .SEQ_ISSUED_LO, idx := [n] }, { reg := .SEQ_ISSUED_HI, idx := [n] }] s t ∧
      otherSlices n s t ∧ sameBytes s t)

/-- WAITA holds until the named beat; a beat that is not ahead makes it hold one beat, with SEQ_LATE counted and LATE set. IDLE holds for
max(BEATS, 1) beats. When the beat has come, the wait ends and the next instruction issues in that same beat; so does the instruction at
SEQ_PC at the start beat of a RUN. -/
def Obligations.SeqWaits : Prop :=
  (∀ (s : State) (n : Fin 16) (beat : BitVec 64), seqCanIssue s n = true → seqPc s n < lastIndex → s.beat + 1 ≤ beat.toNat → ∃ t, exec (.waita n beat) s
      = .next t ∧ seqHolds s t n (.waita beat) (s.now + (beat.toNat - s.beat)) 2 ∧ seqPc t n = seqPc s n ∧ sameRegs
      [F.SEQ_PC_INDEX.part [n], F.SEQ_STATUS_STATE.part [n], { reg := .SEQ_ISSUED_LO, idx := [n] }, { reg := .SEQ_ISSUED_HI, idx := [n] }] s t ∧
      otherSlices n s t ∧ sameBytes s t) ∧
  (∀ (s : State) (n : Fin 16) (beat : BitVec 64), seqCanIssue s n = true → seqPc s n < lastIndex → beat.toNat < s.beat + 1 → ∃ t, exec (.waita n beat) s
      = .next t ∧ seqHolds s t n (.waita beat) (s.now + 1) 2 ∧ seqPc t n = seqPc s n ∧ t.rd .SEQ_LATE n = satCount (s.rd .SEQ_LATE n) 1 ∧ t.fld
      F.SEQ_STATUS_LATE n = 1 ∧ sameRegs
      [F.SEQ_PC_INDEX.part [n], F.SEQ_STATUS_STATE.part [n], { reg := .SEQ_ISSUED_LO, idx := [n] }, { reg := .SEQ_ISSUED_HI, idx := [n] }, { reg := .SEQ_LATE, idx := [n] }, F.SEQ_STATUS_LATE.part [n]]
      s t ∧ otherSlices n s t ∧ sameBytes s t) ∧
  (∀ (s : State) (n : Fin 16) (q : PendingInstr) (f : FetchLine) (b : BitVec 64), (s.sl n).seq.pend = some q → q.instr = .waita b → q.due ≤ s.now →
      q.index + 2 ≤ lastIndex → (s.sl n).seq.stepping = false → (s.sl n).seq.starting = false → nopFetched s n (q.index + 1) f → ∃ t, exec
      (.waitaReached n) s = .next t ∧ seqMoves s t n (q.index + 2) ∧ seqCounts s t n ∧ sameRegs
      [F.SEQ_PC_INDEX.part [n], F.SEQ_STATUS_STATE.part [n], { reg := .SEQ_ISSUED_LO, idx := [n] }, { reg := .SEQ_ISSUED_HI, idx := [n] }] s t ∧
      otherSlices n s t ∧ sameBytes s t) ∧
  (∀ (s : State) (n : Fin 16) (beats : BitVec 32) (offer : BitVec 23), seqCanIssue s n = true → seqPc s n < lastIndex → ∃ t, exec (.idle n beats offer) s
      = .next t ∧ seqHolds s t n (.idle beats offer) (s.now + max beats.toNat 1) 2 ∧ seqPc t n = seqPc s n ∧ sameRegs
      [F.SEQ_PC_INDEX.part [n], F.SEQ_STATUS_STATE.part [n], { reg := .SEQ_ISSUED_LO, idx := [n] }, { reg := .SEQ_ISSUED_HI, idx := [n] }] s t ∧
      otherSlices n s t ∧ sameBytes s t) ∧
  (∀ (s : State) (n : Fin 16) (q : PendingInstr) (f : FetchLine) (b : BitVec 32) (o : BitVec 23), (s.sl n).seq.pend = some q → q.instr = .idle b o →
      q.due ≤ s.now → q.index + 2 ≤ lastIndex → (s.sl n).seq.stepping = false → (s.sl n).seq.starting = false → nopFetched s n (q.index + 1) f → ∃ t,
      exec (.idleExpire n) s = .next t ∧ seqMoves s t n (q.index + 2) ∧ seqCounts s t n ∧ sameRegs
      [F.SEQ_PC_INDEX.part [n], F.SEQ_STATUS_STATE.part [n], { reg := .SEQ_ISSUED_LO, idx := [n] }, { reg := .SEQ_ISSUED_HI, idx := [n] }] s t ∧
      otherSlices n s t ∧ sameBytes s t) ∧
  (∀ (s : State) (n : Fin 16) (f : FetchLine), seqCanIssue s n = true → seqPc s n < lastIndex → (s.sl n).seq.starting = true → nopFetched s n (seqPc s n)
      f → ∃ t, exec (.seqFirstIssue n) s = .next t ∧ seqMoves s t n (seqPc s n + 1) ∧ seqCounts s t n ∧ sameRegs
      [F.SEQ_PC_INDEX.part [n], F.SEQ_STATUS_STATE.part [n], { reg := .SEQ_ISSUED_LO, idx := [n] }, { reg := .SEQ_ISSUED_HI, idx := [n] }] s t ∧
      otherSlices n s t ∧ sameBytes s t)

/-- WAITV whose input is not new blocks. A new matching value resolves it: the new mark clears and the next instruction is p + 1. If the
limit is reached without one, SEQ_TIMEOUTS counts, TIMEOUT is set and the next instruction is TMO_TARGET. SYNC of KIND 0 (rise) or 1
(fall) blocks until an edge of that direction takes effect in the beat, which moves it to p + 1; at its limit it goes to TMO_TARGET.
ELASTIC waits while the streamer is not ready, counting the beats held; readiness moves it to p + 1, and so does MAX_EXT, which sets
ELASTIC_EXPIRED. -/
def Obligations.SeqVerdictWaitsAndSyncs : Prop :=
  (∀ (s : State) (n : Fin 16) (sel : BitVec 16) (mask want : BitVec 2) (tmo : Timeout), seqCanIssue s n = true → seqPc s n < lastIndex → issueCheck s n
      (seqPc s n) (.waitv sel mask want tmo) = none → inputNew s n (Selector.ofBits sel.toNat) = false → ∃ t, exec (.waitv n sel mask want tmo) s =
      .next t ∧ seqHolds s t n (.waitv sel mask want tmo) 0 3 ∧ seqPc t n = seqPc s n ∧ sameRegs
      [F.SEQ_PC_INDEX.part [n], F.SEQ_STATUS_STATE.part [n], { reg := .SEQ_ISSUED_LO, idx := [n] }, { reg := .SEQ_ISSUED_HI, idx := [n] }] s t ∧
      otherSlices n s t ∧ sameBytes s t) ∧
  (∀ (s : State) (n : Fin 16) (q : PendingInstr) (sel : BitVec 16) (mask want : BitVec 2) (tmo : Timeout), (s.sl n).seq.pend = some q → q.instr = .waitv
      sel mask want tmo → q.index < lastIndex → inputNew s n (Selector.ofBits sel.toNat) = true → inputValue s n (Selector.ofBits sel.toNat) &&&
      mask.toNat = want.toNat → (Selector.ofBits sel.toNat).index ≤ 255 ∨ (Selector.ofBits sel.toNat).kind = .verdict → ∃ t, exec (.waitvResolve n) s =
      .next t ∧ seqMoves s t n (q.index + 1) ∧ inputNew t n (Selector.ofBits sel.toNat) = false ∧ sameRegs
      [F.SEQ_PC_INDEX.part [n], F.SEQ_STATUS_STATE.part [n], { reg := .SEQ_VNEW, idx := [n] }, { reg := .SEQ_XNEW, idx := [n] }, F.SEQ_FLAGS_NEW.part [n]]
      s t ∧ otherSlices n s t ∧ sameBytes s t) ∧
  (∀ (s : State) (n : Fin 16) (q : PendingInstr) (sel : BitVec 16) (mask want : BitVec 2) (tmo : Timeout), (s.sl n).seq.pend = some q → q.instr = .waitv
      sel mask want tmo → inputNew s n (Selector.ofBits sel.toNat) = false → tmo.beats ≠ 0 → q.issued + tmo.beats.toNat ≤ s.now → tmo.stop = false →
      tmo.target.toNat ≤ lastIndex → ∃ t, exec (.waitvTimeout n) s = .next t ∧ seqMoves s t n tmo.target.toNat ∧ t.rd .SEQ_TIMEOUTS n = satCount (s.rd
      .SEQ_TIMEOUTS n) 1 ∧ t.fld F.SEQ_STATUS_TIMEOUT n = 1 ∧ sameRegs
      [F.SEQ_PC_INDEX.part [n], F.SEQ_STATUS_STATE.part [n], F.SEQ_STATUS_TIMEOUT.part [n], { reg := .SEQ_TIMEOUTS, idx := [n] }] s t ∧ otherSlices n s
      t ∧ sameBytes s t) ∧
  (∀ (s : State) (n : Fin 16) (kind : BitVec 2) (id : BitVec 8) (tmo : Timeout), seqCanIssue s n = true → seqPc s n < lastIndex → issueCheck s n (seqPc s
      n) (.sync kind id tmo) = none → kind ≠ 2 → syncEdge s kind id = false → ∃ t, exec (.sync n kind id tmo) s = .next t ∧ seqHolds s t n (.sync kind
      id tmo) 0 3 ∧ seqPc t n = seqPc s n ∧ sameRegs
      [F.SEQ_PC_INDEX.part [n], F.SEQ_STATUS_STATE.part [n], { reg := .SEQ_ISSUED_LO, idx := [n] }, { reg := .SEQ_ISSUED_HI, idx := [n] }] s t ∧
      otherSlices n s t ∧ sameBytes s t) ∧
  (∀ (s : State) (n : Fin 16) (q : PendingInstr) (kind : BitVec 2) (id : BitVec 8) (tmo : Timeout), (s.sl n).seq.pend = some q → q.instr = .sync kind id
      tmo → q.index < lastIndex → kind ≠ 2 → syncEdge s kind id = true → ∃ t, exec (.syncResolve n) s = .next t ∧ seqMoves s t n (q.index + 1) ∧
      sameRegs [F.SEQ_PC_INDEX.part [n], F.SEQ_STATUS_STATE.part [n]] s t ∧ otherSlices n s t ∧ sameBytes s t) ∧
  (∀ (s : State) (n : Fin 16) (q : PendingInstr) (kind : BitVec 2) (id : BitVec 8) (tmo : Timeout), (s.sl n).seq.pend = some q → q.instr = .sync kind id
      tmo → kind ≠ 2 → syncEdge s kind id = false → tmo.beats ≠ 0 → q.issued + tmo.beats.toNat ≤ s.now → tmo.stop = false → tmo.target.toNat ≤ lastIndex
      → ∃ t, exec (.syncTimeout n) s = .next t ∧ seqMoves s t n tmo.target.toNat ∧ t.rd .SEQ_TIMEOUTS n = satCount (s.rd .SEQ_TIMEOUTS n) 1 ∧ t.fld
      F.SEQ_STATUS_TIMEOUT n = 1 ∧ sameRegs
      [F.SEQ_PC_INDEX.part [n], F.SEQ_STATUS_STATE.part [n], F.SEQ_STATUS_TIMEOUT.part [n], { reg := .SEQ_TIMEOUTS, idx := [n] }] s t ∧ otherSlices n s
      t ∧ sameBytes s t) ∧
  (∀ (s : State) (n : Fin 16) (maxExt : BitVec 24), seqCanIssue s n = true → seqPc s n < lastIndex → maxExt ≠ 0 → vecReady s n = false → ∃ t, exec
      (.elastic n maxExt) s = .next t ∧ seqHolds s t n (.elastic maxExt) 0 2 ∧ seqPc t n = seqPc s n ∧ t.rd .SEQ_ELASTIC_BEATS n = satCount (s.rd
      .SEQ_ELASTIC_BEATS n) 1 ∧ sameRegs
      [F.SEQ_PC_INDEX.part [n], F.SEQ_STATUS_STATE.part [n], { reg := .SEQ_ISSUED_LO, idx := [n] }, { reg := .SEQ_ISSUED_HI, idx := [n] }, { reg := .SEQ_ELASTIC_BEATS, idx := [n] }]
      s t ∧ otherSlices n s t ∧ sameBytes s t) ∧
  (∀ (s : State) (n : Fin 16) (q : PendingInstr) (m : BitVec 24), (s.sl n).seq.pend = some q → q.instr = .elastic m → q.index < lastIndex → vecReady s n
      = true → ∃ t, exec (.elasticResolve n) s = .next t ∧ seqMoves s t n (q.index + 1) ∧ sameRegs
      [F.SEQ_PC_INDEX.part [n], F.SEQ_STATUS_STATE.part [n]] s t ∧ otherSlices n s t ∧ sameBytes s t) ∧
  (∀ (s : State) (n : Fin 16) (q : PendingInstr) (m : BitVec 24), (s.sl n).seq.pend = some q → q.instr = .elastic m → q.index < lastIndex → vecReady s n
      = false → q.issued + m.toNat ≤ s.now → ∃ t, exec (.elasticExpired n) s = .next t ∧ seqMoves s t n (q.index + 1) ∧ t.fld
      F.SEQ_STATUS_ELASTIC_EXPIRED n = 1 ∧ sameRegs [F.SEQ_PC_INDEX.part [n], F.SEQ_STATUS_STATE.part [n], F.SEQ_STATUS_ELASTIC_EXPIRED.part [n]] s t ∧
      otherSlices n s t ∧ sameBytes s t)

/-- A BRANCH in LATEST mode goes at once to the target that its descriptor's result selects. In NEW mode it blocks until every selected
input is new, then goes to the selected target and clears those new marks; at its limit it goes to p + 1 with SEQ_TIMEOUTS counted and
TIMEOUT set. CMPR blocks until a result of its source has entered the result queue. In a later beat its flag takes the code with a new
mark and the instruction at p + 1 issues. At its limit without a result it goes to TMO_TARGET with SEQ_TIMEOUTS counted. -/
def Obligations.SeqBranchesAndCompares : Prop :=
  (∀ (s : State) (n : Fin 16) (desc : BitVec 6) (timeout : BitVec 16) (t0 t1 t2 t3 : BitVec 18), seqCanIssue s n = true → seqPc s n < lastIndex →
      [t0.toNat, t1.toNat, t2.toNat, t3.toNat].all (fun x => decide (x ≤ lastIndex)) = true → descOk s n desc.toNat = true → ∃ t, exec (.branch n desc
      false timeout t0 t1 t2 t3) s = .next t ∧ seqMoves s t n (branchTarget (descResult s n desc.toNat) t0 t1 t2 t3) ∧ seqCounts s t n ∧ sameRegs
      [F.SEQ_PC_INDEX.part [n], F.SEQ_STATUS_STATE.part [n], { reg := .SEQ_ISSUED_LO, idx := [n] }, { reg := .SEQ_ISSUED_HI, idx := [n] }] s t ∧
      otherSlices n s t ∧ sameBytes s t) ∧
  (∀ (s : State) (n : Fin 16) (desc : BitVec 6) (timeout : BitVec 16) (t0 t1 t2 t3 : BitVec 18), seqCanIssue s n = true → seqPc s n < lastIndex →
      [t0.toNat, t1.toNat, t2.toNat, t3.toNat].all (fun x => decide (x ≤ lastIndex)) = true → descOk s n desc.toNat = true → descAllNew s n desc.toNat =
      false → ∃ t, exec (.branch n desc true timeout t0 t1 t2 t3) s = .next t ∧ seqHolds s t n (.branch desc true timeout t0 t1 t2 t3) 0 3 ∧ seqPc t n =
      seqPc s n ∧ sameRegs
      [F.SEQ_PC_INDEX.part [n], F.SEQ_STATUS_STATE.part [n], { reg := .SEQ_ISSUED_LO, idx := [n] }, { reg := .SEQ_ISSUED_HI, idx := [n] }] s t ∧
      otherSlices n s t ∧ sameBytes s t) ∧
  (∀ (s : State) (n : Fin 16) (q : PendingInstr) (desc : BitVec 6) (timeout : BitVec 16) (t0 t1 t2 t3 : BitVec 18), (s.sl n).seq.pend = some q → q.instr
      = .branch desc true timeout t0 t1 t2 t3 → [t0.toNat, t1.toNat, t2.toNat, t3.toNat].all (fun x => decide (x ≤ lastIndex)) = true → descOk s n
      desc.toNat = true → descAllNew s n desc.toNat = true → ∃ t, exec (.branchResolve n) s = .next t ∧ seqMoves s t n (branchTarget (descResult s n
      desc.toNat) t0 t1 t2 t3) ∧ (∀ x ∈ descSelectors s n desc.toNat, inputNew t n x = false) ∧ sameRegs
      [F.SEQ_PC_INDEX.part [n], F.SEQ_STATUS_STATE.part [n], { reg := .SEQ_VNEW, idx := [n] }, { reg := .SEQ_XNEW, idx := [n] }, F.SEQ_FLAGS_NEW.part [n]]
      s t ∧ otherSlices n s t ∧ sameBytes s t) ∧
  (∀ (s : State) (n : Fin 16) (q : PendingInstr) (desc : BitVec 6) (timeout : BitVec 16) (t0 t1 t2 t3 : BitVec 18), (s.sl n).seq.pend = some q → q.instr
      = .branch desc true timeout t0 t1 t2 t3 → q.index < lastIndex → descAllNew s n desc.toNat = false → timeout ≠ 0 → q.issued + timeout.toNat ≤ s.now
      → ∃ t, exec (.branchTimeout n) s = .next t ∧ seqMoves s t n (q.index + 1) ∧ t.rd .SEQ_TIMEOUTS n = satCount (s.rd .SEQ_TIMEOUTS n) 1 ∧ t.fld
      F.SEQ_STATUS_TIMEOUT n = 1 ∧ sameRegs
      [F.SEQ_PC_INDEX.part [n], F.SEQ_STATUS_STATE.part [n], F.SEQ_STATUS_TIMEOUT.part [n], { reg := .SEQ_TIMEOUTS, idx := [n] }] s t ∧ otherSlices n s
      t ∧ sameBytes s t) ∧
  (∀ (s : State) (n : Fin 16) (adc : Bool) (ch : BitVec 6) (flag : BitVec 3) (lim : BitVec 4) (tmo : Timeout), seqCanIssue s n = true → seqPc s n <
      lastIndex → issueCheck s n (seqPc s n) (.cmpr adc ch flag lim tmo) = none → ∃ t, exec (.cmpr n adc ch flag lim tmo) s = .next t ∧ seqHolds s t n
      (.cmpr adc ch flag lim tmo) 0 3 ∧ seqPc t n = seqPc s n ∧ sameRegs
      [F.SEQ_PC_INDEX.part [n], F.SEQ_STATUS_STATE.part [n], { reg := .SEQ_ISSUED_LO, idx := [n] }, { reg := .SEQ_ISSUED_HI, idx := [n] }] s t ∧
      otherSlices n s t ∧ sameBytes s t) ∧
  (∀ (s : State) (n : Fin 16) (q : PendingInstr) (adc : Bool) (ch : BitVec 6) (flag : BitVec 3) (lim : BitVec 4) (tmo : Timeout) (code k : Nat) (f :
      FetchLine), (s.sl n).seq.pend = some q → q.instr = .cmpr adc ch flag lim tmo → q.hit = some (code, k) → k < s.now → code < 4 → q.index + 2 ≤
      lastIndex → (s.sl n).seq.stepping = false → (s.sl n).seq.starting = false → nopFetched s n (q.index + 1) f → ∃ t, exec (.cmprResolve n) s = .next
      t ∧ seqMoves s t n (q.index + 2) ∧ bitsAt (t.fld F.SEQ_FLAGS_VALUE n) (2 * flag.toNat) 2 = code ∧ (t.fld F.SEQ_FLAGS_NEW n).testBit flag.toNat =
      true ∧ sameRegs
      [F.SEQ_PC_INDEX.part [n], F.SEQ_STATUS_STATE.part [n], { reg := .SEQ_ISSUED_LO, idx := [n] }, { reg := .SEQ_ISSUED_HI, idx := [n] }, F.SEQ_FLAGS_VALUE.part [n], F.SEQ_FLAGS_NEW.part [n]]
      s t ∧ otherSlices n s t ∧ sameBytes s t) ∧
  (∀ (s : State) (n : Fin 16) (q : PendingInstr) (adc : Bool) (ch : BitVec 6) (flag : BitVec 3) (lim : BitVec 4) (tmo : Timeout), (s.sl n).seq.pend =
      some q → q.instr = .cmpr adc ch flag lim tmo → q.hit = none → tmo.beats ≠ 0 → q.issued + tmo.beats.toNat ≤ s.now → tmo.stop = false →
      tmo.target.toNat ≤ lastIndex → ∃ t, exec (.cmprTimeout n) s = .next t ∧ seqMoves s t n tmo.target.toNat ∧ t.rd .SEQ_TIMEOUTS n = satCount (s.rd
      .SEQ_TIMEOUTS n) 1 ∧ t.fld F.SEQ_STATUS_TIMEOUT n = 1 ∧ sameRegs
      [F.SEQ_PC_INDEX.part [n], F.SEQ_STATUS_STATE.part [n], F.SEQ_STATUS_TIMEOUT.part [n], { reg := .SEQ_TIMEOUTS, idx := [n] }] s t ∧ otherSlices n s
      t ∧ sameBytes s t)

/-- RUN in HALTED or ERROR with the wheel RUNNING clears ERR and the stacks and waits for its start beat, 2 beats on; otherwise it only sets
RUN_REFUSED. STEP waits 2 beats likewise. A host HALT abandons what is pending and keeps SEQ_PC. The HALT instruction halts with SEQ_PC
past it and its code in SEQ_HALT_CODE. SEQ_PC is written only in HALTED or ERROR. -/
def Obligations.SeqControl : Prop :=
  (∀ (s : State) (n : Fin 16), seqState s n = 0 ∨ seqState s n = 5 → wheelState s n = 2 → s.fld F.SEQ_CTRL_USE_START_BEAT n = 0 → ∃ t, exec (.seqRun n) s
      = .next t ∧ seqState t n = 2 ∧ t.fld F.SEQ_STATUS_ERR n = 0 ∧ (t.sl n).seq.loops = [] ∧ (t.sl n).seq.calls = [] ∧ (t.sl n).seq.starting = true ∧
      (t.sl n).seq.startAt = s.now + 2 ∧ sameRegs [F.SEQ_STATUS_STATE.part [n], F.SEQ_STATUS_ERR.part [n]] s t ∧ otherSlices n s t ∧ sameBytes s t) ∧
  (∀ (s : State) (n : Fin 16), (seqState s n ≠ 0 ∧ seqState s n ≠ 5) ∨ wheelState s n ≠ 2 → exec (.seqRun n) s = .next (s.setFld F.SEQ_STATUS_RUN_REFUSED
      1 n)) ∧
  (∀ (s : State) (n : Fin 16), seqState s n = 0 → wheelState s n = 2 → ∃ t, exec (.seqStep n) s = .next t ∧ seqState t n = 2 ∧ (t.sl n).seq.starting =
      true ∧ (t.sl n).seq.stepping = true ∧ (t.sl n).seq.startAt = s.now + 2 ∧ sameRegs [F.SEQ_STATUS_STATE.part [n]] s t ∧ otherSlices n s t ∧
      sameBytes s t) ∧
  (∀ (s : State) (n : Fin 16), 1 ≤ seqState s n → seqState s n ≤ 4 → ∃ t, exec (.seqHalt n) s = .next t ∧ seqState t n = 0 ∧ (t.sl n).seq.pend = none ∧
      (t.sl n).seq.loops = (s.sl n).seq.loops ∧ (t.sl n).seq.calls = (s.sl n).seq.calls ∧ sameRegs [F.SEQ_STATUS_STATE.part [n]] s t ∧ otherSlices n s t
      ∧ sameBytes s t) ∧
  (∀ (s : State) (n : Fin 16) (code : BitVec 16), seqCanIssue s n = true → seqPc s n ≤ lastIndex → ∃ t, exec (.halt n code) s = .next t ∧ seqState t n =
      0 ∧ seqPc t n = seqPc s n + 1 ∧ t.fld F.SEQ_HALT_CODE_CODE n = code.toNat ∧ seqCounts s t n ∧ sameRegs
      ([F.SEQ_PC_INDEX.part [n], F.SEQ_STATUS_STATE.part [n], { reg := .SEQ_ISSUED_LO, idx := [n] }, { reg := .SEQ_ISSUED_HI, idx := [n] }, F.SEQ_HALT_CODE_CODE.part [n]]
      ++ eventParts) s t ∧ otherSlices n s t ∧ sameBytes s t) ∧
  (∀ (s : State) (n : Fin 16) (index : BitVec 18), seqState s n = 0 ∨ seqState s n = 5 → exec (.seqPcWrite n index) s = .next (s.setFld F.SEQ_PC_INDEX
      index.toNat n)) ∧
  (∀ (s : State) (n : Fin 16) (index : BitVec 18), seqState s n ≠ 0 → seqState s n ≠ 5 → exec (.seqPcWrite n index) s = .next (s))

/-- Advancing past the last index or transferring beyond it is BAD_ADDRESS; more pops than loops, or ENDLOOP on an empty stack, is
LOOP_UNDERFLOW; ENDLOOP away from the end of its loop is LOOP_MISMATCH; a 17th CALL is CALL_OVERFLOW; RET on an empty stack is
RET_UNDERFLOW; a ninth LOOP is LOOP_OVERFLOW. Each stops in ERROR with the code and the index in SEQ_ERR_PC and SEQ_PC, leaves the
stacks and reports SEQ_ERROR. -/
def Obligations.SeqErrors : Prop :=
  (∀ (s : State) (n : Fin 16), seqCanIssue s n = true → seqPc s n ≤ lastIndex → seqPc s n = lastIndex → ∃ t, exec (.nop n) s = .next t ∧ seqStops t n 3
      (seqPc s n) ∧ sameRegs
      ([F.SEQ_STATUS_STATE.part [n], F.SEQ_STATUS_ERR.part [n], F.SEQ_ERR_PC_INDEX.part [n], F.SEQ_PC_INDEX.part [n], { reg := .SEQ_ISSUED_LO, idx := [n] }, { reg := .SEQ_ISSUED_HI, idx := [n] }]
      ++ eventParts) s t ∧ otherSlices n s t ∧ sameBytes s t) ∧
  (∀ (s : State) (n : Fin 16) (target : BitVec 18) (pop : BitVec 3), seqCanIssue s n = true → seqPc s n ≤ lastIndex → lastIndex < target.toNat → ∃ t,
      exec (.jump n target pop) s = .next t ∧ seqStops t n 3 (seqPc s n) ∧ sameRegs
      ([F.SEQ_STATUS_STATE.part [n], F.SEQ_STATUS_ERR.part [n], F.SEQ_ERR_PC_INDEX.part [n], F.SEQ_PC_INDEX.part [n], { reg := .SEQ_ISSUED_LO, idx := [n] }, { reg := .SEQ_ISSUED_HI, idx := [n] }]
      ++ eventParts) s t ∧ otherSlices n s t ∧ sameBytes s t) ∧
  (∀ (s : State) (n : Fin 16) (target : BitVec 18) (pop : BitVec 3), seqCanIssue s n = true → seqPc s n ≤ lastIndex → target.toNat ≤ lastIndex → (s.sl
      n).seq.loops.length < pop.toNat → ∃ t, exec (.jump n target pop) s = .next t ∧ seqStops t n 5 (seqPc s n) ∧ (t.sl n).seq.loops = (s.sl
      n).seq.loops ∧ sameRegs
      ([F.SEQ_STATUS_STATE.part [n], F.SEQ_STATUS_ERR.part [n], F.SEQ_ERR_PC_INDEX.part [n], F.SEQ_PC_INDEX.part [n], { reg := .SEQ_ISSUED_LO, idx := [n] }, { reg := .SEQ_ISSUED_HI, idx := [n] }]
      ++ eventParts) s t ∧ otherSlices n s t ∧ sameBytes s t) ∧
  (∀ (s : State) (n : Fin 16) (target : BitVec 18), seqCanIssue s n = true → seqPc s n ≤ lastIndex → target.toNat ≤ lastIndex → 16 ≤ (s.sl
      n).seq.calls.length → ∃ t, exec (.call n target) s = .next t ∧ seqStops t n 7 (seqPc s n) ∧ sameRegs
      ([F.SEQ_STATUS_STATE.part [n], F.SEQ_STATUS_ERR.part [n], F.SEQ_ERR_PC_INDEX.part [n], F.SEQ_PC_INDEX.part [n], { reg := .SEQ_ISSUED_LO, idx := [n] }, { reg := .SEQ_ISSUED_HI, idx := [n] }]
      ++ eventParts) s t ∧ otherSlices n s t ∧ sameBytes s t) ∧
  (∀ (s : State) (n : Fin 16), seqCanIssue s n = true → seqPc s n ≤ lastIndex → (s.sl n).seq.calls = [] → ∃ t, exec (.ret n) s = .next t ∧ seqStops t n 8
      (seqPc s n) ∧ sameRegs
      ([F.SEQ_STATUS_STATE.part [n], F.SEQ_STATUS_ERR.part [n], F.SEQ_ERR_PC_INDEX.part [n], F.SEQ_PC_INDEX.part [n], { reg := .SEQ_ISSUED_LO, idx := [n] }, { reg := .SEQ_ISSUED_HI, idx := [n] }]
      ++ eventParts) s t ∧ otherSlices n s t ∧ sameBytes s t) ∧
  (∀ (s : State) (n : Fin 16), seqCanIssue s n = true → seqPc s n ≤ lastIndex → (s.sl n).seq.loops = [] → ∃ t, exec (.endloop n) s = .next t ∧ seqStops t
      n 5 (seqPc s n) ∧ sameRegs
      ([F.SEQ_STATUS_STATE.part [n], F.SEQ_STATUS_ERR.part [n], F.SEQ_ERR_PC_INDEX.part [n], F.SEQ_PC_INDEX.part [n], { reg := .SEQ_ISSUED_LO, idx := [n] }, { reg := .SEQ_ISSUED_HI, idx := [n] }]
      ++ eventParts) s t ∧ otherSlices n s t ∧ sameBytes s t) ∧
  (∀ (s : State) (n : Fin 16) (l : LoopEntry) (rest : List LoopEntry), seqCanIssue s n = true → seqPc s n ≤ lastIndex → (s.sl n).seq.loops = l :: rest →
      l.endIndex ≠ seqPc s n → ∃ t, exec (.endloop n) s = .next t ∧ seqStops t n 6 (seqPc s n) ∧ (t.sl n).seq.loops = l :: rest ∧ sameRegs
      ([F.SEQ_STATUS_STATE.part [n], F.SEQ_STATUS_ERR.part [n], F.SEQ_ERR_PC_INDEX.part [n], F.SEQ_PC_INDEX.part [n], { reg := .SEQ_ISSUED_LO, idx := [n] }, { reg := .SEQ_ISSUED_HI, idx := [n] }]
      ++ eventParts) s t ∧ otherSlices n s t ∧ sameBytes s t) ∧
  (∀ (s : State) (n : Fin 16) (count : BitVec 32) (endIndex : BitVec 18), seqCanIssue s n = true → seqPc s n ≤ lastIndex → count ≠ 0 → seqPc s n <
      endIndex.toNat → endIndex.toNat ≤ lastIndex → 8 ≤ (s.sl n).seq.loops.length → ∃ t, exec (.loop n count endIndex false 0) s = .next t ∧ seqStops t
      n 4 (seqPc s n) ∧ sameRegs
      ([F.SEQ_STATUS_STATE.part [n], F.SEQ_STATUS_ERR.part [n], F.SEQ_ERR_PC_INDEX.part [n], F.SEQ_PC_INDEX.part [n], { reg := .SEQ_ISSUED_LO, idx := [n] }, { reg := .SEQ_ISSUED_HI, idx := [n] }]
      ++ eventParts) s t ∧ otherSlices n s t ∧ sameBytes s t)

/-- A write of a plain RW register takes the written value in its writable bits and leaves its other bits and every other register. The low
word of a writable 64-bit pair is only staged; the high word then commits both. A read of a low word captures the high word. A clear
register zeroes the counters whose bits are 1. A write to an address that names no register changes nothing. -/
def Obligations.RegisterAccess : Prop :=
  (∀ (s : State) (path : Path) (addr : BitVec 40) (v : BitVec 32) (key : RegKey), s.inReset = false → regAt addr.toNat = some key → key.reg ∈
      ([.SEQ_LCOUNT, .SEQ_LIM_LO, .SEQ_LIM_HI, .GLB_IMG_LEN, .GLB_IMG_SRC, .FLT_INJECT_IDX, .RPL_RING_BASE] : List Reg) → (s.heldBits key v.toNat).1 = 0
      → s.rplState ≠ 2 → (inSliceRegs addr.toNat && reloadHolds s (sliceOfAddr addr.toNat)) = false → ∃ t, exec (.regWrite path addr v) s = .next t ∧
      t.rd key.reg key.i key.j key.k key.l = BitVec.ofNat 32 (mix key.reg.writable v.toNat (s.rd key.reg key.i key.j key.k key.l).toNat) ∧ sameRegs
      [{ reg := key.reg, idx := [key.i, key.j, key.k, key.l] }] s t ∧ sameBytes s t) ∧
  (∀ (s : State) (path : Path) (addr : BitVec 40) (v : BitVec 32) , s.inReset = false → regAt addr.toNat = none → exec (.regWrite path addr v) s = .next
      (s)) ∧
  (∀ (s : State) (path : Path) (addr : BitVec 40) (v : BitVec 32) (key : RegKey), s.inReset = false → regAt addr.toNat = some key → key.reg.stages = true
      → s.rplState ≠ 2 → (inSliceRegs addr.toNat && reloadHolds s (sliceOfAddr addr.toNat)) = false → ∃ t, exec (.pairLowWrite path addr v) s = .next t
      ∧ keptWord t.staged key = some v ∧ sameRegs [] s t ∧ sameBytes s t) ∧
  (∀ (s : State) (path : Path) (addr : BitVec 40) (v : BitVec 32) (key : RegKey) (w : Word), s.inReset = false → regAt addr.toNat = some key → key.reg ∈
      ([.SEQ_START_HI, .GLB_IMG_REJOIN_HI, .CAL_APPLY_AT_HI, .BOOT_RUN_AT_HI] : List Reg) → (∀ low, key.reg.lowOf = some low → keptWord s.staged
      (key.other low) = some w) → s.rplState ≠ 2 → (inSliceRegs addr.toNat && reloadHolds s (sliceOfAddr addr.toNat)) = false → ∃ t, exec
      (.pairHighWrite path addr v) s = .next t ∧ t.rd key.reg key.i key.j key.k key.l = v ∧ (∀ low, key.reg.lowOf = some low → t.rd low key.i key.j
      key.k key.l = w) ∧ sameRegs
      [{ reg := key.reg, idx := [key.i, key.j, key.k, key.l] }, { reg := key.reg.lowOf.getD key.reg, idx := [key.i, key.j, key.k, key.l] }] s t ∧
      sameBytes s t) ∧
  (∀ (s : State) (addr : BitVec 40) (key : RegKey) (high : Reg), s.inReset = false → regAt addr.toNat = some key → key.reg.highOf = some high → key.reg ≠
      .TXC_TRK_ACC_LO → key.reg ≠ .DMX_RES_END_LO → ∃ t, exec (.pairLowRead addr) s = .next t ∧ t.readValue = regView s key ∧ keptWord t.shadow
      (key.other high) = some (regView s (key.other high)) ∧ sameRegs [] s t ∧ sameBytes s t) ∧
  (∀ (s : State) (path : Path) (v : BitVec 32) (n : Fin 16), s.inReset = false → s.rplState ≠ 2 → reloadHolds s n = false → v &&& 0x7F = 0x7F → ∃ t, exec
      (.counterClear path (BitVec.ofNat 40 (RegKey.address ⟨.SEQ_CNT_CLR, n, 0, 0, 0⟩)) v) s = .next t ∧ t.rd .SEQ_STALL n = 0 ∧ t.pair .SEQ_ISSUED_LO
      .SEQ_ISSUED_HI n = 0 ∧ t.rd .SEQ_LATE n = 0 ∧ sameRegs
      [{ reg := .SEQ_CNT_CLR, idx := [n] }, { reg := .SEQ_ISSUED_LO, idx := [n] }, { reg := .SEQ_ISSUED_HI, idx := [n] }, { reg := .SEQ_STALL, idx := [n] }, { reg := .SEQ_VERDICT_OVW, idx := [n] }, { reg := .SEQ_EV_DROP, idx := [n] }, { reg := .SEQ_ELASTIC_BEATS, idx := [n] }, { reg := .SEQ_TIMEOUTS, idx := [n] }, { reg := .SEQ_LATE, idx := [n] }]
      s t ∧ sameBytes s t)

/-- GO with no operation in progress begins CHECK, RELOAD or FULL: BUSY and PHASE CHECK are taken; a RELOAD also fixes its rejoin beat R and
its drain beat D = R - 375,000. GO while one runs sets GO_IGNORED. An ABORT before D is taken. When the checks of a staged image
complete, a failure, or a CHECK that passes, ends the operation with its result; a RELOAD that passes waits for D. When a FULL ends,
with every slice drained and every store awake, BUSY clears and RESULT and SECTION show what its sections gave: the first failure, or 0.
The rebuild of a recovery raises CENTRAL_LOAD where the checks of the header or the central section fail or that section does not load;
else the device returns to NORMAL with no slice held. -/
def Obligations.ImageOperations : Prop :=
  (∀ (s : State), s.flag F.GLB_IMG_STATUS_BUSY = false → ∃ t, exec .imgCheck s = .next t ∧ t.flag F.GLB_IMG_STATUS_BUSY = true ∧ t.fld
      F.GLB_IMG_STATUS_PHASE = 1 ∧ t.img.op = 0 ∧ sameRegs [{ reg := .GLB_IMG_CTRL, idx := [] }, { reg := .GLB_IMG_STATUS, idx := [] }] s t ∧ sameBytes
      s t) ∧
  (∀ (s : State) (slot : Bool), s.flag F.GLB_IMG_STATUS_BUSY = false → ∃ t, exec (.imgFull slot) s = .next t ∧ t.flag F.GLB_IMG_STATUS_BUSY = true ∧
      t.fld F.GLB_IMG_STATUS_PHASE = 1 ∧ t.img.op = 2 ∧ t.img.slot = bit01 slot ∧ sameRegs
      [{ reg := .GLB_IMG_CTRL, idx := [] }, { reg := .GLB_IMG_STATUS, idx := [] }] s t ∧ sameBytes s t) ∧
  (∀ (s : State) (n : Fin 16) (r : Nat), s.flag F.GLB_IMG_STATUS_BUSY = false → s.pair .GLB_IMG_REJOIN_LO .GLB_IMG_REJOIN_HI = r → r % 16 = 0 → s.beat +
      375000 + 16384 + ceilDiv (s.fld F.GLB_IMG_LEN_BYTES) 64 ≤ r → ¬(n.val < 2 ∧ s.flag F.PWT_CTRL_OPEN = true) → ∃ t, exec (.imgReload n) s = .next t
      ∧ t.flag F.GLB_IMG_STATUS_BUSY = true ∧ t.fld F.GLB_IMG_STATUS_PHASE = 1 ∧ t.img.op = 1 ∧ t.img.slice = n ∧ t.img.rejoinAt = s.now + (r - s.beat)
      ∧ t.img.drainAt = s.now + (r - s.beat) - 375000 ∧ t.pair .GLB_IMG_DRAIN_LO .GLB_IMG_DRAIN_HI = r - 375000 ∧ sameRegs (globalParts
      [.GLB_IMG_CTRL, .GLB_IMG_STATUS, .GLB_IMG_DRAIN_LO, .GLB_IMG_DRAIN_HI]) s t ∧ sameBytes s t) ∧
  (∀ (s : State) (n : Fin 16) (slot : Bool) (c : Instr), c ∈ [Instr.imgCheck, .imgReload n, .imgFull slot] → s.flag F.GLB_IMG_STATUS_BUSY = true → ∃ t,
      exec c s = .next t ∧ t.flag F.GLB_IMG_STATUS_GO_IGNORED = true ∧ t.img = s.img ∧ sameRegs
      [{ reg := .GLB_IMG_CTRL, idx := [] }, F.GLB_IMG_STATUS_GO_IGNORED.part []] s t ∧ sameBytes s t) ∧
  (∀ (s : State), s.flag F.GLB_IMG_STATUS_BUSY = true → imgPhase s < 3 → s.img.op ≠ 1 ∨ imgPhase s ≠ 2 ∨ s.now < s.img.drainAt → exec .imgAbort s = .next
      ({ s with img := { s.img with abort := true } })) ∧
  (∀ (s : State), s.flag F.GLB_IMG_STATUS_BUSY = true → imgPhase s = 1 → s.img.abort = false → s.img.op < 2 → s.cstore.single = [] → s.cstore.double = []
      → s.flt.inject = none → ∃ t, exec .imgCheckDone s = .next t ∧ (if (opChecks s []).1 = 0 ∧ s.img.op = 1 then t.fld F.GLB_IMG_STATUS_PHASE = 2 ∧
      t.flag F.GLB_IMG_STATUS_BUSY = true else t.fld F.GLB_IMG_STATUS_RESULT = (opChecks s []).1 ∧ t.flag F.GLB_IMG_STATUS_BUSY = false) ∧ sameRegs
      ([{ reg := .GLB_IMG_STATUS, idx := [] }] ++ eventParts) s t ∧ sameBytes s t) ∧
  (∀ (s : State) (bad : BitVec 17), s.flag F.GLB_IMG_STATUS_BUSY = true → s.img.op = 2 → 3 ≤ imgPhase s → allSlices.all (fullSettled s) = true →
      storesToWake s (opSource s) ((opSource s).read s 0 0x500) allSlices = [] → (imageApply s (opSource s) bad allSlices).2.1 ≠ 0 → ∃ t, exec
      (.imgFullEnd bad) s = .next t ∧ t.flag F.GLB_IMG_STATUS_BUSY = false ∧ t.fld F.GLB_IMG_STATUS_PHASE = 0 ∧ t.fld F.GLB_IMG_STATUS_RESULT =
      (imageApply s (opSource s) bad allSlices).2.1 ∧ t.fld F.GLB_IMG_STATUS_SECTION = (imageApply s (opSource s) bad allSlices).2.2 ∧ t.flag
      F.GLB_IMG_STATUS_FAIL = true) ∧
  (∀ (s : State) (bad : BitVec 17), s.flag F.GLB_IMG_STATUS_BUSY = true → s.img.op = 2 → 3 ≤ imgPhase s → allSlices.all (fullSettled s) = true →
      storesToWake s (opSource s) ((opSource s).read s 0 0x500) allSlices = [] → (imageApply s (opSource s) bad allSlices).2.1 = 0 → (imageApply s
      (opSource s) bad allSlices).1.fld F.BOOT_STATUS_PHASE ≠ 10 → ∃ t, exec (.imgFullEnd bad) s = .next t ∧ t.flag F.GLB_IMG_STATUS_BUSY = false ∧
      t.fld F.GLB_IMG_STATUS_RESULT = (imageApply s (opSource s) bad allSlices).2.1) ∧
  (∀ (s : State) (bad : BitVec 17), fltState s = 2 → (chnFollows s && !chnAligned s) = false → rebuildCheck s = 0 → rebuildWake s = [] → ∃ t, exec
      (.recoveryEnd bad) s = .next t ∧ (if rebuildCheck s ≠ 0 then t = s.raise 0x07 16 (rebuildCheck s) else if (rebuildLoad s bad).2.1 ≠ 0 ∧
      (rebuildLoad s bad).2.2 = 16 then t = (rebuildLoad s bad).1 else t.fld F.FLT_STATUS_STATE = 0 ∧ t.flt.held = 0))

/-- At D the slice goes to DRAINED and PHASE DRAIN; once its buffers are flushed it is isolated, its wheel STOPPED and its status reset, and
PHASE is LOAD; the records of a section without register or store records load at once and PHASE is VERIFY; a section that does not read
back fails with result 16; READY starts the wheel for R; a reload not READY by R - 2 fails with result 18; at R the wheel is RUNNING on
the loaded map and the operation ends with result 0. -/
def Obligations.ReloadSteps : Prop :=
  (∀ (s : State) (n : Fin 16), reloadOf s n = true → imgPhase s = 2 → s.img.drainAt ≤ s.now → s.img.abort = false → (s.sl n).isolated = false → ∃ t, exec
      (.reloadDrain n) s = .next t ∧ t.fld F.GLB_IMG_STATUS_PHASE = 3 ∧ (t.sl n).reloading = true ∧ seqState t n = 6 ∧ sameRegs
      ([F.GLB_IMG_STATUS_PHASE.part []] ++ globalParts
      [.DMA_CH_STATUS, .KTL_STATUS, .KTL_UNREACH_DROP, .VRD_EXPQ_MAX, .VRD_EXP_DROP, .VRD_STATUS, .VRD_UNAVAIL] ++ sliceParts n ++ eventParts) s t ∧
      sameBytes s t) ∧
  (∀ (s : State) (n : Fin 16), reloadOf s n = true → imgPhase s = 3 → drainSettled s n = true → (s.sl n).isolated = false → ∃ t, exec (.reloadIsolate n)
      s = .next t ∧ t.fld F.GLB_IMG_STATUS_PHASE = 4 ∧ wheelState t n = 0 ∧ sameRegs ([F.GLB_IMG_STATUS_PHASE.part []] ++ sliceParts n) s t ∧ sameBytes
      s t) ∧
  (∀ (s : State) (n : Fin 16), reloadOf s n = true → imgPhase s = 4 → sectionRecords false (sectionBody s (opSource s) true ((opSource s).read s 0 0x500)
      n) = some [] → s.cstore.single = [] → s.cstore.double = [] → s.flt.inject = none → ∃ t, exec (.reloadLoad n) s = .next t ∧ t.fld
      F.GLB_IMG_STATUS_PHASE = 5 ∧ t.img.verified = false ∧ t.img.serialNext = imgSerial ((opSource s).read s 0 0x500) ∧ sameRegs
      [F.GLB_IMG_STATUS_PHASE.part []] s t ∧ sameBytes s t) ∧
  (∀ (s : State) (n : Fin 16), reloadOf s n = true → imgPhase s = 5 → s.img.verified = false → s.cstore.single = [] → s.cstore.double = [] → s.flt.inject
      = none → ∃ t, exec (.reloadVerify n false) s = .next t ∧ t.flag F.GLB_IMG_STATUS_BUSY = false ∧ t.fld F.GLB_IMG_STATUS_PHASE = 0 ∧ t.fld
      F.GLB_IMG_STATUS_RESULT = 16 ∧ t.fld F.GLB_IMG_STATUS_SECTION = n ∧ (t.sl n).isolated = true ∧ sameRegs
      [{ reg := .GLB_IMG_STATUS, idx := [] }, { reg := .GLB_IMG_COUNT, idx := [] }, { reg := .SLC_WHEEL_STATUS, idx := [n] }, { reg := .GLB_IMG_SSERIAL_LO, idx := [n] }, { reg := .GLB_IMG_SSERIAL_HI, idx := [n] }, { reg := .EVT_QSTATUS, idx := [] }, { reg := .EVT_LOST, idx := [] }, { reg := .EVT_STATUS, idx := [] }]
      s t ∧ sameBytes s t) ∧
  (∀ (s : State) (n : Fin 16), reloadOf s n = true → imgPhase s = 5 → s.img.verified = false → s.img.faulty = false → s.img.locksNext = [] →
      s.cstore.single = [] → s.cstore.double = [] → s.flt.inject = none → ∃ t, exec (.reloadVerify n true) s = .next t ∧ t.img.verified = true ∧ t.fld
      F.GLB_IMG_STATUS_PHASE = 5 ∧ sameRegs [] s t ∧ sameBytes s t) ∧
  (∀ (s : State) (n : Fin 16), reloadOf s n = true → imgPhase s = 5 → s.img.verified = true → s.img.faulty = false → s.now + 2 ≤ s.img.rejoinAt →
      wheelState s n = 0 → (s.beat + (s.img.rejoinAt - s.now)) % 16 = 0 → s.beat + (s.img.rejoinAt - s.now) < 2 ^ 64 → ∃ t, exec (.reloadReady n) s =
      .next t ∧ t.fld F.GLB_IMG_STATUS_PHASE = 6 ∧ wheelState t n = 1 ∧ (t.sl n).wheel.startAt = s.img.rejoinAt ∧ sameRegs
      [F.GLB_IMG_STATUS_PHASE.part [], F.SLC_WHEEL_CTRL_USE_START_BEAT.part [n], { reg := .SLC_WHEEL_START_LO, idx := [n] }, { reg := .SLC_WHEEL_START_HI, idx := [n] }, F.SLC_WHEEL_STATUS_STATE.part [n]]
      s t ∧ sameBytes s t) ∧
  (∀ (s : State) (n : Fin 16), reloadOf s n = true → 3 ≤ imgPhase s → imgPhase s < 6 → s.img.rejoinAt ≤ s.now + 2 → ∃ t, exec (.reloadLate n) s = .next t
      ∧ t.flag F.GLB_IMG_STATUS_BUSY = false ∧ t.fld F.GLB_IMG_STATUS_PHASE = 0 ∧ t.fld F.GLB_IMG_STATUS_RESULT = 18 ∧ t.fld F.GLB_IMG_STATUS_SECTION =
      n ∧ (t.sl n).isolated = true ∧ wheelState t n = 0 ∧ sameRegs
      ([{ reg := .GLB_IMG_STATUS, idx := [] }, { reg := .GLB_IMG_COUNT, idx := [] }, F.SLC_WHEEL_STATUS_STATE.part [n], { reg := .GLB_IMG_SSERIAL_LO, idx := [n] }, { reg := .GLB_IMG_SSERIAL_HI, idx := [n] }]
      ++ eventParts) s t ∧ sameBytes s t) ∧
  (∀ (s : State) (n : Fin 16), reloadOf s n = true → imgPhase s = 6 → s.img.rejoinAt ≤ s.now → ∃ t, exec (.reloadRejoin n) s = .next t ∧ t.flag
      F.GLB_IMG_STATUS_BUSY = false ∧ t.fld F.GLB_IMG_STATUS_PHASE = 0 ∧ t.fld F.GLB_IMG_STATUS_RESULT = 0 ∧ t.fld F.GLB_IMG_STATUS_SECTION = 31 ∧
      t.flag F.GLB_IMG_STATUS_DONE = true ∧ sameRegs ([{ reg := .GLB_IMG_SSERIAL_LO, idx := [n] }, { reg := .GLB_IMG_SSERIAL_HI, idx := [n] }] ++
      globalParts [.GLB_IMG_STATUS, .GLB_IMG_COUNT, .KTL_UNREACH_DROP, .VRD_EXPQ_MAX, .VRD_EXP_DROP, .VRD_STATUS, .VRD_UNAVAIL] ++ sliceParts n ++
      eventParts) s t ∧ sameBytes s t)

/-- START in STOPPED sets RUNNING with index 0, no error and the first vector due at the boundary; in RUNNING it waits for the next vector
boundary, as BREAK and HALT do. At that boundary the vector at the START address, if it is present, sound and of a valid timing set, is
applied: VEC_ADDR names it, the index counts and the next boundary is one period on. HALT in UNDERRUN or ERROR stops; BREAK with no
repeat only sets BREAK_IGN. -/
def Obligations.StreamerStart : Prop :=
  (∀ (s : State) (n : Fin 16) (addr : BitVec 18), s.coreOn n = true → vecState s n ≠ 1 → vecState s n ≠ 4 → ∃ t, exec (.vecStart n addr) s = .next t ∧
      vecState t n = 1 ∧ t.fld F.VEC_STATUS_ERR n = 0 ∧ vecIndex t n = 0 ∧ (t.sl n).vec.next = s.now * beatUnits ∧ (t.sl n).vec.waiting = (s.sl
      n).vec.waiting ++ [(s.now, .start addr.toNat)] ∧ (t.sl n).vec.loops = [] ∧ sameRegs
      [F.VEC_STATUS_STATE.part [n], F.VEC_STATUS_ERR.part [n], { reg := .VEC_INDEX_LO, idx := [n] }, { reg := .VEC_INDEX_HI, idx := [n] }] s t ∧
      otherSlices n s t ∧ sameBytes s t) ∧
  (∀ (s : State) (n : Fin 16) (addr : BitVec 18), s.coreOn n = true → vecState s n = 1 → ∃ t, exec (.vecStart n addr) s = .next t ∧ (t.sl n).vec =
      { (s.sl n).vec with waiting := (s.sl n).vec.waiting ++ [(s.now, .start addr.toNat)] } ∧ sameRegs [] s t ∧ otherSlices n s t ∧ sameBytes s t) ∧
  (∀ (s : State) (n : Fin 16), s.coreOn n = true → vecState s n = 1 → ∃ t, exec (.vecBreak n) s = .next t ∧ (t.sl n).vec =
      { (s.sl n).vec with waiting := (s.sl n).vec.waiting ++ [(s.now, .brk)] } ∧ sameRegs [] s t ∧ otherSlices n s t ∧ sameBytes s t) ∧
  (∀ (s : State) (n : Fin 16), s.coreOn n = true → vecState s n ≠ 1 → vecState s n ≠ 4 → ∃ t, exec (.vecBreak n) s = .next t ∧ t.flag
      F.VEC_STATUS_BREAK_IGN n = true ∧ sameRegs [F.VEC_STATUS_BREAK_IGN.part [n]] s t ∧ otherSlices n s t ∧ sameBytes s t) ∧
  (∀ (s : State) (n : Fin 16) (host : Bool), s.coreOn n = true → vecState s n = 1 → ∃ t, exec (.vecHalt n host) s = .next t ∧ (t.sl n).vec =
      { (s.sl n).vec with waiting := (s.sl n).vec.waiting ++ [(s.now, .halt host)] } ∧ sameRegs [] s t ∧ otherSlices n s t ∧ sameBytes s t) ∧
  (∀ (s : State) (n : Fin 16) (host : Bool), s.coreOn n = true → vecState s n = 2 ∨ vecState s n = 3 → ∃ t, exec (.vecHalt n host) s = .next t ∧ vecState
      t n = 0 ∧ sameRegs [F.VEC_STATUS_STATE.part [n]] s t ∧ otherSlices n s t ∧ sameBytes s t) ∧
  (∀ (s : State) (n : Fin 16) (addr k : Nat) (w : VecWord), vecState s n = 1 → (s.sl n).vec.next < (s.now + 1) * beatUnits → (s.sl n).vec.waiting =
      [(k, .start addr)] → k * beatUnits ≤ (s.sl n).vec.next → (s.sl n).vec.run = none → s.flag F.VEC_CTRL_FC_EN n = false → addr ≤ lastIndex → vecAt s
      n addr = some (w, false) → w.vop = 0 → s.flag F.TSET_STATUS_VALID n w.tset = true → vecIndex s n + 1 < 2 ^ 48 → ∃ t, exec (.vectorBoundary n 0) s
      = .next t ∧ vecState t n = 1 ∧ t.fld F.VEC_ADDR_ADDR n = addr ∧ vecIndex t n = vecIndex s n + 1 ∧ (t.sl n).vec.next = (s.sl n).vec.next + s.fld
      F.TSET_PERIOD_PERIOD n w.tset ∧ (t.sl n).vec.loops = [] ∧ sameRegs
      [F.VEC_ADDR_ADDR.part [n], { reg := .VEC_INDEX_LO, idx := [n] }, { reg := .VEC_INDEX_HI, idx := [n] }, F.VEC_STATUS_ERR.part [n], F.VEC_STATUS_CLAMP.part [n], { reg := .VEC_CLAMPS, idx := [n] }, { reg := .VEC_RING_RP, idx := [n] }]
      s t ∧ otherSlices n s t ∧ sameBytes s t)

/-- WINDOW_OPEN opens window w with the pins of VEC_WIN_PINS and shows it; a CLOSE of it queues its summary for three beats after its last
strobe, which then gives the verdict of every pin of the window. MARK records a marker of two records. FC_RESET with capture disabled
rewinds the area. A change of a timing set re-checks it, so that a sound set reads VALID. A write of VEC_RING_WP advances the write
pointer of the ring; without a ring it is stored. -/
def Obligations.FailCapture : Prop :=
  (∀ (s : State) (n : Fin 16) (w : Fin 64), s.coreOn n = true → vecState s n ≠ 1 → vecState s n ≠ 4 → (s.sl n).vec.windows = [] → ∃ t, exec (.windowOpen
      n w) s = .next t ∧ (t.sl n).vec.windows =
      [{ index := w, pins := s.rd .VEC_WIN_PINS n w, failed := 0, compared := 0, incomplete := BitVec.allOnes 32, strobe := 0 }] ∧ (if w.val < 32 then
      t.rd .VEC_WIN_OPEN_LO n else t.rd .VEC_WIN_OPEN_HI n).getLsbD (w.val % 32) = true ∧ sameRegs
      [{ reg := .VEC_WIN_OPEN_LO, idx := [n] }, { reg := .VEC_WIN_OPEN_HI, idx := [n] }] s t ∧ otherSlices n s t ∧ sameBytes s t) ∧
  (∀ (s : State) (n : Fin 16) (w : Fin 64) (x : Window), s.coreOn n = true → vecState s n ≠ 1 → vecState s n ≠ 4 → (s.sl n).vec.windows = [x] → x.index =
      w.val → x.strobe = 0 → ∃ t, exec (.windowClose n w) s = .next t ∧ (t.sl n).vec.windows = [] ∧ (t.sl n).vec.summaries = (s.sl n).vec.summaries ++
      [{ at_ := s.now + 3, pins := x.pins, failed := x.failed, incomplete := x.incomplete ||| ~~~x.compared }] ∧ (if w.val < 32 then t.rd
      .VEC_WIN_OPEN_LO n else t.rd .VEC_WIN_OPEN_HI n).getLsbD (w.val % 32) = false ∧ sameRegs
      [{ reg := .VEC_WIN_OPEN_LO, idx := [n] }, { reg := .VEC_WIN_OPEN_HI, idx := [n] }] s t ∧ otherSlices n s t ∧ sameBytes s t) ∧
  (∀ (s : State) (n : Fin 16) (x : Summary) (p : Fin 32), (s.sl n).vec.summaries = [x] → x.at_ ≤ s.now → x.pins = BitVec.ofNat 32 (2 ^ p.val) →
      s.rpl.replaying = false → ∃ t, exec (.pinSummaryVerdict n) s = .next t ∧ t = readyVerdict (s.modSl n (fun y =>
      { y with vec := { y.vec with summaries := [] } })) n (512 + 32 * n.val + p.val) (bit01 (x.failed.getLsbD p) + 2 * bit01 (x.incomplete.getLsbD p))
      x.at_ false ∧ (t.sl n).vec.summaries = [] ∧ otherSlices n s t ∧ sameBytes s t) ∧
  (∀ (s : State) (n : Fin 16) (data : BitVec 26), s.coreOn n = true → vecState s n ≠ 1 → vecState s n ≠ 4 → s.flag F.VEC_CTRL_FC_EN n = true → (s.sl
      n).vec.captureLost = 0 → (s.sl n).vec.capture.length ≤ 407 → s.fld F.VEC_FC_WP_OFFSET n + 20 ≤ 10 * captureRoom s n → ∃ t, exec (.fcMark n data) s
      = .next t ∧ t.fld F.VEC_FC_WP_OFFSET n = s.fld F.VEC_FC_WP_OFFSET n + 20 ∧ (t.sl n).vec.capture = (s.sl n).vec.capture ++
      [(s.fld F.VEC_FC_WP_OFFSET n, failRecord (vecIndex s n) 0), (s.fld F.VEC_FC_WP_OFFSET n + 10, markerBody 7 data.toNat)] ∧ sameRegs
      [F.VEC_FC_WP_OFFSET.part [n], { reg := .VEC_FC_RECS, idx := [n] }] s t ∧ otherSlices n s t ∧ sameBytes s t) ∧
  (∀ (s : State) (n : Fin 16), s.coreOn n = true → s.flag F.VEC_CTRL_FC_EN n = false → ∃ t, exec (.fcReset n) s = .next t ∧ t.fld F.VEC_FC_WP_OFFSET n =
      0 ∧ t.flag F.VEC_STATUS_FC_FULL n = false ∧ t.flag F.VEC_STATUS_FC_WRAPPED n = false ∧ sameRegs
      [F.VEC_FC_WP_OFFSET.part [n], F.VEC_STATUS_FC_FULL.part [n], F.VEC_STATUS_FC_WRAPPED.part [n]] s t ∧ otherSlices n s t ∧ sameBytes s t) ∧
  (∀ (s : State) (n : Fin 16) (path : Path) (set : Fin 32) (v : BitVec 32), s.inReset = false → s.rplState ≠ 2 → reloadHolds s n = false → s.img.locks =
      [] → s.img.bounds = [] → s.rd .TSET_PIN_EN n set = 0 → v.toNat < 2 ^ 28 → ∃ t, exec (.tsetWrite n path (BitVec.ofNat 40 (RegKey.address
      ⟨.TSET_PERIOD, n, set, 0, 0⟩)) v) s = .next t ∧ t.rd .TSET_PERIOD n set = v ∧ t.flag F.TSET_STATUS_VALID n set = decide (1600 ≤ v.toNat ∧ v.toNat
      ≤ 262144000) ∧ sameRegs [{ reg := .TSET_PERIOD, idx := [n, set] }, { reg := .TSET_STATUS, idx := [n, set] }] s t ∧ otherSlices n s t ∧ sameBytes s
      t) ∧
  (∀ (s : State) (n : Fin 16) (path : Path) (wp : BitVec 15), s.inReset = false → s.rplState ≠ 2 → reloadHolds s n = false → s.img.locks = [] →
      s.img.bounds = [] → s.fld F.VEC_RING_LINES_LINES n = 0 → ∃ t, exec (.ringWpAdvance n path wp) s = .next t ∧ t.fld F.VEC_RING_WP_OFFSET n =
      wp.toNat ∧ sameRegs [{ reg := .VEC_RING_WP, idx := [n] }] s t ∧ otherSlices n s t ∧ sameBytes s t) ∧
  (∀ (s : State) (n : Fin 16) (path : Path) (wp : BitVec 15) (k a : Nat), s.inReset = false → s.rplState ≠ 2 → reloadHolds s n = false → s.img.locks = []
      → s.img.bounds = [] → k = s.fld F.VEC_RING_LINES_LINES n → k ≠ 0 → a = (wp.toNat % k + k - s.fld F.VEC_RING_WP_OFFSET n % k) % k → a ≠ 0 → a +
      s.ringFill n < k → ∃ t, exec (.ringWpAdvance n path wp) s = .next t ∧ t.fld F.VEC_RING_WP_OFFSET n = wp.toNat % k ∧ sameRegs
      [{ reg := .VEC_RING_WP, idx := [n] }] s t ∧ otherSlices n s t ∧ sameBytes s t)

/-- LOAD_EN of an unguarded pin with fewer than eight loads on makes its load active; with eight it waits for power. The switch of a measure
unit reaches its position; a written MODE or RANGE that changes forces zero for 2,500 beats on a connected unit, after which the forced
value is back. -/
def Obligations.PinUnits : Prop :=
  (∀ (s : State) (n : Fin 16) (p : Fin 32), s.analogOn n = true → pinGuarded s n p = false → s.flag F.PIN_STATUS_LOAD_ACTIVE n p = false → s.flag
      F.PIN_STATUS_LOAD_PEND n p = false → loadsActive s n < 8 → ∃ t, exec (.loadEnable n p) s = .next t ∧ t.flag F.PIN_CFG_LOAD_EN n p = true ∧ t.flag
      F.PIN_STATUS_LOAD_ACTIVE n p = true ∧ sameRegs [F.PIN_CFG_LOAD_EN.part [n, p], F.PIN_STATUS_LOAD_ACTIVE.part [n, p]] s t ∧ otherSlices n s t ∧
      sameBytes s t) ∧
  (∀ (s : State) (n : Fin 16) (p : Fin 32), ∃ t, exec (.pmuSwitchDone n p) s = .next t ∧ t.flag F.PIN_STATUS_PMU_CONN n p = (s.flag
      F.PIN_PMU_CTRL_CONNECT n p && !pinGuarded s n p && !checkRunning s n) ∧ sameRegs [F.PIN_STATUS_PMU_CONN.part [n, p]] s t ∧ otherSlices n s t ∧
      sameBytes s t) ∧
  (∀ (s : State) (n : Fin 16) (p : Fin 32) (mode : Bool) (range : BitVec 3), range.toNat ≤ 4 → s.flag F.PIN_STATUS_PMU_CONN n p = true → mode ≠ s.flag
      F.PIN_PMU_CTRL_MODE n p → ∃ t, exec (.pmuModeChange n p mode range) s = .next t ∧ t.flag F.PIN_PMU_CTRL_MODE n p = mode ∧ t.fld
      F.PIN_PMU_CTRL_RANGE n p = range.toNat ∧ (p.val, s.now + 2500) ∈ (t.sl n).pin.pmuZero ∧ sameRegs
      [F.PIN_PMU_CTRL_MODE.part [n, p], F.PIN_PMU_CTRL_RANGE.part [n, p]] s t ∧ otherSlices n s t ∧ sameBytes s t) ∧
  (∀ (s : State) (n : Fin 16) (p : Fin 32) (mode : Bool) (range : BitVec 3), range.toNat > 4 → mode = s.flag F.PIN_PMU_CTRL_MODE n p → ∃ t, exec
      (.pmuModeChange n p mode range) s = .next t ∧ t.flag F.PIN_PMU_CTRL_MODE n p = mode ∧ t.fld F.PIN_PMU_CTRL_RANGE n p = s.fld F.PIN_PMU_CTRL_RANGE
      n p ∧ sameRegs [] s t ∧ otherSlices n s t ∧ sameBytes s t) ∧
  (∀ (s : State) (n : Fin 16) (p : Fin 32), ∃ t, exec (.pmuForceResume n p) s = .next t ∧ (t.sl n).pin.pmuZero = (s.sl n).pin.pmuZero.filter (fun e =>
      e.1 ≠ p.val ∨ s.now < e.2) ∧ sameRegs [] s t ∧ otherSlices n s t ∧ sameBytes s t)

/-- A rise shows IN at every slice and starts the 20 ns; a fall within 20 ns is no assertion. At the entry beat every slice with GUARD_EN is
ACTIVE and each of its pins carries CAUSE_IN. When the debounce has ended ACTIVE clears. PIN_RELEASE clears CAUSE_PWR and CAUSE_CHECK of
the named pins in a slice without GUARD_EN, and is ignored in one with it. START begins a check with the pins guarded by CAUSE_CHECK; at
its end K the state is IDLE again, ALL_PASS says whether every tested pin passed, and the releases fall due at K + 1; ABORT ends it
early with ABORTED set. -/
def Obligations.GuardAndContactChecks : Prop :=
  (∀ (s : State) (ps : Fin 4000), ∃ t, exec (.guardInRise ps) s = .next t ∧ t.guardLevel = true ∧ t.guardRise = some (s.now * 4000 + ps) ∧ (∀ n : Fin 16,
      t.flag F.PIN_GUARD_STATUS_IN n = true) ∧ sameRegs [F.PIN_GUARD_STATUS_IN.part [], F.PIN_CC_STATUS_STATE.part []] s t ∧ sameBytes s t) ∧
  (∀ (s : State) (ps : Fin 4000) (r : Nat), s.guardRise = some r → s.now * 4000 + ps.val < r + 20000 → ∃ t, exec (.guardInFall ps) s = .next t ∧
      t.guardLevel = false ∧ t.guardRise = none ∧ (∀ n : Fin 16, t.flag F.PIN_GUARD_STATUS_IN n = false) ∧ sameRegs
      [F.PIN_GUARD_STATUS_IN.part [], F.PIN_CC_STATUS_STATE.part []] s t ∧ sameBytes s t) ∧
  (∀ (s : State) (r : Nat), s.rpl.replaying = false → s.guardRise = some r → guardEntryBeat r ≤ s.now → ∃ t, exec .guardEntry s = .next t ∧ t.guardRise =
      none ∧ (∀ n : Fin 16, s.flag F.PIN_GUARD_CTRL_GUARD_EN n = true → t.flag F.PIN_GUARD_STATUS_ACTIVE n = true ∧ ∀ p : Fin 32, t.flag
      F.PIN_STATUS_CAUSE_IN n p = true) ∧ sameRegs (globalParts
      [.PIN_STATUS, .PIN_GUARDED, .PIN_GUARD_STATUS, .PIN_GUARD_COUNT, .PIN_CC_STATUS, .PIN_CC_RESULT, .NRG_PIN_ENERGY, .FF_STATUS, .FF_CODE, .VEC_STATUS]
      ++ eventParts) s t ∧ sameBytes s t) ∧
  (∀ (s : State) (n : Fin 16) (readings : List PinReading) (k : Nat), (s.sl n).pin.debounceEnd = some k → k ≤ s.now → s.guardLevel = false → s.flag
      F.PIN_GUARD_CTRL_AUTO_CHECK n = false → ∃ t, exec (.guardDebounceEnd n readings) s = .next t ∧ t.flag F.PIN_GUARD_STATUS_ACTIVE n = false ∧ (t.sl
      n).pin.debounceEnd = none ∧ sameRegs [F.PIN_GUARD_STATUS_ACTIVE.part [n], F.PIN_CC_STATUS_STATE.part [n]] s t ∧ otherSlices n s t ∧ sameBytes s t) ∧
  (∀ (s : State) (n : Fin 16) (pins : BitVec 32), s.analogOn n = true → s.flag F.PIN_GUARD_CTRL_GUARD_EN n = false → s.replayMuted = false → ∃ t, exec
      (.pinRelease n pins) s = .next t ∧ (∀ p : Fin 32, pins.getLsbD p = true → t.flag F.PIN_STATUS_CAUSE_PWR n p = false ∧ t.flag
      F.PIN_STATUS_CAUSE_CHECK n p = false) ∧ sameRegs
      ([{ reg := .PIN_STATUS, idx := [n] }, { reg := .PIN_GUARDED, idx := [n] }, { reg := .PIN_GUARD_STATUS, idx := [n] }, { reg := .FF_STATUS, idx := [n] }, { reg := .FF_CODE, idx := [n] }, { reg := .PWR_QSTATUS, idx := [] }]
      ++ eventParts) s t ∧ otherSlices n s t ∧ sameBytes s t) ∧
  (∀ (s : State) (n : Fin 16) (pins : BitVec 32), s.analogOn n = true → s.flag F.PIN_GUARD_CTRL_GUARD_EN n = true → ∃ t, exec (.pinRelease n pins) s =
      .next t ∧ t.flag F.PIN_GUARD_STATUS_RELEASE_IGN n = true ∧ sameRegs [F.PIN_GUARD_STATUS_RELEASE_IGN.part [n]] s t ∧ otherSlices n s t ∧ sameBytes
      s t) ∧
  (∀ (s : State) (n : Fin 16) (readings : List PinReading), s.analogOn n = true → s.fld F.PIN_CC_STATUS_STATE n ≠ 2 → s.flag F.PIN_GUARD_CTRL_GUARD_EN n
      = false ∨ s.flag F.PIN_GUARD_STATUS_ACTIVE n = false → ∃ t, exec (.ccStart n readings) s = .next t ∧ t.fld F.PIN_CC_STATUS_STATE n = 2 ∧ (t.sl
      n).pin.check.isSome = true ∧ (∀ p : Fin 32, t.flag F.PIN_STATUS_CAUSE_CHECK n p = true) ∧ sameRegs ([{ reg := .CAL_FG_STATUS, idx := [] }] ++
      sliceParts n) s t ∧ otherSlices n s t ∧ sameBytes s t) ∧
  (∀ (s : State) (n : Fin 16) (k : ContactCheck), (s.sl n).pin.check = some k → k.done = 33 → k.endAt ≤ s.now → k.endAt + 1 > s.now → ∃ t, exec (.ccEnd
      n) s = .next t ∧ t.fld F.PIN_CC_STATUS_STATE n = 0 ∧ (t.sl n).pin.check = none ∧ (t.sl n).pin.release.isSome = true ∧ sameRegs
      ([{ reg := .PIN_CC_STATUS, idx := [n] }, { reg := .PIN_CC_RESULT, idx := [n] }, F.VEC_STATUS_WIN_MERGE.part [n]] ++ eventParts) s t ∧ sameBytes s
      t) ∧
  (∀ (s : State) (n : Fin 16) (k : ContactCheck), (s.sl n).pin.check = some k → ∃ t, exec (.ccAbort n) s = .next t ∧ t.fld F.PIN_CC_STATUS_STATE n = 0 ∧
      t.flag F.PIN_CC_STATUS_ABORTED n = true ∧ (t.sl n).pin.check = none ∧ sameRegs
      ([{ reg := .PIN_CC_STATUS, idx := [n] }, { reg := .PIN_CC_RESULT, idx := [n] }, F.VEC_STATUS_WIN_MERGE.part [n]] ++ eventParts) s t ∧ otherSlices
      n s t ∧ sameBytes s t)

/-- A SEGMENT event on a buffered, sound and valid segment starts it at the boundary: the tone plays, TON_INDEX names it, it ends after its
length and what follows is fixed. At its end a segment with HOLD leaves the tone HOLD, one with a next segment starts that. ZERO ramps
down over four granules in ZEROING, after which the tone is IDLE. The next list action of the source tone gives its marker its list
level when its sample is reached; HIGH and LOW force the marker to a level; LIST returns it to its list level. -/
def Obligations.TonesAndMarkers : Prop :=
  (∀ (s : State) (n : Fin 16) (u : Fin 32) (seg : Fin 98304) (f : FetchLine) (g : Segment), s.coreOn n = true → toneState s n u ≠ 6 → (tone s n
      u).ends.all (fun j => decide (4 * s.now ≤ j)) = true → toneSupply s n u (seg.val / 4) s.now = some f → f.poison = [] → g = decodeSegment
      ((f.data.drop (32 * (seg.val % 4))).take 32) → g.cause seg.val = 0 → ∃ t, exec (.toneSegment n u seg) s = .next t ∧ toneState t n u = 1 ∧ t.fld
      F.TON_INDEX_INDEX n u = seg ∧ (tone t n u).ends = some (4 * s.now + g.len) ∧ (tone t n u).next = g.follow seg ∧ sameRegs
      [F.TON_STATUS_STATE.part [n, u], F.TON_INDEX_INDEX.part [n, u]] s t ∧ otherSlices n s t ∧ sameBytes s t) ∧
  (∀ (s : State) (n : Fin 16) (u : Fin 32) (j : Nat), toneState s n u = 1 → (tone s n u).ends = some j → j ≤ 4 * s.now + 3 → (tone s n u).next = .hold →
      ∃ t, exec (.segmentBoundary n u) s = .next t ∧ toneState t n u = 2 ∧ (tone t n u).ends = none ∧ sameRegs [F.TON_STATUS_STATE.part [n, u]] s t ∧
      otherSlices n s t ∧ sameBytes s t) ∧
  (∀ (s : State) (n : Fin 16) (u : Fin 32) (j i : Nat) (f : FetchLine) (g : Segment), toneState s n u = 1 → (tone s n u).ends = some j → j ≤ 4 * s.now +
      3 → (tone s n u).next = .segment i → i < 98304 → toneSupply s n u (i / 4) (j / 4) = some f → f.poison = [] → g = decodeSegment ((f.data.drop (32 *
      (i % 4))).take 32) → g.cause i = 0 → ∃ t, exec (.segmentBoundary n u) s = .next t ∧ toneState t n u = 1 ∧ t.fld F.TON_INDEX_INDEX n u = i ∧ (tone
      t n u).ends = some (j + g.len) ∧ sameRegs [F.TON_STATUS_STATE.part [n, u], F.TON_INDEX_INDEX.part [n, u]] s t ∧ otherSlices n s t ∧ sameBytes s t) ∧
  (∀ (s : State) (n : Fin 16) (u : Fin 32), s.coreOn n = true → toneState s n u ≠ 6 → (tone s n u).ends.all (fun j => decide (4 * s.now ≤ j)) = true → ∃
      t, exec (.toneZero n u) s = .next t ∧ toneState t n u = 3 ∧ (tone t n u).ends = some (4 * s.now + 4) ∧ (tone t n u).next = .idle ∧ (tone t n
      u).marks = [] ∧ sameRegs [F.TON_STATUS_STATE.part [n, u], F.TXC_MK_STATUS_LIST0.part [n, u.val/8], F.TXC_MK_STATUS_LIST1.part [n, u.val/8]] s t ∧
      otherSlices n s t ∧ sameBytes s t) ∧
  (∀ (s : State) (n : Fin 16) (u : Fin 32) (j : Nat), toneState s n u = 3 → (tone s n u).ends = some j → j ≤ 4 * s.now + 3 → (tone s n u).next = .idle →
      ∃ t, exec (.rampdownEnd n u) s = .next t ∧ toneState t n u = 0 ∧ (tone t n u).ends = none ∧ sameRegs [F.TON_STATUS_STATE.part [n, u]] s t ∧
      otherSlices n s t ∧ sameBytes s t) ∧
  (∀ (s : State) (n : Fin 16) (u : Fin 32) (a : MarkAct), (tone s n u).marks = [a] → a.sample < 128 * (s.now + 1) → ∃ t, exec (.markerListAction n u) s =
      .next t ∧ (tone t n u).marks = [] ∧ t.flag (markListField a.marker) n (u.val / 8) = a.level ∧ sameRegs
      [(markListField a.marker).part [n, u.val / 8]] s t ∧ otherSlices n s t ∧ sameBytes s t) ∧
  (∀ (s : State) (n : Fin 16) (k : Fin 4) (m : Fin 2), s.coreOn n = true → ∃ t, exec (.markerHigh n k m) s = .next t ∧ t.flag (markForcedField m) n k =
      true ∧ (txCh t n k).markLevel.get m = true ∧ sameRegs [(markForcedField m).part [n, k]] s t ∧ otherSlices n s t ∧ sameBytes s t) ∧
  (∀ (s : State) (n : Fin 16) (k : Fin 4) (m : Fin 2), s.coreOn n = true → ∃ t, exec (.markerLow n k m) s = .next t ∧ t.flag (markForcedField m) n k =
      true ∧ (txCh t n k).markLevel.get m = false ∧ sameRegs [(markForcedField m).part [n, k]] s t ∧ otherSlices n s t ∧ sameBytes s t) ∧
  (∀ (s : State) (n : Fin 16) (k : Fin 4) (m : Fin 2), s.coreOn n = true → ∃ t, exec (.markerList n k m) s = .next t ∧ t.flag (markForcedField m) n k =
      false ∧ sameRegs [(markForcedField m).part [n, k]] s t ∧ otherSlices n s t ∧ sameBytes s t)

/-- TRACK binds the tone to phase track r from the first sample of the beat. PHASE sets POFF, or adds to it modulo a turn, in units of 2^-24
turn. FLUSH empties the buffer of a tone that does not play. A write of TON_ENTRY takes VALID and the index, limited to 98,303. A new
word of a track is phase-continuous: its accumulator at the first sample of the beat stays. A rebase puts it at 128 x beat x word modulo
2^48, as if the word had run since beat 0. A read of TXC_TRK_ACC gives the selected track's value at the next boundary. -/
def Obligations.PhaseAndTracks : Prop :=
  (∀ (s : State) (n : Fin 16) (u : Fin 32) (r : Fin 32), s.coreOn n = true → toneState s n u ≠ 6 → (tone s n u).ends.all (fun j => decide (4 * s.now <
      j)) = true → ∃ t, exec (.toneTrack n u r) s = .next t ∧ toneSeg t n u (128 * s.now) =
      { sample := 128 * s.now, track := some r.val, acc := 0, ftw := 0 } ∧ (tone t n u).lastTrack = r ∧ sameRegs [] s t ∧ otherSlices n s t ∧ sameBytes
      s t) ∧
  (∀ (s : State) (n : Fin 16) (u : Fin 32) (set : Bool) (v : BitVec 24), s.coreOn n = true → toneState s n u ≠ 6 → (tone s n u).ends.all (fun j => decide
      (4 * s.now < j)) = true → ∃ t, exec (.tonePhase n u set v) s = .next t ∧ tonePoff t n u (128 * s.now) = (if set then v.toNat * 256 else (tonePoff
      s n u (128 * s.now) + v.toNat * 256) % 2 ^ 32) ∧ sameRegs [] s t ∧ otherSlices n s t ∧ sameBytes s t) ∧
  (∀ (s : State) (n : Fin 16) (u : Fin 32), s.coreOn n = true → toneState s n u = 0 ∨ toneState s n u = 2 ∨ toneState s n u = 4 ∨ toneState s n u = 5 → ∃
      t, exec (.toneFlush n u) s = .next t ∧ (tone t n u).buffer = [] ∧ sameRegs [] s t ∧ otherSlices n s t ∧ sameBytes s t) ∧
  (∀ (s : State) (n : Fin 16) (u : Fin 32) (path : Path) (e : Fin 4) (v : BitVec 32), s.inReset = false → s.rplState ≠ 2 → reloadHolds s n = false →
      s.img.locks = [] → s.img.bounds = [] → ∃ t, exec (.toneEntryWrite n path u e v) s = .next t ∧ t.fld F.TON_ENTRY_INDEX n u e = min (bitsAt v.toNat
      F.TON_ENTRY_INDEX.lo F.TON_ENTRY_INDEX.width) 98303 ∧ t.fld F.TON_ENTRY_VALID n u e = bitsAt v.toNat F.TON_ENTRY_VALID.lo 1 ∧ sameRegs
      [{ reg := .TON_ENTRY, idx := [n, u, e] }, F.TON_ENTRY_LOADED.part [n, u]] s t ∧ otherSlices n s t ∧ sameBytes s t) ∧
  (∀ (s : State) (n : Fin 16) (k : Fin 4) (r : Fin 32) (ftw : BitVec 48), s.coreOn n = true → ¬(((txCh s n k).tracks.get r).rebased = true ∧ ((txCh s n
      k).tracks.get r).sample = 128 * s.now) → ∃ t, exec (.trackRetune n k r ftw) s = .next t ∧ trackFtw t n k r = ftw.toNat ∧ trackAcc t n k r (128 *
      s.now) = trackAcc s n k r (128 * s.now) ∧ sameRegs [{ reg := .TXC_TRK_FTW_LO, idx := [n, k, r] }, { reg := .TXC_TRK_FTW_HI, idx := [n, k, r] }] s
      t ∧ otherSlices n s t ∧ sameBytes s t) ∧
  (∀ (s : State) (n : Fin 16) (k : Fin 4) (tracks : BitVec 32), s.coreOn n = true → ∃ t, exec (.trackRebase n k tracks) s = .next t ∧ (∀ r : Fin 32,
      tracks.getLsbD r = true → trackAcc t n k r (128 * s.now) = 128 * s.beat * trackFtw s n k r % 2 ^ 48) ∧ (∀ r : Fin 32, tracks.getLsbD r = false →
      (txCh t n k).tracks.get r = (txCh s n k).tracks.get r) ∧ sameRegs [] s t ∧ otherSlices n s t ∧ sameBytes s t) ∧
  (∀ (s : State) (n : Fin 16) (k : Fin 4), ∃ t, exec (.trackAccRead n k) s = .next t ∧ t.readValue = BitVec.ofNat 32 (trackAcc s n k (s.fld
      F.TXC_TRK_SEL_TRACK n k) (128 * (s.now + 1))) ∧ t.pair .TXC_TRK_ACC_LO .TXC_TRK_ACC_HI n k = trackAcc s n k (s.fld F.TXC_TRK_SEL_TRACK n k) (128 *
      (s.now + 1)) ∧ sameRegs [{ reg := .TXC_TRK_ACC_LO, idx := [n, k] }, { reg := .TXC_TRK_ACC_HI, idx := [n, k] }] s t ∧ otherSlices n s t ∧ sameBytes
      s t)

/-- ENABLE of a channel that is OFF makes it PENDING and asks power admission; after its wake it is ON; DISABLE makes it OFF at once, gives
its power back and records the disable. MUTE and UNMUTE set and clear the command cause, and MUTED holds while any cause does. ENABLE of
a channel that is OFF makes it PENDING and asks power admission; after its wake it is ON; DISABLE makes it OFF at once, gives its power
back and records the disable. When 250 beats have passed since a RANGE write SETTLING clears. -/
def Obligations.SignalChannels : Prop :=
  (∀ (s : State) (n : Fin 16) (k : Fin 4), s.analogOn n = true → txPwr s n k = 0 → s.admissionGranted 1 (4 * n.val + k.val) = false → ∃ t, exec
      (.txEnable n k) s = .next t ∧ txPwr t n k = 1 ∧ t.admissionPending 1 (4 * n.val + k.val) = true ∧ sameRegs
      [F.TXC_STATUS_PWR.part [n, k], F.PWR_QSTATUS_PEAK.part []] s t ∧ otherSlices n s t ∧ sameBytes s t) ∧
  (∀ (s : State) (n : Fin 16) (k : Fin 4), txPwr s n k = 2 → (txCh s n k).wakeAt ≤ s.now → ∃ t, exec (.txWakeDone n k) s = .next t ∧ txPwr t n k = 3 ∧
      sameRegs [F.TXC_STATUS_PWR.part [n, k]] s t ∧ otherSlices n s t ∧ sameBytes s t) ∧
  (∀ (s : State) (n : Fin 16) (k : Fin 4), ∃ t, exec (.txDisable n k) s = .next t ∧ txPwr t n k = 0 ∧ t.admissionPending 1 (4 * n.val + k.val) = false ∧
      t.admissionGranted 1 (4 * n.val + k.val) = false ∧ t.fld F.PWR_DIS_LAST_DISCARDED = bit01 (txPwr s n k == 1) ∧ sameRegs
      [F.TXC_STATUS_PWR.part [n, k], { reg := .PWR_DIS_LAST, idx := [] }] s t ∧ otherSlices n s t ∧ sameBytes s t) ∧
  (∀ (s : State) (n : Fin 16) (k : Fin 4), s.analogOn n = true → ∃ t, exec (.txMute n k) s = .next t ∧ t.flag F.TXC_STATUS_MUTE_CMD n k = true ∧ txMuted
      t n k = true ∧ sameRegs [F.TXC_STATUS_MUTE_CMD.part [n, k], F.TXC_STATUS_MUTED.part [n, k], { reg := .TXC_MUTE_CNT, idx := [n, k] }] s t ∧
      otherSlices n s t ∧ sameBytes s t) ∧
  (∀ (s : State) (n : Fin 16) (k : Fin 4), s.analogOn n = true → ∃ t, exec (.txUnmute n k) s = .next t ∧ t.flag F.TXC_STATUS_MUTE_CMD n k = false ∧
      txMuted t n k = (s.flag F.TXC_STATUS_MUTE_GOV n k || s.flag F.TXC_STATUS_MUTE_FLT n k) ∧ sameRegs
      [F.TXC_STATUS_MUTE_CMD.part [n, k], F.TXC_STATUS_MUTED.part [n, k], { reg := .TXC_MUTE_CNT, idx := [n, k] }] s t ∧ otherSlices n s t ∧ sameBytes s
      t) ∧
  (∀ (s : State) (n : Fin 16) (j : Fin 2), s.analogOn n = true → rxPwr s n j = 0 → s.admissionGranted 2 (2 * n.val + j.val) = false → ∃ t, exec
      (.rxEnable n j) s = .next t ∧ rxPwr t n j = 1 ∧ t.admissionPending 2 (2 * n.val + j.val) = true ∧ sameRegs
      [F.RXC_STATUS_PWR.part [n, j], F.PWR_QSTATUS_PEAK.part []] s t ∧ otherSlices n s t ∧ sameBytes s t) ∧
  (∀ (s : State) (n : Fin 16) (j : Fin 2), rxPwr s n j = 2 → (rxCh s n j).wakeAt ≤ s.now → ∃ t, exec (.rxWakeDone n j) s = .next t ∧ rxPwr t n j = 3 ∧
      sameRegs [F.RXC_STATUS_PWR.part [n, j]] s t ∧ otherSlices n s t ∧ sameBytes s t) ∧
  (∀ (s : State) (n : Fin 16) (j : Fin 2), ∃ t, exec (.rxDisable n j) s = .next t ∧ rxPwr t n j = 0 ∧ t.admissionPending 2 (2 * n.val + j.val) = false ∧
      t.admissionGranted 2 (2 * n.val + j.val) = false ∧ t.fld F.PWR_DIS_LAST_DISCARDED = bit01 (rxPwr s n j == 1) ∧ sameRegs
      [F.RXC_STATUS_PWR.part [n, j], { reg := .PWR_DIS_LAST, idx := [] }] s t ∧ otherSlices n s t ∧ sameBytes s t) ∧
  (∀ (s : State) (n : Fin 16) (j : Fin 2), (rxCh s n j).settleAt ≤ s.now → ∃ t, exec (.rxSettleEnd n j) s = .next t ∧ t.flag F.RXC_STATUS_SETTLING n j =
      false ∧ sameRegs [F.RXC_STATUS_SETTLING.part [n, j]] s t ∧ otherSlices n s t ∧ sameBytes s t)

/-- A TRIGGER of a bin with no open window and a sound weight set opens a window with the registers as they stand, INTEGRATING. A CANCEL of
an open window drops it and counts. At its end beat the window gives one result: the demodulated sums shifted and saturated to 32 bits.
A weight written while no window exists is stored at once; while one does it is held. At B + 11 the enabled discriminators of a result
give their codes; at B + 12 the oldest result is in the DMX_RES registers with its end beat and flags, and DMX_WINDOWS counts. A read of
DMX_RES_I returns it and captures the other registers of the same result. -/
def Obligations.Bins : Prop :=
  (∀ (s : State) (n : Fin 16) (u : Fin 32) (set : Fin 4), s.coreOn n = true → s.fld F.DMX_STATUS_STATE n u ≠ 2 → binOpen s n u = none → wsetOk s n u set
      = true → (∀ st : Fin 4, acqState s n st = 0 ∨ (acq s n st).trig ≠ 2) → ∃ t, exec (.binTrigger n u set) s = .next t ∧ (bin t n u).windows = (bin s
      n u).windows ++ [windowNow s n u set s.now s.beat] ∧ t.fld F.DMX_STATUS_STATE n u = 1 ∧ t.fld F.DMX_STATUS_WSEL n u = set ∧ sameRegs
      [F.DMX_STATUS_STATE.part [n, u], F.DMX_STATUS_WSEL.part [n, u]] s t ∧ otherSlices n s t ∧ sameBytes s t) ∧
  (∀ (s : State) (n : Fin 16) (u : Fin 32) (w : BinWindow), s.coreOn n = true → s.fld F.DMX_STATUS_STATE n u ≠ 2 → binOpen s n u = some w → ∃ t, exec
      (.binCancel n u) s = .next t ∧ (bin t n u).windows = (bin s n u).windows.filter (fun w => decide (w.ends ≤ s.now)) ∧ t.fld F.DMX_STATUS_STATE n u
      = 0 ∧ t.rd .DMX_CANCELS n u = satCount (s.rd .DMX_CANCELS n u) 1 ∧ sameRegs
      [F.DMX_STATUS_STATE.part [n, u], { reg := .DMX_CANCELS, idx := [n, u] }, { reg := .DMX_WRAM, idx := [n, u] }] s t ∧ otherSlices n s t ∧ sameBytes
      s t) ∧
  (∀ (s : State) (n : Fin 16) (u : Fin 32) (samples : List (BitVec 12)) (w : BinWindow), (bin s n u).windows = [w] → w.ends ≤ s.now → ∃ t, exec
      (.binWindowEnd n u samples) s = .next t ∧ (bin t n u).windows = [] ∧ t.fld F.DMX_STATUS_STATE n u = 0 ∧ (∃ r, (bin t n u).results = (bin s n
      u).results ++ [r] ∧ r.endBeat = w.endBeat ∧ r.wsel = w.wsel ∧ r.invalid = w.invalid ∧ r.codes = none ∧ r.i = satInt 32 (roundShift (binSums s n u
      w 0 (windowSamples w samples)).1 w.shift) ∧ r.q = satInt 32 (roundShift (binSums s n u w 0 (windowSamples w samples)).2 w.shift) ∧ r.ovr =
      (windowSamples w samples).any overrange) ∧ sameRegs [F.DMX_STATUS_STATE.part [n, u], { reg := .DMX_WRAM, idx := [n, u] }] s t ∧ otherSlices n s t
      ∧ sameBytes s t) ∧
  (∀ (s : State) (n : Fin 16) (u : Fin 32) (path : Path) (i : Fin 2048) (v : BitVec 32), s.inReset = false → s.rplState ≠ 2 → reloadHolds s n = false →
      s.img.locks = [] → s.img.bounds = [] → (bin s n u).windows = [] → ∃ t, exec (.wramWrite n path u i v) s = .next t ∧ t.rd .DMX_WRAM n u i = v ∧
      sameRegs [{ reg := .DMX_WRAM, idx := [n, u, i] }] s t ∧ otherSlices n s t ∧ sameBytes s t) ∧
  (∀ (s : State) (n : Fin 16) (u : Fin 32) (path : Path) (i : Fin 2048) (v : BitVec 32), s.inReset = false → s.rplState ≠ 2 → reloadHolds s n = false →
      s.img.locks = [] → s.img.bounds = [] → (bin s n u).windows ≠ [] → ∃ t, exec (.wramWrite n path u i v) s = .next t ∧ (bin t n u).held = (bin s n
      u).held ++ [(i.val, v)] ∧ sameRegs [] s t ∧ otherSlices n s t ∧ sameBytes s t) ∧
  (∀ (s : State) (n : Fin 16) (u : Fin 32) (r : BinResult), (bin s n u).results = [r] → r.codes = none → r.ends + 11 ≤ s.now → ∃ t, exec (.discriminate n
      u) s = .next t ∧ (bin t n u).results = [{ r with codes := some (resultCodes s n r) }] ∧ sameRegs [] s t ∧ otherSlices n s t ∧ sameBytes s t) ∧
  (∀ (s : State) (n : Fin 16) (u : Fin 32) (r : BinResult) (rest : List BinResult) (l : List (Nat × Nat)), (bin s n u).results = r :: rest → r.ends + 12
      ≤ s.now → r.codes = some l → r.endBeat < 2 ^ 64 → r.wsel < 4 → (∀ x ∈ l, x.1 < 32) → ∃ t, exec (.binResult n u) s = .next t ∧ t.rd .DMX_RES_I n u
      = BitVec.ofInt 32 r.i ∧ t.rd .DMX_RES_Q n u = BitVec.ofInt 32 r.q ∧ t.pair .DMX_RES_END_LO .DMX_RES_END_HI n u = r.endBeat ∧ t.flag
      F.DMX_RES_INFO_OVR n u = r.ovr ∧ t.flag F.DMX_RES_INFO_INVALID n u = r.invalid ∧ t.fld F.DMX_RES_INFO_WSEL n u = r.wsel ∧ (bin t n u).results =
      rest ∧ t.rd .DMX_WINDOWS n u = satCount (s.rd .DMX_WINDOWS n u) 1 ∧ sameRegs
      [{ reg := .DMX_RES_I, idx := [n, u] }, { reg := .DMX_RES_Q, idx := [n, u] }, { reg := .DMX_RES_END_LO, idx := [n, u] }, { reg := .DMX_RES_END_HI, idx := [n, u] }, { reg := .DMX_RES_INFO, idx := [n] }, { reg := .DMX_WINDOWS, idx := [n, u] }, { reg := .DMX_STATUS, idx := [n, u] }]
      s t ∧ otherSlices n s t ∧ sameBytes s t) ∧
  (∀ (s : State) (n : Fin 16) (u : Fin 32), s.inReset = false → ∃ t, exec (.dmxResultRead n u) s = .next t ∧ t.readValue = s.rd .DMX_RES_I n u ∧ keptWord
      t.shadow ⟨.DMX_RES_Q, n, u, 0, 0⟩ = some (s.rd .DMX_RES_Q n u) ∧ keptWord t.shadow ⟨.DMX_RES_INFO, n, u, 0, 0⟩ = some (s.rd .DMX_RES_INFO n u) ∧
      sameRegs [] s t ∧ otherSlices n s t ∧ sameBytes s t)

/-- An accepted ARM takes the lowest free stream: PREFILL with pre-trigger items, else WAITING. Prefill done makes it WAITING; a trigger
makes a waiting segment CAPTURING; each item after the trigger is written at its place. At the last item the next segment begins or the
record flushes; STOP flushes it too. When every line is written the stream is FREE and reported. -/
def Obligations.Acquisition : Prop :=
  (∀ (s : State) (n : Fin 16) (st : Fin 4) (d : Fin 64), s.coreOn n = true → s.flag F.ACQ_STATUS_DRAINED n = false → armRefusal s n d = none →
      (List.finRange 4).find? (fun st => acqState s n st.val = 0) = some st → s.fld F.ACQ_DPRE_ITEMS n d ≠ 0 → ∃ t, exec (.acqArm n d) s = .next t ∧
      acqState t n st = 1 ∧ t.fld F.ACQ_STRM_DESC n st = d ∧ t.fld F.ACQ_STRM_SEG n st = 0 ∧ (t.fld F.ACQ_STATUS_ACTIVE n).testBit st = true ∧ sameRegs
      [F.ACQ_STRM_STATE.part [n, st], F.ACQ_STRM_DESC.part [n, st], F.ACQ_STRM_SEG.part [n, st], F.ACQ_STATUS_ACTIVE.part [n]] s t ∧ otherSlices n s t ∧
      sameBytes s t) ∧
  (∀ (s : State) (n : Fin 16) (st : Fin 4) (d : Fin 64), s.coreOn n = true → s.flag F.ACQ_STATUS_DRAINED n = false → armRefusal s n d = none →
      (List.finRange 4).find? (fun st => acqState s n st.val = 0) = some st → s.fld F.ACQ_DPRE_ITEMS n d = 0 → s.fld F.ACQ_DCFG_TRIG n d ≠ 1 → ∃ t, exec
      (.acqArm n d) s = .next t ∧ acqState t n st = 2 ∧ t.fld F.ACQ_STRM_DESC n st = d ∧ t.fld F.ACQ_STRM_SEG n st = 0 ∧ (t.fld F.ACQ_STATUS_ACTIVE
      n).testBit st = true ∧ sameRegs
      [F.ACQ_STRM_STATE.part [n, st], F.ACQ_STRM_DESC.part [n, st], F.ACQ_STRM_SEG.part [n, st], F.ACQ_STATUS_ACTIVE.part [n]] s t ∧ otherSlices n s t ∧
      sameBytes s t) ∧
  (∀ (s : State) (n : Fin 16) (st : Fin 4), acqState s n st = 1 → (acq s n st).from_ ≤ s.now → (acq s n st).pre ≤ (acq s n st).preCount → (acq s n
      st).preFull < s.now ∨ (acq s n st).pre = 0 → (acq s n st).trig ≠ 1 → ∃ t, exec (.prefillDone n st) s = .next t ∧ acqState t n st = 2 ∧ sameRegs
      [F.ACQ_STRM_STATE.part [n, st]] s t ∧ otherSlices n s t ∧ sameBytes s t) ∧
  (∀ (s : State) (n : Fin 16) (st : Fin 4), s.coreOn n = true → s.flag F.ACQ_STATUS_DRAINED n = false → acqState s n st = 2 → (∀ x : Fin 4, x ≠ st →
      acqState s n x = 0) → (acq s n st).trig = 0 → (acq s n st).incoming = [] → ∃ t, exec (.acqTrigger n) s = .next t ∧ acqState t n st = 3 ∧ (acq t n
      st).trigBeat = some s.beat ∧ (acq t n st).postCount = 0 ∧ sameRegs [F.ACQ_STRM_STATE.part [n, st]] s t ∧ otherSlices n s t ∧ sameBytes s t) ∧
  (∀ (s : State) (n : Fin 16) (st : Fin 4), s.coreOn n = true → s.flag F.ACQ_STATUS_DRAINED n = false → acqState s n st = 2 ∨ acqState s n st = 3 → (∀ x
      : Fin 4, x ≠ st → acqState s n x = 0) → (acq s n st).incoming = [] → ∃ t, exec (.acqStop n) s = .next t ∧ acqState t n st = 4 ∧ (acq t n
      st).status = 1 ∧ sameRegs [F.ACQ_STRM_STATE.part [n, st]] s t ∧ otherSlices n s t ∧ sameBytes s t) ∧
  (∀ (s : State) (n : Fin 16) (st : Fin 4) (samples : List (BitVec 12)) (k v : Nat), acqState s n st = 3 → (acq s n st).kind = 1 → (acq s n st).incoming
      = [(k, v)] → (acq s n st).firstPost ≤ k → (acq s n st).postCount < (acq s n st).post → (acq s n st).full.length ≤ 14 → ∃ t, exec (.acqItem n st
      samples) s = .next t ∧ (acq t n st).incoming = [] ∧ (acq t n st).postCount = (acq s n st).postCount + 1 ∧ (acq t n st).items = (acq s n
      st).items.to ((acq s n st).pre + (acq s n st).postCount) v ∧ sameRegs [] s t ∧ otherSlices n s t ∧ sameBytes s t) ∧
  (∀ (s : State) (n : Fin 16) (st : Fin 4), acqState s n st = 3 → (acq s n st).post ≤ (acq s n st).postCount → (acq s n st).segments ≤ s.fld
      F.ACQ_STRM_SEG n st + 1 → ∃ t, exec (.acqSegmentEnd n st) s = .next t ∧ acqState t n st = 4 ∧ (acq t n st).status = 0 ∧ sameRegs
      [F.ACQ_STRM_STATE.part [n, st]] s t ∧ otherSlices n s t ∧ sameBytes s t) ∧
  (∀ (s : State) (n : Fin 16) (st : Fin 4), acqState s n st = 3 → (acq s n st).post ≤ (acq s n st).postCount → s.fld F.ACQ_STRM_SEG n st + 1 < (acq s n
      st).segments → (acq s n st).segments ≤ 65536 → ∃ t, exec (.acqSegmentEnd n st) s = .next t ∧ acqState t n st = 1 ∧ t.fld F.ACQ_STRM_SEG n st =
      s.fld F.ACQ_STRM_SEG n st + 1 ∧ sameRegs [F.ACQ_STRM_STATE.part [n, st], F.ACQ_STRM_SEG.part [n, st]] s t ∧ otherSlices n s t ∧ sameBytes s t) ∧
  (∀ (s : State) (n : Fin 16) (st : Fin 4), acqState s n st = 4 → (acq s n st).full = [] → ∃ t, exec (.acqStreamFree n st) s = .next t ∧ acqState t n st
      = 0 ∧ (t.fld F.ACQ_STATUS_ACTIVE n).testBit st = false ∧ sameRegs ([F.ACQ_STRM_STATE.part [n, st], F.ACQ_STATUS_ACTIVE.part [n]] ++ eventParts) s
      t ∧ otherSlices n s t ∧ sameBytes s t)

/-- A ready verdict of an available source is due at max(Y + E, U_prev + 1), with value 3 if its readout was muted. A message due now or up
to 255 beats on is held; an earlier one is late: counted, recorded, not latched. At its due beat a bound value message is on its way to
the slices of the import. While an input is held its copy at every receiving slice is 3 and new; at the end of the hold the new mark is
clear. -/
def Obligations.Verdicts : Prop :=
  (∀ (s : State) (v : Fin 1024) (r : ReadyVerdict), s.xbar.ready.find? (fun r => r.v = v.val ∧ r.at_ ≤ s.now) = some r → sourceUnavailable s
      (verdictSource v.val) = false → ∃ t, exec (.verdictReady v) s = .next t ∧ t.xbar.flight = s.xbar.flight ++
      [{ v := v.val, imported := false, value := if r.muted then 3 else r.value, due := max (s.now + delivery s v.val) (s.xbar.uPrev.at v.val), slices := BitVec.ofNat 16 (s.fld F.VRD_ROUTE_SLICES v.val) }]
      ∧ t.xbar.uPrev.at v.val = max (s.now + delivery s v.val) (s.xbar.uPrev.at v.val) + 1 ∧ t.xbar.ready = s.xbar.ready.erase r ∧ t.rd .VRD_GOV_SUBST =
      (if r.muted then satCount (s.rd .VRD_GOV_SUBST) 1 else s.rd .VRD_GOV_SUBST) ∧ sameRegs ([F.VRD_STATUS_EXP_DROP.part []] ++ globalParts
      [.VRD_GOV_SUBST, .VRD_EXPQ_MAX, .VRD_EXP_DROP, .KTL_UNREACH_DROP]) s t ∧ sameBytes s t) ∧
  (∀ (s : State) (p : Fin 4) (word : BitVec 64), (word.toNat.testBit 56 && word.toNat.testBit 57) = false → 0 ≤ dueOffset s (bitsAt word.toNat 32 24) →
      dueOffset s (bitsAt word.toNat 32 24) ≤ 255 → ∃ t, exec (.verdictMsgReceive p word) s = .next t ∧ t.xbar.held = s.xbar.held ++
      [{ word := word, due := s.now + (dueOffset s (bitsAt word.toNat 32 24)).toNat }] ∧ sameRegs [] s t ∧ sameBytes s t) ∧
  (∀ (s : State) (p : Fin 4) (word : BitVec 64), (word.toNat.testBit 56 && word.toNat.testBit 57) = false → dueOffset s (bitsAt word.toNat 32 24) < 0 → ∃
      t, exec (.verdictMsgReceive p word) s = .next t ∧ t.xbar.held = s.xbar.held ∧ t.xbar.flight = s.xbar.flight ∧ t.rd .VRD_LATE = satCount (s.rd
      .VRD_LATE) 1 ∧ t.flag F.VRD_STATUS_LATE = true ∧ t.fld F.VRD_LAST_LATE_VERDICT = bitsAt word.toNat 0 10 ∧ t.fld F.VRD_LAST_LATE_SRC_DEV = bitsAt
      word.toNat 10 10 ∧ t.fld F.VRD_LAST_LATE_BEATS = min (-(dueOffset s (bitsAt word.toNat 32 24))).toNat 4095 ∧ sameRegs
      [{ reg := .VRD_LATE, idx := [] }, F.VRD_STATUS_LATE.part [], F.VRD_LAST_LATE_VERDICT.part [], F.VRD_LAST_LATE_SRC_DEV.part [], F.VRD_LAST_LATE_BEATS.part []]
      s t ∧ sameBytes s t) ∧
  (∀ (s : State) (i : Fin 256) (m : HeldMessage), s.xbar.held.find? (fun m => m.due ≤ s.now ∧ i ∈ bindingsOf s (bitsAt m.word.toNat 10 10) (bitsAt
      m.word.toNat 0 10)) = some m → m.word.toNat.testBit 56 = false → m.word.toNat.testBit 57 = false → s.rpl.replaying = false → bindingsOf s (bitsAt
      m.word.toNat 10 10) (bitsAt m.word.toNat 0 10) = [i] → holdOf s (.imported i) = none → ∃ t, exec (.importDeliver i) s = .next t ∧ t.xbar.held =
      s.xbar.held.erase m ∧ t.xbar.flight = s.xbar.flight ++
      [{ v := i.val, imported := true, value := bitsAt m.word.toNat 30 2, due := s.now, slices := BitVec.ofNat 16 (s.fld F.VRD_IMPORT_SL_SLICES i) }] ∧
      sameRegs [] s t ∧ sameBytes s t) ∧
  (∀ (s : State) (input : SeqInput), (s.xbar.holds.any (fun h => h.input = input ∧ !h.active ∧ h.onset ≤ s.now)) = true → s.rpl.replaying = false →
      (s.xbar.holds.any (fun h => h.input = input ∧ h.active)) = false → ∃ t, exec (.holdOnset input) s = .next t ∧ (t.xbar.holds.any (fun h => h.input
      = input ∧ h.active)) = true ∧ (∀ n : Fin 16, (inputSlices s input).testBit n = true → inputNew t n (inputSel input) = true ∧ (t.sl
      n).seq.copies.at (match input with | .verdict v => v.val | .imported i => 1024 + i.val) = 3) ∧ sameRegs
      [F.SEQ_VNEW_NEW.part [], F.SEQ_XNEW_NEW.part [], F.VRD_IMP_HOLD_HELD.part []] s t ∧ sameBytes s t) ∧
  (∀ (s : State) (input : SeqInput) (h : VerdictHold) (k : Nat), holdOf s input = some h → h.until_ = some k → k ≤ s.now → s.rpl.replaying = false →
      h.active = true → ∃ t, exec (.holdEnd input) s = .next t ∧ t.xbar.holds = s.xbar.holds.erase h ∧ (∀ n : Fin 16, (inputSlices s input).testBit n =
      true → inputNew t n (inputSel input) = false) ∧ sameRegs [F.SEQ_VNEW_NEW.part [], F.SEQ_XNEW_NEW.part [], F.VRD_IMP_HOLD_HELD.part []] s t ∧
      sameBytes s t)

/-- A verdict message with HOLD and RELEASE both set, or due more than 255 beats after its arrival, is not held and not latched; VRD_DUE_ERR
counts, VRD_STATUS.DUE_ERR is set and a VERDICT_DUE fault is raised. -/
def Obligations.VerdictDueError : Prop :=
  ∀ (s : State) (p : Fin 4) (word : BitVec 64), (word.toNat.testBit 56 && word.toNat.testBit 57) = true ∨ 255 < dueOffset s (bitsAt word.toNat 32 24) →
      ∃ t, exec (.verdictMsgReceive p word) s = .next t ∧ t.xbar = s.xbar ∧ t.rd .VRD_DUE_ERR = satCount (s.rd .VRD_DUE_ERR) 1 ∧ t.flag
      F.VRD_STATUS_DUE_ERR = true ∧ { pair := { src := 0x2C, scope := 16, index := bitsAt word.toNat 10 10 }, injected := false, dry := false } ∈
      t.flt.raised ∧ (∀ n, t.sl n = s.sl n) ∧ sameRegs [{ reg := .VRD_DUE_ERR, idx := [] }, F.VRD_STATUS_DUE_ERR.part []] s t ∧ sameBytes s t

/-- A CODE event on an ACTIVE channel sets the code from its sample on; in CHANGING it is deferred and counted; in any other state it is
discarded and counted. A permitted SPAN event starts a change sequence: from step 3 in HIZ, from step 1 in ACTIVE; one to a setting that
is not permitted is refused and counted. HIZ starts the ramp and the opening. A change of setting ends ACTIVE at code 0, an HIZ sequence
ends in HIZ. -/
def Obligations.FfEvents : Prop :=
  (∀ (s : State) (n : Fin 16) (f : Fin 8) (code : BitVec 16) (off : Fin 8), s.analogOn n = true → ffStateOf s n f = 1 → ffMuted s n f = false → ∃ t, exec
      (.ffCode n f code off) s = .next t ∧ (ffCh t n f).changes = changeInsert off.val code.toInt (ffCh s n f).changes ∧ (ffCh t n f).code = lastCode
      (ffCh s n f).beatCode (changeInsert off.val code.toInt (ffCh s n f).changes) ∧ (ffCh t n f).seq = (ffCh s n f).seq ∧ sameRegs
      [F.FF_STATUS_STATE.part [n, f], { reg := .FF_CODE, idx := [n, f] }] s t ∧ otherSlices n s t ∧ sameBytes s t) ∧
  (∀ (s : State) (n : Fin 16) (f : Fin 8) (code : BitVec 16) (off : Fin 8), s.analogOn n = true → ffStateOf s n f = 2 → ∃ t, exec (.ffCode n f code off)
      s = .next t ∧ (ffCh t n f).deferred = some (code.toInt, off.val) ∧ (ffCh t n f).code = (ffCh s n f).code ∧ t.rd .FF_DEFER n f = satCount (s.rd
      .FF_DEFER n f) 1 ∧ t.flag F.FF_STATUS_DEFERRED n f = true ∧ sameRegs
      [F.FF_STATUS_STATE.part [n, f], { reg := .FF_CODE, idx := [n, f] }, { reg := .FF_DEFER, idx := [n, f] }, F.FF_STATUS_DEFERRED.part [n, f]] s t ∧
      otherSlices n s t ∧ sameBytes s t) ∧
  (∀ (s : State) (n : Fin 16) (f : Fin 8) (code : BitVec 16) (off : Fin 8), s.analogOn n = true → ffStateOf s n f ≠ 1 ∨ ffMuted s n f = true → ffStateOf
      s n f ≠ 2 → ∃ t, exec (.ffCode n f code off) s = .next t ∧ ffCh t n f = ffCh s n f ∧ t.rd .FF_DISCARD n f = satCount (s.rd .FF_DISCARD n f) 1 ∧
      t.flag F.FF_STATUS_DISCARD n f = true ∧ sameRegs [{ reg := .FF_DISCARD, idx := [n, f] }, F.FF_STATUS_DISCARD.part [n, f]] s t ∧ otherSlices n s t
      ∧ sameBytes s t) ∧
  (∀ (s : State) (n : Fin 16) (f : Fin 8) (setting : BitVec 3), s.analogOn n = true → ffStateOf s n f = 0 → ffAllowed s n f setting.toNat = true → (ffCh
      s n f).seq = none → ∃ t, exec (.ffSpan n f setting) s = .next t ∧ (ffCh t n f).seq = some
      { z := s.now, ramp := ffRamp s n f, c0 := (ffCh s n f).code, from3 := true, opened := false, goal := .setting setting.toNat } ∧ (ffCh t n f).base
      = .changing ∧ (ffCh t n f).code = 0 ∧ t.fld F.FF_STATUS_SETTING n f = setting.toNat ∧ sameRegs
      [F.FF_STATUS_STATE.part [n, f], { reg := .FF_CODE, idx := [n, f] }, F.FF_STATUS_SETTING.part [n, f]] s t ∧ otherSlices n s t ∧ sameBytes s t) ∧
  (∀ (s : State) (n : Fin 16) (f : Fin 8) (setting : BitVec 3), s.analogOn n = true → ffStateOf s n f = 1 → ffMuted s n f = false → ffAllowed s n f
      setting.toNat = true → s.fld F.FF_STATUS_SETTING n f ≠ setting.toNat → (ffCh s n f).seq = none → (ffCh s n f).events = [] → ∃ t, exec (.ffSpan n f
      setting) s = .next t ∧ (ffCh t n f).seq = some
      { z := s.now, ramp := ffRamp s n f, c0 := (ffCh s n f).code, from3 := false, opened := false, goal := .setting setting.toNat } ∧ (ffCh t n f).base
      = .changing ∧ sameRegs [F.FF_STATUS_STATE.part [n, f], { reg := .FF_CODE, idx := [n, f] }] s t ∧ otherSlices n s t ∧ sameBytes s t) ∧
  (∀ (s : State) (n : Fin 16) (f : Fin 8) (setting : BitVec 3), s.analogOn n = true → ffStateOf s n f = 0 ∨ ffStateOf s n f = 1 ∨ ffStateOf s n f = 2 →
      ffMuted s n f = false → ffAllowed s n f setting.toNat = false → ∃ t, exec (.ffSpan n f setting) s = .next t ∧ ffCh t n f = ffCh s n f ∧ t.rd
      .FF_REFUSED n f = satCount (s.rd .FF_REFUSED n f) 1 ∧ t.flag F.FF_STATUS_REFUSED n f = true ∧ sameRegs
      [{ reg := .FF_REFUSED, idx := [n, f] }, F.FF_STATUS_REFUSED.part [n, f]] s t ∧ otherSlices n s t ∧ sameBytes s t) ∧
  (∀ (s : State) (n : Fin 16) (f : Fin 8), s.analogOn n = true → ffStateOf s n f = 1 → ffMuted s n f = false → (ffCh s n f).seq = none → (ffCh s n
      f).events = [] → ∃ t, exec (.ffHiz n f) s = .next t ∧ (ffCh t n f).seq = some
      { z := s.now, ramp := ffRamp s n f, c0 := (ffCh s n f).code, from3 := false, opened := false, goal := .hiz } ∧ (ffCh t n f).base = .changing ∧
      (ffCh t n f).deferred = none ∧ sameRegs [F.FF_STATUS_STATE.part [n, f], { reg := .FF_CODE, idx := [n, f] }] s t ∧ otherSlices n s t ∧ sameBytes s
      t) ∧
  (∀ (s : State) (n : Fin 16) (f : Fin 8) (q : FfSequence) (v : Nat), (ffCh s n f).seq = some q → q.goal = .setting v → v < 8 → q.endAt ≤ s.now → (ffCh s
      n f).deferred = none → ∃ t, exec (.ffSequenceEnd n f) s = .next t ∧ (ffCh t n f).seq = none ∧ (ffCh t n f).base = .active ∧ (ffCh t n f).code = 0
      ∧ t.fld F.FF_STATUS_SETTING n f = v ∧ sameRegs
      [F.FF_STATUS_STATE.part [n, f], { reg := .FF_CODE, idx := [n, f] }, F.FF_STATUS_SETTING.part [n, f]] s t ∧ otherSlices n s t ∧ sameBytes s t) ∧
  (∀ (s : State) (n : Fin 16) (f : Fin 8) (q : FfSequence), (ffCh s n f).seq = some q → q.goal = .hiz → q.endAt ≤ s.now → ∃ t, exec (.ffSequenceEnd n f)
      s = .next t ∧ (ffCh t n f).seq = none ∧ (ffCh t n f).base = .hiz ∧ (ffCh t n f).code = 0 ∧ sameRegs
      [F.FF_STATUS_STATE.part [n, f], { reg := .FF_CODE, idx := [n, f] }] s t ∧ otherSlices n s t ∧ sameBytes s t)

/-- When the limiter starts to act with the switch closed LIMIT is set and a provisional check begins, counted by FF_PROV. A check
conversion records its read-back, its number and its error. A release of the limiter dismisses the check; a limiter that still acts at P
+ 5,125 confirms the short. Clearing SHORT takes the channel to HIZ. -/
def Obligations.FfShorts : Prop :=
  (∀ (s : State) (n : Fin 16) (f : Fin 8), ffClosed s n f s.now = true → s.flag F.FF_STATUS_LIMIT n f = false → checkRunning s n = false → ∃ t, exec
      (.ffLimitAct n f) s = .next t ∧ t.flag F.FF_STATUS_LIMIT n f = true ∧ t.flag F.FF_STATUS_CHECK n f = true ∧ t.rd .FF_PROV n f = satCount (s.rd
      .FF_PROV n f) 1 ∧ (ffCh t n f).check = some { p := s.now, converting := none, errors := [] } ∧ sameRegs
      [F.FF_STATUS_LIMIT.part [n, f], F.FF_STATUS_CHECK.part [n, f], { reg := .FF_PROV, idx := [n, f] }] s t ∧ otherSlices n s t ∧ sameBytes s t) ∧
  (∀ (s : State) (n : Fin 16) (f : Fin 8) (readback : BitVec 16) (k : FfCheck) (i : Nat), (ffCh s n f).check = some k → k.converting = some i → i < 8 →
      k.p + 125 * (i + 1) ≤ s.now → ∃ t, exec (.ffCheckConversion n f readback) s = .next t ∧ t.fld F.FF_READBACK_VALUE n f = readback.toNat ∧ t.fld
      F.FF_READBACK_INDEX n f = i ∧ (ffCh t n f).check = some
      { p := k.p, converting := none, errors := (readback.toInt - (ffCh s n f).code).natAbs :: k.errors } ∧ sameRegs
      [F.FF_READBACK_VALUE.part [n, f], F.FF_READBACK_INDEX.part [n, f]] s t ∧ otherSlices n s t ∧ sameBytes s t) ∧
  (∀ (s : State) (n : Fin 16) (f : Fin 8), (ffCh s n f).check.isSome = true → ∃ t, exec (.ffLimitRelease n f) s = .next t ∧ t.flag F.FF_STATUS_LIMIT n f
      = false ∧ t.flag F.FF_STATUS_CHECK n f = false ∧ (ffCh t n f).check = none ∧ t.rd .FF_DISMISS n f = satCount (s.rd .FF_DISMISS n f) 1 ∧ sameRegs
      [F.FF_STATUS_LIMIT.part [n, f], F.FF_STATUS_CHECK.part [n, f], { reg := .FF_DISMISS, idx := [n, f] }] s t ∧ otherSlices n s t ∧ sameBytes s t) ∧
  (∀ (s : State) (n : Fin 16) (f : Fin 8) (k : FfCheck), (ffCh s n f).check = some k → k.p + 5125 ≤ s.now → s.flag F.FF_STATUS_LIMIT n f = true → ∃ t,
      exec (.ffCheckDeadline n f) s = .next t ∧ t.flag F.FF_STATUS_SHORT n f = true ∧ t.flag F.FF_STATUS_LIMIT n f = false ∧ (ffCh t n f).check = none ∧
      (ffCh t n f).seq = none ∧ t.rd .FF_SHORTS n f = satCount (s.rd .FF_SHORTS n f) 1 ∧
      { pair := { src := 0x19, scope := n.val, index := f.val }, injected := false, dry := false } ∈ t.flt.raised ∧ sameRegs
      [F.FF_STATUS_LIMIT.part [n, f], F.FF_STATUS_CHECK.part [n, f], F.FF_STATUS_SHORT.part [n, f], { reg := .FF_SHORTS, idx := [n, f] }, F.FF_STATUS_STATE.part [n, f], { reg := .FF_CODE, idx := [n, f] }]
      s t ∧ otherSlices n s t ∧ sameBytes s t) ∧
  (∀ (s : State) (n : Fin 16) (f : Fin 8), ∃ t, exec (.ffShortClear n f) s = .next t ∧ t.flag F.FF_STATUS_SHORT n f = false ∧ ffCh t n f = ffCh s n f ∧
      sameRegs [F.FF_STATUS_SHORT.part [n, f], F.FF_STATUS_STATE.part [n, f], { reg := .FF_CODE, idx := [n, f] }] s t ∧ otherSlices n s t ∧ sameBytes s
      t)

/-- A request for a sequence while the converter is enabled and IDLE starts it; while it is busy with none pending it becomes the pending
request; else it is dropped and counted. ABORT ends the running sequence and the pending request. A conversion that completes its step
enters one result in the queue, with the corrected code, its input, range, sequence and step. A repetition starts once its GAP has
elapsed. Clearing ENABLE discards the pending request. -/
def Obligations.MeasureSequences : Prop :=
  (∀ (s : State) (n : Fin 16) (q : Fin 16), s.analogOn n = true → madState s n = 0 → s.flag F.MAD_CFG_ENABLE n = true → ∃ t, exec (.madTrigger n q) s =
      .next t ∧ madState t n = 1 ∧ t.fld F.MAD_STATUS_RUN_SEQ n = q ∧ (t.sl n).mad.slot = some (s.now, madSlot s n) ∧ (t.sl n).mad.run.map MadRun.seq =
      some q.val ∧ sameRegs [F.MAD_STATUS_STATE.part [n], F.MAD_STATUS_RUN_SEQ.part [n]] s t ∧ otherSlices n s t ∧ sameBytes s t) ∧
  (∀ (s : State) (n : Fin 16) (q : Fin 16), s.analogOn n = true → madState s n ≠ 0 → madState s n ≠ 5 → s.flag F.MAD_CFG_ENABLE n = true → s.flag
      F.MAD_STATUS_PEND n = false → ∃ t, exec (.madTrigger n q) s = .next t ∧ t.flag F.MAD_STATUS_PEND n = true ∧ t.fld F.MAD_STATUS_PEND_SEQ n = q ∧
      sameRegs [F.MAD_STATUS_PEND.part [n], F.MAD_STATUS_PEND_SEQ.part [n]] s t ∧ otherSlices n s t ∧ sameBytes s t) ∧
  (∀ (s : State) (n : Fin 16) (q : Fin 16), s.analogOn n = true → madState s n ≠ 5 → s.flag F.MAD_CFG_ENABLE n = false ∨ madState s n ≠ 0 ∧ s.flag
      F.MAD_STATUS_PEND n = true → ∃ t, exec (.madTrigger n q) s = .next t ∧ t.rd .MAD_TRIG_DROP n = satCount (s.rd .MAD_TRIG_DROP n) 1 ∧ t.flag
      F.MAD_STATUS_TRIG_DROP n = true ∧ (t.sl n).mad = (s.sl n).mad ∧ sameRegs [{ reg := .MAD_TRIG_DROP, idx := [n] }, F.MAD_STATUS_TRIG_DROP.part [n]]
      s t ∧ otherSlices n s t ∧ sameBytes s t) ∧
  (∀ (s : State) (n : Fin 16), s.analogOn n = true → (s.sl n).mad.run.isSome = true → ∃ t, exec (.madAbort n) s = .next t ∧ (t.sl n).mad.run = none ∧
      (t.sl n).mad.slot = none ∧ t.flag F.MAD_STATUS_PEND n = false ∧ (t.sl n).mad.queue = (s.sl n).mad.queue ∧ t.rd .MAD_ABORTS n = satCount (s.rd
      .MAD_ABORTS n) 1 ∧ sameRegs [F.MAD_STATUS_PEND.part [n], F.MAD_STATUS_STATE.part [n], { reg := .MAD_ABORTS, idx := [n] }] s t ∧ otherSlices n s t
      ∧ sameBytes s t) ∧
  (∀ (s : State) (n : Fin 16) (raw : BitVec 18) (clamped : Bool) (st T : Nat) (r : MadRun), (s.sl n).mad.slot = some (st, T) → (s.sl n).mad.run = some r
      → st + T ≤ s.now → r.conversions + 1 = 2 ^ s.fld F.MAD_STEP_AVG n (madStepIndex r) → (s.sl n).mad.queue.length < 256 → ∃ t, exec
      (.madConversionEnd n raw clamped) s = .next t ∧ (∃ e, (t.sl n).mad.queue = (s.sl n).mad.queue ++ [e] ∧ bitsAt e.toNat 0 18 = pat 18 (madCode s n
      (madSet s n (s.fld F.MAD_STEP_INPUT n (madStepIndex r)) (if s.fld F.MAD_STEP_INPUT n (madStepIndex r) < 40 then s.fld F.MAD_STEP_RANGE n
      (madStepIndex r) else 0)) (Config.madCorrect (madFactors s n) (roundDiv (r.sum + raw.toInt) (2 ^ s.fld F.MAD_STEP_AVG n (madStepIndex r))))).1 ∧
      bitsAt e.toNat 18 6 = s.fld F.MAD_STEP_INPUT n (madStepIndex r) ∧ bitsAt e.toNat 28 4 = r.seq % 16 ∧ bitsAt e.toNat 32 4 = r.step % 16 ∧ e.getLsbD
      36 = true) ∧ sameRegs
      [F.MAD_STATUS_STATE.part [n], F.MAD_STATUS_PEND.part [n], F.MAD_STATUS_RUN_SEQ.part [n], F.MAD_QSTATUS_PEAK.part [n], F.PIN_STATUS_PMU_CLAMP.part [n]]
      s t ∧ otherSlices n s t ∧ sameBytes s t) ∧
  (∀ (s : State) (n : Fin 16) (r : MadRun), (s.sl n).mad.run = some r → r.waiting = true → r.repStart + s.fld F.MAD_SEQ_GAP n r.seq ≤ s.now → madState s
      n = 1 → ∃ t, exec (.madRepeatStart n) s = .next t ∧ (t.sl n).mad.slot = some (s.now, madSlot s n) ∧ (t.sl n).mad.run = some
      { r with waiting := false, repStart := s.now } ∧ sameRegs [] s t ∧ otherSlices n s t ∧ sameBytes s t) ∧
  (∀ (s : State) (n : Fin 16), ∃ t, exec (.madDisable n) s = .next t ∧ t.flag F.MAD_CFG_ENABLE n = false ∧ t.flag F.MAD_STATUS_PEND n = false ∧ (t.sl
      n).mad.queue = (s.sl n).mad.queue ∧ (t.sl n).mad.slot = (s.sl n).mad.slot ∧ sameRegs
      [F.MAD_CFG_ENABLE.part [n], F.MAD_STATUS_PEND.part [n], F.MAD_STATUS_STATE.part [n], { reg := .MAD_DIS_COUNT, idx := [n] }] s t ∧ otherSlices n s
      t ∧ sameBytes s t)

/-- SELFCAL and SYSCAL are accepted only while the converter is IDLE with no request pending. A self-calibration ends 800,000 beats after
its grant: ten factors in range become the active set. A system calibration ends after 8,000 beats: a sound zero point is staged. APPLYF
puts the shadow factors in force at a boundary with no conversion in progress. A read of MAD_RES_LO gives the low word of the oldest
entry; the next read of MAD_RES_HI its high word, and the entry leaves. -/
def Obligations.MeasureCalibration : Prop :=
  (∀ (s : State) (n : Fin 16), s.analogOn n = true → madState s n = 0 → s.flag F.MAD_STATUS_PEND n = false → s.admissionGranted 3 n = false → ∃ t, exec
      (.selfcal n) s = .next t ∧ madState t n = 3 ∧ (t.sl n).mad.selfcal = true ∧ t.admissionPending 3 n = true ∧ sameRegs
      [F.MAD_STATUS_STATE.part [n], F.PWR_QSTATUS_PEAK.part []] s t ∧ otherSlices n s t ∧ sameBytes s t) ∧
  (∀ (s : State) (n : Fin 16), s.analogOn n = true → madState s n ≠ 0 ∨ s.flag F.MAD_STATUS_PEND n = true → ∃ t, exec (.selfcal n) s = .next t ∧ t.flag
      F.MAD_STATUS_REFUSED n = true ∧ (t.sl n).mad = (s.sl n).mad ∧ sameRegs [F.MAD_STATUS_REFUSED.part [n]] s t ∧ otherSlices n s t ∧ sameBytes s t) ∧
  (∀ (s : State) (n : Fin 16) (factors : List Int) (k : Nat), (s.sl n).mad.selfcalStart = some k → k + 800000 ≤ s.now → factors.length = 10 → factors.all
      factorFits = true → ∃ t, exec (.selfcalEnd n factors) s = .next t ∧ (∀ i : Fin 10, bitsAt (t.rd .MAD_SCF n i).toNat 0 18 = pat 18 (factors.getD i
      0)) ∧ t.flag F.MAD_STATUS_SELFCAL_DONE n = true ∧ (t.sl n).mad.selfcal = false ∧ t.admissionGranted 3 n = false ∧ sameRegs
      [{ reg := .MAD_SCF, idx := [n] }, { reg := .MAD_STATUS, idx := [n] }] s t ∧ otherSlices n s t ∧ sameBytes s t) ∧
  (∀ (s : State) (n : Fin 16), s.analogOn n = true → madState s n = 0 → s.flag F.MAD_STATUS_PEND n = false → s.flag F.MAD_SCAL_CTRL_POINT n = false → ∃
      t, exec (.syscal n) s = .next t ∧ madState t n = 3 ∧ t.fld F.MAD_SCAL_STATUS_STATE n = 2 ∧ (t.sl n).mad.syscal.map MadSysCal.start = some s.now ∧
      sameRegs [F.MAD_STATUS_STATE.part [n], F.MAD_SCAL_STATUS_STATE.part [n], F.MAD_SCAL_STATUS_SET.part [n]] s t ∧ otherSlices n s t ∧ sameBytes s t) ∧
  (∀ (s : State) (n : Fin 16), s.analogOn n = true → madState s n ≠ 0 ∨ s.flag F.MAD_STATUS_PEND n = true → ∃ t, exec (.syscal n) s = .next t ∧ t.fld
      F.MAD_SCAL_STATUS_ERR n = 5 ∧ (t.sl n).mad = (s.sl n).mad ∧ sameRegs [F.MAD_SCAL_STATUS_ERR.part [n]] s t ∧ otherSlices n s t ∧ sameBytes s t) ∧
  (∀ (s : State) (n : Fin 16) (raws : List (BitVec 18)) (c : MadSysCal), (s.sl n).mad.syscal = some c → c.start + 8000 ≤ s.now → raws.length = 64 →
      c.full = false → madInvalid s n c.input = false → ∃ t, exec (.syscalEnd n raws false) s = .next t ∧ (t.sl n).mad.zero = some (c.set, roundDiv
      ((raws.map BitVec.toInt).map (Config.madCorrect (madFactors s n))).sum 64) ∧ t.fld F.MAD_SCAL_STATUS_ERR n = 0 ∧ t.fld F.MAD_SCAL_STATUS_STATE n =
      1 ∧ (t.sl n).mad.syscal = none ∧ sameRegs
      [F.MAD_STATUS_STATE.part [n], F.MAD_STATUS_PEND.part [n], F.MAD_STATUS_RUN_SEQ.part [n], F.MAD_SCAL_STATUS_ERR.part [n], F.MAD_SCAL_STATUS_STATE.part [n]]
      s t ∧ otherSlices n s t ∧ sameBytes s t) ∧
  (∀ (s : State) (n : Fin 16), ∃ t, exec (.applyf n) s = .next t ∧ (t.sl n).mad.applyPending = true ∧ sameRegs [] s t ∧ otherSlices n s t ∧ sameBytes s t) ∧
  (∀ (s : State) (n : Fin 16), (s.sl n).mad.applyPending = true → (s.sl n).mad.slot = none → (s.sl n).mad.selfcalStart = none → (s.sl n).mad.syscal =
      none → madHeld s n = false → ∃ t, exec (.factorApply n) s = .next t ∧ (∀ i : Fin 10, t.rd .MAD_SCF n i = ((s.sl n).mad.shadow.get i).setWidth 32)
      ∧ (t.sl n).mad.applyPending = false ∧ sameRegs [{ reg := .MAD_SCF, idx := [n] }] s t ∧ otherSlices n s t ∧ sameBytes s t) ∧
  (∀ (s : State) (n : Fin 16) (e : BitVec 64) (l : List (BitVec 64)), (s.sl n).mad.queue = e :: l → ∃ t, exec (.madResLoRead n) s = .next t ∧ t.readValue
      = e.setWidth 32 ∧ (t.sl n).mad.captured = some (BitVec.ofNat 32 (e.toNat / 2 ^ 32), false) ∧ (t.sl n).mad.queue = e :: l ∧ sameRegs [] s t ∧
      otherSlices n s t ∧ sameBytes s t) ∧
  (∀ (s : State) (n : Fin 16), (s.sl n).mad.queue = [] → ∃ t, exec (.madResLoRead n) s = .next t ∧ t.readValue = 0 ∧ sameRegs [] s t ∧ otherSlices n s t
      ∧ sameBytes s t) ∧
  (∀ (s : State) (n : Fin 16) (v : BitVec 32), (s.sl n).mad.captured = some (v, false) → ∃ t, exec (.madResHiRead n) s = .next t ∧ t.readValue = v ∧
      (t.sl n).mad.queue = (s.sl n).mad.queue.drop 1 ∧ (t.sl n).mad.captured = none ∧ sameRegs [] s t ∧ otherSlices n s t ∧ sameBytes s t) ∧
  (∀ (s : State) (n : Fin 16), (s.sl n).mad.captured = none → ∃ t, exec (.madResHiRead n) s = .next t ∧ t.readValue = 0 ∧ (t.sl n).mad.queue = (s.sl
      n).mad.queue ∧ sameRegs [] s t ∧ otherSlices n s t ∧ sameBytes s t) ∧
  (∀ (s : State) (n : Fin 16) (v : BitVec 32), (s.sl n).mad.captured = some (v, true) → ∃ t, exec (.madResHiRead n) s = .next t ∧ t.readValue = v ∧ (t.sl
      n).mad.queue = (s.sl n).mad.queue ∧ t.flag F.MAD_STATUS_RD_EMPTY n = true ∧ sameRegs [F.MAD_STATUS_RD_EMPTY.part [n]] s t ∧ otherSlices n s t ∧
      sameBytes s t)

/-- ARM of an IDLE enabled channel with a sound set-up makes it ARMED; on any other state it is ignored and counted; a bad set-up is
refused. A start edge of an INTERVAL measurement begins it; the stop edge ends it with the time between as one result. A stop older than
1,000 ns is discarded; no stop within 2^32 ns gives OVF; a gate that closes without an edge gives NOEDGE. A due result enters the queue
of 128; a read takes the oldest. -/
def Obligations.TimeMeasures : Prop :=
  (∀ (s : State) (n : Fin 16) (c : Fin 8) (k : Fin 4), s.analogOn n = true → tdcState s n c = 0 → s.flag F.TDC_CFG_EN n c = true → (TdcSetup.ofWord (s.rd
      .TDC_SETUP n c k)).ok = true → ∃ t, exec (.tdcArm n c k) s = .next t ∧ tdcState t n c = 1 ∧ t.fld F.TDC_STATUS_SETUP n c = k ∧ (tdcCh t n c).setup
      = s.rd .TDC_SETUP n c k ∧ (tdcCh t n c).from_ = beatLsb s.now ∧ t.fld F.TDC_STATUS_LEFT n c = (if (TdcSetup.ofWord (s.rd .TDC_SETUP n c k)).cont
      then 0 else (TdcSetup.ofWord (s.rd .TDC_SETUP n c k)).reps) ∧ sameRegs
      [F.TDC_STATUS_STATE.part [n, c], F.TDC_STATUS_LEFT.part [n, c], F.TDC_STATUS_SETUP.part [n, c]] s t ∧ otherSlices n s t ∧ sameBytes s t) ∧
  (∀ (s : State) (n : Fin 16) (c : Fin 8) (k : Fin 4), s.analogOn n = true → tdcState s n c ≠ 0 → ∃ t, exec (.tdcArm n c k) s = .next t ∧ t.rd
      .TDC_IGNORED n c = satCount (s.rd .TDC_IGNORED n c) 1 ∧ t.flag F.TDC_STATUS_ARM_IGN n c = true ∧ (t.sl n).tdc = (s.sl n).tdc ∧ sameRegs
      [{ reg := .TDC_IGNORED, idx := [n, c] }, F.TDC_STATUS_ARM_IGN.part [n, c]] s t ∧ otherSlices n s t ∧ sameBytes s t) ∧
  (∀ (s : State) (n : Fin 16) (c : Fin 8) (k : Fin 4), s.analogOn n = true → tdcState s n c = 0 → s.flag F.TDC_CFG_EN n c = false ∨ (TdcSetup.ofWord
      (s.rd .TDC_SETUP n c k)).ok = false → ∃ t, exec (.tdcArm n c k) s = .next t ∧ t.flag F.TDC_STATUS_CFG_ERR n c = true ∧ (t.sl n).tdc = (s.sl n).tdc
      ∧ sameRegs [F.TDC_STATUS_CFG_ERR.part [n, c]] s t ∧ otherSlices n s t ∧ sameBytes s t) ∧
  (∀ (s : State) (n : Fin 16) (c : Fin 8), s.analogOn n = true → tdcState s n c ≠ 4 → ∃ t, exec (.tdcDisarm n c) s = .next t ∧ tdcState t n c = 0 ∧
      (tdcCh t n c).start = none ∧ (tdcCh t n c).gate = none ∧ (t.sl n).tdc.queue = (s.sl n).tdc.queue ∧ (t.sl n).tdc.waiting = (s.sl n).tdc.waiting ∧
      sameRegs [F.TDC_STATUS_STATE.part [n, c]] s t ∧ otherSlices n s t ∧ sameBytes s t) ∧
  (∀ (s : State) (n : Fin 16) (c : Fin 8), s.analogOn n = true → tdcState s n c = 1 → (tdcSetup s n c).mode = 2 → ∃ t, exec (.tdcGate n c) s = .next t ∧
      tdcState t n c = 3 ∧ (tdcCh t n c).gate = some (beatLsb s.now, beatLsb s.now + clampNat 1 4000000 (s.fld F.TDC_GATE_US n c) * 4096000) ∧ sameRegs
      [F.TDC_STATUS_STATE.part [n, c]] s t ∧ otherSlices n s t ∧ sameBytes s t) ∧
  (∀ (s : State) (n : Fin 16) (c : Fin 8) (input : BitVec 7) (rising : Bool) (lsb : Fin 16384), tdcState s n c = 1 → (tdcCh s n c).seen.any (fun e => e.1
      = input.toNat ∧ beatLsb s.now + lsb.val < e.2 + 8192) = false → (tdcCh s n c).from_ ≤ beatLsb s.now + lsb.val → (tdcSetup s n c).mode = 0 → (tdcCh
      s n c).stop = none → qualifies (tdcSetup s n c).startIn (tdcSetup s n c).startSlope input.toNat rising = true → qualifies (tdcSetup s n c).stopIn
      (tdcSetup s n c).stopSlope input.toNat rising = false → (tdcCh s n c).start = none → ∃ t, exec (.tdcEdge n c input rising lsb) s = .next t ∧
      tdcState t n c = 2 ∧ (tdcCh t n c).start.map Prod.fst = some (beatLsb s.now + lsb.val) ∧ (t.sl n).tdc.waiting = (s.sl n).tdc.waiting ∧ sameRegs
      [F.TDC_STATUS_STATE.part [n, c]] s t ∧ otherSlices n s t ∧ sameBytes s t) ∧
  (∀ (s : State) (n : Fin 16) (c : Fin 8) (input : BitVec 7) (rising : Bool) (lsb : Fin 16384) (a : Nat), tdcState s n c = 2 → (tdcCh s n c).seen.any
      (fun e => e.1 = input.toNat ∧ beatLsb s.now + lsb.val < e.2 + 8192) = false → (tdcCh s n c).from_ ≤ beatLsb s.now + lsb.val → (tdcSetup s n
      c).mode = 0 → (tdcCh s n c).stop = none → qualifies (tdcSetup s n c).stopIn (tdcSetup s n c).stopSlope input.toNat rising = true → (tdcCh s n
      c).start = some (a, false) → a ≤ beatLsb s.now + lsb.val → ∃ t, exec (.tdcEdge n c input rising lsb) s = .next t ∧ (∃ r, (t.sl n).tdc.waiting =
      (s.sl n).tdc.waiting ++ [r] ∧ r.ch = c.val ∧ r.neg = false ∧ r.ovf = false ∧ r.val = beatLsb s.now + lsb.val - a ∧ r.due = (beatLsb s.now +
      lsb.val) / 16384 + 4) ∧ (tdcCh t n c).start = none ∧ sameRegs [F.TDC_STATUS_STATE.part [n, c], F.TDC_STATUS_LEFT.part [n, c]] s t ∧ otherSlices n
      s t ∧ sameBytes s t) ∧
  (∀ (s : State) (n : Fin 16) (c : Fin 8) (p : Nat × Bool), (tdcCh s n c).stop = some p → p.1 + 4096000 < beatLsb (s.now + 1) → ∃ t, exec (.tdcStopExpire
      n c) s = .next t ∧ (tdcCh t n c).stop = none ∧ t.rd .TDC_REV_DISC n c = satCount (s.rd .TDC_REV_DISC n c) 1 ∧ t.flag F.TDC_STATUS_REV_DISC n c =
      true ∧ sameRegs [{ reg := .TDC_REV_DISC, idx := [n, c] }, F.TDC_STATUS_REV_DISC.part [n, c]] s t ∧ otherSlices n s t ∧ sameBytes s t) ∧
  (∀ (s : State) (n : Fin 16) (c : Fin 8) (p : Nat × Bool), (tdcCh s n c).start = some p → p.1 + 2 ^ 44 < beatLsb (s.now + 1) → ∃ t, exec
      (.tdcIntervalOvf n c) s = .next t ∧ (∃ r, (t.sl n).tdc.waiting = (s.sl n).tdc.waiting ++ [r] ∧ r.ch = c.val ∧ r.ovf = true ∧ r.val =
      0x00000FFFFFFFFFFF) ∧ (tdcCh t n c).start = none ∧ sameRegs [F.TDC_STATUS_STATE.part [n, c], F.TDC_STATUS_LEFT.part [n, c]] s t ∧ otherSlices n s
      t ∧ sameBytes s t) ∧
  (∀ (s : State) (n : Fin 16) (c : Fin 8) (o e : Nat), (tdcCh s n c).gate = some (o, e) → e < beatLsb (s.now + 1) → (tdcCh s n c).first = none → ∃ t,
      exec (.tdcGateClose n c) s = .next t ∧ (∃ r, (t.sl n).tdc.waiting = (s.sl n).tdc.waiting ++ [r] ∧ r.ch = c.val ∧ r.noedge = true ∧ r.due = e /
      16384 + 4) ∧ (tdcCh t n c).gate = none ∧ sameRegs [F.TDC_STATUS_STATE.part [n, c], F.TDC_STATUS_LEFT.part [n, c]] s t ∧ otherSlices n s t ∧
      sameBytes s t) ∧
  (∀ (s : State) (n : Fin 16) (r : TdcResult), tdcNext ((s.sl n).tdc.waiting.filter (fun r => decide (r.due ≤ s.now))) = some r → (s.sl
      n).tdc.queue.length < 128 → ∃ t, exec (.tdcResultEnqueue n) s = .next t ∧ (t.sl n).tdc.queue = (s.sl n).tdc.queue ++
      [tdcEntry r (s.beat - (s.now - r.due))] ∧ (t.sl n).tdc.waiting = (s.sl n).tdc.waiting.erase r ∧ sameRegs [F.TDC_QSTATUS_PEAK.part [n]] s t ∧
      otherSlices n s t ∧ sameBytes s t) ∧
  (∀ (s : State) (n : Fin 16) (c : Fin 8) (startRef stopRef : BitVec 13), s.analogOn n = true → ∃ t, exec (.tdcServoRef n c startRef stopRef) s = .next t
      ∧ t.flag F.TDC_STATUS_LOCK n c = (decide (4094 ≤ startRef.toNat ∧ startRef.toNat ≤ 4098) && decide (4094 ≤ stopRef.toNat ∧ stopRef.toNat ≤ 4098))
      ∧ sameRegs [F.TDC_STATUS_LOCK.part [n, c]] s t ∧ otherSlices n s t ∧ sameBytes s t) ∧
  (∀ (s : State) (n : Fin 16) (e : BitVec 128) (l : List (BitVec 128)), (s.sl n).tdc.queue = e :: l → ∃ t, exec (.tdcResultRead n) s = .next t ∧
      t.readValue = BitVec.ofNat 32 e.toNat ∧ t.pair .TDC_RES_VAL_LO .TDC_RES_VAL_HI n = bitsAt e.toNat 32 64 ∧ t.rd .TDC_RES_AUX n = BitVec.ofNat 32
      (e.toNat / 2 ^ 96) ∧ (t.sl n).tdc.queue = l ∧ sameRegs
      [{ reg := .TDC_RES_VAL_LO, idx := [n] }, { reg := .TDC_RES_VAL_HI, idx := [n] }, { reg := .TDC_RES_AUX, idx := [n] }] s t ∧ otherSlices n s t ∧
      sameBytes s t) ∧
  (∀ (s : State) (n : Fin 16) (c : Fin 8), tdcState s n c ≠ 4 → ∃ t, exec (.tdcDisable n c) s = .next t ∧ t.flag F.TDC_CFG_EN n c = false ∧ tdcState t n
      c = 0 ∧ t.fld F.PWR_DIS_LAST_KIND = 3 ∧ (t.sl n).tdc.waiting = (s.sl n).tdc.waiting ∧ sameRegs
      [F.TDC_STATUS_STATE.part [n, c], F.TDC_CFG_EN.part [n, c], { reg := .PWR_DIS_LAST, idx := [] }] s t ∧ otherSlices n s t ∧ sameBytes s t)

/-- Loss of the reference enters holdover, reported as INV_REF; its return resumes discipline. A frame leaves at each wheel boundary with
START, SYNC, CRC and the position of the sender; a received frame with a wrong one is counted and otherwise ignored; a good one sets the
turn. A slave steps its grid by the first average in ACQUIRE, leaves for HOLDOVER when the clock is lost, and returns to ACQUIRE. ROLE
and POS change only while every wheel is STOPPED. -/
def Obligations.InvarAndChain : Prop :=
  (∀ (s : State), s.flag F.INV_STATUS_REF_VALID = true → ∃ t, exec .invRefLoss s = .next t ∧ t.flag F.INV_STATUS_REF_VALID = false ∧ t.flag
      F.INV_STATUS_HOLDOVER = true ∧ t.flag F.INV_STATUS_REF_LOST = true ∧ t.flag F.INV_STATUS_DISC_LOCK = false ∧ t.rd .INV_DISC = s.rd .INV_DISC ∧
      t.rd .INV_REF_LOSS = satCount (s.rd .INV_REF_LOSS) 1 ∧ { pair := { src := 0x28, scope := 16, index := 0 }, injected := false, dry := false } ∈
      t.flt.raised ∧ sameRegs
      [F.INV_STATUS_REF_VALID.part [], F.INV_STATUS_DISC_LOCK.part [], F.INV_STATUS_HOLDOVER.part [], F.INV_STATUS_REF_LOST.part [], { reg := .INV_PHASE_ERR, idx := [] }, { reg := .INV_REF_LOSS, idx := [] }]
      s t ∧ sameBytes s t) ∧
  (∀ (s : State), s.fld F.INV_CFG_REF_SEL ≠ 0 → ∃ t, exec .invRefRestore s = .next t ∧ t.flag F.INV_STATUS_REF_VALID = true ∧ t.flag
      F.INV_STATUS_HOLDOVER = false ∧ t.rd .INV_DISC = s.rd .INV_DISC ∧ sameRegs [F.INV_STATUS_REF_VALID.part [], F.INV_STATUS_HOLDOVER.part []] s t ∧
      sameBytes s t) ∧
  (∀ (s : State), s.flag F.INV_STATUS_REF_VALID = true → s.flag F.INV_STATUS_HOLDOVER = false → ∃ t, exec .invDiscLock s = .next t ∧ t.flag
      F.INV_STATUS_DISC_LOCK = true ∧ sameRegs [F.INV_STATUS_DISC_LOCK.part []] s t ∧ sameBytes s t) ∧
  (∀ (s : State), chnFollows s = true → chnState s = 5 → s.flag F.CHN_STATUS_CLK_LOCK = false → wheelsStopped s = true → ∃ t, exec .clkInLock s = .next t
      ∧ chnState t = 2 ∧ t.flag F.CHN_STATUS_CLK_LOCK = true ∧ t.flag F.INV_STATUS_REF_VALID = true ∧ sameRegs
      [F.CHN_STATUS_STATE.part [], F.CHN_STATUS_ALIGNED.part [], F.CHN_STATUS_CLK_LOCK.part [], F.INV_STATUS_REF_VALID.part [], F.INV_STATUS_HOLDOVER.part []]
      s t ∧ sameBytes s t) ∧
  (∀ (s : State), chnRole s ≠ 0 → s.beat % 16 = 0 → ∃ t, exec .chainFrameTx s = .next t ∧ frameOk t.chn.out.toNat = true ∧ bitsAt t.chn.out.toNat 4 5 =
      chnPos s ∧ t.chn.report = none ∧ sameRegs [] s t ∧ sameBytes s t) ∧
  (∀ (s : State) (frame : BitVec 64) (arrival : Int), chnFollows s = true → frameOk frame.toNat = false → ∃ t, exec (.chainFrameRx frame arrival) s =
      .next t ∧ t.rd .CHN_FRAME_ERR = satCount (s.rd .CHN_FRAME_ERR) 1 ∧ t.chn.lost = s.chn.lost + 1 ∧ t.chn.rxTurn = s.chn.rxTurn ∧ t.chn.grid =
      s.chn.grid ∧ t.beat = s.beat ∧ sameRegs [{ reg := .CHN_FRAME_ERR, idx := [] }] s t ∧ sameBytes s t) ∧
  (∀ (s : State) (frame : BitVec 64) (arrival : Int), chnFollows s = true → frameOk frame.toNat = true → ∃ t, exec (.chainFrameRx frame arrival) s =
      .next t ∧ t.rd .CHN_FRAME_ERR = s.rd .CHN_FRAME_ERR ∧ t.chn.lost = 0 ∧ t.chn.rxTurn = bitsAt frame.toNat 9 5 ∧ sameRegs
      ([F.INV_STATUS_HOLDOVER.part []] ++ globalParts [.CHN_STATUS, .TRG_CAL_START_LO, .TRG_CAL_START_HI]) s t ∧ sameBytes s t) ∧
  (∀ (s : State), chnRole s = 2 → s.chn.rxTurn = chnPos s → s.flag F.CHN_STATUS_POS_ERR = false → s.beat % 16 = 8 → ∃ t, exec .chainReturnTurn s = .next
      t ∧ t.chn = { s.chn with retPulse := s.now + 1 } ∧ sameRegs [] s t ∧ sameBytes s t) ∧
  (∀ (s : State) (rpt : Int), chnRole s ≠ 0 → bitsAt s.chn.out.toNat 9 5 = chnPos s + 1 → 0 ≤ rpt → rpt < 2 ^ 20 → ∃ t, exec (.chainReturnStamp rpt) s =
      .next t ∧ t.chn = { s.chn with report := some rpt.toNat } ∧ sameRegs [] s t ∧ sameBytes s t) ∧
  (∀ (s : State), chnRole s = 2 → s.chn.turns ≠ 0 → averageTurns s ≤ s.chn.turns → s.chn.sumA + s.chn.sumR ≤ 393216 * s.chn.turns → chnState s = 2 →
      s.chn.stepped = false → ∃ t, exec .chainAverage s = .next t ∧ t.chn.grid = s.chn.grid - tenths (averageOffset s) s.chn.turns ∧ t.chn.stepped =
      true ∧ t.chn.turns = 0 ∧ t.rd .CHN_OFFSET = BitVec.ofInt 32 (roundDiv (averageOffset s) (2 * s.chn.turns)) ∧ t.rd .CHN_LINK = BitVec.ofNat 32 (pat
      20 (roundDiv (s.chn.sumA + s.chn.sumR) (2 * s.chn.turns))) ∧ sameRegs [{ reg := .CHN_LINK, idx := [] }, { reg := .CHN_OFFSET, idx := [] }] s t ∧
      sameBytes s t) ∧
  (∀ (s : State) (clock : Bool), chnFollows s = true → chnState s ≠ 4 → chnState s ≠ 5 ∨ s.flag F.CHN_STATUS_CLK_LOCK = true → clock = true ∨ 8 ≤
      s.chn.lost → ∃ t, exec (.chainHoldover clock) s = .next t ∧ chnState t = 4 ∧ t.flag F.CHN_STATUS_ALIGNED = false ∧ t.flag F.CHN_STATUS_CLK_LOCK =
      (s.flag F.CHN_STATUS_CLK_LOCK && !clock) ∧ t.flag F.INV_STATUS_HOLDOVER = true ∧ t.rd .CHN_HOLDOVERS = satCount (s.rd .CHN_HOLDOVERS) 1 ∧
      { pair := { src := 0x29, scope := 16, index := 0 }, injected := false, dry := false } ∈ t.flt.raised ∧ sameRegs
      [F.CHN_STATUS_STATE.part [], F.CHN_STATUS_ALIGNED.part [], F.CHN_STATUS_CLK_LOCK.part [], F.INV_STATUS_HOLDOVER.part [], { reg := .CHN_HOLDOVERS, idx := [] }]
      s t ∧ sameBytes s t) ∧
  (∀ (s : State) (role : BitVec 2) (pos : BitVec 5), role.toNat ≠ chnRole s ∨ pos.toNat ≠ chnPos s → wheelsStopped s = true → ∃ t, exec (.chainRoleWrite
      role pos) s = .next t ∧ chnRole t = role.toNat ∧ chnPos t = pos.toNat ∧ chnState t = (if role.toNat < 2 then role.toNat else if s.flag
      F.CHN_STATUS_CLK_LOCK then 2 else 5) ∧ t.flag F.CHN_STATUS_ALIGNED = false ∧ sameRegs
      [F.CHN_STATUS_STATE.part [], F.CHN_STATUS_ALIGNED.part [], F.CHN_STATUS_CLK_LOCK.part [], F.CHN_CFG_ROLE.part [], F.CHN_CFG_POS.part []] s t ∧
      sameBytes s t) ∧
  (∀ (s : State) (role : BitVec 2) (pos : BitVec 5), role.toNat ≠ chnRole s ∨ pos.toNat ≠ chnPos s → wheelsStopped s = false → ∃ t, exec (.chainRoleWrite
      role pos) s = .next t ∧ t.flag F.CHN_STATUS_CFG_IGN = true ∧ t.chn = s.chn ∧ sameRegs [F.CHN_STATUS_CFG_IGN.part []] s t ∧ sameBytes s t) ∧
  (∀ (s : State), chnFollows s = true → wheelsStopped s = true → s.flag F.CHN_STATUS_CLK_LOCK = true → ∃ t, exec .realign s = .next t ∧ chnState t = 2 ∧
      t.flag F.CHN_STATUS_ALIGNED = false ∧ sameRegs [F.CHN_STATUS_STATE.part [], F.CHN_STATUS_ALIGNED.part []] s t ∧ sameBytes s t) ∧
  (∀ (s : State), wheelsStopped s = false → ∃ t, exec .realign s = .next t ∧ t.flag F.CHN_STATUS_REALIGN_REFUSED = true ∧ t.chn = s.chn ∧ sameRegs
      [F.CHN_STATUS_REALIGN_REFUSED.part []] s t ∧ sameBytes s t)

/-- EPOCH is refused, and EPOCH_REFUSED set, if E is not a multiple of 2^24, if E is less than the present beat plus 2,048, on a SLAVE or
SUBMASTER, or while an EPOCH is pending. Otherwise the device holds E and EPOCH_PEND is set. -/
def Obligations.EpochCommand : Prop :=
  (∀ (s : State), s.pair .CHN_EPOCH_LO .CHN_EPOCH_HI % 2 ^ 24 ≠ 0 ∨ s.pair .CHN_EPOCH_LO .CHN_EPOCH_HI < s.beat + 2048 ∨ chnFollows s = true ∨
      s.chn.epoch.isSome = true → ∃ t, exec .epoch s = .next t ∧ t.flag F.CHN_STATUS_EPOCH_REFUSED = true ∧ t.chn = s.chn ∧ sameRegs
      [F.CHN_STATUS_EPOCH_REFUSED.part []] s t ∧ sameBytes s t) ∧
  (∀ (s : State), s.pair .CHN_EPOCH_LO .CHN_EPOCH_HI % 2 ^ 24 = 0 → s.beat + 2048 ≤ s.pair .CHN_EPOCH_LO .CHN_EPOCH_HI → chnFollows s = false →
      s.chn.epoch = none → ∃ t, exec .epoch s = .next t ∧ t.chn.epoch = some (s.pair .CHN_EPOCH_LO .CHN_EPOCH_HI) ∧ t.flag F.CHN_STATUS_EPOCH_PEND =
      true ∧ sameRegs [F.CHN_STATUS_EPOCH_PEND.part []] s t ∧ sameBytes s t)

/-- At beat E the count becomes 0, CHN_LAST_EPOCH holds E and EPOCH_PEND clears. TRG_DRIVE drives the lines of a device that does not
follow; on one that does it is ignored. A TIN transition is forwarded to the lines that take it. A transition of an enabled line is
stamped at the reference point; an edge takes effect 16 beats on and counts. A calibration begins at a multiple of 16 at least 2,048
beats away and lasts 32,768 beats. -/
def Obligations.EpochAndTriggers : Prop :=
  (∀ (s : State) (e : Nat), s.chn.epoch = some e → s.beat = e → e < 2 ^ 64 → ∃ t, exec .epochApply s = .next t ∧ t.beat = 0 ∧ t.now = s.now ∧ t.chn.epoch
      = none ∧ t.pair .CHN_LAST_EPOCH_LO .CHN_LAST_EPOCH_HI = e ∧ t.flag F.CHN_STATUS_EPOCH_PEND = false ∧ sameRegs ([F.CHN_STATUS_EPOCH_PEND.part []]
      ++ globalParts
      [.CHN_LAST_EPOCH_LO, .CHN_LAST_EPOCH_HI, .SEQ_START_LO, .SEQ_START_HI, .SLC_WHEEL_START_LO, .SLC_WHEEL_START_HI, .BOOT_RUN_AT_LO, .BOOT_RUN_AT_HI, .GLB_IMG_REJOIN_LO, .GLB_IMG_REJOIN_HI, .GLB_IMG_DRAIN_LO, .GLB_IMG_DRAIN_HI]
      ++ eventParts) s t ∧ sameBytes s t) ∧
  (∀ (s : State) (levels : BitVec 8), chnFollows s = false → ∃ t, exec (.trgDriveWrite levels) s = .next t ∧ t.fld F.TRG_DRIVE_LEVEL = levels.toNat ∧ (∀
      l : Fin 8, s.flag F.TRG_LINE_EN l = true → s.fld F.TRG_LINE_SRC l = 0 → t.trg.driven.getLsbD l = levels.getLsbD l) ∧ sameRegs
      [F.TRG_DRIVE_LEVEL.part []] s t ∧ sameBytes s t) ∧
  (∀ (s : State) (levels : BitVec 8), chnFollows s = true → ∃ t, exec (.trgDriveWrite levels) s = .next t ∧ t.flag F.TRG_STATUS_DRIVE_IGN = true ∧ t.trg
      = s.trg ∧ sameRegs [F.TRG_STATUS_DRIVE_IGN.part []] s t ∧ sameBytes s t) ∧
  (∀ (s : State) (x : Fin 16) (level : Bool), chnFollows s = false → ∃ t, exec (.trgTinForward x level) s = .next t ∧ (∀ l : Fin 8, t.trg.driven.getLsbD
      l = (if s.flag F.TRG_LINE_EN l = true ∧ s.fld F.TRG_LINE_SRC l = 1 ∧ s.fld F.TRG_LINE_TIN l = x.val then level else s.trg.driven.getLsbD l)) ∧
      sameRegs [] s t ∧ sameBytes s t) ∧
  (∀ (s : State) (l : Fin 8) (level : Bool) (ps : Fin 4000), s.flag F.TRG_LINE_EN l = true → s.rpl.replaying = false → s.trg.stamps.find? (fun x => x.1 =
      l.val) = none → ∃ t, exec (.trgTransition l level ps) s = .next t ∧ t.trg.pending = s.trg.pending ++
      [{ line := l.val, stamp := 4000 * (s.now : Int) + ps.val, b := 4000 * (s.now : Int) + ps.val - s.fld F.TRG_POS_PS l, level := level }] ∧
      t.trg.stamps.find? (fun x => x.1 = l.val) = some (l.val, 4000 * (s.now : Int) + ps.val) ∧ sameRegs [] s t ∧ sameBytes s t) ∧
  (∀ (s : State) (l : Fin 8) (level : Bool) (ps : Fin 4000) (x : Nat × Int), s.flag F.TRG_LINE_EN l = true → s.rpl.replaying = false → s.trg.stamps.find?
      (fun x => x.1 = l.val) = some x → 4000 * (s.now : Int) + ps.val - x.2 < 2000 → ∃ t, exec (.trgTransition l level ps) s = .next t ∧ t.rd
      .TRG_GLITCHES = satCount (s.rd .TRG_GLITCHES) 1 ∧ t.flag F.TRG_STATUS_GLITCH = true ∧ t.trg.pending = s.trg.pending.filter (fun x => ¬(x.line =
      l.val ∧ 4000 * (s.now : Int) + ps.val - x.stamp < 2000)) ∧ sameRegs [{ reg := .TRG_GLITCHES, idx := [] }, F.TRG_STATUS_GLITCH.part []] s t ∧
      sameBytes s t) ∧
  (∀ (s : State) (l : Fin 8), lineLevelAt s l (s.now - 16) ≠ s.trg.level.getLsbD l → trgActs s l = true → ∃ t, exec (.trgEdgeEffect l) s = .next t ∧
      t.trg.level.getLsbD l = !s.trg.level.getLsbD l ∧ t.rd .TRG_EDGES l = satCount (s.rd .TRG_EDGES l) 1 ∧ (∀ k : Fin 8, k ≠ l → t.trg.level.getLsbD k
      = s.trg.level.getLsbD k) ∧ sameRegs [{ reg := .TRG_EDGES, idx := [l] }] s t ∧ sameBytes s t) ∧
  (∀ (s : State), chnFollows s = false → s.chn.calAt = none → s.flag F.TRG_STATUS_CAL_BUSY = false → s.beat < 2 ^ 63 → ∃ t, exec .trgCal s = .next t ∧ (∃
      b, t.pair .TRG_CAL_START_LO .TRG_CAL_START_HI = b ∧ b % 16 = 0 ∧ s.beat + 2048 ≤ b ∧ b < s.beat + 2064 ∧ t.chn.calAt = some (s.now + (b -
      s.beat))) ∧ sameRegs [{ reg := .TRG_CAL_START_LO, idx := [] }, { reg := .TRG_CAL_START_HI, idx := [] }] s t ∧ sameBytes s t) ∧
  (∀ (s : State), chnFollows s = true ∨ s.chn.calAt.isSome = true ∨ s.flag F.TRG_STATUS_CAL_BUSY = true → ∃ t, exec .trgCal s = .next t ∧ t.flag
      F.TRG_STATUS_CAL_REFUSED = true ∧ t.chn = s.chn ∧ sameRegs [F.TRG_STATUS_CAL_REFUSED.part []] s t ∧ sameBytes s t) ∧
  (∀ (s : State) (k : Nat), s.chn.calAt = some k → k ≤ s.now → s.flag F.TRG_STATUS_CAL_BUSY = false → chnAligned s = true → ∃ t, exec .trgCalStart s =
      .next t ∧ t.flag F.TRG_STATUS_CAL_BUSY = true ∧ t.chn.calibrating = true ∧ sameRegs [F.TRG_STATUS_CAL_BUSY.part []] s t ∧ sameBytes s t) ∧
  (∀ (s : State) (sums : List Int) (k : Nat), s.chn.calAt = some k → k + 32768 ≤ s.now → s.flag F.TRG_STATUS_CAL_BUSY = true → s.chn.calibrating = true →
      chnFollows s = true → (∀ l : Fin 8, 0 ≤ roundDiv (sums.getD l 0) 256 ∧ roundDiv (sums.getD l 0) 256 ≤ 40000) → ∃ t, exec (.trgCalEnd sums) s =
      .next t ∧ t.flag F.TRG_STATUS_CAL_BUSY = false ∧ t.flag F.TRG_STATUS_CAL_DONE = true ∧ t.chn.calAt = none ∧ (∀ l : Fin 8, (t.fld F.TRG_POS_PS l :
      Int) = roundDiv (sums.getD l 0) 256 ∧ t.flag F.TRG_POS_CAL_OK l = true ∧ t.flag F.TRG_POS_CAL_ERR l = false) ∧ sameRegs
      [F.TRG_STATUS_CAL_BUSY.part [], F.TRG_STATUS_CAL_DONE.part [], { reg := .TRG_POS, idx := [] }] s t ∧ sameBytes s t) ∧
  (∀ (s : State) (l : Fin 8) (v : BitVec 32), ∃ t, exec (.trgPosWrite l v) s = .next t ∧ t.fld F.TRG_POS_PS l = v.toNat % 65536 ∧ t.flag F.TRG_POS_CAL_OK
      l = false ∧ t.flag F.TRG_POS_CAL_ERR l = decide (40000 < v.toNat % 65536) ∧ sameRegs [{ reg := .TRG_POS, idx := [l] }] s t ∧ sameBytes s t)

/-- A port in TRAIN keeps each sound block of its lanes; a block of its own UID blocks it. It enters UP once both ends send READY, and shows
its neighbour and flight. A flit carries two express words, the last SEQ received, and NAK. A flit with more than 5 symbol errors is
discarded and asked for again; the next payload in order moves the SEQ on. A port that leaves UP discards its queues and records the
cause; it retrains after 1 ms. A newer notice marks the link; an older one is ignored. -/
def Obligations.FabricLinks : Prop :=
  (∀ (s : State) (p : Fin 4) (lane : Fin 2) (b : TrainBlock), s.ktlState p = 1 → b.checkOk = true → b.uid.toNat = ownUid s → ∃ t, exec (.ktlTrainBlock p
      lane b) s = .next t ∧ t.ktlState p = 4 ∧ t.flag F.KTL_PORT_STATUS_LOOPBACK p = true ∧ sameRegs
      [F.KTL_PORT_STATUS_STATE.part [p], F.KTL_PORT_STATUS_LOOPBACK.part [p]] s t ∧ sameBytes s t) ∧
  (∀ (s : State) (p : Fin 4) (b : TrainBlock), s.ktlState p = 1 → b.checkOk = true → b.uid.toNat ≠ ownUid s → (s.port p).lane1 = none → ∃ t, exec
      (.ktlTrainBlock p 0 b) s = .next t ∧ (t.port p).lane0 = some b ∧ t.ktlState p = 1 ∧ t.flag F.KTL_PORT_STATUS_POL0 p = b.inverted ∧ sameRegs
      [F.KTL_PORT_STATUS_POL0.part [p]] s t ∧ sameBytes s t) ∧
  (∀ (s : State) (p : Fin 4) (flight : BitVec 16) (x y : TrainBlock), s.ktlState p = 1 → ktlMayTrain s p = true → (s.port p).lane0 = some x → (s.port
      p).lane1 = some y → x.tstate = 2 → y.tstate = 2 → ∃ t, exec (.ktlPortUp p flight) s = .next t ∧ t.ktlState p = 2 ∧ t.fld F.KTL_PORT_NBR_ID p =
      x.id.toNat ∧ t.fld F.KTL_PORT_NBR_PORT p = x.port.toNat ∧ t.flag F.KTL_PORT_NBR_ID_VALID p = x.idValid ∧ t.flag F.KTL_PORT_NBR_VALID p = true ∧
      t.fld F.KTL_PORT_FLIGHT_PS p = flight.toNat ∧ t.flag F.KTL_PORT_STATUS_FLIGHT_LONG p = decide (5000 < flight.toNat) ∧ t.flag
      F.KTL_PORT_STATUS_MAINT_ONLY p = (!chnAligned s || ktlMember s == 2 || x.joining) ∧ sameRegs
      ([{ reg := .KTL_PORT_STATUS, idx := [p] }, { reg := .KTL_PORT_NBR, idx := [p] }, { reg := .KTL_PORT_FLIGHT, idx := [p] }, F.KTL_LINKS_DOWN_COUNT.part [], F.VRD_EXPQ_MAX_DEPTH.part [], { reg := .VRD_EXP_DROP, idx := [] }, F.VRD_STATUS_EXP_DROP.part []]
      ++ eventParts) s t ∧ sameBytes s t) ∧
  (∀ (s : State) (p : Fin 4) (cause : BitVec 3), s.ktlUp p = true → downCause s p cause.toNat = true → cause.toNat ≠ 4 → cause.toNat ≠ 5 → ∃ t, exec
      (.ktlPortDown p cause) s = .next t ∧ t.ktlState p = 3 ∧ t.fld F.KTL_PORT_STATUS_DOWN_CAUSE p = cause.toNat ∧ t.flag F.KTL_PORT_STATUS_DOWN_EVT p =
      true ∧ t.rd .KTL_PORT_DOWNS p = satCount (s.rd .KTL_PORT_DOWNS p) 1 ∧ (t.port p).express = [] ∧ (t.port p).control = [] ∧ (t.port p).bulk = [] ∧
      { pair := { src := 0x30, scope := 19 + p.val, index := p.val }, injected := false, dry := false } ∈ t.flt.raised ∧ sameRegs
      ([{ reg := .KTL_PORT_STATUS, idx := [p] }, { reg := .KTL_PORT_DOWNS, idx := [p] }, { reg := .KTL_PORT_FLIGHT, idx := [p] }, F.KTL_LINKS_DOWN_COUNT.part [], F.VRD_EXPQ_MAX_DEPTH.part [], { reg := .VRD_EXP_DROP, idx := [] }, F.VRD_STATUS_EXP_DROP.part []]
      ++ eventParts) s t ∧ sameBytes s t) ∧
  (∀ (s : State) (p : Fin 4), ktlMayTrain s p = true → s.ktlState p = 3 → 250000 ≤ s.now - (s.port p).since → ∃ t, exec (.ktlRetrain p) s = .next t ∧
      t.ktlState p = 1 ∧ (t.port p).lane0 = none ∧ (t.port p).lane1 = none ∧ sameRegs [{ reg := .KTL_PORT_STATUS, idx := [p] }] s t ∧ sameBytes s t) ∧
  (∀ (s : State) (p : Fin 4), s.ktlCarries p = true → ∃ t, exec (.ktlFlitTx p) s = .next t ∧ ((t.port p).sent.any (fun f => decide (f.ack = BitVec.ofNat
      12 (s.port p).rxSeq ∧ f.nak = (s.port p).nak ∧ f.slot0 = (s.port p).express[0]? ∧ f.slot1 = (s.port p).express[1]? ∧ f.srcPort = BitVec.ofNat 2
      p.val))) = true ∧ (t.port p).express = (s.port p).express.drop 2 ∧ (t.port p).nak = false ∧ sameRegs [] s t ∧ sameBytes s t) ∧
  (∀ (s : State) (p : Fin 4) (f : KtlFlit) (e : Nat), s.ktlUp p = true → 5 < e → ∃ t, exec (.ktlFlitRx p f e) s = .next t ∧ (t.port p).nak = true ∧
      (t.port p).badInRow = (s.port p).badInRow + 1 ∧ (t.port p).rxSeq = (s.port p).rxSeq ∧ t.rd .KTL_FEC_UNCORR p = satCount (s.rd .KTL_FEC_UNCORR p) 1
      ∧ t.ktl.inPackets = s.ktl.inPackets ∧ sameRegs [{ reg := .KTL_FEC_UNCORR, idx := [p] }] s t ∧ sameBytes s t) ∧
  (∀ (s : State) (p : Fin 4) (f : KtlFlit) (e : Nat), s.ktlUp p = true → e ≤ 5 → payloadTooLong f.payload = false → f.payload ≠ .none_ → (f.seq.toNat +
      4096 - (s.port p).rxSeq) % 4096 = 1 → ∃ t, exec (.ktlFlitRx p f e) s = .next t ∧ (t.port p).rxSeq = f.seq.toNat ∧ (t.port p).badInRow = 0 ∧ t.fld
      F.KTL_PORT_NBR_ID p = f.srcDev.toNat ∧ t.fld F.KTL_PORT_NBR_PORT p = f.srcPort.toNat ∧ sameRegs
      [{ reg := .KTL_FEC_CORR, idx := [p] }, { reg := .KTL_PORT_NBR, idx := [p] }, { reg := .KTL_REPLAYS, idx := [p] }, { reg := .KTL_UNREACH_DROP, idx := [] }, F.VRD_EXPQ_MAX_DEPTH.part [], { reg := .VRD_EXP_DROP, idx := [] }, F.VRD_STATUS_EXP_DROP.part []]
      s t ∧ sameBytes s t) ∧
  (∀ (s : State) (p : Fin 4) (word : BitVec 64), s.ktl.noticeSeen.at (bitsAt word.toNat 0 10) = 0 ∨ (1 ≤ (bitsAt word.toNat 13 8 + 256 -
      (s.ktl.noticeSeen.at (bitsAt word.toNat 0 10) - 1)) % 256 ∧ (bitsAt word.toNat 13 8 + 256 - (s.ktl.noticeSeen.at (bitsAt word.toNat 0 10) - 1)) %
      256 < 128) → ∃ t, exec (.linkNoticeRx p word) s = .next t ∧ decide ((bitsAt word.toNat 0 10, bitsAt word.toNat 10 2) ∈ t.ktl.down) =
      !word.toNat.testBit 12 ∧ t.ktl.noticeSeen.at (bitsAt word.toNat 0 10) = bitsAt word.toNat 13 8 + 1 ∧ sameRegs
      [F.KTL_LINKS_DOWN_COUNT.part [], F.VRD_EXPQ_MAX_DEPTH.part [], { reg := .VRD_EXP_DROP, idx := [] }, F.VRD_STATUS_EXP_DROP.part []] s t ∧ sameBytes
      s t) ∧
  (∀ (s : State) (p : Fin 4) (word : BitVec 64), s.ktl.noticeSeen.at (bitsAt word.toNat 0 10) = bitsAt word.toNat 13 8 + 1 → ∃ t, exec (.linkNoticeRx p
      word) s = .next t ∧ t.ktl.down = s.ktl.down ∧ t.ktl.noticeSeen = s.ktl.noticeSeen ∧ sameRegs [] s t ∧ sameBytes s t)

/-- DISCOVER makes an enabled aligned device the root. A DISC makes a device that is not discovering take the port as parent, one hop
further. The root collects reports; a new topology goes into the shadow and is in force at its commit, with this device a MEMBER under
its ID. JOIN asks; a device that is not root passes a JOIN to its parent. Entries of a port that is down use their alternates, and
return when it has been up for 1 ms. A device declared unreachable is marked and its imports are held. -/
def Obligations.FabricMembership : Prop :=
  (∀ (s : State), s.flag F.KTL_CFG_ROOT_EN = true → chnAligned s = true → s.flag F.KTL_ID_VALID = false ∨ s.flag F.KTL_STATUS_ROOT = true → ∃ t, exec
      .discover s = .next t ∧ ktlMember t = 1 ∧ t.flag F.KTL_STATUS_ROOT = true ∧ t.fld F.KTL_ROOT_HOPS = 0 ∧ t.ktl.reports = [] ∧ sameRegs
      [F.KTL_STATUS_STATE.part [], F.KTL_STATUS_ROOT.part [], F.KTL_ROOT_HOPS.part []] s t ∧ sameBytes s t) ∧
  (∀ (s : State) (p : Fin 4) (hops : Nat), chnAligned s = true → ktlMember s ≠ 1 → ∃ t, exec (.discRx p hops) s = .next t ∧ ktlMember t = 1 ∧ t.fld
      F.KTL_ROOT_HOPS = min (hops + 1) 255 ∧ t.flag F.KTL_STATUS_ROOT = false ∧ t.ktl.parent = p.val ∧ sameRegs
      [F.KTL_STATUS_STATE.part [], F.KTL_STATUS_ROOT.part [], F.KTL_ROOT_HOPS.part []] s t ∧ sameBytes s t) ∧
  (∀ (s : State) (p : Fin 4) (l : List DiscReport), s.flag F.KTL_STATUS_ROOT = true → ∃ t, exec (.discReportRx p l false) s = .next t ∧ t.ktl.reports =
      s.ktl.reports.filter (fun r => !l.any (fun x => decide (x.uid = r.uid))) ++ l ∧ sameRegs [] s t ∧ sameBytes s t) ∧
  (∀ (s : State) (p : Fin 4) (tp : Topology), chnAligned s = true → s.ktl.topo ≠ tp → s.ktl.shadow.any (fun x => decide (x.1 = tp)) = false → s.beat ≤
      tp.commit → ∃ t, exec (.topoFloodRx p tp) s = .next t ∧ t.ktl.shadow = some (tp, s.now + (tp.commit - s.beat)) ∧ t.ktl.topo = s.ktl.topo ∧
      sameRegs [F.KTL_STATUS_ID_REFUSED.part []] s t ∧ sameBytes s t) ∧
  (∀ (s : State) (tp : Topology) (due : Nat) (me : TopoMember), s.ktl.shadow = some (tp, due) → due ≤ s.now → tp.members.find? (fun m => m.uid = ownUid
      s) = some me → me.id < 1024 → ∃ t, exec .ktlCommit s = .next t ∧ t.ktl.topo = tp ∧ t.ktl.shadow = none ∧ ktlMember t = 3 ∧ t.ownId = me.id ∧
      t.flag F.KTL_ID_VALID = true ∧ t.fld F.KTL_RT_VPRI me.id = 4 ∧ t.fld F.KTL_RT_PPRI me.id = 4 ∧ t.rd .KTL_TOPO_SEEN = BitVec.ofNat 32 tp.digest ∧
      sameRegs ([F.KTL_PORT_STATUS_MAINT_ONLY.part [], F.KTL_LINKS_DOWN_COUNT.part [], F.VRD_EXPQ_MAX_DEPTH.part [], F.VRD_STATUS_EXP_DROP.part []] ++
      globalParts [.KTL_BAR_STATE, .KTL_ID, .KTL_ROOT, .KTL_STATUS, .KTL_RT, .KTL_TOPO_SEEN, .VRD_EXP_DROP]) s t ∧ sameBytes s t) ∧
  (∀ (s : State), ktlMember s ≠ 3 → ∃ t, exec .join s = .next t ∧ ktlMember t = 2 ∧ sameRegs [F.KTL_STATUS_STATE.part []] s t ∧ sameBytes s t) ∧
  (∀ (s : State) (p : Fin 4) (uid : BitVec 64) (q : Fin 4), s.flag F.KTL_STATUS_ROOT = false → s.ktl.parent = q.val → s.ktlUp q = true → ∃ t, exec
      (.joinRx p uid none) s = .next t ∧ (t.port q).maint = (s.port q).maint ++ [.maint (.join uid.toNat none)] ∧ sameRegs [] s t ∧ sameBytes s t) ∧
  (∀ (s : State) (p : Fin 4) (uid : BitVec 64) (r : BitVec 10), s.flag F.KTL_STATUS_ROOT = true → (nextTopo s).members.find? (fun m => m.id = r.toNat) =
      none → ∃ t, exec (.joinRx p uid (some r)) s = .next t ∧ (t.ktl.shadow.any (fun x => x.1.members.any (fun m => decide (m.uid = uid.toNat ∧ m.id =
      r.toNat)))) = true ∧ t.ktl.topo = s.ktl.topo ∧ sameRegs [] s t ∧ sameBytes s t) ∧
  (∀ (s : State) (p : Fin 4), s.ktlUp p = false → ∃ t, exec (.routeFailover p) s = .next t ∧ (∀ d : Fin 1024, (s.fld F.KTL_RT_VPRI d = p.val → t.flag
      F.KTL_RT_V_ALT d = true) ∧ (s.fld F.KTL_RT_PPRI d = p.val → t.flag F.KTL_RT_P_ALT d = true)) ∧ sameRegs [{ reg := .KTL_RT, idx := [] }] s t ∧
      sameBytes s t) ∧
  (∀ (s : State) (p : Fin 4), s.ktlCarries p = true → 250000 ≤ s.now - (s.port p).upSince → ∃ t, exec (.routeRestore p) s = .next t ∧ (∀ d : Fin 1024,
      (s.fld F.KTL_RT_VPRI d = p.val → t.flag F.KTL_RT_V_ALT d = false) ∧ (s.fld F.KTL_RT_PPRI d = p.val → t.flag F.KTL_RT_P_ALT d = false)) ∧ sameRegs
      [{ reg := .KTL_RT, idx := [] }] s t ∧ sameBytes s t) ∧
  (∀ (s : State) (dev : BitVec 10), ∃ t, exec (.unreachDeclare dev) s = .next t ∧ t.flag F.KTL_RT_UNREACH dev.toNat = true ∧ (∀ i : Fin 256, s.flag
      F.VRD_IMPORT_VALID i = true → s.fld F.VRD_IMPORT_SRC_DEV i = dev.toNat → (t.xbar.holds.any (fun h => decide (h.input = .imported i) &&
      h.until_.isNone)) = true) ∧ sameRegs [F.KTL_RT_UNREACH.part [dev.toNat], F.KTL_STATUS_ROOT.part [], F.KTL_ROOT_ROOT_ID.part []] s t ∧ sameBytes s
      t) ∧
  (∀ (s : State) (p : Fin 4) (k : KtlPacket), (p.val, k) ∈ s.ktl.inPackets → k.dest.toNat = s.ownId → k.kind = 4 → ∃ t, exec (.fabricPacketRx p k) s =
      .next t ∧ t.ktl.inPackets = s.ktl.inPackets.erase (p.val, k) ++ [(4, k)] ∧ sameRegs [] s t ∧ sameBytes s t) ∧
  (∀ (s : State) (p : Fin 4) (k : KtlPacket), (p.val, k) ∈ s.ktl.inPackets → k.dest.toNat ≠ s.ownId → k.kind.toNat ≤ 6 → 2 ≤ k.ttl.toNat → (packetPort s
      k.dest.toNat k.down).1 = 4 → ∃ t, exec (.fabricPacketRx p k) s = .next t ∧ t.ktl.inPackets = s.ktl.inPackets.erase (p.val, k) ++
      [(4, { k with ttl := k.ttl - 1 })] ∧ sameRegs [] s t ∧ sameBytes s t)

/-- A device whose members and children have all arrived completes: the root fixes the release beat and holds it, another device tells its
parent. An ARRIVE from a child sets its bit. A RELEASE or an ABORT from the parent is held for its beat. At the release beat the next
generation begins. -/
def Obligations.FabricBarriers : Prop :=
  (∀ (s : State) (b : BitVec 8), s.barOk b.toNat = true → s.fld F.KTL_BAR_STATE_PHASE b.toNat = 0 → barFull s b.toNat = true → s.barRoot b.toNat = true →
      ∃ t, exec (.barrierComplete b) s = .next t ∧ t.fld F.KTL_BAR_STATE_PHASE b.toNat = 2 ∧ t.barHeld b.toNat = some
      { bar := b.toNat, due := s.now + max (s.fld F.KTL_BAR_DELAY_RDELAY b.toNat) 1, abort := false, late := false } ∧ sameRegs
      [F.KTL_BAR_STATE_PHASE.part [b.toNat], F.VRD_EXPQ_MAX_DEPTH.part [], { reg := .VRD_EXP_DROP, idx := [] }, F.VRD_STATUS_EXP_DROP.part []] s t ∧
      sameBytes s t) ∧
  (∀ (s : State) (b : BitVec 8), s.barOk b.toNat = true → s.fld F.KTL_BAR_STATE_PHASE b.toNat = 0 → barFull s b.toNat = true → s.barRoot b.toNat = false
      → ∃ t, exec (.barrierComplete b) s = .next t ∧ t.fld F.KTL_BAR_STATE_PHASE b.toNat = 1 ∧ t.ktl.barriers = s.ktl.barriers ∧ sameRegs
      [F.KTL_BAR_STATE_PHASE.part [b.toNat], F.VRD_EXPQ_MAX_DEPTH.part [], { reg := .VRD_EXP_DROP, idx := [] }, F.VRD_STATUS_EXP_DROP.part []] s t ∧
      sameBytes s t) ∧
  (∀ (s : State) (p : Fin 4) (word : BitVec 64), barMessage s word.toNat = true → bitsAt word.toNat 8 2 = 0 → p.val ∈ s.barChildren (bitsAt word.toNat 0
      8) → ∃ t, exec (.barrierArriveRx p word) s = .next t ∧ (t.fld F.KTL_BAR_STATE_CHILD_ARR (bitsAt word.toNat 0 8)).testBit p.val = true ∧ (∀ q : Fin
      4, q ≠ p → (t.fld F.KTL_BAR_STATE_CHILD_ARR (bitsAt word.toNat 0 8)).testBit q.val = (s.fld F.KTL_BAR_STATE_CHILD_ARR (bitsAt word.toNat 0
      8)).testBit q.val) ∧ sameRegs [F.KTL_BAR_STATE_CHILD_ARR.part [bitsAt word.toNat 0 8]] s t ∧ sameBytes s t) ∧
  (∀ (s : State) (p : Fin 4) (word : BitVec 64), barMessage s word.toNat = true → bitsAt word.toNat 8 2 = 1 → p.val = s.fld F.KTL_BAR_CFG_PARENT (bitsAt
      word.toNat 0 8) → s.barHeld (bitsAt word.toNat 0 8) = none → 0 ≤ dueOffset s (bitsAt word.toNat 18 24) → ∃ t, exec (.barrierReleaseRx p word) s =
      .next t ∧ t.barHeld (bitsAt word.toNat 0 8) = some
      { bar := bitsAt word.toNat 0 8, due := s.now + (dueOffset s (bitsAt word.toNat 18 24)).toNat, abort := false, late := false } ∧ t.fld
      F.KTL_BAR_STATE_PHASE (bitsAt word.toNat 0 8) = 2 ∧ sameRegs
      [F.KTL_BAR_STATE_PHASE.part [bitsAt word.toNat 0 8], F.VRD_EXPQ_MAX_DEPTH.part [], { reg := .VRD_EXP_DROP, idx := [] }, F.VRD_STATUS_EXP_DROP.part []]
      s t ∧ sameBytes s t) ∧
  (∀ (s : State) (p : Fin 4) (word : BitVec 64), barMessage s word.toNat = true → bitsAt word.toNat 8 2 = 2 → p.val = s.fld F.KTL_BAR_CFG_PARENT (bitsAt
      word.toNat 0 8) → s.barHeld (bitsAt word.toNat 0 8) = none → 0 ≤ dueOffset s (bitsAt word.toNat 18 24) → ∃ t, exec (.barrierAbortRx p word) s =
      .next t ∧ t.barHeld (bitsAt word.toNat 0 8) = some
      { bar := bitsAt word.toNat 0 8, due := s.now + (dueOffset s (bitsAt word.toNat 18 24)).toNat, abort := true, late := false } ∧ t.fld
      F.KTL_BAR_STATE_PHASE (bitsAt word.toNat 0 8) = 2 ∧ sameRegs
      [F.KTL_BAR_STATE_PHASE.part [bitsAt word.toNat 0 8], F.VRD_EXPQ_MAX_DEPTH.part [], { reg := .VRD_EXP_DROP, idx := [] }, F.VRD_STATUS_EXP_DROP.part []]
      s t ∧ sameBytes s t) ∧
  (∀ (s : State) (b : BitVec 8) (h : BarrierHold), s.rpl.replaying = false → s.barHeld b.toNat = some h → h.due ≤ s.now → ∃ t, exec (.barrierRelease b) s
      = .next t ∧ t.fld F.KTL_BAR_STATE_GEN b.toNat = (s.fld F.KTL_BAR_STATE_GEN b.toNat + 1) % 256 ∧ t.fld F.KTL_BAR_STATE_PHASE b.toNat = 0 ∧ t.fld
      F.KTL_BAR_STATE_ARRIVED b.toNat = 0 ∧ t.barHeld b.toNat = none ∧ t.rd .KTL_BAR_ABORTS = (if h.abort && !h.late then satCount (s.rd
      .KTL_BAR_ABORTS) 1 else s.rd .KTL_BAR_ABORTS) ∧ sameRegs ([{ reg := .KTL_BAR_STATE, idx := [b.toNat] }, { reg := .KTL_BAR_ABORTS, idx := [] }] ++
      globalParts Reg.blockSEQ ++ eventParts) s t ∧ sameBytes s t)

/-- LINK rises on a port that may train and falls from UP, which is reported. A CTP datagram for the port waits at it; a frame that fails
the filter is dropped and counted. CONNECT with at least 64 ring units opens the session with its sender; a smaller one is refused.
DISCONNECT closes it and abandons what is outstanding. An ACK frees the packets it acknowledges and moves the limit. A kept packet is
sent again after RTO; a received one is acknowledged within 4 µs. Up to 64 records leave the event queue as one EVENT packet. A read of
EVT_RD0 takes the oldest record. TOD_LATCH shows the time of day and the beat; TOD_STEP takes the staged time; a PTP event message is
stamped at the port that PTP uses. -/
def Obligations.HostLinksAndTime : Prop :=
  (∀ (s : State) (p : Fin 2), hostMayTrain s p = true → s.hostUp p = false → ∃ t, exec (.hostLinkUp p) s = .next t ∧ t.hostUp p = true ∧ t.flag
      F.HST_PORT_STATUS_FEC_LOCK p = true ∧ t.flag F.HST_PORT_STATUS_AN_DONE p = s.flag F.HST_PORT_CFG_AN_EN p ∧ sameRegs
      ([F.HST_PORT_STATUS_LINK.part [p], F.HST_PORT_STATUS_FEC_LOCK.part [p], F.HST_PORT_STATUS_AN_DONE.part [p]] ++ eventParts) s t ∧ sameBytes s t) ∧
  (∀ (s : State) (p : Fin 2), s.hostUp p = true → ∃ t, exec (.hostLinkDown p) s = .next t ∧ t.hostUp p = false ∧ t.flag F.HST_PORT_STATUS_DOWN_EVT p =
      true ∧ t.flag F.HST_PORT_STATUS_FEC_LOCK p = false ∧ sameRegs
      ([F.HST_PORT_STATUS_LINK.part [p], F.HST_PORT_STATUS_FEC_LOCK.part [p], F.HST_PORT_STATUS_AN_DONE.part [p], F.HST_PORT_STATUS_DOWN_EVT.part [p]]
      ++ eventParts) s t ∧ sameBytes s t) ∧
  (∀ (s : State) (p : Fin 2) (f : HostFrame) (dest : IpAddr) (udp : BitVec 16) (k : CtpPacket), s.hostUp p = true → hostFrameOk s p f = true → f.payload
      = .ctp dest udp k → hostOwnIp s p dest = true → udp.toNat = ctpPort s p k → ctpFrameLen f dest k.data.length ≤ hostFrameMax s p → ctpTypeOk k =
      true → ∃ t, exec (.hostFrameRx p f) s = .next t ∧ (t.hp p).inbox = (s.hp p).inbox ++ [k] ∧ t.rd .HST_FEC_CORR p = satCount (s.rd .HST_FEC_CORR p)
      f.corrected ∧ sameRegs [{ reg := .HST_FEC_CORR, idx := [p] }, { reg := .HST_FEC_UNCORR, idx := [p] }] s t ∧ sameBytes s t) ∧
  (∀ (s : State) (p : Fin 2) (f : HostFrame), s.hostUp p = true → hostFrameOk s p f = false → ∃ t, exec (.hostFrameRx p f) s = .next t ∧ t.hp p = s.hp p
      ∧ t.rd .HST_RX_DROP p = satCount (s.rd .HST_RX_DROP p) 1 ∧ sameRegs
      [{ reg := .HST_FEC_CORR, idx := [p] }, { reg := .HST_FEC_UNCORR, idx := [p] }, { reg := .HST_RX_DROP, idx := [p] }] s t ∧ sameBytes s t) ∧
  (∀ (s : State) (p : Fin 2) (k : CtpPacket), ctpWaits s p k 0 = true → 64 ≤ k.info.toNat → s.session p ≠ 1 → ∃ t, exec (.connect p k) s = .next t ∧
      t.session p = 1 ∧ (t.hp p).peer = k.peer ∧ (t.hp p).rxPsn = k.psn.toNat ∧ (t.hp p).limit = min k.limit.toNat k.info.toNat ∧ (t.hp p).jobs = [] ∧
      (t.hp p).tags = [] ∧ t.fld F.CTP_RING_UNITS p = k.info.toNat % 2 ^ F.CTP_RING_UNITS.width ∧ sameRegs
      [{ reg := .CTP_STATUS, idx := [p] }, { reg := .CTP_PEER_PORT, idx := [p] }, { reg := .CTP_PEER_ADDR, idx := [p] }, { reg := .CTP_RING, idx := [p] }]
      s t ∧ sameBytes s t) ∧
  (∀ (s : State) (p : Fin 2) (k : CtpPacket), ctpWaits s p k 0 = true → k.info.toNat < 64 → ∃ t, exec (.connect p k) s = .next t ∧ t.session p =
      s.session p ∧ t.flag F.CTP_STATUS_REFUSED p = true ∧ (t.hp p).peer = (s.hp p).peer ∧ (t.hp p).jobs = (s.hp p).jobs ∧ sameRegs
      [F.CTP_STATUS_REFUSED.part [p]] s t ∧ sameBytes s t) ∧
  (∀ (s : State) (p : Fin 2) (k : CtpPacket), ctpInOrder s p k 10 = true → ∃ t, exec (.disconnect p k) s = .next t ∧ t.session p = 0 ∧ (t.hp p).jobs = []
      ∧ (t.hp p).tags = [] ∧ (t.hp p).kept = [] ∧ sameRegs [F.CTP_STATUS_SESSION.part [p]] s t ∧ sameBytes s t) ∧
  (∀ (s : State) (p : Fin 2) (k : CtpPacket), ctpWaits s p k 7 = true → ctpFromPeer s p k = true → k.nak = false → ∃ t, exec (.ack p k) s = .next t ∧
      (t.hp p).kept = (s.hp p).kept.filter (fun e => !psnUpTo e.packet.psn.toNat k.ack.toNat) ∧ (t.hp p).limit = k.limit.toNat ∧ (t.hp p).rxPsn = (s.hp
      p).rxPsn ∧ sameRegs [] s t ∧ sameBytes s t) ∧
  (∀ (s : State) (p : Fin 2) (e : KeptPacket) (l : List KeptPacket), (s.hp p).kept = e :: l → s.session p = 1 → e.at_ + ctpRtoTicks s p ≤ s.now →
      s.hostUp p = true → (s.hp p).retries < ctpMaxRetry s p → ∃ t, exec (.ctpRto p) s = .next t ∧ (t.hp p).retries = (s.hp p).retries + 1 ∧ (t.hp
      p).out.map CtpPacket.psn = (e :: l).map (fun x => x.packet.psn) ∧ t.rd .CTP_RETX p = satCount (s.rd .CTP_RETX p) (l.length + 1) ∧ sameRegs
      [{ reg := .CTP_RETX, idx := [p] }] s t ∧ sameBytes s t) ∧
  (∀ (s : State) (p : Fin 2) (k : Nat), (s.hp p).ackSince = some k → s.session p = 1 → k + 1000 ≤ s.now → s.hostUp p = true → ∃ t, exec (.ctpAckTimer p)
      s = .next t ∧ (t.hp p).ackSince = none ∧ (t.hp p).out.map (fun x => (x.kind, x.ack, x.nak)) = [(7, BitVec.ofNat 24 (s.hp p).rxPsn, false)] ∧
      sameRegs [] s t ∧ sameBytes s t) ∧
  (∀ (s : State) (p : Fin 2), p.val = s.fld F.EVT_CFG_PORT → s.flag F.EVT_CFG_SEND = true → s.session p = 1 → s.evt.queue ≠ [] → ∃ t, exec
      .eventPacketSend s = .next t ∧ t.evt.queue = s.evt.queue.drop 64 ∧ (t.hp p).jobs = (s.hp p).jobs ++
      [CtpJob.ready 8 0 ((s.evt.queue.take 64).flatMap (fun e => wordsToBytes e.words))] ∧ sameRegs [] s t ∧ sameBytes s t) ∧
  (∀ (s : State) (e : EventRecord) (l : List EventRecord), s.evt.queue = e :: l → ∃ t, exec .evtRd0Read s = .next t ∧ t.evt.queue = l ∧ t.readValue =
      BitVec.ofNat 32 (e.words.getD 0 0) ∧ t.rd .EVT_RD1 = BitVec.ofNat 32 e.beat ∧ t.rd .EVT_RD3 = BitVec.ofNat 32 e.data ∧ sameRegs (globalParts
      [.EVT_RD1, .EVT_RD2, .EVT_RD3]) s t ∧ sameBytes s t) ∧
  (∀ (s : State), s.beat < 2 ^ 64 → s.tod.time < 2 ^ 64 * todSecond → ∃ t, exec .todLatch s = .next t ∧ t.pair .HST_TOD_SEC_LO .HST_TOD_SEC_HI =
      s.tod.time / todSecond ∧ t.rd .HST_TOD_NS = BitVec.ofNat 32 (s.tod.time % todSecond / 2 ^ 30) ∧ t.pair .HST_TOD_BEAT_LO .HST_TOD_BEAT_HI = s.beat
      ∧ t.tod = s.tod ∧ sameRegs (globalParts [.HST_TOD_SEC_LO, .HST_TOD_SEC_HI, .HST_TOD_NS, .HST_TOD_BEAT_LO, .HST_TOD_BEAT_HI]) s t ∧ sameBytes s t) ∧
  (∀ (s : State), ∃ t, exec .todStep s = .next t ∧ t.tod =
      { s.tod with time := s.tod.stagedSec % 2 ^ 48 * todSecond + s.tod.stagedNs * 2 ^ 30, set := true } ∧ sameRegs [] s t ∧ sameBytes s t) ∧
  (∀ (s : State) (p : Fin 2) (st : BitVec 2), s.flag F.HST_PTP_CFG_EN = true → s.fld F.HST_PTP_CFG_PORT = p.val → s.hostUp p = true → ∃ t, exec
      (.ptpMessage p none st) s = .next t ∧ t.tod = { s.tod with stamp := s.tod.time / 2 ^ 30 } ∧ t.fld F.HST_PTP_STATUS_STATE = st.toNat ∧ sameRegs
      [F.HST_PTP_STATUS_STATE.part []] s t ∧ sameBytes s t) ∧
  (∀ (s : State) (p : Fin 2) (st : BitVec 2) (v : BitVec 32), s.flag F.HST_PTP_CFG_EN = true → s.fld F.HST_PTP_CFG_PORT = p.val → s.hostUp p = true → ∃
      t, exec (.ptpMessage p (some v) st) s = .next t ∧ t.tod = { s.tod with stamp := s.tod.time / 2 ^ 30 } ∧ t.rd .HST_TOD_ADJ = BitVec.ofInt 32
      (clampInt (-429497) 429497 (sext 32 v.toNat)) ∧ sameRegs [F.HST_PTP_STATUS_STATE.part [], { reg := .HST_TOD_ADJ, idx := [] }] s t ∧ sameBytes s t)

/-- A whole new request in order on an idle session: a register read or write that passes its checks is executed at once; a memory read
waits for its completion to go; a memory write to a store without a poisoned word, with no injection waiting, puts its data there and
nowhere else. A completion is sent with the STATUS and data, and the request leaves the queue. A completion of another device ends the
request it belongs to; one that does not come in time ends it as UNREACHABLE. SERVICE commands are answered, or wait. -/
def Obligations.HostRequests : Prop :=
  (∀ (s : State) (p : Fin 2) (k : CtpPacket), ctpNewRequest s p k 2 = true → ctpTarget s k = some none → requestStatus s 2 (k.addr.toNat % 2 ^ 40)
      k.len.toNat k.fixed k.data.length = 0 → ∃ t, exec (.regRd p k) s = .next t ∧ (∃ j, (t.hp p).jobs = [j] ∧ j.tag = k.tag.toNat ∧ j.executed = true ∧
      j.status = 0 ∧ j.reply.length = k.len.toNat) ∧ (t.hp p).rxPsn = k.psn.toNat ∧ sameBytes s t) ∧
  (∀ (s : State) (p : Fin 2) (k : CtpPacket) (v : BitVec 32) (key : RegKey), ctpNewRequest s p k 3 = true → ctpTarget s k = some none → requestStatus s 3
      (k.addr.toNat % 2 ^ 40) k.len.toNat k.fixed k.data.length = 0 → bytesToWords k.data = [v.toNat] → regAt (k.addr.toNat % 2 ^ 40) = some key →
      key.reg ∈ ([.SEQ_LCOUNT, .SEQ_LIM_LO, .SEQ_LIM_HI, .GLB_IMG_LEN, .GLB_IMG_SRC, .FLT_INJECT_IDX, .RPL_RING_BASE] : List Reg) → (s.heldBits key
      v.toNat).1 = 0 → s.rplState ≠ 2 → ∃ t, exec (.regWr p k) s = .next t ∧ (∃ j, (t.hp p).jobs = [j] ∧ j.tag = k.tag.toNat ∧ j.executed = true ∧
      j.status = 0) ∧ (t.hp p).rxPsn = k.psn.toNat ∧ t.rd key.reg key.i key.j key.k key.l = BitVec.ofNat 32 (mix key.reg.writable v.toNat (s.rd key.reg
      key.i key.j key.k key.l).toNat) ∧ sameRegs [{ reg := key.reg, idx := [key.i, key.j, key.k, key.l] }] s t ∧ sameBytes s t) ∧
  (∀ (s : State) (p : Fin 2) (k : CtpPacket), ctpNewRequest s p k 4 = true → ctpTarget s k = some none → requestStatus s 4 (k.addr.toNat % 2 ^ 40)
      k.len.toNat k.fixed k.data.length = 0 → ∃ t, exec (.memRd p k) s = .next t ∧ (∃ j, (t.hp p).jobs = [j] ∧ j.kind = 4 ∧ j.tag = k.tag.toNat ∧
      j.started = true ∧ j.executed = false ∧ j.status = 0 ∧ j.len = k.len.toNat) ∧ (t.hp p).rxPsn = k.psn.toNat ∧ sameRegs [] s t ∧ sameBytes s t) ∧
  (∀ (s : State) (p : Fin 2) (k : CtpPacket) (r : Region) (o : Nat) (id : StoreId), ctpNewRequest s p k 5 = true → ctpTarget s k = some none →
      requestStatus s 5 (k.addr.toNat % 2 ^ 40) k.len.toNat k.fixed k.data.length = 0 → rangeIn (k.addr.toNat % 2 ^ 40) k.len.toNat = some (r, o) →
      r.storeId = some id → (s.store id).double = [] → s.flt.inject = none → ∃ t, exec (.memWr p k) s = .next t ∧ (∃ j, (t.hp p).jobs = [j] ∧ j.tag =
      k.tag.toNat ∧ j.executed = true ∧ j.status = 0) ∧ (t.hp p).rxPsn = k.psn.toNat ∧ (∀ i, i < k.len.toNat → (t.store id).byteAt (o + i) = k.data.getD
      i 0) ∧ (∀ x a, ¬(x = id ∧ o ≤ a ∧ a < o + k.len.toNat) → (t.store x).byteAt a = (s.store x).byteAt a) ∧ sameRegs (globalParts
      [.SLC_ECC_CE, .SLC_ECC_ADDR, .GLB_CSTORE_ECC_CE, .GLB_CSTORE_ECC_ADDR]) s t) ∧
  (∀ (s : State) (p : Fin 2) (j : CtpJob), (s.hp p).jobs = [j] → j.executed = true → j.kind ≠ 8 → j.reply.length - j.sent ≤ ctpDataMax s p → ctpMaySend s
      p (j.reply.length - j.sent) = true → ∃ t, exec (.completionSend p) s = .next t ∧ (∃ q, (t.hp p).out = [q] ∧ q.kind = 6 ∧ q.tag = BitVec.ofNat 9
      j.tag ∧ q.eop = true ∧ q.status = BitVec.ofNat 5 j.status ∧ q.info = BitVec.ofNat 32 j.info ∧ q.data = j.reply.drop j.sent) ∧ (t.hp p).jobs = [] ∧
      (t.hp p).tags = (s.hp p).tags ∧ sameRegs [] s t ∧ sameBytes s t) ∧
  (∀ (s : State) (k : KtlPacket) (j : CtpJob) (part : Nat × Nat), k.kind = 4 → k.dest.toNat = s.ownId → (s.ktl.inPackets.any (fun e => decide (e.2 = k)))
      = true → k.tag.toNat < 512 → k.status = 0 → (s.hp 0).jobs = [j] → j.dev = some k.src.toNat → j.tag = k.tag.toNat → (j.accesses && j.started &&
      !j.executed) = true → j.missing = [part] → j.unsent = [] → (j.addr + if j.fixed then 0 else part.1) % 2 ^ 40 = k.addr.toNat → ∃ t, exec
      (.tunnelCompletion k) s = .next t ∧ (∃ x, (t.hp 0).jobs = [x] ∧ x.executed = true ∧ x.status = 0 ∧ x.tag = j.tag ∧ x.reply = (if isWriteKind
      j.kind then [] else j.reply.take part.1 ++ k.data ++ j.reply.drop (part.1 + k.data.length))) ∧ t.ktl.inPackets = s.ktl.inPackets.eraseP (fun e =>
      decide (e.2 = k)) ∧ sameRegs [] s t ∧ sameBytes s t) ∧
  (∀ (s : State) (p : Fin 2) (tag : BitVec 9) (j : CtpJob), (s.hp p).jobs = [j] → j.dev.isSome = true → j.tag = tag.toNat → j.started = true → j.executed
      = false → j.askedAt + max 1 (s.fld F.CTP_TUNNEL_TMO_TMO) * 25000 ≤ s.now → ∃ t, exec (.tunnelTimeout p tag) s = .next t ∧ (∃ x, (t.hp p).jobs =
      [x] ∧ x.executed = true ∧ x.status = 1 ∧ x.tag = j.tag) ∧ sameRegs [] s t ∧ sameBytes s t) ∧
  (∀ (s : State) (p : Fin 2) (k : CtpPacket), ctpNewRequest s p k 9 = true → ctpTarget s k = some none → k.data.length = 8 → numAt k.data 0 2 = 1 → ∃ t,
      exec (.info p k) s = .next t ∧ (∃ j, (t.hp p).jobs = [j] ∧ j.tag = k.tag.toNat ∧ j.executed = true ∧ j.status = 0 ∧ j.reply = wordsToBytes
      [(s.rd .BOOT_FW_VER).toNat, (s.rd .MGT_LOAD).toNat, (s.rd .MGT_STATUS).toNat]) ∧ (t.hp p).rxPsn = k.psn.toNat ∧ sameRegs [] s t ∧ sameBytes s t) ∧
  (∀ (s : State) (p : Fin 2) (k : CtpPacket), ctpNewRequest s p k 9 = true → ctpTarget s k = some none → k.data.length = 8 → numAt k.data 0 2 = 2 →
      s.flag F.MGT_STATUS_SHED = false → coresRunning s = true → s.mgt.swapAt = none → ∃ t, exec (.serviceSwap p k) s = .next t ∧ (∃ j, (t.hp p).jobs =
      [j] ∧ j.executed = true ∧ j.status = (if swapAccepts s then 0 else 3)) ∧ (if swapAccepts s then t.mgt.swapAt = some s.now else t.flag
      F.MGT_STATUS_SWAP_REFUSED = true) ∧ (t.hp p).rxPsn = k.psn.toNat ∧ sameRegs [F.MGT_STATUS_SWAP_REFUSED.part [], F.BOOT_STATUS_FW_TRIAL.part []] s
      t ∧ sameBytes s t) ∧
  (∀ (s : State) (p : Fin 2) (k : CtpPacket), ctpNewRequest s p k 9 = true → ctpTarget s k = some none → k.data.length = 8 → numAt k.data 0 2 = 3 →
      s.flag F.MGT_STATUS_SHED = false → ∃ t, exec (.serviceSave p k) s = .next t ∧ (∃ j, (t.hp p).jobs = [j] ∧ j.tag = k.tag.toNat ∧ j.executed =
      false) ∧ (∀ x : Fin 17, x.val ∈ t.cal.saving) ∧ t.flag F.CAL_VAULT_STATUS_BUSY = true ∧ (t.hp p).rxPsn = k.psn.toNat ∧ sameRegs
      [F.CAL_VAULT_STATUS_BUSY.part []] s t ∧ sameBytes s t) ∧
  (∀ (s : State) (p : Fin 2) (k : CtpPacket), ctpNewRequest s p k 9 = true → ctpTarget s k = some none → k.data.length = 8 → numAt k.data 0 2 = 4 →
      s.flag F.MGT_STATUS_SHED = false → ∃ t, exec (.fgAll p k) s = .next t ∧ (∃ j, (t.hp p).jobs = [j] ∧ j.tag = k.tag.toNat ∧ j.slices =
      allSlices.filter (fgAllowed s) ∧ j.executed = j.slices.isEmpty) ∧ (∀ n, fgAllowed s n = true → t.fld F.CAL_FG_STATUS_STATE n = 1) ∧ (t.hp p).rxPsn
      = k.psn.toNat ∧ sameRegs [F.CAL_FG_STATUS_STATE.part [], F.PWR_QSTATUS_PEAK.part []] s t ∧ sameBytes s t)

/-- START of an IDLE channel loads its descriptor from a central store without a poisoned word or a waiting injection; one that passes its
checks and is not heavy is ACTIVE with its whole length as residue; START on a busy channel is ignored. A grant gives the channel whose
turn it is its next burst. A burst to a remote destination adds what its packets wrote. A descriptor whose bytes are all written ends
DONE. ABORT stops a descriptor; FLUSH lets a bound channel take what its queue holds; a bus error ends every channel. -/
def Obligations.DmaDescriptors : Prop :=
  (∀ (s : State) (c : Fin 32) (d : DmaDesc), s.dmaState c = 0 → s.flag F.DMA_STATUS_BUSERR = false → s.storeOn .central = true → s.fld
      F.DMA_CH_DESC_OFFSET c % 64 = 0 → s.fld F.DMA_CH_DESC_OFFSET c < 0xE00000 → s.cstore.double = [] → s.flt.inject = none → dmaDecode (s.cstore.read
      (s.fld F.DMA_CH_DESC_OFFSET c) 64) = d → dmaDescBad s c (s.fld F.DMA_CH_DESC_OFFSET c) d = false → dmaEndsBad s c d = false → d.len ≤ 1048576 → ∃
      t, exec (.dmaStart c) s = .next t ∧ t.dmaState c = 3 ∧ (t.dmaCh c).desc = some d ∧ (t.dmaCh c).granted = 0 ∧ (t.dmaCh c).written = 0 ∧ t.rd
      .DMA_CH_RESIDUE c = BitVec.ofNat 32 d.len ∧ sameRegs
      [F.DMA_CH_STATUS_STATE.part [c], { reg := .DMA_CH_RESIDUE, idx := [c] }, { reg := .GLB_CSTORE_ECC_CE, idx := [] }, { reg := .GLB_CSTORE_ECC_ADDR, idx := [] }]
      s t ∧ sameBytes s t) ∧
  (∀ (s : State) (c : Fin 32), s.dmaState c ≠ 0 ∨ s.flag F.DMA_STATUS_BUSERR = true → ∃ t, exec (.dmaStart c) s = .next t ∧ t.flag
      F.DMA_CH_STATUS_START_IGN c = true ∧ t.dma = s.dma ∧ sameRegs [F.DMA_CH_STATUS_START_IGN.part [c]] s t ∧ sameBytes s t) ∧
  (∀ (s : State) (c : Fin 32), s.dmaState c ≠ 0 → s.dmaState c ≠ 5 → (s.dmaCh c).ending = none → ∃ t, exec (.dmaAbort c) s = .next t ∧ t.dmaState c = 5 ∧
      (t.dmaCh c).aborted = true ∧ (t.dmaCh c).ending = some 1 ∧ t.dma.bursts = s.dma.bursts ∧ sameRegs [F.DMA_CH_STATUS_STATE.part [c]] s t ∧ sameBytes
      s t) ∧
  (∀ (s : State) (c : Fin 32) (n : Fin 16) (tdc : Bool), s.dmaState c = 3 → dmaBound s c = some (n, tdc) → 1 ≤ queueCount s n tdc → ∃ t, exec (.dmaFlush
      c) s = .next t ∧ (t.dmaCh c).flush = true ∧ t.dma.bursts = s.dma.bursts ∧ sameRegs [] s t ∧ sameBytes s t) ∧
  (∀ (s : State), ∃ t, exec .clrBuserr s = .next t ∧ t.flag F.DMA_STATUS_BUSERR = false ∧ t.dma = s.dma ∧ sameRegs [F.DMA_STATUS_BUSERR.part []] s t ∧
      sameBytes s t) ∧
  (∀ (s : State) (c : Fin 32) (d : DmaDesc), s.dma.bursts.length < 16 → dmaTurn s = some c → (s.dmaCh c).desc = some d → localEnd s d.dst d.dstLocal =
      true → d.op = 1 ∨ localEnd s d.src d.srcLocal = true → (d.idxSrc || d.idxDst || d.vwp) = false → (endReloads s d.dst d.dstLocal || endAsleep s
      d.dst d.dstLocal || (decide (d.op ≠ 1) && (endReloads s d.src d.srcLocal || endAsleep s d.src d.srcLocal))) = false → ∃ t, exec .dmaBurstGrant s =
      .next t ∧ t.dma.bursts = s.dma.bursts ++
      [{ ch := c, off := (s.dmaCh c).granted, len := dmaLength s c d, src := if d.op = 0 ∧ (dmaBound s c).isNone then d.src + (s.dmaCh c).granted else d.src, dst := d.dst + (s.dmaCh c).granted, parts := [] }]
      ∧ (t.dmaCh c).granted = (s.dmaCh c).granted + dmaLength s c d ∧ (∀ x, x ≠ c → t.dmaCh x = s.dmaCh x) ∧ sameRegs [] s t ∧ sameBytes s t) ∧
  (∀ (s : State) (c : Fin 32) (d : DmaDesc) (b : DmaBurst) (l : List DmaBurst), dmaBursts s c = b :: l → (s.dmaCh c).desc = some d → b.parts.any (fun p
      => p.reply.isNone) = false → localEnd s d.dst d.dstLocal = false → d.vwp = false → s.pair .DMA_CH_BYTES_LO .DMA_CH_BYTES_HI c + burstWrote b < 2 ^
      64 → ∃ t, exec (.dmaBurstDone c) s = .next t ∧ t.dma.bursts = s.dma.bursts.erase b ∧ (t.dmaCh c).written = (s.dmaCh c).written + burstWrote b ∧
      t.pair .DMA_CH_BYTES_LO .DMA_CH_BYTES_HI c = s.pair .DMA_CH_BYTES_LO .DMA_CH_BYTES_HI c + burstWrote b ∧ sameRegs
      [{ reg := .DMA_CH_BYTES_LO, idx := [c] }, { reg := .DMA_CH_BYTES_HI, idx := [c] }, { reg := .DMA_CH_RESIDUE, idx := [c] }] s t ∧ sameBytes s t) ∧
  (∀ (s : State) (c : Fin 32) (d : DmaDesc), s.dmaState c ≠ 0 → dmaBursts s c = [] → (s.dmaCh c).desc = some d → (s.dmaCh c).ending = none → (s.dmaCh
      c).written = d.len → d.chain = false → d.wb = false → ∃ t, exec (.dmaDescEnd c) s = .next t ∧ t.dmaState c = 0 ∧ t.fld F.DMA_CH_STATUS_STATUS c =
      0 ∧ t.flag F.DMA_CH_STATUS_DONE c = true ∧ t.rd .DMA_CH_DESCS c = satCount (s.rd .DMA_CH_DESCS c) 1 ∧ t.rd .DMA_CH_RESIDUE c = 0 ∧ (t.dmaCh
      c).desc = none ∧ sameRegs ([{ reg := .DMA_CH_STATUS, idx := [c] }, { reg := .DMA_CH_DESCS, idx := [c] }, { reg := .DMA_CH_RESIDUE, idx := [c] }]
      ++ eventParts) s t ∧ sameBytes s t) ∧
  (∀ (s : State) (c : Fin 32) (d : DmaDesc), s.dmaState c ≠ 0 → dmaBursts s c = [] → (s.dmaCh c).desc = some d → (s.dmaCh c).ending = none → (s.dmaCh
      c).written = d.len → d.chain = false → d.wb = true → s.storeOn .central = true → s.fld F.DMA_CH_DESC_OFFSET c % 64 = 0 → ∃ t, exec (.dmaDescEnd c)
      s = .next t ∧ t.dmaState c = 0 ∧ t.fld F.DMA_CH_STATUS_STATUS c = 0 ∧ t.flag F.DMA_CH_STATUS_DONE c = true ∧ t.rd .DMA_CH_DESCS c = satCount (s.rd
      .DMA_CH_DESCS c) 1 ∧ t.rd .DMA_CH_RESIDUE c = 0 ∧ (t.dmaCh c).desc = none ∧ (∀ x a, ¬(x = StoreId.central ∧ s.fld F.DMA_CH_DESC_OFFSET c + 48 ≤ a
      ∧ a < s.fld F.DMA_CH_DESC_OFFSET c + 64) → (t.store x).byteAt a = (s.store x).byteAt a) ∧ t.cstore.byteAt (s.fld F.DMA_CH_DESC_OFFSET c + 48) = 0
      ∧ (∀ i, i < 4 → t.cstore.byteAt (s.fld F.DMA_CH_DESC_OFFSET c + 52 + i) = 0) ∧ sameRegs
      ([{ reg := .DMA_CH_STATUS, idx := [c] }, { reg := .DMA_CH_DESCS, idx := [c] }, { reg := .DMA_CH_RESIDUE, idx := [c] }] ++ eventParts) s t) ∧
  (∀ (s : State), ∃ t, exec .dmaBusError s = .next t ∧ t.flag F.DMA_STATUS_BUSERR = true ∧ (∀ c, t.dmaState c = 0) ∧ t.rd .DMA_BUSERRS = satCount (s.rd
      .DMA_BUSERRS) 1 ∧ { pair := { src := 0x36, scope := 16, index := 0 }, injected := false, dry := false } ∈ t.flt.raised ∧ sameRegs
      ([F.DMA_STATUS_BUSERR.part []] ++ globalParts
      [.DMA_CH_STATUS, .DMA_CH_DROPPED, .DMA_CH_RESIDUE, .DMA_BUSERR_BEAT_LO, .DMA_BUSERR_BEAT_HI, .DMA_BUSERRS] ++ eventParts) s t ∧ sameBytes s t) ∧
  (∀ (s : State) (c : Fin 32), (s.dma.bursts.any (fun b => b.ch == c.val && b.parts.any (fun p => p.reply.isNone && decide (p.sentAt + max 1 (s.fld
      F.CTP_TUNNEL_TMO_TMO) * 25000 ≤ s.now)))) = true → s.dmaState c ≠ 0 → (s.dmaCh c).ending = none → ∃ t, exec (.dmaRemoteTimeout c) s = .next t ∧
      t.dmaState c = 5 ∧ (t.dmaCh c).ending = some 9 ∧ t.fld F.DMA_CH_STATUS_RSTATUS c = 1 ∧ sameRegs
      [F.DMA_CH_STATUS_STATE.part [c], F.DMA_CH_STATUS_RSTATUS.part [c]] s t ∧ sameBytes s t)

/-- A burst of a FILL descriptor to a store of this device that is ON and holds no poisoned word, with no injection waiting, writes the
8-byte pattern, counted from the start of the destination, to every byte of the burst, and no other byte. -/
def Obligations.DmaFillBurst : Prop :=
  ∀ (s : State) (c : Fin 32) (d : DmaDesc) (b : DmaBurst) (l : List DmaBurst) (r : Region) (o : Nat) (id : StoreId), dmaBursts s c = b :: l → (s.dmaCh
      c).desc = some d → b.parts = [] → d.op = 1 → d.vwp = false → localEnd s d.dst d.dstLocal = true → regionOf (b.dst % 2 ^ 40) = some (r, o) →
      r.storeId = some id → s.storeOn id = true → (s.store id).double = [] → s.flt.inject = none → ∃ t, exec (.dmaBurstDone c) s = .next t ∧ (∀ i, i <
      b.len → (t.store id).byteAt (o + i) = BitVec.ofNat 8 (d.pattern / 2 ^ (8 * ((b.off + i) % 8)) % 256)) ∧ (∀ x a, ¬(x = id ∧ o ≤ a ∧ a < o + b.len)
      → (t.store x).byteAt a = (s.store x).byteAt a) ∧ t.dma.bursts = s.dma.bursts.erase b ∧ (t.dmaCh c).written = (s.dmaCh c).written + b.len

/-- With no stream running, outside reset, and for store words with no poisoned word and no injection waiting, a whole frame acts and sets
the reply of the next: NOP OK-NOTHING, REPLAY the latest read, PAGE the page. RD answers the word at its address, a register or a store
word; RDN the next word. A frame with a wrong edge count is counted and answers CODE 2. WR and WRN write a register. STRM and STRMN open
a stream; each of its words goes into the store at the next address, and the last ends it with CODE 0 and the count of words. -/
def Obligations.SidePort : Prop :=
  (∀ (s : State) (frame : SideFrame) (bad : Bool), s.inReset = false → s.side.stream = none → frame.edges = 64 → ∃ t, exec (.nopFrame frame bad) s =
      .next t ∧ t.side.reply = { code := if bad then (if s.flag F.INV_STATUS_LOCK then 3 else 14) else 1, addr := 0, data := 0 } ∧ t.side.miso = (if
      frame.late && s.side.reading then { s.side.reply with code := 10, data := 0 } else s.side.reply).bits ∧ t.flag F.SIDE_STATUS_MODE3 = frame.mode3 ∧
      sameRegs [F.SIDE_STATUS_MODE3.part [], F.SIDE_STATUS_LATE.part []] s t ∧ sameBytes s t) ∧
  (∀ (s : State) (frame : SideFrame) (bad : Bool), s.inReset = false → s.side.stream = none → frame.edges ≠ 64 → ∃ t, exec (.nopFrame frame bad) s =
      .next t ∧ t.side.reply = { code := 2, addr := 0, data := 0 } ∧ t.fld F.SIDE_STATUS_FRAME_ERR = min (s.fld F.SIDE_STATUS_FRAME_ERR + 1) (2 ^
      F.SIDE_STATUS_FRAME_ERR.width - 1) ∧ sameRegs [F.SIDE_STATUS_MODE3.part [], F.SIDE_STATUS_LATE.part [], F.SIDE_STATUS_FRAME_ERR.part []] s t ∧
      sameBytes s t) ∧
  (∀ (s : State) (frame : SideFrame) (r : SideReply), s.inReset = false → s.side.stream = none → frame.edges = 64 → s.side.lastRead = some r → ∃ t, exec
      (.replayRead frame) s = .next t ∧ t.side.reply = r ∧ t.side.lastRead = some r ∧ sameRegs
      [F.SIDE_STATUS_MODE3.part [], F.SIDE_STATUS_LATE.part [], { reg := .SIDE_FRAMES, idx := [] }] s t ∧ sameBytes s t) ∧
  (∀ (s : State) (frame : SideFrame), s.inReset = false → s.side.stream = none → frame.edges = 64 → frame.data.toNat < 2 ^ 14 → ∃ t, exec (.page frame) s
      = .next t ∧ t.side.reply = { code := 0, addr := 0, data := 0 } ∧ t.fld F.SIDE_PAGE_PAGE = frame.data.toNat ∧ t.rd .SIDE_FRAMES = satCount (s.rd
      .SIDE_FRAMES) 1 ∧ sameRegs [F.SIDE_STATUS_MODE3.part [], F.SIDE_STATUS_LATE.part [], { reg := .SIDE_FRAMES, idx := [] }, F.SIDE_PAGE_PAGE.part []]
      s t ∧ sameBytes s t) ∧
  (∀ (s : State) (frame : SideFrame), s.inReset = false → s.side.stream = none → frame.edges = 64 → 2 ^ 14 ≤ frame.data.toNat → ∃ t, exec (.page frame) s
      = .next t ∧ t.side.reply = { code := 4, addr := 0, data := 0 } ∧ sameRegs [F.SIDE_STATUS_MODE3.part [], F.SIDE_STATUS_LATE.part []] s t ∧
      sameBytes s t) ∧
  (∀ (s : State) (frame : SideFrame) (key : RegKey), s.inReset = false → s.side.stream = none → frame.edges = 64 → s.flag F.INV_STATUS_LOCK = true →
      regAt (sideAddress s frame.addr.toNat) = some key → key.reg ∈
      ([.SEQ_LCOUNT, .SEQ_LIM_LO, .SEQ_LIM_HI, .GLB_IMG_LEN, .GLB_IMG_SRC, .FLT_INJECT_IDX, .RPL_RING_BASE] : List Reg) → keptWord s.shadow key = none →
      ∃ t, exec (.rd frame) s = .next t ∧ t.side.reply =
      { code := 0, addr := wordAddress (sideAddress s frame.addr.toNat), data := (regView s key).toNat } ∧ t.side.stepRead = some (sideAddress s
      frame.addr.toNat) ∧ t.side.lastRead = some t.side.reply ∧ t.rd .SIDE_FRAMES = satCount (s.rd .SIDE_FRAMES) 1 ∧ sameRegs
      [F.SIDE_STATUS_MODE3.part [], F.SIDE_STATUS_LATE.part [], { reg := .SIDE_FRAMES, idx := [] }] s t ∧ sameBytes s t) ∧
  (∀ (s : State) (frame : SideFrame) (r : Region) (o : Nat) (id : StoreId), s.inReset = false → s.side.stream = none → frame.edges = 64 → s.flag
      F.INV_STATUS_LOCK = true → regionOf (sideAddress s frame.addr.toNat) = some (r, o) → r.storeId = some id → storeStop s (sideAddress s
      frame.addr.toNat) = none ∨ storeStop s (sideAddress s frame.addr.toNat) = some 8 → (s.store id).double = [] → s.flt.inject = none → ∃ t, exec (.rd
      frame) s = .next t ∧ t.side.reply = { code := 0, addr := wordAddress (sideAddress s frame.addr.toNat), data := ofBytes ((s.store id).read o 4) } ∧
      t.rd .SIDE_FRAMES = satCount (s.rd .SIDE_FRAMES) 1 ∧ sameRegs ([F.SIDE_STATUS_MODE3.part [], F.SIDE_STATUS_LATE.part []] ++ globalParts
      [.SIDE_FRAMES, .SLC_ECC_CE, .SLC_ECC_ADDR, .GLB_CSTORE_ECC_CE, .GLB_CSTORE_ECC_ADDR]) s t ∧ sameBytes s t) ∧
  (∀ (s : State) (frame : SideFrame) (last : Nat) (r : Region) (o : Nat) (id : StoreId), s.inReset = false → s.side.stream = none → frame.edges = 64 →
      s.flag F.INV_STATUS_LOCK = true → s.side.stepRead = some last → last + 4 < stepEnd last → regionOf (last + 4) = some (r, o) → r.storeId = some id
      → storeStop s (last + 4) = none ∨ storeStop s (last + 4) = some 8 → (s.store id).double = [] → s.flt.inject = none → ∃ t, exec (.rdn frame) s =
      .next t ∧ t.side.reply = { code := 0, addr := wordAddress (last + 4), data := ofBytes ((s.store id).read o 4) } ∧ t.side.stepRead = some (last +
      4) ∧ t.rd .SIDE_FRAMES = satCount (s.rd .SIDE_FRAMES) 1 ∧ sameRegs ([F.SIDE_STATUS_MODE3.part [], F.SIDE_STATUS_LATE.part []] ++ globalParts
      [.SIDE_FRAMES, .SLC_ECC_CE, .SLC_ECC_ADDR, .GLB_CSTORE_ECC_CE, .GLB_CSTORE_ECC_ADDR]) s t ∧ sameBytes s t) ∧
  (∀ (s : State) (frame : SideFrame) (last : Nat), s.inReset = false → s.side.stream = none → frame.edges = 64 → s.flag F.INV_STATUS_LOCK = true →
      s.side.stepRead = some last → stepEnd last ≤ last + 4 → ∃ t, exec (.rdn frame) s = .next t ∧ t.side.reply = { code := 11, addr := 0, data := 0 } ∧
      t.flag F.SIDE_STATUS_PAST_END = true ∧ sameRegs [F.SIDE_STATUS_MODE3.part [], F.SIDE_STATUS_LATE.part [], F.SIDE_STATUS_PAST_END.part []] s t ∧
      sameBytes s t) ∧
  (∀ (s : State) (frame : SideFrame) (key : RegKey), s.inReset = false → s.side.stream = none → frame.edges = 64 → s.flag F.INV_STATUS_LOCK = true →
      s.flag F.SIDE_CFG_WR_EN = true → regAt (sideAddress s frame.addr.toNat) = some key → key.reg ∈
      ([.SEQ_LCOUNT, .SEQ_LIM_LO, .SEQ_LIM_HI, .GLB_IMG_LEN, .GLB_IMG_SRC, .FLT_INJECT_IDX, .RPL_RING_BASE] : List Reg) → (s.heldBits key
      frame.data.toNat).1 = 0 → s.rplState ≠ 2 → (inSliceRegs (sideAddress s frame.addr.toNat) && reloadHolds s (sliceOfAddr (sideAddress s
      frame.addr.toNat))) = false → ∃ t, exec (.wr frame) s = .next t ∧ t.side.reply =
      { code := 0, addr := wordAddress (sideAddress s frame.addr.toNat), data := 0 } ∧ t.rd key.reg key.i key.j key.k key.l = BitVec.ofNat 32 (mix
      key.reg.writable frame.data.toNat (s.rd key.reg key.i key.j key.k key.l).toNat) ∧ t.side.stepWrite = some (sideAddress s frame.addr.toNat) ∧ t.rd
      .SIDE_FRAMES = satCount (s.rd .SIDE_FRAMES) 1 ∧ sameRegs
      [{ reg := key.reg, idx := [key.i, key.j, key.k, key.l] }, { reg := .SIDE_FRAMES, idx := [] }, F.SIDE_STATUS_MODE3.part [], F.SIDE_STATUS_LATE.part []]
      s t ∧ sameBytes s t) ∧
  (∀ (s : State) (frame : SideFrame) (key : RegKey) (last : Nat), s.inReset = false → s.side.stream = none → frame.edges = 64 → s.flag F.INV_STATUS_LOCK
      = true → s.flag F.SIDE_CFG_WR_EN = true → s.side.stepWrite = some last → last + 4 < stepEnd last → regAt (last + 4) = some key → key.reg ∈
      ([.SEQ_LCOUNT, .SEQ_LIM_LO, .SEQ_LIM_HI, .GLB_IMG_LEN, .GLB_IMG_SRC, .FLT_INJECT_IDX, .RPL_RING_BASE] : List Reg) → (s.heldBits key
      frame.data.toNat).1 = 0 → s.rplState ≠ 2 → (inSliceRegs (last + 4) && reloadHolds s (sliceOfAddr (last + 4))) = false → ∃ t, exec (.wrn frame) s =
      .next t ∧ t.side.reply = { code := 0, addr := wordAddress (last + 4), data := 0 } ∧ t.rd key.reg key.i key.j key.k key.l = BitVec.ofNat 32 (mix
      key.reg.writable frame.data.toNat (s.rd key.reg key.i key.j key.k key.l).toNat) ∧ t.side.stepWrite = some (last + 4) ∧ t.rd .SIDE_FRAMES =
      satCount (s.rd .SIDE_FRAMES) 1 ∧ sameRegs
      [{ reg := key.reg, idx := [key.i, key.j, key.k, key.l] }, { reg := .SIDE_FRAMES, idx := [] }, F.SIDE_STATUS_MODE3.part [], F.SIDE_STATUS_LATE.part []]
      s t ∧ sameBytes s t) ∧
  (∀ (s : State) (frame : SideFrame), s.inReset = false → s.side.stream = none → frame.edges = 64 → s.flag F.INV_STATUS_LOCK = true → s.flag
      F.SIDE_CFG_WR_EN = false → ∃ t, exec (.wr frame) s = .next t ∧ t.side.reply = { code := 12, addr := 0, data := 0 } ∧ sameRegs
      [F.SIDE_STATUS_MODE3.part [], F.SIDE_STATUS_LATE.part []] s t ∧ sameBytes s t) ∧
  (∀ (s : State) (frame : SideFrame), s.inReset = false → s.side.stream = none → 64 ≤ frame.edges → s.flag F.INV_STATUS_LOCK = true → s.flag
      F.SIDE_CFG_WR_EN = true → storeStop s (sideAddress s frame.addr.toNat) = none → ∃ t, exec (.strm frame) s = .next t ∧ t.side.stream = some
      { first := sideAddress s frame.addr.toNat, next := sideAddress s frame.addr.toNat, left := (frame.edges - 32) / 32, leftover := frame.edges % 32 != 0, written := 0, stop := none }
      ∧ sameRegs [F.SIDE_STATUS_MODE3.part [], F.SIDE_STATUS_LATE.part []] s t ∧ sameBytes s t) ∧
  (∀ (s : State) (frame : SideFrame) (last : Nat), s.inReset = false → s.side.stream = none → 64 ≤ frame.edges → s.flag F.INV_STATUS_LOCK = true → s.flag
      F.SIDE_CFG_WR_EN = true → s.side.stepStream = some last → last + 4 < streamEnd last → storeStop s (last + 4) = none → ∃ t, exec (.strmn frame) s =
      .next t ∧ t.side.stream = some
      { first := last + 4, next := last + 4, left := (frame.edges - 32) / 32, leftover := frame.edges % 32 != 0, written := 0, stop := none } ∧ sameRegs
      [F.SIDE_STATUS_MODE3.part [], F.SIDE_STATUS_LATE.part []] s t ∧ sameBytes s t) ∧
  (∀ (s : State) (x : SideStream) (w : BitVec 32) (r : Region) (o : Nat) (id : StoreId), s.side.stream = some x → x.stop = none → x.next < streamEnd
      x.first → storeStop s x.next = none → s.side.fifo = [] → regionOf x.next = some (r, o) → r.storeId = some id → (s.store id).double = [] →
      s.flt.inject = none → 1 < x.left → ∃ t, exec (.streamWord w false) s = .next t ∧ (∀ i, i < 4 → (t.store id).byteAt (o + i) = BitVec.ofNat 8
      (w.toNat / 2 ^ (8 * i))) ∧ (∀ q a, ¬(q = id ∧ o ≤ a ∧ a < o + 4) → (t.store q).byteAt a = (s.store q).byteAt a) ∧ t.rd .SIDE_WORDS = satCount
      (s.rd .SIDE_WORDS) 1 ∧ t.side.stepStream = some x.next ∧ t.side.fifo = [] ∧ t.side.stream = some
      { x with next := x.next + 4, written := x.written + 1, left := x.left - 1 } ∧ sameRegs (globalParts
      [.SIDE_WORDS, .SLC_ECC_CE, .SLC_ECC_ADDR, .GLB_CSTORE_ECC_CE, .GLB_CSTORE_ECC_ADDR]) s t) ∧
  (∀ (s : State) (x : SideStream) (w : BitVec 32) (r : Region) (o : Nat) (id : StoreId), s.side.stream = some x → x.stop = none → x.next < streamEnd
      x.first → storeStop s x.next = none → s.side.fifo = [] → regionOf x.next = some (r, o) → r.storeId = some id → (s.store id).double = [] →
      s.flt.inject = none → x.left = 1 → x.leftover = false → ∃ t, exec (.streamWord w false) s = .next t ∧ (∀ i, i < 4 → (t.store id).byteAt (o + i) =
      BitVec.ofNat 8 (w.toNat / 2 ^ (8 * i))) ∧ (∀ q a, ¬(q = id ∧ o ≤ a ∧ a < o + 4) → (t.store q).byteAt a = (s.store q).byteAt a) ∧ t.rd .SIDE_WORDS
      = satCount (s.rd .SIDE_WORDS) 1 ∧ t.side.stepStream = some x.next ∧ t.side.fifo = [] ∧ t.side.stream = none ∧ t.side.reply =
      { code := 0, addr := wordAddress x.first, data := x.written + 1 } ∧ t.rd .SIDE_FRAMES = satCount (s.rd .SIDE_FRAMES) 1 ∧ sameRegs (globalParts
      [.SIDE_WORDS, .SIDE_FRAMES, .SLC_ECC_CE, .SLC_ECC_ADDR, .GLB_CSTORE_ECC_CE, .GLB_CSTORE_ECC_ADDR]) s t)

/-- A side-port write of PWT_CTRL.OPEN opens the window, unless slice 0 or 1 is in a live reload, and closes it. PW_ADDR sets the pointer.
Two PW_WRB form a value for the register it names: a level is staged. PW_RDB answers the high byte of a register, then its low byte.
RUN, HALT, CLRFAIL and PW_STROBE act on slices 0 and 1. GO of a legal frame starts the accessory port, another is refused; ABORT stops
it before ACC_STB_N falls; its end takes the bits of ACC_MISO. -/
def Obligations.PewterAndAccessory : Prop :=
  (∀ (s : State) (frame : SideFrame), s.inReset = false → s.side.stream = none → frame.edges = 64 → s.flag F.INV_STATUS_LOCK = true → s.flag
      F.PWT_CTRL_OPEN = true → frame.addr.toNat < 256 → ∃ t, exec (.pwAddr frame) s = .next t ∧ t.side.reply = { code := 0, addr := 0, data := 0 } ∧
      t.fld F.PWT_STATUS_PTR = frame.addr.toNat ∧ t.rd .SIDE_FRAMES = satCount (s.rd .SIDE_FRAMES) 1 ∧ t.pewter.stage = s.pewter.stage ∧ t.pewter.high =
      none ∧ t.pewter.captured = none ∧ t.flag F.PWT_STATUS_PHASE = false ∧ sameRegs
      [F.PWT_STATUS_PTR.part [], F.PWT_STATUS_PHASE.part [], { reg := .SIDE_FRAMES, idx := [] }, F.SIDE_STATUS_MODE3.part [], F.SIDE_STATUS_LATE.part []]
      s t ∧ sameBytes s t) ∧
  (∀ (s : State) (frame : SideFrame), s.inReset = false → s.side.stream = none → frame.edges = 64 → s.flag F.INV_STATUS_LOCK = true → s.flag
      F.PWT_CTRL_OPEN = true → (s.pewter.high = none) → (s.pewter.captured = none) → ∃ t, exec (.pwWrb frame) s = .next t ∧ t.side.reply =
      { code := 0, addr := 0, data := 0 } ∧ t.pewter = { s.pewter with high := some (frame.data.toNat % 256) } ∧ t.flag F.PWT_STATUS_PHASE = true ∧ t.rd
      .PWT_BYTES = satCount (s.rd .PWT_BYTES) 1 ∧ t.rd .SIDE_FRAMES = satCount (s.rd .SIDE_FRAMES) 1 ∧ sameRegs
      [F.PWT_STATUS_PHASE.part [], { reg := .PWT_BYTES, idx := [] }, { reg := .SIDE_FRAMES, idx := [] }, F.SIDE_STATUS_MODE3.part [], F.SIDE_STATUS_LATE.part []]
      s t ∧ sameBytes s t) ∧
  (∀ (s : State) (frame : SideFrame) (h : Nat), s.inReset = false → s.side.stream = none → frame.edges = 64 → s.flag F.INV_STATUS_LOCK = true → s.flag
      F.PWT_CTRL_OPEN = true → s.pewter.high = some h → (s.pewter.captured = none) → isLevel (s.fld F.PWT_STATUS_PTR) = true → ∃ t, exec (.pwWrb frame)
      s = .next t ∧ t.side.reply = { code := 0, addr := 0, data := 0 } ∧ t.pewter.stage.at (s.fld F.PWT_STATUS_PTR) = h * 256 + frame.data.toNat % 256 ∧
      (∀ x, x ≠ s.fld F.PWT_STATUS_PTR → t.pewter.stage.at x = s.pewter.stage.at x) ∧ t.fld F.PWT_STATUS_PTR = (s.fld F.PWT_STATUS_PTR + 1) % 256 ∧ t.rd
      .PWT_BYTES = satCount (s.rd .PWT_BYTES) 1 ∧ t.rd .SIDE_FRAMES = satCount (s.rd .SIDE_FRAMES) 1 ∧ t.pewter.high = none ∧ t.pewter.captured = none ∧
      t.flag F.PWT_STATUS_PHASE = false ∧ sameRegs
      [F.PWT_STATUS_PTR.part [], F.PWT_STATUS_PHASE.part [], { reg := .PWT_BYTES, idx := [] }, { reg := .SIDE_FRAMES, idx := [] }, F.SIDE_STATUS_MODE3.part [], F.SIDE_STATUS_LATE.part []]
      s t ∧ sameBytes s t) ∧
  (∀ (s : State) (frame : SideFrame), s.inReset = false → s.side.stream = none → frame.edges = 64 → s.flag F.INV_STATUS_LOCK = true → s.flag
      F.PWT_CTRL_OPEN = true → (s.pewter.high = none) → (s.pewter.captured = none) → ∃ t, exec (.pwRdb frame) s = .next t ∧ t.side.reply =
      { code := 0, addr := 0, data := pewterGet s (s.fld F.PWT_STATUS_PTR) / 256 % 256 } ∧ t.pewter.captured = some (pewterGet s (s.fld
      F.PWT_STATUS_PTR)) ∧ t.pewter.events = (if s.fld F.PWT_STATUS_PTR = 1 then 0 else s.pewter.events) ∧ t.flag F.PWT_STATUS_PHASE = true ∧
      t.pewter.stage = s.pewter.stage ∧ t.rd .PWT_BYTES = satCount (s.rd .PWT_BYTES) 1 ∧ t.rd .SIDE_FRAMES = satCount (s.rd .SIDE_FRAMES) 1 ∧ sameRegs
      [F.PWT_STATUS_PHASE.part [], { reg := .PWT_BYTES, idx := [] }, { reg := .SIDE_FRAMES, idx := [] }, F.SIDE_STATUS_MODE3.part [], F.SIDE_STATUS_LATE.part []]
      s t ∧ sameBytes s t) ∧
  (∀ (s : State) (frame : SideFrame) (v : Nat), s.inReset = false → s.side.stream = none → frame.edges = 64 → s.flag F.INV_STATUS_LOCK = true → s.flag
      F.PWT_CTRL_OPEN = true → (s.pewter.high = none) → s.pewter.captured = some v → ∃ t, exec (.pwRdb frame) s = .next t ∧ t.side.reply =
      { code := 0, addr := 0, data := v % 256 } ∧ t.fld F.PWT_STATUS_PTR = (s.fld F.PWT_STATUS_PTR + 1) % 256 ∧ t.rd .PWT_BYTES = satCount (s.rd
      .PWT_BYTES) 1 ∧ t.rd .SIDE_FRAMES = satCount (s.rd .SIDE_FRAMES) 1 ∧ t.pewter.stage = s.pewter.stage ∧ t.pewter.high = none ∧ t.pewter.captured =
      none ∧ t.flag F.PWT_STATUS_PHASE = false ∧ sameRegs
      [F.PWT_STATUS_PTR.part [], F.PWT_STATUS_PHASE.part [], { reg := .PWT_BYTES, idx := [] }, { reg := .SIDE_FRAMES, idx := [] }, F.SIDE_STATUS_MODE3.part [], F.SIDE_STATUS_LATE.part []]
      s t ∧ sameBytes s t) ∧
  (∀ (s : State) (frame : SideFrame) (c : Instr), c ∈ [Instr.pwAddr frame, .pwWrb frame, .pwRdb frame] → s.inReset = false → s.side.stream = none →
      frame.edges = 64 → s.flag F.INV_STATUS_LOCK = true → s.flag F.PWT_CTRL_OPEN = false → ∃ t, exec c s = .next t ∧ t.side.reply =
      { code := 13, addr := 0, data := 0 } ∧ t.pewter = s.pewter ∧ sameRegs [F.SIDE_STATUS_MODE3.part [], F.SIDE_STATUS_LATE.part []] s t ∧ sameBytes s
      t) ∧
  (∀ (s : State) (n : Fin 16), n.val < 2 → s.flag F.PWT_CTRL_OPEN = true → s.rplState ≠ 2 → reloadHolds s n = false → (s.rd .SEQ_CTRL n).toNat &&& 0x17 =
      0 → seqState s n = 0 ∨ seqState s n = 5 → wheelState s n = 2 → ∃ t, exec .pwRun s = .next t ∧ seqState t n = 2 ∧ (t.sl n).seq.starting = true ∧
      (t.sl n).seq.pend = none ∧ (t.sl n).seq.loops = [] ∧ (t.sl n).seq.calls = [] ∧ t.fld F.SEQ_STATUS_ERR n = 0 ∧ sameRegs (sliceParts 0 ++ sliceParts
      1) s t ∧ sameBytes s t) ∧
  (∀ (s : State) (n : Fin 16), n.val < 2 → s.flag F.PWT_CTRL_OPEN = true → s.rplState ≠ 2 → reloadHolds s n = false → (s.rd .SEQ_CTRL n).toNat &&& 0x17 =
      0 → (s.rd .VEC_CTRL n).toNat &&& 9 = 0 → 1 ≤ seqState s n → seqState s n ≤ 4 → s.coreOn n = true → vecState s n = 1 → ∃ t, exec .pwHalt s = .next
      t ∧ seqState t n = 0 ∧ (t.sl n).seq.pend = none ∧ (t.sl n).vec.waiting = (s.sl n).vec.waiting ++ [(s.now, .halt true)] ∧ sameRegs (sliceParts 0 ++
      sliceParts 1) s t ∧ sameBytes s t) ∧
  (∀ (s : State) (n : Fin 16) (p : Fin 32), n.val < 2 → s.flag F.PWT_CTRL_OPEN = true → s.rplState ≠ 2 → reloadHolds s n = false → ∃ t, exec .pwClrfail s
      = .next t ∧ t.rd .VEC_PFAIL n p = 0 ∧ t.pair .VEC_FAILVEC_LO .VEC_FAILVEC_HI n = 0 ∧ sameRegs
      [{ reg := .VEC_PFAIL, idx := [0] }, { reg := .VEC_FAILVEC_LO, idx := [0] }, { reg := .VEC_FAILVEC_HI, idx := [0] }, { reg := .VEC_PFAIL, idx := [1] }, { reg := .VEC_FAILVEC_LO, idx := [1] }, { reg := .VEC_FAILVEC_HI, idx := [1] }]
      s t ∧ sameBytes s t) ∧
  (∀ (s : State) (g k : Fin 8) (n : Fin 16) (p : Nat) (r : Fin 5), s.flag F.PWT_CTRL_OPEN = true → s.rplState ≠ 2 → reloadHolds s n = false → pewterPin
      (8 * g.val + k.val) = (n, p) → s.lockedBits ⟨levelRegs.getD r .PIN_VIL, n, p, 0, 0⟩ = 0 → ∃ t, exec (.pwStrobe g) s = .next t ∧ bitsAt (t.rd
      (levelRegs.getD r .PIN_VIL) n p).toNat 0 16 = pat 16 (clampInt (-6000) 26000 (4 * sext 16 (s.pewter.stage.at (0x10 + 8 * g.val + r.val)))) ∧
      sameRegs
      [{ reg := .PIN_VIL, idx := [n] }, { reg := .PIN_VIH, idx := [n] }, { reg := .PIN_VOL, idx := [n] }, { reg := .PIN_VOH, idx := [n] }, { reg := .PIN_VTERM, idx := [n] }, F.PIN_STATUS_LEVEL_CLAMP.part [n]]
      s t ∧ sameBytes s t) ∧
  (∀ (s : State), s.flag F.PWT_CTRL_OPEN = false → s.reloadTargets 0 = false → s.reloadTargets 1 = false → ∃ t, exec .pewterOpen s = .next t ∧ t.flag
      F.PWT_CTRL_OPEN = true ∧ t.pewter.stage = [] ∧ t.fld F.PWT_STATUS_PTR = 0 ∧ t.pewter.events = s.pewter.events ∧ t.pewter.high = none ∧
      t.pewter.captured = none ∧ t.flag F.PWT_STATUS_PHASE = false ∧ sameRegs
      [F.PWT_CTRL_OPEN.part [], F.PWT_STATUS_PTR.part [], F.PWT_STATUS_PHASE.part []] s t ∧ sameBytes s t) ∧
  (∀ (s : State), s.flag F.PWT_CTRL_OPEN = false → s.reloadTargets 0 = true ∨ s.reloadTargets 1 = true → ∃ t, exec .pewterOpen s = .next t ∧ t.flag
      F.PWT_STATUS_OPEN_REFUSED = true ∧ t.flag F.PWT_CTRL_OPEN = false ∧ t.pewter = s.pewter ∧ sameRegs [F.PWT_STATUS_OPEN_REFUSED.part []] s t ∧
      sameBytes s t) ∧
  (∀ (s : State), s.flag F.PWT_CTRL_OPEN = true → ∃ t, exec .pewterClose s = .next t ∧ t.flag F.PWT_CTRL_OPEN = false ∧ t.pewter.stage = [] ∧
      t.pewter.high = none ∧ t.pewter.captured = none ∧ t.flag F.PWT_STATUS_PHASE = false ∧ sameRegs
      [F.PWT_CTRL_OPEN.part [], F.PWT_STATUS_PHASE.part []] s t ∧ sameBytes s t) ∧
  (∀ (s : State), s.flag F.ACC_STATUS_BUSY = false → 8 ≤ s.fld F.ACC_FRAME_LEN → s.fld F.ACC_FRAME_LEN ≤ 256 → s.fld F.ACC_FRAME_SEL ≠ 0 → ∃ t, exec
      .accGo s = .next t ∧ t.acc.start = some s.now ∧ t.flag F.ACC_STATUS_BUSY = true ∧ sameRegs [F.ACC_STATUS_BUSY.part []] s t ∧ sameBytes s t) ∧
  (∀ (s : State), s.flag F.ACC_STATUS_BUSY = true ∨ s.fld F.ACC_FRAME_LEN < 8 ∨ 256 < s.fld F.ACC_FRAME_LEN ∨ s.fld F.ACC_FRAME_SEL = 0 → ∃ t, exec
      .accGo s = .next t ∧ t.flag F.ACC_STATUS_REFUSED = true ∧ t.fld F.ACC_STATUS_CAUSE = (if s.flag F.ACC_STATUS_BUSY then 3 else if s.fld
      F.ACC_FRAME_LEN < 8 ∨ 256 < s.fld F.ACC_FRAME_LEN then 1 else 2) ∧ t.acc = s.acc ∧ sameRegs
      [F.ACC_STATUS_REFUSED.part [], F.ACC_STATUS_CAUSE.part []] s t ∧ sameBytes s t) ∧
  (∀ (s : State) (k : Nat), s.acc.start = some k → accPassed s k (accSetup s) = false → ∃ t, exec .accAbort s = .next t ∧ t.acc.start = none ∧ t.flag
      F.ACC_STATUS_BUSY = false ∧ t.flag F.ACC_STATUS_ABORTED = true ∧ sameRegs [F.ACC_STATUS_BUSY.part [], F.ACC_STATUS_ABORTED.part []] s t ∧
      sameBytes s t) ∧
  (∀ (s : State) (miso : BitVec 256) (k : Nat) (i : Fin 8), s.acc.start = some k → accPassed s k (accSetup s + s.fld F.ACC_FRAME_LEN + 2 * accHold s) =
      true → ∃ t, exec (.accFrameEnd miso) s = .next t ∧ t.acc.start = none ∧ t.flag F.ACC_STATUS_BUSY = false ∧ t.flag F.ACC_STATUS_DONE = true ∧ t.rd
      .ACC_RX i = BitVec.ofNat 32 (miso.toNat % 2 ^ s.fld F.ACC_FRAME_LEN / 2 ^ (32 * i.val)) ∧ t.rd .ACC_FRAMES = satCount (s.rd .ACC_FRAMES) 1 ∧
      sameRegs [F.ACC_STATUS_BUSY.part [], F.ACC_STATUS_DONE.part [], { reg := .ACC_RX, idx := [] }, { reg := .ACC_FRAMES, idx := [] }] s t ∧ sameBytes
      s t)

/-- REQ = OFF of a domain that is ON starts its drain unless a precondition fails, which refuses it with its reason; while it wakes it is
refused with reason 6. A drained domain that nothing targets, or one past its timeout with no burst, powers down: OFF 250 beats later.
The timeout ends the channels that target it. REQ = ON wakes a domain that is OFF, and keeps one that drains. After its wake time it is
ON with its units as the spec gives them. -/
def Obligations.PowerDomains : Prop :=
  (∀ (s : State) (d : Fin 39) (port : Option (Fin 2)), s.domState d = 0 → offRefusal s d port = none → ∃ t, exec (.domainOffReq d port) s = .next t ∧
      t.domState d = 1 ∧ t.fld F.PWR_DOM_REQ d = 1 ∧ t.pwr.due.get d = s.now + 250 * max 1 (s.fld F.PWR_DRAIN_TIMEOUT_US) ∧ t.pwr.falling.getLsbD d.val
      = false ∧ t.pwr.timedOut.getLsbD d.val = false ∧ sameRegs [F.PWR_DOM_REQ.part [d], F.PWR_DOM_STATE.part [d], { reg := .CAL_FG_STATUS, idx := [] }]
      s t ∧ sameBytes s t) ∧
  (∀ (s : State) (d : Fin 39) (port : Option (Fin 2)) (reason : Nat), s.domState d = 0 → offRefusal s d port = some reason → ∃ t, exec (.domainOffReq d
      port) s = .next t ∧ t.domState d = 0 ∧ t.flag F.PWR_DOM_REFUSED d = true ∧ t.fld F.PWR_DOM_REASON d = reason % 2 ^ F.PWR_DOM_REASON.width ∧
      sameRegs [F.PWR_DOM_REFUSED.part [d], F.PWR_DOM_REASON.part [d]] s t ∧ sameBytes s t) ∧
  (∀ (s : State) (d : Fin 39) (port : Option (Fin 2)), s.domState d = 3 → ∃ t, exec (.domainOffReq d port) s = .next t ∧ t.domState d = 3 ∧ t.flag
      F.PWR_DOM_REFUSED d = true ∧ t.fld F.PWR_DOM_REASON d = 6 ∧ sameRegs [F.PWR_DOM_REFUSED.part [d], F.PWR_DOM_REASON.part [d]] s t ∧ sameBytes s t) ∧
  (∀ (s : State) (d : Fin 39), s.domState d = 2 → ∃ t, exec (.domainOnReq d) s = .next t ∧ t.domState d = 3 ∧ t.fld F.PWR_DOM_REQ d = 0 ∧ t.pwr.due.get d
      = s.now + (domainKind d).wake ∧ sameRegs [F.PWR_DOM_REQ.part [d], F.PWR_DOM_STATE.part [d]] s t ∧ sameBytes s t) ∧
  (∀ (s : State) (d : Fin 39), s.domState d = 1 → s.pwr.falling.getLsbD d.val = false → ∃ t, exec (.domainOnReq d) s = .next t ∧ t.domState d = 0 ∧ t.fld
      F.PWR_DOM_REQ d = 0 ∧ sameRegs [F.PWR_DOM_REQ.part [d], F.PWR_DOM_STATE.part [d]] s t ∧ sameBytes s t) ∧
  (∀ (s : State) (d : Fin 39), s.pwr.falling.getLsbD d.val = false → s.domState d = 1 → if s.pwr.timedOut.getLsbD d.val then s.pwr.due.get d ≤ s.now ∧
      burstTargets s d = false else domainTargeted s d = false → ∃ t, exec (.domainDrainEnd d) s = .next t ∧ t.pwr.falling.getLsbD d.val = true ∧
      t.pwr.due.get d = s.now + 250 ∧ t.domState d = 1 ∧ sameBytes s t) ∧
  (∀ (s : State) (d : Fin 39) (n : Fin 16), s.pwr.falling.getLsbD d.val = false → s.domState d = 1 → domainKind d = .core n → s.pwr.timedOut.getLsbD
      d.val = false → ∃ t, exec (.domainDrainEnd d) s = .next t ∧ seqState t n = 0 ∧ vecState t n = 0 ∧ (∀ u : Fin 32, t.fld F.DMX_STATUS_STATE n u = 0
      ∧ (binOpen t n u).isNone = true) ∧ (∀ u : Fin 32, (tone t n u).pieces = []) ∧ t.rd .PWR_DIS_LAST = BitVec.ofNat 32 (n.val + 5 * 2 ^ 4 + min
      (coreWork s n).2 2047 * 2 ^ 21) ∧ sameRegs ([{ reg := .PWR_DIS_LAST, idx := [] }] ++ sliceParts n) s t ∧ sameBytes s t) ∧
  (∀ (s : State) (d : Fin 39), s.pwr.falling.getLsbD d.val = false → s.domState d = 1 → s.pwr.timedOut.getLsbD d.val = false → s.pwr.due.get d ≤ s.now →
      domainTargeted s d = true → (∀ n, domainKind d = .analog n → streamTargets s n = false) → ∃ t, exec (.domainDrainTimeout d) s = .next t ∧ t.flag
      F.PWR_DOM_TIMED_OUT d = true ∧ t.pwr.timedOut.getLsbD d.val = true ∧ (∀ c, dmaTargetsDomain s c d = true → t.dmaState c = 5) ∧ sameRegs
      [F.PWR_DOM_TIMED_OUT.part [d], F.DMA_CH_STATUS_STATE.part []] s t ∧ sameBytes s t) ∧
  (∀ (s : State) (d : Fin 39), s.domState d = 1 → s.pwr.falling.getLsbD d.val = true → s.pwr.due.get d ≤ s.now → (∀ n, domainKind d ≠ .analog n) → ∃ t,
      exec (.domainOff d) s = .next t ∧ t.domState d = 2 ∧ t.pwr.falling.getLsbD d.val = false ∧ sameRegs [F.PWR_DOM_STATE.part [d]] s t ∧ sameBytes s t) ∧
  (∀ (s : State) (d : Fin 39) (n : Fin 16), s.domState d = 1 → s.pwr.falling.getLsbD d.val = true → s.pwr.due.get d ≤ s.now → domainKind d = .analog n →
      ∃ t, exec (.domainOff d) s = .next t ∧ t.domState d = 2 ∧ (∀ p : Fin 32, t.flag F.PIN_STATUS_CAUSE_PWR n p = true ∧ t.flag F.PIN_STATUS_GUARDED n
      p = true ∧ t.flag F.PIN_STATUS_LOAD_ACTIVE n p = false) ∧ sameRegs ([F.PWR_DOM_STATE.part [d]] ++ sliceParts n ++ eventParts) s t ∧ sameBytes s t) ∧
  (∀ (s : State) (d : Fin 39), s.domState d = 3 → s.pwr.due.get d ≤ s.now → 32 ≤ d.val → d.val < 35 → ∃ t, exec (.domainWakeDone d) s = .next t ∧
      t.domState d = 0 ∧ sameRegs [F.PWR_DOM_STATE.part [d]] s t ∧ sameBytes s t) ∧
  (∀ (s : State) (d : Fin 39) (n : Fin 16), s.domState d = 3 → s.pwr.due.get d ≤ s.now → domainKind d = .core n → ∃ t, exec (.domainWakeDone d) s = .next
      t ∧ t.domState d = 0 ∧ seqState t n = 0 ∧ wheelState t n = 0 ∧ vecState t n = vecState s n ∧ (t.sl n).seq.pend = none ∧ (t.sl n).vec.run = none ∧
      sameRegs ([F.PWR_DOM_STATE.part [d]] ++ sliceParts n) s t ∧ sameBytes s t) ∧
  (∀ (s : State) (d : Fin 39) (n : Fin 16), s.domState d = 3 → s.pwr.due.get d ≤ s.now → domainKind d = .analog n → ∃ t, exec (.domainWakeDone d) s =
      .next t ∧ t.domState d = 0 ∧ (∀ c : Fin 8, t.flag F.TDC_STATUS_LOCK n c = s.flag F.TDC_CFG_EN n c) ∧ (∀ f : Fin 8, ffCh t n f =
      { ffCh s n f with off := false, drained := false, base := .hiz }) ∧ sameRegs ([F.PWR_DOM_STATE.part [d]] ++ sliceParts n) s t ∧ sameBytes s t)

/-- The head of the queue that fits the budget and the ramp is granted: its cost is held and its requester goes on. One that does not fit
yet waits and is counted; one that can never fit is refused. A budget above 190,000 mW is clamped; a mean above it is a fault. A line
whose sums pass its limits trips its governor, which mutes it and raises NRG_TRIP; below them nothing changes. Writing TRIP re-arms it
where the sums have fallen far enough, else it is refused. -/
def Obligations.AdmissionAndGovernors : Prop :=
  (∀ (s : State) (r : PwrRequester) (k : Nat), s.pwr.evalAt ≠ s.now + 1 → s.pwr.queue = [(r, k)] → k < s.now → budgetOk s (classCost s r.cls) = true →
      rampOk s (classCost s r.cls) = true → ∃ t, exec .admissionGrant s = .next t ∧ t.pwr.queue = [] ∧ t.pwr.granted = s.pwr.granted ++
      [(r, classCost s r.cls)] ∧ t.rd .PWR_GRANTS = satCount (s.rd .PWR_GRANTS) 1 ∧ t.flag F.PWR_STATUS_BUDGET_WAIT = false ∧ t.flag
      F.PWR_STATUS_RAMP_WAIT = false ∧ sameBytes s t) ∧
  (∀ (s : State) (n : Fin 16) (c : Fin 4) (k : Nat), s.pwr.evalAt ≠ s.now + 1 → s.pwr.queue = [({ cls := 1, index := 4 * n.val + c.val }, k)] → k < s.now
      → budgetOk s (classCost s 1) = true → rampOk s (classCost s 1) = true → txPwr s n c = 1 → ∃ t, exec .admissionGrant s = .next t ∧ txPwr t n c = 2
      ∧ (txCh t n c).wakeAt = s.now + 5000 ∧ sameRegs
      [F.PWR_STATUS_BUDGET_WAIT.part [], F.PWR_STATUS_RAMP_WAIT.part [], { reg := .PWR_GRANTS, idx := [] }, F.TXC_STATUS_PWR.part [n, c]] s t ∧
      sameBytes s t) ∧
  (∀ (s : State) (r : PwrRequester) (k : Nat), s.pwr.evalAt ≠ s.now + 1 → s.pwr.queue = [(r, k)] → k < s.now → s.fld F.PWR_BASE_MW_MW + classCost s r.cls
      ≤ s.fld F.PWR_BUDGET_MW_MW → (budgetOk s (classCost s r.cls) && rampOk s (classCost s r.cls)) = false → ∃ t, exec .admissionGrant s = .next t ∧
      t.pwr.queue = s.pwr.queue ∧ t.pwr.granted = s.pwr.granted ∧ t.flag F.PWR_STATUS_BUDGET_WAIT = !budgetOk s (classCost s r.cls) ∧ t.flag
      F.PWR_STATUS_RAMP_WAIT = !rampOk s (classCost s r.cls) ∧ t.rd .PWR_WAIT_BEATS = satCount (s.rd .PWR_WAIT_BEATS) 1 ∧ sameRegs
      [F.PWR_STATUS_BUDGET_WAIT.part [], F.PWR_STATUS_RAMP_WAIT.part [], { reg := .PWR_WAIT_BEATS, idx := [] }] s t ∧ sameBytes s t) ∧
  (∀ (s : State) (r : PwrRequester) (k : Nat), s.pwr.evalAt ≠ s.now + 1 → s.pwr.queue = [(r, k)] → s.fld F.PWR_BUDGET_MW_MW < s.fld F.PWR_BASE_MW_MW +
      classCost s r.cls → r.cls = 1 → ∃ t, exec .admissionGrant s = .next t ∧ t.pwr.queue = [] ∧ t.pwr.granted = s.pwr.granted ∧ t.flag
      F.PWR_STATUS_REFUSED = true ∧ t.fld F.PWR_LAST_REFUSED_CLASS = 1 ∧ t.fld F.PWR_LAST_REFUSED_INDEX = r.index % 2 ^ F.PWR_LAST_REFUSED_INDEX.width ∧
      t.fld F.TXC_STATUS_PWR (r.index / 4 % 16) (r.index % 4) = 0 ∧ sameRegs
      [F.PWR_STATUS_BUDGET_WAIT.part [], F.PWR_STATUS_RAMP_WAIT.part [], F.PWR_STATUS_REFUSED.part [], { reg := .PWR_LAST_REFUSED, idx := [] }, F.TXC_STATUS_PWR.part [r.index / 4 % 16, r.index % 4]]
      s t ∧ sameBytes s t) ∧
  (∀ (s : State) (v : BitVec 32), v.toNat % 2 ^ 18 ≤ 190000 → ∃ t, exec (.budgetWrite v) s = .next t ∧ t.fld F.PWR_BUDGET_MW_MW = v.toNat % 2 ^ 18 ∧
      sameRegs [F.PWR_BUDGET_MW_MW.part []] s t ∧ sameBytes s t) ∧
  (∀ (s : State) (v : BitVec 32), 190000 < v.toNat % 2 ^ 18 → ∃ t, exec (.budgetWrite v) s = .next t ∧ t.fld F.PWR_BUDGET_MW_MW = 190000 ∧ t.flag
      F.PWR_STATUS_CLAMP = true ∧ sameRegs [F.PWR_BUDGET_MW_MW.part [], F.PWR_STATUS_CLAMP.part []] s t ∧ sameBytes s t) ∧
  (∀ (s : State) (mw : Nat), ∃ t, exec (.pwrMeasBlock mw) s = .next t ∧ t.fld F.PWR_MEAS_MW_MW = min mw (2 ^ 18 - 1) ∧ (190000 < mw → t.flag
      F.PWR_STATUS_OVER = true ∧ { pair := { src := Src.PWR_OVER, scope := Scope.device, index := 0 }, injected := false, dry := false } ∈ t.flt.raised)
      ∧ (mw ≤ 190000 → t.flag F.PWR_STATUS_OVER = s.flag F.PWR_STATUS_OVER ∧ t.flt = s.flt) ∧ sameRegs
      [F.PWR_MEAS_MW_MW.part [], F.PWR_STATUS_OVER.part []] s t ∧ sameBytes s t) ∧
  (∀ (s : State) (x : Fin 64), s.replayMuted = false → (txThresholdMs s x < txSumMs s (⟨x.val / 4, by omega⟩ : Fin 16) (⟨x.val % 4, by omega⟩ : Fin 4) ∨
      txThresholdS s x < txSumS s (⟨x.val / 4, by omega⟩ : Fin 16) (⟨x.val % 4, by omega⟩ : Fin 4)) → s.flag F.NRG_TX_STATUS_TRIP x = false → ∃ t, exec
      (.txGovTrip x) s = .next t ∧ t.flag F.NRG_TX_STATUS_TRIP x = true ∧ t.flag F.NRG_TX_STATUS_WIN_MS x = decide (txThresholdMs s x < txSumMs s
      (⟨x.val / 4, by omega⟩ : Fin 16) (⟨x.val % 4, by omega⟩ : Fin 4)) ∧ t.flag F.NRG_TX_STATUS_WIN_S x = decide (txThresholdS s x < txSumS s
      (⟨x.val / 4, by omega⟩ : Fin 16) (⟨x.val % 4, by omega⟩ : Fin 4)) ∧ t.flag F.TXC_STATUS_MUTE_GOV (⟨x.val / 4, by omega⟩ : Fin 16)
      (⟨x.val % 4, by omega⟩ : Fin 4) = true ∧ t.flag F.TXC_STATUS_MUTED (⟨x.val / 4, by omega⟩ : Fin 16) (⟨x.val % 4, by omega⟩ : Fin 4) = true ∧
      { pair := { src := Src.NRG_TRIP, scope := x.val / 4, index := 4 * x.val }, injected := false, dry := false } ∈ t.flt.raised ∧ t.rd .NRG_TX_TRIPS x
      = satCount (s.rd .NRG_TX_TRIPS x) 1 ∧ sameRegs
      [{ reg := .NRG_TX_STATUS, idx := [x] }, F.TXC_STATUS_MUTE_GOV.part [x.val / 4, x.val % 4], F.TXC_STATUS_MUTED.part [x.val / 4, x.val % 4], { reg := .TXC_MUTE_CNT, idx := [x.val / 4, x.val % 4] }, { reg := .NRG_TX_TRIPS, idx := [x] }]
      s t ∧ sameBytes s t) ∧
  (∀ (s : State) (x : Fin 64), ¬(txThresholdMs s x < txSumMs s (⟨x.val / 4, by omega⟩ : Fin 16) (⟨x.val % 4, by omega⟩ : Fin 4) ∨ txThresholdS s x <
      txSumS s (⟨x.val / 4, by omega⟩ : Fin 16) (⟨x.val % 4, by omega⟩ : Fin 4)) ∨ s.replayMuted = true → exec (.txGovTrip x) s = .next (s)) ∧
  (∀ (s : State) (x : Fin 128), s.replayMuted = false → ffThreshold (s.fld F.NRG_FF_LIM_LIM x) < ffSum s (⟨x.val / 8, by omega⟩ : Fin 16)
      (⟨x.val % 8, by omega⟩ : Fin 8) → s.flag F.NRG_FF_STATUS_TRIP x = false → ∃ t, exec (.ffGovTrip x) s = .next t ∧ t.flag F.NRG_FF_STATUS_TRIP x =
      true ∧ t.flag F.FF_STATUS_GOV (⟨x.val / 8, by omega⟩ : Fin 16) (⟨x.val % 8, by omega⟩ : Fin 8) = true ∧ (ffStateOf s (⟨x.val / 8, by omega⟩ : Fin
      16) (⟨x.val % 8, by omega⟩ : Fin 8) = 1 ∨ ffStateOf s (⟨x.val / 8, by omega⟩ : Fin 16) (⟨x.val % 8, by omega⟩ : Fin 8) = 2 → (ffCh t
      (⟨x.val / 8, by omega⟩ : Fin 16) (⟨x.val % 8, by omega⟩ : Fin 8)).code = 0) ∧
      { pair := { src := Src.NRG_TRIP, scope := x.val / 8, index := 1 + 4 * x.val }, injected := false, dry := false } ∈ t.flt.raised ∧ t.rd
      .NRG_FF_TRIPS x = satCount (s.rd .NRG_FF_TRIPS x) 1 ∧ sameRegs
      [{ reg := .NRG_FF_STATUS, idx := [x] }, F.FF_STATUS_GOV.part [x.val / 8, x.val % 8], F.FF_STATUS_STATE.part [x.val / 8, x.val % 8], F.FF_CODE_HELD.part [x.val / 8, x.val % 8], F.FF_CODE_CODE.part [x.val / 8, x.val % 8], { reg := .NRG_FF_TRIPS, idx := [x] }]
      s t ∧ sameBytes s t) ∧
  (∀ (s : State) (x : Fin 128), ffSum s (⟨x.val / 8, by omega⟩ : Fin 16) (⟨x.val % 8, by omega⟩ : Fin 8) ≤ ffThreshold (s.fld F.NRG_FF_LIM_LIM x) ∨
      s.replayMuted = true → exec (.ffGovTrip x) s = .next (s)) ∧
  (∀ (s : State) (g : Fin 512) (ua nj : Nat), s.replayMuted = false → s.flag F.PIN_STATUS_GUARDED (⟨g.val / 32, by omega⟩ : Fin 16) (g.val % 32) = true →
      clampNat 1 200 (s.fld F.NRG_PIN_CFG_IMAX g) * 10 < ua ∨ clampNat 1 1000 (s.fld F.NRG_PIN_CFG_ELIM g) < nj → s.flag F.NRG_PIN_STATUS_TRIP g = false
      → ∃ t, exec (.pinGovTrip g ua nj) s = .next t ∧ t.flag F.NRG_PIN_STATUS_TRIP g = true ∧ t.flag F.NRG_PIN_STATUS_CAUSE_I g = decide (clampNat 1 200
      (s.fld F.NRG_PIN_CFG_IMAX g) * 10 < ua) ∧ t.flag F.NRG_PIN_STATUS_CAUSE_E g = decide (clampNat 1 1000 (s.fld F.NRG_PIN_CFG_ELIM g) < nj) ∧ t.fld
      F.NRG_PIN_ENERGY_NJ g = min nj 65535 ∧ t.flag F.PIN_STATUS_PMU_CONN (⟨g.val / 32, by omega⟩ : Fin 16) (g.val % 32) = false ∧
      { pair := { src := Src.NRG_TRIP, scope := g.val / 32, index := 2 + 4 * g.val }, injected := false, dry := false } ∈ t.flt.raised ∧ sameRegs
      [{ reg := .NRG_PIN_STATUS, idx := [g] }, { reg := .NRG_PIN_ENERGY, idx := [g] }, F.PIN_STATUS_PMU_CONN.part [g.val / 32, g.val % 32]] s t ∧
      sameBytes s t) ∧
  (∀ (s : State) (g : Fin 512) (ua nj : Nat), s.replayMuted = false → s.flag F.PIN_STATUS_GUARDED (⟨g.val / 32, by omega⟩ : Fin 16) (g.val % 32) = true →
      ¬(clampNat 1 200 (s.fld F.NRG_PIN_CFG_IMAX g) * 10 < ua ∨ clampNat 1 1000 (s.fld F.NRG_PIN_CFG_ELIM g) < nj) → ∃ t, exec (.pinGovTrip g ua nj) s =
      .next t ∧ t.fld F.NRG_PIN_ENERGY_NJ g = min nj 65535 ∧ sameRegs [{ reg := .NRG_PIN_ENERGY, idx := [g] }] s t ∧ sameBytes s t) ∧
  (∀ (s : State) (x : Fin 64), s.flag F.NRG_TX_STATUS_TRIP x = true → txSumMs s (⟨x.val / 4, by omega⟩ : Fin 16) (⟨x.val % 4, by omega⟩ : Fin 4) * 256 ≤
      txThresholdMs s x * (max 1 (s.fld F.NRG_TX_CFG_REARM x)) ∧ txSumS s (⟨x.val / 4, by omega⟩ : Fin 16) (⟨x.val % 4, by omega⟩ : Fin 4) * 256 ≤
      txThresholdS s x * (max 1 (s.fld F.NRG_TX_CFG_REARM x)) → ∃ t, exec (.govRearm (.tx x)) s = .next t ∧ t.flag F.NRG_TX_STATUS_TRIP x = false ∧
      t.flag F.TXC_STATUS_MUTE_GOV (⟨x.val / 4, by omega⟩ : Fin 16) (⟨x.val % 4, by omega⟩ : Fin 4) = false ∧ sameRegs
      [{ reg := .NRG_TX_STATUS, idx := [x] }, F.TXC_STATUS_MUTE_GOV.part [x.val / 4, x.val % 4], F.TXC_STATUS_MUTED.part [x.val / 4, x.val % 4], { reg := .TXC_MUTE_CNT, idx := [x.val / 4, x.val % 4] }]
      s t ∧ sameBytes s t) ∧
  (∀ (s : State) (x : Fin 64), s.flag F.NRG_TX_STATUS_TRIP x = true → ¬(txSumMs s (⟨x.val / 4, by omega⟩ : Fin 16) (⟨x.val % 4, by omega⟩ : Fin 4) * 256
      ≤ txThresholdMs s x * (max 1 (s.fld F.NRG_TX_CFG_REARM x)) ∧ txSumS s (⟨x.val / 4, by omega⟩ : Fin 16) (⟨x.val % 4, by omega⟩ : Fin 4) * 256 ≤
      txThresholdS s x * (max 1 (s.fld F.NRG_TX_CFG_REARM x))) → ∃ t, exec (.govRearm (.tx x)) s = .next t ∧ t.flag F.NRG_TX_STATUS_TRIP x = true ∧
      t.flag F.NRG_TX_STATUS_REARM_REFUSED x = true ∧ sameRegs [F.NRG_TX_STATUS_REARM_REFUSED.part [x]] s t ∧ sameBytes s t) ∧
  (∀ (s : State) (x : Fin 128), s.flag F.NRG_FF_STATUS_TRIP x = true → ffSum s (⟨x.val / 8, by omega⟩ : Fin 16) (⟨x.val % 8, by omega⟩ : Fin 8) * 256 ^ 2
      ≤ ffThreshold (s.fld F.NRG_FF_LIM_LIM x * (max 1 (s.fld F.NRG_FF_CFG_REARM x))) → ∃ t, exec (.govRearm (.ff x)) s = .next t ∧ t.flag
      F.NRG_FF_STATUS_TRIP x = false ∧ t.flag F.FF_STATUS_GOV (⟨x.val / 8, by omega⟩ : Fin 16) (⟨x.val % 8, by omega⟩ : Fin 8) = false ∧ sameRegs
      [{ reg := .NRG_FF_STATUS, idx := [x] }, F.FF_STATUS_GOV.part [x.val / 8, x.val % 8], F.FF_STATUS_STATE.part [x.val / 8, x.val % 8], F.FF_CODE_HELD.part [x.val / 8, x.val % 8], F.FF_CODE_CODE.part [x.val / 8, x.val % 8]]
      s t ∧ sameBytes s t) ∧
  (∀ (s : State) (x : Fin 128), s.flag F.NRG_FF_STATUS_TRIP x = true → ¬(ffSum s (⟨x.val / 8, by omega⟩ : Fin 16) (⟨x.val % 8, by omega⟩ : Fin 8) * 256 ^
      2 ≤ ffThreshold (s.fld F.NRG_FF_LIM_LIM x * (max 1 (s.fld F.NRG_FF_CFG_REARM x)))) → ∃ t, exec (.govRearm (.ff x)) s = .next t ∧ t.flag
      F.NRG_FF_STATUS_TRIP x = true ∧ t.flag F.NRG_FF_STATUS_REARM_REFUSED x = true ∧ sameRegs [F.NRG_FF_STATUS_REARM_REFUSED.part [x]] s t ∧ sameBytes
      s t) ∧
  (∀ (s : State) (g : Fin 512), ∃ t, exec (.govRearm (.pin g)) s = .next t ∧ t.flag F.NRG_PIN_STATUS_TRIP g = false ∧ sameRegs
      [F.NRG_PIN_STATUS_TRIP.part [g]] s t ∧ sameBytes s t)

/-- A complete block clears DITHER_NEED where its test passes and sets it where it fails; one that displaces a block sets BLOCK_MISS. A
dither step starts where the converter is quiet in a gap that it fits, and a whole step counts in its block, one that is cut does not.
STAGE and STAGE_AT make a switch pending; CANCEL ends it. In a gap, or at its beat, the staged words become the active set, with its
source, an age of 0 and the beat. Every 1 ms the ages count. -/
def Obligations.CalibrationSets : Prop :=
  (∀ (s : State) (i : Fin 369) (taken : Bool), (convKind i).live = true → convActive s i = true → ∃ t, exec (.calBlockComplete i true taken) s = .next t
      ∧ t.flag F.CAL_CONV_STATUS_DITHER_NEED i = false ∧ (calConv t i).block = true ∧ t.flag F.CAL_STATUS_BLOCK_MISS = (s.flag F.CAL_STATUS_BLOCK_MISS
      || ((calConv s i).block && (!taken || calShed s))) ∧ sameRegs [F.CAL_CONV_STATUS_DITHER_NEED.part [i], F.CAL_STATUS_BLOCK_MISS.part []] s t ∧
      sameBytes s t) ∧
  (∀ (s : State) (i : Fin 369) (taken : Bool), (convKind i).live = true → convActive s i = true → convKind i ≠ .central → ∃ t, exec (.calBlockComplete i
      false taken) s = .next t ∧ t.flag F.CAL_CONV_STATUS_DITHER_NEED i = true ∧ t.cal = s.cal ∧ sameRegs [F.CAL_CONV_STATUS_DITHER_NEED.part [i]] s t ∧
      sameBytes s t) ∧
  (∀ (s : State) (i : Fin 369) (first : Nat) (stop : Option Nat), convGap s i = some (first, stop) → s.flag F.CAL_CFG_ENABLE = true → calShed s = false →
      ditherWanted s i = true → convPowered s i = true → (calConv s i).step = none → first + 2 ≤ s.now → (stop.all fun e => decide (s.now + (convKind
      i).stepBeats ≤ e)) = true → convQuiet s i = true → ∃ t, exec (.calDitherStep i) s = .next t ∧ (calConv t i).step = some s.now ∧ (calConv t
      i).steps = (calConv s i).steps ∧ t.flag F.CAL_CONV_STATUS_TESTING i = true ∧ sameRegs [F.CAL_CONV_STATUS_TESTING.part [i]] s t ∧ sameBytes s t) ∧
  (∀ (s : State) (i : Fin 369) (hits k : Nat), (calConv s i).step = some k → k + (convKind i).stepBeats ≤ s.now → ∃ t, exec (.calDitherStepEnd i hits) s
      = .next t ∧ (calConv t i).step = none ∧ t.flag F.CAL_CONV_STATUS_TESTING i = false ∧ (calConv t i).steps = (if (convKind i).blockSteps ≤ (calConv
      s i).steps + (if convKind i = .central ∨ (14 ≤ i.val % 23 ∧ i.val % 23 ≤ 21) then hits else 1) then 0 else (calConv s i).steps + (if convKind i =
      .central ∨ (14 ≤ i.val % 23 ∧ i.val % 23 ≤ 21) then hits else 1)) ∧ (calConv t i).block = ((calConv s i).block || decide ((convKind i).blockSteps
      ≤ (calConv s i).steps + (if convKind i = .central ∨ (14 ≤ i.val % 23 ∧ i.val % 23 ≤ 21) then hits else 1))) ∧ sameRegs
      [F.CAL_CONV_STATUS_TESTING.part [i], F.CAL_STATUS_BLOCK_MISS.part []] s t ∧ sameBytes s t) ∧
  (∀ (s : State) (i : Fin 369) (hits k : Nat), (calConv s i).step = some k → s.now < k + (convKind i).stepBeats → ditherHolds s i = false → ∃ t, exec
      (.calDitherStepEnd i hits) s = .next t ∧ (calConv t i).step = none ∧ (calConv t i).steps = (calConv s i).steps ∧ t.flag F.CAL_CONV_STATUS_TESTING
      i = false ∧ sameRegs [F.CAL_CONV_STATUS_TESTING.part [i]] s t ∧ sameBytes s t) ∧
  (∀ (s : State) (i : Fin 369) (path : Path), s.flag F.CAL_CONV_STATUS_PEND i = false → ∃ t, exec (.stage path i) s = .next t ∧ t.flag
      F.CAL_CONV_STATUS_PEND i = true ∧ (calConv t i).pendSrc = (if path = .management then 4 else 5) ∧ t.cal.sets = s.cal.sets ∧ sameRegs
      [F.CAL_CONV_STATUS_PEND.part [i]] s t ∧ sameBytes s t) ∧
  (∀ (s : State) (i : Fin 369) (path : Path) (cmd : Instr), cmd ∈ [Instr.stage path i, .stageAt path i] → s.flag F.CAL_CONV_STATUS_PEND i = true → ∃ t,
      exec cmd s = .next t ∧ t.flag F.CAL_CONV_STATUS_STAGE_IGN i = true ∧ t.cal = s.cal ∧ sameRegs [F.CAL_CONV_STATUS_STAGE_IGN.part [i]] s t ∧
      sameBytes s t) ∧
  (∀ (s : State) (i : Fin 369) (path : Path), s.flag F.CAL_CONV_STATUS_PEND i = false → s.beat ≤ s.pair .CAL_APPLY_AT_LO .CAL_APPLY_AT_HI → ∃ t, exec
      (.stageAt path i) s = .next t ∧ t.flag F.CAL_CONV_STATUS_PEND i = true ∧ t.flag F.CAL_CONV_STATUS_PEND_AT i = true ∧ (calConv t i).pendSrc = (if
      path = .management then 4 else 5) ∧ (calConv t i).pendTick = s.now + (s.pair .CAL_APPLY_AT_LO .CAL_APPLY_AT_HI - s.beat) ∧ t.cal.sets = s.cal.sets
      ∧ sameRegs [F.CAL_CONV_STATUS_PEND.part [i], F.CAL_CONV_STATUS_PEND_AT.part [i]] s t ∧ sameBytes s t) ∧
  (∀ (s : State) (i : Fin 369) (path : Path), s.flag F.CAL_CONV_STATUS_PEND i = false → s.pair .CAL_APPLY_AT_LO .CAL_APPLY_AT_HI < s.beat → namedBarred s
      i = false → s.rpl.replaying = false → convKind i ≠ .mad → ∃ t, exec (.stageAt path i) s = .next t ∧ t.flag F.CAL_CONV_STATUS_LATE i = true ∧ t.fld
      F.CAL_CONV_STATUS_SRC i = (if path = .management then 4 else 5) ∧ t.flag F.CAL_CONV_STATUS_PEND i = false ∧ (∀ w, w < (convKind i).words →
      activeWord t i w = if (convKind i).reserved w then 0 else stagedWord s i w % 2 ^ 32) ∧ (∀ (j : Fin 369) w, j ≠ i → w < 128 → activeWord t j w =
      activeWord s j w) ∧ sameRegs [{ reg := .CAL_CONV_STATUS, idx := [i] }, { reg := .CAL_AGE, idx := [i] }, { reg := .CAL_APPLIED, idx := [i] }] s t ∧
      sameBytes s t) ∧
  (∀ (s : State) (i : Fin 369), ∃ t, exec (.cancel i) s = .next t ∧ t.flag F.CAL_CONV_STATUS_PEND i = false ∧ t.flag F.CAL_CONV_STATUS_PEND_AT i = false
      ∧ t.cal = s.cal ∧ sameRegs [F.CAL_CONV_STATUS_PEND.part [i], F.CAL_CONV_STATUS_PEND_AT.part [i]] s t ∧ sameBytes s t) ∧
  (∀ (s : State) (i : Fin 369), convKind i ≠ .mad → s.flag F.CAL_CONV_STATUS_PEND i = true → s.flag F.CAL_CONV_STATUS_PEND_AT i = false → gapApplyOk s i
      = true → s.rpl.replaying = false → ∃ t, exec (.calGapApply i) s = .next t ∧ t.flag F.CAL_CONV_STATUS_PEND i = false ∧ t.flag
      F.CAL_CONV_STATUS_PEND_AT i = false ∧ t.fld F.CAL_CONV_STATUS_SRC i = (calConv s i).pendSrc % 2 ^ F.CAL_CONV_STATUS_SRC.width ∧ t.rd .CAL_AGE i =
      0 ∧ t.rd .CAL_APPLIED i = BitVec.ofNat 32 s.beat ∧ (∀ w, w < (convKind i).words → activeWord t i w = if (convKind i).reserved w then 0 else
      stagedWord s i w % 2 ^ 32) ∧ (∀ (j : Fin 369) w, j ≠ i → w < 128 → activeWord t j w = activeWord s j w) ∧ sameRegs
      [{ reg := .CAL_CONV_STATUS, idx := [i] }, { reg := .CAL_AGE, idx := [i] }, { reg := .CAL_APPLIED, idx := [i] }] s t ∧ sameBytes s t) ∧
  (∀ (s : State) (i : Fin 369), convKind i = .mad → (s.sl (convSlice i)).mad.applyfAt ≠ some s.now → s.flag F.CAL_CONV_STATUS_PEND i = true → s.flag
      F.CAL_CONV_STATUS_PEND_AT i = false → gapApplyOk s i = true → s.rpl.replaying = false → ∃ t, exec (.calGapApply i) s = .next t ∧ t.flag
      F.CAL_CONV_STATUS_PEND i = false ∧ t.flag F.CAL_CONV_STATUS_PEND_AT i = false ∧ t.fld F.CAL_CONV_STATUS_SRC i = (calConv s i).pendSrc % 2 ^
      F.CAL_CONV_STATUS_SRC.width ∧ t.rd .CAL_AGE i = 0 ∧ t.rd .CAL_APPLIED i = BitVec.ofNat 32 s.beat ∧ (∀ w, w < 10 → t.rd .MAD_SCF (convSlice i) w =
      BitVec.ofNat 32 (stagedWord s i w % 2 ^ 18)) ∧ sameRegs
      [{ reg := .CAL_CONV_STATUS, idx := [i] }, { reg := .CAL_AGE, idx := [i] }, { reg := .CAL_APPLIED, idx := [i] }, { reg := .MAD_SCF, idx := [(convSlice i).val] }]
      s t ∧ sameBytes s t) ∧
  (∀ (s : State) (i : Fin 369), convKind i ≠ .mad → s.flag F.CAL_CONV_STATUS_PEND_AT i = true → (calConv s i).pendTick ≤ s.now → namedBarred s i = false
      → s.rpl.replaying = false → ∃ t, exec (.calNamedApply i) s = .next t ∧ t.flag F.CAL_CONV_STATUS_PEND i = false ∧ t.flag F.CAL_CONV_STATUS_PEND_AT
      i = false ∧ t.fld F.CAL_CONV_STATUS_SRC i = (calConv s i).pendSrc % 2 ^ F.CAL_CONV_STATUS_SRC.width ∧ t.rd .CAL_AGE i = 0 ∧ t.rd .CAL_APPLIED i =
      BitVec.ofNat 32 s.beat ∧ (∀ w, w < (convKind i).words → activeWord t i w = if (convKind i).reserved w then 0 else stagedWord s i w % 2 ^ 32) ∧ (∀
      (j : Fin 369) w, j ≠ i → w < 128 → activeWord t j w = activeWord s j w) ∧ sameRegs
      [{ reg := .CAL_CONV_STATUS, idx := [i] }, { reg := .CAL_AGE, idx := [i] }, { reg := .CAL_APPLIED, idx := [i] }] s t ∧ sameBytes s t) ∧
  (∀ (s : State) (i : Fin 369), s.flag F.CAL_CONV_STATUS_PEND_AT i = false ∨ s.now < (calConv s i).pendTick → exec (.calNamedApply i) s = .next (s)) ∧
  (∀ (s : State), s.cal.agedAt + 250000 ≤ s.now → ∃ t, exec .calAgeTick s = .next t ∧ (∀ i : Fin 369, t.rd .CAL_AGE i = satCount (s.rd .CAL_AGE i) 1) ∧
      t.cal = { s.cal with agedAt := s.cal.agedAt + 250000 } ∧ (∀ i : Fin 369, s.fld F.CAL_CFG_STALE ≠ 0 ∧ s.fld F.CAL_CFG_STALE * 16 ≤ (t.rd .CAL_AGE
      i).toNat → t.flag F.CAL_CONV_STATUS_STALE i = true) ∧ sameRegs
      [{ reg := .CAL_AGE, idx := [] }, F.CAL_CONV_STATUS_STALE.part [], F.CAL_STATUS_STALE.part []] s t ∧ sameBytes s t) ∧
  (∀ (s : State), s.now < s.cal.agedAt + 250000 → exec .calAgeTick s = .next (s))

/-- FG_START of a slice that may calibrate asks for power, else it fails with result 3. ABORT ends a run with result 4. A run that is
disturbed ends with result 2; 5,000,000 beats after its grant it ends with result 5 where it finds no sets, else its sets switch with
source FOREGROUND and result 0. SAVE and a periodic save name the kinds to be saved. Each record is written to both copies of its next
slot of the flash and nowhere else; a copy that fails stops the save. -/
def Obligations.ForegroundAndVault : Prop :=
  (∀ (s : State) (n : Fin 16), fgAllowed s n = true → ∃ t, exec (.fgStart n) s = .next t ∧ t.fld F.CAL_FG_STATUS_STATE n = 1 ∧ sameRegs
      [F.CAL_FG_STATUS_STATE.part [n], F.PWR_QSTATUS_PEAK.part []] s t ∧ sameBytes s t) ∧
  (∀ (s : State) (n : Fin 16), fgAllowed s n = false → ∃ t, exec (.fgStart n) s = .next t ∧ t.fld F.CAL_FG_STATUS_RESULT n = 3 ∧ t.flag
      F.CAL_FG_STATUS_FAIL n = true ∧ t.fld F.CAL_FG_STATUS_STATE n = s.fld F.CAL_FG_STATUS_STATE n ∧ sameRegs
      [F.CAL_FG_STATUS_RESULT.part [n], F.CAL_FG_STATUS_FAIL.part [n]] s t ∧ sameBytes s t) ∧
  (∀ (s : State) (n : Fin 16), s.fld F.CAL_FG_STATUS_STATE n ≠ 0 → ∃ t, exec (.fgAbort n) s = .next t ∧ t.fld F.CAL_FG_STATUS_STATE n = 0 ∧ t.fld
      F.CAL_FG_STATUS_RESULT n = 4 ∧ t.flag F.CAL_FG_STATUS_FAIL n = true ∧ t.cal = s.cal ∧ sameRegs [{ reg := .CAL_FG_STATUS, idx := [n] }] s t ∧
      sameBytes s t) ∧
  (∀ (s : State) (n : Fin 16) (sets : Option (List (List (BitVec 32)))), s.fld F.CAL_FG_STATUS_STATE n ≠ 0 → fgDisturbed s n = true → ∃ t, exec (.fgEnd n
      sets) s = .next t ∧ t.fld F.CAL_FG_STATUS_STATE n = 0 ∧ t.fld F.CAL_FG_STATUS_RESULT n = 2 ∧ t.flag F.CAL_FG_STATUS_FAIL n = true ∧ t.cal = s.cal
      ∧ sameRegs [{ reg := .CAL_FG_STATUS, idx := [n] }] s t ∧ sameBytes s t) ∧
  (∀ (s : State) (n : Fin 16), s.fld F.CAL_FG_STATUS_STATE n = 2 → fgDisturbed s n = false → s.cal.fgStart.get n + 5000000 ≤ s.now → ∃ t, exec (.fgEnd n
      none) s = .next t ∧ t.fld F.CAL_FG_STATUS_STATE n = 0 ∧ t.fld F.CAL_FG_STATUS_RESULT n = 5 ∧ t.flag F.CAL_FG_STATUS_FAIL n = true ∧ t.cal = s.cal
      ∧ sameRegs [{ reg := .CAL_FG_STATUS, idx := [n] }] s t ∧ sameBytes s t) ∧
  (∀ (s : State) (n : Fin 16) (l : List (List (BitVec 32))), s.fld F.CAL_FG_STATUS_STATE n = 2 → fgDisturbed s n = false → s.cal.fgStart.get n + 5000000
      ≤ s.now → ∃ t, exec (.fgEnd n (some l)) s = .next t ∧ t.fld F.CAL_FG_STATUS_STATE n = 0 ∧ t.fld F.CAL_FG_STATUS_RESULT n = 0 ∧ t.flag
      F.CAL_FG_STATUS_DONE n = true ∧ (∀ i : Fin 369, i.val ≠ 368 ∧ i.val / 23 = n.val → t.fld F.CAL_CONV_STATUS_SRC i = 3 ∧ t.rd .CAL_AGE i = 0 ∧
      t.flag F.CAL_CONV_STATUS_DITHER_NEED i = false) ∧ sameRegs ([{ reg := .CAL_FG_STATUS, idx := [n] }, { reg := .MAD_SCF, idx := [n] }] ++
      globalParts [.CAL_CONV_STATUS, .CAL_AGE, .CAL_APPLIED]) s t ∧ sameBytes s t) ∧
  (∀ (s : State), ∃ t, exec .save s = .next t ∧ (∀ k, k < 17 → k ∈ t.cal.saving) ∧ t.flag F.CAL_VAULT_STATUS_BUSY = true ∧ t.cal =
      { s.cal with saving := t.cal.saving } ∧ sameRegs [F.CAL_VAULT_STATUS_BUSY.part []] s t ∧ sameBytes s t) ∧
  (∀ (s : State) (k : Fin 17), calShed s = false → s.cal.savedAt.get k = 0 ∨ s.cal.savedAt.get k + max 1 (s.fld F.CAL_CFG_SAVE_MIN) * 15000000000 ≤ s.now
      → ∃ t, exec (.periodicVaultSave k) s = .next t ∧ k.val ∈ t.cal.saving ∧ t.flag F.CAL_VAULT_STATUS_BUSY = true ∧ sameRegs
      [F.CAL_VAULT_STATUS_BUSY.part []] s t ∧ sameBytes s t) ∧
  (∀ (s : State) (k : Fin 17), calShed s = true ∨ (s.cal.savedAt.get k ≠ 0 ∧ s.now < s.cal.savedAt.get k + max 1 (s.fld F.CAL_CFG_SAVE_MIN) *
      15000000000) → exec (.periodicVaultSave k) s = .next (s)) ∧
  (∀ (s : State) (k : Nat) (rest : List Nat), s.cal.saving = k :: rest → k ≤ 16 → calShed s = false → s.boot.op = none → ∃ t, exec (.vaultSaveEnd true
      true) s = .next t ∧ flashRead t.boot (vaultSlot 0 k (((s.cal.seq.toList.getD k 0 + 1) % 2 ^ 32) % 4)) (vaultRecord s k ((s.cal.seq.toList.getD k 0
      + 1) % 2 ^ 32)).length = (vaultRecord s k ((s.cal.seq.toList.getD k 0 + 1) % 2 ^ 32)) ∧ flashRead t.boot (vaultSlot 1 k (((s.cal.seq.toList.getD k
      0 + 1) % 2 ^ 32) % 4)) (vaultRecord s k ((s.cal.seq.toList.getD k 0 + 1) % 2 ^ 32)).length = (vaultRecord s k ((s.cal.seq.toList.getD k 0 + 1) % 2
      ^ 32)) ∧ (∀ a, ¬((vaultSlot 0 k (((s.cal.seq.toList.getD k 0 + 1) % 2 ^ 32) % 4)) ≤ a ∧ a < (vaultSlot 0 k (((s.cal.seq.toList.getD k 0 + 1) % 2 ^
      32) % 4)) + 0x4000) ∧ ¬((vaultSlot 1 k (((s.cal.seq.toList.getD k 0 + 1) % 2 ^ 32) % 4)) ≤ a ∧ a < (vaultSlot 1 k (((s.cal.seq.toList.getD k 0 +
      1) % 2 ^ 32) % 4)) + 0x4000) → flashByte t.boot a = flashByte s.boot a) ∧ t.cal.saving = rest ∧ t.fld F.CAL_VAULT_STATUS_KIND = k ∧
      t.cal.seq.toList.getD k 0 = ((s.cal.seq.toList.getD k 0 + 1) % 2 ^ 32) ∧ t.flag F.CAL_VAULT_STATUS_BUSY = (if rest.isEmpty then false else s.flag
      F.CAL_VAULT_STATUS_BUSY) ∧ (rest = [] → t.flag F.CAL_VAULT_STATUS_DONE = true) ∧ sameRegs [{ reg := .CAL_VAULT_STATUS, idx := [] }] s t ∧
      sameBytes s t) ∧
  (∀ (s : State) (k : Nat) (rest : List Nat), s.cal.saving = k :: rest → k ≤ 16 → calShed s = false → s.boot.op = none → ∃ t, exec (.vaultSaveEnd false
      true) s = .next t ∧ flashRead t.boot (vaultSlot 0 k (((s.cal.seq.toList.getD k 0 + 1) % 2 ^ 32) % 4)) (vaultRecord s k ((s.cal.seq.toList.getD k 0
      + 1) % 2 ^ 32)).length = (vaultRecord s k ((s.cal.seq.toList.getD k 0 + 1) % 2 ^ 32)) ∧ t.cal.saving = [] ∧ t.flag F.CAL_VAULT_STATUS_FAIL = true
      ∧ t.flag F.CAL_STATUS_VAULT_ERR = true ∧ t.flag F.CAL_VAULT_STATUS_BUSY = false ∧ sameRegs
      [{ reg := .CAL_VAULT_STATUS, idx := [] }, F.CAL_STATUS_VAULT_ERR.part []] s t ∧ sameBytes s t)

/-- A pair that newly stands in fault is reported once: its source and its class count, the class is pending at the level of the source, a
log record takes the next place with the beat, and the pair stays listed until it is quiet. A pair that stands is not reported again. An
injected report says so. ACK of a class clears what is pending of it. SAFE raises HOST_SAFE. A die link that is sound again leaves the
list. INJECT of a defined source holds the injection, another is refused. -/
def Obligations.FaultReports : Prop :=
  (∀ (s : State) (p : FaultPair), s.flt.raised = [] → s.flt.inFault = [] → s.flt.broken = [] → s.flt.inject = none → s.flt.tests = [] → srcDefined s
      p.src = true → p.src < 256 → classPend s (srcClass p.src) = false → srcTest p.src = .none_ → s.flag F.FLT_CLASS_CFG_AUTO_ACK (srcClass p.src) =
      false → p.scope < 32 → s.fld F.FLT_SRC_CFG_LEVEL p.src = 1 → s.flag F.GLB_IMG_STATUS_BUSY = false → fltState s = 0 → ∃ t, exec (.faultReport [p]
      [] []) s = .next t ∧ t.flt.inFault = [p] ∧ t.rd .FLT_SRC_COUNT p.src = satCount (s.rd .FLT_SRC_COUNT p.src) 1 ∧ classPend t (srcClass p.src) =
      true ∧ t.fld F.FLT_CLASS_FIRST_SRC (srcClass p.src) = p.src ∧ t.fld F.FLT_CLASS_LAST_SRC (srcClass p.src) = p.src ∧ t.fld F.FLT_CLASS_COUNT
      (srcClass p.src) = 1 ∧ t.rd .FLT_LOG (s.fld F.FLT_LOG_WP_NEXT) 1 = BitVec.ofNat 32 p.index ∧ t.rd .FLT_LOG (s.fld F.FLT_LOG_WP_NEXT) 2 =
      BitVec.ofNat 32 s.beat ∧ t.rd .FLT_LOG (s.fld F.FLT_LOG_WP_NEXT) 3 = BitVec.ofNat 32 (s.beat / 2 ^ 32) ∧ bitsAt (t.rd .FLT_LOG (s.fld
      F.FLT_LOG_WP_NEXT) 0).toNat 0 8 = p.src ∧ bitsAt (t.rd .FLT_LOG (s.fld F.FLT_LOG_WP_NEXT) 0).toNat 8 3 = (srcClass p.src) ∧ bitsAt (t.rd .FLT_LOG
      (s.fld F.FLT_LOG_WP_NEXT) 0).toNat 11 2 = 1 ∧ bitsAt (t.rd .FLT_LOG (s.fld F.FLT_LOG_WP_NEXT) 0).toNat 16 5 = p.scope ∧ bitsAt (t.rd .FLT_LOG
      (s.fld F.FLT_LOG_WP_NEXT) 0).toNat 21 3 = 1 ∧ t.fld F.FLT_LOG_WP_NEXT = (s.fld F.FLT_LOG_WP_NEXT + 1) % 256 ∧ sameRegs
      ([{ reg := .FLT_SRC_COUNT, idx := [p.src] }, { reg := .FLT_CLASS, idx := [srcClass p.src] }, F.FLT_STATUS_PEND.part []] ++ globalParts
      [.FLT_LOG, .FLT_LOG_WP, .FLT_LOG_LOST] ++ eventParts) s t ∧ sameBytes s t) ∧
  (∀ (s : State) (p : FaultPair), p ∈ s.flt.inFault → p.src ≠ Src.DIE_LINK → s.flt.raised = [] → s.flt.inject = none → (∀ q, q ∈ s.flt.inFault → q.src ≠
      Src.DIE_LINK) → s.flt.broken = [] → ∃ t, exec (.faultReport [p] [] []) s = .next t ∧ t.flt = s.flt ∧ sameRegs [] s t ∧ sameBytes s t) ∧
  (∀ (s : State) (p : FaultPair), s.flt.inFault = [p] → p.src ≠ Src.DIE_LINK → s.flt.raised = [] → s.flt.inject = none → s.flt.broken = [] → ∃ t, exec
      (.faultReport [] [] [p]) s = .next t ∧ t.flt = { s.flt with inFault := [] } ∧ sameRegs [] s t ∧ sameBytes s t) ∧
  (∀ (s : State) (c : Fin 8), (∀ p : Fin 4, s.ktlState p ≠ 0) → ∃ t, exec (.fltAck (BitVec.ofNat 8 (2 ^ c.val))) s = .next t ∧ classPend t c = false ∧
      t.fld F.FLT_CLASS_HELD c = 0 ∧ t.fld F.FLT_CLASS_COUNT c = 0 ∧ (∀ r : Fin 256, bitsAt (s.rd .FLT_LOG r).toNat 0 8 ≠ 0 ∧ bitsAt (s.rd .FLT_LOG
      r).toNat 8 3 = c.val → (t.rd .FLT_LOG r).getLsbD 15 = true) ∧ t.flt.portHeld = s.flt.portHeld.filter (fun h => decide (h.2 ≠ c.val)) ∧ sameRegs
      [F.FLT_CLASS_PEND.part [c], F.FLT_CLASS_HELD.part [c], F.FLT_CLASS_COUNT.part [c], F.FLT_STATUS_PEND.part [], { reg := .FLT_LOG, idx := [] }] s t
      ∧ sameBytes s t) ∧
  (∀ (s : State), ∃ t, exec .safe s = .next t ∧ { pair := { src := Src.HOST_SAFE, scope := Scope.device, index := 0 }, injected := false, dry := false }
      ∈ t.flt.raised ∧ t.flt.inFault = s.flt.inFault ∧ sameRegs [] s t ∧ sameBytes s t) ∧
  (∀ (s : State), s.flag F.FLT_INJECT_BUSY = false → srcDefined s (s.fld F.FLT_INJECT_SOURCE) = true → s.fld F.FLT_INJECT_MODE ≠ 3 → ∃ t, exec .inject s
      = .next t ∧ t.flag F.FLT_INJECT_BUSY = true ∧ t.flt.inject = some
      { src := s.fld F.FLT_INJECT_SOURCE, index := s.fld F.FLT_INJECT_IDX_INDEX, mode := s.fld F.FLT_INJECT_MODE, dry := s.flag F.FLT_INJECT_DRY, until_ := s.now + max 1 (s.fld F.FLT_INJECT_BEATS) }
      ∧ sameRegs [F.FLT_INJECT_BUSY.part []] s t ∧ sameBytes s t) ∧
  (∀ (s : State), s.flag F.FLT_INJECT_BUSY = true ∨ srcDefined s (s.fld F.FLT_INJECT_SOURCE) = false ∨ s.fld F.FLT_INJECT_MODE = 3 → ∃ t, exec .inject s
      = .next t ∧ t.flag F.FLT_STATUS_INJ_REFUSED = true ∧ t.flt = s.flt ∧ sameRegs [F.FLT_STATUS_INJ_REFUSED.part []] s t ∧ sameBytes s t) ∧
  (∀ (s : State) (index : BitVec 3), ∃ t, exec (.dieLinkSound index) s = .next t ∧ t.flt =
      { s.flt with inFault := s.flt.inFault.filter (fun p => !(decide (p.src = Src.DIE_LINK) && decide (p.index = index.toNat))) } ∧ sameRegs [] s t ∧
      sameBytes s t)

/-- A test that is ready starts where nothing runs at its place, unless load is shed. A test that has run its time is recorded PASSED in its
log record and leaves the queue; one that waits too long is recorded NOT_RUN. SAFE is left once every test of the episode has its
result: to HELD where a device fault persists, to RECOVERING where recovery is asked for or automatic. RECOVER is kept while SAFE,
starts over from HELD, and is refused where the fault persists. -/
def Obligations.SelfTestsAndRecovery : Prop :=
  (∀ (s : State) (t0 : SelfTest), s.flt.tests = [t0] → t0.oldest.isSome = true → t0.started = none → s.flag F.MGT_STATUS_SHED = false → testReady s t0 =
      true → ∃ t, exec .selfTestStart s = .next t ∧ t.flt = { s.flt with tests := [{ t0 with started := some s.now }] } ∧ sameRegs [] s t ∧ sameBytes s
      t) ∧
  (∀ (s : State), s.flag F.MGT_STATUS_SHED = true ∨ s.flt.tests = [] → exec .selfTestStart s = .next (s)) ∧
  (∀ (s : State) (t0 : SelfTest) (k : Nat) (place : BitVec 5), s.flt.tests = [t0] → s.flag F.FLT_CLASS_CFG_AUTO_ACK (srcClass t0.pair.src) = false →
      t0.log < 256 → t0.started = some k → testPlace t0.pair.scope = place.toNat → k + (srcTest t0.pair.src).beats ≤ s.now → srcTest t0.pair.src ≠
      .refetch → srcTest t0.pair.src ≠ .march → ∃ t, exec (.selfTestResult place false) s = .next t ∧ t.flt.tests = [] ∧ bitsAt (t.rd .FLT_LOG
      t0.log).toNat 21 3 = 2 ∧ t.flt.inFault = s.flt.inFault ∧ sameRegs ([{ reg := .FLT_LOG, idx := [t0.log, 0] }] ++ eventParts) s t ∧ sameBytes s t) ∧
  (∀ (s : State) (t0 : SelfTest) (k : Nat) (place : BitVec 5), s.flt.tests = [t0] → s.flag F.FLT_CLASS_CFG_AUTO_ACK (srcClass t0.pair.src) = false →
      t0.log < 256 → t0.oldest = some k → t0.started = none → testPlace t0.pair.scope = place.toNat → k + max 1 (s.fld F.FLT_ST_WAIT_MS) * 250000 ≤
      s.now → s.fld F.FLT_SRC_CFG_PLEVEL t0.pair.src ≤ t0.level → fltState s = 0 → t0.episode = false → ∃ t, exec (.selfTestTimeout place) s = .next t ∧
      t.flt.tests = [] ∧ bitsAt (t.rd .FLT_LOG t0.log).toNat 21 3 = 5 ∧ sameRegs ([{ reg := .FLT_LOG, idx := [t0.log, 0] }] ++ eventParts) s t ∧
      sameBytes s t) ∧
  (∀ (s : State), fltState s = 1 → episodeTested s = true → s.flt.devicePersistent = true → ∃ t, exec .recoveryStart s = .next t ∧ fltState t = 3 ∧ t.flt
      = s.flt ∧ sameRegs [F.FLT_STATUS_STATE.part []] s t ∧ sameBytes s t) ∧
  (∀ (s : State), fltState s = 1 → episodeTested s = true → s.flt.devicePersistent = false → s.flag F.FLT_CFG_AUTO_RECOVER = true ∨ s.flt.recoverAsked =
      true → chnFollows s = false → ∃ t, exec .recoveryStart s = .next t ∧ fltState t = 2 ∧ t.flt.recoverAsked = false ∧ t.img.faulty = false ∧ sameRegs
      [F.FLT_STATUS_STATE.part []] s t ∧ sameBytes s t) ∧
  (∀ (s : State), fltState s ≠ 1 ∨ episodeTested s = false → exec .recoveryStart s = .next (s)) ∧
  (∀ (s : State), fltState s = 1 → ∃ t, exec .recover s = .next t ∧ t.flt = { s.flt with recoverAsked := true } ∧ sameRegs [] s t ∧ sameBytes s t) ∧
  (∀ (s : State), fltState s = 3 → episodeTested s = true → s.flt.devicePersistent = false → chnFollows s = false → ∃ t, exec .recover s = .next t ∧
      fltState t = 2 ∧ t.fld F.FLT_STATUS_RESTARTS = 0 ∧ sameRegs [F.FLT_STATUS_STATE.part [], F.FLT_STATUS_RESTARTS.part []] s t ∧ sameBytes s t) ∧
  (∀ (s : State), fltState s = 3 → episodeTested s = false ∨ s.flt.devicePersistent = true → ∃ t, exec .recover s = .next t ∧ fltState t = 3 ∧ t.flag
      F.FLT_STATUS_RECOVER_REFUSED = true ∧ t.flt = s.flt ∧ sameRegs [F.FLT_STATUS_RECOVER_REFUSED.part []] s t ∧ sameBytes s t)

/-- Setting EN opens the journal with an IMAGE record of every section and a SYNC record; clearing it closes it. FLUSH, or 256 beats, pad a
partial line. A write of RPL_RP takes a place within the ring. REPLAY is accepted only where everything stands still, and at its wheel
boundary the beat count restarts 4,096 beats before the anchor. Each record waits for its beat and then acts; one that comes late, an
empty ring and STOP end the replay with their causes, and every sequencer and streamer halts. -/
def Obligations.JournalAndReplay : Prop :=
  (∀ (s : State), s.rplState = 0 → s.rpl.buffer.length + 18 ≤ 4096 → ringRecords s < ringCap s - 8 → ∃ t, exec .journalEnable s = .next t ∧ t.rplState =
      1 ∧ t.flag F.RPL_CFG_EN = true ∧ t.rpl.buffer = s.rpl.buffer ++ (List.range 17).map (fun i =>
      { type := JType.IMAGE, src := 16, index := i, beat := s.beat, data := sectionSerial s i % 2 ^ 64 }) ++
      [{ type := JType.SYNC, src := 16, index := 0, beat := s.beat, data := s.beat % 2 ^ 64 }] ∧ t.rpl.fresh = [] ∧ t.rpl.runs = [] ∧ t.rpl.advances =
      [] ∧ sameRegs [F.RPL_CFG_EN.part [], F.RPL_STATUS_STATE.part []] s t ∧ sameBytes s t) ∧
  (∀ (s : State), s.rplState = 2 ∨ s.rplState = 3 → ∃ t, exec .journalEnable s = .next t ∧ t.flag F.RPL_STATUS_REFUSED = true ∧ t.rpl = s.rpl ∧ sameRegs
      [F.RPL_STATUS_REFUSED.part []] s t ∧ sameBytes s t) ∧
  (∀ (s : State), s.rplState = 1 → s.rpl.runs = [] → s.rpl.advances = [] → s.rpl.fresh = [] → ∃ t, exec .journalDisable s = .next t ∧ t.rplState = 0 ∧
      t.flag F.RPL_CFG_EN = false ∧ t.rpl.buffer = s.rpl.buffer ++ List.replicate ((8 - s.rpl.buffer.length % 8) % 8) padRecord ∧ sameRegs
      [F.RPL_CFG_EN.part [], F.RPL_STATUS_STATE.part []] s t ∧ sameBytes s t) ∧
  (∀ (s : State), s.rplState ≠ 1 → ∃ t, exec .journalDisable s = .next t ∧ t.flag F.RPL_CFG_EN = false ∧ t.rpl = s.rpl ∧ t.rplState = s.rplState ∧
      sameRegs [F.RPL_CFG_EN.part []] s t ∧ sameBytes s t) ∧
  (∀ (s : State), s.rpl.fresh = [] → s.rpl.buffer.length % 8 ≠ 0 → s.rpl.partialSince + 256 ≤ s.now → ∃ t, exec .journalPartialFlush s = .next t ∧
      t.rpl.buffer = s.rpl.buffer ++ List.replicate ((8 - s.rpl.buffer.length % 8) % 8) padRecord ∧ t.rpl.partialSince = s.rpl.partialSince ∧ sameRegs
      [] s t ∧ sameBytes s t) ∧
  (∀ (s : State), s.rpl.fresh = [] → s.rpl.buffer.length % 8 = 0 ∨ s.now < s.rpl.partialSince + 256 → exec .journalPartialFlush s = .next (s)) ∧
  (∀ (s : State), s.rpl.fresh = [] → ∃ t, exec .flush s = .next t ∧ t.rpl.buffer = s.rpl.buffer ++ List.replicate ((8 - s.rpl.buffer.length % 8) % 8)
      padRecord ∧ t.rpl.lost = s.rpl.lost ∧ sameRegs [] s t ∧ sameBytes s t) ∧
  (∀ (s : State) (rp : BitVec 32), rp.toNat < ringCap s → (rp.toNat + ringCap s - s.fld F.RPL_RP_OFFSET % ringCap s) % ringCap s ≤ ringRecords s → ∃ t,
      exec (.journalSpill rp) s = .next t ∧ t.fld F.RPL_RP_OFFSET = rp.toNat ∧ sameRegs [F.RPL_RP_OFFSET.part []] s t ∧ sameBytes s t) ∧
  (∀ (s : State) (rp : BitVec 32), ringCap s ≤ rp.toNat ∨ ringRecords s < (rp.toNat + ringCap s - s.fld F.RPL_RP_OFFSET % ringCap s) % ringCap s → exec
      (.journalSpill rp) s = .next (s)) ∧
  (∀ (s : State), (!s.flag F.RPL_CFG_EN && wheelsStopped s && (List.finRange 16).all (fun n => seqState s n == SeqCode.halted) && chnRole s == 0 &&
      (s.pair .RPL_ANCHOR_LO .RPL_ANCHOR_HI) % 16 == 0) = true → ∃ t, exec .replay s = .next t ∧ t.rpl =
      { s.rpl with replayAt := some (s.now + (wheelBoundary (s.beat + 16) - s.beat)) } ∧ sameRegs [] s t ∧ sameBytes s t) ∧
  (∀ (s : State), (!s.flag F.RPL_CFG_EN && wheelsStopped s && (List.finRange 16).all (fun n => seqState s n == SeqCode.halted) && chnRole s == 0 &&
      (s.pair .RPL_ANCHOR_LO .RPL_ANCHOR_HI) % 16 == 0) = false → ∃ t, exec .replay s = .next t ∧ t.flag F.RPL_STATUS_REFUSED = true ∧ t.rpl = s.rpl ∧
      sameRegs [F.RPL_STATUS_REFUSED.part []] s t ∧ sameBytes s t) ∧
  (∀ (s : State) (k : Nat), s.rpl.replayAt = some k → k ≤ s.now → s.flag F.RPL_CFG_MUTE = false → ∃ t, exec .replayStart s = .next t ∧ t.beat = (s.pair
      .RPL_ANCHOR_LO .RPL_ANCHOR_HI + 2 ^ 64 - 4096) % 2 ^ 64 ∧ t.rplState = 2 ∧ t.fld F.RPL_STATUS_END_CAUSE = 0 ∧ t.rd .RPL_DIV_INFO = 0 ∧
      t.rpl.replaying = true ∧ t.rpl.replayAt = none ∧ t.rpl.lastBeat = s.pair .RPL_ANCHOR_LO .RPL_ANCHOR_HI ∧ t.rpl.skipTo = s.pair .RPL_ANCHOR_LO
      .RPL_ANCHOR_HI ∧ sameRegs [F.RPL_STATUS_STATE.part [], F.RPL_STATUS_END_CAUSE.part [], { reg := .RPL_DIV_INFO, idx := [] }] s t ∧ sameBytes s t) ∧
  (∀ (s : State) (k : Nat), s.rpl.replayAt = some k → k ≤ s.now → s.flag F.RPL_CFG_MUTE = true → ∃ t, exec .replayStart s = .next t ∧ t.rplState = 2 ∧ (∀
      (n : Fin 16) (p : Fin 32), t.flag F.PIN_STATUS_CAUSE_PWR n p = true ∧ t.flag F.PIN_STATUS_GUARDED n p = true) ∧ sameRegs
      ([F.RPL_STATUS_STATE.part [], F.RPL_STATUS_END_CAUSE.part []] ++ globalParts [.RPL_DIV_INFO, .PIN_STATUS, .PIN_GUARDED]) s t ∧ sameBytes s t) ∧
  (∀ (s : State), (s.rpl.replayAt.all fun k => decide (s.now < k)) = true → exec .replayStart s = .next (s)) ∧
  (∀ (s : State) (r : JRecord), s.rplState = 2 → s.flt.inject = none → s.cstore.double = [] → s.storeOn .central = true → ¬(s.fld F.RPL_REPLAY_RP_OFFSET
      % ringCap s = s.fld F.RPL_REPLAY_WP_OFFSET % ringCap s) → JRecord.ofBytes (s.cstore.read ((s.fld F.RPL_RING_BASE_LINE * 128 + s.fld
      F.RPL_REPLAY_RP_OFFSET % ringCap s * 16) % 2 ^ 24) 16) = r → r.type = JType.PAD → ∃ t, exec .replayRecord s = .next t ∧ t.fld
      F.RPL_REPLAY_RP_OFFSET = (s.fld F.RPL_REPLAY_RP_OFFSET + 1) % ringCap s ∧ t.rpl = s.rpl ∧ sameRegs
      [F.RPL_REPLAY_RP_OFFSET.part [], { reg := .GLB_CSTORE_ECC_CE, idx := [] }, { reg := .GLB_CSTORE_ECC_ADDR, idx := [] }] s t ∧ sameBytes s t) ∧
  (∀ (s : State) (r : JRecord), s.rplState = 2 → s.flt.inject = none → s.cstore.double = [] → s.storeOn .central = true → ¬(s.fld F.RPL_REPLAY_RP_OFFSET
      % ringCap s = s.fld F.RPL_REPLAY_WP_OFFSET % ringCap s) → JRecord.ofBytes (s.cstore.read ((s.fld F.RPL_RING_BASE_LINE * 128 + s.fld
      F.RPL_REPLAY_RP_OFFSET % ringCap s * 16) % 2 ^ 24) 16) = r → r.type = JType.SYNC → ∃ t, exec .replayRecord s = .next t ∧ t.fld
      F.RPL_REPLAY_RP_OFFSET = (s.fld F.RPL_REPLAY_RP_OFFSET + 1) % ringCap s ∧ t.rpl = { s.rpl with lastBeat := r.data } ∧ sameRegs
      [F.RPL_REPLAY_RP_OFFSET.part [], { reg := .GLB_CSTORE_ECC_CE, idx := [] }, { reg := .GLB_CSTORE_ECC_ADDR, idx := [] }] s t ∧ sameBytes s t) ∧
  (∀ (s : State) (r : JRecord), s.rplState = 2 → s.flt.inject = none → s.cstore.double = [] → s.storeOn .central = true → ¬(s.fld F.RPL_REPLAY_RP_OFFSET
      % ringCap s = s.fld F.RPL_REPLAY_WP_OFFSET % ringCap s) → JRecord.ofBytes (s.cstore.read ((s.fld F.RPL_RING_BASE_LINE * 128 + s.fld
      F.RPL_REPLAY_RP_OFFSET % ringCap s * 16) % 2 ^ 24) 16) = r → r.type = JType.ANCHOR → fullBeat s r.beat = s.beat → s.rpl.skipTo ≤ s.beat →
      wheelState s (toFin 16 r.index) = 0 → ∃ t, exec .replayRecord s = .next t ∧ t.fld F.RPL_REPLAY_RP_OFFSET = (s.fld F.RPL_REPLAY_RP_OFFSET + 1) %
      ringCap s ∧ wheelState t (toFin 16 r.index) = 2 ∧ t.rpl = { s.rpl with lastBeat := s.beat } ∧ sameRegs
      [F.RPL_REPLAY_RP_OFFSET.part [], F.SLC_WHEEL_STATUS_STATE.part [(toFin 16 r.index).val], { reg := .GLB_CSTORE_ECC_CE, idx := [] }, { reg := .GLB_CSTORE_ECC_ADDR, idx := [] }]
      s t ∧ sameBytes s t) ∧
  (∀ (s : State) (r : JRecord), s.rplState = 2 → s.flt.inject = none → s.cstore.double = [] → s.storeOn .central = true → ¬(s.fld F.RPL_REPLAY_RP_OFFSET
      % ringCap s = s.fld F.RPL_REPLAY_WP_OFFSET % ringCap s) → JRecord.ofBytes (s.cstore.read ((s.fld F.RPL_RING_BASE_LINE * 128 + s.fld
      F.RPL_REPLAY_RP_OFFSET % ringCap s * 16) % 2 ^ 24) 16) = r → r.type = JType.DECISION → fullBeat s r.beat = s.beat → s.rpl.skipTo ≤ s.beat → ∃ t,
      exec .replayRecord s = .next t ∧ t.fld F.RPL_REPLAY_RP_OFFSET = (s.fld F.RPL_REPLAY_RP_OFFSET + 1) % ringCap s ∧ t.rpl =
      { s.rpl with lastBeat := s.beat, expected := s.rpl.expected ++ [{ r with beat := s.beat }] } ∧ sameRegs
      [F.RPL_REPLAY_RP_OFFSET.part [], { reg := .GLB_CSTORE_ECC_CE, idx := [] }, { reg := .GLB_CSTORE_ECC_ADDR, idx := [] }] s t ∧ sameBytes s t) ∧
  (∀ (s : State) (r : JRecord), s.rplState = 2 → s.flt.inject = none → s.cstore.double = [] → s.storeOn .central = true → ¬(s.fld F.RPL_REPLAY_RP_OFFSET
      % ringCap s = s.fld F.RPL_REPLAY_WP_OFFSET % ringCap s) → JRecord.ofBytes (s.cstore.read ((s.fld F.RPL_RING_BASE_LINE * 128 + s.fld
      F.RPL_REPLAY_RP_OFFSET % ringCap s * 16) % 2 ^ 24) 16) = r → r.type = JType.GAP → fullBeat s r.beat = s.beat → s.rpl.skipTo ≤ s.beat → ∃ t, exec
      .replayRecord s = .next t ∧ t.fld F.RPL_REPLAY_RP_OFFSET = (s.fld F.RPL_REPLAY_RP_OFFSET + 1) % ringCap s ∧ t.rplState = 3 ∧ t.fld
      F.RPL_STATUS_END_CAUSE = 4 ∧ t.rpl.replaying = false ∧ t.rpl.expected = [] ∧ (∀ n, seqState t n = if 1 ≤ seqState s n ∧ seqState s n ≤ 4 then 0
      else seqState s n) ∧ (∀ n, vecState s n ≤ 3 → vecState t n = 0) ∧ sameRegs
      ([F.RPL_REPLAY_RP_OFFSET.part [], F.RPL_STATUS_STATE.part [], F.RPL_STATUS_END_CAUSE.part [], { reg := .GLB_CSTORE_ECC_CE, idx := [] }, { reg := .GLB_CSTORE_ECC_ADDR, idx := [] }]
      ++ allSlices.flatMap sliceParts) s t ∧ sameBytes s t) ∧
  (∀ (s : State) (r : JRecord), s.rplState = 2 → s.flt.inject = none → s.cstore.double = [] → s.storeOn .central = true → ¬(s.fld F.RPL_REPLAY_RP_OFFSET
      % ringCap s = s.fld F.RPL_REPLAY_WP_OFFSET % ringCap s) → JRecord.ofBytes (s.cstore.read ((s.fld F.RPL_RING_BASE_LINE * 128 + s.fld
      F.RPL_REPLAY_RP_OFFSET % ringCap s * 16) % 2 ^ 24) 16) = r → JType.GAP ≤ r.type → r.type ≠ JType.IMAGE → r.type ≠ JType.RELOAD → s.beat < fullBeat
      s r.beat → s.rpl.skipTo ≤ fullBeat s r.beat → ∃ t, exec .replayRecord s = .next t ∧ t.rpl = s.rpl ∧ t.beat = s.beat ∧ sameRegs
      [{ reg := .GLB_CSTORE_ECC_CE, idx := [] }, { reg := .GLB_CSTORE_ECC_ADDR, idx := [] }] s t ∧ sameBytes s t) ∧
  (∀ (s : State) (r : JRecord), s.rplState = 2 → s.flt.inject = none → s.cstore.double = [] → s.storeOn .central = true → ¬(s.fld F.RPL_REPLAY_RP_OFFSET
      % ringCap s = s.fld F.RPL_REPLAY_WP_OFFSET % ringCap s) → JRecord.ofBytes (s.cstore.read ((s.fld F.RPL_RING_BASE_LINE * 128 + s.fld
      F.RPL_REPLAY_RP_OFFSET % ringCap s * 16) % 2 ^ 24) 16) = r → JType.GAP ≤ r.type → r.type ≠ JType.IMAGE → r.type ≠ JType.RELOAD → fullBeat s r.beat
      < s.beat → s.rpl.skipTo ≤ fullBeat s r.beat → ∃ t, exec .replayRecord s = .next t ∧ t.rplState = 3 ∧ t.fld F.RPL_STATUS_END_CAUSE = 2 ∧
      t.rpl.replaying = false ∧ t.rpl.expected = [] ∧ (∀ n, seqState t n = if 1 ≤ seqState s n ∧ seqState s n ≤ 4 then 0 else seqState s n) ∧ (∀ n,
      vecState s n ≤ 3 → vecState t n = 0) ∧ sameRegs
      ([F.RPL_STATUS_STATE.part [], F.RPL_STATUS_END_CAUSE.part [], { reg := .GLB_CSTORE_ECC_CE, idx := [] }, { reg := .GLB_CSTORE_ECC_ADDR, idx := [] }]
      ++ allSlices.flatMap sliceParts) s t ∧ sameBytes s t) ∧
  (∀ (s : State), s.rplState = 2 → s.fld F.RPL_REPLAY_RP_OFFSET % ringCap s = s.fld F.RPL_REPLAY_WP_OFFSET % ringCap s → ∃ t, exec .replayStarved s =
      .next t ∧ t.rplState = 3 ∧ t.fld F.RPL_STATUS_END_CAUSE = 2 ∧ t.rpl.replaying = false ∧ t.rpl.expected = [] ∧ (∀ n, seqState t n = if 1 ≤ seqState
      s n ∧ seqState s n ≤ 4 then 0 else seqState s n) ∧ (∀ n, vecState s n ≤ 3 → vecState t n = 0) ∧ sameRegs
      ([F.RPL_STATUS_STATE.part [], F.RPL_STATUS_END_CAUSE.part []] ++ allSlices.flatMap sliceParts) s t ∧ sameBytes s t) ∧
  (∀ (s : State), s.rplState = 2 → ∃ t, exec .stop s = .next t ∧ t.rplState = 3 ∧ t.fld F.RPL_STATUS_END_CAUSE = 1 ∧ t.rpl.replaying = false ∧
      t.rpl.expected = [] ∧ (∀ n, seqState t n = if 1 ≤ seqState s n ∧ seqState s n ≤ 4 then 0 else seqState s n) ∧ (∀ n, vecState s n ≤ 3 → vecState t
      n = 0) ∧ sameRegs ([F.RPL_STATUS_STATE.part [], F.RPL_STATUS_END_CAUSE.part []] ++ allSlices.flatMap sliceParts) s t ∧ sameBytes s t) ∧
  (∀ (s : State) (c : Instr), c ∈ [Instr.stop, .replayStarved, .replayRecord] → s.rplState ≠ 2 → exec c s = .next (s))

/-- Each phase ends on what it finds. Without a usable key the device is HELD with ERR 6, without a usable flash with ERR 2, without a
firmware slot that verifies with ERR 3, on a bad march with ERR 5, on a bad image in both slots with ERR 4. The reference lock ends the
first phase, the march test clears every store, alignment and the join end theirs, and READY follows once no foreground calibration
runs. -/
def Obligations.BootPhases : Prop :=
  (∀ (s : State), s.inReset = false → s.fld F.BOOT_STATUS_PHASE = 1 → s.flag F.INV_STATUS_LOCK = true → ∃ t, exec (.bootPhaseAdvance .none_) s = .next t
      ∧ t.fld F.BOOT_STATUS_PHASE = 2 ∧ t.boot.since = s.now ∧ sameRegs [F.BOOT_STATUS_PHASE.part []] s t ∧ sameBytes s t) ∧
  (∀ (s : State), s.inReset = false → s.fld F.BOOT_STATUS_PHASE = 1 → s.flag F.INV_STATUS_LOCK = false → ∃ t, exec (.bootPhaseAdvance .none_) s = .next t
      ∧ t.boot = s.boot ∧ sameRegs [] s t ∧ sameBytes s t) ∧
  (∀ (s : State) (octal : Bool), s.inReset = false → s.fld F.BOOT_STATUS_PHASE = 2 → anyKey s = true → ∃ t, exec (.bootPhaseAdvance (.flash (some octal)
      true)) s = .next t ∧ t.fld F.BOOT_STATUS_PHASE = 3 ∧ t.flag F.BOOT_STATUS_QUAD = !octal ∧ t.flag F.BOOT_STATUS_FW_TRIAL = (dirNow s.boot).fwTrial
      ∧ sameRegs [F.BOOT_STATUS_PHASE.part [], F.BOOT_STATUS_QUAD.part [], F.BOOT_STATUS_FW_TRIAL.part []] s t ∧ sameBytes s t) ∧
  (∀ (s : State) (table : Option Bool) (large : Bool), s.inReset = false → s.fld F.BOOT_STATUS_PHASE = 2 → anyKey s = false → ∃ t, exec
      (.bootPhaseAdvance (.flash table large)) s = .next t ∧ t.fld F.BOOT_STATUS_PHASE = 10 ∧ t.fld F.BOOT_STATUS_ERR = 6 ∧ sameRegs
      [F.BOOT_STATUS_PHASE.part [], F.BOOT_STATUS_ERR.part []] s t ∧ sameBytes s t) ∧
  (∀ (s : State) (table : Option Bool) (large : Bool), s.inReset = false → s.fld F.BOOT_STATUS_PHASE = 2 → anyKey s = true → table = none ∨ large = false
      → ∃ t, exec (.bootPhaseAdvance (.flash table large)) s = .next t ∧ t.fld F.BOOT_STATUS_PHASE = 10 ∧ t.fld F.BOOT_STATUS_ERR = 2 ∧ sameRegs
      [F.BOOT_STATUS_PHASE.part [], F.BOOT_STATUS_ERR.part []] s t ∧ sameBytes s t) ∧
  (∀ (s : State), s.inReset = false → s.fld F.BOOT_STATUS_PHASE = 3 → numAt (flashRead s.boot 0x810000 128) 0 4 ≠ 0x1664B0C0 → s.flag F.BOOT_CFG_BIST =
      false → chnFollows s = false → s.flag F.BOOT_CFG_AUTO_JOIN = false → ∃ t, exec (.bootPhaseAdvance .none_) s = .next t ∧ (if (chooseSlot s).1 =
      none then t.fld F.BOOT_STATUS_PHASE = 10 ∧ t.fld F.BOOT_STATUS_ERR = 3 ∧ t.fld F.MGT_STATUS_STATE = 3 else t.fld F.BOOT_STATUS_PHASE = 7 ∧ t.fld
      F.MGT_STATUS_STATE = 0 ∧ t.fld F.MGT_STATUS_CORES = 15)) ∧
  (∀ (s : State), s.inReset = false → s.fld F.BOOT_STATUS_PHASE = 4 → chnFollows s = false → s.flag F.BOOT_CFG_AUTO_JOIN = false → ∃ t, exec
      (.bootPhaseAdvance (.march none)) s = .next t ∧ t.fld F.BOOT_STATUS_PHASE = 7 ∧ (∀ id a, (t.store id).byteAt a = 0) ∧ sameRegs
      [F.BOOT_STATUS_PHASE.part []] s t) ∧
  (∀ (s : State) (id : StoreId) (line : Nat), s.inReset = false → s.fld F.BOOT_STATUS_PHASE = 4 → ∃ t, exec (.bootPhaseAdvance (.march (some (id,
      line)))) s = .next t ∧ t.fld F.BOOT_STATUS_PHASE = 10 ∧ t.fld F.BOOT_STATUS_ERR = 5 ∧ sameRegs
      [F.BOOT_STATUS_PHASE.part [], F.BOOT_STATUS_ERR.part [], { reg := .SLC_ECC_ADDR, idx := [] }, { reg := .GLB_CSTORE_ECC_ADDR, idx := [] }] s t ∧
      sameBytes s t) ∧
  (∀ (s : State), s.inReset = false → s.fld F.BOOT_STATUS_PHASE = 5 → chnAligned s = true → s.flag F.BOOT_CFG_AUTO_JOIN = false → ∃ t, exec
      (.bootPhaseAdvance .none_) s = .next t ∧ t.fld F.BOOT_STATUS_PHASE = 7 ∧ sameRegs [F.BOOT_STATUS_PHASE.part []] s t ∧ sameBytes s t) ∧
  (∀ (s : State), s.inReset = false → s.fld F.BOOT_STATUS_PHASE = 6 → s.flag F.KTL_STATUS_JOIN_DONE = true → ∃ t, exec (.bootPhaseAdvance .none_) s =
      .next t ∧ t.fld F.BOOT_STATUS_PHASE = 7 ∧ t.boot.joinLate = s.boot.joinLate ∧ sameRegs [F.BOOT_STATUS_PHASE.part []] s t ∧ sameBytes s t) ∧
  (∀ (s : State), s.inReset = false → s.fld F.BOOT_STATUS_PHASE = 6 → s.flag F.KTL_STATUS_JOIN_DONE = false → ktlMember s ≠ 3 → s.boot.since + max 1
      (s.fld F.BOOT_CFG_JOIN_TMO) * 25000000 ≤ s.now → ∃ t, exec (.bootPhaseAdvance .none_) s = .next t ∧ t.fld F.BOOT_STATUS_PHASE = 7 ∧ t.fld
      F.BOOT_STATUS_ERR = 7 ∧ t.boot.joinLate = true ∧ sameRegs [F.BOOT_STATUS_PHASE.part [], F.BOOT_STATUS_ERR.part []] s t ∧ sameBytes s t) ∧
  (∀ (s : State) (bad : BitVec 17), s.inReset = false → s.fld F.BOOT_STATUS_PHASE = 7 → (imageChecks s { flash := true, base := imgBase false } false
      allSections []).1 ≠ 0 → (imageChecks s { flash := true, base := imgBase true } false allSections []).1 ≠ 0 → ∃ t, exec (.bootPhaseAdvance (.image
      bad)) s = .next t ∧ t.fld F.BOOT_STATUS_PHASE = 10 ∧ t.fld F.BOOT_STATUS_ERR = 4 ∧ t.flag F.GLB_IMG_STATUS_FAIL = true ∧ sameRegs
      [F.BOOT_STATUS_PHASE.part [], F.BOOT_STATUS_ERR.part [], { reg := .GLB_IMG_STATUS, idx := [] }] s t ∧ sameBytes s t) ∧
  (∀ (s : State), s.inReset = false → s.fld F.BOOT_STATUS_PHASE = 8 → (∀ n : Fin 16, s.fld F.CAL_FG_STATUS_STATE n = 0) → ∃ t, exec (.bootPhaseAdvance
      .none_) s = .next t ∧ t.fld F.BOOT_STATUS_PHASE = 9 ∧ sameRegs ([F.BOOT_STATUS_PHASE.part []] ++ eventParts) s t ∧ sameBytes s t)

/-- TRY_FW and CONFIRM write the directory with the next number. COMMIT_SECVER raises the fuse, or is refused. SET_IMG names the other image
slot if it matches what runs. KEY_WRITE takes a key from a store without a poisoned word or a waiting injection, LOCK_KEY locks it,
REVOKE revokes it unless no usable key would stay. A flash operation that passes its checks is BUSY, else FAIL shows the cause. Its end
reads into the store, erases to FFH or clears bits, and touches no other byte; one that fails shows CAUSE 6. -/
def Obligations.DirectoryKeysFlash : Prop :=
  (∀ (s : State), s.inReset = false → (dirNow s.boot).seq < 2 ^ 32 → ∃ t, exec .tryFw s = .next t ∧ dirNow t.boot =
      { dirNow s.boot with fwTrial := true, seq := ((dirNow s.boot).seq + 1) % 2 ^ 32 } ∧ t.flag F.BOOT_STATUS_FW_TRIAL = true ∧ sameRegs
      [F.BOOT_STATUS_FW_TRIAL.part []] s t ∧ sameBytes s t) ∧
  (∀ (s : State), s.inReset = false → (dirNow s.boot).seq < 2 ^ 32 → ∃ t, exec .confirm s = .next t ∧ dirNow t.boot =
      { dirNow s.boot with fwActive := s.flag F.BOOT_STATUS_FW_SLOT, fwTrial := false, fwTried := false, seq := ((dirNow s.boot).seq + 1) % 2 ^ 32 } ∧
      t.flag F.BOOT_STATUS_FW_TRIAL = false ∧ sameRegs [F.BOOT_STATUS_FW_TRIAL.part []] s t ∧ sameBytes s t) ∧
  (∀ (s : State), s.inReset = false → (dirNow s.boot).fwTrial = false → s.fld F.BOOT_FUSES_SECVER < min (min s.mgt.secver s.img.secver) 64 → ∃ t, exec
      .commitSecver s = .next t ∧ t.fld F.BOOT_FUSES_SECVER = min (min s.mgt.secver s.img.secver) 64 ∧ sameRegs [F.BOOT_FUSES_SECVER.part []] s t ∧
      sameBytes s t) ∧
  (∀ (s : State), s.inReset = false → (dirNow s.boot).fwTrial = true ∨ min (min s.mgt.secver s.img.secver) 64 ≤ s.fld F.BOOT_FUSES_SECVER → ∃ t, exec
      .commitSecver s = .next t ∧ t.flag F.BOOT_STATUS_COMMIT_REFUSED = true ∧ t.boot = s.boot ∧ sameRegs [F.BOOT_STATUS_COMMIT_REFUSED.part []] s t ∧
      sameBytes s t) ∧
  (∀ (s : State), s.inReset = false → (dirNow s.boot).seq < 2 ^ 32 → ∃ t, exec .setImg s = .next t ∧ (if (imageChecks s
      { flash := true, base := imgBase (!(dirNow s.boot).imgActive) } false allSections []).1 = 0 ∧ allSections.all (fun i => entryDigest
      (ImgSource.read { flash := true, base := imgBase (!(dirNow s.boot).imgActive) } s 0 0x500) i == s.img.digests.toList.getD i []) = true then
      (dirNow t.boot).imgActive = (!(dirNow s.boot).imgActive) else t.flag F.BOOT_STATUS_SET_IMG_REFUSED = true ∧ t.boot = s.boot) ∧ sameRegs
      [F.BOOT_STATUS_SET_IMG_REFUSED.part [], F.BOOT_STATUS_FW_TRIAL.part []] s t ∧ sameBytes s t) ∧
  (∀ (s : State), s.inReset = false → bitAt (s.fld F.BOOT_FUSES_LOCKED) (s.fld F.BOOT_KEY_PROG_INDEX) = false → s.fld F.BOOT_KEY_PROG_SRC * 256 + 96 ≤
      0x1000000 → s.storeOn .central = true → s.cstore.double = [] → s.flt.inject = none → s.fld F.BOOT_KEY_PROG_INDEX < 4 → ∃ t, exec .keyWrite s =
      .next t ∧ t.boot.keys.toList.getD (s.fld F.BOOT_KEY_PROG_INDEX) [] = s.cstore.read (s.fld F.BOOT_KEY_PROG_SRC * 256) 96 ∧ t.fld F.BOOT_FUSES_VALID
      = putBit (s.fld F.BOOT_FUSES_VALID) (s.fld F.BOOT_KEY_PROG_INDEX) true ∧ t.boot.flash = s.boot.flash ∧ sameRegs
      [F.BOOT_FUSES_VALID.part [], { reg := .GLB_CSTORE_ECC_CE, idx := [] }, { reg := .GLB_CSTORE_ECC_ADDR, idx := [] }] s t ∧ sameBytes s t) ∧
  (∀ (s : State), s.inReset = false → bitAt (s.fld F.BOOT_FUSES_LOCKED) (s.fld F.BOOT_KEY_PROG_INDEX) = true → ∃ t, exec .keyWrite s = .next t ∧ t.flag
      F.BOOT_STATUS_KEY_REFUSED = true ∧ t.boot = s.boot ∧ sameRegs [F.BOOT_STATUS_KEY_REFUSED.part []] s t ∧ sameBytes s t) ∧
  (∀ (s : State), s.inReset = false → ∃ t, exec .lockKey s = .next t ∧ t.fld F.BOOT_FUSES_LOCKED = putBit (s.fld F.BOOT_FUSES_LOCKED) (s.fld
      F.BOOT_KEY_PROG_INDEX) true % 2 ^ F.BOOT_FUSES_LOCKED.width ∧ t.boot = s.boot ∧ sameRegs [F.BOOT_FUSES_LOCKED.part []] s t ∧ sameBytes s t) ∧
  (∀ (s : State), s.inReset = false → (∃ k : Fin 4, k.val ≠ s.fld F.BOOT_KEY_PROG_INDEX ∧ keyUsable s k = true) → s.fld F.BOOT_KEY_PROG_INDEX < 4 → ∃ t,
      exec .revoke s = .next t ∧ t.fld F.BOOT_FUSES_REVOKED = putBit (s.fld F.BOOT_FUSES_REVOKED) (s.fld F.BOOT_KEY_PROG_INDEX) true ∧ t.boot = s.boot ∧
      sameRegs [F.BOOT_FUSES_REVOKED.part []] s t ∧ sameBytes s t) ∧
  (∀ (s : State), s.inReset = false → (∀ k : Fin 4, k.val ≠ s.fld F.BOOT_KEY_PROG_INDEX → keyUsable s k = false) → s.fld F.BOOT_KEY_PROG_INDEX < 4 → ∃ t,
      exec .revoke s = .next t ∧ t.flag F.BOOT_STATUS_KEY_REFUSED = true ∧ t.boot = s.boot ∧ sameRegs [F.BOOT_STATUS_KEY_REFUSED.part []] s t ∧
      sameBytes s t) ∧
  (∀ (s : State), s.inReset = false → flashRefusal s 0 (s.fld F.BOOT_FL_ADDR_ADDR) (s.fld F.BOOT_FL_SRC_OFFSET) (s.fld F.BOOT_FL_LEN_LEN) = 0 → ∃ t, exec
      .flashRead s = .next t ∧ t.boot = { s.boot with op := some (0, s.fld F.BOOT_FL_ADDR_ADDR, s.fld F.BOOT_FL_SRC_OFFSET, s.fld F.BOOT_FL_LEN_LEN) } ∧
      t.flag F.BOOT_FL_STATUS_BUSY = true ∧ t.fld F.BOOT_FL_STATUS_CAUSE = 0 ∧ sameRegs
      [F.BOOT_FL_OP_OP.part [], F.BOOT_FL_STATUS_BUSY.part [], F.BOOT_FL_STATUS_CAUSE.part []] s t ∧ sameBytes s t) ∧
  (∀ (s : State), s.inReset = false → flashRefusal s 0 (s.fld F.BOOT_FL_ADDR_ADDR) (s.fld F.BOOT_FL_SRC_OFFSET) (s.fld F.BOOT_FL_LEN_LEN) ≠ 0 → ∃ t, exec
      .flashRead s = .next t ∧ t.boot = s.boot ∧ t.fld F.BOOT_FL_STATUS_CAUSE = flashRefusal s 0 (s.fld F.BOOT_FL_ADDR_ADDR) (s.fld
      F.BOOT_FL_SRC_OFFSET) (s.fld F.BOOT_FL_LEN_LEN) ∧ t.flag F.BOOT_FL_STATUS_FAIL = true ∧ sameRegs
      [F.BOOT_FL_OP_OP.part [], F.BOOT_FL_STATUS_FAIL.part [], F.BOOT_FL_STATUS_CAUSE.part []] s t ∧ sameBytes s t) ∧
  (∀ (s : State), s.inReset = false → flashRefusal s 1 (s.fld F.BOOT_FL_ADDR_ADDR) (s.fld F.BOOT_FL_SRC_OFFSET) (s.fld F.BOOT_FL_LEN_LEN) = 0 → ∃ t, exec
      .flashErase s = .next t ∧ t.boot = { s.boot with op := some (1, s.fld F.BOOT_FL_ADDR_ADDR, s.fld F.BOOT_FL_SRC_OFFSET, s.fld F.BOOT_FL_LEN_LEN) }
      ∧ t.flag F.BOOT_FL_STATUS_BUSY = true ∧ t.fld F.BOOT_FL_STATUS_CAUSE = 0 ∧ sameRegs
      [F.BOOT_FL_OP_OP.part [], F.BOOT_FL_STATUS_BUSY.part [], F.BOOT_FL_STATUS_CAUSE.part []] s t ∧ sameBytes s t) ∧
  (∀ (s : State), s.inReset = false → flashRefusal s 1 (s.fld F.BOOT_FL_ADDR_ADDR) (s.fld F.BOOT_FL_SRC_OFFSET) (s.fld F.BOOT_FL_LEN_LEN) ≠ 0 → ∃ t, exec
      .flashErase s = .next t ∧ t.boot = s.boot ∧ t.fld F.BOOT_FL_STATUS_CAUSE = flashRefusal s 1 (s.fld F.BOOT_FL_ADDR_ADDR) (s.fld
      F.BOOT_FL_SRC_OFFSET) (s.fld F.BOOT_FL_LEN_LEN) ∧ t.flag F.BOOT_FL_STATUS_FAIL = true ∧ sameRegs
      [F.BOOT_FL_OP_OP.part [], F.BOOT_FL_STATUS_FAIL.part [], F.BOOT_FL_STATUS_CAUSE.part []] s t ∧ sameBytes s t) ∧
  (∀ (s : State), s.inReset = false → flashRefusal s 2 (s.fld F.BOOT_FL_ADDR_ADDR) (s.fld F.BOOT_FL_SRC_OFFSET) (s.fld F.BOOT_FL_LEN_LEN) = 0 → ∃ t, exec
      .flashWrite s = .next t ∧ t.boot = { s.boot with op := some (2, s.fld F.BOOT_FL_ADDR_ADDR, s.fld F.BOOT_FL_SRC_OFFSET, s.fld F.BOOT_FL_LEN_LEN) }
      ∧ t.flag F.BOOT_FL_STATUS_BUSY = true ∧ t.fld F.BOOT_FL_STATUS_CAUSE = 0 ∧ sameRegs
      [F.BOOT_FL_OP_OP.part [], F.BOOT_FL_STATUS_BUSY.part [], F.BOOT_FL_STATUS_CAUSE.part []] s t ∧ sameBytes s t) ∧
  (∀ (s : State), s.inReset = false → flashRefusal s 2 (s.fld F.BOOT_FL_ADDR_ADDR) (s.fld F.BOOT_FL_SRC_OFFSET) (s.fld F.BOOT_FL_LEN_LEN) ≠ 0 → ∃ t, exec
      .flashWrite s = .next t ∧ t.boot = s.boot ∧ t.fld F.BOOT_FL_STATUS_CAUSE = flashRefusal s 2 (s.fld F.BOOT_FL_ADDR_ADDR) (s.fld
      F.BOOT_FL_SRC_OFFSET) (s.fld F.BOOT_FL_LEN_LEN) ∧ t.flag F.BOOT_FL_STATUS_FAIL = true ∧ sameRegs
      [F.BOOT_FL_OP_OP.part [], F.BOOT_FL_STATUS_FAIL.part [], F.BOOT_FL_STATUS_CAUSE.part []] s t ∧ sameBytes s t) ∧
  (∀ (s : State) (error : Bool) (a src len : Nat), s.inReset = false → s.boot.op = some (0, a, src, len) → flashPortFree s = true → s.cstore.double = []
      → s.flt.inject = none → ∃ t, exec (.flashOpEnd error) s = .next t ∧ t.boot.op = none ∧ t.flag F.BOOT_FL_STATUS_BUSY = false ∧ t.flag
      F.BOOT_FL_STATUS_DONE = true ∧ (∀ i, i < len → t.cstore.byteAt (src + i) = flashByte s.boot (a + i)) ∧ (∀ id x, ¬(id = StoreId.central ∧ src ≤ x ∧
      x < src + len) → (t.store id).byteAt x = (s.store id).byteAt x) ∧ t.boot.flash = s.boot.flash ∧ sameRegs
      [F.BOOT_FL_STATUS_BUSY.part [], F.BOOT_FL_STATUS_DONE.part [], { reg := .GLB_CSTORE_ECC_CE, idx := [] }, { reg := .GLB_CSTORE_ECC_ADDR, idx := [] }]
      s t) ∧
  (∀ (s : State) (a src len : Nat), s.inReset = false → s.boot.op = some (1, a, src, len) → flashPortFree s = true → ∃ t, exec (.flashOpEnd false) s =
      .next t ∧ t.boot.op = none ∧ t.flag F.BOOT_FL_STATUS_BUSY = false ∧ t.flag F.BOOT_FL_STATUS_DONE = true ∧ (∀ i, i < flashSpan 1 len → flashByte
      t.boot (a + i) = 0xFF) ∧ (∀ x, ¬(a ≤ x ∧ x < a + flashSpan 1 len) → flashByte t.boot x = flashByte s.boot x) ∧ sameRegs
      [F.BOOT_FL_STATUS_BUSY.part [], F.BOOT_FL_STATUS_DONE.part []] s t ∧ sameBytes s t) ∧
  (∀ (s : State) (a src len : Nat), s.inReset = false → s.boot.op = some (2, a, src, len) → flashPortFree s = true → s.cstore.double = [] → s.flt.inject
      = none → ∃ t, exec (.flashOpEnd false) s = .next t ∧ t.boot.op = none ∧ t.flag F.BOOT_FL_STATUS_BUSY = false ∧ t.flag F.BOOT_FL_STATUS_DONE = true
      ∧ (∀ i, i < len → flashByte t.boot (a + i) = (s.cstore.byteAt (src + i) &&& flashByte s.boot (a + i))) ∧ (∀ x, ¬(a ≤ x ∧ x < a + len) → flashByte
      t.boot x = flashByte s.boot x) ∧ sameRegs
      [F.BOOT_FL_STATUS_BUSY.part [], F.BOOT_FL_STATUS_DONE.part [], { reg := .GLB_CSTORE_ECC_CE, idx := [] }, { reg := .GLB_CSTORE_ECC_ADDR, idx := [] }]
      s t ∧ sameBytes s t) ∧
  (∀ (s : State) (o : Nat) (a src len : Nat), s.inReset = false → s.boot.op = some (o, a, src, len) → o ≠ 0 → flashPortFree s = true → ∃ t, exec
      (.flashOpEnd true) s = .next t ∧ t.boot.op = none ∧ t.flag F.BOOT_FL_STATUS_BUSY = false ∧ t.flag F.BOOT_FL_STATUS_DONE = true ∧ t.flag
      F.BOOT_FL_STATUS_FAIL = true ∧ t.fld F.BOOT_FL_STATUS_CAUSE = 6 ∧ (∀ x, ¬(a ≤ x ∧ x < a + flashSpan o len) → flashByte t.boot x = flashByte s.boot
      x) ∧ sameRegs [F.BOOT_FL_STATUS_BUSY.part [], F.BOOT_FL_STATUS_DONE.part [], F.BOOT_FL_STATUS_FAIL.part [], F.BOOT_FL_STATUS_CAUSE.part []] s t ∧
      sameBytes s t)

/-- RUN_GO at a wheel boundary starts the wheel of each slice of its mask that may run and refuses the others; at S + 1 their sequencers
start. HALT halts the cores, which sheds load. RESTART of halted cores starts the slot that verifies, or leaves them FAILED and the
device HELD. SWAP is taken if the other slot verifies, and at 5 ms the cores start anew. A core that kicks is not missed; one that does
not for 2,500,000 beats raises MGT_WDOG and restarts the cores. A load block shows the load. -/
def Obligations.ManagementAndRun : Prop :=
  (∀ (s : State), s.inReset = false → (s.pair .BOOT_RUN_AT_LO .BOOT_RUN_AT_HI) % 16 ≠ 0 ∨ s.pair .BOOT_RUN_AT_LO .BOOT_RUN_AT_HI < s.beat + 16 → ∃ t,
      exec .runGo s = .next t ∧ t.flag F.BOOT_RUN_STATUS_BAD_BEAT = true ∧ t.fld F.BOOT_RUN_STATUS_REFUSED = s.fld F.BOOT_RUN_STATUS_REFUSED ||| s.fld
      F.BOOT_RUN_MASK_SLICES ∧ t.boot = s.boot ∧ sameRegs [F.BOOT_RUN_STATUS_BAD_BEAT.part [], F.BOOT_RUN_STATUS_REFUSED.part []] s t ∧ sameBytes s t) ∧
  (∀ (s : State) (n : Fin 16), s.inReset = false → (s.pair .BOOT_RUN_AT_LO .BOOT_RUN_AT_HI) % 16 = 0 → s.beat + 16 ≤ s.pair .BOOT_RUN_AT_LO
      .BOOT_RUN_AT_HI → s.fld F.BOOT_RUN_MASK_SLICES = 2 ^ n.val → runAccepts s n = true → ∃ t, exec .runGo s = .next t ∧ t.boot.runSlices =
      BitVec.ofNat 16 (2 ^ n.val) ∧ t.boot.runAt = s.now + (s.pair .BOOT_RUN_AT_LO .BOOT_RUN_AT_HI - s.beat) ∧ wheelState t n = 1 ∧ (t.sl
      n).wheel.startAt = s.now + (s.pair .BOOT_RUN_AT_LO .BOOT_RUN_AT_HI - s.beat) ∧ t.pair .SLC_WHEEL_START_LO .SLC_WHEEL_START_HI n = s.pair
      .BOOT_RUN_AT_LO .BOOT_RUN_AT_HI ∧ sameRegs
      [{ reg := .SLC_WHEEL_START_LO, idx := [n] }, { reg := .SLC_WHEEL_START_HI, idx := [n] }, F.SLC_WHEEL_CTRL_USE_START_BEAT.part [n], { reg := .SLC_WHEEL_STATUS, idx := [n] }]
      s t ∧ sameBytes s t) ∧
  (∀ (s : State) (n : Fin 16), s.inReset = false → (s.pair .BOOT_RUN_AT_LO .BOOT_RUN_AT_HI) % 16 = 0 → s.beat + 16 ≤ s.pair .BOOT_RUN_AT_LO
      .BOOT_RUN_AT_HI → s.fld F.BOOT_RUN_MASK_SLICES = 2 ^ n.val → runAccepts s n = false → ∃ t, exec .runGo s = .next t ∧ t.boot.runSlices = 0 ∧ t.fld
      F.BOOT_RUN_STATUS_REFUSED = s.fld F.BOOT_RUN_STATUS_REFUSED ||| 2 ^ n.val ∧ wheelState t n = wheelState s n ∧ sameRegs
      [F.BOOT_RUN_STATUS_REFUSED.part []] s t ∧ sameBytes s t) ∧
  (∀ (s : State) (n : Fin 16), s.boot.runSlices = BitVec.ofNat 16 (2 ^ n.val) → s.boot.runAt + 1 ≤ s.now → seqState s n = 0 ∨ seqState s n = 5 →
      wheelState s n = 2 → ∃ t, exec .runGoSeqWrite s = .next t ∧ t.boot.runSlices = 0 ∧ seqState t n = 2 ∧ (t.sl n).seq.starting = true ∧ (t.sl
      n).seq.pend = none ∧ t.pair .SEQ_START_LO .SEQ_START_HI n = (s.beat + 16 - (s.now - s.boot.runAt)) % 2 ^ 64 ∧ t.flag F.SEQ_CTRL_USE_START_BEAT n =
      true ∧ sameRegs
      [{ reg := .SEQ_START_LO, idx := [n] }, { reg := .SEQ_START_HI, idx := [n] }, F.SEQ_CTRL_USE_START_BEAT.part [n], { reg := .SEQ_STATUS, idx := [n] }, { reg := .SEQ_LATE, idx := [n] }]
      s t ∧ sameBytes s t) ∧
  (∀ (s : State), s.boot.runSlices = 0 ∨ s.now < s.boot.runAt + 1 → exec .runGoSeqWrite s = .next (s)) ∧
  (∀ (s : State), s.inReset = false → coresRunning s = true ∨ s.fld F.MGT_STATUS_STATE = 1 → ∃ t, exec .mgtHalt s = .next t ∧ t.fld F.MGT_STATUS_STATE =
      2 ∧ t.fld F.MGT_STATUS_CORES = 0 ∧ t.flag F.MGT_STATUS_SHED = true ∧ t.mgt.swapAt = none ∧ t.mgt.runAt = none ∧ sameRegs
      [F.MGT_STATUS_STATE.part [], F.MGT_STATUS_CORES.part [], F.MGT_STATUS_SHED.part []] s t ∧ sameBytes s t) ∧
  (∀ (s : State), s.inReset = false → coresStarted s = true → s.fld F.MGT_STATUS_STATE = 2 → s.fld F.BOOT_STATUS_PHASE ≠ 10 ∨ s.fld F.BOOT_STATUS_ERR ≠ 3
      → ∃ t, exec .mgtRestart s = .next t ∧ (if (chooseSlot s).1 = none then t.fld F.MGT_STATUS_STATE = 3 ∧ t.fld F.BOOT_STATUS_PHASE = 10 ∧ t.fld
      F.BOOT_STATUS_ERR = 3 else t.fld F.MGT_STATUS_STATE = 1) ∧ t.mgt.swapAt = none ∧ sameRegs
      [F.MGT_STATUS_STATE.part [], F.MGT_STATUS_CORES.part [], F.MGT_STATUS_SHED.part [], F.BOOT_STATUS_PHASE.part [], F.BOOT_STATUS_ERR.part [], F.BOOT_STATUS_FW_TRIAL.part [], F.BOOT_STATUS_FW_FELLBACK.part [], F.BOOT_STATUS_FW_SLOT.part [], { reg := .BOOT_FW_VER, idx := [] }]
      s t) ∧
  (∀ (s : State), s.inReset = false → coresStarted s = true → s.fld F.MGT_STATUS_STATE = 3 → s.fld F.BOOT_STATUS_PHASE = 10 → s.fld F.BOOT_STATUS_ERR = 3
      → ∃ t, exec .mgtRestart s = .next t ∧ t.fld F.BOOT_STATUS_PHASE = 3 ∧ t.fld F.BOOT_STATUS_ERR = 0 ∧ t.fld F.MGT_STATUS_STATE = 1 ∧ t.boot.since =
      s.now ∧ sameRegs
      [F.MGT_STATUS_STATE.part [], F.MGT_STATUS_CORES.part [], F.MGT_STATUS_SHED.part [], F.BOOT_STATUS_PHASE.part [], F.BOOT_STATUS_ERR.part []] s t ∧
      sameBytes s t) ∧
  (∀ (s : State), s.inReset = false → coresStarted s = false ∨ s.fld F.MGT_STATUS_STATE = 1 → exec .mgtRestart s = .next (s)) ∧
  (∀ (s : State), s.inReset = false → (dirNow s.boot).seq < 2 ^ 32 → ∃ t, exec .swap s = .next t ∧ (if swapAccepts s then t.mgt.swapAt = some s.now ∧
      (dirNow t.boot).fwTrial = true else t.flag F.MGT_STATUS_SWAP_REFUSED = true ∧ t.mgt = s.mgt ∧ t.boot = s.boot) ∧ sameRegs
      [F.MGT_STATUS_SWAP_REFUSED.part [], F.BOOT_STATUS_FW_TRIAL.part []] s t ∧ sameBytes s t) ∧
  (∀ (s : State) (k : Nat), s.inReset = false → s.mgt.swapAt = some k → k + 1250000 ≤ s.now → ∃ t, exec .swapQuiesceTimeout s = .next t ∧ t.rd .MGT_SWAPS
      = satCount (s.rd .MGT_SWAPS) 1 ∧ t.mgt.swapAt = none ∧ (if (chooseSlot s).1 = none then t.fld F.MGT_STATUS_STATE = 3 ∧ t.fld F.BOOT_STATUS_PHASE =
      10 ∧ t.fld F.BOOT_STATUS_ERR = 3 else t.fld F.MGT_STATUS_STATE = 1) ∧ sameRegs
      [F.MGT_STATUS_STATE.part [], F.MGT_STATUS_CORES.part [], F.MGT_STATUS_SHED.part [], F.BOOT_STATUS_PHASE.part [], F.BOOT_STATUS_ERR.part [], F.BOOT_STATUS_FW_TRIAL.part [], F.BOOT_STATUS_FW_FELLBACK.part [], F.BOOT_STATUS_FW_SLOT.part [], { reg := .BOOT_FW_VER, idx := [] }, { reg := .MGT_SWAPS, idx := [] }]
      s t) ∧
  (∀ (s : State) (cores : BitVec 4) (c : Fin 4), coresRunning s = true → ∃ t, exec (.wdogKick cores) s = .next t ∧ t.mgt.kicks.get c = (if cores.getLsbD
      c then s.now else s.mgt.kicks.get c) ∧ t.mgt.swapAt = s.mgt.swapAt ∧ sameRegs [] s t ∧ sameBytes s t) ∧
  (∀ (s : State), coresRunning s = false ∨ s.mgt.swapAt.isSome = true ∨ (∀ c : Fin 4, s.now < s.mgt.kicks.get c + 2500000) → exec .wdogExpire s = .next
      (s)) ∧
  (∀ (s : State) (c : Fin 4), coresRunning s = true → s.mgt.swapAt = none → s.mgt.kicks.get c + 2500000 ≤ s.now → (∀ d : Fin 4, d < c → s.now <
      s.mgt.kicks.get d + 2500000) → ∃ t, exec .wdogExpire s = .next t ∧ t.rd .MGT_RESTARTS = satCount (s.rd .MGT_RESTARTS) 1 ∧
      { pair := { src := Src.MGT_WDOG, scope := Scope.device, index := c.val }, injected := false, dry := false } ∈ t.flt.raised ∧ (if (chooseSlot s).1
      = none then t.fld F.MGT_STATUS_STATE = 3 ∧ t.fld F.BOOT_STATUS_PHASE = 10 ∧ t.fld F.BOOT_STATUS_ERR = 3 else t.fld F.MGT_STATUS_STATE = 1) ∧
      sameRegs
      [F.MGT_STATUS_STATE.part [], F.MGT_STATUS_CORES.part [], F.MGT_STATUS_SHED.part [], F.BOOT_STATUS_PHASE.part [], F.BOOT_STATUS_ERR.part [], F.BOOT_STATUS_FW_TRIAL.part [], F.BOOT_STATUS_FW_FELLBACK.part [], F.BOOT_STATUS_FW_SLOT.part [], { reg := .BOOT_FW_VER, idx := [] }, { reg := .MGT_RESTARTS, idx := [] }]
      s t) ∧
  (∀ (s : State) (load : BitVec 7), ∃ t, exec (.mgtLoadBlock load) s = .next t ∧ t.fld F.MGT_LOAD_LOAD = min 100 load.toNat ∧ t.fld F.MGT_LOAD_PEAK = max
      (s.fld F.MGT_LOAD_PEAK) (min 100 load.toNat) ∧ (loadHigh s ≤ min 100 load.toNat → t.flag F.MGT_STATUS_SHED = true) ∧ sameRegs
      [{ reg := .MGT_LOAD, idx := [] }, F.MGT_STATUS_SHED.part []] s t ∧ sameBytes s t)

/-- From every state in which the lists of the register file and of the seventeen stores rise strictly and list nothing that an unlisted
place reads as, a step that answers a next state answers one with the same form: equal registers and equal memories are equal data after
every command. -/
def Obligations.CanonicalKept : Prop :=
  ∀ s t : State, s.canonical = true → step s = .next t → t.canonical = true

/-- For every instruction of the slice sequencer whose event words have the form of their instruction (six short words of EMIT, three long
words of EMITL) and every value of its operands, its word takes sixteen bytes, and the sequencer reads from them that instruction: no
bit of an operand is dropped or moved. -/
def Obligations.SequencerRoundTrip : Prop :=
  ∀ i : SeqInstr, i.wf = true → decodeSeq (encodeSeq i) = some i ∧ (encodeSeq i).length = 16
end

