-- ==== Sys2Proof/Laws/Maps.lean ====
section
/-!
SUPPORT. The laws of sparse maps: a read after a write, what a write leaves alone, and the canonical form, which every write keeps.
-/

namespace Sys2Proof.Machine

namespace SMap

variable {κ ν : Type} [DecidableEq κ]

@[simp] theorem get_nil (d : κ → ν) (k : κ) : get d [] k = d k := rfl

theorem get_erase_same (d : κ → ν) (m : SMap κ ν) (k : κ) : get d (erase m k) k = d k := by
  induction m with
  | nil => rfl
  | cons e t ih =>
    obtain ⟨a, v⟩ := e
    by_cases h : a = k <;> simp [erase, get, h, ih]

theorem get_erase_ne (d : κ → ν) (m : SMap κ ν) {k k' : κ} (h : k' ≠ k) : get d (erase m k) k' = get d m k' := by
  induction m with
  | nil => rfl
  | cons e t ih =>
    obtain ⟨a, v⟩ := e
    by_cases ha : a = k
    · subst ha; simp [erase, get, ih, Ne.symm h]
    · by_cases ha' : a = k'
      · subst ha'; simp [erase, get, ha]
      · simp [erase, get, ha, ha', ih]

theorem get_insert_same (lt : κ → κ → Bool) (d : κ → ν) (m : SMap κ ν) (k : κ) (v : ν) : get d (insert lt m k v) k = v := by
  induction m with
  | nil => simp [insert, get]
  | cons e t ih =>
    obtain ⟨a, w⟩ := e
    by_cases ha : a = k
    · simp [insert, get, ha]
    · by_cases hl : lt k a = true <;> simp [insert, get, ha, hl, ih]

theorem get_insert_ne (lt : κ → κ → Bool) (d : κ → ν) (m : SMap κ ν) {k k' : κ} (v : ν) (h : k' ≠ k) :
    get d (insert lt m k v) k' = get d m k' := by
  induction m with
  | nil => simp [insert, get, Ne.symm h]
  | cons e t ih =>
    obtain ⟨a, w⟩ := e
    by_cases ha : a = k
    · subst ha; simp [insert, get, Ne.symm h]
    · by_cases hl : lt k a = true
      · simp [insert, get, ha, hl, Ne.symm h]
      · by_cases ha' : a = k'
        · subst ha'; simp [insert, get, ha, hl]
        · simp [insert, get, ha, hl, ha', ih]

/-- A read after a write of the same key. -/
theorem get_put_same [DecidableEq ν] (lt : κ → κ → Bool) (d : κ → ν) (m : SMap κ ν) (k : κ) (v : ν) : get d (put lt d m k v) k = v := by
  unfold put
  split
  · rename_i h; rw [get_erase_same, h]
  · exact get_insert_same lt d m k v

/-- A write leaves every other key alone. -/
theorem get_put_ne [DecidableEq ν] (lt : κ → κ → Bool) (d : κ → ν) (m : SMap κ ν) {k k' : κ} (v : ν) (h : k' ≠ k) :
    get d (put lt d m k v) k' = get d m k' := by
  unfold put
  split
  · exact get_erase_ne d m h
  · exact get_insert_ne lt d m v h

theorem get_put [DecidableEq ν] (lt : κ → κ → Bool) (d : κ → ν) (m : SMap κ ν) (k k' : κ) (v : ν) :
    get d (put lt d m k v) k' = if k' = k then v else get d m k' := by
  by_cases h : k' = k
  · subst h; simp [get_put_same]
  · simp [h, get_put_ne lt d m v h]

/-! ### The canonical form -/

/-- An order that a canonical form can rest on: it is transitive, and of two keys one stands before the other or they are one. -/
structure StrictOrder (lt : κ → κ → Bool) : Prop where
  trans : ∀ a b c, lt a b = true → lt b c = true → lt a c = true
  total : ∀ a b, a ≠ b → lt a b = false → lt b a = true

/-- Every key of a map stands after a key. -/
def above (lt : κ → κ → Bool) (a : κ) (m : SMap κ ν) : Prop := ∀ e ∈ m, lt a e.1 = true

omit [DecidableEq κ] in
theorem sorted_cons {lt : κ → κ → Bool} (ho : StrictOrder lt) (a : κ) (v : ν) (t : SMap κ ν) :
    sorted lt ((a, v) :: t) = true ↔ above lt a t ∧ sorted lt t = true := by
  induction t generalizing a v with
  | nil => simp [sorted, above]
  | cons e u ih =>
    obtain ⟨b, w⟩ := e
    simp only [sorted, Bool.and_eq_true]
    constructor
    · rintro ⟨hab, hs⟩
      refine ⟨?_, hs⟩
      intro e he
      rcases List.mem_cons.1 he with rfl | he
      · exact hab
      · exact ho.trans _ _ _ hab (((ih b w).1 hs).1 e he)
    · rintro ⟨hab, hs⟩
      exact ⟨hab _ (List.mem_cons_self ..), hs⟩

theorem mem_erase {m : SMap κ ν} {k : κ} {e : κ × ν} (h : e ∈ erase m k) : e ∈ m ∧ e.1 ≠ k := by
  induction m with
  | nil => simp [erase] at h
  | cons x t ih =>
    obtain ⟨a, v⟩ := x
    by_cases ha : a = k
    · simp only [erase, ha, if_true] at h
      exact ⟨List.mem_cons_of_mem _ (ih h).1, (ih h).2⟩
    · simp only [erase, ha, if_false] at h
      rcases List.mem_cons.1 h with rfl | h
      · exact ⟨List.mem_cons_self .., ha⟩
      · exact ⟨List.mem_cons_of_mem _ (ih h).1, (ih h).2⟩

theorem mem_insert {lt : κ → κ → Bool} {m : SMap κ ν} {k : κ} {v : ν} {e : κ × ν} (h : e ∈ insert lt m k v) : e = (k, v) ∨ e ∈ m := by
  induction m with
  | nil => simpa [insert] using h
  | cons x t ih =>
    obtain ⟨a, w⟩ := x
    simp only [insert] at h
    split at h
    · rcases List.mem_cons.1 h with rfl | h
      · exact Or.inl rfl
      · exact Or.inr (List.mem_cons_of_mem _ h)
    · split at h
      · rcases List.mem_cons.1 h with rfl | h
        · exact Or.inl rfl
        · exact Or.inr h
      · rcases List.mem_cons.1 h with rfl | h
        · exact Or.inr (List.mem_cons_self ..)
        · rcases ih h with h | h
          · exact Or.inl h
          · exact Or.inr (List.mem_cons_of_mem _ h)

theorem sorted_erase {lt : κ → κ → Bool} (ho : StrictOrder lt) {m : SMap κ ν} (k : κ) (h : sorted lt m = true) :
    sorted lt (erase m k) = true := by
  induction m with
  | nil => rfl
  | cons x t ih =>
    obtain ⟨a, v⟩ := x
    obtain ⟨ha, hs⟩ := (sorted_cons ho a v t).1 h
    by_cases hk : a = k
    · simpa [erase, hk] using ih hs
    · simp only [erase, hk, if_false]
      exact (sorted_cons ho a v _).2 ⟨fun e he => ha e (mem_erase he).1, ih hs⟩

theorem sorted_insert {lt : κ → κ → Bool} (ho : StrictOrder lt) {m : SMap κ ν} (k : κ) (v : ν) (h : sorted lt m = true) :
    sorted lt (insert lt m k v) = true := by
  induction m with
  | nil => rfl
  | cons x t ih =>
    obtain ⟨a, w⟩ := x
    obtain ⟨ha, hs⟩ := (sorted_cons ho a w t).1 h
    by_cases hk : a = k
    · subst hk
      simp only [insert, if_true]
      exact (sorted_cons ho a v t).2 ⟨ha, hs⟩
    · by_cases hl : lt k a = true
      · simp only [insert, hk, if_false, hl, if_true]
        refine (sorted_cons ho k v _).2 ⟨?_, h⟩
        intro e he
        rcases List.mem_cons.1 he with rfl | he
        · exact hl
        · exact ho.trans _ _ _ hl (ha e he)
      · simp only [insert, hk, if_false, hl, Bool.false_eq_true]
        refine (sorted_cons ho a w _).2 ⟨?_, ih hs⟩
        intro e he
        rcases mem_insert he with rfl | he
        · exact ho.total _ _ (Ne.symm hk) (by simpa using hl)
        · exact ha e he

/-- Every write keeps the canonical form. -/
theorem wf_put [DecidableEq ν] {lt : κ → κ → Bool} (ho : StrictOrder lt) {d : κ → ν} {m : SMap κ ν} (k : κ) (v : ν)
    (h : wf lt d m = true) : wf lt d (put lt d m k v) = true := by
  simp only [wf, Bool.and_eq_true, List.all_eq_true, decide_eq_true_eq] at h ⊢
  unfold put
  split
  · exact ⟨sorted_erase ho k h.1, fun e he => h.2 e (mem_erase he).1⟩
  · rename_i hv
    refine ⟨sorted_insert ho k v h.1, fun e he => ?_⟩
    rcases mem_insert he with rfl | he
    · exact hv
    · exact h.2 e he

omit [DecidableEq κ] in
/-- Dropping entries keeps the canonical form. -/
theorem wf_filter [DecidableEq ν] {lt : κ → κ → Bool} (ho : StrictOrder lt) {d : κ → ν} {m : SMap κ ν} (p : κ × ν → Bool)
    (h : wf lt d m = true) : wf lt d (m.filter p) = true := by
  simp only [wf, Bool.and_eq_true, List.all_eq_true, decide_eq_true_eq] at h ⊢
  refine ⟨?_, fun e he => h.2 e (List.mem_of_mem_filter he)⟩
  have hs := h.1
  clear h
  induction m with
  | nil => rfl
  | cons x t ih =>
    obtain ⟨a, v⟩ := x
    obtain ⟨ha, ht⟩ := (sorted_cons ho a v t).1 hs
    rw [List.filter_cons]
    split
    · exact (sorted_cons ho a v _).2 ⟨fun e he => ha e (List.mem_of_mem_filter he), ih ht⟩
    · exact ih ht

omit [DecidableEq κ] in
@[simp] theorem wf_nil [DecidableEq ν] (lt : κ → κ → Bool) (d : κ → ν) : wf lt d [] = true := rfl

end SMap

/-- The order of numbers is one. -/
theorem natLt_order : SMap.StrictOrder natLt := by
  constructor
  · intro a b c; simp only [natLt, decide_eq_true_eq]; omega
  · intro a b; simp only [natLt, decide_eq_true_eq, decide_eq_false_iff_not]; omega

theorem Reg.ctorIdx_injective {a b : Reg} (h : a.ctorIdx = b.ctorIdx) : a = b := by
  have := Reg.ofNat_ctorIdx a
  have := Reg.ofNat_ctorIdx b
  simp_all

end Sys2Proof.Machine
end

