-- ==== Sys2Proof/Laws/Registers.lean ====
section
/-!
SUPPORT. The laws of the register file: what a write of a register or of a field changes, what it leaves alone, and its canonical form.
-/

namespace Sys2Proof.Machine

/-! ### Bit fields of a number -/

theorem bitsAt_eq (v lo w : Nat) : bitsAt v lo w = v / 2 ^ lo % 2 ^ w := by
  simp [bitsAt, Nat.shiftRight_eq_div_pow]

theorem putBits_eq (v lo w x : Nat) : putBits v lo w x = v / 2 ^ (lo + w) * 2 ^ (lo + w) + x % 2 ^ w * 2 ^ lo + v % 2 ^ lo := by
  simp [putBits, Nat.shiftRight_eq_div_pow, Nat.shiftLeft_eq]

/-- What was put in a field reads back. -/
theorem bitsAt_putBits_same (v lo w x : Nat) : bitsAt (putBits v lo w x) lo w = x % 2 ^ w := by
  rw [bitsAt_eq, putBits_eq]
  have hlo : 0 < 2 ^ lo := Nat.two_pow_pos _
  have h : v / 2 ^ (lo + w) * 2 ^ (lo + w) + x % 2 ^ w * 2 ^ lo + v % 2 ^ lo
      = 2 ^ lo * (2 ^ w * (v / 2 ^ (lo + w)) + x % 2 ^ w) + v % 2 ^ lo := by
    rw [Nat.pow_add]; ring
  rw [h, Nat.mul_add_div hlo, Nat.div_eq_of_lt (Nat.mod_lt _ hlo), Nat.add_zero, Nat.mul_add_mod, Nat.mod_mod]

/-- The bits below a field stay. -/
theorem bitsAt_putBits_below (v lo w x lo' w' : Nat) (h : lo' + w' ≤ lo) : bitsAt (putBits v lo w x) lo' w' = bitsAt v lo' w' := by
  rw [bitsAt_eq, bitsAt_eq, ← Nat.mod_mul_right_div_self, ← Nat.mod_mul_right_div_self, ← Nat.pow_add]
  congr 1
  rw [putBits_eq]
  obtain ⟨d, rfl⟩ := Nat.le.dest h
  have h1 : v / 2 ^ (lo' + w' + d + w) * 2 ^ (lo' + w' + d + w) + x % 2 ^ w * 2 ^ (lo' + w' + d) + v % 2 ^ (lo' + w' + d)
      = 2 ^ (lo' + w') * (v / 2 ^ (lo' + w' + d + w) * 2 ^ (d + w) + x % 2 ^ w * 2 ^ d) + v % 2 ^ (lo' + w' + d) := by
    rw [show lo' + w' + d + w = (lo' + w') + (d + w) by omega, Nat.pow_add 2 (lo' + w') (d + w), Nat.pow_add 2 (lo' + w') d]; ring
  rw [h1, Nat.mul_add_mod, Nat.pow_add 2 (lo' + w') d, Nat.mod_mul_right_mod]

/-- The bits above a field stay. -/
theorem bitsAt_putBits_above (v lo w x lo' w' : Nat) (h : lo + w ≤ lo') : bitsAt (putBits v lo w x) lo' w' = bitsAt v lo' w' := by
  rw [bitsAt_eq, bitsAt_eq]
  congr 1
  obtain ⟨d, rfl⟩ := Nat.le.dest h
  rw [Nat.pow_add 2 (lo + w) d, ← Nat.div_div_eq_div_mul, ← Nat.div_div_eq_div_mul]
  congr 1
  rw [putBits_eq]
  have hlt : x % 2 ^ w * 2 ^ lo + v % 2 ^ lo < 2 ^ (lo + w) := by
    have h1 : x % 2 ^ w < 2 ^ w := Nat.mod_lt _ (Nat.two_pow_pos _)
    have h2 : v % 2 ^ lo < 2 ^ lo := Nat.mod_lt _ (Nat.two_pow_pos _)
    have h3 : x % 2 ^ w * 2 ^ lo + v % 2 ^ lo < x % 2 ^ w * 2 ^ lo + 2 ^ lo := by omega
    have h4 : (x % 2 ^ w + 1) * 2 ^ lo ≤ 2 ^ w * 2 ^ lo := Nat.mul_le_mul_right _ h1
    rw [Nat.add_mul, Nat.one_mul] at h4
    rw [Nat.pow_add, Nat.mul_comm (2 ^ lo) (2 ^ w)]
    omega
  rw [Nat.add_assoc, Nat.mul_comm, Nat.mul_add_div (Nat.two_pow_pos _), Nat.div_eq_of_lt hlt, Nat.add_zero]

theorem putBits_lt (v lo w x : Nat) (hv : v < 2 ^ 32) (h : lo + w ≤ 32) : putBits v lo w x < 2 ^ 32 := by
  obtain ⟨d, hd⟩ := Nat.le.dest h
  have hdiv : putBits v lo w x / 2 ^ (lo + w) = v / 2 ^ (lo + w) := by
    have e := bitsAt_putBits_above v lo w x (lo + w) (33 + d) (Nat.le_refl _)
    rw [putBits_eq]
    have hlt : x % 2 ^ w * 2 ^ lo + v % 2 ^ lo < 2 ^ (lo + w) := by
      have h1 : x % 2 ^ w < 2 ^ w := Nat.mod_lt _ (Nat.two_pow_pos _)
      have h2 : v % 2 ^ lo < 2 ^ lo := Nat.mod_lt _ (Nat.two_pow_pos _)
      have h4 : (x % 2 ^ w + 1) * 2 ^ lo ≤ 2 ^ w * 2 ^ lo := Nat.mul_le_mul_right _ h1
      rw [Nat.add_mul, Nat.one_mul] at h4
      rw [Nat.pow_add, Nat.mul_comm (2 ^ lo) (2 ^ w)]
      omega
    rw [Nat.add_assoc, Nat.mul_comm, Nat.mul_add_div (Nat.two_pow_pos _), Nat.div_eq_of_lt hlt, Nat.add_zero]
  have hq : v / 2 ^ (lo + w) < 2 ^ d := by
    rw [Nat.div_lt_iff_lt_mul (Nat.two_pow_pos _), ← Nat.pow_add, show d + (lo + w) = 32 by omega]; exact hv
  rw [← hdiv, Nat.div_lt_iff_lt_mul (Nat.two_pow_pos _), ← Nat.pow_add, show d + (lo + w) = 32 by omega] at hq
  exact hq

/-! ### Registers and fields -/

@[simp] theorem State.rd_wr_same (s : State) (r : Reg) (v : Word) (i j k l : Nat) : (s.wr r v i j k l).rd r i j k l = v := by
  simp [State.rd, State.wr, RegFile.at, RegFile.to, SMap.get_put]

theorem State.rd_wr_reg (s : State) {r r' : Reg} (v : Word) (i j k l i' j' k' l' : Nat) (h : r' ≠ r) :
    (s.wr r v i j k l).rd r' i' j' k' l' = s.rd r' i' j' k' l' := by
  simp [State.rd, State.wr, RegFile.at, RegFile.to, SMap.get_put, h]

theorem State.rd_wr_index (s : State) {r r' : Reg} (v : Word) {i j k l i' j' k' l' : Nat} (h : i' ≠ i ∨ j' ≠ j ∨ k' ≠ k ∨ l' ≠ l) :
    (s.wr r v i j k l).rd r' i' j' k' l' = s.rd r' i' j' k' l' := by
  have : (⟨r', i', j', k', l'⟩ : RegKey) ≠ ⟨r, i, j, k, l⟩ := by
    intro e; injection e; omega
  simp [State.rd, State.wr, RegFile.at, RegFile.to, SMap.get_put, this]

theorem State.fld_wr_reg (s : State) (r : Reg) (g : Field) (v : Word) (i j k l i' j' k' l' : Nat) (h : g.reg ≠ r) :
    (s.wr r v i j k l).fld g i' j' k' l' = s.fld g i' j' k' l' := by
  simp [State.fld, State.rd_wr_reg _ _ _ _ _ _ _ _ _ _ h]

theorem State.rd_setFld_reg (s : State) (f : Field) (r : Reg) (v i j k l i' j' k' l' : Nat) (h : r ≠ f.reg) :
    (s.setFld f v i j k l).rd r i' j' k' l' = s.rd r i' j' k' l' :=
  State.rd_wr_reg _ _ _ _ _ _ _ _ _ _ h

/-- A field that was put reads back. -/
theorem State.fld_setFld_same (s : State) (f : Field) (v i j k l : Nat) (h : f.lo + f.width ≤ 32) :
    (s.setFld f v i j k l).fld f i j k l = v % 2 ^ f.width := by
  have := putBits_lt (s.rd f.reg i j k l).toNat f.lo f.width v (s.rd f.reg i j k l).isLt h
  simp only [State.fld, State.setFld, State.rd_wr_same, BitVec.toNat_ofNat, Nat.mod_eq_of_lt this, bitsAt_putBits_same]

/-- Fields of other registers stay. -/
theorem State.fld_setFld_reg (s : State) (f g : Field) (v i j k l i' j' k' l' : Nat) (h : g.reg ≠ f.reg) :
    (s.setFld f v i j k l).fld g i' j' k' l' = s.fld g i' j' k' l' :=
  State.fld_wr_reg _ _ _ _ _ _ _ _ _ _ _ _ h

/-- The other fields of the same register stay. -/
theorem State.fld_setFld_bits (s : State) (f g : Field) (v i j k l i' j' k' l' : Nat) (h : f.lo + f.width ≤ 32)
    (hg : g.lo + g.width ≤ f.lo ∨ f.lo + f.width ≤ g.lo) : (s.setFld f v i j k l).fld g i' j' k' l' = s.fld g i' j' k' l' := by
  by_cases e : (⟨g.reg, i', j', k', l'⟩ : RegKey) = ⟨f.reg, i, j, k, l⟩
  · injection e with e1 e2 e3 e4 e5
    subst e2 e3 e4 e5
    have := putBits_lt (s.rd f.reg i' j' k' l').toNat f.lo f.width v (s.rd f.reg i' j' k' l').isLt h
    simp only [State.fld, State.setFld, e1, State.rd_wr_same, BitVec.toNat_ofNat, Nat.mod_eq_of_lt this]
    rcases hg with hg | hg
    · exact bitsAt_putBits_below _ _ _ _ _ _ hg
    · exact bitsAt_putBits_above _ _ _ _ _ _ hg
  · simp [State.fld, State.setFld, State.rd, State.wr, RegFile.at, RegFile.to, SMap.get_put, e]

/-- A field of another instance stays. -/
theorem State.fld_setFld_index (s : State) (f g : Field) (v : Nat) {i j k l i' j' k' l' : Nat} (h : i' ≠ i ∨ j' ≠ j ∨ k' ≠ k ∨ l' ≠ l) :
    (s.setFld f v i j k l).fld g i' j' k' l' = s.fld g i' j' k' l' := by
  simp [State.fld, State.setFld, State.rd_wr_index _ _ h]

theorem State.fld_lt (s : State) (f : Field) (i j k l : Nat) : s.fld f i j k l < 2 ^ f.width := by
  simp only [State.fld, bitsAt_eq]; exact Nat.mod_lt _ (Nat.two_pow_pos _)

@[simp] theorem bit01_beq_one (b : Bool) : (bit01 b == 1) = b := by cases b <;> rfl

/-- A flag that was put reads back. -/
theorem State.flag_setFlag_same (s : State) (f : Field) (b : Bool) (i j k l : Nat) (h : f.lo + f.width ≤ 32) (hw : f.width = 1) :
    (s.setFlag f b i j k l).flag f i j k l = b := by
  simp only [State.flag, State.setFlag, State.fld_setFld_same s f _ i j k l h, hw]
  cases b <;> rfl

theorem State.flag_setFld_reg (s : State) (f g : Field) (v i j k l i' j' k' l' : Nat) (h : g.reg ≠ f.reg) :
    (s.setFld f v i j k l).flag g i' j' k' l' = s.flag g i' j' k' l' := by
  simp [State.flag, State.fld_setFld_reg s f g v i j k l i' j' k' l' h]

theorem State.flag_setFld_bits (s : State) (f g : Field) (v i j k l i' j' k' l' : Nat) (h : f.lo + f.width ≤ 32)
    (hg : g.lo + g.width ≤ f.lo ∨ f.lo + f.width ≤ g.lo) : (s.setFld f v i j k l).flag g i' j' k' l' = s.flag g i' j' k' l' := by
  simp [State.flag, State.fld_setFld_bits s f g v i j k l i' j' k' l' h hg]

theorem State.fld_setFlag_reg (s : State) (f g : Field) (b : Bool) (i j k l i' j' k' l' : Nat) (h : g.reg ≠ f.reg) :
    (s.setFlag f b i j k l).fld g i' j' k' l' = s.fld g i' j' k' l' := State.fld_setFld_reg _ _ _ _ _ _ _ _ _ _ _ _ h

theorem State.fld_setFlag_bits (s : State) (f g : Field) (b : Bool) (i j k l i' j' k' l' : Nat) (h : f.lo + f.width ≤ 32)
    (hg : g.lo + g.width ≤ f.lo ∨ f.lo + f.width ≤ g.lo) : (s.setFlag f b i j k l).fld g i' j' k' l' = s.fld g i' j' k' l' :=
  State.fld_setFld_bits _ _ _ _ _ _ _ _ _ _ _ _ h hg

theorem State.flag_setFlag_reg (s : State) (f g : Field) (b : Bool) (i j k l i' j' k' l' : Nat) (h : g.reg ≠ f.reg) :
    (s.setFlag f b i j k l).flag g i' j' k' l' = s.flag g i' j' k' l' := State.flag_setFld_reg _ _ _ _ _ _ _ _ _ _ _ _ h

theorem State.flag_setFlag_bits (s : State) (f g : Field) (b : Bool) (i j k l i' j' k' l' : Nat) (h : f.lo + f.width ≤ 32)
    (hg : g.lo + g.width ≤ f.lo ∨ f.lo + f.width ≤ g.lo) : (s.setFlag f b i j k l).flag g i' j' k' l' = s.flag g i' j' k' l' :=
  State.flag_setFld_bits _ _ _ _ _ _ _ _ _ _ _ _ h hg

theorem State.flag_wr_reg (s : State) (r : Reg) (g : Field) (v : Word) (i j k l i' j' k' l' : Nat) (h : g.reg ≠ r) :
    (s.wr r v i j k l).flag g i' j' k' l' = s.flag g i' j' k' l' := by
  simp [State.flag, State.fld_wr_reg s r g v i j k l i' j' k' l' h]

/-! ### Counters (R12) -/

/-- A counter below all ones counts by one. -/
theorem satCount_one (v : Word) (h : v.toNat ≠ 0xFFFFFFFF) : (satCount v 1).toNat = v.toNat + 1 := by
  have := v.isLt
  simp only [satCount, BitVec.toNat_ofNat]
  omega

/-- A counter at all ones stays there. -/
theorem satCount_full (n : Nat) : satCount 0xFFFFFFFF#32 n = 0xFFFFFFFF#32 := by
  simp [satCount]

/-- A counter never falls. -/
theorem satCount_le (v : Word) (n : Nat) : v.toNat ≤ (satCount v n).toNat := by
  have := v.isLt
  simp only [satCount, BitVec.toNat_ofNat]
  omega

@[simp] theorem State.rd_countBy_same (s : State) (r : Reg) (n i j k l : Nat) : (s.countBy r n i j k l).rd r i j k l = satCount (s.rd r i j k l) n := by
  simp [State.countBy]

@[simp] theorem State.rd_count_same (s : State) (r : Reg) (i j k l : Nat) : (s.count r i j k l).rd r i j k l = satCount (s.rd r i j k l) 1 := by
  simp [State.count]

theorem State.fld_count_reg (s : State) (r : Reg) (g : Field) (i j k l i' j' k' l' : Nat) (h : g.reg ≠ r) :
    (s.count r i j k l).fld g i' j' k' l' = s.fld g i' j' k' l' := State.fld_wr_reg _ _ _ _ _ _ _ _ _ _ _ _ h

theorem State.flag_count_reg (s : State) (r : Reg) (g : Field) (i j k l i' j' k' l' : Nat) (h : g.reg ≠ r) :
    (s.count r i j k l).flag g i' j' k' l' = s.flag g i' j' k' l' := State.flag_wr_reg _ _ _ _ _ _ _ _ _ _ _ _ h

theorem State.rd_count_reg (s : State) (r r' : Reg) (i j k l i' j' k' l' : Nat) (h : r' ≠ r) :
    (s.count r i j k l).rd r' i' j' k' l' = s.rd r' i' j' k' l' := State.rd_wr_reg _ _ _ _ _ _ _ _ _ _ h

/-! ### The canonical form -/

theorem regKeyLt_order : SMap.StrictOrder RegKey.lt := by
  constructor
  · intro a b c
    simp only [RegKey.lt]
    repeat' split
    all_goals simp only [decide_eq_true_eq]
    all_goals omega
  · intro a b hne
    simp only [RegKey.lt]
    have : ¬ (a.reg.ctorIdx = b.reg.ctorIdx ∧ a.i = b.i ∧ a.j = b.j ∧ a.k = b.k ∧ a.l = b.l) := by
      rintro ⟨h1, h2, h3, h4, h5⟩
      have h0 := Reg.ctorIdx_injective h1
      exact hne (by cases a; cases b; simp_all)
    repeat' split
    all_goals simp only [decide_eq_true_eq, decide_eq_false_iff_not]
    all_goals omega

/-- A write of a register keeps the canonical form of the register file. -/
theorem RegFile.wf_to {m : RegFile} (key : RegKey) (v : Word) (h : m.wf = true) : (RegFile.to m key v).wf = true :=
  SMap.wf_put regKeyLt_order key v h

theorem State.wr_regs_wf {s : State} (r : Reg) (v : Word) (i j k l : Nat) (h : s.regs.wf = true) : (s.wr r v i j k l).regs.wf = true :=
  RegFile.wf_to _ _ h

theorem State.setFld_regs_wf {s : State} (f : Field) (v i j k l : Nat) (h : s.regs.wf = true) : (s.setFld f v i j k l).regs.wf = true :=
  State.wr_regs_wf _ _ _ _ _ _ h

/-! ### The stores -/

theorem Store.byteAt_setByte (st : Store) (a b : Nat) (v : Byte) : (st.setByte a v).byteAt b = if b = a then v else st.byteAt b :=
  SMap.get_put _ _ _ _ _ _

theorem Store.wf_setByte {st : Store} (a : Nat) (v : Byte) (h : st.wf = true) : (st.setByte a v).wf = true :=
  SMap.wf_put natLt_order a v h

/-- A write of bytes keeps the canonical form of a store. -/
theorem Store.wf_writeBytes {st : Store} (a : Nat) (l : List Byte) (h : st.wf = true) : (st.writeBytes a l).wf = true := by
  induction l generalizing st a with
  | nil => exact h
  | cons b t ih => exact ih _ (Store.wf_setByte _ _ h)

/-- A byte outside the range written stays. -/
theorem Store.byteAt_writeBytes_outside (st : Store) (a : Nat) (l : List Byte) {b : Nat} (h : b < a ∨ a + l.length ≤ b) :
    (st.writeBytes a l).byteAt b = st.byteAt b := by
  induction l generalizing st a with
  | nil => rfl
  | cons x t ih =>
    simp only [List.length_cons] at h
    rw [Store.writeBytes, ih _ _ (by omega), Store.byteAt_setByte, if_neg (by omega)]

/-- A byte of the range written reads as written. -/
theorem Store.byteAt_writeBytes_inside (st : Store) (a : Nat) (l : List Byte) {i : Nat} (h : i < l.length) :
    (st.writeBytes a l).byteAt (a + i) = l[i] := by
  induction l generalizing st a i with
  | nil => simp at h
  | cons x t ih =>
    rw [Store.writeBytes]
    cases i with
    | zero => rw [Store.byteAt_writeBytes_outside _ _ _ (by omega), Store.byteAt_setByte]; simp
    | succ i =>
      rw [show a + (i + 1) = a + 1 + i by omega, ih _ _ (by simpa using h)]
      rfl

@[simp] theorem Store.wf_cleanWord (st : Store) (w : Nat) : (st.cleanWord w).wf = st.wf := rfl
@[simp] theorem Store.byteAt_cleanWord (st : Store) (w a : Nat) : (st.cleanWord w).byteAt a = st.byteAt a := rfl
@[simp] theorem Store.wf_cleanLine (st : Store) (w : Nat) : (st.cleanLine w).wf = st.wf := rfl
@[simp] theorem Store.byteAt_cleanLine (st : Store) (w a : Nat) : (st.cleanLine w).byteAt a = st.byteAt a := rfl

theorem Store.wf_cleanWords (l : List Nat) (st : Store) : (l.foldl Store.cleanWord st).wf = st.wf := by
  induction l generalizing st with
  | nil => rfl
  | cons w t ih => rw [List.foldl_cons, ih, Store.wf_cleanWord]

theorem Store.byteAt_cleanWords (l : List Nat) (st : Store) (a : Nat) : (l.foldl Store.cleanWord st).byteAt a = st.byteAt a := by
  induction l generalizing st with
  | nil => rfl
  | cons w t ih => rw [List.foldl_cons, ih, Store.byteAt_cleanWord]

theorem Store.wf_writeLine {st : Store} (line : Nat) (l : List Byte) (h : st.wf = true) : (st.writeLine line l).wf = true := by
  rw [Store.writeLine, Store.wf_cleanLine]; exact Store.wf_writeBytes _ _ h

theorem Store.initial_wf : Store.initial.wf = true := rfl

end Sys2Proof.Machine
end

