-- ==== Sys2Proof/Laws/State.lean ====
section
/-!
SUPPORT. The fields of the state after each basic update: an update of the register file leaves every other field, an update of a slice leaves
the other slices and every other field.
-/

namespace Sys2Proof.Machine

/-! ### State.wr -/

@[simp] theorem State.wr_slices (s : State) (r : Reg) (v : Word) (i j k l : Nat) : (s.wr r v i j k l).slices = s.slices := rfl
@[simp] theorem State.wr_cstore (s : State) (r : Reg) (v : Word) (i j k l : Nat) : (s.wr r v i j k l).cstore = s.cstore := rfl
@[simp] theorem State.wr_flt (s : State) (r : Reg) (v : Word) (i j k l : Nat) : (s.wr r v i j k l).flt = s.flt := rfl
@[simp] theorem State.wr_evt (s : State) (r : Reg) (v : Word) (i j k l : Nat) : (s.wr r v i j k l).evt = s.evt := rfl
@[simp] theorem State.wr_rpl (s : State) (r : Reg) (v : Word) (i j k l : Nat) : (s.wr r v i j k l).rpl = s.rpl := rfl
@[simp] theorem State.wr_pwr (s : State) (r : Reg) (v : Word) (i j k l : Nat) : (s.wr r v i j k l).pwr = s.pwr := rfl
@[simp] theorem State.wr_xbar (s : State) (r : Reg) (v : Word) (i j k l : Nat) : (s.wr r v i j k l).xbar = s.xbar := rfl
@[simp] theorem State.wr_ktl (s : State) (r : Reg) (v : Word) (i j k l : Nat) : (s.wr r v i j k l).ktl = s.ktl := rfl
@[simp] theorem State.wr_trg (s : State) (r : Reg) (v : Word) (i j k l : Nat) : (s.wr r v i j k l).trg = s.trg := rfl
@[simp] theorem State.wr_chn (s : State) (r : Reg) (v : Word) (i j k l : Nat) : (s.wr r v i j k l).chn = s.chn := rfl
@[simp] theorem State.wr_host (s : State) (r : Reg) (v : Word) (i j k l : Nat) : (s.wr r v i j k l).host = s.host := rfl
@[simp] theorem State.wr_tod (s : State) (r : Reg) (v : Word) (i j k l : Nat) : (s.wr r v i j k l).tod = s.tod := rfl
@[simp] theorem State.wr_guardLevel (s : State) (r : Reg) (v : Word) (i j k l : Nat) : (s.wr r v i j k l).guardLevel = s.guardLevel := rfl
@[simp] theorem State.wr_guardRise (s : State) (r : Reg) (v : Word) (i j k l : Nat) : (s.wr r v i j k l).guardRise = s.guardRise := rfl
@[simp] theorem State.wr_readValue (s : State) (r : Reg) (v : Word) (i j k l : Nat) : (s.wr r v i j k l).readValue = s.readValue := rfl
@[simp] theorem State.wr_now (s : State) (r : Reg) (v : Word) (i j k l : Nat) : (s.wr r v i j k l).now = s.now := rfl
@[simp] theorem State.wr_beat (s : State) (r : Reg) (v : Word) (i j k l : Nat) : (s.wr r v i j k l).beat = s.beat := rfl
@[simp] theorem State.wr_pending (s : State) (r : Reg) (v : Word) (i j k l : Nat) : (s.wr r v i j k l).pending = s.pending := rfl
@[simp] theorem State.wr_dma (s : State) (r : Reg) (v : Word) (i j k l : Nat) : (s.wr r v i j k l).dma = s.dma := rfl
@[simp] theorem State.wr_side (s : State) (r : Reg) (v : Word) (i j k l : Nat) : (s.wr r v i j k l).side = s.side := rfl
@[simp] theorem State.wr_pewter (s : State) (r : Reg) (v : Word) (i j k l : Nat) : (s.wr r v i j k l).pewter = s.pewter := rfl
@[simp] theorem State.wr_acc (s : State) (r : Reg) (v : Word) (i j k l : Nat) : (s.wr r v i j k l).acc = s.acc := rfl
@[simp] theorem State.wr_cal (s : State) (r : Reg) (v : Word) (i j k l : Nat) : (s.wr r v i j k l).cal = s.cal := rfl
@[simp] theorem State.wr_img (s : State) (r : Reg) (v : Word) (i j k l : Nat) : (s.wr r v i j k l).img = s.img := rfl
@[simp] theorem State.wr_boot (s : State) (r : Reg) (v : Word) (i j k l : Nat) : (s.wr r v i j k l).boot = s.boot := rfl
@[simp] theorem State.wr_mgt (s : State) (r : Reg) (v : Word) (i j k l : Nat) : (s.wr r v i j k l).mgt = s.mgt := rfl
@[simp] theorem State.wr_tap (s : State) (r : Reg) (v : Word) (i j k l : Nat) : (s.wr r v i j k l).tap = s.tap := rfl
@[simp] theorem State.wr_supply (s : State) (r : Reg) (v : Word) (i j k l : Nat) : (s.wr r v i j k l).supply = s.supply := rfl
@[simp] theorem State.wr_shadow (s : State) (r : Reg) (v : Word) (i j k l : Nat) : (s.wr r v i j k l).shadow = s.shadow := rfl
@[simp] theorem State.wr_staged (s : State) (r : Reg) (v : Word) (i j k l : Nat) : (s.wr r v i j k l).staged = s.staged := rfl

/-! ### State.setFld -/

@[simp] theorem State.setFld_slices (s : State) (f : Field) (v i j k l : Nat) : (s.setFld f v i j k l).slices = s.slices := by rw [State.setFld, State.wr_slices]
@[simp] theorem State.setFld_cstore (s : State) (f : Field) (v i j k l : Nat) : (s.setFld f v i j k l).cstore = s.cstore := by rw [State.setFld, State.wr_cstore]
@[simp] theorem State.setFld_flt (s : State) (f : Field) (v i j k l : Nat) : (s.setFld f v i j k l).flt = s.flt := by rw [State.setFld, State.wr_flt]
@[simp] theorem State.setFld_evt (s : State) (f : Field) (v i j k l : Nat) : (s.setFld f v i j k l).evt = s.evt := by rw [State.setFld, State.wr_evt]
@[simp] theorem State.setFld_rpl (s : State) (f : Field) (v i j k l : Nat) : (s.setFld f v i j k l).rpl = s.rpl := by rw [State.setFld, State.wr_rpl]
@[simp] theorem State.setFld_pwr (s : State) (f : Field) (v i j k l : Nat) : (s.setFld f v i j k l).pwr = s.pwr := by rw [State.setFld, State.wr_pwr]
@[simp] theorem State.setFld_xbar (s : State) (f : Field) (v i j k l : Nat) : (s.setFld f v i j k l).xbar = s.xbar := by rw [State.setFld, State.wr_xbar]
@[simp] theorem State.setFld_ktl (s : State) (f : Field) (v i j k l : Nat) : (s.setFld f v i j k l).ktl = s.ktl := by rw [State.setFld, State.wr_ktl]
@[simp] theorem State.setFld_trg (s : State) (f : Field) (v i j k l : Nat) : (s.setFld f v i j k l).trg = s.trg := by rw [State.setFld, State.wr_trg]
@[simp] theorem State.setFld_chn (s : State) (f : Field) (v i j k l : Nat) : (s.setFld f v i j k l).chn = s.chn := by rw [State.setFld, State.wr_chn]
@[simp] theorem State.setFld_host (s : State) (f : Field) (v i j k l : Nat) : (s.setFld f v i j k l).host = s.host := by rw [State.setFld, State.wr_host]
@[simp] theorem State.setFld_tod (s : State) (f : Field) (v i j k l : Nat) : (s.setFld f v i j k l).tod = s.tod := by rw [State.setFld, State.wr_tod]
@[simp] theorem State.setFld_guardLevel (s : State) (f : Field) (v i j k l : Nat) : (s.setFld f v i j k l).guardLevel = s.guardLevel := by rw [State.setFld, State.wr_guardLevel]
@[simp] theorem State.setFld_guardRise (s : State) (f : Field) (v i j k l : Nat) : (s.setFld f v i j k l).guardRise = s.guardRise := by rw [State.setFld, State.wr_guardRise]
@[simp] theorem State.setFld_readValue (s : State) (f : Field) (v i j k l : Nat) : (s.setFld f v i j k l).readValue = s.readValue := by rw [State.setFld, State.wr_readValue]
@[simp] theorem State.setFld_now (s : State) (f : Field) (v i j k l : Nat) : (s.setFld f v i j k l).now = s.now := by rw [State.setFld, State.wr_now]
@[simp] theorem State.setFld_beat (s : State) (f : Field) (v i j k l : Nat) : (s.setFld f v i j k l).beat = s.beat := by rw [State.setFld, State.wr_beat]
@[simp] theorem State.setFld_pending (s : State) (f : Field) (v i j k l : Nat) : (s.setFld f v i j k l).pending = s.pending := by rw [State.setFld, State.wr_pending]
@[simp] theorem State.setFld_dma (s : State) (f : Field) (v i j k l : Nat) : (s.setFld f v i j k l).dma = s.dma := by rw [State.setFld, State.wr_dma]
@[simp] theorem State.setFld_side (s : State) (f : Field) (v i j k l : Nat) : (s.setFld f v i j k l).side = s.side := by rw [State.setFld, State.wr_side]
@[simp] theorem State.setFld_pewter (s : State) (f : Field) (v i j k l : Nat) : (s.setFld f v i j k l).pewter = s.pewter := by rw [State.setFld, State.wr_pewter]
@[simp] theorem State.setFld_acc (s : State) (f : Field) (v i j k l : Nat) : (s.setFld f v i j k l).acc = s.acc := by rw [State.setFld, State.wr_acc]
@[simp] theorem State.setFld_cal (s : State) (f : Field) (v i j k l : Nat) : (s.setFld f v i j k l).cal = s.cal := by rw [State.setFld, State.wr_cal]
@[simp] theorem State.setFld_img (s : State) (f : Field) (v i j k l : Nat) : (s.setFld f v i j k l).img = s.img := by rw [State.setFld, State.wr_img]
@[simp] theorem State.setFld_boot (s : State) (f : Field) (v i j k l : Nat) : (s.setFld f v i j k l).boot = s.boot := by rw [State.setFld, State.wr_boot]
@[simp] theorem State.setFld_mgt (s : State) (f : Field) (v i j k l : Nat) : (s.setFld f v i j k l).mgt = s.mgt := by rw [State.setFld, State.wr_mgt]
@[simp] theorem State.setFld_tap (s : State) (f : Field) (v i j k l : Nat) : (s.setFld f v i j k l).tap = s.tap := by rw [State.setFld, State.wr_tap]
@[simp] theorem State.setFld_supply (s : State) (f : Field) (v i j k l : Nat) : (s.setFld f v i j k l).supply = s.supply := by rw [State.setFld, State.wr_supply]
@[simp] theorem State.setFld_shadow (s : State) (f : Field) (v i j k l : Nat) : (s.setFld f v i j k l).shadow = s.shadow := by rw [State.setFld, State.wr_shadow]
@[simp] theorem State.setFld_staged (s : State) (f : Field) (v i j k l : Nat) : (s.setFld f v i j k l).staged = s.staged := by rw [State.setFld, State.wr_staged]

/-! ### State.setFlag -/

@[simp] theorem State.setFlag_slices (s : State) (f : Field) (b : Bool) (i j k l : Nat) : (s.setFlag f b i j k l).slices = s.slices := by rw [State.setFlag, State.setFld_slices]
@[simp] theorem State.setFlag_cstore (s : State) (f : Field) (b : Bool) (i j k l : Nat) : (s.setFlag f b i j k l).cstore = s.cstore := by rw [State.setFlag, State.setFld_cstore]
@[simp] theorem State.setFlag_flt (s : State) (f : Field) (b : Bool) (i j k l : Nat) : (s.setFlag f b i j k l).flt = s.flt := by rw [State.setFlag, State.setFld_flt]
@[simp] theorem State.setFlag_evt (s : State) (f : Field) (b : Bool) (i j k l : Nat) : (s.setFlag f b i j k l).evt = s.evt := by rw [State.setFlag, State.setFld_evt]
@[simp] theorem State.setFlag_rpl (s : State) (f : Field) (b : Bool) (i j k l : Nat) : (s.setFlag f b i j k l).rpl = s.rpl := by rw [State.setFlag, State.setFld_rpl]
@[simp] theorem State.setFlag_pwr (s : State) (f : Field) (b : Bool) (i j k l : Nat) : (s.setFlag f b i j k l).pwr = s.pwr := by rw [State.setFlag, State.setFld_pwr]
@[simp] theorem State.setFlag_xbar (s : State) (f : Field) (b : Bool) (i j k l : Nat) : (s.setFlag f b i j k l).xbar = s.xbar := by rw [State.setFlag, State.setFld_xbar]
@[simp] theorem State.setFlag_ktl (s : State) (f : Field) (b : Bool) (i j k l : Nat) : (s.setFlag f b i j k l).ktl = s.ktl := by rw [State.setFlag, State.setFld_ktl]
@[simp] theorem State.setFlag_trg (s : State) (f : Field) (b : Bool) (i j k l : Nat) : (s.setFlag f b i j k l).trg = s.trg := by rw [State.setFlag, State.setFld_trg]
@[simp] theorem State.setFlag_chn (s : State) (f : Field) (b : Bool) (i j k l : Nat) : (s.setFlag f b i j k l).chn = s.chn := by rw [State.setFlag, State.setFld_chn]
@[simp] theorem State.setFlag_host (s : State) (f : Field) (b : Bool) (i j k l : Nat) : (s.setFlag f b i j k l).host = s.host := by rw [State.setFlag, State.setFld_host]
@[simp] theorem State.setFlag_tod (s : State) (f : Field) (b : Bool) (i j k l : Nat) : (s.setFlag f b i j k l).tod = s.tod := by rw [State.setFlag, State.setFld_tod]
@[simp] theorem State.setFlag_guardLevel (s : State) (f : Field) (b : Bool) (i j k l : Nat) : (s.setFlag f b i j k l).guardLevel = s.guardLevel := by rw [State.setFlag, State.setFld_guardLevel]
@[simp] theorem State.setFlag_guardRise (s : State) (f : Field) (b : Bool) (i j k l : Nat) : (s.setFlag f b i j k l).guardRise = s.guardRise := by rw [State.setFlag, State.setFld_guardRise]
@[simp] theorem State.setFlag_readValue (s : State) (f : Field) (b : Bool) (i j k l : Nat) : (s.setFlag f b i j k l).readValue = s.readValue := by rw [State.setFlag, State.setFld_readValue]
@[simp] theorem State.setFlag_now (s : State) (f : Field) (b : Bool) (i j k l : Nat) : (s.setFlag f b i j k l).now = s.now := by rw [State.setFlag, State.setFld_now]
@[simp] theorem State.setFlag_beat (s : State) (f : Field) (b : Bool) (i j k l : Nat) : (s.setFlag f b i j k l).beat = s.beat := by rw [State.setFlag, State.setFld_beat]
@[simp] theorem State.setFlag_pending (s : State) (f : Field) (b : Bool) (i j k l : Nat) : (s.setFlag f b i j k l).pending = s.pending := by rw [State.setFlag, State.setFld_pending]
@[simp] theorem State.setFlag_dma (s : State) (f : Field) (b : Bool) (i j k l : Nat) : (s.setFlag f b i j k l).dma = s.dma := by rw [State.setFlag, State.setFld_dma]
@[simp] theorem State.setFlag_side (s : State) (f : Field) (b : Bool) (i j k l : Nat) : (s.setFlag f b i j k l).side = s.side := by rw [State.setFlag, State.setFld_side]
@[simp] theorem State.setFlag_pewter (s : State) (f : Field) (b : Bool) (i j k l : Nat) : (s.setFlag f b i j k l).pewter = s.pewter := by rw [State.setFlag, State.setFld_pewter]
@[simp] theorem State.setFlag_acc (s : State) (f : Field) (b : Bool) (i j k l : Nat) : (s.setFlag f b i j k l).acc = s.acc := by rw [State.setFlag, State.setFld_acc]
@[simp] theorem State.setFlag_cal (s : State) (f : Field) (b : Bool) (i j k l : Nat) : (s.setFlag f b i j k l).cal = s.cal := by rw [State.setFlag, State.setFld_cal]
@[simp] theorem State.setFlag_img (s : State) (f : Field) (b : Bool) (i j k l : Nat) : (s.setFlag f b i j k l).img = s.img := by rw [State.setFlag, State.setFld_img]
@[simp] theorem State.setFlag_boot (s : State) (f : Field) (b : Bool) (i j k l : Nat) : (s.setFlag f b i j k l).boot = s.boot := by rw [State.setFlag, State.setFld_boot]
@[simp] theorem State.setFlag_mgt (s : State) (f : Field) (b : Bool) (i j k l : Nat) : (s.setFlag f b i j k l).mgt = s.mgt := by rw [State.setFlag, State.setFld_mgt]
@[simp] theorem State.setFlag_tap (s : State) (f : Field) (b : Bool) (i j k l : Nat) : (s.setFlag f b i j k l).tap = s.tap := by rw [State.setFlag, State.setFld_tap]
@[simp] theorem State.setFlag_supply (s : State) (f : Field) (b : Bool) (i j k l : Nat) : (s.setFlag f b i j k l).supply = s.supply := by rw [State.setFlag, State.setFld_supply]
@[simp] theorem State.setFlag_shadow (s : State) (f : Field) (b : Bool) (i j k l : Nat) : (s.setFlag f b i j k l).shadow = s.shadow := by rw [State.setFlag, State.setFld_shadow]
@[simp] theorem State.setFlag_staged (s : State) (f : Field) (b : Bool) (i j k l : Nat) : (s.setFlag f b i j k l).staged = s.staged := by rw [State.setFlag, State.setFld_staged]

/-! ### State.countBy -/

@[simp] theorem State.countBy_slices (s : State) (r : Reg) (n i j k l : Nat) : (s.countBy r n i j k l).slices = s.slices := by rw [State.countBy, State.wr_slices]
@[simp] theorem State.countBy_cstore (s : State) (r : Reg) (n i j k l : Nat) : (s.countBy r n i j k l).cstore = s.cstore := by rw [State.countBy, State.wr_cstore]
@[simp] theorem State.countBy_flt (s : State) (r : Reg) (n i j k l : Nat) : (s.countBy r n i j k l).flt = s.flt := by rw [State.countBy, State.wr_flt]
@[simp] theorem State.countBy_evt (s : State) (r : Reg) (n i j k l : Nat) : (s.countBy r n i j k l).evt = s.evt := by rw [State.countBy, State.wr_evt]
@[simp] theorem State.countBy_rpl (s : State) (r : Reg) (n i j k l : Nat) : (s.countBy r n i j k l).rpl = s.rpl := by rw [State.countBy, State.wr_rpl]
@[simp] theorem State.countBy_pwr (s : State) (r : Reg) (n i j k l : Nat) : (s.countBy r n i j k l).pwr = s.pwr := by rw [State.countBy, State.wr_pwr]
@[simp] theorem State.countBy_xbar (s : State) (r : Reg) (n i j k l : Nat) : (s.countBy r n i j k l).xbar = s.xbar := by rw [State.countBy, State.wr_xbar]
@[simp] theorem State.countBy_ktl (s : State) (r : Reg) (n i j k l : Nat) : (s.countBy r n i j k l).ktl = s.ktl := by rw [State.countBy, State.wr_ktl]
@[simp] theorem State.countBy_trg (s : State) (r : Reg) (n i j k l : Nat) : (s.countBy r n i j k l).trg = s.trg := by rw [State.countBy, State.wr_trg]
@[simp] theorem State.countBy_chn (s : State) (r : Reg) (n i j k l : Nat) : (s.countBy r n i j k l).chn = s.chn := by rw [State.countBy, State.wr_chn]
@[simp] theorem State.countBy_host (s : State) (r : Reg) (n i j k l : Nat) : (s.countBy r n i j k l).host = s.host := by rw [State.countBy, State.wr_host]
@[simp] theorem State.countBy_tod (s : State) (r : Reg) (n i j k l : Nat) : (s.countBy r n i j k l).tod = s.tod := by rw [State.countBy, State.wr_tod]
@[simp] theorem State.countBy_guardLevel (s : State) (r : Reg) (n i j k l : Nat) : (s.countBy r n i j k l).guardLevel = s.guardLevel := by rw [State.countBy, State.wr_guardLevel]
@[simp] theorem State.countBy_guardRise (s : State) (r : Reg) (n i j k l : Nat) : (s.countBy r n i j k l).guardRise = s.guardRise := by rw [State.countBy, State.wr_guardRise]
@[simp] theorem State.countBy_readValue (s : State) (r : Reg) (n i j k l : Nat) : (s.countBy r n i j k l).readValue = s.readValue := by rw [State.countBy, State.wr_readValue]
@[simp] theorem State.countBy_now (s : State) (r : Reg) (n i j k l : Nat) : (s.countBy r n i j k l).now = s.now := by rw [State.countBy, State.wr_now]
@[simp] theorem State.countBy_beat (s : State) (r : Reg) (n i j k l : Nat) : (s.countBy r n i j k l).beat = s.beat := by rw [State.countBy, State.wr_beat]
@[simp] theorem State.countBy_pending (s : State) (r : Reg) (n i j k l : Nat) : (s.countBy r n i j k l).pending = s.pending := by rw [State.countBy, State.wr_pending]
@[simp] theorem State.countBy_dma (s : State) (r : Reg) (n i j k l : Nat) : (s.countBy r n i j k l).dma = s.dma := by rw [State.countBy, State.wr_dma]
@[simp] theorem State.countBy_side (s : State) (r : Reg) (n i j k l : Nat) : (s.countBy r n i j k l).side = s.side := by rw [State.countBy, State.wr_side]
@[simp] theorem State.countBy_pewter (s : State) (r : Reg) (n i j k l : Nat) : (s.countBy r n i j k l).pewter = s.pewter := by rw [State.countBy, State.wr_pewter]
@[simp] theorem State.countBy_acc (s : State) (r : Reg) (n i j k l : Nat) : (s.countBy r n i j k l).acc = s.acc := by rw [State.countBy, State.wr_acc]
@[simp] theorem State.countBy_cal (s : State) (r : Reg) (n i j k l : Nat) : (s.countBy r n i j k l).cal = s.cal := by rw [State.countBy, State.wr_cal]
@[simp] theorem State.countBy_img (s : State) (r : Reg) (n i j k l : Nat) : (s.countBy r n i j k l).img = s.img := by rw [State.countBy, State.wr_img]
@[simp] theorem State.countBy_boot (s : State) (r : Reg) (n i j k l : Nat) : (s.countBy r n i j k l).boot = s.boot := by rw [State.countBy, State.wr_boot]
@[simp] theorem State.countBy_mgt (s : State) (r : Reg) (n i j k l : Nat) : (s.countBy r n i j k l).mgt = s.mgt := by rw [State.countBy, State.wr_mgt]
@[simp] theorem State.countBy_tap (s : State) (r : Reg) (n i j k l : Nat) : (s.countBy r n i j k l).tap = s.tap := by rw [State.countBy, State.wr_tap]
@[simp] theorem State.countBy_supply (s : State) (r : Reg) (n i j k l : Nat) : (s.countBy r n i j k l).supply = s.supply := by rw [State.countBy, State.wr_supply]
@[simp] theorem State.countBy_shadow (s : State) (r : Reg) (n i j k l : Nat) : (s.countBy r n i j k l).shadow = s.shadow := by rw [State.countBy, State.wr_shadow]
@[simp] theorem State.countBy_staged (s : State) (r : Reg) (n i j k l : Nat) : (s.countBy r n i j k l).staged = s.staged := by rw [State.countBy, State.wr_staged]

/-! ### State.count -/

@[simp] theorem State.count_slices (s : State) (r : Reg) (i j k l : Nat) : (s.count r i j k l).slices = s.slices := by rw [State.count, State.countBy_slices]
@[simp] theorem State.count_cstore (s : State) (r : Reg) (i j k l : Nat) : (s.count r i j k l).cstore = s.cstore := by rw [State.count, State.countBy_cstore]
@[simp] theorem State.count_flt (s : State) (r : Reg) (i j k l : Nat) : (s.count r i j k l).flt = s.flt := by rw [State.count, State.countBy_flt]
@[simp] theorem State.count_evt (s : State) (r : Reg) (i j k l : Nat) : (s.count r i j k l).evt = s.evt := by rw [State.count, State.countBy_evt]
@[simp] theorem State.count_rpl (s : State) (r : Reg) (i j k l : Nat) : (s.count r i j k l).rpl = s.rpl := by rw [State.count, State.countBy_rpl]
@[simp] theorem State.count_pwr (s : State) (r : Reg) (i j k l : Nat) : (s.count r i j k l).pwr = s.pwr := by rw [State.count, State.countBy_pwr]
@[simp] theorem State.count_xbar (s : State) (r : Reg) (i j k l : Nat) : (s.count r i j k l).xbar = s.xbar := by rw [State.count, State.countBy_xbar]
@[simp] theorem State.count_ktl (s : State) (r : Reg) (i j k l : Nat) : (s.count r i j k l).ktl = s.ktl := by rw [State.count, State.countBy_ktl]
@[simp] theorem State.count_trg (s : State) (r : Reg) (i j k l : Nat) : (s.count r i j k l).trg = s.trg := by rw [State.count, State.countBy_trg]
@[simp] theorem State.count_chn (s : State) (r : Reg) (i j k l : Nat) : (s.count r i j k l).chn = s.chn := by rw [State.count, State.countBy_chn]
@[simp] theorem State.count_host (s : State) (r : Reg) (i j k l : Nat) : (s.count r i j k l).host = s.host := by rw [State.count, State.countBy_host]
@[simp] theorem State.count_tod (s : State) (r : Reg) (i j k l : Nat) : (s.count r i j k l).tod = s.tod := by rw [State.count, State.countBy_tod]
@[simp] theorem State.count_guardLevel (s : State) (r : Reg) (i j k l : Nat) : (s.count r i j k l).guardLevel = s.guardLevel := by rw [State.count, State.countBy_guardLevel]
@[simp] theorem State.count_guardRise (s : State) (r : Reg) (i j k l : Nat) : (s.count r i j k l).guardRise = s.guardRise := by rw [State.count, State.countBy_guardRise]
@[simp] theorem State.count_readValue (s : State) (r : Reg) (i j k l : Nat) : (s.count r i j k l).readValue = s.readValue := by rw [State.count, State.countBy_readValue]
@[simp] theorem State.count_now (s : State) (r : Reg) (i j k l : Nat) : (s.count r i j k l).now = s.now := by rw [State.count, State.countBy_now]
@[simp] theorem State.count_beat (s : State) (r : Reg) (i j k l : Nat) : (s.count r i j k l).beat = s.beat := by rw [State.count, State.countBy_beat]
@[simp] theorem State.count_pending (s : State) (r : Reg) (i j k l : Nat) : (s.count r i j k l).pending = s.pending := by rw [State.count, State.countBy_pending]
@[simp] theorem State.count_dma (s : State) (r : Reg) (i j k l : Nat) : (s.count r i j k l).dma = s.dma := by rw [State.count, State.countBy_dma]
@[simp] theorem State.count_side (s : State) (r : Reg) (i j k l : Nat) : (s.count r i j k l).side = s.side := by rw [State.count, State.countBy_side]
@[simp] theorem State.count_pewter (s : State) (r : Reg) (i j k l : Nat) : (s.count r i j k l).pewter = s.pewter := by rw [State.count, State.countBy_pewter]
@[simp] theorem State.count_acc (s : State) (r : Reg) (i j k l : Nat) : (s.count r i j k l).acc = s.acc := by rw [State.count, State.countBy_acc]
@[simp] theorem State.count_cal (s : State) (r : Reg) (i j k l : Nat) : (s.count r i j k l).cal = s.cal := by rw [State.count, State.countBy_cal]
@[simp] theorem State.count_img (s : State) (r : Reg) (i j k l : Nat) : (s.count r i j k l).img = s.img := by rw [State.count, State.countBy_img]
@[simp] theorem State.count_boot (s : State) (r : Reg) (i j k l : Nat) : (s.count r i j k l).boot = s.boot := by rw [State.count, State.countBy_boot]
@[simp] theorem State.count_mgt (s : State) (r : Reg) (i j k l : Nat) : (s.count r i j k l).mgt = s.mgt := by rw [State.count, State.countBy_mgt]
@[simp] theorem State.count_tap (s : State) (r : Reg) (i j k l : Nat) : (s.count r i j k l).tap = s.tap := by rw [State.count, State.countBy_tap]
@[simp] theorem State.count_supply (s : State) (r : Reg) (i j k l : Nat) : (s.count r i j k l).supply = s.supply := by rw [State.count, State.countBy_supply]
@[simp] theorem State.count_shadow (s : State) (r : Reg) (i j k l : Nat) : (s.count r i j k l).shadow = s.shadow := by rw [State.count, State.countBy_shadow]
@[simp] theorem State.count_staged (s : State) (r : Reg) (i j k l : Nat) : (s.count r i j k l).staged = s.staged := by rw [State.count, State.countBy_staged]

/-! ### State.bump -/

@[simp] theorem State.bump_slices (s : State) (f : Field) (n i j k l : Nat) : (s.bump f n i j k l).slices = s.slices := by rw [State.bump, State.setFld_slices]
@[simp] theorem State.bump_cstore (s : State) (f : Field) (n i j k l : Nat) : (s.bump f n i j k l).cstore = s.cstore := by rw [State.bump, State.setFld_cstore]
@[simp] theorem State.bump_flt (s : State) (f : Field) (n i j k l : Nat) : (s.bump f n i j k l).flt = s.flt := by rw [State.bump, State.setFld_flt]
@[simp] theorem State.bump_evt (s : State) (f : Field) (n i j k l : Nat) : (s.bump f n i j k l).evt = s.evt := by rw [State.bump, State.setFld_evt]
@[simp] theorem State.bump_rpl (s : State) (f : Field) (n i j k l : Nat) : (s.bump f n i j k l).rpl = s.rpl := by rw [State.bump, State.setFld_rpl]
@[simp] theorem State.bump_pwr (s : State) (f : Field) (n i j k l : Nat) : (s.bump f n i j k l).pwr = s.pwr := by rw [State.bump, State.setFld_pwr]
@[simp] theorem State.bump_xbar (s : State) (f : Field) (n i j k l : Nat) : (s.bump f n i j k l).xbar = s.xbar := by rw [State.bump, State.setFld_xbar]
@[simp] theorem State.bump_ktl (s : State) (f : Field) (n i j k l : Nat) : (s.bump f n i j k l).ktl = s.ktl := by rw [State.bump, State.setFld_ktl]
@[simp] theorem State.bump_trg (s : State) (f : Field) (n i j k l : Nat) : (s.bump f n i j k l).trg = s.trg := by rw [State.bump, State.setFld_trg]
@[simp] theorem State.bump_chn (s : State) (f : Field) (n i j k l : Nat) : (s.bump f n i j k l).chn = s.chn := by rw [State.bump, State.setFld_chn]
@[simp] theorem State.bump_host (s : State) (f : Field) (n i j k l : Nat) : (s.bump f n i j k l).host = s.host := by rw [State.bump, State.setFld_host]
@[simp] theorem State.bump_tod (s : State) (f : Field) (n i j k l : Nat) : (s.bump f n i j k l).tod = s.tod := by rw [State.bump, State.setFld_tod]
@[simp] theorem State.bump_guardLevel (s : State) (f : Field) (n i j k l : Nat) : (s.bump f n i j k l).guardLevel = s.guardLevel := by rw [State.bump, State.setFld_guardLevel]
@[simp] theorem State.bump_guardRise (s : State) (f : Field) (n i j k l : Nat) : (s.bump f n i j k l).guardRise = s.guardRise := by rw [State.bump, State.setFld_guardRise]
@[simp] theorem State.bump_readValue (s : State) (f : Field) (n i j k l : Nat) : (s.bump f n i j k l).readValue = s.readValue := by rw [State.bump, State.setFld_readValue]
@[simp] theorem State.bump_now (s : State) (f : Field) (n i j k l : Nat) : (s.bump f n i j k l).now = s.now := by rw [State.bump, State.setFld_now]
@[simp] theorem State.bump_beat (s : State) (f : Field) (n i j k l : Nat) : (s.bump f n i j k l).beat = s.beat := by rw [State.bump, State.setFld_beat]
@[simp] theorem State.bump_pending (s : State) (f : Field) (n i j k l : Nat) : (s.bump f n i j k l).pending = s.pending := by rw [State.bump, State.setFld_pending]
@[simp] theorem State.bump_dma (s : State) (f : Field) (n i j k l : Nat) : (s.bump f n i j k l).dma = s.dma := by rw [State.bump, State.setFld_dma]
@[simp] theorem State.bump_side (s : State) (f : Field) (n i j k l : Nat) : (s.bump f n i j k l).side = s.side := by rw [State.bump, State.setFld_side]
@[simp] theorem State.bump_pewter (s : State) (f : Field) (n i j k l : Nat) : (s.bump f n i j k l).pewter = s.pewter := by rw [State.bump, State.setFld_pewter]
@[simp] theorem State.bump_acc (s : State) (f : Field) (n i j k l : Nat) : (s.bump f n i j k l).acc = s.acc := by rw [State.bump, State.setFld_acc]
@[simp] theorem State.bump_cal (s : State) (f : Field) (n i j k l : Nat) : (s.bump f n i j k l).cal = s.cal := by rw [State.bump, State.setFld_cal]
@[simp] theorem State.bump_img (s : State) (f : Field) (n i j k l : Nat) : (s.bump f n i j k l).img = s.img := by rw [State.bump, State.setFld_img]
@[simp] theorem State.bump_boot (s : State) (f : Field) (n i j k l : Nat) : (s.bump f n i j k l).boot = s.boot := by rw [State.bump, State.setFld_boot]
@[simp] theorem State.bump_mgt (s : State) (f : Field) (n i j k l : Nat) : (s.bump f n i j k l).mgt = s.mgt := by rw [State.bump, State.setFld_mgt]
@[simp] theorem State.bump_tap (s : State) (f : Field) (n i j k l : Nat) : (s.bump f n i j k l).tap = s.tap := by rw [State.bump, State.setFld_tap]
@[simp] theorem State.bump_supply (s : State) (f : Field) (n i j k l : Nat) : (s.bump f n i j k l).supply = s.supply := by rw [State.bump, State.setFld_supply]
@[simp] theorem State.bump_shadow (s : State) (f : Field) (n i j k l : Nat) : (s.bump f n i j k l).shadow = s.shadow := by rw [State.bump, State.setFld_shadow]
@[simp] theorem State.bump_staged (s : State) (f : Field) (n i j k l : Nat) : (s.bump f n i j k l).staged = s.staged := by rw [State.bump, State.setFld_staged]

/-! ### State.setPair -/

@[simp] theorem State.setPair_slices (s : State) (lo hi : Reg) (v i j k : Nat) : (s.setPair lo hi v i j k).slices = s.slices := by rw [State.setPair, State.wr_slices, State.wr_slices]
@[simp] theorem State.setPair_cstore (s : State) (lo hi : Reg) (v i j k : Nat) : (s.setPair lo hi v i j k).cstore = s.cstore := by rw [State.setPair, State.wr_cstore, State.wr_cstore]
@[simp] theorem State.setPair_flt (s : State) (lo hi : Reg) (v i j k : Nat) : (s.setPair lo hi v i j k).flt = s.flt := by rw [State.setPair, State.wr_flt, State.wr_flt]
@[simp] theorem State.setPair_evt (s : State) (lo hi : Reg) (v i j k : Nat) : (s.setPair lo hi v i j k).evt = s.evt := by rw [State.setPair, State.wr_evt, State.wr_evt]
@[simp] theorem State.setPair_rpl (s : State) (lo hi : Reg) (v i j k : Nat) : (s.setPair lo hi v i j k).rpl = s.rpl := by rw [State.setPair, State.wr_rpl, State.wr_rpl]
@[simp] theorem State.setPair_pwr (s : State) (lo hi : Reg) (v i j k : Nat) : (s.setPair lo hi v i j k).pwr = s.pwr := by rw [State.setPair, State.wr_pwr, State.wr_pwr]
@[simp] theorem State.setPair_xbar (s : State) (lo hi : Reg) (v i j k : Nat) : (s.setPair lo hi v i j k).xbar = s.xbar := by rw [State.setPair, State.wr_xbar, State.wr_xbar]
@[simp] theorem State.setPair_ktl (s : State) (lo hi : Reg) (v i j k : Nat) : (s.setPair lo hi v i j k).ktl = s.ktl := by rw [State.setPair, State.wr_ktl, State.wr_ktl]
@[simp] theorem State.setPair_trg (s : State) (lo hi : Reg) (v i j k : Nat) : (s.setPair lo hi v i j k).trg = s.trg := by rw [State.setPair, State.wr_trg, State.wr_trg]
@[simp] theorem State.setPair_chn (s : State) (lo hi : Reg) (v i j k : Nat) : (s.setPair lo hi v i j k).chn = s.chn := by rw [State.setPair, State.wr_chn, State.wr_chn]
@[simp] theorem State.setPair_host (s : State) (lo hi : Reg) (v i j k : Nat) : (s.setPair lo hi v i j k).host = s.host := by rw [State.setPair, State.wr_host, State.wr_host]
@[simp] theorem State.setPair_tod (s : State) (lo hi : Reg) (v i j k : Nat) : (s.setPair lo hi v i j k).tod = s.tod := by rw [State.setPair, State.wr_tod, State.wr_tod]
@[simp] theorem State.setPair_guardLevel (s : State) (lo hi : Reg) (v i j k : Nat) : (s.setPair lo hi v i j k).guardLevel = s.guardLevel := by rw [State.setPair, State.wr_guardLevel, State.wr_guardLevel]
@[simp] theorem State.setPair_guardRise (s : State) (lo hi : Reg) (v i j k : Nat) : (s.setPair lo hi v i j k).guardRise = s.guardRise := by rw [State.setPair, State.wr_guardRise, State.wr_guardRise]
@[simp] theorem State.setPair_readValue (s : State) (lo hi : Reg) (v i j k : Nat) : (s.setPair lo hi v i j k).readValue = s.readValue := by rw [State.setPair, State.wr_readValue, State.wr_readValue]
@[simp] theorem State.setPair_now (s : State) (lo hi : Reg) (v i j k : Nat) : (s.setPair lo hi v i j k).now = s.now := by rw [State.setPair, State.wr_now, State.wr_now]
@[simp] theorem State.setPair_beat (s : State) (lo hi : Reg) (v i j k : Nat) : (s.setPair lo hi v i j k).beat = s.beat := by rw [State.setPair, State.wr_beat, State.wr_beat]
@[simp] theorem State.setPair_pending (s : State) (lo hi : Reg) (v i j k : Nat) : (s.setPair lo hi v i j k).pending = s.pending := by rw [State.setPair, State.wr_pending, State.wr_pending]
@[simp] theorem State.setPair_dma (s : State) (lo hi : Reg) (v i j k : Nat) : (s.setPair lo hi v i j k).dma = s.dma := by rw [State.setPair, State.wr_dma, State.wr_dma]
@[simp] theorem State.setPair_side (s : State) (lo hi : Reg) (v i j k : Nat) : (s.setPair lo hi v i j k).side = s.side := by rw [State.setPair, State.wr_side, State.wr_side]
@[simp] theorem State.setPair_pewter (s : State) (lo hi : Reg) (v i j k : Nat) : (s.setPair lo hi v i j k).pewter = s.pewter := by rw [State.setPair, State.wr_pewter, State.wr_pewter]
@[simp] theorem State.setPair_acc (s : State) (lo hi : Reg) (v i j k : Nat) : (s.setPair lo hi v i j k).acc = s.acc := by rw [State.setPair, State.wr_acc, State.wr_acc]
@[simp] theorem State.setPair_cal (s : State) (lo hi : Reg) (v i j k : Nat) : (s.setPair lo hi v i j k).cal = s.cal := by rw [State.setPair, State.wr_cal, State.wr_cal]
@[simp] theorem State.setPair_img (s : State) (lo hi : Reg) (v i j k : Nat) : (s.setPair lo hi v i j k).img = s.img := by rw [State.setPair, State.wr_img, State.wr_img]
@[simp] theorem State.setPair_boot (s : State) (lo hi : Reg) (v i j k : Nat) : (s.setPair lo hi v i j k).boot = s.boot := by rw [State.setPair, State.wr_boot, State.wr_boot]
@[simp] theorem State.setPair_mgt (s : State) (lo hi : Reg) (v i j k : Nat) : (s.setPair lo hi v i j k).mgt = s.mgt := by rw [State.setPair, State.wr_mgt, State.wr_mgt]
@[simp] theorem State.setPair_tap (s : State) (lo hi : Reg) (v i j k : Nat) : (s.setPair lo hi v i j k).tap = s.tap := by rw [State.setPair, State.wr_tap, State.wr_tap]
@[simp] theorem State.setPair_supply (s : State) (lo hi : Reg) (v i j k : Nat) : (s.setPair lo hi v i j k).supply = s.supply := by rw [State.setPair, State.wr_supply, State.wr_supply]
@[simp] theorem State.setPair_shadow (s : State) (lo hi : Reg) (v i j k : Nat) : (s.setPair lo hi v i j k).shadow = s.shadow := by rw [State.setPair, State.wr_shadow, State.wr_shadow]
@[simp] theorem State.setPair_staged (s : State) (lo hi : Reg) (v i j k : Nat) : (s.setPair lo hi v i j k).staged = s.staged := by rw [State.setPair, State.wr_staged, State.wr_staged]

/-! ### State.pairAdd -/

@[simp] theorem State.pairAdd_slices (s : State) (lo hi : Reg) (n i j k : Nat) : (s.pairAdd lo hi n i j k).slices = s.slices := by rw [State.pairAdd, State.setPair_slices]
@[simp] theorem State.pairAdd_cstore (s : State) (lo hi : Reg) (n i j k : Nat) : (s.pairAdd lo hi n i j k).cstore = s.cstore := by rw [State.pairAdd, State.setPair_cstore]
@[simp] theorem State.pairAdd_flt (s : State) (lo hi : Reg) (n i j k : Nat) : (s.pairAdd lo hi n i j k).flt = s.flt := by rw [State.pairAdd, State.setPair_flt]
@[simp] theorem State.pairAdd_evt (s : State) (lo hi : Reg) (n i j k : Nat) : (s.pairAdd lo hi n i j k).evt = s.evt := by rw [State.pairAdd, State.setPair_evt]
@[simp] theorem State.pairAdd_rpl (s : State) (lo hi : Reg) (n i j k : Nat) : (s.pairAdd lo hi n i j k).rpl = s.rpl := by rw [State.pairAdd, State.setPair_rpl]
@[simp] theorem State.pairAdd_pwr (s : State) (lo hi : Reg) (n i j k : Nat) : (s.pairAdd lo hi n i j k).pwr = s.pwr := by rw [State.pairAdd, State.setPair_pwr]
@[simp] theorem State.pairAdd_xbar (s : State) (lo hi : Reg) (n i j k : Nat) : (s.pairAdd lo hi n i j k).xbar = s.xbar := by rw [State.pairAdd, State.setPair_xbar]
@[simp] theorem State.pairAdd_ktl (s : State) (lo hi : Reg) (n i j k : Nat) : (s.pairAdd lo hi n i j k).ktl = s.ktl := by rw [State.pairAdd, State.setPair_ktl]
@[simp] theorem State.pairAdd_trg (s : State) (lo hi : Reg) (n i j k : Nat) : (s.pairAdd lo hi n i j k).trg = s.trg := by rw [State.pairAdd, State.setPair_trg]
@[simp] theorem State.pairAdd_chn (s : State) (lo hi : Reg) (n i j k : Nat) : (s.pairAdd lo hi n i j k).chn = s.chn := by rw [State.pairAdd, State.setPair_chn]
@[simp] theorem State.pairAdd_host (s : State) (lo hi : Reg) (n i j k : Nat) : (s.pairAdd lo hi n i j k).host = s.host := by rw [State.pairAdd, State.setPair_host]
@[simp] theorem State.pairAdd_tod (s : State) (lo hi : Reg) (n i j k : Nat) : (s.pairAdd lo hi n i j k).tod = s.tod := by rw [State.pairAdd, State.setPair_tod]
@[simp] theorem State.pairAdd_guardLevel (s : State) (lo hi : Reg) (n i j k : Nat) : (s.pairAdd lo hi n i j k).guardLevel = s.guardLevel := by rw [State.pairAdd, State.setPair_guardLevel]
@[simp] theorem State.pairAdd_guardRise (s : State) (lo hi : Reg) (n i j k : Nat) : (s.pairAdd lo hi n i j k).guardRise = s.guardRise := by rw [State.pairAdd, State.setPair_guardRise]
@[simp] theorem State.pairAdd_readValue (s : State) (lo hi : Reg) (n i j k : Nat) : (s.pairAdd lo hi n i j k).readValue = s.readValue := by rw [State.pairAdd, State.setPair_readValue]
@[simp] theorem State.pairAdd_now (s : State) (lo hi : Reg) (n i j k : Nat) : (s.pairAdd lo hi n i j k).now = s.now := by rw [State.pairAdd, State.setPair_now]
@[simp] theorem State.pairAdd_beat (s : State) (lo hi : Reg) (n i j k : Nat) : (s.pairAdd lo hi n i j k).beat = s.beat := by rw [State.pairAdd, State.setPair_beat]
@[simp] theorem State.pairAdd_pending (s : State) (lo hi : Reg) (n i j k : Nat) : (s.pairAdd lo hi n i j k).pending = s.pending := by rw [State.pairAdd, State.setPair_pending]
@[simp] theorem State.pairAdd_dma (s : State) (lo hi : Reg) (n i j k : Nat) : (s.pairAdd lo hi n i j k).dma = s.dma := by rw [State.pairAdd, State.setPair_dma]
@[simp] theorem State.pairAdd_side (s : State) (lo hi : Reg) (n i j k : Nat) : (s.pairAdd lo hi n i j k).side = s.side := by rw [State.pairAdd, State.setPair_side]
@[simp] theorem State.pairAdd_pewter (s : State) (lo hi : Reg) (n i j k : Nat) : (s.pairAdd lo hi n i j k).pewter = s.pewter := by rw [State.pairAdd, State.setPair_pewter]
@[simp] theorem State.pairAdd_acc (s : State) (lo hi : Reg) (n i j k : Nat) : (s.pairAdd lo hi n i j k).acc = s.acc := by rw [State.pairAdd, State.setPair_acc]
@[simp] theorem State.pairAdd_cal (s : State) (lo hi : Reg) (n i j k : Nat) : (s.pairAdd lo hi n i j k).cal = s.cal := by rw [State.pairAdd, State.setPair_cal]
@[simp] theorem State.pairAdd_img (s : State) (lo hi : Reg) (n i j k : Nat) : (s.pairAdd lo hi n i j k).img = s.img := by rw [State.pairAdd, State.setPair_img]
@[simp] theorem State.pairAdd_boot (s : State) (lo hi : Reg) (n i j k : Nat) : (s.pairAdd lo hi n i j k).boot = s.boot := by rw [State.pairAdd, State.setPair_boot]
@[simp] theorem State.pairAdd_mgt (s : State) (lo hi : Reg) (n i j k : Nat) : (s.pairAdd lo hi n i j k).mgt = s.mgt := by rw [State.pairAdd, State.setPair_mgt]
@[simp] theorem State.pairAdd_tap (s : State) (lo hi : Reg) (n i j k : Nat) : (s.pairAdd lo hi n i j k).tap = s.tap := by rw [State.pairAdd, State.setPair_tap]
@[simp] theorem State.pairAdd_supply (s : State) (lo hi : Reg) (n i j k : Nat) : (s.pairAdd lo hi n i j k).supply = s.supply := by rw [State.pairAdd, State.setPair_supply]
@[simp] theorem State.pairAdd_shadow (s : State) (lo hi : Reg) (n i j k : Nat) : (s.pairAdd lo hi n i j k).shadow = s.shadow := by rw [State.pairAdd, State.setPair_shadow]
@[simp] theorem State.pairAdd_staged (s : State) (lo hi : Reg) (n i j k : Nat) : (s.pairAdd lo hi n i j k).staged = s.staged := by rw [State.pairAdd, State.setPair_staged]

/-! ### State.modSl -/

@[simp] theorem State.modSl_regs (s : State) (n : Fin 16) (g : Slice → Slice) : (s.modSl n g).regs = s.regs := rfl
@[simp] theorem State.modSl_cstore (s : State) (n : Fin 16) (g : Slice → Slice) : (s.modSl n g).cstore = s.cstore := rfl
@[simp] theorem State.modSl_flt (s : State) (n : Fin 16) (g : Slice → Slice) : (s.modSl n g).flt = s.flt := rfl
@[simp] theorem State.modSl_evt (s : State) (n : Fin 16) (g : Slice → Slice) : (s.modSl n g).evt = s.evt := rfl
@[simp] theorem State.modSl_rpl (s : State) (n : Fin 16) (g : Slice → Slice) : (s.modSl n g).rpl = s.rpl := rfl
@[simp] theorem State.modSl_pwr (s : State) (n : Fin 16) (g : Slice → Slice) : (s.modSl n g).pwr = s.pwr := rfl
@[simp] theorem State.modSl_xbar (s : State) (n : Fin 16) (g : Slice → Slice) : (s.modSl n g).xbar = s.xbar := rfl
@[simp] theorem State.modSl_ktl (s : State) (n : Fin 16) (g : Slice → Slice) : (s.modSl n g).ktl = s.ktl := rfl
@[simp] theorem State.modSl_trg (s : State) (n : Fin 16) (g : Slice → Slice) : (s.modSl n g).trg = s.trg := rfl
@[simp] theorem State.modSl_chn (s : State) (n : Fin 16) (g : Slice → Slice) : (s.modSl n g).chn = s.chn := rfl
@[simp] theorem State.modSl_host (s : State) (n : Fin 16) (g : Slice → Slice) : (s.modSl n g).host = s.host := rfl
@[simp] theorem State.modSl_tod (s : State) (n : Fin 16) (g : Slice → Slice) : (s.modSl n g).tod = s.tod := rfl
@[simp] theorem State.modSl_guardLevel (s : State) (n : Fin 16) (g : Slice → Slice) : (s.modSl n g).guardLevel = s.guardLevel := rfl
@[simp] theorem State.modSl_guardRise (s : State) (n : Fin 16) (g : Slice → Slice) : (s.modSl n g).guardRise = s.guardRise := rfl
@[simp] theorem State.modSl_readValue (s : State) (n : Fin 16) (g : Slice → Slice) : (s.modSl n g).readValue = s.readValue := rfl
@[simp] theorem State.modSl_now (s : State) (n : Fin 16) (g : Slice → Slice) : (s.modSl n g).now = s.now := rfl
@[simp] theorem State.modSl_beat (s : State) (n : Fin 16) (g : Slice → Slice) : (s.modSl n g).beat = s.beat := rfl
@[simp] theorem State.modSl_pending (s : State) (n : Fin 16) (g : Slice → Slice) : (s.modSl n g).pending = s.pending := rfl
@[simp] theorem State.modSl_dma (s : State) (n : Fin 16) (g : Slice → Slice) : (s.modSl n g).dma = s.dma := rfl
@[simp] theorem State.modSl_side (s : State) (n : Fin 16) (g : Slice → Slice) : (s.modSl n g).side = s.side := rfl
@[simp] theorem State.modSl_pewter (s : State) (n : Fin 16) (g : Slice → Slice) : (s.modSl n g).pewter = s.pewter := rfl
@[simp] theorem State.modSl_acc (s : State) (n : Fin 16) (g : Slice → Slice) : (s.modSl n g).acc = s.acc := rfl
@[simp] theorem State.modSl_cal (s : State) (n : Fin 16) (g : Slice → Slice) : (s.modSl n g).cal = s.cal := rfl
@[simp] theorem State.modSl_img (s : State) (n : Fin 16) (g : Slice → Slice) : (s.modSl n g).img = s.img := rfl
@[simp] theorem State.modSl_boot (s : State) (n : Fin 16) (g : Slice → Slice) : (s.modSl n g).boot = s.boot := rfl
@[simp] theorem State.modSl_mgt (s : State) (n : Fin 16) (g : Slice → Slice) : (s.modSl n g).mgt = s.mgt := rfl
@[simp] theorem State.modSl_tap (s : State) (n : Fin 16) (g : Slice → Slice) : (s.modSl n g).tap = s.tap := rfl
@[simp] theorem State.modSl_supply (s : State) (n : Fin 16) (g : Slice → Slice) : (s.modSl n g).supply = s.supply := rfl
@[simp] theorem State.modSl_shadow (s : State) (n : Fin 16) (g : Slice → Slice) : (s.modSl n g).shadow = s.shadow := rfl
@[simp] theorem State.modSl_staged (s : State) (n : Fin 16) (g : Slice → Slice) : (s.modSl n g).staged = s.staged := rfl

@[simp] theorem State.rd_modSl (s : State) (n : Fin 16) (g : Slice → Slice) (r : Reg) (i j k l : Nat) : (s.modSl n g).rd r i j k l = s.rd r i j k l := rfl
@[simp] theorem State.fld_modSl (s : State) (n : Fin 16) (g : Slice → Slice) (f : Field) (i j k l : Nat) : (s.modSl n g).fld f i j k l = s.fld f i j k l := rfl
@[simp] theorem State.flag_modSl (s : State) (n : Fin 16) (g : Slice → Slice) (f : Field) (i j k l : Nat) : (s.modSl n g).flag f i j k l = s.flag f i j k l := rfl

@[simp] theorem State.sl_modSl_same (s : State) (n : Fin 16) (g : Slice → Slice) : (s.modSl n g).sl n = g (s.sl n) := by
  simp only [State.sl, State.modSl, Vector.get_eq_getElem, Vector.getElem_set_self]

theorem State.sl_modSl_ne (s : State) {n m : Fin 16} (g : Slice → Slice) (h : m ≠ n) : (s.modSl n g).sl m = s.sl m := by
  simp only [State.sl, State.modSl, Vector.get_eq_getElem]
  exact Vector.getElem_set_ne _ _ (fun e => h (Fin.ext e.symm))

@[simp] theorem State.sl_wr (s : State) (r : Reg) (v : Word) (i j k l : Nat) (n : Fin 16) : (s.wr r v i j k l).sl n = s.sl n := rfl
@[simp] theorem State.sl_setFld (s : State) (f : Field) (v i j k l : Nat) (n : Fin 16) : (s.setFld f v i j k l).sl n = s.sl n := rfl
@[simp] theorem State.sl_setFlag (s : State) (f : Field) (b : Bool) (i j k l : Nat) (n : Fin 16) : (s.setFlag f b i j k l).sl n = s.sl n := rfl
@[simp] theorem State.sl_countBy (s : State) (r : Reg) (c i j k l : Nat) (n : Fin 16) : (s.countBy r c i j k l).sl n = s.sl n := rfl
@[simp] theorem State.sl_count (s : State) (r : Reg) (i j k l : Nat) (n : Fin 16) : (s.count r i j k l).sl n = s.sl n := rfl

@[simp] theorem State.rd_record_slices (s : State) (x : Vector Slice 16) (r : Reg) (i j k l : Nat) :
    State.rd { s with slices := x } r i j k l = s.rd r i j k l := rfl

end Sys2Proof.Machine
end

