-- ==== Sys2Proof/Laws/Frames.lean ====
section
/-!
SUPPORT. What each shared operation leaves alone: the registers that are not its own, and the bytes of every store. The frame of a command is put
together from these.
-/

namespace Sys2Proof.Machine

/-! ### Registers -/

/-- A bit outside a field stays when the field is put. -/
theorem testBit_putBits_outside (v lo w x b : Nat) (h : b < lo ∨ lo + w ≤ b) : (putBits v lo w x).testBit b = v.testBit b := by
  have key : ∀ u : Nat, u.testBit b = decide (bitsAt u b 1 = 1) := by
    intro u; simp only [bitsAt_eq, Nat.testBit_eq_decide_div_mod_eq, Nat.pow_one]
  rw [key, key]
  rcases h with h | h
  · rw [bitsAt_putBits_below _ _ _ _ _ _ (by omega)]
  · rw [bitsAt_putBits_above _ _ _ _ _ _ (by omega)]

theorem sameRegs.refl (l : List Part) (s : State) : sameRegs l s s := fun _ _ _ _ _ _ _ => rfl

theorem sameRegs.trans {l : List Part} {s t u : State} (h : sameRegs l s t) (h' : sameRegs l t u) : sameRegs l s u :=
  fun r i j k m b hr => (h' r i j k m b hr).trans (h r i j k m b hr)

theorem sameRegs.mono {l l' : List Part} {s t : State} (h : sameRegs l s t) (hl : ∀ x ∈ l, x ∈ l') : sameRegs l' s t := by
  intro r i j k m b hr
  refine h r i j k m b ?_
  rw [List.any_eq_false] at hr ⊢
  exact fun x hx => hr x (hl x hx)

/-- A step that leaves the register file leaves every register. -/
theorem sameRegs.of_regs {l : List Part} {s t u : State} (h : sameRegs l s t) (e : u.regs = t.regs) : sameRegs l s u := by
  intro r i j k m b hr; rw [← h r i j k m b hr]; simp [State.rd, e]

/-- The list takes in the whole of an instance. -/
def holdsReg (l : List Part) (r : Reg) (i j k m : Nat) : Prop :=
  ∃ x ∈ l, x.reg = r ∧ x.idx.isPrefixOf [i, j, k, m] = true ∧ x.lo = 0 ∧ 32 ≤ x.width

/-- The list takes in a field of an instance. -/
def holdsFld (l : List Part) (f : Field) (i j k m : Nat) : Prop :=
  ∃ x ∈ l, x.reg = f.reg ∧ x.idx.isPrefixOf [i, j, k, m] = true ∧ x.lo ≤ f.lo ∧ f.lo + f.width ≤ x.lo + x.width

theorem sameRegs.wr {l : List Part} {s t : State} (h : sameRegs l s t) (r : Reg) (v : Word) (i j k m : Nat) (hr : holdsReg l r i j k m) :
    sameRegs l s (t.wr r v i j k m) := by
  intro r' i' j' k' m' b hb
  rw [← h r' i' j' k' m' b hb]
  obtain ⟨x, hx, h1, h2, h3, h4⟩ := hr
  by_cases e : r' = r
  · by_cases e' : i' = i ∧ j' = j ∧ k' = k ∧ m' = m
    · obtain ⟨rfl, rfl, rfl, rfl⟩ := e'
      subst e
      rw [List.any_eq_false] at hb
      have := hb x hx
      simp only [Part.covers, h1, h2, h3, decide_true, Bool.true_and, Nat.zero_le, Bool.not_eq_true, decide_eq_false_iff_not] at this
      rw [BitVec.getLsbD_of_ge _ _ (by omega), BitVec.getLsbD_of_ge _ _ (by omega)]
    · rw [State.rd_wr_index _ _ (by omega)]
  · rw [State.rd_wr_reg _ _ _ _ _ _ _ _ _ _ e]

theorem sameRegs.setFld {l : List Part} {s t : State} (h : sameRegs l s t) (f : Field) (v i j k m : Nat)
    (hr : holdsFld l f i j k m) : sameRegs l s (t.setFld f v i j k m) := by
  intro r' i' j' k' m' b hb
  rw [← h r' i' j' k' m' b hb]
  obtain ⟨x, hx, h1, h2, h3, h4⟩ := hr
  by_cases e : r' = f.reg
  · by_cases e' : i' = i ∧ j' = j ∧ k' = k ∧ m' = m
    · obtain ⟨rfl, rfl, rfl, rfl⟩ := e'
      subst e
      rw [List.any_eq_false] at hb
      have hc := hb x hx
      simp only [Part.covers, h1, h2, decide_true, Bool.true_and, Bool.not_eq_true, Bool.and_eq_false_iff, decide_eq_false_iff_not] at hc
      by_cases hb32 : b < 32
      · simp only [State.setFld, State.rd_wr_same]
        rw [BitVec.getLsbD_ofNat]
        simp only [hb32, decide_true, Bool.true_and]
        rw [testBit_putBits_outside _ _ _ _ _ (by omega)]
        rfl
      · rw [BitVec.getLsbD_of_ge _ _ (by omega), BitVec.getLsbD_of_ge _ _ (by omega)]
    · unfold State.setFld; rw [State.rd_wr_index _ _ (by omega)]
  · unfold State.setFld; rw [State.rd_wr_reg _ _ _ _ _ _ _ _ _ _ e]

theorem sameRegs.setFlag {l : List Part} {s t : State} (h : sameRegs l s t) (f : Field) (b : Bool) (i j k m : Nat)
    (hr : holdsFld l f i j k m) : sameRegs l s (t.setFlag f b i j k m) := h.setFld _ _ _ _ _ _ hr

theorem sameRegs.countBy {l : List Part} {s t : State} (h : sameRegs l s t) (r : Reg) (n i j k m : Nat) (hr : holdsReg l r i j k m) :
    sameRegs l s (t.countBy r n i j k m) := h.wr _ _ _ _ _ _ hr

theorem sameRegs.count {l : List Part} {s t : State} (h : sameRegs l s t) (r : Reg) (i j k m : Nat) (hr : holdsReg l r i j k m) :
    sameRegs l s (t.count r i j k m) := h.wr _ _ _ _ _ _ hr

theorem sameRegs.bump {l : List Part} {s t : State} (h : sameRegs l s t) (f : Field) (n i j k m : Nat)
    (hr : holdsFld l f i j k m) : sameRegs l s (t.bump f n i j k m) := h.setFld _ _ _ _ _ _ hr

theorem sameRegs.peak {l : List Part} {s t : State} (h : sameRegs l s t) (f : Field) (v i j : Nat)
    (hr : holdsFld l f i j 0 0) : sameRegs l s (t.peak f v i j) := by
  unfold State.peak; split
  · exact h.setFld _ _ _ _ _ _ hr
  · exact h

theorem sameRegs.setPair {l : List Part} {s t : State} (h : sameRegs l s t) (lo hi : Reg) (v i j k : Nat) (h1 : holdsReg l lo i j k 0)
    (h2 : holdsReg l hi i j k 0) : sameRegs l s (t.setPair lo hi v i j k) := (h.wr _ _ _ _ _ _ h1).wr _ _ _ _ _ _ h2

theorem sameRegs.pairAdd {l : List Part} {s t : State} (h : sameRegs l s t) (lo hi : Reg) (v i j k : Nat) (h1 : holdsReg l lo i j k 0)
    (h2 : holdsReg l hi i j k 0) : sameRegs l s (t.pairAdd lo hi v i j k) := h.setPair _ _ _ _ _ _ h1 h2

theorem sameRegs.modSl {l : List Part} {s t : State} (h : sameRegs l s t) (n : Fin 16) (g : Slice → Slice) : sameRegs l s (t.modSl n g) :=
  h.of_regs rfl

theorem sameRegs.setStore {l : List Part} {s t : State} (h : sameRegs l s t) (id : StoreId) (st : Store) : sameRegs l s (t.setStore id st) := by
  cases id <;> exact h.of_regs rfl

theorem sameRegs.raise {l : List Part} {s t : State} (h : sameRegs l s t) (a b c : Nat) : sameRegs l s (t.raise a b c) := by
  unfold State.raise; dsimp only; split
  · exact h
  · exact h.of_regs rfl

theorem sameRegs.journal {l : List Part} {s t : State} (h : sameRegs l s t) (a b c d : Nat) : sameRegs l s (t.journal a b c d) := by
  unfold State.journal; split
  · exact h.of_regs rfl
  · exact h

theorem sameRegs.ite {l : List Part} {s t u : State} {p : Prop} [Decidable p] (h : sameRegs l s t) (h' : sameRegs l s u) :
    sameRegs l s (if p then t else u) := by split <;> assumption

theorem sameRegs.foldl {l : List Part} {s : State} {α : Type} (f : State → α → State) (hf : ∀ t a, sameRegs l s t → sameRegs l s (f t a)) (xs : List α) :
    ∀ t, sameRegs l s t → sameRegs l s (xs.foldl f t) := by
  induction xs with
  | nil => exact fun t h => h
  | cons a xs ih => exact fun t h => ih _ (hf t a h)

theorem sameRegs.pushEvents {l : List Part} {s t : State} (h : sameRegs l s t) (e : List EventRecord) (hr : holdsFld l F.EVT_QSTATUS_PEAK 0 0 0 0) :
    sameRegs l s (t.pushEvents e) := by
  unfold State.pushEvents
  exact (h.of_regs rfl : sameRegs l s { t with evt := { t.evt with queue := t.evt.queue ++ e } }).peak _ _ _ _ hr

theorem holdsFld.of_mem {l : List Part} {f : Field} (h : f.part [] ∈ l) (i j k m : Nat) : holdsFld l f i j k m :=
  ⟨f.part [], h, rfl, rfl, Nat.le_refl _, Nat.le_refl _⟩

theorem holdsReg.of_mem {l : List Part} {r : Reg} (h : { reg := r, idx := [] } ∈ l) (i j k m : Nat) : holdsReg l r i j k m :=
  ⟨{ reg := r, idx := [] }, h, rfl, rfl, rfl, Nat.le_refl _⟩

theorem sameRegs.evtLose {l : List Part} {s t : State} (h : sameRegs l s t) (hr : ∀ x ∈ eventParts, x ∈ l) (x : EventQueue) :
    sameRegs l s { (t.count .EVT_LOST).setFlag F.EVT_STATUS_LOST true with evt := x } := by
  have h2 : holdsReg l .EVT_LOST 0 0 0 0 := .of_mem (hr _ (.tail _ (.head _))) 0 0 0 0
  have h3 : holdsFld l F.EVT_STATUS_LOST 0 0 0 0 := .of_mem (hr _ (.tail _ (.tail _ (.head _)))) 0 0 0 0
  have := (h.count .EVT_LOST 0 0 0 0 h2).setFlag F.EVT_STATUS_LOST true 0 0 0 0 h3
  generalize (t.count .EVT_LOST).setFlag F.EVT_STATUS_LOST true = u at this ⊢
  exact this.of_regs rfl

theorem sameRegs.event {l : List Part} {s t : State} (h : sameRegs l s t) (a b c d : Nat) (hr : ∀ x ∈ eventParts, x ∈ l) :
    sameRegs l s (t.event a b c d) := by
  have h1 : holdsFld l F.EVT_QSTATUS_PEAK 0 0 0 0 := .of_mem (hr _ (.head _)) 0 0 0 0
  have hp : ∀ e x, sameRegs l s { t.pushEvents e with evt := x } := fun e x => by
    have := h.pushEvents e h1
    generalize t.pushEvents e = u at this ⊢
    exact this.of_regs rfl
  unfold State.event
  split
  · exact h
  · dsimp only
    split
    · split
      · exact h.pushEvents _ h1
      · exact h.evtLose hr _
    · split
      · exact hp _ _
      · exact h.evtLose hr _

theorem sameRegs.askAdmission {l : List Part} {s t : State} (h : sameRegs l s t) (a b : Nat) (hr : holdsFld l F.PWR_QSTATUS_PEAK 0 0 0 0) :
    sameRegs l s (t.askAdmission a b) := by
  unfold State.askAdmission; dsimp only; split
  · exact h
  · exact (h.of_regs rfl : sameRegs l s { t with pwr := { t.pwr with queue := queueInsert ({ cls := a, index := b }, t.now) t.pwr.queue } }).peak _ _ _ _ hr

theorem sameRegs.releaseAdmission {l : List Part} {s t : State} (h : sameRegs l s t) (a b : Nat) : sameRegs l s (t.releaseAdmission a b) :=
  h.of_regs rfl

/-! ### The bytes of the stores -/

theorem sameBytes.refl (s : State) : sameBytes s s := fun _ _ => rfl

theorem sameBytes.trans {s t u : State} (h : sameBytes s t) (h' : sameBytes t u) : sameBytes s u := fun id a => (h' id a).trans (h id a)

/-- A step that leaves the stores leaves their bytes. -/
theorem sameBytes.of_stores {s t u : State} (h : sameBytes s t) (e1 : u.slices = t.slices) (e2 : u.cstore = t.cstore) : sameBytes s u := by
  intro id a; rw [← h id a]; cases id <;> simp [State.store, State.sl, e1, e2]

theorem sameBytes.wr {s t : State} (h : sameBytes s t) (r : Reg) (v : Word) (i j k m : Nat) : sameBytes s (t.wr r v i j k m) := h.of_stores rfl rfl
theorem sameBytes.setFld {s t : State} (h : sameBytes s t) (f : Field) (v i j k m : Nat) : sameBytes s (t.setFld f v i j k m) := h.of_stores rfl rfl
theorem sameBytes.setFlag {s t : State} (h : sameBytes s t) (f : Field) (b : Bool) (i j k m : Nat) : sameBytes s (t.setFlag f b i j k m) :=
  h.of_stores rfl rfl
theorem sameBytes.countBy {s t : State} (h : sameBytes s t) (r : Reg) (n i j k m : Nat) : sameBytes s (t.countBy r n i j k m) := h.of_stores rfl rfl
theorem sameBytes.count {s t : State} (h : sameBytes s t) (r : Reg) (i j k m : Nat) : sameBytes s (t.count r i j k m) := h.of_stores rfl rfl
theorem sameBytes.bump {s t : State} (h : sameBytes s t) (f : Field) (n i j k m : Nat) : sameBytes s (t.bump f n i j k m) := h.of_stores rfl rfl
theorem sameBytes.setPair {s t : State} (h : sameBytes s t) (lo hi : Reg) (v i j k : Nat) : sameBytes s (t.setPair lo hi v i j k) :=
  (h.wr _ _ _ _ _ _).wr _ _ _ _ _ _
theorem sameBytes.pairAdd {s t : State} (h : sameBytes s t) (lo hi : Reg) (v i j k : Nat) : sameBytes s (t.pairAdd lo hi v i j k) :=
  h.setPair _ _ _ _ _ _

theorem sameBytes.peak {s t : State} (h : sameBytes s t) (f : Field) (v i j : Nat) : sameBytes s (t.peak f v i j) := by
  unfold State.peak; split
  · exact h.setFld _ _ _ _ _ _
  · exact h

/-- A change of a slice that leaves its store's bytes. -/
theorem sameBytes.modSl {s t : State} (h : sameBytes s t) (n : Fin 16) (g : Slice → Slice) (hg : ∀ x, (g x).store.bytes = x.store.bytes) :
    sameBytes s (t.modSl n g) := by
  intro id a
  rw [← h id a]
  cases id with
  | central => rfl
  | slice m =>
    by_cases e : m = n
    · subst e; simp [State.store, Store.byteAt, hg]
    · simp [State.store, State.sl_modSl_ne _ _ e]

theorem State.store_setStore_same (s : State) (id : StoreId) (st : Store) : (s.setStore id st).store id = st := by
  cases id <;> simp [State.setStore, State.store]

theorem State.store_setStore_ne (s : State) {id id' : StoreId} (st : Store) (h : id' ≠ id) : (s.setStore id st).store id' = s.store id' := by
  cases id with
  | central => cases id' with
    | central => exact absurd rfl h
    | slice n => rfl
  | slice m => cases id' with
    | central => rfl
    | slice n =>
      have : n ≠ m := fun e => h (e ▸ rfl)
      simp [State.setStore, State.store, State.sl_modSl_ne _ _ this]

/-- A change of a store that leaves its bytes. -/
theorem sameBytes.setStore {s t : State} (h : sameBytes s t) (id : StoreId) (st : Store) (hg : st.bytes = (t.store id).bytes) :
    sameBytes s (t.setStore id st) := by
  intro id' a
  rw [← h id' a]
  by_cases e : id' = id
  · subst e; simp [State.store_setStore_same, Store.byteAt, hg]
  · rw [State.store_setStore_ne _ _ e]

theorem sameBytes.raise {s t : State} (h : sameBytes s t) (a b c : Nat) : sameBytes s (t.raise a b c) := by
  unfold State.raise; dsimp only; split
  · exact h
  · exact h.of_stores rfl rfl

theorem sameBytes.journal {s t : State} (h : sameBytes s t) (a b c d : Nat) : sameBytes s (t.journal a b c d) := by
  unfold State.journal; split
  · exact h.of_stores rfl rfl
  · exact h

theorem sameBytes.ite {s t u : State} {p : Prop} [Decidable p] (h : sameBytes s t) (h' : sameBytes s u) : sameBytes s (if p then t else u) := by
  split <;> assumption

theorem sameBytes.foldl {s : State} {α : Type} (f : State → α → State) (hf : ∀ t a, sameBytes s t → sameBytes s (f t a)) (xs : List α) :
    ∀ t, sameBytes s t → sameBytes s (xs.foldl f t) := by
  induction xs with
  | nil => exact fun t h => h
  | cons a xs ih => exact fun t h => ih _ (hf t a h)

theorem sameBytes.pushEvents {s t : State} (h : sameBytes s t) (e : List EventRecord) : sameBytes s (t.pushEvents e) := by
  unfold State.pushEvents
  exact (h.of_stores rfl rfl : sameBytes s { t with evt := { t.evt with queue := t.evt.queue ++ e } }).peak _ _ _ _

theorem sameBytes.event {s t : State} (h : sameBytes s t) (a b c d : Nat) : sameBytes s (t.event a b c d) := by
  have hl : ∀ x, sameBytes s { (t.count .EVT_LOST).setFlag F.EVT_STATUS_LOST true with evt := x } :=
    fun x => ((h.count .EVT_LOST 0 0 0 0).setFlag F.EVT_STATUS_LOST true 0 0 0 0).of_stores rfl rfl
  unfold State.event
  dsimp only
  repeat' split
  all_goals first
    | exact h
    | exact h.pushEvents _

theorem sameBytes.askAdmission {s t : State} (h : sameBytes s t) (a b : Nat) : sameBytes s (t.askAdmission a b) := by
  unfold State.askAdmission; dsimp only; split
  · exact h
  · exact (h.of_stores rfl rfl : sameBytes s { t with pwr := { t.pwr with queue := queueInsert ({ cls := a, index := b }, t.now) t.pwr.queue } }).peak _ _ _ _

theorem sameBytes.releaseAdmission {s t : State} (h : sameBytes s t) (a b : Nat) : sameBytes s (t.releaseAdmission a b) :=
  h.of_stores rfl rfl

end Sys2Proof.Machine
end

