-- ==== Sys2Proof/Tests/Slice0.lean ====
section
/-!
SUPPORT. Tests. Expected values come from the spec's own tables and examples; the witnesses at the end show, for every clause of a
statement that has premises, a state and operands that meet all of them together.
-/

set_option Elab.async false

namespace Sys2Proof.Tests

open Sys2Proof Sys2Proof.Machine

/-! ### Well-formed and ill-formed commands, one of each for every check -/

/-- A packet for the checks: `k` data bytes. -/
def packetOf (k : Nat) : CtpPacket :=
  ⟨⟨.v4 0, 0⟩, 1, 2, true, true, true, false, 5, 1, 0, false, 0, 0, 4, 0, 0, 0, List.replicate k 0⟩

/-- A short event word with an operand. -/
def shortOf (d : BitVec 26) : EventWord := ⟨false, 0, 1, 0, d⟩

theorem test_wf_address : (Instr.regWrite .host 8 1).wf = true ∧ (Instr.regWrite .host 9 1).wf = false := by decide
theorem test_wf_line : (Instr.storeAccess .central [⟨.host, 131071, none⟩] []).wf = true ∧
    (Instr.storeAccess .central [⟨.host, 131072, none⟩] []).wf = false := by decide
theorem test_wf_byte : (Instr.storeAccess (.slice 0) [⟨.host, 0, some [(128, 0)]⟩] []).wf = false := by decide
theorem test_wf_upset : (Instr.storeAccess (.slice 0) [] [(24576 * 16, true)]).wf = false := by decide
theorem test_wf_emit : (Instr.emit 0 (List.replicate 6 (shortOf 63))).wf = true ∧ (Instr.emit 0 (List.replicate 6 (shortOf 64))).wf = false ∧
    (Instr.emit 0 (List.replicate 5 (shortOf 0))).wf = false := by decide
theorem test_wf_emitl : (Instr.emitl 0 (List.replicate 3 (shortOf 0))).wf = false := by decide
theorem test_wf_readings : (Instr.ccStart 0 (List.replicate 31 ⟨0, 0, 0, 0⟩)).wf = false := by decide
theorem test_wf_sums : (Instr.trgCalEnd [0]).wf = false := by decide
theorem test_wf_pair : (Instr.faultReport [⟨0x21, 16, 2 ^ 24⟩] [] []).wf = false := by decide
theorem test_wf_ctp : (Instr.memWr 0 (packetOf 4)).wf = true ∧ (Instr.memWr 0 (packetOf 8193)).wf = false := by decide +kernel
theorem test_wf_packet : (Instr.fabricPacketRx 0 ⟨false, 0, 0, 0, 0, false, 0, 0, 0, 0, List.replicate 1025 0⟩).wf = false := by decide +kernel
theorem test_wf_flit :
    (Instr.ktlFlitRx 0 ⟨.part 0 true false (List.replicate 161 0), 0, 0, false, 0, 0, none, none, 0, false, 0⟩ 0).wf = false := by decide +kernel
theorem test_wf_sets : (Instr.fgEnd 0 (some [])).wf = false := by decide
theorem test_wf_march : (Instr.bootPhaseAdvance (.march (some (.slice 0, 24576)))).wf = false := by decide

/-! ### The reset state (R10, R710) -/

theorem test_reset_queue : State.reset.pending = [] ∧ State.reset.beat = 0 := by decide +kernel
theorem test_reset_canonical : State.reset.canonical = true := by decide +kernel
/-- BOOT_STATUS.PHASE reads CLOCK (R707). -/
theorem test_reset_phase : State.reset.fld F.BOOT_STATUS_PHASE = 1 := by decide +kernel

/-! ### Words of the sequencer's encoding, written out from R107 to R109 and R115 -/

/-- HALT with CODE 0xABCD: opcode 01H in bits 127:120, CODE in bits 15:0. -/
theorem test_word_halt : decodeWord 0x0100000000000000000000000000ABCD = some (.halt 0xABCD) := by decide +kernel
/-- WAIT with BEATS 7. -/
theorem test_word_wait : decodeWord 0x08000000000000000000000000000007 = some (.wait 7) := by decide +kernel
/-- An undefined opcode holds no instruction. -/
theorem test_word_undefined : decodeWord 0x07000000000000000000000000000000 = none := by decide +kernel

/-! ### Known values from outside the model -/

/-- The check value of CRC-32C is that of the nine digits. -/
theorem test_crc32c : crc32c [0x31, 0x32, 0x33, 0x34, 0x35, 0x36, 0x37, 0x38, 0x39] = 0xE3069283 := by decide +kernel
/-- The digest of the three letters abc that FIPS 180-4 gives as its example. -/
theorem test_sha384 : bigEndian (sha384 [0x61, 0x62, 0x63]) =
    0xcb00753f45a35e8bb5a03d699ac65007272c32ab0eded1631a8b605a43ff5bed8086072ba1e7cc2358baeca134c825a7 := by decide +kernel
/-- The signature of the word sample that RFC 6979 gives for P-384 with SHA-384; one bit of s changed does not verify. -/
theorem test_ecdsa :
    let le := fun v : Nat => (bigBytes 48 v).reverse
    let key := le 0xEC3A4E415B4E19A4568618029F427FA5DA9A8BC4AE92E02E06AAE5286B300C64DEF8F0EA9055866064A254515480BC13 ++
      le 0x8015D9B72D7D57244EA8EF9AC0C621896708A59367F9DFB9F54CA84B3F1C9DB1288B231C3AE0D4FE7344FD2533264720
    let digest := sha384 [0x73, 0x61, 0x6D, 0x70, 0x6C, 0x65]
    let r := le 0x94EDBB92A5ECB8AAD4736E56C691916B3F88140666CE9FA73D64C4EA95AD133C81A648152E44ACF96E36DD1E80FABE46
    let s := 0x99EF4AEB15F178CEA1FE40DB2603138F130E740A19624526203B6351D0A3A94FA329C145786E679E7B82C71A38628AC8
    verifies key digest (r ++ le s) = true ∧ verifies key digest (r ++ le (s + 1)) = false := by decide +kernel
/-- A read of an address that names no register answers zero (R9). -/
theorem test_unmapped : (regRead State.reset 0xFFFFF0).readValue = 0 := by decide +kernel
/-- SEQ_CTRL of slice 3 stands in the second page of its slice region (R525, R527). -/
theorem test_address : regAt (RegKey.address ⟨.SEQ_CTRL, 3, 0, 0, 0⟩) = some ⟨.SEQ_CTRL, 3, 0, 0, 0⟩ := by decide +kernel
/-- The store regions of two slices lie 4 MiB apart (R525). -/
theorem test_region : regionOf 0x100400080 = some (.sliceStore 1, 0x80) := by decide +kernel

/-! ### States for the witnesses -/

/-- A state with Invar locked. -/
def locked (s : State) : State := s.setFlag F.INV_STATUS_LOCK true
/-- A flash whose image slot 0 gives every section no bytes. -/
def emptyFlash : SMap Nat Byte :=
  (List.range 17).flatMap (fun i => (List.range 4).map (fun k => (imgBase false + 0x30 + 0x40 * i + 8 + k, (0 : Byte))))
/-- A state whose slice 3 has its analogue domain on. -/
def anaOn : State := State.reset.setFld F.PWR_DOM_STATE 0 19
/-- A state whose pin 31 of slice 3 carries no guard cause. -/
def pinFree : State := [F.PIN_STATUS_CAUSE_IN, F.PIN_STATUS_CAUSE_PWR, F.PIN_STATUS_CAUSE_CHECK, F.PIN_STATUS_GUARDED].foldl (fun s f => s.setFlag f false 3 31) anaOn

/-! ### Witnesses of the premises of the statements -/

theorem witness_StepRunsFront :
  (∃ (s : State) (c : Instr) (l : List Instr), s.pending = c :: l) ∧
  (∃ s : State, s.pending = []) := 
  ⟨⟨{ State.reset with pending := [.regRd 0 ⟨⟨.v4 0, 0⟩, 1, 2, true, true, true, false, 5, 1, 0, false, 0, 0, 4, 0, 0, 0, []⟩] }, _, _, rfl⟩,
   ⟨State.reset, rfl⟩⟩

theorem witness_SupervisionResets :
  (∃ (s : State), s.inReset = false) ∧
  (∃ (s : State), s.inReset = false) ∧
  (∃ (s : State), s.inReset = false) ∧
  (∃ (s : State), s.supply.poreset = true ∧ s.supply.rails = 0 ∧ s.supply.hot = false) ∧
  (∃ (s : State), s.supply.poreset = false ∧ s.supply.rails ≠ 0 ∧ s.supply.hot = false) ∧
  (∃ (s : State), s.supply.poreset = false ∧ s.supply.rails = 0 ∧ s.supply.hot = true) := 
  ⟨⟨State.reset, by decide +kernel⟩,
   ⟨State.reset, by decide +kernel⟩,
   ⟨State.reset, by decide +kernel⟩,
   ⟨({ State.reset with supply := { State.reset.supply with poreset := true } }), by decide +kernel⟩,
   ⟨({ State.reset with supply := { State.reset.supply with rails := 1 } }), by decide +kernel⟩,
   ⟨({ State.reset with supply := { State.reset.supply with hot := true } }), by decide +kernel⟩⟩

theorem witness_ClockAndOverruns :
  (∃ (s : State), s.inReset = false ∧ s.fld F.BOOT_STATUS_PHASE = 1 ∧ s.flag F.INV_STATUS_LOCK = false) ∧
  (∃ (s : State), s.inReset = false ∧ s.fld F.BOOT_STATUS_PHASE = 1 ∧ s.flag F.INV_STATUS_LOCK = false) ∧
  (∃ (s : State), s.inReset = false ∧ s.flag F.INV_STATUS_LOCK = true) ∧
  (∃ (s : State), s.flag F.INV_STATUS_LOCK = false) := 
  ⟨⟨State.reset, by decide +kernel⟩,
   ⟨State.reset, by decide +kernel⟩,
   ⟨(locked State.reset), by decide +kernel⟩,
   ⟨State.reset, by decide +kernel⟩⟩

theorem witness_BoundaryScan :
  (∃ (count : Nat), count ≤ 32) ∧
  (∃ (s : State), s.supply.poreset = true) ∧
  (∃ (s : State), s.supply.poreset = true) ∧
  (∃ (s : State), s.supply.poreset = true) ∧
  (∃ (s : State), s.supply.poreset = true) ∧
  (∃ (s : State), s.supply.poreset = true) ∧
  (∃ (s : State) (lands : List Bool) (tdi : List Bool) (c : Instr), c ∈ [Instr.extest lands tdi, .extestPulse lands tdi, .extestTrain lands tdi, .clamp
    tdi, .highz tdi] ∧ s.inReset = false) := 
  ⟨⟨32, by decide +kernel⟩,
   ⟨({ State.reset with supply := { State.reset.supply with poreset := true } }), by decide +kernel⟩,
   ⟨({ State.reset with supply := { State.reset.supply with poreset := true } }), by decide +kernel⟩,
   ⟨({ State.reset with supply := { State.reset.supply with poreset := true } }), by decide +kernel⟩,
   ⟨({ State.reset with supply := { State.reset.supply with poreset := true } }), by decide +kernel⟩,
   ⟨({ State.reset with supply := { State.reset.supply with poreset := true } }), by decide +kernel⟩,
   ⟨State.reset, ([]), ([]), (Instr.clamp []), by decide +kernel⟩⟩

theorem witness_WheelCommands :
  (∃ (s : State) (n : Fin 16), wheelState s n = 0 ∧ s.fld F.SLC_WHEEL_CTRL_USE_START_BEAT n = 0) ∧
  (∃ (s : State) (n : Fin 16) (b : Nat), wheelState s n = 0 ∧ s.fld F.SLC_WHEEL_CTRL_USE_START_BEAT n = 1 ∧ s.pair .SLC_WHEEL_START_LO
    .SLC_WHEEL_START_HI n = b ∧ b % 16 = 0 ∧ s.beat + 2 ≤ b) ∧
  (∃ (s : State) (n : Fin 16), wheelState s n = 1 ∧ (s.sl n).wheel.startAt ≤ s.now) ∧
  (∃ (s : State) (n : Fin 16), wheelState s n = 2) ∧
  (∃ (s : State) (n : Fin 16), wheelState s n = 3 ∧ (s.sl n).wheel.stopAt ≤ s.now) ∧
  (∃ (s : State) (n : Fin 16), s.fld F.SLC_WHEEL_STATUS_COMMIT_PEND n = 1 ∧ (s.sl n).wheel.copyAt ≤ s.now ∧ s.storeOn (.slice n) = true ∧ ((∀ i : Fin
    64, ((shadowMap s n).get i).toNat ≤ 5))) ∧
  (∃ (s : State) (n : Fin 16) (i : Fin 64), s.fld F.SLC_WHEEL_STATUS_COMMIT_PEND n = 1 ∧ (s.sl n).wheel.copyAt ≤ s.now ∧ 5 < ((shadowMap s n).get
    i).toNat) := 
  ⟨⟨State.reset, 15, by decide +kernel⟩,
   ⟨((State.reset.setFld F.SLC_WHEEL_CTRL_USE_START_BEAT 1 3).setPair .SLC_WHEEL_START_LO .SLC_WHEEL_START_HI 16 3), 3, 16, by decide +kernel⟩,
   ⟨(State.reset.setFld F.SLC_WHEEL_STATUS_STATE 1 0), 0, by decide +kernel⟩,
   ⟨(State.reset.setFld F.SLC_WHEEL_STATUS_STATE 2 0), 0, by decide +kernel⟩,
   ⟨(State.reset.setFld F.SLC_WHEEL_STATUS_STATE 3 0), 0, by decide +kernel⟩,
   ⟨(((State.reset.setFld F.SLC_WHEEL_STATUS_COMMIT_PEND 1 0).setFld F.SLC_STORE_PWR_STATE 0 0).wr .SLC_WHEEL_MAP 0x5421 0 0), 0, by decide +kernel⟩,
   ⟨((State.reset.setFld F.SLC_WHEEL_STATUS_COMMIT_PEND 1 0).wr .SLC_WHEEL_MAP 0x0006 0 0), 0, 0, by decide +kernel⟩⟩

theorem witness_Stores :
  (∃ (s : State) (n : Fin 16), s.fld F.PWR_DOM_STATE n = 0 ∧ s.storePower (.slice n) = 1) ∧
  (∃ (s : State) (id : StoreId), s.storePower id = 3 ∧ (s.store id).pwrTarget = 2) ∧
  (∃ (s : State) (id : StoreId), s.storePower id = 3 ∧ (s.store id).pwrTarget = 1) ∧
  (∃ (s : State) (id : StoreId) (d : Nat), s.storePower id = 3 ∧ (s.store id).pwrTarget = 0 ∧ (s.store id).pwrDue = some d ∧ d ≤ s.now) ∧
  (∃ (s : State) (line : Nat) (w : Nat) (data : List Byte), s.storeOn .central = true ∧ s.cstore.cycle < 4 ∧ s.cstore.waiting = [] ∧ journalWant s =
    none ∧ line < 131072 ∧ w < 16 ∧ data.length = 8 ∧ s.flt.tests = []) ∧
  (∃ (s : State) (line : Nat), s.storeOn .central = true ∧ s.cstore.cycle < 4 ∧ s.cstore.waiting = [] ∧ journalWant s = none ∧ line < 131072 ∧
    s.cstore.linePoison line = [] ∧ s.cstore.lineSingle line = [] ∧ s.flt.inject = none) ∧
  (∃ (s : State) (line : Nat) (rest : List Nat), s.storeOn .central = true ∧ s.cstore.cycle < 4 ∧ s.cstore.waiting = [] ∧ journalWant s = none ∧ s.fld
    F.GLB_CSTORE_SCRUB_INTERVAL = 16 ∧ s.cstore.scrubDue = s.now ∧ s.cstore.rewrite = line :: rest) := 
  ⟨⟨(State.reset.setFld F.SLC_STORE_PWR_STATE 1 0), 0, by decide +kernel⟩,
   ⟨(((State.reset.setStorePower (.slice 0) 3).setStore (.slice 0) { Store.initial with pwrTarget := 2 })), (.slice 0), by decide +kernel⟩,
   ⟨(((State.reset.setStorePower .central 3).setStore .central { Store.initial with pwrTarget := 1 })), .central, by decide +kernel⟩,
   ⟨(((State.reset.setStorePower .central 3).setStore .central { Store.initial with pwrDue := some 0 })), .central, 0, by decide +kernel⟩,
   ⟨State.reset, 131071, 15, ([1, 2, 3, 4, 5, 6, 7, 8]), by decide +kernel⟩,
   ⟨State.reset, 7, by decide +kernel⟩,
   ⟨(({ State.reset with cstore := { Store.initial with rewrite := [5], single := [80] } }).setFld F.GLB_CSTORE_SCRUB_INTERVAL 16), 5, ([]),
    by decide +kernel⟩⟩

theorem witness_SeqTransfersAndLoops :
  (∃ (s : State) (n : Fin 16), seqCanIssue s n = true ∧ seqPc s n < lastIndex) ∧
  (∃ (s : State) (n : Fin 16) (target : BitVec 18) (pop : BitVec 3), seqCanIssue s n = true ∧ seqPc s n < lastIndex ∧ target.toNat ≤ lastIndex ∧
    pop.toNat ≤ (s.sl n).seq.loops.length) ∧
  (∃ (s : State) (n : Fin 16) (target : BitVec 18), seqCanIssue s n = true ∧ seqPc s n < lastIndex ∧ target.toNat ≤ lastIndex ∧ (s.sl
    n).seq.calls.length < 16) ∧
  (∃ (s : State) (n : Fin 16) (r : Nat) (rest : List Nat), seqCanIssue s n = true ∧ seqPc s n < lastIndex ∧ (s.sl n).seq.calls = r :: rest ∧ r ≤
    lastIndex) ∧
  (∃ (s : State) (n : Fin 16) (count : BitVec 32) (endIndex : BitVec 18) (fromReg : Bool) (reg : BitVec 3) (c : Nat), seqCanIssue s n = true ∧ seqPc s n
    < lastIndex ∧ c = (if fromReg then s.fld F.SEQ_LCOUNT_COUNT n reg.toNat else count.toNat) ∧ c ≠ 0 ∧ seqPc s n < endIndex.toNat ∧ endIndex.toNat ≤
    lastIndex ∧ (s.sl n).seq.loops.length < 8) ∧
  (∃ (s : State) (n : Fin 16) (count : BitVec 32) (endIndex : BitVec 18) (fromReg : Bool) (reg : BitVec 3), seqCanIssue s n = true ∧ seqPc s n <
    lastIndex ∧ (if fromReg then s.fld F.SEQ_LCOUNT_COUNT n reg.toNat else count.toNat) = 0 ∧ seqPc s n < endIndex.toNat ∧ endIndex.toNat < lastIndex) ∧
  (∃ (s : State) (n : Fin 16) (l : LoopEntry) (rest : List LoopEntry), seqCanIssue s n = true ∧ seqPc s n < lastIndex ∧ (s.sl n).seq.loops = l :: rest ∧
    l.endIndex = seqPc s n ∧ 1 < l.remaining ∧ l.start ≤ lastIndex) ∧
  (∃ (s : State) (n : Fin 16) (l : LoopEntry) (rest : List LoopEntry), seqCanIssue s n = true ∧ seqPc s n < lastIndex ∧ (s.sl n).seq.loops = l :: rest ∧
    l.endIndex = seqPc s n ∧ l.remaining ≤ 1) := 
  ⟨⟨(State.reset.setFld F.SEQ_STATUS_STATE 1 3), 3, by decide +kernel⟩,
   ⟨((State.reset.setFld F.SEQ_STATUS_STATE 1 3).modSl 3 (fun x => { x with seq := { x.seq with loops := [⟨1, 2, 3⟩] } })), 3, 196607, 1,
    by decide +kernel⟩,
   ⟨(State.reset.setFld F.SEQ_STATUS_STATE 1 3), 3, 7, by decide +kernel⟩,
   ⟨((State.reset.setFld F.SEQ_STATUS_STATE 1 3).modSl 3 (fun x => { x with seq := { x.seq with calls := [9, 4] } })), 3, 9, ([4]), by decide +kernel⟩,
   ⟨(State.reset.setFld F.SEQ_STATUS_STATE 1 3), 3, 5, 196607, false, 0, 5, by decide +kernel⟩,
   ⟨(State.reset.setFld F.SEQ_STATUS_STATE 1 3), 3, 5, 196606, true, 7, by decide +kernel⟩,
   ⟨((State.reset.setFld F.SEQ_STATUS_STATE 1 3 |>.setFld F.SEQ_PC_INDEX 6 3).modSl 3 (fun x => { x with seq := { x.seq with loops := [⟨2, 6, 2⟩] } })),
    3, (⟨2, 6, 2⟩), ([]), by decide +kernel⟩,
   ⟨((State.reset.setFld F.SEQ_STATUS_STATE 1 3 |>.setFld F.SEQ_PC_INDEX 6 3).modSl 3 (fun x => { x with seq := { x.seq with loops := [⟨2, 6, 1⟩] } })),
    3, (⟨2, 6, 1⟩), ([]), by decide +kernel⟩⟩

theorem witness_SeqEventsAndMarks :
  (∃ (s : State) (n : Fin 16) (words : List EventWord), seqCanIssue s n = true ∧ seqPc s n < lastIndex ∧ words.all eventOk = true) ∧
  (∃ (s : State) (n : Fin 16) (words : List EventWord), seqCanIssue s n = true ∧ seqPc s n < lastIndex ∧ words.all eventOk = true) ∧
  (∃ (s : State) (n : Fin 16) (desc : BitVec 6), seqCanIssue s n = true ∧ seqPc s n < lastIndex ∧ descOk s n desc.toNat = true) ∧
  (∃ (s : State) (n : Fin 16) (v : Fin 1024) (f : VerdictFlight), s.xbar.flight = [f] ∧ f.isFor (.verdict v) ∧ f.slices = BitVec.ofNat 16 (2 ^ n.val) ∧
    f.due = s.now ∧ f.imported = false ∧ f.value < 4 ∧ (s.sl n).isolated = false ∧ (s.sl n).reloading = false ∧ s.rpl.replaying = false ∧ inputNew s n
    (inputSel (.verdict v)) = false) := 
  ⟨⟨(State.reset.setFld F.SEQ_STATUS_STATE 1 3), 3, ([⟨false, 3, 1, 1, 0⟩, ⟨false, 0, 0, 0, 0⟩]), by decide +kernel⟩,
   ⟨(State.reset.setFld F.SEQ_STATUS_STATE 1 3), 3, ([⟨false, 3, 1, 1, 0⟩, ⟨false, 0, 0, 0, 0⟩]), by decide +kernel⟩,
   ⟨(State.reset.setFld F.SEQ_STATUS_STATE 1 3), 3, 63, by decide +kernel⟩,
   ⟨({ State.reset with xbar := { State.reset.xbar with flight := [{ v := 1023, imported := false, value := 2, due := 0, slices := 8 }] } }), 3, 1023,
    ({ v := 1023, imported := false, value := 2, due := 0, slices := 8 }), by decide +kernel⟩⟩

theorem witness_SeqWait :
  (∃ (s : State) (n : Fin 16), seqCanIssue s n = true ∧ seqPc s n < lastIndex) ∧
  (∃ (s : State) (n : Fin 16) (q : PendingInstr) (f : FetchLine) (b : BitVec 32), (s.sl n).seq.pend = some q ∧ q.instr = .wait b ∧ q.due ≤ s.now ∧
    q.index + 2 ≤ lastIndex ∧ (s.sl n).seq.stepping = false ∧ (s.sl n).seq.starting = false ∧ nopFetched s n (q.index + 1) f) := 
  ⟨⟨(State.reset.setFld F.SEQ_STATUS_STATE 1 3), 3, by decide +kernel⟩,
   ⟨({ ((State.reset.setFld F.SEQ_STATUS_STATE 2 3 |>.setFld F.SEQ_PC_INDEX 8 3).modSl 3 (fun x => { x with seq := { x.seq with pend := some ⟨.wait 0, 8, 0, 0, none⟩, fetch := [⟨1, List.replicate 128 0, [], 0, 0⟩] } })) with now := 5 }),
    3, (⟨.wait 0, 8, 0, 0, none⟩), (⟨1, List.replicate 128 0, [], 0, 0⟩), 0, by decide +kernel⟩⟩

theorem witness_SeqWaits :
  (∃ (s : State) (n : Fin 16) (beat : BitVec 64), seqCanIssue s n = true ∧ seqPc s n < lastIndex ∧ s.beat + 1 ≤ beat.toNat) ∧
  (∃ (s : State) (n : Fin 16) (beat : BitVec 64), seqCanIssue s n = true ∧ seqPc s n < lastIndex ∧ beat.toNat < s.beat + 1) ∧
  (∃ (s : State) (n : Fin 16) (q : PendingInstr) (f : FetchLine) (b : BitVec 64), (s.sl n).seq.pend = some q ∧ q.instr = .waita b ∧ q.due ≤ s.now ∧
    q.index + 2 ≤ lastIndex ∧ (s.sl n).seq.stepping = false ∧ (s.sl n).seq.starting = false ∧ nopFetched s n (q.index + 1) f) ∧
  (∃ (s : State) (n : Fin 16), seqCanIssue s n = true ∧ seqPc s n < lastIndex) ∧
  (∃ (s : State) (n : Fin 16) (q : PendingInstr) (f : FetchLine) (b : BitVec 32) (o : BitVec 23), (s.sl n).seq.pend = some q ∧ q.instr = .idle b o ∧
    q.due ≤ s.now ∧ q.index + 2 ≤ lastIndex ∧ (s.sl n).seq.stepping = false ∧ (s.sl n).seq.starting = false ∧ nopFetched s n (q.index + 1) f) ∧
  (∃ (s : State) (n : Fin 16) (f : FetchLine), seqCanIssue s n = true ∧ seqPc s n < lastIndex ∧ (s.sl n).seq.starting = true ∧ nopFetched s n (seqPc s
    n) f) := 
  ⟨⟨(State.reset.setFld F.SEQ_STATUS_STATE 1 3), 3, 1, by decide +kernel⟩,
   ⟨(State.reset.setFld F.SEQ_STATUS_STATE 1 3), 3, 0, by decide +kernel⟩,
   ⟨({ ((State.reset.setFld F.SEQ_STATUS_STATE 2 3 |>.setFld F.SEQ_PC_INDEX 8 3).modSl 3 (fun x => { x with seq := { x.seq with pend := some ⟨.waita 0, 8, 0, 0, none⟩, fetch := [⟨1, List.replicate 128 0, [], 0, 0⟩] } })) with now := 5 }),
    3, (⟨.waita 0, 8, 0, 0, none⟩), (⟨1, List.replicate 128 0, [], 0, 0⟩), 0, by decide +kernel⟩,
   ⟨(State.reset.setFld F.SEQ_STATUS_STATE 1 3), 3, by decide +kernel⟩,
   ⟨({ ((State.reset.setFld F.SEQ_STATUS_STATE 2 3 |>.setFld F.SEQ_PC_INDEX 8 3).modSl 3 (fun x => { x with seq := { x.seq with pend := some ⟨.idle 0 0, 8, 0, 0, none⟩, fetch := [⟨1, List.replicate 128 0, [], 0, 0⟩] } })) with now := 5 }),
    3, (⟨.idle 0 0, 8, 0, 0, none⟩), (⟨1, List.replicate 128 0, [], 0, 0⟩), 0, 0, by decide +kernel⟩,
   ⟨({ ((State.reset.setFld F.SEQ_STATUS_STATE 2 3 |>.setFld F.SEQ_PC_INDEX 8 3).modSl 3 (fun x => { x with seq := { x.seq with starting := true, startAt := 4, fetch := [⟨1, List.replicate 128 0, [], 0, 0⟩] } })) with now := 5 }),
    3, (⟨1, List.replicate 128 0, [], 0, 0⟩), by decide +kernel⟩⟩

theorem witness_SeqVerdictWaitsAndSyncs :
  (∃ (s : State) (n : Fin 16) (sel : BitVec 16) (mask : BitVec 2) (want : BitVec 2) (tmo : Timeout), seqCanIssue s n = true ∧ seqPc s n < lastIndex ∧
    issueCheck s n (seqPc s n) (.waitv sel mask want tmo) = none ∧ inputNew s n (Selector.ofBits sel.toNat) = false) ∧
  (∃ (s : State) (n : Fin 16) (q : PendingInstr) (sel : BitVec 16) (mask : BitVec 2) (want : BitVec 2) (tmo : Timeout), (s.sl n).seq.pend = some q ∧
    q.instr = .waitv sel mask want tmo ∧ q.index < lastIndex ∧ inputNew s n (Selector.ofBits sel.toNat) = true ∧ inputValue s n (Selector.ofBits
    sel.toNat) &&& mask.toNat = want.toNat ∧ ((Selector.ofBits sel.toNat).index ≤ 255 ∨ (Selector.ofBits sel.toNat).kind = .verdict)) ∧
  (∃ (s : State) (n : Fin 16) (q : PendingInstr) (sel : BitVec 16) (mask : BitVec 2) (want : BitVec 2) (tmo : Timeout), (s.sl n).seq.pend = some q ∧
    q.instr = .waitv sel mask want tmo ∧ inputNew s n (Selector.ofBits sel.toNat) = false ∧ tmo.beats ≠ 0 ∧ q.issued + tmo.beats.toNat ≤ s.now ∧
    tmo.stop = false ∧ tmo.target.toNat ≤ lastIndex) ∧
  (∃ (s : State) (n : Fin 16) (kind : BitVec 2) (id : BitVec 8) (tmo : Timeout), seqCanIssue s n = true ∧ seqPc s n < lastIndex ∧ issueCheck s n (seqPc
    s n) (.sync kind id tmo) = none ∧ kind ≠ 2 ∧ syncEdge s kind id = false) ∧
  (∃ (s : State) (n : Fin 16) (q : PendingInstr) (kind : BitVec 2) (id : BitVec 8) (tmo : Timeout), (s.sl n).seq.pend = some q ∧ q.instr = .sync kind id
    tmo ∧ q.index < lastIndex ∧ kind ≠ 2 ∧ syncEdge s kind id = true) ∧
  (∃ (s : State) (n : Fin 16) (q : PendingInstr) (kind : BitVec 2) (id : BitVec 8) (tmo : Timeout), (s.sl n).seq.pend = some q ∧ q.instr = .sync kind id
    tmo ∧ kind ≠ 2 ∧ syncEdge s kind id = false ∧ tmo.beats ≠ 0 ∧ q.issued + tmo.beats.toNat ≤ s.now ∧ tmo.stop = false ∧ tmo.target.toNat ≤
    lastIndex) ∧
  (∃ (s : State) (n : Fin 16) (maxExt : BitVec 24), seqCanIssue s n = true ∧ seqPc s n < lastIndex ∧ maxExt ≠ 0 ∧ vecReady s n = false) ∧
  (∃ (s : State) (n : Fin 16) (q : PendingInstr) (m : BitVec 24), (s.sl n).seq.pend = some q ∧ q.instr = .elastic m ∧ q.index < lastIndex ∧ vecReady s n
    = true) ∧
  (∃ (s : State) (n : Fin 16) (q : PendingInstr) (m : BitVec 24), (s.sl n).seq.pend = some q ∧ q.instr = .elastic m ∧ q.index < lastIndex ∧ vecReady s n
    = false ∧ q.issued + m.toNat ≤ s.now) := 
  ⟨⟨(State.reset.setFld F.SEQ_STATUS_STATE 1 3), 3, 0, 0, 0, (⟨4, 9, false⟩), by decide +kernel⟩,
   ⟨({ (((State.reset.setFld F.SEQ_VNEW_NEW 1 3 0).setFld F.SEQ_STATUS_STATE 3 3 |>.setFld F.SEQ_PC_INDEX 8 3).modSl 3 (fun x => { x with seq := { x.seq with pend := some ⟨.waitv 0 0 0 ⟨4, 9, false⟩, 8, 0, 0, none⟩ } })) with now := 5 }),
    3, (⟨.waitv 0 0 0 ⟨4, 9, false⟩, 8, 0, 0, none⟩), 0, 0, 0, (⟨4, 9, false⟩), by decide +kernel⟩,
   ⟨({ ((State.reset.setFld F.SEQ_STATUS_STATE 3 3 |>.setFld F.SEQ_PC_INDEX 8 3).modSl 3 (fun x => { x with seq := { x.seq with pend := some ⟨.waitv 0 0 0 ⟨4, 9, false⟩, 8, 0, 0, none⟩ } })) with now := 5 }),
    3, (⟨.waitv 0 0 0 ⟨4, 9, false⟩, 8, 0, 0, none⟩), 0, 0, 0, (⟨4, 9, false⟩), by decide +kernel⟩,
   ⟨(State.reset.setFld F.SEQ_STATUS_STATE 1 3), 3, 0, 7, (⟨4, 9, false⟩), by decide +kernel⟩,
   ⟨({ { ((State.reset.setFld F.SEQ_STATUS_STATE 3 3 |>.setFld F.SEQ_PC_INDEX 8 3).modSl 3 (fun x => { x with seq := { x.seq with pend := some ⟨.sync 0 7 ⟨4, 9, false⟩, 8, 0, 0, none⟩ } })) with now := 5 } with trg := { State.reset.trg with lastRise := [(7, 6)] } }),
    3, (⟨.sync 0 7 ⟨4, 9, false⟩, 8, 0, 0, none⟩), 0, 7, (⟨4, 9, false⟩), by decide +kernel⟩,
   ⟨({ ((State.reset.setFld F.SEQ_STATUS_STATE 3 3 |>.setFld F.SEQ_PC_INDEX 8 3).modSl 3 (fun x => { x with seq := { x.seq with pend := some ⟨.sync 1 7 ⟨4, 9, false⟩, 8, 0, 0, none⟩ } })) with now := 5 }),
    3, (⟨.sync 1 7 ⟨4, 9, false⟩, 8, 0, 0, none⟩), 1, 7, (⟨4, 9, false⟩), by decide +kernel⟩,
   ⟨((State.reset.setFld F.SEQ_STATUS_STATE 1 3 |>.setFld F.VEC_RING_LINES_LINES 8 3).setFld F.VEC_RING_READY_LINES 4 3), 3, 5, by decide +kernel⟩,
   ⟨({ ((State.reset.setFld F.SEQ_STATUS_STATE 2 3 |>.setFld F.SEQ_PC_INDEX 8 3).modSl 3 (fun x => { x with seq := { x.seq with pend := some ⟨.elastic 9, 8, 0, 0, none⟩ } })) with now := 5 }),
    3, (⟨.elastic 9, 8, 0, 0, none⟩), 9, by decide +kernel⟩,
   ⟨({ ((((State.reset.setFld F.VEC_RING_LINES_LINES 8 3).setFld F.VEC_RING_READY_LINES 4 3).setFld F.SEQ_STATUS_STATE 2 3 |>.setFld F.SEQ_PC_INDEX 8 3).modSl 3 (fun x => { x with seq := { x.seq with pend := some ⟨.elastic 5, 8, 0, 0, none⟩ } })) with now := 5 }),
    3, (⟨.elastic 5, 8, 0, 0, none⟩), 5, by decide +kernel⟩⟩

theorem witness_SeqBranchesAndCompares :
  (∃ (s : State) (n : Fin 16) (desc : BitVec 6) (t0 : BitVec 18) (t1 : BitVec 18) (t2 : BitVec 18) (t3 : BitVec 18), seqCanIssue s n = true ∧ seqPc s n
    < lastIndex ∧ ([t0.toNat, t1.toNat, t2.toNat, t3.toNat].all (fun x => decide (x ≤ lastIndex)) = true) ∧ descOk s n desc.toNat = true) ∧
  (∃ (s : State) (n : Fin 16) (desc : BitVec 6) (t0 : BitVec 18) (t1 : BitVec 18) (t2 : BitVec 18) (t3 : BitVec 18), seqCanIssue s n = true ∧ seqPc s n
    < lastIndex ∧ ([t0.toNat, t1.toNat, t2.toNat, t3.toNat].all (fun x => decide (x ≤ lastIndex)) = true) ∧ descOk s n desc.toNat = true ∧ descAllNew
    s n desc.toNat = false) ∧
  (∃ (s : State) (n : Fin 16) (q : PendingInstr) (desc : BitVec 6) (timeout : BitVec 16) (t0 : BitVec 18) (t1 : BitVec 18) (t2 : BitVec 18) (t3 : BitVec
    18), (s.sl n).seq.pend = some q ∧ q.instr = .branch desc true timeout t0 t1 t2 t3 ∧ ([t0.toNat, t1.toNat, t2.toNat, t3.toNat].all (fun x => decide
    (x ≤ lastIndex)) = true) ∧ descOk s n desc.toNat = true ∧ descAllNew s n desc.toNat = true) ∧
  (∃ (s : State) (n : Fin 16) (q : PendingInstr) (desc : BitVec 6) (timeout : BitVec 16) (t0 : BitVec 18) (t1 : BitVec 18) (t2 : BitVec 18) (t3 : BitVec
    18), (s.sl n).seq.pend = some q ∧ q.instr = .branch desc true timeout t0 t1 t2 t3 ∧ q.index < lastIndex ∧ descAllNew s n desc.toNat = false ∧
    timeout ≠ 0 ∧ q.issued + timeout.toNat ≤ s.now) ∧
  (∃ (s : State) (n : Fin 16) (adc : Bool) (ch : BitVec 6) (flag : BitVec 3) (lim : BitVec 4) (tmo : Timeout), seqCanIssue s n = true ∧ seqPc s n <
    lastIndex ∧ issueCheck s n (seqPc s n) (.cmpr adc ch flag lim tmo) = none) ∧
  (∃ (s : State) (n : Fin 16) (q : PendingInstr) (adc : Bool) (ch : BitVec 6) (flag : BitVec 3) (lim : BitVec 4) (tmo : Timeout) (code : Nat) (k : Nat)
    (f : FetchLine), (s.sl n).seq.pend = some q ∧ q.instr = .cmpr adc ch flag lim tmo ∧ q.hit = some (code, k) ∧ k < s.now ∧ code < 4 ∧ q.index + 2 ≤
    lastIndex ∧ (s.sl n).seq.stepping = false ∧ (s.sl n).seq.starting = false ∧ nopFetched s n (q.index + 1) f) ∧
  (∃ (s : State) (n : Fin 16) (q : PendingInstr) (adc : Bool) (ch : BitVec 6) (flag : BitVec 3) (lim : BitVec 4) (tmo : Timeout), (s.sl n).seq.pend =
    some q ∧ q.instr = .cmpr adc ch flag lim tmo ∧ q.hit = none ∧ tmo.beats ≠ 0 ∧ q.issued + tmo.beats.toNat ≤ s.now ∧ tmo.stop = false ∧
    tmo.target.toNat ≤ lastIndex) := 
  ⟨⟨(State.reset.setFld F.SEQ_STATUS_STATE 1 3), 3, 0, 1, 2, 3, 196607, by decide +kernel⟩,
   ⟨(State.reset.setFld F.SEQ_STATUS_STATE 1 3), 3, 0, 0, 0, 0, 0, by decide +kernel⟩,
   ⟨({ ((((List.range 8).foldl (fun s i => (s.setFld F.SEQ_BSEL_SEL_LO 0x1800 3 i).setFld F.SEQ_BSEL_SEL_HI 0x1800 3 i) (State.reset.setFld F.SEQ_BRD_DEFAULT 2 3 0)).setFld F.SEQ_STATUS_STATE 3 3 |>.setFld F.SEQ_PC_INDEX 8 3).modSl 3 (fun x => { x with seq := { x.seq with pend := some ⟨.branch 0 true 5 1 2 3 4, 8, 0, 0, none⟩ } })) with now := 5 }),
    3, (⟨.branch 0 true 5 1 2 3 4, 8, 0, 0, none⟩), 0, 5, 1, 2, 3, 4, by decide +kernel⟩,
   ⟨({ ((State.reset.setFld F.SEQ_STATUS_STATE 3 3 |>.setFld F.SEQ_PC_INDEX 8 3).modSl 3 (fun x => { x with seq := { x.seq with pend := some ⟨.branch 0 true 5 1 2 3 4, 8, 0, 0, none⟩ } })) with now := 5 }),
    3, (⟨.branch 0 true 5 1 2 3 4, 8, 0, 0, none⟩), 0, 5, 1, 2, 3, 4, by decide +kernel⟩,
   ⟨(State.reset.setFld F.SEQ_STATUS_STATE 1 3), 3, true, 5, 0, 0, (⟨4, 9, false⟩), by decide +kernel⟩,
   ⟨({ ((State.reset.setFld F.SEQ_STATUS_STATE 2 3 |>.setFld F.SEQ_PC_INDEX 8 3).modSl 3 (fun x => { x with seq := { x.seq with pend := some ⟨.cmpr true 5 7 0 ⟨4, 9, false⟩, 8, 0, 0, some (2, 4)⟩, fetch := [⟨1, List.replicate 128 0, [], 0, 0⟩] } })) with now := 5 }),
    3, (⟨.cmpr true 5 7 0 ⟨4, 9, false⟩, 8, 0, 0, some (2, 4)⟩), true, 5, 7, 0, (⟨4, 9, false⟩), 2, 4, (⟨1, List.replicate 128 0, [], 0, 0⟩),
    by decide +kernel⟩,
   ⟨({ ((State.reset.setFld F.SEQ_STATUS_STATE 3 3 |>.setFld F.SEQ_PC_INDEX 8 3).modSl 3 (fun x => { x with seq := { x.seq with pend := some ⟨.cmpr true 5 7 0 ⟨4, 9, false⟩, 8, 0, 0, none⟩ } })) with now := 5 }),
    3, (⟨.cmpr true 5 7 0 ⟨4, 9, false⟩, 8, 0, 0, none⟩), true, 5, 7, 0, (⟨4, 9, false⟩), by decide +kernel⟩⟩

theorem witness_SeqControl :
  (∃ (s : State) (n : Fin 16), (seqState s n = 0 ∨ seqState s n = 5) ∧ wheelState s n = 2 ∧ s.fld F.SEQ_CTRL_USE_START_BEAT n = 0) ∧
  (∃ (s : State) (n : Fin 16), ((seqState s n ≠ 0 ∧ seqState s n ≠ 5) ∨ wheelState s n ≠ 2)) ∧
  (∃ (s : State) (n : Fin 16), seqState s n = 0 ∧ wheelState s n = 2) ∧
  (∃ (s : State) (n : Fin 16), 1 ≤ seqState s n ∧ seqState s n ≤ 4) ∧
  (∃ (s : State) (n : Fin 16), seqCanIssue s n = true ∧ seqPc s n ≤ lastIndex) ∧
  (∃ (s : State) (n : Fin 16), (seqState s n = 0 ∨ seqState s n = 5)) ∧
  (∃ (s : State) (n : Fin 16), seqState s n ≠ 0 ∧ seqState s n ≠ 5) := 
  ⟨⟨(State.reset.setFld F.SLC_WHEEL_STATUS_STATE 2 3), 3, by decide +kernel⟩,
   ⟨State.reset, 3, by decide +kernel⟩,
   ⟨(State.reset.setFld F.SLC_WHEEL_STATUS_STATE 2 3), 3, by decide +kernel⟩,
   ⟨(State.reset.setFld F.SEQ_STATUS_STATE 1 3), 3, by decide +kernel⟩,
   ⟨(State.reset.setFld F.SEQ_STATUS_STATE 1 3 |>.setFld F.SEQ_PC_INDEX 196607 3), 3, by decide +kernel⟩,
   ⟨State.reset, 3, by decide +kernel⟩,
   ⟨(State.reset.setFld F.SEQ_STATUS_STATE 1 3), 3, by decide +kernel⟩⟩

theorem witness_SeqErrors :
  (∃ (s : State) (n : Fin 16), seqCanIssue s n = true ∧ seqPc s n ≤ lastIndex ∧ seqPc s n = lastIndex) ∧
  (∃ (s : State) (n : Fin 16) (target : BitVec 18), seqCanIssue s n = true ∧ seqPc s n ≤ lastIndex ∧ lastIndex < target.toNat) ∧
  (∃ (s : State) (n : Fin 16) (target : BitVec 18) (pop : BitVec 3), seqCanIssue s n = true ∧ seqPc s n ≤ lastIndex ∧ target.toNat ≤ lastIndex ∧ (s.sl
    n).seq.loops.length < pop.toNat) ∧
  (∃ (s : State) (n : Fin 16) (target : BitVec 18), seqCanIssue s n = true ∧ seqPc s n ≤ lastIndex ∧ target.toNat ≤ lastIndex ∧ 16 ≤ (s.sl
    n).seq.calls.length) ∧
  (∃ (s : State) (n : Fin 16), seqCanIssue s n = true ∧ seqPc s n ≤ lastIndex ∧ (s.sl n).seq.calls = []) ∧
  (∃ (s : State) (n : Fin 16), seqCanIssue s n = true ∧ seqPc s n ≤ lastIndex ∧ (s.sl n).seq.loops = []) ∧
  (∃ (s : State) (n : Fin 16) (l : LoopEntry) (rest : List LoopEntry), seqCanIssue s n = true ∧ seqPc s n ≤ lastIndex ∧ (s.sl n).seq.loops = l :: rest ∧
    l.endIndex ≠ seqPc s n) ∧
  (∃ (s : State) (n : Fin 16) (count : BitVec 32) (endIndex : BitVec 18), seqCanIssue s n = true ∧ seqPc s n ≤ lastIndex ∧ count ≠ 0 ∧ seqPc s n <
    endIndex.toNat ∧ endIndex.toNat ≤ lastIndex ∧ 8 ≤ (s.sl n).seq.loops.length) := 
  ⟨⟨(State.reset.setFld F.SEQ_STATUS_STATE 1 3 |>.setFld F.SEQ_PC_INDEX 196607 3), 3, by decide +kernel⟩,
   ⟨(State.reset.setFld F.SEQ_STATUS_STATE 1 3), 3, 196608, by decide +kernel⟩,
   ⟨(State.reset.setFld F.SEQ_STATUS_STATE 1 3), 3, 0, 1, by decide +kernel⟩,
   ⟨((State.reset.setFld F.SEQ_STATUS_STATE 1 3).modSl 3 (fun x => { x with seq := { x.seq with calls := List.replicate 16 2 } })), 3, 0,
    by decide +kernel⟩,
   ⟨(State.reset.setFld F.SEQ_STATUS_STATE 1 3), 3, by decide +kernel⟩,
   ⟨(State.reset.setFld F.SEQ_STATUS_STATE 1 3), 3, by decide +kernel⟩,
   ⟨((State.reset.setFld F.SEQ_STATUS_STATE 1 3).modSl 3 (fun x => { x with seq := { x.seq with loops := [⟨2, 6, 2⟩] } })), 3, (⟨2, 6, 2⟩), ([]),
    by decide +kernel⟩,
   ⟨((State.reset.setFld F.SEQ_STATUS_STATE 1 3).modSl 3 (fun x => { x with seq := { x.seq with loops := List.replicate 8 ⟨2, 6, 2⟩ } })), 3, 1, 9,
    by decide +kernel⟩⟩

theorem witness_RegisterAccess :
  (∃ (s : State) (addr : BitVec 40) (v : BitVec 32) (key : RegKey), s.inReset = false ∧ regAt addr.toNat = some key ∧ key.reg ∈ ([.SEQ_LCOUNT,
    .SEQ_LIM_LO, .SEQ_LIM_HI, .GLB_IMG_LEN, .GLB_IMG_SRC, .FLT_INJECT_IDX, .RPL_RING_BASE] : List Reg) ∧ (s.heldBits key v.toNat).1 = 0 ∧ s.rplState ≠
    2 ∧ (inSliceRegs addr.toNat && reloadHolds s (sliceOfAddr addr.toNat)) = false) ∧
  (∃ (s : State) (addr : BitVec 40), s.inReset = false ∧ regAt addr.toNat = none) ∧
  (∃ (s : State) (addr : BitVec 40) (key : RegKey), s.inReset = false ∧ regAt addr.toNat = some key ∧ key.reg.stages = true ∧ s.rplState ≠ 2 ∧
    (inSliceRegs addr.toNat && reloadHolds s (sliceOfAddr addr.toNat)) = false) ∧
  (∃ (s : State) (addr : BitVec 40) (key : RegKey) (w : Word), s.inReset = false ∧ regAt addr.toNat = some key ∧ key.reg ∈ ([.SEQ_START_HI,
    .GLB_IMG_REJOIN_HI, .CAL_APPLY_AT_HI, .BOOT_RUN_AT_HI] : List Reg) ∧ ((∀ low, key.reg.lowOf = some low → keptWord s.staged (key.other low) = some
    w)) ∧ s.rplState ≠ 2 ∧ (inSliceRegs addr.toNat && reloadHolds s (sliceOfAddr addr.toNat)) = false) ∧
  (∃ (s : State) (addr : BitVec 40) (key : RegKey) (high : Reg), s.inReset = false ∧ regAt addr.toNat = some key ∧ key.reg.highOf = some high ∧ key.reg
    ≠ .TXC_TRK_ACC_LO ∧ key.reg ≠ .DMX_RES_END_LO) ∧
  (∃ (s : State) (v : BitVec 32) (n : Fin 16), s.inReset = false ∧ s.rplState ≠ 2 ∧ reloadHolds s n = false ∧ v &&& 0x7F = 0x7F) := 
  ⟨⟨State.reset, (BitVec.ofNat 40 (RegKey.address ⟨.SEQ_LIM_LO, 3, 15, 0, 0⟩)), 5, (⟨.SEQ_LIM_LO, 3, 15, 0, 0⟩), by decide +kernel⟩,
   ⟨State.reset, 0xFFFFF0, by decide +kernel⟩,
   ⟨State.reset, (BitVec.ofNat 40 (RegKey.address ⟨.SEQ_START_LO, 3, 0, 0, 0⟩)), (⟨.SEQ_START_LO, 3, 0, 0, 0⟩), by decide +kernel⟩,
   ⟨({ State.reset with staged := [(⟨.SEQ_START_LO, 3, 0, 0, 0⟩, 16)] }), (BitVec.ofNat 40 (RegKey.address ⟨.SEQ_START_HI, 3, 0, 0, 0⟩)),
    (⟨.SEQ_START_HI, 3, 0, 0, 0⟩), 16, by decide +kernel⟩,
   ⟨State.reset, (BitVec.ofNat 40 (RegKey.address ⟨.GLB_BEAT_LO, 0, 0, 0, 0⟩)), (⟨.GLB_BEAT_LO, 0, 0, 0, 0⟩), .GLB_BEAT_HI, by decide +kernel⟩,
   ⟨(State.reset.count .SEQ_STALL 3), 0x7F, 3, by decide +kernel⟩⟩

theorem witness_ImageOperations :
  (∃ (s : State), s.flag F.GLB_IMG_STATUS_BUSY = false) ∧
  (∃ (s : State), s.flag F.GLB_IMG_STATUS_BUSY = false) ∧
  (∃ (s : State) (n : Fin 16) (r : Nat), s.flag F.GLB_IMG_STATUS_BUSY = false ∧ s.pair .GLB_IMG_REJOIN_LO .GLB_IMG_REJOIN_HI = r ∧ r % 16 = 0 ∧ s.beat +
    375000 + 16384 + ceilDiv (s.fld F.GLB_IMG_LEN_BYTES) 64 ≤ r ∧ ¬(n.val < 2 ∧ s.flag F.PWT_CTRL_OPEN = true)) ∧
  (∃ (s : State) (n : Fin 16) (slot : Bool) (c : Instr), c ∈ [Instr.imgCheck, .imgReload n, .imgFull slot] ∧ s.flag F.GLB_IMG_STATUS_BUSY = true) ∧
  (∃ (s : State), s.flag F.GLB_IMG_STATUS_BUSY = true ∧ imgPhase s < 3 ∧ (s.img.op ≠ 1 ∨ imgPhase s ≠ 2 ∨ s.now < s.img.drainAt)) ∧
  (∃ (s : State), s.flag F.GLB_IMG_STATUS_BUSY = true ∧ imgPhase s = 1 ∧ s.img.abort = false ∧ s.img.op < 2 ∧ s.cstore.single = [] ∧ s.cstore.double =
    [] ∧ s.flt.inject = none) ∧
  (∃ (s : State) (bad : BitVec 17), s.flag F.GLB_IMG_STATUS_BUSY = true ∧ s.img.op = 2 ∧ 3 ≤ imgPhase s ∧ allSlices.all (fullSettled s) = true ∧
    storesToWake s (opSource s) ((opSource s).read s 0 0x500) allSlices = [] ∧ (imageApply s (opSource s) bad allSlices).2.1 ≠ 0) ∧
  (∃ (s : State) (bad : BitVec 17), s.flag F.GLB_IMG_STATUS_BUSY = true ∧ s.img.op = 2 ∧ 3 ≤ imgPhase s ∧ allSlices.all (fullSettled s) = true ∧
    storesToWake s (opSource s) ((opSource s).read s 0 0x500) allSlices = [] ∧ ((imageApply s (opSource s) bad allSlices).2.1 = 0 → (imageApply s
    (opSource s) bad allSlices).1.fld F.BOOT_STATUS_PHASE ≠ 10)) ∧
  (∃ (s : State), fltState s = 2 ∧ (chnFollows s && !chnAligned s) = false ∧ (rebuildCheck s = 0 → rebuildWake s = [])) := 
  ⟨⟨State.reset, by decide +kernel⟩,
   ⟨State.reset, by decide +kernel⟩,
   ⟨(State.reset.setPair .GLB_IMG_REJOIN_LO .GLB_IMG_REJOIN_HI 400000), 3, 400000, by decide +kernel⟩,
   ⟨({ ((State.reset.setFlag F.GLB_IMG_STATUS_BUSY true).setFld F.GLB_IMG_STATUS_PHASE 1) with img := { ImageUnit.initial with  } }), 0, false,
    Instr.imgCheck, by decide +kernel⟩,
   ⟨({ ((State.reset.setFlag F.GLB_IMG_STATUS_BUSY true).setFld F.GLB_IMG_STATUS_PHASE 1) with img := { ImageUnit.initial with  } }), by decide +kernel⟩,
   ⟨({ ((State.reset.setFlag F.GLB_IMG_STATUS_BUSY true).setFld F.GLB_IMG_STATUS_PHASE 1) with img := { ImageUnit.initial with  } }), by decide +kernel⟩,
   ⟨({ { ((State.reset.setFlag F.GLB_IMG_STATUS_BUSY true).setFld F.GLB_IMG_STATUS_PHASE 3) with img := { ImageUnit.initial with op := 2 } } with boot := { State.reset.boot with flash := emptyFlash } }),
    0x10000, by decide +kernel⟩,
   ⟨({ { ((State.reset.setFlag F.GLB_IMG_STATUS_BUSY true).setFld F.GLB_IMG_STATUS_PHASE 3) with img := { ImageUnit.initial with op := 2 } } with boot := { State.reset.boot with flash := emptyFlash } }),
    0x10000, by decide +kernel⟩,
   ⟨(State.reset.setFld F.FLT_STATUS_STATE 2), by decide +kernel⟩⟩

theorem witness_ReloadSteps :
  (∃ (s : State) (n : Fin 16), reloadOf s n = true ∧ imgPhase s = 2 ∧ s.img.drainAt ≤ s.now ∧ s.img.abort = false ∧ (s.sl n).isolated = false) ∧
  (∃ (s : State) (n : Fin 16), reloadOf s n = true ∧ imgPhase s = 3 ∧ drainSettled s n = true ∧ (s.sl n).isolated = false) ∧
  (∃ (s : State) (n : Fin 16), reloadOf s n = true ∧ imgPhase s = 4 ∧ sectionRecords false (sectionBody s (opSource s) true ((opSource s).read s 0
    0x500) n) = some [] ∧ s.cstore.single = [] ∧ s.cstore.double = [] ∧ s.flt.inject = none) ∧
  (∃ (s : State) (n : Fin 16), reloadOf s n = true ∧ imgPhase s = 5 ∧ s.img.verified = false ∧ s.cstore.single = [] ∧ s.cstore.double = [] ∧
    s.flt.inject = none) ∧
  (∃ (s : State) (n : Fin 16), reloadOf s n = true ∧ imgPhase s = 5 ∧ s.img.verified = false ∧ s.img.faulty = false ∧ s.img.locksNext = [] ∧
    s.cstore.single = [] ∧ s.cstore.double = [] ∧ s.flt.inject = none) ∧
  (∃ (s : State) (n : Fin 16), reloadOf s n = true ∧ imgPhase s = 5 ∧ s.img.verified = true ∧ s.img.faulty = false ∧ s.now + 2 ≤ s.img.rejoinAt ∧
    wheelState s n = 0 ∧ (s.beat + (s.img.rejoinAt - s.now)) % 16 = 0 ∧ s.beat + (s.img.rejoinAt - s.now) < 2 ^ 64) ∧
  (∃ (s : State) (n : Fin 16), reloadOf s n = true ∧ 3 ≤ imgPhase s ∧ imgPhase s < 6 ∧ s.img.rejoinAt ≤ s.now + 2) ∧
  (∃ (s : State) (n : Fin 16), reloadOf s n = true ∧ imgPhase s = 6 ∧ s.img.rejoinAt ≤ s.now) := 
  ⟨⟨({ ((State.reset.setFlag F.GLB_IMG_STATUS_BUSY true).setFld F.GLB_IMG_STATUS_PHASE 2) with img := { ImageUnit.initial with op := 1, slice := 3 } }),
    3, by decide +kernel⟩,
   ⟨({ ((State.reset.setFlag F.GLB_IMG_STATUS_BUSY true).setFld F.GLB_IMG_STATUS_PHASE 3) with img := { ImageUnit.initial with op := 1, slice := 3 } }),
    3, by decide +kernel⟩,
   ⟨({ { ((State.reset.setFlag F.GLB_IMG_STATUS_BUSY true).setFld F.GLB_IMG_STATUS_PHASE 4) with img := { ImageUnit.initial with op := 1, slice := 3 } } with cstore := ((Store.initial.setByte 0xF8 16).setByte 0x500 0x7F) }),
    3, by decide +kernel⟩,
   ⟨({ ((State.reset.setFlag F.GLB_IMG_STATUS_BUSY true).setFld F.GLB_IMG_STATUS_PHASE 5) with img := { ImageUnit.initial with op := 1, slice := 3 } }),
    3, by decide +kernel⟩,
   ⟨({ ((State.reset.setFlag F.GLB_IMG_STATUS_BUSY true).setFld F.GLB_IMG_STATUS_PHASE 5) with img := { ImageUnit.initial with op := 1, slice := 3 } }),
    3, by decide +kernel⟩,
   ⟨({ ((State.reset.setFlag F.GLB_IMG_STATUS_BUSY true).setFld F.GLB_IMG_STATUS_PHASE 5) with img := { ImageUnit.initial with op := 1, slice := 3, verified := true, rejoinAt := 32 } }),
    3, by decide +kernel⟩,
   ⟨({ ((State.reset.setFlag F.GLB_IMG_STATUS_BUSY true).setFld F.GLB_IMG_STATUS_PHASE 5) with img := { ImageUnit.initial with op := 1, slice := 3 } }),
    3, by decide +kernel⟩,
   ⟨({ ((State.reset.setFlag F.GLB_IMG_STATUS_BUSY true).setFld F.GLB_IMG_STATUS_PHASE 6) with img := { ImageUnit.initial with op := 1, slice := 3 } }),
    3, by decide +kernel⟩⟩

theorem witness_StreamerStart :
  (∃ (s : State) (n : Fin 16), s.coreOn n = true ∧ vecState s n ≠ 1 ∧ vecState s n ≠ 4) ∧
  (∃ (s : State) (n : Fin 16), s.coreOn n = true ∧ vecState s n = 1) ∧
  (∃ (s : State) (n : Fin 16), s.coreOn n = true ∧ vecState s n = 1) ∧
  (∃ (s : State) (n : Fin 16), s.coreOn n = true ∧ vecState s n ≠ 1 ∧ vecState s n ≠ 4) ∧
  (∃ (s : State) (n : Fin 16), s.coreOn n = true ∧ vecState s n = 1) ∧
  (∃ (s : State) (n : Fin 16), s.coreOn n = true ∧ (vecState s n = 2 ∨ vecState s n = 3)) ∧
  (∃ (s : State) (n : Fin 16) (addr : Nat) (k : Nat) (w : VecWord), vecState s n = 1 ∧ (s.sl n).vec.next < (s.now + 1) * beatUnits ∧ (s.sl
    n).vec.waiting = [(k, .start addr)] ∧ k * beatUnits ≤ (s.sl n).vec.next ∧ (s.sl n).vec.run = none ∧ s.flag F.VEC_CTRL_FC_EN n = false ∧ addr ≤
    lastIndex ∧ vecAt s n addr = some (w, false) ∧ w.vop = 0 ∧ s.flag F.TSET_STATUS_VALID n w.tset = true ∧ vecIndex s n + 1 < 2 ^ 48) := 
  ⟨⟨State.reset, 3, by decide +kernel⟩,
   ⟨((State.reset.setFld F.VEC_STATUS_STATE 1 3)), 3, by decide +kernel⟩,
   ⟨((State.reset.setFld F.VEC_STATUS_STATE 1 3)), 3, by decide +kernel⟩,
   ⟨State.reset, 3, by decide +kernel⟩,
   ⟨((State.reset.setFld F.VEC_STATUS_STATE 1 3)), 3, by decide +kernel⟩,
   ⟨((State.reset.setFld F.VEC_STATUS_STATE 3 3)), 3, by decide +kernel⟩,
   ⟨(({ ((State.reset.setFld F.VEC_STATUS_STATE 1 3).setFlag F.TSET_STATUS_VALID true 3 0).setFld F.TSET_PERIOD_PERIOD 16000 3 0 with now := 1 }).modSl 3
    (fun x => { x with vec := { x.vec with next := 16000, waiting := [(1, .start 8)], buffer := [⟨1, List.replicate 128 0, [], 0, 0⟩] } })), 3, 8, 1,
    (vecDecode (List.replicate 16 0)), by decide +kernel⟩⟩

theorem witness_FailCapture :
  (∃ (s : State) (n : Fin 16), s.coreOn n = true ∧ vecState s n ≠ 1 ∧ vecState s n ≠ 4 ∧ (s.sl n).vec.windows = []) ∧
  (∃ (s : State) (n : Fin 16) (w : Fin 64) (x : Window), s.coreOn n = true ∧ vecState s n ≠ 1 ∧ vecState s n ≠ 4 ∧ (s.sl n).vec.windows = [x] ∧ x.index
    = w.val ∧ x.strobe = 0) ∧
  (∃ (s : State) (n : Fin 16) (x : Summary) (p : Fin 32), (s.sl n).vec.summaries = [x] ∧ x.at_ ≤ s.now ∧ x.pins = BitVec.ofNat 32 (2 ^ p.val) ∧
    s.rpl.replaying = false) ∧
  (∃ (s : State) (n : Fin 16), s.coreOn n = true ∧ vecState s n ≠ 1 ∧ vecState s n ≠ 4 ∧ s.flag F.VEC_CTRL_FC_EN n = true ∧ (s.sl n).vec.captureLost = 0
    ∧ (s.sl n).vec.capture.length ≤ 407 ∧ s.fld F.VEC_FC_WP_OFFSET n + 20 ≤ 10 * captureRoom s n) ∧
  (∃ (s : State) (n : Fin 16), s.coreOn n = true ∧ s.flag F.VEC_CTRL_FC_EN n = false) ∧
  (∃ (s : State) (n : Fin 16) (set : Fin 32) (v : BitVec 32), s.inReset = false ∧ s.rplState ≠ 2 ∧ reloadHolds s n = false ∧ s.img.locks = [] ∧
    s.img.bounds = [] ∧ s.rd .TSET_PIN_EN n set = 0 ∧ v.toNat < 2 ^ 28) ∧
  (∃ (s : State) (n : Fin 16), s.inReset = false ∧ s.rplState ≠ 2 ∧ reloadHolds s n = false ∧ s.img.locks = [] ∧ s.img.bounds = [] ∧ s.fld
    F.VEC_RING_LINES_LINES n = 0) ∧
  (∃ (s : State) (n : Fin 16) (wp : BitVec 15) (k : Nat) (a : Nat), s.inReset = false ∧ s.rplState ≠ 2 ∧ reloadHolds s n = false ∧ s.img.locks = [] ∧
    s.img.bounds = [] ∧ k = s.fld F.VEC_RING_LINES_LINES n ∧ k ≠ 0 ∧ a = (wp.toNat % k + k - s.fld F.VEC_RING_WP_OFFSET n % k) % k ∧ a ≠ 0 ∧ a +
    s.ringFill n < k) := 
  ⟨⟨State.reset, 3, by decide +kernel⟩,
   ⟨((State.reset).modSl 3 (fun x => { x with vec := { x.vec with windows := [⟨5, 3, 0, 0, 0, 0⟩] } })), 3, 5, (⟨5, 3, 0, 0, 0, 0⟩), by decide +kernel⟩,
   ⟨((State.reset).modSl 3 (fun x => { x with vec := { x.vec with summaries := [⟨0, 0x80000000, 0, 0⟩] } })), 3, (⟨0, 0x80000000, 0, 0⟩), 31,
    by decide +kernel⟩,
   ⟨((State.reset.setFlag F.VEC_CTRL_FC_EN true 3).setFld F.VEC_FC_LINES_LINES 4 3), 3, by decide +kernel⟩,
   ⟨State.reset, 3, by decide +kernel⟩,
   ⟨State.reset, 3, 31, 1600, by decide +kernel⟩,
   ⟨State.reset, 3, by decide +kernel⟩,
   ⟨(State.reset.setFld F.VEC_RING_LINES_LINES 16 3), 3, 25, 16, 9, by decide +kernel⟩⟩

theorem witness_PinUnits :
  (∃ (s : State) (n : Fin 16) (p : Fin 32), s.analogOn n = true ∧ pinGuarded s n p = false ∧ s.flag F.PIN_STATUS_LOAD_ACTIVE n p = false ∧ s.flag
    F.PIN_STATUS_LOAD_PEND n p = false ∧ loadsActive s n < 8) ∧
  (∃ (s : State) (n : Fin 16) (p : Fin 32) (mode : Bool) (range : BitVec 3), range.toNat ≤ 4 ∧ s.flag F.PIN_STATUS_PMU_CONN n p = true ∧ mode ≠ s.flag
    F.PIN_PMU_CTRL_MODE n p) ∧
  (∃ (s : State) (n : Fin 16) (p : Fin 32) (mode : Bool) (range : BitVec 3), range.toNat > 4 ∧ mode = s.flag F.PIN_PMU_CTRL_MODE n p) := 
  ⟨⟨pinFree, 3, 31, by decide +kernel⟩,
   ⟨(State.reset.setFlag F.PIN_STATUS_PMU_CONN true 3 31), 3, 31, true, 4, by decide +kernel⟩,
   ⟨State.reset, 3, 31, false, 5, by decide +kernel⟩⟩

theorem witness_GuardAndContactChecks :
  (∃ (s : State) (ps : Fin 4000) (r : Nat), s.guardRise = some r ∧ s.now * 4000 + ps.val < r + 20000) ∧
  (∃ (s : State) (r : Nat), s.rpl.replaying = false ∧ s.guardRise = some r ∧ guardEntryBeat r ≤ s.now) ∧
  (∃ (s : State) (n : Fin 16) (k : Nat), (s.sl n).pin.debounceEnd = some k ∧ k ≤ s.now ∧ s.guardLevel = false ∧ s.flag F.PIN_GUARD_CTRL_AUTO_CHECK n =
    false) ∧
  (∃ (s : State) (n : Fin 16), s.analogOn n = true ∧ s.flag F.PIN_GUARD_CTRL_GUARD_EN n = false ∧ s.replayMuted = false) ∧
  (∃ (s : State) (n : Fin 16), s.analogOn n = true ∧ s.flag F.PIN_GUARD_CTRL_GUARD_EN n = true) ∧
  (∃ (s : State) (n : Fin 16), s.analogOn n = true ∧ s.fld F.PIN_CC_STATUS_STATE n ≠ 2 ∧ (s.flag F.PIN_GUARD_CTRL_GUARD_EN n = false ∨ s.flag
    F.PIN_GUARD_STATUS_ACTIVE n = false)) ∧
  (∃ (s : State) (n : Fin 16) (k : ContactCheck), (s.sl n).pin.check = some k ∧ k.done = 33 ∧ k.endAt ≤ s.now ∧ k.endAt + 1 > s.now) ∧
  (∃ (s : State) (n : Fin 16) (k : ContactCheck), (s.sl n).pin.check = some k) := 
  ⟨⟨({ State.reset with guardRise := some 0, guardLevel := true }), 3999, 0, by decide +kernel⟩,
   ⟨({ State.reset.setFlag F.PIN_GUARD_CTRL_GUARD_EN true 3 with guardRise := some 0, now := 5 }), 0, by decide +kernel⟩,
   ⟨((State.reset.setFlag F.PIN_GUARD_CTRL_AUTO_CHECK false 3).modSl 3 (fun x => { x with pin := { x.pin with debounceEnd := some 0 } })), 3, 0,
    by decide +kernel⟩,
   ⟨(anaOn.setFlag F.PIN_GUARD_CTRL_GUARD_EN false 3), 3, by decide +kernel⟩,
   ⟨(anaOn.setFlag F.PIN_GUARD_CTRL_GUARD_EN true 3), 3, by decide +kernel⟩,
   ⟨(anaOn.setFlag F.PIN_GUARD_CTRL_GUARD_EN false 3), 3, by decide +kernel⟩,
   ⟨({ (State.reset).modSl 3 (fun x => { x with pin := { x.pin with check := some { start := 0, settle := 1, force := 1, shortV := 0, supplyI := 0, mask := 0, limits := [], readings := [], tripped := 0, done := 33 } } }) with now := 72250 }),
    3, ({ start := 0, settle := 1, force := 1, shortV := 0, supplyI := 0, mask := 0, limits := [], readings := [], tripped := 0, done := 33 }),
    by decide +kernel⟩,
   ⟨((State.reset).modSl 3 (fun x =>
    { x with pin := { x.pin with check := some { start := 0, settle := 1, force := 1, shortV := 0, supplyI := 0, mask := 0, limits := [], readings := [], tripped := 0, done := 33 } } })),
    3, ({ start := 0, settle := 1, force := 1, shortV := 0, supplyI := 0, mask := 0, limits := [], readings := [], tripped := 0, done := 33 }),
    by decide +kernel⟩⟩

theorem witness_TonesAndMarkers :
  (∃ (s : State) (n : Fin 16) (u : Fin 32) (seg : Fin 98304) (f : FetchLine) (g : Segment), s.coreOn n = true ∧ toneState s n u ≠ 6 ∧ ((tone s n
    u).ends.all (fun j => decide (4 * s.now ≤ j)) = true) ∧ toneSupply s n u (seg.val / 4) s.now = some f ∧ f.poison = [] ∧ g = decodeSegment
    ((f.data.drop (32 * (seg.val % 4))).take 32) ∧ g.cause seg.val = 0) ∧
  (∃ (s : State) (n : Fin 16) (u : Fin 32) (j : Nat), toneState s n u = 1 ∧ (tone s n u).ends = some j ∧ j ≤ 4 * s.now + 3 ∧ (tone s n u).next = .hold) ∧
  (∃ (s : State) (n : Fin 16) (u : Fin 32) (j : Nat) (i : Nat) (f : FetchLine) (g : Segment), toneState s n u = 1 ∧ (tone s n u).ends = some j ∧ j ≤ 4 *
    s.now + 3 ∧ (tone s n u).next = .segment i ∧ i < 98304 ∧ toneSupply s n u (i / 4) (j / 4) = some f ∧ f.poison = [] ∧ g = decodeSegment
    ((f.data.drop (32 * (i % 4))).take 32) ∧ g.cause i = 0) ∧
  (∃ (s : State) (n : Fin 16) (u : Fin 32), s.coreOn n = true ∧ toneState s n u ≠ 6 ∧ ((tone s n u).ends.all (fun j => decide (4 * s.now ≤ j)) = true)) ∧
  (∃ (s : State) (n : Fin 16) (u : Fin 32) (j : Nat), toneState s n u = 3 ∧ (tone s n u).ends = some j ∧ j ≤ 4 * s.now + 3 ∧ (tone s n u).next = .idle) ∧
  (∃ (s : State) (n : Fin 16) (u : Fin 32) (a : MarkAct), (tone s n u).marks = [a] ∧ a.sample < 128 * (s.now + 1)) ∧
  (∃ (s : State) (n : Fin 16), s.coreOn n = true) ∧
  (∃ (s : State) (n : Fin 16), s.coreOn n = true) ∧
  (∃ (s : State) (n : Fin 16), s.coreOn n = true) := 
  ⟨⟨({ modTone (State.reset) 3 9 (fun t => { t with buffer := [⟨2, (List.replicate 16 0 ++ toBytes 16 (5 + 64 * 2 ^ 38 + 1 * 2 ^ 59)) ++ List.replicate 96 0, [], 0, 0⟩] }) with now := 5 }),
    3, 9, 8, (⟨2, (List.replicate 16 0 ++ toBytes 16 (5 + 64 * 2 ^ 38 + 1 * 2 ^ 59)) ++ List.replicate 96 0, [], 0, 0⟩), (decodeSegment
    ((((List.replicate 16 0 ++ toBytes 16 (5 + 64 * 2 ^ 38 + 1 * 2 ^ 59)) ++ List.replicate 96 0).drop 0).take 32)), by decide +kernel⟩,
   ⟨(modTone ((State.reset.setFld F.TON_STATUS_STATE 1 3 9)) 3 9 (fun t => { t with ends := some 3 })), 3, 9, 3, by decide +kernel⟩,
   ⟨({ modTone ((State.reset.setFld F.TON_STATUS_STATE 1 3 9)) 3 9 (fun t => { t with ends := some 22, next := .segment 8, buffer := [⟨2, (List.replicate 16 0 ++ toBytes 16 (5 + 64 * 2 ^ 38 + 1 * 2 ^ 59)) ++ List.replicate 96 0, [], 0, 0⟩] }) with now := 5 }),
    3, 9, 22, 8, (⟨2, (List.replicate 16 0 ++ toBytes 16 (5 + 64 * 2 ^ 38 + 1 * 2 ^ 59)) ++ List.replicate 96 0, [], 0, 0⟩), (decodeSegment
    ((((List.replicate 16 0 ++ toBytes 16 (5 + 64 * 2 ^ 38 + 1 * 2 ^ 59)) ++ List.replicate 96 0).drop 0).take 32)), by decide +kernel⟩,
   ⟨(modTone ((State.reset.setFld F.TON_STATUS_STATE 1 3 9)) 3 9 (fun t => { t with ends := some 3 })), 3, 9, by decide +kernel⟩,
   ⟨(modTone ((State.reset.setFld F.TON_STATUS_STATE 3 3 9)) 3 9 (fun t => { t with ends := some 3, next := .idle })), 3, 9, 3, by decide +kernel⟩,
   ⟨(modTone (State.reset) 3 9 (fun t => { t with marks := [⟨127, 1, true, none⟩] })), 3, 9, (⟨127, 1, true, none⟩), by decide +kernel⟩,
   ⟨State.reset, 3, by decide +kernel⟩,
   ⟨State.reset, 3, by decide +kernel⟩,
   ⟨State.reset, 3, by decide +kernel⟩⟩

theorem witness_PhaseAndTracks :
  (∃ (s : State) (n : Fin 16) (u : Fin 32), s.coreOn n = true ∧ toneState s n u ≠ 6 ∧ ((tone s n u).ends.all (fun j => decide (4 * s.now < j)) = true)) ∧
  (∃ (s : State) (n : Fin 16) (u : Fin 32), s.coreOn n = true ∧ toneState s n u ≠ 6 ∧ ((tone s n u).ends.all (fun j => decide (4 * s.now < j)) = true)) ∧
  (∃ (s : State) (n : Fin 16) (u : Fin 32), s.coreOn n = true ∧ (toneState s n u = 0 ∨ toneState s n u = 2 ∨ toneState s n u = 4 ∨ toneState s n u = 5)) ∧
  (∃ (s : State) (n : Fin 16), s.inReset = false ∧ s.rplState ≠ 2 ∧ reloadHolds s n = false ∧ s.img.locks = [] ∧ s.img.bounds = []) ∧
  (∃ (s : State) (n : Fin 16) (k : Fin 4) (r : Fin 32), s.coreOn n = true ∧ ¬(((txCh s n k).tracks.get r).rebased = true ∧ ((txCh s n k).tracks.get
    r).sample = 128 * s.now)) ∧
  (∃ (s : State) (n : Fin 16), s.coreOn n = true) := 
  ⟨⟨State.reset, 3, 9, by decide +kernel⟩,
   ⟨State.reset, 3, 9, by decide +kernel⟩,
   ⟨(modTone (State.reset) 3 9 (fun t =>
    { t with buffer := [⟨2, (List.replicate 16 0 ++ toBytes 16 (5 + 64 * 2 ^ 38 + 1 * 2 ^ 59)) ++ List.replicate 96 0, [], 0, 0⟩] })), 3, 9,
    by decide +kernel⟩,
   ⟨State.reset, 3, by decide +kernel⟩,
   ⟨({ State.reset with now := 7 }), 3, 1, 31, by decide +kernel⟩,
   ⟨({ (State.reset.setPair .TXC_TRK_FTW_LO .TXC_TRK_FTW_HI 0x800000000001 3 1 31) with now := 7, beat := 6 }), 3, by decide +kernel⟩⟩

theorem witness_SignalChannels :
  (∃ (s : State) (n : Fin 16) (k : Fin 4), s.analogOn n = true ∧ txPwr s n k = 0 ∧ s.admissionGranted 1 (4 * n.val + k.val) = false) ∧
  (∃ (s : State) (n : Fin 16) (k : Fin 4), txPwr s n k = 2 ∧ (txCh s n k).wakeAt ≤ s.now) ∧
  (∃ (s : State) (n : Fin 16), s.analogOn n = true) ∧
  (∃ (s : State) (n : Fin 16), s.analogOn n = true) ∧
  (∃ (s : State) (n : Fin 16) (j : Fin 2), s.analogOn n = true ∧ rxPwr s n j = 0 ∧ s.admissionGranted 2 (2 * n.val + j.val) = false) ∧
  (∃ (s : State) (n : Fin 16) (j : Fin 2), rxPwr s n j = 2 ∧ (rxCh s n j).wakeAt ≤ s.now) ∧
  (∃ (s : State) (n : Fin 16) (j : Fin 2), (rxCh s n j).settleAt ≤ s.now) := 
  ⟨⟨anaOn, 3, 1, by decide +kernel⟩,
   ⟨((anaOn.setFld F.TXC_STATUS_PWR 2 3 1)), 3, 1, by decide +kernel⟩,
   ⟨anaOn, 3, by decide +kernel⟩,
   ⟨anaOn, 3, by decide +kernel⟩,
   ⟨anaOn, 3, 1, by decide +kernel⟩,
   ⟨((anaOn.setFld F.RXC_STATUS_PWR 2 3 1)), 3, 1, by decide +kernel⟩,
   ⟨State.reset, 3, 1, by decide +kernel⟩⟩

theorem witness_Bins :
  (∃ (s : State) (n : Fin 16) (u : Fin 32) (set : Fin 4), s.coreOn n = true ∧ s.fld F.DMX_STATUS_STATE n u ≠ 2 ∧ binOpen s n u = none ∧ wsetOk s n u set
    = true ∧ ((∀ st : Fin 4, acqState s n st = 0 ∨ (acq s n st).trig ≠ 2))) ∧
  (∃ (s : State) (n : Fin 16) (u : Fin 32) (w : BinWindow), s.coreOn n = true ∧ s.fld F.DMX_STATUS_STATE n u ≠ 2 ∧ binOpen s n u = some w) ∧
  (∃ (s : State) (n : Fin 16) (u : Fin 32) (w : BinWindow), (bin s n u).windows = [w] ∧ w.ends ≤ s.now) ∧
  (∃ (s : State) (n : Fin 16) (u : Fin 32), s.inReset = false ∧ s.rplState ≠ 2 ∧ reloadHolds s n = false ∧ s.img.locks = [] ∧ s.img.bounds = [] ∧ (bin s
    n u).windows = []) ∧
  (∃ (s : State) (n : Fin 16) (u : Fin 32), s.inReset = false ∧ s.rplState ≠ 2 ∧ reloadHolds s n = false ∧ s.img.locks = [] ∧ s.img.bounds = [] ∧ (bin s
    n u).windows ≠ []) ∧
  (∃ (s : State) (n : Fin 16) (u : Fin 32) (r : BinResult), (bin s n u).results = [r] ∧ r.codes = none ∧ r.ends + 11 ≤ s.now) ∧
  (∃ (s : State) (n : Fin 16) (u : Fin 32) (r : BinResult) (rest : List BinResult) (l : List (Nat × Nat)), (bin s n u).results = r :: rest ∧ r.ends + 12
    ≤ s.now ∧ r.codes = some l ∧ r.endBeat < 2 ^ 64 ∧ r.wsel < 4 ∧ ((∀ x ∈ l, x.1 < 32))) ∧
  (∃ (s : State), s.inReset = false) := 
  ⟨⟨(((State.reset.setFld F.DMX_WSET_LEN 4 3 9 2))), 3, 9, 2, by decide +kernel⟩,
   ⟨(modBin (State.reset) 3 9 (fun b => { b with windows := [{ windowNow State.reset 3 9 0 0 0 with ends := 5 }] })), 3, 9,
    ({ windowNow State.reset 3 9 0 0 0 with ends := 5 }), by decide +kernel⟩,
   ⟨(modBin (State.reset) 3 9 (fun b => { b with windows := [{ windowNow State.reset 3 9 0 0 0 with len := 4 }] })), 3, 9,
    ({ windowNow State.reset 3 9 0 0 0 with len := 4 }), by decide +kernel⟩,
   ⟨State.reset, 3, 9, by decide +kernel⟩,
   ⟨(modBin (State.reset) 3 9 (fun b => { b with windows := [windowNow State.reset 3 9 0 0 0] })), 3, 9, by decide +kernel⟩,
   ⟨({ modBin (State.reset) 3 9 (fun b => { b with results := [{ ends := 0, endBeat := 7, i := -3, q := 5, ovr := true, sat := false, invalid := false, wsel := 2, muted := 0, lines := [], codes := none }] }) with now := 11 }),
    3, 9,
    ({ ends := 0, endBeat := 7, i := -3, q := 5, ovr := true, sat := false, invalid := false, wsel := 2, muted := 0, lines := [], codes := none }),
    by decide +kernel⟩,
   ⟨({ modBin (State.reset) 3 9 (fun b => { b with results := [{ ends := 0, endBeat := 7, i := -3, q := 5, ovr := true, sat := false, invalid := false, wsel := 2, muted := 0, lines := [], codes := some [(3, 2)] }] }) with now := 12 }),
    3, 9,
    ({ ends := 0, endBeat := 7, i := -3, q := 5, ovr := true, sat := false, invalid := false, wsel := 2, muted := 0, lines := [], codes := some [(3, 2)] }),
    ([]), ([(3, 2)]), by decide +kernel⟩,
   ⟨State.reset, by decide +kernel⟩⟩

theorem witness_Acquisition :
  (∃ (s : State) (n : Fin 16) (st : Fin 4) (d : Fin 64), s.coreOn n = true ∧ s.flag F.ACQ_STATUS_DRAINED n = false ∧ armRefusal s n d = none ∧
    ((List.finRange 4).find? (fun st => acqState s n st.val = 0) = some st) ∧ s.fld F.ACQ_DPRE_ITEMS n d ≠ 0) ∧
  (∃ (s : State) (n : Fin 16) (st : Fin 4) (d : Fin 64), s.coreOn n = true ∧ s.flag F.ACQ_STATUS_DRAINED n = false ∧ armRefusal s n d = none ∧
    ((List.finRange 4).find? (fun st => acqState s n st.val = 0) = some st) ∧ s.fld F.ACQ_DPRE_ITEMS n d = 0 ∧ s.fld F.ACQ_DCFG_TRIG n d ≠ 1) ∧
  (∃ (s : State) (n : Fin 16) (st : Fin 4), acqState s n st = 1 ∧ (acq s n st).from_ ≤ s.now ∧ (acq s n st).pre ≤ (acq s n st).preCount ∧ ((acq s n
    st).preFull < s.now ∨ (acq s n st).pre = 0) ∧ (acq s n st).trig ≠ 1) ∧
  (∃ (s : State) (n : Fin 16) (st : Fin 4), s.coreOn n = true ∧ s.flag F.ACQ_STATUS_DRAINED n = false ∧ acqState s n st = 2 ∧ ((∀ x : Fin 4, x ≠ st →
    acqState s n x = 0)) ∧ (acq s n st).trig = 0 ∧ (acq s n st).incoming = []) ∧
  (∃ (s : State) (n : Fin 16) (st : Fin 4), s.coreOn n = true ∧ s.flag F.ACQ_STATUS_DRAINED n = false ∧ (acqState s n st = 2 ∨ acqState s n st = 3) ∧
    ((∀ x : Fin 4, x ≠ st → acqState s n x = 0)) ∧ (acq s n st).incoming = []) ∧
  (∃ (s : State) (n : Fin 16) (st : Fin 4) (k : Nat) (v : Nat), acqState s n st = 3 ∧ (acq s n st).kind = 1 ∧ (acq s n st).incoming = [(k, v)] ∧ (acq s
    n st).firstPost ≤ k ∧ (acq s n st).postCount < (acq s n st).post ∧ (acq s n st).full.length ≤ 14) ∧
  (∃ (s : State) (n : Fin 16) (st : Fin 4), acqState s n st = 3 ∧ (acq s n st).post ≤ (acq s n st).postCount ∧ (acq s n st).segments ≤ s.fld
    F.ACQ_STRM_SEG n st + 1) ∧
  (∃ (s : State) (n : Fin 16) (st : Fin 4), acqState s n st = 3 ∧ (acq s n st).post ≤ (acq s n st).postCount ∧ s.fld F.ACQ_STRM_SEG n st + 1 < (acq s n
    st).segments ∧ (acq s n st).segments ≤ 65536) ∧
  (∃ (s : State) (n : Fin 16) (st : Fin 4), acqState s n st = 4 ∧ (acq s n st).full = []) := 
  ⟨⟨((((((State.reset.setFld F.SLC_STORE_PWR_STATE 0 3).setFld F.ACQ_DPOST_ITEMS 4 3 5).setFld F.ACQ_DLINES_LINES 9 3 5).setFld F.ACQ_DSEG_SEGMENTS 1 3
    5).setFld F.ACQ_STRM_STATE 1 3 0).setFld F.ACQ_DPRE_ITEMS 4 3 5), 3, 1, 5, by decide +kernel⟩,
   ⟨((((((State.reset.setFld F.SLC_STORE_PWR_STATE 0 3).setFld F.ACQ_DPOST_ITEMS 4 3 5).setFld F.ACQ_DLINES_LINES 9 3 5).setFld F.ACQ_DSEG_SEGMENTS 1 3
    5).setFld F.ACQ_STRM_STATE 1 3 0)), 3, 1, 5, by decide +kernel⟩,
   ⟨(modAcq ((State.reset).setFld F.ACQ_STRM_STATE 1 3 2) 3 2 (fun a => { a with  })), 3, 2, by decide +kernel⟩,
   ⟨(modAcq ((State.reset).setFld F.ACQ_STRM_STATE 2 3 2) 3 2 (fun a => { a with  })), 3, 2, by decide +kernel⟩,
   ⟨(modAcq ((State.reset).setFld F.ACQ_STRM_STATE 3 3 2) 3 2 (fun a => { a with  })), 3, 2, by decide +kernel⟩,
   ⟨(modAcq ((State.reset).setFld F.ACQ_STRM_STATE 3 3 2) 3 2 (fun a => { a with kind := 1, post := 4, incoming := [(0, 77)] })), 3, 2, 0, 77,
    by decide +kernel⟩,
   ⟨(modAcq ((State.reset).setFld F.ACQ_STRM_STATE 3 3 2) 3 2 (fun a => { a with  })), 3, 2, by decide +kernel⟩,
   ⟨(modAcq ((State.reset).setFld F.ACQ_STRM_STATE 3 3 2) 3 2 (fun a => { a with segments := 2 })), 3, 2, by decide +kernel⟩,
   ⟨(modAcq ((State.reset).setFld F.ACQ_STRM_STATE 4 3 2) 3 2 (fun a => { a with  })), 3, 2, by decide +kernel⟩⟩

theorem witness_Verdicts :
  (∃ (s : State) (v : Fin 1024) (r : ReadyVerdict), (s.xbar.ready.find? (fun r => r.v = v.val ∧ r.at_ ≤ s.now) = some r) ∧ sourceUnavailable s
    (verdictSource v.val) = false) ∧
  (∃ (s : State) (word : BitVec 64), (word.toNat.testBit 56 && word.toNat.testBit 57) = false ∧ 0 ≤ dueOffset s (bitsAt word.toNat 32 24) ∧ dueOffset s
    (bitsAt word.toNat 32 24) ≤ 255) ∧
  (∃ (s : State) (word : BitVec 64), (word.toNat.testBit 56 && word.toNat.testBit 57) = false ∧ dueOffset s (bitsAt word.toNat 32 24) < 0) ∧
  (∃ (s : State) (i : Fin 256) (m : HeldMessage), (s.xbar.held.find? (fun m => m.due ≤ s.now ∧ i ∈ bindingsOf s (bitsAt m.word.toNat 10 10) (bitsAt
    m.word.toNat 0 10)) = some m) ∧ m.word.toNat.testBit 56 = false ∧ m.word.toNat.testBit 57 = false ∧ s.rpl.replaying = false ∧ bindingsOf s (bitsAt
    m.word.toNat 10 10) (bitsAt m.word.toNat 0 10) = [i] ∧ holdOf s (.imported i) = none) ∧
  (∃ (s : State) (input : SeqInput), ((s.xbar.holds.any (fun h => h.input = input ∧ !h.active ∧ h.onset ≤ s.now)) = true) ∧ s.rpl.replaying = false ∧
    ((s.xbar.holds.any (fun h => h.input = input ∧ h.active)) = false)) ∧
  (∃ (s : State) (input : SeqInput) (h : VerdictHold) (k : Nat), holdOf s input = some h ∧ h.until_ = some k ∧ k ≤ s.now ∧ s.rpl.replaying = false ∧
    h.active = true) := 
  ⟨⟨((modXbar State.reset (fun x => { x with ready := [⟨1023, 2, 0, true⟩] }))), 1023, (⟨1023, 2, 0, true⟩), by decide +kernel⟩,
   ⟨State.reset, 0x000000FF00000000, by decide +kernel⟩,
   ⟨State.reset, 0x00FFFFFF00000403, by decide +kernel⟩,
   ⟨((((modXbar State.reset (fun x => { x with held := [⟨0x1, 0⟩] })).setFlag F.VRD_IMPORT_VALID true 255).setFld F.VRD_IMPORT_SRC_VERDICT 1 255)), 255,
    (⟨0x1, 0⟩), by decide +kernel⟩,
   ⟨(((modXbar State.reset (fun x => { x with holds := [⟨.verdict 33, 0, none, false⟩] })).setFld F.VRD_ROUTE_SLICES 5 33)), (.verdict 33),
    by decide +kernel⟩,
   ⟨(((modXbar State.reset (fun x => { x with holds := [⟨.imported 33, 0, some 0, true⟩] })).setFld F.VRD_IMPORT_SL_SLICES 5 33)), (.imported 33),
    (⟨.imported 33, 0, some 0, true⟩), 0, by decide +kernel⟩⟩

theorem witness_VerdictDueError :
  (∃ (s : State) (word : BitVec 64), ((word.toNat.testBit 56 && word.toNat.testBit 57) = true ∨ 255 < dueOffset s (bitsAt word.toNat 32 24))) := ⟨State.reset, 0x0000010000000000, by decide +kernel⟩

theorem witness_FfEvents :
  (∃ (s : State) (n : Fin 16) (f : Fin 8), s.analogOn n = true ∧ ffStateOf s n f = 1 ∧ ffMuted s n f = false) ∧
  (∃ (s : State) (n : Fin 16) (f : Fin 8), s.analogOn n = true ∧ ffStateOf s n f = 2) ∧
  (∃ (s : State) (n : Fin 16) (f : Fin 8), s.analogOn n = true ∧ (ffStateOf s n f ≠ 1 ∨ ffMuted s n f = true) ∧ ffStateOf s n f ≠ 2) ∧
  (∃ (s : State) (n : Fin 16) (f : Fin 8) (setting : BitVec 3), s.analogOn n = true ∧ ffStateOf s n f = 0 ∧ ffAllowed s n f setting.toNat = true ∧ (ffCh
    s n f).seq = none) ∧
  (∃ (s : State) (n : Fin 16) (f : Fin 8) (setting : BitVec 3), s.analogOn n = true ∧ ffStateOf s n f = 1 ∧ ffMuted s n f = false ∧ ffAllowed s n f
    setting.toNat = true ∧ s.fld F.FF_STATUS_SETTING n f ≠ setting.toNat ∧ (ffCh s n f).seq = none ∧ (ffCh s n f).events = []) ∧
  (∃ (s : State) (n : Fin 16) (f : Fin 8) (setting : BitVec 3), s.analogOn n = true ∧ (ffStateOf s n f = 0 ∨ ffStateOf s n f = 1 ∨ ffStateOf s n f = 2)
    ∧ ffMuted s n f = false ∧ ffAllowed s n f setting.toNat = false) ∧
  (∃ (s : State) (n : Fin 16) (f : Fin 8), s.analogOn n = true ∧ ffStateOf s n f = 1 ∧ ffMuted s n f = false ∧ (ffCh s n f).seq = none ∧ (ffCh s n
    f).events = []) ∧
  (∃ (s : State) (n : Fin 16) (f : Fin 8) (q : FfSequence) (v : Nat), (ffCh s n f).seq = some q ∧ q.goal = .setting v ∧ v < 8 ∧ q.endAt ≤ s.now ∧ (ffCh
    s n f).deferred = none) ∧
  (∃ (s : State) (n : Fin 16) (f : Fin 8) (q : FfSequence), (ffCh s n f).seq = some q ∧ q.goal = .hiz ∧ q.endAt ≤ s.now) := 
  ⟨⟨((modFf (anaOn) 3 1 (fun c => { c with guarded := false, base := .active }))), 3, 1, by decide +kernel⟩,
   ⟨((modFf (anaOn) 3 1 (fun c => { c with guarded := false, base := .changing }))), 3, 1, by decide +kernel⟩,
   ⟨anaOn, 3, 1, by decide +kernel⟩,
   ⟨((modFf (anaOn.setFld F.FF_LIM_ALLOW 0x3F 3 1) 3 1 (fun c => { c with guarded := false }))), 3, 1, 5, by decide +kernel⟩,
   ⟨((modFf (anaOn.setFld F.FF_LIM_ALLOW 0x3F 3 1) 3 1 (fun c => { c with guarded := false, base := .active }))), 3, 1, 5, by decide +kernel⟩,
   ⟨((modFf (anaOn) 3 1 (fun c => { c with guarded := false }))), 3, 1, 6, by decide +kernel⟩,
   ⟨((modFf (anaOn) 3 1 (fun c => { c with guarded := false, base := .active }))), 3, 1, by decide +kernel⟩,
   ⟨({ (modFf (anaOn) 3 1 (fun c => { c with guarded := false, seq := some ⟨0, 1, 5, false, false, .setting 3⟩ })) with now := 751 }), 3, 1, (⟨0, 1, 5,
    false, false, .setting 3⟩), 3, by decide +kernel⟩,
   ⟨({ (modFf (anaOn) 3 1 (fun c => { c with guarded := false, seq := some ⟨0, 1, 5, false, false, .hiz⟩ })) with now := 251 }), 3, 1, (⟨0, 1, 5, false,
    false, .hiz⟩), by decide +kernel⟩⟩

theorem witness_FfShorts :
  (∃ (s : State) (n : Fin 16) (f : Fin 8), ffClosed s n f s.now = true ∧ s.flag F.FF_STATUS_LIMIT n f = false ∧ checkRunning s n = false) ∧
  (∃ (s : State) (n : Fin 16) (f : Fin 8) (k : FfCheck) (i : Nat), (ffCh s n f).check = some k ∧ k.converting = some i ∧ i < 8 ∧ k.p + 125 * (i + 1) ≤
    s.now) ∧
  (∃ (s : State) (n : Fin 16) (f : Fin 8), (ffCh s n f).check.isSome = true) ∧
  (∃ (s : State) (n : Fin 16) (f : Fin 8) (k : FfCheck), (ffCh s n f).check = some k ∧ k.p + 5125 ≤ s.now ∧ s.flag F.FF_STATUS_LIMIT n f = true) := 
  ⟨⟨((modFf (anaOn) 3 1 (fun c => { c with guarded := false, base := .active }))), 3, 1, by decide +kernel⟩,
   ⟨({ (modFf (anaOn) 3 1 (fun c => { c with guarded := false, check := some { p := 0, converting := some 1, errors := [] } })) with now := 250 }), 3, 1,
    ({ p := 0, converting := some 1, errors := [] }), 1, by decide +kernel⟩,
   ⟨((modFf (anaOn) 3 1 (fun c => { c with guarded := false, check := some { p := 0, converting := some 1, errors := [] } }))), 3, 1, by decide +kernel⟩,
   ⟨({ (modFf (anaOn.setFlag F.FF_STATUS_LIMIT true 3 1) 3 1 (fun c => { c with guarded := false, check := some { p := 0, converting := some 1, errors := [] } })) with now := 5125 }),
    3, 1, ({ p := 0, converting := some 1, errors := [] }), by decide +kernel⟩⟩

theorem witness_MeasureSequences :
  (∃ (s : State) (n : Fin 16), s.analogOn n = true ∧ madState s n = 0 ∧ s.flag F.MAD_CFG_ENABLE n = true) ∧
  (∃ (s : State) (n : Fin 16), s.analogOn n = true ∧ madState s n ≠ 0 ∧ madState s n ≠ 5 ∧ s.flag F.MAD_CFG_ENABLE n = true ∧ s.flag F.MAD_STATUS_PEND n
    = false) ∧
  (∃ (s : State) (n : Fin 16), s.analogOn n = true ∧ madState s n ≠ 5 ∧ (s.flag F.MAD_CFG_ENABLE n = false ∨ madState s n ≠ 0 ∧ s.flag F.MAD_STATUS_PEND
    n = true)) ∧
  (∃ (s : State) (n : Fin 16), s.analogOn n = true ∧ (s.sl n).mad.run.isSome = true) ∧
  (∃ (s : State) (n : Fin 16) (st : Nat) (T : Nat) (r : MadRun), (s.sl n).mad.slot = some (st, T) ∧ (s.sl n).mad.run = some r ∧ st + T ≤ s.now ∧
    r.conversions + 1 = 2 ^ s.fld F.MAD_STEP_AVG n (madStepIndex r) ∧ (s.sl n).mad.queue.length < 256) ∧
  (∃ (s : State) (n : Fin 16) (r : MadRun), (s.sl n).mad.run = some r ∧ r.waiting = true ∧ r.repStart + s.fld F.MAD_SEQ_GAP n r.seq ≤ s.now ∧ madState s
    n = 1) := 
  ⟨⟨(anaOn.setFlag F.MAD_CFG_ENABLE true 3), 3, by decide +kernel⟩,
   ⟨((anaOn.setFld F.MAD_STATUS_STATE 1 3).setFlag F.MAD_CFG_ENABLE true 3), 3, by decide +kernel⟩,
   ⟨(anaOn.setFlag F.MAD_CFG_ENABLE false 3), 3, by decide +kernel⟩,
   ⟨((modMad (anaOn) 3 (fun m =>
    { m with run := some { seq := 2, step := 1, rep := 0, repStart := 0, waiting := false, conversions := 0, sum := 0, ovr := false, invalid := false, sampleBeat := 0, ending := false } }))),
    3, by decide +kernel⟩,
   ⟨({ (modMad (anaOn) 3 (fun m => { m with run := some { seq := 2, step := 1, rep := 0, repStart := 0, waiting := false, conversions := 0, sum := 0, ovr := false, invalid := false, sampleBeat := 0, ending := false }, slot := some (0, 125) })) with now := 125 }),
    3, 0, 125,
    ({ seq := 2, step := 1, rep := 0, repStart := 0, waiting := false, conversions := 0, sum := 0, ovr := false, invalid := false, sampleBeat := 0, ending := false }),
    by decide +kernel⟩,
   ⟨((modMad (anaOn.setFld F.MAD_STATUS_STATE 1 3) 3 (fun m =>
    { m with run := some { seq := 2, step := 1, rep := 0, repStart := 0, waiting := true, conversions := 0, sum := 0, ovr := false, invalid := false, sampleBeat := 0, ending := false } }))),
    3,
    ({ seq := 2, step := 1, rep := 0, repStart := 0, waiting := true, conversions := 0, sum := 0, ovr := false, invalid := false, sampleBeat := 0, ending := false }),
    by decide +kernel⟩⟩

theorem witness_MeasureCalibration :
  (∃ (s : State) (n : Fin 16), s.analogOn n = true ∧ madState s n = 0 ∧ s.flag F.MAD_STATUS_PEND n = false ∧ s.admissionGranted 3 n = false) ∧
  (∃ (s : State) (n : Fin 16), s.analogOn n = true ∧ (madState s n ≠ 0 ∨ s.flag F.MAD_STATUS_PEND n = true)) ∧
  (∃ (s : State) (n : Fin 16) (factors : List Int) (k : Nat), (s.sl n).mad.selfcalStart = some k ∧ k + 800000 ≤ s.now ∧ factors.length = 10 ∧
    factors.all factorFits = true) ∧
  (∃ (s : State) (n : Fin 16), s.analogOn n = true ∧ madState s n = 0 ∧ s.flag F.MAD_STATUS_PEND n = false ∧ s.flag F.MAD_SCAL_CTRL_POINT n = false) ∧
  (∃ (s : State) (n : Fin 16), s.analogOn n = true ∧ (madState s n ≠ 0 ∨ s.flag F.MAD_STATUS_PEND n = true)) ∧
  (∃ (s : State) (n : Fin 16) (raws : List (BitVec 18)) (c : MadSysCal), (s.sl n).mad.syscal = some c ∧ c.start + 8000 ≤ s.now ∧ raws.length = 64 ∧
    c.full = false ∧ madInvalid s n c.input = false) ∧
  (∃ (s : State) (n : Fin 16), (s.sl n).mad.applyPending = true ∧ (s.sl n).mad.slot = none ∧ (s.sl n).mad.selfcalStart = none ∧ (s.sl n).mad.syscal =
    none ∧ madHeld s n = false) ∧
  (∃ (s : State) (n : Fin 16) (e : BitVec 64) (l : List (BitVec 64)), (s.sl n).mad.queue = e :: l) ∧
  (∃ (s : State) (n : Fin 16), (s.sl n).mad.queue = []) ∧
  (∃ (s : State) (n : Fin 16) (v : BitVec 32), (s.sl n).mad.captured = some (v, false)) ∧
  (∃ (s : State) (n : Fin 16), (s.sl n).mad.captured = none) ∧
  (∃ (s : State) (n : Fin 16) (v : BitVec 32), (s.sl n).mad.captured = some (v, true)) := 
  ⟨⟨anaOn, 3, by decide +kernel⟩,
   ⟨(anaOn.setFld F.MAD_STATUS_STATE 5 3), 3, by decide +kernel⟩,
   ⟨({ (modMad (anaOn) 3 (fun m => { m with selfcal := true, selfcalStart := some 0 })) with now := 800000 }), 3, (List.replicate 10 (-131072)), 0,
    by decide +kernel⟩,
   ⟨anaOn, 3, by decide +kernel⟩,
   ⟨(anaOn.setFld F.MAD_STATUS_STATE 5 3), 3, by decide +kernel⟩,
   ⟨({ (modMad (anaOn) 3 (fun m => { m with syscal := some { start := 0, input := 40, set := 12, full := false } })) with now := 8000 }), 3,
    (List.replicate 64 7), ({ start := 0, input := 40, set := 12, full := false }), by decide +kernel⟩,
   ⟨((modMad (anaOn) 3 (fun m => { m with applyPending := true, shadow := Vector.replicate 10 9 }))), 3, by decide +kernel⟩,
   ⟨((modMad (anaOn) 3 (fun m => { m with queue := [0x1234500000009] }))), 3, 0x1234500000009, ([]), by decide +kernel⟩,
   ⟨State.reset, 3, by decide +kernel⟩,
   ⟨((modMad (anaOn) 3 (fun m => { m with captured := some (5, false) }))), 3, 5, by decide +kernel⟩,
   ⟨State.reset, 3, by decide +kernel⟩,
   ⟨((modMad (anaOn) 3 (fun m => { m with captured := some (0, true) }))), 3, 0, by decide +kernel⟩⟩

theorem witness_TimeMeasures_a :
  (∃ (s : State) (n : Fin 16) (c : Fin 8) (k : Fin 4), s.analogOn n = true ∧ tdcState s n c = 0 ∧ s.flag F.TDC_CFG_EN n c = true ∧ (TdcSetup.ofWord
    (s.rd .TDC_SETUP n c k)).ok = true) ∧
  (∃ (s : State) (n : Fin 16) (c : Fin 8), s.analogOn n = true ∧ tdcState s n c ≠ 0) ∧
  (∃ (s : State) (n : Fin 16) (c : Fin 8) (k : Fin 4), s.analogOn n = true ∧ tdcState s n c = 0 ∧ (s.flag F.TDC_CFG_EN n c = false ∨ (TdcSetup.ofWord
    (s.rd .TDC_SETUP n c k)).ok = false)) ∧
  (∃ (s : State) (n : Fin 16) (c : Fin 8), s.analogOn n = true ∧ tdcState s n c ≠ 4) ∧
  (∃ (s : State) (n : Fin 16) (c : Fin 8), s.analogOn n = true ∧ tdcState s n c = 1 ∧ (tdcSetup s n c).mode = 2) ∧
  (∃ (s : State) (n : Fin 16) (c : Fin 8) (input : BitVec 7) (rising : Bool) (lsb : Fin 16384), tdcState s n c = 1 ∧ ((tdcCh s n c).seen.any (fun e =>
    e.1 = input.toNat ∧ beatLsb s.now + lsb.val < e.2 + 8192) = false) ∧ (tdcCh s n c).from_ ≤ beatLsb s.now + lsb.val ∧ (tdcSetup s n c).mode = 0 ∧
    (tdcCh s n c).stop = none ∧ qualifies (tdcSetup s n c).startIn (tdcSetup s n c).startSlope input.toNat rising = true ∧ qualifies (tdcSetup s n
    c).stopIn (tdcSetup s n c).stopSlope input.toNat rising = false ∧ (tdcCh s n c).start = none) ∧
  (∃ (s : State) (n : Fin 16) (c : Fin 8) (input : BitVec 7) (rising : Bool) (lsb : Fin 16384) (a : Nat), tdcState s n c = 2 ∧ ((tdcCh s n c).seen.any
    (fun e => e.1 = input.toNat ∧ beatLsb s.now + lsb.val < e.2 + 8192) = false) ∧ (tdcCh s n c).from_ ≤ beatLsb s.now + lsb.val ∧ (tdcSetup s n
    c).mode = 0 ∧ (tdcCh s n c).stop = none ∧ qualifies (tdcSetup s n c).stopIn (tdcSetup s n c).stopSlope input.toNat rising = true ∧ (tdcCh s n
    c).start = some (a, false) ∧ a ≤ beatLsb s.now + lsb.val) ∧
  (∃ (s : State) (n : Fin 16) (c : Fin 8) (p : Nat × Bool), (tdcCh s n c).stop = some p ∧ p.1 + 4096000 < beatLsb (s.now + 1)) ∧
  (∃ (s : State) (n : Fin 16) (c : Fin 8) (p : Nat × Bool), (tdcCh s n c).start = some p ∧ p.1 + 2 ^ 44 < beatLsb (s.now + 1)) ∧
  (∃ (s : State) (n : Fin 16) (c : Fin 8) (o : Nat) (e : Nat), (tdcCh s n c).gate = some (o, e) ∧ e < beatLsb (s.now + 1) ∧ (tdcCh s n c).first = none) ∧
  (∃ (s : State) (n : Fin 16) (r : TdcResult), (tdcNext ((s.sl n).tdc.waiting.filter (fun r => decide (r.due ≤ s.now))) = some r) ∧ (s.sl
    n).tdc.queue.length < 128) ∧
  (∃ (s : State) (n : Fin 16), s.analogOn n = true) := 
  ⟨⟨((anaOn.setFlag F.TDC_CFG_EN true 3 7)), 3, 7, 3, by decide +kernel⟩,
   ⟨((anaOn.setFld F.TDC_STATUS_STATE 4 3 7)), 3, 7, by decide +kernel⟩,
   ⟨((anaOn.setFlag F.TDC_CFG_EN false 3 7)), 3, 7, 0, by decide +kernel⟩,
   ⟨((anaOn.setFld F.TDC_STATUS_STATE 3 3 7)), 3, 7, by decide +kernel⟩,
   ⟨((modTdc ((anaOn.setFld F.TDC_STATUS_STATE 1 3 7)) 3 7 (fun x => { x with setup := 2#32 }))), 3, 7, by decide +kernel⟩,
   ⟨((modTdc ((anaOn.setFld F.TDC_STATUS_STATE 1 3 7)) 3 7 (fun x => { x with setup := 0x1004#32 }))), 3, 7, 1, true, 16383, by decide +kernel⟩,
   ⟨((modTdc ((anaOn.setFld F.TDC_STATUS_STATE 2 3 7)) 3 7 (fun x => { x with setup := 0x1004#32, start := some (7, false) }))), 3, 7, 2, true, 16383, 7,
    by decide +kernel⟩,
   ⟨({ (modTdc (anaOn) 3 7 (fun x => { x with stop := some (0, false) })) with now := 250 }), 3, 7, ((0, false)), by decide +kernel⟩,
   ⟨({ (modTdc (anaOn) 3 7 (fun x => { x with start := some (0, false) })) with now := 1073741824 }), 3, 7, ((0, false)), by decide +kernel⟩,
   ⟨((modTdc (anaOn) 3 7 (fun x => { x with gate := some (0, 16383) }))), 3, 7, 0, 16383, by decide +kernel⟩,
   ⟨({ (State.reset.modSl 3 (fun x => { x with tdc := { x.tdc with waiting := [{ due := 1, ch := 7, mode := 0, neg := false, ovf := false, invalid := false, noedge := false, setup := 0, val := 5, aux := 0, armBeat := 0 }] } })) with now := 1 }),
    3,
    ({ due := 1, ch := 7, mode := 0, neg := false, ovf := false, invalid := false, noedge := false, setup := 0, val := 5, aux := 0, armBeat := 0 }),
    by decide +kernel⟩,
   ⟨anaOn, 3, by decide +kernel⟩⟩

theorem witness_TimeMeasures_b :
  (∃ (s : State) (n : Fin 16) (e : BitVec 128) (l : List (BitVec 128)), (s.sl n).tdc.queue = e :: l) ∧
  (∃ (s : State) (n : Fin 16) (c : Fin 8), tdcState s n c ≠ 4) := 
  ⟨⟨((State.reset.modSl 3 (fun x => { x with tdc := { x.tdc with queue := [0x123456789ABCDEF0123456789ABCDEF0] } }))), 3,
    0x123456789ABCDEF0123456789ABCDEF0, ([]), by decide +kernel⟩,
   ⟨((anaOn.setFld F.TDC_STATUS_STATE 2 3 7)), 3, 7, by decide +kernel⟩⟩

theorem witness_InvarAndChain_a :
  (∃ (s : State), s.flag F.INV_STATUS_REF_VALID = true) ∧
  (∃ (s : State), s.fld F.INV_CFG_REF_SEL ≠ 0) ∧
  (∃ (s : State), s.flag F.INV_STATUS_REF_VALID = true ∧ s.flag F.INV_STATUS_HOLDOVER = false) ∧
  (∃ (s : State), chnFollows s = true ∧ chnState s = 5 ∧ s.flag F.CHN_STATUS_CLK_LOCK = false ∧ wheelsStopped s = true) ∧
  (∃ (s : State), chnRole s ≠ 0 ∧ s.beat % 16 = 0) ∧
  (∃ (s : State) (frame : BitVec 64), chnFollows s = true ∧ frameOk frame.toNat = false) ∧
  (∃ (s : State) (frame : BitVec 64), chnFollows s = true ∧ frameOk frame.toNat = true) ∧
  (∃ (s : State), chnRole s = 2 ∧ s.chn.rxTurn = chnPos s ∧ s.flag F.CHN_STATUS_POS_ERR = false ∧ s.beat % 16 = 8) ∧
  (∃ (s : State) (rpt : Int), chnRole s ≠ 0 ∧ bitsAt s.chn.out.toNat 9 5 = chnPos s + 1 ∧ 0 ≤ rpt ∧ rpt < 2 ^ 20) ∧
  (∃ (s : State), chnRole s = 2 ∧ s.chn.turns ≠ 0 ∧ averageTurns s ≤ s.chn.turns ∧ s.chn.sumA + s.chn.sumR ≤ 393216 * s.chn.turns ∧ chnState s = 2 ∧
    s.chn.stepped = false) ∧
  (∃ (s : State) (clock : Bool), chnFollows s = true ∧ chnState s ≠ 4 ∧ (chnState s ≠ 5 ∨ s.flag F.CHN_STATUS_CLK_LOCK = true) ∧ (clock = true ∨ 8 ≤
    s.chn.lost)) ∧
  (∃ (s : State) (role : BitVec 2) (pos : BitVec 5), (role.toNat ≠ chnRole s ∨ pos.toNat ≠ chnPos s) ∧ wheelsStopped s = true) := 
  ⟨⟨((State.reset.setFlag F.INV_STATUS_REF_VALID true)), by decide +kernel⟩,
   ⟨((State.reset.setFld F.INV_CFG_REF_SEL 1)), by decide +kernel⟩,
   ⟨((State.reset.setFlag F.INV_STATUS_REF_VALID true)), by decide +kernel⟩,
   ⟨(((State.reset.setFld F.CHN_CFG_ROLE 2).setFld F.CHN_STATUS_STATE 5)), by decide +kernel⟩,
   ⟨(((State.reset.setFld F.CHN_CFG_ROLE 1).setFld F.CHN_CFG_POS 31)), by decide +kernel⟩,
   ⟨((State.reset.setFld F.CHN_CFG_ROLE 2)), 0, by decide +kernel⟩,
   ⟨(((State.reset.setFld F.CHN_CFG_ROLE 2).setFld F.CHN_CFG_POS 1)), (chainFrame 0 1 none 0 0 0 true), by decide +kernel⟩,
   ⟨({ (State.reset.setFld F.CHN_CFG_ROLE 2) with beat := 8 }), by decide +kernel⟩,
   ⟨((modChn ((State.reset.setFld F.CHN_CFG_ROLE 1)) (fun c => { c with out := chainFrame 0 1 none 0 0 0 true }))), 1048575, by decide +kernel⟩,
   ⟨((modChn (((State.reset.setFld F.CHN_CFG_ROLE 2).setFld F.CHN_STATUS_STATE 2)) (fun c => { c with turns := 4096, sumA := 40960, sumR := 81920 }))),
    by decide +kernel⟩,
   ⟨(((State.reset.setFld F.CHN_CFG_ROLE 2).setFld F.CHN_STATUS_STATE 3)), true, by decide +kernel⟩,
   ⟨State.reset, 3, 31, by decide +kernel⟩⟩

theorem witness_InvarAndChain_b :
  (∃ (s : State) (role : BitVec 2) (pos : BitVec 5), (role.toNat ≠ chnRole s ∨ pos.toNat ≠ chnPos s) ∧ wheelsStopped s = false) ∧
  (∃ (s : State), chnFollows s = true ∧ wheelsStopped s = true ∧ s.flag F.CHN_STATUS_CLK_LOCK = true) ∧
  (∃ (s : State), wheelsStopped s = false) := 
  ⟨⟨((State.reset.setFld F.SLC_WHEEL_STATUS_STATE 2 15)), 3, 31, by decide +kernel⟩,
   ⟨(((State.reset.setFld F.CHN_CFG_ROLE 2).setFlag F.CHN_STATUS_CLK_LOCK true)), by decide +kernel⟩,
   ⟨((State.reset.setFld F.SLC_WHEEL_STATUS_STATE 2 15)), by decide +kernel⟩⟩

theorem witness_EpochCommand :
  (∃ (s : State), (s.pair .CHN_EPOCH_LO .CHN_EPOCH_HI % 2 ^ 24 ≠ 0 ∨ s.pair .CHN_EPOCH_LO .CHN_EPOCH_HI < s.beat + 2048 ∨ chnFollows s = true ∨
    s.chn.epoch.isSome = true)) ∧
  (∃ (s : State), s.pair .CHN_EPOCH_LO .CHN_EPOCH_HI % 2 ^ 24 = 0 ∧ s.beat + 2048 ≤ s.pair .CHN_EPOCH_LO .CHN_EPOCH_HI ∧ chnFollows s = false ∧
    s.chn.epoch = none) := 
  ⟨⟨State.reset, by decide +kernel⟩,
   ⟨((State.reset.wr .CHN_EPOCH_LO 0x1000000#32)), by decide +kernel⟩⟩

theorem witness_EpochAndTriggers :
  (∃ (s : State) (e : Nat), s.chn.epoch = some e ∧ s.beat = e ∧ e < 2 ^ 64) ∧
  (∃ (s : State), chnFollows s = false) ∧
  (∃ (s : State), chnFollows s = true) ∧
  (∃ (s : State), chnFollows s = false) ∧
  (∃ (s : State) (l : Fin 8), s.flag F.TRG_LINE_EN l = true ∧ s.rpl.replaying = false ∧ (s.trg.stamps.find? (fun x => x.1 = l.val) = none)) ∧
  (∃ (s : State) (l : Fin 8) (ps : Fin 4000) (x : Nat × Int), s.flag F.TRG_LINE_EN l = true ∧ s.rpl.replaying = false ∧ (s.trg.stamps.find? (fun x =>
    x.1 = l.val) = some x) ∧ 4000 * (s.now : Int) + ps.val - x.2 < 2000) ∧
  (∃ (s : State) (l : Fin 8), lineLevelAt s l (s.now - 16) ≠ s.trg.level.getLsbD l ∧ trgActs s l = true) ∧
  (∃ (s : State), chnFollows s = false ∧ s.chn.calAt = none ∧ s.flag F.TRG_STATUS_CAL_BUSY = false ∧ s.beat < 2 ^ 63) ∧
  (∃ (s : State), (chnFollows s = true ∨ s.chn.calAt.isSome = true ∨ s.flag F.TRG_STATUS_CAL_BUSY = true)) ∧
  (∃ (s : State) (k : Nat), s.chn.calAt = some k ∧ k ≤ s.now ∧ s.flag F.TRG_STATUS_CAL_BUSY = false ∧ chnAligned s = true) ∧
  (∃ (s : State) (sums : List Int) (k : Nat), s.chn.calAt = some k ∧ k + 32768 ≤ s.now ∧ s.flag F.TRG_STATUS_CAL_BUSY = true ∧ s.chn.calibrating = true
    ∧ chnFollows s = true ∧ ((∀ l : Fin 8, 0 ≤ roundDiv (sums.getD l 0) 256 ∧ roundDiv (sums.getD l 0) 256 ≤ 40000))) := 
  ⟨⟨({ (modChn (State.reset) (fun c => { c with epoch := some 16777216 })) with beat := 16777216 }), 16777216, by decide +kernel⟩,
   ⟨State.reset, by decide +kernel⟩,
   ⟨((State.reset.setFld F.CHN_CFG_ROLE 3)), by decide +kernel⟩,
   ⟨State.reset, by decide +kernel⟩,
   ⟨((State.reset.setFlag F.TRG_LINE_EN true 7)), 7, by decide +kernel⟩,
   ⟨((modTrg (State.reset.setFlag F.TRG_LINE_EN true 7) (fun t => { t with stamps := [(7, 0)] }))), 7, 1999, ((7, 0)), by decide +kernel⟩,
   ⟨({ (modTrg (State.reset.setFlag F.TRG_LINE_EN true 7) (fun t => { t with pending := [{ line := 7, stamp := 0, b := 0, level := true }] })) with now := 16 }),
    7, by decide +kernel⟩,
   ⟨State.reset, by decide +kernel⟩,
   ⟨((State.reset.setFld F.CHN_CFG_ROLE 2)), by decide +kernel⟩,
   ⟨((modChn ((locked State.reset)) (fun c => { c with calAt := some 0 }))), 0, by decide +kernel⟩,
   ⟨({ (modChn (((State.reset.setFld F.CHN_CFG_ROLE 2).setFlag F.TRG_STATUS_CAL_BUSY true)) (fun c => { c with calAt := some 0, calibrating := true })) with now := 32768 }),
    (List.replicate 8 10240000), 0, by decide +kernel⟩⟩

theorem witness_FabricLinks :
  (∃ (s : State) (p : Fin 4) (b : TrainBlock), s.ktlState p = 1 ∧ b.checkOk = true ∧ b.uid.toNat = ownUid s) ∧
  (∃ (s : State) (p : Fin 4) (b : TrainBlock), s.ktlState p = 1 ∧ b.checkOk = true ∧ b.uid.toNat ≠ ownUid s ∧ (s.port p).lane1 = none) ∧
  (∃ (s : State) (p : Fin 4) (x : TrainBlock) (y : TrainBlock), s.ktlState p = 1 ∧ ktlMayTrain s p = true ∧ (s.port p).lane0 = some x ∧ (s.port p).lane1
    = some y ∧ x.tstate = 2 ∧ y.tstate = 2) ∧
  (∃ (s : State) (p : Fin 4) (cause : BitVec 3), s.ktlUp p = true ∧ downCause s p cause.toNat = true ∧ cause.toNat ≠ 4 ∧ cause.toNat ≠ 5) ∧
  (∃ (s : State) (p : Fin 4), ktlMayTrain s p = true ∧ s.ktlState p = 3 ∧ 250000 ≤ s.now - (s.port p).since) ∧
  (∃ (s : State) (p : Fin 4), s.ktlCarries p = true) ∧
  (∃ (s : State) (p : Fin 4) (e : Nat), s.ktlUp p = true ∧ 5 < e) ∧
  (∃ (s : State) (p : Fin 4) (f : KtlFlit) (e : Nat), s.ktlUp p = true ∧ e ≤ 5 ∧ payloadTooLong f.payload = false ∧ f.payload ≠ .none_ ∧ (f.seq.toNat +
    4096 - (s.port p).rxSeq) % 4096 = 1) ∧
  (∃ (s : State) (word : BitVec 64), (s.ktl.noticeSeen.at (bitsAt word.toNat 0 10) = 0 ∨ (1 ≤ (bitsAt word.toNat 13 8 + 256 - (s.ktl.noticeSeen.at
    (bitsAt word.toNat 0 10) - 1)) % 256 ∧ (bitsAt word.toNat 13 8 + 256 - (s.ktl.noticeSeen.at (bitsAt word.toNat 0 10) - 1)) % 256 < 128))) ∧
  (∃ (s : State) (word : BitVec 64), s.ktl.noticeSeen.at (bitsAt word.toNat 0 10) = bitsAt word.toNat 13 8 + 1) := 
  ⟨⟨((({ State.reset with regs := [(⟨.KTL_UID_LO, 0, 0, 0, 0⟩, 9), (⟨.KTL_UID_HI, 0, 0, 0, 0⟩, 0)] }).setFld F.KTL_PORT_STATUS_STATE 1 3)), 3,
    ({ ({ lane := 0, port := 1, uid := 9, id := 5, idValid := true, tstate := 2, joining := false, inverted := true, check := 0 } : TrainBlock) with check := BitVec.ofNat 8 ({ lane := 0, port := 1, uid := 9, id := 5, idValid := true, tstate := 2, joining := false, inverted := true, check := 0 } : TrainBlock).crc }),
    by decide +kernel⟩,
   ⟨((({ State.reset with regs := [(⟨.KTL_UID_LO, 0, 0, 0, 0⟩, 9), (⟨.KTL_UID_HI, 0, 0, 0, 0⟩, 0)] }).setFld F.KTL_PORT_STATUS_STATE 1 3)), 3,
    ({ ({ lane := 0, port := 1, uid := 77, id := 5, idValid := true, tstate := 2, joining := false, inverted := true, check := 0 } : TrainBlock) with check := BitVec.ofNat 8 ({ lane := 0, port := 1, uid := 77, id := 5, idValid := true, tstate := 2, joining := false, inverted := true, check := 0 } : TrainBlock).crc }),
    by decide +kernel⟩,
   ⟨(((((State.reset.setFlag F.KTL_PORT_CFG_EN true 3).setFld F.PWR_DOM_STATE 0 38).modPort 3 (fun x =>
    { x with lane0 := some { lane := 0, port := 1, uid := 77, id := 5, idValid := true, tstate := 2, joining := false, inverted := true, check := 0 }, lane1 := some { lane := 1, port := 1, uid := 77, id := 5, idValid := true, tstate := 2, joining := false, inverted := true, check := 0 } })).setFld
    F.KTL_PORT_STATUS_STATE 1 3)), 3,
    ({ lane := 0, port := 1, uid := 77, id := 5, idValid := true, tstate := 2, joining := false, inverted := true, check := 0 }),
    ({ lane := 1, port := 1, uid := 77, id := 5, idValid := true, tstate := 2, joining := false, inverted := true, check := 0 }), by decide +kernel⟩,
   ⟨((((State.reset).modPort 3 (fun x => { x with express := [5] })).setFld F.KTL_PORT_STATUS_STATE 2 3)), 3, 1, by decide +kernel⟩,
   ⟨({ (((State.reset.setFlag F.KTL_PORT_CFG_EN true 3).setFld F.PWR_DOM_STATE 0 38).setFld F.KTL_PORT_STATUS_STATE 3 3) with now := 250000 }), 3,
    by decide +kernel⟩,
   ⟨((((State.reset).modPort 3 (fun x => { x with express := [5, 6, 7], nak := true })).setFld F.KTL_PORT_STATUS_STATE 2 3)), 3, by decide +kernel⟩,
   ⟨((State.reset.setFld F.KTL_PORT_STATUS_STATE 2 3)), 3, 6, by decide +kernel⟩,
   ⟨((State.reset.setFld F.KTL_PORT_STATUS_STATE 2 3)), 3,
    ({ payload := .part false true true [1], seq := 1, ack := 0, nak := false, crvc := 0, credits := 0, slot0 := none, slot1 := none, srcDev := 5, srcValid := true, srcPort := 2 }),
    5, by decide +kernel⟩,
   ⟨State.reset, (noticeWord 9 2 false 200), by decide +kernel⟩,
   ⟨((modKtl (State.reset) (fun x => { x with noticeSeen := (NMap.to [] 9 201) }))), (noticeWord 9 2 false 200), by decide +kernel⟩⟩

theorem witness_FabricMembership :
  (∃ (s : State), s.flag F.KTL_CFG_ROOT_EN = true ∧ chnAligned s = true ∧ (s.flag F.KTL_ID_VALID = false ∨ s.flag F.KTL_STATUS_ROOT = true)) ∧
  (∃ (s : State), chnAligned s = true ∧ ktlMember s ≠ 1) ∧
  (∃ (s : State), s.flag F.KTL_STATUS_ROOT = true) ∧
  (∃ (s : State) (tp : Topology), chnAligned s = true ∧ s.ktl.topo ≠ tp ∧ (s.ktl.shadow.any (fun x => decide (x.1 = tp)) = false) ∧ s.beat ≤ tp.commit) ∧
  (∃ (s : State) (tp : Topology) (due : Nat) (me : TopoMember), s.ktl.shadow = some (tp, due) ∧ due ≤ s.now ∧ (tp.members.find? (fun m => m.uid = ownUid
    s) = some me) ∧ me.id < 1024) ∧
  (∃ (s : State), ktlMember s ≠ 3) ∧
  (∃ (s : State) (q : Fin 4), s.flag F.KTL_STATUS_ROOT = false ∧ s.ktl.parent = q.val ∧ s.ktlUp q = true) ∧
  (∃ (s : State) (r : BitVec 10), s.flag F.KTL_STATUS_ROOT = true ∧ ((nextTopo s).members.find? (fun m => m.id = r.toNat) = none)) ∧
  (∃ (s : State) (p : Fin 4), s.ktlUp p = false) ∧
  (∃ (s : State) (p : Fin 4), s.ktlCarries p = true ∧ 250000 ≤ s.now - (s.port p).upSince) ∧
  (∃ (s : State) (p : Fin 4) (k : KtlPacket), (p.val, k) ∈ s.ktl.inPackets ∧ k.dest.toNat = s.ownId ∧ k.kind = 4) ∧
  (∃ (s : State) (p : Fin 4) (k : KtlPacket), (p.val, k) ∈ s.ktl.inPackets ∧ k.dest.toNat ≠ s.ownId ∧ k.kind.toNat ≤ 6 ∧ 2 ≤ k.ttl.toNat ∧ (packetPort s
    k.dest.toNat k.down).1 = 4) := 
  ⟨⟨((locked (State.reset.setFlag F.KTL_CFG_ROOT_EN true))), by decide +kernel⟩,
   ⟨((locked State.reset)), by decide +kernel⟩,
   ⟨((State.reset.setFlag F.KTL_STATUS_ROOT true)), by decide +kernel⟩,
   ⟨((locked State.reset)), ({ members := [⟨5, 7, 0⟩], links := [], commit := 9 }), by decide +kernel⟩,
   ⟨((modKtl ({ State.reset with regs := [(⟨.KTL_UID_LO, 0, 0, 0, 0⟩, 9), (⟨.KTL_UID_HI, 0, 0, 0, 0⟩, 0)] }) (fun x =>
    { x with shadow := some ({ members := [⟨9, 7, 0⟩], links := [], commit := 9 }, 0) }))), ({ members := [⟨9, 7, 0⟩], links := [], commit := 9 }), 0,
    (⟨9, 7, 0⟩), by decide +kernel⟩,
   ⟨State.reset, by decide +kernel⟩,
   ⟨(((modKtl (State.reset) (fun x => { x with parent := 3 })).setFld F.KTL_PORT_STATUS_STATE 2 3)), 3, by decide +kernel⟩,
   ⟨((State.reset.setFlag F.KTL_STATUS_ROOT true)), 1023, by decide +kernel⟩,
   ⟨State.reset, 3, by decide +kernel⟩,
   ⟨({ (State.reset.setFld F.KTL_PORT_STATUS_STATE 2 3) with now := 250000 }), 3, by decide +kernel⟩,
   ⟨((modKtl (State.reset) (fun x =>
    { x with inPackets := [(3, { bulk := false, dest := 0, src := 3, kind := 4, ttl := 9, down := false, tag := 0, addr := 0x8, len := 4, status := 0, data := [] })] }))),
    3, ({ bulk := false, dest := 0, src := 3, kind := 4, ttl := 9, down := false, tag := 0, addr := 0x8, len := 4, status := 0, data := [] }),
    by decide +kernel⟩,
   ⟨((modKtl (State.reset.setFld F.KTL_RT_PPRI 4 99) (fun x =>
    { x with inPackets := [(3, { bulk := false, dest := 99, src := 3, kind := 0, ttl := 9, down := false, tag := 0, addr := 0x8, len := 4, status := 0, data := [] })] }))),
    3, ({ bulk := false, dest := 99, src := 3, kind := 0, ttl := 9, down := false, tag := 0, addr := 0x8, len := 4, status := 0, data := [] }),
    by decide +kernel⟩⟩

theorem witness_FabricBarriers :
  (∃ (s : State) (b : BitVec 8), s.barOk b.toNat = true ∧ s.fld F.KTL_BAR_STATE_PHASE b.toNat = 0 ∧ barFull s b.toNat = true ∧ s.barRoot b.toNat = true) ∧
  (∃ (s : State) (b : BitVec 8), s.barOk b.toNat = true ∧ s.fld F.KTL_BAR_STATE_PHASE b.toNat = 0 ∧ barFull s b.toNat = true ∧ s.barRoot b.toNat =
    false) ∧
  (∃ (s : State) (p : Fin 4) (word : BitVec 64), barMessage s word.toNat = true ∧ bitsAt word.toNat 8 2 = 0 ∧ p.val ∈ s.barChildren (bitsAt word.toNat 0
    8)) ∧
  (∃ (s : State) (p : Fin 4) (word : BitVec 64), barMessage s word.toNat = true ∧ bitsAt word.toNat 8 2 = 1 ∧ p.val = s.fld F.KTL_BAR_CFG_PARENT (bitsAt
    word.toNat 0 8) ∧ s.barHeld (bitsAt word.toNat 0 8) = none ∧ 0 ≤ dueOffset s (bitsAt word.toNat 18 24)) ∧
  (∃ (s : State) (p : Fin 4) (word : BitVec 64), barMessage s word.toNat = true ∧ bitsAt word.toNat 8 2 = 2 ∧ p.val = s.fld F.KTL_BAR_CFG_PARENT (bitsAt
    word.toNat 0 8) ∧ s.barHeld (bitsAt word.toNat 0 8) = none ∧ 0 ≤ dueOffset s (bitsAt word.toNat 18 24)) ∧
  (∃ (s : State) (b : BitVec 8) (h : BarrierHold), s.rpl.replaying = false ∧ s.barHeld b.toNat = some h ∧ h.due ≤ s.now) := 
  ⟨⟨(((((State.reset.setFlag F.KTL_BAR_CFG_VALID true 200).setFld F.KTL_BAR_CFG_SLICES 5 200)).setFld F.KTL_BAR_CFG_PARENT 4 200).setFld
    F.KTL_BAR_STATE_ARRIVED 5 200), 200, by decide +kernel⟩,
   ⟨(((((State.reset.setFlag F.KTL_BAR_CFG_VALID true 200).setFld F.KTL_BAR_CFG_SLICES 5 200)).setFld F.KTL_BAR_CFG_PARENT 1 200).setFld
    F.KTL_BAR_STATE_ARRIVED 5 200), 200, by decide +kernel⟩,
   ⟨(((((State.reset.setFlag F.KTL_BAR_CFG_VALID true 200).setFld F.KTL_BAR_CFG_SLICES 5 200).setFld F.KTL_BAR_CFG_CHILD 8 200).setFld
    F.KTL_BAR_CFG_PARENT 4 200)), 3, (barWord 200 0 0 0), by decide +kernel⟩,
   ⟨(((((State.reset.setFlag F.KTL_BAR_CFG_VALID true 200).setFld F.KTL_BAR_CFG_SLICES 5 200)).setFld F.KTL_BAR_CFG_PARENT 3 200)), 3, (barWord 200 1 0
    40), by decide +kernel⟩,
   ⟨(((((State.reset.setFlag F.KTL_BAR_CFG_VALID true 200).setFld F.KTL_BAR_CFG_SLICES 5 200)).setFld F.KTL_BAR_CFG_PARENT 3 200)), 3, (barWord 200 2 0
    40), by decide +kernel⟩,
   ⟨((modKtl (State.reset.setFld F.KTL_BAR_STATE_GEN 255 200) (fun x => { x with barriers := [⟨200, 0, false, false⟩] }))), 200, (⟨200, 0, false,
    false⟩), by decide +kernel⟩⟩

theorem witness_HostLinksAndTime_a :
  (∃ (s : State) (p : Fin 2), hostMayTrain s p = true ∧ s.hostUp p = false) ∧
  (∃ (s : State) (p : Fin 2), s.hostUp p = true) ∧
  (∃ (s : State) (p : Fin 2) (f : HostFrame) (dest : IpAddr) (udp : BitVec 16) (k : CtpPacket), s.hostUp p = true ∧ hostFrameOk s p f = true ∧ f.payload
    = .ctp dest udp k ∧ hostOwnIp s p dest = true ∧ udp.toNat = ctpPort s p k ∧ ctpFrameLen f dest k.data.length ≤ hostFrameMax s p ∧ ctpTypeOk k =
    true) ∧
  (∃ (s : State) (p : Fin 2) (f : HostFrame), s.hostUp p = true ∧ hostFrameOk s p f = false) ∧
  (∃ (s : State) (p : Fin 2) (k : CtpPacket), ctpWaits s p k 0 = true ∧ 64 ≤ k.info.toNat ∧ s.session p ≠ 1) ∧
  (∃ (s : State) (p : Fin 2) (k : CtpPacket), ctpWaits s p k 0 = true ∧ k.info.toNat < 64) ∧
  (∃ (s : State) (p : Fin 2) (k : CtpPacket), ctpInOrder s p k 10 = true) ∧
  (∃ (s : State) (p : Fin 2) (k : CtpPacket), ctpWaits s p k 7 = true ∧ ctpFromPeer s p k = true ∧ k.nak = false) ∧
  (∃ (s : State) (p : Fin 2) (e : KeptPacket) (l : List KeptPacket), (s.hp p).kept = e :: l ∧ s.session p = 1 ∧ e.at_ + ctpRtoTicks s p ≤ s.now ∧
    s.hostUp p = true ∧ (s.hp p).retries < ctpMaxRetry s p) ∧
  (∃ (s : State) (p : Fin 2) (k : Nat), (s.hp p).ackSince = some k ∧ s.session p = 1 ∧ k + 1000 ≤ s.now ∧ s.hostUp p = true) ∧
  (∃ (s : State) (p : Fin 2), p.val = s.fld F.EVT_CFG_PORT ∧ s.flag F.EVT_CFG_SEND = true ∧ s.session p = 1 ∧ s.evt.queue ≠ []) ∧
  (∃ (s : State) (e : EventRecord) (l : List EventRecord), s.evt.queue = e :: l) := 
  ⟨⟨(((locked (State.reset.setFlag F.HST_PORT_CFG_EN true 1)).setFld F.PWR_DOM_STATE 0 34)), 1, by decide +kernel⟩,
   ⟨((State.reset.setFld F.HST_PORT_STATUS_LINK 2 1)), 1, by decide +kernel⟩,
   ⟨(((locked ((({ State.reset with regs := [(⟨.HST_MAC_LO, 1, 0, 0, 0⟩, 1), (⟨.HST_MAC_HI, 1, 0, 0, 0⟩, 0)] }.setFld F.HST_PORT_STATUS_LINK 2 1)).wr
    .HST_IP4 1 1)).setFld F.CTP_CFG_UDP_PORT 9 1)), 1,
    ({ dest := 0xFFFFFFFFFFFF, vlan := none, fcsOk := true, corrected := 2, uncorrectable := 0, payload := .ctp (.v4 1) 9 { peer := ⟨.v4 0, 0⟩, ver := 1, kind := 2, sop := true, eop := true, loc := true, fixed := false, tag := 5, psn := 1, ack := 0, nak := false, limit := 0, addr := 0, len := 4, status := 0, offset := 0, info := 0, data := [] } }),
    (.v4 1), 9,
    ({ peer := ⟨.v4 0, 0⟩, ver := 1, kind := 2, sop := true, eop := true, loc := true, fixed := false, tag := 5, psn := 1, ack := 0, nak := false, limit := 0, addr := 0, len := 4, status := 0, offset := 0, info := 0, data := [] }),
    by decide +kernel⟩,
   ⟨((locked ((({ State.reset with regs := [(⟨.HST_MAC_LO, 1, 0, 0, 0⟩, 1), (⟨.HST_MAC_HI, 1, 0, 0, 0⟩, 0)] }.setFld F.HST_PORT_STATUS_LINK 2 1)).wr
    .HST_IP4 1 1))), 1, ({ dest := 0xFFFFFFFFFFFF, vlan := none, fcsOk := false, corrected := 2, uncorrectable := 0, payload := .other }),
    by decide +kernel⟩,
   ⟨(((State.reset).modHost 1 (fun x =>
    { x with inbox := [{ peer := ⟨.v4 0, 0⟩, ver := 1, kind := 0, sop := true, eop := true, loc := true, fixed := false, tag := 5, psn := 1, ack := 0, nak := false, limit := 999, addr := 0, len := 4, status := 0, offset := 0, info := 64, data := [] }] }))),
    1,
    ({ peer := ⟨.v4 0, 0⟩, ver := 1, kind := 0, sop := true, eop := true, loc := true, fixed := false, tag := 5, psn := 1, ack := 0, nak := false, limit := 999, addr := 0, len := 4, status := 0, offset := 0, info := 64, data := [] }),
    by decide +kernel⟩,
   ⟨((((State.reset.setFld F.CTP_STATUS_SESSION 1 1)).modHost 1 (fun x =>
    { x with inbox := [{ peer := ⟨.v4 0, 0⟩, ver := 1, kind := 0, sop := true, eop := true, loc := true, fixed := false, tag := 5, psn := 1, ack := 0, nak := false, limit := 0, addr := 0, len := 4, status := 0, offset := 0, info := 63, data := [] }] }))),
    1,
    ({ peer := ⟨.v4 0, 0⟩, ver := 1, kind := 0, sop := true, eop := true, loc := true, fixed := false, tag := 5, psn := 1, ack := 0, nak := false, limit := 0, addr := 0, len := 4, status := 0, offset := 0, info := 63, data := [] }),
    by decide +kernel⟩,
   ⟨((((State.reset.setFld F.CTP_STATUS_SESSION 1 1)).modHost 1 (fun x =>
    { x with inbox := [{ peer := ⟨.v4 0, 0⟩, ver := 1, kind := 10, sop := true, eop := true, loc := true, fixed := false, tag := 5, psn := 1, ack := 0, nak := false, limit := 0, addr := 0, len := 4, status := 0, offset := 0, info := 0, data := [] }] }))),
    1,
    ({ peer := ⟨.v4 0, 0⟩, ver := 1, kind := 10, sop := true, eop := true, loc := true, fixed := false, tag := 5, psn := 1, ack := 0, nak := false, limit := 0, addr := 0, len := 4, status := 0, offset := 0, info := 0, data := [] }),
    by decide +kernel⟩,
   ⟨((((State.reset.setFld F.CTP_STATUS_SESSION 1 1)).modHost 1 (fun x =>
    { x with inbox := [{ peer := ⟨.v4 0, 0⟩, ver := 1, kind := 7, sop := true, eop := true, loc := true, fixed := false, tag := 5, psn := 1, ack := 0, nak := false, limit := 9, addr := 0, len := 4, status := 0, offset := 0, info := 0, data := [] }] }))),
    1,
    ({ peer := ⟨.v4 0, 0⟩, ver := 1, kind := 7, sop := true, eop := true, loc := true, fixed := false, tag := 5, psn := 1, ack := 0, nak := false, limit := 9, addr := 0, len := 4, status := 0, offset := 0, info := 0, data := [] }),
    by decide +kernel⟩,
   ⟨({ ((((State.reset.setFld F.CTP_STATUS_SESSION 1 1).setFld F.HST_PORT_STATUS_LINK 2 1)).modHost 1 (fun x => { x with kept := [⟨{ peer := ⟨.v4 0, 0⟩, ver := 1, kind := 1, sop := true, eop := true, loc := true, fixed := false, tag := 5, psn := 1, ack := 0, nak := false, limit := 0, addr := 0, len := 4, status := 0, offset := 0, info := 0, data := [] }, 0⟩] })) with now := 1000000000 }),
    1,
    (⟨{ peer := ⟨.v4 0, 0⟩, ver := 1, kind := 1, sop := true, eop := true, loc := true, fixed := false, tag := 5, psn := 1, ack := 0, nak := false, limit := 0, addr := 0, len := 4, status := 0, offset := 0, info := 0, data := [] },
    0⟩), ([]), by decide +kernel⟩,
   ⟨({ ((((State.reset.setFld F.CTP_STATUS_SESSION 1 1).setFld F.HST_PORT_STATUS_LINK 2 1)).modHost 1 (fun x => { x with ackSince := some 0 })) with now := 1000 }),
    1, 0, by decide +kernel⟩,
   ⟨({ (((State.reset.setFld F.CTP_STATUS_SESSION 1 1).setFlag F.EVT_CFG_SEND true).setFld F.EVT_CFG_PORT 1) with evt := { State.reset.evt with queue := [{ code := 7, src := 3, index := 9, beat := 5, data := 11 }] } }),
    1, by decide +kernel⟩,
   ⟨({ State.reset with evt := { State.reset.evt with queue := [{ code := 7, src := 3, index := 9, beat := 5, data := 11 }] } }),
    ({ code := 7, src := 3, index := 9, beat := 5, data := 11 }), ([]), by decide +kernel⟩⟩

theorem witness_HostLinksAndTime_b :
  (∃ (s : State), s.beat < 2 ^ 64 ∧ s.tod.time < 2 ^ 64 * todSecond) ∧
  (∃ (s : State) (p : Fin 2), s.flag F.HST_PTP_CFG_EN = true ∧ s.fld F.HST_PTP_CFG_PORT = p.val ∧ s.hostUp p = true) ∧
  (∃ (s : State) (p : Fin 2), s.flag F.HST_PTP_CFG_EN = true ∧ s.fld F.HST_PTP_CFG_PORT = p.val ∧ s.hostUp p = true) := 
  ⟨⟨State.reset, by decide +kernel⟩,
   ⟨((((State.reset.setFld F.HST_PORT_STATUS_LINK 2 1).setFlag F.HST_PTP_CFG_EN true).setFld F.HST_PTP_CFG_PORT 1)), 1, by decide +kernel⟩,
   ⟨((((State.reset.setFld F.HST_PORT_STATUS_LINK 2 1).setFlag F.HST_PTP_CFG_EN true).setFld F.HST_PTP_CFG_PORT 1)), 1, by decide +kernel⟩⟩

theorem witness_HostRequests :
  (∃ (s : State) (p : Fin 2) (k : CtpPacket), ctpNewRequest s p k 2 = true ∧ ctpTarget s k = some none ∧ requestStatus s 2 (k.addr.toNat % 2 ^ 40)
    k.len.toNat k.fixed k.data.length = 0) ∧
  (∃ (s : State) (p : Fin 2) (k : CtpPacket) (v : BitVec 32) (key : RegKey), ctpNewRequest s p k 3 = true ∧ ctpTarget s k = some none ∧ requestStatus s
    3 (k.addr.toNat % 2 ^ 40) k.len.toNat k.fixed k.data.length = 0 ∧ bytesToWords k.data = [v.toNat] ∧ regAt (k.addr.toNat % 2 ^ 40) = some key ∧
    key.reg ∈ ([.SEQ_LCOUNT, .SEQ_LIM_LO, .SEQ_LIM_HI, .GLB_IMG_LEN, .GLB_IMG_SRC, .FLT_INJECT_IDX, .RPL_RING_BASE] : List Reg) ∧ (s.heldBits key
    v.toNat).1 = 0 ∧ s.rplState ≠ 2) ∧
  (∃ (s : State) (p : Fin 2) (k : CtpPacket), ctpNewRequest s p k 4 = true ∧ ctpTarget s k = some none ∧ requestStatus s 4 (k.addr.toNat % 2 ^ 40)
    k.len.toNat k.fixed k.data.length = 0) ∧
  (∃ (s : State) (p : Fin 2) (k : CtpPacket) (r : Region) (o : Nat) (id : StoreId), ctpNewRequest s p k 5 = true ∧ ctpTarget s k = some none ∧
    requestStatus s 5 (k.addr.toNat % 2 ^ 40) k.len.toNat k.fixed k.data.length = 0 ∧ rangeIn (k.addr.toNat % 2 ^ 40) k.len.toNat = some (r, o) ∧
    r.storeId = some id ∧ (s.store id).double = [] ∧ s.flt.inject = none) ∧
  (∃ (s : State) (p : Fin 2) (j : CtpJob), (s.hp p).jobs = [j] ∧ j.executed = true ∧ j.kind ≠ 8 ∧ j.reply.length - j.sent ≤ ctpDataMax s p ∧ ctpMaySend
    s p (j.reply.length - j.sent) = true) ∧
  (∃ (s : State) (k : KtlPacket) (j : CtpJob) (part : Nat × Nat), k.kind = 4 ∧ k.dest.toNat = s.ownId ∧ ((s.ktl.inPackets.any (fun e => decide (e.2 =
    k))) = true) ∧ k.tag.toNat < 512 ∧ k.status = 0 ∧ (s.hp 0).jobs = [j] ∧ j.dev = some k.src.toNat ∧ j.tag = k.tag.toNat ∧ (j.accesses && j.started
    && !j.executed) = true ∧ j.missing = [part] ∧ j.unsent = [] ∧ (j.addr + if j.fixed then 0 else part.1) % 2 ^ 40 = k.addr.toNat) ∧
  (∃ (s : State) (p : Fin 2) (tag : BitVec 9) (j : CtpJob), (s.hp p).jobs = [j] ∧ j.dev.isSome = true ∧ j.tag = tag.toNat ∧ j.started = true ∧
    j.executed = false ∧ j.askedAt + max 1 (s.fld F.CTP_TUNNEL_TMO_TMO) * 25000 ≤ s.now) ∧
  (∃ (s : State) (p : Fin 2) (k : CtpPacket), ctpNewRequest s p k 9 = true ∧ ctpTarget s k = some none ∧ k.data.length = 8 ∧ numAt k.data 0 2 = 1) ∧
  (∃ (s : State) (p : Fin 2) (k : CtpPacket), ctpNewRequest s p k 9 = true ∧ ctpTarget s k = some none ∧ k.data.length = 8 ∧ numAt k.data 0 2 = 2 ∧
    s.flag F.MGT_STATUS_SHED = false ∧ coresRunning s = true ∧ s.mgt.swapAt = none) ∧
  (∃ (s : State) (p : Fin 2) (k : CtpPacket), ctpNewRequest s p k 9 = true ∧ ctpTarget s k = some none ∧ k.data.length = 8 ∧ numAt k.data 0 2 = 3 ∧
    s.flag F.MGT_STATUS_SHED = false) ∧
  (∃ (s : State) (p : Fin 2) (k : CtpPacket), ctpNewRequest s p k 9 = true ∧ ctpTarget s k = some none ∧ k.data.length = 8 ∧ numAt k.data 0 2 = 4 ∧
    s.flag F.MGT_STATUS_SHED = false) := 
  ⟨⟨((((State.reset.setFld F.CTP_STATUS_SESSION 1 1)).modHost 1 (fun x =>
    { x with inbox := [{ peer := ⟨.v4 0, 0⟩, ver := 1, kind := 2, sop := true, eop := true, loc := true, fixed := false, tag := 5, psn := 1, ack := 0, nak := false, limit := 0, addr := 0x30, len := 4, status := 0, offset := 0, info := 0, data := [] }] }))),
    1,
    ({ peer := ⟨.v4 0, 0⟩, ver := 1, kind := 2, sop := true, eop := true, loc := true, fixed := false, tag := 5, psn := 1, ack := 0, nak := false, limit := 0, addr := 0x30, len := 4, status := 0, offset := 0, info := 0, data := [] }),
    by decide +kernel⟩,
   ⟨((((State.reset.setFld F.CTP_STATUS_SESSION 1 1)).modHost 1 (fun x =>
    { x with inbox := [{ peer := ⟨.v4 0, 0⟩, ver := 1, kind := 3, sop := true, eop := true, loc := true, fixed := false, tag := 5, psn := 1, ack := 0, nak := false, limit := 0, addr := BitVec.ofNat 50 (RegKey.address ⟨.SEQ_LIM_LO, 3, 15, 0, 0⟩), len := 4, status := 0, offset := 0, info := 0, data := [5, 0, 0, 0] }] }))),
    1,
    ({ peer := ⟨.v4 0, 0⟩, ver := 1, kind := 3, sop := true, eop := true, loc := true, fixed := false, tag := 5, psn := 1, ack := 0, nak := false, limit := 0, addr := BitVec.ofNat 50 (RegKey.address ⟨.SEQ_LIM_LO, 3, 15, 0, 0⟩), len := 4, status := 0, offset := 0, info := 0, data := [5, 0, 0, 0] }),
    5, (⟨.SEQ_LIM_LO, 3, 15, 0, 0⟩), by decide +kernel⟩,
   ⟨(((((State.reset.setFld F.CTP_STATUS_SESSION 1 1).setFld F.SLC_STORE_PWR_STATE 0 0)).modHost 1 (fun x =>
    { x with inbox := [{ peer := ⟨.v4 0, 0⟩, ver := 1, kind := 4, sop := true, eop := true, loc := true, fixed := false, tag := 5, psn := 1, ack := 0, nak := false, limit := 0, addr := 0x100000000, len := 9, status := 0, offset := 0, info := 0, data := [] }] }))),
    1,
    ({ peer := ⟨.v4 0, 0⟩, ver := 1, kind := 4, sop := true, eop := true, loc := true, fixed := false, tag := 5, psn := 1, ack := 0, nak := false, limit := 0, addr := 0x100000000, len := 9, status := 0, offset := 0, info := 0, data := [] }),
    by decide +kernel⟩,
   ⟨(((((State.reset.setFld F.CTP_STATUS_SESSION 1 1).setFld F.SLC_STORE_PWR_STATE 0 0)).modHost 1 (fun x =>
    { x with inbox := [{ peer := ⟨.v4 0, 0⟩, ver := 1, kind := 5, sop := true, eop := true, loc := true, fixed := false, tag := 5, psn := 1, ack := 0, nak := false, limit := 0, addr := 0x10000007F, len := 3, status := 0, offset := 0, info := 0, data := [1, 2, 3] }] }))),
    1,
    ({ peer := ⟨.v4 0, 0⟩, ver := 1, kind := 5, sop := true, eop := true, loc := true, fixed := false, tag := 5, psn := 1, ack := 0, nak := false, limit := 0, addr := 0x10000007F, len := 3, status := 0, offset := 0, info := 0, data := [1, 2, 3] }),
    (.sliceStore 0), 0x7F, (.slice 0), by decide +kernel⟩,
   ⟨(((((State.reset.setFld F.CTP_STATUS_SESSION 1 1).setFld F.HST_PORT_STATUS_LINK 2 1)).modHost 1 (fun x =>
    { x with jobs := [{ CtpJob.ready 2 5 [1, 2, 3, 4] with executed := true }], limit := 5 }))), 1,
    ({ CtpJob.ready 2 5 [1, 2, 3, 4] with executed := true }), by decide +kernel⟩,
   ⟨((modKtl (State.reset.modHost 0 (fun x =>
    { x with jobs := [{ CtpJob.ready 2 5 [0, 0, 0, 0] with dev := some 3, addr := 8, len := 4, executed := false, missing := [(0, 4)] }] })) (fun x =>
    { x with inPackets := [(4, { bulk := false, dest := 0, src := 3, kind := 4, ttl := 9, down := false, tag := 5, addr := 8, len := 4, status := 0, data := [9, 8, 7, 6] })] }))),
    ({ bulk := false, dest := 0, src := 3, kind := 4, ttl := 9, down := false, tag := 5, addr := 8, len := 4, status := 0, data := [9, 8, 7, 6] }),
    ({ CtpJob.ready 2 5 [0, 0, 0, 0] with dev := some 3, addr := 8, len := 4, executed := false, missing := [(0, 4)] }), ((0, 4)), by decide +kernel⟩,
   ⟨({ ((State.reset).modHost 1 (fun x => { x with jobs := [{ CtpJob.ready 2 5 [0, 0, 0, 0] with dev := some 3, addr := 8, len := 4, executed := false, missing := [(0, 4)] }] })) with now := 10000000000 }),
    1, 5, ({ CtpJob.ready 2 5 [0, 0, 0, 0] with dev := some 3, addr := 8, len := 4, executed := false, missing := [(0, 4)] }), by decide +kernel⟩,
   ⟨((((State.reset.setFld F.CTP_STATUS_SESSION 1 1)).modHost 1 (fun x =>
    { x with inbox := [{ peer := ⟨.v4 0, 0⟩, ver := 1, kind := 9, sop := true, eop := true, loc := true, fixed := false, tag := 5, psn := 1, ack := 0, nak := false, limit := 0, addr := 0, len := 4, status := 0, offset := 0, info := 0, data := [1, 0, 0, 0, 0, 0, 0, 0] }] }))),
    1,
    ({ peer := ⟨.v4 0, 0⟩, ver := 1, kind := 9, sop := true, eop := true, loc := true, fixed := false, tag := 5, psn := 1, ack := 0, nak := false, limit := 0, addr := 0, len := 4, status := 0, offset := 0, info := 0, data := [1, 0, 0, 0, 0, 0, 0, 0] }),
    by decide +kernel⟩,
   ⟨((((((State.reset.setFld F.CTP_STATUS_SESSION 1 1).setFld F.MGT_STATUS_CORES 15).setFlag F.MGT_STATUS_SHED false)).modHost 1 (fun x =>
    { x with inbox := [{ peer := ⟨.v4 0, 0⟩, ver := 1, kind := 9, sop := true, eop := true, loc := true, fixed := false, tag := 5, psn := 1, ack := 0, nak := false, limit := 0, addr := 0, len := 4, status := 0, offset := 0, info := 0, data := [2, 0, 0, 0, 0, 0, 0, 0] }] }))),
    1,
    ({ peer := ⟨.v4 0, 0⟩, ver := 1, kind := 9, sop := true, eop := true, loc := true, fixed := false, tag := 5, psn := 1, ack := 0, nak := false, limit := 0, addr := 0, len := 4, status := 0, offset := 0, info := 0, data := [2, 0, 0, 0, 0, 0, 0, 0] }),
    by decide +kernel⟩,
   ⟨(((((State.reset.setFld F.CTP_STATUS_SESSION 1 1).setFlag F.MGT_STATUS_SHED false)).modHost 1 (fun x =>
    { x with inbox := [{ peer := ⟨.v4 0, 0⟩, ver := 1, kind := 9, sop := true, eop := true, loc := true, fixed := false, tag := 5, psn := 1, ack := 0, nak := false, limit := 0, addr := 0, len := 4, status := 0, offset := 0, info := 0, data := [3, 0, 0, 0, 0, 0, 0, 0] }] }))),
    1,
    ({ peer := ⟨.v4 0, 0⟩, ver := 1, kind := 9, sop := true, eop := true, loc := true, fixed := false, tag := 5, psn := 1, ack := 0, nak := false, limit := 0, addr := 0, len := 4, status := 0, offset := 0, info := 0, data := [3, 0, 0, 0, 0, 0, 0, 0] }),
    by decide +kernel⟩,
   ⟨(((((State.reset.setFld F.CTP_STATUS_SESSION 1 1).setFlag F.MGT_STATUS_SHED false)).modHost 1 (fun x =>
    { x with inbox := [{ peer := ⟨.v4 0, 0⟩, ver := 1, kind := 9, sop := true, eop := true, loc := true, fixed := false, tag := 5, psn := 1, ack := 0, nak := false, limit := 0, addr := 0, len := 4, status := 0, offset := 0, info := 0, data := [4, 0, 0, 0, 0, 0, 0, 0] }] }))),
    1,
    ({ peer := ⟨.v4 0, 0⟩, ver := 1, kind := 9, sop := true, eop := true, loc := true, fixed := false, tag := 5, psn := 1, ack := 0, nak := false, limit := 0, addr := 0, len := 4, status := 0, offset := 0, info := 0, data := [4, 0, 0, 0, 0, 0, 0, 0] }),
    by decide +kernel⟩⟩

theorem witness_DmaDescriptors :
  (∃ (s : State) (c : Fin 32) (d : DmaDesc), s.dmaState c = 0 ∧ s.flag F.DMA_STATUS_BUSERR = false ∧ s.storeOn .central = true ∧ s.fld
    F.DMA_CH_DESC_OFFSET c % 64 = 0 ∧ s.fld F.DMA_CH_DESC_OFFSET c < 0xE00000 ∧ s.cstore.double = [] ∧ s.flt.inject = none ∧ dmaDecode (s.cstore.read
    (s.fld F.DMA_CH_DESC_OFFSET c) 64) = d ∧ dmaDescBad s c (s.fld F.DMA_CH_DESC_OFFSET c) d = false ∧ dmaEndsBad s c d = false ∧ d.len ≤ 1048576) ∧
  (∃ (s : State) (c : Fin 32), (s.dmaState c ≠ 0 ∨ s.flag F.DMA_STATUS_BUSERR = true)) ∧
  (∃ (s : State) (c : Fin 32), s.dmaState c ≠ 0 ∧ s.dmaState c ≠ 5 ∧ (s.dmaCh c).ending = none) ∧
  (∃ (s : State) (c : Fin 32) (n : Fin 16) (tdc : Bool), s.dmaState c = 3 ∧ dmaBound s c = some (n, tdc) ∧ 1 ≤ queueCount s n tdc) ∧
  (∃ (s : State) (c : Fin 32) (d : DmaDesc), s.dma.bursts.length < 16 ∧ dmaTurn s = some c ∧ (s.dmaCh c).desc = some d ∧ localEnd s d.dst d.dstLocal =
    true ∧ (d.op = 1 ∨ localEnd s d.src d.srcLocal = true) ∧ (d.idxSrc || d.idxDst || d.vwp) = false ∧ (endReloads s d.dst d.dstLocal || endAsleep s
    d.dst d.dstLocal || (decide (d.op ≠ 1) && (endReloads s d.src d.srcLocal || endAsleep s d.src d.srcLocal))) = false) ∧
  (∃ (s : State) (c : Fin 32) (d : DmaDesc) (b : DmaBurst) (l : List DmaBurst), dmaBursts s c = b :: l ∧ (s.dmaCh c).desc = some d ∧ (b.parts.any (fun p
    => p.reply.isNone) = false) ∧ localEnd s d.dst d.dstLocal = false ∧ d.vwp = false ∧ s.pair .DMA_CH_BYTES_LO .DMA_CH_BYTES_HI c + burstWrote b < 2
    ^ 64) ∧
  (∃ (s : State) (c : Fin 32) (d : DmaDesc), s.dmaState c ≠ 0 ∧ dmaBursts s c = [] ∧ (s.dmaCh c).desc = some d ∧ (s.dmaCh c).ending = none ∧ (s.dmaCh
    c).written = d.len ∧ d.chain = false ∧ d.wb = false) ∧
  (∃ (s : State) (c : Fin 32) (d : DmaDesc), s.dmaState c ≠ 0 ∧ dmaBursts s c = [] ∧ (s.dmaCh c).desc = some d ∧ (s.dmaCh c).ending = none ∧ (s.dmaCh
    c).written = d.len ∧ d.chain = false ∧ d.wb = true ∧ s.storeOn .central = true ∧ s.fld F.DMA_CH_DESC_OFFSET c % 64 = 0) ∧
  (∃ (s : State) (c : Fin 32), ((s.dma.bursts.any (fun b => b.ch == c.val && b.parts.any (fun p => p.reply.isNone && decide (p.sentAt + max 1 (s.fld
    F.CTP_TUNNEL_TMO_TMO) * 25000 ≤ s.now)))) = true) ∧ s.dmaState c ≠ 0 ∧ (s.dmaCh c).ending = none) := 
  ⟨⟨({ (State.reset.setFld F.GLB_CSTORE_PWR_STATE 0) with cstore := State.reset.cstore.writeBytes 0 (toBytes 64 (0x200002000 * 2 ^ 64 + 2 ^ 50 * 2 ^ 64 + 8 * 2 ^ 128 + 1 * 2 ^ 160 + 0x1122334455667788 * 2 ^ 320)) }),
    31, (dmaDecode (toBytes 64 (0x200002000 * 2 ^ 64 + 2 ^ 50 * 2 ^ 64 + 8 * 2 ^ 128 + 1 * 2 ^ 160 + 0x1122334455667788 * 2 ^ 320))),
    by decide +kernel⟩,
   ⟨((State.reset.setFld F.DMA_CH_STATUS_STATE 3 31)), 31, by decide +kernel⟩,
   ⟨((State.reset.setFld F.DMA_CH_STATUS_STATE 3 31)), 31, by decide +kernel⟩,
   ⟨((modMad ((State.reset.setFld F.DMA_CH_STATUS_STATE 3 31).setFld F.DMA_CH_CFG_REQ 4 31) 3 (fun m => { m with queue := [5] }))), 31, 3, false,
    by decide +kernel⟩,
   ⟨(((((State.reset.setFld F.DMA_CH_STATUS_STATE 3 31).setFld F.GLB_CSTORE_PWR_STATE 0)).modDma 31 (fun x =>
    { x with desc := some (dmaDecode (toBytes 64 (0x200002000 * 2 ^ 64 + 2 ^ 50 * 2 ^ 64 + 8 * 2 ^ 128 + 1 * 2 ^ 160 + 0x1122334455667788 * 2 ^ 320))) }))),
    31, (dmaDecode (toBytes 64 (0x200002000 * 2 ^ 64 + 2 ^ 50 * 2 ^ 64 + 8 * 2 ^ 128 + 1 * 2 ^ 160 + 0x1122334455667788 * 2 ^ 320))),
    by decide +kernel⟩,
   ⟨({ (((State.reset.setFld F.DMA_CH_STATUS_STATE 3 31)).modDma 31 (fun x => { x with desc := some ({ (dmaDecode (toBytes 64 (0x200002000 * 2 ^ 64 + 2 ^ 50 * 2 ^ 64 + 8 * 2 ^ 128 + 1 * 2 ^ 160 + 0x1122334455667788 * 2 ^ 320))) with dst := 0x10000000000, dstLocal := false }) })) with dma := { ((((State.reset.setFld F.DMA_CH_STATUS_STATE 3 31)).modDma 31 (fun x => { x with desc := some ({ (dmaDecode (toBytes 64 (0x200002000 * 2 ^ 64 + 2 ^ 50 * 2 ^ 64 + 8 * 2 ^ 128 + 1 * 2 ^ 160 + 0x1122334455667788 * 2 ^ 320))) with dst := 0x10000000000, dstLocal := false }) }))).dma with bursts := [{ ch := 31, off := 0, len := 8, src := 0, dst := 0x10000000000, parts := [{ tag := 1, sentAt := 0, addr := 0, len := 8, reply := some (0, []) }] }] } }),
    31,
    ({ (dmaDecode (toBytes 64 (0x200002000 * 2 ^ 64 + 2 ^ 50 * 2 ^ 64 + 8 * 2 ^ 128 + 1 * 2 ^ 160 + 0x1122334455667788 * 2 ^ 320))) with dst := 0x10000000000, dstLocal := false }),
    ({ ch := 31, off := 0, len := 8, src := 0, dst := 0x10000000000, parts := [{ tag := 1, sentAt := 0, addr := 0, len := 8, reply := some (0, []) }] }),
    ([]), by decide +kernel⟩,
   ⟨((((State.reset.setFld F.DMA_CH_STATUS_STATE 3 31)).modDma 31 (fun x =>
    { x with desc := some (dmaDecode (toBytes 64 (0x200002000 * 2 ^ 64 + 2 ^ 50 * 2 ^ 64 + 8 * 2 ^ 128 + 1 * 2 ^ 160 + 0x1122334455667788 * 2 ^ 320))), written := 8 }))),
    31, (dmaDecode (toBytes 64 (0x200002000 * 2 ^ 64 + 2 ^ 50 * 2 ^ 64 + 8 * 2 ^ 128 + 1 * 2 ^ 160 + 0x1122334455667788 * 2 ^ 320))),
    by decide +kernel⟩,
   ⟨(((((State.reset.setFld F.DMA_CH_STATUS_STATE 3 31).setFld F.GLB_CSTORE_PWR_STATE 0)).modDma 31 (fun x =>
    { x with desc := some { (dmaDecode (toBytes 64 (0x200002000 * 2 ^ 64 + 2 ^ 50 * 2 ^ 64 + 8 * 2 ^ 128 + 1 * 2 ^ 160 + 0x1122334455667788 * 2 ^ 320))) with wb := true }, written := 8 }))),
    31,
    ({ (dmaDecode (toBytes 64 (0x200002000 * 2 ^ 64 + 2 ^ 50 * 2 ^ 64 + 8 * 2 ^ 128 + 1 * 2 ^ 160 + 0x1122334455667788 * 2 ^ 320))) with wb := true }),
    by decide +kernel⟩,
   ⟨({ (State.reset.setFld F.DMA_CH_STATUS_STATE 3 31) with now := 10000000000, dma := { State.reset.dma with bursts := [{ ch := 31, off := 0, len := 8, src := 0, dst := 0x10000000000, parts := [{ tag := 1, sentAt := 0, addr := 0, len := 8, reply := none }] }] } }),
    31, by decide +kernel⟩⟩

theorem witness_DmaFillBurst :
  (∃ (s : State) (c : Fin 32) (d : DmaDesc) (b : DmaBurst) (l : List DmaBurst) (r : Region) (o : Nat) (id : StoreId), dmaBursts s c = b :: l ∧ (s.dmaCh
    c).desc = some d ∧ b.parts = [] ∧ d.op = 1 ∧ d.vwp = false ∧ localEnd s d.dst d.dstLocal = true ∧ regionOf (b.dst % 2 ^ 40) = some (r, o) ∧
    r.storeId = some id ∧ s.storeOn id = true ∧ (s.store id).double = [] ∧ s.flt.inject = none) := ⟨({ ((((State.reset.setFld F.DMA_CH_STATUS_STATE 3 31).setFld F.GLB_CSTORE_PWR_STATE 0)).modDma 31 (fun x => { x with desc := some (dmaDecode (toBytes 64 (0x200002000 * 2 ^ 64 + 2 ^ 50 * 2 ^ 64 + 8 * 2 ^ 128 + 1 * 2 ^ 160 + 0x1122334455667788 * 2 ^ 320))) })) with dma := { ((((State.reset.setFld F.DMA_CH_STATUS_STATE 3 31)).modDma 31 (fun x => { x with desc := some (dmaDecode (toBytes 64 (0x200002000 * 2 ^ 64 + 2 ^ 50 * 2 ^ 64 + 8 * 2 ^ 128 + 1 * 2 ^ 160 + 0x1122334455667788 * 2 ^ 320))) }))).dma with bursts := [{ ch := 31, off := 0, len := 8, src := 0, dst := 0x200002000, parts := [] }] } }),
    31, (dmaDecode (toBytes 64 (0x200002000 * 2 ^ 64 + 2 ^ 50 * 2 ^ 64 + 8 * 2 ^ 128 + 1 * 2 ^ 160 + 0x1122334455667788 * 2 ^ 320))),
    ({ ch := 31, off := 0, len := 8, src := 0, dst := 0x200002000, parts := [] }), ([]), .central, 0x2000, .central, by decide +kernel⟩

theorem witness_SidePort_a :
  (∃ (s : State) (frame : SideFrame), s.inReset = false ∧ s.side.stream = none ∧ frame.edges = 64) ∧
  (∃ (s : State) (frame : SideFrame), s.inReset = false ∧ s.side.stream = none ∧ frame.edges ≠ 64) ∧
  (∃ (s : State) (frame : SideFrame) (r : SideReply), s.inReset = false ∧ s.side.stream = none ∧ frame.edges = 64 ∧ s.side.lastRead = some r) ∧
  (∃ (s : State) (frame : SideFrame), s.inReset = false ∧ s.side.stream = none ∧ frame.edges = 64 ∧ frame.data.toNat < 2 ^ 14) ∧
  (∃ (s : State) (frame : SideFrame), s.inReset = false ∧ s.side.stream = none ∧ frame.edges = 64 ∧ 2 ^ 14 ≤ frame.data.toNat) ∧
  (∃ (s : State) (frame : SideFrame) (key : RegKey), s.inReset = false ∧ s.side.stream = none ∧ frame.edges = 64 ∧ s.flag F.INV_STATUS_LOCK = true ∧
    regAt (sideAddress s frame.addr.toNat) = some key ∧ key.reg ∈ ([.SEQ_LCOUNT, .SEQ_LIM_LO, .SEQ_LIM_HI, .GLB_IMG_LEN, .GLB_IMG_SRC,
    .FLT_INJECT_IDX, .RPL_RING_BASE] : List Reg) ∧ keptWord s.shadow key = none) ∧
  (∃ (s : State) (frame : SideFrame) (r : Region) (o : Nat) (id : StoreId), s.inReset = false ∧ s.side.stream = none ∧ frame.edges = 64 ∧ s.flag
    F.INV_STATUS_LOCK = true ∧ regionOf (sideAddress s frame.addr.toNat) = some (r, o) ∧ r.storeId = some id ∧ (storeStop s (sideAddress s
    frame.addr.toNat) = none ∨ storeStop s (sideAddress s frame.addr.toNat) = some 8) ∧ (s.store id).double = [] ∧ s.flt.inject = none) ∧
  (∃ (s : State) (frame : SideFrame) (last : Nat) (r : Region) (o : Nat) (id : StoreId), s.inReset = false ∧ s.side.stream = none ∧ frame.edges = 64 ∧
    s.flag F.INV_STATUS_LOCK = true ∧ s.side.stepRead = some last ∧ last + 4 < stepEnd last ∧ regionOf (last + 4) = some (r, o) ∧ r.storeId = some id
    ∧ (storeStop s (last + 4) = none ∨ storeStop s (last + 4) = some 8) ∧ (s.store id).double = [] ∧ s.flt.inject = none) ∧
  (∃ (s : State) (frame : SideFrame) (last : Nat), s.inReset = false ∧ s.side.stream = none ∧ frame.edges = 64 ∧ s.flag F.INV_STATUS_LOCK = true ∧
    s.side.stepRead = some last ∧ stepEnd last ≤ last + 4) ∧
  (∃ (s : State) (frame : SideFrame) (key : RegKey), s.inReset = false ∧ s.side.stream = none ∧ frame.edges = 64 ∧ s.flag F.INV_STATUS_LOCK = true ∧
    s.flag F.SIDE_CFG_WR_EN = true ∧ regAt (sideAddress s frame.addr.toNat) = some key ∧ key.reg ∈ ([.SEQ_LCOUNT, .SEQ_LIM_LO, .SEQ_LIM_HI,
    .GLB_IMG_LEN, .GLB_IMG_SRC, .FLT_INJECT_IDX, .RPL_RING_BASE] : List Reg) ∧ (s.heldBits key frame.data.toNat).1 = 0 ∧ s.rplState ≠ 2 ∧ (inSliceRegs
    (sideAddress s frame.addr.toNat) && reloadHolds s (sliceOfAddr (sideAddress s frame.addr.toNat))) = false) ∧
  (∃ (s : State) (frame : SideFrame) (key : RegKey) (last : Nat), s.inReset = false ∧ s.side.stream = none ∧ frame.edges = 64 ∧ s.flag F.INV_STATUS_LOCK
    = true ∧ s.flag F.SIDE_CFG_WR_EN = true ∧ s.side.stepWrite = some last ∧ last + 4 < stepEnd last ∧ regAt (last + 4) = some key ∧ key.reg ∈
    ([.SEQ_LCOUNT, .SEQ_LIM_LO, .SEQ_LIM_HI, .GLB_IMG_LEN, .GLB_IMG_SRC, .FLT_INJECT_IDX, .RPL_RING_BASE] : List Reg) ∧ (s.heldBits key
    frame.data.toNat).1 = 0 ∧ s.rplState ≠ 2 ∧ (inSliceRegs (last + 4) && reloadHolds s (sliceOfAddr (last + 4))) = false) ∧
  (∃ (s : State) (frame : SideFrame), s.inReset = false ∧ s.side.stream = none ∧ frame.edges = 64 ∧ s.flag F.INV_STATUS_LOCK = true ∧ s.flag
    F.SIDE_CFG_WR_EN = false) := 
  ⟨⟨State.reset, ({ edges := 64, mode3 := true, late := false, addr := 0, data := 0 }), by decide +kernel⟩,
   ⟨State.reset, ({ edges := 63, mode3 := true, late := false, addr := 0, data := 0 }), by decide +kernel⟩,
   ⟨((modSide (State.reset) (fun x => { x with lastRead := some { code := 0, addr := 5, data := 9 } }))),
    ({ edges := 64, mode3 := true, late := false, addr := 0, data := 0 }), ({ code := 0, addr := 5, data := 9 }), by decide +kernel⟩,
   ⟨State.reset, ({ edges := 64, mode3 := true, late := false, addr := 0, data := 0x3FFF }), by decide +kernel⟩,
   ⟨State.reset, ({ edges := 64, mode3 := true, late := false, addr := 0, data := 0x4000 }), by decide +kernel⟩,
   ⟨(((locked State.reset).setFld F.SIDE_PAGE_PAGE ((RegKey.address ⟨.SEQ_LIM_LO, 3, 15, 0, 0⟩) / 2 ^ 26)).wr .SEQ_LIM_LO 77 3 15),
    ({ edges := 64, mode3 := true, late := false, addr := (BitVec.ofNat 24 ((RegKey.address ⟨.SEQ_LIM_LO, 3, 15, 0, 0⟩) % 2 ^ 26 / 4)), data := 0 }),
    (⟨.SEQ_LIM_LO, 3, 15, 0, 0⟩), by decide +kernel⟩,
   ⟨((((locked State.reset).setFld F.SLC_STORE_PWR_STATE 0 3).setFld F.SIDE_PAGE_PAGE 64)),
    ({ edges := 64, mode3 := true, late := false, addr := 3145760, data := 0 }), (.sliceStore 3), 0x80, (.slice 3), by decide +kernel⟩,
   ⟨((modSide (((locked State.reset).setFld F.SLC_STORE_PWR_STATE 0 3)) (fun x => { x with stepRead := some 4307550332 }))),
    ({ edges := 64, mode3 := true, late := false, addr := 0, data := 0 }), 4307550332, (.sliceStore 3), 0x80, (.slice 3), by decide +kernel⟩,
   ⟨((modSide ((locked State.reset)) (fun x => { x with stepRead := some 4310695932 }))),
    ({ edges := 64, mode3 := true, late := false, addr := 0, data := 0 }), 4310695932, by decide +kernel⟩,
   ⟨((((locked State.reset).setFlag F.SIDE_CFG_WR_EN true).setFld F.SIDE_PAGE_PAGE ((RegKey.address ⟨.SEQ_LIM_LO, 3, 15, 0, 0⟩) / 2 ^ 26))),
    ({ edges := 64, mode3 := true, late := false, addr := (BitVec.ofNat 24 ((RegKey.address ⟨.SEQ_LIM_LO, 3, 15, 0, 0⟩) % 2 ^ 26 / 4)), data := 5 }),
    (⟨.SEQ_LIM_LO, 3, 15, 0, 0⟩), by decide +kernel⟩,
   ⟨((modSide (((locked State.reset).setFlag F.SIDE_CFG_WR_EN true)) (fun x =>
    { x with stepWrite := some ((RegKey.address ⟨.SEQ_LIM_LO, 3, 15, 0, 0⟩) - 4) }))),
    ({ edges := 64, mode3 := true, late := false, addr := 0, data := 5 }), (⟨.SEQ_LIM_LO, 3, 15, 0, 0⟩), ((RegKey.address ⟨.SEQ_LIM_LO, 3, 15, 0, 0⟩)
    - 4), by decide +kernel⟩,
   ⟨(((locked State.reset).setFlag F.SIDE_CFG_WR_EN false)), ({ edges := 64, mode3 := true, late := false, addr := 0, data := 0 }), by decide +kernel⟩⟩

theorem witness_SidePort_b :
  (∃ (s : State) (frame : SideFrame), s.inReset = false ∧ s.side.stream = none ∧ 64 ≤ frame.edges ∧ s.flag F.INV_STATUS_LOCK = true ∧ s.flag
    F.SIDE_CFG_WR_EN = true ∧ storeStop s (sideAddress s frame.addr.toNat) = none) ∧
  (∃ (s : State) (frame : SideFrame) (last : Nat), s.inReset = false ∧ s.side.stream = none ∧ 64 ≤ frame.edges ∧ s.flag F.INV_STATUS_LOCK = true ∧
    s.flag F.SIDE_CFG_WR_EN = true ∧ s.side.stepStream = some last ∧ last + 4 < streamEnd last ∧ storeStop s (last + 4) = none) ∧
  (∃ (s : State) (x : SideStream) (r : Region) (o : Nat) (id : StoreId), s.side.stream = some x ∧ x.stop = none ∧ x.next < streamEnd x.first ∧ storeStop
    s x.next = none ∧ s.side.fifo = [] ∧ regionOf x.next = some (r, o) ∧ r.storeId = some id ∧ (s.store id).double = [] ∧ s.flt.inject = none ∧ 1 <
    x.left) ∧
  (∃ (s : State) (x : SideStream) (r : Region) (o : Nat) (id : StoreId), s.side.stream = some x ∧ x.stop = none ∧ x.next < streamEnd x.first ∧ storeStop
    s x.next = none ∧ s.side.fifo = [] ∧ regionOf x.next = some (r, o) ∧ r.storeId = some id ∧ (s.store id).double = [] ∧ s.flt.inject = none ∧ x.left
    = 1 ∧ x.leftover = false) := 
  ⟨⟨(((((locked State.reset).setFlag F.SIDE_CFG_WR_EN true).setFld F.SLC_STORE_PWR_STATE 0 3).setFld F.SIDE_PAGE_PAGE 64)),
    ({ edges := 100, mode3 := true, late := false, addr := 3145760, data := 0 }), by decide +kernel⟩,
   ⟨((modSide ((((locked State.reset).setFlag F.SIDE_CFG_WR_EN true).setFld F.SLC_STORE_PWR_STATE 0 3)) (fun x =>
    { x with stepStream := some 4307550336 }))), ({ edges := 96, mode3 := true, late := false, addr := 0, data := 0 }), 4307550336, by decide +kernel⟩,
   ⟨((modSide ((((locked State.reset).setFlag F.SIDE_CFG_WR_EN true).setFld F.SLC_STORE_PWR_STATE 0 3)) (fun x =>
    { x with stream := some { first := 4307550320, next := 4307550336, left := 2, leftover := false, written := 4, stop := none } }))),
    ({ first := 4307550320, next := 4307550336, left := 2, leftover := false, written := 4, stop := none }), (.sliceStore 3), 0x80, (.slice 3),
    by decide +kernel⟩,
   ⟨((modSide ((((locked State.reset).setFlag F.SIDE_CFG_WR_EN true).setFld F.SLC_STORE_PWR_STATE 0 3)) (fun x =>
    { x with stream := some { first := 4307550320, next := 4307550336, left := 1, leftover := false, written := 4, stop := none } }))),
    ({ first := 4307550320, next := 4307550336, left := 1, leftover := false, written := 4, stop := none }), (.sliceStore 3), 0x80, (.slice 3),
    by decide +kernel⟩⟩

theorem witness_PewterAndAccessory_a :
  (∃ (s : State) (frame : SideFrame), s.inReset = false ∧ s.side.stream = none ∧ frame.edges = 64 ∧ s.flag F.INV_STATUS_LOCK = true ∧ s.flag
    F.PWT_CTRL_OPEN = true ∧ frame.addr.toNat < 256) ∧
  (∃ (s : State) (frame : SideFrame), s.inReset = false ∧ s.side.stream = none ∧ frame.edges = 64 ∧ s.flag F.INV_STATUS_LOCK = true ∧ s.flag
    F.PWT_CTRL_OPEN = true ∧ (s.pewter.high = none) ∧ (s.pewter.captured = none)) ∧
  (∃ (s : State) (frame : SideFrame) (h : Nat), s.inReset = false ∧ s.side.stream = none ∧ frame.edges = 64 ∧ s.flag F.INV_STATUS_LOCK = true ∧ s.flag
    F.PWT_CTRL_OPEN = true ∧ s.pewter.high = some h ∧ (s.pewter.captured = none) ∧ isLevel (s.fld F.PWT_STATUS_PTR) = true) ∧
  (∃ (s : State) (frame : SideFrame), s.inReset = false ∧ s.side.stream = none ∧ frame.edges = 64 ∧ s.flag F.INV_STATUS_LOCK = true ∧ s.flag
    F.PWT_CTRL_OPEN = true ∧ (s.pewter.high = none) ∧ (s.pewter.captured = none)) ∧
  (∃ (s : State) (frame : SideFrame) (v : Nat), s.inReset = false ∧ s.side.stream = none ∧ frame.edges = 64 ∧ s.flag F.INV_STATUS_LOCK = true ∧ s.flag
    F.PWT_CTRL_OPEN = true ∧ (s.pewter.high = none) ∧ s.pewter.captured = some v) ∧
  (∃ (s : State) (frame : SideFrame) (c : Instr), c ∈ [Instr.pwAddr frame, .pwWrb frame, .pwRdb frame] ∧ s.inReset = false ∧ s.side.stream = none ∧
    frame.edges = 64 ∧ s.flag F.INV_STATUS_LOCK = true ∧ s.flag F.PWT_CTRL_OPEN = false) ∧
  (∃ (s : State) (n : Fin 16), n.val < 2 ∧ s.flag F.PWT_CTRL_OPEN = true ∧ s.rplState ≠ 2 ∧ reloadHolds s n = false ∧ (s.rd .SEQ_CTRL n).toNat &&& 0x17
    = 0 ∧ (seqState s n = 0 ∨ seqState s n = 5) ∧ wheelState s n = 2) ∧
  (∃ (s : State) (n : Fin 16), n.val < 2 ∧ s.flag F.PWT_CTRL_OPEN = true ∧ s.rplState ≠ 2 ∧ reloadHolds s n = false ∧ (s.rd .SEQ_CTRL n).toNat &&& 0x17
    = 0 ∧ (s.rd .VEC_CTRL n).toNat &&& 9 = 0 ∧ 1 ≤ seqState s n ∧ seqState s n ≤ 4 ∧ s.coreOn n = true ∧ vecState s n = 1) ∧
  (∃ (s : State) (n : Fin 16), n.val < 2 ∧ s.flag F.PWT_CTRL_OPEN = true ∧ s.rplState ≠ 2 ∧ reloadHolds s n = false) ∧
  (∃ (s : State) (g : Fin 8) (k : Fin 8) (n : Fin 16) (p : Nat) (r : Fin 5), s.flag F.PWT_CTRL_OPEN = true ∧ s.rplState ≠ 2 ∧ reloadHolds s n = false ∧
    pewterPin (8 * g.val + k.val) = (n, p) ∧ s.lockedBits ⟨levelRegs.getD r .PIN_VIL, n, p, 0, 0⟩ = 0) ∧
  (∃ (s : State), s.flag F.PWT_CTRL_OPEN = false ∧ s.reloadTargets 0 = false ∧ s.reloadTargets 1 = false) ∧
  (∃ (s : State), s.flag F.PWT_CTRL_OPEN = false ∧ (s.reloadTargets 0 = true ∨ s.reloadTargets 1 = true)) := 
  ⟨⟨((modPewter (((locked State.reset).setFlag F.PWT_CTRL_OPEN true)) (fun x => { x with high := some 3 }))),
    ({ edges := 64, mode3 := true, late := false, addr := 0xC7, data := 0 }), by decide +kernel⟩,
   ⟨(((locked State.reset).setFlag F.PWT_CTRL_OPEN true)), ({ edges := 64, mode3 := true, late := false, addr := 0, data := 0x1FE }), by decide +kernel⟩,
   ⟨((modPewter ((((locked State.reset).setFlag F.PWT_CTRL_OPEN true).setFld F.PWT_STATUS_PTR 0x4C)) (fun x => { x with high := some 0x12 }))),
    ({ edges := 64, mode3 := true, late := false, addr := 0, data := 0x1FE }), 0x12, by decide +kernel⟩,
   ⟨(((locked State.reset).setFlag F.PWT_CTRL_OPEN true)), ({ edges := 64, mode3 := true, late := false, addr := 0, data := 0 }), by decide +kernel⟩,
   ⟨((modPewter (((locked State.reset).setFlag F.PWT_CTRL_OPEN true)) (fun x => { x with captured := some 0x1234 }))),
    ({ edges := 64, mode3 := true, late := false, addr := 0, data := 0 }), 0x1234, by decide +kernel⟩,
   ⟨((locked State.reset)), ({ edges := 64, mode3 := true, late := false, addr := 0, data := 0 }), (Instr.pwAddr
    { edges := 64, mode3 := true, late := false, addr := 0, data := 0 }), by decide +kernel⟩,
   ⟨((setWheelState (((locked State.reset).setFlag F.PWT_CTRL_OPEN true)) 1 2)), 1, by decide +kernel⟩,
   ⟨((setVecState (setSeqState (((locked State.reset).setFlag F.PWT_CTRL_OPEN true)) 1 3) 1 1)), 1, by decide +kernel⟩,
   ⟨(((((locked State.reset).setFlag F.PWT_CTRL_OPEN true).wr .VEC_PFAIL 7 1 31).setPair .VEC_FAILVEC_LO .VEC_FAILVEC_HI 9 1)), 1, by decide +kernel⟩,
   ⟨((modPewter (((locked State.reset).setFlag F.PWT_CTRL_OPEN true)) (fun x =>
    { x with stage := ((State.reset.pewter.stage.to 0x3A 0xFF00).to 0x38 0x7000) }))), 5, 3, 1, 11, 2, by decide +kernel⟩,
   ⟨((locked State.reset)), by decide +kernel⟩,
   ⟨({ (State.reset.setFlag F.GLB_IMG_STATUS_BUSY true) with img := { State.reset.img with op := 1, slice := 1 } }), by decide +kernel⟩⟩

theorem witness_PewterAndAccessory_b :
  (∃ (s : State), s.flag F.PWT_CTRL_OPEN = true) ∧
  (∃ (s : State), s.flag F.ACC_STATUS_BUSY = false ∧ 8 ≤ s.fld F.ACC_FRAME_LEN ∧ s.fld F.ACC_FRAME_LEN ≤ 256 ∧ s.fld F.ACC_FRAME_SEL ≠ 0) ∧
  (∃ (s : State), (s.flag F.ACC_STATUS_BUSY = true ∨ s.fld F.ACC_FRAME_LEN < 8 ∨ 256 < s.fld F.ACC_FRAME_LEN ∨ s.fld F.ACC_FRAME_SEL = 0)) ∧
  (∃ (s : State) (k : Nat), s.acc.start = some k ∧ accPassed s k (accSetup s) = false) ∧
  (∃ (s : State) (k : Nat), s.acc.start = some k ∧ accPassed s k (accSetup s + s.fld F.ACC_FRAME_LEN + 2 * accHold s) = true) := 
  ⟨⟨((modPewter (((locked State.reset).setFlag F.PWT_CTRL_OPEN true)) (fun x => { x with stage := (State.reset.pewter.stage.to 0x3A 1) }))),
    by decide +kernel⟩,
   ⟨(((State.reset.setFld F.ACC_FRAME_LEN 256).setFld F.ACC_FRAME_SEL 3)), by decide +kernel⟩,
   ⟨(((State.reset.setFld F.ACC_FRAME_LEN 257).setFld F.ACC_FRAME_SEL 3)), by decide +kernel⟩,
   ⟨({ State.reset with acc := { start := some 0 } }), 0, by decide +kernel⟩,
   ⟨({ (State.reset.setFld F.ACC_FRAME_LEN 8) with acc := { start := some 0 }, now := 100000 }), 0, by decide +kernel⟩⟩

theorem witness_PowerDomains_a :
  (∃ (s : State) (d : Fin 39) (port : Option (Fin 2)), s.domState d = 0 ∧ offRefusal s d port = none) ∧
  (∃ (s : State) (d : Fin 39) (port : Option (Fin 2)) (reason : Nat), s.domState d = 0 ∧ offRefusal s d port = some reason) ∧
  (∃ (s : State) (d : Fin 39), s.domState d = 3) ∧
  (∃ (s : State) (d : Fin 39), s.domState d = 2) ∧
  (∃ (s : State) (d : Fin 39), s.domState d = 1 ∧ s.pwr.falling.getLsbD d.val = false) ∧
  (∃ (s : State) (d : Fin 39), s.pwr.falling.getLsbD d.val = false ∧ s.domState d = 1 ∧ (if s.pwr.timedOut.getLsbD d.val then s.pwr.due.get d ≤ s.now ∧
    burstTargets s d = false else domainTargeted s d = false)) ∧
  (∃ (s : State) (d : Fin 39) (n : Fin 16), s.pwr.falling.getLsbD d.val = false ∧ s.domState d = 1 ∧ domainKind d = .core n ∧ s.pwr.timedOut.getLsbD
    d.val = false) ∧
  (∃ (s : State) (d : Fin 39), s.pwr.falling.getLsbD d.val = false ∧ s.domState d = 1 ∧ s.pwr.timedOut.getLsbD d.val = false ∧ s.pwr.due.get d ≤ s.now ∧
    domainTargeted s d = true ∧ ((∀ n, domainKind d = .analog n → streamTargets s n = false))) ∧
  (∃ (s : State) (d : Fin 39), s.domState d = 1 ∧ s.pwr.falling.getLsbD d.val = true ∧ s.pwr.due.get d ≤ s.now ∧ ((∀ n, domainKind d ≠ .analog n))) ∧
  (∃ (s : State) (d : Fin 39) (n : Fin 16), s.domState d = 1 ∧ s.pwr.falling.getLsbD d.val = true ∧ s.pwr.due.get d ≤ s.now ∧ domainKind d = .analog n) ∧
  (∃ (s : State) (d : Fin 39), s.domState d = 3 ∧ s.pwr.due.get d ≤ s.now ∧ 32 ≤ d.val ∧ d.val < 35) ∧
  (∃ (s : State) (d : Fin 39) (n : Fin 16), s.domState d = 3 ∧ s.pwr.due.get d ≤ s.now ∧ domainKind d = .core n) := 
  ⟨⟨((setDomState (State.reset) 33 0)), 33, none, by decide +kernel⟩,
   ⟨((setDomState (State.reset) 33 0)), 33, (some 0), 5, by decide +kernel⟩,
   ⟨((setDomState (State.reset) 5 3)), 5, by decide +kernel⟩,
   ⟨((setDomState (State.reset) 20 2)), 20, by decide +kernel⟩,
   ⟨((setDomState (State.reset) 5 1)), 5, by decide +kernel⟩,
   ⟨((setDomState (State.reset) 5 1)), 5, by decide +kernel⟩,
   ⟨((setDomState ((setSeqState (setVecState State.reset 5 1) 5 1)) 5 1)), 5, 5, by decide +kernel⟩,
   ⟨((setDomState (((State.reset.setFld F.DMA_CH_STATUS_STATE 3 31).modDma 31 (fun x =>
    { x with desc := some (dmaDecode (toBytes 64 (0x200002000 * 2 ^ 64 + 2 ^ 50 * 2 ^ 64 + 8 * 2 ^ 128 + 1 * 2 ^ 160 + 0x1122334455667788 * 2 ^ 320))) })))
    32 1)), 32, by decide +kernel⟩,
   ⟨((modPwr ((setDomState (State.reset) 5 1)) (fun x => { x with falling := (1#39 <<< 5) }))), 5, by decide +kernel⟩,
   ⟨((modPwr ((setDomState (State.reset) 19 1)) (fun x => { x with falling := (1#39 <<< 19) }))), 19, 3, by decide +kernel⟩,
   ⟨((setDomState (State.reset) 34 3)), 34, by decide +kernel⟩,
   ⟨((setDomState (State.reset) 5 3)), 5, 5, by decide +kernel⟩⟩

theorem witness_PowerDomains_b :
  (∃ (s : State) (d : Fin 39) (n : Fin 16), s.domState d = 3 ∧ s.pwr.due.get d ≤ s.now ∧ domainKind d = .analog n) := ⟨((setDomState (State.reset) 19 3)), 19, 3, by decide +kernel⟩

theorem witness_AdmissionAndGovernors_a :
  (∃ (s : State) (r : PwrRequester) (k : Nat), s.pwr.evalAt ≠ s.now + 1 ∧ s.pwr.queue = [(r, k)] ∧ k < s.now ∧ budgetOk s (classCost s r.cls) = true ∧
    rampOk s (classCost s r.cls) = true) ∧
  (∃ (s : State) (n : Fin 16) (c : Fin 4) (k : Nat), s.pwr.evalAt ≠ s.now + 1 ∧ s.pwr.queue = [({ cls := 1, index := 4 * n.val + c.val }, k)] ∧ k <
    s.now ∧ budgetOk s (classCost s 1) = true ∧ rampOk s (classCost s 1) = true ∧ txPwr s n c = 1) ∧
  (∃ (s : State) (r : PwrRequester) (k : Nat), s.pwr.evalAt ≠ s.now + 1 ∧ s.pwr.queue = [(r, k)] ∧ k < s.now ∧ s.fld F.PWR_BASE_MW_MW + classCost s
    r.cls ≤ s.fld F.PWR_BUDGET_MW_MW ∧ (budgetOk s (classCost s r.cls) && rampOk s (classCost s r.cls)) = false) ∧
  (∃ (s : State) (r : PwrRequester) (k : Nat), s.pwr.evalAt ≠ s.now + 1 ∧ s.pwr.queue = [(r, k)] ∧ s.fld F.PWR_BUDGET_MW_MW < s.fld F.PWR_BASE_MW_MW +
    classCost s r.cls ∧ r.cls = 1) ∧
  (∃ (v : BitVec 32), v.toNat % 2 ^ 18 ≤ 190000) ∧
  (∃ (v : BitVec 32), 190000 < v.toNat % 2 ^ 18) ∧
  (∃ (s : State) (x : Fin 64), s.replayMuted = false ∧ ((txThresholdMs s x < txSumMs s (⟨x.val / 4, by omega⟩ : Fin 16) (⟨x.val % 4, by omega⟩ : Fin 4)
    ∨ txThresholdS s x < txSumS s (⟨x.val / 4, by omega⟩ : Fin 16) (⟨x.val % 4, by omega⟩ : Fin 4))) ∧ s.flag F.NRG_TX_STATUS_TRIP x = false) ∧
  (∃ (s : State) (x : Fin 64), (¬(txThresholdMs s x < txSumMs s (⟨x.val / 4, by omega⟩ : Fin 16) (⟨x.val % 4, by omega⟩ : Fin 4) ∨ txThresholdS s x <
    txSumS s (⟨x.val / 4, by omega⟩ : Fin 16) (⟨x.val % 4, by omega⟩ : Fin 4)) ∨ s.replayMuted = true)) ∧
  (∃ (s : State) (x : Fin 128), s.replayMuted = false ∧ ffThreshold (s.fld F.NRG_FF_LIM_LIM x) < ffSum s (⟨x.val / 8, by omega⟩ : Fin 16) (⟨x.val % 8,
    by omega⟩ : Fin 8) ∧ s.flag F.NRG_FF_STATUS_TRIP x = false) ∧
  (∃ (s : State) (x : Fin 128), (ffSum s (⟨x.val / 8, by omega⟩ : Fin 16) (⟨x.val % 8, by omega⟩ : Fin 8) ≤ ffThreshold (s.fld F.NRG_FF_LIM_LIM x) ∨
    s.replayMuted = true)) ∧
  (∃ (s : State) (g : Fin 512) (ua : Nat) (nj : Nat), s.replayMuted = false ∧ s.flag F.PIN_STATUS_GUARDED (⟨g.val / 32, by omega⟩ : Fin 16) (g.val % 32)
    = true ∧ (clampNat 1 200 (s.fld F.NRG_PIN_CFG_IMAX g) * 10 < ua ∨ clampNat 1 1000 (s.fld F.NRG_PIN_CFG_ELIM g) < nj) ∧ s.flag
    F.NRG_PIN_STATUS_TRIP g = false) ∧
  (∃ (s : State) (g : Fin 512) (ua : Nat) (nj : Nat), s.replayMuted = false ∧ s.flag F.PIN_STATUS_GUARDED (⟨g.val / 32, by omega⟩ : Fin 16) (g.val % 32)
    = true ∧ (¬(clampNat 1 200 (s.fld F.NRG_PIN_CFG_IMAX g) * 10 < ua ∨ clampNat 1 1000 (s.fld F.NRG_PIN_CFG_ELIM g) < nj))) := 
  ⟨⟨({ ((modPwr (((((State.reset.setFld F.PWR_BUDGET_MW_MW 1000).setFld F.PWR_BASE_MW_MW 100).setFld F.PWR_COST_MW 300 1).setFld F.TXC_STATUS_PWR 1 3 2).setFld F.PWR_RAMP_MW 2000) (fun x => { x with queue := [({ cls := 1, index := 14 }, 4)] }))) with now := 5 }),
    ({ cls := 1, index := 14 }), 4, by decide +kernel⟩,
   ⟨({ ((modPwr (((((State.reset.setFld F.PWR_BUDGET_MW_MW 1000).setFld F.PWR_BASE_MW_MW 100).setFld F.PWR_COST_MW 300 1).setFld F.TXC_STATUS_PWR 1 3 2).setFld F.PWR_RAMP_MW 2000) (fun x => { x with queue := [({ cls := 1, index := 14 }, 4)] }))) with now := 5 }),
    3, 2, 4, by decide +kernel⟩,
   ⟨({ ((modPwr (((((State.reset.setFld F.PWR_BUDGET_MW_MW 1000).setFld F.PWR_BASE_MW_MW 100).setFld F.PWR_COST_MW 900 1).setFld F.TXC_STATUS_PWR 1 3 2).setFld F.PWR_RAMP_MW 2000) (fun x => { x with queue := [({ cls := 1, index := 14 }, 4)], granted := [({ cls := 1, index := 3 }, 300)] }))) with now := 5 }),
    ({ cls := 1, index := 14 }), 4, by decide +kernel⟩,
   ⟨({ ((modPwr (((((State.reset.setFld F.PWR_BUDGET_MW_MW 1000).setFld F.PWR_BASE_MW_MW 100).setFld F.PWR_COST_MW 901 1).setFld F.TXC_STATUS_PWR 1 3 2).setFld F.PWR_RAMP_MW 2000) (fun x => { x with queue := [({ cls := 1, index := 14 }, 4)] }))) with now := 5 }),
    ({ cls := 1, index := 14 }), 4, by decide +kernel⟩,
   ⟨190000, by decide +kernel⟩,
   ⟨190001, by decide +kernel⟩,
   ⟨((modTx (State.reset.setFld F.NRG_TX_LIM_MS_LIM 0 14) 3 2 (fun c => { c with energy := [(0, 5)] }))), 14, by decide +kernel⟩,
   ⟨State.reset, 14, by decide +kernel⟩,
   ⟨((modFf (State.reset.setFld F.NRG_FF_LIM_LIM 0 29) 3 5 (fun c => { c with energy := [(0, 5)] }))), 29, by decide +kernel⟩,
   ⟨State.reset, 29, by decide +kernel⟩,
   ⟨((State.reset.setFlag F.PIN_STATUS_GUARDED true 3 4)), 100, 3000, 70000, by decide +kernel⟩,
   ⟨((State.reset.setFlag F.PIN_STATUS_GUARDED true 3 4)), 100, 10, 1, by decide +kernel⟩⟩

theorem witness_AdmissionAndGovernors_b :
  (∃ (s : State) (x : Fin 64), s.flag F.NRG_TX_STATUS_TRIP x = true ∧ txSumMs s (⟨x.val / 4, by omega⟩ : Fin 16) (⟨x.val % 4, by omega⟩ : Fin 4) * 256 ≤
    txThresholdMs s x * (max 1 (s.fld F.NRG_TX_CFG_REARM x)) ∧ txSumS s (⟨x.val / 4, by omega⟩ : Fin 16) (⟨x.val % 4, by omega⟩ : Fin 4) * 256 ≤
    txThresholdS s x * (max 1 (s.fld F.NRG_TX_CFG_REARM x))) ∧
  (∃ (s : State) (x : Fin 64), s.flag F.NRG_TX_STATUS_TRIP x = true ∧ ¬(txSumMs s (⟨x.val / 4, by omega⟩ : Fin 16) (⟨x.val % 4, by omega⟩ : Fin 4) * 256
    ≤ txThresholdMs s x * (max 1 (s.fld F.NRG_TX_CFG_REARM x)) ∧ txSumS s (⟨x.val / 4, by omega⟩ : Fin 16) (⟨x.val % 4, by omega⟩ : Fin 4) * 256 ≤
    txThresholdS s x * (max 1 (s.fld F.NRG_TX_CFG_REARM x)))) ∧
  (∃ (s : State) (x : Fin 128), s.flag F.NRG_FF_STATUS_TRIP x = true ∧ ffSum s (⟨x.val / 8, by omega⟩ : Fin 16) (⟨x.val % 8, by omega⟩ : Fin 8) * 256 ^
    2 ≤ ffThreshold (s.fld F.NRG_FF_LIM_LIM x * (max 1 (s.fld F.NRG_FF_CFG_REARM x)))) ∧
  (∃ (s : State) (x : Fin 128), s.flag F.NRG_FF_STATUS_TRIP x = true ∧ ¬(ffSum s (⟨x.val / 8, by omega⟩ : Fin 16) (⟨x.val % 8, by omega⟩ : Fin 8) * 256
    ^ 2 ≤ ffThreshold (s.fld F.NRG_FF_LIM_LIM x * (max 1 (s.fld F.NRG_FF_CFG_REARM x))))) := 
  ⟨⟨((State.reset.setFlag F.NRG_TX_STATUS_TRIP true 14)), 14, by decide +kernel⟩,
   ⟨(((modTx (State.reset.setFld F.NRG_TX_LIM_MS_LIM 0 14) 3 2 (fun c => { c with energy := [(0, 5)] })).setFlag F.NRG_TX_STATUS_TRIP true 14)), 14,
    by decide +kernel⟩,
   ⟨((State.reset.setFlag F.NRG_FF_STATUS_TRIP true 29)), 29, by decide +kernel⟩,
   ⟨(((modFf (State.reset.setFld F.NRG_FF_LIM_LIM 0 29) 3 5 (fun c => { c with energy := [(0, 5)] })).setFlag F.NRG_FF_STATUS_TRIP true 29)), 29,
    by decide +kernel⟩⟩

theorem witness_CalibrationSets_a :
  (∃ (s : State) (i : Fin 369), (convKind i).live = true ∧ convActive s i = true) ∧
  (∃ (s : State) (i : Fin 369), (convKind i).live = true ∧ convActive s i = true ∧ convKind i ≠ .central) ∧
  (∃ (s : State) (i : Fin 369) (first : Nat) (stop : Option Nat), convGap s i = some (first, stop) ∧ s.flag F.CAL_CFG_ENABLE = true ∧ calShed s = false
    ∧ ditherWanted s i = true ∧ convPowered s i = true ∧ (calConv s i).step = none ∧ first + 2 ≤ s.now ∧ ((stop.all fun e => decide (s.now + (convKind
    i).stepBeats ≤ e)) = true) ∧ convQuiet s i = true) ∧
  (∃ (s : State) (i : Fin 369) (k : Nat), (calConv s i).step = some k ∧ k + (convKind i).stepBeats ≤ s.now) ∧
  (∃ (s : State) (i : Fin 369) (k : Nat), (calConv s i).step = some k ∧ s.now < k + (convKind i).stepBeats ∧ ditherHolds s i = false) ∧
  (∃ (s : State) (i : Fin 369), s.flag F.CAL_CONV_STATUS_PEND i = false) ∧
  (∃ (s : State) (i : Fin 369) (path : Path) (cmd : Instr), cmd ∈ [Instr.stage path i, .stageAt path i] ∧ s.flag F.CAL_CONV_STATUS_PEND i = true) ∧
  (∃ (s : State) (i : Fin 369), s.flag F.CAL_CONV_STATUS_PEND i = false ∧ s.beat ≤ s.pair .CAL_APPLY_AT_LO .CAL_APPLY_AT_HI) ∧
  (∃ (s : State) (i : Fin 369), s.flag F.CAL_CONV_STATUS_PEND i = false ∧ s.pair .CAL_APPLY_AT_LO .CAL_APPLY_AT_HI < s.beat ∧ namedBarred s i = false ∧
    s.rpl.replaying = false ∧ convKind i ≠ .mad) ∧
  (∃ (s : State) (i : Fin 369), convKind i ≠ .mad ∧ s.flag F.CAL_CONV_STATUS_PEND i = true ∧ s.flag F.CAL_CONV_STATUS_PEND_AT i = false ∧ gapApplyOk s i
    = true ∧ s.rpl.replaying = false) ∧
  (∃ (s : State) (i : Fin 369), convKind i = .mad ∧ (s.sl (convSlice i)).mad.applyfAt ≠ some s.now ∧ s.flag F.CAL_CONV_STATUS_PEND i = true ∧ s.flag
    F.CAL_CONV_STATUS_PEND_AT i = false ∧ gapApplyOk s i = true ∧ s.rpl.replaying = false) ∧
  (∃ (s : State) (i : Fin 369), convKind i ≠ .mad ∧ s.flag F.CAL_CONV_STATUS_PEND_AT i = true ∧ (calConv s i).pendTick ≤ s.now ∧ namedBarred s i = false
    ∧ s.rpl.replaying = false) := 
  ⟨⟨((modCal (State.reset) 368 (fun x => { x with block := true }))), 368, by decide +kernel⟩,
   ⟨(((State.reset.setFld F.PWR_DOM_STATE 0 19).setFld F.RXC_STATUS_PWR 3 3 1)), 74, by decide +kernel⟩,
   ⟨({ (((State.reset.setFlag F.CAL_CFG_ENABLE true).setFlag F.MGT_STATUS_SHED false)) with now := 2 }), 368, 0, none, by decide +kernel⟩,
   ⟨({ ((modCal (((State.reset.setFlag F.CAL_CFG_ENABLE true).setFlag F.MGT_STATUS_SHED false)) 368 (fun x => { x with step := some 0, steps := 2 ^ 20 - 7 }))) with now := 16 }),
    368, 0, by decide +kernel⟩,
   ⟨((modCal (((State.reset.setFlag F.CAL_CFG_ENABLE true).setFlag F.MGT_STATUS_SHED false)) 69 (fun x => { x with step := some 0, steps := 5 }))), 69,
    0, by decide +kernel⟩,
   ⟨State.reset, 368, by decide +kernel⟩,
   ⟨(((((State.reset.setFlag F.CAL_CFG_ENABLE true).setFlag F.MGT_STATUS_SHED false).setFlag F.CAL_CONV_STATUS_PEND true 368).setFlag
    F.CAL_CONV_STATUS_PEND_AT false 368)), 368, .host, (Instr.stage .host 368), by decide +kernel⟩,
   ⟨((State.reset.setPair .CAL_APPLY_AT_LO .CAL_APPLY_AT_HI 500)), 368, by decide +kernel⟩,
   ⟨({ State.reset with beat := 5, now := 5 }), 368, by decide +kernel⟩,
   ⟨((modCal (((((State.reset.setFlag F.CAL_CFG_ENABLE true).setFlag F.MGT_STATUS_SHED false).setFlag F.CAL_CONV_STATUS_PEND true 368).setFlag
    F.CAL_CONV_STATUS_PEND_AT false 368)) 368 (fun x => { x with pendSrc := 5 }))), 368, by decide +kernel⟩,
   ⟨({ ((modCal (((((State.reset.setFlag F.CAL_CFG_ENABLE true).setFlag F.MGT_STATUS_SHED false).setFlag F.CAL_CONV_STATUS_PEND true 91).setFlag F.CAL_CONV_STATUS_PEND_AT false 91)) 91 (fun x => { x with pendSrc := 4 }))) with cal := { ((modCal (((((State.reset.setFlag F.CAL_CFG_ENABLE true).setFlag F.MGT_STATUS_SHED false).setFlag F.CAL_CONV_STATUS_PEND true 91).setFlag F.CAL_CONV_STATUS_PEND_AT false 91)) 91 (fun x => { x with pendSrc := 4 }))).cal with haltSince := Vector.replicate 16 1 }, now := 100 }),
    91, by decide +kernel⟩,
   ⟨({ ((modCal (((((State.reset.setFlag F.CAL_CFG_ENABLE true).setFlag F.MGT_STATUS_SHED false).setFlag F.CAL_CONV_STATUS_PEND true 73).setFlag F.CAL_CONV_STATUS_PEND_AT true 73)) 73 (fun x => { x with pendSrc := 5, pendTick := 9 }))) with now := 9 }),
    73, by decide +kernel⟩⟩

theorem witness_CalibrationSets_b :
  (∃ (s : State) (i : Fin 369), (s.flag F.CAL_CONV_STATUS_PEND_AT i = false ∨ s.now < (calConv s i).pendTick)) ∧
  (∃ (s : State), s.cal.agedAt + 250000 ≤ s.now) ∧
  (∃ (s : State), s.now < s.cal.agedAt + 250000) := 
  ⟨⟨State.reset, 368, by decide +kernel⟩,
   ⟨({ (State.reset) with now := 250000 }), by decide +kernel⟩,
   ⟨State.reset, by decide +kernel⟩⟩

theorem witness_ForegroundAndVault :
  (∃ (s : State) (n : Fin 16), fgAllowed s n = true) ∧
  (∃ (s : State) (n : Fin 16), fgAllowed s n = false) ∧
  (∃ (s : State) (n : Fin 16), s.fld F.CAL_FG_STATUS_STATE n ≠ 0) ∧
  (∃ (s : State) (n : Fin 16), s.fld F.CAL_FG_STATUS_STATE n ≠ 0 ∧ fgDisturbed s n = true) ∧
  (∃ (s : State) (n : Fin 16), s.fld F.CAL_FG_STATUS_STATE n = 2 ∧ fgDisturbed s n = false ∧ s.cal.fgStart.get n + 5000000 ≤ s.now) ∧
  (∃ (s : State) (n : Fin 16), s.fld F.CAL_FG_STATUS_STATE n = 2 ∧ fgDisturbed s n = false ∧ s.cal.fgStart.get n + 5000000 ≤ s.now) ∧
  (∃ (s : State) (k : Fin 17), calShed s = false ∧ (s.cal.savedAt.get k = 0 ∨ s.cal.savedAt.get k + max 1 (s.fld F.CAL_CFG_SAVE_MIN) * 15000000000 ≤
    s.now)) ∧
  (∃ (s : State) (k : Fin 17), (calShed s = true ∨ (s.cal.savedAt.get k ≠ 0 ∧ s.now < s.cal.savedAt.get k + max 1 (s.fld F.CAL_CFG_SAVE_MIN) *
    15000000000))) ∧
  (∃ (s : State) (k : Nat) (rest : List Nat), s.cal.saving = k :: rest ∧ k ≤ 16 ∧ calShed s = false ∧ s.boot.op = none) ∧
  (∃ (s : State) (k : Nat) (rest : List Nat), s.cal.saving = k :: rest ∧ k ≤ 16 ∧ calShed s = false ∧ s.boot.op = none) := 
  ⟨⟨((((State.reset.setFld F.PWR_DOM_STATE 0 3).setFld F.PWR_DOM_STATE 0 19))), 3, by decide +kernel⟩,
   ⟨((State.reset.setFld F.CAL_FG_STATUS_STATE 1 3)), 3, by decide +kernel⟩,
   ⟨((State.reset.setFld F.CAL_FG_STATUS_STATE 2 3)), 3, by decide +kernel⟩,
   ⟨((setWheelState ((State.reset.setFld F.CAL_FG_STATUS_STATE 2 3)) 3 2)), 3, by decide +kernel⟩,
   ⟨({ ((((State.reset.setFld F.PWR_DOM_STATE 0 3).setFld F.PWR_DOM_STATE 0 19).setFld F.CAL_FG_STATUS_STATE 2 3)) with now := 5000000 }), 3,
    by decide +kernel⟩,
   ⟨({ ((((State.reset.setFld F.PWR_DOM_STATE 0 3).setFld F.PWR_DOM_STATE 0 19).setFld F.CAL_FG_STATUS_STATE 2 3)) with now := 5000000 }), 3,
    by decide +kernel⟩,
   ⟨({ ((State.reset.setFlag F.MGT_STATUS_SHED false)) with now := 10 ^ 14 }), 16, by decide +kernel⟩,
   ⟨State.reset, 16, by decide +kernel⟩,
   ⟨({ ((State.reset.setFlag F.MGT_STATUS_SHED false)) with cal := { ((State.reset.setFlag F.MGT_STATUS_SHED false)).cal with saving := [16] } }), 16,
    ([]), by decide +kernel⟩,
   ⟨({ ((State.reset.setFlag F.MGT_STATUS_SHED false)) with cal := { ((State.reset.setFlag F.MGT_STATUS_SHED false)).cal with saving := [16] } }), 16,
    ([]), by decide +kernel⟩⟩

theorem witness_FaultReports :
  (∃ (s : State) (p : FaultPair), s.flt.raised = [] ∧ s.flt.inFault = [] ∧ s.flt.broken = [] ∧ s.flt.inject = none ∧ s.flt.tests = [] ∧ srcDefined s
    p.src = true ∧ p.src < 256 ∧ classPend s (srcClass p.src) = false ∧ srcTest p.src = .none_ ∧ s.flag F.FLT_CLASS_CFG_AUTO_ACK (srcClass p.src) =
    false ∧ p.scope < 32 ∧ s.fld F.FLT_SRC_CFG_LEVEL p.src = 1 ∧ s.flag F.GLB_IMG_STATUS_BUSY = false ∧ fltState s = 0) ∧
  (∃ (s : State) (p : FaultPair), p ∈ s.flt.inFault ∧ p.src ≠ Src.DIE_LINK ∧ s.flt.raised = [] ∧ s.flt.inject = none ∧ ((∀ q, q ∈ s.flt.inFault → q.src
    ≠ Src.DIE_LINK)) ∧ s.flt.broken = []) ∧
  (∃ (s : State) (p : FaultPair), s.flt.inFault = [p] ∧ p.src ≠ Src.DIE_LINK ∧ s.flt.raised = [] ∧ s.flt.inject = none ∧ s.flt.broken = []) ∧
  (∃ (s : State), ((∀ p : Fin 4, s.ktlState p ≠ 0))) ∧
  (∃ (s : State), s.flag F.FLT_INJECT_BUSY = false ∧ srcDefined s (s.fld F.FLT_INJECT_SOURCE) = true ∧ s.fld F.FLT_INJECT_MODE ≠ 3) ∧
  (∃ (s : State), (s.flag F.FLT_INJECT_BUSY = true ∨ srcDefined s (s.fld F.FLT_INJECT_SOURCE) = false ∨ s.fld F.FLT_INJECT_MODE = 3)) := 
  ⟨⟨(((State.reset.setFld F.FLT_SRC_CFG_LEVEL 1 Src.PWR_OVER).setFlag F.FLT_SRC_CFG_DEFINED true Src.PWR_OVER)),
    ({ src := Src.PWR_OVER, scope := 16, index := 7 }), by decide +kernel⟩,
   ⟨((modFlt (State.reset) (fun x => { x with inFault := [{ src := Src.PWR_OVER, scope := 16, index := 7 }] }))),
    ({ src := Src.PWR_OVER, scope := 16, index := 7 }), by decide +kernel⟩,
   ⟨((modFlt (State.reset) (fun x => { x with inFault := [{ src := Src.PWR_OVER, scope := 16, index := 7 }] }))),
    ({ src := Src.PWR_OVER, scope := 16, index := 7 }), by decide +kernel⟩,
   ⟨(((((setPend State.reset 5 true).setFld F.KTL_PORT_STATUS_STATE 3 0).setFld F.KTL_PORT_STATUS_STATE 3 1).setFld F.KTL_PORT_STATUS_STATE 3 2).setFld
    F.KTL_PORT_STATUS_STATE 3 3), by decide +kernel⟩,
   ⟨(((State.reset.setFld F.FLT_INJECT_SOURCE 0xA2).setFlag F.FLT_SRC_CFG_DEFINED true 0xA2)), by decide +kernel⟩,
   ⟨((State.reset.setFlag F.FLT_INJECT_BUSY true)), by decide +kernel⟩⟩

theorem witness_SelfTestsAndRecovery :
  (∃ (s : State) (t0 : SelfTest), s.flt.tests = [t0] ∧ t0.oldest.isSome = true ∧ t0.started = none ∧ s.flag F.MGT_STATUS_SHED = false ∧ testReady s t0 =
    true) ∧
  (∃ (s : State), (s.flag F.MGT_STATUS_SHED = true ∨ s.flt.tests = [])) ∧
  (∃ (s : State) (t0 : SelfTest) (k : Nat) (place : BitVec 5), s.flt.tests = [t0] ∧ s.flag F.FLT_CLASS_CFG_AUTO_ACK (srcClass t0.pair.src) = false ∧
    t0.log < 256 ∧ t0.started = some k ∧ testPlace t0.pair.scope = place.toNat ∧ k + (srcTest t0.pair.src).beats ≤ s.now ∧ srcTest t0.pair.src ≠
    .refetch ∧ srcTest t0.pair.src ≠ .march) ∧
  (∃ (s : State) (t0 : SelfTest) (k : Nat) (place : BitVec 5), s.flt.tests = [t0] ∧ s.flag F.FLT_CLASS_CFG_AUTO_ACK (srcClass t0.pair.src) = false ∧
    t0.log < 256 ∧ t0.oldest = some k ∧ t0.started = none ∧ testPlace t0.pair.scope = place.toNat ∧ k + max 1 (s.fld F.FLT_ST_WAIT_MS) * 250000 ≤
    s.now ∧ s.fld F.FLT_SRC_CFG_PLEVEL t0.pair.src ≤ t0.level ∧ fltState s = 0 ∧ t0.episode = false) ∧
  (∃ (s : State), fltState s = 1 ∧ episodeTested s = true ∧ s.flt.devicePersistent = true) ∧
  (∃ (s : State), fltState s = 1 ∧ episodeTested s = true ∧ s.flt.devicePersistent = false ∧ (s.flag F.FLT_CFG_AUTO_RECOVER = true ∨ s.flt.recoverAsked
    = true) ∧ chnFollows s = false) ∧
  (∃ (s : State), (fltState s ≠ 1 ∨ episodeTested s = false)) ∧
  (∃ (s : State), fltState s = 1) ∧
  (∃ (s : State), fltState s = 3 ∧ episodeTested s = true ∧ s.flt.devicePersistent = false ∧ chnFollows s = false) ∧
  (∃ (s : State), fltState s = 3 ∧ (episodeTested s = false ∨ s.flt.devicePersistent = true)) := 
  ⟨⟨((modFlt ((State.reset.setFlag F.MGT_STATUS_SHED false)) (fun x =>
    { x with tests := [{ log := 3, pair := { src := 0x70, scope := 16, index := 0 }, level := 1, oldest := some 0, started := none, episode := false, overwritten := false }] }))),
    ({ log := 3, pair := { src := 0x70, scope := 16, index := 0 }, level := 1, oldest := some 0, started := none, episode := false, overwritten := false }),
    by decide +kernel⟩,
   ⟨State.reset, by decide +kernel⟩,
   ⟨({ ((modFlt (State.reset) (fun x => { x with tests := [{ log := 3, pair := { src := 0x70, scope := 16, index := 0 }, level := 1, oldest := some 0, started := some 0, episode := false, overwritten := false }] }))) with now := 10 ^ 7 }),
    ({ log := 3, pair := { src := 0x70, scope := 16, index := 0 }, level := 1, oldest := some 0, started := some 0, episode := false, overwritten := false }),
    0, 16, by decide +kernel⟩,
   ⟨({ ((modFlt (State.reset) (fun x => { x with tests := [{ log := 3, pair := { src := 0x70, scope := 16, index := 0 }, level := 3, oldest := some 0, started := none, episode := false, overwritten := false }] }))) with now := 10 ^ 9 }),
    ({ log := 3, pair := { src := 0x70, scope := 16, index := 0 }, level := 3, oldest := some 0, started := none, episode := false, overwritten := false }),
    0, 16, by decide +kernel⟩,
   ⟨((modFlt ((State.reset.setFld F.FLT_STATUS_STATE 1)) (fun x => { x with devicePersistent := true }))), by decide +kernel⟩,
   ⟨((modFlt ((State.reset.setFld F.FLT_STATUS_STATE 1)) (fun x => { x with recoverAsked := true }))), by decide +kernel⟩,
   ⟨State.reset, by decide +kernel⟩,
   ⟨((State.reset.setFld F.FLT_STATUS_STATE 1)), by decide +kernel⟩,
   ⟨(((State.reset.setFld F.FLT_STATUS_STATE 3).setFld F.FLT_STATUS_RESTARTS 5)), by decide +kernel⟩,
   ⟨((modFlt ((State.reset.setFld F.FLT_STATUS_STATE 3)) (fun x => { x with devicePersistent := true }))), by decide +kernel⟩⟩

theorem witness_JournalAndReplay_a :
  (∃ (s : State), s.rplState = 0 ∧ s.rpl.buffer.length + 18 ≤ 4096 ∧ ringRecords s < ringCap s - 8) ∧
  (∃ (s : State), (s.rplState = 2 ∨ s.rplState = 3)) ∧
  (∃ (s : State), s.rplState = 1 ∧ s.rpl.runs = [] ∧ s.rpl.advances = [] ∧ s.rpl.fresh = []) ∧
  (∃ (s : State), s.rplState ≠ 1) ∧
  (∃ (s : State), s.rpl.fresh = [] ∧ s.rpl.buffer.length % 8 ≠ 0 ∧ s.rpl.partialSince + 256 ≤ s.now) ∧
  (∃ (s : State), s.rpl.fresh = [] ∧ (s.rpl.buffer.length % 8 = 0 ∨ s.now < s.rpl.partialSince + 256)) ∧
  (∃ (s : State), s.rpl.fresh = []) ∧
  (∃ (s : State) (rp : BitVec 32), rp.toNat < ringCap s ∧ (rp.toNat + ringCap s - s.fld F.RPL_RP_OFFSET % ringCap s) % ringCap s ≤ ringRecords s) ∧
  (∃ (s : State) (rp : BitVec 32), (ringCap s ≤ rp.toNat ∨ ringRecords s < (rp.toNat + ringCap s - s.fld F.RPL_RP_OFFSET % ringCap s) % ringCap s)) ∧
  (∃ (s : State), ((!s.flag F.RPL_CFG_EN && wheelsStopped s && (List.finRange 16).all (fun n => seqState s n == SeqCode.halted) && chnRole s == 0 &&
    (s.pair .RPL_ANCHOR_LO .RPL_ANCHOR_HI) % 16 == 0) = true)) ∧
  (∃ (s : State), ((!s.flag F.RPL_CFG_EN && wheelsStopped s && (List.finRange 16).all (fun n => seqState s n == SeqCode.halted) && chnRole s == 0 &&
    (s.pair .RPL_ANCHOR_LO .RPL_ANCHOR_HI) % 16 == 0) = false)) ∧
  (∃ (s : State) (k : Nat), s.rpl.replayAt = some k ∧ k ≤ s.now ∧ s.flag F.RPL_CFG_MUTE = false) := 
  ⟨⟨State.reset, by decide +kernel⟩,
   ⟨((State.reset.setFld F.RPL_STATUS_STATE 3)), by decide +kernel⟩,
   ⟨((modRpl ((State.reset.setFld F.RPL_STATUS_STATE 1)) (fun x =>
    { x with buffer := [{ type := JType.REG_WRITE, src := 3, index := 0, beat := 4, data := 5 }] }))), by decide +kernel⟩,
   ⟨((State.reset.setFld F.RPL_STATUS_STATE 2)), by decide +kernel⟩,
   ⟨({ ((modRpl ((State.reset.setFld F.RPL_STATUS_STATE 1)) (fun x => { x with buffer := [{ type := JType.REG_WRITE, src := 3, index := 0, beat := 4, data := 5 }] }))) with now := 256 }),
    by decide +kernel⟩,
   ⟨State.reset, by decide +kernel⟩,
   ⟨((modRpl ((State.reset.setFld F.RPL_STATUS_STATE 1)) (fun x =>
    { x with buffer := [{ type := JType.REG_WRITE, src := 3, index := 0, beat := 4, data := 5 }] }))), by decide +kernel⟩,
   ⟨((State.reset.setFld F.RPL_WP_OFFSET 16)), 8, by decide +kernel⟩,
   ⟨State.reset, 8, by decide +kernel⟩,
   ⟨State.reset, by decide +kernel⟩,
   ⟨((State.reset.setFlag F.RPL_CFG_EN true)), by decide +kernel⟩,
   ⟨({ ((modRpl ((State.reset.setPair .RPL_ANCHOR_LO .RPL_ANCHOR_HI 32)) (fun x => { x with replayAt := some 32 }))) with now := 32 }), 32,
    by decide +kernel⟩⟩

theorem witness_JournalAndReplay_b :
  (∃ (s : State) (k : Nat), s.rpl.replayAt = some k ∧ k ≤ s.now ∧ s.flag F.RPL_CFG_MUTE = true) ∧
  (∃ (s : State), ((s.rpl.replayAt.all fun k => decide (s.now < k)) = true)) ∧
  (∃ (s : State) (r : JRecord), s.rplState = 2 ∧ s.flt.inject = none ∧ s.cstore.double = [] ∧ s.storeOn .central = true ∧ ¬(s.fld F.RPL_REPLAY_RP_OFFSET
    % ringCap s = s.fld F.RPL_REPLAY_WP_OFFSET % ringCap s) ∧ JRecord.ofBytes (s.cstore.read ((s.fld F.RPL_RING_BASE_LINE * 128 + s.fld
    F.RPL_REPLAY_RP_OFFSET % ringCap s * 16) % 2 ^ 24) 16) = r ∧ r.type = JType.PAD) ∧
  (∃ (s : State) (r : JRecord), s.rplState = 2 ∧ s.flt.inject = none ∧ s.cstore.double = [] ∧ s.storeOn .central = true ∧ ¬(s.fld F.RPL_REPLAY_RP_OFFSET
    % ringCap s = s.fld F.RPL_REPLAY_WP_OFFSET % ringCap s) ∧ JRecord.ofBytes (s.cstore.read ((s.fld F.RPL_RING_BASE_LINE * 128 + s.fld
    F.RPL_REPLAY_RP_OFFSET % ringCap s * 16) % 2 ^ 24) 16) = r ∧ r.type = JType.SYNC) ∧
  (∃ (s : State) (r : JRecord), s.rplState = 2 ∧ s.flt.inject = none ∧ s.cstore.double = [] ∧ s.storeOn .central = true ∧ ¬(s.fld F.RPL_REPLAY_RP_OFFSET
    % ringCap s = s.fld F.RPL_REPLAY_WP_OFFSET % ringCap s) ∧ JRecord.ofBytes (s.cstore.read ((s.fld F.RPL_RING_BASE_LINE * 128 + s.fld
    F.RPL_REPLAY_RP_OFFSET % ringCap s * 16) % 2 ^ 24) 16) = r ∧ r.type = JType.ANCHOR ∧ fullBeat s r.beat = s.beat ∧ s.rpl.skipTo ≤ s.beat ∧
    wheelState s (toFin 16 r.index) = 0) ∧
  (∃ (s : State) (r : JRecord), s.rplState = 2 ∧ s.flt.inject = none ∧ s.cstore.double = [] ∧ s.storeOn .central = true ∧ ¬(s.fld F.RPL_REPLAY_RP_OFFSET
    % ringCap s = s.fld F.RPL_REPLAY_WP_OFFSET % ringCap s) ∧ JRecord.ofBytes (s.cstore.read ((s.fld F.RPL_RING_BASE_LINE * 128 + s.fld
    F.RPL_REPLAY_RP_OFFSET % ringCap s * 16) % 2 ^ 24) 16) = r ∧ r.type = JType.DECISION ∧ fullBeat s r.beat = s.beat ∧ s.rpl.skipTo ≤ s.beat) ∧
  (∃ (s : State) (r : JRecord), s.rplState = 2 ∧ s.flt.inject = none ∧ s.cstore.double = [] ∧ s.storeOn .central = true ∧ ¬(s.fld F.RPL_REPLAY_RP_OFFSET
    % ringCap s = s.fld F.RPL_REPLAY_WP_OFFSET % ringCap s) ∧ JRecord.ofBytes (s.cstore.read ((s.fld F.RPL_RING_BASE_LINE * 128 + s.fld
    F.RPL_REPLAY_RP_OFFSET % ringCap s * 16) % 2 ^ 24) 16) = r ∧ r.type = JType.GAP ∧ fullBeat s r.beat = s.beat ∧ s.rpl.skipTo ≤ s.beat) ∧
  (∃ (s : State) (r : JRecord), s.rplState = 2 ∧ s.flt.inject = none ∧ s.cstore.double = [] ∧ s.storeOn .central = true ∧ ¬(s.fld F.RPL_REPLAY_RP_OFFSET
    % ringCap s = s.fld F.RPL_REPLAY_WP_OFFSET % ringCap s) ∧ JRecord.ofBytes (s.cstore.read ((s.fld F.RPL_RING_BASE_LINE * 128 + s.fld
    F.RPL_REPLAY_RP_OFFSET % ringCap s * 16) % 2 ^ 24) 16) = r ∧ JType.GAP ≤ r.type ∧ r.type ≠ JType.IMAGE ∧ r.type ≠ JType.RELOAD ∧ s.beat < fullBeat
    s r.beat ∧ s.rpl.skipTo ≤ fullBeat s r.beat) ∧
  (∃ (s : State) (r : JRecord), s.rplState = 2 ∧ s.flt.inject = none ∧ s.cstore.double = [] ∧ s.storeOn .central = true ∧ ¬(s.fld F.RPL_REPLAY_RP_OFFSET
    % ringCap s = s.fld F.RPL_REPLAY_WP_OFFSET % ringCap s) ∧ JRecord.ofBytes (s.cstore.read ((s.fld F.RPL_RING_BASE_LINE * 128 + s.fld
    F.RPL_REPLAY_RP_OFFSET % ringCap s * 16) % 2 ^ 24) 16) = r ∧ JType.GAP ≤ r.type ∧ r.type ≠ JType.IMAGE ∧ r.type ≠ JType.RELOAD ∧ fullBeat s r.beat
    < s.beat ∧ s.rpl.skipTo ≤ fullBeat s r.beat) ∧
  (∃ (s : State), s.rplState = 2 ∧ s.fld F.RPL_REPLAY_RP_OFFSET % ringCap s = s.fld F.RPL_REPLAY_WP_OFFSET % ringCap s) ∧
  (∃ (s : State), s.rplState = 2) ∧
  (∃ (s : State) (c : Instr), c ∈ [Instr.stop, .replayStarved, .replayRecord] ∧ s.rplState ≠ 2) := 
  ⟨⟨({ ((modRpl ((State.reset.setFlag F.RPL_CFG_MUTE true)) (fun x => { x with replayAt := some 32 }))) with now := 32 }), 32, by decide +kernel⟩,
   ⟨State.reset, by decide +kernel⟩,
   ⟨({ ((((State.reset.setFld F.RPL_STATUS_STATE 2).setFld F.GLB_CSTORE_PWR_STATE 0).setFld F.RPL_REPLAY_WP_OFFSET 8)) with cstore := State.reset.cstore.writeBytes 0 [0, 16, 0, 0, 0, 0, 0, 0, 0, 0, 0, 0, 0, 0, 0, 0], beat := 100, rpl := { State.reset.rpl with replaying := true, lastBeat := 100 } }),
    ({ type := 0, src := 16, index := 0, beat := 0, data := 0 }), by decide +kernel⟩,
   ⟨({ ((((State.reset.setFld F.RPL_STATUS_STATE 2).setFld F.GLB_CSTORE_PWR_STATE 0).setFld F.RPL_REPLAY_WP_OFFSET 8)) with cstore := State.reset.cstore.writeBytes 0 [1, 16, 0, 0, 100, 0, 0, 0, 100, 0, 0, 0, 0, 0, 0, 0], beat := 100, rpl := { State.reset.rpl with replaying := true, lastBeat := 100 } }),
    ({ type := 1, src := 16, index := 0, beat := 100, data := 100 }), by decide +kernel⟩,
   ⟨({ ((((State.reset.setFld F.RPL_STATUS_STATE 2).setFld F.GLB_CSTORE_PWR_STATE 0).setFld F.RPL_REPLAY_WP_OFFSET 8)) with cstore := State.reset.cstore.writeBytes 0 [6, 16, 5, 0, 100, 0, 0, 0, 0, 0, 0, 0, 0, 0, 0, 0], beat := 100, rpl := { State.reset.rpl with replaying := true, lastBeat := 100 } }),
    ({ type := 6, src := 16, index := 5, beat := 100, data := 0 }), by decide +kernel⟩,
   ⟨({ ((((State.reset.setFld F.RPL_STATUS_STATE 2).setFld F.GLB_CSTORE_PWR_STATE 0).setFld F.RPL_REPLAY_WP_OFFSET 8)) with cstore := State.reset.cstore.writeBytes 0 [80, 16, 7, 0, 100, 0, 0, 0, 9, 0, 0, 0, 0, 0, 0, 0], beat := 100, rpl := { State.reset.rpl with replaying := true, lastBeat := 100 } }),
    ({ type := 80, src := 16, index := 7, beat := 100, data := 9 }), by decide +kernel⟩,
   ⟨({ ((((State.reset.setFld F.RPL_STATUS_STATE 2).setFld F.GLB_CSTORE_PWR_STATE 0).setFld F.RPL_REPLAY_WP_OFFSET 8)) with cstore := State.reset.cstore.writeBytes 0 [2, 16, 0, 0, 100, 0, 0, 0, 0, 0, 0, 0, 0, 0, 0, 0], beat := 100, rpl := { State.reset.rpl with replaying := true, lastBeat := 100 } }),
    ({ type := 2, src := 16, index := 0, beat := 100, data := 0 }), by decide +kernel⟩,
   ⟨({ ((((State.reset.setFld F.RPL_STATUS_STATE 2).setFld F.GLB_CSTORE_PWR_STATE 0).setFld F.RPL_REPLAY_WP_OFFSET 8)) with cstore := State.reset.cstore.writeBytes 0 [6, 16, 0, 0, 101, 0, 0, 0, 0, 0, 0, 0, 0, 0, 0, 0], beat := 100, rpl := { State.reset.rpl with replaying := true, lastBeat := 100 } }),
    ({ type := 6, src := 16, index := 0, beat := 101, data := 0 }), by decide +kernel⟩,
   ⟨({ ((((State.reset.setFld F.RPL_STATUS_STATE 2).setFld F.GLB_CSTORE_PWR_STATE 0).setFld F.RPL_REPLAY_WP_OFFSET 8)) with cstore := State.reset.cstore.writeBytes 0 [6, 16, 0, 0, 99, 0, 0, 0, 0, 0, 0, 0, 0, 0, 0, 0], beat := 100, rpl := { State.reset.rpl with replaying := true, lastBeat := 100 } }),
    ({ type := 6, src := 16, index := 0, beat := 99, data := 0 }), by decide +kernel⟩,
   ⟨((modRpl ((setSeqState (setVecState ((State.reset.setFld F.RPL_STATUS_STATE 2)) 3 2) 3 1)) (fun x => { x with replaying := true }))),
    by decide +kernel⟩,
   ⟨((modRpl ((setSeqState (setVecState ((State.reset.setFld F.RPL_STATUS_STATE 2)) 3 2) 3 1)) (fun x => { x with replaying := true }))),
    by decide +kernel⟩,
   ⟨State.reset, Instr.stop, by decide +kernel⟩⟩

theorem witness_BootPhases_a :
  (∃ (s : State), s.inReset = false ∧ s.fld F.BOOT_STATUS_PHASE = 1 ∧ s.flag F.INV_STATUS_LOCK = true) ∧
  (∃ (s : State), s.inReset = false ∧ s.fld F.BOOT_STATUS_PHASE = 1 ∧ s.flag F.INV_STATUS_LOCK = false) ∧
  (∃ (s : State), s.inReset = false ∧ s.fld F.BOOT_STATUS_PHASE = 2 ∧ anyKey s = true) ∧
  (∃ (s : State), s.inReset = false ∧ s.fld F.BOOT_STATUS_PHASE = 2 ∧ anyKey s = false) ∧
  (∃ (s : State) (table : Option Bool) (large : Bool), s.inReset = false ∧ s.fld F.BOOT_STATUS_PHASE = 2 ∧ anyKey s = true ∧ (table = none ∨ large =
    false)) ∧
  (∃ (s : State), s.inReset = false ∧ s.fld F.BOOT_STATUS_PHASE = 3 ∧ numAt (flashRead s.boot 0x810000 128) 0 4 ≠ 0x1664B0C0 ∧ s.flag F.BOOT_CFG_BIST =
    false ∧ chnFollows s = false ∧ s.flag F.BOOT_CFG_AUTO_JOIN = false) ∧
  (∃ (s : State), s.inReset = false ∧ s.fld F.BOOT_STATUS_PHASE = 4 ∧ chnFollows s = false ∧ s.flag F.BOOT_CFG_AUTO_JOIN = false) ∧
  (∃ (s : State), s.inReset = false ∧ s.fld F.BOOT_STATUS_PHASE = 4) ∧
  (∃ (s : State), s.inReset = false ∧ s.fld F.BOOT_STATUS_PHASE = 5 ∧ chnAligned s = true ∧ s.flag F.BOOT_CFG_AUTO_JOIN = false) ∧
  (∃ (s : State), s.inReset = false ∧ s.fld F.BOOT_STATUS_PHASE = 6 ∧ s.flag F.KTL_STATUS_JOIN_DONE = true) ∧
  (∃ (s : State), s.inReset = false ∧ s.fld F.BOOT_STATUS_PHASE = 6 ∧ s.flag F.KTL_STATUS_JOIN_DONE = false ∧ ktlMember s ≠ 3 ∧ s.boot.since + max 1
    (s.fld F.BOOT_CFG_JOIN_TMO) * 25000000 ≤ s.now) ∧
  (∃ (s : State), s.inReset = false ∧ s.fld F.BOOT_STATUS_PHASE = 7 ∧ (imageChecks s { flash := true, base := imgBase false } false allSections []).1 ≠
    0 ∧ (imageChecks s { flash := true, base := imgBase true } false allSections []).1 ≠ 0) := 
  ⟨⟨((locked (State.reset.setFld F.BOOT_STATUS_PHASE 1))), by decide +kernel⟩,
   ⟨((State.reset.setFld F.BOOT_STATUS_PHASE 1)), by decide +kernel⟩,
   ⟨(((State.reset.setFld F.BOOT_FUSES_VALID 1).setFld F.BOOT_STATUS_PHASE 2)), by decide +kernel⟩,
   ⟨((State.reset.setFld F.BOOT_STATUS_PHASE 2)), by decide +kernel⟩,
   ⟨(((State.reset.setFld F.BOOT_FUSES_VALID 1).setFld F.BOOT_STATUS_PHASE 2)), (some true), false, by decide +kernel⟩,
   ⟨(((State.reset.setFld F.BOOT_STATUS_PHASE 3).setFlag F.BOOT_CFG_BIST false)), by decide +kernel⟩,
   ⟨({ (State.reset.setFld F.BOOT_STATUS_PHASE 4) with cstore := State.reset.cstore.writeBytes 5 [7] }), by decide +kernel⟩,
   ⟨((State.reset.setFld F.BOOT_STATUS_PHASE 4)), by decide +kernel⟩,
   ⟨((locked (State.reset.setFld F.BOOT_STATUS_PHASE 5))), by decide +kernel⟩,
   ⟨(((State.reset.setFld F.BOOT_STATUS_PHASE 6).setFlag F.KTL_STATUS_JOIN_DONE true)), by decide +kernel⟩,
   ⟨({ ((State.reset.setFld F.BOOT_STATUS_PHASE 6)) with now := 10 ^ 12 }), by decide +kernel⟩,
   ⟨((State.reset.setFld F.BOOT_STATUS_PHASE 7)), by decide +kernel⟩⟩

theorem witness_BootPhases_b :
  (∃ (s : State), s.inReset = false ∧ s.fld F.BOOT_STATUS_PHASE = 8 ∧ ((∀ n : Fin 16, s.fld F.CAL_FG_STATUS_STATE n = 0))) := ⟨((State.reset.setFld F.BOOT_STATUS_PHASE 8)), by decide +kernel⟩

theorem witness_DirectoryKeysFlash_a :
  (∃ (s : State), s.inReset = false ∧ (dirNow s.boot).seq < 2 ^ 32) ∧
  (∃ (s : State), s.inReset = false ∧ (dirNow s.boot).seq < 2 ^ 32) ∧
  (∃ (s : State), s.inReset = false ∧ (dirNow s.boot).fwTrial = false ∧ s.fld F.BOOT_FUSES_SECVER < min (min s.mgt.secver s.img.secver) 64) ∧
  (∃ (s : State), s.inReset = false ∧ ((dirNow s.boot).fwTrial = true ∨ min (min s.mgt.secver s.img.secver) 64 ≤ s.fld F.BOOT_FUSES_SECVER)) ∧
  (∃ (s : State), s.inReset = false ∧ (dirNow s.boot).seq < 2 ^ 32) ∧
  (∃ (s : State), s.inReset = false ∧ bitAt (s.fld F.BOOT_FUSES_LOCKED) (s.fld F.BOOT_KEY_PROG_INDEX) = false ∧ s.fld F.BOOT_KEY_PROG_SRC * 256 + 96 ≤
    0x1000000 ∧ s.storeOn .central = true ∧ s.cstore.double = [] ∧ s.flt.inject = none ∧ s.fld F.BOOT_KEY_PROG_INDEX < 4) ∧
  (∃ (s : State), s.inReset = false ∧ bitAt (s.fld F.BOOT_FUSES_LOCKED) (s.fld F.BOOT_KEY_PROG_INDEX) = true) ∧
  (∃ (s : State), s.inReset = false) ∧
  (∃ (s : State), s.inReset = false ∧ ((∃ k : Fin 4, k.val ≠ s.fld F.BOOT_KEY_PROG_INDEX ∧ keyUsable s k = true)) ∧ s.fld F.BOOT_KEY_PROG_INDEX < 4) ∧
  (∃ (s : State), s.inReset = false ∧ ((∀ k : Fin 4, k.val ≠ s.fld F.BOOT_KEY_PROG_INDEX → keyUsable s k = false)) ∧ s.fld F.BOOT_KEY_PROG_INDEX < 4) ∧
  (∃ (s : State), s.inReset = false ∧ flashRefusal s 0 (s.fld F.BOOT_FL_ADDR_ADDR) (s.fld F.BOOT_FL_SRC_OFFSET) (s.fld F.BOOT_FL_LEN_LEN) = 0) ∧
  (∃ (s : State), s.inReset = false ∧ flashRefusal s 0 (s.fld F.BOOT_FL_ADDR_ADDR) (s.fld F.BOOT_FL_SRC_OFFSET) (s.fld F.BOOT_FL_LEN_LEN) ≠ 0) := 
  ⟨⟨State.reset, by decide +kernel⟩,
   ⟨((State.reset.setFlag F.BOOT_STATUS_FW_SLOT true)), by decide +kernel⟩,
   ⟨({ (modMgt (State.reset) (fun x => { x with secver := 9 })) with img := { State.reset.img with secver := 70 } }), by decide +kernel⟩,
   ⟨State.reset, by decide +kernel⟩,
   ⟨State.reset, by decide +kernel⟩,
   ⟨((((State.reset.setFld F.GLB_CSTORE_PWR_STATE 0).setFld F.BOOT_KEY_PROG_INDEX 2).setFld F.BOOT_KEY_PROG_SRC 5)), by decide +kernel⟩,
   ⟨((State.reset.setFld F.BOOT_FUSES_LOCKED 1)), by decide +kernel⟩,
   ⟨State.reset, by decide +kernel⟩,
   ⟨((State.reset.setFld F.BOOT_FUSES_VALID 3)), by decide +kernel⟩,
   ⟨State.reset, by decide +kernel⟩,
   ⟨((((State.reset.setFld F.BOOT_FL_ADDR_ADDR 0x10000).setFld F.BOOT_FL_LEN_LEN 8).setFld F.BOOT_FL_SRC_OFFSET 64)), by decide +kernel⟩,
   ⟨((State.reset.setFld F.BOOT_FL_LEN_LEN 4)), by decide +kernel⟩⟩

theorem witness_DirectoryKeysFlash_b :
  (∃ (s : State), s.inReset = false ∧ flashRefusal s 1 (s.fld F.BOOT_FL_ADDR_ADDR) (s.fld F.BOOT_FL_SRC_OFFSET) (s.fld F.BOOT_FL_LEN_LEN) = 0) ∧
  (∃ (s : State), s.inReset = false ∧ flashRefusal s 1 (s.fld F.BOOT_FL_ADDR_ADDR) (s.fld F.BOOT_FL_SRC_OFFSET) (s.fld F.BOOT_FL_LEN_LEN) ≠ 0) ∧
  (∃ (s : State), s.inReset = false ∧ flashRefusal s 2 (s.fld F.BOOT_FL_ADDR_ADDR) (s.fld F.BOOT_FL_SRC_OFFSET) (s.fld F.BOOT_FL_LEN_LEN) = 0) ∧
  (∃ (s : State), s.inReset = false ∧ flashRefusal s 2 (s.fld F.BOOT_FL_ADDR_ADDR) (s.fld F.BOOT_FL_SRC_OFFSET) (s.fld F.BOOT_FL_LEN_LEN) ≠ 0) ∧
  (∃ (s : State) (a : Nat) (src : Nat) (len : Nat), s.inReset = false ∧ s.boot.op = some (0, a, src, len) ∧ flashPortFree s = true ∧ s.cstore.double =
    [] ∧ s.flt.inject = none) ∧
  (∃ (s : State) (a : Nat) (src : Nat) (len : Nat), s.inReset = false ∧ s.boot.op = some (1, a, src, len) ∧ flashPortFree s = true) ∧
  (∃ (s : State) (a : Nat) (src : Nat) (len : Nat), s.inReset = false ∧ s.boot.op = some (2, a, src, len) ∧ flashPortFree s = true ∧ s.cstore.double =
    [] ∧ s.flt.inject = none) ∧
  (∃ (s : State) (o : Nat) (a : Nat) (src : Nat) (len : Nat), s.inReset = false ∧ s.boot.op = some (o, a, src, len) ∧ o ≠ 0 ∧ flashPortFree s = true) := 
  ⟨⟨((((State.reset.setFld F.BOOT_FL_ADDR_ADDR 0x420000).setFld F.BOOT_FL_LEN_LEN 8).setFld F.BOOT_FL_SRC_OFFSET 64)), by decide +kernel⟩,
   ⟨((State.reset.setFld F.BOOT_FL_LEN_LEN 4)), by decide +kernel⟩,
   ⟨((((State.reset.setFld F.BOOT_FL_ADDR_ADDR 0x420000).setFld F.BOOT_FL_LEN_LEN 8).setFld F.BOOT_FL_SRC_OFFSET 64)), by decide +kernel⟩,
   ⟨((State.reset.setFld F.BOOT_FL_LEN_LEN 4)), by decide +kernel⟩,
   ⟨((modBoot ((State.reset.setFld F.BOOT_STATUS_PHASE 9)) (fun x => { x with op := some (0, 0x420000, 64, 8) }))), 0x420000, 64, 8, by decide +kernel⟩,
   ⟨((modBoot ((State.reset.setFld F.BOOT_STATUS_PHASE 9)) (fun x => { x with op := some (1, 0x420000, 64, 8), flash := [(0x420001, 3)] }))), 0x420000,
    64, 8, by decide +kernel⟩,
   ⟨((modBoot ((State.reset.setFld F.BOOT_STATUS_PHASE 9)) (fun x => { x with op := some (2, 0x420000, 64, 8), flash := [(0x420001, 3)] }))), 0x420000,
    64, 8, by decide +kernel⟩,
   ⟨((modBoot ((State.reset.setFld F.BOOT_STATUS_PHASE 9)) (fun x => { x with op := some (2, 0x420000, 64, 8) }))), 2, 0x420000, 64, 8,
    by decide +kernel⟩⟩

theorem witness_ManagementAndRun_a :
  (∃ (s : State), s.inReset = false ∧ ((s.pair .BOOT_RUN_AT_LO .BOOT_RUN_AT_HI) % 16 ≠ 0 ∨ s.pair .BOOT_RUN_AT_LO .BOOT_RUN_AT_HI < s.beat + 16)) ∧
  (∃ (s : State) (n : Fin 16), s.inReset = false ∧ (s.pair .BOOT_RUN_AT_LO .BOOT_RUN_AT_HI) % 16 = 0 ∧ s.beat + 16 ≤ s.pair .BOOT_RUN_AT_LO
    .BOOT_RUN_AT_HI ∧ s.fld F.BOOT_RUN_MASK_SLICES = 2 ^ n.val ∧ runAccepts s n = true) ∧
  (∃ (s : State) (n : Fin 16), s.inReset = false ∧ (s.pair .BOOT_RUN_AT_LO .BOOT_RUN_AT_HI) % 16 = 0 ∧ s.beat + 16 ≤ s.pair .BOOT_RUN_AT_LO
    .BOOT_RUN_AT_HI ∧ s.fld F.BOOT_RUN_MASK_SLICES = 2 ^ n.val ∧ runAccepts s n = false) ∧
  (∃ (s : State) (n : Fin 16), s.boot.runSlices = BitVec.ofNat 16 (2 ^ n.val) ∧ s.boot.runAt + 1 ≤ s.now ∧ (seqState s n = 0 ∨ seqState s n = 5) ∧
    wheelState s n = 2) ∧
  (∃ (s : State), (s.boot.runSlices = 0 ∨ s.now < s.boot.runAt + 1)) ∧
  (∃ (s : State), s.inReset = false ∧ (coresRunning s = true ∨ s.fld F.MGT_STATUS_STATE = 1)) ∧
  (∃ (s : State), s.inReset = false ∧ coresStarted s = true ∧ s.fld F.MGT_STATUS_STATE = 2 ∧ (s.fld F.BOOT_STATUS_PHASE ≠ 10 ∨ s.fld F.BOOT_STATUS_ERR ≠
    3)) ∧
  (∃ (s : State), s.inReset = false ∧ coresStarted s = true ∧ s.fld F.MGT_STATUS_STATE = 3 ∧ s.fld F.BOOT_STATUS_PHASE = 10 ∧ s.fld F.BOOT_STATUS_ERR =
    3) ∧
  (∃ (s : State), s.inReset = false ∧ (coresStarted s = false ∨ s.fld F.MGT_STATUS_STATE = 1)) ∧
  (∃ (s : State), s.inReset = false ∧ (dirNow s.boot).seq < 2 ^ 32) ∧
  (∃ (s : State) (k : Nat), s.inReset = false ∧ s.mgt.swapAt = some k ∧ k + 1250000 ≤ s.now) ∧
  (∃ (s : State), coresRunning s = true) := 
  ⟨⟨((State.reset.setFld F.BOOT_RUN_MASK_SLICES 8)), by decide +kernel⟩,
   ⟨((((State.reset.setFld F.BOOT_RUN_MASK_SLICES 8).setPair .BOOT_RUN_AT_LO .BOOT_RUN_AT_HI 32).setPair .GLB_IMG_SSERIAL_LO .GLB_IMG_SSERIAL_HI 7 3)),
    3, by decide +kernel⟩,
   ⟨((setWheelState (((State.reset.setFld F.BOOT_RUN_MASK_SLICES 8).setPair .BOOT_RUN_AT_LO .BOOT_RUN_AT_HI 32).setPair .GLB_IMG_SSERIAL_LO
    .GLB_IMG_SSERIAL_HI 7 3) 3 2)), 3, by decide +kernel⟩,
   ⟨({ ((modBoot ((setWheelState State.reset 3 2)) (fun x => { x with runSlices := 8, runAt := 32 }))) with now := 33, beat := 33 }), 3,
    by decide +kernel⟩,
   ⟨State.reset, by decide +kernel⟩,
   ⟨(((setMgtState (State.reset) 0))), by decide +kernel⟩,
   ⟨((setMgtState ((State.reset.setFld F.BOOT_STATUS_PHASE 9)) 2)), by decide +kernel⟩,
   ⟨((setMgtState (((State.reset.setFld F.BOOT_STATUS_PHASE 10).setFld F.BOOT_STATUS_ERR 3)) 3)), by decide +kernel⟩,
   ⟨State.reset, by decide +kernel⟩,
   ⟨(((setMgtState (State.reset) 0))), by decide +kernel⟩,
   ⟨({ ((modMgt (State.reset) (fun x => { x with swapAt := some 0 }))) with now := 1250000 }), 0, by decide +kernel⟩,
   ⟨({ (((setMgtState (State.reset) 0))) with now := 7 }), by decide +kernel⟩⟩

theorem witness_ManagementAndRun_b :
  (∃ (s : State), (coresRunning s = false ∨ s.mgt.swapAt.isSome = true ∨ (∀ c : Fin 4, s.now < s.mgt.kicks.get c + 2500000))) ∧
  (∃ (s : State) (c : Fin 4), coresRunning s = true ∧ s.mgt.swapAt = none ∧ s.mgt.kicks.get c + 2500000 ≤ s.now ∧ ((∀ d : Fin 4, d < c → s.now <
    s.mgt.kicks.get d + 2500000))) := 
  ⟨⟨State.reset, by decide +kernel⟩,
   ⟨({ (((setMgtState (State.reset) 0))) with now := 2500000 }), 0, by decide +kernel⟩⟩

theorem witness_CanonicalKept :
  (∃ s t : State, s.canonical = true ∧ step s = .next t) := ⟨State.reset, State.reset, by decide +kernel, rfl⟩

theorem witness_SequencerRoundTrip :
  (∃ i : SeqInstr, i.wf = true) := ⟨.emitl (List.replicate 3 ⟨true, 15, 127, 7, 0x3FFFFFF⟩), by decide⟩

end Sys2Proof.Tests
end

namespace Sys2Proof.Machine

-- The check runs under a limit on memory, which the stacks of the threads that elaborate this many theorems at once would exceed.
set_option Elab.async false

/-! ## The canonical form is kept by every command

`State.canonical` checks the lists of the register file and of the seventeen stores. A handful of functions write to these directly,
`State.wr` and `Store.writeBytes` above all, and every other function goes through those. So the development is one lemma `Canonical.f` for each
function `f` of the model that answers a state, in the order of the model's files, and the proof of each names the lemmas of the functions
that `f` calls. An update of other fields of the state is `Canonical.frame`. `exec_canonical` then has one case for each command.

In the name of a lemma `Canonical.f` the bare `f` is the lemma itself, so a proof writes `unfold Machine.f`. -/

/-- `State.canonical` as a proposition, with a name for each of its parts. -/
structure Canonical (s : State) : Prop where
  regs : s.regs.wf = true
  central : s.cstore.wf = true
  slices : ∀ n, (s.sl n).store.wf = true

theorem State.canonical_iff (s : State) : s.canonical = true ↔ Canonical s := by
  simp only [State.canonical, Bool.and_eq_true, List.all_eq_true, List.mem_finRange, forall_const]
  exact ⟨fun ⟨⟨hr, hc⟩, hs⟩ => ⟨hr, hc, hs⟩, fun ⟨hr, hc, hs⟩ => ⟨⟨hr, hc⟩, hs⟩⟩

/-- A step's answer keeps the form: the next state has it, and an answer without a next state says nothing of it. -/
def Result.Canonical : Result → Prop
  | .next t => Machine.Canonical t
  | _ => True

section
variable {s t u : State}

/-! ### How the form passes through updates, branches, folds and pairs -/

/-- The form says nothing of the fields of the state other than `regs`, `cstore` and `slices`. -/
theorem Canonical.frame {flt evt rpl pwr xbar ktl trg chn host tod guardLevel guardRise readValue now beat pending dma side pewter acc cal img boot
    mgt tap supply shadow staged} (h : Canonical s) :
    Canonical { s with
      flt := flt, evt := evt, rpl := rpl, pwr := pwr, xbar := xbar, ktl := ktl, trg := trg, chn := chn, host := host, tod := tod
      guardLevel := guardLevel, guardRise := guardRise, readValue := readValue, now := now, beat := beat, pending := pending, dma := dma
      side := side, pewter := pewter, acc := acc, cal := cal, img := img, boot := boot, mgt := mgt, tap := tap, supply := supply
      shadow := shadow, staged := staged } :=
  ⟨h.regs, h.central, h.slices⟩

theorem Canonical.ite {p : Prop} {_ : Decidable p} (ht : Canonical t) (hu : Canonical u) : Canonical (if p then t else u) := by
  split <;> assumption

theorem Canonical.foldl {α : Type} {f : State → α → State} {l : List α} (h : Canonical s) (hf : ∀ {t a}, Canonical t → Canonical (f t a)) :
    Canonical (l.foldl f s) :=
  List.foldlRecOn (motive := Canonical) l f h fun _ ht _ _ => hf ht

theorem Canonical.foldl_fst {α β : Type} {f : State × β → α → State × β} {l : List α} {x : State × β} (h : Canonical x.1)
    (hf : ∀ {y a}, Canonical y.1 → Canonical (f y a).1) : Canonical (l.foldl f x).1 :=
  List.foldlRecOn (motive := fun y => Canonical y.1) l f h fun _ ht _ _ => hf ht

theorem Canonical.foldl_snd {α β : Type} {f : β × State → α → β × State} {l : List α} {x : β × State} (h : Canonical x.2)
    (hf : ∀ {y a}, Canonical y.2 → Canonical (f y a).2) : Canonical (l.foldl f x).2 :=
  List.foldlRecOn (motive := fun y => Canonical y.2) l f h fun _ ht _ _ => hf ht

theorem Canonical.fst {β : Type} {b : β} (h : Canonical s) : Canonical (s, b).1 := h

theorem Canonical.snd {β : Type} {b : β} (h : Canonical s) : Canonical (b, s).2 := h

theorem Canonical.of_fst {β : Type} {x : State × β} {b : β} (e : x = (t, b)) (h : Canonical x.1) : Canonical t := by
  rw [e] at h; exact h

theorem Canonical.of_snd {β : Type} {x : β × State} {b : β} (e : x = (b, t)) (h : Canonical x.2) : Canonical t := by
  rw [e] at h; exact h

theorem Canonical.of_snd_snd {β γ : Type} {x : β × γ × State} {b : β} {c : γ} (e : x = (b, c, t)) (h : Canonical x.2.2) : Canonical t := by
  rw [e] at h; exact h

theorem Canonical.ite_fst {β : Type} {p : Prop} {_ : Decidable p} {x y : State × β} (hx : Canonical x.1) (hy : Canonical y.1) :
    Canonical (if p then x else y).1 := by
  split <;> assumption

theorem Canonical.ite_snd {β : Type} {p : Prop} {_ : Decidable p} {x y : β × State} (hx : Canonical x.2) (hy : Canonical y.2) :
    Canonical (if p then x else y).2 := by
  split <;> assumption

theorem Canonical.ite_snd_snd {β γ : Type} {p : Prop} {_ : Decidable p} {x y : β × γ × State} (hx : Canonical x.2.2) (hy : Canonical y.2.2) :
    Canonical (if p then x else y).2.2 := by
  split <;> assumption

theorem Canonical.foldl_snd_snd {α β γ : Type} {f : β × γ × State → α → β × γ × State} {l : List α} {x : β × γ × State}
    (h : Canonical x.2.2) (hf : ∀ {y a}, Canonical y.2.2 → Canonical (f y a).2.2) : Canonical (l.foldl f x).2.2 :=
  List.foldlRecOn (motive := fun y => Canonical y.2.2) l f h fun _ ht _ _ => hf ht

/-! ### Reset, registers and stores -/

theorem Canonical.reset : Canonical State.reset where
  regs := SMap.wf_nil _ _
  central := Store.initial_wf
  slices n := by
    have : State.reset.sl n = Slice.initial := Vector.getElem_replicate n.isLt
    rw [this]
    exact Store.initial_wf

theorem Canonical.store (h : Canonical s) (id : StoreId) : (s.store id).wf = true :=
  match id with
  | .central => h.central
  | .slice n => h.slices n

theorem Canonical.wr {r : Reg} {v : Word} {i j k l : Nat} (h : Canonical s) : Canonical (s.wr r v i j k l) :=
  ⟨State.wr_regs_wf _ _ _ _ _ _ h.regs, h.central, h.slices⟩

theorem Canonical.modSl {n : Fin 16} {f : Slice → Slice} (h : Canonical s)
    (hf : ∀ x, x.store.wf = true → (f x).store.wf = true := by exact fun _ hx => hx) : Canonical (s.modSl n f) where
  regs := h.regs
  central := h.central
  slices m := by
    by_cases e : m = n
    · subst e; rw [State.sl_modSl_same]; exact hf _ (h.slices m)
    · rw [State.sl_modSl_ne _ _ e]; exact h.slices m

theorem Canonical.setStore_of_wf {id : StoreId} {st : Store} (h : Canonical s) (hst : st.wf = true) : Canonical (s.setStore id st) := by
  cases id with
  | central => exact ⟨h.regs, hst, h.slices⟩
  | slice n =>
    show Canonical (s.modSl n fun x => { x with store := st })
    exact h.modSl fun _ _ => hst

theorem Canonical.setCstore {st : Store} (h : Canonical s) (hst : st.wf = true) : Canonical { s with cstore := st } :=
  ⟨h.regs, hst, h.slices⟩

theorem Canonical.setStore {id : StoreId} {st : Store} (h : Canonical s) (hb : st.bytes = (s.store id).bytes := by rfl) :
    Canonical (s.setStore id st) :=
  h.setStore_of_wf (by rw [Store.wf, hb]; exact h.store id)

theorem Canonical.setStore_writeBytes {id : StoreId} {a : Nat} {data : List Byte} {words : List Nat} (h : Canonical s) :
    Canonical (s.setStore id (words.foldl Store.cleanWord ((s.store id).writeBytes a data))) :=
  h.setStore_of_wf (by rw [Store.wf_cleanWords]; exact Store.wf_writeBytes _ _ (h.store id))

theorem Store.wf_foldl {α : Type} {f : Store → α → Store} (hf : ∀ st a, st.wf = true → (f st a).wf = true) (l : List α) {st : Store}
    (h : st.wf = true) : (l.foldl f st).wf = true :=
  List.foldlRecOn (motive := fun st => st.wf = true) l f h fun st hst a _ => hf st a hst

theorem Store.wf_upset (st : Store) (w : Nat) (two : Bool) : (st.upset w two).wf = st.wf := by
  unfold Store.upset
  split
  · rfl
  · split <;> rfl

end

section

variable {s : State} {n : Fin 16}

/-! ### Ops -/

theorem Canonical.setFld {f : Field} {v i j k l : Nat} (h : Canonical s) : Canonical (s.setFld f v i j k l) := h.wr

theorem Canonical.setFlag {f : Field} {b : Bool} {i j k l : Nat} (h : Canonical s) : Canonical (s.setFlag f b i j k l) := h.setFld

theorem Canonical.countBy {r : Reg} {n i j k l : Nat} (h : Canonical s) : Canonical (s.countBy r n i j k l) := h.wr

theorem Canonical.count {r : Reg} {i j k l : Nat} (h : Canonical s) : Canonical (s.count r i j k l) := h.countBy

theorem Canonical.bump {f : Field} {n i j k l : Nat} (h : Canonical s) : Canonical (s.bump f n i j k l) := h.setFld

theorem Canonical.peak {f : Field} {v i j : Nat} (h : Canonical s) : Canonical (s.peak f v i j) := .ite h.setFld h

theorem Canonical.setPair {lo hi : Reg} {v i j k : Nat} (h : Canonical s) : Canonical (s.setPair lo hi v i j k) := h.wr.wr

theorem Canonical.pairAdd {lo hi : Reg} {n i j k : Nat} (h : Canonical s) : Canonical (s.pairAdd lo hi n i j k) := h.setPair

theorem Canonical.conflict {m : Fin 7} (h : Canonical s) : Canonical (s.conflict n m) := .ite h.modSl.count h

theorem Canonical.raise {src scope index : Nat} (h : Canonical s) : Canonical (s.raise src scope index) := .ite h h.frame

theorem Canonical.pushEvents {l : List EventRecord} (h : Canonical s) : Canonical (s.pushEvents l) := h.frame.peak

theorem Canonical.event {code src index data : Nat} (h : Canonical s) : Canonical (s.event code src index data) :=
  .ite h (.ite (.ite h.pushEvents (.frame h.count.setFlag)) (.ite (.frame h.pushEvents) (.frame h.count.setFlag)))

theorem Canonical.pewterEvent {bit : Nat} (h : Canonical s) : Canonical (s.pewterEvent n bit) := .ite h.frame h

theorem Canonical.journal {type src index data : Nat} (h : Canonical s) : Canonical (s.journal type src index data) := .ite h.frame h

theorem Canonical.askAdmission {cls index : Nat} (h : Canonical s) : Canonical (s.askAdmission cls index) := .ite h h.frame.peak

theorem Canonical.releaseAdmission {cls index : Nat} (h : Canonical s) : Canonical (s.releaseAdmission cls index) := h.frame

theorem Canonical.eventDropped (h : Canonical s) : Canonical (s.eventDropped n) := h.count.setFlag

theorem Canonical.coreEvent {f : State → State} (h : Canonical s) (hf : ∀ {t}, Canonical t → Canonical (f t)) : Canonical (s.coreEvent n f) :=
  .ite (hf h) h.eventDropped

theorem Canonical.analogEvent {f : State → State} (h : Canonical s) (hf : ∀ {t}, Canonical t → Canonical (f t)) : Canonical (s.analogEvent n f) :=
  .ite (hf h) h.eventDropped

theorem Canonical.analogDo {f : State → State} (h : Canonical s) (hf : ∀ {t}, Canonical t → Canonical (f t)) : Canonical (s.analogDo n f) :=
  .ite (hf h) h

theorem Canonical.coreDo {f : State → State} (h : Canonical s) (hf : ∀ {t}, Canonical t → Canonical (f t)) : Canonical (s.coreDo n f) := .ite (hf h) h

theorem Canonical.disRecord {slice kind index finished discarded : Nat} (h : Canonical s) :
    Canonical (s.disRecord slice kind index finished discarded) :=
  h.wr

theorem Canonical.countCe {id : StoreId} {k : Nat} (h : Canonical s) : Canonical (s.countCe id k) := by
  unfold Machine.State.countCe
  split
  · exact h.countBy
  · exact h.countBy

theorem Canonical.countUe {id : StoreId} {k : Nat} (h : Canonical s) : Canonical (s.countUe id k) := by
  unfold Machine.State.countUe
  split
  · exact h.countBy
  · exact h.countBy

theorem Canonical.setEccAddr {id : StoreId} {line word : Nat} {ue : Bool} (h : Canonical s) : Canonical (s.setEccAddr id line word ue) := by
  unfold Machine.State.setEccAddr
  split
  · exact h.setFld.setFld.setFld
  · exact h.setFld.setFld.setFld

theorem Canonical.raiseUe {id : StoreId} {line : Nat} (h : Canonical s) : Canonical (s.raiseUe id line) := by
  unfold Machine.State.raiseUe
  split
  · exact h.raise
  · exact h.raise

theorem Canonical.eccRead {id : StoreId} {line : Nat} (h : Canonical s) : Canonical (s.eccRead id line) :=
  have h := Canonical.ite h h.countCe.setEccAddr.setStore
  .ite h h.countUe.setEccAddr.raiseUe

theorem Canonical.eccInject {id : StoreId} {line : Nat} (h : Canonical s) : Canonical (s.eccInject id line) := by
  unfold Machine.State.eccInject
  split
  · exact h
  · exact
      have h := Canonical.frame h.countUe.setEccAddr
      .ite h.setFlag h

theorem Canonical.lineRead {id : StoreId} {line : Nat} (h : Canonical s) : Canonical (s.lineRead id line).2 :=
  .ite_snd (.snd h.eccRead.eccInject) (.snd h.eccRead)

theorem Canonical.rangeRead {id : StoreId} {a k : Nat} (h : Canonical s) : Canonical (rangeRead s id a k).2.2 :=
  .ite_snd_snd (.snd h) (.snd (.foldl_snd (.snd h) (fun h => .snd h.lineRead)))

theorem Canonical.of_rangeRead {t : State} {id : StoreId} {a k : Nat} {l : List Byte} {p : List Nat} (h : Canonical s)
    (e : Machine.rangeRead s id a k = (l, p, t)) :
    Canonical t :=
  .of_snd_snd e h.rangeRead

theorem Canonical.marchTouched {id : StoreId} {line : Nat} (h : Canonical s) : Canonical (s.marchTouched id line) := .ite h h.frame

theorem Canonical.lineWrite {id : StoreId} {a : Nat} {data : List Byte} (h : Canonical s) : Canonical (s.lineWrite id a data).1 := by
  unfold Machine.State.lineWrite
  dsimp only
  exact .ite_fst (.fst h) (.ite_fst (.fst h.setStore_writeBytes.marchTouched) (.ite_fst (.fst h.lineRead) (.fst
    h.lineRead.setStore_writeBytes.marchTouched)))

theorem Canonical.storeWriteGo {id : StoreId} {fuel a : Nat} {data : List Byte} (h : Canonical s) :
    Canonical (State.storeWriteGo id fuel s a data).1 := by
  induction fuel generalizing s a data with
  | zero => exact h
  | succ fuel ih =>
    unfold Machine.State.storeWriteGo
    split
    · exact h
    · exact ih h.lineWrite

theorem Canonical.storeWrite {id : StoreId} {a : Nat} {data : List Byte} (h : Canonical s) : Canonical (s.storeWrite id a data).1 := h.storeWriteGo

theorem Canonical.setStorePower {id : StoreId} {v : Nat} (h : Canonical s) : Canonical (s.setStorePower id v) := by
  unfold Machine.State.setStorePower
  split
  · exact h.setFld
  · exact h.setFld

/-! ### Express -/

theorem Canonical.modPort {p : Nat} {f : KtlPort → KtlPort} (h : Canonical s) : Canonical (s.modPort p f) := by
  unfold Machine.State.modPort
  split
  · exact h.frame
  · exact h

theorem Canonical.expressDrop {p : Nat} (h : Canonical s) : Canonical (s.expressDrop p) := h.count.setFlag.raise

theorem Canonical.expressSend {p : Nat} {w : DWord} (h : Canonical s) : Canonical (s.expressSend p w) := by
  unfold Machine.State.expressSend
  split
  · exact .ite h.expressDrop h.modPort.peak
  · exact h

theorem Canonical.expressTo {dev : Nat} {w : DWord} (h : Canonical s) : Canonical (s.expressTo dev w) := .ite h.frame (.ite h.expressSend h.count)

theorem Canonical.expressEach {ps : List Nat} {w : DWord} (h : Canonical s) : Canonical (s.expressEach ps w) :=
  h.foldl (fun h => .ite h.expressSend h)

theorem Canonical.barHold {b due : Nat} {abort late : Bool} (h : Canonical s) : Canonical (s.barHold b due abort late) := .frame h.setFld

theorem Canonical.barEnd {b : Nat} {abort : Bool} (h : Canonical s) : Canonical (s.barEnd b abort) := h.expressEach.barHold

theorem Canonical.barrierArrive {b : Nat} (h : Canonical s) : Canonical (s.barrierArrive b n) := .ite h.setFld h.setFlag

theorem Canonical.barrierTimeout {b : Nat} (h : Canonical s) : Canonical (s.barrierTimeout b n) := .ite (.ite h.barEnd h.expressEach) h

/-! ### Sequencer -/

theorem Canonical.setSeqState {v : Nat} (h : Canonical s) : Canonical (setSeqState s n v) := h.setFld

theorem Canonical.modSeq {f : Sequencer → Sequencer} (h : Canonical s) : Canonical (modSeq s n f) := h.modSl

theorem Canonical.seqStop {err p : Nat} (h : Canonical s) : Canonical (seqStop s n err p) := h.modSeq.setFld.setFld.setFld.setFld.pewterEvent

theorem Canonical.seqError {err p : Nat} (h : Canonical s) : Canonical (seqError s n err p) := h.seqStop.raise.event

theorem Canonical.seqFaultHalt (h : Canonical s) : Canonical (seqFaultHalt s n) := .ite h h.seqStop

theorem Canonical.setNew {x : Selector} {b : Bool} (h : Canonical s) : Canonical (setNew s n x b) := by
  unfold Machine.setNew
  split
  · exact h.setFld
  · exact h.setFld
  · exact h.setFld
  · exact h

theorem Canonical.descClear {d : Nat} (h : Canonical s) : Canonical (descClear s n d) := h.foldl (·.setNew)

theorem Canonical.seqFinish {p next : Nat} (h : Canonical s) : Canonical (seqFinish s n p next) := .ite h.seqError h.modSeq.setFld.setFld

theorem Canonical.seqHold {p due : Nat} {i : SeqInstr} {code : Nat} (h : Canonical s) : Canonical (seqHold s n p due i code) := h.modSeq.setFld

theorem Canonical.seqDecision {kind : Nat} {timedOut : Bool} {p next ext : Nat} (h : Canonical s) :
    Canonical (seqDecision s n kind timedOut p next ext) :=
  .ite h.journal h

theorem Canonical.branchTake {p d : Nat} {t0 t1 t2 t3 : BitVec 18} {clear : Bool} (h : Canonical s) :
    Canonical (branchTake s n p d t0 t1 t2 t3 clear) :=
  .seqDecision (.seqFinish (.ite h.descClear h))

theorem Canonical.timeoutTake {p kind err : Nat} {t : Timeout} (h : Canonical s) : Canonical (timeoutTake s n p kind err t) :=
  have h := h.count.setFld
  .ite h.seqError.seqDecision h.seqFinish.seqDecision

theorem Canonical.seqResolve (h : Canonical s) : Canonical (seqResolve s n) := by
  unfold Machine.seqResolve
  split
  · exact h
  · split
    · exact .ite h.branchTake h
    · exact .ite (
        have h := h.setNew
        .ite h.seqFinish.seqDecision h) h
    · exact .ite h.seqFinish.seqDecision h
    · split
      · exact .ite h.setFld.setFld.seqFinish.seqDecision h
      · exact h
    · exact .ite h.seqFinish.seqDecision h
    · exact h

theorem Canonical.seqTimeOut {q : PendingInstr} (h : Canonical s) : Canonical (seqTimeOut s n q) := by
  unfold Machine.seqTimeOut
  split
  · exact h.count.setFld.seqFinish.seqDecision
  · exact h.timeoutTake
  · exact .timeoutTake (.ite h.barrierTimeout h)
  · exact h.timeoutTake
  · exact h.setFld.seqFinish.seqDecision
  · exact h

theorem Canonical.seqBlockedStep (h : Canonical s) : Canonical (seqBlockedStep s n) := by
  unfold Machine.seqBlockedStep
  exact
    have h := h.seqResolve
    by
      dsimp only
      split
      · exact h
      · split
        · exact .ite h.seqTimeOut h
        · exact h

theorem Canonical.seqSchedule {ws : List EventWord} (h : Canonical s) : Canonical (seqSchedule s n ws) := by
  unfold Machine.seqSchedule
  exact h.modSeq

theorem Canonical.seqEffect {p : Nat} {i : SeqInstr} (h : Canonical s) : Canonical (seqEffect s n p i) := by
  unfold Machine.seqEffect
  dsimp only
  split
  · exact h.seqFinish
  · exact h.modSeq.setFld.setFld.setFld.event
  · exact .ite h.seqError h.modSeq.seqFinish
  · exact .ite h.seqError h.modSeq.seqFinish
  · split
    · exact h.seqError
    · exact h.modSeq.seqFinish
  · exact .ite h.seqFinish (.ite h.seqError h.modSeq.seqFinish)
  · split
    · exact h.seqError
    · exact .ite h.seqError (.ite h.modSeq.seqFinish h.modSeq.seqFinish)
  · exact h.seqHold
  · exact .ite h.count.setFld.seqHold h.seqHold
  · exact h.seqHold
  · exact h.seqHold.seqBlockedStep
  · exact
      have h := h.seqHold
      .seqBlockedStep (.ite h.barrierArrive h)
  · exact
      have h := h.seqHold.seqBlockedStep
      .ite h.count h
  · exact h.seqSchedule.seqFinish
  · exact h.seqSchedule.seqFinish
  · exact .ite h.seqHold.seqBlockedStep h.branchTake
  · exact h.seqHold
  · exact h.descClear.seqFinish

theorem Canonical.seqIssue {i : SeqInstr} (h : Canonical s) : Canonical (seqIssue s n i) :=
  have h := h.modSeq
  .ite h.seqError (by
    split
    · exact h.seqError
    · exact h.pairAdd.modSeq.seqEffect)

theorem Canonical.seqIssueNow {i : SeqInstr} (h : Canonical s) : Canonical (seqIssueNow s n i) := .ite h.seqIssue h

theorem Canonical.seqTouch {line : Nat} (h : Canonical s) : Canonical (seqTouch s n line) := h.modSeq

theorem Canonical.seqIssueFetched (h : Canonical s) : Canonical (seqIssueFetched s n) := by
  refine .ite h.seqIssue ?_
  split
  · exact
      have h := h.modSeq.count
      .conflict (.ite h h.setSeqState)
  · refine .ite h.modSeq.seqError ?_
    split
    · exact h.modSeq.seqError
    · exact h.seqTouch.seqIssue

theorem Canonical.seqFetchedNow (h : Canonical s) : Canonical (seqFetchedNow s n) := .ite h.seqIssueFetched h

theorem Canonical.seqWaitEnd (h : Canonical s) : Canonical (seqWaitEnd s n) := by
  unfold Machine.seqWaitEnd
  split
  · exact h
  · split
    · exact .ite h.seqFinish.modSeq.seqFetchedNow h
    · exact .ite h.seqFinish.modSeq.seqFetchedNow h
    · exact .ite h.seqFinish.modSeq.seqFetchedNow h
    · exact h

theorem Canonical.seqCmprEnd (h : Canonical s) : Canonical (seqCmprEnd s n) :=
  have h := h.seqResolve
  .ite h h.modSeq.seqFetchedNow

theorem Canonical.seqBeat (h : Canonical s) : Canonical (seqBeat s n) := by
  unfold Machine.seqBeat
  split
  · exact h.seqFetchedNow
  · split
    · exact h.seqWaitEnd
    · exact h.seqWaitEnd
    · exact h.seqWaitEnd
    · exact .ite h (
        have h := h.seqBlockedStep
        .ite h.count h)
    · exact
        have h := h.seqCmprEnd
        .ite h.seqBlockedStep h
    · exact h.seqBlockedStep

theorem Canonical.seqRun (h : Canonical s) : Canonical (seqRun s n) :=
  .ite (
    have h := h.modSeq.setFld.setFld
    .ite h.count.setFld h) h.setFld

theorem Canonical.seqHalt (h : Canonical s) : Canonical (seqHalt s n) := .ite h.modSeq.setFld h

theorem Canonical.seqStep (h : Canonical s) : Canonical (seqStep s n) := .ite h.modSeq.setFld h

theorem Canonical.seqClrNew (h : Canonical s) : Canonical (seqClrNew s n) := .setFld (.foldl (h.foldl (·.setFld)) (·.setFld))

theorem Canonical.seqPcWrite {index : Nat} (h : Canonical s) : Canonical (seqPcWrite s n index) := .ite h.setFld h

theorem Canonical.fetchFill {line : Nat} {data : List Byte} {poison : List Nat} (h : Canonical s) : Canonical (fetchFill s n line data poison) := by
  unfold Machine.fetchFill
  exact h.modSeq

theorem Canonical.seqLatch {x : Selector} {value : Nat} (h : Canonical s) : Canonical (seqLatch s n x value) :=
  .setNew (.modSeq (.ite h.count.setFld h))

theorem Canonical.cmprTake {lim : Nat} {value : Int} {bad : Bool} (h : Canonical s) : Canonical (cmprTake s n lim value bad) := by
  unfold Machine.cmprTake
  exact h.modSeq

theorem Canonical.seqResult {adc : Bool} {ch : Nat} {value : Int} {bad : Bool} {data : Nat} (h : Canonical s) :
    Canonical (seqResult s n adc ch value bad data) := by
  refine .ite h ?_
  split
  · exact h.cmprTake.journal
  · exact h

theorem Canonical.execWaitExpire (h : Canonical s) : Result.Canonical (execWaitExpire n s) := by
  unfold Machine.execWaitExpire
  split
  · exact h.seqWaitEnd
  · exact h

theorem Canonical.execWaitaReached (h : Canonical s) : Result.Canonical (execWaitaReached n s) := by
  unfold Machine.execWaitaReached
  split
  · exact h.seqWaitEnd
  · exact h

theorem Canonical.execWaitvResolve (h : Canonical s) : Result.Canonical (execWaitvResolve n s) := by
  unfold Machine.execWaitvResolve
  split
  · exact h.seqResolve
  · exact h

theorem Canonical.execWaitvTimeout (h : Canonical s) : Result.Canonical (execWaitvTimeout n s) := by
  unfold Machine.execWaitvTimeout
  split
  · exact h.seqBlockedStep
  · exact h

theorem Canonical.execSyncResolve (h : Canonical s) : Result.Canonical (execSyncResolve n s) := by
  unfold Machine.execSyncResolve
  split
  · exact h.seqResolve
  · exact h

theorem Canonical.execSyncTimeout (h : Canonical s) : Result.Canonical (execSyncTimeout n s) := by
  unfold Machine.execSyncTimeout
  split
  · exact h.seqBlockedStep
  · exact h

theorem Canonical.execIdleExpire (h : Canonical s) : Result.Canonical (execIdleExpire n s) := by
  unfold Machine.execIdleExpire
  split
  · exact h.seqWaitEnd
  · exact h

theorem Canonical.execElasticResolve (h : Canonical s) : Result.Canonical (execElasticResolve n s) := by
  unfold Machine.execElasticResolve
  split
  · exact h.seqResolve
  · exact h

theorem Canonical.execElasticExpired (h : Canonical s) : Result.Canonical (execElasticExpired n s) := by
  unfold Machine.execElasticExpired
  split
  · exact h.seqBlockedStep
  · exact h

theorem Canonical.execBranchResolve (h : Canonical s) : Result.Canonical (execBranchResolve n s) := by
  unfold Machine.execBranchResolve
  split
  · exact h.seqResolve
  · exact h

theorem Canonical.execBranchTimeout (h : Canonical s) : Result.Canonical (execBranchTimeout n s) := by
  unfold Machine.execBranchTimeout
  split
  · exact h.seqBlockedStep
  · exact h

theorem Canonical.execCmprResolve (h : Canonical s) : Result.Canonical (execCmprResolve n s) := by
  unfold Machine.execCmprResolve
  split
  · exact h.seqCmprEnd
  · exact h

theorem Canonical.execCmprTimeout (h : Canonical s) : Result.Canonical (execCmprTimeout n s) := by
  unfold Machine.execCmprTimeout
  split
  · exact .ite h.seqBlockedStep h
  · exact h

/-! ### Measure -/

theorem Canonical.modMad {f : MeasureAdc → MeasureAdc} (h : Canonical s) : Canonical (modMad s n f) := h.modSl

theorem Canonical.setMadState {v : Nat} (h : Canonical s) : Canonical (setMadState s n v) := h.setFld

theorem Canonical.madStartSlot {at_ : Nat} (h : Canonical s) : Canonical (madStartSlot s n at_) := by
  unfold Machine.madStartSlot
  exact h.modMad

theorem Canonical.madSample (h : Canonical s) : Canonical (madSample s n) := by
  unfold Machine.madSample
  dsimp only
  split
  · exact .ite h.modMad h
  · exact h

theorem Canonical.madStart {q at_ : Nat} (h : Canonical s) : Canonical (madStart s n q at_) := h.setMadState.setFld.modMad.madStartSlot

theorem Canonical.madNext {at_ : Nat} (h : Canonical s) : Canonical (madNext s n at_) := .ite h (.ite h.setFlag.madStart h.setMadState)

theorem Canonical.madDrop (h : Canonical s) : Canonical (madDrop s n) := h.count.setFlag

theorem Canonical.madTrigger {q : Nat} (h : Canonical s) : Canonical (madTrigger s n q) :=
  .ite h (.ite h.madDrop (.ite h.madStart (.ite h.madDrop h.setFlag.setFld)))

theorem Canonical.madAbort (h : Canonical s) : Canonical (madAbort s n) :=
  have h := h.setFlag
  .ite (
    have h := h.count.modMad
    .ite h.setMadState h) h

theorem Canonical.madEnqueue {code : Int} {input : Nat} {ovr invalid : Bool} {range seq step beat : Nat} (h : Canonical s) :
    Canonical (madEnqueue s n code input ovr invalid range seq step beat) :=
  .seqResult (.ite h.modMad.peak h.count.setFlag)

theorem Canonical.madSequenceEnd {at_ : Nat} (h : Canonical s) : Canonical (madSequenceEnd s n at_) := h.modMad.madNext

theorem Canonical.madStepDone {r : MadRun} {at_ : Nat} (h : Canonical s) : Canonical (madStepDone s n r at_) :=
  .ite h.madSequenceEnd (.ite h.modMad.madStartSlot (.ite h.modMad h.madSequenceEnd))

theorem Canonical.madConversionEnd {raw : Int} {clamped : Bool} (h : Canonical s) : Canonical (madConversionEnd s n raw clamped) := by
  unfold Machine.madConversionEnd
  exact
    have h := h.madSample
    by
      dsimp only
      split
      · exact .ite (
          have h := Canonical.modMad (.ite h.setFlag h)
          .ite (.ite h.madSequenceEnd h.madStartSlot) h.madEnqueue.madStepDone) h
      · exact h

theorem Canonical.madRepeatStart (h : Canonical s) : Canonical (madRepeatStart s n) := by
  unfold Machine.madRepeatStart
  split
  · exact .ite h.modMad.madStartSlot h
  · exact h

theorem Canonical.fgFinish {result : Nat} (h : Canonical s) : Canonical (fgFinish s n result) := h.setFld.setFld.setFlag.releaseAdmission

theorem Canonical.fgStop {result : Nat} (h : Canonical s) : Canonical (fgStop s n result) := .ite h h.fgFinish

theorem Canonical.madPreempt (h : Canonical s) : Canonical (madPreempt s n) :=
  have h := Canonical.ite h.fgFinish h
  .ite h.modMad.releaseAdmission.setFlag.setMadState (.ite h.modMad.setFld.setFld.setMadState (.ite (.setMadState (.modMad (.ite h.count h)))
    h.setMadState))

theorem Canonical.madResume (h : Canonical s) : Canonical (madResume s n) := by
  refine .ite h ?_
  split
  · exact .ite (
      have h := h.setMadState
      .ite h h.madStartSlot) h
  · exact .ite h.madNext h

theorem Canonical.madSelfcal (h : Canonical s) : Canonical (madSelfcal s n) := .ite h.modMad.setMadState.askAdmission h.setFlag

theorem Canonical.madSelfcalGranted (h : Canonical s) : Canonical (madSelfcalGranted s n) := h.modMad

theorem Canonical.madSelfcalFail (h : Canonical s) : Canonical (madSelfcalFail s n) := .ite h.modMad.releaseAdmission.setFlag.madNext h

theorem Canonical.madSelfcalEnd {factors : List Int} (h : Canonical s) : Canonical (madSelfcalEnd s n factors) := by
  unfold Machine.madSelfcalEnd
  split
  · exact .ite (
      have h := h.modMad.releaseAdmission
      .madNext (.ite (.setFlag (h.foldl (·.wr))) h.setFlag)) h
  · exact h

theorem Canonical.madSyscalError {err : Nat} (h : Canonical s) : Canonical (madSyscalError s n err) := h.setFld.setFld

theorem Canonical.madSyscal (h : Canonical s) : Canonical (madSyscal s n) := .ite h.setFld (.ite h.setFld h.modMad.setMadState.setFld.setFld)

theorem Canonical.madSyscalEnd {raws : List Int} {invalid : Bool} (h : Canonical s) : Canonical (madSyscalEnd s n raws invalid) := by
  unfold Machine.madSyscalEnd
  split
  · refine .ite ?_ h
    exact
      have h := h.modMad
      .madNext (.ite h.madSyscalError (.ite (by
        split
        · split
          · exact h.madSyscalError
          · exact h.setFld.setFld.madSyscalError
        · exact h.madSyscalError) h.modMad.madSyscalError))
  · exact h

theorem Canonical.madApplyf (h : Canonical s) : Canonical (madApplyf s n) := h.modMad

theorem Canonical.madFactorApply (h : Canonical s) : Canonical (madFactorApply s n) := .ite (h.modMad.foldl (·.wr)) h

theorem Canonical.madReadLo (h : Canonical s) : Canonical (madReadLo s n) := by
  unfold Machine.madReadLo
  split
  · exact .frame h.modMad
  · exact .frame h.modMad

theorem Canonical.madReadHi (h : Canonical s) : Canonical (madReadHi s n) := by
  unfold Machine.madReadHi
  split
  · exact h.frame
  · extract_lets t1 t
    have h1 : Canonical t1 := h.modMad
    have ht : Canonical t := h1.frame
    exact .ite ht.setFlag ht

theorem Canonical.madFinish (h : Canonical s) : Canonical (madFinish s n) := by
  unfold Machine.madFinish
  exact
    have h := h.setFlag
    by
      dsimp only
      split
      · exact h.modMad
      · exact
          have h := h.modMad
          .ite h.setMadState h
      · exact h

theorem Canonical.madDisable (h : Canonical s) : Canonical (madDisable s n) := h.setFlag.setFld.setFld.madFinish

theorem Canonical.madCalAbandon (h : Canonical s) : Canonical (madCalAbandon s n) :=
  have h := Canonical.ite h.modMad.releaseAdmission.setFlag h
  .ite h.modMad.madSyscalError h

theorem Canonical.madDrain (h : Canonical s) : Canonical (madDrain s n) := h.madCalAbandon.madFinish.setMadState

theorem Canonical.madAbandon (h : Canonical s) : Canonical (madAbandon s n) := h.madCalAbandon.setFlag.modMad.setMadState

/-! ### Flux force -/

theorem Canonical.modFf {f : Fin 8} {g : FfChannel → FfChannel} (h : Canonical s) : Canonical (modFf s n f g) := h.modSl

theorem Canonical.ffRefresh {f : Fin 8} (h : Canonical s) : Canonical (ffRefresh s n f) := h.setFld.setFlag.setFld

theorem Canonical.updFf {f : Fin 8} {g : FfChannel → FfChannel} (h : Canonical s) : Canonical (updFf s n f g) := h.modFf.ffRefresh

theorem Canonical.ffAdvance {f : Fin 8} (h : Canonical s) : Canonical (ffAdvance s n f) := by
  unfold Machine.ffAdvance
  split
  · exact h
  · exact
      have h := Canonical.ite h.modFf (.ite h.modFf h)
      by
        dsimp only
        split
        · exact .ite h.modFf.setFld h
        · exact h

theorem Canonical.ffBegin {f : Fin 8} {from3 opened : Bool} {goal : FfGoal} (h : Canonical s) : Canonical (ffBegin s n f from3 opened goal) :=
  h.modFf.ffAdvance

theorem Canonical.ffTakeBack {f : Fin 8} (h : Canonical s) : Canonical (ffTakeBack s n f) := by
  unfold Machine.ffTakeBack
  split
  · exact h
  · exact h.countBy.setFlag.modFf

theorem Canonical.ffSetCode {f : Fin 8} {code : Int} {off : Nat} (h : Canonical s) : Canonical (ffSetCode s n f code off) := h.modFf

theorem Canonical.ffDiscard {f : Fin 8} (h : Canonical s) : Canonical (ffDiscard s n f) := h.count.setFlag

theorem Canonical.ffCode {f : Fin 8} {code : Int} {off : Nat} (h : Canonical s) : Canonical (ffCode s n f code off) := by
  unfold Machine.ffCode
  split
  · exact .ite h.ffDiscard h.ffSetCode.ffRefresh
  · exact h.count.setFlag.updFf
  · exact h.ffDiscard

theorem Canonical.ffSpan {f : Fin 8} {v : Nat} (h : Canonical s) : Canonical (ffSpan s n f v) :=
  .ite h.ffDiscard (.ite h.count.setFlag (.ite h (.updFf (.ffBegin (.ite h.ffTakeBack h.ffAdvance)))))

theorem Canonical.ffHiz {f : Fin 8} (h : Canonical s) : Canonical (ffHiz s n f) := by
  refine .ite h ?_
  refine .ite h.ffDiscard ?_
  exact
    have h := h.ffAdvance
    .updFf (by
      split
      · split
        · exact .ite h.ffBegin h.modFf
        · exact h
      · exact h.ffTakeBack.ffBegin)

theorem Canonical.ffSequenceEnd {f : Fin 8} (h : Canonical s) : Canonical (ffSequenceEnd s n f) := by
  unfold Machine.ffSequenceEnd
  split
  · exact h
  · refine .ite ?_ h
    extract_lets t d t2
    have ht : Canonical t := h.ffAdvance
    split
    · have h2 : Canonical t2 := ht.updFf
      clear_value d
      cases d with
      | none => exact h2
      | some c => exact .ite h2 h2.ffSetCode.ffRefresh
    · exact ht.updFf
    · exact ht.updFf

theorem Canonical.ffOpen {f : Fin 8} (h : Canonical s) : Canonical (ffOpen s n f) := h.modFf

theorem Canonical.ffEach {g : State → Fin 8 → State} (h : Canonical s) (hg : ∀ {t i}, Canonical t → Canonical (g t i)) : Canonical (ffEach s g) :=
  h.foldl (fun h => (hg h))

theorem Canonical.ffDismiss {f : Fin 8} (h : Canonical s) : Canonical (ffDismiss s n f) := .ite h.modFf.setFlag.count h

theorem Canonical.ffGuardCh {f : Fin 8} (h : Canonical s) : Canonical (ffGuardCh s n f) :=
  have h := h.ffAdvance
  .updFf (.ite h (.ite h.ffBegin (by
    split
    · exact .ite h.modFf h.modFf
    · exact h)))

theorem Canonical.ffGuard (h : Canonical s) : Canonical (ffGuard s n) := h.setFlag.ffEach (·.ffGuardCh)

theorem Canonical.ffRelease (h : Canonical s) : Canonical (ffRelease s n) := .ite (h.setFlag.ffEach (·.updFf)) h

theorem Canonical.ffOff (h : Canonical s) : Canonical (ffOff s n) := h.ffEach (·.ffOpen.ffDismiss.setFlag.updFf)

theorem Canonical.ffOn (h : Canonical s) : Canonical (ffOn s n) := h.ffEach (·.updFf)

theorem Canonical.ffGovMute {f : Fin 8} (h : Canonical s) : Canonical (ffGovMute s n f) :=
  have h := h.setFlag
  .ite h.updFf h

theorem Canonical.ffLimitAct {f : Fin 8} (h : Canonical s) : Canonical (ffLimitAct s n f) :=
  .ite (
    have h := h.setFlag
    .ite h h.count.setFlag.modFf) h

theorem Canonical.ffCheckStart {f : Fin 8} (h : Canonical s) : Canonical (ffCheckStart s n f) := by
  unfold Machine.ffCheckStart
  split
  · exact h
  · exact .ite h.madPreempt.modMad.modFf h

theorem Canonical.ffConfirm {f : Fin 8} (h : Canonical s) : Canonical (ffConfirm s n f) :=
  h.modFf.setFlag.setFlag.setFlag.count.raise.ffOpen.ffRefresh

theorem Canonical.ffCheckConversion {f : Fin 8} {readback : Int} (h : Canonical s) : Canonical (ffCheckConversion s n f readback) := by
  unfold Machine.ffCheckConversion
  split
  · split
    · exact .ite (
        have h := h.setFld.setFld.modFf
        .ite h.ffConfirm h) h
    · exact h
  · exact h

theorem Canonical.ffLimitRelease {f : Fin 8} (h : Canonical s) : Canonical (ffLimitRelease s n f) := h.setFlag.ffDismiss

theorem Canonical.ffCheckDeadline {f : Fin 8} (h : Canonical s) : Canonical (ffCheckDeadline s n f) := by
  unfold Machine.ffCheckDeadline
  split
  · exact .ite h.ffConfirm h
  · exact h

theorem Canonical.ffShortClear {f : Fin 8} (h : Canonical s) : Canonical (ffShortClear s n f) := h.setFlag.ffRefresh

theorem Canonical.ffEnergy {f : Fin 8} (h : Canonical s) : Canonical (ffEnergy s n f) := .ite h h.modFf

theorem Canonical.ffBeat {f : Fin 8} (h : Canonical s) : Canonical (ffBeat s n f) :=
  have h := h.ffEnergy.countBy.modFf.ffAdvance.ffRefresh
  .ite h.ffLimitRelease h

/-! ### Pins -/

theorem Canonical.modPin {f : PinUnit → PinUnit} (h : Canonical s) : Canonical (modPin s n f) := h.modSl

theorem Canonical.modVec {f : Streamer → Streamer} (h : Canonical s) : Canonical (modVec s n f) := h.modSl

theorem Canonical.eachSlice {f : State → Fin 16 → State} (h : Canonical s) (hf : ∀ {t i}, Canonical t → Canonical (f t i)) :
    Canonical (eachSlice s f) :=
  h.foldl (fun h => (hf h))

theorem Canonical.eachPin {f : State → Nat → State} (h : Canonical s) (hf : ∀ {t i}, Canonical t → Canonical (f t i)) : Canonical (eachPin s f) :=
  h.foldl (fun h => (hf h))

theorem Canonical.readyVerdict {v value at_ : Nat} {muted : Bool} (h : Canonical s) : Canonical (readyVerdict s n v value at_ muted) :=
  .ite (.frame (.ite h.setFlag h)) h.frame

theorem Canonical.windowsIncomplete {pins : BitVec 32} (h : Canonical s) : Canonical (windowsIncomplete s n pins) := h.modVec

theorem Canonical.guardRefresh (h : Canonical s) : Canonical (guardRefresh s n) := h.eachPin (·.setFlag.wr)

theorem Canonical.guardPins {cause : Field} (h : Canonical s) : Canonical (guardPins s n cause) :=
  .windowsIncomplete (.guardRefresh (h.eachPin (·.setFlag.setFlag)))

theorem Canonical.loadSync {p : Nat} (h : Canonical s) : Canonical (loadSync s n p) :=
  .ite h (.ite (.ite h (.ite h.setFlag.askAdmission h.setFlag)) (.ite h.setFlag.setFlag.releaseAdmission h))

theorem Canonical.loadGranted {g : Nat} (h : Canonical s) : Canonical (loadGranted s g) := h.setFlag.setFlag

theorem Canonical.loadRefused {g : Nat} (h : Canonical s) : Canonical (loadRefused s g) := h.setFlag.setFlag

theorem Canonical.loadEnable {p : Nat} (h : Canonical s) : Canonical (loadEnable s n p) := h.setFlag.loadSync

theorem Canonical.afterRelease {before : BitVec 32} (h : Canonical s) : Canonical (afterRelease s n before) :=
  have h := h.guardRefresh
  .ite h (
    have h := h.foldl (·.loadSync)
    .ite h.ffRelease.journal.event h)

theorem Canonical.pinRelease {pins : BitVec 32} (h : Canonical s) : Canonical (pinRelease s n pins) :=
  .ite h.setFlag (.afterRelease (h.foldl (·.setFlag.setFlag)))

theorem Canonical.ccResult {p result partner : Nat} {volts : Int} (h : Canonical s) : Canonical (ccResult s n p result partner volts) := h.wr

theorem Canonical.ccStepDone {c : ContactCheck} {k : Nat} (h : Canonical s) : Canonical (ccStepDone s n c k) :=
  .ite (h.eachPin (fun h => .ite h.ccResult h)) (.ite h.ccResult h)

theorem Canonical.ccAdvanceGo {fuel : Nat} (h : Canonical s) : Canonical (ccAdvanceGo n fuel s) := by
  induction fuel generalizing s with
  | zero => exact h
  | succ fuel ih =>
    unfold Machine.ccAdvanceGo
    split
    · exact h
    · exact .ite (ih h.ccStepDone.setFld.modPin) h

theorem Canonical.ccAdvance (h : Canonical s) : Canonical (ccAdvance s n) := h.ccAdvanceGo

theorem Canonical.ccStartNow {readings : List PinReading} (h : Canonical s) : Canonical (ccStartNow s n readings) :=
  .ffGuard (.guardPins (.modPin (.setFlag (.setFld (.setFld (h.madPreempt.eachPin (·.wr)))))))

theorem Canonical.ccStart {readings : List PinReading} (h : Canonical s) : Canonical (ccStart s n readings) := .ite h (.ite h.setFlag h.ccStartNow)

theorem Canonical.ccSwap {c : ContactCheck} {p : Nat} (h : Canonical s) : Canonical (ccSwap s n c p) := by
  unfold Machine.ccSwap
  dsimp only
  split
  · exact h.ccResult
  · exact h

theorem Canonical.ccReclassify {c : ContactCheck} (h : Canonical s) : Canonical (ccReclassify s n c) :=
  .eachPin (h.eachPin (fun h => .ite h.ccSwap h)) (fun h => .ite h.wr h)

theorem Canonical.ccReleaseDue (h : Canonical s) : Canonical (ccReleaseDue s n) := by
  unfold Machine.ccReleaseDue
  split
  · exact .ite (.afterRelease (.setFlag (h.modPin.foldl (·.setFlag.setFlag.setFlag)))) h
  · exact h

theorem Canonical.ccEnd (h : Canonical s) : Canonical (ccEnd s n) := by
  unfold Machine.ccEnd
  split
  · exact .ite (.ccReleaseDue (.modPin (.event (.setFld (h.ccAdvance.ccReclassify.setFlag.setFlag.eachPin (·.readyVerdict)))))) h
  · exact h

theorem Canonical.ccAbort (h : Canonical s) : Canonical (ccAbort s n) := .ite h.ccAdvance.modPin.setFld.setFlag.setFlag.event h

theorem Canonical.guardInRise {ps : Nat} (h : Canonical s) : Canonical (guardInRise s ps) :=
  h.frame.eachSlice (fun h =>
    have h := h.setFlag.modPin
    .ite h.setFld h)

theorem Canonical.guardInFall {ps : Nat} (h : Canonical s) : Canonical (guardInFall s ps) :=
  h.frame.eachSlice (fun h =>
    have h := h.setFlag
    .ite (
      have h := h.modPin
      .ite h.setFld h) h)

theorem Canonical.guardEntrySlice (h : Canonical s) : Canonical (guardEntrySlice s n) :=
  .ite (
    have h := h.ccAbort
    .event (.journal (.ffGuard (.guardPins (.eachPin (.count (.setFlag (.ite h.setFld h))) (·.setFld)))))) h

theorem Canonical.guardEntry (h : Canonical s) : Canonical (guardEntry s) := by
  unfold Machine.guardEntry
  split
  · exact .ite (h.frame.eachSlice (·.guardEntrySlice)) h
  · exact h

theorem Canonical.guardDebounceEnd {readings : List PinReading} (h : Canonical s) : Canonical (guardDebounceEnd s n readings) := by
  unfold Machine.guardDebounceEnd
  split
  · exact .ite (
      have h := h.setFlag.modPin
      have h := Canonical.ite h.setFld h
      .ite h.ccStartNow h) h
  · exact h

theorem Canonical.pmuSwitchDone {p : Nat} (h : Canonical s) : Canonical (pmuSwitchDone s n p) := h.setFlag

theorem Canonical.pmuModeChange {p : Nat} {mode : Bool} {range : Nat} (h : Canonical s) : Canonical (pmuModeChange s n p mode range) :=
  have h := h.setFlag.setFld
  .ite h.modPin h

theorem Canonical.pmuForceResume {p : Nat} (h : Canonical s) : Canonical (pmuForceResume s n p) := h.modPin

theorem Canonical.pinsPowerOff (h : Canonical s) : Canonical (pinsPowerOff s n) :=
  .guardPins (h.ccAbort.modPin.eachPin (·.setFlag.setFlag.setFlag.releaseAdmission))

/-! ### Streamer -/

theorem Canonical.setVecState {v : Nat} (h : Canonical s) : Canonical (setVecState s n v) := h.setFld

theorem Canonical.tsetCheck {set : Nat} (h : Canonical s) : Canonical (tsetCheck s n set) := h.setFlag.setFld.setFld

theorem Canonical.capturePut {r : List Byte} (h : Canonical s) : Canonical (capturePut s n r) :=
  .ite h.count.setFlag (.ite h.modVec.setFld.count (.ite h.modVec.setFld.setFlag.count h.count.setFlag))

theorem Canonical.captureIn {index : Nat} {rs : List (List Byte)} (h : Canonical s) : Canonical (captureIn s n index rs) :=
  .ite h (.ite (.ite (h.foldl (·.capturePut)) h.countBy.setFlag.conflict.modVec) (.ite (h.capturePut.capturePut.modVec.foldl (·.capturePut))
    h.countBy.setFlag.conflict.modVec))

theorem Canonical.marker {kind index data : Nat} (h : Canonical s) : Canonical (marker s n kind index data) := h.captureIn

theorem Canonical.failVector {index : Nat} {failed : BitVec 32} {record : Bool} (h : Canonical s) : Canonical (failVector s n index failed record) :=
  have h := h.pairAdd.pewterEvent.foldl (·.count)
  .ite h.captureIn h

theorem Canonical.showWindow {w : Nat} {b : Bool} (h : Canonical s) : Canonical (showWindow s n w b) := h.wr

theorem Canonical.windowOpen {w : Nat} (h : Canonical s) : Canonical (windowOpen s n w) := .showWindow (.modVec (.ite h.setFlag h))

theorem Canonical.windowClose {w beat : Nat} (h : Canonical s) : Canonical (windowClose s n w beat) := by
  unfold Machine.windowClose
  split
  · exact h.setFlag
  · exact h.modVec.showWindow

theorem Canonical.windowMember {compared failed : BitVec 32} {strobeBeat : Nat → Nat} (h : Canonical s) :
    Canonical (windowMember s n compared failed strobeBeat) :=
  h.modVec

theorem Canonical.pinSummaryVerdict (h : Canonical s) : Canonical (pinSummaryVerdict s n) := h.modVec.foldl (·.foldl (·.readyVerdict))

theorem Canonical.windowsStopped (h : Canonical s) : Canonical (windowsStopped s n) := h.windowsIncomplete

theorem Canonical.haltPins (h : Canonical s) : Canonical (haltPins s n) := by
  unfold Machine.haltPins
  exact h.modVec

theorem Canonical.vecLeave {state : Nat} (h : Canonical s) : Canonical (vecLeave s n state) := h.modVec.haltPins.setVecState

theorem Canonical.vecStop {state : Nat} (h : Canonical s) : Canonical (vecStop s n state) := h.vecLeave.windowsStopped

theorem Canonical.matchMark {r : VectorRun} {data : Nat} (h : Canonical s) : Canonical (matchMark s n r data) :=
  have h := h.marker
  .ite h h.journal

theorem Canonical.matchEnd {r : VectorRun} {broken : Bool} (h : Canonical s) : Canonical (matchEnd s n r broken) :=
  .matchMark (.ite (
    have h := h.count.setFlag
    have h := Canonical.ite h h.failVector
    .ite h.windowMember h) h)

theorem Canonical.repeatEnd {r : VectorRun} {broken : Bool} (h : Canonical s) : Canonical (repeatEnd s n r broken) :=
  .ite h.matchEnd (.ite h.marker h)

theorem Canonical.repeatCut (h : Canonical s) : Canonical (repeatCut s n) := by
  unfold Machine.repeatCut
  split
  · exact h
  · exact
      have h := h.modVec
      .ite h.matchMark (.ite h.repeatEnd h)

theorem Canonical.vecError {err addr : Nat} (h : Canonical s) : Canonical (vecError s n err addr) :=
  h.setFld.setFld.repeatCut.marker.vecStop.pewterEvent.raise

theorem Canonical.vecFaultHalt (h : Canonical s) : Canonical (vecFaultHalt s n) :=
  .ite h.setFld.repeatCut.marker.vecStop.pewterEvent (.ite h h.setFld.setVecState.pewterEvent)

theorem Canonical.vecUnderrun {addr : Nat} (h : Canonical s) : Canonical (vecUnderrun s n addr) :=
  h.repeatCut.marker.conflict.count.setFlag.vecStop.pewterEvent.event.journal

theorem Canonical.vecHaltRun {host : Bool} (h : Canonical s) : Canonical (vecHaltRun s n host) :=
  .ite h.repeatCut.marker.vecLeave (.ite h.setVecState h)

theorem Canonical.vecHaltNow {host : Bool} (h : Canonical s) : Canonical (vecHaltNow s n host) := .ite h.vecHaltRun.windowsStopped h.vecHaltRun

theorem Canonical.ringRp {addr : Nat} (h : Canonical s) : Canonical (ringRp s n addr) := by
  unfold Machine.ringRp
  dsimp only
  split
  · exact h
  · exact h.setFld.modVec

theorem Canonical.vecApply {addr : Nat} {w : VecWord} {misses : BitVec 32} {present first : Bool} (h : Canonical s) :
    Canonical (vecApply s n addr w misses present first) :=
  have h := Canonical.setPair (.setFld (.modVec (.ite h h.countBy.setFlag)))
  have h := Canonical.ite h.marker h
  have h := Canonical.ite h.marker h
  have h := Canonical.ite h (.ite h h.failVector)
  .ringRp (.ite h h.windowMember)

theorem Canonical.vecDue {addr : Nat} {misses : BitVec 32} {present looped : Bool} (h : Canonical s) :
    Canonical (vecDue s n addr misses present looped) := by
  refine .ite h.vecError ?_
  split
  · exact h.vecUnderrun
  · exact .ite h.vecError (.ite h.vecError (.ite h.vecError (.ite (.ite h.vecApply (.ite h.vecError h.modVec.vecApply)) (.ite h.vecError
    h.vecApply))))

theorem Canonical.vecAgain {addr : Nat} {misses : BitVec 32} (h : Canonical s) : Canonical (vecAgain s n addr misses) := by
  unfold Machine.vecAgain
  split
  · exact h.vecUnderrun
  · exact .ite h.vecError (.ite h.vecError h.vecApply)

theorem Canonical.loopEnd {r : VectorRun} (h : Canonical s) : Canonical (loopEnd s n r).1 := by
  unfold Machine.loopEnd
  split
  · exact .ite_fst (.fst h.modVec) (.fst h.modVec)
  · exact .fst h

theorem Canonical.captureEvent {beat : Nat} {a : StreamAction} (h : Canonical s) : Canonical (captureEvent s n beat a) := by
  unfold Machine.captureEvent
  split
  · exact h.windowOpen
  · exact h.windowClose
  · exact h.marker
  · exact h

theorem Canonical.vecStartNow {addr : Nat} (h : Canonical s) : Canonical (vecStartNow s n addr) := by
  unfold Machine.vecStartNow
  exact h.setPair.setFld.setVecState.modVec

theorem Canonical.runCloses {t : Nat} {brk : Bool} (h : Canonical s) : Canonical (runCloses s n t brk).1 := by
  unfold Machine.runCloses
  split
  · exact .fst (.ite h.setFlag h)
  · exact .ite_fst (.fst (.ite h.setFlag h)) (.ite_fst (.fst h.repeatEnd) (.ite_fst (.fst h.repeatEnd) (.fst h)))

theorem Canonical.vecFollow {misses : BitVec 32} {ended : Bool} (h : Canonical s) : Canonical (vecFollow s n misses ended) := by
  unfold Machine.vecFollow
  split
  · exact h
  · refine .ite h.vecAgain ?_
    exact
      have h := h.modVec
      .ite h.loopEnd.vecDue (by
        split
        · exact h.vecDue
        · exact h.marker.vecStop.pewterEvent)

theorem Canonical.vectorBoundary {misses : BitVec 32} (h : Canonical s) : Canonical (vectorBoundary s n misses) := by
  refine .ite ?_ h
  exact
    have h := h.modVec.runCloses
    by
      split
      · exact .windowsStopped (.foldl (.vecHaltRun (.ite h.modVec h.repeatCut)) (·.captureEvent))
      · exact .vecDue (.foldl (.marker (.setFld (.modVec (.ite h.modVec h.repeatCut)))) (·.captureEvent))
      · exact .vecFollow (h.foldl (·.captureEvent))

theorem Canonical.vecEvent {e : StreamAction} (h : Canonical s) : Canonical (vecEvent s n e) := by
  refine .ite (.ite h h.eventDropped) ?_
  refine .ite h.modVec ?_
  split
  · exact h.vecStartNow
  · exact h.setFlag
  · exact h.vecHaltNow
  · exact h.captureEvent

theorem Canonical.ringAdvance {wp : Nat} (h : Canonical s) : Canonical (ringAdvance s n wp) := .ite h.setFld (.ite h.setFlag (.ite h h.setFld))

theorem Canonical.fcReset (h : Canonical s) : Canonical (fcReset s n) := .ite h h.setFld.setFlag.setFlag

theorem Canonical.showLoaded (h : Canonical s) : Canonical (showLoaded s n) := h.foldl (·.setFlag)

theorem Canonical.vecFill {line : Nat} {data : List Byte} {poison : List Nat} (h : Canonical s) : Canonical (vecFill s n line data poison) :=
  h.modVec.showLoaded

theorem Canonical.vecDrain (h : Canonical s) : Canonical (vecDrain s n) := by
  unfold Machine.vecDrain
  exact .modVec (.ite h.repeatCut.marker.vecStop h.setVecState)

theorem Canonical.windowsDrop (h : Canonical s) : Canonical (windowsDrop s n) := h.modVec.wr.wr

/-! ### Synthesis -/

theorem Canonical.modTone {u : Fin 32} {f : Tone → Tone} (h : Canonical s) : Canonical (modTone s n u f) := h.modSl

theorem Canonical.modTx {k : Fin 4} {f : TxChannel → TxChannel} (h : Canonical s) : Canonical (modTx s n k f) := h.modSl

theorem Canonical.setToneState {u : Fin 32} {v : Nat} (h : Canonical s) : Canonical (setToneState s n u v) := h.setFld

theorem Canonical.setTrack {k : Fin 4} {r : Fin 32} {acc : Nat} {rebased : Bool} (h : Canonical s) : Canonical (setTrack s n k r acc rebased) :=
  h.modTx

theorem Canonical.trackRebaseOne {k : Fin 4} {r : Fin 32} (h : Canonical s) : Canonical (trackRebaseOne s n k r) := h.setTrack

theorem Canonical.trackRetune {k : Fin 4} {r : Fin 32} {ftw : Nat} (h : Canonical s) : Canonical (trackRetune s n k r ftw) :=
  have h := h.setPair
  .ite h.trackRebaseOne h.setTrack

theorem Canonical.trackRebase {k : Fin 4} {tracks : Nat} (h : Canonical s) : Canonical (trackRebase s n k tracks) :=
  h.foldl (fun h => .ite h.trackRebaseOne h)

theorem Canonical.toneBind {u : Fin 32} {r sample : Nat} (h : Canonical s) : Canonical (toneBind s n u r sample) := h.modTone

theorem Canonical.toneFree {u : Fin 32} {ftw sample : Nat} (h : Canonical s) : Canonical (toneFree s n u ftw sample) := by
  unfold Machine.toneFree
  exact h.modTone

theorem Canonical.setPoff {u : Fin 32} {sample : Nat} {set : Bool} {v : Nat} (h : Canonical s) : Canonical (setPoff s n u sample set v) := by
  unfold Machine.setPoff
  exact h.modTone

theorem Canonical.rampDown {u : Fin 32} {j : Nat} (h : Canonical s) : Canonical (rampDown s n u j) := by
  unfold Machine.rampDown
  exact h.modTone

theorem Canonical.markLeave {u : Fin 32} (h : Canonical s) : Canonical (markLeave s n u) := h.modTone.foldl (·.setFlag)

theorem Canonical.markAct {u : Fin 32} {limit : Nat} (h : Canonical s) : Canonical (markAct s n u limit) := by
  unfold Machine.markAct
  split
  · exact h
  · exact .ite h.modTone.setFlag h

theorem Canonical.markForce {k : Fin 4} {m : Fin 2} {level : Option Bool} (h : Canonical s) : Canonical (markForce s n k m level) := by
  unfold Machine.markForce
  split
  · exact h.modTx.setFlag
  · exact h.setFlag

theorem Canonical.toneTrim {u : Fin 32} (h : Canonical s) : Canonical (toneTrim s n u) := by
  unfold Machine.toneTrim
  exact h.modTone

theorem Canonical.showEntries {u : Fin 32} (h : Canonical s) : Canonical (showEntries s n u) := h.foldl (·.setFlag)

theorem Canonical.toneFill {u : Fin 32} {line : Nat} {pinned : Bool} {data : List Byte} {poison : List Nat} (h : Canonical s) :
    Canonical (toneFill s n u line pinned data poison) :=
  .ite h.modTone.showEntries h.modTone

theorem Canonical.toneEntryChanged {u : Fin 32} {e : Nat} (h : Canonical s) : Canonical (toneEntryChanged s n u e) := h.modTone.showEntries

theorem Canonical.toneFlush {u : Fin 32} (h : Canonical s) : Canonical (toneFlush s n u) := .ite h.modTone h.setFlag

theorem Canonical.toneLeave {u : Fin 32} {j state : Nat} (h : Canonical s) : Canonical (toneLeave s n u j state) :=
  h.markLeave.rampDown.modTone.setToneState

theorem Canonical.toneUnderrun {u : Fin 32} {i j : Nat} (h : Canonical s) : Canonical (toneUnderrun s n u i j) :=
  h.toneLeave.setFlag.count.conflict.event.journal

theorem Canonical.toneError {u : Fin 32} {i cause j : Nat} (h : Canonical s) : Canonical (toneError s n u i cause j) :=
  h.toneLeave.setFlag.setFld.setFld.count.raise

theorem Canonical.toneApply {u : Fin 32} {i j0 : Nat} {g : Segment} (h : Canonical s) : Canonical (toneApply s n u i j0 g) := by
  unfold Machine.toneApply
  extract_lets a0 s0 t t2 t3
  have ht : Canonical t := by
    unfold t
    split
    · exact h.toneBind
    · exact h.toneFree
    · exact h
  have h2 : Canonical t2 := .ite ht ht.setPoff
  exact h2.modTone.setToneState.setFld.toneTrim

theorem Canonical.toneStart {u : Fin 32} {i j0 : Nat} (h : Canonical s) : Canonical (toneStart s n u i j0) := by
  unfold Machine.toneStart
  split
  · exact h.toneUnderrun
  · exact .ite h.toneError (.ite h.toneError h.toneApply)

theorem Canonical.toneZero {u : Fin 32} {j : Nat} (h : Canonical s) : Canonical (toneZero s n u j) := by
  unfold Machine.toneZero
  exact h.toneLeave.modTone

theorem Canonical.toneNatural {u : Fin 32} {limit : Nat} (h : Canonical s) : Canonical (toneNatural s n u limit) := by
  unfold Machine.toneNatural
  split
  · exact h
  · refine .ite h ?_
    exact
      have h := h.modTone
      by
        dsimp only
        split
        · exact h.setToneState
        · exact h.setToneState
        · exact h.toneStart

theorem Canonical.toneCatchUp {u : Fin 32} {limit fuel : Nat} (h : Canonical s) : Canonical (toneCatchUp s n u limit fuel) := by
  induction fuel generalizing s with
  | zero => exact h
  | succ fuel ih =>
    unfold Machine.toneCatchUp
    split
    · exact h
    · exact .ite h (ih h.toneNatural)

theorem Canonical.toneToBoundary {u : Fin 32} (h : Canonical s) : Canonical (toneToBoundary s n u) := h.toneCatchUp

theorem Canonical.toneBefore {u : Fin 32} (h : Canonical s) : Canonical (toneBefore s n u) := .ite h h.toneCatchUp

theorem Canonical.toneEvent {u : Fin 32} {f : State → State} (h : Canonical s) (hf : ∀ {t}, Canonical t → Canonical (f t)) :
    Canonical (toneEvent s n u f) :=
  .ite h.eventDropped (hf h)

theorem Canonical.toneSegment {u : Fin 32} {i : Nat} (h : Canonical s) : Canonical (toneSegment s n u i) :=
  h.toneEvent (·.toneBefore.modTone.toneStart)

theorem Canonical.toneZeroEvent {u : Fin 32} (h : Canonical s) : Canonical (toneZeroEvent s n u) := h.toneEvent (·.toneBefore.toneZero)

theorem Canonical.toneTrack {u : Fin 32} {r : Nat} (h : Canonical s) : Canonical (toneTrack s n u r) := h.toneEvent (·.toneToBoundary.toneBind)

theorem Canonical.tonePhase {u : Fin 32} {set : Bool} {v : Nat} (h : Canonical s) : Canonical (tonePhase s n u set v) :=
  h.toneEvent (·.toneToBoundary.setPoff)

theorem Canonical.eachTone {f : State → Fin 32 → State} (h : Canonical s) (hf : ∀ {t i}, Canonical t → Canonical (f t i)) :
    Canonical (eachTone s f) :=
  h.foldl (fun h => (hf h))

theorem Canonical.txCause {k : Fin 4} {cause : Field} {b : Bool} (h : Canonical s) : Canonical (txCause s n k cause b) :=
  have h := h.setFlag.setFlag
  .ite h (.ite h.count (.ite h.wr h))

theorem Canonical.txEnable {k : Fin 4} (h : Canonical s) : Canonical (txEnable s n k) := .ite h.setFld.askAdmission h

theorem Canonical.txGranted {k : Fin 4} (h : Canonical s) : Canonical (txGranted s n k) := .ite h.modTx.setFld h

theorem Canonical.txRefused {k : Fin 4} (h : Canonical s) : Canonical (txRefused s n k) := h.setFld

theorem Canonical.txOff {k : Fin 4} (h : Canonical s) : Canonical (txOff s n k) := h.setFld.releaseAdmission

theorem Canonical.txLatch (h : Canonical s) : Canonical (txLatch s).2 := .snd (h.eachSlice (·.foldl (·.modTx)))

theorem Canonical.txBeatOne {was : Bool} {k : Fin 4} (h : Canonical s) : Canonical (txBeatOne was s n k) :=
  .ite (.ite h h.modTx) (.modTx (.ite h h.countBy.setFlag))

theorem Canonical.tonePrune {u : Fin 32} (h : Canonical s) : Canonical (tonePrune s n u) := by
  unfold Machine.tonePrune
  exact h.modTone

theorem Canonical.txBeat {old : List (List Bool)} (h : Canonical s) : Canonical (txBeat old s) :=
  .ite h (h.eachSlice (fun h => .eachTone (.foldl (h.eachTone (fun h => .ite h h.toneToBoundary)) (·.txBeatOne)) (fun h => .ite h h.tonePrune)))

theorem Canonical.toneDrain (h : Canonical s) : Canonical (toneDrain s n) :=
  .foldl (h.eachTone (·.toneBefore.toneLeave)) (·.foldl (·.setFlag.setFlag))

theorem Canonical.toneReset (h : Canonical s) : Canonical (toneReset s n) :=
  .foldl (h.eachTone (·.modTone.wr.wr.wr.wr.setFld)) (·.wr.wr.wr.wr.setFld.setFlag.setFlag)

theorem Canonical.txContain (h : Canonical s) : Canonical (txContain s n) :=
  .foldl (h.eachTone (fun h => .ite h h.toneBefore.toneZero)) (·.txOff.txCause)

theorem Canonical.synthEpoch (h : Canonical s) : Canonical (synthEpoch s n) := .eachTone (h.foldl (·.foldl (·.setTrack))) (·.modTone)

theorem Canonical.txDisable {k : Fin 4} (h : Canonical s) : Canonical (txDisable n k s) := h.txOff.disRecord

theorem Canonical.trackAccRead {k : Fin 4} (h : Canonical s) : Canonical (trackAccRead n k s) := .frame h.setPair

/-! ### Receive -/

theorem Canonical.modRx {j : Fin 2} {f : RxChannel → RxChannel} (h : Canonical s) : Canonical (modRx s n j f) := h.modSl

theorem Canonical.modBin {u : Fin 32} {f : Bin → Bin} (h : Canonical s) : Canonical (modBin s n u f) := h.modSl

theorem Canonical.modAcq {st : Fin 4} {f : AcqStream → AcqStream} (h : Canonical s) : Canonical (modAcq s n st f) := h.modSl

theorem Canonical.rxEnable {j : Fin 2} (h : Canonical s) : Canonical (rxEnable s n j) := .ite h.setFld.askAdmission h

theorem Canonical.rxGranted {j : Fin 2} (h : Canonical s) : Canonical (rxGranted s n j) := .ite h.modRx.setFld h

theorem Canonical.rxRefused {j : Fin 2} (h : Canonical s) : Canonical (rxRefused s n j) := h.setFld

theorem Canonical.rxOff {j : Fin 2} (h : Canonical s) : Canonical (rxOff s n j) := h.setFld.releaseAdmission

theorem Canonical.rxRange {j : Fin 2} (h : Canonical s) : Canonical (rxRange s n j) := h.modRx.setFlag

theorem Canonical.wramStore {u : Fin 32} {i : Nat} {v : Word} (h : Canonical s) : Canonical (wramStore s n u i v) := h.wr

theorem Canonical.wramRelease {u : Fin 32} (h : Canonical s) : Canonical (wramRelease s n u) := h.modBin.foldl (·.wramStore)

theorem Canonical.wramWrite {u : Fin 32} {i : Nat} {v : Word} (h : Canonical s) : Canonical (wramWrite s n u i v) := .ite h.wramStore h.modBin

theorem Canonical.binDropWindow {u : Fin 32} (h : Canonical s) : Canonical (binDropWindow s n u) :=
  have h := h.modBin.setFld
  .ite h.wramRelease h

theorem Canonical.setAcqState {st v : Nat} (h : Canonical s) : Canonical (setAcqState s n st v) := h.setFld

theorem Canonical.segmentTrigger {st : Fin 4} (h : Canonical s) : Canonical (segmentTrigger s n st) := h.modAcq.setAcqState

theorem Canonical.segmentWaiting {st : Fin 4} (h : Canonical s) : Canonical (segmentWaiting s n st) :=
  have h := h.setAcqState
  .ite h.segmentTrigger h

theorem Canonical.prefillDone {st : Fin 4} (h : Canonical s) : Canonical (prefillDone s n st) := .ite h.segmentWaiting h

theorem Canonical.segmentBegin {st : Fin 4} {from_ beat : Nat} (h : Canonical s) : Canonical (segmentBegin s n st from_ beat) := h.modAcq.setAcqState

theorem Canonical.acqArm {d : Nat} (h : Canonical s) : Canonical (acqArm s n d) := by
  unfold Machine.acqArm
  split
  · exact h.setFlag.setFld
  · split
    · exact h
    · exact h.modAcq.setFld.setFld.setFld.segmentBegin.prefillDone

theorem Canonical.closeLine {st : Fin 4} (h : Canonical s) : Canonical (closeLine s n st) := by
  unfold Machine.closeLine
  dsimp only
  split
  · exact h
  · exact h.modAcq

theorem Canonical.segmentEnd {st : Fin 4} {status lostAt : Nat} (h : Canonical s) : Canonical (segmentEnd s n st status lostAt) := by
  unfold Machine.segmentEnd
  exact h.closeLine.modAcq

theorem Canonical.recordEnd {st : Fin 4} {status lostAt : Nat} (h : Canonical s) : Canonical (recordEnd s n st status lostAt) :=
  h.segmentEnd.setAcqState

theorem Canonical.acqOverflow {st : Fin 4} {item : Nat} (h : Canonical s) : Canonical (acqOverflow s n st item) := h.recordEnd.count.setFlag.conflict

theorem Canonical.putItem {st : Fin 4} {pos value : Nat} (h : Canonical s) : Canonical (putItem s n st pos value).1 :=
  have h := Canonical.ite h h.closeLine
  .ite_fst (.fst h) (
    have h := h.modAcq
    .ite_fst (.fst h) (.fst h.closeLine.modAcq))

theorem Canonical.acqPut {st : Fin 4} {k value : Nat} (h : Canonical s) : Canonical (acqPut s n st k value) :=
  .ite (.ite h (
    have h := h.putItem
    .ite h.acqOverflow h.modAcq)) (.ite (.ite (.ite h (
    have h := h.putItem
    .ite h.acqOverflow h.modAcq)) (.ite (
    have h := h.putItem
    .ite h.acqOverflow h.modAcq) h)) h)

theorem Canonical.acqTakeEntry {st : Fin 4} (h : Canonical s) : Canonical (acqTakeEntry s n st) := by
  unfold Machine.acqTakeEntry
  split
  · exact h
  · exact h.modAcq.acqPut

theorem Canonical.acqSettle {st : Fin 4} (h : Canonical s) : Canonical (acqSettle s n st) := .prefillDone (h.foldl (·.acqTakeEntry))

theorem Canonical.acqEntry {kind u value : Nat} (h : Canonical s) : Canonical (acqEntry s n kind u value) := h.foldl (fun h => .ite h.modAcq h)

theorem Canonical.acqItem {st : Fin 4} {samples : List (BitVec 12)} (h : Canonical s) : Canonical (acqItem s n st samples) :=
  .ite h (.ite h.acqTakeEntry (.ite h.modAcq.acqPut h))

theorem Canonical.streamTrigger {st : Fin 4} (h : Canonical s) : Canonical (streamTrigger s n st) := by
  unfold Machine.streamTrigger
  exact
    have h := h.acqSettle
    by
      dsimp only
      split
      · exact h.count.setFlag
      · exact h.segmentTrigger
      · exact h

theorem Canonical.acqTrigger (h : Canonical s) : Canonical (acqTrigger s n) := h.foldl (fun h => .ite h.streamTrigger h)

theorem Canonical.acqBinTrigger {u : Nat} (h : Canonical s) : Canonical (acqBinTrigger s n u) := h.foldl (fun h => .ite h.streamTrigger h)

theorem Canonical.acqStopAll {status : Nat} (h : Canonical s) : Canonical (acqStopAll s n status) := h.foldl (fun h => .ite h.acqSettle.recordEnd h)

theorem Canonical.acqSegmentEnd {st : Fin 4} (h : Canonical s) : Canonical (acqSegmentEnd s n st) :=
  .ite (.ite h.segmentEnd.setFld.segmentBegin h.recordEnd) h

theorem Canonical.acqEvent {f : State → State} (h : Canonical s) (hf : ∀ {t}, Canonical t → Canonical (f t)) : Canonical (acqEvent s n f) :=
  h.coreEvent (fun h => .ite h.eventDropped (hf h))

theorem Canonical.acqFree {st : Fin 4} (h : Canonical s) : Canonical (acqFree s n st) := .ite h.setAcqState.setFld.event h

theorem Canonical.acqWritten {st : Fin 4} (h : Canonical s) : Canonical (acqWritten s n st) := h.modAcq

theorem Canonical.binOpenWindow {u : Fin 32} {set : Nat} (h : Canonical s) : Canonical (binOpenWindow s n u set) :=
  .ite h.setFlag h.modBin.setFld.setFld.acqBinTrigger

theorem Canonical.binTrigger {u : Fin 32} {set : Nat} (h : Canonical s) : Canonical (binTrigger s n u set) := by
  refine .ite h.eventDropped ?_
  split
  · exact h.binOpenWindow
  · exact .ite h.binDropWindow.count.setFlag.binOpenWindow h.count.setFlag

theorem Canonical.binCancel {u : Fin 32} (h : Canonical s) : Canonical (binCancel s n u) := by
  refine .ite h.eventDropped ?_
  split
  · exact h
  · exact h.binDropWindow.count

theorem Canonical.binWindowEnd {u : Fin 32} {samples : List (BitVec 12)} (h : Canonical s) : Canonical (binWindowEnd s n u samples) := by
  unfold Machine.binWindowEnd
  split
  · exact h
  · exact .ite h (
      have h := h.modBin
      .ite h.setFld.wramRelease (.ite h.wramRelease h))

theorem Canonical.discriminate {u : Fin 32} (h : Canonical s) : Canonical (discriminate s n u) := by
  unfold Machine.discriminate
  split
  · exact h
  · exact h.modBin

theorem Canonical.verdictOut {r : BinResult} {d code : Nat} (h : Canonical s) : Canonical (verdictOut s n r d code) :=
  h.setFld.setFlag.readyVerdict.acqEntry

theorem Canonical.binResult {u : Fin 32} (h : Canonical s) : Canonical (binResult s n u) := by
  unfold Machine.binResult
  split
  · exact h
  · refine .ite h ?_
    exact
      have h := Canonical.ite h.discriminate h
      by
        dsimp only
        split
        · exact h
        · exact
            have h := h.modBin.wr.wr.setPair.setFlag.setFlag.setFlag.setFld.count
            have h := Canonical.ite h.setFlag h
            have h := Canonical.ite h.setFlag h
            .foldl (.acqEntry (.ite h.setFlag h)) (·.verdictOut)

theorem Canonical.binBeatOne {u : Fin 32} (h : Canonical s) : Canonical (binBeatOne s n u) :=
  .ite h (
    have h := h.modBin
    .ite (
      have h := h.setFlag
      .ite h.setFld.wramRelease h) h)

theorem Canonical.rxBeat {ovr : BitVec 32} (h : Canonical s) : Canonical (rxBeat s ovr) :=
  .ite h (h.eachSlice (fun h => .foldl (h.foldl (fun h => .ite h.count.setFlag h)) (·.binBeatOne)))

theorem Canonical.rxDrain (h : Canonical s) : Canonical (rxDrain s n) := .setFlag (.acqStopAll (h.foldl (·.modBin.wramRelease.setFld)))

theorem Canonical.rxReset (h : Canonical s) : Canonical (rxReset s n) :=
  .setFlag (.wr (.wr (.wr (.foldl (.foldl (h.foldl (fun h => .setFld (h.foldl (·.wr)))) (·.wr.wr.setFld)) (·.modAcq.wr)))))

theorem Canonical.rxEpoch {e : Nat} (h : Canonical s) : Canonical (rxEpoch s n e) := .foldl (h.foldl (·.modBin)) (·.modAcq)

theorem Canonical.rxDisable {j : Fin 2} (h : Canonical s) : Canonical (rxDisable n j s) := h.rxOff.disRecord

/-! ### Verdicts -/

theorem Canonical.modXbar {f : Crossbar → Crossbar} (h : Canonical s) : Canonical (modXbar s f) := h.frame

theorem Canonical.verdictExport {v value due kind : Nat} (h : Canonical s) : Canonical (verdictExport s v value due kind) :=
  .ite h (h.foldl (·.expressTo))

theorem Canonical.verdictReady {v : Nat} (h : Canonical s) : Canonical (verdictReady s v) := by
  unfold Machine.verdictReady
  split
  · exact h
  · exact
      have h := h.modXbar
      .ite h (.verdictExport (.modXbar (.ite h.count h)))

theorem Canonical.verdictLate {v src late index due : Nat} (h : Canonical s) : Canonical (verdictLate s v src late index due) :=
  h.count.setFlag.setFld.setFld.setFld.raise.journal

theorem Canonical.journalVerdict {n v value : Nat} (h : Canonical s) : Canonical (journalVerdict s n v value) := .ite h (.ite h.frame h.journal)

theorem Canonical.verdictLatch {input : SeqInput} (h : Canonical s) : Canonical (verdictLatch s n input) := by
  unfold Machine.verdictLatch
  split
  · exact h
  · exact
      have h := h.modXbar
      .ite h.verdictLate (.ite h (
        have h := h.seqLatch
        .ite h h.journalVerdict))

theorem Canonical.holdAssert {input : SeqInput} (h : Canonical s) : Canonical (holdAssert s input) := h.eachSlice (fun h => .ite h.modSeq.setNew h)

theorem Canonical.showHold {input : SeqInput} {b : Bool} (h : Canonical s) : Canonical (showHold s input b) := by
  unfold Machine.showHold
  split
  · exact h
  · exact h.setFld

theorem Canonical.journalHold {input : SeqInput} {k : Nat} (h : Canonical s) : Canonical (journalHold s input k) := by
  unfold Machine.journalHold
  split
  · exact h.journal
  · exact h.journal

theorem Canonical.holdBegin {input : SeqInput} (h : Canonical s) : Canonical (holdBegin s input) := by
  refine .holdAssert ?_
  refine .journalHold ?_
  refine .showHold ?_
  split
  · exact h.modXbar
  · exact h.modXbar

theorem Canonical.holdFinish {input : SeqInput} (h : Canonical s) : Canonical (holdFinish s input) := by
  unfold Machine.holdFinish
  split
  · exact h
  · exact
      have h := h.modXbar
      .ite (h.showHold.journalHold.eachSlice (fun h => .ite h.setNew h)) h

theorem Canonical.holdPlan {input : SeqInput} {onset : Nat} (h : Canonical s) : Canonical (holdPlan s input onset) := .ite h h.modXbar

theorem Canonical.sourcesLost (h : Canonical s) : Canonical (sourcesLost s n) := .ite h (h.setFld.foldl (fun h => .ite h.holdPlan.verdictExport h))

theorem Canonical.sourcesBack (h : Canonical s) : Canonical (sourcesBack s n) := .ite h (h.setFld.foldl (fun h => .ite h.modXbar.verdictExport h))

theorem Canonical.exportHolds {kind : Nat} (h : Canonical s) : Canonical (exportHolds s kind) := h.foldl (fun h => .ite h.expressTo h)

theorem Canonical.importsLost {dev : Nat} (h : Canonical s) : Canonical (importsLost s dev) := h.foldl (fun h => .ite h.holdPlan h)

theorem Canonical.holdOnset {input : SeqInput} (h : Canonical s) : Canonical (holdOnset s input) := .ite h.holdBegin h

theorem Canonical.holdEnd {input : SeqInput} (h : Canonical s) : Canonical (holdEnd s input) := by
  unfold Machine.holdEnd
  split
  · split
    · exact .ite h.holdFinish h
    · exact h
  · exact h

theorem Canonical.dueError {src v due : Nat} (h : Canonical s) : Canonical (dueError s src v due) := h.count.setFlag.raise.journal

theorem Canonical.messageReceive {word : DWord} (h : Canonical s) : Canonical (messageReceive s word) :=
  .ite h.dueError (.ite h.dueError (.ite h.verdictLate h.modXbar))

theorem Canonical.messageAct {w : Nat} {i : Fin 256} (h : Canonical s) : Canonical (messageAct s w i) :=
  .ite (.ite h h.holdBegin) (.ite h.holdFinish h.holdFinish.journal.modXbar)

theorem Canonical.messageDue {m : HeldMessage} (h : Canonical s) : Canonical (messageDue s m) :=
  have h := h.modXbar
  .ite h (.ite h.count.setFlag (h.foldl (·.messageAct)))

theorem Canonical.importDeliver {i : Fin 256} (h : Canonical s) : Canonical (importDeliver s i) := by
  unfold Machine.importDeliver
  split
  · exact h.messageDue
  · exact h

theorem Canonical.latchFlight {f : VerdictFlight} (h : Canonical s) : Canonical (latchFlight s f) := by
  unfold Machine.latchFlight
  dsimp only
  split
  · exact h.modXbar
  · exact
      have h := h.eachSlice (fun h => .ite h.verdictLatch h)
      .ite h.modXbar h

theorem Canonical.verdictBeat (h : Canonical s) : Canonical (verdictBeat s) :=
  .foldl (.foldl (.foldl (h.foldl (·.messageDue)) (·.latchFlight)) (·.holdEnd.holdOnset)) (·.holdAssert)

/-! ### Timing -/

theorem Canonical.modTdc {c : Fin 8} {f : TdcChannel → TdcChannel} (h : Canonical s) : Canonical (modTdc s n c f) := h.modSl

theorem Canonical.setTdcState {c : Fin 8} {v : Nat} (h : Canonical s) : Canonical (setTdcState s n c v) := h.setFld

theorem Canonical.tdcCfgErr {c : Fin 8} (h : Canonical s) : Canonical (tdcCfgErr s n c) := h.setFlag

theorem Canonical.tdcArm {c : Fin 8} {k : Nat} (h : Canonical s) : Canonical (tdcArm s n c k) :=
  .ite h.count.setFlag (.ite h.tdcCfgErr h.modTdc.setTdcState.setFld.setFld)

theorem Canonical.tdcIdle {c : Fin 8} (h : Canonical s) : Canonical (tdcIdle s n c) :=
  have h := h.modTdc
  .ite h h.setTdcState

theorem Canonical.tdcSetupWritten {c : Fin 8} {k : Nat} (h : Canonical s) : Canonical (tdcSetupWritten s n c k) :=
  .ite (.ite h.modTdc.setFld h.tdcIdle.tdcCfgErr) h

theorem Canonical.tdcGate {c : Fin 8} (h : Canonical s) : Canonical (tdcGate s n c) := .ite h.modTdc.setTdcState h.count.setFlag

theorem Canonical.tdcResult {c : Fin 8} {t : Nat} {neg ovf invalid noedge : Bool} {val aux : Nat} (h : Canonical s) :
    Canonical (tdcResult s n c t neg ovf invalid noedge val aux) :=
  have h := h.modSl.modTdc
  .ite h.tdcIdle (
    have h := h.setTdcState
    .ite h h.setFld)

theorem Canonical.tdcDropStop {c : Fin 8} (h : Canonical s) : Canonical (tdcDropStop s n c) := h.modTdc.count.setFlag

theorem Canonical.tdcInterval {c : Fin 8} {t : Nat} {start stop : Nat × Bool} (h : Canonical s) : Canonical (tdcInterval s n c t start stop) :=
  h.tdcResult

theorem Canonical.tdcStartEdge {c : Fin 8} {t : Nat} {bad alsoStop : Bool} (h : Canonical s) : Canonical (tdcStartEdge s n c t bad alsoStop) := by
  unfold Machine.tdcStartEdge
  split
  · exact h.tdcInterval
  · exact .ite h.tdcInterval h.modTdc.setTdcState

theorem Canonical.tdcStopEdge {c : Fin 8} {t : Nat} {bad : Bool} (h : Canonical s) : Canonical (tdcStopEdge s n c t bad) := by
  unfold Machine.tdcStopEdge
  split
  · exact h.tdcInterval
  · exact .modTdc (.ite h.tdcDropStop h)

theorem Canonical.tdcMeasure {c : Fin 8} {t : Nat} {bad isStart isStop : Bool} (h : Canonical s) :
    Canonical (tdcMeasure s n c t bad isStart isStop) := by
  unfold Machine.tdcMeasure
  extract_lets ch x
  split
  · rename_i u _ _
    have ht : Canonical u := by
      unfold u
      split
      · exact .ite h.tdcDropStop h
      · exact h
    exact .ite (.ite ht.tdcStartEdge (.ite ht.tdcStopEdge ht)) (.ite ht.tdcStopEdge ht)
  · exact .ite h.tdcResult h
  · split
    · exact .ite h.modTdc h
    · exact h

theorem Canonical.tdcEdge {c : Fin 8} {input : Nat} {rising : Bool} {t : Nat} (h : Canonical s) : Canonical (tdcEdge s n c input rising t) :=
  .ite h (
    have h := h.modTdc
    .ite h.modTdc.count.setFlag (.ite h h.tdcMeasure))

theorem Canonical.tdcStopExpire {c : Fin 8} (h : Canonical s) : Canonical (tdcStopExpire s n c) := by
  unfold Machine.tdcStopExpire
  split
  · exact .ite h.tdcDropStop h
  · exact h

theorem Canonical.tdcOverflow {c : Fin 8} (h : Canonical s) : Canonical (tdcOverflow s n c) := by
  unfold Machine.tdcOverflow
  split
  · exact .ite h.tdcResult h
  · exact h

theorem Canonical.tdcGateClose {c : Fin 8} (h : Canonical s) : Canonical (tdcGateClose s n c) := by
  unfold Machine.tdcGateClose
  dsimp only
  split
  · refine .ite h ?_
    split
    · exact .ite h.tdcResult h.tdcResult
    · exact h.tdcResult
  · exact h

theorem Canonical.tdcEnqueue (h : Canonical s) : Canonical (tdcEnqueue s n) := by
  unfold Machine.tdcEnqueue
  split
  · exact h
  · exact
      have h := h.modSl
      .seqResult (.ite h.count.setFlag h.modSl.peak)

theorem Canonical.tdcTake (h : Canonical s) : Canonical (tdcTake s n) := .frame h.modSl.wr.wr.wr

theorem Canonical.tdcDisable {c : Fin 8} (h : Canonical s) : Canonical (tdcDisable s n c) := h.setFlag.tdcIdle

theorem Canonical.tdcDrain (h : Canonical s) : Canonical (tdcDrain s n) := h.foldl (·.tdcIdle.setTdcState)

theorem Canonical.tdcContain (h : Canonical s) : Canonical (tdcContain s n) := h.foldl (·.tdcIdle)

theorem Canonical.tdcReset (h : Canonical s) : Canonical (tdcReset s n) := .wr (.wr (h.foldl (·.wr.wr.wr.wr.setTdcState.setFlag)))

theorem Canonical.swr {r : Reg} {v : Int} {i : Nat} (h : Canonical s) : Canonical (s.swr r v i) := h.wr

theorem Canonical.invSlew (h : Canonical s) : Canonical (invSlew s) := h.swr.setFlag

theorem Canonical.invTrimWritten (h : Canonical s) : Canonical (invTrimWritten s) := .ite h h.swr.setFlag

theorem Canonical.invDiscipline (h : Canonical s) : Canonical (invDiscipline s) :=
  have h := h.wr
  .ite (.wr (.swr (.ite h.setFlag h))) h

theorem Canonical.invRefLoss (h : Canonical s) : Canonical (invRefLoss s) := .ite h.setFlag.setFlag.wr.setFlag.setFlag.count.raise h

theorem Canonical.invRefRestore (h : Canonical s) : Canonical (invRefRestore s) := .ite h h.setFlag.setFlag

theorem Canonical.invReferenceOff (h : Canonical s) : Canonical (invReferenceOff s) := .ite h.setFlag.setFlag.setFlag.wr.wr h

/-! ### Chain -/

theorem Canonical.modChn {f : Chain → Chain} (h : Canonical s) : Canonical (modChn s f) := h.frame

theorem Canonical.setChnState {v : Nat} (h : Canonical s) : Canonical (setChnState s v) := h.setFld

theorem Canonical.chnAlignFault (h : Canonical s) : Canonical (chnAlignFault s) := h.raise

theorem Canonical.chnFlagFault {f : Field} (h : Canonical s) : Canonical (chnFlagFault s f) := .ite h h.setFlag.chnAlignFault

theorem Canonical.chnAcquire (h : Canonical s) : Canonical (chnAcquire s) := h.modChn.setChnState.setFlag

theorem Canonical.chnUnaligned (h : Canonical s) : Canonical (chnUnaligned s) := h.modChn.setChnState.setFlag.chnAlignFault

theorem Canonical.chnRoleWrite {role pos : Nat} (h : Canonical s) : Canonical (chnRoleWrite s role pos) :=
  .ite h (.ite h.setFlag (
    have h := h.setFld.setFld.modChn.setFlag
    .ite h.setChnState.setFlag (.ite h.chnAcquire h.setChnState)))

theorem Canonical.chnClkLock (h : Canonical s) : Canonical (chnClkLock s) :=
  .ite h (
    have h := h.setFlag.setFlag.setFlag
    .ite h.modChn (.ite h.chnAcquire h))

theorem Canonical.chnHoldover {clock : Bool} (h : Canonical s) : Canonical (chnHoldover s clock) :=
  .ite h (.ite h (
    have h := Canonical.ite h.setFlag h
    .ite h.modChn h.modChn.setChnState.setFlag.count.setFlag.raise))

theorem Canonical.chnRealign (h : Canonical s) : Canonical (chnRealign s) := .ite h.setFlag (.ite h.chnAcquire h)

theorem Canonical.chainTx (h : Canonical s) : Canonical (chainTx s) := .ite h h.modChn

theorem Canonical.countSequence {tick count : Nat} (h : Canonical s) : Canonical (countSequence s tick count) :=
  .ite (.setChnState (.frame h.modChn)) (.ite h.setFlag.chnUnaligned h)

theorem Canonical.countPart {part arg : Nat} (h : Canonical s) : Canonical (countPart s part arg) := by
  refine .ite h.modChn ?_
  split
  · exact h
  · exact .ite h.modChn (.ite h.modChn.countSequence h.modChn)

theorem Canonical.epochPart {part arg : Nat} (h : Canonical s) : Canonical (epochPart s part arg) := by
  unfold Machine.epochPart
  exact
    have h := h.modChn
    by
      dsimp only
      split
      · exact .ite h.modChn.setFlag h
      · exact h

theorem Canonical.calHold {beat : Nat} (h : Canonical s) : Canonical (calHold s beat) := h.modChn.setPair

theorem Canonical.calPart {part arg : Nat} (h : Canonical s) : Canonical (calPart s part arg) := by
  unfold Machine.calPart
  exact
    have h := h.modChn
    by
      dsimp only
      split
      · exact .ite h.calHold h
      · exact h

theorem Canonical.upokSeen {ok : Bool} (h : Canonical s) : Canonical (upokSeen s ok) :=
  have h := h.modChn
  .ite h.setFlag.chnFlagFault (.ite h.setFlag h)

theorem Canonical.turnTaken {a r : Int} (h : Canonical s) : Canonical (turnTaken s a r) := h.modChn

theorem Canonical.chainRx {frame : BitVec 64} {arrival : Int} (h : Canonical s) : Canonical (chainRx s frame arrival) := by
  unfold Machine.chainRx
  refine .ite h ?_
  extract_lets w sub hops turn rv part arg s1 s2 s3 s4 s5 s6
  refine .ite h.modChn.count ?_
  have h1 : Canonical s1 := h.modChn
  have h2 : Canonical s2 := .ite h1.modChn.setFlag h1
  have h3 : Canonical s3 := .ite h2.chnFlagFault h2
  have h4 : Canonical s4 := by
    unfold s4
    split
    · exact .ite h3.turnTaken h3
    · exact h3
  have h5 : Canonical s5 := .ite (.ite h4.turnTaken h4) h4.modChn
  have h6 : Canonical s6 := h5.upokSeen
  split
  · exact h6.countPart
  · exact .ite h6.epochPart h6
  · exact .ite h6.calPart h6
  · exact h6

theorem Canonical.returnTurn (h : Canonical s) : Canonical (returnTurn s) := .ite h.modChn h

theorem Canonical.returnStamp {rpt : Int} (h : Canonical s) : Canonical (returnStamp s rpt) := .ite h.modChn h

theorem Canonical.chnTrack {num : Int} {turns : Nat} (h : Canonical s) : Canonical (chnTrack s num turns) :=
  have h := h.modChn.setChnState
  .ite h.setFlag h

theorem Canonical.chainAverage (h : Canonical s) : Canonical (chainAverage s) := by
  refine .ite h ?_
  exact
    have h := h.wr.wr.modChn
    .ite h.chnFlagFault (by
      split
      · exact .ite h h.modChn
      · exact .ite h.chnTrack h.chnUnaligned
      · exact .ite h (.ite h.chnTrack (.ite h.chnAcquire h.chnUnaligned))
      · exact h)

theorem Canonical.chainSlew (h : Canonical s) : Canonical (chainSlew s) := .ite h h.modChn

theorem Canonical.epochAsk (h : Canonical s) : Canonical (epochAsk s) := .ite h.setFlag h.modChn.setFlag

theorem Canonical.epochPair {e : Nat} {lo hi : Reg} {i : Nat} (h : Canonical s) : Canonical (epochPair s e lo hi i) := .ite h.setPair h

theorem Canonical.epochApply (h : Canonical s) : Canonical (epochApply s) := by
  unfold Machine.epochApply
  split
  · exact h
  · exact .ite h (
      have h := Canonical.eachSlice (.setPair (.frame h.journal.event.modChn.setFlag)) (·.synthEpoch.rxEpoch.epochPair.epochPair)
      .epochPair (.epochPair (.ite h h.epochPair)))

theorem Canonical.modTrg {f : TriggerBus → TriggerBus} (h : Canonical s) : Canonical (modTrg s f) := h.frame

theorem Canonical.driveLine {l : Nat} (h : Canonical s) : Canonical (driveLine s l) := by
  unfold Machine.driveLine
  exact h.modTrg

theorem Canonical.driveLines (h : Canonical s) : Canonical (driveLines s) := h.foldl (·.driveLine)

theorem Canonical.trgDriveWrite {levels : Nat} (h : Canonical s) : Canonical (trgDriveWrite s levels) := .ite h.setFlag h.setFld.driveLines

theorem Canonical.tinForward {t : Nat} {level : Bool} (h : Canonical s) : Canonical (tinForward s t level) :=
  .ite h (h.foldl (fun h => .ite h.modTrg h))

theorem Canonical.trgTransition {l : Nat} {level : Bool} {ps : Nat} (h : Canonical s) : Canonical (trgTransition s l level ps) :=
  .ite h (
    have h := h.modTrg
    .ite h.modTrg.count.setFlag h.modTrg)

theorem Canonical.trgMargins (h : Canonical s) : Canonical (trgMargins s) := .ite h h.countBy.setFlag

theorem Canonical.trgEdge {l : Nat} {rising : Bool} (h : Canonical s) : Canonical (trgEdge s l rising) := h.modTrg.count.journal

theorem Canonical.trgEffect {l : Nat} (h : Canonical s) : Canonical (trgEffect s l) :=
  have h := h.modTrg
  .ite h h.trgEdge

theorem Canonical.trgCal (h : Canonical s) : Canonical (trgCal s) := .ite h.setFlag h.modChn.calHold

theorem Canonical.trgCalDrive (h : Canonical s) : Canonical (trgCalDrive s) := by
  unfold Machine.trgCalDrive
  split
  · exact h
  · exact .ite h (
      have h := Canonical.ite h.driveLine h
      .ite h.modTrg h)

theorem Canonical.trgCalStart (h : Canonical s) : Canonical (trgCalStart s) := by
  unfold Machine.trgCalStart
  split
  · exact h
  · exact .ite h (
      have h := h.setFlag.trgCalDrive
      .ite h.modChn h.modChn.setFlag)

theorem Canonical.calPosition {l : Nat} {sum : Int} (h : Canonical s) : Canonical (calPosition s l sum) := h.setFld.setFlag.setFlag

theorem Canonical.trgCalEnd {sums : List Int} (h : Canonical s) : Canonical (trgCalEnd s sums) := by
  unfold Machine.trgCalEnd
  split
  · exact h
  · exact .ite h (
      have h := h.modTrg
      .driveLines (.setFlag (.modChn (.ite (.setFlag (h.foldl (·.calPosition))) h))))

theorem Canonical.trgPosWrite {l v : Nat} (h : Canonical s) : Canonical (trgPosWrite s l v) := h.setFld.setFlag.setFlag

/-! ### Fabric -/

theorem Canonical.modKtl {f : Fabric → Fabric} (h : Canonical s) : Canonical (modKtl s f) := h.frame

theorem Canonical.setKtlState {p v : Nat} (h : Canonical s) : Canonical (setKtlState s p v) := h.setFld

theorem Canonical.maintSend {p : Nat} {m : MaintMsg} (h : Canonical s) : Canonical (maintSend s p m) := .ite h.modPort h

theorem Canonical.maintFlood {but : Option Nat} {m : MaintMsg} (h : Canonical s) : Canonical (maintFlood s but m) :=
  h.foldl (fun h => .ite h h.maintSend)

theorem Canonical.markLink {dev port : Nat} {up : Bool} (h : Canonical s) : Canonical (markLink s dev port up) := h.modKtl.setFld

theorem Canonical.noticeSend {p : Nat} {up : Bool} (h : Canonical s) : Canonical (noticeSend s p up) := by
  unfold Machine.noticeSend
  exact h.markLink.expressEach.modKtl

theorem Canonical.noticeTake {p : Nat} {word : DWord} (h : Canonical s) : Canonical (noticeTake s p word) := .ite h.modKtl.markLink.expressEach h

theorem Canonical.ktlTrain {p : Nat} (h : Canonical s) : Canonical (ktlTrain s p) := h.modPort.setFlag.setFlag.setFlag.setFlag.setFlag.setKtlState

theorem Canonical.ktlEnable {p : Nat} (h : Canonical s) : Canonical (ktlEnable s p) := .ite h.ktlTrain h

theorem Canonical.ktlBlock {p : Nat} {f : Field} (h : Canonical s) : Canonical (ktlBlock s p f) := h.modPort.setFlag.setKtlState

theorem Canonical.trainBlock {p : Fin 4} {lane : Fin 2} {b : TrainBlock} (h : Canonical s) : Canonical (trainBlock s p lane b) := by
  unfold Machine.trainBlock
  refine .ite h ?_
  refine .ite h.ktlBlock ?_
  exact
    have h := h.setFlag.modPort
    by
      dsimp only
      split
      · exact .ite h.ktlBlock h.setFlag
      · exact h

theorem Canonical.setNeighbour {p id port : Nat} {valid : Bool} (h : Canonical s) : Canonical (setNeighbour s p id port valid) :=
  h.setFld.setFld.setFlag.setFlag

theorem Canonical.joinSend (h : Canonical s) : Canonical (joinSend s) := by
  unfold Machine.joinSend
  split
  · exact .ite h.maintSend.modKtl h
  · exact h

theorem Canonical.portUp {p : Fin 4} {flight : Nat} (h : Canonical s) : Canonical (portUp s p flight) := by
  unfold Machine.portUp
  split
  · exact .ite (
      have h := h.modPort.setKtlState.setNeighbour.setFld.setFlag
      have h := Canonical.event (.setFlag (.ite h.raise h))
      .joinSend (.ite h h.noticeSend)) h
  · exact h

theorem Canonical.portLeavesUp {p : Fin 4} {cause : Nat} (h : Canonical s) : Canonical (portLeavesUp s p cause) :=
  have h := h.modPort.countBy
  .noticeSend (.raise (.event (.setFld (.count (.setFlag (.setFld (.setKtlState (.ite h h.setFlag))))))))

theorem Canonical.portDown {p : Fin 4} {cause : Nat} (h : Canonical s) : Canonical (portDown s p cause) :=
  .ite h (
    have h := Canonical.ite h.portLeavesUp h
    .ite h.setKtlState h)

theorem Canonical.portRetrain {p : Fin 4} (h : Canonical s) : Canonical (portRetrain s p) := .ite h.ktlTrain h

theorem Canonical.packetQueue {p : Nat} {k : KtlPacket} (h : Canonical s) : Canonical (packetQueue s p k) := h.modPort

theorem Canonical.flitTx {p : Fin 4} (h : Canonical s) : Canonical (flitTx s p) := .ite h h.modPort

theorem Canonical.flitBad {p : Fin 4} (h : Canonical s) : Canonical (flitBad s p) := h.modPort.count

theorem Canonical.flitAck {p : Fin 4} {ack : Nat} {nak : Bool} (h : Canonical s) : Canonical (flitAck s p ack nak) :=
  have h := h.modPort
  .ite h.modPort.count h

theorem Canonical.flitCredits {p : Fin 4} {ch n : Nat} (h : Canonical s) : Canonical (flitCredits s p ch n) := h.modPort

theorem Canonical.payloadTake {p : Fin 4} {pl : KtlPayload} (h : Canonical s) : Canonical (payloadTake s p pl) := by
  unfold Machine.payloadTake
  split
  · exact h
  · exact h.modPort.modKtl
  · exact
      have h := h.modPort
      .ite h.modKtl h

theorem Canonical.expressTake {p : Fin 4} {w : DWord} (h : Canonical s) : Canonical (expressTake s p w) := .ite h (.ite h.expressTo h.modKtl)

theorem Canonical.flitRx {p : Fin 4} {f : KtlFlit} {symbolErrors : Nat} (h : Canonical s) : Canonical (flitRx s p f symbolErrors) :=
  .ite h (.ite h.flitBad (
    have h := Canonical.flitCredits (.flitAck (.setNeighbour (.modPort (.ite h h.count))))
    have h := Canonical.ite h (.ite h.modPort.payloadTake (.ite h.modPort h))
    .ite h (h.foldl (·.expressTake))))

theorem Canonical.setRoute {t : Topology} {d : Nat} (h : Canonical s) : Canonical (setRoute s t d) := h.wr

theorem Canonical.barriersReset (h : Canonical s) : Canonical (barriersReset s) := .modKtl (h.foldl (·.wr))

theorem Canonical.commitPort {p : Nat} (h : Canonical s) : Canonical (commitPort s p) := .ite h.setFlag.modPort.noticeSend h

theorem Canonical.ktlCommit (h : Canonical s) : Canonical (ktlCommit s) := by
  unfold Machine.ktlCommit
  split
  · exact h
  · refine .ite h ?_
    split
    · exact h.modKtl
    · exact
        have h := Canonical.setFld (.setFlag (.setFld (.setFld (.setFlag (.setFld (.modKtl (.ite h.setFlag.raise h)))))))
        have h := Canonical.setFlag (.wr (.foldl (.ite h.setFlag h) (·.setRoute)))
        .foldl (.setFld (.barriersReset (.ite h.raise h))) (·.commitPort)

theorem Canonical.routeFailover {p : Nat} (h : Canonical s) : Canonical (routeFailover s p) :=
  .ite h (h.foldl (fun h =>
    have h := Canonical.ite h.setFlag h
    .ite h.setFlag h))

theorem Canonical.routeRestore {p : Fin 4} (h : Canonical s) : Canonical (routeRestore s p) :=
  .ite (h.foldl (fun h =>
    have h := Canonical.ite h.setFlag h
    .ite h.setFlag h)) h

theorem Canonical.unreachDeclare {d : Nat} (h : Canonical s) : Canonical (unreachDeclare s d) :=
  have h := h.setFlag.importsLost
  .ite h.setFlag.setFld h

theorem Canonical.discover (h : Canonical s) : Canonical (discover s) := .ite h h.setFld.setFlag.setFld.modKtl.maintFlood

theorem Canonical.discTake {p : Fin 4} {hops : Nat} (h : Canonical s) : Canonical (discTake s p hops) :=
  .ite h (.ite h (
    have h := h.setFld.setFld.setFlag.modKtl
    .maintSend (.ite h.maintFlood h)))

theorem Canonical.topoHold {t : Topology} (h : Canonical s) : Canonical (topoHold s t) := by
  unfold Machine.topoHold
  exact h.modKtl

theorem Canonical.topoFlood {t : Topology} (h : Canonical s) : Canonical (topoFlood s t) := h.topoHold.maintFlood

theorem Canonical.idRefused {t : Topology} (h : Canonical s) : Canonical (idRefused s t) := by
  unfold Machine.idRefused
  split
  · exact .ite h h.setFlag
  · exact .ite h.setFlag h
  · exact h

theorem Canonical.settle (h : Canonical s) : Canonical (settle s) := h.topoFlood.idRefused

theorem Canonical.reportTake {l : List DiscReport} {complete : Bool} (h : Canonical s) : Canonical (reportTake s l complete) :=
  .ite (
    have h := h.modKtl
    .ite h.settle h) (h.foldl (·.maintSend))

theorem Canonical.topoTake {p : Fin 4} {t : Topology} (h : Canonical s) : Canonical (topoTake s p t) := .ite h h.topoHold.maintFlood.idRefused

theorem Canonical.joinAsk (h : Canonical s) : Canonical (joinAsk s) := .ite h h.setFld.modKtl.joinSend

theorem Canonical.joinTake {p : Fin 4} {uid : Nat} {req : Option Nat} (h : Canonical s) : Canonical (joinTake s p uid req) := by
  refine .ite h.maintSend ?_
  split
  · exact h
  · exact h.topoFlood

theorem Canonical.packetRoute {k : KtlPacket} (h : Canonical s) : Canonical (packetRoute s k).1 :=
  .ite_fst (.fst h.modKtl) (.ite_fst (.fst h.count) (.fst h.packetQueue))

theorem Canonical.packetDropped {k : KtlPacket} {status : Nat} (h : Canonical s) : Canonical (packetDropped s k status) := .ite h.packetRoute h

theorem Canonical.packetForward {k : KtlPacket} (h : Canonical s) : Canonical (packetForward s k) :=
  .ite h.count (.ite h.count.packetDropped (
    have h := h.packetRoute
    .ite h h.packetDropped))

theorem Canonical.barrierComplete {b : Nat} (h : Canonical s) : Canonical (barrierComplete s b) := .ite (.ite h.barEnd h.setFld.expressEach) h

theorem Canonical.barrierArriveTake {p w : Nat} (h : Canonical s) : Canonical (barrierArriveTake s p w) := .ite h.setFld h

theorem Canonical.barrierHoldTake {w : Nat} {abort : Bool} (h : Canonical s) : Canonical (barrierHoldTake s w abort) :=
  .ite h (
    have h := h.expressEach
    .ite h.barHold.count.raise h.barHold)

theorem Canonical.barrierReleaseTake {p w : Nat} (h : Canonical s) : Canonical (barrierReleaseTake s p w) := .ite h.barrierHoldTake h

theorem Canonical.barrierAbortTake {p w : Nat} (h : Canonical s) : Canonical (barrierAbortTake s p w) :=
  .ite h (.ite h.barrierHoldTake (.ite (.ite h.barEnd h.expressEach) h))

theorem Canonical.memberRelease {b : Nat} {abort : Bool} (h : Canonical s) : Canonical (memberRelease s n b abort) := by
  unfold Machine.memberRelease
  split
  · exact h
  · exact .ite h.seqTimeOut h.modSeq.seqResolve

theorem Canonical.barrierRelease {b : Nat} (h : Canonical s) : Canonical (barrierRelease s b) := by
  unfold Machine.barrierRelease
  split
  · exact h
  · exact .ite h (
      have h := Canonical.wr (.modKtl (h.eachSlice (·.memberRelease)))
      .journal (.ite h.count h))

theorem Canonical.wordTaken {word : DWord} (h : Canonical s) : Canonical (wordTaken s word) := h.modKtl

theorem Canonical.maintTaken {p : Fin 4} {m : MaintMsg} (h : Canonical s) : Canonical (maintTaken s p m) := h.modKtl

/-! ### Host ports -/

theorem Canonical.modHost {p : Fin 2} {f : HostPort → HostPort} (h : Canonical s) : Canonical (s.modHost p f) := h.frame

theorem Canonical.hostLinkRise {p : Fin 2} (h : Canonical s) : Canonical (hostLinkRise s p) := .ite h h.setFld.setFlag.setFlag.event

theorem Canonical.hostLinkFall {p : Fin 2} (h : Canonical s) : Canonical (hostLinkFall s p) :=
  .ite h (
    have h := h.setFld.setFlag.setFlag.setFlag
    .event (.ite h.raise h))

theorem Canonical.execHostFrameRx {p : Fin 2} {f : HostFrame} (h : Canonical s) : Result.Canonical (execHostFrameRx p f s) :=
  .ite h (
    have ht := h.countBy.countBy
    .ite ht.count (by
      split
      · exact .ite ht.count (.ite ht.modHost ht.count)
      · exact ht
      · exact .ite ht.modHost ht.count
      · exact ht.count))

theorem Canonical.ctpQuiet {p : Fin 2} (h : Canonical s) : Canonical (ctpQuiet s p) := h.modHost

theorem Canonical.ctpEmit {p : Fin 2} {k : CtpPacket} (h : Canonical s) : Canonical (ctpEmit s p k) := .ite h.modHost h

theorem Canonical.ctpSendAck {p : Fin 2} {nak : Bool} (h : Canonical s) : Canonical (ctpSendAck s p nak) := h.ctpEmit

theorem Canonical.ctpSend {p : Fin 2} {k : CtpPacket} {units : Nat} (h : Canonical s) : Canonical (ctpSend s p k units) := h.modHost.ctpEmit

theorem Canonical.ctpAbandon {p : Fin 2} (h : Canonical s) : Canonical (ctpAbandon s p) := h.modHost

theorem Canonical.ctpDown {p : Fin 2} (h : Canonical s) : Canonical (ctpDown s p) := h.ctpAbandon.setFld.setFlag.event

theorem Canonical.ctpResend {p : Fin 2} (h : Canonical s) : Canonical (ctpResend s p) := .ite h (.ite h.ctpDown h.countBy.modHost)

theorem Canonical.ctpTakeAck {p : Fin 2} {k : CtpPacket} (h : Canonical s) : Canonical (ctpTakeAck s p k) :=
  have h := h.modHost
  .ite h.ctpResend h

theorem Canonical.ctpAccept {p : Fin 2} {k : CtpPacket} (h : Canonical s) : Canonical (ctpAccept s p k).1 := by
  unfold Machine.ctpAccept
  dsimp only
  exact .ite_fst (.fst h.count) (.ite_fst (.fst h.count.ctpSendAck) (.ite_fst (.fst h.count.ctpSendAck) (.ite_fst (.fst h.count) (.fst
    h.modHost.ctpTakeAck))))

theorem Canonical.ctpFree {p : Fin 2} {units : Nat} (h : Canonical s) : Canonical (ctpFree s p units) := h.modHost

theorem Canonical.ctpTake {p : Fin 2} {k : CtpPacket} (h : Canonical s) : Canonical (ctpTake s p k) := h.ctpQuiet.modHost

theorem Canonical.connectRefused {p : Fin 2} {k : CtpPacket} (h : Canonical s) : Canonical (connectRefused s p k) := h.setFlag.ctpEmit

theorem Canonical.setPeerRegs {p : Fin 2} {a : Peer} (h : Canonical s) : Canonical (setPeerRegs s p a) := h.wr.setFlag.foldl (·.wr)

theorem Canonical.connectOpen {p : Fin 2} {k : CtpPacket} (h : Canonical s) : Canonical (connectOpen s p k) :=
  h.ctpAbandon.setPeerRegs.setFld.setFld.modHost.ctpSend

theorem Canonical.execConnect {p : Fin 2} {k : CtpPacket} (h : Canonical s) : Result.Canonical (execConnect p k s) :=
  .ite h (
    have h := h.ctpTake
    .ite h.connectRefused (.ite h.connectOpen (.ite h.event.connectOpen h.connectRefused)))

theorem Canonical.execDisconnect {p : Fin 2} {k : CtpPacket} (h : Canonical s) : Result.Canonical (execDisconnect p k s) := by
  refine Canonical.ite h ?_
  split
  next e => exact .of_fst e h.ctpTake.ctpAccept
  next e => exact (Canonical.of_fst e h.ctpTake.ctpAccept).ctpAbandon.ctpSendAck.setFld

theorem Canonical.execAck {p : Fin 2} {k : CtpPacket} (h : Canonical s) : Result.Canonical (execAck p k s) :=
  .ite h (
    have h := h.ctpTake
    .ite h.ctpTakeAck h.count)

theorem Canonical.execCtpRto {p : Fin 2} (h : Canonical s) : Result.Canonical (execCtpRto p s) := by
  unfold Machine.execCtpRto
  split
  · exact .ite h.ctpQuiet.ctpResend h
  · exact h

theorem Canonical.execCtpAckTimer {p : Fin 2} (h : Canonical s) : Result.Canonical (execCtpAckTimer p s) := by
  unfold Machine.execCtpAckTimer
  split
  · exact .ite h.ctpQuiet.ctpSendAck h
  · exact h

theorem Canonical.evtTake (h : Canonical s) : Canonical (evtTake s) := .frame h.frame.wr.wr.wr

theorem Canonical.todAdvance (h : Canonical s) : Canonical (todAdvance s) := h.frame

theorem Canonical.todLatch (h : Canonical s) : Canonical (todLatch s) := h.setPair.wr.setPair

theorem Canonical.todStep (h : Canonical s) : Canonical (todStep s) := h.frame

theorem Canonical.execPtpMessage {p : Fin 2} {adj : Option (BitVec 32)} {st : BitVec 2} (h : Canonical s) :
    Result.Canonical (execPtpMessage p adj st s) := by
  refine .ite h ?_
  exact
    have h := h.frame.setFld
    by
      split
      · exact h
      · exact h.wr

/-! ### Dma channels -/

theorem Canonical.modDma {c : Fin 32} {f : DmaChannel → DmaChannel} (h : Canonical s) : Canonical (s.modDma c f) := h.frame

theorem Canonical.setDmaState {c : Fin 32} {v : Nat} (h : Canonical s) : Canonical (s.setDmaState c v) := h.setFld

theorem Canonical.dmaCause {c : Fin 32} {st : Nat} (h : Canonical s) : Canonical (dmaCause s c st) :=
  .ite h (
    have h := Canonical.ite h.releaseAdmission h
    .setDmaState (.ite h.modDma h))

theorem Canonical.dmaShow {c : Fin 32} (h : Canonical s) : Canonical (dmaShow s c) := by
  unfold Machine.dmaShow
  split
  · exact h
  · exact h.wr

theorem Canonical.dmaLoad {c : Fin 32} {off : Nat} (h : Canonical s) : Canonical (dmaLoad s c off) := by
  unfold Machine.dmaLoad
  extract_lets s1 blank
  have h1 : Canonical s1 := h.setFld.setDmaState
  refine .ite h1.modDma.dmaCause (.ite h1.modDma.dmaCause ?_)
  split
  next s2 e =>
  extract_lets d s3
  have h3 : Canonical s3 := (h1.of_rangeRead e).modDma.dmaShow
  exact .ite h3.dmaCause (.ite h3.dmaCause (.ite h3.dmaCause (.ite h3.setDmaState.askAdmission h3)))

theorem Canonical.dmaStart {c : Fin 32} (h : Canonical s) : Canonical (dmaStart c s) := .ite h.setFlag h.dmaLoad

theorem Canonical.dmaGranted {c : Fin 32} (h : Canonical s) : Canonical (dmaGranted s c) := .ite h.setDmaState h

theorem Canonical.dmaRefused {c : Fin 32} (h : Canonical s) : Canonical (dmaRefused s c) := h.setDmaState.dmaCause

theorem Canonical.dmaAbort {c : Fin 32} (h : Canonical s) : Canonical (dmaAbort c s) := .ite h h.dmaCause.modDma

theorem Canonical.dmaFlush {c : Fin 32} (h : Canonical s) : Canonical (dmaFlush c s) := .ite h.modDma h

theorem Canonical.dmaWriteBack {off st residue : Nat} {x : DmaChannel} (h : Canonical s) : Canonical (dmaWriteBack s off st residue x) := h.storeWrite

theorem Canonical.dmaEnd {c : Fin 32} (h : Canonical s) : Canonical (dmaEnd s c) := by
  unfold Machine.dmaEnd
  extract_lets x off residue blank
  split
  · exact h
  · extract_lets wb s1 s2 s3 s4 s5 chain evt s6
    have h1 : Canonical s1 := .ite h.dmaWriteBack h
    have h4 : Canonical s4 := h1.wr.setFld.releaseAdmission
    have h5 : Canonical s5 := .ite h4.count.setFlag h4.setFlag
    have h6 : Canonical s6 := .ite h5.event h5
    split
    · exact h6.dmaLoad
    · exact h6.setDmaState.modDma

theorem Canonical.dmaTakeWindow {c : Fin 32} {bytes : Nat} (h : Canonical s) : Canonical (dmaTakeWindow s c bytes) := by
  unfold Machine.dmaTakeWindow
  split
  · exact h.modSl
  · exact h.modSl
  · exact h

theorem Canonical.execDmaBusError (h : Canonical s) : Result.Canonical (execDmaBusError s) :=
  .raise (.count (.setPair (.setFlag (h.foldl (fun h => .ite h (
    have h := Canonical.countBy (.ite h.dmaTakeWindow h)
    have h := Canonical.modDma (.ite h h.modDma)
    .dmaEnd (.frame (.ite h.releaseAdmission h))))))))

theorem Canonical.dmaEndSlice {st : Nat} (h : Canonical s) : Canonical (dmaEndSlice s n st) := h.foldl (fun h => .ite h.dmaCause h)

theorem Canonical.dmaEndStore {st : Nat} (h : Canonical s) : Canonical (dmaEndStore s n st) := h.foldl (fun h => .ite h.dmaCause h)

theorem Canonical.dmaEndAll {st : Nat} (h : Canonical s) : Canonical (dmaEndAll s st) := h.foldl (·.dmaCause)

/-! ### Wheel -/

theorem Canonical.setWheelState {v : Nat} (h : Canonical s) : Canonical (setWheelState s n v) := h.setFld

theorem Canonical.modWheel {f : Wheel → Wheel} (h : Canonical s) : Canonical (modWheel s n f) := h.modSl

theorem Canonical.wheelStart (h : Canonical s) : Canonical (wheelStart s n) :=
  .ite h (
    have h := h.modWheel.setWheelState
    .ite h.setFld h)

theorem Canonical.wheelRunning (h : Canonical s) : Canonical (wheelRunning s n) := .ite h.setWheelState.journal h

theorem Canonical.wheelStop (h : Canonical s) : Canonical (wheelStop s n) := .ite h.modWheel.setWheelState h

theorem Canonical.wheelStopped (h : Canonical s) : Canonical (wheelStopped s n) := .ite h.setWheelState h

theorem Canonical.wheelCommit (h : Canonical s) : Canonical (wheelCommit s n) := h.modWheel.setFld

theorem Canonical.setActiveMap {m : Vector (BitVec 4) 64} (h : Canonical s) : Canonical (setActiveMap s n m) := h.modWheel.setFld

theorem Canonical.mapCopy (h : Canonical s) : Canonical (mapCopy s n) :=
  .ite (
    have h := h.setFld
    .ite h.setFld h.setActiveMap) h

theorem Canonical.refuseStorePower {id : StoreId} {reason : Nat} (h : Canonical s) : Canonical (refuseStorePower s id reason) := by
  unfold Machine.refuseStorePower
  split
  · exact h.setFld.setFld
  · exact h.setFld.setFld

theorem Canonical.beginTransition {id : StoreId} {target : Nat} {due : Option Nat} (h : Canonical s) : Canonical (beginTransition s id target due) :=
  h.setStore.setStorePower

theorem Canonical.storePowerRequest {id : StoreId} {req : Nat} (h : Canonical s) : Canonical (storePowerRequest s id req) := by
  unfold Machine.storePowerRequest
  extract_lets asleep t st t2
  have ht : Canonical t := by
    unfold t
    split
    · exact h.setFld
    · exact h.setFld
  have h2 : Canonical t2 := by
    unfold t2
    split
    · exact .ite ht.releaseAdmission ht
    · exact ht
  refine .ite h (.ite ht.refuseStorePower (.ite ht.refuseStorePower (.ite ht (.ite (.ite ht.beginTransition ?_) ?_))))
  · split
    · exact ht.beginTransition.askAdmission
    · exact ht
  · exact .ite ht.refuseStorePower (.ite ht.refuseStorePower (.ite ht.refuseStorePower (.ite ht.refuseStorePower h2.beginTransition)))

theorem Canonical.storePowerSettled {id : StoreId} (h : Canonical s) : Canonical (storePowerSettled s id) :=
  .ite (.setStorePower (.ite (h.setStore_of_wf (SMap.wf_nil _ _)) h.setStore)) h

theorem Canonical.storeWakeDone {id : StoreId} (h : Canonical s) : Canonical (storeWakeDone s id) := by
  unfold Machine.storeWakeDone
  dsimp only
  split
  · exact .ite h.setStore.setStorePower h
  · exact h

/-! ### Calibrate -/

theorem Canonical.modCal {i : Fin 369} {f : CalConv → CalConv} (h : Canonical s) : Canonical (modCal s i f) := h.frame

theorem Canonical.putActive {i : Fin 369} {w v : Nat} (h : Canonical s) : Canonical (putActive s i w v) :=
  .ite (.ite h.wr (.ite h.wr (.ite h.wr h))) h.frame

theorem Canonical.stagedWrite {i : Fin 369} {w v : Nat} (h : Canonical s) : Canonical (stagedWrite s i w v) := .ite h (.ite h.setFlag h.frame)

theorem Canonical.setSource {i : Fin 369} {src : Nat} (h : Canonical s) : Canonical (setSource s i src) := h.setFld.setFlag.setFlag.wr

theorem Canonical.clearPend {i : Fin 369} (h : Canonical s) : Canonical (clearPend s i) := h.setFlag.setFlag

theorem Canonical.calSwitch {i : Fin 369} {words : List Nat} {src : Nat} (h : Canonical s) : Canonical (calSwitch s i words src) :=
  .foldl (.journal (.wr (.setSource (.clearPend (h.foldl (fun h => .ite h h.putActive)))))) (·.journal)

theorem Canonical.calSwitchStaged {i : Fin 369} (h : Canonical s) : Canonical (calSwitchStaged s i) := h.calSwitch

theorem Canonical.blockDone {i : Fin 369} {taken : Bool} (h : Canonical s) : Canonical (blockDone s i taken) := by
  unfold Machine.blockDone
  exact .modCal (.ite h.setFlag h)

theorem Canonical.execCalDitherStep {i : Fin 369} (h : Canonical s) : Result.Canonical (execCalDitherStep i s) := by
  unfold Machine.execCalDitherStep
  split
  · exact h
  · exact .ite h.modCal.setFlag h

theorem Canonical.ditherStop {i : Fin 369} (h : Canonical s) : Canonical (ditherStop s i) := h.modCal.setFlag

theorem Canonical.ditherBeat (h : Canonical s) : Canonical (ditherBeat s) := by
  refine h.foldl fun h => ?_
  split
  · exact .ite h h.ditherStop
  · exact h

theorem Canonical.execCalDitherStepEnd {i : Fin 369} {hits : Nat} (h : Canonical s) : Result.Canonical (execCalDitherStepEnd i hits s) := by
  unfold Machine.execCalDitherStepEnd
  split
  · exact h
  · exact .ite (
      have h := h.ditherStop
      .ite h.modCal.blockDone h.modCal) (.ite h h.ditherStop)

theorem Canonical.calStage {path : Path} {i : Fin 369} (h : Canonical s) : Canonical (calStage path i s) := .ite h.setFlag h.modCal.setFlag

theorem Canonical.calStageAt {path : Path} {i : Fin 369} (h : Canonical s) : Canonical (calStageAt path i s) :=
  .ite h.setFlag (
    have h := h.modCal.setFlag.setFlag
    .ite (.setFlag (.ite h h.calSwitchStaged)) h)

theorem Canonical.ageOne {i : Fin 369} (h : Canonical s) : Canonical (ageOne s i) :=
  have h := h.count
  .ite h.setFlag.setFlag.raise h

theorem Canonical.fgStart (h : Canonical s) : Canonical (fgStart s n) := .ite h.setFld.askAdmission h.setFld.setFlag

theorem Canonical.fgGranted (h : Canonical s) : Canonical (fgGranted s n) := .ite h.frame.setFld h

theorem Canonical.fgApply {sets : List (List (BitVec 32))} (h : Canonical s) : Canonical (fgApply s n sets) :=
  h.foldl (fun h => .ite h h.calSwitch.setFlag)

theorem Canonical.execFgEnd {sets : Option (List (List (BitVec 32)))} (h : Canonical s) : Result.Canonical (execFgEnd n sets s) := by
  refine .ite h.fgFinish ?_
  refine .ite ?_ h
  split
  · exact h.fgFinish
  · exact h.fgApply.fgFinish

theorem Canonical.saveKinds {ks : List Nat} (h : Canonical s) : Canonical (saveKinds s ks) := h.frame.setFlag

theorem Canonical.saveStop {ok : Bool} (h : Canonical s) : Canonical (saveStop s ok) :=
  have h := h.frame.setFlag
  .ite h.setFlag h.setFlag.setFlag

theorem Canonical.vaultSave {ok0 ok1 : Bool} (h : Canonical s) : Canonical (vaultSave s ok0 ok1) := by
  unfold Machine.vaultSave
  split
  · exact h
  · exact .ite h (
      have h := Canonical.frame (.frame h.setFld)
      .ite h.saveStop (
        have h := h.frame
        .ite h.saveStop (.ite h.saveStop h.frame)))

theorem Canonical.loadKind {k : Nat} {words : List Nat} {src : Nat} (h : Canonical s) : Canonical (loadKind s k words src) :=
  .foldl_fst (.fst h) (fun h => .fst (.setSource (h.foldl (·.putActive))))

theorem Canonical.vaultSelect {k : Nat} (h : Canonical s) : Canonical (vaultSelect s k) := by
  unfold Machine.vaultSelect
  split
  · exact .frame h.loadKind.wr
  · exact .ite h.loadKind (h.foldl (·.setFld.setFlag))

theorem Canonical.vaultSelectAll (h : Canonical s) : Canonical (vaultSelectAll s) := h.foldl (·.vaultSelect)

/-! ### Slice status -/

theorem Canonical.regsBack {l : List Reg} (h : Canonical s) : Canonical (regsBack s n l) :=
  ⟨SMap.wf_filter regKeyLt_order _ h.regs, h.central, h.slices⟩

theorem Canonical.seqReset (h : Canonical s) : Canonical (seqReset s n) := h.regsBack.modSeq.setSeqState

theorem Canonical.vecReset (h : Canonical s) : Canonical (vecReset s n) := h.windowsDrop.regsBack.modVec.setVecState.showLoaded

theorem Canonical.coreReset (h : Canonical s) : Canonical (coreReset s n) := h.seqReset.vecReset.toneReset.rxReset

theorem Canonical.pinReset (h : Canonical s) : Canonical (pinReset s n) := .setFlag (.regsBack (h.eachPin (·.setFlag.setFlag)))

theorem Canonical.ffReset (h : Canonical s) : Canonical (ffReset s n) := .ffEach (.regsBack (h.ffEach (·.ffDismiss.foldl (·.setFlag)))) (·.ffRefresh)

theorem Canonical.madReset (h : Canonical s) : Canonical (madReset s n) := h.regsBack.setMadState

theorem Canonical.analogReset (h : Canonical s) : Canonical (analogReset s n) := h.pinReset.ffReset.madReset.tdcReset

theorem Canonical.sliceReset (h : Canonical s) : Canonical (sliceReset s n) := h.coreReset.analogReset.regsBack.setFld.setFld

theorem Canonical.sliceDrain (h : Canonical s) : Canonical (sliceDrain s n) :=
  .sourcesLost (.dmaEndStore (h.modSl.modSeq.setSeqState.vecDrain.toneDrain.rxDrain.madDrain.tdcDrain.ffEach (·.ffDismiss.updFf)))

theorem Canonical.wheelHalt (h : Canonical s) : Canonical (wheelHalt s n) := h.setWheelState

theorem Canonical.isolateSlice (h : Canonical s) : Canonical (isolateSlice s n) :=
  .ite h (
    have h := Canonical.modSl (.dmaEndSlice (.ccAbort (.ffOff (.tdcContain (.madAbandon (.acqStopAll (.foldl
      (h.fgStop.wheelHalt.modSeq.seqFaultHalt.vecFaultHalt.windowsDrop.txContain.foldl (·.rxOff)) (·.binDropWindow))))))))
    .ite h h.sourcesLost)

theorem Canonical.sliceBack (h : Canonical s) : Canonical (sliceBack s n) :=
  have h := Canonical.ite h.setSeqState h
  have h := Canonical.foldl (.setFlag (.foldl (.eachTone (.ite h.setVecState h) (fun h => .ite h.setToneState h)) (fun h => .ite h.setFld h))) (fun
    h => .ite h.setTdcState h)
  .sourcesBack (.modSl (.ffEach (.foldl (.ite h.setMadState h) (·.txCause)) (·.updFf)))

/-! ### Power -/

theorem Canonical.setDomState {d : Fin 39} {v : Nat} (h : Canonical s) : Canonical (setDomState s d v) := h.setFld

theorem Canonical.modPwr {f : Power → Power} (h : Canonical s) : Canonical (modPwr s f) := h.frame

theorem Canonical.refuseDomain {d : Fin 39} {reason : Nat} (h : Canonical s) : Canonical (refuseDomain s d reason) := h.setFlag.setFld

theorem Canonical.drainDisturbs {d : Fin 39} (h : Canonical s) : Canonical (drainDisturbs s d) := by
  unfold Machine.drainDisturbs
  split
  · exact h.fgStop
  · exact h.fgStop
  · exact h

theorem Canonical.domainOffReq {d : Fin 39} {port : Option (Fin 2)} (h : Canonical s) : Canonical (domainOffReq s d port) := by
  unfold Machine.domainOffReq
  split
  · split
    · exact h.refuseDomain
    · exact h.setFld.setDomState.drainDisturbs.modPwr
  · exact h.refuseDomain
  · exact h

theorem Canonical.domainEntersOn {d : Fin 39} (h : Canonical s) : Canonical (domainEntersOn s d) := by
  unfold Machine.domainEntersOn
  split
  · exact h.ffOn.foldl (·.setFlag)
  · exact h.coreReset.setSeqState.setWheelState
  · exact h.ktlEnable
  · exact h

theorem Canonical.domainOnReq {d : Fin 39} (h : Canonical s) : Canonical (domainOnReq s d) := by
  unfold Machine.domainOnReq
  split
  · exact
      have h := h.setFld.setDomState.modPwr
      .ite h.domainEntersOn h
  · exact h.setFld.setDomState.modPwr
  · exact h

theorem Canonical.corePowerOff (h : Canonical s) : Canonical (corePowerOff s n) :=
  .setFld (.foldl (.foldl (h.modSeq.setSeqState.modVec.setVecState.eachTone (·.modTone.setToneState)) (·.modBin.wramRelease.setFld))
    (·.modAcq.setAcqState))

theorem Canonical.loadsWithdraw (h : Canonical s) : Canonical (loadsWithdraw s n) := h.eachPin (fun h => .ite h.loadRefused.releaseAdmission h)

theorem Canonical.analogPowerOff (h : Canonical s) : Canonical (analogPowerOff s n) :=
  .foldl (.tdcContain (.madAbandon (.ffOff (.loadsWithdraw (.foldl (h.foldl (·.txOff)) (·.rxOff)))))) (·.setFlag)

theorem Canonical.domainPowerDown {d : Fin 39} (h : Canonical s) : Canonical (domainPowerDown s d) := by
  unfold Machine.domainPowerDown
  exact
    have h := h.modPwr
    by
      dsimp only
      split
      · exact h
      · exact h.corePowerOff.disRecord
      · exact h.analogPowerOff.disRecord
      · exact h.hostLinkFall
      · exact h.portDown

theorem Canonical.domainDrainEnd {d : Fin 39} (h : Canonical s) : Canonical (domainDrainEnd s d) :=
  .ite (.ite (.ite h.domainPowerDown h) (.ite h.domainPowerDown h)) h

theorem Canonical.domainDrainTimeout {d : Fin 39} (h : Canonical s) : Canonical (domainDrainTimeout s d) := by
  refine .ite ?_ h
  exact
    have h := h.setFlag.foldl (fun h => .ite h.dmaCause h)
    .modPwr (by
      split
      · exact .ite h.acqStopAll h
      · exact h)

theorem Canonical.domainOff {d : Fin 39} (h : Canonical s) : Canonical (domainOff s d) := by
  refine .ite ?_ h
  exact
    have h := h.setDomState.modPwr
    by
      split
      · exact h.pinsPowerOff
      · exact h

theorem Canonical.domainWakeDone {d : Fin 39} (h : Canonical s) : Canonical (domainWakeDone s d) := .ite h.setDomState.domainEntersOn h

theorem Canonical.grantTo {r : PwrRequester} (h : Canonical s) : Canonical (grantTo s r) := by
  unfold Machine.grantTo
  split
  · exact h.txGranted
  · exact h.rxGranted
  · exact h.madSelfcalGranted
  · exact h.fgGranted
  · exact h.loadGranted
  · exact h.dmaGranted
  · exact h.setStore

theorem Canonical.refuseTo {r : PwrRequester} (h : Canonical s) : Canonical (refuseTo s r) := by
  unfold Machine.refuseTo
  split
  · exact h.txRefused
  · exact h.rxRefused
  · exact h.madSelfcalFail
  · exact h.fgStop
  · exact h.loadRefused
  · exact h.dmaRefused
  · exact h.setStorePower.refuseStorePower

theorem Canonical.admissionRefuse {r : PwrRequester} (h : Canonical s) : Canonical (admissionRefuse s r) := h.modPwr.setFlag.setFld.setFld.refuseTo

theorem Canonical.admissionRefusals (h : Canonical s) : Canonical (admissionRefusals s) := h.foldl (fun h => .ite h.admissionRefuse h)

theorem Canonical.admissionGrants {fuel : Nat} (h : Canonical s) : Canonical (admissionGrants fuel s) := by
  induction fuel generalizing s with
  | zero => exact h
  | succ fuel ih =>
    unfold Machine.admissionGrants
    split
    · exact h
    · exact .ite h (.ite (ih h.modPwr.count.grantTo) h.setFlag.setFlag.count)

theorem Canonical.admissionGrant (h : Canonical s) : Canonical (admissionGrant s) := .ite h h.modPwr.setFlag.setFlag.admissionRefusals.admissionGrants

theorem Canonical.budgetWrite {v : Nat} (h : Canonical s) : Canonical (budgetWrite s v) := .ite h.setFld.setFlag h.setFld

theorem Canonical.pwrMeasBlock {mw : Nat} (h : Canonical s) : Canonical (pwrMeasBlock s mw) :=
  have h := h.setFld
  .ite h.setFlag.raise h

theorem Canonical.govTripReport {kind x : Nat} (h : Canonical s) : Canonical (govTripReport s n kind x) := h.raise.journal

theorem Canonical.txTrip {x : Fin 64} {ms sec : Bool} (h : Canonical s) : Canonical (txTrip s x ms sec) :=
  h.txCause.setFlag.setFlag.setFlag.count.govTripReport

theorem Canonical.txGovTrip {x : Fin 64} (h : Canonical s) : Canonical (txGovTrip s x) := .ite h (.ite h.txTrip h)

theorem Canonical.ffTrip {x : Fin 128} (h : Canonical s) : Canonical (ffTrip s x) := h.ffGovMute.setFlag.count.govTripReport

theorem Canonical.ffGovTrip {x : Fin 128} (h : Canonical s) : Canonical (ffGovTrip s x) := .ite h (.ite h.ffTrip h)

theorem Canonical.pinTrip {g : Fin 512} {i e : Bool} (h : Canonical s) : Canonical (pinTrip s g i e) :=
  h.setFlag.setFlag.setFlag.setFlag.modPin.govTripReport

theorem Canonical.pinGovTrip {g : Fin 512} {ua nj : Nat} (h : Canonical s) : Canonical (pinGovTrip s g ua nj) :=
  .ite h (
    have h := h.setFld
    .ite h.pinTrip h)

theorem Canonical.govRearm {a : Governor} (h : Canonical s) : Canonical (govRearm s a) := by
  unfold Machine.govRearm
  split
  · exact .ite h (.ite h.setFlag.txCause h.setFlag)
  · exact .ite h (.ite h.setFlag.setFlag.ffRefresh h.setFlag)
  · exact h.setFlag

/-! ### Replay -/

theorem Canonical.modRpl {f : Journal → Journal} (h : Canonical s) : Canonical (modRpl s f) := h.frame

theorem Canonical.bufferPut {r : JRecord} (h : Canonical s) : Canonical (bufferPut s r) := h.modRpl

theorem Canonical.syncRecord {beat : Nat} (h : Canonical s) : Canonical (syncRecord s beat) := h.bufferPut

theorem Canonical.journalGap (h : Canonical s) : Canonical (journalGap s) := .ite h h.bufferPut.setFlag.syncRecord.modRpl

theorem Canonical.journalEnter {r : JRecord} (h : Canonical s) : Canonical (journalEnter s r) :=
  have h := h.journalGap
  .ite h.count.modRpl (.bufferPut (.ite h.syncRecord.modRpl h))

theorem Canonical.journalSettle (h : Canonical s) : Canonical (journalSettle s) := h.modRpl.foldl (·.journalEnter)

theorem Canonical.journalPad (h : Canonical s) : Canonical (journalPad s) := h.modRpl

theorem Canonical.journalWritten (h : Canonical s) : Canonical (journalWritten s) := h.modRpl.countBy.setFld

theorem Canonical.journalAt {type src index beat data : Nat} (h : Canonical s) : Canonical (journalAt s type src index beat data) := h.modRpl

theorem Canonical.closeRun {r : StoreRun} (h : Canonical s) : Canonical (closeRun s r) :=
  have h := h.modRpl
  .ite h.modRpl (.ite h.journalAt h)

theorem Canonical.journalBefore {path line : Nat} (h : Canonical s) : Canonical (journalBefore s n path line) := h.foldl (·.closeRun)

theorem Canonical.journalLine {path line : Nat} (h : Canonical s) : Canonical (journalLine s n path line) := by
  refine .ite ?_ h
  split
  · exact h.modRpl
  · exact h.modRpl

theorem Canonical.closeAdvance {a : AdvanceRun} (h : Canonical s) : Canonical (closeAdvance s a) :=
  have h := h.modRpl
  .ite h.journalAt h

theorem Canonical.journalAdvance {lines : Nat} (h : Canonical s) : Canonical (journalAdvance s n lines) := by
  unfold Machine.journalAdvance
  refine .ite h ?_
  extract_lets t
  have ht : Canonical t := by
    unfold t
    split
    · exact .ite h.closeAdvance h
    · exact h
  split
  · exact .ite ht.modRpl.closeAdvance ht.modRpl
  · exact ht.modRpl

theorem Canonical.journalClose (h : Canonical s) : Canonical (journalClose s) := .foldl (h.foldl (·.closeRun)) (·.closeAdvance)

theorem Canonical.journalCloseAll (h : Canonical s) : Canonical (journalCloseAll s) := .foldl (h.foldl (·.closeRun)) (·.closeAdvance)

theorem Canonical.replayEnd {cause : Nat} (h : Canonical s) : Canonical (replayEnd s cause) :=
  .ite h (h.modRpl.setFld.setFld.eachSlice (·.seqHalt.vecHaltNow))

theorem Canonical.diverge {cause : Nat} {r : JRecord} {beat expected observed : Nat} (h : Canonical s) :
    Canonical (diverge s cause r beat expected observed) :=
  .ite h (
    have h := h.setFlag.setPair.setFld.setFld.setFld.setFld.setPair.setPair
    .ite h.replayEnd h)

theorem Canonical.replayCompare {beat : Nat} (h : Canonical s) : Canonical (replayCompare s beat) := by
  exact .foldl (h.modRpl.foldl (fun h => by
    split
    · exact h.diverge
    · exact .ite h h.diverge)) (fun h => .ite h h.diverge)

theorem Canonical.journalBeat {ended : Nat} (h : Canonical s) : Canonical (journalBeat s ended) :=
  .ite h.journalClose.replayCompare (.ite (
    have h := h.journalClose.journalSettle.journalGap
    .ite h.modRpl h) (.ite h h.modRpl))

theorem Canonical.imageRecord {section_ : Nat} {replaced : Bool} {serial : Nat} (h : Canonical s) :
    Canonical (imageRecord s section_ replaced serial) :=
  h.journal

theorem Canonical.journalEnable (h : Canonical s) : Canonical (journalEnable s) := by
  unfold Machine.journalEnable
  split
  · exact .syncRecord (.journalSettle (h.setFlag.setFld.modRpl.foldl (·.imageRecord)))
  · exact h
  · exact h.setFlag

theorem Canonical.journalDisable (h : Canonical s) : Canonical (journalDisable s) :=
  .ite h.journalCloseAll.journalSettle.journalPad.setFld.setFlag h.setFlag

theorem Canonical.journalPartial (h : Canonical s) : Canonical (journalPartial s) :=
  have h := Canonical.ite h.journalSettle h
  .ite h.journalPad h

theorem Canonical.journalFlush (h : Canonical s) : Canonical (journalFlush s) := .journalPad (.ite h.journalSettle h)

theorem Canonical.journalSpill {rp : Nat} (h : Canonical s) : Canonical (journalSpill s rp) := .ite h.setFld h

theorem Canonical.replayAsk (h : Canonical s) : Canonical (replayAsk s) := .ite h.modRpl h.setFlag

theorem Canonical.replayStart (h : Canonical s) : Canonical (replayStart s) := by
  unfold Machine.replayStart
  split
  · exact h
  · exact .ite h (
      have h := Canonical.wr (.setFld (.setFld (.eachSlice (.frame h.modRpl.modRpl) (·.foldl (·.trackRebase)))))
      .ite (h.eachSlice (·.guardPins)) h)

/-! ### Address -/

theorem Canonical.journalReg {path : Path} {addr : Nat} {v : Word} (h : Canonical s) : Canonical (journalReg s path addr v) := .ite h.journal h

/-! ### Flash -/

theorem Canonical.modBoot {f : Boot → Boot} (h : Canonical s) : Canonical (modBoot s f) := h.frame

theorem Canonical.modMgt {f : Management → Management} (h : Canonical s) : Canonical (modMgt s f) := h.frame

theorem Canonical.writeDir {f : Directory → Directory} (h : Canonical s) : Canonical (writeDir s f) := h.modBoot.setFlag

theorem Canonical.refreshShed (h : Canonical s) : Canonical (refreshShed s) := h.setFlag

theorem Canonical.setMgtState {v : Nat} (h : Canonical s) : Canonical (setMgtState s v) := h.setFld.setFld.refreshShed

theorem Canonical.chooseSlot (h : Canonical s) : Canonical (chooseSlot s).2 :=
  have h := Canonical.ite_snd (.snd h) (.ite_snd (.snd h.writeDir) (.snd h.writeDir.setFlag))
  .ite_snd (.snd h) (
    have h := h.setFlag
    .ite_snd (.snd h) (.snd h))

theorem Canonical.bootHeld {err : Nat} (h : Canonical s) : Canonical (bootHeld s err) := h.setFld.setFld

theorem Canonical.coresFailed (h : Canonical s) : Canonical (coresFailed s) := h.modMgt.setMgtState.bootHeld

theorem Canonical.loadFirmware {slot : Bool} (h : Canonical s) : Canonical (loadFirmware s slot) := by
  unfold Machine.loadFirmware
  split
  · exact h
  · exact .modMgt (.wr (.setFlag (h.setStore_writeBytes (id := .central))))

theorem Canonical.coresRun (h : Canonical s) : Canonical (coresRun s) := h.modMgt.setMgtState

theorem Canonical.coresStart (h : Canonical s) : Canonical (coresStart s) := by
  unfold Machine.coresStart
  extract_lets t
  have ht : Canonical (Machine.chooseSlot t).2 := h.modMgt.chooseSlot
  split
  · rename_i e
    rw [e] at ht
    exact ht.coresFailed
  · rename_i e
    rw [e] at ht
    exact ht.loadFirmware.modMgt.setMgtState

theorem Canonical.mgtBeat (h : Canonical s) : Canonical (mgtBeat s) := by
  unfold Machine.mgtBeat
  extract_lets t
  have ht : Canonical t := by
    unfold t
    split
    · exact .ite h.coresRun h
    · exact h
  split
  · exact .ite ht.count.coresStart ht
  · exact ht

/-! ### Image -/

theorem Canonical.modImg {f : ImageUnit → ImageUnit} (h : Canonical s) : Canonical (modImg s f) := h.frame

theorem Canonical.imgResult {res sec : Nat} (h : Canonical s) : Canonical (imgResult s res sec) := h.setFld.setFld.setFlag

theorem Canonical.imgEnd {res sec : Nat} (h : Canonical s) : Canonical (imgEnd s res sec) := h.setFld.setFlag.imgResult.modImg.event

theorem Canonical.sectionFailed {res : Nat} (h : Canonical s) : Canonical (sectionFailed s n res) := h.wheelHalt.modSl.setPair.raise

theorem Canonical.reloadFail {res : Nat} (h : Canonical s) : Canonical (reloadFail s n res) := h.sectionFailed.bump.imgEnd

theorem Canonical.imgSafe (h : Canonical s) : Canonical (imgSafe s) := .ite h (.ite h.imgEnd (.ite h.reloadFail h.imgEnd))

theorem Canonical.imgGo {op slice : Nat} {slot : Bool} (h : Canonical s) : Canonical (imgGo s op slice slot) :=
  have h := h.setFld.setFld.setFlag
  .ite h.setFlag (
    have h := h.modImg.setFld.setFlag
    .ite h.imgEnd (.ite (.ite h.imgEnd (.ite h.imgEnd h.modImg.setPair.journal)) h))

theorem Canonical.imgAbort (h : Canonical s) : Canonical (imgAbort s) := .ite h (.ite h.modImg h.setFlag)

theorem Canonical.imgAbortBeat (h : Canonical s) : Canonical (imgAbortBeat s) := .ite h.imgEnd h

theorem Canonical.imgChecked (h : Canonical s) : Canonical (imgChecked s) :=
  .ite h (
    have h := Canonical.ite_snd_snd h.rangeRead (.snd h)
    .ite h.imgEnd (.ite h.setFld (h.setFld.modImg.eachSlice (fun h => .ite h h.sliceDrain))))

theorem Canonical.reloadDrain (h : Canonical s) : Canonical (reloadDrain s n) :=
  .ite (
    have h := h.setFld
    .ite h.modSl.sliceReset h.sliceDrain) h

theorem Canonical.reloadIsolate (h : Canonical s) : Canonical (reloadIsolate s n) := .ite (.setFld (.ite h h.wheelHalt.sliceReset)) h

theorem Canonical.imgFault {scope : Nat} (h : Canonical s) : Canonical (imgFault s scope) :=
  .ite h.modImg (.ite h (.ite (.ite h.modImg h) (.ite h.modImg h)))

/-! ### Faults -/

theorem Canonical.modFlt {f : Collector → Collector} (h : Canonical s) : Canonical (modFlt s f) := h.frame

theorem Canonical.logBits {r lo width v : Nat} (h : Canonical s) : Canonical (logBits s r lo width v) := .ite h.wr h

theorem Canonical.logNew {p : FaultPair} {level : Nat} {esc inj : Bool} {result : Nat} (h : Canonical s) :
    Canonical (logNew s p level esc inj result).1 :=
  .fst (.setFld (.wr (.wr (.wr (.wr (.modFlt (.ite h.count h)))))))

theorem Canonical.faultEvent {p : FaultPair} {level : Nat} {esc : Bool} {result log : Nat} (h : Canonical s) :
    Canonical (faultEvent s p level esc result log) :=
  .ite h h.event

theorem Canonical.holdPort {p cls : Nat} (h : Canonical s) : Canonical (holdPort s p cls) := h.modFlt

theorem Canonical.contain {scope cls : Nat} (h : Canonical s) : Canonical (contain s scope cls) :=
  .ite h.holdPort.hostLinkFall (.ite (
    have h := h.holdPort
    .setKtlState (.ite h.portLeavesUp h)) (.ite h.modFlt (h.foldl (·.isolateSlice))))

theorem Canonical.enterSafe (h : Canonical s) : Canonical (enterSafe s) := .exportHolds (.dmaEndAll (h.replayEnd.imgSafe.eachSlice (·.isolateSlice)))

theorem Canonical.reactL3 (h : Canonical s) : Canonical (reactL3 s) :=
  .ite h.modFlt.setFld.setFld.count.enterSafe (.ite h.setFld.modFlt.setFld.enterSafe h)

theorem Canonical.react {p : FaultPair} {level : Nat} (h : Canonical s) : Canonical (react s p level) :=
  .ite h (
    have h := h.journal.replayEnd
    .ite h.contain h.reactL3)

theorem Canonical.setPend {c : Nat} {b : Bool} (h : Canonical s) : Canonical (setPend s c b) := h.setFlag.setFld

theorem Canonical.ackClass {c : Nat} (h : Canonical s) : Canonical (ackClass s c) :=
  .foldl (.modFlt (h.setPend.setFld.setFld.foldl (fun h => .ite h.logBits h))) (·.ktlEnable)

theorem Canonical.recordResult {log : Nat} {p : FaultPair} {level : Nat} {esc episode : Bool} {result : Nat} (h : Canonical s) :
    Canonical (recordResult s log p level esc episode result) :=
  have h := h.logBits
  .ite (
    have h := Canonical.ite h.logBits.setFld.react h
    have h := Canonical.ite h.modFlt h
    .faultEvent (.ite h.modFlt h)) (
    have h := h.faultEvent
    .ite h.ackClass h)

theorem Canonical.markOldest (h : Canonical s) : Canonical (markOldest s) := by
  unfold Machine.markOldest
  exact h.modFlt

theorem Canonical.queueTest {log : Nat} {p : FaultPair} {level : Nat} {esc : Bool} (h : Canonical s) : Canonical (queueTest s log p level esc) :=
  .ite h.recordResult (.ite h.setFlag.recordResult h.modFlt.markOldest.peak)

theorem Canonical.dryReport {r : FaultReport} (h : Canonical s) : Canonical (dryReport s r) := h.count.logNew

theorem Canonical.logReport {r : FaultReport} {level : Nat} {esc : Bool} (h : Canonical s) : Canonical (logReport s r level esc).1 :=
  h.count.bump.setFld.logNew

theorem Canonical.groupReport {c : Nat} {l : List FaultReport} (h : Canonical s) : Canonical (groupReport s c l).1 := by
  unfold Machine.groupReport
  dsimp only
  split
  · exact .fst h
  · exact .fst (.foldl (.foldl_fst (.fst (.setFld (.setPend (.ite h h.setFld.setFld)))) (fun h => .fst h.logReport.faultEvent.imgFault)) (·.react))

theorem Canonical.injectDone (h : Canonical s) : Canonical (injectDone s) := h.modFlt.setFlag

theorem Canonical.faultReport {faults broken quiet : List FaultPair} (h : Canonical s) : Canonical (faultReport s faults broken quiet) :=
  have h := h.modFlt
  .foldl (.foldl_fst (.fst (.foldl (.ite h.injectDone h) (·.dryReport))) (fun h => .fst h.groupReport)) (·.queueTest)

theorem Canonical.selfTestStart (h : Canonical s) : Canonical (selfTestStart s) := by
  unfold Machine.selfTestStart
  refine .ite h ?_
  dsimp only
  split
  · exact h
  · exact h.modFlt.markOldest

theorem Canonical.testEnds {t : SelfTest} {result : Nat} (h : Canonical s) : Canonical (testEnds s t result) := h.modFlt.markOldest.recordResult

theorem Canonical.selfTestResult {place : Nat} {bad : Bool} (h : Canonical s) : Canonical (selfTestResult s place bad) := by
  unfold Machine.selfTestResult
  split
  · exact h
  · exact .ite h (.ite h.logBits.testEnds h.testEnds)

theorem Canonical.selfTestTimeout {place : Nat} (h : Canonical s) : Canonical (selfTestTimeout s place) := by
  unfold Machine.selfTestTimeout
  split
  · exact h
  · exact .ite h.testEnds h

theorem Canonical.recoveryBegin (h : Canonical s) : Canonical (recoveryBegin s) :=
  have h := h.setFld.modFlt.modImg
  .ite h.chnRealign h

theorem Canonical.recoveryStart (h : Canonical s) : Canonical (recoveryStart s) := .ite h (.ite h.setFld (.ite h.recoveryBegin h))

theorem Canonical.recover (h : Canonical s) : Canonical (recover s) := .ite h.modFlt (.ite (.ite h.setFld.recoveryBegin h.setFlag) h)

theorem Canonical.inject (h : Canonical s) : Canonical (inject s) := .ite h.setFlag h.modFlt.setFlag

theorem Canonical.injectBeat (h : Canonical s) : Canonical (injectBeat s) := by
  unfold Machine.injectBeat
  split
  · exact .ite h.injectDone h
  · exact h

theorem Canonical.lossBeat (h : Canonical s) : Canonical (lossBeat s) := .ite h h.pairAdd

/-! ### Startup -/

theorem Canonical.awake {f : State → State} (h : Canonical s) (hf : ∀ {t}, Canonical t → Canonical (f t)) : Canonical (s.awake f) := .ite h (hf h)

theorem Canonical.tryFw (h : Canonical s) : Canonical (tryFw s) := h.writeDir

theorem Canonical.confirmFw (h : Canonical s) : Canonical (confirmFw s) := by
  unfold Machine.confirmFw
  exact h.writeDir

theorem Canonical.commitSecver (h : Canonical s) : Canonical (commitSecver s) := .ite h.setFlag h.setFld

theorem Canonical.setImg (h : Canonical s) : Canonical (setImg s) := by
  unfold Machine.setImg
  exact .ite h.writeDir h.setFlag

theorem Canonical.keyWrite (h : Canonical s) : Canonical (keyWrite s) := by
  unfold Machine.keyWrite
  extract_lets k a
  refine .ite h.setFlag ?_
  split
  next e =>
  have ht := h.of_rangeRead e
  exact .ite ht.setFlag ht.modBoot.setFld

theorem Canonical.lockKey (h : Canonical s) : Canonical (lockKey s) := h.setFld

theorem Canonical.revoke (h : Canonical s) : Canonical (revoke s) := .ite h.setFld h.setFlag

theorem Canonical.flashGo {op : Nat} (h : Canonical s) : Canonical (flashGo s op) :=
  have h := h.setFld
  .ite h.setFld.setFlag h.modBoot.setFlag.setFld

theorem Canonical.recordLengths {a k : Nat} (h : Canonical s) : Canonical (recordLengths s a k) := h.foldl (fun h => .ite h.modBoot h)

theorem Canonical.flashEnd {error : Bool} (h : Canonical s) : Canonical (flashEnd s error) := by
  unfold Machine.flashEnd
  split
  · exact h
  · exact .ite h (
      have h := h.modBoot.setFlag.setFlag
      .ite h.storeWrite (.ite h.modBoot.setFlag.setFld (.ite h.modBoot h.rangeRead.modBoot.recordLengths)))

theorem Canonical.managed {r : Reg} {i v : Nat} (h : Canonical s) : Canonical (managed s r i v) := h.journalReg

theorem Canonical.runGo (h : Canonical s) : Canonical (runGo s) :=
  .ite h.setFlag.setFld (h.setFld.modBoot.foldl (·.managed.managed.managed.setPair.setFlag.wheelStart))

theorem Canonical.runGoSeq (h : Canonical s) : Canonical (runGoSeq s) := .ite h (h.modBoot.foldl (·.managed.managed.managed.setPair.setFlag.seqRun))

theorem Canonical.mgtHalt (h : Canonical s) : Canonical (mgtHalt s) := .ite h.modMgt.setMgtState h

theorem Canonical.mgtRestart (h : Canonical s) : Canonical (mgtRestart s) :=
  .ite h (
    have h := Canonical.ite h.count h
    .ite h.setMgtState.setFld.setFld.modBoot h.coresStart)

theorem Canonical.swap (h : Canonical s) : Canonical (swap s) := .ite h.writeDir.modMgt h.setFlag

theorem Canonical.swapTimeout (h : Canonical s) : Canonical (swapTimeout s) := by
  unfold Machine.swapTimeout
  split
  · exact .ite h.count.coresStart h
  · exact h

theorem Canonical.wdogKick {cores : BitVec 4} (h : Canonical s) : Canonical (wdogKick s cores) := .ite h.modMgt h

theorem Canonical.wdogExpire (h : Canonical s) : Canonical (wdogExpire s) := by
  refine .ite h ?_
  split
  · exact h
  · exact h.raise.count.coresStart

theorem Canonical.loadBlock {load : Nat} (h : Canonical s) : Canonical (loadBlock s load) := h.setFld.peak.modMgt.refreshShed

/-! ### Supply -/

theorem Canonical.resetKeeping : Canonical (resetKeeping s) := ⟨RegFile.wf_to _ _ (SMap.wf_nil _ _), Canonical.reset.central, Canonical.reset.slices⟩

theorem Canonical.superviseTo {sup : Supply} (h : Canonical s) : Canonical (superviseTo s sup) := by
  unfold Machine.superviseTo
  exact .ite (.ite h.frame .resetKeeping) (.ite (.frame (.ite Canonical.resetKeeping.setFlag .resetKeeping)) h.frame)

theorem Canonical.abandonJob {unit : Nat} (h : Canonical s) : Canonical (abandonJob s n unit) :=
  have h := h.modSl
  .ite h.updFf (.ite h.binDropWindow (.ite h.windowsDrop (.ite (h.foldl (fun h => .ite h.modTone h)) (.ite h.modVec h))))

theorem Canonical.execBeatOverrun {unit : OverrunUnit} (h : Canonical s) : Result.Canonical (execBeatOverrun unit s) := by
  unfold Machine.execBeatOverrun
  split
  · exact h.raise.abandonJob
  · exact .frame h.raise

theorem Canonical.overrunBeat (h : Canonical s) : Canonical (overrunBeat s n) := .ite h (.modSl (.ite h.modSeq h))

theorem Canonical.modTap {f : Tap → Tap} (h : Canonical s) : Canonical (modTap s f) := h.frame

theorem Canonical.tapBypass {drive : TapDrive} {tdi : List Bool} (h : Canonical s) : Canonical (tapBypass s drive tdi) := h.modTap

theorem Canonical.tapBoundary {drive : TapDrive} {lands tdi : List Bool} (h : Canonical s) : Canonical (tapBoundary s drive lands tdi) := by
  unfold Machine.tapBoundary
  exact h.modTap

theorem Canonical.tapDriving {tdi : List Bool} {act : State → State} (h : Canonical s) (hact : ∀ {t}, Canonical t → Canonical (act t)) :
    Canonical (tapDriving s tdi act) :=
  .ite (hact h) (
    have h := h.tapBypass
    .ite h.modTap h.setFlag)

/-! ### Events -/

theorem Canonical.eventActs {e : SeqEvent} (h : Canonical s) : Canonical (eventActs s n e) := by
  unfold Machine.eventActs
  split
  · exact h.coreEvent (·.vecEvent)
  · exact h.coreEvent (·.vecEvent)
  · exact h.coreEvent (·.vecEvent)
  · exact h.coreEvent (·.vecEvent)
  · exact h.coreEvent (·.vecEvent)
  · exact h.coreEvent (·.vecEvent)
  · exact h.analogEvent (·.txCause)
  · exact h.analogEvent (·.txCause)
  · exact h.coreEvent (·.toneSegment)
  · exact h.coreEvent (·.toneZeroEvent)
  · exact h.coreEvent (·.toneTrack)
  · exact h.coreEvent (·.tonePhase)
  · exact h.coreEvent (·.markForce)
  · exact h.coreEvent (·.markForce)
  · exact h.coreEvent (·.markForce)
  · exact h.coreEvent (·.binTrigger)
  · exact h.coreEvent (·.binCancel)
  · exact h.acqEvent (·.acqArm)
  · exact h.acqEvent (·.acqTrigger)
  · exact h.acqEvent (·.acqStopAll)
  · exact h.analogEvent (·.ffCode)
  · exact h.analogEvent (·.ffSpan)
  · exact h.analogEvent (·.ffHiz)
  · exact h.analogEvent (·.tdcArm)
  · exact h.analogEvent (·.tdcIdle)
  · exact h.analogEvent (·.tdcGate)
  · exact h.analogEvent (·.madTrigger)
  · exact h.analogEvent (·.madAbort)
  · exact h

theorem Canonical.eventsBeat (h : Canonical s) : Canonical (eventsBeat s n) := .ite h (h.modSeq.foldl (·.eventActs))

/-! ### Accessory -/

theorem Canonical.accGo (h : Canonical s) : Canonical (accGo s) := .ite h.setFlag.setFld h.frame.setFlag

theorem Canonical.accIdle (h : Canonical s) : Canonical (accIdle s) := h.frame.setFlag

theorem Canonical.accAbort (h : Canonical s) : Canonical (accAbort s) := by
  unfold Machine.accAbort
  split
  · exact h
  · exact .ite h h.accIdle.setFlag

theorem Canonical.accEnd {miso : BitVec 256} (h : Canonical s) : Canonical (accEnd s miso) := by
  unfold Machine.accEnd
  split
  · exact h
  · exact .ite (.count (.setFlag (.accIdle (h.foldl (·.wr))))) h

theorem Canonical.modPewter {f : Pewter → Pewter} (h : Canonical s) : Canonical (modPewter s f) := h.frame

theorem Canonical.pewterHigh (h : Canonical s) : Canonical (pewterHigh s) := h.modPewter.setFlag

theorem Canonical.pewterWrite {opening : Bool} (h : Canonical s) : Canonical (pewterWrite s opening) :=
  .ite h (.ite h.modPewter.pewterHigh.setFlag (.ite h.setFlag h.modPewter.pewterHigh.setFld.setFlag))

/-! ### Reg access -/

theorem Canonical.levelClamp {key : RegKey} {v : Nat} (h : Canonical s) : Canonical (levelClamp s key v) := by
  unfold Machine.levelClamp
  split
  · exact .ite h h.setFlag
  · exact .ite h h.setFlag
  · exact .ite h h.setFlag
  · exact .ite h h.setFlag
  · exact .ite h h.setFlag
  · exact .ite h h.setFlag
  · exact .ite h h.setFlag
  · exact .ite h h.setFlag
  · exact .ite h h.setFlag
  · exact h

theorem Canonical.writeIgnored {t : State} {path : Path} {key : RegKey} {v : Nat} (h : Canonical s) (e : s.writeIgnored path key v = some t) :
    Canonical t := by
  have hflag {f : Field} {i : Nat} (e : some (s.setFlag f true i) = some t) : Canonical t := Option.some.inj e ▸ h.setFlag
  have hsame (e : some s = some t) : Canonical t := Option.some.inj e ▸ h
  unfold State.writeIgnored at e
  split at e
  · exact hflag (Option.ite_none_right_eq_some.1 e).2
  · exact hflag (Option.ite_none_right_eq_some.1 e).2
  · exact hflag (Option.ite_none_right_eq_some.1 e).2
  · exact hflag (Option.ite_none_right_eq_some.1 e).2
  · exact hsame (Option.ite_none_right_eq_some.1 e).2
  · exact hsame (Option.ite_none_right_eq_some.1 e).2
  · exact hflag (Option.ite_none_left_eq_some.1 e).2
  · exact hsame (Option.ite_none_right_eq_some.1 e).2
  · exact hsame (Option.ite_none_right_eq_some.1 e).2
  · exact hsame (Option.ite_none_right_eq_some.1 e).2
  · cases e

theorem Canonical.onEnable {f : Field} {key : RegKey} {v : Nat} {up down : State → State} (hup : ∀ {t}, Canonical t → Canonical (up t))
    (hdown : ∀ {t}, Canonical t → Canonical (down t)) (h : Canonical s) :
    Canonical (onEnable f key v up down s) :=
  .ite (.ite h (hup h)) (.ite (hdown h) h)

theorem Canonical.regOwn {port : Option (Fin 2)} {key : RegKey} {v : Nat} (h : Canonical s) : Canonical (regOwn s port key v) := by
  unfold Machine.regOwn
  split
  · exact h.seqPcWrite
  · exact h.budgetWrite
  · exact h.trgDriveWrite
  · exact h.trgPosWrite
  · exact h.ringAdvance
  · exact h.journalSpill
  · exact h.modSl
  · exact h.frame
  · exact h.frame
  · exact h.frame
  · exact h.wramWrite
  · exact .ite h.stagedWrite h
  · exact h.pewterWrite
  · exact .ite h (.ite h.domainOffReq h.domainOnReq)
  · exact .onEnable (·.journalEnable) (·.journalDisable) h
  · exact .onEnable (·.setFlag) (·.madDisable) h
  · exact .onEnable (·.setFlag) (·.tdcDisable.disRecord) h
  · exact .onEnable (·.setFlag.ktlEnable) (·.setFlag.portDown) h
  · exact h.storePowerRequest
  · exact h.storePowerRequest
  · exact h.chnRoleWrite.driveLines
  · exact h.pmuModeChange
  · exact h

theorem Canonical.scrubFresh {id : StoreId} (h : Canonical s) : Canonical (scrubFresh s id) := h.setStore

theorem Canonical.regHook {key : RegKey} (h : Canonical s) : Canonical (regHook s key) := by
  unfold Machine.regHook
  split
  · exact h.tsetCheck
  · exact h.tsetCheck
  · exact h.tsetCheck
  · exact h.tsetCheck
  · exact h.tsetCheck
  · exact h.tsetCheck
  · exact h.showLoaded
  · exact h.toneEntryChanged
  · exact h.analogDo (·.rxRange)
  · exact h.analogDo (·.loadSync)
  · exact h.tdcSetupWritten
  · exact h.invTrimWritten
  · exact h.invReferenceOff
  · exact h.driveLines
  · exact h.ffRefresh
  · exact h.scrubFresh
  · exact h.scrubFresh
  · exact h

theorem Canonical.clearWrite {key : RegKey} {v : Nat} (h : Canonical s) : Canonical (clearWrite s key v) := by
  unfold Machine.clearWrite
  exact
    have h := h.foldl (fun h => .ite (h.foldl (·.wr)) h)
    by
      dsimp only
      split
      · exact h.foldl (·.foldl (·.wr))
      · exact .ite h.setFld h
      · exact h

/-- Every command of a list keeps the canonical form. -/
inductive CommandsKeep : List (Nat × (State → State)) → Prop
  | nil : CommandsKeep []
  | cons {b : Nat} {f : State → State} {l : List (Nat × (State → State))} (hf : ∀ {t}, Canonical t → Canonical (f t))
      (hl : CommandsKeep l) : CommandsKeep ((b, f) :: l)

theorem Canonical.commands {v : Nat} {l : List (Nat × (State → State))} (h : Canonical s) (hl : CommandsKeep l) :
    Canonical (Machine.commands v l s) := by
  induction hl generalizing s with
  | nil => exact h
  | cons hf _ ih => exact ih (.ite (hf h) h)

theorem Canonical.regCommands {path : Path} {key : RegKey} {v : Nat} (h : Canonical s) : Canonical (regCommands s path key v) := by
  unfold Machine.regCommands
  extract_lets n n8 core analog
  have hcore {f : State → State} (hf : ∀ {t}, Canonical t → Canonical (f t)) {t : State} (h : Canonical t) : Canonical (core f t) := h.coreDo hf
  have hanalog {f : State → State} (hf : ∀ {t}, Canonical t → Canonical (f t)) {t : State} (h : Canonical t) : Canonical (analog f t) :=
    h.analogDo hf
  split
  · exact h.commands (.cons (·.wheelStart) <| .cons (·.wheelStop) <| .cons (·.wheelCommit) .nil)
  · exact h.commands (.cons (·.imgGo) <| .cons (·.imgAbort) .nil)
  · exact h.commands (.cons (·.seqRun) <| .cons (·.seqHalt) <| .cons (·.seqStep) <| .cons (·.seqClrNew) .nil)
  · exact h.commands (.cons (hcore (·.vecEvent)) <| .cons (hcore (·.fcReset)) .nil)
  · exact h.analogDo fun h => h.pinRelease
  · exact h.commands (.cons (hanalog (·.ccStart)) <| .cons (hanalog (·.ccAbort)) .nil)
  · exact h.commands (.cons (hcore (·.toneFlush)) .nil)
  · exact h.commands (.cons (hanalog (·.txEnable)) <| .cons (·.txDisable) <| .cons (hanalog (·.txCause)) <| .cons (hanalog (·.txCause)) .nil)
  · exact h.coreDo fun h => h.trackRebase
  · exact h.commands (.cons (hanalog (·.rxEnable)) <| .cons (·.rxDisable) .nil)
  · exact h.commands (.cons (hcore (·.acqArm)) <| .cons (hcore (·.acqTrigger)) <| .cons (hcore (·.acqStopAll)) .nil)
  · exact h.commands (.cons (hanalog (·.ffSpan)) <| .cons (hanalog (·.ffHiz)) .nil)
  · exact h.commands (.cons (hanalog (·.madTrigger)) <| .cons (hanalog (·.madAbort)) <| .cons (hanalog (·.madSelfcal)) <| .cons (hanalog
    (·.madSyscal)) <| .cons (·.madApplyf) .nil)
  · exact h.commands (.cons (hanalog (·.tdcArm)) <| .cons (hanalog (·.tdcIdle)) <| .cons (hanalog (·.tdcGate)) .nil)
  · exact h.commands (.cons (·.epochAsk) <| .cons (·.chnRealign) .nil)
  · exact h.commands (.cons (·.trgCal) .nil)
  · exact h.commands (.cons (·.discover) <| .cons (·.joinAsk) .nil)
  · exact h.commands (.cons (·.todLatch) <| .cons (·.todStep) .nil)
  · exact h.commands (.cons (·.setFlag) .nil)
  · exact h.commands (.cons (·.dmaStart) <| .cons (·.dmaAbort) <| .cons (·.dmaFlush) .nil)
  · exact h.commands (.cons (·.saveKinds) .nil)
  · exact h.commands (.cons (·.calStage) <| .cons (·.calStageAt) <| .cons (·.clearPend) .nil)
  · exact h.commands (.cons (·.fgStart) <| .cons (·.fgStop) .nil)
  · exact h.commands (.cons (·.recover) <| .cons (·.raise) .nil)
  · exact h.foldl fun h => h.ackClass
  · exact h.commands (.cons (·.inject) .nil)
  · exact h.commands (.cons (·.replayAsk) <| .cons (·.replayEnd) <| .cons (·.journalFlush) .nil)
  · exact h.commands (.cons (·.tryFw) <| .cons (·.confirmFw) <| .cons (·.commitSecver) <| .cons (·.setImg) <| .cons (·.runGo) <| .cons
    (·.flashGo) <| .cons (·.keyWrite) <| .cons (·.lockKey) <| .cons (·.revoke) .nil)
  · exact h.commands (.cons (·.mgtHalt) <| .cons (·.mgtRestart) <| .cons (·.swap) .nil)
  · exact .ite h.wdogKick h
  · exact h.commands (.cons (·.accGo) <| .cons (·.accAbort) .nil)
  · exact h

theorem Canonical.clearFlags {key : RegKey} {v : Nat} (h : Canonical s) : Canonical (clearFlags s key v) := by
  unfold Machine.clearFlags
  extract_lets own m m' old t
  have ht : Canonical t := .ite h h.wr
  refine .ite ht ?_
  split
  · exact ht.govRearm
  · exact ht.govRearm
  · exact ht.govRearm
  · exact ht.ffShortClear
  · exact ht

theorem Canonical.wordWrite {path : Path} {port : Option (Fin 2)} {key : RegKey} {v : Word} (h : Canonical s) :
    Canonical (wordWrite s path port key v).1 := by
  unfold Machine.wordWrite
  split
  next e => exact .fst (h.writeIgnored e)
  · split
    extract_lets w free old s1 stored s2 s3 s4 s5
    have h1 : Canonical s1 := h.levelClamp
    have h2 : Canonical s2 := .ite h1 h1.wr
    have h3 : Canonical s3 := h2.clearFlags
    have h4 : Canonical s4 := .ite h3 h3.regOwn
    have h5 : Canonical s5 := .ite h4 h4.regHook
    exact .fst h5.clearWrite.regCommands

theorem Canonical.pairWrite {path : Path} {port : Option (Fin 2)} {key : RegKey} {low : Reg} {v : Word} (h : Canonical s) :
    Canonical (pairWrite s path port key low v).1 := by
  unfold Machine.pairWrite
  extract_lets lk staged s1 n k lowWord s2
  have h1 : Canonical s1 := h.frame
  have h2 : Canonical s2 := by
    unfold s2
    cases staged with
    | none => exact h1
    | some w => exact h1.wordWrite
  exact .ite_fst (.fst h1.trackRetune) h2.wordWrite

theorem Canonical.regApply {path : Path} {port : Option (Fin 2)} {key : RegKey} {v : Word} (h : Canonical s) :
    Canonical (regApply s path port key v).1 := by
  refine .ite_fst (.fst h.frame) ?_
  split
  · exact h.pairWrite
  · exact h.wordWrite

theorem Canonical.regWrite {path : Path} {port : Option (Fin 2)} {addr : Nat} {v : Word} (h : Canonical s) :
    Canonical (regWrite s path port addr v).1 := by
  unfold Machine.regWrite
  split
  · exact .fst h
  · exact .ite_fst (.fst h) (.ite_fst (.fst h) h.journalReg.regApply)

theorem Canonical.loaderWrite {key : RegKey} {v : Word} (h : Canonical s) : Canonical (loaderWrite s key v) :=
  have h := h.levelClamp
  have h := Canonical.ite h h.wr
  have h := Canonical.ite h h.regOwn
  have h := Canonical.ite h h.regHook
  .ite h.frame h

theorem Canonical.plainRead {key : RegKey} (h : Canonical s) : Canonical (plainRead s key) := by
  unfold Machine.plainRead
  exact
    have h := h.frame
    by
      dsimp only
      split
      · exact h.setFld
      · exact h

theorem Canonical.shadowRead {key : RegKey} (h : Canonical s) : Canonical (shadowRead s key) := by
  unfold Machine.shadowRead
  split
  · exact h.frame
  · exact h.plainRead

theorem Canonical.captureHigh {key : RegKey} {high : Reg} (h : Canonical s) : Canonical (captureHigh s key high) := h.frame

theorem Canonical.dmxResultRead {key : RegKey} (h : Canonical s) : Canonical (dmxResultRead s key) := h.plainRead.foldl (·.frame)

theorem Canonical.keyRead {key : RegKey} (h : Canonical s) : Canonical (keyRead s key) := by
  unfold Machine.keyRead
  split
  · exact h.madReadLo
  · exact h.madReadHi
  · exact .ite h.madReadLo h.madReadHi
  · exact h.tdcTake
  · exact .ite h.tdcTake h.frame
  · exact h.evtTake
  · exact h.trackAccRead
  · exact h.dmxResultRead
  · exact .ite h.shadowRead h.captureHigh.plainRead
  · split
    · exact h.captureHigh.plainRead
    · exact h.shadowRead

theorem Canonical.regRead {addr : Nat} (h : Canonical s) : Canonical (regRead s addr) := by
  unfold Machine.regRead
  split
  · exact h.keyRead
  · exact h.frame

theorem Canonical.execPairLowRead {addr : BitVec 40} (h : Canonical s) : Result.Canonical (execPairLowRead addr s) := by
  refine h.awake fun h => ?_
  split
  · exact .ite h.keyRead h
  · exact h

theorem Canonical.execPairLowWrite {path : Path} {addr : BitVec 40} {v : BitVec 32} (h : Canonical s) :
    Result.Canonical (execPairLowWrite path addr v s) := by
  refine h.awake fun h => ?_
  split
  · exact .ite h.regWrite h
  · exact h

theorem Canonical.execPairHighWrite {path : Path} {addr : BitVec 40} {v : BitVec 32} (h : Canonical s) :
    Result.Canonical (execPairHighWrite path addr v s) := by
  refine h.awake fun h => ?_
  split
  · exact .ite h.regWrite h
  · exact h

theorem Canonical.execCounterClear {path : Path} {addr : BitVec 40} {v : BitVec 32} (h : Canonical s) :
    Result.Canonical (execCounterClear path addr v s) := by
  refine h.awake fun h => ?_
  split
  · exact .ite h.regWrite h
  · exact h

theorem Canonical.execTsetWrite {path : Path} {addr : BitVec 40} {v : BitVec 32} (h : Canonical s) :
    Result.Canonical (execTsetWrite n path addr v s) := by
  refine h.awake fun h => ?_
  split
  · exact .ite h.regWrite h
  · exact h

/-! ### Store port -/

theorem Canonical.storeUpsets {id : StoreId} {l : List (Nat × Bool)} (h : Canonical s) : Canonical (storeUpsets s id l) :=
  h.setStore_of_wf (Store.wf_foldl (fun st _ hst => (Store.wf_upset st _ _).trans hst) _ (h.store id))

theorem Canonical.portRead {id : StoreId} {line : Nat} (h : Canonical s) : Canonical (portRead s id line).2.2 := .snd h.lineRead

theorem Canonical.portWrite {id : StoreId} {a : Nat} {data : List Byte} (h : Canonical s) : Canonical (portWrite s id a data) :=
  h.setStore_writeBytes.marchTouched

theorem Canonical.scheduledAccess {t : State} {code : Nat} (h : Canonical s) (e : scheduledAccess s n code = some t) : Canonical t := by
  unfold Machine.scheduledAccess at e
  dsimp only at e
  split at e
  · obtain ⟨_, -, rfl⟩ := Option.map_eq_some_iff.1 e
    exact h.portRead.fetchFill
  · obtain ⟨_, -, rfl⟩ := Option.map_eq_some_iff.1 e
    exact h.portRead.vecFill
  · obtain ⟨_, -, rfl⟩ := Option.map_eq_some_iff.1 e
    exact h.portRead.toneFill
  · obtain ⟨_, -, rfl⟩ := Option.map_eq_some_iff.1 e
    exact h.portWrite.acqWritten
  · obtain ⟨_, -, rfl⟩ := Option.map_eq_some_iff.1 e
    exact h.portWrite.modVec
  · cases e

theorem Canonical.requestWrite {id : StoreId} {r : StoreReq} (h : Canonical s) : Canonical (requestWrite s id r) := by
  unfold Machine.requestWrite
  extract_lets s1 st1 st2 s2
  have h1 : Canonical s1 := by
    cases id with
    | slice n => exact h.journalBefore
    | central => exact h
  have hst1 : st1.wf = true :=
    Store.wf_foldl (fun _ _ hst => Store.wf_setByte _ _ hst) _ (h1.store id)
  have hst2 : st2.wf = true := by rw [← hst1]; exact Store.wf_cleanWords _ _
  have h2 : Canonical s2 := (h1.setStore_of_wf hst2).marchTouched
  split
  · exact h2.journalLine
  · exact h2

theorem Canonical.requestAccess {id : StoreId} {w : WaitingReq} (h : Canonical s) : Canonical (requestAccess s id w) :=
  .ite h.portRead.setStore.setStore (.ite h.requestWrite.setStore (
    have h := h.portRead
    .ite h.setStore h.setStore.setStore))

theorem Canonical.sliceCycle {cycle : Nat} (h : Canonical s) : Canonical (sliceCycle s n cycle) := by
  unfold Machine.sliceCycle
  extract_lets st unscheduled code
  have hu : Canonical (unscheduled.getD s) := by
    unfold unscheduled
    cases unscheduledNext st cycle with
    | none => exact h
    | some w => exact h.requestAccess
  refine .ite ?_ ?_
  · split
    next e => exact h.scheduledAccess e
    · exact hu
  · split
    next e =>
      obtain ⟨code, -, hc⟩ := List.exists_of_findSome?_eq_some e
      exact h.scheduledAccess hc
    · split
      · exact h.requestAccess
      · exact h.requestAccess
      · exact hu

theorem Canonical.centralCycle (h : Canonical s) : Canonical (centralCycle s) := by
  unfold Machine.centralCycle
  split
  · extract_lets t
    have ht : Canonical t := h.portWrite.journalWritten
    exact ht.setCstore ht.central
  · split
    · exact h.requestAccess
    · split
      · exact h
      · exact .requestAccess (h.setCstore h.central)

theorem Canonical.storeCycle {id : StoreId} {reqs : List StoreReq} {upsets : List (Nat × Bool)} (h : Canonical s) :
    Canonical (storeCycle s id reqs upsets) := by
  unfold Machine.storeCycle
  extract_lets s1 st1 cycle new s2 s3 st3
  have h1 : Canonical s1 := h.storeUpsets
  have h2 : Canonical s2 := h1.setStore
  have h3 : Canonical s3 := by
    cases id with
    | slice n => exact h2.sliceCycle
    | central => exact h2.centralCycle
  exact .ite h1 (.ite h1.setStore h3.setStore)

theorem Canonical.storeBeat {id : StoreId} (h : Canonical s) : Canonical (storeBeat s id) := by
  refine .setStore ?_
  refine h.foldl fun h => ?_
  split
  · exact h.conflict
  · exact h.conflict
  · exact h.count
  · exact h.count
  · exact h.count
  · exact h.count
  · exact h

theorem Canonical.countScrubLate {id : StoreId} {k : Nat} (h : Canonical s) : Canonical (countScrubLate s id k) := by
  unfold Machine.countScrubLate
  split
  · exact h.countBy
  · exact h.countBy

theorem Canonical.scrubStep {id : StoreId} (h : Canonical s) : Canonical (scrubStep s id) := by
  unfold Machine.scrubStep
  extract_lets iv st passed t due line t1 t2 st2
  have ht : Canonical t := .ite h h.countScrubLate
  have hst : st.wf = true := h.store id
  have h1 : Canonical t1 := ht.setStore_of_wf hst
  have h2 : Canonical t2 := h1.lineRead
  refine .ite h (.ite ?_ (ht.setStore_of_wf hst))
  split
  · exact ht.setStore_of_wf hst
  · exact h2.setStore

/-! ### Image load -/

theorem Canonical.loadWords {a : Nat} {l : List Nat} (h : Canonical s) : Canonical (loadWords s a l) := by
  induction l generalizing s a with
  | nil => exact h
  | cons w l ih =>
    refine ih ?_
    split
    · exact h.loaderWrite
    · exact h

theorem Canonical.loadLines {id : StoreId} {line : Nat} {l : List (List Byte)} (h : Canonical s) : Canonical (loadLines s id line l) := by
  induction l generalizing s line with
  | nil => exact h
  | cons d l ih => exact ih (h.setStore_of_wf (Store.wf_writeLine _ _ (h.store id))).marchTouched

theorem Canonical.loadWeights {u : Fin 32} {i : Nat} {l : List Nat} (h : Canonical s) : Canonical (loadWeights s n u i l) := by
  induction l generalizing s i with
  | nil => exact h
  | cons w l ih => exact ih h.wramStore

theorem Canonical.recordApply {i : Nat} {r : ImgRecord} (h : Canonical s) : Canonical (recordApply i s r) := by
  unfold Machine.recordApply
  split
  · exact h.loadWords
  · exact h.loadLines
  · exact h.loadLines
  · exact h.loadWeights
  · exact h
  · exact h.modImg

theorem Canonical.ffResettle {records : List ImgRecord} (h : Canonical s) : Canonical (ffResettle s n records) := by
  refine h.ffEach fun h => ?_
  split
  · exact h
  · exact .ite h.ffAdvance.ffBegin.updFf h

theorem Canonical.sectionApply {i : Nat} {records : List ImgRecord} (h : Canonical s) : Canonical (sectionApply s i records) := by
  unfold Machine.sectionApply
  exact
    have h := h.modImg.foldl (·.recordApply)
    by
      dsimp only
      split
      · exact h.ffResettle
      · exact h

theorem Canonical.locksInForce {l : List (RegKey × Word)} (h : Canonical s) : Canonical (locksInForce s l) := h.modImg

theorem Canonical.storeWake {i : Nat} (h : Canonical s) : Canonical (storeWake s i) := .ite h h.storePowerRequest

theorem Canonical.sectionSerialIs {i serial : Nat} (h : Canonical s) : Canonical (sectionSerialIs s i serial) :=
  have h := h.imageRecord.imageRecord
  .ite h.setPair h.setPair

theorem Canonical.reloadLoad (h : Canonical s) : Canonical (reloadLoad s n) := by
  unfold Machine.reloadLoad
  refine .ite h ?_
  dsimp only
  split
  · exact h
  · exact .ite h.storeWake h.rangeRead.sectionApply.modImg.setFld

theorem Canonical.verifyEnds {equal : Bool} (h : Canonical s) : Canonical (verifyEnds s n equal) :=
  .ite h.reloadFail (.ite h.reloadFail h.modImg.locksInForce)

theorem Canonical.verifyPoisoned (h : Canonical s) : Canonical (verifyPoisoned s n).2 := .snd h.rangeRead

theorem Canonical.reloadVerify {readsBack : Bool} (h : Canonical s) : Canonical (reloadVerify s n readsBack) := .ite h h.verifyPoisoned.verifyEnds

theorem Canonical.reloadReady (h : Canonical s) : Canonical (reloadReady s n) :=
  .ite h (.ite h.reloadFail (.ite h h.setFld.setPair.wheelStart.setFld))

theorem Canonical.tracksRejoin (h : Canonical s) : Canonical (tracksRejoin s n) := h.foldl (·.trackRebase)

theorem Canonical.seqEnter (h : Canonical s) : Canonical (seqEnter s n) := by
  unfold Machine.seqEnter
  split
  · exact h.setFld.modSeq.setFld.setSeqState
  · exact h

theorem Canonical.reloadRejoin (h : Canonical s) : Canonical (reloadRejoin s n) :=
  .ite h h.setActiveMap.wheelRunning.tracksRejoin.sliceBack.seqEnter.sectionSerialIs.modImg.bump.imgEnd

theorem Canonical.reloadLate (h : Canonical s) : Canonical (reloadLate s n) := .ite h.reloadFail h

theorem Canonical.sliceParked (h : Canonical s) : Canonical (sliceParked s n) := .sliceReset (.wheelHalt (.ite h h.sliceDrain))

theorem Canonical.sectionLoad {src : ImgSource} {hd : List Byte} {i : Nat} (h : Canonical s) : Canonical (sectionLoad s src hd i).1 := by
  unfold Machine.sectionLoad
  split
  · exact .fst h
  · exact .ite_fst (.fst h) (.fst h.sectionApply.modImg)

theorem Canonical.sectionInForce {hd : List Byte} {i : Nat} (h : Canonical s) : Canonical (sectionInForce s hd i) := by
  unfold Machine.sectionInForce
  exact h.locksInForce.sectionSerialIs.modImg

theorem Canonical.sliceLoaded (h : Canonical s) : Canonical (sliceLoaded s n) := by
  unfold Machine.sliceLoaded
  exact
    have h := h.setActiveMap.sliceBack
    by
      dsimp only
      split
      · exact h.setFld
      · exact h

theorem Canonical.slicesLoad {src : ImgSource} {hd : List Byte} {bad : BitVec 17} {l : List (Fin 16)} (h : Canonical s) :
    Canonical (slicesLoad s src hd bad l).1 :=
  .foldl_fst (.fst h) (fun h =>
    have h := h.sliceParked.sectionLoad
    .ite_fst (.fst h.sectionInForce.sliceLoaded) (.fst h.sectionFailed))

theorem Canonical.imageApply {src : ImgSource} {bad : BitVec 17} {l : List (Fin 16)} (h : Canonical s) : Canonical (imageApply s src bad l).1 :=
  have h := h.sectionLoad
  .ite_fst (.fst (.raise (h.foldl (·.sliceParked.modSl)))) h.sectionInForce.slicesLoad

theorem Canonical.calibrationPhase (h : Canonical s) : Canonical (calibrationPhase s) :=
  have h := h.setFld.vaultSelectAll.modBoot
  .ite (h.eachSlice (fun h => .ite h.fgStart h)) h

theorem Canonical.fullEnd {bad : BitVec 17} (h : Canonical s) : Canonical (fullEnd s bad) :=
  .ite h (.ite h (.ite (h.foldl (·.sliceParked.storeWake)) (
    have h := h.imageApply
    .ite h.imgEnd (
      have h := h.writeDir.setFlag.imgEnd
      .ite h.setFld.calibrationPhase h))))

theorem Canonical.releaseExports {rebuilt : Fin 16 → Bool} (h : Canonical s) : Canonical (releaseExports s rebuilt) :=
  h.foldl (fun h => .ite h.expressTo h)

theorem Canonical.holdSlice (h : Canonical s) : Canonical (holdSlice s n) := h.modFlt

theorem Canonical.rebuildLoad {bad : BitVec 17} (h : Canonical s) : Canonical (rebuildLoad s bad).1 := by
  unfold Machine.rebuildLoad
  exact .imageApply (h.foldl (·.sectionFailed.holdSlice))

theorem Canonical.recoveryEnd {bad : BitVec 17} (h : Canonical s) : Canonical (recoveryEnd s bad) := by
  unfold Machine.recoveryEnd
  dsimp only
  exact .ite h (.ite h.raise (.ite (h.foldl (·.sliceParked.storeWake)) (
    have h := h.rebuildLoad
    .ite h (.event (.modFlt (.setFld (.releaseExports (h.foldl (·.holdSlice)))))))))

/-! ### Boot -/

theorem Canonical.bootPhase {ph : Nat} (h : Canonical s) : Canonical (bootPhase s ph) := h.setFld.modBoot

theorem Canonical.bootJoin (h : Canonical s) : Canonical (bootJoin s) := .ite h.bootPhase.joinAsk h.bootPhase

theorem Canonical.bootChain (h : Canonical s) : Canonical (bootChain s) := .ite h.bootPhase h.bootJoin

theorem Canonical.bootBist (h : Canonical s) : Canonical (bootBist s) := .ite h.bootPhase h.bootChain

theorem Canonical.boardConfig (h : Canonical s) : Canonical (boardConfig s) :=
  .ite h (h.setFld.setFlag.chnRoleWrite.driveLines.setFlag.setFlag.foldl (·.setFld.setFld.setFld.foldl (·.setFld)))

theorem Canonical.bootRom {table : Option Bool} {large : Bool} (h : Canonical s) : Canonical (bootRom s table large) := by
  refine .ite h.bootHeld ?_
  split
  · exact h.bootHeld
  · exact .ite h.bootHeld h.setFlag.setFlag.bootPhase

theorem Canonical.bootFirmware (h : Canonical s) : Canonical (bootFirmware s) := by
  unfold Machine.bootFirmware
  split
  next e => exact (Canonical.of_snd e h.chooseSlot).coresFailed
  next e => exact (Canonical.of_snd e h.chooseSlot).loadFirmware.coresRun.boardConfig.bootBist

theorem Canonical.zeroFill (h : Canonical s) : Canonical (zeroFill s) := by
  unfold Machine.zeroFill
  exact .eachSlice (h.setCstore (SMap.wf_nil _ _)) fun h => h.setStore_of_wf (SMap.wf_nil _ _)

theorem Canonical.bootMarch {bad : Option (StoreId × Nat)} (h : Canonical s) : Canonical (bootMarch s bad) := by
  unfold Machine.bootMarch
  split
  · exact h.zeroFill.bootChain
  · exact h.setEccAddr.bootHeld

theorem Canonical.bootJoined (h : Canonical s) : Canonical (bootJoined s) := .ite h.bootPhase (.ite h.setFld.modBoot.bootPhase h)

theorem Canonical.bootImageFrom {slot : Bool} {bad : BitVec 17} (h : Canonical s) : Canonical (bootImageFrom s slot bad) := by
  unfold Machine.bootImageFrom
  dsimp only
  exact h.modImg.imageApply.imgResult.setFlag.calibrationPhase

theorem Canonical.bootImage {bad : BitVec 17} (h : Canonical s) : Canonical (bootImage s bad) := by
  unfold Machine.bootImage
  dsimp only
  split
  · exact h.imgResult.bootHeld
  · exact .ite (h.foldl (·.storeWake)) (.bootImageFrom (.ite h h.setFlag))

theorem Canonical.bootReady (h : Canonical s) : Canonical (bootReady s) := .ite h.bootPhase.event h

theorem Canonical.bootAdvance {findings : BootFindings} (h : Canonical s) : Canonical (bootAdvance s findings) := by
  unfold Machine.bootAdvance
  generalize s.fld F.BOOT_STATUS_PHASE = phase
  cases findings with
  | none_ =>
    match phase with
    | 1 => exact .ite h.bootPhase h
    | 3 => exact h.bootFirmware
    | 5 => exact .ite h.bootJoin h
    | 6 => exact h.bootJoined
    | 8 => exact h.bootReady
    | 0 | 2 | 4 | 7 | _ + 9 => exact h
  | flash table large =>
    match phase with
    | 2 => exact h.bootRom
    | 0 | 1 | 3 | 4 | 5 | 6 | 7 | 8 | _ + 9 => exact h
  | march bad =>
    match phase with
    | 4 => exact h.bootMarch
    | 0 | 1 | 2 | 3 | 5 | 6 | 7 | 8 | _ + 9 => exact h
  | image bad =>
    match phase with
    | 7 => exact h.bootImage
    | 0 | 1 | 2 | 3 | 4 | 5 | 6 | 8 | _ + 9 => exact h

theorem Canonical.bootLateJoin (h : Canonical s) : Canonical (bootLateJoin s) := .ite h.modBoot.setFld.bootPhase h

/-! ### Host requests -/

theorem Canonical.pathWriteGo {path : Nat} {id : StoreId} {fuel a off : Nat} {data : List Byte} (h : Canonical s) :
    Canonical (pathWriteGo path id fuel s a off data).1 := by
  induction fuel generalizing s a off data with
  | zero => exact h
  | succ fuel ih =>
    unfold Machine.pathWriteGo
    dsimp only
    refine .ite_fst (.fst h) (.fst (ih ?_))
    cases id with
    | slice n => exact .ite h.journalBefore.lineWrite.journalLine h.journalBefore.lineWrite
    | central => exact h.lineWrite

theorem Canonical.pathWrite {path : Nat} {id : StoreId} {a : Nat} {data : List Byte} (h : Canonical s) : Canonical (pathWrite s path id a data).1 :=
  h.pathWriteGo

theorem Canonical.wordsRead {addr k : Nat} {fixed : Bool} (h : Canonical s) : Canonical (wordsRead s addr k fixed).2 :=
  .foldl_snd (.snd h) (fun h => .snd h.regRead)

theorem Canonical.wordsWrite {path : Path} {port : Option (Fin 2)} {addr : Nat} {fixed : Bool} {words : List Nat} (h : Canonical s) :
    Canonical (wordsWrite s path port addr fixed words).1 :=
  .foldl_fst (.fst h) (fun h => .fst h.regWrite)

theorem Canonical.requestRun {port : Option (Fin 2)} {kind addr len : Nat} {fixed : Bool} {data : List Byte} (h : Canonical s) :
    Canonical (requestRun s port kind addr len fixed data).2.2.2 := by
  unfold Machine.requestRun
  split
  · exact .snd h.wordsRead
  · exact .snd h.wordsWrite
  · split
    · split
      · exact .snd h.rangeRead
      · exact .snd h
    · exact .snd h
  · split
    · split
      · exact .snd h.pathWrite
      · exact .snd h
    · exact .snd h

theorem Canonical.modJob {p : Fin 2} {i : Nat} {f : CtpJob → CtpJob} (h : Canonical s) : Canonical (modJob s p i f) := h.modHost

theorem Canonical.jobDone {p : Fin 2} {i status info : Nat} {reply : List Byte} (h : Canonical s) : Canonical (jobDone s p i status info reply) :=
  h.modJob

theorem Canonical.tunnelSend {p : Fin 2} {i : Nat} {j : CtpJob} {l : List (Nat × Nat)} (h : Canonical s) : Canonical (tunnelSend s p i j l) := by
  refine h.foldl fun h => ?_
  split
  · exact .ite h (
      have h := h.packetRoute
      .ite h.modJob h.jobDone)
  · exact h

theorem Canonical.tunnelStart {p : Fin 2} {i : Nat} {j : CtpJob} (h : Canonical s) : Canonical (tunnelStart s p i j) :=
  .ite h.jobDone (.ite h.jobDone h.modJob.tunnelSend)

theorem Canonical.jobStart {p : Fin 2} {i : Nat} (h : Canonical s) : Canonical (jobStart s p i) := by
  unfold Machine.jobStart
  split
  · exact h
  · refine .ite h ?_
    exact
      have h := h.ctpFree.modJob
      .ite h (.ite h.jobDone (by
        split
        · exact h.tunnelStart
        · exact .ite h.jobDone (.ite h.modJob h.requestRun.jobDone)))

theorem Canonical.jobsAdvance {p : Fin 2} (h : Canonical s) : Canonical (jobsAdvance s p) := h.foldl (·.jobStart)

theorem Canonical.jobAppend {p : Fin 2} {i : Nat} {k : CtpPacket} (h : Canonical s) : Canonical (jobAppend s p i k) := h.modJob.jobsAdvance

theorem Canonical.jobNew {p : Fin 2} {k : CtpPacket} (h : Canonical s) : Canonical (jobNew s p k) := .ite h.ctpFree.count h.modHost.jobsAdvance

theorem Canonical.requestTake {p : Fin 2} {k : CtpPacket} {kind : Nat} (h : Canonical s) : Canonical (requestTake s p k kind) := by
  unfold Machine.requestTake
  refine .ite h ?_
  split
  next e => exact .of_fst e h.ctpTake.ctpAccept
  next e =>
    have ht := Canonical.of_fst e h.ctpTake.ctpAccept
    split
    · exact .ite ht.jobAppend (.ite ht.modJob.jobsAdvance.ctpFree ht.modJob.jobsAdvance.jobNew)
    · exact .ite ht.ctpFree ht.jobNew

theorem Canonical.jobPop {p : Fin 2} (h : Canonical s) : Canonical (jobPop s p) := h.modHost.jobsAdvance

theorem Canonical.completionSend {p : Fin 2} (h : Canonical s) : Canonical (completionSend s p) := by
  unfold Machine.completionSend
  split
  · refine .ite h ?_
    extract_lets t
    have ht : Canonical t := h.ctpQuiet
    refine .ite ht.ctpSend.jobPop ?_
    split
    next e =>
    have h2 := Canonical.of_snd_snd e (.ite_snd_snd (.snd ht) (.snd ht.requestRun))
    exact .ite h2.ctpSend.jobPop h2.ctpSend.modJob
  · exact h

theorem Canonical.creditWaitBeat {p : Fin 2} (h : Canonical s) : Canonical (creditWaitBeat s p) := by
  unfold Machine.creditWaitBeat
  split
  · exact .ite h.count h
  · exact h

theorem Canonical.packetTaken {k : KtlPacket} (h : Canonical s) : Canonical (packetTaken s k) := h.modKtl

theorem Canonical.tunnelReply {p : Fin 2} {k : KtlPacket} (h : Canonical s) : Canonical (tunnelReply s p k) := by
  unfold Machine.tunnelReply
  extract_lets tag code
  split
  · exact h
  · split
    · exact h
    · split
      · exact h
      · refine .ite ?_ h.jobDone.jobsAdvance
        extract_lets t1 t2
        have h1 : Canonical t1 := h.modJob
        have h2 : Canonical t2 := by
          unfold t2
          split
          · exact h1
          · exact h1.modJob.tunnelSend
        split
        · exact .jobsAdvance (.ite h2.jobDone h2)
        · exact h2

theorem Canonical.dmaReply {k : KtlPacket} (h : Canonical s) : Canonical (dmaReply s k) := by
  unfold Machine.dmaReply
  dsimp only
  split
  · exact h
  · exact
      have h := h.frame
      .ite h h.dmaCause.setFld

theorem Canonical.tunnelCompletion {k : KtlPacket} (h : Canonical s) : Canonical (tunnelCompletion s k) :=
  .ite h (
    have h := h.packetTaken
    .ite h.tunnelReply (.ite h.tunnelReply h.dmaReply))

theorem Canonical.tunnelTimeout {p : Fin 2} {tag : Nat} (h : Canonical s) : Canonical (tunnelTimeout s p tag) := by
  unfold Machine.tunnelTimeout
  dsimp only
  split
  · exact h.jobDone.jobsAdvance
  · exact h

theorem Canonical.fabricRequest {k : KtlPacket} (h : Canonical s) : Canonical (fabricRequest s k) := by
  unfold Machine.fabricRequest
  dsimp only
  refine .packetRoute ?_
  split
  · exact .snd h
  · exact h.requestRun

theorem Canonical.fabricPacket {p : Fin 4} {k : KtlPacket} (h : Canonical s) : Canonical (fabricPacket s p k) :=
  .ite h (
    have h := h.modKtl
    .ite h.packetForward (.ite h.count (.ite h.fabricRequest (.ite h.modKtl h))))

theorem Canonical.serviceRun {code : Nat} (h : Canonical s) : Canonical (serviceRun s code).2.2.2.2 := by
  unfold Machine.serviceRun
  split
  · exact .snd h
  · split
    · exact .snd h
    · split
      · split
        · exact .snd h.swap
        · exact .snd h.swap
      · split
        · exact .snd h.saveKinds
        · split
          · exact .snd (h.foldl (·.fgStart))
          · exact .snd h

theorem Canonical.serviceTake {p : Fin 2} {k : CtpPacket} {code : Nat} (h : Canonical s) : Canonical (serviceTake s p k code) := by
  unfold Machine.serviceTake
  extract_lets given
  refine .ite h ?_
  split
  next e => exact .of_fst e h.ctpTake.ctpAccept
  next e =>
    have ht := Canonical.of_fst e h.ctpTake.ctpAccept
    extract_lets t1 t2 bad
    have h2 : Canonical t2 := by
      unfold t2
      split
      · exact ht.ctpFree.modJob.jobsAdvance
      · exact ht.ctpFree
    refine .ite h2.count ?_
    split
    next t3 e3 =>
    have h3 : Canonical t3 := by
      rw [show t3 = _ from (congrArg (·.2.2.2.2) e3).symm]
      split
      · exact h2
      · exact h2.serviceRun
    exact h3.modHost

theorem Canonical.serviceEnd {ends : State → CtpJob → Option (Nat × Nat)} (h : Canonical s) : Canonical (serviceEnd s ends) := h.foldl (·.modHost)

theorem Canonical.serviceBeat (h : Canonical s) : Canonical (serviceBeat s) := .ite h h.serviceEnd

theorem Canonical.vaultSaveEnd {ok0 ok1 : Bool} (h : Canonical s) : Canonical (vaultSaveEnd s ok0 ok1) :=
  have h := h.vaultSave
  .ite h h.serviceEnd

/-! ### Dma bursts -/

theorem Canonical.localRead {c : Fin 32} {d : DmaDesc} {b : DmaBurst} (h : Canonical s) : Canonical (localRead s c d b).2.2 := by
  unfold Machine.localRead
  refine .foldl_snd_snd (.snd h) fun h => ?_
  dsimp only
  split
  · exact h
  · split
    · exact .ite_snd_snd h (.snd h.rangeRead)
    · exact .snd h.wordsRead

theorem Canonical.burstWriteLine {id : StoreId} {o : Nat} {data : List Byte} (h : Canonical s) : Canonical (burstWriteLine s id o data).1 :=
  .fst h.pathWrite

theorem Canonical.burstToStore {id : StoreId} {o : Nat} {l : List (Nat × Byte)} (h : Canonical s) : Canonical (burstToStore s id o l).2.2 :=
  .foldl_snd_snd (.snd h) (fun h => .snd h.burstWriteLine)

theorem Canonical.burstToRegs {a : Nat} {l : List (Nat × Byte)} (h : Canonical s) : Canonical (burstToRegs s a l).2.2 :=
  .foldl_snd_snd (.snd h) (fun h => .snd h.regWrite)

theorem Canonical.burstWrite {b : DmaBurst} {l : List (Option Byte)} (h : Canonical s) : Canonical (burstWrite s b l).2.2.2 := by
  unfold Machine.burstWrite
  split
  · exact .snd h
  · split
    · split
      · exact .snd h
      · exact .snd h.burstToStore
    · exact .snd h.burstToRegs

theorem Canonical.indexEntry {d : DmaDesc} {k : Nat} (h : Canonical s) : Canonical (indexEntry s d k).2.2 := by
  unfold Machine.indexEntry
  split
  next e => exact h.of_rangeRead e

theorem Canonical.dmaNext {c : Fin 32} {d : DmaDesc} (h : Canonical s) : Canonical (dmaNext s c d).2 := by
  refine .ite_snd (.snd h) ?_
  refine .ite_snd (.snd h) ?_
  split
  · exact .snd h
  · exact .ite_snd (.snd h) (.ite_snd (.snd h) (
      have h := h.indexEntry
      .ite_snd (.snd h) (.ite_snd (.snd h) (.ite_snd (.snd h) (.snd h)))))

theorem Canonical.burstSend {c : Fin 32} {dev : Nat} {l : List (Nat × Nat × Option (List Byte))} (h : Canonical s) :
    Canonical (burstSend s c dev l).2 :=
  .foldl_snd (.snd h) (fun h =>
    have h := h.modDma.packetRoute
    .ite_snd (.snd h) (.snd h.dmaCause.setFld))

theorem Canonical.burstLaunch {c : Fin 32} {d : DmaDesc} {b : DmaBurst} (h : Canonical s) : Canonical (burstLaunch s c d b).2 :=
  .ite_snd (.snd h.burstSend) (.ite_snd (
    have h := Canonical.ite_snd_snd (.snd h) h.localRead
    .snd (.burstSend (.ite h.dmaCause h))) (.snd h))

theorem Canonical.burstGrant (h : Canonical s) : Canonical (burstGrant s) := by
  unfold Machine.burstGrant
  refine .ite h ?_
  split
  · exact h
  · split
    · exact h
    · split
      next e => exact (Canonical.of_snd e h.dmaNext).dmaCause
      next e =>
        have ht := Canonical.of_snd e h.dmaNext
        exact .frame (.burstLaunch (.frame ht.modDma))

theorem Canonical.burstMove {c : Fin 32} {d : DmaDesc} {b : DmaBurst} (h : Canonical s) : Canonical (burstMove s c d b).2 :=
  .ite_snd (.snd h) (
    have h := Canonical.ite_snd_snd (.snd h) (.ite_snd_snd h.localRead (.snd h))
    have h := Canonical.burstWrite (.ite h.dmaCause h)
    have h := Canonical.ite h.dmaCause h
    .snd (.ite h.modDma.setFlag h))

theorem Canonical.burstAdvance {d : DmaDesc} {b : DmaBurst} (h : Canonical s) : Canonical (burstAdvance s d b) := by
  unfold Machine.burstAdvance
  split
  · exact
      have h := h.journalAdvance
      .ite h h.ringAdvance
  · exact h

theorem Canonical.burstDone {c : Fin 32} (h : Canonical s) : Canonical (burstDone s c) := by
  unfold Machine.burstDone
  split
  · exact .ite h (
      have h := h.frame.burstMove.modDma.pairAdd.dmaShow
      .ite h.burstAdvance h)
  · exact h

theorem Canonical.dmaWaitBeat (h : Canonical s) : Canonical (dmaWaitBeat s) := h.foldl (fun h => .ite h.count h)

/-! ### Side -/

theorem Canonical.modSide {f : SidePort → SidePort} (h : Canonical s) : Canonical (modSide s f) := h.frame

theorem Canonical.sideBegin {f : SideFrame} (h : Canonical s) : Canonical (sideBegin s f) := by
  unfold Machine.sideBegin
  exact
    have h := h.setFlag
    .modSide (.ite h.setFlag h)

theorem Canonical.sideReply {r : SideReply} (h : Canonical s) : Canonical (sideReply s r) :=
  have h := h.modSide
  .ite h.count h

theorem Canonical.sideAborted (h : Canonical s) : Canonical (sideAborted s) := h.bump.sideReply

theorem Canonical.sideFrame {f : SideFrame} {act : State → SideReply × State} (h : Canonical s) (hact : ∀ {t}, Canonical t → Canonical (act t).2) :
    Canonical (sideFrame s f act) :=
  .ite h (
    have h := h.sideBegin
    .ite h.sideAborted (.sideReply (hact h)))

theorem Canonical.sideNop {bad : Bool} (h : Canonical s) : Canonical (sideNop bad s).2 := .snd h

theorem Canonical.sideReplay (h : Canonical s) : Canonical (sideReplay s).2 := .snd h

theorem Canonical.sidePage {f : SideFrame} (h : Canonical s) : Canonical (sidePage f s).2 := .ite_snd (.snd h.setFld) (.snd h)

theorem Canonical.sideReadAt {a : Nat} (h : Canonical s) : Canonical (sideReadAt s a).2 := by
  unfold Machine.sideReadAt
  extract_lets done
  have hdone {t : State} {code data : Nat} (ht : Canonical t) : Canonical (done t code data).2 := .snd ht.modSide
  split
  · exact .snd h
  · split
    · exact hdone h.regRead
    · refine .ite_snd (.snd h) (.ite_snd (.snd h) ?_)
      split
      next e => exact .ite_snd (hdone (h.of_rangeRead e)) (hdone (h.of_rangeRead e))

theorem Canonical.sideRd {f : SideFrame} (h : Canonical s) : Canonical (sideRd f s).2 := .ite_snd (.snd h) h.sideReadAt

theorem Canonical.sideRdn (h : Canonical s) : Canonical (sideRdn s).2 := by
  unfold Machine.sideRdn
  split
  · exact .snd h
  · exact .ite_snd (.snd h) (.ite_snd (.snd h.setFlag) h.sideReadAt)

theorem Canonical.sideRegWrite {a : Nat} {v : Word} (h : Canonical s) : Canonical (sideRegWrite s a v).2 := by
  unfold Machine.sideRegWrite
  split
  · exact .ite_snd (.snd h) (.snd h.regWrite)
  · exact .snd h.regWrite
  · exact .snd h

theorem Canonical.sideWriteAt {a : Nat} {v : Word} (h : Canonical s) : Canonical (sideWriteAt s a v).2 :=
  have h := h.sideRegWrite
  .ite_snd (.snd h.modSide) (.snd h)

theorem Canonical.sideWr {f : SideFrame} (h : Canonical s) : Canonical (sideWr f s).2 := by
  unfold Machine.sideWr
  split
  · exact .snd h
  · exact h.sideWriteAt

theorem Canonical.sideWrn {f : SideFrame} (h : Canonical s) : Canonical (sideWrn f s).2 := by
  unfold Machine.sideWrn
  split
  · exact .snd h
  · split
    · exact .snd h
    · exact .ite_snd (.snd h.setFlag) h.sideWriteAt

theorem Canonical.streamFinish {x : SideStream} (h : Canonical s) : Canonical (streamFinish s x) := .count (.modSide (.ite h.setFlag h))

theorem Canonical.streamBegin {f : SideFrame} {stepping : Bool} {start : State → Option Nat} (h : Canonical s) :
    Canonical (streamBegin s f stepping start) := by
  refine .ite h ?_
  exact
    have h := h.sideBegin
    .ite h.sideAborted (by
      split
      · exact h.sideReply
      · split
        · exact h.sideReply
        · refine .ite h.setFlag.sideReply ?_
          split
          · exact h.sideReply
          · exact .ite h.streamFinish h.modSide)

theorem Canonical.streamDrain (h : Canonical s) : Canonical (streamDrain s) := by
  refine .ite h ?_
  refine .modSide ?_
  refine h.foldl fun h => ?_
  split
  · split
    · exact .ite h.pathWrite h
    · exact h
  · exact h

theorem Canonical.streamWord {w : Nat} {stalled : Bool} (h : Canonical s) : Canonical (streamWord s w stalled) := by
  unfold Machine.streamWord
  split
  · exact h
  · exact
      have h := Canonical.ite h.setFlag h
      have h := Canonical.ite_fst (.fst h) (.fst h.modSide.count)
      have h := Canonical.ite h h.streamDrain
      .ite h.streamFinish h.modSide

theorem Canonical.pewterWrites {l : List (RegKey × Nat)} (h : Canonical s) : Canonical (pewterWrites s l).2 :=
  .foldl_snd (.snd h) (fun h => .snd h.sideRegWrite)

theorem Canonical.pewterRun (h : Canonical s) : Canonical (pewterRun s).2 := h.pewterWrites

theorem Canonical.pewterHalt (h : Canonical s) : Canonical (pewterHalt s).2 := h.pewterWrites

theorem Canonical.pewterClrfail (h : Canonical s) : Canonical (pewterClrfail s).2 := h.pewterWrites

theorem Canonical.pewterStrobe {g : Nat} (h : Canonical s) : Canonical (pewterStrobe s g).2 := h.pewterWrites

theorem Canonical.pewterPut {r v : Nat} (h : Canonical s) : Canonical (pewterPut s r v).2 :=
  .ite_snd (
    have h := Canonical.ite_snd h.pewterRun (.snd h)
    have h := Canonical.ite_snd h.pewterHalt (.snd h)
    .snd (.ite_snd h.pewterClrfail (.snd h))) (.ite_snd h.pewterWrites (.ite_snd h.pewterWrites (.ite_snd (.snd h.modPewter) (.ite_snd
      h.pewterStrobe (.ite_snd h.pewterWrites (.snd h))))))

theorem Canonical.pewterNext (h : Canonical s) : Canonical (pewterNext s) := h.pewterHigh.setFld

theorem Canonical.pewterPhaseError (h : Canonical s) : Canonical (pewterPhaseError s) := h.pewterHigh.modPewter.setFlag

theorem Canonical.pewterAddr {f : SideFrame} (h : Canonical s) : Canonical (pewterAddr f s).2 := by
  unfold Machine.pewterAddr
  split
  · exact .snd h
  · exact .ite_snd (.snd h) (.snd h.pewterHigh.setFld)

theorem Canonical.pewterWrb {f : SideFrame} (h : Canonical s) : Canonical (pewterWrb f s).2 := by
  unfold Machine.pewterWrb
  split
  · exact .snd h
  · exact
      have h := Canonical.ite h.pewterPhaseError h
      by
        dsimp only
        split
        · exact .snd h.modPewter.setFlag.count
        · exact .snd h.pewterNext.pewterPut.count

theorem Canonical.pewterRdb (h : Canonical s) : Canonical (pewterRdb s).2 := by
  unfold Machine.pewterRdb
  split
  · exact .snd h
  · exact
      have h := Canonical.ite h.pewterPhaseError h
      by
        dsimp only
        split
        · exact .snd (.count (.setFlag (.modPewter (.ite h.modPewter h))))
        · exact .snd h.pewterNext.count

theorem Canonical.whileOpen {f : State → Nat × State} (h : Canonical s) (hf : ∀ {t}, Canonical t → Canonical (f t).2) : Canonical (whileOpen s f) :=
  .ite (hf h) h

/-! ### Replay records -/

theorem Canonical.replayNext (h : Canonical s) : Canonical (replayNext s).2.2 := by
  unfold Machine.replayNext
  extract_lets rp
  refine .ite_snd_snd (.snd h) ?_
  split
  next e => exact .snd (h.of_rangeRead e)

theorem Canonical.replayTaken {beat : Nat} (h : Canonical s) : Canonical (replayTaken s beat) := h.setFld.modRpl

theorem Canonical.replayRegWrite {r : JRecord} (h : Canonical s) : Canonical (replayRegWrite s r) := by
  unfold Machine.replayRegWrite
  dsimp only
  split
  · exact h
  · exact .ite h h.regApply

theorem Canonical.replayAdvance {lines : Nat} (h : Canonical s) : Canonical (replayAdvance s n lines) := .ite h h.ringAdvance

theorem Canonical.advancesDue (h : Canonical s) : Canonical (advancesDue s) := .ite h (h.modRpl.foldl (·.replayAdvance))

theorem Canonical.replayLatch {input : SeqInput} {value : Nat} (h : Canonical s) : Canonical (replayLatch s n input value) := .ite h h.seqLatch

theorem Canonical.replayVerdicts {r : JRecord} (h : Canonical s) : Canonical (replayVerdicts s r) := h.foldl (·.replayLatch)

theorem Canonical.replayImport {r : JRecord} (h : Canonical s) : Canonical (replayImport s r) := by
  unfold Machine.replayImport
  split
  · exact h.holdFinish.eachSlice (fun h => .ite h.replayLatch h)
  · exact h.holdBegin
  · exact h.holdFinish
  · exact h

theorem Canonical.replayHold {r : JRecord} (h : Canonical s) : Canonical (replayHold s r) := .ite h.holdFinish h.holdBegin

theorem Canonical.replayResult {r : JRecord} (h : Canonical s) : Canonical (replayResult s r) := by
  unfold Machine.replayResult
  dsimp only
  split
  · exact h
  · exact .ite h.cmprTake h.cmprTake

theorem Canonical.replayMatch {r : JRecord} (h : Canonical s) : Canonical (replayMatch s r) := .ite h.modVec h

theorem Canonical.replayBarrier {r : JRecord} (h : Canonical s) : Canonical (replayBarrier s r) := h.modKtl.barrierRelease

theorem Canonical.replayGuard {r : JRecord} (h : Canonical s) : Canonical (replayGuard s r) :=
  .ite (.afterRelease (h.setFlag.eachPin (·.setFlag))) h.guardEntrySlice

theorem Canonical.replayTrip {r : JRecord} (h : Canonical s) : Canonical (replayTrip s r) := by
  unfold Machine.replayTrip
  split
  · exact h.txTrip
  · exact h.ffTrip
  · exact h.pinTrip
  · exact h

theorem Canonical.replayTrigger {r : JRecord} (h : Canonical s) : Canonical (replayTrigger s r) := h.modTrg.trgEdge

theorem Canonical.replaySwitchDone {w : SwitchInput} (h : Canonical s) : Canonical (replaySwitchDone s w) := .ite h h.modRpl.calSwitch

theorem Canonical.replaySwitch {r : JRecord} (h : Canonical s) : Canonical (replaySwitch s r) := h.modRpl.replaySwitchDone

theorem Canonical.replayWords {r : JRecord} (h : Canonical s) : Canonical (replayWords s r) := by
  unfold Machine.replayWords
  split
  · exact h
  · exact h.modRpl.replaySwitchDone

theorem Canonical.replayEpoch (h : Canonical s) : Canonical (replayEpoch s) := h.modChn.epochApply.modRpl

theorem Canonical.replayFault {r : JRecord} (h : Canonical s) : Canonical (replayFault s r) := .ite h.replayEnd (.ite h.contain h)

theorem Canonical.replayStore {r : JRecord} {beat : Nat} (h : Canonical s) : Canonical (replayStore s r beat) := by
  unfold Machine.replayStore
  split
  · exact
      have h := h.modRpl
      .ite h h.diverge
  · exact h.diverge

theorem Canonical.replayImage {r : JRecord} {beat : Nat} (h : Canonical s) : Canonical (replayImage s r beat) := .ite h h.diverge

theorem Canonical.replayAct {r : JRecord} {beat : Nat} (h : Canonical s) : Canonical (replayAct s r beat) :=
  .ite h.replayEnd (.ite h.replayEpoch (.ite h.setWheelState (.ite h.replayRegWrite (.ite h.replayStore (.ite h.modRpl.advancesDue (.ite
    h.replayVerdicts (.ite h.replayImport (.ite h.replayHold (.ite h.replayTrigger (.ite h.replayBarrier (.ite h.replayGuard (.ite h.replayTrip
    (.ite h.replayFault (.ite h.replaySwitch (.ite h.replayWords (.ite h.replayResult (.ite h.replayMatch (.ite h.modRpl h))))))))))))))))))

theorem Canonical.replayRecord (h : Canonical s) : Canonical (replayRecord s) := by
  unfold Machine.replayRecord
  refine .ite h ?_
  split
  · exact h
  next e => exact (Canonical.of_snd_snd e h.replayNext).replayEnd
  next e =>
    have ht := Canonical.of_snd_snd e h.replayNext
    exact .ite ht.replayTaken (.ite ht.replayTaken.replayImage (.ite ht.replayTaken (.ite h (.ite h.replayEnd ht.replayTaken.replayAct))))

/-! ### Beat -/

theorem Canonical.beatEnds (h : Canonical s) : Canonical (beatEnds s) :=
  .foldl (.dmaWaitBeat (.foldl (h.eachSlice (·.seqBeat)) (·.storeBeat))) (·.creditWaitBeat)

theorem Canonical.beatCounts (h : Canonical s) : Canonical (beatCounts s) := h.frame

theorem Canonical.haltUpkeep (h : Canonical s) : Canonical (haltUpkeep s n) := .ite (.ite h.frame h) (.ite h h.frame)

theorem Canonical.sliceOpens (h : Canonical s) : Canonical (sliceOpens s n) := h.modSeq.overrunBeat.ffEach (·.ffBeat)

theorem Canonical.sliceUnits (h : Canonical s) : Canonical (sliceUnits s n) := by
  unfold Machine.sliceUnits
  exact .haltUpkeep (.ccReleaseDue (.ccAdvance (.madResume (.madSample (h.ffEach (·.ffCheckStart))))))

theorem Canonical.centralUnits (h : Canonical s) : Canonical (centralUnits s) :=
  have h := h.invDiscipline.invSlew.todAdvance.ditherBeat.lossBeat.injectBeat.mgtBeat
  .bootLateJoin (.joinSend (.serviceBeat (.imgAbortBeat (.ite h.streamDrain h))))

theorem Canonical.beatAdvance {overrange : BitVec 32} (h : Canonical s) : Canonical (beatAdvance s overrange) :=
  .centralUnits (.eachSlice (.rxBeat (.txBeat (.verdictBeat (.foldl (.trgMargins (.trgCalDrive (.eachSlice
    (h.beatEnds.txLatch.beatCounts.journalBeat.chainSlew.epochApply.advancesDue.eachSlice (·.sliceOpens)) (·.eventsBeat)))) (·.trgEffect)))))
    (·.sliceUnits))

/-! ### Every command -/

/-- Whatever the command, what it answers from a state in canonical form is in canonical form. -/
theorem exec_canonical (i : Instr) (h : Canonical s) : Result.Canonical (exec i s) := by
  cases i with
  | poresetAssert => exact h.superviseTo
  | poresetDeassert => exact h.superviseTo
  | railUndervoltage => exact h.superviseTo
  | railRestored => exact h.superviseTo
  | thermalTrip => exact h.superviseTo
  | thermalRecover => exact h.superviseTo
  | invarLock => exact .ite h (.frame h.setFlag)
  | xtalFail => exact .ite h h.setFlag.bootHeld
  | beatBoundary => exact .ite h (.frame h.beatAdvance)
  | beatOverrun => exact h.execBeatOverrun
  | regWrite => exact h.awake (·.regWrite)
  | pairLowRead => exact h.execPairLowRead
  | pairLowWrite => exact h.execPairLowWrite
  | pairHighWrite => exact h.execPairHighWrite
  | counterClear => exact h.execCounterClear
  | storeAccess => exact h.storeCycle
  | scrubStep => exact h.scrubStep
  | wheelStart => exact h.wheelStart
  | wheelRunning => exact h.wheelRunning
  | wheelStop => exact h.wheelStop
  | wheelStopped => exact h.wheelStopped
  | wheelCommit => exact h.wheelCommit
  | mapCopy => exact h.mapCopy
  | storePwrReq => exact h.storePowerRequest
  | storePwrSettled => exact h.storePowerSettled
  | storeWakeDone => exact h.storeWakeDone
  | imgCheck => exact h.imgGo
  | imgReload => exact h.imgGo
  | imgFull => exact h.imgGo
  | imgAbort => exact h.imgAbort
  | imgCheckDone => exact h.imgChecked
  | imgFullEnd => exact h.fullEnd
  | reloadDrain => exact h.reloadDrain
  | reloadIsolate => exact h.reloadIsolate
  | reloadLoad => exact h.reloadLoad
  | reloadVerify => exact h.reloadVerify
  | reloadReady => exact h.reloadReady
  | reloadRejoin => exact h.reloadRejoin
  | reloadLate => exact h.reloadLate
  | nop => exact h.seqIssueNow
  | halt => exact h.seqIssueNow
  | jump => exact h.seqIssueNow
  | call => exact h.seqIssueNow
  | ret => exact h.seqIssueNow
  | loop => exact h.seqIssueNow
  | endloop => exact h.seqIssueNow
  | wait => exact h.seqIssueNow
  | waitExpire => exact h.execWaitExpire
  | waita => exact h.seqIssueNow
  | waitaReached => exact h.execWaitaReached
  | waitv => exact h.seqIssueNow
  | waitvResolve => exact h.execWaitvResolve
  | waitvTimeout => exact h.execWaitvTimeout
  | sync => exact h.seqIssueNow
  | syncResolve => exact h.execSyncResolve
  | syncTimeout => exact h.execSyncTimeout
  | idle => exact h.seqIssueNow
  | idleExpire => exact h.execIdleExpire
  | elastic => exact h.seqIssueNow
  | elasticResolve => exact h.execElasticResolve
  | elasticExpired => exact h.execElasticExpired
  | emit => exact h.seqIssueNow
  | emitl => exact h.seqIssueNow
  | branch => exact h.seqIssueNow
  | branchResolve => exact h.execBranchResolve
  | branchTimeout => exact h.execBranchTimeout
  | cmpr => exact h.seqIssueNow
  | cmprResolve => exact h.execCmprResolve
  | cmprTimeout => exact h.execCmprTimeout
  | clrv => exact h.seqIssueNow
  | seqRun => exact h.seqRun
  | seqFirstIssue => exact .ite h.seqFetchedNow h
  | seqHalt => exact h.seqHalt
  | seqStep => exact h.seqStep
  | clrNew => exact h.seqClrNew
  | seqPcWrite => exact h.seqPcWrite
  | verdictLatch => exact h.verdictLatch
  | vecStart => exact h.coreEvent (·.vecEvent)
  | vecBreak => exact h.coreEvent (·.vecEvent)
  | vecHalt => exact .ite (h.coreDo (·.vecEvent)) (h.coreEvent (·.vecEvent))
  | vectorBoundary => exact h.vectorBoundary
  | windowOpen => exact h.coreEvent (·.vecEvent)
  | windowClose => exact h.coreEvent (·.vecEvent)
  | pinSummaryVerdict => exact h.pinSummaryVerdict
  | fcMark => exact h.coreEvent (·.vecEvent)
  | fcReset => exact h.coreDo (·.fcReset)
  | ringWpAdvance => exact h.awake (·.regWrite)
  | tsetWrite => exact h.execTsetWrite
  | loadEnable => exact h.analogDo (·.loadEnable)
  | pmuSwitchDone => exact h.pmuSwitchDone
  | pmuModeChange => exact h.pmuModeChange
  | pmuForceResume => exact h.pmuForceResume
  | guardInRise => exact h.guardInRise
  | guardEntry => exact .ite h h.guardEntry
  | guardInFall => exact h.guardInFall
  | guardDebounceEnd => exact h.guardDebounceEnd
  | pinRelease => exact h.analogDo (·.pinRelease)
  | ccStart => exact h.analogDo (·.ccStart)
  | ccEnd => exact h.ccEnd
  | ccAbort => exact h.ccAbort
  | toneSegment => exact h.coreEvent (·.toneSegment)
  | toneZero => exact h.coreEvent (·.toneZeroEvent)
  | rampdownEnd => exact .ite h.toneNatural h
  | toneTrack => exact h.coreEvent (·.toneTrack)
  | tonePhase => exact h.coreEvent (·.tonePhase)
  | segmentBoundary => exact .ite h.toneNatural h
  | markerListAction => exact h.markAct
  | markerLow => exact h.coreEvent (·.markForce)
  | markerHigh => exact h.coreEvent (·.markForce)
  | markerList => exact h.coreEvent (·.markForce)
  | toneFlush => exact h.coreDo (·.toneFlush)
  | toneEntryWrite => exact h.awake (·.regWrite)
  | txEnable => exact h.analogDo (·.txEnable)
  | txWakeDone => exact .ite h.setFld h
  | txDisable => exact h.txDisable
  | txMute => exact h.analogEvent (·.txCause)
  | txUnmute => exact h.analogEvent (·.txCause)
  | trackRetune => exact h.coreDo (·.trackRetune)
  | trackRebase => exact h.coreDo (·.trackRebase)
  | trackAccRead => exact h.trackAccRead
  | rxEnable => exact h.analogDo (·.rxEnable)
  | rxWakeDone => exact .ite h.setFld h
  | rxDisable => exact h.rxDisable
  | rxSettleEnd => exact .ite h.setFlag h
  | binTrigger => exact h.coreEvent (·.binTrigger)
  | binCancel => exact h.coreEvent (·.binCancel)
  | binWindowEnd => exact h.binWindowEnd
  | discriminate => exact h.discriminate
  | binResult => exact h.binResult
  | wramWrite => exact h.awake (·.regWrite)
  | dmxResultRead => exact h.awake (·.keyRead)
  | acqArm => exact h.acqEvent (·.acqArm)
  | acqTrigger => exact h.acqEvent (·.acqTrigger)
  | acqStop => exact h.acqEvent (·.acqStopAll)
  | acqItem => exact h.acqItem
  | prefillDone => exact h.prefillDone
  | acqSegmentEnd => exact h.acqSegmentEnd
  | acqStreamFree => exact h.acqFree
  | verdictReady => exact h.verdictReady
  | verdictMsgReceive => exact h.frame.messageReceive
  | importDeliver => exact h.importDeliver
  | holdOnset => exact h.holdOnset
  | holdEnd => exact h.holdEnd
  | ffCode => exact h.analogEvent (·.ffCode)
  | ffSpan => exact h.analogEvent (·.ffSpan)
  | ffHiz => exact h.analogEvent (·.ffHiz)
  | ffSequenceEnd => exact h.ffSequenceEnd
  | ffLimitAct => exact h.ffLimitAct
  | ffCheckConversion => exact h.ffCheckConversion
  | ffLimitRelease => exact h.ffLimitRelease
  | ffCheckDeadline => exact h.ffCheckDeadline
  | ffShortClear => exact h.ffShortClear
  | madTrigger => exact h.analogEvent (·.madTrigger)
  | madAbort => exact h.analogEvent (·.madAbort)
  | madConversionEnd => exact h.madConversionEnd
  | madRepeatStart => exact h.madRepeatStart
  | selfcal => exact h.analogDo (·.madSelfcal)
  | selfcalEnd => exact h.madSelfcalEnd
  | syscal => exact h.analogDo (·.madSyscal)
  | syscalEnd => exact h.madSyscalEnd
  | applyf => exact h.madApplyf
  | factorApply => exact h.madFactorApply
  | madResLoRead => exact h.madReadLo
  | madResHiRead => exact h.madReadHi
  | madDisable => exact h.madDisable
  | tdcArm => exact h.analogEvent (·.tdcArm)
  | tdcDisarm => exact h.analogEvent (·.tdcIdle)
  | tdcGate => exact h.analogEvent (·.tdcGate)
  | tdcEdge => exact h.tdcEdge
  | tdcStopExpire => exact h.tdcStopExpire
  | tdcIntervalOvf => exact h.tdcOverflow
  | tdcGateClose => exact h.tdcGateClose
  | tdcResultEnqueue => exact h.tdcEnqueue
  | tdcServoRef => exact h.setFlag
  | tdcResultRead => exact h.tdcTake
  | tdcDisable => exact h.tdcDisable.disRecord
  | invRefLoss => exact h.invRefLoss
  | invRefRestore => exact h.invRefRestore
  | invDiscLock => exact .ite h.setFlag h
  | chainFrameTx => exact h.chainTx
  | chainFrameRx => exact h.chainRx
  | chainReturnTurn => exact h.returnTurn
  | chainReturnStamp => exact h.returnStamp
  | chainAverage => exact h.chainAverage
  | chainHoldover => exact h.chnHoldover
  | chainRoleWrite => exact h.chnRoleWrite.driveLines
  | realign => exact h.chnRealign
  | epoch => exact h.epochAsk
  | epochApply => exact h.epochApply
  | trgDriveWrite => exact h.trgDriveWrite
  | trgTinForward => exact h.tinForward
  | trgTransition => exact h.trgTransition
  | trgEdgeEffect => exact h.trgEffect
  | trgCal => exact h.trgCal
  | trgCalStart => exact h.trgCalStart
  | trgCalEnd => exact h.trgCalEnd
  | trgPosWrite => exact h.trgPosWrite
  | ktlTrainBlock => exact h.trainBlock
  | ktlPortUp => exact h.portUp
  | ktlPortDown => exact h.portDown
  | ktlRetrain => exact h.portRetrain
  | ktlFlitTx => exact h.flitTx
  | ktlFlitRx => exact h.flitRx
  | linkNoticeRx => exact h.wordTaken.noticeTake
  | discover => exact h.discover
  | discRx => exact h.maintTaken.discTake
  | discReportRx => exact .reportTake (h.foldl (·.maintTaken))
  | topoFloodRx => exact h.maintTaken.topoTake
  | ktlCommit => exact h.ktlCommit
  | join => exact h.joinAsk
  | joinRx => exact h.maintTaken.joinTake
  | routeFailover => exact h.routeFailover
  | routeRestore => exact h.routeRestore
  | unreachDeclare => exact h.unreachDeclare
  | fabricPacketRx => exact h.fabricPacket
  | barrierComplete => exact h.barrierComplete
  | barrierArriveRx => exact h.wordTaken.barrierArriveTake
  | barrierReleaseRx => exact h.wordTaken.barrierReleaseTake
  | barrierAbortRx => exact h.wordTaken.barrierAbortTake
  | barrierRelease => exact .ite h h.barrierRelease
  | hostFrameRx => exact h.execHostFrameRx
  | hostLinkUp => exact h.hostLinkRise
  | hostLinkDown => exact h.hostLinkFall
  | connect => exact h.execConnect
  | disconnect => exact h.execDisconnect
  | ack => exact h.execAck
  | regRd => exact h.requestTake
  | regWr => exact h.requestTake
  | memRd => exact h.requestTake
  | memWr => exact h.requestTake
  | tunnelCompletion => exact h.tunnelCompletion
  | tunnelTimeout => exact h.tunnelTimeout
  | completionSend => exact h.completionSend
  | ctpRto => exact h.execCtpRto
  | ctpAckTimer => exact h.execCtpAckTimer
  | eventPacketSend => exact .ite h h.frame.modHost
  | evtRd0Read => exact h.evtTake
  | todLatch => exact h.todLatch
  | todStep => exact h.todStep
  | ptpMessage => exact h.execPtpMessage
  | dmaStart => exact h.dmaStart
  | dmaAbort => exact h.dmaAbort
  | dmaFlush => exact h.dmaFlush
  | clrBuserr => exact h.setFlag
  | dmaBurstGrant => exact h.burstGrant
  | dmaBurstDone => exact h.burstDone
  | dmaDescEnd => exact .ite h.dmaEnd h
  | dmaBusError => exact h.execDmaBusError
  | nopFrame => exact h.sideFrame (·.sideNop)
  | replayRead => exact h.sideFrame (·.sideReplay)
  | page => exact h.sideFrame (·.sidePage)
  | rd => exact h.sideFrame (·.sideRd)
  | rdn => exact h.sideFrame (·.sideRdn)
  | wr => exact h.sideFrame (·.sideWr)
  | wrn => exact h.sideFrame (·.sideWrn)
  | strm => exact h.streamBegin
  | strmn => exact h.streamBegin
  | streamWord => exact h.streamWord
  | pwAddr => exact h.sideFrame (·.pewterAddr)
  | pwWrb => exact h.sideFrame (·.pewterWrb)
  | pwRdb => exact h.sideFrame (·.pewterRdb)
  | pwRun => exact h.whileOpen (·.pewterRun)
  | pwHalt => exact h.whileOpen (·.pewterHalt)
  | pwClrfail => exact h.whileOpen (·.pewterClrfail)
  | pwStrobe => exact h.whileOpen (·.pewterStrobe)
  | pewterOpen => exact h.regWrite
  | pewterClose => exact h.regWrite
  | accGo => exact h.accGo
  | accAbort => exact h.accAbort
  | accFrameEnd => exact h.accEnd
  | domainOffReq => exact h.domainOffReq
  | domainOnReq => exact h.domainOnReq
  | domainDrainEnd => exact h.domainDrainEnd
  | domainDrainTimeout => exact h.domainDrainTimeout
  | domainOff => exact h.domainOff
  | domainWakeDone => exact h.domainWakeDone
  | admissionGrant => exact h.admissionGrant
  | budgetWrite => exact h.budgetWrite
  | pwrMeasBlock => exact h.pwrMeasBlock
  | txGovTrip => exact h.txGovTrip
  | ffGovTrip => exact h.ffGovTrip
  | pinGovTrip => exact h.pinGovTrip
  | govRearm => exact h.govRearm
  | calBlockComplete => exact .ite h (.ite h.setFlag.blockDone h.setFlag)
  | calDitherStep => exact h.execCalDitherStep
  | calDitherStepEnd => exact h.execCalDitherStepEnd
  | stage => exact h.calStage
  | stageAt => exact h.calStageAt
  | cancel => exact h.clearPend
  | calGapApply => exact .ite h.calSwitchStaged h
  | calNamedApply => exact .ite h.calSwitchStaged h
  | calAgeTick => exact .ite (h.frame.foldl (·.ageOne)) h
  | fgStart => exact h.fgStart
  | fgAbort => exact h.fgStop
  | fgEnd => exact h.execFgEnd
  | save => exact h.saveKinds
  | vaultSaveEnd => exact h.vaultSaveEnd
  | faultReport => exact h.faultReport
  | fltAck => exact h.foldl (·.ackClass)
  | selfTestStart => exact h.selfTestStart
  | selfTestResult => exact h.selfTestResult
  | selfTestTimeout => exact h.selfTestTimeout
  | recover => exact h.recover
  | safe => exact h.raise
  | inject => exact h.inject
  | recoveryStart => exact h.recoveryStart
  | recoveryEnd => exact h.recoveryEnd
  | journalEnable => exact h.journalEnable
  | journalDisable => exact h.journalDisable
  | journalPartialFlush => exact h.journalPartial
  | flush => exact h.journalFlush
  | journalSpill => exact h.journalSpill
  | replay => exact h.replayAsk
  | replayStart => exact h.replayStart
  | replayRecord => exact h.replayRecord
  | replayStarved => exact .ite h.replayEnd h
  | stop => exact h.replayEnd
  | bootPhaseAdvance => exact h.awake (·.bootAdvance)
  | tryFw => exact h.awake (·.tryFw)
  | confirm => exact h.awake (·.confirmFw)
  | commitSecver => exact h.awake (·.commitSecver)
  | setImg => exact h.awake (·.setImg)
  | runGo => exact h.awake (·.runGo)
  | runGoSeqWrite => exact h.runGoSeq
  | flashRead => exact h.awake (·.flashGo)
  | flashErase => exact h.awake (·.flashGo)
  | flashWrite => exact h.awake (·.flashGo)
  | flashOpEnd => exact h.awake (·.flashEnd)
  | keyWrite => exact h.awake (·.keyWrite)
  | lockKey => exact h.awake (·.lockKey)
  | revoke => exact h.awake (·.revoke)
  | mgtHalt => exact h.awake (·.mgtHalt)
  | mgtRestart => exact h.awake (·.mgtRestart)
  | swap => exact h.awake (·.swap)
  | swapQuiesceTimeout => exact h.awake (·.swapTimeout)
  | wdogKick => exact h.wdogKick
  | wdogExpire => exact h.wdogExpire
  | mgtLoadBlock => exact h.loadBlock
  | info => exact h.serviceTake
  | serviceSwap => exact h.serviceTake
  | serviceSave => exact h.serviceTake
  | fgAll => exact h.serviceTake
  | bypass => exact h.tapBypass
  | idcode => exact h.modTap
  | samplePreload => exact h.tapBoundary
  | extest => exact h.tapDriving (·.tapBoundary)
  | clamp => exact h.tapDriving (·.tapBypass)
  | highz => exact h.tapDriving (·.tapBypass)
  | extestPulse => exact h.tapDriving (·.tapBoundary)
  | extestTrain => exact h.tapDriving (·.tapBoundary)
  | clkInLock => exact h.chnClkLock
  | dmaRemoteTimeout => exact .ite h.frame.dmaCause.setFld h
  | dieLinkSound => exact h.modFlt
  | periodicVaultSave => exact .ite h.saveKinds h

theorem step_canonical (h : Canonical s) : Result.Canonical (step s) := by
  unfold step
  split
  · exact h
  · exact exec_canonical _ h.frame

end

/-- Settles O58: every command keeps the form (`exec_canonical`), and a step is a command on the state with a shorter queue. -/
theorem canonicalKept : Obligations.CanonicalKept := by
  unfold Obligations.CanonicalKept
  intro s t hs ht
  have h : Result.Canonical (step s) := step_canonical ((State.canonical_iff s).1 hs)
  rw [ht] at h
  exact (State.canonical_iff t).2 h

/-- Settles O2: every arm of `exec` answers a next state. -/
theorem everyCommandGoesOn : Obligations.EveryCommandGoesOn := by
  unfold Obligations.EveryCommandGoesOn
  intro c s
  cases c <;> exact ⟨_, rfl⟩

/-- Settles O3: after reset every list of the register file and of the stores is empty. -/
theorem canonicalAtReset : Obligations.CanonicalAtReset :=
  (State.canonical_iff State.reset).2 Canonical.reset

end Sys2Proof.Machine

namespace Sys2Proof.Machine

/-- A waiting command leaves the queue before it runs: it sees only the commands behind it. -/
theorem step_of_pending_cons {s : State} {c : Instr} {l : List Instr} (h : s.pending = c :: l) :
    step s = exec c { s with pending := l } := by
  rw [step, h]

theorem step_of_pending_nil {s : State} (h : s.pending = []) : step s = .next s := by
  rw [step, h]

/-- Settles O1: the two branches of `step`, by whether a command waits. -/
theorem stepRunsFront : Obligations.StepRunsFront := by
  unfold Obligations.StepRunsFront
  constructor
  · intro s c l hfront
    exact step_of_pending_cons hfront
  · intro s hidle
    exact step_of_pending_nil hidle

end Sys2Proof.Machine

namespace Sys2Proof.Machine

/-! ## The slot wheel (R40 to R52)

Every command of the wheel but MAP_COPY ends in `setWheelState` or in one field of SLC_WHEEL_STATUS, over a change of the wheel's ticks. -/

section
variable {s t : State} {n : Fin 16} {l : List Part}

/-! ### What a list of parts lets change -/

theorem holdsFld.of_mem_index {f : Field} {i : Nat} (h : f.part [i] ∈ l) : holdsFld l f i 0 0 0 :=
  ⟨f.part [i], h, rfl, by simp [Field.part, List.isPrefixOf], Nat.le_refl _, Nat.le_refl _⟩

@[simp] theorem State.fld_journal (s : State) (type src index data : Nat) (f : Field) (i j k m : Nat) :
    (s.journal type src index data).fld f i j k m = s.fld f i j k m := by
  unfold State.journal
  split <;> rfl

theorem sameRegs.modWheel (h : sameRegs l s t) (f : Wheel → Wheel) : sameRegs l s (modWheel t n f) := h.modSl n _

theorem sameBytes.modWheel (h : sameBytes s t) (f : Wheel → Wheel) : sameBytes s (modWheel t n f) := h.modSl n _ fun _ => rfl

@[simp] theorem fld_modWheel (s : State) (n : Fin 16) (f : Wheel → Wheel) (g : Field) (i j k m : Nat) :
    (modWheel s n f).fld g i j k m = s.fld g i j k m := rfl

@[simp] theorem wheel_modWheel (s : State) (n : Fin 16) (f : Wheel → Wheel) : ((modWheel s n f).sl n).wheel = f (s.sl n).wheel := by
  simp [modWheel]

/-! ### SLC_WHEEL_STATUS.STATE -/

theorem wheelState_setWheelState (s : State) (n : Fin 16) {v : Nat} (hv : v < 4) : wheelState (setWheelState s n v) n = v := by
  rw [wheelState, setWheelState, State.fld_setFld_same _ _ _ _ _ _ _ (by decide)]
  exact Nat.mod_eq_of_lt hv

@[simp] theorem sl_setWheelState (s : State) (n : Fin 16) (v : Nat) (m : Fin 16) : (setWheelState s n v).sl m = s.sl m := rfl

theorem sameRegs.setWheelState (h : sameRegs l s t) (v : Nat) (hm : F.SLC_WHEEL_STATUS_STATE.part [n.val] ∈ l) :
    sameRegs l s (setWheelState t n v) :=
  h.setFld _ _ _ _ _ _ (.of_mem_index hm)

theorem sameBytes.setWheelState (h : sameBytes s t) (v : Nat) : sameBytes s (setWheelState t n v) := h.setFld _ _ _ _ _ _

/-- What a command that moves the wheel to state `v` leaves as it was: every register but STATE, and memory. -/
theorem setWheelState_modWheel_frame (s : State) (n : Fin 16) (f : Wheel → Wheel) (v : Nat) :
    sameRegs [F.SLC_WHEEL_STATUS_STATE.part [n]] s (setWheelState (modWheel s n f) n v) ∧
      sameBytes s (setWheelState (modWheel s n f) n v) :=
  ⟨((sameRegs.refl _ s).modWheel f).setWheelState v (.head _), ((sameBytes.refl s).modWheel f).setWheelState v⟩

/-! ### The commands -/

/-- START with no named beat (R52). -/
theorem wheelStart_default (hs : wheelState s n = 0) (hu : s.fld F.SLC_WHEEL_CTRL_USE_START_BEAT n = 0) :
    wheelStart s n = setWheelState (modWheel s n fun w => { w with startAt := s.now + (wheelBoundary (s.beat + 2) - s.beat) }) n 1 := by
  simp [wheelStart, hs, hu]

/-- START at a named wheel boundary that lies two beats ahead or more (R52). -/
theorem wheelStart_named (hs : wheelState s n = 0) (hu : s.fld F.SLC_WHEEL_CTRL_USE_START_BEAT n = 1)
    (hb : s.pair .SLC_WHEEL_START_LO .SLC_WHEEL_START_HI n % 16 = 0)
    (hn : s.beat + 2 ≤ s.pair .SLC_WHEEL_START_LO .SLC_WHEEL_START_HI n) :
    wheelStart s n = setWheelState (modWheel s n fun w =>
      { w with startAt := s.now + (s.pair .SLC_WHEEL_START_LO .SLC_WHEEL_START_HI n - s.beat) }) n 1 := by
  simp [wheelStart, hs, hu, hb, hn]

theorem wheelRunning_of_due (hs : wheelState s n = 1) (hd : (s.sl n).wheel.startAt ≤ s.now) :
    wheelRunning s n = (setWheelState s n 2).journal JType.ANCHOR n.val n.val 0 := by
  simp [wheelRunning, hs, hd]

theorem wheelStop_of_running (hs : wheelState s n = 2) :
    wheelStop s n = setWheelState (modWheel s n fun w => { w with stopAt := s.now + (wheelBoundary (s.beat + 1) - s.beat) }) n 3 := by
  simp [wheelStop, hs]

theorem wheelStopped_of_due (hs : wheelState s n = 3) (hd : (s.sl n).wheel.stopAt ≤ s.now) : wheelStopped s n = setWheelState s n 0 := by
  simp [wheelStopped, hs, hd]

/-! ### The copy of the shadow map (R45, R46) -/

/-- COMMIT_PEND clears at the wheel boundary, whether the map is taken or refused. -/
theorem mapCopy_of_due (hp : s.fld F.SLC_WHEEL_STATUS_COMMIT_PEND n = 1) (hd : (s.sl n).wheel.copyAt ≤ s.now) :
    mapCopy s n =
      if mapRefused (s.setFld F.SLC_WHEEL_STATUS_COMMIT_PEND 0 n) n (shadowMap s n) then
        (s.setFld F.SLC_WHEEL_STATUS_COMMIT_PEND 0 n).setFld F.SLC_WHEEL_STATUS_MAP_ERR 1 n
      else setActiveMap (s.setFld F.SLC_WHEEL_STATUS_COMMIT_PEND 0 n) n (shadowMap s n) := by
  simp [mapCopy, hp, hd]

/-- A reserved owner code refuses the map. -/
theorem mapRefused_of_reserved {m : Vector (BitVec 4) 64} (i : Fin 64) (h : 5 < (m.get i).toNat) : mapRefused s n m = true := by
  have hmem : m.get i ∈ m.toList := by simp [Vector.get_eq_getElem]
  have : m.toList.any (fun c => decide (5 < c.toNat)) = true := List.any_eq_true.2 ⟨_, hmem, decide_eq_true h⟩
  rw [mapRefused, this, Bool.true_or]

/-- While the store is ON, a map without reserved codes is not refused. -/
theorem mapRefused_eq_false {m : Vector (BitVec 4) 64} (hon : s.storeOn (.slice n) = true) (h : ∀ i, (m.get i).toNat ≤ 5) :
    mapRefused s n m = false := by
  have : m.toList.any (fun c => decide (5 < c.toNat)) = false := by
    refine List.any_eq_false.2 fun c hc => ?_
    obtain ⟨i, hi, rfl⟩ := List.getElem_of_mem hc
    have := h ⟨i, by simpa using hi⟩
    simp only [Vector.get_eq_getElem] at this
    simpa using this
  simp [mapRefused, this, hon]

theorem commitPend_cleared (s : State) (n : Fin 16) :
    (s.setFld F.SLC_WHEEL_STATUS_COMMIT_PEND 0 n).fld F.SLC_WHEEL_STATUS_COMMIT_PEND n = 0 :=
  State.fld_setFld_same _ _ _ _ _ _ _ (by decide)

theorem mapCopy_taken (hp : s.fld F.SLC_WHEEL_STATUS_COMMIT_PEND n = 1) (hd : (s.sl n).wheel.copyAt ≤ s.now)
    (hon : s.storeOn (.slice n) = true) (h : ∀ i, ((shadowMap s n).get i).toNat ≤ 5) :
    mapCopy s n = setActiveMap (s.setFld F.SLC_WHEEL_STATUS_COMMIT_PEND 0 n) n (shadowMap s n) := by
  have hon' : (s.setFld F.SLC_WHEEL_STATUS_COMMIT_PEND 0 n).storeOn (.slice n) = true :=
    (congrArg (· == 0) (State.fld_setFld_reg _ _ _ _ _ _ _ _ _ _ _ _ (by decide))).trans hon
  rw [mapCopy_of_due hp hd, mapRefused_eq_false hon' h, if_neg Bool.false_ne_true]

theorem mapCopy_refused (hp : s.fld F.SLC_WHEEL_STATUS_COMMIT_PEND n = 1) (hd : (s.sl n).wheel.copyAt ≤ s.now) (i : Fin 64)
    (h : 5 < ((shadowMap s n).get i).toNat) :
    mapCopy s n = (s.setFld F.SLC_WHEEL_STATUS_COMMIT_PEND 0 n).setFld F.SLC_WHEEL_STATUS_MAP_ERR 1 n := by
  rw [mapCopy_of_due hp hd, if_pos (mapRefused_of_reserved i h)]

end

/-- Settles O7: a clause for each command, from its equation and the frames of `setWheelState`, `modWheel` and `setFld`. -/
theorem wheelCommands : Obligations.WheelCommands := by
  unfold Obligations.WheelCommands
  refine ⟨fun s n hs hu => ⟨wheelStart s n, rfl, ?_⟩, fun s n b hs hu hp hb hn => ⟨wheelStart s n, rfl, ?_⟩,
    fun s n hs hd => ⟨wheelRunning s n, rfl, ?_⟩, fun s n hs => ⟨wheelStop s n, rfl, ?_⟩,
    fun s n hs hd => ⟨wheelStopped s n, rfl, ?_⟩, fun s n => ⟨wheelCommit s n, rfl, ?_⟩,
    fun s n hp hd hon hm => ⟨mapCopy s n, rfl, ?_⟩, fun s n i hp hd hi => ⟨mapCopy s n, rfl, ?_⟩⟩
  · rw [wheelStart_default hs hu]
    exact ⟨wheelState_setWheelState _ n (by decide), by simp, setWheelState_modWheel_frame s n _ 1⟩
  · subst hp
    rw [wheelStart_named hs hu hb hn]
    exact ⟨wheelState_setWheelState _ n (by decide), by simp, setWheelState_modWheel_frame s n _ 1⟩
  · rw [wheelRunning_of_due hs hd]
    exact ⟨(State.fld_journal ..).trans (wheelState_setWheelState s n (by decide)),
      ((sameRegs.refl _ s).setWheelState 2 (.head _)).journal _ _ _ _, ((sameBytes.refl s).setWheelState 2).journal _ _ _ _⟩
  · rw [wheelStop_of_running hs]
    exact ⟨wheelState_setWheelState _ n (by decide), by simp, setWheelState_modWheel_frame s n _ 3⟩
  · rw [wheelStopped_of_due hs hd]
    exact ⟨wheelState_setWheelState s n (by decide), (sameRegs.refl _ s).setWheelState 0 (.head _), (sameBytes.refl s).setWheelState 0⟩
  · exact ⟨State.fld_setFld_same _ _ _ _ _ _ _ (by decide), by simp [wheelCommit],
      ((sameRegs.refl _ s).modWheel _).setFld _ _ _ _ _ _ (.of_mem_index (.head _)), ((sameBytes.refl s).modWheel _).setFld _ _ _ _ _ _⟩
  · rw [mapCopy_taken hp hd hon hm]
    exact ⟨by simp [setActiveMap], (State.fld_setFld_bits _ _ _ _ _ _ _ _ _ _ _ _ (by decide) (by decide)).trans (commitPend_cleared s n),
      (((sameRegs.refl _ s).setFld _ _ _ _ _ _ (.of_mem_index (.head _))).modWheel _).setFld _ _ _ _ _ _
        (.of_mem_index (.tail _ (.head _))),
      (((sameBytes.refl s).setFld _ _ _ _ _ _).modWheel _).setFld _ _ _ _ _ _⟩
  · rw [mapCopy_refused hp hd i hi]
    exact ⟨rfl, State.fld_setFld_same _ _ _ _ _ _ _ (by decide),
      (State.fld_setFld_bits _ _ _ _ _ _ _ _ _ _ _ _ (by decide) (by decide)).trans (commitPend_cleared s n),
      ((sameRegs.refl _ s).setFld _ _ _ _ _ _ (.of_mem_index (.head _))).setFld _ _ _ _ _ _ (.of_mem_index (.tail _ (.head _))),
      ((sameBytes.refl s).setFld _ _ _ _ _ _).setFld _ _ _ _ _ _⟩

end Sys2Proof.Machine

namespace Sys2Proof.Machine

/-! ## The power of a store (R55 to R58) -/

section
variable {s t : State} {n : Fin 16} {l : List Part}

/-- A field that no listed part touches holds what it held. -/
theorem sameRegs.fld_eq (h : sameRegs l s t) (f : Field) (i j k m : Nat)
    (hl : ∀ b, f.lo ≤ b → b < f.lo + f.width → (l.any fun x => x.covers f.reg [i, j, k, m] b) = false) :
    t.fld f i j k m = s.fld f i j k m := by
  refine Nat.eq_of_testBit_eq fun b => ?_
  simp only [State.fld, bitsAt, Nat.testBit_mod_two_pow, Nat.testBit_shiftRight]
  by_cases hb : b < f.width
  · rw [show (t.rd f.reg i j k m).toNat.testBit (f.lo + b) = (s.rd f.reg i j k m).toNat.testBit (f.lo + b) from
      h f.reg i j k m (f.lo + b) (hl _ (by omega) (by omega))]
  · simp [hb]

/-- A request for ON from RETAIN stands in REQ and begins the wake (R57, R58). -/
theorem storePowerRequest_on_of_retain (hd : s.fld F.PWR_DOM_STATE n = 0) (hp : s.storePower (.slice n) = 1) :
    storePowerRequest s (.slice n) 0 = beginTransition (s.setFld F.SLC_STORE_PWR_REQ 0 n) (.slice n) 0 (some (s.now + 500)) := by
  have hst : (s.setFld F.SLC_STORE_PWR_REQ 0 n).storePower (.slice n) = 1 :=
    (State.fld_setFld_bits _ _ _ _ _ _ _ _ _ _ _ _ (by decide) (by decide)).trans hp
  simp [storePowerRequest, hd, hst]

/-- The transition shows in STATE; REQ keeps the request. -/
theorem fld_req_beginTransition (s : State) (n : Fin 16) (target : Nat) (due : Option Nat) :
    (beginTransition s (.slice n) target due).fld F.SLC_STORE_PWR_REQ n = s.fld F.SLC_STORE_PWR_REQ n :=
  State.fld_setFld_bits _ _ _ _ _ _ _ _ _ _ _ _ (by decide) (by decide)

/-- Whatever REQ held, a request for ON from RETAIN leaves 0 there. -/
theorem fld_req_storePowerRequest_on (hd : s.fld F.PWR_DOM_STATE n = 0) (hp : s.storePower (.slice n) = 1) :
    (storePowerRequest s (.slice n) 0).fld F.SLC_STORE_PWR_REQ n = 0 := by
  rw [storePowerRequest_on_of_retain hd hp, fld_req_beginTransition]
  exact State.fld_setFld_same _ _ _ _ _ _ _ (by decide)

end

/-- Refutes O8: its first clause lets a request for ON from RETAIN change STATE only, and the request is itself written to
SLC_STORE_PWR.REQ (R62). The counterexample is a store that RETAIN was requested of (REQ 1) and that rests there (STATE 1): REQ 1 becomes 0. -/
theorem not_stores : ¬ Obligations.Stores := by
  unfold Obligations.Stores
  rintro ⟨hwake, -⟩
  let s : State := (State.reset.setFld F.SLC_STORE_PWR_REQ 1 0).setFld F.SLC_STORE_PWR_STATE 1 0
  have hdom : s.fld F.PWR_DOM_STATE (0 : Fin 16) = 0 := by decide
  have hpwr : s.storePower (.slice 0) = 1 := by decide
  have hreq : s.fld F.SLC_STORE_PWR_REQ (0 : Fin 16) = 1 := by decide
  obtain ⟨t, hexec, -, -, hregs, -⟩ := hwake s 0 hdom hpwr
  obtain rfl : storePowerRequest s (.slice 0) 0 = t := Host.Outcome.next.inj hexec
  have hstays := hregs.fld_eq F.SLC_STORE_PWR_REQ (0 : Fin 16) 0 0 0 (by decide)
  rw [fld_req_storePowerRequest_on hdom hpwr, hreq] at hstays
  exact absurd hstays (by decide)

end Sys2Proof.Machine

namespace Sys2Proof.Machine

/-! ## The words of the sequencer's instructions (R107 to R109, R115)

A word is a sum of operands, each times the power of two it stands at, in ascending order. An operand is read back by taking the summands
above it away (`bitsAt_add_above`) and shifting out those below it (`bitsAt_add_below`). -/

/-! ### A field of a sum -/

theorem bitsAt_add_above (x y : Nat) {lo w hi : Nat} (h : lo + w ≤ hi) : bitsAt (x + y * 2 ^ hi) lo w = bitsAt x lo w := by
  obtain ⟨d, rfl⟩ := Nat.le.dest h
  have hsum : x + y * 2 ^ (lo + w + d) = x + 2 ^ lo * (2 ^ w * (y * 2 ^ d)) := by
    rw [Nat.pow_add, Nat.pow_add]; ring
  rw [bitsAt_eq, bitsAt_eq, hsum, Nat.add_mul_div_left _ _ (Nat.two_pow_pos _), Nat.add_mul_mod_self_left]

theorem bitsAt_add_below {x y lo w : Nat} (hx : x < 2 ^ lo) (hy : y < 2 ^ w) : bitsAt (x + y * 2 ^ lo) lo w = y := by
  rw [bitsAt_eq, Nat.add_mul_div_right _ _ (Nat.two_pow_pos _), Nat.div_eq_of_lt hx, Nat.zero_add, Nat.mod_eq_of_lt hy]

theorem bitsAt_of_lt {y w : Nat} (hy : y < 2 ^ w) : bitsAt y 0 w = y := by
  rw [bitsAt_eq, Nat.pow_zero, Nat.div_one, Nat.mod_eq_of_lt hy]

theorem testBit_eq_bitsAt (v lo : Nat) : v.testBit lo = decide (bitsAt v lo 1 = 1) := by
  rw [bitsAt_eq, Nat.testBit_eq_decide_div_mod_eq, Nat.pow_one]

theorem bit01_lt (b : Bool) : bit01 b < 2 ^ 1 := by cases b <;> decide

@[simp] theorem decide_bit01_eq_one (b : Bool) : decide (bit01 b = 1) = b := by cases b <;> rfl

theorem opcode_of_add {x : Nat} (hx : x < 2 ^ 120) {op : Nat} (hop : op < 2 ^ 8) : bitsAt (x + op * 2 ^ 120) 120 8 = op :=
  bitsAt_add_below hx hop

/-! ### The operand forms -/

theorem timeoutBits_lt (t : Timeout) : timeoutBits t < 2 ^ 51 := by
  have := bit01_lt t.stop
  simp only [timeoutBits]
  omega

/-- The timeout operands read back from wherever they stand. -/
theorem timeoutAt_add (x y : Nat) (t : Timeout) {lo hi : Nat} (hx : x < 2 ^ lo) (h : lo + 51 ≤ hi) :
    timeoutAt (x + timeoutBits t * 2 ^ lo + y * 2 ^ hi) lo = t := by
  obtain ⟨beats, target, stop⟩ := t
  have hstop := bit01_lt stop
  have hsum : x + timeoutBits ⟨beats, target, stop⟩ * 2 ^ lo
      = x + beats.toNat * 2 ^ lo + target.toNat * 2 ^ (lo + 32) + bit01 stop * 2 ^ (lo + 50) := by
    simp only [timeoutBits, Nat.pow_add]; ring
  have hbeats : x + beats.toNat * 2 ^ lo < 2 ^ (lo + 32) := by
    have := Nat.mul_le_mul_right (2 ^ lo) beats.isLt
    rw [Nat.pow_add]; nlinarith
  have htarget : x + beats.toNat * 2 ^ lo + target.toNat * 2 ^ (lo + 32) < 2 ^ (lo + 50) := by
    have := Nat.mul_le_mul_right (2 ^ (lo + 32)) target.isLt
    rw [show lo + 50 = lo + 32 + 18 by omega, Nat.pow_add 2 (lo + 32)]; nlinarith
  rw [hsum, timeoutAt]
  simp (disch := omega) only [testBit_eq_bitsAt, bitsAt_add_above, bitsAt_add_below, decide_bit01_eq_one, BitVec.ofNat_toNat, BitVec.setWidth_eq]

theorem shortBits_lt (e : EventWord) : shortBits e < 2 ^ 20 := by
  simp only [shortBits]
  omega

theorem longBits_lt (e : EventWord) : longBits e < 2 ^ 40 := by
  simp only [longBits]
  omega

theorem shortEvent_shortBits {e : EventWord} (h : e.shortWf = true) : shortEvent (shortBits e) = e := by
  obtain ⟨long, offset, unit, act, data⟩ := e
  obtain ⟨rfl, hdata⟩ : long = false ∧ data.toNat < 64 := by simpa [EventWord.shortWf] using h
  simp (disch := omega) only [shortEvent, shortBits, Nat.mod_eq_of_lt hdata, bitsAt_add_above, bitsAt_add_below, bitsAt_of_lt, BitVec.ofNat_toNat,
    BitVec.setWidth_eq]

theorem longEvent_longBits {e : EventWord} (h : e.long = true) : longEvent (longBits e) = e := by
  obtain ⟨long, offset, unit, act, data⟩ := e
  obtain rfl : long = true := h
  simp (disch := omega) only [longEvent, longBits, bitsAt_add_above, bitsAt_add_below, bitsAt_of_lt, BitVec.ofNat_toNat, BitVec.setWidth_eq]

theorem packWords_lt {bits : EventWord → Nat} {width : Nat} (hbits : ∀ e, bits e < 2 ^ width) (ws : List EventWord) :
    packWords bits width ws < 2 ^ (width * ws.length) := by
  induction ws with
  | nil => simp [packWords]
  | cons e t ih =>
    rw [packWords, List.length_cons, Nat.mul_add, Nat.mul_one, Nat.pow_add, Nat.mul_comm (2 ^ (width * t.length))]
    have := Nat.mul_le_mul_left (2 ^ width) ih
    have := hbits e
    rw [Nat.mul_succ] at *
    omega

/-- The event words of a packed list read back in their order. -/
theorem map_bitsAt_packWords {bits : EventWord → Nat} {width : Nat} (hbits : ∀ e, bits e < 2 ^ width) (ws : List EventWord) :
    (List.range ws.length).map (fun e => bitsAt (packWords bits width ws) (width * e) width) = ws.map bits := by
  induction ws with
  | nil => rfl
  | cons e t ih =>
    have hhead : bitsAt (packWords bits width (e :: t)) 0 width = bits e := by
      rw [packWords, Nat.mul_comm, bitsAt_add_above _ _ (by omega), bitsAt_of_lt (hbits e)]
    have htail : ∀ i, bitsAt (packWords bits width (e :: t)) (width * (i + 1)) width = bitsAt (packWords bits width t) (width * i) width := by
      intro i
      rw [packWords, bitsAt_eq, bitsAt_eq, Nat.mul_succ, Nat.add_comm (width * i), Nat.pow_add, ← Nat.div_div_eq_div_mul,
        Nat.add_mul_div_left _ _ (Nat.two_pow_pos _), Nat.div_eq_of_lt (hbits e), Nat.zero_add]
    rw [List.length_cons, List.range_succ_eq_map, List.map_cons, List.map_map, Nat.mul_zero, hhead, List.map_cons, ← ih]
    simp only [Function.comp_def, htail]

/-- A word of event words reads back through `decode`, whatever stands above them. -/
theorem map_decode_packWords {bits : EventWord → Nat} {decode : Nat → EventWord} {width k : Nat} {ws : List EventWord} (y : Nat) {hi : Nat}
    (hbits : ∀ e, bits e < 2 ^ width) (hdecode : ∀ e ∈ ws, decode (bits e) = e) (hlen : ws.length = k) (hhi : width * k ≤ hi) :
    (List.range k).map (fun e => decode (bitsAt (packWords bits width ws + y * 2 ^ hi) (width * e) width)) = ws := by
  subst hlen
  have habove : ∀ e ∈ List.range ws.length, decode (bitsAt (packWords bits width ws + y * 2 ^ hi) (width * e) width)
      = decode (bitsAt (packWords bits width ws) (width * e) width) := by
    intro e he
    have := Nat.mul_le_mul_left width (List.mem_range.1 he)
    rw [Nat.mul_succ] at this
    rw [bitsAt_add_above _ _ (by omega)]
  rw [List.map_congr_left habove, ← Function.comp_def decode, ← List.map_map, map_bitsAt_packWords hbits, List.map_map]
  exact (List.map_congr_left hdecode).trans (List.map_id ws)

/-! ### Words and bytes -/

theorem emitWf_iff {ws : List EventWord} : emitWf ws = true ↔ ws.length = 6 ∧ ∀ e ∈ ws, e.shortWf = true := by
  simp [emitWf]

theorem emitlWf_iff {ws : List EventWord} : emitlWf ws = true ↔ ws.length = 3 ∧ ∀ e ∈ ws, e.long = true := by
  simp [emitlWf]

/-- The instruction a word is read as, once its operands stay below the opcode: the opcode selects the branch of `decodeWord`, and each
operand is a field of a sum. -/
theorem decodeWord_encodeWord (i : SeqInstr) (h : i.wf = true) : decodeWord (encodeWord i) = some i := by
  cases i with
  | nop | ret | endloop => decide
  | halt _ | jump _ _ | call _ | wait _ | waita _ | idle _ _ | elastic _ | clrv _ =>
    rw [encodeWord, decodeWord, opcode_of_add (by omega) (by decide)]
    simp (disch := omega) only [bitsAt_add_above, bitsAt_add_below, bitsAt_of_lt, BitVec.ofNat_toNat, BitVec.setWidth_eq]
  | loop _ _ b _ | branch _ b _ _ _ _ _ =>
    have hb := bit01_lt b
    rw [encodeWord, decodeWord, opcode_of_add (by omega) (by decide)]
    simp (disch := omega) only [testBit_eq_bitsAt, bitsAt_add_above, bitsAt_add_below, bitsAt_of_lt, decide_bit01_eq_one, BitVec.ofNat_toNat,
      BitVec.setWidth_eq]
  | waitv _ _ _ tmo | sync _ _ tmo =>
    have htmo := timeoutBits_lt tmo
    rw [encodeWord, decodeWord, opcode_of_add (by omega) (by decide)]
    simp (disch := omega) only [timeoutAt_add, bitsAt_add_above, bitsAt_add_below, bitsAt_of_lt, BitVec.ofNat_toNat, BitVec.setWidth_eq]
  | cmpr adc ch flag lim tmo =>
    have hadc := bit01_lt adc
    have htmo := timeoutBits_lt tmo
    have hword : encodeWord (.cmpr adc ch flag lim tmo) = bit01 adc + ch.toNat * 2 ^ 1 + flag.toNat * 2 ^ 7 + lim.toNat * 2 ^ 10 +
        timeoutBits tmo * 2 ^ 14 + 0x19 * 2 ^ 120 := rfl
    rw [hword, decodeWord, opcode_of_add (by omega) (by decide)]
    simp (disch := omega) only [timeoutAt_add, testBit_eq_bitsAt, bitsAt_add_above, bitsAt_add_below, bitsAt_of_lt, decide_bit01_eq_one,
      BitVec.ofNat_toNat, BitVec.setWidth_eq]
  | emit words =>
    obtain ⟨hlen, hshort⟩ := emitWf_iff.1 h
    have hw := packWords_lt shortBits_lt words
    rw [hlen] at hw
    rw [encodeWord, decodeWord, opcode_of_add hw (by decide)]
    exact congrArg (some ∘ SeqInstr.emit) (map_decode_packWords _ shortBits_lt (fun e he => shortEvent_shortBits (hshort e he)) hlen (by decide))
  | emitl words =>
    obtain ⟨hlen, hlong⟩ := emitlWf_iff.1 h
    have hw := packWords_lt longBits_lt words
    rw [hlen] at hw
    rw [encodeWord, decodeWord, opcode_of_add hw (by decide)]
    exact congrArg (some ∘ SeqInstr.emitl) (map_decode_packWords _ longBits_lt (fun e he => longEvent_longBits (hlong e he)) hlen (by decide))

theorem encodeWord_lt (i : SeqInstr) (h : i.wf = true) : encodeWord i < 256 ^ 16 := by
  cases i with
  | nop | ret | endloop => decide
  | halt _ | jump _ _ | call _ | wait _ | waita _ | idle _ _ | elastic _ | clrv _ => simp only [encodeWord]; omega
  | loop _ _ b _ | branch _ b _ _ _ _ _ =>
    have hb := bit01_lt b
    simp only [encodeWord]; omega
  | waitv _ _ _ tmo | sync _ _ tmo =>
    have htmo := timeoutBits_lt tmo
    simp only [encodeWord]; omega
  | cmpr adc _ _ _ tmo =>
    have hadc := bit01_lt adc
    have htmo := timeoutBits_lt tmo
    simp only [encodeWord]; omega
  | emit words =>
    have hw := packWords_lt shortBits_lt words
    rw [(emitWf_iff.1 h).1] at hw
    simp only [encodeWord]; omega
  | emitl words =>
    have hw := packWords_lt longBits_lt words
    rw [(emitlWf_iff.1 h).1] at hw
    simp only [encodeWord]; omega

theorem ofBytes_toBytes {k v : Nat} (h : v < 256 ^ k) : ofBytes (toBytes k v) = v := by
  induction k generalizing v with
  | zero => simp only [Nat.pow_zero, Nat.lt_one_iff] at h; simp [toBytes, ofBytes, h]
  | succ k ih =>
    have hv : v / 256 < 256 ^ k := Nat.div_lt_of_lt_mul (by rwa [Nat.pow_succ, Nat.mul_comm] at h)
    rw [toBytes, ofBytes, ih hv, BitVec.toNat_ofNat]
    omega

theorem length_toBytes (k v : Nat) : (toBytes k v).length = k := by
  induction k generalizing v with
  | zero => rfl
  | succ k ih => rw [toBytes, List.length_cons, ih]

/-- Settles O59: the word reads back operand by operand (`decodeWord_encodeWord`), and its sixteen bytes hold it whole. -/
theorem sequencerRoundTrip : Obligations.SequencerRoundTrip := by
  unfold Obligations.SequencerRoundTrip
  intro i h
  refine ⟨?_, length_toBytes 16 _⟩
  rw [decodeSeq, encodeSeq, ofBytes_toBytes (encodeWord_lt i h), decodeWord_encodeWord i h]

end Sys2Proof.Machine

namespace Sys2Proof.Machine

/-! ## What an operation of a slice sequencer leaves as it was

`seqFrame l n s t`: from `s` to `t` no register changed outside `l`, no other slice, and no byte of a store. -/

/-- The registers outside `l`, the other slices and memory stay. -/
def seqFrame (l : List Part) (n : Fin 16) (s t : State) : Prop := sameRegs l s t ∧ otherSlices n s t ∧ sameBytes s t

section
variable {s t u : State} {n : Fin 16} {l : List Part}

theorem otherSlices.of_slices (h : otherSlices n s t) (e : u.slices = t.slices) : otherSlices n s u := by
  intro m hm
  rw [State.sl, e]
  exact h m hm

theorem seqFrame.refl (l : List Part) (n : Fin 16) (s : State) : seqFrame l n s s := ⟨.refl l s, fun _ _ => rfl, .refl s⟩

theorem seqFrame.trans (h : seqFrame l n s t) (h' : seqFrame l n t u) : seqFrame l n s u :=
  ⟨h.1.trans h'.1, fun m hm => (h'.2.1 m hm).trans (h.2.1 m hm), h.2.2.trans h'.2.2⟩

theorem seqFrame.mono {l' : List Part} (h : seqFrame l n s t) (hl : ∀ x ∈ l, x ∈ l') : seqFrame l' n s t := ⟨h.1.mono hl, h.2⟩

/-- A change outside registers, slices and stores. -/
theorem seqFrame.of_eq (h : seqFrame l n s t) (hr : u.regs = t.regs) (hs : u.slices = t.slices) (hc : u.cstore = t.cstore) : seqFrame l n s u :=
  ⟨h.1.of_regs hr, h.2.1.of_slices hs, h.2.2.of_stores hs hc⟩

theorem seqFrame.modSeq (h : seqFrame l n s t) (f : Sequencer → Sequencer) : seqFrame l n s (modSeq t n f) :=
  ⟨h.1.modSl n _, fun m hm => (State.sl_modSl_ne _ _ hm).trans (h.2.1 m hm), h.2.2.modSl n _ fun _ => rfl⟩

theorem holdsReg.of_mem_index {r : Reg} {i j : Nat} (h : { reg := r, idx := [i] } ∈ l) : holdsReg l r i j 0 0 :=
  ⟨{ reg := r, idx := [i] }, h, rfl, by simp [List.isPrefixOf], rfl, Nat.le_refl _⟩

/-- A field of a register of the slice that is listed whole. -/
theorem holdsFld.of_mem_reg {f : Field} {i j : Nat} (h : { reg := f.reg, idx := [i] } ∈ l) (hf : f.lo + f.width ≤ 32) : holdsFld l f i j 0 0 :=
  ⟨{ reg := f.reg, idx := [i] }, h, rfl, by simp [List.isPrefixOf], Nat.zero_le _, by simpa using hf⟩

theorem seqFrame.setFld (h : seqFrame l n s t) (f : Field) (v : Nat) {j : Nat} (hl : holdsFld l f n j 0 0) : seqFrame l n s (t.setFld f v n j) :=
  ⟨h.1.setFld f v n j 0 0 hl, h.2.1.of_slices (by rw [State.setFld_slices]), h.2.2.setFld f v n j 0 0⟩

theorem seqFrame.count (h : seqFrame l n s t) (r : Reg) (hl : { reg := r, idx := [n.val] } ∈ l) : seqFrame l n s (t.count r n) :=
  ⟨h.1.count r n 0 0 0 (.of_mem_index hl), h.2.1.of_slices (by rw [State.count_slices]), h.2.2.count r n 0 0 0⟩

theorem seqFrame.pairAdd (h : seqFrame l n s t) (lo hi : Reg) (k : Nat) (h1 : { reg := lo, idx := [n.val] } ∈ l)
    (h2 : { reg := hi, idx := [n.val] } ∈ l) : seqFrame l n s (t.pairAdd lo hi k n) :=
  ⟨h.1.pairAdd lo hi k n 0 0 (.of_mem_index h1) (.of_mem_index h2), h.2.1.of_slices (by rw [State.pairAdd_slices]), h.2.2.pairAdd lo hi k n 0 0⟩

theorem seqFrame.foldl {α : Type} (f : State → α → State) (hf : ∀ t a, seqFrame l n s t → seqFrame l n s (f t a)) (xs : List α)
    (h : seqFrame l n s t) :
    seqFrame l n s (xs.foldl f t) :=
  List.foldlRecOn xs f h fun t ht a _ => hf t a ht

end

/-! ## The journal and the event queue lie outside the sequencer -/

section
variable (s : State) (n : Fin 16)

@[simp] theorem State.journal_regs (type src index data : Nat) : (s.journal type src index data).regs = s.regs := by
  unfold State.journal; split <;> rfl

@[simp] theorem State.journal_slices (type src index data : Nat) : (s.journal type src index data).slices = s.slices := by
  unfold State.journal; split <;> rfl

@[simp] theorem State.journal_cstore (type src index data : Nat) : (s.journal type src index data).cstore = s.cstore := by
  unfold State.journal; split <;> rfl

@[simp] theorem State.journal_now (type src index data : Nat) : (s.journal type src index data).now = s.now := by
  unfold State.journal; split <;> rfl

@[simp] theorem State.event_slices (code src index data : Nat) : (s.event code src index data).slices = s.slices := by
  have hpush : ∀ (t : State) l, (t.pushEvents l).slices = t.slices := by
    intro t l; unfold State.pushEvents State.peak; dsimp only; split <;> rfl
  unfold State.event
  dsimp only
  split
  · rfl
  · split
    · split
      · rw [hpush]
      · rfl
    · split
      · rw [hpush]
      · rfl

end

/-! ## What the frame says of a register that is not listed -/

section
variable {s t u : State} {n : Fin 16} {l : List Part}

theorem sameRegs.rd_eq (h : sameRegs l s t) {r : Reg} (hr : ∀ x ∈ l, x.reg ≠ r) (i j k m : Nat) : t.rd r i j k m = s.rd r i j k m := by
  refine BitVec.eq_of_getLsbD_eq fun b _ => h r i j k m b (List.any_eq_false.2 fun x hx => ?_)
  simp [Part.covers, hr x hx]

theorem sameRegs.fld_of_reg (h : sameRegs l s t) {f : Field} (hr : ∀ x ∈ l, x.reg ≠ f.reg) (i j k m : Nat) : t.fld f i j k m = s.fld f i j k m := by
  rw [State.fld, State.fld, h.rd_eq hr]

theorem State.pair_congr {lo hi : Reg} {i j k : Nat} (h1 : t.rd lo i j k = s.rd lo i j k) (h2 : t.rd hi i j k = s.rd hi i j k) :
    t.pair lo hi i j k = s.pair lo hi i j k := by
  rw [State.pair, State.pair, h1, h2]

/-- A 64-bit counter reads what was added to it, up to all ones (R12). -/
theorem State.pair_pairAdd_same (s : State) {lo hi : Reg} (h : lo ≠ hi) (k i : Nat) :
    (s.pairAdd lo hi k i).pair lo hi i = min (s.pair lo hi i + k) (2 ^ 64 - 1) := by
  have hlt : min (s.pair lo hi i + k) (2 ^ 64 - 1) < 2 ^ 64 := by omega
  unfold State.pairAdd
  generalize min (s.pair lo hi i + k) (2 ^ 64 - 1) = v at hlt
  rw [State.setPair, State.pair, State.rd_wr_same, State.rd_wr_reg _ _ _ _ _ _ _ _ _ _ h, State.rd_wr_same, BitVec.toNat_ofNat, BitVec.toNat_ofNat]
  omega

end

/-! ## The sequencer's program counter, state and hidden fields -/

section
variable (s : State) (n : Fin 16)

@[simp] theorem seq_modSeq (f : Sequencer → Sequencer) : ((modSeq s n f).sl n).seq = f (s.sl n).seq := by simp [modSeq]
@[simp] theorem now_modSeq (f : Sequencer → Sequencer) : (modSeq s n f).now = s.now := by rw [modSeq, State.modSl_now]
@[simp] theorem beat_modSeq (f : Sequencer → Sequencer) : (modSeq s n f).beat = s.beat := by rw [modSeq, State.modSl_beat]
@[simp] theorem rd_modSeq (f : Sequencer → Sequencer) (r : Reg) (i j k m : Nat) : (modSeq s n f).rd r i j k m = s.rd r i j k m := by
  rw [modSeq, State.rd_modSl]
@[simp] theorem fld_modSeq (f : Sequencer → Sequencer) (g : Field) (i j k m : Nat) : (modSeq s n f).fld g i j k m = s.fld g i j k m := by
  rw [modSeq, State.fld_modSl]
@[simp] theorem pair_modSeq (f : Sequencer → Sequencer) (lo hi : Reg) (i j k : Nat) : (modSeq s n f).pair lo hi i j k = s.pair lo hi i j k := by
  rw [State.pair, State.pair, rd_modSeq, rd_modSeq]
@[simp] theorem seqPc_modSeq (f : Sequencer → Sequencer) : seqPc (modSeq s n f) n = seqPc s n := fld_modSeq ..
@[simp] theorem seqState_modSeq (f : Sequencer → Sequencer) : seqState (modSeq s n f) n = seqState s n := fld_modSeq ..

theorem lastIndex_lt : lastIndex < 2 ^ F.SEQ_PC_INDEX.width := by decide

theorem seqState_setFld_state {v : Nat} (hv : v < 8) : seqState (s.setFld F.SEQ_STATUS_STATE v n) n = v :=
  (State.fld_setFld_same s F.SEQ_STATUS_STATE v n 0 0 0 (by decide)).trans (Nat.mod_eq_of_lt hv)

theorem seqPc_setFld_pc {v : Nat} (hv : v < 2 ^ 18) : seqPc (s.setFld F.SEQ_PC_INDEX v n) n = v :=
  (State.fld_setFld_same s F.SEQ_PC_INDEX v n 0 0 0 (by decide)).trans (Nat.mod_eq_of_lt hv)

theorem seqPc_setFld_reg {f : Field} (hf : F.SEQ_PC_INDEX.reg ≠ f.reg) (v i j : Nat) : seqPc (s.setFld f v i j) n = seqPc s n :=
  State.fld_setFld_reg _ _ _ _ _ _ _ _ _ _ _ _ hf

theorem seqState_setFld_reg {f : Field} (hf : F.SEQ_STATUS_STATE.reg ≠ f.reg) (v i j : Nat) : seqState (s.setFld f v i j) n = seqState s n :=
  State.fld_setFld_reg _ _ _ _ _ _ _ _ _ _ _ _ hf

/-! ### The end of an instruction -/

/-- The end of an instruction whose next index exists (R103, R149). -/
theorem seqFinish_eq {next : Nat} (h : next ≤ lastIndex) (p : Nat) :
    seqFinish s n p next =
      ((modSeq s n fun q => { q with pend := none, acted := true, stepping := false }).setFld F.SEQ_PC_INDEX next n).setFld F.SEQ_STATUS_STATE
        (if (s.sl n).seq.stepping then SeqCode.halted else SeqCode.running) n :=
  if_neg (Nat.not_lt.2 h)

variable {s n}
variable {next : Nat} (h : next ≤ lastIndex) (p : Nat)
include h

theorem seqPc_seqFinish : seqPc (seqFinish s n p next) n = next := by
  rw [seqFinish_eq s n h, seqPc_setFld_reg _ _ (by decide)]
  exact seqPc_setFld_pc _ _ (lt_of_le_of_lt h lastIndex_lt)

theorem seqState_seqFinish : seqState (seqFinish s n p next) n = if (s.sl n).seq.stepping then 0 else 1 := by
  rw [seqFinish_eq s n h, seqState_setFld_state _ _ (by split <;> decide)]
  rfl

theorem seq_seqFinish :
    ((seqFinish s n p next).sl n).seq = { (s.sl n).seq with pend := none, acted := true, stepping := false } := by
  simp [seqFinish_eq s n h]

theorem now_seqFinish : (seqFinish s n p next).now = s.now := by simp [seqFinish_eq s n h]

/-- Only SEQ_PC and SEQ_STATUS.STATE change. -/
theorem fld_seqFinish {f : Field} (hf : f.reg ≠ .SEQ_PC ∧ (f.reg ≠ .SEQ_STATUS ∨ 3 ≤ f.lo)) (i j k m : Nat) :
    (seqFinish s n p next).fld f i j k m = s.fld f i j k m := by
  rw [seqFinish_eq s n h]
  obtain ⟨hpc, hst | hst⟩ := hf
  · rw [State.fld_setFld_reg _ _ _ _ _ _ _ _ _ _ _ _ hst, State.fld_setFld_reg _ _ _ _ _ _ _ _ _ _ _ _ hpc, fld_modSeq]
  · rw [State.fld_setFld_bits _ F.SEQ_STATUS_STATE f _ _ _ _ _ _ _ _ _ (by decide) (.inr hst), State.fld_setFld_reg _ _ _ _ _ _ _ _ _ _ _ _ hpc,
      fld_modSeq]

theorem rd_seqFinish {r : Reg} (hr : r ≠ .SEQ_PC ∧ r ≠ .SEQ_STATUS) (i j k m : Nat) :
    (seqFinish s n p next).rd r i j k m = s.rd r i j k m := by
  rw [seqFinish_eq s n h, State.rd_setFld_reg _ _ _ _ _ _ _ _ _ _ _ _ hr.2, State.rd_setFld_reg _ _ _ _ _ _ _ _ _ _ _ _ hr.1, rd_modSeq]

end

/-! ## Issue, advance and hold (R103, R104, R110, R123)

A statement about an instruction lists the registers that it may change. Each list begins with SEQ_PC and SEQ_STATUS.STATE, and that of an
issue goes on with SEQ_ISSUED. -/

/-- Parts that an end of an instruction may change, and `l`. -/
abbrev seqParts (n : Fin 16) (l : List Part) : List Part := F.SEQ_PC_INDEX.part [n] :: F.SEQ_STATUS_STATE.part [n] :: l

/-- Parts that an issue may change, and `l`. -/
abbrev issueParts (n : Fin 16) (l : List Part) : List Part :=
  seqParts n ({ reg := .SEQ_ISSUED_LO, idx := [n] } :: { reg := .SEQ_ISSUED_HI, idx := [n] } :: l)

section
variable {s u : State} {n : Fin 16} {l : List Part}

theorem ne_of_mem_issueParts {r : Reg} (hr : r ∉ [Reg.SEQ_PC, .SEQ_STATUS, .SEQ_ISSUED_LO, .SEQ_ISSUED_HI]) : ∀ x ∈ issueParts n [], x.reg ≠ r := by
  rintro x hx rfl
  exact hr (List.mem_map_of_mem (f := Part.reg) hx)

theorem seqFrame.seqFinish (h : seqFrame (seqParts n l) n s u) {next : Nat} (hn : next ≤ lastIndex) (p : Nat) :
    seqFrame (seqParts n l) n s (seqFinish u n p next) := by
  rw [seqFinish_eq u n hn]
  exact ((h.modSeq _).setFld _ _ (.of_mem_index (.head _))).setFld _ _ (.of_mem_index (.tail _ (.head _)))

theorem seqFrame.seqHold (h : seqFrame (seqParts n l) n s u) (p due : Nat) (i : SeqInstr) (code : Nat) :
    seqFrame (seqParts n l) n s (seqHold u n p due i code) :=
  (h.modSeq _).setFld _ _ (.of_mem_index (.tail _ (.head _)))

theorem seqFrame.seqDecision (h : seqFrame l n s u) (kind : Nat) (timedOut : Bool) (p next ext : Nat) :
    seqFrame l n s (seqDecision u n kind timedOut p next ext) := by
  unfold Machine.seqDecision
  split
  · exact h.of_eq (State.journal_regs ..) (State.journal_slices ..) (State.journal_cstore ..)
  · exact h

section
variable (u) (n)
variable (kind : Nat) (timedOut : Bool) (p next ext : Nat)

@[simp] theorem regs_seqDecision : (seqDecision u n kind timedOut p next ext).regs = u.regs := by
  unfold Machine.seqDecision; split <;> simp

@[simp] theorem slices_seqDecision : (seqDecision u n kind timedOut p next ext).slices = u.slices := by
  unfold Machine.seqDecision; split <;> simp

@[simp] theorem now_seqDecision : (seqDecision u n kind timedOut p next ext).now = u.now := by
  unfold Machine.seqDecision; split <;> simp

@[simp] theorem sl_seqDecision (m : Fin 16) : (seqDecision u n kind timedOut p next ext).sl m = u.sl m := by simp [State.sl]

@[simp] theorem rd_seqDecision (r : Reg) (i j k m : Nat) : (seqDecision u n kind timedOut p next ext).rd r i j k m = u.rd r i j k m := by
  simp [State.rd]

@[simp] theorem fld_seqDecision (f : Field) (i j k m : Nat) : (seqDecision u n kind timedOut p next ext).fld f i j k m = u.fld f i j k m := by
  simp [State.fld]

@[simp] theorem seqPc_seqDecision : seqPc (seqDecision u n kind timedOut p next ext) n = seqPc u n := fld_seqDecision ..
@[simp] theorem seqState_seqDecision : seqState (seqDecision u n kind timedOut p next ext) n = seqState u n := fld_seqDecision ..

end

@[simp] theorem seq_seqHold (u : State) (n : Fin 16) (p due : Nat) (i : SeqInstr) (code : Nat) :
    ((seqHold u n p due i code).sl n).seq =
      { (u.sl n).seq with pend := some { instr := i, index := p, issued := u.now, due := due, hit := none }, acted := true } := by
  simp [seqHold]

@[simp] theorem now_seqHold (u : State) (n : Fin 16) (p due : Nat) (i : SeqInstr) (code : Nat) : (seqHold u n p due i code).now = u.now := by
  simp [seqHold]

/-- Only SEQ_STATUS.STATE changes. -/
theorem rd_seqHold (u : State) (n : Fin 16) (p due : Nat) (i : SeqInstr) (code : Nat) {r : Reg} (hr : r ≠ .SEQ_STATUS) (a b c d : Nat) :
    (seqHold u n p due i code).rd r a b c d = u.rd r a b c d :=
  (State.rd_setFld_reg _ _ _ _ _ _ _ _ _ _ _ _ hr).trans (rd_modSeq ..)

theorem fld_seqHold (u : State) (n : Fin 16) (p due : Nat) (i : SeqInstr) (code : Nat) {f : Field} (hf : f.reg ≠ .SEQ_STATUS ∨ 3 ≤ f.lo)
    (a b c d : Nat) : (seqHold u n p due i code).fld f a b c d = u.fld f a b c d := by
  rcases hf with hf | hf
  · rw [State.fld, State.fld, rd_seqHold u n p due i code hf]
  · exact (State.fld_setFld_bits _ F.SEQ_STATUS_STATE f _ _ _ _ _ _ _ _ _ (by decide) (.inr hf)).trans (fld_modSeq ..)

/-- An instruction that ends moves the sequencer to the next index. -/
theorem seqMoves_seqFinish (hs : (u.sl n).seq.stepping = (s.sl n).seq.stepping) {next : Nat} (hn : next ≤ lastIndex) (p : Nat) :
    seqMoves s (seqFinish u n p next) n next :=
  ⟨seqPc_seqFinish hn p, by rw [seqState_seqFinish hn, hs], by rw [seq_seqFinish hn]⟩

/-- So it does where the decision is recorded. -/
theorem seqMoves_seqDecision_seqFinish (hs : (u.sl n).seq.stepping = (s.sl n).seq.stepping) {next : Nat} (hn : next ≤ lastIndex) (p kind : Nat)
    (timedOut : Bool) (p' next' ext : Nat) :
    seqMoves s (seqDecision (seqFinish u n p next) n kind timedOut p' next' ext) n next := by
  simpa only [seqMoves, seqPc_seqDecision, seqState_seqDecision, sl_seqDecision] using seqMoves_seqFinish hs hn p

/-! ### Issue -/

/-- The state in which an instruction that passed its check takes effect. -/
def seqIssued (s : State) (n : Fin 16) (i : SeqInstr) : State :=
  modSeq ((modSeq s n fun q => { q with acted := true, starting := false }).pairAdd .SEQ_ISSUED_LO .SEQ_ISSUED_HI 1 n) n
    fun q => { q with named := namedTargets i }

@[simp] theorem seq_seqIssued (s : State) (n : Fin 16) (i : SeqInstr) :
    ((seqIssued s n i).sl n).seq = { (s.sl n).seq with acted := true, starting := false, named := namedTargets i } := by
  have hsl : ∀ (t : State), (t.pairAdd .SEQ_ISSUED_LO .SEQ_ISSUED_HI 1 n).sl n = t.sl n := fun t => by
    rw [State.sl, State.pairAdd_slices]; rfl
  simp [seqIssued, hsl]

@[simp] theorem now_seqIssued (s : State) (n : Fin 16) (i : SeqInstr) : (seqIssued s n i).now = s.now := by simp [seqIssued]
@[simp] theorem beat_seqIssued (s : State) (n : Fin 16) (i : SeqInstr) : (seqIssued s n i).beat = s.beat := by simp [seqIssued]

theorem rd_seqIssued (s : State) (n : Fin 16) (i : SeqInstr) {r : Reg} (hr : r ≠ .SEQ_ISSUED_LO ∧ r ≠ .SEQ_ISSUED_HI) (a b c d : Nat) :
    (seqIssued s n i).rd r a b c d = s.rd r a b c d := by
  rw [seqIssued, rd_modSeq, State.pairAdd, State.setPair, State.rd_wr_reg _ _ _ _ _ _ _ _ _ _ hr.2,
    State.rd_wr_reg _ _ _ _ _ _ _ _ _ _ hr.1, rd_modSeq]

theorem fld_seqIssued (s : State) (n : Fin 16) (i : SeqInstr) {f : Field} (hf : f.reg ≠ .SEQ_ISSUED_LO ∧ f.reg ≠ .SEQ_ISSUED_HI) (a b c d : Nat) :
    (seqIssued s n i).fld f a b c d = s.fld f a b c d := by
  rw [State.fld, State.fld, rd_seqIssued s n i hf]

theorem seqFrame_seqIssued (s : State) (n : Fin 16) (i : SeqInstr) (l : List Part) : seqFrame (issueParts n l) n s (seqIssued s n i) :=
  (((seqFrame.refl _ n s).modSeq _).pairAdd _ _ _ (.tail _ (.tail _ (.head _))) (.tail _ (.tail _ (.tail _ (.head _))))).modSeq _

theorem seqCounts_seqIssued (s : State) (n : Fin 16) (i : SeqInstr) : seqCounts s (seqIssued s n i) n := by
  rw [seqCounts, seqIssued, pair_modSeq, State.pair_pairAdd_same _ (by decide), pair_modSeq]

/-- The issue check reads registers only. -/
theorem issueCheck_modSeq (s : State) (n : Fin 16) (f : Sequencer → Sequencer) (p : Nat) (i : SeqInstr) :
    issueCheck (modSeq s n f) n p i = issueCheck s n p i := by
  cases i <;> rfl

theorem seqIssueNow_eq (hc : seqCanIssue s n = true) (hp : seqPc s n ≤ lastIndex) {i : SeqInstr} (hi : issueCheck s n (seqPc s n) i = none) :
    seqIssueNow s n i = seqEffect (seqIssued s n i) n (seqPc s n) i := by
  rw [seqIssueNow, if_pos hc, seqIssue, if_neg (Nat.not_lt.2 hp), issueCheck_modSeq, hi]
  rfl

/-! ### What an instruction keeps until it ends or holds -/

/-- `u` is reached from `s` by an instruction of slice `n` that has been counted and may have changed the parts `l`. -/
structure SeqTakes (l : List Part) (n : Fin 16) (s u : State) : Prop where
  frame : seqFrame (issueParts n l) n s u
  counts : seqCounts s u n
  stepping : (u.sl n).seq.stepping = (s.sl n).seq.stepping
  pc : seqPc u n = seqPc s n
  now : u.now = s.now

theorem SeqTakes.seqIssued (s : State) (n : Fin 16) (i : SeqInstr) (l : List Part) : SeqTakes l n s (seqIssued s n i) where
  frame := seqFrame_seqIssued s n i l
  counts := seqCounts_seqIssued s n i
  stepping := by simp
  pc := fld_seqIssued s n i (by decide) ..
  now := now_seqIssued s n i

theorem SeqTakes.modSeq (h : SeqTakes l n s u) (f : Sequencer → Sequencer) (hf : ∀ q, (f q).stepping = q.stepping := by intro; rfl) :
    SeqTakes l n s (modSeq u n f) where
  frame := h.frame.modSeq f
  counts := (pair_modSeq ..).trans h.counts
  stepping := by rw [seq_modSeq, hf, h.stepping]
  pc := (seqPc_modSeq ..).trans h.pc
  now := (now_modSeq ..).trans h.now

/-- A change of the hidden fields before the issue. -/
theorem SeqTakes.of_modSeq {f : Sequencer → Sequencer} (h : SeqTakes l n (Machine.modSeq s n f) u)
    (hf : ∀ q, (f q).stepping = q.stepping := by intro; rfl) :
    SeqTakes l n s u where
  frame := ((seqFrame.refl _ n s).modSeq f).trans h.frame
  counts := h.counts.trans (by rw [pair_modSeq])
  stepping := by rw [h.stepping, seq_modSeq, hf]
  pc := h.pc.trans (seqPc_modSeq ..)
  now := h.now.trans (now_modSeq ..)

theorem SeqTakes.setFld (h : SeqTakes l n s u) (f : Field) (v : Nat) (hl : f.part [n.val] ∈ l)
    (hf : f.reg ≠ .SEQ_PC ∧ f.reg ≠ .SEQ_ISSUED_LO ∧ f.reg ≠ .SEQ_ISSUED_HI) : SeqTakes l n s (u.setFld f v n) where
  frame := h.frame.setFld f v (.of_mem_index (List.mem_append_right [_, _, _, _] hl))
  counts := (State.pair_congr (State.rd_setFld_reg _ _ _ _ _ _ _ _ _ _ _ _ hf.2.1.symm)
    (State.rd_setFld_reg _ _ _ _ _ _ _ _ _ _ _ _ hf.2.2.symm)).trans h.counts
  stepping := by rw [State.sl_setFld, h.stepping]
  pc := (seqPc_setFld_reg _ _ hf.1.symm _ _ _).trans h.pc
  now := by rw [State.setFld_now, h.now]

theorem SeqTakes.count (h : SeqTakes l n s u) (r : Reg) (hl : { reg := r, idx := [n.val] } ∈ l)
    (hr : r ≠ .SEQ_PC ∧ r ≠ .SEQ_ISSUED_LO ∧ r ≠ .SEQ_ISSUED_HI) : SeqTakes l n s (u.count r n) where
  frame := h.frame.count r (List.mem_append_right [_, _, _, _] hl)
  counts := (State.pair_congr (State.rd_count_reg _ _ _ _ _ _ _ _ _ _ _ hr.2.1.symm)
    (State.rd_count_reg _ _ _ _ _ _ _ _ _ _ _ hr.2.2.symm)).trans h.counts
  stepping := by rw [State.sl_count, h.stepping]
  pc := (State.fld_count_reg _ _ _ _ _ _ _ _ _ _ _ hr.1.symm).trans h.pc
  now := by rw [State.count_now, h.now]

theorem SeqTakes.finish (h : SeqTakes l n s u) {next : Nat} (hn : next ≤ lastIndex) (p : Nat) :
    seqMoves s (seqFinish u n p next) n next ∧ seqCounts s (seqFinish u n p next) n ∧
      seqFrame (issueParts n l) n s (seqFinish u n p next) :=
  ⟨seqMoves_seqFinish h.stepping hn p,
    (State.pair_congr (rd_seqFinish hn p (by decide) ..) (rd_seqFinish hn p (by decide) ..)).trans h.counts, h.frame.seqFinish hn p⟩

/-- The same beside what else is said of the state. -/
theorem SeqTakes.finish_and (h : SeqTakes l n s u) {next : Nat} (hn : next ≤ lastIndex) (p : Nat) {P : Prop} (hP : P) :
    seqMoves s (seqFinish u n p next) n next ∧ seqCounts s (seqFinish u n p next) n ∧ P ∧
      seqFrame (issueParts n l) n s (seqFinish u n p next) :=
  have ⟨hm, hk, hf⟩ := h.finish hn p
  ⟨hm, hk, hP, hf⟩

theorem SeqTakes.finish_decision (h : SeqTakes l n s u) {next : Nat} (hn : next ≤ lastIndex) (p kind : Nat) (timedOut : Bool) (p' next' ext : Nat) :
    let t := seqDecision (seqFinish u n p next) n kind timedOut p' next' ext
    seqMoves s t n next ∧ seqCounts s t n ∧ seqFrame (issueParts n l) n s t :=
  ⟨seqMoves_seqDecision_seqFinish h.stepping hn .., (State.pair_congr (rd_seqDecision ..) (rd_seqDecision ..)).trans (h.finish hn p).2.1,
    (h.frame.seqFinish hn p).seqDecision ..⟩

/-- An instruction that waits or blocks is pending at its own index, which SEQ_PC keeps (log entry 22). -/
theorem SeqTakes.hold (h : SeqTakes l n s u) (due : Nat) (i : SeqInstr) {code : Nat} (hcode : code < 8) :
    seqHolds s (seqHold u n (seqPc s n) due i code) n i due code ∧ seqPc (seqHold u n (seqPc s n) due i code) n = seqPc s n ∧
      seqFrame (issueParts n l) n s (seqHold u n (seqPc s n) due i code) := by
  refine ⟨⟨by simp [h.now], seqState_setFld_state _ _ hcode, ?_⟩, (fld_seqHold _ _ _ _ _ _ (.inl (by decide)) ..).trans h.pc, h.frame.seqHold ..⟩
  exact (State.pair_congr (rd_seqHold _ _ _ _ _ _ (by decide) ..) (rd_seqHold _ _ _ _ _ _ (by decide) ..)).trans h.counts

end

end Sys2Proof.Machine

namespace Sys2Proof.Machine

/-! ## The transfers of control and the loops (R125 to R128) -/

section
variable {s : State} {n : Fin 16} (hc : seqCanIssue s n = true) (hp : seqPc s n < lastIndex)
include hc hp

theorem seqIssueNow_nop : seqIssueNow s n .nop = seqFinish (seqIssued s n .nop) n (seqPc s n) (seqPc s n + 1) :=
  seqIssueNow_eq hc hp.le rfl

theorem seqIssueNow_jump {target : BitVec 18} {pop : BitVec 3} (ht : target.toNat ≤ lastIndex) (hl : pop.toNat ≤ (s.sl n).seq.loops.length) :
    seqIssueNow s n (.jump target pop) =
      seqFinish (modSeq (seqIssued s n (.jump target pop)) n fun q => { q with loops := q.loops.drop pop.toNat }) n (seqPc s n) target.toNat := by
  rw [seqIssueNow_eq hc hp.le (by simp [issueCheck, targetOk, ht])]
  simp [seqEffect, Nat.not_lt.2 hl]

theorem seqIssueNow_call {target : BitVec 18} (ht : target.toNat ≤ lastIndex) (hl : (s.sl n).seq.calls.length < 16) :
    seqIssueNow s n (.call target) =
      seqFinish (modSeq (seqIssued s n (.call target)) n fun q => { q with calls := (seqPc s n + 1) :: q.calls }) n (seqPc s n) target.toNat := by
  rw [seqIssueNow_eq hc hp.le (by simp [issueCheck, targetOk, ht])]
  simp [seqEffect, Nat.not_le.2 hl]

theorem seqIssueNow_ret {r : Nat} {rest : List Nat} (hr : (s.sl n).seq.calls = r :: rest) :
    seqIssueNow s n .ret = seqFinish (modSeq (seqIssued s n .ret) n fun q => { q with calls := rest }) n (seqPc s n) r := by
  rw [seqIssueNow_eq hc hp.le rfl]
  simp [seqEffect, hr]

end

/-- The repetitions of a LOOP: its operand or a register (R125). -/
def loopCount (s : State) (n : Fin 16) (count : BitVec 32) (fromReg : Bool) (reg : BitVec 3) : Nat :=
  if fromReg then s.fld F.SEQ_LCOUNT_COUNT n reg.toNat else count.toNat

section
variable {s : State} {n : Fin 16}

variable (hc : seqCanIssue s n = true) (hp : seqPc s n < lastIndex)
include hc hp

theorem seqIssueNow_loop {count : BitVec 32} {e : BitVec 18} {fromReg : Bool} {reg : BitVec 3} (h0 : loopCount s n count fromReg reg ≠ 0)
    (he : seqPc s n < e.toNat) (hl : e.toNat ≤ lastIndex) (h8 : (s.sl n).seq.loops.length < 8) :
    seqIssueNow s n (.loop count e fromReg reg) =
      seqFinish (modSeq (seqIssued s n (.loop count e fromReg reg)) n fun q =>
        { q with loops := { start := seqPc s n + 1, endIndex := e.toNat, remaining := loopCount s n count fromReg reg } :: q.loops })
        n (seqPc s n) (seqPc s n + 1) := by
  rw [seqIssueNow_eq hc hp.le (by simp [issueCheck, targetOk, hl, he])]
  unfold loopCount at h0 ⊢
  simp only [seqEffect, fld_seqIssued s n _ (f := F.SEQ_LCOUNT_COUNT) (by decide), h0, if_false, seq_seqIssued, Nat.not_le.2 h8]

theorem seqIssueNow_loop_zero {count : BitVec 32} {e : BitVec 18} {fromReg : Bool} {reg : BitVec 3} (h0 : loopCount s n count fromReg reg = 0)
    (he : seqPc s n < e.toNat) (hl : e.toNat ≤ lastIndex) :
    seqIssueNow s n (.loop count e fromReg reg) =
      seqFinish (seqIssued s n (.loop count e fromReg reg)) n (seqPc s n) (e.toNat + 1) := by
  rw [seqIssueNow_eq hc hp.le (by simp [issueCheck, targetOk, hl, he])]
  unfold loopCount at h0
  simp only [seqEffect, fld_seqIssued s n _ (f := F.SEQ_LCOUNT_COUNT) (by decide), h0, if_true]

variable {x : LoopEntry} {rest : List LoopEntry} (hx : (s.sl n).seq.loops = x :: rest) (he : x.endIndex = seqPc s n)
include hx he

theorem seqIssueNow_endloop_again (h1 : 1 < x.remaining) :
    seqIssueNow s n .endloop =
      seqFinish (modSeq (seqIssued s n .endloop) n fun q => { q with loops := { x with remaining := x.remaining - 1 } :: rest }) n (seqPc s n)
        x.start := by
  rw [seqIssueNow_eq hc hp.le rfl]
  simp [seqEffect, hx, he, h1]

theorem seqIssueNow_endloop_last (h1 : x.remaining ≤ 1) :
    seqIssueNow s n .endloop =
      seqFinish (modSeq (seqIssued s n .endloop) n fun q => { q with loops := rest }) n (seqPc s n) (seqPc s n + 1) := by
  rw [seqIssueNow_eq hc hp.le rfl]
  simp [seqEffect, hx, he, Nat.not_lt.2 h1]

end

/-- Settles O9: each instruction ends in `seqFinish` over a change of the stacks (its equation above), and `SeqTakes.finish` says what that
leaves. -/
theorem seqTransfersAndLoops : Obligations.SeqTransfersAndLoops := by
  unfold Obligations.SeqTransfersAndLoops
  refine ⟨fun s n hc hp => ⟨_, rfl, ?_⟩, fun s n target pop hc hp ht hl => ⟨_, rfl, ?_⟩, fun s n target hc hp ht hl => ⟨_, rfl, ?_⟩,
    fun s n r rest hc hp hr hrl => ⟨_, rfl, ?_⟩, fun s n count e fromReg reg c hc hp hcount h0 he hl h8 => ⟨_, rfl, ?_⟩,
    fun s n count e fromReg reg hc hp h0 he hl => ⟨_, rfl, ?_⟩, fun s n x rest hc hp hx he h1 hs => ⟨_, rfl, ?_⟩,
    fun s n x rest hc hp hx he h1 => ⟨_, rfl, ?_⟩⟩
  · rw [seqIssueNow_nop hc hp]
    exact (SeqTakes.seqIssued s n _ []).finish hp _
  · rw [seqIssueNow_jump hc hp ht hl]
    exact ((SeqTakes.seqIssued s n _ []).modSeq _).finish_and ht _ (by simp [seq_seqFinish ht])
  · rw [seqIssueNow_call hc hp ht hl]
    exact ((SeqTakes.seqIssued s n _ []).modSeq _).finish_and ht _ (by simp [seq_seqFinish ht])
  · rw [seqIssueNow_ret hc hp hr]
    exact ((SeqTakes.seqIssued s n _ []).modSeq _).finish_and hrl _ (by simp [seq_seqFinish hrl])
  · subst hcount
    rw [seqIssueNow_loop hc hp h0 he hl h8]
    exact ((SeqTakes.seqIssued s n _ []).modSeq _).finish_and hp _ (by simp [seq_seqFinish hp.nat_succ_le, loopCount])
  · rw [seqIssueNow_loop_zero hc hp h0 he hl.le]
    exact (SeqTakes.seqIssued s n _ []).finish_and hl _ (by simp [seq_seqFinish hl.nat_succ_le])
  · rw [seqIssueNow_endloop_again hc hp hx he h1]
    exact ((SeqTakes.seqIssued s n _ []).modSeq _).finish_and hs _ (by simp [seq_seqFinish hs])
  · rw [seqIssueNow_endloop_last hc hp hx he h1]
    exact ((SeqTakes.seqIssued s n _ []).modSeq _).finish_and hp _ (by simp [seq_seqFinish hp.nat_succ_le])

end Sys2Proof.Machine

namespace Sys2Proof.Machine

/-! ## The waits (R123, R124, R144, R147) -/

section
variable {s : State} {n : Fin 16} (hc : seqCanIssue s n = true) (hp : seqPc s n < lastIndex)
include hc hp

theorem seqIssueNow_wait (b : BitVec 32) :
    seqIssueNow s n (.wait b) = seqHold (seqIssued s n (.wait b)) n (seqPc s n) (s.now + max b.toNat 1) (.wait b) SeqCode.waiting := by
  rw [seqIssueNow_eq hc hp.le rfl]
  simp [seqEffect]

theorem seqIssueNow_idle (b : BitVec 32) (o : BitVec 23) :
    seqIssueNow s n (.idle b o) = seqHold (seqIssued s n (.idle b o)) n (seqPc s n) (s.now + max b.toNat 1) (.idle b o) SeqCode.waiting := by
  rw [seqIssueNow_eq hc hp.le rfl]
  simp [seqEffect]

theorem seqIssueNow_waita_ahead {b : BitVec 64} (hb : s.beat + 1 ≤ b.toNat) :
    seqIssueNow s n (.waita b) = seqHold (seqIssued s n (.waita b)) n (seqPc s n) (s.now + (b.toNat - s.beat)) (.waita b) SeqCode.waiting := by
  rw [seqIssueNow_eq hc hp.le rfl]
  simp [seqEffect, Nat.not_lt.2 hb]

theorem seqIssueNow_waita_late {b : BitVec 64} (hb : b.toNat < s.beat + 1) :
    seqIssueNow s n (.waita b) = seqHold (((seqIssued s n (.waita b)).count .SEQ_LATE n).setFld F.SEQ_STATUS_LATE 1 n) n (seqPc s n) (s.now + 1)
      (.waita b) SeqCode.waiting := by
  rw [seqIssueNow_eq hc hp.le rfl]
  simp [seqEffect, hb]

end

/-! ### The next instruction issues in the beat in which a wait ends -/

section
variable {s u : State} {n : Fin 16} {f : FetchLine}

/-- A NOP that stands fetched at SEQ_PC issues. -/
theorem seqFetchedNow_nop (hc : seqCanIssue s n = true) (hp : seqPc s n < lastIndex) (hf : nopFetched s n (seqPc s n) f) :
    seqFetchedNow s n = seqFinish (seqIssued (seqTouch s n (seqPc s n / 8)) n .nop) n (seqPc s n) (seqPc s n + 1) := by
  obtain ⟨hline, hpoison, hdecode⟩ := hf
  have hc' : seqCanIssue (seqTouch s n (seqPc s n / 8)) n = true := by
    rw [← hc]; simp [seqCanIssue, seqTouch]
  have hp' : seqPc (seqTouch s n (seqPc s n / 8)) n = seqPc s n := seqPc_modSeq ..
  have hnop := seqIssueNow_nop hc' (hp'.trans_lt hp)
  rw [seqIssueNow, if_pos hc', hp'] at hnop
  rw [seqFetchedNow, if_pos hc, seqIssueFetched, if_neg (Nat.not_lt.2 hp.le), hline]
  simp only [hpoison, List.any_nil, hdecode, Bool.false_eq_true, if_false]
  exact hnop

theorem seqMoves_seqFetchedNow_nop (hc : seqCanIssue s n = true) (hp : seqPc s n < lastIndex) (hf : nopFetched s n (seqPc s n) f) :
    seqMoves s (seqFetchedNow s n) n (seqPc s n + 1) ∧ seqCounts s (seqFetchedNow s n) n ∧ seqFrame (issueParts n []) n s (seqFetchedNow s n) := by
  rw [seqFetchedNow_nop hc hp hf]
  exact (SeqTakes.seqIssued _ n .nop []).of_modSeq.finish hp _

/-- A sequencer that has just finished an instruction and may issue again in this beat issues the NOP that stands fetched. -/
theorem seqMoves_resume_nop {p : Nat} (hm : seqMoves s u n p) (hs : (s.sl n).seq.stepping = false) (hu : (u.sl n).seq.stepping = false)
    (hstart : (u.sl n).seq.starting = false) (hp : p < lastIndex) (hf : nopFetched u n p f) :
    seqMoves s (seqFetchedNow (modSeq u n fun q => { q with acted := false }) n) n (p + 1) ∧
      seqCounts u (seqFetchedNow (modSeq u n fun q => { q with acted := false }) n) n ∧
      seqFrame (issueParts n []) n u (seqFetchedNow (modSeq u n fun q => { q with acted := false }) n) := by
  obtain ⟨rfl, hst, hpend⟩ := hm
  rw [hs] at hst
  have hc : seqCanIssue (modSeq u n fun q => { q with acted := false }) n = true := by
    simp [seqCanIssue, hpend, hstart, hst, SeqCode.running]
  obtain ⟨⟨hpc, hst', hpend'⟩, hk, hfr⟩ := seqMoves_seqFetchedNow_nop (f := f) hc (by rwa [seqPc_modSeq]) (by simpa [nopFetched] using hf)
  refine ⟨⟨hpc.trans (by rw [seqPc_modSeq]), hst'.trans (by simp [hs, hu]), hpend'⟩, hk.trans (by rw [pair_modSeq]),
    ((seqFrame.refl _ n u).modSeq _).trans hfr⟩

variable {q : PendingInstr}

/-- A wait that is due ends; the sequencer may issue again. -/
theorem seqWaitEnd_of_due (hq : (s.sl n).seq.pend = some q)
    (hi : (∃ b, q.instr = .wait b) ∨ (∃ b, q.instr = .waita b) ∨ ∃ b o, q.instr = .idle b o) (hd : q.due ≤ s.now) :
    seqWaitEnd s n = seqFetchedNow (modSeq (seqFinish s n q.index (q.index + 1)) n fun x => { x with acted := false }) n := by
  rcases hi with ⟨b, hi⟩ | ⟨b, hi⟩ | ⟨b, o, hi⟩ <;> simp [seqWaitEnd, hq, hi, hd]

theorem seqMoves_seqWaitEnd_nop (hq : (s.sl n).seq.pend = some q)
    (hi : (∃ b, q.instr = .wait b) ∨ (∃ b, q.instr = .waita b) ∨ ∃ b o, q.instr = .idle b o) (hd : q.due ≤ s.now)
    (hn : q.index + 2 ≤ lastIndex) (hs : (s.sl n).seq.stepping = false) (hstart : (s.sl n).seq.starting = false)
    (hf : nopFetched s n (q.index + 1) f) :
    seqMoves s (seqWaitEnd s n) n (q.index + 2) ∧ seqCounts s (seqWaitEnd s n) n ∧ seqFrame (issueParts n []) n s (seqWaitEnd s n) := by
  have hle : q.index + 1 ≤ lastIndex := by omega
  have hfetch : nopFetched (seqFinish s n q.index (q.index + 1)) n (q.index + 1) f := by
    simpa [nopFetched, seq_seqFinish hle, now_seqFinish hle] using hf
  rw [seqWaitEnd_of_due hq hi hd]
  obtain ⟨hm, hk, hfr⟩ := seqMoves_resume_nop (seqMoves_seqFinish rfl hle q.index) hs (by simp [seq_seqFinish hle]) (by simp [seq_seqFinish hle, hstart])
    hn hfetch
  exact ⟨hm, hk.trans (by rw [State.pair_congr (rd_seqFinish hle _ (by decide) ..) (rd_seqFinish hle _ (by decide) ..)]),
    ((seqFrame.refl _ n s).seqFinish hle _).trans hfr⟩

/-! ### The rows of the table that end a wait -/

/-- The pending instruction with its fields written out, as the rows of the table match it. -/
theorem pend_eq {i : SeqInstr} (hq : (s.sl n).seq.pend = some q) (hi : q.instr = i) :
    (s.sl n).seq.pend = some { instr := i, index := q.index, issued := q.issued, due := q.due, hit := q.hit } := by
  rw [hq, ← hi]

theorem exec_waitExpire {b : BitVec 32} (hq : (s.sl n).seq.pend = some q) (hi : q.instr = .wait b) :
    exec (.waitExpire n) s = .next (seqWaitEnd s n) := by
  show execWaitExpire n s = _
  rw [execWaitExpire, pend_eq hq hi]

theorem exec_waitaReached {b : BitVec 64} (hq : (s.sl n).seq.pend = some q) (hi : q.instr = .waita b) :
    exec (.waitaReached n) s = .next (seqWaitEnd s n) := by
  show execWaitaReached n s = _
  rw [execWaitaReached, pend_eq hq hi]

theorem exec_idleExpire {b : BitVec 32} {o : BitVec 23} (hq : (s.sl n).seq.pend = some q) (hi : q.instr = .idle b o) :
    exec (.idleExpire n) s = .next (seqWaitEnd s n) := by
  show execIdleExpire n s = _
  rw [execIdleExpire, pend_eq hq hi]

theorem exec_seqFirstIssue (h : (s.sl n).seq.starting = true) : exec (.seqFirstIssue n) s = .next (seqFetchedNow s n) := by
  show execSeqFirstIssue n s = _
  rw [execSeqFirstIssue, if_pos h]

end

/-- Settles O11: WAIT holds (`SeqTakes.hold`), and its end resumes the fetched NOP (`seqMoves_seqWaitEnd_nop`). -/
theorem seqWait : Obligations.SeqWait := by
  unfold Obligations.SeqWait
  refine ⟨fun s n b hc hp => ⟨_, rfl, ?_⟩, fun s n q f b hq hi hd hn hs hstart hf => ⟨_, exec_waitExpire hq hi, ?_⟩⟩
  · rw [seqIssueNow_wait hc hp]
    exact (SeqTakes.seqIssued s n _ []).hold _ _ (by decide)
  · exact seqMoves_seqWaitEnd_nop hq (.inl ⟨b, hi⟩) hd hn hs hstart hf

/-- Settles O12: the holds and their ends as for WAIT; a late WAITA counts and marks before it holds. -/
theorem seqWaits : Obligations.SeqWaits := by
  unfold Obligations.SeqWaits
  refine ⟨fun s n b hc hp hb => ⟨_, rfl, ?_⟩, fun s n b hc hp hb => ⟨_, rfl, ?_⟩,
    fun s n q f b hq hi hd hn hs hstart hf => ⟨_, exec_waitaReached hq hi, ?_⟩, fun s n b o hc hp => ⟨_, rfl, ?_⟩,
    fun s n q f b o hq hi hd hn hs hstart hf => ⟨_, exec_idleExpire hq hi, ?_⟩, fun s n f hc hp hstart hf => ⟨_, exec_seqFirstIssue hstart, ?_⟩⟩
  · rw [seqIssueNow_waita_ahead hc hp hb]
    exact (SeqTakes.seqIssued s n _ []).hold _ _ (by decide)
  · rw [seqIssueNow_waita_late hc hp hb]
    have htakes : SeqTakes [{ reg := .SEQ_LATE, idx := [n.val] }, F.SEQ_STATUS_LATE.part [n.val]] n s _ :=
      ((SeqTakes.seqIssued s n (.waita b) _).count .SEQ_LATE (.head _) (by decide)).setFld F.SEQ_STATUS_LATE 1 (.tail _ (.head _)) (by decide)
    obtain ⟨hh, hpc, hf⟩ := htakes.hold (s.now + 1) (.waita b) (code := SeqCode.waiting) (by decide)
    refine ⟨hh, hpc, ?_, ?_, hf⟩
    · rw [rd_seqHold _ _ _ _ _ _ (by decide), State.rd_setFld_reg _ _ _ _ _ _ _ _ _ _ _ _ (by decide),
        State.rd_count_same, rd_seqIssued s n _ (by decide)]
    · rw [fld_seqHold _ _ _ _ _ _ (.inr (by decide)), State.fld_setFld_same _ _ _ _ _ _ _ (by decide)]
      rfl
  · exact seqMoves_seqWaitEnd_nop hq (.inr (.inl ⟨b, hi⟩)) hd hn hs hstart hf
  · rw [seqIssueNow_idle hc hp]
    exact (SeqTakes.seqIssued s n _ []).hold _ _ (by decide)
  · exact seqMoves_seqWaitEnd_nop hq (.inr (.inr ⟨b, o, hi⟩)) hd hn hs hstart hf
  · exact seqMoves_seqFetchedNow_nop hc hp hf

end Sys2Proof.Machine

namespace Sys2Proof.Machine

/-! ## New marks and copies of inputs (R129, R135, R137, R156) -/

/-! ### One bit of a number -/

/-- Putting back what a field holds. -/
theorem putBits_bitsAt (v lo w : Nat) : putBits v lo w (bitsAt v lo w) = v := by
  have hsum : v / 2 ^ lo / 2 ^ w * (2 ^ lo * 2 ^ w) + v / 2 ^ lo % 2 ^ w * 2 ^ lo
      = 2 ^ lo * (2 ^ w * (v / 2 ^ lo / 2 ^ w) + v / 2 ^ lo % 2 ^ w) := by ring
  rw [putBits_eq, bitsAt_eq, Nat.mod_mod, Nat.pow_add, ← Nat.div_div_eq_div_mul, hsum, Nat.div_add_mod, Nat.div_add_mod]

theorem bitsAt_one (v i : Nat) : bitsAt v i 1 = bit01 (v.testBit i) := by
  have hlt : bitsAt v i 1 < 2 := by rw [bitsAt_eq]; exact Nat.mod_lt _ (by decide)
  rw [testBit_eq_bitsAt]
  interval_cases bitsAt v i 1 <;> rfl

/-- Setting or clearing a bit puts a field of one bit. -/
theorem putBit_eq_putBits (v i : Nat) (b : Bool) : putBit v i b = putBits v i 1 (bit01 b) := by
  have hset : putBits v i 1 (bit01 true) = putBits v i 1 (bit01 false) + 2 ^ i := by
    simp only [putBits_eq, bit01, if_true, Bool.false_eq_true, if_false]
    omega
  have hback := putBits_bitsAt v i 1
  rw [bitsAt_one] at hback
  by_cases h : v.testBit i = b
  · rw [putBit, if_pos h, ← h, hback]
  · rw [putBit, if_neg h]
    cases b with
    | true =>
      rw [(Bool.not_eq_true _).mp h] at hback
      rw [if_pos rfl, hset, hback]
    | false =>
      rw [(Bool.not_eq_false _).mp h, hset] at hback
      simp only [Bool.false_eq_true, if_false]
      omega

theorem testBit_putBit (v i : Nat) (b : Bool) (j : Nat) : (putBit v i b).testBit j = if j = i then b else v.testBit j := by
  rw [putBit_eq_putBits]
  split
  · next h => rw [h, testBit_eq_bitsAt, bitsAt_putBits_same, Nat.mod_eq_of_lt (bit01_lt b), decide_bit01_eq_one]
  · exact testBit_putBits_outside _ _ _ _ _ (by omega)

/-! ### What the decisions read

`SameInputs n s t`: the inputs of slice `n`'s decisions, their marks and the descriptors stand in `t` as in `s`. -/

/-- The registers that a decision reads. -/
def inputRegs : List Reg := [.SEQ_VNEW, .SEQ_XNEW, .SEQ_FLAGS, .SEQ_BSEL, .SEQ_BTERM, .SEQ_BRES, .SEQ_BRD]

structure SameInputs (n : Fin 16) (s t : State) : Prop where
  rd : ∀ r ∈ inputRegs, ∀ i j, t.rd r i j = s.rd r i j
  copies : (t.sl n).seq.copies = (s.sl n).seq.copies

section
variable {s t u : State} {n : Fin 16}

theorem SameInputs.refl (n : Fin 16) (s : State) : SameInputs n s s := ⟨fun _ _ _ _ => rfl, rfl⟩

theorem SameInputs.fld (h : SameInputs n s t) (f : Field) (hf : f.reg ∈ inputRegs) (i j : Nat) : t.fld f i j = s.fld f i j := by
  rw [State.fld, State.fld, h.rd _ hf]

theorem SameInputs.inputNew (h : SameInputs n s t) (x : Selector) : inputNew t n x = inputNew s n x := by
  obtain ⟨index, bit, kind, invert⟩ := x
  cases kind <;> simp [Machine.inputNew, h.fld F.SEQ_VNEW_NEW (by decide), h.fld F.SEQ_XNEW_NEW (by decide), h.fld F.SEQ_FLAGS_NEW (by decide)]

theorem SameInputs.inputValue (h : SameInputs n s t) (x : Selector) : inputValue t n x = inputValue s n x := by
  obtain ⟨index, bit, kind, invert⟩ := x
  cases kind <;> simp [Machine.inputValue, h.copies, h.fld F.SEQ_FLAGS_VALUE (by decide)]

theorem SameInputs.descSelectors (h : SameInputs n s t) (d : Nat) : descSelectors t n d = descSelectors s n d := by
  simp [Machine.descSelectors, h.fld F.SEQ_BSEL_SEL_LO (by decide), h.fld F.SEQ_BSEL_SEL_HI (by decide)]

theorem SameInputs.descAllNew (h : SameInputs n s t) (d : Nat) : descAllNew t n d = descAllNew s n d := by
  simp [Machine.descAllNew, h.descSelectors, h.inputNew]

theorem SameInputs.descInput (h : SameInputs n s t) (d : Nat) : descInput t n d = descInput s n d := by
  simp [Machine.descInput, h.descSelectors, h.inputValue]

theorem SameInputs.firstTerm (h : SameInputs n s t) (input dflt left k : Nat) : firstTerm t n input dflt left k = firstTerm s n input dflt left k := by
  induction left generalizing k with
  | zero => rfl
  | succ left ih =>
    simp [Machine.firstTerm, ih, h.fld F.SEQ_BTERM_VALUE (by decide), h.fld F.SEQ_BTERM_CARE (by decide), h.fld F.SEQ_BRES_RES (by decide)]

theorem SameInputs.descResult (h : SameInputs n s t) (d : Nat) : descResult t n d = descResult s n d := by
  simp [Machine.descResult, h.descInput, h.firstTerm, h.fld F.SEQ_BRD_DEFAULT (by decide), h.fld F.SEQ_BRD_COUNT (by decide),
    h.fld F.SEQ_BRD_FIRST (by decide)]

theorem SameInputs.modSeq (h : SameInputs n s t) (f : Sequencer → Sequencer) (hf : ∀ q, (f q).copies = q.copies := by intro; rfl) :
    SameInputs n s (modSeq t n f) :=
  ⟨fun r hr i j => (rd_modSeq ..).trans (h.rd r hr i j), by rw [seq_modSeq, hf, h.copies]⟩

theorem SameInputs.seqIssued (s : State) (n : Fin 16) (i : SeqInstr) : SameInputs n s (seqIssued s n i) :=
  ⟨fun _ hr _ _ => rd_seqIssued s n i ⟨ne_of_mem_of_not_mem hr (by decide), ne_of_mem_of_not_mem hr (by decide)⟩ .., by simp⟩

theorem SameInputs.seqFinish (h : SameInputs n s t) {next : Nat} (hn : next ≤ lastIndex) (p : Nat) : SameInputs n s (seqFinish t n p next) :=
  ⟨fun r hr i j => (rd_seqFinish hn p ⟨ne_of_mem_of_not_mem hr (by decide), ne_of_mem_of_not_mem hr (by decide)⟩ ..).trans (h.rd r hr i j),
    by rw [seq_seqFinish hn, h.copies]⟩

theorem SameInputs.seqHold (h : SameInputs n s t) (p due : Nat) (i : SeqInstr) (code : Nat) : SameInputs n s (seqHold t n p due i code) :=
  ⟨fun r hr i j => (rd_seqHold _ _ _ _ _ _ (ne_of_mem_of_not_mem hr (by decide)) ..).trans (h.rd r hr i j), by rw [seq_seqHold, h.copies]⟩

theorem SameInputs.seqDecision (h : SameInputs n s t) (kind : Nat) (timedOut : Bool) (p next ext : Nat) :
    SameInputs n s (seqDecision t n kind timedOut p next ext) :=
  ⟨fun r hr i j => (rd_seqDecision ..).trans (h.rd r hr i j), by rw [sl_seqDecision, h.copies]⟩

end

/-! ### Setting and clearing a mark -/

/-- The parts of the registers in which the marks stand. -/
abbrev markParts (n : Fin 16) : List Part :=
  [{ reg := .SEQ_VNEW, idx := [n] }, { reg := .SEQ_XNEW, idx := [n] }, F.SEQ_FLAGS_NEW.part [n]]

/-- Two selectors name one input (R131); BIT and INV say how it is read. -/
def Selector.sameInput (x y : Selector) : Bool := x.kind == y.kind && x.index == y.index

section
variable {s t u : State} {n : Fin 16} {l : List Part}

@[simp] theorem slices_setNew (s : State) (n : Fin 16) (x : Selector) (b : Bool) : (setNew s n x b).slices = s.slices := by
  unfold setNew; split <;> simp

@[simp] theorem now_setNew (s : State) (n : Fin 16) (x : Selector) (b : Bool) : (setNew s n x b).now = s.now := by
  unfold setNew; split <;> simp

@[simp] theorem xbar_setNew (s : State) (n : Fin 16) (x : Selector) (b : Bool) : (setNew s n x b).xbar = s.xbar := by
  unfold setNew; split <;> simp

@[simp] theorem sl_setNew (s : State) (n : Fin 16) (x : Selector) (b : Bool) (m : Fin 16) : (setNew s n x b).sl m = s.sl m := by simp [State.sl]

theorem seqFrame.setNew (h : seqFrame l n s t) (x : Selector) (b : Bool) (hl : ∀ y ∈ markParts n, y ∈ l) : seqFrame l n s (setNew t n x b) := by
  unfold Machine.setNew
  split
  · exact h.setFld _ _ (.of_mem_reg (hl _ (.head _)) (by decide))
  · exact h.setFld _ _ (.of_mem_reg (hl _ (.tail _ (.head _))) (by decide))
  · exact h.setFld _ _ (.of_mem_index (hl _ (.tail _ (.tail _ (.head _)))))
  · exact h

/-- A mark that stands in bit `i` of its field reads as it was put, and the other bits of the field stay. -/
theorem testBit_fld_setFld_putBit (s : State) (f : Field) (hf : f.lo + f.width ≤ 32) (a b i : Nat) (v : Bool) {j : Nat} (hj : j < f.width) :
    ((s.setFld f (putBit (s.fld f a b) i v) a b).fld f a b).testBit j = if j = i then v else (s.fld f a b).testBit j := by
  rw [State.fld_setFld_same _ _ _ _ _ _ _ hf, Nat.testBit_mod_two_pow, testBit_putBit, decide_eq_true hj, Bool.true_and]

theorem testBit_fld_of_width_le (s : State) (f : Field) (a b : Nat) {j : Nat} (hj : f.width ≤ j) : (s.fld f a b).testBit j = false :=
  Nat.testBit_lt_two_pow (lt_of_lt_of_le (State.fld_lt s f a b 0 0) (Nat.pow_le_pow_right (by decide) hj))

/-- A mark stands in the word that its index selects: a verdict's or an import's mark that is put. -/
theorem testBit_fld_setFld_putBit_word (s : State) (f : Field) (hf : f.lo + f.width ≤ 32) (hw : f.width = 32) (a i j : Nat) (v : Bool) :
    ((s.setFld f (putBit (s.fld f a (i / 32)) (i % 32) v) a (i / 32)).fld f a (j / 32)).testBit (j % 32)
      = if i = j then v else (s.fld f a (j / 32)).testBit (j % 32) := by
  by_cases hword : j / 32 = i / 32
  · rw [hword, testBit_fld_setFld_putBit s f hf _ _ _ _ (by omega)]
    exact if_congr (by omega) rfl rfl
  · rw [State.fld_setFld_index _ _ _ _ (.inr (.inl hword)), if_neg (fun e => hword (by rw [e]))]

/-- The marks of another kind stand in another register. -/
theorem inputNew_setNew_kind (s : State) (n : Fin 16) {x y : Selector} (b : Bool) (h : x.kind ≠ y.kind) :
    inputNew (setNew s n x b) n y = inputNew s n y := by
  obtain ⟨i, xbit, xkind, xinv⟩ := x
  obtain ⟨j, ybit, ykind, yinv⟩ := y
  cases xkind <;> cases ykind <;> simp (disch := decide) [setNew, inputNew, State.fld_setFld_reg] at h ⊢

/-- What the marks read after one was put. The zero constant has none, and there are eight flags. -/
theorem inputNew_setNew (s : State) (n : Fin 16) (x y : Selector) (b : Bool) (hx : x.kind = .flag → x.index < 8 ∨ b = false) :
    inputNew (setNew s n x b) n y = if x.sameInput y ∧ x.kind ≠ .zero then b else inputNew s n y := by
  by_cases hkind : x.kind = y.kind
  · have hsame : x.sameInput y = decide (x.index = y.index) := by
      rw [Selector.sameInput, beq_iff_eq.2 hkind, Bool.true_and, beq_eq_decide]
    obtain ⟨i, xbit, xkind, xinv⟩ := x
    obtain ⟨j, ybit, ykind, yinv⟩ := y
    obtain rfl : xkind = ykind := hkind
    rw [hsame]
    cases xkind with
    | verdict => simpa [setNew, inputNew] using testBit_fld_setFld_putBit_word s F.SEQ_VNEW_NEW (by decide) rfl n i j b
    | imported => simpa [setNew, inputNew] using testBit_fld_setFld_putBit_word s F.SEQ_XNEW_NEW (by decide) rfl n i j b
    | zero => simp [inputNew]
    | flag =>
      simp only [setNew, inputNew]
      by_cases hj : j < 8
      · rw [testBit_fld_setFld_putBit s F.SEQ_FLAGS_NEW (by decide) n 0 i b hj]
        simp [eq_comm]
      · have hfalse : ∀ t : State, (t.fld F.SEQ_FLAGS_NEW n).testBit j = false := fun t =>
          testBit_fld_of_width_le t F.SEQ_FLAGS_NEW n 0 (Nat.le_of_not_lt hj)
        rw [hfalse, hfalse]
        by_cases hij : i = j
        · have hb : b = false := (hx rfl).resolve_left (hij ▸ hj)
          simp [hb]
        · simp [hij]
  · rw [inputNew_setNew_kind s n b hkind, if_neg]
    simp [Selector.sameInput, hkind]

end

/-! ### The marks of a descriptor's inputs -/

section
variable {s t u : State} {n : Fin 16} {l : List Part}

/-- A mark is no part of a value. -/
theorem inputValue_setNew (s : State) (n : Fin 16) (x y : Selector) (b : Bool) : inputValue (setNew s n x b) n y = inputValue s n y := by
  have hvalue : (setNew s n x b).fld F.SEQ_FLAGS_VALUE n = s.fld F.SEQ_FLAGS_VALUE n := by
    unfold setNew
    split
    · exact State.fld_setFld_reg _ _ _ _ _ _ _ _ _ _ _ _ (by decide)
    · exact State.fld_setFld_reg _ _ _ _ _ _ _ _ _ _ _ _ (by decide)
    · exact State.fld_setFld_bits _ _ _ _ _ _ _ _ _ _ _ _ (by decide) (by decide)
    · rfl
  simp [inputValue, hvalue]

theorem Selector.sameInput_iff (x y : Selector) : x.sameInput y = true ↔ x.kind = y.kind ∧ x.index = y.index := by
  simp [Selector.sameInput]

theorem inputNew_zero (s : State) (n : Fin 16) {x : Selector} (h : x.kind = .zero) : inputNew s n x = false := by
  simp [inputNew, h]

theorem inputNew_setNew_clear (s : State) (n : Fin 16) (x : Selector) : inputNew (setNew s n x false) n x = false := by
  rw [inputNew_setNew s n x x false (fun _ => .inr rfl)]
  split
  · rfl
  · next h => exact inputNew_zero s n (of_not_not fun hz => h ⟨(x.sameInput_iff x).2 ⟨rfl, rfl⟩, hz⟩)

/-- Clearing the marks of a list of inputs clears theirs and no other. -/
theorem inputNew_foldl_clear (xs : List Selector) (s : State) (n : Fin 16) (y : Selector) :
    inputNew (xs.foldl (fun t x => setNew t n x false) s) n y = (inputNew s n y && !xs.any (·.sameInput y)) := by
  induction xs generalizing s with
  | nil => simp
  | cons x xs ih =>
    rw [List.foldl_cons, ih, inputNew_setNew s n x y false (fun _ => .inr rfl), List.any_cons]
    by_cases hsame : x.sameInput y = true
    · by_cases hzero : x.kind = .zero
      · have hy : y.kind = .zero := ((x.sameInput_iff y).1 hsame).1 ▸ hzero
        simp [inputNew_zero s n hy, hzero]
      · simp [hsame, hzero]
    · simp [hsame]

theorem inputNew_descClear (s : State) (n : Fin 16) (d : Nat) (y : Selector) :
    inputNew (descClear s n d) n y = (inputNew s n y && !(descSelectors s n d).any (·.sameInput y)) :=
  inputNew_foldl_clear _ s n y

theorem inputNew_descClear_mem {d : Nat} {x : Selector} (h : x ∈ descSelectors s n d) : inputNew (descClear s n d) n x = false := by
  have : (descSelectors s n d).any (·.sameInput x) = true := List.any_eq_true.2 ⟨x, h, (x.sameInput_iff x).2 ⟨rfl, rfl⟩⟩
  rw [inputNew_descClear, this, Bool.not_true, Bool.and_false]

theorem inputNew_descClear_other {d : Nat} {x : Selector}
    (h : (descSelectors s n d).all (fun y => decide (y.kind ≠ x.kind ∨ y.index ≠ x.index)) = true) :
    inputNew (descClear s n d) n x = inputNew s n x := by
  have : (descSelectors s n d).any (·.sameInput x) = false := by
    refine List.any_eq_false.2 fun y hy hsame => ?_
    obtain ⟨hk, hi⟩ := (y.sameInput_iff x).1 hsame
    exact (of_decide_eq_true (List.all_eq_true.1 h y hy)).elim (· hk) (· hi)
  rw [inputNew_descClear, this, Bool.not_false, Bool.and_true]

@[simp] theorem slices_descClear (s : State) (n : Fin 16) (d : Nat) : (descClear s n d).slices = s.slices :=
  List.foldlRecOn (motive := fun (t : State) => t.slices = s.slices) _ _ rfl fun (t : State) ht x _ => by rw [slices_setNew, ht]

@[simp] theorem now_descClear (s : State) (n : Fin 16) (d : Nat) : (descClear s n d).now = s.now :=
  List.foldlRecOn (motive := fun (t : State) => t.now = s.now) _ _ rfl fun (t : State) ht x _ => by rw [now_setNew, ht]

@[simp] theorem sl_descClear (s : State) (n : Fin 16) (d : Nat) (m : Fin 16) : (descClear s n d).sl m = s.sl m := by simp [State.sl]

theorem seqFrame.descClear (h : seqFrame l n s t) (d : Nat) (hl : ∀ y ∈ markParts n, y ∈ l) : seqFrame l n s (descClear t n d) :=
  h.foldl _ (fun _ x ht => ht.setNew x false hl) _

/-- The marks stand in three registers. -/
theorem ne_of_mem_markParts {r : Reg} (hr : r ∉ [Reg.SEQ_VNEW, .SEQ_XNEW, .SEQ_FLAGS]) : ∀ x ∈ markParts n, x.reg ≠ r := by
  rintro x hx rfl
  exact hr (List.mem_map_of_mem (f := Part.reg) hx)

theorem rd_descClear (s : State) (n : Fin 16) (d : Nat) {r : Reg} (hr : r ∉ [Reg.SEQ_VNEW, .SEQ_XNEW, .SEQ_FLAGS]) (i j k m : Nat) :
    (descClear s n d).rd r i j k m = s.rd r i j k m :=
  ((seqFrame.refl (markParts n) n s).descClear d fun _ h => h).1.rd_eq (ne_of_mem_markParts hr) ..

theorem SeqTakes.descClear (h : SeqTakes l n s u) (d : Nat) (hl : ∀ y ∈ markParts n, y ∈ l) : SeqTakes l n s (descClear u n d) where
  frame := h.frame.descClear d fun y hy => List.mem_append_right [_, _, _, _] (hl y hy)
  counts := (State.pair_congr (rd_descClear u n d (by decide) ..) (rd_descClear u n d (by decide) ..)).trans h.counts
  stepping := by rw [sl_descClear, h.stepping]
  pc := by rw [seqPc, State.fld, rd_descClear u n d (by decide)]; exact h.pc
  now := (now_descClear ..).trans h.now

end

/-! ### EMIT, EMITL and CLRV -/

section
variable {s : State} {n : Fin 16} (hc : seqCanIssue s n = true) (hp : seqPc s n < lastIndex)
include hc hp

theorem seqIssueNow_emit {words : List EventWord} (hw : words.all eventOk = true) :
    seqIssueNow s n (.emit words) = seqFinish (seqSchedule (seqIssued s n (.emit words)) n words) n (seqPc s n) (seqPc s n + 1) :=
  seqIssueNow_eq hc hp.le (by rw [issueCheck, if_pos hw])

theorem seqIssueNow_emitl {words : List EventWord} (hw : words.all eventOk = true) :
    seqIssueNow s n (.emitl words) = seqFinish (seqSchedule (seqIssued s n (.emitl words)) n words) n (seqPc s n) (seqPc s n + 1) :=
  seqIssueNow_eq hc hp.le (by rw [issueCheck, if_pos hw])

theorem seqIssueNow_clrv {d : BitVec 6} (hd : descOk s n d.toNat = true) :
    seqIssueNow s n (.clrv d) = seqFinish (descClear (seqIssued s n (.clrv d)) n d.toNat) n (seqPc s n) (seqPc s n + 1) :=
  seqIssueNow_eq hc hp.le (by rw [issueCheck, if_pos hd])

omit hc in
/-- What EMIT and EMITL leave: their words are scheduled behind the events that wait. -/
theorem seqMoves_seqSchedule (i : SeqInstr) (words : List EventWord) :
    let t := seqFinish (seqSchedule (seqIssued s n i) n words) n (seqPc s n) (seqPc s n + 1)
    seqMoves s t n (seqPc s n + 1) ∧ seqCounts s t n ∧
      (t.sl n).seq.events = (s.sl n).seq.events ++ (words.filter fun w => w.unit ≠ 0).map (fun w =>
        { due := s.now + 1 + w.offset.toNat, unit := w.unit, act := w.act, data := w.data }) ∧
      seqFrame (issueParts n []) n s t :=
  ((SeqTakes.seqIssued s n i []).modSeq _).finish_and hp _ (by simp [seq_seqFinish hp.nat_succ_le, seqSchedule])

end

/-! ### The latch of a verdict (R129) -/

section
variable {s t : State} {n : Fin 16}

theorem NMap.at_to_same (m : NMap) (k v : Nat) : (m.to k v).at k = v := by simp [NMap.at, NMap.to, SMap.get_put]

/-- A journal record of a verdict changes the journal only. -/
theorem journalVerdict_eq (s : State) (n v value : Nat) : ∃ x, journalVerdict s n v value = { s with rpl := x } := by
  unfold journalVerdict State.journal
  dsimp only
  split
  · exact ⟨_, rfl⟩
  · split
    · exact ⟨_, rfl⟩
    · split <;> exact ⟨_, rfl⟩

@[simp] theorem regs_journalVerdict (s : State) (n v value : Nat) : (journalVerdict s n v value).regs = s.regs := by
  obtain ⟨x, hx⟩ := journalVerdict_eq s n v value
  rw [hx]

@[simp] theorem slices_journalVerdict (s : State) (n v value : Nat) : (journalVerdict s n v value).slices = s.slices := by
  obtain ⟨x, hx⟩ := journalVerdict_eq s n v value
  rw [hx]

@[simp] theorem cstore_journalVerdict (s : State) (n v value : Nat) : (journalVerdict s n v value).cstore = s.cstore := by
  obtain ⟨x, hx⟩ := journalVerdict_eq s n v value
  rw [hx]

@[simp] theorem xbar_journalVerdict (s : State) (n v value : Nat) : (journalVerdict s n v value).xbar = s.xbar := by
  obtain ⟨x, hx⟩ := journalVerdict_eq s n v value
  rw [hx]

/-- A verdict that is due now and meant for this slice alone leaves its flight and becomes the slice's copy. -/
theorem verdictLatch_of_due {v : Fin 1024} {f : VerdictFlight} (hflight : s.xbar.flight = [f]) (hfor : f.isFor (.verdict v) = true)
    (hsl : f.slices = BitVec.ofNat 16 (2 ^ n.val)) (hdue : f.due = s.now) (himp : f.imported = false) (hiso : (s.sl n).isolated = false)
    (hrel : (s.sl n).reloading = false) (hrep : s.rpl.replaying = false) :
    verdictLatch s n (.verdict v) =
      journalVerdict (seqLatch (modXbar s fun x => { x with flight := [] }) n (inputSel (.verdict v)) f.value) n f.v f.value := by
  have hbit : f.slices.getLsbD n.val = true := by
    rw [hsl, BitVec.getLsbD_ofNat, Nat.testBit_two_pow_self, decide_eq_true n.isLt]; rfl
  have hrest : f.slices &&& ~~~(BitVec.ofNat 16 (2 ^ n.val)) = 0 := by rw [hsl, BitVec.and_not_self]
  have hfind : s.xbar.flight.find? (fun f => f.isFor (.verdict v) ∧ f.slices.getLsbD n.val ∧ f.due ≤ s.now) = some f := by
    rw [hflight]; simp [hfor, hbit, hdue]
  have hx : modXbar s (fun x => { x with flight := x.flight.erase f }) = modXbar s (fun x => { x with flight := [] }) := by
    simp [modXbar, hflight]
  have hopen : ¬((s.sl n).isolated = true ∨ (s.sl n).reloading = true ∨ s.rpl.replaying = true) := by simp [hiso, hrel, hrep]
  rw [verdictLatch, hfind]
  simp only [hrest, if_true, hx, himp]
  exact (if_neg (by rw [hdue]; exact lt_irrefl _)).trans (if_neg hopen)

theorem seqLatch_of_not_new {x : Selector} (h : inputNew s n x = false) (value : Nat) :
    seqLatch s n x value = setNew (modSeq s n fun q =>
      { q with copies := q.copies.to (if x.kind == .imported then 1024 + x.index else x.index) (value % 4) }) n x true := by
  simp [seqLatch, h]

theorem inputValue_inputSel_verdict (s : State) (n : Fin 16) (v : Fin 1024) :
    inputValue s n (inputSel (.verdict v)) = (s.sl n).seq.copies.at v.val % 4 := rfl

/-- The latch of a verdict that was not new: the copy, its mark, and no other register. -/
theorem seqLatch_verdict {v : Fin 1024} (h : inputNew s n (inputSel (.verdict v)) = false) {value : Nat} (hval : value < 4) :
    let t := seqLatch s n (inputSel (.verdict v)) value
    inputValue t n (inputSel (.verdict v)) = value ∧ inputNew t n (inputSel (.verdict v)) = true ∧ t.xbar = s.xbar ∧
      seqFrame [{ reg := .SEQ_VNEW, idx := [n] }] n s t := by
  rw [seqLatch_of_not_new h]
  refine ⟨?_, ?_, ?_, ?_⟩
  · rw [inputValue_inputSel_verdict, sl_setNew, seq_modSeq]
    exact (congrArg (· % 4) (NMap.at_to_same _ v.val _)).trans (by omega)
  · rw [inputNew_setNew _ n _ _ true (fun hk => by cases hk), if_pos ⟨(Selector.sameInput_iff _ _).2 ⟨rfl, rfl⟩, nofun⟩]
  · rw [xbar_setNew]; rfl
  · exact ((seqFrame.refl _ n s).modSeq _).setFld F.SEQ_VNEW_NEW _ (.of_mem_reg (.head _) (by decide))

theorem SameInputs.journalVerdict (h : SameInputs n s t) (src v value : Nat) : SameInputs n s (journalVerdict t src v value) :=
  ⟨fun r hr i j => by rw [← h.rd r hr i j]; simp [State.rd], by rw [← h.copies]; simp [State.sl]⟩

end

/-! ### SEQ_CTRL.CLR_NEW (R156) -/

section
variable {s t : State} {n : Fin 16} {l : List Part}

theorem fld_foldl_setFld_reg (xs : List Nat) (s : State) {f g : Field} (hg : g.reg ≠ f.reg) (v n i j : Nat) :
    (xs.foldl (fun t r => t.setFld f v n r) s).fld g i j = s.fld g i j :=
  List.foldlRecOn (motive := fun (t : State) => t.fld g i j = s.fld g i j) _ _ rfl fun (t : State) ht r _ => by
    rw [State.fld_setFld_reg _ _ _ _ _ _ _ _ _ _ _ _ hg, ht]

/-- Clearing a field of the registers that a list of indices names clears it there. -/
theorem fld_foldl_setFld_zero (xs : List Nat) (s : State) {f : Field} (hf : f.lo + f.width ≤ 32) (n : Nat) {r : Nat} (hr : r ∈ xs) :
    (xs.foldl (fun t r => t.setFld f 0 n r) s).fld f n r = 0 := by
  have hset : ∀ t : State, (t.setFld f 0 n r).fld f n r = 0 := fun t => by rw [State.fld_setFld_same _ _ _ _ _ _ _ hf, Nat.zero_mod]
  have hkeep : ∀ (ys : List Nat) (t : State), t.fld f n r = 0 → (ys.foldl (fun t r => t.setFld f 0 n r) t).fld f n r = 0 := by
    intro ys t h0
    refine List.foldlRecOn (motive := fun (t : State) => t.fld f n r = 0) _ _ h0 fun (t : State) ht y _ => ?_
    by_cases hy : r = y
    · rw [← hy, hset]
    · rw [State.fld_setFld_index _ _ _ _ (.inr (.inl hy)), ht]
  obtain ⟨before, after, rfl⟩ := List.append_of_mem hr
  rw [List.foldl_append, List.foldl_cons]
  exact hkeep after _ (hset _)

theorem seqFrame_seqClrNew (s : State) (n : Fin 16) : seqFrame (markParts n) n s (seqClrNew s n) := by
  have hv : seqFrame (markParts n) n s ((List.range 32).foldl (fun s r => s.setFld F.SEQ_VNEW_NEW 0 n r) s) :=
    (seqFrame.refl _ n s).foldl _ (fun _ _ ht => ht.setFld F.SEQ_VNEW_NEW 0 (.of_mem_reg (.head _) (by decide))) _
  have hx := hv.foldl (fun s r => s.setFld F.SEQ_XNEW_NEW 0 n r)
    (fun _ _ ht => ht.setFld _ _ (.of_mem_reg (.tail _ (.head _)) (by decide))) (List.range 8)
  exact hx.setFld _ _ (.of_mem_index (.tail _ (.tail _ (.head _))))

theorem fld_seqClrNew_vnew (s : State) (n : Fin 16) {r : Nat} (hr : r < 32) : (seqClrNew s n).fld F.SEQ_VNEW_NEW n r = 0 := by
  rw [seqClrNew, State.fld_setFld_reg _ _ _ _ _ _ _ _ _ _ _ _ (by decide), fld_foldl_setFld_reg _ _ (by decide)]
  exact fld_foldl_setFld_zero _ s (by decide) n (List.mem_range.2 hr)

theorem fld_seqClrNew_xnew (s : State) (n : Fin 16) {r : Nat} (hr : r < 8) : (seqClrNew s n).fld F.SEQ_XNEW_NEW n r = 0 := by
  rw [seqClrNew, State.fld_setFld_reg _ _ _ _ _ _ _ _ _ _ _ _ (by decide)]
  exact fld_foldl_setFld_zero _ _ (by decide) n (List.mem_range.2 hr)

theorem fld_seqClrNew_flags (s : State) (n : Fin 16) : (seqClrNew s n).fld F.SEQ_FLAGS_NEW n = 0 :=
  State.fld_setFld_same _ _ _ _ _ _ _ (by decide)

end

/-- Settles O10: EMIT and EMITL by `seqMoves_seqSchedule`, CLRV by what `descClear` does to each mark, the verdict by the equation of its latch. -/
theorem seqEventsAndMarks : Obligations.SeqEventsAndMarks := by
  unfold Obligations.SeqEventsAndMarks
  refine ⟨fun s n words hc hp hw => ⟨_, rfl, ?_⟩, fun s n words hc hp hw => ⟨_, rfl, ?_⟩, fun s n d hc hp hd => ⟨_, rfl, ?_⟩,
    fun s n v f hflight hfor hsl hdue himp hval hiso hrel hrep hnew => ⟨_, rfl, ?_⟩, fun s n => ⟨_, rfl, ?_⟩⟩
  · rw [seqIssueNow_emit hc hp hw]
    exact seqMoves_seqSchedule hp _ words
  · rw [seqIssueNow_emitl hc hp hw]
    exact seqMoves_seqSchedule hp _ words
  · rw [seqIssueNow_clrv hc hp hd]
    have hissued := SameInputs.seqIssued s n (.clrv d)
    have hmarks := (SameInputs.refl n (descClear (seqIssued s n (.clrv d)) n d.toNat)).seqFinish hp.nat_succ_le (seqPc s n)
    obtain ⟨hm, hk, hf⟩ := ((SeqTakes.seqIssued s n (.clrv d) (markParts n)).descClear d.toNat fun _ h => h).finish hp (seqPc s n)
    refine ⟨hm, hk, fun x hx => ?_, fun x hx => ?_, hf⟩
    · rw [hmarks.inputNew, inputNew_descClear_mem (by rwa [hissued.descSelectors])]
    · rw [hmarks.inputNew, inputNew_descClear_other (by rwa [hissued.descSelectors]), hissued.inputNew]
  · rw [verdictLatch_of_due hflight hfor hsl hdue himp hiso hrel hrep]
    obtain ⟨hv, hn, hx, hf⟩ := seqLatch_verdict (s := modXbar s fun x => { x with flight := [] }) hnew hval
    have hinputs := (SameInputs.refl n (seqLatch (modXbar s fun x => { x with flight := [] }) n (inputSel (.verdict v)) f.value)).journalVerdict
      n f.v f.value
    refine ⟨by rw [hinputs.inputValue, hv], by rw [hinputs.inputNew, hn], by rw [xbar_journalVerdict, hx]; rfl, ?_⟩
    exact (((seqFrame.refl _ n s).of_eq rfl rfl rfl).trans hf).of_eq (regs_journalVerdict ..) (slices_journalVerdict ..) (cstore_journalVerdict ..)
  · exact ⟨fun r hr => fld_seqClrNew_vnew s n hr, fun r hr => fld_seqClrNew_xnew s n hr, fld_seqClrNew_flags s n, seqFrame_seqClrNew s n⟩

end Sys2Proof.Machine

namespace Sys2Proof.Machine

/-! ## The instructions that block (R134 to R145) -/

section
variable {s u : State} {n : Fin 16} {l : List Part} {q : PendingInstr}

/-- An instruction that ends with a decision: what `u` was changed in by then, SEQ_PC and STATE. -/
theorem seqMoves_decided (h : seqFrame (seqParts n l) n s u) (hs : (u.sl n).seq.stepping = (s.sl n).seq.stepping) {next : Nat}
    (hn : next ≤ lastIndex) (p kind : Nat) (timedOut : Bool) (p' next' ext : Nat) :
    seqMoves s (seqDecision (seqFinish u n p next) n kind timedOut p' next' ext) n next ∧
      seqFrame (seqParts n l) n s (seqDecision (seqFinish u n p next) n kind timedOut p' next' ext) :=
  ⟨seqMoves_seqDecision_seqFinish hs hn .., (h.seqFinish hn p).seqDecision ..⟩

/-! ### Waiting for the condition or the limit -/

/-- A limit lies after the issue; only ELASTIC may name a limit of no beats. -/
theorem issued_lt_seqDeadline {t : Nat} (h : seqDeadline q = some t) (hm : ∀ m, q.instr = .elastic m → m ≠ 0) : q.issued < t := by
  have hpos : ∀ {w : Nat} {b : BitVec w}, b ≠ 0 → 0 < b.toNat := fun hb => Nat.pos_of_ne_zero fun h0 => hb (BitVec.eq_of_toNat_eq (by simpa using h0))
  unfold seqDeadline at h
  split at h
  iterate 4
    · split at h
      · exact nomatch h
      · next hb => exact Option.some.inj h ▸ Nat.lt_add_of_pos_right (hpos hb)
  · next m hi => exact Option.some.inj h ▸ Nat.lt_add_of_pos_right (hpos (hm m hi))
  · exact nomatch h

theorem seqBlockedStep_of_waiting (hr : seqResolve s n = s) (hq : (s.sl n).seq.pend = some q) (hd : ∀ t, seqDeadline q = some t → s.now < t) :
    seqBlockedStep s n = s := by
  rw [seqBlockedStep, hr]
  simp only [hq]
  split
  · next t ht => exact if_neg (Nat.not_le.2 (hd t ht))
  · rfl

theorem seqBlockedStep_of_due (hr : seqResolve s n = s) (hq : (s.sl n).seq.pend = some q) {t : Nat} (hd : seqDeadline q = some t) (ht : t ≤ s.now) :
    seqBlockedStep s n = seqTimeOut s n q := by
  rw [seqBlockedStep, hr]
  simp only [hq, hd, if_pos ht]

/-- An instruction that has just been issued and cannot resolve stays pending. -/
theorem seqBlockedStep_seqHold {p : Nat} {i : SeqInstr} {code : Nat} (hr : seqResolve (seqHold u n p 0 i code) n = seqHold u n p 0 i code)
    (hm : ∀ m, i = .elastic m → m ≠ 0) : seqBlockedStep (seqHold u n p 0 i code) n = seqHold u n p 0 i code :=
  seqBlockedStep_of_waiting hr (congrArg Sequencer.pend (seq_seqHold ..)) fun _ ht => (now_seqHold ..).trans_lt (issued_lt_seqDeadline ht hm)

/-! ### Resolution, an equation per instruction -/

theorem seqResolve_waitv_not_new {sel : BitVec 16} {mask want : BitVec 2} {tmo : Timeout} (hq : (s.sl n).seq.pend = some q)
    (hi : q.instr = .waitv sel mask want tmo) (hnew : inputNew s n (Selector.ofBits sel.toNat) = false) : seqResolve s n = s := by
  simp [seqResolve, hq, hi, hnew]

theorem seqResolve_waitv_match {sel : BitVec 16} {mask want : BitVec 2} {tmo : Timeout} (hq : (s.sl n).seq.pend = some q)
    (hi : q.instr = .waitv sel mask want tmo) (hnew : inputNew s n (Selector.ofBits sel.toNat) = true)
    (hval : inputValue s n (Selector.ofBits sel.toNat) &&& mask.toNat = want.toNat) :
    seqResolve s n = seqDecision (seqFinish (setNew s n (Selector.ofBits sel.toNat) false) n q.index (q.index + 1)) n 1 false q.index
      (q.index + 1) 0 := by
  simp [seqResolve, hq, hi, hnew, inputValue_setNew, hval]

theorem seqResolve_sync {kind : BitVec 2} {id : BitVec 8} {tmo : Timeout} (hq : (s.sl n).seq.pend = some q) (hi : q.instr = .sync kind id tmo)
    (hk : kind ≠ 2) :
    seqResolve s n = if syncEdge s kind id then
      seqDecision (seqFinish s n q.index (q.index + 1)) n 2 false q.index (q.index + 1) 0 else s := by
  simp only [seqResolve, hq, hi, if_neg hk]

theorem seqResolve_elastic {m : BitVec 24} (hq : (s.sl n).seq.pend = some q) (hi : q.instr = .elastic m) :
    seqResolve s n = if vecReady s n then
      seqDecision (seqFinish s n q.index (q.index + 1)) n 4 false q.index (q.index + 1) (s.now - q.issued) else s := by
  simp [seqResolve, hq, hi]

theorem seqResolve_branch {d : BitVec 6} {tmo : BitVec 16} {t0 t1 t2 t3 : BitVec 18} (hq : (s.sl n).seq.pend = some q)
    (hi : q.instr = .branch d true tmo t0 t1 t2 t3) :
    seqResolve s n = if descAllNew s n d.toNat then branchTake s n q.index d.toNat t0 t1 t2 t3 true else s := by
  simp [seqResolve, hq, hi]

theorem seqResolve_cmpr_no_hit {adc : Bool} {ch : BitVec 6} {flag : BitVec 3} {lim : BitVec 4} {tmo : Timeout} (hq : (s.sl n).seq.pend = some q)
    (hi : q.instr = .cmpr adc ch flag lim tmo) (hhit : q.hit = none) : seqResolve s n = s := by
  simp [seqResolve, hq, hi, hhit]

/-! ### Timeouts -/

/-- SEQ_TIMEOUTS counts and TIMEOUT is set (R136, R138, R139, R143). -/
def seqTimedOut (s : State) (n : Fin 16) : State := (s.count .SEQ_TIMEOUTS n).setFld F.SEQ_STATUS_TIMEOUT 1 n

theorem seqMoves_timedOut {next : Nat} (hn : next ≤ lastIndex) (p kind p' next' ext : Nat) :
    let t := seqDecision (seqFinish (seqTimedOut s n) n p next) n kind true p' next' ext
    seqMoves s t n next ∧ t.rd .SEQ_TIMEOUTS n = satCount (s.rd .SEQ_TIMEOUTS n) 1 ∧ t.fld F.SEQ_STATUS_TIMEOUT n = 1 ∧
      seqFrame (seqParts n [F.SEQ_STATUS_TIMEOUT.part [n], { reg := .SEQ_TIMEOUTS, idx := [n] }]) n s t := by
  have hframe : seqFrame (seqParts n [F.SEQ_STATUS_TIMEOUT.part [n], { reg := .SEQ_TIMEOUTS, idx := [n] }]) n s (seqTimedOut s n) :=
    ((seqFrame.refl _ n s).count _ (by simp)).setFld _ _ (.of_mem_index (by simp))
  obtain ⟨hm, hf⟩ := seqMoves_decided (s := s) hframe rfl hn p kind true p' next' ext
  refine ⟨hm, ?_, ?_, hf⟩
  · rw [rd_seqDecision, rd_seqFinish hn _ (by decide), seqTimedOut, State.rd_setFld_reg _ _ _ _ _ _ _ _ _ _ _ _ (by decide), State.rd_count_same]
  · rw [fld_seqDecision, fld_seqFinish hn _ (by decide)]
    exact State.fld_setFld_same _ _ _ _ _ _ _ (by decide)

theorem timeoutTake_of_target {t : Timeout} (h : t.stop = false) (p kind err : Nat) :
    timeoutTake s n p kind err t = seqDecision (seqFinish (seqTimedOut s n) n p t.target.toNat) n kind true p t.target.toNat 0 := by
  simp [timeoutTake, seqTimedOut, h]

end

/-! ### Issue, an equation per instruction that then waits -/

section
variable {s t : State} {n : Fin 16}

@[simp] theorem trg_seqHold (s : State) (n : Fin 16) (p due : Nat) (i : SeqInstr) (code : Nat) : (seqHold s n p due i code).trg = s.trg := by
  rw [seqHold, State.setFld_trg, modSeq, State.modSl_trg]

@[simp] theorem trg_seqIssued (s : State) (n : Fin 16) (i : SeqInstr) : (seqIssued s n i).trg = s.trg := by
  rw [seqIssued, modSeq, State.modSl_trg, State.pairAdd_trg, modSeq, State.modSl_trg]

theorem syncEdge_congr (htrg : t.trg = s.trg) (hnow : t.now = s.now) (kind : BitVec 2) (id : BitVec 8) :
    syncEdge t kind id = syncEdge s kind id := by
  rw [syncEdge, syncEdge, htrg, hnow]

/-- The readiness of the streamer reads the registers of its ring (R182). -/
theorem vecReady_congr (h : ∀ r ∈ [Reg.VEC_RING_LINES, .VEC_RING_WP, .VEC_RING_RP, .VEC_RING_READY], ∀ i, t.rd r i = s.rd r i) :
    vecReady t n = vecReady s n := by
  have hfld : ∀ f : Field, f.reg ∈ [Reg.VEC_RING_LINES, .VEC_RING_WP, .VEC_RING_RP, .VEC_RING_READY] → ∀ i, t.fld f i = s.fld f i :=
    fun f hf i => by rw [State.fld, State.fld, h f.reg hf]
  have hfill : t.ringFill n = s.ringFill n := by
    simp [State.ringFill, hfld F.VEC_RING_LINES_LINES (by decide), hfld F.VEC_RING_WP_OFFSET (by decide), hfld F.VEC_RING_RP_OFFSET (by decide)]
  rw [vecReady, vecReady, State.streamReady, State.streamReady, hfill, State.flag, State.flag, hfld _ (by decide), hfld _ (by decide),
    hfld _ (by decide)]

theorem vecReady_seqHold_seqIssued (s : State) (n : Fin 16) (p due : Nat) (i : SeqInstr) (code : Nat) :
    vecReady (seqHold (seqIssued s n i) n p due i code) n = vecReady s n :=
  vecReady_congr fun _ hr _ => (rd_seqHold _ _ _ _ _ _ (ne_of_mem_of_not_mem hr (by decide)) ..).trans
    (rd_seqIssued s n i ⟨ne_of_mem_of_not_mem hr (by decide), ne_of_mem_of_not_mem hr (by decide)⟩ ..)

variable (hc : seqCanIssue s n = true) (hp : seqPc s n < lastIndex)
include hc hp

theorem seqIssueNow_waitv {sel : BitVec 16} {mask want : BitVec 2} {tmo : Timeout} (hi : issueCheck s n (seqPc s n) (.waitv sel mask want tmo) = none)
    (hnew : inputNew s n (Selector.ofBits sel.toNat) = false) :
    seqIssueNow s n (.waitv sel mask want tmo) =
      seqHold (seqIssued s n (.waitv sel mask want tmo)) n (seqPc s n) 0 (.waitv sel mask want tmo) SeqCode.blocked := by
  rw [seqIssueNow_eq hc hp.le hi]
  refine seqBlockedStep_seqHold (seqResolve_waitv_not_new (congrArg Sequencer.pend (seq_seqHold ..)) rfl ?_) nofun
  rw [((SameInputs.seqIssued s n _).seqHold ..).inputNew, hnew]

theorem seqIssueNow_sync {kind : BitVec 2} {id : BitVec 8} {tmo : Timeout} (hi : issueCheck s n (seqPc s n) (.sync kind id tmo) = none)
    (hk : kind ≠ 2) (hedge : syncEdge s kind id = false) :
    seqIssueNow s n (.sync kind id tmo) =
      seqHold (seqIssued s n (.sync kind id tmo)) n (seqPc s n) 0 (.sync kind id tmo) SeqCode.blocked := by
  rw [seqIssueNow_eq hc hp.le hi]
  simp only [seqEffect, if_neg hk]
  refine seqBlockedStep_seqHold ?_ nofun
  rw [seqResolve_sync (congrArg Sequencer.pend (seq_seqHold ..)) rfl hk, syncEdge_congr (s := s) (by simp) (by simp), hedge,
    if_neg Bool.false_ne_true]

/-- A streamer that is not ready holds ELASTIC, and the beat counts (R145). -/
theorem seqIssueNow_elastic {m : BitVec 24} (hm : m ≠ 0) (hready : vecReady s n = false) :
    seqIssueNow s n (.elastic m) =
      (seqHold (seqIssued s n (.elastic m)) n (seqPc s n) 0 (.elastic m) SeqCode.waiting).count .SEQ_ELASTIC_BEATS n := by
  have hpend := congrArg Sequencer.pend (seq_seqHold (seqIssued s n (.elastic m)) n (seqPc s n) 0 (.elastic m) SeqCode.waiting)
  have hstays : seqBlockedStep (seqHold (seqIssued s n (.elastic m)) n (seqPc s n) 0 (.elastic m) SeqCode.waiting) n = _ :=
    seqBlockedStep_seqHold (by rw [seqResolve_elastic hpend rfl, vecReady_seqHold_seqIssued, hready, if_neg Bool.false_ne_true])
      (fun _ h => SeqInstr.elastic.inj h ▸ hm)
  rw [seqIssueNow_eq hc hp.le rfl]
  simp only [seqEffect, hstays]
  rw [if_pos ⟨by rw [hpend]; rfl, hm⟩]

theorem seqIssueNow_cmpr {adc : Bool} {ch : BitVec 6} {flag : BitVec 3} {lim : BitVec 4} {tmo : Timeout}
    (hi : issueCheck s n (seqPc s n) (.cmpr adc ch flag lim tmo) = none) :
    seqIssueNow s n (.cmpr adc ch flag lim tmo) =
      seqHold (seqIssued s n (.cmpr adc ch flag lim tmo)) n (seqPc s n) 0 (.cmpr adc ch flag lim tmo) SeqCode.blocked :=
  seqIssueNow_eq hc hp.le hi

end

/-- A count beside the sequencer's own registers leaves what is held. -/
theorem seqHolds_count {s t : State} {n : Fin 16} {i : SeqInstr} {due code : Nat} (h : seqHolds s t n i due code) {r : Reg}
    (hr : r ≠ .SEQ_STATUS ∧ r ≠ .SEQ_ISSUED_LO ∧ r ≠ .SEQ_ISSUED_HI) : seqHolds s (t.count r n) n i due code :=
  ⟨by rw [State.sl_count]; exact h.1, (State.fld_count_reg _ _ _ _ _ _ _ _ _ _ _ hr.1.symm).trans h.2.1,
    (State.pair_congr (State.rd_count_reg _ _ _ _ _ _ _ _ _ _ _ hr.2.1.symm) (State.rd_count_reg _ _ _ _ _ _ _ _ _ _ _ hr.2.2.symm)).trans h.2.2⟩

/-! ### The rows of the table that resolve or time out -/

section
variable {s : State} {n : Fin 16} {q : PendingInstr} (hq : (s.sl n).seq.pend = some q)
include hq

section
variable {sel : BitVec 16} {mask want : BitVec 2} {tmo : Timeout} (hi : q.instr = .waitv sel mask want tmo)
include hi

theorem exec_waitvResolve : exec (.waitvResolve n) s = .next (seqResolve s n) := by
  show execWaitvResolve n s = _
  rw [execWaitvResolve, pend_eq hq hi]

theorem exec_waitvTimeout : exec (.waitvTimeout n) s = .next (seqBlockedStep s n) := by
  show execWaitvTimeout n s = _
  rw [execWaitvTimeout, pend_eq hq hi]

end

section
variable {kind : BitVec 2} {id : BitVec 8} {tmo : Timeout} (hi : q.instr = .sync kind id tmo)
include hi

theorem exec_syncResolve : exec (.syncResolve n) s = .next (seqResolve s n) := by
  show execSyncResolve n s = _
  rw [execSyncResolve, pend_eq hq hi]

theorem exec_syncTimeout : exec (.syncTimeout n) s = .next (seqBlockedStep s n) := by
  show execSyncTimeout n s = _
  rw [execSyncTimeout, pend_eq hq hi]

end

section
variable {m : BitVec 24} (hi : q.instr = .elastic m)
include hi

theorem exec_elasticResolve : exec (.elasticResolve n) s = .next (seqResolve s n) := by
  show execElasticResolve n s = _
  rw [execElasticResolve, pend_eq hq hi]

theorem exec_elasticExpired : exec (.elasticExpired n) s = .next (seqBlockedStep s n) := by
  show execElasticExpired n s = _
  rw [execElasticExpired, pend_eq hq hi]

end

section
variable {d : BitVec 6} {newMode : Bool} {timeout : BitVec 16} {t0 t1 t2 t3 : BitVec 18} (hi : q.instr = .branch d newMode timeout t0 t1 t2 t3)
include hi

theorem exec_branchResolve : exec (.branchResolve n) s = .next (seqResolve s n) := by
  show execBranchResolve n s = _
  rw [execBranchResolve, pend_eq hq hi]

theorem exec_branchTimeout : exec (.branchTimeout n) s = .next (seqBlockedStep s n) := by
  show execBranchTimeout n s = _
  rw [execBranchTimeout, pend_eq hq hi]

end

section
variable {adc : Bool} {ch : BitVec 6} {flag : BitVec 3} {lim : BitVec 4} {tmo : Timeout} (hi : q.instr = .cmpr adc ch flag lim tmo)
include hi

theorem exec_cmprResolve : exec (.cmprResolve n) s = .next (seqCmprEnd s n) := by
  show execCmprResolve n s = _
  rw [execCmprResolve, pend_eq hq hi]

theorem exec_cmprTimeout (hhit : q.hit = none) : exec (.cmprTimeout n) s = .next (seqBlockedStep s n) := by
  show execCmprTimeout n s = _
  rw [execCmprTimeout, pend_eq hq hi, hhit]
  rfl

end

end

/-! ### A timeout that takes its target, and the end of ELASTIC -/

section
variable {s : State} {n : Fin 16} {q : PendingInstr} (hq : (s.sl n).seq.pend = some q)
include hq

theorem seqBlockedStep_waitv_due {sel : BitVec 16} {mask want : BitVec 2} {tmo : Timeout} (hi : q.instr = .waitv sel mask want tmo)
    (hnew : inputNew s n (Selector.ofBits sel.toNat) = false) (hb : tmo.beats ≠ 0) (hd : q.issued + tmo.beats.toNat ≤ s.now)
    (ht : tmo.stop = false) :
    seqBlockedStep s n = seqDecision (seqFinish (seqTimedOut s n) n q.index tmo.target.toNat) n 1 true q.index tmo.target.toNat 0 := by
  rw [seqBlockedStep_of_due (seqResolve_waitv_not_new hq hi hnew) hq (by simp only [seqDeadline, hi, if_neg hb]) hd, seqTimeOut, hi]
  exact timeoutTake_of_target ht ..

theorem seqBlockedStep_sync_due {kind : BitVec 2} {id : BitVec 8} {tmo : Timeout} (hi : q.instr = .sync kind id tmo) (hk : kind ≠ 2)
    (hedge : syncEdge s kind id = false) (hb : tmo.beats ≠ 0) (hd : q.issued + tmo.beats.toNat ≤ s.now) (ht : tmo.stop = false) :
    seqBlockedStep s n = seqDecision (seqFinish (seqTimedOut s n) n q.index tmo.target.toNat) n 2 true q.index tmo.target.toNat 0 := by
  have hr : seqResolve s n = s := by rw [seqResolve_sync hq hi hk, hedge, if_neg Bool.false_ne_true]
  rw [seqBlockedStep_of_due hr hq (by simp only [seqDeadline, hi, if_neg hb]) hd, seqTimeOut, hi]
  simp only [if_neg hk]
  exact timeoutTake_of_target ht ..

theorem seqBlockedStep_cmpr_due {adc : Bool} {ch : BitVec 6} {flag : BitVec 3} {lim : BitVec 4} {tmo : Timeout}
    (hi : q.instr = .cmpr adc ch flag lim tmo) (hhit : q.hit = none) (hb : tmo.beats ≠ 0) (hd : q.issued + tmo.beats.toNat ≤ s.now)
    (ht : tmo.stop = false) :
    seqBlockedStep s n = seqDecision (seqFinish (seqTimedOut s n) n q.index tmo.target.toNat) n 3 true q.index tmo.target.toNat 0 := by
  rw [seqBlockedStep_of_due (seqResolve_cmpr_no_hit hq hi hhit) hq (by simp only [seqDeadline, hi, if_neg hb]) hd, seqTimeOut, hi]
  exact timeoutTake_of_target ht ..

theorem seqBlockedStep_branch_due {d : BitVec 6} {timeout : BitVec 16} {t0 t1 t2 t3 : BitVec 18} (hi : q.instr = .branch d true timeout t0 t1 t2 t3)
    (hnew : descAllNew s n d.toNat = false) (hb : timeout ≠ 0) (hd : q.issued + timeout.toNat ≤ s.now) :
    seqBlockedStep s n = seqDecision (seqFinish (seqTimedOut s n) n q.index (q.index + 1)) n 0 true q.index (q.index + 1) 0 := by
  have hr : seqResolve s n = s := by rw [seqResolve_branch hq hi, hnew, if_neg Bool.false_ne_true]
  rw [seqBlockedStep_of_due hr hq (by simp only [seqDeadline, hi, if_neg hb]) hd, seqTimeOut, hi]
  rfl

theorem seqBlockedStep_elastic_due {m : BitVec 24} (hi : q.instr = .elastic m) (hready : vecReady s n = false) (hd : q.issued + m.toNat ≤ s.now) :
    seqBlockedStep s n = seqDecision (seqFinish (s.setFld F.SEQ_STATUS_ELASTIC_EXPIRED 1 n) n q.index (q.index + 1)) n 4 true q.index
      (q.index + 1) m.toNat := by
  have hr : seqResolve s n = s := by rw [seqResolve_elastic hq hi, hready, if_neg Bool.false_ne_true]
  rw [seqBlockedStep_of_due hr hq (by simp only [seqDeadline, hi]) hd, seqTimeOut, hi]

end

/-- Settles O13: the equation of each issue, resolution and timeout, and what `seqHold`, `seqMoves_decided` and `seqMoves_timedOut` say of its
right side. -/
theorem seqVerdictWaitsAndSyncs : Obligations.SeqVerdictWaitsAndSyncs := by
  unfold Obligations.SeqVerdictWaitsAndSyncs
  refine ⟨fun s n sel mask want tmo hc hp hi hnew => ⟨_, rfl, ?_⟩,
    fun s n q sel mask want tmo hq hi hp hnew hval _ => ⟨_, exec_waitvResolve hq hi, ?_⟩,
    fun s n q sel mask want tmo hq hi hnew hb hd hs ht => ⟨_, exec_waitvTimeout hq hi, ?_⟩,
    fun s n kind id tmo hc hp hi hk hedge => ⟨_, rfl, ?_⟩, fun s n q kind id tmo hq hi hp hk hedge => ⟨_, exec_syncResolve hq hi, ?_⟩,
    fun s n q kind id tmo hq hi hk hedge hb hd hs ht => ⟨_, exec_syncTimeout hq hi, ?_⟩, fun s n m hc hp hm hready => ⟨_, rfl, ?_⟩,
    fun s n q m hq hi hp hready => ⟨_, exec_elasticResolve hq hi, ?_⟩, fun s n q m hq hi hp hready hd => ⟨_, exec_elasticExpired hq hi, ?_⟩⟩
  · rw [seqIssueNow_waitv hc hp hi hnew]
    exact (SeqTakes.seqIssued s n _ []).hold _ _ (by decide)
  · rw [seqResolve_waitv_match hq hi hnew hval]
    obtain ⟨hm, hf⟩ := seqMoves_decided (s := s) (l := markParts n)
      ((seqFrame.refl _ n s).setNew (Selector.ofBits sel.toNat) false fun _ h => List.mem_append_right [_, _] h) (by rw [sl_setNew])
      hp q.index 1 false q.index (q.index + 1) 0
    refine ⟨hm, ?_, hf⟩
    rw [(((SameInputs.refl n _).seqFinish hp.nat_succ_le _).seqDecision ..).inputNew, inputNew_setNew_clear]
  · rw [seqBlockedStep_waitv_due hq hi hnew hb hd hs]
    exact seqMoves_timedOut ht ..
  · rw [seqIssueNow_sync hc hp hi hk hedge]
    exact (SeqTakes.seqIssued s n _ []).hold _ _ (by decide)
  · rw [seqResolve_sync hq hi hk, if_pos hedge]
    exact seqMoves_decided (l := []) (.refl _ n s) rfl hp ..
  · rw [seqBlockedStep_sync_due hq hi hk hedge hb hd hs]
    exact seqMoves_timedOut ht ..
  · rw [seqIssueNow_elastic hc hp hm hready]
    obtain ⟨hh, hpc, hf⟩ := (SeqTakes.seqIssued s n (.elastic m) [{ reg := .SEQ_ELASTIC_BEATS, idx := [n.val] }]).hold 0 (.elastic m)
      (code := SeqCode.waiting) (by decide)
    refine ⟨seqHolds_count hh (by decide), (State.fld_count_reg _ _ _ _ _ _ _ _ _ _ _ (by decide)).trans hpc, ?_, hf.count _ (by simp)⟩
    rw [State.rd_count_same, rd_seqHold _ _ _ _ _ _ (by decide), rd_seqIssued s n _ (by decide)]
  · rw [seqResolve_elastic hq hi, if_pos hready]
    exact seqMoves_decided (l := []) (.refl _ n s) rfl hp ..
  · rw [seqBlockedStep_elastic_due hq hi hready hd]
    obtain ⟨hm, hf⟩ := seqMoves_decided (s := s) (l := [F.SEQ_STATUS_ELASTIC_EXPIRED.part [n]])
      ((seqFrame.refl _ n s).setFld F.SEQ_STATUS_ELASTIC_EXPIRED 1 (.of_mem_index (by simp))) rfl hp q.index 4 true q.index (q.index + 1) m.toNat
    refine ⟨hm, ?_, hf⟩
    rw [fld_seqDecision, fld_seqFinish hp.nat_succ_le _ (by decide)]
    exact State.fld_setFld_same _ _ _ _ _ _ _ (by decide)

end Sys2Proof.Machine

namespace Sys2Proof.Machine

/-! ## BRANCH and CMPR (R132 to R139) -/

section
variable {s : State} {n : Fin 16} {d : BitVec 6} {t0 t1 t2 t3 : BitVec 18}
  (ht : [t0.toNat, t1.toNat, t2.toNat, t3.toNat].all (fun x => decide (x ≤ lastIndex)) = true)
include ht

theorem branchTarget_le (r : Nat) : branchTarget r t0 t1 t2 t3 ≤ lastIndex := by
  simp only [List.all_cons, List.all_nil, Bool.and_true, Bool.and_eq_true, decide_eq_true_eq] at ht
  obtain ⟨h0, h1, h2, h3⟩ := ht
  unfold branchTarget
  split <;> assumption

theorem issueCheck_branch (hd : descOk s n d.toNat = true) (p : Nat) (newMode : Bool) (timeout : BitVec 16) :
    issueCheck s n p (.branch d newMode timeout t0 t1 t2 t3) = none := by
  simp only [List.all_cons, List.all_nil, Bool.and_true, Bool.and_eq_true, decide_eq_true_eq] at ht
  obtain ⟨h0, h1, h2, h3⟩ := ht
  simp [issueCheck, targetOk, h0, h1, h2, h3, hd]

variable (hc : seqCanIssue s n = true) (hp : seqPc s n < lastIndex) (hd : descOk s n d.toNat = true)
include hc hp hd

theorem seqIssueNow_branch_latest (timeout : BitVec 16) :
    seqIssueNow s n (.branch d false timeout t0 t1 t2 t3) =
      seqDecision (seqFinish (seqIssued s n (.branch d false timeout t0 t1 t2 t3)) n (seqPc s n)
        (branchTarget (descResult s n d.toNat) t0 t1 t2 t3)) n 0 false (seqPc s n) (branchTarget (descResult s n d.toNat) t0 t1 t2 t3) 0 := by
  rw [seqIssueNow_eq hc hp.le (issueCheck_branch ht hd ..), ← (SameInputs.seqIssued s n (.branch d false timeout t0 t1 t2 t3)).descResult]
  simp only [seqEffect, branchTake, Bool.false_eq_true, if_false]

theorem seqIssueNow_branch_new (timeout : BitVec 16) (hnew : descAllNew s n d.toNat = false) :
    seqIssueNow s n (.branch d true timeout t0 t1 t2 t3) =
      seqHold (seqIssued s n (.branch d true timeout t0 t1 t2 t3)) n (seqPc s n) 0 (.branch d true timeout t0 t1 t2 t3) SeqCode.blocked := by
  rw [seqIssueNow_eq hc hp.le (issueCheck_branch ht hd ..)]
  refine seqBlockedStep_seqHold ?_ nofun
  rw [seqResolve_branch (congrArg Sequencer.pend (seq_seqHold ..)) rfl, ((SameInputs.seqIssued s n _).seqHold ..).descAllNew, hnew,
    if_neg Bool.false_ne_true]

end

section
variable {s : State} {n : Fin 16} {q : PendingInstr}

theorem seqResolve_branch_new {d : BitVec 6} {timeout : BitVec 16} {t0 t1 t2 t3 : BitVec 18} (hq : (s.sl n).seq.pend = some q)
    (hi : q.instr = .branch d true timeout t0 t1 t2 t3) (hnew : descAllNew s n d.toNat = true) :
    seqResolve s n = seqDecision (seqFinish (descClear s n d.toNat) n q.index (branchTarget (descResult s n d.toNat) t0 t1 t2 t3)) n 0 false
      q.index (branchTarget (descResult s n d.toNat) t0 t1 t2 t3) 0 := by
  rw [seqResolve_branch hq hi, if_pos hnew]
  rfl

/-! ### The flag of a CMPR -/

/-- The flag `flag` takes the code and its new mark (R139). -/
def flagTake (s : State) (n : Fin 16) (flag : BitVec 3) (code : Nat) : State :=
  let t := s.setFld F.SEQ_FLAGS_VALUE (putBits (s.fld F.SEQ_FLAGS_VALUE n) (2 * flag.toNat) 2 code) n
  t.setFld F.SEQ_FLAGS_NEW (putBit (t.fld F.SEQ_FLAGS_NEW n) flag.toNat true) n

theorem bitsAt_mod_two_pow (v : Nat) {lo w k : Nat} (h : lo + w ≤ k) : bitsAt (v % 2 ^ k) lo w = bitsAt v lo w := by
  rw [← bitsAt_add_above (v % 2 ^ k) (v / 2 ^ k) h, Nat.mul_comm, Nat.mod_add_div]

theorem fld_value_flagTake (s : State) (n : Fin 16) (flag : BitVec 3) {code : Nat} (hcode : code < 4) :
    bitsAt ((flagTake s n flag code).fld F.SEQ_FLAGS_VALUE n) (2 * flag.toNat) 2 = code := by
  have hflag : 2 * flag.toNat + 2 ≤ F.SEQ_FLAGS_VALUE.width := by have := flag.isLt; simp only [F.SEQ_FLAGS_VALUE]; omega
  rw [flagTake, State.fld_setFld_bits _ F.SEQ_FLAGS_NEW F.SEQ_FLAGS_VALUE _ _ _ _ _ _ _ _ _ (by decide) (by decide),
    State.fld_setFld_same _ _ _ _ _ _ _ (by decide), bitsAt_mod_two_pow _ hflag, bitsAt_putBits_same]
  exact Nat.mod_eq_of_lt hcode

theorem fld_new_flagTake (s : State) (n : Fin 16) (flag : BitVec 3) (code : Nat) :
    ((flagTake s n flag code).fld F.SEQ_FLAGS_NEW n).testBit flag.toNat = true := by
  rw [flagTake, testBit_fld_setFld_putBit _ F.SEQ_FLAGS_NEW (by decide) n 0 flag.toNat true flag.isLt, if_pos rfl]

/-- A CMPR whose result entered its queue in an earlier beat ends, and the sequencer may issue again. -/
theorem seqCmprEnd_of_hit {adc : Bool} {ch : BitVec 6} {flag : BitVec 3} {lim : BitVec 4} {tmo : Timeout} {code k : Nat}
    (hq : (s.sl n).seq.pend = some q) (hi : q.instr = .cmpr adc ch flag lim tmo) (hhit : q.hit = some (code, k)) (hk : k < s.now)
    (hn : q.index + 1 ≤ lastIndex) :
    seqCmprEnd s n = seqFetchedNow (modSeq (seqDecision (seqFinish (flagTake s n flag code) n q.index (q.index + 1)) n 3 false q.index (q.index + 1) 0)
      n fun x => { x with acted := false }) n := by
  have hr : seqResolve s n = seqDecision (seqFinish (flagTake s n flag code) n q.index (q.index + 1)) n 3 false q.index (q.index + 1) 0 := by
    simp only [seqResolve, hq, hi, hhit, if_pos hk]
    rfl
  rw [seqCmprEnd, hr]
  exact if_neg (by simp [seq_seqFinish hn])

end

/-- Settles O14: LATEST ends at once and NEW holds; a resolved branch clears its marks before it ends. A CMPR that has its result ends with
`flagTake` and resumes the fetched NOP. -/
theorem seqBranchesAndCompares : Obligations.SeqBranchesAndCompares := by
  unfold Obligations.SeqBranchesAndCompares
  refine ⟨fun s n d timeout t0 t1 t2 t3 hc hp ht hd => ⟨_, rfl, ?_⟩, fun s n d timeout t0 t1 t2 t3 hc hp ht hd hnew => ⟨_, rfl, ?_⟩,
    fun s n q d timeout t0 t1 t2 t3 hq hi ht hd hnew => ⟨_, exec_branchResolve hq hi, ?_⟩,
    fun s n q d timeout t0 t1 t2 t3 hq hi hp hnew hb hdue => ⟨_, exec_branchTimeout hq hi, ?_⟩,
    fun s n adc ch flag lim tmo hc hp hi => ⟨_, rfl, ?_⟩,
    fun s n q adc ch flag lim tmo code k f hq hi hhit hk hcode hn hs hstart hf => ⟨_, exec_cmprResolve hq hi, ?_⟩,
    fun s n q adc ch flag lim tmo hq hi hhit hb hdue hs ht => ⟨_, exec_cmprTimeout hq hi hhit, ?_⟩⟩
  · rw [seqIssueNow_branch_latest ht hc hp hd]
    exact (SeqTakes.seqIssued s n _ []).finish_decision (branchTarget_le ht _) ..
  · rw [seqIssueNow_branch_new ht hc hp hd timeout hnew]
    exact (SeqTakes.seqIssued s n _ []).hold _ _ (by decide)
  · rw [seqResolve_branch_new hq hi hnew]
    obtain ⟨hm, hf⟩ := seqMoves_decided (s := s) (l := markParts n)
      ((seqFrame.refl _ n s).descClear d.toNat fun _ h => List.mem_append_right [_, _] h) (by rw [sl_descClear])
      (branchTarget_le ht (descResult s n d.toNat)) q.index 0 false q.index (branchTarget (descResult s n d.toNat) t0 t1 t2 t3) 0
    refine ⟨hm, fun x hx => ?_, hf⟩
    rw [(((SameInputs.refl n _).seqFinish (branchTarget_le ht _) _).seqDecision ..).inputNew, inputNew_descClear_mem hx]
  · rw [seqBlockedStep_branch_due hq hi hnew hb hdue]
    exact seqMoves_timedOut hp ..
  · rw [seqIssueNow_cmpr hc hp hi]
    exact (SeqTakes.seqIssued s n _ []).hold _ _ (by decide)
  · have hle : q.index + 1 ≤ lastIndex := by omega
    rw [seqCmprEnd_of_hit hq hi hhit hk hle]
    have hu : seqFrame (issueParts n [F.SEQ_FLAGS_VALUE.part [n], F.SEQ_FLAGS_NEW.part [n]]) n s (flagTake s n flag code) :=
      ((seqFrame.refl _ n s).setFld F.SEQ_FLAGS_VALUE _ (.of_mem_index (by simp))).setFld F.SEQ_FLAGS_NEW _ (.of_mem_index (by simp))
    obtain ⟨hm, hfr⟩ := seqMoves_decided hu rfl hle q.index 3 false q.index (q.index + 1) 0
    have hfetch : nopFetched (seqDecision (seqFinish (flagTake s n flag code) n q.index (q.index + 1)) n 3 false q.index (q.index + 1) 0) n
        (q.index + 1) f := by
      simpa [nopFetched, seq_seqFinish hle, now_seqFinish hle, flagTake] using hf
    obtain ⟨hm', -, hfr'⟩ := seqMoves_resume_nop hm hs (by simp [seq_seqFinish hle]) (by simp [seq_seqFinish hle, flagTake, hstart]) hn hfetch
    have hkeep : ∀ g : Field, g.reg = .SEQ_FLAGS →
        (seqFetchedNow (modSeq (seqDecision (seqFinish (flagTake s n flag code) n q.index (q.index + 1)) n 3 false q.index (q.index + 1) 0) n
          fun x => { x with acted := false }) n).fld g n = (flagTake s n flag code).fld g n := fun g hg => by
      rw [hfr'.1.fld_of_reg (ne_of_mem_issueParts (by rw [hg]; decide)), fld_seqDecision,
        fld_seqFinish hle _ ⟨by rw [hg]; decide, .inl (by rw [hg]; decide)⟩]
    refine ⟨hm', ?_, ?_, hfr.trans (hfr'.mono fun x hx => List.mem_append_left _ hx)⟩
    · rw [hkeep F.SEQ_FLAGS_VALUE rfl, fld_value_flagTake s n flag hcode]
    · rw [hkeep F.SEQ_FLAGS_NEW rfl, fld_new_flagTake]
  · rw [seqBlockedStep_cmpr_due hq hi hhit hb hdue hs]
    exact seqMoves_timedOut ht ..

end Sys2Proof.Machine

namespace Sys2Proof.Machine

/-! ## RUN, STEP, HALT and SEQ_PC (R147 to R151) -/

section
variable {s t : State} {n : Fin 16} {l : List Part}

theorem seqRun_of_accepted (hst : seqState s n = 0 ∨ seqState s n = 5) (hw : wheelState s n = 2) (hu : s.fld F.SEQ_CTRL_USE_START_BEAT n = 0) :
    seqRun s n = ((modSeq s n fun q =>
      { q with pend := none, starting := true, startAt := s.now + 2, stepping := false, loops := [], calls := [] }).setFld F.SEQ_STATUS_ERR 0 n).setFld
        F.SEQ_STATUS_STATE SeqCode.waiting n := by
  rw [wheelState] at hw
  simp [seqRun, SeqCode.halted, SeqCode.error, hst, hw, hu]

theorem seqRun_of_refused (h : (seqState s n ≠ 0 ∧ seqState s n ≠ 5) ∨ wheelState s n ≠ 2) :
    seqRun s n = s.setFld F.SEQ_STATUS_RUN_REFUSED 1 n := by
  rw [seqRun, if_neg]
  rintro ⟨h0 | h5, hw⟩
  · exact h.elim (fun h => h.1 h0) (· hw)
  · exact h.elim (fun h => h.2 h5) (· hw)

theorem seqStep_of_accepted (hst : seqState s n = 0) (hw : wheelState s n = 2) :
    seqStep s n = (modSeq s n fun q => { q with starting := true, startAt := s.now + 2, stepping := true }).setFld
      F.SEQ_STATUS_STATE SeqCode.waiting n :=
  if_pos ⟨hst, hw⟩

theorem seqHalt_of_active (h1 : 1 ≤ seqState s n) (h4 : seqState s n ≤ 4) :
    seqHalt s n = (modSeq s n fun q => { q with pend := none, acted := true, starting := false, stepping := false }).setFld
      F.SEQ_STATUS_STATE SeqCode.halted n :=
  if_pos (by simp only [SeqCode.running, SeqCode.waiting, SeqCode.blocked, SeqCode.stalled]; omega)

theorem seqPcWrite_of_stopped (hst : seqState s n = 0 ∨ seqState s n = 5) (index : Nat) : seqPcWrite s n index = s.setFld F.SEQ_PC_INDEX index n :=
  if_pos hst

theorem seqPcWrite_of_active (h0 : seqState s n ≠ 0) (h5 : seqState s n ≠ 5) (index : Nat) : seqPcWrite s n index = s :=
  if_neg fun h => h.elim h0 h5

/-! ### The HALT instruction -/

theorem seqFrame.event (h : seqFrame l n s t) (code src index data : Nat) (hl : ∀ x ∈ eventParts, x ∈ l) :
    seqFrame l n s (t.event code src index data) :=
  ⟨h.1.event _ _ _ _ hl, h.2.1.of_slices (State.event_slices ..), h.2.2.event _ _ _ _⟩

/-- An event record changes no register outside the event queue. -/
theorem State.rd_event (s : State) (code src index data : Nat) {r : Reg} (hr : ∀ x ∈ eventParts, x.reg ≠ r) (i j k m : Nat) :
    (s.event code src index data).rd r i j k m = s.rd r i j k m :=
  ((sameRegs.refl eventParts s).event code src index data fun _ h => h).rd_eq hr i j k m

theorem State.fld_event (s : State) (code src index data : Nat) {f : Field} (hf : ∀ x ∈ eventParts, x.reg ≠ f.reg) (i j k m : Nat) :
    (s.event code src index data).fld f i j k m = s.fld f i j k m := by
  rw [State.fld, State.fld, State.rd_event s code src index data hf]

/-- What HALT leaves before its event is recorded. -/
def seqHalted (s : State) (n : Fin 16) (code : BitVec 16) : State :=
  (((modSeq (seqIssued s n (.halt code)) n fun q => { q with pend := none, acted := true, stepping := false }).setFld F.SEQ_STATUS_STATE
    SeqCode.halted n).setFld F.SEQ_HALT_CODE_CODE code.toNat n).setFld F.SEQ_PC_INDEX (seqPc s n + 1) n

theorem seqIssueNow_halt (hc : seqCanIssue s n = true) (hp : seqPc s n ≤ lastIndex) (code : BitVec 16) :
    seqIssueNow s n (.halt code) = (seqHalted s n code).event EvCode.SEQ_HALT n.val 0 code.toNat := by
  rw [seqIssueNow_eq hc hp rfl]
  simp only [seqEffect, seqHalted]

theorem seqState_seqHalted (s : State) (n : Fin 16) (code : BitVec 16) : seqState (seqHalted s n code) n = 0 := by
  rw [seqHalted, seqState_setFld_reg _ _ (by decide), seqState_setFld_reg _ _ (by decide), seqState_setFld_state _ _ (by decide)]
  rfl

theorem seqPc_seqHalted (hp : seqPc s n ≤ lastIndex) (code : BitVec 16) : seqPc (seqHalted s n code) n = seqPc s n + 1 :=
  seqPc_setFld_pc _ _ (by simp only [lastIndex] at hp; omega)

theorem fld_code_seqHalted (s : State) (n : Fin 16) (code : BitVec 16) : (seqHalted s n code).fld F.SEQ_HALT_CODE_CODE n = code.toNat := by
  rw [seqHalted, State.fld_setFld_reg _ _ _ _ _ _ _ _ _ _ _ _ (by decide), State.fld_setFld_same _ _ _ _ _ _ _ (by decide)]
  exact Nat.mod_eq_of_lt code.isLt

theorem seqCounts_seqHalted (s : State) (n : Fin 16) (code : BitVec 16) : seqCounts s (seqHalted s n code) n := by
  have hrd : ∀ r, r ∉ [Reg.SEQ_STATUS, .SEQ_HALT_CODE, .SEQ_PC] → (seqHalted s n code).rd r n = (seqIssued s n (.halt code)).rd r n := by
    intro r hr
    simp only [List.mem_cons, List.not_mem_nil, or_false, not_or] at hr
    obtain ⟨hst, hcode, hpc⟩ := hr
    rw [seqHalted, State.rd_setFld_reg _ _ _ _ _ _ _ _ _ _ _ _ hpc, State.rd_setFld_reg _ _ _ _ _ _ _ _ _ _ _ _ hcode,
      State.rd_setFld_reg _ _ _ _ _ _ _ _ _ _ _ _ hst, rd_modSeq]
  exact (State.pair_congr (hrd _ (by decide)) (hrd _ (by decide))).trans (seqCounts_seqIssued s n _)

theorem seqFrame_seqHalted (s : State) (n : Fin 16) (code : BitVec 16) :
    seqFrame (issueParts n (F.SEQ_HALT_CODE_CODE.part [n] :: eventParts)) n s (seqHalted s n code) :=
  ((((seqFrame_seqIssued s n _ _).modSeq _).setFld _ _ (.of_mem_index (by simp))).setFld _ _ (.of_mem_index (by simp))).setFld _ _
    (.of_mem_index (by simp))

end

/-- Settles O15: a clause for each command, from its equation. -/
theorem seqControl : Obligations.SeqControl := by
  unfold Obligations.SeqControl
  refine ⟨fun s n hst hw hu => ⟨seqRun s n, rfl, ?_⟩, fun s n h => ?_, fun s n hst hw => ⟨seqStep s n, rfl, ?_⟩,
    fun s n h1 h4 => ⟨seqHalt s n, rfl, ?_⟩, fun s n code hc hp => ⟨_, rfl, ?_⟩, fun s n index hst => ?_, fun s n index h0 h5 => ?_⟩
  · rw [seqRun_of_accepted hst hw hu]
    refine ⟨seqState_setFld_state _ _ (by decide), ?_, by simp, by simp, by simp, by simp, ?_⟩
    · rw [State.fld_setFld_bits _ _ _ _ _ _ _ _ _ _ _ _ (by decide) (by decide), State.fld_setFld_same _ _ _ _ _ _ _ (by decide), Nat.zero_mod]
    · exact (((seqFrame.refl _ n s).modSeq _).setFld _ _ (.of_mem_index (.tail _ (.head _)))).setFld _ _ (.of_mem_index (.head _))
  · exact congrArg Host.Outcome.next (seqRun_of_refused h)
  · rw [seqStep_of_accepted hst hw]
    exact ⟨seqState_setFld_state _ _ (by decide), by simp, by simp, by simp,
      ((seqFrame.refl _ n s).modSeq _).setFld _ _ (.of_mem_index (.head _))⟩
  · rw [seqHalt_of_active h1 h4]
    exact ⟨seqState_setFld_state _ _ (by decide), by simp, by simp, by simp,
      ((seqFrame.refl _ n s).modSeq _).setFld _ _ (.of_mem_index (.head _))⟩
  · rw [seqIssueNow_halt hc hp]
    refine ⟨?_, ?_, ?_, ?_, (seqFrame_seqHalted s n code).event _ _ _ _ fun x hx => List.mem_append_right [_, _, _, _, _] hx⟩
    · rw [seqState, State.fld_event _ _ _ _ _ (by decide)]
      exact seqState_seqHalted s n code
    · rw [seqPc, State.fld_event _ _ _ _ _ (by decide)]
      exact seqPc_seqHalted hp code
    · rw [State.fld_event _ _ _ _ _ (by decide), fld_code_seqHalted]
    · rw [seqCounts, State.pair_congr (State.rd_event _ _ _ _ _ (by decide) ..) (State.rd_event _ _ _ _ _ (by decide) ..)]
      exact seqCounts_seqHalted s n code
  · exact congrArg Host.Outcome.next (seqPcWrite_of_stopped hst index.toNat)
  · exact congrArg Host.Outcome.next (seqPcWrite_of_active h0 h5 index.toNat)

end Sys2Proof.Machine

namespace Sys2Proof.Machine

/-! ## The vector streamer (R158 to R204) -/

section
variable (s : State) (n : Fin 16) (f : Streamer → Streamer)

@[simp] theorem vec_modVec : ((modVec s n f).sl n).vec = f (s.sl n).vec := by simp [modVec]
@[simp] theorem now_modVec : (modVec s n f).now = s.now := by rw [modVec, State.modSl_now]
@[simp] theorem rd_modVec (r : Reg) (i j k m : Nat) : (modVec s n f).rd r i j k m = s.rd r i j k m := by rw [modVec, State.rd_modSl]
@[simp] theorem fld_modVec (g : Field) (i j k m : Nat) : (modVec s n f).fld g i j k m = s.fld g i j k m := by rw [modVec, State.fld_modSl]
@[simp] theorem flag_modVec (g : Field) (i j k m : Nat) : (modVec s n f).flag g i j k m = s.flag g i j k m := by rw [modVec, State.flag_modSl]

end

theorem sameRegs.modVec {l : List Part} {s t : State} (h : sameRegs l s t) (n : Fin 16) (f : Streamer → Streamer) : sameRegs l s (modVec t n f) :=
  h.modSl n _

/-! ### A START at a vector boundary (R169, R170) -/

section
variable {s : State} {n : Fin 16}

/-- With fail capture off a marker leaves the state as it is (R190). -/
theorem marker_of_captureOff (h : s.flag F.VEC_CTRL_FC_EN n = false) (kind index data : Nat) : marker s n kind index data = s := by
  simp [marker, captureIn, h]

/-- The state in which a START has acted at a vector boundary and its vector is due. -/
def startTaken (s : State) (n : Fin 16) : State :=
  (modVec (modVec s n fun v => { v with waiting := v.waiting.filter fun e => ¬(e.1 * beatUnits ≤ v.next) }) n
    fun v => { v with loops := [], run := none }).setFld F.VEC_STATUS_ERR 0 n

theorem fld_startTaken {g : Field} (hg : g.reg ≠ .VEC_STATUS) (i j k m : Nat) : (startTaken s n).fld g i j k m = s.fld g i j k m := by
  rw [startTaken, State.fld_setFld_reg _ _ _ _ _ _ _ _ _ _ _ _ hg, fld_modVec, fld_modVec]

theorem flag_startTaken {g : Field} (hg : g.reg ≠ .VEC_STATUS) (i j k m : Nat) : (startTaken s n).flag g i j k m = s.flag g i j k m := by
  rw [State.flag, fld_startTaken hg, State.flag]

theorem vecAt_startTaken (s : State) (n : Fin 16) (addr : Nat) : vecAt (startTaken s n) n addr = vecAt s n addr := by
  have hring : ringOffset (startTaken s n) n (addr / 8) = ringOffset s n (addr / 8) := by
    simp only [ringOffset, fld_startTaken (show F.VEC_RING_BASE_LINE.reg ≠ .VEC_STATUS by decide),
      fld_startTaken (show F.VEC_RING_LINES_LINES.reg ≠ .VEC_STATUS by decide)]
  have hline : vecLine (startTaken s n) n (addr / 8) = vecLine s n (addr / 8) := by simp [vecLine, startTaken]
  simp only [vecAt, atWritePoint, hring, hline, fld_startTaken (show F.VEC_RING_WP_OFFSET.reg ≠ .VEC_STATUS by decide)]
  rfl

/-- A vector of VOP 0 that is present, sound and of a valid timing set passes the checks of R199. -/
theorem vecDue_plain {addr : Nat} {w : VecWord} (haddr : addr ≤ lastIndex) (hat : vecAt s n addr = some (w, false)) (hvop : w.vop = 0)
    (hvalid : s.flag F.TSET_STATUS_VALID n w.tset = true) (misses : BitVec 32) (present looped : Bool) :
    vecDue s n addr misses present looped = vecApply s n addr w misses present true := by
  simp [vecDue, Nat.not_lt.2 haddr, hat, hvop, hvalid]

/-- The boundary at which a lone START acts applies the vector at its address. -/
theorem vectorBoundary_start {addr k : Nat} {w : VecWord} (hrun : vecState s n = 1) (hdue : (s.sl n).vec.next < (s.now + 1) * beatUnits)
    (hwait : (s.sl n).vec.waiting = [(k, .start addr)]) (hk : k * beatUnits ≤ (s.sl n).vec.next) (hnone : (s.sl n).vec.run = none)
    (hfc : s.flag F.VEC_CTRL_FC_EN n = false) (haddr : addr ≤ lastIndex) (hat : vecAt s n addr = some (w, false)) (hvop : w.vop = 0)
    (hvalid : s.flag F.TSET_STATUS_VALID n w.tset = true) (misses : BitVec 32) :
    vectorBoundary s n misses = vecApply (startTaken s n) n addr w misses true true := by
  have hmark : ∀ kind index data, marker (startTaken s n) n kind index data = startTaken s n :=
    marker_of_captureOff ((flag_startTaken (by decide) ..).trans hfc)
  rw [← vecDue_plain haddr ((vecAt_startTaken s n addr).trans hat) hvop ((flag_startTaken (by decide) ..).trans hvalid) misses true false,
    ← hmark 1 (vecIndex s n) addr]
  simp [vectorBoundary, hrun, hdue, hwait, hk, hnone, actingOf, runCloses, repeatCut, captureEvent, startTaken, vecIndex, State.pair]

end

/-! ### A failing vector (R187) -/

/-- VEC_FAILVEC: how many vectors have failed. -/
def failedVectors (s : State) (n : Fin 16) : Nat := s.pair .VEC_FAILVEC_LO .VEC_FAILVEC_HI n

section
variable {s t : State} {n : Fin 16} {l : List Part}

theorem sameRegs.failedVectors_eq (h : sameRegs l s t) (hl : ∀ x ∈ l, x.reg ∉ [Reg.VEC_FAILVEC_LO, .VEC_FAILVEC_HI]) :
    failedVectors t n = failedVectors s n :=
  State.pair_congr (h.rd_eq (fun x hx e => hl x hx (by simp [e])) ..) (h.rd_eq (fun x hx e => hl x hx (by simp [e])) ..)

@[simp] theorem failedVectors_startTaken (s : State) (n : Fin 16) : failedVectors (startTaken s n) n = failedVectors s n :=
  ((((sameRegs.refl [F.VEC_STATUS_ERR.part [n.val]] s).modVec n _).modVec n _).setFld _ _ _ _ _ _ (.of_mem_index (.head _))).failedVectors_eq
    (by simp [Field.part, F.VEC_STATUS_ERR])

theorem sameRegs.pewterEvent (h : sameRegs l s t) (n : Fin 16) (bit : Nat) : sameRegs l s (t.pewterEvent n bit) :=
  .ite (h.of_regs rfl) h

theorem sameRegs.windowMember (h : sameRegs l s t) (compared failed : BitVec 32) (beat : Nat → Nat) :
    sameRegs l s (windowMember t n compared failed beat) := h.modVec n _

theorem sameRegs.ringRp (h : sameRegs l s t) (hl : F.VEC_RING_RP_OFFSET.part [n.val] ∈ l) (addr : Nat) : sameRegs l s (ringRp t n addr) := by
  unfold Machine.ringRp
  dsimp only
  split
  · exact h
  · exact (h.setFld _ _ _ _ _ _ (.of_mem_index hl)).modVec n _

/-- Fail capture that is off stays off. -/
theorem sameRegs.captureOff (h : sameRegs l s t) (hfc : s.flag F.VEC_CTRL_FC_EN n = false) (hl : ∀ x ∈ l, x.reg ≠ .VEC_CTRL) :
    t.flag F.VEC_CTRL_FC_EN n = false := by
  rw [State.flag, h.fld_of_reg hl]
  exact hfc

section
variable (hfc : s.flag F.VEC_CTRL_FC_EN n = false) (hl : ∀ x ∈ l, x.reg ≠ .VEC_CTRL)
include hfc hl

/-- Fail capture that is off takes no record (R187, R190). -/
theorem sameRegs.captureIn_off (h : sameRegs l s t) (index : Nat) (rs : List (List Byte)) : sameRegs l s (captureIn t n index rs) := by
  simpa [captureIn, h.captureOff hfc hl] using h

theorem sameRegs.markerIf_off {p : Prop} [Decidable p] (h : sameRegs l s t) (kind index data : Nat) :
    sameRegs l s (if p then marker t n kind index data else t) :=
  .ite (h.captureIn_off hfc hl _ _) h

end

/-- A failing vector counts one in VEC_FAILVEC; what it counts after that and the capture leave VEC_FAILVEC as it is. -/
theorem failedVectors_failVector (hfc : s.flag F.VEC_CTRL_FC_EN n = false) (index : Nat) (failed : BitVec 32) (record : Bool) :
    failedVectors (failVector s n index failed record) n = min (failedVectors s n + 1) (2 ^ 64 - 1) := by
  have hcount : failedVectors (s.pairAdd .VEC_FAILVEC_LO .VEC_FAILVEC_HI 1 n) n = min (failedVectors s n + 1) (2 ^ 64 - 1) :=
    State.pair_pairAdd_same s (by decide) 1 n
  have hfc' : (s.pairAdd .VEC_FAILVEC_LO .VEC_FAILVEC_HI 1 n).flag F.VEC_CTRL_FC_EN n = false := by
    rw [State.pairAdd, State.setPair, State.flag_wr_reg _ _ _ _ _ _ _ _ _ _ _ _ (by decide), State.flag_wr_reg _ _ _ _ _ _ _ _ _ _ _ _ (by decide)]
    exact hfc
  rw [← hcount]
  unfold failVector
  dsimp only
  generalize s.pairAdd .VEC_FAILVEC_LO .VEC_FAILVEC_HI 1 n = u at hfc'
  have hpins := sameRegs.foldl (l := [{ reg := .VEC_PFAIL, idx := [n.val] }]) (fun s p => s.count .VEC_PFAIL n p)
    (fun t p h => h.count _ _ _ _ _ (.of_mem_index (.head _))) (setBits 32 failed.toNat) _ ((sameRegs.refl _ u).pewterEvent n (2 + n))
  exact sameRegs.failedVectors_eq (.ite (hpins.captureIn_off hfc' (by simp) _ _) hpins) (by simp)

/-- The registers that an application writes before its failing compares count. -/
def applyParts (n : Fin 16) : List Part :=
  [{ reg := .VEC_CLAMPS, idx := [n.val] }, F.VEC_STATUS_CLAMP.part [n.val], F.VEC_ADDR_ADDR.part [n.val], { reg := .VEC_INDEX_LO, idx := [n.val] },
    { reg := .VEC_INDEX_HI, idx := [n.val] }]

theorem ne_of_mem_applyParts : ∀ x ∈ applyParts n, x.reg ≠ .VEC_CTRL ∧ x.reg ∉ [Reg.VEC_FAILVEC_LO, .VEC_FAILVEC_HI] := by
  simp [applyParts, Field.part, F.VEC_STATUS_CLAMP, F.VEC_ADDR_ADDR]

/-- A vector of which a compare fails counts, by a miss at the pin or by crossed thresholds (R187, R209). -/
theorem failedVectors_vecApply {addr : Nat} {w : VecWord} {misses : BitVec 32} {present first : Bool}
    (hfc : s.flag F.VEC_CTRL_FC_EN n = false) (hvop : w.vop ≠ 4)
    (hfail : (applyPins s n w (s.sl n).vec.next present).compared &&& (misses ||| crossedPins s n w) ≠ 0) :
    failedVectors (vecApply s n addr w misses present first) n = min (failedVectors s n + 1) (2 ^ 64 - 1) := by
  have hring : ∀ t, failedVectors (ringRp t n addr) n = failedVectors t n := fun t =>
    ((sameRegs.refl _ t).ringRp (.head []) addr).failedVectors_eq (by simp [Field.part, F.VEC_RING_RP_OFFSET])
  have hwindow : ∀ t compared failed beat, failedVectors (windowMember t n compared failed beat) n = failedVectors t n := fun t _ _ _ =>
    ((sameRegs.refl [] t).windowMember _ _ _).failedVectors_eq (by simp)
  have hctrl : ∀ x ∈ applyParts n, x.reg ≠ .VEC_CTRL := fun x hx => (ne_of_mem_applyParts x hx).1
  unfold vecApply
  dsimp only
  rw [hring, apply_ite (failedVectors · n), hwindow, ite_self, if_neg hvop, if_neg hfail]
  generalize hu : ite (w.flagmk = true) _ _ = u
  have hframe : sameRegs (applyParts n) s u := by
    rw [← hu]
    refine .markerIf_off hfc hctrl (.markerIf_off hfc hctrl (.setPair (.setFld (.modVec (.ite (.refl _ s) ?_) n _) _ _ _ _ _ _ ?_) _ _ _ _ _ _ ?_ ?_)
      _ _ _) _ _ _
    · exact ((sameRegs.refl _ s).countBy _ _ _ _ _ _ (.of_mem_index (.head _))).setFlag _ _ _ _ _ _ (.of_mem_index (.tail _ (.head _)))
    · exact .of_mem_index (.tail _ (.tail _ (.head _)))
    · exact .of_mem_index (by simp [applyParts])
    · exact .of_mem_index (by simp [applyParts])
  rw [failedVectors_failVector (hframe.captureOff hfc hctrl),
    hframe.failedVectors_eq fun x hx => (ne_of_mem_applyParts x hx).2]

end

/-! ### The counterexample to StreamerStart -/

/-- Slice 0 is RUNNING with nothing in progress and a START at vector 8 waits. The vector there has VOP 0 and compares pin 0 for EM; the pin
is not guarded, and its VOL lies above its VOH. -/
def crossedStart : State :=
  ({ (((((State.reset.setFld F.VEC_STATUS_STATE 1 0).setFlag F.TSET_STATUS_VALID true 0 0).setFld F.TSET_PERIOD_PERIOD 16000 0 0).wr .TSET_PIN_EN 1 0
      0).wr .PIN_GUARDED 0 0).setFld F.PIN_VOL_LEVEL 1 0 0 with now := 1 }).modSl 0 fun x =>
    { x with vec := { x.vec with next := 16000, waiting := [(1, .start 8)], buffer := [⟨1, 5 :: List.replicate 127 0, [], 0, 0⟩] } }

/-- The vector at address 8 of that state: pin 0 in state EM. -/
def crossedVector : VecWord := vecDecode (5 :: List.replicate 15 0)

/-- The compare of pin 0 is made, and it fails though the pin misses nothing. -/
theorem crossedStart_fails : (applyPins (startTaken crossedStart 0) 0 crossedVector ((startTaken crossedStart 0).sl 0).vec.next true).compared &&&
    (0 ||| crossedPins (startTaken crossedStart 0) 0 crossedVector) = 1 := by
  decide +kernel

/-- Refutes O20: its last clause applies a vector of VOP 0 that misses at no pin, and leaves VEC_FAILVEC out of what may change. An EM compare
of a pin whose VOL lies above its VOH fails all the same (R209), and a failing vector counts whether fail capture is on or off (R187). In
`crossedStart` VEC_FAILVEC goes from 0 to 1. -/
theorem not_streamerStart : ¬ Obligations.StreamerStart := by
  unfold Obligations.StreamerStart
  rintro ⟨-, -, -, -, -, -, hboundary⟩
  have hrun : vecState crossedStart 0 = 1 := by decide
  have hdue : (crossedStart.sl 0).vec.next < (crossedStart.now + 1) * beatUnits := by decide
  have hwait : (crossedStart.sl 0).vec.waiting = [(1, .start 8)] := by decide
  have hk : 1 * beatUnits ≤ (crossedStart.sl 0).vec.next := by decide
  have hnone : (crossedStart.sl 0).vec.run = none := by decide
  have hfc : crossedStart.flag F.VEC_CTRL_FC_EN (0 : Fin 16) = false := by decide
  have haddr : 8 ≤ lastIndex := by decide
  have hat : vecAt crossedStart 0 8 = some (crossedVector, false) := by decide
  have hvop : crossedVector.vop = 0 := by decide
  have hvalid : crossedStart.flag F.TSET_STATUS_VALID (0 : Fin 16) crossedVector.tset = true := by decide
  obtain ⟨t, hexec, -, -, -, -, -, hregs, -⟩ :=
    hboundary crossedStart 0 8 1 crossedVector hrun hdue hwait hk hnone hfc haddr hat hvop hvalid (by decide)
  obtain rfl : vectorBoundary crossedStart 0 0 = t := Host.Outcome.next.inj hexec
  have hzero : failedVectors crossedStart 0 = 0 := by decide
  have hstays : failedVectors (vectorBoundary crossedStart 0 0) 0 = 0 := (hregs.failedVectors_eq (by decide)).trans hzero
  rw [vectorBoundary_start hrun hdue hwait hk hnone hfc haddr hat hvop hvalid,
    failedVectors_vecApply ((flag_startTaken (by decide) ..).trans hfc) (by rw [hvop]; decide) (by rw [crossedStart_fails]; decide),
    failedVectors_startTaken, hzero] at hstays
  exact absurd hstays (by decide)

end Sys2Proof.Machine

namespace Sys2Proof.Machine

/-! ## The tones and the channels of a slice (R237 to R284)

A tone, a TX channel and an RX channel stand in the slice beside their registers. -/

section
variable {s t : State} {n : Fin 16} {l : List Part}

/-! ### Frames of changes inside a slice -/

theorem holdsFld.of_mem_index2 {f : Field} {i j k : Nat} (h : f.part [i, j] ∈ l) : holdsFld l f i j k 0 :=
  ⟨f.part [i, j], h, rfl, by simp [Field.part, List.isPrefixOf], Nat.le_refl _, Nat.le_refl _⟩

theorem holdsReg.of_mem_index2 {r : Reg} {i j : Nat} (h : { reg := r, idx := [i, j] } ∈ l) : holdsReg l r i j 0 0 :=
  ⟨{ reg := r, idx := [i, j] }, h, rfl, by simp [List.isPrefixOf], rfl, Nat.le_refl _⟩

theorem holdsReg.of_mem_index3 {r : Reg} {i j k : Nat} (h : { reg := r, idx := [i, j, k] } ∈ l) : holdsReg l r i j k 0 :=
  ⟨{ reg := r, idx := [i, j, k] }, h, rfl, by simp [List.isPrefixOf], rfl, Nat.le_refl _⟩

theorem seqFrame.modSl (h : seqFrame l n s t) (f : Slice → Slice) (hf : ∀ x, (f x).store.bytes = x.store.bytes := by exact fun _ => rfl) :
    seqFrame l n s (t.modSl n f) :=
  ⟨h.1.modSl n f, fun m hm => (State.sl_modSl_ne _ _ hm).trans (h.2.1 m hm), h.2.2.modSl n f hf⟩

theorem seqFrame.modTone (h : seqFrame l n s t) (u : Fin 32) (f : Tone → Tone) : seqFrame l n s (modTone t n u f) := h.modSl _

theorem seqFrame.modTx (h : seqFrame l n s t) (k : Fin 4) (f : TxChannel → TxChannel) : seqFrame l n s (modTx t n k f) := h.modSl _

theorem seqFrame.wr (h : seqFrame l n s t) (r : Reg) (v : Word) {i j k m : Nat} (hl : holdsReg l r i j k m) :
    seqFrame l n s (t.wr r v i j k m) :=
  ⟨h.1.wr r v i j k m hl, h.2.1, h.2.2.wr r v i j k m⟩

theorem seqFrame.setPair (h : seqFrame l n s t) (lo hi : Reg) (v : Nat) {i j k : Nat} (h1 : holdsReg l lo i j k 0) (h2 : holdsReg l hi i j k 0) :
    seqFrame l n s (t.setPair lo hi v i j k) :=
  (h.wr lo _ h1).wr hi _ h2

theorem seqFrame.setFlag (h : seqFrame l n s t) (f : Field) (b : Bool) {i j k m : Nat} (hl : holdsFld l f i j k m) :
    seqFrame l n s (t.setFlag f b i j k m) :=
  ⟨h.1.setFlag f b i j k m hl, h.2.1, h.2.2.setFlag f b i j k m⟩

theorem seqFrame.ite {u : State} {p : Prop} [Decidable p] (h : seqFrame l n s t) (h' : seqFrame l n s u) : seqFrame l n s (if p then t else u) := by
  split <;> assumption

end

/-! ### Reading a tone or a channel after a change -/

section
variable (s : State) (n : Fin 16) (u : Fin 32) (k : Fin 4)

@[simp] theorem tone_modTone (f : Tone → Tone) : tone (modTone s n u f) n u = f (tone s n u) := by
  simp [tone, modTone, Vector.get_eq_getElem]

@[simp] theorem now_modTone (f : Tone → Tone) : (modTone s n u f).now = s.now := rfl

@[simp] theorem fld_modTone (f : Tone → Tone) (g : Field) (i j k m : Nat) : (modTone s n u f).fld g i j k m = s.fld g i j k m := rfl

@[simp] theorem toneState_modTone (f : Tone → Tone) : toneState (modTone s n u f) n u = toneState s n u := rfl

@[simp] theorem tone_setFld (f : Field) (v i j k m : Nat) : tone (s.setFld f v i j k m) n u = tone s n u := rfl

@[simp] theorem tone_setFlag (f : Field) (b : Bool) (i j k m : Nat) : tone (s.setFlag f b i j k m) n u = tone s n u := rfl

@[simp] theorem tone_setToneState (v : Nat) : tone (setToneState s n u v) n u = tone s n u := rfl

@[simp] theorem txCh_modTx (f : TxChannel → TxChannel) : txCh (modTx s n k f) n k = f (txCh s n k) := by
  simp [txCh, modTx, Vector.get_eq_getElem]

@[simp] theorem txCh_setFlag (f : Field) (b : Bool) (i j k' m : Nat) : txCh (s.setFlag f b i j k' m) n k = txCh s n k := rfl

theorem toneState_setToneState {v : Nat} (hv : v < 8) : toneState (setToneState s n u v) n u = v :=
  (State.fld_setFld_same s F.TON_STATUS_STATE v n u 0 0 (by decide)).trans (Nat.mod_eq_of_lt hv)

end

/-! ### Commands of a core domain that is ON (R120, R585) -/

section
variable {s : State} {n : Fin 16}

theorem coreEvent_of_on (h : s.coreOn n = true) (f : State → State) : s.coreEvent n f = f s := if_pos h

theorem coreDo_of_on (h : s.coreOn n = true) (f : State → State) : s.coreDo n f = f s := if_pos h

theorem toneEvent_of_not_drained {u : Fin 32} (h : toneState s n u ≠ 6) (f : State → State) : toneEvent s n u f = f s := if_neg h

end

/-! ## Segments, ramps and markers (R246 to R271) -/

section
variable {s t : State} {n : Fin 16} {u : Fin 32} {l : List Part}

/-! ### Natural boundaries (R253, R258) -/

/-- No natural boundary stands at or before the granule. -/
theorem toneCatchUp_of_later {limit : Nat} (h : ∀ j, (tone s n u).ends = some j → limit < j) (fuel : Nat) : toneCatchUp s n u limit fuel = s := by
  cases fuel with
  | zero => rfl
  | succ fuel =>
    unfold toneCatchUp
    split
    · rfl
    · next j hj => exact if_pos (h j hj)

theorem toneBefore_of_not_past (h : (tone s n u).ends.all (fun j => decide (4 * s.now ≤ j)) = true) : toneBefore s n u = s := by
  unfold toneBefore
  split
  · rfl
  · refine toneCatchUp_of_later (fun j hj => ?_) 4
    have : 4 * s.now ≤ j := by simpa [hj] using h
    omega

theorem toneToBoundary_of_later (h : (tone s n u).ends.all (fun j => decide (4 * s.now < j)) = true) : toneToBoundary s n u = s :=
  toneCatchUp_of_later (fun j hj => by simpa [hj] using h) 4

section
variable {limit j : Nat} (he : (tone s n u).ends = some j) (hj : j ≤ limit)
include he hj

theorem toneNatural_hold (hn : (tone s n u).next = .hold) :
    toneNatural s n u limit = setToneState (modTone s n u fun t => { t with ends := none }) n u 2 := by
  simp [toneNatural, he, hn, Nat.not_lt.2 hj]

theorem toneNatural_idle (hn : (tone s n u).next = .idle) :
    toneNatural s n u limit = setToneState (modTone s n u fun t => { t with ends := none }) n u 0 := by
  simp [toneNatural, he, hn, Nat.not_lt.2 hj]

theorem toneNatural_segment {i : Nat} (hn : (tone s n u).next = .segment i) :
    toneNatural s n u limit = toneStart (modTone s n u fun t => { t with ends := none }) n u i j := by
  simp [toneNatural, he, hn, Nat.not_lt.2 hj]

end

/-- The end of a segment or a ramp that nothing follows: the tone's state, and nothing else outside the tone. -/
theorem setToneState_ended {v : Nat} (hv : v < 8) :
    let t := setToneState (modTone s n u fun t => { t with ends := none }) n u v
    toneState t n u = v ∧ (tone t n u).ends = none ∧ seqFrame [F.TON_STATUS_STATE.part [n, u]] n s t :=
  ⟨toneState_setToneState _ n u hv, by simp, ((seqFrame.refl _ n s).modTone u _).setFld _ _ (.of_mem_index2 (.head _))⟩

/-! ### The start of a segment (R250, R254) -/

/-- The supply reads the tone's lines and its entries. -/
theorem toneSupply_modTone (f : Tone → Tone) (hb : ∀ x, (f x).buffer = x.buffer) (hp : ∀ x, (f x).pinned = x.pinned) (line tick : Nat) :
    toneSupply (modTone s n u f) n u line tick = toneSupply s n u line tick := by
  simp only [toneSupply, tone_modTone, hb, hp]
  rfl

/-- A segment that is buffered, sound and valid acts. -/
theorem toneStart_of_valid {i j : Nat} {f : FetchLine} {g : Segment} (hf : toneSupply s n u (i / 4) (j / 4) = some f) (hp : f.poison = [])
    (hg : g = decodeSegment ((f.data.drop (32 * (i % 4))).take 32)) (hc : g.cause i = 0) : toneStart s n u i j = toneApply s n u i j g := by
  subst hg
  simp [toneStart, hf, hp, hc]

/-- The registers that the start of a segment writes. -/
abbrev startParts (n : Fin 16) (u : Fin 32) : List Part := [F.TON_STATUS_STATE.part [n, u], F.TON_INDEX_INDEX.part [n, u]]

theorem seqFrame.setPoff (h : seqFrame l n s t) (sample : Nat) (set : Bool) (v : Nat) : seqFrame l n s (setPoff t n u sample set v) := h.modTone u _

theorem seqFrame.toneApply (h : seqFrame (startParts n u) n s t) (i j : Nat) (g : Segment) :
    seqFrame (startParts n u) n s (toneApply t n u i j g) := by
  refine seqFrame.modTone (((seqFrame.modTone (.ite ?_ (.setPoff ?_ _ _ _)) u _).setFld _ _ (.of_mem_index2 (.head _))).setFld _ _
    (.of_mem_index2 (.tail _ (.head _)))) u _
  all_goals
    split
    · exact h.modTone u _
    · exact h.modTone u _
    · exact h

/-- What the start of a segment at granule `j` leaves (R253): the tone plays it until its length has passed. -/
theorem toneApply_plays {i : Nat} (hi : i < 98304) (j : Nat) (g : Segment) :
    toneState (toneApply s n u i j g) n u = 1 ∧ (toneApply s n u i j g).fld F.TON_INDEX_INDEX n u = i ∧
      (tone (toneApply s n u i j g) n u).ends = some (j + g.len) ∧ (tone (toneApply s n u i j g) n u).next = g.follow i := by
  unfold toneApply
  dsimp only
  refine ⟨?_, ?_, by simp [toneTrim], by simp [toneTrim]⟩
  · exact (State.fld_setFld_reg _ _ _ _ _ _ _ _ _ _ _ _ (by decide)).trans (toneState_setToneState _ n u (by decide))
  · exact (State.fld_setFld_same _ _ _ _ _ _ _ (by decide)).trans (Nat.mod_eq_of_lt (by simp only [F.TON_INDEX_INDEX]; omega))

/-! ### ZERO and the list levels of the markers (R256, R257, R269) -/

/-- The list levels of the markers of the channel of tone `u`. -/
abbrev listParts (n : Fin 16) (u : Fin 32) : List Part := [F.TXC_MK_STATUS_LIST0.part [n, u.val / 8], F.TXC_MK_STATUS_LIST1.part [n, u.val / 8]]

theorem markListField_part_mem (n : Fin 16) (u : Fin 32) (m : Nat) : (markListField m).part [n.val, u.val / 8] ∈ listParts n u := by
  unfold markListField
  split
  · exact .head _
  · exact .tail _ (.head _)

theorem markListField_bit (m : Nat) : (markListField m).lo + (markListField m).width ≤ 32 ∧ (markListField m).width = 1 := by
  unfold markListField
  split <;> decide

theorem markForcedField_bit (m : Nat) : (markForcedField m).lo + (markForcedField m).width ≤ 32 ∧ (markForcedField m).width = 1 := by
  unfold markForcedField
  split <;> decide

theorem seqFrame.markLeave (h : seqFrame l n s t) (hl : ∀ x ∈ listParts n u, x ∈ l) : seqFrame l n s (markLeave t n u) :=
  (h.modTone u _).foldl _ (fun _ m ht => ht.setFlag _ _ (.of_mem_index2 (hl _ (markListField_part_mem n u m)))) _

/-- Clearing list levels changes no slice. -/
theorem sl_foldl_setFlag {α : Type} (f : α → Field) (b : Bool) (i j : Nat) (xs : List α) (s : State) (m : Fin 16) :
    (xs.foldl (fun s x => s.setFlag (f x) b i j) s).sl m = s.sl m :=
  List.foldlRecOn (motive := fun (t : State) => t.sl m = s.sl m) xs _ rfl fun _ ht _ _ => ht

@[simp] theorem marks_markLeave (s : State) (n : Fin 16) (u : Fin 32) : (tone (markLeave s n u) n u).marks = [] := by
  rw [markLeave, tone, sl_foldl_setFlag]
  exact congrArg Tone.marks (tone_modTone s n u _)

theorem seqFrame.setToneState (h : seqFrame l n s t) (v : Nat) (hl : F.TON_STATUS_STATE.part [n, u] ∈ l) : seqFrame l n s (setToneState t n u v) :=
  h.setFld _ v (.of_mem_index2 hl)

theorem seqFrame.rampDown (h : seqFrame l n s t) (j : Nat) : seqFrame l n s (rampDown t n u j) := h.modTone u _

theorem seqFrame.toneLeave (h : seqFrame l n s t) (j v : Nat) (hs : F.TON_STATUS_STATE.part [n, u] ∈ l) (hl : ∀ x ∈ listParts n u, x ∈ l) :
    seqFrame l n s (toneLeave t n u j v) :=
  (((h.markLeave hl).rampDown j).modTone u _).setToneState v hs

/-- What ZERO at granule `j` leaves: the ramp of four granules, and no list action. -/
theorem toneZero_ramps (s : State) (n : Fin 16) (u : Fin 32) (j : Nat) :
    toneState (toneZero s n u j) n u = 3 ∧ (tone (toneZero s n u j) n u).ends = some (j + 4) ∧ (tone (toneZero s n u j) n u).next = .idle ∧
      (tone (toneZero s n u j) n u).marks = [] ∧ seqFrame (F.TON_STATUS_STATE.part [n, u] :: listParts n u) n s (toneZero s n u j) := by
  refine ⟨?_, by simp [toneZero], by simp [toneZero], by simp [toneZero, toneLeave, rampDown],
    ((seqFrame.refl _ n s).toneLeave j 3 (.head _) fun _ h => .tail _ h).modTone u _⟩
  rw [toneZero, toneState_modTone, toneLeave, toneState_setToneState _ n u (by decide)]

/-! ### Marker actions (R269, R270) -/

/-- The only action that waits acts when its sample is reached. -/
theorem markAct_of_due {a : MarkAct} {limit : Nat} (hm : (tone s n u).marks = [a]) (ha : a.sample < limit) :
    markAct s n u limit =
      (modTone s n u fun x => { x with marks := x.marks.erase a }).setFlag (markListField a.marker) a.level n (u.val / 8) := by
  simp [markAct, hm, ha]

/-- HIGH and LOW: the marker is forced, at the level named. -/
theorem markForce_level (s : State) (n : Fin 16) (k : Fin 4) (m : Fin 2) (b : Bool) :
    (markForce s n k m (some b)).flag (markForcedField m) n k = true ∧ (txCh (markForce s n k m (some b)) n k).markLevel.get m = b ∧
      seqFrame [(markForcedField m).part [n, k]] n s (markForce s n k m (some b)) := by
  obtain ⟨hlo, hw⟩ := markForcedField_bit m
  simp only [markForce]
  refine ⟨State.flag_setFlag_same _ _ _ _ _ _ _ hlo hw, ?_, ((seqFrame.refl _ n s).modTx k _).setFlag _ _ (.of_mem_index2 (.head _))⟩
  rw [txCh_setFlag, txCh_modTx]
  simp [Vector.get_eq_getElem]

end

/-- Settles O24: the boundary that a command reaches is the tone's own (`toneBefore_of_not_past`, `toneNatural_hold` and its siblings), and
the start, the ramp and the marker actions each have a lemma that says what they leave. -/
theorem tonesAndMarkers : Obligations.TonesAndMarkers := by
  unfold Obligations.TonesAndMarkers
  refine ⟨fun s n u seg f g hon hst hends hf hp hg hc => ⟨_, congrArg Host.Outcome.next (coreEvent_of_on hon _), ?_⟩,
    fun s n u j hst hends hj hn => ⟨_, congrArg Host.Outcome.next (if_pos hst), ?_⟩,
    fun s n u j i f g hst hends hj hn hi hf hp hg hc => ⟨_, congrArg Host.Outcome.next (if_pos hst), ?_⟩,
    fun s n u hon hst hends => ⟨_, congrArg Host.Outcome.next (coreEvent_of_on hon _), ?_⟩,
    fun s n u j hst hends hj hn => ⟨_, congrArg Host.Outcome.next (if_pos hst), ?_⟩, fun s n u a hm ha => ⟨_, rfl, ?_⟩,
    fun s n k m hon => ⟨_, congrArg Host.Outcome.next (coreEvent_of_on hon _), markForce_level s n k m true⟩,
    fun s n k m hon => ⟨_, congrArg Host.Outcome.next (coreEvent_of_on hon _), markForce_level s n k m false⟩,
    fun s n k m hon => ⟨_, congrArg Host.Outcome.next (coreEvent_of_on hon _), ?_⟩⟩
  · have hsupply := (toneSupply_modTone (s := s) (n := n) (u := u) (fun t => { t with marks := markGiveUp (128 * s.now) t.marks })
      (fun _ => rfl) (fun _ => rfl) (seg.val / 4) (4 * s.now / 4)).trans (by rw [Nat.mul_div_cancel_left _ (by decide), hf])
    rw [toneSegment, toneEvent_of_not_drained hst, toneBefore_of_not_past hends, toneStart_of_valid hsupply hp hg hc]
    obtain ⟨hplay, hindex, hend, hnext⟩ := toneApply_plays (s := modTone s n u fun t => { t with marks := markGiveUp (128 * s.now) t.marks })
      (n := n) (u := u) seg.isLt (4 * s.now) g
    exact ⟨hplay, hindex, hend, hnext, ((seqFrame.refl _ n s).modTone u _).toneApply _ _ _⟩
  · rw [toneNatural_hold hends hj hn]
    exact setToneState_ended (by decide)
  · have hsupply := (toneSupply_modTone (s := s) (n := n) (u := u) (fun t => { t with ends := none })
      (fun _ => rfl) (fun _ => rfl) (i / 4) (j / 4)).trans hf
    rw [toneNatural_segment hends hj hn, toneStart_of_valid hsupply hp hg hc]
    obtain ⟨hplay, hindex, hend, -⟩ := toneApply_plays (s := modTone s n u fun t => { t with ends := none }) (n := n) (u := u) hi j g
    exact ⟨hplay, hindex, hend, ((seqFrame.refl _ n s).modTone u _).toneApply _ _ _⟩
  · rw [toneZeroEvent, toneEvent_of_not_drained hst, toneBefore_of_not_past hends]
    exact toneZero_ramps s n u _
  · rw [toneNatural_idle hends hj hn]
    exact setToneState_ended (by decide)
  · obtain ⟨hlo, hw⟩ := markListField_bit a.marker
    rw [markAct_of_due hm ha]
    exact ⟨by simp [hm], State.flag_setFlag_same _ _ _ _ _ _ _ hlo hw, ((seqFrame.refl _ n s).modTone u _).setFlag _ _ (.of_mem_index2 (.head _))⟩
  · obtain ⟨hlo, hw⟩ := markForcedField_bit m
    exact ⟨State.flag_setFlag_same _ _ _ _ _ _ _ hlo hw, (seqFrame.refl _ n s).setFlag _ _ (.of_mem_index2 (.head _))⟩

end Sys2Proof.Machine

namespace Sys2Proof.Machine

/-! ## The power of a channel (R272, R284, R592) -/

section
variable {s t : State} {n : Fin 16} {l : List Part}

theorem analogEvent_of_on (h : s.analogOn n = true) (f : State → State) : s.analogEvent n f = f s := if_pos h

theorem analogDo_of_on (h : s.analogOn n = true) (f : State → State) : s.analogDo n f = f s := if_pos h

/-! ### The admission queue (R593 to R597) -/

theorem mem_queueInsert_self (x : PwrRequester × Nat) (q : List (PwrRequester × Nat)) : x ∈ queueInsert x q := by
  induction q with
  | nil => exact .head _
  | cons y q ih =>
    unfold queueInsert
    split
    · exact .head _
    · exact .tail _ ih

@[simp] theorem State.peak_pwr (s : State) (f : Field) (v i j : Nat) : (s.peak f v i j).pwr = s.pwr := by
  unfold State.peak; split <;> simp

@[simp] theorem State.peak_slices (s : State) (f : Field) (v i j : Nat) : (s.peak f v i j).slices = s.slices := by
  unfold State.peak; split <;> simp

@[simp] theorem State.askAdmission_slices (s : State) (cls index : Nat) : (s.askAdmission cls index).slices = s.slices := by
  unfold State.askAdmission; dsimp only; split <;> simp

/-- A requester that holds no grant waits once it has asked. -/
theorem admissionPending_askAdmission {cls index : Nat} (h : s.admissionGranted cls index = false) :
    (s.askAdmission cls index).admissionPending cls index = true := by
  unfold State.admissionGranted at h
  unfold State.askAdmission State.admissionPending
  dsimp only
  split
  · next hq => simpa [h] using hq
  · rw [State.peak_pwr]
    exact List.any_eq_true.2 ⟨_, mem_queueInsert_self _ _, by simp⟩

theorem admissionPending_releaseAdmission (s : State) (cls index : Nat) : (s.releaseAdmission cls index).admissionPending cls index = false := by
  simp [State.admissionPending, State.releaseAdmission]

theorem admissionGranted_releaseAdmission (s : State) (cls index : Nat) : (s.releaseAdmission cls index).admissionGranted cls index = false := by
  simp [State.admissionGranted, State.releaseAdmission]

theorem seqFrame.askAdmission (h : seqFrame l n s t) (cls index : Nat) (hl : F.PWR_QSTATUS_PEAK.part [] ∈ l) :
    seqFrame l n s (t.askAdmission cls index) :=
  ⟨h.1.askAdmission cls index (.of_mem hl 0 0 0 0), h.2.1.of_slices (State.askAdmission_slices ..), h.2.2.askAdmission cls index⟩

theorem seqFrame.releaseAdmission (h : seqFrame l n s t) (cls index : Nat) : seqFrame l n s (t.releaseAdmission cls index) :=
  h.of_eq rfl rfl rfl

/-! ### The record of a disable (R592) -/

theorem fld_disRecord (s : State) {f : Field} (hf : f.reg ≠ .PWR_DIS_LAST) (slice kind index finished discarded i j k m : Nat) :
    (s.disRecord slice kind index finished discarded).fld f i j k m = s.fld f i j k m := by
  rw [State.disRecord, State.fld_wr_reg _ _ _ _ _ _ _ _ _ _ _ _ hf]

theorem admissionPending_disRecord (s : State) (slice kind index finished discarded cls i : Nat) :
    (s.disRecord slice kind index finished discarded).admissionPending cls i = s.admissionPending cls i := by
  rw [State.admissionPending, State.disRecord, State.wr_pwr, State.admissionPending]

theorem admissionGranted_disRecord (s : State) (slice kind index finished discarded cls i : Nat) :
    (s.disRecord slice kind index finished discarded).admissionGranted cls i = s.admissionGranted cls i := by
  rw [State.admissionGranted, State.disRecord, State.wr_pwr, State.admissionGranted]

/-- Work that the field can hold is recorded as it is. -/
theorem fld_discarded_disRecord (s : State) {slice kind index discarded : Nat} (hs : slice < 16) (hk : kind < 8) (hi : index < 8)
    (hd : discarded < 2048) : (s.disRecord slice kind index 0 discarded).fld F.PWR_DIS_LAST_DISCARDED = discarded := by
  rw [State.fld, State.disRecord]
  simp only [F.PWR_DIS_LAST_DISCARDED, State.rd_wr_same, bitsAt_eq, BitVec.toNat_ofNat]
  omega

theorem seqFrame.disRecord (h : seqFrame l n s t) (hl : { reg := .PWR_DIS_LAST, idx := [] } ∈ l) (slice kind index finished discarded : Nat) :
    seqFrame l n s (t.disRecord slice kind index finished discarded) :=
  h.wr _ _ (.of_mem hl 0 0 0 0)

/-! ### ENABLE, the end of the wake, and DISABLE

A TX and an RX channel have one power life. `f` is its PWR field, which stands at the indices `n` and `c`. -/

section
variable (s n) (f : Field) (c : Nat) (hf : f.lo + f.width ≤ 32) (hw : f.width = 2)
include hf hw

theorem fld_setFld_pwr {v : Nat} (hv : v < 4) : (s.setFld f v n c).fld f n c = v :=
  (State.fld_setFld_same s f v n c 0 0 hf).trans (by rw [hw]; exact Nat.mod_eq_of_lt hv)

/-- An ENABLE that acts: PENDING, with the request in the queue. -/
theorem channel_pending (hr : f.reg ≠ .PWR_QSTATUS) {cls index : Nat} (hg : s.admissionGranted cls index = false) :
    let t := (s.setFld f 1 n c).askAdmission cls index
    t.fld f n c = 1 ∧ t.admissionPending cls index = true ∧ seqFrame [f.part [n, c], F.PWR_QSTATUS_PEAK.part []] n s t := by
  have hask : sameRegs [F.PWR_QSTATUS_PEAK.part []] (s.setFld f 1 n c) ((s.setFld f 1 n c).askAdmission cls index) :=
    (sameRegs.refl _ _).askAdmission _ _ (.of_mem (.head _) 0 0 0 0)
  refine ⟨?_, admissionPending_askAdmission hg, ((seqFrame.refl _ n s).setFld f 1 (.of_mem_index2 (.head _))).askAdmission _ _ (.tail _ (.head _))⟩
  rw [hask.fld_of_reg (by simpa [Field.part, F.PWR_QSTATUS_PEAK] using hr.symm), fld_setFld_pwr s n f c hf hw (by decide)]

theorem channel_on : (s.setFld f 3 n c).fld f n c = 3 ∧ seqFrame [f.part [n, c]] n s (s.setFld f 3 n c) :=
  ⟨fld_setFld_pwr s n f c hf hw (by decide), (seqFrame.refl _ n s).setFld f 3 (.of_mem_index2 (.head _))⟩

/-- A DISABLE: OFF, no request and no grant, and the record of what was discarded. -/
theorem channel_off (hr : f.reg ≠ .PWR_DIS_LAST) {kind : Nat} (hk : kind < 8) (hc : c < 8) (cls index : Nat) (b : Bool) :
    let t := ((s.setFld f 0 n c).releaseAdmission cls index).disRecord n kind c 0 (bit01 b)
    t.fld f n c = 0 ∧ t.admissionPending cls index = false ∧ t.admissionGranted cls index = false ∧
      t.fld F.PWR_DIS_LAST_DISCARDED = bit01 b ∧ seqFrame [f.part [n, c], { reg := .PWR_DIS_LAST, idx := [] }] n s t := by
  refine ⟨?_, by rw [admissionPending_disRecord, admissionPending_releaseAdmission],
    by rw [admissionGranted_disRecord, admissionGranted_releaseAdmission], ?_,
    (((seqFrame.refl _ n s).setFld f 0 (.of_mem_index2 (.head _))).releaseAdmission cls index).disRecord (.tail _ (.head _)) ..⟩
  · rw [fld_disRecord _ hr]
    exact fld_setFld_pwr s n f c hf hw (by decide)
  · exact fld_discarded_disRecord _ n.isLt hk hc (lt_trans (bit01_lt b) (by decide))

end

/-! ### MUTE (R273, R279) -/

/-- The cause and MUTED are written; TXC_MUTE_CNT follows. -/
def muteSet (s : State) (n : Fin 16) (k : Fin 4) (cause : Field) (b : Bool) : State :=
  let s := s.setFlag cause b n k
  s.setFlag F.TXC_STATUS_MUTED (s.flag F.TXC_STATUS_MUTE_CMD n k || s.flag F.TXC_STATUS_MUTE_GOV n k || s.flag F.TXC_STATUS_MUTE_FLT n k) n k

/-- What a change of a cause does to the registers but TXC_MUTE_CNT. -/
theorem muteSet_txCause (s : State) (n : Fin 16) (k : Fin 4) (cause : Field) (b : Bool) :
    seqFrame [{ reg := .TXC_MUTE_CNT, idx := [n, k] }] n (muteSet s n k cause b) (txCause s n k cause b) := by
  have hrefl : seqFrame [{ reg := .TXC_MUTE_CNT, idx := [n.val, k.val] }] n (muteSet s n k cause b) (muteSet s n k cause b) := .refl _ n _
  unfold txCause
  dsimp only
  split
  · exact hrefl
  · split
    · exact hrefl.wr _ _ (.of_mem_index2 (.head _))
    · split
      · exact hrefl.wr _ _ (.of_mem_index2 (.head _))
      · exact hrefl

/-- MUTE and UNMUTE: the command cause, and MUTED by the three causes. -/
theorem txCause_command (s : State) (n : Fin 16) (k : Fin 4) (b : Bool) :
    let t := txCause s n k F.TXC_STATUS_MUTE_CMD b
    t.flag F.TXC_STATUS_MUTE_CMD n k = b ∧ txMuted t n k = (b || s.flag F.TXC_STATUS_MUTE_GOV n k || s.flag F.TXC_STATUS_MUTE_FLT n k) ∧
      seqFrame [F.TXC_STATUS_MUTE_CMD.part [n, k], F.TXC_STATUS_MUTED.part [n, k], { reg := .TXC_MUTE_CNT, idx := [n, k] }] n s t := by
  have hset := muteSet_txCause s n k F.TXC_STATUS_MUTE_CMD b
  have hflag : ∀ f : Field, f.reg = .TXC_STATUS →
      (txCause s n k F.TXC_STATUS_MUTE_CMD b).flag f n k = (muteSet s n k F.TXC_STATUS_MUTE_CMD b).flag f n k := fun f hf =>
    congrArg (· == 1) (hset.1.fld_of_reg (by simp [hf]) n k 0 0)
  refine ⟨?_, ?_, ?_⟩
  · rw [hflag _ rfl, muteSet, State.flag_setFlag_bits _ _ _ _ _ _ _ _ _ _ _ _ (by decide) (by decide),
      State.flag_setFlag_same _ _ _ _ _ _ _ (by decide) rfl]
  · rw [txMuted, hflag _ rfl, muteSet, State.flag_setFlag_same _ F.TXC_STATUS_MUTED _ _ _ _ _ (by decide) rfl,
      State.flag_setFlag_same _ F.TXC_STATUS_MUTE_CMD _ _ _ _ _ (by decide) rfl,
      State.flag_setFlag_bits _ _ F.TXC_STATUS_MUTE_GOV _ _ _ _ _ _ _ _ _ (by decide) (by decide),
      State.flag_setFlag_bits _ _ F.TXC_STATUS_MUTE_FLT _ _ _ _ _ _ _ _ _ (by decide) (by decide)]
  · exact (((seqFrame.refl _ n s).setFlag _ _ (.of_mem_index2 (.head _))).setFlag _ _ (.of_mem_index2 (.tail _ (.head _)))).trans
      (hset.mono fun _ h => .tail _ (.tail _ h))

end

/-- Settles O26: TX and RX channels share the lemmas of one power life (`channel_pending`, `channel_on`, `channel_off`); MUTE and UNMUTE are
one change of the command cause. -/
theorem signalChannels : Obligations.SignalChannels := by
  unfold Obligations.SignalChannels
  refine ⟨fun s n k hon hoff hg => ⟨_, congrArg Host.Outcome.next ((analogDo_of_on hon _).trans (if_pos hoff)), ?_⟩,
    fun s n k hw hd => ⟨_, congrArg Host.Outcome.next (if_pos ⟨hw, hd⟩), ?_⟩, fun s n k => ⟨_, rfl, ?_⟩,
    fun s n k hon => ⟨_, congrArg Host.Outcome.next (analogEvent_of_on hon _), ?_⟩,
    fun s n k hon => ⟨_, congrArg Host.Outcome.next (analogEvent_of_on hon _), ?_⟩,
    fun s n j hon hoff hg => ⟨_, congrArg Host.Outcome.next ((analogDo_of_on hon _).trans (if_pos hoff)), ?_⟩,
    fun s n j hw hd => ⟨_, congrArg Host.Outcome.next (if_pos ⟨hw, hd⟩), ?_⟩, fun s n j => ⟨_, rfl, ?_⟩,
    fun s n j hd => ⟨_, congrArg Host.Outcome.next (if_pos hd), ?_⟩⟩
  · exact channel_pending s n F.TXC_STATUS_PWR k (by decide) rfl (by decide) hg
  · exact channel_on s n F.TXC_STATUS_PWR k (by decide) rfl
  · exact channel_off s n F.TXC_STATUS_PWR k (by decide) rfl (by decide) (by decide) (by omega) _ _ _
  · obtain ⟨hcmd, hmuted, hframe⟩ := txCause_command s n k true
    exact ⟨hcmd, by simpa using hmuted, hframe⟩
  · obtain ⟨hcmd, hmuted, hframe⟩ := txCause_command s n k false
    exact ⟨hcmd, by simpa using hmuted, hframe⟩
  · exact channel_pending s n F.RXC_STATUS_PWR j (by decide) rfl (by decide) hg
  · exact channel_on s n F.RXC_STATUS_PWR j (by decide) rfl
  · exact channel_off s n F.RXC_STATUS_PWR j (by decide) rfl (by decide) (by decide) (by omega) _ _ _
  · exact ⟨State.flag_setFlag_same _ _ _ _ _ _ _ (by decide) rfl, (seqFrame.refl _ n s).setFlag _ _ (.of_mem_index2 (.head _))⟩

end Sys2Proof.Machine

namespace Sys2Proof.Machine

/-! ## Phase and phase tracks (R241 to R245) -/

section
variable {s t : State} {n : Fin 16} {u : Fin 32} {k : Fin 4} {l : List Part}

/-! ### Histories -/

/-- An entry put newest holds from its sample on. -/
theorem atSample_cons {α : Type} (key : α → Nat) {sample : Nat} {x : α} (h : key x ≤ sample) (xs : List α) :
    atSample key sample (x :: xs) = some x := by
  cases xs with
  | nil => rfl
  | cons y ys => exact if_pos h

theorem toneSeg_toneBind (s : State) (n : Fin 16) (u : Fin 32) (r sample : Nat) :
    toneSeg (toneBind s n u r sample) n u sample = { sample := sample, track := some r, acc := 0, ftw := 0 } := by
  simp [toneSeg, toneBind, putSeg, atSample_cons]

theorem tonePoff_setPoff (s : State) (n : Fin 16) (u : Fin 32) (sample : Nat) (set : Bool) (v : Nat) :
    tonePoff (setPoff s n u sample set v) n u sample = if set then v % 2 ^ 32 else (tonePoff s n u sample + v) % 2 ^ 32 := by
  rw [tonePoff, setPoff, tone_modTone]
  simp [atSample_cons]

/-! ### Tracks (R242, R243) -/

/-- A 64-bit pair reads back what was put in it (R13). -/
theorem State.pair_setPair_same (s : State) {lo hi : Reg} (h : lo ≠ hi) {v : Nat} (hv : v < 2 ^ 64) (i j k : Nat) :
    (s.setPair lo hi v i j k).pair lo hi i j k = v := by
  rw [State.setPair, State.pair, State.rd_wr_same, State.rd_wr_reg _ _ _ _ _ _ _ _ _ _ h, State.rd_wr_same, BitVec.toNat_ofNat, BitVec.toNat_ofNat]
  omega

theorem trackAcc_eq (s : State) (n : Fin 16) (k : Fin 4) (r : Fin 32) (sample : Nat) :
    trackAcc s n k r sample = ((((txCh s n k).tracks.get r).acc + (sample : Int) * trackFtw s n k r
      - (((txCh s n k).tracks.get r).sample : Int) * trackFtw s n k r) % 2 ^ 48).toNat := by
  have hget : (txCh s n k).tracks.toList[r.val]? = some ((txCh s n k).tracks.get r) := by simp [Vector.get_eq_getElem]
  rw [trackAcc, hget]

theorem trackAcc_lt (s : State) (n : Fin 16) (k : Fin 4) (r : Fin 32) (sample : Nat) : trackAcc s n k r sample < 2 ^ 48 := by
  rw [trackAcc_eq]
  omega

/-- A track's accumulator at the sample at which it stands. -/
theorem trackAcc_of_get {r : Fin 32} {sample acc : Nat} {rebased : Bool}
    (h : (txCh s n k).tracks.get r = { sample := sample, acc := acc, rebased := rebased }) (hacc : acc < 2 ^ 48) :
    trackAcc s n k r sample = acc := by
  rw [trackAcc_eq, h]
  dsimp only
  rw [add_sub_cancel_right]
  omega

theorem get_setTrack (s : State) (n : Fin 16) (k : Fin 4) (r : Fin 32) (acc : Nat) (rebased : Bool) (x : Fin 32) :
    (txCh (setTrack s n k r acc rebased) n k).tracks.get x =
      if x = r then { sample := 128 * s.now, acc := acc, rebased := rebased } else (txCh s n k).tracks.get x := by
  rw [setTrack, txCh_modTx]
  simp only [Vector.get_eq_getElem, Vector.getElem_set, Fin.ext_iff, eq_comm]

theorem seqFrame.setTrack (h : seqFrame l n s t) (r : Fin 32) (acc : Nat) (rebased : Bool) : seqFrame l n s (setTrack t n k r acc rebased) :=
  h.modTx k _

/-- A write of a word at a boundary at which no rebase acts. -/
theorem trackRetune_of_not_rebased {r : Fin 32}
    (h : ¬(((txCh s n k).tracks.get r).rebased = true ∧ ((txCh s n k).tracks.get r).sample = 128 * s.now)) (ftw : Nat) :
    trackRetune s n k r ftw = setTrack (s.setPair .TXC_TRK_FTW_LO .TXC_TRK_FTW_HI (ftw % 2 ^ 48) n k r) n k r (trackAcc s n k r (128 * s.now)) false :=
  if_neg h

/-- One track of a rebase. -/
def rebaseBit (tracks : Nat) (n : Fin 16) (k : Fin 4) (s : State) (r : Fin 32) : State :=
  if tracks.testBit r.val then trackRebaseOne s n k r else s

theorem get_rebaseBit (tracks : Nat) (s : State) (r x : Fin 32) :
    (txCh (rebaseBit tracks n k s r) n k).tracks.get x =
      if x = r ∧ tracks.testBit r.val then { sample := 128 * s.now, acc := 128 * s.beat * trackFtw s n k r % 2 ^ 48, rebased := true }
      else (txCh s n k).tracks.get x := by
  unfold rebaseBit
  by_cases h : tracks.testBit r.val = true
  · rw [if_pos h, trackRebaseOne, get_setTrack]
    simp only [h, and_true]
  · simp [h]

/-- A rebase reads nothing that it changes. -/
theorem rebaseBit_reads (tracks : Nat) (s : State) (r : Fin 32) :
    (rebaseBit tracks n k s r).now = s.now ∧ (rebaseBit tracks n k s r).beat = s.beat ∧
      ∀ x, trackFtw (rebaseBit tracks n k s r) n k x = trackFtw s n k x := by
  unfold rebaseBit
  split <;> exact ⟨rfl, rfl, fun _ => rfl⟩

/-- The tracks after some of them have been rebased. -/
theorem get_foldl_rebaseBit (tracks : Nat) (xs : List (Fin 32)) (s : State) (r : Fin 32) :
    (txCh (xs.foldl (rebaseBit tracks n k) s) n k).tracks.get r =
      if r ∈ xs ∧ tracks.testBit r.val then { sample := 128 * s.now, acc := 128 * s.beat * trackFtw s n k r % 2 ^ 48, rebased := true }
      else (txCh s n k).tracks.get r := by
  induction xs generalizing s with
  | nil => simp
  | cons x xs ih =>
    obtain ⟨hnow, hbeat, hftw⟩ := rebaseBit_reads (n := n) (k := k) tracks s x
    rw [List.foldl_cons, ih, hnow, hbeat, hftw, get_rebaseBit]
    by_cases hx : r = x
    · subst hx; by_cases hb : tracks.testBit r.val = true <;> simp [hb]
    · simp [hx]

theorem get_trackRebase (tracks : Nat) (s : State) (r : Fin 32) :
    (txCh (trackRebase s n k tracks) n k).tracks.get r =
      if tracks.testBit r.val then { sample := 128 * s.now, acc := 128 * s.beat * trackFtw s n k r % 2 ^ 48, rebased := true }
      else (txCh s n k).tracks.get r := by
  refine (get_foldl_rebaseBit tracks (List.finRange 32) s r).trans ?_
  simp

theorem seqFrame.rebaseBit (h : seqFrame l n s t) (tracks : Nat) (r : Fin 32) : seqFrame l n s (rebaseBit tracks n k t r) := by
  unfold Machine.rebaseBit
  split
  · exact h.setTrack r _ true
  · exact h

theorem seqFrame.trackRebase (h : seqFrame l n s t) (tracks : Nat) : seqFrame l n s (trackRebase t n k tracks) :=
  h.foldl (Machine.rebaseBit tracks n k) (fun _ r ht => ht.rebaseBit tracks r) (List.finRange 32)

/-- The low word of a pair reads the low word of what was put. -/
theorem State.rd_low_setPair (s : State) {lo hi : Reg} (h : lo ≠ hi) (v i j k : Nat) :
    (s.setPair lo hi v i j k).rd lo i j k = BitVec.ofNat 32 v := by
  rw [State.setPair, State.rd_wr_reg _ _ _ _ _ _ _ _ _ _ h, State.rd_wr_same]

/-- The value that a read of a track's accumulator gives. -/
def selectedAcc (s : State) (n : Fin 16) (k : Fin 4) : Nat := trackAcc s n k (s.fld F.TXC_TRK_SEL_TRACK n k) (128 * (s.now + 1))

theorem selectedAcc_lt (s : State) (n : Fin 16) (k : Fin 4) : selectedAcc s n k < 2 ^ 48 := by
  have hsel : s.fld F.TXC_TRK_SEL_TRACK n k < 32 := State.fld_lt s F.TXC_TRK_SEL_TRACK n k 0 0
  exact trackAcc_lt s n k ⟨s.fld F.TXC_TRK_SEL_TRACK n k, hsel⟩ _

theorem trackAccRead_eq (s : State) (n : Fin 16) (k : Fin 4) :
    trackAccRead n k s =
      { s.setPair .TXC_TRK_ACC_LO .TXC_TRK_ACC_HI (selectedAcc s n k) n k with readValue := BitVec.ofNat 32 (selectedAcc s n k) } := by
  rw [← State.rd_low_setPair s (lo := .TXC_TRK_ACC_LO) (hi := .TXC_TRK_ACC_HI) (by decide) (selectedAcc s n k) n k 0]
  rfl

/-! ### FLUSH (R265) and the accesses of a device that is not in reset (R10) -/

theorem toneFlush_of_not_playing (h : toneState s n u = 0 ∨ toneState s n u = 2 ∨ toneState s n u = 4 ∨ toneState s n u = 5) :
    toneFlush s n u = modTone s n u fun t => { t with buffer := [] } := if_pos h

theorem awake_of_not_reset (h : s.inReset = false) (f : State → State) : s.awake f = f s := by
  rw [State.awake, h, if_neg Bool.false_ne_true]

theorem State.pair_readValue (s : State) (v : Word) (lo hi : Reg) (i j k : Nat) :
    State.pair { s with readValue := v } lo hi i j k = s.pair lo hi i j k := rfl

end

end Sys2Proof.Machine

namespace Sys2Proof.Machine

/-! ## A write of TON_ENTRY (R262) -/

/-! ### The address of an entry (R527) -/

/-- An index within its count, over an offset below its stride, is spelled by the quotient. -/
theorem indicesAt_cons {stride count i off : Nat} (hi : i < count) (hoff : off < stride) (dims : List (Nat × Nat)) :
    indicesAt ((stride, count) :: dims) (stride * i + off) = (indicesAt dims off).map (i :: ·) := by
  have hdiv : (stride * i + off) / stride = i := by
    rw [Nat.mul_add_div (by omega), Nat.div_eq_of_lt hoff, Nat.add_zero]
  have hmod : (stride * i + off) % stride = off := by rw [Nat.mul_add_mod, Nat.mod_eq_of_lt hoff]
  rw [indicesAt, hdiv, hmod, if_pos hi]

section
variable (n : Fin 16) (u : Fin 32) (e : Fin 4)

/-- The key of entry `e` of tone `u`. -/
abbrev entryKey : RegKey := ⟨.TON_ENTRY, n, u, e, 0⟩

theorem address_entryKey : (entryKey n u e).address = 0x10005010 + (0x100000 * n + (0x40 * u + 4 * e)) := by
  have hterms : (entryKey n u e).address = 0x10005010 + 0x100000 * n + 0x40 * u + 4 * e := rfl
  omega

theorem inSliceRegs_entryKey : inSliceRegs (entryKey n u e).address = true := by
  rw [address_entryKey, inSliceRegs, Bool.and_eq_true, decide_eq_true_eq, decide_eq_true_eq]
  omega

theorem sliceOfAddr_entryKey : sliceOfAddr (entryKey n u e).address = n := by
  rw [address_entryKey, sliceOfAddr, Fin.ext_iff]
  dsimp only
  omega

/-- A register of one word per tone that stands before the entries does not stand at an entry's address. -/
theorem instanceAt_entryKey_none {r : Reg} {d : Nat} (hd : r.dims = [(0x100000, 16), (0x40, 32)]) (hb : r.base + d = 0x10005010)
    (h : 0 < d ∧ d ≤ 0x10) : r.instanceAt (entryKey n u e).address = none := by
  have hoff : (entryKey n u e).address - r.base = 0x100000 * n + (0x40 * u + (4 * e + d)) := by rw [address_entryKey]; omega
  rw [Reg.instanceAt, if_neg (by rw [address_entryKey]; omega), hoff, hd, indicesAt_cons n.isLt (by omega), indicesAt_cons u.isLt (by omega), indicesAt,
    if_neg (by omega)]
  rfl

theorem instanceAt_entryKey : Reg.TON_ENTRY.instanceAt (entryKey n u e).address = some (entryKey n u e) := by
  have hbase : Reg.TON_ENTRY.base = 0x10005010 := rfl
  have hdims : Reg.TON_ENTRY.dims = [(0x100000, 16), (0x40, 32), (4, 4)] := rfl
  have hoff : (entryKey n u e).address - Reg.TON_ENTRY.base = 0x100000 * n + (0x40 * u + (4 * e + 0)) := by rw [address_entryKey, hbase]; omega
  rw [Reg.instanceAt, if_neg (by rw [address_entryKey, hbase]; omega), hoff, hdims, indicesAt_cons n.isLt (by omega),
    indicesAt_cons u.isLt (by omega), indicesAt_cons e.isLt (by omega)]
  rfl

theorem regAt_entryKey : regAt (entryKey n u e).address = some (entryKey n u e) := by
  have hglobal : inGlobalRegs (entryKey n u e).address = false := by
    rw [address_entryKey, inGlobalRegs, decide_eq_false_iff_not]
    omega
  have hpage : (entryKey n u e).address % 0x100000 / 0x1000 = 5 := by rw [address_entryKey]; omega
  have hblock : sliceBlock 5 = Reg.blockTON := rfl
  simp only [regAt, hglobal, inSliceRegs_entryKey, hpage, hblock, Bool.false_eq_true, if_false, if_true, Reg.blockTON, List.findSome?_cons,
    instanceAt_entryKey_none n u e (r := .TON_CTRL) (d := 0x10) rfl rfl (by decide),
    instanceAt_entryKey_none n u e (r := .TON_CFG) (d := 0xC) rfl rfl (by decide),
    instanceAt_entryKey_none n u e (r := .TON_STATUS) (d := 8) rfl rfl (by decide),
    instanceAt_entryKey_none n u e (r := .TON_INDEX) (d := 4) rfl rfl (by decide), instanceAt_entryKey]

end

/-! ### The word that an entry takes (R8, R262) -/

theorem toNat_sub_and (x m : Word) : x.toNat - (x.toNat &&& m.toNat) = (x &&& ~~~m).toNat := by
  have hdisj : (x &&& m) &&& (x &&& ~~~m) = 0 := by
    refine BitVec.eq_of_getLsbD_eq fun b hb => ?_
    simp only [BitVec.getLsbD_and, BitVec.getLsbD_not, hb, decide_true, Bool.true_and]
    cases x.getLsbD b <;> cases m.getLsbD b <;> simp
  have hsum : (x &&& m) + (x &&& ~~~m) = x := by
    rw [BitVec.add_eq_or_of_and_eq_zero _ _ hdisj]
    refine BitVec.eq_of_getLsbD_eq fun b hb => ?_
    simp only [BitVec.getLsbD_or, BitVec.getLsbD_and, BitVec.getLsbD_not, hb, decide_true, Bool.true_and]
    cases x.getLsbD b <;> cases m.getLsbD b <;> simp
  have hnat := congrArg BitVec.toNat hsum
  rw [BitVec.toNat_add_of_and_eq_zero hdisj, BitVec.toNat_and] at hnat
  omega

/-- A write takes the bits of its mask; the others stay. -/
theorem testBit_mix (m old : Word) (v b : Nat) :
    (mix m.toNat v old.toNat).testBit b = if m.getLsbD b then v.testBit b else old.getLsbD b := by
  rw [mix, toNat_sub_and, Nat.testBit_or, Nat.testBit_and, BitVec.testBit_toNat, BitVec.testBit_toNat, BitVec.getLsbD_and, BitVec.getLsbD_not]
  cases hm : m.getLsbD b with
  | true => simp
  | false =>
    by_cases hb : b < 32
    · simp [hb]
    · simp [hb, BitVec.getLsbD_of_ge old b (by omega)]

theorem bitsAt_mix_inside (m old : Word) (v : Nat) {lo w : Nat} (h : ∀ b < w, m.getLsbD (lo + b) = true) :
    bitsAt (mix m.toNat v old.toNat) lo w = bitsAt v lo w := by
  refine Nat.eq_of_testBit_eq fun b => ?_
  simp only [bitsAt, Nat.testBit_mod_two_pow, Nat.testBit_shiftRight]
  by_cases hb : b < w
  · rw [testBit_mix, h b hb, if_pos rfl]
  · simp [hb]

/-- INDEX and VALID, the fields that software writes. -/
def entryMask : Word := 0x8001FFFF

/-- What TON_ENTRY holds after a write of `v`. -/
def entryWord (old v : Word) : Nat := mix entryMask.toNat (putFld F.TON_ENTRY_INDEX v.toNat (min (bitsAt v.toNat 0 17) 98303)) old.toNat

theorem index_entryWord (old v : Word) : bitsAt (entryWord old v) 0 17 = min (bitsAt v.toNat 0 17) 98303 := by
  rw [entryWord, bitsAt_mix_inside _ _ _ (by decide)]
  exact (bitsAt_putBits_same _ 0 17 _).trans (Nat.mod_eq_of_lt (by omega))

theorem valid_entryWord (old v : Word) : bitsAt (entryWord old v) 31 1 = bitsAt v.toNat 31 1 := by
  rw [entryWord, bitsAt_mix_inside _ _ _ (by decide)]
  exact bitsAt_putBits_above _ 0 17 _ 31 1 (by decide)

/-! ### The write of the register (R7, R69) -/

section
variable {s t : State} {n : Fin 16} {u : Fin 32} {e : Fin 4} {l : List Part}

/-- A word is stored where it differs from what stands there. -/
def storeWord (s : State) (r : Reg) (x i j k m : Nat) : State :=
  if x = (s.rd r i j k m).toNat then s else s.wr r (BitVec.ofNat 32 x) i j k m

theorem rd_storeWord (s : State) (r : Reg) (x i j k m : Nat) : (storeWord s r x i j k m).rd r i j k m = BitVec.ofNat 32 x := by
  unfold storeWord
  split
  · next h => rw [h, BitVec.ofNat_toNat, BitVec.setWidth_eq]
  · rw [State.rd_wr_same]

theorem fld_storeWord (s : State) (f : Field) (hf : f.lo + f.width ≤ 32) (x i j k m : Nat) :
    (storeWord s f.reg x i j k m).fld f i j k m = bitsAt x f.lo f.width := by
  rw [State.fld, rd_storeWord, BitVec.toNat_ofNat, bitsAt_mod_two_pow _ hf]

theorem seqFrame.storeWord (h : seqFrame l n s t) (r : Reg) (x : Nat) {i j k m : Nat} (hl : holdsReg l r i j k m) :
    seqFrame l n s (storeWord t r x i j k m) := by
  unfold Machine.storeWord
  split
  · exact h
  · exact h.wr r _ hl

/-- Without a locked bit a write of an entry is held nowhere: no image value bounds TON_ENTRY. -/
theorem heldBits_entryKey (hlocks : s.img.locks = []) (v : Nat) : s.heldBits (entryKey n u e) v = (0, false) := by
  have hbound : ∀ f x, s.beyondBound (entryKey n u e) f x = false := fun _ _ => rfl
  have hlocked : s.lockedBits (entryKey n u e) = 0 := by simp [State.lockedBits, hlocks]
  simp [State.heldBits, hlocked, hbound]

theorem clearFlags_entryKey (s : State) (n : Fin 16) (u : Fin 32) (e : Fin 4) (v : Nat) : clearFlags s (entryKey n u e) v = s := by
  have hmask : Reg.TON_ENTRY.accessMask [.w1c] = 0 := rfl
  simp [clearFlags, hmask]

theorem regHook_entryKey (s : State) (n : Fin 16) (u : Fin 32) (e : Fin 4) : regHook s (entryKey n u e) = toneEntryChanged s n u e := by
  have hn : toFin 16 n.val = n := Fin.ofNat_val_eq_self n
  have hu : toFin 32 u.val = u := Fin.ofNat_val_eq_self u
  have hhook : regHook s (entryKey n u e) = toneEntryChanged s (toFin 16 n.val) (toFin 32 u.val) e := rfl
  rw [hhook, hn, hu]

/-- A write of an entry stores its word; then the entry's lines are those of the new word. -/
theorem wordWrite_entryKey (hlocks : s.img.locks = []) (path : Path) (port : Option (Fin 2)) (v : Word) :
    (wordWrite s path port (entryKey n u e) v).1 =
      toneEntryChanged (storeWord s .TON_ENTRY (entryWord (s.rd .TON_ENTRY n u e) v) n u e 0) n u e := by
  have hignored : s.writeIgnored path (entryKey n u e) v.toNat = none := rfl
  have hclear : ∀ t, regCommands (clearWrite t (entryKey n u e) v.toNat) path (entryKey n u e) v.toNat = t := fun _ => rfl
  have hwritable : Reg.TON_ENTRY.writable = entryMask.toNat := rfl
  have hfixed : (entryKey n u e).fixedMask = 0 := rfl
  have hown : Reg.TON_ENTRY.ownMask = 0 := rfl
  have hclamp : levelClamp s (entryKey n u e) v.toNat = s := rfl
  have hne : entryMask.toNat ≠ 0 := by decide
  rw [wordWrite, hignored]
  simp only [heldBits_entryKey hlocks, hwritable, hfixed, hown, hclamp, Nat.or_self, Nat.and_zero, Nat.sub_zero, clearFlags_entryKey, true_or, if_true,
    if_neg hne, regHook_entryKey, hclear]
  rfl

/-! ### What LOADED shows, and the rest of the entry -/

theorem seqFrame.showEntries (h : seqFrame l n s t) (hl : F.TON_ENTRY_LOADED.part [n, u] ∈ l) : seqFrame l n s (showEntries t n u) :=
  h.foldl _ (fun _ _ ht => ht.setFlag _ _ (.of_mem_index2 hl)) _

/-- The lines of an entry decide LOADED alone. -/
theorem fld_showEntries (s : State) (n : Fin 16) (u : Fin 32) {f : Field} (hf : f.lo + f.width ≤ 30 ∨ 31 ≤ f.lo) (i j k m : Nat) :
    (showEntries s n u).fld f i j k m = s.fld f i j k m :=
  List.foldlRecOn (motive := fun (t : State) => t.fld f i j k m = s.fld f i j k m) _ _ rfl fun _ ht _ _ =>
    (State.fld_setFlag_bits _ F.TON_ENTRY_LOADED f _ _ _ _ _ _ _ _ _ (by decide) hf).trans ht

theorem seqFrame.toneEntryChanged (h : seqFrame l n s t) (hl : F.TON_ENTRY_LOADED.part [n, u] ∈ l) (e : Nat) :
    seqFrame l n s (toneEntryChanged t n u e) :=
  (h.modTone u _).showEntries hl

theorem fld_toneEntryChanged (s : State) (n : Fin 16) (u : Fin 32) (e : Nat) {f : Field} (hf : f.lo + f.width ≤ 30 ∨ 31 ≤ f.lo) (i j k m : Nat) :
    (toneEntryChanged s n u e).fld f i j k m = s.fld f i j k m :=
  fld_showEntries _ n u hf i j k m

/-- What a write of an entry leaves: INDEX and VALID as written, the index within its limit. -/
theorem wordWrite_entryKey_takes (hlocks : s.img.locks = []) (path : Path) (port : Option (Fin 2)) (v : Word) :
    let t := (wordWrite s path port (entryKey n u e) v).1
    t.fld F.TON_ENTRY_INDEX n u e = min (bitsAt v.toNat 0 17) 98303 ∧ t.fld F.TON_ENTRY_VALID n u e = bitsAt v.toNat 31 1 ∧
      seqFrame [{ reg := .TON_ENTRY, idx := [n, u, e] }, F.TON_ENTRY_LOADED.part [n, u]] n s t := by
  rw [wordWrite_entryKey hlocks]
  refine ⟨?_, ?_, ((seqFrame.refl _ n s).storeWord _ _ (.of_mem_index3 (.head _))).toneEntryChanged (.tail _ (.head _)) e⟩
  · rw [fld_toneEntryChanged _ n u e (.inl (by decide))]
    exact (fld_storeWord s F.TON_ENTRY_INDEX (by decide) _ n u e 0).trans (index_entryWord _ v)
  · rw [fld_toneEntryChanged _ n u e (.inr (by decide))]
    exact (fld_storeWord s F.TON_ENTRY_VALID (by decide) _ n u e 0).trans (valid_entryWord _ v)

/-! ### The access (R23, R89, R675) -/

/-- The journal record of a write changes the journal only. -/
theorem journalReg_eq (s : State) (path : Path) (addr : Nat) (v : Word) : ∃ x, journalReg s path addr v = { s with rpl := x } := by
  unfold journalReg State.journal
  split
  · dsimp only
    split <;> exact ⟨_, rfl⟩
  · exact ⟨_, rfl⟩

/-- Outside a replay and a live reload of the slice, a write of an entry acts on the state with its journal record. -/
theorem regWrite_entryKey (hrpl : s.rplState ≠ 2) (hhold : reloadHolds s n = false) (path : Path) (port : Option (Fin 2)) (v : Word) :
    regWrite s path port (entryKey n u e).address v =
      wordWrite (journalReg s path (entryKey n u e).address v) path port (entryKey n u e) v := by
  have happly : ∀ t, regApply t path port (entryKey n u e) v = wordWrite t path port (entryKey n u e) v := fun _ => rfl
  rw [regWrite, regAt_entryKey]
  simp only [hrpl, false_and, if_false, sliceOfAddr_entryKey, hhold, Bool.and_false, Bool.false_eq_true, happly]

end

/-- Settles O25: a command that finds no boundary before it acts on the tone as it stands; TON_ENTRY by `wordWrite_entryKey_takes`, and a track
by what `setTrack` puts at the boundary. -/
theorem phaseAndTracks : Obligations.PhaseAndTracks := by
  unfold Obligations.PhaseAndTracks
  refine ⟨fun s n u r hon hst hends => ⟨_, congrArg Host.Outcome.next (coreEvent_of_on hon _), ?_⟩,
    fun s n u set v hon hst hends => ⟨_, congrArg Host.Outcome.next (coreEvent_of_on hon _), ?_⟩,
    fun s n u hon hst => ⟨_, congrArg Host.Outcome.next ((coreDo_of_on hon _).trans (toneFlush_of_not_playing hst)), ?_⟩,
    fun s n u path e v hreset hrpl hhold hlocks _ => ⟨_, congrArg Host.Outcome.next (awake_of_not_reset hreset _), ?_⟩,
    fun s n k r ftw hon hreb => ⟨_, congrArg Host.Outcome.next ((coreDo_of_on hon _).trans (trackRetune_of_not_rebased hreb _)), ?_⟩,
    fun s n k tracks hon => ⟨_, congrArg Host.Outcome.next (coreDo_of_on hon _), ?_⟩, fun s n k => ⟨_, rfl, ?_⟩⟩
  · rw [toneTrack, toneEvent_of_not_drained hst, toneToBoundary_of_later hends]
    exact ⟨toneSeg_toneBind s n u r _, by simp [toneBind], (seqFrame.refl _ n s).modTone u _⟩
  · have hv : v.toNat * 256 < 2 ^ 32 := by omega
    rw [tonePhase, toneEvent_of_not_drained hst, toneToBoundary_of_later hends]
    refine ⟨?_, (seqFrame.refl _ n s).setPoff _ _ _⟩
    rw [tonePoff_setPoff, Nat.mod_eq_of_lt hv]
  · exact ⟨by simp, (seqFrame.refl _ n s).modTone u _⟩
  · obtain ⟨x, hx⟩ := journalReg_eq s path (entryKey n u e).address v
    rw [regWrite_entryKey hrpl hhold, hx]
    obtain ⟨hindex, hvalid, hframe⟩ := wordWrite_entryKey_takes (s := { s with rpl := x }) (n := n) (u := u) (e := e) hlocks path none v
    exact ⟨hindex, hvalid, ((seqFrame.refl _ n s).of_eq rfl rfl rfl).trans hframe⟩
  · have hftw : ftw.toNat % 2 ^ 48 = ftw.toNat := Nat.mod_eq_of_lt ftw.isLt
    rw [hftw]
    refine ⟨?_, ?_, ((seqFrame.refl _ n s).setPair _ _ _ (.of_mem_index3 (.head _)) (.of_mem_index3 (.tail _ (.head _)))).setTrack r _ false⟩
    · exact State.pair_setPair_same s (by decide) (lt_trans ftw.isLt (by decide)) n k r
    · exact trackAcc_of_get ((get_setTrack _ n k r _ false r).trans (if_pos rfl)) (trackAcc_lt s n k r _)
  · refine ⟨fun r hr => ?_, fun r hr => ?_, (seqFrame.refl [] n s).trackRebase _⟩
    · have hget := (get_trackRebase (n := n) (k := k) tracks.toNat s r).trans (if_pos hr)
      exact trackAcc_of_get hget (Nat.mod_lt _ (by decide))
    · exact (get_trackRebase (n := n) (k := k) tracks.toNat s r).trans (if_neg (Bool.eq_false_iff.1 hr))
  · have hlt : selectedAcc s n k < 2 ^ 64 := lt_trans (selectedAcc_lt s n k) (by decide)
    rw [trackAccRead_eq]
    refine ⟨rfl, ?_, ((seqFrame.refl _ n s).setPair _ _ _ (.of_mem_index2 (.head _)) (.of_mem_index2 (.tail _ (.head _)))).of_eq rfl rfl rfl⟩
    rw [State.pair_readValue, State.pair_setPair_same s (by decide) hlt]
    rfl

end Sys2Proof.Machine

namespace Sys2Proof.Machine

/-! ## The bins of a slice (R285 to R293)

A bin and a capture stream stand in the slice beside their registers. -/

section
variable {s t : State} {n : Fin 16} {u : Fin 32} {l : List Part}

/-! ### A bin after a change -/

@[simp] theorem bin_modBin (s : State) (n : Fin 16) (u : Fin 32) (f : Bin → Bin) : bin (modBin s n u f) n u = f (bin s n u) := by
  simp [bin, modBin, Vector.get_eq_getElem]

@[simp] theorem bin_modAcq (s : State) (n : Fin 16) (u : Fin 32) (st : Fin 4) (f : AcqStream → AcqStream) :
    bin (modAcq s n st f) n u = bin s n u := by
  simp [bin, modAcq]

@[simp] theorem bin_wr (s : State) (n : Fin 16) (u : Fin 32) (r : Reg) (v : Word) (i j k m : Nat) : bin (s.wr r v i j k m) n u = bin s n u := rfl

@[simp] theorem bin_setFld (s : State) (n : Fin 16) (u : Fin 32) (f : Field) (v i j k m : Nat) : bin (s.setFld f v i j k m) n u = bin s n u := rfl

theorem bin_of_slices (h : t.slices = s.slices) (n : Fin 16) (u : Fin 32) : bin t n u = bin s n u := by
  rw [bin, bin, State.sl, State.sl, h]

theorem seqFrame.modBin (h : seqFrame l n s t) (u : Fin 32) (f : Bin → Bin) : seqFrame l n s (modBin t n u f) := h.modSl _

theorem seqFrame.modAcq (h : seqFrame l n s t) (st : Fin 4) (f : AcqStream → AcqStream) : seqFrame l n s (modAcq t n st f) := h.modSl _

/-- A register listed whole for every third and fourth index. -/
theorem holdsReg.of_mem_index2_below {r : Reg} {i j k m : Nat} (h : { reg := r, idx := [i, j] } ∈ l) : holdsReg l r i j k m :=
  ⟨{ reg := r, idx := [i, j] }, h, rfl, by simp [List.isPrefixOf], rfl, Nat.le_refl _⟩

/-- A field listed for every second index. -/
theorem holdsFld.of_mem_index_below {f : Field} {i j : Nat} (h : f.part [i] ∈ l) : holdsFld l f i j 0 0 :=
  ⟨f.part [i], h, rfl, by simp [Field.part, List.isPrefixOf], Nat.le_refl _, Nat.le_refl _⟩

/-- A field of a register that is listed whole. -/
theorem holdsFld.of_mem_whole {f : Field} {i j : Nat} (h : { reg := f.reg, idx := [i, j] } ∈ l) (hf : f.lo + f.width ≤ 32) :
    holdsFld l f i j 0 0 :=
  ⟨{ reg := f.reg, idx := [i, j] }, h, rfl, by simp [List.isPrefixOf], Nat.zero_le _, by simpa using hf⟩

/-! ### DMX_STATUS.STATE -/

theorem fld_binState_setFld {v : Nat} (hv : v < 4) (s : State) (n : Fin 16) (u : Fin 32) :
    (s.setFld F.DMX_STATUS_STATE v n u).fld F.DMX_STATUS_STATE n u = v :=
  (State.fld_setFld_same s F.DMX_STATUS_STATE v n u 0 0 (by decide)).trans (Nat.mod_eq_of_lt hv)

/-! ### Held weight writes (R293) -/

theorem seqFrame.wramStore (h : seqFrame l n s t) (hl : { reg := .DMX_WRAM, idx := [n.val, u.val] } ∈ l) (i : Nat) (v : Word) :
    seqFrame l n s (wramStore t n u i v) :=
  h.wr (i := n.val) (j := u.val) (k := i) (m := 0) .DMX_WRAM v (.of_mem_index2_below hl)

/-- The release writes DMX_WRAM of its own bin. -/
theorem seqFrame.wramRelease (h : seqFrame l n s t) (hl : { reg := .DMX_WRAM, idx := [n.val, u.val] } ∈ l) :
    seqFrame l n s (wramRelease t n u) := by
  unfold Machine.wramRelease
  refine (h.modBin u _).foldl _ (fun _ x ht => ?_) _
  exact seqFrame.wramStore ht hl x.1 x.2

theorem bin_wramRelease (s : State) (n : Fin 16) (u : Fin 32) : bin (wramRelease s n u) n u = { bin s n u with held := [] } :=
  List.foldlRecOn (motive := fun t => bin t n u = { bin s n u with held := [] }) (bin s n u).held
    (fun (s : State) (x : Nat × Word) => wramStore s n u x.1 x.2) (bin_modBin s n u _) fun _ ht x _ => (bin_wr _ n u _ x.2 ..).trans ht

theorem fld_wramRelease (s : State) (n : Fin 16) (u : Fin 32) {f : Field} (hf : f.reg ≠ .DMX_WRAM) (i j k m : Nat) :
    (wramRelease s n u).fld f i j k m = s.fld f i j k m :=
  (seqFrame.wramRelease (l := [{ reg := .DMX_WRAM, idx := [n.val, u.val] }]) (.refl _ n s) (.head _)).1.fld_of_reg (by simpa using hf.symm) i j k m

theorem wramWrite_of_idle (h : (bin s n u).windows = []) (i : Nat) (v : Word) : wramWrite s n u i v = s.wr .DMX_WRAM v n u i :=
  if_pos (by rw [h]; rfl)

theorem wramWrite_of_window (h : (bin s n u).windows ≠ []) (i : Nat) (v : Word) :
    wramWrite s n u i v = modBin s n u fun b => { b with held := b.held ++ [(i, v)] } :=
  if_neg (by simpa using h)

/-! ### TRIGGER (R288) -/

/-- A trigger that no stream waits for. -/
theorem acqBinTrigger_eq_self (h : ∀ st : Fin 4, acqState s n st = 0 ∨ (acq s n st).trig ≠ 2) (u : Nat) : acqBinTrigger s n u = s :=
  List.foldlRecOn (motive := fun t => t = s) (List.finRange 4) _ rfl fun t ht st _ => by
    subst ht
    exact if_neg fun ⟨hbusy, htrig, _⟩ => (h st).elim hbusy (· htrig)

/-- The window that a trigger opens, and what DMX_STATUS shows of it. -/
def windowOpened (s : State) (n : Fin 16) (u : Fin 32) (set : Nat) : State :=
  ((modBin s n u fun b => { b with windows := b.windows ++ [windowNow s n u set s.now s.beat] }).setFld F.DMX_STATUS_STATE 1 n u).setFld
    F.DMX_STATUS_WSEL set n u

theorem acqState_windowOpened (s : State) (n : Fin 16) (u : Fin 32) (set st : Nat) : acqState (windowOpened s n u set) n st = acqState s n st :=
  (State.fld_setFld_reg _ _ _ _ _ _ _ _ _ _ _ _ (by decide)).trans (State.fld_setFld_reg _ _ _ _ _ _ _ _ _ _ _ _ (by decide))

theorem acq_windowOpened (s : State) (n : Fin 16) (u : Fin 32) (set : Nat) (st : Fin 4) : acq (windowOpened s n u set) n st = acq s n st := by
  simp [acq, windowOpened, modBin, State.setFld]

/-- A trigger opens the window where one may open. -/
theorem binTrigger_of_sound {set : Nat} (hst : s.fld F.DMX_STATUS_STATE n u ≠ 2) (hopen : binOpen s n u = none) (hset : wsetOk s n u set = true)
    (hacq : ∀ st : Fin 4, acqState s n st = 0 ∨ (acq s n st).trig ≠ 2) : binTrigger s n u set = windowOpened s n u set := by
  rw [binTrigger, if_neg hst, hopen]
  simp only [binOpenWindow, hset, Bool.not_true, Bool.false_eq_true, if_false]
  exact acqBinTrigger_eq_self (s := windowOpened s n u set) (fun st => by rw [acqState_windowOpened, acq_windowOpened]; exact hacq st) u.val

theorem windows_windowOpened (s : State) (n : Fin 16) (u : Fin 32) (set : Nat) :
    (bin (windowOpened s n u set) n u).windows = (bin s n u).windows ++ [windowNow s n u set s.now s.beat] := by
  simp [windowOpened]

theorem fld_state_windowOpened (s : State) (n : Fin 16) (u : Fin 32) (set : Nat) : (windowOpened s n u set).fld F.DMX_STATUS_STATE n u = 1 := by
  rw [windowOpened, State.fld_setFld_bits _ _ _ _ _ _ _ _ _ _ _ _ (by decide) (by decide), fld_binState_setFld (by decide)]

theorem fld_wsel_windowOpened (s : State) (n : Fin 16) (u : Fin 32) {set : Nat} (h : set < 4) :
    (windowOpened s n u set).fld F.DMX_STATUS_WSEL n u = set :=
  (State.fld_setFld_same _ _ _ _ _ _ _ (by decide)).trans (Nat.mod_eq_of_lt h)

/-! ### CANCEL (R292) and the end of a window (R289, R290) -/

/-- The open window goes; the bin is idle, and the writes it held are released if no window is left. -/
theorem binDropWindow_drops (s : State) (n : Fin 16) (u : Fin 32) :
    (bin (binDropWindow s n u) n u).windows = (bin s n u).windows.filter (fun w => decide (w.ends ≤ s.now)) ∧
      (binDropWindow s n u).fld F.DMX_STATUS_STATE n u = 0 ∧
      seqFrame [F.DMX_STATUS_STATE.part [n, u], { reg := .DMX_WRAM, idx := [n, u] }] n s (binDropWindow s n u) := by
  have hframe : seqFrame [F.DMX_STATUS_STATE.part [n, u], { reg := .DMX_WRAM, idx := [n.val, u.val] }] n s
      ((modBin s n u fun b => { b with windows := b.windows.filter fun w => decide (w.ends ≤ s.now) }).setFld F.DMX_STATUS_STATE 0 n u) :=
    ((seqFrame.refl _ n s).modBin u _).setFld _ _ (.of_mem_index2 (.head _))
  unfold binDropWindow
  dsimp only
  split
  · refine ⟨?_, ?_, hframe.wramRelease (.tail _ (.head _))⟩
    · rw [bin_wramRelease, bin_setFld, bin_modBin]
    · rw [fld_wramRelease _ _ _ (by decide), fld_binState_setFld (by decide)]
  · exact ⟨by rw [bin_setFld, bin_modBin], fld_binState_setFld (by decide) _ n u, hframe⟩

theorem binCancel_of_open {w : BinWindow} (hst : s.fld F.DMX_STATUS_STATE n u ≠ 2) (hopen : binOpen s n u = some w) :
    binCancel s n u = (binDropWindow s n u).count .DMX_CANCELS n u := by
  rw [binCancel, if_neg hst, hopen]

/-- The result that a window gives at its end beat (R289). -/
def windowResult (s : State) (n : Fin 16) (u : Fin 32) (w : BinWindow) (samples : List (BitVec 12)) : BinResult :=
  let xs := windowSamples w samples
  let i := roundShift (binSums s n u w 0 xs).1 w.shift
  let q := roundShift (binSums s n u w 0 xs).2 w.shift
  { ends := w.ends, endBeat := w.endBeat, i := satInt 32 i, q := satInt 32 q, ovr := xs.any overrange, sat := satInt 32 i ≠ i ∨ satInt 32 q ≠ q,
    invalid := w.invalid, wsel := w.wsel, muted := w.muted ||| guardTx s n, lines := discLines s n u, codes := none }

theorem binWindowEnd_of_last {w : BinWindow} (hw : (bin s n u).windows = [w]) (hdue : w.ends ≤ s.now) (samples : List (BitVec 12)) :
    binWindowEnd s n u samples = wramRelease ((modBin s n u fun b =>
      { b with windows := [], results := b.results ++ [windowResult s n u w samples] }).setFld F.DMX_STATUS_STATE 0 n u) n u := by
  rw [binWindowEnd, hw]
  exact if_neg (Nat.not_lt.2 hdue)

/-! ### Verdict codes (R298) -/

theorem discriminate_of_due {r : BinResult} (hr : (bin s n u).results = [r]) (hcodes : r.codes = none) (hdue : r.ends + 11 ≤ s.now) :
    discriminate s n u = modBin s n u fun b => { b with results := listMod b.results 0 fun r => { r with codes := some (resultCodes s n r) } } := by
  have hfind : (bin s n u).results.findIdx? (fun r => decide (r.codes.isNone ∧ r.ends + 11 ≤ s.now)) = some 0 := by
    simp [hr, hcodes, hdue]
  simp only [discriminate, hfind]

end

/-! ### The delivery of a result (R294, R298, R301) -/

section
variable {s t : State} {n : Fin 16} {u : Fin 32} {l : List Part}

theorem seqFrame.acqEntry (h : seqFrame l n s t) (kind u value : Nat) : seqFrame l n s (acqEntry t n kind u value) :=
  h.foldl _ (fun _ st ht => (ht.modAcq st _).ite ht) (List.finRange 4)

theorem bin_acqEntry (s : State) (n : Fin 16) (u : Fin 32) (kind k value : Nat) : bin (acqEntry s n kind k value) n u = bin s n u :=
  List.foldlRecOn (motive := fun t => bin t n u = bin s n u) (List.finRange 4) _ rfl fun t ht st _ => by
    dsimp only
    split
    · exact (bin_modAcq ..).trans ht
    · exact ht

/-- The verdict of a discriminator reaches the crossbar alone: only a verdict of a vector window can set WIN_MERGE. -/
theorem readyVerdict_eq {v : Nat} (hv : v < 512) (s : State) (n : Fin 16) (value at_ : Nat) (muted : Bool) :
    ∃ x, readyVerdict s n v value at_ muted = { s with xbar := x } := by
  unfold readyVerdict
  split
  · exact ⟨_, by rw [if_neg (Nat.not_le.2 hv)]⟩
  · exact ⟨_, rfl⟩

/-- The code of discriminator `d` as DMX_RES_INFO shows it. -/
def showCode (s : State) (n : Fin 16) (d code : Nat) : State :=
  (s.setFld F.DMX_RES_INFO_VCODE code n d).setFlag F.DMX_RES_INFO_VVALID true n d

theorem verdictOut_eq (r : BinResult) {d : Nat} (hd : d < 32) (s : State) (n : Fin 16) (code : Nat) :
    ∃ x, verdictOut s n r d code = acqEntry { showCode s n d code with xbar := x } n 2 d (code + d * 4 + r.endBeat % 2 ^ 24 * 2 ^ 8) := by
  obtain ⟨x, hx⟩ := readyVerdict_eq (v := 32 * n.val + d) (by omega) (showCode s n d code) n code (showCode s n d code).now
    (verdictMuted (showCode s n d code) (32 * n.val + d) r.muted)
  refine ⟨x, ?_⟩
  rw [← hx]
  rfl

/-- What the registers show of a result, and the count of it (R294). -/
def showResult (s : State) (n : Fin 16) (u : Fin 32) (r : BinResult) : State :=
  let s := (s.wr .DMX_RES_I (BitVec.ofInt 32 r.i) n u).wr .DMX_RES_Q (BitVec.ofInt 32 r.q) n u
  let s := s.setPair .DMX_RES_END_LO .DMX_RES_END_HI r.endBeat n u
  let s := ((s.setFlag F.DMX_RES_INFO_OVR r.ovr n u).setFlag F.DMX_RES_INFO_SAT r.sat n u).setFlag F.DMX_RES_INFO_INVALID r.invalid n u
  (s.setFld F.DMX_RES_INFO_WSEL r.wsel n u).count .DMX_WINDOWS n u

/-- The sticky flags of a result. -/
def noteResult (s : State) (n : Fin 16) (u : Fin 32) (r : BinResult) : State :=
  let s := if r.ovr then s.setFlag F.DMX_STATUS_OVR true n u else s
  let s := if r.sat then s.setFlag F.DMX_STATUS_SAT true n u else s
  if r.invalid then s.setFlag F.DMX_STATUS_INVALID true n u else s

/-- What follows the registers of a result: its flags, its IQ entry and its verdicts. -/
def sendResult (s : State) (n : Fin 16) (u : Fin 32) (r : BinResult) (codes : List (Nat × Nat)) : State :=
  codes.foldl (fun s x => verdictOut s n r x.1 x.2) (acqEntry (noteResult s n u r) n 1 u (iqEntry u r))

theorem binResult_of_due {r : BinResult} {rest : List BinResult} {codes : List (Nat × Nat)} (hr : (bin s n u).results = r :: rest)
    (hdue : r.ends + 12 ≤ s.now) (hcodes : r.codes = some codes) :
    binResult s n u = sendResult (showResult (modBin s n u fun b => { b with results := rest }) n u r) n u r codes := by
  rw [binResult, hr]
  simp only [if_neg (Nat.not_lt.2 hdue), hcodes, Option.isNone_some, Bool.false_eq_true, if_false, hr]
  rfl

/-! #### What the sending leaves -/

theorem bin_ite_setFlag (s : State) (n : Fin 16) (u : Fin 32) (p : Prop) [Decidable p] (f : Field) (b : Bool) (i j : Nat) :
    bin (if p then s.setFlag f b i j else s) n u = bin s n u := by
  split <;> rfl

theorem bin_noteResult (s : State) (n : Fin 16) (u : Fin 32) (r : BinResult) : bin (noteResult s n u r) n u = bin s n u := by
  rw [noteResult, bin_ite_setFlag, bin_ite_setFlag, bin_ite_setFlag]

theorem bin_verdictOut (s : State) (n : Fin 16) (u : Fin 32) (r : BinResult) {d : Nat} (hd : d < 32) (code : Nat) :
    bin (verdictOut s n r d code) n u = bin s n u := by
  obtain ⟨x, hx⟩ := verdictOut_eq r hd s n code
  rw [hx, bin_acqEntry]
  rfl

theorem bin_sendResult (s : State) (n : Fin 16) (u : Fin 32) (r : BinResult) {codes : List (Nat × Nat)} (hcodes : ∀ x ∈ codes, x.1 < 32) :
    bin (sendResult s n u r codes) n u = bin s n u :=
  List.foldlRecOn (motive := fun t => bin t n u = bin s n u) codes _ ((bin_acqEntry ..).trans (bin_noteResult ..)) fun _ ht x hx =>
    (bin_verdictOut _ n u r (hcodes x hx) x.2).trans ht

theorem seqFrame.noteResult (h : seqFrame l n s t) (r : BinResult) (hl : { reg := .DMX_STATUS, idx := [n.val, u.val] } ∈ l) :
    seqFrame l n s (noteResult t n u r) := by
  have hset : ∀ {t : State} (f : Field) (b : Bool), f.reg = .DMX_STATUS → f.lo + f.width ≤ 32 → seqFrame l n s t →
      seqFrame l n s (if b then t.setFlag f true n u else t) := fun f b hf hw ht =>
    (ht.setFlag f true (.of_mem_whole (hf ▸ hl) hw)).ite ht
  exact hset _ r.invalid rfl (by decide) (hset _ r.sat rfl (by decide) (hset _ r.ovr rfl (by decide) h))

section
variable (hcode : ∀ d, holdsFld l F.DMX_RES_INFO_VCODE n d 0 0) (hvalid : ∀ d, holdsFld l F.DMX_RES_INFO_VVALID n d 0 0)
include hcode hvalid

/-- A verdict changes VCODE and VVALID of its discriminator. -/
theorem seqFrame.verdictOut (h : seqFrame l n s t) (r : BinResult) {d : Nat} (hd : d < 32) (code : Nat) :
    seqFrame l n s (verdictOut t n r d code) := by
  obtain ⟨x, hx⟩ := verdictOut_eq r hd t n code
  have hshow : seqFrame l n s (showCode t n d code) := (h.setFld _ _ (hcode d)).setFlag _ _ (hvalid d)
  have hxbar : seqFrame l n s { showCode t n d code with xbar := x } := hshow.of_eq rfl rfl rfl
  rw [hx]
  exact hxbar.acqEntry 2 d _

theorem seqFrame.sendResult (h : seqFrame l n s t) (hstatus : { reg := .DMX_STATUS, idx := [n.val, u.val] } ∈ l) (r : BinResult)
    {codes : List (Nat × Nat)} (hcodes : ∀ x ∈ codes, x.1 < 32) : seqFrame l n s (sendResult t n u r codes) :=
  List.foldlRecOn codes _ ((h.noteResult r hstatus).acqEntry 1 u _) fun _ ht x hx => ht.verdictOut hcode hvalid r (hcodes x hx) x.2

end

/-- The parts that the sending of a result of bin `u` may change. -/
abbrev sendParts (n : Fin 16) (u : Fin 32) : List Part :=
  [{ reg := .DMX_STATUS, idx := [n, u] }, F.DMX_RES_INFO_VCODE.part [n], F.DMX_RES_INFO_VVALID.part [n]]

theorem seqFrame_sendResult (s : State) (n : Fin 16) (u : Fin 32) (r : BinResult) {codes : List (Nat × Nat)} (hcodes : ∀ x ∈ codes, x.1 < 32) :
    seqFrame (sendParts n u) n s (sendResult s n u r codes) :=
  (seqFrame.refl _ n s).sendResult (fun _ => .of_mem_index_below (.tail _ (.head _))) (fun _ => .of_mem_index_below (.tail _ (.tail _ (.head _))))
    (.head _) r hcodes

/-- Above the verdict code DMX_RES_INFO stays. -/
theorem fld_info_sendResult (s : State) (n : Fin 16) (u : Fin 32) (r : BinResult) {codes : List (Nat × Nat)} (hcodes : ∀ x ∈ codes, x.1 < 32)
    {f : Field} (hr : f.reg = .DMX_RES_INFO) (hlo : 3 ≤ f.lo) :
    (sendResult s n u r codes).fld f n u = s.fld f n u := by
  refine (seqFrame_sendResult s n u r hcodes).1.fld_eq f n u 0 0 fun b hb _ => ?_
  have hcode : ¬b < 2 := by omega
  have hvalid : ¬b < 3 := by omega
  simp [Part.covers, Field.part, F.DMX_RES_INFO_VCODE, F.DMX_RES_INFO_VVALID, hr, hcode, hvalid]

theorem rd_sendResult (s : State) (n : Fin 16) (u : Fin 32) (r : BinResult) {codes : List (Nat × Nat)} (hcodes : ∀ x ∈ codes, x.1 < 32)
    {g : Reg} (hg : g ≠ .DMX_STATUS ∧ g ≠ .DMX_RES_INFO) (i j : Nat) :
    (sendResult s n u r codes).rd g i j = s.rd g i j :=
  (seqFrame_sendResult s n u r hcodes).1.rd_eq
    (by simpa [Field.part, F.DMX_RES_INFO_VCODE, F.DMX_RES_INFO_VVALID] using ⟨hg.1.symm, hg.2.symm⟩) i j 0 0

/-! #### What the registers show -/

theorem showResult_shows (s : State) (n : Fin 16) (u : Fin 32) (r : BinResult) :
    (showResult s n u r).rd .DMX_RES_I n u = BitVec.ofInt 32 r.i ∧ (showResult s n u r).rd .DMX_RES_Q n u = BitVec.ofInt 32 r.q ∧
      (showResult s n u r).rd .DMX_WINDOWS n u = satCount (s.rd .DMX_WINDOWS n u) 1 := by
  simp (disch := decide) [showResult, State.rd_count_reg, State.rd_setFld_reg, State.setFlag, State.setPair, State.rd_wr_reg]

theorem bin_showResult (s : State) (n : Fin 16) (u : Fin 32) (r : BinResult) : bin (showResult s n u r) n u = bin s n u :=
  bin_of_slices (by simp [showResult]) n u

theorem pair_end_showResult (s : State) (n : Fin 16) (u : Fin 32) {r : BinResult} (hend : r.endBeat < 2 ^ 64) :
    (showResult s n u r).pair .DMX_RES_END_LO .DMX_RES_END_HI n u = r.endBeat := by
  refine .trans (State.pair_congr ?_ ?_) (State.pair_setPair_same
    ((s.wr .DMX_RES_I (BitVec.ofInt 32 r.i) n u).wr .DMX_RES_Q (BitVec.ofInt 32 r.q) n u) (by decide) hend n u 0) <;>
  simp (disch := decide) [showResult, State.rd_count_reg, State.rd_setFld_reg, State.setFlag]

theorem info_showResult (s : State) (n : Fin 16) (u : Fin 32) {r : BinResult} (hsel : r.wsel < 4) :
    (showResult s n u r).flag F.DMX_RES_INFO_OVR n u = r.ovr ∧ (showResult s n u r).flag F.DMX_RES_INFO_INVALID n u = r.invalid ∧
      (showResult s n u r).fld F.DMX_RES_INFO_WSEL n u = r.wsel := by
  simp (disch := decide) only [showResult, State.flag_count_reg, State.fld_count_reg, State.flag_setFld_bits, State.flag_setFlag_bits,
    State.flag_setFlag_same, State.fld_setFld_same, true_and]
  exact Nat.mod_eq_of_lt hsel

/-- The parts that the delivery of a result of bin `u` may change. -/
abbrev resultParts (n : Fin 16) (u : Fin 32) : List Part :=
  [{ reg := .DMX_RES_I, idx := [n, u] }, { reg := .DMX_RES_Q, idx := [n, u] }, { reg := .DMX_RES_END_LO, idx := [n, u] },
   { reg := .DMX_RES_END_HI, idx := [n, u] }, { reg := .DMX_RES_INFO, idx := [n] }, { reg := .DMX_WINDOWS, idx := [n, u] },
   { reg := .DMX_STATUS, idx := [n, u] }]

theorem holdsFld_resultParts (n : Fin 16) (u : Fin 32) {f : Field} (hf : f.reg = .DMX_RES_INFO) (hw : f.lo + f.width ≤ 32) (j : Nat) :
    holdsFld (resultParts n u) f n j 0 0 :=
  .of_mem_reg (by simp [hf]) hw

theorem seqFrame.showResult (h : seqFrame (resultParts n u) n s t) (r : BinResult) : seqFrame (resultParts n u) n s (showResult t n u r) := by
  have hreg : ∀ g ∈ [Reg.DMX_RES_I, .DMX_RES_Q, .DMX_RES_END_LO, .DMX_RES_END_HI, .DMX_WINDOWS, .DMX_STATUS],
      holdsReg (resultParts n u) g n u 0 0 :=
    fun g hg => .of_mem_index2 (by simpa using hg)
  have hfld := fun f hf hw => holdsFld_resultParts n u (f := f) hf hw u
  have hsums : seqFrame (resultParts n u) n s (((t.wr .DMX_RES_I (BitVec.ofInt 32 r.i) n u).wr .DMX_RES_Q (BitVec.ofInt 32 r.q) n u).setPair
      .DMX_RES_END_LO .DMX_RES_END_HI r.endBeat n u) :=
    ((h.wr _ _ (hreg _ (by simp))).wr _ _ (hreg _ (by simp))).setPair _ _ _ (hreg _ (by simp)) (hreg _ (by simp))
  have hflags := ((hsums.setFlag F.DMX_RES_INFO_OVR r.ovr (hfld _ rfl (by decide))).setFlag F.DMX_RES_INFO_SAT r.sat
    (hfld _ rfl (by decide))).setFlag F.DMX_RES_INFO_INVALID r.invalid (hfld _ rfl (by decide))
  exact (hflags.setFld F.DMX_RES_INFO_WSEL r.wsel (hfld _ rfl (by decide))).wr .DMX_WINDOWS _ (hreg _ (by simp))

/-- The delivery of a result changes its own registers and the verdict codes. -/
theorem seqFrame_sendResult_showResult (s : State) (n : Fin 16) (u : Fin 32) (rest : List BinResult) (r : BinResult) {codes : List (Nat × Nat)}
    (hcodes : ∀ x ∈ codes, x.1 < 32) :
    seqFrame (resultParts n u) n s (sendResult (showResult (modBin s n u fun b => { b with results := rest }) n u r) n u r codes) :=
  (((seqFrame.refl _ n s).modBin u _).showResult r).sendResult (holdsFld_resultParts n u rfl (by decide)) (holdsFld_resultParts n u rfl (by decide))
    (by simp) r hcodes

/-- What is sent after a result leaves its registers as `showResult` put them. -/
theorem sendResult_showResult (s : State) (n : Fin 16) (u : Fin 32) {r : BinResult} {codes : List (Nat × Nat)} (hend : r.endBeat < 2 ^ 64)
    (hsel : r.wsel < 4) (hcodes : ∀ x ∈ codes, x.1 < 32) :
    let t := sendResult (showResult s n u r) n u r codes
    t.rd .DMX_RES_I n u = BitVec.ofInt 32 r.i ∧ t.rd .DMX_RES_Q n u = BitVec.ofInt 32 r.q ∧
      t.pair .DMX_RES_END_LO .DMX_RES_END_HI n u = r.endBeat ∧ t.flag F.DMX_RES_INFO_OVR n u = r.ovr ∧
      t.flag F.DMX_RES_INFO_INVALID n u = r.invalid ∧ t.fld F.DMX_RES_INFO_WSEL n u = r.wsel ∧ bin t n u = bin s n u ∧
      t.rd .DMX_WINDOWS n u = satCount (s.rd .DMX_WINDOWS n u) 1 := by
  obtain ⟨hi, hq, hwindows⟩ := showResult_shows s n u r
  obtain ⟨hovr, hinvalid, hwsel⟩ := info_showResult s n u hsel
  have hbeat := pair_end_showResult s n u hend
  have hbin := bin_showResult s n u r
  generalize showResult s n u r = x at *
  have hrd : ∀ g, g ≠ .DMX_STATUS ∧ g ≠ .DMX_RES_INFO → (sendResult x n u r codes).rd g n u = x.rd g n u := fun g hg =>
    rd_sendResult x n u r hcodes hg n u
  have hinfo : ∀ f : Field, f.reg = .DMX_RES_INFO → 3 ≤ f.lo → (sendResult x n u r codes).fld f n u = x.fld f n u := fun f hf hlo =>
    fld_info_sendResult x n u r hcodes hf hlo
  refine ⟨(hrd _ (by decide)).trans hi, (hrd _ (by decide)).trans hq, ?_, ?_, ?_, (hinfo _ rfl (by decide)).trans hwsel, ?_,
    (hrd _ (by decide)).trans hwindows⟩
  · exact (State.pair_congr (hrd _ (by decide)) (hrd _ (by decide))).trans hbeat
  · exact (congrArg (· == 1) (hinfo F.DMX_RES_INFO_OVR rfl (by decide))).trans hovr
  · exact (congrArg (· == 1) (hinfo F.DMX_RES_INFO_INVALID rfl (by decide))).trans hinvalid
  · rw [bin_sendResult x n u r hcodes, hbin]

end

/-! ## A write of DMX_WRAM (R293) -/

section
variable (n : Fin 16) (u : Fin 32) (i : Fin 2048)

/-- The key of weight word `i` of bin `u`. -/
abbrev wramKey : RegKey := ⟨.DMX_WRAM, n, u, i, 0⟩

theorem address_wramKey : (wramKey n u i).address = 0x100C0000 + (0x100000 * n + (0x2000 * u + 4 * i)) := by
  have hterms : (wramKey n u i).address = 0x100C0000 + 0x100000 * n + 0x2000 * u + 4 * i := rfl
  omega

theorem inSliceRegs_wramKey : inSliceRegs (wramKey n u i).address = true := by
  rw [address_wramKey, inSliceRegs, Bool.and_eq_true, decide_eq_true_eq, decide_eq_true_eq]
  omega

theorem sliceOfAddr_wramKey : sliceOfAddr (wramKey n u i).address = n := by
  rw [address_wramKey, sliceOfAddr, Fin.ext_iff]
  dsimp only
  omega

theorem instanceAt_wramKey : Reg.DMX_WRAM.instanceAt (wramKey n u i).address = some (wramKey n u i) := by
  have hbase : Reg.DMX_WRAM.base = 0x100C0000 := rfl
  have hdims : Reg.DMX_WRAM.dims = [(0x100000, 16), (0x2000, 32), (4, 2048)] := rfl
  have hoff : (wramKey n u i).address - Reg.DMX_WRAM.base = 0x100000 * n + (0x2000 * u + (4 * i + 0)) := by rw [address_wramKey, hbase]; omega
  rw [Reg.instanceAt, if_neg (by rw [address_wramKey, hbase]; omega), hoff, hdims, indicesAt_cons n.isLt (by omega),
    indicesAt_cons u.isLt (by omega), indicesAt_cons i.isLt (by omega)]
  rfl

/-- A register of a bin that stands before the weights, in a frame of 0x80 bytes per bin. -/
def Reg.inBinFrame (r : Reg) : Bool :=
  r.dims.take 2 == [(0x100000, 16), (0x80, 32)] && decide (0x10080000 ≤ r.base) && decide (r.base < 0x10080080)

/-- The frames of the bins end before the weights. -/
theorem instanceAt_wramKey_none {r : Reg} (h : r.inBinFrame = true) : r.instanceAt (wramKey n u i).address = none := by
  simp only [Reg.inBinFrame, Bool.and_eq_true, beq_iff_eq, decide_eq_true_eq] at h
  obtain ⟨⟨htake, hlo⟩, hhi⟩ := h
  have hdims : r.dims = (0x100000, 16) :: (0x80, 32) :: r.dims.drop 2 := by
    rw [← List.take_append_drop 2 r.dims, htake]
    simp
  have hoff : (wramKey n u i).address - r.base = 0x100000 * n + (0x2000 * u + (4 * i + (0x100C0000 - r.base))) := by rw [address_wramKey]; omega
  rw [Reg.instanceAt, if_neg (by rw [address_wramKey]; omega), hoff, hdims, indicesAt_cons n.isLt (by omega), indicesAt, if_neg (by omega)]
  rfl

theorem regAt_wramKey : regAt (wramKey n u i).address = some (wramKey n u i) := by
  have hglobal : inGlobalRegs (wramKey n u i).address = false := by
    rw [address_wramKey, inGlobalRegs, decide_eq_false_iff_not]
    omega
  have hpage : sliceBlock ((wramKey n u i).address % 0x100000 / 0x1000) = Reg.blockDMX := by
    have : 192 ≤ (wramKey n u i).address % 0x100000 / 0x1000 := by rw [address_wramKey]; omega
    simp (disch := omega) only [sliceBlock, if_neg, if_pos]
  have hblock : Reg.blockDMX = Reg.blockDMX.dropLast ++ [.DMX_WRAM] := rfl
  have hframes : ∀ r ∈ Reg.blockDMX.dropLast, r.inBinFrame = true := by decide
  have hnone : Reg.blockDMX.dropLast.findSome? (fun r => r.instanceAt (wramKey n u i).address) = none :=
    List.findSome?_eq_none_iff.2 fun r hr => instanceAt_wramKey_none n u i (hframes r hr)
  rw [regAt]
  simp only [hglobal, Bool.false_eq_true, if_false, inSliceRegs_wramKey, if_true, hpage]
  rw [hblock, List.findSome?_append, hnone]
  simp [instanceAt_wramKey]

end

section
variable {s : State} {n : Fin 16} {u : Fin 32} {i : Fin 2048}

/-- Where nothing is locked and no bound holds a field of the register, a write is held nowhere (R69). -/
theorem heldBits_of_free {key : RegKey} (hlocks : s.img.locks = []) (hbound : ∀ f x, s.beyondBound key f x = false) (v : Nat) :
    s.heldBits key v = (0, false) := by
  have hlocked : s.lockedBits key = 0 := by simp [State.lockedBits, hlocks]
  simp [State.heldBits, hlocked, hbound]

/-- A write of a weight is the bin's own operation; the register file takes nothing. -/
theorem wordWrite_wramKey (hlocks : s.img.locks = []) (path : Path) (port : Option (Fin 2)) (v : Word) :
    (wordWrite s path port (wramKey n u i) v).1 = wramWrite s n u i v := by
  have hignored : s.writeIgnored path (wramKey n u i) v.toNat = none := rfl
  have hclear : ∀ t, regCommands (clearWrite t (wramKey n u i) v.toNat) path (wramKey n u i) v.toNat = t := fun _ => rfl
  have hwritable : Reg.DMX_WRAM.writable = 0xFFFFFFFF := rfl
  have hfixed : (wramKey n u i).fixedMask = 0 := rfl
  have hown : Reg.DMX_WRAM.ownMask = 0xFFFFFFFF := rfl
  have hclamp : levelClamp s (wramKey n u i) v.toNat = s := rfl
  have hflags : Reg.DMX_WRAM.accessMask [.w1c] = 0 := rfl
  have hhook : ∀ t, regHook t (wramKey n u i) = t := fun _ => rfl
  have hregOwn : regOwn s port (wramKey n u i) (s.storedWord (wramKey n u i) v.toNat) = wramWrite s n u i v := by
    have hact : regOwn s port (wramKey n u i) (s.storedWord (wramKey n u i) v.toNat) =
        wramWrite s (toFin 16 n.val) (toFin 32 u.val) i (BitVec.ofNat 32 v.toNat) := rfl
    rw [hact, BitVec.ofNat_toNat, BitVec.setWidth_eq, toFin, Fin.ofNat_val_eq_self, toFin, Fin.ofNat_val_eq_self]
  have hheld := heldBits_of_free (key := wramKey n u i) hlocks (fun _ _ => rfl) v.toNat
  rw [wordWrite, hignored]
  simp [hheld, hwritable, hfixed, hown, hclamp, clearFlags, hflags, hhook, hclear, mix, hregOwn]

/-- Outside a replay and a live reload of the slice, a write of a register that stages nothing acts on the state with its journal record. -/
theorem regWrite_of_regAt {addr : Nat} {key : RegKey} (hat : regAt addr = some key) (hrpl : s.rplState ≠ 2)
    (hhold : reloadHolds s (sliceOfAddr addr) = false) {path : Path} {port : Option (Fin 2)} {v : Word}
    (happly : ∀ t, regApply t path port key v = wordWrite t path port key v) :
    regWrite s path port addr v = wordWrite (journalReg s path addr v) path port key v := by
  simp [regWrite, hat, hrpl, hhold, happly]

/-- The access of a weight is the bin's own operation on a state that differs in the journal. -/
theorem exists_wramWrite_of_regWrite (hrpl : s.rplState ≠ 2) (hhold : reloadHolds s n = false) (hlocks : s.img.locks = []) (path : Path)
    (port : Option (Fin 2)) (v : Word) :
    ∃ t, (regWrite s path port (wramKey n u i).address v).1 = wramWrite t n u i v ∧ bin t n u = bin s n u ∧ seqFrame [] n s t := by
  obtain ⟨x, hx⟩ := journalReg_eq s path (wramKey n u i).address v
  refine ⟨{ s with rpl := x }, ?_, rfl, (seqFrame.refl _ n s).of_eq rfl rfl rfl⟩
  rw [regWrite_of_regAt (regAt_wramKey n u i) hrpl (by rwa [sliceOfAddr_wramKey]) fun _ => rfl, hx]
  exact wordWrite_wramKey (s := { s with rpl := x }) hlocks path port v

end

/-! ## A read of DMX_RES_I (R294) -/

/-- A kept word is found. -/
theorem keptWord_keepWord_same (m : SMap RegKey Word) (key : RegKey) (v : Word) : keptWord (keepWord m key v) key = some v := by
  unfold keepWord keptWord
  induction m with
  | nil => simp [SMap.insert]
  | cons e m ih =>
    obtain ⟨a, w⟩ := e
    by_cases ha : a = key
    · simp [SMap.insert, ha]
    · by_cases hlt : RegKey.lt key a = true <;> simp [SMap.insert, ha, hlt, ih]

theorem keptWord_keepWord_ne (m : SMap RegKey Word) {key k : RegKey} (h : k ≠ key) (v : Word) : keptWord (keepWord m key v) k = keptWord m k := by
  unfold keepWord keptWord
  induction m with
  | nil => simp [SMap.insert, h.symm]
  | cons e m ih =>
    obtain ⟨a, w⟩ := e
    by_cases ha : a = key
    · subst ha; simp [SMap.insert, h.symm]
    · by_cases hlt : RegKey.lt key a = true
      · simp [SMap.insert, ha, hlt, h.symm]
      · by_cases hk : a = k
        · subst hk; simp [SMap.insert, ha, hlt]
        · simp [SMap.insert, ha, hlt, hk, ih]

/-- A register that its unit does not show otherwise, and that has no write-only bit, reads what it holds. -/
theorem regView_of_stored {s : State} {key : RegKey} (hshown : shownFields s key = []) (hmask : key.reg.accessMask [.w1s, .wo] = 0) :
    regView s key = s.rd key.reg key.i key.j key.k key.l := by
  simp [regView, hshown, hmask]

/-- The captured registers of a result (R294). -/
def captureResult (s : State) (n : Fin 16) (u : Fin 32) : SMap RegKey Word :=
  [Reg.DMX_RES_Q, .DMX_RES_END_LO, .DMX_RES_END_HI, .DMX_RES_INFO].foldl (fun m r => keepWord m ⟨r, n, u, 0, 0⟩ (s.rd r n u)) s.shadow

theorem keyRead_res_i (s : State) (n : Fin 16) (u : Fin 32) :
    keyRead s ⟨.DMX_RES_I, n, u, 0, 0⟩ = { s with readValue := s.rd .DMX_RES_I n u, shadow := captureResult s n u } := by
  have hview : ∀ r ∈ [Reg.DMX_RES_I, .DMX_RES_Q, .DMX_RES_END_LO, .DMX_RES_END_HI, .DMX_RES_INFO], ∀ t : State,
      regView t ⟨r, n, u, 0, 0⟩ = t.rd r n u := by
    intro r hr t
    simp only [List.mem_cons, List.not_mem_nil, or_false] at hr
    refine regView_of_stored ?_ ?_ <;> rcases hr with rfl | rfl | rfl | rfl | rfl <;> rfl
  have hread : keyRead s ⟨.DMX_RES_I, n, u, 0, 0⟩ = dmxResultRead s ⟨.DMX_RES_I, n, u, 0, 0⟩ := rfl
  have hplain : plainRead s ⟨.DMX_RES_I, n, u, 0, 0⟩ = { s with readValue := s.rd .DMX_RES_I n u } := by
    rw [← hview .DMX_RES_I (.head _)]
    rfl
  rw [hread, dmxResultRead, hplain]
  simp only [List.foldl_cons, List.foldl_nil, RegKey.other, captureResult]
  simp only [hview _ (.tail _ (.head _)), hview _ (.tail _ (.tail _ (.head _))), hview _ (.tail _ (.tail _ (.tail _ (.head _)))),
    hview _ (.tail _ (.tail _ (.tail _ (.tail _ (.head _)))))]
  rfl

/-- The shadow holds the other registers of the result. -/
theorem keptWord_captureResult (s : State) (n : Fin 16) (u : Fin 32) :
    keptWord (captureResult s n u) ⟨.DMX_RES_Q, n, u, 0, 0⟩ = some (s.rd .DMX_RES_Q n u) ∧
      keptWord (captureResult s n u) ⟨.DMX_RES_INFO, n, u, 0, 0⟩ = some (s.rd .DMX_RES_INFO n u) := by
  simp [captureResult, keptWord_keepWord_same, keptWord_keepWord_ne]

/-- Settles O27: a trigger, a cancel and the end of a window each by the state they leave (`binTrigger_of_sound`, `binDropWindow_drops`,
`binWindowEnd_of_last`); a weight by `exists_wramWrite_of_regWrite`; a delivered result by what `showResult` puts in the registers, which `sendResult`
keeps; its read by `keyRead_res_i`. -/
theorem bins : Obligations.Bins := by
  unfold Obligations.Bins
  refine ⟨fun s n u set hon hst hopen hset hacq => ⟨_, congrArg Host.Outcome.next (coreEvent_of_on hon _), ?_⟩,
    fun s n u w hon hst hopen => ⟨_, congrArg Host.Outcome.next (coreEvent_of_on hon _), ?_⟩,
    fun s n u samples w hw hdue => ⟨_, rfl, ?_⟩,
    fun s n u path i v hreset hrpl hhold hlocks _ hidle => ⟨_, congrArg Host.Outcome.next (awake_of_not_reset hreset _), ?_⟩,
    fun s n u path i v hreset hrpl hhold hlocks _ hbusy => ⟨_, congrArg Host.Outcome.next (awake_of_not_reset hreset _), ?_⟩,
    fun s n u r hr hcodes hdue => ⟨_, rfl, ?_⟩, fun s n u r rest l hr hdue hcodes hend hsel hl => ⟨_, rfl, ?_⟩,
    fun s n u hreset => ⟨_, congrArg Host.Outcome.next (awake_of_not_reset hreset _), ?_⟩⟩
  · rw [binTrigger_of_sound hst hopen hset hacq]
    exact ⟨windows_windowOpened s n u set, fld_state_windowOpened s n u set, fld_wsel_windowOpened s n u set.isLt,
      (((seqFrame.refl _ n s).modBin u _).setFld _ _ (.of_mem_index2 (.head _))).setFld _ _ (.of_mem_index2 (.tail _ (.head _)))⟩
  · obtain ⟨hwindows, hstate, hframe⟩ := binDropWindow_drops s n u
    rw [binCancel_of_open hst hopen]
    refine ⟨hwindows, ?_, ?_, ?_⟩
    · rw [State.fld_count_reg _ _ _ _ _ _ _ _ _ _ _ (by decide), hstate]
    · rw [State.rd_count_same, hframe.1.rd_eq (by simp [Field.part, F.DMX_STATUS_STATE])]
    · exact (hframe.mono (by simp)).wr .DMX_CANCELS _ (.of_mem_index2 (.tail _ (.head _)))
  · rw [binWindowEnd_of_last hw hdue]
    refine ⟨?_, ?_, ⟨windowResult s n u w samples, ?_, rfl, rfl, rfl, rfl, rfl, rfl, rfl⟩,
      (((seqFrame.refl _ n s).modBin u _).setFld _ _ (.of_mem_index2 (.head _))).wramRelease (.tail _ (.head _))⟩
    · rw [bin_wramRelease, bin_setFld, bin_modBin]
    · rw [fld_wramRelease _ _ _ (by decide), fld_binState_setFld (by decide)]
    · rw [bin_wramRelease, bin_setFld, bin_modBin]
  · obtain ⟨t, ht, hbin, hframe⟩ := exists_wramWrite_of_regWrite (u := u) (i := i) hrpl hhold hlocks path none v
    rw [ht, wramWrite_of_idle (by rw [hbin, hidle])]
    exact ⟨State.rd_wr_same .., (hframe.mono (by simp)).wr _ _ (.of_mem_index3 (.head _))⟩
  · obtain ⟨t, ht, hbin, hframe⟩ := exists_wramWrite_of_regWrite (u := u) (i := i) hrpl hhold hlocks path none v
    rw [ht, wramWrite_of_window (by rwa [hbin])]
    exact ⟨by rw [bin_modBin, hbin], hframe.modBin u _⟩
  · rw [discriminate_of_due hr hcodes hdue]
    exact ⟨by simp [hr, listMod], (seqFrame.refl _ n s).modBin u _⟩
  · rw [binResult_of_due hr hdue hcodes]
    obtain ⟨hi, hq, hbeat, hovr, hinvalid, hwsel, hbin, hwindows⟩ :=
      sendResult_showResult (modBin s n u fun b => { b with results := rest }) n u hend hsel hl
    exact ⟨hi, hq, hbeat, hovr, hinvalid, hwsel, by rw [hbin, bin_modBin], hwindows, seqFrame_sendResult_showResult s n u rest r hl⟩
  · obtain ⟨hq, hinfo⟩ := keptWord_captureResult s n u
    rw [keyRead_res_i]
    exact ⟨rfl, hq, hinfo, (seqFrame.refl _ n s).of_eq rfl rfl rfl⟩

end Sys2Proof.Machine

namespace Sys2Proof.Machine

/-! ## What an operation of the central section leaves as it was

`memFrame l s t`: from `s` to `t` no register changed outside `l`, and no byte of a store. -/

/-- The registers outside `l` and memory stay. -/
def memFrame (l : List Part) (s t : State) : Prop := sameRegs l s t ∧ sameBytes s t

section
variable {s t u : State} {l : List Part}

theorem memFrame.refl (l : List Part) (s : State) : memFrame l s s := ⟨.refl l s, .refl s⟩

theorem memFrame.trans (h : memFrame l s t) (h' : memFrame l t u) : memFrame l s u := ⟨h.1.trans h'.1, h.2.trans h'.2⟩

/-- A change outside registers, slices and stores. -/
theorem memFrame.of_eq (h : memFrame l s t) (hr : u.regs = t.regs) (hs : u.slices = t.slices) (hc : u.cstore = t.cstore) : memFrame l s u :=
  ⟨h.1.of_regs hr, h.2.of_stores hs hc⟩

theorem memFrame.setFld (h : memFrame l s t) (f : Field) (v : Nat) {i j k m : Nat} (hl : holdsFld l f i j k m) :
    memFrame l s (t.setFld f v i j k m) := ⟨h.1.setFld f v i j k m hl, h.2.setFld f v i j k m⟩

theorem memFrame.setFlag (h : memFrame l s t) (f : Field) (b : Bool) {i j k m : Nat} (hl : holdsFld l f i j k m) :
    memFrame l s (t.setFlag f b i j k m) := h.setFld f _ hl

theorem memFrame.count (h : memFrame l s t) (r : Reg) {i j k m : Nat} (hl : holdsReg l r i j k m) : memFrame l s (t.count r i j k m) :=
  ⟨h.1.count r i j k m hl, h.2.count r i j k m⟩

theorem memFrame.peak (h : memFrame l s t) (f : Field) (v : Nat) {i j : Nat} (hl : holdsFld l f i j 0 0) : memFrame l s (t.peak f v i j) :=
  ⟨h.1.peak f v i j hl, h.2.peak f v i j⟩

theorem memFrame.raise (h : memFrame l s t) (src scope index : Nat) : memFrame l s (t.raise src scope index) :=
  ⟨h.1.raise src scope index, h.2.raise src scope index⟩

theorem memFrame.journal (h : memFrame l s t) (type src index data : Nat) : memFrame l s (t.journal type src index data) :=
  ⟨h.1.journal type src index data, h.2.journal type src index data⟩

theorem memFrame.modXbar (h : memFrame l s t) (f : Crossbar → Crossbar) : memFrame l s (modXbar t f) := h.of_eq rfl rfl rfl

theorem memFrame.modSeq (h : memFrame l s t) (n : Fin 16) (f : Sequencer → Sequencer) : memFrame l s (modSeq t n f) :=
  ⟨h.1.modSl n _, h.2.modSl n _ fun _ => rfl⟩

/-- A field of a register that is listed whole. -/
theorem holdsFld.of_mem_global {f : Field} (h : { reg := f.reg, idx := [] } ∈ l) (hf : f.lo + f.width ≤ 32) (i j k m : Nat) : holdsFld l f i j k m :=
  ⟨{ reg := f.reg, idx := [] }, h, rfl, rfl, Nat.zero_le _, by simpa using hf⟩

end

/-! ## Reports to the collector and the journal -/

section
variable {s t : State} (h : t.regs = s.regs)
include h

theorem State.rd_of_regs (r : Reg) (i j k m : Nat) : t.rd r i j k m = s.rd r i j k m := by
  rw [State.rd, State.rd, h]

theorem State.fld_of_regs (f : Field) (i j k m : Nat) : t.fld f i j k m = s.fld f i j k m := by
  rw [State.fld, State.fld, State.rd_of_regs h]

theorem State.flag_of_regs (f : Field) (i j k m : Nat) : t.flag f i j k m = s.flag f i j k m := by
  rw [State.flag, State.flag, State.fld_of_regs h]

end

section
variable (s : State) (src scope index type data : Nat)

/-- A fault that a checker raises stands at the collector (R637). -/
theorem mem_raised_raise (h : index < 2 ^ 24) :
    { pair := { src := src, scope := scope, index := index }, injected := false, dry := false } ∈ (s.raise src scope index).flt.raised := by
  unfold State.raise
  rw [Nat.mod_eq_of_lt h]
  dsimp only
  split
  · assumption
  · exact List.mem_append_right _ (.head _)

/-- A report changes the collector only. -/
theorem raise_eq : ∃ x, s.raise src scope index = { s with flt := x } := by
  unfold State.raise
  dsimp only
  split
  · exact ⟨s.flt, rfl⟩
  · exact ⟨_, rfl⟩

@[simp] theorem State.raise_regs : (s.raise src scope index).regs = s.regs := by
  obtain ⟨x, hx⟩ := raise_eq s src scope index
  rw [hx]

@[simp] theorem State.raise_slices : (s.raise src scope index).slices = s.slices := by
  obtain ⟨x, hx⟩ := raise_eq s src scope index
  rw [hx]

@[simp] theorem State.raise_xbar : (s.raise src scope index).xbar = s.xbar := by
  obtain ⟨x, hx⟩ := raise_eq s src scope index
  rw [hx]

@[simp] theorem State.journal_xbar : (s.journal type src index data).xbar = s.xbar := by
  unfold State.journal; split <;> rfl

@[simp] theorem State.journal_flt : (s.journal type src index data).flt = s.flt := by
  unfold State.journal; split <;> rfl

end

/-! ## Express words (R325, R472)

The queue of a port, its peak, and the words that are dropped or have no route. -/

section
variable {s t : State} {l : List Part}

/-- The list takes in what an express word may change of the registers where its port is known. -/
structure HoldsExpress (l : List Part) : Prop where
  depth : ∀ p, holdsFld l F.VRD_EXPQ_MAX_DEPTH p 0 0 0
  drop : holdsReg l .VRD_EXP_DROP 0 0 0 0
  dropFlag : holdsFld l F.VRD_STATUS_EXP_DROP 0 0 0 0

/-- A change of a fabric port changes the fabric only. -/
theorem modPort_eq (s : State) (p : Nat) (f : KtlPort → KtlPort) : ∃ x, s.modPort p f = { s with ktl := x } := by
  unfold State.modPort
  split
  · exact ⟨_, rfl⟩
  · exact ⟨s.ktl, rfl⟩

theorem memFrame.modPort (h : memFrame l s t) (p : Nat) (f : KtlPort → KtlPort) : memFrame l s (t.modPort p f) := by
  obtain ⟨x, hx⟩ := modPort_eq t p f
  rw [hx]
  exact h.of_eq rfl rfl rfl

@[simp] theorem State.modPort_xbar (s : State) (p : Nat) (f : KtlPort → KtlPort) : (s.modPort p f).xbar = s.xbar := by
  obtain ⟨x, hx⟩ := modPort_eq s p f
  rw [hx]

@[simp] theorem State.peak_xbar (s : State) (f : Field) (v i j : Nat) : (s.peak f v i j).xbar = s.xbar := by
  unfold State.peak; split <;> simp

theorem memFrame.expressDrop (h : memFrame l s t) (hl : HoldsExpress l) (p : Nat) : memFrame l s (t.expressDrop p) :=
  ((h.count .VRD_EXP_DROP hl.drop).setFlag _ true hl.dropFlag).raise _ _ _

theorem memFrame.expressSend (h : memFrame l s t) (hl : HoldsExpress l) (p : Nat) (w : DWord) : memFrame l s (t.expressSend p w) := by
  unfold State.expressSend
  split
  · dsimp only
    split
    · exact h.expressDrop hl p
    · exact (h.modPort p _).peak _ _ (hl.depth p)
  · exact h

@[simp] theorem State.expressSend_xbar (s : State) (p : Nat) (w : DWord) : (s.expressSend p w).xbar = s.xbar := by
  unfold State.expressSend
  split
  · dsimp only
    split
    · rw [State.expressDrop, State.raise_xbar, State.setFlag_xbar, State.count_xbar]
    · rw [State.peak_xbar, State.modPort_xbar]
  · rfl

theorem memFrame.expressTo (h : memFrame l s t) (hl : HoldsExpress l) (hun : holdsReg l .KTL_UNREACH_DROP 0 0 0 0) (dev : Nat) (w : DWord) :
    memFrame l s (t.expressTo dev w) := by
  unfold State.expressTo
  dsimp only
  split
  · exact h.of_eq rfl rfl rfl
  · split
    · exact h.expressSend hl _ w
    · exact h.count _ hun

@[simp] theorem State.expressTo_xbar (s : State) (dev : Nat) (w : DWord) : (s.expressTo dev w).xbar = s.xbar := by
  unfold State.expressTo
  dsimp only
  split
  · rfl
  · split
    · exact State.expressSend_xbar ..
    · exact State.count_xbar ..

theorem memFrame.verdictExport (h : memFrame l s t) (hl : HoldsExpress l) (hun : holdsReg l .KTL_UNREACH_DROP 0 0 0 0) (v value due kind : Nat) :
    memFrame l s (verdictExport t v value due kind) := by
  unfold Machine.verdictExport
  split
  · exact h
  · exact List.foldlRecOn (motive := memFrame l s) _ _ h fun _ hu d _ => hu.expressTo hl hun d _

@[simp] theorem xbar_verdictExport (s : State) (v value due kind : Nat) : (verdictExport s v value due kind).xbar = s.xbar := by
  unfold verdictExport
  split
  · rfl
  · exact List.foldlRecOn (motive := fun u : State => u.xbar = s.xbar) _ _ rfl fun u hu d _ => (State.expressTo_xbar u d _).trans hu

/-- The registers that an exported message may change. -/
def exportParts : List Part :=
  [F.VRD_EXPQ_MAX_DEPTH.part [], { reg := .VRD_EXP_DROP, idx := [] }, F.VRD_STATUS_EXP_DROP.part [], { reg := .KTL_UNREACH_DROP, idx := [] }]

theorem holdsExpress_exportParts : HoldsExpress exportParts where
  depth _ := .of_mem (.head _) ..
  drop := .of_mem (.tail _ (.head _)) ..
  dropFlag := .of_mem (.tail _ (.tail _ (.head _))) ..

theorem rd_verdictExport (s : State) {r : Reg} (hr : ∀ x ∈ exportParts, x.reg ≠ r) (v value due kind i j k m : Nat) :
    (verdictExport s v value due kind).rd r i j k m = s.rd r i j k m :=
  ((memFrame.refl _ s).verdictExport holdsExpress_exportParts (.of_mem (.tail _ (.tail _ (.tail _ (.head _)))) ..) v value due kind).1.rd_eq hr ..

end

/-! ## A verdict at the crossbar (R320, R321, R338) -/

section
variable {s : State} {v : Nat} {r : ReadyVerdict}

/-- The due beat of a verdict that is ready now. -/
def dueBeat (s : State) (v : Nat) : Nat := max (s.now + delivery s v) (s.xbar.uPrev.at v)

/-- A verdict whose readout was muted is counted as substituted. -/
def countMuted (s : State) (muted : Bool) : State := if muted then s.count .VRD_GOV_SUBST else s

/-- The value that a verdict leaves the crossbar with. -/
def ReadyVerdict.sent (r : ReadyVerdict) : Nat := if r.muted then 3 else r.value

/-- The crossbar once a ready verdict has left it for its receivers. -/
def verdictSent (s : State) (v : Nat) (r : ReadyVerdict) : Crossbar :=
  { s.xbar with
    ready := s.xbar.ready.erase r
    uPrev := s.xbar.uPrev.to v (dueBeat s v + 1)
    flight := s.xbar.flight ++
      [{ v := v, imported := false, value := r.sent, due := dueBeat s v, slices := BitVec.ofNat 16 (s.fld F.VRD_ROUTE_SLICES v) }] }

theorem delivery_count (s : State) (v : Nat) : delivery (s.count .VRD_GOV_SUBST) v = delivery s v := by
  simp (disch := decide) [delivery, exportsOf, State.altInUse, State.flag_count_reg, State.fld_count_reg]

theorem route_count (s : State) (v : Nat) : (s.count .VRD_GOV_SUBST).fld F.VRD_ROUTE_SLICES v = s.fld F.VRD_ROUTE_SLICES v :=
  State.fld_count_reg _ _ _ _ _ _ _ _ _ _ _ (by decide)

theorem verdictReady_of_available (hfind : s.xbar.ready.find? (fun r => r.v = v ∧ r.at_ ≤ s.now) = some r)
    (hav : sourceUnavailable s (verdictSource v) = false) :
    verdictReady s v = verdictExport { countMuted s r.muted with xbar := verdictSent s v r } v r.sent (dueBeat s v) 0 := by
  have hav' : sourceUnavailable (modXbar s fun x => { x with ready := x.ready.erase r }) (verdictSource v) = false := hav
  rw [verdictReady, hfind]
  dsimp only
  rw [if_neg (by simp [hav'])]
  simp only [countMuted, verdictSent, dueBeat, ReadyVerdict.sent]
  cases r.muted with
  | false => rfl
  | true =>
    simp only [if_true, delivery_count, route_count]
    rfl

theorem rd_subst_countMuted (s : State) (muted : Bool) :
    (countMuted s muted).rd .VRD_GOV_SUBST = if muted then satCount (s.rd .VRD_GOV_SUBST) 1 else s.rd .VRD_GOV_SUBST := by
  cases muted with
  | false => rfl
  | true => exact State.rd_count_same ..

theorem memFrame_countMuted {l : List Part} (s : State) (muted : Bool) (hl : holdsReg l .VRD_GOV_SUBST 0 0 0 0) :
    memFrame l s (countMuted s muted) := by
  cases muted with
  | false => exact .refl l s
  | true => exact (memFrame.refl l s).count _ hl

end

/-! ## Messages from the fabric (R326, R329, R331) -/

section
variable {s : State} {word : DWord}

/-- A verdict message has left the receiver of its port. -/
def messageTaken (s : State) (word : DWord) : State :=
  { s with ktl := { s.ktl with inWords := s.ktl.inWords.eraseP (fun x => x.2 = word) } }

theorem exec_verdictMsgReceive (s : State) (p : Fin 4) (word : DWord) :
    exec (.verdictMsgReceive p word) s = .next (messageReceive (messageTaken s word) word) := rfl

theorem memFrame_messageTaken (l : List Part) (s : State) (word : DWord) : memFrame l s (messageTaken s word) :=
  (memFrame.refl l s).of_eq rfl rfl rfl

theorem messageReceive_of_due_error
    (h : (word.toNat.testBit 56 && word.toNat.testBit 57) = true ∨ 255 < dueOffset s (bitsAt word.toNat 32 24)) :
    messageReceive s word = dueError s (bitsAt word.toNat 10 10) (bitsAt word.toNat 0 10)
      (s.beat + dueOffset s (bitsAt word.toNat 32 24)).toNat := by
  unfold messageReceive
  rw [Bool.and_eq_true] at h
  dsimp only
  split
  · rfl
  · next hkind => rw [if_pos (h.resolve_left hkind)]

variable (hkind : (word.toNat.testBit 56 && word.toNat.testBit 57) = false)
include hkind

theorem messageReceive_of_ahead (h0 : 0 ≤ dueOffset s (bitsAt word.toNat 32 24)) (h255 : dueOffset s (bitsAt word.toNat 32 24) ≤ 255) :
    messageReceive s word = modXbar s fun x =>
      { x with held := x.held ++ [{ word := word, due := s.now + (dueOffset s (bitsAt word.toNat 32 24)).toNat }] } := by
  unfold messageReceive
  dsimp only
  rw [if_neg (by simpa using hkind), if_neg (by omega), if_neg (by omega)]

theorem messageReceive_of_late (h0 : dueOffset s (bitsAt word.toNat 32 24) < 0) :
    messageReceive s word = verdictLate s (bitsAt word.toNat 0 10) (bitsAt word.toNat 10 10) (-dueOffset s (bitsAt word.toNat 32 24)).toNat
      (discardIndex s (bitsAt word.toNat 10 10) (bitsAt word.toNat 0 10)) (s.beat + dueOffset s (bitsAt word.toNat 32 24)).toNat := by
  unfold messageReceive
  dsimp only
  rw [if_neg (by simpa using hkind), if_neg (by omega), if_pos h0]

end

/-- A due error discards the message: it is counted, flagged and raised, and nothing else changes but the journal. -/
theorem dueError_discards (s : State) {src : Nat} (hsrc : src < 2 ^ 24) (v due : Nat) :
    (dueError s src v due).xbar = s.xbar ∧ (dueError s src v due).rd .VRD_DUE_ERR = satCount (s.rd .VRD_DUE_ERR) 1 ∧
      (dueError s src v due).flag F.VRD_STATUS_DUE_ERR = true ∧
      { pair := { src := Src.VERDICT_DUE, scope := Scope.device, index := src }, injected := false, dry := false } ∈ (dueError s src v due).flt.raised ∧
      (dueError s src v due).slices = s.slices ∧
      memFrame [{ reg := .VRD_DUE_ERR, idx := [] }, F.VRD_STATUS_DUE_ERR.part []] s (dueError s src v due) := by
  have hregs : (dueError s src v due).regs = ((s.count .VRD_DUE_ERR).setFlag F.VRD_STATUS_DUE_ERR true).regs :=
    (State.journal_regs ..).trans (State.raise_regs ..)
  refine ⟨?_, ?_, ?_, ?_, ?_, ?_⟩
  · rw [dueError, State.journal_xbar, State.raise_xbar, State.setFlag_xbar, State.count_xbar]
  · rw [State.rd_of_regs hregs, State.setFlag, State.rd_setFld_reg _ _ _ _ _ _ _ _ _ _ _ _ (by decide), State.rd_count_same]
  · rw [State.flag_of_regs hregs, State.flag_setFlag_same _ _ _ _ _ _ _ (by decide) rfl]
  · rw [dueError, State.journal_flt]
    exact mem_raised_raise _ _ _ _ hsrc
  · rw [dueError, State.journal_slices, State.raise_slices, State.setFlag_slices, State.count_slices]
  · exact ((((memFrame.refl _ s).count _ (.of_mem (.head _) ..)).setFlag _ true (.of_mem (.tail _ (.head _)) ..)).raise _ _ _).journal _ _ _ _

/-- The registers that a late verdict changes (R329, R342). -/
def lateParts : List Part :=
  [{ reg := .VRD_LATE, idx := [] }, F.VRD_STATUS_LATE.part [], F.VRD_LAST_LATE_VERDICT.part [], F.VRD_LAST_LATE_SRC_DEV.part [],
    F.VRD_LAST_LATE_BEATS.part []]

/-- A late verdict is counted, flagged and recorded, and not latched. -/
theorem verdictLate_discards (s : State) {v src : Nat} (hv : v < 2 ^ 10) (hsrc : src < 2 ^ 10) (late index due : Nat) :
    let t := verdictLate s v src late index due
    t.xbar = s.xbar ∧ t.rd .VRD_LATE = satCount (s.rd .VRD_LATE) 1 ∧ t.flag F.VRD_STATUS_LATE = true ∧ t.fld F.VRD_LAST_LATE_VERDICT = v ∧
      t.fld F.VRD_LAST_LATE_SRC_DEV = src ∧ t.fld F.VRD_LAST_LATE_BEATS = min late 4095 ∧ memFrame lateParts s t := by
  intro t
  have hregs : t.regs = (((((s.count .VRD_LATE).setFlag F.VRD_STATUS_LATE true).setFld F.VRD_LAST_LATE_VERDICT v).setFld
      F.VRD_LAST_LATE_SRC_DEV src).setFld F.VRD_LAST_LATE_BEATS (min late 4095)).regs :=
    (State.journal_regs ..).trans (State.raise_regs ..)
  refine ⟨?_, ?_, ?_, ?_, ?_, ?_, ?_⟩
  · simp [t, verdictLate]
  · rw [State.rd_of_regs hregs]
    simp (disch := decide) [State.rd_setFld_reg, State.setFlag]
  · rw [State.flag_of_regs hregs]
    simp (disch := decide) only [State.flag_setFld_reg, State.flag_setFlag_same]
  · rw [State.fld_of_regs hregs]
    simp (disch := decide) only [State.fld_setFld_bits, State.fld_setFld_same]
    exact Nat.mod_eq_of_lt hv
  · rw [State.fld_of_regs hregs]
    simp (disch := decide) only [State.fld_setFld_bits, State.fld_setFld_same]
    exact Nat.mod_eq_of_lt hsrc
  · rw [State.fld_of_regs hregs, State.fld_setFld_same _ _ _ _ _ _ _ (by decide)]
    exact Nat.mod_eq_of_lt ((min_le_right _ _).trans_lt (by decide))
  · exact ((((((((memFrame.refl _ s).count _ (.of_mem (.head _) ..)).setFlag _ true (.of_mem (.tail _ (.head _)) ..)).setFld _ v
      (.of_mem (.tail _ (.tail _ (.head _))) ..)).setFld _ src (.of_mem (.tail _ (.tail _ (.tail _ (.head _)))) ..)).setFld _ _
      (.of_mem (.tail _ (.tail _ (.tail _ (.tail _ (.head _))))) ..)).raise _ _ _).journal _ _ _ _)

theorem bitsAt_lt (v lo w : Nat) : bitsAt v lo w < 2 ^ w := by
  rw [bitsAt_eq]; exact Nat.mod_lt _ (Nat.two_pow_pos _)

/-! ## A bound message acts (R327) -/

section
variable {s : State} {i : Fin 256} {m : HeldMessage}

/-- A held message has left the holding store. -/
def messageOut (s : State) (m : HeldMessage) : State := modXbar s fun x => { x with held := x.held.erase m }

theorem importDeliver_of_find
    (hfind : s.xbar.held.find? (fun m => m.due ≤ s.now ∧ i ∈ bindingsOf s (bitsAt m.word.toNat 10 10) (bitsAt m.word.toNat 0 10)) = some m) :
    importDeliver s i = messageDue s m := by
  rw [importDeliver, hfind]

theorem messageDue_of_one_binding (hrep : s.rpl.replaying = false)
    (hbind : bindingsOf s (bitsAt m.word.toNat 10 10) (bitsAt m.word.toNat 0 10) = [i]) :
    messageDue s m = messageAct (messageOut s m) m.word.toNat i := by
  have hbind' : bindingsOf (messageOut s m) (bitsAt m.word.toNat 10 10) (bitsAt m.word.toNat 0 10) = [i] := hbind
  have hrep' : (messageOut s m).rpl.replaying = false := hrep
  rw [messageOut] at hbind' hrep' ⊢
  simp [messageDue, hbind', hrep']

/-- A value message that finds no hold puts its value in flight to the slices of the import. -/
theorem messageAct_of_value {w : Nat} (hhold : w.testBit 56 = false) (hrel : w.testBit 57 = false) (hnone : holdOf s (.imported i) = none) :
    messageAct s w i = modXbar (s.journal JType.VERDICT_F 16 i.val (bitsAt w 0 22 % 2 ^ 20 + bitsAt w 30 2 * 2 ^ 20)) fun x =>
      { x with flight := x.flight ++ [{ v := i.val, imported := true, value := bitsAt w 30 2, due := s.now,
                                        slices := BitVec.ofNat 16 (s.fld F.VRD_IMPORT_SL_SLICES i) }] } := by
  have hfinish : holdFinish s (.imported i) = s := by rw [holdFinish, hnone]
  simp [messageAct, hhold, hrel, hfinish]

end

/-! ## Holds (R333, R334) -/

/-- The registers that the onset or the end of a hold changes. -/
def holdParts : List Part := [F.SEQ_VNEW_NEW.part [], F.SEQ_XNEW_NEW.part [], F.VRD_IMP_HOLD_HELD.part []]

/-- The place of an input among the copies of a sequencer (R129). -/
def copyKey : SeqInput → Nat
  | .verdict v => v.val
  | .imported i => 1024 + i.val

section
variable {s t : State} {input : SeqInput}

/-- A mark of a slice stands in no other slice's registers. -/
theorem fld_setNew_slice (s : State) {n m : Fin 16} (h : n ≠ m) (x : Selector) (b : Bool) (g : Field) (j : Nat) :
    (setNew s m x b).fld g n j = s.fld g n j := by
  have hne : n.val ≠ m.val := fun e => h (Fin.ext e)
  unfold setNew
  split
  · exact State.fld_setFld_index _ _ _ _ (.inl hne)
  · exact State.fld_setFld_index _ _ _ _ (.inl hne)
  · exact State.fld_setFld_index _ _ _ _ (.inl hne)
  · rfl

theorem inputNew_setNew_slice (s : State) {n m : Fin 16} (h : n ≠ m) (x y : Selector) (b : Bool) :
    inputNew (setNew s m x b) n y = inputNew s n y := by
  obtain ⟨j, bit, kind, inv⟩ := y
  cases kind <;> simp [inputNew, fld_setNew_slice s h]

theorem inputNew_modSeq (s : State) (n m : Fin 16) (f : Sequencer → Sequencer) (y : Selector) :
    inputNew (modSeq s m f) n y = inputNew s n y := by
  obtain ⟨j, bit, kind, inv⟩ := y
  cases kind <;> simp [inputNew]

theorem inputNew_setNew_inputSel (s : State) (n : Fin 16) (input : SeqInput) (b : Bool) :
    inputNew (setNew s n (inputSel input) b) n (inputSel input) = b := by
  rw [inputNew_setNew _ _ _ _ _ (by cases input <;> nofun), if_pos ⟨(Selector.sameInput_iff _ _).2 ⟨rfl, rfl⟩, by cases input <;> nofun⟩]

theorem copyKey_inputSel (input : SeqInput) :
    (if (inputSel input).kind == .imported then 1024 + (inputSel input).index else (inputSel input).index) = copyKey input := by
  cases input <;> rfl

theorem memFrame.setNew_inputSel (h : memFrame holdParts s t) (n : Fin 16) (input : SeqInput) (b : Bool) :
    memFrame holdParts s (setNew t n (inputSel input) b) := by
  cases input with
  | verdict v => exact h.setFld _ _ (.of_mem (.head _) ..)
  | imported i => exact h.setFld _ _ (.of_mem (.tail _ (.head _)) ..)

theorem inputSlices_of_memFrame (h : memFrame holdParts s t) (input : SeqInput) : inputSlices t input = inputSlices s input := by
  cases input <;> exact h.1.fld_of_reg (by decide) ..

/-- An update of every slice in turn that keeps `I`: `P n` holds at the end where the update of slice `n` makes it so and no other slice's
update undoes it. -/
theorem eachSlice_rec {I : State → Prop} {P : Fin 16 → State → Prop} {f : State → Fin 16 → State} (hI : I s) (hkeep : ∀ t n, I t → I (f t n))
    (hmake : ∀ t n, I t → P n (f t n)) (hother : ∀ t n m, I t → n ≠ m → P n t → P n (f t m)) : I (eachSlice s f) ∧ ∀ n, P n (eachSlice s f) := by
  refine ⟨List.foldlRecOn (motive := I) _ _ hI fun t ht n _ => hkeep t n ht, fun n => ?_⟩
  obtain ⟨before, after, hsplit⟩ := List.append_of_mem (List.mem_finRange n)
  rw [eachSlice, hsplit, List.foldl_append, List.foldl_cons]
  have hbefore : I (before.foldl f s) := List.foldlRecOn (motive := I) _ _ hI fun t ht m _ => hkeep t m ht
  refine (List.foldlRecOn (motive := fun t => I t ∧ P n t) after f ⟨hkeep _ n hbefore, hmake _ n hbefore⟩ fun t ht m _ => ?_).2
  refine ⟨hkeep t m ht.1, ?_⟩
  by_cases hnm : n = m
  · exact hnm ▸ hmake t n ht.1
  · exact hother t n m ht.1 hnm ht.2

/-- An update of the slices that receive an input, in turn. -/
theorem eachReceiver_rec {P : Fin 16 → State → Prop} {f : State → Fin 16 → State}
    (hkeep : ∀ t n, memFrame holdParts s t → memFrame holdParts s (f t n)) (hxbar : ∀ t n, (f t n).xbar = t.xbar) (hmake : ∀ t n, P n (f t n))
    (hother : ∀ t n m, n ≠ m → P n t → P n (f t m)) :
    let t := eachSlice s (fun s n => if (inputSlices s input).testBit n.val then f s n else s)
    (memFrame holdParts s t ∧ t.xbar = s.xbar) ∧ ∀ n : Fin 16, (inputSlices s input).testBit n.val = true → P n t := by
  refine eachSlice_rec (I := fun t => memFrame holdParts s t ∧ t.xbar = s.xbar) (P := fun n t => (inputSlices s input).testBit n.val = true → P n t)
    ⟨.refl _ s, rfl⟩ (fun t n ht => ?_) (fun t n ht hn => ?_) fun t n m ht hnm hP hn => ?_
  · split
    · exact ⟨hkeep t n ht.1, (hxbar t n).trans ht.2⟩
    · exact ht
  · rw [if_pos (by rwa [inputSlices_of_memFrame ht.1])]
    exact hmake t n
  · split
    · exact hother t n m hnm (hP hn)
    · exact hP hn

/-- At every receiving slice a held input reads 3 and is new. -/
theorem holdAssert_marks (s : State) (input : SeqInput) :
    (memFrame holdParts s (holdAssert s input) ∧ (holdAssert s input).xbar = s.xbar) ∧
      ∀ n : Fin 16, (inputSlices s input).testBit n.val = true →
        inputNew (holdAssert s input) n (inputSel input) = true ∧ ((holdAssert s input).sl n).seq.copies.at (copyKey input) = 3 := by
  refine eachReceiver_rec (P := fun n t => inputNew t n (inputSel input) = true ∧ (t.sl n).seq.copies.at (copyKey input) = 3)
    (fun _ n ht => (ht.modSeq n _).setNew_inputSel n input true) (fun _ _ => xbar_setNew ..) (fun t n => ⟨?_, ?_⟩) fun t n m hnm ht => ⟨?_, ?_⟩
  · exact inputNew_setNew_inputSel ..
  · rw [sl_setNew, seq_modSeq, copyKey_inputSel]
    exact NMap.at_to_same (t.sl n).seq.copies _ 3
  · rw [inputNew_setNew_slice _ hnm, inputNew_modSeq, ht.1]
  · rw [sl_setNew, modSeq, State.sl_modSl_ne _ _ hnm, ht.2]

/-- Clearing the mark of an input at every receiving slice, as the end of a hold does. -/
theorem eachSlice_clear_marks (s : State) (input : SeqInput) :
    let t := eachSlice s (fun s n => if (inputSlices s input).testBit n.val then setNew s n (inputSel input) false else s)
    (memFrame holdParts s t ∧ t.xbar = s.xbar) ∧
      ∀ n : Fin 16, (inputSlices s input).testBit n.val = true → inputNew t n (inputSel input) = false :=
  eachReceiver_rec (P := fun n t => inputNew t n (inputSel input) = false) (fun _ n ht => ht.setNew_inputSel n input false)
    (fun _ _ => xbar_setNew ..) (fun _ _ => inputNew_setNew_inputSel ..) fun t _ _ hnm ht => (inputNew_setNew_slice t hnm ..).trans ht

/-- VRD_IMP_HOLD and the journal take note of the onset or the end of a hold. -/
theorem journalHold_showHold_frame (s : State) (input : SeqInput) (b : Bool) (k : Nat) :
    memFrame holdParts s (journalHold (showHold s input b) input k) ∧ (journalHold (showHold s input b) input k).xbar = s.xbar := by
  cases input with
  | verdict v => exact ⟨(memFrame.refl _ s).journal .., State.journal_xbar ..⟩
  | imported i =>
    exact ⟨((memFrame.refl _ s).setFld _ _ (.of_mem (.tail _ (.tail _ (.head _))) ..)).journal ..,
      (State.journal_xbar ..).trans (State.setFld_xbar ..)⟩

/-- A planned hold is in force. -/
def holdInForce (s : State) (h : VerdictHold) : State := modXbar s fun x => { x with holds := x.holds.erase h ++ [{ h with active := true }] }

/-- A hold is no more. -/
def holdOut (s : State) (h : VerdictHold) : State := modXbar s fun x => { x with holds := x.holds.erase h }

/-- A hold that was planned begins. -/
theorem holdBegin_of_planned {h : VerdictHold} (hfind : s.xbar.holds.find? (fun h => h.input = input ∧ !h.active) = some h) :
    memFrame holdParts s (holdBegin s input) ∧ (holdBegin s input).xbar.holds = s.xbar.holds.erase h ++ [{ h with active := true }] ∧
      ∀ n : Fin 16, (inputSlices s input).testBit n.val = true →
        inputNew (holdBegin s input) n (inputSel input) = true ∧ ((holdBegin s input).sl n).seq.copies.at (copyKey input) = 3 := by
  have heq : holdBegin s input = holdAssert (journalHold (showHold (holdInForce s h) input true) input 0) input := by
    rw [holdBegin, hfind]; rfl
  obtain ⟨hnoted, hxnoted⟩ := journalHold_showHold_frame (holdInForce s h) input true 0
  obtain ⟨⟨hmarked, hxbar⟩, hmarks⟩ := holdAssert_marks (journalHold (showHold (holdInForce s h) input true) input 0) input
  have hbefore := ((memFrame.refl _ s).modXbar _).trans hnoted
  rw [heq]
  exact ⟨hbefore.trans hmarked, by rw [hxbar, hxnoted]; rfl, fun n hn => hmarks n (by rwa [inputSlices_of_memFrame hbefore])⟩

/-- A hold in force ends. -/
theorem holdFinish_of_active {h : VerdictHold} (hof : holdOf s input = some h) (hact : h.active = true) :
    memFrame holdParts s (holdFinish s input) ∧ (holdFinish s input).xbar.holds = s.xbar.holds.erase h ∧
      ∀ n : Fin 16, (inputSlices s input).testBit n.val = true → inputNew (holdFinish s input) n (inputSel input) = false := by
  have heq : holdFinish s input = eachSlice (journalHold (showHold (holdOut s h) input false) input 1)
      (fun s n => if (inputSlices s input).testBit n.val then setNew s n (inputSel input) false else s) := by
    rw [holdFinish, hof]
    exact if_pos hact
  obtain ⟨hnoted, hxnoted⟩ := journalHold_showHold_frame (holdOut s h) input false 1
  obtain ⟨⟨hmarked, hxbar⟩, hmarks⟩ := eachSlice_clear_marks (journalHold (showHold (holdOut s h) input false) input 1) input
  have hbefore := ((memFrame.refl _ s).modXbar _).trans hnoted
  rw [heq]
  exact ⟨hbefore.trans hmarked, by rw [hxbar, hxnoted]; rfl, fun n hn => hmarks n (by rwa [inputSlices_of_memFrame hbefore])⟩

/-- A hold whose onset is due is planned. -/
theorem exists_planned_of_due (hdue : (s.xbar.holds.any (fun h => h.input = input ∧ !h.active ∧ h.onset ≤ s.now)) = true) :
    ∃ h, s.xbar.holds.find? (fun h => h.input = input ∧ !h.active) = some h := by
  obtain ⟨h, hmem, hh⟩ := List.any_eq_true.1 hdue
  simp only [decide_eq_true_eq] at hh
  obtain ⟨hinput, hwaits, -⟩ := hh
  rw [← Option.isSome_iff_exists, List.find?_isSome]
  exact ⟨h, hmem, decide_eq_true ⟨hinput, hwaits⟩⟩

theorem holdOnset_of_due (hdue : (s.xbar.holds.any (fun h => h.input = input ∧ !h.active ∧ h.onset ≤ s.now)) = true)
    (hrep : s.rpl.replaying = false) (hnone : (s.xbar.holds.any (fun h => h.input = input ∧ h.active)) = false) :
    holdOnset s input = holdBegin s input := if_pos ⟨hdue, by rw [hrep]; rfl, by rw [hnone]; rfl⟩

theorem holdEnd_of_due {h : VerdictHold} {k : Nat} (hof : holdOf s input = some h) (huntil : h.until_ = some k) (hk : k ≤ s.now)
    (hrep : s.rpl.replaying = false) : holdEnd s input = holdFinish s input := by
  rw [holdEnd, hof]
  dsimp only
  rw [huntil]
  exact if_pos ⟨hk, by rw [hrep]; rfl⟩

end

/-- Settles O30: the message is a due error (`messageReceive_of_due_error`), which discards it (`dueError_discards`). -/
theorem verdictDueError : Obligations.VerdictDueError := by
  unfold Obligations.VerdictDueError
  intro s p word h
  refine ⟨_, exec_verdictMsgReceive s p word, ?_⟩
  rw [messageReceive_of_due_error (s := messageTaken s word) h]
  obtain ⟨hx, hcount, hflag, hraised, hslices, hframe⟩ := dueError_discards (messageTaken s word) ((bitsAt_lt word.toNat 10 10).trans (by decide))
    (bitsAt word.toNat 0 10) ((messageTaken s word).beat + dueOffset (messageTaken s word) (bitsAt word.toNat 32 24)).toNat
  exact ⟨hx, hcount, hflag, hraised, fun n => congrArg (Vector.get · n) hslices, (memFrame_messageTaken _ s word).trans hframe⟩

/-- The registers that a ready verdict may change: the substitutions, and what its exports may change. -/
abbrev readyParts : List Part :=
  [F.VRD_STATUS_EXP_DROP.part []] ++ globalParts [.VRD_GOV_SUBST, .VRD_EXPQ_MAX, .VRD_EXP_DROP, .KTL_UNREACH_DROP]

theorem holdsExpress_readyParts : HoldsExpress readyParts where
  depth p := .of_mem_global (f := F.VRD_EXPQ_MAX_DEPTH) (by decide) (by decide) ..
  drop := .of_mem (by decide) ..
  dropFlag := .of_mem (.head _) ..

/-- Settles O29: a ready verdict by what `verdictSent` makes of the crossbar, which the exports keep; a message by its equation for each arrival; the
onset and the end of a hold by the marks they leave at every receiving slice (`holdBegin_of_planned`, `holdFinish_of_active`). -/
theorem verdicts : Obligations.Verdicts := by
  unfold Obligations.Verdicts
  refine ⟨fun s v r hfind hav => ⟨_, rfl, ?_⟩, fun s p word hkind h0 h255 => ⟨_, exec_verdictMsgReceive s p word, ?_⟩,
    fun s p word hkind h0 => ⟨_, exec_verdictMsgReceive s p word, ?_⟩, fun s i m hfind hhold hrel hrep hbind hnone => ⟨_, rfl, ?_⟩,
    fun s input hdue hrep hnone => ⟨_, rfl, ?_⟩, fun s input h k hof huntil hk hrep hact => ⟨_, rfl, ?_⟩⟩
  · have hsent : memFrame readyParts s { countMuted s r.muted with xbar := verdictSent s v.val r } :=
      (memFrame_countMuted s r.muted (.of_mem (by decide) ..)).of_eq rfl rfl rfl
    have hframe := hsent.verdictExport holdsExpress_readyParts (.of_mem (by decide) ..) v.val r.sent (dueBeat s v.val) 0
    rw [verdictReady_of_available hfind hav]
    refine ⟨?_, ?_, ?_, ?_, hframe⟩
    · rw [xbar_verdictExport]; rfl
    · rw [xbar_verdictExport]
      exact NMap.at_to_same s.xbar.uPrev v.val (dueBeat s v.val + 1)
    · rw [xbar_verdictExport]; rfl
    · rw [rd_verdictExport _ (by decide)]
      exact rd_subst_countMuted s r.muted
  · rw [messageReceive_of_ahead (s := messageTaken s word) hkind h0 h255]
    exact ⟨rfl, (memFrame_messageTaken _ s word).modXbar _⟩
  · rw [messageReceive_of_late (s := messageTaken s word) hkind h0]
    obtain ⟨hx, hcount, hflag, hv, hsrc, hbeats, hframe⟩ := verdictLate_discards (messageTaken s word) (bitsAt_lt word.toNat 0 10)
      (bitsAt_lt word.toNat 10 10) (-dueOffset s (bitsAt word.toNat 32 24)).toNat
      (discardIndex (messageTaken s word) (bitsAt word.toNat 10 10) (bitsAt word.toNat 0 10))
      ((messageTaken s word).beat + dueOffset (messageTaken s word) (bitsAt word.toNat 32 24)).toNat
    exact ⟨congrArg Crossbar.held hx, congrArg Crossbar.flight hx, hcount, hflag, hv, hsrc, hbeats,
      (memFrame_messageTaken _ s word).trans hframe⟩
  · rw [importDeliver_of_find hfind, messageDue_of_one_binding hrep hbind, messageAct_of_value (s := messageOut s m) hhold hrel hnone]
    exact ⟨congrArg Crossbar.held (State.journal_xbar (messageOut s m) ..), congrArg (·.flight ++ _) (State.journal_xbar (messageOut s m) ..),
      (((memFrame.refl _ s).modXbar _).journal ..).modXbar _⟩
  · obtain ⟨h, hfind⟩ := exists_planned_of_due hdue
    obtain ⟨hframe, hholds, hmarks⟩ := holdBegin_of_planned hfind
    rw [holdOnset_of_due hdue hrep hnone, hholds]
    refine ⟨List.any_eq_true.2 ⟨_, List.mem_append_right _ (.head _), ?_⟩, hmarks, hframe⟩
    have hinput := List.find?_some hfind
    simp only [decide_eq_true_eq] at hinput ⊢
    exact ⟨hinput.1, trivial⟩
  · obtain ⟨hframe, hholds, hmarks⟩ := holdFinish_of_active hof hact
    rw [holdEnd_of_due hof huntil hk hrep]
    exact ⟨hholds, hmarks, hframe⟩

end Sys2Proof.Machine

namespace Sys2Proof.Machine

/-! ## The flux and force outputs (R339 to R355) -/

section
variable (s : State) (n : Fin 16) (f : Fin 8)

/-! ### A channel and the registers that show it -/

@[simp] theorem ffCh_modFf (g : FfChannel → FfChannel) : ffCh (modFf s n f g) n f = g (ffCh s n f) := by
  simp [ffCh, modFf, Vector.get_eq_getElem]

@[simp] theorem now_modFf (g : FfChannel → FfChannel) : (modFf s n f g).now = s.now := rfl

@[simp] theorem rd_modFf (g : FfChannel → FfChannel) (r : Reg) (i j k m : Nat) : (modFf s n f g).rd r i j k m = s.rd r i j k m := rfl

@[simp] theorem fld_modFf (g : FfChannel → FfChannel) (x : Field) (i j k m : Nat) : (modFf s n f g).fld x i j k m = s.fld x i j k m := rfl

@[simp] theorem ffCh_setFld (x : Field) (v i j k m : Nat) : ffCh (s.setFld x v i j k m) n f = ffCh s n f := rfl

@[simp] theorem ffCh_setFlag (x : Field) (b : Bool) (i j k m : Nat) : ffCh (s.setFlag x b i j k m) n f = ffCh s n f := rfl

@[simp] theorem ffCh_count (r : Reg) (i j k m : Nat) : ffCh (s.count r i j k m) n f = ffCh s n f := rfl

@[simp] theorem ffCh_ffRefresh : ffCh (ffRefresh s n f) n f = ffCh s n f := rfl

@[simp] theorem ffCh_updFf (g : FfChannel → FfChannel) : ffCh (updFf s n f g) n f = g (ffCh s n f) := by
  rw [updFf, ffCh_ffRefresh, ffCh_modFf]

/-- FF_STATUS.STATE and FF_CODE are all that follows the channel. -/
theorem fld_ffRefresh {x : Field} (hx : x.reg ≠ .FF_CODE ∧ (x.reg ≠ .FF_STATUS ∨ 3 ≤ x.lo)) (i j k m : Nat) :
    (ffRefresh s n f).fld x i j k m = s.fld x i j k m := by
  obtain ⟨hcode, hstatus⟩ := hx
  rw [ffRefresh, State.fld_setFld_reg _ _ _ _ _ _ _ _ _ _ _ _ hcode, State.fld_setFlag_reg _ _ _ _ _ _ _ _ _ _ _ _ hcode]
  rcases hstatus with h | h
  · exact State.fld_setFld_reg _ _ _ _ _ _ _ _ _ _ _ _ h
  · exact State.fld_setFld_bits _ _ _ _ _ _ _ _ _ _ _ _ (by decide) (.inr h)

theorem rd_ffRefresh {r : Reg} (hr : r ≠ .FF_CODE ∧ r ≠ .FF_STATUS) (i j k m : Nat) : (ffRefresh s n f).rd r i j k m = s.rd r i j k m := by
  obtain ⟨hcode, hstatus⟩ := hr
  rw [ffRefresh, State.rd_setFld_reg _ _ _ _ _ _ _ _ _ _ _ _ hcode, State.setFlag, State.rd_setFld_reg _ _ _ _ _ _ _ _ _ _ _ _ hcode,
    State.rd_setFld_reg _ _ _ _ _ _ _ _ _ _ _ _ hstatus]

theorem fld_updFf (g : FfChannel → FfChannel) {x : Field} (hx : x.reg ≠ .FF_CODE ∧ (x.reg ≠ .FF_STATUS ∨ 3 ≤ x.lo)) (i j k m : Nat) :
    (updFf s n f g).fld x i j k m = s.fld x i j k m := by
  rw [updFf, fld_ffRefresh _ _ _ hx, fld_modFf]

theorem ffRamp_pos : 0 < ffRamp s n f := by
  unfold ffRamp clampNat
  split
  · decide
  · split <;> omega

end

section
variable {s t : State} {n : Fin 16} {f : Fin 8} {l : List Part}

theorem seqFrame.modFf (h : seqFrame l n s t) (f : Fin 8) (g : FfChannel → FfChannel) : seqFrame l n s (modFf t n f g) := h.modSl _

/-- The registers in which a channel's state and code show. -/
abbrev ffShownParts (n : Fin 16) (f : Fin 8) : List Part := [F.FF_STATUS_STATE.part [n, f], { reg := .FF_CODE, idx := [n, f] }]

theorem seqFrame.ffRefresh (h : seqFrame l n s t) (hl : ∀ x ∈ ffShownParts n f, x ∈ l) : seqFrame l n s (ffRefresh t n f) := by
  have hcode : ∀ x : Field, x.reg = .FF_CODE → x.lo + x.width ≤ 32 → holdsFld l x n f 0 0 := fun x hx hw =>
    .of_mem_whole (hx ▸ hl _ (.tail _ (.head _))) hw
  exact ((h.setFld _ _ (.of_mem_index2 (hl _ (.head _)))).setFlag _ _ (hcode _ rfl (by decide))).setFld _ _ (hcode _ rfl (by decide))

theorem seqFrame.updFf (h : seqFrame l n s t) (g : FfChannel → FfChannel) (hl : ∀ x ∈ ffShownParts n f, x ∈ l) : seqFrame l n s (updFf t n f g) :=
  (h.modFf f g).ffRefresh hl

/-- An event that a channel cannot take is counted and flagged (R348, R354). -/
theorem count_flagged (s : State) (n : Fin 16) (f : Fin 8) {r : Reg} {x : Field} (hr : r ≠ x.reg) (hlo : x.lo + x.width ≤ 32) (hw : x.width = 1) :
    ((s.count r n f).setFlag x true n f).rd r n f = satCount (s.rd r n f) 1 ∧ ((s.count r n f).setFlag x true n f).flag x n f = true ∧
      seqFrame [{ reg := r, idx := [n.val, f.val] }, x.part [n, f]] n s ((s.count r n f).setFlag x true n f) := by
  refine ⟨?_, State.flag_setFlag_same _ _ _ _ _ _ _ hlo hw, ((seqFrame.refl _ n s).wr _ _ (.of_mem_index2 (.head _))).setFlag _ _
    (.of_mem_index2 (.tail _ (.head _)))⟩
  rw [State.setFlag, State.rd_setFld_reg _ _ _ _ _ _ _ _ _ _ _ _ hr, State.rd_count_same]

/-! ### CODE events (R339, R348, R350) -/

theorem ffCode_of_active (hst : ffStateOf s n f = 1) (hgov : ffMuted s n f = false) (code : Int) (off : Nat) :
    ffCode s n f code off = ffRefresh (ffSetCode s n f code off) n f := by
  simp [ffCode, hst, hgov]

theorem ffCode_of_changing (hst : ffStateOf s n f = 2) (code : Int) (off : Nat) :
    ffCode s n f code off = updFf ((s.count .FF_DEFER n f).setFlag F.FF_STATUS_DEFERRED true n f) n f fun c =>
      { c with deferred := some (code, off) } := by
  simp [ffCode, hst]

theorem ffCode_of_other (h1 : ffStateOf s n f ≠ 1 ∨ ffMuted s n f = true) (h2 : ffStateOf s n f ≠ 2) (code : Int) (off : Nat) :
    ffCode s n f code off = ffDiscard s n f := by
  unfold ffCode
  split
  · next hst => rw [if_pos (h1.resolve_left (not_not.2 hst))]
  · next hst => exact absurd hst h2
  · rfl

/-! ### What a sequence does (R353, R355) -/

/-- The sequence that begins now. -/
def ffNewSequence (s : State) (n : Fin 16) (f : Fin 8) (from3 : Bool) (goal : FfGoal) : FfSequence :=
  { z := s.now, ramp := ffRamp s n f, c0 := (ffCh s n f).code, from3 := from3, opened := false, goal := goal }

theorem ffAdvance_of_none (h : (ffCh s n f).seq = none) : ffAdvance s n f = s := by
  rw [ffAdvance, h]

theorem ffTakeBack_of_no_events (h : (ffCh s n f).events = []) : ffTakeBack s n f = s := by
  simp [ffTakeBack, h]

/-- What step 1 makes of the codes of the present beat. -/
theorem ffAdvance_of_ramping {q : FfSequence} (hq : (ffCh s n f).seq = some q) (hr : q.ramping s.now = true) (h3 : s.now < q.step3) :
    ffAdvance s n f = modFf s n f fun c => { c with code := rampCode q (8 * (s.now - q.z))
                                                    changes := (List.range 8).map fun i => (i, rampCode q (8 * (s.now - q.z) + i)) } := by
  rw [ffAdvance, hq]
  dsimp only
  rw [if_pos hr]
  split
  · rw [if_neg (by rw [now_modFf]; omega)]
  · rfl

/-- The ramp of the sequence is over, or it has none. -/
def FfSequence.past (q : FfSequence) (now : Nat) : Prop := q.from3 = true ∨ q.opened = true ∨ q.z + q.ramp < now

theorem FfSequence.past_of_ended {q : FfSequence} {now : Nat} (h : q.endAt ≤ now) : q.past now := by
  by_cases hfrom : q.from3 = true
  · exact .inl hfrom
  · by_cases hopen : q.opened = true
    · exact .inr (.inl hopen)
    · refine .inr (.inr ?_)
      unfold FfSequence.endAt FfSequence.step3 at h
      split at h
      · rw [if_neg hfrom] at h; omega
      · rw [if_neg hopen] at h; omega

theorem FfSequence.past.not_ramping {q : FfSequence} {now : Nat} (h : q.past now) :
    q.ramping now = false ∧ (!q.from3 && !q.opened && decide (now = q.z + q.ramp)) = false := by
  rcases h with h | h | h
  · simp [FfSequence.ramping, h]
  · simp [FfSequence.ramping, h]
  · simp [FfSequence.ramping, show ¬now < q.z + q.ramp by omega, show now ≠ q.z + q.ramp by omega]

/-- Step 3: the channel stands at code 0 in the new setting. -/
def ffStep3 (s : State) (n : Fin 16) (f : Fin 8) (v : Nat) : State :=
  (modFf s n f fun c => { c with kelvin := s.flag F.FF_CFG_KELVIN n f && decide (f.val < 2), code := 0, changes := [(0, 0)] }).setFld
    F.FF_STATUS_SETTING v n f

section
variable {q : FfSequence} (hq : (ffCh s n f).seq = some q) (hp : q.past s.now)
include hq hp

/-- Past its ramp a sequence only puts the setting of its goal, once step 3 has come. -/
theorem ffAdvance_of_past_setting {v : Nat} (hgoal : q.goal = .setting v) :
    ffAdvance s n f =
      if q.step3 ≤ s.now ∧ (s.fld F.FF_STATUS_SETTING n f ≠ v ∨ (ffCh s n f).code ≠ 0 ∨ q.step3 = s.now) then ffStep3 s n f v else s := by
  obtain ⟨hramping, hboundary⟩ := hp.not_ramping
  rw [ffAdvance, hq]
  simp only [hramping, hboundary, hgoal, Bool.false_eq_true, if_false]
  rfl

theorem ffAdvance_of_past_hiz (hgoal : q.goal = .hiz) : ffAdvance s n f = s := by
  obtain ⟨hramping, hboundary⟩ := hp.not_ramping
  rw [ffAdvance, hq]
  simp only [hramping, hboundary, hgoal, Bool.false_eq_true, if_false]

end

theorem fld_setting_ffStep3 (s : State) (n : Fin 16) (f : Fin 8) {v : Nat} (hv : v < 8) : (ffStep3 s n f v).fld F.FF_STATUS_SETTING n f = v :=
  (State.fld_setFld_same _ _ _ _ _ _ _ (by decide)).trans (Nat.mod_eq_of_lt hv)

theorem seqFrame_ffStep3 (s : State) (n : Fin 16) (f : Fin 8) (v : Nat) : seqFrame [F.FF_STATUS_SETTING.part [n, f]] n s (ffStep3 s n f v) :=
  ((seqFrame.refl _ n s).modFf f _).setFld F.FF_STATUS_SETTING v (.of_mem_index2 (.head _))

/-- A sequence that has ended has put the setting of its goal, and the deferred code stands. -/
theorem ffAdvance_of_ended_setting {q : FfSequence} {v : Nat} (hq : (ffCh s n f).seq = some q) (hgoal : q.goal = .setting v) (hv : v < 8)
    (hend : q.endAt ≤ s.now) :
    (ffAdvance s n f).fld F.FF_STATUS_SETTING n f = v ∧ (ffCh (ffAdvance s n f) n f).deferred = (ffCh s n f).deferred ∧
      seqFrame [F.FF_STATUS_SETTING.part [n, f]] n s (ffAdvance s n f) := by
  have h3 : q.step3 ≤ s.now := by
    rw [FfSequence.endAt, hgoal] at hend
    exact (Nat.le_add_right _ _).trans hend
  rw [ffAdvance_of_past_setting hq (FfSequence.past_of_ended hend) hgoal]
  split
  · exact ⟨fld_setting_ffStep3 s n f hv, by rw [ffStep3, ffCh_setFld, ffCh_modFf], seqFrame_ffStep3 s n f v⟩
  · next hset => exact ⟨by_contra fun hne => hset ⟨h3, .inl hne⟩, rfl, .refl _ n s⟩

/-- A sequence from step 1 begins with the ramp of the code. -/
theorem ffBegin_ramp (s : State) (n : Fin 16) (f : Fin 8) (goal : FfGoal) :
    (ffCh (ffBegin s n f false false goal) n f).seq = some (ffNewSequence s n f false goal) ∧ seqFrame [] n s (ffBegin s n f false false goal) := by
  have hpos := ffRamp_pos s n f
  rw [ffBegin, ffAdvance_of_ramping (q := ffNewSequence s n f false goal) (by rw [ffCh_modFf]; rfl)
    (by simpa [FfSequence.ramping, ffNewSequence] using hpos) (by simp [FfSequence.step3, ffNewSequence]; omega)]
  exact ⟨by rw [ffCh_modFf, ffCh_modFf]; rfl, ((seqFrame.refl _ n s).modFf f _).modFf f _⟩

/-- A sequence from step 3 begins with the new setting at code 0. -/
theorem ffBegin_setting (s : State) (n : Fin 16) (f : Fin 8) {v : Nat} (hv : v < 8) :
    let t := ffBegin s n f true false (.setting v)
    (ffCh t n f).seq = some (ffNewSequence s n f true (.setting v)) ∧ (ffCh t n f).code = 0 ∧ t.fld F.FF_STATUS_SETTING n f = v ∧
      seqFrame [F.FF_STATUS_SETTING.part [n, f]] n s t := by
  intro t
  have ht : t = _ := (ffAdvance_of_past_setting (q := ffNewSequence s n f true (.setting v)) (by rw [ffCh_modFf]; rfl) (.inl rfl) rfl).trans
    (if_pos ⟨Nat.le_refl _, .inr (.inr rfl)⟩)
  rw [ht]
  exact ⟨by rw [ffStep3, ffCh_setFld, ffCh_modFf, ffCh_modFf]; rfl, by rw [ffStep3, ffCh_setFld, ffCh_modFf], fld_setting_ffStep3 _ n f hv,
    ((seqFrame.refl _ n s).modFf f _).trans (seqFrame_ffStep3 _ n f v)⟩

/-! ### SPAN and HIZ events, and the end of a sequence -/

theorem ffSpan_of_hiz {v : Nat} (hst : ffStateOf s n f = 0) (hok : ffAllowed s n f v = true) (hseq : (ffCh s n f).seq = none) :
    ffSpan s n f v = updFf (ffBegin s n f true false (.setting v)) n f fun c => { c with base := .changing } := by
  simp [ffSpan, hst, hok, ffAdvance_of_none hseq]

theorem ffSpan_of_active {v : Nat} (hst : ffStateOf s n f = 1) (hgov : ffMuted s n f = false) (hok : ffAllowed s n f v = true)
    (hset : s.fld F.FF_STATUS_SETTING n f ≠ v) (hev : (ffCh s n f).events = []) :
    ffSpan s n f v = updFf (ffBegin s n f false false (.setting v)) n f fun c => { c with base := .changing } := by
  simp [ffSpan, hst, hgov, hok, hset, ffTakeBack_of_no_events hev]

theorem ffSpan_of_not_allowed {v : Nat} (hst : ffStateOf s n f = 0 ∨ ffStateOf s n f = 1 ∨ ffStateOf s n f = 2) (hgov : ffMuted s n f = false)
    (hok : ffAllowed s n f v = false) : ffSpan s n f v = (s.count .FF_REFUSED n f).setFlag F.FF_STATUS_REFUSED true n f := by
  simp [ffSpan, hst, hgov, hok]

theorem ffHiz_of_active (hst : ffStateOf s n f = 1) (hgov : ffMuted s n f = false) (hseq : (ffCh s n f).seq = none)
    (hev : (ffCh s n f).events = []) :
    ffHiz s n f = updFf (ffBegin s n f false false .hiz) n f fun c => { c with base := .changing, deferred := none } := by
  simp [ffHiz, hst, hgov, ffAdvance_of_none hseq, ffTakeBack_of_no_events hev]

theorem ffSequenceEnd_of_setting {q : FfSequence} {v : Nat} (hq : (ffCh s n f).seq = some q) (hgoal : q.goal = .setting v)
    (hend : q.endAt ≤ s.now) (hdef : (ffCh (ffAdvance s n f) n f).deferred = none) :
    ffSequenceEnd s n f = updFf (ffAdvance s n f) n f fun c =>
      { c with seq := none, base := .active, deferred := none, code := 0, changes := [], events := [] } := by
  simp [ffSequenceEnd, hq, hend, hgoal, hdef]

theorem ffSequenceEnd_of_hiz {q : FfSequence} (hq : (ffCh s n f).seq = some q) (hgoal : q.goal = .hiz) (hend : q.endAt ≤ s.now) :
    ffSequenceEnd s n f = updFf s n f fun c => { c with seq := none, base := .hiz, code := 0, deferred := none } := by
  simp [ffSequenceEnd, hq, hend, hgoal, ffAdvance_of_past_hiz hq (FfSequence.past_of_ended hend) hgoal]

end

/-- Settles O31: each event and end by the state it leaves; a sequence that begins by `ffBegin_ramp` and `ffBegin_setting`, one that ends by
`ffAdvance_of_ended_setting`. -/
theorem ffEvents : Obligations.FfEvents := by
  unfold Obligations.FfEvents
  refine ⟨fun s n f code off hon hst hgov => ⟨_, congrArg Host.Outcome.next (analogEvent_of_on hon _), ?_⟩,
    fun s n f code off hon hst => ⟨_, congrArg Host.Outcome.next (analogEvent_of_on hon _), ?_⟩,
    fun s n f code off hon h1 h2 => ⟨_, congrArg Host.Outcome.next (analogEvent_of_on hon _), ?_⟩,
    fun s n f setting hon hst hok hseq => ⟨_, congrArg Host.Outcome.next (analogEvent_of_on hon _), ?_⟩,
    fun s n f setting hon hst hgov hok hset hseq hev => ⟨_, congrArg Host.Outcome.next (analogEvent_of_on hon _), ?_⟩,
    fun s n f setting hon hst hgov hok => ⟨_, congrArg Host.Outcome.next (analogEvent_of_on hon _), ?_⟩,
    fun s n f hon hst hgov hseq hev => ⟨_, congrArg Host.Outcome.next (analogEvent_of_on hon _), ?_⟩,
    fun s n f q v hq hgoal hv hend hdef => ⟨_, rfl, ?_⟩, fun s n f q hq hgoal hend => ⟨_, rfl, ?_⟩⟩
  · rw [ffCode_of_active hst hgov, ffSetCode]
    simp only [ffCh_ffRefresh, ffCh_modFf, true_and]
    exact ((seqFrame.refl _ n s).modFf f _).ffRefresh fun _ h => h
  · obtain ⟨hcount, hflag, hframe⟩ := count_flagged s n f (r := .FF_DEFER) (x := F.FF_STATUS_DEFERRED) (by decide) (by decide) rfl
    rw [ffCode_of_changing hst]
    refine ⟨by rw [ffCh_updFf], by rw [ffCh_updFf, ffCh_setFlag, ffCh_count], ?_, ?_, ?_⟩
    · rw [updFf, rd_ffRefresh _ _ _ (by decide), rd_modFf, hcount]
    · rw [State.flag, fld_updFf _ _ _ _ (by decide)]
      exact hflag
    · exact (hframe.mono (by simp)).updFf _ (by simp)
  · obtain ⟨hcount, hflag, hframe⟩ := count_flagged s n f (r := .FF_DISCARD) (x := F.FF_STATUS_DISCARD) (by decide) (by decide) rfl
    rw [ffCode_of_other h1 h2]
    exact ⟨rfl, hcount, hflag, hframe⟩
  · have hv : setting.toNat < 8 := setting.isLt
    obtain ⟨hnew, hcode, hset, hframe⟩ := ffBegin_setting s n f hv
    rw [ffSpan_of_hiz hst hok hseq]
    simp only [ffCh_updFf, true_and]
    exact ⟨hnew, hcode, by rw [fld_updFf _ _ _ _ (by decide), hset], (hframe.mono (by simp)).updFf _ (by simp)⟩
  · obtain ⟨hnew, hframe⟩ := ffBegin_ramp s n f (.setting setting.toNat)
    rw [ffSpan_of_active hst hgov hok hset hev]
    simp only [ffCh_updFf, true_and]
    exact ⟨hnew, (hframe.mono (by simp)).updFf _ fun _ h => h⟩
  · obtain ⟨hcount, hflag, hframe⟩ := count_flagged s n f (r := .FF_REFUSED) (x := F.FF_STATUS_REFUSED) (by decide) (by decide) rfl
    rw [ffSpan_of_not_allowed hst hgov hok]
    exact ⟨rfl, hcount, hflag, hframe⟩
  · obtain ⟨hnew, hframe⟩ := ffBegin_ramp s n f .hiz
    rw [ffHiz_of_active hst hgov hseq hev]
    simp only [ffCh_updFf, true_and]
    exact ⟨hnew, (hframe.mono (by simp)).updFf _ fun _ h => h⟩
  · obtain ⟨hset, hdefers, hframe⟩ := ffAdvance_of_ended_setting hq hgoal hv hend
    rw [ffSequenceEnd_of_setting hq hgoal hend (hdefers.trans hdef)]
    simp only [ffCh_updFf, true_and]
    exact ⟨by rw [fld_updFf _ _ _ _ (by decide), hset], (hframe.mono (by simp)).updFf _ (by simp)⟩
  · rw [ffSequenceEnd_of_hiz hq hgoal hend]
    simp only [ffCh_updFf, true_and]
    exact (seqFrame.refl _ n s).updFf _ fun _ h => h

end Sys2Proof.Machine

namespace Sys2Proof.Machine

/-! ## The calibration of the measure converter and the reads of its queue (R380 to R386)

The measure converter stands in the slice beside its registers. -/

section
variable {s t : State} {n : Fin 16} {l : List Part}

/-! ### The converter after a change -/

@[simp] theorem mad_modMad (s : State) (n : Fin 16) (f : MeasureAdc → MeasureAdc) : ((modMad s n f).sl n).mad = f (s.sl n).mad := by
  simp [modMad]

@[simp] theorem madInvalid_modMad (s : State) (n : Fin 16) (f : MeasureAdc → MeasureAdc) (input : Nat) :
    madInvalid (modMad s n f) n input = madInvalid s n input := rfl

@[simp] theorem sl_askAdmission (s : State) (n : Fin 16) (cls index : Nat) : (s.askAdmission cls index).sl n = s.sl n := by
  rw [State.sl, State.askAdmission_slices, State.sl]

@[simp] theorem sl_releaseAdmission (s : State) (n : Fin 16) (cls index : Nat) : (s.releaseAdmission cls index).sl n = s.sl n := rfl

theorem seqFrame.modMad (h : seqFrame l n s t) (f : MeasureAdc → MeasureAdc) : seqFrame l n s (modMad t n f) := h.modSl _

theorem madState_setMadState {v : Nat} (hv : v < 8) (s : State) (n : Fin 16) : madState (setMadState s n v) n = v :=
  (State.fld_setFld_same s F.MAD_STATUS_STATE v n 0 0 0 (by decide)).trans (Nat.mod_eq_of_lt hv)

/-- A calibration asked for while the converter is not IDLE, or while a request is pending, finds it busy. -/
theorem not_free_of_busy (h : madState s n ≠ 0 ∨ s.flag F.MAD_STATUS_PEND n = true) :
    ¬(madState s n = 0 ∧ ¬s.flag F.MAD_STATUS_PEND n = true) :=
  fun ⟨hidle, hpend⟩ => h.elim (· hidle) hpend

/-! ### The activity that follows (R372) -/

/-- After an activity the converter stays drained, starts the pending sequence, or takes the state that its rank 1 and 2 activities give it. -/
theorem madNext_cases {P : State → Prop} (at_ : Nat) (drained : P s)
    (starts : ∀ q, P (madStart (s.setFlag F.MAD_STATUS_PEND false n) n q at_)) (rests : ∀ v, P (setMadState s n v)) : P (madNext s n at_) := by
  unfold madNext
  split
  · exact drained
  · split
    · exact starts _
    · exact rests _

/-- What follows shows in STATE, PEND and RUN_SEQ of MAD_STATUS. -/
theorem seqFrame.madNext (h : seqFrame l n s t) (hstate : holdsFld l F.MAD_STATUS_STATE n 0 0 0) (hpend : holdsFld l F.MAD_STATUS_PEND n 0 0 0)
    (hrun : holdsFld l F.MAD_STATUS_RUN_SEQ n 0 0 0) (at_ : Nat) : seqFrame l n s (madNext t n at_) :=
  madNext_cases at_ h (fun q => ((((h.setFlag _ _ hpend).setFld _ _ hstate).setFld _ q hrun).modMad _).modMad _) fun v => h.setFld _ v hstate

/-- The fields of MAD_STATUS that show the running and the pending sequence. -/
abbrev madNextParts (n : Fin 16) : List Part := [F.MAD_STATUS_STATE.part [n], F.MAD_STATUS_PEND.part [n], F.MAD_STATUS_RUN_SEQ.part [n]]

theorem seqFrame_madNext (s : State) (n : Fin 16) (at_ : Nat) : seqFrame (madNextParts n) n s (madNext s n at_) :=
  seqFrame.madNext (.refl _ n s) (.of_mem_index_below (.head _)) (.of_mem_index_below (.tail _ (.head _)))
    (.of_mem_index_below (.tail _ (.tail _ (.head _)))) at_

/-- A sequence that starts changes the run and the slot of the converter, and nothing else in it. -/
theorem mad_madNext (s : State) (n : Fin 16) (at_ : Nat) :
    ∃ run slot bad, ((madNext s n at_).sl n).mad = { (s.sl n).mad with run := run, slot := slot, sampleInvalid := bad } :=
  madNext_cases (P := fun t => ∃ run slot bad, (t.sl n).mad = { (s.sl n).mad with run := run, slot := slot, sampleInvalid := bad }) at_
    ⟨_, _, _, rfl⟩ (fun q => ⟨_, _, _, by rw [madStart, madStartSlot, mad_modMad, mad_modMad]; rfl⟩) fun _ => ⟨_, _, _, rfl⟩

theorem pwr_madNext (s : State) (n : Fin 16) (at_ : Nat) : (madNext s n at_).pwr = s.pwr :=
  madNext_cases (P := fun t => t.pwr = s.pwr) at_ rfl (fun _ => rfl) fun _ => rfl

theorem rd_madNext (s : State) (n : Fin 16) (at_ : Nat) {r : Reg} (hr : r ≠ .MAD_STATUS) (i j : Nat) :
    (madNext s n at_).rd r i j = s.rd r i j :=
  (seqFrame_madNext s n at_).1.rd_eq (by simpa [Field.part, F.MAD_STATUS_STATE, F.MAD_STATUS_PEND, F.MAD_STATUS_RUN_SEQ] using hr.symm) i j 0 0

theorem fld_madNext (s : State) (n : Fin 16) (at_ : Nat) {f : Field} (hf : f.reg ≠ .MAD_STATUS) (i : Nat) :
    (madNext s n at_).fld f i = s.fld f i := by
  rw [State.fld, rd_madNext s n at_ hf, State.fld]

/-- Fields that show neither the running nor the pending sequence stay. -/
theorem flag_madNext (s : State) (n : Fin 16) (at_ : Nat) {f : Field} (hf : 12 ≤ f.lo) : (madNext s n at_).flag f n = s.flag f n := by
  refine congrArg (· == 1) ((seqFrame_madNext s n at_).1.fld_eq f n 0 0 0 fun b hb _ => ?_)
  have h3 : ¬b < 3 := by omega
  have h4 : ¬b < 4 := by omega
  have h12 : ¬b < 12 := by omega
  simp [Part.covers, Field.part, F.MAD_STATUS_STATE, F.MAD_STATUS_PEND, F.MAD_STATUS_RUN_SEQ, h3, h4, h12]

/-! ### The converter factors (R382, R384) -/

/-- Factors are written to MAD_SCF, in order from index 0. -/
def putFactors (s : State) (n : Fin 16) (ws : List Word) : State := ws.zipIdx.foldl (fun s p => s.wr .MAD_SCF p.1 n p.2) s

theorem foldl_wr_factors {α : Type} (s : State) (n : Fin 16) (g : α → Word) (xs : List α) :
    xs.zipIdx.foldl (fun s p => s.wr .MAD_SCF (g p.1) n p.2) s = putFactors s n (xs.map g) := by
  rw [putFactors, List.zipIdx_map, List.foldl_map]
  rfl

/-- Words written at consecutive indices from `k`: below `k` the register stays, from there it reads as written. -/
theorem rd_foldl_wr_zipIdx (n : Fin 16) (ws : List Word) (s : State) (k i : Nat) :
    ((ws.zipIdx k).foldl (fun s p => s.wr .MAD_SCF p.1 n p.2) s).rd .MAD_SCF n i =
      if i < k then s.rd .MAD_SCF n i else (ws[i - k]?).getD (s.rd .MAD_SCF n i) := by
  induction ws generalizing s k with
  | nil => simp
  | cons w ws ih =>
    rw [List.zipIdx_cons, List.foldl_cons, ih]
    rcases Nat.lt_trichotomy i k with hlt | rfl | hgt
    · rw [if_pos (Nat.lt_succ_of_lt hlt), if_pos hlt, State.rd_wr_index _ _ (by omega)]
    · simp
    · obtain ⟨d, rfl⟩ := Nat.exists_eq_add_of_lt hgt
      rw [if_neg (by omega), if_neg (by omega), State.rd_wr_index _ _ (by omega), show k + d + 1 - (k + 1) = d by omega,
        show k + d + 1 - k = d + 1 by omega, List.getElem?_cons_succ]

theorem rd_putFactors (s : State) (n : Fin 16) {ws : List Word} {i : Nat} (hi : i < ws.length) :
    (putFactors s n ws).rd .MAD_SCF n i = ws[i] := by
  rw [putFactors, rd_foldl_wr_zipIdx]
  simp [hi]

theorem seqFrame.putFactors (h : seqFrame l n s t) (hl : { reg := .MAD_SCF, idx := [n.val] } ∈ l) (ws : List Word) :
    seqFrame l n s (putFactors t n ws) := by
  have hreg : ∀ i, holdsReg l .MAD_SCF n i 0 0 := fun i =>
    ⟨{ reg := .MAD_SCF, idx := [n.val] }, hl, rfl, by simp [List.isPrefixOf], rfl, Nat.le_refl _⟩
  unfold Machine.putFactors
  refine h.foldl _ (fun _ x ht => ?_) _
  exact seqFrame.wr ht .MAD_SCF x.1 (hreg x.2)

theorem slices_putFactors (s : State) (n : Fin 16) (ws : List Word) : (putFactors s n ws).slices = s.slices :=
  List.foldlRecOn (motive := fun t : State => t.slices = s.slices) ws.zipIdx _ rfl fun _ ht _ _ => ht

theorem mad_putFactors (s : State) (n : Fin 16) (ws : List Word) : ((putFactors s n ws).sl n).mad = (s.sl n).mad := by
  rw [State.sl, slices_putFactors, State.sl]

theorem pwr_putFactors (s : State) (n : Fin 16) (ws : List Word) : (putFactors s n ws).pwr = s.pwr :=
  List.foldlRecOn (motive := fun t : State => t.pwr = s.pwr) ws.zipIdx _ rfl fun _ ht _ _ => ht

/-- The word of a factor shows the factor's pattern. -/
theorem bitsAt_factor (x : Int) : bitsAt (BitVec.ofNat 32 (pat 18 x)).toNat 0 18 = pat 18 x := by
  rw [bitsAt_eq, BitVec.toNat_ofNat, pat]
  omega

/-! ### Self-calibration (R382, R383) -/

/-- An accepted SELFCAL: the converter is busy with calibration, and waits for its grant. -/
theorem selfcal_accepted (hgrant : s.admissionGranted 3 n = false) :
    let t := (setMadState (modMad s n fun m => { m with selfcal := true, selfcalStart := none }) n 3).askAdmission 3 n
    madState t n = 3 ∧ (t.sl n).mad.selfcal = true ∧ t.admissionPending 3 n = true ∧
      seqFrame [F.MAD_STATUS_STATE.part [n], F.PWR_QSTATUS_PEAK.part []] n s t := by
  have hask : ∀ t : State, sameRegs [F.PWR_QSTATUS_PEAK.part []] t (t.askAdmission 3 n) := fun t =>
    (sameRegs.refl _ t).askAdmission 3 n (.of_mem (.head _) 0 0 0 0)
  refine ⟨?_, ?_, admissionPending_askAdmission hgrant, ?_⟩
  · rw [madState, (hask _).fld_of_reg (by simp [Field.part, F.MAD_STATUS_STATE, F.PWR_QSTATUS_PEAK])]
    exact madState_setMadState (by decide) _ n
  · rw [sl_askAdmission, setMadState, State.sl_setFld, mad_modMad]
  · exact (((seqFrame.refl _ n s).modMad _).setFld _ _ (.of_mem_index_below (.head _))).askAdmission _ _ (.tail _ (.head _))

/-- The words that ten factors put in MAD_SCF. -/
def factorWords (factors : List Int) : List Word := factors.map fun x => BitVec.ofNat 32 (pat 18 x)

/-- A self-calibration that has ended with sound factors, before the next activity starts. -/
def selfcalEnded (s : State) (n : Fin 16) (factors : List Int) : State :=
  (putFactors ((modMad s n fun m => { m with selfcal := false, selfcalStart := none }).releaseAdmission 3 n) n (factorWords factors)).setFlag
    F.MAD_STATUS_SELFCAL_DONE true n

theorem madSelfcalEnd_of_sound {factors : List Int} {k : Nat} (hstart : (s.sl n).mad.selfcalStart = some k) (hdue : k + 800000 ≤ s.now)
    (hlen : factors.length = 10) (hfit : factors.all factorFits = true) :
    madSelfcalEnd s n factors = madNext (selfcalEnded s n factors) n (selfcalEnded s n factors).now := by
  rw [madSelfcalEnd, hstart, selfcalEnded, factorWords, ← foldl_wr_factors]
  simp only [if_pos hdue, if_pos (And.intro hlen hfit)]

theorem selfcalEnded_shows (s : State) (n : Fin 16) {factors : List Int} (hlen : factors.length = 10) :
    (∀ i : Fin 10, bitsAt ((selfcalEnded s n factors).rd .MAD_SCF n i).toNat 0 18 = pat 18 (factors.getD i 0)) ∧
      ((selfcalEnded s n factors).sl n).mad.selfcal = false ∧ (selfcalEnded s n factors).admissionGranted 3 n = false ∧
      seqFrame [{ reg := .MAD_SCF, idx := [n] }, { reg := .MAD_STATUS, idx := [n] }] n s (selfcalEnded s n factors) := by
  refine ⟨fun i => ?_, ?_, ?_, ?_⟩
  · have hi : i.val < factors.length := i.isLt.trans_eq hlen.symm
    rw [selfcalEnded, State.setFlag, State.rd_setFld_reg _ _ _ _ _ _ _ _ _ _ _ _ (by decide), rd_putFactors (hi := by simpa [factorWords] using hi)]
    simp only [factorWords, List.getElem_map, bitsAt_factor, List.getD_eq_getElem _ _ hi]
  · rw [selfcalEnded, State.sl_setFlag, mad_putFactors, sl_releaseAdmission, mad_modMad]
  · rw [State.admissionGranted, selfcalEnded, State.setFlag_pwr, pwr_putFactors]
    exact admissionGranted_releaseAdmission _ 3 n
  · exact ((((seqFrame.refl _ n s).modMad _).releaseAdmission 3 n).putFactors (.head _) _).setFlag _ _
      (.of_mem_reg (.tail _ (.head _)) (by decide))

/-! ### System calibration (R386, R387) -/

/-- A system calibration that runs. -/
def syscalStarted (s : State) (n : Fin 16) (input set : Nat) (full : Bool) : State :=
  let s := modMad s n fun m =>
    { m with syscal := some { start := s.now, input := input, set := set, full := full }
             zero := if full ∨ (m.zero.map Prod.fst) = some set then m.zero else none }
  ((setMadState s n 3).setFld F.MAD_SCAL_STATUS_STATE 2 n).setFld F.MAD_SCAL_STATUS_SET set n

theorem madSyscal_of_zero (hidle : madState s n = 0) (hpend : s.flag F.MAD_STATUS_PEND n = false) (hpoint : s.flag F.MAD_SCAL_CTRL_POINT n = false) :
    madSyscal s n = syscalStarted s n (s.fld F.MAD_SCAL_CTRL_INPUT n)
      (madSet s n (s.fld F.MAD_SCAL_CTRL_INPUT n) (s.fld F.MAD_SCAL_CTRL_RANGE n)) (s.flag F.MAD_SCAL_CTRL_POINT n) :=
  (if_neg (not_not_intro ⟨hidle, by simp [hpend]⟩)).trans (if_neg (by simp [hpoint]))

theorem syscalStarted_shows (s : State) (n : Fin 16) (input set : Nat) (full : Bool) :
    let t := syscalStarted s n input set full
    madState t n = 3 ∧ t.fld F.MAD_SCAL_STATUS_STATE n = 2 ∧ (t.sl n).mad.syscal.map MadSysCal.start = some s.now ∧
      seqFrame [F.MAD_STATUS_STATE.part [n], F.MAD_SCAL_STATUS_STATE.part [n], F.MAD_SCAL_STATUS_SET.part [n]] n s t := by
  refine ⟨?_, ?_, ?_, ?_⟩
  · rw [syscalStarted, madState, State.fld_setFld_reg _ _ _ _ _ _ _ _ _ _ _ _ (by decide),
      State.fld_setFld_reg _ _ _ _ _ _ _ _ _ _ _ _ (by decide)]
    exact madState_setMadState (by decide) _ n
  · rw [syscalStarted, State.fld_setFld_bits _ _ _ _ _ _ _ _ _ _ _ _ (by decide) (by decide),
      State.fld_setFld_same _ _ _ _ _ _ _ (by decide)]
    rfl
  · rw [syscalStarted, State.sl_setFld, State.sl_setFld, setMadState, State.sl_setFld, mad_modMad]
    rfl
  · exact ((((seqFrame.refl _ n s).modMad _).setFld _ _ (.of_mem_index_below (.head _))).setFld _ _
      (.of_mem_index_below (.tail _ (.head _)))).setFld _ _ (.of_mem_index_below (.tail _ (.tail _ (.head _))))

/-- The mean of the corrected codes of a run (R386). -/
def syscalMean (s : State) (n : Fin 16) (raws : List Int) : Int := roundDiv (raws.map (Config.madCorrect (madFactors s n))).sum 64

/-- A zero point that has ended without error, before the next activity starts. -/
def zeroStaged (s : State) (n : Fin 16) (set : Nat) (z : Int) : State :=
  madSyscalError (modMad (modMad s n fun m => { m with syscal := none }) n fun m => { m with zero := some (set, z) }) n 0

theorem madSyscalEnd_of_zero {raws : List Int} {c : MadSysCal} (hrun : (s.sl n).mad.syscal = some c) (hdue : c.start + 8000 ≤ s.now)
    (hlen : raws.length = 64) (hfull : c.full = false) (hvalid : madInvalid s n c.input = false) :
    madSyscalEnd s n raws false = madNext (zeroStaged s n c.set (syscalMean s n raws)) n s.now := by
  rw [madSyscalEnd, hrun]
  simp only [if_pos (And.intro hdue hlen), madInvalid_modMad, hvalid, hfull, Bool.or_false, Bool.false_eq_true, if_false]
  rfl

/-- MAD_SCAL_STATUS reads the error code, and ZERO_STAGED where a zero is staged. -/
theorem madSyscalError_shows {err : Nat} (herr : err < 8) (hz : (s.sl n).mad.zero.isSome = true) :
    (madSyscalError s n err).fld F.MAD_SCAL_STATUS_ERR n = err ∧ (madSyscalError s n err).fld F.MAD_SCAL_STATUS_STATE n = 1 := by
  rw [madSyscalError, if_pos hz]
  refine ⟨?_, State.fld_setFld_same _ _ _ _ _ _ _ (by decide)⟩
  rw [State.fld_setFld_bits _ _ _ _ _ _ _ _ _ _ _ _ (by decide) (by decide), State.fld_setFld_same _ _ _ _ _ _ _ (by decide)]
  exact Nat.mod_eq_of_lt herr

theorem mad_zeroStaged (s : State) (n : Fin 16) (set : Nat) (z : Int) :
    ((zeroStaged s n set z).sl n).mad = { (s.sl n).mad with syscal := none, zero := some (set, z) } := by
  rw [zeroStaged, madSyscalError, State.sl_setFld, State.sl_setFld, mad_modMad, mad_modMad]

theorem zeroStaged_shows (s : State) (n : Fin 16) (set : Nat) (z : Int) :
    (zeroStaged s n set z).fld F.MAD_SCAL_STATUS_ERR n = 0 ∧ (zeroStaged s n set z).fld F.MAD_SCAL_STATUS_STATE n = 1 :=
  madSyscalError_shows (by decide) (by rw [mad_modMad, Option.isSome_some])

theorem seqFrame_zeroStaged (s : State) (n : Fin 16) (set : Nat) (z : Int) :
    seqFrame [F.MAD_SCAL_STATUS_ERR.part [n], F.MAD_SCAL_STATUS_STATE.part [n]] n s (zeroStaged s n set z) :=
  ((((seqFrame.refl _ n s).modMad _).modMad _).setFld _ _ (.of_mem_index_below (.head _))).setFld _ _
    (.of_mem_index_below (.tail _ (.head _)))

/-! ### APPLYF (R384) -/

theorem madFactorApply_of_free (hpend : (s.sl n).mad.applyPending = true) (hslot : (s.sl n).mad.slot = none)
    (hself : (s.sl n).mad.selfcalStart = none) (hsys : (s.sl n).mad.syscal = none) (hheld : madHeld s n = false) :
    madFactorApply s n = putFactors (modMad s n fun m => { m with applyPending := false, applyfAt := some s.now }) n
      ((s.sl n).mad.shadow.toList.map (BitVec.setWidth 32)) := by
  rw [← foldl_wr_factors]
  exact if_pos (by simp [hpend, hslot, hself, hsys, hheld])

/-! ### The reads of the queue (R380) -/

/-- A read gives a word, and changes the converter. -/
def madReadOut (s : State) (n : Fin 16) (f : MeasureAdc → MeasureAdc) (v : Word) : State := { modMad s n f with readValue := v }

@[simp] theorem mad_madReadOut (s : State) (n : Fin 16) (f : MeasureAdc → MeasureAdc) (v : Word) :
    ((madReadOut s n f v).sl n).mad = f (s.sl n).mad := mad_modMad s n f

theorem seqFrame_madReadOut (l : List Part) (s : State) (n : Fin 16) (f : MeasureAdc → MeasureAdc) (v : Word) :
    seqFrame l n s (madReadOut s n f v) := by
  have hmod : seqFrame l n s (modMad s n f) := (seqFrame.refl l n s).modMad f
  exact hmod.of_eq rfl rfl rfl

theorem madReadLo_of_entry {e : BitVec 64} {q : List (BitVec 64)} (hq : (s.sl n).mad.queue = e :: q) :
    madReadLo s n = madReadOut s n (fun m => { m with captured := some (BitVec.ofNat 32 (e.toNat / 2 ^ 32), false) }) (e.setWidth 32) := by
  rw [madReadLo, hq, madReadOut]

theorem madReadLo_of_empty (hq : (s.sl n).mad.queue = []) :
    madReadLo s n = madReadOut s n (fun m => { m with captured := some (0, true) }) 0 := by
  rw [madReadLo, hq, madReadOut]

theorem madReadHi_of_none (hc : (s.sl n).mad.captured = none) : madReadHi s n = { s with readValue := 0 } := by
  rw [madReadHi, hc]

/-- The entry whose low word was read leaves. -/
theorem madReadHi_of_entry {v : Word} (hc : (s.sl n).mad.captured = some (v, false)) :
    madReadHi s n = madReadOut s n (fun m => { m with captured := none, queue := m.queue.drop 1 }) v := by
  rw [madReadHi, hc]
  rfl

/-- Nothing leaves where the read of the low word found the queue empty. -/
theorem madReadHi_of_empty {v : Word} (hc : (s.sl n).mad.captured = some (v, true)) :
    madReadHi s n = (madReadOut s n (fun m => { m with captured := none }) v).setFlag F.MAD_STATUS_RD_EMPTY true n := by
  rw [madReadHi, hc]
  rfl

end

/-- Settles O34: each command by the state it leaves; what follows a calibration that ends (`madNext`) changes only the running and the
pending sequence (`mad_madNext`, `seqFrame_madNext`). -/
theorem measureCalibration : Obligations.MeasureCalibration := by
  unfold Obligations.MeasureCalibration
  refine ⟨fun s n hon hidle hpend hgrant => ⟨_, congrArg Host.Outcome.next ((analogDo_of_on hon _).trans (if_pos ⟨hidle, by simp [hpend]⟩)), ?_⟩,
    fun s n hon hbusy => ⟨_, congrArg Host.Outcome.next ((analogDo_of_on hon _).trans (if_neg (not_free_of_busy hbusy))), ?_⟩,
    fun s n factors k hstart hdue hlen hfit => ⟨_, congrArg Host.Outcome.next (madSelfcalEnd_of_sound hstart hdue hlen hfit), ?_⟩,
    fun s n hon hidle hpend hpoint => ⟨_, congrArg Host.Outcome.next ((analogDo_of_on hon _).trans (madSyscal_of_zero hidle hpend hpoint)), ?_⟩,
    fun s n hon hbusy => ⟨_, congrArg Host.Outcome.next ((analogDo_of_on hon _).trans (if_pos (not_free_of_busy hbusy))), ?_⟩,
    fun s n raws c hrun hdue hlen hfull hvalid =>
      ⟨_, congrArg Host.Outcome.next (madSyscalEnd_of_zero hrun hdue ((List.length_map ..).trans hlen) hfull hvalid), ?_⟩,
    fun s n => ⟨_, rfl, ?_⟩,
    fun s n hpend hslot hself hsys hheld => ⟨_, congrArg Host.Outcome.next (madFactorApply_of_free hpend hslot hself hsys hheld), ?_⟩,
    fun s n e q hq => ⟨_, congrArg Host.Outcome.next (madReadLo_of_entry hq), ?_⟩,
    fun s n hq => ⟨_, congrArg Host.Outcome.next (madReadLo_of_empty hq), ?_⟩,
    fun s n v hc => ⟨_, congrArg Host.Outcome.next (madReadHi_of_entry hc), ?_⟩,
    fun s n hc => ⟨_, congrArg Host.Outcome.next (madReadHi_of_none hc), ?_⟩,
    fun s n v hc => ⟨_, congrArg Host.Outcome.next (madReadHi_of_empty hc), ?_⟩⟩
  · exact selfcal_accepted hgrant
  · exact ⟨State.flag_setFlag_same _ _ _ _ _ _ _ (by decide) rfl, rfl, (seqFrame.refl _ n s).setFlag _ _ (.of_mem_index_below (.head _))⟩
  · obtain ⟨hscf, hself, hgrant, hframe⟩ := selfcalEnded_shows s n hlen
    obtain ⟨run, slot, bad, hmad⟩ := mad_madNext (selfcalEnded s n factors) n (selfcalEnded s n factors).now
    refine ⟨fun i => ?_, ?_, ?_, ?_, ?_⟩
    · rw [rd_madNext _ _ _ (by decide), hscf]
    · rw [flag_madNext _ _ _ (by decide)]
      exact State.flag_setFlag_same _ _ _ _ _ _ _ (by decide) rfl
    · rw [hmad, hself]
    · rw [State.admissionGranted, pwr_madNext]
      exact hgrant
    · exact hframe.madNext (.of_mem_reg (.tail _ (.head _)) (by decide)) (.of_mem_reg (.tail _ (.head _)) (by decide))
        (.of_mem_reg (.tail _ (.head _)) (by decide)) _
  · exact syscalStarted_shows s n _ _ _
  · exact ⟨State.fld_setFld_same _ _ _ _ _ _ _ (by decide), rfl, (seqFrame.refl _ n s).setFld _ _ (.of_mem_index_below (.head _))⟩
  · obtain ⟨run, slot, bad, hmad⟩ := mad_madNext (zeroStaged s n c.set (syscalMean s n (raws.map BitVec.toInt))) n s.now
    obtain ⟨herr, hstate⟩ := zeroStaged_shows s n c.set (syscalMean s n (raws.map BitVec.toInt))
    rw [hmad, mad_zeroStaged, fld_madNext _ _ _ (by decide), fld_madNext _ _ _ (by decide)]
    exact ⟨rfl, herr, hstate, rfl, ((seqFrame_zeroStaged ..).mono (by simp)).trans ((seqFrame_madNext ..).mono (by simp))⟩
  · exact ⟨congrArg MeasureAdc.applyPending (mad_modMad s n _), (seqFrame.refl _ n s).modMad _⟩
  · refine ⟨fun i => ?_, ?_, ((seqFrame.refl _ n s).modMad _).putFactors (.head _) _⟩
    · rw [rd_putFactors (hi := by simp)]
      simp [Vector.get_eq_getElem]
    · rw [mad_putFactors, mad_modMad]
  · simp only [mad_madReadOut]
    exact ⟨rfl, trivial, hq, seqFrame_madReadOut ..⟩
  · exact ⟨rfl, seqFrame_madReadOut ..⟩
  · simp only [mad_madReadOut]
    exact ⟨rfl, trivial, trivial, seqFrame_madReadOut ..⟩
  · exact ⟨rfl, rfl, (seqFrame.refl _ n s).of_eq rfl rfl rfl⟩
  · simp only [State.sl_setFlag, mad_madReadOut]
    exact ⟨rfl, trivial, State.flag_setFlag_same _ _ _ _ _ _ _ (by decide) rfl,
      (seqFrame_madReadOut ..).setFlag _ _ (.of_mem_index_below (.head _))⟩

end Sys2Proof.Machine

namespace Sys2Proof.Machine

/-! ## The time-to-digital channels (R393 to R414)

A channel stands in the slice beside its registers; the results on their way and the queue are the slice's. -/

section
variable {s t u : State} {n : Fin 16} {c : Fin 8} {l : List Part}

/-! ### A channel after a change -/

@[simp] theorem tdcCh_modTdc (s : State) (n : Fin 16) (c : Fin 8) (f : TdcChannel → TdcChannel) :
    tdcCh (modTdc s n c f) n c = f (tdcCh s n c) := by
  simp [tdcCh, modTdc, Vector.get_eq_getElem]

@[simp] theorem tdcCh_setFld (s : State) (n : Fin 16) (c : Fin 8) (f : Field) (v i j k m : Nat) :
    tdcCh (s.setFld f v i j k m) n c = tdcCh s n c := rfl

theorem tdcCh_setFlag (s : State) (n : Fin 16) (c : Fin 8) (f : Field) (b : Bool) (i j k m : Nat) :
    tdcCh (s.setFlag f b i j k m) n c = tdcCh s n c := rfl

theorem tdcCh_count (s : State) (n : Fin 16) (c : Fin 8) (r : Reg) (i j k m : Nat) : tdcCh (s.count r i j k m) n c = tdcCh s n c := rfl

@[simp] theorem tdcCh_setTdcState (s : State) (n : Fin 16) (c : Fin 8) (v : Nat) : tdcCh (setTdcState s n c v) n c = tdcCh s n c := rfl

@[simp] theorem waiting_modTdc (s : State) (n : Fin 16) (c : Fin 8) (f : TdcChannel → TdcChannel) :
    ((modTdc s n c f).sl n).tdc.waiting = (s.sl n).tdc.waiting := by
  simp [modTdc]

@[simp] theorem queue_modTdc (s : State) (n : Fin 16) (c : Fin 8) (f : TdcChannel → TdcChannel) :
    ((modTdc s n c f).sl n).tdc.queue = (s.sl n).tdc.queue := by
  simp [modTdc]

theorem tdcState_setTdcState {v : Nat} (hv : v < 8) (s : State) (n : Fin 16) (c : Fin 8) : tdcState (setTdcState s n c v) n c = v :=
  (State.fld_setFld_same s F.TDC_STATUS_STATE v n c 0 0 (by decide)).trans (Nat.mod_eq_of_lt hv)

theorem seqFrame.modTdc (h : seqFrame l n s t) (c : Fin 8) (f : TdcChannel → TdcChannel) : seqFrame l n s (modTdc t n c f) := h.modSl _

theorem seqFrame.setTdcState (h : seqFrame l n s t) (hl : F.TDC_STATUS_STATE.part [n, c] ∈ l) (v : Nat) :
    seqFrame l n s (setTdcState t n c v) := h.setFld _ v (.of_mem_index2 hl)

/-! ### ARM, DISARM and GATE (R400, R401, R407, R414) -/

/-- A channel that an ARM has taken with set-up `k`. -/
def tdcArmed (s : State) (n : Fin 16) (c : Fin 8) (k : Nat) : State :=
  setTdcState (modTdc s n c fun x => { TdcChannel.initial with
    setup := s.rd .TDC_SETUP n c k, armTick := s.now, armBeat := s.beat, from_ := beatLsb s.now, spoilt := x.spoilt }) n c 1

/-- The results that an ARM with a set-up leaves to come: none are counted in a continuous one. -/
def TdcSetup.left (x : TdcSetup) : Nat := if x.cont then 0 else x.reps

theorem TdcSetup.left_ofWord_lt (w : Word) : (TdcSetup.ofWord w).left < 2 ^ 8 := by
  unfold TdcSetup.left
  split
  · decide
  · exact bitsAt_lt w.toNat 20 8

theorem tdcArm_of_idle {k : Nat} (hidle : tdcState s n c = 0) (hen : s.flag F.TDC_CFG_EN n c = true)
    (hok : (TdcSetup.ofWord (s.rd .TDC_SETUP n c k)).ok = true) :
    tdcArm s n c k = ((tdcArmed s n c k).setFld F.TDC_STATUS_SETUP k n c).setFld F.TDC_STATUS_LEFT
      (TdcSetup.ofWord (s.rd .TDC_SETUP n c k)).left n c := by
  simp [tdcArm, hidle, hen, hok, tdcArmed, TdcSetup.left]

theorem tdcArm_of_busy (h : tdcState s n c ≠ 0) (k : Nat) :
    tdcArm s n c k = (s.count .TDC_IGNORED n c).setFlag F.TDC_STATUS_ARM_IGN true n c := if_pos h

theorem tdcArm_of_unsound {k : Nat} (hidle : tdcState s n c = 0)
    (h : s.flag F.TDC_CFG_EN n c = false ∨ (TdcSetup.ofWord (s.rd .TDC_SETUP n c k)).ok = false) : tdcArm s n c k = tdcCfgErr s n c := by
  rw [tdcArm, if_neg (not_not.2 hidle)]
  exact if_pos (h.imp (fun hen => by rw [hen]; rfl) fun hok => by rw [hok]; rfl)

theorem tdcArmed_shows (s : State) (n : Fin 16) (c : Fin 8) (k : Fin 4) {v : Nat} (hv : v < 2 ^ 8) :
    let t := ((tdcArmed s n c k).setFld F.TDC_STATUS_SETUP k n c).setFld F.TDC_STATUS_LEFT v n c
    tdcState t n c = 1 ∧ t.fld F.TDC_STATUS_SETUP n c = k ∧ (tdcCh t n c).setup = s.rd .TDC_SETUP n c k ∧
      (tdcCh t n c).from_ = beatLsb s.now ∧ t.fld F.TDC_STATUS_LEFT n c = v ∧
      seqFrame [F.TDC_STATUS_STATE.part [n, c], F.TDC_STATUS_LEFT.part [n, c], F.TDC_STATUS_SETUP.part [n, c]] n s t := by
  intro t
  have hch : tdcCh t n c = { TdcChannel.initial with
      setup := s.rd .TDC_SETUP n c k, armTick := s.now, armBeat := s.beat, from_ := beatLsb s.now, spoilt := (tdcCh s n c).spoilt } := by
    simp [t, tdcArmed]
  refine ⟨?_, ?_, by rw [hch], by rw [hch], ?_, ?_⟩
  · rw [tdcState, State.fld_setFld_bits _ _ _ _ _ _ _ _ _ _ _ _ (by decide) (by decide),
      State.fld_setFld_bits _ _ _ _ _ _ _ _ _ _ _ _ (by decide) (by decide)]
    exact tdcState_setTdcState (by decide) _ n c
  · rw [State.fld_setFld_bits _ _ _ _ _ _ _ _ _ _ _ _ (by decide) (by decide), State.fld_setFld_same _ _ _ _ _ _ _ (by decide)]
    exact Nat.mod_eq_of_lt k.isLt
  · exact (State.fld_setFld_same _ _ _ _ _ _ _ (by decide)).trans (Nat.mod_eq_of_lt hv)
  · exact ((((seqFrame.refl _ n s).modTdc c _).setTdcState (.head _) 1).setFld _ _ (.of_mem_index2 (.tail _ (.tail _ (.head _))))).setFld _ _
      (.of_mem_index2 (.tail _ (.head _)))

/-- No measurement goes on. -/
def TdcChannel.ended (x : TdcChannel) : TdcChannel := { x with start := none, stop := none, gate := none, first := none, edges := 0, bad := false }

theorem tdcIdle_of_not_drained (h : tdcState s n c ≠ 4) : tdcIdle s n c = setTdcState (modTdc s n c TdcChannel.ended) n c 0 := if_neg h

/-- DRAINED or not, the channel's measurement ends. -/
theorem slices_tdcIdle (s : State) (n : Fin 16) (c : Fin 8) : (tdcIdle s n c).slices = (modTdc s n c TdcChannel.ended).slices := by
  unfold tdcIdle
  dsimp only
  split <;> rfl

theorem seqFrame.tdcIdle (h : seqFrame l n s t) (hl : F.TDC_STATUS_STATE.part [n, c] ∈ l) : seqFrame l n s (tdcIdle t n c) :=
  .ite (h.modTdc c _) ((h.modTdc c _).setTdcState hl 0)

/-- What the end of a channel's measurement leaves, where the channel is not DRAINED. -/
theorem tdcIdle_shows (h : tdcState s n c ≠ 4) :
    tdcState (tdcIdle s n c) n c = 0 ∧ (tdcCh (tdcIdle s n c) n c).start = none ∧ (tdcCh (tdcIdle s n c) n c).gate = none ∧
      ((tdcIdle s n c).sl n).tdc.queue = (s.sl n).tdc.queue ∧ ((tdcIdle s n c).sl n).tdc.waiting = (s.sl n).tdc.waiting := by
  rw [tdcIdle_of_not_drained h, tdcCh_setTdcState, tdcCh_modTdc]
  exact ⟨tdcState_setTdcState (by decide) _ n c, rfl, rfl, queue_modTdc .., waiting_modTdc ..⟩

theorem tdcGate_of_armed (harmed : tdcState s n c = 1) (hmode : (tdcSetup s n c).mode = 2) :
    tdcGate s n c = setTdcState (modTdc s n c fun x => { x with
      gate := some (beatLsb s.now, beatLsb s.now + clampNat 1 4000000 (s.fld F.TDC_GATE_US n c) * 4096000),
      first := none, edges := 0, bad := false }) n c 3 := if_pos ⟨harmed, hmode⟩

/-! ### A measurement that gives its result (R402, R409, R410) -/

/-- The result that a measurement gives at time `time`. -/
def tdcResultOf (s : State) (n : Fin 16) (c : Fin 8) (time : Nat) (neg ovf invalid noedge : Bool) (val aux : Nat) : TdcResult :=
  { due := time / 16384 + 4, ch := c, mode := (tdcSetup s n c).mode, neg := neg, ovf := ovf, invalid := invalid || (tdcCh s n c).spoilt,
    noedge := noedge, setup := s.fld F.TDC_STATUS_SETUP n c, val := val, aux := aux, armBeat := (tdcCh s n c).armBeat }

/-- From `s` to `t` the measurement of a channel ends with result `r`. -/
structure TdcGives (s t : State) (n : Fin 16) (c : Fin 8) (r : TdcResult) : Prop where
  waiting : (t.sl n).tdc.waiting = (s.sl n).tdc.waiting ++ [r]
  start : (tdcCh t n c).start = none
  gate : (tdcCh t n c).gate = none
  frame : seqFrame [F.TDC_STATUS_STATE.part [n, c], F.TDC_STATUS_LEFT.part [n, c]] n s t

/-- A result that a channel gives after a change of the channel alone. -/
theorem TdcGives.of_modTdc {f : TdcChannel → TdcChannel} {r : TdcResult} (h : TdcGives (modTdc s n c f) t n c r) : TdcGives s t n c r where
  waiting := h.waiting.trans (by rw [waiting_modTdc])
  start := h.start
  gate := h.gate
  frame := ((seqFrame.refl _ n s).modTdc c f).trans h.frame

/-- A change of status fields after the result. -/
theorem TdcGives.of_slices {r : TdcResult} (h : TdcGives s t n c r) (hs : u.slices = t.slices)
    (hu : seqFrame [F.TDC_STATUS_STATE.part [n, c], F.TDC_STATUS_LEFT.part [n, c]] n s u) : TdcGives s u n c r where
  waiting := by rw [State.sl, hs]; exact h.waiting
  start := by rw [tdcCh, State.sl, hs]; exact h.start
  gate := by rw [tdcCh, State.sl, hs]; exact h.gate
  frame := hu

/-- Whether the channel is then IDLE or ARMED again, it has given its result. -/
theorem tdcResult_gives (s : State) (n : Fin 16) (c : Fin 8) (time : Nat) (neg ovf invalid noedge : Bool) (val aux : Nat) :
    TdcGives s (tdcResult s n c time neg ovf invalid noedge val aux) n c (tdcResultOf s n c time neg ovf invalid noedge val aux) := by
  unfold tdcResult
  dsimp only
  generalize hclosed : modTdc (s.modSl n _) n c _ = closed
  have hgives : TdcGives s closed n c (tdcResultOf s n c time neg ovf invalid noedge val aux) := by
    subst hclosed
    exact ⟨by simp [tdcResultOf], by rw [tdcCh_modTdc], by rw [tdcCh_modTdc], ((seqFrame.refl _ n s).modSl _).modTdc c _⟩
  have harmed := hgives.frame.setTdcState (.head _) 1
  split
  · have hended : TdcGives s (modTdc closed n c TdcChannel.ended) n c (tdcResultOf s n c time neg ovf invalid noedge val aux) :=
      ⟨by rw [waiting_modTdc, hgives.waiting], by rw [tdcCh_modTdc, TdcChannel.ended], by rw [tdcCh_modTdc, TdcChannel.ended],
        hgives.frame.modTdc c _⟩
    exact hended.of_slices (slices_tdcIdle ..) (hgives.frame.tdcIdle (.head _))
  · split
    · exact hgives.of_slices rfl harmed
    · exact hgives.of_slices rfl (harmed.setFld _ _ (.of_mem_index2 (.tail _ (.head _))))

/-! ### Edges (R398, R402 to R404) -/

/-- The channel remembers the edge as the last of its input. -/
def tdcSeen (s : State) (n : Fin 16) (c : Fin 8) (input time : Nat) : State :=
  modTdc s n c fun x => { x with seen := (input, time) :: x.seen.filter fun e => e.1 ≠ input }

/-- An edge that the channel selects, far enough from the one before, and of an eligible time, is measured. -/
theorem tdcEdge_of_eligible {input time : Nat} {rising isStart isStop : Bool} (hst : tdcState s n c = 1 ∨ tdcState s n c = 2)
    (hstart : qualifies (tdcSetup s n c).startIn (tdcSetup s n c).startSlope input rising = isStart)
    (hstop : ((tdcSetup s n c).mode == 0 && qualifies (tdcSetup s n c).stopIn (tdcSetup s n c).stopSlope input rising) = isStop)
    (hsel : isStart = true ∨ isStop = true) (hnear : (tdcCh s n c).seen.any (fun e => e.1 = input ∧ time < e.2 + 8192) = false)
    (hfrom : (tdcCh s n c).from_ ≤ time) :
    ∃ bad, tdcEdge s n c input rising time = tdcMeasure (tdcSeen s n c input time) n c time bad isStart isStop := by
  subst hstart hstop
  have htakes : ¬(¬(tdcState s n c = 1 ∨ tdcState s n c = 2 ∨ tdcState s n c = 3) ∨ ¬_) := fun h =>
    h.elim (· (hst.imp_right .inl)) (· hsel)
  unfold tdcEdge
  dsimp only
  rw [if_neg htakes, hnear, if_neg Bool.false_ne_true, if_neg (Nat.not_lt.2 hfrom)]
  exact ⟨_, rfl⟩

/-- A first edge that is a start begins an INTERVAL measurement. -/
theorem tdcMeasure_start (hmode : (tdcSetup s n c).mode = 0) (hstop : (tdcCh s n c).stop = none) (hstart : (tdcCh s n c).start = none)
    (time : Nat) (bad : Bool) :
    tdcMeasure s n c time bad true false = setTdcState (modTdc s n c fun x => { x with start := some (time, bad) }) n c 2 := by
  simp [tdcMeasure, hmode, hstop, hstart, tdcStartEdge]

/-- A stop after the start ends it. -/
theorem tdcMeasure_stop (hmode : (tdcSetup s n c).mode = 0) (hstop : (tdcCh s n c).stop = none) {st : Nat × Bool}
    (hstart : (tdcCh s n c).start = some st) (time : Nat) (bad isStart : Bool) :
    tdcMeasure s n c time bad isStart true = tdcInterval s n c time st (time, bad) := by
  simp [tdcMeasure, hmode, hstop, hstart, tdcStopEdge]

@[simp] theorem tdcSetup_tdcSeen (s : State) (n : Fin 16) (c : Fin 8) (input time : Nat) :
    tdcSetup (tdcSeen s n c input time) n c = tdcSetup s n c := by
  rw [tdcSetup, tdcSeen, tdcCh_modTdc, tdcSetup]

theorem tdcCh_tdcSeen (s : State) (n : Fin 16) (c : Fin 8) (input time : Nat) :
    (tdcCh (tdcSeen s n c input time) n c).start = (tdcCh s n c).start ∧ (tdcCh (tdcSeen s n c input time) n c).stop = (tdcCh s n c).stop := by
  rw [tdcSeen, tdcCh_modTdc]
  exact ⟨rfl, rfl⟩

/-- The start edge of an INTERVAL measurement. -/
theorem tdcEdge_start {input time : Nat} {rising : Bool} (hst : tdcState s n c = 1)
    (hnear : (tdcCh s n c).seen.any (fun e => e.1 = input ∧ time < e.2 + 8192) = false) (hfrom : (tdcCh s n c).from_ ≤ time)
    (hmode : (tdcSetup s n c).mode = 0) (hstop : (tdcCh s n c).stop = none)
    (hisStart : qualifies (tdcSetup s n c).startIn (tdcSetup s n c).startSlope input rising = true)
    (hisStop : qualifies (tdcSetup s n c).stopIn (tdcSetup s n c).stopSlope input rising = false) (hstart : (tdcCh s n c).start = none) :
    ∃ bad, tdcEdge s n c input rising time =
      setTdcState (modTdc (tdcSeen s n c input time) n c fun x => { x with start := some (time, bad) }) n c 2 := by
  obtain ⟨hstart', hstop'⟩ := tdcCh_tdcSeen s n c input time
  obtain ⟨bad, hedge⟩ := tdcEdge_of_eligible (.inl hst) hisStart (isStop := false) (by simp [hisStop]) (.inl rfl) hnear hfrom
  exact ⟨bad, hedge.trans
    (tdcMeasure_start ((congrArg _ (tdcSetup_tdcSeen ..)).trans hmode) (hstop'.trans hstop) (hstart'.trans hstart) _ _)⟩

/-- The stop edge of an INTERVAL measurement gives the time between the edges. -/
theorem tdcEdge_stop {input time a : Nat} {rising : Bool} (hst : tdcState s n c = 2)
    (hnear : (tdcCh s n c).seen.any (fun e => e.1 = input ∧ time < e.2 + 8192) = false) (hfrom : (tdcCh s n c).from_ ≤ time)
    (hmode : (tdcSetup s n c).mode = 0) (hstop : (tdcCh s n c).stop = none)
    (hisStop : qualifies (tdcSetup s n c).stopIn (tdcSetup s n c).stopSlope input rising = true)
    (hstart : (tdcCh s n c).start = some (a, false)) (ha : a ≤ time) :
    ∃ r, TdcGives s (tdcEdge s n c input rising time) n c r ∧ r.ch = c ∧ r.neg = false ∧ r.ovf = false ∧ r.val = time - a ∧
      r.due = time / 16384 + 4 := by
  obtain ⟨hstart', hstop'⟩ := tdcCh_tdcSeen s n c input time
  obtain ⟨bad, hedge⟩ := tdcEdge_of_eligible (.inr hst) rfl (isStop := true)
    ((congrArg₂ (· && ·) (by rw [hmode]) hisStop).trans rfl) (.inr rfl) hnear hfrom
  rw [hedge, tdcMeasure_stop ((congrArg _ (tdcSetup_tdcSeen ..)).trans hmode) (hstop'.trans hstop) (hstart'.trans hstart)]
  exact ⟨_, (tdcResult_gives ..).of_modTdc, rfl, decide_eq_false (Nat.not_lt.2 ha), rfl, if_neg (Nat.not_lt.2 ha), rfl⟩

/-! ### Ends without a second edge (R404, R405, R408) -/

theorem tdcStopExpire_of_old {p : Nat × Bool} (hp : (tdcCh s n c).stop = some p) (hold : p.1 + 4096000 < beatLsb (s.now + 1)) :
    tdcStopExpire s n c = tdcDropStop s n c := by
  simp only [tdcStopExpire, hp, if_pos hold]

theorem tdcDropStop_shows (s : State) (n : Fin 16) (c : Fin 8) :
    (tdcCh (tdcDropStop s n c) n c).stop = none ∧ (tdcDropStop s n c).rd .TDC_REV_DISC n c = satCount (s.rd .TDC_REV_DISC n c) 1 ∧
      (tdcDropStop s n c).flag F.TDC_STATUS_REV_DISC n c = true ∧
      seqFrame [{ reg := .TDC_REV_DISC, idx := [n, c] }, F.TDC_STATUS_REV_DISC.part [n, c]] n s (tdcDropStop s n c) := by
  obtain ⟨hcount, hflag, hframe⟩ := count_flagged (modTdc s n c fun x => { x with stop := none }) n c (r := .TDC_REV_DISC)
    (x := F.TDC_STATUS_REV_DISC) (by decide) (by decide) rfl
  exact ⟨by rw [tdcDropStop, tdcCh_setFlag, tdcCh_count, tdcCh_modTdc], hcount, hflag, ((seqFrame.refl _ n s).modTdc c _).trans hframe⟩

theorem tdcOverflow_of_late {p : Nat × Bool} (hp : (tdcCh s n c).start = some p) (hlate : p.1 + 2 ^ 44 < beatLsb (s.now + 1)) :
    tdcOverflow s n c = tdcResult s n c (p.1 + 2 ^ 44) false true p.2 false 0x00000FFFFFFFFFFF (tdcCh s n c).number := by
  rw [tdcOverflow, hp]
  exact if_pos hlate

theorem tdcGateClose_of_no_edge {o e : Nat} (hgate : (tdcCh s n c).gate = some (o, e)) (hend : e < beatLsb (s.now + 1))
    (hfirst : (tdcCh s n c).first = none) : tdcGateClose s n c = tdcResult s n c e false false (tdcCh s n c).bad true 0 0 := by
  simp only [tdcGateClose, hgate, hfirst, if_neg (Nat.not_le.2 hend)]

/-! ### The queue (R409 to R413) -/

/-- A result that a CMPR waits for shows in the sequencer and the journal only (R139, R666). -/
theorem seqResult_eq (s : State) (n : Fin 16) (adc : Bool) (ch : Nat) (value : Int) (bad : Bool) (data : Nat) :
    seqResult s n adc ch value bad data = s ∨ ∃ f type src index data', seqResult s n adc ch value bad data =
      (modSeq s n f).journal type src index data' := by
  unfold seqResult
  split
  · exact .inl rfl
  · split
    · exact .inr ⟨_, _, _, _, _, rfl⟩
    · exact .inl rfl

theorem seqFrame.journal (h : seqFrame l n s t) (type src index data : Nat) : seqFrame l n s (t.journal type src index data) :=
  h.of_eq (State.journal_regs ..) (State.journal_slices ..) (State.journal_cstore ..)

theorem seqFrame.seqResult (h : seqFrame l n s t) (adc : Bool) (ch : Nat) (value : Int) (bad : Bool) (data : Nat) :
    seqFrame l n s (seqResult t n adc ch value bad data) := by
  obtain hr | ⟨f, type, src, index, data', hr⟩ := seqResult_eq t n adc ch value bad data
  · rwa [hr]
  · rw [hr]
    exact (h.modSeq f).journal ..

@[simp] theorem tdc_seqResult (s : State) (n : Fin 16) (adc : Bool) (ch : Nat) (value : Int) (bad : Bool) (data : Nat) :
    ((seqResult s n adc ch value bad data).sl n).tdc = (s.sl n).tdc := by
  obtain hr | ⟨f, type, src, index, data', hr⟩ := seqResult_eq s n adc ch value bad data
  · rw [hr]
  · rw [hr, State.sl, State.journal_slices, ← State.sl, modSeq, State.sl_modSl_same]

theorem seqFrame.peak (h : seqFrame l n s t) (f : Field) (v : Nat) (hl : holdsFld l f n 0 0 0) : seqFrame l n s (t.peak f v n) :=
  .ite (h.setFld f v hl) h

/-- The queue after a result `r` has entered it. -/
def tdcQueued (s : State) (n : Fin 16) (r : TdcResult) : State :=
  ((s.modSl n fun y => { y with tdc := { y.tdc with waiting := y.tdc.waiting.erase r } }).modSl n fun y =>
    { y with tdc := { y.tdc with queue := (s.sl n).tdc.queue ++ [tdcEntry r (s.beat - (s.now - r.due))] } }).peak
    F.TDC_QSTATUS_PEAK ((s.sl n).tdc.queue.length + 1) n

theorem tdcEnqueue_of_due {r : TdcResult} (hdue : tdcNext ((s.sl n).tdc.waiting.filter (fun r => decide (r.due ≤ s.now))) = some r)
    (hroom : (s.sl n).tdc.queue.length < 128) :
    ∃ ch value bad data, tdcEnqueue s n = seqResult (tdcQueued s n r) n false ch value bad data := by
  simp only [tdcEnqueue, hdue, if_neg (Nat.not_le.2 hroom)]
  exact ⟨_, _, _, _, rfl⟩

theorem tdc_tdcQueued (s : State) (n : Fin 16) (r : TdcResult) :
    ((tdcQueued s n r).sl n).tdc.queue = (s.sl n).tdc.queue ++ [tdcEntry r (s.beat - (s.now - r.due))] ∧
      ((tdcQueued s n r).sl n).tdc.waiting = (s.sl n).tdc.waiting.erase r := by
  rw [tdcQueued, State.sl, State.peak_slices]
  change (State.sl _ n).tdc.queue = _ ∧ (State.sl _ n).tdc.waiting = _
  simp

theorem seqFrame_tdcQueued (s : State) (n : Fin 16) (r : TdcResult) : seqFrame [F.TDC_QSTATUS_PEAK.part [n]] n s (tdcQueued s n r) :=
  (((seqFrame.refl _ n s).modSl _).modSl _).peak _ _ (.of_mem_index_below (.head _))

/-- The low word of a wide field. -/
theorem ofNat_bitsAt (v lo : Nat) {w : Nat} (hw : 32 ≤ w) : BitVec.ofNat 32 (bitsAt v lo w) = BitVec.ofNat 32 (v / 2 ^ lo) := by
  apply BitVec.eq_of_toNat_eq
  rw [BitVec.toNat_ofNat, BitVec.toNat_ofNat, bitsAt_eq, Nat.mod_mod_of_dvd _ (Nat.pow_dvd_pow 2 hw)]

/-- The high part of a field. -/
theorem bitsAt_div_two_pow (v lo k w : Nat) : bitsAt v lo (k + w) / 2 ^ k = bitsAt v (lo + k) w := by
  rw [bitsAt_eq, bitsAt_eq, Nat.pow_add, Nat.mod_mul_right_div_self, Nat.div_div_eq_div_mul, ← Nat.pow_add]

/-- The oldest entry has left the queue. -/
def tdcUnqueued (s : State) (n : Fin 16) : State := s.modSl n fun y => { y with tdc := { y.tdc with queue := y.tdc.queue.drop 1 } }

theorem queue_tdcUnqueued (s : State) (n : Fin 16) : ((tdcUnqueued s n).sl n).tdc.queue = (s.sl n).tdc.queue.drop 1 := by
  rw [tdcUnqueued, State.sl_modSl_same]

/-- The oldest entry is taken: a word is read, the others stand in the shadow. -/
def tdcTaken (s : State) (n : Fin 16) (val : Nat) (aux word : Word) : State :=
  { ((tdcUnqueued s n).setPair .TDC_RES_VAL_LO .TDC_RES_VAL_HI val n).wr .TDC_RES_AUX aux n with readValue := word }

theorem tdcTake_of_entry {e : BitVec 128} {q : List (BitVec 128)} (hq : (s.sl n).tdc.queue = e :: q) :
    tdcTake s n = tdcTaken s n (bitsAt e.toNat 32 64) (BitVec.ofNat 32 (e.toNat / 2 ^ 96)) (BitVec.ofNat 32 e.toNat) := by
  have h0 : BitVec.ofNat 32 (bitsAt e.toNat 0 32) = BitVec.ofNat 32 e.toNat := by rw [ofNat_bitsAt _ _ (by decide), Nat.pow_zero, Nat.div_one]
  have h1 : BitVec.ofNat 32 (bitsAt e.toNat 32 32) = BitVec.ofNat 32 (bitsAt e.toNat 32 64) := by
    rw [ofNat_bitsAt _ _ (by decide), ofNat_bitsAt _ _ (by decide)]
  have h2 : bitsAt e.toNat 64 32 = bitsAt e.toNat 32 64 / 2 ^ 32 := (bitsAt_div_two_pow e.toNat 32 32 32).symm
  have h3 : BitVec.ofNat 32 (bitsAt e.toNat 96 32) = BitVec.ofNat 32 (e.toNat / 2 ^ 96) := ofNat_bitsAt _ _ (by decide)
  rw [tdcTaken, State.setPair, ← h0, ← h1, ← h2, ← h3, tdcTake, hq]
  rfl

/-- The registers that show the rest of a queue entry. -/
abbrev shadowParts (n : Fin 16) : List Part :=
  [{ reg := .TDC_RES_VAL_LO, idx := [n] }, { reg := .TDC_RES_VAL_HI, idx := [n] }, { reg := .TDC_RES_AUX, idx := [n] }]

theorem tdcTaken_shows (s : State) (n : Fin 16) {val : Nat} (hval : val < 2 ^ 64) (aux word : Word) :
    let t := tdcTaken s n val aux word
    t.pair .TDC_RES_VAL_LO .TDC_RES_VAL_HI n = val ∧ t.rd .TDC_RES_AUX n = aux ∧ (t.sl n).tdc.queue = (s.sl n).tdc.queue.drop 1 ∧
      seqFrame (shadowParts n) n s t := by
  refine ⟨?_, State.rd_wr_same .., queue_tdcUnqueued s n, ?_⟩
  · rw [tdcTaken, State.pair_readValue,
      State.pair_congr (State.rd_wr_reg _ _ _ _ _ _ _ _ _ _ (by decide)) (State.rd_wr_reg _ _ _ _ _ _ _ _ _ _ (by decide))]
    exact State.pair_setPair_same _ (by decide) hval ..
  · have hqueue : seqFrame (shadowParts n) n s (tdcUnqueued s n) := (seqFrame.refl _ n s).modSl _
    have hregs := (hqueue.setPair .TDC_RES_VAL_LO .TDC_RES_VAL_HI val (.of_mem_index (i := n) (j := 0) (.head _))
      (.of_mem_index (.tail _ (.head _)))).wr .TDC_RES_AUX aux (.of_mem_index (i := n) (j := 0) (.tail _ (.tail _ (.head _))))
    exact hregs.of_eq rfl rfl rfl

/-! ### DISABLE (R414, R592) -/

theorem fld_kind_disRecord (s : State) {slice kind : Nat} (hs : slice < 16) (hk : kind < 8) (index finished discarded : Nat) :
    (s.disRecord slice kind index finished discarded).fld F.PWR_DIS_LAST_KIND = kind := by
  rw [State.fld, State.disRecord]
  simp only [F.PWR_DIS_LAST_KIND, State.rd_wr_same, bitsAt_eq, BitVec.toNat_ofNat]
  omega

theorem flag_disRecord (s : State) {f : Field} (hf : f.reg ≠ .PWR_DIS_LAST) (slice kind index finished discarded i j k m : Nat) :
    (s.disRecord slice kind index finished discarded).flag f i j k m = s.flag f i j k m :=
  congrArg (· == 1) (fld_disRecord s hf ..)

theorem sl_disRecord (s : State) (slice kind index finished discarded : Nat) (m : Fin 16) :
    (s.disRecord slice kind index finished discarded).sl m = s.sl m := by
  rw [State.disRecord, State.sl_wr]

theorem tdcDisable_shows (h : tdcState s n c ≠ 4) :
    (tdcDisable s n c).flag F.TDC_CFG_EN n c = false ∧ tdcState (tdcDisable s n c) n c = 0 ∧
      ((tdcDisable s n c).sl n).tdc.waiting = (s.sl n).tdc.waiting ∧
      seqFrame [F.TDC_STATUS_STATE.part [n, c], F.TDC_CFG_EN.part [n, c]] n s (tdcDisable s n c) := by
  have hidle : tdcState (s.setFlag F.TDC_CFG_EN false n c) n c ≠ 4 := by
    rwa [tdcState, State.fld_setFlag_reg _ _ _ _ _ _ _ _ _ _ _ _ (by decide)]
  obtain ⟨hstate, -, -, -, hwaiting⟩ := tdcIdle_shows hidle
  have hcfg : sameRegs [F.TDC_STATUS_STATE.part [n, c]] (s.setFlag F.TDC_CFG_EN false n c) (tdcDisable s n c) :=
    ((seqFrame.refl _ n _).tdcIdle (.head _)).1
  refine ⟨?_, hstate, hwaiting, ((seqFrame.refl _ n s).setFlag _ _ (.of_mem_index2 (.tail _ (.head _)))).tdcIdle (.head _)⟩
  rw [State.flag, hcfg.fld_of_reg (by simp [Field.part, F.TDC_STATUS_STATE, F.TDC_CFG_EN])]
  exact State.flag_setFlag_same _ _ _ _ _ _ _ (by decide) rfl

end

/-- Settles O35: each command by the state it leaves; a measurement that ends, by a stop, by its limit or by its gate, gives one result
(`tdcResult_gives`), and a due result that enters the queue may also end a CMPR, which leaves the channels as they are. -/
theorem timeMeasures : Obligations.TimeMeasures := by
  unfold Obligations.TimeMeasures
  refine ⟨fun s n c k hon hidle hen hok => ⟨_, congrArg Host.Outcome.next ((analogEvent_of_on hon _).trans (tdcArm_of_idle hidle hen hok)), ?_⟩,
    fun s n c k hon hbusy => ⟨_, congrArg Host.Outcome.next ((analogEvent_of_on hon _).trans (tdcArm_of_busy hbusy k)), ?_⟩,
    fun s n c k hon hidle hbad => ⟨_, congrArg Host.Outcome.next ((analogEvent_of_on hon _).trans (tdcArm_of_unsound hidle hbad)), ?_⟩,
    fun s n c hon hst => ⟨_, congrArg Host.Outcome.next (analogEvent_of_on hon _), ?_⟩,
    fun s n c hon harmed hmode => ⟨_, congrArg Host.Outcome.next ((analogEvent_of_on hon _).trans (tdcGate_of_armed harmed hmode)), ?_⟩,
    fun s n c input rising lsb hst hnear hfrom hmode hstop hisStart hisStop hstart => ?_,
    fun s n c input rising lsb a hst hnear hfrom hmode hstop hisStop hstart ha => ⟨_, rfl, ?_⟩,
    fun s n c p hp hold => ⟨_, congrArg Host.Outcome.next (tdcStopExpire_of_old hp hold), ?_⟩,
    fun s n c p hp hlate => ⟨_, congrArg Host.Outcome.next (tdcOverflow_of_late hp hlate), ?_⟩,
    fun s n c o e hgate hend hfirst => ⟨_, congrArg Host.Outcome.next (tdcGateClose_of_no_edge hgate hend hfirst), ?_⟩,
    fun s n r hdue hroom => ?_,
    fun s n c startRef stopRef hon => ⟨_, rfl, ?_⟩,
    fun s n e q hq => ⟨_, congrArg Host.Outcome.next (tdcTake_of_entry hq), ?_⟩,
    fun s n c hst => ⟨_, rfl, ?_⟩⟩
  · exact tdcArmed_shows s n c k (TdcSetup.left_ofWord_lt _)
  · obtain ⟨hcount, hflag, hframe⟩ := count_flagged s n c (r := .TDC_IGNORED) (x := F.TDC_STATUS_ARM_IGN) (by decide) (by decide) rfl
    exact ⟨hcount, hflag, rfl, hframe⟩
  · exact ⟨State.flag_setFlag_same _ _ _ _ _ _ _ (by decide) rfl, rfl, (seqFrame.refl _ n s).setFlag _ _ (.of_mem_index2 (.head _))⟩
  · obtain ⟨hstate, hstart, hgate, hqueue, hwaiting⟩ := tdcIdle_shows hst
    exact ⟨hstate, hstart, hgate, hqueue, hwaiting, (seqFrame.refl _ n s).tdcIdle (.head _)⟩
  · rw [tdcCh_setTdcState, tdcCh_modTdc]
    exact ⟨tdcState_setTdcState (by decide) _ n c, rfl, ((seqFrame.refl _ n s).modTdc c _).setTdcState (.head _) 3⟩
  · obtain ⟨bad, hedge⟩ := tdcEdge_start hst hnear hfrom hmode hstop hisStart hisStop hstart
    refine ⟨_, congrArg Host.Outcome.next hedge, tdcState_setTdcState (by decide) _ n c, ?_, ?_,
      (((seqFrame.refl _ n s).modTdc c _).modTdc c _).setTdcState (.head _) 2⟩
    · rw [tdcCh_setTdcState, tdcCh_modTdc, Option.map_some]
    · rw [setTdcState, State.sl_setFld, waiting_modTdc, tdcSeen, waiting_modTdc]
  · obtain ⟨r, hgives, hch, hneg, hovf, hval, hdue⟩ := tdcEdge_stop hst hnear hfrom hmode hstop hisStop hstart ha
    exact ⟨⟨r, hgives.waiting, hch, hneg, hovf, hval, hdue⟩, hgives.start, hgives.frame⟩
  · exact tdcDropStop_shows s n c
  · have hgives := tdcResult_gives s n c (p.1 + 2 ^ 44) false true p.2 false 0x00000FFFFFFFFFFF (tdcCh s n c).number
    exact ⟨⟨_, hgives.waiting, rfl, rfl, rfl⟩, hgives.start, hgives.frame⟩
  · have hgives := tdcResult_gives s n c e false false (tdcCh s n c).bad true 0 0
    exact ⟨⟨_, hgives.waiting, rfl, rfl, rfl⟩, hgives.gate, hgives.frame⟩
  · obtain ⟨ch, value, bad, data, hqueued⟩ := tdcEnqueue_of_due hdue hroom
    obtain ⟨hqueue, hwaiting⟩ := tdc_tdcQueued s n r
    refine ⟨_, congrArg Host.Outcome.next hqueued, ?_, ?_, (seqFrame_tdcQueued s n r).seqResult false ch value bad data⟩
    · rw [tdc_seqResult, hqueue]
    · rw [tdc_seqResult, hwaiting]
  · refine ⟨?_, (seqFrame.refl _ n s).setFlag _ _ (.of_mem_index2 (.head _))⟩
    rw [State.flag_setFlag_same _ _ _ _ _ _ _ (by decide) rfl, hon, Bool.true_and, Bool.decide_and, Bool.decide_and]
  · obtain ⟨hpair, haux, hqueue, hframe⟩ := tdcTaken_shows s n (bitsAt_lt e.toNat 32 64)
      (BitVec.ofNat 32 (e.toNat / 2 ^ 96)) (BitVec.ofNat 32 e.toNat)
    exact ⟨rfl, hpair, haux, hqueue.trans (by rw [hq, List.drop_one, List.tail_cons]), hframe⟩
  · obtain ⟨hen, hstate, hwaiting, hframe⟩ := tdcDisable_shows hst
    refine ⟨(flag_disRecord _ (by decide) ..).trans hen, (fld_disRecord _ (by decide) ..).trans hstate,
      fld_kind_disRecord _ n.isLt (by decide) .., ?_, (hframe.mono (by simp)).disRecord (.tail _ (.tail _ (.head _))) ..⟩
    rw [sl_disRecord, hwaiting]
end Sys2Proof.Machine

namespace Sys2Proof.Machine

/-! ## The reference of Invar (R419, R420) -/

section
variable {s t : State} {l : List Part}

theorem memFrame.wr (h : memFrame l s t) (r : Reg) (v : Word) {i j k m : Nat} (hl : holdsReg l r i j k m) : memFrame l s (t.wr r v i j k m) :=
  ⟨h.1.wr r v i j k m hl, h.2.wr r v i j k m⟩

theorem State.rd_setFlag_reg (s : State) (f : Field) (r : Reg) (b : Bool) (i j k m i' j' k' m' : Nat) (h : r ≠ f.reg) :
    (s.setFlag f b i j k m).rd r i' j' k' m' = s.rd r i' j' k' m' := State.rd_setFld_reg _ _ _ _ _ _ _ _ _ _ _ _ h

/-- The reference is lost: holdover, counted. -/
def refLost (s : State) : State :=
  (((((s.setFlag F.INV_STATUS_REF_VALID false).setFlag F.INV_STATUS_DISC_LOCK false).wr .INV_PHASE_ERR 0).setFlag
    F.INV_STATUS_HOLDOVER true).setFlag F.INV_STATUS_REF_LOST true).count .INV_REF_LOSS

theorem invRefLoss_of_valid (h : s.flag F.INV_STATUS_REF_VALID = true) : invRefLoss s = (refLost s).raise Src.INV_REF Scope.device 0 := if_pos h

theorem refLost_shows (s : State) :
    (refLost s).flag F.INV_STATUS_REF_VALID = false ∧ (refLost s).flag F.INV_STATUS_HOLDOVER = true ∧
      (refLost s).flag F.INV_STATUS_REF_LOST = true ∧ (refLost s).flag F.INV_STATUS_DISC_LOCK = false ∧
      (refLost s).rd .INV_DISC = s.rd .INV_DISC ∧ (refLost s).rd .INV_REF_LOSS = satCount (s.rd .INV_REF_LOSS) 1 := by
  simp (disch := decide) only [refLost, State.flag_count_reg, State.flag_wr_reg, State.flag_setFlag_same, State.flag_setFlag_bits,
    State.rd_count_same, State.rd_count_reg, State.rd_wr_reg, State.rd_setFlag_reg, and_self]

/-- What the loss of the reference may change of the registers. -/
abbrev refLossParts : List Part :=
  [F.INV_STATUS_REF_VALID.part [], F.INV_STATUS_DISC_LOCK.part [], F.INV_STATUS_HOLDOVER.part [], F.INV_STATUS_REF_LOST.part [],
    { reg := .INV_PHASE_ERR, idx := [] }, { reg := .INV_REF_LOSS, idx := [] }]

theorem memFrame_refLost (s : State) : memFrame refLossParts s (refLost s) :=
  ((((((memFrame.refl _ s).setFlag _ _ (.of_mem (by decide) ..)).setFlag _ _ (.of_mem (by decide) ..)).wr _ _ (.of_mem (by decide) ..)).setFlag _ _
    (.of_mem (by decide) ..)).setFlag _ _ (.of_mem (by decide) ..)).count _ (.of_mem (by decide) ..)

end

/-! ## The clock chain (R426 to R438) -/

section
variable {s t : State} {l : List Part}

/-! ### The chain after a change -/

@[simp] theorem chn_modChn (s : State) (f : Chain → Chain) : (modChn s f).chn = f s.chn := rfl

@[simp] theorem fld_modChn (s : State) (f : Chain → Chain) (g : Field) (i j k m : Nat) : (modChn s f).fld g i j k m = s.fld g i j k m := rfl

@[simp] theorem flag_modChn (s : State) (f : Chain → Chain) (g : Field) (i j k m : Nat) : (modChn s f).flag g i j k m = s.flag g i j k m := rfl

@[simp] theorem rd_modChn (s : State) (f : Chain → Chain) (r : Reg) (i j k m : Nat) : (modChn s f).rd r i j k m = s.rd r i j k m := rfl

@[simp] theorem State.raise_chn (s : State) (src scope index : Nat) : (s.raise src scope index).chn = s.chn := by
  obtain ⟨x, hx⟩ := raise_eq s src scope index
  rw [hx]

theorem memFrame.modChn (h : memFrame l s t) (f : Chain → Chain) : memFrame l s (modChn t f) := h.of_eq rfl rfl rfl

theorem chnState_setChnState {v : Nat} (hv : v < 8) (s : State) : chnState (setChnState s v) = v :=
  (State.fld_setFld_same s F.CHN_STATUS_STATE v 0 0 0 0 (by decide)).trans (Nat.mod_eq_of_lt hv)

theorem chnState_setFlag {f : Field} (hf : f.reg ≠ .CHN_STATUS ∨ 3 ≤ f.lo ∧ f.lo + f.width ≤ 32) (s : State) (b : Bool) :
    chnState (s.setFlag f b) = chnState s := by
  obtain hreg | ⟨hlo, hw⟩ := hf
  · exact State.fld_setFlag_reg _ _ _ _ _ _ _ _ _ _ _ _ hreg.symm
  · exact State.fld_setFlag_bits _ _ _ _ _ _ _ _ _ _ _ _ hw (.inl hlo)

/-- The wheels of a device whose registers change elsewhere. -/
theorem wheelsStopped_congr (h : sameRegs l s t) (hl : ∀ x ∈ l, x.reg ≠ .SLC_WHEEL_STATUS) : wheelsStopped t = wheelsStopped s := by
  simp only [wheelsStopped, h.fld_of_reg (f := F.SLC_WHEEL_STATUS_STATE) hl]

/-! ### ACQUIRE (R434) -/

theorem chnAcquire_shows (s : State) :
    chnState (chnAcquire s) = 2 ∧ (chnAcquire s).flag F.CHN_STATUS_ALIGNED = false ∧
      memFrame [F.CHN_STATUS_STATE.part [], F.CHN_STATUS_ALIGNED.part []] s (chnAcquire s) := by
  refine ⟨?_, State.flag_setFlag_same _ _ _ _ _ _ _ (by decide) rfl,
    (((memFrame.refl _ s).modChn _).setFld _ _ (.of_mem (by decide) ..)).setFlag _ _ (.of_mem (by decide) ..)⟩
  rw [chnAcquire, chnState_setFlag (by decide)]
  exact chnState_setChnState (by decide) _

theorem flag_chnAcquire (s : State) {f : Field} (hf : f.reg ≠ .CHN_STATUS ∨ 4 ≤ f.lo) : (chnAcquire s).flag f = s.flag f := by
  obtain ⟨-, -, hregs, -⟩ := chnAcquire_shows s
  refine congrArg (· == 1) (hregs.fld_eq f 0 0 0 0 fun b hb _ => ?_)
  obtain hreg | hlo := hf
  · simp [Part.covers, Field.part, F.CHN_STATUS_STATE, F.CHN_STATUS_ALIGNED, hreg.symm]
  · have h3 : ¬b < 3 := by omega
    have h4 : ¬b < 4 := by omega
    simp [Part.covers, Field.part, F.CHN_STATUS_STATE, F.CHN_STATUS_ALIGNED, h3, h4]

/-- The clock is locked and the reference valid. -/
def clkLocked (s : State) : State :=
  ((s.setFlag F.CHN_STATUS_CLK_LOCK true).setFlag F.INV_STATUS_REF_VALID true).setFlag F.INV_STATUS_HOLDOVER false

theorem memFrame_clkLocked (s : State) :
    memFrame [F.CHN_STATUS_CLK_LOCK.part [], F.INV_STATUS_REF_VALID.part [], F.INV_STATUS_HOLDOVER.part []] s (clkLocked s) :=
  (((memFrame.refl _ s).setFlag _ _ (.of_mem (by decide) ..)).setFlag _ _ (.of_mem (by decide) ..)).setFlag _ _ (.of_mem (by decide) ..)

/-- A device that waits for its clock enters ACQUIRE. -/
theorem chnClkLock_of_waiting (hfollows : chnFollows s = true) (hst : chnState s = 5) (hlock : s.flag F.CHN_STATUS_CLK_LOCK = false)
    (hwheels : wheelsStopped s = true) : chnClkLock s = chnAcquire (clkLocked s) := by
  have hst' : chnState (clkLocked s) ≠ 4 := by
    rw [clkLocked, chnState_setFlag (by decide), chnState_setFlag (by decide), chnState_setFlag (by decide), hst]
    decide
  have hwheels' : wheelsStopped (clkLocked s) = true := (wheelsStopped_congr (memFrame_clkLocked s).1 (by decide)).trans hwheels
  rw [chnClkLock, if_neg (by rw [hfollows]; decide)]
  exact (if_neg hst').trans (if_pos ⟨by rw [hst, hlock]; rfl, hwheels'⟩)

theorem chnAcquire_clkLocked_shows (s : State) :
    (chnAcquire (clkLocked s)).flag F.CHN_STATUS_CLK_LOCK = true ∧ (chnAcquire (clkLocked s)).flag F.INV_STATUS_REF_VALID = true := by
  rw [flag_chnAcquire _ (by decide), flag_chnAcquire _ (by decide)]
  simp (disch := decide) only [clkLocked, State.flag_setFlag_reg, State.flag_setFlag_bits, State.flag_setFlag_same, and_self]

theorem chnRealign_of_locked (hfollows : chnFollows s = true) (hwheels : wheelsStopped s = true) (hlock : s.flag F.CHN_STATUS_CLK_LOCK = true) :
    chnRealign s = chnAcquire s := by
  rw [chnRealign, if_neg (by rw [hwheels]; decide)]
  exact if_pos ⟨hfollows, hlock⟩

theorem chnRealign_of_running (h : wheelsStopped s = false) : chnRealign s = s.setFlag F.CHN_STATUS_REALIGN_REFUSED true :=
  if_pos (by rw [h]; rfl)

/-! ### HOLDOVER (R434, R438, R439) -/

/-- HOLDOVER is entered, with the clock as CLK_LOCK has it. -/
def heldOver (s : State) : State :=
  ((((setChnState (modChn s Chain.fresh) 4).setFlag F.CHN_STATUS_ALIGNED false).count .CHN_HOLDOVERS).setFlag F.INV_STATUS_HOLDOVER true)

/-- The clock of the chain is lost, or is not. -/
def clkLostIf (s : State) (clock : Bool) : State := if clock then s.setFlag F.CHN_STATUS_CLK_LOCK false else s

theorem chnHoldover_of_lost {clock : Bool} (hfollows : chnFollows s = true) (h4 : chnState s ≠ 4)
    (h5 : chnState s ≠ 5 ∨ s.flag F.CHN_STATUS_CLK_LOCK = true) (hlost : clock = true ∨ 8 ≤ s.chn.lost) :
    chnHoldover s clock = (heldOver (clkLostIf s clock)).raise Src.CHN_LINK Scope.device 0 := by
  have hst : chnState (clkLostIf s clock) ≠ 4 := by
    unfold clkLostIf
    split
    · rwa [chnState_setFlag (by decide)]
    · exact h4
  have henters : ¬((chnState s == 5 && !s.flag F.CHN_STATUS_CLK_LOCK) = true ∨ (!clock) = true ∧ s.chn.lost < 8) := by
    rintro (hwaits | ⟨hclock, hfew⟩)
    · obtain ⟨hst5, hunlocked⟩ := Bool.and_eq_true_iff.1 hwaits
      exact h5.elim (· (eq_of_beq hst5)) fun hlock => by simp [hlock] at hunlocked
    · exact hlost.elim (fun h => by simp [h] at hclock) fun h => absurd hfew (Nat.not_lt.2 h)
  rw [chnHoldover, if_neg (by rw [hfollows]; decide)]
  exact (if_neg henters).trans (if_neg hst)

theorem heldOver_shows (s : State) :
    chnState (heldOver s) = 4 ∧ (heldOver s).flag F.CHN_STATUS_ALIGNED = false ∧
      (heldOver s).flag F.CHN_STATUS_CLK_LOCK = s.flag F.CHN_STATUS_CLK_LOCK ∧ (heldOver s).flag F.INV_STATUS_HOLDOVER = true ∧
      (heldOver s).rd .CHN_HOLDOVERS = satCount (s.rd .CHN_HOLDOVERS) 1 := by
  have h4 : 4 % 2 ^ F.CHN_STATUS_STATE.width = 4 := rfl
  simp (disch := decide) only [chnState, heldOver, h4, setChnState, State.fld_setFlag_reg, State.fld_setFlag_bits, State.fld_count_reg,
    State.fld_setFld_same, State.flag_setFlag_reg, State.flag_setFlag_same, State.flag_setFlag_bits, State.flag_count_reg, State.flag_setFld_bits,
    State.rd_setFlag_reg, State.rd_count_same, State.rd_setFld_reg, flag_modChn, rd_modChn, and_self]

/-- What HOLDOVER may change of the registers. -/
abbrev holdoverParts : List Part :=
  [F.CHN_STATUS_STATE.part [], F.CHN_STATUS_ALIGNED.part [], F.CHN_STATUS_CLK_LOCK.part [], F.INV_STATUS_HOLDOVER.part [],
    { reg := .CHN_HOLDOVERS, idx := [] }]

theorem memFrame_heldOver (h : memFrame holdoverParts s t) : memFrame holdoverParts s (heldOver t) :=
  ((((h.modChn _).setFld _ _ (.of_mem (by decide) ..)).setFlag _ _ (.of_mem (by decide) ..)).count _ (.of_mem (by decide) ..)).setFlag _ _
    (.of_mem (by decide) ..)

theorem clkLostIf_shows (s : State) (clock : Bool) :
    (clkLostIf s clock).flag F.CHN_STATUS_CLK_LOCK = (s.flag F.CHN_STATUS_CLK_LOCK && !clock) ∧
      (clkLostIf s clock).rd .CHN_HOLDOVERS = s.rd .CHN_HOLDOVERS ∧ memFrame holdoverParts s (clkLostIf s clock) := by
  cases clock with
  | false => exact ⟨(Bool.and_true _).symm, rfl, .refl _ s⟩
  | true =>
    exact ⟨(State.flag_setFlag_same _ _ _ _ _ _ _ (by decide) rfl).trans (Bool.and_false _).symm,
      State.rd_setFlag_reg _ _ _ _ _ _ _ _ _ _ _ _ (by decide), (memFrame.refl _ s).setFlag _ _ (.of_mem (by decide) ..)⟩

/-! ### ROLE and POS (R426) -/

/-- What the trigger lines drive is theirs alone. -/
theorem driveLines_eq (s : State) : ∃ x, driveLines s = modTrg s fun _ => x :=
  List.foldlRecOn (motive := fun t => ∃ x, t = modTrg s fun _ => x) _ _ ⟨s.trg, rfl⟩ fun t ht l _ => by
    obtain ⟨x, rfl⟩ := ht
    exact ⟨_, rfl⟩

theorem memFrame.driveLines (h : memFrame l s t) : memFrame l s (driveLines t) := by
  obtain ⟨x, hx⟩ := driveLines_eq t
  rw [hx]
  exact h.of_eq rfl rfl rfl

@[simp] theorem regs_driveLines (s : State) : (driveLines s).regs = s.regs := by
  obtain ⟨x, hx⟩ := driveLines_eq s
  rw [hx, modTrg]

@[simp] theorem chn_driveLines (s : State) : (driveLines s).chn = s.chn := by
  obtain ⟨x, hx⟩ := driveLines_eq s
  rw [hx, modTrg]

/-- ROLE and POS hold what is written, and the chain begins anew, not ALIGNED. -/
def roleTaken (s : State) (role pos : Nat) : State :=
  (modChn ((s.setFld F.CHN_CFG_ROLE role).setFld F.CHN_CFG_POS pos)
    fun c => { c.fresh with rxUpok := false, lost := 0, txTurn := 0, txPart := 0, report := none }).setFlag F.CHN_STATUS_ALIGNED false

/-- The state of the chain that its new role begins in. -/
def roleEntered (s : State) (role : Nat) : State :=
  if role < 2 then (setChnState s role).setFlag F.CHN_STATUS_CLK_LOCK false
  else if s.flag F.CHN_STATUS_CLK_LOCK then chnAcquire s else setChnState s 5

theorem chnRoleWrite_of_stopped {role pos : Nat} (hnew : role ≠ chnRole s ∨ pos ≠ chnPos s) (hwheels : wheelsStopped s = true) :
    chnRoleWrite s role pos = roleEntered (roleTaken s role pos) role := by
  rw [chnRoleWrite, if_neg (not_and_or.2 hnew), if_neg (by rw [hwheels]; decide)]
  rfl

theorem chnRoleWrite_of_running {role pos : Nat} (hnew : role ≠ chnRole s ∨ pos ≠ chnPos s) (hwheels : wheelsStopped s = false) :
    chnRoleWrite s role pos = s.setFlag F.CHN_STATUS_CFG_IGN true := by
  rw [chnRoleWrite, if_neg (not_and_or.2 hnew), if_pos (by rw [hwheels]; decide)]

theorem roleTaken_shows (s : State) {role pos : Nat} (hrole : role < 2 ^ 2) (hpos : pos < 2 ^ 5) :
    chnRole (roleTaken s role pos) = role ∧ chnPos (roleTaken s role pos) = pos ∧ (roleTaken s role pos).flag F.CHN_STATUS_ALIGNED = false ∧
      (roleTaken s role pos).flag F.CHN_STATUS_CLK_LOCK = s.flag F.CHN_STATUS_CLK_LOCK := by
  have hr : role % 2 ^ F.CHN_CFG_ROLE.width = role := Nat.mod_eq_of_lt hrole
  have hp : pos % 2 ^ F.CHN_CFG_POS.width = pos := Nat.mod_eq_of_lt hpos
  simp (disch := decide) only [chnRole, chnPos, roleTaken, State.fld_setFlag_reg, fld_modChn, State.fld_setFld_bits, State.fld_setFld_same, hr, hp,
    State.flag_setFlag_same, State.flag_setFlag_bits, flag_modChn, State.flag_setFld_reg, and_self]

/-- The fields of CHN_STATUS that show the role's state. -/
abbrev roleStateParts : List Part := [F.CHN_STATUS_STATE.part [], F.CHN_STATUS_ALIGNED.part [], F.CHN_STATUS_CLK_LOCK.part []]

/-- What a write of ROLE and POS may change of the registers. -/
abbrev roleParts : List Part := roleStateParts ++ [F.CHN_CFG_ROLE.part [], F.CHN_CFG_POS.part []]

theorem memFrame_roleTaken (s : State) (role pos : Nat) : memFrame roleParts s (roleTaken s role pos) :=
  ((((memFrame.refl _ s).setFld _ _ (.of_mem (by decide) ..)).setFld _ _ (.of_mem (by decide) ..)).modChn _).setFlag _ _ (.of_mem (by decide) ..)

theorem roleEntered_shows (s : State) {role : Nat} (hrole : role < 2 ^ 2) (hal : s.flag F.CHN_STATUS_ALIGNED = false) :
    chnState (roleEntered s role) = (if role < 2 then role else if s.flag F.CHN_STATUS_CLK_LOCK then 2 else 5) ∧
      (roleEntered s role).flag F.CHN_STATUS_ALIGNED = false ∧ memFrame roleStateParts s (roleEntered s role) := by
  unfold roleEntered
  split
  · refine ⟨?_, ?_, ((memFrame.refl _ s).setFld _ _ (.of_mem (by decide) ..)).setFlag _ _ (.of_mem (by decide) ..)⟩
    · rw [chnState_setFlag (by decide), chnState_setChnState (by omega)]
    · rw [State.flag_setFlag_bits _ _ _ _ _ _ _ _ _ _ _ _ (by decide) (by decide), setChnState,
        State.flag_setFld_bits _ _ _ _ _ _ _ _ _ _ _ _ (by decide) (by decide), hal]
  · split
    · obtain ⟨hst, hal', hframe⟩ := chnAcquire_shows s
      exact ⟨hst, hal', hframe.1.mono (by decide), hframe.2⟩
    · exact ⟨chnState_setChnState (by decide) s, (State.flag_setFld_bits _ _ _ _ _ _ _ _ _ _ _ _ (by decide) (by decide)).trans hal,
        (memFrame.refl _ s).setFld _ _ (.of_mem (by decide) ..)⟩

/-! ### The frame that leaves (R429, R430) -/

theorem crc5Bit_lt {c : Nat} (b : Bool) : crc5Bit c b < 2 ^ 5 := by
  have hlt : c * 2 % 32 < 2 ^ 5 := Nat.mod_lt _ (by decide)
  unfold crc5Bit
  dsimp only
  split
  · exact Nat.xor_lt_two_pow hlt (by decide)
  · exact hlt

theorem frameCrc_lt (v : Nat) : frameCrc v < 2 ^ 5 :=
  List.foldlRecOn (motive := (· < 2 ^ 5)) _ crc5Bit (by decide) fun _ _ b _ => crc5Bit_lt b

/-- The CRC covers the bits below it. -/
theorem frameCrc_add (v x : Nat) : frameCrc (v + x * 2 ^ 58) = frameCrc v := by
  have hbits : (List.range 57).map (fun i => (v + x * 2 ^ 58).testBit (i + 1)) = (List.range 57).map (fun i => v.testBit (i + 1)) := by
    refine List.map_congr_left fun i hi => ?_
    have hi57 : i + 1 + 1 ≤ 58 := by have := List.mem_range.1 hi; omega
    rw [testBit_eq_bitsAt, testBit_eq_bitsAt, bitsAt_add_above _ _ hi57]
  rw [frameCrc, hbits, ← frameCrc]

/-- A frame with its CRC. -/
theorem toNat_withCrc {v : Nat} (hv : v < 2 ^ 58) : (BitVec.ofNat 64 (v + frameCrc v * 2 ^ 58)).toNat = v + frameCrc v * 2 ^ 58 := by
  have := frameCrc_lt v
  rw [BitVec.toNat_ofNat, Nat.mod_eq_of_lt (by omega)]

/-- START and SYNC hold, and the CRC is the frame's own. -/
theorem frameOk_withCrc {v : Nat} (hv : v < 2 ^ 58) (hstart : v % 2 = 1) (hsync : bitsAt v 1 3 = 5) :
    frameOk (BitVec.ofNat 64 (v + frameCrc v * 2 ^ 58)).toNat = true := by
  have hcrc := frameCrc_lt v
  have h0 : (v + frameCrc v * 2 ^ 58).testBit 0 = true := by rw [Nat.testBit_zero, decide_eq_true_eq]; omega
  have h63 : (v + frameCrc v * 2 ^ 58).testBit 63 = false := Nat.testBit_lt_two_pow (by omega)
  rw [toNat_withCrc hv, frameOk, h0, h63, bitsAt_add_above _ _ (by decide), hsync, bitsAt_add_below hv hcrc, frameCrc_add]
  simp

/-- A frame without its CRC. -/
def frameBody (hops turn : Nat) (report : Option Nat) (cmd part arg : Nat) (upok : Bool) : Nat :=
  let rep := match report with
    | some r => 2 ^ 14 + r % 2 ^ 20 * 2 ^ 15
    | none => 0
  1 + 5 * 2 + hops % 32 * 2 ^ 4 + turn % 32 * 2 ^ 9 + rep + cmd % 4 * 2 ^ 35 + part % 4 * 2 ^ 37 + arg % 2 ^ 18 * 2 ^ 39 + bit01 upok * 2 ^ 57

theorem chainFrame_eq (hops turn : Nat) (report : Option Nat) (cmd part arg : Nat) (upok : Bool) :
    chainFrame hops turn report cmd part arg upok = BitVec.ofNat 64 (frameBody hops turn report cmd part arg upok +
      frameCrc (frameBody hops turn report cmd part arg upok) * 2 ^ 58) := by
  unfold chainFrame frameBody
  cases report <;> rfl

theorem frameBody_shows (hops turn : Nat) (report : Option Nat) (cmd part arg : Nat) (upok : Bool) :
    frameBody hops turn report cmd part arg upok < 2 ^ 58 ∧ frameBody hops turn report cmd part arg upok % 2 = 1 ∧
      bitsAt (frameBody hops turn report cmd part arg upok) 1 3 = 5 ∧ bitsAt (frameBody hops turn report cmd part arg upok) 4 5 = hops % 32 := by
  have hok := bit01_lt upok
  cases report <;> simp only [frameBody, bitsAt_eq] <;> omega

theorem chainFrame_ok (hops turn : Nat) (report : Option Nat) (cmd part arg : Nat) (upok : Bool) :
    frameOk (chainFrame hops turn report cmd part arg upok).toNat = true := by
  obtain ⟨hlt, hstart, hsync, -⟩ := frameBody_shows hops turn report cmd part arg upok
  rw [chainFrame_eq]
  exact frameOk_withCrc hlt hstart hsync

theorem hops_chainFrame {hops : Nat} (h : hops < 32) (turn : Nat) (report : Option Nat) (cmd part arg : Nat) (upok : Bool) :
    bitsAt (chainFrame hops turn report cmd part arg upok).toNat 4 5 = hops := by
  obtain ⟨hlt, -, -, hhops⟩ := frameBody_shows hops turn report cmd part arg upok
  rw [chainFrame_eq, toNat_withCrc hlt, bitsAt_add_above _ _ (by decide), hhops, Nat.mod_eq_of_lt h]

/-- At a wheel boundary a device of the chain sends a frame with its position, and the report that waited. -/
theorem chainTx_sends (hrole : chnRole s ≠ 0) (hbeat : s.beat % 16 = 0) :
    ∃ turn cmd part arg x, chainTx s = modChn s (fun _ => x) ∧
      x.out = chainFrame (chnPos s) turn s.chn.report cmd part arg (chnUpok s) ∧ x.report = none := by
  unfold chainTx
  rw [if_neg (not_or.2 ⟨hrole, not_not.2 hbeat⟩)]
  exact ⟨_, _, _, _, _, rfl, rfl, rfl⟩

/-! ### The frame that arrives (R431, R433 to R436, R441) -/

theorem chainRx_of_bad (hfollows : chnFollows s = true) {frame : BitVec 64} (hbad : frameOk frame.toNat = false) (arrival : Int) :
    chainRx s frame arrival = (modChn s fun c => { c with lost := c.lost + 1, arrival := none, rxCount := none }).count .CHN_FRAME_ERR := by
  rw [chainRx, if_neg (by rw [hfollows]; decide)]
  exact if_pos (by rw [hbad]; rfl)

/-- What a good frame may change of the registers. -/
abbrev rxParts : List Part := [F.INV_STATUS_HOLDOVER.part []] ++ globalParts [.CHN_STATUS, .TRG_CAL_START_LO, .TRG_CAL_START_HI]

/-- From `s` to `t` the count of lost frames and the turn stay, memory and the registers that a good frame does not touch. -/
structure RxKeeps (s t : State) : Prop where
  lost : t.chn.lost = s.chn.lost
  rxTurn : t.chn.rxTurn = s.chn.rxTurn
  frame : memFrame rxParts s t

theorem RxKeeps.refl (s : State) : RxKeeps s s := ⟨rfl, rfl, .refl _ s⟩

theorem RxKeeps.modChn (h : RxKeeps s t) (f : Chain → Chain)
    (hf : ∀ c, (f c).lost = c.lost ∧ (f c).rxTurn = c.rxTurn := by exact fun _ => ⟨rfl, rfl⟩) : RxKeeps s (modChn t f) :=
  ⟨(hf t.chn).1.trans h.lost, (hf t.chn).2.trans h.rxTurn, h.frame.modChn f⟩

theorem RxKeeps.setFld (h : RxKeeps s t) {f : Field} (hf : holdsFld rxParts f 0 0 0 0) (v : Nat) : RxKeeps s (t.setFld f v) :=
  ⟨h.lost, h.rxTurn, h.frame.setFld f v hf⟩

theorem RxKeeps.setStatus (h : RxKeeps s t) {f : Field} (hf : f.reg = .CHN_STATUS) (hw : f.lo + f.width ≤ 32) (v : Nat) :
    RxKeeps s (t.setFld f v) :=
  h.setFld (.of_mem_global (by rw [hf]; decide) hw ..) v

theorem RxKeeps.ite {p : Prop} [Decidable p] {u : State} (h : RxKeeps s t) (h' : RxKeeps s u) : RxKeeps s (if p then t else u) := by
  split <;> assumption

theorem RxKeeps.chnAlignFault (h : RxKeeps s t) : RxKeeps s (chnAlignFault t) := by
  refine ⟨?_, ?_, h.frame.raise ..⟩
  · rw [Machine.chnAlignFault, State.raise_chn, h.lost]
  · rw [Machine.chnAlignFault, State.raise_chn, h.rxTurn]

theorem RxKeeps.chnFlagFault (h : RxKeeps s t) {f : Field} (hf : f.reg = .CHN_STATUS) (hw : f.lo + f.width ≤ 32) : RxKeeps s (chnFlagFault t f) :=
  .ite h (h.setStatus hf hw _).chnAlignFault

theorem RxKeeps.chnUnaligned (h : RxKeeps s t) : RxKeeps s (chnUnaligned t) :=
  (((h.modChn _).setStatus rfl (by decide) _).setStatus rfl (by decide) _).chnAlignFault

theorem RxKeeps.countSequence (h : RxKeeps s t) (tick count : Nat) : RxKeeps s (countSequence t tick count) := by
  have hfresh := h.modChn fun c => { c.fresh with near := false }
  have hloaded : RxKeeps s { Machine.modChn t fun c => { c.fresh with near := false } with beat := count + (t.now - tick) } :=
    ⟨hfresh.lost, hfresh.rxTurn, hfresh.frame.of_eq rfl rfl rfl⟩
  exact .ite (hloaded.setStatus rfl (by decide) _) (.ite (h.setStatus rfl (by decide) _).chnUnaligned h)

theorem RxKeeps.countPart (h : RxKeeps s t) (part arg : Nat) : RxKeeps s (countPart t part arg) := by
  unfold Machine.countPart
  dsimp only
  split
  · exact h.modChn _
  · split
    · exact h
    · exact .ite (h.modChn _) (.ite ((h.modChn _).countSequence _ _) (h.modChn _))

theorem RxKeeps.epochPart (h : RxKeeps s t) (part arg : Nat) : RxKeeps s (epochPart t part arg) := by
  have hpart := h.modChn (fun c => if part = 0 then { c with epochLow := some arg } else { c with epochHigh := some arg })
    fun _ => by split <;> exact ⟨rfl, rfl⟩
  unfold Machine.epochPart
  dsimp only
  split
  · exact .ite ((hpart.modChn _).setStatus rfl (by decide) _) hpart
  · exact hpart

theorem RxKeeps.calHold (h : RxKeeps s t) (beat : Nat) : RxKeeps s (calHold t beat) := by
  have hheld := h.modChn fun c => { c with calAt := some (t.now + (beat - t.beat)), calLow := none, calHigh := none }
  exact ⟨hheld.lost, hheld.rxTurn, (hheld.frame.wr _ _ (.of_mem (by decide) ..)).wr _ _ (.of_mem (by decide) ..)⟩

theorem RxKeeps.calPart (h : RxKeeps s t) (part arg : Nat) : RxKeeps s (calPart t part arg) := by
  have hpart := h.modChn (fun c => if part = 0 then { c with calLow := some arg } else { c with calHigh := some arg })
    fun _ => by split <;> exact ⟨rfl, rfl⟩
  unfold Machine.calPart
  dsimp only
  split
  · exact .ite (hpart.calHold _) hpart
  · exact hpart

theorem RxKeeps.upokSeen (h : RxKeeps s t) (ok : Bool) : RxKeeps s (upokSeen t ok) := by
  have hseen := h.modChn fun c => { c with rxUpok := ok }
  exact .ite ((hseen.setStatus rfl (by decide) _).chnFlagFault rfl (by decide)) (.ite (hseen.setStatus rfl (by decide) _) hseen)

/-! #### The stages of a good frame -/

/-- A device in HOLDOVER whose clock is locked begins to leave it (R438). -/
def rxLeave (s : State) : State :=
  if chnState s = 4 ∧ !s.chn.leaving ∧ s.flag F.CHN_STATUS_CLK_LOCK then
    (modChn s fun c => { c.fresh with leaving := true }).setFlag F.INV_STATUS_HOLDOVER false
  else s

/-- The position of the sender is checked (R436). -/
def rxPosition (s : State) (sub : Bool) (hops : Nat) : State :=
  if (if sub then hops ≠ 0 else hops + 1 ≠ chnPos s) then chnFlagFault s F.CHN_STATUS_POS_ERR else s

/-- The report of the frame completes a turn (R433). -/
def rxReport (s : State) (sub : Bool) (w : Nat) : State :=
  match s.chn.arrival with
  | some a => if w.testBit 14 ∧ !sub then turnTaken s a (bitsAt w 15 20) else s
  | none => s

/-- The arrival of the frame begins a turn, or is one on a SUBMASTER (R433, R444). -/
def rxArrival (s : State) (sub : Bool) (turn : Nat) (arrival : Int) : State :=
  if sub then (if turn = 0 then turnTaken s arrival 0 else s)
  else modChn s fun c => { c with arrival := if turn = chnPos s then some arrival else none }

/-- The command of the frame (R430). -/
def rxCommand (s : State) (w : Nat) : State :=
  match bitsAt w 35 2 with
  | 0 => countPart s (bitsAt w 37 2) (bitsAt w 39 18)
  | 1 => if bitsAt w 37 2 < 2 then epochPart s (bitsAt w 37 2) (bitsAt w 39 18) else s
  | 2 => if bitsAt w 37 2 < 2 then calPart s (bitsAt w 37 2) (bitsAt w 39 18) else s
  | _ => s

/-- A good frame sets the count of lost frames and the turn. -/
def rxTaken (s : State) (w : Nat) : State := modChn s fun c => { c with lost := 0, rxTurn := bitsAt w 9 5 }

theorem chainRx_of_good (hfollows : chnFollows s = true) {frame : BitVec 64} (hok : frameOk frame.toNat = true) (arrival : Int) :
    chainRx s frame arrival = rxCommand (upokSeen (rxArrival (rxReport (rxPosition (rxLeave (rxTaken s frame.toNat)) (chnRole s == 3)
      (bitsAt frame.toNat 4 5)) (chnRole s == 3) frame.toNat) (chnRole s == 3) (bitsAt frame.toNat 9 5) arrival) (frame.toNat.testBit 57))
      frame.toNat := by
  rw [chainRx, if_neg (by rw [hfollows]; decide)]
  exact if_neg (by rw [hok]; decide)

theorem RxKeeps.rxLeave (h : RxKeeps s t) : RxKeeps s (rxLeave t) :=
  .ite ((h.modChn _).setFld (.of_mem (by decide) ..) _) h

theorem RxKeeps.rxPosition (h : RxKeeps s t) (sub : Bool) (hops : Nat) : RxKeeps s (rxPosition t sub hops) :=
  .ite (h.chnFlagFault rfl (by decide)) h

theorem RxKeeps.rxReport (h : RxKeeps s t) (sub : Bool) (w : Nat) : RxKeeps s (rxReport t sub w) := by
  unfold Machine.rxReport
  split
  · exact .ite (h.modChn _) h
  · exact h

theorem RxKeeps.rxArrival (h : RxKeeps s t) (sub : Bool) (turn : Nat) (arrival : Int) : RxKeeps s (rxArrival t sub turn arrival) :=
  .ite (.ite (h.modChn _) h) (h.modChn _)

theorem RxKeeps.rxCommand (h : RxKeeps s t) (w : Nat) : RxKeeps s (rxCommand t w) := by
  unfold Machine.rxCommand
  split
  · exact h.countPart _ _
  · exact .ite (h.epochPart _ _) h
  · exact .ite (h.calPart _ _) h
  · exact h

theorem chainRx_keeps (hfollows : chnFollows s = true) {frame : BitVec 64} (hok : frameOk frame.toNat = true) (arrival : Int) :
    RxKeeps (rxTaken s frame.toNat) (chainRx s frame arrival) := by
  rw [chainRx_of_good hfollows hok]
  exact ((((((RxKeeps.refl _).rxLeave).rxPosition _ _).rxReport _ _).rxArrival _ _ _).upokSeen _).rxCommand _

/-! ### The return turn and its stamp (R431, R432), and an average in ACQUIRE (R433, R434) -/

theorem returnTurn_of_turn (hrole : chnRole s = 2) (hturn : s.chn.rxTurn = chnPos s) (hpos : s.flag F.CHN_STATUS_POS_ERR = false)
    (hbeat : s.beat % 16 = 8) : returnTurn s = modChn s fun c => { c with retPulse := s.now + 1 } :=
  if_pos ⟨hrole, hturn, by rw [hpos]; rfl, hbeat⟩

theorem returnStamp_of_own (hrole : chnRole s ≠ 0) (hout : bitsAt s.chn.out.toNat 9 5 = chnPos s + 1) {rpt : Int} (h0 : 0 ≤ rpt)
    (hlt : rpt < 2 ^ 20) : returnStamp s rpt = modChn s fun c => { c with report := some rpt.toNat } := by
  rw [returnStamp, if_pos ⟨hrole, hout⟩, if_pos ⟨h0, hlt⟩]

/-- LINK and OFFSET show the average, and the next one begins. -/
def averageShown (s : State) : State :=
  modChn ((s.wr .CHN_LINK (BitVec.ofNat 32 (pat 20 (roundDiv (s.chn.sumA + s.chn.sumR) (2 * s.chn.turns))))).wr .CHN_OFFSET
    (BitVec.ofInt 32 (roundDiv (averageOffset s) (2 * s.chn.turns)))) fun c => { c with sumA := 0, sumR := 0, turns := 0 }

/-- The first average of a SLAVE in ACQUIRE steps its grid. -/
theorem chainAverage_of_first (hrole : chnRole s = 2) (h0 : s.chn.turns ≠ 0) (hfull : averageTurns s ≤ s.chn.turns)
    (hlink : s.chn.sumA + s.chn.sumR ≤ 393216 * s.chn.turns) (hst : chnState s = 2) (hstep : s.chn.stepped = false) :
    chainAverage s = modChn (averageShown s) fun c =>
      { c with grid := c.grid - tenths (averageOffset s) s.chn.turns, stepped := true, rxCount := none } := by
  have hst' : chnState (averageShown s) = 2 := by
    rw [averageShown, chnState, fld_modChn, State.fld_wr_reg _ _ _ _ _ _ _ _ _ _ _ _ (by decide),
      State.fld_wr_reg _ _ _ _ _ _ _ _ _ _ _ _ (by decide)]
    exact hst
  have hcomplete : ¬((!chnFollows s) = true ∨ s.chn.turns = 0 ∨ s.chn.turns < averageTurns s) := by
    simp [chnFollows, hrole, h0, hfull]
  have hshort : ¬((!decide (chnRole s = 3)) = true ∧ (393216 * s.chn.turns : Int) < s.chn.sumA + s.chn.sumR) :=
    fun h => absurd h.2 (not_lt.2 hlink)
  have hslave : ¬chnRole s = 3 := by rw [hrole]; decide
  unfold chainAverage
  dsimp only
  rw [if_neg hcomplete, if_neg hslave]
  refine (if_neg hshort).trans ?_
  rw [← averageShown, hst', hstep]
  rfl

theorem averageShown_shows (s : State) :
    (averageShown s).rd .CHN_OFFSET = BitVec.ofInt 32 (roundDiv (averageOffset s) (2 * s.chn.turns)) ∧
      (averageShown s).rd .CHN_LINK = BitVec.ofNat 32 (pat 20 (roundDiv (s.chn.sumA + s.chn.sumR) (2 * s.chn.turns))) ∧
      memFrame [{ reg := .CHN_LINK, idx := [] }, { reg := .CHN_OFFSET, idx := [] }] s (averageShown s) := by
  refine ⟨State.rd_wr_same .., ?_, (((memFrame.refl _ s).wr _ _ (.of_mem (.head _) ..)).wr _ _ (.of_mem (.tail _ (.head _)) ..)).modChn _⟩
  rw [averageShown, rd_modChn, State.rd_wr_reg _ _ _ _ _ _ _ _ _ _ (by decide), State.rd_wr_same]

end

/-- Settles O36: the reference, HOLDOVER, ACQUIRE and ROLE each by the state they leave; a frame that leaves carries its own CRC
(`chainFrame_ok`), and what a frame that arrives does, stage by stage, keeps the turn that it set (`chainRx_keeps`). -/
theorem invarAndChain : Obligations.InvarAndChain := by
  unfold Obligations.InvarAndChain
  refine ⟨fun s hvalid => ⟨_, congrArg Host.Outcome.next (invRefLoss_of_valid hvalid), ?_⟩,
    fun s hsel => ⟨_, congrArg Host.Outcome.next (if_neg hsel), ?_⟩,
    fun s hvalid hhold => ⟨_, congrArg Host.Outcome.next (if_pos ⟨hvalid, by rw [hhold]; decide⟩), ?_⟩,
    fun s hfollows hst hlock hwheels => ⟨_, congrArg Host.Outcome.next (chnClkLock_of_waiting hfollows hst hlock hwheels), ?_⟩,
    fun s hrole hbeat => ?_,
    fun s frame arrival hfollows hbad => ⟨_, congrArg Host.Outcome.next (chainRx_of_bad hfollows hbad arrival), ?_⟩,
    fun s frame arrival hfollows hok => ⟨_, rfl, ?_⟩,
    fun s hrole hturn hpos hbeat => ⟨_, congrArg Host.Outcome.next (returnTurn_of_turn hrole hturn hpos hbeat), rfl, (memFrame.refl _ s).modChn _⟩,
    fun s rpt hrole hout h0 hlt => ⟨_, congrArg Host.Outcome.next (returnStamp_of_own hrole hout h0 hlt), rfl, (memFrame.refl _ s).modChn _⟩,
    fun s hrole h0 hfull hlink hst hstep => ⟨_, congrArg Host.Outcome.next (chainAverage_of_first hrole h0 hfull hlink hst hstep), ?_⟩,
    fun s clock hfollows h4 h5 hlost => ⟨_, congrArg Host.Outcome.next (chnHoldover_of_lost hfollows h4 h5 hlost), ?_⟩,
    fun s role pos hnew hwheels => ⟨_, congrArg (Host.Outcome.next ∘ driveLines) (chnRoleWrite_of_stopped hnew hwheels), ?_⟩,
    fun s role pos hnew hwheels => ⟨_, congrArg (Host.Outcome.next ∘ driveLines) (chnRoleWrite_of_running hnew hwheels), ?_⟩,
    fun s hfollows hwheels hlock => ⟨_, congrArg Host.Outcome.next (chnRealign_of_locked hfollows hwheels hlock), chnAcquire_shows s⟩,
    fun s hwheels => ⟨_, congrArg Host.Outcome.next (chnRealign_of_running hwheels), ?_⟩⟩
  · obtain ⟨hvalid, hhold, hlost, hlock, hdisc, hcount⟩ := refLost_shows s
    have hregs : ((refLost s).raise Src.INV_REF Scope.device 0).regs = (refLost s).regs := State.raise_regs ..
    exact ⟨(State.flag_of_regs hregs ..).trans hvalid, (State.flag_of_regs hregs ..).trans hhold, (State.flag_of_regs hregs ..).trans hlost,
      (State.flag_of_regs hregs ..).trans hlock, (State.rd_of_regs hregs ..).trans hdisc, (State.rd_of_regs hregs ..).trans hcount,
      mem_raised_raise (refLost s) _ _ 0 (by decide), (memFrame_refLost s).raise ..⟩
  · refine ⟨?_, State.flag_setFlag_same _ _ _ _ _ _ _ (by decide) rfl, ?_,
      ((memFrame.refl _ s).setFlag _ _ (.of_mem (.head _) ..)).setFlag _ _ (.of_mem (.tail _ (.head _)) ..)⟩
    · rw [State.flag_setFlag_bits _ _ _ _ _ _ _ _ _ _ _ _ (by decide) (by decide), State.flag_setFlag_same _ _ _ _ _ _ _ (by decide) rfl]
    · rw [State.rd_setFlag_reg _ _ _ _ _ _ _ _ _ _ _ _ (by decide), State.rd_setFlag_reg _ _ _ _ _ _ _ _ _ _ _ _ (by decide)]
  · exact ⟨State.flag_setFlag_same _ _ _ _ _ _ _ (by decide) rfl, (memFrame.refl _ s).setFlag _ _ (.of_mem (.head _) ..)⟩
  · obtain ⟨hst, -, hframe⟩ := chnAcquire_shows (clkLocked s)
    obtain ⟨hlock, hvalid⟩ := chnAcquire_clkLocked_shows s
    exact ⟨hst, hlock, hvalid, ((memFrame_clkLocked s).1.mono (by decide)).trans (hframe.1.mono (by decide)), (memFrame_clkLocked s).2.trans hframe.2⟩
  · obtain ⟨turn, cmd, part, arg, x, htx, hout, hreport⟩ := chainTx_sends hrole hbeat
    have hpos : chnPos s < 32 := State.fld_lt s F.CHN_CFG_POS 0 0 0 0
    refine ⟨_, congrArg Host.Outcome.next htx, ?_, ?_, hreport, (memFrame.refl _ s).modChn _⟩
    · rw [chn_modChn, hout]
      exact chainFrame_ok ..
    · rw [chn_modChn, hout]
      exact hops_chainFrame hpos ..
  · exact ⟨State.rd_count_same .., rfl, rfl, rfl, rfl, ((memFrame.refl _ s).modChn _).count _ (.of_mem (.head _) ..)⟩
  · have hrx := chainRx_keeps hfollows hok arrival
    have hframe : memFrame rxParts s (chainRx s frame arrival) := ((memFrame.refl _ s).modChn _).trans hrx.frame
    exact ⟨hframe.1.rd_eq (by decide) 0 0 0 0, hrx.lost, hrx.rxTurn, hframe⟩
  · obtain ⟨hoffset, hlink, hframe⟩ := averageShown_shows s
    exact ⟨rfl, rfl, rfl, hoffset, hlink, hframe.modChn _⟩
  · obtain ⟨hlock, hcount, hframe⟩ := clkLostIf_shows s clock
    obtain ⟨hst, hal, hlock', hhold, hcount'⟩ := heldOver_shows (clkLostIf s clock)
    have hregs : ((heldOver (clkLostIf s clock)).raise Src.CHN_LINK Scope.device 0).regs = (heldOver (clkLostIf s clock)).regs := State.raise_regs ..
    exact ⟨(State.fld_of_regs hregs ..).trans hst, (State.flag_of_regs hregs ..).trans hal,
      (State.flag_of_regs hregs ..).trans (hlock'.trans hlock), (State.flag_of_regs hregs ..).trans hhold,
      (State.rd_of_regs hregs ..).trans (hcount'.trans (by rw [hcount])), mem_raised_raise _ _ _ 0 (by decide),
      (memFrame_heldOver hframe).raise ..⟩
  · obtain ⟨hrole, hpos, hal, hlock⟩ := roleTaken_shows s role.isLt pos.isLt
    obtain ⟨hst, hal', hframe⟩ := roleEntered_shows (roleTaken s role.toNat pos.toNat) role.isLt hal
    have hregs := regs_driveLines (roleEntered (roleTaken s role.toNat pos.toNat) role.toNat)
    refine ⟨(State.fld_of_regs hregs ..).trans ((hframe.1.fld_of_reg (by decide) ..).trans hrole),
      (State.fld_of_regs hregs ..).trans ((hframe.1.fld_of_reg (by decide) ..).trans hpos), (State.fld_of_regs hregs ..).trans (hst.trans (by rw [hlock])),
      (State.flag_of_regs hregs ..).trans hal', ((memFrame_roleTaken s _ _).trans ⟨hframe.1.mono (by decide), hframe.2⟩).driveLines⟩
  · exact ⟨(State.flag_of_regs (regs_driveLines _) ..).trans (State.flag_setFlag_same _ _ _ _ _ _ _ (by decide) rfl), chn_driveLines _,
      ((memFrame.refl _ s).setFlag _ _ (.of_mem (.head _) ..)).driveLines⟩
  · exact ⟨State.flag_setFlag_same _ _ _ _ _ _ _ (by decide) rfl, rfl, (memFrame.refl _ s).setFlag _ _ (.of_mem (.head _) ..)⟩

end Sys2Proof.Machine

namespace Sys2Proof.Machine

/-! ## EPOCH (R440 to R443) -/

section
variable {s t : State} {l : List Part}

/-! ### The command (R440) -/

theorem epochAsk_of_refused (h : s.pair .CHN_EPOCH_LO .CHN_EPOCH_HI % 2 ^ 24 ≠ 0 ∨ s.pair .CHN_EPOCH_LO .CHN_EPOCH_HI < s.beat + 2048 ∨
    chnFollows s = true ∨ s.chn.epoch.isSome = true) : epochAsk s = s.setFlag F.CHN_STATUS_EPOCH_REFUSED true :=
  if_pos h

/-- The device holds E, and its frames begin with the first part of the command. -/
def epochHeld (s : State) : State :=
  (modChn s fun c => { c with epoch := some (s.pair .CHN_EPOCH_LO .CHN_EPOCH_HI), txAlt := 0 }).setFlag F.CHN_STATUS_EPOCH_PEND true

theorem epochAsk_of_accepted (hmul : s.pair .CHN_EPOCH_LO .CHN_EPOCH_HI % 2 ^ 24 = 0)
    (hlead : s.beat + 2048 ≤ s.pair .CHN_EPOCH_LO .CHN_EPOCH_HI) (hfollows : chnFollows s = false) (hnone : s.chn.epoch = none) :
    epochAsk s = epochHeld s := by
  refine if_neg ?_
  rintro (hne | hlt | hf | hsome)
  · exact hne hmul
  · exact Nat.not_lt.2 hlead hlt
  · exact absurd hf (by rw [hfollows]; decide)
  · exact absurd hsome (by rw [hnone]; decide)

/-! ### The boundary of beat E (R442, R443) -/

/-- The boundary of E is recorded, and no EPOCH is pending. -/
def epochTaken (s : State) (e : Nat) : State :=
  (modChn ((s.journal JType.EPOCH 16 0 e).event EvCode.EPOCH 16 0 (e / 2 ^ 24))
    fun c => { c with epoch := none, epochLow := none, epochHigh := none }).setFlag F.CHN_STATUS_EPOCH_PEND false

/-- The count is 0 from the boundary of E on, and LAST_EPOCH shows E. -/
def epochBegun (s : State) (e : Nat) : State :=
  { epochTaken s e with beat := 0 }.setPair .CHN_LAST_EPOCH_LO .CHN_LAST_EPOCH_HI e

/-- The beat numbers that slice `n` holds keep their instants. -/
def epochSlice (e : Nat) (s : State) (n : Fin 16) : State :=
  epochPair (epochPair (rxEpoch (synthEpoch s n) n e) e .SEQ_START_LO .SEQ_START_HI n) e .SLC_WHEEL_START_LO .SLC_WHEEL_START_HI n

/-- The beat numbers of the slices, the boot and the image loader keep their instants. -/
def epochHolders (s : State) (e : Nat) : State :=
  let s := eachSlice s (epochSlice e)
  let s := if s.boot.runSlices = 0 then s else epochPair s e .BOOT_RUN_AT_LO .BOOT_RUN_AT_HI
  epochPair (epochPair s e .GLB_IMG_REJOIN_LO .GLB_IMG_REJOIN_HI) e .GLB_IMG_DRAIN_LO .GLB_IMG_DRAIN_HI

theorem epochApply_of_due {e : Nat} (hheld : s.chn.epoch = some e) (hbeat : s.beat = e) : epochApply s = epochHolders (epochBegun s e) e := by
  unfold epochApply
  rw [hheld]
  exact if_neg (not_not.2 hbeat)

@[simp] theorem State.peak_now (s : State) (f : Field) (v i j : Nat) : (s.peak f v i j).now = s.now := by
  unfold State.peak; split <;> simp

@[simp] theorem State.pushEvents_now (s : State) (records : List EventRecord) : (s.pushEvents records).now = s.now :=
  State.peak_now ..

@[simp] theorem State.event_now (s : State) (code src index data : Nat) : (s.event code src index data).now = s.now := by
  unfold State.event
  dsimp only
  split
  · rfl
  · split
    · split
      · exact State.pushEvents_now ..
      · rfl
    · split
      · exact State.pushEvents_now ..
      · rfl

theorem memFrame.event (h : memFrame l s t) (code src index data : Nat) (hl : ∀ x ∈ eventParts, x ∈ l) :
    memFrame l s (t.event code src index data) :=
  ⟨h.1.event code src index data hl, h.2.event code src index data⟩

theorem memFrame.setPair (h : memFrame l s t) {lo hi : Reg} (v : Nat) {i : Nat} (h1 : holdsReg l lo i 0 0 0) (h2 : holdsReg l hi i 0 0 0) :
    memFrame l s (t.setPair lo hi v i) :=
  (h.wr _ _ h1).wr _ _ h2

/-- The beat numbers that EPOCH moves. -/
abbrev epochHolderParts : List Part :=
  globalParts [.SEQ_START_LO, .SEQ_START_HI, .SLC_WHEEL_START_LO, .SLC_WHEEL_START_HI, .BOOT_RUN_AT_LO, .BOOT_RUN_AT_HI, .GLB_IMG_REJOIN_LO,
    .GLB_IMG_REJOIN_HI, .GLB_IMG_DRAIN_LO, .GLB_IMG_DRAIN_HI]

/-- What the boundary of E itself may change of the registers. -/
abbrev epochBegunParts : List Part :=
  [F.CHN_STATUS_EPOCH_PEND.part []] ++ globalParts [.CHN_LAST_EPOCH_LO, .CHN_LAST_EPOCH_HI] ++ eventParts

theorem epochBegun_shows (s : State) {e : Nat} (he : e < 2 ^ 64) :
    (epochBegun s e).now = s.now ∧ (epochBegun s e).pair .CHN_LAST_EPOCH_LO .CHN_LAST_EPOCH_HI = e ∧
      (epochBegun s e).flag F.CHN_STATUS_EPOCH_PEND = false ∧ memFrame epochBegunParts s (epochBegun s e) := by
  refine ⟨(State.event_now ..).trans (State.journal_now ..), State.pair_setPair_same _ (by decide) he 0 0 0, ?_, ?_⟩
  · rw [epochBegun, State.setPair, State.flag_wr_reg _ _ _ _ _ _ _ _ _ _ _ _ (by decide), State.flag_wr_reg _ _ _ _ _ _ _ _ _ _ _ _ (by decide)]
    exact State.flag_setFlag_same _ _ _ _ _ _ _ (by decide) rfl
  · have htaken : memFrame epochBegunParts s (epochTaken s e) :=
      ((((memFrame.refl _ s).journal ..).event _ _ _ _ (by decide)).modChn _).setFlag _ _ (.of_mem (.head _) ..)
    have hcount : memFrame epochBegunParts s { epochTaken s e with beat := 0 } := htaken.of_eq rfl rfl rfl
    exact hcount.setPair _ (.of_mem (by decide) ..) (.of_mem (by decide) ..)

/-- From `s` to `t` the count, the tick and the chain stay, memory and every register but the beat numbers that EPOCH moves. -/
structure EpochKeeps (s t : State) : Prop where
  beat : t.beat = s.beat
  now : t.now = s.now
  chn : t.chn = s.chn
  frame : memFrame epochHolderParts s t

theorem EpochKeeps.refl (s : State) : EpochKeeps s s := ⟨rfl, rfl, rfl, .refl _ s⟩

theorem EpochKeeps.modSl (h : EpochKeeps s t) (n : Fin 16) (f : Slice → Slice)
    (hf : ∀ x, (f x).store.bytes = x.store.bytes := by exact fun _ => rfl) : EpochKeeps s (t.modSl n f) :=
  ⟨h.beat, h.now, h.chn, h.frame.1.modSl n f, h.frame.2.modSl n f hf⟩

theorem EpochKeeps.modTx (h : EpochKeeps s t) (n : Fin 16) (k : Fin 4) (f : TxChannel → TxChannel) : EpochKeeps s (modTx t n k f) := h.modSl n _

theorem EpochKeeps.foldl {α : Type} {f : State → α → State} (hf : ∀ t a, EpochKeeps s t → EpochKeeps s (f t a)) (xs : List α)
    (h : EpochKeeps s t) : EpochKeeps s (xs.foldl f t) :=
  List.foldlRecOn xs f h fun t ht a _ => hf t a ht

theorem EpochKeeps.epochPair (h : EpochKeeps s t) (e : Nat) {lo hi : Reg} {i : Nat} (h1 : holdsReg epochHolderParts lo i 0 0 0)
    (h2 : holdsReg epochHolderParts hi i 0 0 0) : EpochKeeps s (epochPair t e lo hi i) := by
  unfold Machine.epochPair
  dsimp only
  split
  · exact ⟨(State.setPair_beat ..).trans h.beat, (State.setPair_now ..).trans h.now, (State.setPair_chn ..).trans h.chn, h.frame.setPair _ h1 h2⟩
  · exact h

theorem EpochKeeps.synthEpoch (h : EpochKeeps s t) (n : Fin 16) : EpochKeeps s (synthEpoch t n) := by
  unfold Machine.synthEpoch Machine.eachTone
  refine .foldl (fun u x hu => ?_) _ (.foldl (fun u k hu => .foldl (fun v r hv => ?_) _ hu) _ h)
  · exact hu.modSl n _
  · exact hv.modTx n k _

theorem EpochKeeps.rxEpoch (h : EpochKeeps s t) (n : Fin 16) (e : Nat) : EpochKeeps s (rxEpoch t n e) := by
  unfold Machine.rxEpoch
  refine .foldl (fun u st hu => ?_) _ (.foldl (fun u x hu => ?_) _ h)
  · exact hu.modSl n _
  · exact hu.modSl n _

theorem EpochKeeps.epochSlice (h : EpochKeeps s t) (n : Fin 16) (e : Nat) : EpochKeeps s (epochSlice e t n) :=
  (((h.synthEpoch n).rxEpoch n e).epochPair e (.of_mem (by decide) ..) (.of_mem (by decide) ..)).epochPair e (.of_mem (by decide) ..)
    (.of_mem (by decide) ..)

theorem epochHolders_keeps (s : State) (e : Nat) : EpochKeeps s (epochHolders s e) := by
  have hslices : EpochKeeps s (eachSlice s (epochSlice e)) := .foldl (fun _ n ht => ht.epochSlice n e) _ (.refl s)
  unfold epochHolders
  dsimp only
  refine .epochPair (.epochPair ?_ e (.of_mem (by decide) ..) (.of_mem (by decide) ..)) e (.of_mem (by decide) ..) (.of_mem (by decide) ..)
  split
  · exact hslices
  · exact hslices.epochPair e (.of_mem (by decide) ..) (.of_mem (by decide) ..)

/-- What the boundary of E may change of the registers. -/
abbrev epochParts : List Part :=
  [F.CHN_STATUS_EPOCH_PEND.part []] ++ globalParts
    [.CHN_LAST_EPOCH_LO, .CHN_LAST_EPOCH_HI, .SEQ_START_LO, .SEQ_START_HI, .SLC_WHEEL_START_LO, .SLC_WHEEL_START_HI, .BOOT_RUN_AT_LO,
      .BOOT_RUN_AT_HI, .GLB_IMG_REJOIN_LO, .GLB_IMG_REJOIN_HI, .GLB_IMG_DRAIN_LO, .GLB_IMG_DRAIN_HI] ++ eventParts

/-- The boundary of E, as the beat numbers that move leave it. -/
theorem epochHolders_epochBegun_shows (s : State) {e : Nat} (he : e < 2 ^ 64) :
    let t := epochHolders (epochBegun s e) e
    t.beat = 0 ∧ t.now = s.now ∧ t.chn.epoch = none ∧ t.pair .CHN_LAST_EPOCH_LO .CHN_LAST_EPOCH_HI = e ∧
      t.flag F.CHN_STATUS_EPOCH_PEND = false ∧ memFrame epochParts s t := by
  obtain ⟨hnow, hlast, hpend, hbegun⟩ := epochBegun_shows s he
  obtain ⟨hbeat', hnow', hchn', hregs, hbytes⟩ := epochHolders_keeps (epochBegun s e) e
  exact ⟨hbeat', hnow'.trans hnow, congrArg Chain.epoch hchn',
    (State.pair_congr (hregs.rd_eq (by decide) ..) (hregs.rd_eq (by decide) ..)).trans hlast,
    (congrArg (· == 1) (hregs.fld_of_reg (by decide) ..)).trans hpend,
    (hbegun.1.mono (by decide)).trans (hregs.mono (by decide)), hbegun.2.trans hbytes⟩

end

/-- Settles O37: a refused command sets its flag alone (`epochAsk_of_refused`); an accepted one is held as `epochHeld` says. -/
theorem epochCommand : Obligations.EpochCommand := by
  unfold Obligations.EpochCommand
  refine ⟨fun s hrefused => ⟨_, congrArg Host.Outcome.next (epochAsk_of_refused hrefused), ?_⟩,
    fun s hmul hlead hfollows hnone => ⟨_, congrArg Host.Outcome.next (epochAsk_of_accepted hmul hlead hfollows hnone), ?_⟩⟩
  · exact ⟨State.flag_setFlag_same _ _ _ _ _ _ _ (by decide) rfl, rfl, (memFrame.refl _ s).setFlag _ _ (.of_mem (.head _) ..)⟩
  · exact ⟨rfl, State.flag_setFlag_same _ _ _ _ _ _ _ (by decide) rfl, ((memFrame.refl _ s).modChn _).setFlag _ _ (.of_mem (.head _) ..)⟩

end Sys2Proof.Machine

namespace Sys2Proof.Machine

/-! ## The trigger bus (R445 to R452) -/

section
variable {s t : State} {l : List Part}

/-! ### The bus after a change -/

@[simp] theorem trg_modTrg (s : State) (f : TriggerBus → TriggerBus) : (modTrg s f).trg = f s.trg := rfl

@[simp] theorem State.journal_trg (s : State) (type src index data : Nat) : (s.journal type src index data).trg = s.trg := by
  unfold State.journal; split <;> rfl

theorem memFrame.modTrg (h : memFrame l s t) (f : TriggerBus → TriggerBus) : memFrame l s (modTrg t f) := h.of_eq rfl rfl rfl

/-- The line of the bus whose bit is put, and the others. -/
theorem getLsbD_putBit (x : BitVec 8) (i : Nat) (b : Bool) (k : Fin 8) :
    (BitVec.ofNat 8 (putBit x.toNat i b)).getLsbD k = if k.val = i then b else x.getLsbD k := by
  rw [BitVec.getLsbD_ofNat, decide_eq_true k.isLt, Bool.true_and, testBit_putBit]
  rfl

theorem chnFollows_congr (h : sameRegs l s t) (hl : ∀ x ∈ l, x.reg ≠ .CHN_CFG) : chnFollows t = chnFollows s := by
  rw [chnFollows, chnFollows, chnRole, chnRole, h.fld_of_reg (f := F.CHN_CFG_ROLE) hl]

theorem sameRegs.flag_of_reg (h : sameRegs l s t) {f : Field} (hr : ∀ x ∈ l, x.reg ≠ f.reg) (i j k m : Nat) : t.flag f i j k m = s.flag f i j k m := by
  rw [State.flag, State.flag, h.fld_of_reg hr]

theorem chnAligned_congr (h : sameRegs l s t) (hl : ∀ x ∈ l, x.reg ∉ [Reg.CHN_CFG, .CHN_STATUS, .INV_STATUS]) : chnAligned t = chnAligned s := by
  have hne : ∀ r ∈ [Reg.CHN_CFG, .CHN_STATUS, .INV_STATUS], ∀ x ∈ l, x.reg ≠ r := fun r hr x hx hxr => hl x hx (hxr ▸ hr)
  rw [chnAligned, chnAligned, chnFollows_congr h (hne _ (by decide)), h.flag_of_reg (f := F.CHN_STATUS_ALIGNED) (hne _ (by decide)),
    h.flag_of_reg (f := F.INV_STATUS_LOCK) (hne _ (by decide))]

/-! ### TRG_DRIVE and TIN (R446) -/

/-- Lines that a step puts one after another: line `k` takes `v` where `p` says so. -/
theorem driven_foldl {I : State → Prop} {f : State → Nat → State} {k : Fin 8} {v : Bool} {p : Prop} [Decidable p] (hkeep : ∀ t i, I t → I (f t i))
    (hput : ∀ t i, I t → (f t i).trg.driven.getLsbD k = if k.val = i ∧ p then v else t.trg.driven.getLsbD k) (xs : List Nat) (hs : I s) :
    (xs.foldl f s).trg.driven.getLsbD k = if k.val ∈ xs ∧ p then v else s.trg.driven.getLsbD k := by
  induction xs generalizing s with
  | nil => rfl
  | cons i xs ih =>
    rw [List.foldl_cons, ih (hkeep s i hs), hput s i hs]
    by_cases hlater : k.val ∈ xs ∧ p
    · rw [if_pos hlater, if_pos ⟨.tail _ hlater.1, hlater.2⟩]
    · simp only [List.mem_cons, or_and_right, hlater, or_false, if_false]

/-- An enabled line of a device that does not follow drives TRG_DRIVE where that is its source. -/
theorem driven_driveLine (hfollows : chnFollows s = false) {k : Fin 8} (hen : s.flag F.TRG_LINE_EN k = true)
    (hsrc : s.fld F.TRG_LINE_SRC k = 0) (i : Nat) :
    (driveLine s i).trg.driven.getLsbD k = if k.val = i ∧ True then (s.fld F.TRG_DRIVE_LEVEL).testBit k else s.trg.driven.getLsbD k := by
  rw [driveLine, trg_modTrg, getLsbD_putBit]
  by_cases hk : k.val = i
  · subst hk
    rw [hfollows, hen, hsrc]
    simp
  · simp only [hk, false_and, if_false]

theorem driven_driveLines (hfollows : chnFollows s = false) {k : Fin 8} (hen : s.flag F.TRG_LINE_EN k = true)
    (hsrc : s.fld F.TRG_LINE_SRC k = 0) : (driveLines s).trg.driven.getLsbD k = (s.fld F.TRG_DRIVE_LEVEL).testBit k := by
  have hput : ∀ t i, t.regs = s.regs → (driveLine t i).trg.driven.getLsbD k =
      if k.val = i ∧ True then (s.fld F.TRG_DRIVE_LEVEL).testBit k else t.trg.driven.getLsbD k := by
    intro t i ht
    rw [driven_driveLine ((chnFollows_congr ((sameRegs.refl [] s).of_regs ht) nofun).trans hfollows) ((State.flag_of_regs ht ..).trans hen)
      ((State.fld_of_regs ht ..).trans hsrc), State.fld_of_regs ht]
  rw [driveLines, driven_foldl (I := fun t => t.regs = s.regs) (f := driveLine) (fun t i ht => ht) hput _ rfl, if_pos ⟨List.mem_range.2 k.isLt, trivial⟩]

theorem trgDriveWrite_of_driver (h : chnFollows s = false) (levels : Nat) :
    trgDriveWrite s levels = driveLines (s.setFld F.TRG_DRIVE_LEVEL levels) :=
  if_neg (by rw [h]; decide)

theorem trgDriveWrite_of_follower (h : chnFollows s = true) (levels : Nat) : trgDriveWrite s levels = s.setFlag F.TRG_STATUS_DRIVE_IGN true :=
  if_pos h

theorem fld_setFld_driveLevel (s : State) (levels : BitVec 8) : (s.setFld F.TRG_DRIVE_LEVEL levels.toNat).fld F.TRG_DRIVE_LEVEL = levels.toNat :=
  (State.fld_setFld_same s F.TRG_DRIVE_LEVEL _ 0 0 0 0 (by decide)).trans (Nat.mod_eq_of_lt levels.isLt)

/-- Line `i` takes the TIN input `x`. -/
abbrev takesTin (s : State) (i x : Nat) : Prop := s.flag F.TRG_LINE_EN i = true ∧ s.fld F.TRG_LINE_SRC i = 1 ∧ s.fld F.TRG_LINE_TIN i = x

/-- Line `i` follows the TIN input `x` if it takes it. -/
def tinLine (x : Nat) (level : Bool) (s : State) (i : Nat) : State :=
  if takesTin s i x then modTrg s fun t => { t with driven := BitVec.ofNat 8 (putBit t.driven.toNat i level) } else s

theorem tinForward_of_driver (h : chnFollows s = false) (x : Nat) (level : Bool) : tinForward s x level = (List.range 8).foldl (tinLine x level) s :=
  if_neg (by rw [h]; decide)

theorem regs_tinLine (x : Nat) (level : Bool) (s : State) (i : Nat) : (tinLine x level s i).regs = s.regs := by
  unfold tinLine; split <;> rfl

theorem driven_tinLine (x : Nat) (level : Bool) (s : State) (i : Nat) (k : Fin 8) :
    (tinLine x level s i).trg.driven.getLsbD k = if k.val = i ∧ takesTin s k x then level else s.trg.driven.getLsbD k := by
  unfold tinLine
  by_cases htakes : takesTin s i x
  · rw [if_pos htakes, trg_modTrg, getLsbD_putBit]
    by_cases hk : k.val = i
    · subst hk
      rw [if_pos rfl, if_pos ⟨rfl, htakes⟩]
    · rw [if_neg hk, if_neg fun h => hk h.1]
  · rw [if_neg htakes, if_neg]
    rintro ⟨rfl, h⟩
    exact htakes h

theorem takesTin_of_regs (h : t.regs = s.regs) (i x : Nat) : takesTin t i x ↔ takesTin s i x := by
  simp only [takesTin, State.flag_of_regs h, State.fld_of_regs h]

theorem driven_foldl_tinLine (x : Nat) (level : Bool) (s : State) (k : Fin 8) : ((List.range 8).foldl (tinLine x level) s).trg.driven.getLsbD k =
    if takesTin s k x then level else s.trg.driven.getLsbD k := by
  have hput : ∀ t i, t.regs = s.regs → (tinLine x level t i).trg.driven.getLsbD k =
      if k.val = i ∧ takesTin s k x then level else t.trg.driven.getLsbD k := by
    intro t i ht
    simp only [driven_tinLine, takesTin_of_regs ht]
  rw [driven_foldl (I := fun t => t.regs = s.regs) (fun t i ht => (regs_tinLine x level t i).trans ht) hput _ rfl]
  simp [List.mem_range.2 k.isLt]

theorem memFrame.foldl_tinLine (h : memFrame l s t) (x : Nat) (level : Bool) (xs : List Nat) : memFrame l s (xs.foldl (tinLine x level) t) :=
  List.foldlRecOn xs _ h fun u hu i _ => by
    unfold tinLine
    split
    · exact hu.modTrg _
    · exact hu

/-! ### Transitions and edges (R448 to R451) -/

/-- The stamp of a transition in the present beat. -/
abbrev stampAt (s : State) (ps : Nat) : Int := 4000 * (s.now : Int) + ps

/-- Line `i` is stamped. -/
def lineStamped (s : State) (i : Nat) (stamp : Int) : State :=
  modTrg s fun t => { t with stamps := (i, stamp) :: t.stamps.filter fun x => x.1 ≠ i }

/-- A transition is kept until it acts, by its bus time at the reference point. -/
def transitionKept (s : State) (i : Nat) (stamp : Int) (level : Bool) : State :=
  modTrg s fun t => { t with pending := t.pending ++ [{ line := i, stamp := stamp, b := stamp - s.fld F.TRG_POS_PS i, level := level }] }

/-- A transition within 2 ns of the last one is counted as a glitch, and both are discarded. -/
def glitchDropped (s : State) (i : Nat) (stamp : Int) : State :=
  ((modTrg s fun t => { t with pending := t.pending.filter fun x => ¬(x.line = i ∧ stamp - x.stamp < 2000) }).count .TRG_GLITCHES).setFlag
    F.TRG_STATUS_GLITCH true

section
variable {i : Nat} (hen : s.flag F.TRG_LINE_EN i = true) (hrpl : s.rpl.replaying = false)
include hen hrpl

theorem trgTransition_of_first (hfirst : s.trg.stamps.find? (fun x => x.1 = i) = none) (level : Bool) (ps : Nat) :
    trgTransition s i level ps = transitionKept (lineStamped s i (stampAt s ps)) i (stampAt s ps) level := by
  rw [trgTransition, if_neg (by rw [hen, hrpl]; decide), hfirst]
  rfl

theorem trgTransition_of_near {x : Nat × Int} {ps : Nat} (hlast : s.trg.stamps.find? (fun x => x.1 = i) = some x) (hnear : stampAt s ps - x.2 < 2000)
    (level : Bool) : trgTransition s i level ps = glitchDropped (lineStamped s i (stampAt s ps)) i (stampAt s ps) := by
  rw [trgTransition, if_neg (by rw [hen, hrpl]; decide), hlast]
  exact if_pos (decide_eq_true hnear)

end

theorem find_lineStamped (s : State) (i : Nat) (stamp : Int) : (lineStamped s i stamp).trg.stamps.find? (fun x => x.1 = i) = some (i, stamp) :=
  List.find?_cons_of_pos (decide_eq_true rfl)

/-- The level that takes effect on line `i` replaces the last one, and the transitions that it comes from are spent. -/
def levelTaken (s : State) (i : Nat) (level : Bool) : State :=
  modTrg s fun t => { t with level := BitVec.ofNat 8 (putBit t.level.toNat i level)
                             pending := t.pending.filter fun x => ¬(x.line = i ∧ x.boundary ≤ (s.now : Int) - 16) }

theorem trgEffect_of_edge {i : Nat} (hedge : lineLevelAt s i (s.now - 16) ≠ s.trg.level.getLsbD i) (hacts : trgActs s i = true) :
    trgEffect s i = trgEdge (levelTaken s i (lineLevelAt s i (s.now - 16))) i (lineLevelAt s i (s.now - 16)) := by
  have hacts' : ¬(!trgActs s i) = true := by rw [hacts]; decide
  exact if_neg (not_or.2 ⟨hedge, hacts'⟩)

/-- An edge that takes effect leaves the levels as they are. -/
theorem trgEdge_shows (s : State) (i : Nat) (rising : Bool) :
    (trgEdge s i rising).trg.level = s.trg.level ∧ (trgEdge s i rising).rd .TRG_EDGES i = satCount (s.rd .TRG_EDGES i) 1 ∧
      memFrame [{ reg := .TRG_EDGES, idx := [i] }] s (trgEdge s i rising) := by
  unfold trgEdge
  refine ⟨?_, ?_, (((memFrame.refl _ s).modTrg _).count _ (.of_mem_index (.head _))).journal ..⟩
  · rw [State.journal_trg, State.count_trg, trg_modTrg]
    split <;> rfl
  · rw [State.rd_of_regs (State.journal_regs ..)]
    exact State.rd_count_same ..

theorem level_levelTaken (s : State) (i : Nat) (level : Bool) (k : Fin 8) :
    (levelTaken s i level).trg.level.getLsbD k = if k.val = i then level else s.trg.level.getLsbD k :=
  getLsbD_putBit ..

/-! ### The calibration (R452) -/

/-- The first multiple of 16 that is at least 2,048 beats away. -/
abbrev calBeat (s : State) : Nat := 16 * ceilDiv (s.beat + 2048) 16

theorem calBeat_spec (s : State) : calBeat s % 16 = 0 ∧ s.beat + 2048 ≤ calBeat s ∧ calBeat s < s.beat + 2064 := by
  unfold calBeat ceilDiv
  omega

theorem trgCal_of_free (hfollows : chnFollows s = false) (hcal : s.chn.calAt = none) (hbusy : s.flag F.TRG_STATUS_CAL_BUSY = false) :
    trgCal s = calHold (modChn s fun c => { c with txAlt := 0 }) (calBeat s) :=
  if_neg (by simp [hfollows, hcal, hbusy])

theorem trgCal_of_refused (h : chnFollows s = true ∨ s.chn.calAt.isSome = true ∨ s.flag F.TRG_STATUS_CAL_BUSY = true) :
    trgCal s = s.setFlag F.TRG_STATUS_CAL_REFUSED true :=
  if_pos h

theorem calHold_shows (s : State) {b : Nat} (hb : b < 2 ^ 64) :
    (calHold s b).pair .TRG_CAL_START_LO .TRG_CAL_START_HI = b ∧ (calHold s b).chn.calAt = some (s.now + (b - s.beat)) ∧
      memFrame [{ reg := .TRG_CAL_START_LO, idx := [] }, { reg := .TRG_CAL_START_HI, idx := [] }] s (calHold s b) :=
  ⟨State.pair_setPair_same _ (by decide) hb 0 0 0, congrArg Chain.calAt (State.setPair_chn ..),
    ((memFrame.refl _ s).modChn _).setPair _ (.of_mem (.head _) ..) (.of_mem (.tail _ (.head _)) ..)⟩

/-- A calibration drives the lines and changes nothing else. -/
theorem trgCalDrive_eq (s : State) : ∃ x, trgCalDrive s = modTrg s fun _ => x := by
  unfold trgCalDrive
  split
  · exact ⟨s.trg, rfl⟩
  · split
    · exact ⟨s.trg, rfl⟩
    · dsimp only
      split <;> split
      · exact ⟨_, rfl⟩
      · exact ⟨_, rfl⟩
      · exact ⟨_, rfl⟩
      · exact ⟨s.trg, rfl⟩

@[simp] theorem regs_trgCalDrive (s : State) : (trgCalDrive s).regs = s.regs := by
  obtain ⟨x, hx⟩ := trgCalDrive_eq s
  rw [hx, modTrg]

theorem memFrame.trgCalDrive (h : memFrame l s t) : memFrame l s (trgCalDrive t) := by
  obtain ⟨x, hx⟩ := trgCalDrive_eq t
  rw [hx]
  exact h.modTrg _

/-- An aligned device calibrates from beat S on. -/
theorem trgCalStart_of_due {k : Nat} (hcal : s.chn.calAt = some k) (hdue : k ≤ s.now) (hbusy : s.flag F.TRG_STATUS_CAL_BUSY = false)
    (haligned : chnAligned s = true) :
    trgCalStart s = modChn (trgCalDrive (s.setFlag F.TRG_STATUS_CAL_BUSY true)) fun c => { c with calibrating := true } := by
  have hframe : memFrame [F.TRG_STATUS_CAL_BUSY.part []] s (trgCalDrive (s.setFlag F.TRG_STATUS_CAL_BUSY true)) :=
    ((memFrame.refl _ s).setFlag _ _ (.of_mem (.head _) ..)).trgCalDrive
  have hidle : ¬(s.now < k ∨ s.flag F.TRG_STATUS_CAL_BUSY = true) := by simp [hdue, hbusy]
  unfold trgCalStart
  rw [hcal]
  exact (if_neg hidle).trans (if_pos ((chnAligned_congr hframe.1 (by decide)).trans haligned))

/-- The levels as they stand, without an edge. -/
def levelsTaken (s : State) : State :=
  modTrg s fun x => { x with level := BitVec.ofNat 8 (trgLevels s), pending := x.pending.filter fun y => ¬(y.boundary ≤ (s.now : Int)) }

/-- The positions of the lines from the sums of their readings. -/
def calPositions (s : State) (sums : List Int) : State := (List.range 8).foldl (fun s i => calPosition s i (sums.getD i 0)) s

/-- No calibration is in progress. -/
def calOver (s : State) : State := (modChn s fun c => { c with calAt := none, calibrating := false }).setFlag F.TRG_STATUS_CAL_BUSY false

/-- The positions are taken, and the calibration is over. -/
def calEnded (s : State) (sums : List Int) : State := calOver ((calPositions (levelsTaken s) sums).setFlag F.TRG_STATUS_CAL_DONE true)

theorem trgCalEnd_of_done {k : Nat} (hcal : s.chn.calAt = some k) (hdue : k + 32768 ≤ s.now) (hbusy : s.flag F.TRG_STATUS_CAL_BUSY = true)
    (hcalibrating : s.chn.calibrating = true) (sums : List Int) : trgCalEnd s sums = driveLines (calEnded s sums) := by
  have hdone : ¬(s.now < k + 32768 ∨ (!s.flag F.TRG_STATUS_CAL_BUSY) = true) := by simp [hdue, hbusy]
  unfold trgCalEnd
  rw [hcal]
  have hpositions : (if (levelsTaken s).chn.calibrating then (calPositions (levelsTaken s) sums).setFlag F.TRG_STATUS_CAL_DONE true else levelsTaken s)
      = (calPositions (levelsTaken s) sums).setFlag F.TRG_STATUS_CAL_DONE true := if_pos hcalibrating
  exact (if_neg hdone).trans (congrArg (fun u => driveLines (calOver u)) hpositions)

/-- TRG_POS of line `i` holds a position and its flags. -/
def posPut (s : State) (i ps : Nat) (ok err : Bool) : State :=
  ((s.setFld F.TRG_POS_PS ps i).setFlag F.TRG_POS_CAL_OK ok i).setFlag F.TRG_POS_CAL_ERR err i

theorem posPut_shows (s : State) (i : Nat) {ps : Nat} (hps : ps < 65536) (ok err : Bool) :
    (posPut s i ps ok err).fld F.TRG_POS_PS i = ps ∧ (posPut s i ps ok err).flag F.TRG_POS_CAL_OK i = ok ∧
      (posPut s i ps ok err).flag F.TRG_POS_CAL_ERR i = err := by
  have hfits : ps % 2 ^ F.TRG_POS_PS.width = ps := Nat.mod_eq_of_lt hps
  simp (disch := decide) only [posPut, State.fld_setFlag_bits, State.fld_setFld_same, hfits, State.flag_setFlag_bits, State.flag_setFlag_same,
    and_self]

theorem memFrame.posPut {i : Nat} (h : memFrame l s t) (hl : ∀ f : Field, f.reg = .TRG_POS → f.lo + f.width ≤ 32 → holdsFld l f i 0 0 0) (ps : Nat)
    (ok err : Bool) : memFrame l s (posPut t i ps ok err) :=
  ((h.setFld _ _ (hl _ rfl (by decide))).setFlag _ _ (hl _ rfl (by decide))).setFlag _ _ (hl _ rfl (by decide))

/-- The fields of the position of line `i`. -/
theorem holdsFld_pos (i : Nat) (f : Field) (hf : f.reg = .TRG_POS) (hw : f.lo + f.width ≤ 32) :
    holdsFld [{ reg := .TRG_POS, idx := [i] }] f i 0 0 0 :=
  .of_mem_reg (by rw [hf]; exact .head _) hw

/-- The position that a calibration finds is put in TRG_POS. -/
theorem calPosition_eq (s : State) (i : Nat) (sum : Int) : ∃ ps ok err, calPosition s i sum = posPut s i ps ok err := ⟨_, _, _, rfl⟩

/-- A position within 40,000 ps is shown and is good. -/
theorem calPosition_of_good (hfollows : chnFollows s = true) (i : Nat) {sum : Int} (h0 : 0 ≤ roundDiv sum 256) (hle : roundDiv sum 256 ≤ 40000) :
    calPosition s i sum = posPut s i (roundDiv sum 256).toNat true false := by
  have hfits : 0 ≤ roundDiv sum 256 ∧ roundDiv sum 256 < 65536 := ⟨h0, by omega⟩
  rw [calPosition, if_pos hfollows, if_pos hfits, decide_eq_true (And.intro h0 hle)]
  rfl

/-- TRG_POS of line `i` shows a calibrated position `m`. -/
structure CalShown (t : State) (i : Nat) (m : Int) : Prop where
  ps : (t.fld F.TRG_POS_PS i : Int) = m
  ok : t.flag F.TRG_POS_CAL_OK i = true
  err : t.flag F.TRG_POS_CAL_ERR i = false

/-- What TRG_POS shows goes by its register. -/
theorem CalShown.of_fld {k : Nat} {m : Int} (h : CalShown s k m) (hfld : ∀ f : Field, f.reg = .TRG_POS → t.fld f k = s.fld f k) : CalShown t k m :=
  ⟨(congrArg Nat.cast (hfld _ rfl)).trans h.ps, (congrArg (· == 1) (hfld _ rfl)).trans h.ok, (congrArg (· == 1) (hfld _ rfl)).trans h.err⟩

theorem calPosition_shows (hfollows : chnFollows s = true) (i : Nat) {sum : Int} (h0 : 0 ≤ roundDiv sum 256) (hle : roundDiv sum 256 ≤ 40000) :
    CalShown (calPosition s i sum) i (roundDiv sum 256) := by
  rw [calPosition_of_good hfollows i h0 hle]
  obtain ⟨hps, hok, herr⟩ := posPut_shows s i (ps := (roundDiv sum 256).toNat) (by omega) true false
  exact ⟨by rw [hps, Int.toNat_of_nonneg h0], hok, herr⟩

theorem memFrame.calPosition {i : Nat} (h : memFrame l s t) (hl : ∀ f : Field, f.reg = .TRG_POS → f.lo + f.width ≤ 32 → holdsFld l f i 0 0 0)
    (sum : Int) : memFrame l s (calPosition t i sum) := by
  obtain ⟨ps, ok, err, heq⟩ := calPosition_eq t i sum
  rw [heq]
  exact h.posPut hl ps ok err

theorem calPosition_regs (s : State) (i : Nat) (sum : Int) : sameRegs [{ reg := .TRG_POS, idx := [i] }] s (calPosition s i sum) :=
  ((memFrame.refl _ s).calPosition (holdsFld_pos i) sum).1

/-- A register that changes at one index keeps its fields at the others. -/
theorem sameRegs.fld_of_index {r : Reg} {i k : Nat} (h : sameRegs [{ reg := r, idx := [i] }] s t) (hne : k ≠ i) (f : Field) :
    t.fld f k = s.fld f k :=
  h.fld_eq f k 0 0 0 fun b _ _ => by simp [Part.covers, List.isPrefixOf, hne.symm]

theorem chnFollows_calPosition (s : State) (i : Nat) (sum : Int) : chnFollows (calPosition s i sum) = chnFollows s :=
  chnFollows_congr (calPosition_regs s i sum) (by simp)

/-- The lines that a calibration has gone through show their positions. -/
theorem calPositions_foldl_shows (sums : List Int) {k : Nat} (h0 : 0 ≤ roundDiv (sums.getD k 0) 256)
    (hle : roundDiv (sums.getD k 0) 256 ≤ 40000) (xs : List Nat) (hfollows : chnFollows s = true)
    (hk : k ∈ xs ∨ CalShown s k (roundDiv (sums.getD k 0) 256)) :
    CalShown (xs.foldl (fun s i => calPosition s i (sums.getD i 0)) s) k (roundDiv (sums.getD k 0) 256) := by
  induction xs generalizing s with
  | nil => exact hk.resolve_left List.not_mem_nil
  | cons i xs ih =>
    refine ih ((chnFollows_calPosition ..).trans hfollows) ?_
    by_cases hki : k = i
    · subst hki
      exact .inr (calPosition_shows hfollows k h0 hle)
    · exact hk.imp (fun hmem => (List.mem_cons.1 hmem).resolve_left hki) fun hshown => hshown.of_fld fun f _ => (calPosition_regs s i _).fld_of_index hki f

/-- What the end of a calibration may change of the registers. -/
abbrev calEndParts : List Part := [F.TRG_STATUS_CAL_BUSY.part [], F.TRG_STATUS_CAL_DONE.part [], { reg := .TRG_POS, idx := [] }]

theorem memFrame_calPositions (sums : List Int) (h : memFrame calEndParts s t) : memFrame calEndParts s (calPositions t sums) :=
  List.foldlRecOn _ _ h fun _ hu _ _ => hu.calPosition (fun f hf hw => .of_mem_global (by rw [hf]; decide) hw ..) _

theorem calEnded_shows (s : State) (sums : List Int) :
    (calEnded s sums).flag F.TRG_STATUS_CAL_BUSY = false ∧ (calEnded s sums).flag F.TRG_STATUS_CAL_DONE = true ∧
      (calEnded s sums).chn.calAt = none ∧ memFrame calEndParts s (calEnded s sums) := by
  have hpositions := memFrame_calPositions sums ((memFrame.refl _ s).modTrg _ : memFrame calEndParts s (levelsTaken s))
  refine ⟨State.flag_setFlag_same _ _ _ _ _ _ _ (by decide) rfl, ?_, rfl,
    ((hpositions.setFlag _ _ (.of_mem (by decide) ..)).modChn _).setFlag _ _ (.of_mem (.head _) ..)⟩
  rw [calEnded, calOver, State.flag_setFlag_bits _ _ _ _ _ _ _ _ _ _ _ _ (by decide) (by decide), flag_modChn]
  exact State.flag_setFlag_same _ _ _ _ _ _ _ (by decide) rfl

theorem calEnded_calShown (hfollows : chnFollows s = true) {sums : List Int} (k : Fin 8) (h0 : 0 ≤ roundDiv (sums.getD k 0) 256)
    (hle : roundDiv (sums.getD k 0) 256 ≤ 40000) : CalShown (calEnded s sums) k (roundDiv (sums.getD k 0) 256) := by
  have hshown : CalShown (calPositions (levelsTaken s) sums) k (roundDiv (sums.getD k 0) 256) :=
    calPositions_foldl_shows sums h0 hle _ hfollows (.inl (List.mem_range.2 k.isLt))
  refine hshown.of_fld fun f hf => ?_
  have hne : f.reg ≠ .TRG_STATUS := by rw [hf]; decide
  rw [calEnded, calOver, State.fld_setFlag_reg _ _ _ _ _ _ _ _ _ _ _ _ hne, fld_modChn, State.fld_setFlag_reg _ _ _ _ _ _ _ _ _ _ _ _ hne]

theorem trgPosWrite_shows (s : State) (i v : Nat) :
    (trgPosWrite s i v).fld F.TRG_POS_PS i = v % 65536 ∧ (trgPosWrite s i v).flag F.TRG_POS_CAL_OK i = false ∧
      (trgPosWrite s i v).flag F.TRG_POS_CAL_ERR i = decide (40000 < v % 65536) ∧
      memFrame [{ reg := .TRG_POS, idx := [i] }] s (trgPosWrite s i v) := by
  obtain ⟨hps, hok, herr⟩ := posPut_shows s i (Nat.mod_lt v (by decide : 0 < 65536)) false (decide (40000 < v % 65536))
  exact ⟨hps, hok, herr, (memFrame.refl _ s).posPut (holdsFld_pos i) ..⟩

end

/-- Settles O38: EPOCH by what its boundary leaves (`epochHolders_epochBegun_shows`), the lines and edges by the state after each command, the
calibration by the beat it takes (`calBeat_spec`) and the positions it shows (`calEnded_calShown`). -/
theorem epochAndTriggers : Obligations.EpochAndTriggers := by
  unfold Obligations.EpochAndTriggers
  refine ⟨fun s e hheld hbeat he => ⟨_, congrArg Host.Outcome.next (epochApply_of_due hheld hbeat), epochHolders_epochBegun_shows s he⟩,
    fun s levels hfollows => ⟨_, congrArg Host.Outcome.next (trgDriveWrite_of_driver hfollows levels.toNat), ?_⟩,
    fun s levels hfollows => ⟨_, congrArg Host.Outcome.next (trgDriveWrite_of_follower hfollows levels.toNat), ?_⟩,
    fun s x level hfollows => ⟨_, congrArg Host.Outcome.next (tinForward_of_driver hfollows x level), fun k => driven_foldl_tinLine x level s k,
      (memFrame.refl _ s).foldl_tinLine x level _⟩,
    fun s k level ps hen hrpl hfirst => ⟨_, congrArg Host.Outcome.next (trgTransition_of_first hen hrpl hfirst level ps), rfl,
      find_lineStamped s k _, ((memFrame.refl _ s).modTrg _).modTrg _⟩,
    fun s k level ps x hen hrpl hlast hnear => ⟨_, congrArg Host.Outcome.next (trgTransition_of_near hen hrpl hlast hnear level), ?_⟩,
    fun s k hedge hacts => ⟨_, congrArg Host.Outcome.next (trgEffect_of_edge hedge hacts), ?_⟩,
    fun s hfollows hcal hbusy hbeat => ⟨_, congrArg Host.Outcome.next (trgCal_of_free hfollows hcal hbusy), ?_⟩,
    fun s hrefused => ⟨_, congrArg Host.Outcome.next (trgCal_of_refused hrefused), State.flag_setFlag_same _ _ _ _ _ _ _ (by decide) rfl, rfl,
      (memFrame.refl _ s).setFlag _ _ (.of_mem (.head _) ..)⟩,
    fun s k hcal hdue hbusy haligned => ⟨_, congrArg Host.Outcome.next (trgCalStart_of_due hcal hdue hbusy haligned), ?_⟩,
    fun s sums k hcal hdue hbusy hcalibrating hfollows hsums =>
      ⟨_, congrArg Host.Outcome.next (trgCalEnd_of_done hcal hdue hbusy hcalibrating sums), ?_⟩,
    fun s k v => ⟨_, rfl, trgPosWrite_shows s k v.toNat⟩⟩
  · refine ⟨(State.fld_of_regs (regs_driveLines _) ..).trans (fld_setFld_driveLevel s levels), fun k hen hsrc => ?_,
      ((memFrame.refl _ s).setFld _ _ (.of_mem (.head _) ..)).driveLines⟩
    have hframe : memFrame [F.TRG_DRIVE_LEVEL.part []] s (s.setFld F.TRG_DRIVE_LEVEL levels.toNat) := (memFrame.refl _ s).setFld _ _ (.of_mem (.head _) ..)
    rw [driven_driveLines ((chnFollows_congr hframe.1 (by decide)).trans hfollows) ((hframe.1.flag_of_reg (by decide) ..).trans hen)
      ((hframe.1.fld_of_reg (by decide) ..).trans hsrc), fld_setFld_driveLevel]
    rfl
  · exact ⟨State.flag_setFlag_same _ _ _ _ _ _ _ (by decide) rfl, rfl, (memFrame.refl _ s).setFlag _ _ (.of_mem (.head _) ..)⟩
  · refine ⟨?_, State.flag_setFlag_same _ _ _ _ _ _ _ (by decide) rfl, rfl,
      ((((memFrame.refl _ s).modTrg _).modTrg _).count _ (.of_mem (.head _) ..)).setFlag _ _ (.of_mem (.tail _ (.head _)) ..)⟩
    exact (State.rd_setFlag_reg _ _ _ _ _ _ _ _ _ _ _ _ (by decide)).trans (State.rd_count_same ..)
  · obtain ⟨hlevel, hcount, hframe⟩ := trgEdge_shows (levelTaken s k (lineLevelAt s k (s.now - 16))) k (lineLevelAt s k (s.now - 16))
    refine ⟨?_, hcount, fun i hne => ?_, ((memFrame.refl _ s).modTrg _).trans hframe⟩
    · rw [hlevel, level_levelTaken, if_pos rfl]
      exact Bool.eq_not_of_ne hedge
    · rw [hlevel, level_levelTaken, if_neg fun h => hne (Fin.ext h)]
  · obtain ⟨hmul, hle, hlt⟩ := calBeat_spec s
    obtain ⟨hpair, hcal', hframe⟩ := calHold_shows (modChn s fun c => { c with txAlt := 0 }) (b := calBeat s) (by omega)
    exact ⟨⟨calBeat s, hpair, hmul, hle, hlt, hcal'⟩, ((memFrame.refl _ s).modChn _).trans hframe⟩
  · exact ⟨(State.flag_of_regs (regs_trgCalDrive _) ..).trans (State.flag_setFlag_same _ _ _ _ _ _ _ (by decide) rfl), rfl,
      ((memFrame.refl _ s).setFlag _ _ (.of_mem (.head _) ..)).trgCalDrive.modChn _⟩
  · obtain ⟨hbusy', hdone, hcal', hframe⟩ := calEnded_shows s sums
    have hregs := regs_driveLines (calEnded s sums)
    refine ⟨(State.flag_of_regs hregs ..).trans hbusy', (State.flag_of_regs hregs ..).trans hdone,
      (congrArg Chain.calAt (chn_driveLines _)).trans hcal', fun k => ?_, hframe.driveLines⟩
    obtain ⟨h0, hle⟩ := hsums k
    obtain ⟨hps, hok, herr⟩ := calEnded_calShown hfollows k h0 hle
    exact ⟨(congrArg Nat.cast (State.fld_of_regs hregs ..)).trans hps, (State.flag_of_regs hregs ..).trans hok, (State.flag_of_regs hregs ..).trans herr⟩

end Sys2Proof.Machine

namespace Sys2Proof.Machine

/-! ## Reading a field after a write elsewhere

Two fields are apart when they stand in different registers or take different bits of one: then a write of either leaves the other, whatever
the instances. The condition is decided by computation, so these rules serve `simp (disch := decide)`. -/

/-- The fields share no bit. -/
def Field.apart (f g : Field) : Bool :=
  decide (g.reg ≠ f.reg) || (decide (f.lo + f.width ≤ 32) && (decide (g.lo + g.width ≤ f.lo) || decide (f.lo + f.width ≤ g.lo)))

theorem Field.apart_iff {f g : Field} :
    f.apart g = true ↔ g.reg ≠ f.reg ∨ f.lo + f.width ≤ 32 ∧ (g.lo + g.width ≤ f.lo ∨ f.lo + f.width ≤ g.lo) := by
  simp [Field.apart]

section
variable (s : State) (f g : Field) (r : Reg)

@[simp] theorem State.fld_setFld_apart (v i j k m i' j' k' m' : Nat) (h : f.apart g = true) :
    (s.setFld f v i j k m).fld g i' j' k' m' = s.fld g i' j' k' m' := by
  rcases Field.apart_iff.1 h with hr | ⟨hw, hb⟩
  · exact State.fld_setFld_reg _ _ _ _ _ _ _ _ _ _ _ _ hr
  · exact State.fld_setFld_bits _ _ _ _ _ _ _ _ _ _ _ _ hw hb

@[simp] theorem State.flag_setFld_apart (v i j k m i' j' k' m' : Nat) (h : f.apart g = true) :
    (s.setFld f v i j k m).flag g i' j' k' m' = s.flag g i' j' k' m' := by
  rw [State.flag, State.flag, State.fld_setFld_apart s f g v i j k m i' j' k' m' h]

@[simp] theorem State.fld_setFlag_apart (b : Bool) (i j k m i' j' k' m' : Nat) (h : f.apart g = true) :
    (s.setFlag f b i j k m).fld g i' j' k' m' = s.fld g i' j' k' m' := State.fld_setFld_apart _ _ _ _ _ _ _ _ _ _ _ _ h

@[simp] theorem State.flag_setFlag_apart (b : Bool) (i j k m i' j' k' m' : Nat) (h : f.apart g = true) :
    (s.setFlag f b i j k m).flag g i' j' k' m' = s.flag g i' j' k' m' := State.flag_setFld_apart _ _ _ _ _ _ _ _ _ _ _ _ h

/-- A value that the field takes reads back. -/
@[simp] theorem State.fld_setFld_fits {v : Nat} (i j k m : Nat) (hf : f.lo + f.width ≤ 32) (hv : v < 2 ^ f.width) :
    (s.setFld f v i j k m).fld f i j k m = v := by
  rw [State.fld_setFld_same s f v i j k m hf, Nat.mod_eq_of_lt hv]

@[simp] theorem State.flag_setFlag_bit (b : Bool) (i j k m : Nat) (hf : f.lo + f.width ≤ 32) (hw : f.width = 1) :
    (s.setFlag f b i j k m).flag f i j k m = b := State.flag_setFlag_same s f b i j k m hf hw

@[simp] theorem State.fld_wr_apart (v : Word) (i j k m i' j' k' m' : Nat) (h : g.reg ≠ r) :
    (s.wr r v i j k m).fld g i' j' k' m' = s.fld g i' j' k' m' := State.fld_wr_reg _ _ _ _ _ _ _ _ _ _ _ _ h

@[simp] theorem State.flag_wr_apart (v : Word) (i j k m i' j' k' m' : Nat) (h : g.reg ≠ r) :
    (s.wr r v i j k m).flag g i' j' k' m' = s.flag g i' j' k' m' := State.flag_wr_reg _ _ _ _ _ _ _ _ _ _ _ _ h

@[simp] theorem State.fld_countBy_apart (c i j k m i' j' k' m' : Nat) (h : g.reg ≠ r) :
    (s.countBy r c i j k m).fld g i' j' k' m' = s.fld g i' j' k' m' := State.fld_wr_reg _ _ _ _ _ _ _ _ _ _ _ _ h

@[simp] theorem State.flag_countBy_apart (c i j k m i' j' k' m' : Nat) (h : g.reg ≠ r) :
    (s.countBy r c i j k m).flag g i' j' k' m' = s.flag g i' j' k' m' := State.flag_wr_reg _ _ _ _ _ _ _ _ _ _ _ _ h

@[simp] theorem State.fld_count_apart (i j k m i' j' k' m' : Nat) (h : g.reg ≠ r) :
    (s.count r i j k m).fld g i' j' k' m' = s.fld g i' j' k' m' := State.fld_count_reg _ _ _ _ _ _ _ _ _ _ _ h

@[simp] theorem State.flag_count_apart (i j k m i' j' k' m' : Nat) (h : g.reg ≠ r) :
    (s.count r i j k m).flag g i' j' k' m' = s.flag g i' j' k' m' := State.flag_count_reg _ _ _ _ _ _ _ _ _ _ _ h

@[simp] theorem State.rd_setFld_apart (v i j k m i' j' k' m' : Nat) (h : r ≠ f.reg) :
    (s.setFld f v i j k m).rd r i' j' k' m' = s.rd r i' j' k' m' := State.rd_setFld_reg _ _ _ _ _ _ _ _ _ _ _ _ h

@[simp] theorem State.rd_setFlag_apart (b : Bool) (i j k m i' j' k' m' : Nat) (h : r ≠ f.reg) :
    (s.setFlag f b i j k m).rd r i' j' k' m' = s.rd r i' j' k' m' := State.rd_setFld_reg _ _ _ _ _ _ _ _ _ _ _ _ h

@[simp] theorem State.rd_wr_apart (r' : Reg) (v : Word) (i j k m i' j' k' m' : Nat) (h : r' ≠ r) :
    (s.wr r v i j k m).rd r' i' j' k' m' = s.rd r' i' j' k' m' := State.rd_wr_reg _ _ _ _ _ _ _ _ _ _ h

@[simp] theorem State.rd_countBy_apart (r' : Reg) (c i j k m i' j' k' m' : Nat) (h : r' ≠ r) :
    (s.countBy r c i j k m).rd r' i' j' k' m' = s.rd r' i' j' k' m' := State.rd_wr_reg _ _ _ _ _ _ _ _ _ _ h

@[simp] theorem State.rd_count_apart (r' : Reg) (i j k m i' j' k' m' : Nat) (h : r' ≠ r) :
    (s.count r i j k m).rd r' i' j' k' m' = s.rd r' i' j' k' m' := State.rd_count_reg _ _ _ _ _ _ _ _ _ _ _ h

end
end Sys2Proof.Machine

namespace Sys2Proof.Machine

/-! ## Reset and the test access port (R681, R682, R706, R712) -/

/-- Something holds the device in reset. -/
def Supply.holds (x : Supply) : Bool := x.poreset || x.rails != 0 || x.hot

section
variable {s : State} {sup : Supply}

theorem State.inReset_eq_holds (s : State) : s.inReset = s.supply.holds := rfl

/-- What reset keeps, with any test access port beside it. -/
theorem afterReset_resetKeeping (s : State) (sup : Supply) (x : Tap) : afterReset s { resetKeeping { s with supply := sup } with tap := x } := by
  refine ⟨rfl, rfl, rfl, fun n => Vector.getElem_replicate n.isLt, rfl, rfl, rfl, ?_, ?_⟩
  · simp [resetKeeping, State.rd, RegFile.at, RegFile.to, SMap.get_put]
  · intro r i j k l hfuses _
    simp [resetKeeping, State.rd, RegFile.at, RegFile.to, SMap.get_put, hfuses]

theorem afterReset.setFlag_tapRefused {t : State} (h : afterReset s t) (b : Bool) :
    afterReset s (t.setFlag F.BOOT_STATUS_TAP_REFUSED b) := by
  obtain ⟨hnow, hbeat, hc, hsl, hpend, hflash, hkeys, hfuses, hregs⟩ := h
  refine ⟨hnow, hbeat, hc, hsl, hpend, hflash, hkeys, (State.rd_setFlag_apart _ _ _ _ _ _ _ _ _ _ _ _ (by decide)).trans hfuses, ?_⟩
  intro r i j k l hf hst
  exact (State.rd_setFlag_apart _ _ _ _ _ _ _ _ _ _ _ _ hst).trans (hregs r i j k l hf hst)

/-- A device that runs goes into reset. -/
theorem superviseTo_enters (hrun : s.supply.holds = false) (hsup : sup.holds = true) :
    (superviseTo s sup).supply = sup ∧ afterReset s (superviseTo s sup) := by
  have heq : superviseTo s sup = resetKeeping { s with supply := sup } := by
    simp [superviseTo, State.inReset_eq_holds, hrun, hsup]
  rw [heq]
  exact ⟨rfl, afterReset_resetKeeping s sup _⟩

/-- The state in which a device that leaves reset starts. -/
def resetLeft (s : State) (sup : Supply) : State :=
  let t := resetKeeping { s with supply := sup }
  let t := if s.tap.refused then t.setFlag F.BOOT_STATUS_TAP_REFUSED true else t
  { t with tap := { t.tap with refused := false, drive := .functional } }

theorem superviseTo_of_leaving (hin : s.supply.holds = true) (hsup : sup.holds = false) : superviseTo s sup = resetLeft s sup := by
  have hkept : (resetKeeping { s with supply := sup }).tap = s.tap := rfl
  simp [superviseTo, resetLeft, State.inReset_eq_holds, hin, hsup, hkept]

theorem fld_phase_resetKeeping (s : State) : (resetKeeping s).fld F.BOOT_STATUS_PHASE = 1 := by
  have hrd : (resetKeeping s).rd .BOOT_STATUS = RegKey.resetValue ⟨.BOOT_STATUS, 0, 0, 0, 0⟩ := by
    simp [resetKeeping, State.rd, RegFile.at, RegFile.to, SMap.get_put]
  rw [State.fld, show F.BOOT_STATUS_PHASE.reg = .BOOT_STATUS from rfl, hrd]
  decide

theorem flag_tapRefused_resetKeeping (s : State) : (resetKeeping s).flag F.BOOT_STATUS_TAP_REFUSED = false := by
  have hrd : (resetKeeping s).rd .BOOT_STATUS = RegKey.resetValue ⟨.BOOT_STATUS, 0, 0, 0, 0⟩ := by
    simp [resetKeeping, State.rd, RegFile.at, RegFile.to, SMap.get_put]
  rw [State.flag, State.fld, show F.BOOT_STATUS_TAP_REFUSED.reg = .BOOT_STATUS from rfl, hrd]
  decide

theorem resetLeft_starts (s : State) (hsup : sup.holds = false) :
    (resetLeft s sup).inReset = false ∧ (resetLeft s sup).fld F.BOOT_STATUS_PHASE = 1 ∧
      (resetLeft s sup).flag F.BOOT_STATUS_TAP_REFUSED = s.tap.refused ∧ afterReset s (resetLeft s sup) := by
  have hphase := fld_phase_resetKeeping { s with supply := sup }
  have hflag := flag_tapRefused_resetKeeping { s with supply := sup }
  have hafter := afterReset_resetKeeping s sup
  by_cases hr : s.tap.refused = true
  · simp only [resetLeft, hr, if_true]
    exact ⟨hsup, (State.fld_setFlag_apart _ _ _ _ _ _ _ _ _ _ _ _ (by decide)).trans hphase,
      State.flag_setFlag_same _ _ _ _ _ _ _ (by decide) rfl, (hafter _).setFlag_tapRefused true⟩
  · simp only [resetLeft, hr, Bool.false_eq_true, if_false]
    exact ⟨hsup, hphase, hflag.trans (by simp), hafter _⟩

end

/-- Settles O4: a running device goes into reset (`superviseTo_enters`), and the last cause that goes starts it (`resetLeft_starts`). -/
theorem supervisionResets : Obligations.SupervisionResets := by
  unfold Obligations.SupervisionResets
  have henter : ∀ (s : State) (sup : Supply), s.inReset = false → sup.holds = true →
      (superviseTo s sup).inReset = true ∧ (superviseTo s sup).supply = sup ∧ afterReset s (superviseTo s sup) := by
    intro s sup hrun hsup
    obtain ⟨hsupply, hafter⟩ := superviseTo_enters hrun hsup
    exact ⟨(congrArg Supply.holds hsupply).trans hsup, hsupply, hafter⟩
  have hleave : ∀ (s : State) (sup : Supply), s.supply.holds = true → sup.holds = false →
      (superviseTo s sup).inReset = false ∧ (superviseTo s sup).fld F.BOOT_STATUS_PHASE = 1 ∧
        (superviseTo s sup).flag F.BOOT_STATUS_TAP_REFUSED = s.tap.refused ∧ afterReset s (superviseTo s sup) := by
    intro s sup hin hsup
    rw [superviseTo_of_leaving hin hsup]
    exact resetLeft_starts s hsup
  refine ⟨fun s hrun => ⟨_, rfl, ?_⟩, fun s rail hrun => ⟨_, rfl, ?_⟩, fun s hrun => ⟨_, rfl, ?_⟩,
    fun s hp hr hh => ⟨_, rfl, ?_⟩, fun s hp hr hh => ⟨_, rfl, ?_⟩, fun s hp hr hh => ⟨_, rfl, ?_⟩⟩
  · obtain ⟨hin, hsupply, hafter⟩ := henter s { s.supply with poreset := true } hrun rfl
    exact ⟨hin, congrArg Supply.poreset hsupply, hafter⟩
  · have hrails : s.supply.rails = 0 := by simp_all [State.inReset]
    have hbit : BitVec.ofNat 10 (2 ^ rail.val) ≠ 0 := by revert rail; decide
    have hholds : ∀ b hot, Supply.holds { poreset := b, rails := BitVec.ofNat 10 (2 ^ rail.val), hot := hot } = true := by
      intro b hot
      rw [Supply.holds, bne_iff_ne.2 hbit, Bool.or_true, Bool.true_or]
    have hor : s.supply.rails ||| BitVec.ofNat 10 (2 ^ rail.val) = BitVec.ofNat 10 (2 ^ rail.val) := by rw [hrails]; exact BitVec.zero_or
    obtain ⟨hin, hsupply, hafter⟩ := henter s { s.supply with rails := s.supply.rails ||| BitVec.ofNat 10 (2 ^ rail.val) } hrun
      (by rw [hor]; exact hholds _ _)
    exact ⟨hin, (congrArg Supply.rails hsupply).trans hor, hafter⟩
  · obtain ⟨hin, hsupply, hafter⟩ := henter s { s.supply with hot := true } hrun (by simp [Supply.holds])
    exact ⟨hin, congrArg Supply.hot hsupply, hafter⟩
  · exact hleave s { s.supply with poreset := false } (by simp [Supply.holds, hp]) (by simp [Supply.holds, hr, hh])
  · obtain ⟨hin, hphase, -, hafter⟩ := hleave s { s.supply with rails := 0 }
      (by rw [Supply.holds, bne_iff_ne.2 hr, Bool.or_true, Bool.true_or]) (by simp [Supply.holds, hp, hh])
    exact ⟨hin, hphase, hafter⟩
  · obtain ⟨hin, hphase, -, hafter⟩ := hleave s { s.supply with hot := false } (by simp [Supply.holds, hh]) (by simp [Supply.holds, hp, hr])
    exact ⟨hin, hphase, hafter⟩

/-! ### Boundary scan (R706) -/

section
variable {s : State}

theorem tapDriving_in_poreset (h : s.supply.poreset = true) (tdi : List Bool) (act : State → State) : tapDriving s tdi act = act s := if_pos h

/-- On a device that runs, an instruction that drives or releases lands acts as BYPASS and is reported. -/
theorem tapDriving_running (h : s.inReset = false) (tdi : List Bool) (act : State → State) :
    tapDriving s tdi act = (tapBypass s .functional tdi).setFlag F.BOOT_STATUS_TAP_REFUSED true := by
  have hp : s.supply.poreset = false := by
    rw [State.inReset, Bool.or_eq_false_iff, Bool.or_eq_false_iff] at h
    exact h.1.1
  have hin : (tapBypass s .functional tdi).inReset = false := h
  simp [tapDriving, hp, hin]

theorem idcode_bits {count : Nat} (h : count ≤ 32) :
    (List.range count).map (idcodeBit s) = (List.range count).map (fun i => (0x1166454F : Nat).testBit i) :=
  List.map_congr_left fun _ hi => if_pos ((List.mem_range.1 hi).trans_le h)

end

/-- Settles O6: the instructions that drive lands by `tapDriving_in_poreset` and `tapDriving_running`, the others by what they are. -/
theorem boundaryScan : Obligations.BoundaryScan := by
  unfold Obligations.BoundaryScan
  refine ⟨fun s tdi => rfl, fun s count hcount => ?_, fun s lands tdi => rfl,
    fun s lands tdi hp => congrArg Host.Outcome.next (tapDriving_in_poreset hp tdi _),
    fun s lands tdi hp => congrArg Host.Outcome.next (tapDriving_in_poreset hp tdi _),
    fun s lands tdi hp => congrArg Host.Outcome.next (tapDriving_in_poreset hp tdi _),
    fun s tdi hp => congrArg Host.Outcome.next (tapDriving_in_poreset hp tdi _),
    fun s tdi hp => congrArg Host.Outcome.next (tapDriving_in_poreset hp tdi _),
    fun s lands tdi c hc hrun => ?_⟩
  · rw [← idcode_bits (s := s) hcount]
    rfl
  · have hexec : ∃ act, exec c s = .next (tapDriving s tdi act) := by
      simp only [List.mem_cons, List.not_mem_nil, or_false] at hc
      rcases hc with rfl | rfl | rfl | rfl | rfl <;> exact ⟨_, rfl⟩
    obtain ⟨act, hact⟩ := hexec
    refine ⟨_, hact.trans (congrArg Host.Outcome.next (tapDriving_running hrun tdi act)), rfl,
      State.flag_setFlag_same _ _ _ _ _ _ _ (by decide) rfl, ?_⟩
    exact ((memFrame.refl _ s).of_eq (u := tapBypass s .functional tdi) rfl rfl rfl).setFlag _ _ (.of_mem (.head _) ..)

end Sys2Proof.Machine

namespace Sys2Proof.Machine

/-! ## What the shared operations leave of memory and of the registers, continued -/

section
variable {s t u : State} {l : List Part}

theorem memFrame.mono {l' : List Part} (h : memFrame l s t) (hl : ∀ x ∈ l, x ∈ l') : memFrame l' s t := ⟨h.1.mono hl, h.2⟩

theorem memFrame.ite {p : Prop} {_ : Decidable p} (h : memFrame l s t) (h' : memFrame l s u) : memFrame l s (if p then t else u) := by
  split <;> assumption

theorem memFrame.foldl {α : Type} {f : State → α → State} (h : memFrame l s t) (xs : List α)
    (hf : ∀ {u} a, a ∈ xs → memFrame l s u → memFrame l s (f u a)) : memFrame l s (xs.foldl f t) :=
  List.foldlRecOn (motive := memFrame l s) xs f h fun _ hu a ha => hf a ha hu

theorem memFrame.countBy (h : memFrame l s t) (r : Reg) (c : Nat) {i j k m : Nat} (hl : holdsReg l r i j k m) :
    memFrame l s (t.countBy r c i j k m) := ⟨h.1.countBy r c i j k m hl, h.2.countBy r c i j k m⟩

theorem memFrame.bump (h : memFrame l s t) (f : Field) (c : Nat) {i j k m : Nat} (hl : holdsFld l f i j k m) :
    memFrame l s (t.bump f c i j k m) := h.setFld f _ hl

theorem memFrame.modKtl (h : memFrame l s t) (f : Fabric → Fabric) : memFrame l s (modKtl t f) := h.of_eq rfl rfl rfl

end

/-! ## Reading a register after a report, a record or a choice -/

section
variable (s t : State)

@[simp] theorem State.rd_raise (src scope index : Nat) (r : Reg) (i j k m : Nat) : (s.raise src scope index).rd r i j k m = s.rd r i j k m :=
  State.rd_of_regs (State.raise_regs ..) ..

@[simp] theorem State.fld_raise (src scope index : Nat) (f : Field) (i j k m : Nat) : (s.raise src scope index).fld f i j k m = s.fld f i j k m :=
  State.fld_of_regs (State.raise_regs ..) ..

@[simp] theorem State.flag_raise (src scope index : Nat) (f : Field) (i j k m : Nat) : (s.raise src scope index).flag f i j k m = s.flag f i j k m :=
  State.flag_of_regs (State.raise_regs ..) ..

@[simp] theorem State.rd_journal (type src index data : Nat) (r : Reg) (i j k m : Nat) :
    (s.journal type src index data).rd r i j k m = s.rd r i j k m := State.rd_of_regs (State.journal_regs ..) ..

@[simp] theorem State.flag_journal (type src index data : Nat) (f : Field) (i j k m : Nat) :
    (s.journal type src index data).flag f i j k m = s.flag f i j k m := State.flag_of_regs (State.journal_regs ..) ..

theorem State.flag_event (code src index data : Nat) {f : Field} (hf : ∀ x ∈ eventParts, x.reg ≠ f.reg) (i j k m : Nat) :
    (s.event code src index data).flag f i j k m = s.flag f i j k m := by
  rw [State.flag, State.flag, State.fld_event s code src index data hf]

theorem State.rd_ite (p : Prop) {_ : Decidable p} (r : Reg) (i j k m : Nat) :
    (if p then s else t).rd r i j k m = if p then s.rd r i j k m else t.rd r i j k m := by split <;> rfl

theorem State.fld_ite (p : Prop) {_ : Decidable p} (f : Field) (i j k m : Nat) :
    (if p then s else t).fld f i j k m = if p then s.fld f i j k m else t.fld f i j k m := by split <;> rfl

theorem State.flag_ite (p : Prop) {_ : Decidable p} (f : Field) (i j k m : Nat) :
    (if p then s else t).flag f i j k m = if p then s.flag f i j k m else t.flag f i j k m := by split <;> rfl

/-- A peak is a register. -/
theorem peak_eq (f : Field) (v i j : Nat) : ∃ r, s.peak f v i j = { s with regs := r } := by
  unfold State.peak
  split
  · exact ⟨_, rfl⟩
  · exact ⟨s.regs, rfl⟩

theorem pushEvents_eq (e : List EventRecord) : ∃ r x, s.pushEvents e = { s with regs := r, evt := x } := by
  obtain ⟨r, hr⟩ := peak_eq { s with evt := { s.evt with queue := s.evt.queue ++ e } } F.EVT_QSTATUS_PEAK (s.evt.queue ++ e).length 0 0
  exact ⟨r, _, hr⟩

/-- An event record changes the queue of events and registers only. -/
theorem event_eq (code src index data : Nat) : ∃ r x, s.event code src index data = { s with regs := r, evt := x } := by
  have hlose : ∃ r x, { (s.count .EVT_LOST).setFlag F.EVT_STATUS_LOST true with evt := { s.evt with lost := s.evt.lost + 1 } } =
      { s with regs := r, evt := x } := ⟨_, _, rfl⟩
  unfold State.event
  split
  · exact ⟨s.regs, s.evt, rfl⟩
  · dsimp only
    split
    · split
      · exact pushEvents_eq s _
      · exact hlose
    · split
      · generalize (_ : List EventRecord) ++ _ = e
        obtain ⟨r, x, hx⟩ := pushEvents_eq s e
        exact ⟨r, _, by rw [hx]⟩
      · exact hlose

@[simp] theorem State.event_ktl (code src index data : Nat) : (s.event code src index data).ktl = s.ktl := by
  obtain ⟨r, x, hx⟩ := event_eq s code src index data
  rw [hx]

@[simp] theorem State.event_flt (code src index data : Nat) : (s.event code src index data).flt = s.flt := by
  obtain ⟨r, x, hx⟩ := event_eq s code src index data
  rw [hx]

end

end Sys2Proof.Machine

namespace Sys2Proof.Machine

/-! ## The fabric's ports (R459 to R473) -/

section
variable {s t u : State} {l : List Part}

/-! ### A port of the router -/

@[simp] theorem State.port_modPort (s : State) (p : Fin 4) (f : KtlPort → KtlPort) : (s.modPort p f).port p = f (s.port p) := by
  simp [State.modPort, State.port, Vector.get_eq_getElem]

theorem State.port_modPort_ne (s : State) {p q : Fin 4} (h : q ≠ p) (f : KtlPort → KtlPort) : (s.modPort p f).port q = s.port q := by
  simp only [State.modPort, State.port, p.isLt, dif_pos, Vector.get_eq_getElem]
  exact Vector.getElem_set_ne _ _ fun e => h (Fin.ext e.symm)

theorem State.port_of_ktl (h : t.ktl = s.ktl) (p : Fin 4) : t.port p = s.port p := by rw [State.port, State.port, h]

@[simp] theorem State.port_setFld (s : State) (f : Field) (v i j k m : Nat) (p : Fin 4) : (s.setFld f v i j k m).port p = s.port p :=
  State.port_of_ktl rfl p
@[simp] theorem State.port_setFlag (s : State) (f : Field) (b : Bool) (i j k m : Nat) (p : Fin 4) : (s.setFlag f b i j k m).port p = s.port p :=
  State.port_of_ktl rfl p
@[simp] theorem State.port_count (s : State) (r : Reg) (i j k m : Nat) (p : Fin 4) : (s.count r i j k m).port p = s.port p :=
  State.port_of_ktl rfl p
@[simp] theorem State.port_countBy (s : State) (r : Reg) (c i j k m : Nat) (p : Fin 4) : (s.countBy r c i j k m).port p = s.port p :=
  State.port_of_ktl rfl p

@[simp] theorem State.regs_modPort (s : State) (p : Nat) (f : KtlPort → KtlPort) : (s.modPort p f).regs = s.regs := by
  obtain ⟨x, hx⟩ := modPort_eq s p f
  rw [hx]

@[simp] theorem State.fld_modPort (s : State) (p : Nat) (f : KtlPort → KtlPort) (g : Field) (i j k m : Nat) :
    (s.modPort p f).fld g i j k m = s.fld g i j k m := State.fld_of_regs (State.regs_modPort s p f) ..

@[simp] theorem State.flag_modPort (s : State) (p : Nat) (f : KtlPort → KtlPort) (g : Field) (i j k m : Nat) :
    (s.modPort p f).flag g i j k m = s.flag g i j k m := State.flag_of_regs (State.regs_modPort s p f) ..

@[simp] theorem State.rd_modPort (s : State) (p : Nat) (f : KtlPort → KtlPort) (r : Reg) (i j k m : Nat) :
    (s.modPort p f).rd r i j k m = s.rd r i j k m := State.rd_of_regs (State.regs_modPort s p f) ..

@[simp] theorem State.flt_modPort (s : State) (p : Nat) (f : KtlPort → KtlPort) : (s.modPort p f).flt = s.flt := by
  obtain ⟨x, hx⟩ := modPort_eq s p f
  rw [hx]

/-- A change of a port leaves the rest of the router. -/
theorem State.ktl_modPort (s : State) (p : Nat) (f : KtlPort → KtlPort) : ∃ x, (s.modPort p f).ktl = { s.ktl with ports := x } := by
  unfold State.modPort
  split
  · exact ⟨_, rfl⟩
  · exact ⟨s.ktl.ports, rfl⟩

@[simp] theorem fld_modKtl (s : State) (f : Fabric → Fabric) (g : Field) (i j k m : Nat) : (modKtl s f).fld g i j k m = s.fld g i j k m := rfl
@[simp] theorem flag_modKtl (s : State) (f : Fabric → Fabric) (g : Field) (i j k m : Nat) : (modKtl s f).flag g i j k m = s.flag g i j k m := rfl
@[simp] theorem rd_modKtl (s : State) (f : Fabric → Fabric) (r : Reg) (i j k m : Nat) : (modKtl s f).rd r i j k m = s.rd r i j k m := rfl
@[simp] theorem ktl_modKtl (s : State) (f : Fabric → Fabric) : (modKtl s f).ktl = f s.ktl := rfl

theorem ktlState_setKtlState (s : State) (p : Nat) {v : Nat} (hv : v < 8) : (setKtlState s p v).ktlState p = v :=
  (State.fld_setFld_same _ _ _ _ _ _ _ (by decide)).trans (Nat.mod_eq_of_lt hv)

/-! ### Training (R461 to R463) -/

/-- A block of the device's own UID. -/
theorem trainBlock_of_own {p : Fin 4} {lane : Fin 2} {b : TrainBlock} (hst : s.ktlState p = 1) (hok : b.checkOk = true)
    (hown : b.uid.toNat = ownUid s) : trainBlock s p lane b = ktlBlock s p F.KTL_PORT_STATUS_LOOPBACK := by
  simp [trainBlock, hst, hok, hown]

theorem ktlBlock_shows (s : State) (p : Fin 4) {f : Field} (hlo : 3 ≤ f.lo) (hw : f.lo + f.width ≤ 32)
    (h1 : f.width = 1) :
    (ktlBlock s p f).ktlState p = 4 ∧ (ktlBlock s p f).flag f p = true ∧
      memFrame [F.KTL_PORT_STATUS_STATE.part [p], f.part [p]] s (ktlBlock s p f) := by
  refine ⟨ktlState_setKtlState _ _ (by decide), ?_,
    (((memFrame.refl _ s).modPort _ _).setFlag _ _ (.of_mem_index (.tail _ (.head _)))).setFld _ _ (.of_mem_index (.head _))⟩
  exact (State.flag_setFld_bits _ F.KTL_PORT_STATUS_STATE f _ _ _ _ _ _ _ _ _ (by decide) (.inr hlo)).trans (State.flag_setFlag_same _ _ _ _ _ _ _ hw h1)

/-- A sound block on lane 0 while lane 1 has none. -/
theorem trainBlock_first {p : Fin 4} {b : TrainBlock} (hst : s.ktlState p = 1) (hok : b.checkOk = true) (hown : b.uid.toNat ≠ ownUid s)
    (hlane : (s.port p).lane1 = none) :
    trainBlock s p 0 b = (s.setFlag F.KTL_PORT_STATUS_POL0 b.inverted p).modPort p fun x => { x with lane0 := some b } := by
  simp [trainBlock, hst, hok, hown, hlane]

theorem ktlTrain_shows (s : State) (p : Fin 4) :
    (ktlTrain s p).ktlState p = 1 ∧ ((ktlTrain s p).port p).lane0 = none ∧ ((ktlTrain s p).port p).lane1 = none ∧
      memFrame [{ reg := .KTL_PORT_STATUS, idx := [p] }] s (ktlTrain s p) := by
  have hl : ∀ f : Field, f.reg = .KTL_PORT_STATUS → f.lo + f.width ≤ 32 → holdsFld [{ reg := .KTL_PORT_STATUS, idx := [p.val] }] f p 0 0 0 :=
    fun f hf hw => .of_mem_reg (by rw [hf]; exact .head _) hw
  exact ⟨ktlState_setKtlState _ _ (by decide), by simp [ktlTrain, setKtlState], by simp [ktlTrain, setKtlState],
    (((((((memFrame.refl _ s).modPort _ _).setFlag _ _ (hl _ rfl (by decide))).setFlag _ _ (hl _ rfl (by decide))).setFlag _ _
      (hl _ rfl (by decide))).setFlag _ _ (hl _ rfl (by decide))).setFlag _ _ (hl _ rfl (by decide))).setFld _ _ (hl _ rfl (by decide))⟩

theorem portRetrain_of_down {p : Fin 4} (hmay : ktlMayTrain s p = true) (hst : s.ktlState p = 3) (hw : 250000 ≤ s.now - (s.port p).since) :
    portRetrain s p = ktlTrain s p := by
  simp [portRetrain, hmay, hst, hw]

/-! ### Express words and notices leave a port's other state (R472, R473) -/

/-- From `s` to `t` the router changed at most in the express queues of its ports and in the words that wait for a unit, and no report was
withdrawn from the collector. -/
structure ExpressOnly (s t : State) : Prop where
  ktl : { t.ktl with ports := s.ktl.ports, inWords := s.ktl.inWords } = s.ktl
  port : ∀ q, { t.port q with express := (s.port q).express } = s.port q
  raised : ∀ r ∈ s.flt.raised, r ∈ t.flt.raised

theorem ExpressOnly.refl (s : State) : ExpressOnly s s := ⟨rfl, fun _ => rfl, fun _ h => h⟩

theorem ExpressOnly.trans (h : ExpressOnly s t) (h' : ExpressOnly t u) : ExpressOnly s u where
  ktl := by rw [← h.ktl, ← h'.ktl]
  port q := by rw [← h.port q, ← h'.port q]
  raised r hr := h'.raised r (h.raised r hr)

/-- What lies outside the express queues reads as before. -/
theorem ExpressOnly.port_eq (h : ExpressOnly s t) {α : Type} (f : KtlPort → α) (hf : ∀ x e, f { x with express := e } = f x) (q : Fin 4) :
    f (t.port q) = f (s.port q) :=
  (hf _ _).symm.trans (congrArg f (h.port q))

theorem ExpressOnly.ktl_eq (h : ExpressOnly s t) {α : Type} (f : Fabric → α) (hf : ∀ x p w, f { x with ports := p, inWords := w } = f x) :
    f t.ktl = f s.ktl :=
  (hf _ _ _).symm.trans (congrArg f h.ktl)

theorem mem_raised_of_raise {r : FaultReport} (h : r ∈ s.flt.raised) (src scope index : Nat) : r ∈ (s.raise src scope index).flt.raised := by
  unfold State.raise
  dsimp only
  split
  · exact h
  · exact List.mem_append_left _ h

@[simp] theorem State.raise_ktl (s : State) (src scope index : Nat) : (s.raise src scope index).ktl = s.ktl := by
  obtain ⟨x, hx⟩ := raise_eq s src scope index
  rw [hx]

@[simp] theorem State.peak_ktl (s : State) (f : Field) (v i j : Nat) : (s.peak f v i j).ktl = s.ktl := by
  unfold State.peak; split <;> simp

@[simp] theorem State.peak_flt (s : State) (f : Field) (v i j : Nat) : (s.peak f v i j).flt = s.flt := by
  unfold State.peak; split <;> simp

theorem ExpressOnly.of_eq (hk : t.ktl = s.ktl) (hr : ∀ r ∈ s.flt.raised, r ∈ t.flt.raised) : ExpressOnly s t where
  ktl := by rw [hk]
  port q := by rw [State.port_of_ktl hk]
  raised := hr

theorem ExpressOnly.modPort_express (s : State) (p : Fin 4) (w : DWord) :
    ExpressOnly s (s.modPort p fun x => { x with express := x.express ++ [w] }) where
  ktl := by
    obtain ⟨x, hx⟩ := s.ktl_modPort p fun x => { x with express := x.express ++ [w] }
    rw [hx]
  port q := by
    by_cases e : q = p
    · subst e; rw [State.port_modPort]
    · rw [State.port_modPort_ne s e]
  raised r hr := by rwa [State.flt_modPort]

theorem ExpressOnly.expressSend (s : State) (p : Nat) (w : DWord) : ExpressOnly s (s.expressSend p w) := by
  unfold State.expressSend
  split
  · rename_i hp
    dsimp only
    split
    · exact .of_eq (by simp [State.expressDrop]) fun r hr => mem_raised_of_raise (by simpa using hr) ..
    · exact (modPort_express s ⟨p, hp⟩ w).trans (.of_eq (by simp) fun r hr => by simpa using hr)
  · exact .refl s

theorem ExpressOnly.expressEach (s : State) (ps : List Nat) (w : DWord) : ExpressOnly s (s.expressEach ps w) := by
  unfold State.expressEach
  refine List.foldlRecOn (motive := ExpressOnly s) ps _ (.refl s) fun u hu p _ => ?_
  split
  · exact hu.trans (.expressSend u p w)
  · exact hu

theorem ExpressOnly.expressTo (s : State) (dev : Nat) (w : DWord) : ExpressOnly s (s.expressTo dev w) := by
  unfold State.expressTo
  dsimp only
  split
  · exact ⟨rfl, fun _ => rfl, fun _ h => h⟩
  · split
    · exact .expressSend s _ w
    · exact .of_eq (by simp) fun r hr => by simpa using hr


/-- A port that carries no traffic gets no express word. -/
theorem State.port_expressSend_ne (s : State) {p : Nat} {q : Fin 4} (h : p ≠ q.val) (w : DWord) : (s.expressSend p w).port q = s.port q := by
  unfold State.expressSend
  split
  · rename_i hp
    dsimp only
    split
    · simp [State.expressDrop, State.port_of_ktl (State.raise_ktl _ _ _ _)]
    · rw [State.port_of_ktl (State.peak_ktl ..)]
      exact State.port_modPort_ne s (p := ⟨p, hp⟩) (fun e => h (congrArg Fin.val e).symm) _
  · rfl

theorem State.port_expressEach_ne (s : State) {ps : List Nat} {q : Fin 4} (h : q.val ∉ ps) (w : DWord) : (s.expressEach ps w).port q = s.port q := by
  unfold State.expressEach
  refine List.foldlRecOn (motive := fun t : State => t.port q = s.port q) ps _ rfl fun u hu p hp => ?_
  split
  · exact (State.port_expressSend_ne u (fun e => h (e ▸ hp)) w).trans hu
  · exact hu

theorem memFrame.expressEach (h : memFrame l s t) (hl : HoldsExpress l) (ps : List Nat) (w : DWord) : memFrame l s (t.expressEach ps w) :=
  h.foldl ps fun p _ hu => .ite (hu.expressSend hl p w) hu

/-- What a notice may change of the registers. -/
def noticeParts : List Part :=
  [F.KTL_LINKS_DOWN_COUNT.part [], F.VRD_EXPQ_MAX_DEPTH.part [], { reg := .VRD_EXP_DROP, idx := [] }, F.VRD_STATUS_EXP_DROP.part []]

theorem holdsExpress_of_noticeParts (hl : ∀ x ∈ noticeParts, x ∈ l) : HoldsExpress l where
  depth _ := .of_mem (hl _ (.tail _ (.head _))) ..
  drop := .of_mem (hl _ (.tail _ (.tail _ (.head _)))) ..
  dropFlag := .of_mem (hl _ (.tail _ (.tail _ (.tail _ (.head _))))) ..

theorem memFrame.markLink (h : memFrame l s t) (hl : ∀ x ∈ noticeParts, x ∈ l) (dev port : Nat) (up : Bool) :
    memFrame l s (markLink t dev port up) :=
  (h.modKtl _).setFld _ _ (.of_mem (hl _ (.head _)) ..)

theorem memFrame.noticeSend (h : memFrame l s t) (hl : ∀ x ∈ noticeParts, x ∈ l) (p : Nat) (up : Bool) : memFrame l s (noticeSend t p up) :=
  ((h.markLink hl _ p up).expressEach (holdsExpress_of_noticeParts hl) _ _).modKtl _

/-- A port in a state other than UP gets no notice. -/
theorem port_noticeSend_down {q : Fin 4} (hq : s.ktlUp q = false) (p : Nat) (up : Bool) : (noticeSend s p up).port q = s.port q := by
  have hcarry : q.val ∉ carryingPorts (markLink s s.ownId p up) := by
    have hup : (markLink s s.ownId p up).ktlUp q = false :=
      (congrArg (· == 2) (State.fld_setFld_reg _ _ _ _ _ _ _ _ _ _ _ _ (by decide))).trans hq
    simp [carryingPorts, State.ktlCarries, hup]
  exact State.port_expressEach_ne (markLink s s.ownId p up) hcarry _

theorem raised_noticeSend {r : FaultReport} (h : r ∈ s.flt.raised) (p : Nat) (up : Bool) : r ∈ (noticeSend s p up).flt.raised :=
  (ExpressOnly.expressEach (markLink s s.ownId p up) _ _).raised r h

end
end Sys2Proof.Machine

namespace Sys2Proof.Machine
section
variable {s t u : State} {l : List Part}

/-! ### A port enters UP (R460, R462, R477) -/

/-- What a port shows once it is UP and has measured its flight. -/
def portShown (s : State) (p : Fin 4) (flight : Nat) (x : TrainBlock) : State :=
  let s := s.modPort p (fun q => { KtlPort.initial with lane0 := q.lane0, lane1 := q.lane1, since := s.now, upSince := s.now })
  let s := setNeighbour (setKtlState s p 2) p x.id.toNat x.port.toNat x.idValid
  (s.setFld F.KTL_PORT_FLIGHT_PS flight p).setFlag F.KTL_PORT_STATUS_FLIGHT_LONG (decide (5000 < flight)) p

/-- A flight that is too long is reported. -/
def portFlown (s : State) (p : Fin 4) (flight : Nat) (x : TrainBlock) : State :=
  let s := portShown s p flight x
  if decide (5000 < flight) then s.raise Src.KTL_FLIGHT (Scope.fabricPort p) p else s

/-- The port has entered UP, before its notice leaves. -/
def portEntered (s : State) (p : Fin 4) (flight : Nat) (x : TrainBlock) (only : Bool) : State :=
  ((portFlown s p flight x).setFlag F.KTL_PORT_STATUS_MAINT_ONLY only p).event EvCode.PORT 16 (4 + p.val) 2

/-- What a port that enters or leaves UP changes of its own registers. -/
abbrev ktlPortParts (p : Fin 4) : List Part :=
  [{ reg := .KTL_PORT_STATUS, idx := [p] }, { reg := .KTL_PORT_NBR, idx := [p] }, { reg := .KTL_PORT_FLIGHT, idx := [p] }]

theorem holdsFld_ktlPort (p : Fin 4) {f : Field} (hl : ∀ x ∈ ktlPortParts p, x ∈ l)
    (hr : f.reg ∈ [Reg.KTL_PORT_STATUS, .KTL_PORT_NBR, .KTL_PORT_FLIGHT]) (hw : f.lo + f.width ≤ 32) : holdsFld l f p 0 0 0 := by
  refine .of_mem_reg (hl _ ?_) hw
  simp only [List.mem_cons, List.not_mem_nil, or_false] at hr
  rcases hr with h | h | h <;> simp [h]

theorem memFrame.setNeighbour {p : Fin 4} (h : memFrame l s t) (hl : { reg := .KTL_PORT_NBR, idx := [p.val] } ∈ l) (id port : Nat) (valid : Bool) :
    memFrame l s (setNeighbour t p id port valid) :=
  (((h.setFld _ _ (.of_mem_reg hl (by decide))).setFld _ _ (.of_mem_reg hl (by decide))).setFlag _ _ (.of_mem_reg hl (by decide))).setFlag _ _
    (.of_mem_reg hl (by decide))

theorem memFrame.portShown {p : Fin 4} (h : memFrame l s t) (hl : ∀ x ∈ ktlPortParts p, x ∈ l) (flight : Nat) (x : TrainBlock) :
    memFrame l s (portShown t p flight x) :=
  ((((h.modPort p.val _).setFld _ _ (holdsFld_ktlPort p hl (.head _) (by decide))).setNeighbour (hl _ (.tail _ (.head _))) _ _ _).setFld _ _
    (holdsFld_ktlPort p hl (.tail _ (.tail _ (.head _))) (by decide))).setFlag _ _ (holdsFld_ktlPort p hl (.head _) (by decide))

theorem memFrame.portFlown {p : Fin 4} (h : memFrame l s t) (hl : ∀ x ∈ ktlPortParts p, x ∈ l) (flight : Nat) (x : TrainBlock) :
    memFrame l s (portFlown t p flight x) :=
  .ite ((h.portShown hl flight x).raise _ _ _) (h.portShown hl flight x)

theorem portFlown_shows (s : State) (p : Fin 4) {flight : Nat} (hf : flight < 2 ^ 16) (x : TrainBlock) :
    (portFlown s p flight x).ktlState p = 2 ∧ (portFlown s p flight x).fld F.KTL_PORT_NBR_ID p = x.id.toNat ∧
      (portFlown s p flight x).fld F.KTL_PORT_NBR_PORT p = x.port.toNat ∧ (portFlown s p flight x).flag F.KTL_PORT_NBR_ID_VALID p = x.idValid ∧
      (portFlown s p flight x).flag F.KTL_PORT_NBR_VALID p = true ∧ (portFlown s p flight x).fld F.KTL_PORT_FLIGHT_PS p = flight ∧
      (portFlown s p flight x).flag F.KTL_PORT_STATUS_FLIGHT_LONG p = decide (5000 < flight) := by
  have hid : x.id.toNat < 2 ^ F.KTL_PORT_NBR_ID.width := x.id.isLt
  have hport : x.port.toNat < 2 ^ F.KTL_PORT_NBR_PORT.width := x.port.isLt
  have hps : flight < 2 ^ F.KTL_PORT_FLIGHT_PS.width := hf
  simp (disch := first | decide | assumption) [portFlown, portShown, State.ktlState, setKtlState, setNeighbour, State.fld_ite, State.flag_ite]

theorem portUp_of_ready {p : Fin 4} {x y : TrainBlock} (flight : Nat) (hst : s.ktlState p = 1) (hmay : ktlMayTrain s p = true)
    (h0 : (s.port p).lane0 = some x) (h1 : (s.port p).lane1 = some y) (hx : x.tstate = 2) (hy : y.tstate = 2) :
    portUp s p flight =
      let only := !chnAligned s || ktlMember s == 2 || x.joining
      joinSend (if only then portEntered s p flight x only else noticeSend (portEntered s p flight x only) p true) := by
  have hframe := ((memFrame.refl (ktlPortParts p) s).portFlown (fun _ h => h) flight x).1
  have haligned : chnAligned (portFlown s p flight x) = chnAligned s := chnAligned_congr hframe (by simp)
  have hmember : ktlMember (portFlown s p flight x) = ktlMember s := hframe.fld_of_reg (by simp; decide) ..
  unfold portUp
  rw [h0, h1]
  dsimp only
  rw [if_pos ⟨hst, hmay, hx, hy⟩, ← haligned, ← hmember]
  rfl

end
end Sys2Proof.Machine

namespace Sys2Proof.Machine
section
variable {s t u : State} {l : List Part}

theorem memFrame.maintSend (h : memFrame l s t) (p : Nat) (m : MaintMsg) : memFrame l s (maintSend t p m) := .ite (h.modPort p _) h

theorem memFrame.joinSend (h : memFrame l s t) : memFrame l s (joinSend t) := by
  unfold Machine.joinSend
  split
  · exact .ite ((h.maintSend _ _).modKtl _) h
  · exact h

theorem portEntered_shows (s : State) (p : Fin 4) {flight : Nat} (hf : flight < 2 ^ 16) (x : TrainBlock) (only : Bool) :
    (portEntered s p flight x only).ktlState p = 2 ∧ (portEntered s p flight x only).fld F.KTL_PORT_NBR_ID p = x.id.toNat ∧
      (portEntered s p flight x only).fld F.KTL_PORT_NBR_PORT p = x.port.toNat ∧
      (portEntered s p flight x only).flag F.KTL_PORT_NBR_ID_VALID p = x.idValid ∧
      (portEntered s p flight x only).flag F.KTL_PORT_NBR_VALID p = true ∧ (portEntered s p flight x only).fld F.KTL_PORT_FLIGHT_PS p = flight ∧
      (portEntered s p flight x only).flag F.KTL_PORT_STATUS_FLIGHT_LONG p = decide (5000 < flight) ∧
      (portEntered s p flight x only).flag F.KTL_PORT_STATUS_MAINT_ONLY p = only := by
  obtain ⟨hst, hid, hport, hidv, hv, hps, hlong⟩ := portFlown_shows s p hf x
  rw [State.ktlState] at hst
  simp (disch := decide) [portEntered, State.ktlState, State.fld_event, State.flag_event, *]

/-- What follows a port's own entry leaves the registers of the port. -/
theorem memFrame_entryNotice (s : State) (p : Nat) (only : Bool) : memFrame noticeParts s (joinSend (if only then s else noticeSend s p true)) :=
  (memFrame.ite (memFrame.refl _ s) ((memFrame.refl _ s).noticeSend (fun _ h => h) p true)).joinSend

theorem memFrame_portEntered (s : State) (p : Fin 4) (flight : Nat) (x : TrainBlock) (only : Bool) :
    memFrame (ktlPortParts p ++ noticeParts ++ eventParts) s (portEntered s p flight x only) := by
  have hl : ∀ y ∈ ktlPortParts p, y ∈ ktlPortParts p ++ noticeParts ++ eventParts := fun y hy =>
    List.mem_append_left _ (List.mem_append_left _ hy)
  exact (((memFrame.refl _ s).portFlown hl flight x).setFlag _ _ (holdsFld_ktlPort p hl (.head _) (by decide))).event _ _ _ _
    fun _ h => List.mem_append_right _ h

/-! ### A port leaves UP (R464) -/

/-- The port has left UP, before the report and the notice. -/
def portLeft (s : State) (p : Fin 4) (cause : Nat) : State :=
  let lost := (s.port p).express.length
  let s := s.modPort p (fun x => { KtlPort.initial with since := s.now, lane0 := x.lane0, lane1 := x.lane1 })
  let s := s.countBy .VRD_EXP_DROP lost
  let s := if lost = 0 then s else s.setFlag F.VRD_STATUS_EXP_DROP true
  let s := (setKtlState s p 3).setFld F.KTL_PORT_STATUS_DOWN_CAUSE cause p
  let s := (s.setFlag F.KTL_PORT_STATUS_DOWN_EVT true p).count .KTL_PORT_DOWNS p
  let s := s.setFld F.KTL_PORT_FLIGHT_PS 0 p
  s.event EvCode.PORT 16 (4 + p.val) (if cause = 4 ∨ cause = 5 then 0 else 3)

theorem portDown_of_up {p : Fin 4} {cause : Nat} (hup : s.ktlUp p = true) (hc : downCause s p cause = true) (h4 : cause ≠ 4) (h5 : cause ≠ 5) :
    portDown s p cause = noticeSend ((portLeft s p cause).raise Src.KTL_LINK (Scope.fabricPort p) p) p false := by
  simp only [portDown, hc, hup, h4, h5, portLeavesUp, portLeft, Bool.not_true, Bool.false_eq_true, if_false, if_true, or_self]

theorem portLeft_shows (s : State) (p : Fin 4) {cause : Nat} (hc : cause < 2 ^ 3) :
    (portLeft s p cause).ktlState p = 3 ∧ (portLeft s p cause).fld F.KTL_PORT_STATUS_DOWN_CAUSE p = cause ∧
      (portLeft s p cause).flag F.KTL_PORT_STATUS_DOWN_EVT p = true ∧
      (portLeft s p cause).rd .KTL_PORT_DOWNS p = satCount (s.rd .KTL_PORT_DOWNS p) 1 := by
  have hw : cause < 2 ^ F.KTL_PORT_STATUS_DOWN_CAUSE.width := hc
  simp (disch := first | decide | assumption) [portLeft, State.ktlState, setKtlState, State.fld_event, State.flag_event, State.rd_event, State.rd_ite]

theorem port_portLeft (s : State) (p : Fin 4) (cause : Nat) :
    (portLeft s p cause).port p = { KtlPort.initial with since := s.now, lane0 := (s.port p).lane0, lane1 := (s.port p).lane1 } := by
  unfold portLeft
  rw [State.port_of_ktl (State.event_ktl ..)]
  split <;> simp [setKtlState]

theorem memFrame_portLeft (s : State) (p : Fin 4) (cause : Nat) :
    memFrame ([{ reg := .KTL_PORT_STATUS, idx := [p] }, { reg := .KTL_PORT_DOWNS, idx := [p] }, { reg := .KTL_PORT_FLIGHT, idx := [p] }] ++
      noticeParts ++ eventParts) s (portLeft s p cause) := by
  have hdrop := (((memFrame.refl ([{ reg := .KTL_PORT_STATUS, idx := [p.val] }, { reg := .KTL_PORT_DOWNS, idx := [p.val] },
    { reg := .KTL_PORT_FLIGHT, idx := [p.val] }] ++ noticeParts ++ eventParts) s).modPort p
      (fun x => { KtlPort.initial with since := s.now, lane0 := x.lane0, lane1 := x.lane1 })).countBy .VRD_EXP_DROP (s.port p).express.length
    (i := 0) (j := 0) (k := 0) (m := 0) (.of_mem (by simp [noticeParts]) ..))
  exact (((((((memFrame.ite hdrop (hdrop.setFlag F.VRD_STATUS_EXP_DROP true (.of_mem (by simp [noticeParts]) ..))).setFld _ _ (.of_mem_reg (.head _) (by decide))).setFld _ _
    (.of_mem_reg (.head _) (by decide))).setFlag _ _ (.of_mem_reg (.head _) (by decide))).count _ (.of_mem_index (.tail _ (.head _)))).setFld _ _
    (.of_mem_reg (.tail _ (.tail _ (.head _))) (by decide))).event _ _ _ _ fun _ h => List.mem_append_right _ h)

end
end Sys2Proof.Machine

namespace Sys2Proof.Machine
section
variable {s t u : State} {l : List Part}

/-! ### Flits (R465 to R472) -/

/-- A port's payload, replays and credits leave what it has received and its express words. -/
def sameReceived (x y : KtlPort) : Prop := y.rxSeq = x.rxSeq ∧ y.nak = x.nak ∧ y.express = x.express

theorem sameReceived_choosePayload (x : KtlPort) (only : Bool) : sameReceived x (choosePayload x only).2 := by
  unfold choosePayload
  dsimp only
  repeat' split
  all_goals exact ⟨rfl, rfl, rfl⟩

theorem sameReceived_nextPayload (x : KtlPort) (only : Bool) : sameReceived x (nextPayload x only).2.2 := by
  unfold nextPayload
  split
  · exact ⟨rfl, rfl, rfl⟩
  · dsimp only
    split
    · exact sameReceived_choosePayload x only
    · exact sameReceived_choosePayload x only

theorem sameReceived_nextCredits (x : KtlPort) : sameReceived x (nextCredits x).2.2 := by
  unfold nextCredits
  repeat' split
  all_goals exact ⟨rfl, rfl, rfl⟩

/-- The flit of a port that carries traffic, and the port after it. -/
def flitSent (s : State) (p : Fin 4) : KtlFlit × KtlPort :=
  let n := nextPayload (s.port p) false
  let c := nextCredits n.2.2
  let x := c.2.2
  let flit : KtlFlit :=
    { payload := n.1, seq := BitVec.ofNat 12 n.2.1, ack := BitVec.ofNat 12 x.rxSeq, nak := x.nak, crvc := BitVec.ofNat 2 c.1,
      credits := BitVec.ofNat 6 c.2.1, slot0 := x.express[0]?, slot1 := x.express[1]?, srcDev := BitVec.ofNat 10 s.ownId,
      srcValid := s.flag F.KTL_ID_VALID, srcPort := BitVec.ofNat 2 p.val }
  (flit, { x with sent := some flit, nak := false, express := x.express.drop 2 })

theorem flitTx_of_carries {p : Fin 4} (h : s.ktlCarries p = true) : flitTx s p = s.modPort p fun _ => (flitSent s p).2 := by
  obtain ⟨hup, honly⟩ := Bool.and_eq_true_iff.mp h
  simp only [flitTx, hup, (Bool.not_eq_true' _).mp honly, flitSent, Bool.not_true, Bool.false_eq_true, if_false]

theorem flitSent_shows (s : State) (p : Fin 4) :
    (flitSent s p).2.sent = some (flitSent s p).1 ∧ (flitSent s p).1.ack = BitVec.ofNat 12 (s.port p).rxSeq ∧
      (flitSent s p).1.nak = (s.port p).nak ∧ (flitSent s p).1.slot0 = (s.port p).express[0]? ∧
      (flitSent s p).1.slot1 = (s.port p).express[1]? ∧ (flitSent s p).2.express = (s.port p).express.drop 2 := by
  obtain ⟨hseq, hnak, hex⟩ := sameReceived_nextPayload (s.port p) false
  obtain ⟨hseq', hnak', hex'⟩ := sameReceived_nextCredits (nextPayload (s.port p) false).2.2
  simp [flitSent, *]

theorem flitRx_of_errors {p : Fin 4} {f : KtlFlit} {e : Nat} (hup : s.ktlUp p = true) (he : 5 < e) : flitRx s p f e = flitBad s p := by
  simp [flitRx, hup, he]

/-- A sound flit shows the port's neighbour. -/
def flitShown (s : State) (p : Fin 4) (f : KtlFlit) (e : Nat) : State :=
  setNeighbour ((if e = 0 then s else s.count .KTL_FEC_CORR p).modPort p fun x => { x with badInRow := 0 }) p f.srcDev.toNat f.srcPort.toNat f.srcValid

/-- What a sound flit's header does: neighbour, acknowledgement, credits. -/
def flitHeard (s : State) (p : Fin 4) (f : KtlFlit) (e : Nat) : State :=
  flitCredits (flitAck (flitShown s p f e) p f.ack.toNat f.nak) p f.crvc.toNat f.credits.toNat

/-- The payload in order is taken. -/
def flitTaken (s : State) (p : Fin 4) (f : KtlFlit) (e : Nat) : State :=
  payloadTake ((flitHeard s p f e).modPort p fun x => { x with rxSeq := f.seq.toNat }) p f.payload

theorem flitAck_port (s : State) (p : Fin 4) (ack : Nat) (nak : Bool) :
    ((flitAck s p ack nak).port p).rxSeq = (s.port p).rxSeq ∧ ((flitAck s p ack nak).port p).badInRow = (s.port p).badInRow := by
  unfold flitAck
  dsimp only
  split <;> simp

theorem flitCredits_port (s : State) (p : Fin 4) (ch n : Nat) :
    ((flitCredits s p ch n).port p).rxSeq = (s.port p).rxSeq ∧ ((flitCredits s p ch n).port p).badInRow = (s.port p).badInRow := by
  rw [flitCredits, State.port_modPort]
  split <;> exact ⟨rfl, rfl⟩

@[simp] theorem port_setNeighbour (s : State) (p id port : Nat) (valid : Bool) (q : Fin 4) :
    (setNeighbour s p id port valid).port q = s.port q := by
  simp only [setNeighbour, State.port_setFlag, State.port_setFld]

theorem flitShown_port (s : State) (p : Fin 4) (f : KtlFlit) (e : Nat) :
    ((flitShown s p f e).port p).rxSeq = (s.port p).rxSeq ∧ ((flitShown s p f e).port p).badInRow = 0 := by
  unfold flitShown
  split <;> simp

theorem flitHeard_port (s : State) (p : Fin 4) (f : KtlFlit) (e : Nat) :
    ((flitHeard s p f e).port p).rxSeq = (s.port p).rxSeq ∧ ((flitHeard s p f e).port p).badInRow = 0 := by
  obtain ⟨hseq, hbad⟩ := flitShown_port s p f e
  obtain ⟨hseq', hbad'⟩ := flitAck_port (flitShown s p f e) p f.ack.toNat f.nak
  obtain ⟨hseq'', hbad''⟩ := flitCredits_port (flitAck (flitShown s p f e) p f.ack.toNat f.nak) p f.crvc.toNat f.credits.toNat
  exact ⟨hseq''.trans (hseq'.trans hseq), hbad''.trans (hbad'.trans hbad)⟩

theorem port_modKtl_inPackets (s : State) (f : Fabric → Fabric) (hf : ∀ k, (f k).ports = k.ports) (p : Fin 4) : (modKtl s f).port p = s.port p := by
  rw [State.port, State.port, ktl_modKtl, hf]

theorem payloadTake_port (s : State) (p : Fin 4) (pl : KtlPayload) :
    ((payloadTake s p pl).port p).rxSeq = (s.port p).rxSeq ∧ ((payloadTake s p pl).port p).badInRow = (s.port p).badInRow := by
  cases pl with
  | none_ => exact ⟨rfl, rfl⟩
  | maint m =>
    simp [payloadTake, port_modKtl_inPackets]
  | part bulk sop eop bytes =>
    simp only [payloadTake]
    cases eop <;> cases bulk <;> simp [port_modKtl_inPackets]

/-- What a sound flit may change of the registers. -/
def flitParts (p : Fin 4) : List Part :=
  [{ reg := .KTL_FEC_CORR, idx := [p] }, { reg := .KTL_PORT_NBR, idx := [p] }, { reg := .KTL_REPLAYS, idx := [p] },
   { reg := .KTL_UNREACH_DROP, idx := [] }, F.VRD_EXPQ_MAX_DEPTH.part [], { reg := .VRD_EXP_DROP, idx := [] }, F.VRD_STATUS_EXP_DROP.part []]

/-- Those without the neighbour. -/
def flitTailParts (p : Fin 4) : List Part :=
  [{ reg := .KTL_REPLAYS, idx := [p] }, { reg := .KTL_UNREACH_DROP, idx := [] }, F.VRD_EXPQ_MAX_DEPTH.part [], { reg := .VRD_EXP_DROP, idx := [] },
   F.VRD_STATUS_EXP_DROP.part []]

theorem holdsExpress_flitTailParts (p : Fin 4) : HoldsExpress (flitTailParts p) where
  depth _ := .of_mem (by simp [flitTailParts]) ..
  drop := .of_mem (by simp [flitTailParts]) ..
  dropFlag := .of_mem (by simp [flitTailParts]) ..

theorem memFrame.flitAck {p : Fin 4} (h : memFrame l s t) (hl : holdsReg l .KTL_REPLAYS p 0 0 0) (ack : Nat) (nak : Bool) :
    memFrame l s (flitAck t p ack nak) :=
  .ite (((h.modPort p _).modPort p _).count _ hl) (h.modPort p _)

theorem memFrame.payloadTake (h : memFrame l s t) (p : Fin 4) (pl : KtlPayload) : memFrame l s (payloadTake t p pl) := by
  cases pl with
  | none_ => exact h
  | maint m => exact (h.modPort p _).modKtl _
  | part bulk sop eop bytes => exact .ite ((h.modPort p _).modKtl _) (h.modPort p _)

theorem memFrame.expressTake {p : Fin 4} (h : memFrame (flitTailParts p) s t) (w : DWord) : memFrame (flitTailParts p) s (expressTake t p w) :=
  .ite h (.ite (h.expressTo (holdsExpress_flitTailParts p) (.of_mem (by simp [flitTailParts]) ..) _ w) (h.modKtl _))

theorem ExpressOnly.expressTake (s : State) (p : Fin 4) (w : DWord) : ExpressOnly s (expressTake s p w) := by
  unfold Machine.expressTake
  dsimp only
  split
  · exact .refl s
  · split
    · exact .expressTo s _ w
    · exact ⟨rfl, fun _ => rfl, fun _ h => h⟩

theorem flitRx_of_in_order {p : Fin 4} {f : KtlFlit} {e : Nat} (hup : s.ktlUp p = true) (he : e ≤ 5) (hlen : payloadTooLong f.payload = false)
    (hpl : f.payload ≠ .none_) (hgap : (f.seq.toNat + 4096 - (s.port p).rxSeq) % 4096 = 1) :
    flitRx s p f e = if (flitTaken s p f e).flag F.KTL_PORT_STATUS_MAINT_ONLY p then flitTaken s p f e
      else (f.slot0.toList ++ f.slot1.toList).foldl (fun s w => expressTake s p w) (flitTaken s p f e) := by
  rw [← (flitHeard_port s p f e).1] at hgap
  have he' : ¬5 < e := by omega
  simp only [flitRx, hup, he', hlen, Bool.not_true, Bool.false_eq_true, if_false, or_self]
  rw [← flitShown, ← flitHeard, if_neg hpl, if_pos hgap, ← flitTaken]

end
end Sys2Proof.Machine

namespace Sys2Proof.Machine
section
variable {s t u : State} {l : List Part}

theorem setNeighbour_shows (s : State) (p : Nat) {id port : Nat} (valid : Bool) (hid : id < 2 ^ 10) (hport : port < 2 ^ 2) :
    (setNeighbour s p id port valid).fld F.KTL_PORT_NBR_ID p = id ∧ (setNeighbour s p id port valid).fld F.KTL_PORT_NBR_PORT p = port := by
  have hid' : id < 2 ^ F.KTL_PORT_NBR_ID.width := hid
  have hport' : port < 2 ^ F.KTL_PORT_NBR_PORT.width := hport
  simp (disch := first | decide | assumption) [setNeighbour]

theorem flitShown_shows (s : State) (p : Fin 4) (f : KtlFlit) (e : Nat) :
    (flitShown s p f e).fld F.KTL_PORT_NBR_ID p = f.srcDev.toNat ∧ (flitShown s p f e).fld F.KTL_PORT_NBR_PORT p = f.srcPort.toNat ∧
      memFrame (flitParts p) s (flitShown s p f e) := by
  obtain ⟨hid, hport⟩ := setNeighbour_shows ((if e = 0 then s else s.count .KTL_FEC_CORR p).modPort p fun x => { x with badInRow := 0 }) p f.srcValid
    f.srcDev.isLt f.srcPort.isLt
  have hcount : memFrame (flitParts p) s (if e = 0 then s else s.count .KTL_FEC_CORR p) :=
    (memFrame.refl _ s).ite ((memFrame.refl _ s).count .KTL_FEC_CORR (.of_mem_index (.head _)))
  exact ⟨hid, hport, (hcount.modPort p _).setNeighbour (.tail _ (.head _)) _ _ _⟩

theorem flitTaken_shows (s : State) (p : Fin 4) (f : KtlFlit) (e : Nat) :
    ((flitTaken s p f e).port p).rxSeq = f.seq.toNat ∧ ((flitTaken s p f e).port p).badInRow = 0 ∧
      memFrame (flitTailParts p) (flitShown s p f e) (flitTaken s p f e) := by
  have hheard : memFrame (flitTailParts p) (flitShown s p f e) (flitHeard s p f e) :=
    ((memFrame.refl _ _).flitAck (.of_mem_index (.head _)) _ _).modPort p _
  refine ⟨?_, ?_, (hheard.modPort p _).payloadTake p _⟩
  · rw [flitTaken, (payloadTake_port ..).1, State.port_modPort]
  · rw [flitTaken, (payloadTake_port ..).2, State.port_modPort]
    exact (flitHeard_port s p f e).2

/-- The express words of a flit, or none on a port that carries maintenance only. -/
theorem flitWords_frame {p : Fin 4} (h : memFrame (flitTailParts p) s t) (ws : List DWord) :
    ExpressOnly t (if t.flag F.KTL_PORT_STATUS_MAINT_ONLY p then t else ws.foldl (fun s x => expressTake s p x) t) ∧
      memFrame (flitTailParts p) s (if t.flag F.KTL_PORT_STATUS_MAINT_ONLY p then t else ws.foldl (fun s x => expressTake s p x) t) := by
  refine ⟨?_, .ite h (h.foldl _ fun x _ h => h.expressTake x)⟩
  split
  · exact .refl t
  · exact List.foldlRecOn (motive := ExpressOnly t) _ _ (.refl t) fun u hu x _ => hu.trans (.expressTake u p x)

theorem flitRx_shows {p : Fin 4} {f : KtlFlit} {e : Nat} (hup : s.ktlUp p = true) (he : e ≤ 5) (hlen : payloadTooLong f.payload = false)
    (hpl : f.payload ≠ .none_) (hgap : (f.seq.toNat + 4096 - (s.port p).rxSeq) % 4096 = 1) :
    ((flitRx s p f e).port p).rxSeq = f.seq.toNat ∧ ((flitRx s p f e).port p).badInRow = 0 ∧
      (flitRx s p f e).fld F.KTL_PORT_NBR_ID p = f.srcDev.toNat ∧ (flitRx s p f e).fld F.KTL_PORT_NBR_PORT p = f.srcPort.toNat ∧
      memFrame (flitParts p) s (flitRx s p f e) := by
  obtain ⟨hid, hport, hshown⟩ := flitShown_shows s p f e
  obtain ⟨hseq, hbad, htaken⟩ := flitTaken_shows s p f e
  rw [flitRx_of_in_order hup he hlen hpl hgap]
  obtain ⟨hexp, htail⟩ := flitWords_frame htaken (f.slot0.toList ++ f.slot1.toList)
  exact ⟨(hexp.port_eq KtlPort.rxSeq (fun _ _ => rfl) p).trans hseq, (hexp.port_eq KtlPort.badInRow (fun _ _ => rfl) p).trans hbad,
    (htail.1.fld_of_reg (by simp [flitTailParts]; decide) ..).trans hid,
    (htail.1.fld_of_reg (by simp [flitTailParts]; decide) ..).trans hport, hshown.trans (htail.mono (by simp [flitTailParts, flitParts]))⟩

theorem flitBad_shows (s : State) (p : Fin 4) :
    ((flitBad s p).port p).nak = true ∧ ((flitBad s p).port p).badInRow = (s.port p).badInRow + 1 ∧
      ((flitBad s p).port p).rxSeq = (s.port p).rxSeq ∧ (flitBad s p).rd .KTL_FEC_UNCORR p = satCount (s.rd .KTL_FEC_UNCORR p) 1 ∧
      (flitBad s p).ktl.inPackets = s.ktl.inPackets ∧ memFrame [{ reg := .KTL_FEC_UNCORR, idx := [p] }] s (flitBad s p) := by
  obtain ⟨x, hx⟩ := s.ktl_modPort p fun x => { x with nak := true, badInRow := x.badInRow + 1 }
  refine ⟨by simp [flitBad], by simp [flitBad], by simp [flitBad], by simp [flitBad], ?_,
    ((memFrame.refl _ s).modPort p _).count _ (.of_mem_index (.head _))⟩
  rw [flitBad, State.count_ktl, hx]

/-! ### Notices (R473) -/

/-- A notice that is newer than the last one of its device. -/
theorem noticeTake_newer {p : Nat} {word : DWord} (h : s.ktl.noticeSeen.at (bitsAt word.toNat 0 10) = 0 ∨
      (1 ≤ (bitsAt word.toNat 13 8 + 256 - (s.ktl.noticeSeen.at (bitsAt word.toNat 0 10) - 1)) % 256 ∧
        (bitsAt word.toNat 13 8 + 256 - (s.ktl.noticeSeen.at (bitsAt word.toNat 0 10) - 1)) % 256 < 128)) :
    noticeTake s p word =
      let u := markLink (modKtl s fun k => { k with noticeSeen := k.noticeSeen.to (bitsAt word.toNat 0 10) (bitsAt word.toNat 13 8 + 1) })
        (bitsAt word.toNat 0 10) (bitsAt word.toNat 10 2) (word.toNat.testBit 12)
      u.expressEach ((carryingPorts u).filter (· ≠ p)) word := by
  simp only [noticeTake, if_pos h]

/-- The last notice of a device again. -/
theorem noticeTake_last {p : Nat} {word : DWord} (h : s.ktl.noticeSeen.at (bitsAt word.toNat 0 10) = bitsAt word.toNat 13 8 + 1) :
    noticeTake s p word = s := by
  simp only [noticeTake, h]
  rw [if_neg]
  omega

theorem markLink_down (s : State) (dev port : Nat) (up : Bool) : decide ((dev, port) ∈ (markLink s dev port up).ktl.down) = !up := by
  rw [markLink, State.setFld_ktl, ktl_modKtl]
  cases up <;> simp

theorem markLink_noticeSeen (s : State) (dev port : Nat) (up : Bool) : (markLink s dev port up).ktl.noticeSeen = s.ktl.noticeSeen := by
  rw [markLink, State.setFld_ktl, ktl_modKtl]

theorem noticeTake_newer_shows (p : Nat) {word : DWord} (h : s.ktl.noticeSeen.at (bitsAt word.toNat 0 10) = 0 ∨
      (1 ≤ (bitsAt word.toNat 13 8 + 256 - (s.ktl.noticeSeen.at (bitsAt word.toNat 0 10) - 1)) % 256 ∧
        (bitsAt word.toNat 13 8 + 256 - (s.ktl.noticeSeen.at (bitsAt word.toNat 0 10) - 1)) % 256 < 128)) :
    decide ((bitsAt word.toNat 0 10, bitsAt word.toNat 10 2) ∈ (noticeTake s p word).ktl.down) = !word.toNat.testBit 12 ∧
      (noticeTake s p word).ktl.noticeSeen.at (bitsAt word.toNat 0 10) = bitsAt word.toNat 13 8 + 1 ∧ memFrame noticeParts s (noticeTake s p word) := by
  let v := modKtl s fun k => { k with noticeSeen := k.noticeSeen.to (bitsAt word.toNat 0 10) (bitsAt word.toNat 13 8 + 1) }
  let u := markLink v (bitsAt word.toNat 0 10) (bitsAt word.toNat 10 2) (word.toNat.testBit 12)
  have hexp : ExpressOnly u (u.expressEach ((carryingPorts u).filter (· ≠ p)) word) := .expressEach ..
  have hdown := hexp.ktl_eq Fabric.down fun _ _ _ => rfl
  have hseen := hexp.ktl_eq Fabric.noticeSeen fun _ _ _ => rfl
  rw [noticeTake_newer h]
  refine ⟨?_, ?_, (((memFrame.refl _ s).modKtl _).markLink (fun _ h => h) _ _ _).expressEach (holdsExpress_of_noticeParts fun _ h => h) _ word⟩
  · dsimp only
    rw [hdown]
    exact markLink_down ..
  · dsimp only
    rw [hseen, markLink_noticeSeen, ktl_modKtl]
    exact NMap.at_to_same s.ktl.noticeSeen (bitsAt word.toNat 0 10) (bitsAt word.toNat 13 8 + 1)

end

/-- Settles O39: a port's training, its entry into UP and its leaving, the flits it sends and takes, and the notices of links. -/
theorem fabricLinks : Obligations.FabricLinks := by
  unfold Obligations.FabricLinks
  refine ⟨fun s p lane b hst hok hown => ⟨_, congrArg Host.Outcome.next (trainBlock_of_own hst hok hown), ?_⟩,
    fun s p b hst hok hown hlane => ⟨_, congrArg Host.Outcome.next (trainBlock_first hst hok hown hlane), ?_⟩,
    fun s p flight x y hst hmay h0 h1 hx hy => ⟨_, congrArg Host.Outcome.next (portUp_of_ready flight.toNat hst hmay h0 h1 hx hy), ?_⟩,
    fun s p cause hup hc h4 h5 => ⟨_, congrArg Host.Outcome.next (portDown_of_up hup hc h4 h5), ?_⟩,
    fun s p hmay hst hw => ⟨_, congrArg Host.Outcome.next (portRetrain_of_down hmay hst hw), ?_⟩,
    fun s p hc => ⟨_, congrArg Host.Outcome.next (flitTx_of_carries hc), ?_⟩,
    fun s p f e hup he => ⟨_, congrArg Host.Outcome.next (flitRx_of_errors hup he), ?_⟩,
    fun s p f e hup he hlen hpl hgap => ⟨_, rfl, ?_⟩,
    fun s p word h => ⟨_, rfl, ?_⟩,
    fun s p word h => ⟨_, congrArg Host.Outcome.next (noticeTake_last (s := wordTaken s word) h), rfl, rfl, ((memFrame.refl [] s).modKtl _)⟩⟩
  · exact ktlBlock_shows s p (by decide) (by decide) (by decide)
  · refine ⟨by simp, ?_, by simp (disch := decide), ((memFrame.refl _ s).setFlag _ _ (.of_mem_index (.head _))).modPort p _⟩
    simpa (disch := decide) [State.ktlState] using hst
  · obtain ⟨hup, hid, hport, hidv, hv, hps, hlong, honly⟩ := portEntered_shows s p flight.isLt x (!chnAligned s || ktlMember s == 2 || x.joining)
    have htail := memFrame_entryNotice (portEntered s p flight.toNat x (!chnAligned s || ktlMember s == 2 || x.joining)) p
      (!chnAligned s || ktlMember s == 2 || x.joining)
    refine ⟨(htail.1.fld_of_reg (by decide) ..).trans hup, (htail.1.fld_of_reg (by decide) ..).trans hid,
      (htail.1.fld_of_reg (by decide) ..).trans hport, (htail.1.flag_of_reg (by decide) ..).trans hidv,
      (htail.1.flag_of_reg (by decide) ..).trans hv, (htail.1.fld_of_reg (by decide) ..).trans hps,
      (htail.1.flag_of_reg (by decide) ..).trans hlong, (htail.1.flag_of_reg (by decide) ..).trans honly,
      (memFrame_portEntered s p flight.toNat x _).trans (htail.mono (by simp [noticeParts]))⟩
  · obtain ⟨hst, hcause, hevt, hdowns⟩ := portLeft_shows s p cause.isLt
    let u := (portLeft s p cause.toNat).raise Src.KTL_LINK (Scope.fabricPort p) p
    have htail : memFrame noticeParts (portLeft s p cause.toNat) (noticeSend u p false) :=
      ((memFrame.refl _ (portLeft s p cause.toNat)).raise _ _ _).noticeSend (fun _ h => h) p false
    have hdown : u.ktlUp p = false := by
      rw [State.ktlUp, State.ktlState, State.fld_raise]
      exact beq_eq_false_iff_ne.mpr (hst.trans_ne (by decide))
    have hport := (port_noticeSend_down hdown p false).trans ((State.port_of_ktl (State.raise_ktl ..) p).trans (port_portLeft s p cause.toNat))
    refine ⟨(htail.1.fld_of_reg (by decide) ..).trans hst, (htail.1.fld_of_reg (by decide) ..).trans hcause,
      (htail.1.flag_of_reg (by decide) ..).trans hevt, (htail.1.rd_eq (by decide) ..).trans hdowns, ?_, ?_, ?_,
      raised_noticeSend (mem_raised_raise _ _ _ _ (by omega)) p false, ?_⟩
    · exact congrArg KtlPort.express hport
    · exact congrArg KtlPort.control hport
    · exact congrArg KtlPort.bulk hport
    · exact (memFrame_portLeft s p cause.toNat).trans (htail.mono fun x hx => List.mem_append_left _ (List.mem_append_right _ hx))
  · exact ktlTrain_shows s p
  · obtain ⟨hsent, hack, hnak, h0, h1, hex⟩ := flitSent_shows s p
    refine ⟨?_, by rw [State.port_modPort, hex], by rw [State.port_modPort]; rfl, (memFrame.refl _ s).modPort p _⟩
    rw [State.port_modPort, hsent, Option.any_some, decide_eq_true_eq]
    exact ⟨hack, hnak, h0, h1, rfl⟩
  · exact flitBad_shows s p
  · exact flitRx_shows hup he hlen hpl hgap
  · obtain ⟨hdown, hseen, hframe⟩ := noticeTake_newer_shows (s := wordTaken s word) p.val h
    exact ⟨hdown, hseen, ((memFrame.refl _ s).modKtl _).trans hframe⟩

end Sys2Proof.Machine

namespace Sys2Proof.Machine

/-! ## Work of an outside master on a store (R36, R37)

A store without a poisoned word, while no injection waits, takes reads and writes of whole ranges: they change the bytes that are
written, the marks of corrected errors, the registers of corrected errors, running tests and the journal, and nothing else. -/

section
variable {s t u : State} {id : StoreId} {a line : Nat} {data : List Byte}

/-- No word of the store is poisoned and no injection waits. -/
def CalmStore (id : StoreId) (s : State) : Prop := (s.store id).double = [] ∧ s.flt.inject = none

/-- The registers of a store's corrected errors. -/
def eccParts : StoreId → List Part
  | .slice n => [{ reg := .SLC_ECC_CE, idx := [n] }, { reg := .SLC_ECC_ADDR, idx := [n] }]
  | .central => [{ reg := .GLB_CSTORE_ECC_CE, idx := [] }, { reg := .GLB_CSTORE_ECC_ADDR, idx := [] }]

/-- The state with a store, the registers, the journal and the running tests replaced. -/
def workedState (id : StoreId) (s : State) (x : Store) (r : RegFile) (j : Journal) (q : List SelfTest) : State :=
  { s.setStore id x with regs := r, rpl := j, flt := { s.flt with tests := q } }

/-- From `s` to `t` a master worked on a store. -/
structure WorkedOn (id : StoreId) (s t : State) : Prop where
  frame : t = workedState id s (t.store id) t.regs t.rpl t.flt.tests
  regs : sameRegs (eccParts id) s t
  clean : (s.store id).double = [] → (t.store id).double = []

@[simp] theorem State.setStore_store (s : State) (id : StoreId) : s.setStore id (s.store id) = s := by
  cases id with
  | central => rfl
  | slice n => exact congrArg (fun x => { s with slices := x }) (Vector.set_getElem_self n.isLt)

@[simp] theorem State.setStore_setStore (s : State) (id : StoreId) (x y : Store) : (s.setStore id x).setStore id y = s.setStore id y := by
  cases id with
  | central => rfl
  | slice n => simp [State.setStore, State.modSl, Vector.get_eq_getElem]

@[simp] theorem State.setStore_regs (s : State) (id : StoreId) (x : Store) : (s.setStore id x).regs = s.regs := by cases id <;> rfl
@[simp] theorem State.setStore_flt (s : State) (id : StoreId) (x : Store) : (s.setStore id x).flt = s.flt := by cases id <;> rfl
@[simp] theorem State.setStore_rpl (s : State) (id : StoreId) (x : Store) : (s.setStore id x).rpl = s.rpl := by cases id <;> rfl

theorem store_workedState_same (id : StoreId) (s : State) (x : Store) (r : RegFile) (j : Journal) (q : List SelfTest) :
    (workedState id s x r j q).store id = x := by
  refine Eq.trans ?_ (State.store_setStore_same s id x)
  cases id <;> rfl

theorem store_workedState_ne (s : State) {y : StoreId} (h : y ≠ id) (x : Store) (r : RegFile) (j : Journal) (q : List SelfTest) :
    (workedState id s x r j q).store y = s.store y := by
  refine Eq.trans ?_ (State.store_setStore_ne s x h)
  cases id <;> cases y <;> rfl

theorem workedState_workedState (id : StoreId) (s : State) (x x' : Store) (r r' : RegFile) (j j' : Journal) (q q' : List SelfTest) :
    workedState id (workedState id s x r j q) x' r' j' q' = workedState id s x' r' j' q' := by
  have h := State.setStore_setStore s id x x'
  cases id with
  | central => rfl
  | slice n => exact congrArg (fun y : State => { y with regs := r', rpl := j', flt := { s.flt with tests := q' } }) h

theorem workedState_self (id : StoreId) (s : State) : workedState id s (s.store id) s.regs s.rpl s.flt.tests = s := by
  rw [workedState, State.setStore_store]

theorem WorkedOn.refl (id : StoreId) (s : State) : WorkedOn id s s := ⟨(workedState_self id s).symm, sameRegs.refl _ s, fun h => h⟩

/-- Registers of corrected errors, the store, the journal and the tests make up the work. -/
theorem WorkedOn.of_eq {x : Store} {r : RegFile} {j : Journal} {q : List SelfTest} (ht : t = workedState id s x r j q) (hr : sameRegs (eccParts id) s t)
    (hx : (s.store id).double = [] → x.double = []) : WorkedOn id s t := by
  subst ht
  exact ⟨by rw [store_workedState_same]; rfl, hr, fun h => by rw [store_workedState_same]; exact hx h⟩

theorem WorkedOn.trans (h : WorkedOn id s t) (h' : WorkedOn id t u) : WorkedOn id s u where
  frame := by
    have hu := h'.frame
    rwa [h.frame, workedState_workedState] at hu
  regs := h.regs.trans h'.regs
  clean e := h'.clean (h.clean e)

/-- A part of the state that the work leaves. -/
theorem WorkedOn.keep (h : WorkedOn id s t) {α : Type} (f : State → α) (hf : ∀ x r j q, f (workedState id s x r j q) = f s) : f t = f s :=
  (congrArg f h.frame).trans (hf ..)

theorem WorkedOn.inject (h : WorkedOn id s t) : t.flt.inject = s.flt.inject := h.keep (·.flt.inject) fun _ _ _ _ => rfl
theorem WorkedOn.dma (h : WorkedOn id s t) : t.dma = s.dma := h.keep State.dma fun _ _ _ _ => by cases id <;> rfl
theorem WorkedOn.side (h : WorkedOn id s t) : t.side = s.side := h.keep State.side fun _ _ _ _ => by cases id <;> rfl
theorem WorkedOn.host (h : WorkedOn id s t) : t.host = s.host := h.keep State.host fun _ _ _ _ => by cases id <;> rfl
theorem WorkedOn.boot (h : WorkedOn id s t) : t.boot = s.boot := h.keep State.boot fun _ _ _ _ => by cases id <;> rfl
theorem WorkedOn.now (h : WorkedOn id s t) : t.now = s.now := h.keep State.now fun _ _ _ _ => by cases id <;> rfl

theorem WorkedOn.store_ne (h : WorkedOn id s t) {y : StoreId} (hy : y ≠ id) : t.store y = s.store y :=
  h.keep (·.store y) fun _ _ _ _ => store_workedState_ne s hy ..

theorem CalmStore.worked (hc : CalmStore id s) (h : WorkedOn id s t) : CalmStore id t := ⟨h.clean hc.1, h.inject.trans hc.2⟩

theorem WorkedOn.setStore (h : WorkedOn id s t) (x : Store) (hx : (t.store id).double = [] → x.double = []) : WorkedOn id s (t.setStore id x) := by
  refine h.trans (.of_eq (x := x) (r := t.regs) (j := t.rpl) (q := t.flt.tests) ?_ ((sameRegs.refl _ t).of_regs (by simp)) hx)
  cases id <;> rfl

theorem WorkedOn.regs_only (h : WorkedOn id s t) {r : RegFile} (hu : u = { t with regs := r }) (hr : sameRegs (eccParts id) t u) : WorkedOn id s u := by
  refine h.trans (.of_eq (x := t.store id) (r := r) (j := t.rpl) (q := t.flt.tests) ?_ hr fun e => e)
  rw [hu, workedState, State.setStore_store]

theorem WorkedOn.rpl_only (h : WorkedOn id s t) {j : Journal} (hu : u = { t with rpl := j }) : WorkedOn id s u := by
  refine h.trans (.of_eq (x := t.store id) (r := t.regs) (j := j) (q := t.flt.tests) ?_ ((sameRegs.refl _ t).of_regs (by rw [hu])) fun e => e)
  rw [hu, workedState, State.setStore_store]

theorem WorkedOn.tests_only (h : WorkedOn id s t) {q : List SelfTest} (hu : u = { t with flt := { t.flt with tests := q } }) : WorkedOn id s u := by
  refine h.trans (.of_eq (x := t.store id) (r := t.regs) (j := t.rpl) (q := q) ?_ ((sameRegs.refl _ t).of_regs (by rw [hu])) fun e => e)
  rw [hu, workedState, State.setStore_store]

end
end Sys2Proof.Machine

namespace Sys2Proof.Machine
section
variable {s t u : State} {id : StoreId} {a line : Nat} {data : List Byte}

theorem WorkedOn.countCe (h : WorkedOn id s t) (k : Nat) : WorkedOn id s (t.countCe id k) := by
  cases id with
  | central => exact h.regs_only rfl ((sameRegs.refl _ t).countBy _ _ _ _ _ _ (.of_mem (.head _) ..))
  | slice n => exact h.regs_only rfl ((sameRegs.refl _ t).countBy _ _ _ _ _ _ (.of_mem_index (.head _)))

theorem WorkedOn.setEccAddr (h : WorkedOn id s t) (line word : Nat) (ue : Bool) : WorkedOn id s (t.setEccAddr id line word ue) := by
  have hl : ∀ f : Field, f.reg = .GLB_CSTORE_ECC_ADDR → f.lo + f.width ≤ 32 → holdsFld (eccParts .central) f 0 0 0 0 :=
    fun f hf hw => .of_mem_global (by rw [hf]; exact .tail _ (.head _)) hw ..
  have hl' : ∀ (n : Fin 16) (f : Field), f.reg = .SLC_ECC_ADDR → f.lo + f.width ≤ 32 → holdsFld (eccParts (.slice n)) f n 0 0 0 :=
    fun n f hf hw => .of_mem_reg (by rw [hf]; exact .tail _ (.head _)) hw
  unfold State.setEccAddr
  cases id with
  | central =>
    exact h.regs_only rfl ((((sameRegs.refl _ t).setFld _ _ _ _ _ _ (hl _ rfl (by decide))).setFld _ _ _ _ _ _ (hl _ rfl (by decide))).setFld _ _ _ _ _ _
      (hl _ rfl (by decide)))
  | slice n =>
    exact h.regs_only rfl ((((sameRegs.refl _ t).setFld _ _ _ _ _ _ (hl' n _ rfl (by decide))).setFld _ _ _ _ _ _ (hl' n _ rfl (by decide))).setFld _ _ _ _ _ _
      (hl' n _ rfl (by decide)))

/-- The bytes of every store are those before, but for a range of one that holds what was written. -/
def WroteBytes (id : StoreId) (a : Nat) (data : List Byte) (s t : State) : Prop :=
  (∀ i, i < data.length → (t.store id).byteAt (a + i) = data.getD i 0) ∧
    ∀ x b, ¬(x = id ∧ a ≤ b ∧ b < a + data.length) → (t.store x).byteAt b = (s.store x).byteAt b

theorem WroteBytes.append {l l' : List Byte} (h : WroteBytes id a l s t) (h' : WroteBytes id (a + l.length) l' t u) :
    WroteBytes id a (l ++ l') s u := by
  refine ⟨fun i hi => ?_, fun x b hb => ?_⟩
  · by_cases hl : i < l.length
    · rw [h'.2 _ _ (by omega), h.1 i hl, List.getD_append _ _ _ _ hl]
    · rw [List.length_append] at hi
      have := h'.1 (i - l.length) (by omega)
      rw [show a + l.length + (i - l.length) = a + i by omega] at this
      rw [this, List.getD_append_right _ _ _ _ (by omega)]
  · rw [List.length_append] at hb
    rw [h'.2 _ _ fun ⟨hx, h1, h2⟩ => hb ⟨hx, by omega, by omega⟩, h.2 _ _ fun ⟨hx, h1, h2⟩ => hb ⟨hx, by omega, by omega⟩]

theorem WroteBytes.take_drop {k : Nat} (h : WroteBytes id a (data.take k) s t) (h' : WroteBytes id (a + k) (data.drop k) t u) :
    WroteBytes id a data s u := by
  by_cases hk : k ≤ data.length
  · have := h.append (l' := data.drop k) (by rw [List.length_take, Nat.min_eq_left hk]; exact h')
    rwa [List.take_append_drop] at this
  · rw [List.drop_eq_nil_of_le (by omega)] at h'
    rw [List.take_of_length_le (by omega)] at h
    refine ⟨fun i hi => ?_, fun x b hb => ?_⟩
    · rw [h'.2 _ _ fun ⟨_, h1, h2⟩ => by rw [List.length_nil] at h2; omega, h.1 i hi]
    · rw [h'.2 _ _ fun ⟨_, h1, h2⟩ => by rw [List.length_nil] at h2; omega, h.2 x b hb]

theorem WroteBytes.of_sameBytes (h : WroteBytes id a data s t) (h' : sameBytes t u) : WroteBytes id a data s u :=
  ⟨fun i hi => (h' ..).trans (h.1 i hi), fun x b hb => (h' ..).trans (h.2 x b hb)⟩

theorem sameBytes.wrote (h : sameBytes s t) (h' : WroteBytes id a data t u) : WroteBytes id a data s u :=
  ⟨h'.1, fun x b hb => (h'.2 x b hb).trans (h ..)⟩

theorem sameBytes.wroteNone (h : sameBytes s t) : WroteBytes id a [] s t := ⟨fun _ hi => absurd hi (Nat.not_lt_zero _), fun x b _ => h x b⟩

theorem wroteBytes_setStore (s : State) (id : StoreId) (a : Nat) (data : List Byte) (ws : List Nat) :
    WroteBytes id a data s (s.setStore id (ws.foldl Store.cleanWord ((s.store id).writeBytes a data))) := by
  refine ⟨fun i hi => ?_, fun x b hb => ?_⟩
  · rw [State.store_setStore_same, Store.byteAt_cleanWords, Store.byteAt_writeBytes_inside _ _ _ hi, List.getD_eq_getElem _ _ hi]
  · by_cases hx : x = id
    · subst hx
      have hout : b < a ∨ a + data.length ≤ b := by
        by_contra hin
        exact hb ⟨rfl, by omega, by omega⟩
      rw [State.store_setStore_same, Store.byteAt_cleanWords, Store.byteAt_writeBytes_outside _ _ _ hout]
    · rw [State.store_setStore_ne _ _ hx]

/-! ### Reads -/

theorem CalmStore.linePoison (h : CalmStore id s) (line : Nat) : (s.store id).linePoison line = [] := by
  simp [Store.linePoison, h.1]

theorem CalmStore.lineRead (h : CalmStore id s) (line : Nat) : s.lineRead id line = ([], s.eccRead id line) := by
  simp [State.lineRead, State.eccInjected, h.2, h.linePoison]

theorem CalmStore.worked_eccRead (h : CalmStore id s) (line : Nat) : WorkedOn id s (s.eccRead id line) := by
  unfold State.eccRead
  rw [h.linePoison]
  simp only [List.isEmpty_nil, if_true]
  split
  · exact .refl id s
  · exact (((WorkedOn.refl id s).countCe _).setEccAddr _ _ _).setStore _ fun e => e

theorem sameBytes_countCe (h : sameBytes s t) (id : StoreId) (k : Nat) : sameBytes s (t.countCe id k) := by
  cases id
  · exact h.countBy _ _ _ _ _ _
  · exact h.countBy _ _ _ _ _ _

theorem sameBytes_setEccAddr (h : sameBytes s t) (id : StoreId) (line word : Nat) (ue : Bool) : sameBytes s (t.setEccAddr id line word ue) := by
  cases id
  · exact ((h.setFld _ _ _ _ _ _).setFld _ _ _ _ _ _).setFld _ _ _ _ _ _
  · exact ((h.setFld _ _ _ _ _ _).setFld _ _ _ _ _ _).setFld _ _ _ _ _ _

theorem CalmStore.sameBytes_eccRead (h : CalmStore id s) (line : Nat) : sameBytes s (s.eccRead id line) := by
  unfold State.eccRead
  rw [h.linePoison]
  simp only [List.isEmpty_nil, if_true]
  split
  · exact .refl s
  · exact (sameBytes_setEccAddr (sameBytes_countCe (.refl s) id _) id _ _ _).setStore _ _ rfl

/-- A read of a range of a calm store delivers its bytes and no poisoned word. -/
theorem CalmStore.rangeRead (h : CalmStore id s) (a k : Nat) :
    ∃ t, rangeRead s id a k = ((s.store id).read a k, [], t) ∧ WorkedOn id s t ∧ sameBytes s t := by
  have hlines : ∀ (l : List Nat) (t : State), CalmStore id t → ∃ u, l.foldl (fun (x : List Nat × State) l =>
      let (w, s) := x.2.lineRead id l
      (x.1 ++ w.map (· + 16 * l), s)) ([], t) = ([], u) ∧ WorkedOn id t u ∧ sameBytes t u := by
    intro l
    induction l with
    | nil => exact fun t _ => ⟨t, rfl, .refl id t, .refl t⟩
    | cons line l ih =>
      intro t ht
      obtain ⟨u, hu, hw, hb⟩ := ih _ (ht.worked (ht.worked_eccRead line))
      refine ⟨u, ?_, (ht.worked_eccRead line).trans hw, (ht.sameBytes_eccRead line).trans hb⟩
      rw [List.foldl_cons, ← hu, ht.lineRead]
      rfl
  unfold Machine.rangeRead
  by_cases hk : k = 0
  · rw [if_pos hk, hk]
    exact ⟨s, rfl, .refl id s, .refl s⟩
  · obtain ⟨t, ht, hw, hb⟩ := hlines ((List.range ((a + k - 1) / 128 - a / 128 + 1)).map (· + a / 128)) s h
    refine ⟨t, ?_, hw, hb⟩
    rw [if_neg hk]
    dsimp only
    rw [ht]
    simp [Store.read, hb id]

/-! ### Writes -/

theorem marchTouched_eq (s : State) (id : StoreId) (line : Nat) : ∃ q, s.marchTouched id line = { s with flt := { s.flt with tests := q } } := by
  unfold State.marchTouched
  split
  · exact ⟨s.flt.tests, rfl⟩
  · exact ⟨_, rfl⟩

theorem sameBytes_marchTouched (s : State) (id : StoreId) (line : Nat) : sameBytes s (s.marchTouched id line) := by
  obtain ⟨q, hq⟩ := marchTouched_eq s id line
  rw [hq]
  exact (sameBytes.refl s).of_stores rfl rfl

theorem Store.double_writeBytes (st : Store) (a : Nat) (data : List Byte) : (st.writeBytes a data).double = st.double := by
  induction data generalizing st a with
  | nil => rfl
  | cons b l ih => rw [Store.writeBytes, ih]; rfl

theorem Store.double_cleanWords (ws : List Nat) {st : Store} (h : st.double = []) : (ws.foldl Store.cleanWord st).double = [] := by
  induction ws generalizing st with
  | nil => exact h
  | cons w ws ih => exact ih (by simp [Store.cleanWord, h])

/-- The store that bytes were written to, as a running test finds it. -/
def storeWritten (s : State) (id : StoreId) (a : Nat) (data : List Byte) : State :=
  (s.setStore id (((List.range ((a + data.length - 1) / 8 - a / 8 + 1)).map (· + a / 8)).foldl Store.cleanWord
    ((s.store id).writeBytes a data))).marchTouched id (a / 128)

theorem worked_storeWritten (s : State) (id : StoreId) (a : Nat) (data : List Byte) : WorkedOn id s (storeWritten s id a data) := by
  obtain ⟨q, hq⟩ := marchTouched_eq (s.setStore id (((List.range ((a + data.length - 1) / 8 - a / 8 + 1)).map (· + a / 8)).foldl Store.cleanWord
    ((s.store id).writeBytes a data))) id (a / 128)
  exact ((WorkedOn.refl id s).setStore _ fun e => Store.double_cleanWords _ ((Store.double_writeBytes ..).trans e)).tests_only hq

theorem wrote_storeWritten (s : State) (id : StoreId) (a : Nat) (data : List Byte) : WroteBytes id a data s (storeWritten s id a data) :=
  (wroteBytes_setStore s id a data _).of_sameBytes (sameBytes_marchTouched _ _ _)

/-- Whole 64-bit words need no read. -/
theorem lineWrite_whole (h : Store.wholeWords a data.length = true) (hd : data ≠ []) : s.lineWrite id a data = (storeWritten s id a data, true) := by
  have hd' : ¬data.isEmpty = true := by simpa using hd
  simp only [State.lineWrite, if_neg hd', if_pos h]
  rfl

theorem CalmStore.lineWrite (h : CalmStore id s) (a : Nat) (data : List Byte) :
    ∃ t, s.lineWrite id a data = (t, true) ∧ WorkedOn id s t ∧ WroteBytes id a data s t := by
  by_cases hd : data = []
  · subst hd
    exact ⟨s, rfl, .refl id s, (sameBytes.refl s).wroteNone⟩
  by_cases hw : Store.wholeWords a data.length = true
  · exact ⟨_, lineWrite_whole hw hd, worked_storeWritten .., wrote_storeWritten ..⟩
  · refine ⟨storeWritten (s.eccRead id (a / 128)) id a data, ?_, (h.worked_eccRead _).trans (worked_storeWritten ..),
      (h.sameBytes_eccRead _).wrote (wrote_storeWritten ..)⟩
    have hd' : ¬data.isEmpty = true := by simpa using hd
    simp only [State.lineWrite, if_neg hd', if_neg hw, h.lineRead]
    rfl

theorem CalmStore.storeWrite (h : CalmStore id s) (a : Nat) (data : List Byte) :
    ∃ t, s.storeWrite id a data = (t, true) ∧ WorkedOn id s t ∧ WroteBytes id a data s t := by
  have hgo : ∀ (fuel : Nat) (s : State) (a : Nat) (data : List Byte), CalmStore id s → data.length + a % 128 ≤ 128 * fuel →
      ∃ t, State.storeWriteGo id fuel s a data = (t, true) ∧ WorkedOn id s t ∧ WroteBytes id a data s t := by
    intro fuel
    induction fuel with
    | zero =>
      intro s a data _ hl
      obtain rfl : data = [] := List.eq_nil_of_length_eq_zero (by omega)
      exact ⟨s, rfl, .refl id s, (sameBytes.refl s).wroteNone⟩
    | succ fuel ih =>
      intro s a data hs hl
      by_cases hd : data.isEmpty = true
      · rw [State.storeWriteGo, if_pos hd]
        rw [List.isEmpty_iff] at hd
        subst hd
        exact ⟨s, rfl, .refl id s, (sameBytes.refl s).wroteNone⟩
      obtain ⟨t, ht, hw, hb⟩ := hs.lineWrite a (data.take (128 - a % 128))
      obtain ⟨u, hu, hw', hb'⟩ := ih t (a + (128 - a % 128)) (data.drop (128 - a % 128)) (hs.worked hw) (by simp; omega)
      refine ⟨u, ?_, hw.trans hw', ?_⟩
      · rw [State.storeWriteGo, if_neg hd]
        dsimp only
        rw [ht]
        dsimp only
        rw [hu]
        rfl
      · exact hb.take_drop hb'
  exact hgo _ s a data h (by omega)

/-! ### Writes of a path that the journal follows (R666, R667) -/

theorem closeRun_eq (s : State) (r : StoreRun) : ∃ j, closeRun s r = { s with rpl := j } := by
  unfold closeRun
  dsimp only
  split
  · exact ⟨_, rfl⟩
  · split
    · exact ⟨_, rfl⟩
    · exact ⟨_, rfl⟩

theorem journalBefore_eq (s : State) (n : Fin 16) (path line : Nat) : ∃ j, journalBefore s n path line = { s with rpl := j } := by
  unfold journalBefore
  refine List.foldlRecOn (motive := fun t : State => ∃ j, t = { s with rpl := j }) _ _ ⟨s.rpl, rfl⟩ fun t ht r _ => ?_
  obtain ⟨j, rfl⟩ := ht
  exact closeRun_eq ..

theorem journalLine_eq (s : State) (n : Fin 16) (path line : Nat) : ∃ j, journalLine s n path line = { s with rpl := j } := by
  unfold journalLine
  split
  · split
    · exact ⟨_, rfl⟩
    · exact ⟨_, rfl⟩
  · exact ⟨s.rpl, rfl⟩

/-- What the journal does before a path writes a line, and after. -/
def pathBefore (s : State) (path : Nat) (id : StoreId) (line : Nat) : State :=
  match id with | .slice n => journalBefore s n path line | .central => s

def pathAfter (s : State) (path : Nat) (id : StoreId) (line : Nat) : State :=
  match id with | .slice n => journalLine s n path line | .central => s

theorem pathBefore_eq (s : State) (path : Nat) (id : StoreId) (line : Nat) : ∃ j, pathBefore s path id line = { s with rpl := j } := by
  cases id with
  | slice n => exact journalBefore_eq ..
  | central => exact ⟨s.rpl, rfl⟩

theorem pathAfter_eq (s : State) (path : Nat) (id : StoreId) (line : Nat) : ∃ j, pathAfter s path id line = { s with rpl := j } := by
  cases id with
  | slice n => exact journalLine_eq ..
  | central => exact ⟨s.rpl, rfl⟩

theorem sameBytes.rpl (h : sameBytes s t) {j : Journal} (hu : u = { t with rpl := j }) : sameBytes s u := h.of_stores (by rw [hu]) (by rw [hu])

theorem pathWriteGo_of_written {path fuel off : Nat} (hd : data ≠ [])
    (ht : (pathBefore s path id (a / 128)).lineWrite id a (data.take (128 - a % 128)) = (t, true)) :
    pathWriteGo path id (fuel + 1) s a off data =
      pathWriteGo path id fuel (pathAfter t path id (a / 128)) (a + (128 - a % 128)) (off + (128 - a % 128)) (data.drop (128 - a % 128)) := by
  have hd' : ¬data.isEmpty = true := by simpa using hd
  rw [pathWriteGo.eq_def]
  dsimp only
  rw [if_neg hd']
  cases id with
  | slice n =>
    dsimp only [pathBefore] at ht ⊢
    rw [ht]
    rfl
  | central =>
    dsimp only [pathBefore] at ht ⊢
    rw [ht]
    rfl

/-- A path's write to a calm store. -/
theorem CalmStore.pathWrite (h : CalmStore id s) (path : Nat) (a : Nat) (data : List Byte) :
    ∃ t, pathWrite s path id a data = (t, none) ∧ WorkedOn id s t ∧ WroteBytes id a data s t := by
  have hgo : ∀ (fuel : Nat) (s : State) (a off : Nat) (data : List Byte), CalmStore id s → data.length + a % 128 ≤ 128 * fuel →
      ∃ t, pathWriteGo path id fuel s a off data = (t, none) ∧ WorkedOn id s t ∧ WroteBytes id a data s t := by
    intro fuel
    induction fuel with
    | zero =>
      intro s a off data _ hl
      obtain rfl : data = [] := List.eq_nil_of_length_eq_zero (by omega)
      exact ⟨s, rfl, .refl id s, (sameBytes.refl s).wroteNone⟩
    | succ fuel ih =>
      intro s a off data hs hl
      by_cases hd : data = []
      · subst hd
        exact ⟨s, by rw [pathWriteGo.eq_def]; rfl, .refl id s, (sameBytes.refl s).wroteNone⟩
      obtain ⟨j, hj⟩ := pathBefore_eq s path id (a / 128)
      have hbefore := (WorkedOn.refl id s).rpl_only hj
      obtain ⟨t, ht, hw, hb⟩ := (hs.worked hbefore).lineWrite a (data.take (128 - a % 128))
      obtain ⟨j', hj'⟩ := pathAfter_eq t path id (a / 128)
      have hafter := hbefore.trans (hw.rpl_only hj')
      obtain ⟨u, hu, hw', hb'⟩ := ih (pathAfter t path id (a / 128)) (a + (128 - a % 128)) (off + (128 - a % 128)) (data.drop (128 - a % 128))
        (hs.worked hafter) (by simp; omega)
      refine ⟨u, ?_, hafter.trans hw', ?_⟩
      · rw [pathWriteGo_of_written hd ht, hu]
      · exact ((((sameBytes.refl s).rpl hj).wrote hb).of_sameBytes ((sameBytes.refl t).rpl hj')).take_drop hb'
  exact hgo _ s a 0 data h (by omega)

end
end Sys2Proof.Machine

namespace Sys2Proof.Machine

/-! ## A FILL burst (R538, R540, R545) -/

section
variable {s t u : State} {id : StoreId}

/-- A run of consecutive offsets is one run. -/
theorem runsOf_range' (a n : Nat) : runsOf (List.range' a (n + 1)) = [(a, n + 1)] := by
  induction n generalizing a with
  | zero => rfl
  | succ n ih => rw [List.range'_succ, runsOf, ih]; simp

/-- Bytes that all came are all written. -/
theorem cleanBytes_of_some (a word : Nat) (l : List Byte) : cleanBytes a word (l.map some) = l.zipIdx.map fun x => (x.2, x.1) := by
  have hbad : ((l.map some).zipIdx.filter fun x => x.1.isNone) = [] := by
    rw [List.zipIdx_map, List.filter_map, List.map_eq_nil_iff, List.filter_eq_nil_iff]
    exact fun _ _ h => nomatch h
  simp only [cleanBytes, hbad]
  simp [List.zipIdx_map, List.filterMap_map]

/-- The numbered bytes of an interval are that part of the list. -/
theorem zipIdx_filter_interval (data : List Byte) (k lo hi : Nat) :
    ((data.zipIdx k).filter fun x => decide (lo ≤ x.2) && decide (x.2 < hi)).map Prod.fst = (data.drop (lo - k)).take (hi - max lo k) := by
  induction data generalizing k with
  | nil => simp
  | cons x xs ih =>
    rw [List.zipIdx_cons, List.filter_cons]
    by_cases h1 : lo ≤ k
    · by_cases h2 : k < hi
      · rw [if_pos (by simp [h1, h2]), List.map_cons, ih, show lo - k = 0 by omega, show lo - (k + 1) = 0 by omega,
          show hi - max lo k = hi - max lo (k + 1) + 1 by omega]
        rfl
      · rw [if_neg (by simp [h2]), ih, show hi - max lo k = 0 by omega, show hi - max lo (k + 1) = 0 by omega]
        simp
    · rw [if_neg (by simp [h1]), ih, show lo - k = lo - (k + 1) + 1 by omega, show max lo k = max lo (k + 1) by omega]
      rfl

/-- Where a burst that begins at `o` stands after so many of the lines that it meets. -/
def burstEnd (o n k : Nat) : Nat := max o (min (o + n) ((o / 128 + k) * 128))

/-- One piece of a burst to a calm store. -/
theorem CalmStore.burstWriteLine (h : CalmStore id s) (a : Nat) (data : List Byte) :
    ∃ t, burstWriteLine s id a data = (t, true) ∧ WorkedOn id s t ∧ WroteBytes id a data s t := by
  obtain ⟨t, ht, hw, hb⟩ := h.pathWrite 3 a data
  exact ⟨t, by rw [Machine.burstWriteLine, ht]; rfl, hw, hb⟩

/-- The pieces of a burst, line by line. -/
theorem CalmStore.burstPieces (h : CalmStore id s) (o : Nat) (data : List Byte) (m : Nat) (hm : (o / 128 + m) * 128 < o + data.length + 128) :
    ∃ t, ((List.range m).map fun k =>
        let from_ := max (o + 0) ((o / 128 + k) * 128)
        (from_, min (o + 0 + data.length) ((o / 128 + k + 1) * 128) - from_)).foldl (fun (x : Nat × Bool × State) p =>
        let d := ((data.zipIdx.map fun x => (x.2, x.1)).filter fun y => decide (p.1 ≤ o + y.1) && decide (o + y.1 < p.1 + p.2)).map Prod.snd
        let (s, ok) := Machine.burstWriteLine x.2.2 id p.1 d
        (if ok then x.1 + p.2 else x.1, x.2.1 || !ok, s)) (0, false, s) = (burstEnd o data.length m - o, false, t) ∧
      WorkedOn id s t ∧ WroteBytes id o (data.take (burstEnd o data.length m - o)) s t := by
  induction m with
  | zero =>
    have h0 : burstEnd o data.length 0 - o = 0 := by unfold burstEnd; omega
    exact ⟨s, by rw [h0]; rfl, .refl id s, by rw [h0]; exact (sameBytes.refl s).wroteNone⟩
  | succ m ih =>
    obtain ⟨t, ht, hw, hb⟩ := ih (by omega)
    have hfrom : max (o + 0) ((o / 128 + m) * 128) = burstEnd o data.length m := by unfold burstEnd; omega
    have hto : min (o + 0 + data.length) ((o / 128 + m + 1) * 128) = burstEnd o data.length (m + 1) := by unfold burstEnd; omega
    have hle : burstEnd o data.length m ≤ burstEnd o data.length (m + 1) := by unfold burstEnd; omega
    have hlo : o ≤ burstEnd o data.length m := by unfold burstEnd; omega
    have hhi : burstEnd o data.length m ≤ o + data.length := by unfold burstEnd; omega
    let d := (data.drop (burstEnd o data.length m - o)).take (burstEnd o data.length (m + 1) - burstEnd o data.length m)
    obtain ⟨u, hu, hw', hb'⟩ := (h.worked hw).burstWriteLine (burstEnd o data.length m) d
    have hpiece : ((data.zipIdx.map fun x => (x.2, x.1)).filter fun y : Nat × Byte => decide (burstEnd o data.length m ≤ o + y.1) &&
        decide (o + y.1 < burstEnd o data.length m + (burstEnd o data.length (m + 1) - burstEnd o data.length m))).map Prod.snd = d := by
      rw [List.filter_map, List.map_map]
      have := zipIdx_filter_interval data 0 (burstEnd o data.length m - o) (burstEnd o data.length (m + 1) - o)
      rw [show burstEnd o data.length (m + 1) - o - max (burstEnd o data.length m - o) 0 =
        burstEnd o data.length (m + 1) - burstEnd o data.length m by omega] at this
      refine Eq.trans (congrArg _ (List.filter_congr fun x _ => ?_)) this
      have h1 : burstEnd o data.length m ≤ o + x.2 ↔ burstEnd o data.length m - o ≤ x.2 := by omega
      have h2 : o + x.2 < burstEnd o data.length m + (burstEnd o data.length (m + 1) - burstEnd o data.length m) ↔
        x.2 < burstEnd o data.length (m + 1) - o := by omega
      simp [h1, h2]
    refine ⟨u, ?_, hw.trans hw', ?_⟩
    · rw [List.range_succ, List.map_append, List.foldl_append, ht]
      simp only [List.map_cons, List.map_nil, List.foldl_cons, List.foldl_nil, hfrom, hto]
      rw [hpiece, hu]
      simp only [if_true, Bool.not_true, Bool.or_false]
      rw [show burstEnd o data.length m - o + (burstEnd o data.length (m + 1) - burstEnd o data.length m) = burstEnd o data.length (m + 1) - o by omega]
    · have happ := hb.append (l' := d) (by
        rw [List.length_take, Nat.min_eq_left (by omega), show o + (burstEnd o data.length m - o) = burstEnd o data.length m by omega]
        exact hb')
      rwa [← List.take_add, show burstEnd o data.length m - o + (burstEnd o data.length (m + 1) - burstEnd o data.length m) =
        burstEnd o data.length (m + 1) - o by omega] at happ

/-- A burst whose bytes all came goes to a calm store whole. -/
theorem CalmStore.burstToStore (h : CalmStore id s) (o : Nat) (data : List Byte) :
    ∃ t, burstToStore s id o (data.zipIdx.map fun x => (x.2, x.1)) = (data.length, false, t) ∧ WorkedOn id s t ∧ WroteBytes id o data s t := by
  have hfst : (data.zipIdx.map fun x => (x.2, x.1)).map Prod.fst = List.range' 0 data.length := by
    rw [List.map_map, ← List.zipIdx_map_snd 0 data]
    rfl
  unfold Machine.burstToStore
  rw [hfst]
  cases hn : data.length with
  | zero =>
    obtain rfl := List.eq_nil_of_length_eq_zero hn
    exact ⟨s, rfl, .refl id s, (sameBytes.refl s).wroteNone⟩
  | succ n =>
    rw [runsOf_range', ← hn]
    obtain ⟨t, ht, hw, hb⟩ := h.burstPieces o data ((o + data.length - 1) / 128 - o / 128 + 1) (by omega)
    have hend : burstEnd o data.length ((o + data.length - 1) / 128 - o / 128 + 1) - o = data.length := by unfold burstEnd; omega
    rw [hend] at ht hb
    rw [List.take_length] at hb
    refine ⟨t, ?_, hw, hb⟩
    rw [List.flatMap_cons, List.flatMap_nil, List.append_nil]
    exact ht

/-- The bytes of a FILL burst. -/
def fillBytes (d : DmaDesc) (b : DmaBurst) : List Byte :=
  (List.range b.len).map fun k => BitVec.ofNat 8 (d.pattern / 2 ^ (8 * ((b.off + k) % 8)) % 256)

theorem burstBytes_fill {d : DmaDesc} (h : d.op = 1) (b : DmaBurst) (src : List (Nat × Option Byte)) :
    burstBytes d b src = (fillBytes d b).map some := by
  simp [burstBytes, fillBytes, h, Function.comp_def]

theorem CalmStore.burstMove_fill {c : Fin 32} {d : DmaDesc} {b : DmaBurst} {r : Region} {o : Nat} (h : CalmStore id s) (hop : d.op = 1)
    (hloc : localEnd s d.dst d.dstLocal = true) (hr : regionOf (b.dst % 2 ^ 40) = some (r, o)) (hid : r.storeId = some id) (hon : s.storeOn id = true) :
    ∃ t, burstMove s c d b = (b.len, t) ∧ WorkedOn id s t ∧ WroteBytes id o (fillBytes d b) s t := by
  obtain ⟨t, ht, hw, hb⟩ := h.burstToStore o (fillBytes d b)
  refine ⟨t, ?_, hw, hb⟩
  have hlen : (fillBytes d b).length = b.len := by simp [fillBytes]
  have hwrite : burstWrite s b ((fillBytes d b).map some) = (b.len, false, false, t) := by
    simp only [burstWrite, hr, hid, hon, cleanBytes_of_some, ht, hlen]
    rfl
  simp only [burstMove, hloc, hop, burstBytes_fill hop, Bool.not_true, Bool.false_eq_true, if_false, if_true, hwrite]

/-- The state of a channel whose oldest burst has moved `n` bytes. -/
def burstCounted (s : State) (c : Fin 32) (n : Nat) : State :=
  dmaShow ((s.modDma c fun x => { x with written := x.written + n }).pairAdd .DMA_CH_BYTES_LO .DMA_CH_BYTES_HI n c) c

theorem burstDone_of_whole {c : Fin 32} {d : DmaDesc} {b : DmaBurst} {l : List DmaBurst} {n : Nat} (hl : dmaBursts s c = b :: l)
    (hd : (s.dmaCh c).desc = some d) (hwhole : b.parts.any (fun p => p.reply.isNone) = false) (hvwp : d.vwp = false)
    (hmove : burstMove { s with dma := { s.dma with bursts := s.dma.bursts.erase b } } c d b = (n, t)) :
    burstDone s c = burstCounted t c n := by
  simp only [burstDone, hl, hd, hwhole, hmove, hvwp]
  rfl

@[simp] theorem dmaShow_dma (s : State) (c : Fin 32) : (dmaShow s c).dma = s.dma := by
  unfold dmaShow
  split <;> rfl

@[simp] theorem State.dmaCh_modDma (s : State) (c : Fin 32) (f : DmaChannel → DmaChannel) : (s.modDma c f).dmaCh c = f (s.dmaCh c) := by
  simp [State.dmaCh, State.modDma, Vector.get_eq_getElem]

theorem State.dmaCh_of_dma (h : t.dma = s.dma) (c : Fin 32) : t.dmaCh c = s.dmaCh c := by rw [State.dmaCh, State.dmaCh, h]

theorem burstCounted_dma (s : State) (c : Fin 32) (n : Nat) :
    (burstCounted s c n).dma = (s.modDma c fun x => { x with written := x.written + n }).dma := by
  rw [burstCounted, dmaShow_dma, State.pairAdd_dma]

theorem burstCounted_written (s : State) (c : Fin 32) (n : Nat) : ((burstCounted s c n).dmaCh c).written = (s.dmaCh c).written + n := by
  rw [State.dmaCh_of_dma (burstCounted_dma s c n), State.dmaCh_modDma]

theorem sameBytes_dmaShow (h : sameBytes s t) (c : Fin 32) : sameBytes s (dmaShow t c) := by
  unfold dmaShow
  split
  · exact h
  · exact h.wr _ _ _ _ _ _

theorem sameBytes_burstCounted (s : State) (c : Fin 32) (n : Nat) : sameBytes s (burstCounted s c n) :=
  sameBytes_dmaShow (((sameBytes.refl s).of_stores (u := s.modDma c fun x => { x with written := x.written + n }) rfl rfl).pairAdd _ _ _ _ _ _) c

end

/-- Settles O45: the pieces of a FILL burst, line by line, make up its bytes. -/
theorem dmaFillBurst : Obligations.DmaFillBurst := by
  unfold Obligations.DmaFillBurst
  intro s c d b l r o id hl hd hparts hop hvwp hloc hr hid hon hclean hinj
  have hcalm : CalmStore id { s with dma := { s.dma with bursts := s.dma.bursts.erase b } } := ⟨by cases id <;> exact hclean, hinj⟩
  have hon' : State.storeOn { s with dma := { s.dma with bursts := s.dma.bursts.erase b } } id = true := by cases id <;> exact hon
  obtain ⟨t, ht, hw, hb⟩ := hcalm.burstMove_fill (c := c) hop hloc hr hid hon'
  have hlen : (fillBytes d b).length = b.len := by simp [fillBytes]
  obtain ⟨hin, hout⟩ := hb.of_sameBytes (sameBytes_burstCounted t c b.len)
  have hdma := hw.dma
  refine ⟨_, congrArg Host.Outcome.next (burstDone_of_whole hl hd (by rw [hparts]; rfl) hvwp ht), fun i hi => ?_, fun x a hx => ?_, ?_, ?_⟩
  · rw [hin i (by rwa [hlen]), List.getD_eq_getElem _ _ (by rwa [hlen])]
    simp [fillBytes]
  · rw [hout x a (by rwa [hlen])]
    cases x <;> rfl
  · rw [burstCounted_dma, State.modDma, hdma]
  · rw [burstCounted_written, State.dmaCh_of_dma hdma]
    rfl

end Sys2Proof.Machine

namespace Sys2Proof.Machine

/-! ## DMA channels (R537 to R549) -/

section
variable {s t u : State} {l : List Part}

@[simp] theorem State.rd_modDma (s : State) (c : Fin 32) (f : DmaChannel → DmaChannel) (r : Reg) (i j k m : Nat) :
    (s.modDma c f).rd r i j k m = s.rd r i j k m := rfl

@[simp] theorem State.fld_modDma (s : State) (c : Fin 32) (f : DmaChannel → DmaChannel) (g : Field) (i j k m : Nat) :
    (s.modDma c f).fld g i j k m = s.fld g i j k m := rfl

@[simp] theorem State.flag_modDma (s : State) (c : Fin 32) (f : DmaChannel → DmaChannel) (g : Field) (i j k m : Nat) :
    (s.modDma c f).flag g i j k m = s.flag g i j k m := rfl

@[simp] theorem State.bursts_modDma (s : State) (c : Fin 32) (f : DmaChannel → DmaChannel) : (s.modDma c f).dma.bursts = s.dma.bursts := rfl

theorem State.dmaCh_modDma_ne (s : State) {c x : Fin 32} (h : x ≠ c) (f : DmaChannel → DmaChannel) : (s.modDma c f).dmaCh x = s.dmaCh x := by
  simp only [State.dmaCh, State.modDma, Vector.get_eq_getElem]
  exact Vector.getElem_set_ne _ _ fun e => h (Fin.ext e.symm)

theorem memFrame.modDma (h : memFrame l s t) (c : Fin 32) (f : DmaChannel → DmaChannel) : memFrame l s (t.modDma c f) := h.of_eq rfl rfl rfl

theorem memFrame.releaseAdmission (h : memFrame l s t) (cls index : Nat) : memFrame l s (t.releaseAdmission cls index) := h.of_eq rfl rfl rfl

@[simp] theorem dmaState_setDmaState (s : State) (c : Fin 32) {v : Nat} (hv : v < 8) : (s.setDmaState c v).dmaState c = v :=
  (State.fld_setFld_same _ _ _ _ _ _ _ (by decide)).trans (Nat.mod_eq_of_lt hv)

/-- A field that takes the value it holds changes nothing. -/
theorem memFrame.setFld_same (h : memFrame l s t) (f : Field) (i j k m : Nat) : memFrame l s (t.setFld f (t.fld f i j k m) i j k m) := by
  refine ⟨h.1.trans ?_, h.2.setFld _ _ _ _ _ _⟩
  intro r' i' j' k' m' b _
  rw [State.setFld, State.fld, putBits_bitsAt, BitVec.ofNat_toNat, BitVec.setWidth_eq]
  by_cases hk : (⟨r', i', j', k', m'⟩ : RegKey) = ⟨f.reg, i, j, k, m⟩
  · injection hk with h1 h2 h3 h4 h5
    subst h1 h2 h3 h4 h5
    rw [State.rd_wr_same]
  · simp [State.rd, State.wr, RegFile.at, RegFile.to, SMap.get_put, hk]

/-! ### What the checks of a descriptor read -/

theorem localEnd_congr (h : sameRegs l s t) (hl : ∀ x ∈ l, x.reg ≠ .KTL_ID) (a : Nat) (loc : Bool) : localEnd t a loc = localEnd s a loc := by
  rw [localEnd, localEnd, h.flag_of_reg hl, State.ownId, State.ownId, h.fld_of_reg hl]

theorem dmaBound_congr (h : sameRegs l s t) (hl : ∀ x ∈ l, x.reg ≠ .DMA_CH_CFG) (c : Fin 32) : dmaBound t c = dmaBound s c := by
  simp only [dmaBound, h.fld_of_reg (f := F.DMA_CH_CFG_REQ) hl]

theorem dmaDescBad_congr (h : sameRegs l s t) (hl : ∀ x ∈ l, x.reg ∉ [Reg.KTL_ID, .DMA_CH_CFG]) (c : Fin 32) (off : Nat) (d : DmaDesc) :
    dmaDescBad t c off d = dmaDescBad s c off d := by
  have hid : ∀ x ∈ l, x.reg ≠ .KTL_ID := fun x hx e => hl x hx (by simp [e])
  have hcfg : ∀ x ∈ l, x.reg ≠ .DMA_CH_CFG := fun x hx e => hl x hx (by simp [e])
  simp only [dmaDescBad, localEnd_congr h hid, dmaBound_congr h hcfg]

theorem dmaEndsBad_congr (h : sameRegs l s t) (hl : ∀ x ∈ l, x.reg ∉ [Reg.KTL_ID, .DMA_CH_CFG, .VEC_RING_BASE, .VEC_RING_LINES]) (c : Fin 32)
    (d : DmaDesc) : dmaEndsBad t c d = dmaEndsBad s c d := by
  have hid : ∀ x ∈ l, x.reg ≠ .KTL_ID := fun x hx e => hl x hx (by simp [e])
  have hcfg : ∀ x ∈ l, x.reg ≠ .DMA_CH_CFG := fun x hx e => hl x hx (by simp [e])
  have hbase : ∀ x ∈ l, x.reg ≠ F.VEC_RING_BASE_LINE.reg := fun x hx e => hl x hx (by rw [e]; decide)
  have hlines : ∀ x ∈ l, x.reg ≠ F.VEC_RING_LINES_LINES.reg := fun x hx e => hl x hx (by rw [e]; decide)
  simp only [dmaEndsBad, dmaEndBad, inRing, localEnd_congr h hid, dmaBound_congr h hcfg, h.fld_of_reg hbase, h.fld_of_reg hlines]

/-! ### The load of a descriptor -/

/-- What the load of a descriptor changes of the registers. -/
def dmaLoadParts (c : Fin 32) : List Part :=
  [F.DMA_CH_STATUS_STATE.part [c], { reg := .DMA_CH_RESIDUE, idx := [c] }, { reg := .GLB_CSTORE_ECC_CE, idx := [] }, { reg := .GLB_CSTORE_ECC_ADDR, idx := [] }]

/-- A channel takes its descriptor. -/
def dmaTaken (s : State) (c : Fin 32) (d : DmaDesc) (tag : Nat) : State :=
  dmaShow (s.modDma c fun _ => { DmaChannel.initial with desc := some d, tagNo := tag }) c

theorem dmaTaken_shows (s : State) (c : Fin 32) (d : DmaDesc) (tag : Nat) :
    (dmaTaken s c d tag).dmaState c = s.dmaState c ∧ (dmaTaken s c d tag).dmaCh c = { DmaChannel.initial with desc := some d, tagNo := tag } ∧
      (dmaTaken s c d tag).rd .DMA_CH_RESIDUE c = BitVec.ofNat 32 d.len := by
  have hch : (dmaTaken s c d tag).dmaCh c = { DmaChannel.initial with desc := some d, tagNo := tag } := by
    rw [dmaTaken, State.dmaCh_of_dma (dmaShow_dma _ c), State.dmaCh_modDma]
  refine ⟨?_, hch, ?_⟩
  · simp (disch := decide) [dmaTaken, dmaShow, State.dmaState]
  · simp [dmaTaken, dmaShow, DmaChannel.initial]

theorem memFrame.dmaShow (h : memFrame l s t) (c : Fin 32) (hl : { reg := .DMA_CH_RESIDUE, idx := [c.val] } ∈ l) : memFrame l s (dmaShow t c) := by
  unfold Machine.dmaShow
  split
  · exact h
  · exact h.wr _ _ (.of_mem_index hl)

theorem memFrame.of_worked {id : StoreId} (h : memFrame l s t) (hw : WorkedOn id t u) (hb : sameBytes t u) (hl : ∀ x ∈ eccParts id, x ∈ l) :
    memFrame l s u := h.trans ⟨hw.regs.mono hl, hb⟩

theorem dmaLoad_of_good {c : Fin 32} {d : DmaDesc} (hon : s.storeOn .central = true) (hoff : s.fld F.DMA_CH_DESC_OFFSET c % 64 = 0)
    (hlt : s.fld F.DMA_CH_DESC_OFFSET c < 0xE00000) (hcalm : CalmStore .central s)
    (hd : dmaDecode (s.cstore.read (s.fld F.DMA_CH_DESC_OFFSET c) 64) = d) (hbad : dmaDescBad s c (s.fld F.DMA_CH_DESC_OFFSET c) d = false)
    (hends : dmaEndsBad s c d = false) (hlen : d.len ≤ 1048576) :
    ∃ t, dmaLoad s c (s.fld F.DMA_CH_DESC_OFFSET c) = dmaTaken t c d (s.dmaCh c).tagNo ∧ t.dmaState c = 3 ∧
      memFrame (dmaLoadParts c) s (dmaTaken t c d (s.dmaCh c).tagNo) := by
  have hactive : memFrame (dmaLoadParts c) s ((s.setFld F.DMA_CH_DESC_OFFSET (s.fld F.DMA_CH_DESC_OFFSET c) c).setDmaState c DmaSt.active) :=
    ((memFrame.refl _ s).setFld_same F.DMA_CH_DESC_OFFSET c 0 0 0).setFld _ _ (.of_mem_index (.head _))
  obtain ⟨v, hv⟩ : ∃ v, v = (s.setFld F.DMA_CH_DESC_OFFSET (s.fld F.DMA_CH_DESC_OFFSET c) c).setDmaState c DmaSt.active := ⟨_, rfl⟩
  have hvst : v.dmaState c = 3 := by rw [hv]; exact dmaState_setDmaState _ c (by decide)
  have hvon : v.storeOn .central = true := by
    have hpower : v.fld F.GLB_CSTORE_PWR_STATE = s.fld F.GLB_CSTORE_PWR_STATE :=
      (hv ▸ hactive).1.fld_of_reg (by simp [dmaLoadParts, Field.part]; decide) ..
    exact (congrArg (· == 0) hpower).trans hon
  have hvstore : v.cstore = s.cstore := by rw [hv]; rfl
  have hvdma : v.dma = s.dma := by rw [hv]; rfl
  have hvcalm : CalmStore .central v := by rw [hv]; exact hcalm
  obtain ⟨t, ht, hw, hb⟩ := hvcalm.rangeRead (s.fld F.DMA_CH_DESC_OFFSET c) 64
  have htaken : memFrame (dmaLoadParts c) s (dmaTaken t c d (s.dmaCh c).tagNo) :=
    (((hv ▸ hactive).of_worked hw hb (by simp [dmaLoadParts, eccParts])).modDma c _).dmaShow c (.tail _ (.head _))
  refine ⟨t, ?_, ?_, htaken⟩
  · have hread : (v.store .central).read (s.fld F.DMA_CH_DESC_OFFSET c) 64 = s.cstore.read (s.fld F.DMA_CH_DESC_OFFSET c) 64 := by
      rw [State.store, hvstore]
    have hcond : ¬(s.fld F.DMA_CH_DESC_OFFSET c % 64 ≠ 0 ∨ 0xE00000 ≤ s.fld F.DMA_CH_DESC_OFFSET c) := by omega
    have hbad' := (dmaDescBad_congr htaken.1 (by simp [dmaLoadParts, Field.part]; decide) c (s.fld F.DMA_CH_DESC_OFFSET c) d).trans hbad
    have hends' := (dmaEndsBad_congr htaken.1 (by simp [dmaLoadParts, Field.part]; decide) c d).trans hends
    unfold dmaLoad
    rw [← hv]
    simp only [hvon, if_neg hcond, ht, hread, hd, State.dmaCh_of_dma hvdma, Bool.not_true, Bool.false_eq_true, if_false, List.isEmpty_nil]
    rw [← dmaTaken, hbad', hends']
    simp [hlen]
  · rw [State.dmaState, hw.regs.fld_of_reg (by decide)]
    exact hvst

end
end Sys2Proof.Machine

namespace Sys2Proof.Machine
section
variable {s t u : State} {l : List Part}

/-! ### A cause of an end, and the end (R546 to R548) -/

/-- The first cause of an end. -/
theorem dmaCause_first {c : Fin 32} (hst : s.dmaState c ≠ 0) (hend : (s.dmaCh c).ending = none) (st : Nat) :
    dmaCause s c st = ((if s.dmaState c = 2 then s.releaseAdmission 6 c else s).modDma c fun x => { x with ending := some st, endAt := s.now }).setDmaState
      c 5 := by
  have hidle : ¬s.dmaState c = DmaSt.idle := hst
  simp only [dmaCause, if_neg hidle, hend, if_true]
  by_cases h2 : s.dmaState c = 2
  · rw [if_pos (show s.dmaState c = DmaSt.admission from h2), if_pos h2]
    rfl
  · rw [if_neg (show ¬s.dmaState c = DmaSt.admission from h2), if_neg h2]
    rfl

theorem dmaCause_first_shows {c : Fin 32} (hst : s.dmaState c ≠ 0) (hend : (s.dmaCh c).ending = none) (st : Nat) :
    (dmaCause s c st).dmaState c = 5 ∧ (dmaCause s c st).dmaCh c = { s.dmaCh c with ending := some st, endAt := s.now } ∧
      (dmaCause s c st).dma.bursts = s.dma.bursts ∧ memFrame [F.DMA_CH_STATUS_STATE.part [c]] s (dmaCause s c st) := by
  have hrelease : memFrame [F.DMA_CH_STATUS_STATE.part [c]] s (if s.dmaState c = 2 then s.releaseAdmission 6 c else s) :=
    .ite ((memFrame.refl _ s).releaseAdmission 6 c) (.refl _ s)
  have hdma : (if s.dmaState c = 2 then s.releaseAdmission 6 c else s).dma = s.dma := by split <;> rfl
  rw [dmaCause_first hst hend]
  refine ⟨dmaState_setDmaState _ c (by decide), ?_, ?_, (hrelease.modDma c _).setFld _ _ (.of_mem_index (.head _))⟩
  · rw [State.dmaCh_of_dma (s := State.modDma _ c _) (by rw [State.setDmaState, State.setFld_dma]), State.dmaCh_modDma, State.dmaCh_of_dma hdma]
  · rw [State.setDmaState, State.setFld_dma, State.bursts_modDma, hdma]

/-- The state of a channel whose descriptor has ended and that goes on to no other. -/
def dmaEnded (s : State) (c : Fin 32) (st residue data : Nat) (evt : Bool) : State :=
  let s := ((s.wr .DMA_CH_RESIDUE (BitVec.ofNat 32 residue) c).setFld F.DMA_CH_STATUS_STATUS st c).releaseAdmission 6 c
  let s := if st = 0 then (s.count .DMA_CH_DESCS c).setFlag F.DMA_CH_STATUS_DONE true c else s.setFlag F.DMA_CH_STATUS_ERR true c
  let s := if evt then s.event EvCode.DMA 16 c data else s
  (s.setDmaState c 0).modDma c fun x => { DmaChannel.initial with tagNo := x.tagNo }

theorem dmaEnd_of_last {c : Fin 32} {d : DmaDesc} {st : Nat} (hd : (s.dmaCh c).desc = some d) (hst : dmaStatus (s.dmaCh c) = some st)
    (hchain : (decide (st = 0) && d.chain && !(s.dmaCh c).aborted) = false) :
    ∃ data evt, dmaEnd s c = dmaEnded (if d.wb && decide (st ≠ 2) && s.storeOn .central then
      dmaWriteBack s (s.fld F.DMA_CH_DESC_OFFSET c) st (d.len - (s.dmaCh c).written) (s.dmaCh c) else s) c st (d.len - (s.dmaCh c).written) data evt := by
  refine ⟨st + s.fld F.DMA_CH_DESC_OFFSET c / 64 % 2 ^ 18 * 2 ^ 5 + bit01 (!false) * 2 ^ 23, decide (st ≠ 0) || d.evt, ?_⟩
  simp only [dmaEnd, hst, hd, hchain, dmaEnded]
  rfl

theorem dmaEnd_of_none {c : Fin 32} {st : Nat} (hd : (s.dmaCh c).desc = none) (hst : dmaStatus (s.dmaCh c) = some st) :
    ∃ data, dmaEnd s c = dmaEnded s c st 0 data true := by
  refine ⟨st + s.fld F.DMA_CH_DESC_OFFSET c / 64 % 2 ^ 18 * 2 ^ 5 + bit01 (!false) * 2 ^ 23, ?_⟩
  simp only [dmaEnd, hst, hd, dmaEnded]
  rfl

theorem memFrame.dmaEnded {c : Fin 32} (h : memFrame l s t) {st : Nat} (residue data : Nat) (evt : Bool)
    (hstat : ∀ f : Field, f.reg = .DMA_CH_STATUS → f.lo + f.width ≤ 32 → holdsFld l f c 0 0 0) (hres : holdsReg l .DMA_CH_RESIDUE c 0 0 0)
    (hdesc : st = 0 → holdsReg l .DMA_CH_DESCS c 0 0 0) (hev : ∀ x ∈ eventParts, x ∈ l) : memFrame l s (dmaEnded t c st residue data evt) := by
  have hshown := ((h.wr .DMA_CH_RESIDUE (BitVec.ofNat 32 residue) hres).setFld F.DMA_CH_STATUS_STATUS st (hstat _ rfl (by decide))).releaseAdmission 6 c.val
  have hflag : memFrame l s (if st = 0 then ((((t.wr .DMA_CH_RESIDUE (BitVec.ofNat 32 residue) c).setFld F.DMA_CH_STATUS_STATUS st c).releaseAdmission 6
      c).count .DMA_CH_DESCS c).setFlag F.DMA_CH_STATUS_DONE true c else
      (((t.wr .DMA_CH_RESIDUE (BitVec.ofNat 32 residue) c).setFld F.DMA_CH_STATUS_STATUS st c).releaseAdmission 6 c).setFlag F.DMA_CH_STATUS_ERR true c) := by
    split
    · next h0 => exact (hshown.count _ (hdesc h0)).setFlag _ _ (hstat _ rfl (by decide))
    · exact hshown.setFlag _ _ (hstat _ rfl (by decide))
  exact ((memFrame.ite (hflag.event _ _ _ _ hev) hflag).setFld _ _ (hstat _ rfl (by decide))).modDma c _

@[simp] theorem State.event_dma (s : State) (code src index data : Nat) : (s.event code src index data).dma = s.dma := by
  obtain ⟨r, x, hx⟩ := event_eq s code src index data
  rw [hx]

@[simp] theorem State.fld_releaseAdmission (s : State) (cls index : Nat) (f : Field) (i j k m : Nat) :
    (s.releaseAdmission cls index).fld f i j k m = s.fld f i j k m := rfl

@[simp] theorem State.flag_releaseAdmission (s : State) (cls index : Nat) (f : Field) (i j k m : Nat) :
    (s.releaseAdmission cls index).flag f i j k m = s.flag f i j k m := rfl

@[simp] theorem State.rd_releaseAdmission (s : State) (cls index : Nat) (r : Reg) (i j k m : Nat) :
    (s.releaseAdmission cls index).rd r i j k m = s.rd r i j k m := rfl

/-- A descriptor that ends OK. -/
theorem dmaEnded_ok_shows (s : State) (c : Fin 32) (residue data : Nat) (evt : Bool) :
    (dmaEnded s c 0 residue data evt).dmaState c = 0 ∧ (dmaEnded s c 0 residue data evt).fld F.DMA_CH_STATUS_STATUS c = 0 ∧
      (dmaEnded s c 0 residue data evt).flag F.DMA_CH_STATUS_DONE c = true ∧
      (dmaEnded s c 0 residue data evt).rd .DMA_CH_DESCS c = satCount (s.rd .DMA_CH_DESCS c) 1 ∧
      (dmaEnded s c 0 residue data evt).rd .DMA_CH_RESIDUE c = BitVec.ofNat 32 residue ∧ ((dmaEnded s c 0 residue data evt).dmaCh c).desc = none := by
  refine ⟨dmaState_setDmaState _ c (by decide), ?_, ?_, ?_, ?_, by simp [dmaEnded, DmaChannel.initial]⟩
  all_goals simp (disch := decide) [dmaEnded, State.setDmaState, State.fld_ite, State.flag_ite, State.rd_ite, State.fld_event, State.flag_event, State.rd_event]

/-! ### The write-back (R536, R547) -/

/-- Whole words within one line are one access. -/
theorem storeWrite_of_line {id : StoreId} {a : Nat} {data : List Byte} (hd : data ≠ []) (hw : Store.wholeWords a data.length = true)
    (hline : a % 128 + data.length ≤ 128) : s.storeWrite id a data = (storeWritten s id a data, true) := by
  have hd' : ¬data.isEmpty = true := by simpa using hd
  have hnil : (data.drop (128 - a % 128)).isEmpty = true := by rw [List.isEmpty_iff]; exact List.drop_eq_nil_of_le (by omega)
  rw [State.storeWrite, State.storeWriteGo, if_neg hd']
  dsimp only
  rw [List.take_of_length_le (by omega), lineWrite_whole hw hd]
  dsimp only
  rw [State.storeWriteGo, if_pos hnil]
  rfl

@[simp] theorem storeWritten_regs (s : State) (id : StoreId) (a : Nat) (data : List Byte) : (storeWritten s id a data).regs = s.regs := by
  obtain ⟨q, hq⟩ := marchTouched_eq (s.setStore id (((List.range ((a + data.length - 1) / 8 - a / 8 + 1)).map (· + a / 8)).foldl Store.cleanWord
    ((s.store id).writeBytes a data))) id (a / 128)
  rw [storeWritten, hq]
  exact State.setStore_regs ..

/-- The bytes of a write-back. -/
def writeBackBytes (s : State) (st residue : Nat) (x : DmaChannel) : List Byte :=
  [BitVec.ofNat 8 st, BitVec.ofNat 8 (bit01 x.locked + 2 * bit01 x.dropped), 0, 0] ++ toBytes 4 residue ++ toBytes 8 s.beat

theorem length_writeBackBytes (s : State) (st residue : Nat) (x : DmaChannel) : (writeBackBytes s st residue x).length = 16 := by
  simp [writeBackBytes, length_toBytes]

theorem dmaWriteBack_eq {off : Nat} (hoff : off % 64 = 0) (st residue : Nat) (x : DmaChannel) :
    dmaWriteBack s off st residue x = storeWritten s .central (off + 48) (writeBackBytes s st residue x) := by
  have hlen := length_writeBackBytes s st residue x
  have hw : Store.wholeWords (off + 48) (writeBackBytes s st residue x).length = true := by
    rw [hlen]; simp [Store.wholeWords]; omega
  exact congrArg Prod.fst (storeWrite_of_line (List.ne_nil_of_length_pos (by omega)) hw (by omega))

end
end Sys2Proof.Machine

namespace Sys2Proof.Machine
section
variable {s t u : State} {l : List Part}

/-! ### A frame with wider parts -/

/-- Every bit that a part takes in another one takes in. -/
structure Part.Within (x y : Part) : Prop where
  reg : y.reg = x.reg
  idx : y.idx <+: x.idx
  lo : y.lo ≤ x.lo
  hi : x.lo + x.width ≤ y.lo + y.width

theorem Part.Within.refl (x : Part) : x.Within x := ⟨rfl, List.prefix_refl _, Nat.le_refl _, Nat.le_refl _⟩

/-- The instances of a register lie within the register. -/
theorem Part.Within.index {r : Reg} {i : List Nat} : Part.Within { reg := r, idx := i } { reg := r, idx := [] } :=
  ⟨rfl, List.nil_prefix, Nat.le_refl _, Nat.le_refl _⟩

/-- A field lies within its register. -/
theorem Part.Within.field {f : Field} {i : List Nat} (hf : f.lo + f.width ≤ 32) : (f.part i).Within { reg := f.reg, idx := i } :=
  ⟨rfl, List.prefix_refl _, Nat.zero_le _, by simpa [Field.part] using hf⟩

theorem Part.Within.trans {x y z : Part} (h : x.Within y) (h' : y.Within z) : x.Within z :=
  ⟨h'.reg.trans h.reg, h'.idx.trans h.idx, h'.lo.trans h.lo, h.hi.trans h'.hi⟩

theorem Part.Within.covers {x y : Part} (h : x.Within y) {r : Reg} {idx : List Nat} {b : Nat} (hx : x.covers r idx b = true) :
    y.covers r idx b = true := by
  obtain ⟨hreg, hidx, hlo, hhi⟩ := h
  simp only [Part.covers, Bool.and_eq_true, decide_eq_true_eq, List.isPrefixOf_iff_prefix] at hx ⊢
  obtain ⟨⟨⟨h1, h2⟩, h3⟩, h4⟩ := hx
  exact ⟨⟨⟨hreg.trans h1, hidx.trans h2⟩, by omega⟩, by omega⟩

theorem sameRegs.widen (h : sameRegs l s t) {l' : List Part} (hl : ∀ x ∈ l, ∃ y ∈ l', x.Within y) : sameRegs l' s t := by
  intro r i j k m b hr
  refine h r i j k m b ?_
  rw [List.any_eq_false] at hr ⊢
  intro x hx
  obtain ⟨y, hy, hxy⟩ := hl x hx
  exact fun hc => hr y hy (hxy.covers hc)

theorem memFrame.widen (h : memFrame l s t) {l' : List Part} (hl : ∀ x ∈ l, ∃ y ∈ l', x.Within y) : memFrame l' s t := ⟨h.1.widen hl, h.2⟩

/-! ### A bus error (R549) -/

/-- What a bus error changes of the registers of a channel. -/
def busParts (c : Fin 32) : List Part :=
  [{ reg := .DMA_CH_STATUS, idx := [c] }, { reg := .DMA_CH_DROPPED, idx := [c] }, { reg := .DMA_CH_RESIDUE, idx := [c] }] ++ eventParts

/-- What the granted bursts of a bound channel take from its queue. -/
def busLost (s : State) (c : Fin 32) : Nat := if (dmaBound s c).isSome then ((dmaBursts s c).map DmaBurst.len).sum else 0

def busTaken (s : State) (c : Fin 32) : State := if (dmaBound s c).isSome then dmaTakeWindow s c (((dmaBursts s c).map DmaBurst.len).sum) else s

/-- It is counted as dropped, and the cause is set. -/
def busMarked (s : State) (c : Fin 32) : State :=
  let s := busTaken s c
  let t := s.countBy .DMA_CH_DROPPED (busLost s c) c
  let t := if busLost s c = 0 then t else t.modDma c (fun x => { x with dropped := true })
  t.modDma c (fun x => { x with ending := some 2, endAt := t.now })

/-- A channel before a bus error ends it. -/
def busDropped (s : State) (c : Fin 32) : State :=
  let t := if (busMarked s c).dmaState c = DmaSt.admission then (busMarked s c).releaseAdmission 6 c else busMarked s c
  { t with dma := { t.dma with bursts := t.dma.bursts.filter (fun b => b.ch ≠ c) } }

/-- A bus error at one channel. -/
def busEnd (s : State) (c : Fin 32) : State := if s.dmaState c = DmaSt.idle then s else dmaEnd (busDropped s c) c

theorem memFrame.dmaTakeWindow (h : memFrame l s t) (c : Fin 32) (k : Nat) : memFrame l s (dmaTakeWindow t c k) := by
  unfold Machine.dmaTakeWindow
  split
  · exact ⟨h.1.modSl _ _, h.2.modSl _ _ fun _ => rfl⟩
  · exact ⟨h.1.modSl _ _, h.2.modSl _ _ fun _ => rfl⟩
  · exact h

theorem memFrame_busMarked (s : State) (c : Fin 32) : memFrame (busParts c) s (busMarked s c) := by
  have htaken : memFrame (busParts c) s (busTaken s c) := .ite ((memFrame.refl _ s).dmaTakeWindow c _) (.refl _ s)
  have hcount := htaken.countBy .DMA_CH_DROPPED (busLost (busTaken s c) c) (.of_mem_index (i := c.val) (j := 0) (.tail _ (.head _)))
  exact (memFrame.ite hcount (hcount.modDma c _)).modDma c _

theorem memFrame_busDropped (s : State) (c : Fin 32) : memFrame (busParts c) s (busDropped s c) :=
  (memFrame.ite ((memFrame_busMarked s c).releaseAdmission 6 c) (memFrame_busMarked s c)).of_eq rfl rfl rfl

theorem busDropped_ending (s : State) (c : Fin 32) : ((busDropped s c).dmaCh c).ending = some 2 := by
  have hmarked : ((busMarked s c).dmaCh c).ending = some 2 := by rw [busMarked, State.dmaCh_modDma]
  unfold busDropped
  dsimp only
  split
  · exact hmarked
  · exact hmarked

theorem busEnd_idle {c : Fin 32} (h : s.dmaState c = 0) : busEnd s c = s := if_pos h

theorem busEnd_ended {c : Fin 32} (h : s.dmaState c ≠ 0) : ∃ residue data evt, busEnd s c = dmaEnded (busDropped s c) c 2 residue data evt := by
  have hst : dmaStatus ((busDropped s c).dmaCh c) = some 2 := by simp only [dmaStatus, busDropped_ending]
  rw [busEnd, if_neg (show ¬s.dmaState c = DmaSt.idle from h)]
  cases hd : ((busDropped s c).dmaCh c).desc with
  | none =>
    obtain ⟨data, he⟩ := dmaEnd_of_none hd hst
    exact ⟨_, _, _, he⟩
  | some d =>
    obtain ⟨data, evt, he⟩ := dmaEnd_of_last hd hst rfl
    rw [if_neg (by simp)] at he
    exact ⟨_, _, _, he⟩

theorem busEnd_shows (s : State) (c : Fin 32) : (busEnd s c).dmaState c = 0 ∧ memFrame (busParts c) s (busEnd s c) := by
  by_cases h : s.dmaState c = 0
  · rw [busEnd_idle h]
    exact ⟨h, .refl _ s⟩
  · obtain ⟨residue, data, evt, he⟩ := busEnd_ended h
    rw [he]
    exact ⟨dmaState_setDmaState _ c (by decide), (memFrame_busDropped s c).dmaEnded residue data evt
      (fun f hf hw => .of_mem_reg (by rw [hf]; exact .head _) hw) (.of_mem_index (.tail _ (.tail _ (.head _)))) (fun h => absurd h (by decide))
      fun x hx => List.mem_append_right _ hx⟩

theorem busEnd_dmaState_ne (s : State) {c x : Fin 32} (h : x ≠ c) : (busEnd s c).dmaState x = s.dmaState x := by
  have hne : c.val ≠ x.val := fun e => h (Fin.ext e.symm)
  refine (busEnd_shows s c).2.1.fld_eq F.DMA_CH_STATUS_STATE _ _ _ _ fun b _ _ => ?_
  have hev : ∀ y ∈ eventParts, y.reg ≠ F.DMA_CH_STATUS_STATE.reg := by decide
  simp [busParts, hne, Part.covers]
  exact fun y hy e => absurd e (hev y hy)

/-- What a bus error changes of the registers of the channels. -/
def busAllParts : List Part := globalParts [.DMA_CH_STATUS, .DMA_CH_DROPPED, .DMA_CH_RESIDUE] ++ eventParts

theorem busParts_within (c : Fin 32) : ∀ x ∈ busParts c, ∃ y ∈ busAllParts, x.Within y := by
  intro y hy
  simp only [busParts, List.cons_append, List.nil_append, List.mem_cons] at hy
  rcases hy with rfl | rfl | rfl | hy
  · exact ⟨_, .head _, .index⟩
  · exact ⟨_, .tail _ (.head _), .index⟩
  · exact ⟨_, .tail _ (.tail _ (.head _)), .index⟩
  · exact ⟨y, List.mem_append_right _ hy, .refl y⟩

/-- A bus error at every channel of a list. -/
theorem busEnds_shows (cs : List (Fin 32)) (s : State) :
    (∀ c ∈ cs, (cs.foldl busEnd s).dmaState c = 0) ∧ (∀ c, s.dmaState c = 0 → (cs.foldl busEnd s).dmaState c = 0) ∧
      memFrame busAllParts s (cs.foldl busEnd s) := by
  induction cs generalizing s with
  | nil => exact ⟨fun _ h => absurd h List.not_mem_nil, fun _ h => h, .refl _ s⟩
  | cons x cs ih =>
    obtain ⟨hst, hframe⟩ := busEnd_shows s x
    obtain ⟨hall, hkeep, hrest⟩ := ih (busEnd s x)
    refine ⟨fun c hc => ?_, fun c h0 => ?_, (hframe.widen (busParts_within x)).trans hrest⟩
    · rcases List.mem_cons.mp hc with rfl | h
      · exact hkeep c hst
      · exact hall c h
    · refine hkeep c ?_
      by_cases hx : c = x
      · rw [hx]; exact hst
      · rw [busEnd_dmaState_ne s hx]; exact h0

end
end Sys2Proof.Machine

namespace Sys2Proof.Machine
section
variable {s t u : State} {l : List Part}

/-! ### The grant of a burst (R538, R539) -/

/-- The next burst of a channel that reads no index and no ring. -/
def plainBurst (s : State) (c : Fin 32) (d : DmaDesc) : DmaBurst :=
  { ch := c, off := (s.dmaCh c).granted, len := dmaLength s c d, src := if d.op = 0 ∧ (dmaBound s c).isNone then d.src + (s.dmaCh c).granted else d.src,
    dst := d.dst + (s.dmaCh c).granted, parts := [] }

theorem dmaNext_plain {c : Fin 32} {d : DmaDesc} (hplain : (d.idxSrc || d.idxDst || d.vwp) = false)
    (hfree : (endReloads s d.dst d.dstLocal || endAsleep s d.dst d.dstLocal ||
      (decide (d.op ≠ 1) && (endReloads s d.src d.srcLocal || endAsleep s d.src d.srcLocal))) = false) :
    dmaNext s c d = (.inl (plainBurst s c d), s) := by
  have hbool : ∀ a b o x y : Bool, (a || b || (o && (x || y))) = false → (a || (o && x)) = false ∧ (b || (o && y)) = false := by decide
  obtain ⟨hreload, hasleep⟩ := hbool _ _ _ _ _ hfree
  obtain ⟨hidx, hvwp⟩ := Bool.or_eq_false_iff.mp hplain
  simp only [dmaNext, hreload, hasleep, hidx, hvwp, Bool.false_eq_true, if_false, Bool.not_false, if_true]
  rfl

/-- A grant, with the burst that leaves nothing to another device. -/
def burstGranted (s : State) (c : Fin 32) (b : DmaBurst) : State :=
  let s := s.modDma c fun x => { x with granted := x.granted + b.len, flush := false }
  { s with dma := { s.dma with turn := (c.val + 1) % 32, bursts := s.dma.bursts ++ [b] } }

theorem burstGrant_plain {c : Fin 32} {d : DmaDesc} (hroom : s.dma.bursts.length < 16) (hturn : dmaTurn s = some c) (hd : (s.dmaCh c).desc = some d)
    (hdst : localEnd s d.dst d.dstLocal = true) (hsrc : d.op = 1 ∨ localEnd s d.src d.srcLocal = true)
    (hnext : dmaNext s c d = (.inl (plainBurst s c d), s)) : burstGrant s = burstGranted s c (plainBurst s c d) := by
  have hroom' : ¬16 ≤ s.dma.bursts.length := by omega
  have hlaunch : ∀ (t : State) (b : DmaBurst), t.regs = s.regs → burstLaunch t c d b = (b, t) := by
    intro t b ht
    have hend := localEnd_congr ((sameRegs.refl [] s).of_regs ht) (by simp)
    have hsrc' : ¬(d.op ≠ 1 ∧ (!localEnd t d.src d.srcLocal) = true) := by
      intro ⟨h1, h2⟩
      rw [hend, hsrc.resolve_left h1] at h2
      exact absurd h2 (by decide)
    rw [burstLaunch, if_neg hsrc', hend, hdst]
    rfl
  simp only [burstGrant, if_neg hroom', hturn, hd, hnext]
  rw [hlaunch]
  · rfl
  · rfl

theorem burstGranted_shows (s : State) (c : Fin 32) (b : DmaBurst) :
    (burstGranted s c b).dma.bursts = s.dma.bursts ++ [b] ∧ ((burstGranted s c b).dmaCh c).granted = (s.dmaCh c).granted + b.len ∧
      (∀ x, x ≠ c → (burstGranted s c b).dmaCh x = s.dmaCh x) ∧ memFrame [] s (burstGranted s c b) := by
  have hch : ∀ x, (burstGranted s c b).dmaCh x = (s.modDma c fun x => { x with granted := x.granted + b.len, flush := false }).dmaCh x := fun _ => rfl
  exact ⟨rfl, by rw [hch, State.dmaCh_modDma], fun x hx => (hch x).trans (State.dmaCh_modDma_ne s hx _),
    (memFrame.refl [] s).of_eq rfl rfl rfl⟩

/-! ### A burst to another device ends (R545) -/

theorem burstMove_remote {c : Fin 32} {d : DmaDesc} (b : DmaBurst) (hdst : localEnd s d.dst d.dstLocal = false) :
    burstMove s c d b = (burstWrote b, s) := by
  have hfilter : (b.parts.filter fun p => match p.reply with | some (0, _) => true | _ => false) =
      b.parts.filter fun p => p.reply.any fun r => r.1 == 0 := by
    refine List.filter_congr fun p _ => ?_
    rcases p.reply with _ | ⟨_ | k, x⟩
    · rfl
    · rfl
    · rfl
  rw [burstMove, hdst]
  exact congrArg (fun l => ((l.map DmaPart.len).sum, s)) hfilter

theorem burstCounted_shows (s : State) (c : Fin 32) {n : Nat} (hn : s.pair .DMA_CH_BYTES_LO .DMA_CH_BYTES_HI c + n < 2 ^ 64) :
    (burstCounted s c n).pair .DMA_CH_BYTES_LO .DMA_CH_BYTES_HI c = s.pair .DMA_CH_BYTES_LO .DMA_CH_BYTES_HI c + n ∧
      memFrame [{ reg := .DMA_CH_BYTES_LO, idx := [c] }, { reg := .DMA_CH_BYTES_HI, idx := [c] }, { reg := .DMA_CH_RESIDUE, idx := [c] }] s
        (burstCounted s c n) := by
  have hshow : memFrame [{ reg := .DMA_CH_RESIDUE, idx := [c.val] }]
      ((s.modDma c fun x => { x with written := x.written + n }).pairAdd .DMA_CH_BYTES_LO .DMA_CH_BYTES_HI n c) (burstCounted s c n) :=
    (memFrame.refl _ _).dmaShow c (.head _)
  refine ⟨?_, (((memFrame.refl _ s).modDma c _).setPair _ (.of_mem_index (.head _)) (.of_mem_index (.tail _ (.head _)))).dmaShow c
    (.tail _ (.tail _ (.head _)))⟩
  rw [State.pair_congr (hshow.1.rd_eq (by simp) ..) (hshow.1.rd_eq (by simp) ..), State.pair_pairAdd_same _ (by decide)]
  exact Nat.min_eq_left (Nat.le_pred_of_lt hn)

/-! ### Packets that come too late (R546) -/

/-- The packets of a channel that have waited too long are answered UNREACHABLE. -/
def remoteLate (s : State) (c : Fin 32) : State :=
  let tmo := max 1 (s.fld F.CTP_TUNNEL_TMO_TMO) * 25000
  { s with dma := { s.dma with bursts := s.dma.bursts.map (fun b =>
    if b.ch = c.val then
      { b with parts := b.parts.map (fun p => if (p.reply.isNone && decide (p.sentAt + tmo ≤ s.now)) then { p with reply := some (1, []) } else p) }
    else b) } }

theorem remoteTimeout_of_late {c : Fin 32} (h : (s.dma.bursts.any fun b => b.ch == c.val && b.parts.any fun p => p.reply.isNone &&
      decide (p.sentAt + max 1 (s.fld F.CTP_TUNNEL_TMO_TMO) * 25000 ≤ s.now)) = true) :
    execDmaRemoteTimeout c s = .next ((dmaCause (remoteLate s c) c 9).setFld F.DMA_CH_STATUS_RSTATUS 1 c) := by
  simp only [execDmaRemoteTimeout, h, if_true]
  rfl

/-! ### The commands -/

theorem dmaAbort_running {c : Fin 32} (h0 : s.dmaState c ≠ 0) (h5 : s.dmaState c ≠ 5) :
    dmaAbort c s = (dmaCause s c 1).modDma c fun x => { x with aborted := true } :=
  if_neg fun h => h.elim h0 h5

theorem dmaFlush_bound {c : Fin 32} {n : Fin 16} {tdc : Bool} (hst : s.dmaState c = 3) (hb : dmaBound s c = some (n, tdc)) (hq : 1 ≤ queueCount s n tdc) :
    dmaFlush c s = s.modDma c fun x => { x with flush := true } := by
  refine if_pos ⟨hst, ?_⟩
  rw [hb]
  exact decide_eq_true hq

theorem dmaEnd_ok {c : Fin 32} {d : DmaDesc} (h0 : s.dmaState c ≠ 0) (hb : dmaBursts s c = []) (hd : (s.dmaCh c).desc = some d)
    (hend : (s.dmaCh c).ending = none) (hw : (s.dmaCh c).written = d.len) (hchain : d.chain = false) :
    ∃ data evt, execDmaDescEnd c s = .next (dmaEnded (if d.wb && s.storeOn .central then
      dmaWriteBack s (s.fld F.DMA_CH_DESC_OFFSET c) 0 0 (s.dmaCh c) else s) c 0 0 data evt) := by
  have hst : dmaStatus (s.dmaCh c) = some 0 := by simp [dmaStatus, hend, hd, hw]
  obtain ⟨data, evt, he⟩ := dmaEnd_of_last hd hst (by rw [hchain]; rfl)
  refine ⟨data, evt, ?_⟩
  rw [hw, Nat.sub_self, show (d.wb && decide (0 ≠ 2) && s.storeOn .central) = (d.wb && s.storeOn .central) by simp] at he
  rw [execDmaDescEnd, if_pos ⟨h0, by rw [hb]; rfl⟩, he]

/-- The write-back changes bytes 48 to 63 of the descriptor. -/
theorem dmaWriteBack_bytes {off : Nat} (hoff : off % 64 = 0) (x : DmaChannel) :
    (∀ y a, ¬(y = StoreId.central ∧ off + 48 ≤ a ∧ a < off + 64) → ((dmaWriteBack s off 0 0 x).store y).byteAt a = (s.store y).byteAt a) ∧
      (dmaWriteBack s off 0 0 x).cstore.byteAt (off + 48) = 0 ∧ ∀ i, i < 4 → (dmaWriteBack s off 0 0 x).cstore.byteAt (off + 52 + i) = 0 := by
  rw [dmaWriteBack_eq hoff]
  have hlen := length_writeBackBytes s 0 0 x
  obtain ⟨hin, hout⟩ := wrote_storeWritten s .central (off + 48) (writeBackBytes s 0 0 x)
  refine ⟨fun y a h => hout y a fun ⟨h1, h2, h3⟩ => h ⟨h1, h2, by omega⟩, (hin 0 (by omega)).trans rfl, fun i hi => ?_⟩
  rw [show off + 52 + i = off + 48 + (4 + i) by omega]
  refine (hin (4 + i) (by omega)).trans ?_
  interval_cases i <;> rfl

/-- What the end of a descriptor changes of the registers. -/
def dmaEndParts (c : Fin 32) : List Part :=
  [{ reg := .DMA_CH_STATUS, idx := [c] }, { reg := .DMA_CH_DESCS, idx := [c] }, { reg := .DMA_CH_RESIDUE, idx := [c] }] ++ eventParts

theorem memFrame_dmaEnded_ok (s : State) (c : Fin 32) (residue data : Nat) (evt : Bool) :
    memFrame (dmaEndParts c) s (dmaEnded s c 0 residue data evt) :=
  (memFrame.refl _ s).dmaEnded residue data evt (fun f hf hw => .of_mem_reg (by rw [hf]; exact .head _) hw)
    (.of_mem_index (.tail _ (.tail _ (.head _)))) (fun _ => .of_mem_index (.tail _ (.head _))) fun _ hx => List.mem_append_right _ hx

/-- The registers after a bus error. -/
def busErrorShown (s : State) : State :=
  ((s.setFlag F.DMA_STATUS_BUSERR true).setPair .DMA_BUSERR_BEAT_LO .DMA_BUSERR_BEAT_HI s.beat).count .DMA_BUSERRS

theorem busErrorShown_shows (s : State) (c : Fin 32) :
    (busErrorShown s).flag F.DMA_STATUS_BUSERR = true ∧ (busErrorShown s).dmaState c = s.dmaState c ∧
      (busErrorShown s).rd .DMA_BUSERRS = satCount (s.rd .DMA_BUSERRS) 1 := by
  refine ⟨?_, ?_, ?_⟩
  all_goals simp (disch := decide) [busErrorShown, State.setPair, State.dmaState]

/-- The state after a bus error. -/
def busErrorDone (s : State) : State := (busErrorShown ((List.finRange 32).foldl busEnd s)).raise Src.DMA_BUS Scope.device 0

theorem dmaBusError_shows (s : State) :
    (busErrorDone s).flag F.DMA_STATUS_BUSERR = true ∧ (∀ c, (busErrorDone s).dmaState c = 0) ∧
      (busErrorDone s).rd .DMA_BUSERRS = satCount (s.rd .DMA_BUSERRS) 1 ∧
      { pair := { src := 0x36, scope := 16, index := 0 }, injected := false, dry := false } ∈ (busErrorDone s).flt.raised ∧
      memFrame ([F.DMA_STATUS_BUSERR.part []] ++ globalParts
        [.DMA_CH_STATUS, .DMA_CH_DROPPED, .DMA_CH_RESIDUE, .DMA_BUSERR_BEAT_LO, .DMA_BUSERR_BEAT_HI, .DMA_BUSERRS] ++ eventParts) s (busErrorDone s) := by
  obtain ⟨hall, -, hframe⟩ := busEnds_shows (List.finRange 32) s
  unfold busErrorDone
  generalize (List.finRange 32).foldl busEnd s = u at *
  refine ⟨?_, fun c => ?_, ?_, mem_raised_raise _ Src.DMA_BUS Scope.device 0 (by decide), ?_⟩
  · rw [State.flag_raise]
    exact (busErrorShown_shows u 0).1
  · exact (State.fld_raise ..).trans ((busErrorShown_shows u c).2.1.trans (hall c (List.mem_finRange c)))
  · rw [State.rd_raise, (busErrorShown_shows u 0).2.2, hframe.1.rd_eq (by decide)]
  · exact ((((hframe.mono (by simp +contextual [busAllParts, globalParts])).setFlag F.DMA_STATUS_BUSERR true (.of_mem (.head _) ..)).setPair u.beat
      (.of_mem (by simp [globalParts]) ..) (.of_mem (by simp [globalParts]) ..)).count .DMA_BUSERRS (.of_mem (by simp [globalParts]) ..)).raise _ _ _

theorem dmaLate_shows {c : Fin 32} (hst : s.dmaState c ≠ 0) (hend : (s.dmaCh c).ending = none) :
    ((dmaCause (remoteLate s c) c 9).setFld F.DMA_CH_STATUS_RSTATUS 1 c).dmaState c = 5 ∧
      (((dmaCause (remoteLate s c) c 9).setFld F.DMA_CH_STATUS_RSTATUS 1 c).dmaCh c).ending = some 9 ∧
      ((dmaCause (remoteLate s c) c 9).setFld F.DMA_CH_STATUS_RSTATUS 1 c).fld F.DMA_CH_STATUS_RSTATUS c = 1 ∧
      memFrame [F.DMA_CH_STATUS_STATE.part [c], F.DMA_CH_STATUS_RSTATUS.part [c]] s
        ((dmaCause (remoteLate s c) c 9).setFld F.DMA_CH_STATUS_RSTATUS 1 c) := by
  obtain ⟨hst', hch, -, hframe⟩ := dmaCause_first_shows (s := remoteLate s c) hst hend 9
  have hlate : memFrame [F.DMA_CH_STATUS_STATE.part [c], F.DMA_CH_STATUS_RSTATUS.part [c]] s (remoteLate s c) := (memFrame.refl _ s).of_eq rfl rfl rfl
  refine ⟨?_, ?_, by simp (disch := decide), (hlate.trans (hframe.mono (by simp))).setFld _ _ (.of_mem_index (.tail _ (.head _)))⟩
  · rw [State.dmaState, State.fld_setFld_apart _ _ _ _ _ _ _ _ _ _ _ _ (by decide)]
    exact hst'
  · rw [State.dmaCh_of_dma (State.setFld_dma ..), hch]

end

/-- Settles O44: start, grant, end, abort and flush of a channel, its packets that come too late, and a bus error. -/
theorem dmaDescriptors : Obligations.DmaDescriptors := by
  unfold Obligations.DmaDescriptors
  refine ⟨fun s c d hst hbus hon hoff hlt hclean hinj hd hbad hends hlen => ?_,
    fun s c h => ⟨_, congrArg Host.Outcome.next (if_pos h), by simp (disch := decide), State.setFlag_dma .., (memFrame.refl _ s).setFlag _ _ (.of_mem_index (.head _))⟩,
    fun s c h0 h5 hend => ⟨_, congrArg Host.Outcome.next (dmaAbort_running h0 h5), ?_⟩,
    fun s c n tdc hst hb hq => ⟨_, congrArg Host.Outcome.next (dmaFlush_bound hst hb hq), by rw [State.dmaCh_modDma], rfl, (memFrame.refl _ s).modDma c _⟩,
    fun s => ⟨_, rfl, by simp (disch := decide), State.setFlag_dma .., (memFrame.refl _ s).setFlag _ _ (.of_mem (.head _) ..)⟩,
    fun s c d hroom hturn hd hdst hsrc hplain hfree =>
      ⟨_, congrArg Host.Outcome.next (burstGrant_plain hroom hturn hd hdst hsrc (dmaNext_plain hplain hfree)), burstGranted_shows s c _⟩,
    fun s c d b l hl hd hwhole hdst hvwp hn =>
      ⟨_, congrArg Host.Outcome.next (burstDone_of_whole hl hd hwhole hvwp (burstMove_remote b hdst)), ?_⟩,
    fun s c d h0 hb hd hend hw hchain hwb => ?_,
    fun s c d h0 hb hd hend hw hchain hwb hon hoff => ?_,
    fun s => ⟨busErrorDone s, rfl, ?_⟩,
    fun s c hlate hst hend => ⟨_, remoteTimeout_of_late hlate, ?_⟩⟩
  · obtain ⟨t, ht, hact, hframe⟩ := dmaLoad_of_good hon hoff hlt ⟨hclean, hinj⟩ hd hbad hends hlen
    obtain ⟨hstate, hch, hres⟩ := dmaTaken_shows t c d (s.dmaCh c).tagNo
    have hfree : ¬(s.dmaState c ≠ DmaSt.idle ∨ s.flag F.DMA_STATUS_BUSERR = true) := by
      rw [hbus]
      exact fun h => h.elim (fun h => h hst) (fun h => nomatch h)
    refine ⟨_, congrArg Host.Outcome.next ((if_neg hfree).trans ht), hstate.trans hact, congrArg DmaChannel.desc hch,
      congrArg DmaChannel.granted hch, congrArg DmaChannel.written hch, hres, hframe⟩
  · obtain ⟨hst, hch, hbursts, hframe⟩ := dmaCause_first_shows h0 hend 1
    refine ⟨hst, by rw [State.dmaCh_modDma], by rw [State.dmaCh_modDma, hch], hbursts, hframe.modDma c _⟩
  · obtain ⟨hpair, hframe⟩ := burstCounted_shows { s with dma := { s.dma with bursts := s.dma.bursts.erase b } } c hn
    exact ⟨by rw [burstCounted_dma]; rfl, burstCounted_written .., hpair, hframe⟩
  · obtain ⟨data, evt, he⟩ := dmaEnd_ok h0 hb hd hend hw hchain
    rw [hwb] at he
    obtain ⟨hst, hstat, hdone, hdescs, hres, hdesc⟩ := dmaEnded_ok_shows s c 0 data evt
    exact ⟨_, he, hst, hstat, hdone, hdescs, hres, hdesc, memFrame_dmaEnded_ok s c 0 data evt⟩
  · obtain ⟨data, evt, he⟩ := dmaEnd_ok h0 hb hd hend hw hchain
    rw [hwb, hon] at he
    have hregs : (dmaWriteBack s (s.fld F.DMA_CH_DESC_OFFSET c) 0 0 (s.dmaCh c)).regs = s.regs := by rw [dmaWriteBack_eq hoff, storeWritten_regs]
    obtain ⟨hst, hstat, hdone, hdescs, hres, hdesc⟩ :=
      dmaEnded_ok_shows (dmaWriteBack s (s.fld F.DMA_CH_DESC_OFFSET c) 0 0 (s.dmaCh c)) c 0 data evt
    obtain ⟨hrest, h48, h52⟩ := dmaWriteBack_bytes (s := s) hoff (s.dmaCh c)
    obtain ⟨hparts, hbytes⟩ := memFrame_dmaEnded_ok (dmaWriteBack s (s.fld F.DMA_CH_DESC_OFFSET c) 0 0 (s.dmaCh c)) c 0 data evt
    exact ⟨_, he, hst, hstat, hdone, hdescs.trans (by rw [State.rd_of_regs hregs]), hres, hdesc, fun x a h => (hbytes x a).trans (hrest x a h),
      (hbytes .central _).trans h48, fun i hi => (hbytes .central _).trans (h52 i hi), ((sameRegs.refl _ s).of_regs hregs).trans hparts⟩
  · exact dmaBusError_shows s
  · exact dmaLate_shows hst hend

end Sys2Proof.Machine

namespace Sys2Proof.Machine

/-! ## The line energy governors (R600 to R605) -/

section
variable {s t u : State} {l : List Part}

theorem seqFrame.toMem {n : Fin 16} (h : seqFrame l n s t) : memFrame l s t := ⟨h.1, h.2.2⟩

theorem memFrame.modSl (h : memFrame l s t) (n : Fin 16) (f : Slice → Slice) (hf : ∀ x, (f x).store.bytes = x.store.bytes) :
    memFrame l s (t.modSl n f) := ⟨h.1.modSl n f, h.2.modSl n f hf⟩

theorem memFrame.modPin (h : memFrame l s t) (n : Fin 16) (f : PinUnit → PinUnit) : memFrame l s (modPin t n f) := h.modSl n _ fun _ => rfl

/-- What a change of the governor's cause does to a TX channel. -/
theorem txCause_gov (s : State) (n : Fin 16) (k : Fin 4) (b : Bool) :
    (txCause s n k F.TXC_STATUS_MUTE_GOV b).flag F.TXC_STATUS_MUTE_GOV n k = b ∧
      (b = true → (txCause s n k F.TXC_STATUS_MUTE_GOV b).flag F.TXC_STATUS_MUTED n k = true) ∧
      seqFrame [F.TXC_STATUS_MUTE_GOV.part [n, k], F.TXC_STATUS_MUTED.part [n, k], { reg := .TXC_MUTE_CNT, idx := [n, k] }] n s
        (txCause s n k F.TXC_STATUS_MUTE_GOV b) := by
  have hset := muteSet_txCause s n k F.TXC_STATUS_MUTE_GOV b
  have hflag : ∀ f : Field, f.reg = .TXC_STATUS →
      (txCause s n k F.TXC_STATUS_MUTE_GOV b).flag f n k = (muteSet s n k F.TXC_STATUS_MUTE_GOV b).flag f n k := fun f hf =>
    hset.1.flag_of_reg (by simp [hf]) n k 0 0
  refine ⟨?_, fun hb => ?_, (((seqFrame.refl _ n s).setFlag _ _ (.of_mem_index2 (.head _))).setFlag _ _ (.of_mem_index2 (.tail _ (.head _)))).trans
    (hset.mono fun x hx => ?_)⟩
  · rw [hflag _ rfl, muteSet]
    simp (disch := decide)
  · rw [hflag _ rfl, muteSet, hb]
    simp (disch := decide)
  · exact List.mem_cons_of_mem _ (List.mem_cons_of_mem _ hx)

/-! ### Trips -/

theorem memFrame.govTripReport (h : memFrame l s t) (n : Fin 16) (kind x : Nat) : memFrame l s (govTripReport t n kind x) :=
  (h.raise _ _ _).journal _ _ _ _

@[simp] theorem rd_govTripReport (s : State) (n : Fin 16) (kind x : Nat) (r : Reg) (i j k m : Nat) :
    (govTripReport s n kind x).rd r i j k m = s.rd r i j k m := by rw [govTripReport, State.rd_journal, State.rd_raise]

@[simp] theorem fld_govTripReport (s : State) (n : Fin 16) (kind x : Nat) (f : Field) (i j k m : Nat) :
    (govTripReport s n kind x).fld f i j k m = s.fld f i j k m := by rw [State.fld, State.fld, rd_govTripReport]

@[simp] theorem flag_govTripReport (s : State) (n : Fin 16) (kind x : Nat) (f : Field) (i j k m : Nat) :
    (govTripReport s n kind x).flag f i j k m = s.flag f i j k m := by rw [State.flag, State.flag, fld_govTripReport]

@[simp] theorem journal_flt (s : State) (type src index data : Nat) : (s.journal type src index data).flt = s.flt := by
  unfold State.journal; split <;> rfl

@[simp] theorem journal_slices (s : State) (type src index data : Nat) : (s.journal type src index data).slices = s.slices := by
  unfold State.journal; split <;> rfl

@[simp] theorem govTripReport_slices (s : State) (n : Fin 16) (kind x : Nat) : (govTripReport s n kind x).slices = s.slices := by
  obtain ⟨y, hy⟩ := raise_eq s Src.NRG_TRIP n.val (kind + 4 * x)
  rw [govTripReport, journal_slices, hy]

theorem raised_govTripReport (s : State) (n : Fin 16) {kind x : Nat} (h : kind + 4 * x < 2 ^ 24) :
    { pair := { src := Src.NRG_TRIP, scope := n.val, index := kind + 4 * x }, injected := false, dry := false } ∈ (govTripReport s n kind x).flt.raised := by
  rw [govTripReport, journal_flt]
  exact mem_raised_raise _ _ _ _ h

/-- The slice and the channel of a global TX line. -/
def txSlice (x : Fin 64) : Fin 16 := ⟨x.val / 4, by omega⟩
def txLine (x : Fin 64) : Fin 4 := ⟨x.val % 4, by omega⟩

/-- What the trip of a TX governor changes of the registers. -/
def txTripParts (x : Fin 64) : List Part :=
  [{ reg := .NRG_TX_STATUS, idx := [x] }, F.TXC_STATUS_MUTE_GOV.part [x.val / 4, x.val % 4], F.TXC_STATUS_MUTED.part [x.val / 4, x.val % 4],
   { reg := .TXC_MUTE_CNT, idx := [x.val / 4, x.val % 4] }, { reg := .NRG_TX_TRIPS, idx := [x] }]

theorem txTrip_shows (s : State) (x : Fin 64) (ms sec : Bool) :
    (txTrip s x ms sec).flag F.NRG_TX_STATUS_TRIP x = true ∧ (txTrip s x ms sec).flag F.NRG_TX_STATUS_WIN_MS x = ms ∧
      (txTrip s x ms sec).flag F.NRG_TX_STATUS_WIN_S x = sec ∧ (txTrip s x ms sec).flag F.TXC_STATUS_MUTE_GOV (txSlice x) (txLine x) = true ∧
      (txTrip s x ms sec).flag F.TXC_STATUS_MUTED (txSlice x) (txLine x) = true ∧
      { pair := { src := Src.NRG_TRIP, scope := x.val / 4, index := 4 * x.val }, injected := false, dry := false } ∈ (txTrip s x ms sec).flt.raised ∧
      (txTrip s x ms sec).rd .NRG_TX_TRIPS x = satCount (s.rd .NRG_TX_TRIPS x) 1 ∧
      memFrame (txTripParts x) s (txTrip s x ms sec) := by
  obtain ⟨hgov, hmuted, hframe⟩ := txCause_gov s (txSlice x) (txLine x) true
  have htrips : (txCause s (txSlice x) (txLine x) F.TXC_STATUS_MUTE_GOV true).rd .NRG_TX_TRIPS x = s.rd .NRG_TX_TRIPS x :=
    hframe.1.rd_eq (by simp [Field.part]; decide) ..
  have hparts : memFrame (txTripParts x) s (txCause s (txSlice x) (txLine x) F.TXC_STATUS_MUTE_GOV true) :=
    hframe.toMem.mono (by simp [txTripParts, txSlice, txLine])
  have heq : txTrip s x ms sec = govTripReport (((((txCause s (txSlice x) (txLine x) F.TXC_STATUS_MUTE_GOV true).setFlag F.NRG_TX_STATUS_TRIP true x).setFlag
      F.NRG_TX_STATUS_WIN_MS ms x).setFlag F.NRG_TX_STATUS_WIN_S sec x).count .NRG_TX_TRIPS x) (txSlice x) 0 x := rfl
  rw [heq]
  refine ⟨?_, ?_, ?_, ?_, ?_, ?_, ?_, ?_⟩
  · simp (disch := decide)
  · simp (disch := decide)
  · simp (disch := decide)
  · simpa (disch := decide) using hgov
  · simpa (disch := decide) using hmuted rfl
  · have := raised_govTripReport ((((((txCause s (txSlice x) (txLine x) F.TXC_STATUS_MUTE_GOV true).setFlag F.NRG_TX_STATUS_TRIP true x).setFlag
      F.NRG_TX_STATUS_WIN_MS ms x).setFlag F.NRG_TX_STATUS_WIN_S sec x).count .NRG_TX_TRIPS x)) (txSlice x) (kind := 0) (x := x.val) (by omega)
    rwa [Nat.zero_add] at this
  · simp (disch := decide) [htrips]
  · exact (((((hparts.setFlag _ _ (.of_mem_reg (.head _) (by decide))).setFlag _ _ (.of_mem_reg (.head _) (by decide))).setFlag _ _
      (.of_mem_reg (.head _) (by decide))).count _ (.of_mem_index (by simp [txTripParts])))).govTripReport _ _ _

theorem txGovTrip_eq (s : State) (x : Fin 64) : txGovTrip s x = if s.replayMuted then s else
    if (decide (txThresholdMs s x < txSumMs s (txSlice x) (txLine x)) || decide (txThresholdS s x < txSumS s (txSlice x) (txLine x))) &&
        !s.flag F.NRG_TX_STATUS_TRIP x then
      txTrip s x (decide (txThresholdMs s x < txSumMs s (txSlice x) (txLine x))) (decide (txThresholdS s x < txSumS s (txSlice x) (txLine x)))
    else s := by
  unfold txGovTrip govSilent
  rfl

theorem txGovTrip_over {x : Fin 64} (hm : s.replayMuted = false) (h : txThresholdMs s x < txSumMs s (txSlice x) (txLine x) ∨
      txThresholdS s x < txSumS s (txSlice x) (txLine x)) (ht : s.flag F.NRG_TX_STATUS_TRIP x = false) :
    txGovTrip s x = txTrip s x (decide (txThresholdMs s x < txSumMs s (txSlice x) (txLine x)))
      (decide (txThresholdS s x < txSumS s (txSlice x) (txLine x))) := by
  have hor : (decide (txThresholdMs s x < txSumMs s (txSlice x) (txLine x)) || decide (txThresholdS s x < txSumS s (txSlice x) (txLine x))) = true := by
    simpa using h
  simp only [txGovTrip_eq, hm, hor, ht, Bool.false_eq_true, if_false, Bool.not_false, Bool.and_self, if_true]

theorem txGovTrip_below {x : Fin 64} (h : ¬(txThresholdMs s x < txSumMs s (txSlice x) (txLine x) ∨ txThresholdS s x < txSumS s (txSlice x) (txLine x)) ∨
      s.replayMuted = true) : txGovTrip s x = s := by
  rw [txGovTrip_eq]
  cases hm : s.replayMuted with
  | true => rfl
  | false =>
    obtain ⟨hms, hs⟩ := not_or.mp (h.resolve_right (by simp [hm]))
    simp only [decide_eq_false hms, decide_eq_false hs, Bool.false_eq_true, if_false, Bool.or_self, Bool.false_and]

/-! ### The FF lines -/

/-- The slice and the channel of a global FF line. -/
def ffSlice (x : Fin 128) : Fin 16 := ⟨x.val / 8, by omega⟩
def ffLine (x : Fin 128) : Fin 8 := ⟨x.val % 8, by omega⟩

/-- What a governor's cause changes of an FF channel's registers. -/
def ffGovParts (x : Fin 128) : List Part :=
  [F.FF_STATUS_GOV.part [x.val / 8, x.val % 8], F.FF_STATUS_STATE.part [x.val / 8, x.val % 8], F.FF_CODE_HELD.part [x.val / 8, x.val % 8],
   F.FF_CODE_CODE.part [x.val / 8, x.val % 8]]

theorem memFrame.ffRefresh {x : Fin 128} (h : memFrame l s t) (hl : ∀ y ∈ ffGovParts x, y ∈ l) :
    memFrame l s (ffRefresh t (ffSlice x) (ffLine x)) :=
  ((h.setFld F.FF_STATUS_STATE _ (.of_mem_index2 (hl _ (.tail _ (.head _))))).setFlag F.FF_CODE_HELD _
    (.of_mem_index2 (hl _ (.tail _ (.tail _ (.head _)))))).setFld F.FF_CODE_CODE _ (.of_mem_index2 (hl _ (.tail _ (.tail _ (.tail _ (.head _))))))

theorem memFrame.updFf {x : Fin 128} (h : memFrame l s t) (g : FfChannel → FfChannel) (hl : ∀ y ∈ ffGovParts x, y ∈ l) :
    memFrame l s (updFf t (ffSlice x) (ffLine x) g) := by
  have hmod : memFrame l s (modFf t (ffSlice x) (ffLine x) g) := h.modSl _ _ fun _ => rfl
  exact hmod.ffRefresh hl

theorem memFrame.ffGovMute {x : Fin 128} (h : memFrame l s t) (hl : ∀ y ∈ ffGovParts x, y ∈ l) :
    memFrame l s (ffGovMute t (ffSlice x) (ffLine x)) := by
  have hgov : memFrame l s (t.setFlag F.FF_STATUS_GOV true (ffSlice x) (ffLine x)) := h.setFlag _ _ (.of_mem_index2 (hl _ (.head _)))
  exact .ite (hgov.updFf _ hl) hgov

theorem ffGovMute_shows (s : State) (n : Fin 16) (f : Fin 8) :
    (ffGovMute s n f).flag F.FF_STATUS_GOV n f = true ∧ (ffStateOf s n f = 1 ∨ ffStateOf s n f = 2 → (ffCh (ffGovMute s n f) n f).code = 0) := by
  unfold ffGovMute
  dsimp only
  split
  · next hst =>
    refine ⟨?_, fun _ => by rw [ffCh_updFf]⟩
    rw [State.flag, fld_updFf _ _ _ _ (by decide)]
    exact State.flag_setFlag_same _ _ _ _ _ _ _ (by decide) rfl
  · next hst => exact ⟨by simp (disch := decide), fun h => absurd h hst⟩

theorem ffTrip_shows (s : State) (x : Fin 128) :
    (ffTrip s x).flag F.NRG_FF_STATUS_TRIP x = true ∧ (ffTrip s x).flag F.FF_STATUS_GOV (ffSlice x) (ffLine x) = true ∧
      (ffStateOf s (ffSlice x) (ffLine x) = 1 ∨ ffStateOf s (ffSlice x) (ffLine x) = 2 → (ffCh (ffTrip s x) (ffSlice x) (ffLine x)).code = 0) ∧
      { pair := { src := Src.NRG_TRIP, scope := x.val / 8, index := 1 + 4 * x.val }, injected := false, dry := false } ∈ (ffTrip s x).flt.raised ∧
      (ffTrip s x).rd .NRG_FF_TRIPS x = satCount (s.rd .NRG_FF_TRIPS x) 1 ∧
      memFrame ([{ reg := .NRG_FF_STATUS, idx := [x] }] ++ ffGovParts x ++ [{ reg := .NRG_FF_TRIPS, idx := [x] }]) s (ffTrip s x) := by
  obtain ⟨hgov, hcode⟩ := ffGovMute_shows s (ffSlice x) (ffLine x)
  have hmute : memFrame (ffGovParts x) s (ffGovMute s (ffSlice x) (ffLine x)) := (memFrame.refl _ s).ffGovMute fun _ h => h
  have htrips : (ffGovMute s (ffSlice x) (ffLine x)).rd .NRG_FF_TRIPS x = s.rd .NRG_FF_TRIPS x :=
    hmute.1.rd_eq (by simp [ffGovParts, Field.part]; decide) ..
  have heq : ffTrip s x = govTripReport (((ffGovMute s (ffSlice x) (ffLine x)).setFlag F.NRG_FF_STATUS_TRIP true x).count .NRG_FF_TRIPS x) (ffSlice x) 1 x :=
    rfl
  rw [heq]
  refine ⟨?_, ?_, fun h => ?_, raised_govTripReport _ (ffSlice x) (by omega), ?_, ?_⟩
  · simp (disch := decide)
  · simpa (disch := decide) using hgov
  · rw [ffCh, State.sl, govTripReport_slices]
    exact hcode h
  · simp (disch := decide) [htrips]
  · exact (((hmute.mono fun y hy => List.mem_append_left _ (List.mem_append_right _ hy)).setFlag _ _ (.of_mem_reg (.head _) (by decide))).count _
      (.of_mem_index (by simp))).govTripReport _ _ _

end
end Sys2Proof.Machine

namespace Sys2Proof.Machine
section
variable {s t u : State} {l : List Part}

theorem ffGovTrip_eq (s : State) (x : Fin 128) : ffGovTrip s x = if s.replayMuted then s else
    if ffThreshold (s.fld F.NRG_FF_LIM_LIM x) < ffSum s (ffSlice x) (ffLine x) ∧ !s.flag F.NRG_FF_STATUS_TRIP x then ffTrip s x else s := by
  unfold ffGovTrip govSilent
  rfl

theorem ffGovTrip_over {x : Fin 128} (hm : s.replayMuted = false) (h : ffThreshold (s.fld F.NRG_FF_LIM_LIM x) < ffSum s (ffSlice x) (ffLine x))
    (ht : s.flag F.NRG_FF_STATUS_TRIP x = false) : ffGovTrip s x = ffTrip s x := by
  simp only [ffGovTrip_eq, hm, h, ht, Bool.false_eq_true, if_false, Bool.not_false, and_self, if_true]

theorem ffGovTrip_below {x : Fin 128} (h : ffSum s (ffSlice x) (ffLine x) ≤ ffThreshold (s.fld F.NRG_FF_LIM_LIM x) ∨ s.replayMuted = true) :
    ffGovTrip s x = s := by
  rw [ffGovTrip_eq]
  cases hm : s.replayMuted with
  | true => rfl
  | false =>
    have hle := h.resolve_right (by simp [hm])
    rw [if_neg Bool.false_ne_true, if_neg fun h => Nat.not_le.mpr h.1 hle]

/-! ### The pins -/

def pinSlice (g : Fin 512) : Fin 16 := ⟨g.val / 32, by omega⟩

/-- The sums of a pin's governor. -/
def pinOverI (s : State) (g : Fin 512) (ua : Nat) : Bool := decide (clampNat 1 200 (s.fld F.NRG_PIN_CFG_IMAX g) * 10 < ua)
def pinOverE (s : State) (g : Fin 512) (nj : Nat) : Bool := decide (clampNat 1 1000 (s.fld F.NRG_PIN_CFG_ELIM g) < nj)

theorem pinGovTrip_guarded {g : Fin 512} (ua nj : Nat) (hm : s.replayMuted = false) (hg : s.flag F.PIN_STATUS_GUARDED (pinSlice g) (g.val % 32) = true) :
    pinGovTrip s g ua nj =
      if (pinOverI s g ua || pinOverE s g nj) && !s.flag F.NRG_PIN_STATUS_TRIP g then
        pinTrip (s.setFld F.NRG_PIN_ENERGY_NJ (min nj 65535) g) g (pinOverI s g ua) (pinOverE s g nj)
      else s.setFld F.NRG_PIN_ENERGY_NJ (min nj 65535) g := by
  have hgo : ¬((!pinGuarded s (pinSlice g) (g.val % 32)) = true ∨ govSilent s = true) := by
    rw [pinGuarded, hg, govSilent, hm]
    simp
  have himax : (s.setFld F.NRG_PIN_ENERGY_NJ (min nj 65535) g).fld F.NRG_PIN_CFG_IMAX g = s.fld F.NRG_PIN_CFG_IMAX g := by simp (disch := decide)
  have helim : (s.setFld F.NRG_PIN_ENERGY_NJ (min nj 65535) g).fld F.NRG_PIN_CFG_ELIM g = s.fld F.NRG_PIN_CFG_ELIM g := by simp (disch := decide)
  have htrip : (s.setFld F.NRG_PIN_ENERGY_NJ (min nj 65535) g).flag F.NRG_PIN_STATUS_TRIP g = s.flag F.NRG_PIN_STATUS_TRIP g := by simp (disch := decide)
  unfold pinGovTrip
  refine (if_neg hgo).trans ?_
  dsimp only
  rw [himax, helim, htrip]
  rfl

/-- The registers after the trip of a pin's governor. -/
def pinTripped (s : State) (g : Fin 512) (i e : Bool) : State :=
  (((s.setFlag F.NRG_PIN_STATUS_TRIP true g).setFlag F.NRG_PIN_STATUS_CAUSE_I i g).setFlag F.NRG_PIN_STATUS_CAUSE_E e g).setFlag
    F.PIN_STATUS_PMU_CONN false (pinSlice g) (g.val % 32)

theorem memFrame_pinTripped (s : State) (g : Fin 512) (i e : Bool) :
    memFrame [{ reg := .NRG_PIN_STATUS, idx := [g] }, F.PIN_STATUS_PMU_CONN.part [g.val / 32, g.val % 32]] s (pinTripped s g i e) :=
  ((((memFrame.refl _ s).setFlag F.NRG_PIN_STATUS_TRIP true (.of_mem_reg (.head _) (by decide))).setFlag F.NRG_PIN_STATUS_CAUSE_I i
    (.of_mem_reg (.head _) (by decide))).setFlag F.NRG_PIN_STATUS_CAUSE_E e (.of_mem_reg (.head _) (by decide))).setFlag F.PIN_STATUS_PMU_CONN false
    (.of_mem_index2 (.tail _ (.head _)))

theorem pinTrip_shows (s : State) (g : Fin 512) (i e : Bool) :
    (pinTrip s g i e).flag F.NRG_PIN_STATUS_TRIP g = true ∧ (pinTrip s g i e).flag F.NRG_PIN_STATUS_CAUSE_I g = i ∧
      (pinTrip s g i e).flag F.NRG_PIN_STATUS_CAUSE_E g = e ∧ (pinTrip s g i e).fld F.NRG_PIN_ENERGY_NJ g = s.fld F.NRG_PIN_ENERGY_NJ g ∧
      (pinTrip s g i e).flag F.PIN_STATUS_PMU_CONN (pinSlice g) (g.val % 32) = false ∧
      { pair := { src := Src.NRG_TRIP, scope := g.val / 32, index := 2 + 4 * g.val }, injected := false, dry := false } ∈ (pinTrip s g i e).flt.raised ∧
      memFrame [{ reg := .NRG_PIN_STATUS, idx := [g] }, F.PIN_STATUS_PMU_CONN.part [g.val / 32, g.val % 32]] s (pinTrip s g i e) := by
  have hfld : ∀ (t : State) (f : PinUnit → PinUnit) (x : Field) (i j : Nat), (modPin t (pinSlice g) f).fld x i j = t.fld x i j := fun _ _ _ _ _ => rfl
  have hflag : ∀ (t : State) (f : PinUnit → PinUnit) (x : Field) (i j : Nat), (modPin t (pinSlice g) f).flag x i j = t.flag x i j :=
    fun _ _ _ _ _ => rfl
  obtain ⟨f, hf⟩ : ∃ f, pinTrip s g i e = govTripReport (modPin (pinTripped s g i e) (pinSlice g) f) (pinSlice g) 2 g := ⟨_, rfl⟩
  rw [hf]
  refine ⟨?_, ?_, ?_, ?_, ?_, raised_govTripReport _ (pinSlice g) (by omega), ((memFrame_pinTripped s g i e).modPin _ f).govTripReport _ _ _⟩
  · rw [flag_govTripReport, hflag, pinTripped]; simp (disch := decide)
  · rw [flag_govTripReport, hflag, pinTripped]; simp (disch := decide)
  · rw [flag_govTripReport, hflag, pinTripped]; simp (disch := decide)
  · rw [fld_govTripReport, hfld, pinTripped]; simp (disch := decide)
  · rw [flag_govTripReport, hflag, pinTripped]; simp (disch := decide)

/-! ### Re-arming (R602, R603, R605) -/

/-- The sums of a TX line have fallen far enough. -/
def txFallen (s : State) (x : Fin 64) : Prop :=
  txSumMs s (txSlice x) (txLine x) * 256 ≤ txThresholdMs s x * max 1 (s.fld F.NRG_TX_CFG_REARM x) ∧
    txSumS s (txSlice x) (txLine x) * 256 ≤ txThresholdS s x * max 1 (s.fld F.NRG_TX_CFG_REARM x)

theorem govRearm_tx_fallen {x : Fin 64} (ht : s.flag F.NRG_TX_STATUS_TRIP x = true) (h : txFallen s x) :
    govRearm s (.tx x) = txCause (s.setFlag F.NRG_TX_STATUS_TRIP false x) (txSlice x) (txLine x) F.TXC_STATUS_MUTE_GOV false := by
  unfold govRearm
  exact (if_neg (by rw [ht]; simp)).trans (if_pos h)

theorem govRearm_tx_refused {x : Fin 64} (ht : s.flag F.NRG_TX_STATUS_TRIP x = true) (h : ¬txFallen s x) :
    govRearm s (.tx x) = s.setFlag F.NRG_TX_STATUS_REARM_REFUSED true x := by
  unfold govRearm
  exact (if_neg (by rw [ht]; simp)).trans (if_neg h)

/-- The sum of an FF line has fallen far enough. -/
def ffFallen (s : State) (x : Fin 128) : Prop :=
  ffSum s (ffSlice x) (ffLine x) * 256 ^ 2 ≤ ffThreshold (s.fld F.NRG_FF_LIM_LIM x * max 1 (s.fld F.NRG_FF_CFG_REARM x))

theorem govRearm_ff_fallen {x : Fin 128} (ht : s.flag F.NRG_FF_STATUS_TRIP x = true) (h : ffFallen s x) :
    govRearm s (.ff x) =
      ffRefresh ((s.setFlag F.NRG_FF_STATUS_TRIP false x).setFlag F.FF_STATUS_GOV false (ffSlice x) (ffLine x)) (ffSlice x) (ffLine x) := by
  unfold govRearm
  exact (if_neg (by rw [ht]; simp)).trans (if_pos h)

theorem govRearm_ff_refused {x : Fin 128} (ht : s.flag F.NRG_FF_STATUS_TRIP x = true) (h : ¬ffFallen s x) :
    govRearm s (.ff x) = s.setFlag F.NRG_FF_STATUS_REARM_REFUSED true x := by
  unfold govRearm
  exact (if_neg (by rw [ht]; simp)).trans (if_neg h)

theorem rearmed_tx_shows (s : State) (x : Fin 64) :
    (txCause (s.setFlag F.NRG_TX_STATUS_TRIP false x) (txSlice x) (txLine x) F.TXC_STATUS_MUTE_GOV false).flag F.NRG_TX_STATUS_TRIP x = false ∧
      (txCause (s.setFlag F.NRG_TX_STATUS_TRIP false x) (txSlice x) (txLine x) F.TXC_STATUS_MUTE_GOV false).flag F.TXC_STATUS_MUTE_GOV (txSlice x)
        (txLine x) = false ∧
      memFrame [{ reg := .NRG_TX_STATUS, idx := [x] }, F.TXC_STATUS_MUTE_GOV.part [x.val / 4, x.val % 4], F.TXC_STATUS_MUTED.part [x.val / 4, x.val % 4],
        { reg := .TXC_MUTE_CNT, idx := [x.val / 4, x.val % 4] }] s
        (txCause (s.setFlag F.NRG_TX_STATUS_TRIP false x) (txSlice x) (txLine x) F.TXC_STATUS_MUTE_GOV false) := by
  obtain ⟨hgov, -, hframe⟩ := txCause_gov (s.setFlag F.NRG_TX_STATUS_TRIP false x) (txSlice x) (txLine x) false
  refine ⟨?_, hgov, ((memFrame.refl _ s).setFlag _ _ (.of_mem_reg (.head _) (by decide))).trans (hframe.toMem.mono (by simp [txSlice, txLine]))⟩
  rw [hframe.1.flag_of_reg (by simp [Field.part]; decide)]
  simp (disch := decide)

theorem rearmed_ff_shows (s : State) (x : Fin 128) :
    (ffRefresh ((s.setFlag F.NRG_FF_STATUS_TRIP false x).setFlag F.FF_STATUS_GOV false (ffSlice x) (ffLine x)) (ffSlice x) (ffLine x)).flag
        F.NRG_FF_STATUS_TRIP x = false ∧
      (ffRefresh ((s.setFlag F.NRG_FF_STATUS_TRIP false x).setFlag F.FF_STATUS_GOV false (ffSlice x) (ffLine x)) (ffSlice x) (ffLine x)).flag
        F.FF_STATUS_GOV (ffSlice x) (ffLine x) = false ∧
      memFrame ([{ reg := .NRG_FF_STATUS, idx := [x] }] ++ ffGovParts x) s
        (ffRefresh ((s.setFlag F.NRG_FF_STATUS_TRIP false x).setFlag F.FF_STATUS_GOV false (ffSlice x) (ffLine x)) (ffSlice x) (ffLine x)) := by
  have hshown : memFrame ([{ reg := .NRG_FF_STATUS, idx := [x.val] }] ++ ffGovParts x) s
      ((s.setFlag F.NRG_FF_STATUS_TRIP false x).setFlag F.FF_STATUS_GOV false (ffSlice x) (ffLine x)) :=
    ((memFrame.refl _ s).setFlag F.NRG_FF_STATUS_TRIP false (.of_mem_reg (.head _) (by decide))).setFlag F.FF_STATUS_GOV false
      (.of_mem_index2 (.tail _ (.head _)))
  have hflag : ∀ (t : State) (f : Field) (i j : Nat), f.reg ≠ .FF_CODE ∧ (f.reg ≠ .FF_STATUS ∨ 3 ≤ f.lo) →
      (ffRefresh t (ffSlice x) (ffLine x)).flag f i j = t.flag f i j := fun t f i j hf => congrArg (· == 1) (fld_ffRefresh _ _ _ hf ..)
  refine ⟨?_, ?_, hshown.ffRefresh fun _ h => List.mem_append_right _ h⟩
  · rw [hflag _ _ _ _ (by decide)]
    simp (disch := decide)
  · rw [hflag _ _ _ _ (by decide)]
    simp (disch := decide)

end
end Sys2Proof.Machine

namespace Sys2Proof.Machine

/-! ## Power admission (R593 to R599) -/

section
variable {s t u : State} {l : List Part}

theorem memFrame.modPwr (h : memFrame l s t) (f : Power → Power) : memFrame l s (modPwr t f) := h.of_eq rfl rfl rfl

/-- The state in which the queue of a boundary is looked at. -/
def admissionOpened (s : State) : State :=
  ((modPwr s fun p => { p with evalAt := s.now + 1, ramp := p.ramp.filter fun x => decide (s.now < x.2 + 250) }).setFlag
    F.PWR_STATUS_BUDGET_WAIT false).setFlag F.PWR_STATUS_RAMP_WAIT false

theorem admissionGrant_opened (h : s.pwr.evalAt ≠ s.now + 1) :
    admissionGrant s = admissionGrants (admissionRefusals (admissionOpened s)).pwr.queue.length (admissionRefusals (admissionOpened s)) := if_neg h

theorem memFrame_admissionOpened (s : State) :
    memFrame [F.PWR_STATUS_BUDGET_WAIT.part [], F.PWR_STATUS_RAMP_WAIT.part []] s (admissionOpened s) :=
  (((memFrame.refl _ s).modPwr _).setFlag _ _ (.of_mem (.head _) ..)).setFlag _ _ (.of_mem (.tail _ (.head _)) ..)

@[simp] theorem pwr_admissionOpened (s : State) : (admissionOpened s).pwr =
    { s.pwr with evalAt := s.now + 1, ramp := s.pwr.ramp.filter fun x => decide (s.now < x.2 + 250) } := by
  rw [admissionOpened, State.setFlag_pwr, State.setFlag_pwr]
  rfl

@[simp] theorem now_admissionOpened (s : State) : (admissionOpened s).now = s.now := rfl

theorem fld_admissionOpened (s : State) {f : Field} (hf : f.reg ≠ .PWR_STATUS) (i j k m : Nat) :
    (admissionOpened s).fld f i j k m = s.fld f i j k m :=
  (memFrame_admissionOpened s).1.fld_of_reg (fun x hx e => hf (by
    simp only [List.mem_cons, List.not_mem_nil, or_false] at hx
    rcases hx with rfl | rfl
    · exact e.symm
    · exact e.symm)) i j k m

theorem classCost_admissionOpened (s : State) (cls : Nat) : classCost (admissionOpened s) cls = classCost s cls :=
  fld_admissionOpened s (by decide) ..

theorem committed_admissionOpened (s : State) : committed (admissionOpened s) = committed s := by
  rw [committed, fld_admissionOpened s (by decide), pwr_admissionOpened]
  rfl

theorem budgetOk_admissionOpened (s : State) (cost : Nat) : budgetOk (admissionOpened s) cost = budgetOk s cost := by
  rw [budgetOk, committed_admissionOpened, fld_admissionOpened s (by decide)]
  rfl

theorem rampSum_admissionOpened (s : State) : rampSum (admissionOpened s) = rampSum s := by
  have hfilter : (s.pwr.ramp.filter fun x => decide (s.now < x.2 + 250)).filter (fun x => decide (s.now < x.2 + 250)) =
      s.pwr.ramp.filter fun x => decide (s.now < x.2 + 250) := by rw [List.filter_filter]; simp
  rw [rampSum, now_admissionOpened, pwr_admissionOpened, rampSum]
  exact congrArg (fun l => (l.map Prod.fst).sum) hfilter

theorem rampOk_admissionOpened (s : State) (cost : Nat) : rampOk (admissionOpened s) cost = rampOk s cost := by
  unfold rampOk
  rw [rampSum_admissionOpened, fld_admissionOpened s (by decide)]

/-- One request that may still fit is not refused. -/
theorem admissionRefusals_fits {r : PwrRequester} {k : Nat} (hq : s.pwr.queue = [(r, k)])
    (h : s.fld F.PWR_BASE_MW_MW + classCost s r.cls ≤ s.fld F.PWR_BUDGET_MW_MW) : admissionRefusals (admissionOpened s) = admissionOpened s := by
  rw [admissionRefusals, pwr_admissionOpened, hq]
  refine if_neg ?_
  rw [fld_admissionOpened s (by decide), fld_admissionOpened s (by decide), classCost_admissionOpened]
  exact Nat.not_lt.mpr h

theorem admissionRefusals_never {r : PwrRequester} {k : Nat} (hq : s.pwr.queue = [(r, k)])
    (h : s.fld F.PWR_BUDGET_MW_MW < s.fld F.PWR_BASE_MW_MW + classCost s r.cls) :
    admissionRefusals (admissionOpened s) = admissionRefuse (admissionOpened s) r := by
  rw [admissionRefusals, pwr_admissionOpened, hq]
  refine if_pos ?_
  rw [fld_admissionOpened s (by decide), fld_admissionOpened s (by decide), classCost_admissionOpened]
  exact h

theorem base_le_of_budgetOk {cost : Nat} (h : budgetOk s cost = true) : s.fld F.PWR_BASE_MW_MW + cost ≤ s.fld F.PWR_BUDGET_MW_MW := by
  have := of_decide_eq_true h
  unfold committed at this
  omega

/-- The cost of a request is held. -/
def costHeld (s : State) (r : PwrRequester) (cost : Nat) : State :=
  (modPwr s fun p => { p with queue := p.queue.tail, granted := p.granted ++ [(r, cost)], ramp := (cost, s.now) :: p.ramp }).count .PWR_GRANTS

theorem admissionGrant_granted {r : PwrRequester} {k : Nat} (he : s.pwr.evalAt ≠ s.now + 1) (hq : s.pwr.queue = [(r, k)]) (hk : k < s.now)
    (hb : budgetOk s (classCost s r.cls) = true) (hr : rampOk s (classCost s r.cls) = true) :
    admissionGrant s = grantTo (costHeld (admissionOpened s) r (classCost s r.cls)) r := by
  have hk' : ¬s.now ≤ k := by omega
  rw [admissionGrant_opened he, admissionRefusals_fits hq (base_le_of_budgetOk hb), pwr_admissionOpened, hq]
  simp only [List.length_cons, List.length_nil, Nat.zero_add, admissionGrants, pwr_admissionOpened, hq, now_admissionOpened, if_neg hk',
    classCost_admissionOpened, budgetOk_admissionOpened, rampOk_admissionOpened, hb, hr, Bool.and_self, if_true]
  rfl

theorem admissionGrant_waits {r : PwrRequester} {k : Nat} (he : s.pwr.evalAt ≠ s.now + 1) (hq : s.pwr.queue = [(r, k)]) (hk : k < s.now)
    (hfits : s.fld F.PWR_BASE_MW_MW + classCost s r.cls ≤ s.fld F.PWR_BUDGET_MW_MW)
    (hno : (budgetOk s (classCost s r.cls) && rampOk s (classCost s r.cls)) = false) :
    admissionGrant s = (((admissionOpened s).setFlag F.PWR_STATUS_BUDGET_WAIT (!budgetOk s (classCost s r.cls))).setFlag F.PWR_STATUS_RAMP_WAIT
      (!rampOk s (classCost s r.cls))).count .PWR_WAIT_BEATS := by
  have hk' : ¬s.now ≤ k := by omega
  rw [admissionGrant_opened he, admissionRefusals_fits hq hfits, pwr_admissionOpened, hq]
  simp only [List.length_cons, List.length_nil, Nat.zero_add, admissionGrants, pwr_admissionOpened, hq, now_admissionOpened, if_neg hk',
    classCost_admissionOpened, budgetOk_admissionOpened, rampOk_admissionOpened, hno, Bool.false_eq_true, if_false]

theorem admissionGrants_empty (fuel : Nat) (h : s.pwr.queue = []) : admissionGrants fuel s = s := by
  cases fuel with
  | zero => rfl
  | succ fuel => rw [admissionGrants, h]

/-- A TX channel's request that is refused. -/
def txNeverFits (s : State) (r : PwrRequester) : State :=
  let s := (modPwr s fun p => { p with queue := p.queue.filter fun q => q.1 ≠ r }).setFlag F.PWR_STATUS_REFUSED true
  ((s.setFld F.PWR_LAST_REFUSED_CLASS 1).setFld F.PWR_LAST_REFUSED_INDEX r.index).setFld F.TXC_STATUS_PWR 0 (r.index / 4 % 16) (r.index % 4)

theorem admissionRefuse_tx {r : PwrRequester} (h : r.cls = 1) : admissionRefuse s r = txNeverFits s r := by
  simp only [admissionRefuse, refuseTo, h]
  rfl

theorem admissionGrant_refused {r : PwrRequester} {k : Nat} (he : s.pwr.evalAt ≠ s.now + 1) (hq : s.pwr.queue = [(r, k)])
    (h : s.fld F.PWR_BUDGET_MW_MW < s.fld F.PWR_BASE_MW_MW + classCost s r.cls) (hcls : r.cls = 1) :
    admissionGrant s = txNeverFits (admissionOpened s) r := by
  rw [admissionGrant_opened he, admissionRefusals_never hq h, admissionRefuse_tx hcls]
  refine admissionGrants_empty _ ?_
  simp only [txNeverFits, State.setFld_pwr, State.setFlag_pwr, modPwr, pwr_admissionOpened, hq]
  simp

/-! ### What a grant does (R593) -/

/-- What a grant may change of the registers. -/
def grantParts : List Part := globalParts [.TXC_STATUS, .RXC_STATUS, .CAL_FG_STATUS, .PIN_STATUS, .DMA_CH_STATUS]

theorem memFrame.setStore_kept (h : memFrame l s t) (id : StoreId) (st : Store) (hst : st.bytes = (t.store id).bytes) : memFrame l s (t.setStore id st) :=
  ⟨h.1.of_regs (State.setStore_regs ..), h.2.setStore id st hst⟩

theorem holdsFld_grantParts (f : Field) (i j : Nat) (hf : f.reg ∈ [Reg.TXC_STATUS, .RXC_STATUS, .CAL_FG_STATUS, .PIN_STATUS, .DMA_CH_STATUS])
    (hw : f.lo + f.width ≤ 32) : holdsFld grantParts f i j 0 0 :=
  .of_mem_global (List.mem_map_of_mem (f := fun r => ({ reg := r, idx := [] } : Part)) hf) hw ..

theorem txGranted_frame (s : State) (n : Fin 16) (k : Fin 4) : (txGranted s n k).pwr = s.pwr ∧ memFrame grantParts s (txGranted s n k) := by
  have hmod : memFrame grantParts s (modTx s n k fun c => { c with wakeAt := s.now + 5000 }) := (memFrame.refl _ s).modSl _ _ fun _ => rfl
  unfold txGranted
  split
  · exact ⟨State.setFld_pwr .., hmod.setFld _ _ (holdsFld_grantParts _ _ _ (by decide) (by decide))⟩
  · exact ⟨rfl, .refl _ s⟩

theorem rxGranted_frame (s : State) (n : Fin 16) (j : Fin 2) : (rxGranted s n j).pwr = s.pwr ∧ memFrame grantParts s (rxGranted s n j) := by
  have hmod : memFrame grantParts s (modRx s n j fun c => { c with wakeAt := s.now + 5000 }) := (memFrame.refl _ s).modSl _ _ fun _ => rfl
  unfold rxGranted
  split
  · exact ⟨State.setFld_pwr .., hmod.setFld _ _ (holdsFld_grantParts _ _ _ (by decide) (by decide))⟩
  · exact ⟨rfl, .refl _ s⟩

theorem fgGranted_frame (s : State) (n : Fin 16) : (fgGranted s n).pwr = s.pwr ∧ memFrame grantParts s (fgGranted s n) := by
  have hcal : memFrame grantParts s { s with cal := { s.cal with fgStart := s.cal.fgStart.set n.val s.now n.isLt } } :=
    (memFrame.refl _ s).of_eq rfl rfl rfl
  unfold fgGranted
  split
  · exact ⟨State.setFld_pwr .., hcal.setFld _ _ (holdsFld_grantParts _ _ _ (by decide) (by decide))⟩
  · exact ⟨rfl, .refl _ s⟩

theorem loadGranted_frame (s : State) (g : Nat) : (loadGranted s g).pwr = s.pwr ∧ memFrame grantParts s (loadGranted s g) :=
  ⟨(State.setFlag_pwr ..).trans (State.setFlag_pwr ..), ((memFrame.refl _ s).setFlag F.PIN_STATUS_LOAD_PEND false
    (holdsFld_grantParts _ _ _ (by decide) (by decide))).setFlag F.PIN_STATUS_LOAD_ACTIVE true (holdsFld_grantParts _ _ _ (by decide) (by decide))⟩

theorem dmaGranted_frame (s : State) (c : Fin 32) : (dmaGranted s c).pwr = s.pwr ∧ memFrame grantParts s (dmaGranted s c) := by
  unfold dmaGranted
  split
  · exact ⟨State.setFld_pwr .., (memFrame.refl _ s).setFld F.DMA_CH_STATUS_STATE DmaSt.active (holdsFld_grantParts _ _ _ (by decide) (by decide))⟩
  · exact ⟨rfl, .refl _ s⟩

theorem grantTo_shows (s : State) (r : PwrRequester) : (grantTo s r).pwr = s.pwr ∧ memFrame grantParts s (grantTo s r) := by
  unfold grantTo
  dsimp only
  split
  · exact txGranted_frame ..
  · exact rxGranted_frame ..
  · exact ⟨rfl, (memFrame.refl _ s).modSl _ _ fun _ => rfl⟩
  · exact fgGranted_frame ..
  · exact loadGranted_frame ..
  · exact dmaGranted_frame ..
  · exact ⟨rfl, (memFrame.refl _ s).setStore_kept _ _ rfl⟩

end
end Sys2Proof.Machine

namespace Sys2Proof.Machine
section
variable {s t u : State} {l : List Part}

/-- What the opening of a boundary and a grant change of the registers. -/
theorem costHeld_shows (s : State) (r : PwrRequester) (cost : Nat) :
    (costHeld (admissionOpened s) r cost).pwr.queue = s.pwr.queue.tail ∧
      (costHeld (admissionOpened s) r cost).pwr.granted = s.pwr.granted ++ [(r, cost)] ∧
      (costHeld (admissionOpened s) r cost).rd .PWR_GRANTS = satCount (s.rd .PWR_GRANTS) 1 ∧
      (costHeld (admissionOpened s) r cost).flag F.PWR_STATUS_BUDGET_WAIT = false ∧
      (costHeld (admissionOpened s) r cost).flag F.PWR_STATUS_RAMP_WAIT = false ∧
      memFrame [F.PWR_STATUS_BUDGET_WAIT.part [], F.PWR_STATUS_RAMP_WAIT.part [], { reg := .PWR_GRANTS, idx := [] }] s
        (costHeld (admissionOpened s) r cost) := by
  have hpwr : ∀ (t : State) (f : Power → Power) (x : Field), (modPwr t f).flag x = t.flag x := fun _ _ _ => rfl
  have hrd : ∀ (t : State) (f : Power → Power) (x : Reg), (modPwr t f).rd x = t.rd x := fun _ _ _ => rfl
  refine ⟨?_, ?_, ?_, ?_, ?_, ?_⟩
  · rw [costHeld, State.count_pwr]
    show (admissionOpened s).pwr.queue.tail = _
    rw [pwr_admissionOpened]
  · rw [costHeld, State.count_pwr]
    show (admissionOpened s).pwr.granted ++ [(r, cost)] = _
    rw [pwr_admissionOpened]
  · simp (disch := decide) [costHeld, admissionOpened, hrd]
  · simp (disch := decide) [costHeld, admissionOpened, hpwr]
  · simp (disch := decide) [costHeld, admissionOpened, hpwr]
  · exact (((memFrame_admissionOpened s).mono (by simp)).modPwr _).count _ (.of_mem (.tail _ (.tail _ (.head _))) ..)

theorem txGranted_pending {n : Fin 16} {k : Fin 4} (h : txPwr s n k = 1) :
    txPwr (txGranted s n k) n k = 2 ∧ (txCh (txGranted s n k) n k).wakeAt = s.now + 5000 ∧
      memFrame [F.TXC_STATUS_PWR.part [n, k]] s (txGranted s n k) := by
  have hmod : memFrame [F.TXC_STATUS_PWR.part [n.val, k.val]] s (modTx s n k fun c => { c with wakeAt := s.now + 5000 }) :=
    (memFrame.refl _ s).modSl _ _ fun _ => rfl
  have heq : txGranted s n k = (modTx s n k fun c => { c with wakeAt := s.now + 5000 }).setFld F.TXC_STATUS_PWR 2 n k := if_pos h
  rw [heq]
  refine ⟨(State.fld_setFld_same _ _ _ _ _ _ _ (by decide)).trans rfl, ?_, hmod.setFld _ _ (.of_mem_index2 (.head _))⟩
  show (txCh (modTx s n k fun c => { c with wakeAt := s.now + 5000 }) n k).wakeAt = _
  rw [txCh_modTx]

/-- The channel that a TX requester names. -/
theorem grantTo_tx (s : State) (n : Fin 16) (c : Fin 4) : grantTo s { cls := 1, index := 4 * n.val + c.val } = txGranted s n c := by
  have hn : (⟨(4 * n.val + c.val) / 4 % 16, by omega⟩ : Fin 16) = n := Fin.ext (by simp; omega)
  have hc : (⟨(4 * n.val + c.val) % 4, by omega⟩ : Fin 4) = c := Fin.ext (by simp)
  exact (congrArg (fun x => txGranted s x _) hn).trans (congrArg (txGranted s n) hc)

theorem txNeverFits_shows (s : State) (r : PwrRequester) :
    (txNeverFits s r).pwr = { s.pwr with queue := s.pwr.queue.filter fun q => q.1 ≠ r } ∧ (txNeverFits s r).flag F.PWR_STATUS_REFUSED = true ∧
      (txNeverFits s r).fld F.PWR_LAST_REFUSED_CLASS = 1 ∧
      (txNeverFits s r).fld F.PWR_LAST_REFUSED_INDEX = r.index % 2 ^ F.PWR_LAST_REFUSED_INDEX.width ∧
      (txNeverFits s r).fld F.TXC_STATUS_PWR (r.index / 4 % 16) (r.index % 4) = 0 ∧
      memFrame [F.PWR_STATUS_REFUSED.part [], { reg := .PWR_LAST_REFUSED, idx := [] }, F.TXC_STATUS_PWR.part [r.index / 4 % 16, r.index % 4]] s
        (txNeverFits s r) := by
  refine ⟨?_, ?_, ?_, ?_, ?_, ?_⟩
  · simp only [txNeverFits, State.setFld_pwr, State.setFlag_pwr]
    rfl
  · simp (disch := decide) [txNeverFits]
  · simp (disch := decide) [txNeverFits]
  · simp (disch := decide) only [txNeverFits, State.fld_setFld_apart]
    exact State.fld_setFld_same _ _ _ _ _ _ _ (by decide)
  · simp (disch := decide) [txNeverFits]
  · exact (((((memFrame.refl _ s).modPwr _).setFlag F.PWR_STATUS_REFUSED true (.of_mem (.head _) ..)).setFld F.PWR_LAST_REFUSED_CLASS 1
      (.of_mem_global (.tail _ (.head _)) (by decide) ..)).setFld F.PWR_LAST_REFUSED_INDEX r.index
      (.of_mem_global (f := F.PWR_LAST_REFUSED_INDEX) (.tail _ (.head _)) (by decide) ..)).setFld
      F.TXC_STATUS_PWR 0 (.of_mem_index2 (.tail _ (.tail _ (.head _))))

theorem pwrMeasBlock_shows (s : State) (mw : Nat) :
    (pwrMeasBlock s mw).fld F.PWR_MEAS_MW_MW = min mw (2 ^ 18 - 1) ∧
      (190000 < mw → (pwrMeasBlock s mw).flag F.PWR_STATUS_OVER = true ∧
        { pair := { src := Src.PWR_OVER, scope := Scope.device, index := 0 }, injected := false, dry := false } ∈ (pwrMeasBlock s mw).flt.raised) ∧
      (mw ≤ 190000 → (pwrMeasBlock s mw).flag F.PWR_STATUS_OVER = s.flag F.PWR_STATUS_OVER ∧ (pwrMeasBlock s mw).flt = s.flt) ∧
      memFrame [F.PWR_MEAS_MW_MW.part [], F.PWR_STATUS_OVER.part []] s (pwrMeasBlock s mw) := by
  have hfit : min mw (2 ^ 18 - 1) < 2 ^ F.PWR_MEAS_MW_MW.width := Nat.lt_of_le_of_lt (Nat.min_le_right _ _) (by decide)
  have hmw : memFrame [F.PWR_MEAS_MW_MW.part [], F.PWR_STATUS_OVER.part []] s (s.setFld F.PWR_MEAS_MW_MW (min mw (2 ^ 18 - 1))) :=
    (memFrame.refl _ s).setFld _ _ (.of_mem (.head _) ..)
  unfold pwrMeasBlock
  dsimp only
  split
  · next hover =>
    refine ⟨?_, fun _ => ⟨?_, mem_raised_raise _ _ _ _ (by decide)⟩, fun h => absurd h (by omega), ((hmw.setFlag F.PWR_STATUS_OVER true
      (.of_mem (.tail _ (.head _)) ..)).raise _ _ _)⟩
    · rw [State.fld_raise, State.fld_setFlag_apart _ _ _ _ _ _ _ _ _ _ _ _ (by decide), State.fld_setFld_same _ _ _ _ _ _ _ (by decide),
        Nat.mod_eq_of_lt hfit]
    · rw [State.flag_raise]
      exact State.flag_setFlag_same _ _ _ _ _ _ _ (by decide) rfl
  · next hover =>
    refine ⟨?_, fun h => absurd h hover, fun _ => ⟨by simp (disch := decide), State.setFld_flt ..⟩, hmw⟩
    rw [State.fld_setFld_same _ _ _ _ _ _ _ (by decide), Nat.mod_eq_of_lt hfit]

theorem budgetWrite_within {v : Nat} (h : v % 2 ^ 18 ≤ 190000) : budgetWrite s v = s.setFld F.PWR_BUDGET_MW_MW (v % 2 ^ 18) := if_neg (Nat.not_lt.mpr h)

theorem budgetWrite_clamped {v : Nat} (h : 190000 < v % 2 ^ 18) :
    budgetWrite s v = (s.setFld F.PWR_BUDGET_MW_MW 190000).setFlag F.PWR_STATUS_CLAMP true := if_pos h

theorem pinEnergy_fits (s : State) (g : Fin 512) (nj : Nat) :
    (s.setFld F.NRG_PIN_ENERGY_NJ (min nj 65535) g).fld F.NRG_PIN_ENERGY_NJ g = min nj 65535 := by
  rw [State.fld_setFld_same _ _ _ _ _ _ _ (by decide)]
  exact Nat.mod_eq_of_lt (Nat.lt_of_le_of_lt (Nat.min_le_right _ _) (by decide))

/-- A pin's governor that trips shows the energy, then its trip. -/
theorem pinEnergyTrip_shows (s : State) (g : Fin 512) (nj : Nat) (i e : Bool) :
    let t := pinTrip (s.setFld F.NRG_PIN_ENERGY_NJ (min nj 65535) g) g i e
    t.flag F.NRG_PIN_STATUS_TRIP g = true ∧ t.flag F.NRG_PIN_STATUS_CAUSE_I g = i ∧ t.flag F.NRG_PIN_STATUS_CAUSE_E g = e ∧
      t.fld F.NRG_PIN_ENERGY_NJ g = min nj 65535 ∧ t.flag F.PIN_STATUS_PMU_CONN (pinSlice g) (g.val % 32) = false ∧
      { pair := { src := Src.NRG_TRIP, scope := g.val / 32, index := 2 + 4 * g.val }, injected := false, dry := false } ∈ t.flt.raised ∧
      memFrame [{ reg := .NRG_PIN_STATUS, idx := [g] }, { reg := .NRG_PIN_ENERGY, idx := [g] }, F.PIN_STATUS_PMU_CONN.part [g.val / 32, g.val % 32]] s t := by
  obtain ⟨htrip, hi, he, henergy, hconn, hraised, hframe⟩ := pinTrip_shows (s.setFld F.NRG_PIN_ENERGY_NJ (min nj 65535) g) g i e
  exact ⟨htrip, hi, he, henergy.trans (pinEnergy_fits s g nj), hconn, hraised, ((memFrame.refl _ s).setFld F.NRG_PIN_ENERGY_NJ _
    (.of_mem_reg (.tail _ (.head _)) (by decide))).trans (hframe.mono (by simp))⟩

end

/-- Settles O49: admission, the budget, the mean and the governors of lines and pins. -/
theorem admissionAndGovernors : Obligations.AdmissionAndGovernors := by
  unfold Obligations.AdmissionAndGovernors
  refine ⟨fun s r k he hq hk hb hr => ⟨_, congrArg Host.Outcome.next (admissionGrant_granted he hq hk hb hr), ?_⟩,
    fun s n c k he hq hk hb hr htx => ⟨_, congrArg Host.Outcome.next ((admissionGrant_granted he hq hk hb hr).trans (grantTo_tx _ n c)), ?_⟩,
    fun s r k he hq hk hfits hno => ⟨_, congrArg Host.Outcome.next (admissionGrant_waits he hq hk hfits hno), ?_⟩,
    fun s r k he hq h hcls => ⟨_, congrArg Host.Outcome.next (admissionGrant_refused he hq h hcls), ?_⟩,
    fun s v h => ⟨_, congrArg Host.Outcome.next (budgetWrite_within h), ?_⟩,
    fun s v h => ⟨_, congrArg Host.Outcome.next (budgetWrite_clamped h), ?_⟩,
    fun s mw => ⟨_, rfl, pwrMeasBlock_shows s mw⟩,
    fun s x hm h ht => ⟨_, congrArg Host.Outcome.next (txGovTrip_over hm h ht), txTrip_shows s x _ _⟩,
    fun s x h => congrArg Host.Outcome.next (txGovTrip_below h),
    fun s x hm h ht => ⟨_, congrArg Host.Outcome.next (ffGovTrip_over hm h ht), ffTrip_shows s x⟩,
    fun s x h => congrArg Host.Outcome.next (ffGovTrip_below h),
    fun s g ua nj hm hg h ht => ?_,
    fun s g ua nj hm hg h => ?_,
    fun s x ht h => ⟨_, congrArg Host.Outcome.next (govRearm_tx_fallen ht h), rearmed_tx_shows s x⟩,
    fun s x ht h => ⟨_, congrArg Host.Outcome.next (govRearm_tx_refused ht h), ?_⟩,
    fun s x ht h => ⟨_, congrArg Host.Outcome.next (govRearm_ff_fallen ht h), rearmed_ff_shows s x⟩,
    fun s x ht h => ⟨_, congrArg Host.Outcome.next (govRearm_ff_refused ht h), ?_⟩,
    fun s g => ⟨s.setFlag F.NRG_PIN_STATUS_TRIP false g, rfl, by simp (disch := decide), (memFrame.refl _ s).setFlag _ _ (.of_mem_index (.head _))⟩⟩
  · obtain ⟨hqueue, hgranted, hcount, hbud, hramp, hframe⟩ := costHeld_shows s r (classCost s r.cls)
    obtain ⟨hpwr, hgrant⟩ := grantTo_shows (costHeld (admissionOpened s) r (classCost s r.cls)) r
    refine ⟨?_, ?_, ?_, ?_, ?_, hframe.2.trans hgrant.2⟩
    · rw [hpwr, hqueue, hq]; rfl
    · rw [hpwr, hgranted]
    · rw [hgrant.1.rd_eq (by decide), hcount]
    · rw [hgrant.1.flag_of_reg (by decide), hbud]
    · rw [hgrant.1.flag_of_reg (by decide), hramp]
  · obtain ⟨-, -, -, -, -, hframe⟩ := costHeld_shows s { cls := 1, index := 4 * n.val + c.val } (classCost s 1)
    have htx' : txPwr (costHeld (admissionOpened s) { cls := 1, index := 4 * n.val + c.val } (classCost s 1)) n c = 1 :=
      (hframe.1.fld_of_reg (by decide) ..).trans htx
    obtain ⟨hp, hw, hgrant⟩ := txGranted_pending htx'
    exact ⟨hp, hw, (hframe.mono (by simp)).trans (hgrant.mono (by simp))⟩
  · refine ⟨?_, ?_, by simp (disch := decide), by simp (disch := decide), ?_, ?_⟩
    · rw [State.count_pwr, State.setFlag_pwr, State.setFlag_pwr, pwr_admissionOpened]
    · rw [State.count_pwr, State.setFlag_pwr, State.setFlag_pwr, pwr_admissionOpened]
    · rw [State.rd_count_same]
      simp (disch := decide) only [State.rd_setFlag_apart]
      rw [(memFrame_admissionOpened s).1.rd_eq (by decide)]
    · exact (((((memFrame_admissionOpened s).mono (by simp)).setFlag _ _ (.of_mem (.head _) ..)).setFlag _ _ (.of_mem (.tail _ (.head _)) ..)).count _
        (.of_mem (.tail _ (.tail _ (.head _))) ..))
  · obtain ⟨hpwr, href, hclass, hindex, htx, hframe⟩ := txNeverFits_shows (admissionOpened s) r
    refine ⟨?_, ?_, href, hclass, hindex, htx, ((memFrame_admissionOpened s).mono (by simp)).trans (hframe.mono (by simp))⟩
    · rw [hpwr, pwr_admissionOpened, hq]
      simp
    · rw [hpwr, pwr_admissionOpened]
  · exact ⟨(State.fld_setFld_same _ _ _ _ _ _ _ (by decide)).trans (Nat.mod_mod _ _), (memFrame.refl _ s).setFld _ _ (.of_mem (.head _) ..)⟩
  · exact ⟨by simp (disch := decide), by simp (disch := decide),
      ((memFrame.refl _ s).setFld _ _ (.of_mem (.head _) ..)).setFlag _ _ (.of_mem (.tail _ (.head _)) ..)⟩
  · have hover : ((pinOverI s g ua || pinOverE s g nj) && !s.flag F.NRG_PIN_STATUS_TRIP g) = true := by
      rw [ht, pinOverI, pinOverE]
      simpa using h
    exact ⟨_, congrArg Host.Outcome.next ((pinGovTrip_guarded ua nj hm hg).trans (if_pos hover)), pinEnergyTrip_shows s g nj _ _⟩
  · have hover : ¬((pinOverI s g ua || pinOverE s g nj) && !s.flag F.NRG_PIN_STATUS_TRIP g) = true := by
      obtain ⟨hi, he⟩ := not_or.mp h
      rw [pinOverI, pinOverE, decide_eq_false hi, decide_eq_false he]
      simp
    exact ⟨_, congrArg Host.Outcome.next ((pinGovTrip_guarded ua nj hm hg).trans (if_neg hover)), pinEnergy_fits s g nj,
      (memFrame.refl _ s).setFld F.NRG_PIN_ENERGY_NJ _ (.of_mem_reg (.head _) (by decide))⟩
  · exact ⟨by simpa (disch := decide) using ht, by simp (disch := decide), (memFrame.refl _ s).setFlag _ _ (.of_mem_index (.head _))⟩
  · exact ⟨by simpa (disch := decide) using ht, by simp (disch := decide), (memFrame.refl _ s).setFlag _ _ (.of_mem_index (.head _))⟩

end Sys2Proof.Machine

namespace Sys2Proof.Machine

/-! ## Self-tests and the recovery from the safe state (R647 to R655) -/

section
variable {s t u : State} {l : List Part}

theorem memFrame.modFlt (h : memFrame l s t) (f : Collector → Collector) : memFrame l s (modFlt t f) := h.of_eq rfl rfl rfl

theorem memFrame.modImg (h : memFrame l s t) (f : ImageUnit → ImageUnit) : memFrame l s (modImg t f) := h.of_eq rfl rfl rfl

/-! ### The start of a test (R649, R650) -/

theorem markOldest_nil (h : s.flt.tests = []) : markOldest s = modFlt s fun c => { c with tests := [] } := by
  simp only [markOldest, h]
  rfl

/-- The queue of tests with its one test replaced: nothing waits behind it. -/
theorem markOldest_started {t0 : SelfTest} (h : s.flt.tests = [t0]) (ht : t0.started.isSome = true) :
    markOldest s = modFlt s fun c => { c with tests := [t0] } := by
  have hnone : ¬(t0.started.isNone = true ∧ t0.oldest.isNone = true ∧
      (([t0].take 0).all fun t => t.started.isSome || testPlace t.pair.scope != testPlace t0.pair.scope) = true) := by
    rw [Option.isNone_eq_false_iff.mpr ht]
    simp
  simp only [markOldest, h, List.zipIdx_cons, List.zipIdx_nil, List.map_cons, List.map_nil, if_neg hnone]

theorem placeBusy_waiting {t0 : SelfTest} (h : s.flt.tests = [t0]) (ht : t0.started = none) (place : Nat) : placeBusy s place = false := by
  simp only [placeBusy, h, List.any_cons, List.any_nil, ht]
  rfl

theorem selfTestStart_ready {t0 : SelfTest} (hq : s.flt.tests = [t0]) (ho : t0.oldest.isSome = true) (hs : t0.started = none)
    (hshed : s.flag F.MGT_STATUS_SHED = false) (hready : testReady s t0 = true) :
    selfTestStart s = modFlt s fun c => { c with tests := [{ t0 with started := some s.now }] } := by
  have hfind : s.flt.tests.findIdx? (fun t => t.oldest.isSome && t.started.isNone && !placeBusy s (testPlace t.pair.scope) && testReady s t) = some 0 := by
    rw [hq, List.findIdx?_cons]
    simp [ho, hs, hready, placeBusy_waiting hq hs]
  have hlist : listMod s.flt.tests 0 (fun t => { t with started := some s.now }) = [{ t0 with started := some s.now }] := by rw [hq]; rfl
  unfold selfTestStart
  rw [hshed]
  simp only [Bool.false_eq_true, if_false, hfind]
  rw [markOldest_started (t0 := { t0 with started := some s.now }) hlist rfl]
  rfl

theorem selfTestStart_idle (h : s.flag F.MGT_STATUS_SHED = true ∨ s.flt.tests = []) : selfTestStart s = s := by
  unfold selfTestStart
  split
  · rfl
  · next hs => rw [h.resolve_left hs]; rfl

/-! ### The end of a test (R647, R650, R658) -/

/-- The log record of a queue's one test has its result, and the test has left. -/
def testLogged (s : State) (t0 : SelfTest) (result : Nat) : State := logBits (modFlt s fun c => { c with tests := [] }) t0.log 21 3 result

theorem memFrame.faultEvent (h : memFrame l s t) (p : FaultPair) (level : Nat) (esc : Bool) (result log : Nat) (hl : ∀ x ∈ eventParts, x ∈ l) :
    memFrame l s (faultEvent t p level esc result log) := .ite h (h.event _ _ _ _ hl)

@[simp] theorem faultEvent_flt (s : State) (p : FaultPair) (level : Nat) (esc : Bool) (result log : Nat) :
    (faultEvent s p level esc result log).flt = s.flt := by
  unfold faultEvent
  split
  · rfl
  · exact State.event_flt ..

theorem testLogged_of_inLog {t0 : SelfTest} (h : t0.log < 256) (result : Nat) :
    testLogged s t0 result = (modFlt s fun c => { c with tests := [] }).wr .FLT_LOG (BitVec.ofNat 32 (putBits (logWord s t0.log 0) 21 3 result)) t0.log 0 :=
  if_pos h

theorem fld_testLogged {t0 : SelfTest} (h : t0.log < 256) (result : Nat) {f : Field} (hf : f.reg ≠ .FLT_LOG) (i j k m : Nat) :
    (testLogged s t0 result).fld f i j k m = s.fld f i j k m := by
  rw [testLogged_of_inLog h, State.fld_wr_apart _ _ _ _ _ _ _ _ _ _ _ _ hf]
  rfl

theorem flag_testLogged {t0 : SelfTest} (h : t0.log < 256) (result : Nat) {f : Field} (hf : f.reg ≠ .FLT_LOG) (i j k m : Nat) :
    (testLogged s t0 result).flag f i j k m = s.flag f i j k m := congrArg (· == 1) (fld_testLogged h result hf i j k m)

/-- What a test that ends leaves: its result in the log record, and the event of the record. -/
theorem testRecorded_shows {t0 : SelfTest} (h : t0.log < 256) (esc : Bool) {result : Nat} (hr : result < 8) :
    let t := faultEvent (testLogged s t0 result) t0.pair t0.level esc result t0.log
    t.flt = { s.flt with tests := [] } ∧ bitsAt (t.rd .FLT_LOG t0.log).toNat 21 3 = result ∧
      memFrame ([{ reg := .FLT_LOG, idx := [t0.log, 0] }] ++ eventParts) s t := by
  have hlogged : memFrame [{ reg := .FLT_LOG, idx := [t0.log, 0] }] s (testLogged s t0 result) := by
    rw [testLogged_of_inLog h]
    exact ((memFrame.refl _ s).modFlt _).wr _ _ (.of_mem_index2 (.head _))
  refine ⟨?_, ?_, (hlogged.mono (by simp)).faultEvent _ _ _ _ _ fun _ hx => List.mem_cons_of_mem _ hx⟩
  · rw [faultEvent_flt, testLogged_of_inLog h]
    rfl
  · have hframe : memFrame eventParts (testLogged s t0 result) (faultEvent (testLogged s t0 result) t0.pair t0.level esc result t0.log) :=
      (memFrame.refl _ _).faultEvent _ _ _ _ _ fun _ h => h
    rw [hframe.1.rd_eq (by decide), testLogged_of_inLog h, State.rd_wr_same, BitVec.toNat_ofNat,
      Nat.mod_eq_of_lt (putBits_lt (logWord s t0.log 0) 21 3 _ (BitVec.isLt _) (by decide)), bitsAt_putBits_same]
    exact Nat.mod_eq_of_lt hr

theorem testLeaves {t0 : SelfTest} (h : s.flt.tests = [t0]) :
    markOldest (modFlt s fun c => { c with tests := c.tests.erase t0 }) = modFlt s fun c => { c with tests := [] } := by
  have hnil : (modFlt s fun c => { c with tests := c.tests.erase t0 }).flt.tests = [] := by
    show s.flt.tests.erase t0 = []
    rw [h, List.erase_cons_head]
  rw [markOldest_nil hnil]
  rfl

theorem testEnds_eq {t0 : SelfTest} (h : s.flt.tests = [t0]) (result : Nat) :
    testEnds s t0 result = recordResult (modFlt s fun c => { c with tests := [] }) t0.log t0.pair t0.level (logEsc s t0.log) t0.episode result := by
  rw [testEnds, testLeaves h]
  rfl

/-- A result that passes is recorded, where the class is not acknowledged by itself. -/
theorem testEnds_passed {t0 : SelfTest} (h : s.flt.tests = [t0]) (hlog : t0.log < 256)
    (hack : s.flag F.FLT_CLASS_CFG_AUTO_ACK (srcClass t0.pair.src) = false) :
    testEnds s t0 2 = faultEvent (testLogged s t0 2) t0.pair t0.level (logEsc s t0.log) 2 t0.log := by
  have hkeep : memFrame eventParts (testLogged s t0 2) (faultEvent (testLogged s t0 2) t0.pair t0.level (logEsc s t0.log) 2 t0.log) :=
    (memFrame.refl _ _).faultEvent _ _ _ _ _ fun _ h => h
  have hno : (faultEvent (testLogged s t0 2) t0.pair t0.level (logEsc s t0.log) 2 t0.log).flag F.FLT_CLASS_CFG_AUTO_ACK (srcClass t0.pair.src) = false := by
    rw [hkeep.1.flag_of_reg (by decide), flag_testLogged hlog _ (by decide), hack]
  rw [testEnds_eq h, recordResult]
  refine (if_neg (by decide)).trans (if_neg ?_)
  exact fun hp => absurd (hno.symm.trans hp.2.1) (by decide)

/-- A result that is not known counts as persistent; in a device that is NORMAL it changes nothing where the level stands that high. -/
theorem testEnds_notRun {t0 : SelfTest} (h : s.flt.tests = [t0]) (hlog : t0.log < 256) (hlevel : s.fld F.FLT_SRC_CFG_PLEVEL t0.pair.src ≤ t0.level)
    (hst : fltState s = 0) (hep : t0.episode = false) :
    testEnds s t0 5 = faultEvent (testLogged s t0 5) t0.pair t0.level (logEsc s t0.log) 5 t0.log := by
  have hno : decide (t0.level < (testLogged s t0 5).fld F.FLT_SRC_CFG_PLEVEL t0.pair.src) = false := by
    rw [fld_testLogged hlog _ (by decide)]
    exact decide_eq_false (Nat.not_lt.mpr hlevel)
  have hnormal : fltState (testLogged s t0 5) = 0 := by rw [fltState, fld_testLogged hlog _ (by decide)]; exact hst
  rw [testLogged] at hno hnormal
  rw [testEnds_eq h, recordResult]
  simp only [show countsPersistent 5 = true from rfl, if_true, hno, hep, hnormal, Bool.false_eq_true, if_false, false_and, ne_eq, not_true_eq_false,
    testLogged]

theorem selfTestResult_passed {t0 : SelfTest} {k place : Nat} (hq : s.flt.tests = [t0]) (hs : t0.started = some k) (hp : testPlace t0.pair.scope = place)
    (ht : k + (srcTest t0.pair.src).beats ≤ s.now) (hr : srcTest t0.pair.src ≠ .refetch) (hm : srcTest t0.pair.src ≠ .march) :
    selfTestResult s place false = testEnds s t0 2 := by
  have hfind : s.flt.tests.find? (fun t => t.started.isSome && testPlace t.pair.scope == place) = some t0 := by
    rw [hq]
    exact List.find?_cons_of_pos (by simp [hs, hp])
  have htime : ¬s.now < t0.started.getD 0 + (srcTest t0.pair.src).beats := by
    rw [hs]
    exact Nat.not_lt.mpr ht
  unfold selfTestResult
  rw [hfind]
  refine (if_neg htime).trans ?_
  simp [hm]

theorem selfTestTimeout_over {t0 : SelfTest} {k place : Nat} (hq : s.flt.tests = [t0]) (ho : t0.oldest = some k) (hs : t0.started = none)
    (hp : testPlace t0.pair.scope = place) (ht : k + max 1 (s.fld F.FLT_ST_WAIT_MS) * 250000 ≤ s.now) : selfTestTimeout s place = testEnds s t0 5 := by
  have hfind : s.flt.tests.find? (fun t => t.oldest.isSome && t.started.isNone && testPlace t.pair.scope == place) = some t0 := by
    rw [hq]
    exact List.find?_cons_of_pos (by simp [ho, hs, hp])
  unfold selfTestTimeout
  rw [hfind]
  exact if_pos (by rw [ho]; exact ht)

/-! ### Leaving the safe state (R654, R655) -/

/-- The state in which RECOVERING begins. -/
def recovering (s : State) : State :=
  modImg (modFlt (s.setFld F.FLT_STATUS_STATE 2) fun c => { c with recoverAsked := false }) fun i => { i with faulty := false }

theorem recoveryBegin_leads (h : chnFollows s = false) : recoveryBegin s = recovering s := by
  have hno : chnFollows (recovering s) = false := by
    rw [← h]
    exact congrArg (fun v => decide (2 ≤ v)) (State.fld_setFld_apart _ _ _ _ _ _ _ _ _ _ _ _ (by decide))
  unfold recoveryBegin
  exact if_neg fun hp => absurd (hno.symm.trans hp.1) (by decide)

theorem recovering_shows (s : State) : fltState (recovering s) = 2 ∧ (recovering s).flt.recoverAsked = false ∧ (recovering s).img.faulty = false ∧
    memFrame [F.FLT_STATUS_STATE.part []] s (recovering s) :=
  ⟨State.fld_setFld_same _ _ _ _ _ _ _ (by decide), rfl, rfl, (((memFrame.refl _ s).setFld _ _ (.of_mem (.head _) ..)).modFlt _).modImg _⟩

theorem recoveryStart_held (hst : fltState s = 1) (ht : episodeTested s = true) (hd : s.flt.devicePersistent = true) :
    recoveryStart s = s.setFld F.FLT_STATUS_STATE 3 := by
  simp [recoveryStart, hst, ht, hd]

theorem recoveryStart_recovers (hst : fltState s = 1) (ht : episodeTested s = true) (hd : s.flt.devicePersistent = false)
    (ha : s.flag F.FLT_CFG_AUTO_RECOVER = true ∨ s.flt.recoverAsked = true) : recoveryStart s = recoveryBegin s := by
  simp [recoveryStart, hst, ht, hd, ha]

theorem recoveryStart_waits (h : fltState s ≠ 1 ∨ episodeTested s = false) : recoveryStart s = s := by
  refine if_pos ?_
  simpa using h

theorem recover_kept (hst : fltState s = 1) : recover s = modFlt s fun c => { c with recoverAsked := true } := if_pos hst

theorem recover_held (hst : fltState s = 3) (ht : episodeTested s = true) (hd : s.flt.devicePersistent = false) :
    recover s = recoveryBegin (s.setFld F.FLT_STATUS_RESTARTS 0) := by
  simp [recover, hst, ht, hd]

theorem recover_refused (hst : fltState s = 3) (h : episodeTested s = false ∨ s.flt.devicePersistent = true) :
    recover s = s.setFlag F.FLT_STATUS_RECOVER_REFUSED true := by
  have hno : ¬(episodeTested s = true ∧ (!s.flt.devicePersistent) = true) := by
    rcases h with h | h <;> simp [h]
  simp only [recover, hst, if_neg hno, Nat.reduceEqDiff, if_true, if_false]

end

/-- Settles O53: the start and the end of a test, and the ways out of the safe state. -/
theorem selfTestsAndRecovery : Obligations.SelfTestsAndRecovery := by
  unfold Obligations.SelfTestsAndRecovery
  refine ⟨fun s t0 hq ho hs hshed hready => ⟨_, congrArg Host.Outcome.next (selfTestStart_ready hq ho hs hshed hready), rfl, (memFrame.refl _ s).modFlt _⟩,
    fun s h => congrArg Host.Outcome.next (selfTestStart_idle h),
    fun s t0 k place hq hack hlog hs hp ht hr hm =>
      ⟨_, congrArg Host.Outcome.next ((selfTestResult_passed hq hs hp ht hr hm).trans (testEnds_passed hq hlog hack)), ?_⟩,
    fun s t0 k place hq hack hlog ho hs hp ht hlevel hst hep =>
      ⟨_, congrArg Host.Outcome.next ((selfTestTimeout_over hq ho hs hp ht).trans (testEnds_notRun hq hlog hlevel hst hep)), ?_⟩,
    fun s hst ht hd => ⟨_, congrArg Host.Outcome.next (recoveryStart_held hst ht hd), State.fld_setFld_same _ _ _ _ _ _ _ (by decide),
      State.setFld_flt .., (memFrame.refl _ s).setFld _ _ (.of_mem (.head _) ..)⟩,
    fun s hst ht hd ha hc =>
      ⟨_, congrArg Host.Outcome.next ((recoveryStart_recovers hst ht hd ha).trans (recoveryBegin_leads hc)), recovering_shows s⟩,
    fun s h => congrArg Host.Outcome.next (recoveryStart_waits h),
    fun s hst => ⟨_, congrArg Host.Outcome.next (recover_kept hst), rfl, (memFrame.refl _ s).modFlt _⟩,
    fun s hst ht hd hc => ?_,
    fun s hst h => ⟨_, congrArg Host.Outcome.next (recover_refused hst h), (State.fld_setFlag_apart _ _ _ _ _ _ _ _ _ _ _ _ (by decide)).trans hst,
      by simp (disch := decide), State.setFlag_flt .., (memFrame.refl _ s).setFlag _ _ (.of_mem (.head _) ..)⟩⟩
  · obtain ⟨hflt, hbits, hframe⟩ := testRecorded_shows (s := s) hlog (logEsc s t0.log) (result := 2) (by decide)
    exact ⟨congrArg Collector.tests hflt, hbits, (congrArg Collector.inFault hflt).trans rfl, hframe⟩
  · obtain ⟨hflt, hbits, hframe⟩ := testRecorded_shows (s := s) hlog (logEsc s t0.log) (result := 5) (by decide)
    exact ⟨congrArg Collector.tests hflt, hbits, hframe⟩
  · have hc' : chnFollows (s.setFld F.FLT_STATUS_RESTARTS 0) = false :=
      (congrArg (fun v => decide (2 ≤ v)) (State.fld_setFld_apart _ _ _ _ _ _ _ _ _ _ _ _ (by decide))).trans hc
    obtain ⟨hstate, -, -, hframe⟩ := recovering_shows (s.setFld F.FLT_STATUS_RESTARTS 0)
    refine ⟨_, congrArg Host.Outcome.next ((recover_held hst ht hd).trans (recoveryBegin_leads hc')), hstate, ?_,
      ((memFrame.refl _ s).setFld _ _ (.of_mem (.tail _ (.head _)) ..)).trans (hframe.mono (by simp))⟩
    exact (State.fld_setFld_apart (s.setFld F.FLT_STATUS_RESTARTS 0) F.FLT_STATUS_STATE _ _ _ _ _ _ _ _ _ _ (by decide)).trans
      (State.fld_setFld_same _ _ _ _ _ _ _ (by decide))

end Sys2Proof.Machine

namespace Sys2Proof.Machine

/-! ## The correction sets and their switches (R610 to R623) -/

section
variable {s t u : State} {l : List Part} {i j : Fin 369}

theorem memFrame.modCal (h : memFrame l s t) (i : Fin 369) (f : CalConv → CalConv) : memFrame l s (modCal t i f) := h.of_eq rfl rfl rfl

@[simp] theorem calConv_modCal (s : State) (i : Fin 369) (f : CalConv → CalConv) : calConv (modCal s i f) i = f (calConv s i) := by
  simp only [calConv, modCal, SMap.get_put, if_true]

@[simp] theorem calConv_setFld (s : State) (i : Fin 369) (f : Field) (v a b c d : Nat) : calConv (s.setFld f v a b c d) i = calConv s i := by
  rw [calConv, State.setFld_cal, calConv]

@[simp] theorem calConv_setFlag (s : State) (i : Fin 369) (f : Field) (v : Bool) (a b c d : Nat) :
    calConv (s.setFlag f v a b c d) i = calConv s i := calConv_setFld ..

@[simp] theorem calConv_wr (s : State) (i : Fin 369) (r : Reg) (v : Word) (a b c d : Nat) : calConv (s.wr r v a b c d) i = calConv s i := rfl

@[simp] theorem rd_modCal (s : State) (i : Fin 369) (f : CalConv → CalConv) (r : Reg) (a b c d : Nat) : (modCal s i f).rd r a b c d = s.rd r a b c d := rfl

@[simp] theorem fld_modCal (s : State) (i : Fin 369) (f : CalConv → CalConv) (x : Field) (a b c d : Nat) :
    (modCal s i f).fld x a b c d = s.fld x a b c d := rfl

@[simp] theorem flag_modCal (s : State) (i : Fin 369) (f : CalConv → CalConv) (x : Field) (a b c d : Nat) :
    (modCal s i f).flag x a b c d = s.flag x a b c d := rfl

/-! ### Blocks (R613) and dither steps (R614, R616) -/

/-- A block displaces the one before (R613, R624). -/
def blockMissed (s : State) (i : Fin 369) (taken : Bool) : Bool := (calConv s i).block && (!taken || calShed s)

theorem blockDone_shows (s : State) (i : Fin 369) (taken : Bool) :
    calConv (blockDone s i taken) i = { calConv s i with block := true } ∧
      (blockDone s i taken).flag F.CAL_STATUS_BLOCK_MISS = (s.flag F.CAL_STATUS_BLOCK_MISS || blockMissed s i taken) ∧
      memFrame [F.CAL_STATUS_BLOCK_MISS.part []] s (blockDone s i taken) := by
  have heq : blockDone s i taken = modCal (if blockMissed s i taken then s.setFlag F.CAL_STATUS_BLOCK_MISS true else s) i fun c => { c with block := true } := rfl
  rw [heq, calConv_modCal, flag_modCal]
  refine ⟨?_, ?_, (memFrame.ite ((memFrame.refl _ s).setFlag _ _ (.of_mem (.head _) ..)) (.refl _ s)).modCal _ _⟩
  · split <;> simp
  · split
    · next h => simp (disch := decide) [h]
    · next h => simp [h]

theorem calBlockComplete_passed (taken : Bool) (hl : (convKind i).live = true) (ha : convActive s i = true) :
    execCalBlockComplete i true taken s = .next (blockDone (s.setFlag F.CAL_CONV_STATUS_DITHER_NEED false i) i taken) := by
  simp [execCalBlockComplete, hl, ha]

theorem calBlockComplete_failed (taken : Bool) (hl : (convKind i).live = true) (ha : convActive s i = true) (hc : convKind i ≠ .central) :
    execCalBlockComplete i false taken s = .next (s.setFlag F.CAL_CONV_STATUS_DITHER_NEED true i) := by
  simp [execCalBlockComplete, hl, ha, hc]

theorem calDitherStep_starts {first : Nat} {stop : Option Nat} (hgap : convGap s i = some (first, stop)) (hen : s.flag F.CAL_CFG_ENABLE = true)
    (hshed : calShed s = false) (hwant : ditherWanted s i = true) (hpow : convPowered s i = true) (hstep : (calConv s i).step = none)
    (hfirst : first + 2 ≤ s.now) (hfits : (stop.all fun e => decide (s.now + (convKind i).stepBeats ≤ e)) = true) (hquiet : convQuiet s i = true) :
    execCalDitherStep i s = .next ((modCal s i fun c => { c with step := some s.now }).setFlag F.CAL_CONV_STATUS_TESTING true i) := by
  unfold execCalDitherStep
  rw [hgap]
  refine congrArg Host.Outcome.next (if_pos ?_)
  simp only [hen, hshed, hwant, hpow, hstep, hquiet, Option.isNone_none, decide_eq_true hfirst, Bool.not_false, Bool.and_self, Bool.true_and, Bool.and_true]
  cases stop with
  | none => rfl
  | some e => exact hfits

/-- What a whole step adds to its block (R614). -/
def stepHits (i : Fin 369) (hits : Nat) : Nat := if convKind i = .central ∨ (14 ≤ i.val % 23 ∧ i.val % 23 ≤ 21) then hits else 1

theorem convKind_tdc_iff : (∃ c, convKind i = .tdc c) ↔ 14 ≤ i.val % 23 ∧ i.val % 23 ≤ 21 := by
  unfold convKind
  split
  · next h => rw [h]; simp
  · dsimp only
    split_ifs <;> simp <;> omega

theorem stepHits_tdc {c : Fin 8} (h : convKind i = .tdc c) (hits : Nat) : stepHits i hits = hits := if_pos (.inr (convKind_tdc_iff.mp ⟨c, h⟩))

theorem stepHits_central (h : convKind i = .central) (hits : Nat) : stepHits i hits = hits := if_pos (.inl h)

theorem stepHits_one (ht : ∀ c, convKind i ≠ .tdc c) (hc : convKind i ≠ .central) (hits : Nat) : stepHits i hits = 1 :=
  if_neg fun h => h.elim hc fun h => (convKind_tdc_iff.mpr h).elim ht

theorem ditherStop_shows (s : State) (i : Fin 369) :
    calConv (ditherStop s i) i = { calConv s i with step := none } ∧ (ditherStop s i).flag F.CAL_CONV_STATUS_TESTING i = false ∧
      memFrame [F.CAL_CONV_STATUS_TESTING.part [i]] s (ditherStop s i) :=
  ⟨by rw [ditherStop, calConv_setFlag, calConv_modCal], State.flag_setFlag_same _ _ _ _ _ _ _ (by decide) rfl,
    ((memFrame.refl _ s).modCal _ _).setFlag _ _ (.of_mem_index (.head _))⟩

/-- A whole step is over. -/
def stepCounted (s : State) (i : Fin 369) (steps : Nat) : State :=
  if (convKind i).blockSteps ≤ steps then blockDone (modCal (ditherStop s i) i fun c => { c with steps := 0 }) i (!calShed (ditherStop s i))
  else modCal (ditherStop s i) i fun c => { c with steps := steps }

theorem calDitherStepEnd_whole {hits k : Nat} (hstep : (calConv s i).step = some k) (hk : k + (convKind i).stepBeats ≤ s.now) :
    execCalDitherStepEnd i hits s = .next (stepCounted s i ((calConv s i).steps + stepHits i hits)) := by
  have hsteps : (calConv (ditherStop s i) i).steps = (calConv s i).steps := (congrArg CalConv.steps (ditherStop_shows s i).1).trans rfl
  unfold execCalDitherStepEnd
  rw [hstep]
  refine congrArg Host.Outcome.next ((if_pos hk).trans ?_)
  dsimp only
  rw [hsteps]
  split
  · next c hk => rw [stepHits_tdc hk]; rfl
  · next hk => rw [stepHits_central hk]; rfl
  · next ht hc => rw [stepHits_one ht hc]; rfl

theorem calDitherStepEnd_cut {hits k : Nat} (hstep : (calConv s i).step = some k) (hk : s.now < k + (convKind i).stepBeats) (hh : ditherHolds s i = false) :
    execCalDitherStepEnd i hits s = .next (ditherStop s i) := by
  unfold execCalDitherStepEnd
  rw [hstep]
  refine congrArg Host.Outcome.next ((if_neg (Nat.not_le.mpr hk)).trans (if_neg ?_))
  rw [hh]
  exact Bool.false_ne_true

theorem stepCounted_shows (s : State) (i : Fin 369) (steps : Nat) :
    (calConv (stepCounted s i steps) i).step = none ∧ (stepCounted s i steps).flag F.CAL_CONV_STATUS_TESTING i = false ∧
      (calConv (stepCounted s i steps) i).steps = (if (convKind i).blockSteps ≤ steps then 0 else steps) ∧
      (calConv (stepCounted s i steps) i).block = ((calConv s i).block || decide ((convKind i).blockSteps ≤ steps)) ∧
      memFrame [F.CAL_CONV_STATUS_TESTING.part [i], F.CAL_STATUS_BLOCK_MISS.part []] s (stepCounted s i steps) := by
  obtain ⟨hconv, htest, hframe⟩ := ditherStop_shows s i
  unfold stepCounted
  split
  · next hfull =>
    obtain ⟨hblock, -, hmiss⟩ := blockDone_shows (modCal (ditherStop s i) i fun c => { c with steps := 0 }) i (!calShed (ditherStop s i))
    rw [hblock, calConv_modCal, hconv]
    refine ⟨rfl, ?_, rfl, by simp [hfull], ((hframe.modCal _ _).mono (by simp)).trans (hmiss.mono (by simp))⟩
    rw [hmiss.1.flag_of_reg (by decide), flag_modCal, htest]
  · next hfull =>
    rw [calConv_modCal, hconv]
    exact ⟨rfl, htest, rfl, by simp [hfull], (hframe.modCal _ _).mono (by simp)⟩

/-! ### Staging (R617, R619) -/

theorem stageSource_eq (path : Path) : stageSource path = if path = .management then 4 else 5 := by cases path <;> rfl

theorem calStage_free (path : Path) (h : s.flag F.CAL_CONV_STATUS_PEND i = false) :
    calStage path i s = (modCal s i fun c => { c with pendSrc := stageSource path }).setFlag F.CAL_CONV_STATUS_PEND true i := by
  unfold calStage
  rw [h]
  rfl

/-- A set is staged for its beat. -/
def stagedAt (s : State) (i : Fin 369) (path : Path) : State :=
  ((modCal s i fun c => { c with pendSrc := stageSource path, pendTick := s.now + (s.pair .CAL_APPLY_AT_LO .CAL_APPLY_AT_HI - s.beat) }).setFlag
    F.CAL_CONV_STATUS_PEND true i).setFlag F.CAL_CONV_STATUS_PEND_AT true i

theorem memFrame_stagedAt (s : State) (i : Fin 369) (path : Path) :
    memFrame [F.CAL_CONV_STATUS_PEND.part [i], F.CAL_CONV_STATUS_PEND_AT.part [i]] s (stagedAt s i path) :=
  (((memFrame.refl _ s).modCal _ _).setFlag _ _ (.of_mem_index (.head _))).setFlag _ _ (.of_mem_index (.tail _ (.head _)))

theorem calConv_stagedAt (s : State) (i : Fin 369) (path : Path) : calConv (stagedAt s i path) i =
    { calConv s i with pendSrc := stageSource path, pendTick := s.now + (s.pair .CAL_APPLY_AT_LO .CAL_APPLY_AT_HI - s.beat) } := by
  rw [stagedAt, calConv_setFlag, calConv_setFlag, calConv_modCal]

theorem sets_stagedAt (s : State) (i : Fin 369) (path : Path) : (stagedAt s i path).cal.sets = s.cal.sets := by
  rw [stagedAt, State.setFlag_cal, State.setFlag_cal]
  rfl

theorem calStageAt_ahead (path : Path) (h : s.flag F.CAL_CONV_STATUS_PEND i = false) (ht : s.beat ≤ s.pair .CAL_APPLY_AT_LO .CAL_APPLY_AT_HI) :
    calStageAt path i s = stagedAt s i path := by
  have hahead : ¬s.pair .CAL_APPLY_AT_LO .CAL_APPLY_AT_HI < (stagedAt s i path).beat := Nat.not_lt.mpr ht
  rw [stagedAt] at hahead ⊢
  simp only [calStageAt, h, Bool.false_eq_true, if_false, if_neg hahead]

theorem namedBarred_stagedAt (s : State) (i : Fin 369) (path : Path) : namedBarred (stagedAt s i path) i = namedBarred s i := by
  have hfg : (stagedAt s i path).fld F.CAL_FG_STATUS_STATE (convSlice i) = s.fld F.CAL_FG_STATUS_STATE (convSlice i) :=
    (memFrame_stagedAt s i path).1.fld_of_reg (by simp [Field.part]; decide) ..
  have hsl : (stagedAt s i path).sl (convSlice i) = s.sl (convSlice i) := rfl
  unfold namedBarred
  rw [hfg, hsl]

theorem calStageAt_passed (path : Path) (h : s.flag F.CAL_CONV_STATUS_PEND i = false) (ht : s.pair .CAL_APPLY_AT_LO .CAL_APPLY_AT_HI < s.beat)
    (hb : namedBarred s i = false) (hr : s.rpl.replaying = false) :
    calStageAt path i s = (calSwitchStaged (stagedAt s i path) i).setFlag F.CAL_CONV_STATUS_LATE true i := by
  have hgo : ¬(namedBarred (stagedAt s i path) i || (stagedAt s i path).rpl.replaying) = true := by
    have hr' : (stagedAt s i path).rpl.replaying = false := hr
    rw [namedBarred_stagedAt, hb, hr']
    exact Bool.false_ne_true
  have hlate : s.pair .CAL_APPLY_AT_LO .CAL_APPLY_AT_HI < (stagedAt s i path).beat := ht
  rw [stagedAt] at hgo hlate ⊢
  simp only [calStageAt, h, Bool.false_eq_true, if_false, if_pos hlate, if_neg hgo]

theorem stage_ignored {path : Path} {cmd : Instr} (hc : cmd ∈ [Instr.stage path i, .stageAt path i]) (h : s.flag F.CAL_CONV_STATUS_PEND i = true) :
    exec cmd s = .next (s.setFlag F.CAL_CONV_STATUS_STAGE_IGN true i) := by
  simp only [List.mem_cons, List.not_mem_nil, or_false] at hc
  rcases hc with rfl | rfl
  · exact congrArg Host.Outcome.next (if_pos h)
  · exact congrArg Host.Outcome.next (if_pos h)

end
end Sys2Proof.Machine

namespace Sys2Proof.Machine

/-! ### The words of a switch (R610, R618) -/

section
variable {s t u : State} {l : List Part} {i j : Fin 369}

/-- The first `n` words of the active set are put. -/
def wordsPut (s : State) (i : Fin 369) (g : Nat → Nat) (n : Nat) : State := (List.range n).foldl (fun s w => putActive s i w (g w)) s

theorem wordsPut_succ (s : State) (i : Fin 369) (g : Nat → Nat) (n : Nat) : wordsPut s i g (n + 1) = putActive (wordsPut s i g n) i n (g n) := by
  rw [wordsPut, List.range_succ, List.foldl_append]
  rfl

theorem zipIdx_map_range (g : Nat → Nat) (n : Nat) : ((List.range n).map g).zipIdx = (List.range n).map fun w => (g w, w) := by
  refine List.ext_getElem (by simp) fun w h1 h2 => ?_
  simp

/-- A switch that no APPLYF of the same boundary comes after puts every word. -/
theorem foldl_putActive_eq (s : State) (i : Fin 369) (g : Nat → Nat) (n : Nat) {held : Bool} (h : held = false) :
    ((List.range n).map g).zipIdx.foldl (fun s x => if held && decide (x.2 < 10) then s else putActive s i x.2 x.1) s = wordsPut s i g n := by
  rw [zipIdx_map_range, List.foldl_map, h]
  rfl

theorem putActive_eq (s : State) (i : Fin 369) (w v : Nat) : ∃ r c, putActive s i w v = { s with regs := r, cal := c } := by
  unfold putActive
  split
  · dsimp only
    split
    · exact ⟨_, s.cal, rfl⟩
    · split
      · exact ⟨_, s.cal, rfl⟩
      · split
        · exact ⟨_, s.cal, rfl⟩
        · exact ⟨s.regs, s.cal, rfl⟩
  · exact ⟨s.regs, _, rfl⟩

theorem wordsPut_eq (s : State) (i : Fin 369) (g : Nat → Nat) (n : Nat) : ∃ r c, wordsPut s i g n = { s with regs := r, cal := c } := by
  induction n with
  | zero => exact ⟨s.regs, s.cal, rfl⟩
  | succ n ih =>
    obtain ⟨r, c, hn⟩ := ih
    obtain ⟨r', c', hp⟩ := putActive_eq (wordsPut s i g n) i n (g n)
    exact ⟨r', c', by rw [wordsPut_succ, hp, hn]⟩

theorem wordsPut_beat (s : State) (i : Fin 369) (g : Nat → Nat) (n : Nat) : (wordsPut s i g n).beat = s.beat := by
  obtain ⟨r, c, h⟩ := wordsPut_eq s i g n
  rw [h]

/-! A converter whose set is not a row of registers. -/

theorem putActive_set (hk : convKind i ≠ .mad) (s : State) (w v : Nat) :
    putActive s i w v =
      { s with cal := { s.cal with sets := SMap.put natLt identityWord s.cal.sets (calKey i 0 w) (if (convKind i).reserved w then 0 else v % 2 ^ 32) } } :=
  if_neg hk

theorem memFrame_putActive (hk : convKind i ≠ .mad) (s : State) (w v : Nat) : memFrame [] s (putActive s i w v) := by
  rw [putActive_set hk]
  exact (memFrame.refl _ s).of_eq rfl rfl rfl

theorem memFrame_wordsPut (hk : convKind i ≠ .mad) (s : State) (g : Nat → Nat) (n : Nat) : memFrame [] s (wordsPut s i g n) := by
  induction n with
  | zero => exact .refl _ s
  | succ n ih => rw [wordsPut_succ]; exact ih.trans (memFrame_putActive hk _ _ _)

theorem activeWord_set (hk : convKind j ≠ .mad) (s : State) (w : Nat) : activeWord s j w = SMap.get identityWord s.cal.sets (calKey j 0 w) := if_neg hk

/-- The active words of a measure converter are registers. -/
theorem activeWord_mad_congr (hk : convKind j = .mad) (hr : ∀ r n w, t.rd r n w = s.rd r n w) (w : Nat) : activeWord t j w = activeWord s j w := by
  unfold activeWord
  simp only [if_pos hk, hr]

theorem activeWord_putActive_same (hk : convKind i ≠ .mad) (s : State) (w v : Nat) :
    activeWord (putActive s i w v) i w = if (convKind i).reserved w then 0 else v % 2 ^ 32 := by
  rw [activeWord_set hk, putActive_set hk]
  simp only [SMap.get_put, if_true]

theorem activeWord_putActive_apart (hk : convKind i ≠ .mad) (s : State) {w v w' : Nat} (hw : w < 128) (hw' : w' < 128) (h : j ≠ i ∨ w' ≠ w) :
    activeWord (putActive s i w v) j w' = activeWord s j w' := by
  by_cases hj : convKind j = .mad
  · exact activeWord_mad_congr hj (fun r n w => (memFrame_putActive hk s _ _).1.rd_eq (by simp) ..) w'
  · have hkey : calKey j 0 w' ≠ calKey i 0 w := by
      unfold calKey
      have hne : j.val ≠ i.val ∨ w' ≠ w := h.imp_left fun e e' => e (Fin.ext e')
      omega
    rw [activeWord_set hj, activeWord_set hj, putActive_set hk]
    simp only [SMap.get_put, if_neg hkey]

theorem activeWord_wordsPut_other (hk : convKind i ≠ .mad) (s : State) (g : Nat → Nat) {n w : Nat} (hn : n ≤ 128) (hw : w < 128) (h : j ≠ i ∨ n ≤ w) :
    activeWord (wordsPut s i g n) j w = activeWord s j w := by
  induction n with
  | zero => rfl
  | succ n ih =>
    rw [wordsPut_succ, activeWord_putActive_apart hk _ (by omega) hw (h.imp_right fun hn => by omega)]
    exact ih (by omega) (h.imp_right fun hn => by omega)

theorem activeWord_wordsPut_same (hk : convKind i ≠ .mad) (s : State) (g : Nat → Nat) {n w : Nat} (hn : n ≤ 128) (hw : w < n) :
    activeWord (wordsPut s i g n) i w = if (convKind i).reserved w then 0 else g w % 2 ^ 32 := by
  induction n with
  | zero => exact absurd hw (Nat.not_lt_zero w)
  | succ n ih =>
    rw [wordsPut_succ]
    by_cases he : w = n
    · rw [he, activeWord_putActive_same hk]
    · rw [activeWord_putActive_apart hk _ (by omega) (by omega) (.inr he), ih (by omega) (by omega)]

/-! A measure converter. -/

theorem putActive_mad (hk : convKind i = .mad) (s : State) {w : Nat} (hw : w < 10) (v : Nat) :
    putActive s i w v = s.wr .MAD_SCF (BitVec.ofNat 32 (v % 2 ^ 18)) (convSlice i) w := (if_pos hk).trans (if_pos hw)

theorem memFrame_wordsPut_mad (hk : convKind i = .mad) (s : State) (g : Nat → Nat) {n : Nat} (hn : n ≤ 10) :
    memFrame [{ reg := .MAD_SCF, idx := [(convSlice i).val] }] s (wordsPut s i g n) := by
  induction n with
  | zero => exact .refl _ s
  | succ n ih =>
    rw [wordsPut_succ, putActive_mad hk _ (by omega)]
    exact (ih (by omega)).wr _ _ (.of_mem_index (.head _))

theorem wordsPut_mad_rd (hk : convKind i = .mad) (s : State) (g : Nat → Nat) {n w : Nat} (hn : n ≤ 10) (hw : w < n) :
    (wordsPut s i g n).rd .MAD_SCF (convSlice i) w = BitVec.ofNat 32 (g w % 2 ^ 18) := by
  induction n with
  | zero => exact absurd hw (Nat.not_lt_zero w)
  | succ n ih =>
    rw [wordsPut_succ, putActive_mad hk _ (by omega)]
    by_cases he : w = n
    · rw [he, State.rd_wr_same]
    · rw [State.rd_wr_index _ _ (.inr (.inl he)), ih (by omega) (by omega)]

/-! ### A switch (R618 to R623) -/

/-- The status, the age and the beat after a switch, whose words have been put. -/
def switched (s : State) (i : Fin 369) (src : Nat) : State := (setSource (clearPend s i) i src).wr .CAL_APPLIED (BitVec.ofNat 32 s.beat) i

/-- The registers that a switch changes. -/
def switchParts (i : Fin 369) : List Part := [{ reg := .CAL_CONV_STATUS, idx := [i] }, { reg := .CAL_AGE, idx := [i] }, { reg := .CAL_APPLIED, idx := [i] }]

theorem memFrame_clearPend (s : State) (i : Fin 369) : memFrame [F.CAL_CONV_STATUS_PEND.part [i], F.CAL_CONV_STATUS_PEND_AT.part [i]] s (clearPend s i) :=
  ((memFrame.refl _ s).setFlag _ _ (.of_mem_index (.head _))).setFlag _ _ (.of_mem_index (.tail _ (.head _)))

theorem memFrame_switched (s : State) (i : Fin 369) (src : Nat) : memFrame (switchParts i) s (switched s i src) := by
  have hf : ∀ f : Field, f.reg = .CAL_CONV_STATUS → f.lo + f.width ≤ 32 → holdsFld (switchParts i) f i 0 0 0 := fun f hf hw =>
    .of_mem_reg (by rw [hf]; exact .head _) hw
  exact ((((((memFrame.refl _ s).setFlag F.CAL_CONV_STATUS_PEND _ (hf _ rfl (by decide))).setFlag F.CAL_CONV_STATUS_PEND_AT _ (hf _ rfl (by decide))).setFld
    F.CAL_CONV_STATUS_SRC _ (hf _ rfl (by decide))).setFlag F.CAL_CONV_STATUS_STALE _ (hf _ rfl (by decide))).setFlag F.CAL_CONV_STATUS_NEEDS_FG _
    (hf _ rfl (by decide))).wr .CAL_AGE 0 (.of_mem_index (.tail _ (.head _))) |>.wr .CAL_APPLIED _ (.of_mem_index (.tail _ (.tail _ (.head _))))

theorem switched_shows (s : State) (i : Fin 369) (src : Nat) :
    (switched s i src).flag F.CAL_CONV_STATUS_PEND i = false ∧ (switched s i src).flag F.CAL_CONV_STATUS_PEND_AT i = false ∧
      (switched s i src).fld F.CAL_CONV_STATUS_SRC i = src % 2 ^ F.CAL_CONV_STATUS_SRC.width ∧ (switched s i src).rd .CAL_AGE i = 0 ∧
      (switched s i src).rd .CAL_APPLIED i = BitVec.ofNat 32 s.beat := by
  unfold switched setSource clearPend
  refine ⟨by simp (disch := decide), by simp (disch := decide), ?_, by simp (disch := decide), by simp⟩
  simp (disch := decide) only [State.fld_wr_apart, State.fld_setFlag_apart]
  exact State.fld_setFld_same _ _ _ _ _ _ _ (by decide)

theorem switched_cal (s : State) (i : Fin 369) (src : Nat) : (switched s i src).cal = s.cal := by
  simp only [switched, setSource, clearPend, State.wr_cal, State.setFlag_cal, State.setFld_cal]

theorem journal_eq (s : State) (type src index data : Nat) : ∃ x, s.journal type src index data = { s with rpl := x } := by
  unfold State.journal
  split
  · exact ⟨_, rfl⟩
  · exact ⟨s.rpl, rfl⟩

/-- The set of a converter switches to the words that `g` gives. -/
def setSwitched (s : State) (i : Fin 369) (g : Nat → Nat) (src : Nat) : State := switched (wordsPut s i g (switchWords (convKind i))) i src

theorem foldl_journal_eq (h : ∃ x, t = { s with rpl := x }) (xs : List Nat) (type src : Nat) (index data : Nat → Nat) :
    ∃ x, xs.foldl (fun s k => s.journal type src (index k) (data k)) t = { s with rpl := x } := by
  refine List.foldlRecOn (motive := fun u : State => ∃ x, u = { s with rpl := x }) _ _ h fun u hu k _ => ?_
  obtain ⟨x, rfl⟩ := hu
  exact journal_eq ..

/-- A switch without an APPLYF of the same boundary; beside its registers and words it leaves its journal records. -/
theorem calSwitch_eq (s : State) (i : Fin 369) (g : Nat → Nat) (src : Nat) (h : (convKind i == .mad && (s.sl (convSlice i)).mad.applyfAt == some s.now) = false) :
    ∃ x, calSwitch s i ((List.range (switchWords (convKind i))).map g) src = { setSwitched s i g src with rpl := x } := by
  unfold calSwitch
  dsimp only
  rw [foldl_putActive_eq s i g _ h]
  exact foldl_journal_eq (s := setSwitched s i g src) (journal_eq ..) _ _ _ _ _

end
end Sys2Proof.Machine

namespace Sys2Proof.Machine
section
variable {s t u : State} {l : List Part} {i j : Fin 369}

theorem words_le (k : ConvKind) : k.words ≤ 128 := by cases k <;> exact by simp [ConvKind.words]

theorem switchWords_set (hk : convKind i ≠ .mad) : switchWords (convKind i) = (convKind i).words := if_neg hk

theorem switchWords_mad (hk : convKind i = .mad) : switchWords (convKind i) = 10 := if_pos hk

theorem activeWord_congr (hc : t.cal.sets = s.cal.sets) (hr : ∀ r, r = .MAD_SCF ∨ r = .MAD_SYSC_OFF ∨ r = .MAD_SYSC_GAIN → ∀ n w, t.rd r n w = s.rd r n w)
    (j : Fin 369) (w : Nat) : activeWord t j w = activeWord s j w := by
  unfold activeWord
  simp only [hc, hr .MAD_SCF (.inl rfl), hr .MAD_SYSC_OFF (.inr (.inl rfl)), hr .MAD_SYSC_GAIN (.inr (.inr rfl))]

theorem activeWord_of_switchParts (h : memFrame (switchParts i) s t) (hc : t.cal = s.cal) (j : Fin 369) (w : Nat) : activeWord t j w = activeWord s j w :=
  activeWord_congr (congrArg Calibration.sets hc) (fun r hr n w => h.1.rd_eq (by
    rcases hr with rfl | rfl | rfl
    · simp [switchParts]
    · simp [switchParts]
    · simp [switchParts]) ..) j w

/-- The set that a switch leaves in a converter that is not a measure converter, and no other. -/
theorem setSwitched_words (hk : convKind i ≠ .mad) (s : State) (g : Nat → Nat) (src : Nat) :
    (∀ w, w < (convKind i).words → activeWord (setSwitched s i g src) i w = if (convKind i).reserved w then 0 else g w % 2 ^ 32) ∧
      (∀ (j : Fin 369) w, j ≠ i → w < 128 → activeWord (setSwitched s i g src) j w = activeWord s j w) ∧
      memFrame (switchParts i) s (setSwitched s i g src) := by
  have hkeep : ∀ (j : Fin 369) w, activeWord (setSwitched s i g src) j w = activeWord (wordsPut s i g (convKind i).words) j w := by
    rw [setSwitched, switchWords_set hk]
    exact activeWord_of_switchParts (memFrame_switched ..) (switched_cal ..)
  refine ⟨fun w hw => ?_, fun j w hj hw => ?_, ?_⟩
  · rw [hkeep, activeWord_wordsPut_same hk s g (words_le _) hw]
  · rw [hkeep, activeWord_wordsPut_other hk s g (words_le _) hw (.inl hj)]
  · exact ((memFrame_wordsPut hk s g _).mono (by simp)).trans (memFrame_switched ..)

theorem setSwitched_status (s : State) (i : Fin 369) (g : Nat → Nat) (src : Nat) :
    (setSwitched s i g src).flag F.CAL_CONV_STATUS_PEND i = false ∧ (setSwitched s i g src).flag F.CAL_CONV_STATUS_PEND_AT i = false ∧
      (setSwitched s i g src).fld F.CAL_CONV_STATUS_SRC i = src % 2 ^ F.CAL_CONV_STATUS_SRC.width ∧ (setSwitched s i g src).rd .CAL_AGE i = 0 ∧
      (setSwitched s i g src).rd .CAL_APPLIED i = BitVec.ofNat 32 s.beat := by
  obtain ⟨hp, hat, hsrc, hage, happ⟩ := switched_shows (wordsPut s i g (switchWords (convKind i))) i src
  exact ⟨hp, hat, hsrc, hage, happ.trans (congrArg _ (wordsPut_beat ..))⟩

theorem setSwitched_mad (hk : convKind i = .mad) (s : State) (g : Nat → Nat) (src : Nat) :
    (∀ w, w < 10 → (setSwitched s i g src).rd .MAD_SCF (convSlice i) w = BitVec.ofNat 32 (g w % 2 ^ 18)) ∧
      memFrame (switchParts i ++ [{ reg := .MAD_SCF, idx := [(convSlice i).val] }]) s (setSwitched s i g src) := by
  rw [setSwitched, switchWords_mad hk]
  refine ⟨fun w hw => ?_, ((memFrame_wordsPut_mad hk s g (Nat.le_refl _)).mono fun x hx => List.mem_append_right _ hx).trans
    ((memFrame_switched ..).mono fun x hx => List.mem_append_left _ hx)⟩
  rw [(memFrame_switched _ i src).1.rd_eq (by simp [switchParts]), wordsPut_mad_rd hk s g (Nat.le_refl _) hw]

/-- The set of a converter has switched to the words that `g` gives, and nothing else has changed but the journal. -/
structure SwitchedTo (s : State) (i : Fin 369) (g : Nat → Nat) (src : Nat) (t : State) : Prop where
  pend : t.flag F.CAL_CONV_STATUS_PEND i = false
  pendAt : t.flag F.CAL_CONV_STATUS_PEND_AT i = false
  source : t.fld F.CAL_CONV_STATUS_SRC i = src % 2 ^ F.CAL_CONV_STATUS_SRC.width
  age : t.rd .CAL_AGE i = 0
  applied : t.rd .CAL_APPLIED i = BitVec.ofNat 32 s.beat
  words : ∀ w, w < (convKind i).words → activeWord t i w = if (convKind i).reserved w then 0 else g w % 2 ^ 32
  others : ∀ (j : Fin 369) w, j ≠ i → w < 128 → activeWord t j w = activeWord s j w
  frame : memFrame (switchParts i) s t

theorem SwitchedTo.rpl {g : Nat → Nat} {src : Nat} (h : SwitchedTo s i g src t) (x : Journal) : SwitchedTo s i g src { t with rpl := x } :=
  { pend := h.pend, pendAt := h.pendAt, source := h.source, age := h.age, applied := h.applied, words := h.words, others := h.others,
    frame := h.frame.of_eq rfl rfl rfl }

theorem setSwitched_switched (hk : convKind i ≠ .mad) (s : State) (g : Nat → Nat) (src : Nat) : SwitchedTo s i g src (setSwitched s i g src) := by
  obtain ⟨hp, hat, hsrc, hage, happ⟩ := setSwitched_status s i g src
  obtain ⟨hsame, hother, hframe⟩ := setSwitched_words hk s g src
  exact { pend := hp, pendAt := hat, source := hsrc, age := hage, applied := happ, words := hsame, others := hother, frame := hframe }

/-- The pending switch of a converter that is not a measure converter. -/
theorem calSwitchStaged_switched (hk : convKind i ≠ .mad) (s : State) :
    SwitchedTo s i (stagedWord s i) (calConv s i).pendSrc (calSwitchStaged s i) := by
  obtain ⟨x, hx⟩ := calSwitch_eq s i (stagedWord s i) (calConv s i).pendSrc (by simp [hk])
  rw [calSwitchStaged, hx]
  exact (setSwitched_switched hk s _ _).rpl x

/-- The pending switch of a measure converter that no APPLYF of the same boundary comes after. -/
theorem calSwitchStaged_mad_shows (hk : convKind i = .mad) (happ : (s.sl (convSlice i)).mad.applyfAt ≠ some s.now) :
    (calSwitchStaged s i).flag F.CAL_CONV_STATUS_PEND i = false ∧ (calSwitchStaged s i).flag F.CAL_CONV_STATUS_PEND_AT i = false ∧
      (calSwitchStaged s i).fld F.CAL_CONV_STATUS_SRC i = (calConv s i).pendSrc % 2 ^ F.CAL_CONV_STATUS_SRC.width ∧
      (calSwitchStaged s i).rd .CAL_AGE i = 0 ∧ (calSwitchStaged s i).rd .CAL_APPLIED i = BitVec.ofNat 32 s.beat ∧
      (∀ w, w < 10 → (calSwitchStaged s i).rd .MAD_SCF (convSlice i) w = BitVec.ofNat 32 (stagedWord s i w % 2 ^ 18)) ∧
      memFrame (switchParts i ++ [{ reg := .MAD_SCF, idx := [(convSlice i).val] }]) s (calSwitchStaged s i) := by
  obtain ⟨x, hx⟩ := calSwitch_eq s i (stagedWord s i) (calConv s i).pendSrc (by simp [happ])
  obtain ⟨hp, hat, hsrc, hage, hbeat⟩ := setSwitched_status s i (stagedWord s i) (calConv s i).pendSrc
  obtain ⟨hscf, hframe⟩ := setSwitched_mad hk s (stagedWord s i) (calConv s i).pendSrc
  rw [calSwitchStaged, hx]
  generalize setSwitched s i (stagedWord s i) (calConv s i).pendSrc = u at hp hat hsrc hage hbeat hscf hframe
  exact ⟨hp, hat, hsrc, hage, hbeat, hscf, hframe.of_eq rfl rfl rfl⟩

/-- A switch that comes after its beat is marked late. -/
theorem SwitchedTo.late {g : Nat → Nat} {src : Nat} (h : SwitchedTo s i g src t) :
    (t.setFlag F.CAL_CONV_STATUS_LATE true i).flag F.CAL_CONV_STATUS_PEND i = false ∧
      (t.setFlag F.CAL_CONV_STATUS_LATE true i).fld F.CAL_CONV_STATUS_SRC i = src % 2 ^ F.CAL_CONV_STATUS_SRC.width ∧
      (∀ j w, activeWord (t.setFlag F.CAL_CONV_STATUS_LATE true i) j w = activeWord t j w) ∧
      memFrame (switchParts i) s (t.setFlag F.CAL_CONV_STATUS_LATE true i) := by
  have hlate : ∀ u, memFrame (switchParts i) u t → memFrame (switchParts i) u (t.setFlag F.CAL_CONV_STATUS_LATE true i) := fun u hu =>
    hu.setFlag _ _ (.of_mem_reg (.head _) (by decide))
  refine ⟨?_, ?_, activeWord_of_switchParts (hlate t (.refl _ t)) (State.setFlag_cal ..), hlate s h.frame⟩
  · rw [State.flag_setFlag_apart _ _ _ _ _ _ _ _ _ _ _ _ (by decide), h.pend]
  · rw [State.fld_setFlag_apart _ _ _ _ _ _ _ _ _ _ _ _ (by decide), h.source]

/-! A set staged for its beat. -/

theorem memFrame_stagedAt_whole (s : State) (i : Fin 369) (path : Path) : memFrame (switchParts i) s (stagedAt s i path) :=
  (((memFrame.refl _ s).modCal _ _).setFlag F.CAL_CONV_STATUS_PEND true (.of_mem_reg (.head _) (by decide))).setFlag F.CAL_CONV_STATUS_PEND_AT true
    (.of_mem_reg (.head _) (by decide))

theorem stagedWord_stagedAt (s : State) (i : Fin 369) (path : Path) (w : Nat) : stagedWord (stagedAt s i path) i w = stagedWord s i w := by
  rw [stagedWord, sets_stagedAt, stagedWord]

theorem activeWord_stagedAt (s : State) (i : Fin 369) (path : Path) (j : Fin 369) (w : Nat) : activeWord (stagedAt s i path) j w = activeWord s j w :=
  activeWord_congr (sets_stagedAt s i path) (fun r hr n w => (memFrame_stagedAt_whole s i path).1.rd_eq (by
    rcases hr with rfl | rfl | rfl
    · simp [switchParts]
    · simp [switchParts]
    · simp [switchParts]) ..) j w

theorem calGapApply_switches (hp : s.flag F.CAL_CONV_STATUS_PEND i = true) (hat : s.flag F.CAL_CONV_STATUS_PEND_AT i = false)
    (hok : gapApplyOk s i = true) (hr : s.rpl.replaying = false) : execCalGapApply i s = .next (calSwitchStaged s i) := by
  simp [execCalGapApply, hp, hat, hok, hr]

theorem calNamedApply_switches (hat : s.flag F.CAL_CONV_STATUS_PEND_AT i = true) (ht : (calConv s i).pendTick ≤ s.now) (hb : namedBarred s i = false)
    (hr : s.rpl.replaying = false) : execCalNamedApply i s = .next (calSwitchStaged s i) := by
  simp [execCalNamedApply, hat, ht, hb, hr]

theorem calNamedApply_waits (h : s.flag F.CAL_CONV_STATUS_PEND_AT i = false ∨ s.now < (calConv s i).pendTick) : execCalNamedApply i s = .next s := by
  refine congrArg Host.Outcome.next (if_neg ?_)
  rcases h with h | h
  · simp [h]
  · exact fun hp => Nat.not_le.mpr h hp.2.1

/-! ### Ages (R622, R623) -/

/-- An age has reached the bound. -/
def aged (s : State) (i : Fin 369) : Prop := s.fld F.CAL_CFG_STALE ≠ 0 ∧ s.fld F.CAL_CFG_STALE * 16 ≤ (s.rd .CAL_AGE i).toNat

/-- What the ages change of the registers. -/
def ageParts : List Part := [{ reg := .CAL_AGE, idx := [] }, F.CAL_CONV_STATUS_STALE.part [], F.CAL_STATUS_STALE.part []]

/-- The scope of a converter's report (R635). -/
def convScope (i : Fin 369) : Nat := if i.val = 368 then Scope.device else i.val / 23

theorem memFrame_ageOne (s : State) (i : Fin 369) : memFrame ageParts s (ageOne s i) := by
  have hcount : memFrame ageParts s (s.count .CAL_AGE i) := (memFrame.refl _ s).count _ (.of_mem (.head _) ..)
  exact .ite (((hcount.setFlag F.CAL_CONV_STATUS_STALE true (.of_mem (.tail _ (.head _)) ..)).setFlag F.CAL_STATUS_STALE true
    (.of_mem (.tail _ (.tail _ (.head _))) ..)).raise _ _ _) hcount

/-- An age that counts either turns stale, or is not old enough, or was stale. -/
theorem ageOne_eq (s : State) (i : Fin 369) :
    (ageOne s i = (((s.count .CAL_AGE i).setFlag F.CAL_CONV_STATUS_STALE true i).setFlag F.CAL_STATUS_STALE true).raise Src.CAL_STALE (convScope i) i) ∨
      (ageOne s i = s.count .CAL_AGE i ∧ (aged (s.count .CAL_AGE i) i → (s.count .CAL_AGE i).flag F.CAL_CONV_STATUS_STALE i = true)) := by
  unfold ageOne
  dsimp only
  split
  · exact .inl rfl
  · next h =>
    refine .inr ⟨rfl, fun ha => ?_⟩
    by_contra hf
    refine h ⟨?_, ha.2, by simpa using hf⟩
    exact Nat.mul_ne_zero ha.1 (by decide)

@[simp] theorem raise_cal (s : State) (src scope index : Nat) : (s.raise src scope index).cal = s.cal := by
  obtain ⟨x, hx⟩ := raise_eq s src scope index
  rw [hx]

theorem ageOne_cal (s : State) (i : Fin 369) : (ageOne s i).cal = s.cal := by
  rcases ageOne_eq s i with h | ⟨h, -⟩
  · rw [h, raise_cal, State.setFlag_cal, State.setFlag_cal, State.count_cal]
  · rw [h, State.count_cal]

theorem ageOne_rd (s : State) (i : Fin 369) : (ageOne s i).rd .CAL_AGE i = satCount (s.rd .CAL_AGE i) 1 := by
  rcases ageOne_eq s i with h | ⟨h, -⟩
  · rw [h]; simp (disch := decide)
  · rw [h, State.rd_count_same]

theorem ageOne_rd_ne (s : State) (h : j ≠ i) : (ageOne s i).rd .CAL_AGE j = s.rd .CAL_AGE j := by
  have hne : j.val ≠ i.val := fun e => h (Fin.ext e)
  have hcount : (s.count .CAL_AGE i).rd .CAL_AGE j = s.rd .CAL_AGE j := State.rd_wr_index _ _ (.inl hne)
  rcases ageOne_eq s i with h | ⟨h, -⟩
  · rw [h]; simp (disch := decide) [hcount]
  · rw [h, hcount]

theorem ageOne_stays_stale (s : State) (i j : Fin 369) (h : s.flag F.CAL_CONV_STATUS_STALE j = true) : (ageOne s i).flag F.CAL_CONV_STATUS_STALE j = true := by
  rcases ageOne_eq s i with he | ⟨he, -⟩
  · rw [he, State.flag_raise, State.flag_setFlag_apart _ _ _ _ _ _ _ _ _ _ _ _ (by decide)]
    by_cases hj : j = i
    · rw [hj]; exact State.flag_setFlag_same _ _ _ _ _ _ _ (by decide) rfl
    · rw [State.flag, State.setFlag, State.fld_setFld_index _ _ _ _ (.inl fun e => hj (Fin.ext e)), ← State.flag]
      simpa (disch := decide) using h
  · rw [he]; simpa (disch := decide) using h

theorem ageOne_turns_stale (s : State) (i : Fin 369) (h : aged (ageOne s i) i) : (ageOne s i).flag F.CAL_CONV_STATUS_STALE i = true := by
  rcases ageOne_eq s i with he | ⟨he, hs⟩
  · rw [he, State.flag_raise, State.flag_setFlag_apart _ _ _ _ _ _ _ _ _ _ _ _ (by decide)]
    exact State.flag_setFlag_same _ _ _ _ _ _ _ (by decide) rfl
  · rw [he] at h ⊢
    exact hs h

/-- The ages of some converters count. -/
theorem ages_counted (xs : List (Fin 369)) (hn : xs.Nodup) (s : State) :
    (∀ i : Fin 369, (xs.foldl ageOne s).rd .CAL_AGE i = if i ∈ xs then satCount (s.rd .CAL_AGE i) 1 else s.rd .CAL_AGE i) ∧
      (xs.foldl ageOne s).cal = s.cal ∧ (∀ i : Fin 369, s.flag F.CAL_CONV_STATUS_STALE i = true → (xs.foldl ageOne s).flag F.CAL_CONV_STATUS_STALE i = true) ∧
      (∀ i : Fin 369, i ∈ xs → aged (xs.foldl ageOne s) i → (xs.foldl ageOne s).flag F.CAL_CONV_STATUS_STALE i = true) ∧
      memFrame ageParts s (xs.foldl ageOne s) := by
  induction xs generalizing s with
  | nil => exact ⟨fun i => by simp, rfl, fun i h => h, fun i h => absurd h (by simp), .refl _ s⟩
  | cons a xs ih =>
    obtain ⟨ha, hxs⟩ := List.nodup_cons.mp hn
    obtain ⟨hrd, hcal, hkeep, hstale, hframe⟩ := ih hxs (ageOne s a)
    rw [List.foldl_cons]
    refine ⟨fun i => ?_, hcal.trans (ageOne_cal s a), fun i h => hkeep i (ageOne_stays_stale s a i h), fun i hi hag => ?_, (memFrame_ageOne s a).trans hframe⟩
    · rw [hrd i]
      by_cases hia : i = a
      · rw [hia, if_neg ha, if_pos (List.mem_cons_self ..), ageOne_rd]
      · simp only [List.mem_cons, hia, false_or, ageOne_rd_ne s hia]
    · by_cases hx : i ∈ xs
      · exact hstale i hx hag
      · have hia : i = a := (List.mem_cons.mp hi).resolve_right hx
        refine hkeep i ?_
        rw [hia] at hag ⊢
        refine ageOne_turns_stale s a ?_
        rw [aged, hframe.1.fld_of_reg (by decide), hrd a, if_neg ha] at hag
        exact hag

theorem calAgeTick_counts (h : s.cal.agedAt + 250000 ≤ s.now) :
    execCalAgeTick s = .next ((List.finRange 369).foldl ageOne { s with cal := { s.cal with agedAt := s.cal.agedAt + 250000 } }) :=
  congrArg Host.Outcome.next (if_pos h)

end

/-- Settles O50: blocks, dither steps, staging, the switches and the ages of calibration. -/
theorem calibrationSets : Obligations.CalibrationSets := by
  unfold Obligations.CalibrationSets
  refine ⟨fun s i taken hl ha => ⟨_, calBlockComplete_passed taken hl ha, ?_⟩,
    fun s i taken hl ha hc => ⟨_, calBlockComplete_failed taken hl ha hc, State.flag_setFlag_same _ _ _ _ _ _ _ (by decide) rfl, State.setFlag_cal ..,
      (memFrame.refl _ s).setFlag _ _ (.of_mem_index (.head _))⟩,
    fun s i first stop hgap hen hshed hwant hpow hstep hfirst hfits hquiet =>
      ⟨_, calDitherStep_starts hgap hen hshed hwant hpow hstep hfirst hfits hquiet, by simp, by simp, State.flag_setFlag_same _ _ _ _ _ _ _ (by decide) rfl,
        ((memFrame.refl _ s).modCal _ _).setFlag _ _ (.of_mem_index (.head _))⟩,
    fun s i hits k hstep hk => ⟨_, calDitherStepEnd_whole hstep hk, stepCounted_shows s i _⟩,
    fun s i hits k hstep hk hh => ⟨_, calDitherStepEnd_cut hstep hk hh, ?_⟩,
    fun s i path h => ⟨_, congrArg Host.Outcome.next (calStage_free path h), State.flag_setFlag_same _ _ _ _ _ _ _ (by decide) rfl,
      by simp [stageSource_eq], ?_, ((memFrame.refl _ s).modCal _ _).setFlag _ _ (.of_mem_index (.head _))⟩,
    fun s i path cmd hc h => ⟨_, stage_ignored hc h, State.flag_setFlag_same _ _ _ _ _ _ _ (by decide) rfl, State.setFlag_cal ..,
      (memFrame.refl _ s).setFlag _ _ (.of_mem_index (.head _))⟩,
    fun s i path h ht => ⟨_, congrArg Host.Outcome.next (calStageAt_ahead path h ht), ?_⟩,
    fun s i path h ht hb hr hk => ?_,
    fun s i => ⟨clearPend s i, rfl, ?_, ?_, ?_, memFrame_clearPend s i⟩,
    fun s i hk hp hat hok hr => ?_,
    fun s i hk happ hp hat hok hr => ?_,
    fun s i hk hat ht hb hr => ?_,
    fun s i h => calNamedApply_waits h,
    fun s h => ⟨_, calAgeTick_counts h, ?_⟩,
    fun s h => congrArg Host.Outcome.next (if_neg (Nat.not_le.mpr h))⟩
  · obtain ⟨hblock, hmiss, hframe⟩ := blockDone_shows (s.setFlag F.CAL_CONV_STATUS_DITHER_NEED false i) i taken
    refine ⟨?_, by rw [hblock], ?_, ((memFrame.refl _ s).setFlag _ _ (.of_mem_index (.head _))).trans (hframe.mono (by simp))⟩
    · rw [hframe.1.flag_of_reg (by decide)]
      exact State.flag_setFlag_same _ _ _ _ _ _ _ (by decide) rfl
    · rw [hmiss, blockMissed, calConv_setFlag, calShed]
      simp (disch := decide) [calShed]
  · obtain ⟨hconv, htest, hframe⟩ := ditherStop_shows s i
    exact ⟨by rw [hconv], by rw [hconv], htest, hframe⟩
  · rw [State.setFlag_cal]; rfl
  · have hconv := calConv_stagedAt s i path
    refine ⟨?_, State.flag_setFlag_same _ _ _ _ _ _ _ (by decide) rfl, by rw [hconv, stageSource_eq], by rw [hconv], sets_stagedAt s i path,
      memFrame_stagedAt s i path⟩
    rw [stagedAt]
    simp (disch := decide)
  · have hsw := calSwitchStaged_switched hk (stagedAt s i path)
    obtain ⟨hp, hsrc, hkeep, hframe⟩ := hsw.late
    refine ⟨_, congrArg Host.Outcome.next (calStageAt_passed path h ht hb hr), State.flag_setFlag_same _ _ _ _ _ _ _ (by decide) rfl, ?_, hp,
      fun w hw => ?_, fun j w hj hw => ?_, (memFrame_stagedAt_whole s i path).trans hframe⟩
    · rw [hsrc, calConv_stagedAt, stageSource_eq]
      split <;> rfl
    · rw [hkeep, hsw.words w hw, stagedWord_stagedAt]
    · rw [hkeep, hsw.others j w hj hw, activeWord_stagedAt]
  · simp (disch := decide) [clearPend]
  · simp (disch := decide) [clearPend]
  · simp [clearPend]
  · have h := calSwitchStaged_switched hk s
    exact ⟨_, calGapApply_switches hp hat hok hr, h.pend, h.pendAt, h.source, h.age, h.applied, h.words, h.others, h.frame⟩
  · obtain ⟨hp', hat', hsrc, hage, hbeat, hscf, hframe⟩ := calSwitchStaged_mad_shows hk happ
    exact ⟨_, calGapApply_switches hp hat hok hr, hp', hat', hsrc, hage, hbeat, hscf, hframe⟩
  · have h := calSwitchStaged_switched hk s
    exact ⟨_, calNamedApply_switches hat ht hb hr, h.pend, h.pendAt, h.source, h.age, h.applied, h.words, h.others, h.frame⟩
  · obtain ⟨hrd, hcal, -, hstale, hframe⟩ := ages_counted (List.finRange 369) (List.nodup_finRange 369)
      { s with cal := { s.cal with agedAt := s.cal.agedAt + 250000 } }
    refine ⟨fun i => ?_, hcal, fun i ha => hstale i (List.mem_finRange i) ?_, ((memFrame.refl _ s).of_eq rfl rfl rfl).trans hframe⟩
    · rw [hrd i, if_pos (List.mem_finRange i)]
      rfl
    · rw [aged, hframe.1.fld_of_reg (by decide)]
      exact ha

end Sys2Proof.Machine

namespace Sys2Proof.Machine

/-! ## The replay journal (R666 to R672) -/

section
variable {s t u : State} {l : List Part}

theorem memFrame.modRpl (h : memFrame l s t) (f : Journal → Journal) : memFrame l s (modRpl t f) := h.of_eq rfl rfl rfl

@[simp] theorem rd_modRpl (s : State) (f : Journal → Journal) (r : Reg) (i j k m : Nat) : (modRpl s f).rd r i j k m = s.rd r i j k m := rfl
@[simp] theorem fld_modRpl (s : State) (f : Journal → Journal) (x : Field) (i j k m : Nat) : (modRpl s f).fld x i j k m = s.fld x i j k m := rfl
@[simp] theorem flag_modRpl (s : State) (f : Journal → Journal) (x : Field) (i j k m : Nat) : (modRpl s f).flag x i j k m = s.flag x i j k m := rfl
@[simp] theorem rpl_modRpl (s : State) (f : Journal → Journal) : (modRpl s f).rpl = f s.rpl := rfl

theorem modRpl_self {f : Journal → Journal} (h : f s.rpl = s.rpl) : modRpl s f = s := by rw [modRpl, h]

/-! ### Orders -/

/-- A list that stands in order is its own sorted list. -/
theorem sortBy_of_pairwise {α : Type} {le : α → α → Bool} {xs : List α} (h : xs.Pairwise fun a b => le a b = true) : sortBy le xs = xs := by
  induction xs with
  | nil => rfl
  | cons a xs ih =>
    obtain ⟨ha, hxs⟩ := List.pairwise_cons.mp h
    have ht : sortBy le xs = xs := ih hxs
    have hcons : sortBy le (a :: xs) = insertBy le a (sortBy le xs) := rfl
    rw [hcons, ht]
    cases xs with
    | nil => rfl
    | cons b xs => exact if_pos (ha b (List.mem_cons_self ..))

/-- Records that differ in a rising index only stand in order. -/
theorem sortRecords_range (f : Nat → JRecord) (n : Nat) (h : ∀ i, (f i).beat = (f 0).beat ∧ (f i).src = (f 0).src ∧ (f i).type = (f 0).type)
    (hi : ∀ i, (f i).index = i) : sortRecords ((List.range n).map f) = (List.range n).map f := by
  refine sortBy_of_pairwise ?_
  rw [List.pairwise_map]
  refine List.pairwise_lt_range.imp fun {a b} hab => ?_
  obtain ⟨hb, hs, ht⟩ := h a
  obtain ⟨hb', hs', ht'⟩ := h b
  unfold JRecord.before
  rw [hb, hs, ht, hb', hs', ht', hi a, hi b]
  simp [Nat.le_of_lt hab]

/-! ### What the writer's commands do -/

/-- Nothing is lost, and the ring has room. -/
theorem journalEnter_room {r : JRecord} (hlost : s.rpl.lost = 0) (hsync : s.rpl.needSync = false) (hlen : s.rpl.buffer.length < 4096)
    (hring : ringRecords s < ringCap s - 8) : journalEnter s r = bufferPut s r := by
  have hgap : journalGap s = s := if_pos (.inl hlost)
  have hroom : journalRoom s = true := by rw [journalRoom, decide_eq_true hlen, decide_eq_true hring]; rfl
  unfold journalEnter
  rw [hgap]
  dsimp only
  rw [if_neg (by simp [hlost, hroom]), hsync]
  rfl

theorem foldl_journalEnter_room (rs : List JRecord) (hlost : s.rpl.lost = 0) (hsync : s.rpl.needSync = false) (hlen : s.rpl.buffer.length + rs.length ≤ 4096)
    (hring : ringRecords s < ringCap s - 8) :
    ∃ x, rs.foldl journalEnter s = modRpl s fun j => { j with buffer := j.buffer ++ rs, partialSince := x } := by
  induction rs generalizing s with
  | nil => exact ⟨s.rpl.partialSince, by simp [modRpl]⟩
  | cons r rs ih =>
    rw [List.length_cons] at hlen
    rw [List.foldl_cons, journalEnter_room hlost hsync (by omega) hring]
    obtain ⟨x, hx⟩ := ih (s := bufferPut s r) hlost hsync (by simp [bufferPut]; omega) hring
    refine ⟨x, hx.trans ?_⟩
    simp [bufferPut, modRpl]

/-- The IMAGE records of the sections in force. -/
def imageRecords (s : State) (n : Nat) : List JRecord :=
  (List.range n).map fun i => { type := JType.IMAGE, src := 16, index := i, beat := s.beat, data := sectionSerial s i % 2 ^ 64 }

/-- The registers of the serials. -/
def serialRegs : List Reg := [.GLB_IMG_CSERIAL_LO, .GLB_IMG_CSERIAL_HI, .GLB_IMG_SSERIAL_LO, .GLB_IMG_SSERIAL_HI]

theorem sectionSerial_congr (h : ∀ r ∈ serialRegs, ∀ i, t.rd r i = s.rd r i) (i : Nat) : sectionSerial t i = sectionSerial s i := by
  simp only [sectionSerial, State.pair, h .GLB_IMG_CSERIAL_LO (by decide), h .GLB_IMG_CSERIAL_HI (by decide), h .GLB_IMG_SSERIAL_LO (by decide),
    h .GLB_IMG_SSERIAL_HI (by decide)]

theorem foldl_imageRecord (h : s.rplState = 1) (n : Nat) : (List.range n).foldl (fun s i => imageRecord s i false (sectionSerial s i)) s =
    modRpl s fun j => { j with fresh := j.fresh ++ imageRecords s n } := by
  induction n with
  | zero => simp [imageRecords, modRpl]
  | succ n ih =>
    have hst : (modRpl s fun j => { j with fresh := j.fresh ++ imageRecords s n }).rplState = 1 := h
    have hserial : sectionSerial (modRpl s fun j => { j with fresh := j.fresh ++ imageRecords s n }) n = sectionSerial s n :=
      sectionSerial_congr (fun _ _ _ => rfl) n
    rw [List.range_succ, List.foldl_append, ih, List.foldl_cons, List.foldl_nil, imageRecord, State.journal, if_pos (.inl hst), hserial]
    simp [modRpl, imageRecords, List.range_succ, bit01]

/-- The journal as it opens. -/
def journalOpened (s : State) : State :=
  modRpl ((s.setFlag F.RPL_CFG_EN true).setFld F.RPL_STATUS_STATE 1) fun j => { j with fresh := [], lost := 0, needSync := false, runs := [], advances := [] }

theorem memFrame_journalOpened (s : State) : memFrame [F.RPL_CFG_EN.part [], F.RPL_STATUS_STATE.part []] s (journalOpened s) :=
  (((memFrame.refl _ s).setFlag _ _ (.of_mem (.head _) ..)).setFld _ _ (.of_mem (.tail _ (.head _)) ..)).modRpl _

theorem rpl_journalOpened (s : State) : (journalOpened s).rpl =
    { s.rpl with fresh := [], lost := 0, needSync := false, runs := [], advances := [] } := by
  rw [journalOpened, rpl_modRpl, State.setFld_rpl, State.setFlag_rpl]

theorem ringCap_congr (h : t.fld F.RPL_RING_LINES_LINES = s.fld F.RPL_RING_LINES_LINES) : ringCap t = ringCap s := by
  rw [ringCap, ringCap, ringLines, ringLines, h]

theorem ringRecords_congr (hc : ringCap t = ringCap s) (hw : t.fld F.RPL_WP_OFFSET = s.fld F.RPL_WP_OFFSET) (hr : t.fld F.RPL_RP_OFFSET = s.fld F.RPL_RP_OFFSET) :
    ringRecords t = ringRecords s := by
  rw [ringRecords, ringRecords, hc, hw, hr]

/-- Records made in a beat that had none leave with their settling. -/
theorem fresh_taken (h : s.rpl.fresh = []) (rs : List JRecord) :
    (modRpl (modRpl s fun j => { j with fresh := j.fresh ++ rs }) fun j => { j with fresh := [] }) = s := by
  have hback : { s.rpl with fresh := [] } = s.rpl := by rw [← h]
  exact congrArg (fun j => { s with rpl := j }) hback

theorem journalEnable_of_off (h : s.rplState = 0) : journalEnable s =
    (let t := (List.range 17).foldl (fun s i => imageRecord s i false (sectionSerial s i)) (journalOpened s)
     syncRecord (journalSettle t) t.beat) := by
  unfold journalEnable
  rw [h]
  rfl

theorem beat_journalOpened (s : State) : (journalOpened s).beat = s.beat := rfl

theorem journalEnable_opens (h : s.rplState = 0) (hlen : s.rpl.buffer.length + 18 ≤ 4096) (hring : ringRecords s < ringCap s - 8) :
    ∃ x, journalEnable s = syncRecord (modRpl (journalOpened s) fun j => { j with buffer := j.buffer ++ imageRecords s 17, partialSince := x }) s.beat := by
  have hst : (journalOpened s).rplState = 1 := State.fld_setFld_same (s.setFlag F.RPL_CFG_EN true) F.RPL_STATUS_STATE _ _ _ _ _ (by decide)
  have hrpl := rpl_journalOpened s
  have hframe := (memFrame_journalOpened s).1
  have hcap : ringCap (journalOpened s) = ringCap s := ringCap_congr (hframe.fld_of_reg (by decide) ..)
  have hrecs : ringRecords (journalOpened s) = ringRecords s := ringRecords_congr hcap (hframe.fld_of_reg (by decide) ..) (hframe.fld_of_reg (by decide) ..)
  have hserial : ∀ i, sectionSerial (journalOpened s) i = sectionSerial s i := sectionSerial_congr fun r hr i =>
    hframe.rd_eq (fun x hx e => by
      simp only [List.mem_cons, List.not_mem_nil, or_false] at hx
      rcases hx with rfl | rfl
      · obtain rfl : Reg.RPL_CFG = r := e
        exact absurd hr (by decide)
      · obtain rfl : Reg.RPL_STATUS = r := e
        exact absurd hr (by decide)) ..
  have himages : imageRecords (journalOpened s) 17 = imageRecords s 17 := by
    simp only [imageRecords, hserial]
    rfl
  have hsettle : journalSettle (modRpl (journalOpened s) fun j => { j with fresh := j.fresh ++ imageRecords s 17 }) =
      (imageRecords s 17).foldl journalEnter (journalOpened s) := by
    have hfresh : (journalOpened s).rpl.fresh = [] := by rw [hrpl]
    have hsort : sortRecords (imageRecords s 17) = imageRecords s 17 := sortRecords_range _ 17 (fun i => ⟨rfl, rfl, rfl⟩) fun i => rfl
    rw [journalSettle, fresh_taken hfresh, rpl_modRpl, hfresh, List.nil_append, hsort]
  obtain ⟨x, hx⟩ := foldl_journalEnter_room (s := journalOpened s) (imageRecords s 17) (by rw [hrpl]) (by rw [hrpl])
    (by rw [hrpl]; simp [imageRecords]; omega) (by rw [hcap, hrecs]; exact hring)
  refine ⟨x, ?_⟩
  rw [journalEnable_of_off h, foldl_imageRecord hst 17, himages]
  dsimp only
  rw [hsettle, hx]
  exact congrArg _ (beat_journalOpened s)

/-! ### Padding, settling and the ring -/

theorem journalSettle_empty (h : s.rpl.fresh = []) : journalSettle s = s := by
  have hback : (modRpl s fun j => { j with fresh := [] }) = s := modRpl_self (by rw [← h])
  rw [journalSettle, hback, h]
  rfl

theorem settled_empty (h : s.rpl.fresh = []) : (if s.rplState = 1 then journalSettle s else s) = s := by rw [journalSettle_empty h, ite_self]

/-- The buffer with its last line padded. -/
def padded (b : List JRecord) : List JRecord := b ++ List.replicate ((8 - b.length % 8) % 8) padRecord

theorem journalFlush_empty (h : s.rpl.fresh = []) : journalFlush s = journalPad s := by rw [journalFlush, settled_empty h]

theorem journalPartial_due (h : s.rpl.fresh = []) (hl : s.rpl.buffer.length % 8 ≠ 0) (ht : s.rpl.partialSince + 256 ≤ s.now) :
    journalPartial s = journalPad s := by
  unfold journalPartial
  rw [settled_empty h]
  exact if_pos ⟨hl, ht⟩

theorem journalPartial_idle (h : s.rpl.fresh = []) (hi : s.rpl.buffer.length % 8 = 0 ∨ s.now < s.rpl.partialSince + 256) : journalPartial s = s := by
  unfold journalPartial
  rw [settled_empty h]
  exact if_neg fun hp => hi.elim hp.1 fun ht => Nat.not_le.mpr ht hp.2

theorem journalDisable_recording (h : s.rplState = 1) (hr : s.rpl.runs = []) (ha : s.rpl.advances = []) (hf : s.rpl.fresh = []) :
    journalDisable s = ((journalPad s).setFld F.RPL_STATUS_STATE 0).setFlag F.RPL_CFG_EN false := by
  have hclose : journalCloseAll s = s := by rw [journalCloseAll, hr, ha]; rfl
  unfold journalDisable
  rw [if_pos h, hclose, journalSettle_empty hf]

theorem ringCap_le (s : State) : ringCap s ≤ 2 ^ 19 := by
  have : ringLines s ≤ 65536 := by rw [ringLines, clampNat]; split_ifs <;> omega
  unfold ringCap
  omega

theorem journalSpill_within {rp : Nat} (h : rp < ringCap s) (hk : (rp + ringCap s - s.fld F.RPL_RP_OFFSET % ringCap s) % ringCap s ≤ ringRecords s) :
    journalSpill s rp = s.setFld F.RPL_RP_OFFSET rp := if_pos ⟨h, hk⟩

theorem journalSpill_beyond {rp : Nat}
    (h : ringCap s ≤ rp ∨ ringRecords s < (rp + ringCap s - s.fld F.RPL_RP_OFFSET % ringCap s) % ringCap s) : journalSpill s rp = s :=
  if_neg fun hp => h.elim (fun h => Nat.not_le.mpr hp.1 h) fun h => Nat.not_le.mpr h hp.2

end
end Sys2Proof.Machine

namespace Sys2Proof.Machine

/-! ## The start of a replay (R673, R676) -/

section
variable {s t u : State} {l : List Part}

/-- What holds of every entry of a list after it has been worked through: each entry's step makes it hold and no other's undoes it. -/
theorem foldl_rec {α : Type} {I : State → Prop} {P : α → State → Prop} {f : State → α → State} (xs : List α) (hI : I s) (hkeep : ∀ t a, I t → I (f t a))
    (hmake : ∀ t a, I t → P a (f t a)) (hother : ∀ t a b, I t → a ≠ b → P a t → P a (f t b)) : I (xs.foldl f s) ∧ ∀ a ∈ xs, P a (xs.foldl f s) := by
  refine ⟨List.foldlRecOn (motive := I) _ _ hI fun t ht a _ => hkeep t a ht, fun a ha => ?_⟩
  obtain ⟨before, after, hsplit⟩ := List.append_of_mem ha
  rw [hsplit, List.foldl_append, List.foldl_cons]
  have hbefore : I (before.foldl f s) := List.foldlRecOn (motive := I) _ _ hI fun t ht b _ => hkeep t b ht
  refine (List.foldlRecOn (motive := fun t => I t ∧ P a t) after f ⟨hkeep _ a hbefore, hmake _ a hbefore⟩ fun t ht b _ => ?_).2
  refine ⟨hkeep t b ht.1, ?_⟩
  by_cases hab : a = b
  · exact hab ▸ hmake t a ht.1
  · exact hother t a b ht.1 hab ht.2

/-- Units of slices change, and no store. -/
def UnitsOnly (s t : State) : Prop := (∃ x, t = { s with slices := x }) ∧ sameBytes s t

theorem UnitsOnly.refl (s : State) : UnitsOnly s s := ⟨⟨s.slices, rfl⟩, .refl s⟩

theorem UnitsOnly.modSl (h : UnitsOnly s t) (n : Fin 16) (f : Slice → Slice) (hf : ∀ x, (f x).store.bytes = x.store.bytes) : UnitsOnly s (t.modSl n f) := by
  obtain ⟨⟨x, rfl⟩, hb⟩ := h
  exact ⟨⟨_, rfl⟩, hb.modSl n f hf⟩

theorem UnitsOnly.modTx (h : UnitsOnly s t) (n : Fin 16) (k : Fin 4) (f : TxChannel → TxChannel) : UnitsOnly s (modTx t n k f) := h.modSl n _ fun _ => rfl

theorem UnitsOnly.trackRebase (h : UnitsOnly s t) (n : Fin 16) (k : Fin 4) (tracks : Nat) : UnitsOnly s (trackRebase t n k tracks) := by
  refine List.foldlRecOn (motive := UnitsOnly s) _ _ h fun u hu r _ => ?_
  split
  · rw [trackRebaseOne, setTrack]
    exact hu.modTx n k _
  · exact hu

/-- Every track is rebased (R673). -/
def tracksRebased (s : State) : State := eachSlice s fun s n => (List.finRange 4).foldl (fun s k => trackRebase s n k (2 ^ 32 - 1)) s

theorem unitsOnly_tracksRebased (s : State) : UnitsOnly s (tracksRebased s) :=
  List.foldlRecOn (motive := UnitsOnly s) _ _ (.refl s) fun _ ht n _ =>
    List.foldlRecOn (motive := UnitsOnly s) _ _ ht fun _ hu k _ => hu.trackRebase n k _

theorem UnitsOnly.toMem (h : UnitsOnly s t) : memFrame l s t := by
  obtain ⟨⟨x, hx⟩, hb⟩ := h
  exact ⟨(sameRegs.refl l s).of_regs (by rw [hx]), hb⟩

theorem UnitsOnly.rpl (h : UnitsOnly s t) : t.rpl = s.rpl := by obtain ⟨⟨x, rfl⟩, -⟩ := h; rfl

theorem UnitsOnly.beat (h : UnitsOnly s t) : t.beat = s.beat := by obtain ⟨⟨x, rfl⟩, -⟩ := h; rfl

/-- The journal's beat count and the replay, before the tracks are rebased. -/
def replayBegun (s : State) : State :=
  let anchor := s.pair .RPL_ANCHOR_LO .RPL_ANCHOR_HI
  { s with
    rpl := { s.rpl with replayAt := none, replaying := true, fresh := [], expected := [], closed := [], runs := [], lastBeat := anchor, skipTo := anchor,
                        advancing := [], switching := [] },
    beat := (anchor + 2 ^ 64 - 4096) % 2 ^ 64 }

/-- The state at W, without the guards of MUTE. -/
def replayStarted (s : State) : State :=
  (((tracksRebased (replayBegun s)).setFld F.RPL_STATUS_STATE 2).setFld F.RPL_STATUS_END_CAUSE 0).wr .RPL_DIV_INFO 0

/-- Every pin of the device gets the cause PWR. -/
def allGuarded (s : State) : State := eachSlice s fun s n => guardPins s n F.PIN_STATUS_CAUSE_PWR

theorem replayStart_due {k : Nat} (h : s.rpl.replayAt = some k) (hk : k ≤ s.now) :
    replayStart s = if (replayStarted s).flag F.RPL_CFG_MUTE then allGuarded (replayStarted s) else replayStarted s := by
  unfold replayStart
  rw [h]
  exact if_neg (Nat.not_lt.mpr hk)

theorem replayStart_waits (h : (s.rpl.replayAt.all fun k => decide (s.now < k)) = true) : replayStart s = s := by
  unfold replayStart
  cases hat : s.rpl.replayAt with
  | none => rfl
  | some k =>
    rw [hat] at h
    exact if_pos (of_decide_eq_true h)

/-- The registers of the start of a replay. -/
def replayParts : List Part := [F.RPL_STATUS_STATE.part [], F.RPL_STATUS_END_CAUSE.part [], { reg := .RPL_DIV_INFO, idx := [] }]

theorem memFrame_replayBegun (s : State) : memFrame [] s (replayBegun s) := (memFrame.refl _ s).of_eq rfl rfl rfl

theorem memFrame_replayStarted (s : State) : memFrame replayParts s (replayStarted s) :=
  (((((memFrame_replayBegun s).mono (by simp)).trans (unitsOnly_tracksRebased _).toMem).setFld _ _ (.of_mem (.head _) ..)).setFld _ _
    (.of_mem (.tail _ (.head _)) ..)).wr _ _ (.of_mem (.tail _ (.tail _ (.head _))) ..)

theorem replayStarted_shows (s : State) : (replayStarted s).beat = (s.pair .RPL_ANCHOR_LO .RPL_ANCHOR_HI + 2 ^ 64 - 4096) % 2 ^ 64 ∧
    (replayStarted s).rplState = 2 ∧ (replayStarted s).fld F.RPL_STATUS_END_CAUSE = 0 ∧ (replayStarted s).rd .RPL_DIV_INFO = 0 ∧
    (replayStarted s).rpl = (replayBegun s).rpl := by
  have hunits := unitsOnly_tracksRebased (replayBegun s)
  refine ⟨?_, ?_, ?_, State.rd_wr_same .., ?_⟩
  · rw [replayStarted, State.wr_beat, State.setFld_beat, State.setFld_beat, hunits.beat, replayBegun]
  · rw [replayStarted, State.rplState]
    simp (disch := decide)
  · rw [replayStarted]
    simp (disch := decide)
  · rw [replayStarted, State.wr_rpl, State.setFld_rpl, State.setFld_rpl, hunits.rpl]

/-! ### The pins under MUTE (R225, R676) -/

/-- The registers of the pins' guards. -/
def guardParts (n : Nat) : List Part := [{ reg := .PIN_STATUS, idx := [n] }, { reg := .PIN_GUARDED, idx := [n] }]

theorem State.flag_setFlag_index (s : State) (f g : Field) (b : Bool) {i j k m i' j' k' m' : Nat} (h : i' ≠ i ∨ j' ≠ j ∨ k' ≠ k ∨ m' ≠ m) :
    (s.setFlag f b i j k m).flag g i' j' k' m' = s.flag g i' j' k' m' := by
  rw [State.flag, State.setFlag, State.fld_setFld_index _ _ _ _ h, State.flag]

/-- One pin's measure unit is disconnected and it has the cause. -/
def causeStep (n : Fin 16) (s : State) (p : Nat) : State := (s.setFlag F.PIN_STATUS_CAUSE_PWR true n p).setFlag F.PIN_STATUS_PMU_CONN false n p

theorem causes_set (s : State) (n : Fin 16) : memFrame (guardParts n) s (eachPin s (causeStep n)) ∧
    ∀ p ∈ List.range 32, (eachPin s (causeStep n)).flag F.PIN_STATUS_CAUSE_PWR n p = true := by
  refine foldl_rec (I := memFrame (guardParts n) s) (P := fun p t => t.flag F.PIN_STATUS_CAUSE_PWR n p = true) _ (.refl _ s) (fun t p h => ?_)
    (fun t p _ => ?_) fun t p q _ hpq h => ?_
  · exact (h.setFlag F.PIN_STATUS_CAUSE_PWR true (.of_mem_reg (.head _) (by decide))).setFlag F.PIN_STATUS_PMU_CONN false
      (.of_mem_reg (.head _) (by decide))
  · rw [causeStep]
    simp (disch := decide)
  · rw [causeStep, State.flag_setFlag_index _ _ _ _ (.inr (.inl hpq)), State.flag_setFlag_index _ _ _ _ (.inr (.inl hpq)), h]

/-- One pin's GUARDED follows its causes. -/
def guardStep (n : Fin 16) (s : State) (p : Nat) : State :=
  let g := s.flag F.PIN_STATUS_CAUSE_IN n p || s.flag F.PIN_STATUS_CAUSE_PWR n p || s.flag F.PIN_STATUS_CAUSE_CHECK n p
  (s.setFlag F.PIN_STATUS_GUARDED g n p).wr .PIN_GUARDED (BitVec.ofNat 32 (putBit (s.rd .PIN_GUARDED n).toNat p g)) n

theorem guardRefresh_guards (n : Fin 16) (h : ∀ p ∈ List.range 32, s.flag F.PIN_STATUS_CAUSE_PWR n p = true) :
    memFrame (guardParts n) s (guardRefresh s n) ∧
      ∀ p ∈ List.range 32, (guardRefresh s n).flag F.PIN_STATUS_CAUSE_PWR n p = true ∧ (guardRefresh s n).flag F.PIN_STATUS_GUARDED n p = true := by
  have heq : guardRefresh s n = (List.range 32).foldl (guardStep n) s := rfl
  have hpwr : ∀ t p q, (guardStep n t p).flag F.PIN_STATUS_CAUSE_PWR n q = t.flag F.PIN_STATUS_CAUSE_PWR n q := fun t p q => by
    simp (disch := decide) [guardStep]
  rw [heq]
  have hall := foldl_rec (s := s) (f := guardStep n) (I := fun t => memFrame (guardParts n) s t ∧ ∀ p, t.flag F.PIN_STATUS_CAUSE_PWR n p =
      s.flag F.PIN_STATUS_CAUSE_PWR n p) (P := fun p t => s.flag F.PIN_STATUS_CAUSE_PWR n p = true → t.flag F.PIN_STATUS_GUARDED n p = true) (List.range 32)
    ⟨.refl _ s, fun _ => rfl⟩ (fun t p ht => ⟨?_, fun q => (hpwr t p q).trans (ht.2 q)⟩) (fun t p ht hs => ?_) fun t p q ht hpq hP hs => ?_
  · exact ⟨hall.1.1, fun p hp => ⟨(hall.1.2 p).trans (h p hp), hall.2 p hp (h p hp)⟩⟩
  · exact (ht.1.setFlag F.PIN_STATUS_GUARDED _ (.of_mem_reg (.head _) (by decide))).wr _ _ (.of_mem_index (.tail _ (.head _)))
  · rw [guardStep, ht.2 p, hs]
    simp (disch := decide)
  · rw [guardStep, State.flag_wr_apart _ _ _ _ _ _ _ _ _ _ _ _ (by decide), State.flag_setFlag_index _ _ _ _ (.inr (.inl hpq)), hP hs]

theorem guardPins_pwr (s : State) (n : Fin 16) : memFrame (guardParts n) s (guardPins s n F.PIN_STATUS_CAUSE_PWR) ∧
    ∀ p : Fin 32, (guardPins s n F.PIN_STATUS_CAUSE_PWR).flag F.PIN_STATUS_CAUSE_PWR n p = true ∧
      (guardPins s n F.PIN_STATUS_CAUSE_PWR).flag F.PIN_STATUS_GUARDED n p = true := by
  obtain ⟨hcause, hall⟩ := causes_set s n
  obtain ⟨hguard, hboth⟩ := guardRefresh_guards n hall
  exact ⟨(hcause.trans hguard).modSl n _ fun _ => rfl, fun p => hboth p (List.mem_range.mpr p.isLt)⟩

theorem flag_of_guardParts {n m : Nat} (h : memFrame (guardParts m) s t) (hn : n ≠ m) (f : Field) (p : Nat) : t.flag f n p = s.flag f n p := by
  refine congrArg (· == 1) (h.1.fld_eq f n p 0 0 fun b _ _ => ?_)
  simp [guardParts, Part.covers, List.isPrefixOf, Ne.symm hn]

theorem allGuarded_shows (s : State) : memFrame (globalParts [.PIN_STATUS, .PIN_GUARDED]) s (allGuarded s) ∧
    ∀ (n : Fin 16) (p : Fin 32), (allGuarded s).flag F.PIN_STATUS_CAUSE_PWR n p = true ∧ (allGuarded s).flag F.PIN_STATUS_GUARDED n p = true := by
  refine eachSlice_rec (I := memFrame (globalParts [.PIN_STATUS, .PIN_GUARDED]) s) (P := fun n t => ∀ p : Fin 32, t.flag F.PIN_STATUS_CAUSE_PWR n p = true ∧
    t.flag F.PIN_STATUS_GUARDED n p = true) (.refl _ s) (fun t n ht => ht.trans ?_) (fun t n _ => (guardPins_pwr t n).2) fun t n m _ hnm hP p => ?_
  · refine (guardPins_pwr t n).1.widen fun x hx => ?_
    simp only [guardParts, List.mem_cons, List.not_mem_nil, or_false] at hx
    rcases hx with rfl | rfl
    · exact ⟨{ reg := .PIN_STATUS, idx := [] }, by simp [globalParts], .index⟩
    · exact ⟨{ reg := .PIN_GUARDED, idx := [] }, by simp [globalParts], .index⟩
  · have hne : n.val ≠ m.val := fun e => hnm (Fin.ext e)
    rw [flag_of_guardParts (guardPins_pwr t m).1 hne, flag_of_guardParts (guardPins_pwr t m).1 hne]
    exact hP p

end
end Sys2Proof.Machine

namespace Sys2Proof.Machine

/-! ## The end of a replay (R677) -/

section
variable {s t u : State} {l : List Part} {n : Fin 16}

/-- What halting leaves in the state of a sequencer, and of a streamer. -/
def seqHaltedState (x : Nat) : Nat := if 1 ≤ x ∧ x ≤ 4 then 0 else x
def vecHaltedState (x : Nat) : Nat := if x ≤ 3 then 0 else x

theorem seqHaltedState_idem (x : Nat) : seqHaltedState (seqHaltedState x) = seqHaltedState x := by unfold seqHaltedState; split_ifs <;> omega
theorem vecHaltedState_idem (x : Nat) : vecHaltedState (vecHaltedState x) = vecHaltedState x := by unfold vecHaltedState; split_ifs <;> omega

theorem seqHalt_of_idle (h : ¬(1 ≤ seqState s n ∧ seqState s n ≤ 4)) : seqHalt s n = s := by
  refine if_neg ?_
  simp only [SeqCode.running, SeqCode.waiting, SeqCode.blocked, SeqCode.stalled]
  omega

/-- A sequencer halts: its state goes, and no register of another unit. -/
theorem seqHalt_shows (s : State) (n : Fin 16) : seqState (seqHalt s n) n = seqHaltedState (seqState s n) ∧ (seqHalt s n).rpl = s.rpl ∧
    memFrame [F.SEQ_STATUS_STATE.part [n]] s (seqHalt s n) := by
  by_cases h : 1 ≤ seqState s n ∧ seqState s n ≤ 4
  · rw [seqHalt_of_active h.1 h.2, seqHaltedState, if_pos h]
    have hmod : memFrame [F.SEQ_STATUS_STATE.part [n]] s (modSeq s n fun q => { q with pend := none, acted := true, starting := false, stepping := false }) :=
      (memFrame.refl _ s).modSeq _ _
    exact ⟨State.fld_setFld_same _ _ _ _ _ _ _ (by decide), State.setFld_rpl .., hmod.setFld _ _ (.of_mem_index (.head _))⟩
  · rw [seqHalt_of_idle h, seqHaltedState, if_neg h]
    exact ⟨rfl, rfl, .refl _ s⟩

/-! ### The streamer's capture (R187 to R191) -/

/-- The registers of a capture, none of them the state of the streamer. -/
def captureParts (n : Nat) : List Part :=
  [F.VEC_STATUS_FC_OVF.part [n], F.VEC_STATUS_FC_FULL.part [n], F.VEC_STATUS_FC_WRAPPED.part [n], { reg := .VEC_FC_LOST, idx := [n] },
   { reg := .VEC_FC_WP, idx := [n] }, { reg := .VEC_FC_RECS, idx := [n] }, { reg := .SLC_CONFLICT, idx := [n] }]

/-- Capturing: its registers and the units of slices change. -/
structure Captures (n : Fin 16) (s t : State) : Prop where
  frame : memFrame (captureParts n) s t
  rpl : t.rpl = s.rpl

theorem Captures.refl (n : Fin 16) (s : State) : Captures n s s := ⟨.refl _ s, rfl⟩

theorem Captures.modVec (h : Captures n s t) (f : Streamer → Streamer) : Captures n s (modVec t n f) := ⟨h.frame.modSl n _ fun _ => rfl, h.rpl⟩

theorem Captures.setFlag (h : Captures n s t) (f : Field) (b : Bool) (hl : holdsFld (captureParts n) f n 0 0 0) : Captures n s (t.setFlag f b n) :=
  ⟨h.frame.setFlag f b hl, (State.setFlag_rpl ..).trans h.rpl⟩

theorem Captures.count (h : Captures n s t) (r : Reg) {j : Nat} (hl : holdsReg (captureParts n) r n j 0 0) : Captures n s (t.count r n j) :=
  ⟨h.frame.count r hl, (State.count_rpl ..).trans h.rpl⟩

theorem Captures.countBy (h : Captures n s t) (r : Reg) (k : Nat) (hl : holdsReg (captureParts n) r n 0 0 0) : Captures n s (t.countBy r k n) :=
  ⟨h.frame.countBy r k hl, (State.countBy_rpl ..).trans h.rpl⟩

theorem Captures.ite {p : Prop} {_ : Decidable p} (h : Captures n s t) (h' : Captures n s u) : Captures n s (if p then t else u) := by
  split <;> assumption

theorem Captures.capturePut (h : Captures n s t) (r : List Byte) : Captures n s (capturePut t n r) := by
  have hlost : Captures n s ((t.count .VEC_FC_LOST n).setFlag F.VEC_STATUS_FC_FULL true n) :=
    (h.count .VEC_FC_LOST (.of_mem_index (.tail _ (.tail _ (.tail _ (.head _)))))).setFlag _ _ (.of_mem_index (.tail _ (.head _)))
  have hwp : ∀ {u : State}, Captures n s u → ∀ v, Captures n s (u.setFld F.VEC_FC_WP_OFFSET v n) := fun hu v =>
    ⟨hu.frame.setFld _ _ (.of_mem_reg (.tail _ (.tail _ (.tail _ (.tail _ (.head _))))) (by decide)), (State.setFld_rpl ..).trans hu.rpl⟩
  have hrecs : ∀ {u : State}, Captures n s u → Captures n s (u.count .VEC_FC_RECS n) := fun hu =>
    hu.count _ (.of_mem_index (.tail _ (.tail _ (.tail _ (.tail _ (.tail _ (.head _)))))))
  exact .ite hlost (.ite (hrecs (hwp (h.modVec _) _)) (.ite (hrecs ((hwp (h.modVec _) _).setFlag _ _ (.of_mem_index (.tail _ (.tail _ (.head _)))))) hlost))

theorem Captures.foldl_capturePut (h : Captures n s t) (rs : List (List Byte)) : Captures n s (rs.foldl (fun s r => Machine.capturePut s n r) t) :=
  List.foldlRecOn (motive := Captures n s) _ _ h fun _ hu r _ => hu.capturePut r

theorem Captures.conflict (h : Captures n s t) (m : Fin 7) : Captures n s (t.conflict n m) := by
  refine .ite (Captures.count ?_ .SLC_CONFLICT (.of_mem_index (.tail _ (.tail _ (.tail _ (.tail _ (.tail _ (.tail _ (.head _))))))))) h
  exact ⟨h.frame.modSl n _ fun _ => rfl, h.rpl⟩

theorem Captures.captureIn (h : Captures n s t) (index : Nat) (rs : List (List Byte)) : Captures n s (captureIn t n index rs) := by
  have hfull := fun f : Streamer → Streamer => (((h.countBy .VEC_FC_LOST rs.length (.of_mem_index (.tail _ (.tail _ (.tail _ (.head _)))))).setFlag
    F.VEC_STATUS_FC_OVF true (.of_mem_index (.head _))).conflict 4).modVec f
  exact .ite h (.ite (.ite (h.foldl_capturePut rs) (hfull _)) (.ite (((h.capturePut _).capturePut _).modVec _ |>.foldl_capturePut rs) (hfull _)))

theorem Captures.marker (h : Captures n s t) (kind index data : Nat) : Captures n s (marker t n kind index data) := h.captureIn _ _

theorem Captures.trans (h : Captures n s t) (h' : Captures n t u) : Captures n s u := ⟨h.frame.trans h'.frame, h'.rpl.trans h.rpl⟩

theorem Captures.fld (h : Captures n s t) {f : Field} (hf : ∀ x ∈ captureParts 0, x.reg ≠ f.reg) (i j k m : Nat) : t.fld f i j k m = s.fld f i j k m :=
  h.frame.1.fld_of_reg (by simpa [captureParts, Field.part] using hf) i j k m

/-- No journal records, nor compares. -/
def JournalOff (s : State) : Prop := s.rplState ≠ 1 ∧ s.rplState ≠ 2

theorem JournalOff.of_rplState (h : JournalOff s) (ht : t.rplState = s.rplState) : JournalOff t := by rwa [JournalOff, ht]

theorem journal_of_off (h : JournalOff s) (type src index data : Nat) : s.journal type src index data = s :=
  if_neg fun hp => hp.elim h.1 fun hp => h.2 hp.1

theorem Captures.rplState (h : Captures n s t) : t.rplState = s.rplState := h.fld (by decide) ..

theorem Captures.matchMark (h : Captures n s t) (hoff : JournalOff s) (r : VectorRun) (data : Nat) : Captures n s (matchMark t n r data) := by
  have hmark := fun head => h.marker 11 head data
  unfold Machine.matchMark
  dsimp only
  rw [journal_of_off (hoff.of_rplState (hmark _).rplState), ite_self]
  exact hmark _

/-- A run of the streamer is cut. -/
theorem Captures.repeatCut (hoff : JournalOff s) : Captures n s (repeatCut s n) := by
  unfold Machine.repeatCut
  split
  · exact .refl n s
  · next r _ =>
    have hrun := (Captures.refl n s).modVec fun v => { v with run := none }
    by_cases h4 : r.vop = 4
    · simp only [if_pos h4]
      exact hrun.matchMark hoff _ _
    · by_cases h5 : r.vop = 5
      · simp only [if_neg h4, if_pos h5, repeatEnd, if_pos (Or.inl h5 : r.vop = 5 ∨ r.vop = 1 ∧ false = true)]
        exact hrun.marker _ _ _
      · simp only [if_neg h4, if_neg h5]
        exact hrun

/-! ### Halting the streamer -/

/-- The registers of a streamer's halt. -/
def haltParts (n : Nat) : List Part := captureParts n ++ [F.VEC_STATUS_STATE.part [n]]

theorem vecState_setVecState (s : State) (n : Fin 16) (v : Nat) : vecState (setVecState s n v) n = v % 8 := State.fld_setFld_same _ _ _ _ _ _ _ (by decide)

theorem memFrame.setVecState (h : memFrame (haltParts n) s t) (v : Nat) : memFrame (haltParts n) s (setVecState t n v) :=
  h.setFld _ _ (.of_mem_index (by simp [haltParts]))

theorem Captures.haltPins (h : Captures n s t) : Captures n s (haltPins t n) := by
  unfold Machine.haltPins
  exact h.modVec _

/-- The streamer leaves RUNNING where every open window becomes incomplete. -/
theorem vecStop_shows (h : Captures n s t) (v : Nat) : vecState (vecStop t n v) n = v % 8 ∧ (vecStop t n v).rpl = s.rpl ∧
    memFrame (haltParts n) s (vecStop t n v) := by
  have hpins : Captures n s (haltPins (modVec t n fun v => { v with run := none }) n) := (h.modVec _).haltPins
  have hset : memFrame (haltParts n) s (setVecState (haltPins (modVec t n fun v => { v with run := none }) n) n v) :=
    memFrame.setVecState (hpins.frame.mono fun x hx => List.mem_append_left _ hx) v
  have hrpl : (setVecState (haltPins (modVec t n fun v => { v with run := none }) n) n v).rpl = s.rpl := (State.setFld_rpl ..).trans hpins.rpl
  exact ⟨vecState_setVecState _ n v, hrpl, hset.modSl n _ fun _ => rfl⟩

/-- A streamer halts by the host: its state goes, its capture may change, and no other register. -/
theorem vecHaltNow_shows (hoff : JournalOff s) : vecState (vecHaltNow s n true) n = vecHaltedState (vecState s n) ∧ (vecHaltNow s n true).rpl = s.rpl ∧
    memFrame (haltParts n) s (vecHaltNow s n true) := by
  by_cases h1 : vecState s n = 1
  · obtain ⟨hst, hrpl, hframe⟩ := vecStop_shows ((Captures.repeatCut (n := n) hoff).marker 3 (vecIndex s n) (bit01 true)) 0
    have heq : vecHaltNow s n true = vecStop (marker (repeatCut s n) n 3 (vecIndex s n) (bit01 true)) n 0 := by
      simp only [vecHaltNow, vecHaltRun, if_pos h1, vecStop]
    rw [heq, hst, h1]
    exact ⟨rfl, hrpl, hframe⟩
  · by_cases h23 : vecState s n = 2 ∨ vecState s n = 3
    · have heq : vecHaltNow s n true = setVecState s n 0 := by simp only [vecHaltNow, vecHaltRun, if_neg h1, if_pos h23]
      rw [heq, vecState_setVecState, vecHaltedState, if_pos (by omega)]
      exact ⟨rfl, State.setFld_rpl .., (memFrame.refl _ s).setVecState 0⟩
    · have heq : vecHaltNow s n true = s := by simp only [vecHaltNow, vecHaltRun, if_neg h1, if_neg h23]
      rw [heq, vecHaltedState]
      exact ⟨by split_ifs <;> omega, rfl, .refl _ s⟩

/-! ### Every sequencer and streamer halts -/

/-- One slice's sequencer and streamer halt. -/
def haltStep (s : State) (n : Fin 16) : State := vecHaltNow (seqHalt s n) n true

/-- The registers that the halt of every slice may change. -/
def haltAllParts : List Part := allSlices.flatMap sliceParts

theorem slicePart_mem {r : Reg} (hr : ({ reg := r, idx := [0] } : Part) ∈ sliceParts 0) (n : Fin 16) : ({ reg := r, idx := [n.val] } : Part) ∈ haltAllParts := by
  refine List.mem_flatMap.mpr ⟨n, List.mem_finRange n, ?_⟩
  obtain ⟨x, hx, he⟩ := List.mem_map.mp hr
  obtain rfl : x = r := congrArg Part.reg he
  exact List.mem_map.mpr ⟨x, hx, rfl⟩

/-- What a slice's halt leaves in its units, and of the registers. -/
theorem haltStep_shows (hoff : JournalOff s) (n : Fin 16) : seqState (haltStep s n) n = seqHaltedState (seqState s n) ∧
    vecState (haltStep s n) n = vecHaltedState (vecState s n) ∧ (haltStep s n).rpl = s.rpl ∧
    memFrame (F.SEQ_STATUS_STATE.part [n] :: haltParts n) s (haltStep s n) := by
  obtain ⟨hseq, hrpl, hframe⟩ := seqHalt_shows s n
  obtain ⟨hvec, hrpl', hframe'⟩ := vecHaltNow_shows (n := n) (hoff.of_rplState (hframe.1.fld_of_reg (by simp [Field.part]; decide) ..))
  refine ⟨?_, ?_, hrpl'.trans hrpl, (hframe.mono (by simp)).trans (hframe'.mono fun x hx => List.mem_cons_of_mem _ hx)⟩
  · rw [haltStep, seqState, hframe'.1.fld_of_reg (by simp [haltParts, captureParts, Field.part]; decide)]
    exact hseq
  · rw [haltStep, hvec, vecState, hframe.1.fld_of_reg (by simp [Field.part]; decide)]
    rfl

theorem field_within_slices {f : Field} (hr : ({ reg := f.reg, idx := [0] } : Part) ∈ sliceParts 0) (hw : f.lo + f.width ≤ 32) (n : Fin 16) :
    ∃ y ∈ haltAllParts, (f.part [n.val]).Within y := ⟨_, slicePart_mem hr n, .field hw⟩

theorem reg_within_slices {r : Reg} (hr : ({ reg := r, idx := [0] } : Part) ∈ sliceParts 0) (n : Fin 16) :
    ∃ y ∈ haltAllParts, ({ reg := r, idx := [n.val] } : Part).Within y := ⟨_, slicePart_mem hr n, .refl _⟩

theorem haltStep_within (n : Fin 16) : ∀ x ∈ F.SEQ_STATUS_STATE.part [n.val] :: haltParts n, ∃ y ∈ haltAllParts, x.Within y := by
  intro x hx
  simp only [haltParts, captureParts, List.cons_append, List.nil_append, List.mem_cons, List.not_mem_nil, or_false] at hx
  rcases hx with rfl | rfl | rfl | rfl | rfl | rfl | rfl | rfl | rfl
  · exact field_within_slices (by decide) (by decide) n
  · exact field_within_slices (by decide) (by decide) n
  · exact field_within_slices (by decide) (by decide) n
  · exact field_within_slices (by decide) (by decide) n
  · exact reg_within_slices (by decide) n
  · exact reg_within_slices (by decide) n
  · exact reg_within_slices (by decide) n
  · exact reg_within_slices (by decide) n
  · exact field_within_slices (by decide) (by decide) n

/-- What a halt of other slices leaves of a field of this one. -/
theorem fld_of_haltParts {m : Fin 16} (h : memFrame (F.SEQ_STATUS_STATE.part [m.val] :: haltParts m) s t) (hn : n ≠ m) (f : Field) :
    t.fld f n = s.fld f n := by
  have hne : m.val ≠ n.val := fun e => hn (Fin.ext e.symm)
  refine h.1.fld_eq f n 0 0 0 fun b _ _ => ?_
  simp [haltParts, captureParts, Part.covers, Field.part, List.isPrefixOf, hne]

theorem haltAllParts_reg {r : Reg} (hr : ({ reg := r, idx := [0] } : Part) ∉ sliceParts 0) : ∀ x ∈ haltAllParts, x.reg ≠ r := by
  intro x hx e
  obtain ⟨n, -, hn⟩ := List.mem_flatMap.mp hx
  obtain ⟨y, hy, rfl⟩ := List.mem_map.mp hn
  obtain rfl : y = r := e
  exact hr (List.mem_map.mpr ⟨y, hy, rfl⟩)

/-- Every sequencer and streamer halts. -/
def allHalted (s : State) : State := eachSlice s haltStep

/-- Some slices have halted: every state goes on to the same end. -/
structure HaltedSome (s t : State) : Prop where
  rpl : t.rpl = s.rpl
  frame : memFrame haltAllParts s t
  seq : ∀ n, seqHaltedState (seqState t n) = seqHaltedState (seqState s n)
  vec : ∀ n, vecHaltedState (vecState t n) = vecHaltedState (vecState s n)

theorem HaltedSome.off (h : HaltedSome s t) (hoff : JournalOff s) : JournalOff t := hoff.of_rplState (h.frame.1.fld_of_reg (haltAllParts_reg (by decide +kernel)) ..)

theorem HaltedSome.haltStep (h : HaltedSome s t) (hoff : JournalOff s) (n : Fin 16) : HaltedSome s (haltStep t n) := by
  obtain ⟨hseq, hvec, hrpl, hframe⟩ := haltStep_shows (h.off hoff) n
  refine ⟨hrpl.trans h.rpl, h.frame.trans (hframe.widen (haltStep_within n)), fun k => ?_, fun k => ?_⟩
  · by_cases hk : k = n
    · rw [hk, hseq, seqHaltedState_idem, h.seq n]
    · rw [seqState, fld_of_haltParts hframe hk]
      exact h.seq k
  · by_cases hk : k = n
    · rw [hk, hvec, vecHaltedState_idem, h.vec n]
    · rw [vecState, fld_of_haltParts hframe hk]
      exact h.vec k

theorem allHalted_shows (hoff : JournalOff s) : HaltedSome s (allHalted s) ∧ ∀ n, seqState (allHalted s) n = seqHaltedState (seqState s n) ∧
    vecState (allHalted s) n = vecHaltedState (vecState s n) := by
  refine eachSlice_rec (I := HaltedSome s) (P := fun n t => seqState t n = seqHaltedState (seqState s n) ∧ vecState t n = vecHaltedState (vecState s n))
    ⟨rfl, .refl _ s, fun _ => rfl, fun _ => rfl⟩ (fun t n h => h.haltStep hoff n) (fun t n h => ?_) fun t n m h hnm hP => ?_
  · obtain ⟨hseq, hvec, -, -⟩ := haltStep_shows (h.off hoff) n
    exact ⟨hseq.trans (h.seq n), hvec.trans (h.vec n)⟩
  · obtain ⟨-, -, -, hframe⟩ := haltStep_shows (h.off hoff) m
    rw [seqState, fld_of_haltParts hframe hnm, vecState, fld_of_haltParts hframe hnm]
    exact hP

/-! ### The end -/

/-- The registers of a replay that has ended, before the units halt. -/
def replayStopped (s : State) (cause : Nat) : State :=
  ((modRpl s fun j => { j with replaying := false, expected := [], closed := [], runs := [], advancing := [], switching := [] }).setFld
    F.RPL_STATUS_STATE 3).setFld F.RPL_STATUS_END_CAUSE cause

theorem replayEnd_of_replaying (h : s.rplState = 2) (cause : Nat) : replayEnd s cause = allHalted (replayStopped s cause) := if_neg (not_not.mpr h)

theorem replayEnd_of_idle (h : s.rplState ≠ 2) (cause : Nat) : replayEnd s cause = s := if_pos h

/-- The registers of a replay's end. -/
def replayEndParts : List Part := [F.RPL_STATUS_STATE.part [], F.RPL_STATUS_END_CAUSE.part []] ++ haltAllParts

/-- What the end of a replay leaves (R677). -/
theorem replayEnd_shows (h : s.rplState = 2) {cause : Nat} (hc : cause < 8) :
    (replayEnd s cause).rplState = 3 ∧ (replayEnd s cause).fld F.RPL_STATUS_END_CAUSE = cause ∧ (replayEnd s cause).rpl.replaying = false ∧
      (replayEnd s cause).rpl.expected = [] ∧ (∀ n, seqState (replayEnd s cause) n = if 1 ≤ seqState s n ∧ seqState s n ≤ 4 then 0 else seqState s n) ∧
      (∀ n, vecState s n ≤ 3 → vecState (replayEnd s cause) n = 0) ∧ memFrame replayEndParts s (replayEnd s cause) := by
  have hmod : memFrame [F.RPL_STATUS_STATE.part [], F.RPL_STATUS_END_CAUSE.part []] s (replayStopped s cause) :=
    (((memFrame.refl _ s).modRpl _).setFld _ _ (.of_mem (.head _) ..)).setFld _ _ (.of_mem (.tail _ (.head _)) ..)
  have hst : (replayStopped s cause).rplState = 3 := by
    rw [replayStopped, State.rplState]
    simp (disch := decide)
  have hcause : (replayStopped s cause).fld F.RPL_STATUS_END_CAUSE = cause :=
    (State.fld_setFld_same _ _ _ _ _ _ _ (by decide)).trans (Nat.mod_eq_of_lt hc)
  have hrpl : (replayStopped s cause).rpl = { s.rpl with replaying := false, expected := [], closed := [], runs := [], advancing := [], switching := [] } := by
    rw [replayStopped, State.setFld_rpl, State.setFld_rpl, rpl_modRpl]
  obtain ⟨⟨hkeep, hframe, -, -⟩, hstates⟩ := allHalted_shows (s := replayStopped s cause) ⟨by rw [hst]; decide, by rw [hst]; decide⟩
  have hglobal : ∀ f : Field, f.reg = .RPL_STATUS → (allHalted (replayStopped s cause)).fld f = (replayStopped s cause).fld f := fun f hf =>
    hframe.1.fld_of_reg (by rw [hf]; exact haltAllParts_reg (by decide +kernel)) ..
  rw [replayEnd_of_replaying h]
  refine ⟨(hglobal _ rfl).trans hst, (hglobal _ rfl).trans hcause, by rw [hkeep, hrpl], by rw [hkeep, hrpl], fun n => ?_, fun n hn => ?_,
    (hmod.mono fun x hx => List.mem_append_left _ hx).trans (hframe.mono fun x hx => List.mem_append_right _ hx)⟩
  · rw [(hstates n).1, seqState, hmod.1.fld_of_reg (by decide)]
    rfl
  · rw [(hstates n).2, vecState, hmod.1.fld_of_reg (by decide)]
    exact if_pos hn

end
end Sys2Proof.Machine

namespace Sys2Proof.Machine

/-! ## The records of a replay (R666, R674) -/

section
variable {s t u : State} {l : List Part} {r : JRecord}

theorem CalmStore.rpl_eccRead {id : StoreId} (h : CalmStore id s) (line : Nat) : (s.eccRead id line).rpl = s.rpl := by
  have hce : ∀ k, (s.countCe id k).rpl = s.rpl := fun k => by
    cases id
    · exact State.countBy_rpl ..
    · exact State.countBy_rpl ..
  have haddr : ∀ (u : State) line word ue, (u.setEccAddr id line word ue).rpl = u.rpl := fun u line word ue => by
    cases id
    · exact ((State.setFld_rpl ..).trans (State.setFld_rpl ..)).trans (State.setFld_rpl ..)
    · exact ((State.setFld_rpl ..).trans (State.setFld_rpl ..)).trans (State.setFld_rpl ..)
  unfold State.eccRead
  rw [h.linePoison]
  simp only [List.isEmpty_nil, if_true]
  split
  · rfl
  · rw [State.setStore_rpl, haddr, hce]

/-- A read of a calm store makes no journal record. -/
theorem CalmStore.rpl_rangeRead {id : StoreId} (h : CalmStore id s) (a k : Nat) : (Machine.rangeRead s id a k).2.2.rpl = s.rpl := by
  unfold Machine.rangeRead
  split
  · rfl
  · refine (List.foldlRecOn (motive := fun x : List Nat × State => CalmStore id x.2 ∧ x.2.rpl = s.rpl) _ _ ⟨h, rfl⟩ fun x hx line _ => ?_).2
    obtain ⟨hc, hr⟩ := hx
    simp only [hc.lineRead]
    exact ⟨hc.worked (hc.worked_eccRead line), (hc.rpl_eccRead line).trans hr⟩

/-- The state after the next record has been read: corrected errors may have counted. -/
structure RecordRead (s t : State) : Prop where
  worked : WorkedOn .central s t
  bytes : sameBytes s t
  rpl : t.rpl = s.rpl

theorem RecordRead.frame (h : RecordRead s t) : memFrame (eccParts .central) s t := ⟨h.worked.regs, h.bytes⟩

theorem RecordRead.beat (h : RecordRead s t) : t.beat = s.beat := h.worked.keep State.beat fun _ _ _ _ => rfl

/-- The record at the read offset of a calm ring. -/
def ringRecord (s : State) : JRecord :=
  JRecord.ofBytes (s.cstore.read ((s.fld F.RPL_RING_BASE_LINE * 128 + s.fld F.RPL_REPLAY_RP_OFFSET % ringCap s * 16) % 2 ^ 24) 16)

theorem replayNext_calm (hi : s.flt.inject = none) (hd : s.cstore.double = []) (hon : s.storeOn .central = true)
    (hne : ¬(s.fld F.RPL_REPLAY_RP_OFFSET % ringCap s = s.fld F.RPL_REPLAY_WP_OFFSET % ringCap s)) :
    ∃ t, replayNext s = (some (ringRecord s), false, t) ∧ RecordRead s t := by
  have hcalm : CalmStore .central s := ⟨hd, hi⟩
  obtain ⟨t, ht, hw, hb⟩ := hcalm.rangeRead ((s.fld F.RPL_RING_BASE_LINE * 128 + s.fld F.RPL_REPLAY_RP_OFFSET % ringCap s * 16) % 2 ^ 24) 16
  have hrpl := hcalm.rpl_rangeRead ((s.fld F.RPL_RING_BASE_LINE * 128 + s.fld F.RPL_REPLAY_RP_OFFSET % ringCap s * 16) % 2 ^ 24) 16
  rw [ht] at hrpl
  refine ⟨t, ?_, hw, hb, hrpl⟩
  unfold replayNext
  dsimp only
  rw [if_neg (by simp [hne, hon]), ht]
  rfl

/-- A calm ring holds a record while a replay runs. -/
structure RecordWaits (s : State) (r : JRecord) : Prop where
  replaying : s.rplState = 2
  free : s.flt.inject = none
  clean : s.cstore.double = []
  on : s.storeOn .central = true
  more : ¬(s.fld F.RPL_REPLAY_RP_OFFSET % ringCap s = s.fld F.RPL_REPLAY_WP_OFFSET % ringCap s)
  record : ringRecord s = r

/-- The beat of a record (R666). -/
def recordBeat (s : State) (r : JRecord) : Nat :=
  if r.type = JType.PAD then s.rpl.lastBeat else if r.type = JType.SYNC then r.data else fullBeat s r.beat

/-- What a record of the ring does once it has been read. -/
theorem replayRecord_waits (h : RecordWaits s r) : ∃ t, RecordRead s t ∧ replayRecord s =
    if r.type = JType.PAD ∨ r.type = JType.SYNC ∨ r.type = JType.RELOAD then replayTaken t (recordBeat s r)
    else if r.type = JType.IMAGE then replayImage (replayTaken t s.rpl.lastBeat) r (recordBeat s r)
    else if recordBeat s r < s.rpl.skipTo then replayTaken t (recordBeat s r)
    else if s.beat < recordBeat s r then s
    else if recordBeat s r < s.beat then replayEnd s 2
    else replayAct (replayTaken t (recordBeat s r)) r (recordBeat s r) := by
  obtain ⟨t, ht, hread⟩ := replayNext_calm h.free h.clean h.on h.more
  rw [h.record] at ht
  refine ⟨t, hread, ?_⟩
  unfold replayRecord
  rw [if_neg (not_not.mpr h.replaying), ht]
  rfl

/-- The registers of a record that is taken. -/
def takenParts : List Part := F.RPL_REPLAY_RP_OFFSET.part [] :: eccParts .central

/-- What taking a record leaves. -/
theorem replayTaken_shows (h : RecordRead s t) (beat : Nat) :
    (replayTaken t beat).fld F.RPL_REPLAY_RP_OFFSET = (s.fld F.RPL_REPLAY_RP_OFFSET + 1) % ringCap s ∧
      (replayTaken t beat).rpl = { s.rpl with lastBeat := beat } ∧ memFrame takenParts s (replayTaken t beat) := by
  have hcap : ringCap t = ringCap s := ringCap_congr (h.frame.1.fld_of_reg (by decide) ..)
  have hoff : t.fld F.RPL_REPLAY_RP_OFFSET = s.fld F.RPL_REPLAY_RP_OFFSET := h.frame.1.fld_of_reg (by decide) ..
  have hpos : 0 < ringCap s := by
    have : 512 ≤ ringLines s := by rw [ringLines, clampNat]; split_ifs <;> omega
    unfold ringCap
    omega
  have hfit : (s.fld F.RPL_REPLAY_RP_OFFSET + 1) % ringCap s < 2 ^ F.RPL_REPLAY_RP_OFFSET.width :=
    Nat.lt_of_lt_of_le (Nat.mod_lt _ hpos) (ringCap_le s)
  refine ⟨?_, ?_, ?_⟩
  · rw [replayTaken, fld_modRpl, State.fld_setFld_same _ _ _ _ _ _ _ (by decide), hcap, hoff, Nat.mod_eq_of_lt hfit]
  · rw [replayTaken, rpl_modRpl, State.setFld_rpl, h.rpl]
  · exact ((h.frame.mono fun x hx => List.mem_cons_of_mem _ hx).setFld _ _ (.of_mem (.head _) ..)).modRpl _

/-- A PAD or SYNC record, or one before the anchor. -/
theorem replayRecord_frame (h : RecordWaits s r) (ht : r.type = JType.PAD ∨ r.type = JType.SYNC) :
    ∃ t, RecordRead s t ∧ replayRecord s = replayTaken t (recordBeat s r) := by
  obtain ⟨t, hread, heq⟩ := replayRecord_waits h
  exact ⟨t, hread, heq.trans (if_pos (ht.imp_right .inl))⟩

/-- A record whose beat has come. -/
theorem replayRecord_acts (h : RecordWaits s r) (hframe : ¬(r.type = JType.PAD ∨ r.type = JType.SYNC ∨ r.type = JType.RELOAD)) (himage : r.type ≠ JType.IMAGE)
    (hbeat : fullBeat s r.beat = s.beat) (hskip : s.rpl.skipTo ≤ s.beat) :
    ∃ t, RecordRead s t ∧ replayRecord s = replayAct (replayTaken t s.beat) r s.beat := by
  obtain ⟨t, hread, heq⟩ := replayRecord_waits h
  have hb : recordBeat s r = s.beat := by
    rw [recordBeat, if_neg fun e => hframe (.inl e), if_neg fun e => hframe (.inr (.inl e)), hbeat]
  rw [hb, if_neg hframe, if_neg himage, if_neg (Nat.not_lt.mpr hskip), if_neg (Nat.lt_irrefl _), if_neg (Nat.lt_irrefl _)] at heq
  exact ⟨t, hread, heq⟩

/-- A record whose beat is not the present one waits, or ends the replay. -/
theorem replayRecord_apart (h : RecordWaits s r) (hgap : JType.GAP ≤ r.type) (himage : r.type ≠ JType.IMAGE) (hreload : r.type ≠ JType.RELOAD)
    (hskip : s.rpl.skipTo ≤ fullBeat s r.beat) :
    (s.beat < fullBeat s r.beat → replayRecord s = s) ∧ (fullBeat s r.beat < s.beat → replayRecord s = replayEnd s 2) := by
  have hpad : r.type ≠ JType.PAD := fun e => absurd (e ▸ hgap) (by decide)
  have hsync : r.type ≠ JType.SYNC := fun e => absurd (e ▸ hgap) (by decide)
  obtain ⟨t, -, heq⟩ := replayRecord_waits h
  have hb : recordBeat s r = fullBeat s r.beat := by rw [recordBeat, if_neg hpad, if_neg hsync]
  rw [hb, if_neg (by simp [hpad, hsync, hreload]), if_neg himage, if_neg (Nat.not_lt.mpr hskip)] at heq
  exact ⟨fun hlt => heq.trans (if_pos hlt), fun hlt => heq.trans ((if_neg (Nat.lt_asymm hlt)).trans (if_pos hlt))⟩

theorem replayAct_anchor (ht : r.type = JType.ANCHOR) (beat : Nat) : replayAct s r beat = setWheelState s (toFin 16 r.index) 2 := by
  unfold replayAct
  rw [ht]
  rfl

theorem replayAct_gap (ht : r.type = JType.GAP) (beat : Nat) : replayAct s r beat = replayEnd s 4 := by
  unfold replayAct
  rw [ht]
  rfl

theorem replayAct_decision (ht : r.type = JType.DECISION) (beat : Nat) :
    replayAct s r beat = modRpl s fun j => { j with expected := j.expected ++ [{ r with beat := beat }] } := by
  unfold replayAct
  rw [ht]
  rfl

theorem replayEndParts_reg {r : Reg} (hs : r ≠ .RPL_STATUS) (hr : ({ reg := r, idx := [0] } : Part) ∉ sliceParts 0) : ∀ x ∈ replayEndParts, x.reg ≠ r := by
  intro x hx
  rcases List.mem_append.mp hx with hx | hx
  · simp only [List.mem_cons, List.not_mem_nil, or_false] at hx
    rcases hx with rfl | rfl
    · exact hs.symm
    · exact hs.symm
  · exact haltAllParts_reg hr x hx

theorem memFrame.replayEnd_mono (h : memFrame replayEndParts s t) (hl : ∀ x ∈ [F.RPL_STATUS_STATE.part [], F.RPL_STATUS_END_CAUSE.part []], x ∈ l) :
    memFrame (l ++ haltAllParts) s t :=
  h.mono fun x hx => (List.mem_append.mp hx).elim (fun hx => List.mem_append_left _ (hl x hx)) fun hx => List.mem_append_right _ hx

theorem journalEnable_refused (h : s.rplState = 2 ∨ s.rplState = 3) : journalEnable s = s.setFlag F.RPL_STATUS_REFUSED true := by
  unfold journalEnable
  rcases h with h | h
  · rw [h]; rfl
  · rw [h]; rfl

theorem mute_replayStarted (s : State) : (replayStarted s).flag F.RPL_CFG_MUTE = s.flag F.RPL_CFG_MUTE :=
  (memFrame_replayStarted s).1.flag_of_reg (by decide) ..

theorem replayStart_plain {k : Nat} (h : s.rpl.replayAt = some k) (hk : k ≤ s.now) (hmute : s.flag F.RPL_CFG_MUTE = false) :
    replayStart s = replayStarted s := by
  rw [replayStart_due h hk, mute_replayStarted, hmute, if_neg Bool.false_ne_true]

theorem replayStart_muted {k : Nat} (h : s.rpl.replayAt = some k) (hk : k ≤ s.now) (hmute : s.flag F.RPL_CFG_MUTE = true) :
    replayStart s = allGuarded (replayStarted s) := by
  rw [replayStart_due h hk, mute_replayStarted, hmute, if_pos rfl]

end

/-- Settles O54: the commands of the journal, the start of a replay, its records and its ends. -/
theorem journalAndReplay : Obligations.JournalAndReplay := by
  unfold Obligations.JournalAndReplay
  refine ⟨fun s h hlen hring => ?_,
    fun s h => ⟨s.setFlag F.RPL_STATUS_REFUSED true, congrArg Host.Outcome.next (journalEnable_refused h), by simp (disch := decide), State.setFlag_rpl ..,
      (memFrame.refl _ s).setFlag _ _ (.of_mem (.head _) ..)⟩,
    fun s h hr ha hf => ⟨_, congrArg Host.Outcome.next (journalDisable_recording h hr ha hf), ?_⟩,
    fun s h => ⟨s.setFlag F.RPL_CFG_EN false, congrArg Host.Outcome.next (if_neg h), by simp (disch := decide), State.setFlag_rpl ..,
      State.fld_setFlag_apart _ _ _ _ _ _ _ _ _ _ _ _ (by decide), (memFrame.refl _ s).setFlag _ _ (.of_mem (.head _) ..)⟩,
    fun s hf hl ht => ⟨_, congrArg Host.Outcome.next (journalPartial_due hf hl ht), rfl, rfl, (memFrame.refl _ s).modRpl _⟩,
    fun s hf hi => congrArg Host.Outcome.next (journalPartial_idle hf hi),
    fun s hf => ⟨_, congrArg Host.Outcome.next (journalFlush_empty hf), rfl, rfl, (memFrame.refl _ s).modRpl _⟩,
    fun s rp h hk => ⟨_, congrArg Host.Outcome.next (journalSpill_within h hk),
      (State.fld_setFld_same _ _ _ _ _ _ _ (by decide)).trans (Nat.mod_eq_of_lt (Nat.lt_of_lt_of_le h (ringCap_le s))),
      (memFrame.refl _ s).setFld _ _ (.of_mem (.head _) ..)⟩,
    fun s rp h => congrArg Host.Outcome.next (journalSpill_beyond h),
    fun s h => ⟨_, congrArg Host.Outcome.next (if_pos h), rfl, (memFrame.refl _ s).modRpl _⟩,
    fun s h => ⟨s.setFlag F.RPL_STATUS_REFUSED true, congrArg Host.Outcome.next (if_neg (by rw [h]; exact Bool.false_ne_true)), by simp (disch := decide),
      State.setFlag_rpl .., (memFrame.refl _ s).setFlag _ _ (.of_mem (.head _) ..)⟩,
    fun s k h hk hmute => ⟨_, congrArg Host.Outcome.next (replayStart_plain h hk hmute), ?_⟩,
    fun s k h hk hmute => ⟨_, congrArg Host.Outcome.next (replayStart_muted h hk hmute), ?_⟩,
    fun s h => congrArg Host.Outcome.next (replayStart_waits h),
    fun s r h1 h2 h3 h4 h5 h6 ht => ?_, fun s r h1 h2 h3 h4 h5 h6 ht => ?_,
    fun s r h1 h2 h3 h4 h5 h6 ht hbeat hskip hw => ?_, fun s r h1 h2 h3 h4 h5 h6 ht hbeat hskip => ?_,
    fun s r h1 h2 h3 h4 h5 h6 ht hbeat hskip => ?_,
    fun s r h1 h2 h3 h4 h5 h6 hgap himage hreload hlt hskip => ?_, fun s r h1 h2 h3 h4 h5 h6 hgap himage hreload hlt hskip => ?_,
    fun s h hend => ⟨_, congrArg Host.Outcome.next (if_pos hend), replayEnd_shows h (by decide)⟩,
    fun s h => ⟨_, rfl, replayEnd_shows h (by decide)⟩,
    fun s c hc h => ?_⟩
  · obtain ⟨x, hx⟩ := journalEnable_opens h hlen hring
    have hrpl := rpl_journalOpened s
    have hstate : (journalOpened s).rplState = 1 := State.fld_setFld_same (s.setFlag F.RPL_CFG_EN true) F.RPL_STATUS_STATE _ _ _ _ _ (by decide)
    refine ⟨_, congrArg Host.Outcome.next hx, hstate, ?_, ?_, ?_, ?_, ?_, ((memFrame_journalOpened s).modRpl _).modRpl _⟩
    · rw [syncRecord, bufferPut, flag_modRpl, flag_modRpl, journalOpened]
      simp (disch := decide)
    all_goals rw [syncRecord, bufferPut, rpl_modRpl, rpl_modRpl, hrpl]
    rfl
  · refine ⟨?_, ?_, ?_, ?_⟩
    · rw [State.rplState]
      simp (disch := decide)
    · simp (disch := decide)
    · rw [State.setFlag_rpl, State.setFld_rpl]
      rfl
    · exact (((memFrame.refl _ s).modRpl _).setFld _ _ (.of_mem (.tail _ (.head _)) ..)).setFlag _ _ (.of_mem (.head _) ..)
  · obtain ⟨hbeat, hst, hcause, hdiv, hrpl⟩ := replayStarted_shows s
    exact ⟨hbeat, hst, hcause, hdiv, by rw [hrpl]; rfl, by rw [hrpl]; rfl, by rw [hrpl]; rfl, by rw [hrpl]; rfl, memFrame_replayStarted s⟩
  · obtain ⟨-, hst, -, -, -⟩ := replayStarted_shows s
    obtain ⟨hframe, hpins⟩ := allGuarded_shows (replayStarted s)
    exact ⟨(hframe.1.fld_of_reg (by decide) ..).trans hst, hpins,
      ((memFrame_replayStarted s).mono (by simp [replayParts, globalParts])).trans (hframe.mono (by simp [globalParts]))⟩
  · obtain ⟨t, hread, heq⟩ := replayRecord_frame ⟨h1, h2, h3, h4, h5, h6⟩ (.inl ht)
    obtain ⟨hoff, hrpl, hframe⟩ := replayTaken_shows hread (recordBeat s r)
    refine ⟨_, congrArg Host.Outcome.next heq, hoff, ?_, hframe⟩
    rw [hrpl, recordBeat, if_pos ht]
  · obtain ⟨t, hread, heq⟩ := replayRecord_frame ⟨h1, h2, h3, h4, h5, h6⟩ (.inr ht)
    obtain ⟨hoff, hrpl, hframe⟩ := replayTaken_shows hread (recordBeat s r)
    refine ⟨_, congrArg Host.Outcome.next heq, hoff, ?_, hframe⟩
    rw [hrpl, recordBeat, if_neg (by rw [ht]; decide), if_pos ht]
  · obtain ⟨t, hread, heq⟩ := replayRecord_acts ⟨h1, h2, h3, h4, h5, h6⟩ (by rw [ht]; decide) (by rw [ht]; decide) hbeat hskip
    obtain ⟨hoff, hrpl, hframe⟩ := replayTaken_shows hread s.beat
    refine ⟨_, congrArg Host.Outcome.next (heq.trans (replayAct_anchor ht _)), ?_, ?_, ?_, ?_⟩
    · rw [setWheelState, State.fld_setFld_apart _ _ _ _ _ _ _ _ _ _ _ _ (by decide), hoff]
    · exact State.fld_setFld_same _ _ _ _ _ _ _ (by decide)
    · rw [setWheelState, State.setFld_rpl, hrpl]
    · exact (hframe.mono (by simp [takenParts, eccParts])).setFld F.SLC_WHEEL_STATUS_STATE 2 (.of_mem_index (.tail _ (.head _)))
  · obtain ⟨t, hread, heq⟩ := replayRecord_acts ⟨h1, h2, h3, h4, h5, h6⟩ (by rw [ht]; decide) (by rw [ht]; decide) hbeat hskip
    obtain ⟨hoff, hrpl, hframe⟩ := replayTaken_shows hread s.beat
    exact ⟨_, congrArg Host.Outcome.next (heq.trans (replayAct_decision ht _)), hoff, by rw [rpl_modRpl, hrpl], hframe.modRpl _⟩
  · obtain ⟨t, hread, heq⟩ := replayRecord_acts ⟨h1, h2, h3, h4, h5, h6⟩ (by rw [ht]; decide) (by rw [ht]; decide) hbeat hskip
    obtain ⟨hoff, hrpl, hframe⟩ := replayTaken_shows hread s.beat
    have hst : (replayTaken t s.beat).rplState = 2 := (hframe.1.fld_of_reg (by decide) ..).trans h1
    obtain ⟨hend, hcause, hoffr, hexp, hseq, hvec, hframe'⟩ := replayEnd_shows hst (cause := 4) (by decide)
    refine ⟨_, congrArg Host.Outcome.next (heq.trans (replayAct_gap ht _)), ?_, hend, hcause, hoffr, hexp, fun n => ?_, fun n hn => hvec n ?_,
      (hframe.mono fun x hx => List.mem_append_left _ ?_).trans (hframe'.replayEnd_mono (by simp))⟩
    · rw [hframe'.1.fld_of_reg (replayEndParts_reg (by decide) (by decide +kernel)), hoff]
    · rw [hseq n, seqState, hframe.1.fld_of_reg (by decide)]
      rfl
    · rw [vecState, hframe.1.fld_of_reg (by decide)]
      exact hn
    · revert x
      simp [takenParts, eccParts]
  · exact ⟨_, congrArg Host.Outcome.next ((replayRecord_apart ⟨h1, h2, h3, h4, h5, h6⟩ hgap himage hreload hskip).1 hlt), rfl, rfl, memFrame.refl _ s⟩
  · obtain ⟨hend, hcause, hoffr, hexp, hseq, hvec, hframe⟩ := replayEnd_shows h1 (cause := 2) (by decide)
    refine ⟨_, congrArg Host.Outcome.next ((replayRecord_apart ⟨h1, h2, h3, h4, h5, h6⟩ hgap himage hreload hskip).2 hlt), hend, hcause, hoffr, hexp, hseq,
      hvec, hframe.replayEnd_mono (by simp)⟩
  · simp only [List.mem_cons, List.not_mem_nil, or_false] at hc
    rcases hc with rfl | rfl | rfl
    · exact congrArg Host.Outcome.next (replayEnd_of_idle h 1)
    · exact congrArg Host.Outcome.next (by rw [replayEnd_of_idle h 2, ite_self])
    · exact congrArg Host.Outcome.next (if_pos h)

end Sys2Proof.Machine

namespace Sys2Proof.Machine

/-! ## The boot directory and the keys of the fuses (R687, R689, R690) -/

section
variable {s t u : State} {l : List Part}

theorem memFrame.modBoot (h : memFrame l s t) (f : Boot → Boot) : memFrame l s (modBoot t f) := h.of_eq rfl rfl rfl

theorem memFrame.modMgt (h : memFrame l s t) (f : Management → Management) : memFrame l s (modMgt t f) := h.of_eq rfl rfl rfl

@[simp] theorem rd_modBoot (s : State) (f : Boot → Boot) (r : Reg) (i j k m : Nat) : (modBoot s f).rd r i j k m = s.rd r i j k m := rfl
@[simp] theorem fld_modBoot (s : State) (f : Boot → Boot) (x : Field) (i j k m : Nat) : (modBoot s f).fld x i j k m = s.fld x i j k m := rfl
@[simp] theorem flag_modBoot (s : State) (f : Boot → Boot) (x : Field) (i j k m : Nat) : (modBoot s f).flag x i j k m = s.flag x i j k m := rfl
@[simp] theorem boot_modBoot (s : State) (f : Boot → Boot) : (modBoot s f).boot = f s.boot := rfl

/-! ### The directory -/

/-- The directory with a change, under the next number. -/
def dirNext (b : Boot) (f : Directory → Directory) : Directory := { f (dirNow b) with seq := ((dirNow b).seq + 1) % 2 ^ 32 }

/-- The boot controller after a change of the directory. -/
def dirWritten (b : Boot) (f : Directory → Directory) : Boot :=
  { b with dirs := b.dirs.setIfInBounds (if dirWhich b = 0 then 1 else 0) (some (dirNext b f)) }

theorem seqNewer_succ {q : Nat} (h : q < 2 ^ 32) : seqNewer ((q + 1) % 2 ^ 32) q = true := by
  have hd : ((q + 1) % 2 ^ 32 + 2 ^ 32 - q) % 2 ^ 32 = 1 := by omega
  unfold seqNewer
  dsimp only
  rw [hd]
  rfl

theorem not_seqNewer_pred {q : Nat} (h : q < 2 ^ 32) : seqNewer q ((q + 1) % 2 ^ 32) = false := by
  have hd : (q + 2 ^ 32 - (q + 1) % 2 ^ 32) % 2 ^ 32 = 2 ^ 32 - 1 := by omega
  unfold seqNewer
  dsimp only
  rw [hd]
  rfl

theorem dirWhich_both {b : Boot} {x y : Directory} (h : b.dirs = #v[some x, some y]) : dirWhich b = if seqNewer y.seq x.seq then 1 else 0 := by
  unfold dirWhich; rw [h]; rfl

theorem dirWhich_first {b : Boot} {x : Directory} (h : b.dirs = #v[some x, none]) : dirWhich b = 0 := by unfold dirWhich; rw [h]; rfl

theorem dirWhich_second {b : Boot} {y : Directory} (h : b.dirs = #v[none, some y]) : dirWhich b = 1 := by unfold dirWhich; rw [h]; rfl

theorem dirNow_first {b : Boot} {x y : Option Directory} (h : b.dirs = #v[x, y]) (hw : dirWhich b = 0) : dirNow b = x.getD Directory.default := by
  rw [dirNow, hw, h]; rfl

theorem dirNow_second {b : Boot} {x y : Option Directory} (h : b.dirs = #v[x, y]) (hw : dirWhich b = 1) : dirNow b = y.getD Directory.default := by
  rw [dirNow, hw, h]; rfl

theorem dirs_dirWritten_first {b : Boot} {x y : Option Directory} (f : Directory → Directory) (h : b.dirs = #v[x, y]) (hw : dirWhich b ≠ 0) :
    (dirWritten b f).dirs = #v[some (dirNext b f), y] := by
  rw [dirWritten, if_neg hw, h]; rfl

theorem dirs_dirWritten_second {b : Boot} {x y : Option Directory} (f : Directory → Directory) (h : b.dirs = #v[x, y]) (hw : dirWhich b = 0) :
    (dirWritten b f).dirs = #v[x, some (dirNext b f)] := by
  rw [dirWritten, if_pos hw, h]; rfl

/-- What is written into the copy not in force is in force (R687). -/
theorem dirNow_dirWritten {b : Boot} (h : (dirNow b).seq < 2 ^ 32) (f : Directory → Directory) : dirNow (dirWritten b f) = dirNext b f := by
  obtain ⟨x, y, hdirs⟩ : ∃ x y, b.dirs = #v[x, y] := ⟨b.dirs[0], b.dirs[1], by ext i hi; match i, hi with | 0, _ => rfl | 1, _ => rfl⟩
  have hold : seqNewer (dirNow b).seq (dirNext b f).seq = false := not_seqNewer_pred h
  have hnew : seqNewer (dirNext b f).seq (dirNow b).seq = true := seqNewer_succ h
  by_cases hw : dirWhich b = 0
  · have hd := dirs_dirWritten_second f hdirs hw
    have hnow := dirNow_first hdirs hw
    cases x with
    | none => exact dirNow_second hd (dirWhich_second hd)
    | some x => exact dirNow_second hd ((dirWhich_both hd).trans (if_pos (by rw [← show dirNow b = x from hnow]; exact hnew)))
  · have hd := dirs_dirWritten_first f hdirs hw
    cases y with
    | none => exact dirNow_first hd (dirWhich_first hd)
    | some y =>
      have hw1 : dirWhich b = 1 := by
        cases x with
        | none => exact dirWhich_second hdirs
        | some x =>
          rw [dirWhich_both hdirs] at hw ⊢
          exact if_pos (by by_contra hn; exact hw (if_neg hn))
      have hnow : dirNow b = y := dirNow_second hdirs hw1
      exact dirNow_first hd ((dirWhich_both hd).trans (if_neg (by rw [← hnow, hold]; exact Bool.false_ne_true)))

theorem writeDir_eq (s : State) (f : Directory → Directory) :
    writeDir s f = (modBoot s fun b => dirWritten b f).setFlag F.BOOT_STATUS_FW_TRIAL (dirNext s.boot f).fwTrial := rfl

@[simp] theorem boot_writeDir (s : State) (f : Directory → Directory) : (writeDir s f).boot = dirWritten s.boot f := by
  rw [writeDir_eq, State.setFlag_boot, boot_modBoot]

theorem writeDir_shows (h : (dirNow s.boot).seq < 2 ^ 32) (f : Directory → Directory) : dirNow (writeDir s f).boot = dirNext s.boot f ∧
    (writeDir s f).flag F.BOOT_STATUS_FW_TRIAL = (dirNext s.boot f).fwTrial ∧ memFrame [F.BOOT_STATUS_FW_TRIAL.part []] s (writeDir s f) := by
  refine ⟨by rw [boot_writeDir, dirNow_dirWritten h], ?_, ?_⟩
  · rw [writeDir_eq]
    simp (disch := decide)
  · exact ((memFrame.refl _ s).modBoot _).setFlag _ _ (.of_mem (.head _) ..)

/-! ### The keys -/

theorem putBit_lt {v i w : Nat} (hv : v < 2 ^ w) (hi : i < w) (b : Bool) : putBit v i b < 2 ^ w := by
  refine Nat.lt_pow_two_of_testBit _ fun j hj => ?_
  rw [testBit_putBit, if_neg (by omega), Nat.testBit_lt_two_pow (Nat.lt_of_lt_of_le hv (Nat.pow_le_pow_right (by decide) hj))]

theorem keyUsable_congr (hv : t.fld F.BOOT_FUSES_VALID = s.fld F.BOOT_FUSES_VALID) (k : Nat)
    (hr : bitAt (t.fld F.BOOT_FUSES_REVOKED) k = bitAt (s.fld F.BOOT_FUSES_REVOKED) k) : keyUsable t k = keyUsable s k := by
  rw [keyUsable, keyUsable, hv, hr]

theorem commitSecver_rises (ht : (dirNow s.boot).fwTrial = false) (h : s.fld F.BOOT_FUSES_SECVER < min (min s.mgt.secver s.img.secver) 64) :
    commitSecver s = s.setFld F.BOOT_FUSES_SECVER (min (min s.mgt.secver s.img.secver) 64) := by
  refine if_neg ?_
  rw [ht]
  exact fun hp => hp.elim (fun h => Bool.false_ne_true h) fun hle => Nat.not_le.mpr h hle

theorem commitSecver_refused (h : (dirNow s.boot).fwTrial = true ∨ min (min s.mgt.secver s.img.secver) 64 ≤ s.fld F.BOOT_FUSES_SECVER) :
    commitSecver s = s.setFlag F.BOOT_STATUS_COMMIT_REFUSED true := if_pos h

theorem keyWrite_locked (h : bitAt (s.fld F.BOOT_FUSES_LOCKED) (keyIndex s) = true) : keyWrite s = s.setFlag F.BOOT_STATUS_KEY_REFUSED true :=
  if_pos (.inl h)

/-- A key that has been read from the store is taken. -/
def keyTaken (s t : State) (key : List Byte) : State :=
  (modBoot t fun b => { b with keys := b.keys.setIfInBounds (keyIndex s) key }).setFld F.BOOT_FUSES_VALID
    (putBit (t.fld F.BOOT_FUSES_VALID) (keyIndex s) true)

theorem keyWrite_takes (hl : bitAt (s.fld F.BOOT_FUSES_LOCKED) (keyIndex s) = false) (ha : s.fld F.BOOT_KEY_PROG_SRC * 256 + 96 ≤ 0x1000000)
    (hon : s.storeOn .central = true) (hc : CalmStore .central s) :
    ∃ t, keyWrite s = keyTaken s t (s.cstore.read (s.fld F.BOOT_KEY_PROG_SRC * 256) 96) ∧ WorkedOn .central s t ∧ sameBytes s t := by
  obtain ⟨t, ht, hw, hb⟩ := hc.rangeRead (s.fld F.BOOT_KEY_PROG_SRC * 256) 96
  refine ⟨t, ?_, hw, hb⟩
  have hgo : ¬(bitAt (s.fld F.BOOT_FUSES_LOCKED) (keyIndex s) = true ∨ 0x1000000 < s.fld F.BOOT_KEY_PROG_SRC * 256 + 96 ∨ (!s.storeOn .central) = true) := by
    rintro (h | h | h)
    · exact absurd (hl.symm.trans h) (by decide)
    · exact Nat.not_lt.mpr ha h
    · rw [hon] at h
      exact absurd h (by decide)
  unfold keyWrite
  dsimp only
  rw [if_neg hgo, ht]
  rfl

/-- The fuses of a key that has been taken, and the rest. -/
theorem keyTaken_shows {key : List Byte} (hk : keyIndex s < 4) (hw : WorkedOn .central s t) (hb : sameBytes s t) :
    (keyTaken s t key).boot = { s.boot with keys := s.boot.keys.setIfInBounds (keyIndex s) key } ∧
      (keyTaken s t key).fld F.BOOT_FUSES_VALID = putBit (s.fld F.BOOT_FUSES_VALID) (keyIndex s) true ∧
      memFrame (F.BOOT_FUSES_VALID.part [] :: eccParts .central) s (keyTaken s t key) := by
  have hvalid : t.fld F.BOOT_FUSES_VALID = s.fld F.BOOT_FUSES_VALID := hw.regs.fld_of_reg (by decide) ..
  have hframe : memFrame (F.BOOT_FUSES_VALID.part [] :: eccParts .central) s t := ⟨hw.regs.mono fun x hx => List.mem_cons_of_mem _ hx, hb⟩
  refine ⟨?_, ?_, (hframe.modBoot _).setFld _ _ (.of_mem (.head _) ..)⟩
  · rw [keyTaken, State.setFld_boot, boot_modBoot, hw.boot]
  · rw [keyTaken, State.fld_setFld_same _ _ _ _ _ _ _ (by decide), hvalid]
    exact Nat.mod_eq_of_lt (putBit_lt (State.fld_lt ..) hk true)

/-- The fuses with a key revoked. -/
def keyRevoked (s : State) : State := s.setFld F.BOOT_FUSES_REVOKED (putBit (s.fld F.BOOT_FUSES_REVOKED) (keyIndex s) true)

theorem fld_keyRevoked (hk : keyIndex s < 4) : (keyRevoked s).fld F.BOOT_FUSES_REVOKED = putBit (s.fld F.BOOT_FUSES_REVOKED) (keyIndex s) true :=
  (State.fld_setFld_same _ _ _ _ _ _ _ (by decide)).trans (Nat.mod_eq_of_lt (putBit_lt (State.fld_lt ..) hk true))

theorem keyUsable_keyRevoked (hk : keyIndex s < 4) (k : Nat) : keyUsable (keyRevoked s) k = (decide (k ≠ keyIndex s) && keyUsable s k) := by
  have hv : (keyRevoked s).fld F.BOOT_FUSES_VALID = s.fld F.BOOT_FUSES_VALID := by
    rw [keyRevoked]
    simp (disch := decide)
  by_cases h : k = keyIndex s
  · have hr : bitAt ((keyRevoked s).fld F.BOOT_FUSES_REVOKED) k = true := by rw [fld_keyRevoked hk, bitAt, testBit_putBit, if_pos h]
    rw [keyUsable, hr]
    simp [h]
  · rw [keyUsable_congr hv k (by rw [fld_keyRevoked hk, bitAt, testBit_putBit, if_neg h, bitAt])]
    simp [h]

theorem revoke_kept (hk : keyIndex s < 4) (h : ∃ k : Fin 4, k.val ≠ keyIndex s ∧ keyUsable s k = true) : revoke s = keyRevoked s := by
  obtain ⟨k, hne, hu⟩ := h
  refine if_pos (List.any_eq_true.mpr ⟨k.val, List.mem_range.mpr k.isLt, ?_⟩)
  exact (keyUsable_keyRevoked hk k.val).trans (by simp [hne, hu])

theorem revoke_refused (hk : keyIndex s < 4) (h : ∀ k : Fin 4, k.val ≠ keyIndex s → keyUsable s k = false) :
    revoke s = s.setFlag F.BOOT_STATUS_KEY_REFUSED true := by
  refine if_neg fun hp => ?_
  obtain ⟨k, hk4, hu⟩ := List.any_eq_true.mp hp
  have hu' := (keyUsable_keyRevoked hk k).symm.trans hu
  simp only [Bool.and_eq_true, decide_eq_true_eq] at hu'
  exact absurd (hu'.2.symm.trans (h ⟨k, List.mem_range.mp hk4⟩ hu'.1)) (by decide)

/-- The image in the flash slot not in force matches what runs (R693). -/
def imageMatches (s : State) : Prop :=
  (imageChecks s { flash := true, base := imgBase (!(dirNow s.boot).imgActive) } false allSections []).1 = 0 ∧
    allSections.all (fun i => entryDigest (ImgSource.read { flash := true, base := imgBase (!(dirNow s.boot).imgActive) } s 0 0x500) i ==
      s.img.digests.toList.getD i []) = true

theorem setImg_named (h : imageMatches s) : setImg s = writeDir s fun d => { d with imgActive := !(dirNow s.boot).imgActive } := by
  unfold setImg
  dsimp only
  rw [imageMatches] at h
  rw [if_pos h]

theorem setImg_refused (h : ¬imageMatches s) : setImg s = s.setFlag F.BOOT_STATUS_SET_IMG_REFUSED true := by
  unfold setImg
  dsimp only
  rw [imageMatches] at h
  rw [if_neg h]

end
end Sys2Proof.Machine

namespace Sys2Proof.Machine

/-! ## Operations on the flash (R685, R691) -/

section
variable {s t u : State} {l : List Part}

/-! ### Bytes of the flash -/

theorem get_filter_keys {ν : Type} (d : Nat → ν) (m : SMap Nat ν) (p : Nat → Bool) (k : Nat) :
    SMap.get d (m.filter fun e => p e.1) k = if p k then SMap.get d m k else d k := by
  induction m with
  | nil => simp
  | cons e m ih =>
    obtain ⟨a, v⟩ := e
    by_cases ha : a = k
    · subst ha
      by_cases hp : p a = true
      · simp [hp, SMap.get]
      · simp [hp, ih]
    · by_cases hp : p a = true
      · simp [hp, SMap.get, ha, ih]
      · simp [hp, SMap.get, ha, ih]

theorem flashByte_flashErase (b : Boot) (a k x : Nat) : flashByte (flashErase b a k) x = if a ≤ x ∧ x < a + k then 0xFF else flashByte b x := by
  have hget : flashByte (flashErase b a k) x = if !(decide (a ≤ x) && decide (x < a + k)) then flashByte b x else 0xFF :=
    get_filter_keys (fun _ => 0xFF) b.flash (fun y => !(decide (a ≤ y) && decide (y < a + k))) x
  rw [hget]
  by_cases h : a ≤ x ∧ x < a + k
  · rw [if_pos h]
    simp [h]
  · rw [if_neg h, if_pos (by simp; omega)]

/-- Bytes that are put one after the other. -/
theorem get_putBytes (d : Nat → Byte) (m : SMap Nat Byte) (a : Nat) (v : Byte → Nat → Byte) (data : List Byte) (x : Nat) :
    SMap.get d (data.zipIdx.foldl (fun m y => SMap.put natLt d m (a + y.2) (v y.1 (a + y.2))) m) x =
      if a ≤ x ∧ x < a + data.length then v (data.getD (x - a) 0) x else SMap.get d m x := by
  induction data using List.reverseRecOn with
  | nil => rw [if_neg (by simp)]; rfl
  | append_singleton data y ih =>
    rw [List.zipIdx_append, List.foldl_append]
    simp only [List.zipIdx_cons, List.zipIdx_nil, List.foldl_cons, List.foldl_nil, Nat.zero_add, SMap.get_put, ih, List.length_append, List.length_cons,
      List.length_nil]
    by_cases h : x = a + data.length
    · rw [if_pos h, if_pos (by omega), h, Nat.add_sub_cancel_left, List.getD_append_right _ _ _ _ (Nat.le_refl _), Nat.sub_self]
      rfl
    · rw [if_neg h]
      by_cases hin : a ≤ x ∧ x < a + data.length
      · rw [if_pos hin, if_pos (by omega), List.getD_append _ _ _ _ (by omega)]
      · rw [if_neg hin, if_neg (by omega)]

theorem flashByte_flashProgram (b : Boot) (a : Nat) (data : List Byte) (x : Nat) :
    flashByte (flashProgram b a data) x = if a ≤ x ∧ x < a + data.length then data.getD (x - a) 0 &&& flashByte b x else flashByte b x :=
  get_putBytes (fun _ => 0xFF) b.flash a (fun y i => y &&& flashByte b i) data x

theorem flashByte_flashGarble (s : State) (a k : Nat) {x : Nat} (h : ¬(a ≤ x ∧ x < a + k)) : flashByte (flashGarble s a k) x = flashByte s.boot x := by
  rw [flashByte, flashGarble, flashByte]
  refine List.foldlRecOn (motive := fun m => SMap.get (fun _ => (0xFF : Byte)) m x = SMap.get (fun _ => 0xFF) s.boot.flash x) _ _ rfl fun m hm i hi => ?_
  have hi' : i < k := List.mem_range.mp hi
  rw [SMap.get_put, if_neg (by omega), hm]

theorem getD_flashRead (b : Boot) (a k : Nat) {i : Nat} (h : i < k) : (flashRead b a k).getD i 0 = flashByte b (a + i) := by
  rw [flashRead, List.getD_eq_getElem _ _ (by simpa using h)]
  simp

/-! ### The start of an operation -/

theorem flashRefusal_congr (hb : t.boot = s.boot) (himg : t.img.op = s.img.op) (hf : ∀ f : Field, f.reg ≠ .BOOT_FL_OP → t.fld f = s.fld f) (op a src len : Nat) :
    flashRefusal t op a src len = flashRefusal s op a src len := by
  have hflag : ∀ f : Field, f.reg ≠ .BOOT_FL_OP → t.flag f = s.flag f := fun f h => congrArg (· == 1) (hf f h)
  have hbusy : imgBusy t = imgBusy s := hflag _ (by decide)
  have huse : flashInUse t a (flashSpan op len) = flashInUse s a (flashSpan op len) := by
    unfold flashInUse
    dsimp only
    rw [hbusy, himg, hb, hf F.BOOT_STATUS_PHASE (by decide), hflag F.BOOT_STATUS_FW_SLOT (by decide)]
  have hlong : flashTooLong t a (flashSpan op len) = flashTooLong s a (flashSpan op len) := by
    unfold flashTooLong
    rw [hflag F.BOOT_STATUS_QUAD (by decide)]
  unfold flashRefusal
  dsimp only
  rw [hb, huse, hlong]

/-- The CAUSE for which the operation of the registers is refused. -/
def flashCause (s : State) (op : Nat) : Nat := flashRefusal s op (s.fld F.BOOT_FL_ADDR_ADDR) (s.fld F.BOOT_FL_SRC_OFFSET) (s.fld F.BOOT_FL_LEN_LEN)

theorem flashCause_lt (s : State) (op : Nat) : flashCause s op < 8 := by
  unfold flashCause flashRefusal
  dsimp only
  split_ifs <;> decide

/-- The operation of the registers runs. -/
def flashStarted (s : State) (op : Nat) : State :=
  ((modBoot (s.setFld F.BOOT_FL_OP_OP op) fun b =>
    { b with op := some (op, s.fld F.BOOT_FL_ADDR_ADDR, s.fld F.BOOT_FL_SRC_OFFSET, s.fld F.BOOT_FL_LEN_LEN) }).setFlag F.BOOT_FL_STATUS_BUSY true).setFld
    F.BOOT_FL_STATUS_CAUSE 0

theorem flashGo_eq (s : State) (op : Nat) : flashGo s op =
    if flashCause s op ≠ 0 then ((s.setFld F.BOOT_FL_OP_OP op).setFld F.BOOT_FL_STATUS_CAUSE (flashCause s op)).setFlag F.BOOT_FL_STATUS_FAIL true
    else flashStarted s op := by
  have hfld : ∀ f : Field, f.reg ≠ .BOOT_FL_OP → (s.setFld F.BOOT_FL_OP_OP op).fld f = s.fld f := fun f h =>
    State.fld_setFld_reg _ _ _ _ _ _ _ _ _ _ _ _ h
  have hcause : flashRefusal (s.setFld F.BOOT_FL_OP_OP op) op (s.fld F.BOOT_FL_ADDR_ADDR) (s.fld F.BOOT_FL_SRC_OFFSET) (s.fld F.BOOT_FL_LEN_LEN) =
      flashCause s op := flashRefusal_congr (State.setFld_boot ..) (congrArg ImageUnit.op (State.setFld_img ..)) hfld ..
  unfold flashGo
  dsimp only
  rw [hfld F.BOOT_FL_ADDR_ADDR (by decide), hfld F.BOOT_FL_SRC_OFFSET (by decide), hfld F.BOOT_FL_LEN_LEN (by decide), hcause]
  rfl

theorem flashGo_starts {op : Nat} (h : flashCause s op = 0) : (flashGo s op).boot =
      { s.boot with op := some (op, s.fld F.BOOT_FL_ADDR_ADDR, s.fld F.BOOT_FL_SRC_OFFSET, s.fld F.BOOT_FL_LEN_LEN) } ∧
    (flashGo s op).flag F.BOOT_FL_STATUS_BUSY = true ∧ (flashGo s op).fld F.BOOT_FL_STATUS_CAUSE = 0 ∧
    memFrame [F.BOOT_FL_OP_OP.part [], F.BOOT_FL_STATUS_BUSY.part [], F.BOOT_FL_STATUS_CAUSE.part []] s (flashGo s op) := by
  rw [flashGo_eq, if_neg (not_not.mpr h)]
  refine ⟨?_, ?_, ?_, ?_⟩
  · rw [flashStarted, State.setFld_boot, State.setFlag_boot, boot_modBoot, State.setFld_boot]
  · rw [flashStarted]
    simp (disch := decide)
  · rw [flashStarted]
    simp (disch := decide)
  · exact ((((memFrame.refl _ s).setFld _ _ (.of_mem (.head _) ..)).modBoot _).setFlag _ _ (.of_mem (.tail _ (.head _)) ..)).setFld _ _
      (.of_mem (.tail _ (.tail _ (.head _))) ..)

theorem flashGo_refused {op : Nat} (h : flashCause s op ≠ 0) : (flashGo s op).boot = s.boot ∧ (flashGo s op).fld F.BOOT_FL_STATUS_CAUSE = flashCause s op ∧
    (flashGo s op).flag F.BOOT_FL_STATUS_FAIL = true ∧
    memFrame [F.BOOT_FL_OP_OP.part [], F.BOOT_FL_STATUS_FAIL.part [], F.BOOT_FL_STATUS_CAUSE.part []] s (flashGo s op) := by
  rw [flashGo_eq, if_pos h]
  refine ⟨?_, ?_, ?_, ?_⟩
  · rw [State.setFlag_boot, State.setFld_boot, State.setFld_boot]
  · rw [State.fld_setFlag_apart _ _ _ _ _ _ _ _ _ _ _ _ (by decide), State.fld_setFld_same _ _ _ _ _ _ _ (by decide)]
    exact Nat.mod_eq_of_lt (flashCause_lt s op)
  · simp (disch := decide)
  · exact (((memFrame.refl _ s).setFld _ _ (.of_mem (.head _) ..)).setFld _ _ (.of_mem (.tail _ (.tail _ (.head _))) ..)).setFlag _ _
      (.of_mem (.tail _ (.head _)) ..)

/-! ### The end of an operation -/

/-- The operation that ran is over. -/
def flashOver (s : State) : State := ((modBoot s fun b => { b with op := none }).setFlag F.BOOT_FL_STATUS_BUSY false).setFlag F.BOOT_FL_STATUS_DONE true

theorem boot_flashOver (s : State) : (flashOver s).boot = { s.boot with op := none } := by
  rw [flashOver, State.setFlag_boot, State.setFlag_boot, boot_modBoot]

/-- The registers of an operation's end. -/
def flashOverParts : List Part := [F.BOOT_FL_STATUS_BUSY.part [], F.BOOT_FL_STATUS_DONE.part []]

theorem flashOver_shows (s : State) : (flashOver s).flag F.BOOT_FL_STATUS_BUSY = false ∧ (flashOver s).flag F.BOOT_FL_STATUS_DONE = true ∧
    memFrame flashOverParts s (flashOver s) := by
  refine ⟨?_, ?_, (((memFrame.refl _ s).modBoot _).setFlag _ _ (.of_mem (.head _) ..)).setFlag _ _ (.of_mem (.tail _ (.head _)) ..)⟩
  · rw [flashOver]
    simp (disch := decide)
  · rw [flashOver]
    simp (disch := decide)

theorem calm_flashOver (hd : s.cstore.double = []) (hi : s.flt.inject = none) : CalmStore .central (flashOver s) := by
  have hstore : (flashOver s).cstore = s.cstore := by rw [flashOver, State.setFlag_cstore, State.setFlag_cstore]; rfl
  have hflt : (flashOver s).flt = s.flt := by rw [flashOver, State.setFlag_flt, State.setFlag_flt]; rfl
  exact ⟨by rw [← hd]; exact congrArg Store.double hstore, by rw [hflt, hi]⟩

theorem flashEnd_read {a src len : Nat} (error : Bool) (h : s.boot.op = some (0, a, src, len)) (hf : flashPortFree s = true) :
    flashEnd s error = ((flashOver s).storeWrite .central src (flashRead (flashOver s).boot a len)).1 := by
  unfold flashEnd
  rw [h]
  dsimp only
  rw [hf]
  rfl

/-- A program or an erase that fails. -/
def flashFailed (s : State) (a k : Nat) : State :=
  ((modBoot (flashOver s) fun _ => flashGarble (flashOver s) a k).setFlag F.BOOT_FL_STATUS_FAIL true).setFld F.BOOT_FL_STATUS_CAUSE 6

theorem flashEnd_failed {o a src len : Nat} (h : s.boot.op = some (o, a, src, len)) (ho : o ≠ 0) (hf : flashPortFree s = true) :
    flashEnd s true = flashFailed s a (flashSpan o len) := by
  unfold flashEnd
  rw [h]
  dsimp only
  rw [hf, if_neg (by simp), if_neg ho]
  rfl

theorem flashEnd_erased {a src len : Nat} (h : s.boot.op = some (1, a, src, len)) (hf : flashPortFree s = true) :
    flashEnd s false = modBoot (flashOver s) fun b => flashErase b a (flashSpan 1 len) := by
  unfold flashEnd
  rw [h]
  dsimp only
  rw [hf]
  rfl

theorem recordLengths_eq (s : State) (a k : Nat) : ∃ x, recordLengths s a k = modBoot s fun b => { b with slotLen := x } := by
  have hstep : ∀ (t : State) (p : Bool × Nat), (∃ x, t = modBoot s fun b => { b with slotLen := x }) →
      ∃ x, (if overlap a k (imgBase p.1) 0x3800000 then
        modBoot t (fun b => { b with slotLen := b.slotLen.setIfInBounds p.2 (numAt (flashRead b (imgBase p.1 + 0x20) 4) 0 4) })
      else t) = modBoot s fun b => { b with slotLen := x } := by
    rintro t p ⟨x, rfl⟩
    split
    · exact ⟨_, rfl⟩
    · exact ⟨x, rfl⟩
  exact List.foldlRecOn (motive := fun t => ∃ x, t = modBoot s fun b => { b with slotLen := x }) _ _ ⟨s.boot.slotLen, rfl⟩ fun t ht p _ => hstep t p ht

theorem flashEnd_written {a src len : Nat} (h : s.boot.op = some (2, a, src, len)) (hf : flashPortFree s = true) (hc : CalmStore .central (flashOver s)) :
    ∃ t x, flashEnd s false = modBoot t (fun b => { flashProgram b a ((flashOver s).cstore.read src len) with slotLen := x }) ∧
      WorkedOn .central (flashOver s) t ∧ sameBytes (flashOver s) t := by
  obtain ⟨t, ht, hw, hb⟩ := hc.rangeRead src len
  obtain ⟨x, hx⟩ := recordLengths_eq (modBoot t fun b => flashProgram b a ((flashOver s).cstore.read src len)) a len
  refine ⟨t, x, ?_, hw, hb⟩
  have hend : flashEnd s false =
      let (data, _, u) := rangeRead (flashOver s) .central src len
      recordLengths (modBoot u fun b => flashProgram b a data) a len := by
    unfold flashEnd
    rw [h]
    dsimp only
    rw [hf]
    rfl
  rw [hend, ht]
  exact hx

end
end Sys2Proof.Machine

namespace Sys2Proof.Machine

/-! ## The directory, the keys and the flash (O56) -/

section
variable {s : State}

/-- The end of a read: the store holds what the flash shows, and nothing else of the store changes. -/
theorem flashEnd_read_shows {error : Bool} {a src len : Nat} (h : s.boot.op = some (0, a, src, len)) (hf : flashPortFree s = true)
    (hd : s.cstore.double = []) (hi : s.flt.inject = none) : (flashEnd s error).boot = { s.boot with op := none } ∧
      (flashEnd s error).flag F.BOOT_FL_STATUS_BUSY = false ∧ (flashEnd s error).flag F.BOOT_FL_STATUS_DONE = true ∧
      WroteBytes .central src (flashRead s.boot a len) s (flashEnd s error) ∧
      sameRegs (flashOverParts ++ eccParts .central) s (flashEnd s error) := by
  obtain ⟨hbusy, hdone, hover⟩ := flashOver_shows s
  obtain ⟨t, ht, hw, hb⟩ := (calm_flashOver hd hi).storeWrite src (flashRead s.boot a len)
  have heq : flashEnd s error = t := by
    rw [flashEnd_read error h hf, boot_flashOver]
    exact congrArg Prod.fst ht
  rw [heq]
  refine ⟨by rw [hw.boot, boot_flashOver], ?_, ?_, ?_, ?_⟩
  · rw [hw.regs.flag_of_reg (by decide), hbusy]
  · rw [hw.regs.flag_of_reg (by decide), hdone]
  · exact hover.2.wrote hb
  · exact (hover.1.mono fun x hx => List.mem_append_left _ hx).trans (hw.regs.mono fun x hx => List.mem_append_right _ hx)

theorem flashEnd_erased_shows {a src len : Nat} (h : s.boot.op = some (1, a, src, len)) (hf : flashPortFree s = true) :
    (flashEnd s false).boot = flashErase { s.boot with op := none } a (flashSpan 1 len) ∧ (flashEnd s false).flag F.BOOT_FL_STATUS_BUSY = false ∧
      (flashEnd s false).flag F.BOOT_FL_STATUS_DONE = true ∧ memFrame flashOverParts s (flashEnd s false) := by
  obtain ⟨hbusy, hdone, hover⟩ := flashOver_shows s
  rw [flashEnd_erased h hf]
  exact ⟨by rw [boot_modBoot, boot_flashOver], hbusy, hdone, hover.modBoot _⟩

theorem flashEnd_failed_shows {o a src len : Nat} (h : s.boot.op = some (o, a, src, len)) (ho : o ≠ 0) (hf : flashPortFree s = true) :
    (flashEnd s true).boot = flashGarble (flashOver s) a (flashSpan o len) ∧ (flashEnd s true).flag F.BOOT_FL_STATUS_BUSY = false ∧
      (flashEnd s true).flag F.BOOT_FL_STATUS_DONE = true ∧ (flashEnd s true).flag F.BOOT_FL_STATUS_FAIL = true ∧
      (flashEnd s true).fld F.BOOT_FL_STATUS_CAUSE = 6 ∧
      memFrame (flashOverParts ++ [F.BOOT_FL_STATUS_FAIL.part [], F.BOOT_FL_STATUS_CAUSE.part []]) s (flashEnd s true) := by
  obtain ⟨hbusy, hdone, hover⟩ := flashOver_shows s
  rw [flashEnd_failed h ho hf, flashFailed]
  refine ⟨by rw [State.setFld_boot, State.setFlag_boot, boot_modBoot], ?_, ?_, ?_, ?_, ?_⟩
  · simp (disch := decide) [hbusy]
  · simp (disch := decide) [hdone]
  · simp (disch := decide)
  · simp (disch := decide)
  · exact (((hover.mono fun x hx => List.mem_append_left _ hx).modBoot _).setFlag _ _ (.of_mem (by decide) ..)).setFld _ _ (.of_mem (by decide) ..)

theorem flashEnd_written_shows {a src len : Nat} (h : s.boot.op = some (2, a, src, len)) (hf : flashPortFree s = true)
    (hd : s.cstore.double = []) (hi : s.flt.inject = none) : (flashEnd s false).boot.op = none ∧
      (∀ x, flashByte (flashEnd s false).boot x = flashByte (flashProgram s.boot a (s.cstore.read src len)) x) ∧
      (flashEnd s false).flag F.BOOT_FL_STATUS_BUSY = false ∧ (flashEnd s false).flag F.BOOT_FL_STATUS_DONE = true ∧
      memFrame (flashOverParts ++ eccParts .central) s (flashEnd s false) := by
  obtain ⟨hbusy, hdone, hover⟩ := flashOver_shows s
  obtain ⟨t, x, heq, hw, hb⟩ := flashEnd_written h hf (calm_flashOver hd hi)
  have hstore : (flashOver s).cstore = s.cstore := by rw [flashOver, State.setFlag_cstore, State.setFlag_cstore]; rfl
  rw [hstore] at heq
  have hboot : t.boot = { s.boot with op := none } := by rw [hw.boot, boot_flashOver]
  rw [heq, boot_modBoot, hboot]
  refine ⟨rfl, fun _ => rfl, ?_, ?_, ?_⟩
  · rw [flag_modBoot, hw.regs.flag_of_reg (by decide), hbusy]
  · rw [flag_modBoot, hw.regs.flag_of_reg (by decide), hdone]
  · exact ((hover.mono fun x hx => List.mem_append_left _ hx).trans
      ⟨hw.regs.mono fun x hx => List.mem_append_right _ hx, hb⟩).modBoot _

end

/-- Settles O56: the copy of the directory that is written has the next number and so is the one in force; a fuse word takes one bit; an operation on the
flash touches no byte outside its span, and what it moves goes through a store in which nothing waits. -/
theorem directoryKeysFlash : Obligations.DirectoryKeysFlash := by
  unfold Obligations.DirectoryKeysFlash
  refine ⟨fun s hr hq => ?_, fun s hr hq => ?_, fun s hr ht h => ?_, fun s hr h => ?_, fun s hr hq => ?_, fun s hr hl ha hon hd hi hk => ?_,
    fun s hr hl => ?_, fun s hr => ?_, fun s hr h hk => ?_, fun s hr h hk => ?_, fun s hr h => ?_, fun s hr h => ?_, fun s hr h => ?_, fun s hr h => ?_,
    fun s hr h => ?_, fun s hr h => ?_, fun s error a src len hr h hf hd hi => ?_, fun s a src len hr h hf => ?_, fun s a src len hr h hf hd hi => ?_,
    fun s o a src len hr h ho hf => ?_⟩
  · exact ⟨_, congrArg Host.Outcome.next (awake_of_not_reset hr tryFw), writeDir_shows hq fun d => { d with fwTrial := true }⟩
  · exact ⟨_, congrArg Host.Outcome.next (awake_of_not_reset hr confirmFw),
      writeDir_shows hq fun d => { d with fwActive := s.flag F.BOOT_STATUS_FW_SLOT, fwTrial := false, fwTried := false }⟩
  · refine ⟨_, congrArg Host.Outcome.next ((awake_of_not_reset hr _).trans (commitSecver_rises ht h)), ?_, (memFrame.refl _ s).setFld _ _ (.of_mem (.head _) ..)⟩
    exact (State.fld_setFld_same _ _ _ _ _ _ _ (by decide)).trans (Nat.mod_eq_of_lt (Nat.lt_of_le_of_lt (Nat.min_le_right _ _) (by decide)))
  · exact ⟨_, congrArg Host.Outcome.next ((awake_of_not_reset hr _).trans (commitSecver_refused h)), by simp (disch := decide), State.setFlag_boot ..,
      (memFrame.refl _ s).setFlag _ _ (.of_mem (.head _) ..)⟩
  · refine ⟨_, congrArg Host.Outcome.next (awake_of_not_reset hr _), ?_⟩
    split
    · next hm =>
      obtain ⟨hdir, -, hframe⟩ := writeDir_shows hq fun d => { d with imgActive := !(dirNow s.boot).imgActive }
      rw [setImg_named hm]
      exact ⟨congrArg Directory.imgActive hdir, hframe.mono fun x hx => List.mem_cons_of_mem _ hx⟩
    · next hm =>
      rw [setImg_refused hm]
      exact ⟨⟨by simp (disch := decide), State.setFlag_boot ..⟩, (memFrame.refl _ s).setFlag _ _ (.of_mem (.head _) ..)⟩
  · obtain ⟨t, ht, hw, hb⟩ := keyWrite_takes hl ha hon ⟨hd, hi⟩
    obtain ⟨hboot, hvalid, hframe⟩ := keyTaken_shows (key := s.cstore.read (s.fld F.BOOT_KEY_PROG_SRC * 256) 96) hk hw hb
    refine ⟨_, congrArg Host.Outcome.next ((awake_of_not_reset hr _).trans ht), ?_, hvalid, by rw [hboot], hframe⟩
    rw [hboot]
    dsimp only
    rw [Vector.toList_setIfInBounds, List.getD_eq_getElem _ _ (by simpa using hk)]
    exact List.getElem_set_self _
  · exact ⟨_, congrArg Host.Outcome.next ((awake_of_not_reset hr _).trans (keyWrite_locked hl)), by simp (disch := decide), State.setFlag_boot ..,
      (memFrame.refl _ s).setFlag _ _ (.of_mem (.head _) ..)⟩
  · exact ⟨_, congrArg Host.Outcome.next (awake_of_not_reset hr _), State.fld_setFld_same _ _ _ _ _ _ _ (by decide), State.setFld_boot ..,
      (memFrame.refl _ s).setFld _ _ (.of_mem (.head _) ..)⟩
  · exact ⟨_, congrArg Host.Outcome.next ((awake_of_not_reset hr _).trans (revoke_kept hk h)), fld_keyRevoked hk, State.setFld_boot ..,
      (memFrame.refl _ s).setFld _ _ (.of_mem (.head _) ..)⟩
  · exact ⟨_, congrArg Host.Outcome.next ((awake_of_not_reset hr _).trans (revoke_refused hk h)), by simp (disch := decide), State.setFlag_boot ..,
      (memFrame.refl _ s).setFlag _ _ (.of_mem (.head _) ..)⟩
  · exact ⟨_, congrArg Host.Outcome.next (awake_of_not_reset hr _), flashGo_starts h⟩
  · exact ⟨_, congrArg Host.Outcome.next (awake_of_not_reset hr _), flashGo_refused h⟩
  · exact ⟨_, congrArg Host.Outcome.next (awake_of_not_reset hr _), flashGo_starts h⟩
  · exact ⟨_, congrArg Host.Outcome.next (awake_of_not_reset hr _), flashGo_refused h⟩
  · exact ⟨_, congrArg Host.Outcome.next (awake_of_not_reset hr _), flashGo_starts h⟩
  · exact ⟨_, congrArg Host.Outcome.next (awake_of_not_reset hr _), flashGo_refused h⟩
  · obtain ⟨hboot, hbusy, hdone, hwrote, hregs⟩ := flashEnd_read_shows (error := error) h hf hd hi
    have hlen : (flashRead s.boot a len).length = len := by simp [flashRead]
    refine ⟨_, congrArg Host.Outcome.next (awake_of_not_reset hr _), by rw [hboot], hbusy, hdone, fun i hi => ?_, fun id x hx => hwrote.2 id x (by rwa [hlen]), by rw [hboot], hregs⟩
    exact (hwrote.1 i (by rwa [hlen])).trans (getD_flashRead s.boot a len hi)
  · obtain ⟨hboot, hbusy, hdone, hframe⟩ := flashEnd_erased_shows h hf
    refine ⟨_, congrArg Host.Outcome.next (awake_of_not_reset hr _), by rw [hboot]; rfl, hbusy, hdone, fun i hi => ?_, fun x hx => ?_, hframe⟩
    · rw [hboot, flashByte_flashErase, if_pos (by omega)]
    · rw [hboot, flashByte_flashErase, if_neg hx]
      rfl
  · obtain ⟨hop, hbyte, hbusy, hdone, hframe⟩ := flashEnd_written_shows h hf hd hi
    have hlen : (s.cstore.read src len).length = len := by simp [Store.read]
    refine ⟨_, congrArg Host.Outcome.next (awake_of_not_reset hr _), hop, hbusy, hdone, fun i hi => ?_, fun x hx => ?_, hframe⟩
    · rw [hbyte, flashByte_flashProgram, if_pos (by omega), Nat.add_sub_cancel_left, Store.read, List.getD_eq_getElem _ _ (by simpa using hi)]
      simp
    · rw [hbyte, flashByte_flashProgram, if_neg (by omega)]
  · obtain ⟨hboot, hbusy, hdone, hfail, hcause, hframe⟩ := flashEnd_failed_shows h ho hf
    refine ⟨_, congrArg Host.Outcome.next (awake_of_not_reset hr _), by rw [hboot]; exact congrArg Boot.op (boot_flashOver s), hbusy, hdone, hfail, hcause, fun x hx => ?_, hframe⟩
    rw [hboot, flashByte_flashGarble _ _ _ hx, boot_flashOver]
    rfl

end Sys2Proof.Machine

namespace Sys2Proof.Machine

/-! ## The management cores (R692, R699, R701, R703, R704) -/

section
variable {s t u : State} {l : List Part}

@[simp] theorem rd_modMgt (s : State) (f : Management → Management) (r : Reg) (i j k m : Nat) : (modMgt s f).rd r i j k m = s.rd r i j k m := rfl
@[simp] theorem fld_modMgt (s : State) (f : Management → Management) (x : Field) (i j k m : Nat) : (modMgt s f).fld x i j k m = s.fld x i j k m := rfl
@[simp] theorem flag_modMgt (s : State) (f : Management → Management) (x : Field) (i j k m : Nat) : (modMgt s f).flag x i j k m = s.flag x i j k m := rfl
@[simp] theorem mgt_modMgt (s : State) (f : Management → Management) : (modMgt s f).mgt = f s.mgt := rfl
@[simp] theorem boot_modMgt (s : State) (f : Management → Management) : (modMgt s f).boot = s.boot := rfl
@[simp] theorem regs_modMgt (s : State) (f : Management → Management) : (modMgt s f).regs = s.regs := rfl
@[simp] theorem flt_modMgt (s : State) (f : Management → Management) : (modMgt s f).flt = s.flt := rfl

/-! ### The state of the cores -/

/-- The fields that show the state of the cores. -/
def coreParts : List Part := [F.MGT_STATUS_STATE.part [], F.MGT_STATUS_CORES.part [], F.MGT_STATUS_SHED.part []]

theorem sameRegs.setMgtState (h : sameRegs l s t) (v : Nat) (hl : ∀ x ∈ coreParts, x ∈ l) : sameRegs l s (setMgtState t v) :=
  ((h.setFld _ _ _ _ _ _ (.of_mem (hl _ (.head _)) ..)).setFld _ _ _ _ _ _ (.of_mem (hl _ (.tail _ (.head _))) ..)).setFlag _ _ _ _ _ _
    (.of_mem (hl _ (.tail _ (.tail _ (.head _)))) ..)

theorem sameBytes.setMgtState (h : sameBytes s t) (v : Nat) : sameBytes s (setMgtState t v) :=
  ((h.setFld _ _ _ _ _ _).setFld _ _ _ _ _ _).setFlag _ _ _ _ _ _

theorem memFrame.refreshShed (h : memFrame l s t) (hl : F.MGT_STATUS_SHED.part [] ∈ l) : memFrame l s (refreshShed t) :=
  h.setFlag _ _ (.of_mem hl ..)

theorem memFrame.setMgtState (h : memFrame l s t) (v : Nat) (hl : ∀ x ∈ coreParts, x ∈ l) : memFrame l s (setMgtState t v) :=
  ⟨h.1.setMgtState v hl, h.2.setMgtState v⟩

@[simp] theorem mgt_setMgtState (s : State) (v : Nat) : (setMgtState s v).mgt = s.mgt := by
  rw [setMgtState, refreshShed, State.setFlag_mgt, State.setFld_mgt, State.setFld_mgt]

@[simp] theorem boot_setMgtState (s : State) (v : Nat) : (setMgtState s v).boot = s.boot := by
  rw [setMgtState, refreshShed, State.setFlag_boot, State.setFld_boot, State.setFld_boot]

@[simp] theorem flt_setMgtState (s : State) (v : Nat) : (setMgtState s v).flt = s.flt := by
  rw [setMgtState, refreshShed, State.setFlag_flt, State.setFld_flt, State.setFld_flt]

/-- The cores show their state; where they do not run, load is shed (R699). -/
theorem setMgtState_shows (s : State) {v : Nat} (hv : v < 4) (h0 : v ≠ 0) : (setMgtState s v).fld F.MGT_STATUS_STATE = v ∧
    (setMgtState s v).fld F.MGT_STATUS_CORES = 0 ∧ (setMgtState s v).flag F.MGT_STATUS_SHED = true := by
  have hstate : ((s.setFld F.MGT_STATUS_STATE v).setFld F.MGT_STATUS_CORES (if v = 0 then 15 else 0)).fld F.MGT_STATUS_STATE = v := by
    rw [State.fld_setFld_apart _ _ _ _ _ _ _ _ _ _ _ _ (by decide)]
    exact State.fld_setFld_fits _ _ _ _ _ _ (by decide) hv
  rw [setMgtState, refreshShed, hstate, if_neg h0]
  rw [if_neg h0] at hstate
  refine ⟨?_, ?_, ?_⟩
  · rw [State.fld_setFlag_apart _ _ _ _ _ _ _ _ _ _ _ _ (by decide), hstate]
  · rw [State.fld_setFlag_apart _ _ _ _ _ _ _ _ _ _ _ _ (by decide), State.fld_setFld_same _ _ _ _ _ _ _ (by decide)]
    rfl
  · simp (disch := decide)

/-! ### The choice of a firmware slot -/

theorem fwCheck_congr (hf : t.boot.flash = s.boot.flash) (hk : t.boot.keys = s.boot.keys) (hv : t.fld F.BOOT_FUSES_VALID = s.fld F.BOOT_FUSES_VALID)
    (hr : t.fld F.BOOT_FUSES_REVOKED = s.fld F.BOOT_FUSES_REVOKED) (hs : t.fld F.BOOT_FUSES_SECVER = s.fld F.BOOT_FUSES_SECVER) (slot : Bool) :
    fwCheck t slot = fwCheck s slot := by
  have hread : ∀ a k, flashRead t.boot a k = flashRead s.boot a k := fun a k => by simp only [flashRead, flashByte, hf]
  have hsign : ∀ key data sig, signedBy t key data sig = signedBy s key data sig := fun key data sig => by
    rw [signedBy, signedBy, hk, keyUsable_congr hv key (by rw [hr])]
  unfold fwCheck
  simp only [hread, hsign, hs]

theorem fwCheck_writeDir (s : State) (f : Directory → Directory) (slot : Bool) : fwCheck (writeDir s f) slot = fwCheck s slot := by
  have hfld : ∀ x : Field, x.reg ≠ .BOOT_STATUS → (writeDir s f).fld x = s.fld x := fun x hx => by
    rw [writeDir_eq]
    exact State.fld_setFld_reg _ _ _ _ _ _ _ _ _ _ _ _ hx
  exact fwCheck_congr (by rw [boot_writeDir]; rfl) (by rw [boot_writeDir]; rfl) (hfld _ (by decide)) (hfld _ (by decide)) (hfld _ (by decide)) slot

theorem fwCheck_setFlag (s : State) {f : Field} (hf : f.reg = .BOOT_STATUS) (b slot : Bool) : fwCheck (s.setFlag f b) slot = fwCheck s slot := by
  have hfld : ∀ x : Field, x.reg ≠ .BOOT_STATUS → (s.setFlag f b).fld x = s.fld x := fun x hx =>
    State.fld_setFld_reg _ _ _ _ _ _ _ _ _ _ _ _ (by rwa [hf])
  exact fwCheck_congr (by rw [State.setFlag_boot]) (by rw [State.setFlag_boot]) (hfld _ (by decide)) (hfld _ (by decide)) (hfld _ (by decide)) slot

/-- The slot that is tried first (R692). -/
def firstSlot (b : Boot) : Bool := if (dirNow b).fwTrial && !(dirNow b).fwTried then !(dirNow b).fwActive else (dirNow b).fwActive

/-- What the choice does to the directory before it looks at the slots. -/
def slotNoted (s : State) : State :=
  if !(dirNow s.boot).fwTrial then s
  else if !(dirNow s.boot).fwTried then writeDir s (fun d => { d with fwTried := true })
  else (writeDir s (fun d => { d with fwTrial := false, fwTried := false })).setFlag F.BOOT_STATUS_FW_FELLBACK true

theorem chooseSlot_eq (s : State) : chooseSlot s =
    if (fwCheck (slotNoted s) (firstSlot s.boot)).isSome then (some (firstSlot s.boot), slotNoted s)
    else if (fwCheck ((slotNoted s).setFlag F.BOOT_STATUS_FW_FELLBACK true) (!firstSlot s.boot)).isSome then
      (some (!firstSlot s.boot), (slotNoted s).setFlag F.BOOT_STATUS_FW_FELLBACK true)
    else (none, (slotNoted s).setFlag F.BOOT_STATUS_FW_FELLBACK true) := by
  unfold chooseSlot slotNoted firstSlot
  dsimp only
  cases (dirNow s.boot).fwTrial
  · rfl
  · cases (dirNow s.boot).fwTried
    · rfl
    · rfl

theorem fwCheck_slotNoted (s : State) (slot : Bool) : fwCheck (slotNoted s) slot = fwCheck s slot := by
  unfold slotNoted
  split
  · rfl
  · split
    · exact fwCheck_writeDir ..
    · rw [fwCheck_setFlag _ rfl, fwCheck_writeDir]

/-- The slot that is chosen. -/
theorem chooseSlot_fst (s : State) : (chooseSlot s).1 = if (fwCheck s (firstSlot s.boot)).isSome then some (firstSlot s.boot)
    else if (fwCheck s (!firstSlot s.boot)).isSome then some (!firstSlot s.boot) else none := by
  rw [chooseSlot_eq, fwCheck_slotNoted, fwCheck_setFlag _ rfl, fwCheck_slotNoted]
  split_ifs <;> rfl

theorem chooseSlot_fst_congr (hb : t.boot = s.boot) (hf : ∀ x : Field, x.reg = .BOOT_FUSES → t.fld x = s.fld x) : (chooseSlot t).1 = (chooseSlot s).1 := by
  have hcheck : ∀ slot, fwCheck t slot = fwCheck s slot := fwCheck_congr (by rw [hb]) (by rw [hb]) (hf _ rfl) (hf _ rfl) (hf _ rfl)
  rw [chooseSlot_fst, chooseSlot_fst, hb, hcheck, hcheck]

/-- The fields that the choice of a slot moves. -/
def choiceParts : List Part := [F.BOOT_STATUS_FW_TRIAL.part [], F.BOOT_STATUS_FW_FELLBACK.part []]

/-- What the choice of a slot leaves as it was. -/
structure SlotNoted (s t : State) : Prop where
  frame : memFrame choiceParts s t
  mgt : t.mgt = s.mgt
  flt : t.flt = s.flt

theorem SlotNoted.writeDir (h : SlotNoted s t) (f : Directory → Directory) : SlotNoted s (writeDir t f) where
  frame := (h.frame.modBoot _).setFlag _ _ (.of_mem (.head _) ..)
  mgt := by rw [writeDir_eq, State.setFlag_mgt, ← h.mgt]; rfl
  flt := by rw [writeDir_eq, State.setFlag_flt, ← h.flt]; rfl

theorem SlotNoted.fellBack (h : SlotNoted s t) : SlotNoted s (t.setFlag F.BOOT_STATUS_FW_FELLBACK true) where
  frame := h.frame.setFlag _ _ (.of_mem (.tail _ (.head _)) ..)
  mgt := by rw [State.setFlag_mgt, h.mgt]
  flt := by rw [State.setFlag_flt, h.flt]

theorem slotNoted_noted (s : State) : SlotNoted s (slotNoted s) := by
  have hs : SlotNoted s s := ⟨.refl _ s, rfl, rfl⟩
  unfold slotNoted
  split
  · exact hs
  · split
    · exact hs.writeDir _
    · exact (hs.writeDir _).fellBack

theorem chooseSlot_noted (s : State) : SlotNoted s (chooseSlot s).2 := by
  rw [chooseSlot_eq]
  split
  · exact slotNoted_noted s
  · split <;> exact (slotNoted_noted s).fellBack

/-! ### The start of the cores -/

/-- What the copy of the firmware of a slot leaves as it was. -/
theorem loadFirmware_shows (s : State) (slot : Bool) : sameRegs [F.BOOT_STATUS_FW_SLOT.part [], { reg := .BOOT_FW_VER, idx := [] }] s (loadFirmware s slot) ∧
    (loadFirmware s slot).mgt.swapAt = s.mgt.swapAt ∧ (loadFirmware s slot).flt = s.flt := by
  unfold loadFirmware
  split
  · exact ⟨.refl _ s, rfl, rfl⟩
  · refine ⟨?_, ?_, ?_⟩
    · refine (((sameRegs.of_regs (.refl _ s) ?_).setFlag _ _ _ _ _ _ (.of_mem (.head _) ..)).wr _ _ _ _ _ _ (.of_mem (.tail _ (.head _)) ..)).of_regs rfl
      rfl
    · rw [mgt_modMgt, State.wr_mgt, State.setFlag_mgt]
    · rw [flt_modMgt, State.wr_flt, State.setFlag_flt]

/-- The registers that a start of the cores moves. -/
def coreStartParts : List Part := [F.MGT_STATUS_STATE.part [], F.MGT_STATUS_CORES.part [], F.MGT_STATUS_SHED.part [], F.BOOT_STATUS_PHASE.part [],
  F.BOOT_STATUS_ERR.part [], F.BOOT_STATUS_FW_TRIAL.part [], F.BOOT_STATUS_FW_FELLBACK.part [], F.BOOT_STATUS_FW_SLOT.part [],
  { reg := .BOOT_FW_VER, idx := [] }]

/-- No slot verifies: the cores are FAILED and the device is HELD (R692, R703). -/
theorem coresFailed_shows (s : State) : (coresFailed s).fld F.MGT_STATUS_STATE = 3 ∧ (coresFailed s).fld F.BOOT_STATUS_PHASE = 10 ∧
    (coresFailed s).fld F.BOOT_STATUS_ERR = 3 ∧ memFrame coreStartParts s (coresFailed s) ∧ (coresFailed s).mgt = { s.mgt with runAt := none } ∧
    (coresFailed s).flt = s.flt := by
  have hstate := (setMgtState_shows (modMgt s fun m => { m with runAt := none }) (v := 3) (by decide) (by decide)).1
  unfold coresFailed bootHeld
  refine ⟨?_, ?_, ?_, ?_, ?_, ?_⟩
  · simp (disch := decide) [hstate]
  · simp (disch := decide)
  · simp (disch := decide)
  · exact ((((memFrame.refl _ s).modMgt _).setMgtState 3 (l := coreStartParts) (by decide)).setFld _ _ (.of_mem (.tail _ (.tail _ (.tail _ (.head _)))) ..)).setFld _ _
      (.of_mem (.tail _ (.tail _ (.tail _ (.tail _ (.head _))))) ..)
  · simp
  · simp

/-- The outcome of a start of the cores: they are STARTING from a slot that verifies, or FAILED (R692). -/
def startOutcome (chosen : Option Bool) (t : State) : Prop :=
  if chosen = none then t.fld F.MGT_STATUS_STATE = 3 ∧ t.fld F.BOOT_STATUS_PHASE = 10 ∧ t.fld F.BOOT_STATUS_ERR = 3 else t.fld F.MGT_STATUS_STATE = 1

theorem startOutcome_of_failed (hs : t.fld F.MGT_STATUS_STATE = 3) (hp : t.fld F.BOOT_STATUS_PHASE = 10) (he : t.fld F.BOOT_STATUS_ERR = 3) :
    startOutcome none t := by
  rw [startOutcome, if_pos rfl]
  exact ⟨hs, hp, he⟩

theorem startOutcome_of_starting (slot : Bool) (hs : t.fld F.MGT_STATUS_STATE = 1) : startOutcome (some slot) t := by
  rw [startOutcome, if_neg (Option.some_ne_none slot)]
  exact hs

/-- A slot has been chosen: its firmware is copied and the cores are STARTING. -/
def coresStarting (s : State) (slot : Bool) : State :=
  let bound := if s.flag F.BOOT_STATUS_QUAD then 22500000 else 3750000
  let s := loadFirmware s slot
  setMgtState (modMgt s (fun m => { m with runAt := some (s.now + 1 + Config.openValue 30 s.now % bound) })) 1

theorem coresStarting_shows (s : State) (slot : Bool) : (coresStarting s slot).fld F.MGT_STATUS_STATE = 1 ∧
    (coresStarting s slot).mgt.swapAt = s.mgt.swapAt ∧ sameRegs coreStartParts s (coresStarting s slot) ∧ (coresStarting s slot).flt = s.flt := by
  obtain ⟨hload, hmgt, hflt⟩ := loadFirmware_shows s slot
  unfold coresStarting
  dsimp only
  refine ⟨(setMgtState_shows _ (v := 1) (by decide) (by decide)).1, ?_, ?_, ?_⟩
  · simp only [mgt_setMgtState, mgt_modMgt, hmgt]
  · have hcopy : sameRegs coreStartParts s (loadFirmware s slot) := hload.mono (by decide)
    exact (hcopy.of_regs (regs_modMgt ..)).setMgtState 1 (by decide)
  · simp only [flt_setMgtState, flt_modMgt, hflt]

/-- The times of a start or a swap are dropped. -/
def coresIdle (s : State) : State := modMgt s fun m => { m with runAt := none, swapAt := none, haltAt := none }

theorem coresStart_eq (s : State) : coresStart s =
    match chooseSlot (coresIdle s) with
    | (none, u) => coresFailed u
    | (some slot, u) => coresStarting u slot := rfl

theorem coresStart_shows (s : State) : startOutcome (chooseSlot s).1 (coresStart s) ∧ (coresStart s).mgt.swapAt = none ∧
    sameRegs coreStartParts s (coresStart s) ∧ (coresStart s).flt = s.flt := by
  have hnoted := chooseSlot_noted (coresIdle s)
  have hslot : (chooseSlot (coresIdle s)).1 = (chooseSlot s).1 := chooseSlot_fst_congr rfl fun _ _ => rfl
  have hregs : sameRegs coreStartParts s (chooseSlot (coresIdle s)).2 := hnoted.frame.1.mono (by decide)
  rw [coresStart_eq, ← hslot]
  revert hnoted hregs
  rcases chooseSlot (coresIdle s) with ⟨_ | slot, u⟩
  · intro hnoted hregs
    obtain ⟨hstate, hphase, herr, hframe, hmgt, hflt⟩ := coresFailed_shows u
    exact ⟨startOutcome_of_failed hstate hphase herr, by rw [hmgt]; exact congrArg Management.swapAt hnoted.mgt, hregs.trans hframe.1,
      hflt.trans hnoted.flt⟩
  · intro hnoted hregs
    obtain ⟨hstate, hswap, hframe, hflt⟩ := coresStarting_shows u slot
    exact ⟨startOutcome_of_starting slot hstate, hswap.trans (congrArg Management.swapAt hnoted.mgt), hregs.trans hframe, hflt.trans hnoted.flt⟩

end
end Sys2Proof.Machine

namespace Sys2Proof.Machine

/-! ## The commands of the management cores (R699, R701, R703, R704) -/

section
variable {s t u : State} {l : List Part}

/-! ### HALT and RESTART -/

theorem mgtHalt_of_active (h : coresRunning s = true ∨ s.fld F.MGT_STATUS_STATE = 1) : mgtHalt s = setMgtState (coresIdle s) 2 := if_pos h

theorem mgtRestart_ignored (h : coresStarted s = false ∨ s.fld F.MGT_STATUS_STATE = 1) : mgtRestart s = s :=
  if_pos (h.imp (fun h => by rw [h]; rfl) id)

theorem mgtRestart_go (h : coresStarted s = true) (h0 : s.fld F.MGT_STATUS_STATE ≠ 0) (h1 : s.fld F.MGT_STATUS_STATE ≠ 1) : mgtRestart s =
    if s.fld F.BOOT_STATUS_PHASE = 10 ∧ s.fld F.BOOT_STATUS_ERR = 3 then
      modBoot ((setMgtState s 1).setFld F.BOOT_STATUS_PHASE 3 |>.setFld F.BOOT_STATUS_ERR 0) (fun b => { b with since := s.now })
    else coresStart s := by
  unfold mgtRestart
  dsimp only
  rw [if_neg (by rw [h]; rintro (h | h); exact absurd h (by decide); exact h1 h), if_neg h0]

/-- The device reruns the phase FIRMWARE (R683). -/
def firmwareAgain (s : State) : State :=
  modBoot ((setMgtState s 1).setFld F.BOOT_STATUS_PHASE 3 |>.setFld F.BOOT_STATUS_ERR 0) (fun b => { b with since := s.now })

theorem firmwareAgain_shows (s : State) : (firmwareAgain s).fld F.BOOT_STATUS_PHASE = 3 ∧ (firmwareAgain s).fld F.BOOT_STATUS_ERR = 0 ∧
    (firmwareAgain s).fld F.MGT_STATUS_STATE = 1 ∧ (firmwareAgain s).boot.since = s.now ∧
    memFrame (coreParts ++ [F.BOOT_STATUS_PHASE.part [], F.BOOT_STATUS_ERR.part []]) s (firmwareAgain s) := by
  have hstate := (setMgtState_shows s (v := 1) (by decide) (by decide)).1
  unfold firmwareAgain
  refine ⟨?_, ?_, ?_, rfl, ?_⟩
  · simp (disch := decide)
  · simp (disch := decide)
  · simp (disch := decide) [hstate]
  · have hframe : memFrame (coreParts ++ [F.BOOT_STATUS_PHASE.part [], F.BOOT_STATUS_ERR.part []]) s (setMgtState s 1) :=
      (memFrame.refl _ s).setMgtState 1 (by decide)
    exact ((hframe.setFld F.BOOT_STATUS_PHASE 3 (.of_mem (by decide) ..)).setFld F.BOOT_STATUS_ERR 0 (.of_mem (by decide) ..)).modBoot _

/-- A start of the cores that is counted first. -/
theorem coresStart_counted (hb : t.boot = s.boot) (hr : t.regs = s.regs) {r : Reg} (hreg : ∀ x ∈ coreStartParts, x.reg ≠ r) (hfuse : Reg.BOOT_FUSES ≠ r) :
    (coresStart (t.count r)).rd r = satCount (s.rd r) 1 ∧ (coresStart (t.count r)).mgt.swapAt = none ∧
      startOutcome (chooseSlot s).1 (coresStart (t.count r)) ∧ sameRegs (coreStartParts ++ [{ reg := r, idx := [] }]) s (coresStart (t.count r)) ∧
      (coresStart (t.count r)).flt = t.flt := by
  obtain ⟨hout, hswap, hregs, hflt⟩ := coresStart_shows (t.count r)
  have hslot : (chooseSlot (t.count r)).1 = (chooseSlot s).1 := chooseSlot_fst_congr (by rw [State.count_boot, hb]) fun x hx => by
    rw [State.fld_count_reg _ _ _ _ _ _ _ _ _ _ _ (by rwa [hx]), State.fld_of_regs hr]
  have hcount : sameRegs (coreStartParts ++ [{ reg := r, idx := [] }]) s (t.count r) :=
    ((sameRegs.refl _ s).of_regs hr).count r _ _ _ _ (.of_mem (List.mem_append_right _ (.head _)) ..)
  rw [hslot] at hout
  refine ⟨?_, hswap, hout, hcount.trans (hregs.mono fun x hx => List.mem_append_left _ hx), by rw [hflt, State.count_flt]⟩
  rw [hregs.rd_eq hreg, State.rd_count_same, State.rd_of_regs hr]

/-! ### SWAP -/

/-- The swap is accepted: the trial is noted, and the firmware halts within 5 ms. -/
def swapAsked (s : State) : State :=
  modMgt (writeDir s fun d => { d with fwTrial := true })
    (fun m => { m with swapAt := some s.now, haltAt := some (s.now + 1 + Config.openValue 31 s.now % 1250000) })

theorem swap_accepted (h : swapAccepts s = true) : swap s = swapAsked s := by
  unfold swap
  rw [if_pos h]
  rfl

theorem swap_refused (h : swapAccepts s = false) : swap s = s.setFlag F.MGT_STATUS_SWAP_REFUSED true := by
  unfold swap
  rw [h, if_neg Bool.false_ne_true]

theorem swapTimeout_due {k : Nat} (h : s.mgt.swapAt = some k) (hk : k + 1250000 ≤ s.now) : swapTimeout s = coresStart (s.count .MGT_SWAPS) := by
  unfold swapTimeout
  rw [h]
  exact if_pos hk

/-! ### The watchdog -/

/-- The kicks of the cores are noted. -/
def kicksNoted (s : State) (cores : BitVec 4) : State :=
  modMgt s (fun m => { m with kicks := Vector.ofFn (fun c : Fin 4 => if cores.getLsbD c then s.now else m.kicks.get c) })

theorem wdogKick_of_running (h : coresRunning s = true) (cores : BitVec 4) : wdogKick s cores = kicksNoted s cores := if_pos h

theorem get_ofFn {n : Nat} {α : Type} (f : Fin n → α) (c : Fin n) : (Vector.ofFn f).get c = f c := by
  rw [Vector.get_eq_getElem, Vector.getElem_ofFn]

theorem wdogExpire_quiet (h : coresRunning s = false ∨ s.mgt.swapAt.isSome = true ∨ ∀ c : Fin 4, s.now < s.mgt.kicks.get c + 2500000) : wdogExpire s = s := by
  unfold wdogExpire
  split
  · rfl
  · next hn =>
    rw [not_or] at hn
    obtain ⟨hrun, hswap⟩ := hn
    have hkick : ∀ c : Fin 4, s.now < s.mgt.kicks.get c + 2500000 := by
      rcases h with h | h | h
      · exact absurd (by rw [h]; rfl) hrun
      · exact absurd h hswap
      · exact h
    have hnone : (List.finRange 4).find? (fun c => decide (s.mgt.kicks.get c + 2500000 ≤ s.now)) = none :=
      List.find?_eq_none.mpr fun c _ hc => Nat.not_le.mpr (hkick c) (of_decide_eq_true hc)
    rw [hnone]

/-- The first core that has not kicked restarts them all (R701). -/
theorem wdogExpire_due {c : Fin 4} (hrun : coresRunning s = true) (hswap : s.mgt.swapAt = none) (hc : s.mgt.kicks.get c + 2500000 ≤ s.now)
    (hfirst : ∀ d : Fin 4, d < c → s.now < s.mgt.kicks.get d + 2500000) :
    wdogExpire s = coresStart ((s.raise Src.MGT_WDOG Scope.device c).count .MGT_RESTARTS) := by
  have hfind : (List.finRange 4).find? (fun c => decide (s.mgt.kicks.get c + 2500000 ≤ s.now)) = some c := by
    refine List.find?_eq_some_iff_getElem.mpr ⟨decide_eq_true hc, c.val, by simp, by simp, fun j hj => ?_⟩
    have hd := hfirst ⟨j, by omega⟩ hj
    simpa using hd
  unfold wdogExpire
  rw [if_neg (by rw [hrun, hswap]; decide), hfind]

/-! ### The load of the cores -/

/-- The registers of the load. -/
def loadParts : List Part := [{ reg := .MGT_LOAD, idx := [] }, F.MGT_STATUS_SHED.part []]

/-- The load of the block and its peak are shown. -/
def loadShown (s : State) (load : Nat) : State := (s.setFld F.MGT_LOAD_LOAD load).peak F.MGT_LOAD_PEAK load

theorem State.fld_peak_same (s : State) {f : Field} {v : Nat} (hf : f.lo + f.width ≤ 32) (hv : v < 2 ^ f.width) (i j : Nat) :
    (s.peak f v i j).fld f i j = max (s.fld f i j) v := by
  unfold State.peak
  split
  · next h => rw [State.fld_setFld_fits _ _ _ _ _ _ hf hv, Nat.max_eq_right (Nat.le_of_lt h)]
  · next h => rw [Nat.max_eq_left (Nat.not_lt.mp h)]

theorem State.fld_peak_apart (s : State) {f g : Field} (h : f.apart g = true) (v i j i' j' k' m' : Nat) :
    (s.peak f v i j).fld g i' j' k' m' = s.fld g i' j' k' m' := by
  unfold State.peak
  split
  · exact State.fld_setFld_apart _ _ _ _ _ _ _ _ _ _ _ _ h
  · rfl

theorem loadShown_shows (s : State) {load : Nat} (h : load < 2 ^ 8) : (loadShown s load).fld F.MGT_LOAD_LOAD = load ∧
    (loadShown s load).fld F.MGT_LOAD_PEAK = max (s.fld F.MGT_LOAD_PEAK) load ∧ memFrame loadParts s (loadShown s load) := by
  have hload : holdsFld loadParts F.MGT_LOAD_LOAD 0 0 0 0 := .of_mem_global (f := F.MGT_LOAD_LOAD) (.head _) (by decide) ..
  have hpeak : holdsFld loadParts F.MGT_LOAD_PEAK 0 0 0 0 := .of_mem_global (f := F.MGT_LOAD_PEAK) (.head _) (by decide) ..
  unfold loadShown
  refine ⟨?_, ?_, ((memFrame.refl _ s).setFld _ _ hload).peak _ _ hpeak⟩
  · rw [State.fld_peak_apart _ (by decide), State.fld_setFld_fits _ _ _ _ _ _ (by decide) h]
  · rw [State.fld_peak_same _ (by decide) h, State.fld_setFld_apart _ _ _ _ _ _ _ _ _ _ _ _ (by decide)]

/-- What the block leaves in the cores. -/
def loadNoted (s : State) (load : Nat) : State :=
  let low := if load ≤ loadLow s then s.mgt.low + 1 else 0
  let shed := if loadHigh s ≤ load then true else if 4 ≤ low then false else s.mgt.shedding
  modMgt s (fun m => { m with low := if loadHigh s ≤ load then 0 else low, shedding := shed })

theorem loadBlock_eq (s : State) (load : Nat) : loadBlock s load = refreshShed (loadNoted (loadShown s load) load) := rfl

theorem shedding_loadNoted {load : Nat} (h : loadHigh s ≤ load) : (loadNoted s load).mgt.shedding = true := by
  unfold loadNoted
  dsimp only
  rw [mgt_modMgt]
  exact if_pos h

theorem flag_shed_refreshShed (h : s.mgt.shedding = true) : (refreshShed s).flag F.MGT_STATUS_SHED = true := by
  rw [refreshShed, h, State.flag_setFlag_bit _ _ _ _ _ _ _ (by decide) rfl]
  rfl

theorem loadBlock_shows (s : State) {load : Nat} (h : load < 2 ^ 8) : (loadBlock s load).fld F.MGT_LOAD_LOAD = load ∧
    (loadBlock s load).fld F.MGT_LOAD_PEAK = max (s.fld F.MGT_LOAD_PEAK) load ∧
    (loadHigh s ≤ load → (loadBlock s load).flag F.MGT_STATUS_SHED = true) ∧ memFrame loadParts s (loadBlock s load) := by
  obtain ⟨hload, hpeak, hframe⟩ := loadShown_shows s h
  have hhigh : loadHigh (loadShown s load) = loadHigh s := congrArg (min 100) (hframe.1.fld_of_reg (by decide) ..)
  rw [loadBlock_eq]
  refine ⟨?_, ?_, fun hh => flag_shed_refreshShed (shedding_loadNoted (by rwa [hhigh])), ?_⟩
  · rw [refreshShed, State.fld_setFlag_apart _ _ _ _ _ _ _ _ _ _ _ _ (by decide)]
    exact hload
  · rw [refreshShed, State.fld_setFlag_apart _ _ _ _ _ _ _ _ _ _ _ _ (by decide)]
    exact hpeak
  · exact (hframe.modMgt _).refreshShed (.tail _ (.head _))

end
end Sys2Proof.Machine

namespace Sys2Proof.Machine

/-! ## The start of programs (R697) -/

section
variable {s t u : State} {l : List Part} {n : Fin 16}

/-- The beat at which RUN_GO starts the wheels. -/
def runBeat (s : State) : Nat := s.pair .BOOT_RUN_AT_LO .BOOT_RUN_AT_HI

theorem runBeat_lt (s : State) : runBeat s < 2 ^ 64 := by
  have hlo := (s.rd .BOOT_RUN_AT_LO).isLt
  have hhi := (s.rd .BOOT_RUN_AT_HI).isLt
  rw [runBeat, State.pair]
  omega

/-- BAD_BEAT and the refusal of every slice of the mask. -/
def runBadBeat (s : State) : State :=
  (s.setFlag F.BOOT_RUN_STATUS_BAD_BEAT true).setFld F.BOOT_RUN_STATUS_REFUSED (s.fld F.BOOT_RUN_STATUS_REFUSED ||| s.fld F.BOOT_RUN_MASK_SLICES)

theorem runGo_badBeat (h : runBeat s % 16 ≠ 0 ∨ runBeat s < s.beat + 16) : runGo s = runBadBeat s := by
  rw [runBeat] at h
  unfold runGo
  dsimp only
  rw [if_pos h]
  rfl

theorem runBadBeat_shows (s : State) : (runBadBeat s).flag F.BOOT_RUN_STATUS_BAD_BEAT = true ∧ (runBadBeat s).fld F.BOOT_RUN_STATUS_REFUSED =
      s.fld F.BOOT_RUN_STATUS_REFUSED ||| s.fld F.BOOT_RUN_MASK_SLICES ∧ (runBadBeat s).boot = s.boot ∧
    memFrame [F.BOOT_RUN_STATUS_BAD_BEAT.part [], F.BOOT_RUN_STATUS_REFUSED.part []] s (runBadBeat s) := by
  unfold runBadBeat
  refine ⟨?_, ?_, ?_, ((memFrame.refl _ s).setFlag _ _ (.of_mem (.head _) ..)).setFld _ _ (.of_mem (.tail _ (.head _)) ..)⟩
  · simp (disch := decide)
  · exact State.fld_setFld_fits _ _ _ _ _ _ (by decide) (Nat.or_lt_two_pow (State.fld_lt ..) (State.fld_lt ..))
  · rw [State.setFld_boot, State.setFlag_boot]

/-- What RUN_GO notes of the slices it starts and refuses. -/
def runNoted (s : State) (ok refused : List (Fin 16)) : State :=
  modBoot (s.setFld F.BOOT_RUN_STATUS_REFUSED (s.fld F.BOOT_RUN_STATUS_REFUSED ||| (withSlices 0 refused).toNat))
    (fun b => { b with runSlices := withSlices 0 ok, runAt := s.now + (runBeat s - s.beat) })

/-- The wheel of a slice is started at a beat, through the registers of the management path. -/
def runWheel (at_ : Nat) (s : State) (n : Fin 16) : State :=
  let s := managed (managed (managed s .SLC_WHEEL_START_LO n (at_ % 2 ^ 32)) .SLC_WHEEL_START_HI n (at_ / 2 ^ 32)) .SLC_WHEEL_CTRL n 9
  wheelStart ((s.setPair .SLC_WHEEL_START_LO .SLC_WHEEL_START_HI at_ n).setFlag F.SLC_WHEEL_CTRL_USE_START_BEAT true n) n

/-- The slices of a mask. -/
def slicesOf (mask : Nat) : List (Fin 16) := (List.finRange 16).filter (fun (n : Fin 16) => mask.testBit n.val)

theorem slicesOf_two_pow : ∀ n : Fin 16, slicesOf (2 ^ n.val) = [n] := by decide

theorem runGo_goes (h : runBeat s % 16 = 0) (hb : s.beat + 16 ≤ runBeat s) {named ok refused : List (Fin 16)}
    (hn : slicesOf (s.fld F.BOOT_RUN_MASK_SLICES) = named) (ho : named.filter (runAccepts s) = ok)
    (hr : named.filter (fun n => !runAccepts s n) = refused) : runGo s = ok.foldl (runWheel (runBeat s)) (runNoted s ok refused) := by
  subst hn ho hr
  have hgo : ¬(runBeat s % 16 ≠ 0 ∨ runBeat s < s.beat + 16) := not_or.mpr ⟨not_not.mpr h, Nat.not_lt.mpr hb⟩
  rw [runBeat] at hgo
  unfold runGo
  dsimp only
  rw [if_neg hgo]
  rfl

theorem runGo_accepts (h : runBeat s % 16 = 0) (hb : s.beat + 16 ≤ runBeat s) (hm : s.fld F.BOOT_RUN_MASK_SLICES = 2 ^ n.val)
    (ha : runAccepts s n = true) : runGo s = runWheel (runBeat s) (runNoted s [n] []) n := by
  have hn : slicesOf (s.fld F.BOOT_RUN_MASK_SLICES) = [n] := by rw [hm, slicesOf_two_pow]
  rw [runGo_goes h hb hn (ok := [n]) (refused := []) (by simp [ha]) (by simp [ha]), List.foldl_cons, List.foldl_nil]

theorem runGo_refuses (h : runBeat s % 16 = 0) (hb : s.beat + 16 ≤ runBeat s) (hm : s.fld F.BOOT_RUN_MASK_SLICES = 2 ^ n.val)
    (ha : runAccepts s n = false) : runGo s = runNoted s [] [n] := by
  have hn : slicesOf (s.fld F.BOOT_RUN_MASK_SLICES) = [n] := by rw [hm, slicesOf_two_pow]
  rw [runGo_goes h hb hn (ok := []) (refused := [n]) (by simp [ha]) (by simp [ha]), List.foldl_nil]

theorem withSlices_one : ∀ n : Fin 16, (withSlices 0 [n]) = BitVec.ofNat 16 (2 ^ n.val) ∧ (withSlices 0 [n]).toNat = 2 ^ n.val := by decide

theorem fld_refused_runNoted (s : State) (ok : List (Fin 16)) {refused : List (Fin 16)} :
    (runNoted s ok refused).fld F.BOOT_RUN_STATUS_REFUSED = s.fld F.BOOT_RUN_STATUS_REFUSED ||| (withSlices 0 refused).toNat :=
  State.fld_setFld_fits _ _ _ _ _ _ (by decide) (Nat.or_lt_two_pow (State.fld_lt ..) (withSlices 0 refused).isLt)

@[simp] theorem now_modBoot (s : State) (f : Boot → Boot) : (modBoot s f).now = s.now := rfl
@[simp] theorem beat_modBoot (s : State) (f : Boot → Boot) : (modBoot s f).beat = s.beat := rfl

theorem boot_runNoted (s : State) (ok refused : List (Fin 16)) :
    (runNoted s ok refused).boot = { s.boot with runSlices := withSlices 0 ok, runAt := s.now + (runBeat s - s.beat) } := by
  rw [runNoted, boot_modBoot, State.setFld_boot]

theorem now_runNoted (s : State) (ok refused : List (Fin 16)) : (runNoted s ok refused).now = s.now := by
  rw [runNoted, now_modBoot, State.setFld_now]

theorem beat_runNoted (s : State) (ok refused : List (Fin 16)) : (runNoted s ok refused).beat = s.beat := by
  rw [runNoted, beat_modBoot, State.setFld_beat]

theorem memFrame_runNoted (s : State) (ok refused : List (Fin 16)) : memFrame [F.BOOT_RUN_STATUS_REFUSED.part []] s (runNoted s ok refused) :=
  ((memFrame.refl _ s).setFld _ _ (.of_mem (.head _) ..)).modBoot _

/-- With no slice refused, REFUSED stays as it was. -/
theorem memFrame_runNoted_none (s : State) (ok : List (Fin 16)) (l : List Part) : memFrame l s (runNoted s ok []) := by
  have hself : s.fld F.BOOT_RUN_STATUS_REFUSED ||| (withSlices 0 []).toNat = s.fld F.BOOT_RUN_STATUS_REFUSED := Nat.or_zero _
  rw [runNoted, hself]
  exact ((memFrame.refl l s).setFld_same _ _ _ _ _).modBoot _

theorem managed_eq (s : State) (r : Reg) (i v : Nat) : ∃ x, managed s r i v = { s with rpl := x } := journalReg_eq ..

/-- The three management writes before a command of a slice go to the journal only. -/
theorem managed_thrice (s : State) (r r' r'' : Reg) (i v v' v'' : Nat) :
    ∃ x, managed (managed (managed s r i v) r' i v') r'' i v'' = { s with rpl := x } := by
  obtain ⟨x, hx⟩ := managed_eq s r i v
  obtain ⟨y, hy⟩ := managed_eq { s with rpl := x } r' i v'
  obtain ⟨z, hz⟩ := managed_eq { s with rpl := y } r'' i v''
  exact ⟨z, by rw [hx, hy]; exact hz⟩

/-- A wheel whose start is named at a later boundary. -/
def wheelNamed (s : State) (n : Fin 16) (at_ : Nat) : State :=
  (s.setPair .SLC_WHEEL_START_LO .SLC_WHEEL_START_HI at_ n).setFlag F.SLC_WHEEL_CTRL_USE_START_BEAT true n

theorem pair_wheelNamed (s : State) (n : Fin 16) {at_ : Nat} (h : at_ < 2 ^ 64) :
    (wheelNamed s n at_).pair .SLC_WHEEL_START_LO .SLC_WHEEL_START_HI n = at_ := by
  have hrd : ∀ r, r ≠ Reg.SLC_WHEEL_CTRL → (wheelNamed s n at_).rd r n = (s.setPair .SLC_WHEEL_START_LO .SLC_WHEEL_START_HI at_ n).rd r n := fun r hr =>
    State.rd_setFlag_apart _ _ _ _ _ _ _ _ _ _ _ _ hr
  rw [State.pair, hrd _ (by decide), hrd _ (by decide)]
  exact State.pair_setPair_same s (by decide) h n 0 0

/-- The registers of a wheel that RUN_GO starts. -/
def runWheelParts (n : Fin 16) : List Part := [{ reg := .SLC_WHEEL_START_LO, idx := [n] }, { reg := .SLC_WHEEL_START_HI, idx := [n] },
  F.SLC_WHEEL_CTRL_USE_START_BEAT.part [n], { reg := .SLC_WHEEL_STATUS, idx := [n] }]

/-- The registers of a named start. -/
def runWheelNames (n : Fin 16) : List Part := [{ reg := .SLC_WHEEL_START_LO, idx := [n] }, { reg := .SLC_WHEEL_START_HI, idx := [n] },
  F.SLC_WHEEL_CTRL_USE_START_BEAT.part [n]]

theorem memFrame.wheelNamed (h : memFrame l s t) (hl : ∀ x ∈ runWheelNames n, x ∈ l) (at_ : Nat) : memFrame l s (wheelNamed t n at_) :=
  (h.setPair _ (.of_mem_index (hl _ (.head _))) (.of_mem_index (hl _ (.tail _ (.head _))))).setFlag _ _
    (.of_mem_index (hl _ (.tail _ (.tail _ (.head _)))))

theorem wheelStart_wheelNamed {at_ : Nat} (hw : wheelState s n = 0) (h16 : at_ % 16 = 0) (hb : s.beat + 2 ≤ at_) (h64 : at_ < 2 ^ 64) :
    wheelStart (wheelNamed s n at_) n =
      setWheelState (modWheel (wheelNamed s n at_) n fun w => { w with startAt := s.now + (at_ - s.beat) }) n 1 := by
  have hpair := pair_wheelNamed s n h64
  have hbeat : (wheelNamed s n at_).beat = s.beat := by rw [wheelNamed, State.setFlag_beat, State.setPair_beat]
  have hnow : (wheelNamed s n at_).now = s.now := by rw [wheelNamed, State.setFlag_now, State.setPair_now]
  have hstate : wheelState (wheelNamed s n at_) n = 0 :=
    ((((memFrame.refl (runWheelNames n) s).wheelNamed (fun _ h => h) at_).1.fld_of_reg (by simp [runWheelNames, Field.part]; decide) ..)).trans hw
  have huse : (wheelNamed s n at_).fld F.SLC_WHEEL_CTRL_USE_START_BEAT n = 1 := State.fld_setFld_fits _ _ _ _ _ _ (by decide) (by decide)
  rw [wheelStart_named hstate huse (by rw [hpair, h16]) (by rw [hpair, hbeat]; exact hb), hpair, hbeat, hnow]

theorem memFrame.modWheel (h : memFrame l s t) (n : Fin 16) (f : Wheel → Wheel) : memFrame l s (modWheel t n f) := ⟨h.1.modWheel f, h.2.modWheel f⟩

theorem boot_modWheel (s : State) (n : Fin 16) (f : Wheel → Wheel) : (modWheel s n f).boot = s.boot := rfl

theorem wheelStart_wheelNamed_shows {at_ : Nat} (hw : wheelState s n = 0) (h16 : at_ % 16 = 0) (hb : s.beat + 2 ≤ at_) (h64 : at_ < 2 ^ 64) :
    wheelState (wheelStart (wheelNamed s n at_) n) n = 1 ∧ ((wheelStart (wheelNamed s n at_) n).sl n).wheel.startAt = s.now + (at_ - s.beat) ∧
      (wheelStart (wheelNamed s n at_) n).pair .SLC_WHEEL_START_LO .SLC_WHEEL_START_HI n = at_ ∧
      (wheelStart (wheelNamed s n at_) n).boot = s.boot ∧ memFrame (runWheelParts n) s (wheelStart (wheelNamed s n at_) n) := by
  rw [wheelStart_wheelNamed hw h16 hb h64]
  obtain ⟨hregs, hbytes⟩ := setWheelState_modWheel_frame (wheelNamed s n at_) n (fun w => { w with startAt := s.now + (at_ - s.beat) }) 1
  refine ⟨wheelState_setWheelState _ n (by decide), ?_, ?_, ?_, ?_⟩
  · rw [sl_setWheelState, wheel_modWheel]
  · rw [State.pair, hregs.rd_eq (by simp [Field.part]; decide), hregs.rd_eq (by simp [Field.part]; decide)]
    exact pair_wheelNamed s n h64
  · rw [setWheelState, State.setFld_boot, boot_modWheel, wheelNamed, State.setFlag_boot, State.setPair_boot]
  · have hnamed : memFrame (runWheelParts n) s (wheelNamed s n at_) := (memFrame.refl _ s).wheelNamed (fun x hx => List.mem_append_left [_] hx) at_
    have hstatus : holdsFld (runWheelParts n) F.SLC_WHEEL_STATUS_STATE n 0 0 0 :=
      .of_mem_reg (.tail _ (.tail _ (.tail _ (.head _)))) (by decide)
    exact (hnamed.modWheel n _).setFld _ _ hstatus

theorem runWheel_eq (at_ : Nat) (s : State) (n : Fin 16) : ∃ x, runWheel at_ s n = wheelStart (wheelNamed { s with rpl := x } n at_) n := by
  obtain ⟨x, hx⟩ := managed_thrice s .SLC_WHEEL_START_LO .SLC_WHEEL_START_HI .SLC_WHEEL_CTRL n (at_ % 2 ^ 32) (at_ / 2 ^ 32) 9
  exact ⟨x, by rw [← hx]; rfl⟩

theorem runWheel_shows {at_ : Nat} (hw : wheelState s n = 0) (h16 : at_ % 16 = 0) (hb : s.beat + 2 ≤ at_) (h64 : at_ < 2 ^ 64) :
    wheelState (runWheel at_ s n) n = 1 ∧ ((runWheel at_ s n).sl n).wheel.startAt = s.now + (at_ - s.beat) ∧
      (runWheel at_ s n).pair .SLC_WHEEL_START_LO .SLC_WHEEL_START_HI n = at_ ∧ (runWheel at_ s n).boot = s.boot ∧
      memFrame (runWheelParts n) s (runWheel at_ s n) := by
  obtain ⟨x, hx⟩ := runWheel_eq at_ s n
  obtain ⟨hstate, hstart, hpair, hboot, hframe⟩ := wheelStart_wheelNamed_shows (s := { s with rpl := x }) (n := n) hw h16 hb h64
  rw [hx]
  exact ⟨hstate, hstart, hpair, hboot, ((memFrame.refl _ s).of_eq rfl rfl rfl).trans hframe⟩

theorem wheelState_of_runAccepts (ha : runAccepts s n = true) : wheelState s n = 0 := by
  rw [runAccepts, Bool.and_eq_true, Bool.and_eq_true, Bool.and_eq_true, Bool.and_eq_true] at ha
  obtain ⟨⟨⟨⟨hw, -⟩, -⟩, -⟩, -⟩ := ha
  exact eq_of_beq hw

/-- RUN_GO of one slice that may run. -/
theorem runGo_accepts_shows (h : runBeat s % 16 = 0) (hb : s.beat + 16 ≤ runBeat s) (hm : s.fld F.BOOT_RUN_MASK_SLICES = 2 ^ n.val)
    (ha : runAccepts s n = true) : (runGo s).boot.runSlices = BitVec.ofNat 16 (2 ^ n.val) ∧ (runGo s).boot.runAt = s.now + (runBeat s - s.beat) ∧
      wheelState (runGo s) n = 1 ∧ ((runGo s).sl n).wheel.startAt = s.now + (runBeat s - s.beat) ∧
      (runGo s).pair .SLC_WHEEL_START_LO .SLC_WHEEL_START_HI n = runBeat s ∧ memFrame (runWheelParts n) s (runGo s) := by
  have hnoted : memFrame [] s (runNoted s [n] []) := memFrame_runNoted_none s [n] []
  have hstop : wheelState (runNoted s [n] []) n = 0 := by
    rw [wheelState, hnoted.1.fld_of_reg (by decide)]
    exact wheelState_of_runAccepts ha
  have hnow : (runNoted s [n] []).now = s.now := now_runNoted ..
  have hbeat : (runNoted s [n] []).beat = s.beat := beat_runNoted ..
  have h64 : runBeat s < 2 ^ 64 := runBeat_lt s
  obtain ⟨hstate, hstart, hpair, hboot, hframe⟩ := runWheel_shows (at_ := runBeat s) hstop h (by rw [hbeat]; omega) h64
  rw [boot_runNoted] at hboot
  rw [hnow, hbeat] at hstart
  rw [runGo_accepts h hb hm ha]
  exact ⟨by rw [hboot, ← (withSlices_one n).1], by rw [hboot], hstate, hstart, hpair,
    (hnoted.mono fun _ hx => absurd hx List.not_mem_nil).trans hframe⟩

/-! ### The sequencers at S + 1 -/

/-- A sequencer whose start is named. -/
def seqNamed (s : State) (n : Fin 16) (start : Nat) : State :=
  (s.setPair .SEQ_START_LO .SEQ_START_HI start n).setFlag F.SEQ_CTRL_USE_START_BEAT true n

/-- The sequencer of a slice runs from a beat, through the registers of the management path. -/
def runSeq (start : Nat) (s : State) (n : Fin 16) : State :=
  let s := managed (managed (managed s .SEQ_START_LO n (start % 2 ^ 32)) .SEQ_START_HI n (start / 2 ^ 32)) .SEQ_CTRL n 9
  seqRun ((s.setPair .SEQ_START_LO .SEQ_START_HI start n).setFlag F.SEQ_CTRL_USE_START_BEAT true n) n

theorem runGoSeq_idle (h : s.boot.runSlices = 0 ∨ s.now < s.boot.runAt + 1) : runGoSeq s = s := if_pos h

/-- The beat at which the sequencers start. -/
def runSeqBeat (s : State) : Nat := s.beat + 16 - (s.now - s.boot.runAt)

theorem filter_slices_two_pow : ∀ n : Fin 16,
    (List.finRange 16).filter (fun (m : Fin 16) => (BitVec.ofNat 16 (2 ^ n.val)).getLsbD m.val) = [n] ∧ BitVec.ofNat 16 (2 ^ n.val) ≠ 0 := by decide

theorem runGoSeq_due (h : s.boot.runSlices = BitVec.ofNat 16 (2 ^ n.val)) (hd : s.boot.runAt + 1 ≤ s.now) :
    runGoSeq s = runSeq (runSeqBeat s) (modBoot s fun b => { b with runSlices := 0 }) n := by
  have hgo : ¬(s.boot.runSlices = 0 ∨ s.now < s.boot.runAt + 1) := not_or.mpr ⟨by rw [h]; exact (filter_slices_two_pow n).2, Nat.not_lt.mpr hd⟩
  unfold runGoSeq
  rw [if_neg hgo]
  dsimp only
  rw [h, (filter_slices_two_pow n).1, List.foldl_cons, List.foldl_nil]
  rfl

/-- A sequencer waits for the beat of its start. -/
def seqAwaits (s : State) (n : Fin 16) (at_ : Nat) : State :=
  ((modSeq s n fun q => { q with pend := none, starting := true, startAt := at_, stepping := false, loops := [], calls := [] }).setFld
    F.SEQ_STATUS_ERR 0 n).setFld F.SEQ_STATUS_STATE SeqCode.waiting n

/-- The start has come late. -/
def seqLate (s : State) (n : Fin 16) : State := (s.count .SEQ_LATE n).setFld F.SEQ_STATUS_LATE 1 n

theorem seqRun_awaits (hst : seqState s n = 0 ∨ seqState s n = 5) (hw : wheelState s n = 2) :
    ∃ at_, seqRun s n = seqAwaits s n at_ ∨ seqRun s n = seqLate (seqAwaits s n at_) n := by
  have hgo : (seqState s n = SeqCode.halted ∨ seqState s n = SeqCode.error) ∧ s.fld F.SLC_WHEEL_STATUS_STATE n = 2 := ⟨hst, hw⟩
  unfold seqRun
  rw [if_pos hgo]
  dsimp only
  split_ifs
  · exact ⟨_, .inr rfl⟩
  · exact ⟨_, .inr rfl⟩
  · exact ⟨_, .inl rfl⟩
  · exact ⟨_, .inl rfl⟩

/-- A sequencer whose start is asked for. -/
structure SeqStarting (s t : State) (n : Fin 16) : Prop where
  state : seqState t n = 2
  starting : (t.sl n).seq.starting = true
  pend : (t.sl n).seq.pend = none
  boot : t.boot = s.boot
  frame : memFrame [{ reg := .SEQ_STATUS, idx := [n] }, { reg := .SEQ_LATE, idx := [n] }] s t

theorem seqStarting_seqAwaits (s : State) (n : Fin 16) (at_ : Nat) : SeqStarting s (seqAwaits s n at_) n where
  state := State.fld_setFld_fits _ _ _ _ _ _ (by decide) (by decide)
  starting := by rw [seqAwaits, State.sl_setFld, State.sl_setFld, seq_modSeq]
  pend := by rw [seqAwaits, State.sl_setFld, State.sl_setFld, seq_modSeq]
  boot := by rw [seqAwaits, State.setFld_boot, State.setFld_boot]; rfl
  frame := (((memFrame.refl _ s).modSeq n _).setFld F.SEQ_STATUS_ERR 0 (.of_mem_reg (.head _) (by decide))).setFld F.SEQ_STATUS_STATE _
    (.of_mem_reg (.head _) (by decide))

theorem SeqStarting.seqLate (h : SeqStarting s t n) : SeqStarting s (seqLate t n) n where
  state := by
    rw [seqState, Machine.seqLate, State.fld_setFld_apart _ _ _ _ _ _ _ _ _ _ _ _ (by decide), State.fld_count_reg _ _ _ _ _ _ _ _ _ _ _ (by decide)]
    exact h.state
  starting := by rw [Machine.seqLate, State.sl_setFld, State.sl_count]; exact h.starting
  pend := by rw [Machine.seqLate, State.sl_setFld, State.sl_count]; exact h.pend
  boot := by rw [Machine.seqLate, State.setFld_boot, State.count_boot, h.boot]
  frame := (h.frame.count .SEQ_LATE (.of_mem_index (.tail _ (.head _)))).setFld F.SEQ_STATUS_LATE 1 (.of_mem_reg (.head _) (by decide))

theorem seqRun_starting (hst : seqState s n = 0 ∨ seqState s n = 5) (hw : wheelState s n = 2) : SeqStarting s (seqRun s n) n := by
  obtain ⟨at_, h | h⟩ := seqRun_awaits hst hw
  · rw [h]
    exact seqStarting_seqAwaits s n at_
  · rw [h]
    exact (seqStarting_seqAwaits s n at_).seqLate

/-- The registers of a named start of a sequencer. -/
def seqNames (n : Fin 16) : List Part := [{ reg := .SEQ_START_LO, idx := [n] }, { reg := .SEQ_START_HI, idx := [n] },
  F.SEQ_CTRL_USE_START_BEAT.part [n]]

theorem seqNamed_frame (s : State) (n : Fin 16) (start : Nat) : memFrame (seqNames n) s (seqNamed s n start) :=
  ((memFrame.refl _ s).setPair _ (.of_mem_index (.head _)) (.of_mem_index (.tail _ (.head _)))).setFlag _ _
    (.of_mem_index (.tail _ (.tail _ (.head _))))

theorem pair_seqNamed (s : State) (n : Fin 16) (start : Nat) : (seqNamed s n start).pair .SEQ_START_LO .SEQ_START_HI n = start % 2 ^ 64 := by
  have hrd : ∀ r, r ≠ Reg.SEQ_CTRL → (seqNamed s n start).rd r n = (s.setPair .SEQ_START_LO .SEQ_START_HI start n).rd r n := fun r hr =>
    State.rd_setFlag_apart _ _ _ _ _ _ _ _ _ _ _ _ hr
  rw [State.pair, hrd _ (by decide), hrd _ (by decide), State.setPair, State.rd_wr_same, State.rd_wr_reg _ _ _ _ _ _ _ _ _ _ (by decide),
    State.rd_wr_same, BitVec.toNat_ofNat, BitVec.toNat_ofNat]
  omega

theorem seqRun_seqNamed_shows (hst : seqState s n = 0 ∨ seqState s n = 5) (hw : wheelState s n = 2) (start : Nat) :
    SeqStarting (seqNamed s n start) (seqRun (seqNamed s n start) n) n ∧
      (seqRun (seqNamed s n start) n).pair .SEQ_START_LO .SEQ_START_HI n = start % 2 ^ 64 ∧
      (seqRun (seqNamed s n start) n).flag F.SEQ_CTRL_USE_START_BEAT n = true := by
  have hfr := (seqNamed_frame s n start).1
  have hst' : seqState (seqNamed s n start) n = seqState s n := hfr.fld_of_reg (by simp [seqNames, Field.part]; decide) ..
  have hw' : wheelState (seqNamed s n start) n = wheelState s n := hfr.fld_of_reg (by simp [seqNames, Field.part]; decide) ..
  have h := seqRun_starting (s := seqNamed s n start) (by rwa [hst']) (by rwa [hw'])
  refine ⟨h, ?_, ?_⟩
  · rw [State.pair, h.frame.1.rd_eq (by simp), h.frame.1.rd_eq (by simp)]
    exact pair_seqNamed s n start
  · rw [h.frame.1.flag_of_reg (by simp; decide)]
    exact State.flag_setFlag_bit _ _ _ _ _ _ _ (by decide) rfl

theorem runSeq_eq (start : Nat) (s : State) (n : Fin 16) : ∃ x, runSeq start s n = seqRun (seqNamed { s with rpl := x } n start) n := by
  obtain ⟨x, hx⟩ := managed_thrice s .SEQ_START_LO .SEQ_START_HI .SEQ_CTRL n (start % 2 ^ 32) (start / 2 ^ 32) 9
  exact ⟨x, by rw [← hx]; rfl⟩

end
end Sys2Proof.Machine

namespace Sys2Proof.Machine

/-! ## The start of programs and the management cores (O57) -/

section
variable {s : State} {n : Fin 16}

/-- The beat S + 1 of one slice (R697). -/
theorem runGoSeq_shows (h : s.boot.runSlices = BitVec.ofNat 16 (2 ^ n.val)) (hd : s.boot.runAt + 1 ≤ s.now) (hst : seqState s n = 0 ∨ seqState s n = 5)
    (hw : wheelState s n = 2) : (runGoSeq s).boot.runSlices = 0 ∧ seqState (runGoSeq s) n = 2 ∧ ((runGoSeq s).sl n).seq.starting = true ∧
      ((runGoSeq s).sl n).seq.pend = none ∧ (runGoSeq s).pair .SEQ_START_LO .SEQ_START_HI n = runSeqBeat s % 2 ^ 64 ∧
      (runGoSeq s).flag F.SEQ_CTRL_USE_START_BEAT n = true ∧
      memFrame (seqNames n ++ [{ reg := .SEQ_STATUS, idx := [n] }, { reg := .SEQ_LATE, idx := [n] }]) s (runGoSeq s) := by
  obtain ⟨x, hx⟩ := runSeq_eq (runSeqBeat s) (modBoot s fun b => { b with runSlices := 0 }) n
  have hboot : (seqNamed { modBoot s (fun b => { b with runSlices := 0 }) with rpl := x } n (runSeqBeat s)).boot = { s.boot with runSlices := 0 } := by
    rw [seqNamed, State.setFlag_boot, State.setPair_boot]
    rfl
  have hbefore : memFrame (seqNames n) s (seqNamed { modBoot s (fun b => { b with runSlices := 0 }) with rpl := x } n (runSeqBeat s)) :=
    ((memFrame.refl _ s).of_eq rfl rfl rfl).trans (seqNamed_frame ..)
  obtain ⟨hseq, hpair, huse⟩ := seqRun_seqNamed_shows (s := { modBoot s (fun b => { b with runSlices := 0 }) with rpl := x }) (n := n) hst hw (runSeqBeat s)
  rw [runGoSeq_due h hd, hx]
  exact ⟨by rw [hseq.boot, hboot], hseq.state, hseq.starting, hseq.pend, hpair, huse,
    (hbefore.mono fun y hy => List.mem_append_left _ hy).trans (hseq.frame.mono fun y hy => List.mem_append_right _ hy)⟩

@[simp] theorem State.raise_boot (s : State) (src scope index : Nat) : (s.raise src scope index).boot = s.boot := by
  obtain ⟨x, hx⟩ := raise_eq s src scope index
  rw [hx]

theorem swapAsked_shows (hq : (dirNow s.boot).seq < 2 ^ 32) : (swapAsked s).mgt.swapAt = some s.now ∧ (dirNow (swapAsked s).boot).fwTrial = true ∧
    memFrame [F.BOOT_STATUS_FW_TRIAL.part []] s (swapAsked s) := by
  obtain ⟨hdir, -, hframe⟩ := writeDir_shows hq fun d => { d with fwTrial := true }
  exact ⟨rfl, congrArg Directory.fwTrial hdir, hframe.modMgt _⟩

end

/-- Settles O57: RUN_GO names the start of a wheel and S + 1 that of its sequencer through the commands of the wheel and the sequencer; every start of
the cores is one function, whose outcome is that of the choice of a slot. -/
theorem managementAndRun : Obligations.ManagementAndRun := by
  unfold Obligations.ManagementAndRun
  refine ⟨fun s hr h => ?_, fun s n hr h hb hm ha => ?_, fun s n hr h hb hm ha => ?_, fun s n h hd hst hw => ?_, fun s h => ?_, fun s hr h => ?_,
    fun s hr hc h2 hp => ?_, fun s hr hc h3 hp he => ?_, fun s hr h => ?_, fun s hr hq => ?_, fun s k hr h hk => ?_, fun s cores c h => ?_, fun s h => ?_,
    fun s c hrun hswap hc hfirst => ?_, fun s load => ?_⟩
  · exact ⟨_, congrArg Host.Outcome.next ((awake_of_not_reset hr _).trans (runGo_badBeat h)), runBadBeat_shows s⟩
  · exact ⟨_, congrArg Host.Outcome.next (awake_of_not_reset hr _), runGo_accepts_shows h hb hm ha⟩
  · have hframe := memFrame_runNoted s [] [n]
    refine ⟨_, congrArg Host.Outcome.next ((awake_of_not_reset hr _).trans (runGo_refuses h hb hm ha)), by rw [boot_runNoted]; rfl, ?_, ?_, hframe⟩
    · rw [fld_refused_runNoted, (withSlices_one n).2]
    · exact hframe.1.fld_of_reg (by decide) ..
  · exact ⟨_, rfl, runGoSeq_shows h hd hst hw⟩
  · exact congrArg Host.Outcome.next (runGoSeq_idle h)
  · obtain ⟨hstate, hcores, hshed⟩ := setMgtState_shows (coresIdle s) (v := 2) (by decide) (by decide)
    refine ⟨_, congrArg Host.Outcome.next ((awake_of_not_reset hr _).trans (mgtHalt_of_active h)), hstate, hcores, hshed, ?_, ?_,
      ((memFrame.refl _ s).modMgt _).setMgtState 2 fun _ h => h⟩
    · rw [mgt_setMgtState]
      rfl
    · rw [mgt_setMgtState]
      rfl
  · have hstart : mgtRestart s = coresStart s := by
      rw [mgtRestart_go hc (by omega) (by omega), if_neg (by omega)]
    obtain ⟨hout, hswap, hregs, -⟩ := coresStart_shows s
    exact ⟨_, congrArg Host.Outcome.next ((awake_of_not_reset hr _).trans hstart), hout, hswap, hregs⟩
  · have hagain : mgtRestart s = firmwareAgain s := by
      rw [mgtRestart_go hc (by omega) (by omega), if_pos ⟨hp, he⟩]
      rfl
    exact ⟨_, congrArg Host.Outcome.next ((awake_of_not_reset hr _).trans hagain), firmwareAgain_shows s⟩
  · exact congrArg Host.Outcome.next ((awake_of_not_reset hr _).trans (mgtRestart_ignored h))
  · refine ⟨_, congrArg Host.Outcome.next (awake_of_not_reset hr _), ?_⟩
    split
    · next ha =>
      obtain ⟨hswap, hdir, hframe⟩ := swapAsked_shows hq
      rw [swap_accepted ha]
      exact ⟨⟨hswap, hdir⟩, hframe.mono fun x hx => List.mem_cons_of_mem _ hx⟩
    · next ha =>
      rw [swap_refused (Bool.eq_false_iff.mpr ha)]
      exact ⟨⟨by simp (disch := decide), State.setFlag_mgt .., State.setFlag_boot ..⟩, (memFrame.refl _ s).setFlag _ _ (.of_mem (.head _) ..)⟩
  · obtain ⟨hcount, hswap, hout, hregs, -⟩ := coresStart_counted (s := s) (t := s) (r := .MGT_SWAPS) rfl rfl (by decide) (by decide)
    exact ⟨_, congrArg Host.Outcome.next ((awake_of_not_reset hr _).trans (swapTimeout_due h hk)), hcount, hswap, hout, hregs⟩
  · refine ⟨_, congrArg Host.Outcome.next (wdogKick_of_running h cores), get_ofFn _ c, rfl, (memFrame.refl _ s).modMgt _⟩
  · exact congrArg Host.Outcome.next (wdogExpire_quiet h)
  · obtain ⟨hcount, -, hout, hregs, hflt⟩ := coresStart_counted (s := s) (t := s.raise Src.MGT_WDOG Scope.device c) (r := .MGT_RESTARTS)
      (State.raise_boot ..)
      (State.raise_regs ..) (by decide) (by decide)
    refine ⟨_, congrArg Host.Outcome.next (wdogExpire_due hrun hswap hc hfirst), hcount, ?_, hout, hregs⟩
    rw [hflt]
    exact mem_raised_raise _ Src.MGT_WDOG Scope.device c.val (by omega)
  · obtain ⟨hload, hpeak, hshed, hframe⟩ := loadBlock_shows s (load := min 100 load.toNat) (by omega)
    exact ⟨_, rfl, hload, hpeak, hshed, hframe⟩

end Sys2Proof.Machine

namespace Sys2Proof.Machine

/-! ## The phases of the boot (R682, R683, R692 to R695) -/

section
variable {s t u : State} {l : List Part}

/-- The field that shows the phase. -/
def phaseParts : List Part := [F.BOOT_STATUS_PHASE.part []]

/-- The fields of a device that is HELD. -/
def heldParts : List Part := [F.BOOT_STATUS_PHASE.part [], F.BOOT_STATUS_ERR.part []]

theorem fld_phase_bootPhase (s : State) {ph : Nat} (h : ph < 16) : (bootPhase s ph).fld F.BOOT_STATUS_PHASE = ph :=
  State.fld_setFld_fits _ _ _ _ _ _ (by decide) h

theorem boot_bootPhase (s : State) (ph : Nat) : (bootPhase s ph).boot = { s.boot with since := s.now } := by
  rw [bootPhase, boot_modBoot, State.setFld_boot]

theorem memFrame.bootPhase (h : memFrame l s t) (ph : Nat) (hl : F.BOOT_STATUS_PHASE.part [] ∈ l) : memFrame l s (bootPhase t ph) :=
  (h.setFld _ _ (.of_mem hl ..)).modBoot _

theorem bootPhase_shows (s : State) {ph : Nat} (h : ph < 16) : (bootPhase s ph).fld F.BOOT_STATUS_PHASE = ph ∧ memFrame phaseParts s (bootPhase s ph) :=
  ⟨fld_phase_bootPhase s h, (memFrame.refl _ s).bootPhase ph (.head _)⟩

theorem memFrame.bootHeld (h : memFrame l s t) (err : Nat) (hl : ∀ x ∈ heldParts, x ∈ l) : memFrame l s (bootHeld t err) :=
  (h.setFld _ _ (.of_mem (hl _ (.head _)) ..)).setFld _ _ (.of_mem (hl _ (.tail _ (.head _))) ..)

theorem bootHeld_shows (s : State) {err : Nat} (h : err < 8) : (bootHeld s err).fld F.BOOT_STATUS_PHASE = 10 ∧
    (bootHeld s err).fld F.BOOT_STATUS_ERR = err ∧ memFrame heldParts s (bootHeld s err) := by
  refine ⟨?_, State.fld_setFld_fits _ _ _ _ _ _ (by decide) h, (memFrame.refl _ s).bootHeld err fun _ h => h⟩
  unfold bootHeld
  simp (disch := decide)

/-! ### CLOCK, ROM, CHAIN, JOIN and CALIBRATION -/

theorem bootAdvance_clock (hp : s.fld F.BOOT_STATUS_PHASE = 1) : bootAdvance s .none_ = if s.flag F.INV_STATUS_LOCK then bootPhase s 2 else s := by
  unfold bootAdvance
  rw [hp]
  rfl

theorem bootAdvance_rom (hp : s.fld F.BOOT_STATUS_PHASE = 2) (table : Option Bool) (large : Bool) :
    bootAdvance s (.flash table large) = bootRom s table large := by
  unfold bootAdvance
  rw [hp]
  rfl

theorem bootAdvance_firmware (hp : s.fld F.BOOT_STATUS_PHASE = 3) : bootAdvance s .none_ = bootFirmware s := by
  unfold bootAdvance
  rw [hp]
  rfl

theorem bootAdvance_march (hp : s.fld F.BOOT_STATUS_PHASE = 4) (bad : Option (StoreId × Nat)) : bootAdvance s (.march bad) = bootMarch s bad := by
  unfold bootAdvance
  rw [hp]
  rfl

theorem bootAdvance_chain (hp : s.fld F.BOOT_STATUS_PHASE = 5) :
    bootAdvance s .none_ = if chnAligned s ∨ !chnFollows s then bootJoin s else s := by
  unfold bootAdvance
  rw [hp]
  rfl

theorem bootAdvance_join (hp : s.fld F.BOOT_STATUS_PHASE = 6) : bootAdvance s .none_ = bootJoined s := by
  unfold bootAdvance
  rw [hp]
  rfl

theorem bootAdvance_image (hp : s.fld F.BOOT_STATUS_PHASE = 7) (bad : BitVec 17) : bootAdvance s (.image bad) = bootImage s bad := by
  unfold bootAdvance
  rw [hp]
  rfl

theorem bootAdvance_calibration (hp : s.fld F.BOOT_STATUS_PHASE = 8) : bootAdvance s .none_ = bootReady s := by
  unfold bootAdvance
  rw [hp]
  rfl

theorem bootRom_noKey (h : anyKey s = false) (table : Option Bool) (large : Bool) : bootRom s table large = bootHeld s 6 := if_pos (by rw [h]; rfl)

theorem bootRom_noFlash (h : anyKey s = true) {table : Option Bool} {large : Bool} (hf : table = none ∨ large = false) :
    bootRom s table large = bootHeld s 2 := by
  unfold bootRom
  rw [h]
  cases table with
  | none => rfl
  | some octal =>
    obtain rfl : large = false := hf.resolve_left (Option.some_ne_none octal)
    rfl

/-- ROM has found its keys and its flash. -/
def romDone (s : State) (octal : Bool) : State :=
  bootPhase ((s.setFlag F.BOOT_STATUS_QUAD (!octal)).setFlag F.BOOT_STATUS_FW_TRIAL (dirNow s.boot).fwTrial) 3

theorem bootRom_done (h : anyKey s = true) (octal : Bool) : bootRom s (some octal) true = romDone s octal := by
  unfold bootRom
  rw [h]
  rfl

theorem romDone_shows (s : State) (octal : Bool) : (romDone s octal).fld F.BOOT_STATUS_PHASE = 3 ∧ (romDone s octal).flag F.BOOT_STATUS_QUAD = !octal ∧
    (romDone s octal).flag F.BOOT_STATUS_FW_TRIAL = (dirNow s.boot).fwTrial ∧
    memFrame [F.BOOT_STATUS_PHASE.part [], F.BOOT_STATUS_QUAD.part [], F.BOOT_STATUS_FW_TRIAL.part []] s (romDone s octal) := by
  refine ⟨fld_phase_bootPhase _ (by decide), ?_, ?_, ?_⟩
  · rw [romDone, bootPhase]
    simp (disch := decide)
  · rw [romDone, bootPhase]
    simp (disch := decide)
  · exact (((memFrame.refl _ s).setFlag _ _ (.of_mem (.tail _ (.head _)) ..)).setFlag _ _ (.of_mem (.tail _ (.tail _ (.head _))) ..)).bootPhase 3 (.head _)

theorem bootJoin_of_not_auto (h : s.flag F.BOOT_CFG_AUTO_JOIN = false) : bootJoin s = bootPhase s 7 := by
  rw [bootJoin, h]
  rfl

theorem bootChain_of_alone (hc : chnFollows s = false) (h : s.flag F.BOOT_CFG_AUTO_JOIN = false) : bootChain s = bootPhase s 7 := by
  rw [bootChain, hc, ← bootJoin_of_not_auto h]
  rfl

theorem bootBist_skipped (hb : s.flag F.BOOT_CFG_BIST = false) (hc : chnFollows s = false) (h : s.flag F.BOOT_CFG_AUTO_JOIN = false) :
    bootBist s = bootPhase s 7 := by
  rw [bootBist, hb, ← bootChain_of_alone hc h]
  rfl

theorem bootJoined_done (h : s.flag F.KTL_STATUS_JOIN_DONE = true) : bootJoined s = bootPhase s 7 := if_pos (.inl h)

/-- The join has not come in time (R683). -/
def joinLate (s : State) : State := bootPhase (modBoot (s.setFld F.BOOT_STATUS_ERR 7) (fun b => { b with joinLate := true })) 7

theorem bootJoined_late (h : s.flag F.KTL_STATUS_JOIN_DONE = false) (hm : ktlMember s ≠ 3)
    (hd : s.boot.since + max 1 (s.fld F.BOOT_CFG_JOIN_TMO) * 25000000 ≤ s.now) : bootJoined s = joinLate s := by
  unfold bootJoined
  rw [if_neg (not_or.mpr ⟨by rw [h]; exact Bool.false_ne_true, hm⟩), if_pos hd]
  rfl

theorem joinLate_shows (s : State) : (joinLate s).fld F.BOOT_STATUS_PHASE = 7 ∧ (joinLate s).fld F.BOOT_STATUS_ERR = 7 ∧
    (joinLate s).boot.joinLate = true ∧ memFrame heldParts s (joinLate s) := by
  refine ⟨fld_phase_bootPhase _ (by decide), ?_, ?_, ?_⟩
  · rw [joinLate, bootPhase]
    simp (disch := decide)
  · rw [joinLate, boot_bootPhase]
    rfl
  · exact (((memFrame.refl _ s).setFld _ _ (.of_mem (.tail _ (.head _)) ..)).modBoot _).bootPhase 7 (.head _)

/-- CALIBRATION has ended (R695). -/
def bootDone (s : State) : State := (bootPhase s 9).event EvCode.IMG_END 16 2 (s.fld F.GLB_IMG_STATUS_RESULT)

theorem bootReady_done (h : ∀ n : Fin 16, s.fld F.CAL_FG_STATUS_STATE n = 0) : bootReady s = bootDone s :=
  if_pos (List.all_eq_true.mpr fun n _ => beq_iff_eq.mpr (h n))

theorem bootDone_shows (s : State) : (bootDone s).fld F.BOOT_STATUS_PHASE = 9 ∧ memFrame (phaseParts ++ eventParts) s (bootDone s) := by
  refine ⟨?_, ((memFrame.refl (phaseParts ++ eventParts) s).bootPhase 9 (.head _)).event _ _ _ _ fun x hx => List.mem_append_right _ hx⟩
  rw [bootDone, State.fld_event _ _ _ _ _ (by decide)]
  exact fld_phase_bootPhase s (by decide)

/-! ### FIRMWARE -/

theorem flash_chooseSlot (s : State) : (chooseSlot s).2.boot.flash = s.boot.flash := by
  have hnoted : (slotNoted s).boot.flash = s.boot.flash := by
    unfold slotNoted
    split
    · rfl
    · split
      · rw [boot_writeDir]; rfl
      · rw [State.setFlag_boot, boot_writeDir]; rfl
  have hfell : ((slotNoted s).setFlag F.BOOT_STATUS_FW_FELLBACK true).boot.flash = s.boot.flash := by rw [State.setFlag_boot, hnoted]
  rw [chooseSlot_eq]
  split
  · exact hnoted
  · split <;> exact hfell

theorem boot_loadFirmware (s : State) (slot : Bool) : (loadFirmware s slot).boot = s.boot := by
  unfold loadFirmware
  split
  · rfl
  · rw [boot_modMgt, State.wr_boot, State.setFlag_boot]

theorem boardConfig_of_noMagic (h : numAt (flashRead s.boot 0x810000 128) 0 4 ≠ 0x1664B0C0) : boardConfig s = s := if_pos (.inl h)

theorem coresRun_shows (s : State) : (coresRun s).fld F.MGT_STATUS_STATE = 0 ∧ (coresRun s).fld F.MGT_STATUS_CORES = 15 ∧
    sameRegs coreParts s (coresRun s) ∧ (coresRun s).boot = s.boot := by
  unfold coresRun
  refine ⟨?_, ?_, (((sameRegs.refl _ s).of_regs (regs_modMgt ..)).setMgtState 0 fun _ h => h), ?_⟩
  · rw [setMgtState, refreshShed]
    simp (disch := decide)
  · rw [setMgtState, refreshShed]
    simp (disch := decide)
  · rw [boot_setMgtState, boot_modMgt]

/-- The registers that the end of FIRMWARE moves. -/
theorem bootFirmware_run (hm : numAt (flashRead s.boot 0x810000 128) 0 4 ≠ 0x1664B0C0) (hb : s.flag F.BOOT_CFG_BIST = false) (hc : chnFollows s = false)
    (hj : s.flag F.BOOT_CFG_AUTO_JOIN = false) (slot : Bool) {u : State} (hu : memFrame choiceParts s u) (hf : u.boot.flash = s.boot.flash) :
    bootBist (boardConfig (coresRun (loadFirmware u slot))) = bootPhase (coresRun (loadFirmware u slot)) 7 := by
  obtain ⟨hload, -, -⟩ := loadFirmware_shows u slot
  obtain ⟨-, -, hrun, hboot⟩ := coresRun_shows (loadFirmware u slot)
  have hregs : sameRegs coreStartParts s (coresRun (loadFirmware u slot)) :=
    ((hu.1.mono (by decide)).trans (hload.mono (by decide))).trans (hrun.mono (by decide))
  have hread : flashRead (coresRun (loadFirmware u slot)).boot 0x810000 128 = flashRead s.boot 0x810000 128 := by
    rw [hboot, boot_loadFirmware]
    simp only [flashRead, flashByte, hf]
  rw [boardConfig_of_noMagic (by rwa [hread])]
  refine bootBist_skipped ?_ ?_ ?_
  · rw [hregs.flag_of_reg (by decide), hb]
  · rw [← hc, chnFollows, chnRole, hregs.fld_of_reg (by decide)]
    rfl
  · rw [hregs.flag_of_reg (by decide), hj]

/-- The outcome of FIRMWARE: the cores run, or the device is HELD (R682, R683). -/
def firmwareOutcome (chosen : Option Bool) (t : State) : Prop :=
  if chosen = none then t.fld F.BOOT_STATUS_PHASE = 10 ∧ t.fld F.BOOT_STATUS_ERR = 3 ∧ t.fld F.MGT_STATUS_STATE = 3
  else t.fld F.BOOT_STATUS_PHASE = 7 ∧ t.fld F.MGT_STATUS_STATE = 0 ∧ t.fld F.MGT_STATUS_CORES = 15

theorem bootFirmware_outcome (hm : numAt (flashRead s.boot 0x810000 128) 0 4 ≠ 0x1664B0C0) (hb : s.flag F.BOOT_CFG_BIST = false)
    (hc : chnFollows s = false) (hj : s.flag F.BOOT_CFG_AUTO_JOIN = false) : firmwareOutcome (chooseSlot s).1 (bootFirmware s) := by
  have hnoted := (chooseSlot_noted s).frame
  have hflash := flash_chooseSlot s
  unfold bootFirmware
  revert hnoted hflash
  rcases chooseSlot s with ⟨_ | slot, u⟩
  · intro _ _
    obtain ⟨hstate, hphase, herr, -⟩ := coresFailed_shows u
    rw [firmwareOutcome, if_pos rfl]
    exact ⟨hphase, herr, hstate⟩
  · intro hnoted hflash
    obtain ⟨hstate, hcores, -, -⟩ := coresRun_shows (loadFirmware u slot)
    rw [firmwareOutcome, if_neg (Option.some_ne_none slot)]
    dsimp only
    rw [bootFirmware_run hm hb hc hj slot hnoted hflash]
    obtain ⟨hphase, hframe⟩ := bootPhase_shows (coresRun (loadFirmware u slot)) (ph := 7) (by decide)
    exact ⟨hphase, (hframe.1.fld_of_reg (by decide) ..).trans hstate, (hframe.1.fld_of_reg (by decide) ..).trans hcores⟩

/-! ### BIST -/

/-- A store whose every line has been written with zero (R58). -/
def cleared (st : Store) : Store := { st with bytes := [], single := [], double := [], rewrite := [] }

theorem zeroFill_eq (s : State) :
    zeroFill s = eachSlice { s with cstore := cleared s.cstore } (fun s n => s.setStore (.slice n) (cleared (s.store (.slice n)))) := rfl

theorem byteAt_cleared (st : Store) (a : Nat) : (cleared st).byteAt a = 0 := rfl

theorem zeroFill_shows (s : State) : (zeroFill s).regs = s.regs ∧ ∀ id a, ((zeroFill s).store id).byteAt a = 0 := by
  obtain ⟨⟨hregs, hcentral⟩, hslice⟩ := eachSlice_rec (s := { s with cstore := cleared s.cstore })
    (I := fun t => t.regs = s.regs ∧ t.cstore = cleared s.cstore) (P := fun n t => ∀ a, (t.store (.slice n)).byteAt a = 0)
    (f := fun s n => s.setStore (.slice n) (cleared (s.store (.slice n)))) ⟨rfl, rfl⟩
    (fun t n h => ⟨(State.setStore_regs ..).trans h.1, h.2⟩)
    (fun t n _ a => by rw [State.store_setStore_same]; exact byteAt_cleared _ a)
    (fun t n m _ hne h a => by rw [State.store_setStore_ne _ _ (by simpa using hne)]; exact h a)
  rw [zeroFill_eq]
  refine ⟨hregs, fun id a => ?_⟩
  cases id with
  | slice n => exact hslice n a
  | central => exact congrArg (Store.byteAt · a) hcentral

theorem bootMarch_passed (hc : chnFollows s = false) (h : s.flag F.BOOT_CFG_AUTO_JOIN = false) :
    bootMarch s none = bootPhase (zeroFill s) 7 := by
  have hregs := (zeroFill_shows s).1
  refine bootChain_of_alone ?_ ?_
  · rw [← hc, chnFollows, chnRole, State.fld_of_regs hregs]
    rfl
  · rw [State.flag_of_regs hregs, h]

/-- The registers that record a failing line. -/
def eccAddrParts : List Part := [{ reg := .SLC_ECC_ADDR, idx := [] }, { reg := .GLB_CSTORE_ECC_ADDR, idx := [] }]

theorem memFrame.setEccAddr (h : memFrame l s t) (hl : ∀ x ∈ eccAddrParts, x ∈ l) (id : StoreId) (line word : Nat) (ue : Bool) :
    memFrame l s (t.setEccAddr id line word ue) := by
  have hslice : ∀ (f : Field) (i : Nat), f.reg = .SLC_ECC_ADDR → f.lo + f.width ≤ 32 → holdsFld l f i 0 0 0 := fun f i hf hw =>
    .of_mem_global (by rw [hf]; exact hl _ (.head _)) hw ..
  have hcentral : ∀ (f : Field), f.reg = .GLB_CSTORE_ECC_ADDR → f.lo + f.width ≤ 32 → holdsFld l f 0 0 0 0 := fun f hf hw =>
    .of_mem_global (by rw [hf]; exact hl _ (.tail _ (.head _))) hw ..
  cases id with
  | slice n =>
    exact ((h.setFld _ _ (hslice _ n rfl (by decide))).setFld _ _ (hslice _ n rfl (by decide))).setFld _ _ (hslice _ n rfl (by decide))
  | central => exact ((h.setFld _ _ (hcentral _ rfl (by decide))).setFld _ _ (hcentral _ rfl (by decide))).setFld _ _ (hcentral _ rfl (by decide))

/-! ### IMAGE -/

theorem imgResult_shows {res : Nat} (h : res ≠ 0) (sec : Nat) : (imgResult s res sec).flag F.GLB_IMG_STATUS_FAIL = true ∧
    memFrame [{ reg := .GLB_IMG_STATUS, idx := [] }] s (imgResult s res sec) := by
  unfold imgResult
  rw [if_neg h]
  refine ⟨by simp (disch := decide), ?_⟩
  have hfld : ∀ f : Field, f.reg = .GLB_IMG_STATUS → f.lo + f.width ≤ 32 → holdsFld [{ reg := .GLB_IMG_STATUS, idx := [] }] f 0 0 0 0 := fun f hf hw =>
    .of_mem_global (by rw [hf]; exact .head _) hw ..
  exact (((memFrame.refl _ s).setFld _ _ (hfld _ rfl (by decide))).setFld _ _ (hfld _ rfl (by decide))).setFlag _ _ (hfld _ rfl (by decide))

/-- What the checks of the image slot find. -/
def slotChecks (s : State) (slot : Bool) : Nat × Nat := imageChecks s { flash := true, base := imgBase slot } false allSections []

theorem bootImage_bad (h : ∀ slot, (slotChecks s slot).1 ≠ 0) (bad : BitVec 17) : bootImage s bad =
    bootHeld (imgResult s (slotChecks s (dirNow s.boot).imgActive).1 (slotChecks s (dirNow s.boot).imgActive).2) 4 := by
  have hactive := h (dirNow s.boot).imgActive
  have hother := h (!(dirNow s.boot).imgActive)
  rw [slotChecks] at hactive hother
  unfold bootImage
  dsimp only
  rw [if_neg hactive, if_neg hother]
  rfl

theorem bootImage_bad_shows (h : ∀ slot, (slotChecks s slot).1 ≠ 0) (bad : BitVec 17) : (bootImage s bad).fld F.BOOT_STATUS_PHASE = 10 ∧
    (bootImage s bad).fld F.BOOT_STATUS_ERR = 4 ∧ (bootImage s bad).flag F.GLB_IMG_STATUS_FAIL = true ∧
    memFrame (heldParts ++ [{ reg := .GLB_IMG_STATUS, idx := [] }]) s (bootImage s bad) := by
  rw [bootImage_bad h bad]
  obtain ⟨hfail, himg⟩ := imgResult_shows (s := s) (h (dirNow s.boot).imgActive) (slotChecks s (dirNow s.boot).imgActive).2
  obtain ⟨hphase, herr, hheld⟩ := bootHeld_shows
    (imgResult s (slotChecks s (dirNow s.boot).imgActive).1 (slotChecks s (dirNow s.boot).imgActive).2) (err := 4) (by decide)
  exact ⟨hphase, herr, (hheld.1.flag_of_reg (by decide) ..).trans hfail,
    (himg.mono fun x hx => List.mem_append_right _ hx).trans (hheld.mono fun x hx => List.mem_append_left _ hx)⟩

end
end Sys2Proof.Machine

namespace Sys2Proof.Machine

/-- Settles O55: each phase ends by its own function of what it finds, and each of those by `bootPhase` or `bootHeld`. -/
theorem bootPhases : Obligations.BootPhases := by
  unfold Obligations.BootPhases
  refine ⟨fun s hr hp hl => ?_, fun s hr hp hl => ?_, fun s octal hr hp hk => ?_, fun s table large hr hp hk => ?_, fun s table large hr hp hk hf => ?_,
    fun s hr hp hm hb hc hj => ?_, fun s hr hp hc hj => ?_, fun s id line hr hp => ?_, fun s hr hp ha hj => ?_, fun s hr hp hd => ?_,
    fun s hr hp hd hm ht => ?_, fun s bad hr hp h0 h1 => ?_, fun s hr hp hcal => ?_⟩
  · obtain ⟨hphase, hframe⟩ := bootPhase_shows s (ph := 2) (by decide)
    have hgo : bootAdvance s .none_ = bootPhase s 2 := by rw [bootAdvance_clock hp, if_pos hl]
    exact ⟨_, congrArg Host.Outcome.next ((awake_of_not_reset hr _).trans hgo), hphase, rfl, hframe⟩
  · have hgo : bootAdvance s .none_ = s := by rw [bootAdvance_clock hp, hl, if_neg Bool.false_ne_true]
    exact ⟨_, congrArg Host.Outcome.next ((awake_of_not_reset hr _).trans hgo), rfl, sameRegs.refl _ s, sameBytes.refl s⟩
  · have hgo : bootAdvance s (.flash (some octal) true) = romDone s octal := by rw [bootAdvance_rom hp, bootRom_done hk]
    exact ⟨_, congrArg Host.Outcome.next ((awake_of_not_reset hr _).trans hgo), romDone_shows s octal⟩
  · have hgo : bootAdvance s (.flash table large) = bootHeld s 6 := by rw [bootAdvance_rom hp, bootRom_noKey hk]
    exact ⟨_, congrArg Host.Outcome.next ((awake_of_not_reset hr _).trans hgo), bootHeld_shows s (by decide)⟩
  · have hgo : bootAdvance s (.flash table large) = bootHeld s 2 := by rw [bootAdvance_rom hp, bootRom_noFlash hk hf]
    exact ⟨_, congrArg Host.Outcome.next ((awake_of_not_reset hr _).trans hgo), bootHeld_shows s (by decide)⟩
  · exact ⟨_, congrArg Host.Outcome.next ((awake_of_not_reset hr _).trans (bootAdvance_firmware hp)), bootFirmware_outcome hm hb hc hj⟩
  · obtain ⟨hregs, hzero⟩ := zeroFill_shows s
    obtain ⟨hphase, hframe⟩ := bootPhase_shows (zeroFill s) (ph := 7) (by decide)
    have hgo : bootAdvance s (.march none) = bootPhase (zeroFill s) 7 := by rw [bootAdvance_march hp, bootMarch_passed hc hj]
    exact ⟨_, congrArg Host.Outcome.next ((awake_of_not_reset hr _).trans hgo), hphase, fun id a => (hframe.2 id a).trans (hzero id a),
      ((sameRegs.refl phaseParts s).of_regs hregs).trans hframe.1⟩
  · obtain ⟨hphase, herr, hframe⟩ := bootHeld_shows (s.setEccAddr id line (Config.openValue 35 s.now % 16) ((Config.openValue 36 s.now).testBit 0))
      (err := 5) (by decide)
    have haddr : memFrame (heldParts ++ eccAddrParts) s
        (s.setEccAddr id line (Config.openValue 35 s.now % 16) ((Config.openValue 36 s.now).testBit 0)) :=
      (memFrame.refl _ s).setEccAddr (fun x hx => List.mem_append_right _ hx) ..
    exact ⟨_, congrArg Host.Outcome.next ((awake_of_not_reset hr _).trans (bootAdvance_march hp _)), hphase, herr,
      haddr.trans (hframe.mono fun x hx => List.mem_append_left _ hx)⟩
  · obtain ⟨hphase, hframe⟩ := bootPhase_shows s (ph := 7) (by decide)
    have hgo : bootAdvance s .none_ = bootPhase s 7 := by rw [bootAdvance_chain hp, if_pos (.inl ha), bootJoin_of_not_auto hj]
    exact ⟨_, congrArg Host.Outcome.next ((awake_of_not_reset hr _).trans hgo), hphase, hframe⟩
  · obtain ⟨hphase, hframe⟩ := bootPhase_shows s (ph := 7) (by decide)
    have hgo : bootAdvance s .none_ = bootPhase s 7 := by rw [bootAdvance_join hp, bootJoined_done hd]
    exact ⟨_, congrArg Host.Outcome.next ((awake_of_not_reset hr _).trans hgo), hphase, by rw [boot_bootPhase], hframe⟩
  · have hgo : bootAdvance s .none_ = joinLate s := by rw [bootAdvance_join hp, bootJoined_late hd hm ht]
    exact ⟨_, congrArg Host.Outcome.next ((awake_of_not_reset hr _).trans hgo), joinLate_shows s⟩
  · have hchecks : ∀ slot, (slotChecks s slot).1 ≠ 0 := fun slot => by
      rw [slotChecks]
      cases slot
      · exact h0
      · exact h1
    exact ⟨_, congrArg Host.Outcome.next ((awake_of_not_reset hr _).trans (bootAdvance_image hp bad)), bootImage_bad_shows hchecks bad⟩
  · have hgo : bootAdvance s .none_ = bootDone s := by rw [bootAdvance_calibration hp, bootReady_done hcal]
    exact ⟨_, congrArg Host.Outcome.next ((awake_of_not_reset hr _).trans hgo), bootDone_shows s⟩

end Sys2Proof.Machine

namespace Sys2Proof.Machine

/-! ## Plain registers: what a read answers and a write stores (R7, R8, R23) -/

section
variable {s t u : State} {l : List Part}

/-- Registers of configuration alone: no unit shows, takes or bounds them otherwise. -/
def plainRegs : List Reg := [.SEQ_LCOUNT, .SEQ_LIM_LO, .SEQ_LIM_HI, .GLB_IMG_LEN, .GLB_IMG_SRC, .FLT_INJECT_IDX, .RPL_RING_BASE]

/-- The state with a register at what a write of some of its bits leaves. -/
def maskStored (s : State) (key : RegKey) (mask v : Nat) : State :=
  if mix mask v (s.rd key.reg key.i key.j key.k key.l).toNat = (s.rd key.reg key.i key.j key.k key.l).toNat then s
  else s.wr key.reg (BitVec.ofNat 32 (mix mask v (s.rd key.reg key.i key.j key.k key.l).toNat)) key.i key.j key.k key.l

theorem rd_maskStored (s : State) (key : RegKey) (mask v : Nat) : (maskStored s key mask v).rd key.reg key.i key.j key.k key.l =
    BitVec.ofNat 32 (mix mask v (s.rd key.reg key.i key.j key.k key.l).toNat) := by
  unfold maskStored
  split
  · next h => rw [h, BitVec.ofNat_toNat, BitVec.setWidth_eq]
  · exact State.rd_wr_same ..

theorem maskStored_eq (s : State) (key : RegKey) (mask v : Nat) : ∃ x, maskStored s key mask v = { s with regs := x } := by
  unfold maskStored
  split
  · exact ⟨_, rfl⟩
  · exact ⟨_, rfl⟩

theorem memFrame.maskStored (h : memFrame l s t) (key : RegKey) (hl : holdsReg l key.reg key.i key.j key.k key.l) (mask v : Nat) :
    memFrame l s (maskStored t key mask v) := h.ite (h.wr _ _ hl)

/-- A write of the register only stores its bits, and then clears and commands. -/
structure StoresOnly (key : RegKey) (path : Path) : Prop where
  ignored : ∀ (s : State) v, s.writeIgnored path key v = none
  word : ∀ (s : State) v, s.storedWord key v = v
  clamp : ∀ s v, levelClamp s key v = s
  own : key.reg.ownMask = 0
  flags : ∀ s v, clearFlags s key v = s
  hook : ∀ s, regHook s key = s

/-- The bits that a write of `v` reaches. -/
def reachedBits (s : State) (key : RegKey) (v : Nat) : Nat := key.reg.writable - (key.reg.writable &&& ((s.heldBits key v).1 ||| key.fixedMask))

theorem wordWrite_storesOnly {key : RegKey} {path : Path} (h : StoresOnly key path) (s : State) (port : Option (Fin 2)) (v : Word) :
    wordWrite s path port key v =
      (regCommands (clearWrite (maskStored s key (reachedBits s key v.toNat) v.toNat) key v.toNat) path key v.toNat, (s.heldBits key v.toNat).2) := by
  unfold wordWrite
  rw [h.ignored]
  dsimp only
  simp only [h.word, h.clamp, h.own, h.flags, h.hook, Nat.and_zero, Nat.sub_zero, true_or, if_true, ite_self]
  rfl

theorem storesOnly_of_plain {key : RegKey} (hr : key.reg ∈ plainRegs) (path : Path) : StoresOnly key path := by
  obtain ⟨r, i, j, k, m⟩ := key
  dsimp only at hr
  simp only [plainRegs, List.mem_cons, List.not_mem_nil, or_false] at hr
  have hflags : r.accessMask [.w1c] = 0 := by rcases hr with rfl | rfl | rfl | rfl | rfl | rfl | rfl <;> rfl
  constructor
  · rcases hr with rfl | rfl | rfl | rfl | rfl | rfl | rfl <;> exact fun _ _ => rfl
  · rcases hr with rfl | rfl | rfl | rfl | rfl | rfl | rfl <;> exact fun _ _ => rfl
  · rcases hr with rfl | rfl | rfl | rfl | rfl | rfl | rfl <;> exact fun _ _ => rfl
  · rcases hr with rfl | rfl | rfl | rfl | rfl | rfl | rfl <;> rfl
  · rcases hr with rfl | rfl | rfl | rfl | rfl | rfl | rfl <;> exact fun _ _ => by simp [clearFlags, hflags]
  · rcases hr with rfl | rfl | rfl | rfl | rfl | rfl | rfl <;> exact fun _ => rfl

/-- A write of a plain register that nothing holds stores its writable bits. -/
theorem wordWrite_plain {key : RegKey} (hr : key.reg ∈ plainRegs) {v : Word} (hheld : (s.heldBits key v.toNat).1 = 0) (path : Path)
    (port : Option (Fin 2)) : (wordWrite s path port key v).1 = maskStored s key key.reg.writable v.toNat := by
  have hreach : reachedBits s key v.toNat = key.reg.writable := by
    have hfixed : key.fixedMask = 0 := by
      obtain ⟨r, i, j, k, m⟩ := key
      simp only [plainRegs, List.mem_cons, List.not_mem_nil, or_false] at hr
      rcases hr with rfl | rfl | rfl | rfl | rfl | rfl | rfl <;> rfl
    rw [reachedBits, hheld, hfixed, Nat.or_self, Nat.and_zero, Nat.sub_zero]
  have hdone : ∀ t, regCommands (clearWrite t key v.toNat) path key v.toNat = t := by
    obtain ⟨r, i, j, k, m⟩ := key
    simp only [plainRegs, List.mem_cons, List.not_mem_nil, or_false] at hr
    rcases hr with rfl | rfl | rfl | rfl | rfl | rfl | rfl <;> exact fun _ => rfl
  rw [wordWrite_storesOnly (storesOnly_of_plain hr path), hreach, hdone]

/-- A plain register is no half of a pair. -/
theorem regApply_plain {key : RegKey} (hr : key.reg ∈ plainRegs) (t : State) (path : Path) (port : Option (Fin 2)) (v : Word) :
    regApply t path port key v = wordWrite t path port key v := by
  obtain ⟨r, i, j, k, m⟩ := key
  simp only [plainRegs, List.mem_cons, List.not_mem_nil, or_false] at hr
  rcases hr with rfl | rfl | rfl | rfl | rfl | rfl | rfl <;> rfl

theorem keyRead_plain {key : RegKey} (hr : key.reg ∈ plainRegs) (hs : keptWord s.shadow key = none) :
    keyRead s key = { s with readValue := regView s key } := by
  obtain ⟨r, i, j, k, m⟩ := key
  have hread : ∀ r ∈ plainRegs, shadowRead s ⟨r, i, j, k, m⟩ = keyRead s ⟨r, i, j, k, m⟩ ∧ plainRead s ⟨r, i, j, k, m⟩ =
      { s with readValue := regView s ⟨r, i, j, k, m⟩ } := by
    intro r hr
    simp only [plainRegs, List.mem_cons, List.not_mem_nil, or_false] at hr
    rcases hr with rfl | rfl | rfl | rfl | rfl | rfl | rfl <;> exact ⟨rfl, rfl⟩
  rw [← (hread r hr).1, ← (hread r hr).2, shadowRead, hs]

/-- A plain register shows what it holds. -/
theorem regView_plain_congr {key : RegKey} (hr : key.reg ∈ plainRegs) (h : t.rd key.reg key.i key.j key.k key.l = s.rd key.reg key.i key.j key.k key.l) :
    regView t key = regView s key := by
  have hshown : ∀ u : State, shownFields u key = [] := by
    obtain ⟨r, i, j, k, m⟩ := key
    simp only [plainRegs, List.mem_cons, List.not_mem_nil, or_false] at hr
    rcases hr with rfl | rfl | rfl | rfl | rfl | rfl | rfl <;> exact fun _ => rfl
  have hmask : key.reg.accessMask [.w1s, .wo] = 0 := by
    obtain ⟨r, i, j, k, m⟩ := key
    simp only [plainRegs, List.mem_cons, List.not_mem_nil, or_false] at hr
    rcases hr with rfl | rfl | rfl | rfl | rfl | rfl | rfl <;> rfl
  rw [regView_of_stored (hshown t) hmask, regView_of_stored (hshown s) hmask, h]

/-- Where no bit is held no access is reported (R69). -/
theorem heldBits_snd {key : RegKey} {v : Nat} (h : (s.heldBits key v).1 = 0) : (s.heldBits key v).2 = false := by
  unfold State.heldBits at h ⊢
  dsimp only at h ⊢
  obtain ⟨hlocked, hbeyond⟩ := Nat.or_eq_zero_iff.mp h
  rw [hlocked, hbeyond]
  simp

theorem regWrite_plain {a : Nat} {key : RegKey} (hat : regAt a = some key) (hk : key.reg ∈ plainRegs) (hrpl : s.rplState ≠ 2)
    (hhold : (inSliceRegs a && reloadHolds s (sliceOfAddr a)) = false) {v : Word} (hheld : (s.heldBits key v.toNat).1 = 0) (path : Path)
    (port : Option (Fin 2)) : ∃ x, regWrite s path port a v = (maskStored { s with rpl := x } key key.reg.writable v.toNat, false) := by
  obtain ⟨x, hx⟩ := journalReg_eq s path a v
  have hheld' : ((journalReg s path a v).heldBits key v.toNat).1 = 0 := by rw [hx]; exact hheld
  refine ⟨x, ?_⟩
  have hgo : regWrite s path port a v = wordWrite (journalReg s path a v) path port key v := by
    unfold regWrite
    rw [hat]
    dsimp only
    rw [if_neg fun h => hrpl h.1, if_neg (Bool.eq_false_iff.mp hhold), regApply_plain hk]
  have hreported : (wordWrite (journalReg s path a v) path port key v).2 = false := by
    rw [wordWrite_storesOnly (storesOnly_of_plain hk path)]
    exact heldBits_snd hheld'
  have hstate := wordWrite_plain (s := journalReg s path a v) hk hheld' path port
  rw [hgo, ← hx, ← hstate, ← hreported]

end
end Sys2Proof.Machine

namespace Sys2Proof.Machine

/-! ## Frames of the side port (R554 to R563) -/

section
variable {s t u : State} {l : List Part}

theorem memFrame.modSide (h : memFrame l s t) (f : SidePort → SidePort) : memFrame l s (modSide t f) := h.of_eq rfl rfl rfl

@[simp] theorem rd_modSide (s : State) (f : SidePort → SidePort) (r : Reg) (i j k m : Nat) : (modSide s f).rd r i j k m = s.rd r i j k m := rfl
@[simp] theorem fld_modSide (s : State) (f : SidePort → SidePort) (x : Field) (i j k m : Nat) : (modSide s f).fld x i j k m = s.fld x i j k m := rfl
@[simp] theorem flag_modSide (s : State) (f : SidePort → SidePort) (x : Field) (i j k m : Nat) : (modSide s f).flag x i j k m = s.flag x i j k m := rfl
@[simp] theorem side_modSide (s : State) (f : SidePort → SidePort) : (modSide s f).side = f s.side := rfl

/-! ### The beginning of a frame -/

/-- The fields that the beginning of a frame sets. -/
def beginParts : List Part := [F.SIDE_STATUS_MODE3.part [], F.SIDE_STATUS_LATE.part []]

/-- The port with a reply on its way. -/
def answering (x : SidePort) (m : BitVec 64) : SidePort := { x with miso := m, reading := false }

@[simp] theorem lastRead_answering (x : SidePort) (m : BitVec 64) : (answering x m).lastRead = x.lastRead := rfl
@[simp] theorem stepRead_answering (x : SidePort) (m : BitVec 64) : (answering x m).stepRead = x.stepRead := rfl
@[simp] theorem stepWrite_answering (x : SidePort) (m : BitVec 64) : (answering x m).stepWrite = x.stepWrite := rfl
@[simp] theorem stepStream_answering (x : SidePort) (m : BitVec 64) : (answering x m).stepStream = x.stepStream := rfl
@[simp] theorem miso_answering (x : SidePort) (m : BitVec 64) : (answering x m).miso = m := rfl

/-- The port after the beginning of a frame. -/
def sideBegun (x : SidePort) (f : SideFrame) : SidePort :=
  answering x (if f.late && x.reading then { x.reply with code := 10, data := 0 } else x.reply).bits

theorem sideBegin_eq (s : State) (f : SideFrame) : ∃ x, sideBegin s f = { s with regs := x, side := sideBegun s.side f } := by
  unfold sideBegin sideBegun
  generalize (f.late && s.side.reading) = late
  cases late
  · exact ⟨_, rfl⟩
  · exact ⟨_, rfl⟩

theorem reg_of_mem_beginParts : ∀ p ∈ beginParts, p.reg = .SIDE_STATUS := by decide

theorem memFrame_sideBegin (s : State) (f : SideFrame) : memFrame beginParts s (sideBegin s f) := by
  have hmode : memFrame beginParts s (s.setFlag F.SIDE_STATUS_MODE3 f.mode3) := (memFrame.refl _ s).setFlag _ _ (.of_mem (.head _) ..)
  exact (memFrame.ite (hmode.setFlag _ _ (.of_mem (.tail _ (.head _)) ..)) hmode).modSide _

theorem flag_mode_sideBegin (s : State) (f : SideFrame) : (sideBegin s f).flag F.SIDE_STATUS_MODE3 = f.mode3 := by
  unfold sideBegin
  dsimp only
  rw [flag_modSide, State.flag_ite]
  split
  · simp (disch := decide)
  · simp (disch := decide)

/-- What the beginning of a frame leaves as it was: everything but the port and two flags of its status. -/
structure FrameBegun (s t : State) (f : SideFrame) : Prop where
  side : t.side = sideBegun s.side f
  frame : memFrame beginParts s t
  mode : t.flag F.SIDE_STATUS_MODE3 = f.mode3
  eq : ∃ x y, t = { s with regs := x, side := y }

theorem frameBegun_sideBegin (s : State) (f : SideFrame) : FrameBegun s (sideBegin s f) f where
  side := by obtain ⟨x, hx⟩ := sideBegin_eq s f; rw [hx]
  frame := memFrame_sideBegin s f
  mode := flag_mode_sideBegin s f
  eq := by obtain ⟨x, hx⟩ := sideBegin_eq s f; exact ⟨x, _, hx⟩

variable {f : SideFrame}

theorem FrameBegun.fld (h : FrameBegun s t f) {x : Field} (hx : x.reg ≠ .SIDE_STATUS) (i j k m : Nat) : t.fld x i j k m = s.fld x i j k m :=
  h.frame.1.fld_of_reg (fun p hp => by rw [reg_of_mem_beginParts p hp]; exact hx.symm) ..

theorem FrameBegun.flag (h : FrameBegun s t f) {x : Field} (hx : x.reg ≠ .SIDE_STATUS) (i j k m : Nat) : t.flag x i j k m = s.flag x i j k m :=
  h.frame.1.flag_of_reg (fun p hp => by rw [reg_of_mem_beginParts p hp]; exact hx.symm) ..

theorem FrameBegun.rd (h : FrameBegun s t f) {r : Reg} (hx : r ≠ .SIDE_STATUS) (i j k m : Nat) : t.rd r i j k m = s.rd r i j k m :=
  h.frame.1.rd_eq (fun p hp => by rw [reg_of_mem_beginParts p hp]; exact hx.symm) ..

/-! ### The end of a frame -/

theorem sideReply_side (s : State) (r : SideReply) : (sideReply s r).side = { s.side with reply := r } := by
  unfold sideReply
  dsimp only
  split
  · rw [State.count_side]; rfl
  · rfl

/-- A frame that has acted is counted. -/
def counted (r : SideReply) : Bool := r.code == 0 || r.code == 5 || r.code == 9

theorem sideReply_counted (s : State) {r : SideReply} (h : counted r = true) : sideReply s r = (modSide s fun x => { x with reply := r }).count .SIDE_FRAMES := by
  refine if_pos ?_
  simpa [counted, or_assoc] using h

theorem sideReply_uncounted (s : State) {r : SideReply} (h : counted r = false) : sideReply s r = modSide s fun x => { x with reply := r } := by
  refine if_neg ?_
  simpa [counted, not_or, and_assoc] using h

theorem rd_frames_sideReply (s : State) {r : SideReply} (h : counted r = true) : (sideReply s r).rd .SIDE_FRAMES = satCount (s.rd .SIDE_FRAMES) 1 := by
  rw [sideReply_counted s h, State.rd_count_same]
  rfl

theorem memFrame.sideReply (h : memFrame l s t) (r : SideReply) (hl : { reg := .SIDE_FRAMES, idx := [] } ∈ l) : memFrame l s (sideReply t r) := by
  by_cases hc : counted r = true
  · rw [sideReply_counted t hc]
    exact (h.modSide _).count _ (.of_mem hl ..)
  · rw [sideReply_uncounted t (Bool.eq_false_iff.mpr hc)]
    exact h.modSide _

theorem memFrame.sideReply_uncounted (h : memFrame l s t) {r : SideReply} (hc : counted r = false) : memFrame l s (Machine.sideReply t r) := by
  rw [Machine.sideReply_uncounted t hc]
  exact h.modSide _

theorem rd_sideReply (s : State) (r : SideReply) {x : Reg} (hx : x ≠ .SIDE_FRAMES) (i j k m : Nat) : (sideReply s r).rd x i j k m = s.rd x i j k m :=
  ((memFrame.refl [({ reg := .SIDE_FRAMES, idx := [] } : Part)] s).sideReply r (.head _)).1.rd_eq (by simpa using hx.symm) ..

theorem fld_sideReply (s : State) (r : SideReply) {x : Field} (hx : x.reg ≠ .SIDE_FRAMES) (i j k m : Nat) :
    (sideReply s r).fld x i j k m = s.fld x i j k m := congrArg (fun w : Word => bitsAt w.toNat x.lo x.width) (rd_sideReply s r hx i j k m)

theorem flag_sideReply (s : State) (r : SideReply) {x : Field} (hx : x.reg ≠ .SIDE_FRAMES) (i j k m : Nat) :
    (sideReply s r).flag x i j k m = s.flag x i j k m := congrArg (· == 1) (fld_sideReply s r hx i j k m)

/-! ### Whole frames -/

/-- A whole frame acts on the state of its beginning. -/
theorem sideFrame_acts (hr : s.inReset = false) (hs : s.side.stream = none) (he : f.edges = 64) (act : State → SideReply × State) :
    sideFrame s f act = sideReply (act (sideBegin s f)).2 (act (sideBegin s f)).1 := by
  unfold sideFrame
  rw [hr, hs, if_neg (by decide)]
  dsimp only
  rw [if_neg (not_not.mpr he)]

theorem sideFrame_aborted (hr : s.inReset = false) (hs : s.side.stream = none) (he : f.edges ≠ 64) (act : State → SideReply × State) :
    sideFrame s f act = sideAborted (sideBegin s f) := by
  unfold sideFrame
  rw [hr, hs, if_neg (by decide)]
  dsimp only
  rw [if_pos he]

/-- What a whole frame leaves, from what its command does after the beginning. -/
theorem sideFrame_of_act (hr : s.inReset = false) (hs : s.side.stream = none) (he : f.edges = 64) {act : State → SideReply × State} {r : SideReply}
    (ha : act (sideBegin s f) = (r, t)) : sideFrame s f act = sideReply t r := by
  rw [sideFrame_acts hr hs he, ha]

end
end Sys2Proof.Machine

namespace Sys2Proof.Machine

/-! ## Reads and writes of the side port (R558 to R563) -/

section
variable {s t u : State} {l : List Part} {f : SideFrame}

/-! ### Regions -/

/-- A register stands in a region of registers. -/
theorem regionOf_of_regAt {a : Nat} {key : RegKey} (h : regAt a = some key) :
    (∃ o, regionOf a = some (.globalRegs, o) ∧ inSliceRegs a = false) ∨
      ∃ o, regionOf a = some (.sliceRegs (sliceOfAddr a), o) ∧ inSliceRegs a = true := by
  by_cases hg : a < 0x1000000
  · exact .inl ⟨a, by rw [regionOf, if_pos hg], by simp [inSliceRegs]; omega⟩
  · by_cases hs : 0x10000000 ≤ a ∧ a < 0x11000000
    · refine .inr ⟨(a - 0x10000000) % 0x100000, ?_, by simpa [inSliceRegs] using hs⟩
      have hn : (⟨(a - 0x10000000) / 0x100000 % 16, by omega⟩ : Fin 16) = sliceOfAddr a := Fin.ext (by rw [sliceOfAddr]; dsimp only; omega)
      rw [regionOf, if_neg hg, if_pos hs, hn]
    · have hslice : inSliceRegs a = false := by simpa [inSliceRegs] using hs
      have hglobal : inGlobalRegs a = false := by simpa [inGlobalRegs] using hg
      rw [regAt, hslice, hglobal] at h
      exact absurd h (by simp)

theorem FrameBegun.reloadHolds (h : FrameBegun s t f) (n : Fin 16) : reloadHolds t n = reloadHolds s n := by
  have hbusy := h.flag (x := F.GLB_IMG_STATUS_BUSY) (by decide) 0 0 0 0
  have hphase := h.fld (x := F.GLB_IMG_STATUS_PHASE) (by decide) 0 0 0 0
  obtain ⟨x, y, rfl⟩ := h.eq
  unfold Machine.reloadHolds
  rw [hbusy, hphase]

theorem FrameBegun.storeOn (h : FrameBegun s t f) (id : StoreId) : t.storeOn id = s.storeOn id := by
  unfold State.storeOn State.storePower
  cases id with
  | slice n => exact congrArg (· == 0) (h.fld (x := F.SLC_STORE_PWR_STATE) (by decide) n 0 0 0)
  | central => exact congrArg (· == 0) (h.fld (x := F.GLB_CSTORE_PWR_STATE) (by decide) 0 0 0 0)

/-- A reload holds the slice of the store. -/
def storeHeld (s : State) : StoreId → Bool
  | .slice n => reloadHolds s n
  | .central => false

/-- The store may serve reads: no reload holds its slice, and it is ON. -/
def storeServes (s : State) (id : StoreId) : Prop := storeHeld s id = false ∧ s.storeOn id = true

theorem storeStop_eq {a o : Nat} {r : Region} {id : StoreId} (ha : regionOf a = some (r, o)) (hr : r.storeId = some id) : storeStop s a =
    if storeHeld s id then some 6 else if !s.storeOn id then some 7 else if id = .central ∧ 0xE00000 ≤ o then some 8 else none := by
  unfold storeStop
  rw [ha]
  dsimp only
  rw [hr]
  cases id <;> rfl

theorem storeServes_of_storeStop {a o : Nat} {r : Region} {id : StoreId} (ha : regionOf a = some (r, o)) (hr : r.storeId = some id)
    (h : storeStop s a = none ∨ storeStop s a = some 8) : storeServes s id := by
  rw [storeStop_eq ha hr] at h
  split at h
  · simp at h
  · next hheld =>
    split at h
    · simp at h
    · next hon => exact ⟨Bool.eq_false_iff.mpr hheld, by simpa using hon⟩

theorem FrameBegun.storeServes (h : FrameBegun s t f) {id : StoreId} (hs : storeServes s id) : storeServes t id := by
  obtain ⟨hhold, hon⟩ := hs
  refine ⟨?_, (h.storeOn id).trans hon⟩
  cases id with
  | slice n => exact (h.reloadHolds n).trans hhold
  | central => rfl

/-! ### Reads -/

/-- A read has ended: its answer is the latest, at its address. -/
def readDone (s : State) (a code data : Nat) : State :=
  modSide s fun x => { x with lastRead := some { code := code, addr := wordAddress a, data := data }, stepRead := some a, reading := true }

theorem sideReadAt_reg {a o : Nat} {r : Region} (ha : regionOf a = some (r, o)) (hr : r.storeId = none) :
    sideReadAt s a = ({ code := 0, addr := wordAddress a, data := (regRead s a).readValue.toNat },
      readDone (regRead s a) a 0 (regRead s a).readValue.toNat) := by
  unfold sideReadAt
  rw [ha]
  dsimp only
  rw [hr]
  rfl

theorem sideReadAt_plain {a : Nat} {key : RegKey} (hat : regAt a = some key) (hk : key.reg ∈ plainRegs) (hs : keptWord s.shadow key = none) :
    sideReadAt s a = ({ code := 0, addr := wordAddress a, data := (regView s key).toNat },
      readDone { s with readValue := regView s key } a 0 (regView s key).toNat) := by
  have hread : regRead s a = { s with readValue := regView s key } := by
    unfold regRead
    rw [hat]
    exact keyRead_plain hk hs
  obtain ⟨o, ha, -⟩ | ⟨o, ha, -⟩ := regionOf_of_regAt hat
  · rw [sideReadAt_reg ha rfl, hread]
  · rw [sideReadAt_reg ha rfl, hread]

theorem sideReadAt_store {a o : Nat} {r : Region} {id : StoreId} (ha : regionOf a = some (r, o)) (hr : r.storeId = some id) (hs : storeServes s id)
    (hc : CalmStore id s) : ∃ t, sideReadAt s a = ({ code := 0, addr := wordAddress a, data := ofBytes ((s.store id).read o 4) },
      readDone t a 0 (ofBytes ((s.store id).read o 4))) ∧ WorkedOn id s t ∧ sameBytes s t := by
  obtain ⟨hhold, hon⟩ := hs
  obtain ⟨t, ht, hw, hb⟩ := hc.rangeRead o 4
  refine ⟨t, ?_, hw, hb⟩
  have heq : sideReadAt s a = if storeHeld s id then (sideCode 6, s) else if !s.storeOn id then (sideCode 7, s) else
      let x := rangeRead s id o 4
      if x.2.1.isEmpty then ({ code := 0, addr := wordAddress a, data := ofBytes x.1 }, readDone x.2.2 a 0 (ofBytes x.1))
      else ({ code := 9, addr := wordAddress a, data := 0 }, readDone x.2.2 a 9 0) := by
    unfold sideReadAt
    rw [ha]
    dsimp only
    rw [hr]
    cases id <;> rfl
  rw [heq, hhold, hon, ht]
  rfl

/-! ### Writes -/

theorem sideRegWrite_of_regAt {a : Nat} {key : RegKey} (hat : regAt a = some key) (hhold : (inSliceRegs a && reloadHolds s (sliceOfAddr a)) = false)
    (v : Word) : sideRegWrite s a v = (if (regWrite s .side none a v).2 then 5 else 0, (regWrite s .side none a v).1) := by
  unfold sideRegWrite
  obtain ⟨o, ha, -⟩ | ⟨o, ha, hslice⟩ := regionOf_of_regAt hat
  · rw [ha]
  · rw [hslice, Bool.true_and] at hhold
    rw [ha]
    dsimp only
    rw [hhold]
    rfl

/-- A write has ended: the next steps from its address. -/
def writeDone (s : State) (a : Nat) : State := modSide s fun x => { x with stepWrite := some a }

theorem sideWriteAt_plain {a : Nat} {key : RegKey} (hat : regAt a = some key) (hk : key.reg ∈ plainRegs) (hrpl : s.rplState ≠ 2)
    (hhold : (inSliceRegs a && reloadHolds s (sliceOfAddr a)) = false) {v : Word} (hheld : (s.heldBits key v.toNat).1 = 0) :
    ∃ x, sideWriteAt s a v = ({ code := 0, addr := wordAddress a, data := 0 },
      writeDone (maskStored { s with rpl := x } key key.reg.writable v.toNat) a) := by
  obtain ⟨x, hx⟩ := regWrite_plain hat hk hrpl hhold hheld .side none
  refine ⟨x, ?_⟩
  have hreg : sideRegWrite s a v = (0, maskStored { s with rpl := x } key key.reg.writable v.toNat) := by
    rw [sideRegWrite_of_regAt hat hhold, hx]
    rfl
  unfold sideWriteAt
  rw [hreg]
  rfl

theorem sideWritable_ok (hlock : s.flag F.INV_STATUS_LOCK = true) (hen : s.flag F.SIDE_CFG_WR_EN = true) : sideWritable s = none := by
  unfold sideWritable sideReady
  rw [hlock, hen]
  rfl

theorem sideWritable_disabled (hlock : s.flag F.INV_STATUS_LOCK = true) (hen : s.flag F.SIDE_CFG_WR_EN = false) : sideWritable s = some 12 := by
  unfold sideWritable sideReady
  rw [hlock, hen]
  rfl

/-- A write to a register of configuration finds what it found before the frame began. -/
theorem FrameBegun.heldBits (h : FrameBegun s t f) {key : RegKey} (hk : key.reg ∈ plainRegs) (v : Nat) : (t.heldBits key v).1 = (s.heldBits key v).1 := by
  obtain ⟨x, y, rfl⟩ := h.eq
  obtain ⟨r, i, j, k, m⟩ := key
  simp only [plainRegs, List.mem_cons, List.not_mem_nil, or_false] at hk
  rcases hk with rfl | rfl | rfl | rfl | rfl | rfl | rfl <;> rfl

/-- What a write of a plain register by a frame leaves. -/
theorem write_shows {s t : State} {key : RegKey} (hb : memFrame beginParts s t) (hk : key.reg ∈ plainRegs) (a v : Nat) (x : Journal) :
    ∃ u, u = sideReply (writeDone (maskStored { t with rpl := x } key key.reg.writable v) a) { code := 0, addr := wordAddress a, data := 0 } ∧
      u.side = { t.side with stepWrite := some a, reply := { code := 0, addr := wordAddress a, data := 0 } } ∧
      u.rd key.reg key.i key.j key.k key.l = BitVec.ofNat 32 (mix key.reg.writable v (s.rd key.reg key.i key.j key.k key.l).toNat) ∧
      u.rd .SIDE_FRAMES = satCount (s.rd .SIDE_FRAMES) 1 ∧
      memFrame ({ reg := key.reg, idx := [key.i, key.j, key.k, key.l] } :: { reg := .SIDE_FRAMES, idx := [] } :: beginParts) s u := by
  have hne : ∀ r ∈ plainRegs, r ≠ Reg.SIDE_FRAMES ∧ r ≠ Reg.SIDE_STATUS := by decide
  have hframe : memFrame ({ reg := key.reg, idx := [key.i, key.j, key.k, key.l] } :: { reg := .SIDE_FRAMES, idx := [] } :: beginParts) s { t with rpl := x } :=
    (hb.mono fun p hp => List.mem_cons_of_mem _ (List.mem_cons_of_mem _ hp)).of_eq rfl rfl rfl
  have hwhole : holdsReg ({ reg := key.reg, idx := [key.i, key.j, key.k, key.l] } :: { reg := .SIDE_FRAMES, idx := [] } :: beginParts)
      key.reg key.i key.j key.k key.l := ⟨_, .head _, rfl, by simp [List.isPrefixOf], rfl, Nat.le_refl _⟩
  have hrd : ({ t with rpl := x } : State).rd key.reg key.i key.j key.k key.l = s.rd key.reg key.i key.j key.k key.l :=
    hb.1.rd_eq (fun p hp => by rw [reg_of_mem_beginParts p hp]; exact (hne _ hk).2.symm) ..
  have hstored : memFrame [({ reg := key.reg, idx := [key.i, key.j, key.k, key.l] } : Part)] { t with rpl := x }
      (maskStored { t with rpl := x } key key.reg.writable v) :=
    (memFrame.refl _ _).maskStored key ⟨_, .head _, rfl, by simp [List.isPrefixOf], rfl, Nat.le_refl _⟩ _ _
  refine ⟨_, rfl, ?_, ?_, ?_, ((hframe.maskStored key hwhole _ _).modSide _).sideReply _ (.tail _ (.head _))⟩
  · obtain ⟨y, hy⟩ := maskStored_eq { t with rpl := x } key key.reg.writable v
    rw [sideReply_side, writeDone, side_modSide, hy]
  · rw [rd_sideReply _ _ (hne _ hk).1, writeDone, rd_modSide, rd_maskStored, hrd]
  · rw [rd_frames_sideReply _ rfl, writeDone, rd_modSide, hstored.1.rd_eq (by simpa using (hne _ hk).1)]
    exact congrArg (satCount · 1) (hb.1.rd_eq (by decide) ..)

end
end Sys2Proof.Machine

namespace Sys2Proof.Machine

/-! ## Streams of the side port (R564, R565) -/

section
variable {s t u : State} {l : List Part} {f : SideFrame}

theorem FrameBegun.storeStop (h : FrameBegun s t f) (a : Nat) : storeStop t a = storeStop s a := by
  unfold Machine.storeStop
  split
  · split
    · rfl
    · next r o ha id hr =>
      simp only [h.storeOn]
      cases id with
      | slice n => simp only [h.reloadHolds]
      | central => rfl
  · rfl

/-- A stream that has begun. -/
def streamOpened (s : State) (a edges : Nat) : State :=
  modSide s fun y => { y with stream := some { first := a, next := a, left := (edges - 32) / 32, leftover := edges % 32 != 0, written := 0, stop := none } }

theorem streamBegin_opens {start : State → Option Nat} {stepping : Bool} {a : Nat} (hr : s.inReset = false) (hs : s.side.stream = none)
    (he : 64 ≤ f.edges) (hlock : s.flag F.INV_STATUS_LOCK = true) (hen : s.flag F.SIDE_CFG_WR_EN = true) (ha : start (sideBegin s f) = some a)
    (hstep : stepping = true → a < streamEnd (a - 4)) (hstop : storeStop s a = none) :
    streamBegin s f stepping start = streamOpened (sideBegin s f) a f.edges := by
  have hb := frameBegun_sideBegin s f
  have hwr : sideWritable (sideBegin s f) = none :=
    sideWritable_ok ((hb.flag (by decide) ..).trans hlock) ((hb.flag (by decide) ..).trans hen)
  have hleft : (f.edges - 32) / 32 ≠ 0 := by omega
  unfold streamBegin
  rw [hr, hs, if_neg (by decide)]
  dsimp only
  rw [if_neg (by omega), hwr]
  dsimp only
  rw [ha]
  dsimp only
  rw [if_neg (fun h => Nat.not_lt.mpr h.2 (hstep h.1)), hb.storeStop, hstop]
  exact if_neg hleft

/-- A word of a stream waits for the store. -/
def streamTaken (s : State) (x : SideStream) (w : Nat) : State :=
  (modSide s fun y => { y with fifo := y.fifo ++ [(x.next, w)], stepStream := some x.next }).count .SIDE_WORDS

/-- The stream after a word. -/
def streamNext (x : SideStream) : SideStream := { x with next := x.next + 4, written := x.written + 1, left := x.left - 1 }

theorem streamWord_taken {x : SideStream} (hx : s.side.stream = some x) (hstop : x.stop = none) (hend : x.next < streamEnd x.first)
    (hok : storeStop s x.next = none) (w : Nat) : streamWord s w false =
      if (streamNext x).left = 0 then streamFinish (streamDrain (streamTaken s x w)) (streamNext x)
      else modSide (streamDrain (streamTaken s x w)) fun y => { y with stream := some (streamNext x) } := by
  obtain ⟨first, next, left, leftover, written, stop⟩ := x
  obtain rfl : stop = none := hstop
  dsimp only at hend hok
  unfold streamWord
  rw [hx]
  dsimp only
  rw [if_neg (Nat.not_le.mpr hend), hok]
  dsimp only
  simp only [Bool.false_eq_true, and_false, if_false, reduceCtorEq, false_and, Option.isSome_none]
  rfl

theorem getD_toBytes (k v : Nat) {i : Nat} (h : i < k) : (toBytes k v).getD i 0 = BitVec.ofNat 8 (v / 2 ^ (8 * i)) := by
  induction k generalizing v i with
  | zero => omega
  | succ k ih =>
    cases i with
    | zero => simp [toBytes]
    | succ i =>
      rw [toBytes, List.getD_cons_succ, ih _ (by omega), Nat.div_div_eq_div_mul, show 8 * (i + 1) = 8 + 8 * i by omega, Nat.pow_add]

/-- One word waits: it goes into its store. -/
theorem streamDrain_one {a w o : Nat} {r : Region} {id : StoreId} (hf : s.side.fifo = [(a, w)]) (ha : regionOf a = some (r, o))
    (hr : r.storeId = some id) (hon : s.storeOn id = true) (hc : CalmStore id s) : ∃ t, streamDrain s = modSide t (fun x => { x with fifo := [] }) ∧
      WorkedOn id s t ∧ WroteBytes id o (toBytes 4 w) s t := by
  obtain ⟨t, ht, hw, hb⟩ := hc.pathWrite 1 o (toBytes 4 w)
  refine ⟨t, ?_, hw, hb⟩
  unfold streamDrain
  rw [hf]
  dsimp only [List.foldl_cons, List.foldl_nil]
  rw [ha]
  dsimp only
  rw [hr]
  dsimp only
  rw [if_pos hon, ht]
  rfl

/-- The registers that a store word of the port moves. -/
def portEccParts : List Part := globalParts [.SLC_ECC_CE, .SLC_ECC_ADDR, .GLB_CSTORE_ECC_CE, .GLB_CSTORE_ECC_ADDR]

theorem eccParts_within (id : StoreId) : ∀ x ∈ eccParts id, ∃ y ∈ portEccParts, x.Within y := by
  cases id with
  | slice n =>
    intro x hx
    simp only [eccParts, List.mem_cons, List.not_mem_nil, or_false] at hx
    rcases hx with rfl | rfl
    · exact ⟨_, .head _, .index⟩
    · exact ⟨_, .tail _ (.head _), .index⟩
  | central => exact fun x hx => ⟨x, .tail _ (.tail _ hx), .refl x⟩

/-- What a stream word that is taken leaves. -/
theorem drained_shows {x : SideStream} {w o : Nat} {r : Region} {id : StoreId} (hf : s.side.fifo = []) (ha : regionOf x.next = some (r, o))
    (hr : r.storeId = some id) (hok : storeStop s x.next = none) (hd : (s.store id).double = []) (hi : s.flt.inject = none) :
    ∃ t, streamDrain (streamTaken s x w) = t ∧ t.side = { s.side with fifo := [], stepStream := some x.next } ∧ WroteBytes id o (toBytes 4 w) s t ∧
      t.rd .SIDE_WORDS = satCount (s.rd .SIDE_WORDS) 1 ∧ sameRegs ({ reg := .SIDE_WORDS, idx := [] } :: portEccParts) s t := by
  have hside : (streamTaken s x w).side = { s.side with fifo := [(x.next, w)], stepStream := some x.next } := by
    rw [streamTaken, State.count_side, side_modSide, hf]
    rfl
  have htaken : memFrame [({ reg := .SIDE_WORDS, idx := [] } : Part)] s (streamTaken s x w) := ((memFrame.refl _ s).modSide _).count _ (.of_mem (.head _) ..)
  have hon : (streamTaken s x w).storeOn id = true := by
    rw [← (storeServes_of_storeStop ha hr (.inl hok)).2]
    unfold State.storeOn State.storePower
    cases id with
    | slice n => exact congrArg (· == 0) (htaken.1.fld_of_reg (by decide) ..)
    | central => exact congrArg (· == 0) (htaken.1.fld_of_reg (by decide) ..)
  have hcalm : CalmStore id (streamTaken s x w) := by
    refine ⟨?_, ?_⟩
    · rw [← hd]; cases id <;> rfl
    · rw [streamTaken, State.count_flt]; exact hi
  obtain ⟨t, ht, hw, hb⟩ := streamDrain_one (by rw [hside]) ha hr hon hcalm
  refine ⟨_, ht, ?_, ?_, ?_, ?_⟩
  · rw [side_modSide, hw.side, hside]
  · exact htaken.2.wrote (hb.of_sameBytes fun _ _ => rfl)
  · rw [rd_modSide, hw.regs.rd_eq (by cases id <;> simp [eccParts]), streamTaken, State.rd_count_same]
    rfl
  · have hsame : sameRegs portEccParts (streamTaken s x w) (modSide t fun x => { x with fifo := [] }) := (hw.regs.widen (eccParts_within id)).of_regs rfl
    exact (htaken.1.mono fun p hp => by rw [List.mem_singleton.mp hp]; exact .head _).trans (hsame.mono fun p hp => List.mem_cons_of_mem _ hp)

theorem streamFinish_whole {x : SideStream} (hs : x.stop = none) (hl : x.leftover = false) : streamFinish s x =
    (modSide s fun y => { y with stream := none, reply := { code := 0, addr := wordAddress x.first, data := x.written } }).count .SIDE_FRAMES := by
  unfold streamFinish
  rw [hs, hl]
  rfl

end
end Sys2Proof.Machine

namespace Sys2Proof.Machine

/-! ## The side port (O46) -/

section
variable {s t : State} {f : SideFrame}

/-- What a read of a store by a frame leaves. -/
theorem store_read_shows {a o : Nat} {r : Region} {id : StoreId} (ha : regionOf a = some (r, o)) (hr : r.storeId = some id)
    (hstop : storeStop s a = none ∨ storeStop s a = some 8) (hd : (s.store id).double = []) (hi : s.flt.inject = none)
    (hb : FrameBegun s t f) : ∃ u, sideReadAt t a = ({ code := 0, addr := wordAddress a, data := ofBytes ((s.store id).read o 4) }, u) ∧
      u.side.stepRead = some a ∧ (sideReply u { code := 0, addr := wordAddress a, data := ofBytes ((s.store id).read o 4) }).rd .SIDE_FRAMES =
        satCount (s.rd .SIDE_FRAMES) 1 ∧
      memFrame (beginParts ++ ({ reg := .SIDE_FRAMES, idx := [] } :: portEccParts)) s
        (sideReply u { code := 0, addr := wordAddress a, data := ofBytes ((s.store id).read o 4) }) := by
  have hstore : t.store id = s.store id := by
    obtain ⟨x, y, rfl⟩ := hb.eq
    cases id <;> rfl
  have hcalm : CalmStore id t := by
    refine ⟨by rw [hstore, hd], ?_⟩
    obtain ⟨x, y, rfl⟩ := hb.eq
    exact hi
  obtain ⟨u, hu, hw, hbytes⟩ := sideReadAt_store ha hr (hb.storeServes (storeServes_of_storeStop ha hr hstop)) hcalm
  rw [hstore] at hu
  have hframe : memFrame (beginParts ++ ({ reg := .SIDE_FRAMES, idx := [] } :: portEccParts)) s u :=
    (hb.frame.mono fun p hp => List.mem_append_left _ hp).trans
      ⟨(hw.regs.widen (eccParts_within id)).mono fun p hp => List.mem_append_right _ (List.mem_cons_of_mem _ hp), hbytes⟩
  refine ⟨_, hu, rfl, ?_, (hframe.modSide _).sideReply _ (List.mem_append_right _ (.head _))⟩
  rw [rd_frames_sideReply _ rfl, readDone, rd_modSide, hw.regs.rd_eq (by cases id <;> simp [eccParts])]
  exact congrArg (satCount · 1) (hb.rd (by decide) ..)

theorem sideWr_plain {key : RegKey} (hr : s.inReset = false) (hs : s.side.stream = none) (he : f.edges = 64) {act : State → SideReply × State} {a v : Nat}
    (hk : key.reg ∈ plainRegs) {x : Journal} (ha : act (sideBegin s f) = ({ code := 0, addr := wordAddress a, data := 0 },
      writeDone (maskStored { sideBegin s f with rpl := x } key key.reg.writable v) a)) :
    (sideFrame s f act).side.reply = { code := 0, addr := wordAddress a, data := 0 } ∧
      (sideFrame s f act).rd key.reg key.i key.j key.k key.l = BitVec.ofNat 32 (mix key.reg.writable v (s.rd key.reg key.i key.j key.k key.l).toNat) ∧
      (sideFrame s f act).side.stepWrite = some a ∧ (sideFrame s f act).rd .SIDE_FRAMES = satCount (s.rd .SIDE_FRAMES) 1 ∧
      memFrame ({ reg := key.reg, idx := [key.i, key.j, key.k, key.l] } :: { reg := .SIDE_FRAMES, idx := [] } :: beginParts) s (sideFrame s f act) := by
  obtain ⟨u, hu, hside, hrd, hframes, hframe⟩ := write_shows (frameBegun_sideBegin s f).frame hk a v x
  rw [sideFrame_of_act hr hs he ha, ← hu]
  exact ⟨by rw [hside], hrd, by rw [hside], hframes, hframe⟩

theorem FrameBegun.held (hb : FrameBegun s t f) {a : Nat} (h : (inSliceRegs a && Machine.reloadHolds s (sliceOfAddr a)) = false) :
    (inSliceRegs a && Machine.reloadHolds t (sliceOfAddr a)) = false := by rw [hb.reloadHolds, h]

theorem FrameBegun.rplState (hb : FrameBegun s t f) : t.rplState = s.rplState := hb.fld (by decide) ..

theorem FrameBegun.shadow (hb : FrameBegun s t f) : t.shadow = s.shadow := by
  obtain ⟨x, y, rfl⟩ := hb.eq
  rfl

theorem FrameBegun.sideAddress (hb : FrameBegun s t f) (a : Nat) : sideAddress t a = sideAddress s a := by
  rw [Machine.sideAddress, hb.fld (by decide), Machine.sideAddress]

theorem FrameBegun.sideReady (hb : FrameBegun s t f) (hlock : s.flag F.INV_STATUS_LOCK = true) : sideReady t = true :=
  (hb.flag (by decide) ..).trans hlock

/-- A NOP or an undefined command (R558, R560). -/
theorem nopFrame_shows (bad : Bool) (hr : s.inReset = false) (hs : s.side.stream = none) (he : f.edges = 64) :
    (sideFrame s f (sideNop bad)).side.reply = sideCode (if bad then (if s.flag F.INV_STATUS_LOCK then 3 else 14) else 1) ∧
      (sideFrame s f (sideNop bad)).side.miso = (if f.late && s.side.reading then { s.side.reply with code := 10, data := 0 } else s.side.reply).bits ∧ (sideFrame s f (sideNop bad)).flag F.SIDE_STATUS_MODE3 = f.mode3 ∧
      memFrame beginParts s (sideFrame s f (sideNop bad)) := by
  have hb := frameBegun_sideBegin s f
  have hready : sideReady (sideBegin s f) = s.flag F.INV_STATUS_LOCK := hb.flag (by decide) ..
  have hcode : counted (sideCode (if bad then (if s.flag F.INV_STATUS_LOCK then 3 else 14) else 1)) = false := by
    cases bad <;> cases s.flag F.INV_STATUS_LOCK <;> rfl
  have hact : sideNop bad (sideBegin s f) = (sideCode (if bad then (if s.flag F.INV_STATUS_LOCK then 3 else 14) else 1), sideBegin s f) := by
    rw [sideNop, hready]
  rw [sideFrame_of_act hr hs he hact]
  exact ⟨by rw [sideReply_side], by rw [sideReply_side, hb.side, sideBegun, miso_answering], by rw [flag_sideReply _ _ (by decide), hb.mode], hb.frame.sideReply_uncounted hcode⟩

/-- A frame with a wrong edge count (R559). -/
theorem abortedFrame_shows (hr : s.inReset = false) (hs : s.side.stream = none) (he : f.edges ≠ 64) (act : State → SideReply × State) :
    (sideFrame s f act).side.reply = sideCode 2 ∧ (sideFrame s f act).fld F.SIDE_STATUS_FRAME_ERR =
      min (s.fld F.SIDE_STATUS_FRAME_ERR + 1) (2 ^ F.SIDE_STATUS_FRAME_ERR.width - 1) ∧
    memFrame (beginParts ++ [F.SIDE_STATUS_FRAME_ERR.part []]) s (sideFrame s f act) := by
  have hb := frameBegun_sideBegin s f
  have herr : (sideBegin s f).fld F.SIDE_STATUS_FRAME_ERR = s.fld F.SIDE_STATUS_FRAME_ERR := hb.frame.1.fld_eq _ _ _ _ _ (by decide)
  rw [sideFrame_aborted hr hs he, sideAborted]
  refine ⟨by rw [sideReply_side], ?_, ?_⟩
  · rw [fld_sideReply _ _ (by decide), State.bump, State.fld_setFld_same _ _ _ _ _ _ _ (by decide), herr]
    exact Nat.mod_eq_of_lt (Nat.lt_of_le_of_lt (Nat.min_le_right _ _) (by decide))
  · exact ((hb.frame.mono fun p hp => List.mem_append_left _ hp).bump F.SIDE_STATUS_FRAME_ERR 1
      (.of_mem (List.mem_append_right _ (.head _)) ..)).sideReply_uncounted rfl

/-- A page within the map (R558). -/
theorem pageFrame_shows (hr : s.inReset = false) (hs : s.side.stream = none) (he : f.edges = 64) (hv : f.data.toNat < 2 ^ 14) :
    (sideFrame s f (sidePage f)).side.reply = sideCode 0 ∧ (sideFrame s f (sidePage f)).fld F.SIDE_PAGE_PAGE = f.data.toNat ∧
      (sideFrame s f (sidePage f)).rd .SIDE_FRAMES = satCount (s.rd .SIDE_FRAMES) 1 ∧
      memFrame (beginParts ++ [{ reg := .SIDE_FRAMES, idx := [] }, F.SIDE_PAGE_PAGE.part []]) s (sideFrame s f (sidePage f)) := by
  have hb := frameBegun_sideBegin s f
  have hact : sidePage f (sideBegin s f) = (sideCode 0, (sideBegin s f).setFld F.SIDE_PAGE_PAGE f.data.toNat) := if_pos hv
  rw [sideFrame_of_act hr hs he hact]
  refine ⟨by rw [sideReply_side], ?_, ?_, ?_⟩
  · rw [fld_sideReply _ _ (by decide)]
    exact State.fld_setFld_fits _ _ _ _ _ _ (by decide) hv
  · rw [rd_frames_sideReply _ rfl, State.rd_setFld_apart _ _ _ _ _ _ _ _ _ _ _ _ (by decide), hb.rd (by decide)]
  · exact ((hb.frame.mono fun p hp => List.mem_append_left _ hp).setFld _ _ (.of_mem (List.mem_append_right _ (.tail _ (.head _))) ..)).sideReply _
      (List.mem_append_right _ (.head _))

/-- A read of a plain register (R558, R563). -/
theorem rdFrame_plain_shows {key : RegKey} (hr : s.inReset = false) (hs : s.side.stream = none) (he : f.edges = 64)
    (hlock : s.flag F.INV_STATUS_LOCK = true) (hat : regAt (sideAddress s f.addr.toNat) = some key) (hk : key.reg ∈ plainRegs)
    (hkept : keptWord s.shadow key = none) : (sideFrame s f (sideRd f)).side.reply =
        { code := 0, addr := wordAddress (sideAddress s f.addr.toNat), data := (regView s key).toNat } ∧
      (sideFrame s f (sideRd f)).side.stepRead = some (sideAddress s f.addr.toNat) ∧
      (sideFrame s f (sideRd f)).side.lastRead = some (sideFrame s f (sideRd f)).side.reply ∧
      (sideFrame s f (sideRd f)).rd .SIDE_FRAMES = satCount (s.rd .SIDE_FRAMES) 1 ∧
      memFrame (beginParts ++ [{ reg := .SIDE_FRAMES, idx := [] }]) s (sideFrame s f (sideRd f)) := by
  have hb := frameBegun_sideBegin s f
  have hne : ∀ r ∈ plainRegs, r ≠ Reg.SIDE_STATUS := by decide
  have hview : regView (sideBegin s f) key = regView s key := regView_plain_congr hk (hb.rd (hne _ hk) ..)
  have hact : sideRd f (sideBegin s f) = ({ code := 0, addr := wordAddress (sideAddress s f.addr.toNat), data := (regView s key).toNat },
      readDone { sideBegin s f with readValue := regView s key } (sideAddress s f.addr.toNat) 0 (regView s key).toNat) := by
    unfold sideRd
    rw [hb.sideReady hlock, hb.sideAddress, if_neg (by simp), sideReadAt_plain hat hk (by rw [hb.shadow, hkept]), hview]
  rw [sideFrame_of_act hr hs he hact, sideReply_side]
  have hread : memFrame beginParts s { sideBegin s f with readValue := regView s key } := hb.frame.of_eq rfl rfl rfl
  refine ⟨rfl, rfl, rfl, ?_, ?_⟩
  · rw [rd_frames_sideReply _ rfl, readDone, rd_modSide, hread.1.rd_eq (by decide)]
  · exact ((hread.mono fun p hp => List.mem_append_left _ hp).modSide _).sideReply _ (List.mem_append_right _ (.head _))

/-- A stepping command past the end of its block (R562). -/
theorem rdnFrame_end_shows {last : Nat} (hr : s.inReset = false) (hs : s.side.stream = none) (he : f.edges = 64)
    (hlock : s.flag F.INV_STATUS_LOCK = true) (hlast : s.side.stepRead = some last) (hend : stepEnd last ≤ last + 4) :
    (sideFrame s f sideRdn).side.reply = sideCode 11 ∧ (sideFrame s f sideRdn).flag F.SIDE_STATUS_PAST_END = true ∧
      memFrame (beginParts ++ [F.SIDE_STATUS_PAST_END.part []]) s (sideFrame s f sideRdn) := by
  have hb := frameBegun_sideBegin s f
  have hlast' : (sideBegin s f).side.stepRead = some last := by rw [hb.side, sideBegun, stepRead_answering, hlast]
  have hact : sideRdn (sideBegin s f) = (sideCode 11, (sideBegin s f).setFlag F.SIDE_STATUS_PAST_END true) := by
    unfold sideRdn
    rw [hlast']
    dsimp only
    rw [hb.sideReady hlock, if_neg (by simp), if_pos hend]
  rw [sideFrame_of_act hr hs he hact]
  refine ⟨by rw [sideReply_side], ?_, ?_⟩
  · rw [flag_sideReply _ _ (by decide)]
    simp (disch := decide)
  · exact ((hb.frame.mono fun p hp => List.mem_append_left _ hp).setFlag _ _ (.of_mem (List.mem_append_right _ (.head _)) ..)).sideReply_uncounted rfl

end

/-- Settles O46: a frame is its beginning, its command and its reply; a read of a store and a stream's word go through a store in which nothing waits. -/
theorem sidePort : Obligations.SidePort := by
  unfold Obligations.SidePort
  refine ⟨fun s frame bad hr hs he => ?_, fun s frame bad hr hs he => ?_, fun s frame r hr hs he hl => ?_, fun s frame hr hs he hv => ?_,
    fun s frame hr hs he hv => ?_, fun s frame key hr hs he hlock hat hk hkept => ?_, fun s frame r o id hr hs he hlock ha hid hstop hd hi => ?_,
    fun s frame last r o id hr hs he hlock hlast hend ha hid hstop hd hi => ?_, fun s frame last hr hs he hlock hlast hend => ?_,
    fun s frame key hr hs he hlock hen hat hk hheld hrpl hhold => ?_, fun s frame key last hr hs he hlock hen hlast hend hat hk hheld hrpl hhold => ?_,
    fun s frame hr hs he hlock hen => ?_, fun s frame hr hs he hlock hen hstop => ?_, fun s frame last hr hs he hlock hen hlast hend hstop => ?_,
    fun s x w r o id hx hstop hend hok hf ha hid hd hi hleft => ?_, fun s x w r o id hx hstop hend hok hf ha hid hd hi hleft hwhole => ?_⟩
  · exact ⟨_, rfl, nopFrame_shows bad hr hs he⟩
  · exact ⟨_, rfl, abortedFrame_shows hr hs he _⟩
  · have hb := frameBegun_sideBegin s frame
    have hlast : (sideBegin s frame).side.lastRead = some r := by rw [hb.side, sideBegun, lastRead_answering, hl]
    have hact : sideReplay (sideBegin s frame) = (r, sideBegin s frame) := by rw [sideReplay, hlast]; rfl
    exact ⟨_, congrArg Host.Outcome.next (sideFrame_of_act hr hs he hact), by rw [sideReply_side], by rw [sideReply_side]; exact hlast,
      (hb.frame.mono fun p hp => List.mem_append_left [_] hp).sideReply _ (.tail _ (.tail _ (.head _)))⟩
  · exact ⟨_, rfl, pageFrame_shows hr hs he hv⟩
  · have hb := frameBegun_sideBegin s frame
    have hact : sidePage frame (sideBegin s frame) = (sideCode 4, sideBegin s frame) := if_neg (Nat.not_lt.mpr hv)
    exact ⟨_, congrArg Host.Outcome.next (sideFrame_of_act hr hs he hact), by rw [sideReply_side]; rfl, hb.frame.sideReply_uncounted rfl⟩
  · exact ⟨_, rfl, rdFrame_plain_shows hr hs he hlock hat hk hkept⟩
  · have hb := frameBegun_sideBegin s frame
    obtain ⟨u, hu, hstep, hframes, hframe⟩ := store_read_shows ha hid hstop hd hi hb
    have hact : sideRd frame (sideBegin s frame) =
        ({ code := 0, addr := wordAddress (sideAddress s frame.addr.toNat), data := ofBytes ((s.store id).read o 4) }, u) := by
      unfold sideRd
      rw [hb.sideReady hlock, hb.sideAddress, if_neg (by simp)]
      exact hu
    exact ⟨_, congrArg Host.Outcome.next (sideFrame_of_act hr hs he hact), by rw [sideReply_side], hframes, hframe⟩
  · have hb := frameBegun_sideBegin s frame
    obtain ⟨u, hu, hstep, hframes, hframe⟩ := store_read_shows ha hid hstop hd hi hb
    have hlast' : (sideBegin s frame).side.stepRead = some last := by rw [hb.side, sideBegun, stepRead_answering, hlast]
    have hact : sideRdn (sideBegin s frame) = ({ code := 0, addr := wordAddress (last + 4), data := ofBytes ((s.store id).read o 4) }, u) := by
      unfold sideRdn
      rw [hlast']
      dsimp only
      rw [hb.sideReady hlock, if_neg (by simp), if_neg (Nat.not_le.mpr hend)]
      exact hu
    exact ⟨_, congrArg Host.Outcome.next (sideFrame_of_act hr hs he hact), by rw [sideReply_side], by rw [sideReply_side]; exact hstep, hframes, hframe⟩
  · exact ⟨_, rfl, rdnFrame_end_shows hr hs he hlock hlast hend⟩
  · have hb := frameBegun_sideBegin s frame
    obtain ⟨x, hx⟩ := sideWriteAt_plain (s := sideBegin s frame) hat hk (by rwa [hb.rplState]) (hb.held hhold) (v := frame.data)
      (by rw [hb.heldBits hk, hheld])
    have hact : sideWr frame (sideBegin s frame) = ({ code := 0, addr := wordAddress (sideAddress s frame.addr.toNat), data := 0 },
        writeDone (maskStored { sideBegin s frame with rpl := x } key key.reg.writable frame.data.toNat) (sideAddress s frame.addr.toNat)) := by
      unfold sideWr
      rw [sideWritable_ok ((hb.flag (by decide) ..).trans hlock) ((hb.flag (by decide) ..).trans hen), hb.sideAddress]
      exact hx
    exact ⟨_, rfl, sideWr_plain hr hs he hk hact⟩
  · have hb := frameBegun_sideBegin s frame
    obtain ⟨x, hx⟩ := sideWriteAt_plain (s := sideBegin s frame) hat hk (by rwa [hb.rplState]) (hb.held hhold) (v := frame.data)
      (by rw [hb.heldBits hk, hheld])
    have hlast' : (sideBegin s frame).side.stepWrite = some last := by rw [hb.side, sideBegun, stepWrite_answering, hlast]
    have hact : sideWrn frame (sideBegin s frame) = ({ code := 0, addr := wordAddress (last + 4), data := 0 },
        writeDone (maskStored { sideBegin s frame with rpl := x } key key.reg.writable frame.data.toNat) (last + 4)) := by
      unfold sideWrn
      rw [sideWritable_ok ((hb.flag (by decide) ..).trans hlock) ((hb.flag (by decide) ..).trans hen), hlast']
      dsimp only
      rw [if_neg (Nat.not_le.mpr hend)]
      exact hx
    exact ⟨_, rfl, sideWr_plain hr hs he hk hact⟩
  · have hb := frameBegun_sideBegin s frame
    have hact : sideWr frame (sideBegin s frame) = (sideCode 12, sideBegin s frame) := by
      unfold sideWr
      rw [sideWritable_disabled ((hb.flag (by decide) ..).trans hlock) ((hb.flag (by decide) ..).trans hen)]
    exact ⟨_, congrArg Host.Outcome.next (sideFrame_of_act hr hs he hact), by rw [sideReply_side]; rfl, hb.frame.sideReply_uncounted rfl⟩
  · have hb := frameBegun_sideBegin s frame
    exact ⟨_, congrArg Host.Outcome.next (streamBegin_opens hr hs he hlock hen (congrArg some (hb.sideAddress _)) (fun h => absurd h (by decide)) hstop),
      rfl, hb.frame.modSide _⟩
  · have hb := frameBegun_sideBegin s frame
    have hnext : (sideBegin s frame).side.stepStream.map (· + 4) = some (last + 4) := by
      rw [hb.side, sideBegun, stepStream_answering, hlast]
      rfl
    exact ⟨_, congrArg Host.Outcome.next (streamBegin_opens hr hs he hlock hen hnext (fun _ => hend) hstop), rfl, hb.frame.modSide _⟩
  · obtain ⟨t, ht, hside, hwrote, hcount, hregs⟩ := drained_shows (w := w.toNat) hf ha hid hok hd hi
    have hgo : streamWord s w.toNat false = modSide t fun y => { y with stream := some (streamNext x) } := by
      rw [streamWord_taken hx hstop hend hok, ht, if_neg (by rw [streamNext]; dsimp only; omega)]
    refine ⟨_, congrArg Host.Outcome.next hgo, fun i hi4 => ?_, fun q a hq => hwrote.2 q a (by rwa [length_toBytes]), hcount, ?_, ?_, ?_,
      hregs.of_regs rfl⟩
    · exact (hwrote.1 i (by rwa [length_toBytes])).trans (getD_toBytes 4 _ hi4)
    · rw [side_modSide, hside]
    · rw [side_modSide, hside]
    · rfl
  · obtain ⟨t, ht, hside, hwrote, hcount, hregs⟩ := drained_shows (w := w.toNat) hf ha hid hok hd hi
    have hgo : streamWord s w.toNat false = (modSide t fun y =>
        { y with stream := none, reply := { code := 0, addr := wordAddress x.first, data := x.written + 1 } }).count .SIDE_FRAMES := by
      rw [streamWord_taken hx hstop hend hok, ht, if_pos (by rw [streamNext]; dsimp only; omega)]
      exact streamFinish_whole hstop hwhole
    refine ⟨_, congrArg Host.Outcome.next hgo, fun i hi4 => ?_, fun q a hq => hwrote.2 q a (by rwa [length_toBytes]), ?_, ?_, ?_, ?_, ?_, ?_, ?_⟩
    · exact (hwrote.1 i (by rwa [length_toBytes])).trans (getD_toBytes 4 _ hi4)
    · rw [State.rd_count_apart _ _ _ _ _ _ _ _ _ _ _ (by decide)]
      exact hcount
    · rw [State.count_side, side_modSide, hside]
    · rw [State.count_side, side_modSide, hside]
    · rw [State.count_side, side_modSide]
    · rw [State.count_side, side_modSide]
    · rw [State.rd_count_same, rd_modSide, hregs.rd_eq (by decide)]
    · have hwords : sameRegs (globalParts [.SIDE_WORDS, .SIDE_FRAMES, .SLC_ECC_CE, .SLC_ECC_ADDR, .GLB_CSTORE_ECC_CE, .GLB_CSTORE_ECC_ADDR]) s
          (modSide t fun y => { y with stream := none, reply := { code := 0, addr := wordAddress x.first, data := x.written + 1 } }) :=
        (hregs.mono (by decide)).of_regs rfl
      exact hwords.count _ _ _ _ _ (.of_mem (.tail _ (.head _)) ..)

end Sys2Proof.Machine

namespace Sys2Proof.Machine

/-! ## The Pewter window under a lock (R69, R572) -/

/-- A device in its reset state whose image has locked PWT_CTRL.OPEN. -/
def pewterLocked : State := { State.reset with img := { State.reset.img with locks := [(⟨.PWT_CTRL, 0, 0, 0, 0⟩, 1)] } }

/-- The window is closed, no reload targets slice 0 or 1, and yet the side port's write does not open it. -/
theorem pewterLocked_stays : pewterLocked.flag F.PWT_CTRL_OPEN = false ∧ pewterLocked.reloadTargets 0 = false ∧ pewterLocked.reloadTargets 1 = false ∧
    (regWrite pewterLocked .side none (⟨.PWT_CTRL, 0, 0, 0, 0⟩ : RegKey).address 1).1.flag F.PWT_CTRL_OPEN = false := by decide +kernel

/-- Refutes O47: PWT_CTRL.OPEN is an RWL field. Where the image has locked it, a write of 1 by the side port is held, and the window that the clause for
PEWTER_OPEN says is open stays closed. -/
theorem not_pewterAndAccessory : ¬ Obligations.PewterAndAccessory := by
  unfold Obligations.PewterAndAccessory
  rintro ⟨-, -, -, -, -, -, -, -, -, -, hopen, -⟩
  obtain ⟨hclosed, h0, h1, hstays⟩ := pewterLocked_stays
  obtain ⟨t, ht, hflag, -⟩ := hopen pewterLocked hclosed h0 h1
  have hnext : (regWrite pewterLocked .side none (⟨.PWT_CTRL, 0, 0, 0, 0⟩ : RegKey).address 1).1 = t := Host.Outcome.next.inj ht
  rw [← hnext, hstays] at hflag
  exact Bool.false_ne_true hflag

end Sys2Proof.Machine

namespace Sys2Proof.Machine

/-! ## The transport of a host port (O42, O43) -/

section
variable {l : List Part} {s t u : State} {p : Fin 2} {k : CtpPacket} {kind : Nat}

/-! ### A port -/

@[simp] theorem State.hp_modHost (s : State) (p : Fin 2) (f : HostPort → HostPort) : (s.modHost p f).hp p = f (s.hp p) := by
  simp [State.hp, State.modHost, Vector.get_eq_getElem]

@[simp] theorem State.modHost_modHost (s : State) (p : Fin 2) (f g : HostPort → HostPort) :
    (s.modHost p f).modHost p g = s.modHost p fun x => g (f x) := by
  simp [State.modHost, Vector.get_eq_getElem]

theorem State.modHost_congr {f g : HostPort → HostPort} (h : f (s.hp p) = g (s.hp p)) : s.modHost p f = s.modHost p g := by
  have h' : f (s.host.get p) = g (s.host.get p) := h
  simp only [State.modHost, h']

theorem hp_of_host (h : t.host = s.host) (p : Fin 2) : t.hp p = s.hp p := by rw [State.hp, h, State.hp]

theorem memFrame.modHost (h : memFrame l s t) (p : Fin 2) (f : HostPort → HostPort) : memFrame l s (t.modHost p f) := h.of_eq rfl rfl rfl

theorem memFrame_modHost (s : State) (p : Fin 2) (f : HostPort → HostPort) : memFrame [] s (s.modHost p f) := (memFrame.refl _ s).modHost p f

@[simp] theorem rd_modHost (s : State) (p : Fin 2) (f : HostPort → HostPort) (r : Reg) (i j k m : Nat) :
    (s.modHost p f).rd r i j k m = s.rd r i j k m := rfl
@[simp] theorem fld_modHost (s : State) (p : Fin 2) (f : HostPort → HostPort) (x : Field) (i j k m : Nat) :
    (s.modHost p f).fld x i j k m = s.fld x i j k m := rfl
@[simp] theorem flag_modHost (s : State) (p : Fin 2) (f : HostPort → HostPort) (x : Field) (i j k m : Nat) :
    (s.modHost p f).flag x i j k m = s.flag x i j k m := rfl

/-! ### Reception -/

/-- The packets of a port that an acknowledgement frees. -/
def ackFrees (x : HostPort) (k : CtpPacket) : List Nat :=
  ((x.kept.filter fun e => psnUpTo e.packet.psn.toNat k.ack.toNat).filter fun e => e.packet.kind = 6 ∧ e.packet.eop).map fun e => e.packet.tag.toNat

/-- A port that takes the acknowledgement and the limit of a packet. -/
def ackedPort (k : CtpPacket) (x : HostPort) : HostPort :=
  { x with kept := x.kept.filter (fun e => !psnUpTo e.packet.psn.toNat k.ack.toNat)
           tags := x.tags.filter (fun t => t ∉ ackFrees x k)
           retries := if (x.kept.filter fun e => psnUpTo e.packet.psn.toNat k.ack.toNat).isEmpty then x.retries else 0
           limit := k.limit.toNat }

theorem ctpTakeAck_of_no_nak (h : k.nak = false) : ctpTakeAck s p k = s.modHost p (ackedPort k) := by
  unfold ctpTakeAck
  dsimp only
  rw [h, if_neg Bool.false_ne_true]
  exact State.modHost_congr rfl

/-- A port that takes a waiting packet. -/
def takenPort (k : CtpPacket) (x : HostPort) : HostPort := { x with out := [], inbox := x.inbox.erase k }

theorem ctpTake_eq : ctpTake s p k = s.modHost p (takenPort k) := State.modHost_modHost s p _ _

/-- A port that accepts a packet in order. -/
def acceptedPort (now : Nat) (k : CtpPacket) (x : HostPort) : HostPort :=
  ackedPort k { x with rxPsn := k.psn.toNat, rxUnits := (x.rxUnits + ctpUnits k.data.length) % 2 ^ 32, ackSince := some (x.ackSince.getD now) }

theorem tags_acceptedPort (now : Nat) (k : CtpPacket) (x : HostPort) {tag : Nat} (h : tag ∉ x.tags) : tag ∉ (acceptedPort now k x).tags :=
  fun hm => h (List.mem_of_mem_filter hm)

theorem ctpAccept_of_next (hpeer : ctpFromPeer s p k = true) (hnext : (k.psn.toNat + 2 ^ 24 - (s.hp p).rxPsn) % 2 ^ 24 = 1) (hnak : k.nak = false)
    (hroom : ctpUnits k.data.length ≤ (1024 + (s.hp p).freed + 2 ^ 32 - (s.hp p).rxUnits) % 2 ^ 32) :
    ctpAccept s p k = (s.modHost p (acceptedPort s.now k), true) := by
  have hsession : (s.session p == 1) = true := (Bool.and_eq_true .. ▸ hpeer).1
  unfold ctpAccept
  rw [hpeer]
  dsimp only
  rw [if_neg (by decide), if_neg (by omega), if_neg (not_not.mpr hnext), if_neg (Nat.not_lt.mpr hroom), ctpTakeAck_of_no_nak hnak,
    State.modHost_modHost]
  exact Prod.ext rfl hsession

theorem ctpAccept_of_inOrder (h : ctpInOrder s p k kind = true) :
    ctpWaits s p k kind = true ∧ ctpAccept (ctpTake s p k) p k = (s.modHost p fun x => acceptedPort s.now k (takenPort k x), true) := by
  simp only [ctpInOrder, Bool.and_eq_true, decide_eq_true_eq, Bool.not_eq_true'] at h
  obtain ⟨⟨⟨⟨hwait, hpeer⟩, hnext⟩, hnak⟩, hroom⟩ := h
  refine ⟨hwait, ?_⟩
  rw [ctpTake_eq, ctpAccept_of_next (k := k) _ _ hnak, State.modHost_modHost]
  · rfl
  · rw [State.hp_modHost]; exact hroom
  · unfold ctpFromPeer
    rw [State.hp_modHost]
    exact hpeer
  · rw [State.hp_modHost]; exact hnext

end
end Sys2Proof.Machine

namespace Sys2Proof.Machine

/-! ## The requests of a session (O43) -/

section
variable {l : List Part} {s t u : State} {p : Fin 2} {k : CtpPacket} {kind : Nat}

/-! ### A single job -/

theorem modJob_single (s : State) (p : Fin 2) (f : CtpJob → CtpJob) : modJob s p 0 f = s.modHost p fun x => { x with jobs := x.jobs.modify 0 f } := rfl

theorem jobs_modJob {j : CtpJob} (h : (s.hp p).jobs = [j]) (f : CtpJob → CtpJob) : ((modJob s p 0 f).hp p).jobs = [f j] := by
  rw [modJob_single, State.hp_modHost]
  show (s.hp p).jobs.modify 0 f = [f j]
  rw [h]
  rfl

theorem rxPsn_modJob (s : State) (p : Fin 2) (i : Nat) (f : CtpJob → CtpJob) : ((modJob s p i f).hp p).rxPsn = (s.hp p).rxPsn := by
  rw [modJob, State.hp_modHost]

/-- A job with its outcome. -/
def CtpJob.done (j : CtpJob) (status info : Nat) (reply : List Byte) : CtpJob :=
  { j with executed := true, started := true, status := status, info := info, reply := reply, unsent := [], missing := [] }

theorem jobDone_eq (s : State) (p : Fin 2) (i status info : Nat) (reply : List Byte) :
    jobDone s p i status info reply = modJob s p i fun j => j.done status info reply := rfl

theorem jobs_jobDone {j : CtpJob} (h : (s.hp p).jobs = [j]) (status info : Nat) (reply : List Byte) :
    ((jobDone s p 0 status info reply).hp p).jobs = [j.done status info reply] := jobs_modJob h _

theorem memFrame.modJob (h : memFrame l s t) (p : Fin 2) (i : Nat) (f : CtpJob → CtpJob) : memFrame l s (modJob t p i f) := h.modHost p _

theorem memFrame.jobDone (h : memFrame l s t) (p : Fin 2) (i status info : Nat) (reply : List Byte) :
    memFrame l s (jobDone t p i status info reply) := h.modJob p i _

theorem jobStart_executed {i : Nat} {j : CtpJob} (h : ((s.hp p).jobs)[i]? = some j) (he : j.executed = true) : jobStart s p i = s := by
  unfold jobStart
  rw [h]
  dsimp only
  rw [he, Bool.or_true, Bool.true_or, if_pos rfl]

theorem jobsAdvance_single {j : CtpJob} (h : (s.hp p).jobs = [j]) : jobsAdvance s p = jobStart s p 0 := by
  unfold jobsAdvance
  rw [h]
  rfl

theorem jobsAdvance_executed {j : CtpJob} (h : (s.hp p).jobs = [j]) (he : j.executed = true) : jobsAdvance s p = s := by
  rw [jobsAdvance_single h]
  exact jobStart_executed (by rw [h]; rfl) he

theorem jobsAdvance_none (h : (s.hp p).jobs = []) : jobsAdvance s p = s := by
  unfold jobsAdvance
  rw [h]
  rfl

/-! ### A whole new request -/

/-- The job of a request to this device. -/
def askedJob (k : CtpPacket) (kind units : Nat) : CtpJob :=
  { CtpJob.ready kind k.tag.toNat [] with
    addr := k.addr.toNat, len := k.len.toNat, fixed := k.fixed, data := k.data, executed := false, started := false, units := units }

/-- A port with one job for a packet. -/
def askedPort (now : Nat) (k : CtpPacket) (j : CtpJob) (x : HostPort) : HostPort :=
  let x := acceptedPort now k (takenPort k x)
  { x with jobs := [j], tags := x.tags ++ [k.tag.toNat], freed := (x.freed + ctpUnits k.data.length) % 2 ^ 32 }

/-- The state in which a request is executed. -/
def requestAsked (s : State) (p : Fin 2) (k : CtpPacket) (kind : Nat) : State := s.modHost p (askedPort s.now k (askedJob k kind 0))

/-- A job that nothing holds back has given up its receive space. -/
def jobFreed (s : State) (p : Fin 2) (units : Nat) : State := modJob (ctpFree s p units) p 0 fun j => { j with units := 0 }

/-- A request of this device that passes its checks is executed, or waits for its completion. -/
def requestStarted (s : State) (p : Fin 2) (j : CtpJob) : State :=
  if j.kind = 4 then modJob s p 0 fun j => { j with started := true }
  else
    let r := requestRun s (some p) j.kind (j.addr % 2 ^ 40) j.len j.fixed j.data
    jobDone r.2.2.2 p 0 r.1 r.2.1 r.2.2.1

theorem jobStart_ready {j : CtpJob} (hj : (s.hp p).jobs = [j]) (hacc : j.accesses = true) (hexec : j.executed = false) (hcomplete : j.complete = true)
    (hstart : j.started = false) (hstatus : j.status = 0) (hdev : j.dev = none)
    (hst : requestStatus s j.kind (j.addr % 2 ^ 40) j.len j.fixed j.data.length = 0) : jobStart s p 0 = requestStarted (jobFreed s p j.units) p j := by
  have hst' : requestStatus (jobFreed s p j.units) j.kind (j.addr % 2 ^ 40) j.len j.fixed j.data.length = 0 := hst
  have hfree : ¬(!j.accesses || j.executed || (((s.hp p).jobs).take 0).any (fun e => e.blocks j)) = true := by simp [hacc, hexec]
  have hready : ¬((!j.complete) = true ∨ j.started = true) := by rw [hcomplete, hstart]; decide
  have hget : ((s.hp p).jobs)[0]? = some j := by rw [hj]; rfl
  unfold jobStart
  rw [hget]
  dsimp only
  rw [if_neg hfree, if_neg hready, if_neg (not_not.mpr hstatus), hdev]
  dsimp only
  exact if_neg (not_not.mpr hst')

/-- The parts of the premise of a whole new request. -/
theorem ctpNewRequest_iff : ctpNewRequest s p k kind = true ↔ ctpInOrder s p k kind = true ∧ (s.hp p).jobs = [] ∧ k.tag.toNat ∉ (s.hp p).tags ∧
    k.sop = true ∧ k.eop = true ∧ k.offset = 0 := by
  simp only [ctpNewRequest, Bool.and_eq_true, decide_eq_true_eq, List.isEmpty_iff, and_assoc]

theorem kind_of_inOrder (h : ctpInOrder s p k kind = true) : k.kind.toNat = kind := by
  have hwait := (ctpAccept_of_inOrder h).1
  simpa using (Bool.and_eq_true_iff.mp hwait).2

theorem openWrite_none (h : (s.hp p).jobs = []) : openWrite s p = none := by
  unfold openWrite
  rw [h]
  rfl

/-- The queue of a port takes a request of this device. -/
def jobQueued (s : State) (p : Fin 2) (k : CtpPacket) (j : CtpJob) : State :=
  s.modHost p fun x => { x with jobs := x.jobs ++ [j], tags := x.tags ++ [k.tag.toNat] }

theorem jobNew_whole (htag : k.tag.toNat ∉ (s.hp p).tags) (hsop : k.sop = true) (heop : k.eop = true) (hoff : k.offset = 0)
    (htarget : ctpTarget s k = some none) :
    jobNew s p k = jobsAdvance (jobQueued s p k (askedJob k k.kind.toNat (ctpUnits k.data.length))) p := by
  have hform : ¬(k.offset.toNat ≠ 0 ∨ (!k.sop) = true ∨ (k.kind.toNat ≠ 5 ∧ (!k.eop) = true)) := by simp [hoff, hsop, heop]
  unfold jobNew
  rw [if_neg htag, htarget]
  dsimp only
  rw [if_neg hform, heop, Bool.or_true]
  rfl

theorem requestTake_asked (h : ctpNewRequest s p k kind = true) (htarget : ctpTarget s k = some none) (hacc : (askedJob k kind 0).accesses = true)
    (hst : requestStatus s kind (k.addr.toNat % 2 ^ 40) k.len.toNat k.fixed k.data.length = 0) :
    requestTake s p k kind = requestStarted (requestAsked s p k kind) p (askedJob k kind 0) := by
  obtain ⟨horder, hjobs, htag, hsop, heop, hoff⟩ := ctpNewRequest_iff.mp h
  obtain ⟨hwait, haccept⟩ := ctpAccept_of_inOrder horder
  have hkind := kind_of_inOrder horder
  have hjobs' : ((s.modHost p fun x => acceptedPort s.now k (takenPort k x)).hp p).jobs = [] := by rw [State.hp_modHost]; exact hjobs
  have htag' : k.tag.toNat ∉ ((s.modHost p fun x => acceptedPort s.now k (takenPort k x)).hp p).tags := by
    rw [State.hp_modHost]
    exact tags_acceptedPort s.now k (takenPort k (s.hp p)) htag
  have hqueued : ((jobQueued (s.modHost p fun x => acceptedPort s.now k (takenPort k x)) p k (askedJob k kind (ctpUnits k.data.length))).hp p).jobs =
      [askedJob k kind (ctpUnits k.data.length)] := by
    rw [jobQueued, State.hp_modHost, hjobs']
    rfl
  have hfreed : jobFreed (jobQueued (s.modHost p fun x => acceptedPort s.now k (takenPort k x)) p k (askedJob k kind (ctpUnits k.data.length))) p
      (ctpUnits k.data.length) = requestAsked s p k kind := by
    rw [jobFreed, modJob_single, ctpFree, jobQueued, State.modHost_modHost, State.modHost_modHost, State.modHost_modHost]
    refine State.modHost_congr ?_
    have hnone : (acceptedPort s.now k (takenPort k (s.hp p))).jobs = [] := hjobs
    simp only [hnone]
    rfl
  unfold requestTake
  rw [hwait, haccept]
  dsimp only
  rw [openWrite_none hjobs', if_neg (by decide)]
  dsimp only
  rw [if_neg fun e => by rw [hsop] at e; exact absurd e.2 (by decide), jobNew_whole htag' hsop heop hoff htarget, hkind,
    jobsAdvance_single hqueued, jobStart_ready hqueued hacc rfl rfl rfl rfl rfl hst]
  exact congrArg (requestStarted · p _) hfreed

/-! ### What a request leaves -/

theorem requestAsked_jobs (s : State) (p : Fin 2) (k : CtpPacket) (kind : Nat) : ((requestAsked s p k kind).hp p).jobs = [askedJob k kind 0] := by
  rw [requestAsked, State.hp_modHost]
  rfl

theorem requestAsked_rxPsn (s : State) (p : Fin 2) (k : CtpPacket) (kind : Nat) : ((requestAsked s p k kind).hp p).rxPsn = k.psn.toNat := by
  rw [requestAsked, State.hp_modHost]
  rfl

end
end Sys2Proof.Machine

namespace Sys2Proof.Machine

/-! ## The execution of requests (O43) -/

section
variable {l : List Part} {s t u : State} {p : Fin 2} {k : CtpPacket} {kind : Nat} {key : RegKey}

/-! ### Reads of registers leave the host ports and the stores -/

/-- The host ports and the bytes of the stores are as before. -/
def KeepsHost (s t : State) : Prop := t.host = s.host ∧ sameBytes s t

theorem KeepsHost.refl (s : State) : KeepsHost s s := ⟨rfl, .refl s⟩

theorem KeepsHost.trans (h : KeepsHost s t) (h' : KeepsHost t u) : KeepsHost s u := ⟨h'.1.trans h.1, h.2.trans h'.2⟩

/-- What changes neither the slices nor the central store keeps the bytes. -/
theorem KeepsHost.of_eq (h : KeepsHost s t) (hh : u.host = t.host) (hs : u.slices = t.slices) (hc : u.cstore = t.cstore) : KeepsHost s u :=
  ⟨hh.trans h.1, h.2.of_stores hs hc⟩

theorem KeepsHost.modSl (h : KeepsHost s t) (n : Fin 16) (f : Slice → Slice) (hf : ∀ x, (f x).store.bytes = x.store.bytes) :
    KeepsHost s (t.modSl n f) := ⟨h.1, h.2.modSl n f hf⟩

theorem KeepsHost.wr (h : KeepsHost s t) (r : Reg) (v : Word) (i j k m : Nat) : KeepsHost s (t.wr r v i j k m) := h.of_eq rfl rfl rfl

theorem KeepsHost.setFlag (h : KeepsHost s t) (f : Field) (b : Bool) (i j k m : Nat) : KeepsHost s (t.setFlag f b i j k m) := h.of_eq rfl rfl rfl

theorem KeepsHost.setFld (h : KeepsHost s t) (f : Field) (v i j k m : Nat) : KeepsHost s (t.setFld f v i j k m) := h.of_eq rfl rfl rfl

/-- The answer of a read stands aside. -/
theorem KeepsHost.readValue (h : KeepsHost s t) (v : Word) : KeepsHost s { t with readValue := v } := h.of_eq rfl rfl rfl

theorem KeepsHost.shadow (h : KeepsHost s t) (m : SMap RegKey Word) : KeepsHost s { t with shadow := m } := h.of_eq rfl rfl rfl

theorem KeepsHost.modMad (h : KeepsHost s t) (n : Fin 16) (f : MeasureAdc → MeasureAdc) : KeepsHost s (modMad t n f) := h.modSl n _ fun _ => rfl

theorem KeepsHost.madReadLo (h : KeepsHost s t) (n : Fin 16) : KeepsHost s (madReadLo t n) := by
  unfold Machine.madReadLo
  split
  · refine .readValue ?_ _
    exact h.modMad n _
  · refine .readValue ?_ _
    exact h.modMad n _

theorem KeepsHost.madReadHi (h : KeepsHost s t) (n : Fin 16) : KeepsHost s (madReadHi t n) := by
  unfold Machine.madReadHi
  split
  · exact h.readValue _
  · next v empty _ =>
    have hread (f : MeasureAdc → MeasureAdc) : KeepsHost s { Machine.modMad t n f with readValue := v } := (h.modMad n f).readValue v
    cases empty with
    | true =>
      refine .setFlag ?_ ..
      exact hread _
    | false => exact hread _

theorem KeepsHost.tdcTake (h : KeepsHost s t) (n : Fin 16) : KeepsHost s (tdcTake t n) := by
  unfold Machine.tdcTake
  refine .readValue (.wr (.wr (.wr ?_ ..) ..) ..) _
  exact h.modSl n _ fun _ => rfl

theorem KeepsHost.plainRead (h : KeepsHost s t) (key : RegKey) : KeepsHost s (plainRead t key) := by
  unfold Machine.plainRead
  dsimp only
  split
  · exact (h.readValue _).setFld ..
  · exact h.readValue _

theorem KeepsHost.shadowRead (h : KeepsHost s t) (key : RegKey) : KeepsHost s (shadowRead t key) := by
  unfold Machine.shadowRead
  split
  · exact h.of_eq rfl rfl rfl
  · exact h.plainRead key

theorem KeepsHost.captureHigh (h : KeepsHost s t) (key : RegKey) (high : Reg) : KeepsHost s (captureHigh t key high) := h.shadow _

theorem KeepsHost.dmxResultRead (h : KeepsHost s t) (key : RegKey) : KeepsHost s (dmxResultRead t key) := by
  unfold Machine.dmxResultRead
  exact (((((h.plainRead key).shadow _).shadow _).shadow _).shadow _)

theorem KeepsHost.keyRead (h : KeepsHost s t) (key : RegKey) : KeepsHost s (keyRead t key) := by
  unfold Machine.keyRead
  dsimp only
  split
  · exact h.madReadLo _
  · exact h.madReadHi _
  · split
    · exact h.madReadLo _
    · exact h.madReadHi _
  · exact h.tdcTake _
  · split
    · exact h.tdcTake _
    · exact h.readValue _
  · exact h.of_eq rfl rfl rfl
  · exact h.of_eq rfl rfl rfl
  · exact h.dmxResultRead key
  · split
    · exact h.shadowRead key
    · exact (h.captureHigh key _).plainRead key
  · split
    · exact (h.captureHigh key _).plainRead key
    · exact h.shadowRead key

theorem KeepsHost.regRead (h : KeepsHost s t) (a : Nat) : KeepsHost s (regRead t a) := by
  unfold Machine.regRead
  split
  · exact h.keyRead _
  · exact h.readValue _

/-- A read of `n` words answers four bytes each. -/
theorem wordsRead_shows (s : State) (a n : Nat) (fixed : Bool) : (wordsRead s a n fixed).1.length = 4 * n ∧ KeepsHost s (wordsRead s a n fixed).2 := by
  induction n with
  | zero => exact ⟨rfl, .refl s⟩
  | succ n ih =>
    obtain ⟨hlen, hkeeps⟩ := ih
    unfold wordsRead at hlen hkeeps ⊢
    rw [List.range_succ, List.foldl_append]
    refine ⟨?_, hkeeps.regRead _⟩
    show (_ ++ toBytes 4 _).length = _
    rw [List.length_append, hlen, length_toBytes]
    omega

end
end Sys2Proof.Machine

namespace Sys2Proof.Machine

/-! ## The requests of this device (O43) -/

section
variable {l : List Part} {s t u : State} {p : Fin 2} {k : CtpPacket} {kind : Nat} {key : RegKey}

/-! ### What the checks say -/

theorem regionOf_of_rangeIn {a len o : Nat} {r : Region} (h : rangeIn a len = some (r, o)) : regionOf a = some (r, o) := by
  unfold rangeIn at h
  split at h
  · next hr _ =>
    split at h
    · rw [hr, Option.some.inj h]
    · exact absurd h (by simp)
  · exact absurd h (by simp)

/-- A register request that passes its checks (R512). -/
theorem requestStatus_reg {a len given : Nat} {fixed : Bool} (hk : isRegKind kind = true) (h : requestStatus s kind a len fixed given = 0) :
    len % 4 = 0 ∧ ∃ r o, regionOf a = some (r, o) ∧ (kind = 3 → ∀ n, r = .sliceRegs n → reloadHolds s n = false) := by
  unfold requestStatus at h
  rw [if_pos hk] at h
  split at h
  · exact absurd h (by decide)
  next halign =>
  refine ⟨by omega, ?_⟩
  split at h
  · exact absurd h (by decide)
  next r o hrange =>
  refine ⟨r, o, regionOf_of_rangeIn hrange, ?_⟩
  rintro rfl n rfl
  simp only [Region.isRegs, Bool.not_true, Bool.false_eq_true, if_false, true_and] at h
  split at h
  · exact absurd h (by decide)
  · by_contra hhold
    rw [Bool.not_eq_false] at hhold
    rw [if_pos hhold] at h
    exact absurd h (by decide)

/-- A write of a store that passes its checks brings its data (R512). -/
theorem requestStatus_memWr {a len given o : Nat} {r : Region} {id : StoreId} {fixed : Bool} (hrange : rangeIn a len = some (r, o))
    (hid : r.storeId = some id) (h : requestStatus s 5 a len fixed given = 0) : given = len := by
  unfold requestStatus at h
  rw [if_neg (by decide), hrange] at h
  dsimp only at h
  rw [hid] at h
  dsimp only at h
  split at h
  · exact absurd h (by decide)
  · next hlen => exact not_not.mp fun hne => hlen (.inr (.inr ⟨rfl, hne⟩))

/-! ### A request that is executed at once -/

theorem requestStarted_executed {j : CtpJob} (h4 : j.kind ≠ 4) {status info : Nat} {reply : List Byte}
    (hrun : requestRun s (some p) j.kind (j.addr % 2 ^ 40) j.len j.fixed j.data = (status, info, reply, u)) :
    requestStarted s p j = jobDone u p 0 status info reply := by
  unfold requestStarted
  rw [if_neg h4, hrun]

/-- What a request that is executed at once leaves at its port. -/
theorem requestTake_executed {info : Nat} {reply : List Byte} (h : ctpNewRequest s p k kind = true) (htarget : ctpTarget s k = some none)
    (hacc : (askedJob k kind 0).accesses = true) (h4 : kind ≠ 4)
    (hst : requestStatus s kind (k.addr.toNat % 2 ^ 40) k.len.toNat k.fixed k.data.length = 0)
    (hrun : requestRun (requestAsked s p k kind) (some p) kind (k.addr.toNat % 2 ^ 40) k.len.toNat k.fixed k.data = (0, info, reply, u))
    (hhost : u.host = (requestAsked s p k kind).host) :
    requestTake s p k kind = jobDone u p 0 0 info reply ∧
      ((jobDone u p 0 0 info reply).hp p).jobs = [(askedJob k kind 0).done 0 info reply] ∧ ((jobDone u p 0 0 info reply).hp p).rxPsn = k.psn.toNat := by
  have hjobs : (u.hp p).jobs = [askedJob k kind 0] := by rw [hp_of_host hhost, requestAsked_jobs]
  refine ⟨?_, jobs_jobDone hjobs .., ?_⟩
  · rw [requestTake_asked h htarget hacc hst]
    exact requestStarted_executed h4 hrun
  · rw [jobDone_eq, rxPsn_modJob, hp_of_host hhost, requestAsked_rxPsn]

theorem memFrame_requestAsked (s : State) (p : Fin 2) (k : CtpPacket) (kind : Nat) : memFrame l s (requestAsked s p k kind) :=
  (memFrame.refl _ s).modHost p _

/-! ### The four requests -/

theorem regRd_shows (h : ctpNewRequest s p k 2 = true) (htarget : ctpTarget s k = some none)
    (hst : requestStatus s 2 (k.addr.toNat % 2 ^ 40) k.len.toNat k.fixed k.data.length = 0) :
    ∃ reply : List Byte, reply.length = k.len.toNat ∧ ((requestTake s p k 2).hp p).jobs = [(askedJob k 2 0).done 0 0 reply] ∧
      ((requestTake s p k 2).hp p).rxPsn = k.psn.toNat ∧ sameBytes s (requestTake s p k 2) := by
  obtain ⟨hlen, hkeeps⟩ := wordsRead_shows (requestAsked s p k 2) (k.addr.toNat % 2 ^ 40) (k.len.toNat / 4) k.fixed
  have hrun : requestRun (requestAsked s p k 2) (some p) 2 (k.addr.toNat % 2 ^ 40) k.len.toNat k.fixed k.data =
      (0, 0, (wordsRead (requestAsked s p k 2) (k.addr.toNat % 2 ^ 40) (k.len.toNat / 4) k.fixed).1,
        (wordsRead (requestAsked s p k 2) (k.addr.toNat % 2 ^ 40) (k.len.toNat / 4) k.fixed).2) := rfl
  obtain ⟨heq, hjobs, hpsn⟩ := requestTake_executed h htarget rfl (by decide) hst hrun hkeeps.1
  have hmod := (requestStatus_reg rfl hst).1
  rw [heq]
  refine ⟨_, by rw [hlen]; omega, hjobs, hpsn, ?_⟩
  exact ((memFrame_requestAsked (l := []) s p k 2).2.trans hkeeps.2).of_stores rfl rfl

theorem regWr_shows {v : BitVec 32} (h : ctpNewRequest s p k 3 = true) (htarget : ctpTarget s k = some none)
    (hst : requestStatus s 3 (k.addr.toNat % 2 ^ 40) k.len.toNat k.fixed k.data.length = 0) (hwords : bytesToWords k.data = [v.toNat])
    (hat : regAt (k.addr.toNat % 2 ^ 40) = some key) (hk : key.reg ∈ plainRegs) (hheld : (s.heldBits key v.toNat).1 = 0) (hrpl : s.rplState ≠ 2) :
    ((requestTake s p k 3).hp p).jobs = [(askedJob k 3 0).done 0 0 []] ∧ ((requestTake s p k 3).hp p).rxPsn = k.psn.toNat ∧
      (requestTake s p k 3).rd key.reg key.i key.j key.k key.l = BitVec.ofNat 32 (mix key.reg.writable v.toNat (s.rd key.reg key.i key.j key.k key.l).toNat) ∧
      memFrame [{ reg := key.reg, idx := [key.i, key.j, key.k, key.l] }] s (requestTake s p k 3) := by
  obtain ⟨-, r, o, hregion, hreload⟩ := requestStatus_reg rfl hst
  have hhold : (inSliceRegs (k.addr.toNat % 2 ^ 40) && reloadHolds (requestAsked s p k 3) (sliceOfAddr (k.addr.toNat % 2 ^ 40))) = false := by
    obtain ⟨_, -, hin⟩ | ⟨_, hslice, -⟩ := regionOf_of_regAt hat
    · rw [hin, Bool.false_and]
    · rw [hregion] at hslice
      have := hreload rfl _ (Prod.mk.inj (Option.some.inj hslice)).1
      exact (Bool.and_eq_false_iff.mpr (.inr this))
  obtain ⟨x, hx⟩ := regWrite_plain (s := requestAsked s p k 3) hat hk hrpl hhold hheld .host (some p)
  have hrun : requestRun (requestAsked s p k 3) (some p) 3 (k.addr.toNat % 2 ^ 40) k.len.toNat k.fixed k.data =
      (0, 0, [], maskStored { requestAsked s p k 3 with rpl := x } key key.reg.writable v.toNat) := by
    have hwrite : wordsWrite (requestAsked s p k 3) .host (some p) (k.addr.toNat % 2 ^ 40) k.fixed [v.toNat] =
        (maskStored { requestAsked s p k 3 with rpl := x } key key.reg.writable v.toNat, none) := by
      have ha : (if k.fixed = true then k.addr.toNat % 2 ^ 40 else k.addr.toNat % 2 ^ 40 + 4 * 0) = k.addr.toNat % 2 ^ 40 := by split <;> rfl
      show (let r := regWrite _ .host (some p) (if k.fixed = true then k.addr.toNat % 2 ^ 40 else k.addr.toNat % 2 ^ 40 + 4 * 0) (BitVec.ofNat 32 v.toNat)
        (r.1, if r.2 && true then some (4 * 0) else none)) = _
      rw [ha, BitVec.ofNat_toNat, BitVec.setWidth_eq, hx]
      rfl
    show (let r := wordsWrite (requestAsked s p k 3) .host (some p) (k.addr.toNat % 2 ^ 40) k.fixed (bytesToWords k.data)
      ((if r.2.isSome then 7 else 0, r.2.getD 0, [], r.1) : Nat × Nat × List Byte × State)) = _
    rw [hwords, hwrite]
    rfl
  have hhost : (maskStored { requestAsked s p k 3 with rpl := x } key key.reg.writable v.toNat).host = (requestAsked s p k 3).host := by
    obtain ⟨y, hy⟩ := maskStored_eq { requestAsked s p k 3 with rpl := x } key key.reg.writable v.toNat
    rw [hy]
  obtain ⟨heq, hjobs, hpsn⟩ := requestTake_executed h htarget rfl (by decide) hst hrun hhost
  rw [heq]
  refine ⟨hjobs, hpsn, ?_, ?_⟩
  · rw [jobDone_eq, modJob, rd_modHost, rd_maskStored]
    rfl
  · have hasked : memFrame [{ reg := key.reg, idx := [key.i, key.j, key.k, key.l] }] s { requestAsked s p k 3 with rpl := x } :=
      (memFrame_requestAsked s p k 3).of_eq rfl rfl rfl
    exact (hasked.maskStored key ⟨_, .head _, rfl, by simp [List.isPrefixOf], rfl, Nat.le_refl _⟩ _ _).jobDone ..

theorem memRd_shows (h : ctpNewRequest s p k 4 = true) (htarget : ctpTarget s k = some none)
    (hst : requestStatus s 4 (k.addr.toNat % 2 ^ 40) k.len.toNat k.fixed k.data.length = 0) :
    ((requestTake s p k 4).hp p).jobs = [{ askedJob k 4 0 with started := true }] ∧ ((requestTake s p k 4).hp p).rxPsn = k.psn.toNat ∧
      memFrame [] s (requestTake s p k 4) := by
  have heq : requestTake s p k 4 = modJob (requestAsked s p k 4) p 0 fun j => { j with started := true } := requestTake_asked h htarget rfl hst
  rw [heq]
  exact ⟨jobs_modJob (requestAsked_jobs ..) _, by rw [rxPsn_modJob, requestAsked_rxPsn], (memFrame_requestAsked s p k 4).modJob ..⟩

theorem memWr_shows {r : Region} {o : Nat} {id : StoreId} (h : ctpNewRequest s p k 5 = true) (htarget : ctpTarget s k = some none)
    (hst : requestStatus s 5 (k.addr.toNat % 2 ^ 40) k.len.toNat k.fixed k.data.length = 0)
    (hrange : rangeIn (k.addr.toNat % 2 ^ 40) k.len.toNat = some (r, o)) (hid : r.storeId = some id) (hc : CalmStore id s) :
    ((requestTake s p k 5).hp p).jobs = [(askedJob k 5 0).done 0 0 []] ∧ ((requestTake s p k 5).hp p).rxPsn = k.psn.toNat ∧
      k.data.length = k.len.toNat ∧ WroteBytes id o k.data s (requestTake s p k 5) ∧ sameRegs portEccParts s (requestTake s p k 5) := by
  have hc' : CalmStore id (requestAsked s p k 5) := by
    refine ⟨?_, hc.2⟩
    rw [← hc.1]
    cases id <;> rfl
  obtain ⟨t, ht, hw, hb⟩ := hc'.pathWrite 0 o k.data
  have hrun : requestRun (requestAsked s p k 5) (some p) 5 (k.addr.toNat % 2 ^ 40) k.len.toNat k.fixed k.data = (0, 0, [], t) := by
    unfold requestRun
    rw [regionOf_of_rangeIn hrange]
    dsimp only
    rw [hid]
    dsimp only
    rw [ht]
    rfl
  obtain ⟨heq, hjobs, hpsn⟩ := requestTake_executed h htarget rfl (by decide) hst hrun hw.host
  have hasked := memFrame_requestAsked (l := portEccParts) s p k 5
  rw [heq]
  refine ⟨hjobs, hpsn, requestStatus_memWr hrange hid hst, ?_, ?_⟩
  · exact hasked.2.wrote (hb.of_sameBytes ((memFrame.refl [] t).jobDone ..).2)
  · exact (hasked.1.trans (hw.regs.widen (eccParts_within id))).of_regs rfl

end
end Sys2Proof.Machine

namespace Sys2Proof.Machine

/-! ## The commands for the firmware (O43) -/

section
variable {l : List Part} {s t u : State} {p : Fin 2} {k : CtpPacket} {n m : Fin 16}

/-! ### Foreground runs -/

/-- A run is asked for. -/
def fgAsked (s : State) (n : Fin 16) : State := (s.setFld F.CAL_FG_STATUS_STATE 1 n).askAdmission 4 n

theorem fgStart_allowed (h : fgAllowed s n = true) : fgStart s n = fgAsked s n := if_pos h

theorem askAdmission_eq (s : State) (cls index : Nat) : ∃ x r, s.askAdmission cls index = { s with pwr := x, regs := r } := by
  unfold State.askAdmission
  dsimp only
  split
  · exact ⟨_, _, rfl⟩
  · obtain ⟨r, hr⟩ := peak_eq { s with pwr := { s.pwr with queue := queueInsert ({ cls := cls, index := index }, s.now) s.pwr.queue } } F.PWR_QSTATUS_PEAK
      (queueInsert ({ cls := cls, index := index }, s.now) s.pwr.queue).length 0 0
    exact ⟨_, r, hr⟩

theorem fgAsked_eq (s : State) (n : Fin 16) : ∃ x r, fgAsked s n = { s with pwr := x, regs := r } := by
  obtain ⟨x, r, h⟩ := askAdmission_eq (s.setFld F.CAL_FG_STATUS_STATE 1 n) 4 n
  exact ⟨x, r, h⟩

/-- The registers that a run in question moves. -/
def fgParts : List Part := [F.CAL_FG_STATUS_STATE.part [], F.PWR_QSTATUS_PEAK.part []]

theorem memFrame.askAdmission (h : memFrame l s t) (cls index : Nat) (hl : F.PWR_QSTATUS_PEAK.part [] ∈ l) : memFrame l s (t.askAdmission cls index) :=
  ⟨h.1.askAdmission _ _ (.of_mem hl ..), h.2.askAdmission _ _⟩

theorem memFrame.fgAsked (h : memFrame fgParts s t) (n : Fin 16) : memFrame fgParts s (fgAsked t n) :=
  (h.setFld _ _ (.of_mem (.head _) ..)).askAdmission 4 n (.tail _ (.head _))

theorem fgState_askAdmission (s : State) (cls index : Nat) (n : Fin 16) :
    (s.askAdmission cls index).fld F.CAL_FG_STATUS_STATE n = s.fld F.CAL_FG_STATUS_STATE n :=
  ((memFrame.refl [F.PWR_QSTATUS_PEAK.part []] s).askAdmission cls index (.head _)).1.fld_of_reg (by decide) ..

theorem fgState_fgAsked_same (s : State) (n : Fin 16) : (fgAsked s n).fld F.CAL_FG_STATUS_STATE n = 1 := by
  rw [fgAsked, fgState_askAdmission]
  exact State.fld_setFld_fits _ _ _ _ _ _ (by decide) (by decide)

theorem fgState_fgAsked_ne (s : State) (h : m ≠ n) : (fgAsked s n).fld F.CAL_FG_STATUS_STATE m = s.fld F.CAL_FG_STATUS_STATE m := by
  rw [fgAsked, fgState_askAdmission]
  exact State.fld_setFld_index _ _ _ _ (.inl fun e => h (Fin.ext e))

theorem fgAllowed_fgAsked (s : State) (h : m ≠ n) : fgAllowed (fgAsked s n) m = fgAllowed s m := by
  have hframe := ((memFrame.refl fgParts s).fgAsked n).1
  have hfld : ∀ (f : Field) i j k q, f.reg ≠ .CAL_FG_STATUS ∧ f.reg ≠ .PWR_QSTATUS → (fgAsked s n).fld f i j k q = s.fld f i j k q := fun f i j k q hf =>
    hframe.fld_of_reg (by simpa [fgParts, Field.part] using ⟨hf.1.symm, hf.2.symm⟩) ..
  have hflag : ∀ (f : Field) i j k q, f.reg ≠ .CAL_FG_STATUS ∧ f.reg ≠ .PWR_QSTATUS → (fgAsked s n).flag f i j k q = s.flag f i j k q := fun f i j k q hf =>
    hframe.flag_of_reg (by simpa [fgParts, Field.part] using ⟨hf.1.symm, hf.2.symm⟩) ..
  obtain ⟨x, r, heq⟩ := fgAsked_eq s n
  have hsl : ∀ m, (fgAsked s n).sl m = s.sl m := fun m => by rw [heq]; rfl
  have himg : (fgAsked s n).img = s.img := by rw [heq]
  have hff : ∀ f, ffStateOf (fgAsked s n) m f = ffStateOf s m f := fun f => by
    unfold ffStateOf ffCh
    rw [hsl, hflag _ _ _ _ _ (by decide)]
  unfold fgAllowed wheelState seqState State.coreOn State.analogOn State.domState State.reloadTargets
  simp only [hff, himg, fgState_fgAsked_ne s h]
  simp (disch := decide) only [hfld, hflag]

/-- Runs of slices that are all allowed start one by one. -/
theorem foldl_fgStart_shows {xs : List (Fin 16)} (hn : xs.Nodup) (ha : ∀ n ∈ xs, fgAllowed s n = true) :
    (∀ n ∈ xs, (xs.foldl fgStart s).fld F.CAL_FG_STATUS_STATE n = 1) ∧
      (∀ n, n ∉ xs → (xs.foldl fgStart s).fld F.CAL_FG_STATUS_STATE n = s.fld F.CAL_FG_STATUS_STATE n) ∧
      (xs.foldl fgStart s).host = s.host ∧ memFrame fgParts s (xs.foldl fgStart s) := by
  induction xs generalizing s with
  | nil => exact ⟨fun n h => (List.not_mem_nil h).elim, fun _ _ => rfl, rfl, .refl _ s⟩
  | cons x xs ih =>
    obtain ⟨hx, hn'⟩ := List.nodup_cons.mp hn
    rw [List.foldl_cons, fgStart_allowed (ha x (.head _))]
    obtain ⟨hin, hout, hhost, hframe⟩ := ih (s := fgAsked s x) hn' fun n hm => by
      have hne : n ≠ x := fun e => hx (e ▸ hm)
      rw [fgAllowed_fgAsked s hne]
      exact ha n (.tail _ hm)
    refine ⟨fun n hm => ?_, fun n hm => ?_, ?_, ((memFrame.refl _ s).fgAsked x).trans hframe⟩
    · rcases List.mem_cons.mp hm with rfl | hm
      · rw [hout n hx, fgState_fgAsked_same]
      · exact hin n hm
    · obtain ⟨hne, hm'⟩ := not_or.mp (mt List.mem_cons.mpr hm)
      rw [hout n hm', fgState_fgAsked_ne s hne]
    · obtain ⟨y, r, heq⟩ := fgAsked_eq s x
      rw [hhost, heq]

end
end Sys2Proof.Machine

namespace Sys2Proof.Machine

/-! ## SERVICE commands, completions and the tunnel (O43) -/

section
variable {l : List Part} {s t u : State} {p : Fin 2} {k : CtpPacket} {n m : Fin 16} {code : Nat}

/-! ### A SERVICE command -/

/-- The state in which a SERVICE command acts. -/
def serviceAsked (s : State) (p : Fin 2) (k : CtpPacket) : State :=
  ctpFree (s.modHost p fun x => acceptedPort s.now k (takenPort k x)) p (ctpUnits k.data.length)

/-- The job of a SERVICE command. -/
def serviceJob (k : CtpPacket) (code : Nat) (r : Nat × Nat × List Byte × Option (List (Fin 16)) × State) : CtpJob :=
  { CtpJob.ready 9 k.tag.toNat r.2.2.1 with
    dev := (ctpTarget r.2.2.2.2 k).getD none, addr := k.addr.toNat, len := k.len.toNat, status := r.1, info := r.2.1, executed := r.2.2.2.1.isNone, service := code
    slices := r.2.2.2.1.getD [] }

theorem serviceTake_asked (h : ctpNewRequest s p k 9 = true) (htarget : ctpTarget s k = some none) (hlen : k.data.length = 8)
    (hcode : numAt k.data 0 2 = code) :
    serviceTake s p k code = jobQueued (serviceRun (serviceAsked s p k) code).2.2.2.2 p k (serviceJob k code (serviceRun (serviceAsked s p k) code)) := by
  obtain ⟨horder, hjobs, htag, hsop, heop, hoff⟩ := ctpNewRequest_iff.mp h
  obtain ⟨hwait, haccept⟩ := ctpAccept_of_inOrder horder
  have hjobs' : ((serviceAsked s p k).hp p).jobs = [] := by rw [serviceAsked, ctpFree, State.hp_modHost, State.hp_modHost]; exact hjobs
  have htag' : k.tag.toNat ∉ ((serviceAsked s p k).hp p).tags := by
    rw [serviceAsked, ctpFree, State.hp_modHost, State.hp_modHost]
    exact tags_acceptedPort s.now k (takenPort k (s.hp p)) htag
  have htarget' : ctpTarget (serviceAsked s p k) k = some none := htarget
  have hform : ¬(k.data.length ≠ 8 ∨ (!k.sop) = true ∨ (!k.eop) = true) := by simp [hlen, hsop, heop]
  unfold serviceTake
  dsimp only
  rw [if_neg (by simp [hwait, hcode]), haccept]
  dsimp only
  rw [← serviceAsked, openWrite_none hjobs']
  dsimp only
  rw [if_neg htag', htarget']
  dsimp only
  rw [if_neg hform, if_neg (not_not.mpr rfl), hcode]
  rfl

theorem serviceAsked_jobs (h : ctpNewRequest s p k 9 = true) : ((serviceAsked s p k).hp p).jobs = [] := by
  rw [serviceAsked, ctpFree, State.hp_modHost, State.hp_modHost]
  exact (ctpNewRequest_iff.mp h).2.1

theorem memFrame_serviceAsked (s : State) (p : Fin 2) (k : CtpPacket) : memFrame l s (serviceAsked s p k) := ((memFrame.refl _ s).modHost p _).modHost p _

/-- What a SERVICE command leaves at its port. -/
theorem serviceTake_shows {r : Nat × Nat × List Byte × Option (List (Fin 16)) × State} (h : ctpNewRequest s p k 9 = true)
    (htarget : ctpTarget s k = some none) (hlen : k.data.length = 8) (hcode : numAt k.data 0 2 = code)
    (hrun : serviceRun (serviceAsked s p k) code = r) (hhost : r.2.2.2.2.host = (serviceAsked s p k).host) :
    serviceTake s p k code = jobQueued r.2.2.2.2 p k (serviceJob k code r) ∧ ((serviceTake s p k code).hp p).jobs = [serviceJob k code r] ∧
      ((serviceTake s p k code).hp p).rxPsn = k.psn.toNat := by
  have heq := serviceTake_asked h htarget hlen hcode
  rw [hrun] at heq
  rw [heq]
  refine ⟨rfl, ?_, ?_⟩
  · rw [jobQueued, State.hp_modHost, hp_of_host hhost, serviceAsked_jobs h]
    rfl
  · rw [jobQueued, State.hp_modHost, hp_of_host hhost, serviceAsked, ctpFree, State.hp_modHost, State.hp_modHost]
    rfl

theorem memFrame.jobQueued (h : memFrame l s t) (p : Fin 2) (k : CtpPacket) (j : CtpJob) : memFrame l s (jobQueued t p k j) := h.modHost p _

/-- A command other than INFO of cores that do not shed load. -/
theorem serviceRun_awake (h : s.flag F.MGT_STATUS_SHED = false) : serviceRun s 2 = (if swapAccepts s then (0, 0, [], none, swap s) else (3, 0, [], none, swap s)) ∧
    serviceRun s 3 = (0, 0, [], some [], saveKinds s (List.range 17)) ∧
    serviceRun s 4 = (0, 0, [], (if (allSlices.filter (fgAllowed s)).isEmpty then none else some (allSlices.filter (fgAllowed s))),
      (allSlices.filter (fgAllowed s)).foldl fgStart s) := by
  refine ⟨?_, ?_, ?_⟩ <;> · unfold serviceRun; rw [h]; rfl

/-- What a request for a swap leaves. -/
def swapParts : List Part := [F.MGT_STATUS_SWAP_REFUSED.part [], F.BOOT_STATUS_FW_TRIAL.part []]

theorem swap_shows (s : State) : (swap s).host = s.host ∧ memFrame swapParts s (swap s) ∧
    (if swapAccepts s then (swap s).mgt.swapAt = some s.now else (swap s).flag F.MGT_STATUS_SWAP_REFUSED = true) := by
  cases h : swapAccepts s with
  | true =>
    rw [swap_accepted h, swapAsked, writeDir_eq]
    exact ⟨rfl, (((memFrame.refl _ s).modBoot _).setFlag _ _ (.of_mem (.tail _ (.head _)) ..)).modMgt _, rfl⟩
  | false =>
    rw [swap_refused h]
    exact ⟨rfl, (memFrame.refl _ s).setFlag _ _ (.of_mem (.head _) ..), State.flag_setFlag_bit _ _ _ _ _ _ _ (by decide) rfl⟩

theorem saveKinds_shows (s : State) : (∀ x : Fin 17, x.val ∈ (saveKinds s (List.range 17)).cal.saving) ∧
    (saveKinds s (List.range 17)).flag F.CAL_VAULT_STATUS_BUSY = true ∧ (saveKinds s (List.range 17)).host = s.host ∧
    memFrame [F.CAL_VAULT_STATUS_BUSY.part []] s (saveKinds s (List.range 17)) := by
  refine ⟨fun x => ?_, State.flag_setFlag_bit _ _ _ _ _ _ _ (by decide) rfl, rfl, ?_⟩
  · show x.val ∈ s.cal.saving ++ (List.range 17).filter fun k => k ∉ s.cal.saving
    by_cases hx : x.val ∈ s.cal.saving
    · exact List.mem_append_left _ hx
    · exact List.mem_append_right _ (List.mem_filter.mpr ⟨List.mem_range.mpr x.isLt, by simpa using hx⟩)
  · have hcal : memFrame [F.CAL_VAULT_STATUS_BUSY.part []] s
        { s with cal := { s.cal with saving := s.cal.saving ++ (List.range 17).filter (fun k => k ∉ s.cal.saving) } } := (memFrame.refl _ s).of_eq rfl rfl rfl
    exact hcal.setFlag _ _ (.of_mem (.head _) ..)

/-! ### Sending -/

/-- A packet as it goes: it takes the next PSN, and acknowledges. -/
def stamped (x : HostPort) (k : CtpPacket) : CtpPacket :=
  { k with psn := BitVec.ofNat 24 ((x.txPsn + 1) % 2 ^ 24), ack := BitVec.ofNat 24 x.rxPsn, limit := BitVec.ofNat 32 (ctpLimit x) }

/-- A port that has sent a packet and keeps it. -/
def sentPort (now : Nat) (k : CtpPacket) (units : Nat) (x : HostPort) : HostPort :=
  { x with txPsn := (x.txPsn + 1) % 2 ^ 24, used := (x.used + units) % 2 ^ 32, kept := x.kept ++ [{ packet := stamped x k, at_ := now }]
           out := x.out ++ [stamped x k], ackSince := none }

theorem ctpEmit_up (h : s.hostUp p = true) : ctpEmit s p k = s.modHost p fun x => { x with out := x.out ++ [k], ackSince := none } := if_pos h

theorem ctpSend_up (h : s.hostUp p = true) (units : Nat) : ctpSend s p k units = s.modHost p (sentPort s.now k units) := by
  unfold ctpSend
  dsimp only
  rw [ctpEmit_up (by exact h), State.modHost_modHost]
  exact State.modHost_congr rfl

/-! ### Completions -/

/-- The port has nothing of this command yet. -/
def quietPort (x : HostPort) : HostPort := { x with out := [] }

theorem ctpQuiet_eq : ctpQuiet s p = s.modHost p quietPort := rfl

/-- A port whose only job has gone with its last packet. -/
def completedPort (now : Nat) (j : CtpJob) (x : HostPort) : HostPort :=
  { sentPort now (completionPacket (quietPort x) j j.sent (j.reply.drop j.sent) true) (ctpUnits (j.reply.length - j.sent)) (quietPort x) with
    jobs := x.jobs.drop 1 }

theorem completionSend_last {j : CtpJob} (hj : (s.hp p).jobs = [j]) (he : j.executed = true) (h8 : j.kind ≠ 8)
    (hmax : j.reply.length - j.sent ≤ ctpDataMax s p) (hsend : ctpMaySend s p (j.reply.length - j.sent) = true) :
    completionSend s p = s.modHost p (completedPort s.now j) := by
  have hup : s.hostUp p = true := by
    simp only [ctpMaySend, Bool.and_eq_true] at hsend
    exact hsend.1.1.1.1
  have hhead : headBytes s p = some (j.reply.length - j.sent) := by
    unfold headBytes
    rw [hj]
    dsimp only
    rw [if_neg h8, if_pos he, Nat.min_eq_right hmax]
  have htake : (j.reply.drop j.sent).take (j.reply.length - j.sent) = j.reply.drop j.sent := List.take_of_length_le (by rw [List.length_drop])
  have hlast : decide (j.reply.length ≤ j.sent + (j.reply.length - j.sent)) = true := by simp; omega
  unfold completionSend
  rw [hhead, hj]
  dsimp only
  rw [hsend, if_neg (by decide), if_neg h8, he, if_pos rfl]
  dsimp only
  rw [he, if_pos rfl, hlast, if_pos rfl, htake, ctpSend_up (by exact hup), ctpQuiet_eq, State.modHost_modHost, State.hp_modHost, jobPop, State.modHost_modHost]
  refine (jobsAdvance_none ?_).trans (State.modHost_congr rfl)
  rw [State.hp_modHost]
  show (s.hp p).jobs.drop 1 = []
  rw [hj]
  rfl

/-! ### The tunnel -/

@[simp] theorem hp_packetTaken (s : State) (k : KtlPacket) (p : Fin 2) : (packetTaken s k).hp p = s.hp p := rfl

/-- A job whose last missing part has come. -/
def CtpJob.answered (j : CtpJob) (part : Nat × Nat) (data : List Byte) : CtpJob :=
  { j with missing := [], reply := if isWriteKind j.kind then [] else j.reply.take part.1 ++ data ++ j.reply.drop (part.1 + data.length) }

theorem tunnelReply_last {k : KtlPacket} {j : CtpJob} {part : Nat × Nat} (hj : (s.hp p).jobs = [j]) (hdev : j.dev = some k.src.toNat)
    (htag : j.tag = k.tag.toNat % 512) (hacc : (j.accesses && j.started && !j.executed) = true) (hmissing : j.missing = [part]) (hunsent : j.unsent = [])
    (haddr : (j.addr + if j.fixed then 0 else part.1) % 2 ^ 40 = k.addr.toNat) (hstatus : k.status = 0) :
    tunnelReply s p k = jobDone (modJob s p 0 fun _ => j.answered part k.data) p 0 0 0 (j.answered part k.data).reply := by
  have hfind : (s.hp p).jobs.findIdx? (fun j => j.dev == some k.src.toNat && j.tag == k.tag.toNat % 512 && j.accesses && j.started && !j.executed) =
      some 0 := by
    simp only [Bool.and_eq_true] at hacc
    rw [hj, List.findIdx?_cons, hdev, htag, hacc.1.1, hacc.1.2, hacc.2, beq_self_eq_true, beq_self_eq_true]
    rfl
  have hpart : j.missing.find? (fun x => decide ((j.addr + if j.fixed then 0 else x.1) % 2 ^ 40 = k.addr.toNat)) = some part := by
    rw [hmissing, List.find?_cons, decide_eq_true haddr]
  have hget : ((s.hp p).jobs)[0]? = some j := by rw [hj]; rfl
  have hmod : (modJob s p 0 fun j => { j with
        missing := j.missing.erase part
        reply := if isWriteKind j.kind then [] else j.reply.take part.1 ++ k.data ++ j.reply.drop (part.1 + k.data.length) }) =
      modJob s p 0 fun _ => j.answered part k.data := by
    refine State.modHost_congr ?_
    rw [hj, CtpJob.answered, List.modify_zero_cons, List.modify_zero_cons, hmissing, List.erase_cons_head]
  have hexec : j.executed = false := by simpa using (Bool.and_eq_true_iff.mp hacc).2
  have hjobs' := jobs_modJob hj fun _ => j.answered part k.data
  have hget' : (((modJob s p 0 fun _ => j.answered part k.data).hp p).jobs)[0]? = some (j.answered part k.data) := by rw [hjobs']; rfl
  have hends : (j.answered part k.data).missing.isEmpty = true ∧ (j.answered part k.data).unsent.isEmpty = true ∧
      (!(j.answered part k.data).executed) = true := by
    refine ⟨rfl, ?_, ?_⟩
    · show j.unsent.isEmpty = true
      rw [hunsent]; rfl
    · show (!j.executed) = true
      rw [hexec]; rfl
  unfold tunnelReply
  dsimp only
  rw [hfind]
  dsimp only
  rw [hget]
  dsimp only
  rw [hpart]
  dsimp only
  rw [if_pos hstatus, hunsent]
  dsimp only
  rw [hmod, hget']
  dsimp only
  rw [if_pos hends]
  exact jobsAdvance_executed (jobs_jobDone hjobs' ..) rfl

theorem tunnelTimeout_due {j : CtpJob} {tag : Nat} (hj : (s.hp p).jobs = [j]) (hdev : j.dev.isSome = true) (htag : j.tag = tag)
    (hstart : j.started = true) (hexec : j.executed = false) (hdue : j.askedAt + max 1 (s.fld F.CTP_TUNNEL_TMO_TMO) * 25000 ≤ s.now) :
    ∃ info, tunnelTimeout s p tag = jobDone s p 0 1 info [] := by
  have hfind : (s.hp p).jobs.findIdx? (fun j => j.dev.isSome && j.tag == tag && j.started && !j.executed &&
      decide (j.askedAt + max 1 (s.fld F.CTP_TUNNEL_TMO_TMO) * 25000 ≤ s.now)) = some 0 := by
    rw [hj, List.findIdx?_cons, hdev, htag, hstart, hexec, decide_eq_true hdue, beq_self_eq_true]
    rfl
  unfold tunnelTimeout
  dsimp only
  rw [hfind]
  exact ⟨_, jobsAdvance_executed (jobs_jobDone hj ..) rfl⟩

end
end Sys2Proof.Machine

namespace Sys2Proof.Machine

/-! ## Requests of a session (O43) -/

section
variable {s t : State} {p : Fin 2} {k : CtpPacket}

theorem swapAccepts_serviceAsked (s : State) (p : Fin 2) (k : CtpPacket) : swapAccepts (serviceAsked s p k) = swapAccepts s := rfl

/-- A SERVICE SWAP (R700, R704). -/
theorem serviceSwap_shows (h : ctpNewRequest s p k 9 = true) (htarget : ctpTarget s k = some none) (hlen : k.data.length = 8)
    (hcode : numAt k.data 0 2 = 2) (hshed : s.flag F.MGT_STATUS_SHED = false) :
    (∃ j, ((serviceTake s p k 2).hp p).jobs = [j] ∧ j.executed = true ∧ j.status = if swapAccepts s then 0 else 3) ∧
      (if swapAccepts s then (serviceTake s p k 2).mgt.swapAt = some s.now else (serviceTake s p k 2).flag F.MGT_STATUS_SWAP_REFUSED = true) ∧
      ((serviceTake s p k 2).hp p).rxPsn = k.psn.toNat ∧ memFrame swapParts s (serviceTake s p k 2) := by
  have hrun := (serviceRun_awake (s := serviceAsked s p k) hshed).1
  rw [swapAccepts_serviceAsked] at hrun
  obtain ⟨hhost, hframe, hswap⟩ := swap_shows (serviceAsked s p k)
  have hframe' := ((memFrame_serviceAsked s p k).trans hframe).jobQueued p k
  rw [swapAccepts_serviceAsked] at hswap
  cases hacc : swapAccepts s with
  | true =>
    rw [hacc] at hrun hswap
    obtain ⟨heq, hjobs, hpsn⟩ := serviceTake_shows h htarget hlen hcode hrun hhost
    refine ⟨⟨_, hjobs, rfl, rfl⟩, ?_, hpsn, ?_⟩
    · rw [heq]; exact hswap
    · rw [heq]; exact hframe' _
  | false =>
    rw [hacc] at hrun hswap
    obtain ⟨heq, hjobs, hpsn⟩ := serviceTake_shows h htarget hlen hcode hrun hhost
    refine ⟨⟨_, hjobs, rfl, rfl⟩, ?_, hpsn, ?_⟩
    · rw [heq]; exact hswap
    · rw [heq]; exact hframe' _

/-- A SERVICE FG_ALL (R625, R700). -/
theorem fgAll_shows (h : ctpNewRequest s p k 9 = true) (htarget : ctpTarget s k = some none) (hlen : k.data.length = 8)
    (hcode : numAt k.data 0 2 = 4) (hshed : s.flag F.MGT_STATUS_SHED = false) :
    (∃ j, ((serviceTake s p k 4).hp p).jobs = [j] ∧ j.tag = k.tag.toNat ∧ j.slices = allSlices.filter (fgAllowed s) ∧ j.executed = j.slices.isEmpty) ∧
      (∀ n : Fin 16, fgAllowed s n = true → (serviceTake s p k 4).fld F.CAL_FG_STATUS_STATE n = 1) ∧
      ((serviceTake s p k 4).hp p).rxPsn = k.psn.toNat ∧ memFrame fgParts s (serviceTake s p k 4) := by
  have hrun := (serviceRun_awake (s := serviceAsked s p k) hshed).2.2
  rw [show fgAllowed (serviceAsked s p k) = fgAllowed s from rfl] at hrun
  obtain ⟨hin, -, hhost, hframe⟩ := foldl_fgStart_shows (s := serviceAsked s p k) (xs := allSlices.filter (fgAllowed s))
    ((List.nodup_finRange 16).filter _) fun n hn => (List.mem_filter.mp hn).2
  obtain ⟨heq, hjobs, hpsn⟩ := serviceTake_shows h htarget hlen hcode hrun hhost
  refine ⟨⟨_, hjobs, rfl, ?_, ?_⟩, fun n hn => ?_, hpsn, ?_⟩
  · cases hl : allSlices.filter (fgAllowed s) with
    | nil => rfl
    | cons => rfl
  · cases hl : allSlices.filter (fgAllowed s) with
    | nil => rfl
    | cons => rfl
  · rw [heq, jobQueued, fld_modHost]
    exact hin n (List.mem_filter.mpr ⟨List.mem_finRange n, hn⟩)
  · rw [heq]
    exact ((memFrame_serviceAsked s p k).trans hframe).jobQueued ..

end

/-- Settles O43: a whole new request of this device is one job, which is executed by the operation of its kind; a SERVICE command is one job beside
what the firmware does; a completion ends the only job of its port. -/
theorem hostRequests : Obligations.HostRequests := by
  unfold Obligations.HostRequests
  refine ⟨fun s p k h htarget hst => ?_, fun s p k v key h htarget hst hwords hat hk hheld hrpl => ?_, fun s p k h htarget hst => ?_,
    fun s p k r o id h htarget hst hrange hid hd hi => ?_, fun s p j hj he h8 hmax hsend => ?_,
    fun s k j part hk hdest hin htag hstatus hj hdev hjtag hacc hmissing hunsent haddr => ?_, fun s p tag j hj hdev htag hstart hexec hdue => ?_,
    fun s p k h htarget hlen hcode => ?_, fun s p k h htarget hlen hcode hshed _ _ => ?_, fun s p k h htarget hlen hcode hshed => ?_,
    fun s p k h htarget hlen hcode hshed => ?_⟩
  · obtain ⟨reply, hlen, hjobs, hpsn, hbytes⟩ := regRd_shows h htarget hst
    exact ⟨_, rfl, ⟨_, hjobs, rfl, rfl, rfl, hlen⟩, hpsn, hbytes⟩
  · obtain ⟨hjobs, hpsn, hrd, hregs, hbytes⟩ := regWr_shows h htarget hst hwords hat hk hheld hrpl
    exact ⟨_, rfl, ⟨_, hjobs, rfl, rfl, rfl⟩, hpsn, hrd, hregs, hbytes⟩
  · obtain ⟨hjobs, hpsn, hregs, hbytes⟩ := memRd_shows h htarget hst
    exact ⟨_, rfl, ⟨_, hjobs, rfl, rfl, rfl, rfl, rfl, rfl⟩, hpsn, hregs, hbytes⟩
  · obtain ⟨hjobs, hpsn, hlen, ⟨hdata, hother⟩, hregs⟩ := memWr_shows h htarget hst hrange hid ⟨hd, hi⟩
    rw [hlen] at hdata hother
    exact ⟨_, rfl, ⟨_, hjobs, rfl, rfl, rfl⟩, hpsn, hdata, hother, hregs⟩
  · have hout : ((completionSend s p).hp p).out = [stamped (quietPort (s.hp p)) (completionPacket (quietPort (s.hp p)) j j.sent (j.reply.drop j.sent) true)] := by
      rw [completionSend_last hj he h8 hmax hsend, State.hp_modHost]
      rfl
    refine ⟨_, rfl, ⟨_, hout, rfl, rfl, rfl, rfl, rfl, rfl⟩, ?_⟩
    rw [completionSend_last hj he h8 hmax hsend, State.hp_modHost]
    refine ⟨?_, rfl, memFrame_modHost s p _⟩
    show (s.hp p).jobs.drop 1 = []
    rw [hj]
    rfl
  · have hmod : k.tag.toNat = k.tag.toNat % 512 := (Nat.mod_eq_of_lt htag).symm
    have hgo : tunnelCompletion s k = tunnelReply (packetTaken s k) 0 k := by
      unfold tunnelCompletion
      rw [if_neg (by simp [hk, hdest, hin]), if_pos htag]
    have heq := tunnelReply_last (s := packetTaken s k) (p := 0) hj hdev (hjtag.trans hmod) hacc hmissing hunsent haddr hstatus
    have hjobs := jobs_jobDone (jobs_modJob (s := packetTaken s k) (p := 0) hj fun _ => j.answered part k.data) 0 0 (j.answered part k.data).reply
    refine ⟨_, congrArg Host.Outcome.next (hgo.trans heq), ⟨_, hjobs, rfl, rfl, rfl, rfl⟩, rfl, ?_⟩
    exact (((memFrame.refl [] s).modKtl _).modJob ..).jobDone ..
  · obtain ⟨info, heq⟩ := tunnelTimeout_due hj hdev htag hstart hexec hdue
    exact ⟨_, congrArg Host.Outcome.next heq, ⟨_, jobs_jobDone hj .., rfl, rfl, rfl⟩, (memFrame.refl [] s).jobDone ..⟩
  · obtain ⟨heq, hjobs, hpsn⟩ := serviceTake_shows h htarget hlen hcode rfl rfl
    refine ⟨_, rfl, ⟨_, hjobs, rfl, rfl, rfl, rfl⟩, hpsn, ?_⟩
    rw [heq]
    exact (memFrame_serviceAsked s p k).jobQueued ..
  · exact ⟨_, rfl, serviceSwap_shows h htarget hlen hcode hshed⟩
  · obtain ⟨hsaving, hbusy, hhost, hframe⟩ := saveKinds_shows (serviceAsked s p k)
    obtain ⟨heq, hjobs, hpsn⟩ := serviceTake_shows h htarget hlen hcode (serviceRun_awake (s := serviceAsked s p k) hshed).2.1 hhost
    refine ⟨_, rfl, ⟨_, hjobs, rfl, rfl⟩, ?_, ?_, hpsn, ?_⟩
    · rw [heq]; exact hsaving
    · rw [heq]; exact hbusy
    · rw [heq]; exact ((memFrame_serviceAsked s p k).trans hframe).jobQueued ..
  · exact ⟨_, rfl, fgAll_shows h htarget hlen hcode hshed⟩

end Sys2Proof.Machine

namespace Sys2Proof.Machine

/-! ## Links and frames of the host ports (O42) -/

section
variable {l : List Part} {s t u : State} {p : Fin 2} {k : CtpPacket}

/-! ### Links -/

/-- A port that is UP, before its event. -/
def linkUp (s : State) (p : Fin 2) : State :=
  ((s.setFld F.HST_PORT_STATUS_LINK 2 p).setFlag F.HST_PORT_STATUS_AN_DONE (s.flag F.HST_PORT_CFG_AN_EN p) p).setFlag F.HST_PORT_STATUS_FEC_LOCK true p

theorem hostLinkRise_of_may (h : hostMayTrain s p = true) (hup : s.hostUp p = false) : hostLinkRise s p = (linkUp s p).event EvCode.PORT 16 p 2 := by
  unfold hostLinkRise
  rw [h, hup, if_neg (by decide)]
  dsimp only
  rw [State.flag_setFld_apart _ _ _ _ _ _ _ _ _ _ _ _ (by decide)]
  rfl

/-- What a rise of LINK moves, beside the queue of events. -/
def linkParts (p : Fin 2) : List Part :=
  [F.HST_PORT_STATUS_LINK.part [p.val], F.HST_PORT_STATUS_FEC_LOCK.part [p.val], F.HST_PORT_STATUS_AN_DONE.part [p.val]] ++ eventParts

theorem linkRise_shows (s : State) (p : Fin 2) (code src index data : Nat) :
    ((linkUp s p).event code src index data).hostUp p = true ∧ ((linkUp s p).event code src index data).flag F.HST_PORT_STATUS_FEC_LOCK p = true ∧
      ((linkUp s p).event code src index data).flag F.HST_PORT_STATUS_AN_DONE p = s.flag F.HST_PORT_CFG_AN_EN p ∧
      memFrame (linkParts p) s ((linkUp s p).event code src index data) := by
  refine ⟨?_, ?_, ?_, ?_⟩
  · rw [State.hostUp, State.fld_event _ _ _ _ _ (by decide), linkUp]
    simp (disch := decide)
  · rw [State.flag_event _ _ _ _ _ (by decide), linkUp]
    simp (disch := decide)
  · rw [State.flag_event _ _ _ _ _ (by decide), linkUp]
    simp (disch := decide)
  · have hup : memFrame (linkParts p) s (linkUp s p) :=
      (((memFrame.refl _ s).setFld _ _ (.of_mem_index (.head _))).setFlag _ _ (.of_mem_index (.tail _ (.tail _ (.head _))))).setFlag _ _
        (.of_mem_index (.tail _ (.head _)))
    exact hup.event _ _ _ _ fun x hx => by rw [linkParts]; exact List.mem_append_right _ hx

/-- A port that has left UP, before its report. -/
def linkDown (s : State) (p : Fin 2) : State :=
  (((s.setFld F.HST_PORT_STATUS_LINK 0 p).setFlag F.HST_PORT_STATUS_FEC_LOCK false p).setFlag F.HST_PORT_STATUS_AN_DONE false p).setFlag
    F.HST_PORT_STATUS_DOWN_EVT true p

/-- The report of a port that leaves UP. -/
def linkReported (s : State) (p : Fin 2) : State :=
  if s.flag F.HST_PORT_CFG_EN p ∧ s.domState (33 + p.val) = 0 then s.raise Src.HOST_LINK (Scope.hostPort p) p else s

theorem hostLinkFall_of_up (hup : s.hostUp p = true) :
    hostLinkFall s p = (linkReported (linkDown s p) p).event EvCode.PORT 16 p (hostLink (linkReported (linkDown s p) p) p) := by
  unfold hostLinkFall
  rw [hup, if_neg (by decide)]
  rfl

theorem fld_linkReported (s : State) (p : Fin 2) (f : Field) (i j k m : Nat) : (linkReported s p).fld f i j k m = s.fld f i j k m := by
  unfold linkReported
  split
  · exact State.fld_raise ..
  · rfl

theorem memFrame.linkReported (h : memFrame l s t) (p : Fin 2) : memFrame l s (linkReported t p) := .ite (h.raise ..) h

/-- What a fall of LINK moves, beside the queue of events. -/
def linkDownParts (p : Fin 2) : List Part :=
  [F.HST_PORT_STATUS_LINK.part [p.val], F.HST_PORT_STATUS_FEC_LOCK.part [p.val], F.HST_PORT_STATUS_AN_DONE.part [p.val],
    F.HST_PORT_STATUS_DOWN_EVT.part [p.val]] ++ eventParts

theorem linkFall_shows (s : State) (p : Fin 2) (code src index data : Nat) :
    ((linkReported (linkDown s p) p).event code src index data).hostUp p = false ∧
      ((linkReported (linkDown s p) p).event code src index data).flag F.HST_PORT_STATUS_DOWN_EVT p = true ∧
      ((linkReported (linkDown s p) p).event code src index data).flag F.HST_PORT_STATUS_FEC_LOCK p = false ∧
      memFrame (linkDownParts p) s ((linkReported (linkDown s p) p).event code src index data) := by
  refine ⟨?_, ?_, ?_, ?_⟩
  · rw [State.hostUp, State.fld_event _ _ _ _ _ (by decide), fld_linkReported, linkDown]
    simp (disch := decide)
  · rw [State.flag_event _ _ _ _ _ (by decide), State.flag, fld_linkReported, ← State.flag, linkDown]
    simp (disch := decide)
  · rw [State.flag_event _ _ _ _ _ (by decide), State.flag, fld_linkReported, ← State.flag, linkDown]
    simp (disch := decide)
  · have hdown : memFrame (linkDownParts p) s (linkDown s p) :=
      ((((memFrame.refl _ s).setFld _ _ (.of_mem_index (.head _))).setFlag _ _ (.of_mem_index (.tail _ (.head _)))).setFlag _ _
        (.of_mem_index (.tail _ (.tail _ (.head _))))).setFlag _ _ (.of_mem_index (.tail _ (.tail _ (.tail _ (.head _)))))
    exact (hdown.linkReported p).event _ _ _ _ fun x hx => by rw [linkDownParts]; exact List.mem_append_right _ hx

/-! ### Frames -/

/-- The codewords of a frame are counted. -/
def frameCounted (s : State) (p : Fin 2) (f : HostFrame) : State :=
  (s.countBy .HST_FEC_CORR f.corrected p).countBy .HST_FEC_UNCORR f.uncorrectable p

theorem memFrame_frameCounted (s : State) (p : Fin 2) (f : HostFrame) :
    memFrame [{ reg := .HST_FEC_CORR, idx := [p.val] }, { reg := .HST_FEC_UNCORR, idx := [p.val] }] s (frameCounted s p f) :=
  ((memFrame.refl _ s).countBy _ _ (.of_mem_index (.head _))).countBy _ _ (.of_mem_index (.tail _ (.head _)))

theorem rd_frameCounted (s : State) (p : Fin 2) (f : HostFrame) {r : Reg} (h : r ≠ .HST_FEC_CORR ∧ r ≠ .HST_FEC_UNCORR) (i j k m : Nat) :
    (frameCounted s p f).rd r i j k m = s.rd r i j k m :=
  (memFrame_frameCounted s p f).1.rd_eq (by simpa using ⟨h.1.symm, h.2.symm⟩) ..

theorem fld_frameCounted (s : State) (p : Fin 2) (f : HostFrame) {x : Field} (h : x.reg ≠ .HST_FEC_CORR ∧ x.reg ≠ .HST_FEC_UNCORR) (i j k m : Nat) :
    (frameCounted s p f).fld x i j k m = s.fld x i j k m := by rw [State.fld, rd_frameCounted s p f h, State.fld]

theorem flag_frameCounted (s : State) (p : Fin 2) (f : HostFrame) {x : Field} (h : x.reg ≠ .HST_FEC_CORR ∧ x.reg ≠ .HST_FEC_UNCORR) (i j k m : Nat) :
    (frameCounted s p f).flag x i j k m = s.flag x i j k m := by rw [State.flag, fld_frameCounted s p f h, State.flag]

theorem hostFrameOk_frameCounted (s : State) (p : Fin 2) (f g : HostFrame) : hostFrameOk (frameCounted s p f) p g = hostFrameOk s p g := by
  unfold hostFrameOk
  simp (disch := decide) only [rd_frameCounted, fld_frameCounted, flag_frameCounted]

theorem hostOwnIp_frameCounted (s : State) (p : Fin 2) (f : HostFrame) (a : IpAddr) : hostOwnIp (frameCounted s p f) p a = hostOwnIp s p a := by
  unfold hostOwnIp
  cases a <;> simp (disch := decide) only [rd_frameCounted]

theorem hp_frameCounted (s : State) (p q : Fin 2) (f : HostFrame) : (frameCounted s p f).hp q = s.hp q := rfl

theorem ctpPort_frameCounted (s : State) (p : Fin 2) (f : HostFrame) (k : CtpPacket) : ctpPort (frameCounted s p f) p k = ctpPort s p k := by
  unfold ctpPort State.session
  simp (disch := decide) only [fld_frameCounted, hp_frameCounted]

theorem hostFrameMax_frameCounted (s : State) (p : Fin 2) (f : HostFrame) : hostFrameMax (frameCounted s p f) p = hostFrameMax s p := by
  unfold hostFrameMax
  simp (disch := decide) only [flag_frameCounted]

theorem execHostFrameRx_dropped {f : HostFrame} (hup : s.hostUp p = true) (hok : hostFrameOk s p f = false) :
    execHostFrameRx p f s = .next ((frameCounted s p f).count .HST_RX_DROP p) := by
  unfold execHostFrameRx
  rw [hup, if_neg (by decide)]
  dsimp only
  rw [← frameCounted, hostFrameOk_frameCounted, hok]
  rfl

theorem execHostFrameRx_ctp {f : HostFrame} {dest : IpAddr} {udp : BitVec 16} (hup : s.hostUp p = true) (hok : hostFrameOk s p f = true)
    (hp : f.payload = .ctp dest udp k) (hown : hostOwnIp s p dest = true) (hudp : udp.toNat = ctpPort s p k)
    (hlen : ctpFrameLen f dest k.data.length ≤ hostFrameMax s p) (htype : ctpTypeOk k = true) :
    execHostFrameRx p f s = .next ((frameCounted s p f).modHost p fun x => { x with inbox := x.inbox ++ [k] }) := by
  unfold execHostFrameRx
  rw [hup, if_neg (by decide)]
  dsimp only
  rw [← frameCounted, hostFrameOk_frameCounted, hok, if_neg (by decide), hp]
  dsimp only
  rw [hostOwnIp_frameCounted, ctpPort_frameCounted, hostFrameMax_frameCounted, if_neg (by simp [hown, hudp, hlen]), if_pos htype]

end
end Sys2Proof.Machine

namespace Sys2Proof.Machine

/-! ## Sessions, events and the time of day (O42) -/

section
variable {l : List Part} {s t u : State} {p : Fin 2} {k : CtpPacket}

/-! ### Sessions -/

theorem ctpEmit_eq (s : State) (p : Fin 2) (k : CtpPacket) :
    ctpEmit s p k = s.modHost p fun x => if s.hostUp p then { x with out := x.out ++ [k], ackSince := none } else x := by
  unfold ctpEmit
  split
  · rfl
  · simp [State.modHost, Vector.get_eq_getElem]

theorem ctpSendAck_keeps (s : State) (p : Fin 2) (nak : Bool) : memFrame l s (ctpSendAck s p nak) ∧
    ((ctpSendAck s p nak).hp p).jobs = (s.hp p).jobs ∧ ((ctpSendAck s p nak).hp p).tags = (s.hp p).tags ∧
    ((ctpSendAck s p nak).hp p).kept = (s.hp p).kept := by
  rw [ctpSendAck, ctpEmit_eq]
  refine ⟨(memFrame.refl l s).modHost p _, ?_⟩
  generalize { ctpBlank (s.hp p) 7 with nak := nak } = k
  rw [State.hp_modHost]
  split <;> exact ⟨rfl, rfl, rfl⟩

/-- A packet is sent: the session of its port is as before but for what it keeps to resend. -/
theorem ctpSend_shows (s : State) (p : Fin 2) (k : CtpPacket) (units : Nat) : memFrame l s (ctpSend s p k units) ∧
    ((ctpSend s p k units).hp p).peer = (s.hp p).peer ∧ ((ctpSend s p k units).hp p).rxPsn = (s.hp p).rxPsn ∧
    ((ctpSend s p k units).hp p).limit = (s.hp p).limit ∧ ((ctpSend s p k units).hp p).jobs = (s.hp p).jobs ∧
    ((ctpSend s p k units).hp p).tags = (s.hp p).tags := by
  unfold ctpSend
  dsimp only
  rw [ctpEmit_eq, State.modHost_modHost, State.hp_modHost]
  refine ⟨(memFrame.refl l s).modHost p _, ?_⟩
  split <;> exact ⟨rfl, rfl, rfl, rfl, rfl⟩

/-- The registers of the session and its peer. -/
def sessionParts (p : Fin 2) : List Part :=
  [{ reg := .CTP_STATUS, idx := [p.val] }, { reg := .CTP_PEER_PORT, idx := [p.val] }, { reg := .CTP_PEER_ADDR, idx := [p.val] },
    { reg := .CTP_RING, idx := [p.val] }]

/-- The address of a peer as a number, and whether it is of the longer kind. -/
def ipNumber : IpAddr → Bool × Nat
  | .v4 x => (false, x.toNat)
  | .v6 x => (true, x.toNat)

/-- The four words of an address stand in their registers. -/
def setPeerAddr (s : State) (p : Fin 2) (v : Nat) : State :=
  (List.range 4).foldl (fun s i => s.wr .CTP_PEER_ADDR (BitVec.ofNat 32 (v / 2 ^ (32 * i))) p i) s

theorem setPeerRegs_eq (s : State) (p : Fin 2) (a : Peer) :
    setPeerRegs s p a = setPeerAddr ((s.wr .CTP_PEER_PORT (a.port.setWidth 32) p).setFlag F.CTP_STATUS_IPV6 (ipNumber a.ip).1 p) p (ipNumber a.ip).2 := by
  unfold setPeerRegs
  cases a.ip <;> rfl

theorem memFrame.setPeerRegs (h : memFrame (sessionParts p) s t) (a : Peer) : memFrame (sessionParts p) s (setPeerRegs t p a) := by
  rw [setPeerRegs_eq]
  have hflag : memFrame (sessionParts p) s ((t.wr .CTP_PEER_PORT (a.port.setWidth 32) p).setFlag F.CTP_STATUS_IPV6 (ipNumber a.ip).1 p) :=
    (h.wr _ _ (.of_mem_index (.tail _ (.head _)))).setFlag _ _ (.of_mem_reg (.head _) (by decide))
  exact hflag.foldl _ fun _ i h => h.wr _ _ (.of_mem_index (.tail _ (.tail _ (.head _))))

theorem setPeerRegs_host (s : State) (p : Fin 2) (a : Peer) : (setPeerRegs s p a).host = s.host := by
  rw [setPeerRegs_eq]
  rfl

/-- The registers of a new session stand. -/
def sessionShown (s : State) (p : Fin 2) (k : CtpPacket) : State :=
  ((setPeerRegs (ctpAbandon s p) p k.peer).setFld F.CTP_STATUS_SESSION 1 p).setFld F.CTP_RING_UNITS k.info.toNat p

/-- A port at the start of a session. -/
def openedPort (s : State) (p : Fin 2) (k : CtpPacket) (x : HostPort) : HostPort :=
  { x with peer := k.peer, udp := (sessionShown s p k).fld F.CTP_CFG_UDP_PORT p, rxPsn := k.psn.toNat
           txPsn := (Config.openValue 15 s.now % 2 ^ 24 + 2 ^ 24 - 1) % 2 ^ 24, rxUnits := 0, freed := 0, used := 0
           limit := min k.limit.toNat k.info.toNat }

theorem connectOpen_eq (s : State) (p : Fin 2) (k : CtpPacket) : connectOpen s p k =
    ctpSend ((sessionShown s p k).modHost p (openedPort s p k)) p (ctpBlank (((sessionShown s p k).modHost p (openedPort s p k)).hp p) 1) 0 := rfl

theorem memFrame_sessionShown (s : State) (p : Fin 2) (k : CtpPacket) : memFrame (sessionParts p) s (sessionShown s p k) :=
  (((((memFrame.refl _ s).modHost p _).setPeerRegs k.peer).setFld _ _ (.of_mem_reg (.head _) (by decide))).setFld _ _
    (.of_mem_reg (.tail _ (.tail _ (.tail _ (.head _)))) (by decide)))

theorem sessionShown_shows (s : State) (p : Fin 2) (k : CtpPacket) : (sessionShown s p k).session p = 1 ∧
    (sessionShown s p k).fld F.CTP_RING_UNITS p = k.info.toNat % 2 ^ F.CTP_RING_UNITS.width ∧
    ((sessionShown s p k).hp p).jobs = [] ∧ ((sessionShown s p k).hp p).tags = [] := by
  have hhost : (sessionShown s p k).host = (ctpAbandon s p).host := by
    rw [sessionShown, State.setFld_host, State.setFld_host, setPeerRegs_host]
  refine ⟨?_, ?_, ?_, ?_⟩
  · rw [State.session, sessionShown, State.fld_setFld_apart _ _ _ _ _ _ _ _ _ _ _ _ (by decide)]
    exact State.fld_setFld_fits _ _ _ _ _ _ (by decide) (by decide)
  · exact State.fld_setFld_same _ _ _ _ _ _ _ (by decide)
  · rw [hp_of_host hhost, ctpAbandon, State.hp_modHost]
  · rw [hp_of_host hhost, ctpAbandon, State.hp_modHost]

theorem connectOpen_shows (s : State) (p : Fin 2) (k : CtpPacket) : (connectOpen s p k).session p = 1 ∧
    ((connectOpen s p k).hp p).peer = k.peer ∧ ((connectOpen s p k).hp p).rxPsn = k.psn.toNat ∧
    ((connectOpen s p k).hp p).limit = min k.limit.toNat k.info.toNat ∧ ((connectOpen s p k).hp p).jobs = [] ∧
    ((connectOpen s p k).hp p).tags = [] ∧ (connectOpen s p k).fld F.CTP_RING_UNITS p = k.info.toNat % 2 ^ F.CTP_RING_UNITS.width ∧
    memFrame (sessionParts p) s (connectOpen s p k) := by
  obtain ⟨hsession, hring, hjobs, htags⟩ := sessionShown_shows s p k
  obtain ⟨hsent, hpeer, hpsn, hlimit, hjobs', htags'⟩ := ctpSend_shows (l := []) ((sessionShown s p k).modHost p (openedPort s p k)) p
    (ctpBlank (((sessionShown s p k).modHost p (openedPort s p k)).hp p) 1) 0
  rw [connectOpen_eq]
  refine ⟨?_, ?_, ?_, ?_, ?_, ?_, ?_, ?_⟩
  · rw [State.session, hsent.1.fld_of_reg (by simp)]
    exact hsession
  · rw [hpeer, State.hp_modHost]
    rfl
  · rw [hpsn, State.hp_modHost]
    rfl
  · rw [hlimit, State.hp_modHost]
    rfl
  · rw [hjobs', State.hp_modHost]
    exact hjobs
  · rw [htags', State.hp_modHost]
    exact htags
  · rw [hsent.1.fld_of_reg (by simp)]
    exact hring
  · exact ((memFrame_sessionShown s p k).modHost p _).trans (hsent.mono fun _ h => (List.not_mem_nil h).elim)

theorem execConnect_opened (hw : ctpWaits s p k 0 = true) (hring : 64 ≤ k.info.toNat) (hs : s.session p ≠ 1) :
    execConnect p k s = .next (connectOpen (s.modHost p (takenPort k)) p k) := by
  have hs' : (s.modHost p (takenPort k)).session p ≠ 1 := hs
  unfold execConnect
  rw [hw, if_neg (by decide), ctpTake_eq]
  dsimp only
  rw [if_neg (by omega), if_pos hs']

theorem execConnect_refused (hw : ctpWaits s p k 0 = true) (hring : k.info.toNat < 64) :
    execConnect p k s = .next (connectRefused (s.modHost p (takenPort k)) p k) := by
  unfold execConnect
  rw [hw, if_neg (by decide), ctpTake_eq]
  dsimp only
  rw [if_pos hring]

theorem connectRefused_shows (s : State) (p : Fin 2) (k : CtpPacket) : (connectRefused s p k).session p = s.session p ∧
    (connectRefused s p k).flag F.CTP_STATUS_REFUSED p = true ∧ ((connectRefused s p k).hp p).peer = (s.hp p).peer ∧
    ((connectRefused s p k).hp p).jobs = (s.hp p).jobs ∧ memFrame [F.CTP_STATUS_REFUSED.part [p.val]] s (connectRefused s p k) := by
  have hhost : (s.setFlag F.CTP_STATUS_REFUSED true p).hp p = s.hp p := rfl
  unfold connectRefused
  dsimp only
  rw [ctpEmit_eq, State.hp_modHost, hhost]
  refine ⟨?_, ?_, ?_, ?_, ((memFrame.refl _ s).setFlag _ _ (.of_mem_index (.head _))).modHost p _⟩
  · exact State.fld_setFlag_apart _ _ _ _ _ _ _ _ _ _ _ _ (by decide)
  · exact State.flag_setFlag_bit _ _ _ _ _ _ _ (by decide) rfl
  · split <;> rfl
  · split <;> rfl

/-- A session has closed. -/
def sessionClosed (s : State) (p : Fin 2) (k : CtpPacket) : State :=
  (ctpSendAck (ctpAbandon (s.modHost p fun x => acceptedPort s.now k (takenPort k x)) p) p false).setFld F.CTP_STATUS_SESSION 0 p

theorem execDisconnect_shows (h : ctpInOrder s p k 10 = true) : ∃ t, execDisconnect p k s = .next t ∧ t.session p = 0 ∧ (t.hp p).jobs = [] ∧
    (t.hp p).tags = [] ∧ (t.hp p).kept = [] ∧ memFrame [F.CTP_STATUS_SESSION.part [p.val]] s t := by
  obtain ⟨hwait, haccept⟩ := ctpAccept_of_inOrder h
  refine ⟨sessionClosed s p k, ?_, ?_⟩
  · unfold execDisconnect
    rw [hwait, if_neg (by decide), haccept]
    rfl
  obtain ⟨hframe, hjobs, htags, hkept⟩ := ctpSendAck_keeps (l := [F.CTP_STATUS_SESSION.part [p.val]])
    (ctpAbandon (s.modHost p fun x => acceptedPort s.now k (takenPort k x)) p) p false
  have hp : ∀ t : State, (t.setFld F.CTP_STATUS_SESSION 0 p).hp p = t.hp p := fun _ => rfl
  rw [sessionClosed, hp, hjobs, htags, hkept, ctpAbandon, State.hp_modHost]
  exact ⟨State.fld_setFld_fits _ _ _ _ _ _ (by decide) (by decide), rfl, rfl, rfl,
    ((((memFrame.refl _ s).modHost p _).modHost p _).trans hframe).setFld _ _ (.of_mem_index (.head _))⟩

theorem execAck_taken (hw : ctpWaits s p k 7 = true) (hpeer : ctpFromPeer s p k = true) (hnak : k.nak = false) :
    execAck p k s = .next (s.modHost p fun x => ackedPort k (takenPort k x)) := by
  have hpeer' : ctpFromPeer (s.modHost p (takenPort k)) p k = true := by
    unfold ctpFromPeer
    rw [State.hp_modHost]
    exact hpeer
  unfold execAck
  rw [hw, if_neg (by decide), ctpTake_eq]
  dsimp only
  rw [if_pos hpeer', ctpTakeAck_of_no_nak hnak, State.modHost_modHost]

/-! ### Resends and acknowledgements -/

/-- What a port resends. -/
def resent (x : HostPort) : List CtpPacket :=
  x.kept.map fun k => { k.packet with ack := BitVec.ofNat 24 x.rxPsn, limit := BitVec.ofNat 32 (ctpLimit x) }

/-- A port that has resent what it keeps. -/
def resentPort (now : Nat) (x : HostPort) : HostPort :=
  { x with retries := x.retries + 1, kept := x.kept.map (fun k => { k with at_ := now }), out := x.out ++ resent x, ackSince := none }

theorem ctpResend_again (hk : (s.hp p).kept.isEmpty = false) (hup : s.hostUp p = true) (hr : (s.hp p).retries < ctpMaxRetry s p) :
    ctpResend s p = (s.countBy .CTP_RETX (resent (s.hp p)).length p).modHost p (resentPort s.now) := by
  unfold ctpResend
  dsimp only
  rw [if_neg (by simp [hk, hup]), if_neg (by omega)]
  exact State.modHost_congr rfl

/-- The state with all of it sent again. -/
def portResent (s : State) (p : Fin 2) : State :=
  ((s.modHost p quietPort).countBy .CTP_RETX (resent (quietPort (s.hp p))).length p).modHost p (resentPort s.now)

/-- The timer of the oldest kept packet has run out. -/
theorem execCtpRto_shows {e : KeptPacket} {xs : List KeptPacket} (hk : (s.hp p).kept = e :: xs) (hs : s.session p = 1)
    (hdue : e.at_ + ctpRtoTicks s p ≤ s.now) (hup : s.hostUp p = true) (hr : (s.hp p).retries < ctpMaxRetry s p) :
    ∃ t, execCtpRto p s = .next t ∧ (t.hp p).retries = (s.hp p).retries + 1 ∧ (t.hp p).out.map CtpPacket.psn = (e :: xs).map (fun x => x.packet.psn) ∧
      t.rd .CTP_RETX p = satCount (s.rd .CTP_RETX p) (xs.length + 1) ∧ memFrame [{ reg := .CTP_RETX, idx := [p.val] }] s t := by
  have hquiet : (s.modHost p quietPort).hp p = quietPort (s.hp p) := State.hp_modHost ..
  have hresend := ctpResend_again (s := s.modHost p quietPort) (p := p) (by rw [hquiet]; show (s.hp p).kept.isEmpty = false; rw [hk]; rfl) hup
    (by rw [hquiet]; exact hr)
  rw [hquiet] at hresend
  have hlen : (resent (quietPort (s.hp p))).length = xs.length + 1 := by
    rw [resent, List.length_map]
    show (s.hp p).kept.length = _
    rw [hk, List.length_cons]
  have hp : ∀ (t : State) (c : Nat), (t.countBy .CTP_RETX c p).hp p = t.hp p := fun _ _ => rfl
  refine ⟨portResent s p, ?_, ?_, ?_, ?_, ?_⟩
  · unfold execCtpRto
    rw [hk]
    dsimp only
    rw [if_pos ⟨hs, hdue⟩, ctpQuiet_eq, hresend]
    rfl
  · rw [portResent, State.hp_modHost, hp, hquiet]
    rfl
  · rw [portResent, State.hp_modHost, hp, hquiet, ← hk]
    show ([] ++ resent (quietPort (s.hp p))).map CtpPacket.psn = _
    rw [List.nil_append, resent, List.map_map]
    rfl
  · rw [portResent, rd_modHost, State.rd_countBy_same, hlen, rd_modHost]
  · exact (((memFrame.refl _ s).modHost p _).countBy _ _ (.of_mem_index (.head _))).modHost p _

theorem ctpSendAck_up (h : s.hostUp p = true) (nak : Bool) :
    ctpSendAck s p nak = s.modHost p fun x => { x with out := x.out ++ [{ ctpBlank (s.hp p) 7 with nak := nak }], ackSince := none } := ctpEmit_up h

/-- A port that has sent an ACK alone. -/
def ackAlonePort (x : HostPort) : HostPort := { quietPort x with out := [{ ctpBlank (quietPort x) 7 with nak := false }], ackSince := none }

theorem execCtpAckTimer_shows {k : Nat} (ha : (s.hp p).ackSince = some k) (hs : s.session p = 1) (hdue : k + 1000 ≤ s.now) (hup : s.hostUp p = true) :
    ∃ t, execCtpAckTimer p s = .next t ∧ (t.hp p).ackSince = none ∧
      (t.hp p).out.map (fun x => (x.kind, x.ack, x.nak)) = [(7, BitVec.ofNat 24 (s.hp p).rxPsn, false)] ∧ memFrame [] s t := by
  refine ⟨s.modHost p ackAlonePort, ?_, ?_⟩
  · unfold execCtpAckTimer
    rw [ha]
    dsimp only
    rw [if_pos ⟨hs, hdue⟩, ctpQuiet_eq, ctpSendAck_up (by exact hup), State.modHost_modHost, State.hp_modHost]
    exact congrArg _ (State.modHost_congr rfl)
  · rw [State.hp_modHost]
    exact ⟨rfl, rfl, memFrame_modHost s p _⟩

/-! ### Events -/

/-- A packet of records waits at a port. -/
def eventsQueued (s : State) (p : Fin 2) : State :=
  { s with evt := { s.evt with queue := s.evt.queue.drop 64 } }.modHost p fun x =>
    { x with jobs := x.jobs ++ [CtpJob.ready 8 0 ((s.evt.queue.take 64).flatMap fun e : EventRecord => wordsToBytes e.words)] }

theorem execEventPacketSend_of_waiting (hp : p.val = s.fld F.EVT_CFG_PORT) (hsend : s.flag F.EVT_CFG_SEND = true) (hs : s.session p = 1)
    (hq : s.evt.queue ≠ []) : execEventPacketSend s = .next (eventsQueued s p) := by
  have hport : (if s.fld F.EVT_CFG_PORT = 1 then 1 else 0 : Fin 2) = p := by
    have hcode : ∀ q : Fin 2, (if q.val = 1 then (1 : Fin 2) else 0) = q := by decide
    rw [← hp]
    exact hcode p
  have hempty : s.evt.queue.isEmpty = false := by simpa using hq
  unfold execEventPacketSend
  dsimp only
  rw [hport, if_neg (by simp [hsend, hs, hempty])]
  rfl

/-- The oldest record has been taken. -/
def recordTaken (s : State) (e : EventRecord) (xs : List EventRecord) : State :=
  { ((({ s with evt := { s.evt with queue := xs } }.wr .EVT_RD1 (BitVec.ofNat 32 (e.beat % 2 ^ 32))).wr .EVT_RD2 (BitVec.ofNat 32 (e.beat / 2 ^ 32 % 2 ^ 32))).wr
      .EVT_RD3 (BitVec.ofNat 32 (e.data % 2 ^ 32))) with readValue := BitVec.ofNat 32 (e.words.getD 0 0) }

theorem evtTake_of_record {e : EventRecord} {xs : List EventRecord} (h : s.evt.queue = e :: xs) : evtTake s = recordTaken s e xs := by
  unfold evtTake
  rw [h]
  rfl

theorem ofNat_mod_word (x : Nat) : BitVec.ofNat 32 (x % 2 ^ 32) = BitVec.ofNat 32 x := by
  apply BitVec.eq_of_toNat_eq
  simp

theorem recordTaken_shows (s : State) (e : EventRecord) (xs : List EventRecord) : (recordTaken s e xs).rd .EVT_RD1 = BitVec.ofNat 32 e.beat ∧
    (recordTaken s e xs).rd .EVT_RD3 = BitVec.ofNat 32 e.data ∧ memFrame (globalParts [.EVT_RD1, .EVT_RD2, .EVT_RD3]) s (recordTaken s e xs) := by
  have hread : ∀ (t : State) (v : Word) (r : Reg), ({ t with readValue := v } : State).rd r = t.rd r := fun _ _ _ => rfl
  refine ⟨?_, ?_, ?_⟩
  · rw [recordTaken, hread, ofNat_mod_word]
    simp (disch := decide)
  · rw [recordTaken, hread, ofNat_mod_word e.data]
    exact State.rd_wr_same ..
  · have hqueue : memFrame (globalParts [.EVT_RD1, .EVT_RD2, .EVT_RD3]) s { s with evt := { s.evt with queue := xs } } :=
      (memFrame.refl _ s).of_eq rfl rfl rfl
    exact (((hqueue.wr .EVT_RD1 _ (.of_mem (.head _) ..)).wr .EVT_RD2 _ (.of_mem (.tail _ (.head _)) ..)).wr .EVT_RD3 _
      (.of_mem (.tail _ (.tail _ (.head _))) ..)).of_eq rfl rfl rfl

/-! ### The time of day -/

theorem todLatch_shows (hb : s.beat < 2 ^ 64) (ht : s.tod.time < 2 ^ 64 * todSecond) :
    (todLatch s).pair .HST_TOD_SEC_LO .HST_TOD_SEC_HI = s.tod.time / todSecond ∧
      (todLatch s).rd .HST_TOD_NS = BitVec.ofNat 32 (s.tod.time % todSecond / 2 ^ 30) ∧ (todLatch s).pair .HST_TOD_BEAT_LO .HST_TOD_BEAT_HI = s.beat ∧
      (todLatch s).tod = s.tod ∧
      memFrame (globalParts [.HST_TOD_SEC_LO, .HST_TOD_SEC_HI, .HST_TOD_NS, .HST_TOD_BEAT_LO, .HST_TOD_BEAT_HI]) s (todLatch s) := by
  have hsec : s.tod.time / todSecond < 2 ^ 64 := Nat.div_lt_of_lt_mul (by rwa [Nat.mul_comm])
  refine ⟨?_, ?_, State.pair_setPair_same _ (by decide) hb .., rfl, ?_⟩
  · refine Eq.trans ?_ (State.pair_setPair_same s (lo := .HST_TOD_SEC_LO) (hi := .HST_TOD_SEC_HI) (by decide) hsec 0 0 0)
    unfold todLatch State.pair
    dsimp only
    rw [State.setPair]
    simp (disch := decide)
  · unfold todLatch
    dsimp only
    rw [State.setPair]
    simp (disch := decide)
  · exact (((memFrame.refl _ s).setPair _ (.of_mem (.head _) ..) (.of_mem (.tail _ (.head _)) ..)).wr _ _
      (.of_mem (.tail _ (.tail _ (.head _))) ..)).setPair _ (.of_mem (.tail _ (.tail _ (.tail _ (.head _)))) ..)
      (.of_mem (.tail _ (.tail _ (.tail _ (.tail _ (.head _))))) ..)

/-- A time of day put in its place. -/
def withTod (s : State) (x : TimeOfDay) : State := { s with tod := x }

theorem tod_withTod (s : State) (x : TimeOfDay) : (withTod s x).tod = x := rfl

theorem memFrame_withTod (s : State) (x : TimeOfDay) : memFrame l s (withTod s x) := (memFrame.refl l s).of_eq rfl rfl rfl

/-- The time of day at what is staged. -/
def steppedTod (x : TimeOfDay) : TimeOfDay := { x with time := x.stagedSec % 2 ^ 48 * todSecond + x.stagedNs * 2 ^ 30, set := true }

theorem todStep_eq (s : State) : todStep s = withTod s (steppedTod s.tod) := rfl

theorem todStep_shows (s : State) :
    (todStep s).tod = { s.tod with time := s.tod.stagedSec % 2 ^ 48 * todSecond + s.tod.stagedNs * 2 ^ 30, set := true } ∧ memFrame [] s (todStep s) := by
  rw [todStep_eq, tod_withTod]
  exact ⟨rfl, memFrame_withTod s _⟩

/-- A message has been stamped. -/
def ptpStamped (s : State) (st : BitVec 2) : State :=
  { s with tod := { s.tod with stamp := s.tod.time / 2 ^ 30 } }.setFld F.HST_PTP_STATUS_STATE st.toNat

theorem execPtpMessage_at_port (he : s.flag F.HST_PTP_CFG_EN = true) (hp : s.fld F.HST_PTP_CFG_PORT = p.val) (hup : s.hostUp p = true)
    (adj : Option (BitVec 32)) (st : BitVec 2) : execPtpMessage p adj st s = .next (match adj with
      | none => ptpStamped s st
      | some v => (ptpStamped s st).wr .HST_TOD_ADJ (BitVec.ofInt 32 (clampInt (-429497) 429497 (sext 32 v.toNat)))) := by
  unfold execPtpMessage
  rw [if_neg (by simp [he, hp, hup])]
  cases adj <;> rfl

theorem ptpStamped_shows (s : State) (st : BitVec 2) (hl : F.HST_PTP_STATUS_STATE.part [] ∈ l) : (ptpStamped s st).fld F.HST_PTP_STATUS_STATE = st.toNat ∧
    memFrame l s (ptpStamped s st) := by
  have htod : memFrame l s { s with tod := { s.tod with stamp := s.tod.time / 2 ^ 30 } } := (memFrame.refl _ s).of_eq rfl rfl rfl
  exact ⟨State.fld_setFld_fits _ _ _ _ _ _ (by decide) st.isLt, htod.setFld _ _ (.of_mem hl ..)⟩

end

/-- Settles O42: each command of the host links, the transport, the events and the time of day is one explicit state, whose port and registers are read
off. -/
theorem hostLinksAndTime : Obligations.HostLinksAndTime := by
  unfold Obligations.HostLinksAndTime
  refine ⟨fun s p hmay hup => ?_, fun s p hup => ?_, fun s p f dest udp k hup hok hp hown hudp hlen htype => ?_, fun s p f hup hok => ?_,
    fun s p k hw hring hs => ?_, fun s p k hw hring => ?_, fun s p k h => ?_, fun s p k hw hpeer hnak => ?_, fun s p e xs hk hs hdue hup hr => ?_,
    fun s p k ha hs hdue hup => ?_, fun s p hp hsend hs hq => ?_, fun s e xs h => ?_, fun s hb ht => ?_, fun s => ?_, fun s p st he hp hup => ?_,
    fun s p st v he hp hup => ?_⟩
  · exact ⟨_, congrArg Host.Outcome.next (hostLinkRise_of_may hmay hup), linkRise_shows ..⟩
  · exact ⟨_, congrArg Host.Outcome.next (hostLinkFall_of_up hup), linkFall_shows ..⟩
  · refine ⟨_, execHostFrameRx_ctp hup hok hp hown hudp hlen htype, by rw [State.hp_modHost, hp_frameCounted], ?_, (memFrame_frameCounted s p f).modHost p _⟩
    rw [rd_modHost, frameCounted]
    simp (disch := decide)
  · have hframe := (memFrame_frameCounted s p f).mono (l' := [{ reg := .HST_FEC_CORR, idx := [p.val] }, { reg := .HST_FEC_UNCORR, idx := [p.val] },
      { reg := .HST_RX_DROP, idx := [p.val] }]) fun x hx => List.mem_append_left [_] hx
    refine ⟨_, execHostFrameRx_dropped hup hok, rfl, ?_, hframe.count _ (.of_mem_index (.tail _ (.tail _ (.head _))))⟩
    rw [State.rd_count_same, rd_frameCounted _ _ _ (by decide)]
  · obtain ⟨hsession, hpeer, hpsn, hlimit, hjobs, htags, hunits, hframe⟩ := connectOpen_shows (s.modHost p (takenPort k)) p k
    exact ⟨_, execConnect_opened hw hring hs, hsession, hpeer, hpsn, hlimit, hjobs, htags, hunits,
      ((memFrame.refl _ s).modHost p _).trans hframe⟩
  · obtain ⟨hsession, hflag, hpeer, hjobs, hframe⟩ := connectRefused_shows (s.modHost p (takenPort k)) p k
    rw [State.hp_modHost] at hpeer hjobs
    exact ⟨_, execConnect_refused hw hring, hsession, hflag, hpeer, hjobs, ((memFrame.refl _ s).modHost p _).trans hframe⟩
  · exact execDisconnect_shows h
  · refine ⟨_, execAck_taken hw hpeer hnak, ?_⟩
    rw [State.hp_modHost]
    exact ⟨rfl, rfl, rfl, memFrame_modHost s p _⟩
  · exact execCtpRto_shows hk hs hdue hup hr
  · exact execCtpAckTimer_shows ha hs hdue hup
  · refine ⟨_, execEventPacketSend_of_waiting hp hsend hs hq, rfl, ?_, (memFrame.refl [] s).of_eq rfl rfl rfl⟩
    rw [eventsQueued, State.hp_modHost]
    rfl
  · obtain ⟨hbeat, hdata, hframe⟩ := recordTaken_shows s e xs
    exact ⟨_, congrArg Host.Outcome.next (evtTake_of_record h), rfl, rfl, hbeat, hdata, hframe⟩
  · exact ⟨_, rfl, todLatch_shows hb ht⟩
  · exact ⟨_, rfl, todStep_shows s⟩
  · obtain ⟨hstate, hframe⟩ := ptpStamped_shows s st (.head _)
    exact ⟨_, execPtpMessage_at_port he hp hup none st, rfl, hstate, hframe⟩
  · obtain ⟨-, hframe⟩ := ptpStamped_shows (l := [F.HST_PTP_STATUS_STATE.part [], { reg := .HST_TOD_ADJ, idx := [] }]) s st (.head _)
    exact ⟨_, execPtpMessage_at_port he hp hup (some v) st, rfl, State.rd_wr_same .., hframe.wr _ _ (.of_mem (.tail _ (.head _)) ..)⟩

end Sys2Proof.Machine

namespace Sys2Proof.Machine

/-! ## Discovery and topologies (O40) -/

section
variable {l : List Part} {s t u : State} {p : Fin 4}

/-! ### Maintenance packets wait at the ports -/

/-- From `s` to `t` only the ports of the router changed. -/
def PortsOnly (s t : State) : Prop := ∃ x, t = { s with ktl := { s.ktl with ports := x } }

theorem PortsOnly.refl (s : State) : PortsOnly s s := ⟨s.ktl.ports, rfl⟩

theorem PortsOnly.trans (h : PortsOnly s t) (h' : PortsOnly t u) : PortsOnly s u := by
  obtain ⟨x, rfl⟩ := h
  obtain ⟨y, rfl⟩ := h'
  exact ⟨y, rfl⟩

theorem PortsOnly.maintSend (h : PortsOnly s t) (p : Nat) (m : MaintMsg) : PortsOnly s (maintSend t p m) := by
  unfold Machine.maintSend
  split
  · refine h.trans ?_
    unfold State.modPort
    split
    · exact ⟨_, rfl⟩
    · exact .refl t
  · exact h

theorem PortsOnly.maintFlood (h : PortsOnly s t) (but : Option Nat) (m : MaintMsg) : PortsOnly s (maintFlood t but m) := by
  unfold Machine.maintFlood
  refine List.foldlRecOn (motive := PortsOnly s) _ _ h fun u hu p _ => ?_
  split
  · exact hu
  · exact hu.maintSend p m

theorem PortsOnly.frame (h : PortsOnly s t) : memFrame l s t := by
  obtain ⟨x, rfl⟩ := h
  exact (memFrame.refl l s).of_eq rfl rfl rfl

/-- What lies outside the ports reads as before. -/
theorem PortsOnly.keep (h : PortsOnly s t) {α : Type} (f : State → α) (hf : ∀ x, f { s with ktl := { s.ktl with ports := x } } = f s) : f t = f s := by
  obtain ⟨x, rfl⟩ := h
  exact hf x

theorem PortsOnly.fld (h : PortsOnly s t) (f : Field) (i j k m : Nat) : t.fld f i j k m = s.fld f i j k m := h.keep (·.fld f i j k m) fun _ => rfl
theorem PortsOnly.flag (h : PortsOnly s t) (f : Field) (i j k m : Nat) : t.flag f i j k m = s.flag f i j k m := h.keep (·.flag f i j k m) fun _ => rfl

/-! ### Discovery -/

/-- The device has become the root of a discovery. -/
def discovering (s : State) : State :=
  modKtl (((s.setFld F.KTL_STATUS_STATE 1).setFlag F.KTL_STATUS_ROOT true).setFld F.KTL_ROOT_HOPS 0) fun k => { k with parent := 7, reports := [] }

theorem discover_of_root (hroot : s.flag F.KTL_CFG_ROOT_EN = true) (ha : chnAligned s = true)
    (hid : s.flag F.KTL_ID_VALID = false ∨ s.flag F.KTL_STATUS_ROOT = true) : discover s = maintFlood (discovering s) none (.disc 0) := by
  have hgo : ¬((!s.flag F.KTL_CFG_ROOT_EN) = true ∨ (!chnAligned s) = true ∨ s.flag F.KTL_ID_VALID = true ∧ (!s.flag F.KTL_STATUS_ROOT) = true) := by
    rw [hroot, ha]
    rcases hid with h | h <;> simp [h]
  unfold discover
  rw [if_neg hgo]
  rfl

/-- The registers of a discovery. -/
def discoveryParts : List Part := [F.KTL_STATUS_STATE.part [], F.KTL_STATUS_ROOT.part [], F.KTL_ROOT_HOPS.part []]

theorem discover_shows (s : State) : ktlMember (maintFlood (discovering s) none (.disc 0)) = 1 ∧
    (maintFlood (discovering s) none (.disc 0)).flag F.KTL_STATUS_ROOT = true ∧ (maintFlood (discovering s) none (.disc 0)).fld F.KTL_ROOT_HOPS = 0 ∧
    (maintFlood (discovering s) none (.disc 0)).ktl.reports = [] ∧ memFrame discoveryParts s (maintFlood (discovering s) none (.disc 0)) := by
  have h := (PortsOnly.refl (discovering s)).maintFlood none (.disc 0)
  refine ⟨?_, ?_, ?_, ?_, ?_⟩
  · rw [ktlMember, h.fld, discovering]
    simp (disch := decide)
  · rw [h.flag, discovering]
    simp (disch := decide)
  · rw [h.fld, discovering]
    simp (disch := decide)
  · rw [h.keep (·.ktl.reports) fun _ => rfl]
    rfl
  · have hd : memFrame discoveryParts s (discovering s) :=
      ((((memFrame.refl _ s).setFld _ _ (.of_mem (.head _) ..)).setFlag _ _ (.of_mem (.tail _ (.head _)) ..)).setFld _ _
        (.of_mem (.tail _ (.tail _ (.head _))) ..)).modKtl _
    exact hd.trans h.frame

/-- A device that follows a parent in a discovery. -/
def followingRoot (s : State) (p : Fin 4) (h : Nat) : State :=
  modKtl (((s.setFld F.KTL_STATUS_STATE 1).setFld F.KTL_ROOT_HOPS h).setFlag F.KTL_STATUS_ROOT false) fun k => { k with parent := p.val }

theorem discTake_idle (ha : chnAligned s = true) (hm : ktlMember s ≠ 1) (hops : Nat) : discTake s p hops =
    maintSend (maintFlood (followingRoot s p (min (hops + 1) 255)) (some p.val) (.disc (min (hops + 1) 255))) p
      (.report (ownReport (maintFlood (followingRoot s p (min (hops + 1) 255)) (some p.val) (.disc (min (hops + 1) 255))))) := by
  unfold discTake
  rw [if_neg (by simp [ha, hm]), if_neg (by simp [hm])]
  dsimp only
  rw [if_pos (by simp [hm])]
  rfl

theorem discTake_shows (s : State) (p : Fin 4) {h : Nat} (hh : h ≤ 255) (hu : PortsOnly (followingRoot s p h) u) : ktlMember u = 1 ∧
    u.fld F.KTL_ROOT_HOPS = h ∧ u.flag F.KTL_STATUS_ROOT = false ∧ u.ktl.parent = p.val ∧ memFrame discoveryParts s u := by
  refine ⟨?_, ?_, ?_, ?_, ?_⟩
  · rw [ktlMember, hu.fld, followingRoot]
    simp (disch := decide)
  · rw [hu.fld, followingRoot, fld_modKtl, State.fld_setFlag_apart _ _ _ _ _ _ _ _ _ _ _ _ (by decide)]
    exact State.fld_setFld_fits _ _ _ _ _ _ (by decide) (Nat.lt_succ_of_le hh)
  · rw [hu.flag, followingRoot]
    simp (disch := decide)
  · rw [hu.keep (·.ktl.parent) fun _ => rfl]
    rfl
  · have hd : memFrame discoveryParts s (followingRoot s p h) :=
      ((((memFrame.refl _ s).setFld _ _ (.of_mem (.head _) ..)).setFld _ _ (.of_mem (.tail _ (.tail _ (.head _))) ..)).setFlag _ _
        (.of_mem (.tail _ (.head _)) ..)).modKtl _
    exact hd.trans hu.frame

/-! ### Messages that leave the receiver -/

/-- From `s` to `t` at most messages of the maintenance channel left the receiver. -/
def MaintTaken (s t : State) : Prop := ∃ x, t = { s with ktl := { s.ktl with inMaint := x } }

theorem maintTaken_only (s : State) (p : Fin 4) (m : MaintMsg) : MaintTaken s (maintTaken s p m) := ⟨_, rfl⟩

theorem MaintTaken.trans (h : MaintTaken s t) (h' : MaintTaken t u) : MaintTaken s u := by
  obtain ⟨x, rfl⟩ := h
  obtain ⟨y, rfl⟩ := h'
  exact ⟨y, rfl⟩

theorem maintTaken_reports (s : State) (p : Fin 4) (rs : List DiscReport) :
    MaintTaken s (rs.foldl (fun s r => maintTaken s p (.report r)) s) :=
  List.foldlRecOn (motive := MaintTaken s) rs _ ⟨s.ktl.inMaint, rfl⟩ fun _ hu r _ => hu.trans (maintTaken_only _ p (.report r))

theorem MaintTaken.frame (h : MaintTaken s t) : memFrame l s t := by
  obtain ⟨x, rfl⟩ := h
  exact (memFrame.refl l s).of_eq rfl rfl rfl

theorem MaintTaken.keep (h : MaintTaken s t) {α : Type} (f : State → α) (hf : ∀ x, f { s with ktl := { s.ktl with inMaint := x } } = f s) : f t = f s := by
  obtain ⟨x, rfl⟩ := h
  exact hf x

theorem reportTake_of_root (hroot : s.flag F.KTL_STATUS_ROOT = true) (rs : List DiscReport) :
    reportTake s rs false = modKtl s fun k => { k with reports := k.reports.filter (fun r => !rs.any (fun x => x.uid = r.uid)) ++ rs } := by
  unfold reportTake
  rw [if_pos hroot]
  dsimp only
  exact if_neg (by simp)

/-! ### Topologies -/

theorem idRefused_shows (s : State) (tp : Topology) : (idRefused s tp).ktl = s.ktl ∧ memFrame [F.KTL_STATUS_ID_REFUSED.part []] s (idRefused s tp) := by
  have hset : memFrame [F.KTL_STATUS_ID_REFUSED.part []] s (s.setFlag F.KTL_STATUS_ID_REFUSED true) :=
    (memFrame.refl _ s).setFlag _ _ (.of_mem (.head _) ..)
  unfold idRefused
  split
  · split
    · exact ⟨rfl, .refl _ s⟩
    · exact ⟨rfl, hset⟩
  · split
    · exact ⟨rfl, hset⟩
    · exact ⟨rfl, .refl _ s⟩
  · exact ⟨rfl, .refl _ s⟩

theorem topoFlood_shows (s : State) (tp : Topology) : (∃ due, (topoFlood s tp).ktl.shadow = some (tp, due)) ∧ (topoFlood s tp).ktl.topo = s.ktl.topo ∧
    memFrame l s (topoFlood s tp) := by
  have h := (PortsOnly.refl (topoHold s tp)).maintFlood none (.topo tp)
  refine ⟨⟨_, (h.keep (·.ktl.shadow) fun _ => rfl).trans rfl⟩, (h.keep (·.ktl.topo) fun _ => rfl).trans rfl, ?_⟩
  exact ((memFrame.refl l s).modKtl _).trans h.frame

theorem topoTake_new {tp : Topology} (ha : chnAligned s = true) (hne : s.ktl.topo ≠ tp) (hsh : s.ktl.shadow.any (fun x => decide (x.1 = tp)) = false) :
    topoTake s p tp = idRefused (maintFlood (topoHold s tp) (some p.val) (.topo tp)) tp := by
  unfold topoTake
  rw [if_neg (by simp [ha, hne, hsh])]

theorem topoTake_shows {tp : Topology} (ha : chnAligned s = true) (hne : s.ktl.topo ≠ tp) (hsh : s.ktl.shadow.any (fun x => decide (x.1 = tp)) = false)
    (hb : s.beat ≤ tp.commit) : (topoTake s p tp).ktl.shadow = some (tp, s.now + (tp.commit - s.beat)) ∧ (topoTake s p tp).ktl.topo = s.ktl.topo ∧
      memFrame [F.KTL_STATUS_ID_REFUSED.part []] s (topoTake s p tp) := by
  rw [topoTake_new ha hne hsh]
  have h := (PortsOnly.refl (topoHold s tp)).maintFlood (some p.val) (.topo tp)
  obtain ⟨hktl, hframe⟩ := idRefused_shows (maintFlood (topoHold s tp) (some p.val) (.topo tp)) tp
  have hhold : (topoHold s tp).ktl.shadow = some (tp, s.now + (tp.commit - s.beat)) := by
    unfold topoHold
    rw [ktl_modKtl, if_pos hb]
  refine ⟨?_, ?_, ?_⟩
  · rw [hktl, h.keep (·.ktl.shadow) fun _ => rfl, hhold]
  · rw [hktl, h.keep (·.ktl.topo) fun _ => rfl]
    rfl
  · exact (((memFrame.refl _ s).modKtl _).trans h.frame).trans hframe

/-! ### Joining -/

theorem joinAsk_shows (hm : ktlMember s ≠ 3) : ktlMember (joinAsk s) = 2 ∧ memFrame [F.KTL_STATUS_STATE.part []] s (joinAsk s) := by
  unfold joinAsk
  rw [if_neg hm]
  have hset : memFrame [F.KTL_STATUS_STATE.part []] s (modKtl (s.setFld F.KTL_STATUS_STATE 2) fun k => { k with joinWanted := true }) :=
    ((memFrame.refl _ s).setFld _ _ (.of_mem (.head _) ..)).modKtl _
  refine ⟨?_, hset.joinSend⟩
  rw [ktlMember, ((memFrame.refl [] _).joinSend).1.fld_of_reg (by simp), fld_modKtl]
  exact State.fld_setFld_fits _ _ _ _ _ _ (by decide) (by decide)

theorem joinTake_relayed {q : Fin 4} (hroot : s.flag F.KTL_STATUS_ROOT = false) (hp : s.ktl.parent = q.val) (hup : s.ktlUp q = true) (uid : Nat)
    (req : Option Nat) : joinTake s p uid req = s.modPort q fun x => { x with maint := x.maint ++ [.maint (.join uid req)] } := by
  unfold joinTake
  rw [hroot, if_pos (by decide), hp]
  exact if_pos hup

/-- A joiner whose ID is free is a member of the topology that the root floods. -/
theorem joinTake_of_free {uid r : Nat} (hroot : s.flag F.KTL_STATUS_ROOT = true) (hfree : (nextTopo s).members.find? (fun m => m.id = r) = none) :
    ∃ tp, joinTake s p uid (some r) = topoFlood s tp ∧ ∃ m ∈ tp.members, m.uid = uid ∧ m.id = r := by
  have hid : joinId s uid (some r) = some r := by
    unfold joinId
    dsimp only
    rw [hfree]
  unfold joinTake
  rw [hroot, if_neg (by decide), hid]
  exact ⟨_, rfl, _, List.mem_append_right _ (.head _), rfl, rfl⟩

theorem joinTake_free_shows {uid r : Nat} (hroot : s.flag F.KTL_STATUS_ROOT = true) (hfree : (nextTopo s).members.find? (fun m => m.id = r) = none) :
    (joinTake s p uid (some r)).ktl.shadow.any (fun x => x.1.members.any (fun m => decide (m.uid = uid ∧ m.id = r))) = true ∧
      (joinTake s p uid (some r)).ktl.topo = s.ktl.topo ∧ memFrame [] s (joinTake s p uid (some r)) := by
  obtain ⟨tp, heq, m, hm, huid, hid⟩ := joinTake_of_free (p := p) (uid := uid) hroot hfree
  obtain ⟨⟨due, hshadow⟩, htopo, hframe⟩ := topoFlood_shows (l := []) s tp
  rw [heq]
  refine ⟨?_, htopo, hframe⟩
  rw [hshadow, Option.any_some, List.any_eq_true]
  exact ⟨m, hm, decide_eq_true ⟨huid, hid⟩⟩

end
end Sys2Proof.Machine

namespace Sys2Proof.Machine

/-! ## Routes, unreachable devices and packets (O40) -/

section
variable {l : List Part} {s t u : State} {p : Fin 4}

/-! ### What a pass over the entries reaches -/

/-- A pass keeps `I`; at `d` it establishes `P`, which every step then keeps. -/
theorem foldl_reaches {α : Type} {f : State → α → State} {I P : State → Prop} (hI : ∀ s a, I s → I (f s a)) (hP : ∀ s a, I s → P s → P (f s a))
    {d : α} (hd : ∀ s, I s → P (f s d)) {xs : List α} (hm : d ∈ xs) (hs : I s) : P (xs.foldl f s) := by
  have hkeep : ∀ (ys : List α) (s : State), I s → P s → P (ys.foldl f s) := fun ys => by
    induction ys with
    | nil => exact fun _ _ h => h
    | cons y ys ih => exact fun s hi hp => ih _ (hI s y hi) (hP s y hi hp)
  induction xs generalizing s with
  | nil => exact absurd hm (List.not_mem_nil)
  | cons x xs ih =>
    rcases List.mem_cons.mp hm with rfl | hm
    · exact hkeep xs _ (hI s _ hs) (hd s hs)
    · exact ih hm (hI s x hs)

/-! ### Failover and return -/

/-- One flag of a route entry is set under a condition. -/
def routeFlag (c : Prop) [Decidable c] (f : Field) (b : Bool) (d : Nat) (s : State) : State := if c then s.setFlag f b d else s

section
variable {c : Prop} [Decidable c] {f g : Field} {b : Bool} {d : Nat}

theorem fld_routeFlag (h : f.apart g = true) (x : Nat) : (routeFlag c f b d s).fld g x = s.fld g x := by
  unfold routeFlag
  split
  · exact State.fld_setFlag_apart _ _ _ _ _ _ _ _ _ _ _ _ h
  · rfl

theorem flag_routeFlag_apart (h : f.apart g = true) (x : Nat) : (routeFlag c f b d s).flag g x = s.flag g x := by
  rw [State.flag, fld_routeFlag h, State.flag]

/-- A flag that has the value keeps it. -/
theorem flag_routeFlag_keep (hw : f.lo + f.width ≤ 32 ∧ f.width = 1) {x : Nat} (hs : s.flag f x = b) : (routeFlag c f b d s).flag f x = b := by
  unfold routeFlag
  split
  · by_cases hx : x = d
    · rw [hx, State.flag_setFlag_bit _ _ _ _ _ _ _ hw.1 hw.2]
    · rw [State.flag_setFlag_index _ _ _ _ (.inl hx), hs]
  · exact hs

theorem flag_routeFlag_set (hw : f.lo + f.width ≤ 32 ∧ f.width = 1) (hc : c ∨ s.flag f d = b) : (routeFlag c f b d s).flag f d = b := by
  unfold routeFlag
  split
  · exact State.flag_setFlag_bit _ _ _ _ _ _ _ hw.1 hw.2
  · next h => exact hc.resolve_left h

theorem memFrame.routeFlag (h : memFrame [{ reg := .KTL_RT, idx := [] }] s t) (hf : f.reg = .KTL_RT ∧ f.lo + f.width ≤ 32) :
    memFrame [{ reg := .KTL_RT, idx := [] }] s (routeFlag c f b d t) :=
  .ite (h.setFlag _ _ (.of_mem_global (by rw [hf.1]; exact .head _) hf.2 ..)) h

end

/-- One entry of a port that is down. -/
def failStep (p : Nat) (s : State) (d : Nat) : State :=
  let s := routeFlag (s.fld F.KTL_RT_VPRI d = p) F.KTL_RT_V_ALT true d s
  routeFlag (s.fld F.KTL_RT_PPRI d = p) F.KTL_RT_P_ALT true d s

theorem routeFailover_of_down (h : s.ktlUp p = false) : routeFailover s p.val = (List.range 1024).foldl (failStep p.val) s := by
  unfold routeFailover
  rw [h, if_neg Bool.false_ne_true]
  rfl

theorem failStep_fld (q : Nat) (s : State) (d : Nat) {g : Field} (hv : F.KTL_RT_V_ALT.apart g = true) (hp : F.KTL_RT_P_ALT.apart g = true) (x : Nat) :
    (failStep q s d).fld g x = s.fld g x := by rw [failStep, fld_routeFlag hp, fld_routeFlag hv]

theorem routeFailover_shows (h : s.ktlUp p = false) : (∀ d : Fin 1024, (s.fld F.KTL_RT_VPRI d = p.val → (routeFailover s p.val).flag F.KTL_RT_V_ALT d = true) ∧
    (s.fld F.KTL_RT_PPRI d = p.val → (routeFailover s p.val).flag F.KTL_RT_P_ALT d = true)) ∧
    memFrame [{ reg := .KTL_RT, idx := [] }] s (routeFailover s p.val) := by
  rw [routeFailover_of_down h]
  refine ⟨fun d => ⟨fun hd => ?_, fun hd => ?_⟩, ?_⟩
  · refine foldl_reaches (I := fun s => s.fld F.KTL_RT_VPRI d = p.val) (P := fun s => s.flag F.KTL_RT_V_ALT d = true)
      (fun s x hs => (failStep_fld _ s x (by decide) (by decide) _).trans hs) (fun s x _ hs => ?_) (fun s hs => ?_) (List.mem_range.mpr d.isLt) hd
    · exact (flag_routeFlag_apart (by decide) _).trans (flag_routeFlag_keep (by decide) hs)
    · exact (flag_routeFlag_apart (by decide) _).trans (flag_routeFlag_set (by decide) (.inl hs))
  · refine foldl_reaches (I := fun s => s.fld F.KTL_RT_PPRI d = p.val) (P := fun s => s.flag F.KTL_RT_P_ALT d = true)
      (fun s x hs => (failStep_fld _ s x (by decide) (by decide) _).trans hs) (fun s x _ hs => ?_) (fun s hs => ?_) (List.mem_range.mpr d.isLt) hd
    · exact flag_routeFlag_keep (by decide) ((flag_routeFlag_apart (by decide) _).trans hs)
    · exact flag_routeFlag_set (by decide) (.inl ((fld_routeFlag (by decide) _).trans hs))
  · exact (memFrame.refl _ s).foldl _ fun _ _ h => (h.routeFlag (by decide)).routeFlag (by decide)

/-- One entry of a port that carries traffic again. -/
def returnStep (p : Nat) (s : State) (d : Nat) : State :=
  let s := routeFlag (s.fld F.KTL_RT_VPRI d = p ∧ s.flag F.KTL_RT_V_ALT d = true) F.KTL_RT_V_ALT false d s
  routeFlag (s.fld F.KTL_RT_PPRI d = p ∧ s.flag F.KTL_RT_P_ALT d = true) F.KTL_RT_P_ALT false d s

theorem routeRestore_of_steady (hc : s.ktlCarries p = true) (hw : 250000 ≤ s.now - (s.port p).upSince) :
    routeRestore s p = (List.range 1024).foldl (returnStep p.val) s := by
  unfold routeRestore
  rw [if_pos ⟨hc, hw⟩]
  rfl

theorem returnStep_fld (q : Nat) (s : State) (d : Nat) {g : Field} (hv : F.KTL_RT_V_ALT.apart g = true) (hp : F.KTL_RT_P_ALT.apart g = true) (x : Nat) :
    (returnStep q s d).fld g x = s.fld g x := by rw [returnStep, fld_routeFlag hp, fld_routeFlag hv]

theorem routeRestore_shows (hc : s.ktlCarries p = true) (hw : 250000 ≤ s.now - (s.port p).upSince) :
    (∀ d : Fin 1024, (s.fld F.KTL_RT_VPRI d = p.val → (routeRestore s p).flag F.KTL_RT_V_ALT d = false) ∧
      (s.fld F.KTL_RT_PPRI d = p.val → (routeRestore s p).flag F.KTL_RT_P_ALT d = false)) ∧
    memFrame [{ reg := .KTL_RT, idx := [] }] s (routeRestore s p) := by
  rw [routeRestore_of_steady hc hw]
  have hset : ∀ {c : Prop} (b : Bool), c → c ∧ b = true ∨ b = false := fun b hc => by cases b <;> simp [hc]
  refine ⟨fun d => ⟨fun hd => ?_, fun hd => ?_⟩, ?_⟩
  · refine foldl_reaches (I := fun s => s.fld F.KTL_RT_VPRI d = p.val) (P := fun s => s.flag F.KTL_RT_V_ALT d = false)
      (fun s x hs => (returnStep_fld _ s x (by decide) (by decide) _).trans hs) (fun s x _ hs => ?_) (fun s hs => ?_) (List.mem_range.mpr d.isLt) hd
    · exact (flag_routeFlag_apart (by decide) _).trans (flag_routeFlag_keep (by decide) hs)
    · exact (flag_routeFlag_apart (by decide) _).trans (flag_routeFlag_set (by decide) (hset _ hs))
  · refine foldl_reaches (I := fun s => s.fld F.KTL_RT_PPRI d = p.val) (P := fun s => s.flag F.KTL_RT_P_ALT d = false)
      (fun s x hs => (returnStep_fld _ s x (by decide) (by decide) _).trans hs) (fun s x _ hs => ?_) (fun s hs => ?_) (List.mem_range.mpr d.isLt) hd
    · exact flag_routeFlag_keep (by decide) ((flag_routeFlag_apart (by decide) _).trans hs)
    · exact flag_routeFlag_set (by decide) (hset _ ((fld_routeFlag (by decide) _).trans hs))
  · exact (memFrame.refl _ s).foldl _ fun _ _ h => (h.routeFlag (by decide)).routeFlag (by decide)

/-! ### Unreachable devices -/

/-- An import is held, or is to be, without an end. -/
def heldOpen (s : State) (i : Fin 256) : Bool := s.xbar.holds.any fun h => decide (h.input = .imported i) && h.until_.isNone

theorem holdPlan_eq (s : State) (input : SeqInput) (onset : Nat) : ∃ hs, holdPlan s input onset = modXbar s fun x => { x with holds := x.holds ++ hs } := by
  unfold holdPlan
  split
  · exact ⟨[], by simp [modXbar]⟩
  · exact ⟨_, rfl⟩

theorem heldOpen_holdPlan (s : State) (i : Fin 256) (onset : Nat) : heldOpen (holdPlan s (.imported i) onset) i = true := by
  unfold holdPlan
  split
  · next h =>
    rw [heldOpen, List.any_eq_true]
    obtain ⟨x, hx, he⟩ := List.any_eq_true.mp h
    exact ⟨x, hx, by simpa using he⟩
  · show List.any (_ ++ _) _ = true
    rw [List.any_append, Bool.or_eq_true]
    exact .inr (by simp)

theorem heldOpen_mono (s : State) (input : SeqInput) (onset : Nat) {i : Fin 256} (h : heldOpen s i = true) : heldOpen (holdPlan s input onset) i = true := by
  obtain ⟨hs, heq⟩ := holdPlan_eq s input onset
  rw [heq]
  show List.any (_ ++ _) _ = true
  rw [List.any_append, Bool.or_eq_true]
  exact .inl h

/-- One import of a device. -/
def lostStep (dev : Nat) (s : State) (i : Fin 256) : State :=
  if s.flag F.VRD_IMPORT_VALID i ∧ s.fld F.VRD_IMPORT_SRC_DEV i = dev then holdPlan s (.imported i) (s.now + 1) else s

theorem lostStep_frame (dev : Nat) (s : State) (i : Fin 256) : memFrame l s (lostStep dev s i) := by
  obtain ⟨hs, heq⟩ := holdPlan_eq s (.imported i) (s.now + 1)
  refine .ite ?_ (.refl l s)
  rw [heq]
  exact (memFrame.refl l s).modXbar _

theorem heldOpen_lostStep (dev : Nat) (s : State) (j : Fin 256) {i : Fin 256} (h : heldOpen s i = true) : heldOpen (lostStep dev s j) i = true := by
  unfold lostStep
  split
  · exact heldOpen_mono s _ _ h
  · exact h

theorem importsLost_shows (s : State) (dev : Nat) : (∀ i : Fin 256, s.flag F.VRD_IMPORT_VALID i = true → s.fld F.VRD_IMPORT_SRC_DEV i = dev →
    heldOpen (importsLost s dev) i = true) ∧ memFrame l s (importsLost s dev) := by
  have heq : importsLost s dev = (List.finRange 256).foldl (lostStep dev) s := rfl
  rw [heq]
  refine ⟨fun i hv hd => ?_, (memFrame.refl l s).foldl _ fun i _ h => h.trans (lostStep_frame dev _ i)⟩
  refine foldl_reaches (I := fun s => s.flag F.VRD_IMPORT_VALID i = true ∧ s.fld F.VRD_IMPORT_SRC_DEV i = dev) (P := fun s => heldOpen s i = true)
    (fun s x hs => ?_) (fun s x _ hs => heldOpen_lostStep dev s x hs) (fun s hs => ?_) (List.mem_finRange i) ⟨hv, hd⟩
  · have hframe := (lostStep_frame (l := []) dev s x).1
    exact ⟨(hframe.flag_of_reg (by simp) ..).trans hs.1, (hframe.fld_of_reg (by simp) ..).trans hs.2⟩
  · rw [lostStep, if_pos hs]
    exact heldOpen_holdPlan s i _

/-- The device takes over as root where the device that is lost was it. -/
def rootTaken (s : State) (d : Nat) : State :=
  if d = s.fld F.KTL_ROOT_ROOT_ID ∧ s.flag F.KTL_ID_VALID ∧ s.flag F.KTL_CFG_ROOT_EN then
    (s.setFlag F.KTL_STATUS_ROOT true).setFld F.KTL_ROOT_ROOT_ID s.ownId
  else s

/-- What a declaration moves. -/
def unreachParts (d : Nat) : List Part := [F.KTL_RT_UNREACH.part [d], F.KTL_STATUS_ROOT.part [], F.KTL_ROOT_ROOT_ID.part []]

theorem rootTaken_shows (s : State) (d : Nat) : (rootTaken s d).xbar = s.xbar ∧ (rootTaken s d).flag F.KTL_RT_UNREACH d = s.flag F.KTL_RT_UNREACH d ∧
    memFrame (unreachParts d) s (rootTaken s d) := by
  unfold rootTaken
  split
  · refine ⟨rfl, ?_, ((memFrame.refl _ s).setFlag _ _ (.of_mem (.tail _ (.head _)) ..)).setFld _ _ (.of_mem (.tail _ (.tail _ (.head _))) ..)⟩
    simp (disch := decide)
  · exact ⟨rfl, rfl, .refl _ s⟩

theorem unreachDeclare_eq (s : State) (d : Nat) : unreachDeclare s d = rootTaken (importsLost (s.setFlag F.KTL_RT_UNREACH true d) d) d := rfl

theorem unreachDeclare_shows (s : State) (d : Nat) : (unreachDeclare s d).flag F.KTL_RT_UNREACH d = true ∧
    (∀ i : Fin 256, s.flag F.VRD_IMPORT_VALID i = true → s.fld F.VRD_IMPORT_SRC_DEV i = d → heldOpen (unreachDeclare s d) i = true) ∧
    memFrame (unreachParts d) s (unreachDeclare s d) := by
  obtain ⟨hx, hflag, hframe⟩ := rootTaken_shows (importsLost (s.setFlag F.KTL_RT_UNREACH true d) d) d
  obtain ⟨hlost, hkeep⟩ := importsLost_shows (l := []) (s.setFlag F.KTL_RT_UNREACH true d) d
  rw [unreachDeclare_eq]
  refine ⟨?_, fun i hv hd => ?_, ?_⟩
  · rw [hflag, hkeep.1.flag_of_reg (by simp)]
    exact State.flag_setFlag_bit _ _ _ _ _ _ _ (by decide) rfl
  · rw [heldOpen, hx]
    refine hlost i ?_ ?_
    · rw [State.flag_setFlag_apart _ _ _ _ _ _ _ _ _ _ _ _ (by decide), hv]
    · rw [State.fld_setFlag_apart _ _ _ _ _ _ _ _ _ _ _ _ (by decide), hd]
  · exact (((memFrame.refl _ s).setFlag _ _ (.of_mem_index (.head _))).trans (hkeep.mono fun _ h => (List.not_mem_nil h).elim)).trans hframe

/-! ### Packets -/

/-- A packet has left its receiver. -/
def packetGone (s : State) (p : Fin 4) (k : KtlPacket) : State := modKtl s fun x => { x with inPackets := x.inPackets.erase (p.val, k) }

/-- A packet waits for the units of this device. -/
def packetKept (s : State) (k : KtlPacket) : State := modKtl s fun x => { x with inPackets := x.inPackets ++ [(4, k)] }

theorem fabricPacket_completion {k : KtlPacket} (hin : (p.val, k) ∈ s.ktl.inPackets) (hd : k.dest.toNat = s.ownId) (hk : k.kind = 4) :
    fabricPacket s p k = packetKept (packetGone s p k) k := by
  have hreq : k.request = false := by simp [KtlPacket.request, hk]
  have hd' : ¬k.dest.toNat ≠ (packetGone s p k).ownId := not_not.mpr hd
  unfold fabricPacket
  rw [if_neg (not_not.mpr hin)]
  dsimp only
  rw [← packetGone, if_neg hd', if_neg (by rw [hk]; decide), hreq, if_neg Bool.false_ne_true, if_pos hk]
  rfl

theorem fabricPacket_forward {k : KtlPacket} (hin : (p.val, k) ∈ s.ktl.inPackets) (hd : k.dest.toNat ≠ s.ownId) (hk : k.kind.toNat ≤ 6)
    (httl : 2 ≤ k.ttl.toNat) (hport : (packetPort s k.dest.toNat k.down).1 = 4) :
    fabricPacket s p k = packetKept (packetGone s p k) { k with ttl := k.ttl - 1 } := by
  have hport' : (packetPort (packetGone s p k) k.dest.toNat k.down).1 = 4 := hport
  have hd' : k.dest.toNat ≠ (packetGone s p k).ownId := hd
  have hroute : packetRoute (packetGone s p k) { k with ttl := k.ttl - 1 } = (packetKept (packetGone s p k) { k with ttl := k.ttl - 1 }, true) := by
    unfold packetRoute
    dsimp only
    rw [hport', if_pos rfl]
    rfl
  unfold fabricPacket
  rw [if_neg (not_not.mpr hin)]
  dsimp only
  rw [← packetGone, if_pos hd']
  unfold packetForward
  rw [if_neg (by omega), if_neg (by omega), hroute]
  rfl

end
end Sys2Proof.Machine

namespace Sys2Proof.Machine

/-! ## The commit of a topology (O40) -/

section
variable {l : List Part} {s t u : State} {p : Fin 4} {tp : Topology} {me : TopoMember}

/-! ### The device takes its place -/

/-- A commit that comes late is reported. -/
def commitLate (s : State) (due : Nat) : State :=
  if due < s.now then (s.setFlag F.KTL_STATUS_SOLDER_LATE true).raise Src.KTL_SOLDER Scope.device 0 else s

/-- The topology is in force and the device has its name in it. -/
def commitNamed (s : State) (tp : Topology) (me : TopoMember) : State :=
  ((((((modKtl s fun k => { k with topo := tp, shadow := none, shadowMarks := [] }).setFld F.KTL_ID_ID me.id).setFlag F.KTL_ID_VALID true).setFld
    F.KTL_ROOT_ROOT_ID tp.root).setFld F.KTL_ROOT_HOPS me.hops).setFlag F.KTL_STATUS_ROOT (tp.root == me.id)).setFld F.KTL_STATUS_STATE 3

/-- A joiner shows that it is done. -/
def commitJoined (s : State) (joining : Prop) [Decidable joining] : State := if joining then s.setFlag F.KTL_STATUS_JOIN_DONE true else s

/-- The digest is shown, and one that is not expected reported. -/
def commitSeen (s : State) (tp : Topology) : State :=
  let s := s.wr .KTL_TOPO_SEEN (BitVec.ofNat 32 tp.digest)
  let bad := decide (s.rd .KTL_TOPO_EXPECT ≠ 0) && decide ((s.rd .KTL_TOPO_EXPECT).toNat ≠ tp.digest)
  let s := s.setFlag F.KTL_STATUS_TOPO_MISMATCH bad
  if bad then s.raise Src.KTL_TOPO Scope.device 0 else s

/-- The barriers start anew and the links that are down are counted. -/
def commitCleared (s : State) (tp : Topology) : State :=
  (barriersReset s).setFld F.KTL_LINKS_DOWN_COUNT (min (linksDown tp s.ktl.down) 2047)

/-- The state in which the device has its name. -/
def commitPlaced (s : State) (tp : Topology) (due : Nat) (me : TopoMember) : State :=
  commitJoined (commitNamed (commitLate s due) tp me) (ktlMember s = 2)

/-- The entries of a topology are in force. -/
def commitRouted (s : State) (tp : Topology) : State := (List.range 1024).foldl (fun s d => setRoute s tp d) s

theorem ktlCommit_due {due : Nat} (hs : s.ktl.shadow = some (tp, due)) (hd : due ≤ s.now) (hm : tp.members.find? (fun m => m.uid = ownUid s) = some me) :
    ktlCommit s = (List.range 4).foldl commitPort (commitCleared (commitSeen (commitRouted (commitPlaced s tp due me)
      (tp.without ((commitLate s due).ktl.down.filter (fun e => e ∉ (commitLate s due).ktl.shadowMarks)))) tp) tp) := by
  unfold ktlCommit
  rw [hs]
  refine (if_neg (Nat.not_lt.mpr hd)).trans ?_
  rw [hm]
  rfl

/-- What a commit may change of the registers. -/
def commitParts : List Part :=
  [F.KTL_PORT_STATUS_MAINT_ONLY.part [], F.KTL_LINKS_DOWN_COUNT.part [], F.VRD_EXPQ_MAX_DEPTH.part [], F.VRD_STATUS_EXP_DROP.part []] ++
    globalParts [.KTL_BAR_STATE, .KTL_ID, .KTL_ROOT, .KTL_STATUS, .KTL_RT, .KTL_TOPO_SEEN, .VRD_EXP_DROP]

theorem memFrame.setFld_commit (h : memFrame commitParts s t) (f : Field) (v : Nat) (i j k m : Nat)
    (hf : { reg := f.reg, idx := [] } ∈ commitParts ∧ f.lo + f.width ≤ 32) : memFrame commitParts s (t.setFld f v i j k m) :=
  h.setFld _ _ (.of_mem_global hf.1 hf.2 ..)

theorem memFrame.setFlag_commit (h : memFrame commitParts s t) (f : Field) (b : Bool) (i j k m : Nat)
    (hf : { reg := f.reg, idx := [] } ∈ commitParts ∧ f.lo + f.width ≤ 32) : memFrame commitParts s (t.setFlag f b i j k m) :=
  h.setFlag _ _ (.of_mem_global hf.1 hf.2 ..)

theorem memFrame_commitPlaced (s : State) (tp : Topology) (due : Nat) (me : TopoMember) : memFrame commitParts s (commitPlaced s tp due me) := by
  have hlate : memFrame commitParts s (commitLate s due) :=
    .ite (((memFrame.refl _ s).setFlag_commit _ _ _ _ _ _ (by decide)).raise ..) (.refl _ s)
  have hnamed : memFrame commitParts s (commitNamed (commitLate s due) tp me) :=
    ((((((hlate.modKtl _).setFld_commit _ _ _ _ _ _ (by decide)).setFlag_commit _ _ _ _ _ _ (by decide)).setFld_commit _ _ _ _ _ _ (by decide)).setFld_commit
      _ _ _ _ _ _ (by decide)).setFlag_commit _ _ _ _ _ _ (by decide)).setFld_commit _ _ _ _ _ _ (by decide)
  exact .ite (hnamed.setFlag_commit _ _ _ _ _ _ (by decide)) hnamed

theorem commitNamed_shows (s : State) (tp : Topology) {me : TopoMember} (hid : me.id < 1024) : (commitNamed s tp me).ktl.topo = tp ∧
    (commitNamed s tp me).ktl.shadow = none ∧ ktlMember (commitNamed s tp me) = 3 ∧ (commitNamed s tp me).ownId = me.id ∧
    (commitNamed s tp me).flag F.KTL_ID_VALID = true := by
  have hktl : (commitNamed s tp me).ktl = { s.ktl with topo := tp, shadow := none, shadowMarks := [] } := by
    simp only [commitNamed, State.setFld_ktl, State.setFlag_ktl, ktl_modKtl]
  refine ⟨by rw [hktl], by rw [hktl], State.fld_setFld_fits _ _ _ _ _ _ (by decide) (by decide), ?_, ?_⟩
  · rw [State.ownId, commitNamed]
    simp (disch := decide) only [State.fld_setFld_apart, State.fld_setFlag_apart]
    exact State.fld_setFld_fits _ _ _ _ _ _ (by decide) hid
  · rw [commitNamed]
    simp (disch := decide)

theorem commitPlaced_shows (s : State) (tp : Topology) (due : Nat) {me : TopoMember} (hid : me.id < 1024) : (commitPlaced s tp due me).ktl.topo = tp ∧
    (commitPlaced s tp due me).ktl.shadow = none ∧ ktlMember (commitPlaced s tp due me) = 3 ∧ (commitPlaced s tp due me).ownId = me.id ∧
    (commitPlaced s tp due me).flag F.KTL_ID_VALID = true := by
  obtain ⟨htopo, hshadow, hstate, hown, hvalid⟩ := commitNamed_shows (commitLate s due) tp hid
  unfold commitPlaced commitJoined
  split
  · refine ⟨by rw [State.setFlag_ktl, htopo], by rw [State.setFlag_ktl, hshadow], ?_, ?_, ?_⟩
    · rw [ktlMember, State.fld_setFlag_apart _ _ _ _ _ _ _ _ _ _ _ _ (by decide)]; exact hstate
    · rw [State.ownId, State.fld_setFlag_apart _ _ _ _ _ _ _ _ _ _ _ _ (by decide)]; exact hown
    · rw [State.flag_setFlag_apart _ _ _ _ _ _ _ _ _ _ _ _ (by decide)]; exact hvalid
  · exact ⟨htopo, hshadow, hstate, hown, hvalid⟩

/-! ### Routes -/

/-- The entry of the device itself: every way ends here. -/
def ownRoute : Word := BitVec.ofNat 32 (4 + 4 * 2 ^ 3 + 4 * 2 ^ 6 + 4 * 2 ^ 9 + 4 * 2 ^ 12)

theorem setRoute_own (s : State) (tp : Topology) : setRoute s tp s.ownId = s.wr .KTL_RT ownRoute s.ownId := by
  have hroute : tp.route s.ownId s.ownId = (4, 4, 4, 4, 4, some 0) := by
    unfold Topology.route
    rw [if_pos rfl]
  unfold setRoute
  rw [hroute]
  dsimp only
  rw [Option.isNone_some, Bool.and_false]
  refine congrArg (fun v => s.wr .KTL_RT v s.ownId) ?_
  decide

theorem setRoute_eq (s : State) (tp : Topology) (d : Nat) : ∃ v, setRoute s tp d = s.wr .KTL_RT v d := ⟨_, rfl⟩

theorem setRoute_ownId (s : State) (tp : Topology) (d : Nat) : (setRoute s tp d).ownId = s.ownId := by
  obtain ⟨v, hv⟩ := setRoute_eq s tp d
  rw [hv, State.ownId, State.fld_wr_apart _ _ _ _ _ _ _ _ _ _ _ _ (by decide), State.ownId]

theorem commitRouted_shows (s : State) (tp : Topology) (hid : s.ownId < 1024) : (commitRouted s tp).rd .KTL_RT s.ownId = ownRoute ∧
    (commitRouted s tp).ktl = s.ktl ∧ memFrame [{ reg := .KTL_RT, idx := [] }] s (commitRouted s tp) := by
  refine ⟨?_, ?_, ?_⟩
  · refine foldl_reaches (f := fun u d => setRoute u tp d) (I := fun u => u.ownId = s.ownId) (P := fun u => u.rd .KTL_RT s.ownId = ownRoute)
      (fun u d h => (setRoute_ownId u tp d).trans h) (fun u d hu h => ?_) (fun u hu => ?_) (List.mem_range.mpr hid) rfl
    · by_cases hd : d = s.ownId
      · rw [hd, ← hu, setRoute_own, State.rd_wr_same]
      · obtain ⟨v, hv⟩ := setRoute_eq u tp d
        rw [hv, State.rd_wr_index _ _ (.inl fun e => hd e.symm), h]
    · rw [← hu, setRoute_own, State.rd_wr_same]
  · refine List.foldlRecOn (motive := fun u : State => u.ktl = s.ktl) _ _ rfl fun u hu d _ => ?_
    obtain ⟨v, hv⟩ := setRoute_eq u tp d
    rw [hv, State.wr_ktl, hu]
  · refine (memFrame.refl _ s).foldl _ fun {u} d _ h => ?_
    obtain ⟨v, hv⟩ := setRoute_eq u tp d
    rw [hv]
    exact h.wr _ _ (.of_mem (.head _) ..)

/-! ### The digest, the barriers and the ports -/

theorem commitSeen_shows (s : State) (tp : Topology) : (commitSeen s tp).rd .KTL_TOPO_SEEN = BitVec.ofNat 32 tp.digest ∧
    (commitSeen s tp).ktl = s.ktl ∧ memFrame [{ reg := .KTL_TOPO_SEEN, idx := [] }, F.KTL_STATUS_TOPO_MISMATCH.part []] s (commitSeen s tp) := by
  have hset : ∀ b, memFrame [{ reg := .KTL_TOPO_SEEN, idx := [] }, F.KTL_STATUS_TOPO_MISMATCH.part []] s
      ((s.wr .KTL_TOPO_SEEN (BitVec.ofNat 32 tp.digest)).setFlag F.KTL_STATUS_TOPO_MISMATCH b) := fun b =>
    ((memFrame.refl _ s).wr _ _ (.of_mem (.head _) ..)).setFlag _ _ (.of_mem (.tail _ (.head _)) ..)
  unfold commitSeen
  dsimp only
  split
  · refine ⟨?_, ?_, (hset _).raise ..⟩
    · rw [State.rd_raise, State.rd_setFlag_apart _ _ _ _ _ _ _ _ _ _ _ _ (by decide), State.rd_wr_same]
    · rw [State.raise_ktl]; rfl
  · refine ⟨?_, rfl, hset _⟩
    rw [State.rd_setFlag_apart _ _ _ _ _ _ _ _ _ _ _ _ (by decide), State.rd_wr_same]

/-- The flag of the digest lies beside the state of the device. -/
theorem fld_state_of_mismatch (h : memFrame [{ reg := .KTL_TOPO_SEEN, idx := [] }, F.KTL_STATUS_TOPO_MISMATCH.part []] s t) :
    t.fld F.KTL_STATUS_STATE = s.fld F.KTL_STATUS_STATE :=
  h.1.fld_eq _ _ _ _ _ (by decide)

/-- The topologies of the router are as before. -/
def sameTopos (s t : State) : Prop := t.ktl.topo = s.ktl.topo ∧ t.ktl.shadow = s.ktl.shadow

theorem sameTopos.trans (h : sameTopos s t) (h' : sameTopos t u) : sameTopos s u := ⟨h'.1.trans h.1, h'.2.trans h.2⟩

theorem commitCleared_shows (s : State) (tp : Topology) : sameTopos s (commitCleared s tp) ∧
    memFrame [{ reg := .KTL_BAR_STATE, idx := [] }, F.KTL_LINKS_DOWN_COUNT.part []] s (commitCleared s tp) := by
  have hfold : ((List.range 256).foldl (fun s b => s.wr .KTL_BAR_STATE 0 b) s).ktl = s.ktl :=
    List.foldlRecOn (motive := fun u : State => u.ktl = s.ktl) _ _ rfl fun u hu b _ => hu
  have hreset : memFrame [{ reg := .KTL_BAR_STATE, idx := [] }, F.KTL_LINKS_DOWN_COUNT.part []] s (barriersReset s) :=
    ((memFrame.refl _ s).foldl _ fun _ _ h => h.wr _ _ (.of_mem (.head _) ..)).modKtl _
  refine ⟨⟨?_, ?_⟩, hreset.setFld _ _ (.of_mem (.tail _ (.head _)) ..)⟩
  · rw [commitCleared, State.setFld_ktl, barriersReset, ktl_modKtl, hfold]
  · rw [commitCleared, State.setFld_ktl, barriersReset, ktl_modKtl, hfold]

theorem noticeSend_topos (s : State) (p : Nat) (up : Bool) : sameTopos s (noticeSend s p up) := by
  have hex := ExpressOnly.expressEach (markLink s s.ownId p up) (carryingPorts (markLink s s.ownId p up))
    (noticeWord (markLink s s.ownId p up).ownId p up (((markLink s s.ownId p up).ktl.noticeSeq + 1) % 256))
  exact ⟨(hex.ktl_eq Fabric.topo fun _ _ _ => rfl).trans rfl, (hex.ktl_eq Fabric.shadow fun _ _ _ => rfl).trans rfl⟩

/-- What a port that takes up all traffic moves. -/
def commitPortParts : List Part := F.KTL_PORT_STATUS_MAINT_ONLY.part [] :: noticeParts

theorem commitPort_shows (s : State) (p : Nat) : sameTopos s (commitPort s p) ∧ memFrame commitPortParts s (commitPort s p) := by
  unfold commitPort
  split
  · obtain ⟨x, hx⟩ := (s.setFlag F.KTL_PORT_STATUS_MAINT_ONLY false p).ktl_modPort p fun x => { x with upSince := s.now }
    have hport : sameTopos s ((s.setFlag F.KTL_PORT_STATUS_MAINT_ONLY false p).modPort p fun x => { x with upSince := s.now }) :=
      ⟨(congrArg Fabric.topo hx).trans rfl, (congrArg Fabric.shadow hx).trans rfl⟩
    refine ⟨hport.trans (noticeSend_topos _ p true), ?_⟩
    exact (((memFrame.refl _ s).setFlag _ _ (.of_mem (.head _) ..)).modPort p _).noticeSend (fun y hy => List.mem_cons_of_mem _ hy) p true
  · exact ⟨⟨rfl, rfl⟩, .refl _ s⟩

theorem commitPorts_shows (s : State) (ps : List Nat) : sameTopos s (ps.foldl commitPort s) ∧ memFrame commitPortParts s (ps.foldl commitPort s) := by
  refine List.foldlRecOn (motive := fun u => sameTopos s u ∧ memFrame commitPortParts s u) ps _ ⟨⟨rfl, rfl⟩, .refl _ s⟩ fun u hu p _ => ?_
  obtain ⟨htopo, hframe⟩ := commitPort_shows u p
  exact ⟨hu.1.trans htopo, hu.2.trans hframe⟩

/-! ### The commit -/

theorem ktlCommit_shows {due : Nat} (hs : s.ktl.shadow = some (tp, due)) (hd : due ≤ s.now)
    (hm : tp.members.find? (fun m => m.uid = ownUid s) = some me) (hid : me.id < 1024) :
    (ktlCommit s).ktl.topo = tp ∧ (ktlCommit s).ktl.shadow = none ∧ ktlMember (ktlCommit s) = 3 ∧ (ktlCommit s).ownId = me.id ∧
      (ktlCommit s).flag F.KTL_ID_VALID = true ∧ (ktlCommit s).rd .KTL_RT me.id = ownRoute ∧
      (ktlCommit s).rd .KTL_TOPO_SEEN = BitVec.ofNat 32 tp.digest ∧ memFrame commitParts s (ktlCommit s) := by
  rw [ktlCommit_due hs hd hm]
  generalize tp.without _ = tp'
  obtain ⟨htopo, hshadow, hstate, hown, hvalid⟩ := commitPlaced_shows s tp due hid
  have hplaced := memFrame_commitPlaced s tp due me
  generalize commitPlaced s tp due me = s1 at *
  obtain ⟨hrt, hktl2, hframe2⟩ := commitRouted_shows s1 tp' (hown ▸ hid)
  rw [hown] at hrt
  generalize commitRouted s1 tp' = s2 at *
  obtain ⟨hseen, hktl3, hframe3⟩ := commitSeen_shows s2 tp
  generalize commitSeen s2 tp = s3 at *
  obtain ⟨htopo4, hframe4⟩ := commitCleared_shows s3 tp
  generalize commitCleared s3 tp = s4 at *
  obtain ⟨htopo5, hframe5⟩ := commitPorts_shows s4 (List.range 4)
  generalize (List.range 4).foldl commitPort s4 = s5 at *
  have htopos := htopo4.trans htopo5
  refine ⟨?_, ?_, ?_, ?_, ?_, ?_, ?_, ?_⟩
  · rw [htopos.1, hktl3, hktl2, htopo]
  · rw [htopos.2, hktl3, hktl2, hshadow]
  · rw [ktlMember, hframe5.1.fld_of_reg (by decide), hframe4.1.fld_of_reg (by decide), fld_state_of_mismatch hframe3, hframe2.1.fld_of_reg (by decide)]
    exact hstate
  · rw [State.ownId, hframe5.1.fld_of_reg (by decide), hframe4.1.fld_of_reg (by decide), hframe3.1.fld_of_reg (by decide),
      hframe2.1.fld_of_reg (by decide)]
    exact hown
  · rw [hframe5.1.flag_of_reg (by decide), hframe4.1.flag_of_reg (by decide), hframe3.1.flag_of_reg (by decide),
      hframe2.1.flag_of_reg (by decide)]
    exact hvalid
  · rw [hframe5.1.rd_eq (by decide), hframe4.1.rd_eq (by decide), hframe3.1.rd_eq (by decide)]
    exact hrt
  · rw [hframe5.1.rd_eq (by decide), hframe4.1.rd_eq (by decide)]
    exact hseen
  · have h2 := hplaced.trans (hframe2.mono fun x hx => by revert x; decide)
    have h3 := h2.trans (hframe3.widen (l' := commitParts) fun x hx => ?_)
    · exact (h3.trans (hframe4.mono (by decide))).trans (hframe5.mono (by decide))
    · simp only [List.mem_cons, List.not_mem_nil, or_false] at hx
      rcases hx with rfl | rfl
      · exact ⟨_, by decide, .refl _⟩
      · exact ⟨{ reg := .KTL_STATUS, idx := [] }, by decide, .field (by decide)⟩

end
end Sys2Proof.Machine

namespace Sys2Proof.Machine

/-! ## The members of the fabric (O40) -/

/-- Settles O40: a message first leaves the receiver; what a command then sends waits at the ports and changes nothing else; the passes over the route
entries reach each entry, and the stages of a commit keep what the stages before them set. -/
theorem fabricMembership : Obligations.FabricMembership := by
  unfold Obligations.FabricMembership
  refine ⟨fun s hroot ha hid => ?_, fun s p hops ha hm => ?_, fun s p rs hroot => ?_, fun s p tp ha hne hsh hb => ?_, fun s tp due me hs hd hm hid => ?_,
    fun s hm => ?_, fun s p uid q hroot hp hup => ?_, fun s p uid r hroot hfree => ?_, fun s p h => ?_, fun s p hc hw => ?_, fun s dev => ?_,
    fun s p k hin hd hk => ?_, fun s p k hin hd hk httl hport => ?_⟩
  · exact ⟨_, congrArg Host.Outcome.next (discover_of_root hroot ha hid), discover_shows s⟩
  · have htaken := maintTaken_only s p (.disc hops)
    have hrun : exec (.discRx p hops) s = .next (discTake (maintTaken s p (.disc hops)) p hops) := rfl
    rw [discTake_idle (p := p) (s := maintTaken s p (.disc hops)) ha hm] at hrun
    obtain ⟨hmember, hhops, hflag, hparent, hframe⟩ := discTake_shows (maintTaken s p (.disc hops)) p (h := min (hops + 1) 255) (Nat.min_le_right ..)
      (((PortsOnly.refl _).maintFlood _ _).maintSend p _)
    exact ⟨_, hrun, hmember, hhops, hflag, hparent, htaken.frame.trans hframe⟩
  · have htaken := maintTaken_reports s p rs
    have hroot' := (htaken.keep (·.flag F.KTL_STATUS_ROOT) fun _ => rfl).trans hroot
    refine ⟨_, congrArg Host.Outcome.next (reportTake_of_root hroot' rs), ?_, htaken.frame.modKtl _⟩
    rw [ktl_modKtl]
    exact congrArg (fun l => l.filter (fun r => !rs.any (fun x => decide (x.uid = r.uid))) ++ rs) (htaken.keep (·.ktl.reports) fun _ => rfl)
  · obtain ⟨hshadow, htopo, hframe⟩ := topoTake_shows (s := maintTaken s p (.topo tp)) (p := p) ha hne hsh hb
    exact ⟨_, rfl, hshadow, htopo, (maintTaken_only s p _).frame.trans hframe⟩
  · obtain ⟨htopo, hshadow, hmember, hown, hvalid, hrt, hseen, hframe⟩ := ktlCommit_shows hs hd hm hid
    refine ⟨_, rfl, htopo, hshadow, hmember, hown, hvalid, ?_, ?_, hseen, hframe⟩
    · rw [State.fld]
      exact (congrArg (fun w : Word => bitsAt w.toNat F.KTL_RT_VPRI.lo F.KTL_RT_VPRI.width) hrt).trans (by decide)
    · rw [State.fld]
      exact (congrArg (fun w : Word => bitsAt w.toNat F.KTL_RT_PPRI.lo F.KTL_RT_PPRI.width) hrt).trans (by decide)
  · exact ⟨_, rfl, joinAsk_shows hm⟩
  · refine ⟨_, congrArg Host.Outcome.next (joinTake_relayed (p := p) (s := maintTaken s p (.join uid.toNat none)) hroot hp hup uid.toNat none), ?_,
      (maintTaken_only s p _).frame.modPort ..⟩
    rw [State.port_modPort]
    rfl
  · obtain ⟨hshadow, htopo, hframe⟩ := joinTake_free_shows (p := p) (s := maintTaken s p (.join uid.toNat (some r.toNat))) (uid := uid.toNat) hroot hfree
    exact ⟨_, rfl, hshadow, htopo, (maintTaken_only s p _).frame.trans hframe⟩
  · exact ⟨_, rfl, routeFailover_shows h⟩
  · exact ⟨_, rfl, routeRestore_shows hc hw⟩
  · exact ⟨_, rfl, unreachDeclare_shows s dev.toNat⟩
  · exact ⟨_, congrArg Host.Outcome.next (fabricPacket_completion hin hd hk), rfl, ((memFrame.refl [] s).modKtl _).modKtl _⟩
  · exact ⟨_, congrArg Host.Outcome.next (fabricPacket_forward hin hd hk httl hport), rfl, ((memFrame.refl [] s).modKtl _).modKtl _⟩

end Sys2Proof.Machine
